-- ==== Sys2Proof/Word.lean ====
section
/-! DEFINITION. The words of the device: the byte in which streams, packets and memories are counted, and the 32-bit word of
BAR0 (R11). Everything else about bits stands in Machine/Bits.lean. -/

namespace Sys2Proof

/-- One byte of a stream, a packet or a memory. -/
abbrev Byte := BitVec 8

/-- One 32-bit register word of BAR0 (R11). -/
abbrev Word := BitVec 32

end Sys2Proof
end

