-- ==== Sys2Proof/Syntax.lean ====
section
/-! DEFINITION. The commands of the block: one constructor per row of spec/opcode_table.json, in the table's order. The table gives
the rows no bits, so the operands are the model's: the instance a command addresses, the bytes or the register value it carries,
what the device reads from outside when it happens, and `t`, the instant in ns at which it happens: the nanosecond count (R306), but for
what the count has stood still or begun anew since the model's time 0. -/

namespace Sys2Proof

/-- A read of BAR0: its byte address and its size in bytes (R11). -/
structure RegRead where
  addr : Nat
  size : Nat
  deriving DecidableEq, Repr

/-- What a tick meets outside: the lanes whose mirrored header differs (R94), and whether the journal MRAM takes the writes of the
commands executed (R224). -/
structure TickIn where
  headerBad : List (Fin 96)
  mramOk : Bool
  deriving DecidableEq, Repr

/-- The chain of a call, and whether its mirrored header differs (R94). -/
structure CallIn where
  chain : Fin 48
  headerBad : Bool
  deriving DecidableEq, Repr

/-- The background units that have work (task, estimated power in mW, the time each takes in ns, whether its target answers), and the time
that mandatory work leaves of the frame in ns (R61). -/
structure BgOffer where
  units : List (Fin 5 × Nat × Nat × Bool)
  capacity : Nat
  deriving DecidableEq, Repr

/-- A control entry of the tracker: target, class, and when it was opened (R49). -/
structure CtrlRef where
  target : Fin 2
  cls : Fin 7
  opened : Nat
  deriving DecidableEq, Repr

/-- The payload of a PAIR packet, and whether the journal MRAM takes the write of its record (R217, R224). -/
structure PairIn where
  payload : List Byte
  mramOk : Bool
  deriving DecidableEq, Repr

/-- How a record's write ended: whether both copies were written, and the MRAM's (R220, R224). -/
structure RecordIn where
  written : Bool
  ok : Bool
  deriving DecidableEq, Repr

/-- The random number for a new epoch, and whether the journal MRAM takes its header (R223, R224). -/
structure EpochIn where
  random : Nat
  mramOk : Bool
  deriving DecidableEq, Repr

/-- A drive unit and the levels of its trip inputs at the command (the coding stands in Machine/Drive.lean). -/
structure DrvIn where
  unit : Fin 4
  inputs : Nat
  deriving DecidableEq, Repr

/-- An edge on PPS_IN: its polarity and its instant. -/
structure PpsIn where
  rising : Bool
  t : Nat
  deriving DecidableEq, Repr

/-- The commands. Each docstring names the rule of spec/ that the row cites. -/
inductive Instr where
  /-- REGISTER_WRITE (R15). -/
  | registerWrite (addr : Nat) (size : Nat) (value : Nat) (t : Nat)
  /-- SPLIT64_LOW_READ (R12). -/
  | split64LowRead (read : RegRead) (t : Nat)
  /-- EVENT_REGISTER_WRITE (R344). -/
  | eventRegisterWrite (addr : Nat) (value : Nat)
  /-- SUPPLY_POR (R372). -/
  | supplyPor (t : Nat) (porN : Bool)
  /-- POR_RELEASE (R65). -/
  | porRelease (t : Nat) (refsel : Fin 4) (mram : Option (List Byte)) (random : Nat)
  /-- RESET_N_ASSERT (R370). -/
  | resetNAssert (t : Nat) (endOfFrame : Fin 16)
  /-- RESET_N_RELEASE (R370). -/
  | resetNRelease (t : Nat)
  /-- SOFT_RESET (R371). -/
  | softReset (value : Nat) (t : Nat) (endOfFrame : Fin 16)
  /-- RAIL_PGOOD (R389). -/
  | railPgood (monitor : Fin 24) (t : Nat)
  /-- WAKE_TIMEOUT (R389). -/
  | wakeTimeout (kind : Fin 4) (item : Nat) (t : Nat)
  /-- PLL_LOCK (R380). -/
  | pllLock (pll : Fin 4) (t : Nat)
  /-- PLL_LOCK_LOSS (R383). -/
  | pllLockLoss (pll : Fin 4) (t : Nat)
  /-- DEV_RESET_RELEASE (R65). -/
  | devResetRelease (t : Nat) (bootSrc : Fin 4)
  /-- DRAM_INIT_DONE (R65). -/
  | dramInitDone (ok : Bool) (t : Nat)
  /-- IMAGE_FETCH_DONE (R78). -/
  | imageFetchDone (sfdpOk : Bool) (densityMb : Nat) (image : List Byte) (t : Nat)
  /-- FLASH_TIMEOUT (R80). -/
  | flashTimeout (t : Nat)
  /-- IMAGE_AUTHENTICATE (R78). -/
  | imageAuthenticate (t : Nat)
  /-- SECTION_CHECKS (R73). -/
  | sectionChecks (t : Nat)
  /-- IMAGE_COMMIT (R67). -/
  | imageCommit (failed : List (Fin 128)) (writeOk : Bool) (sin : Nat) (t : Nat)
  /-- LANE_UP_TIMEOUT (R71). -/
  | laneUpTimeout (t : Nat)
  /-- KICKOFF_GRANT (R65). -/
  | kickoffGrant (t : Nat)
  /-- IMAGE_LOAD (R70). -/
  | imageLoad (src : Fin 4) (t : Nat)
  /-- IMAGE_ABORT (R80). -/
  | imageAbort (t : Nat)
  /-- EPOCH_BURN (R79). -/
  | epochBurn (t : Nat)
  /-- KEY_PROGRAM (R79). -/
  | keyProgram (slot : Fin 4) (unlock : Nat) (t : Nat)
  /-- KEY_REVOKE (R79). -/
  | keyRevoke (slot : Fin 4) (unlock : Nat) (t : Nat)
  /-- FUSE_OP_DONE (R79). -/
  | fuseOpDone (ok : Bool) (t : Nat)
  /-- BAR2_WRITE (R340). -/
  | bar2Write (offset : Nat) (bytes : List Byte) (t : Nat)
  /-- SUBST_REQUEST (R83). -/
  | substRequest (value : Nat) (t : Nat)
  /-- SLICE_ERROR (R83). -/
  | sliceError (slice : Fin 128) (t : Nat)
  /-- SUBST_IN_SERVICE (R84). -/
  | substInService (copyOk : Bool) (t : Nat)
  /-- SPARE_SELFTEST_FAIL (R86). -/
  | spareSelftestFail (slice : Fin 128) (t : Nat)
  /-- FRAME_TICK (R40). -/
  | frameTick (t : Nat) (met : TickIn)
  /-- AUTO_REDEBLOCK (R196). -/
  | autoRedeblock (conv : Fin 12) (t : Nat)
  /-- T_SAMPLE (R240). -/
  | tSample (t : Nat)
  /-- ADC_BURST_START (R231). -/
  | adcBurstStart (adc : Fin 8) (t : Nat)
  /-- ADC_RESULT (R233). -/
  | adcResult (adc : Fin 8) (entry : Fin 32) (nanovolt : Int) (t : Nat)
  /-- ADC_RESULT_READ (R233). -/
  | adcResultRead (adc : Fin 8) (entry : Fin 32)
  /-- DS_OUTPUT (R238). -/
  | dsOutput (unit : Fin 4) (channel : Fin 4) (bits : List Bool) (t : Nat)
  /-- UPLINK_SLOT (R47). -/
  | uplinkSlot (lane : Fin 96) (ns : Nat) (bytes : List Byte)
  /-- UPLINK_TRAIN_CRC (R98). -/
  | uplinkTrainCrc (lane : Fin 96) (bytes : List Byte) (crc : Nat)
  /-- CALLUP_REPLY (R107). -/
  | callupReply (lane : Fin 96) (roundTrip : Nat) (bytes : List Byte) (t : Nat)
  /-- CALLUP_LOOP (R107). -/
  | callupLoop (lane : Fin 96) (loop : Nat) (hop : Nat) (t : Nat)
  /-- CALLUP_LAUNCH (R109). -/
  | callupLaunch (call : CallIn) (t : Nat)
  /-- LANE_SYNC_ACQUIRE (R89). -/
  | laneSyncAcquire (lane : Fin 96) (t : Nat)
  /-- LANE_SYNC_LOSS (R89). -/
  | laneSyncLoss (lane : Fin 96) (t : Nat)
  /-- T_FREEZE (R50). -/
  | tFreeze (t : Nat)
  /-- AUTO_RESTORE (R113). -/
  | autoRestore (chain : Fin 48) (t : Nat)
  /-- LANE_RESTORE (R113). -/
  | laneRestore (lane : Fin 96)
  /-- LANE_CALLUP (R109). -/
  | laneCallup (lane : Fin 96)
  /-- LANE_FORCE_IDLE (R110). -/
  | laneForceIdle (lane : Fin 96) (idle : Bool) (t : Nat)
  /-- ENGINE_GRAPH_COMPLETE (R150). -/
  | engineGraphComplete (engine : Fin 16) (cycles : Nat)
  /-- T_COMPUTE_END (R132). -/
  | tComputeEnd (t : Nat) (shadowDiff : Bool)
  /-- T_RANK_END (R199). -/
  | tRankEnd (t : Nat) (armCycles : List Nat) (late : List (Fin 12)) (refIn : Bool) (powerMw : Nat)
  /-- PLANNER_STEP_DOWN (R59). -/
  | plannerStepDown (t : Nat)
  /-- OVERRUN_HOLD_END (R56). -/
  | overrunHoldEnd (t : Nat)
  /-- BACKGROUND_DISPATCH (R61). -/
  | backgroundDispatch (offer : BgOffer) (t : Nat)
  /-- THERMAL_SHED_STEP (R64). -/
  | thermalShedStep (t : Nat)
  /-- TRK_ENTRY_TIMEOUT (R49). -/
  | trkEntryTimeout (entry : CtrlRef) (t : Nat)
  /-- LEASE_EXPIRY (R199). -/
  | leaseExpiry (t : Nat)
  /-- HEARTBEAT_LOSS (R206). -/
  | heartbeatLoss (plane : Fin 2) (t : Nat)
  /-- PLANE_ECC_ERROR (R201). -/
  | planeEccError (plane : Fin 2) (position : Fin 8) (t : Nat)
  /-- PLANE_PGOOD_LOSS (R201). -/
  | planePgoodLoss (plane : Fin 2) (t : Nat)
  /-- PLANE_ERROR_LINE (R201). -/
  | planeErrorLine (plane : Fin 2) (t : Nat)
  /-- FORCE_TAKEOVER (R201). -/
  | forceTakeover (t : Nat)
  /-- TAKEOVER_GRANT (R207). -/
  | takeoverGrant (t : Nat)
  /-- HALFTIME_NOW (R200). -/
  | halftimeNow (t : Nat)
  /-- HALFTIME_HANDOVER (R215). -/
  | halftimeHandover (t : Nat)
  /-- REVIVE (R208). -/
  | revive (t : Nat)
  /-- REVIVE_COMPLETE (R208). -/
  | reviveComplete (t : Nat)
  /-- REFEREE_MISMATCH (R206). -/
  | refereeMismatch (t : Nat)
  /-- PAIR_PACKET (R217). -/
  | pairPacket (port : Fin 4) (src : Nat) (packet : PairIn) (t : Nat)
  /-- PAIR_SILENCE (R216). -/
  | pairSilence (t : Nat)
  /-- HOST_COMMAND_TAKE (R346). -/
  | hostCommandTake (entry : List Byte) (t : Nat)
  /-- JOURNAL_RECORD_COMMITTED (R220). -/
  | journalRecordCommitted (write : RecordIn) (t : Nat)
  /-- JRN_CPL_HEAD_WRITE (R347). -/
  | jrnCplHeadWrite (value : Nat)
  /-- RING_RESTART (R345). -/
  | ringRestart (completion : Bool) (value : Nat)
  /-- RING_PCIE_ERROR (R348). -/
  | ringPcieError (t : Nat)
  /-- JRN_MRAM_ENABLE (R224). -/
  | jrnMramEnable (value : Nat) (readBack : Bool) (t : Nat)
  /-- JRN_MRAM_DISABLE (R224). -/
  | jrnMramDisable (value : Nat) (readBack : Bool) (t : Nat)
  /-- NEW_EPOCH (R223). -/
  | newEpoch (value : Nat) (source : EpochIn) (t : Nat)
  /-- JRN_HALF_REBUILT (R225). -/
  | jrnHalfRebuilt (half : Fin 2)
  /-- SET_FRAME_PERIOD (R39). -/
  | setFramePeriod (period : Nat)
  /-- CELL_ADMIT (R119). -/
  | cellAdmit (cell : Nat) (identity : Nat)
  /-- CELL_BYPASS (R119). -/
  | cellBypass (cell : Nat)
  /-- CELL_FAULT_CLEAR (R119). -/
  | cellFaultClear (cell : Nat)
  /-- COEFF_WRITE (R175). -/
  | coeffWrite (args : List Byte)
  /-- BANK_SWAP (R175). -/
  | bankSwap (bank : Nat)
  /-- PARAM_WRITE (R175). -/
  | paramWrite (args : List Byte)
  /-- CONV_DEBLOCK (R189). -/
  | convDeblock (conv : Nat)
  /-- CONV_BLOCK (R191). -/
  | convBlock (conv : Nat)
  /-- CAN_QUEUE (R331). -/
  | canQueue (args : List Byte) (source : Nat) (seq : Nat)
  /-- CAN_FLUSH (R331). -/
  | canFlush (can : Nat) (buffer : Nat)
  /-- COAST_LIMIT (R194). -/
  | coastLimit (conv : Fin 12) (t : Nat)
  /-- RESYNC_TIMEOUT (R196). -/
  | resyncTimeout (conv : Fin 12) (t : Nat)
  /-- SAFE_INPUT_CHANGE (R290). -/
  | safeInputChange (unit : Fin 2) (input : Fin 16) (level : Bool) (t : Nat)
  /-- SAFE_FILTER_SETTLE (R290). -/
  | safeFilterSettle (unit : Fin 2) (input : Fin 16) (t : Nat)
  /-- SAFE_UNSETTLED (R290). -/
  | safeUnsettled (unit : Fin 2) (input : Fin 16) (t : Nat)
  /-- SAFE_DISCREPANCY (R292). -/
  | safeDiscrepancy (unit : Fin 2) (pair : Fin 8) (t : Nat)
  /-- TPO_PULSE (R289). -/
  | tpoPulse (tpo : Fin 4) (start : Bool) (readA : Bool) (readB : Bool) (t : Nat)
  /-- TPO_CHECK (R291). -/
  | tpoCheck (tpo : Fin 4) (levels : Nat) (t : Nat)
  /-- SAFE_STOP_TIMER (R294). -/
  | safeStopTimer (unit : Fin 2) (group : Fin 8) (t : Nat)
  /-- SAFE_DRIVE_ENVELOPE (R296). -/
  | safeDriveEnvelope (t : Nat)
  /-- SAFE_CROSS_EXCHANGE (R302). -/
  | safeCrossExchange (arrivesA : Bool) (arrivesB : Bool) (t : Nat)
  /-- SAFE_LINK_SILENCE (R302). -/
  | safeLinkSilence (unit : Fin 2) (t : Nat)
  /-- SAFE_SELFTEST_FAIL (R302). -/
  | safeSelftestFail (unit : Fin 2) (t : Nat)
  /-- SAFE_RESET_ARM (R299). -/
  | safeResetArm (value : Nat) (t : Nat)
  /-- SAFE_ARM_EXPIRY (R300). -/
  | safeArmExpiry (t : Nat)
  /-- SAFE_RESET_FALL (R300). -/
  | safeResetFall (t : Nat)
  /-- SAFE_RESET_RISE (R300). -/
  | safeResetRise (t : Nat)
  /-- SAFE_RESET_STUCK (R300). -/
  | safeResetStuck (t : Nat)
  /-- DRV_LOADALL (R264). -/
  | drvLoadall (value : Nat) (t : Nat)
  /-- DRV_SYNC (R266). -/
  | drvSync (value : Nat)
  /-- DRV_LATCH_CLEAR (R258). -/
  | drvLatchClear (drv : DrvIn) (value : Nat) (t : Nat)
  /-- DRV_CLEAR_COUNTS (R13). -/
  | drvClearCounts (unit : Fin 4)
  /-- CARRIER_VALLEY (R261). -/
  | carrierValley (drv : DrvIn) (est : Int) (conf : Nat) (theta : Nat) (slow : Bool) (emf : Int × Int) (t : Nat)
  /-- CHOPPER_BOUNDARY (R262). -/
  | chopperBoundary (drv : DrvIn) (t : Nat)
  /-- DESAT_TRIP (R251). -/
  | desatTrip (drv : DrvIn) (leg : Fin 4) (high : Bool) (t : Nat)
  /-- INSTANT_TRIP (R252). -/
  | instantTrip (drv : DrvIn) (leg : Fin 3) (t : Nat)
  /-- VDRV_UVLO (R253). -/
  | vdrvUvlo (unit : Fin 4) (t : Nat)
  /-- VDRV_RECOVER (R253). -/
  | vdrvRecover (unit : Fin 4) (t : Nat)
  /-- VB_UNDERVOLTAGE (R253). -/
  | vbUndervoltage (unit : Fin 4) (leg : Fin 4) (t : Nat)
  /-- GATE_INTERLOCK (R248). -/
  | gateInterlock (unit : Fin 4) (leg : Fin 4) (t : Nat)
  /-- DRIVE_OT_SHUTDOWN (R254). -/
  | driveOtShutdown (unit : Fin 4) (t : Nat)
  /-- DRIVE_OT_RELEASE (R393). -/
  | driveOtRelease (unit : Fin 4) (t : Nat)
  /-- BARRIER_LINK_LOST (R18). -/
  | barrierLinkLost (unit : Fin 4) (t : Nat)
  /-- BARRIER_LINK_RECOVER (R18). -/
  | barrierLinkRecover (unit : Fin 4) (inputs : Nat) (t : Nat)
  /-- DRIVE_ENABLE_CHANGE (R287). -/
  | driveEnableChange (unit : Fin 4) (active : Bool) (t : Nat)
  /-- MOT_CHOP_RESET (R281). -/
  | motChopReset (unit : Fin 4)
  /-- CHOP_CHECK (R281). -/
  | chopCheck (unit : Fin 4) (t : Nat)
  /-- START_FAIL (R279). -/
  | startFail (unit : Fin 4) (t : Nat)
  /-- CATCH_TIMEOUT (R283). -/
  | catchTimeout (unit : Fin 4) (t : Nat)
  /-- CATCH_SLOW (R283). -/
  | catchSlow (unit : Fin 4) (t : Nat)
  /-- SHORT_END (R280). -/
  | shortEnd (unit : Fin 4) (t : Nat)
  /-- STOPSEQ_COAST_END (R278). -/
  | stopseqCoastEnd (unit : Fin 4) (t : Nat)
  /-- SPD_EDGE (R274). -/
  | spdEdge (unit : Fin 4) (high : Bool) (t : Nat)
  /-- SPEED_SIGNAL_LOST (R274). -/
  | speedSignalLost (unit : Fin 4) (t : Nat)
  /-- ADC_COMMIT (R235). -/
  | adcCommit (t : Nat)
  /-- ADC_REF_ENABLE (R228). -/
  | adcRefEnable (t : Nat)
  /-- ADC_REF_READY (R228). -/
  | adcRefReady (t : Nat)
  /-- HK_ROUND_START (R241). -/
  | hkRoundStart (t : Nat)
  /-- HK_ROUND_DONE (R241). -/
  | hkRoundDone (readings : List (Nat × Bool × Bool)) (t : Nat)
  /-- KEEP_COUNTER_COPY (R308). -/
  | keepCounterCopy (t : Nat)
  /-- TIME_SET (R309). -/
  | timeSet (t : Nat)
  /-- TIME_STEP (R309). -/
  | timeStep (t : Nat)
  /-- TIME_SLEW_GO (R309). -/
  | timeSlewGo (t : Nat)
  /-- TIME_SLEW_DONE (R309). -/
  | timeSlewDone (t : Nat)
  /-- TIME_SYNC_SET (R311). -/
  | timeSyncSet (t : Nat)
  /-- TIME_SYNC_CLR (R311). -/
  | timeSyncClr (t : Nat)
  /-- TIME_SERVO_CHANGE (R311). -/
  | timeServoChange (pps : Bool) (t : Nat)
  /-- TIME_ADDEND_WRITE (R309). -/
  | timeAddendWrite (value : Nat) (t : Nat)
  /-- PPS_EDGE (R313). -/
  | ppsEdge (edge : PpsIn)
  /-- PPS_LOST (R313). -/
  | ppsLost (t : Nat)
  /-- ETH_RX_FRAME (R316). -/
  | ethRxFrame (port : Fin 2) (frame : List Byte) (fcsOk : Bool) (bufAddr : Nat) (t : Nat)
  /-- ETH_TX_DESCRIPTOR (R321). -/
  | ethTxDescriptor (port : Fin 2) (desc : List Byte) (frame : List Byte) (t : Nat)
  /-- ETH_TXTS_READ (R320). -/
  | ethTxtsRead (port : Fin 2)
  /-- ETH_RING_RESTART (R321). -/
  | ethRingRestart (port : Fin 2) (receive : Bool) (value : Nat)
  /-- ETH_DMA_ERROR (R321). -/
  | ethDmaError (port : Fin 2) (receive : Bool) (t : Nat)
  /-- ETH_LINK_CHANGE (R316). -/
  | ethLinkChange (port : Fin 2) (up : Bool) (speed : Fin 3) (anDone : Bool) (t : Nat)
  /-- CAN_SLOT_START (R330). -/
  | canSlotStart (can : Fin 4) (column : Fin 64) (t : Nat)
  /-- CAN_SLOT_END (R334). -/
  | canSlotEnd (can : Fin 4) (column : Fin 64) (onBus : Bool) (t : Nat)
  /-- CAN_TX_COMPLETE (R333). -/
  | canTxComplete (can : Fin 4) (sofFrame : Nat) (sofNs : Nat) (t : Nat)
  /-- CAN_TX_ATTEMPT_FAIL (R330). -/
  | canTxAttemptFail (can : Fin 4) (arbitration : Bool) (penalty : Nat) (t : Nat)
  /-- CAN_RECOVER (R336). -/
  | canRecover (can : Fin 4) (t : Nat)
  /-- CAN_RECOVERY_DONE (R336). -/
  | canRecoveryDone (can : Fin 4) (t : Nat)
  /-- CAN_RX_MESSAGE (R338). -/
  | canRxMessage (can : Fin 4) (id : Nat) (flags : Nat) (dlc : Fin 16) (data : List Byte) (sofFrame : Nat) (sofNs : Nat) (t : Nat)
  /-- CAN_RX_ACK (R338). -/
  | canRxAck (can : Fin 4) (index : Nat)
  /-- CAN_TXE_READ (R335). -/
  | canTxeRead (can : Fin 4)
  /-- BB_PORT_UP (R349). -/
  | bbPortUp (port : Fin 4) (skew : Nat) (t : Nat)
  /-- BB_PORT_DOWN (R349). -/
  | bbPortDown (port : Fin 4) (clock : Bool) (t : Nat)
  /-- BB_IDLE_ENTRY (R350). -/
  | bbIdleEntry (port : Fin 4) (t : Nat)
  /-- HELLO_SEND (R352). -/
  | helloSend (port : Fin 4) (t : Nat)
  /-- HELLO (R353). -/
  | hello (port : Fin 4) (src : Nat) (payload : List Byte) (t : Nat)
  /-- BB_PARTNER_LOST (R353). -/
  | bbPartnerLost (source : Fin 16) (t : Nat)
  /-- JRN_CMD (R354). -/
  | jrnCmd (port : Fin 4) (src : Nat) (payload : List Byte) (t : Nat)
  /-- HOST_RD (R354). -/
  | hostRd (port : Fin 4) (src : Nat) (payload : List Byte) (t : Nat)
  /-- HOST_WR (R354). -/
  | hostWr (port : Fin 4) (src : Nat) (payload : List Byte) (t : Nat)
  /-- IMAGE_PACKET (R356). -/
  | imagePacket (port : Fin 4) (src : Nat) (payload : List Byte) (t : Nat)
  /-- BB_PACKET_DISCARD (R351). -/
  | bbPacketDiscard (port : Fin 4) (crc : Bool)
  /-- COLLECTOR_EVENT (R361). -/
  | collectorEvent (t : Nat)
  /-- QUIET_TIMEOUT (R365). -/
  | quietTimeout (t : Nat)
  /-- FAULT_CLEAR_COUNTS (R361). -/
  | faultClearCounts
  /-- FAULT_CLEAR_HIST (R362). -/
  | faultClearHist
  /-- FIRST_FATAL_CLEAR (R364). -/
  | firstFatalClear
  /-- FAULT_HIST_READ (R362). -/
  | faultHistRead (entry : Fin 16)
  /-- TIME_PTP_READ (R306). -/
  | timePtpRead (t : Nat)
  /-- ALIVE_TOGGLE (R369). -/
  | aliveToggle (t : Nat)
  /-- XBAR_WAIT_CLEAR (R13). -/
  | xbarWaitClear
  /-- FRAME_CLEAR_OVERRUN (R13). -/
  | frameClearOverrun
  /-- FRAME_CLEAR_STALE (R13). -/
  | frameClearStale
  /-- FRAME_CLEAR_TRACKER (R13). -/
  | frameClearTracker
  /-- FRAME_CLEAR_GAPS (R13). -/
  | frameClearGaps
  /-- LANE_CLEAR_COUNTS (R13). -/
  | laneClearCounts (lane : Fin 96)
  /-- ARM_CLEAR_COUNTS (R13). -/
  | armClearCounts (slice : Fin 128)
  /-- ENG_CLEAR_CYCLES (R13). -/
  | engClearCycles (engine : Fin 16)
  /-- ENG_CLEAR_ECC (R13). -/
  | engClearEcc (engine : Fin 16)
  /-- MEMORY_ECC_ERROR (R28). -/
  | memoryEccError (region : Fin 8) (item : Nat) (uncorrectable : Bool) (random : Nat) (t : Nat)
  /-- DRAM_FAILURE (R24). -/
  | dramFailure (t : Nat)
  /-- VIN_SAMPLE (R374). -/
  | vinSample (mv : Nat) (t : Nat)
  /-- VIN_LOSS (R372). -/
  | vinLoss (t : Nat)
  /-- KEEP_ONLY_EXIT (R377). -/
  | keepOnlyExit (t : Nat)
  /-- THERMAL_LATCH_CLEAR (R392). -/
  | thermalLatchClear (t : Nat)
  /-- POWER_DORMANT (R390). -/
  | powerDormant (value : Nat) (t : Nat)
  /-- POWER_WAKE (R388). -/
  | powerWake (t : Nat)
  /-- WAKE_N_EVENT (R388). -/
  | wakeNEvent (low : Bool) (late : Bool) (t : Nat)
  /-- ANALOG_OFF (R387). -/
  | analogOff (off : Bool) (t : Nat)
  /-- BB_PHY_OFF (R387). -/
  | bbPhyOff (off : Bool) (t : Nat)
  /-- POWER_HANDSHAKE_POLL (R387). -/
  | powerHandshakePoll (busy : Nat) (t : Nat)
  /-- POWER_ENTRY_TIMEOUT (R387). -/
  | powerEntryTimeout (busy : Nat) (t : Nat)
  /-- POWER_CLEAR_VIN_MIN (R13). -/
  | powerClearVinMin
  /-- CLOCK_GO (R381). -/
  | clockGo (t : Nat)
  /-- CLOCK_TRIM_FINE (R382). -/
  | clockTrimFine (pll : Fin 4) (value : Nat) (t : Nat)
  /-- PWM_COMMAND_EDGE (R261). -/
  | pwmCommandEdge (unit : Fin 4) (leg : Fin 4) (high : Bool) (inputs : Nat) (t : Nat)
  /-- CHECKPOINT_LOAD_DONE (R207). -/
  | checkpointLoadDone (released : Nat) (checked : Nat) (eccBad : Bool) (t : Nat)
  /-- CAN_RX_ERROR (R324). -/
  | canRxError (can : Fin 4) (amount : Nat) (t : Nat)
  /-- SAFE_RESET_STUCK_END (R300). -/
  | safeResetStuckEnd (t : Nat)
  /-- TPO_READBACK_FAULT (R289). -/
  | tpoReadbackFault (unit : Fin 2) (tpo : Fin 4) (t : Nat)
  /-- DRIVE_BAND_CHANGE (R246). -/
  | driveBandChange (unit : Fin 4) (celsius8 : Nat) (valid : Bool) (t : Nat)
  /-- PCIE_LINK_CHANGE (R340). -/
  | pcieLinkChange (up : Bool) (msixEnable : Bool) (funcMask : Bool) (t : Nat)
  deriving DecidableEq, Repr

end Sys2Proof
end

