-- ==== Sys2Proof/Decode.lean ====
section
/-! DEFINITION. The decoder over the rows of spec/opcode_table.json that give bits: the table gives no row any bit ("fixed" and
"fields" are absent in every row), so no word spells a command. The packets and ring entries that carry commands are read by the
meanings that take them (Machine/Journal.lean, Machine/Backbone.lean). -/

namespace Sys2Proof

/-- The command a word of the table spells: none, since no row gives bits. -/
def decodeTableWord (_nbits _w : Nat) : Option Instr := none

end Sys2Proof
end

