-- ==== Sys2Proof/Machine/Store.lean ====
section
/-! DEFINITION. The sparse store all numbered state is kept in, and the shape of a register field.
A store is a list of (number, value) pairs, numbers strictly rising, and no value equal to what an unlisted number reads as:
equal stores are therefore equal lists. -/

namespace Sys2Proof.Machine

/-- A store of values by number: rising numbers, no entry equal to the value an unlisted number reads as. -/
abbrev Tbl (α : Type) := List (Nat × α)

/-- What the store `t` holds at `i`, where an unlisted number reads as `d`. -/
def Tbl.look {α : Type} (d : α) : Tbl α → Nat → α
  | [], _ => d
  | (k, v) :: t, i => if k = i then v else Tbl.look d t i

/-- The store with no entry at `i`. -/
def Tbl.drop {α : Type} : Tbl α → Nat → Tbl α
  | [], _ => []
  | (k, v) :: t, i => if k = i then Tbl.drop t i else (k, v) :: Tbl.drop t i

/-- The store with an entry at `i` before the first higher number. -/
def Tbl.place {α : Type} : Tbl α → Nat → α → Tbl α
  | [], i, v => [(i, v)]
  | (k, w) :: t, i, v => if i < k then (i, v) :: (k, w) :: t else (k, w) :: Tbl.place t i v

/-- The store with `v` at `i`: no entry where `v` is what an unlisted number reads as. -/
def Tbl.put {α : Type} [DecidableEq α] (d : α) (t : Tbl α) (i : Nat) (v : α) : Tbl α :=
  if v = d then t.drop i else (t.drop i).place i v

/-- The store's canonical form: numbers strictly rising from `lo` on, and no entry equal to `d`. -/
def Tbl.wfFrom {α : Type} [DecidableEq α] (d : α) : Nat → Tbl α → Bool
  | _, [] => true
  | lo, (k, v) :: t => decide (lo ≤ k) && decide (v ≠ d) && Tbl.wfFrom d (k + 1) t

/-- The store's canonical form. -/
def Tbl.wf {α : Type} [DecidableEq α] (d : α) (t : Tbl α) : Bool := Tbl.wfFrom d 0 t

/-- Access codes of the register tables (Table 00-6). -/
inductive Access where
  | rw | ro | wo | w1c | w1s | rwk
  deriving DecidableEq, Repr, Inhabited

/-- Which reset restores a field (R14): POR only, DEV and POR, or none (fixed in silicon). -/
inductive Dom where
  | dev | por | fixed
  deriving DecidableEq, Repr, Inhabited

/-- A register field as its table gives it: byte address of instance (0, 0), the two strides and counts of a repeated
register, lowest bit, width, access code, reset value (rising by `rstStep` per instance), and the reset that restores it. -/
structure Field where
  addr : Nat
  s1 : Nat
  n1 : Nat
  s2 : Nat
  n2 : Nat
  lo : Nat
  width : Nat
  acc : Access
  rst : Nat
  rstStep : Nat
  dom : Dom
  deriving DecidableEq, Repr, Inhabited

/-- The byte address of instance (i, j) of the field's register. -/
def Field.at (f : Field) (i j : Nat) : Nat := f.addr + f.s1 * i + f.s2 * j

/-- The number under which the value of instance (i, j) is stored: 32 numbers a register word, the field's lowest bit. -/
def Field.key (f : Field) (i j : Nat) : Nat := f.at i j * 8 + f.lo

/-- Whether the register has an instance (i, j). -/
def Field.has (f : Field) (i j : Nat) : Bool := decide (i < f.n1) && decide (j < f.n2)

/-- The reset value of instance i of the field. -/
def Field.reset (f : Field) (i : Nat) : Nat := f.rst + f.rstStep * i

end Sys2Proof.Machine
end

