-- ==== Sys2Proof/Machine/State.lean ====
section
/-! DEFINITION. The state of the device as plain data: what the chapters of spec/ name, one structure per block, and the queue of
waiting commands. Register fields stand in the two stores `regs` (restored by a DEV reset) and `keep` (restored by POR only, R14)
under the numbers of Machine/Regs.lean; what is no register stands in the structures below. -/

namespace Sys2Proof.Machine

/-- Why a command stops the machine. No rule of the spec stops this device: no meaning raises a fault. -/
inductive Fault where
  /-- Raised by nobody: kept so that the type is inhabited. Safe: a model that never faults on its own account. -/
  | none
  deriving DecidableEq, Repr

/-- Why a command gets no meaning. -/
inductive Refusal where
  /-- Raised by an arm of `exec` whose command has no meaning yet. Safe: the model stops where the device goes on. -/
  | notModelled (mnemonic : String)
  deriving DecidableEq, Repr

/-- The two variants (R1, R4). -/
inductive Variant where
  | cx1536 | cx0768
  deriving DecidableEq, Repr, Inhabited

/-- What is fixed in silicon (R4, HOST_DEVICE_ID): no command changes it. -/
structure Silicon where
  variant : Variant
  stepLetter : Nat
  stepNumber : Nat
  deviceId : Nat
  deriving DecidableEq, Repr, Inhabited

/-- One key slot of the fuses (R79): programmed with a 384-bit hash, and revoked or not. -/
structure KeySlot where
  hash : Option Nat
  revoked : Bool
  deriving DecidableEq, Repr, Inhabited

/-- The one-time fuses (R79): four key slots and the thermometer epoch. -/
structure Fuses where
  slot0 : KeySlot
  slot1 : KeySlot
  slot2 : KeySlot
  slot3 : KeySlot
  epoch : Nat
  deriving DecidableEq, Repr, Inhabited

/-- A fuse operation that runs (R79). -/
inductive FuseOp where
  | program (slot hash : Nat)
  | revoke (slot : Nat)
  | burn (epoch : Nat)
  deriving DecidableEq, Repr

/-- One fault event on its way to the collector (R359): bit of Table 17-1, detail, frame and time of the event, whether a
frame timer ran, and whether it crosses the isolation bridge. -/
structure FaultEvt where
  pos : Nat
  detail : Nat
  frame : Nat
  frameValid : Bool
  ns : Nat
  bridged : Bool
  deriving DecidableEq, Repr, Inhabited

/-- The collector besides its registers (17): events waiting, oldest first, the end of the quiet time, and the ALIVE ball. -/
structure FaultSt where
  waiting : List FaultEvt
  quietEnd : Nat
  alive : Bool
  aliveNext : Option Nat     -- a new frequency of ALIVE, in force from the next half-period boundary (R369)
  deriving DecidableEq, Repr, Inhabited

/-- One vector of the MSI-X table (R343). -/
structure MsixVec where
  addrLo : Nat
  addrHi : Nat
  data : Nat
  unmasked : Bool
  deriving DecidableEq, Repr, Inhabited

/-- What the device puts on its buses and pins, for the world outside. -/
inductive Out where
  | msix (addr data : Nat)
  | completion (addr : Nat) (bytes : List Byte)
  | packet (port : Nat) (type dst : Nat) (payload : List Byte)
  | eth (port : Nat) (bytes : List Byte)
  | dmaWrite (addr : Nat) (bytes : List Byte)
  | can (ctl id : Nat) (ide fd brs esi : Bool) (data : List Byte)
  | header (lane : Nat) (bytes : List Byte)
  | slot (lane q : Nat) (bytes : List Byte)
  | trainCrc (lane : Nat) (bytes : List Byte)      -- the CRC-32 that closes a train (R93)
  | call (lane : Nat) (bytes : List Byte)
  | gap (frame : Nat)                              -- gap marker in the recorder ring (R61)
  | record (frame block : Nat) (bytes : List Byte) -- a 4 KB block of a frame image in the recorder ring (R61)
  | words (conv frame : Nat) (words : List Int)    -- the converter words in the recorder ring (R184)
  | ctrlError (cls target : Nat)                   -- error response to the requester of a control entry (R49)
  | mram (bytes : List Byte)
  deriving DecidableEq, Repr

/-- Where the frame is between two ticks (Table 02-1). -/
inductive Phase where
  | stopped | open | frozen | computed | ranked
  deriving DecidableEq, Repr, Inhabited

/-- A control entry of the tracker, or a requester that waits for one (R48, R49): its class of Table 01-3, its target (0 DRAM controller,
1 host bridge, 2 on the die), its requester (the engine, or 16 + the background task, 24 the checkpoint write, 32 + the arm), when it was
opened, and whether its target answers. -/
structure CtrlEntry where
  cls : Nat
  target : Nat
  owner : Nat
  opened : Nat
  answers : Bool
  deriving DecidableEq, Repr, Inhabited

/-- The frame timer, tracker and planner besides their registers (02). -/
structure FrameSt where
  phase : Phase
  nextPeriod : Option Nat        -- period that governs the next frame (R39)
  dup : Nat                      -- duplicate good slots of this frame (R47)
  ovCompute : Bool               -- a compute overrun in this frame (R53)
  ovRank : Bool                  -- a rank overrun in this frame (R53)
  ovPrev : Bool                  -- the previous frame overran (R56)
  history : List (Nat × Nat)     -- needs of the last frames, newest first, at most 64 (R57)
  engNeed : Nat                  -- largest engine need of this frame (R57)
  slower : Nat                   -- consecutive frames with a slower target (R59)
  hold : Option Nat              -- frames passed without an overrun while PL0 is held (R56)
  rising : Option Nat            -- an upward move decided, whose clocks switch in the next guard window (R59)
  nextLevel : Option Nat         -- the level that governs from the next tick (R59)
  copied0 : Nat                  -- blocks of buffer 0 that the recorder has copied since its freeze (R61)
  copied1 : Nat                  -- the same for buffer 1
  frozenOnce : Nat               -- buffers that hold a frozen image, one bit each
  repeatArms : Nat               -- arms whose lane slices repeat their slots at the next tick (R55, R85)
  bgRan : Nat                    -- background tasks that ran in this frame, one bit each
  ticks : Nat                    -- ticks since commit (R71)
  powerMw : Nat                  -- power of the units admitted in this frame (R62)
  guardAdjust : Int              -- ns by which the frame timer moves the next tick (R314)
  freezeNs : Nat             -- nanosecond count at the latest freeze (Table 02-3)
  nextTick : Nat             -- nanosecond count of the next tick (R39, R314, R315)
  bgNs : Nat                 -- background capacity that the units of this frame have taken, in ns (R61)
  bgOver : Bool              -- a refused unit has ended background dispatch for this frame (R61)
  ctrl : List CtrlEntry      -- control entries in use, oldest first (R48)
  ctrlWait : List CtrlEntry  -- requesters that wait, in order of arrival
  ctrlWaited : Bool          -- a requester has waited in this frame
  deriving DecidableEq, Repr, Inhabited

/-- Decoded FRAME section (Table 03-6). -/
structure FrameCfg where
  period : Nat
  pmin : Nat
  pmax : Nat
  sample : Nat
  apply : Nat
  freeze : Nat
  computeEnd : Nat
  rankEnd : Nat
  plLimit : Nat
  margin : Nat
  bgOrder : Nat
  budget : Nat
  engStatic : List Nat
  armStatic : List Nat
  deriving DecidableEq, Repr, Inhabited

/-- Decoded SLICES entry (Table 03-7). -/
structure SliceCfg where
  slice : Nat
  role : Nat
  target : Nat
  deriving DecidableEq, Repr, Inhabited

/-- Decoded CHAINS entry (Table 03-8). -/
structure ChainCfg where
  chain : Nat
  arm : Nat
  order : Nat
  cells : Nat
  split : Nat
  admission : Nat
  base : Nat
  deriving DecidableEq, Repr, Inhabited

/-- Decoded CELLS entry (Table 03-9). -/
structure CellCfg where
  cell : Nat
  cls : Nat
  ident : Nat
  deriving DecidableEq, Repr, Inhabited

/-- Decoded ARMS entry (Tables 03-10 and 06-1). -/
structure ArmCfg where
  arm : Nat
  conv : Nat
  place : Nat
  chains : Nat
  cells : Nat
  rankSpan : Nat
  keepBand : Nat
  minDwell : Nat
  ovPred : Nat
  ovTrip : Nat
  tWeight : Int
  r1 : Nat
  tau1 : Nat
  r2 : Nat
  tau2 : Nat
  vOn : Nat
  eSw : Nat
  ptr0 : Nat
  deriving DecidableEq, Repr, Inhabited

/-- Decoded CONVERTERS entry (Table 03-11). -/
structure ConvCfg where
  conv : Nat
  kind : Nat
  mask : Nat
  mfHz : Nat
  group : Nat
  slew : Nat
  deriving DecidableEq, Repr, Inhabited

/-- Decoded LIMITS entry, defaults applied (Table 03-12). -/
structure LimitsCfg where
  lease : Nat
  cellTimeout : Nat
  shadowFrames : Nat
  halftimeS : Nat
  quietMs : Nat
  wakeUs : Nat
  aliveHz : Nat
  deriving DecidableEq, Repr, Inhabited

/-- One section table entry (Table 03-4), with its index in the table. -/
structure SectionRef where
  index : Nat
  type : Nat
  version : Nat
  offset : Nat
  size : Nat
  crc : Nat
  deriving DecidableEq, Repr, Inhabited

/-- A call on a chain (R106 to R109, R116): sending lane, the target end position (none for an all-call), base, the frame it
left in, and whether it is an identity call for a cell. -/
structure Call where
  lane : Nat
  target : Option Nat
  base : Nat
  frame : Nat
  ident : Bool
  answered : Bool            -- a good reply to it has come
  got : Nat                  -- bit q: the end position has given a good reply
  deriving DecidableEq, Repr, Inhabited

/-- One queued identity call (R116): chain position, calling lane end, whether a restart sign is its trigger, and the attempts made. -/
structure IdCall where
  h : Nat
  lane : Nat
  restart : Bool
  tries : Nat
  frame : Nat                -- the frame it was queued or last sent in
  deriving DecidableEq, Repr, Inhabited

/-- A lane end besides its registers (04). -/
structure LaneSt where
  up : Bool                  -- came up since commit: in sync and its call complete
  lost : Bool                -- LOST (R89, R110)
  allCall : Bool             -- an all-call waits for a tick (R108, R109)
  sweep : Option Nat         -- next end position of the targeted sweep (R109)
  okRun : Nat                -- frames since the limits were last missed (R102)
  missFrom : Option Nat      -- where the missing run of the previous frame began (R110)
  sliceOut : Bool            -- its lane slice has failed (R22, R85)
  sent : Bool                -- it sent a normal train at the last tick
  dropped : Bool             -- it has lost sync since the last T_FREEZE (R110)
  deriving DecidableEq, Repr, Inhabited

/-- A chain besides its registers (04, 05). -/
structure ChainSt where
  next : Option (Nat × Nat)  -- split and gap decided at this freeze (R111)
  before : Option (Nat × Nat) -- split and gap of this frame's headers, where a freeze has moved them since
  moving : Nat               -- freezes that still carry MOVING (R112)
  restoreReq : Bool          -- a restore waits for the next T_FREEZE (R113)
  quiet : Nat                -- consecutive frames with no segment reported down (R113)
  restoreRun : Nat           -- consecutive frames in which the restore conditions hold (R113)
  extra : Bool               -- unrostered cells were found (R94, R121)
  call : Option Call         -- the call in flight
  calls : List IdCall        -- identity calls waiting, oldest first (R116)
  down : Nat                 -- bit s: segment s is down (R110)
  started : Nat              -- the two all-calls of kick-off: 0 waiting, 1 the second is due, 2 done (R108)
  deriving DecidableEq, Repr, Inhabited

/-- What a downlink slot commands (Table 04-3): state codes of R95, edges, operations and phase. -/
structure CellCmd where
  s0 : Nat
  s1 : Nat
  s2 : Nat
  t1 : Option Nat
  t2 : Option Nat
  bypass : Bool
  unblock : Bool
  clear : Bool
  phase : Int
  deriving DecidableEq, Repr, Inhabited

/-- A good CALLUP reply waiting for its rank window (R117). -/
structure Reply where
  ident : Nat
  cls : Nat
  restart : Bool
  conflict : Bool
  deriving DecidableEq, Repr, Inhabited

/-- A declared cell besides its registers: its tracker entry (02), supervision (05) and model (06). -/
structure CellMem where
  done : Bool                -- the entry is completed in this frame (R46)
  crcBad : Bool              -- SLOT_CRC_BAD of this frame (R47)
  arrive : Nat               -- arrival of the completing slot (Table 02-4)
  slot : List Byte           -- the last good slot
  fresh : Bool               -- FRESH in the latest frozen image
  frozen : Bool              -- the cell has been through a freeze
  v : Nat                    -- v_used of the latest frozen image
  v2 : Nat                   -- v2_used of the latest frozen image
  staleRun : Nat             -- stale_run (R51)
  trip3 : Bool               -- stale_run has reached 3 and no rank window has judged it (R122)
  bad : Bool                 -- its entry was hit by an uncorrectable buffer error in this frame (R28)
  vPrev : Nat                -- v_used and v2_used of the image before
  v2Prev : Nat
  moved : Bool               -- the latest freeze decided a move of this cell (R112)
  moving : Bool              -- MOVING in the latest frozen image (R52)
  step : Int                 -- model step for the next image (R146)
  prevFaults : Option Nat    -- faults[7:0] of the previous fresh slot
  prevMiss : Option Nat      -- miss_count of the previous fresh slot
  appear : Bool              -- the next fresh slot is the first after admission or CELL_FAULT_CLEAR (R123)
  staleLong : Bool           -- the stale run now running has reached 2 frames (R116)
  called : Bool              -- the position answered an identity call during that run (R116)
  toggles : List Nat         -- toggle frames, newest first, at most nine (R124)
  bypAt : Option Nat         -- frame at whose tick the first BYPASS slot was sent (R127)
  bypOpen : Nat              -- fresh slots that reported BYPASSED = 0 since (R127)
  bypTold : Bool             -- BYPASS_UNCONFIRMED has been raised
  admitted : Bool            -- the next slot is the first after admission (R120)
  clearReq : Bool            -- the next slot carries FAULT_CLEAR (R119)
  admSlot : Bool             -- the slot built for the next tick is the first after admission
  hostBypass : Bool          -- CELL_BYPASS executed at this tick (R122)
  hostAdmit : Option Nat     -- CELL_ADMIT executed at this tick, with the identity it admits (R122)
  gone : Bool                -- the position is unreachable (R111)
  quietCalled : Bool         -- the quiet gap has been called (R116)
  xEven : Option Nat         -- identity of the reply to lane 2n since last unreachable (R117)
  xOdd : Option Nat          -- the same for lane 2n+1
  replies : List Reply       -- replies for the next rank window, oldest first
  anchor : Nat               -- last valid anchor, t_hs coding (R129)
  th1 : Int                  -- rise nodes, in µK (R144)
  th2 : Int
  tj : Nat                   -- junction estimate, t_hs coding (R145)
  cmd : CellCmd              -- the slot built for the next tick
  force : CellCmd            -- the commands in force (R134)
  fin : Nat                  -- final state before the commands in force
  last : Int                 -- last transition before them, relative to their T_APPLY
  deriving DecidableEq, Repr, Inhabited

/-- An arm reference block (R132): the values the slice latched. -/
structure RefBlock where
  vdc : Int
  vac : Int
  vextra : Int
  theta : Nat
  omega : Int
  capInv : Nat
  phaseRef : Int
  phaseBal : Int
  phaseLim : Nat
  deriving DecidableEq, Repr, Inhabited

/-- What a rank overrun takes back (R55): pointer, counters and events before the rank window. -/
structure ArmUndo where
  ptr : Nat
  moved : Nat
  deferred : Nat
  frames : Nat
  shortEvent : Nat
  deferEvent : Nat
  short : Bool
  deriving DecidableEq, Repr, Inhabited

/-- An arm slice besides its registers (06), and the arm's part of converter operation (08). -/
structure ArmSt where
  blk : RefBlock             -- the block in force
  want : RefBlock            -- the block as the ball plane last wrote it (R132, R151)
  iArm : Int                 -- i_arm of the latest rank window (R134)
  iHeld : Bool
  short : Bool               -- the latest shortfall was not zero
  summary : List Byte        -- the summary that goes into the image at the next tick (R147)
  undo : ArmUndo
  failedTicks : Nat          -- ticks repeated since its slice failed (R85)
  out : Bool                 -- its slice has failed and no substitute has ranked yet
  lost : Bool                -- its role is lost (R22)
  e : Int                    -- re-entry residual, 2^-32 turn (R195)
  thetaCoast : Nat           -- the offset angle that R132 gives for this frame without a latch (R195)
  coastRun : Nat             -- consecutive frames without a latch
  deriving DecidableEq, Repr, Inhabited

/-- A coefficient entry (R157). -/
structure Coef where
  value : Int
  shift : Nat
  deriving DecidableEq, Repr, Inhabited

/-- A block entry of a graph (Table 07-8). -/
structure Block where
  type : Nat
  mode : Nat
  nIn : Nat
  opt : Nat
  coef : Nat
  sink : Nat
  sinkPort : Nat
  ops : List Nat
  deriving DecidableEq, Repr, Inhabited

/-- The graph of one engine position with its two banks (R178, R179). -/
structure Graph where
  position : Nat
  exports : Nat
  blocks : List Block
  coefEntries : Nat
  init : List Int
  params0 : List Int
  bankA : List Coef
  bankB : List Coef
  deriving DecidableEq, Repr, Inhabited

/-- What one run of a graph gives (R150, R151): the words of its sinks in writing order, its exports and its states. -/
structure RunOut where
  sinks : List (Nat × Int)
  exports : List Int
  states : List Int
  quiet : Bool
  deriving DecidableEq, Repr, Inhabited

/-- One engine besides its registers (07). -/
structure EngSt where
  states : List Int          -- committed block states (R150)
  exports : List Int         -- committed exports
  bankA : List Coef          -- the banks in this engine's memory (R176)
  bankB : List Coef
  running : Bool
  result : Option RunOut     -- the completed run of this frame
  deriving DecidableEq, Repr, Inhabited

/-- A converter besides its registers (08). -/
structure ConvSt where
  atTick : Option Nat        -- cause of a block that takes effect at the next tick (Table 08-5)
  atRank : Option Nat        -- cause of a block that takes effect in the next rank window
  work : Tbl Int             -- converter words as the graphs last wrote them (R151)
  resyncFrame : Nat          -- frame e of the entry to RESYNC (R196)
  l1 : Nat                   -- L1 fixed at that entry
  sawZero : Bool             -- PERMIT was latched zero since the entry
  entries : List Nat         -- nanosecond counts of the entries to RESYNC of the last 10 s
  ramped : Bool              -- RAMP_DONE has been latched non-zero in DEBLOCKING (R190)
  theta : Nat                -- theta_mf (R193)
  coastRun : Nat             -- consecutive coast frames (R194)
  shown : Bool               -- bit of the DEBLOCKED system item in this frame (R185)
  blockedNow : Bool          -- a block was counted at this tick or in its rank window (R191)
  met : Bool                 -- a CONV_DEBLOCK of this tick met a block of the device (R191)
  deriving DecidableEq, Repr, Inhabited

/-- One position of a checkpoint: parameters, exports, committed state words (Table 09-3). -/
structure CkptPlace where
  params : List Int
  exports : List Int
  states : List Int
  deriving DecidableEq, Repr, Inhabited

/-- The commit field of a checkpoint half, written last (R202, Table 09-3). -/
structure CkptCommit where
  seq : Nat
  crc : Nat
  magic : Nat
  deriving DecidableEq, Repr, Inhabited

/-- One half of the checkpoint store (R202, Table 09-3). -/
structure Ckpt where
  commit : CkptCommit
  ecc : Bool                 -- reads with an uncorrectable error (R203)
  seq : Nat
  frame : Nat
  plane : Nat
  bank : Nat
  epoch : Nat
  pos : Nat
  ptrs : List Nat
  places : List CkptPlace
  deriving DecidableEq, Repr, Inhabited

/-- How far the wake of a standby is (R207): its step, 0 where none runs. -/
inductive WakeStep where
  | none | power | clock | memory | ready
  deriving DecidableEq, Repr, Inhabited

/-- A shadow run (R208, R212 to R215): of a half-time or a revive, and its first frame once fixed. -/
structure Shadow where
  revive : Bool
  start : Option Nat
  deriving DecidableEq, Repr, Inhabited

/-- The referee besides its registers (09). Times are nanosecond counts. -/
structure RefSt where
  ball : Bool                -- a plane holds the ball
  wake : WakeStep            -- the standby's wake
  withdrawnAt : Nat          -- the latest withdrawal, or the start of the wake of a half-time
  gap : Nat                  -- coast frames since the withdrawal
  late : Bool                -- a step of R207 passed its bound in this takeover (R209)
  forced : Bool              -- FORCE_TAKEOVER waits for the next tick
  expiring : Bool            -- the lease counter reached 0; the ball goes at the next tick
  heartbeat : Bool           -- the holder's heartbeat has been present throughout the frame (R199)
  renewed : Bool             -- the lease was renewed in the last frame (R216)
  restart : Bool             -- RESTART in this frame (R182, R207)
  coast : Nat                -- coast frames since the last latched block (COAST_PREV)
  quietRun : Nat             -- consecutive frames with QUIET = 1, at most 64 (R200)
  quiet : Bool               -- QUIET of the last latch (R153)
  moveAt : Nat               -- last ball move (Table 09-1, code 1)
  now : Bool                 -- HALFTIME_NOW written since then
  cancelAt : Option Nat      -- last cancelled half-time
  troubleAt : Option Nat     -- last contained or fatal fault or takeover (Table 09-1, code 5)
  shadow : Option Shadow
  writing : Option Nat       -- the half whose write has begun in this rank window (R202)
  broken : Bool              -- the two copies disagree (R206)
  half0 : Ckpt
  half1 : Ckpt
  deriving DecidableEq, Repr, Inhabited

/-- The pair link besides REF_PAIR (R216, R217). -/
structure PairSt where
  refPrev : Bool             -- REF_IN at the sample before the last
  msgFrames : Nat            -- consecutive frames with a pair message, at most 8
  silent : Nat               -- frames without a pair message, at most 4
  arrived : Bool             -- a pair message arrived in this frame
  rxSeq : Option Nat         -- seq of the last PAIR packet received
  txSeq : Nat                -- seq of the next PAIR packet
  resync : Bool              -- the next packet asks for every item in full
  full : Option Nat          -- frame in which every item was asked for in full: a message of a later frame carries them
  waiting : List (Nat × List Byte) -- frame of arrival and payload of the packets received, oldest first (R217)
  conflict : Bool            -- the latest sample found the conflict of R216
  refOut : Bool              -- the level of REF_OUT
  partnerState : Nat         -- referee state of the partner
  told : Tbl (List Byte)     -- records last sent, by kind and number
  deriving DecidableEq, Repr, Inhabited

/-- One journal record (Table 09-11), the slot it stands in, and what is wrong with its copies. -/
structure JrnRec where
  slot : Nat
  seq : Nat
  epoch : Nat
  ns : Nat
  source : Nat
  opcode : Nat
  args : List Byte
  frameExec : Option Nat
  result : Nat
  order : Nat                -- the number of commands executed up to and including this one
  dueFrame : Option Nat      -- the frame both devices of a pair execute it at (Table 09-14)
  via : Nat                  -- the port that delivered it, or its index in the command ring (source 0)
  deriving DecidableEq, Repr, Inhabited

/-- The journal besides its registers (09). -/
structure JrnSt where
  recs : List JrnRec         -- records held, oldest first, at most 1,024
  old : List JrnRec          -- retired records whose slots still hold them, from the first that the older checkpoint lacks (R203, R204)
  writing : List JrnRec      -- acceptances not complete yet, oldest first (R220)
  mramFailed : Bool
  epochOk : Bool             -- an epoch word survives (R223)
  badHalves : List Nat       -- the halves that are being rewritten (R225), each once
  deriving DecidableEq, Repr, Inhabited

/-- A sequencer entry as a converter holds it in force (Table 10-9, R235). -/
structure AdcEntry where
  input : Nat
  acq : Nat
  shift : Nat
  winEn : Bool
  scale : Int
  offset : Int
  hi : Int
  lo : Int
  deriving DecidableEq, Repr, Inhabited

/-- A SAR or ΔΣ slot of the frame image (Table 10-4). -/
structure AdcSlot where
  value : Int
  raw : Int
  flags : Nat
  settle : Nat
  tNs : Int
  deriving DecidableEq, Repr, Inhabited

/-- What a commit has staged for one converter (R235): its entries and the configuration of the 64 inputs. -/
structure AdcStaged where
  entries : List AdcEntry
  rest : List AdcEntry       -- the entries of the registers beyond the burst's length
  inputs : List Nat
  deriving DecidableEq, Repr, Inhabited

/-- A SAR converter besides its registers (10): `inputs` is gain + 4 × enable of each input as this converter last took it. -/
structure AdcConv where
  running : Bool             -- SEQ_EN as it took effect at a tick
  entries : List AdcEntry
  rest : List AdcEntry       -- the register entries beyond the burst, as the last accepted commit found them
  inputs : List Nat
  staged : Option AdcStaged
  lastInput : Option Nat     -- input of the previous conversion; none before the first
  settle : Tbl Nat           -- settle count by entry
  latest : Tbl Int           -- value of the latest result by entry
  win : Tbl Nat              -- window state by entry: 0 IN, 1 HIGH, 2 LOW
  burstInvalid : Bool
  burstClip : Bool
  deriving DecidableEq, Repr, Inhabited

/-- The configuration of a ΔΣ channel (R238). -/
structure DsCfg where
  order : Nat
  log2r : Nat
  shift : Nat
  scale : Int
  offset : Int
  deriving DecidableEq, Repr, Inhabited

/-- A ΔΣ channel besides its registers: its filter and its latest output. -/
structure DsSt where
  cfg : DsCfg
  staged : Option DsCfg
  integ : List Int
  comb : List Int
  settle : Nat
  out : Option AdcSlot       -- latest output since the last change; tNs is its nanosecond count
  valid : Bool
  deriving DecidableEq, Repr, Inhabited

/-- The analogue part besides its registers (10): the slots of the frame image now filled (SAR 32c + e, ΔΣ 256 + 4u + k). -/
structure AdcSt where
  convs : Tbl AdcConv
  ds : Tbl DsSt
  slots : Tbl AdcSlot
  inputs : List Nat          -- inputs as last committed
  refSince : Nat             -- ADC_REF.EN went from 0 to 1 at
  armSrc : Tbl Nat           -- 1 + arm_src of the arms that have one
  hkStart : Option Nat       -- a round runs since
  hkDone : Nat               -- nanosecond count at the start of the latest completed round
  posted : List Nat          -- readings of the round posted into the frame image
  postedAt : Nat
  postedNo : Nat
  refGood : Nat              -- consecutive rounds inside the band of R229 while FAULT = 1
  deriving DecidableEq, Repr, Inhabited

/-- A whole staged set of a drive unit (R264): what the staged registers of the unit hold. -/
structure DrvSet where
  mode : Nat
  top : Nat
  src : Nat
  snk : Nat
  soft : Nat
  chSrc : Nat
  chSnk : Nat
  chSoft : Nat
  tempComp : Bool
  blank : Nat
  minPulse : Nat
  chopMode : Nat
  chopSide : Nat
  chopTime : Nat
  chopPeriod : Nat
  dead : List Nat
  legMode : List Nat
  cmp : List Nat
  deriving DecidableEq, Repr, Inhabited

/-- A gate output on the drive side (R245 to R247, R255): currents are those of Table 11-2 at its latest edges, in mA. -/
structure GateSt where
  on : Bool                  -- driven on
  since : Nat                -- start of the latest turn-on edge (R251)
  sourceMa : Nat             -- source current of the latest turn-on edge
  sinkMa : Nat               -- normal sink current of the latest turn-off edge
  softMa : Nat               -- sink current of its soft phase
  softEnd : Nat              -- end of that phase; not later than the edge where the turn-off was not a soft one
  clampAt : Nat              -- from when the Miller clamp holds the gate while the output is off (R247)
  deriving DecidableEq, Repr, Inhabited

/-- A leg of a drive unit on both sides of the barrier (11). -/
structure LegSt where
  hsCmd : Bool               -- what the PWM or the leg mode asks for
  lsCmd : Bool
  hsFrom : Nat               -- from when the turn-on command of each output is sent (R249)
  lsFrom : Nat
  hsSent : Bool              -- commands that the logic side sends
  lsSent : Bool
  hsOff : Option Nat         -- latest turn-off command of each output
  lsOff : Option Nat
  hs : GateSt
  ls : GateSt
  tripHs : Bool              -- leg faults in force on the drive side (R256)
  tripLs : Bool
  tripIs : Bool
  vbUv : Bool
  waitEdge : Bool            -- held off until an input edge (R253, R259)
  interlock : Bool           -- both commands on together (R248)
  deriving DecidableEq, Repr, Inhabited

/-- A drive unit besides its registers (11). -/
structure DrvSt where
  act : DrvSet               -- values in force
  phase : Option DrvSet      -- pending for the next carrier valley
  chop : Option DrvSet       -- pending for the next chopper boundary
  together : Bool            -- the pending chopper values take effect with the others, at the valley (R264)
  chopNext : Option Nat      -- chopper period for the next chopper boundary (R262, R280)
  chopLoaded : Nat           -- chopper period of the latest load to take effect: in force outside MOTOR (R264)
  sync : Bool                -- its carrier restarts at the next tick (R266)
  group : Nat                -- units restarted together with it, one bit each (R266)
  valleyAt : Nat             -- nanosecond count of the latest valley
  chopAt : Nat               -- nanosecond count of the latest chopper period boundary
  probeEnd : Option Nat      -- end of the probe that runs (R282)
  legs : Tbl LegSt
  inputs : Nat               -- levels of the trip inputs as last seen (Machine/Drive.lean says the coding)
  trips : List (Nat × Nat)   -- trips of the unit, newest first: instant on the 50 ns grid and leg (R257)
  latched : Nat              -- latch of the drive side: its cause, 0 none (R257)
  unreported : List (Nat × Nat) -- leg and cause of the trips taken while the link was down, oldest first
  otLatch : Bool             -- drive-die shutdown latch of the drive side (R393)
  vdrv : Bool                -- the drive side finds VDRVu above its limit (R253)
  band : Nat                 -- temperature band last valid (R246)
  linkSeen : Bool            -- the link has come up since the latest DEV reset (R257)
  deriving DecidableEq, Repr, Inhabited

/-- The motor part of a unit record (Table 12-4). -/
structure MotCfg where
  capfilt : Nat
  polePairs : Nat
  src : Nat
  reverse : Bool
  srcSel : Nat
  rs : Nat
  ls : Nat
  psi : Nat
  iMax : Nat
  speedMax : Nat
  accel : Nat
  decel : Nat
  shortBrake : Nat
  handover : Nat
  confMin : Nat
  confCatch : Nat
  probeNs : Nat
  stopCoastMs : Nat
  shortMs : Nat
  chopOn : Nat
  chopOff : Nat
  ov2 : Nat
  chopCheckUs : Nat
  failSpeed : Nat
  vlim : Nat
  throttlePct : Nat
  curveN : Nat
  gains : List Coef          -- speed kp, speed ki, current kp, current ki
  inLo : Int
  inHi : Int
  spdLo : Nat
  spdHi : Nat
  timeoutMs : Nat
  curveHyst : Nat
  adv : List (Nat × Nat)
  curve : List (Nat × Nat)
  priv : Bool
  deriving DecidableEq, Repr, Inhabited

/-- The motor control of a unit besides its registers (12). -/
structure MotSt where
  refQ : Int                 -- speed reference in rpm × 10^9, so that every ramp step is exact
  entered : Nat              -- nanosecond count of the entry to the present state
  lowRun : Nat               -- consecutive periods with CONF below conf_min (R270)
  highRun : Nat              -- consecutive periods with CONF at the limit of the state (R279, R283)
  atHandover : Option Nat    -- START has held handover_speed since (R279)
  slowSince : Option Nat     -- the back-EMF has been below shortbrake_speed since (R283)
  fromCatch : Bool           -- SHORT was entered from CATCH (R280)
  reversal : Bool            -- a reversal waits (R284)
  stopSign : Int             -- sign of the command that the stop under way ended
  fullSince : Option (Nat × Int)  -- d = 1 since, and VBUS then (R281)
  speedInt : Int             -- integrators of the loops (R269, R165)
  dInt : Int
  qInt : Int
  startSign : Int            -- direction of the start under way
  atV : Bool                 -- the voltage demand is at vlim (R272)
  chopD : Nat                -- d of the chopper, in 1/65,536 (R280)
  cancelled : Bool           -- a reversal was cancelled in REGEN: the reference follows the new command (R284)
  startAngle : Nat           -- angle of the open-loop vector of START, in 1/(60 × 10^18) turn (R279)
  spdHigh : Bool             -- filtered level of SPDu
  spdAt : Option Nat         -- latest filtered edge on SPDu
  riseAt : Option Nat        -- latest rising edge on SPDu (R274)
  highNs : Nat               -- high time of the SPDu period under way
  pin : Int                  -- latest duty or frequency reading
  goodAt : Nat               -- latest fresh valid reading of the source (R274, R276)
  held : Int                 -- command last taken from the source
  deriving DecidableEq, Repr, Inhabited

/-- What the observer gives at a valley (R270, R282, R283): speed in rpm, confidence, angle, whether the back-EMF corresponds to less
than shortbrake_speed, and the back-EMF vector in the units of the voltage demand. -/
structure Observed where
  est : Int
  conf : Nat
  theta : Nat
  slow : Bool
  emf : Int × Int
  deriving DecidableEq, Repr, Inhabited

/-- One channel of one safety unit (R290). -/
structure SafeChan where
  raw : Bool
  filt : Bool
  since : Nat                -- the raw level has stood since
  running : Bool             -- the filter runs
  series : Option Nat        -- a series of restarts runs since
  unsettled : Bool           -- the series lasted 5 × t_filt
  blankUntil : Nat
  checked : Bool             -- it passed the check of R291 since both channels returned to healthy (R292)
  deriving DecidableEq, Repr, Inhabited

/-- One pair of one safety unit (R292): cause of PAIR_FAULT (0 none) and how far its clearing is. -/
structure SafePair where
  fault : Nat
  bothSince : Option Nat     -- both channels in demand since
  stage : Nat                -- 0, then 1 after demand for t_filt, then 2 after both returned to healthy
  apart : Option Nat         -- the channels have disagreed since
  demands : Nat
  dem : Bool                 -- the pair demands
  deriving DecidableEq, Repr, Inhabited

/-- One group of one safety unit (R294): state and cause of Table 13-2 and the register, t0, and what the stop is judged by. -/
structure SafeGroup where
  state : Nat
  cause : Nat
  t0 : Nat
  p0 : Nat
  s0 : Tbl Nat               -- |EST| at t0, by unit
  low : Tbl Nat              -- consecutive latches with |P_KW| ≤ p_end, by converter
  releasedAt : Option Nat    -- the edge that released it from LOCKED_OUT (R300)
  deriving DecidableEq, Repr, Inhabited

/-- One safety unit (R286). -/
structure SafeUnit where
  chans : Tbl SafeChan
  pairs : Tbl SafePair
  groups : Tbl SafeGroup
  diag : Nat                 -- cause of the failed diagnostic it detected, 0 none
  apart : Nat                -- consecutive exchanges that disagreed
  armed : Nat                -- groups armed
  armUntil : Nat
  deriving DecidableEq, Repr, Inhabited

/-- The safety functions besides their registers (13). -/
structure SafeSt where
  a : SafeUnit
  b : SafeUnit
  announced : Bool           -- a planned stop of SAFE_A is announced (R303)
  settleFrom : Option Nat    -- SAFE_B judges the exchange again from here
  lastAB : Nat               -- latest exchange received by B from A and by A from B
  lastBA : Nat
  pinLow : Option Nat        -- SAFE_RESET_N low since
  pinHigh : Nat              -- SAFE_RESET_N high since
  tpoLow : Nat               -- TPOs in their pulse, one bit each
  tpoAt : Nat                -- start of the latest pulse
  tpoBase : Nat              -- start of the first test cycle
  tpoNext : Nat              -- the earliest start of a pulse still to come
  tpoBad : Nat               -- readback faults, bit t of SAFE_A and 4 + t of SAFE_B
  preHigh : Nat              -- inputs that were high before the pulse, bit i of SAFE_A and 16 + i of SAFE_B
  mirrorOut : Nat            -- frames SAFE_A has covered the mirror slice (R85)
  deriving DecidableEq, Repr, Inhabited

/-- Decoded SAFETY records (Table 13-6). -/
structure SafePairCfg where
  mode : Nat
  tpoA : Nat
  tpoB : Nat
  group : Nat
  filtNs : Nat
  discNs : Nat
  deriving DecidableEq, Repr, Inhabited

/-- A group record of the SAFETY section. -/
structure SafeGroupCfg where
  kind : Nat
  stop : Nat
  fireCh : Nat
  driveMask : Nat
  stopMaxMs : Nat
  envDelayMs : Nat
  rampMs : Nat
  decel : Nat
  pMargin : Nat
  pEnd : Nat
  speedMargin : Nat
  standstill : Nat
  deriving DecidableEq, Repr, Inhabited

/-- The decoded SAFETY section. -/
structure SafetyCfg where
  groups : Nat
  tpoEn : Nat
  tpPeriodNs : Nat
  tpWidthNs : Nat
  pairs : List SafePairCfg
  group : List SafeGroupCfg
  deriving DecidableEq, Repr, Inhabited

/-- The time base (14): `ns`, the instant that the model has reached; `behind`, by how much the nanosecond count lags it (the SD clock has
stood still, or the count began anew, R308); PTP time with the part below the second in units of 2^-29 ns × 10^-6, the slew that runs, the copies of
the keep domain, and what the PPS servo and the frame discipline remember. -/
structure TimeSt where
  ns : Nat
  sec : Nat
  sub : Nat
  slew : Int                 -- amount still to slew, in the same units
  behind : Nat
  phase : Nat                -- the nanosecond count at the latest restart, modulo 4
  startedAt : Nat            -- the latest restart
  keepAt : Nat               -- when the copies were last set
  keepNs : Nat
  keepSec : Nat
  keepSub : Nat
  restarted : Bool          -- it has restarted since the latest POR (R308)
  ppsAt : Option Nat         -- latest accepted edge
  ppsSum : Int
  ppsGood : Nat              -- consecutive accepted edges with |e| ≤ LOCK_NS
  discRun : Nat              -- consecutive ticks with |e| ≤ 50 ns and SYNC = 1
  deriving DecidableEq, Repr, Inhabited

/-- An entry of a transmit stamp queue (R320). -/
structure TxStamp where
  seqId : Nat
  msgType : Nat
  ns : Nat
  sec : Nat
  deriving DecidableEq, Repr, Inhabited

/-- An Ethernet port besides its registers (14). -/
structure EthSt where
  stamps : List TxStamp
  txStopped : Bool
  rxStopped : Bool
  deriving DecidableEq, Repr, Inhabited

/-- A message in a CAN transmit queue (R331). -/
structure CanMsg where
  buffer : Nat
  ide : Bool
  fdf : Bool
  brs : Bool
  dlc : Nat
  id : Nat
  data : List Byte
  source : Nat
  seq : Nat
  late : Bool
  deriving DecidableEq, Repr, Inhabited

/-- A transmit record (R335). -/
structure CanRecord where
  source : Nat
  late : Bool
  buffer : Nat
  seq : Nat
  frame : Nat
  deriving DecidableEq, Repr, Inhabited

/-- The queue of a controller in the keep domain (R331, R333), oldest entry first. -/
structure CanQueue where
  msgs : List CanMsg
  deriving DecidableEq, Repr, Inhabited

/-- A CAN controller besides its registers and its queue (15). -/
structure CanSt where
  row : Nat                  -- the row of the basic cycle that runs
  openSlot : Option Nat      -- the column of the slot that is open
  offer : Option CanMsg      -- the message offered in the open slot and not retired
  attempt : Option CanMsg    -- the message whose transmission is requested or under way
  flushed : Bool             -- the attempted message was removed by CAN_FLUSH
  slotErrors : Nat           -- errors of the open slot's attempts
  records : List CanRecord   -- transmit records, oldest first
  rxTail : Nat               -- next receive entry to write
  deriving DecidableEq, Repr, Inhabited

/-- A decoded controller record (Table 15-6). -/
structure CanCfg where
  can : Nat
  mode : Nat
  fdEn : Bool
  brsEn : Bool
  autoRecover : Bool
  a : Nat
  b : Nat
  cols : List (Nat × Nat)    -- frame and fraction of each column
  nbt : List Nat             -- nbrp, ntseg1, ntseg2, nsjw
  dbt : List Nat             -- dbrp, dtseg1, dtseg2, dsjw
  tdcEn : Bool
  tdco : Nat
  elems : List Nat           -- element (r, c) at 64 r + c
  filters : List (Nat × Nat) -- the two words of each filter
  deriving DecidableEq, Repr, Inhabited

/-- A partner entry of the BACKBONE section (Table 16-7). -/
structure PartnerCfg where
  source : Nat
  node : Nat
  rights : Nat
  identity : Nat
  deriving DecidableEq, Repr, Inhabited

/-- The decoded BACKBONE section. -/
structure BbCfg where
  nodeId : Nat
  pairPort : Option Nat
  ports : List (Bool × Nat)
  partners : List PartnerCfg
  deriving DecidableEq, Repr, Inhabited

/-- The decoded TIME section (Table 14-6), defaults applied. -/
structure TimeCfg where
  modes : List Nat
  flags : List Nat
  macs : List (List Byte)
  align : Nat
  slew : Nat
  servo : Nat
  edge : Nat
  offset : Int
  kp : Nat
  ki : Nat
  lockNs : Nat
  lat : List Int
  deriving DecidableEq, Repr, Inhabited

/-- The decoded ADC section (Table 10-6). -/
structure AdcCfg where
  refAuto : Bool
  armSrc : List Nat
  inputs : List Nat          -- gain + 4 × enable
  lens : List Nat
  seqEn : List Bool
  entries : List (List AdcEntry)
  ds : List DsCfg
  diodes : List Nat
  deriving DecidableEq, Repr, Inhabited

/-- A backbone partner entry besides its register (R353): the latest HELLOs. -/
structure Partner where
  helloAt : Option Nat       -- nanosecond count of the latest matching HELLO
  imageId : Option Nat       -- image_id of that HELLO
  portAt : Tbl Nat           -- latest matching HELLO per port (ns + 1)
  deriving DecidableEq, Repr, Inhabited

/-- The host port, the rings and the backbone besides their registers (16). -/
structure HostSt where
  linkUp : Bool
  msixEnable : Bool
  funcMask : Bool
  msix : Tbl MsixVec
  pba : Nat                  -- pending-bit array, bit v
  cplPending : Bool          -- source 10 (R344)
  irqN : Bool                -- the IRQ_N ball is driven low
  partners : Tbl Partner     -- by journal source 1 to 15
  delivery : Option (Nat × Nat)  -- IMAGE delivery over the backbone: partner source and total (R356)
  staged : Tbl Bool          -- bytes of the delivery that have arrived
  idleSince : Tbl Nat        -- a port's latest packet, or when it came up (ns + 1, R350)
  deriving DecidableEq, Repr, Inhabited

/-- What a handshake entry switches off (R387). -/
inductive EntryDomain where
  | dormant | analog | bbPhy
  deriving DecidableEq, Repr, Inhabited

/-- An entry handshake in progress (R387): its domain, its start, and whether a wake event is held (R388). -/
structure Entry where
  domain : EntryDomain
  start : Nat
  wakeHeld : Option Nat      -- WAKE_SRC code of an edge event that arrived during it
  deriving DecidableEq, Repr, Inhabited

/-- The power, clock and thermal controllers besides their registers (18). Times are nanosecond counts. -/
structure PowerSt where
  step : Nat                 -- the kick-off step that runs, 0 = none (Table 03-1)
  held : Bool                -- DEV reset asserted
  bridge : Bool              -- the isolation bridge is open (R30)
  supplied : Bool            -- not in OFF: the keep domain is powered and out of POR
  fresh : Bool               -- no wake since the latest POR
  fallRun : Nat              -- consecutive VIN samples below the next threshold (R374)
  fallDeep : Nat             -- the deepest step all of those samples reached
  riseSince : Option Nat     -- start of the time above the retreat threshold (R374)
  hotSince : Option Nat      -- start of H ≤ 0 with background at zero (R64)
  coolSince : Option Nat     -- start of H ≥ 5 °C (R64)
  headroomValid : Bool       -- a logic or memory sensor reads valid (R64)
  lowSince : Option Nat      -- start of VIN below 8.0 V (R392)
  goodSince : Option Nat     -- start of VIN at or above 10.8 V (R377)
  keepOnlyAt : Nat           -- entry to KEEP-ONLY
  thermalEntry : Bool        -- KEEP-ONLY was entered by thermal step 6 (R377)
  step6 : Nat                -- the step-6 sequence: 0 none, 1 reached, 2 BLOCK slots built, 3 they left at a tick (R376)
  entry : Option Entry
  wakeNLow : Bool            -- level of the WAKE_N ball as last seen: low (R388)
  resetLowSince : Option Nat -- RESET_N low since (R370)
  resetSrc : Nat             -- cause of the DEV reset being held
  pgood : Nat                -- PGOOD flags by supply monitor, bit m (Table 10-5)
  preInForce : Tbl Nat       -- PRE in force per PLL (R381)
  trimInForce : Tbl Nat      -- TRIM in force per PLL (R381, R382)
  relocking : Nat            -- PLLs relocking for CLOCK_GO, one bit each (R381)
  lost : Nat                 -- PLLs relocking after a loss of lock in RUN, one bit each (R383)
  dead : Nat                 -- PLLs left gated (R383)
  analogOff : Bool
  bbOff : Bool
  dormantExit : Bool         -- kick-off runs as a DORMANT exit (R390)
  wakeFailed : Bool          -- the last wake attempt failed for good (R389)
  sensorBad : Nat            -- housekeeping sensors invalid, one bit per item (R394)
  sinceVdrvLow : Tbl Nat     -- VDRVu below its limit since (ns + 1), per unit (R393)
  deriving DecidableEq, Repr, Inhabited

/-- The structure image as the loader decoded it (03): what the checks accepted. `loaded` from commit on. -/
structure Cfg where
  loaded : Bool
  imageId : Nat
  version : Nat
  size : Nat
  epoch : Nat
  keySlot : Nat
  frame : FrameCfg
  slices : List SliceCfg
  chains : List ChainCfg
  cells : List CellCfg
  arms : List ArmCfg
  convs : List ConvCfg
  limits : LimitsCfg
  safety : SafetyCfg
  graphs : List Graph
  adc : Option AdcCfg
  drives : List (Nat × DrvSet)
  motors : List (Nat × MotCfg)
  drivePriv : Nat            -- units marked privileged, one bit each (R285)
  cans : List CanCfg
  time : TimeCfg
  bb : Option BbCfg
  deriving DecidableEq, Repr, Inhabited

/-- The loader besides its registers (03): the staging area by image byte (an unwritten byte reads 0), the image fetched, the
structure its checks built, the sources still to try, and the substitutions waiting. -/
structure LoadSt where
  dram : Bool                -- DRAM is available
  written : Nat              -- units that the recorder has written into DRAM: what its other bytes hold follows (Config.dramByte)
  accepted : Bool            -- an image has been accepted since the last DEV reset (R79)
  staging : Tbl Byte
  image : List Byte
  built : Option Cfg
  copy : List Byte           -- the accepted image's copy in DRAM
  sources : List Nat         -- sources still to try, in order (Table 03-2)
  since : Nat                -- start of the fetch under way
  fuse : Option FuseOp
  waiting : List Nat         -- failed slices whose substitution waits (R84)
  reloading : Option (Nat × Option Nat)  -- the slice replaced and the spare that takes its role
  deriving DecidableEq, Repr, Inhabited

/-- The device: silicon and fuses, the two register stores, one record per block of each chapter, what went out on its buses so
far, the number of free values drawn (the MODEL's own field), and the commands that wait, first in, first out. -/
structure State where
  silicon : Silicon
  fuses : Fuses
  regs : Tbl Nat
  keep : Tbl Nat
  hold : Tbl Nat             -- holding registers of split reads, by word address (R12)
  wrHold : Tbl Nat           -- low words written and waiting for their high word (R12)
  time : TimeSt
  power : PowerSt
  faults : FaultSt
  host : HostSt
  load : LoadSt
  cfg : Cfg
  fr : FrameSt
  images : Tbl (List Byte)   -- objects of the two frame-image buffers (R33), at 2^20 × buffer + offset in the buffer
  lanes : Tbl LaneSt
  chains : Tbl ChainSt
  cells : Tbl CellMem
  arms : Tbl ArmSt
  engs : Tbl EngSt
  convs : Tbl ConvSt
  referee : RefSt
  pair : PairSt
  journal : JrnSt
  adc : AdcSt
  drives : Tbl DrvSt
  motors : Tbl MotSt
  safety : SafeSt
  eths : Tbl EthSt
  canQueues : Tbl CanQueue
  cans : Tbl CanSt
  out : List Out
  drawn : Nat
  pending : List Instr
  deriving DecidableEq, Repr, Inhabited

/-- The machine right after reset (State.reset of the fixed names): a CX1536, stepping A1, with unprogrammed fuses, every register
field at its reset value (nothing listed), every block at rest, DEV reset asserted and the keep domain still to be released from POR
(Table 18-7, OFF), no command waiting. -/
def State.reset : State :=
  { (default : State) with silicon := ⟨.cx1536, 0, 1, 1⟩, power := { (default : PowerSt) with held := true, fresh := true } }

end Sys2Proof.Machine
end

