-- ==== Sys2Proof/Machine/Bits.lean ====
section
/-! DEFINITION. Bit fields, sign extension, byte order, saturation and rounding: the helpers every chapter uses.
Multi-byte fields are little-endian (R10); sat32 and the arithmetic right shift are those of 00_scope.md, Names. -/

namespace Sys2Proof.Machine

/-- Bit `i` of `n`, as 0 or 1. -/
def bitOf (n i : Nat) : Nat := (n / 2 ^ i) % 2

/-- Whether bit `i` of `n` is 1. -/
def hasBit (n i : Nat) : Bool := bitOf n i == 1

/-- Bits [lo + width − 1 : lo] of `n`. -/
def bitsOf (n lo width : Nat) : Nat := (n / 2 ^ lo) % 2 ^ width

/-- `n` with bit `i` set. -/
def setBit (n i : Nat) : Nat := if hasBit n i then n else n + 2 ^ i

/-- `n` with bit `i` cleared. -/
def clrBit (n i : Nat) : Nat := if hasBit n i then n - 2 ^ i else n

/-- 0 or 1. -/
def b01 (b : Bool) : Nat := if b then 1 else 0

/-- The signed value of the low `w` bits of `n`. -/
def signed (w n : Nat) : Int :=
  let m := n % 2 ^ w
  if 2 * m < 2 ^ w then (m : Int) else (m : Int) - (2 ^ w : Nat)

/-- The two's complement bits of `x` in `w` bits. -/
def unsigned (w : Nat) (x : Int) : Nat := (x % ((2 ^ w : Nat) : Int)).toNat

/-- `x` limited to [lo, hi]. -/
def clampI (lo hi x : Int) : Int := if x < lo then lo else if hi < x then hi else x

/-- `x` limited to [lo, hi]. -/
def clampN (lo hi x : Nat) : Nat := if x < lo then lo else if hi < x then hi else x

/-- sat32 of the conventions: `x` limited to the range of an s32. -/
def sat32 (x : Int) : Int := clampI (-2147483648) 2147483647 x

/-- `x` limited to the range of an s16. -/
def sat16 (x : Int) : Int := clampI (-32768) 32767 x

/-- Arithmetic right shift by `n`: division by 2^n rounded down. -/
def asr (x : Int) (n : Nat) : Int := x.fdiv ((2 ^ n : Nat) : Int)

/-- A counter that saturates at `top`, raised by `n`. -/
def satAdd (top c n : Nat) : Nat := if top ≤ c + n then top else c + n

/-- A byte list cut or filled with zeros to n bytes. -/
def padTo (n : Nat) (b : List Byte) : List Byte := (b ++ List.replicate (n - b.length) 0).take n

/-- Byte `i` of a byte list, 0 where the list is shorter. -/
def u8At (b : List Byte) (i : Nat) : Nat := (b.getD i 0).toNat

/-- Little-endian u16 at byte `i` (R10). -/
def u16At (b : List Byte) (i : Nat) : Nat := u8At b i + 256 * u8At b (i + 1)

/-- Little-endian u32 at byte `i` (R10). -/
def u32At (b : List Byte) (i : Nat) : Nat := u16At b i + 65536 * u16At b (i + 2)

/-- Little-endian u64 at byte `i` (R10). -/
def u64At (b : List Byte) (i : Nat) : Nat := u32At b i + 4294967296 * u32At b (i + 4)

/-- Signed byte at `i`. -/
def s8At (b : List Byte) (i : Nat) : Int := signed 8 (u8At b i)

/-- Little-endian s16 at byte `i`. -/
def s16At (b : List Byte) (i : Nat) : Int := signed 16 (u16At b i)

/-- Little-endian s32 at byte `i`. -/
def s32At (b : List Byte) (i : Nat) : Int := signed 32 (u32At b i)

/-- The `n` little-endian bytes of `v` (R10). -/
def leBytes : Nat → Nat → List Byte
  | 0, _ => []
  | n + 1, v => BitVec.ofNat 8 v :: leBytes n (v / 256)

/-- The `n` big-endian bytes of `v`. -/
def beBytes (n v : Nat) : List Byte := (leBytes n v).reverse

/-- Bytes [lo, lo + n) of `b`, short where `b` is. -/
def slice (b : List Byte) (lo n : Nat) : List Byte := (b.drop lo).take n

/-- Whether every byte of [lo, lo + n) is zero. -/
def zeroAt (b : List Byte) (lo n : Nat) : Bool := (slice b lo n).all (· == 0)

/-- The numbers 0 to n − 1. -/
def upTo (n : Nat) : List Nat := List.range n

end Sys2Proof.Machine
end

