-- ==== Sys2Proof/Machine/Trig.lean ====
section
/-! DEFINITION. The cosine table of R133, computed: tab[i] is 2^30 × cos(2π i / 4,096) rounded to nearest. The series is summed in
units of 2^-96 over the first quadrant and mirrored; its error is far below the distance of any entry from a half. -/

namespace Sys2Proof.Machine

/-- 2^96 × π, rounded. -/
def pi96 : Int := 248902613312231085230521944622

/-- The terms of the cosine series from term `n` on, in units of 2^-96: `t` is term n, `x2` the square of the angle. -/
def cosSeries : Nat → Nat → Int → Int → Int
  | 0, _, _, _ => 0
  | k + 1, n, t, x2 =>
    t + cosSeries k (n + 1) (-(t * x2).tdiv (2 ^ 96 * ((2 * n + 1) * (2 * n + 2) : Nat))) x2

/-- 2^30 × cos of i / 4,096 turn for i up to 1,024, rounded to nearest. -/
def cosQuad (i : Nat) : Int :=
  let x := pi96 * i / 2048
  (cosSeries 24 0 (2 ^ 96) (x * x / 2 ^ 96) + 2 ^ 65) / 2 ^ 66

/-- tab[i] of R133, 0 ≤ i < 4,096. -/
def cosTab (i : Nat) : Int :=
  if i ≤ 1024 then cosQuad i
  else if i ≤ 2048 then -cosQuad (2048 - i)
  else if i ≤ 3072 then -cosQuad (i - 2048)
  else cosQuad (4096 - i)

/-- cos_q30 of an angle in 2^-32 turn (R133). -/
def cosQ30 (theta : Nat) : Int := cosTab ((theta % 2 ^ 32) / 2 ^ 20)

/-- The sine of an angle: cos_q30(a − 2^30) (R157). -/
def sinQ30 (theta : Nat) : Int := cosQ30 (theta + 2 ^ 32 - 2 ^ 30)

end Sys2Proof.Machine
end

