-- ==== Sys2Proof/Machine/Blocks.lean ====
section
/-! DEFINITION. The block library of the control graph engines (07_control_graphs.md): what each block type computes from its
inputs, its coefficients and its state words, R157 to R173, with the state words in the order of R420. -/

namespace Sys2Proof.Machine

/-- rshr of R157: the shift with rounding. -/
def rshr (x : Int) (s : Nat) : Int := if s = 0 then x else asr (x + 2 ^ (s - 1)) s

/-- mulc of R157. -/
def mulc (x : Int) (k : Coef) : Int := sat32 (rshr (x * k.value) k.shift)

/-- The s32 bit pattern of an integer: wrapping modulo 2^32. -/
def wrap32 (x : Int) : Int := signed 32 (unsigned 32 x)

/-- The u32 of an s32 carried as an angle. -/
def angle (x : Int) : Nat := unsigned 32 x

/-- An s64 state from its two words, low word first (R420). -/
def joinS64 (lo hi : Int) : Int := signed 64 (unsigned 32 lo + 4294967296 * unsigned 32 hi)

/-- The two words of an s64 state (R420). -/
def splitS64 (x : Int) : List Int :=
  let n := unsigned 64 x
  [signed 32 (n % 4294967296), signed 32 (n / 4294967296)]

/-- The angle by which `omega` advances in one period (R132, R170). -/
def angleStep (omega : Int) (period : Nat) : Int := (omega * (period : Int)).fdiv 1000

/-- What a block computes: its outputs and its next state words. -/
structure BlockOut where
  outs : List Int
  states : List Int
  deriving DecidableEq, Repr, Inhabited

/-- 0 or 1 as an s32. -/
def i01 (b : Bool) : Int := if b then 1 else 0

/-- SUM (R160). -/
def blkSum (mode opt : Nat) (ins : List Int) : Int :=
  let a := (ins.zip (upTo ins.length)).foldl (fun a p => if hasBit mode p.2 then a - p.1 else a + p.1) 0
  if hasBit opt 0 then wrap32 a else sat32 a

/-- PI (R165): state integ. -/
def blkPi (e reset preset : Int) (kp ki hi lo : Coef) (integ0 : Int) : Int × Int × Int :=
  let p := mulc e kp
  let i1 := if reset ≠ 0 then preset * 65536 else integ0 + rshr (e * ki.value) ki.shift
  let integ := min (max i1 (lo.value * 65536)) (hi.value * 65536)
  let u := p + asr integ 16
  (min (max u lo.value) hi.value, i01 (u > hi.value || u < lo.value), integ)

/-- PR (R166): states v1, v2. -/
def blkPr (e omega reset : Int) (h : Nat) (kp kr hi lo : Coef) (w1 w2 : Int) (period : Nat) : Int × Int × Int × Int :=
  let p := mulc e kp
  let u := mulc e kr
  let ang := angle ((h : Int) * angleStep omega period)
  let a := 2 * cosQ30 ang
  let v1 := if reset ≠ 0 then 0 else w1
  let v2 := if reset ≠ 0 then 0 else w2
  let v0 := sat32 (u + asr (a * v1 + 2 ^ 29) 30 - v2)
  let w := p + (v0 - v2)
  let sat := decide (w > hi.value) || decide (w < lo.value)
  (min (max w lo.value) hi.value, i01 sat, if sat then v1 else v0, if sat then v2 else v1)

/-- SRFPLL (R170): states theta, integ, count, locked. -/
def blkPll (alpha beta reset : Int) (k : Nat → Coef) (theta : Nat) (integ0 count0 locked0 : Int) (period : Nat) : BlockOut :=
  let wnom := (k 2).value
  let wmin := (k 3).value
  let wmax := (k 4).value
  let qlock := (k 5).value
  let lockn := (k 6).value
  let i0 := if reset ≠ 0 then 0 else integ0
  let c0 := if reset ≠ 0 then 0 else count0
  let l0 := if reset ≠ 0 then 0 else locked0
  let c := cosQ30 theta
  let s := sinQ30 theta
  let q := sat32 (rshr (-alpha * s + beta * c) 30)
  let d := sat32 (rshr (alpha * c + beta * s) 30)
  let p := mulc q (k 0)
  let i1 := i0 + rshr (q * (k 1).value) (k 1).shift
  let integ := min (max i1 ((wmin - wnom) * 65536)) ((wmax - wnom) * 65536)
  let omega := min (max (wnom + p + asr integ 16) wmin) wmax
  let theta' := angle ((theta : Int) + angleStep omega period)
  let aq : Int := if q < 0 then -q else q
  let count := if aq ≤ qlock then min (c0 + 1) lockn else 0
  let l1 := if count = lockn then 1 else l0
  let locked := if aq > 2 * qlock then 0 else l1
  ⟨[signed 32 theta', omega, d, locked], [signed 32 theta'] ++ splitS64 integ ++ [count, locked]⟩

/-- The largest index i ≤ n with x[i] ≤ x, for a rising table (R171). -/
def lutIndex (x : Int) (k : Nat → Coef) : Nat → Nat
  | 0 => 0
  | n + 1 => if (k (n + 1)).value ≤ x then n + 1 else lutIndex x k n

/-- LUT (R171). -/
def blkLut (n : Nat) (x : Int) (k : Nat → Coef) : Int :=
  if x ≤ (k 0).value then (k n).value
  else if (k (n - 1)).value ≤ x then (k (2 * n - 1)).value
  else
    let i := lutIndex x k (n - 2)
    sat32 ((k (n + i)).value +
      (((k (n + i + 1)).value - (k (n + i)).value) * (x - (k i).value)).fdiv ((k (i + 1)).value - (k i).value))

/-- TRANSFORM (R169). -/
def blkTransform (mode : Nat) (a b c : Int) : List Int :=
  if mode = 0 then
    [sat32 (rshr ((2 * a - b - c) * 715827883) 31), sat32 (rshr ((b - c) * 1239850262) 31)]
  else if mode = 1 then
    [a, sat32 (rshr (-a * 2 ^ 30 + b * 1859775393) 31), sat32 (rshr (-a * 2 ^ 30 - b * 1859775393) 31)]
  else if mode = 2 then
    let cs := cosQ30 (angle c)
    let sn := sinQ30 (angle c)
    [sat32 (rshr (a * cs + b * sn) 30), sat32 (rshr (-a * sn + b * cs) 30)]
  else
    let cs := cosQ30 (angle c)
    let sn := sinQ30 (angle c)
    [sat32 (rshr (a * cs - b * sn) 30), sat32 (rshr (a * sn + b * cs) 30)]

/-- The lowest index at which `f` is best among the inputs (R161). -/
def bestIndex (better : Int → Int → Bool) : List Int → Nat → Nat → Int → Nat
  | [], _, bi, _ => bi
  | x :: t, i, bi, bv => if better x bv then bestIndex better t (i + 1) i x else bestIndex better t (i + 1) bi bv

/-- MINMAX (R161): the value selected and the lowest input that holds it. -/
def blkMinMax (mode : Nat) (ins : List Int) : List Int :=
  let i := bestIndex (fun x v => if mode = 0 then decide (x < v) else decide (x > v)) (ins.drop 1) 1 0 (ins.getD 0 0)
  [ins.getD i 0, (i : Int)]

/-- What an ENERGY block reads of an arm summary (R172). -/
structure ArmEnergy where
  vSum : Nat
  vSqSum : Nat
  nService : Nat
  deriving DecidableEq, Repr, Inhabited

/-- One block (R160 to R173): `k` gives its coefficient entries in order, `st` its committed state words. -/
def evalBlock (type mode opt : Nat) (ins : List Int) (k : Nat → Coef) (st : List Int) (period : Nat)
    (arm : ArmEnergy) : BlockOut :=
  let i := fun n => ins.getD n 0
  let w := fun n => st.getD n 0
  match type with
  | 0x01 => ⟨[blkSum mode opt ins], []⟩
  | 0x02 => ⟨[mulc (i 0) (k 0)], []⟩
  | 0x03 =>
    let (y, sat, integ) := blkPi (i 0) (i 1) (i 2) (k 0) (k 1) (k 2) (k 3) (joinS64 (w 0) (w 1))
    ⟨[y, sat], splitS64 integ⟩
  | 0x04 =>
    let (y, sat, v1, v2) := blkPr (i 0) (i 1) (i 2) mode (k 0) (k 1) (k 2) (k 3) (w 0) (w 1) period
    ⟨[y, sat], [v1, v2]⟩
  | 0x05 =>
    let y := if i 1 ≠ 0 then i 0 else sat32 (w 0 + mulc (sat32 (i 0 - w 0)) (k 0))
    ⟨[y], [y]⟩
  | 0x06 =>
    let rs := i 1 ≠ 0
    let x1 := if rs then i 0 else w 0
    let x2 := if rs then i 0 else w 1
    let y1 := if rs then i 2 else w 2
    let y2 := if rs then i 2 else w 3
    let acc := rshr (i 0 * (k 0).value) (k 0).shift + rshr (x1 * (k 1).value) (k 1).shift
      + rshr (x2 * (k 2).value) (k 2).shift - rshr (y1 * (k 3).value) (k 3).shift
      - rshr (y2 * (k 4).value) (k 4).shift
    let y := sat32 acc
    ⟨[y], [i 0, x1, y, y1]⟩
  | 0x07 =>
    let hi := if ins.length = 1 then (k 0).value else i 1
    let lo := if ins.length = 1 then (k 1).value else i 2
    let y := max (min (i 0) hi) lo
    ⟨[y, i01 (y ≠ i 0)], []⟩
  | 0x08 =>
    let y := if i 1 ≠ 0 then i 0 else sat32 (w 0 + min (max (i 0 - w 0) (-(k 1).value)) (k 0).value)
    ⟨[y], [y]⟩
  | 0x09 =>
    if i 2 = 0 then ⟨[i 1, 0], [i 1, 0]⟩
    else
      let y0 := if w 1 = 0 then i 1 else w 0
      let y := sat32 (y0 + min (max (i 0 - y0) (-(k 0).value)) (k 0).value)
      ⟨[y, i01 (y = i 0)], [y, 1]⟩
  | 0x0A => ⟨blkTransform mode (i 0) (i 1) (i 2), []⟩
  | 0x0B => blkPll (i 0) (i 1) (i 2) k (angle (w 0)) (joinS64 (w 1) (w 2)) (w 3) (w 4) period
  | 0x0C => ⟨[blkLut mode (i 0) k], []⟩
  | 0x0D => ⟨[if i 0 ≠ 0 then i 1 else i 2], []⟩
  | 0x0E =>
    let ix := (w mode).toNat
    ⟨[w ix], (st.take mode).set ix (i 0) ++ [(((ix + 1) % mode : Nat) : Int)]⟩
  | 0x0F =>
    let hold := w 0 ≠ 0 && mode ≠ 2 && decide (i 0 ≥ i 1 - (k 0).value)
    let plain := if mode = 0 then decide (i 0 > i 1) else if mode = 1 then decide (i 0 ≥ i 1) else decide (i 0 = i 1)
    let y := i01 (hold || plain)
    ⟨[y], [y]⟩
  | 0x10 =>
    let q := if mode = 0 then (if i 0 ≠ 0 then 1 else if i 1 ≠ 0 then 0 else w 0)
      else (if i 1 ≠ 0 then 0 else if i 0 ≠ 0 then 1 else w 0)
    ⟨[q], [q]⟩
  | 0x11 => ⟨blkMinMax mode ins, []⟩
  | 0x12 =>
    let p := mode / 16
    ⟨[sat32 (rshr (((min (arm.vSqSum / 2 ^ p) (2 ^ 31 - 1) : Nat) : Int) * (k 0).value) (k 0).shift),
      ((min arm.vSum (2 ^ 31 - 1) : Nat) : Int), (arm.nService : Int)], []⟩
  | 0x13 =>
    let l : Int := mode
    ⟨[sat32 (i 0 - i 1), sat32 ((l * (i 0 + i 1) - 2 * i 2).fdiv (2 * l)), sat32 (i 3 + i 4), sat32 (i 3 - i 4)], []⟩
  | _ => ⟨[], []⟩

/-- The number of state words of a type (Table 07-4). -/
def stateWords (type mode : Nat) : Nat :=
  match type with
  | 0x03 => 2 | 0x04 => 2 | 0x05 => 1 | 0x06 => 4 | 0x08 => 1 | 0x09 => 2 | 0x0B => 5
  | 0x0E => mode + 1 | 0x0F => 1 | 0x10 => 1 | _ => 0

/-- The number of outputs of a type (Table 07-4). -/
def outCount (type mode : Nat) : Nat :=
  match type with
  | 0x03 => 2 | 0x04 => 2 | 0x07 => 2 | 0x09 => 2 | 0x0B => 4 | 0x11 => 2 | 0x12 => 3 | 0x13 => 4
  | 0x0A => if mode = 1 then 3 else 2
  | _ => 1

/-- The number of coefficient entries a block reads (Table 07-4). -/
def coefCount (type mode nIn : Nat) : Nat :=
  match type with
  | 0x02 => 1 | 0x03 => 4 | 0x04 => 4 | 0x05 => 1 | 0x06 => 5 | 0x07 => if nIn = 1 then 2 else 0
  | 0x08 => 2 | 0x09 => 1 | 0x0B => 7 | 0x0C => 2 * mode | 0x0F => 1 | 0x12 => 1 | _ => 0

/-- The static cost of a block before operands and sinks (Table 07-4). -/
def blockCost (type mode nIn : Nat) : Nat :=
  match type with
  | 0x01 => 4 + nIn | 0x02 => 4 | 0x03 => 12 | 0x04 => 20 | 0x05 => 8 | 0x06 => 14 | 0x07 => 5 | 0x08 => 8
  | 0x09 => 10 | 0x0A => if mode ≤ 1 then 10 else 14 | 0x0B => 40 | 0x0C => 24 | 0x0D => 4 | 0x0E => 6
  | 0x0F => 6 | 0x10 => 4 | 0x11 => 4 + nIn | 0x12 => 56 | 0x13 => 24 | _ => 0

/-- The static cost of a block with its fetched operands (R155) and its sink (R156, R174). -/
def fullCost (b : Block) : Nat :=
  let fetched := (b.ops.filter fun o => o / 2 ^ 28 = 3 || o / 2 ^ 28 = 4).length
  let k := b.sink / 4096
  let sink := if k = 0 then 0 else if k = 1 && b.sink % 16 = 0 then 16 else 8
  blockCost b.type b.mode b.nIn + 12 * fetched + sink

end Sys2Proof.Machine
end

