-- ==== Sys2Proof/Machine/Crc.lean ====
section
/-! DEFINITION. The two CRCs of R97 (the CRC-32 is also the section CRC of Table 03-4), computed over data bytes, bit by bit. Each bit is
taken by a match, so that the kernel computes the register before it goes on. -/

namespace Sys2Proof.Machine

/-- `n` bits of the CRC-16 register: polynomial 1021h, not reflected. -/
def crc16Bits : Nat → Nat → Nat
  | 0, c => c
  | n + 1, c =>
    match c / 0x8000 with
    | 0 => crc16Bits n (c * 2)
    | _ => crc16Bits n ((c * 2) % 0x10000 ^^^ 0x1021)

/-- CRC-16 of R97: initial value FFFFh, no final XOR. -/
def crc16 (b : List Byte) : Nat :=
  b.foldl (fun c x => crc16Bits 8 (c ^^^ (x.toNat * 256))) 0xFFFF

/-- `n` bits of the CRC-32 register: polynomial 04C1_1DB7h, reflected. -/
def crc32Bits : Nat → Nat → Nat
  | 0, c => c
  | n + 1, c =>
    match c % 2 with
    | 0 => crc32Bits n (c / 2)
    | _ => crc32Bits n ((c / 2) ^^^ 0xEDB88320)

/-- The bytes of a message through the CRC-32 register. -/
def crc32Bytes : List Byte → Nat → Nat
  | [], c => c
  | x :: l, c =>
    match crc32Bits 8 (c ^^^ x.toNat) with
    | 0 => crc32Bytes l 0
    | r + 1 => crc32Bytes l (r + 1)

/-- CRC-32 of R97 and Table 03-4: initial value and final XOR FFFF_FFFFh. -/
def crc32 (b : List Byte) : Nat := crc32Bytes b 0xFFFFFFFF ^^^ 0xFFFFFFFF

end Sys2Proof.Machine
end

