-- ==== Sys2Proof/Machine/Regs.lean ====
section
/-! DEFINITION. The register fields of BAR0, one definition per field, in the order of the register tables of the chapters
(each docstring names the register and the file of spec/ whose table gives it): its byte address and the one or two strides of a
repeated register, its lowest bit and width, its access code (R13), its reset value and the reset that restores it (R14). -/

namespace Sys2Proof.Machine

/-! IDENT (00_scope.md) -/
def Reg.IDENT.PART : Field := ⟨0x0, 0x0, 1, 0x0, 1, 16, 16, .ro, 1536, 0, .fixed⟩
def Reg.IDENT.STEP_LETTER : Field := ⟨0x0, 0x0, 1, 0x0, 1, 12, 4, .ro, 0, 0, .fixed⟩
def Reg.IDENT.STEP_NUMBER : Field := ⟨0x0, 0x0, 1, 0x0, 1, 8, 4, .ro, 1, 0, .fixed⟩
/-! IDENT_CAPS (00_scope.md) -/
def Reg.IDENT_CAPS.LANES : Field := ⟨0x4, 0x0, 1, 0x0, 1, 0, 8, .ro, 96, 0, .fixed⟩
def Reg.IDENT_CAPS.ARMS : Field := ⟨0x4, 0x0, 1, 0x0, 1, 8, 4, .ro, 12, 0, .fixed⟩
def Reg.IDENT_CAPS.DRIVE_UNITS : Field := ⟨0x4, 0x0, 1, 0x0, 1, 12, 3, .ro, 4, 0, .fixed⟩
def Reg.IDENT_CAPS.CURVE : Field := ⟨0x4, 0x0, 1, 0x0, 1, 15, 1, .ro, 1, 0, .fixed⟩
def Reg.IDENT_CAPS.PRIV_MAX : Field := ⟨0x4, 0x0, 1, 0x0, 1, 16, 3, .ro, 2, 0, .fixed⟩
/-! ROLE_COUNT (01_architecture.md) -/
def Reg.ROLE_COUNT.LANE_SLICES : Field := ⟨0x10, 0x0, 1, 0x0, 1, 0, 7, .ro, 0, 0, .dev⟩
def Reg.ROLE_COUNT.ARM_SLICES : Field := ⟨0x10, 0x0, 1, 0x0, 1, 8, 4, .ro, 0, 0, .dev⟩
def Reg.ROLE_COUNT.RECORDER : Field := ⟨0x10, 0x0, 1, 0x0, 1, 12, 3, .ro, 0, 0, .dev⟩
def Reg.ROLE_COUNT.MIRROR : Field := ⟨0x10, 0x0, 1, 0x0, 1, 15, 1, .ro, 0, 0, .dev⟩
def Reg.ROLE_COUNT.SPARE : Field := ⟨0x10, 0x0, 1, 0x0, 1, 16, 7, .ro, 0, 0, .dev⟩
def Reg.ROLE_COUNT.UNASSIGNED : Field := ⟨0x10, 0x0, 1, 0x0, 1, 24, 7, .ro, 0, 0, .dev⟩
/-! DOMAIN_STATE (01_architecture.md) -/
def Reg.DOMAIN_STATE.FABRIC : Field := ⟨0x14, 0x0, 1, 0x0, 1, 0, 1, .ro, 0, 0, .dev⟩
def Reg.DOMAIN_STATE.PLANE_A : Field := ⟨0x14, 0x0, 1, 0x0, 1, 1, 1, .ro, 0, 0, .dev⟩
def Reg.DOMAIN_STATE.PLANE_B : Field := ⟨0x14, 0x0, 1, 0x0, 1, 2, 1, .ro, 0, 0, .dev⟩
def Reg.DOMAIN_STATE.LANE_PHY : Field := ⟨0x14, 0x0, 1, 0x0, 1, 3, 1, .ro, 0, 0, .dev⟩
def Reg.DOMAIN_STATE.BB_PHY : Field := ⟨0x14, 0x0, 1, 0x0, 1, 4, 1, .ro, 0, 0, .dev⟩
def Reg.DOMAIN_STATE.ANALOG : Field := ⟨0x14, 0x0, 1, 0x0, 1, 5, 1, .ro, 0, 0, .dev⟩
def Reg.DOMAIN_STATE.DRAM_ACTIVE : Field := ⟨0x14, 0x0, 1, 0x0, 1, 6, 1, .ro, 0, 0, .dev⟩
def Reg.DOMAIN_STATE.DRAM_SR : Field := ⟨0x14, 0x0, 1, 0x0, 1, 7, 1, .ro, 0, 0, .dev⟩
def Reg.DOMAIN_STATE.DRV_LINK : Field := ⟨0x14, 0x0, 1, 0x0, 1, 8, 4, .ro, 0, 0, .dev⟩
/-! XBAR_WAIT (01_architecture.md) -/
def Reg.XBAR_WAIT.ENG_MAX_WAIT : Field := ⟨0x18, 0x0, 1, 0x0, 1, 0, 16, .ro, 0, 0, .dev⟩
def Reg.XBAR_WAIT.HOST_MAX_WAIT : Field := ⟨0x18, 0x0, 1, 0x0, 1, 16, 15, .ro, 0, 0, .dev⟩
def Reg.XBAR_WAIT.CLEAR : Field := ⟨0x18, 0x0, 1, 0x0, 1, 31, 1, .wo, 0, 0, .dev⟩
/-! FRAME_PERIOD (02_frame_tick.md) -/
def Reg.FRAME_PERIOD.PERIOD : Field := ⟨0x7000, 0x0, 1, 0x0, 1, 0, 16, .ro, 20000, 0, .dev⟩
/-! FRAME_NO (02_frame_tick.md) -/
def Reg.FRAME_NO.FRAME_NO : Field := ⟨0x7004, 0x0, 1, 0x0, 1, 0, 32, .ro, 0, 0, .dev⟩
/-! FRAME_PHASE0 (02_frame_tick.md) -/
def Reg.FRAME_PHASE0.SAMPLE : Field := ⟨0x7008, 0x0, 1, 0x0, 1, 0, 16, .ro, 3000, 0, .dev⟩
def Reg.FRAME_PHASE0.APPLY : Field := ⟨0x7008, 0x0, 1, 0x0, 1, 16, 16, .ro, 3000, 0, .dev⟩
/-! FRAME_PHASE1 (02_frame_tick.md) -/
def Reg.FRAME_PHASE1.FREEZE : Field := ⟨0x700c, 0x0, 1, 0x0, 1, 0, 16, .ro, 5500, 0, .dev⟩
def Reg.FRAME_PHASE1.COMPUTE_END : Field := ⟨0x700c, 0x0, 1, 0x0, 1, 16, 16, .ro, 8250, 0, .dev⟩
/-! FRAME_PHASE2 (02_frame_tick.md) -/
def Reg.FRAME_PHASE2.RANK_END : Field := ⟨0x7010, 0x0, 1, 0x0, 1, 0, 16, .ro, 9750, 0, .dev⟩
/-! FRAME_STATUS (02_frame_tick.md) -/
def Reg.FRAME_STATUS.RUNNING : Field := ⟨0x7014, 0x0, 1, 0x0, 1, 0, 1, .ro, 0, 0, .dev⟩
def Reg.FRAME_STATUS.FROZEN_BUF : Field := ⟨0x7014, 0x0, 1, 0x0, 1, 1, 1, .ro, 0, 0, .dev⟩
def Reg.FRAME_STATUS.DISCIPLINED : Field := ⟨0x7014, 0x0, 1, 0x0, 1, 2, 1, .ro, 0, 0, .dev⟩
def Reg.FRAME_STATUS.COAST : Field := ⟨0x7014, 0x0, 1, 0x0, 1, 3, 1, .ro, 0, 0, .dev⟩
/-! FRAME_TICK_NS_LO (02_frame_tick.md) -/
def Reg.FRAME_TICK_NS_LO.TICK_NS : Field := ⟨0x7018, 0x0, 1, 0x0, 1, 0, 32, .ro, 0, 0, .dev⟩
/-! FRAME_TICK_NS_HI (02_frame_tick.md) -/
def Reg.FRAME_TICK_NS_HI.TICK_NS : Field := ⟨0x701c, 0x0, 1, 0x0, 1, 0, 32, .ro, 0, 0, .dev⟩
/-! OVERRUN_COUNT (02_frame_tick.md) -/
def Reg.OVERRUN_COUNT.COMPUTE : Field := ⟨0x7020, 0x0, 1, 0x0, 1, 0, 16, .ro, 0, 0, .dev⟩
def Reg.OVERRUN_COUNT.RANK : Field := ⟨0x7020, 0x0, 1, 0x0, 1, 16, 16, .ro, 0, 0, .dev⟩
/-! OVERRUN_LAST (02_frame_tick.md) -/
def Reg.OVERRUN_LAST.FRAME : Field := ⟨0x7024, 0x0, 1, 0x0, 1, 0, 32, .ro, 0, 0, .dev⟩
/-! STALE_COUNT (02_frame_tick.md) -/
def Reg.STALE_COUNT.STALE : Field := ⟨0x7028, 0x0, 1, 0x0, 1, 0, 16, .ro, 0, 0, .dev⟩
def Reg.STALE_COUNT.LATE : Field := ⟨0x7028, 0x0, 1, 0x0, 1, 16, 16, .ro, 0, 0, .dev⟩
/-! DUP_COUNT (02_frame_tick.md) -/
def Reg.DUP_COUNT.DUP : Field := ⟨0x702c, 0x0, 1, 0x0, 1, 0, 16, .ro, 0, 0, .dev⟩
def Reg.DUP_COUNT.OLD : Field := ⟨0x702c, 0x0, 1, 0x0, 1, 16, 16, .ro, 0, 0, .dev⟩
/-! TRK_STATUS (02_frame_tick.md) -/
def Reg.TRK_STATUS.CTRL_HIWATER : Field := ⟨0x7030, 0x0, 1, 0x0, 1, 0, 10, .ro, 0, 0, .dev⟩
def Reg.TRK_STATUS.CTRL_INUSE : Field := ⟨0x7030, 0x0, 1, 0x0, 1, 10, 10, .ro, 0, 0, .dev⟩
/-! TRK_BP_COUNT (02_frame_tick.md) -/
def Reg.TRK_BP_COUNT.FRAMES : Field := ⟨0x7034, 0x0, 1, 0x0, 1, 0, 32, .ro, 0, 0, .dev⟩
/-! TRK_TIMEOUT_COUNT (02_frame_tick.md) -/
def Reg.TRK_TIMEOUT_COUNT.TIMEOUTS : Field := ⟨0x7038, 0x0, 1, 0x0, 1, 0, 16, .ro, 0, 0, .dev⟩
/-! PLAN_LEVEL (02_frame_tick.md) -/
def Reg.PLAN_LEVEL.CURRENT : Field := ⟨0x7040, 0x0, 1, 0x0, 1, 0, 2, .ro, 0, 0, .dev⟩
def Reg.PLAN_LEVEL.TARGET : Field := ⟨0x7040, 0x0, 1, 0x0, 1, 2, 2, .ro, 0, 0, .dev⟩
def Reg.PLAN_LEVEL.LIMIT : Field := ⟨0x7040, 0x0, 1, 0x0, 1, 4, 2, .ro, 0, 0, .dev⟩
def Reg.PLAN_LEVEL.CAP : Field := ⟨0x7040, 0x0, 1, 0x0, 1, 6, 2, .ro, 0, 0, .dev⟩
def Reg.PLAN_LEVEL.SLACK_LOW : Field := ⟨0x7040, 0x0, 1, 0x0, 1, 8, 1, .ro, 0, 0, .dev⟩
def Reg.PLAN_LEVEL.STATIC : Field := ⟨0x7040, 0x0, 1, 0x0, 1, 9, 1, .ro, 1, 0, .dev⟩
def Reg.PLAN_LEVEL.THROTTLE : Field := ⟨0x7040, 0x0, 1, 0x0, 1, 10, 1, .ro, 0, 0, .dev⟩
/-! PLAN_FORECAST (02_frame_tick.md) -/
def Reg.PLAN_FORECAST.ENG_NEED : Field := ⟨0x7044, 0x0, 1, 0x0, 1, 0, 16, .ro, 0, 0, .dev⟩
def Reg.PLAN_FORECAST.FAB_NEED : Field := ⟨0x7044, 0x0, 1, 0x0, 1, 16, 16, .ro, 0, 0, .dev⟩
/-! PLAN_CAPACITY (02_frame_tick.md) -/
def Reg.PLAN_CAPACITY.ENG_CAP : Field := ⟨0x7048, 0x0, 1, 0x0, 1, 0, 16, .ro, 0, 0, .dev⟩
def Reg.PLAN_CAPACITY.FAB_CAP : Field := ⟨0x7048, 0x0, 1, 0x0, 1, 16, 16, .ro, 0, 0, .dev⟩
/-! PLAN_POWER (02_frame_tick.md) -/
def Reg.PLAN_POWER.MEASURED : Field := ⟨0x704c, 0x0, 1, 0x0, 1, 0, 16, .ro, 0, 0, .dev⟩
def Reg.PLAN_POWER.BUDGET : Field := ⟨0x704c, 0x0, 1, 0x0, 1, 16, 16, .rw, 56000, 0, .dev⟩
/-! PLAN_THERMAL (02_frame_tick.md) -/
def Reg.PLAN_THERMAL.HEADROOM : Field := ⟨0x7050, 0x0, 1, 0x0, 1, 0, 8, .ro, 0, 0, .dev⟩
def Reg.PLAN_THERMAL.MARGIN : Field := ⟨0x7050, 0x0, 1, 0x0, 1, 8, 8, .rw, 10, 0, .dev⟩
def Reg.PLAN_THERMAL.SHED_STEP : Field := ⟨0x7050, 0x0, 1, 0x0, 1, 16, 3, .ro, 0, 0, .dev⟩
/-! PLAN_BG_ORDER (02_frame_tick.md) -/
def Reg.PLAN_BG_ORDER.ORDER : Field := ⟨0x7054, 0x0, 1, 0x0, 1, 0, 15, .ro, 0, 0, .dev⟩
/-! PLAN_BG_STATUS (02_frame_tick.md) -/
def Reg.PLAN_BG_STATUS.RAN : Field := ⟨0x7058, 0x0, 1, 0x0, 1, 0, 5, .ro, 0, 0, .dev⟩
def Reg.PLAN_BG_STATUS.STOPPED_BY : Field := ⟨0x7058, 0x0, 1, 0x0, 1, 5, 3, .ro, 0, 0, .dev⟩
def Reg.PLAN_BG_STATUS.SHARE : Field := ⟨0x7058, 0x0, 1, 0x0, 1, 8, 8, .ro, 0, 0, .dev⟩
def Reg.PLAN_BG_STATUS.GAPS : Field := ⟨0x7058, 0x0, 1, 0x0, 1, 16, 16, .ro, 0, 0, .dev⟩
/-! FRAME_CLEAR (02_frame_tick.md) -/
def Reg.FRAME_CLEAR.OVERRUN : Field := ⟨0x705c, 0x0, 1, 0x0, 1, 0, 1, .wo, 0, 0, .dev⟩
def Reg.FRAME_CLEAR.STALE : Field := ⟨0x705c, 0x0, 1, 0x0, 1, 1, 1, .wo, 0, 0, .dev⟩
def Reg.FRAME_CLEAR.TRACKER : Field := ⟨0x705c, 0x0, 1, 0x0, 1, 2, 1, .wo, 0, 0, .dev⟩
def Reg.FRAME_CLEAR.GAPS : Field := ⟨0x705c, 0x0, 1, 0x0, 1, 3, 1, .wo, 0, 0, .dev⟩
/-! FRAME_EVENT (02_frame_tick.md) -/
def Reg.FRAME_EVENT.OVERRUN : Field := ⟨0x7060, 0x0, 1, 0x0, 1, 0, 1, .w1c, 0, 0, .dev⟩
def Reg.FRAME_EVENT.SLACK_LOW : Field := ⟨0x7060, 0x0, 1, 0x0, 1, 1, 1, .w1c, 0, 0, .dev⟩
def Reg.FRAME_EVENT.THROTTLE : Field := ⟨0x7060, 0x0, 1, 0x0, 1, 2, 1, .w1c, 0, 0, .dev⟩
def Reg.FRAME_EVENT.SHED : Field := ⟨0x7060, 0x0, 1, 0x0, 1, 3, 1, .w1c, 0, 0, .dev⟩
def Reg.FRAME_EVENT.PERIOD : Field := ⟨0x7060, 0x0, 1, 0x0, 1, 4, 1, .w1c, 0, 0, .dev⟩
/-! FRAME_EVENT_EN (02_frame_tick.md) -/
def Reg.FRAME_EVENT_EN.EN : Field := ⟨0x7064, 0x0, 1, 0x0, 1, 0, 5, .rw, 0, 0, .dev⟩
/-! IMAGE_CTRL (03_kickoff_image.md) -/
def Reg.IMAGE_CTRL.LOAD : Field := ⟨0x10000, 0x0, 1, 0x0, 1, 0, 1, .w1s, 0, 0, .dev⟩
def Reg.IMAGE_CTRL.SRC : Field := ⟨0x10000, 0x0, 1, 0x0, 1, 1, 2, .rw, 0, 0, .dev⟩
def Reg.IMAGE_CTRL.ABORT : Field := ⟨0x10000, 0x0, 1, 0x0, 1, 3, 1, .w1s, 0, 0, .dev⟩
def Reg.IMAGE_CTRL.EPOCH_BURN : Field := ⟨0x10000, 0x0, 1, 0x0, 1, 4, 1, .w1s, 0, 0, .dev⟩
/-! IMAGE_STAGE_SIZE (03_kickoff_image.md) -/
def Reg.IMAGE_STAGE_SIZE.SIZE : Field := ⟨0x10004, 0x0, 1, 0x0, 1, 0, 32, .rw, 0, 0, .dev⟩
/-! IMAGE_STATUS (03_kickoff_image.md) -/
def Reg.IMAGE_STATUS.STATE : Field := ⟨0x10008, 0x0, 1, 0x0, 1, 0, 4, .ro, 0, 0, .dev⟩
def Reg.IMAGE_STATUS.SOURCE : Field := ⟨0x10008, 0x0, 1, 0x0, 1, 4, 2, .ro, 0, 0, .dev⟩
def Reg.IMAGE_STATUS.CODE : Field := ⟨0x10008, 0x0, 1, 0x0, 1, 16, 16, .ro, 0, 0, .dev⟩
/-! IMAGE_ERR_SECTION (03_kickoff_image.md) -/
def Reg.IMAGE_ERR_SECTION.INDEX : Field := ⟨0x1000c, 0x0, 1, 0x0, 1, 0, 16, .ro, 0, 0, .dev⟩
def Reg.IMAGE_ERR_SECTION.TYPE : Field := ⟨0x1000c, 0x0, 1, 0x0, 1, 16, 16, .ro, 0, 0, .dev⟩
/-! IMAGE_ERR_OFFSET (03_kickoff_image.md) -/
def Reg.IMAGE_ERR_OFFSET.OFFSET : Field := ⟨0x10010, 0x0, 1, 0x0, 1, 0, 32, .ro, 0, 0, .dev⟩
/-! IMAGE_PRIMARY_CODE (03_kickoff_image.md) -/
def Reg.IMAGE_PRIMARY_CODE.CODE : Field := ⟨0x10014, 0x0, 1, 0x0, 1, 0, 16, .ro, 0, 0, .dev⟩
/-! IMAGE_ID_LO (03_kickoff_image.md) -/
def Reg.IMAGE_ID_LO.ID : Field := ⟨0x10018, 0x0, 1, 0x0, 1, 0, 32, .ro, 0, 0, .dev⟩
/-! IMAGE_ID_HI (03_kickoff_image.md) -/
def Reg.IMAGE_ID_HI.ID : Field := ⟨0x1001c, 0x0, 1, 0x0, 1, 0, 32, .ro, 0, 0, .dev⟩
/-! IMAGE_INFO (03_kickoff_image.md) -/
def Reg.IMAGE_INFO.VERSION : Field := ⟨0x10020, 0x0, 1, 0x0, 1, 0, 32, .ro, 0, 0, .dev⟩
/-! IMAGE_SIZE (03_kickoff_image.md) -/
def Reg.IMAGE_SIZE.SIZE : Field := ⟨0x10024, 0x0, 1, 0x0, 1, 0, 32, .ro, 0, 0, .dev⟩
/-! IMAGE_KEY (03_kickoff_image.md) -/
def Reg.IMAGE_KEY.SLOT_USED : Field := ⟨0x10028, 0x0, 1, 0x0, 1, 0, 2, .ro, 0, 0, .dev⟩
def Reg.IMAGE_KEY.PROGRAMMED : Field := ⟨0x10028, 0x0, 1, 0x0, 1, 4, 4, .ro, 0, 0, .dev⟩
def Reg.IMAGE_KEY.REVOKED : Field := ⟨0x10028, 0x0, 1, 0x0, 1, 8, 4, .ro, 0, 0, .dev⟩
def Reg.IMAGE_KEY.EPOCH_FUSED : Field := ⟨0x10028, 0x0, 1, 0x0, 1, 14, 6, .ro, 0, 0, .dev⟩
def Reg.IMAGE_KEY.EPOCH_IMAGE : Field := ⟨0x10028, 0x0, 1, 0x0, 1, 20, 6, .ro, 0, 0, .dev⟩
/-! IMAGE_BOOT (03_kickoff_image.md) -/
def Reg.IMAGE_BOOT.BOOT_SRC : Field := ⟨0x1002c, 0x0, 1, 0x0, 1, 0, 2, .ro, 0, 0, .dev⟩
def Reg.IMAGE_BOOT.SFDP_OK : Field := ⟨0x1002c, 0x0, 1, 0x0, 1, 2, 1, .ro, 0, 0, .dev⟩
def Reg.IMAGE_BOOT.SECONDARY : Field := ⟨0x1002c, 0x0, 1, 0x0, 1, 3, 1, .ro, 0, 0, .dev⟩
def Reg.IMAGE_BOOT.DENSITY_MB : Field := ⟨0x1002c, 0x0, 1, 0x0, 1, 16, 16, .ro, 0, 0, .dev⟩
/-! IMAGE_SUBST_REQ (03_kickoff_image.md) -/
def Reg.IMAGE_SUBST_REQ.SLICE : Field := ⟨0x10030, 0x0, 1, 0x0, 1, 0, 7, .rw, 0, 0, .dev⟩
def Reg.IMAGE_SUBST_REQ.GO : Field := ⟨0x10030, 0x0, 1, 0x0, 1, 31, 1, .w1s, 0, 0, .dev⟩
/-! IMAGE_SUBST_STATUS (03_kickoff_image.md) -/
def Reg.IMAGE_SUBST_STATUS.OLD : Field := ⟨0x10034, 0x0, 1, 0x0, 1, 0, 7, .ro, 0, 0, .dev⟩
def Reg.IMAGE_SUBST_STATUS.BUSY : Field := ⟨0x10034, 0x0, 1, 0x0, 1, 7, 1, .ro, 0, 0, .dev⟩
def Reg.IMAGE_SUBST_STATUS.NEW : Field := ⟨0x10034, 0x0, 1, 0x0, 1, 8, 7, .ro, 0, 0, .dev⟩
def Reg.IMAGE_SUBST_STATUS.COUNT : Field := ⟨0x10034, 0x0, 1, 0x0, 1, 16, 8, .ro, 0, 0, .dev⟩
def Reg.IMAGE_SUBST_STATUS.RESULT : Field := ⟨0x10034, 0x0, 1, 0x0, 1, 24, 3, .ro, 0, 0, .dev⟩
/-! IMAGE_SUBST_FRAME (03_kickoff_image.md) -/
def Reg.IMAGE_SUBST_FRAME.FRAME : Field := ⟨0x10038, 0x0, 1, 0x0, 1, 0, 32, .ro, 0, 0, .dev⟩
/-! IMAGE_SLICE_FAIL (03_kickoff_image.md) -/
def Reg.IMAGE_SLICE_FAIL.FAIL : Field := ⟨0x10040, 0x4, 4, 0x0, 1, 0, 32, .ro, 0, 0, .dev⟩
/-! IMAGE_EVENT (03_kickoff_image.md) -/
def Reg.IMAGE_EVENT.DONE : Field := ⟨0x10050, 0x0, 1, 0x0, 1, 0, 1, .w1c, 0, 0, .dev⟩
def Reg.IMAGE_EVENT.SUBST : Field := ⟨0x10050, 0x0, 1, 0x0, 1, 1, 1, .w1c, 0, 0, .dev⟩
def Reg.IMAGE_EVENT.SPARE_LOW : Field := ⟨0x10050, 0x0, 1, 0x0, 1, 2, 1, .w1c, 0, 0, .dev⟩
/-! IMAGE_EVENT_EN (03_kickoff_image.md) -/
def Reg.IMAGE_EVENT_EN.EN : Field := ⟨0x10054, 0x0, 1, 0x0, 1, 0, 3, .rw, 0, 0, .dev⟩
/-! KEY_DATA (03_kickoff_image.md) -/
def Reg.KEY_DATA.HASH : Field := ⟨0x10060, 0x4, 12, 0x0, 1, 0, 32, .wo, 0, 0, .dev⟩
/-! KEY_CMD (03_kickoff_image.md) -/
def Reg.KEY_CMD.SLOT : Field := ⟨0x10090, 0x0, 1, 0x0, 1, 0, 2, .wo, 0, 0, .dev⟩
def Reg.KEY_CMD.OP : Field := ⟨0x10090, 0x0, 1, 0x0, 1, 2, 2, .wo, 0, 0, .dev⟩
def Reg.KEY_CMD.UNLOCK : Field := ⟨0x10090, 0x0, 1, 0x0, 1, 16, 16, .wo, 0, 0, .dev⟩
/-! KEY_STATUS (03_kickoff_image.md) -/
def Reg.KEY_STATUS.BUSY : Field := ⟨0x10094, 0x0, 1, 0x0, 1, 0, 1, .ro, 0, 0, .dev⟩
def Reg.KEY_STATUS.RESULT : Field := ⟨0x10094, 0x0, 1, 0x0, 1, 1, 3, .ro, 0, 0, .dev⟩
/-! LANE_CTRL (04_mesia_link.md) -/
def Reg.LANE_CTRL.FORCE_IDLE : Field := ⟨0x100000, 0x1000, 96, 0x0, 1, 0, 1, .rw, 0, 0, .dev⟩
def Reg.LANE_CTRL.CALLUP : Field := ⟨0x100000, 0x1000, 96, 0x0, 1, 1, 1, .w1s, 0, 0, .dev⟩
def Reg.LANE_CTRL.RESTORE : Field := ⟨0x100000, 0x1000, 96, 0x0, 1, 2, 1, .w1s, 0, 0, .dev⟩
def Reg.LANE_CTRL.AUTO_RESTORE : Field := ⟨0x100000, 0x1000, 96, 0x0, 1, 3, 1, .rw, 1, 0, .dev⟩
/-! LANE_STATUS (04_mesia_link.md) -/
def Reg.LANE_STATUS.STATE : Field := ⟨0x100004, 0x1000, 96, 0x0, 1, 0, 3, .ro, 0, 0, .dev⟩
def Reg.LANE_STATUS.SYNC : Field := ⟨0x100004, 0x1000, 96, 0x0, 1, 3, 1, .ro, 0, 0, .dev⟩
def Reg.LANE_STATUS.CHAIN_LATE : Field := ⟨0x100004, 0x1000, 96, 0x0, 1, 4, 1, .ro, 0, 0, .dev⟩
def Reg.LANE_STATUS.MOVING : Field := ⟨0x100004, 0x1000, 96, 0x0, 1, 5, 1, .ro, 0, 0, .dev⟩
def Reg.LANE_STATUS.SERVED : Field := ⟨0x100004, 0x1000, 96, 0x0, 1, 8, 6, .ro, 0, 0, .dev⟩
def Reg.LANE_STATUS.FIRST_Q : Field := ⟨0x100004, 0x1000, 96, 0x0, 1, 16, 6, .ro, 0, 0, .dev⟩
/-! LANE_CHAIN (04_mesia_link.md) -/
def Reg.LANE_CHAIN.SPLIT : Field := ⟨0x100008, 0x1000, 96, 0x0, 1, 0, 6, .ro, 0, 0, .dev⟩
def Reg.LANE_CHAIN.GAP : Field := ⟨0x100008, 0x1000, 96, 0x0, 1, 8, 6, .ro, 0, 0, .dev⟩
def Reg.LANE_CHAIN.CELLS : Field := ⟨0x100008, 0x1000, 96, 0x0, 1, 16, 6, .ro, 0, 0, .dev⟩
def Reg.LANE_CHAIN.PHYS : Field := ⟨0x100008, 0x1000, 96, 0x0, 1, 24, 6, .ro, 0, 0, .dev⟩
def Reg.LANE_CHAIN.LOOPED : Field := ⟨0x100008, 0x1000, 96, 0x0, 1, 30, 1, .ro, 0, 0, .dev⟩
/-! LANE_SEGDOWN_LO (04_mesia_link.md) -/
def Reg.LANE_SEGDOWN_LO.DOWN : Field := ⟨0x10000c, 0x1000, 96, 0x0, 1, 0, 32, .ro, 0, 0, .dev⟩
/-! LANE_SEGDOWN_HI (04_mesia_link.md) -/
def Reg.LANE_SEGDOWN_HI.DOWN : Field := ⟨0x100010, 0x1000, 96, 0x0, 1, 0, 32, .ro, 0, 0, .dev⟩
/-! LANE_UPBASE (04_mesia_link.md) -/
def Reg.LANE_UPBASE.U : Field := ⟨0x100014, 0x1000, 96, 0x0, 1, 0, 16, .ro, 0, 0, .dev⟩
/-! LANE_BUDGET (04_mesia_link.md) -/
def Reg.LANE_BUDGET.DELIVERY : Field := ⟨0x100018, 0x1000, 96, 0x0, 1, 0, 16, .ro, 0, 0, .dev⟩
def Reg.LANE_BUDGET.COMPLETION : Field := ⟨0x100018, 0x1000, 96, 0x0, 1, 16, 16, .ro, 0, 0, .dev⟩
/-! LANE_LOOP (04_mesia_link.md) -/
def Reg.LANE_LOOP.LOOP_NS : Field := ⟨0x10001c, 0x1000, 96, 0x0, 1, 0, 16, .ro, 0, 0, .dev⟩
/-! LANE_CRC32_ERR (04_mesia_link.md) -/
def Reg.LANE_CRC32_ERR.TRAIN : Field := ⟨0x100020, 0x1000, 96, 0x0, 1, 0, 16, .ro, 0, 0, .dev⟩
def Reg.LANE_CRC32_ERR.SLOT : Field := ⟨0x100020, 0x1000, 96, 0x0, 1, 16, 16, .ro, 0, 0, .dev⟩
/-! LANE_CODE_ERR (04_mesia_link.md) -/
def Reg.LANE_CODE_ERR.CODE : Field := ⟨0x100024, 0x1000, 96, 0x0, 1, 0, 12, .ro, 0, 0, .dev⟩
def Reg.LANE_CODE_ERR.LOS : Field := ⟨0x100024, 0x1000, 96, 0x0, 1, 12, 8, .ro, 0, 0, .dev⟩
def Reg.LANE_CODE_ERR.POS : Field := ⟨0x100024, 0x1000, 96, 0x0, 1, 20, 8, .ro, 0, 0, .dev⟩
/-! LANE_LATE (04_mesia_link.md) -/
def Reg.LANE_LATE.SLOTS : Field := ⟨0x100028, 0x1000, 96, 0x0, 1, 0, 16, .ro, 0, 0, .dev⟩
def Reg.LANE_LATE.FRAMES : Field := ⟨0x100028, 0x1000, 96, 0x0, 1, 16, 16, .ro, 0, 0, .dev⟩
/-! LANE_CLEAR (04_mesia_link.md) -/
def Reg.LANE_CLEAR.COUNTS : Field := ⟨0x10002c, 0x1000, 96, 0x0, 1, 0, 1, .wo, 0, 0, .dev⟩
/-! LANE_EVENT (04_mesia_link.md) -/
def Reg.LANE_EVENT.LOST : Field := ⟨0x100030, 0x1000, 96, 0x0, 1, 0, 1, .w1c, 0, 0, .dev⟩
def Reg.LANE_EVENT.SYNC : Field := ⟨0x100030, 0x1000, 96, 0x0, 1, 1, 1, .w1c, 0, 0, .dev⟩
def Reg.LANE_EVENT.READY : Field := ⟨0x100030, 0x1000, 96, 0x0, 1, 2, 1, .w1c, 0, 0, .dev⟩
def Reg.LANE_EVENT.MOVE : Field := ⟨0x100030, 0x1000, 96, 0x0, 1, 3, 1, .w1c, 0, 0, .dev⟩
def Reg.LANE_EVENT.CHAIN_LATE : Field := ⟨0x100030, 0x1000, 96, 0x0, 1, 4, 1, .w1c, 0, 0, .dev⟩
def Reg.LANE_EVENT.UNROSTERED : Field := ⟨0x100030, 0x1000, 96, 0x0, 1, 5, 1, .w1c, 0, 0, .dev⟩
/-! LANE_EVENT_EN (04_mesia_link.md) -/
def Reg.LANE_EVENT_EN.EN : Field := ⟨0x100034, 0x1000, 96, 0x0, 1, 0, 6, .rw, 0, 0, .dev⟩
/-! LANE_DELAY (04_mesia_link.md) -/
def Reg.LANE_DELAY.D : Field := ⟨0x100100, 0x1000, 96, 0x4, 32, 0, 16, .ro, 0, 0, .dev⟩
def Reg.LANE_DELAY.VALID : Field := ⟨0x100100, 0x1000, 96, 0x4, 32, 16, 1, .ro, 0, 0, .dev⟩
/-! CELL_STATE (05_team_sheet.md) -/
def Reg.CELL_STATE.STATE : Field := ⟨0x300000, 0x40, 1536, 0x0, 1, 0, 3, .ro, 0, 0, .dev⟩
def Reg.CELL_STATE.EXCLUDED : Field := ⟨0x300000, 0x40, 1536, 0x0, 1, 3, 1, .ro, 0, 0, .dev⟩
def Reg.CELL_STATE.CONFIRMED : Field := ⟨0x300000, 0x40, 1536, 0x0, 1, 4, 1, .ro, 0, 0, .dev⟩
def Reg.CELL_STATE.NO_BYPASS : Field := ⟨0x300000, 0x40, 1536, 0x0, 1, 5, 1, .ro, 0, 0, .dev⟩
def Reg.CELL_STATE.NO_REPLY : Field := ⟨0x300000, 0x40, 1536, 0x0, 1, 6, 1, .ro, 0, 0, .dev⟩
def Reg.CELL_STATE.CALL_QUEUED : Field := ⟨0x300000, 0x40, 1536, 0x0, 1, 7, 1, .ro, 0, 0, .dev⟩
def Reg.CELL_STATE.REASON : Field := ⟨0x300000, 0x40, 1536, 0x0, 1, 8, 4, .ro, 0, 0, .dev⟩
def Reg.CELL_STATE.T_INVALID : Field := ⟨0x300000, 0x40, 1536, 0x0, 1, 12, 1, .ro, 0, 0, .dev⟩
/-! CELL_PLACE (05_team_sheet.md) -/
def Reg.CELL_PLACE.CHAIN : Field := ⟨0x300004, 0x40, 1536, 0x0, 1, 0, 6, .ro, 0, 0, .dev⟩
def Reg.CELL_PLACE.POS : Field := ⟨0x300004, 0x40, 1536, 0x0, 1, 8, 5, .ro, 0, 0, .dev⟩
def Reg.CELL_PLACE.END : Field := ⟨0x300004, 0x40, 1536, 0x0, 1, 13, 1, .ro, 0, 0, .dev⟩
def Reg.CELL_PLACE.REACHABLE : Field := ⟨0x300004, 0x40, 1536, 0x0, 1, 14, 1, .ro, 0, 0, .dev⟩
def Reg.CELL_PLACE.ARM : Field := ⟨0x300004, 0x40, 1536, 0x0, 1, 16, 4, .ro, 0, 0, .dev⟩
def Reg.CELL_PLACE.CLASS : Field := ⟨0x300004, 0x40, 1536, 0x0, 1, 20, 2, .ro, 0, 0, .dev⟩
/-! CELL_VOLT (05_team_sheet.md) -/
def Reg.CELL_VOLT.V_USED : Field := ⟨0x300008, 0x40, 1536, 0x0, 1, 0, 16, .ro, 0, 0, .dev⟩
def Reg.CELL_VOLT.V2_USED : Field := ⟨0x300008, 0x40, 1536, 0x0, 1, 16, 16, .ro, 0, 0, .dev⟩
/-! CELL_TEMP (05_team_sheet.md) -/
def Reg.CELL_TEMP.T_HS : Field := ⟨0x30000c, 0x40, 1536, 0x0, 1, 0, 12, .ro, 0, 0, .dev⟩
def Reg.CELL_TEMP.TJ : Field := ⟨0x30000c, 0x40, 1536, 0x0, 1, 16, 12, .ro, 0, 0, .dev⟩
/-! CELL_FAULT (05_team_sheet.md) -/
def Reg.CELL_FAULT.REPORTED : Field := ⟨0x300010, 0x40, 1536, 0x0, 1, 0, 8, .ro, 0, 0, .dev⟩
def Reg.CELL_FAULT.SEEN : Field := ⟨0x300010, 0x40, 1536, 0x0, 1, 8, 8, .ro, 0, 0, .dev⟩
def Reg.CELL_FAULT.TOGGLES : Field := ⟨0x300010, 0x40, 1536, 0x0, 1, 16, 4, .ro, 0, 0, .dev⟩
/-! CELL_COUNT (05_team_sheet.md) -/
def Reg.CELL_COUNT.EXCLUDED : Field := ⟨0x300014, 0x40, 1536, 0x0, 1, 0, 16, .ro, 0, 0, .dev⟩
def Reg.CELL_COUNT.SWAPS : Field := ⟨0x300014, 0x40, 1536, 0x0, 1, 16, 8, .ro, 0, 0, .dev⟩
/-! CELL_STATE_FRAME (05_team_sheet.md) -/
def Reg.CELL_STATE_FRAME.FRAME : Field := ⟨0x300018, 0x40, 1536, 0x0, 1, 0, 32, .ro, 0, 0, .dev⟩
/-! CELL_LAST_FRESH (05_team_sheet.md) -/
def Reg.CELL_LAST_FRESH.FRAME : Field := ⟨0x30001c, 0x40, 1536, 0x0, 1, 0, 32, .ro, 0, 0, .dev⟩
/-! TS_FOUND_LO (05_team_sheet.md) -/
def Reg.TS_FOUND_LO.IDENTITY : Field := ⟨0x318000, 0x20, 1536, 0x0, 1, 0, 32, .ro, 0, 0, .dev⟩
/-! TS_FOUND_HI (05_team_sheet.md) -/
def Reg.TS_FOUND_HI.IDENTITY : Field := ⟨0x318004, 0x20, 1536, 0x0, 1, 0, 32, .ro, 0, 0, .dev⟩
/-! TS_RECORDED_LO (05_team_sheet.md) -/
def Reg.TS_RECORDED_LO.IDENTITY : Field := ⟨0x318008, 0x20, 1536, 0x0, 1, 0, 32, .ro, 0, 0, .dev⟩
/-! TS_RECORDED_HI (05_team_sheet.md) -/
def Reg.TS_RECORDED_HI.IDENTITY : Field := ⟨0x31800c, 0x20, 1536, 0x0, 1, 0, 32, .ro, 0, 0, .dev⟩
/-! TS_INFO (05_team_sheet.md) -/
def Reg.TS_INFO.CLASS : Field := ⟨0x318010, 0x20, 1536, 0x0, 1, 0, 2, .ro, 0, 0, .dev⟩
def Reg.TS_INFO.BYPASS_FITTED : Field := ⟨0x318010, 0x20, 1536, 0x0, 1, 2, 1, .ro, 0, 0, .dev⟩
def Reg.TS_INFO.FIRMWARE : Field := ⟨0x318010, 0x20, 1536, 0x0, 1, 16, 16, .ro, 0, 0, .dev⟩
/-! TS_CALL (05_team_sheet.md) -/
def Reg.TS_CALL.Q_EVEN : Field := ⟨0x318014, 0x20, 1536, 0x0, 1, 0, 6, .ro, 0, 0, .dev⟩
def Reg.TS_CALL.VALID_EVEN : Field := ⟨0x318014, 0x20, 1536, 0x0, 1, 6, 1, .ro, 0, 0, .dev⟩
def Reg.TS_CALL.Q_ODD : Field := ⟨0x318014, 0x20, 1536, 0x0, 1, 8, 6, .ro, 0, 0, .dev⟩
def Reg.TS_CALL.VALID_ODD : Field := ⟨0x318014, 0x20, 1536, 0x0, 1, 14, 1, .ro, 0, 0, .dev⟩
def Reg.TS_CALL.REPLIES : Field := ⟨0x318014, 0x20, 1536, 0x0, 1, 16, 8, .ro, 0, 0, .dev⟩
def Reg.TS_CALL.RESULT : Field := ⟨0x318014, 0x20, 1536, 0x0, 1, 24, 3, .ro, 0, 0, .dev⟩
/-! TS_CALL_FRAME (05_team_sheet.md) -/
def Reg.TS_CALL_FRAME.FRAME : Field := ⟨0x318018, 0x20, 1536, 0x0, 1, 0, 32, .ro, 0, 0, .dev⟩
/-! CELL_SUMMARY0 (05_team_sheet.md) -/
def Reg.CELL_SUMMARY0.SERVICE : Field := ⟨0x324000, 0x0, 1, 0x0, 1, 0, 11, .ro, 0, 0, .dev⟩
def Reg.CELL_SUMMARY0.BYPASSED : Field := ⟨0x324000, 0x0, 1, 0x0, 1, 16, 11, .ro, 0, 0, .dev⟩
/-! CELL_SUMMARY1 (05_team_sheet.md) -/
def Reg.CELL_SUMMARY1.PENDING : Field := ⟨0x324004, 0x0, 1, 0x0, 1, 0, 11, .ro, 0, 0, .dev⟩
def Reg.CELL_SUMMARY1.OUT : Field := ⟨0x324004, 0x0, 1, 0x0, 1, 16, 11, .ro, 0, 0, .dev⟩
/-! CELL_SUMMARY2 (05_team_sheet.md) -/
def Reg.CELL_SUMMARY2.ABSENT : Field := ⟨0x324008, 0x0, 1, 0x0, 1, 0, 11, .ro, 0, 0, .dev⟩
def Reg.CELL_SUMMARY2.REJECTED : Field := ⟨0x324008, 0x0, 1, 0x0, 1, 16, 11, .ro, 0, 0, .dev⟩
/-! CELL_PENDING_FIRST (05_team_sheet.md) -/
def Reg.CELL_PENDING_FIRST.CELL : Field := ⟨0x32400c, 0x0, 1, 0x0, 1, 0, 16, .ro, 65535, 0, .dev⟩
/-! CELL_UNROSTERED_LO (05_team_sheet.md) -/
def Reg.CELL_UNROSTERED_LO.CHAINS : Field := ⟨0x324010, 0x0, 1, 0x0, 1, 0, 32, .ro, 0, 0, .dev⟩
/-! CELL_UNROSTERED_HI (05_team_sheet.md) -/
def Reg.CELL_UNROSTERED_HI.CHAINS : Field := ⟨0x324014, 0x0, 1, 0x0, 1, 0, 32, .ro, 0, 0, .dev⟩
/-! CELL_LAST (05_team_sheet.md) -/
def Reg.CELL_LAST.CELL : Field := ⟨0x324018, 0x0, 1, 0x0, 1, 0, 11, .ro, 0, 0, .dev⟩
def Reg.CELL_LAST.STATE : Field := ⟨0x324018, 0x0, 1, 0x0, 1, 11, 3, .ro, 0, 0, .dev⟩
def Reg.CELL_LAST.REASON : Field := ⟨0x324018, 0x0, 1, 0x0, 1, 14, 4, .ro, 0, 0, .dev⟩
/-! CELL_EVENT (05_team_sheet.md) -/
def Reg.CELL_EVENT.PENDING : Field := ⟨0x32401c, 0x0, 1, 0x0, 1, 0, 1, .w1c, 0, 0, .dev⟩
def Reg.CELL_EVENT.BYPASS : Field := ⟨0x32401c, 0x0, 1, 0x0, 1, 1, 1, .w1c, 0, 0, .dev⟩
def Reg.CELL_EVENT.REJECTED : Field := ⟨0x32401c, 0x0, 1, 0x0, 1, 2, 1, .w1c, 0, 0, .dev⟩
def Reg.CELL_EVENT.SWAP : Field := ⟨0x32401c, 0x0, 1, 0x0, 1, 3, 1, .w1c, 0, 0, .dev⟩
def Reg.CELL_EVENT.UNROSTERED : Field := ⟨0x32401c, 0x0, 1, 0x0, 1, 4, 1, .w1c, 0, 0, .dev⟩
def Reg.CELL_EVENT.OUT : Field := ⟨0x32401c, 0x0, 1, 0x0, 1, 5, 1, .w1c, 0, 0, .dev⟩
def Reg.CELL_EVENT.UNCONFIRMED : Field := ⟨0x32401c, 0x0, 1, 0x0, 1, 6, 1, .w1c, 0, 0, .dev⟩
/-! CELL_EVENT_EN (05_team_sheet.md) -/
def Reg.CELL_EVENT_EN.EN : Field := ⟨0x324020, 0x0, 1, 0x0, 1, 0, 7, .rw, 0, 0, .dev⟩
/-! SLICE_ROLE (06_ranking_modulation.md) -/
def Reg.SLICE_ROLE.ROLE : Field := ⟨0x200000, 0x1000, 128, 0x0, 1, 0, 3, .ro, 0, 0, .dev⟩
def Reg.SLICE_ROLE.TARGET : Field := ⟨0x200000, 0x1000, 128, 0x0, 1, 8, 8, .ro, 0, 0, .dev⟩
def Reg.SLICE_ROLE.STATE : Field := ⟨0x200000, 0x1000, 128, 0x0, 1, 16, 3, .ro, 0, 0, .dev⟩
/-! ARM_VDC (06_ranking_modulation.md) -/
def Reg.ARM_VDC.V : Field := ⟨0x200100, 0x1000, 128, 0x0, 1, 0, 32, .ro, 0, 0, .dev⟩
/-! ARM_VAC (06_ranking_modulation.md) -/
def Reg.ARM_VAC.V : Field := ⟨0x200104, 0x1000, 128, 0x0, 1, 0, 32, .ro, 0, 0, .dev⟩
/-! ARM_VEXTRA (06_ranking_modulation.md) -/
def Reg.ARM_VEXTRA.V : Field := ⟨0x200108, 0x1000, 128, 0x0, 1, 0, 32, .ro, 0, 0, .dev⟩
/-! ARM_THETA (06_ranking_modulation.md) -/
def Reg.ARM_THETA.THETA : Field := ⟨0x20010c, 0x1000, 128, 0x0, 1, 0, 32, .ro, 0, 0, .dev⟩
/-! ARM_OMEGA (06_ranking_modulation.md) -/
def Reg.ARM_OMEGA.OMEGA : Field := ⟨0x200110, 0x1000, 128, 0x0, 1, 0, 32, .ro, 0, 0, .dev⟩
/-! ARM_CAPINV (06_ranking_modulation.md) -/
def Reg.ARM_CAPINV.CAP_INV : Field := ⟨0x200114, 0x1000, 128, 0x0, 1, 0, 24, .ro, 0, 0, .dev⟩
/-! ARM_PHASE (06_ranking_modulation.md) -/
def Reg.ARM_PHASE.PHASE_REF : Field := ⟨0x200118, 0x1000, 128, 0x0, 1, 0, 16, .ro, 0, 0, .dev⟩
def Reg.ARM_PHASE.PHASE_BAL : Field := ⟨0x200118, 0x1000, 128, 0x0, 1, 16, 16, .ro, 0, 0, .dev⟩
/-! ARM_PHASE_LIM (06_ranking_modulation.md) -/
def Reg.ARM_PHASE_LIM.LIM : Field := ⟨0x20011c, 0x1000, 128, 0x0, 1, 0, 15, .ro, 0, 0, .dev⟩
/-! ARM_REF_FRAME (06_ranking_modulation.md) -/
def Reg.ARM_REF_FRAME.FRAME : Field := ⟨0x200120, 0x1000, 128, 0x0, 1, 0, 32, .ro, 0, 0, .dev⟩
/-! ARM_STATUS (06_ranking_modulation.md) -/
def Reg.ARM_STATUS.FLAGS : Field := ⟨0x200140, 0x1000, 128, 0x0, 1, 0, 7, .ro, 0, 0, .dev⟩
def Reg.ARM_STATUS.ACTIVE : Field := ⟨0x200140, 0x1000, 128, 0x0, 1, 7, 1, .ro, 0, 0, .dev⟩
/-! ARM_LEVEL (06_ranking_modulation.md) -/
def Reg.ARM_LEVEL.N_FULL : Field := ⟨0x200144, 0x1000, 128, 0x0, 1, 0, 10, .ro, 0, 0, .dev⟩
def Reg.ARM_LEVEL.N_NL : Field := ⟨0x200144, 0x1000, 128, 0x0, 1, 16, 10, .ro, 0, 0, .dev⟩
/-! ARM_TRIM (06_ranking_modulation.md) -/
def Reg.ARM_TRIM.FRAC : Field := ⟨0x200148, 0x1000, 128, 0x0, 1, 0, 16, .ro, 0, 0, .dev⟩
def Reg.ARM_TRIM.TRIM : Field := ⟨0x200148, 0x1000, 128, 0x0, 1, 16, 10, .ro, 1023, 0, .dev⟩
/-! ARM_PTR (06_ranking_modulation.md) -/
def Reg.ARM_PTR.PTR : Field := ⟨0x20014c, 0x1000, 128, 0x0, 1, 0, 9, .ro, 0, 0, .dev⟩
def Reg.ARM_PTR.ELIGIBLE : Field := ⟨0x20014c, 0x1000, 128, 0x0, 1, 16, 10, .ro, 0, 0, .dev⟩
/-! ARM_SHORT (06_ranking_modulation.md) -/
def Reg.ARM_SHORT.SHORT : Field := ⟨0x200150, 0x1000, 128, 0x0, 1, 0, 16, .ro, 0, 0, .dev⟩
def Reg.ARM_SHORT.FRAMES : Field := ⟨0x200150, 0x1000, 128, 0x0, 1, 16, 16, .ro, 0, 0, .dev⟩
/-! ARM_DWELL (06_ranking_modulation.md) -/
def Reg.ARM_DWELL.MOVED : Field := ⟨0x200154, 0x1000, 128, 0x0, 1, 0, 16, .ro, 0, 0, .dev⟩
def Reg.ARM_DWELL.DEFERRED : Field := ⟨0x200154, 0x1000, 128, 0x0, 1, 16, 16, .ro, 0, 0, .dev⟩
/-! ARM_SWITCHED (06_ranking_modulation.md) -/
def Reg.ARM_SWITCHED.LAST : Field := ⟨0x200158, 0x1000, 128, 0x0, 1, 0, 10, .ro, 0, 0, .dev⟩
/-! ARM_TJ (06_ranking_modulation.md) -/
def Reg.ARM_TJ.TJ_MAX : Field := ⟨0x20015c, 0x1000, 128, 0x0, 1, 0, 12, .ro, 0, 0, .dev⟩
def Reg.ARM_TJ.TJ_MEAN : Field := ⟨0x20015c, 0x1000, 128, 0x0, 1, 16, 12, .ro, 0, 0, .dev⟩
/-! ARM_TJ_CELL (06_ranking_modulation.md) -/
def Reg.ARM_TJ_CELL.CELL : Field := ⟨0x200160, 0x1000, 128, 0x0, 1, 0, 9, .ro, 0, 0, .dev⟩
/-! ARM_IARM (06_ranking_modulation.md) -/
def Reg.ARM_IARM.I : Field := ⟨0x200164, 0x1000, 128, 0x0, 1, 0, 32, .ro, 0, 0, .dev⟩
/-! ARM_VREF (06_ranking_modulation.md) -/
def Reg.ARM_VREF.V : Field := ⟨0x200168, 0x1000, 128, 0x0, 1, 0, 32, .ro, 0, 0, .dev⟩
/-! ARM_PAR (06_ranking_modulation.md) -/
def Reg.ARM_PAR.LOW : Field := ⟨0x200170, 0x1000, 128, 0x4, 6, 0, 16, .ro, 0, 0, .dev⟩
def Reg.ARM_PAR.HIGH : Field := ⟨0x200170, 0x1000, 128, 0x4, 6, 16, 16, .ro, 0, 0, .dev⟩
/-! ARM_ALPHA1 (06_ranking_modulation.md) -/
def Reg.ARM_ALPHA1.ALPHA : Field := ⟨0x200188, 0x1000, 128, 0x0, 1, 0, 24, .ro, 0, 0, .dev⟩
/-! ARM_ALPHA2 (06_ranking_modulation.md) -/
def Reg.ARM_ALPHA2.ALPHA : Field := ⟨0x20018c, 0x1000, 128, 0x0, 1, 0, 24, .ro, 0, 0, .dev⟩
/-! ARM_CLEAR (06_ranking_modulation.md) -/
def Reg.ARM_CLEAR.COUNTS : Field := ⟨0x200190, 0x1000, 128, 0x0, 1, 0, 1, .wo, 0, 0, .dev⟩
/-! ARM_EVENT (06_ranking_modulation.md) -/
def Reg.ARM_EVENT.SHORTFALL : Field := ⟨0x200194, 0x1000, 128, 0x0, 1, 0, 1, .w1c, 0, 0, .dev⟩
def Reg.ARM_EVENT.DEFER : Field := ⟨0x200194, 0x1000, 128, 0x0, 1, 1, 1, .w1c, 0, 0, .dev⟩
def Reg.ARM_EVENT.COAST : Field := ⟨0x200194, 0x1000, 128, 0x0, 1, 2, 1, .w1c, 0, 0, .dev⟩
def Reg.ARM_EVENT.I_HELD : Field := ⟨0x200194, 0x1000, 128, 0x0, 1, 3, 1, .w1c, 0, 0, .dev⟩
/-! ARM_EVENT_EN (06_ranking_modulation.md) -/
def Reg.ARM_EVENT_EN.EN : Field := ⟨0x200198, 0x1000, 128, 0x0, 1, 0, 4, .rw, 0, 0, .dev⟩
/-! ENG_STATUS (07_control_graphs.md) -/
def Reg.ENG_STATUS.LOADED : Field := ⟨0x20000, 0x1000, 16, 0x0, 1, 0, 1, .ro, 0, 0, .dev⟩
def Reg.ENG_STATUS.BALL : Field := ⟨0x20000, 0x1000, 16, 0x0, 1, 1, 1, .ro, 0, 0, .dev⟩
def Reg.ENG_STATUS.SHADOW : Field := ⟨0x20000, 0x1000, 16, 0x0, 1, 2, 1, .ro, 0, 0, .dev⟩
def Reg.ENG_STATUS.COLD : Field := ⟨0x20000, 0x1000, 16, 0x0, 1, 3, 1, .ro, 0, 0, .dev⟩
def Reg.ENG_STATUS.DONE : Field := ⟨0x20000, 0x1000, 16, 0x0, 1, 4, 1, .ro, 0, 0, .dev⟩
def Reg.ENG_STATUS.STOPPED : Field := ⟨0x20000, 0x1000, 16, 0x0, 1, 5, 1, .ro, 0, 0, .dev⟩
def Reg.ENG_STATUS.QUIET : Field := ⟨0x20000, 0x1000, 16, 0x0, 1, 6, 1, .ro, 0, 0, .dev⟩
def Reg.ENG_STATUS.BLOCKS : Field := ⟨0x20000, 0x1000, 16, 0x0, 1, 16, 9, .ro, 0, 0, .dev⟩
/-! ENG_CYCLES (07_control_graphs.md) -/
def Reg.ENG_CYCLES.LAST : Field := ⟨0x20004, 0x1000, 16, 0x0, 1, 0, 16, .ro, 0, 0, .dev⟩
def Reg.ENG_CYCLES.MAX : Field := ⟨0x20004, 0x1000, 16, 0x0, 1, 16, 16, .ro, 0, 0, .dev⟩
/-! ENG_COST (07_control_graphs.md) -/
def Reg.ENG_COST.STATIC : Field := ⟨0x20008, 0x1000, 16, 0x0, 1, 0, 16, .ro, 0, 0, .dev⟩
def Reg.ENG_COST.SUM : Field := ⟨0x20008, 0x1000, 16, 0x0, 1, 16, 16, .ro, 0, 0, .dev⟩
/-! ENG_BANK (07_control_graphs.md) -/
def Reg.ENG_BANK.ACTIVE : Field := ⟨0x2000c, 0x1000, 16, 0x0, 1, 0, 1, .ro, 0, 0, .dev⟩
def Reg.ENG_BANK.SWAPS : Field := ⟨0x2000c, 0x1000, 16, 0x0, 1, 8, 8, .ro, 0, 0, .dev⟩
def Reg.ENG_BANK.ENTRIES : Field := ⟨0x2000c, 0x1000, 16, 0x0, 1, 16, 12, .ro, 0, 0, .dev⟩
/-! ENG_SIZE (07_control_graphs.md) -/
def Reg.ENG_SIZE.STATE_WORDS : Field := ⟨0x20010, 0x1000, 16, 0x0, 1, 0, 11, .ro, 0, 0, .dev⟩
def Reg.ENG_SIZE.EXPORTS : Field := ⟨0x20010, 0x1000, 16, 0x0, 1, 16, 6, .ro, 0, 0, .dev⟩
/-! ENG_ECC (07_control_graphs.md) -/
def Reg.ENG_ECC.CORRECTED : Field := ⟨0x20014, 0x1000, 16, 0x0, 1, 0, 16, .ro, 0, 0, .dev⟩
def Reg.ENG_ECC.UNCORRECTABLE : Field := ⟨0x20014, 0x1000, 16, 0x0, 1, 16, 1, .ro, 0, 0, .dev⟩
/-! ENG_CMD_LAST (07_control_graphs.md) -/
def Reg.ENG_CMD_LAST.RESULT : Field := ⟨0x20018, 0x1000, 16, 0x0, 1, 0, 3, .ro, 0, 0, .dev⟩
def Reg.ENG_CMD_LAST.OP : Field := ⟨0x20018, 0x1000, 16, 0x0, 1, 4, 2, .ro, 0, 0, .dev⟩
def Reg.ENG_CMD_LAST.ENTRY : Field := ⟨0x20018, 0x1000, 16, 0x0, 1, 16, 11, .ro, 0, 0, .dev⟩
/-! ENG_CMD_FRAME (07_control_graphs.md) -/
def Reg.ENG_CMD_FRAME.FRAME : Field := ⟨0x2001c, 0x1000, 16, 0x0, 1, 0, 32, .ro, 0, 0, .dev⟩
/-! ENG_CLEAR (07_control_graphs.md) -/
def Reg.ENG_CLEAR.CYCLES : Field := ⟨0x20020, 0x1000, 16, 0x0, 1, 0, 1, .wo, 0, 0, .dev⟩
def Reg.ENG_CLEAR.ECC : Field := ⟨0x20020, 0x1000, 16, 0x0, 1, 1, 1, .wo, 0, 0, .dev⟩
/-! ENG_EVENT (07_control_graphs.md) -/
def Reg.ENG_EVENT.STOPPED : Field := ⟨0x20024, 0x1000, 16, 0x0, 1, 0, 1, .w1c, 0, 0, .dev⟩
def Reg.ENG_EVENT.SWAP : Field := ⟨0x20024, 0x1000, 16, 0x0, 1, 1, 1, .w1c, 0, 0, .dev⟩
def Reg.ENG_EVENT.CMD_REFUSED : Field := ⟨0x20024, 0x1000, 16, 0x0, 1, 2, 1, .w1c, 0, 0, .dev⟩
def Reg.ENG_EVENT.ECC : Field := ⟨0x20024, 0x1000, 16, 0x0, 1, 3, 1, .w1c, 0, 0, .dev⟩
/-! ENG_EVENT_EN (07_control_graphs.md) -/
def Reg.ENG_EVENT_EN.EN : Field := ⟨0x20028, 0x1000, 16, 0x0, 1, 0, 4, .rw, 0, 0, .dev⟩
/-! ENG_PARAM (07_control_graphs.md) -/
def Reg.ENG_PARAM.VALUE : Field := ⟨0x20100, 0x1000, 16, 0x4, 64, 0, 32, .ro, 0, 0, .dev⟩
/-! ENG_EXPORT (07_control_graphs.md) -/
def Reg.ENG_EXPORT.VALUE : Field := ⟨0x20200, 0x1000, 16, 0x4, 32, 0, 32, .ro, 0, 0, .dev⟩
/-! CONV_STATE (08_converter_operation.md) -/
def Reg.CONV_STATE.STATE : Field := ⟨0x100, 0x20, 12, 0x0, 1, 0, 3, .ro, 0, 0, .dev⟩
def Reg.CONV_STATE.COAST : Field := ⟨0x100, 0x20, 12, 0x0, 1, 3, 1, .ro, 0, 0, .dev⟩
def Reg.CONV_STATE.CAUSE : Field := ⟨0x100, 0x20, 12, 0x0, 1, 4, 4, .ro, 0, 0, .dev⟩
def Reg.CONV_STATE.KIND : Field := ⟨0x100, 0x20, 12, 0x0, 1, 8, 2, .ro, 0, 0, .dev⟩
def Reg.CONV_STATE.SLEWING : Field := ⟨0x100, 0x20, 12, 0x0, 1, 10, 1, .ro, 0, 0, .dev⟩
def Reg.CONV_STATE.ARMS : Field := ⟨0x100, 0x20, 12, 0x0, 1, 12, 12, .ro, 0, 0, .dev⟩
/-! CONV_CMD_LAST (08_converter_operation.md) -/
def Reg.CONV_CMD_LAST.RESULT : Field := ⟨0x104, 0x20, 12, 0x0, 1, 0, 4, .ro, 0, 0, .dev⟩
def Reg.CONV_CMD_LAST.OP : Field := ⟨0x104, 0x20, 12, 0x0, 1, 4, 2, .ro, 0, 0, .dev⟩
/-! CONV_STATE_FRAME (08_converter_operation.md) -/
def Reg.CONV_STATE_FRAME.FRAME : Field := ⟨0x108, 0x20, 12, 0x0, 1, 0, 32, .ro, 0, 0, .dev⟩
/-! CONV_DTHETA (08_converter_operation.md) -/
def Reg.CONV_DTHETA.DTHETA : Field := ⟨0x10c, 0x20, 12, 0x0, 1, 0, 32, .ro, 0, 0, .dev⟩
/-! CONV_RESIDUAL (08_converter_operation.md) -/
def Reg.CONV_RESIDUAL.E : Field := ⟨0x110, 0x20, 12, 0x0, 1, 0, 32, .ro, 0, 0, .dev⟩
/-! CONV_COUNT (08_converter_operation.md) -/
def Reg.CONV_COUNT.BLOCKS : Field := ⟨0x114, 0x20, 12, 0x0, 1, 0, 8, .ro, 0, 0, .dev⟩
def Reg.CONV_COUNT.RESYNCS : Field := ⟨0x114, 0x20, 12, 0x0, 1, 8, 8, .ro, 0, 0, .dev⟩
def Reg.CONV_COUNT.COAST_MAX : Field := ⟨0x114, 0x20, 12, 0x0, 1, 16, 8, .ro, 0, 0, .dev⟩
/-! CONV_MF_THETA (08_converter_operation.md) -/
def Reg.CONV_MF_THETA.THETA_MF : Field := ⟨0x118, 0x20, 12, 0x0, 1, 0, 32, .ro, 0, 0, .dev⟩
/-! CONV_MF_OMEGA (08_converter_operation.md) -/
def Reg.CONV_MF_OMEGA.OMEGA_MF : Field := ⟨0x11c, 0x20, 12, 0x0, 1, 0, 32, .ro, 0, 0, .dev⟩
/-! CONV_WORD (08_converter_operation.md) -/
def Reg.CONV_WORD.VALUE : Field := ⟨0x400, 0x40, 12, 0x4, 16, 0, 32, .ro, 0, 0, .dev⟩
/-! CONV_EVENT (08_converter_operation.md) -/
def Reg.CONV_EVENT.BLOCK : Field := ⟨0x700, 0x0, 1, 0x0, 1, 0, 1, .w1c, 0, 0, .dev⟩
def Reg.CONV_EVENT.DEBLOCK : Field := ⟨0x700, 0x0, 1, 0x0, 1, 1, 1, .w1c, 0, 0, .dev⟩
def Reg.CONV_EVENT.RUN : Field := ⟨0x700, 0x0, 1, 0x0, 1, 2, 1, .w1c, 0, 0, .dev⟩
def Reg.CONV_EVENT.RESYNC : Field := ⟨0x700, 0x0, 1, 0x0, 1, 3, 1, .w1c, 0, 0, .dev⟩
def Reg.CONV_EVENT.RESYNC_FAIL : Field := ⟨0x700, 0x0, 1, 0x0, 1, 4, 1, .w1c, 0, 0, .dev⟩
def Reg.CONV_EVENT.COAST_LIMIT : Field := ⟨0x700, 0x0, 1, 0x0, 1, 5, 1, .w1c, 0, 0, .dev⟩
/-! CONV_EVENT_EN (08_converter_operation.md) -/
def Reg.CONV_EVENT_EN.EN : Field := ⟨0x704, 0x0, 1, 0x0, 1, 0, 6, .rw, 0, 0, .dev⟩
/-! CONV_EVENT_SRC (08_converter_operation.md) -/
def Reg.CONV_EVENT_SRC.CONV : Field := ⟨0x708, 0x0, 1, 0x0, 1, 0, 12, .w1c, 0, 0, .dev⟩
/-! REF_STATUS (09_redundancy_journal.md) -/
def Reg.REF_STATUS.STATE : Field := ⟨0x5000, 0x0, 1, 0x0, 1, 0, 3, .ro, 0, 0, .dev⟩
def Reg.REF_STATUS.HOLDER : Field := ⟨0x5000, 0x0, 1, 0x0, 1, 3, 1, .ro, 0, 0, .dev⟩
def Reg.REF_STATUS.ROLE_A : Field := ⟨0x5000, 0x0, 1, 0x0, 1, 4, 3, .ro, 0, 0, .dev⟩
def Reg.REF_STATUS.ROLE_B : Field := ⟨0x5000, 0x0, 1, 0x0, 1, 7, 3, .ro, 0, 0, .dev⟩
def Reg.REF_STATUS.LEASE : Field := ⟨0x5000, 0x0, 1, 0x0, 1, 10, 5, .ro, 0, 0, .dev⟩
/-! REF_CTRL (09_redundancy_journal.md) -/
def Reg.REF_CTRL.FORCE_TAKEOVER : Field := ⟨0x5004, 0x0, 1, 0x0, 1, 0, 1, .w1s, 0, 0, .dev⟩
def Reg.REF_CTRL.HALFTIME_NOW : Field := ⟨0x5004, 0x0, 1, 0x0, 1, 1, 1, .w1s, 0, 0, .dev⟩
def Reg.REF_CTRL.HALFTIME_EN : Field := ⟨0x5004, 0x0, 1, 0x0, 1, 2, 1, .rw, 1, 0, .dev⟩
def Reg.REF_CTRL.REVIVE : Field := ⟨0x5004, 0x0, 1, 0x0, 1, 3, 1, .w1s, 0, 0, .dev⟩
/-! REF_HT_TIMER (09_redundancy_journal.md) -/
def Reg.REF_HT_TIMER.REMAIN : Field := ⟨0x5008, 0x0, 1, 0x0, 1, 0, 20, .ro, 0, 0, .dev⟩
/-! REF_HT_STATUS (09_redundancy_journal.md) -/
def Reg.REF_HT_STATUS.MATCHED : Field := ⟨0x500c, 0x0, 1, 0x0, 1, 0, 16, .ro, 0, 0, .dev⟩
def Reg.REF_HT_STATUS.OUTCOME : Field := ⟨0x500c, 0x0, 1, 0x0, 1, 16, 3, .ro, 0, 0, .dev⟩
def Reg.REF_HT_STATUS.BLOCKER : Field := ⟨0x500c, 0x0, 1, 0x0, 1, 19, 4, .ro, 0, 0, .dev⟩
def Reg.REF_HT_STATUS.COUNT : Field := ⟨0x500c, 0x0, 1, 0x0, 1, 24, 8, .ro, 0, 0, .dev⟩
/-! REF_TAKEOVER (09_redundancy_journal.md) -/
def Reg.REF_TAKEOVER.COUNT : Field := ⟨0x5010, 0x0, 1, 0x0, 1, 0, 8, .ro, 0, 0, .dev⟩
def Reg.REF_TAKEOVER.GAP : Field := ⟨0x5010, 0x0, 1, 0x0, 1, 8, 8, .ro, 0, 0, .dev⟩
def Reg.REF_TAKEOVER.LAST_CAUSE : Field := ⟨0x5010, 0x0, 1, 0x0, 1, 16, 3, .ro, 0, 0, .dev⟩
def Reg.REF_TAKEOVER.LATE : Field := ⟨0x5010, 0x0, 1, 0x0, 1, 19, 1, .ro, 0, 0, .dev⟩
def Reg.REF_TAKEOVER.US : Field := ⟨0x5010, 0x0, 1, 0x0, 1, 20, 8, .ro, 0, 0, .dev⟩
/-! REF_TAKEOVER_FRAME (09_redundancy_journal.md) -/
def Reg.REF_TAKEOVER_FRAME.FRAME : Field := ⟨0x5014, 0x0, 1, 0x0, 1, 0, 32, .ro, 0, 0, .dev⟩
/-! REF_CKPT (09_redundancy_journal.md) -/
def Reg.REF_CKPT.NEWEST : Field := ⟨0x5018, 0x0, 1, 0x0, 1, 0, 1, .ro, 0, 0, .dev⟩
def Reg.REF_CKPT.VALID0 : Field := ⟨0x5018, 0x0, 1, 0x0, 1, 1, 1, .ro, 0, 0, .dev⟩
def Reg.REF_CKPT.VALID1 : Field := ⟨0x5018, 0x0, 1, 0x0, 1, 2, 1, .ro, 0, 0, .dev⟩
def Reg.REF_CKPT.OLD_USED : Field := ⟨0x5018, 0x0, 1, 0x0, 1, 3, 1, .ro, 0, 0, .dev⟩
/-! REF_CKPT_SEQ (09_redundancy_journal.md) -/
def Reg.REF_CKPT_SEQ.SEQ : Field := ⟨0x501c, 0x0, 1, 0x0, 1, 0, 32, .ro, 0, 0, .dev⟩
/-! REF_OFFSIDE (09_redundancy_journal.md) -/
def Reg.REF_OFFSIDE.WRITES : Field := ⟨0x5020, 0x0, 1, 0x0, 1, 0, 16, .ro, 0, 0, .dev⟩
def Reg.REF_OFFSIDE.LAST_PLANE : Field := ⟨0x5020, 0x0, 1, 0x0, 1, 16, 1, .ro, 0, 0, .dev⟩
/-! REF_PAIR (09_redundancy_journal.md) -/
def Reg.REF_PAIR.ENABLED : Field := ⟨0x5024, 0x0, 1, 0x0, 1, 0, 1, .ro, 0, 0, .dev⟩
def Reg.REF_PAIR.REF_IN : Field := ⟨0x5024, 0x0, 1, 0x0, 1, 1, 1, .ro, 0, 0, .dev⟩
def Reg.REF_PAIR.HOLDS : Field := ⟨0x5024, 0x0, 1, 0x0, 1, 2, 1, .ro, 0, 0, .dev⟩
def Reg.REF_PAIR.PARTNER_HOLDS : Field := ⟨0x5024, 0x0, 1, 0x0, 1, 3, 1, .ro, 0, 0, .dev⟩
def Reg.REF_PAIR.LINK_OK : Field := ⟨0x5024, 0x0, 1, 0x0, 1, 4, 1, .ro, 0, 0, .dev⟩
def Reg.REF_PAIR.REF_OUT : Field := ⟨0x5024, 0x0, 1, 0x0, 1, 5, 1, .ro, 0, 0, .dev⟩
def Reg.REF_PAIR.MOVES : Field := ⟨0x5024, 0x0, 1, 0x0, 1, 16, 8, .ro, 0, 0, .dev⟩
def Reg.REF_PAIR.CONFLICTS : Field := ⟨0x5024, 0x0, 1, 0x0, 1, 24, 8, .ro, 0, 0, .dev⟩
/-! REF_EVENT (09_redundancy_journal.md) -/
def Reg.REF_EVENT.TAKEOVER : Field := ⟨0x5028, 0x0, 1, 0x0, 1, 0, 1, .w1c, 0, 0, .dev⟩
def Reg.REF_EVENT.HANDOVER : Field := ⟨0x5028, 0x0, 1, 0x0, 1, 1, 1, .w1c, 0, 0, .dev⟩
def Reg.REF_EVENT.CANCEL : Field := ⟨0x5028, 0x0, 1, 0x0, 1, 2, 1, .w1c, 0, 0, .dev⟩
def Reg.REF_EVENT.UNFIT : Field := ⟨0x5028, 0x0, 1, 0x0, 1, 3, 1, .w1c, 0, 0, .dev⟩
def Reg.REF_EVENT.CKPT_OLD : Field := ⟨0x5028, 0x0, 1, 0x0, 1, 4, 1, .w1c, 0, 0, .dev⟩
def Reg.REF_EVENT.PAIR_MOVE : Field := ⟨0x5028, 0x0, 1, 0x0, 1, 5, 1, .w1c, 0, 0, .dev⟩
def Reg.REF_EVENT.PAIR_CONFLICT : Field := ⟨0x5028, 0x0, 1, 0x0, 1, 6, 1, .w1c, 0, 0, .dev⟩
/-! REF_EVENT_EN (09_redundancy_journal.md) -/
def Reg.REF_EVENT_EN.EN : Field := ⟨0x502c, 0x0, 1, 0x0, 1, 0, 7, .rw, 0, 0, .dev⟩
/-! JRN_STATUS (09_redundancy_journal.md) -/
def Reg.JRN_STATUS.FILL : Field := ⟨0x6000, 0x0, 1, 0x0, 1, 0, 11, .ro, 0, 0, .por⟩
def Reg.JRN_STATUS.HALF0_OK : Field := ⟨0x6000, 0x0, 1, 0x0, 1, 11, 1, .ro, 1, 0, .por⟩
def Reg.JRN_STATUS.HALF1_OK : Field := ⟨0x6000, 0x0, 1, 0x0, 1, 12, 1, .ro, 1, 0, .por⟩
def Reg.JRN_STATUS.MRAM_OK : Field := ⟨0x6000, 0x0, 1, 0x0, 1, 13, 1, .ro, 0, 0, .por⟩
def Reg.JRN_STATUS.PAIR_MIRROR : Field := ⟨0x6000, 0x0, 1, 0x0, 1, 14, 1, .ro, 0, 0, .por⟩
def Reg.JRN_STATUS.EPOCH_CAUSE : Field := ⟨0x6000, 0x0, 1, 0x0, 1, 16, 3, .ro, 0, 0, .por⟩
/-! JRN_EPOCH (09_redundancy_journal.md) -/
def Reg.JRN_EPOCH.EPOCH : Field := ⟨0x6004, 0x0, 1, 0x0, 1, 0, 32, .ro, 0, 0, .por⟩
/-! JRN_EXEC (09_redundancy_journal.md) -/
def Reg.JRN_EXEC.COUNT : Field := ⟨0x6008, 0x0, 1, 0x0, 1, 0, 32, .ro, 0, 0, .por⟩
/-! JRN_ACCEPTED (09_redundancy_journal.md) -/
def Reg.JRN_ACCEPTED.COUNT : Field := ⟨0x600c, 0x0, 1, 0x0, 1, 0, 32, .ro, 0, 0, .por⟩
/-! JRN_REFUSE (09_redundancy_journal.md) -/
def Reg.JRN_REFUSE.GAP : Field := ⟨0x6010, 0x0, 1, 0x0, 1, 0, 16, .ro, 0, 0, .por⟩
def Reg.JRN_REFUSE.REPEATED : Field := ⟨0x6010, 0x0, 1, 0x0, 1, 16, 16, .ro, 0, 0, .por⟩
/-! JRN_BUSY (09_redundancy_journal.md) -/
def Reg.JRN_BUSY.BUSY : Field := ⟨0x6014, 0x0, 1, 0x0, 1, 0, 16, .ro, 0, 0, .por⟩
def Reg.JRN_BUSY.OTHER : Field := ⟨0x6014, 0x0, 1, 0x0, 1, 16, 16, .ro, 0, 0, .por⟩
/-! JRN_MRAM_CFG (09_redundancy_journal.md) -/
def Reg.JRN_MRAM_CFG.EN : Field := ⟨0x6018, 0x0, 1, 0x0, 1, 0, 1, .rwk, 0, 0, .por⟩
def Reg.JRN_MRAM_CFG.QUAD : Field := ⟨0x6018, 0x0, 1, 0x0, 1, 1, 1, .rwk, 0, 0, .por⟩
def Reg.JRN_MRAM_CFG.DIV : Field := ⟨0x6018, 0x0, 1, 0x0, 1, 8, 8, .rwk, 4, 0, .por⟩
/-! JRN_EVENT (09_redundancy_journal.md) -/
def Reg.JRN_EVENT.NEW_EPOCH : Field := ⟨0x601c, 0x0, 1, 0x0, 1, 0, 1, .w1c, 0, 0, .por⟩
def Reg.JRN_EVENT.MRAM_FAIL : Field := ⟨0x601c, 0x0, 1, 0x0, 1, 1, 1, .w1c, 0, 0, .por⟩
def Reg.JRN_EVENT.HALF_FAIL : Field := ⟨0x601c, 0x0, 1, 0x0, 1, 2, 1, .w1c, 0, 0, .por⟩
def Reg.JRN_EVENT.FULL : Field := ⟨0x601c, 0x0, 1, 0x0, 1, 3, 1, .w1c, 0, 0, .por⟩
def Reg.JRN_EVENT.RESTORED : Field := ⟨0x601c, 0x0, 1, 0x0, 1, 4, 1, .w1c, 0, 0, .por⟩
/-! JRN_EVENT_EN (09_redundancy_journal.md) -/
def Reg.JRN_EVENT_EN.EN : Field := ⟨0x6020, 0x0, 1, 0x0, 1, 0, 5, .rwk, 0, 0, .por⟩
/-! JRN_CTRL (09_redundancy_journal.md) -/
def Reg.JRN_CTRL.NEW_EPOCH : Field := ⟨0x6024, 0x0, 1, 0x0, 1, 0, 1, .w1s, 0, 0, .por⟩
def Reg.JRN_CTRL.UNLOCK : Field := ⟨0x6024, 0x0, 1, 0x0, 1, 16, 16, .wo, 0, 0, .por⟩
/-! JRN_SRC_LAST (09_redundancy_journal.md) -/
def Reg.JRN_SRC_LAST.LAST : Field := ⟨0x6040, 0x4, 16, 0x0, 1, 0, 32, .ro, 0, 0, .por⟩
/-! ADC_CTRL (10_analogue.md) -/
def Reg.ADC_CTRL.SEQ_EN : Field := ⟨0x40000, 0x0, 1, 0x0, 1, 0, 8, .rw, 0, 0, .dev⟩
def Reg.ADC_CTRL.COMMIT : Field := ⟨0x40000, 0x0, 1, 0x0, 1, 8, 1, .w1s, 0, 0, .dev⟩
/-! ADC_REF (10_analogue.md) -/
def Reg.ADC_REF.EN : Field := ⟨0x40004, 0x0, 1, 0x0, 1, 0, 1, .rw, 0, 0, .dev⟩
def Reg.ADC_REF.READY : Field := ⟨0x40004, 0x0, 1, 0x0, 1, 1, 1, .ro, 0, 0, .dev⟩
def Reg.ADC_REF.AUTO : Field := ⟨0x40004, 0x0, 1, 0x0, 1, 2, 1, .ro, 0, 0, .dev⟩
def Reg.ADC_REF.FAULT : Field := ⟨0x40004, 0x0, 1, 0x0, 1, 3, 1, .ro, 0, 0, .dev⟩
def Reg.ADC_REF.WAIT_US : Field := ⟨0x40004, 0x0, 1, 0x0, 1, 16, 11, .ro, 0, 0, .dev⟩
/-! ADC_STATUS (10_analogue.md) -/
def Reg.ADC_STATUS.BUSY : Field := ⟨0x40008, 0x0, 1, 0x0, 1, 0, 8, .ro, 0, 0, .dev⟩
def Reg.ADC_STATUS.INVALID : Field := ⟨0x40008, 0x0, 1, 0x0, 1, 8, 8, .ro, 0, 0, .dev⟩
def Reg.ADC_STATUS.CLIP : Field := ⟨0x40008, 0x0, 1, 0x0, 1, 16, 8, .ro, 0, 0, .dev⟩
/-! ADC_EVENT (10_analogue.md) -/
def Reg.ADC_EVENT.REF_READY : Field := ⟨0x4000c, 0x0, 1, 0x0, 1, 0, 1, .w1c, 0, 0, .dev⟩
def Reg.ADC_EVENT.REF_FAULT : Field := ⟨0x4000c, 0x0, 1, 0x0, 1, 1, 1, .w1c, 0, 0, .dev⟩
def Reg.ADC_EVENT.CFG_REFUSED : Field := ⟨0x4000c, 0x0, 1, 0x0, 1, 2, 1, .w1c, 0, 0, .dev⟩
def Reg.ADC_EVENT.WINDOW : Field := ⟨0x4000c, 0x0, 1, 0x0, 1, 3, 1, .w1c, 0, 0, .dev⟩
def Reg.ADC_EVENT.HK_FLAG : Field := ⟨0x4000c, 0x0, 1, 0x0, 1, 4, 1, .w1c, 0, 0, .dev⟩
def Reg.ADC_EVENT.DS_INVALID : Field := ⟨0x4000c, 0x0, 1, 0x0, 1, 5, 1, .w1c, 0, 0, .dev⟩
/-! ADC_EVENT_EN (10_analogue.md) -/
def Reg.ADC_EVENT_EN.EN : Field := ⟨0x40010, 0x0, 1, 0x0, 1, 0, 6, .rw, 0, 0, .dev⟩
/-! ADC_IN_CFG (10_analogue.md) -/
def Reg.ADC_IN_CFG.GAIN : Field := ⟨0x40100, 0x4, 64, 0x0, 1, 0, 2, .rw, 0, 0, .dev⟩
def Reg.ADC_IN_CFG.EN : Field := ⟨0x40100, 0x4, 64, 0x0, 1, 2, 1, .rw, 0, 0, .dev⟩
/-! ADC_SEQ_CTRL (10_analogue.md) -/
def Reg.ADC_SEQ_CTRL.LEN : Field := ⟨0x41000, 0x800, 8, 0x0, 1, 0, 6, .ro, 0, 0, .dev⟩
/-! ADC_SEQ_BURST (10_analogue.md) -/
def Reg.ADC_SEQ_BURST.START : Field := ⟨0x41004, 0x800, 8, 0x0, 1, 0, 16, .ro, 0, 0, .dev⟩
def Reg.ADC_SEQ_BURST.LENGTH : Field := ⟨0x41004, 0x800, 8, 0x0, 1, 16, 16, .ro, 0, 0, .dev⟩
/-! ADC_SEQ_COUNT (10_analogue.md) -/
def Reg.ADC_SEQ_COUNT.INVALID : Field := ⟨0x41008, 0x800, 8, 0x0, 1, 0, 16, .ro, 0, 0, .dev⟩
/-! ADC_SEQ_WIN_EVENT (10_analogue.md) -/
def Reg.ADC_SEQ_WIN_EVENT.EVENT : Field := ⟨0x4100c, 0x800, 8, 0x0, 1, 0, 32, .w1c, 0, 0, .dev⟩
/-! ADC_SEQ_WIN_EN (10_analogue.md) -/
def Reg.ADC_SEQ_WIN_EN.EN : Field := ⟨0x41010, 0x800, 8, 0x0, 1, 0, 32, .rw, 0, 0, .dev⟩
/-! ADC_ENTRY_CFG (10_analogue.md) -/
def Reg.ADC_ENTRY_CFG.INPUT : Field := ⟨0x41100, 0x800, 8, 0x20, 32, 0, 6, .rw, 0, 0, .dev⟩
def Reg.ADC_ENTRY_CFG.ACQ : Field := ⟨0x41100, 0x800, 8, 0x20, 32, 8, 8, .rw, 0, 0, .dev⟩
def Reg.ADC_ENTRY_CFG.SHIFT : Field := ⟨0x41100, 0x800, 8, 0x20, 32, 16, 5, .rw, 0, 0, .dev⟩
def Reg.ADC_ENTRY_CFG.WIN_EN : Field := ⟨0x41100, 0x800, 8, 0x20, 32, 21, 1, .rw, 0, 0, .dev⟩
/-! ADC_ENTRY_SCALE (10_analogue.md) -/
def Reg.ADC_ENTRY_SCALE.VALUE : Field := ⟨0x41104, 0x800, 8, 0x20, 32, 0, 32, .rw, 0, 0, .dev⟩
/-! ADC_ENTRY_OFFSET (10_analogue.md) -/
def Reg.ADC_ENTRY_OFFSET.VALUE : Field := ⟨0x41108, 0x800, 8, 0x20, 32, 0, 32, .rw, 0, 0, .dev⟩
/-! ADC_ENTRY_WIN_HI (10_analogue.md) -/
def Reg.ADC_ENTRY_WIN_HI.VALUE : Field := ⟨0x4110c, 0x800, 8, 0x20, 32, 0, 32, .rw, 0, 0, .dev⟩
/-! ADC_ENTRY_WIN_LO (10_analogue.md) -/
def Reg.ADC_ENTRY_WIN_LO.VALUE : Field := ⟨0x41110, 0x800, 8, 0x20, 32, 0, 32, .rw, 0, 0, .dev⟩
/-! ADC_ENTRY_RESULT (10_analogue.md) -/
def Reg.ADC_ENTRY_RESULT.RAW : Field := ⟨0x41114, 0x800, 8, 0x20, 32, 0, 16, .ro, 0, 0, .dev⟩
def Reg.ADC_ENTRY_RESULT.FLAGS : Field := ⟨0x41114, 0x800, 8, 0x20, 32, 16, 8, .ro, 0, 0, .dev⟩
def Reg.ADC_ENTRY_RESULT.SETTLE : Field := ⟨0x41114, 0x800, 8, 0x20, 32, 24, 3, .ro, 0, 0, .dev⟩
/-! ADC_ENTRY_VALUE (10_analogue.md) -/
def Reg.ADC_ENTRY_VALUE.VALUE : Field := ⟨0x41118, 0x800, 8, 0x20, 32, 0, 32, .ro, 0, 0, .dev⟩
/-! ADC_DS_CFG (10_analogue.md) -/
def Reg.ADC_DS_CFG.ORDER : Field := ⟨0x45000, 0x40, 16, 0x0, 1, 0, 3, .rw, 0, 0, .dev⟩
def Reg.ADC_DS_CFG.LOG2R : Field := ⟨0x45000, 0x40, 16, 0x0, 1, 3, 4, .rw, 0, 0, .dev⟩
def Reg.ADC_DS_CFG.SHIFT : Field := ⟨0x45000, 0x40, 16, 0x0, 1, 7, 5, .rw, 0, 0, .dev⟩
/-! ADC_DS_SCALE (10_analogue.md) -/
def Reg.ADC_DS_SCALE.VALUE : Field := ⟨0x45004, 0x40, 16, 0x0, 1, 0, 32, .rw, 0, 0, .dev⟩
/-! ADC_DS_OFFSET (10_analogue.md) -/
def Reg.ADC_DS_OFFSET.VALUE : Field := ⟨0x45008, 0x40, 16, 0x0, 1, 0, 32, .rw, 0, 0, .dev⟩
/-! ADC_DS_RESULT (10_analogue.md) -/
def Reg.ADC_DS_RESULT.FLAGS : Field := ⟨0x4500c, 0x40, 16, 0x0, 1, 0, 8, .ro, 0, 0, .dev⟩
def Reg.ADC_DS_RESULT.SETTLE : Field := ⟨0x4500c, 0x40, 16, 0x0, 1, 8, 3, .ro, 0, 0, .dev⟩
/-! ADC_DS_VALUE (10_analogue.md) -/
def Reg.ADC_DS_VALUE.VALUE : Field := ⟨0x45010, 0x40, 16, 0x0, 1, 0, 32, .ro, 0, 0, .dev⟩
/-! ADC_HK (10_analogue.md) -/
def Reg.ADC_HK.VALUE : Field := ⟨0x46000, 0x4, 44, 0x0, 1, 0, 16, .ro, 0, 0, .dev⟩
def Reg.ADC_HK.VALID : Field := ⟨0x46000, 0x4, 44, 0x0, 1, 16, 1, .ro, 0, 0, .dev⟩
def Reg.ADC_HK.OPEN : Field := ⟨0x46000, 0x4, 44, 0x0, 1, 17, 1, .ro, 0, 0, .dev⟩
def Reg.ADC_HK.SHORT : Field := ⟨0x46000, 0x4, 44, 0x0, 1, 18, 1, .ro, 0, 0, .dev⟩
def Reg.ADC_HK.RANGE : Field := ⟨0x46000, 0x4, 44, 0x0, 1, 19, 1, .ro, 0, 0, .dev⟩
/-! ADC_HK_ROUND (10_analogue.md) -/
def Reg.ADC_HK_ROUND.COUNT : Field := ⟨0x46100, 0x0, 1, 0x0, 1, 0, 32, .ro, 0, 0, .dev⟩
/-! ADC_HK_DIODE_CFG0 (10_analogue.md) -/
def Reg.ADC_HK_DIODE_CFG0.IDEALITY : Field := ⟨0x46104, 0x0, 1, 0x0, 1, 0, 16, .rw, 4136, 0, .dev⟩
/-! ADC_HK_DIODE_CFG1 (10_analogue.md) -/
def Reg.ADC_HK_DIODE_CFG1.IDEALITY : Field := ⟨0x46108, 0x0, 1, 0x0, 1, 0, 16, .rw, 4136, 0, .dev⟩
/-! DRV_CTRL (11_drive_stage.md) -/
def Reg.DRV_CTRL.MODE : Field := ⟨0x80000, 0x4000, 4, 0x0, 1, 0, 2, .rw, 0, 0, .dev⟩
def Reg.DRV_CTRL.LATCH_CLEAR : Field := ⟨0x80000, 0x4000, 4, 0x0, 1, 2, 1, .w1s, 0, 0, .dev⟩
def Reg.DRV_CTRL.CLEAR_COUNTS : Field := ⟨0x80000, 0x4000, 4, 0x0, 1, 3, 1, .w1s, 0, 0, .dev⟩
def Reg.DRV_CTRL.UNLOCK : Field := ⟨0x80000, 0x4000, 4, 0x0, 1, 16, 16, .wo, 0, 0, .dev⟩
/-! DRV_STATUS (11_drive_stage.md) -/
def Reg.DRV_STATUS.LINK : Field := ⟨0x80004, 0x4000, 4, 0x0, 1, 0, 1, .ro, 0, 0, .dev⟩
def Reg.DRV_STATUS.VDRV_OK : Field := ⟨0x80004, 0x4000, 4, 0x0, 1, 1, 1, .ro, 0, 0, .dev⟩
def Reg.DRV_STATUS.ENABLE : Field := ⟨0x80004, 0x4000, 4, 0x0, 1, 2, 1, .ro, 0, 0, .dev⟩
def Reg.DRV_STATUS.LATCHED : Field := ⟨0x80004, 0x4000, 4, 0x0, 1, 3, 1, .ro, 0, 0, .dev⟩
def Reg.DRV_STATUS.LATCH_CAUSE : Field := ⟨0x80004, 0x4000, 4, 0x0, 1, 4, 2, .ro, 0, 0, .dev⟩
def Reg.DRV_STATUS.OT_SHUT : Field := ⟨0x80004, 0x4000, 4, 0x0, 1, 6, 1, .ro, 0, 0, .dev⟩
def Reg.DRV_STATUS.BAND : Field := ⟨0x80004, 0x4000, 4, 0x0, 1, 7, 2, .ro, 0, 0, .dev⟩
def Reg.DRV_STATUS.LOAD_PENDING : Field := ⟨0x80004, 0x4000, 4, 0x0, 1, 9, 1, .ro, 0, 0, .dev⟩
def Reg.DRV_STATUS.LEG_FAULT : Field := ⟨0x80004, 0x4000, 4, 0x0, 1, 16, 4, .ro, 0, 0, .dev⟩
/-! DRV_CARRIER (11_drive_stage.md) -/
def Reg.DRV_CARRIER.TOP : Field := ⟨0x80008, 0x4000, 4, 0x0, 1, 0, 17, .rw, 0, 0, .dev⟩
/-! DRV_CARRIER_ACT (11_drive_stage.md) -/
def Reg.DRV_CARRIER_ACT.TOP : Field := ⟨0x8000c, 0x4000, 4, 0x0, 1, 0, 17, .ro, 0, 0, .dev⟩
def Reg.DRV_CARRIER_ACT.DOWN : Field := ⟨0x8000c, 0x4000, 4, 0x0, 1, 17, 1, .ro, 0, 0, .dev⟩
/-! DRV_GATE (11_drive_stage.md) -/
def Reg.DRV_GATE.SRC : Field := ⟨0x80010, 0x4000, 4, 0x0, 1, 0, 4, .rw, 0, 0, .dev⟩
def Reg.DRV_GATE.SNK : Field := ⟨0x80010, 0x4000, 4, 0x0, 1, 4, 4, .rw, 0, 0, .dev⟩
def Reg.DRV_GATE.SOFT : Field := ⟨0x80010, 0x4000, 4, 0x0, 1, 8, 4, .rw, 0, 0, .dev⟩
def Reg.DRV_GATE.CH_SRC : Field := ⟨0x80010, 0x4000, 4, 0x0, 1, 12, 4, .rw, 0, 0, .dev⟩
def Reg.DRV_GATE.CH_SNK : Field := ⟨0x80010, 0x4000, 4, 0x0, 1, 16, 4, .rw, 0, 0, .dev⟩
def Reg.DRV_GATE.CH_SOFT : Field := ⟨0x80010, 0x4000, 4, 0x0, 1, 20, 4, .rw, 0, 0, .dev⟩
def Reg.DRV_GATE.TEMP_COMP : Field := ⟨0x80010, 0x4000, 4, 0x0, 1, 24, 1, .rw, 0, 0, .dev⟩
/-! DRV_PROT (11_drive_stage.md) -/
def Reg.DRV_PROT.BLANK : Field := ⟨0x80014, 0x4000, 4, 0x0, 1, 0, 6, .rw, 0, 0, .dev⟩
def Reg.DRV_PROT.MIN_PULSE : Field := ⟨0x80014, 0x4000, 4, 0x0, 1, 8, 9, .rw, 0, 0, .dev⟩
/-! DRV_CHOP_CFG (11_drive_stage.md) -/
def Reg.DRV_CHOP_CFG.MODE : Field := ⟨0x80018, 0x4000, 4, 0x0, 1, 0, 1, .rw, 0, 0, .dev⟩
def Reg.DRV_CHOP_CFG.SIDE : Field := ⟨0x80018, 0x4000, 4, 0x0, 1, 1, 1, .rw, 0, 0, .dev⟩
def Reg.DRV_CHOP_CFG.TIME : Field := ⟨0x80018, 0x4000, 4, 0x0, 1, 8, 24, .rw, 0, 0, .dev⟩
/-! DRV_CHOP_PERIOD (11_drive_stage.md) -/
def Reg.DRV_CHOP_PERIOD.PERIOD : Field := ⟨0x8001c, 0x4000, 4, 0x0, 1, 0, 23, .rw, 0, 0, .dev⟩
/-! DRV_LEG_CFG (11_drive_stage.md) -/
def Reg.DRV_LEG_CFG.MODE : Field := ⟨0x80020, 0x4000, 4, 0x10, 4, 0, 2, .rw, 0, 0, .dev⟩
def Reg.DRV_LEG_CFG.DEADTIME : Field := ⟨0x80020, 0x4000, 4, 0x10, 4, 4, 12, .rw, 0, 0, .dev⟩
/-! DRV_LEG_DUTY (11_drive_stage.md) -/
def Reg.DRV_LEG_DUTY.CMP : Field := ⟨0x80024, 0x4000, 4, 0x10, 3, 0, 17, .rw, 0, 0, .dev⟩
/-! DRV_LEG_STATUS (11_drive_stage.md) -/
def Reg.DRV_LEG_STATUS.CMP_ACT : Field := ⟨0x80028, 0x4000, 4, 0x10, 4, 0, 17, .ro, 0, 0, .dev⟩
def Reg.DRV_LEG_STATUS.DESAT_HS : Field := ⟨0x80028, 0x4000, 4, 0x10, 4, 17, 1, .ro, 0, 0, .dev⟩
def Reg.DRV_LEG_STATUS.DESAT_LS : Field := ⟨0x80028, 0x4000, 4, 0x10, 4, 18, 1, .ro, 0, 0, .dev⟩
def Reg.DRV_LEG_STATUS.INSTANT : Field := ⟨0x80028, 0x4000, 4, 0x10, 4, 19, 1, .ro, 0, 0, .dev⟩
def Reg.DRV_LEG_STATUS.VB_UV : Field := ⟨0x80028, 0x4000, 4, 0x10, 4, 20, 1, .ro, 0, 0, .dev⟩
def Reg.DRV_LEG_STATUS.UVLO : Field := ⟨0x80028, 0x4000, 4, 0x10, 4, 21, 1, .ro, 0, 0, .dev⟩
def Reg.DRV_LEG_STATUS.INPUT_ACTIVE : Field := ⟨0x80028, 0x4000, 4, 0x10, 4, 22, 1, .ro, 0, 0, .dev⟩
def Reg.DRV_LEG_STATUS.GATES_OFF : Field := ⟨0x80028, 0x4000, 4, 0x10, 4, 23, 1, .ro, 0, 0, .dev⟩
def Reg.DRV_LEG_STATUS.MODE_ACT : Field := ⟨0x80028, 0x4000, 4, 0x10, 4, 24, 2, .ro, 0, 0, .dev⟩
/-! DRV_LEG_COUNT (11_drive_stage.md) -/
def Reg.DRV_LEG_COUNT.SUPPRESSED : Field := ⟨0x8002c, 0x4000, 4, 0x10, 4, 0, 12, .ro, 0, 0, .dev⟩
def Reg.DRV_LEG_COUNT.FULL_ON : Field := ⟨0x8002c, 0x4000, 4, 0x10, 4, 12, 12, .ro, 0, 0, .dev⟩
def Reg.DRV_LEG_COUNT.INTERLOCK : Field := ⟨0x8002c, 0x4000, 4, 0x10, 4, 24, 8, .ro, 0, 0, .dev⟩
/-! DRV_TRIP (11_drive_stage.md) -/
def Reg.DRV_TRIP.COUNT : Field := ⟨0x80060, 0x4000, 4, 0x0, 1, 0, 16, .ro, 0, 0, .dev⟩
def Reg.DRV_TRIP.LAST_LEG : Field := ⟨0x80060, 0x4000, 4, 0x0, 1, 16, 2, .ro, 0, 0, .dev⟩
def Reg.DRV_TRIP.LAST_CAUSE : Field := ⟨0x80060, 0x4000, 4, 0x0, 1, 18, 2, .ro, 0, 0, .dev⟩
/-! DRV_TRIP_NS_LO (11_drive_stage.md) -/
def Reg.DRV_TRIP_NS_LO.NS : Field := ⟨0x80064, 0x4000, 4, 0x0, 1, 0, 32, .ro, 0, 0, .dev⟩
/-! DRV_TRIP_NS_HI (11_drive_stage.md) -/
def Reg.DRV_TRIP_NS_HI.NS : Field := ⟨0x80068, 0x4000, 4, 0x0, 1, 0, 32, .ro, 0, 0, .dev⟩
/-! DRV_EVENT (11_drive_stage.md) -/
def Reg.DRV_EVENT.TRIP : Field := ⟨0x80070, 0x4000, 4, 0x0, 1, 0, 1, .w1c, 0, 0, .dev⟩
def Reg.DRV_EVENT.LATCH : Field := ⟨0x80070, 0x4000, 4, 0x0, 1, 1, 1, .w1c, 0, 0, .dev⟩
def Reg.DRV_EVENT.LOAD_DONE : Field := ⟨0x80070, 0x4000, 4, 0x0, 1, 2, 1, .w1c, 0, 0, .dev⟩
def Reg.DRV_EVENT.LOAD_ERR : Field := ⟨0x80070, 0x4000, 4, 0x0, 1, 3, 1, .w1c, 0, 0, .dev⟩
def Reg.DRV_EVENT.CLEAR_REFUSED : Field := ⟨0x80070, 0x4000, 4, 0x0, 1, 4, 1, .w1c, 0, 0, .dev⟩
def Reg.DRV_EVENT.UVLO : Field := ⟨0x80070, 0x4000, 4, 0x0, 1, 5, 1, .w1c, 0, 0, .dev⟩
def Reg.DRV_EVENT.LINK : Field := ⟨0x80070, 0x4000, 4, 0x0, 1, 6, 1, .w1c, 0, 0, .dev⟩
def Reg.DRV_EVENT.OT_SHUT : Field := ⟨0x80070, 0x4000, 4, 0x0, 1, 7, 1, .w1c, 0, 0, .dev⟩
/-! DRV_EVENT_EN (11_drive_stage.md) -/
def Reg.DRV_EVENT_EN.EN : Field := ⟨0x80074, 0x4000, 4, 0x0, 1, 0, 8, .rw, 0, 0, .dev⟩
/-! DRV_LOADALL (11_drive_stage.md) -/
def Reg.DRV_LOADALL.UNITS : Field := ⟨0x83f00, 0x0, 1, 0x0, 1, 0, 4, .w1s, 0, 0, .dev⟩
/-! DRV_LOAD_STATUS (11_drive_stage.md) -/
def Reg.DRV_LOAD_STATUS.DONE : Field := ⟨0x83f04, 0x0, 1, 0x0, 1, 0, 4, .ro, 0, 0, .dev⟩
def Reg.DRV_LOAD_STATUS.ERR : Field := ⟨0x83f04, 0x0, 1, 0x0, 1, 4, 4, .ro, 0, 0, .dev⟩
def Reg.DRV_LOAD_STATUS.SYNC_IGNORED : Field := ⟨0x83f04, 0x0, 1, 0x0, 1, 8, 4, .ro, 0, 0, .dev⟩
/-! DRV_SYNC (11_drive_stage.md) -/
def Reg.DRV_SYNC.UNITS : Field := ⟨0x83f08, 0x0, 1, 0x0, 1, 0, 4, .w1s, 0, 0, .dev⟩
/-! MOT_CTRL (12_drive_motor.md) -/
def Reg.MOT_CTRL.CHOP_RESET : Field := ⟨0x80100, 0x4000, 4, 0x0, 1, 0, 1, .w1s, 0, 0, .dev⟩
/-! MOT_SPEED_SET (12_drive_motor.md) -/
def Reg.MOT_SPEED_SET.SPEED : Field := ⟨0x80104, 0x4000, 4, 0x0, 1, 0, 16, .rw, 0, 0, .dev⟩
/-! MOT_STATE (12_drive_motor.md) -/
def Reg.MOT_STATE.STATE : Field := ⟨0x80108, 0x4000, 4, 0x0, 1, 0, 4, .ro, 0, 0, .dev⟩
def Reg.MOT_STATE.CHOP_FAULT : Field := ⟨0x80108, 0x4000, 4, 0x0, 1, 4, 1, .ro, 0, 0, .dev⟩
def Reg.MOT_STATE.VLIMIT : Field := ⟨0x80108, 0x4000, 4, 0x0, 1, 5, 1, .ro, 0, 0, .dev⟩
def Reg.MOT_STATE.ILIMIT : Field := ⟨0x80108, 0x4000, 4, 0x0, 1, 6, 1, .ro, 0, 0, .dev⟩
def Reg.MOT_STATE.SIGNAL_LOST : Field := ⟨0x80108, 0x4000, 4, 0x0, 1, 7, 1, .ro, 0, 0, .dev⟩
def Reg.MOT_STATE.CURVE_ON : Field := ⟨0x80108, 0x4000, 4, 0x0, 1, 8, 1, .ro, 0, 0, .dev⟩
def Reg.MOT_STATE.PRIV : Field := ⟨0x80108, 0x4000, 4, 0x0, 1, 9, 1, .ro, 0, 0, .dev⟩
def Reg.MOT_STATE.SHED : Field := ⟨0x80108, 0x4000, 4, 0x0, 1, 10, 1, .ro, 0, 0, .dev⟩
def Reg.MOT_STATE.THROTTLE : Field := ⟨0x80108, 0x4000, 4, 0x0, 1, 11, 1, .ro, 0, 0, .dev⟩
def Reg.MOT_STATE.SRC : Field := ⟨0x80108, 0x4000, 4, 0x0, 1, 12, 3, .ro, 0, 0, .dev⟩
/-! MOT_SPEED (12_drive_motor.md) -/
def Reg.MOT_SPEED.REF : Field := ⟨0x8010c, 0x4000, 4, 0x0, 1, 0, 16, .ro, 0, 0, .dev⟩
def Reg.MOT_SPEED.EST : Field := ⟨0x8010c, 0x4000, 4, 0x0, 1, 16, 16, .ro, 0, 0, .dev⟩
/-! MOT_CMD (12_drive_motor.md) -/
def Reg.MOT_CMD.CMD : Field := ⟨0x80110, 0x4000, 4, 0x0, 1, 0, 16, .ro, 0, 0, .dev⟩
def Reg.MOT_CMD.CONF : Field := ⟨0x80110, 0x4000, 4, 0x0, 1, 16, 16, .ro, 0, 0, .dev⟩
/-! MOT_CURRENT (12_drive_motor.md) -/
def Reg.MOT_CURRENT.ID : Field := ⟨0x80114, 0x4000, 4, 0x0, 1, 0, 16, .ro, 0, 0, .dev⟩
def Reg.MOT_CURRENT.IQ : Field := ⟨0x80114, 0x4000, 4, 0x0, 1, 16, 16, .ro, 0, 0, .dev⟩
/-! MOT_BUS (12_drive_motor.md) -/
def Reg.MOT_BUS.VBUS : Field := ⟨0x80118, 0x4000, 4, 0x0, 1, 0, 16, .ro, 0, 0, .dev⟩
def Reg.MOT_BUS.ADV : Field := ⟨0x80118, 0x4000, 4, 0x0, 1, 16, 8, .ro, 0, 0, .dev⟩
def Reg.MOT_BUS.CHOP_D : Field := ⟨0x80118, 0x4000, 4, 0x0, 1, 24, 8, .ro, 0, 0, .dev⟩
/-! MOT_INPUT (12_drive_motor.md) -/
def Reg.MOT_INPUT.VALUE : Field := ⟨0x8011c, 0x4000, 4, 0x0, 1, 0, 32, .ro, 0, 0, .dev⟩
/-! MOT_COUNT (12_drive_motor.md) -/
def Reg.MOT_COUNT.CATCH_OK : Field := ⟨0x80120, 0x4000, 4, 0x0, 1, 0, 8, .ro, 0, 0, .dev⟩
def Reg.MOT_COUNT.CATCH_FAIL : Field := ⟨0x80120, 0x4000, 4, 0x0, 1, 8, 8, .ro, 0, 0, .dev⟩
def Reg.MOT_COUNT.START_FAIL : Field := ⟨0x80120, 0x4000, 4, 0x0, 1, 16, 8, .ro, 0, 0, .dev⟩
def Reg.MOT_COUNT.CHOP_FAULTS : Field := ⟨0x80120, 0x4000, 4, 0x0, 1, 24, 8, .ro, 0, 0, .dev⟩
/-! MOT_EVENT (12_drive_motor.md) -/
def Reg.MOT_EVENT.STATE : Field := ⟨0x80124, 0x4000, 4, 0x0, 1, 0, 1, .w1c, 0, 0, .dev⟩
def Reg.MOT_EVENT.OBS_LOST : Field := ⟨0x80124, 0x4000, 4, 0x0, 1, 1, 1, .w1c, 0, 0, .dev⟩
def Reg.MOT_EVENT.CATCH_FAIL : Field := ⟨0x80124, 0x4000, 4, 0x0, 1, 2, 1, .w1c, 0, 0, .dev⟩
def Reg.MOT_EVENT.CHOP_FAULT : Field := ⟨0x80124, 0x4000, 4, 0x0, 1, 3, 1, .w1c, 0, 0, .dev⟩
def Reg.MOT_EVENT.SIGNAL_LOST : Field := ⟨0x80124, 0x4000, 4, 0x0, 1, 4, 1, .w1c, 0, 0, .dev⟩
def Reg.MOT_EVENT.VLIMIT : Field := ⟨0x80124, 0x4000, 4, 0x0, 1, 5, 1, .w1c, 0, 0, .dev⟩
/-! MOT_EVENT_EN (12_drive_motor.md) -/
def Reg.MOT_EVENT_EN.EN : Field := ⟨0x80128, 0x4000, 4, 0x0, 1, 0, 6, .rw, 0, 0, .dev⟩
/-! MOT_CURVE (12_drive_motor.md) -/
def Reg.MOT_CURVE.X : Field := ⟨0x80140, 0x4000, 4, 0x4, 32, 0, 8, .ro, 0, 0, .dev⟩
def Reg.MOT_CURVE.Y : Field := ⟨0x80140, 0x4000, 4, 0x4, 32, 8, 8, .ro, 0, 0, .dev⟩
def Reg.MOT_CURVE.USED : Field := ⟨0x80140, 0x4000, 4, 0x4, 32, 16, 1, .ro, 0, 0, .dev⟩
/-! MOT_ADV (12_drive_motor.md) -/
def Reg.MOT_ADV.SPEED : Field := ⟨0x801c0, 0x4000, 4, 0x4, 16, 0, 8, .ro, 0, 0, .dev⟩
def Reg.MOT_ADV.ANGLE : Field := ⟨0x801c0, 0x4000, 4, 0x4, 16, 8, 8, .ro, 0, 0, .dev⟩
/-! SAFE_STATUS (13_safety.md) -/
def Reg.SAFE_STATUS.A_OK : Field := ⟨0x8000, 0x0, 1, 0x0, 1, 0, 1, .ro, 0, 0, .dev⟩
def Reg.SAFE_STATUS.B_OK : Field := ⟨0x8000, 0x0, 1, 0x0, 1, 1, 1, .ro, 0, 0, .dev⟩
def Reg.SAFE_STATUS.DIAG : Field := ⟨0x8000, 0x0, 1, 0x0, 1, 2, 1, .ro, 0, 0, .dev⟩
def Reg.SAFE_STATUS.DIAG_CAUSE : Field := ⟨0x8000, 0x0, 1, 0x0, 1, 3, 3, .ro, 0, 0, .dev⟩
def Reg.SAFE_STATUS.RESET_PIN : Field := ⟨0x8000, 0x0, 1, 0x0, 1, 6, 1, .ro, 0, 0, .dev⟩
def Reg.SAFE_STATUS.RESET_STUCK : Field := ⟨0x8000, 0x0, 1, 0x0, 1, 7, 1, .ro, 0, 0, .dev⟩
def Reg.SAFE_STATUS.DEMAND : Field := ⟨0x8000, 0x0, 1, 0x0, 1, 8, 8, .ro, 0, 0, .dev⟩
def Reg.SAFE_STATUS.LOCKED : Field := ⟨0x8000, 0x0, 1, 0x0, 1, 16, 8, .ro, 0, 0, .dev⟩
def Reg.SAFE_STATUS.DIAG_A : Field := ⟨0x8000, 0x0, 1, 0x0, 1, 24, 1, .ro, 0, 0, .dev⟩
def Reg.SAFE_STATUS.DIAG_B : Field := ⟨0x8000, 0x0, 1, 0x0, 1, 25, 1, .ro, 0, 0, .dev⟩
/-! SAFE_GROUP (13_safety.md) -/
def Reg.SAFE_GROUP.STATE : Field := ⟨0x8010, 0x4, 8, 0x0, 1, 0, 2, .ro, 0, 0, .dev⟩
def Reg.SAFE_GROUP.KIND : Field := ⟨0x8010, 0x4, 8, 0x0, 1, 2, 1, .ro, 0, 0, .dev⟩
def Reg.SAFE_GROUP.STOP : Field := ⟨0x8010, 0x4, 8, 0x0, 1, 3, 1, .ro, 0, 0, .dev⟩
def Reg.SAFE_GROUP.CAUSE : Field := ⟨0x8010, 0x4, 8, 0x0, 1, 4, 3, .ro, 0, 0, .dev⟩
def Reg.SAFE_GROUP.PAIRS : Field := ⟨0x8010, 0x4, 8, 0x0, 1, 8, 8, .ro, 0, 0, .dev⟩
def Reg.SAFE_GROUP.T_MS : Field := ⟨0x8010, 0x4, 8, 0x0, 1, 16, 16, .ro, 0, 0, .dev⟩
/-! SAFE_PAIR (13_safety.md) -/
def Reg.SAFE_PAIR.CH_A : Field := ⟨0x8030, 0x4, 8, 0x0, 1, 0, 1, .ro, 0, 0, .dev⟩
def Reg.SAFE_PAIR.CH_B : Field := ⟨0x8030, 0x4, 8, 0x0, 1, 1, 1, .ro, 0, 0, .dev⟩
def Reg.SAFE_PAIR.DEMAND : Field := ⟨0x8030, 0x4, 8, 0x0, 1, 2, 1, .ro, 0, 0, .dev⟩
def Reg.SAFE_PAIR.PAIR_FAULT : Field := ⟨0x8030, 0x4, 8, 0x0, 1, 3, 1, .ro, 0, 0, .dev⟩
def Reg.SAFE_PAIR.FAULT_CAUSE : Field := ⟨0x8030, 0x4, 8, 0x0, 1, 4, 3, .ro, 0, 0, .dev⟩
def Reg.SAFE_PAIR.DEMANDS : Field := ⟨0x8030, 0x4, 8, 0x0, 1, 8, 8, .ro, 0, 0, .dev⟩
/-! SAFE_TPO (13_safety.md) -/
def Reg.SAFE_TPO.EN : Field := ⟨0x8050, 0x0, 1, 0x0, 1, 0, 4, .ro, 0, 0, .dev⟩
def Reg.SAFE_TPO.READBACK_FAULT : Field := ⟨0x8050, 0x0, 1, 0x0, 1, 4, 4, .ro, 0, 0, .dev⟩
/-! SAFE_FIRE (13_safety.md) -/
def Reg.SAFE_FIRE.FIRE_A : Field := ⟨0x8054, 0x0, 1, 0x0, 1, 0, 4, .ro, 0, 0, .dev⟩
def Reg.SAFE_FIRE.FIRE_B : Field := ⟨0x8054, 0x0, 1, 0x0, 1, 4, 4, .ro, 0, 0, .dev⟩
def Reg.SAFE_FIRE.DRV_A : Field := ⟨0x8054, 0x0, 1, 0x0, 1, 8, 4, .ro, 0, 0, .dev⟩
def Reg.SAFE_FIRE.DRV_B : Field := ⟨0x8054, 0x0, 1, 0x0, 1, 12, 4, .ro, 0, 0, .dev⟩
/-! SAFE_RESET_ARM (13_safety.md) -/
def Reg.SAFE_RESET_ARM.GROUPS : Field := ⟨0x8058, 0x0, 1, 0x0, 1, 0, 8, .wo, 0, 0, .dev⟩
def Reg.SAFE_RESET_ARM.KEY : Field := ⟨0x8058, 0x0, 1, 0x0, 1, 16, 16, .wo, 0, 0, .dev⟩
/-! SAFE_RESET_STATUS (13_safety.md) -/
def Reg.SAFE_RESET_STATUS.ARMED : Field := ⟨0x805c, 0x0, 1, 0x0, 1, 0, 8, .ro, 0, 0, .dev⟩
def Reg.SAFE_RESET_STATUS.RELEASED : Field := ⟨0x805c, 0x0, 1, 0x0, 1, 8, 8, .ro, 0, 0, .dev⟩
def Reg.SAFE_RESET_STATUS.REFUSED : Field := ⟨0x805c, 0x0, 1, 0x0, 1, 16, 8, .ro, 0, 0, .dev⟩
/-! SAFE_EVENT (13_safety.md) -/
def Reg.SAFE_EVENT.DEMAND : Field := ⟨0x8060, 0x0, 1, 0x0, 1, 0, 1, .w1c, 0, 0, .dev⟩
def Reg.SAFE_EVENT.STOPPING : Field := ⟨0x8060, 0x0, 1, 0x0, 1, 1, 1, .w1c, 0, 0, .dev⟩
def Reg.SAFE_EVENT.REMOVED : Field := ⟨0x8060, 0x0, 1, 0x0, 1, 2, 1, .w1c, 0, 0, .dev⟩
def Reg.SAFE_EVENT.RELEASED : Field := ⟨0x8060, 0x0, 1, 0x0, 1, 3, 1, .w1c, 0, 0, .dev⟩
def Reg.SAFE_EVENT.PAIR_FAULT : Field := ⟨0x8060, 0x0, 1, 0x0, 1, 4, 1, .w1c, 0, 0, .dev⟩
def Reg.SAFE_EVENT.DIAG : Field := ⟨0x8060, 0x0, 1, 0x0, 1, 5, 1, .w1c, 0, 0, .dev⟩
def Reg.SAFE_EVENT.RESET_REFUSED : Field := ⟨0x8060, 0x0, 1, 0x0, 1, 6, 1, .w1c, 0, 0, .dev⟩
/-! SAFE_EVENT_EN (13_safety.md) -/
def Reg.SAFE_EVENT_EN.EN : Field := ⟨0x8064, 0x0, 1, 0x0, 1, 0, 7, .rw, 0, 0, .dev⟩
/-! TIME_CTRL (14_time_ethernet.md) -/
def Reg.TIME_CTRL.SET : Field := ⟨0x50000, 0x0, 1, 0x0, 1, 0, 1, .w1s, 0, 0, .dev⟩
def Reg.TIME_CTRL.STEP : Field := ⟨0x50000, 0x0, 1, 0x0, 1, 1, 1, .w1s, 0, 0, .dev⟩
def Reg.TIME_CTRL.SLEW_GO : Field := ⟨0x50000, 0x0, 1, 0x0, 1, 2, 1, .w1s, 0, 0, .dev⟩
def Reg.TIME_CTRL.SYNC_SET : Field := ⟨0x50000, 0x0, 1, 0x0, 1, 3, 1, .w1s, 0, 0, .dev⟩
def Reg.TIME_CTRL.SYNC_CLR : Field := ⟨0x50000, 0x0, 1, 0x0, 1, 4, 1, .w1s, 0, 0, .dev⟩
def Reg.TIME_CTRL.SERVO : Field := ⟨0x50000, 0x0, 1, 0x0, 1, 5, 1, .rw, 0, 0, .dev⟩
/-! TIME_STATUS (14_time_ethernet.md) -/
def Reg.TIME_STATUS.SYNC : Field := ⟨0x50004, 0x0, 1, 0x0, 1, 0, 1, .ro, 0, 0, .dev⟩
def Reg.TIME_STATUS.SERVO_LOCK : Field := ⟨0x50004, 0x0, 1, 0x0, 1, 1, 1, .ro, 0, 0, .dev⟩
def Reg.TIME_STATUS.PPS_LOST : Field := ⟨0x50004, 0x0, 1, 0x0, 1, 2, 1, .ro, 0, 0, .dev⟩
def Reg.TIME_STATUS.SLEWING : Field := ⟨0x50004, 0x0, 1, 0x0, 1, 3, 1, .ro, 0, 0, .dev⟩
def Reg.TIME_STATUS.RESTORED : Field := ⟨0x50004, 0x0, 1, 0x0, 1, 4, 1, .ro, 0, 0, .dev⟩
/-! TIME_NS_LO (14_time_ethernet.md) -/
def Reg.TIME_NS_LO.NS : Field := ⟨0x50008, 0x0, 1, 0x0, 1, 0, 32, .ro, 0, 0, .dev⟩
/-! TIME_NS_HI (14_time_ethernet.md) -/
def Reg.TIME_NS_HI.NS : Field := ⟨0x5000c, 0x0, 1, 0x0, 1, 0, 32, .ro, 0, 0, .dev⟩
/-! TIME_PTP_NS (14_time_ethernet.md) -/
def Reg.TIME_PTP_NS.VALUE : Field := ⟨0x50010, 0x0, 1, 0x0, 1, 0, 32, .ro, 0, 0, .dev⟩
/-! TIME_PTP_SEC_LO (14_time_ethernet.md) -/
def Reg.TIME_PTP_SEC_LO.VALUE : Field := ⟨0x50014, 0x0, 1, 0x0, 1, 0, 32, .ro, 0, 0, .dev⟩
/-! TIME_PTP_SEC_HI (14_time_ethernet.md) -/
def Reg.TIME_PTP_SEC_HI.VALUE : Field := ⟨0x50018, 0x0, 1, 0x0, 1, 0, 32, .ro, 0, 0, .dev⟩
/-! TIME_PTP_FRAC (14_time_ethernet.md) -/
def Reg.TIME_PTP_FRAC.VALUE : Field := ⟨0x5001c, 0x0, 1, 0x0, 1, 0, 32, .ro, 0, 0, .dev⟩
/-! TIME_SET_NS (14_time_ethernet.md) -/
def Reg.TIME_SET_NS.VALUE : Field := ⟨0x50020, 0x0, 1, 0x0, 1, 0, 32, .rw, 0, 0, .dev⟩
/-! TIME_SET_SEC_LO (14_time_ethernet.md) -/
def Reg.TIME_SET_SEC_LO.VALUE : Field := ⟨0x50024, 0x0, 1, 0x0, 1, 0, 32, .rw, 0, 0, .dev⟩
/-! TIME_SET_SEC_HI (14_time_ethernet.md) -/
def Reg.TIME_SET_SEC_HI.VALUE : Field := ⟨0x50028, 0x0, 1, 0x0, 1, 0, 32, .rw, 0, 0, .dev⟩
/-! TIME_STEP_NS (14_time_ethernet.md) -/
def Reg.TIME_STEP_NS.VALUE : Field := ⟨0x5002c, 0x0, 1, 0x0, 1, 0, 32, .rw, 0, 0, .dev⟩
/-! TIME_STEP_SEC (14_time_ethernet.md) -/
def Reg.TIME_STEP_SEC.VALUE : Field := ⟨0x50030, 0x0, 1, 0x0, 1, 0, 32, .rw, 0, 0, .dev⟩
/-! TIME_ADDEND (14_time_ethernet.md) -/
def Reg.TIME_ADDEND.ADDEND : Field := ⟨0x50034, 0x0, 1, 0x0, 1, 0, 32, .rw, 2147483648, 0, .dev⟩
/-! TIME_SLEW (14_time_ethernet.md) -/
def Reg.TIME_SLEW.VALUE : Field := ⟨0x50038, 0x0, 1, 0x0, 1, 0, 32, .rw, 0, 0, .dev⟩
/-! TIME_SLEW_CFG (14_time_ethernet.md) -/
def Reg.TIME_SLEW_CFG.VALUE : Field := ⟨0x5003c, 0x0, 1, 0x0, 1, 0, 32, .rw, 0, 0, .dev⟩
/-! TIME_SLEW_REMAIN (14_time_ethernet.md) -/
def Reg.TIME_SLEW_REMAIN.VALUE : Field := ⟨0x50040, 0x0, 1, 0x0, 1, 0, 32, .ro, 0, 0, .dev⟩
/-! TIME_PPS_CFG (14_time_ethernet.md) -/
def Reg.TIME_PPS_CFG.KP : Field := ⟨0x50044, 0x0, 1, 0x0, 1, 0, 8, .rw, 138, 0, .dev⟩
def Reg.TIME_PPS_CFG.KI : Field := ⟨0x50044, 0x0, 1, 0x0, 1, 8, 8, .rw, 28, 0, .dev⟩
def Reg.TIME_PPS_CFG.EDGE : Field := ⟨0x50044, 0x0, 1, 0x0, 1, 16, 1, .rw, 0, 0, .dev⟩
def Reg.TIME_PPS_CFG.LOCK_NS : Field := ⟨0x50044, 0x0, 1, 0x0, 1, 20, 12, .rw, 10, 0, .dev⟩
/-! TIME_PPS_OFFSET (14_time_ethernet.md) -/
def Reg.TIME_PPS_OFFSET.VALUE : Field := ⟨0x50048, 0x0, 1, 0x0, 1, 0, 32, .rw, 0, 0, .dev⟩
/-! TIME_PPS_ERR (14_time_ethernet.md) -/
def Reg.TIME_PPS_ERR.VALUE : Field := ⟨0x5004c, 0x0, 1, 0x0, 1, 0, 32, .ro, 0, 0, .dev⟩
/-! TIME_PPS_COUNT (14_time_ethernet.md) -/
def Reg.TIME_PPS_COUNT.EDGES : Field := ⟨0x50050, 0x0, 1, 0x0, 1, 0, 16, .ro, 0, 0, .dev⟩
def Reg.TIME_PPS_COUNT.REJECTED : Field := ⟨0x50050, 0x0, 1, 0x0, 1, 16, 16, .ro, 0, 0, .dev⟩
/-! TIME_FRAME_ALIGN (14_time_ethernet.md) -/
def Reg.TIME_FRAME_ALIGN.OFFSET : Field := ⟨0x50054, 0x0, 1, 0x0, 1, 0, 16, .ro, 0, 0, .dev⟩
def Reg.TIME_FRAME_ALIGN.SLEW : Field := ⟨0x50054, 0x0, 1, 0x0, 1, 16, 7, .ro, 10, 0, .dev⟩
/-! TIME_FRAME_PHASE (14_time_ethernet.md) -/
def Reg.TIME_FRAME_PHASE.E : Field := ⟨0x50058, 0x0, 1, 0x0, 1, 0, 32, .ro, 0, 0, .dev⟩
/-! TIME_EVENT (14_time_ethernet.md) -/
def Reg.TIME_EVENT.EVENTS : Field := ⟨0x50060, 0x0, 1, 0x0, 1, 0, 5, .w1c, 0, 0, .dev⟩
/-! TIME_EVENT_EN (14_time_ethernet.md) -/
def Reg.TIME_EVENT_EN.EVENTS : Field := ⟨0x50064, 0x0, 1, 0x0, 1, 0, 5, .rw, 0, 0, .dev⟩
/-! ETH_CTRL (14_time_ethernet.md) -/
def Reg.ETH_CTRL.MODE : Field := ⟨0x51000, 0x1000, 2, 0x0, 1, 0, 2, .rw, 0, 0, .dev⟩
def Reg.ETH_CTRL.AN_EN : Field := ⟨0x51000, 0x1000, 2, 0x0, 1, 2, 1, .rw, 0, 0, .dev⟩
def Reg.ETH_CTRL.TX_EN : Field := ⟨0x51000, 0x1000, 2, 0x0, 1, 3, 1, .rw, 0, 0, .dev⟩
def Reg.ETH_CTRL.RX_EN : Field := ⟨0x51000, 0x1000, 2, 0x0, 1, 4, 1, .rw, 0, 0, .dev⟩
def Reg.ETH_CTRL.PROMISC : Field := ⟨0x51000, 0x1000, 2, 0x0, 1, 5, 1, .rw, 0, 0, .dev⟩
/-! ETH_STATUS (14_time_ethernet.md) -/
def Reg.ETH_STATUS.LINK : Field := ⟨0x51004, 0x1000, 2, 0x0, 1, 0, 1, .ro, 0, 0, .dev⟩
def Reg.ETH_STATUS.SPEED : Field := ⟨0x51004, 0x1000, 2, 0x0, 1, 1, 2, .ro, 0, 0, .dev⟩
def Reg.ETH_STATUS.AN_DONE : Field := ⟨0x51004, 0x1000, 2, 0x0, 1, 3, 1, .ro, 0, 0, .dev⟩
/-! ETH_MAC_LO (14_time_ethernet.md) -/
def Reg.ETH_MAC_LO.MAC : Field := ⟨0x51008, 0x1000, 2, 0x0, 1, 0, 32, .rw, 0, 0, .dev⟩
/-! ETH_MAC_HI (14_time_ethernet.md) -/
def Reg.ETH_MAC_HI.MAC : Field := ⟨0x5100c, 0x1000, 2, 0x0, 1, 0, 32, .rw, 0, 0, .dev⟩
/-! ETH_LAT (14_time_ethernet.md) -/
def Reg.ETH_LAT.TX : Field := ⟨0x51010, 0x1000, 2, 0x0, 1, 0, 16, .rw, 0, 0, .dev⟩
def Reg.ETH_LAT.RX : Field := ⟨0x51010, 0x1000, 2, 0x0, 1, 16, 16, .rw, 0, 0, .dev⟩
/-! ETH_MCAST (14_time_ethernet.md) -/
def Reg.ETH_MCAST.MAC : Field := ⟨0x51040, 0x1000, 2, 0x4, 16, 0, 32, .rw, 0, 0, .dev⟩
/-! ETH_TXR_BASE_LO (14_time_ethernet.md) -/
def Reg.ETH_TXR_BASE_LO.ADDR : Field := ⟨0x51100, 0x1000, 2, 0x0, 1, 0, 32, .rw, 0, 0, .dev⟩
/-! ETH_TXR_BASE_HI (14_time_ethernet.md) -/
def Reg.ETH_TXR_BASE_HI.ADDR : Field := ⟨0x51104, 0x1000, 2, 0x0, 1, 0, 32, .rw, 0, 0, .dev⟩
/-! ETH_RXR_BASE_LO (14_time_ethernet.md) -/
def Reg.ETH_RXR_BASE_LO.ADDR : Field := ⟨0x51120, 0x1000, 2, 0x0, 1, 0, 32, .rw, 0, 0, .dev⟩
/-! ETH_RXR_BASE_HI (14_time_ethernet.md) -/
def Reg.ETH_RXR_BASE_HI.ADDR : Field := ⟨0x51124, 0x1000, 2, 0x0, 1, 0, 32, .rw, 0, 0, .dev⟩
/-! ETH_TXR_CFG (14_time_ethernet.md) -/
def Reg.ETH_TXR_CFG.LOG2N : Field := ⟨0x51108, 0x1000, 2, 0x0, 1, 0, 4, .rw, 4, 0, .dev⟩
def Reg.ETH_TXR_CFG.BUF : Field := ⟨0x51108, 0x1000, 2, 0x0, 1, 16, 16, .rw, 2048, 0, .dev⟩
/-! ETH_RXR_CFG (14_time_ethernet.md) -/
def Reg.ETH_RXR_CFG.LOG2N : Field := ⟨0x51128, 0x1000, 2, 0x0, 1, 0, 4, .rw, 4, 0, .dev⟩
def Reg.ETH_RXR_CFG.BUF : Field := ⟨0x51128, 0x1000, 2, 0x0, 1, 16, 16, .rw, 2048, 0, .dev⟩
/-! ETH_TXR_HEAD (14_time_ethernet.md) -/
def Reg.ETH_TXR_HEAD.INDEX : Field := ⟨0x5110c, 0x1000, 2, 0x0, 1, 0, 12, .ro, 0, 0, .dev⟩
/-! ETH_TXR_TAIL (14_time_ethernet.md) -/
def Reg.ETH_TXR_TAIL.INDEX : Field := ⟨0x51110, 0x1000, 2, 0x0, 1, 0, 12, .rw, 0, 0, .dev⟩
/-! ETH_RXR_HEAD (14_time_ethernet.md) -/
def Reg.ETH_RXR_HEAD.INDEX : Field := ⟨0x5112c, 0x1000, 2, 0x0, 1, 0, 12, .ro, 0, 0, .dev⟩
/-! ETH_RXR_TAIL (14_time_ethernet.md) -/
def Reg.ETH_RXR_TAIL.INDEX : Field := ⟨0x51130, 0x1000, 2, 0x0, 1, 0, 12, .rw, 0, 0, .dev⟩
/-! ETH_TXTS (14_time_ethernet.md) -/
def Reg.ETH_TXTS.ENTRY : Field := ⟨0x51200, 0x1000, 2, 0x4, 4, 0, 32, .ro, 0, 0, .dev⟩
/-! ETH_TXTS_STATUS (14_time_ethernet.md) -/
def Reg.ETH_TXTS_STATUS.COUNT : Field := ⟨0x51210, 0x1000, 2, 0x0, 1, 0, 6, .ro, 0, 0, .dev⟩
def Reg.ETH_TXTS_STATUS.OVF : Field := ⟨0x51210, 0x1000, 2, 0x0, 1, 6, 1, .w1c, 0, 0, .dev⟩
def Reg.ETH_TXTS_STATUS.DROPPED : Field := ⟨0x51210, 0x1000, 2, 0x0, 1, 16, 16, .ro, 0, 0, .dev⟩
/-! ETH_COUNT (14_time_ethernet.md) -/
def Reg.ETH_COUNT.NO_DESC : Field := ⟨0x51220, 0x1000, 2, 0x0, 1, 0, 16, .ro, 0, 0, .dev⟩
def Reg.ETH_COUNT.FILTERED : Field := ⟨0x51220, 0x1000, 2, 0x0, 1, 16, 16, .ro, 0, 0, .dev⟩
/-! ETH_EVENT (14_time_ethernet.md) -/
def Reg.ETH_EVENT.EVENTS : Field := ⟨0x51230, 0x1000, 2, 0x0, 1, 0, 5, .w1c, 0, 0, .dev⟩
/-! ETH_EVENT_EN (14_time_ethernet.md) -/
def Reg.ETH_EVENT_EN.EVENTS : Field := ⟨0x51234, 0x1000, 2, 0x0, 1, 0, 5, .rw, 0, 0, .dev⟩
/-! CAN_CTRL (15_can.md) -/
def Reg.CAN_CTRL.MODE : Field := ⟨0x60000, 0x4000, 4, 0x0, 1, 0, 3, .ro, 0, 0, .dev⟩
def Reg.CAN_CTRL.FD_EN : Field := ⟨0x60000, 0x4000, 4, 0x0, 1, 3, 1, .ro, 0, 0, .dev⟩
def Reg.CAN_CTRL.AUTO_RECOVER : Field := ⟨0x60000, 0x4000, 4, 0x0, 1, 4, 1, .ro, 0, 0, .dev⟩
def Reg.CAN_CTRL.RECOVER : Field := ⟨0x60000, 0x4000, 4, 0x0, 1, 5, 1, .w1s, 0, 0, .dev⟩
/-! CAN_STATUS (15_can.md) -/
def Reg.CAN_STATUS.STATE : Field := ⟨0x60004, 0x4000, 4, 0x0, 1, 0, 2, .ro, 0, 0, .dev⟩
def Reg.CAN_STATUS.WARNING : Field := ⟨0x60004, 0x4000, 4, 0x0, 1, 2, 1, .ro, 0, 0, .dev⟩
def Reg.CAN_STATUS.RECOVERING : Field := ⟨0x60004, 0x4000, 4, 0x0, 1, 3, 1, .ro, 0, 0, .dev⟩
def Reg.CAN_STATUS.SHED : Field := ⟨0x60004, 0x4000, 4, 0x0, 1, 4, 1, .ro, 0, 0, .dev⟩
/-! CAN_ERRCNT (15_can.md) -/
def Reg.CAN_ERRCNT.TEC : Field := ⟨0x60008, 0x4000, 4, 0x0, 1, 0, 9, .ro, 0, 0, .dev⟩
def Reg.CAN_ERRCNT.REC : Field := ⟨0x60008, 0x4000, 4, 0x0, 1, 16, 8, .ro, 0, 0, .dev⟩
def Reg.CAN_ERRCNT.BUSOFF : Field := ⟨0x60008, 0x4000, 4, 0x0, 1, 24, 8, .ro, 0, 0, .dev⟩
/-! CAN_NBT (15_can.md) -/
def Reg.CAN_NBT.NBRP : Field := ⟨0x6000c, 0x4000, 4, 0x0, 1, 0, 8, .ro, 0, 0, .dev⟩
def Reg.CAN_NBT.NTSEG1 : Field := ⟨0x6000c, 0x4000, 4, 0x0, 1, 8, 8, .ro, 0, 0, .dev⟩
def Reg.CAN_NBT.NTSEG2 : Field := ⟨0x6000c, 0x4000, 4, 0x0, 1, 16, 7, .ro, 0, 0, .dev⟩
def Reg.CAN_NBT.NSJW : Field := ⟨0x6000c, 0x4000, 4, 0x0, 1, 23, 7, .ro, 0, 0, .dev⟩
/-! CAN_DBT (15_can.md) -/
def Reg.CAN_DBT.DBRP : Field := ⟨0x60010, 0x4000, 4, 0x0, 1, 0, 5, .ro, 0, 0, .dev⟩
def Reg.CAN_DBT.DTSEG1 : Field := ⟨0x60010, 0x4000, 4, 0x0, 1, 5, 5, .ro, 0, 0, .dev⟩
def Reg.CAN_DBT.DTSEG2 : Field := ⟨0x60010, 0x4000, 4, 0x0, 1, 10, 4, .ro, 0, 0, .dev⟩
def Reg.CAN_DBT.DSJW : Field := ⟨0x60010, 0x4000, 4, 0x0, 1, 14, 4, .ro, 0, 0, .dev⟩
def Reg.CAN_DBT.TDC_EN : Field := ⟨0x60010, 0x4000, 4, 0x0, 1, 18, 1, .ro, 0, 0, .dev⟩
def Reg.CAN_DBT.TDCO : Field := ⟨0x60010, 0x4000, 4, 0x0, 1, 19, 7, .ro, 0, 0, .dev⟩
/-! CAN_MATRIX (15_can.md) -/
def Reg.CAN_MATRIX.LOG2_CYCLE : Field := ⟨0x60014, 0x4000, 4, 0x0, 1, 0, 4, .ro, 0, 0, .dev⟩
def Reg.CAN_MATRIX.LOG2_ROWS : Field := ⟨0x60014, 0x4000, 4, 0x0, 1, 4, 3, .ro, 0, 0, .dev⟩
def Reg.CAN_MATRIX.COLS : Field := ⟨0x60014, 0x4000, 4, 0x0, 1, 8, 7, .ro, 0, 0, .dev⟩
def Reg.CAN_MATRIX.ROW : Field := ⟨0x60014, 0x4000, 4, 0x0, 1, 16, 4, .ro, 0, 0, .dev⟩
def Reg.CAN_MATRIX.COLUMN : Field := ⟨0x60014, 0x4000, 4, 0x0, 1, 20, 6, .ro, 0, 0, .dev⟩
/-! CAN_TXQ (15_can.md) -/
def Reg.CAN_TXQ.FILL : Field := ⟨0x60018, 0x4000, 4, 0x0, 1, 0, 9, .ro, 0, 0, .por⟩
def Reg.CAN_TXQ.LATE : Field := ⟨0x60018, 0x4000, 4, 0x0, 1, 16, 16, .ro, 0, 0, .dev⟩
/-! CAN_TXE0 (15_can.md) -/
def Reg.CAN_TXE0.RECORD : Field := ⟨0x60020, 0x4000, 4, 0x0, 1, 0, 32, .ro, 0, 0, .dev⟩
/-! CAN_TXE1 (15_can.md) -/
def Reg.CAN_TXE1.RECORD : Field := ⟨0x60024, 0x4000, 4, 0x0, 1, 0, 32, .ro, 0, 0, .dev⟩
/-! CAN_TXE2 (15_can.md) -/
def Reg.CAN_TXE2.RECORD : Field := ⟨0x60028, 0x4000, 4, 0x0, 1, 0, 32, .ro, 0, 0, .dev⟩
/-! CAN_TXE_STATUS (15_can.md) -/
def Reg.CAN_TXE_STATUS.COUNT : Field := ⟨0x6002c, 0x4000, 4, 0x0, 1, 0, 6, .ro, 0, 0, .dev⟩
def Reg.CAN_TXE_STATUS.OVF : Field := ⟨0x6002c, 0x4000, 4, 0x0, 1, 6, 1, .w1c, 0, 0, .dev⟩
/-! CAN_RX_STATUS (15_can.md) -/
def Reg.CAN_RX_STATUS.OWNED : Field := ⟨0x60030, 0x4000, 4, 0x0, 1, 0, 7, .ro, 0, 0, .dev⟩
def Reg.CAN_RX_STATUS.OVF : Field := ⟨0x60030, 0x4000, 4, 0x0, 1, 7, 1, .w1c, 0, 0, .dev⟩
def Reg.CAN_RX_STATUS.HEAD : Field := ⟨0x60030, 0x4000, 4, 0x0, 1, 8, 6, .ro, 0, 0, .dev⟩
def Reg.CAN_RX_STATUS.DROPPED : Field := ⟨0x60030, 0x4000, 4, 0x0, 1, 16, 16, .ro, 0, 0, .dev⟩
/-! CAN_RX_ACK (15_can.md) -/
def Reg.CAN_RX_ACK.INDEX : Field := ⟨0x60034, 0x4000, 4, 0x0, 1, 0, 6, .wo, 0, 0, .dev⟩
/-! CAN_EVENT (15_can.md) -/
def Reg.CAN_EVENT.EVENTS : Field := ⟨0x60040, 0x4000, 4, 0x0, 1, 0, 6, .w1c, 0, 0, .dev⟩
/-! CAN_EVENT_EN (15_can.md) -/
def Reg.CAN_EVENT_EN.EVENTS : Field := ⟨0x60044, 0x4000, 4, 0x0, 1, 0, 6, .rw, 0, 0, .dev⟩
/-! CAN_RX_ID (15_can.md) -/
def Reg.CAN_RX_ID.ID : Field := ⟨0x61000, 0x4000, 4, 0x80, 64, 0, 29, .ro, 0, 0, .dev⟩
def Reg.CAN_RX_ID.RTR : Field := ⟨0x61000, 0x4000, 4, 0x80, 64, 29, 1, .ro, 0, 0, .dev⟩
def Reg.CAN_RX_ID.IDE : Field := ⟨0x61000, 0x4000, 4, 0x80, 64, 30, 1, .ro, 0, 0, .dev⟩
def Reg.CAN_RX_ID.VALID : Field := ⟨0x61000, 0x4000, 4, 0x80, 64, 31, 1, .ro, 0, 0, .dev⟩
/-! CAN_RX_INFO (15_can.md) -/
def Reg.CAN_RX_INFO.DLC : Field := ⟨0x61004, 0x4000, 4, 0x80, 64, 0, 4, .ro, 0, 0, .dev⟩
def Reg.CAN_RX_INFO.FDF : Field := ⟨0x61004, 0x4000, 4, 0x80, 64, 4, 1, .ro, 0, 0, .dev⟩
def Reg.CAN_RX_INFO.BRS : Field := ⟨0x61004, 0x4000, 4, 0x80, 64, 5, 1, .ro, 0, 0, .dev⟩
def Reg.CAN_RX_INFO.ESI : Field := ⟨0x61004, 0x4000, 4, 0x80, 64, 6, 1, .ro, 0, 0, .dev⟩
def Reg.CAN_RX_INFO.LOOP : Field := ⟨0x61004, 0x4000, 4, 0x80, 64, 7, 1, .ro, 0, 0, .dev⟩
def Reg.CAN_RX_INFO.FILTER : Field := ⟨0x61004, 0x4000, 4, 0x80, 64, 8, 5, .ro, 0, 0, .dev⟩
def Reg.CAN_RX_INFO.UNFILTERED : Field := ⟨0x61004, 0x4000, 4, 0x80, 64, 13, 1, .ro, 0, 0, .dev⟩
/-! CAN_RX_NS_LO (15_can.md) -/
def Reg.CAN_RX_NS_LO.NS : Field := ⟨0x61008, 0x4000, 4, 0x80, 64, 0, 32, .ro, 0, 0, .dev⟩
/-! CAN_RX_NS_HI (15_can.md) -/
def Reg.CAN_RX_NS_HI.NS : Field := ⟨0x6100c, 0x4000, 4, 0x80, 64, 0, 32, .ro, 0, 0, .dev⟩
/-! CAN_RX_FRAME (15_can.md) -/
def Reg.CAN_RX_FRAME.FRAME : Field := ⟨0x61010, 0x4000, 4, 0x80, 64, 0, 32, .ro, 0, 0, .dev⟩
/-! CAN_RX_DATA0 (15_can.md) -/
def Reg.CAN_RX_DATA0.DATA : Field := ⟨0x61040, 0x4000, 4, 0x80, 64, 0, 32, .ro, 0, 0, .dev⟩
/-! CAN_RX_DATA1 (15_can.md) -/
def Reg.CAN_RX_DATA1.DATA : Field := ⟨0x61044, 0x4000, 4, 0x80, 64, 0, 32, .ro, 0, 0, .dev⟩
/-! CAN_RX_DATA2 (15_can.md) -/
def Reg.CAN_RX_DATA2.DATA : Field := ⟨0x61048, 0x4000, 4, 0x80, 64, 0, 32, .ro, 0, 0, .dev⟩
/-! CAN_RX_DATA3 (15_can.md) -/
def Reg.CAN_RX_DATA3.DATA : Field := ⟨0x6104c, 0x4000, 4, 0x80, 64, 0, 32, .ro, 0, 0, .dev⟩
/-! CAN_RX_DATA4 (15_can.md) -/
def Reg.CAN_RX_DATA4.DATA : Field := ⟨0x61050, 0x4000, 4, 0x80, 64, 0, 32, .ro, 0, 0, .dev⟩
/-! CAN_RX_DATA5 (15_can.md) -/
def Reg.CAN_RX_DATA5.DATA : Field := ⟨0x61054, 0x4000, 4, 0x80, 64, 0, 32, .ro, 0, 0, .dev⟩
/-! CAN_RX_DATA6 (15_can.md) -/
def Reg.CAN_RX_DATA6.DATA : Field := ⟨0x61058, 0x4000, 4, 0x80, 64, 0, 32, .ro, 0, 0, .dev⟩
/-! CAN_RX_DATA7 (15_can.md) -/
def Reg.CAN_RX_DATA7.DATA : Field := ⟨0x6105c, 0x4000, 4, 0x80, 64, 0, 32, .ro, 0, 0, .dev⟩
/-! CAN_RX_DATA8 (15_can.md) -/
def Reg.CAN_RX_DATA8.DATA : Field := ⟨0x61060, 0x4000, 4, 0x80, 64, 0, 32, .ro, 0, 0, .dev⟩
/-! CAN_RX_DATA9 (15_can.md) -/
def Reg.CAN_RX_DATA9.DATA : Field := ⟨0x61064, 0x4000, 4, 0x80, 64, 0, 32, .ro, 0, 0, .dev⟩
/-! CAN_RX_DATA10 (15_can.md) -/
def Reg.CAN_RX_DATA10.DATA : Field := ⟨0x61068, 0x4000, 4, 0x80, 64, 0, 32, .ro, 0, 0, .dev⟩
/-! CAN_RX_DATA11 (15_can.md) -/
def Reg.CAN_RX_DATA11.DATA : Field := ⟨0x6106c, 0x4000, 4, 0x80, 64, 0, 32, .ro, 0, 0, .dev⟩
/-! CAN_RX_DATA12 (15_can.md) -/
def Reg.CAN_RX_DATA12.DATA : Field := ⟨0x61070, 0x4000, 4, 0x80, 64, 0, 32, .ro, 0, 0, .dev⟩
/-! CAN_RX_DATA13 (15_can.md) -/
def Reg.CAN_RX_DATA13.DATA : Field := ⟨0x61074, 0x4000, 4, 0x80, 64, 0, 32, .ro, 0, 0, .dev⟩
/-! CAN_RX_DATA14 (15_can.md) -/
def Reg.CAN_RX_DATA14.DATA : Field := ⟨0x61078, 0x4000, 4, 0x80, 64, 0, 32, .ro, 0, 0, .dev⟩
/-! CAN_RX_DATA15 (15_can.md) -/
def Reg.CAN_RX_DATA15.DATA : Field := ⟨0x6107c, 0x4000, 4, 0x80, 64, 0, 32, .ro, 0, 0, .dev⟩
/-! HOST_VEC_MAP (16_host_backbone.md) -/
def Reg.HOST_VEC_MAP.VECTOR : Field := ⟨0xc40, 0x4, 20, 0x0, 1, 0, 6, .rw, 0, 1, .dev⟩
def Reg.HOST_VEC_MAP.PIN : Field := ⟨0xc40, 0x4, 20, 0x0, 1, 8, 1, .rw, 0, 0, .dev⟩
/-! HOST_IRQ_PENDING (16_host_backbone.md) -/
def Reg.HOST_IRQ_PENDING.SOURCE : Field := ⟨0xd00, 0x0, 1, 0x0, 1, 0, 20, .ro, 0, 0, .dev⟩
/-! HOST_IRQ_LANE (16_host_backbone.md) -/
def Reg.HOST_IRQ_LANE.LANE : Field := ⟨0xd04, 0x4, 3, 0x0, 1, 0, 32, .ro, 0, 0, .dev⟩
/-! HOST_IRQ_UNIT (16_host_backbone.md) -/
def Reg.HOST_IRQ_UNIT.ARM : Field := ⟨0xd10, 0x0, 1, 0x0, 1, 0, 12, .ro, 0, 0, .dev⟩
def Reg.HOST_IRQ_UNIT.DRIVE : Field := ⟨0xd10, 0x0, 1, 0x0, 1, 12, 4, .ro, 0, 0, .dev⟩
def Reg.HOST_IRQ_UNIT.CAN : Field := ⟨0xd10, 0x0, 1, 0x0, 1, 16, 4, .ro, 0, 0, .dev⟩
def Reg.HOST_IRQ_UNIT.BB : Field := ⟨0xd10, 0x0, 1, 0x0, 1, 20, 4, .ro, 0, 0, .dev⟩
/-! HOST_IRQ_ENG (16_host_backbone.md) -/
def Reg.HOST_IRQ_ENG.ENGINE : Field := ⟨0xd14, 0x0, 1, 0x0, 1, 0, 16, .ro, 0, 0, .dev⟩
/-! HOST_BAR2_OPEN (16_host_backbone.md) -/
def Reg.HOST_BAR2_OPEN.BUF : Field := ⟨0xe00, 0x0, 1, 0x0, 1, 0, 2, .rw, 0, 0, .dev⟩
/-! HOST_BAR2_STATUS (16_host_backbone.md) -/
def Reg.HOST_BAR2_STATUS.BUF : Field := ⟨0xe04, 0x0, 1, 0x0, 1, 0, 2, .w1c, 0, 0, .dev⟩
/-! HOST_DRAM_WIN (16_host_backbone.md) -/
def Reg.HOST_DRAM_WIN.BASE : Field := ⟨0xe08, 0x0, 1, 0x0, 1, 0, 13, .rw, 0, 0, .dev⟩
/-! HOST_DEVICE_ID_LO (16_host_backbone.md) -/
def Reg.HOST_DEVICE_ID_LO.ID : Field := ⟨0xe10, 0x0, 1, 0x0, 1, 0, 32, .ro, 0, 0, .fixed⟩
/-! HOST_DEVICE_ID_HI (16_host_backbone.md) -/
def Reg.HOST_DEVICE_ID_HI.ID : Field := ⟨0xe14, 0x0, 1, 0x0, 1, 0, 32, .ro, 0, 0, .fixed⟩
/-! JRN_CMD_BASE_LO (16_host_backbone.md) -/
def Reg.JRN_CMD_BASE_LO.ADDR : Field := ⟨0x6100, 0x0, 1, 0x0, 1, 0, 32, .rw, 0, 0, .dev⟩
/-! JRN_CMD_BASE_HI (16_host_backbone.md) -/
def Reg.JRN_CMD_BASE_HI.ADDR : Field := ⟨0x6104, 0x0, 1, 0x0, 1, 0, 32, .rw, 0, 0, .dev⟩
/-! JRN_CPL_BASE_LO (16_host_backbone.md) -/
def Reg.JRN_CPL_BASE_LO.ADDR : Field := ⟨0x6120, 0x0, 1, 0x0, 1, 0, 32, .rw, 0, 0, .dev⟩
/-! JRN_CPL_BASE_HI (16_host_backbone.md) -/
def Reg.JRN_CPL_BASE_HI.ADDR : Field := ⟨0x6124, 0x0, 1, 0x0, 1, 0, 32, .rw, 0, 0, .dev⟩
/-! JRN_CMD_CFG (16_host_backbone.md) -/
def Reg.JRN_CMD_CFG.LOG2N : Field := ⟨0x6108, 0x0, 1, 0x0, 1, 0, 4, .rw, 4, 0, .dev⟩
def Reg.JRN_CMD_CFG.EN : Field := ⟨0x6108, 0x0, 1, 0x0, 1, 4, 1, .rw, 0, 0, .dev⟩
/-! JRN_CPL_CFG (16_host_backbone.md) -/
def Reg.JRN_CPL_CFG.LOG2N : Field := ⟨0x6128, 0x0, 1, 0x0, 1, 0, 4, .rw, 4, 0, .dev⟩
def Reg.JRN_CPL_CFG.EN : Field := ⟨0x6128, 0x0, 1, 0x0, 1, 4, 1, .rw, 0, 0, .dev⟩
/-! JRN_CMD_HEAD (16_host_backbone.md) -/
def Reg.JRN_CMD_HEAD.INDEX : Field := ⟨0x610c, 0x0, 1, 0x0, 1, 0, 12, .ro, 0, 0, .dev⟩
/-! JRN_CMD_TAIL (16_host_backbone.md) -/
def Reg.JRN_CMD_TAIL.INDEX : Field := ⟨0x6110, 0x0, 1, 0x0, 1, 0, 12, .rw, 0, 0, .dev⟩
/-! JRN_CPL_HEAD (16_host_backbone.md) -/
def Reg.JRN_CPL_HEAD.INDEX : Field := ⟨0x612c, 0x0, 1, 0x0, 1, 0, 12, .rw, 0, 0, .dev⟩
/-! JRN_CPL_TAIL (16_host_backbone.md) -/
def Reg.JRN_CPL_TAIL.INDEX : Field := ⟨0x6130, 0x0, 1, 0x0, 1, 0, 12, .ro, 0, 0, .dev⟩
/-! JRN_RING_STATUS (16_host_backbone.md) -/
def Reg.JRN_RING_STATUS.STOPPED : Field := ⟨0x6140, 0x0, 1, 0x0, 1, 0, 1, .ro, 0, 0, .dev⟩
def Reg.JRN_RING_STATUS.PHASE : Field := ⟨0x6140, 0x0, 1, 0x0, 1, 1, 1, .ro, 1, 0, .dev⟩
def Reg.JRN_RING_STATUS.WAIT_CPL : Field := ⟨0x6140, 0x0, 1, 0x0, 1, 2, 1, .ro, 0, 0, .dev⟩
/-! BB_CTRL (16_host_backbone.md) -/
def Reg.BB_CTRL.EN : Field := ⟨0x400000, 0x10000, 4, 0x0, 1, 0, 1, .ro, 0, 0, .dev⟩
def Reg.BB_CTRL.PAIR : Field := ⟨0x400000, 0x10000, 4, 0x0, 1, 1, 1, .ro, 0, 0, .dev⟩
def Reg.BB_CTRL.IDLE_US : Field := ⟨0x400000, 0x10000, 4, 0x0, 1, 2, 10, .ro, 0, 0, .dev⟩
/-! BB_STATUS (16_host_backbone.md) -/
def Reg.BB_STATUS.UP : Field := ⟨0x400004, 0x10000, 4, 0x0, 1, 0, 1, .ro, 0, 0, .dev⟩
def Reg.BB_STATUS.TX_IDLE : Field := ⟨0x400004, 0x10000, 4, 0x0, 1, 1, 1, .ro, 0, 0, .dev⟩
def Reg.BB_STATUS.RX_IDLE : Field := ⟨0x400004, 0x10000, 4, 0x0, 1, 2, 1, .ro, 0, 0, .dev⟩
def Reg.BB_STATUS.CLOCK : Field := ⟨0x400004, 0x10000, 4, 0x0, 1, 3, 1, .ro, 0, 0, .dev⟩
def Reg.BB_STATUS.SKEW : Field := ⟨0x400004, 0x10000, 4, 0x0, 1, 4, 8, .ro, 0, 0, .dev⟩
/-! BB_COUNT (16_host_backbone.md) -/
def Reg.BB_COUNT.CRC : Field := ⟨0x400008, 0x10000, 4, 0x0, 1, 0, 8, .ro, 0, 0, .dev⟩
def Reg.BB_COUNT.TYPE : Field := ⟨0x400008, 0x10000, 4, 0x0, 1, 8, 8, .ro, 0, 0, .dev⟩
def Reg.BB_COUNT.FOREIGN : Field := ⟨0x400008, 0x10000, 4, 0x0, 1, 16, 8, .ro, 0, 0, .dev⟩
def Reg.BB_COUNT.DENIED : Field := ⟨0x400008, 0x10000, 4, 0x0, 1, 24, 8, .ro, 0, 0, .dev⟩
/-! BB_EVENT (16_host_backbone.md) -/
def Reg.BB_EVENT.EVENTS : Field := ⟨0x40000c, 0x10000, 4, 0x0, 1, 0, 4, .w1c, 0, 0, .dev⟩
/-! BB_EVENT_EN (16_host_backbone.md) -/
def Reg.BB_EVENT_EN.EVENTS : Field := ⟨0x400010, 0x10000, 4, 0x0, 1, 0, 4, .rw, 0, 0, .dev⟩
/-! BB_PARTNER (16_host_backbone.md) -/
def Reg.BB_PARTNER.STATE : Field := ⟨0x400104, 0x4, 15, 0x0, 1, 0, 2, .ro, 0, 0, .dev⟩
def Reg.BB_PARTNER.PORTS : Field := ⟨0x400104, 0x4, 15, 0x0, 1, 2, 4, .ro, 0, 0, .dev⟩
def Reg.BB_PARTNER.NODE : Field := ⟨0x400104, 0x4, 15, 0x0, 1, 8, 8, .ro, 0, 0, .dev⟩
def Reg.BB_PARTNER.RIGHTS : Field := ⟨0x400104, 0x4, 15, 0x0, 1, 16, 4, .ro, 0, 0, .dev⟩
/-! COLLECT_STATUS_LO (17_faults.md) -/
def Reg.COLLECT_STATUS_LO.STATUS : Field := ⟨0x4000, 0x0, 1, 0x0, 1, 0, 32, .w1c, 0, 0, .por⟩
/-! COLLECT_STATUS_HI (17_faults.md) -/
def Reg.COLLECT_STATUS_HI.STATUS : Field := ⟨0x4004, 0x0, 1, 0x0, 1, 0, 32, .w1c, 0, 0, .por⟩
/-! FAULT_STATE (17_faults.md) -/
def Reg.FAULT_STATE.CONTAINED : Field := ⟨0x4008, 0x0, 1, 0x0, 1, 0, 1, .ro, 0, 0, .dev⟩
def Reg.FAULT_STATE.FATAL : Field := ⟨0x4008, 0x0, 1, 0x0, 1, 1, 1, .ro, 0, 0, .dev⟩
def Reg.FAULT_STATE.FAULT_N : Field := ⟨0x4008, 0x0, 1, 0x0, 1, 2, 1, .ro, 1, 0, .dev⟩
def Reg.FAULT_STATE.ALIVE_RUN : Field := ⟨0x4008, 0x0, 1, 0x0, 1, 3, 1, .ro, 0, 0, .dev⟩
/-! FAULT_QUIET (17_faults.md) -/
def Reg.FAULT_QUIET.QUIET_MS : Field := ⟨0x400c, 0x0, 1, 0x0, 1, 0, 16, .ro, 1000, 0, .por⟩
def Reg.FAULT_QUIET.REMAIN_MS : Field := ⟨0x400c, 0x0, 1, 0x0, 1, 16, 16, .ro, 0, 0, .por⟩
/-! RECOVERY_COUNT (17_faults.md) -/
def Reg.RECOVERY_COUNT.COUNT : Field := ⟨0x4010, 0x0, 1, 0x0, 1, 0, 32, .ro, 0, 0, .por⟩
/-! FAULT_COUNT_CORR (17_faults.md) -/
def Reg.FAULT_COUNT_CORR.COUNT : Field := ⟨0x4014, 0x0, 1, 0x0, 1, 0, 32, .ro, 0, 0, .por⟩
/-! FAULT_COUNT_CONT (17_faults.md) -/
def Reg.FAULT_COUNT_CONT.COUNT : Field := ⟨0x4018, 0x0, 1, 0x0, 1, 0, 32, .ro, 0, 0, .por⟩
/-! FAULT_COUNT_FATAL (17_faults.md) -/
def Reg.FAULT_COUNT_FATAL.COUNT : Field := ⟨0x401c, 0x0, 1, 0x0, 1, 0, 32, .ro, 0, 0, .por⟩
/-! FAULT_CTRL (17_faults.md) -/
def Reg.FAULT_CTRL.HIST_CORRECTED : Field := ⟨0x4020, 0x0, 1, 0x0, 1, 0, 1, .rwk, 0, 0, .por⟩
def Reg.FAULT_CTRL.CLEAR_COUNTS : Field := ⟨0x4020, 0x0, 1, 0x0, 1, 1, 1, .w1s, 0, 0, .por⟩
def Reg.FAULT_CTRL.CLEAR_HIST : Field := ⟨0x4020, 0x0, 1, 0x0, 1, 2, 1, .w1s, 0, 0, .por⟩
/-! FAULT_EVENT (17_faults.md) -/
def Reg.FAULT_EVENT.CORRECTED : Field := ⟨0x4024, 0x0, 1, 0x0, 1, 0, 1, .w1c, 0, 0, .por⟩
def Reg.FAULT_EVENT.CONTAINED : Field := ⟨0x4024, 0x0, 1, 0x0, 1, 1, 1, .w1c, 0, 0, .por⟩
def Reg.FAULT_EVENT.FATAL : Field := ⟨0x4024, 0x0, 1, 0x0, 1, 2, 1, .w1c, 0, 0, .por⟩
def Reg.FAULT_EVENT.RECOVERED : Field := ⟨0x4024, 0x0, 1, 0x0, 1, 3, 1, .w1c, 0, 0, .por⟩
def Reg.FAULT_EVENT.HIST_LOST : Field := ⟨0x4024, 0x0, 1, 0x0, 1, 4, 1, .w1c, 0, 0, .por⟩
/-! FAULT_EVENT_EN (17_faults.md) -/
def Reg.FAULT_EVENT_EN.EN : Field := ⟨0x4028, 0x0, 1, 0x0, 1, 0, 5, .rwk, 0, 0, .por⟩
/-! FAULT_FIRST_FATAL (17_faults.md) -/
def Reg.FAULT_FIRST_FATAL.BIT : Field := ⟨0x402c, 0x0, 1, 0x0, 1, 0, 6, .ro, 0, 0, .por⟩
def Reg.FAULT_FIRST_FATAL.VALID : Field := ⟨0x402c, 0x0, 1, 0x0, 1, 6, 1, .w1c, 0, 0, .por⟩
def Reg.FAULT_FIRST_FATAL.FRAME_VALID : Field := ⟨0x402c, 0x0, 1, 0x0, 1, 7, 1, .ro, 0, 0, .por⟩
def Reg.FAULT_FIRST_FATAL.DETAIL : Field := ⟨0x402c, 0x0, 1, 0x0, 1, 16, 16, .ro, 0, 0, .por⟩
/-! FAULT_FIRST_FRAME (17_faults.md) -/
def Reg.FAULT_FIRST_FRAME.VALUE : Field := ⟨0x4030, 0x0, 1, 0x0, 1, 0, 32, .ro, 0, 0, .por⟩
/-! FAULT_FIRST_NS_LO (17_faults.md) -/
def Reg.FAULT_FIRST_NS_LO.VALUE : Field := ⟨0x4034, 0x0, 1, 0x0, 1, 0, 32, .ro, 0, 0, .por⟩
/-! FAULT_FIRST_NS_HI (17_faults.md) -/
def Reg.FAULT_FIRST_NS_HI.VALUE : Field := ⟨0x4038, 0x0, 1, 0x0, 1, 0, 32, .ro, 0, 0, .por⟩
/-! FAULT_HIST_STATUS (17_faults.md) -/
def Reg.FAULT_HIST_STATUS.NEWEST : Field := ⟨0x4040, 0x0, 1, 0x0, 1, 0, 4, .ro, 0, 0, .por⟩
def Reg.FAULT_HIST_STATUS.FILLED : Field := ⟨0x4040, 0x0, 1, 0x0, 1, 4, 5, .ro, 0, 0, .por⟩
def Reg.FAULT_HIST_STATUS.LOST : Field := ⟨0x4040, 0x0, 1, 0x0, 1, 16, 8, .ro, 0, 0, .por⟩
/-! FAULT_HIST_FRAME (17_faults.md) -/
def Reg.FAULT_HIST_FRAME.VALUE : Field := ⟨0x4100, 0x10, 16, 0x0, 1, 0, 32, .ro, 0, 0, .por⟩
/-! FAULT_HIST_NS_LO (17_faults.md) -/
def Reg.FAULT_HIST_NS_LO.VALUE : Field := ⟨0x4104, 0x10, 16, 0x0, 1, 0, 32, .ro, 0, 0, .por⟩
/-! FAULT_HIST_NS_HI (17_faults.md) -/
def Reg.FAULT_HIST_NS_HI.VALUE : Field := ⟨0x4108, 0x10, 16, 0x0, 1, 0, 32, .ro, 0, 0, .por⟩
/-! FAULT_HIST_INFO (17_faults.md) -/
def Reg.FAULT_HIST_INFO.VALUE : Field := ⟨0x410c, 0x10, 16, 0x0, 1, 0, 32, .ro, 0, 0, .por⟩
/-! RESET_CAUSE (17_faults.md) -/
def Reg.RESET_CAUSE.CAUSE : Field := ⟨0x4200, 0x0, 1, 0x0, 1, 0, 3, .ro, 0, 0, .por⟩
def Reg.RESET_CAUSE.FATAL_BEFORE : Field := ⟨0x4200, 0x0, 1, 0x0, 1, 3, 1, .ro, 0, 0, .por⟩
def Reg.RESET_CAUSE.COUNT : Field := ⟨0x4200, 0x0, 1, 0x0, 1, 16, 16, .ro, 0, 0, .por⟩
/-! RESET_HELD_MS (17_faults.md) -/
def Reg.RESET_HELD_MS.MS : Field := ⟨0x4204, 0x0, 1, 0x0, 1, 0, 32, .ro, 0, 0, .por⟩
/-! FAULT_SOFT_RESET (17_faults.md) -/
def Reg.FAULT_SOFT_RESET.GO : Field := ⟨0x4208, 0x0, 1, 0x0, 1, 0, 1, .w1s, 0, 0, .dev⟩
def Reg.FAULT_SOFT_RESET.KEY : Field := ⟨0x4208, 0x0, 1, 0x0, 1, 16, 16, .wo, 0, 0, .dev⟩
/-! ALIVE_CFG (17_faults.md) -/
def Reg.ALIVE_CFG.HZ : Field := ⟨0x420c, 0x0, 1, 0x0, 1, 0, 14, .ro, 1000, 0, .dev⟩
/-! CLOCK_REF (18_power_clocks_thermal.md) -/
def Reg.CLOCK_REF.REFSEL : Field := ⟨0x1000, 0x0, 1, 0x0, 1, 0, 2, .ro, 0, 0, .por⟩
/-! CLOCK_GO (18_power_clocks_thermal.md) -/
def Reg.CLOCK_GO.GO : Field := ⟨0x1004, 0x0, 1, 0x0, 1, 0, 1, .w1s, 0, 0, .dev⟩
/-! CLOCK_PLL_CFG (18_power_clocks_thermal.md) -/
def Reg.CLOCK_PLL_CFG.PRE : Field := ⟨0x1010, 0x10, 4, 0x0, 1, 0, 2, .rwk, 0, 0, .por⟩
def Reg.CLOCK_PLL_CFG.FINE : Field := ⟨0x1010, 0x10, 4, 0x0, 1, 2, 1, .rwk, 0, 0, .por⟩
/-! CLOCK_PLL_TRIM (18_power_clocks_thermal.md) -/
def Reg.CLOCK_PLL_TRIM.TRIM : Field := ⟨0x1014, 0x10, 4, 0x0, 1, 0, 11, .rw, 0, 0, .dev⟩
/-! CLOCK_PLL_STATUS (18_power_clocks_thermal.md) -/
def Reg.CLOCK_PLL_STATUS.LOCK : Field := ⟨0x1018, 0x10, 4, 0x0, 1, 0, 1, .ro, 0, 0, .dev⟩
def Reg.CLOCK_PLL_STATUS.STAGED : Field := ⟨0x1018, 0x10, 4, 0x0, 1, 1, 1, .ro, 0, 0, .dev⟩
def Reg.CLOCK_PLL_STATUS.COUNT : Field := ⟨0x1018, 0x10, 4, 0x0, 1, 2, 11, .ro, 0, 0, .dev⟩
def Reg.CLOCK_PLL_STATUS.UNLOCKS : Field := ⟨0x1018, 0x10, 4, 0x0, 1, 16, 8, .ro, 0, 0, .dev⟩
/-! CLOCK_EVENT (18_power_clocks_thermal.md) -/
def Reg.CLOCK_EVENT.EVENTS : Field := ⟨0x1050, 0x0, 1, 0x0, 1, 0, 4, .w1c, 0, 0, .dev⟩
/-! CLOCK_EVENT_EN (18_power_clocks_thermal.md) -/
def Reg.CLOCK_EVENT_EN.EVENTS : Field := ⟨0x1054, 0x0, 1, 0x0, 1, 0, 4, .rw, 0, 0, .dev⟩
/-! POWER_STATE (18_power_clocks_thermal.md) -/
def Reg.POWER_STATE.STATE : Field := ⟨0x2000, 0x0, 1, 0x0, 1, 0, 3, .ro, 0, 0, .por⟩
def Reg.POWER_STATE.WAKE_SRC : Field := ⟨0x2000, 0x0, 1, 0x0, 1, 3, 3, .ro, 0, 0, .por⟩
def Reg.POWER_STATE.WAKE_TRIES : Field := ⟨0x2000, 0x0, 1, 0x0, 1, 6, 2, .ro, 0, 0, .por⟩
/-! POWER_CTRL (18_power_clocks_thermal.md) -/
def Reg.POWER_CTRL.DORMANT : Field := ⟨0x2004, 0x0, 1, 0x0, 1, 0, 1, .w1s, 0, 0, .dev⟩
def Reg.POWER_CTRL.WAKE : Field := ⟨0x2004, 0x0, 1, 0x0, 1, 1, 1, .w1s, 0, 0, .dev⟩
def Reg.POWER_CTRL.KEY : Field := ⟨0x2004, 0x0, 1, 0x0, 1, 16, 16, .wo, 0, 0, .dev⟩
/-! POWER_WAKE_CFG (18_power_clocks_thermal.md) -/
def Reg.POWER_WAKE_CFG.EN : Field := ⟨0x2008, 0x0, 1, 0x0, 1, 0, 1, .rwk, 0, 0, .por⟩
def Reg.POWER_WAKE_CFG.LEVEL : Field := ⟨0x2008, 0x0, 1, 0x0, 1, 1, 1, .rwk, 0, 0, .por⟩
def Reg.POWER_WAKE_CFG.POL : Field := ⟨0x2008, 0x0, 1, 0x0, 1, 2, 1, .rwk, 0, 0, .por⟩
/-! POWER_DOMAIN_CTRL (18_power_clocks_thermal.md) -/
def Reg.POWER_DOMAIN_CTRL.ANALOG_OFF : Field := ⟨0x200c, 0x0, 1, 0x0, 1, 0, 1, .rw, 0, 0, .dev⟩
def Reg.POWER_DOMAIN_CTRL.BB_PHY_OFF : Field := ⟨0x200c, 0x0, 1, 0x0, 1, 1, 1, .rw, 0, 0, .dev⟩
/-! POWER_ENTRY_CFG (18_power_clocks_thermal.md) -/
def Reg.POWER_ENTRY_CFG.TIMEOUT_MS : Field := ⟨0x2010, 0x0, 1, 0x0, 1, 0, 10, .rwk, 10, 0, .por⟩
/-! POWER_ENTRY_STATUS (18_power_clocks_thermal.md) -/
def Reg.POWER_ENTRY_STATUS.RESULT : Field := ⟨0x2014, 0x0, 1, 0x0, 1, 0, 2, .ro, 0, 0, .dev⟩
def Reg.POWER_ENTRY_STATUS.DOMAIN : Field := ⟨0x2014, 0x0, 1, 0x0, 1, 2, 2, .ro, 0, 0, .dev⟩
def Reg.POWER_ENTRY_STATUS.REFUSER : Field := ⟨0x2014, 0x0, 1, 0x0, 1, 4, 3, .ro, 0, 0, .dev⟩
def Reg.POWER_ENTRY_STATUS.RETRIES : Field := ⟨0x2014, 0x0, 1, 0x0, 1, 16, 16, .ro, 0, 0, .dev⟩
/-! POWER_SHED (18_power_clocks_thermal.md) -/
def Reg.POWER_SHED.VIN_STEP : Field := ⟨0x2018, 0x0, 1, 0x0, 1, 0, 3, .ro, 0, 0, .dev⟩
def Reg.POWER_SHED.THERMAL_STEP : Field := ⟨0x2018, 0x0, 1, 0x0, 1, 3, 3, .ro, 0, 0, .dev⟩
def Reg.POWER_SHED.STEP : Field := ⟨0x2018, 0x0, 1, 0x0, 1, 6, 3, .ro, 0, 0, .dev⟩
/-! POWER_VIN (18_power_clocks_thermal.md) -/
def Reg.POWER_VIN.LAST : Field := ⟨0x201c, 0x0, 1, 0x0, 1, 0, 16, .ro, 0, 0, .dev⟩
def Reg.POWER_VIN.MIN : Field := ⟨0x201c, 0x0, 1, 0x0, 1, 16, 16, .ro, 65535, 0, .dev⟩
/-! POWER_PGOOD (18_power_clocks_thermal.md) -/
def Reg.POWER_PGOOD.PGOOD : Field := ⟨0x2020, 0x0, 1, 0x0, 1, 2, 18, .ro, 0, 0, .dev⟩
/-! POWER_WAKE_FAIL (18_power_clocks_thermal.md) -/
def Reg.POWER_WAKE_FAIL.ITEM : Field := ⟨0x2024, 0x0, 1, 0x0, 1, 0, 5, .ro, 0, 0, .por⟩
def Reg.POWER_WAKE_FAIL.KIND : Field := ⟨0x2024, 0x0, 1, 0x0, 1, 5, 3, .ro, 0, 0, .por⟩
/-! POWER_EVENT (18_power_clocks_thermal.md) -/
def Reg.POWER_EVENT.EVENTS : Field := ⟨0x2030, 0x0, 1, 0x0, 1, 0, 6, .w1c, 0, 0, .dev⟩
/-! POWER_EVENT_EN (18_power_clocks_thermal.md) -/
def Reg.POWER_EVENT_EN.EVENTS : Field := ⟨0x2034, 0x0, 1, 0x0, 1, 0, 6, .rw, 0, 0, .dev⟩
/-! POWER_CLEAR (18_power_clocks_thermal.md) -/
def Reg.POWER_CLEAR.VIN_MIN : Field := ⟨0x2038, 0x0, 1, 0x0, 1, 0, 1, .wo, 0, 0, .dev⟩
/-! THERMAL_STATUS (18_power_clocks_thermal.md) -/
def Reg.THERMAL_STATUS.HOT : Field := ⟨0x3000, 0x0, 1, 0x0, 1, 0, 12, .ro, 0, 0, .dev⟩
def Reg.THERMAL_STATUS.HOT_INDEX : Field := ⟨0x3000, 0x0, 1, 0x0, 1, 12, 6, .ro, 0, 0, .dev⟩
def Reg.THERMAL_STATUS.LEVEL : Field := ⟨0x3000, 0x0, 1, 0x0, 1, 18, 2, .ro, 0, 0, .dev⟩
def Reg.THERMAL_STATUS.NO_SENSOR : Field := ⟨0x3000, 0x0, 1, 0x0, 1, 20, 1, .ro, 0, 0, .dev⟩
def Reg.THERMAL_STATUS.SHUT_LATCH : Field := ⟨0x3000, 0x0, 1, 0x0, 1, 21, 1, .ro, 0, 0, .por⟩
/-! THERMAL_DRIVE (18_power_clocks_thermal.md) -/
def Reg.THERMAL_DRIVE.UNIT : Field := ⟨0x3004, 0x0, 1, 0x0, 1, 0, 16, .ro, 0, 0, .dev⟩
/-! THERMAL_BAND (18_power_clocks_thermal.md) -/
def Reg.THERMAL_BAND.MEM : Field := ⟨0x3008, 0x0, 1, 0x0, 1, 0, 2, .ro, 1, 0, .dev⟩
def Reg.THERMAL_BAND.SERDES : Field := ⟨0x3008, 0x0, 1, 0x0, 1, 2, 2, .ro, 1, 0, .dev⟩
def Reg.THERMAL_BAND.DRV : Field := ⟨0x3008, 0x0, 1, 0x0, 1, 4, 8, .ro, 85, 0, .dev⟩
/-! THERMAL_BAD (18_power_clocks_thermal.md) -/
def Reg.THERMAL_BAD.SENSOR : Field := ⟨0x300c, 0x0, 1, 0x0, 1, 0, 20, .ro, 0, 0, .dev⟩
/-! THERMAL_REWAKE (18_power_clocks_thermal.md) -/
def Reg.THERMAL_REWAKE.SECONDS : Field := ⟨0x3010, 0x0, 1, 0x0, 1, 0, 16, .rwk, 60, 0, .por⟩
/-! THERMAL_EVENT (18_power_clocks_thermal.md) -/
def Reg.THERMAL_EVENT.EVENTS : Field := ⟨0x3020, 0x0, 1, 0x0, 1, 0, 6, .w1c, 0, 0, .dev⟩
/-! THERMAL_EVENT_EN (18_power_clocks_thermal.md) -/
def Reg.THERMAL_EVENT_EN.EVENTS : Field := ⟨0x3024, 0x0, 1, 0x0, 1, 0, 6, .rw, 0, 0, .dev⟩

/-- Part 0 of the register table: one list of fields per register, by address. -/
def Reg.table0 : List (List Field) := [
  [Reg.IDENT.PART, Reg.IDENT.STEP_LETTER, Reg.IDENT.STEP_NUMBER],
  [Reg.IDENT_CAPS.LANES, Reg.IDENT_CAPS.ARMS, Reg.IDENT_CAPS.DRIVE_UNITS, Reg.IDENT_CAPS.CURVE, Reg.IDENT_CAPS.PRIV_MAX],
  [Reg.ROLE_COUNT.LANE_SLICES, Reg.ROLE_COUNT.ARM_SLICES, Reg.ROLE_COUNT.RECORDER, Reg.ROLE_COUNT.MIRROR, Reg.ROLE_COUNT.SPARE, Reg.ROLE_COUNT.UNASSIGNED],
  [Reg.DOMAIN_STATE.FABRIC, Reg.DOMAIN_STATE.PLANE_A, Reg.DOMAIN_STATE.PLANE_B, Reg.DOMAIN_STATE.LANE_PHY, Reg.DOMAIN_STATE.BB_PHY, Reg.DOMAIN_STATE.ANALOG, Reg.DOMAIN_STATE.DRAM_ACTIVE, Reg.DOMAIN_STATE.DRAM_SR, Reg.DOMAIN_STATE.DRV_LINK],
  [Reg.XBAR_WAIT.ENG_MAX_WAIT, Reg.XBAR_WAIT.HOST_MAX_WAIT, Reg.XBAR_WAIT.CLEAR],
  [Reg.CONV_STATE.STATE, Reg.CONV_STATE.COAST, Reg.CONV_STATE.CAUSE, Reg.CONV_STATE.KIND, Reg.CONV_STATE.SLEWING, Reg.CONV_STATE.ARMS],
  [Reg.CONV_CMD_LAST.RESULT, Reg.CONV_CMD_LAST.OP],
  [Reg.CONV_STATE_FRAME.FRAME],
  [Reg.CONV_DTHETA.DTHETA],
  [Reg.CONV_RESIDUAL.E],
  [Reg.CONV_COUNT.BLOCKS, Reg.CONV_COUNT.RESYNCS, Reg.CONV_COUNT.COAST_MAX],
  [Reg.CONV_MF_THETA.THETA_MF],
  [Reg.CONV_MF_OMEGA.OMEGA_MF],
  [Reg.CONV_WORD.VALUE],
  [Reg.CONV_EVENT.BLOCK, Reg.CONV_EVENT.DEBLOCK, Reg.CONV_EVENT.RUN, Reg.CONV_EVENT.RESYNC, Reg.CONV_EVENT.RESYNC_FAIL, Reg.CONV_EVENT.COAST_LIMIT],
  [Reg.CONV_EVENT_EN.EN],
  [Reg.CONV_EVENT_SRC.CONV],
  [Reg.HOST_VEC_MAP.VECTOR, Reg.HOST_VEC_MAP.PIN],
  [Reg.HOST_IRQ_PENDING.SOURCE],
  [Reg.HOST_IRQ_LANE.LANE],
  [Reg.HOST_IRQ_UNIT.ARM, Reg.HOST_IRQ_UNIT.DRIVE, Reg.HOST_IRQ_UNIT.CAN, Reg.HOST_IRQ_UNIT.BB],
  [Reg.HOST_IRQ_ENG.ENGINE],
  [Reg.HOST_BAR2_OPEN.BUF],
  [Reg.HOST_BAR2_STATUS.BUF]]

/-- Part 1 of the register table: one list of fields per register, by address. -/
def Reg.table1 : List (List Field) := [
  [Reg.HOST_DRAM_WIN.BASE],
  [Reg.HOST_DEVICE_ID_LO.ID],
  [Reg.HOST_DEVICE_ID_HI.ID],
  [Reg.CLOCK_REF.REFSEL],
  [Reg.CLOCK_GO.GO],
  [Reg.CLOCK_PLL_CFG.PRE, Reg.CLOCK_PLL_CFG.FINE],
  [Reg.CLOCK_PLL_TRIM.TRIM],
  [Reg.CLOCK_PLL_STATUS.LOCK, Reg.CLOCK_PLL_STATUS.STAGED, Reg.CLOCK_PLL_STATUS.COUNT, Reg.CLOCK_PLL_STATUS.UNLOCKS],
  [Reg.CLOCK_EVENT.EVENTS],
  [Reg.CLOCK_EVENT_EN.EVENTS],
  [Reg.POWER_STATE.STATE, Reg.POWER_STATE.WAKE_SRC, Reg.POWER_STATE.WAKE_TRIES],
  [Reg.POWER_CTRL.DORMANT, Reg.POWER_CTRL.WAKE, Reg.POWER_CTRL.KEY],
  [Reg.POWER_WAKE_CFG.EN, Reg.POWER_WAKE_CFG.LEVEL, Reg.POWER_WAKE_CFG.POL],
  [Reg.POWER_DOMAIN_CTRL.ANALOG_OFF, Reg.POWER_DOMAIN_CTRL.BB_PHY_OFF],
  [Reg.POWER_ENTRY_CFG.TIMEOUT_MS],
  [Reg.POWER_ENTRY_STATUS.RESULT, Reg.POWER_ENTRY_STATUS.DOMAIN, Reg.POWER_ENTRY_STATUS.REFUSER, Reg.POWER_ENTRY_STATUS.RETRIES],
  [Reg.POWER_SHED.VIN_STEP, Reg.POWER_SHED.THERMAL_STEP, Reg.POWER_SHED.STEP],
  [Reg.POWER_VIN.LAST, Reg.POWER_VIN.MIN],
  [Reg.POWER_PGOOD.PGOOD],
  [Reg.POWER_WAKE_FAIL.ITEM, Reg.POWER_WAKE_FAIL.KIND],
  [Reg.POWER_EVENT.EVENTS],
  [Reg.POWER_EVENT_EN.EVENTS],
  [Reg.POWER_CLEAR.VIN_MIN],
  [Reg.THERMAL_STATUS.HOT, Reg.THERMAL_STATUS.HOT_INDEX, Reg.THERMAL_STATUS.LEVEL, Reg.THERMAL_STATUS.NO_SENSOR, Reg.THERMAL_STATUS.SHUT_LATCH]]

/-- Part 2 of the register table: one list of fields per register, by address. -/
def Reg.table2 : List (List Field) := [
  [Reg.THERMAL_DRIVE.UNIT],
  [Reg.THERMAL_BAND.MEM, Reg.THERMAL_BAND.SERDES, Reg.THERMAL_BAND.DRV],
  [Reg.THERMAL_BAD.SENSOR],
  [Reg.THERMAL_REWAKE.SECONDS],
  [Reg.THERMAL_EVENT.EVENTS],
  [Reg.THERMAL_EVENT_EN.EVENTS],
  [Reg.COLLECT_STATUS_LO.STATUS],
  [Reg.COLLECT_STATUS_HI.STATUS],
  [Reg.FAULT_STATE.CONTAINED, Reg.FAULT_STATE.FATAL, Reg.FAULT_STATE.FAULT_N, Reg.FAULT_STATE.ALIVE_RUN],
  [Reg.FAULT_QUIET.QUIET_MS, Reg.FAULT_QUIET.REMAIN_MS],
  [Reg.RECOVERY_COUNT.COUNT],
  [Reg.FAULT_COUNT_CORR.COUNT],
  [Reg.FAULT_COUNT_CONT.COUNT],
  [Reg.FAULT_COUNT_FATAL.COUNT],
  [Reg.FAULT_CTRL.HIST_CORRECTED, Reg.FAULT_CTRL.CLEAR_COUNTS, Reg.FAULT_CTRL.CLEAR_HIST],
  [Reg.FAULT_EVENT.CORRECTED, Reg.FAULT_EVENT.CONTAINED, Reg.FAULT_EVENT.FATAL, Reg.FAULT_EVENT.RECOVERED, Reg.FAULT_EVENT.HIST_LOST],
  [Reg.FAULT_EVENT_EN.EN],
  [Reg.FAULT_FIRST_FATAL.BIT, Reg.FAULT_FIRST_FATAL.VALID, Reg.FAULT_FIRST_FATAL.FRAME_VALID, Reg.FAULT_FIRST_FATAL.DETAIL],
  [Reg.FAULT_FIRST_FRAME.VALUE],
  [Reg.FAULT_FIRST_NS_LO.VALUE],
  [Reg.FAULT_FIRST_NS_HI.VALUE],
  [Reg.FAULT_HIST_STATUS.NEWEST, Reg.FAULT_HIST_STATUS.FILLED, Reg.FAULT_HIST_STATUS.LOST],
  [Reg.FAULT_HIST_FRAME.VALUE],
  [Reg.FAULT_HIST_NS_LO.VALUE]]

/-- Part 3 of the register table: one list of fields per register, by address. -/
def Reg.table3 : List (List Field) := [
  [Reg.FAULT_HIST_NS_HI.VALUE],
  [Reg.FAULT_HIST_INFO.VALUE],
  [Reg.RESET_CAUSE.CAUSE, Reg.RESET_CAUSE.FATAL_BEFORE, Reg.RESET_CAUSE.COUNT],
  [Reg.RESET_HELD_MS.MS],
  [Reg.FAULT_SOFT_RESET.GO, Reg.FAULT_SOFT_RESET.KEY],
  [Reg.ALIVE_CFG.HZ],
  [Reg.REF_STATUS.STATE, Reg.REF_STATUS.HOLDER, Reg.REF_STATUS.ROLE_A, Reg.REF_STATUS.ROLE_B, Reg.REF_STATUS.LEASE],
  [Reg.REF_CTRL.FORCE_TAKEOVER, Reg.REF_CTRL.HALFTIME_NOW, Reg.REF_CTRL.HALFTIME_EN, Reg.REF_CTRL.REVIVE],
  [Reg.REF_HT_TIMER.REMAIN],
  [Reg.REF_HT_STATUS.MATCHED, Reg.REF_HT_STATUS.OUTCOME, Reg.REF_HT_STATUS.BLOCKER, Reg.REF_HT_STATUS.COUNT],
  [Reg.REF_TAKEOVER.COUNT, Reg.REF_TAKEOVER.GAP, Reg.REF_TAKEOVER.LAST_CAUSE, Reg.REF_TAKEOVER.LATE, Reg.REF_TAKEOVER.US],
  [Reg.REF_TAKEOVER_FRAME.FRAME],
  [Reg.REF_CKPT.NEWEST, Reg.REF_CKPT.VALID0, Reg.REF_CKPT.VALID1, Reg.REF_CKPT.OLD_USED],
  [Reg.REF_CKPT_SEQ.SEQ],
  [Reg.REF_OFFSIDE.WRITES, Reg.REF_OFFSIDE.LAST_PLANE],
  [Reg.REF_PAIR.ENABLED, Reg.REF_PAIR.REF_IN, Reg.REF_PAIR.HOLDS, Reg.REF_PAIR.PARTNER_HOLDS, Reg.REF_PAIR.LINK_OK, Reg.REF_PAIR.REF_OUT, Reg.REF_PAIR.MOVES, Reg.REF_PAIR.CONFLICTS],
  [Reg.REF_EVENT.TAKEOVER, Reg.REF_EVENT.HANDOVER, Reg.REF_EVENT.CANCEL, Reg.REF_EVENT.UNFIT, Reg.REF_EVENT.CKPT_OLD, Reg.REF_EVENT.PAIR_MOVE, Reg.REF_EVENT.PAIR_CONFLICT],
  [Reg.REF_EVENT_EN.EN],
  [Reg.JRN_STATUS.FILL, Reg.JRN_STATUS.HALF0_OK, Reg.JRN_STATUS.HALF1_OK, Reg.JRN_STATUS.MRAM_OK, Reg.JRN_STATUS.PAIR_MIRROR, Reg.JRN_STATUS.EPOCH_CAUSE],
  [Reg.JRN_EPOCH.EPOCH],
  [Reg.JRN_EXEC.COUNT],
  [Reg.JRN_ACCEPTED.COUNT],
  [Reg.JRN_REFUSE.GAP, Reg.JRN_REFUSE.REPEATED],
  [Reg.JRN_BUSY.BUSY, Reg.JRN_BUSY.OTHER]]

/-- Part 4 of the register table: one list of fields per register, by address. -/
def Reg.table4 : List (List Field) := [
  [Reg.JRN_MRAM_CFG.EN, Reg.JRN_MRAM_CFG.QUAD, Reg.JRN_MRAM_CFG.DIV],
  [Reg.JRN_EVENT.NEW_EPOCH, Reg.JRN_EVENT.MRAM_FAIL, Reg.JRN_EVENT.HALF_FAIL, Reg.JRN_EVENT.FULL, Reg.JRN_EVENT.RESTORED],
  [Reg.JRN_EVENT_EN.EN],
  [Reg.JRN_CTRL.NEW_EPOCH, Reg.JRN_CTRL.UNLOCK],
  [Reg.JRN_SRC_LAST.LAST],
  [Reg.JRN_CMD_BASE_LO.ADDR],
  [Reg.JRN_CMD_BASE_HI.ADDR],
  [Reg.JRN_CMD_CFG.LOG2N, Reg.JRN_CMD_CFG.EN],
  [Reg.JRN_CMD_HEAD.INDEX],
  [Reg.JRN_CMD_TAIL.INDEX],
  [Reg.JRN_CPL_BASE_LO.ADDR],
  [Reg.JRN_CPL_BASE_HI.ADDR],
  [Reg.JRN_CPL_CFG.LOG2N, Reg.JRN_CPL_CFG.EN],
  [Reg.JRN_CPL_HEAD.INDEX],
  [Reg.JRN_CPL_TAIL.INDEX],
  [Reg.JRN_RING_STATUS.STOPPED, Reg.JRN_RING_STATUS.PHASE, Reg.JRN_RING_STATUS.WAIT_CPL],
  [Reg.FRAME_PERIOD.PERIOD],
  [Reg.FRAME_NO.FRAME_NO],
  [Reg.FRAME_PHASE0.SAMPLE, Reg.FRAME_PHASE0.APPLY],
  [Reg.FRAME_PHASE1.FREEZE, Reg.FRAME_PHASE1.COMPUTE_END],
  [Reg.FRAME_PHASE2.RANK_END],
  [Reg.FRAME_STATUS.RUNNING, Reg.FRAME_STATUS.FROZEN_BUF, Reg.FRAME_STATUS.DISCIPLINED, Reg.FRAME_STATUS.COAST],
  [Reg.FRAME_TICK_NS_LO.TICK_NS],
  [Reg.FRAME_TICK_NS_HI.TICK_NS]]

/-- Part 5 of the register table: one list of fields per register, by address. -/
def Reg.table5 : List (List Field) := [
  [Reg.OVERRUN_COUNT.COMPUTE, Reg.OVERRUN_COUNT.RANK],
  [Reg.OVERRUN_LAST.FRAME],
  [Reg.STALE_COUNT.STALE, Reg.STALE_COUNT.LATE],
  [Reg.DUP_COUNT.DUP, Reg.DUP_COUNT.OLD],
  [Reg.TRK_STATUS.CTRL_HIWATER, Reg.TRK_STATUS.CTRL_INUSE],
  [Reg.TRK_BP_COUNT.FRAMES],
  [Reg.TRK_TIMEOUT_COUNT.TIMEOUTS],
  [Reg.PLAN_LEVEL.CURRENT, Reg.PLAN_LEVEL.TARGET, Reg.PLAN_LEVEL.LIMIT, Reg.PLAN_LEVEL.CAP, Reg.PLAN_LEVEL.SLACK_LOW, Reg.PLAN_LEVEL.STATIC, Reg.PLAN_LEVEL.THROTTLE],
  [Reg.PLAN_FORECAST.ENG_NEED, Reg.PLAN_FORECAST.FAB_NEED],
  [Reg.PLAN_CAPACITY.ENG_CAP, Reg.PLAN_CAPACITY.FAB_CAP],
  [Reg.PLAN_POWER.MEASURED, Reg.PLAN_POWER.BUDGET],
  [Reg.PLAN_THERMAL.HEADROOM, Reg.PLAN_THERMAL.MARGIN, Reg.PLAN_THERMAL.SHED_STEP],
  [Reg.PLAN_BG_ORDER.ORDER],
  [Reg.PLAN_BG_STATUS.RAN, Reg.PLAN_BG_STATUS.STOPPED_BY, Reg.PLAN_BG_STATUS.SHARE, Reg.PLAN_BG_STATUS.GAPS],
  [Reg.FRAME_CLEAR.OVERRUN, Reg.FRAME_CLEAR.STALE, Reg.FRAME_CLEAR.TRACKER, Reg.FRAME_CLEAR.GAPS],
  [Reg.FRAME_EVENT.OVERRUN, Reg.FRAME_EVENT.SLACK_LOW, Reg.FRAME_EVENT.THROTTLE, Reg.FRAME_EVENT.SHED, Reg.FRAME_EVENT.PERIOD],
  [Reg.FRAME_EVENT_EN.EN],
  [Reg.SAFE_STATUS.A_OK, Reg.SAFE_STATUS.B_OK, Reg.SAFE_STATUS.DIAG, Reg.SAFE_STATUS.DIAG_CAUSE, Reg.SAFE_STATUS.RESET_PIN, Reg.SAFE_STATUS.RESET_STUCK, Reg.SAFE_STATUS.DEMAND, Reg.SAFE_STATUS.LOCKED, Reg.SAFE_STATUS.DIAG_A, Reg.SAFE_STATUS.DIAG_B],
  [Reg.SAFE_GROUP.STATE, Reg.SAFE_GROUP.KIND, Reg.SAFE_GROUP.STOP, Reg.SAFE_GROUP.CAUSE, Reg.SAFE_GROUP.PAIRS, Reg.SAFE_GROUP.T_MS],
  [Reg.SAFE_PAIR.CH_A, Reg.SAFE_PAIR.CH_B, Reg.SAFE_PAIR.DEMAND, Reg.SAFE_PAIR.PAIR_FAULT, Reg.SAFE_PAIR.FAULT_CAUSE, Reg.SAFE_PAIR.DEMANDS],
  [Reg.SAFE_TPO.EN, Reg.SAFE_TPO.READBACK_FAULT],
  [Reg.SAFE_FIRE.FIRE_A, Reg.SAFE_FIRE.FIRE_B, Reg.SAFE_FIRE.DRV_A, Reg.SAFE_FIRE.DRV_B],
  [Reg.SAFE_RESET_ARM.GROUPS, Reg.SAFE_RESET_ARM.KEY],
  [Reg.SAFE_RESET_STATUS.ARMED, Reg.SAFE_RESET_STATUS.RELEASED, Reg.SAFE_RESET_STATUS.REFUSED]]

/-- Part 6 of the register table: one list of fields per register, by address. -/
def Reg.table6 : List (List Field) := [
  [Reg.SAFE_EVENT.DEMAND, Reg.SAFE_EVENT.STOPPING, Reg.SAFE_EVENT.REMOVED, Reg.SAFE_EVENT.RELEASED, Reg.SAFE_EVENT.PAIR_FAULT, Reg.SAFE_EVENT.DIAG, Reg.SAFE_EVENT.RESET_REFUSED],
  [Reg.SAFE_EVENT_EN.EN],
  [Reg.IMAGE_CTRL.LOAD, Reg.IMAGE_CTRL.SRC, Reg.IMAGE_CTRL.ABORT, Reg.IMAGE_CTRL.EPOCH_BURN],
  [Reg.IMAGE_STAGE_SIZE.SIZE],
  [Reg.IMAGE_STATUS.STATE, Reg.IMAGE_STATUS.SOURCE, Reg.IMAGE_STATUS.CODE],
  [Reg.IMAGE_ERR_SECTION.INDEX, Reg.IMAGE_ERR_SECTION.TYPE],
  [Reg.IMAGE_ERR_OFFSET.OFFSET],
  [Reg.IMAGE_PRIMARY_CODE.CODE],
  [Reg.IMAGE_ID_LO.ID],
  [Reg.IMAGE_ID_HI.ID],
  [Reg.IMAGE_INFO.VERSION],
  [Reg.IMAGE_SIZE.SIZE],
  [Reg.IMAGE_KEY.SLOT_USED, Reg.IMAGE_KEY.PROGRAMMED, Reg.IMAGE_KEY.REVOKED, Reg.IMAGE_KEY.EPOCH_FUSED, Reg.IMAGE_KEY.EPOCH_IMAGE],
  [Reg.IMAGE_BOOT.BOOT_SRC, Reg.IMAGE_BOOT.SFDP_OK, Reg.IMAGE_BOOT.SECONDARY, Reg.IMAGE_BOOT.DENSITY_MB],
  [Reg.IMAGE_SUBST_REQ.SLICE, Reg.IMAGE_SUBST_REQ.GO],
  [Reg.IMAGE_SUBST_STATUS.OLD, Reg.IMAGE_SUBST_STATUS.BUSY, Reg.IMAGE_SUBST_STATUS.NEW, Reg.IMAGE_SUBST_STATUS.COUNT, Reg.IMAGE_SUBST_STATUS.RESULT],
  [Reg.IMAGE_SUBST_FRAME.FRAME],
  [Reg.IMAGE_SLICE_FAIL.FAIL],
  [Reg.IMAGE_EVENT.DONE, Reg.IMAGE_EVENT.SUBST, Reg.IMAGE_EVENT.SPARE_LOW],
  [Reg.IMAGE_EVENT_EN.EN],
  [Reg.KEY_DATA.HASH],
  [Reg.KEY_CMD.SLOT, Reg.KEY_CMD.OP, Reg.KEY_CMD.UNLOCK],
  [Reg.KEY_STATUS.BUSY, Reg.KEY_STATUS.RESULT],
  [Reg.ENG_STATUS.LOADED, Reg.ENG_STATUS.BALL, Reg.ENG_STATUS.SHADOW, Reg.ENG_STATUS.COLD, Reg.ENG_STATUS.DONE, Reg.ENG_STATUS.STOPPED, Reg.ENG_STATUS.QUIET, Reg.ENG_STATUS.BLOCKS]]

/-- Part 7 of the register table: one list of fields per register, by address. -/
def Reg.table7 : List (List Field) := [
  [Reg.ENG_CYCLES.LAST, Reg.ENG_CYCLES.MAX],
  [Reg.ENG_COST.STATIC, Reg.ENG_COST.SUM],
  [Reg.ENG_BANK.ACTIVE, Reg.ENG_BANK.SWAPS, Reg.ENG_BANK.ENTRIES],
  [Reg.ENG_SIZE.STATE_WORDS, Reg.ENG_SIZE.EXPORTS],
  [Reg.ENG_ECC.CORRECTED, Reg.ENG_ECC.UNCORRECTABLE],
  [Reg.ENG_CMD_LAST.RESULT, Reg.ENG_CMD_LAST.OP, Reg.ENG_CMD_LAST.ENTRY],
  [Reg.ENG_CMD_FRAME.FRAME],
  [Reg.ENG_CLEAR.CYCLES, Reg.ENG_CLEAR.ECC],
  [Reg.ENG_EVENT.STOPPED, Reg.ENG_EVENT.SWAP, Reg.ENG_EVENT.CMD_REFUSED, Reg.ENG_EVENT.ECC],
  [Reg.ENG_EVENT_EN.EN],
  [Reg.ENG_PARAM.VALUE],
  [Reg.ENG_EXPORT.VALUE],
  [Reg.ADC_CTRL.SEQ_EN, Reg.ADC_CTRL.COMMIT],
  [Reg.ADC_REF.EN, Reg.ADC_REF.READY, Reg.ADC_REF.AUTO, Reg.ADC_REF.FAULT, Reg.ADC_REF.WAIT_US],
  [Reg.ADC_STATUS.BUSY, Reg.ADC_STATUS.INVALID, Reg.ADC_STATUS.CLIP],
  [Reg.ADC_EVENT.REF_READY, Reg.ADC_EVENT.REF_FAULT, Reg.ADC_EVENT.CFG_REFUSED, Reg.ADC_EVENT.WINDOW, Reg.ADC_EVENT.HK_FLAG, Reg.ADC_EVENT.DS_INVALID],
  [Reg.ADC_EVENT_EN.EN],
  [Reg.ADC_IN_CFG.GAIN, Reg.ADC_IN_CFG.EN],
  [Reg.ADC_SEQ_CTRL.LEN],
  [Reg.ADC_SEQ_BURST.START, Reg.ADC_SEQ_BURST.LENGTH],
  [Reg.ADC_SEQ_COUNT.INVALID],
  [Reg.ADC_SEQ_WIN_EVENT.EVENT],
  [Reg.ADC_SEQ_WIN_EN.EN],
  [Reg.ADC_ENTRY_CFG.INPUT, Reg.ADC_ENTRY_CFG.ACQ, Reg.ADC_ENTRY_CFG.SHIFT, Reg.ADC_ENTRY_CFG.WIN_EN]]

/-- Part 8 of the register table: one list of fields per register, by address. -/
def Reg.table8 : List (List Field) := [
  [Reg.ADC_ENTRY_SCALE.VALUE],
  [Reg.ADC_ENTRY_OFFSET.VALUE],
  [Reg.ADC_ENTRY_WIN_HI.VALUE],
  [Reg.ADC_ENTRY_WIN_LO.VALUE],
  [Reg.ADC_ENTRY_RESULT.RAW, Reg.ADC_ENTRY_RESULT.FLAGS, Reg.ADC_ENTRY_RESULT.SETTLE],
  [Reg.ADC_ENTRY_VALUE.VALUE],
  [Reg.ADC_DS_CFG.ORDER, Reg.ADC_DS_CFG.LOG2R, Reg.ADC_DS_CFG.SHIFT],
  [Reg.ADC_DS_SCALE.VALUE],
  [Reg.ADC_DS_OFFSET.VALUE],
  [Reg.ADC_DS_RESULT.FLAGS, Reg.ADC_DS_RESULT.SETTLE],
  [Reg.ADC_DS_VALUE.VALUE],
  [Reg.ADC_HK.VALUE, Reg.ADC_HK.VALID, Reg.ADC_HK.OPEN, Reg.ADC_HK.SHORT, Reg.ADC_HK.RANGE],
  [Reg.ADC_HK_ROUND.COUNT],
  [Reg.ADC_HK_DIODE_CFG0.IDEALITY],
  [Reg.ADC_HK_DIODE_CFG1.IDEALITY],
  [Reg.TIME_CTRL.SET, Reg.TIME_CTRL.STEP, Reg.TIME_CTRL.SLEW_GO, Reg.TIME_CTRL.SYNC_SET, Reg.TIME_CTRL.SYNC_CLR, Reg.TIME_CTRL.SERVO],
  [Reg.TIME_STATUS.SYNC, Reg.TIME_STATUS.SERVO_LOCK, Reg.TIME_STATUS.PPS_LOST, Reg.TIME_STATUS.SLEWING, Reg.TIME_STATUS.RESTORED],
  [Reg.TIME_NS_LO.NS],
  [Reg.TIME_NS_HI.NS],
  [Reg.TIME_PTP_NS.VALUE],
  [Reg.TIME_PTP_SEC_LO.VALUE],
  [Reg.TIME_PTP_SEC_HI.VALUE],
  [Reg.TIME_PTP_FRAC.VALUE],
  [Reg.TIME_SET_NS.VALUE]]

/-- Part 9 of the register table: one list of fields per register, by address. -/
def Reg.table9 : List (List Field) := [
  [Reg.TIME_SET_SEC_LO.VALUE],
  [Reg.TIME_SET_SEC_HI.VALUE],
  [Reg.TIME_STEP_NS.VALUE],
  [Reg.TIME_STEP_SEC.VALUE],
  [Reg.TIME_ADDEND.ADDEND],
  [Reg.TIME_SLEW.VALUE],
  [Reg.TIME_SLEW_CFG.VALUE],
  [Reg.TIME_SLEW_REMAIN.VALUE],
  [Reg.TIME_PPS_CFG.KP, Reg.TIME_PPS_CFG.KI, Reg.TIME_PPS_CFG.EDGE, Reg.TIME_PPS_CFG.LOCK_NS],
  [Reg.TIME_PPS_OFFSET.VALUE],
  [Reg.TIME_PPS_ERR.VALUE],
  [Reg.TIME_PPS_COUNT.EDGES, Reg.TIME_PPS_COUNT.REJECTED],
  [Reg.TIME_FRAME_ALIGN.OFFSET, Reg.TIME_FRAME_ALIGN.SLEW],
  [Reg.TIME_FRAME_PHASE.E],
  [Reg.TIME_EVENT.EVENTS],
  [Reg.TIME_EVENT_EN.EVENTS],
  [Reg.ETH_CTRL.MODE, Reg.ETH_CTRL.AN_EN, Reg.ETH_CTRL.TX_EN, Reg.ETH_CTRL.RX_EN, Reg.ETH_CTRL.PROMISC],
  [Reg.ETH_STATUS.LINK, Reg.ETH_STATUS.SPEED, Reg.ETH_STATUS.AN_DONE],
  [Reg.ETH_MAC_LO.MAC],
  [Reg.ETH_MAC_HI.MAC],
  [Reg.ETH_LAT.TX, Reg.ETH_LAT.RX],
  [Reg.ETH_MCAST.MAC],
  [Reg.ETH_TXR_BASE_LO.ADDR],
  [Reg.ETH_TXR_BASE_HI.ADDR]]

/-- Part 10 of the register table: one list of fields per register, by address. -/
def Reg.table10 : List (List Field) := [
  [Reg.ETH_TXR_CFG.LOG2N, Reg.ETH_TXR_CFG.BUF],
  [Reg.ETH_TXR_HEAD.INDEX],
  [Reg.ETH_TXR_TAIL.INDEX],
  [Reg.ETH_RXR_BASE_LO.ADDR],
  [Reg.ETH_RXR_BASE_HI.ADDR],
  [Reg.ETH_RXR_CFG.LOG2N, Reg.ETH_RXR_CFG.BUF],
  [Reg.ETH_RXR_HEAD.INDEX],
  [Reg.ETH_RXR_TAIL.INDEX],
  [Reg.ETH_TXTS.ENTRY],
  [Reg.ETH_TXTS_STATUS.COUNT, Reg.ETH_TXTS_STATUS.OVF, Reg.ETH_TXTS_STATUS.DROPPED],
  [Reg.ETH_COUNT.NO_DESC, Reg.ETH_COUNT.FILTERED],
  [Reg.ETH_EVENT.EVENTS],
  [Reg.ETH_EVENT_EN.EVENTS],
  [Reg.CAN_CTRL.MODE, Reg.CAN_CTRL.FD_EN, Reg.CAN_CTRL.AUTO_RECOVER, Reg.CAN_CTRL.RECOVER],
  [Reg.CAN_STATUS.STATE, Reg.CAN_STATUS.WARNING, Reg.CAN_STATUS.RECOVERING, Reg.CAN_STATUS.SHED],
  [Reg.CAN_ERRCNT.TEC, Reg.CAN_ERRCNT.REC, Reg.CAN_ERRCNT.BUSOFF],
  [Reg.CAN_NBT.NBRP, Reg.CAN_NBT.NTSEG1, Reg.CAN_NBT.NTSEG2, Reg.CAN_NBT.NSJW],
  [Reg.CAN_DBT.DBRP, Reg.CAN_DBT.DTSEG1, Reg.CAN_DBT.DTSEG2, Reg.CAN_DBT.DSJW, Reg.CAN_DBT.TDC_EN, Reg.CAN_DBT.TDCO],
  [Reg.CAN_MATRIX.LOG2_CYCLE, Reg.CAN_MATRIX.LOG2_ROWS, Reg.CAN_MATRIX.COLS, Reg.CAN_MATRIX.ROW, Reg.CAN_MATRIX.COLUMN],
  [Reg.CAN_TXQ.FILL, Reg.CAN_TXQ.LATE],
  [Reg.CAN_TXE0.RECORD],
  [Reg.CAN_TXE1.RECORD],
  [Reg.CAN_TXE2.RECORD],
  [Reg.CAN_TXE_STATUS.COUNT, Reg.CAN_TXE_STATUS.OVF]]

/-- Part 11 of the register table: one list of fields per register, by address. -/
def Reg.table11 : List (List Field) := [
  [Reg.CAN_RX_STATUS.OWNED, Reg.CAN_RX_STATUS.OVF, Reg.CAN_RX_STATUS.HEAD, Reg.CAN_RX_STATUS.DROPPED],
  [Reg.CAN_RX_ACK.INDEX],
  [Reg.CAN_EVENT.EVENTS],
  [Reg.CAN_EVENT_EN.EVENTS],
  [Reg.CAN_RX_ID.ID, Reg.CAN_RX_ID.RTR, Reg.CAN_RX_ID.IDE, Reg.CAN_RX_ID.VALID],
  [Reg.CAN_RX_INFO.DLC, Reg.CAN_RX_INFO.FDF, Reg.CAN_RX_INFO.BRS, Reg.CAN_RX_INFO.ESI, Reg.CAN_RX_INFO.LOOP, Reg.CAN_RX_INFO.FILTER, Reg.CAN_RX_INFO.UNFILTERED],
  [Reg.CAN_RX_NS_LO.NS],
  [Reg.CAN_RX_NS_HI.NS],
  [Reg.CAN_RX_FRAME.FRAME],
  [Reg.CAN_RX_DATA0.DATA],
  [Reg.CAN_RX_DATA1.DATA],
  [Reg.CAN_RX_DATA2.DATA],
  [Reg.CAN_RX_DATA3.DATA],
  [Reg.CAN_RX_DATA4.DATA],
  [Reg.CAN_RX_DATA5.DATA],
  [Reg.CAN_RX_DATA6.DATA],
  [Reg.CAN_RX_DATA7.DATA],
  [Reg.CAN_RX_DATA8.DATA],
  [Reg.CAN_RX_DATA9.DATA],
  [Reg.CAN_RX_DATA10.DATA],
  [Reg.CAN_RX_DATA11.DATA],
  [Reg.CAN_RX_DATA12.DATA],
  [Reg.CAN_RX_DATA13.DATA],
  [Reg.CAN_RX_DATA14.DATA]]

/-- Part 12 of the register table: one list of fields per register, by address. -/
def Reg.table12 : List (List Field) := [
  [Reg.CAN_RX_DATA15.DATA],
  [Reg.DRV_CTRL.MODE, Reg.DRV_CTRL.LATCH_CLEAR, Reg.DRV_CTRL.CLEAR_COUNTS, Reg.DRV_CTRL.UNLOCK],
  [Reg.DRV_STATUS.LINK, Reg.DRV_STATUS.VDRV_OK, Reg.DRV_STATUS.ENABLE, Reg.DRV_STATUS.LATCHED, Reg.DRV_STATUS.LATCH_CAUSE, Reg.DRV_STATUS.OT_SHUT, Reg.DRV_STATUS.BAND, Reg.DRV_STATUS.LOAD_PENDING, Reg.DRV_STATUS.LEG_FAULT],
  [Reg.DRV_CARRIER.TOP],
  [Reg.DRV_CARRIER_ACT.TOP, Reg.DRV_CARRIER_ACT.DOWN],
  [Reg.DRV_GATE.SRC, Reg.DRV_GATE.SNK, Reg.DRV_GATE.SOFT, Reg.DRV_GATE.CH_SRC, Reg.DRV_GATE.CH_SNK, Reg.DRV_GATE.CH_SOFT, Reg.DRV_GATE.TEMP_COMP],
  [Reg.DRV_PROT.BLANK, Reg.DRV_PROT.MIN_PULSE],
  [Reg.DRV_CHOP_CFG.MODE, Reg.DRV_CHOP_CFG.SIDE, Reg.DRV_CHOP_CFG.TIME],
  [Reg.DRV_CHOP_PERIOD.PERIOD],
  [Reg.DRV_LEG_CFG.MODE, Reg.DRV_LEG_CFG.DEADTIME],
  [Reg.DRV_LEG_DUTY.CMP],
  [Reg.DRV_LEG_STATUS.CMP_ACT, Reg.DRV_LEG_STATUS.DESAT_HS, Reg.DRV_LEG_STATUS.DESAT_LS, Reg.DRV_LEG_STATUS.INSTANT, Reg.DRV_LEG_STATUS.VB_UV, Reg.DRV_LEG_STATUS.UVLO, Reg.DRV_LEG_STATUS.INPUT_ACTIVE, Reg.DRV_LEG_STATUS.GATES_OFF, Reg.DRV_LEG_STATUS.MODE_ACT],
  [Reg.DRV_LEG_COUNT.SUPPRESSED, Reg.DRV_LEG_COUNT.FULL_ON, Reg.DRV_LEG_COUNT.INTERLOCK],
  [Reg.DRV_TRIP.COUNT, Reg.DRV_TRIP.LAST_LEG, Reg.DRV_TRIP.LAST_CAUSE],
  [Reg.DRV_TRIP_NS_LO.NS],
  [Reg.DRV_TRIP_NS_HI.NS],
  [Reg.DRV_EVENT.TRIP, Reg.DRV_EVENT.LATCH, Reg.DRV_EVENT.LOAD_DONE, Reg.DRV_EVENT.LOAD_ERR, Reg.DRV_EVENT.CLEAR_REFUSED, Reg.DRV_EVENT.UVLO, Reg.DRV_EVENT.LINK, Reg.DRV_EVENT.OT_SHUT],
  [Reg.DRV_EVENT_EN.EN],
  [Reg.MOT_CTRL.CHOP_RESET],
  [Reg.MOT_SPEED_SET.SPEED],
  [Reg.MOT_STATE.STATE, Reg.MOT_STATE.CHOP_FAULT, Reg.MOT_STATE.VLIMIT, Reg.MOT_STATE.ILIMIT, Reg.MOT_STATE.SIGNAL_LOST, Reg.MOT_STATE.CURVE_ON, Reg.MOT_STATE.PRIV, Reg.MOT_STATE.SHED, Reg.MOT_STATE.THROTTLE, Reg.MOT_STATE.SRC],
  [Reg.MOT_SPEED.REF, Reg.MOT_SPEED.EST],
  [Reg.MOT_CMD.CMD, Reg.MOT_CMD.CONF],
  [Reg.MOT_CURRENT.ID, Reg.MOT_CURRENT.IQ]]

/-- Part 13 of the register table: one list of fields per register, by address. -/
def Reg.table13 : List (List Field) := [
  [Reg.MOT_BUS.VBUS, Reg.MOT_BUS.ADV, Reg.MOT_BUS.CHOP_D],
  [Reg.MOT_INPUT.VALUE],
  [Reg.MOT_COUNT.CATCH_OK, Reg.MOT_COUNT.CATCH_FAIL, Reg.MOT_COUNT.START_FAIL, Reg.MOT_COUNT.CHOP_FAULTS],
  [Reg.MOT_EVENT.STATE, Reg.MOT_EVENT.OBS_LOST, Reg.MOT_EVENT.CATCH_FAIL, Reg.MOT_EVENT.CHOP_FAULT, Reg.MOT_EVENT.SIGNAL_LOST, Reg.MOT_EVENT.VLIMIT],
  [Reg.MOT_EVENT_EN.EN],
  [Reg.MOT_CURVE.X, Reg.MOT_CURVE.Y, Reg.MOT_CURVE.USED],
  [Reg.MOT_ADV.SPEED, Reg.MOT_ADV.ANGLE],
  [Reg.DRV_LOADALL.UNITS],
  [Reg.DRV_LOAD_STATUS.DONE, Reg.DRV_LOAD_STATUS.ERR, Reg.DRV_LOAD_STATUS.SYNC_IGNORED],
  [Reg.DRV_SYNC.UNITS],
  [Reg.LANE_CTRL.FORCE_IDLE, Reg.LANE_CTRL.CALLUP, Reg.LANE_CTRL.RESTORE, Reg.LANE_CTRL.AUTO_RESTORE],
  [Reg.LANE_STATUS.STATE, Reg.LANE_STATUS.SYNC, Reg.LANE_STATUS.CHAIN_LATE, Reg.LANE_STATUS.MOVING, Reg.LANE_STATUS.SERVED, Reg.LANE_STATUS.FIRST_Q],
  [Reg.LANE_CHAIN.SPLIT, Reg.LANE_CHAIN.GAP, Reg.LANE_CHAIN.CELLS, Reg.LANE_CHAIN.PHYS, Reg.LANE_CHAIN.LOOPED],
  [Reg.LANE_SEGDOWN_LO.DOWN],
  [Reg.LANE_SEGDOWN_HI.DOWN],
  [Reg.LANE_UPBASE.U],
  [Reg.LANE_BUDGET.DELIVERY, Reg.LANE_BUDGET.COMPLETION],
  [Reg.LANE_LOOP.LOOP_NS],
  [Reg.LANE_CRC32_ERR.TRAIN, Reg.LANE_CRC32_ERR.SLOT],
  [Reg.LANE_CODE_ERR.CODE, Reg.LANE_CODE_ERR.LOS, Reg.LANE_CODE_ERR.POS],
  [Reg.LANE_LATE.SLOTS, Reg.LANE_LATE.FRAMES],
  [Reg.LANE_CLEAR.COUNTS],
  [Reg.LANE_EVENT.LOST, Reg.LANE_EVENT.SYNC, Reg.LANE_EVENT.READY, Reg.LANE_EVENT.MOVE, Reg.LANE_EVENT.CHAIN_LATE, Reg.LANE_EVENT.UNROSTERED],
  [Reg.LANE_EVENT_EN.EN]]

/-- Part 14 of the register table: one list of fields per register, by address. -/
def Reg.table14 : List (List Field) := [
  [Reg.LANE_DELAY.D, Reg.LANE_DELAY.VALID],
  [Reg.SLICE_ROLE.ROLE, Reg.SLICE_ROLE.TARGET, Reg.SLICE_ROLE.STATE],
  [Reg.ARM_VDC.V],
  [Reg.ARM_VAC.V],
  [Reg.ARM_VEXTRA.V],
  [Reg.ARM_THETA.THETA],
  [Reg.ARM_OMEGA.OMEGA],
  [Reg.ARM_CAPINV.CAP_INV],
  [Reg.ARM_PHASE.PHASE_REF, Reg.ARM_PHASE.PHASE_BAL],
  [Reg.ARM_PHASE_LIM.LIM],
  [Reg.ARM_REF_FRAME.FRAME],
  [Reg.ARM_STATUS.FLAGS, Reg.ARM_STATUS.ACTIVE],
  [Reg.ARM_LEVEL.N_FULL, Reg.ARM_LEVEL.N_NL],
  [Reg.ARM_TRIM.FRAC, Reg.ARM_TRIM.TRIM],
  [Reg.ARM_PTR.PTR, Reg.ARM_PTR.ELIGIBLE],
  [Reg.ARM_SHORT.SHORT, Reg.ARM_SHORT.FRAMES],
  [Reg.ARM_DWELL.MOVED, Reg.ARM_DWELL.DEFERRED],
  [Reg.ARM_SWITCHED.LAST],
  [Reg.ARM_TJ.TJ_MAX, Reg.ARM_TJ.TJ_MEAN],
  [Reg.ARM_TJ_CELL.CELL],
  [Reg.ARM_IARM.I],
  [Reg.ARM_VREF.V],
  [Reg.ARM_PAR.LOW, Reg.ARM_PAR.HIGH],
  [Reg.ARM_ALPHA1.ALPHA]]

/-- Part 15 of the register table: one list of fields per register, by address. -/
def Reg.table15 : List (List Field) := [
  [Reg.ARM_ALPHA2.ALPHA],
  [Reg.ARM_CLEAR.COUNTS],
  [Reg.ARM_EVENT.SHORTFALL, Reg.ARM_EVENT.DEFER, Reg.ARM_EVENT.COAST, Reg.ARM_EVENT.I_HELD],
  [Reg.ARM_EVENT_EN.EN],
  [Reg.CELL_STATE.STATE, Reg.CELL_STATE.EXCLUDED, Reg.CELL_STATE.CONFIRMED, Reg.CELL_STATE.NO_BYPASS, Reg.CELL_STATE.NO_REPLY, Reg.CELL_STATE.CALL_QUEUED, Reg.CELL_STATE.REASON, Reg.CELL_STATE.T_INVALID],
  [Reg.CELL_PLACE.CHAIN, Reg.CELL_PLACE.POS, Reg.CELL_PLACE.END, Reg.CELL_PLACE.REACHABLE, Reg.CELL_PLACE.ARM, Reg.CELL_PLACE.CLASS],
  [Reg.CELL_VOLT.V_USED, Reg.CELL_VOLT.V2_USED],
  [Reg.CELL_TEMP.T_HS, Reg.CELL_TEMP.TJ],
  [Reg.CELL_FAULT.REPORTED, Reg.CELL_FAULT.SEEN, Reg.CELL_FAULT.TOGGLES],
  [Reg.CELL_COUNT.EXCLUDED, Reg.CELL_COUNT.SWAPS],
  [Reg.CELL_STATE_FRAME.FRAME],
  [Reg.CELL_LAST_FRESH.FRAME],
  [Reg.TS_FOUND_LO.IDENTITY],
  [Reg.TS_FOUND_HI.IDENTITY],
  [Reg.TS_RECORDED_LO.IDENTITY],
  [Reg.TS_RECORDED_HI.IDENTITY],
  [Reg.TS_INFO.CLASS, Reg.TS_INFO.BYPASS_FITTED, Reg.TS_INFO.FIRMWARE],
  [Reg.TS_CALL.Q_EVEN, Reg.TS_CALL.VALID_EVEN, Reg.TS_CALL.Q_ODD, Reg.TS_CALL.VALID_ODD, Reg.TS_CALL.REPLIES, Reg.TS_CALL.RESULT],
  [Reg.TS_CALL_FRAME.FRAME],
  [Reg.CELL_SUMMARY0.SERVICE, Reg.CELL_SUMMARY0.BYPASSED],
  [Reg.CELL_SUMMARY1.PENDING, Reg.CELL_SUMMARY1.OUT],
  [Reg.CELL_SUMMARY2.ABSENT, Reg.CELL_SUMMARY2.REJECTED],
  [Reg.CELL_PENDING_FIRST.CELL],
  [Reg.CELL_UNROSTERED_LO.CHAINS]]

/-- Part 16 of the register table: one list of fields per register, by address. -/
def Reg.table16 : List (List Field) := [
  [Reg.CELL_UNROSTERED_HI.CHAINS],
  [Reg.CELL_LAST.CELL, Reg.CELL_LAST.STATE, Reg.CELL_LAST.REASON],
  [Reg.CELL_EVENT.PENDING, Reg.CELL_EVENT.BYPASS, Reg.CELL_EVENT.REJECTED, Reg.CELL_EVENT.SWAP, Reg.CELL_EVENT.UNROSTERED, Reg.CELL_EVENT.OUT, Reg.CELL_EVENT.UNCONFIRMED],
  [Reg.CELL_EVENT_EN.EN],
  [Reg.BB_CTRL.EN, Reg.BB_CTRL.PAIR, Reg.BB_CTRL.IDLE_US],
  [Reg.BB_STATUS.UP, Reg.BB_STATUS.TX_IDLE, Reg.BB_STATUS.RX_IDLE, Reg.BB_STATUS.CLOCK, Reg.BB_STATUS.SKEW],
  [Reg.BB_COUNT.CRC, Reg.BB_COUNT.TYPE, Reg.BB_COUNT.FOREIGN, Reg.BB_COUNT.DENIED],
  [Reg.BB_EVENT.EVENTS],
  [Reg.BB_EVENT_EN.EVENTS],
  [Reg.BB_PARTNER.STATE, Reg.BB_PARTNER.PORTS, Reg.BB_PARTNER.NODE, Reg.BB_PARTNER.RIGHTS]]

/-- Every register of BAR0 that a chapter assigns, as the list of its fields. -/
def Reg.table : List (List Field) :=
  Reg.table0 ++ Reg.table1 ++ Reg.table2 ++ Reg.table3 ++ Reg.table4 ++ Reg.table5 ++ Reg.table6 ++ Reg.table7 ++ Reg.table8 ++ Reg.table9 ++ Reg.table10 ++ Reg.table11 ++ Reg.table12 ++ Reg.table13 ++ Reg.table14 ++ Reg.table15 ++ Reg.table16

end Sys2Proof.Machine
end

