-- ==== Sys2Proof/Machine/Ops.lean ====
section
/-! DEFINITION. The named operations every meaning is built from: reading and writing register fields (R13 to R15), counters that
saturate, event bits and fault events, the frame's phase instants, and the interrupt sources (R344). -/

namespace Sys2Proof.Machine

/-- The value of a register field (instance i, j). -/
def State.rd (s : State) (f : Field) (i : Nat := 0) (j : Nat := 0) : Nat :=
  if f.has i j then
    match f.dom with
    | .dev => Tbl.look (f.reset i) s.regs (f.key i j)
    | .por => Tbl.look (f.reset i) s.keep (f.key i j)
    | .fixed => f.reset i
  else f.reset i

/-- The state with `v`, cut to the field's width, in a register field. A field fixed in silicon does not change, and there is none
outside the instances of its register. -/
def State.wr (s : State) (f : Field) (v : Nat) (i : Nat := 0) (j : Nat := 0) : State :=
  if f.has i j then
    match f.dom with
    | .dev => { s with regs := Tbl.put (f.reset i) s.regs (f.key i j) (v % 2 ^ f.width) }
    | .por => { s with keep := Tbl.put (f.reset i) s.keep (f.key i j) (v % 2 ^ f.width) }
    | .fixed => s
  else s

/-- Whether a field is not zero. -/
def State.on (s : State) (f : Field) (i : Nat := 0) (j : Nat := 0) : Bool := s.rd f i j != 0

/-- The signed value of a field. -/
def State.rdS (s : State) (f : Field) (i : Nat := 0) (j : Nat := 0) : Int := signed f.width (s.rd f i j)

/-- A field set to a signed value. -/
def State.wrS (s : State) (f : Field) (x : Int) (i : Nat := 0) (j : Nat := 0) : State := s.wr f (unsigned f.width x) i j

/-- A counting field raised by `n`, saturating at its largest value. -/
def State.bump (s : State) (f : Field) (n : Nat := 1) (i : Nat := 0) (j : Nat := 0) : State :=
  s.wr f (satAdd (2 ^ f.width - 1) (s.rd f i j) n) i j

/-- A field of event bits with bit `b` set. -/
def State.evBit (s : State) (f : Field) (b : Nat) (i : Nat := 0) (j : Nat := 0) : State := s.wr f (setBit (s.rd f i j) b) i j

/-- Bit `b` of a field set or cleared. -/
def State.wrBit (s : State) (f : Field) (b : Nat) (v : Bool) (i : Nat := 0) (j : Nat := 0) : State :=
  s.wr f (if v then setBit (s.rd f i j) b else clrBit (s.rd f i j) b) i j

/-- A 64-bit quantity in two fields, low word first (R12). -/
def State.rd64 (s : State) (lo hi : Field) (i : Nat := 0) (j : Nat := 0) : Nat := s.rd lo i j + 4294967296 * s.rd hi i j

/-- A 64-bit quantity written into two fields, low word first (R12). -/
def State.wr64 (s : State) (lo hi : Field) (v : Nat) (i : Nat := 0) (j : Nat := 0) : State :=
  (s.wr lo (v % 4294967296) i j).wr hi (v / 4294967296) i j

/-- A low word written by the host and held (R12), 1 + the word; it takes effect with its high word. -/
def State.holdLow (s : State) (lo : Field) (v : Nat) (i : Nat := 0) : State :=
  { s with wrHold := Tbl.put 0 s.wrHold (lo.at i 0) (v % 4294967296 + 1) }

/-- The low word that waits for its high word takes effect (R12). -/
def State.takeLow (s : State) (lo : Field) (i : Nat := 0) : State :=
  match Tbl.look 0 s.wrHold (lo.at i 0) with
  | 0 => s
  | v + 1 => { s with wrHold := Tbl.put 0 s.wrHold (lo.at i 0) 0 }.wr lo v i

/-- `f` applied for each element of a list, in order. -/
def State.each {α : Type} (s : State) (l : List α) (f : State → α → State) : State := l.foldl f s

/-- `f` applied where a condition holds. -/
def State.when (s : State) (c : Bool) (f : State → State) : State := if c then f s else s

/-- Something put on a bus. -/
def State.emit (s : State) (o : Out) : State := { s with out := s.out ++ [o] }

/-- The nanosecond count (R306): it advances by 4 ns per SD cycle from the value of its latest restart, and stands still without the SD
clock. -/
def State.count (s : State) : Nat :=
  let c := s.time.ns - s.time.behind
  c - (c + 4 - s.time.phase % 4) % 4

/-- FRAME_NO of the current frame. -/
def State.frameNo (s : State) : Nat := s.rd Reg.FRAME_NO.FRAME_NO

/-- The frame period in force, in ns (R39). -/
def State.period (s : State) : Nat := s.rd Reg.FRAME_PERIOD.PERIOD

/-- A phase instant: (FRAME_PERIOD × fraction) div 10,000 (R42). -/
def State.instant (s : State) (fraction : Nat) : Nat := s.period * fraction / 10000

/-- T_SAMPLE in ns from the tick (R42). -/
def State.tSample (s : State) : Nat := s.instant (s.rd Reg.FRAME_PHASE0.SAMPLE)

/-- T_APPLY in ns from the tick. -/
def State.tApply (s : State) : Nat := s.instant (s.rd Reg.FRAME_PHASE0.APPLY)

/-- T_FREEZE in ns from the tick. -/
def State.tFreeze (s : State) : Nat := s.instant (s.rd Reg.FRAME_PHASE1.FREEZE)

/-- T_COMPUTE_END in ns from the tick. -/
def State.tComputeEnd (s : State) : Nat := s.instant (s.rd Reg.FRAME_PHASE1.COMPUTE_END)

/-- T_RANK_END in ns from the tick. -/
def State.tRankEnd (s : State) : Nat := s.instant (s.rd Reg.FRAME_PHASE2.RANK_END)

/-- Whether the frame timer issues ticks. -/
def State.ticking (s : State) : Bool := s.on Reg.FRAME_STATUS.RUNNING

/-- Frame a is later than frame b (R41). -/
def frameDiff (a b : Nat) : Int := signed 32 (a + 4294967296 - b % 4294967296)

/-- POWER_STATE.STATE codes (R386). -/
def stOff : Nat := 0
def stKeepOnly : Nat := 1
def stKickOff : Nat := 2
def stRun : Nat := 3
def stHold : Nat := 4
def stDormant : Nat := 5

/-- The device state of Table 18-7. -/
def State.device (s : State) : Nat := s.rd Reg.POWER_STATE.STATE

/-- Whether steps 9 to 11 of kick-off may run: in KICK-OFF, and in the exit from DORMANT, which repeats them (R390). -/
def State.inKickOff (s : State) : Bool := decide (s.device = stKickOff) || s.power.dormantExit

/-- The class of a fault position: 0 corrected, 1 contained, 2 fatal (R360). -/
def faultClass (pos : Nat) : Nat := if pos < 8 then 0 else if pos < 56 then 1 else 2

/-- Status bit, class counter and class event of one fault event (R361, items 1, 2 and 4). -/
def State.faultCount (s : State) (pos : Nat) : State :=
  let s := if pos < 32 then s.evBit Reg.COLLECT_STATUS_LO.STATUS pos else s.evBit Reg.COLLECT_STATUS_HI.STATUS (pos - 32)
  match faultClass pos with
  | 0 => (s.bump Reg.FAULT_COUNT_CORR.COUNT).wr Reg.FAULT_EVENT.CORRECTED 1
  | 1 => (s.bump Reg.FAULT_COUNT_CONT.COUNT).wr Reg.FAULT_EVENT.CONTAINED 1
  | _ => (s.bump Reg.FAULT_COUNT_FATAL.COUNT).wr Reg.FAULT_EVENT.FATAL 1

/-- Positions whose block is in the keep domain and reaches the collector directly (R359). -/
def keepSource (pos : Nat) : Bool := [6, 7, 20, 21, 22, 23, 24, 28, 29, 41, 44, 56, 57, 58, 60, 61].contains pos

/-- Whether an event of this position enters the history (R364). -/
def State.historyTakes (s : State) (pos : Nat) : Bool := faultClass pos != 0 || s.on Reg.FAULT_CTRL.HIST_CORRECTED

/-- An event inserted among those that reached the collector in the same cycle, lower bit first (R361). -/
def insertEvt (e : FaultEvt) : List FaultEvt → List FaultEvt
  | [] => [e]
  | x :: t => if x.ns = e.ns ∧ x.bridged = e.bridged ∧ e.bridged = false ∧ e.pos < x.pos then e :: x :: t else x :: insertEvt e t

/-- A block raises a fault event (R359): it waits for the collector; one that finds the 32-entry bridge buffer full is counted
and gets no history entry; a block behind the closed bridge raises nothing. -/
def State.raiseVia (s : State) (bridged : Bool) (pos detail : Nat) : State :=
  let e : FaultEvt := ⟨pos, detail % 65536, s.frameNo, s.ticking, s.count, bridged⟩
  if bridged && !s.power.bridge then s
  else if bridged && decide (32 ≤ (s.faults.waiting.filter (·.bridged)).length) then
    let s := s.faultCount pos
    if s.historyTakes pos then (s.bump Reg.FAULT_HIST_STATUS.LOST).wr Reg.FAULT_EVENT.HIST_LOST 1 else s
  else { s with faults := { s.faults with waiting := insertEvt e s.faults.waiting } }

/-- A fault event of the block that owns the position (Table 17-1). -/
def State.raise (s : State) (pos detail : Nat) : State := s.raiseVia (!keepSource pos) pos detail

/-- The word stored at an address of BAR0: every stored field value at its place. -/
def wordAt (t : Tbl Nat) (addr : Nat) : Nat :=
  t.foldl (fun w p => if p.1 / 32 * 32 = addr * 8 then w + p.2 * 2 ^ (p.1 % 32) else w) 0

/-- Whether a source's event word has a bit set together with its enable (R344). -/
def State.evPending (s : State) (ev en : Nat) : Bool := (wordAt s.regs ev) &&& (wordAt s.regs en) != 0

/-- The same for registers that POR restores. -/
def State.evPendingKeep (s : State) (ev en : Nat) : Bool := (wordAt s.keep ev) &&& (wordAt s.keep en) != 0

/-- Whether lane n has an enabled event bit (HOST_IRQ_LANE). -/
def State.irqLane (s : State) (n : Nat) : Bool := s.evPending (0x100030 + 0x1000 * n) (0x100034 + 0x1000 * n)

/-- Whether slice n has an enabled arm event bit. -/
def State.irqSlice (s : State) (n : Nat) : Bool := s.evPending (0x200194 + 0x1000 * n) (0x200198 + 0x1000 * n)

/-- Whether engine e has an enabled event bit. -/
def State.irqEng (s : State) (e : Nat) : Bool := s.evPending (0x20024 + 0x1000 * e) (0x20028 + 0x1000 * e)

/-- Whether drive unit u has an enabled event bit. -/
def State.irqDrive (s : State) (u : Nat) : Bool :=
  s.evPending (0x80070 + 0x4000 * u) (0x80074 + 0x4000 * u) || s.evPending (0x80124 + 0x4000 * u) (0x80128 + 0x4000 * u)

/-- Whether CAN controller n has an enabled event bit. -/
def State.irqCan (s : State) (n : Nat) : Bool := s.evPending (0x60040 + 0x4000 * n) (0x60044 + 0x4000 * n)

/-- Whether backbone port p has an enabled event bit. -/
def State.irqBb (s : State) (p : Nat) : Bool := s.evPending (0x40000C + 0x10000 * p) (0x400010 + 0x10000 * p)

/-- Whether interrupt source k of Table 16-2 is pending (R344). -/
def State.sourcePending (s : State) (k : Nat) : Bool :=
  match k with
  | 0 => s.evPendingKeep 0x4024 0x4028
  | 1 => s.evPending 0x7060 0x7064
  | 2 => s.evPending 0x10050 0x10054
  | 3 => (upTo 96).any s.irqLane
  | 4 => s.evPending 0x32401C 0x324020
  | 5 => (upTo 128).any s.irqSlice
  | 6 => (upTo 16).any s.irqEng
  | 7 => s.evPending 0x700 0x704
  | 8 => s.evPending 0x5028 0x502C
  | 9 => s.evPending 0x601C 0x6020 || s.evPendingKeep 0x601C 0x6020
  | 10 => s.host.cplPending
  | 11 => s.evPending 0x4000C 0x40010
  | 12 => (upTo 4).any s.irqDrive
  | 13 => s.evPending 0x8060 0x8064
  | 14 => s.evPending 0x50060 0x50064
  | 15 => s.evPending 0x51230 0x51234
  | 16 => s.evPending 0x52230 0x52234
  | 17 => (upTo 4).any s.irqCan
  | 18 => (upTo 4).any s.irqBb
  | 19 => s.evPending 0x1050 0x1054 || s.evPending 0x2030 0x2034 || s.evPending 0x3020 0x3024
  | _ => false

/-- The vector v sends its message (R343): on the bus, or held in the pending-bit array while masked. -/
def State.sendVector (s : State) (v : Nat) : State :=
  let e := Tbl.look default s.host.msix v
  if !s.host.msixEnable || !s.host.linkUp then s
  else if s.host.funcMask || !e.unmasked then { s with host := { s.host with pba := setBit s.host.pba v } }
  else s.emit (.msix (e.addrLo + 4294967296 * e.addrHi) e.data)

/-- Source k sends its vector (R344). -/
def State.sendSource (s : State) (k : Nat) : State := s.sendVector (s.rd Reg.HOST_VEC_MAP.VECTOR k)

/-- The interrupt sources judged after a command (R344): each source that went from not pending to pending sends its vector
once, HOST_IRQ_PENDING follows, and IRQ_N is low while a source with PIN = 1 is pending outside a DEV reset. -/
def State.settle (s : State) : State :=
  let old := s.rd Reg.HOST_IRQ_PENDING.SOURCE
  let now := (upTo 20).foldl (fun w k => if s.sourcePending k then setBit w k else w) 0
  let s := s.each (upTo 20) fun s k => if hasBit now k && !hasBit old k then s.sendSource k else s
  let s := s.wr Reg.HOST_IRQ_PENDING.SOURCE now
  let low := (upTo 20).any fun k => hasBit now k && s.on Reg.HOST_VEC_MAP.PIN k
  { s with host := { s.host with irqN := low && !s.power.held } }

/-- How every meaning ends: the interrupt sources settle, and the machine goes on. -/
def done (s : State) : Host.Outcome State Fault Refusal := .next s.settle

end Sys2Proof.Machine
end

