-- ==== Sys2Proof/Machine/Access.lean ====
section
/-! DEFINITION. Access to the numbered records of the state (lanes, chains, cells, arms, engines, converters) and to the decoded
structure image, and the geometry of chains and arms that follows from it (R90, R91, R131). -/

namespace Sys2Proof.Machine

/-- The frame record changed. -/
def State.modFr (s : State) (f : FrameSt → FrameSt) : State := { s with fr := f s.fr }

/-- Lane n. -/
def State.lane (s : State) (n : Nat) : LaneSt := Tbl.look default s.lanes n

/-- Lane n changed. -/
def State.modLane (s : State) (n : Nat) (f : LaneSt → LaneSt) : State :=
  { s with lanes := Tbl.put default s.lanes n (f (s.lane n)) }

/-- Chain c. -/
def State.chain (s : State) (c : Nat) : ChainSt := Tbl.look default s.chains c

/-- Chain c changed. -/
def State.modChain (s : State) (c : Nat) (f : ChainSt → ChainSt) : State :=
  { s with chains := Tbl.put default s.chains c (f (s.chain c)) }

/-- Cell n. -/
def State.cell (s : State) (n : Nat) : CellMem := Tbl.look default s.cells n

/-- Cell n changed. -/
def State.modCell (s : State) (n : Nat) (f : CellMem → CellMem) : State :=
  { s with cells := Tbl.put default s.cells n (f (s.cell n)) }

/-- Arm a. -/
def State.arm (s : State) (a : Nat) : ArmSt := Tbl.look default s.arms a

/-- Arm a changed. -/
def State.modArm (s : State) (a : Nat) (f : ArmSt → ArmSt) : State :=
  { s with arms := Tbl.put default s.arms a (f (s.arm a)) }

/-- Engine e. -/
def State.eng (s : State) (e : Nat) : EngSt := Tbl.look default s.engs e

/-- Engine e changed. -/
def State.modEng (s : State) (e : Nat) (f : EngSt → EngSt) : State :=
  { s with engs := Tbl.put default s.engs e (f (s.eng e)) }

/-- Converter c. -/
def State.conv (s : State) (c : Nat) : ConvSt := Tbl.look default s.convs c

/-- Converter c changed. -/
def State.modConv (s : State) (c : Nat) (f : ConvSt → ConvSt) : State :=
  { s with convs := Tbl.put default s.convs c (f (s.conv c)) }

/-- The CHAINS entry of chain c. -/
def State.chainCfg (s : State) (c : Nat) : Option ChainCfg := s.cfg.chains.find? (·.chain == c)

/-- The ARMS entry of arm a. -/
def State.armCfg (s : State) (a : Nat) : Option ArmCfg := s.cfg.arms.find? (·.arm == a)

/-- The CONVERTERS entry of converter c. -/
def State.convCfg (s : State) (c : Nat) : Option ConvCfg := s.cfg.convs.find? (·.conv == c)

/-- The CELLS entry of cell n. -/
def State.cellCfg (s : State) (n : Nat) : Option CellCfg := s.cfg.cells.find? (·.cell == n)

/-- Whether lane n belongs to a declared chain. -/
def State.laneDeclared (s : State) (n : Nat) : Bool := (s.chainCfg (n / 2)).isSome

/-- The lanes of the declared chains. -/
def State.laneList (s : State) : List Nat := s.cfg.chains.flatMap fun c => [2 * c.chain, 2 * c.chain + 1]

/-- The cells of a CHAINS entry, by hop position. -/
def ChainCfg.cellList (c : ChainCfg) : List Nat := (upTo c.cells).map (c.base + ·)

/-- Every declared cell. -/
def State.cellList (s : State) : List Nat := s.cfg.chains.flatMap ChainCfg.cellList

/-- The declared chain that holds cell n. -/
def State.chainOfCell (s : State) (n : Nat) : Option ChainCfg :=
  s.cfg.chains.find? fun c => decide (c.base ≤ n) && decide (n < c.base + c.cells)

/-- The chains of arm a in their series order (R131). -/
def State.armChains (s : State) (a : Nat) : List ChainCfg :=
  (upTo 16).filterMap fun o => s.cfg.chains.find? fun c => c.arm == a && c.order == o

/-- The cells of arm a by arm-local index (R131). -/
def State.armCells (s : State) (a : Nat) : List Nat := (s.armChains a).flatMap ChainCfg.cellList

/-- The arms of converter c. -/
def State.convArms (s : State) (c : Nat) : List Nat := (s.cfg.arms.filter (·.conv == c)).map (·.arm)

/-- Codes of SLICE_ROLE.ROLE. -/
def roLane : Nat := 1
def roArm : Nat := 2
def roRecorder : Nat := 3
def roMirror : Nat := 4
def roSpare : Nat := 5

/-- The slice that serves a role and target now (SLICE_ROLE): role 1 lane, 2 arm, 3 recorder, 4 mirror. -/
def State.sliceOf (s : State) (role target : Nat) : Option Nat :=
  (upTo 128).find? fun n =>
    s.rd Reg.SLICE_ROLE.ROLE n == role && s.rd Reg.SLICE_ROLE.TARGET n == target && s.rd Reg.SLICE_ROLE.STATE n == 1

/-- The slice whose registers show arm a: the one in service, or the one that last had the role. -/
def State.armSlice (s : State) (a : Nat) : Nat :=
  match s.sliceOf roArm a with
  | some n => n
  | none => ((upTo 128).find? fun n => s.rd Reg.SLICE_ROLE.ROLE n == 2 && s.rd Reg.SLICE_ROLE.TARGET n == a).getD 0

/-- Lanes, arms, cells and drive units the variant has (Table 00-2). -/
def Variant.lanes : Variant → Nat
  | .cx1536 => 96
  | .cx0768 => 48

def Variant.arms : Variant → Nat
  | .cx1536 => 12
  | .cx0768 => 6

def Variant.cells : Variant → Nat
  | .cx1536 => 1536
  | .cx0768 => 768

def Variant.drives : Variant → Nat
  | .cx1536 => 4
  | .cx0768 => 2

/-- IDENT.PART of the variant (R4). -/
def Variant.part : Variant → Nat
  | .cx1536 => 0x600
  | .cx0768 => 0x300

end Sys2Proof.Machine
end

