-- ==== Sys2Proof/Machine/Time.lean ====
section
/-! DEFINITION. The time base (14_time_ethernet.md, R306 to R315): how both time values advance, the steering of PTP time, the PPS
servo and the discipline of the frame timer. The model's `time.ns` is the instant of the latest command; a command at `t` first lets the
device run to `t` (`elapse`), and no instant goes back; the nanosecond count follows from it (`State.count`). PTP time below the second is
held in units of 2^-29 ns × 10^-6, in which an SD cycle at any ADDEND and any slew rate is a whole number. -/

namespace Sys2Proof.Machine

/-- One ns in the units of `TimeSt.sub`. -/
def nsUnit : Nat := 2 ^ 29 * 1000000

/-- One second in those units. -/
def secUnit : Nat := 1000000000 * nsUnit

/-- PTP time moved by an amount in those units, with its carry into the seconds (48 bits). -/
def TimeSt.advance (t : TimeSt) (x : Int) : TimeSt :=
  let total : Int := (t.sub : Int) + x
  let q := total.fdiv secUnit
  let r := total - q * secUnit
  { t with sec := ((t.sec : Int) + q).toNat % 2 ^ 48, sub := r.toNat }

/-- The slew rate in force, 1 to 500 ppm (TIME_SLEW_CFG). -/
def State.slewPpm (s : State) : Nat := clampN 1 500 (s.rd Reg.TIME_SLEW_CFG.VALUE % 512)

/-- How much of the running slew the time base makes in `cycles` SD cycles (R309): never more than what is left; the rate is that of the
nominal 4 ns (DEDUCED, assumption 50). -/
def slewPart (left : Int) (ppm cycles : Nat) : Int :=
  let most : Int := (ppm * 4 * 2 ^ 29 * cycles : Nat)
  if left < 0 then max left (-most) else min left most

/-- TIME_SLEW_REMAIN and SLEWING follow the slew. -/
def State.showSlew (s : State) : State :=
  (s.wrS Reg.TIME_SLEW_REMAIN.VALUE (s.time.slew.tdiv nsUnit)).wr Reg.TIME_STATUS.SLEWING (b01 (s.time.slew ≠ 0))

/-- Whether the SD clock runs (Table 18-5): not while PLL_SD relocks or is left gated. In a DEV reset the model's clock goes on
(DESIGN CHOICE, assumption 53). -/
def State.sdRuns (s : State) : Bool := s.power.held || !(hasBit s.power.lost 2 || hasBit s.power.dead 2)

/-- The SD cycles that begin up to an instant, counted from the latest restart of the time base. -/
def TimeSt.cycle (x : TimeSt) (t : Nat) : Nat := (t - x.behind + 4 - x.phase % 4) / 4

/-- The device runs to instant `t`. The time base makes 4 ns and ADDEND × 2^-29 ns of PTP time per SD cycle, with the slew in progress
(R306); without the SD clock it stands still, and the frame timer with it (Table 18-5). -/
def State.elapse (s : State) (t : Nat) : State :=
  if t ≤ s.time.ns then s
  else if !s.sdRuns then
    let d := t - s.time.ns
    { s with time := { s.time with ns := t, behind := s.time.behind + d }, fr := { s.fr with nextTick := s.fr.nextTick + d } }
  else
    let cycles := s.time.cycle t - s.time.cycle s.time.ns
    let part := slewPart s.time.slew s.slewPpm cycles
    let tm := s.time.advance ((cycles * s.rd Reg.TIME_ADDEND.ADDEND * 1000000 : Nat) + part)
    let s' := { s with time := { tm with ns := t, slew := tm.slew - part } }
    if part = 0 then s' else s'.showSlew

/-- What the device does with no command waiting: one SD cycle passes. -/
def State.idle (s : State) : State := s.elapse (s.time.ns + 4)

/-- PTP time at the present instant, in units of 2^-29 ns × 10^-6 beyond `sec` (R307: a stamp is taken at the event, not at an SD edge). -/
def State.ptpSub (s : State) : Nat :=
  s.time.sub + (s.time.ns - s.time.behind + 4 - s.time.phase % 4) % 4 * (s.rd Reg.TIME_ADDEND.ADDEND * 250000)

/-- PTP seconds and nanoseconds of an event at the present instant, fraction 0 (R307). -/
def State.ptpStamp (s : State) : Nat × Nat :=
  ((s.time.sec + s.ptpSub / secUnit) % 2 ^ 48, s.ptpSub % secUnit / nsUnit)

/-- PTP nanoseconds, 0 to 999,999,999, of an event at the present instant. -/
def State.ptpNs (s : State) : Nat := s.ptpStamp.2

/-- The start of the next SD cycle, when an adjustment takes effect (Table 14-1). -/
def State.nextCycle (s : State) : State :=
  s.elapse (s.time.ns + 4 - (s.time.ns - s.time.behind + 4 - s.time.phase % 4) % 4)

/-- TIME_STATUS.SYNC set or cleared, with its event (R311). -/
def State.setSync (s : State) (v : Bool) : State :=
  if s.on Reg.TIME_STATUS.SYNC = v then s
  else (s.wr Reg.TIME_STATUS.SYNC (b01 v)).evBit Reg.TIME_EVENT.EVENTS 0

/-- A write that the PPS servo makes the device ignore (R309). -/
def State.timeIgnored (s : State) : State := s.evBit Reg.TIME_EVENT.EVENTS 3

/-- An adjustment that the host asks for (R309): ignored while the servo runs. -/
def State.steered (s : State) (f : State → State) : State := if s.on Reg.TIME_CTRL.SERVO then s.timeIgnored else f s

/-- The slew ends (R310). -/
def State.endSlew (s : State) : State := { s with time := { s.time with slew := 0 } }.showSlew

/-- SET (R309, R310): PTP time takes the written value with fraction 0; nanoseconds beyond a second carry. -/
def State.timeSet (s : State) : State :=
  let s := s.nextCycle
  let sec := s.rd Reg.TIME_SET_SEC_LO.VALUE + 4294967296 * (s.rd Reg.TIME_SET_SEC_HI.VALUE % 65536)
  let ns := s.rd Reg.TIME_SET_NS.VALUE % 2 ^ 30
  ({ s with time := ({ s.time with sec := sec, sub := 0 }).advance (ns * nsUnit : Nat) }).endSlew

/-- STEP (R309, R310): the signed sum is added to PTP time. -/
def State.timeStep (s : State) : State :=
  let s := s.nextCycle
  let d : Int := s.rdS Reg.TIME_STEP_SEC.VALUE * secUnit + s.rdS Reg.TIME_STEP_NS.VALUE * nsUnit
  ({ s with time := s.time.advance d }).endSlew

/-- TIME_SET. -/
def execTimeSet (t : Nat) (s : State) : Host.Outcome State Fault Refusal :=
  done ((s.elapse t).steered State.timeSet)

/-- TIME_STEP. -/
def execTimeStep (t : Nat) (s : State) : Host.Outcome State Fault Refusal :=
  done ((s.elapse t).steered State.timeStep)

/-- SLEW_GO (R309, R310): the amount of TIME_SLEW replaces what remains of a slew that runs. -/
def State.slewGo (s : State) : State :=
  { s with time := { s.time with slew := s.rdS Reg.TIME_SLEW.VALUE * nsUnit } }.showSlew

/-- TIME_SLEW_GO. -/
def execTimeSlewGo (t : Nat) (s : State) : Host.Outcome State Fault Refusal :=
  done ((s.elapse t).steered State.slewGo)

/-- TIME_SLEW_DONE (R309): by `t` the slew has made its whole amount, the last cycle trimmed to land on it. -/
def execTimeSlewDone (t : Nat) (s : State) : Host.Outcome State Fault Refusal := done (s.elapse t).showSlew

/-- SYNC set or cleared by the host (R311), while SERVO = 0. -/
def State.hostSync (s : State) (v : Bool) : State := if s.on Reg.TIME_CTRL.SERVO then s else s.setSync v

/-- TIME_SYNC_SET (R311). -/
def execTimeSyncSet (t : Nat) (s : State) : Host.Outcome State Fault Refusal :=
  done ((s.elapse t).hostSync true)

/-- TIME_SYNC_CLR (R311). -/
def execTimeSyncClr (t : Nat) (s : State) : Host.Outcome State Fault Refusal :=
  done ((s.elapse t).hostSync false)

/-- A change of SERVO switches the steering source and clears SYNC (R311); the servo counts its good edges from its start (R313). -/
def State.servoTo (s : State) (pps : Bool) : State :=
  if s.on Reg.TIME_CTRL.SERVO = pps then s
  else { (s.wr Reg.TIME_CTRL.SERVO (b01 pps)).setSync false with time := { s.time with ppsGood := 0 } }

/-- TIME_SERVO_CHANGE. -/
def execTimeServoChange (pps : Bool) (t : Nat) (s : State) : Host.Outcome State Fault Refusal := done ((s.elapse t).servoTo pps)

/-- ADDEND clamped to nominal ±500 ppm (Table 14-1). -/
def clampAddend (x : Int) : Nat := (clampI 0x7FEF9DB2 0x8010624E x).toNat

/-- A write of TIME_ADDEND (R309): in force from the next SD cycle. -/
def State.addendWrite (s : State) (value : Nat) : State :=
  if s.on Reg.TIME_CTRL.SERVO then s.timeIgnored
  else s.nextCycle.wr Reg.TIME_ADDEND.ADDEND (clampAddend (value % 4294967296 : Nat))

/-- TIME_ADDEND_WRITE. -/
def execTimeAddendWrite (value t : Nat) (s : State) : Host.Outcome State Fault Refusal := done ((s.elapse t).addendWrite value)

/-- The phase error e of a PPS edge, mapped into −500,000,000 to 499,999,999 (R312). -/
def State.ppsError (s : State) : Int :=
  let d := ((s.ptpNs : Int) - s.rdS Reg.TIME_PPS_OFFSET.VALUE) % 1000000000
  if d < 500000000 then d else d - 1000000000

/-- Whether an edge with error e is rejected (R312). -/
def State.ppsRejects (s : State) (e : Int) : Bool :=
  (match s.time.ppsAt with
    | some a => decide (s.time.ns < a + 500000000)
    | none => false) || (s.on Reg.TIME_STATUS.SERVO_LOCK && decide (100000 < e.natAbs))

/-- The PPS servo on an accepted edge (R313). -/
def State.ppsServo (s : State) (e : Int) : State :=
  let lockNs : Nat := s.rd Reg.TIME_PPS_CFG.LOCK_NS * 10
  let s := if 100000 < e.natAbs then
      ({ s with time := { s.time.advance (-e * nsUnit) with ppsSum := 0 } }).evBit Reg.TIME_EVENT.EVENTS 2
    else
      let sum := clampI (-1048576) 1048576 (s.time.ppsSum + e)
      let a : Int := 2147483648 - asr (e * s.rd Reg.TIME_PPS_CFG.KP) 8 - asr (sum * s.rd Reg.TIME_PPS_CFG.KI) 8
      ({ s with time := { s.time with ppsSum := sum } }).wr Reg.TIME_ADDEND.ADDEND (clampAddend a)
  let good : Nat := if e.natAbs ≤ lockNs then s.time.ppsGood + 1 else 0
  let s := { s with time := { s.time with ppsGood := good } }
  if 4 ≤ good then (s.wr Reg.TIME_STATUS.SERVO_LOCK 1).setSync true
  else if 4 * lockNs < e.natAbs then (s.wr Reg.TIME_STATUS.SERVO_LOCK 0).setSync false
  else s

/-- An edge on PPS_IN (R312, R313): TIME_PPS_CFG.EDGE selects the polarity, 0 rising; the other polarity is none. An edge accepted while
the servo is off is none of the 4 consecutive ones of R313. -/
def State.ppsEdge (s : State) (rising : Bool) : State :=
  let e := s.ppsError
  if rising = s.on Reg.TIME_PPS_CFG.EDGE then s
  else if s.ppsRejects e then s.bump Reg.TIME_PPS_COUNT.REJECTED
  else
    let s := ((s.bump Reg.TIME_PPS_COUNT.EDGES).wrS Reg.TIME_PPS_ERR.VALUE e).wr Reg.TIME_STATUS.PPS_LOST 0
    let s := { s with time := { s.time with ppsAt := some s.time.ns } }
    if s.on Reg.TIME_CTRL.SERVO then s.ppsServo e else { s with time := { s.time with ppsGood := 0 } }

/-- PPS_EDGE. -/
def execPpsEdge (edge : PpsIn) (s : State) : Host.Outcome State Fault Refusal := done ((s.elapse edge.t).ppsEdge edge.rising)

/-- 1.5 s without an accepted edge while the servo runs (R313), counted from the restart of the time base before the first one
(DEDUCED, assumption 49). -/
def State.ppsLost (s : State) : State :=
  let due := match s.time.ppsAt with
    | some a => decide (a + 1500000000 ≤ s.time.ns)
    | none => decide (s.time.startedAt + 1500000000 ≤ s.time.ns)
  if s.on Reg.TIME_CTRL.SERVO && due then
    let s := s.when (!s.on Reg.TIME_STATUS.PPS_LOST) (·.evBit Reg.TIME_EVENT.EVENTS 1)
    ((s.wr Reg.TIME_STATUS.PPS_LOST 1).wr Reg.TIME_STATUS.SERVO_LOCK 0).setSync false
  else s

/-- PPS_LOST. -/
def execPpsLost (t : Nat) (s : State) : Host.Outcome State Fault Refusal := done (s.elapse t).ppsLost

/-- The time-keeping counter's nanosecond copy at the present instant: 31, 31, 31 and 32 ns per keep cycle since the latest copy,
31.25 ns a cycle (R308). -/
def TimeSt.keepCount (t : TimeSt) (since : Nat) : Nat := t.keepNs + (since * 4 / 125) * 125 / 4

/-- The keep domain's copies of both values (R308). -/
def State.keepCopy (s : State) : State :=
  { s with time := { s.time with keepAt := s.time.ns, keepNs := s.count, keepSec := s.time.sec, keepSub := s.time.sub } }

/-- KEEP_COUNTER_COPY: at a 1 ms boundary of the count, while VIN is present. -/
def execKeepCounterCopy (t : Nat) (s : State) : Host.Outcome State Fault Refusal :=
  let s := s.elapse t
  done (if s.device = stOff ∨ s.device = stKeepOnly ∨ s.power.held then s else s.keepCopy)

/-- The keep counter's copies brought to the present instant: the counter runs on its own (R308). -/
def TimeSt.keepNow (t : TimeSt) : TimeSt :=
  let n := t.keepCount (t.ns - t.keepAt)
  let x := { t with sec := t.keepSec, sub := t.keepSub }.advance (((n - t.keepNs) * nsUnit : Nat) : Int)
  { t with keepAt := t.ns, keepNs := n, keepSec := x.sec, keepSub := x.sub }

/-- The restart of the time base (R308): both values from the keep counter plus 1,000 ns; SYNC = 0, RESTORED = 1 (after a POR from 0 and
RESTORED = 0). The counter's own copies do not move. The model's instant moves on where the restored count lies ahead of it. -/
def State.timeRestart (s : State) : State :=
  let fresh := !s.time.restarted
  let k := s.time.keepNow
  let count := if fresh then 0 else max (s.time.ns - s.time.behind) (k.keepNs + 1000)
  let ns := max s.time.ns count
  let k := if fresh then { k with keepNs := 0, keepSec := 0, keepSub := 0 } else k
  let moved := if fresh then { k with sec := 0, sub := 0 }
    else { k with sec := k.keepSec, sub := k.keepSub }.advance ((1000 * nsUnit : Nat) : Int)
  let s := { s with time :=
    { moved with ns := ns, behind := ns - count, phase := count % 4, startedAt := ns, keepAt := ns, slew := 0, restarted := true,
                 ppsAt := none, ppsSum := 0, ppsGood := 0, discRun := 0 } }
  (s.wr Reg.TIME_STATUS.SYNC 0).wr Reg.TIME_STATUS.RESTORED (b01 (!fresh))

/-- The phase error of a tick against the nearest aligned instant, within ± half a period (R314). -/
def State.frameError (s : State) : Int :=
  let p : Int := s.period
  if p = 0 then 0
  else
    let r := ((s.ptpStamp.1 * 1000000000 + s.ptpStamp.2 : Nat) - (s.rd Reg.TIME_FRAME_ALIGN.OFFSET : Nat) : Int) % p
    if 2 * r ≤ p then r else r - p

/-- The first tick of a frame timer that starts now with `period` (R315): 1 µs later, or with SYNC = 1 at the first aligned instant from then
on, PTP time running at the ADDEND in force until it (DESIGN CHOICE, assumption 23: a slew that runs does not move it). -/
def State.firstTick (s : State) (period : Nat) : Nat :=
  let addend := s.rd Reg.TIME_ADDEND.ADDEND
  if !s.on Reg.TIME_STATUS.SYNC ∨ period = 0 ∨ addend = 0 then s.time.ns + 1000
  else
    let p : Int := (s.ptpStamp.1 * 1000000000 + s.ptpStamp.2 + 1000 * addend / 2147483648 : Nat)
    let wait := (((s.rd Reg.TIME_FRAME_ALIGN.OFFSET : Nat) : Int) - p) % (period : Int)
    s.time.ns + 1000 + (wait.toNat * 2147483648 + addend - 1) / addend

/-- FRAME_DISCIPLINE (R314): at a tick the error is measured, the guard window of the frame is adjusted while SYNC = 1, which moves the next
tick, and DISCIPLINED follows 64 consecutive ticks within 50 ns. -/
def State.discipline (s : State) : State :=
  let e := s.frameError
  let sync := s.on Reg.TIME_STATUS.SYNC
  let slew : Int := s.rd Reg.TIME_FRAME_ALIGN.SLEW
  let adj := if !sync then 0 else if 0 < e then -(min e slew) else min (-e) slew
  let good := sync && decide (e.natAbs ≤ 50)
  let run := if good then s.time.discRun + 1 else 0
  let next := ((s.time.ns + s.period : Nat) + adj).toNat
  let s := { s with time := { s.time with discRun := run }, fr := { s.fr with guardAdjust := adj, nextTick := next } }
  let s := s.wrS Reg.TIME_FRAME_PHASE.E e
  let now := good && (decide (64 ≤ run) || s.on Reg.FRAME_STATUS.DISCIPLINED)
  let s := s.when (now != s.on Reg.FRAME_STATUS.DISCIPLINED) (·.evBit Reg.TIME_EVENT.EVENTS 4)
  s.wr Reg.FRAME_STATUS.DISCIPLINED (b01 now)

/-- TIME_PTP_READ: reading TIME_PTP_NS latches the other three words. -/
def State.ptpLatch (s : State) : State :=
  let s := (s.wr Reg.TIME_PTP_NS.VALUE (s.time.sub / nsUnit)).wr Reg.TIME_PTP_SEC_LO.VALUE (s.time.sec % 4294967296)
  (s.wr Reg.TIME_PTP_SEC_HI.VALUE (s.time.sec / 4294967296)).wr Reg.TIME_PTP_FRAC.VALUE
    ((s.time.sub % nsUnit) * 65536 / nsUnit)

/-- TIME_PTP_READ. -/
def execTimePtpRead (t : Nat) (s : State) : Host.Outcome State Fault Refusal := done (s.elapse t).ptpLatch

/-- The TIME section's values in the registers at commit (R323). -/
def State.commitTime (s : State) (c : TimeCfg) : State :=
  let s := s.each (upTo 2) fun s p =>
    let m := c.macs.getD p []
    let s := (s.wr Reg.ETH_CTRL.MODE (c.modes.getD p 0) p).wr Reg.ETH_CTRL.AN_EN (c.flags.getD p 0) p
    let s := (s.wr Reg.ETH_MAC_LO.MAC (u32At m 0) p).wr Reg.ETH_MAC_HI.MAC (u16At m 4) p
    (s.wrS Reg.ETH_LAT.TX (c.lat.getD (2 * p) 0) p).wrS Reg.ETH_LAT.RX (c.lat.getD (2 * p + 1) 0) p
  let s := (s.wr Reg.TIME_FRAME_ALIGN.OFFSET c.align).wr Reg.TIME_FRAME_ALIGN.SLEW c.slew
  let s := (s.servoTo (c.servo = 1)).wr Reg.TIME_PPS_CFG.EDGE c.edge
  let s := (s.wrS Reg.TIME_PPS_OFFSET.VALUE c.offset).wr Reg.TIME_PPS_CFG.KP c.kp
  (s.wr Reg.TIME_PPS_CFG.KI c.ki).wr Reg.TIME_PPS_CFG.LOCK_NS (c.lockNs / 10)

end Sys2Proof.Machine
end

