-- ==== Sys2Proof/Machine/Adc.lean ====
section
/-! DEFINITION. Analogue acquisition (10_analogue.md): the SAR converters with their bursts, staging and results, the isolated ΔΣ
channels, the reference buffer and the housekeeping round, R226 to R242. -/

namespace Sys2Proof.Machine

/-- SAR converter c, and ΔΣ channel 4u + k. -/
def State.sar (s : State) (c : Nat) : AdcConv := Tbl.look default s.adc.convs c
def State.modSar (s : State) (c : Nat) (f : AdcConv → AdcConv) : State :=
  { s with adc := { s.adc with convs := Tbl.put default s.adc.convs c (f (s.sar c)) } }
def State.dsCh (s : State) (k : Nat) : DsSt := Tbl.look default s.adc.ds k
def State.modDs (s : State) (k : Nat) (f : DsSt → DsSt) : State :=
  { s with adc := { s.adc with ds := Tbl.put default s.adc.ds k (f (s.dsCh k)) } }

/-- A slot of the frame image now filled (R237). -/
def State.putSlot (s : State) (i : Nat) (x : AdcSlot) : State :=
  { s with adc := { s.adc with slots := Tbl.put default s.adc.slots i x } }

/-- t_acq of an entry in ns: values below 3 act as 3 (ADC_ENTRY_CFG.ACQ). -/
def AdcEntry.acqNs (e : AdcEntry) : Nat := 10 * max 3 e.acq

/-- Sample instants from burst start, and the burst's length (R231). -/
def burstInstants : List AdcEntry → Nat → List Nat × Nat
  | [], t => ([], t)
  | e :: r, t => let (l, n) := burstInstants r (t + e.acqNs + 70); ((t + e.acqNs) :: l, n)

/-- Burst start in ns from the tick and burst length for a T_SAMPLE (R231). -/
def burstPlan (es : List AdcEntry) (tSample : Nat) : Int × Nat :=
  let (l, n) := burstInstants es 250
  let m := if l.isEmpty then 0 else l.sum / l.length
  let d : Int := (tSample : Int) - m
  (d - d % 2, n)

/-- Whether a burst fits a period with the image's fractions (R232). -/
def burstFits (es : List AdcEntry) (period fSample fFreeze : Nat) : Bool :=
  let (start, len) := burstPlan es (period * fSample / 10000)
  es.isEmpty || (decide (0 ≤ start) && decide (start + len + 100 ≤ (period * fFreeze / 10000 : Nat)))

/-- START and LENGTH of converter c for the period and the entries in force (R231). -/
def State.planBurst (s : State) (c : Nat) : State :=
  let es := (s.sar c).entries
  if es.isEmpty then s
  else
    let (start, len) := burstPlan es s.tSample
    (s.wr Reg.ADC_SEQ_BURST.START start.toNat c).wr Reg.ADC_SEQ_BURST.LENGTH len c

/-- All converters planned again when a period takes effect (R231). -/
def State.planBursts (s : State) : State := s.each (upTo 8) fun s c => s.planBurst c

/-- What the staged registers of entry e of converter c hold. -/
def State.stagedEntry (s : State) (c e : Nat) : AdcEntry :=
  { input := s.rd Reg.ADC_ENTRY_CFG.INPUT c e, acq := s.rd Reg.ADC_ENTRY_CFG.ACQ c e, shift := s.rd Reg.ADC_ENTRY_CFG.SHIFT c e,
    winEn := s.on Reg.ADC_ENTRY_CFG.WIN_EN c e, scale := s.rdS Reg.ADC_ENTRY_SCALE.VALUE c e,
    offset := s.rdS Reg.ADC_ENTRY_OFFSET.VALUE c e, hi := s.rdS Reg.ADC_ENTRY_WIN_HI.VALUE c e,
    lo := s.rdS Reg.ADC_ENTRY_WIN_LO.VALUE c e }

/-- What the staged registers of converter c hold (R235). -/
def State.stagedSar (s : State) (c : Nat) : AdcStaged :=
  let n := s.rd Reg.ADC_SEQ_CTRL.LEN c
  { entries := (upTo n).map (s.stagedEntry c), rest := ((upTo 32).drop n).map (s.stagedEntry c),
    inputs := (upTo 64).map fun i => s.rd Reg.ADC_IN_CFG.GAIN i + 4 * s.rd Reg.ADC_IN_CFG.EN i }

/-- What the staged registers of ΔΣ channel k hold. -/
def State.stagedDs (s : State) (k : Nat) : DsCfg :=
  { order := s.rd Reg.ADC_DS_CFG.ORDER k, log2r := s.rd Reg.ADC_DS_CFG.LOG2R k, shift := s.rd Reg.ADC_DS_CFG.SHIFT k,
    scale := s.rdS Reg.ADC_DS_SCALE.VALUE k, offset := s.rdS Reg.ADC_DS_OFFSET.VALUE k }

/-- The staged registers of converter c set to a configuration. -/
def State.writeSar (s : State) (c : Nat) (x : AdcStaged) : State :=
  let all := x.entries ++ x.rest
  let s := s.each (all.zip (upTo all.length)) fun s p =>
    let e := p.2
    let s := (s.wr Reg.ADC_ENTRY_CFG.INPUT p.1.input c e).wr Reg.ADC_ENTRY_CFG.ACQ p.1.acq c e
    let s := (s.wr Reg.ADC_ENTRY_CFG.SHIFT p.1.shift c e).wr Reg.ADC_ENTRY_CFG.WIN_EN (b01 p.1.winEn) c e
    let s := (s.wrS Reg.ADC_ENTRY_SCALE.VALUE p.1.scale c e).wrS Reg.ADC_ENTRY_OFFSET.VALUE p.1.offset c e
    (s.wrS Reg.ADC_ENTRY_WIN_HI.VALUE p.1.hi c e).wrS Reg.ADC_ENTRY_WIN_LO.VALUE p.1.lo c e
  s.each (x.inputs.zip (upTo x.inputs.length)) fun s p =>
    (s.wr Reg.ADC_IN_CFG.GAIN (p.1 % 4) p.2).wr Reg.ADC_IN_CFG.EN (p.1 / 4) p.2

/-- The staged registers of a ΔΣ channel set to a configuration. -/
def State.writeDs (s : State) (k : Nat) (c : DsCfg) : State :=
  let s := ((s.wr Reg.ADC_DS_CFG.ORDER c.order k).wr Reg.ADC_DS_CFG.LOG2R c.log2r k).wr Reg.ADC_DS_CFG.SHIFT c.shift k
  (s.wrS Reg.ADC_DS_SCALE.VALUE c.scale k).wrS Reg.ADC_DS_OFFSET.VALUE c.offset k

/-- Staged values of converter c take effect (R234, R235): settle counts of entries whose input changed its gain or was enabled,
window states of comparators switched on, and the burst planned again. -/
def State.applySar (s : State) (c : Nat) (x : AdcStaged) : State :=
  let old := s.sar c
  let changed := fun i =>
    let a := old.inputs.getD i 0
    let b := x.inputs.getD i 0
    a % 4 != b % 4 || (a / 4 == 0 && b / 4 == 1)
  let s := s.each (x.entries.zip (upTo x.entries.length)) fun s p =>
    let s := s.when (changed p.1.input) fun s => s.modSar c fun v => { v with settle := Tbl.put 0 v.settle p.2 2 }
    let was := match old.entries[p.2]? with
      | some e => e.winEn
      | none => false
    s.when (p.1.winEn && !was) fun s => s.modSar c fun v => { v with win := Tbl.put 0 v.win p.2 0 }
  let s := s.modSar c fun v => { v with entries := x.entries, inputs := x.inputs, staged := none }
  s.planBurst c

/-- COMMIT reads 1 until every staged value has been applied (ADC_CTRL). -/
def State.showCommit (s : State) : State :=
  s.wr Reg.ADC_CTRL.COMMIT
    (b01 ((upTo 8).any (fun c => (s.sar c).staged.isSome) || (upTo 16).any fun k => (s.dsCh k).staged.isSome))

/-- Whether a converter runs bursts now (R230). -/
def State.sarRuns (s : State) (c : Nat) : Bool :=
  (s.sar c).running && !(s.sar c).entries.isEmpty && s.ticking && !s.power.analogOff

/-- ADC_COMMIT (R232, R235): all staged values wait for each converter's next burst and each channel's next output, or all are
discarded where one converter's burst would not fit at PERIOD_MIN: the registers go back to the commit accepted last. A converter that runs no burst takes them at once. -/
def State.adcCommit (s : State) : State :=
  let f := s.cfg.frame
  let ok := (upTo 8).all fun c => burstFits (s.stagedSar c).entries f.pmin f.sample f.freeze
  if !ok then
    let s := s.each (upTo 8) fun s c =>
      let v := s.sar c
      s.writeSar c { entries := match v.staged with | some x => x.entries | none => v.entries, rest := v.rest, inputs := s.adc.inputs }
    let s := s.each (upTo 16) fun s k => s.writeDs k ((s.dsCh k).staged.getD (s.dsCh k).cfg)
    s.wr Reg.ADC_EVENT.CFG_REFUSED 1
  else
    let inputs := (s.stagedSar 0).inputs
    let s := { s with adc := { s.adc with inputs := inputs } }
    let s := s.each (upTo 8) fun s c =>
      let x := s.stagedSar c
      let s := s.modSar c fun v => { v with rest := x.rest }
      if s.sarRuns c then s.modSar c fun v => { v with staged := some x } else s.applySar c x
    let s := s.each (upTo 16) fun s k =>
      let x := s.stagedDs k
      if x = (s.dsCh k).cfg then s.modDs k fun d => { d with staged := none } else s.modDs k fun d => { d with staged := some x }
    s.showCommit

/-- ADC_COMMIT. -/
def execAdcCommit (t : Nat) (s : State) : Host.Outcome State Fault Refusal := done (s.elapse t).adcCommit

/-- A burst starts (R230, R235): committed values take effect, the sequencer is busy. -/
def State.burstStart (s : State) (c : Nat) : State :=
  if !s.sarRuns c then s
  else
    let s := match (s.sar c).staged with
      | some x => (s.applySar c x).showCommit
      | none => s
    (s.modSar c fun v => { v with burstInvalid := false, burstClip := false }).wrBit Reg.ADC_STATUS.BUSY c true

/-- ADC_BURST_START. -/
def execAdcBurstStart (adc : Fin 8) (t : Nat) (s : State) : Host.Outcome State Fault Refusal :=
  done ((s.elapse t).burstStart adc.val)

/-- The raw code of an input voltage at a gain code (R226): V × gain × 32,768 / 4.096 V, rounded to nearest and clamped. -/
def rawCode (nanovolt : Int) (gain : Nat) : Int :=
  clampI (-32768) 32767 ((nanovolt * 2 ^ gain * 8 + 500000).fdiv 1000000)

/-- Flags of a SAR result besides the window (Table 10-2, Table 10-4). -/
def sarFlags (ref settle mux off clip : Bool) : Nat :=
  b01 (!(ref || settle || mux || off)) + 2 * b01 ref + 4 * b01 settle + 8 * b01 mux + 16 * b01 off + 32 * b01 clip

/-- ADC_WINDOW_EVENT (R236): the window state of entry e after a valid value. -/
def State.window (s : State) (c e : Nat) (ent : AdcEntry) (value : Int) : State :=
  let now := if ent.hi < value then 1 else if value < ent.lo then 2 else 0
  let was := Tbl.look 0 (s.sar c).win e
  let s := s.modSar c fun v => { v with win := Tbl.put 0 v.win e now }
  if now ≠ 0 ∧ now ≠ was then
    let s := s.evBit Reg.ADC_SEQ_WIN_EVENT.EVENT e c
    s.when (hasBit (s.rd Reg.ADC_SEQ_WIN_EN.EN c) e) (·.wr Reg.ADC_EVENT.WINDOW 1)
  else s

/-- A conversion completes (R233, R234). -/
def State.adcResult (s : State) (c e : Nat) (nanovolt : Int) : State :=
  let v := s.sar c
  match v.entries[e]? with
  | none => s
  | some ent =>
    if !hasBit (s.rd Reg.ADC_STATUS.BUSY) c then s
    else
      let cfg := v.inputs.getD ent.input 0
      let raw := rawCode nanovolt (cfg % 4)
      let value := sat32 (rshr (raw * ent.scale) ent.shift + ent.offset)
      let mux := v.lastInput != some ent.input && decide (ent.acqNs < 200)
      let count := Tbl.look 0 v.settle e
      let ref := !s.on Reg.ADC_REF.READY || s.on Reg.ADC_REF.FAULT
      let clip := raw = -32768 || raw = 32767
      let f := sarFlags ref (decide (0 < count)) mux (cfg / 4 = 0) clip
      let valid := hasBit f 0
      let s := s.modSar c fun v =>
        { v with
          lastInput := some ent.input, settle := Tbl.put 0 v.settle e (count - 1), latest := Tbl.put 0 v.latest e value,
          burstInvalid := v.burstInvalid || !valid, burstClip := v.burstClip || clip }
      let s := s.when (valid && ent.winEn) (·.window c e ent value)
      let w := if ent.winEn then Tbl.look 0 (s.sar c).win e else 0
      let flags := f + 64 * b01 (w = 1) + 128 * b01 (w = 2)
      let at_ : Int := (s.rd Reg.ADC_SEQ_BURST.START c : Nat) + ((burstInstants v.entries 250).1.getD e 0 : Nat)
      let s := s.putSlot (32 * c + e) ⟨value, raw, flags, count - 1, at_⟩
      let s := (s.wrS Reg.ADC_ENTRY_RESULT.RAW raw c e).wr Reg.ADC_ENTRY_RESULT.FLAGS flags c e
      let s := s.wr Reg.ADC_ENTRY_RESULT.SETTLE (count - 1) c e
      let s := s.when (!valid) (·.bump Reg.ADC_SEQ_COUNT.INVALID 1 c)
      if e + 1 = v.entries.length then
        let s := s.wrBit Reg.ADC_STATUS.BUSY c false
        let s := s.wrBit Reg.ADC_STATUS.INVALID c (s.sar c).burstInvalid
        s.wrBit Reg.ADC_STATUS.CLIP c (s.sar c).burstClip
      else s

/-- ADC_RESULT. -/
def execAdcResult (adc : Fin 8) (entry : Fin 32) (nanovolt : Int) (t : Nat) (s : State) : Host.Outcome State Fault Refusal :=
  done ((s.elapse t).adcResult adc.val entry.val nanovolt)

/-- A read of ADC_ENTRY_RESULT copies the value of the same result into the holding register (R233). -/
def State.adcRead (s : State) (c e : Nat) : State := s.wrS Reg.ADC_ENTRY_VALUE.VALUE (Tbl.look 0 (s.sar c).latest e) c e

/-- ADC_RESULT_READ. -/
def execAdcResultRead (adc : Fin 8) (entry : Fin 32) (s : State) : Host.Outcome State Fault Refusal :=
  done (s.adcRead adc.val entry.val)

/-- An s64 that wraps (R238). -/
def wrap64 (x : Int) : Int := signed 64 (unsigned 64 x)

/-- The integrators of a sinc filter over one modulator bit (R238). -/
def sincBit (b : Int) : List Int → List Int
  | [] => []
  | i :: r => let x := wrap64 (i + b); x :: sincBit x r

/-- The combs of a sinc filter: the output and the next comb states (R238). -/
def sincComb (x : Int) : List Int → Int × List Int
  | [] => (x, [])
  | c :: r => let (y, l) := sincComb (wrap64 (x - c)) r; (y, x :: l)

/-- One output of a ΔΣ channel (R238, R239). -/
def State.dsOutput (s : State) (k : Nat) (bits : List Bool) : State :=
  let d := s.dsCh k
  let c := d.cfg
  let link := s.on Reg.DRV_STATUS.LINK (k / 4)
  let apply := fun (s : State) =>
    match (s.dsCh k).staged with
    | none => s
    | some n =>
      let same := n.order = c.order ∧ n.log2r = c.log2r
      (s.modDs k fun d =>
        if same then { d with cfg := n, staged := none }
        else { d with cfg := n, staged := none, integ := List.replicate n.order 0, comb := List.replicate n.order 0,
                      settle := n.order, out := none }).showCommit
  if s.silicon.variant.drives ≤ k / 4 then s
  else if c.order = 0 then apply s
  else
    let integ := bits.foldl (fun l b => sincBit (if b then 1 else -1) l) (if d.integ.isEmpty then List.replicate c.order 0 else d.integ)
    let x := integ.getLastD 0
    let (y, comb) := sincComb x (if d.comb.isEmpty then List.replicate c.order 0 else d.comb)
    let sh := c.order * c.log2r
    let raw := sat32 (if sh ≤ 30 then y * 2 ^ (30 - sh) else rshr y (sh - 30))
    let value := sat32 (rshr (raw * c.scale) c.shift + c.offset)
    let settle := d.settle
    let valid := link && decide (settle = 0)
    let flags := b01 valid + 4 * b01 (decide (0 < settle)) + 16 * b01 (!link)
    let out : AdcSlot := ⟨value, raw, flags, settle - 1, (s.count : Int)⟩
    let s := s.modDs k fun d => { d with integ := integ, comb := comb, settle := settle - 1, out := some out, valid := valid }
    let s := s.when (d.valid && !valid) (·.wr Reg.ADC_EVENT.DS_INVALID 1)
    let s := (s.wr Reg.ADC_DS_RESULT.FLAGS flags k).wr Reg.ADC_DS_RESULT.SETTLE (settle - 1) k
    apply (s.wrS Reg.ADC_DS_VALUE.VALUE value k)

/-- The barrier link of a unit returns: its filters restart from zero, the first N outputs invalid (R239). -/
def State.dsRestart (s : State) (u : Nat) : State :=
  s.each (upTo 4) fun s k => s.modDs (4 * u + k) fun d =>
    { d with integ := List.replicate d.cfg.order 0, comb := List.replicate d.cfg.order 0, settle := d.cfg.order, out := none }

/-- Nanosecond count of the latest tick. -/
def State.tickNs (s : State) : Nat := s.rd64 Reg.FRAME_TICK_NS_LO.TICK_NS Reg.FRAME_TICK_NS_HI.TICK_NS

/-- At T_SAMPLE the latest output of each channel goes into the frame image (R240). -/
def State.sampleDs (s : State) : State :=
  s.each (upTo (4 * s.silicon.variant.drives)) fun s k =>
    match (s.dsCh k).out with
    | some o => s.putSlot (256 + k) { o with tNs := o.tNs - s.tickNs }
    | none => s.putSlot (256 + k) default

/-- T_SAMPLE. -/
def execTSample (t : Nat) (s : State) : Host.Outcome State Fault Refusal :=
  let s := s.elapse t
  done (if s.ticking then s.sampleDs else s)

/-- SEQ_EN takes effect at a tick, and the slots of the next frame image are zero (R230, R234, R237). -/
def State.adcTick (s : State) : State :=
  let s := { s with adc := { s.adc with slots := [] } }
  s.each (upTo 8) fun s c =>
    let on := hasBit (s.rd Reg.ADC_CTRL.SEQ_EN) c
    s.modSar c fun v => if on && !v.running then { v with running := true, lastInput := none } else { v with running := on }

/-- ADC_REF.EN from 0 to 1 starts the 1.5 ms of R228. -/
def State.refEnable (s : State) : State :=
  if s.on Reg.ADC_REF.EN ∨ s.power.analogOff then s
  else
    let s := { s with adc := { s.adc with refSince := s.time.ns } }
    s.wr Reg.ADC_REF.EN 1

/-- EN cleared: the buffer is off. -/
def State.refDisable (s : State) : State := (s.wr Reg.ADC_REF.EN 0).wr Reg.ADC_REF.READY 0

/-- ADC_REF_ENABLE. -/
def execAdcRefEnable (t : Nat) (s : State) : Host.Outcome State Fault Refusal := done (s.elapse t).refEnable

/-- READY 1.5 ms after the enable (R228). -/
def State.refReady (s : State) : State :=
  if s.on Reg.ADC_REF.EN && !s.on Reg.ADC_REF.READY && decide (s.adc.refSince + 1500000 ≤ s.time.ns) then
    (s.wr Reg.ADC_REF.READY 1).wr Reg.ADC_EVENT.REF_READY 1
  else s

/-- ADC_REF_READY. -/
def execAdcRefReady (t : Nat) (s : State) : Host.Outcome State Fault Refusal := done (s.elapse t).refReady

/-- A housekeeping round starts (R241): from step 4 of kick-off, in RUN and in HOLD. -/
def State.hkStart (s : State) : State :=
  if [stKickOff, stRun, stHold].contains s.device && !s.power.held then
    { s with adc := { s.adc with hkStart := some s.count } }
  else s

/-- HK_ROUND_START. -/
def execHkRoundStart (t : Nat) (s : State) : Host.Outcome State Fault Refusal := done (s.elapse t).hkStart

/-- One reading of a round (R241, R242): its register, HK_FLAG and SENSOR when it becomes invalid. -/
def State.hkItem (s : State) (i : Nat) (r : Nat × Bool × Bool) : State :=
  let temp := decide (i < 20)
  let unit := if 14 ≤ i ∧ i ≤ 17 then some (i - 14) else if 40 ≤ i then some (i - 40) else none
  let away := match unit with
    | some u => decide (s.silicon.variant.drives ≤ u) || !s.on Reg.DRV_STATUS.LINK u
    | none => false
  let v := if temp then r.1 % 4096 else r.1
  let range := temp && (decide (v < 72) || decide (1912 < v))
  let bad := temp && !away && (r.2.1 || r.2.2 || range)
  let valid := !bad && !away
  let s := s.when (s.on Reg.ADC_HK.VALID i && !valid) (·.wr Reg.ADC_EVENT.HK_FLAG 1)
  let s := s.when (bad && !hasBit s.power.sensorBad i) (·.raise 5 i)
  let s := { s with power := { s.power with sensorBad := if bad then setBit s.power.sensorBad i else clrBit s.power.sensorBad i } }
  let s := (s.wr Reg.ADC_HK.VALUE v i).wr Reg.ADC_HK.VALID (b01 valid) i
  ((s.wr Reg.ADC_HK.OPEN (b01 (temp && r.2.1)) i).wr Reg.ADC_HK.SHORT (b01 (temp && r.2.2)) i).wr Reg.ADC_HK.RANGE (b01 range) i

/-- The reference is judged on every round (R229). -/
def State.hkReference (s : State) : State :=
  let v := s.rd Reg.ADC_HK.VALUE 37
  if v < 4076 ∨ 4116 < v then
    let s := { s with adc := { s.adc with refGood := 0 } }
    if s.on Reg.ADC_REF.FAULT then s else ((s.wr Reg.ADC_REF.FAULT 1).wr Reg.ADC_EVENT.REF_FAULT 1).raise 32 0
  else
    let g := s.adc.refGood + 1
    let s := { s with adc := { s.adc with refGood := g } }
    if 2 ≤ g then s.wr Reg.ADC_REF.FAULT 0 else s

/-- The readings of a round that completes (R241, R242, R229). -/
def State.hkReadings (s : State) (rs : List (Nat × Bool × Bool)) : State :=
  match s.adc.hkStart with
  | none => s
  | some at_ =>
    let s := s.each (upTo 44) fun s i => s.hkItem i (rs.getD i (0, false, false))
    let s := { s with adc := { s.adc with hkStart := none, hkDone := at_ } }
    (s.bump Reg.ADC_HK_ROUND.COUNT).hkReference

/-- HK_POST: at T_FREEZE the latest completed round goes into the frame image (R241). -/
def State.hkPost (s : State) : State :=
  let word := fun i => s.rd Reg.ADC_HK.VALUE i + 65536 * s.rd Reg.ADC_HK.VALID i + 131072 * s.rd Reg.ADC_HK.OPEN i
    + 262144 * s.rd Reg.ADC_HK.SHORT i + 524288 * s.rd Reg.ADC_HK.RANGE i
  { s with adc := { s.adc with posted := (upTo 44).map word, postedAt := s.adc.hkDone, postedNo := s.rd Reg.ADC_HK_ROUND.COUNT } }

/-- The ADC section in force at commit (R228, R235, R243): the first burst begins with a mux change (R234), every window state is IN
(R236), filters start from zero with no output yet (R238 to R240). -/
def State.commitAdc (s : State) (c : AdcCfg) : State :=
  let s := s.each (upTo 8) fun s k =>
    let es := c.entries.getD k []
    let s := s.wr Reg.ADC_SEQ_CTRL.LEN (c.lens.getD k 0) k
    let s := s.writeSar k ⟨es, [], c.inputs⟩
    let s := s.modSar k fun _ => { (default : AdcConv) with entries := es, rest := (s.stagedSar k).rest, inputs := c.inputs }
    s.planBurst k
  let s := s.each (upTo 16) fun s k =>
    let d := c.ds.getD k default
    (s.writeDs k d).modDs k fun _ =>
      { (default : DsSt) with cfg := d, settle := d.order, integ := List.replicate d.order 0, comb := List.replicate d.order 0 }
  let en := (upTo 8).foldl (fun w k => if c.seqEn.getD k false then setBit w k else w) 0
  let s := s.wr Reg.ADC_CTRL.SEQ_EN en
  let src := (upTo 12).foldl (fun t a => if c.armSrc.getD a 0xFFFF = 0xFFFF then t else Tbl.put 0 t a (c.armSrc.getD a 0 + 1)) []
  let s := { s with adc := { s.adc with inputs := c.inputs, armSrc := src } }
  let s := (s.wr Reg.ADC_HK_DIODE_CFG0.IDEALITY (c.diodes.getD 0 4136)).wr Reg.ADC_HK_DIODE_CFG1.IDEALITY (c.diodes.getD 1 4136)
  let s := s.wr Reg.ADC_REF.AUTO (b01 c.refAuto)
  s.when c.refAuto (·.refEnable)

/-- The SAR slot that gives an arm its current, where the ADC section assigns one (R134, R237). -/
def State.armSlot (s : State) (a : Nat) : Option AdcSlot :=
  match Tbl.look 0 s.adc.armSrc a with
  | 0 => none
  | n + 1 => some (Tbl.look default s.adc.slots (32 * (n / 256 % 8) + n % 32))

end Sys2Proof.Machine
end

