-- ==== Sys2Proof/Machine/Crypto.lean ====
section
/-! DEFINITION. The two algorithms that R78 names and does not spell out: SHA-384 over bytes and ECDSA P-384 verification over
numbers. PRESUMED: both are taken from their public standards (FIPS 180-4 and FIPS 186-5), as log entry 8 of notes/assumptions says. -/

namespace Sys2Proof.Machine

/-- Addition of 64-bit words. -/
def add64 (a b : Nat) : Nat := (a + b) % 2 ^ 64

/-- A 64-bit word turned right by n bits. -/
def rotr64 (x n : Nat) : Nat := x / 2 ^ n + (x % 2 ^ n) * 2 ^ (64 - n)

/-- The round constants of SHA-384: the first 64 bits of the fractions of the cube roots of the first 80 primes. -/
def shaK0 : List Nat := [0x428a2f98d728ae22, 0x7137449123ef65cd, 0xb5c0fbcfec4d3b2f, 0xe9b5dba58189dbbc, 0x3956c25bf348b538, 0x59f111f1b605d019, 0x923f82a4af194f9b, 0xab1c5ed5da6d8118, 0xd807aa98a3030242, 0x12835b0145706fbe]
def shaK1 : List Nat := [0x243185be4ee4b28c, 0x550c7dc3d5ffb4e2, 0x72be5d74f27b896f, 0x80deb1fe3b1696b1, 0x9bdc06a725c71235, 0xc19bf174cf692694, 0xe49b69c19ef14ad2, 0xefbe4786384f25e3, 0x0fc19dc68b8cd5b5, 0x240ca1cc77ac9c65]
def shaK2 : List Nat := [0x2de92c6f592b0275, 0x4a7484aa6ea6e483, 0x5cb0a9dcbd41fbd4, 0x76f988da831153b5, 0x983e5152ee66dfab, 0xa831c66d2db43210, 0xb00327c898fb213f, 0xbf597fc7beef0ee4, 0xc6e00bf33da88fc2, 0xd5a79147930aa725]
def shaK3 : List Nat := [0x06ca6351e003826f, 0x142929670a0e6e70, 0x27b70a8546d22ffc, 0x2e1b21385c26c926, 0x4d2c6dfc5ac42aed, 0x53380d139d95b3df, 0x650a73548baf63de, 0x766a0abb3c77b2a8, 0x81c2c92e47edaee6, 0x92722c851482353b]
def shaK4 : List Nat := [0xa2bfe8a14cf10364, 0xa81a664bbc423001, 0xc24b8b70d0f89791, 0xc76c51a30654be30, 0xd192e819d6ef5218, 0xd69906245565a910, 0xf40e35855771202a, 0x106aa07032bbd1b8, 0x19a4c116b8d2d0c8, 0x1e376c085141ab53]
def shaK5 : List Nat := [0x2748774cdf8eeb99, 0x34b0bcb5e19b48a8, 0x391c0cb3c5c95a63, 0x4ed8aa4ae3418acb, 0x5b9cca4f7763e373, 0x682e6ff3d6b2b8a3, 0x748f82ee5defb2fc, 0x78a5636f43172f60, 0x84c87814a1f0ab72, 0x8cc702081a6439ec]
def shaK6 : List Nat := [0x90befffa23631e28, 0xa4506cebde82bde9, 0xbef9a3f7b2c67915, 0xc67178f2e372532b, 0xca273eceea26619c, 0xd186b8c721c0c207, 0xeada7dd6cde0eb1e, 0xf57d4f7fee6ed178, 0x06f067aa72176fba, 0x0a637dc5a2c898a6]
def shaK7 : List Nat := [0x113f9804bef90dae, 0x1b710b35131c471b, 0x28db77f523047d84, 0x32caab7b40c72493, 0x3c9ebe0a15c9bebc, 0x431d67c49c100d4c, 0x4cc5d4becb3e42b6, 0x597f299cfc657e2a, 0x5fcb6fab3ad6faec, 0x6c44198c4a475817]
def shaK : List Nat := shaK0 ++ shaK1 ++ shaK2 ++ shaK3 ++ shaK4 ++ shaK5 ++ shaK6 ++ shaK7

/-- The initial hash value of SHA-384. -/
def shaIv : List Nat := [0xcbbb9d5dc1059ed8, 0x629a292a367cd507, 0x9159015a3070dd17, 0x152fecd8f70e5939, 0x67332667ffc00b31, 0x8eb44a8768581511, 0xdb0c2e0d64f98fa7, 0x47b5481dbefa4fa4]

/-- The message schedule grown by one word: `w` holds the words so far, newest first. -/
def shaGrow (w : List Nat) : List Nat :=
  let x := w.getD 14 0
  let y := w.getD 1 0
  let s0 := (rotr64 x 1 ^^^ rotr64 x 8) ^^^ (x / 2 ^ 7)
  let s1 := (rotr64 y 19 ^^^ rotr64 y 61) ^^^ (y / 2 ^ 6)
  (w.getD 15 0 + s0 + w.getD 6 0 + s1) % 2 ^ 64 :: w

/-- The schedule grown by `n` words. -/
def shaSchedule : Nat → List Nat → List Nat
  | 0, w => w
  | n + 1, w => shaSchedule n (shaGrow w)

/-- One round: the eight working words with round constant `k` and schedule word `w`. -/
def shaRound (v : List Nat) (p : Nat × Nat) : List Nat :=
  match v with
  | [a, b, c, d, e, f, g, h] =>
    let s1 := (rotr64 e 14 ^^^ rotr64 e 18) ^^^ rotr64 e 41
    let ch := (e &&& f) ^^^ ((2 ^ 64 - 1 - e) &&& g)
    let t1 := h + s1 + ch + p.1 + p.2
    let s0 := (rotr64 a 28 ^^^ rotr64 a 34) ^^^ rotr64 a 39
    let mj := ((a &&& b) ^^^ (a &&& c)) ^^^ (b &&& c)
    [add64 t1 (s0 + mj), a, b, c, add64 d t1, e, f, g]
  | _ => v

/-- The big-endian number of a byte list. -/
def beNat (b : List Byte) : Nat := b.foldl (fun n x => n * 256 + x.toNat) 0

/-- One block of 128 bytes. -/
def shaBlock (h : List Nat) (b : List Byte) : List Nat :=
  let w := shaSchedule 64 ((upTo 16).map fun i => beNat (slice b (8 * i) 8)).reverse
  let v := (shaK.zip w.reverse).foldl shaRound h
  (h.zip v).map fun p => add64 p.1 p.2

/-- The blocks of a padded message, one after the other. -/
def shaBlocks : Nat → List Nat → List Byte → List Nat
  | 0, h, _ => h
  | n + 1, h, b => shaBlocks n (shaBlock h (b.take 128)) (b.drop 128)

/-- The padding of an `n`-byte message: 80h, zeros, and its length in bits as a 16-byte big-endian number. -/
def shaPad (n : Nat) : List Byte := 0x80 :: List.replicate ((239 - n % 128) % 128) 0 ++ beBytes 16 (8 * n)

/-- SHA-384 of a byte list, as a 384-bit number. -/
def sha384 (b : List Byte) : Nat :=
  let m := b ++ shaPad b.length
  ((shaBlocks (m.length / 128) shaIv m).take 6).foldl (fun n x => n * 2 ^ 64 + x) 0

/-- The prime of the curve P-384. -/
def p384 : Nat := 2 ^ 384 - 2 ^ 128 - 2 ^ 96 + 2 ^ 32 - 1

/-- The order of its base point. -/
def n384 : Nat := 0xffffffffffffffffffffffffffffffffffffffffffffffffc7634d81f4372ddf581a0db248b0a77aecec196accc52973

/-- The constant b of the curve y² = x³ − 3x + b. -/
def b384 : Nat := 0xb3312fa7e23ee7e4988e056be3f82d19181d9c6efe8141120314088f5013875ac656398d8a2ed19d2a85c8edd3ec2aef

/-- A point of the curve; none is the point at infinity. -/
abbrev Pt := Option (Nat × Nat)

/-- The base point. -/
def g384 : Pt := some (0xaa87ca22be8b05378eb1c71ef320ad746e1d3b628ba79b9859f741e082542a385502f25dbf55296c3a545e3872760ab7, 0x3617de4a96262c6f5d9e98bf9292dc29f8f41dbd289a147ce9da3113b5f0b8c00a60b1ce1d7e819d7a431d7c90ea0e5f)

/-- x^e modulo m, on the `fuel` low bits of e. -/
def powMod (m : Nat) : Nat → Nat → Nat → Nat
  | 0, _, _ => 1 % m
  | fuel + 1, x, e =>
    let r := powMod m fuel (x * x % m) (e / 2)
    if e % 2 = 1 then x * r % m else r

/-- The inverse of x modulo a prime m below 2^384. -/
def invMod (m x : Nat) : Nat := powMod m 384 (x % m) (m - 2)

/-- The sum of two points. -/
def ptAdd (a b : Pt) : Pt :=
  match a, b with
  | none, q => q
  | q, none => q
  | some (x1, y1), some (x2, y2) =>
    if x1 = x2 ∧ (y1 + y2) % p384 = 0 then none
    else
      let l := if x1 = x2 then (3 * x1 * x1 + p384 - 3) * invMod p384 (2 * y1) % p384
        else (y2 + p384 - y1) * invMod p384 (x2 + p384 - x1) % p384
      let x := (l * l + 2 * p384 - x1 - x2) % p384
      some (x, (l * (x1 + p384 - x) + p384 - y1) % p384)

/-- k times a point, on the `fuel` low bits of k. -/
def ptMul : Nat → Nat → Pt → Pt
  | 0, _, _ => none
  | fuel + 1, k, a =>
    let r := ptMul fuel (k / 2) (ptAdd a a)
    if k % 2 = 1 then ptAdd a r else r

/-- Whether an uncompressed SEC1 key (04h, X, Y) is a point of the curve. -/
def keyPoint (key : List Byte) : Pt :=
  let x := beNat (slice key 1 48)
  let y := beNat (slice key 49 48)
  if u8At key 0 = 4 ∧ x < p384 ∧ y < p384 ∧ (y * y + 3 * x) % p384 = (x * x * x + b384) % p384 then some (x, y) else none

/-- ECDSA P-384: whether (r, s) is a signature of the hash e under the key. -/
def ecdsaVerify (key : List Byte) (e r s : Nat) : Bool :=
  match keyPoint key with
  | none => false
  | some q =>
    if r = 0 ∨ n384 ≤ r ∨ s = 0 ∨ n384 ≤ s then false
    else
      let w := invMod n384 s
      match ptAdd (ptMul 384 (e * w % n384) g384) (ptMul 384 (r * w % n384) (some q)) with
      | none => false
      | some (x, _) => x % n384 == r

end Sys2Proof.Machine
end

