-- ==== Sys2Proof/Config.lean ====
section
/-! DEFINITION. The free values: what the spec leaves open and the device still produces. Nothing can evaluate one. -/

namespace Sys2Proof

/-- The n-th free value drawn: any number. A draw reads State.drawn and advances it (State.draw). DESIGN CHOICE, assumption 9. -/
opaque Config.freeValue : Nat → Nat

/-- The time in ns from a turn-off edge of a gate output until its gate has fallen below 2.0 V (R247), which the power stage sets: a
function of the output (8 × unit + 2 × leg, + 1 for a low side) and of the instant of the edge (assumption 17). -/
opaque Config.gateFall : Nat → Nat → Nat

/-- Where the staging area and the image copy lie in DRAM, by byte address: the spec places neither (R70, R24; assumption 18). -/
opaque Config.stagingAt : Nat
opaque Config.copyAt : Nat

/-- A byte of DRAM outside those areas (the recorder's, whose form the spec does not give): a function of its address and of the number
of units the recorder has written (LoadSt.written; assumption 18). -/
opaque Config.dramByte : Nat → Nat → BitVec 8

end Sys2Proof
end

