-- ==== Sys2Proof/Machine/Link.lean ====
section
/-! DEFINITION. The Mesia cell link (04_mesia_link.md): what each lane end serves, the timing of a lane end, the downlink trains,
calls and replies, breaks, the split index and its restore. -/

namespace Sys2Proof.Machine

/-- Split, gap and cells in force of chain c (R91). -/
def State.split (s : State) (c : Nat) : Nat := s.rd Reg.LANE_CHAIN.SPLIT (2 * c)
def State.gap (s : State) (c : Nat) : Nat := s.rd Reg.LANE_CHAIN.GAP (2 * c)
def State.chainCells (s : State) (c : Nat) : Nat := s.rd Reg.LANE_CHAIN.CELLS (2 * c)

/-- P: the nodes found by CALLUP, or the declared cells before any call has looped (R107, R108). -/
def State.phys (s : State) (c : Nat) : Nat :=
  let p := s.rd Reg.LANE_CHAIN.PHYS (2 * c)
  if p = 0 then s.chainCells c else p

/-- The number of cells a lane end serves (R91). -/
def State.servedCount (s : State) (lane : Nat) : Nat :=
  let c := lane / 2
  if lane % 2 = 0 then s.split c else s.chainCells c - (s.split c + s.gap c)

/-- The chain position of slot j, the j-th served position counted from the lane end (R101). -/
def State.slotPos (s : State) (lane j : Nat) : Nat :=
  if lane % 2 = 0 then j else s.chainCells (lane / 2) - 1 - j

/-- The served chain positions of a lane end, nearest first. -/
def State.served (s : State) (lane : Nat) : List Nat := (upTo (s.servedCount lane)).map (s.slotPos lane)

/-- The lane end that serves position h of chain c, if any (R91). -/
def State.servingLane (s : State) (c h : Nat) : Option Nat :=
  if h < s.split c then some (2 * c)
  else if s.split c + s.gap c ≤ h ∧ h < s.chainCells c then some (2 * c + 1)
  else none

/-- The end position of chain position h from a lane end (R90). -/
def State.endPos (s : State) (lane h : Nat) : Nat := if lane % 2 = 0 then h else s.phys (lane / 2) - 1 - h

/-- d(q) as the device uses it: the measured delay, or the bound of Table 04-6 where none is valid (R102). -/
def State.delay (s : State) (lane q : Nat) : Nat :=
  if q < 32 && s.on Reg.LANE_DELAY.VALID lane q then s.rd Reg.LANE_DELAY.D lane q else 1100 + 130 * q

/-- Rounded up to a multiple of 4. -/
def up4 (x : Int) : Int := -((-x).fdiv 4) * 4

/-- Up_base U of a lane end: T_SAMPLE + 100 − 16 plus the largest d(q_j) − 132 j, rounded up to 4 ns (R101). -/
def State.upBase (s : State) (lane : Nat) : Nat :=
  let m := s.servedCount lane
  if m = 0 then 0
  else
    let term := fun j => (s.delay lane (s.endPos lane (s.slotPos lane j)) : Int) - 132 * (j : Int)
    let worst := (upTo m).foldl (fun w j => max w (term j)) (term 0)
    (up4 ((s.tSample : Int) + 84 + worst)).toNat

/-- The lane end's delivery time: the greatest downlink delivery over its served positions (R100). -/
def State.delivery (s : State) (lane : Nat) : Nat :=
  let m := s.servedCount lane
  (upTo m).foldl (fun w j => max w (s.delay lane (s.endPos lane (s.slotPos lane j)) + 4 * (16 + 16 * (m - j)))) 0

/-- The completion time C of the uplink train (R101). -/
def State.completion (s : State) (lane : Nat) : Nat :=
  let m := s.servedCount lane
  if m = 0 then 0 else s.upBase lane + 32 + 132 * m

/-- Whether the predicted timing of a lane end misses a limit (R102). -/
def State.predictedLate (s : State) (lane : Nat) : Bool :=
  decide (s.tSample < s.delivery lane) || decide (s.tFreeze < s.completion lane)

/-- The onset of CHAIN_LATE on a lane: a contained fault and the lane event (R102). -/
def State.chainLate (s : State) (lane : Nat) : State :=
  let s := s.modLane lane fun l => { l with okRun := 0 }
  if s.on Reg.LANE_STATUS.CHAIN_LATE lane then s
  else (((s.wr Reg.LANE_STATUS.CHAIN_LATE 1 lane).wr Reg.LANE_EVENT.CHAIN_LATE 1 lane).raise 15 lane)

/-- What a lane end serves, in LANE_STATUS (R91). -/
def State.showServed (s : State) (lane : Nat) : State :=
  let m := s.servedCount lane
  (s.wr Reg.LANE_STATUS.SERVED m lane).wr Reg.LANE_STATUS.FIRST_Q (if m = 0 then 0 else s.endPos lane (s.slotPos lane 0)) lane

/-- The plan of a lane end after a change of split, gap, period or delays (R101, R102). -/
def State.planLane (s : State) (lane : Nat) : State :=
  let s := s.wr Reg.LANE_UPBASE.U (s.upBase lane) lane
  let s := (s.wr Reg.LANE_BUDGET.DELIVERY (s.delivery lane) lane).wr Reg.LANE_BUDGET.COMPLETION (s.completion lane) lane
  (s.showServed lane).when (s.predictedLate lane) (·.chainLate lane)

/-- Both lane ends of chain c planned again. -/
def State.planChain (s : State) (c : Nat) : State := (s.planLane (2 * c)).planLane (2 * c + 1)

/-- Whether every position has a valid d from a lane end (R109). -/
def State.allValid (s : State) (lane : Nat) : Bool :=
  (upTo (s.phys (lane / 2))).all fun q => decide (32 ≤ q) || s.on Reg.LANE_DELAY.VALID lane q

/-- LANE_STATUS.STATE from what the lane is: 0 not declared, 1 forced idle, 2 aligning, 3 CALLUP, 4 serving, 5 READY, 6 LOST. -/
def State.laneState (s : State) (lane : Nat) : Nat :=
  let l := s.lane lane
  if !s.laneDeclared lane then 0
  else if s.on Reg.LANE_CTRL.FORCE_IDLE lane then 1
  else if l.lost then 6
  else if !s.on Reg.LANE_STATUS.SYNC lane then 2
  else if l.allCall || l.sweep.isSome then 3
  else if s.allValid lane then 5
  else 4

/-- LANE_STATUS.STATE brought up to date. -/
def State.showLane (s : State) (lane : Nat) : State :=
  let st := s.laneState lane
  let s := s.when (decide (st = 5)) (·.modLane lane fun l => { l with up := true })
  s.wr Reg.LANE_STATUS.STATE st lane

/-- A sweep of a lane end is complete: it has come up, and is READY where every position has a valid d (R109). -/
def State.sweepDone (s : State) (lane : Nat) : State :=
  let s := (s.when (s.on Reg.LANE_STATUS.SYNC lane) (·.modLane lane fun l => { l with up := true })).showLane lane
  s.when (decide (s.laneState lane = 5)) (·.wr Reg.LANE_EVENT.READY 1 lane)

/-- The segment registers of chain c, which show segments 0 to 32 (R110). -/
def State.showDown (s : State) (c : Nat) : State :=
  let d := (s.chain c).down
  (s.wr Reg.LANE_SEGDOWN_LO.DOWN (d % 4294967296) (2 * c)).wr Reg.LANE_SEGDOWN_HI.DOWN (d / 4294967296 % 2) (2 * c)

/-- Whether a segment is down. -/
def State.isDown (s : State) (c seg : Nat) : Bool := hasBit (s.chain c).down seg

/-- A segment goes down: it stays down until a restore, and each break is a contained fault (R110, R111). -/
def State.segDown (s : State) (c seg : Nat) : State :=
  if s.isDown c seg then s
  else ((s.modChain c fun x => { x with down := setBit x.down seg }).showDown c).raise 14 c

/-- A lane becomes LOST (R89, R110). -/
def State.loseLane (s : State) (lane : Nat) : State :=
  let was := (s.lane lane).lost
  let s := s.modLane lane fun l => { l with lost := true, sweep := none, allCall := false }
  (s.when (!was) (·.wr Reg.LANE_EVENT.LOST 1 lane)).showLane lane

/-- A port bit of the fresh slot of cell n: some false where the slot reports the port out of sync. -/
def State.freshPort (s : State) (n bit : Nat) : Bool :=
  let c := s.cell n
  c.done && !hasBit (u8At c.slot 11) bit

/-- Whether the fresh slots or the lane ends report a segment down in this frame (R110). -/
def State.segReported (s : State) (cc : ChainCfg) (seg : Nat) : Bool :=
  let c := cc.chain
  let p := s.phys c
  let lead := fun lane => (s.lane lane).lost || (s.lane lane).dropped || s.on Reg.LANE_CTRL.FORCE_IDLE lane || (s.lane lane).sliceOut
  (seg == 0 && (lead (2 * c) || s.freshPort cc.base 0)) ||
  (seg == p && (lead (2 * c + 1) || (decide (p ≤ cc.cells) && decide (0 < p) && s.freshPort (cc.base + p - 1) 1))) ||
  (decide (0 < seg) && decide (seg < p) &&
    ((decide (seg ≤ cc.cells) && s.freshPort (cc.base + seg - 1) 1) ||
     (decide (seg < cc.cells) && s.freshPort (cc.base + seg) 0)))

/-- Where the run of served positions without a good slot begins at a lane end, if the farthest is missing (R110). -/
def State.missingFrom (s : State) (cc : ChainCfg) (lane : Nat) : Option Nat :=
  let m := s.servedCount lane
  let missing := fun j => !(s.cell (cc.base + s.slotPos lane j)).done
  if m = 0 ∨ !(s.lane lane).sent ∨ !missing (m - 1) then none
  else some (((upTo m).reverse.takeWhile missing).length |> fun n => m - n)

/-- The segment on the near side of slot j of a lane end. -/
def State.nearSegment (s : State) (lane j : Nat) : Nat :=
  if lane % 2 = 0 then j else s.phys (lane / 2) - s.endPos lane (s.slotPos lane j)

/-- The missing-run rule at one lane end (R110): the same run in two consecutive frames takes the near segment down. -/
def State.missingRun (s : State) (cc : ChainCfg) (lane : Nat) : State :=
  let now := s.missingFrom cc lane
  let was := (s.lane lane).missFrom
  let s := s.modLane lane fun l => { l with missFrom := now }
  match now with
  | some j => s.when (decide (was = some j)) (·.segDown cc.chain (s.nearSegment lane j))
  | none => s

/-- Split and gap that the down segments of a chain ask for (R111). -/
def State.wantedSplit (s : State) (cc : ChainCfg) : Nat × Nat :=
  let downs := (upTo 64).filter (s.isDown cc.chain)
  match downs with
  | [] => (cc.split, 0)
  | lo :: _ =>
    let a := min lo cc.cells
    let b := min (downs.getLastD lo) cc.cells
    (a, b - a)

/-- A move of split and gap decided at this freeze (R111, R112). -/
def State.moveSplit (s : State) (c : Nat) (w : Nat × Nat) : State :=
  if w = (s.split c, s.gap c) then s
  else
    let s := s.modChain c fun x => { x with next := some w, moving := 2 }
    (s.wr Reg.LANE_EVENT.MOVE 1 (2 * c)).wr Reg.LANE_STATUS.MOVING 1 (2 * c)

/-- Whether the restore conditions of R113 hold besides the quiet time. -/
def State.restorable (s : State) (c : Nat) : Bool :=
  s.on Reg.LANE_STATUS.SYNC (2 * c) && s.on Reg.LANE_STATUS.SYNC (2 * c + 1) && s.allValid (2 * c) && s.allValid (2 * c + 1)
    && decide (64 ≤ (s.chain c).quiet)

/-- A restore: the down segments are forgotten, and split and gap return to the CHAINS values (R113). -/
def State.restore (s : State) (cc : ChainCfg) : State :=
  let s := (s.modChain cc.chain fun x => { x with restoreRun := 0, down := 0 }).showDown cc.chain
  let s := s.modLane (2 * cc.chain) fun l => { l with lost := false }
  let s := s.modLane (2 * cc.chain + 1) fun l => { l with lost := false }
  ((s.moveSplit cc.chain (cc.split, 0)).showLane (2 * cc.chain)).showLane (2 * cc.chain + 1)

/-- Segments and a requested restore of one chain at T_FREEZE (R110 to R113). -/
def State.freezeChain (s : State) (cc : ChainCfg) : State :=
  let c := cc.chain
  let reported := (upTo (s.phys c + 1)).filter (s.segReported cc)
  let s := s.each reported fun s g => s.segDown c g
  let s := (s.missingRun cc (2 * c)).missingRun cc (2 * c + 1)
  let s := s.each [2 * c, 2 * c + 1] fun s n => s.modLane n fun l => { l with dropped := false }
  let s := s.modChain c fun x => { x with moving := x.moving - 1 }
  let s := s.when (decide ((s.chain c).moving = 0)) (·.wr Reg.LANE_STATUS.MOVING 0 (2 * c))
  let s := s.modChain c fun x => { x with quiet := if reported.isEmpty then x.quiet + 1 else 0 }
  let down := !(s.wantedSplit cc == (cc.split, 0)) || (upTo 64).any (s.isDown c)
  let ok := s.restorable c && down
  let s := s.modChain c fun x => { x with restoreRun := if ok then x.restoreRun + 1 else 0 }
  let asked := (s.chain c).restoreReq
  let s := s.modChain c fun x => { x with restoreReq := false }
  if asked && ok then s.restore cc else s.moveSplit c (s.wantedSplit cc)

/-- AUTO_RESTORE (R113): 1,000 consecutive frames that meet the conditions restore the chain by themselves. -/
def State.autoRestore (s : State) (cc : ChainCfg) : State :=
  if s.on Reg.LANE_CTRL.AUTO_RESTORE (2 * cc.chain) && decide (1000 ≤ (s.chain cc.chain).restoreRun) && s.restorable cc.chain
  then s.restore cc else s

/-- CHAIN_LATE of one lane end at the end of its frame's reception (R102): clears after 64 frames that meet the limits. -/
def State.freezeLane (s : State) (lane : Nat) : State :=
  let late := s.predictedLate lane
  let s := s.modLane lane fun l => { l with okRun := if late then 0 else l.okRun + 1 }
  let s := s.when late (·.chainLate lane)
  let s := s.when (!late && decide (64 ≤ (s.lane lane).okRun)) (·.wr Reg.LANE_STATUS.CHAIN_LATE 0 lane)
  s.when (s.on Reg.LANE_STATUS.CHAIN_LATE lane) (·.bump Reg.LANE_LATE.FRAMES 1 lane)

/-- A move decided at a freeze is in force once the cells have been frozen (R111, Table 04-10). -/
def State.takeMove (s : State) (cc : ChainCfg) : State :=
  let c := cc.chain
  match (s.chain c).next with
  | some (sp, g) =>
    let old := (s.split c, s.gap c)
    let s := (s.wr Reg.LANE_CHAIN.SPLIT sp (2 * c)).wr Reg.LANE_CHAIN.GAP g (2 * c)
    let s := s.modChain c fun x => { x with next := none, before := some old }
    let s := s.modLane (2 * c) fun l => { l with missFrom := none }
    let s := s.modLane (2 * c + 1) fun l => { l with missFrom := none }
    (s.showServed (2 * c)).showServed (2 * c + 1)
  | none => s

/-- The lane ends are planned again at the tick whose headers carry a move first (R111). -/
def State.tickChain (s : State) (cc : ChainCfg) : State :=
  if (s.chain cc.chain).before.isSome then (s.modChain cc.chain fun x => { x with before := none }).planChain cc.chain else s

/-- The lane end that serves position h in this frame's headers. -/
def State.frameServing (s : State) (cc : ChainCfg) (h : Nat) : Option Nat :=
  match (s.chain cc.chain).before with
  | some (sp, g) => if h < sp then some (2 * cc.chain) else if sp + g ≤ h ∧ h < cc.cells then some (2 * cc.chain + 1) else none
  | none => s.servingLane cc.chain h

/-- The 16 header bytes of a normal train (Table 04-2), the comma as its code BCh. -/
def State.headerBytes (s : State) (lane : Nat) (safeBlock : Bool) : List Byte :=
  let c := lane / 2
  let flags := 1 + 2 * b01 safeBlock + 4 * b01 (s.chain c).extra + 16 * (lane % 2)
  let body := [0] ++ leBytes 2 (s.frameNo % 65536) ++ leBytes 1 flags ++ leBytes 1 (s.split c) ++ leBytes 1 (s.gap c)
    ++ leBytes 1 (s.chainCells c) ++ leBytes 2 s.tSample ++ leBytes 2 s.tApply ++ leBytes 2 (s.rd Reg.LANE_UPBASE.U lane)
  [0xBC#8] ++ body ++ leBytes 2 (crc16 body)

/-- The 16 bytes of a downlink slot (Table 04-3). -/
def slotBytes (c : CellCmd) (delay pos : Nat) : List Byte :=
  let body := leBytes 1 (c.s0 + 4 * c.s1 + 16 * c.s2) ++ leBytes 1 (b01 c.bypass + 2 * b01 c.unblock + 4 * b01 c.clear)
    ++ leBytes 2 (c.t1.getD 0xFFFF) ++ leBytes 2 (c.t2.getD 0xFFFF) ++ leBytes 2 (unsigned 16 c.phase) ++ leBytes 2 delay
    ++ leBytes 1 pos ++ [0, 0, 0]
  body ++ leBytes 2 (crc16 body)

/-- The 16 header bytes of a CALLUP train (Table 04-2, R94, R106). -/
def State.callBytes (s : State) (lane target base : Nat) (safeBlock : Bool) : List Byte :=
  let c := lane / 2
  let body := [0] ++ leBytes 2 (s.frameNo % 65536) ++ leBytes 1 (8 + 2 * b01 safeBlock + 16 * (lane % 2)) ++ leBytes 1 (s.split c)
    ++ leBytes 1 (s.gap c) ++ leBytes 1 (s.chainCells c) ++ leBytes 1 target ++ leBytes 1 base
    ++ leBytes 1 s.cfg.limits.cellTimeout ++ [0] ++ [0, 0]
  [0xBC#8] ++ body ++ leBytes 2 (crc16 body)

/-- The base of a call (R106, R108): 0 from lane 2n; from lane 2n + 1, P − 1 (of a targeted one DEDUCED,
assumption 57); for an all-call that no call from lane 2n has looped before, cells − 1. -/
def State.callBase (s : State) (lane : Nat) (all : Bool) : Nat :=
  if lane % 2 = 0 then 0
  else if all && !s.on Reg.LANE_CHAIN.LOOPED (lane - 1) then s.chainCells (lane / 2) - 1
  else s.phys (lane / 2) - 1

/-- Whether the clock of PLL n runs (Table 18-5): 0 engines, 1 fabric, 2 SD. -/
def State.clocked (s : State) (n : Nat) : Bool := !hasBit s.power.lost n && !hasBit s.power.dead n

/-- Whether a lane transmitter is in electrical idle (R88): not declared, forced idle, or the device not in KICK-OFF, RUN or HOLD. On any
other line idle pairs stand whenever no train does. -/
def State.elecIdle (s : State) (lane : Nat) : Bool :=
  !s.laneDeclared lane || s.on Reg.LANE_CTRL.FORCE_IDLE lane || !(s.inKickOff || [stRun, stHold].contains s.device)

/-- Whether the device leaves its lanes to the partner of a pair: it sends idle pairs in place of trains (R216), calls among them
(DEDUCED, assumption 56). -/
def State.pairMute (s : State) : Bool := s.on Reg.REF_PAIR.ENABLED && !s.on Reg.REF_PAIR.HOLDS

/-- Whether a lane may send a train: not in electrical idle, with a lane slice in service and the fabric clock. -/
def State.laneSends (s : State) (lane : Nat) : Bool :=
  !s.elecIdle lane && !(s.lane lane).sliceOut && (s.sliceOf roLane lane).isSome && s.clocked 1

end Sys2Proof.Machine
end

