-- ==== Sys2Proof/Machine/Cells.lean ====
section
/-! DEFINITION. Cell supervision and the team sheet (05_team_sheet.md): cell states and their slots, identity calls and their
outcomes, the host's cell commands, and the checks of every rank window (R122). -/

namespace Sys2Proof.Machine

/-- Codes of Table 05-1. -/
def csAbsent : Nat := 1
def csPending : Nat := 2
def csRejected : Nat := 3
def csService : Nat := 4
def csOut : Nat := 5
def csBypassed : Nat := 6

/-- The state of cell n (Table 05-1). -/
def State.cstate (s : State) (n : Nat) : Nat := s.rd Reg.CELL_STATE.STATE n

/-- How many declared cells are in a state. -/
def State.countCells (s : State) (st : Nat) : Nat := (s.cellList.filter fun n => s.cstate n == st).length

/-- CELL_SUMMARY0 to 2 and CELL_PENDING_FIRST. -/
def State.summarise (s : State) : State :=
  let s := (s.wr Reg.CELL_SUMMARY0.SERVICE (s.countCells csService)).wr Reg.CELL_SUMMARY0.BYPASSED (s.countCells csBypassed)
  let s := (s.wr Reg.CELL_SUMMARY1.PENDING (s.countCells csPending)).wr Reg.CELL_SUMMARY1.OUT (s.countCells csOut)
  let s := (s.wr Reg.CELL_SUMMARY2.ABSENT (s.countCells csAbsent)).wr Reg.CELL_SUMMARY2.REJECTED (s.countCells csRejected)
  let first := (upTo 1536).find? fun n => s.cstate n == csPending
  s.wr Reg.CELL_PENDING_FIRST.CELL (first.getD 0xFFFF)

/-- A cell enters a state, with a bypass reason where it has one: the registers, the events and the faults of the entry (R117,
R122, Table 05-5). -/
def State.setCell (s : State) (n st reason : Nat) : State :=
  if s.cstate n = st then s
  else
    let s := (s.wr Reg.CELL_STATE.STATE st n).wr Reg.CELL_STATE.REASON reason n
    let s := s.wr Reg.CELL_STATE_FRAME.FRAME s.frameNo n
    let s := ((s.wr Reg.CELL_LAST.CELL n).wr Reg.CELL_LAST.STATE st).wr Reg.CELL_LAST.REASON reason
    let s := s.when (st == csPending) (·.wr Reg.CELL_EVENT.PENDING 1)
    let s := s.when (st == csRejected) fun s => (s.wr Reg.CELL_EVENT.REJECTED 1).raise 10 n
    let s := s.when (st == csOut) fun s => (s.wr Reg.CELL_EVENT.OUT 1).raise 11 n
    let s := s.when (st == csBypassed) fun s => (s.wr Reg.CELL_EVENT.BYPASS 1).raise 9 n
    s.when (st != csBypassed) (·.wr Reg.CELL_STATE.CONFIRMED 0 n)

/-- A move to BYPASSED with its reason (R122): a bypass with reason NODE is confirmed at once (R127). -/
def State.bypass (s : State) (n reason : Nat) : State :=
  let s := s.setCell n csBypassed reason
  let s := s.wr Reg.CELL_STATE.CONFIRMED (b01 (reason == 1)) n
  s.modCell n fun c => { c with bypAt := none, bypOpen := 0, bypTold := false }

/-- Admission of the found identity (R120). -/
def State.admitCell (s : State) (n ident : Nat) : State :=
  let changed := s.rd64 Reg.TS_RECORDED_LO.IDENTITY Reg.TS_RECORDED_HI.IDENTITY n != ident
  let s := s.wr64 Reg.TS_RECORDED_LO.IDENTITY Reg.TS_RECORDED_HI.IDENTITY ident n
  let s := s.when changed (·.bump Reg.CELL_COUNT.SWAPS 1 n)
  let s := (s.wr Reg.CELL_FAULT.SEEN 0 n).wr Reg.CELL_FAULT.TOGGLES 0 n
  let s := s.modCell n fun c =>
    { c with toggles := [], th1 := 0, th2 := 0, admitted := true, clearReq := true, appear := true }
  s.setCell n csService 0

/-- The outcome of an identity call (Table 05-2). A BYPASSED cell whose node shows neither a restart nor another identity stays BYPASSED
(R115). -/
def State.applyReply (s : State) (n : Nat) (r : Reply) : State :=
  let x := r.ident
  let st := s.cstate n
  let res := fun (s : State) c => s.wr Reg.TS_CALL.RESULT c n
  match s.cellCfg n, s.chainOfCell n with
  | some cc, some ch =>
    let y := s.rd64 Reg.TS_RECORDED_LO.IDENTITY Reg.TS_RECORDED_HI.IDENTITY n
    let stays := st == csBypassed && x == y && !r.restart
    if r.cls ≠ cc.cls then (res s 3).when (!stays) (·.setCell n csRejected 0)
    else if r.conflict then (res s 5).when (!stays) (·.setCell n csRejected 0)
    else
      let s := if y = 0 then (res s 2).wr64 Reg.TS_RECORDED_LO.IDENTITY Reg.TS_RECORDED_HI.IDENTITY x n
        else if x = y then res s 0 else res s 1
      if y = 0 ∨ x = y then
        if st = csAbsent ∨ st = csRejected ∨ st = csPending then s.setCell n csService 0
        else if st = csBypassed ∧ r.restart then s.setCell n csPending 0
        else s
      else if ch.admission = 0 then (s.admitCell n x).wr Reg.CELL_EVENT.SWAP 1
      else s.setCell n csPending 0
  | _, _ => s

/-- A call of position h from a lane end joins the chain's queue; a trigger for a queued call merges into it (R116). -/
def State.queueCall (s : State) (cc : ChainCfg) (h lane : Nat) (restart : Bool) : State :=
  let n := cc.base + h
  let q := (s.chain cc.chain).calls
  let s := s.wr Reg.CELL_STATE.CALL_QUEUED 1 n
  if q.any fun c => c.h == h && c.lane == lane then
    s.modChain cc.chain fun x =>
      { x with calls := q.map fun c => if c.h == h && c.lane == lane then { c with restart := c.restart || restart } else c }
  else s.modChain cc.chain fun x => { x with calls := q ++ [⟨h, lane, restart, 0, s.frameNo⟩] }

/-- CALL_QUEUED of position h follows the queue. -/
def State.showQueued (s : State) (cc : ChainCfg) (h : Nat) : State :=
  s.wr Reg.CELL_STATE.CALL_QUEUED (b01 ((s.chain cc.chain).calls.any (·.h == h))) (cc.base + h)

/-- A good reply of a declared position is entered in the team sheet and waits for the rank window (R107, R117). -/
def State.goodReply (s : State) (cc : ChainCfg) (lane h q : Nat) (ident : Bool) (b : List Byte) : State :=
  let n := cc.base + h
  let x := u64At b 8
  let s := s.wr64 Reg.TS_FOUND_LO.IDENTITY Reg.TS_FOUND_HI.IDENTITY x n
  let s := (s.wr Reg.TS_INFO.CLASS (u8At b 4) n).wr Reg.TS_INFO.BYPASS_FITTED (bitOf (u16At b 16) 0) n
  let s := s.wr Reg.TS_INFO.FIRMWARE (u16At b 6) n
  let s := if lane % 2 = 0 then (s.wr Reg.TS_CALL.Q_EVEN q n).wr Reg.TS_CALL.VALID_EVEN 1 n
    else (s.wr Reg.TS_CALL.Q_ODD q n).wr Reg.TS_CALL.VALID_ODD 1 n
  let s := ((s.bump Reg.TS_CALL.REPLIES 1 n).wr Reg.TS_CALL_FRAME.FRAME s.frameNo n).wr Reg.CELL_STATE.NO_REPLY 0 n
  let s := s.modCell n fun c => if lane % 2 = 0 then { c with xEven := some x } else { c with xOdd := some x }
  let c := s.cell n
  let conflict := match c.xEven, c.xOdd with
    | some a, some b => a != b
    | _, _ => false
  let here := fun (k : IdCall) => ident && k.h == h && k.lane == lane
  let restart := ((s.chain cc.chain).calls.filter here).any (·.restart)
  let s := s.modChain cc.chain fun ch => { ch with calls := ch.calls.filter fun k => !here k }
  let s := s.showQueued cc h
  s.modCell n fun c => { c with called := true, replies := c.replies ++ [⟨x, u8At b 4, restart, conflict⟩] }

/-- Unrostered nodes on a chain: HOLD, one event and one contained fault per chain (R121). -/
def State.foundExtra (s : State) (c : Nat) : State :=
  if (s.chain c).extra then s
  else
    let s := s.modChain c fun x => { x with extra := true }
    let s := if c < 32 then s.evBit Reg.CELL_UNROSTERED_LO.CHAINS c else s.evBit Reg.CELL_UNROSTERED_HI.CHAINS (c - 32)
    ((s.wr Reg.LANE_EVENT.UNROSTERED 1 (2 * c)).wr Reg.CELL_EVENT.UNROSTERED 1).raise 16 c

/-- What the cell commands execute to at a tick (Tables 05-3 and 05-4): the result code and the state. -/
def State.cellAdmit (s : State) (n ident : Nat) : Nat × State :=
  match s.cellCfg n, s.chainOfCell n with
  | some _, some ch =>
    if s.cstate n ≠ csPending ∨ (s.cell n).hostAdmit.isSome ∨ (s.cell n).hostBypass then (2, s)
    else if s.rd64 Reg.TS_FOUND_LO.IDENTITY Reg.TS_FOUND_HI.IDENTITY n ≠ ident then (3, s)
    else if (s.servingLane ch.chain (n - ch.base)).isNone then (4, s)
    else if !(s.cell n).fresh then (5, s)
    else (0, s.modCell n fun c => { c with hostAdmit := some ident })
  | _, _ => (1, s)

/-- CELL_BYPASS. -/
def State.cellBypass (s : State) (n : Nat) : Nat × State :=
  if (s.cellCfg n).isNone then (1, s)
  else if s.cstate n = csBypassed ∨ (s.cell n).hostBypass then (2, s)
  else (0, s.modCell n fun c => { c with hostBypass := true })

/-- FAULT_CLEAR asked of one cell. -/
def State.clearCell (s : State) (n : Nat) : State :=
  (s.wr Reg.CELL_FAULT.SEEN 0 n).modCell n fun c => { c with clearReq := true, appear := true }

/-- CELL_FAULT_CLEAR: FFFFh addresses every declared cell. -/
def State.cellFaultClear (s : State) (n : Nat) : Nat × State :=
  if n = 0xFFFF then (0, s.each s.cellList fun s n => s.clearCell n)
  else if (s.cellCfg n).isNone then (1, s)
  else (0, s.clearCell n)

/-- Rank-window step 1 (R122): the cell commands that executed at the tick. -/
def State.stepHost (s : State) (n : Nat) : State :=
  let c := s.cell n
  let s := match c.hostAdmit with
    | some x => s.admitCell n x
    | none => s
  let s := s.when c.hostBypass (·.bypass n 6)
  s.modCell n fun c => { c with hostAdmit := none, hostBypass := false }

/-- Rank-window step 2: the identity-call replies due. -/
def State.stepReplies (s : State) (n : Nat) : State :=
  let r := (s.cell n).replies
  (s.each r fun s r => s.applyReply n r).modCell n fun c => { c with replies := [] }

/-- The fault bits of a fresh slot recorded, with toggles and report-class events (R123, R124): the frame is a toggle frame where
the faults differ from the previous fresh slot's. -/
def State.stepFaults (s : State) (n : Nat) : State :=
  let c := s.cell n
  if !c.fresh then s
  else
    let f := u16At c.slot 12 % 256
    let s := (s.wr Reg.CELL_FAULT.REPORTED f n).wr Reg.CELL_FAULT.SEEN (s.rd Reg.CELL_FAULT.SEEN n ||| f) n
    let toggle := match c.prevFaults with
      | some p => p != f
      | none => false
    let new := fun b => hasBit f b && (c.appear || !hasBit (c.prevFaults.getD 0) b)
    let s := s.when (new 1) (·.raise 3 n)
    let s := s.when (new 6) (·.raise 3 n)
    let s := s.when (new 5) fun s => (s.wr Reg.CELL_STATE.NO_BYPASS 1 n).raise 12 n
    let s := s.modCell n fun c =>
      { c with prevFaults := some f, appear := false, toggles := if toggle then (s.frameNo :: c.toggles).take 9 else c.toggles }
    let recent := ((s.cell n).toggles.filter fun t => decide (frameDiff s.frameNo t < 1000)).length
    s.wr Reg.CELL_FAULT.TOGGLES (min recent 9) n

/-- Whether the cell is latched by R124: this is a toggle frame, and the eighth toggle frame before it lies within 1,000 frames. -/
def State.flaps (s : State) (n : Nat) : Bool :=
  let t := (s.cell n).toggles
  match t.head?, t[8]? with
  | some f, some f8 => f == s.frameNo && decide (frameDiff f f8 < 1000)
  | _, _ => false

/-- Rank-window step 3 (R122): the first removal check that holds moves the cell to BYPASSED. STALE acts at the freeze at which
stale_run reaches 3 (R51), and not before RUN (R71, DEDUCED, assumption 44): a run that reaches 3 in KICK-OFF and still lasts is judged in the first
rank window of RUN. -/
def State.stepRemoval (s : State) (ac : ArmCfg) (n : Nat) : State :=
  let c := s.cell n
  let st := u8At c.slot 10
  let f := u16At c.slot 12
  let kickOff := s.inKickOff
  let s := s.when (!kickOff) (·.modCell n fun c => { c with trip3 := false })
  if s.cstate n = csBypassed then s
  else if c.fresh && hasBit st 3 then s.bypass n 1
  else if c.trip3 && !kickOff then s.bypass n 2
  else if c.fresh && decide (ac.ovTrip < c.v) then s.bypass n 3
  else if c.fresh && (hasBit f 0 || hasBit f 2 || hasBit f 4 || hasBit f 7) then s.bypass n 4
  else if c.fresh && s.flaps n then s.bypass n 5
  else s

/-- Rank-window step 4: OT moves a SERVICE cell to OUT and back. -/
def State.stepOt (s : State) (n : Nat) : State :=
  let c := s.cell n
  let ot := hasBit (u16At c.slot 12) 3
  if !c.fresh then s
  else if s.cstate n = csService ∧ ot then s.setCell n csOut 0
  else if s.cstate n = csOut ∧ !ot then s.setCell n csService 0
  else s

/-- Rank-window step 5: bypasses confirmed, or told unconfirmed after eight fresh slots (R127). -/
def State.stepConfirm (s : State) (n : Nat) : State :=
  let c := s.cell n
  match c.bypAt with
  | some j =>
    if s.cstate n ≠ csBypassed ∨ !c.fresh ∨ s.on Reg.CELL_STATE.CONFIRMED n ∨ frameDiff s.frameNo j < 1 then s
    else if hasBit (u8At c.slot 10) 3 then s.wr Reg.CELL_STATE.CONFIRMED 1 n
    else
      let k := c.bypOpen + 1
      let s := s.modCell n fun c => { c with bypOpen := k, bypTold := c.bypTold || decide (8 ≤ k) }
      if 8 ≤ k ∧ !c.bypTold then (s.wr Reg.CELL_EVENT.UNCONFIRMED 1).raise 13 n else s
  | none => s

/-- The anchor of the thermal model (R129): the reading of a fresh slot, the higher or the only valid one of a DAB cell, else
held with T_INVALID. -/
def State.stepAnchor (s : State) (cls n : Nat) : State :=
  let c := s.cell n
  let ok := fun (x : Nat) => x != 0 && x != 0xFFF
  let a := u16At c.slot 8 % 4096
  let b := u16At c.slot 22 % 4096
  let r := if !c.fresh then none
    else if cls = 2 then
      (if ok a && ok b then some (max a b) else if ok a then some a else if ok b then some b else none)
    else if ok a then some a else none
  match r with
  | some x => ((s.wr Reg.CELL_TEMP.T_HS x n).wr Reg.CELL_STATE.T_INVALID 0 n).modCell n fun c => { c with anchor := x }
  | none => s.wr Reg.CELL_STATE.T_INVALID 1 n

/-- The steps of R122 in order over all cells of an arm. -/
def State.checkArm (s : State) (ac : ArmCfg) : State :=
  let l := s.armCells ac.arm
  let s := s.each l fun s n => s.stepHost n
  let s := s.each l fun s n => s.stepReplies n
  let s := s.each l fun s n => s.stepFaults n
  let s := s.each l fun s n => s.stepRemoval ac n
  let s := s.each l fun s n => s.stepOt n
  let s := s.each l fun s n => s.stepConfirm n
  s.each l fun s n => s.stepAnchor (match s.cellCfg n with | some cc => cc.cls | none => 0) n

/-- Whether the slot of cell n carries UNBLOCK (R128). -/
def State.unblocks (s : State) (n : Nat) : Bool :=
  let st := s.cstate n
  let c := s.cell n
  (st == csService || st == csOut) && (c.admitted || (!c.slot.isEmpty && hasBit (u8At c.slot 10) 4))

/-- state0 of a cell that ranking does not command (Table 05-1): ZERO, or BLOCK while its converter is blocked. -/
def State.tableState (s : State) (n : Nat) (deblocked : Bool) : Nat :=
  if s.cstate n = csBypassed then 0 else if deblocked then 0 else 3

end Sys2Proof.Machine
end

