-- ==== Sys2Proof/Machine/Rank.lean ====
section
/-! DEFINITION. Arm modulation and histogram ranking (06_ranking_modulation.md): the rank window of one arm, from the thermal update
to the slots and the summary, R130 to R147. The pseudocode of the chapter is followed line by line; every cell of an arm stands
in a list in ascending arm-local index j (R131). -/

namespace Sys2Proof.Machine

/-- A free value of the spec: the next one of Config.freeValue. -/
def State.draw (s : State) : Nat × State := (Config.freeValue s.drawn, { s with drawn := s.drawn + 1 })

/-- A value where the spec gives one, else a free value. -/
def State.free (s : State) (o : Option Nat) : Nat × State :=
  match o with
  | some v => (v, s)
  | none => s.draw

/-- Switch states of R95. -/
def stZero : Nat := 0
def stPos : Nat := 1
def stNeg : Nat := 2
def stBlock : Nat := 3

/-- The state a command leaves in force at the end of its frame (R134). -/
def CellCmd.final (c : CellCmd) : Nat :=
  match c.t1, c.t2 with
  | none, _ => c.s0
  | some _, none => c.s1
  | some _, some _ => c.s2

/-- The state changes of a command, as instants after its T_APPLY, from the state `fin` before it (R134). -/
def CellCmd.changes (c : CellCmd) (fin : Nat) : List Nat :=
  let a := if c.s0 ≠ fin then [0] else []
  match c.t1 with
  | none => a
  | some t1 =>
    let b := if c.s1 ≠ c.s0 then [t1] else []
    match c.t2 with
    | none => a ++ b
    | some t2 => a ++ b ++ (if c.s2 ≠ c.s1 then [t2] else [])

/-- The last transition relative to the next T_APPLY, which comes `span` later, from that before the command (R134). -/
def CellCmd.lastAfter (c : CellCmd) (fin : Nat) (last : Int) (span : Nat) : Int :=
  match (c.changes fin).getLast? with
  | some t => max ((t : Int) - span) (-65536)
  | none => max (last - span) (-65536)

/-- A command without the edges that would fall at or after the next T_APPLY, `span` later (R95). -/
def CellCmd.within (c : CellCmd) (span : Nat) : CellCmd :=
  match c.t1, c.t2 with
  | some t1, t2 =>
    if span ≤ t1 then { c with t1 := none, t2 := none, s1 := c.s0, s2 := c.s0 }
    else if (t2.map fun t => decide (span ≤ t)).getD false then { c with t2 := none, s2 := c.s1 }
    else c
  | none, _ => c

/-- T_APPLY of a frame of period p. -/
def State.applyAt (s : State) (p : Nat) : Nat := p * s.rd Reg.FRAME_PHASE0.APPLY / 10000

/-- From the T_APPLY of a frame of period p to that of the next frame, of period q (R42). -/
def State.applySpan (s : State) (p q : Nat) : Nat := p + s.applyAt q - s.applyAt p

/-- From T_APPLY of this frame to that of the next, whose period may be set already (R39). -/
def State.spanNow (s : State) : Nat := s.applySpan s.period (s.fr.nextPeriod.getD s.period)

/-- What one ns in a state counts as insertion (R146). -/
def stateSign (st cls : Nat) (i : Int) : Int :=
  if st = stPos then 1
  else if st = stNeg then -1
  else if st = stBlock then (if cls = 0 then (if i > 0 then 1 else 0) else i.sign)
  else 0

/-- ti: the signed insertion time of a command over its frame (R146). -/
def CellCmd.insertion (c : CellCmd) (cls : Nat) (i : Int) (period : Nat) : Int :=
  let w := fun st => stateSign st cls i
  match c.t1 with
  | none => w c.s0 * period
  | some t1 =>
    let a := min t1 period
    match c.t2 with
    | none => w c.s0 * a + w c.s1 * ((period : Int) - a)
    | some t2 =>
      let b := max a (min t2 period)
      w c.s0 * a + w c.s1 * ((b : Int) - a) + w c.s2 * ((period : Int) - b)

/-- dv(i, t) of R146. -/
def dv (capInv : Nat) (i t : Int) : Int := asr (asr (i * capInv) 20 * t) 20

/-- One evaluation of the two-node thermal model (R145): the new nodes and the junction estimate. -/
def thermal (ac : ArmCfg) (cls : Nat) (ntr : Nat) (i : Int) (period alpha1 alpha2 anchor : Nat) (th1 th2 : Int) : Int × Int × Nat :=
  let ia : Int := i.natAbs
  let ndev : Int := if cls = 0 then 1 else 2
  let pc := (ia * ac.vOn * ndev).tdiv 1000
  let ps := ((ac.eSw : Int) * ia * ntr * 1000).tdiv period
  let pw := sat32 (pc + ps)
  let ss1 := (pw * ac.r1).tdiv 100
  let ss2 := (pw * ac.r2).tdiv 100
  let a := th1 + asr ((ss1 - th1) * alpha1) 24
  let b := th2 + asr ((ss2 - th2) * alpha2) 24
  (a, b, (min ((anchor : Int) + (a + b).tdiv 125000) 0xFFE).toNat)

/-- alpha_n of R144. -/
def alphaOf (period tau : Nat) : Nat := (period * 2 ^ 24) / (period + 100000 * tau)

/-- v_ref of R133 at the angle in use. -/
def vRef (b : RefBlock) (theta : Nat) : Int := sat32 (b.vdc + asr (b.vac * cosQ30 theta) 30 + b.vextra)

/-- One cell as the ranking sees it. -/
structure RankCell where
  n : Nat
  j : Nat
  cls : Nat
  st : Nat
  v : Nat
  tj : Nat
  fin : Nat
  last : Int
  elig : Bool
  excl : Bool
  deriving DecidableEq, Repr, Inhabited

/-- The level of R136: n, vmean, n_full, frac, need, shortfall. -/
structure Level where
  n : Nat
  vmean : Nat
  nFull : Nat
  frac : Nat
  need : Nat
  short : Nat
  deriving DecidableEq, Repr, Inhabited

/-- The level computation of R136. -/
def level (cells : List RankCell) (vref : Int) : Level :=
  let el := cells.filter (·.elig)
  let n := el.length
  let vmean := if n = 0 then 0 else (el.map (·.v)).sum / n
  if vmean = 0 then ⟨n, vmean, 0, 0, 0, if vref ≠ 0 then 0xFFFF else 0⟩
  else
    let x := min (vref.natAbs * 65536 / vmean) (513 * 65536)
    let nFull := x / 65536
    let frac := x % 65536
    let need := nFull + b01 (frac ≠ 0)
    if n < need then ⟨n, vmean, n, 0, n, need - n⟩ else ⟨n, vmean, nFull, frac, need, 0⟩

/-- What the histogram of R137 selects. -/
structure Selection where
  sel : List Nat             -- arm-local indices to insert
  ptr : Nat
  last : Nat
  tjMean : Nat
  deriving DecidableEq, Repr, Inhabited

/-- The threshold bin of R137: `cum` cells lie in the bins below `t`. -/
def threshold (bins : List Nat) (need : Nat) : Nat → Nat → Nat → Nat × Nat
  | 0, t, cum => (t, cum)
  | k + 1, t, cum =>
    let c := (bins.filter (· == t)).length
    if cum + c < need then threshold bins need k (t + 1) (cum + c) else (t, cum)

/-- Keys, histogram and selection (R137), for need ≥ 1. -/
def histogram (ac : ArmCfg) (cells : List RankCell) (need ptr : Nat) (ins : Nat) (lowFirst : Bool) : Selection :=
  let el := cells.filter (·.elig)
  let n : Int := el.length
  let tjMean : Int := ((el.map (·.tj)).sum : Int).tdiv n
  let key := fun (c : RankCell) => 16 * (c.v : Int) + ac.tWeight * ((c.tj : Int) - tjMean)
  let mean := (el.foldl (fun a c => a + key c) 0).fdiv n
  let lo := mean - 16 * (ac.rankSpan : Int)
  let w : Int := (ac.rankSpan / 4 : Nat)
  let bin := fun (c : RankCell) =>
    let k := key c
    let k2 := if c.fin = ins then (if lowFirst then k - 16 * (ac.keepBand : Int) else k + 16 * (ac.keepBand : Int)) else k
    let b := (min (max ((k2 - lo).fdiv w) 0) 127).toNat
    if lowFirst then b else 127 - b
  let binned := el.map fun c => (c.j, bin c)
  let (t, cum) := threshold (binned.map (·.2)) need 128 0 0
  let below := (binned.filter fun p => decide (p.2 < t)).map (·.1)
  let inBin := (binned.filter fun p => p.2 == t).map (·.1)
  let rotated := inBin.filter (ptr ≤ ·) ++ inBin.filter (· < ptr)
  let taken := rotated.take (need - cum)
  let last := taken.getLastD ptr
  ⟨below ++ taken, (last + 1) % (max cells.length 1), last, tjMean.toNat⟩

/-- The trim cell's commands (R138, Table 06-3). -/
def trimCmd (ac : ArmCfg) (fin ins frac period : Nat) : CellCmd :=
  let w := frac * period / 65536
  let d := ac.minDwell
  let u0 := if fin = ins then period - w else w
  let u := if 0 < u0 ∧ u0 < d then (if 2 * u0 ≥ d then d else 0) else u0
  let (a, b) := if fin = ins then (ins, stZero) else (stZero, ins)
  if u = 0 then { (default : CellCmd) with s0 := a, s1 := a, s2 := a }
  else
    let t1 := (period - u) / 2
    { (default : CellCmd) with s0 := a, s1 := b, s2 := a, t1 := some t1, t2 := some (t1 + u) }

/-- A command that holds one state for the whole frame (R139). -/
def holdCmd (st : Nat) : CellCmd := { (default : CellCmd) with s0 := st, s1 := st, s2 := st }

/-- What the dwell rule has built so far (R140). -/
structure Dwell where
  out0 : Nat
  edges : List (Nat × Nat)   -- (instant, state), oldest first
  tp : Int
  cur : Nat
  moved : Nat
  deferred : Nat
  stopped : Bool
  deriving DecidableEq, Repr, Inhabited

/-- One wanted transition under the dwell rule (R140). -/
def dwellStep (d period : Nat) (x : Dwell) (i : Nat) (t st : Nat) : Dwell :=
  if x.stopped ∨ st = x.cur then x
  else
    let te0 : Int := if i = 0 then 0 else t
    let move := st ≠ stBlock ∧ x.cur ≠ stBlock ∧ te0 < x.tp + d
    let te := if move then x.tp + d else te0
    let x := { x with moved := x.moved + b01 move }
    if te ≥ period ∨ (te > 0 ∧ x.edges.length = 2) then { x with deferred := x.deferred + 1, stopped := true }
    else if te = 0 then { x with out0 := st, tp := te, cur := st }
    else { x with edges := x.edges ++ [(te.toNat, st)], tp := te, cur := st }

/-- The dwell rule over one slot (R140): the slot written, and how many transitions were moved and deferred. -/
def dwellRule (d period : Nat) (c : CellCmd) (fin : Nat) (last : Int) : CellCmd × Nat × Nat :=
  let x0 : Dwell := ⟨fin, [], last, fin, 0, 0, false⟩
  let x1 := dwellStep d period x0 0 0 c.s0
  let x2 := match c.t1 with
    | none => x1
    | some t1 =>
      let y := dwellStep d period x1 1 t1 c.s1
      match c.t2 with
      | none => y
      | some t2 => dwellStep d period y 2 t2 c.s2
  let e0 := x2.edges[0]?
  let e1 := x2.edges[1]?
  let st1 := match e0 with
    | some e => e.2
    | none => x2.out0
  let st2 := match e1 with
    | some e => e.2
    | none => st1
  ({ c with s0 := x2.out0, s1 := st1, s2 := st2, t1 := e0.map (·.1), t2 := e1.map (·.1) }, x2.moved, x2.deferred)

/-- The slice's registers of an arm named by its slice number. -/
def State.armRd (s : State) (a : Nat) (f : Field) : Nat := s.rd f (s.armSlice a)

/-- Thermal update and model step of one cell (R145, R146): steps 6.1 and 6.2. -/
def State.modelCell (s : State) (ac : ArmCfg) (i : Int) (capInv : Nat) (n : Nat) : State :=
  let c := s.cell n
  let cls := match s.cellCfg n with
    | some cc => cc.cls
    | none => 0
  let st := s.cstate n
  let P := s.period
  let step := if st = csBypassed then 0 else sat16 (dv capInv i (c.force.insertion cls i P))
  let s := s.modCell n fun c => { c with step := step }
  if st = csService ∨ st = csOut then
    let sl := s.armSlice ac.arm
    let (a, b, tj) := thermal ac cls (c.force.changes c.fin).length i P (s.rd Reg.ARM_ALPHA1.ALPHA sl)
      (s.rd Reg.ARM_ALPHA2.ALPHA sl) c.anchor c.th1 c.th2
    (s.modCell n fun c => { c with th1 := a, th2 := b, tj := tj }).wr Reg.CELL_TEMP.TJ tj n
  else s

/-- The cells of an arm as the ranking sees them, with eligibility and predictive exclusion (R125, R136). -/
def State.rankCells (s : State) (ac : ArmCfg) (deblocked neg : Bool) (dvIns : Int) : List RankCell :=
  let l := s.armCells ac.arm
  (l.zip (upTo l.length)).map fun p =>
    let n := p.1
    let c := s.cell n
    let cls := match s.cellCfg n with
      | some cc => cc.cls
      | none => 0
    let can := !neg || cls != 0
    let judged := deblocked && s.cstate n == csService && can
    let excl := judged && decide (0 < dvIns) && decide ((ac.ovPred : Int) < (c.v : Int) + dvIns)
    ⟨n, p.2, cls, s.cstate n, c.v, c.tj, c.force.final, c.force.lastAfter c.fin c.last s.spanNow, judged && !excl, excl⟩

/-- The slot of one cell before its operations (R138, R139, R140, R143). -/
def slotOf (ac : ArmCfg) (period : Nat) (deblocked : Bool) (ins : Nat) (sel : List Nat) (trim : Option Nat) (frac : Nat)
    (blk : RefBlock) (vmean : Nat) (c : RankCell) : CellCmd × Nat × Nat :=
  let wanted :=
    if c.st = csService then
      (if !deblocked then holdCmd stBlock
       else if trim = some c.j then trimCmd ac c.fin ins frac period
       else if sel.contains c.j then holdCmd ins
       else holdCmd stZero)
    else if c.st = csBypassed then holdCmd stZero
    else holdCmd (if deblocked then stZero else stBlock)
  let vm : Int := if vmean = 0 then c.v else vmean
  let phase := if c.cls = 2 ∧ c.st = csService ∧ deblocked then
      min (max (sat32 (blk.phaseRef + asr (blk.phaseBal * ((c.v : Int) - vm)) 8)) (-(blk.phaseLim : Int))) blk.phaseLim
    else 0
  let (cmd, m, d) := dwellRule ac.minDwell period wanted c.fin c.last
  ({ cmd with phase := phase }, m, d)

/-- The 256-byte summary of R147. -/
structure Summary where
  flags : Nat
  nElig : Nat
  nFull : Nat
  frac : Nat
  nNl : Nat
  trim : Nat
  short : Nat
  excluded : Nat
  switched : Nat
  moved : Nat
  deferred : Nat
  ptr : Nat
  vref : Int
  vSum : Nat
  vSq : Nat
  vMin : Nat
  vMax : Nat
  vmean : Nat
  tjMax : Nat
  tjMean : Nat
  tjCell : Nat
  iArm : Int
  theta : Nat
  nService : Nat
  nOut : Nat
  nByp : Nat
  nStale : Nat
  phaseRef : Int
  deriving DecidableEq, Repr, Inhabited

/-- The bytes of a summary (Table 06-4). -/
def Summary.bytes (m : Summary) (frame : Nat) : List Byte :=
  leBytes 4 frame ++ leBytes 1 m.flags ++ [0] ++ leBytes 2 m.nElig ++ leBytes 2 m.nFull ++ leBytes 2 m.frac ++ leBytes 2 m.nNl
    ++ leBytes 2 m.trim ++ leBytes 2 m.short ++ leBytes 2 m.excluded ++ leBytes 2 m.switched ++ leBytes 2 m.moved
    ++ leBytes 2 m.deferred ++ leBytes 2 m.ptr ++ leBytes 4 (unsigned 32 m.vref) ++ leBytes 4 m.vSum ++ leBytes 4 0
    ++ leBytes 8 m.vSq ++ leBytes 2 m.vMin ++ leBytes 2 m.vMax ++ leBytes 2 m.vmean ++ leBytes 2 m.tjMax ++ leBytes 2 m.tjMean
    ++ leBytes 2 m.tjCell ++ leBytes 4 (unsigned 32 m.iArm) ++ leBytes 4 m.theta ++ leBytes 2 m.nService ++ leBytes 2 m.nOut
    ++ leBytes 2 m.nByp ++ leBytes 2 m.nStale ++ leBytes 2 (unsigned 16 m.phaseRef)

/-- The registers of the arm slice that show a summary. -/
def State.showSummary (s : State) (sl : Nat) (m : Summary) : State :=
  let s := (s.wr Reg.ARM_STATUS.FLAGS m.flags sl).wr Reg.ARM_STATUS.ACTIVE 1 sl
  let s := (s.wr Reg.ARM_LEVEL.N_FULL m.nFull sl).wr Reg.ARM_LEVEL.N_NL m.nNl sl
  let s := (s.wr Reg.ARM_TRIM.FRAC m.frac sl).wr Reg.ARM_TRIM.TRIM (if m.trim = 0xFFFF then 0x3FF else m.trim) sl
  let s := (s.wr Reg.ARM_PTR.PTR m.ptr sl).wr Reg.ARM_PTR.ELIGIBLE m.nElig sl
  let s := s.wr Reg.ARM_SHORT.SHORT m.short sl
  let s := s.when (decide (m.short ≠ 0)) (·.bump Reg.ARM_SHORT.FRAMES 1 sl)
  let s := (s.bump Reg.ARM_DWELL.MOVED m.moved sl).bump Reg.ARM_DWELL.DEFERRED m.deferred sl
  let s := s.wr Reg.ARM_SWITCHED.LAST m.switched sl
  let s := ((s.wr Reg.ARM_TJ.TJ_MAX m.tjMax sl).wr Reg.ARM_TJ.TJ_MEAN m.tjMean sl).wr Reg.ARM_TJ_CELL.CELL m.tjCell sl
  (s.wrS Reg.ARM_IARM.I m.iArm sl).wrS Reg.ARM_VREF.V m.vref sl

/-- The largest of a list with the lowest index that holds it. -/
def hottest : List (Nat × Nat) → Nat × Nat → Nat × Nat
  | [], b => b
  | (j, t) :: r, b => hottest r (if b.2 < t then (j, t) else b)

/-- What the slice keeps in case its rank window overruns (R55). -/
def State.armUndo (s : State) (a : Nat) : ArmUndo :=
  let n := s.armSlice a
  ⟨s.rd Reg.ARM_PTR.PTR n, s.rd Reg.ARM_DWELL.MOVED n, s.rd Reg.ARM_DWELL.DEFERRED n, s.rd Reg.ARM_SHORT.FRAMES n,
    s.rd Reg.ARM_EVENT.SHORTFALL n, s.rd Reg.ARM_EVENT.DEFER n, (s.arm a).short⟩

/-- The partial results of a rank window that overran are discarded (R55): the pointer and what the window counted. A count or event
that was cleared since stays cleared. -/
def State.discardRank (s : State) (a : Nat) : State :=
  let n := s.armSlice a
  let u := (s.arm a).undo
  let s := s.wr Reg.ARM_PTR.PTR u.ptr n
  let s := s.wr Reg.ARM_DWELL.MOVED (min u.moved (s.rd Reg.ARM_DWELL.MOVED n)) n
  let s := s.wr Reg.ARM_DWELL.DEFERRED (min u.deferred (s.rd Reg.ARM_DWELL.DEFERRED n)) n
  let s := s.wr Reg.ARM_SHORT.FRAMES (min u.frames (s.rd Reg.ARM_SHORT.FRAMES n)) n
  let s := s.wr Reg.ARM_EVENT.SHORTFALL (min u.shortEvent (s.rd Reg.ARM_EVENT.SHORTFALL n)) n
  let s := s.wr Reg.ARM_EVENT.DEFER (min u.deferEvent (s.rd Reg.ARM_EVENT.DEFER n)) n
  s.modArm a fun x => { x with short := u.short }

/-- Step 6 of R122 for one arm (Table 06-2): the slots of its cells for the next tick, its summary and pointer. `theta` is the
angle in use, `coast` whether the frame is a coast frame. -/
def State.rankArm (s : State) (ac : ArmCfg) (deblocked coast : Bool) (theta : Nat) (iArm : Int) (held : Bool) : State :=
  let a := ac.arm
  let sl := s.armSlice a
  let s := s.modArm a fun x => { x with undo := s.armUndo a }
  let ar := s.arm a
  let P := s.period
  let cells := s.armCells a
  let s := s.each cells fun s n => s.modelCell ac iArm ar.blk.capInv n
  let vref := vRef ar.blk theta
  let neg := decide (vref < 0)
  let pi : Int := if neg then -iArm else iArm
  let ins := if neg then stNeg else stPos
  let charging := decide (0 ≤ pi)
  let rc : List RankCell := s.rankCells ac deblocked neg (dv ar.blk.capInv pi P)
  let s := s.each rc fun s c => s.wr Reg.CELL_STATE.EXCLUDED (b01 c.excl) c.n
  let s := s.each (rc.filter (·.excl)) fun s c => s.bump Reg.CELL_COUNT.EXCLUDED 1 c.n
  let lv : Level := if deblocked then level rc vref else default
  let ptr := s.rd Reg.ARM_PTR.PTR sl
  let run := decide (1 ≤ lv.need)
  let sn : Selection := if run then histogram ac rc lv.need ptr ins charging else ⟨[], ptr, 0, 0⟩
  let trim := if run ∧ lv.frac ≠ 0 then some sn.last else none
  let built : List (RankCell × CellCmd × Nat × Nat) := rc.map fun c => (c, slotOf ac P deblocked ins sn.sel trim lv.frac ar.blk lv.vmean c)
  let s := s.each built fun s p =>
    let n := p.1.n
    let m := s.cell n
    let cmd := { p.2.1 with bypass := s.cstate n == csBypassed, unblock := s.unblocks n, clear := m.clearReq }
    s.modCell n fun c => { c with cmd := cmd, admSlot := c.admitted, admitted := false, clearReq := false }
  let so : List RankCell := rc.filter fun (c : RankCell) => c.st == csService || c.st == csOut
  let vs := so.map (·.v)
  let hot := match so with
    | [] => none
    | c :: r => some (hottest (r.map fun (c : RankCell) => (c.j, c.tj)) (c.j, c.tj))
  let f1 := s.free (if run then some sn.tjMean else none)
  let f2 := f1.2.free vs.min?
  let f3 := f2.2.free vs.max?
  let f4 := f3.2.free (hot.map (·.2))
  let f5 := f4.2.free (hot.map (·.1))
  let s := f5.2
  let switched := (built.filter fun (p : RankCell × CellCmd × Nat × Nat) => !((p.2.1.changes p.1.fin).isEmpty)).length
  let moved := (built.map (fun (p : RankCell × CellCmd × Nat × Nat) => p.2.2.1)).sum
  let deferred := (built.map (fun (p : RankCell × CellCmd × Nat × Nat) => p.2.2.2)).sum
  let flags := b01 deblocked + 2 * b01 neg + 4 * b01 charging + 8 * b01 coast + 16 * b01 held + 32 * b01 (lv.short ≠ 0)
  let count := fun (st : Nat) => (rc.filter fun (c : RankCell) => c.st == st).length
  let m : Summary := {
    flags := flags, nElig := lv.n, nFull := lv.nFull, frac := lv.frac,
    nNl := lv.nFull + b01 (decide (0x8000 ≤ lv.frac)), trim := trim.getD 0xFFFF, short := lv.short,
    excluded := (rc.filter (fun (c : RankCell) => c.excl)).length, switched := switched, moved := moved, deferred := deferred, ptr := sn.ptr,
    vref := vref, vSum := vs.sum, vSq := (vs.map fun v => v * v).sum, vMin := f2.1 % 65536, vMax := f3.1 % 65536, vmean := lv.vmean,
    tjMax := f4.1 % 4096, tjMean := f1.1 % 4096, tjCell := f5.1 % 512, iArm := iArm, theta := theta, nService := count csService,
    nOut := count csOut, nByp := count csBypassed,
    nStale := (rc.filter fun (c : RankCell) => !(s.cell c.n).fresh).length, phaseRef := ar.blk.phaseRef }
  let s := s.when (decide (lv.short ≠ 0) && !ar.short) (·.wr Reg.ARM_EVENT.SHORTFALL 1 sl)
  let s := s.when (decide (0 < deferred)) (·.wr Reg.ARM_EVENT.DEFER 1 sl)
  let s := s.when (coast && deblocked) (·.wr Reg.ARM_EVENT.COAST 1 sl)
  let s := s.when (held && !ar.iHeld) (·.wr Reg.ARM_EVENT.I_HELD 1 sl)
  let s := s.showSummary sl m
  s.modArm a fun x => { x with summary := m.bytes s.frameNo, iArm := iArm, iHeld := held, short := decide (lv.short ≠ 0) }

/-- The commands in force follow the slot sent at a tick (R134), `span` after the T_APPLY of those before; a cell that is sent none keeps
its final state. -/
def State.sendCmd (s : State) (n : Nat) (sent : Option CellCmd) (span : Nat) : State :=
  s.modCell n fun c =>
    let fin := c.force.final
    let last := c.force.lastAfter c.fin c.last span
    { c with fin := fin, last := last, force := sent.getD (holdCmd fin) }

end Sys2Proof.Machine
end

