-- ==== Sys2Proof/Machine/Can.lean ====
section
/-! DEFINITION. The CAN FD controllers (15_can.md): the transmit queues of the keep domain, the schedule matrix, attempts and error
confinement, and reception, R324 to R338. -/

namespace Sys2Proof.Machine

/-- Controller n, and its queue in the keep domain. -/
def State.can (s : State) (n : Nat) : CanSt := Tbl.look default s.cans n
def State.modCan (s : State) (n : Nat) (f : CanSt → CanSt) : State := { s with cans := Tbl.put default s.cans n (f (s.can n)) }
def State.canMsgs (s : State) (n : Nat) : List CanMsg := (Tbl.look default s.canQueues n).msgs

/-- The queue of controller n replaced; FILL follows (R331). -/
def State.setCanMsgs (s : State) (n : Nat) (l : List CanMsg) : State :=
  { s with canQueues := Tbl.put default s.canQueues n ⟨l⟩ }.wr Reg.CAN_TXQ.FILL l.length n

/-- The record of controller n in the CAN section. -/
def State.canCfg (s : State) (n : Nat) : Option CanCfg := s.cfg.cans.find? (·.can == n)

/-- Bytes of a data length code (Table 15-3). -/
def canBytes (dlc : Nat) : Nat :=
  if dlc ≤ 8 then dlc
  else match dlc with
    | 9 => 12 | 10 => 16 | 11 => 20 | 12 => 24 | 13 => 32 | 14 => 48 | 15 => 64 | _ => 0

/-- Whether shedding holds buffer 31 (R337). -/
def State.canShed (s : State) : Bool := decide (5 ≤ s.rd Reg.POWER_SHED.STEP)

/-- Whether an element of the matrix names buffer m. -/
def CanCfg.names (c : CanCfg) (m : Nat) : Bool := c.elems.any fun e => e / 64 != 0 && e % 32 == m

/-- CAN_QUEUE (R331, Table 15-4): the result code and the state. -/
def State.cmdCanQueue (s : State) (a : List Byte) (source seq : Nat) : Nat × State :=
  let n := u8At a 0
  let buffer := u8At a 1
  let flags := u8At a 2
  let dlc := u8At a 3
  let id := u32At a 4
  let ide := hasBit flags 0
  let fdf := hasBit flags 1
  let brs := hasBit flags 2
  match s.canCfg n with
  | none => (1, s)
  | some c =>
    if 31 < buffer ∨ (if ide then 2 ^ 29 else 2 ^ 11) ≤ id ∨ 15 < dlc ∨ (8 < dlc ∧ !fdf) ∨ (brs && !fdf) ∨ (fdf && !c.fdEn) then (1, s)
    else if 256 ≤ (s.canMsgs n).length then (2, s)
    else if c.mode = 0 ∨ c.mode = 4 then (3, s)
    else if buffer < 31 ∧ !c.names buffer then (4, s)
    else
      let m : CanMsg := ⟨buffer, ide, fdf, brs, dlc, id, slice a 8 (canBytes dlc), source, seq, false⟩
      (0, s.setCanMsgs n (s.canMsgs n ++ [m]))

/-- CAN_FLUSH (R331): the entries of a buffer, or of all (FFh), leave the queue; one in an attempt leaves when the attempt ends. -/
def State.cmdCanFlush (s : State) (n buffer : Nat) : Nat × State :=
  match s.canCfg n with
  | none => (1, s)
  | some _ =>
    if 31 < buffer ∧ buffer ≠ 0xFF then (1, s)
    else
      let hit := fun (m : CanMsg) => buffer == 0xFF || m.buffer == buffer
      let x := s.can n
      let kept := (s.canMsgs n).filter fun m => !hit m || (x.attempt == some m)
      let s := s.setCanMsgs n kept
      (0, s.modCan n fun c =>
        { c with
          flushed := c.flushed || (match c.attempt with | some m => hit m | none => false),
          offer := match c.offer with
            | some m => if hit m then none else some m
            | none => none })

/-- CAN_QUEUE. -/
def execCanQueue (args : List Byte) (source seq : Nat) (s : State) : Host.Outcome State Fault Refusal :=
  done (s.cmdCanQueue args source seq).2

/-- CAN_FLUSH. -/
def execCanFlush (can buffer : Nat) (s : State) : Host.Outcome State Fault Refusal := done (s.cmdCanFlush can buffer).2

/-- Whether the controller sends: running, mode NORMAL or a loop-back, not bus-off (R326, R336). -/
def State.canSends (s : State) (n : Nat) : Bool :=
  let m := s.rd Reg.CAN_CTRL.MODE n
  let st := s.rd Reg.CAN_STATUS.STATE n
  (m == 1 || m == 2 || m == 3) && (st == 1 || st == 2)

/-- Of two messages of buffer 31, the one sent first: the lower identifier, the earlier one among equals (Table 15-2). -/
def lowestId : List CanMsg → Option CanMsg
  | [] => none
  | m :: r =>
    match lowestId r with
    | none => some m
    | some x => if x.id < m.id then some x else some m

/-- What a slot of column c offers (R329, R337), and whether the message is due in it (R334). -/
def State.canOffer (s : State) (n : Nat) (c : CanCfg) (col : Nat) : Option CanMsg :=
  let e := c.elems.getD (64 * (s.can n).row + col) 0
  let msgs := s.canMsgs n
  let free := if s.canShed then none else lowestId (msgs.filter (·.buffer == 31))
  let head := msgs.find? (·.buffer == e % 32)
  match e / 64 with
  | 0 => free
  | 1 => head
  | _ => if head.isSome then head else free

/-- A basic cycle starts at a tick whose FRAME_NO is a multiple of cycle_frames (R327). -/
def State.canTick (s : State) (n : Nat) : State :=
  match s.canCfg n with
  | none => s
  | some c =>
    if s.frameNo % 2 ^ c.a = 0 then
      let r := s.frameNo / 2 ^ c.a % 2 ^ c.b
      (s.modCan n fun x => { x with row := r }).wr Reg.CAN_MATRIX.ROW r n
    else s

/-- A column starts (R328, R330): the slot opens, and transmission of the offered message is requested unless one is under way. -/
def State.canSlotStart (s : State) (n col : Nat) : State :=
  match s.canCfg n with
  | none => s
  | some c =>
    match c.cols[col]? with
    | none => s
    | some (frame, _) =>
      if s.rd Reg.CAN_CTRL.MODE n = 0 ∨ s.frameNo % 2 ^ c.a ≠ frame ∨ !s.ticking then s
      else
        let o := s.canOffer n c col
        let go := s.canSends n
        (s.modCan n fun x =>
          { x with
            openSlot := some col,
            offer := o,
            slotErrors := 0,
            attempt := match x.attempt with
              | some m => some m
              | none => if go then o else none }).wr Reg.CAN_MATRIX.COLUMN col n

/-- CAN_SLOT_START. -/
def execCanSlotStart (can : Fin 4) (column : Fin 64) (t : Nat) (s : State) : Host.Outcome State Fault Refusal :=
  done ((s.elapse t).canSlotStart can.val column.val)

/-- A slot ends (R330, R334): a due message that is still queued becomes LATE; an attempt goes on only where it is on the bus. -/
def State.canSlotEnd (s : State) (n col : Nat) (onBus : Bool) : State :=
  let x := s.can n
  if x.openSlot ≠ some col then s
  else
    let s := match x.offer with
      | some m =>
        if m.buffer < 31 && !m.late then
          let mark := fun (y : CanMsg) => if y == m then { y with late := true } else y
          let s := s.setCanMsgs n ((s.canMsgs n).map mark)
          (s.modCan n fun x => { x with attempt := x.attempt.map mark }).evBit Reg.CAN_EVENT.EVENTS 2 n
        else s
      | none => s
    s.modCan n fun x => { x with openSlot := none, offer := none, attempt := if onBus then x.attempt else none }

/-- CAN_SLOT_END. -/
def execCanSlotEnd (can : Fin 4) (column : Fin 64) (onBus : Bool) (t : Nat) (s : State) : Host.Outcome State Fault Refusal :=
  done ((s.elapse t).canSlotEnd can.val column.val onBus)

/-- Error active, error passive and the warning limit from the counters (R324, R336). -/
def State.canConfine (s : State) (n : Nat) : State :=
  let tec := s.rd Reg.CAN_ERRCNT.TEC n
  let rec_ := s.rd Reg.CAN_ERRCNT.REC n
  let s := s.wr Reg.CAN_STATUS.WARNING (b01 (decide (96 ≤ tec) || decide (96 ≤ rec_))) n
  let passive := decide (128 ≤ tec) || decide (128 ≤ rec_)
  let st := s.rd Reg.CAN_STATUS.STATE n
  if st = 1 && passive then (s.wr Reg.CAN_STATUS.STATE 2 n).evBit Reg.CAN_EVENT.EVENTS 3 n
  else if st = 2 && !passive then s.wr Reg.CAN_STATUS.STATE 1 n
  else s

/-- CAN_BUS_OFF (R336): the controller stops driving; every entry stays queued; recovery starts at once with AUTO_RECOVER = 1. -/
def State.canBusOff (s : State) (n : Nat) : State :=
  let s := ((s.wr Reg.CAN_STATUS.STATE 3 n).wr Reg.CAN_ERRCNT.TEC 256 n).bump Reg.CAN_ERRCNT.BUSOFF 1 n
  let s := s.modCan n fun x => { x with attempt := none }
  let s := s.wr Reg.CAN_STATUS.RECOVERING (s.rd Reg.CAN_CTRL.AUTO_RECOVER n) n
  (s.evBit Reg.CAN_EVENT.EVENTS 4 n).raise 39 n

/-- CAN_RX_DATA0 to CAN_RX_DATA15. -/
def canDataFields : List Field :=
  [Reg.CAN_RX_DATA0.DATA, Reg.CAN_RX_DATA1.DATA, Reg.CAN_RX_DATA2.DATA, Reg.CAN_RX_DATA3.DATA, Reg.CAN_RX_DATA4.DATA,
    Reg.CAN_RX_DATA5.DATA, Reg.CAN_RX_DATA6.DATA, Reg.CAN_RX_DATA7.DATA, Reg.CAN_RX_DATA8.DATA, Reg.CAN_RX_DATA9.DATA,
    Reg.CAN_RX_DATA10.DATA, Reg.CAN_RX_DATA11.DATA, Reg.CAN_RX_DATA12.DATA, Reg.CAN_RX_DATA13.DATA, Reg.CAN_RX_DATA14.DATA,
    Reg.CAN_RX_DATA15.DATA]

/-- The data words of receive entry i of controller n (R338), 0 beyond the data. -/
def State.canData (s : State) (n i : Nat) (d : List Byte) : State :=
  s.each canDataFields fun s f => s.wr f (u32At d (f.addr - Reg.CAN_RX_DATA0.DATA.addr)) n i

/-- A message into a receive entry (R338), LOOP set for the controller's own. -/
def State.canReceive (s : State) (n id flags dlc : Nat) (data : List Byte) (sofFrame sofNs : Nat) (loop : Bool) : State :=
  let filters := match s.canCfg n with
    | some c => c.filters
    | none => []
  let on := filters.any fun f => hasBit f.1 30
  let hit := (upTo filters.length).find? fun k =>
    match filters[k]? with
    | some f => hasBit f.1 30 && hasBit f.1 31 == hasBit flags 1 && ((id ^^^ f.1) &&& f.2) % 2 ^ 29 == 0
    | none => false
  if on && hit.isNone then s
  else if 64 ≤ s.rd Reg.CAN_RX_STATUS.OWNED n then
    (s.bump Reg.CAN_RX_STATUS.DROPPED 1 n).wr Reg.CAN_RX_STATUS.OVF 1 n
  else
    let i := (s.can n).rxTail
    let s := (s.wr Reg.CAN_RX_ID.ID id n i).wr Reg.CAN_RX_ID.RTR (bitOf flags 0) n i
    let s := (s.wr Reg.CAN_RX_ID.IDE (bitOf flags 1) n i).wr Reg.CAN_RX_ID.VALID 1 n i
    let s := (s.wr Reg.CAN_RX_INFO.DLC dlc n i).wr Reg.CAN_RX_INFO.FDF (bitOf flags 2) n i
    let s := (s.wr Reg.CAN_RX_INFO.BRS (bitOf flags 3) n i).wr Reg.CAN_RX_INFO.ESI (bitOf flags 4) n i
    let s := s.wr Reg.CAN_RX_INFO.LOOP (b01 loop) n i
    let s := (s.wr Reg.CAN_RX_INFO.FILTER (hit.getD 0) n i).wr Reg.CAN_RX_INFO.UNFILTERED (b01 (!on)) n i
    let s := (s.wr64 Reg.CAN_RX_NS_LO.NS Reg.CAN_RX_NS_HI.NS sofNs n i).wr Reg.CAN_RX_FRAME.FRAME sofFrame n i
    let len := if hasBit flags 0 then 0 else if hasBit flags 2 then canBytes dlc else min dlc 8
    let d := data.take len
    let s := s.canData n i d
    let s := s.modCan n fun x => { x with rxTail := (i + 1) % 64 }
    (s.bump Reg.CAN_RX_STATUS.OWNED 1 n).evBit Reg.CAN_EVENT.EVENTS 0 n

/-- A transmit record (R335). -/
def State.canRecord (s : State) (n : Nat) (m : CanMsg) (frame : Nat) : State :=
  let late := m.late && decide (m.buffer < 31)
  let s := s.when late (·.bump Reg.CAN_TXQ.LATE 1 n)
  let s := s.evBit Reg.CAN_EVENT.EVENTS 1 n
  if 32 ≤ (s.can n).records.length then s.wr Reg.CAN_TXE_STATUS.OVF 1 n
  else
    let s := s.modCan n fun x => { x with records := x.records ++ [⟨m.source, late, m.buffer, m.seq, frame⟩] }
    s.wr Reg.CAN_TXE_STATUS.COUNT (s.can n).records.length n

/-- The first entry equal to `m` leaves a queue. -/
def dropFirst (m : CanMsg) : List CanMsg → List CanMsg
  | [] => []
  | x :: r => if x == m then r else x :: dropFirst m r

/-- The attempt that ended makes room for the message of the open slot. -/
def State.canNext (s : State) (n : Nat) : State :=
  let go := s.canSends n
  s.modCan n fun x => { x with attempt := if go then x.offer else none, flushed := false }

/-- A message completes without error (R330, R333, R335): it is retired with its record, and received back in a loop-back mode. ESI is the
error state it was sent in (R324); in internal loop-back CANn_TX stays recessive (Table 15-1). -/
def State.canComplete (s : State) (n sofFrame sofNs : Nat) : State :=
  match (s.can n).attempt with
  | none => s
  | some m =>
    let x := s.can n
    let s := s.setCanMsgs n (dropFirst m (s.canMsgs n))
    let s := s.when (decide (0 < x.slotErrors) && x.offer == some m) (·.raise 4 n)
    let s := s.modCan n fun x => { x with offer := if x.offer == some m then none else x.offer }
    let s := s.canRecord n m sofFrame
    let tec := s.rd Reg.CAN_ERRCNT.TEC n
    let esi := decide (s.rd Reg.CAN_STATUS.STATE n = 2) && m.fdf
    let s := (s.wr Reg.CAN_ERRCNT.TEC (tec - 1) n).canConfine n
    let mode := s.rd Reg.CAN_CTRL.MODE n
    let brs := m.brs && ((s.canCfg n).map (·.brsEn)).getD false
    let s := s.when (mode = 2 || mode = 3) fun s =>
      s.canReceive n m.id (2 * b01 m.ide + 4 * b01 m.fdf + 8 * b01 brs + 16 * b01 esi) m.dlc m.data sofFrame sofNs true
    let s := if mode = 2 then s else s.emit (.can n m.id m.ide m.fdf brs esi m.data)
    s.canNext n

/-- CAN_TX_COMPLETE. -/
def execCanTxComplete (can : Fin 4) (sofFrame sofNs t : Nat) (s : State) : Host.Outcome State Fault Refusal :=
  done ((s.elapse t).canComplete can.val sofFrame sofNs)

/-- An attempt loses arbitration or errs (R330, R336): TEC rises by the standard's amount (PRESUMED, assumption 60), the message is
retried while its slot is open, and TEC above 255 is bus-off. -/
def State.canFail (s : State) (n : Nat) (arbitration : Bool) (penalty : Nat) : State :=
  match (s.can n).attempt with
  | none => s
  | some m =>
    let s := s.when (s.can n).flushed fun s => s.setCanMsgs n (dropFirst m (s.canMsgs n))
    if arbitration then s.canNext n
    else
      let s := s.modCan n fun x => { x with slotErrors := x.slotErrors + 1 }
      let tec := s.rd Reg.CAN_ERRCNT.TEC n + penalty
      if 255 < tec then (s.canNext n).canBusOff n
      else ((s.wr Reg.CAN_ERRCNT.TEC tec n).canConfine n).canNext n

/-- CAN_TX_ATTEMPT_FAIL. -/
def execCanTxAttemptFail (can : Fin 4) (arbitration : Bool) (penalty t : Nat) (s : State) : Host.Outcome State Fault Refusal :=
  done ((s.elapse t).canFail can.val arbitration penalty)

/-- CAN_CTRL.RECOVER starts recovery; ignored outside bus-off (R336). -/
def State.canRecover (s : State) (n : Nat) : State :=
  if s.rd Reg.CAN_STATUS.STATE n = 3 then s.wr Reg.CAN_STATUS.RECOVERING 1 n else s

/-- CAN_RECOVER. -/
def execCanRecover (can : Fin 4) (t : Nat) (s : State) : Host.Outcome State Fault Refusal :=
  done ((s.elapse t).canRecover can.val)

/-- Recovery completes: error active, both counters 0 (R336). -/
def State.canRecovered (s : State) (n : Nat) : State :=
  if s.rd Reg.CAN_STATUS.STATE n = 3 ∧ s.on Reg.CAN_STATUS.RECOVERING n then
    let s := (s.wr Reg.CAN_STATUS.STATE 1 n).wr Reg.CAN_STATUS.RECOVERING 0 n
    let s := (s.wr Reg.CAN_ERRCNT.TEC 0 n).wr Reg.CAN_ERRCNT.REC 0 n
    (s.canConfine n).evBit Reg.CAN_EVENT.EVENTS 5 n
  else s

/-- CAN_RECOVERY_DONE. -/
def execCanRecoveryDone (can : Fin 4) (t : Nat) (s : State) : Host.Outcome State Fault Refusal :=
  done ((s.elapse t).canRecovered can.val)

/-- REC after a good reception, as the standard counts it: one less; from above 127 a value of 119 to 127 that it leaves open
(PRESUMED, assumptions 16 and 60). -/
def State.canRecDown (s : State) (n : Nat) : State :=
  let r := s.rd Reg.CAN_ERRCNT.REC n
  if r = 0 then s
  else if r ≤ 127 then s.wr Reg.CAN_ERRCNT.REC (r - 1) n
  else
    let (x, s) := s.draw
    s.wr Reg.CAN_ERRCNT.REC (119 + x % 9) n

/-- A message received from CANn_RX (R326, R338). -/
def State.canMessage (s : State) (n id flags dlc : Nat) (data : List Byte) (sofFrame sofNs : Nat) : State :=
  let mode := s.rd Reg.CAN_CTRL.MODE n
  let st := s.rd Reg.CAN_STATUS.STATE n
  if mode = 0 ∨ mode = 2 ∨ st = 0 ∨ st = 3 then s
  else
    let s := if mode = 4 then s else (s.canRecDown n).canConfine n
    s.canReceive n id flags dlc data sofFrame sofNs false

/-- CAN_RX_MESSAGE. -/
def execCanRxMessage (can : Fin 4) (id flags : Nat) (dlc : Fin 16) (data : List Byte) (sofFrame sofNs t : Nat) (s : State) :
    Host.Outcome State Fault Refusal :=
  done ((s.elapse t).canMessage can.val id flags dlc.val data sofFrame sofNs)

/-- A receive entry reads zero once released (R338). -/
def State.canClearEntry (s : State) (n i : Nat) : State :=
  let fs := [Reg.CAN_RX_ID.ID, Reg.CAN_RX_ID.RTR, Reg.CAN_RX_ID.IDE, Reg.CAN_RX_ID.VALID, Reg.CAN_RX_INFO.DLC, Reg.CAN_RX_INFO.FDF,
    Reg.CAN_RX_INFO.BRS, Reg.CAN_RX_INFO.ESI, Reg.CAN_RX_INFO.LOOP, Reg.CAN_RX_INFO.FILTER, Reg.CAN_RX_INFO.UNFILTERED,
    Reg.CAN_RX_NS_LO.NS, Reg.CAN_RX_NS_HI.NS, Reg.CAN_RX_FRAME.FRAME]
  s.each (fs ++ canDataFields) fun s f => s.wr f 0 n i

/-- A write of CAN_RX_ACK (R338): the index of the oldest owned entry releases it; any other is ignored. -/
def State.canAck (s : State) (n index : Nat) : State :=
  let head := s.rd Reg.CAN_RX_STATUS.HEAD n
  let owned := s.rd Reg.CAN_RX_STATUS.OWNED n
  if owned = 0 ∨ index % 64 ≠ head then s
  else ((s.canClearEntry n head).wr Reg.CAN_RX_STATUS.HEAD ((head + 1) % 64) n).wr Reg.CAN_RX_STATUS.OWNED (owned - 1) n

/-- CAN_RX_ACK. -/
def execCanRxAck (can : Fin 4) (index : Nat) (s : State) : Host.Outcome State Fault Refusal := done (s.canAck can.val index)

/-- A read of CAN_TXE0 pops the oldest transmit record (R335). -/
def State.canTxeRead (s : State) (n : Nat) : State :=
  match (s.can n).records with
  | [] => s.wr Reg.CAN_TXE0.RECORD 0 n
  | r :: rest =>
    let s := s.modCan n fun x => { x with records := rest }
    let s := s.wr Reg.CAN_TXE0.RECORD (r.source % 16 + 16 * b01 r.late + 256 * r.buffer + 2 ^ 31) n
    let s := (s.wr Reg.CAN_TXE1.RECORD r.seq n).wr Reg.CAN_TXE2.RECORD r.frame n
    s.wr Reg.CAN_TXE_STATUS.COUNT rest.length n

/-- CAN_TXE_READ. -/
def execCanTxeRead (can : Fin 4) (s : State) : Host.Outcome State Fault Refusal := done (s.canTxeRead can.val)

/-- A bus error while receiving raises REC by the standard's amount (R324); not in bus monitoring mode, nor in internal loop-back, which
hears its own transmitter only (Table 15-1). -/
def State.canRxError (s : State) (n amount : Nat) : State :=
  let mode := s.rd Reg.CAN_CTRL.MODE n
  let st := s.rd Reg.CAN_STATUS.STATE n
  if mode = 0 ∨ mode = 2 ∨ mode = 4 ∨ st = 0 ∨ st = 3 then s
  else (s.bump Reg.CAN_ERRCNT.REC amount n).canConfine n

/-- CAN_RX_ERROR. -/
def execCanRxError (can : Fin 4) (amount t : Nat) (s : State) : Host.Outcome State Fault Refusal :=
  done ((s.elapse t).canRxError can.val amount)

/-- The CAN section in force at commit: modes, error active, and every entry of buffers 0 to 30 LATE (R334, R336). -/
def State.commitCan (s : State) (c : CanCfg) : State :=
  let n := c.can
  let s := ((s.wr Reg.CAN_CTRL.MODE c.mode n).wr Reg.CAN_CTRL.FD_EN (b01 c.fdEn) n).wr Reg.CAN_CTRL.AUTO_RECOVER (b01 c.autoRecover) n
  let s := s.wr Reg.CAN_STATUS.STATE (if c.mode = 0 then 0 else 1) n
  let s := (s.wr Reg.CAN_MATRIX.LOG2_CYCLE c.a n).wr Reg.CAN_MATRIX.LOG2_ROWS c.b n
  let s := s.wr Reg.CAN_MATRIX.COLS c.cols.length n
  let nb := fun k => c.nbt.getD k 1 - 1
  let db := fun k => c.dbt.getD k 1 - 1
  let s := (s.wr Reg.CAN_NBT.NBRP (nb 0) n).wr Reg.CAN_NBT.NTSEG1 (nb 1) n
  let s := (s.wr Reg.CAN_NBT.NTSEG2 (nb 2) n).wr Reg.CAN_NBT.NSJW (nb 3) n
  let s := (s.wr Reg.CAN_DBT.DBRP (db 0) n).wr Reg.CAN_DBT.DTSEG1 (db 1) n
  let s := (s.wr Reg.CAN_DBT.DTSEG2 (db 2) n).wr Reg.CAN_DBT.DSJW (db 3) n
  let s := (s.wr Reg.CAN_DBT.TDC_EN (b01 c.tdcEn) n).wr Reg.CAN_DBT.TDCO c.tdco n
  s.setCanMsgs n ((s.canMsgs n).map fun m => if m.buffer < 31 then { m with late := true } else m)

/-- What a DEV reset does to a transmit queue (R333): the entry in an attempt past the sixth bit of end-of-frame is retired. -/
def State.canReset (s : State) (n : Nat) (pastSixth : Bool) : State :=
  match (s.can n).attempt with
  | some m => if pastSixth then s.setCanMsgs n (dropFirst m (s.canMsgs n)) else s
  | none => s

/-- CAN_STATUS.SHED follows the shedding step (R337). -/
def State.canShowShed (s : State) : State :=
  s.each (upTo 4) fun s n => s.wr Reg.CAN_STATUS.SHED (b01 (s.canShed && s.rd Reg.CAN_CTRL.MODE n != 0)) n

end Sys2Proof.Machine
end

