-- ==== Sys2Proof/Machine/Drive.lean ====
section
/-! DEFINITION. Drive units, power-stage part (11_drive_stage.md): the gates and what holds them off, trips and the unit latch, the
drive-side events, staging and loading, the carrier's valleys and edges, R244 to R267. A set of trip inputs is a number: for leg x,
bit 4x is the high-side DESAT input above threshold, 4x + 1 the low-side one, 4x + 2 the shunt above the instant-trip threshold,
4x + 3 VBx − SHx not above 10.0 V. -/

namespace Sys2Proof.Machine

/-- Drive unit u, its leg x, its motor control. -/
def State.drv (s : State) (u : Nat) : DrvSt := Tbl.look default s.drives u
def State.modDrv (s : State) (u : Nat) (f : DrvSt → DrvSt) : State := { s with drives := Tbl.put default s.drives u (f (s.drv u)) }
def State.leg (s : State) (u x : Nat) : LegSt := Tbl.look default (s.drv u).legs x
def State.modLeg (s : State) (u x : Nat) (f : LegSt → LegSt) : State :=
  s.modDrv u fun d => { d with legs := Tbl.put default d.legs x (f (Tbl.look default d.legs x)) }
def State.mot (s : State) (u : Nat) : MotSt := Tbl.look default s.motors u
def State.modMot (s : State) (u : Nat) (f : MotSt → MotSt) : State := { s with motors := Tbl.put default s.motors u (f (s.mot u)) }

/-- The motor part of unit u's record (Table 12-4). -/
def State.motCfg (s : State) (u : Nat) : MotCfg := ((s.cfg.motors.find? (·.1 == u)).map (·.2)).getD default

/-- Whether the variant has unit u (R2). -/
def State.hasUnit (s : State) (u : Nat) : Bool := decide (u < s.silicon.variant.drives)

/-- Operating modes of R260. -/
def mdOff : Nat := 0
def mdMotor : Nat := 2

/-- Motor states of Table 12-2. -/
def msIdle : Nat := 1
def msStart : Nat := 2
def msRun : Nat := 3
def msRegen : Nat := 4
def msShort : Nat := 5
def msCoast : Nat := 6
def msCatch : Nat := 7
def msStopseq : Nat := 8
def msFault : Nat := 9
def msSafeOff : Nat := 10

/-- The motor state of unit u. -/
def State.mstate (s : State) (u : Nat) : Nat := s.rd Reg.MOT_STATE.STATE u

/-- Source current of a gate code in mA (Table 11-2). -/
def gateSourceMa (code : Nat) : Nat :=
  [250, 300, 350, 400, 450, 500, 600, 700, 800, 900, 1000, 1200, 1400, 1600, 1800, 2000].getD code 0

/-- Sink current of a gate code in mA (Table 11-2): twice the source current of the code. -/
def gateSinkMa (code : Nat) : Nat := 2 * gateSourceMa code

/-- The delay from a command edge on the logic side to the edge at the gate (R249). DESIGN CHOICE (assumption 42): the nominal 60 ns of the
tolerance. -/
def barrierNs : Nat := 60

/-- Whether the Miller clamp of an output holds its gate at an instant (R247). -/
def GateSt.clamped (g : GateSt) (now : Nat) : Bool := (!g.on || decide (now < g.since)) && decide (g.clampAt ≤ now)

/-- The current at which an output that is off sinks at an instant: the soft-off current for 2.0 µs, then the normal one (R255). -/
def GateSt.sinksMa (g : GateSt) (now : Nat) : Nat := if now < g.softEnd then g.softMa else g.sinkMa

/-- A gate output driven on or off (R245, R247, R255): a turn-on edge starts at `start`, a turn-off edge now; `fall` is the time the gate
takes to fall below 2.0 V. -/
def GateSt.drive (g : GateSt) (want soft : Bool) (start now fall src snk softCode : Nat) : GateSt :=
  if want then (if g.on then g else { g with on := true, since := start, sourceMa := gateSourceMa src })
  else if g.on then
    { g with on := false, sinkMa := gateSinkMa snk, softMa := gateSinkMa softCode, softEnd := if soft then now + 2000 else now,
             clampAt := if soft then now + 2000 else now + fall }
  else g

/-- Whether a trip of leg x is in force (R256). -/
def LegSt.tripped (l : LegSt) : Bool := l.tripHs || l.tripLs || l.tripIs

/-- Whether a condition of scope Unit in Table 11-4 holds the gates off. -/
def State.unitHeld (s : State) (u : Nat) : Bool :=
  let d := s.drv u
  !s.on Reg.DRV_STATUS.ENABLE u || !s.on Reg.DRV_STATUS.LINK u || decide (d.latched ≠ 0) || d.otLatch || !d.vdrv

/-- Whether a condition of Table 11-4 holds both gates of leg x off. -/
def State.legHeld (s : State) (u x : Nat) : Bool :=
  let l := s.leg u x
  s.unitHeld u || l.tripped || l.interlock || l.waitEdge || (l.hsSent && l.lsSent)

/-- A gate code with the band offset of R246: +1, 0, −1, −2 for bands 0 to 3, clamped to 0 to 15. -/
def gateCode (code : Nat) (comp : Bool) (band : Nat) : Nat := if comp then clampN 0 15 (code + 1 - band) else code

/-- The gates of a leg follow its commands and what holds them off (R245 to R247, R259): codes at the edges, `soft` for a turn-off
that a trip causes (R255), `start` where an output turns on. -/
def State.driveLeg (s : State) (u x : Nat) (soft : Bool) (start : Nat) : State :=
  let held := s.legHeld u x
  let a := (s.drv u).act
  let band := (s.drv u).band
  let src := gateCode (if x = 3 then a.chSrc else a.src) a.tempComp band
  let snk := gateCode (if x = 3 then a.chSnk else a.snk) a.tempComp band
  let softCode := if x = 3 then a.chSoft else a.soft
  let now := s.time.ns
  let k := 8 * u + 2 * x
  let s := s.modLeg u x fun l =>
    { l with hs := l.hs.drive (l.hsSent && !held && !l.vbUv) soft start now (Config.gateFall k now) src snk softCode,
             ls := l.ls.drive (l.lsSent && !held) soft start now (Config.gateFall (k + 1) now) src snk softCode }
  s.wr Reg.DRV_LEG_STATUS.GATES_OFF (b01 held) u x

/-- All legs of a unit driven again. -/
def State.driveUnit (s : State) (u : Nat) : State := s.each (upTo 4) fun s x => s.driveLeg u x false s.time.ns

/-- The leg faults that the drive side reports (R256): the bits of DRV_LEG_STATUS, and DRV_STATUS.LEG_FAULT. While the link is down
the last report stands. -/
def State.showLegFaults (s : State) (u : Nat) : State :=
  if !s.on Reg.DRV_STATUS.LINK u then s
  else
    let s := s.each (upTo 4) fun s x =>
      let l := s.leg u x
      let s := (s.wr Reg.DRV_LEG_STATUS.DESAT_HS (b01 l.tripHs) u x).wr Reg.DRV_LEG_STATUS.DESAT_LS (b01 l.tripLs) u x
      (s.wr Reg.DRV_LEG_STATUS.INSTANT (b01 l.tripIs) u x).wr Reg.DRV_LEG_STATUS.VB_UV (b01 l.vbUv) u x
    s.wr Reg.DRV_STATUS.LEG_FAULT
      ((upTo 4).foldl (fun w x => if (s.leg u x).tripped || (s.leg u x).vbUv then setBit w x else w) 0) u

/-- INPUT_ACTIVE of every leg: one of its DESAT and instant-trip inputs is active now. In the coding of DrvIn.inputs bit 4 × leg is the
high side's DESAT, the next the low side's, the next the instant trip. -/
def State.showInputs (s : State) (u : Nat) : State :=
  let w := (s.drv u).inputs
  s.each (upTo 4) fun s x =>
    s.wr Reg.DRV_LEG_STATUS.INPUT_ACTIVE (b01 (hasBit w (4 * x) || hasBit w (4 * x + 1) || hasBit w (4 * x + 2))) u x

/-- The levels of the trip inputs as a command finds them; they stand until the next command that brings them (DESIGN CHOICE,
assumption 45). -/
def State.seeInputs (s : State) (u inputs : Nat) : State :=
  if !s.hasUnit u then s
  else
    let s := s.modDrv u fun d => { d with inputs := inputs }
    s.when (s.on Reg.DRV_STATUS.LINK u) (·.showInputs u)

/-- LEG_FAULT_CLEAR (R256): at an input edge each fault whose trip input is inactive clears; nothing clears while the unit is
latched. -/
def State.clearLegFaults (s : State) (u x : Nat) : State :=
  let w := (s.drv u).inputs
  if (s.drv u).latched ≠ 0 then s
  else
    (s.modLeg u x fun l =>
      { l with tripHs := l.tripHs && hasBit w (4 * x), tripLs := l.tripLs && hasBit w (4 * x + 1),
               tripIs := l.tripIs && hasBit w (4 * x + 2), vbUv := l.vbUv && hasBit w (4 * x + 3) }).showLegFaults u

/-- Whether an input edge that arrives now restarts a leg that waits for one (R259, R253). -/
def State.edgeTaken (s : State) (u : Nat) : Bool := s.on Reg.DRV_STATUS.ENABLE u && (s.drv u).vdrv

/-- An input edge of leg x reaches the drive side (R256, R259): faults clear, a leg that waited for it follows commands again; an output
that turns on does so from `start`. -/
def State.inputEdge (s : State) (u x start : Nat) : State :=
  if !s.on Reg.DRV_STATUS.LINK u then s
  else
    let s := s.clearLegFaults u x
    let s := s.when (s.edgeTaken u) (·.modLeg u x fun l => { l with waitEdge := false })
    let s := s.modLeg u x fun l => { l with interlock := l.interlock && l.hsSent && l.lsSent }
    s.driveLeg u x false start

/-- The commands of leg x that the logic side sends by now (R249): a turn-on whose dead time has passed is sent from the instant it was
due; every change is an input edge (R256). -/
def State.sendEdges (s : State) (u x : Nat) : State :=
  let l := s.leg u x
  let now := s.time.ns
  let hs := l.hsCmd && decide (l.hsFrom ≤ now)
  let ls := l.lsCmd && decide (l.lsFrom ≤ now)
  if hs = l.hsSent ∧ ls = l.lsSent then s
  else
    let at_ := if hs && !l.hsSent then l.hsFrom else if ls && !l.lsSent then l.lsFrom else now
    (s.modLeg u x fun l => { l with hsSent := hs, lsSent := ls }).inputEdge u x (at_ + barrierNs)

/-- When a turn-on asked for now is sent (R249): `dt` after the opposite output's latest turn-off command, and not before now. -/
def afterOff (off : Option Nat) (dt now : Nat) : Nat :=
  match off with
  | some t => max now (t + dt)
  | none => now

/-- The PWM or the leg mode asks for new commands of a leg (R249): a turn-off is sent at once, a turn-on of a phase leg after the dead
time. -/
def State.command (s : State) (u x : Nat) (hs ls : Bool) : State :=
  let now := s.time.ns
  let dt := if x = 3 then 0 else 2 * (s.drv u).act.dead.getD x 0
  let s := s.modLeg u x fun l =>
    let hsOff := if l.hsSent && !hs then some now else l.hsOff
    let lsOff := if l.lsSent && !ls then some now else l.lsOff
    { l with hsCmd := hs, lsCmd := ls, hsOff := hsOff, lsOff := lsOff,
             hsFrom := if hs && !l.hsCmd then afterOff lsOff dt now else l.hsFrom,
             lsFrom := if ls && !l.lsCmd then afterOff hsOff dt now else l.lsFrom }
  s.sendEdges u x

/-- What the counters of unit u have brought by now, before a command of the unit acts: the end of a probe (R282), and the turn-on
commands whose dead time has passed (R249). -/
def State.drvDue (s : State) (u : Nat) : State :=
  let s := match (s.drv u).probeEnd with
    | some e =>
      if e ≤ s.time.ns then
        (s.modDrv u fun d => { d with probeEnd := none }).each (upTo 3) fun s x => s.command u x false false
      else s
    | none => s
  s.each (upTo 4) fun s x => s.sendEdges u x

/-- The trip inputs as a command finds them, then what the counters have brought. -/
def State.drvSees (s : State) (d : DrvIn) : State := (s.seeInputs d.unit.val d.inputs).drvDue d.unit.val

/-- Time passes to a command of unit u at `t`. -/
def State.drvElapse (s : State) (u t : Nat) : State := (s.elapse t).drvDue u

/-- A unit enters a motor state (R278): counters of the state begin again, but for the periods of low confidence, which R270 counts
across RUN and REGEN; COAST, and CATCH after observer loss, are contained faults. FAULT raises its fault where it is entered. -/
def State.motTo (s : State) (u st : Nat) (obs : Bool := false) : State :=
  if s.mstate u = st then s
  else
    let from_ := s.mstate u
    let looped := fun (k : Nat) => decide (k = msRun ∨ k = msRegen)
    let s := s.modMot u fun m =>
      { m with entered := s.time.ns, lowRun := if looped from_ && looped st then m.lowRun else 0, highRun := 0, atHandover := none,
               slowSince := none, atV := false, cancelled := false, fromCatch := decide (st = msShort ∧ from_ = msCatch) }
    let s := s.when (obs && st == msCatch) fun s => (s.wr Reg.MOT_EVENT.OBS_LOST 1 u).raise 36 u
    let s := s.when (st == msCoast) (·.raise 37 u)
    (s.wr Reg.MOT_STATE.STATE st u).wr Reg.MOT_EVENT.STATE 1 u

/-- Leg mode in force (Table 11-6): mode OFF gives OFF; in MOTOR mode the phase legs and the chopper follow the motor state (Table
12-2, R280). -/
def State.legMode (s : State) (u x : Nat) : Nat :=
  let a := (s.drv u).act
  if a.mode = mdOff then 0
  else if a.mode = mdMotor then
    let m := s.mstate u
    let driving := decide (m = msStart ∨ m = msRun ∨ m = msRegen)
    if x = 3 then (if driving && !s.on Reg.MOT_STATE.CHOP_FAULT u then a.legMode.getD 3 0 else 0)
    else if driving then 1
    else if m = msShort then 2
    else 0
  else a.legMode.getD x 0

/-- Whether MOTOR mode holds the chopper switch off for d = 0 (R280). -/
def State.chopIdle (s : State) (u : Nat) : Bool := decide ((s.drv u).act.mode = mdMotor) && decide ((s.mot u).chopD = 0)

/-- R263 for a phase leg: 0 as commanded, 1 pulse suppressed, 2 full on. -/
def pulseRule (onNs offNs limit : Nat) : Nat :=
  if 0 < onNs ∧ onNs < limit then 1 else if 0 < offNs ∧ offNs < limit then 2 else 0

/-- The limit DT + MP of a leg in ns (R263); the chopper has no dead time. -/
def DrvSet.pulseLimit (a : DrvSet) (x : Nat) : Nat := (if x = 3 then 0 else 2 * a.dead.getD x 0) + 2 * a.minPulse

/-- R263 applied to phase leg x for the duty in force. -/
def State.phaseRule (s : State) (u x : Nat) : Nat :=
  let a := (s.drv u).act
  let c := a.cmp.getD x 0
  pulseRule (4 * c) (4 * (a.top - c)) (a.pulseLimit x)

/-- Whether R261 has the high side of phase leg x commanded on at `ph` ns from the valley: the 2 × CMP cycles centred on the peak. -/
def DrvSet.pwmOn (a : DrvSet) (x ph : Nat) : Bool :=
  let c := a.cmp.getD x 0
  decide (2 * a.top ≤ ph + 2 * c) && decide (ph < 2 * a.top + 2 * c)

/-- The same under the pulse rule (R263). -/
def State.phaseOn (s : State) (u x : Nat) : Bool :=
  let d := s.drv u
  match s.phaseRule u x with
  | 1 => false
  | 2 => true
  | _ => d.act.pwmOn x (s.time.ns - d.valleyAt)

/-- On-time and off-time of the chopper's switch in ns (R262). -/
def DrvSet.chopTimes (a : DrvSet) : Nat × Nat :=
  let t := 2 * a.chopTime
  let r := 2 * (a.chopPeriod - a.chopTime)
  if a.chopMode = 0 then (t, r) else (r, t)

/-- R263 applied to the chopper's values in force. -/
def State.chopRuleNow (s : State) (u : Nat) : Nat :=
  let a := (s.drv u).act
  pulseRule a.chopTimes.1 a.chopTimes.2 (a.pulseLimit 3)

/-- Whether the chopper's switch is commanded on now in leg mode PWM (R262, R263): by the time since its period began. -/
def State.chopOn (s : State) (u : Nat) : Bool :=
  let d := s.drv u
  let ph := s.time.ns - d.chopAt
  if s.chopIdle u then false
  else match s.chopRuleNow u with
    | 1 => false
    | 2 => true
    | _ => if d.act.chopMode = 0 then decide (ph < 2 * d.act.chopTime) else decide (2 * d.act.chopTime ≤ ph)

/-- The chopper's output that is not switched is held off with its clamp engaged (R262). -/
def State.clampOther (s : State) (u : Nat) : State :=
  s.modLeg u 3 fun l =>
    if (s.drv u).act.chopSide = 0 then { l with hs := { l.hs with clampAt := min l.hs.clampAt s.time.ns } }
    else { l with ls := { l.ls with clampAt := min l.ls.clampAt s.time.ns } }

/-- The commands of leg x for its leg mode now (Table 11-6, R261, R262). -/
def State.legCommand (s : State) (u x : Nat) : State :=
  let m := s.legMode u x
  if m ≠ 1 then s.command u x (decide (m = 3)) (decide (m = 2))
  else if x = 3 then
    (let on := s.chopOn u
     (if (s.drv u).act.chopSide = 0 then s.command u 3 false on else s.command u 3 on false).clampOther u)
  else s.command u x (s.phaseOn u x) (!s.phaseOn u x)

/-- Registers of what is in force: MODE_ACT and CMP_ACT of every leg, and the carrier (R261). -/
def State.showActive (s : State) (u : Nat) : State :=
  let a := (s.drv u).act
  let s := s.each (upTo 4) fun s x =>
    (s.wr Reg.DRV_LEG_STATUS.MODE_ACT (s.legMode u x) u x).wr Reg.DRV_LEG_STATUS.CMP_ACT (if x = 3 then 0 else a.cmp.getD x 0) u x
  s.wr Reg.DRV_CARRIER_ACT.TOP (if a.mode = mdOff then 0 else a.top) u

/-- All commands of a unit off (mode OFF, R260; the motor states with all gates off). -/
def State.allOff (s : State) (u : Nat) : State := s.each (upTo 4) fun s x => s.command u x false false

/-- The gates follow a motor state entered between valleys: all gates off where the state has none on, the low sides on in SHORT (Table
12-2). -/
def State.motGates (s : State) (u : Nat) : State :=
  let m := s.mstate u
  let s := s.when (decide (m ≠ msStart ∧ m ≠ msRun ∧ m ≠ msRegen)) fun s =>
    (s.modDrv u fun d => { d with probeEnd := none }).each (upTo 4) fun s x => s.command u x false (decide (m = msShort ∧ x < 3))
  (s.driveUnit u).showActive u

/-- Chopper failure (R281): CHOP_FAULT, the chopper held off, and REGEN left for SHORT or COAST. -/
def State.chopFail (s : State) (u : Nat) : State :=
  let s := s.when (!s.on Reg.MOT_STATE.CHOP_FAULT u) fun s =>
    ((s.wr Reg.MOT_STATE.CHOP_FAULT 1 u).wr Reg.MOT_EVENT.CHOP_FAULT 1 u).bump Reg.MOT_COUNT.CHOP_FAULTS 1 u
  let s := s.modMot u fun m => { m with fullSince := none, chopD := 0 }
  let s := (s.wr Reg.MOT_BUS.CHOP_D 0 u).command u 3 false false
  let s := if s.mstate u = msRegen then
      (let slow := decide ((s.rdS Reg.MOT_SPEED.EST u).natAbs ≤ (s.motCfg u).shortBrake)
       s.motTo u (if slow then msShort else msCoast))
    else s
  s.motGates u

/-- A unit in MOTOR mode enters FAULT, a contained fault (R278, Table 17-1). -/
def State.motFault (s : State) (u : Nat) : State :=
  if s.mstate u = msFault then s else (s.raise 34 (4 * u + s.rd Reg.DRV_STATUS.LATCH_CAUSE u)).motTo u msFault

/-- The latch as the logic side learns it (R257): its registers, its fault, and FAULT in MOTOR mode, which raises that bit only. -/
def State.showLatch (s : State) (u : Nat) : State :=
  let cause := (s.drv u).latched
  if !s.on Reg.DRV_STATUS.LINK u || s.on Reg.DRV_STATUS.LATCHED u || decide (cause = 0) then s
  else
    let s := ((s.wr Reg.DRV_STATUS.LATCHED 1 u).wr Reg.DRV_STATUS.LATCH_CAUSE cause u).wr Reg.DRV_EVENT.LATCH 1 u
    let s := s.raise 34 (4 * u + cause)
    let s := s.when (decide ((s.drv u).act.mode = mdMotor)) fun s => (s.motTo u msFault).motGates u
    s.showActive u

/-- UNIT_LATCH (R257): the drive side holds every gate of the unit off, with the Miller clamps of the outputs that are not in their
soft phase engaged. -/
def State.latchUnit (s : State) (u cause : Nat) : State :=
  if (s.drv u).latched ≠ 0 then s
  else
    let s := (s.modDrv u fun d => { d with latched := cause }).driveUnit u
    let now := s.time.ns
    let s := s.each (upTo 4) fun s x => s.modLeg u x fun l =>
      { l with hs := { l.hs with clampAt := if now < l.hs.softEnd then l.hs.clampAt else min l.hs.clampAt now },
               ls := { l.ls with clampAt := if now < l.ls.softEnd then l.ls.clampAt else min l.ls.clampAt now } }
    s.showLatch u

/-- The latch that a trip at grid instant `g` on leg x completes, from the trips before it, newest first (R257): 1 MULTI_LEG, 2
REPEAT, 0 none. -/
def latchRule (trips : List (Nat × Nat)) (g x : Nat) : Nat :=
  if trips.any (fun p => p.2 != x && decide (g < p.1 + 10000)) then 1
  else match trips[1]? with
    | some p => if g < p.1 + 100000000 then 2 else 0
    | none => 0

/-- The logic side takes the report of a trip of leg x (R255): cause 1 DESAT_HS, 2 DESAT_LS, 3 INSTANT. -/
def State.tripReport (s : State) (u x cause : Nat) : State :=
  let s := (s.bump Reg.DRV_TRIP.COUNT 1 u).wr Reg.DRV_TRIP.LAST_LEG x u
  let s := (s.wr Reg.DRV_TRIP.LAST_CAUSE cause u).wr64 Reg.DRV_TRIP_NS_LO.NS Reg.DRV_TRIP_NS_HI.NS s.count u
  (s.wr Reg.DRV_EVENT.TRIP 1 u).raise 33 (4 * u + x)

/-- The motor control's answer to the report of a trip (R281, R283). -/
def State.motTrip (s : State) (u x : Nat) : State :=
  let m := s.mstate u
  if (s.drv u).act.mode ≠ mdMotor then s
  else if x = 3 then s.chopFail u
  else if m = msStart ∨ m = msRun ∨ m = msRegen ∨ m = msShort then (s.motTo u msCatch).motGates u
  else s

/-- A trip of leg x (R255, R257) and its report; while the link is down the report waits for it. -/
def State.trip (s : State) (u x cause : Nat) : State :=
  let s := s.modLeg u x fun l =>
    { l with tripHs := l.tripHs || decide (cause = 1), tripLs := l.tripLs || decide (cause = 2), tripIs := l.tripIs || decide (cause = 3) }
  let s := s.seeInputs u (setBit (s.drv u).inputs (4 * x + cause - 1))
  let s := (s.showLegFaults u).driveLeg u x true s.time.ns
  let g := s.time.ns / 50 * 50
  let old := (s.drv u).trips
  let s := s.modDrv u fun d => { d with trips := ((g, x) :: d.trips).take 4 }
  let k := latchRule old g x
  let s := if s.on Reg.DRV_STATUS.LINK u then s.tripReport u x cause
    else s.modDrv u fun d => { d with unreported := d.unreported ++ [(x, cause)] }
  s.when (decide (k ≠ 0)) (·.latchUnit u k)

/-- A trip, then the logic side's answer with the trip inputs at the levels they have when the report reaches it. -/
def State.tripSeen (s : State) (u x cause inputs : Nat) : State :=
  let s := (s.trip u x cause).seeInputs u inputs
  s.when (s.on Reg.DRV_STATUS.LINK u) (·.motTrip u x)

/-- Whether the DESAT comparator of an output is looked at now (R251): the output commanded on, the blanking window of its turn-on
edge and the 150 ns of detection past. -/
def State.desatSeen (s : State) (u x : Nat) (high : Bool) : Bool :=
  let l := s.leg u x
  let g := if high then l.hs else l.ls
  s.hasUnit u && g.on && decide (g.since + 100 * (s.drv u).act.blank + 150 ≤ s.time.ns)

/-- DESAT_TRIP: the trip inputs are those that the logic side finds as the report reaches it. -/
def execDesatTrip (drv : DrvIn) (leg : Fin 4) (high : Bool) (t : Nat) (s : State) : Host.Outcome State Fault Refusal :=
  let u := drv.unit.val
  let s := s.drvElapse u t
  done (if s.desatSeen u leg.val high then s.tripSeen u leg.val (if high then 1 else 2) drv.inputs else s)

/-- The instant-trip comparator of a phase leg (R252): no blanking, no filter and no condition on the link or the latch. -/
def State.instantTrip (s : State) (u x inputs : Nat) : State := if s.hasUnit u then s.tripSeen u x 3 inputs else s

/-- INSTANT_TRIP: the trip inputs as in DESAT_TRIP. -/
def execInstantTrip (drv : DrvIn) (leg : Fin 3) (t : Nat) (s : State) : Host.Outcome State Fault Refusal :=
  done ((s.drvElapse drv.unit.val t).instantTrip drv.unit.val leg.val drv.inputs)

/-- Every leg waits for its next input edge (R253, R259). -/
def State.waitEdges (s : State) (u : Nat) : State :=
  s.each (upTo 4) fun s x => s.modLeg u x fun l => { l with waitEdge := true }

/-- VDRV undervoltage as the logic side knows it (R253, R35): reported by the drive side, or known from its absence. -/
def State.showVdrv (s : State) (u : Nat) : State :=
  let ok := (s.drv u).vdrv
  let s := s.wr Reg.DRV_STATUS.VDRV_OK (b01 ok) u
  s.each (upTo 4) fun s x => s.wr Reg.DRV_LEG_STATUS.UVLO (b01 (!ok)) u x

/-- A unit without VDRV is treated as faulted (R35). DESIGN CHOICE (assumption 38): in MOTOR mode it enters FAULT, and leaves it for IDLE, or SAFE_OFF
without its enable, once VDRV is back and no latch stands. -/
def State.vdrvMotor (s : State) (u : Nat) : State :=
  if (s.drv u).act.mode ≠ mdMotor then s
  else if !(s.drv u).vdrv then (s.motFault u).motGates u
  else if s.mstate u = msFault ∧ !s.on Reg.DRV_STATUS.LATCHED u then
    (s.motTo u (if s.on Reg.DRV_STATUS.ENABLE u then msIdle else msSafeOff)).motGates u
  else s

/-- VDRVu stays below 12.5 V for 1 µs (R253). -/
def State.vdrvUvlo (s : State) (u : Nat) : State :=
  if !s.hasUnit u then s
  else
    let s := { s with power := { s.power with sinceVdrvLow := Tbl.put 0 s.power.sinceVdrvLow u (s.time.ns + 1) } }
    let s := ((s.modDrv u fun d => { d with vdrv := false }).waitEdges u).driveUnit u
    s.when (!s.power.held) fun s => ((s.showVdrv u).wr Reg.DRV_EVENT.UVLO 1 u).vdrvMotor u

/-- VDRV_UVLO. -/
def execVdrvUvlo (unit : Fin 4) (t : Nat) (s : State) : Host.Outcome State Fault Refusal :=
  done ((s.drvElapse unit.val t).vdrvUvlo unit.val)

/-- VDRVu has stayed above 13.5 V for 10 µs (R253). -/
def State.vdrvRecover (s : State) (u : Nat) : State :=
  if !s.hasUnit u then s
  else
    let s := { s with power := { s.power with sinceVdrvLow := Tbl.put 0 s.power.sinceVdrvLow u 0 } }
    let s := ((s.modDrv u fun d => { d with vdrv := true }).waitEdges u).driveUnit u
    s.when (!s.power.held) fun s => (s.showVdrv u).vdrvMotor u

/-- VDRV_RECOVER. -/
def execVdrvRecover (unit : Fin 4) (t : Nat) (s : State) : Host.Outcome State Fault Refusal :=
  done ((s.drvElapse unit.val t).vdrvRecover unit.val)

/-- VBx − SHx stays below 9.0 V for 500 ns while the high side is on or commanded on (R253). -/
def State.vbUndervoltage (s : State) (u x : Nat) : State :=
  if !s.hasUnit u || !(s.leg u x).hsSent then s
  else
    let s := s.modLeg u x fun l => { l with vbUv := true }
    let s := s.seeInputs u (setBit (s.drv u).inputs (4 * x + 3))
    (s.showLegFaults u).driveLeg u x false s.time.ns

/-- VB_UNDERVOLTAGE. -/
def execVbUndervoltage (unit : Fin 4) (leg : Fin 4) (t : Nat) (s : State) : Host.Outcome State Fault Refusal :=
  done ((s.drvElapse unit.val t).vbUndervoltage unit.val leg.val)

/-- Both commands of a leg on at the same instant at the drive side (R248). -/
def State.gateInterlock (s : State) (u x : Nat) : State :=
  if !s.hasUnit u || !s.on Reg.DRV_STATUS.LINK u then s
  else
    let first := decide (s.rd Reg.DRV_LEG_COUNT.INTERLOCK u x = 0)
    let s := s.bump Reg.DRV_LEG_COUNT.INTERLOCK 1 u x
    let s := s.when first (·.raise 35 (4 * u + x))
    (s.modLeg u x fun l => { l with interlock := true }).driveLeg u x false s.time.ns

/-- GATE_INTERLOCK. -/
def execGateInterlock (unit : Fin 4) (leg : Fin 4) (t : Nat) (s : State) : Host.Outcome State Fault Refusal :=
  done ((s.drvElapse unit.val t).gateInterlock unit.val leg.val)

/-- Drive-die shutdown (R254, R393): latched on the drive side, a contained fault each time. -/
def State.driveOt (s : State) (u : Nat) : State :=
  if !s.hasUnit u || (s.drv u).otLatch then s
  else
    let s := s.modDrv u fun d => { d with otLatch := true }
    let s := s.when (s.on Reg.DRV_STATUS.LINK u) fun s => (s.wr Reg.DRV_STATUS.OT_SHUT 1 u).wr Reg.DRV_EVENT.OT_SHUT 1 u
    (s.raise 43 u).driveUnit u

/-- DRIVE_OT_SHUTDOWN. -/
def execDriveOtShutdown (unit : Fin 4) (t : Nat) (s : State) : Host.Outcome State Fault Refusal :=
  done ((s.drvElapse unit.val t).driveOt unit.val)

/-- The shutdown latch is released once VDRVu has been below its limit for 10 ms (R393). -/
def State.driveOtRelease (s : State) (u : Nat) : State :=
  let since := Tbl.look 0 s.power.sinceVdrvLow u
  if (s.drv u).otLatch && decide (0 < since) && decide (since + 9999999 ≤ s.time.ns) then
    let s := s.modDrv u fun d => { d with otLatch := false }
    (s.when (s.on Reg.DRV_STATUS.LINK u) (·.wr Reg.DRV_STATUS.OT_SHUT 0 u)).driveUnit u
  else s

/-- DRIVE_OT_RELEASE. -/
def execDriveOtRelease (unit : Fin 4) (t : Nat) (s : State) : Host.Outcome State Fault Refusal :=
  done ((s.drvElapse unit.val t).driveOtRelease unit.val)

/-- The band of a reading in 1/8 °C with 3 °C of hysteresis on the way down (R395, Table 18-10); `t8` is in the t_hs coding. -/
def bandOf (t8 old : Nat) : Nat :=
  let up := b01 (decide (512 ≤ t8)) + b01 (decide (1192 ≤ t8)) + b01 (decide (1352 ≤ t8))
  let down := b01 (decide (488 ≤ t8)) + b01 (decide (1168 ≤ t8)) + b01 (decide (1328 ≤ t8))
  if old < up then up else if down < old then down else old

/-- The drive side reads its die sensor (R246, R254): the band moves, or stays at the last valid one (R394). -/
def State.driveBand (s : State) (u t8 : Nat) (valid : Bool) : State :=
  if !s.hasUnit u || !valid then s
  else
    let b := bandOf t8 (s.drv u).band
    let moved := decide (b ≠ (s.drv u).band)
    let s := s.modDrv u fun d => { d with band := b }
    if s.on Reg.DRV_STATUS.LINK u then
      ((s.when moved (·.evBit Reg.THERMAL_EVENT.EVENTS 5)).wr Reg.DRV_STATUS.BAND b u).wr Reg.THERMAL_BAND.DRV
        (let w := s.rd Reg.THERMAL_BAND.DRV
         w - bitsOf w (2 * u) 2 * 4 ^ u + b * 4 ^ u)
    else s

/-- DRIVE_BAND_CHANGE: `celsius8` is the reading in the t_hs coding. -/
def execDriveBandChange (unit : Fin 4) (celsius8 : Nat) (valid : Bool) (t : Nat) (s : State) : Host.Outcome State Fault Refusal :=
  done ((s.elapse t).driveBand unit.val celsius8 valid)

/-- The gate-command channel is silent for 1.0 µs (R18). -/
def State.linkLost (s : State) (u : Nat) : State :=
  if !s.hasUnit u || !s.on Reg.DRV_STATUS.LINK u then s
  else
    let s := (s.wr Reg.DRV_STATUS.LINK 0 u).wrBit Reg.DOMAIN_STATE.DRV_LINK u false
    ((s.wr Reg.DRV_EVENT.LINK 1 u).waitEdges u).driveUnit u

/-- BARRIER_LINK_LOST. -/
def execBarrierLinkLost (unit : Fin 4) (t : Nat) (s : State) : Host.Outcome State Fault Refusal :=
  done ((s.drvElapse unit.val t).linkLost unit.val)

/-- The barrier link is up (R18, R257, R239): after a DEV reset the drive side clears its fault state; else it reports the trips and
the latch taken meanwhile. Its status is shown again, and the ΔΣ filters restart. -/
def State.linkRecover (s : State) (u : Nat) : State :=
  if !s.hasUnit u || s.power.held || s.on Reg.DRV_STATUS.LINK u then s
  else
    let s := (s.wr Reg.DRV_STATUS.LINK 1 u).wrBit Reg.DOMAIN_STATE.DRV_LINK u true
    let s := (s.wr Reg.DRV_EVENT.LINK 1 u).dsRestart u
    let s := (s.showVdrv u).wr Reg.DRV_STATUS.OT_SHUT (b01 (s.drv u).otLatch) u
    let s := s.wr Reg.DRV_STATUS.BAND (s.drv u).band u
    let s := s.when (!(s.drv u).linkSeen) fun s =>
      (s.modDrv u fun d => { d with trips := [], latched := 0, unreported := [], linkSeen := true }).each (upTo 4) fun s x =>
        s.modLeg u x fun l => { l with tripHs := false, tripLs := false, tripIs := false, vbUv := false, interlock := false }
    let s := (s.showLegFaults u).showInputs u
    let told := (s.drv u).unreported
    let s := ((s.modDrv u fun d => { d with unreported := [] }).waitEdges u).driveUnit u
    (s.each told fun s p => (s.tripReport u p.1 p.2).motTrip u p.1).showLatch u

/-- BARRIER_LINK_RECOVER: `inputs` are the levels of the trip inputs as the link comes back. -/
def execBarrierLinkRecover (unit : Fin 4) (inputs t : Nat) (s : State) : Host.Outcome State Fault Refusal :=
  done (((s.elapse t).drvSees ⟨unit, inputs⟩).linkRecover unit.val)

/-- The safety enable at the drive side changes (R287, Table 11-4, Table 12-2): active only while both units' enables are. -/
def State.enableChange (s : State) (u : Nat) (active : Bool) : State :=
  let both := hasBit (s.rd Reg.SAFE_FIRE.DRV_A) u && hasBit (s.rd Reg.SAFE_FIRE.DRV_B) u
  if !s.hasUnit u || (active && !both) then s
  else
    let motor := decide ((s.drv u).act.mode = mdMotor)
    let s := s.wr Reg.DRV_STATUS.ENABLE (b01 active) u
    let m := s.mstate u
    if active then
      let s := s.when (motor && m == msSafeOff) fun s =>
        (s.motTo u (if s.rdS Reg.MOT_CMD.CMD u = 0 then msIdle else msCatch)).motGates u
      s.driveUnit u
    else
      let s := (s.waitEdges u).driveUnit u
      (s.when (motor && m != msFault) fun s => (s.motTo u msSafeOff).motGates u).showActive u

/-- DRIVE_ENABLE_CHANGE. -/
def execDriveEnableChange (unit : Fin 4) (active : Bool) (t : Nat) (s : State) : Host.Outcome State Fault Refusal :=
  done ((s.drvElapse unit.val t).enableChange unit.val active)

/-- The latch clear of R258, honoured only where its conditions hold at that instant; it also clears CHOP_FAULT (R281) and ends FAULT. -/
def State.latchClear (s : State) (u : Nat) : State :=
  let w := (s.drv u).inputs
  let ok := s.on Reg.DRV_STATUS.VDRV_OK u && s.on Reg.DRV_STATUS.LINK u
    && (upTo 4).all fun x => !hasBit w (4 * x) && !hasBit w (4 * x + 1) && !hasBit w (4 * x + 2)
  if !s.on Reg.DRV_STATUS.LATCHED u then s
  else if !ok then s.wr Reg.DRV_EVENT.CLEAR_REFUSED 1 u
  else
    let s := (s.wr Reg.DRV_STATUS.LATCHED 0 u).wr Reg.DRV_STATUS.LATCH_CAUSE 0 u
    let s := (s.modDrv u fun d => { d with trips := [], latched := 0 }).wr Reg.MOT_STATE.CHOP_FAULT 0 u
    let s := s.driveUnit u
    (s.when (s.mstate u == msFault) fun s =>
      (s.motTo u (if s.on Reg.DRV_STATUS.ENABLE u then msIdle else msSafeOff)).motGates u).showActive u

/-- CLEAR_COUNTS: the leg counts and the trip count (DRV_CTRL). -/
def State.clearDrvCounts (s : State) (u : Nat) : State :=
  let s := s.each (upTo 4) fun s x =>
    ((s.wr Reg.DRV_LEG_COUNT.SUPPRESSED 0 u x).wr Reg.DRV_LEG_COUNT.FULL_ON 0 u x).wr Reg.DRV_LEG_COUNT.INTERLOCK 0 u x
  s.wr Reg.DRV_TRIP.COUNT 0 u

/-- A write of DRV_CTRL: MODE staged, CLEAR_COUNTS, and LATCH_CLEAR with its unlock code in the same write. -/
def State.drvCtrlWrite (s : State) (u value : Nat) : State :=
  if !s.hasUnit u then s
  else
    let s := s.wr Reg.DRV_CTRL.MODE (value % 4) u
    let s := s.when (hasBit value 3) (·.clearDrvCounts u)
    s.when (hasBit value 2 && bitsOf value 16 16 == 0x6C1D) (·.latchClear u)

/-- DRV_LATCH_CLEAR. -/
def execDrvLatchClear (drv : DrvIn) (value t : Nat) (s : State) : Host.Outcome State Fault Refusal :=
  done (((s.drvElapse drv.unit.val t).seeInputs drv.unit.val drv.inputs).drvCtrlWrite drv.unit.val value)

/-- DRV_CLEAR_COUNTS. -/
def execDrvClearCounts (unit : Fin 4) (s : State) : Host.Outcome State Fault Refusal :=
  done (if s.hasUnit unit.val then s.clearDrvCounts unit.val else s)

/-- The staged set of unit u, as its registers hold it (R264). -/
def State.stagedDrv (s : State) (u : Nat) : DrvSet :=
  { mode := s.rd Reg.DRV_CTRL.MODE u, top := s.rd Reg.DRV_CARRIER.TOP u, src := s.rd Reg.DRV_GATE.SRC u,
    snk := s.rd Reg.DRV_GATE.SNK u, soft := s.rd Reg.DRV_GATE.SOFT u, chSrc := s.rd Reg.DRV_GATE.CH_SRC u,
    chSnk := s.rd Reg.DRV_GATE.CH_SNK u, chSoft := s.rd Reg.DRV_GATE.CH_SOFT u, tempComp := s.on Reg.DRV_GATE.TEMP_COMP u,
    blank := s.rd Reg.DRV_PROT.BLANK u, minPulse := s.rd Reg.DRV_PROT.MIN_PULSE u, chopMode := s.rd Reg.DRV_CHOP_CFG.MODE u,
    chopSide := s.rd Reg.DRV_CHOP_CFG.SIDE u, chopTime := s.rd Reg.DRV_CHOP_CFG.TIME u,
    chopPeriod := s.rd Reg.DRV_CHOP_PERIOD.PERIOD u, dead := (upTo 3).map fun x => s.rd Reg.DRV_LEG_CFG.DEADTIME u x,
    legMode := (upTo 4).map fun x => s.rd Reg.DRV_LEG_CFG.MODE u x, cmp := (upTo 3).map fun x => s.rd Reg.DRV_LEG_DUTY.CMP u x }

/-- The check of R265 on one staged set. In MOTOR mode the phase duties and leg modes are not looked at; the control switches the
phase legs in PWM, so the period rule is. -/
def DrvSet.loads (a : DrvSet) : Bool :=
  let motor := decide (a.mode = mdMotor)
  let pwm := fun x => motor || decide (a.legMode.getD x 0 = 1)
  (motor || (upTo 3).all fun x => decide (a.cmp.getD x 0 ≤ a.top))
    && decide (a.chopTime ≤ a.chopPeriod)
    && decide (2500 ≤ a.top) && decide (a.top ≤ 125000)
    && decide (500 ≤ a.chopPeriod) && decide (a.chopPeriod ≤ 5000000)
    && ((upTo 3).all fun x => decide (25 ≤ a.dead.getD x 0) && decide (a.dead.getD x 0 ≤ 2500))
    && decide (5 ≤ a.blank) && decide (a.blank ≤ 60) && decide (a.minPulse ≤ 500)
    && (upTo 3).all fun x => !pwm x || decide (2 * a.pulseLimit x ≤ 4 * a.top)

/-- A pending set has taken effect in both of its parts (R264). -/
def State.loadDone (s : State) (u : Nat) : State :=
  if (s.drv u).phase.isNone && (s.drv u).chop.isNone then
    let s := (s.wr Reg.DRV_STATUS.LOAD_PENDING 0 u).wrBit Reg.DRV_LOAD_STATUS.DONE u true
    (s.wrBit Reg.DRV_LOADALL.UNITS u false).wr Reg.DRV_EVENT.LOAD_DONE 1 u
  else s

/-- The chopper values of a pending set take effect (R262, R264); in MOTOR mode the control sets the period (R280). -/
def State.applyChop (s : State) (u : Nat) : State :=
  match (s.drv u).chop with
  | none => s
  | some n =>
    let s := s.modDrv u fun d =>
      { d with chop := none, chopLoaded := n.chopPeriod,
               act := { d.act with chopMode := n.chopMode, chopSide := n.chopSide, chopTime := n.chopTime,
                                   chopPeriod := if d.act.mode = mdMotor then d.act.chopPeriod else n.chopPeriod,
                                   legMode := d.act.legMode.take 3 ++ List.replicate (3 - d.act.legMode.length) 0 ++ [n.legMode.getD 3 0] } }
    s.loadDone u

/-- The phase-leg values, TOP, gate codes, protection values and mode of a pending set take effect (R264, R260): a unit that
enters mode OFF stops both counters, one that leaves MOTOR gets its loaded chopper period back at the next boundary. -/
def State.applyPhase (s : State) (u : Nat) : State :=
  match (s.drv u).phase with
  | none => s
  | some n =>
    let old := (s.drv u).act
    let motor := decide (n.mode = mdMotor)
    let was := decide (old.mode = mdMotor)
    let cMode := old.legMode.getD 3 0
    let act := { n with
      cmp := if motor then (if was then old.cmp else [0, 0, 0]) else n.cmp,
      legMode := n.legMode.take 3 ++ [cMode], chopMode := old.chopMode, chopSide := old.chopSide, chopTime := old.chopTime,
      chopPeriod := old.chopPeriod }
    let s := s.modDrv u fun d =>
      { d with phase := none, act := act, chopNext := if was && !motor then some d.chopLoaded else d.chopNext }
    let s := s.when (motor && !was) fun s =>
      let s := s.modMot u fun m => { m with goodAt := s.time.ns, refQ := 0, fullSince := none }
      if s.on Reg.DRV_STATUS.LATCHED u || !(s.drv u).vdrv then s.motFault u
      else s.motTo u (if s.on Reg.DRV_STATUS.ENABLE u then msIdle else msSafeOff)
    let s := s.when (!motor && was) (·.motTo u 0)
    let s := s.when (decide (n.mode = mdOff)) fun s => (s.allOff u).applyChop u
    let s := s.when (s.drv u).together (·.applyChop u)
    s.loadDone u

/-- A valley of the carrier of unit u at instant `v` (R261): pending phase values take effect. -/
def State.valleyStart (s : State) (u v : Nat) : State :=
  (s.modDrv u fun d => { d with valleyAt := v }).applyPhase u

/-- The phase legs' commands for the period that starts, counted by the pulse rule (R261, R263); a probe that has begun keeps its
own (R282). -/
def State.valleyLegs (s : State) (u : Nat) : State :=
  let s := s.each (upTo 3) fun s x =>
    let k := if s.legMode u x = 1 then s.phaseRule u x else 0
    let s := s.when (decide (k = 1)) (·.bump Reg.DRV_LEG_COUNT.SUPPRESSED 1 u x)
    let s := s.when (decide (k = 2)) (·.bump Reg.DRV_LEG_COUNT.FULL_ON 1 u x)
    s.when (s.drv u).probeEnd.isNone (·.legCommand u x)
  s.showActive u

/-- A period of the chopper starts at instant `v` (R262, R263): pending values take effect, the pulse rule is judged with DT = 0. -/
def State.chopStart (s : State) (u v : Nat) : State :=
  let s := s.modDrv u fun d =>
    { d with chopAt := v, chopNext := none, act := { d.act with chopPeriod := d.chopNext.getD d.act.chopPeriod } }
  let s := s.applyChop u
  let k := if s.legMode u 3 = 1 ∧ !s.chopIdle u then s.chopRuleNow u else 0
  let s := s.when (decide (k = 1)) (·.bump Reg.DRV_LEG_COUNT.SUPPRESSED 1 u 3)
  let s := s.when (decide (k = 2)) (·.bump Reg.DRV_LEG_COUNT.FULL_ON 1 u 3)
  (s.legCommand u 3).showActive u

/-- Whether DRV_SYNC has aligned the carrier of unit u with that of another unit and they are still aligned (R266): restarted together,
of equal TOP, with valleys a whole number of periods apart. -/
def State.alignedUnit (s : State) (u : Nat) : Bool :=
  let d := s.drv u
  (upTo 4).any fun v =>
    let e := s.drv v
    v != u && hasBit d.group v && hasBit e.group u && e.act.top == d.act.top && d.act.mode != mdOff && e.act.mode != mdOff
      && d.valleyAt % (4 * d.act.top) == e.valleyAt % (4 * d.act.top)

/-- LOADALL of one unit that passed the check (R264): pending, or in force at once in a unit that is OFF, whose counters then start. -/
def State.loadUnit (s : State) (u : Nat) : State :=
  let n := s.stagedDrv u
  let aligned := s.alignedUnit u
  let s := s.modDrv u fun d => { d with phase := some n, chop := some n, together := aligned }
  let s := (s.wr Reg.DRV_STATUS.LOAD_PENDING 1 u).wrBit Reg.DRV_LOADALL.UNITS u true
  if (s.drv u).act.mode = mdOff then
    let s := ((s.modDrv u fun d => { d with group := 0 }).applyChop u).valleyStart u s.time.ns
    if (s.drv u).act.mode = mdOff then s.showActive u else (s.valleyLegs u).chopStart u s.time.ns
  else s

/-- DRV_LOADALL (R264, R265, R35): all named units are checked at one instant; one failure fails the write. A unit whose VDRV is
absent stages no load. -/
def State.loadAll (s : State) (units : Nat) : State :=
  let named := (upTo 4).filter fun u => hasBit units u && s.hasUnit u
  let bad := named.filter fun u => !(s.stagedDrv u).loads
  let s := s.each named fun s u => (s.wrBit Reg.DRV_LOAD_STATUS.ERR u false).wrBit Reg.DRV_LOAD_STATUS.DONE u false
  if bad.isEmpty then s.each (named.filter fun u => (s.drv u).vdrv) fun s u => (s.drvDue u).loadUnit u
  else s.each bad fun s u => (s.wrBit Reg.DRV_LOAD_STATUS.ERR u true).wr Reg.DRV_EVENT.LOAD_ERR 1 u

/-- DRV_LOADALL. -/
def execDrvLoadall (value t : Nat) (s : State) : Host.Outcome State Fault Refusal := done ((s.elapse t).loadAll value)

/-- DRV_SYNC (R266): a unit with any phase leg not in mode OFF ignores it; the others restart together. -/
def State.drvSync (s : State) (units : Nat) : State :=
  let named := (upTo 4).filter fun u => hasBit units u && s.hasUnit u
  let takes := named.filter fun u => (upTo 3).all fun x => decide (s.legMode u x = 0)
  s.each named fun s u =>
    if takes.contains u then
      ((s.modDrv u fun d => { d with sync := true, group := takes.foldl setBit 0 }).wrBit Reg.DRV_SYNC.UNITS u true).wrBit
        Reg.DRV_LOAD_STATUS.SYNC_IGNORED u false
    else s.wrBit Reg.DRV_LOAD_STATUS.SYNC_IGNORED u true

/-- DRV_SYNC. -/
def execDrvSync (value : Nat) (s : State) : Host.Outcome State Fault Refusal := done (s.drvSync value)

/-- Carriers that DRV_SYNC named restart at a valley at the tick (R266). -/
def State.syncTick (s : State) : State :=
  s.each (upTo 4) fun s u =>
    if (s.drv u).sync then
      let s := (s.modDrv u fun d => { d with sync := false }).wrBit Reg.DRV_SYNC.UNITS u false
      if (s.drv u).act.mode = mdOff then s else ((s.drvDue u).valleyStart u s.time.ns).valleyLegs u
    else s

/-- The instant of the latest boundary of a counter that began a period of `p` ns at `v`; none before its first one. -/
def boundaryAt (v p now : Nat) : Option Nat := if 0 < p ∧ v + p ≤ now then some (v + (now - v) / p * p) else none

/-- A chopper period boundary (R262): PERIOD × 2 ns after the one before. -/
def State.chopBoundary (s : State) (u : Nat) : State :=
  if !s.hasUnit u || decide ((s.drv u).act.mode = mdOff) then s
  else match boundaryAt (s.drv u).chopAt (2 * (s.drv u).act.chopPeriod) s.time.ns with
    | some v => s.chopStart u v
    | none => s

/-- CHOPPER_BOUNDARY. -/
def execChopperBoundary (drv : DrvIn) (t : Nat) (s : State) : Host.Outcome State Fault Refusal :=
  done (((s.drvElapse drv.unit.val t).seeInputs drv.unit.val drv.inputs).chopBoundary drv.unit.val)

/-- A compare or on-time boundary (R261, R262) reached by now: the high side of a phase leg in leg mode PWM, or the switch of the
chopper, is commanded as the counter has it; `high` is the level of the edge, and an edge that the counter does not give has no
effect. -/
def State.pwmEdge (s : State) (u x : Nat) (high : Bool) : State :=
  let on := if x = 3 then s.chopOn u else s.phaseOn u x
  if !s.hasUnit u || s.legMode u x != 1 || on != high then s else s.legCommand u x

/-- PWM_COMMAND_EDGE, also that of a turn-on whose dead time has passed: `inputs` are the levels of the trip inputs. -/
def execPwmCommandEdge (unit : Fin 4) (leg : Fin 4) (high : Bool) (inputs t : Nat) (s : State) :
    Host.Outcome State Fault Refusal :=
  done (((s.elapse t).drvSees ⟨unit, inputs⟩).pwmEdge unit.val leg.val high)

end Sys2Proof.Machine
end

