-- ==== Sys2Proof/Machine/Motor.lean ====
section
/-! DEFINITION. Drive units, motor control (12_drive_motor.md): the speed command from its source, the ramp, the loops, the chopper, the
motor state machine and its timed exits, R268 to R285. The observer's estimate, confidence and angle are readings of the motor and
come with the valley; the phase duties that realise the voltage commands are values the spec does not state and are free. -/

namespace Sys2Proof.Machine

/-- The sign of a command or an estimate. -/
def signI (x : Int) : Int := if 0 < x then 1 else if x < 0 then -1 else 0

/-- The latest completed output of ΔΣ channel k of unit u, and whether it is valid (R268). -/
def State.dsNow (s : State) (u k : Nat) : Int × Bool :=
  match (s.dsCh (4 * u + k)).out with
  | some o => (o.value, hasBit o.flags 0)
  | none => (0, false)

/-- The mapping of a pin source (R274). -/
def MotCfg.pinSpeed (m : MotCfg) (v : Int) : Int :=
  if v < m.inLo then 0
  else if m.inHi ≤ v then (m.spdHi : Int)
  else (m.spdLo : Int) + (((m.spdHi : Int) - m.spdLo) * (v - m.inLo)).fdiv (m.inHi - m.inLo)

/-- Linear interpolation, rounding down, over points (x, y) of rising x: the first y below them, the last y beyond them. -/
def interpolate (v : Int) : List (Int × Int) → Int
  | [] => 0
  | [p] => p.2
  | p :: q :: r =>
    if v < q.1 then (if v < p.1 then p.2 else p.2 + ((q.2 - p.2) * (v - p.1)).fdiv (q.1 - p.1)) else interpolate v (q :: r)

/-- The points of a stored curve: X_i and Y_i of R275. -/
def MotCfg.curvePoints (m : MotCfg) : List (Int × Int) :=
  (m.curve.take m.curveN).map fun p => (((p.1 + 24) * 8 : Nat), (p.2 * m.speedMax / 255 : Nat))

/-- The stored curve at T (R275): whether it is on, and its command. -/
def MotCfg.curveAt (m : MotCfg) (on : Bool) (t : Int) : Bool × Int :=
  let x0 := (m.curvePoints.headD (0, 0)).1
  let on' := if on then decide (x0 - 8 * (m.curveHyst : Int) ≤ t) else decide (x0 ≤ t)
  (on', if on' then interpolate t m.curvePoints else 0)

/-- The hottest cell junction posted by the arm slices within the last 3 frames (R34). -/
def State.hottestPosted (s : State) : Option Nat :=
  (s.cfg.arms.filterMap fun a =>
    let b := (s.arm a.arm).summary
    if b.isEmpty ∨ 3 < frameDiff s.frameNo (u32At b 0) then none else some (u16At b 54)).max?

/-- The value of an ADC entry, and whether its latest result is valid (R274, R276). -/
def State.adcInput (s : State) (srcSel : Nat) : Int × Bool :=
  let c := srcSel / 256 % 8
  let e := srcSel % 32
  (Tbl.look 0 (s.sar c).latest e, hasBit (s.rd Reg.ADC_ENTRY_RESULT.FLAGS c e) 0)

/-- The input of the unit's speed source, and whether a fresh valid value is there (R273, R274, R276); the reading of SPDu is kept
fresh by its edges. -/
def State.speedInput (s : State) (u : Nat) (m : MotCfg) : Int × Bool :=
  match m.src with
  | 0 => (s.rdS Reg.MOT_SPEED_SET.SPEED u, true)
  | 1 => s.adcInput m.srcSel
  | 4 =>
    match m.srcSel / 4096 with
    | 0 =>
      match s.hottestPosted with
      | some t => ((t : Int), true)
      | none => (s.rdS Reg.MOT_INPUT.VALUE u, false)
    | 1 => ((s.rd Reg.ADC_HK.VALUE (m.srcSel % 64) : Nat), s.on Reg.ADC_HK.VALID (m.srcSel % 64))
    | _ => s.adcInput m.srcSel
  | _ => ((s.mot u).pin, false)

/-- The deceleration that a stop of SAFE_A forces on unit u (R296). -/
def State.safeDecel (s : State) (u : Nat) : Option Nat :=
  let l := s.cfg.safety.group
  ((l.zip (upTo l.length)).find? fun p =>
    p.1.kind == 2 && hasBit p.1.driveMask u && (Tbl.look default s.safety.a.groups p.2).state == 2).map (·.1.decel)

/-- Whether shedding forces the command of unit u to 0 (R277). -/
def State.shedUnit (s : State) (m : MotCfg) : Bool := !m.priv && decide (4 ≤ s.rd Reg.POWER_SHED.STEP)

/-- The speed command of the unit after its source, its clamps, a lost signal and shedding (R273 to R277). -/
def State.speedCommand (s : State) (u : Nat) (m : MotCfg) : State :=
  let (v, fresh) := s.speedInput u m
  let (on, curve) := m.curveAt (s.on Reg.MOT_STATE.CURVE_ON u) v
  let raw : Int := match m.src with
    | 0 => if v < 0 ∧ !m.reverse then 0 else clampI (-(m.speedMax : Int)) m.speedMax v
    | 4 => if fresh then min curve m.speedMax else (s.mot u).held
    | _ => min (m.pinSpeed v) m.speedMax
  let s := s.modMot u fun x => { x with held := raw, goodAt := if fresh then s.time.ns else x.goodAt }
  let s := s.when fresh (·.wr Reg.MOT_STATE.SIGNAL_LOST 0 u)
  let s := s.when (fresh && m.src == 4) (·.wr Reg.MOT_STATE.CURVE_ON (b01 on) u)
  let s := s.wrS Reg.MOT_INPUT.VALUE v u
  let shed := s.shedUnit m
  let cmd := if (s.safeDecel u).isSome || shed then 0 else if s.on Reg.MOT_STATE.SIGNAL_LOST u then (m.failSpeed : Int) else raw
  (s.wr Reg.MOT_STATE.SHED (b01 shed) u).wrS Reg.MOT_CMD.CMD cmd u

/-- One step of the ramp of R272: `up` away from zero, `down` towards it. -/
def rampRef (ref target up down : Int) : Int :=
  if 0 ≤ ref ∧ ref ≤ target then min target (ref + up)
  else if ref ≤ 0 ∧ target ≤ ref then max target (ref - up)
  else if 0 < ref then max (max target 0) (ref - down)
  else min (min target 0) (ref + down)

/-- One period of the carrier in ns (R261). -/
def DrvSet.periodNs (a : DrvSet) : Nat := 4 * a.top

/-- The reference moves towards a target in rpm, by the ramp over one period (R272), and not away from zero while the voltage
demand is at its limit. -/
def State.rampTo (s : State) (u : Nat) (m : MotCfg) (target : Int) : State :=
  let dt : Int := (s.drv u).act.periodNs
  let x := s.mot u
  let q := target * 1000000000
  let down : Int := ((s.safeDecel u).getD m.decel : Nat) * dt
  let next := rampRef x.refQ q (if x.atV then 0 else m.accel * dt) down
  let held := x.atV && ((decide (0 ≤ x.refQ) && decide (x.refQ < q)) || (decide (x.refQ ≤ 0) && decide (q < x.refQ)))
  let s := s.modMot u fun x => { x with refQ := next }
  let s := s.when (held && !s.on Reg.MOT_STATE.VLIMIT u) (·.wr Reg.MOT_EVENT.VLIMIT 1 u)
  (s.wr Reg.MOT_STATE.VLIMIT (b01 held) u).wrS Reg.MOT_SPEED.REF (next.tdiv 1000000000) u

/-- The current limit I_LIM of R269, and whether it is reduced: at or above 135 °C until 130 °C (R391), or with no valid reading of
the die (R394). -/
def State.throttled (s : State) (u : Nat) : Bool :=
  let v := s.rd Reg.ADC_HK.VALUE (14 + u)
  if !s.on Reg.ADC_HK.VALID (14 + u) then true
  else if 1592 ≤ v then true
  else if v ≤ 1552 then false
  else s.on Reg.MOT_STATE.THROTTLE u

/-- A PI loop of R269 with the arithmetic of R165, limited to ±lim: its output, whether it is at the limit, its integrator. -/
def loopPi (e lim : Int) (kp ki : Coef) (integ : Int) : Int × Bool × Int :=
  let (y, sat, i) := blkPi e 0 0 kp ki ⟨lim, 0⟩ ⟨-lim, 0⟩ integ
  (y, sat ≠ 0, i)

/-- The advance angle γ in units of 0.5° (R271): zero in a privileged unit. -/
def MotCfg.advance (m : MotCfg) (ref : Int) : Int :=
  if m.priv then 0 else interpolate ref.natAbs (m.adv.map fun p => ((p.1 * m.speedMax / 255 : Nat), (p.2 : Int)))

/-- The phase duties that realise the voltage commands: free values up to TOP (assumption 13). -/
def State.freeDuties (s : State) (u : Nat) : State :=
  let top := (s.drv u).act.top
  let (a, s) := s.draw
  let (b, s) := s.draw
  let (c, s) := s.draw
  s.modDrv u fun d => { d with act := { d.act with cmp := [a % (top + 1), b % (top + 1), c % (top + 1)] } }

/-- The integrator from which a PI loop's next output, before its limit, is `y` (R283). -/
def integFor (y e : Int) (kp ki : Coef) : Int := (y - mulc e kp) * 65536 - rshr (e * ki.value) ki.shift

/-- The current loops (R269) for references id and iq: integrators, whether the voltage demand is at vlim, and the duties. `emf` is the
first voltage command where a catch sets it (R283). -/
def State.currentLoops (s : State) (u : Nat) (m : MotCfg) (idRef iqRef idA iqA vbus : Int) (emf : Option (Int × Int)) : State :=
  let x := s.mot u
  let kp := m.gains.getD 2 ⟨0, 0⟩
  let ki := m.gains.getD 3 ⟨0, 0⟩
  let vl := (m.vlim : Int) * vbus * 2479700525 / 2 ^ 48
  let d0 := match emf with
    | some v => integFor v.1 (idRef - idA) kp ki
    | none => x.dInt
  let q0 := match emf with
    | some v => integFor v.2 (iqRef - iqA) kp ki
    | none => x.qInt
  let (_, dSat, dInt) := loopPi (idRef - idA) vl kp ki d0
  let (_, qSat, qInt) := loopPi (iqRef - iqA) vl kp ki q0
  (s.modMot u fun x => { x with dInt := dInt, qInt := qInt, atV := dSat || qSat }).freeDuties u

/-- The closed loops of RUN and REGEN (R268, R269, R271): speed loop, advance angle, current loops, duties. -/
def State.closedLoops (s : State) (u : Nat) (m : MotCfg) (est idA iqA vbus : Int) (emf : Option (Int × Int)) : State :=
  let x := s.mot u
  let ref := x.refQ.tdiv 1000000000
  let iLim : Int := if s.on Reg.MOT_STATE.THROTTLE u then m.iMax * m.throttlePct / 100 else m.iMax
  let g := fun k => m.gains.getD k ⟨0, 0⟩
  let (i, iSat, sInt) := loopPi (ref - est) iLim (g 0) (g 1) x.speedInt
  let adv := m.advance ref
  let ang := (adv * 2 ^ 32 / 720).toNat
  let idRef := rshr (-i * sinQ30 ang) 30
  let iqRef := rshr (i * cosQ30 ang) 30
  let s := s.modMot u fun x => { x with speedInt := sInt }
  ((s.wr Reg.MOT_STATE.ILIMIT (b01 iSat) u).wrS Reg.MOT_BUS.ADV adv u).currentLoops u m idRef iqRef idA iqA vbus emf

/-- One turn in the units of MotSt.startAngle. -/
def startTurn : Nat := 60000000000000000000

/-- The angle of the open-loop vector of START in 2^-32 turn (R279). -/
def State.startTheta (s : State) (u : Nat) : Nat := (s.mot u).startAngle * 4294967296 / startTurn

/-- The open-loop vector of START (R279): i_max / 2 with γ = 0 through the current loops, at an angle that turns with the reference,
from 0 at the start (DESIGN CHOICE, assumption 46). -/
def State.openLoop (s : State) (u : Nat) (m : MotCfg) (idA iqA vbus : Int) : State :=
  let x := s.mot u
  let s := (s.wr Reg.MOT_BUS.ADV 0 u).currentLoops u m 0 (x.startSign * (m.iMax / 2 : Nat)) idA iqA vbus none
  s.modMot u fun x =>
    { x with startAngle := (((x.startAngle : Int) + x.refQ * m.polePairs * (s.drv u).act.periodNs) % (startTurn : Int)).toNat }

/-- The chopper held off (R280). -/
def State.chopHold (s : State) (u : Nat) : State :=
  ((s.modMot u fun x => { x with chopD := 0, fullSince := none }).wr Reg.MOT_BUS.CHOP_D 0 u).command u 3 false false

/-- Whether the motor state drives the gates, and the chopper with them (R280). -/
def State.motDrives (s : State) (u : Nat) : Bool :=
  let st := s.mstate u
  decide (st = msStart ∨ st = msRun ∨ st = msRegen)

/-- The chopper's duty and its period from the next boundary on (R280), and how long it has been full on (R281). -/
def State.chopper (s : State) (u : Nat) (m : MotCfg) (vbus : Int) : State :=
  let span : Int := (m.chopOn : Int) - m.chopOff
  let d : Nat := (clampI 0 65536 (((vbus - m.chopOff) * 65536).fdiv span)).toNat
  if !s.motDrives u || s.on Reg.MOT_STATE.CHOP_FAULT u || decide (d = 0) then s.chopHold u
  else
    let time := (s.drv u).act.chopTime
    let p := if d = 65536 then time else clampN 500 5000000 (time * 65536 / d)
    let s := (s.modDrv u fun v => { v with chopNext := some p }).wr Reg.DRV_CHOP_PERIOD.PERIOD p u
    let s := s.modMot u fun x =>
      { x with chopD := d, fullSince := if d = 65536 then some (x.fullSince.getD (s.time.ns, vbus)) else none }
    s.wr Reg.MOT_BUS.CHOP_D (d * 255 / 65536) u

/-- The probes of COAST and CATCH (R282): the three low sides on together, for probe_ns. -/
def State.probe (s : State) (u : Nat) (m : MotCfg) : State :=
  (s.modDrv u fun d => { d with probeEnd := some (s.time.ns + m.probeNs) }).each (upTo 3) fun s x => s.command u x false true

/-- A current above i_max / 4 ends the probing for the period (R282). -/
def State.probeOver (s : State) (u : Nat) : State :=
  let m := s.motCfg u
  if (s.drv u).probeEnd.isSome && (upTo 3).any fun k => decide (m.iMax < 4 * (s.dsNow u k).1.natAbs) then
    (s.modDrv u fun d => { d with probeEnd := none }).each (upTo 3) fun s x => s.command u x false false
  else s

/-- DS_OUTPUT: the sinc filter's output (R238), and what a probe makes of it. -/
def execDsOutput (unit : Fin 4) (channel : Fin 4) (bits : List Bool) (t : Nat) (s : State) : Host.Outcome State Fault Refusal :=
  done (((s.elapse t).dsOutput (4 * unit.val + channel.val) bits).probeOver unit.val)

/-- Entry to SHORT, COAST or REGEN for a stop from estimate `est` with command `cmd` (R280, R281, R284). -/
def State.stopFrom (s : State) (u : Nat) (m : MotCfg) (est cmd : Int) : State :=
  let s := s.modMot u fun x => { x with stopSign := signI est, reversal := decide (cmd ≠ 0 ∧ signI cmd ≠ signI est) }
  if est.natAbs ≤ m.shortBrake then s.motTo u msShort
  else s.motTo u (if s.on Reg.MOT_STATE.CHOP_FAULT u then msCoast else msRegen)

/-- The reversal that waits follows the command while a stop of R280 runs (R284); a stop of a safety function knows none (R296). A
command that changes back cancels it. -/
def State.followReversal (s : State) (u : Nat) (cmd : Int) : State :=
  s.modMot u fun x =>
    let rev := decide (x.stopSign ≠ 0 ∧ cmd ≠ 0 ∧ signI cmd ≠ x.stopSign) && (s.safeDecel u).isNone
    { x with reversal := rev, cancelled := decide (cmd ≠ 0) && !rev && (x.reversal || x.cancelled) }

/-- A catch succeeds (R283, outcome 1): the reference is the estimate. -/
def State.catchOk (s : State) (u : Nat) (m : MotCfg) (est cmd : Int) : State :=
  let s := s.modMot u fun x => { x with refQ := est * 1000000000 }
  let s := s.bump Reg.MOT_COUNT.CATCH_OK 1 u
  if cmd ≠ 0 ∧ signI cmd = signI est then s.motTo u msRun else s.stopFrom u m est cmd

/-- START becomes RUN (R279): the speed loop begins with the current of the start. -/
def State.startDone (s : State) (u : Nat) (m : MotCfg) (est : Int) : State :=
  let ref := (s.mot u).refQ.tdiv 1000000000
  let p := mulc (ref - est) (m.gains.getD 0 ⟨0, 0⟩)
  let i0 : Int := (s.mot u).startSign * (m.iMax / 2 : Nat)
  (s.modMot u fun x => { x with speedInt := (i0 - p) * 65536 }).motTo u msRun

/-- What the observer and the command make of the motor state at a valley (Table 12-2). `ok` is a period of valid results. -/
def State.motMachine (s : State) (u : Nat) (m : MotCfg) (est cmd : Int) (conf : Nat) (ok slow : Bool) : State :=
  let st := s.mstate u
  let low := !ok || decide (conf < m.confMin)
  let limit := if st = msCatch then m.confCatch else m.confMin
  let high := ok && decide (limit ≤ conf)
  let counts := fun (x : MotSt) => match st with
    | 3 => { x with lowRun := if low then x.lowRun + 1 else 0 }
    | 4 => { x with lowRun := if low then x.lowRun + 1 else 0 }
    | 2 => { x with highRun := if high && x.atHandover.isSome then x.highRun + 1 else 0 }
    | 7 => { x with highRun := if high then x.highRun + 1 else 0,
                    slowSince := if slow then some (x.slowSince.getD s.time.ns) else none }
    | _ => x
  let s := s.modMot u counts
  let x := s.mot u
  match st with
  | 1 => if cmd ≠ 0 then s.motTo u msCatch else s
  | 2 => if 8 ≤ x.highRun then s.startDone u m est else s
  | 3 =>
    if 8 ≤ x.lowRun then s.motTo u msCatch true
    else if cmd = 0 ∨ (est ≠ 0 ∧ signI cmd ≠ signI est) then s.stopFrom u m est cmd
    else s
  | 4 =>
    let s := s.followReversal u cmd
    if 8 ≤ x.lowRun then s.motTo u msCatch true
    else if est.natAbs < m.shortBrake then s.motTo u msShort
    else s
  | 5 => s.followReversal u cmd
  | 6 =>
    let s := s.followReversal u cmd
    if est.natAbs < m.shortBrake then s.motTo u msShort else s
  | 7 => if 8 ≤ x.highRun ∧ m.handover ≤ est.natAbs then s.catchOk u m est cmd else s
  | _ => s

/-- The reference in each motor state (R272, R279, R283): towards the command in RUN, to the handover speed in START, kept in
CATCH, towards 0 elsewhere, but towards the command in REGEN once a reversal was cancelled (R284). -/
def State.motRamp (s : State) (u : Nat) (m : MotCfg) (cmd : Int) : State :=
  match s.mstate u with
  | 3 => s.rampTo u m cmd
  | 2 =>
    let target := (s.mot u).startSign * (m.handover : Int)
    let s := s.rampTo u m target
    s.when (decide ((s.mot u).refQ = target * 1000000000)) fun s =>
      s.modMot u fun x => { x with atHandover := some (x.atHandover.getD s.time.ns) }
  | 4 => s.rampTo u m (if (s.mot u).cancelled then cmd else 0)
  | 7 => s.wr Reg.MOT_STATE.VLIMIT 0 u
  | _ => s.rampTo u m 0

/-- The loops and the chopper of a period of valid results (R268, R279, R280): `caught` where a catch has just succeeded. -/
def State.motLoops (s : State) (u : Nat) (m : MotCfg) (o : Observed) (caught : Bool) : State :=
  let vbus := (s.dsNow u 3).1
  let st := s.mstate u
  let ab := blkTransform 0 (s.dsNow u 0).1 (s.dsNow u 1).1 (s.dsNow u 2).1
  let angle : Nat := if st = msStart then s.startTheta u else o.theta
  let dq := blkTransform 2 (ab.getD 0 0) (ab.getD 1 0) (angle : Int)
  let idA := dq.getD 0 0
  let iqA := dq.getD 1 0
  let s := (s.wrS Reg.MOT_CURRENT.ID (sat16 idA) u).wrS Reg.MOT_CURRENT.IQ (sat16 iqA) u
  let s := if st = msStart then s.openLoop u m idA iqA vbus
    else if st = msRun ∨ st = msRegen then s.closedLoops u m o.est idA iqA vbus (if caught then some o.emf else none)
    else s
  s.chopper u m vbus

/-- MOTOR_CONTROL_RUN (R268) with the observer's outputs of this period. A result with VALID = 0 makes a period of low confidence,
in which the outputs of the previous period hold. -/
def State.motorRun (s : State) (u : Nat) (o : Observed) : State :=
  let m := s.motCfg u
  let vbus := (s.dsNow u 3).1
  let ok := (upTo 4).all fun k => (s.dsNow u k).2
  let s := s.speedCommand u m
  let cmd := s.rdS Reg.MOT_CMD.CMD u
  let s := s.wr Reg.MOT_STATE.THROTTLE (b01 (s.throttled u)) u
  let o := if ok then o else { o with est := s.rdS Reg.MOT_SPEED.EST u }
  let s := s.when ok fun s =>
    ((s.wrS Reg.MOT_SPEED.EST o.est u).wr Reg.MOT_CMD.CONF o.conf u).wr Reg.MOT_BUS.VBUS vbus.toNat u
  if ok && decide ((m.ov2 : Int) ≤ vbus) && !s.on Reg.DRV_STATUS.LATCHED u then (s.latchUnit u 3).motGates u
  else
    let was := s.mstate u
    let s := (s.motMachine u m o.est cmd o.conf ok o.slow).motRamp u m cmd
    let s := if ok then s.motLoops u m o (decide (was = msCatch)) else s.when (!s.motDrives u) (·.chopHold u)
    let st := s.mstate u
    if st = msCoast ∨ st = msCatch then s.probe u m else s

/-- CARRIER_VALLEY (R261): at the end of the period, pending phase values, the motor control in MOTOR mode, the legs of the period
that starts. -/
def State.carrierValley (s : State) (u : Nat) (o : Observed) : State :=
  if !s.hasUnit u || decide ((s.drv u).act.mode = mdOff) then s
  else match boundaryAt (s.drv u).valleyAt (s.drv u).act.periodNs s.time.ns with
    | none => s
    | some v =>
      let s := s.valleyStart u v
      if (s.drv u).act.mode = mdOff then s.showActive u
      else (s.when (decide ((s.drv u).act.mode = mdMotor)) (·.motorRun u o)).valleyLegs u

/-- CARRIER_VALLEY: `est`, `conf`, `theta`, `slow` and `emf` are the observer's outputs. -/
def execCarrierValley (drv : DrvIn) (est : Int) (conf theta : Nat) (slow : Bool) (emf : Int × Int) (t : Nat) (s : State) :
    Host.Outcome State Fault Refusal :=
  done (((s.elapse t).drvSees drv).carrierValley drv.unit.val ⟨est, conf, theta, slow, emf⟩)

/-- MOT_CHOP_RESET (R281): CHOP_FAULT clears while leg C has no leg fault. -/
def State.chopReset (s : State) (u : Nat) : State :=
  if s.hasUnit u && !hasBit (s.rd Reg.DRV_STATUS.LEG_FAULT u) 3 then s.wr Reg.MOT_STATE.CHOP_FAULT 0 u else s

/-- MOT_CHOP_RESET. -/
def execMotChopReset (unit : Fin 4) (s : State) : Host.Outcome State Fault Refusal := done (s.chopReset unit.val)

/-- chop_check_us with d = 1 and no fall of VBUS (R281). -/
def State.chopCheck (s : State) (u : Nat) : State :=
  match (s.mot u).fullSince with
  | some (t0, v0) =>
    if t0 + 1000 * (s.motCfg u).chopCheckUs ≤ s.time.ns then
      (if v0 ≤ (s.rd Reg.MOT_BUS.VBUS u : Nat) then s.chopFail u
       else s.modMot u fun x => { x with fullSince := some (s.time.ns, (s.rd Reg.MOT_BUS.VBUS u : Nat)) })
    else s
  | none => s

/-- CHOP_CHECK. -/
def execChopCheck (unit : Fin 4) (t : Nat) (s : State) : Host.Outcome State Fault Refusal := done ((s.drvElapse unit.val t).chopCheck unit.val)

/-- Whether unit u has been in a motor state for `ns`. -/
def State.stayed (s : State) (u st ns : Nat) : Bool := s.mstate u == st && decide ((s.mot u).entered + ns ≤ s.time.ns)

/-- 1 s at handover_speed without CONF (R279). -/
def State.startFail (s : State) (u : Nat) : State :=
  match (s.mot u).atHandover with
  | some t0 =>
    if s.mstate u = msStart ∧ t0 + 1000000000 ≤ s.time.ns then
      ((s.bump Reg.MOT_COUNT.START_FAIL 1 u).motTo u msStopseq).motGates u
    else s
  | none => s

/-- START_FAIL. -/
def execStartFail (unit : Fin 4) (t : Nat) (s : State) : Host.Outcome State Fault Refusal := done ((s.drvElapse unit.val t).startFail unit.val)

/-- 200 ms in CATCH (R283, outcome 3). -/
def State.catchTimeout (s : State) (u : Nat) : State :=
  if s.stayed u msCatch 200000000 then
    (((s.bump Reg.MOT_COUNT.CATCH_FAIL 1 u).wr Reg.MOT_EVENT.CATCH_FAIL 1 u).motTo u msStopseq).motGates u
  else s

/-- CATCH_TIMEOUT. -/
def execCatchTimeout (unit : Fin 4) (t : Nat) (s : State) : Host.Outcome State Fault Refusal :=
  done ((s.drvElapse unit.val t).catchTimeout unit.val)

/-- A back-EMF below shortbrake_speed for 20 ms (R283, outcome 2). -/
def State.catchSlow (s : State) (u : Nat) : State :=
  match (s.mot u).slowSince with
  | some t0 =>
    if s.mstate u = msCatch ∧ t0 + 20000000 ≤ s.time.ns then
      ((s.modMot u fun x => { x with stopSign := 0, reversal := false }).motTo u msShort).motGates u
    else s
  | none => s

/-- CATCH_SLOW. -/
def execCatchSlow (unit : Fin 4) (t : Nat) (s : State) : Host.Outcome State Fault Refusal := done ((s.drvElapse unit.val t).catchSlow unit.val)

/-- The end of short_ms (R280, R284): START for a reversal or after a slow catch with a command, else IDLE. -/
def State.shortEnd (s : State) (u : Nat) : State :=
  if s.stayed u msShort (1000000 * (s.motCfg u).shortMs) then
    let x := s.mot u
    let cmd := s.rdS Reg.MOT_CMD.CMD u
    let go := x.reversal || (x.fromCatch && decide (cmd ≠ 0))
    let s := s.modMot u fun x => { x with refQ := 0, reversal := false, stopSign := 0, startSign := signI cmd, startAngle := 0 }
    ((s.wr Reg.MOT_SPEED.REF 0 u).motTo u (if go then msStart else msIdle)).motGates u
  else s

/-- SHORT_END. -/
def execShortEnd (unit : Fin 4) (t : Nat) (s : State) : Host.Outcome State Fault Refusal := done ((s.drvElapse unit.val t).shortEnd unit.val)

/-- The end of stop_coast_ms (Table 12-2). -/
def State.stopseqEnd (s : State) (u : Nat) : State :=
  if s.stayed u msStopseq (1000000 * (s.motCfg u).stopCoastMs) then
    ((s.modMot u fun x => { x with stopSign := 0, reversal := false }).motTo u msShort).motGates u
  else s

/-- STOPSEQ_COAST_END. -/
def execStopseqCoastEnd (unit : Fin 4) (t : Nat) (s : State) : Host.Outcome State Fault Refusal :=
  done ((s.drvElapse unit.val t).stopseqEnd unit.val)

/-- Whether an edge on SPDu is one that the glitch filter lets through (R274; its form is a DESIGN CHOICE, assumption 47): a change
of the filtered level, and at least capfilt µs after the one before, since a level has to stand that long. -/
def State.spdPasses (s : State) (u : Nat) (high : Bool) : Bool :=
  let x := s.mot u
  s.hasUnit u && high != x.spdHigh && match x.spdAt with
    | some a => decide (a + 1000 * (s.motCfg u).capfilt ≤ s.time.ns)
    | none => true

/-- A filtered edge on SPDu (R274): at a rising edge the period just ended gives the duty in 0.01 % or the frequency in 0.1 Hz. -/
def State.spdEdge (s : State) (u : Nat) (high : Bool) : State :=
  if !s.spdPasses u high then s
  else
    let now := s.time.ns
    let src := (s.motCfg u).src
    let s := s.modMot u fun x =>
      let span := match x.riseAt with
        | some r => now - r
        | none => 0
      let pin : Int := if high && decide (0 < span) then ((if src = 2 then x.highNs * 10000 / span else 10000000000 / span : Nat) : Int) else x.pin
      { x with goodAt := now, spdHigh := high, spdAt := some now, pin := pin, highNs := if high then 0 else span,
               riseAt := if high then some now else x.riseAt }
    s.when (decide (src = 2 ∨ src = 3)) (·.wr Reg.MOT_STATE.SIGNAL_LOST 0 u)

/-- SPD_EDGE. -/
def execSpdEdge (unit : Fin 4) (high : Bool) (t : Nat) (s : State) : Host.Outcome State Fault Refusal :=
  done ((s.elapse t).spdEdge unit.val high)

/-- The source has given no fresh valid value for signal_timeout_ms (R274, R276). -/
def State.signalLost (s : State) (u : Nat) : State :=
  let m := s.motCfg u
  if (s.drv u).act.mode ≠ mdMotor ∨ m.src = 0 ∨ s.time.ns < (s.mot u).goodAt + 1000000 * m.timeoutMs then s
  else (s.when (!s.on Reg.MOT_STATE.SIGNAL_LOST u) (·.wr Reg.MOT_EVENT.SIGNAL_LOST 1 u)).wr Reg.MOT_STATE.SIGNAL_LOST 1 u

/-- SPEED_SIGNAL_LOST. -/
def execSpeedSignalLost (unit : Fin 4) (t : Nat) (s : State) : Host.Outcome State Fault Refusal :=
  done ((s.elapse t).signalLost unit.val)

/-- The DRIVE section at commit (R267, R285): the staged values, one load per declared unit, the tables and flags shown, every curve
off (R275). -/
def State.commitDrive (s : State) : State :=
  let s := s.each (upTo s.silicon.variant.drives) fun s u =>
    (s.wr Reg.MOT_STATE.PRIV (b01 (hasBit s.cfg.drivePriv u)) u).wr Reg.MOT_STATE.CURVE_ON 0 u
  let s := s.each s.cfg.motors fun s p =>
    let u := p.1
    let m := p.2
    let s := s.wr Reg.MOT_STATE.SRC m.src u
    let s := s.each (upTo 32) fun s i =>
      let c := m.curve.getD i (0, 0)
      ((s.wr Reg.MOT_CURVE.X c.1 u i).wr Reg.MOT_CURVE.Y c.2 u i).wr Reg.MOT_CURVE.USED (b01 (decide (i < m.curveN))) u i
    s.each (upTo 16) fun s i =>
      let c := m.adv.getD i (0, 0)
      (s.wr Reg.MOT_ADV.SPEED c.1 u i).wr Reg.MOT_ADV.ANGLE c.2 u i
  let s := s.each s.cfg.drives fun s p =>
    let u := p.1
    let a := p.2
    let s := ((s.wr Reg.DRV_CTRL.MODE a.mode u).wr Reg.DRV_CARRIER.TOP a.top u).wr Reg.DRV_GATE.SRC a.src u
    let s := ((s.wr Reg.DRV_GATE.SNK a.snk u).wr Reg.DRV_GATE.SOFT a.soft u).wr Reg.DRV_GATE.CH_SRC a.chSrc u
    let s := ((s.wr Reg.DRV_GATE.CH_SNK a.chSnk u).wr Reg.DRV_GATE.CH_SOFT a.chSoft u).wr Reg.DRV_GATE.TEMP_COMP (b01 a.tempComp) u
    let s := ((s.wr Reg.DRV_PROT.BLANK a.blank u).wr Reg.DRV_PROT.MIN_PULSE a.minPulse u).wr Reg.DRV_CHOP_CFG.MODE a.chopMode u
    let s := ((s.wr Reg.DRV_CHOP_CFG.SIDE a.chopSide u).wr Reg.DRV_CHOP_CFG.TIME a.chopTime u).wr Reg.DRV_CHOP_PERIOD.PERIOD a.chopPeriod u
    let s := s.each (upTo 4) fun s x => s.wr Reg.DRV_LEG_CFG.MODE (a.legMode.getD x 0) u x
    s.each (upTo 3) fun s x => (s.wr Reg.DRV_LEG_CFG.DEADTIME (a.dead.getD x 0) u x).wr Reg.DRV_LEG_DUTY.CMP (a.cmp.getD x 0) u x
  s.loadAll (s.cfg.drives.foldl (fun w p => setBit w p.1) 0)

end Sys2Proof.Machine
end

