-- ==== Sys2Proof/Machine/Safe.lean ====
section
/-! DEFINITION. The safety functions (13_safety.md): the channels and pairs of the two units, groups and their stops, removal, reset,
test pulses and diagnostics, R286 to R305. A unit is named by a Bool: false for SAFE_A, true for SAFE_B. -/

namespace Sys2Proof.Machine

/-- A safety unit, its channels, pairs and groups. -/
def State.safeUnit (s : State) (b : Bool) : SafeUnit := if b then s.safety.b else s.safety.a
def State.modUnit (s : State) (b : Bool) (f : SafeUnit → SafeUnit) : State :=
  if b then { s with safety := { s.safety with b := f s.safety.b } } else { s with safety := { s.safety with a := f s.safety.a } }
def State.chan (s : State) (b : Bool) (i : Nat) : SafeChan := Tbl.look default (s.safeUnit b).chans i
def State.modChan (s : State) (b : Bool) (i : Nat) (f : SafeChan → SafeChan) : State :=
  s.modUnit b fun u => { u with chans := Tbl.put default u.chans i (f (Tbl.look default u.chans i)) }
def State.pairOf (s : State) (b : Bool) (p : Nat) : SafePair := Tbl.look default (s.safeUnit b).pairs p
def State.modPair (s : State) (b : Bool) (p : Nat) (f : SafePair → SafePair) : State :=
  s.modUnit b fun u => { u with pairs := Tbl.put default u.pairs p (f (Tbl.look default u.pairs p)) }
def State.grp (s : State) (b : Bool) (g : Nat) : SafeGroup := Tbl.look default (s.safeUnit b).groups g
def State.modGrp (s : State) (b : Bool) (g : Nat) (f : SafeGroup → SafeGroup) : State :=
  s.modUnit b fun u => { u with groups := Tbl.put default u.groups g (f (Tbl.look default u.groups g)) }

/-- The records of pair p and group g (Table 13-6). -/
def State.pairCfg (s : State) (p : Nat) : SafePairCfg := s.cfg.safety.pairs.getD p default
def State.grpCfg (s : State) (g : Nat) : SafeGroupCfg := s.cfg.safety.group.getD g default

/-- Group states of Table 13-2. -/
def gsEnabled : Nat := 1
def gsStopping : Nat := 2
def gsLocked : Nat := 3

/-- Whether a unit evaluates: from commit on (R290), SAFE_A while the COMMON domain and PLL_SD run, SAFE_B through DEV resets too
(R301). -/
def State.unitOn (s : State) (b : Bool) : Bool :=
  if b then decide (s.cfg.safety.groups ≠ 0)
  else s.cfg.loaded && !s.power.held && ([stKickOff, stRun, stHold].contains s.device || (s.power.dormantExit && s.ticking))
    && !hasBit s.power.lost 2 && !hasBit s.power.dead 2

/-- Whether a unit's outputs may enable (R287, R303): it runs, in RUN, no DEV reset is held, and SAFE_B is not told of a planned stop. -/
def State.unitRuns (s : State) (b : Bool) : Bool :=
  s.unitOn b && !s.power.held && decide (s.device = stRun) && !(b && s.safety.announced)

/-- Whether a unit enables group g (R287). -/
def State.enables (s : State) (b : Bool) (g : Nat) : Bool :=
  let st := (s.grp b g).state
  s.unitRuns b && decide (st = gsEnabled ∨ st = gsStopping)

/-- Whether line A or line B demands SAFE_BLOCK for group g (R287). -/
def State.safeBlocks (s : State) (g : Nat) : Bool := !(s.enables false g && s.enables true g)

/-- Whether group g counts as removing (R297): not ENABLED in either unit. -/
def State.removing (s : State) (g : Nat) : Bool := (s.grp false g).state != gsEnabled || (s.grp true g).state != gsEnabled

/-- The drive group that names unit u (R293). -/
def State.driveGroup (s : State) (u : Nat) : Option Nat :=
  (upTo 8).find? fun g => hasBit s.cfg.safety.groups g && (s.grpCfg g).kind == 2 && hasBit (s.grpCfg g).driveMask u

/-- The drive enable of unit u that a safety unit gives (R287, R293). -/
def State.driveEnable (s : State) (b : Bool) (u : Nat) : Bool :=
  s.hasUnit u && match s.driveGroup u with
    | some g => s.enables b g
    | none => s.unitRuns b && decide ((s.safeUnit b).diag = 0)

/-- FIRE_EN_N of channel c driven low by a safety unit (R287). -/
def State.fireEnable (s : State) (b : Bool) (c : Nat) : Bool :=
  (upTo 8).any fun g => hasBit s.cfg.safety.groups g && (s.grpCfg g).kind == 1 && (s.grpCfg g).fireCh == c && s.enables b g

/-- A number whose bit i says p i, for i < n. -/
def maskOf (n : Nat) (p : Nat → Bool) : Nat := (upTo n).foldl (fun w i => if p i then setBit w i else w) 0

/-- Whether a channel is in demand (R288, R290): channel 2p is a of pair p, 2p + 1 is b. -/
def State.chanDemand (s : State) (b : Bool) (i : Nat) : Bool :=
  let c := s.chan b i
  c.unsettled || (if (s.pairCfg (i / 2)).mode = 2 ∧ i % 2 = 1 then c.filt else !c.filt)

/-- Whether group g is demanded in a unit (R293): by one of its pairs or a failed diagnostic. -/
def State.demanded (s : State) (b : Bool) (g : Nat) : Bool :=
  (s.safeUnit b).diag != 0 || (upTo 8).any fun p => (s.pairCfg p).mode != 0 && (s.pairCfg p).group == g && (s.pairOf b p).dem

/-- The registers of the safety functions: groups and pairs as SAFE_A holds them, or SAFE_B while SAFE_A is off. -/
def State.showSafe (s : State) : State :=
  let v := !s.unitOn false
  let grpOn := fun g => hasBit s.cfg.safety.groups g
  let s := (s.wr Reg.SAFE_STATUS.A_OK (b01 (s.unitRuns false))).wr Reg.SAFE_STATUS.B_OK (b01 (s.unitRuns true))
  let da := (s.safeUnit false).diag
  let db := (s.safeUnit true).diag
  let s := (s.wr Reg.SAFE_STATUS.DIAG_A (b01 (decide (da ≠ 0)))).wr Reg.SAFE_STATUS.DIAG_B (b01 (decide (db ≠ 0)))
  let s := (s.wr Reg.SAFE_STATUS.DIAG (b01 (decide (da ≠ 0 ∨ db ≠ 0)))).wr Reg.SAFE_STATUS.DIAG_CAUSE (if da ≠ 0 then da else db)
  let s := s.wr Reg.SAFE_STATUS.RESET_PIN (b01 s.safety.pinLow.isNone)
  let s := s.wr Reg.SAFE_STATUS.DEMAND (maskOf 8 fun g => grpOn g && s.demanded v g)
  let s := s.wr Reg.SAFE_STATUS.LOCKED (maskOf 8 fun g => decide ((s.grp v g).state = gsLocked))
  let s := s.each (upTo 8) fun s g =>
    let x := s.grp v g
    let s := (s.wr Reg.SAFE_GROUP.STATE x.state g).wr Reg.SAFE_GROUP.CAUSE x.cause g
    let s := (s.wr Reg.SAFE_GROUP.KIND (b01 (grpOn g && (s.grpCfg g).kind == 2)) g).wr Reg.SAFE_GROUP.STOP (if grpOn g then (s.grpCfg g).stop else 0) g
    s.wr Reg.SAFE_GROUP.PAIRS (maskOf 8 fun p => grpOn g && (s.pairCfg p).mode != 0 && (s.pairCfg p).group == g && (s.pairOf v p).dem) g
  let s := s.each (upTo 8) fun s p =>
    let x := s.pairOf v p
    let s := (s.wr Reg.SAFE_PAIR.CH_A (b01 (s.chan v (2 * p)).filt) p).wr Reg.SAFE_PAIR.CH_B (b01 (s.chan v (2 * p + 1)).filt) p
    let s := (s.wr Reg.SAFE_PAIR.DEMAND (b01 x.dem) p).wr Reg.SAFE_PAIR.PAIR_FAULT (b01 (decide (x.fault ≠ 0))) p
    (s.wr Reg.SAFE_PAIR.FAULT_CAUSE x.fault p).wr Reg.SAFE_PAIR.DEMANDS x.demands p
  let s := (s.wr Reg.SAFE_TPO.EN s.cfg.safety.tpoEn).wr Reg.SAFE_TPO.READBACK_FAULT
    (maskOf 4 fun t => hasBit s.safety.tpoBad t || hasBit s.safety.tpoBad (4 + t))
  let s := (s.wr Reg.SAFE_FIRE.FIRE_A (maskOf 4 (s.fireEnable false))).wr Reg.SAFE_FIRE.FIRE_B (maskOf 4 (s.fireEnable true))
  let s := (s.wr Reg.SAFE_FIRE.DRV_A (maskOf 4 (s.driveEnable false))).wr Reg.SAFE_FIRE.DRV_B (maskOf 4 (s.driveEnable true))
  s.wr Reg.SAFE_RESET_STATUS.ARMED (s.safeUnit v).armed

/-- The converters of a converter group (R293). -/
def State.groupConvs (s : State) (g : Nat) : List Nat := (s.cfg.convs.filter (·.group == g)).map (·.conv)

/-- SAFE_GROUP_REMOVAL (R297, R294): the group enters LOCKED_OUT in a unit; the converters of a converter group block with cause
SAFETY at the next tick (Table 08-5). -/
def State.removeGroup (s : State) (b : Bool) (g cause : Nat) : State :=
  let s := (s.modGrp b g fun x => { x with state := gsLocked, cause := cause }).wr Reg.SAFE_EVENT.REMOVED 1
  if (s.grpCfg g).kind = 1 then
    s.each (s.groupConvs g) fun s c => s.modConv c fun x => { x with atTick := some 1 }
  else s

/-- |P_KW| of converter c as latched at the last non-coast T_COMPUTE_END (R295). -/
def State.pKw (s : State) (c : Nat) : Nat := (s.rdS Reg.CONV_WORD.VALUE c 3).natAbs

/-- A demand in the same sample as the edge that released a group (R300): the demand wins, and the group stays LOCKED_OUT. DESIGN
CHOICE: commands of one instant are one sample. -/
def State.unrelease (s : State) (b : Bool) (g : Nat) : State :=
  let s := (s.modGrp b g fun x => { x with state := gsLocked, releasedAt := none }).wrBit Reg.SAFE_RESET_STATUS.RELEASED g false
  (s.wr Reg.SAFE_EVENT.RESET_REFUSED 1).wrBit Reg.SAFE_RESET_STATUS.REFUSED g true

/-- SAFE_GROUP_DEMAND (R294 to R296): a demand on an ENABLED group in a unit. -/
def State.demandGroup (s : State) (b : Bool) (g : Nat) : State :=
  if (s.grp b g).state ≠ gsEnabled ∨ !s.demanded b g then s
  else if (s.grp b g).releasedAt = some s.time.ns then s.unrelease b g
  else
    let c := s.grpCfg g
    let convs := s.groupConvs g
    let s := s.wr Reg.SAFE_EVENT.DEMAND 1
    let p0 := (convs.map s.pKw).foldl max 0
    let s0 := (upTo 4).foldl (fun t u => if hasBit c.driveMask u then Tbl.put 0 t u (s.rdS Reg.MOT_SPEED.EST u).natAbs else t) []
    let s := s.modGrp b g fun x => { x with t0 := s.time.ns, p0 := p0, s0 := s0, low := [] }
    if (s.safeUnit b).diag ≠ 0 then s.removeGroup b g 6
    else if c.stop = 0 then s.removeGroup b g 1
    else if !b ∧ c.kind = 1 ∧ convs.all (fun k => decide (s.rd Reg.CONV_STATE.STATE k = 1)) then s.removeGroup b g 2
    else (s.modGrp b g fun x => { x with state := gsStopping }).wr Reg.SAFE_EVENT.STOPPING 1

/-- Every group judged for a demand in a unit. -/
def State.demandGroups (s : State) (b : Bool) : State :=
  s.each ((upTo 8).filter fun g => hasBit s.cfg.safety.groups g) fun s g => s.demandGroup b g

/-- A pair takes PAIR_FAULT (R292). -/
def State.pairFault (s : State) (b : Bool) (p cause : Nat) : State :=
  if (s.pairOf b p).fault ≠ 0 then s
  else (s.modPair b p fun x => { x with fault := cause, stage := 0, bothSince := none }).wr Reg.SAFE_EVENT.PAIR_FAULT 1

/-- Whether both channels of a pair that have a TPO have passed their check (R292, item 3). -/
def State.pairChecked (s : State) (b : Bool) (p : Nat) : Bool :=
  let c := s.pairCfg p
  (decide (c.tpoA = 0xFF) || (s.chan b (2 * p)).checked) && (decide (c.tpoB = 0xFF) || (s.chan b (2 * p + 1)).checked)

/-- A pair judged again (R292): disagreement, the clearing of PAIR_FAULT in its three steps, and its demand. -/
def State.judgePair (s : State) (b : Bool) (p : Nat) : State :=
  let c := s.pairCfg p
  if c.mode = 0 then s
  else
    let now := s.time.ns
    let da := s.chanDemand b (2 * p)
    let db := s.chanDemand b (2 * p + 1)
    let x := s.pairOf b p
    let long : Bool := match x.bothSince with
      | some t => decide (t + c.filtNs ≤ now)
      | none => false
    let stage1 : Nat := if x.fault = 0 then 0 else if decide (x.stage = 0) && long then 1 else x.stage
    let enter2 := decide (stage1 = 1) && !da && !db
    let s := s.when enter2 fun s => (s.modChan b (2 * p) fun k => { k with checked := false }).modChan b (2 * p + 1) fun k => { k with checked := false }
    let stage := if enter2 then 2 else stage1
    let clear := decide (stage = 2) && s.pairChecked b p
    let fault := if clear then 0 else x.fault
    let dem := da || db || decide (fault ≠ 0)
    s.modPair b p fun x =>
      { x with fault := fault, stage := if clear then 0 else stage,
               bothSince := if da && db then some (x.bothSince.getD now) else none,
               apart := if da != db then some (x.apart.getD now) else none,
               demands := if dem && !x.dem then satAdd 255 x.demands 1 else x.demands, dem := dem }

/-- What follows a change of a channel or pair: the pair, the groups, the registers. -/
def State.judgeUnit (s : State) (b : Bool) (p : Nat) : State := ((s.judgePair b p).demandGroups b).showSafe

/-- The TPO of channel i (FFh: none). -/
def State.chanTpo (s : State) (i : Nat) : Nat := if i % 2 = 0 then (s.pairCfg (i / 2)).tpoA else (s.pairCfg (i / 2)).tpoB

/-- Whether channel i is blanked now (R290): its TPO is in its pulse, or the pulse ended less than 100 µs ago. -/
def State.blanked (s : State) (b : Bool) (i : Nat) : Bool :=
  (decide (s.chanTpo i < 4) && hasBit s.safety.tpoLow (s.chanTpo i)) || decide (s.time.ns < (s.chan b i).blankUntil)

/-- SAFE_INPUT_CHANGE (R290): a sample at a new raw level; where it differs from the filtered level the filter restarts, and a
series begins where none runs. -/
def State.inputChange (s : State) (b : Bool) (i : Nat) (level : Bool) : State :=
  if !s.unitOn b || (s.pairCfg (i / 2)).mode == 0 || s.blanked b i || (s.chan b i).raw == level then s
  else
    let now := s.time.ns
    s.modChan b i fun c =>
      if level = c.filt then { c with raw := level, since := now, running := false }
      else { c with raw := level, since := now, running := true, series := some (c.series.getD now) }

/-- SAFE_INPUT_CHANGE. -/
def execSafeInputChange (unit : Fin 2) (input : Fin 16) (level : Bool) (t : Nat) (s : State) : Host.Outcome State Fault Refusal :=
  done ((s.elapse t).inputChange (unit.val == 1) input.val level)

/-- The raw level has stood for t_filt (R290): it is the filtered level, and the series of restarts ends. -/
def State.filterSettle (s : State) (b : Bool) (i : Nat) : State :=
  let c := s.chan b i
  if !s.unitOn b || (s.pairCfg (i / 2)).mode == 0 || s.blanked b i || decide (s.time.ns < c.since + (s.pairCfg (i / 2)).filtNs) then s
  else (s.modChan b i fun c => { c with filt := c.raw, running := false, series := none, unsettled := false }).judgeUnit b (i / 2)

/-- SAFE_FILTER_SETTLE. -/
def execSafeFilterSettle (unit : Fin 2) (input : Fin 16) (t : Nat) (s : State) : Host.Outcome State Fault Refusal :=
  done ((s.elapse t).filterSettle (unit.val == 1) input.val)

/-- A series of restarts of 5 × t_filt (R290). -/
def State.unsettled (s : State) (b : Bool) (i : Nat) : State :=
  match (s.chan b i).series with
  | some t0 =>
    if !s.unitOn b || decide (s.time.ns < t0 + 5 * (s.pairCfg (i / 2)).filtNs) then s
    else ((s.modChan b i fun c => { c with unsettled := true }).pairFault b (i / 2) 2).judgeUnit b (i / 2)
  | none => s

/-- SAFE_UNSETTLED. -/
def execSafeUnsettled (unit : Fin 2) (input : Fin 16) (t : Nat) (s : State) : Host.Outcome State Fault Refusal :=
  done ((s.elapse t).unsettled (unit.val == 1) input.val)

/-- The channels of a pair have disagreed for longer than t_disc (R292). -/
def State.discrepancy (s : State) (b : Bool) (p : Nat) : State :=
  match (s.pairOf b p).apart with
  | some t0 =>
    if !s.unitOn b || decide (s.time.ns ≤ t0 + (s.pairCfg p).discNs) then s
    else (s.pairFault b p 1).judgeUnit b p
  | none => s

/-- SAFE_DISCREPANCY. -/
def execSafeDiscrepancy (unit : Fin 2) (pair : Fin 8) (t : Nat) (s : State) : Host.Outcome State Fault Refusal :=
  done ((s.elapse t).discrepancy (unit.val == 1) pair.val)

/-- A readback fault of TPO t in a unit (R289): every pair with a channel that it supplies takes PAIR_FAULT TPO_READBACK. -/
def State.readbackFault (s : State) (b : Bool) (t : Nat) : State :=
  let s := { s with safety := { s.safety with tpoBad := setBit s.safety.tpoBad (4 * b01 b + t) } }
  let ps := (upTo 8).filter fun p => (s.pairCfg p).mode != 0 && ((s.pairCfg p).tpoA == t || (s.pairCfg p).tpoB == t)
  (s.each ps fun s p => (s.pairFault b p 5).judgeUnit b p).showSafe

/-- The level of a TPO read back as it should be. -/
def State.readbackGood (s : State) (b : Bool) (t : Nat) : State :=
  { s with safety := { s.safety with tpoBad := clrBit s.safety.tpoBad (4 * b01 b + t) } }.showSafe

/-- What the end of the pulse of TPO t, at `now`, does to the channels it supplies (R290): blanked until 100 µs after it, their filters held
meanwhile. -/
def State.tpoEnd (s : State) (t : Nat) : State :=
  let now := s.time.ns
  let hold := now + 100000 - s.safety.tpoAt
  let s := { s with safety := { s.safety with tpoLow := clrBit s.safety.tpoLow t } }
  s.each [false, true] fun s b => s.each (upTo 16) fun s i =>
    if s.chanTpo i = t then s.modChan b i fun c => { c with blankUntil := now + 100000, since := c.since + hold } else s

/-- The start of the pulse of TPO t in the test cycle that runs (R289): t quarters of the cycle after its start, each cycle once; none
before it, or once the pulse would be over. -/
def State.tpoStart (s : State) (t : Nat) : Option Nat :=
  let c := s.cfg.safety
  let p := c.tpPeriodNs
  let now := s.time.ns
  let at_ := s.safety.tpoBase + (now - s.safety.tpoBase) / p * p + t * p / 4
  if at_ ≤ now ∧ now < at_ + c.tpWidthNs ∧ s.safety.tpoNext ≤ at_ then some at_ else none

/-- TPO_PULSE (R289, R290): at the start of its pulse a TPO must read low, at the end, tp_width later, high. A pulse that the test cycle
does not give does not happen. -/
def State.tpoPulse (s : State) (t : Nat) (start readA readB : Bool) : State :=
  let bad := fun (r : Bool) => if start then r else !r
  let check := fun (s : State) =>
    let s := if bad readA then s.readbackFault false t else s.readbackGood false t
    if bad readB then s.readbackFault true t else s.readbackGood true t
  if !hasBit s.cfg.safety.tpoEn t || !s.unitOn false then s
  else if start then
    match s.tpoStart t with
    | none => s
    | some at_ =>
      let s := s.each ((upTo 4).filter (hasBit s.safety.tpoLow)) fun s k => s.tpoEnd k
      let high := maskOf 32 fun i => (s.chan (decide (16 ≤ i)) (i % 16)).raw
      check { s with safety := { s.safety with tpoLow := setBit s.safety.tpoLow t, tpoAt := at_, tpoNext := at_ + 1, preHigh := high } }
  else if hasBit s.safety.tpoLow t && decide (s.safety.tpoAt + s.cfg.safety.tpWidthNs ≤ s.time.ns) then check (s.tpoEnd t)
  else s

/-- TPO_PULSE. -/
def execTpoPulse (tpo : Fin 4) (start : Bool) (readA : Bool) (readB : Bool) (t : Nat) (s : State) :
    Host.Outcome State Fault Refusal :=
  done ((s.elapse t).tpoPulse tpo.val start readA readB)

/-- TPO_READBACK_FAULT (R289). -/
def execTpoReadbackFault (unit : Fin 2) (tpo : Fin 4) (t : Nat) (s : State) : Host.Outcome State Fault Refusal :=
  let s := s.elapse t
  done (if s.unitOn (unit.val == 1) then s.readbackFault (unit.val == 1) tpo.val else s)

/-- The check of one channel in a unit 200 µs into the pulse of TPO t (R291). A channel that read low before the pulse, or has no
TPO, is not checked. -/
def State.tpoCheckChan (s : State) (b : Bool) (t i : Nat) (level : Bool) : State :=
  let own := s.chanTpo i
  if (s.pairCfg (i / 2)).mode = 0 ∨ !hasBit s.safety.preHigh (16 * b01 b + i) ∨ own = 0xFF then s
  else if own = t then
    (if level then (s.pairFault b (i / 2) 3).judgeUnit b (i / 2)
     else (s.modChan b i fun c => { c with checked := true }).judgeUnit b (i / 2))
  else if level then s
  else (s.pairFault b (i / 2) 4).judgeUnit b (i / 2)

/-- TPO_CHECK: `levels` bit i is what SAFE_A reads on input i, bit 16 + i what SAFE_B reads. -/
def State.tpoCheck (s : State) (t levels : Nat) : State :=
  if !hasBit s.safety.tpoLow t || decide (s.time.ns < s.safety.tpoAt + 200000) then s
  else s.each [false, true] fun s b =>
    if s.unitOn b then s.each (upTo 16) fun s i => s.tpoCheckChan b t i (hasBit levels (16 * b01 b + i)) else s

/-- TPO_CHECK. -/
def execTpoCheck (tpo : Fin 4) (levels t : Nat) (s : State) : Host.Outcome State Fault Refusal :=
  done ((s.elapse t).tpoCheck tpo.val levels)

/-- t_stop_max has passed in STOPPING (Table 13-3, TIMER). -/
def State.stopTimer (s : State) (b : Bool) (g : Nat) : State :=
  let x := s.grp b g
  if s.unitOn b && decide (x.state = gsStopping) && decide (x.t0 + 1000000 * (s.grpCfg g).stopMaxMs ≤ s.time.ns) then
    (s.removeGroup b g 4).showSafe
  else s

/-- SAFE_STOP_TIMER. -/
def execSafeStopTimer (unit : Fin 2) (group : Fin 8) (t : Nat) (s : State) : Host.Outcome State Fault Refusal :=
  done ((s.elapse t).stopTimer (unit.val == 1) group.val)

/-- Whether |EST| of unit u is above the envelope of R296 at `ms` after t0. -/
def SafeGroupCfg.speedAbove (c : SafeGroupCfg) (s0 est ms : Nat) : Bool :=
  if ms ≤ c.envDelayMs then decide (s0 + c.speedMargin < est)
  else decide (((s0 + c.speedMargin : Nat) : Int) * 1000 - (c.decel : Int) * ((ms : Int) - c.envDelayMs) < (est : Int) * 1000)

/-- The envelope and completion of a drive group in STOPPING (R296), judged by SAFE_A. -/
def State.driveEnvelope (s : State) (g : Nat) : State :=
  let x := s.grp false g
  let c := s.grpCfg g
  let ms := (s.time.ns - x.t0) / 1000000
  let us := (upTo 4).filter fun u => hasBit c.driveMask u
  let est := fun u => (s.rdS Reg.MOT_SPEED.EST u).natAbs
  if x.state ≠ gsStopping ∨ c.kind ≠ 2 then s
  else if us.any fun u => c.speedAbove (Tbl.look 0 x.s0 u) (est u) ms then s.removeGroup false g 3
  else if us.all (fun u => decide (est u ≤ c.standstill)) || us.all (fun u => [0, 1, 9, 10].contains (s.mstate u)) then
    s.removeGroup false g 2
  else s

/-- SAFE_DRIVE_ENVELOPE. -/
def execSafeDriveEnvelope (t : Nat) (s : State) : Host.Outcome State Fault Refusal :=
  let s := s.elapse t
  done (if s.unitOn false then (s.each (upTo 8) fun s g => s.driveEnvelope g).showSafe else s)

/-- Whether |P_KW| of a converter is above the envelope of R295 at `t` ns after t0. -/
def SafeGroupCfg.powerAbove (c : SafeGroupCfg) (p0 p t : Nat) : Bool :=
  let delay := 1000000 * c.envDelayMs
  let ramp := 1000000 * c.rampMs
  if t ≤ delay then decide (p0 + c.pMargin < p) else decide (p0 * (ramp - (t - delay)) + c.pMargin * ramp < p * ramp)

/-- SAFE_CONV_ENVELOPE of one converter group (R295, Table 13-3) at a T_COMPUTE_END; `coast` says whether the frame is a coast
frame for a converter. -/
def State.convEnvelope (s : State) (g : Nat) (coast : Nat → Bool) : State :=
  let x := s.grp false g
  let c := s.grpCfg g
  let t := s.time.ns - x.t0
  let cs := s.groupConvs g
  if x.state ≠ gsStopping ∨ c.kind ≠ 1 ∨ s.time.ns ≤ x.t0 then s
  else if cs.any fun k => c.powerAbove x.p0 (s.pKw k) t then s.removeGroup false g 3
  else if cs.any coast then s.removeGroup false g 5
  else
    let low := cs.foldl (fun l k => Tbl.put 0 l k (if s.pKw k ≤ c.pEnd then Tbl.look 0 l k + 1 else 0)) x.low
    let s := s.modGrp false g fun x => { x with low := low }
    if cs.all fun k => decide (s.rd Reg.CONV_STATE.STATE k = 1) || decide (2 ≤ Tbl.look 0 low k) then s.removeGroup false g 2
    else s

/-- SAFE_CONV_ENVELOPE over all groups. -/
def State.convEnvelopes (s : State) (coast : Nat → Bool) : State :=
  if s.unitOn false then (s.each (upTo 8) fun s g => s.convEnvelope g coast).showSafe else s

/-- SAFE_DIAG_FAIL (R302): a unit detects a failed diagnostic; it removes every group that is not LOCKED_OUT with cause DIAG. -/
def State.diagFail (s : State) (b : Bool) (cause : Nat) : State :=
  if !s.unitOn b || (s.safeUnit b).diag != 0 then s
  else
    let s := (s.modUnit b fun u => { u with diag := cause }).wr Reg.SAFE_EVENT.DIAG 1
    let s := s.raiseVia (!b) 38 (16 * b01 b + cause)
    let s := s.demandGroups b
    let s := s.each (upTo 8) fun s g => if (s.grp b g).state = gsStopping then s.removeGroup b g 6 else s
    s.showSafe

/-- Whether two group states disagree (R302, cause 1). -/
def groupsDisagree (a b : Nat) : Bool :=
  a != b && !((a == gsLocked && b == gsStopping) || (a == gsStopping && b == gsLocked))

/-- Whether a unit judges causes 1 and 2 now (R303). -/
def State.judgesLink (s : State) (b : Bool) : Bool :=
  s.unitOn b && (!b || (!s.safety.announced && match s.safety.settleFrom with
    | some t => decide (t ≤ s.time.ns)
    | none => false))

/-- One unit's side of an exchange of group states (R302, cause 1). -/
def State.exchangeSide (s : State) (b : Bool) : State :=
  if !s.judgesLink b then s
  else
    let bad := (upTo 8).any fun g => groupsDisagree (s.grp false g).state (s.grp true g).state
    let n := if bad then (s.safeUnit b).apart + 1 else 0
    let s := s.modUnit b fun u => { u with apart := n }
    if 3 ≤ n then s.diagFail b 1 else s

/-- SAFE_CROSS_EXCHANGE: what arrives at each unit. SAFE_B judges the exchange again 3 ms after the first one it receives from a
restarted SAFE_A (R303). -/
def State.crossExchange (s : State) (atA atB : Bool) : State :=
  let now := s.time.ns
  let sent := s.unitOn false
  let s := s.when atA fun s => { s with safety := { s.safety with lastBA := now } }
  let s := s.when (atB && sent) fun s =>
    { s with safety := { s.safety with
        lastAB := now,
        settleFrom := if s.safety.announced then none else some (s.safety.settleFrom.getD (now + 3000000)) } }
  let s := s.when atA (·.exchangeSide false)
  s.when (atB && sent) (·.exchangeSide true)

/-- SAFE_CROSS_EXCHANGE. -/
def execSafeCrossExchange (arrivesA : Bool) (arrivesB : Bool) (t : Nat) (s : State) : Host.Outcome State Fault Refusal :=
  done ((s.elapse t).crossExchange arrivesA arrivesB)

/-- The cross-check link has carried nothing to a unit for 3 ms (R302, cause 2). -/
def State.linkSilence (s : State) (b : Bool) : State :=
  let last := if b then s.safety.lastAB else s.safety.lastBA
  if s.judgesLink b && decide (last + 3000000 ≤ s.time.ns) then s.diagFail b 2 else s

/-- SAFE_LINK_SILENCE. -/
def execSafeLinkSilence (unit : Fin 2) (t : Nat) (s : State) : Host.Outcome State Fault Refusal :=
  done ((s.elapse t).linkSilence (unit.val == 1))

/-- SAFE_SELFTEST_FAIL (R302, cause 5). -/
def execSafeSelftestFail (unit : Fin 2) (t : Nat) (s : State) : Host.Outcome State Fault Refusal :=
  done ((s.elapse t).diagFail (unit.val == 1) 5)

/-- SAFE_RESET_ARM (R299): the key must be 9E37h; both units take the arming for 10 s. -/
def State.resetArm (s : State) (value : Nat) : State :=
  if bitsOf value 16 16 ≠ 0x9E37 ∨ !s.unitOn false then s
  else
    let g := value % 256 &&& s.cfg.safety.groups
    (s.each [false, true] fun s b => s.modUnit b fun u => { u with armed := g, armUntil := s.time.ns + 10000000000 }).showSafe

/-- SAFE_RESET_ARM. -/
def execSafeResetArm (value t : Nat) (s : State) : Host.Outcome State Fault Refusal := done ((s.elapse t).resetArm value)

/-- An arming expires after 10 s (R300). -/
def State.armExpiry (s : State) : State :=
  (s.each [false, true] fun s b => s.modUnit b fun u => if u.armUntil ≤ s.time.ns then { u with armed := 0 } else u).showSafe

/-- SAFE_ARM_EXPIRY. -/
def execSafeArmExpiry (t : Nat) (s : State) : Host.Outcome State Fault Refusal := done (s.elapse t).armExpiry

/-- SAFE_RESET_N goes low (R300). -/
def execSafeResetFall (t : Nat) (s : State) : Host.Outcome State Fault Refusal :=
  let s := s.elapse t
  done { s with safety := { s.safety with pinLow := some (s.safety.pinLow.getD s.time.ns) } }.showSafe

/-- Whether group g may be released in a unit (R299, step 1; R300). -/
def State.releasable (s : State) (b : Bool) (g : Nat) : Bool :=
  !s.demanded b g && (upTo 8).all fun p => (s.pairCfg p).mode == 0 || (s.pairCfg p).group != g || (s.pairOf b p).fault == 0

/-- A reset edge that the device takes, in one unit: armed LOCKED_OUT groups are released or refused (R300). -/
def State.takeEdge (s : State) (b : Bool) : State :=
  let u := s.safeUnit b
  let s := s.modUnit b fun u => { u with armed := 0 }
  s.each ((upTo 8).filter fun g => hasBit u.armed g && decide ((s.grp b g).state = gsLocked)) fun s g =>
    if s.releasable b g then
      ((s.modGrp b g fun x => { x with state := gsEnabled, releasedAt := some s.time.ns }).wr Reg.SAFE_EVENT.RELEASED 1).wrBit Reg.SAFE_RESET_STATUS.RELEASED g true
    else (s.wr Reg.SAFE_EVENT.RESET_REFUSED 1).wrBit Reg.SAFE_RESET_STATUS.REFUSED g true

/-- The rising edge of SAFE_RESET_N (R300): ignored without arming, or after a low period shorter than 50 ms or longer than 3 s. -/
def State.resetRise (s : State) : State :=
  match s.safety.pinLow with
  | none => s
  | some t0 =>
    let low := s.time.ns - t0
    let s := { s with safety := { s.safety with pinLow := none, pinHigh := s.time.ns } }
    let s := s.when (decide (3000000000 < low)) (·.wr Reg.SAFE_STATUS.RESET_STUCK 1)
    let armed := (s.safeUnit false).armed ≠ 0 ∨ (s.safeUnit true).armed ≠ 0
    if 50000000 ≤ low ∧ low ≤ 3000000000 ∧ armed then
      let s := (s.wr Reg.SAFE_RESET_STATUS.RELEASED 0).wr Reg.SAFE_RESET_STATUS.REFUSED 0
      let s := s.when (s.unitOn false) (·.takeEdge false)
      ((s.takeEdge true)).showSafe
    else s.showSafe

/-- SAFE_RESET_RISE. -/
def execSafeResetRise (t : Nat) (s : State) : Host.Outcome State Fault Refusal := done (s.elapse t).resetRise

/-- SAFE_RESET_STUCK (R300): low for longer than 3 s. -/
def execSafeResetStuck (t : Nat) (s : State) : Host.Outcome State Fault Refusal :=
  let s := s.elapse t
  done (match s.safety.pinLow with
    | some t0 => if t0 + 3000000000 < s.time.ns then s.wr Reg.SAFE_STATUS.RESET_STUCK 1 else s
    | none => s)

/-- SAFE_RESET_STUCK_END (R300): high for 1 s after a stuck low period. -/
def execSafeResetStuckEnd (t : Nat) (s : State) : Host.Outcome State Fault Refusal :=
  let s := s.elapse t
  done (if s.safety.pinLow.isNone ∧ s.safety.pinHigh + 1000000000 ≤ s.time.ns then s.wr Reg.SAFE_STATUS.RESET_STUCK 0 else s)

/-- One unit at commit (R290, R294, R301): every declared group LOCKED_OUT with cause COMMIT, every channel at its demand level. -/
def safeUnitAtCommit (c : SafetyCfg) (old : SafeUnit) : SafeUnit :=
  let level := fun i => (c.pairs.getD (i / 2) default).mode == 2 && i % 2 == 1
  let live := fun p => (c.pairs.getD p default).mode != 0
  { old with
    chans := (upTo 16).foldl (fun t i => Tbl.put default t i { (default : SafeChan) with raw := level i, filt := level i }) [],
    pairs := (upTo 8).foldl (fun t p => Tbl.put default t p { (default : SafePair) with dem := live p, demands := b01 (live p) }) [],
    groups := (upTo 8).foldl (fun t g =>
      if hasBit c.groups g then Tbl.put default t g { (default : SafeGroup) with state := gsLocked, cause := 7 } else t) [],
    apart := 0, armed := 0 }

/-- The SAFETY section in force at commit. -/
def State.commitSafety (s : State) : State :=
  let c := s.cfg.safety
  { s with safety := { s.safety with a := safeUnitAtCommit c s.safety.a, b := safeUnitAtCommit c s.safety.b,
                                     lastAB := s.time.ns, lastBA := s.time.ns, tpoLow := 0, tpoBad := 0,
                                     tpoBase := s.time.ns, tpoNext := s.time.ns } }.showSafe

/-- SAFE_A_STOP_ANNOUNCE (R303): the keep domain announces a planned stop of SAFE_A. -/
def State.announceStop (s : State) : State :=
  { s with safety := { s.safety with announced := true, settleFrom := none } }.showSafe

/-- SAFE_A runs again in RUN (R303). -/
def State.endAnnounce (s : State) : State := { s with safety := { s.safety with announced := false } }.showSafe

/-- The safety group of the converter that chain c belongs to. -/
def State.chainGroup (s : State) (c : Nat) : Option Nat := do
  let cc ← s.chainCfg c
  let a ← s.armCfg cc.arm
  let v ← s.convCfg a.conv
  return v.group

/-- SAFE_BLOCK of a chain's headers (R94, R287). -/
def State.chainSafeBlock (s : State) (c : Nat) : Bool :=
  match s.chainGroup c with
  | some g => s.safeBlocks g
  | none => true

end Sys2Proof.Machine
end

