-- ==== Sys2Proof/Machine/Conv.lean ====
section
/-! DEFINITION. Converter operation (08_converter_operation.md): the converter states, the commands CONV_DEBLOCK and CONV_BLOCK, the
block causes of Table 08-5, coasting and re-entry of the arms, R183 to R197. -/

namespace Sys2Proof.Machine

/-- States of Table 08-3. -/
def cvBlocked : Nat := 1
def cvDeblocking : Nat := 2
def cvRun : Nat := 3
def cvResync : Nat := 4

/-- The state of converter c; whether it is deblocked (R185). -/
def State.cvState (s : State) (c : Nat) : Nat := s.rd Reg.CONV_STATE.STATE c
def State.deblocked (s : State) (c : Nat) : Bool := decide (s.cvState c = cvDeblocking ∨ s.cvState c = cvRun)

/-- Word i of converter c as latched (R151). -/
def State.convWord (s : State) (c i : Nat) : Int := s.rdS Reg.CONV_WORD.VALUE c i

/-- A converter sets one of its event bits, and its bit in CONV_EVENT_SRC. -/
def State.convEvent (s : State) (c : Nat) (f : Field) : State := (s.wr f 1).evBit Reg.CONV_EVENT_SRC.CONV c

/-- A converter enters a state. -/
def State.setConv (s : State) (c st : Nat) : State :=
  (s.wr Reg.CONV_STATE.STATE st c).wr Reg.CONV_STATE_FRAME.FRAME s.frameNo c

/-- CONV_RESIDUAL and SLEWING: the largest residual over the converter's arms (R195). -/
def State.showResidual (s : State) (c : Nat) : State :=
  let e := (s.convArms c).foldl (fun (m : Int) a => if m.natAbs < (s.arm a).e.natAbs then (s.arm a).e else m) 0
  (s.wrS Reg.CONV_RESIDUAL.E e c).wr Reg.CONV_STATE.SLEWING (b01 (decide (e ≠ 0))) c

/-- Every residual of a converter set to 0. -/
def State.dropResiduals (s : State) (c : Nat) : State :=
  (s.each (s.convArms c) fun s a => s.modArm a fun x => { x with e := 0 }).showResidual c

/-- What a block cause brings besides its code (Table 08-5): its event, and a contained fault for causes 4 to 6. -/
def State.noteCause (s : State) (c cause : Nat) : State :=
  let s := s.wr Reg.CONV_STATE.CAUSE cause c
  let s := s.when (cause == 5) (·.convEvent c Reg.CONV_EVENT.COAST_LIMIT)
  let s := s.when (cause == 6) (·.convEvent c Reg.CONV_EVENT.RESYNC_FAIL)
  s.when (4 ≤ cause && cause ≤ 6) (·.raise 18 (16 * c + cause))

/-- What an operational block records (R191, Table 08-5): cause, count and event. -/
def State.countBlock (s : State) (c cause : Nat) : State :=
  let s := ((s.noteCause c cause).bump Reg.CONV_COUNT.BLOCKS 1 c).convEvent c Reg.CONV_EVENT.BLOCK
  s.modConv c fun x => { x with blockedNow := true }

/-- An operational block (R191): a deblocked converter, or one in RESYNC, goes to BLOCKED; among the causes of one frame the lower
code is recorded; a converter already BLOCKED keeps its cause. -/
def State.blockConv (s : State) (c cause : Nat) : State :=
  let st := s.cvState c
  if st = cvDeblocking ∨ st = cvRun ∨ st = cvResync then
    (((s.setConv c cvBlocked).countBlock c cause).modConv c fun x => { x with ramped := false }).dropResiduals c
  else if (s.conv c).blockedNow ∧ cause < s.rd Reg.CONV_STATE.CAUSE c then s.noteCause c cause
  else s

/-- The slots of a converter's cells built again as Table 05-1 gives them for a blocked converter, for a block that falls inside a rank
window whose slots are built already; the ranking pointer keeps its value (R114, R139, R140). -/
def State.rebuildBlocked (s : State) (c : Nat) : State :=
  s.each (s.convArms c) fun s a =>
    match s.armCfg a with
    | none => s
    | some ac =>
      let s := s.wr Reg.ARM_PTR.PTR (s.arm a).undo.ptr (s.armSlice a)
      s.each (s.armCells a) fun s n =>
        let x := s.cell n
        let (cmd, _, _) :=
          dwellRule ac.minDwell s.period (holdCmd (s.tableState n false)) x.force.final (x.force.lastAfter x.fin x.last s.spanNow)
        s.modCell n fun y => { y with cmd := { cmd with bypass := y.cmd.bypass, unblock := y.cmd.unblock, clear := y.cmd.clear } }

/-- A block that takes effect in the rank window of the frame (Table 08-5): at once where none is open or the window is open, else at
the next T_COMPUTE_END. -/
def State.blockInRank (s : State) (c cause : Nat) : State :=
  match s.fr.phase with
  | .computed => (s.blockConv c cause).rebuildBlocked c
  | .stopped => s.blockConv c cause
  | _ => s.modConv c fun x => { x with atRank := some (match x.atRank with | some k => min k cause | none => cause) }

/-- A block that takes effect at the next tick. -/
def State.blockAtTick (s : State) (c cause : Nat) : State :=
  s.modConv c fun x => { x with atTick := some (match x.atTick with | some k => min k cause | none => cause) }

/-- Every declared converter blocks in the rank window with a cause. -/
def State.blockAll (s : State) (cause : Nat) : State := s.each s.cfg.convs fun s v => s.blockInRank v.conv cause

/-- Checks 3 to 9 of Table 08-4 in order; 0 where all pass. -/
def State.deblockCheck (s : State) (c : Nat) : Nat :=
  let arms := s.convArms c
  let chains := arms.flatMap s.armChains
  let group := match s.convCfg c with
    | some v => v.group
    | none => 0
  if chains.any fun k => (s.chain k.chain).extra then 3
  else if s.removing group then 4
  else if !s.referee.ball then 5
  else if s.convWord c 0 = 0 then 6
  else if s.convWord c 1 ≠ 0 then 7
  else if arms.any fun a => (s.sliceOf roArm a).isNone || (s.arm a).out || (s.arm a).lost then 8
  else if arms.any fun a => (s.armCells a).all fun n => decide (s.cstate n ≠ csService) then 9
  else 0

/-- CONV_CMD_LAST. -/
def State.convCmdLast (s : State) (c op result : Nat) : State :=
  (s.wr Reg.CONV_CMD_LAST.RESULT result c).wr Reg.CONV_CMD_LAST.OP op c

/-- CONV_DEBLOCK at its tick (R189, R191): the result code and the state. A device-raised block that takes effect at the same tick
leaves the converter BLOCKED although the command is DONE. -/
def State.cmdConvDeblock (s : State) (c : Nat) : Nat × State :=
  if (s.convCfg c).isNone then (1, s)
  else
    let r := if s.cvState c ≠ cvBlocked then 2 else s.deblockCheck c
    let s := s.convCmdLast c 1 r
    if r ≠ 0 then (r, s)
    else match (s.conv c).atTick with
      | some k => (0, if (s.conv c).met then s else (s.countBlock c k).modConv c fun x => { x with met := true })
      | none => (0, ((s.setConv c cvDeblocking).convEvent c Reg.CONV_EVENT.DEBLOCK).modConv c fun x => { x with ramped := false })

/-- CONV_BLOCK at its tick (R191): cause HOST. -/
def State.cmdConvBlock (s : State) (c : Nat) : Nat × State :=
  if (s.convCfg c).isNone then (1, s)
  else if s.cvState c = cvBlocked then (2, s.convCmdLast c 2 2)
  else (0, (s.convCmdLast c 2 0).blockConv c 8)

/-- CONV_DEBLOCK. -/
def execConvDeblock (conv : Nat) (s : State) : Host.Outcome State Fault Refusal := done (s.cmdConvDeblock conv).2

/-- CONV_BLOCK. -/
def execConvBlock (conv : Nat) (s : State) : Host.Outcome State Fault Refusal := done (s.cmdConvBlock conv).2

/-- Frames since converter c entered RESYNC. -/
def State.resyncAge (s : State) (c : Nat) : Int := frameDiff s.frameNo (s.conv c).resyncFrame

/-- Whether the three conditions of R196 hold at this tick. -/
def State.redeblocks (s : State) (c : Nat) : Bool :=
  decide (s.cvState c = cvResync) && decide (3 ≤ s.resyncAge c) && (s.conv c).sawZero && decide (s.deblockCheck c = 0)

/-- Whether a tick is at this instant. -/
def State.tickNow (s : State) : Bool := decide (s.fr.phase = .open) && decide (s.tickNs = s.count)

/-- AUTO_REDEBLOCK (R196) at a tick up to e + L1, unless a block takes effect at the same tick (R191). -/
def State.autoRedeblock (s : State) (c : Nat) : State :=
  if s.redeblocks c && decide (s.resyncAge c ≤ (s.conv c).l1) && (s.conv c).atTick.isNone then
    let s := (s.setConv c cvDeblocking).convEvent c Reg.CONV_EVENT.DEBLOCK
    s.modConv c fun x => { x with ramped := false, shown := true }
  else s

/-- AUTO_REDEBLOCK, at the instant of a tick. -/
def execAutoRedeblock (conv : Fin 12) (t : Nat) (s : State) : Host.Outcome State Fault Refusal :=
  let s := s.elapse t
  done (if s.tickNow then s.autoRedeblock conv.val else s)

/-- Whether converter c runs out of time at this tick (R196): at tick e + L1 the conditions do not hold. -/
def State.resyncOver (s : State) (c : Nat) : Bool :=
  decide (s.cvState c = cvResync) && decide (((s.conv c).l1 : Int) ≤ s.resyncAge c) &&
    !(s.redeblocks c && decide (s.resyncAge c ≤ (s.conv c).l1))

/-- RESYNC_TIMEOUT (R196): a block of the tick like the others of the device (R191). -/
def State.resyncTimeout (s : State) (c : Nat) : State := if s.resyncOver c then s.blockConv c 6 else s

/-- RESYNC_TIMEOUT, at the instant of a tick. -/
def execResyncTimeout (conv : Fin 12) (t : Nat) (s : State) : Host.Outcome State Fault Refusal :=
  let s := s.elapse t
  done (if s.tickNow then s.resyncTimeout conv.val else s)

/-- L of R194: 400 µs in frames, rounded up. -/
def State.coastLimitFrames (s : State) : Nat := (400000 + s.period - 1) / max s.period 1

/-- COAST_LIMIT (R194). -/
def State.coastLimit (s : State) (c : Nat) : State :=
  if s.deblocked c && decide (s.coastLimitFrames ≤ (s.conv c).coastRun) then s.blockInRank c 5 else s

/-- COAST_LIMIT. -/
def execCoastLimit (conv : Fin 12) (t : Nat) (s : State) : Host.Outcome State Fault Refusal :=
  done ((s.elapse t).coastLimit conv.val)

/-- theta_mf of the converter of an arm (R193): 0 for other kinds. -/
def State.thetaMf (s : State) (a : Nat) : Nat :=
  match s.armCfg a with
  | some ac =>
    match s.convCfg ac.conv with
    | some v => if v.kind = 2 then (s.conv v.conv).theta else 0
    | none => 0
  | none => 0

/-- The reference registers of the slice of arm a show the block in force (R132). -/
def State.showBlock (s : State) (a : Nat) : State :=
  let n := s.armSlice a
  let b := (s.arm a).blk
  let s := ((s.wrS Reg.ARM_VDC.V b.vdc n).wrS Reg.ARM_VAC.V b.vac n).wrS Reg.ARM_VEXTRA.V b.vextra n
  let s := ((s.wr Reg.ARM_THETA.THETA b.theta n).wrS Reg.ARM_OMEGA.OMEGA b.omega n).wr Reg.ARM_CAPINV.CAP_INV b.capInv n
  let s := (s.wrS Reg.ARM_PHASE.PHASE_REF b.phaseRef n).wrS Reg.ARM_PHASE.PHASE_BAL b.phaseBal n
  s.wr Reg.ARM_PHASE_LIM.LIM b.phaseLim n

/-- A frame without a latch begins or goes on, or ends: the angle that R132 gives for this frame. Coasting starts from the angle in
use, theta − e (R195). -/
def ArmSt.coastAngle (x : ArmSt) (period : Nat) : Nat :=
  angle ((if x.coastRun = 0 then (x.blk.theta : Int) - x.e else (x.thetaCoast : Int)) + angleStep x.blk.omega period)

/-- The latch of one arm at T_COMPUTE_END (R132): `coast` where it latches no block in this frame; then the previous block stays, its
angle advanced. -/
def ArmSt.latch (x : ArmSt) (coast : Bool) (period : Nat) : ArmSt :=
  if coast then
    { x with blk := { x.blk with theta := angle ((x.blk.theta : Int) + angleStep x.blk.omega period) },
             thetaCoast := x.coastAngle period, coastRun := x.coastRun + 1 }
  else { x with blk := x.want, thetaCoast := x.coastAngle period }

/-- The latch of arm a, and its registers. -/
def State.latchArm (s : State) (a : Nat) (coast : Bool) : State :=
  let s := s.modArm a fun x => x.latch coast s.period
  if (s.sliceOf roArm a).isSome then s.showBlock a else s

/-- REENTRY_CHECK of a converter of which arms latch again after frames without a latch (R195, R196). `latched` are the arms that latch
in this frame. -/
def State.reentry (s : State) (c : Nat) (latched : List Nat) : State :=
  let arms := latched.filter fun a => decide ((s.arm a).coastRun ≠ 0)
  if !s.deblocked c || arms.isEmpty then s
  else
    let d := fun a => signed 32 (unsigned 32 (((s.arm a).blk.theta : Int) - (s.arm a).thetaCoast))
    let worst := arms.foldl (fun (m : Int) a => if m.natAbs < (d a).natAbs then d a else m) 0
    let s := s.wrS Reg.CONV_DTHETA.DTHETA worst c
    if worst.natAbs ≤ 119304647 then
      (s.each arms fun s a => s.modArm a fun x => { x with e := d a }).showResidual c
    else
      let now := s.time.ns
      let recent := ((s.conv c).entries.filter fun t => decide (now < t + 10000000000)) ++ [now]
      let s := (s.bump Reg.CONV_COUNT.RESYNCS 1 c).modConv c fun x => { x with entries := recent }
      if 3 ≤ recent.length then s.blockConv c 6
      else
        let p := max s.period 1
        let s := ((s.setConv c cvResync).convEvent c Reg.CONV_EVENT.RESYNC).raise 19 c
        (s.modConv c fun x =>
          { x with resyncFrame := s.frameNo, l1 := (1000000000 + p - 1) / p, sawZero := false, ramped := false }).dropResiduals c

/-- The converter words of a frame that is not a coast frame (R151, R184, R191): BLOCK_REQ acts on the state, RAMP_DONE is kept for
the next tick (R190). -/
def State.latchWords (s : State) (c : Nat) : State :=
  let w := (s.conv c).work
  let s := s.each (upTo 16) fun s i => s.wrS Reg.CONV_WORD.VALUE (Tbl.look 0 w i) c i
  let s := s.when (decide (s.convWord c 0 = 0)) fun s => s.modConv c fun x => { x with sawZero := true }
  let s := s.when (decide (s.cvState c = cvDeblocking ∧ s.convWord c 2 ≠ 0)) fun s => s.modConv c fun x => { x with ramped := true }
  if s.convWord c 1 ≠ 0 then s.blockConv c 7 else s

/-- A residual moved towards 0 by s (R195). -/
def slewResidual (e : Int) (slew : Nat) : Int :=
  let st : Int := (slew * 2 ^ 32 / 36000 : Nat)
  if (e.natAbs : Int) ≤ st then 0 else if 0 < e then e - st else e + st

/-- A converter at a tick, before the commands of the tick (R190, R193, R195): theta_mf, RAMP_DONE, residuals, coast counters. -/
def State.convTick (s : State) (v : ConvCfg) : State :=
  let c := v.conv
  let s := s.modConv c fun x => { x with blockedNow := false, met := false }
  let s := s.when (s.resyncOver c) (·.blockAtTick c 6)
  let s := if v.kind = 2 then
      (let th := ((s.conv c).theta + s.rd Reg.CONV_MF_OMEGA.OMEGA_MF c * s.period / 1000) % 4294967296
       (s.modConv c fun x => { x with theta := th }).wr Reg.CONV_MF_THETA.THETA_MF th c)
    else s
  let s := s.when (decide (s.cvState c = cvDeblocking) && (s.conv c).ramped) fun s =>
    ((s.setConv c cvRun).convEvent c Reg.CONV_EVENT.RUN).modConv c fun x => { x with ramped := false }
  (s.each (s.convArms c) fun s a => s.modArm a fun x => { x with e := slewResidual x.e v.slew }).showResidual c

/-- A converter at a tick, after the commands of the tick: the device-raised blocks (Table 08-5), the automatic redeblock (R196) and
DEBLOCKED of the frame. -/
def State.convTickEnd (s : State) (c : Nat) : State :=
  let s := match (s.conv c).atTick with
    | some k => (s.blockConv c k).modConv c fun x => { x with atTick := none }
    | none => s.autoRedeblock c
  s.modConv c fun x => { x with shown := s.deblocked c }

/-- The CONVERTERS section at commit (R185, R193). -/
def State.commitConvs (s : State) : State :=
  s.each s.cfg.convs fun s v =>
    let s := ((s.wr Reg.CONV_STATE.STATE cvBlocked v.conv).wr Reg.CONV_STATE.KIND v.kind v.conv).wr Reg.CONV_STATE.ARMS v.mask v.conv
    s.wr Reg.CONV_MF_OMEGA.OMEGA_MF (if v.kind = 2 then (v.mfHz * 2 ^ 32 + 500000) / 1000000 else 0) v.conv

end Sys2Proof.Machine
end

