-- ==== Sys2Proof/Machine/LinkRows.lean ====
section
/-! DEFINITION. The commands of the cell link (04_mesia_link.md) and of cell supervision (05_team_sheet.md): uplink slots, calls and
replies, sync, the lane controls, the cell commands, and what T_FREEZE does to the chains and their cells (R50 to R52, R110 to R113,
R116). -/

namespace Sys2Proof.Machine

/-- Whether a lane end hears its chain: declared, and its role in service. -/
def State.laneHears (s : State) (lane : Nat) : Bool := s.laneDeclared lane && (s.sliceOf roLane lane).isSome && !(s.lane lane).sliceOut

/-- A late good slot ends the missing run that it falls into (R110, DEDUCED, assumption 43: it did arrive). -/
def State.lateArrival (s : State) (lane j : Nat) : State :=
  s.modLane lane fun l => { l with missFrom := match l.missFrom with
    | some q => if q ≤ j then none else some q
    | none => none }

/-- A good slot of position h at a lane end that serves it, in the order of R47. -/
def State.goodSlot (s : State) (cc : ChainCfg) (lane h : Nat) (ns : Nat) (b : List Byte) : State :=
  let n := cc.base + h
  if s.fr.phase ≠ .open ∨ s.tFreeze < ns then
    let s := (s.bump Reg.STALE_COUNT.LATE).bump Reg.LANE_LATE.SLOTS 1 lane
    let s := s.when (!s.on Reg.LANE_STATUS.CHAIN_LATE lane) (·.bump Reg.LANE_LATE.FRAMES 1 lane)
    (s.lateArrival lane (if lane % 2 = 0 then h else s.chainCells cc.chain - 1 - h)).chainLate lane
  else if u16At b 2 ≠ s.frameNo % 65536 then s.bump Reg.DUP_COUNT.OLD
  else if (s.cell n).done then
    { s.bump Reg.DUP_COUNT.DUP with fr := { s.fr with dup := s.fr.dup + 1 } }
  else s.modCell n fun c => { c with done := true, arrive := ns, slot := b }

/-- An uplink slot of 32 bytes that arrives `ns` after the tick at a lane end (R47, Table 04-5). -/
def State.uplinkSlot (s : State) (lane ns : Nat) (b : List Byte) : State :=
  match s.chainCfg (lane / 2) with
  | some cc =>
    if !s.ticking || !s.laneHears lane then s
    else
      let h := u8At b 1
      let serves := s.frameServing cc h == some lane
      if crc16 (slice b 1 29) = u16At b 30 then
        if serves then s.goodSlot cc lane h ns b else s.bump Reg.LANE_CODE_ERR.POS 1 lane
      else
        let s := s.bump Reg.LANE_CRC32_ERR.SLOT 1 lane
        if serves ∧ s.fr.phase = .open ∧ ns ≤ s.tFreeze then s.modCell (cc.base + h) fun c => { c with crcBad := true } else s
  | none => s

/-- UPLINK_SLOT (R47). -/
def execUplinkSlot (lane : Fin 96) (ns : Nat) (bytes : List Byte) (s : State) : Host.Outcome State Fault Refusal :=
  done ((s.elapse (s.tickNs + s.time.behind + ns)).uplinkSlot lane.val ns bytes)

/-- UPLINK_TRAIN_CRC (R98): `bytes` are the data bytes of an uplink train and `crc` the CRC-32 that closes it. A mismatch counts; nothing
is rejected. -/
def execUplinkTrainCrc (lane : Fin 96) (bytes : List Byte) (crc : Nat) (s : State) : Host.Outcome State Fault Refusal :=
  done (s.when (s.laneHears lane.val && decide (crc ≠ crc32 bytes)) (·.bump Reg.LANE_CRC32_ERR.TRAIN 1 lane.val))

/-! ### Calls -/

/-- A call leaves a lane (R88, R94, R106); `bad` where its header leaves with the wrong SAFE_BLOCK. A lane that may not send sends
nothing, and the call stays unanswered. An all-call from lane 2n has not looped yet. -/
def State.launch (s : State) (lane : Nat) (target : Option Nat) (ident bad : Bool) : State :=
  let base := s.callBase lane target.isNone
  let s := s.when (s.laneSends lane)
    (·.emit (.call lane (s.callBytes lane (target.getD 0xFF) base (s.chainSafeBlock (lane / 2) != bad))))
  let s := s.when (target.isNone && decide (lane % 2 = 0)) (·.wr Reg.LANE_CHAIN.LOOPED 0 lane)
  s.modChain (lane / 2) fun x => { x with call := some ⟨lane, target, base, s.frameNo, ident, false, 0⟩ }

/-- The all-call of a lane end at a tick. -/
def State.allCallNow (s : State) (lane : Nat) (headerBad : List Nat) : State :=
  (s.modLane lane fun l => { l with allCall := false }).launch lane none false (headerBad.contains lane)

/-- The all-call of a chain that waits for this tick of KICK-OFF (R108, R109). The two of step 10 leave at consecutive ticks, from the
first at which both lane ends are in sync and may send (DESIGN CHOICE, assumption 33); a call repeated later leaves by itself. The device
of a pair without the pair ball calls nobody (R216, R218). -/
def State.tickAllCall (s : State) (cc : ChainCfg) (headerBad : List Nat) : State :=
  let e := 2 * cc.chain
  let ready := fun lane => s.on Reg.LANE_STATUS.SYNC lane && s.laneSends lane
  if s.pairMute then s
  else match (s.chain cc.chain).started with
  | 0 => if ready e && ready (e + 1) then (s.modChain cc.chain fun c => { c with started := 1 }).allCallNow e headerBad else s
  | 1 => (s.modChain cc.chain fun c => { c with started := 2 }).allCallNow (e + 1) headerBad
  | _ =>
    if (s.lane e).allCall then s.allCallNow e headerBad
    else if (s.lane (e + 1)).allCall then s.allCallNow (e + 1) headerBad
    else s

/-- The valid delay of an end position set or dropped; registers hold those of positions 0 to 31. The lane ends of the chain are planned
again (R102). -/
def State.setDelay (s : State) (lane q : Nat) (d : Option Nat) : State :=
  if 32 ≤ q then s
  else
    let s := match d with
      | some d => (s.wr Reg.LANE_DELAY.D d lane q).wr Reg.LANE_DELAY.VALID 1 lane q
      | none => s.wr Reg.LANE_DELAY.VALID 0 lane q
    (s.planLane lane).showLane lane

/-- A sweep whose last call is settled ends (R109). -/
def State.endSweep (s : State) (lane : Nat) : State :=
  match (s.lane lane).sweep with
  | some q => if s.phys (lane / 2) ≤ q then (s.modLane lane fun l => { l with sweep := none }).sweepDone lane else s
  | none => s

/-- A reply to the call of a chain (R107, Table 04-8): `roundTrip` is measured from comma to comma. -/
def State.callupReply (s : State) (lane roundTrip : Nat) (b : List Byte) : State :=
  match s.chainCfg (lane / 2) with
  | some cc =>
    match (s.chain cc.chain).call with
    | some k =>
      let q := u8At b 5
      let h := u8At b 1
      let named := match k.target with
        | some t => q == t
        | none => true
      if !s.laneHears lane || k.lane ≠ lane || !named || crc16 (slice b 1 29) ≠ u16At b 30 then s
      else
        let turn := if k.target.isSome then 400 else 400 + 160 * q
        let s := s.modChain cc.chain fun c => { c with call := some { k with answered := true, got := setBit k.got q } }
        let s := s.setDelay lane q (some ((roundTrip - turn) / 2))
        let s := if h < cc.cells then s.goodReply cc lane h q k.ident b else s.when k.target.isNone (·.foundExtra cc.chain)
        s.when k.target.isSome (·.endSweep lane)
    | none => s
  | none => s

/-- CALLUP_REPLY (R107). -/
def execCallupReply (lane : Fin 96) (roundTrip : Nat) (bytes : List Byte) (t : Nat) (s : State) : Host.Outcome State Fault Refusal :=
  done ((s.elapse t).callupReply lane.val roundTrip bytes)

/-- A CALLUP train returns on the opposite lane of its chain (R107, R108): the loop delay and P are recorded. -/
def State.callupLoop (s : State) (lane loop hop : Nat) : State :=
  match s.chainCfg (lane / 2) with
  | some cc =>
    match (s.chain cc.chain).call with
    | some k =>
      if k.lane = lane ∨ k.target.isSome ∨ !s.laneHears lane then s
      else
        let c := cc.chain
        let s := (s.wr Reg.LANE_LOOP.LOOP_NS loop (2 * c)).wr Reg.LANE_CHAIN.PHYS hop (2 * c)
        let s := s.when (decide (k.lane % 2 = 0)) (·.wr Reg.LANE_CHAIN.LOOPED 1 (2 * c))
        let s := s.when (decide (cc.cells < hop)) (·.foundExtra c)
        s.planChain c
    | none => s
  | none => s

/-- CALLUP_LOOP (R107). -/
def execCallupLoop (lane : Fin 96) (loop hop : Nat) (t : Nat) (s : State) : Host.Outcome State Fault Refusal :=
  done ((s.elapse t).callupLoop lane.val loop hop)

/-- An identity call that got no good reply (R116): it is repeated from the head of the queue, and the third failure ends it. -/
def State.callFailed (s : State) (cc : ChainCfg) (k : Call) : State :=
  match (s.chain cc.chain).calls with
  | x :: rest =>
    if !k.ident || x.lane ≠ k.lane then s
    else if x.tries < 2 then
      s.modChain cc.chain fun c => { c with calls := { x with tries := x.tries + 1 } :: rest }
    else
      let s := s.modChain cc.chain fun c => { c with calls := rest }
      let s := (s.wr Reg.TS_CALL.RESULT 4 (cc.base + x.h)).wr Reg.CELL_STATE.NO_REPLY 1 (cc.base + x.h)
      s.showQueued cc x.h
  | [] => s

/-- The targeted call of an earlier frame is settled: an end position that did not answer it has no valid delay (R107, R116). -/
def State.settleCall (s : State) (cc : ChainCfg) : State :=
  match (s.chain cc.chain).call with
  | some k =>
    match k.target with
    | some q =>
      if k.frame = s.frameNo then s
      else
        let s := if k.answered then s else (s.setDelay k.lane q none).callFailed cc k
        let s := s.modChain cc.chain fun c => { c with call := none }
        s.endSweep k.lane
    | none => s
  | none => s

/-- The all-call of an earlier tick is settled at the next (R65, R107, R108): end positions that gave it no good reply have no valid
delay (DEDUCED, assumption 55), and the lane has come up if it is in sync. -/
def State.settleAllCall (s : State) (cc : ChainCfg) : State :=
  match (s.chain cc.chain).call with
  | some k =>
    if k.target.isSome ∨ k.frame = s.frameNo then s
    else
      let s := s.modChain cc.chain fun c => { c with call := none }
      let s := s.each ((upTo 32).filter fun q => !hasBit k.got q) fun s q => s.wr Reg.LANE_DELAY.VALID 0 k.lane q
      (s.planLane k.lane).sweepDone k.lane
  | none => s

/-- The call a chain sends 200 ns after T_FREEZE (R109, R116): the oldest identity call queued before this frame, else the next
position of a sweep, lane 2n first; a frame in which the chain is CHAIN_LATE skips it. -/
def State.callupLaunch (s : State) (cc : ChainCfg) (bad : Bool) : State :=
  let c := cc.chain
  let late := s.on Reg.LANE_STATUS.CHAIN_LATE (2 * c) || s.on Reg.LANE_STATUS.CHAIN_LATE (2 * c + 1)
  if s.device ≠ stRun ∨ s.fr.phase = .open ∨ s.fr.phase = .stopped ∨ (s.chain c).call.isSome ∨ late ∨ s.pairMute then s
  else
    match (s.chain c).calls.find? (fun x => x.frame != s.frameNo) with
    | some x =>
      let s := s.modChain c fun z => { z with calls := { x with frame := s.frameNo } :: z.calls.filter fun y => y != x }
      s.launch x.lane (some (s.endPos x.lane x.h)) true bad
    | none =>
      let next := [2 * c, 2 * c + 1].find? fun lane => match (s.lane lane).sweep with
        | some q => decide (q < s.phys c)
        | none => false
      match next with
      | some lane =>
        let q := (s.lane lane).sweep.getD 0
        (s.modLane lane fun l => { l with sweep := some (q + 1) }).launch lane (some q) false bad
      | none => s

/-- CALLUP_LAUNCH (R109); a header that leaves with the wrong SAFE_BLOCK is a failed diagnostic (R94, R302, cause 3). -/
def execCallupLaunch (call : CallIn) (t : Nat) (s : State) : Host.Outcome State Fault Refusal :=
  let s := s.elapse t
  done (match s.chainCfg call.chain.val with
    | some cc =>
      let was := (s.chain cc.chain).call
      let s := s.callupLaunch cc call.headerBad
      match was, (s.chain cc.chain).call with
      | none, some k => s.when (call.headerBad && s.laneSends k.lane) (·.diagFail false 3)
      | _, _ => s
    | none => s)

/-- A lane end that comes up is measured: by an all-call at a tick in KICK-OFF, by a sweep of targeted calls in RUN (R109). -/
def State.measure (s : State) (lane : Nat) : State :=
  let s :=
    if s.inKickOff then s.modLane lane fun l => { l with allCall := true }
    else s.modLane lane fun l => { l with sweep := some (l.sweep.getD 0) }
  s.showLane lane

/-- LANE_SYNC_ACQUIRE (R89). -/
def State.syncAcquire (s : State) (lane : Nat) : State :=
  if !s.laneDeclared lane || s.on Reg.LANE_STATUS.SYNC lane then s
  else
    let s := (s.wr Reg.LANE_STATUS.SYNC 1 lane).wr Reg.LANE_EVENT.SYNC 1 lane
    let s := s.modLane lane fun l => { l with lost := false }
    if s.on Reg.LANE_CTRL.FORCE_IDLE lane || (s.lane lane).sliceOut then s.showLane lane else s.measure lane

/-- LANE_SYNC_ACQUIRE. -/
def execLaneSyncAcquire (lane : Fin 96) (t : Nat) (s : State) : Host.Outcome State Fault Refusal :=
  done ((s.elapse t).syncAcquire lane.val)

/-- LANE_SYNC_LOSS (R89): the violations that a loss brings add an amount the spec does not tie to it, a free value, to
LANE_CODE_ERR.CODE. A lane that serves cells becomes LOST. -/
def State.syncLoss (s : State) (lane : Nat) : State :=
  if !s.on Reg.LANE_STATUS.SYNC lane then s
  else
    let s := (s.wr Reg.LANE_STATUS.SYNC 0 lane).bump Reg.LANE_CODE_ERR.LOS 1 lane
    let (f, s) := s.draw
    let s := s.bump Reg.LANE_CODE_ERR.CODE f lane
    let s := s.modLane lane fun l => { l with up := false, dropped := true }
    s.loseLane lane

/-- LANE_SYNC_LOSS. -/
def execLaneSyncLoss (lane : Fin 96) (t : Nat) (s : State) : Host.Outcome State Fault Refusal := done ((s.elapse t).syncLoss lane.val)

/-- Where a cell is, as its register shows it (CELL_PLACE). -/
def State.showPlace (s : State) (cc : ChainCfg) (h : Nat) : State :=
  let n := cc.base + h
  let lane := s.servingLane cc.chain h
  let s := (s.wr Reg.CELL_PLACE.CHAIN cc.chain n).wr Reg.CELL_PLACE.POS h n
  let s := (s.wr Reg.CELL_PLACE.ARM cc.arm n).wr Reg.CELL_PLACE.CLASS (match s.cellCfg n with | some x => x.cls | none => 0) n
  let s := s.wr Reg.CELL_PLACE.REACHABLE (b01 lane.isSome) n
  match lane with
  | some l => s.wr Reg.CELL_PLACE.END (l % 2) n
  | none => s

/-- A move decided at this freeze is in force, for the lane ends and for the cells (R111). -/
def State.settleMove (s : State) (cc : ChainCfg) : State :=
  let s := s.takeMove cc
  s.when (s.chain cc.chain).before.isSome fun s => s.each (upTo cc.cells) fun s h => s.showPlace cc h

/-- LANE_RESTORE (R113): the request waits for the next T_FREEZE; the bit is even-only. -/
def State.laneRestore (s : State) (lane : Nat) : State :=
  if lane % 2 = 0 ∧ s.laneDeclared lane then s.modChain (lane / 2) fun c => { c with restoreReq := true } else s

/-- LANE_RESTORE. -/
def execLaneRestore (lane : Fin 96) (s : State) : Host.Outcome State Fault Refusal := done (s.laneRestore lane.val)

/-- LANE_CALLUP (R109): a sweep from its beginning, or an all-call in KICK-OFF; ignored while a sweep runs, and on a line in electrical
idle (R88). -/
def State.laneCallup (s : State) (lane : Nat) : State :=
  let l := s.lane lane
  if s.elecIdle lane || l.sweep.isSome || l.allCall then s else s.measure lane

/-- LANE_CALLUP. -/
def execLaneCallup (lane : Fin 96) (s : State) : Host.Outcome State Fault Refusal := done (s.laneCallup lane.val)

/-- LANE_FORCE_IDLE (R88, R110): the transmitter goes to electrical idle and the lane is lost; or it leaves it, and a receiver in
sync is measured again. -/
def State.forceIdle (s : State) (lane : Nat) (idle : Bool) : State :=
  if s.on Reg.LANE_CTRL.FORCE_IDLE lane = idle then s
  else
    let s := s.wr Reg.LANE_CTRL.FORCE_IDLE (b01 idle) lane
    if !s.laneDeclared lane then s
    else if idle then s.loseLane lane
    else if s.on Reg.LANE_STATUS.SYNC lane then (s.modLane lane fun l => { l with lost := false }).measure lane
    else s.showLane lane

/-- LANE_FORCE_IDLE. -/
def execLaneForceIdle (lane : Fin 96) (idle : Bool) (t : Nat) (s : State) : Host.Outcome State Fault Refusal :=
  done ((s.elapse t).forceIdle lane.val idle)

/-- LANE_CLEAR.COUNTS of one lane (R13). -/
def State.laneClear (s : State) (lane : Nat) : State :=
  let s := (s.wr Reg.LANE_CRC32_ERR.TRAIN 0 lane).wr Reg.LANE_CRC32_ERR.SLOT 0 lane
  let s := ((s.wr Reg.LANE_CODE_ERR.CODE 0 lane).wr Reg.LANE_CODE_ERR.LOS 0 lane).wr Reg.LANE_CODE_ERR.POS 0 lane
  (s.wr Reg.LANE_LATE.SLOTS 0 lane).wr Reg.LANE_LATE.FRAMES 0 lane

/-- LANE_CLEAR_COUNTS. -/
def execLaneClearCounts (lane : Fin 96) (s : State) : Host.Outcome State Fault Refusal := done (s.laneClear lane.val)

/-- CELL_ADMIT (R119). -/
def execCellAdmit (cell identity : Nat) (s : State) : Host.Outcome State Fault Refusal := done (s.cellAdmit cell identity).2

/-- CELL_BYPASS (R119). -/
def execCellBypass (cell : Nat) (s : State) : Host.Outcome State Fault Refusal := done (s.cellBypass cell).2

/-- CELL_FAULT_CLEAR (R119). -/
def execCellFaultClear (cell : Nat) (s : State) : Host.Outcome State Fault Refusal := done (s.cellFaultClear cell).2

/-! ### T_FREEZE -/

/-- The serving lane of position h once the move decided at this freeze is in force. -/
def State.nextServing (s : State) (cc : ChainCfg) (h : Nat) : Option Nat :=
  match (s.chain cc.chain).next with
  | some (sp, g) =>
    if h < sp then some (2 * cc.chain) else if sp + g ≤ h ∧ h < cc.cells then some (2 * cc.chain + 1) else none
  | none => s.servingLane cc.chain h

/-- The cells that the move decided at this freeze hands over or leaves unreachable carry MOVING now and at the next (R112). -/
def State.freezeMoving (s : State) (cc : ChainCfg) (h : Nat) : State :=
  let now := s.nextServing cc h != s.servingLane cc.chain h
  s.modCell (cc.base + h) fun c => { c with moving := now || c.moved, moved := now }

/-- A quiet gap (R116, case 2): the delays of the position are invalid from both ends, and it is called once from each. -/
def State.quietGap (s : State) (cc : ChainCfg) (h : Nat) : State :=
  let n := cc.base + h
  let c := cc.chain
  let s := s.modCell n fun x => { x with quietCalled := true, xEven := none, xOdd := none }
  let s := s.setDelay (2 * c) (s.endPos (2 * c) h) none
  let s := s.setDelay (2 * c + 1) (s.endPos (2 * c + 1) h) none
  (s.queueCall cc h (2 * c) false).queueCall cc h (2 * c + 1) false

/-- A position that becomes unreachable, or stays so (R111, R116, R117). -/
def State.freezeReach (s : State) (cc : ChainCfg) (h : Nat) : State :=
  let n := cc.base + h
  let gone := (s.nextServing cc h).isNone
  let was := (s.cell n).gone
  let s := s.modCell n fun x => { x with gone := gone }
  if !gone then s
  else
    let s := s.when (!was) fun s =>
      ((s.modCell n fun x => { x with xEven := none, xOdd := none, quietCalled := false }).wr Reg.TS_CALL.VALID_EVEN 0 n).wr
        Reg.TS_CALL.VALID_ODD 0 n
    let tells := fun (g : Nat) => (decide (0 < g) && s.freshPort (n - h + g - 1) 1) || (decide (g < cc.cells) && s.freshPort (n - h + g) 0)
    let told := tells h || tells (h + 1)
    if told then s.modCell n fun x => { x with quietCalled := false }
    else if (s.cell n).quietCalled then s
    else s.quietGap cc h

/-- A completed entry becomes FRESH (R50); a restart sign or the end of a long stale run queues a call to the serving end (R116). -/
def State.freezeFresh (s : State) (cc : ChainCfg) (h : Nat) : State :=
  let n := cc.base + h
  let c := s.cell n
  let dab := match s.cellCfg n with
    | some x => x.cls == 2
    | none => false
  let miss := u16At c.slot 16
  let restart := match c.prevMiss with
    | some m => decide (miss < m)
    | none => false
  let back := !c.fresh && c.staleLong && !c.called
  let lane := (s.servingLane cc.chain h).getD (2 * cc.chain)
  let s := s.when restart (·.queueCall cc h lane true)
  let s := s.when back (·.queueCall cc h lane false)
  let v := u16At c.slot 4
  let v2 := if dab then u16At c.slot 6 else 0
  let s := s.wr Reg.CELL_LAST_FRESH.FRAME s.frameNo n
  s.modCell n fun c => { c with
    fresh := true, frozen := true, vPrev := c.v, v2Prev := c.v2, v := v, v2 := v2, staleRun := 0, trip3 := false,
    staleLong := false, prevMiss := some miss }

/-- An entry still open becomes STALE, with the predicted voltage (R50 to R52). -/
def State.freezeStale (s : State) (n : Nat) : State :=
  let c := s.cell n
  let run := if c.moving then c.staleRun else min 3 (c.staleRun + 1)
  let v := (clampI 0 65535 ((c.v : Int) + c.step)).toNat
  let begins := c.fresh || !c.frozen
  let s := s.bump Reg.STALE_COUNT.STALE
  let s := s.when (s.cstate n != csBypassed && decide (run < 3)) (·.raise 2 n)
  s.modCell n fun c => { c with
    fresh := false, frozen := true, vPrev := c.v, v2Prev := c.v2, v := v, staleRun := run,
    trip3 := c.trip3 || (decide (run = 3) && decide (c.staleRun < 3)),
    staleLong := !begins, called := if begins then false else c.called }

/-- One cell at T_FREEZE. -/
def State.freezeCell (s : State) (cc : ChainCfg) (h : Nat) : State :=
  let n := cc.base + h
  let s := s.freezeMoving cc h
  let s := if (s.cell n).done then s.freezeFresh cc h else s.freezeStale n
  let s := s.freezeReach cc h
  (s.wr Reg.CELL_VOLT.V_USED (s.cell n).v n).wr Reg.CELL_VOLT.V2_USED (s.cell n).v2 n

/-- An automatic restore judged at a freeze whose cells are frozen already (R112, R113): the cells it moves carry MOVING too. -/
def State.restoreFrozen (s : State) (cc : ChainCfg) : State :=
  let s := s.autoRestore cc
  let s := s.each (upTo cc.cells) fun s h =>
    let now := s.nextServing cc h != s.servingLane cc.chain h
    s.modCell (cc.base + h) fun c => { c with moving := c.moving || now, moved := c.moved || now }
  s.settleMove cc

/-- A chain with its cells and lane ends at T_FREEZE: calls settled, segments and split, restores, then the cells. Entries hit by an
uncorrectable buffer error count as open (R28). -/
def State.freezeAll (s : State) (cc : ChainCfg) : State :=
  let s := s.settleCall cc
  let s := s.each cc.cellList fun s n => s.modCell n fun c => if c.bad then { c with done := false, bad := false } else c
  let s := (s.freezeChain cc).autoRestore cc
  let s := (s.freezeLane (2 * cc.chain)).freezeLane (2 * cc.chain + 1)
  (s.each (upTo cc.cells) fun s h => s.freezeCell cc h).settleMove cc

end Sys2Proof.Machine
end

