-- ==== Sys2Proof/Machine/Referee.lean ====
section
/-! DEFINITION. The referee, its planes and the checkpoint store (09_redundancy_journal.md, R198 to R215): withdrawal, takeover, half-time
and revive. A tick does what is due at it (FRAME_TICK, `refereeTick`); the rows LEASE_EXPIRY, TAKEOVER_GRANT, HALFTIME_HANDOVER and
REVIVE_COMPLETE do their part of it where it is due and has not been done. -/

namespace Sys2Proof.Machine

/-- States of Table 09-4. -/
def rsSetup : Nat := 0
def rsHeld : Nat := 1
def rsWake : Nat := 2
def rsShadow : Nat := 3
def rsLost : Nat := 4

/-- Roles of Table 09-5. -/
def roOff : Nat := 0
def roCold : Nat := 1
def roWaking : Nat := 2
def roShadow : Nat := 3
def roActive : Nat := 4
def roUnfit : Nat := 5

/-- The referee's state, the plane last granted (0 = A), the other plane, and the role of a plane. -/
def State.refState (s : State) : Nat := s.rd Reg.REF_STATUS.STATE
def State.holder (s : State) : Nat := s.rd Reg.REF_STATUS.HOLDER
def State.standby (s : State) : Nat := 1 - s.holder
def State.role (s : State) (p : Nat) : Nat := s.rd (if p = 0 then Reg.REF_STATUS.ROLE_A else Reg.REF_STATUS.ROLE_B)

/-- Engine of position j on plane p (R25). -/
def engOf (p j : Nat) : Nat := 8 * p + j

/-- The referee's record changed. -/
def State.modRef (s : State) (f : RefSt → RefSt) : State := { s with referee := f s.referee }

/-- The exports of plane p in the registers: zero while the plane is not powered. -/
def State.showExports (s : State) (p : Nat) (on : Bool) : State :=
  s.each (upTo 8) fun s j =>
    let x := (s.eng (engOf p j)).exports
    s.each (upTo 32) fun s i => s.wrS Reg.ENG_EXPORT.VALUE (if on then x.getD i 0 else 0) (engOf p j) i

/-- A plane takes a role (Table 09-5): its registers; the run of a plane that is switched off ends without a commit, and its rail is
off (R373). -/
def State.setRole (s : State) (p r : Nat) : State :=
  let s := s.when (decide (r = roUnfit ∧ s.role p ≠ roUnfit)) (·.wr Reg.REF_EVENT.UNFIT 1)
  let on := r == roWaking || r == roShadow || r == roActive
  let s := s.wr (if p = 0 then Reg.REF_STATUS.ROLE_A else Reg.REF_STATUS.ROLE_B) r
  let s := s.wr (if p = 0 then Reg.DOMAIN_STATE.PLANE_A else Reg.DOMAIN_STATE.PLANE_B) (b01 on)
  let s := s.each (upTo 8) fun s j =>
    let e := engOf p j
    let s := (s.wr Reg.ENG_STATUS.BALL (b01 (r == roActive)) e).wr Reg.ENG_STATUS.SHADOW (b01 (r == roShadow)) e
    let s := s.wr Reg.ENG_STATUS.COLD (b01 (r == roCold)) e
    s.when (!on) (·.modEng e fun x => { x with running := false, result := none })
  let s := s.when (!on) (·.showExports p false)
  if on then s
  else { s with power := { s.power with pgood := clrBit s.power.pgood (2 + p) } }.wrBit Reg.POWER_PGOOD.PGOOD p false

/-- The planner's history is emptied: the forecast is static again (R57). -/
def State.emptyHistory (s : State) : State :=
  let f := s.cfg.frame
  let s := { s with fr := { s.fr with history := [] } }
  let s := s.wr Reg.PLAN_LEVEL.STATIC 1
  (s.wr Reg.PLAN_FORECAST.ENG_NEED (min 65535 (f.engStatic.foldl max 0))).wr Reg.PLAN_FORECAST.FAB_NEED
    (min 65535 (f.armStatic.foldl max 0))

/-- The number of the frame that begins at this instant's tick: the current one where its tick is this instant, else the next. -/
def State.tickFrame (s : State) : Nat :=
  if s.ticking ∧ s.tickNs = s.count then s.frameNo else (s.frameNo + 1) % 4294967296

/-- The referee enters LOST (Table 09-4, R205): no ball, every plane that is not OFF becomes UNFIT, a fatal fault, and every
deblocked converter blocks with cause FATAL. -/
def State.lose (s : State) : State :=
  if s.refState = rsLost ∨ s.referee.broken then s
  else
    let s := s.each [0, 1] fun s p => if s.role p = roOff then s else s.setRole p roUnfit
    let s := s.modRef fun r => { r with ball := false, wake := .none, shadow := none, forced := false, expiring := false, writing := none }
    let s := (s.wr Reg.REF_STATUS.STATE rsLost).wr Reg.REF_STATUS.LEASE 0
    (s.raise 56 s.holder).blockAll 2

/-- The referee goes back to SETUP with both planes off, without a takeover (R376, R390). LOST is left by a DEV reset alone (R205). -/
def State.toSetup (s : State) : State :=
  let s := (s.setRole 0 roOff).setRole 1 roOff
  let s := s.modRef fun r =>
    { r with ball := false, wake := .none, shadow := none, forced := false, expiring := false, renewed := false, writing := none }
  (s.when (decide (s.refState ≠ rsLost)) (·.wr Reg.REF_STATUS.STATE rsSetup)).wr Reg.REF_STATUS.LEASE 0

/-- Whether plane p holds the ball, or has lost it at this very instant. -/
def State.heldNow (s : State) (p : Nat) : Bool :=
  decide (s.role p = roActive) ||
    (!s.referee.ball && decide (s.holder = p) && decide (s.referee.withdrawnAt = s.time.ns) &&
      (decide (s.refState = rsWake) || decide (s.refState = rsLost)))

/-- A further cause takes effect at the instant of a withdrawal (R201): the lowest of codes 2 to 6 is recorded, LEASE only by itself; the
plane is then UNFIT. The event raised for the withdrawal carries the same cause. -/
def State.mergeCause (s : State) (cause : Nat) : State :=
  let p := s.holder
  let old := s.rd Reg.REF_TAKEOVER.LAST_CAUSE
  if !s.heldNow p || s.referee.ball || cause = 1 || (old ≠ 1 && decide (old ≤ cause)) then s
  else
    let s := s.wr Reg.REF_TAKEOVER.LAST_CAUSE cause
    let s := s.when (decide (s.role p = roCold)) (·.setRole p roUnfit)
    { s with faults := { s.faults with waiting := s.faults.waiting.map fun e =>
        if e.pos = 20 ∧ e.detail = 16 * p + old ∧ e.ns = s.count then { e with detail := 16 * p + cause } else e } }

/-- BALL_WITHDRAWAL (R201, R208, R210). -/
def State.withdraw (s : State) (cause : Nat) : State :=
  if s.referee.broken then s
  else if !s.referee.ball then s.mergeCause cause
  else
    let p := s.holder
    let o := 1 - p
    let st := s.refState
    let s := (s.wr Reg.REF_TAKEOVER.LAST_CAUSE cause).wr Reg.REF_STATUS.LEASE 0
    let s := s.setRole p (if cause = 1 ∧ s.referee.heartbeat then roCold else roUnfit)
    let s := s.raise 20 (16 * p + cause)
    let s := s.modRef fun r =>
      { r with ball := false, forced := false, expiring := false, renewed := false, writing := none, withdrawnAt := s.time.ns, gap := 0,
               late := false, shadow := none, troubleAt := some s.time.ns }
    if st = rsHeld ∧ s.role o = roCold then
      ((s.setRole o roWaking).modRef fun r => { r with wake := .power }).wr Reg.REF_STATUS.STATE rsWake
    else if st = rsShadow ∧ (s.role o = roWaking ∨ s.role o = roShadow) then
      let awake := decide (s.role o = roShadow) || decide (s.referee.wake = .ready)
      ((s.setRole o roWaking).modRef fun r => { r with wake := if awake then .memory else r.wake }).wr Reg.REF_STATUS.STATE rsWake
    else s.lose

/-- A half-time or revive ends without a handover: OUTCOME, the standby's role, and the referee back in HELD. -/
def State.endShadow (s : State) (outcome role : Nat) : State :=
  let s := (s.setRole s.standby role).wr Reg.REF_HT_STATUS.OUTCOME outcome
  (s.modRef fun r => { r with shadow := none, wake := .none }).wr Reg.REF_STATUS.STATE rsHeld

/-- HALFTIME_CANCEL (R214): the standby returns to COLD, or stays UNFIT where it was being revived (R208). -/
def State.cancelShadow (s : State) : State :=
  match s.referee.shadow with
  | none => s
  | some x =>
    let s := (s.endShadow 2 (if x.revive then roUnfit else roCold)).wr Reg.REF_EVENT.CANCEL 1
    if x.revive then s else s.modRef fun r => { r with cancelAt := some s.time.ns }

/-- A mismatch (R213): the standby is UNFIT, and the half-time ends. -/
def State.mismatch (s : State) : State :=
  if s.referee.shadow.isNone then s else (s.raise 22 s.standby).endShadow 3 roUnfit

/-- A step of a plane wake fails (R208, R212): the standby is UNFIT; a takeover is lost, a half-time or revive ends. `checkpoint` where
no valid checkpoint was found. -/
def State.wakeFails (s : State) (checkpoint : Bool) : State :=
  let o := s.standby
  if s.refState = rsWake then
    let s := (s.setRole o roUnfit).raise 21 o
    (if checkpoint then s.raise 57 0 else s.raise 60 0).lose
  else if s.refState = rsShadow then (s.raise 21 o).endShadow 5 roUnfit
  else if s.refState = rsSetup ∧ s.role 0 = roWaking then (s.setRole 0 roUnfit).raise 21 0
  else s

/-- A step of R207 that ended at `n` against its bound, counted from the withdrawal: past it the takeover is late (R209). -/
def State.judgeLate (s : State) (bound n : Nat) : State :=
  if s.refState = rsWake ∧ s.referee.withdrawnAt + bound < n then s.modRef fun r => { r with late := true } else s

/-- PGOOD of plane p's rail (R207, step 1): the engine clock is ungated and the reset released where PLL_ENG is locked. -/
def State.planePgood (s : State) (p : Nat) : State :=
  if s.referee.wake = .power ∧ s.standby = p then
    let s := s.judgeLate 80000 s.time.ns
    s.modRef fun r => { r with wake := if s.on Reg.CLOCK_PLL_STATUS.LOCK 0 then .memory else .clock }
  else s

/-- The engine clock returns (R207, step 2; Table 18-5). -/
def State.engineClock (s : State) : State :=
  if s.referee.wake = .clock then (s.judgeLate 85000 s.time.ns).modRef fun r => { r with wake := .memory } else s

/-- The half of the checkpoint store. -/
def State.half (s : State) (i : Nat) : Ckpt := if i = 0 then s.referee.half0 else s.referee.half1

/-- One position of a checkpoint: 64 parameters, 32 exports, up to 1,536 committed state words (Table 09-3). -/
def CkptPlace.bytes (x : CkptPlace) : List Byte :=
  let words := fun (l : List Int) => l.flatMap fun v => leBytes 4 (unsigned 32 v)
  padTo 256 (words x.params) ++ padTo 128 (words x.exports) ++ padTo 6144 (words x.states) ++ List.replicate 128 0

/-- Bytes 0000h to D0FFh of a half, with the header magic (Table 09-3). -/
def Ckpt.bytes (c : Ckpt) : List Byte :=
  leBytes 4 0x4B43584C ++ leBytes 4 c.seq ++ leBytes 4 c.frame ++ leBytes 1 c.plane ++ leBytes 1 c.bank ++ leBytes 2 0
    ++ leBytes 4 c.epoch ++ leBytes 4 c.pos ++ padTo 24 (c.ptrs.flatMap (leBytes 2 ·)) ++ List.replicate 208 0
    ++ padTo 53248 (c.places.flatMap CkptPlace.bytes)

/-- The commit magic of Table 09-3. -/
def ckptMagic : Nat := 0x434D4954

/-- The commit field that makes a half valid. -/
def Ckpt.committed (c : Ckpt) : Ckpt := { c with commit := ⟨c.seq, crc32 c.bytes, ckptMagic⟩ }

/-- Whether a half is valid (R202): its commit field holds the magic and the header's seq, and its crc matches. -/
def Ckpt.valid (c : Ckpt) : Bool := c.commit.magic == ckptMagic && c.commit.seq == c.seq && c.commit.crc == crc32 c.bytes

/-- The newest valid half (R203). -/
def State.newest (s : State) : Option Nat :=
  match s.referee.half0.valid, s.referee.half1.valid with
  | true, true => some (if 0 < frameDiff s.referee.half0.seq s.referee.half1.seq then 0 else 1)
  | true, false => some 0
  | false, true => some 1
  | false, false => none

/-- REF_CKPT and REF_CKPT_SEQ follow the store. -/
def State.showCkpt (s : State) : State :=
  let n := s.newest
  let s := (s.wr Reg.REF_CKPT.VALID0 (b01 s.referee.half0.valid)).wr Reg.REF_CKPT.VALID1 (b01 s.referee.half1.valid)
  let s := s.wr Reg.REF_CKPT.NEWEST (n.getD 0)
  s.wr Reg.REF_CKPT_SEQ.SEQ (match n with | some i => (s.half i).seq | none => 0)

/-- A half replaced. -/
def State.setHalf (s : State) (i : Nat) (c : Ckpt) : State :=
  (s.modRef fun r => if i = 0 then { r with half0 := c } else { r with half1 := c }).showCkpt

/-- The half a load takes, and whether it is the older one (R203). -/
def State.loadChoice (s : State) (eccBad : Bool) : Option (Nat × Bool) :=
  match s.newest with
  | none => none
  | some n =>
    if !(eccBad || (s.half n).ecc) then some (n, false)
    else if (s.half (1 - n)).valid && !(s.half (1 - n)).ecc then some (1 - n, true)
    else none

/-- The bank in force (0 = A), one setting for both planes (R176). -/
def State.bank (s : State) : Nat := s.rd Reg.ENG_BANK.ACTIVE 0
def State.setBank (s : State) (b : Nat) : State := s.each (upTo 16) fun s e => s.wr Reg.ENG_BANK.ACTIVE b e

/-- Parameter i of position j, which both engines of the position show (R175). -/
def State.param (s : State) (j i : Nat) : Int := s.rdS Reg.ENG_PARAM.VALUE j i
def State.setParam (s : State) (j i : Nat) (v : Int) : State := (s.wrS Reg.ENG_PARAM.VALUE v j i).wrS Reg.ENG_PARAM.VALUE v (j + 8) i

/-- The graph of position j in the image. -/
def State.graph (s : State) (j : Nat) : Option Graph := s.cfg.graphs.find? (·.position == j)

/-- What a checkpoint of this frame holds (Table 09-3), `seq` its number. -/
def State.ckptNow (s : State) (seq : Nat) : Ckpt :=
  { commit := default, ecc := false, seq := seq, frame := s.frameNo, plane := s.holder, bank := s.bank, epoch := s.rd Reg.JRN_EPOCH.EPOCH,
    pos := s.rd Reg.JRN_EXEC.COUNT,
    ptrs := (upTo 12).map fun a => if (s.armCfg a).isSome then s.rd Reg.ARM_PTR.PTR (s.armSlice a) else 0,
    places := (upTo 8).map fun j =>
      let e := s.eng (engOf s.holder j)
      { params := (upTo 64).map (s.param j), exports := e.exports, states := e.states } }

/-- CHECKPOINT_WRITE (R202) begins, in the half that does not hold the newest valid checkpoint. Its commit field is written last: until then
it holds that of the checkpoint before, whose seq is another. -/
def State.ckptBegin (s : State) : State :=
  if !s.referee.ball then s
  else
    let (i, q) := match s.newest with
      | none => (0, 0)
      | some n => (1 - n, ((s.half n).seq + 1) % 4294967296)
    (s.setHalf i { s.ckptNow q with commit := (s.half i).commit }).modRef fun r => { r with writing := some i }

/-- The commit field is written, unless a withdrawal has cut the write short (R202). -/
def State.ckptCommit (s : State) : State :=
  match s.referee.writing with
  | some i => (s.setHalf i (s.half i).committed).modRef fun r => { r with writing := none }
  | none => s

/-- Commit writes both halves, seq 0 and seq 1 (R67). -/
def State.ckptInit (s : State) : State :=
  (s.setHalf 0 (s.ckptNow 0).committed).setHalf 1 (s.ckptNow 1).committed

/-- The engine commands that executed after a checkpoint are applied again from their records, in order (R204). -/
def State.reapply (s : State) (c : Ckpt) : State :=
  let after := if c.epoch = s.rd Reg.JRN_EPOCH.EPOCH then c.pos else 0
  let l := (s.journal.old ++ s.journal.recs).filter fun r => r.frameExec.isSome && decide (after < r.order) && decide (r.result = 0)
  s.each l fun s r =>
    if r.opcode = 0x21 then s.setBank (u8At r.args 0)
    else if r.opcode = 0x22 then s.setParam (u8At r.args 0) (u8At r.args 1) (s32At r.args 2)
    else s

/-- A plane takes the content of a checkpoint (R182, R204). -/
def State.loadPlane (s : State) (p : Nat) (c : Ckpt) : State :=
  let s := s.each (upTo 8) fun s j =>
    let x := c.places.getD j default
    let s := s.modEng (engOf p j) fun e => { e with states := x.states, exports := x.exports, running := false, result := none }
    s.each (upTo 64) fun s i => s.setParam j i (x.params.getD i 0)
  ((s.setBank c.bank).reapply c).showExports p true

/-- CHECKPOINT_LOAD_DONE (R203, R207 steps 2 to 4): in WAKE the standby's reset was released at the count `released`, its memories had
been read at `checked`, and the checkpoint is loaded now; in SHADOW it has read them (R212). `eccBad` where the newest valid half
reads with an uncorrectable error. -/
def State.ckptLoadDone (s : State) (released checked : Nat) (eccBad : Bool) : State :=
  if s.referee.wake ≠ .memory then s
  else if s.refState = rsShadow then s.modRef fun r => { r with wake := .ready }
  else if s.refState = rsWake then
    match s.loadChoice eccBad with
    | none => (s.wr Reg.REF_CKPT.OLD_USED 0).wakeFails true
    | some (i, old) =>
      let s := ((s.judgeLate 85000 released).judgeLate 90000 checked).judgeLate 130000 s.time.ns
      let s := s.wr Reg.REF_CKPT.OLD_USED (b01 old)
      let s := if old then (s.wr Reg.REF_EVENT.CKPT_OLD 1).raise 23 i else s
      (s.loadPlane s.standby (s.half i)).modRef fun r => { r with wake := .ready }
  else s

/-- CHECKPOINT_LOAD_DONE. -/
def execCheckpointLoadDone (released checked : Nat) (eccBad : Bool) (t : Nat) (s : State) : Host.Outcome State Fault Refusal :=
  done ((s.elapse t).ckptLoadDone released checked eccBad)

/-- The ball goes to plane p from this tick: role, lease, and what every grant resets (R199, R57). -/
def State.giveBall (s : State) (p : Nat) : State :=
  let s := ((s.setRole p roActive).wr Reg.REF_STATUS.HOLDER p).wr Reg.REF_STATUS.STATE rsHeld
  let s := s.wr Reg.REF_STATUS.LEASE s.cfg.limits.lease
  let s := s.modRef fun r =>
    { r with ball := true, wake := .none, shadow := none, expiring := false, forced := false, heartbeat := true, writing := none,
             moveAt := s.time.ns, now := false }
  s.emptyHistory

/-- TAKEOVER_GRANT (R207 step 5, R209): the first tick after the load. -/
def State.takeoverGrant (s : State) : State :=
  if s.refState = rsWake ∧ s.referee.wake = .ready ∧ s.referee.broken = false then
    let us := (s.time.ns - s.referee.withdrawnAt) / 1000
    let late := s.referee.late
    let s := (s.bump Reg.REF_TAKEOVER.COUNT).wr Reg.REF_TAKEOVER.GAP (min 255 s.referee.gap)
    let s := (s.wr Reg.REF_TAKEOVER.US (min 255 us)).wr Reg.REF_TAKEOVER.LATE (b01 late)
    let s := (s.wr Reg.REF_TAKEOVER_FRAME.FRAME s.tickFrame).wr Reg.REF_EVENT.TAKEOVER 1
    let s := s.when late (·.raise 44 (min 65535 us))
    (s.giveBall s.standby).modRef fun r => { r with restart := true, troubleAt := some s.time.ns }
  else s

/-- TAKEOVER_GRANT. -/
def execTakeoverGrant (t : Nat) (s : State) : Host.Outcome State Fault Refusal := done (s.elapse t).takeoverGrant

/-- The withdrawals that take effect at a tick (Table 09-2): FORCED before LEASE. -/
def State.withdrawAtTick (s : State) : State :=
  let f := s.referee.forced
  let x := s.referee.expiring
  let s := s.modRef fun r => { r with forced := false, expiring := false }
  if f then s.withdraw 6 else if x then s.withdraw 1 else s

/-- LEASE_EXPIRY (R199): the tick after the counter reached 0. -/
def execLeaseExpiry (t : Nat) (s : State) : Host.Outcome State Fault Refusal :=
  let s := s.elapse t
  done (if s.referee.expiring then s.withdrawAtTick else s)

/-- FORCE_TAKEOVER (R201): at the next tick; ignored outside HELD. -/
def State.forceTakeover (s : State) : State := if s.refState = rsHeld then s.modRef fun r => { r with forced := true } else s

/-- FORCE_TAKEOVER. -/
def execForceTakeover (t : Nat) (s : State) : Host.Outcome State Fault Refusal := done (s.elapse t).forceTakeover

/-- A 4 µs gap in plane p's heartbeat (R206). -/
def State.heartbeatLoss (s : State) (p : Nat) : State :=
  if s.heldNow p then (s.modRef fun r => { r with heartbeat := false }).withdraw 2
  else if s.role p = roWaking ∨ s.role p = roShadow then s.wakeFails false
  else s

/-- HEARTBEAT_LOSS. -/
def execHeartbeatLoss (plane : Fin 2) (t : Nat) (s : State) : Host.Outcome State Fault Refusal :=
  done ((s.elapse t).heartbeatLoss plane.val)

/-- POWER_WAKE_FAIL and its event. -/
def State.wakeFailNote (s : State) (kind item : Nat) : State :=
  ((s.wr Reg.POWER_WAKE_FAIL.KIND kind).wr Reg.POWER_WAKE_FAIL.ITEM item).evBit Reg.POWER_EVENT.EVENTS 4

/-- An uncorrectable ECC error in an engine memory of plane p (R26, R201): the holder is withdrawn; a wake fails as in the WAKE_TIMEOUT case,
KIND 4, with ITEM the number of the plane's rail monitor (DESIGN CHOICE, assumption 28: the spec gives ITEM as a monitor or PLL number and no
case for KIND 4); a shadow run ends. -/
def State.planeEcc (s : State) (p : Nat) : State :=
  if s.heldNow p then s.withdraw 3
  else if s.role p = roWaking then (s.wakeFailNote 4 (2 + p)).wakeFails false
  else if s.role p = roShadow then s.wakeFails false
  else s

/-- The same, with the engine whose memory it is marked in ENG_ECC. -/
def State.engineEcc (s : State) (e : Nat) : State := (s.wr Reg.ENG_ECC.UNCORRECTABLE 1 e).planeEcc (e / 8)

/-- PLANE_ECC_ERROR: in the memory of the engine at `position`. -/
def execPlaneEccError (plane : Fin 2) (position : Fin 8) (t : Nat) (s : State) : Host.Outcome State Fault Refusal :=
  done ((s.elapse t).engineEcc (engOf plane.val position.val))

/-- A rail of plane p's domain loses PGOOD (Table 09-2): the holder is withdrawn; a wake or shadow run of the plane fails (R389). -/
def State.planePgoodLoss (s : State) (p : Nat) : State :=
  let s := { s with power := { s.power with pgood := clrBit s.power.pgood (2 + p) } }
  let s := s.wrBit Reg.POWER_PGOOD.PGOOD p false
  if s.heldNow p then s.withdraw 4
  else if s.role p = roWaking ∨ s.role p = roShadow then s.wakeFails false
  else s

/-- PLANE_PGOOD_LOSS. -/
def execPlanePgoodLoss (plane : Fin 2) (t : Nat) (s : State) : Host.Outcome State Fault Refusal :=
  done ((s.elapse t).planePgoodLoss plane.val)

/-- PLANE_ERROR_LINE (Table 09-2): the holder's plane controller raises its error line. -/
def execPlaneErrorLine (plane : Fin 2) (t : Nat) (s : State) : Host.Outcome State Fault Refusal :=
  let s := s.elapse t
  done (if s.heldNow plane.val then s.withdraw 5 else s)

/-- HALFTIME_NOW (Table 09-1, code 1). -/
def State.halftimeNow (s : State) : State := s.modRef fun r => { r with now := true }

/-- HALFTIME_NOW. -/
def execHalftimeNow (t : Nat) (s : State) : Host.Outcome State Fault Refusal := done (s.elapse t).halftimeNow

/-- Whether 10 s have passed since an event. -/
def State.tenSeconds (s : State) (a : Option Nat) : Bool :=
  match a with
  | some x => decide (x + 10000000000 ≤ s.time.ns)
  | none => true

/-- Whether condition `code` of Table 09-1 holds at this tick. While a run is on, the standby of code 3 is the one that runs (R214). -/
def State.htCondition (s : State) (code : Nat) : Bool :=
  match code with
  | 1 => s.on Reg.REF_CTRL.HALFTIME_EN &&
      (decide (s.referee.moveAt + s.cfg.limits.halftimeS * 1000000000 ≤ s.time.ns) || s.referee.now)
  | 2 => s.tenSeconds s.referee.cancelAt
  | 3 => s.referee.shadow.isSome || decide (s.role s.standby = roCold)
  | 4 => decide (64 ≤ s.referee.quietRun)
  | 5 => s.tenSeconds s.referee.troubleAt
  | 6 => s.cfg.convs.all fun v =>
      s.cvState v.conv != cvDeblocking && s.cvState v.conv != cvResync &&
        (s.convArms v.conv).all fun a => decide ((s.arm a).e = 0)
  | 7 => decide (s.rd Reg.POWER_SHED.STEP < 3)
  | _ => !s.on Reg.IMAGE_SUBST_STATUS.BUSY

/-- The first failing code of Table 09-1; 0 = none (R200). -/
def State.htBlocker (s : State) : Nat := ((upTo 8).map (· + 1)).find? (fun c => !s.htCondition c) |>.getD 0

/-- REF_HT_TIMER: seconds until halftime_period_s has elapsed. -/
def State.showHtTimer (s : State) : State :=
  let due := s.referee.moveAt + s.cfg.limits.halftimeS * 1000000000
  s.wr Reg.REF_HT_TIMER.REMAIN (if s.referee.ball then (due - s.time.ns + 999999999) / 1000000000 else 0)

/-- A shadow run starts (R208, R212): the standby is powered for it. -/
def State.startShadow (s : State) (revive : Bool) : State :=
  let s := (s.setRole s.standby roWaking).wr Reg.REF_STATUS.STATE rsShadow
  let s := s.wr Reg.REF_HT_STATUS.MATCHED 0
  s.modRef fun r => { r with shadow := some ⟨revive, none⟩, wake := .power, withdrawnAt := s.time.ns }

/-- HALFTIME_START (R200, R212) and HALFTIME_CANCEL (R214) at a tick, after the tick's commands. The conditions are checked, and BLOCKER
shows the first that fails, at every tick. -/
def State.halftimeTick (s : State) : State :=
  let b := s.htBlocker
  let s := (s.wr Reg.REF_HT_STATUS.BLOCKER b).showHtTimer
  if !s.referee.ball then s
  else if s.refState = rsHeld then s.when (decide (b = 0)) (·.startShadow false)
  else if s.refState = rsShadow then
    s.when (!(((upTo 8).drop 1).all fun c => s.htCondition (c + 1))) (·.cancelShadow)
  else s

/-- REVIVE (R208): honoured in HELD with the other plane UNFIT, and below shedding step 3 (R375). The engine memories are reloaded from
the image copy in DRAM; without DRAM, whose failure stops image reload (R36), the wake fails (DESIGN CHOICE, assumption 34). -/
def State.revive (s : State) : State :=
  let o := s.standby
  if s.refState = rsHeld ∧ s.role o = roUnfit ∧ s.rd Reg.POWER_SHED.STEP < 3 then
    if !s.load.dram then (s.startShadow true).wakeFails false
    else
      let s := s.each (upTo 8) fun s j =>
        match s.graph j with
        | some g => s.modEng (engOf o j) fun x => { x with bankA := g.bankA, bankB := g.bankB, states := g.init, running := false, result := none }
        | none => s
      s.startShadow true
  else s

/-- REVIVE. -/
def execRevive (t : Nat) (s : State) : Host.Outcome State Fault Refusal := done (s.elapse t).revive

/-- Whether every frame of the shadow run has matched (R208, R215). -/
def State.shadowComplete (s : State) (revive : Bool) : Bool :=
  match s.referee.shadow with
  | some x => x.revive == revive && x.start.isSome && decide (s.cfg.limits.shadowFrames ≤ s.rd Reg.REF_HT_STATUS.MATCHED)
  | none => false

/-- HALFTIME_HANDOVER (R215): the ball passes at the tick, RESTART stays 0. -/
def State.handover (s : State) : State :=
  if s.refState = rsShadow ∧ s.shadowComplete false then
    let old := s.holder
    let s := ((s.bump Reg.REF_HT_STATUS.COUNT).wr Reg.REF_HT_STATUS.OUTCOME 1).wr Reg.REF_EVENT.HANDOVER 1
    (s.setRole old roCold).giveBall (1 - old)
  else s

/-- HALFTIME_HANDOVER. -/
def execHalftimeHandover (t : Nat) (s : State) : Host.Outcome State Fault Refusal := done (s.elapse t).handover

/-- REVIVE_COMPLETE (R208): the revived plane becomes COLD. -/
def State.reviveComplete (s : State) : State :=
  if s.refState = rsShadow ∧ s.shadowComplete true then s.endShadow 4 roCold else s

/-- REVIVE_COMPLETE. -/
def execReviveComplete (t : Nat) (s : State) : Host.Outcome State Fault Refusal := done (s.elapse t).reviveComplete

/-- The referee at a tick, before the tick's commands: withdrawals, the grant of a takeover, the end of a shadow run (R198). -/
def State.refereeTick (s : State) : State := s.withdrawAtTick.takeoverGrant.handover.reviveComplete

/-- REFEREE_MISMATCH (R206, R366): no referee is left; ALIVE stops within one keep-clock cycle. -/
def execRefereeMismatch (t : Nat) (s : State) : Host.Outcome State Fault Refusal :=
  let s := s.elapse t
  let s := s.modRef fun r => { r with broken := true, ball := false, wake := .none, shadow := none, forced := false, expiring := false }
  let s := { s with faults := { s.faults with alive := false } }
  let s := s.each (upTo 16) fun s e => s.wr Reg.ENG_STATUS.BALL 0 e
  done ((s.wr Reg.FAULT_STATE.ALIVE_RUN 0).raise 58 0)

/-- The first grant (Table 03-1, step 11), or a fatal fault where plane A is not fit. -/
def State.firstGrant (s : State) : State :=
  if s.referee.broken ∨ s.refState ≠ rsSetup then s
  else if s.role 0 = roWaking then (s.giveBall 0).modRef fun r => { r with restart := true }
  else s.lose

/-- The lease at T_RANK_END (R199): `over` where the frame overran. The checkpoint of the frame is committed first. -/
def State.leaseEnd (s : State) (overran : Bool) : State :=
  if !s.referee.ball then s.modRef fun r => { r with renewed := false }
  else
    let committed := s.referee.writing.isSome
    let s := s.ckptCommit
    let ok := !overran && committed && s.referee.heartbeat
    let left := if ok then s.cfg.limits.lease else s.rd Reg.REF_STATUS.LEASE - 1
    (s.wr Reg.REF_STATUS.LEASE left).modRef fun r => { r with renewed := ok, expiring := r.expiring || decide (left = 0) }

end Sys2Proof.Machine
end

