-- ==== Sys2Proof/Machine/Subst.lean ====
section
/-! DEFINITION. Slice substitution (01_architecture.md, R19, R22; 03_kickoff_image.md, R82 to R86). -/

namespace Sys2Proof.Machine

/-- The loader's record changed. -/
def State.modLoad (s : State) (f : LoadSt → LoadSt) : State := { s with load := f s.load }


/-- Codes of SLICE_ROLE.STATE. -/
def slService : Nat := 1
def slFailed : Nat := 2
def slSpare : Nat := 3
def slReload : Nat := 5

/-- Role, target and state of slice n. -/
def State.sliceRole (s : State) (n : Nat) : Nat := s.rd Reg.SLICE_ROLE.ROLE n
def State.sliceTarget (s : State) (n : Nat) : Nat := s.rd Reg.SLICE_ROLE.TARGET n
def State.sliceState (s : State) (n : Nat) : Nat := s.rd Reg.SLICE_ROLE.STATE n

/-- The slices that serve in a role. -/
def State.serving (s : State) (role : Nat) : Nat :=
  ((upTo 128).filter fun n => s.sliceRole n == role && s.sliceState n == slService).length

/-- The spares that remain, one that is being reloaded among them. -/
def State.spares (s : State) : Nat :=
  ((upTo 128).filter fun n => s.sliceRole n == roSpare && s.sliceState n != slFailed).length

/-- ROLE_COUNT, and SPARE_LOW where the spares fall below 8 (R22, R86). -/
def State.showRoles (s : State) : State :=
  let was := s.rd Reg.ROLE_COUNT.SPARE
  let now := s.spares
  let s := (s.wr Reg.ROLE_COUNT.LANE_SLICES (s.serving roLane)).wr Reg.ROLE_COUNT.ARM_SLICES (s.serving roArm)
  let s := (s.wr Reg.ROLE_COUNT.RECORDER (s.serving roRecorder)).wr Reg.ROLE_COUNT.MIRROR (s.serving roMirror)
  let s := (s.wr Reg.ROLE_COUNT.SPARE now).wr Reg.ROLE_COUNT.UNASSIGNED ((upTo 128).filter fun n => s.sliceRole n == 0).length
  s.when (decide (now < 8) && decide (8 ≤ was)) (·.wr Reg.IMAGE_EVENT.SPARE_LOW 1)

/-- BUSY: a substitution is waiting or reloading. -/
def State.showBusy (s : State) : State :=
  s.wr Reg.IMAGE_SUBST_STATUS.BUSY (b01 (!s.load.waiting.isEmpty || s.load.reloading.isSome))

/-- Slice n marked failed: IMAGE_SLICE_FAIL, its state, the contained fault (R83). -/
def State.markFailed (s : State) (n : Nat) : State :=
  ((s.evBit Reg.IMAGE_SLICE_FAIL.FAIL (n % 32) (n / 32)).wr Reg.SLICE_ROLE.STATE slFailed n).raise 17 n

/-- A slice enters substitution (R83, R85): it is isolated, and its role waits for a spare. A spare that fails is retired. -/
def State.sliceFail (s : State) (n : Nat) : State :=
  let role := s.sliceRole n
  let tgt := s.sliceTarget n
  let st := s.sliceState n
  if role = 0 ∨ st = slFailed ∨ st = 0 then s
  else
    let s := s.markFailed n
    let s :=
      if role = roSpare then
        match s.load.reloading with
        | some (old, some m) =>
          if m = n then s.modLoad fun l => { l with reloading := none, waiting := l.waiting ++ [old] } else s
        | _ => s
      else
        let s := s.modLoad fun l => { l with waiting := l.waiting ++ [n] }
        if role = roLane then (s.modLane tgt fun l => { l with sliceOut := true }).loseLane tgt
        else if role = roArm then (s.wr Reg.ARM_STATUS.ACTIVE 0 n).modArm tgt fun a => { a with out := true, failedTicks := 0 }
        else if role = roMirror then { s with safety := { s.safety with mirrorOut := 0 } }
        else s
    s.showRoles.showBusy

/-- SLICE_ERROR (R83). -/
def execSliceError (slice : Fin 128) (t : Nat) (s : State) : Host.Outcome State Fault Refusal := done ((s.elapse t).sliceFail slice.val)

/-- SUBST_REQUEST: a write of IMAGE_SUBST_REQ (R83); GO acts in RUN only. -/
def State.substRequest (s : State) (value : Nat) : State :=
  let s := s.wr Reg.IMAGE_SUBST_REQ.SLICE value
  if hasBit value 31 && decide (s.device = stRun) then s.sliceFail (value % 128) else s

/-- SUBST_REQUEST. -/
def execSubstRequest (value t : Nat) (s : State) : Host.Outcome State Fault Refusal := done ((s.elapse t).substRequest value)

/-- The order in which waiting slices are served (R84): arm, mirror, lane, recorder; within a role the lower number. -/
def State.substKey (s : State) (n : Nat) : Nat :=
  let r := s.sliceRole n
  (if r = roArm then 0 else if r = roMirror then 1 else if r = roLane then 2 else 3) * 128 + n

/-- The first of a list by a key. -/
def leastBy (key : Nat → Nat) : List Nat → Option Nat
  | [] => none
  | x :: t => match leastBy key t with
    | some y => if key x ≤ key y then some x else some y
    | none => some x

/-- A role is lost (R22): an arm blocks its converter at the next tick, a lost mirror slice is a failed diagnostic (R302, cause 4), a
lost lane stays a break, a lost recorder stops its share. -/
def State.roleLost (s : State) (n : Nat) : State :=
  let tgt := s.sliceTarget n
  if s.sliceRole n = roArm then
    let s := s.modArm tgt fun a => { a with lost := true }
    match s.armCfg tgt with
    | some ac => s.blockAtTick ac.conv 4
    | none => s
  else if s.sliceRole n = roMirror then (s.diagFail false 4).diagFail true 4
  else s

/-- A substitution ended with a result (IMAGE_SUBST_STATUS). -/
def State.substEnds (s : State) (result : Nat) : State :=
  ((s.wr Reg.IMAGE_SUBST_STATUS.RESULT result).wr Reg.IMAGE_EVENT.SUBST 1).showRoles.showBusy

/-- SUBST_RELOAD_START (R84): in the frame after the failure, one at a time, into the lowest-numbered healthy spare. -/
def State.substStart (s : State) : State :=
  if s.load.reloading.isSome then s
  else match leastBy s.substKey s.load.waiting with
    | none => s
    | some n =>
      let s := (s.modLoad fun l => { l with waiting := l.waiting.filter (· != n) }).wr Reg.IMAGE_SUBST_STATUS.OLD n
      match (upTo 128).find? fun m => s.sliceRole m == roSpare && (s.sliceState m == slSpare || s.sliceState m == 4) with
      | none => (s.roleLost n).substEnds 1
      | some m =>
        let s := (s.wr Reg.SLICE_ROLE.STATE slReload m).wr Reg.IMAGE_SUBST_STATUS.NEW m
        (s.modLoad fun l => { l with reloading := some (n, some m) }).showBusy

/-- The registers of the slice that serves an arm, as the image sets them (Tables 03-10 and 06-1). -/
def State.loadArmSlice (s : State) (n : Nat) (ac : ArmCfg) (ptr : Nat) : State :=
  let pair := fun (s : State) (k lo hi : Nat) => (s.wr Reg.ARM_PAR.LOW lo n k).wr Reg.ARM_PAR.HIGH hi n k
  let s := pair (pair s 0 ac.rankSpan ac.keepBand) 1 ac.minDwell (unsigned 16 ac.tWeight)
  let s := pair (pair s 2 ac.r1 ac.tau1) 3 ac.r2 ac.tau2
  let s := pair (pair s 4 ac.vOn ac.eSw) 5 ac.ovPred ac.ovTrip
  let s := (s.wr Reg.ARM_ALPHA1.ALPHA (alphaOf s.period ac.tau1) n).wr Reg.ARM_ALPHA2.ALPHA (alphaOf s.period ac.tau2) n
  let s := s.wr Reg.ARM_STATUS.ACTIVE 1 n
  s.wr Reg.ARM_PTR.PTR ptr n

/-- What a substitute does when it enters service (R85). -/
def State.roleEnters (s : State) (role tgt m : Nat) : State :=
  if role = roLane then
    let s := s.modLane tgt fun l => { l with sliceOut := false }
    if s.on Reg.LANE_STATUS.SYNC tgt && !s.on Reg.LANE_CTRL.FORCE_IDLE tgt then
      (s.modLane tgt fun l => { l with lost := false }).measure tgt
    else s.showLane tgt
  else if role = roArm then
    match s.armCfg tgt with
    | none => s
    | some ac =>
      let ptr := match s.newest with
        | some i => (s.half i).ptrs.getD tgt 0
        | none => 0
      let s := s.loadArmSlice m ac ptr
      let s := s.each (s.armCells tgt) fun s n => s.modCell n fun c => { c with th1 := 0, th2 := 0 }
      s.modArm tgt fun a => { a with lost := false }
  else if role = roMirror then { s with safety := { s.safety with mirrorOut := 0 } }
  else s

/-- SUBST_IN_SERVICE (R84, R85): at the tick after the reload. `copyOk` where the image copy in DRAM was readable. -/
def State.substInService (s : State) (copyOk : Bool) : State :=
  match s.load.reloading with
  | some (n, some m) =>
    let role := s.sliceRole n
    let tgt := s.sliceTarget n
    let s := s.modLoad fun l => { l with reloading := none }
    let s :=
      if copyOk && s.load.dram then
        let s := ((s.wr Reg.SLICE_ROLE.ROLE role m).wr Reg.SLICE_ROLE.TARGET tgt m).wr Reg.SLICE_ROLE.STATE slService m
        let s := (s.bump Reg.IMAGE_SUBST_STATUS.COUNT).wr Reg.IMAGE_SUBST_FRAME.FRAME s.tickFrame
        (s.roleEnters role tgt m).substEnds 0
      else ((s.wr Reg.SLICE_ROLE.STATE slSpare m).roleLost n).substEnds 2
    s.substStart
  | _ => s

/-- SUBST_IN_SERVICE. -/
def execSubstInService (copyOk : Bool) (t : Nat) (s : State) : Host.Outcome State Fault Refusal := done ((s.elapse t).substInService copyOk)

/-- SPARE_SELFTEST_FAIL (R86): in RUN the spare is retired. -/
def execSpareSelftestFail (slice : Fin 128) (t : Nat) (s : State) : Host.Outcome State Fault Refusal :=
  let s := s.elapse t
  done (if s.device = stRun ∧ s.sliceRole slice.val = roSpare then s.sliceFail slice.val else s)

/-- The arms without a ranking slice at a tick (R85): the ticks repeated since the failure are counted. -/
def State.armOutTick (s : State) : State :=
  s.each s.cfg.arms fun s a => if (s.arm a.arm).out then s.modArm a.arm fun x => { x with failedTicks := x.failedTicks + 1 } else s

/-- At the rank deadline after the second repeated tick an arm whose substitute has not ranked blocks its converter at the following
tick (R85). -/
def State.armOutDeadline (s : State) : State :=
  s.each s.cfg.arms fun s a =>
    if (s.arm a.arm).out && !(s.arm a.arm).lost && decide ((s.arm a.arm).failedTicks = 2) then (s.blockAtTick a.conv 4).substEnds 3 else s

/-- SAFE_A's cover of a mirror slice that is being substituted (R85): after two frames the loss is a failed diagnostic. -/
def State.mirrorTick (s : State) : State :=
  if !s.cfg.loaded || (s.sliceOf roMirror 0).isSome || decide (3 ≤ s.safety.mirrorOut) then s
  else
    let k := s.safety.mirrorOut + 1
    let s := { s with safety := { s.safety with mirrorOut := k } }
    if k = 3 then (s.diagFail false 4).diagFail true 4 else s

end Sys2Proof.Machine
end

