-- ==== Sys2Proof/Machine/Faults.lean ====
section
/-! DEFINITION. Fault collection and reaction (17_faults.md): what the collector does with an event, the history, the contained and the
fatal state, ALIVE, R359 to R369. -/

namespace Sys2Proof.Machine

/-- The collector's record changed. -/
def State.modFaults (s : State) (f : FaultSt → FaultSt) : State := { s with faults := f s.faults }

/-- The source byte of a history entry (Table 17-2). -/
def sourceByte (pos : Nat) : Nat := pos + 64 * faultClass pos

/-- Byte `i` of the INFO word of history entry `n`. -/
def State.histInfo (s : State) (n i : Nat) : Nat := bitsOf (s.rd Reg.FAULT_HIST_INFO.VALUE n) (8 * i) 8

/-- The history entry an event merges into (R363): the same bit and frame, FRAME_VALID in both. -/
def State.histMatch (s : State) (e : FaultEvt) : Option Nat :=
  (upTo (s.rd Reg.FAULT_HIST_STATUS.FILLED)).find? fun n =>
    e.frameValid && hasBit (s.histInfo n 1) 0 && s.histInfo n 0 == sourceByte e.pos && s.rd Reg.FAULT_HIST_FRAME.VALUE n == e.frame

/-- REPEAT of an entry raised by one, saturating at 127. -/
def State.histRepeat (s : State) (n : Nat) : State :=
  let w := s.rd Reg.FAULT_HIST_INFO.VALUE n
  let r := bitsOf w 9 7
  s.wr Reg.FAULT_HIST_INFO.VALUE (w - r * 512 + min 127 (r + 1) * 512) n

/-- A new entry at the place after the newest (R362). -/
def State.histAdd (s : State) (e : FaultEvt) : State :=
  let filled := s.rd Reg.FAULT_HIST_STATUS.FILLED
  let n := if filled = 0 then 0 else (s.rd Reg.FAULT_HIST_STATUS.NEWEST + 1) % 16
  let s := (s.wr Reg.FAULT_HIST_STATUS.NEWEST n).wr Reg.FAULT_HIST_STATUS.FILLED (min 16 (filled + 1))
  let s := (s.wr Reg.FAULT_HIST_FRAME.VALUE e.frame n).wr64 Reg.FAULT_HIST_NS_LO.VALUE Reg.FAULT_HIST_NS_HI.VALUE e.ns n
  s.wr Reg.FAULT_HIST_INFO.VALUE (sourceByte e.pos + 256 * b01 e.frameValid + 65536 * e.detail) n

/-- The history takes an event (R363, R364). -/
def State.history (s : State) (e : FaultEvt) : State :=
  if !s.historyTakes e.pos then s
  else match s.histMatch e with
    | some n => s.histRepeat n
    | none => s.histAdd e

/-- The first fatal record (R364). -/
def State.firstFatal (s : State) (e : FaultEvt) : State :=
  if s.on Reg.FAULT_FIRST_FATAL.VALID then s
  else
    let s := (s.wr Reg.FAULT_FIRST_FATAL.BIT e.pos).wr Reg.FAULT_FIRST_FATAL.VALID 1
    let s := (s.wr Reg.FAULT_FIRST_FATAL.FRAME_VALID (b01 e.frameValid)).wr Reg.FAULT_FIRST_FATAL.DETAIL e.detail
    (s.wr Reg.FAULT_FIRST_FRAME.VALUE e.frame).wr64 Reg.FAULT_FIRST_NS_LO.VALUE Reg.FAULT_FIRST_NS_HI.VALUE e.ns

/-- The contained state (R365): entered, and the quiet timer restarted. -/
def State.contained (s : State) : State :=
  let s := s.wr Reg.FAULT_STATE.CONTAINED 1
  let s := s.modFaults fun f => { f with quietEnd := s.time.ns + s.rd Reg.FAULT_QUIET.QUIET_MS * 1000000 }
  s.modRef fun r => { r with troubleAt := some s.time.ns }

/-- FATAL_STATE (R366): FAULT_N low, ALIVE stopped, and the referee, where it runs and is left, in LOST. -/
def State.fatalState (s : State) : State :=
  let s := (s.wr Reg.FAULT_STATE.FATAL 1).wr Reg.FAULT_STATE.FAULT_N 0
  let s := (s.wr Reg.FAULT_STATE.ALIVE_RUN 0).modFaults fun f => { f with alive := false }
  let s := s.modRef fun r => { r with troubleAt := some s.time.ns }
  if s.power.held then s else s.lose

/-- One event at the collector (R361). -/
def State.collect (s : State) (e : FaultEvt) : State :=
  let s := (s.faultCount e.pos).history e
  match faultClass e.pos with
  | 0 => s
  | 1 => s.contained
  | _ => (s.firstFatal e).fatalState

/-- The first waiting event reaches the collector. -/
def State.collectNext (s : State) : State :=
  match s.faults.waiting with
  | [] => s
  | e :: rest => (s.modFaults fun f => { f with waiting := rest }).collect e

/-- Waiting events collected, at most `n`. -/
def State.collectAll (s : State) : Nat → State
  | 0 => s
  | n + 1 => s.collectNext.collectAll n

/-- COLLECTOR_EVENT (R361). -/
def execCollectorEvent (t : Nat) (s : State) : Host.Outcome State Fault Refusal := done (s.elapse t).collectNext

/-- QUIET_TIMEOUT (R365): the contained state is left, unless a fatal fault is in force. -/
def State.quietTimeout (s : State) : State :=
  if s.on Reg.FAULT_STATE.CONTAINED && !s.on Reg.FAULT_STATE.FATAL && decide (s.faults.quietEnd ≤ s.time.ns) then
    ((s.wr Reg.FAULT_STATE.CONTAINED 0).bump Reg.RECOVERY_COUNT.COUNT).wr Reg.FAULT_EVENT.RECOVERED 1
  else s

/-- QUIET_TIMEOUT. -/
def execQuietTimeout (t : Nat) (s : State) : Host.Outcome State Fault Refusal := done (s.elapse t).quietTimeout

/-- FAULT_CLEAR_COUNTS (FAULT_CTRL). -/
def State.faultClearCounts (s : State) : State :=
  (((s.wr Reg.FAULT_COUNT_CORR.COUNT 0).wr Reg.FAULT_COUNT_CONT.COUNT 0).wr Reg.FAULT_COUNT_FATAL.COUNT 0).wr Reg.RECOVERY_COUNT.COUNT 0

/-- FAULT_CLEAR_COUNTS. -/
def execFaultClearCounts (s : State) : Host.Outcome State Fault Refusal := done s.faultClearCounts

/-- FAULT_CLEAR_HIST (FAULT_CTRL): the history is emptied, LOST cleared. -/
def State.faultClearHist (s : State) : State :=
  let s := ((s.wr Reg.FAULT_HIST_STATUS.NEWEST 0).wr Reg.FAULT_HIST_STATUS.FILLED 0).wr Reg.FAULT_HIST_STATUS.LOST 0
  s.each (upTo 16) fun s n =>
    ((s.wr Reg.FAULT_HIST_FRAME.VALUE 0 n).wr64 Reg.FAULT_HIST_NS_LO.VALUE Reg.FAULT_HIST_NS_HI.VALUE 0 n).wr Reg.FAULT_HIST_INFO.VALUE 0 n

/-- FAULT_CLEAR_HIST. -/
def execFaultClearHist (s : State) : Host.Outcome State Fault Refusal := done s.faultClearHist

/-- FIRST_FATAL_CLEAR: a 1 written to VALID clears the record with its frame and time (R364). -/
def State.firstFatalClear (s : State) : State :=
  let s := ((s.wr Reg.FAULT_FIRST_FATAL.BIT 0).wr Reg.FAULT_FIRST_FATAL.VALID 0).wr Reg.FAULT_FIRST_FATAL.FRAME_VALID 0
  ((s.wr Reg.FAULT_FIRST_FATAL.DETAIL 0).wr Reg.FAULT_FIRST_FRAME.VALUE 0).wr64 Reg.FAULT_FIRST_NS_LO.VALUE Reg.FAULT_FIRST_NS_HI.VALUE 0

/-- FIRST_FATAL_CLEAR. -/
def execFirstFatalClear (s : State) : Host.Outcome State Fault Refusal := done s.firstFatalClear

/-- A holding register takes a copy (R12, R362): 1 + the word, so that an empty one reads as none. -/
def State.latchWord (s : State) (addr v : Nat) : State := { s with hold := Tbl.put 0 s.hold addr (v + 1) }

/-- FAULT_HIST_READ (R362): reading FRAME of an entry copies its other three words. -/
def State.histRead (s : State) (n : Nat) : State :=
  let a := 0x4100 + 16 * n
  ((s.latchWord (a + 4) (s.rd Reg.FAULT_HIST_NS_LO.VALUE n)).latchWord (a + 8) (s.rd Reg.FAULT_HIST_NS_HI.VALUE n)).latchWord (a + 12)
    (s.rd Reg.FAULT_HIST_INFO.VALUE n)

/-- FAULT_HIST_READ. -/
def execFaultHistRead (entry : Fin 16) (s : State) : Host.Outcome State Fault Refusal := done (s.histRead entry.val)

/-- ALIVE_TOGGLE (R369): the half-period ends; a new frequency takes effect. The ball toggles only while ALIVE runs and the copies of
the referee agree. -/
def State.aliveToggle (s : State) : State :=
  if !s.on Reg.FAULT_STATE.ALIVE_RUN || s.referee.broken then s
  else
    let s := match s.faults.aliveNext with
      | some hz => s.wr Reg.ALIVE_CFG.HZ hz
      | none => s
    s.modFaults fun f => { f with alive := !f.alive, aliveNext := none }

/-- ALIVE_TOGGLE. -/
def execAliveToggle (t : Nat) (s : State) : Host.Outcome State Fault Refusal := done (s.elapse t).aliveToggle

end Sys2Proof.Machine
end

