-- ==== Sys2Proof/Machine/Control.lean ====
section
/-! DEFINITION. The control entries of the transaction tracker (02_frame_tick.md, R48, R49; classes of Table 01-3, R23). The spec does not
say how many entries a transaction takes: in this model an engine's run, an arm's rank window, the checkpoint write and a background
unit take one each (DESIGN CHOICE, assumption 20). -/

namespace Sys2Proof.Machine

/-- Entries 1,536 to 2,047. -/
def ctrlEntries : Nat := 512

/-- What classes 5 and 6 together hold at most (R48). -/
def ctrlLowMost : Nat := 384

/-- Whether a class is one of those two. -/
def CtrlEntry.low (e : CtrlEntry) : Bool := decide (5 ≤ e.cls)

/-- Whether an entry is free for a requester (R48). -/
def ctrlRoom (l : List CtrlEntry) (e : CtrlEntry) : Bool :=
  decide (l.length < ctrlEntries) && (!e.low || decide ((l.filter CtrlEntry.low).length < ctrlLowMost))

/-- An entry opens; CTRL_HIWATER is the peak occupancy. -/
def State.ctrlOpen (s : State) (e : CtrlEntry) : State :=
  let s := s.modFr fun f => { f with ctrl := f.ctrl ++ [{ e with opened := s.time.ns }] }
  s.wr Reg.TRK_STATUS.CTRL_HIWATER (max (s.rd Reg.TRK_STATUS.CTRL_HIWATER) s.fr.ctrl.length)

/-- A requester asks for an entry: it gets a free one or waits; nothing is dropped (R48). -/
def State.ctrlAsk (s : State) (e : CtrlEntry) : State :=
  if ctrlRoom s.fr.ctrl e then s.ctrlOpen e
  else s.modFr fun f => { f with ctrlWait := f.ctrlWait ++ [e], ctrlWaited := true }

/-- Waiting requesters get the entries that are free, lowest class first, in order of arrival within a class (R23, R48). -/
def State.ctrlAdmit (s : State) : State :=
  let order := (upTo 7).flatMap fun c => s.fr.ctrlWait.filter fun e => e.cls == c
  (s.modFr fun f => { f with ctrlWait := [] }).each order fun s e =>
    if ctrlRoom s.fr.ctrl e then s.ctrlOpen e else s.modFr fun f => { f with ctrlWait := f.ctrlWait ++ [e] }

/-- The entries that meet a condition complete, and those that wait are admitted. -/
def State.ctrlDone (s : State) (p : CtrlEntry → Bool) : State :=
  (s.modFr fun f => { f with ctrl := f.ctrl.filter fun e => !p e }).ctrlAdmit

/-- The entry of an engine, of an arm's rank window, and of the checkpoint write. -/
def engineEntry (e : Nat) (ball : Bool) : CtrlEntry := ⟨if ball then 4 else 6, 2, e, 0, true⟩
def armEntryOf (a : Nat) : CtrlEntry := ⟨3, 2, 32 + a, 0, true⟩
def ckptEntry : CtrlEntry := ⟨4, 2, 24, 0, true⟩

/-- The entry of a unit of a background task (Tables 01-3 and 02-5): recorder work and the scrub go to the DRAM controller. -/
def unitEntry (task : Nat) (answers : Bool) : CtrlEntry :=
  ⟨if task < 2 then 5 else 6, if task < 3 then 0 else 2, 16 + task, 0, answers⟩

/-- TRK_ENTRY_TIMEOUT (R49): an entry of a class, outstanding since `opened`, is completed with an error response where it is 100 µs old.
An entry of a transaction that no command shows (a host read through BAR2) is not among the entries held. -/
def State.ctrlTimeout (s : State) (target cls opened : Nat) : State :=
  if s.power.held || decide (s.time.ns < opened + 100000) then s
  else
    let hit := fun e : CtrlEntry => e.target == target && e.cls == cls && e.opened == opened
    let s := match s.fr.ctrl.find? hit with
      | some e => (s.modFr fun f => { f with ctrl := f.ctrl.erase e }).ctrlAdmit
      | none => s
    ((s.emit (.ctrlError cls target)).bump Reg.TRK_TIMEOUT_COUNT.TIMEOUTS).raise 25 target

/-- The tracker's control side at a tick: CTRL_INUSE, and BP_COUNT where a requester waited in the frame that ends. -/
def State.ctrlTick (s : State) : State :=
  let s := s.wr Reg.TRK_STATUS.CTRL_INUSE s.fr.ctrl.length
  let s := s.when s.fr.ctrlWaited (·.bump Reg.TRK_BP_COUNT.FRAMES)
  s.modFr fun f => { f with ctrlWaited := !f.ctrlWait.isEmpty }

end Sys2Proof.Machine
end

