-- ==== Sys2Proof/Machine/Image.lean ====
section
/-! DEFINITION. The frame image as the engines read it (02_frame_tick.md, Tables 02-2 to 02-4; 10_analogue.md, Tables 10-3 and 10-4;
Table 06-4), and the two buffers that hold it (R33, R45): image k stands in buffer k mod 2 from its freeze; between tick k+2 and the next
freeze that buffer reads as what is there of image k+2 so far. -/

namespace Sys2Proof.Machine

/-- The cells marked fresh, and those marked stale, at the latest freeze. -/
def State.freshCount (s : State) : Nat := (s.cellList.filter fun n => (s.cell n).fresh).length
def State.staleCount (s : State) : Nat := (s.cellList.filter fun n => (s.cell n).frozen && !(s.cell n).fresh).length

/-- Whether a split-index move is in progress on any chain (R52, R112). -/
def State.anyMoving (s : State) : Bool := s.cfg.chains.any fun c => decide (0 < (s.chain c.chain).moving)

/-- The header (Table 02-3). -/
def State.imageHeader (s : State) : List Byte :=
  leBytes 4 s.frameNo ++ leBytes 4 0 ++ leBytes 8 s.tickNs ++ leBytes 8 s.fr.freezeNs ++ leBytes 2 s.freshCount
    ++ leBytes 2 s.staleCount ++ leBytes 2 (min 65535 s.fr.dup) ++ leBytes 1 (s.rd Reg.PLAN_LEVEL.CURRENT)
    ++ leBytes 1 (b01 s.fr.ovPrev + 2 * b01 (s.on Reg.FRAME_STATUS.COAST) + 4 * b01 s.anyMoving)

/-- Cell entry n (Table 02-4); entries of cells the image does not declare read zero (R45). -/
def State.imageCell (s : State) (n : Nat) : List Byte :=
  if (s.chainOfCell n).isNone then []
  else
    let c := s.cell n
    let stale := c.frozen && !c.fresh
    let flags := b01 c.fresh + 2 * b01 stale + 4 * b01 c.crcBad + 8 * b01 (s.cstate n == csBypassed) + 16 * b01 c.moving
    padTo 32 c.slot ++ leBytes 2 c.v ++ leBytes 2 c.v2
      ++ leBytes 2 (unsigned 16 c.step) ++ leBytes 1 flags ++ leBytes 1 c.staleRun
      ++ leBytes 4 (if c.done then c.arrive else 0xFFFFFFFF)

/-- A SAR or ΔΣ slot (Table 10-4). -/
def AdcSlot.bytes (x : AdcSlot) : List Byte :=
  leBytes 4 (unsigned 32 x.value) ++ leBytes 4 (unsigned 32 x.raw) ++ leBytes 1 x.flags ++ leBytes 1 x.settle ++ leBytes 2 0
    ++ leBytes 4 (unsigned 32 x.tNs)

/-- Where the object of an image that holds byte `off` begins (Tables 02-2 and 10-3). -/
def objectAt (off : Nat) : Nat :=
  if off < 0x100 then 0
  else if off < 0x18100 then off - (off - 0x100) % 64
  else if off < 0x19200 then off - (off - 0x18100) % 16
  else if off < 0x19300 then 0x19200
  else if off < 0x1A100 then 0x19300
  else if off < 0x1AD00 then off - (off - 0x1A100) % 256
  else 0x1AD00

/-- The object of the image of this frame that begins at `at`, as it stands now. -/
def State.imageObject (s : State) (at_ : Nat) : List Byte :=
  if at_ < 0x100 then s.imageHeader
  else if at_ < 0x18100 then s.imageCell ((at_ - 0x100) / 64)
  else if at_ < 0x19200 then (Tbl.look default s.adc.slots ((at_ - 0x18100) / 16)).bytes
  else if at_ < 0x19300 then (upTo 64).flatMap fun i => leBytes 4 (s.adc.posted.getD i 0)
  else if at_ < 0x1A100 then leBytes 8 s.adc.postedAt ++ leBytes 4 s.adc.postedNo
  else if at_ < 0x1AD00 then (s.arm ((at_ - 0x1A100) / 256)).summary
  else []

/-- The objects of an image that can hold something other than zero. -/
def State.imageStarts (s : State) : List Nat :=
  0 :: s.cellList.map (0x100 + 64 * ·) ++ s.adc.slots.map (0x18100 + 16 * ·.1) ++ [0x19200, 0x19300]
    ++ s.cfg.arms.map (0x1A100 + 256 * ·.arm)

/-- The number of an object of buffer b in State.images. -/
def imageKey (b at_ : Nat) : Nat := 1048576 * b + at_

/-- The image of this frame written into buffer b at its freeze (R33, R45). -/
def State.storeImage (s : State) (b : Nat) : State :=
  let old := s.images.filter fun x => x.1 / 1048576 != b
  { s with images := s.imageStarts.foldl (fun t a => Tbl.put [] t (imageKey b a) (s.imageObject a)) old }

/-- What buffer b holds of the object that begins at `at`: what the latest freeze into it left, or the image under way. -/
def State.bufferObject (s : State) (b at_ : Nat) : List Byte :=
  if s.fr.phase = .open ∧ b = s.frameNo % 2 then s.imageObject at_ else Tbl.look [] s.images (imageKey b at_)

/-- Byte `off` of buffer b; what no object holds reads zero (R45). -/
def State.bufferByte (s : State) (b off : Nat) : Byte := (s.bufferObject b (objectAt off)).getD (off - objectAt off) 0

/-- The cell entry of a frozen image marked stale (R28). -/
def State.staleEntry (s : State) (b n : Nat) : State :=
  let k := imageKey b (0x100 + 64 * n)
  match Tbl.look [] s.images k with
  | [] => s
  | e =>
    let w := u8At e 38
    { s with images := Tbl.put [] s.images k (e.take 38 ++ leBytes 1 (setBit (clrBit w 0) 1) ++ e.drop 39) }

/-- A field of the frame image, extended by its width code (Table 07-1): 0 s32, 1 u16, 2 s16, 3 u8, 4 s8. The engines read the frozen
image of the frame. -/
def State.imageField (s : State) (off width : Nat) : Int :=
  let b := s.bufferObject (s.frameNo % 2) (objectAt off)
  let i := off - objectAt off
  match width with
  | 0 => s32At b i
  | 1 => u16At b i
  | 2 => s16At b i
  | 3 => u8At b i
  | _ => s8At b i

/-- What an ENERGY block reads of an arm (R172). -/
def State.armEnergy (s : State) (a : Nat) : ArmEnergy :=
  let b := (s.arm a).summary
  ⟨u32At b 32, u64At b 40, u16At b 68⟩

end Sys2Proof.Machine
end

