-- ==== Sys2Proof/Machine/Engines.lean ====
section
/-! DEFINITION. The control graph engines (07_control_graphs.md, R148 to R181): a run of a graph, its sinks, the commands on coefficients
and parameters, and the check of a bank that the loader and BANK_SWAP share. -/

namespace Sys2Proof.Machine

/-- What a run has evaluated so far: the outputs of the blocks, the committed states still to read, the working states, the sinks. -/
structure RunAcc where
  outs : List (List Int)
  old : List Int
  new : List Int
  sinks : List (Nat × Int)
  deriving DecidableEq, Repr, Inhabited

/-- The value of an operand (Table 07-1): `outer` gives every kind but NONE, LOCAL and COEF. -/
def operandValue (outer : Nat → Nat → Int) (k : Nat → Coef) (outs : List (List Int)) (w : Nat) : Int :=
  let p := w % 2 ^ 28
  match w / 2 ^ 28 with
  | 0 => 0
  | 1 => (outs.getD (p % 256) []).getD (p / 256 % 4) 0
  | 2 => (k p).value
  | kind => outer kind p

/-- One block of a run (R148, R150): inputs, evaluation, sink. -/
def runBlock (outer : Nat → Nat → Int) (k : Nat → Coef) (period : Nat) (arm : Nat → ArmEnergy) (x : RunAcc) (b : Block) : RunAcc :=
  let ins := (b.ops.take b.nIn).map (operandValue outer k x.outs)
  let n := stateWords b.type b.mode
  let o := evalBlock b.type b.mode b.opt ins (fun i => k (b.coef + i)) (x.old.take n) period (arm (b.mode % 16))
  { outs := x.outs ++ [o.outs], old := x.old.drop n, new := x.new ++ o.states,
    sinks := if b.sink / 4096 = 0 then x.sinks else x.sinks ++ [(b.sink, o.outs.getD b.sinkPort 0)] }

/-- The value a graph gives a sink, if it has one. -/
def sinkValue (l : List (Nat × Int)) (key : Nat) : Option Int := (l.find? fun p => p.1 == key).map (·.2)

/-- A whole run of a graph (R148 to R150, R153). -/
def runGraph (outer : Nat → Nat → Int) (bank : List Coef) (period : Nat) (arm : Nat → ArmEnergy) (g : Graph) (states : List Int) : RunOut :=
  let x := g.blocks.foldl (runBlock outer (fun i => bank.getD i default) period arm) ⟨[], states, [], []⟩
  { sinks := x.sinks, exports := (upTo g.exports).map fun i => (sinkValue x.sinks (0x3000 + i)).getD 0,
    states := x.new,
    quiet := match sinkValue x.sinks 0x4000 with
      | some v => decide (v ≠ 0)
      | none => true }

/-- The system items (Table 07-3). -/
def State.systemItem (s : State) (i : Nat) : Int :=
  match i with
  | 0 => signed 32 s.frameNo
  | 1 => s.period
  | 2 => i01 s.referee.restart
  | 3 => (min 255 s.referee.coast : Nat)
  | 4 => i01 s.fr.ovPrev
  | 5 => s.bank
  | 6 => (s.cfg.convs.foldl (fun w v => if (s.conv v.conv).shown then setBit w v.conv else w) 0 : Nat)
  | 7 => s.rd Reg.PLAN_LEVEL.CURRENT
  | _ => 0

/-- Operands that come from outside the graph (Table 07-1), read by an engine of plane p (R149). -/
def State.outerValue (s : State) (p : Nat) (j : Nat) (kind payload : Nat) : Int :=
  match kind with
  | 3 => s.imageField (payload % 2 ^ 17) (payload / 2 ^ 17 % 8)
  | 4 => (s.eng (engOf p (payload % 8))).exports.getD (payload / 8 % 32) 0
  | 5 => s.param j (payload % 64)
  | 6 => s.systemItem (payload % 16)
  | _ => 0

/-- The bank of coefficients in force in engine e (R175). -/
def State.engBank (s : State) (e : Nat) : List Coef := if s.bank = 0 then (s.eng e).bankA else (s.eng e).bankB

/-- The run of position j's graph on plane p in this frame. -/
def State.runEngine (s : State) (p j : Nat) (g : Graph) : RunOut :=
  runGraph (s.outerValue p j) (s.engBank (engOf p j)) s.period s.armEnergy g (s.eng (engOf p j)).states

/-- A word in its register field (Table 07-2). -/
def RefBlock.put (b : RefBlock) (w : Nat) (v : Int) : RefBlock :=
  match w with
  | 0 => { b with vdc := v }
  | 1 => { b with vac := v }
  | 2 => { b with vextra := v }
  | 3 => { b with theta := angle v }
  | 4 => { b with omega := v }
  | 5 => { b with capInv := (clampI 0 0xFFFFFF v).toNat }
  | 6 => { b with phaseRef := sat16 v }
  | 7 => { b with phaseBal := sat16 v }
  | 8 => { b with phaseLim := (clampI 0 32767 v).toNat }
  | _ => b

/-- One sink write of the ball plane (R151). -/
def State.writeSink (s : State) (p : Nat × Int) : State :=
  let target := p.1 / 256 % 16
  match p.1 / 4096 with
  | 1 => s.modArm target fun a => { a with want := a.want.put (p.1 % 16) p.2 }
  | 2 => s.modConv target fun c => { c with work := Tbl.put 0 c.work (p.1 % 16) p.2 }
  | _ => s

/-- The arms whose reference words a run wrote. -/
def sinkArms (l : List (Nat × Int)) : List Nat := (upTo 12).filter fun a => l.any fun p => p.1 / 4096 == 1 && p.1 / 256 % 16 == a

/-- The fabric writes a run makes: its arm and converter words, and a commit write per arm (R151). -/
def fabricWrites (l : List (Nat × Int)) : Nat :=
  (l.filter fun p => p.1 / 4096 == 1 || p.1 / 4096 == 2).length + (sinkArms l).length

/-- Writes offered by a plane without the ball (R27, R211). -/
def State.offside (s : State) (p n : Nat) : State :=
  if n = 0 then s else (s.bump Reg.REF_OFFSIDE.WRITES n).wr Reg.REF_OFFSIDE.LAST_PLANE p

/-- Cycles, DONE and QUIET of an engine whose graph completed. -/
def State.showRun (s : State) (e cycles : Nat) (r : RunOut) : State :=
  let c := min cycles 65535
  let s := (s.wr Reg.ENG_STATUS.DONE 1 e).wr Reg.ENG_STATUS.STOPPED 0 e
  let s := (s.wr Reg.ENG_STATUS.QUIET (b01 r.quiet) e).wr Reg.ENG_CYCLES.LAST c e
  let s := s.wr Reg.ENG_CYCLES.MAX (max (s.rd Reg.ENG_CYCLES.MAX e) c) e
  s.each (r.exports.zip (upTo r.exports.length)) fun s x => s.wrS Reg.ENG_EXPORT.VALUE x.1 e x.2

/-- Whether plane p holds the ball. -/
def State.ballPlane (s : State) (p : Nat) : Bool := s.referee.ball && decide (s.holder = p)

/-- ENGINE_GRAPH_COMPLETE (R148 to R151): the ball plane writes its sinks and the commit words; the shadow plane's words go to the
compare buffer; writes of another plane are offside. -/
def State.graphComplete (s : State) (e cycles : Nat) : State :=
  let p := e / 8
  let j := e % 8
  match s.graph j with
  | none => s
  | some g =>
    let r := s.runEngine p j g
    if hasBit s.power.lost 0 ∨ hasBit s.power.dead 0 then s
    else if (s.eng e).running ∧ s.fr.phase = .frozen then
      let s := ((s.modEng e fun x => { x with running := false, result := some r }).showRun e cycles r).ctrlDone (·.owner == e)
      if s.ballPlane p then
        let s := { s with fr := { s.fr with engNeed := max s.fr.engNeed cycles } }
        let s := s.each r.sinks fun s w => s.writeSink w
        s.each (sinkArms r.sinks) fun s a => s.wr Reg.ARM_REF_FRAME.FRAME s.frameNo (s.armSlice a)
      else s
    else if s.fr.phase ≠ .stopped ∧ !s.ballPlane p ∧ s.role p ≠ roShadow ∧ s.role p ≠ roOff then
      s.offside p (fabricWrites r.sinks)
    else s

/-- ENGINE_GRAPH_COMPLETE. -/
def execEngineGraphComplete (engine : Fin 16) (cycles : Nat) (s : State) : Host.Outcome State Fault Refusal :=
  done (s.graphComplete engine.val cycles)

/-- ENGINE_RUN_START (R148): at T_FREEZE every engine of plane p whose position carries a graph starts, and asks for a control entry for
its reads and writes (R48). -/
def State.startPlane (s : State) (p : Nat) : State :=
  s.each (upTo 8) fun s j =>
    if (s.graph j).isSome then
      (s.modEng (engOf p j) fun x => { x with running := true, result := none }).ctrlAsk (engineEntry (engOf p j) (s.ballPlane p))
    else s

/-- Whether an engine of plane p still runs its graph. -/
def State.planeRuns (s : State) (p : Nat) : Bool := (upTo 8).any fun j => (s.eng (engOf p j)).running

/-- T_COMPUTE_END at plane p (R54, R150): a run that completed commits, a run that has not is stopped and commits nothing. -/
def State.endPlane (s : State) (p : Nat) : State :=
  s.each (upTo 8) fun s j =>
    let e := engOf p j
    let x := s.eng e
    if x.running then
      let s := (s.modEng e fun x => { x with running := false, result := none }).ctrlDone (·.owner == e)
      let c := min 65535 (s.rd Reg.PLAN_CAPACITY.ENG_CAP)
      let s := ((s.wr Reg.ENG_STATUS.DONE 0 e).wr Reg.ENG_STATUS.STOPPED 1 e).wr Reg.ENG_EVENT.STOPPED 1 e
      let s := s.when (s.ballPlane p) fun s => { s with fr := { s.fr with engNeed := max s.fr.engNeed c } }
      (s.wr Reg.ENG_CYCLES.LAST c e).wr Reg.ENG_CYCLES.MAX (max (s.rd Reg.ENG_CYCLES.MAX e) c) e
    else match x.result with
      | some r => s.modEng e fun x => { x with states := r.states, exports := r.exports, result := none }
      | none => s

/-- QUIET of the frame besides overrun and coast (R153), judged before the commit. -/
def State.quietNow (s : State) (p : Nat) : Bool :=
  (upTo 8).all fun j => match s.graph j, (s.eng (engOf p j)).result with
    | none, _ => true
    | some _, some r => r.quiet
    | some _, none => false

/-- SHADOW_COMPARE (R213), before the commits of the frame: whether the words, exports, completion and, in the last frame of the run,
the states of a position differ between the planes. -/
def State.shadowDiffers (s : State) (last : Bool) : Bool :=
  (upTo 8).any fun j =>
    if (s.graph j).isNone then false
    else match (s.eng (engOf s.holder j)).result, (s.eng (engOf s.standby j)).result with
      | some a, some b => a.sinks != b.sinks || a.exports != b.exports || a.quiet != b.quiet || (last && a.states != b.states)
      | some _, none => true
      | none, some _ => true
      | none, none => (s.eng (engOf s.standby j)).running

/-- The first entry of a block's coefficients that breaks a value rule, counted from its first (0706h: R162, R165 to R168, R170, R171). -/
def coefFault (b : Block) (v : Nat → Int) : Option Nat :=
  match b.type with
  | 0x03 => if v 2 < v 3 then some 2 else none
  | 0x04 => if v 2 < v 3 then some 2 else none
  | 0x08 => if v 0 < 0 then some 0 else if v 1 < 0 then some 1 else none
  | 0x09 => if v 0 < 0 then some 0 else none
  | 0x0F => if v 0 < 0 then some 0 else none
  | 0x0B =>
    if !(decide (v 3 ≤ v 2) && decide (v 2 ≤ v 4)) then some 2
    else if v 3 < 193274 then some 3
    else if 279173 < v 4 then some 4
    else if v 5 < 0 then some 5
    else if !(decide (1 ≤ v 6) && decide (v 6 ≤ 65535)) then some 6
    else none
  | 0x0C =>
    ((upTo (b.mode - 1)).filterMap fun i =>
      let dx := v (i + 1) - v i
      if !(decide (0 < dx) && decide (dx < 2147483648)) then some (i + 1)
      else if 2147483648 ≤ (v (b.mode + i + 1) - v (b.mode + i)).natAbs then some (b.mode + i + 1)
      else none).min?
  | _ => none

/-- The checks of one bank of a graph (0705h, 0706h; R175, R180): the code and the first failing entry. -/
def bankFault (g : Graph) (bank : List Coef) : Option (Nat × Nat) :=
  let shifts := ((upTo bank.length).filter fun i => decide (31 < (bank.getD i default).shift)).map fun i => (i, 0x705)
  let blocks := g.blocks.filterMap fun b =>
    let n := coefCount b.type b.mode b.nIn
    if n = 0 then none
    else if bank.length < b.coef + n then some (b.coef, 0x705)
    else (coefFault b fun i => (bank.getD (b.coef + i) default).value).map fun i => (b.coef + i, 0x706)
  let all := shifts ++ blocks
  match (all.map (·.1)).min? with
  | none => none
  | some e => some (((all.find? fun p => p.1 == e).map (·.2)).getD 0x705, e)

/-- ENG_CMD_LAST and ENG_CMD_FRAME of a position, in both its engines, and CMD_REFUSED (R175). -/
def State.engNote (s : State) (j op result entry : Nat) : State :=
  s.each [j, j + 8] fun s e =>
    let s := (s.wr Reg.ENG_CMD_LAST.RESULT result e).wr Reg.ENG_CMD_LAST.OP op e
    let s := (s.wr Reg.ENG_CMD_LAST.ENTRY entry e).wr Reg.ENG_CMD_FRAME.FRAME s.frameNo e
    s.when (decide (result ≠ 0 ∧ result ≠ 2)) (·.wr Reg.ENG_EVENT.CMD_REFUSED 1 e)

/-- The entries of a COEFF_WRITE, in order (Table 07-5). -/
def coefArgs (args : List Byte) (n : Nat) : List Coef := (upTo n).map fun i => ⟨s32At args (4 + 5 * i), u8At args (8 + 5 * i)⟩

/-- A list with its elements from `first` on replaced. -/
def replaceFrom (l : List Coef) (first : Nat) (x : List Coef) : List Coef := l.take first ++ x ++ l.drop (first + x.length)

/-- COEFF_WRITE at its tick (R175, R176): into the bank not in force, in the engine memories of both planes. -/
def State.cmdCoeffWrite (s : State) (args : List Byte) : Nat × State :=
  let j := u8At args 0
  let first := u16At args 1
  let n := u8At args 3
  if 7 < j then (1, s)
  else match s.graph j with
    | none => (4, s.engNote j 1 4 0)
    | some g =>
      let es := coefArgs args n
      if n < 1 ∨ 16 < n ∨ g.coefEntries < first + n ∨ es.any fun c => decide (31 < c.shift) then (1, s.engNote j 1 1 0)
      else
        let b := s.bank
        let s := s.each [j, j + 8] fun s e => s.modEng e fun x =>
          if b = 0 then { x with bankB := replaceFrom x.bankB first es } else { x with bankA := replaceFrom x.bankA first es }
        (0, s.engNote j 1 0 0)

/-- The check of the bank to be put in force, position by position (R175). -/
def State.swapFault (s : State) (bank j : Nat) : Option Nat :=
  match s.graph j with
  | none => none
  | some g => (bankFault g (if bank = 0 then (s.eng j).bankA else (s.eng j).bankB)).map (·.2)

/-- BANK_SWAP at its tick (R175, R176). -/
def State.cmdBankSwap (s : State) (bank : Nat) : Nat × State :=
  let places := (upTo 8).filter fun j => (s.graph j).isSome
  let note := fun (s : State) (r : Nat) (entry : Nat → Nat) => s.each places fun s j => s.engNote j 2 r (entry j)
  if 1 < bank then (1, note s 1 fun _ => 0)
  else if bank = s.bank then (2, note s 2 fun _ => 0)
  else if places.any fun j => (s.swapFault bank j).isSome then (3, note s 3 fun j => (s.swapFault bank j).getD 0)
  else
    let s := s.setBank bank
    let s := s.each (upTo 16) fun s e => (s.bump Reg.ENG_BANK.SWAPS 1 e).wr Reg.ENG_EVENT.SWAP 1 e
    (0, note s 0 fun _ => 0)

/-- PARAM_WRITE at its tick (R175, R176). -/
def State.cmdParamWrite (s : State) (args : List Byte) : Nat × State :=
  let j := u8At args 0
  let i := u8At args 1
  if 7 < j then (1, s)
  else if 63 < i then (1, s.engNote j 3 1 0)
  else if (s.graph j).isNone then (4, s.engNote j 3 4 0)
  else (0, (s.setParam j i (s32At args 2)).engNote j 3 0 0)

/-- COEFF_WRITE. -/
def execCoeffWrite (args : List Byte) (s : State) : Host.Outcome State Fault Refusal := done (s.cmdCoeffWrite args).2

/-- BANK_SWAP. -/
def execBankSwap (bank : Nat) (s : State) : Host.Outcome State Fault Refusal := done (s.cmdBankSwap bank).2

/-- PARAM_WRITE. -/
def execParamWrite (args : List Byte) (s : State) : Host.Outcome State Fault Refusal := done (s.cmdParamWrite args).2

/-- ENG_CLEAR.CYCLES. -/
def execEngClearCycles (engine : Fin 16) (s : State) : Host.Outcome State Fault Refusal :=
  done (s.wr Reg.ENG_CYCLES.MAX 0 engine.val)

/-- ENG_CLEAR.ECC. -/
def execEngClearEcc (engine : Fin 16) (s : State) : Host.Outcome State Fault Refusal :=
  done (s.wr Reg.ENG_ECC.CORRECTED 0 engine.val)

/-- What commit puts in force of the graphs (R67, R175, R178, R179): engine memories of both planes, bank A, parameters, registers. -/
def State.commitEngines (s : State) : State :=
  let s := s.setBank 0
  s.each s.cfg.graphs fun s g =>
    let j := g.position
    let s := s.each [j, j + 8] fun s e =>
      let s := s.modEng e fun _ =>
        { states := g.init, exports := List.replicate g.exports 0, bankA := g.bankA, bankB := g.bankB, running := false, result := none }
      let s := (s.wr Reg.ENG_STATUS.LOADED 1 e).wr Reg.ENG_STATUS.BLOCKS g.blocks.length e
      let s := s.wr Reg.ENG_STATUS.QUIET (b01 (g.blocks.all fun b => b.sink / 4096 != 4)) e
      let s := s.wr Reg.ENG_COST.STATIC (min 65535 (s.cfg.frame.engStatic.getD j 0)) e
      let s := s.wr Reg.ENG_COST.SUM (min 65535 (g.blocks.map fullCost).sum) e
      let s := (s.wr Reg.ENG_BANK.ENTRIES g.coefEntries e).wr Reg.ENG_SIZE.EXPORTS g.exports e
      s.wr Reg.ENG_SIZE.STATE_WORDS g.init.length e
    s.each (upTo 64) fun s i => s.setParam j i (g.params0.getD i 0)

end Sys2Proof.Machine
end

