-- ==== Sys2Proof/Machine/Plan.lean ====
section
/-! DEFINITION. The frame period and the planner (02_frame_tick.md, R38, R39, R49, R56 to R63; R375, R384, R385): SET_FRAME_PERIOD, the
choice of the performance level, background dispatch, and the clears of the FRAME region. -/

namespace Sys2Proof.Machine

/-- SET_FRAME_PERIOD at its tick (R39, Table 02-7). The history is emptied at tick k, so that the need of frame k, of the old period, is the
first of the 64 of R57 (DESIGN CHOICE, assumption 21: the spec says 'in the same frame' and fixes no instant in it). -/
def State.cmdSetFramePeriod (s : State) (p : Nat) : Nat × State :=
  if p < s.cfg.frame.pmin ∨ s.cfg.frame.pmax < p then (1, s)
  else if p = s.fr.nextPeriod.getD s.period then (2, s)
  else (0, ((s.modFr fun f => { f with nextPeriod := some p }).emptyHistory).cancelShadow)

/-- SET_FRAME_PERIOD. -/
def execSetFramePeriod (period : Nat) (s : State) : Host.Outcome State Fault Refusal := done (s.cmdSetFramePeriod period).2

/-- Engine and fabric clock of a level, in MHz (Table 18-6). -/
def engMhz (l : Nat) : Nat := 1400 - 200 * l
def fabMhz (l : Nat) : Nat := 700 - 100 * l

/-- C(PL) and F(PL) at the period in force (R58). -/
def State.engCap (s : State) (l : Nat) : Nat := (s.tComputeEnd - s.tFreeze) * engMhz l / 1000
def State.fabCap (s : State) (l : Nat) : Nat := (s.tRankEnd - s.tComputeEnd) * fabMhz l / 1000

/-- The needs of the forecast, N and R, and whether they are static (R57). -/
def State.forecast (s : State) : Nat × Nat × Bool :=
  let h := s.fr.history
  if h.length < 64 then (s.cfg.frame.engStatic.foldl max 0, s.cfg.frame.armStatic.foldl max 0, true)
  else ((h.map (·.1)).foldl max 0, (h.map (·.2)).foldl max 0, false)

/-- Whether a level meets both slack tests (R58). -/
def State.levelFits (s : State) (n r l : Nat) : Bool :=
  decide (n * 100 ≤ s.engCap l * 85) && decide (r * 100 ≤ s.fabCap l * 85)

/-- The slowest level, no slower than PL_LIMIT, that fits; none where no level does (R58). -/
def State.slowestFit (s : State) (n r : Nat) : Option Nat :=
  ((upTo (s.rd Reg.PLAN_LEVEL.LIMIT + 1)).reverse.find? fun l => s.levelFits n r l)

/-- The fastest level that shedding allows, never slower than PL_LIMIT (R60). -/
def State.capLevel (s : State) : Nat := min (s.rd Reg.PLAN_LEVEL.CAP) (s.rd Reg.PLAN_LEVEL.LIMIT)

/-- The target level of R58, R56 and R60. -/
def State.target (s : State) (n r : Nat) : Nat :=
  max (if s.fr.hold.isSome then 0 else (s.slowestFit n r).getD 0) s.capLevel

/-- The capacities at the level in force. -/
def State.showCapacity (s : State) : State :=
  let l := s.rd Reg.PLAN_LEVEL.CURRENT
  (s.wr Reg.PLAN_CAPACITY.ENG_CAP (min 65535 (s.engCap l))).wr Reg.PLAN_CAPACITY.FAB_CAP (min 65535 (s.fabCap l))

/-- The forecast, the target and SLACK_LOW in the registers. -/
def State.showTarget (s : State) : State :=
  let (n, r, st) := s.forecast
  let s := (s.wr Reg.PLAN_FORECAST.ENG_NEED (min 65535 n)).wr Reg.PLAN_FORECAST.FAB_NEED (min 65535 r)
  let low := (s.slowestFit n r).isNone
  let s := s.when (low && !s.on Reg.PLAN_LEVEL.SLACK_LOW) (·.wr Reg.FRAME_EVENT.SLACK_LOW 1)
  ((s.wr Reg.PLAN_LEVEL.SLACK_LOW (b01 low)).wr Reg.PLAN_LEVEL.STATIC (b01 st)).wr Reg.PLAN_LEVEL.TARGET (s.target n r)

/-- The moves decided in a guard window (R59, R375, R385): an upward move decided before switches its clocks now, within the cap; a cap
that the level breaks applies at once; a faster target starts an upward move; a slower one is counted. -/
def State.planMoves (s : State) : State :=
  let cur := s.rd Reg.PLAN_LEVEL.CURRENT
  let cap := s.capLevel
  let s := match s.fr.rising with
    | some l => s.modFr fun f => { f with rising := none, nextLevel := some (max l cap) }
    | none => s
  let s := if s.fr.nextLevel.getD cur < cap then s.modFr fun f => { f with nextLevel := some cap } else s
  let eff := s.fr.nextLevel.getD cur
  let t := s.rd Reg.PLAN_LEVEL.TARGET
  s.modFr fun f =>
    if t < eff then { f with rising := some t, slower := 0 }
    else if eff < t then { f with slower := f.slower + 1 }
    else { f with slower := 0 }

/-- PLANNER_EVALUATE at T_RANK_END (R56, R57, R59): `fabNeed` is the largest r_a of the frame, `over` whether it overran, `ball` whether
a plane held the ball (a frame without one has no engine need and enters no history). -/
def State.planEvaluate (s : State) (fabNeed : Nat) (overran ball : Bool) : State :=
  let s := s.modFr fun f =>
    { f with history := if ball then ((f.engNeed, fabNeed) :: f.history).take 64 else f.history,
             hold := if overran then some 0 else f.hold.map (· + 1) }
  s.showTarget.planMoves

/-- PLANNER_STEP_DOWN (R59): after 64 consecutive frames with a slower target the clocks step one level down, in the guard window. -/
def State.stepDown (s : State) : State :=
  if s.fr.phase = .ranked ∧ 64 ≤ s.fr.slower ∧ s.fr.nextLevel = none ∧ s.fr.rising = none then
    s.modFr fun f => { f with slower := 0, nextLevel := some (min 3 (s.rd Reg.PLAN_LEVEL.CURRENT + 1)) }
  else s

/-- PLANNER_STEP_DOWN. -/
def execPlannerStepDown (t : Nat) (s : State) : Host.Outcome State Fault Refusal := done (s.elapse t).stepDown

/-- OVERRUN_HOLD_END (R56): 64 consecutive frames have passed without an overrun. -/
def State.holdEnd (s : State) : State :=
  match s.fr.hold with
  | some n => if 64 ≤ n then (s.modFr fun f => { f with hold := none }).showTarget else s
  | none => s

/-- OVERRUN_HOLD_END. -/
def execOverrunHoldEnd (t : Nat) (s : State) : Host.Outcome State Fault Refusal := done (s.elapse t).holdEnd

/-- The level of the next frame takes force at the tick (R59). -/
def State.levelTick (s : State) : State :=
  match s.fr.nextLevel with
  | some l => ((s.modFr fun f => { f with nextLevel := none }).wr Reg.PLAN_LEVEL.CURRENT l).showCapacity
  | none => s

/-- The period of the next frame takes force at the tick (R39, R42, R101, R144, R231): every instant and every plan of a lane end is
computed again. -/
def State.periodTick (s : State) : State :=
  match s.fr.nextPeriod with
  | none => s
  | some p =>
    let s := (s.modFr fun f => { f with nextPeriod := none }).wr Reg.FRAME_PERIOD.PERIOD p
    let s := (s.wr Reg.FRAME_EVENT.PERIOD 1).showCapacity.planBursts
    let s := s.each s.cfg.chains fun s c => s.planChain c.chain
    s.each s.cfg.arms fun s a =>
      let n := s.armSlice a.arm
      (s.wr Reg.ARM_ALPHA1.ALPHA (alphaOf p a.tau1) n).wr Reg.ARM_ALPHA2.ALPHA (alphaOf p a.tau2) n

/-- Thermal headroom H in 1/8 °C, 0 while no logic or memory sensor reads valid (R63, R64, R394). -/
def State.headroom (s : State) : Int := if s.power.headroomValid then 1392 - (s.rd Reg.THERMAL_STATUS.HOT : Int) else 0

/-- The percentage of the frame's background capacity that R63 grants. -/
def State.bgShare (s : State) : Nat :=
  let h := s.headroom
  if h ≤ 0 then 0 else min 100 (h.toNat * 100 / (8 * max 1 (s.rd Reg.PLAN_THERMAL.MARGIN)))

/-- The blocks of 4 KB that make a complete recorder copy of a frame image: those of Table 02-2 that are not reserved, and no unit of an
analogue record among them (DESIGN CHOICE, assumption 22: the spec gives the unit of the copy in Table 02-5 and no number of them). -/
def imageBlocks : Nat := 27

/-- Whether a recorder slice is in service. -/
def State.records (s : State) : Bool := (upTo 4).any fun i => (s.sliceOf roRecorder i).isSome

/-- The blocks of buffer b copied since its freeze. -/
def FrameSt.copied (f : FrameSt) (b : Nat) : Nat := if b = 0 then f.copied0 else f.copied1

/-- Whether blocks of the image in buffer b are still to be copied. -/
def State.copyLeft (s : State) (b : Nat) : Bool := hasBit s.fr.frozenOnce b && decide (s.fr.copied b < imageBlocks)

/-- One recorder block copied (R61): of the buffer whose reuse is nearest, into the ring in DRAM. Without DRAM, or a recorder slice, or a
frozen block (a unit of an analogue record), no block of an image is copied (R36). -/
def State.copyBlock (s : State) : State :=
  let new := s.frameNo % 2
  let b := if s.copyLeft (1 - new) then 1 - new else new
  let s := if s.load.dram && s.records then { s with load := { s.load with written := s.load.written + 1 } } else s
  if !s.copyLeft b || !s.load.dram || !s.records then s
  else
    let n := s.fr.copied b
    let frame := if b = new then s.frameNo else (s.frameNo + 4294967295) % 4294967296
    (s.emit (.record frame n ((upTo 4096).map fun i => s.bufferByte b (4096 * n + i)))).modFr fun f =>
      if b = 0 then { f with copied0 := f.copied0 + 1 } else { f with copied1 := f.copied1 + 1 }

/-- What a background unit leaves when its transactions have been answered. -/
def State.unitDone (s : State) (task : Nat) : State :=
  if task = 0 then s.copyBlock
  else if task = 1 then { s with load := { s.load with written := s.load.written + 1 } }
  else s

/-- A unit of background work: task, estimated power in mW (R62), the time it takes on its slices, the crossbar and its target in ns, and
whether its target answers its transactions. -/
structure BgUnit where
  task : Nat
  mw : Nat
  ns : Nat
  answers : Bool
  deriving DecidableEq, Repr

/-- A background unit that runs (R48, R61): one that its target answers is done at once; one that has no control entry, or no answer, stays
in the tracker. -/
def State.runUnit (s : State) (u : BgUnit) : State :=
  let s := s.modFr fun f => { f with powerMw := f.powerMw + u.mw, bgNs := f.bgNs + u.ns, bgRan := setBit f.bgRan u.task }
  let e := unitEntry u.task u.answers
  let room := ctrlRoom s.fr.ctrl e
  let s := s.ctrlAsk e
  if room && u.answers then (s.ctrlDone fun x => x == { e with opened := s.time.ns }).unitDone u.task else s

/-- The entries of units that had waited complete once their targets have answered: at the next tick (DESIGN CHOICE, assumption 20). -/
def State.waitedUnits (s : State) : State :=
  let l := s.fr.ctrl.filter fun e => e.answers && decide (16 ≤ e.owner) && decide (e.owner < 21)
  (s.ctrlDone fun e => e.answers && decide (16 ≤ e.owner) && decide (e.owner < 21)).each l fun s e => s.unitDone (e.owner - 16)

/-- Dispatch ends for the frame (R61): its reason; a shadow-run frame among the units refused cancels the shadow run (R214). -/
def State.bgRefuse (s : State) (why : Nat) (left : List BgUnit) : State :=
  let s := (s.wr Reg.PLAN_BG_STATUS.STOPPED_BY why).modFr fun f => { f with bgOver := true }
  if left.any (·.task == 4) then s.cancelShadow else s

/-- Units dispatched in order until one is refused (R61 to R63): for want of time (`capacity` ns of the frame are left by mandatory work); of
power: that of the last frame, of the units admitted and of the unit in question stays within the budget; of the share of the capacity
that R63 grants. Where several hold, the reason with the lowest code is reported (DESIGN CHOICE, assumption 22). -/
def State.dispatch (s : State) (capacity share : Nat) : List BgUnit → State
  | [] => s.wr Reg.PLAN_BG_STATUS.STOPPED_BY 0
  | u :: rest =>
    if capacity < s.fr.bgNs + u.ns then s.bgRefuse 1 (u :: rest)
    else if s.rd Reg.PLAN_POWER.BUDGET < s.rd Reg.PLAN_POWER.MEASURED + s.fr.powerMw + u.mw then s.bgRefuse 2 (u :: rest)
    else if capacity * share / 100 < s.fr.bgNs + u.ns then s.bgRefuse 3 (u :: rest)
    else (s.runUnit u).dispatch capacity share rest

/-- BACKGROUND_DISPATCH (R61 to R63, R375): the units that have work, in priority order. After a refused unit no unit runs in the frame. -/
def State.background (s : State) (units : List BgUnit) (capacity : Nat) : State :=
  let order := (upTo 5).map fun i => s.rd Reg.PLAN_BG_ORDER.ORDER / 8 ^ i % 8
  let sorted := order.flatMap fun t => units.filter fun u => u.task == t
  let share := s.bgShare
  let s := s.wr Reg.PLAN_BG_STATUS.SHARE share
  if 2 ≤ s.rd Reg.POWER_SHED.STEP then s.bgRefuse 4 sorted
  else if s.fr.bgOver then s.bgRefuse (s.rd Reg.PLAN_BG_STATUS.STOPPED_BY) sorted
  else if share = 0 ∧ sorted ≠ [] then s.bgRefuse 3 sorted
  else s.dispatch capacity share sorted

/-- BACKGROUND_DISPATCH: a unit is (task, mW, ns, whether its target answers). -/
def execBackgroundDispatch (offer : BgOffer) (t : Nat) (s : State) : Host.Outcome State Fault Refusal :=
  done ((s.elapse t).background (offer.units.map fun u => ⟨u.1.val, u.2.1, u.2.2.1, u.2.2.2⟩) offer.capacity)

/-- TRK_ENTRY_TIMEOUT (R49): target 0 the DRAM controller, 1 the host bridge. -/
def execTrkEntryTimeout (entry : CtrlRef) (t : Nat) (s : State) : Host.Outcome State Fault Refusal :=
  done ((s.elapse t).ctrlTimeout entry.target.val entry.cls.val entry.opened)

/-- XBAR_WAIT.CLEAR. -/
def State.xbarClear (s : State) : State := (s.wr Reg.XBAR_WAIT.ENG_MAX_WAIT 0).wr Reg.XBAR_WAIT.HOST_MAX_WAIT 0

/-- XBAR_WAIT_CLEAR. -/
def execXbarWaitClear (s : State) : Host.Outcome State Fault Refusal := done s.xbarClear

/-- FRAME_CLEAR.OVERRUN. -/
def State.clearOverrun (s : State) : State :=
  ((s.wr Reg.OVERRUN_COUNT.COMPUTE 0).wr Reg.OVERRUN_COUNT.RANK 0).wr Reg.OVERRUN_LAST.FRAME 0

/-- FRAME_CLEAR_OVERRUN. -/
def execFrameClearOverrun (s : State) : Host.Outcome State Fault Refusal := done s.clearOverrun

/-- FRAME_CLEAR.STALE. -/
def State.clearStale (s : State) : State :=
  (((s.wr Reg.STALE_COUNT.STALE 0).wr Reg.STALE_COUNT.LATE 0).wr Reg.DUP_COUNT.DUP 0).wr Reg.DUP_COUNT.OLD 0

/-- FRAME_CLEAR_STALE. -/
def execFrameClearStale (s : State) : Host.Outcome State Fault Refusal := done s.clearStale

/-- FRAME_CLEAR.TRACKER. -/
def State.clearTracker (s : State) : State :=
  ((s.wr Reg.TRK_STATUS.CTRL_HIWATER 0).wr Reg.TRK_BP_COUNT.FRAMES 0).wr Reg.TRK_TIMEOUT_COUNT.TIMEOUTS 0

/-- FRAME_CLEAR_TRACKER. -/
def execFrameClearTracker (s : State) : Host.Outcome State Fault Refusal := done s.clearTracker

/-- FRAME_CLEAR.GAPS. -/
def execFrameClearGaps (s : State) : Host.Outcome State Fault Refusal := done (s.wr Reg.PLAN_BG_STATUS.GAPS 0)

end Sys2Proof.Machine
end

