-- ==== Sys2Proof/Machine/Journal.lean ====
section
/-! DEFINITION. The command journal (09_redundancy_journal.md, R219 to R225) and its rings in host memory (16_host_backbone.md, R345 to
R348): acceptance, execution at ticks, the mirror in the journal MRAM, epochs. -/

namespace Sys2Proof.Machine

/-- The journal's record changed. -/
def State.modJrn (s : State) (f : JrnSt → JrnSt) : State := { s with journal := f s.journal }

/-- The current epoch. -/
def State.epoch (s : State) : Nat := s.rd Reg.JRN_EPOCH.EPOCH

/-- FILL: unretired records (R220). -/
def State.showFill (s : State) : State := s.wr Reg.JRN_STATUS.FILL s.journal.recs.length

/-- The BACKBONE entry of journal source n, 1 to 15. -/
def State.partnerCfg (s : State) (n : Nat) : Option PartnerCfg :=
  match s.cfg.bb with
  | some b => b.partners.find? fun p => p.source == n && p.node != 0
  | none => none

/-- The lowest port on which the partner of source n is KNOWN (R353). -/
def State.partnerPort (s : State) (n : Nat) : Option Nat :=
  if n = 0 then none else (upTo 4).find? fun p => hasBit (s.rd Reg.BB_PARTNER.PORTS (n - 1)) p

/-- A packet on a backbone port (R351), while the port is up. -/
def State.send (s : State) (port type dst : Nat) (payload : List Byte) : State :=
  if s.on Reg.BB_STATUS.UP port then
    let s := (s.emit (.packet port type dst payload)).wr Reg.BB_STATUS.TX_IDLE 0 port
    { s with host := { s.host with idleSince := Tbl.put 0 s.host.idleSince port (s.time.ns + 1) } }
  else s

/-- A ring's number of entries: 2^n, n from 4 to 12. -/
def State.cmdSize (s : State) : Nat := 2 ^ clampN 4 12 (s.rd Reg.JRN_CMD_CFG.LOG2N)
def State.cplSize (s : State) : Nat := 2 ^ clampN 4 12 (s.rd Reg.JRN_CPL_CFG.LOG2N)

/-- Free entries of the completion ring; one stays free. -/
def State.cplFree (s : State) : Nat :=
  (s.rd Reg.JRN_CPL_HEAD.INDEX + s.cplSize - s.rd Reg.JRN_CPL_TAIL.INDEX % s.cplSize + s.cplSize - 1) % s.cplSize

/-- A completion entry (Table 16-4), without its PHASE. -/
def cplBytes (kind status result opcode seq epoch aux ns index source : Nat) : List Byte :=
  leBytes 1 kind ++ leBytes 1 status ++ leBytes 1 result ++ leBytes 1 opcode ++ leBytes 4 seq ++ leBytes 4 epoch ++ leBytes 4 aux
    ++ leBytes 8 ns ++ leBytes 2 index ++ leBytes 1 source

/-- A completion entry written into the ring, or sent to a backbone source as JRN_CPL (R347, R354). `port` is where the request came
from; a report goes to the lowest port on which the source is KNOWN. -/
def State.reply (s : State) (source : Nat) (port : Option Nat) (b : List Byte) : State :=
  if source = 0 then
    if s.on Reg.JRN_CPL_CFG.EN && !s.on Reg.JRN_RING_STATUS.STOPPED && decide (0 < s.cplFree) then
      let i := s.rd Reg.JRN_CPL_TAIL.INDEX % s.cplSize
      let ph := s.rd Reg.JRN_RING_STATUS.PHASE
      let base := s.rd64 Reg.JRN_CPL_BASE_LO.ADDR Reg.JRN_CPL_BASE_HI.ADDR
      let s := s.emit (.completion (base + 32 * i) (b ++ leBytes 1 ph ++ leBytes 4 0))
      let s := s.wr Reg.JRN_CPL_TAIL.INDEX ((i + 1) % s.cplSize)
      let s := s.when (decide (i + 1 = s.cplSize)) (·.wr Reg.JRN_RING_STATUS.PHASE (1 - ph))
      { s with host := { s.host with cplPending := true } }
    else s
  else match s.partnerCfg source, (match port with | some p => some p | none => s.partnerPort source) with
    | some p, some q => s.send q 0x11 p.node (b ++ leBytes 1 0 ++ leBytes 4 0)
    | _, _ => s

/-- Bytes 0 to 107 of a record with its crc_a (Table 09-11). -/
def JrnRec.head (r : JrnRec) : List Byte :=
  let b := leBytes 4 r.seq ++ leBytes 4 r.epoch ++ leBytes 8 r.ns ++ leBytes 1 r.source ++ leBytes 1 r.opcode
    ++ leBytes 1 r.args.length ++ [0] ++ padTo 88 r.args
  b ++ leBytes 4 (crc32 b)

/-- The 128 bytes of a record (Table 09-11). -/
def JrnRec.bytes (r : JrnRec) : List Byte :=
  let e := leBytes 4 (r.frameExec.getD 0xFFFFFFFF) ++ leBytes 1 (b01 r.frameExec.isSome) ++ leBytes 1 r.result
  r.head ++ e ++ leBytes 2 (crc16 e) ++ leBytes 8 0

/-- The MRAM header (Table 09-15). -/
def State.mramHeader (s : State) (enabled : Bool) : List Byte :=
  let b := leBytes 4 0x4D524A4C ++ leBytes 1 (b01 enabled + 2 * s.rd Reg.JRN_MRAM_CFG.QUAD)
    ++ leBytes 1 (max 4 (s.rd Reg.JRN_MRAM_CFG.DIV)) ++ leBytes 2 0 ++ leBytes 4 s.epoch ++ leBytes 4 0
    ++ (upTo 16).flatMap fun n => leBytes 4 (s.rd Reg.JRN_SRC_LAST.LAST n)
  b ++ leBytes 4 (crc32 b)

/-- A write to the journal MRAM: 3-byte address, data (R224). -/
def State.mramWrite (s : State) (addr : Nat) (b : List Byte) : State := s.emit (.mram (leBytes 3 addr ++ b))

/-- Whether the mirror is enabled and good. -/
def State.mirrors (s : State) : Bool := s.on Reg.JRN_MRAM_CFG.EN && !s.journal.mramFailed

/-- MRAM_OK. -/
def State.showMram (s : State) : State := s.wr Reg.JRN_STATUS.MRAM_OK (b01 s.mirrors)

/-- A record and the header written to the mirror. -/
def State.mirrorRec (s : State) (r : JrnRec) : State :=
  if s.mirrors then (s.mramWrite (0x1000 + 128 * r.slot) r.bytes).mramWrite 0 (s.mramHeader true) else s

/-- The MRAM is marked failed (R224). -/
def State.mramFail (s : State) : State :=
  if s.journal.mramFailed then s
  else (((s.modJrn fun j => { j with mramFailed := true }).wr Reg.JRN_EVENT.MRAM_FAIL 1).raise 29 0).showMram

/-- The writes to the mirror are read back (R224): `ok` where they read as written. -/
def State.mramResult (s : State) (ok : Bool) : State := if s.mirrors && !ok then s.mramFail else s

/-- The argument length an opcode must have (Tables 09-10 and 15-3); none where no chapter assigns the opcode. -/
def argLength (opcode : Nat) (args : List Byte) : Option Nat :=
  match opcode with
  | 0x01 => some 4
  | 0x10 => some 10
  | 0x11 => some 2
  | 0x12 => some 2
  | 0x20 => some (4 + 5 * u8At args 3)
  | 0x21 => some 1
  | 0x22 => some 6
  | 0x30 => some 1
  | 0x31 => some 1
  | 0x40 => some (8 + canBytes (u8At args 3))
  | 0x41 => some 2
  | _ => none

/-- Whether an entry's format is that of its opcode (Table 09-9). -/
def formatOk (opcode length : Nat) (args : List Byte) : Bool :=
  decide (length ≤ 88) && (argLength opcode (args.take length) == some length)

/-- The seq accepted last of a source, the acceptances under way among them. -/
def State.lastSeq (s : State) (source : Nat) : Nat :=
  match (s.journal.writing.filter (·.source == source)).getLast? with
  | some r => r.seq
  | none => s.rd Reg.JRN_SRC_LAST.LAST source

/-- The slot of the halves that a new record takes (R220): the lowest that holds none, else that of the oldest retired record. -/
def State.freeSlot (s : State) : Nat :=
  let used := (s.journal.recs ++ s.journal.writing ++ s.journal.old).map (·.slot)
  match (upTo 1024).find? fun i => !used.contains i with
  | some i => i
  | none => (s.journal.old.head?.map (·.slot)).getD 0

/-- The record of a source with a seq, if it is held. -/
def State.held (s : State) (source seq : Nat) : Option JrnRec :=
  (s.journal.recs ++ s.journal.writing).find? fun r => r.source == source && r.seq == seq

/-- Whether this device holds the pair ball and has a partner link (R217, R219). -/
def State.pairEnabled (s : State) : Bool := s.on Reg.REF_PAIR.ENABLED
def State.holdsPair (s : State) : Bool := s.pairEnabled && s.on Reg.REF_PAIR.HOLDS
def State.pairPort (s : State) : Option Nat := match s.cfg.bb with | some b => b.pairPort | none => none
def State.pairNode (s : State) : Nat :=
  match s.cfg.bb with
  | some b => ((b.partners.find? fun p => hasBit p.rights 3).map (·.node)).getD 0xFF
  | none => 0xFF
def State.pairLinkUp (s : State) : Bool := match s.pairPort with | some p => s.on Reg.BB_STATUS.UP p | none => false

/-- The fixed part of a PAIR packet (Table 09-13) with `n` records after it. -/
def State.pairFixed (s : State) (n : Nat) : List Byte :=
  leBytes 1 (b01 s.holdsPair + 2 * b01 s.pair.resync) ++ leBytes 1 (s.rd Reg.REF_STATUS.STATE) ++ leBytes 2 n ++ leBytes 4 s.frameNo
    ++ leBytes 4 s.pair.txSeq ++ leBytes 4 0
    ++ (upTo 12).flatMap fun c =>
      if s.holdsPair && (s.convCfg c).isSome then
        leBytes 1 (s.rd Reg.CONV_STATE.STATE c) ++ leBytes 1 (s.rd Reg.CONV_STATE.CAUSE c) ++ leBytes 2 0 ++ leBytes 4 (s.rd Reg.CONV_RESIDUAL.E c)
      else leBytes 8 0

/-- A PAIR packet with records (R217). -/
def State.sendPair (s : State) (records : List (List Byte)) : State :=
  match s.pairPort with
  | none => s
  | some p =>
    let s := s.send p 0x02 s.pairNode (s.pairFixed records.length ++ records.flatten)
    { s with pair := { s.pair with txSeq := (s.pair.txSeq + 1) % 4294967296, resync := false } }

/-- The frame of R221: the first tick that follows an acceptance now by at least 1 µs. -/
def State.firstTickAfter (s : State) (ns : Nat) : Nat :=
  (s.frameNo + (if ns + 1000 ≤ s.fr.nextTick then 1 else 2)) % 4294967296

/-- Whether records go to the partner as well (R219). -/
def State.pairMirrors (s : State) : Bool := s.holdsPair && s.pairLinkUp && s.ticking

/-- The JOURNAL record of a PAIR packet (Table 09-14). -/
def JrnRec.pairBytes (r : JrnRec) (due : Nat) : List Byte := leBytes 1 5 ++ leBytes 1 136 ++ leBytes 2 0 ++ leBytes 4 due ++ r.bytes

/-- JOURNAL_ACCEPT (R219, Table 09-9): an entry (Table 16-3) judged. `via` is the port that delivered it, or its command ring index. In a
pair the record goes to the partner at once, with the tick at which both execute it: two ticks after that of an acceptance at this instant
(DESIGN CHOICE, assumption 35: the record leaves before its acceptance). -/
def State.judge (s : State) (source : Nat) (entry : List Byte) (via : Nat) : State :=
  let seq := u32At entry 0
  let opcode := u8At entry 8
  let length := u8At entry 9
  let args := slice entry 16 length
  let last := s.lastSeq source
  let d := signed 32 (seq + 4294967296 - last)
  let ack := fun (s : State) (status result aux ns : Nat) =>
    s.reply source (some via) (cplBytes 1 status result opcode seq s.epoch aux ns (if source = 0 then via else 0) source)
  let now := s.count
  if u32At entry 4 ≠ s.epoch then ack (s.bump Reg.JRN_BUSY.OTHER) 4 0 last now
  else if !formatOk opcode length (slice entry 16 88) then ack (s.bump Reg.JRN_BUSY.OTHER) 5 0 0 now
  else if d ≤ 0 then
    let s := s.bump Reg.JRN_REFUSE.REPEATED
    match s.held source seq with
    | some r => ack s 1 (if r.frameExec.isSome then r.result else 0xFF) (r.frameExec.getD 0xFFFFFFFF) r.ns
    | none => ack s 1 0xFF 0 now
  else if 1 < d then ack (s.bump Reg.JRN_REFUSE.GAP) 2 0 ((last + 1) % 4294967296) now
  else if 1024 ≤ s.journal.recs.length + s.journal.writing.length then
    ack ((s.bump Reg.JRN_BUSY.BUSY).wr Reg.JRN_EVENT.FULL 1) 3 0 0 now
  else
    let due := if s.pairMirrors then some ((s.firstTickAfter s.time.ns + 2) % 4294967296) else none
    let r : JrnRec := { slot := s.freeSlot, seq := seq, epoch := s.epoch, ns := now, source := source, opcode := opcode, args := args,
                        frameExec := none, result := 0, order := 0, dueFrame := due, via := via }
    let s := s.modJrn fun j => { j with writing := j.writing ++ [r] }
    match due with
    | some d => s.sendPair [r.pairBytes d]
    | none => s

/-- Source-0 completions that are still owed: a report for each accepted command, both entries for each acceptance under way (R346). -/
def State.owed (s : State) : Nat :=
  (s.journal.recs.filter fun r => r.source == 0 && r.frameExec.isNone).length + 2 * (s.journal.writing.filter (·.source == 0)).length

/-- WAIT_CPL follows the completion ring. -/
def State.showWait (s : State) : State :=
  let more := s.rd Reg.JRN_CMD_HEAD.INDEX % s.cmdSize != s.rd Reg.JRN_CMD_TAIL.INDEX % s.cmdSize
  s.wr Reg.JRN_RING_STATUS.WAIT_CPL (b01 (s.on Reg.JRN_CMD_CFG.EN && more && decide (s.cplFree < 2 + s.owed)))

/-- HOST_COMMAND_TAKE (R345, R346). -/
def State.takeCommand (s : State) (entry : List Byte) : State :=
  let h := s.rd Reg.JRN_CMD_HEAD.INDEX % s.cmdSize
  let ready := s.on Reg.JRN_CMD_CFG.EN && s.on Reg.JRN_CPL_CFG.EN && !s.on Reg.JRN_RING_STATUS.STOPPED && !s.power.held
    && s.host.linkUp
  if !ready ∨ h = s.rd Reg.JRN_CMD_TAIL.INDEX % s.cmdSize ∨ s.cplFree < 2 + s.owed then s.showWait
  else ((s.wr Reg.JRN_CMD_HEAD.INDEX ((h + 1) % s.cmdSize)).judge 0 entry h).showWait

/-- HOST_COMMAND_TAKE. -/
def execHostCommandTake (entry : List Byte) (t : Nat) (s : State) : Host.Outcome State Fault Refusal :=
  done ((s.elapse t).takeCommand entry)

/-- A record that is committed (R219, R220): held, counted, last of its source. -/
def State.holdRec (s : State) (r : JrnRec) : State :=
  let s := s.modJrn fun j => { j with recs := j.recs ++ [r], old := j.old.filter fun x => x.slot != r.slot }
  ((s.wr Reg.JRN_SRC_LAST.LAST r.seq r.source).wr Reg.JRN_ACCEPTED.COUNT ((s.rd Reg.JRN_ACCEPTED.COUNT + 1) % 4294967296)).showFill

/-- The oldest acceptance under way is not completed because a copy cannot be written (Table 09-9): BUSY; what the source has sent after
it meets a gap. -/
def State.notWritten (s : State) (r : JrnRec) : State :=
  let ack := fun (s : State) (x : JrnRec) (status aux : Nat) =>
    s.reply x.source (some x.via)
      (cplBytes 1 status 0 x.opcode x.seq s.epoch aux s.count (if x.source = 0 then x.via else 0) x.source)
  let later := s.journal.writing.filter (·.source == r.source)
  let s := ack (s.bump Reg.JRN_BUSY.BUSY) r 3 0
  let s := s.modJrn fun j => { j with writing := j.writing.filter (·.source != r.source) }
  s.each later fun s x => ack (s.bump Reg.JRN_REFUSE.GAP) x 2 r.seq

/-- JOURNAL_RECORD_COMMITTED (R219, R220, R224): the oldest acceptance under way ends. `written` where both halves and, in a pair, the
partner have the record; `ok` where the mirror read back well. -/
def State.recordCommitted (s : State) (written ok : Bool) : State :=
  match s.journal.writing with
  | [] => s
  | r :: rest =>
    let s := s.modJrn fun j => { j with writing := rest }
    if !written then (s.notWritten r).showWait
    else
      let r := if r.dueFrame.isSome then r else { r with ns := s.count }
      let s := ((s.holdRec r).mirrorRec r).mramResult ok
      let s := s.wr Reg.JRN_STATUS.PAIR_MIRROR (b01 (r.dueFrame.isSome && s.pairLinkUp))
      (s.reply r.source (some r.via)
        (cplBytes 1 0 0 r.opcode r.seq r.epoch 0 r.ns (if r.source = 0 then r.via else 0) r.source)).showWait

/-- JOURNAL_RECORD_COMMITTED. -/
def execJournalRecordCommitted (write : RecordIn) (t : Nat) (s : State) : Host.Outcome State Fault Refusal :=
  done ((s.elapse t).recordCommitted write.written write.ok)

/-- A journalled command executes: its result code and effect (Table 09-10, Table 15-3). -/
def State.runCommand (s : State) (r : JrnRec) : Nat × State :=
  let a := r.args
  match r.opcode with
  | 0x01 => s.cmdSetFramePeriod (u32At a 0)
  | 0x10 => s.cellAdmit (u16At a 0) (u64At a 2)
  | 0x11 => s.cellBypass (u16At a 0)
  | 0x12 => s.cellFaultClear (u16At a 0)
  | 0x20 => s.cmdCoeffWrite a
  | 0x21 => s.cmdBankSwap (u8At a 0)
  | 0x22 => s.cmdParamWrite a
  | 0x30 => s.cmdConvDeblock (u8At a 0)
  | 0x31 => s.cmdConvBlock (u8At a 0)
  | 0x40 => s.cmdCanQueue a r.source r.seq
  | 0x41 => s.cmdCanFlush (u8At a 0) (u8At a 1)
  | _ => (0, s)

/-- Whether a record is due at the present tick (R221, R219 in a pair). -/
def State.recDue (s : State) (r : JrnRec) : Bool :=
  match r.dueFrame with
  | some f => decide (0 ≤ frameDiff s.frameNo f)
  | none => decide (r.ns + 1000 ≤ s.tickNs)

/-- One record executed at the tick, its result written and its report sent (R221). -/
def State.executeRec (s : State) (r : JrnRec) : State :=
  let (res, s) := s.runCommand r
  let n := (s.rd Reg.JRN_EXEC.COUNT + 1) % 4294967296
  let s := s.wr Reg.JRN_EXEC.COUNT n
  let r' := { r with frameExec := some s.frameNo, result := res, order := n }
  let s := s.modJrn fun j => { j with recs := j.recs.map fun x => if x.slot = r.slot then r' else x }
  let s := s.mirrorRec r'
  s.reply r.source none (cplBytes 2 0 res r.opcode r.seq s.epoch s.frameNo s.tickNs 0xFFFF r.source)

/-- JOURNAL_EXECUTE (R221): at a tick in RUN, in order of acceptance, at most `n`; a record that is not due holds those after it. -/
def State.executeDue (s : State) : Nat → State
  | 0 => s
  | n + 1 =>
    match s.journal.recs.find? fun r => r.frameExec.isNone with
    | none => s
    | some r => if s.recDue r then (s.executeRec r).executeDue n else s

/-- JOURNAL_EXECUTE at a tick (R221); `mramOk` where the records written to the mirror read back well. -/
def State.journalTick (s : State) (mramOk : Bool) : State :=
  if s.device = stRun then
    let before := s.rd Reg.JRN_EXEC.COUNT
    let s := (s.executeDue 32).showWait
    if s.rd Reg.JRN_EXEC.COUNT = before then s else s.mramResult mramOk
  else s

/-- Records retired once the newest valid checkpoint lies beyond them (R220). Those that the other half lacks stay where a load of that
half finds them (R204). -/
def State.retire (s : State) : State :=
  match s.newest with
  | none => s
  | some i =>
    let c := s.half i
    if c.epoch ≠ s.epoch then s
    else
      let o := s.half (1 - i)
      let floor := if o.valid && o.epoch == s.epoch then o.pos else c.pos
      let out := fun (r : JrnRec) => r.frameExec.isSome && decide (r.order ≤ c.pos)
      (s.modJrn fun j =>
        { j with recs := j.recs.filter fun r => !out r,
                 old := (j.old ++ j.recs.filter out).filter fun r => decide (floor < r.order) }).showFill

/-- A new epoch (R223): every record retired, every last 0. Acceptances under way are abandoned and, in a device that runs, answered
EPOCH. -/
def State.startEpoch (s : State) (cause random : Nat) (survives : Bool) : State :=
  let old := s.epoch
  let new := if survives && decide (old ≠ 0) then (if old = 4294967295 then 1 else old + 1) else random % 4294967295 + 1
  let left := s.journal.writing
  let s := s.modJrn fun j => { j with recs := [], old := [], writing := [], epochOk := true }
  let s := ((s.wr Reg.JRN_EPOCH.EPOCH new).wr Reg.JRN_STATUS.EPOCH_CAUSE cause).wr Reg.JRN_EVENT.NEW_EPOCH 1
  let s := ((s.wr Reg.JRN_EXEC.COUNT 0).wr Reg.JRN_ACCEPTED.COUNT 0).showFill
  let s := s.each (upTo 16) fun s n => s.wr Reg.JRN_SRC_LAST.LAST 0 n
  let s := if s.mirrors then s.mramWrite 0 (s.mramHeader true) else s
  if cause = 3 ∨ cause = 4 then
    s.each left fun s r => (s.bump Reg.JRN_BUSY.OTHER).reply r.source (some r.via)
      (cplBytes 1 4 0 r.opcode r.seq new 0 s.count (if r.source = 0 then r.via else 0) r.source)
  else s

/-- NEW_EPOCH (R223): JRN_CTRL.NEW_EPOCH with UNLOCK, in KICK-OFF. -/
def State.newEpoch (s : State) (value random : Nat) (mramOk : Bool) : State :=
  if value % 2 = 1 ∧ value / 65536 % 65536 = 0x5AE1 ∧ s.device = stKickOff then
    (s.startEpoch 4 random s.journal.epochOk).mramResult mramOk
  else s

/-- NEW_EPOCH. -/
def execNewEpoch (value : Nat) (source : EpochIn) (t : Nat) (s : State) : Host.Outcome State Fault Refusal :=
  done ((s.elapse t).newEpoch value source.random source.mramOk)

/-- JRN_CPL_HEAD_WRITE (R344, R347). -/
def State.cplHeadWrite (s : State) (value : Nat) : State :=
  let s := s.wr Reg.JRN_CPL_HEAD.INDEX value
  { s with host := { s.host with cplPending := false } }.showWait

/-- JRN_CPL_HEAD_WRITE. -/
def execJrnCplHeadWrite (value : Nat) (s : State) : Host.Outcome State Fault Refusal := done (s.cplHeadWrite value)

/-- RING_RESTART (R345): a write of a ring's HI base register. -/
def State.ringRestart (s : State) (completion : Bool) (value : Nat) : State :=
  let s := if completion then
      let s := (s.takeLow Reg.JRN_CPL_BASE_LO.ADDR).wr Reg.JRN_CPL_BASE_HI.ADDR value
      (s.wr Reg.JRN_CPL_HEAD.INDEX 0).wr Reg.JRN_CPL_TAIL.INDEX 0
    else
      let s := (s.takeLow Reg.JRN_CMD_BASE_LO.ADDR).wr Reg.JRN_CMD_BASE_HI.ADDR value
      (s.wr Reg.JRN_CMD_HEAD.INDEX 0).wr Reg.JRN_CMD_TAIL.INDEX 0
  ((s.wr Reg.JRN_RING_STATUS.PHASE 1).wr Reg.JRN_RING_STATUS.STOPPED 0).showWait

/-- RING_RESTART. -/
def execRingRestart (completion : Bool) (value : Nat) (s : State) : Host.Outcome State Fault Refusal :=
  done (s.ringRestart completion value)

/-- RING_PCIE_ERROR (R348). -/
def execRingPcieError (t : Nat) (s : State) : Host.Outcome State Fault Refusal :=
  done (((s.elapse t).wr Reg.JRN_RING_STATUS.STOPPED 1).raise 30 0)

/-- QUAD and DIV of a write of JRN_MRAM_CFG. -/
def State.mramCfg (s : State) (value : Nat) : State :=
  (s.wr Reg.JRN_MRAM_CFG.QUAD (value / 2)).wr Reg.JRN_MRAM_CFG.DIV (value / 256)

/-- JRN_MRAM_ENABLE (R224): the halves are copied, slot by slot (one without a record is written as zeros: DESIGN CHOICE, assumption 36),
the header says ENABLED, the mirror resumes. -/
def State.mramEnable (s : State) (value : Nat) (readBack : Bool) : State :=
  if value % 2 = 0 then s
  else if s.on Reg.JRN_MRAM_CFG.EN then s.mramCfg value
  else
    let s := ((s.mramCfg value).wr Reg.JRN_MRAM_CFG.EN 1).modJrn fun j => { j with mramFailed := false }
    let slot := fun i => match (s.journal.recs ++ s.journal.old).find? fun r => r.slot == i with
      | some r => r.bytes
      | none => List.replicate 128 0
    let s := s.each (upTo 1024) fun s i => s.mramWrite (0x1000 + 128 * i) (slot i)
    let s := (s.mramWrite 0 (s.mramHeader true)).showMram
    if readBack then s else s.mramFail

/-- JRN_MRAM_ENABLE. -/
def execJrnMramEnable (value : Nat) (readBack : Bool) (t : Nat) (s : State) : Host.Outcome State Fault Refusal :=
  done ((s.elapse t).mramEnable value readBack)

/-- JRN_MRAM_DISABLE (R224): the header says ENABLED = 0 before the mirror stops. -/
def State.mramDisable (s : State) (value : Nat) (readBack : Bool) : State :=
  if value % 2 = 1 ∨ !s.on Reg.JRN_MRAM_CFG.EN then s
  else
    let s := s.mramWrite 0 (s.mramHeader false)
    let s := if readBack then s else s.mramFail
    ((s.mramCfg value).wr Reg.JRN_MRAM_CFG.EN 0).showMram

/-- JRN_MRAM_DISABLE. -/
def execJrnMramDisable (value : Nat) (readBack : Bool) (t : Nat) (s : State) : Host.Outcome State Fault Refusal :=
  done ((s.elapse t).mramDisable value readBack)

/-- HALFn_OK. -/
def State.showHalves (s : State) : State :=
  (s.wr Reg.JRN_STATUS.HALF0_OK (b01 !(s.journal.badHalves.contains 0))).wr Reg.JRN_STATUS.HALF1_OK (b01 !(s.journal.badHalves.contains 1))

/-- An uncorrectable error in one half (R225): marked until the half has been rewritten, and a contained fault. -/
def State.halfBad (s : State) (h : Nat) : State :=
  let s := (s.modJrn fun j => { j with badHalves := j.badHalves.filter (· != h) ++ [h] }).showHalves
  (s.wr Reg.JRN_EVENT.HALF_FAIL 1).raise 28 h

/-- JRN_HALF_REBUILT (R225). -/
def execJrnHalfRebuilt (half : Fin 2) (s : State) : Host.Outcome State Fault Refusal :=
  done ((s.modJrn fun j => { j with badHalves := j.badHalves.filter (· != half.val) }).showHalves)

/-- A record read from the MRAM at `slot` (R224), where its crc_a is correct and its epoch that of the header. -/
def mramRec (b : List Byte) (slot epoch : Nat) : Option JrnRec :=
  let x := slice b (0x1000 + 128 * slot) 128
  if x.length = 128 ∧ crc32 (x.take 108) = u32At x 108 ∧ u32At x 4 = epoch then
    let ran := u8At x 116 = 1 ∧ crc16 (slice x 112 6) = u16At x 118
    some { slot := slot, seq := u32At x 0, epoch := epoch, ns := u64At x 8, source := u8At x 16 % 16, opcode := u8At x 17,
           args := slice x 20 (min 88 (u8At x 18)), frameExec := if ran then some (u32At x 112) else none,
           result := if ran then u8At x 117 else 0, order := 0, dueFrame := none, via := 0 }
  else none

/-- Insertion by time of acceptance. -/
def insertByNs (r : JrnRec) : List JrnRec → List JrnRec
  | [] => [r]
  | x :: t => if r.ns < x.ns then r :: x :: t else x :: insertByNs r t

/-- The executed records numbered in order. -/
def numberExecuted : List JrnRec → Nat → List JrnRec
  | [], _ => []
  | r :: t, n => if r.frameExec.isSome then { r with order := n + 1 } :: numberExecuted t (n + 1) else r :: numberExecuted t n

/-- MRAM_RESTORE (R224): after a POR of the keep domain, both halves empty. -/
def State.mramRestore (s : State) (mram : Option (List Byte)) (random : Nat) : State :=
  match mram with
  | none => s.startEpoch 1 random false
  | some b =>
    let bad := decide (u32At b 0 ≠ 0x4D524A4C) || decide (crc32 (b.take 80) ≠ u32At b 80)
    if bad then s.startEpoch 2 random false
    else if u8At b 4 % 2 = 0 then s.startEpoch 1 random false
    else
      let epoch := u32At b 8
      let s := (s.wr Reg.JRN_MRAM_CFG.EN 1).wr Reg.JRN_MRAM_CFG.QUAD (u8At b 4 / 2)
      let s := (s.wr Reg.JRN_MRAM_CFG.DIV (u8At b 5)).wr Reg.JRN_EPOCH.EPOCH epoch
      let s := s.each (upTo 16) fun s n => s.wr Reg.JRN_SRC_LAST.LAST (u32At b (16 + 4 * n)) n
      let recs := numberExecuted ((upTo 1024).foldl (fun l i => match mramRec b i epoch with | some r => insertByNs r l | none => l) []) 0
      let s := s.modJrn fun j => { j with recs := recs, old := [], writing := [], mramFailed := false, epochOk := true }
      let s := (s.wr Reg.JRN_EXEC.COUNT (recs.filter (·.frameExec.isSome)).length).wr Reg.JRN_ACCEPTED.COUNT recs.length
      ((s.showFill).showMram).wr Reg.JRN_EVENT.RESTORED 1

end Sys2Proof.Machine
end

