-- ==== Sys2Proof/Machine/Pair.lean ====
section
/-! DEFINITION. Device pairs (09_redundancy_journal.md, R216 to R218): the pair ball, pair messages and what the partner does with
them. -/

namespace Sys2Proof.Machine

/-- The pair record changed. -/
def State.modPairSt (s : State) (f : PairSt → PairSt) : State := { s with pair := f s.pair }

/-- Whether no pair message has arrived for 4 frames (R216). -/
def State.pairSilent (s : State) : Bool := decide (4 ≤ s.pair.silent)

/-- Whether the conditions for holding the pair ball hold, by the last two samples and the last message (R216). -/
def State.pairWants (s : State) : Bool := s.on Reg.REF_PAIR.REF_IN && s.pair.refPrev

/-- PARTNER_HOLDS stands in the way: a message that is not silent says that the partner holds. -/
def State.partnerBars (s : State) : Bool := s.on Reg.REF_PAIR.PARTNER_HOLDS && !s.pairSilent

/-- LINK_OK. -/
def State.showPairLink (s : State) : State := s.wr Reg.REF_PAIR.LINK_OK (b01 (decide (8 ≤ s.pair.msgFrames)))

/-- REF_IN sampled at T_RANK_END, messages of the frame counted, the conflict of R216 found. -/
def State.sampleRefIn (s : State) (level : Bool) : State :=
  if !s.pairEnabled then s
  else
    let prev := s.on Reg.REF_PAIR.REF_IN
    let s := s.wr Reg.REF_PAIR.REF_IN (b01 level)
    let s := s.modPairSt fun p =>
      { p with refPrev := prev, arrived := false, msgFrames := if p.arrived then min 8 (p.msgFrames + 1) else 0,
               silent := if p.arrived then 0 else min 4 (p.silent + 1) }
    let s := s.showPairLink
    let now := level && s.partnerBars
    let s := if now && !s.pair.conflict then
        ((s.bump Reg.REF_PAIR.CONFLICTS).wr Reg.REF_EVENT.PAIR_CONFLICT 1).raise 24 0
      else s
    s.modPairSt fun p => { p with conflict := now }

/-- Whether REF_OUT toggles (R216). -/
def State.refToggles (s : State) : Bool :=
  s.pairEnabled && decide (s.device = stRun) && s.referee.ball && s.referee.renewed && !s.on Reg.FAULT_STATE.FATAL
    && (s.on Reg.REF_PAIR.HOLDS || decide (8 ≤ s.pair.msgFrames))

/-- The pair at a tick: the sample takes effect, REF_OUT toggles (R216). A new holder's next latch is a re-entry (R218). -/
def State.pairTick (s : State) : State :=
  if !s.pairEnabled then s
  else
    let holds := s.pairWants && !s.partnerBars
    let was := s.on Reg.REF_PAIR.HOLDS
    let s := if holds != was then
        ((s.wr Reg.REF_PAIR.HOLDS (b01 holds)).bump Reg.REF_PAIR.MOVES).wr Reg.REF_EVENT.PAIR_MOVE 1
      else s
    let s := if holds && !was then
        s.each s.cfg.arms fun s a => s.modArm a.arm fun x =>
          if x.coastRun = 0 then { x with thetaCoast := angle ((x.blk.theta : Int) - x.e), coastRun := 1 } else x
      else s
    let go := s.refToggles
    (s.wr Reg.REF_PAIR.REF_OUT (b01 go)).modPairSt fun p => { p with refOut := go && !p.refOut }

/-- PAIR_SILENCE (R216): the messages of 4 frames are missing; the next tick may take the pair ball. -/
def State.pairSilence (s : State) : State :=
  if s.pairEnabled && !s.pair.arrived && decide (3 ≤ s.pair.silent) then (s.modPairSt fun p => { p with silent := 4, msgFrames := 0 }).showPairLink
  else s

/-- PAIR_SILENCE. -/
def execPairSilence (t : Nat) (s : State) : Host.Outcome State Fault Refusal := done (s.elapse t).pairSilence

/-! ### Sending -/

/-- CELL records of the declared cells (Table 09-14), by key. -/
def State.pairCells (s : State) : List (Nat × List Byte) := s.cellList.map fun n =>
  (65536 + n, leBytes 1 1 ++ leBytes 1 16 ++ leBytes 2 n ++ leBytes 1 (s.cstate n) ++ leBytes 1 (s.rd Reg.CELL_STATE.REASON n) ++ leBytes 2 0
    ++ leBytes 8 (s.rd64 Reg.TS_RECORDED_LO.IDENTITY Reg.TS_RECORDED_HI.IDENTITY n))

/-- CHAIN records. -/
def State.pairChains (s : State) : List (Nat × List Byte) := s.cfg.chains.map fun cc =>
  let c := cc.chain
  (2 * 65536 + c, leBytes 1 2 ++ leBytes 1 16 ++ leBytes 1 c ++ leBytes 1 (s.split c) ++ leBytes 1 (s.gap c)
    ++ leBytes 1 (b01 (s.chain c).extra) ++ leBytes 2 0
    ++ leBytes 8 ((s.chain c).down % 2 ^ 33))

/-- DELAY records. -/
def State.pairDelays (s : State) : List (Nat × List Byte) := s.cfg.chains.flatMap fun cc =>
  [2 * cc.chain, 2 * cc.chain + 1].flatMap fun lane => (upTo 32).map fun q =>
    (3 * 65536 + 32 * lane + q, leBytes 1 3 ++ leBytes 1 8 ++ leBytes 1 lane ++ leBytes 1 q ++ leBytes 2 (s.rd Reg.LANE_DELAY.D lane q)
      ++ leBytes 1 (s.rd Reg.LANE_DELAY.VALID lane q) ++ leBytes 1 0)

/-- UPBASE records. -/
def State.pairBases (s : State) : List (Nat × List Byte) := s.laneList.map fun lane =>
  (4 * 65536 + lane, leBytes 1 4 ++ leBytes 1 8 ++ leBytes 1 lane ++ leBytes 1 0 ++ leBytes 2 (s.rd Reg.LANE_UPBASE.U lane) ++ leBytes 2 0)

/-- Records cut into packets of at most 912 bytes after the fixed part (R217, R351). -/
def packRecords : List (List Byte) → List (List Byte) → List (List (List Byte))
  | [], open_ => [open_]
  | r :: t, open_ => if open_.flatten.length + r.length ≤ 912 then packRecords t (open_ ++ [r]) else open_ :: packRecords t [r]

/-- PAIR_MESSAGE_SEND (R217): the holder's items that changed, or all of them in a frame after the one that asked for them; the other device the fixed part alone. -/
def State.pairSend (s : State) : State :=
  if !s.pairEnabled || !s.pairLinkUp then s
  else if !s.holdsPair then s.sendPair []
  else
    let items := s.pairCells ++ s.pairChains ++ s.pairDelays ++ s.pairBases
    let full := match s.pair.full with
      | some k => k != s.frameNo
      | none => false
    let changed := items.filter fun p => full || Tbl.look [] s.pair.told p.1 != p.2
    let s := s.modPairSt fun p => { p with full := if full then none else p.full, told := changed.foldl (fun t x => Tbl.put [] t x.1 x.2) p.told }
    s.each (packRecords (changed.map (·.2)) []) fun s l => s.sendPair l

/-! ### Receiving -/

/-- A JOURNAL record of the partner, committed at its arrival (R219, Table 09-14). -/
def State.pairJournal (s : State) (b : List Byte) (mramOk : Bool) : State :=
  let x := slice b 8 128
  let r : JrnRec :=
    { slot := s.freeSlot, seq := u32At x 0, epoch := u32At x 4, ns := u64At x 8, source := u8At x 16 % 16, opcode := u8At x 17,
      args := slice x 20 (min 88 (u8At x 18)), frameExec := none, result := 0, order := 0, dueFrame := some (u32At b 4), via := 0 }
  if s.holdsPair || (s.held r.source r.seq).isSome || decide (1024 ≤ s.journal.recs.length + s.journal.writing.length) then s
  else (((s.holdRec r).mirrorRec r).mramResult mramOk).wr Reg.JRN_STATUS.PAIR_MIRROR 1

/-- The records that follow a fixed part, cut by their length bytes; `n` bounds their number. -/
def pairRecords : Nat → List Byte → List (List Byte)
  | 0, _ => []
  | n + 1, b => if u8At b 1 = 0 then [] else b.take (u8At b 1) :: pairRecords n (b.drop (u8At b 1))

/-- Whether the latest HELLO of the pair partner carries this device's own image_id (R354). -/
def State.pairSameImage (s : State) : Bool :=
  match s.cfg.bb with
  | none => false
  | some b =>
    match b.partners.find? fun p => hasBit p.rights 3 with
    | some p => (Tbl.look default s.host.partners p.source).imageId == some s.cfg.imageId
    | none => false

/-- PAIR_PACKET (R217): the fixed part is taken at once, JOURNAL records too, the other items in the rank window of the next frame. -/
def State.pairPacket (s : State) (port src : Nat) (b : List Byte) (mramOk : Bool) : State :=
  if !s.pairEnabled || s.pairPort ≠ some port || src ≠ s.pairNode || !s.pairLinkUp || !s.pairSameImage || b.length < 112 then s
  else
    let seq := u32At b 8
    let gap := match s.pair.rxSeq with
      | some x => decide ((x + 1) % 4294967296 ≠ seq)
      | none => false
    let s := s.wr Reg.REF_PAIR.PARTNER_HOLDS (u8At b 0)
    let s := s.modPairSt fun p =>
      { p with arrived := true, rxSeq := some seq, resync := p.resync || gap, full := if hasBit (u8At b 0) 1 then some (p.full.getD s.frameNo) else p.full,
               partnerState := u8At b 1, waiting := p.waiting ++ [(s.frameNo, b)] }
    let s := s.wr Reg.BB_STATUS.RX_IDLE 0 port
    s.each ((pairRecords (u16At b 2) (b.drop 112)).filter fun r => u8At r 0 == 5) fun s r => s.pairJournal r mramOk

/-- PAIR_PACKET; `mramOk` where the records it brings read back well from the mirror. -/
def execPairPacket (port : Fin 4) (src : Nat) (packet : PairIn) (t : Nat) (s : State) :
    Host.Outcome State Fault Refusal :=
  done ((s.elapse t).pairPacket port.val src packet.payload packet.mramOk)

/-- One item of the holder applied by its partner (R217). -/
def State.pairItem (s : State) (b : List Byte) : State :=
  match u8At b 0 with
  | 1 =>
    let n := u16At b 2
    if (s.cellCfg n).isNone then s
    else
      let s := s.wr64 Reg.TS_RECORDED_LO.IDENTITY Reg.TS_RECORDED_HI.IDENTITY (u64At b 8) n
      if s.cstate n = u8At b 4 then s
      else if u8At b 4 = csBypassed then s.bypass n (u8At b 5)
      else s.setCell n (u8At b 4) (u8At b 5)
  | 2 =>
    let c := u8At b 2
    if (s.chainCfg c).isNone then s
    else
      let s := (s.wr Reg.LANE_CHAIN.SPLIT (u8At b 3) (2 * c)).wr Reg.LANE_CHAIN.GAP (u8At b 4) (2 * c)
      let s := s.modChain c fun x => { x with next := none, before := none, extra := u8At b 5 % 2 == 1, down := u64At b 8 % 2 ^ 33 }
      let s := if c < 32 then s.wrBit Reg.CELL_UNROSTERED_LO.CHAINS c (u8At b 5 % 2 == 1)
        else s.wrBit Reg.CELL_UNROSTERED_HI.CHAINS (c - 32) (u8At b 5 % 2 == 1)
      (s.showDown c).planChain c
  | 3 =>
    let lane := u8At b 2
    if s.laneDeclared lane && decide (u8At b 3 < 32) then s.setDelay lane (u8At b 3) (if u8At b 6 % 2 = 1 then some (u16At b 4) else none) else s
  | 4 =>
    let lane := u8At b 2
    if s.laneDeclared lane then s.wr Reg.LANE_UPBASE.U (u16At b 4) lane else s
  | _ => s

/-- The converters of the holder's fixed part applied (Table 09-13). -/
def State.pairConvs (s : State) (b : List Byte) : State :=
  s.each s.cfg.convs fun s v =>
    let c := v.conv
    let s := if s.cvState c = u8At b (16 + 8 * c) then s else s.setConv c (u8At b (16 + 8 * c))
    let s := s.wr Reg.CONV_STATE.CAUSE (u8At b (17 + 8 * c)) c
    (s.each (s.convArms c) fun s a => s.modArm a fun x => { x with e := s32At b (20 + 8 * c) }).showResidual c

/-- The holder's items that arrived in an earlier frame, applied in this rank window by the device without the pair ball (R217). -/
def State.pairApply (s : State) : State :=
  let due := s.pair.waiting.filter fun p => p.1 != s.frameNo
  let s := s.modPairSt fun p => { p with waiting := p.waiting.filter fun x => x.1 == s.frameNo }
  if !s.pairEnabled || s.holdsPair then s
  else
    s.each due fun s p =>
      let b := p.2
      if u8At b 0 % 2 = 0 then s
      else s.each (pairRecords (u16At b 2) (b.drop 112)) (fun s r => s.pairItem r) |>.pairConvs b

end Sys2Proof.Machine
end

