-- ==== Sys2Proof/Machine/Reset.lean ====
section
/-! DEFINITION. The resets (17_faults.md, R368 to R371; 18_power_clocks_thermal.md, R372, R377, R378; R14): what a DEV reset and a POR
restore, RESET_N, the soft reset, and kick-off from POR to step 2. -/

namespace Sys2Proof.Machine

/-- The power record changed. -/
def State.modPower (s : State) (f : PowerSt → PowerSt) : State := { s with power := f s.power }

/-- A drive unit at a DEV reset of the logic side: the drive side keeps its supply, its shutdown latch and its band; the gate-command
channel falls silent, and the gates are off (R18, R35). The levels of its trip inputs are outside the device. -/
def DrvSt.afterReset (d : DrvSt) : DrvSt :=
  { (default : DrvSt) with
    otLatch := d.otLatch, vdrv := d.vdrv, band := d.band, inputs := d.inputs,
    legs := (upTo 4).foldl (fun t x => Tbl.put default t x { (default : LegSt) with waitEdge := true }) [] }

/-- The drive sides of every unit at a DEV reset. -/
def resetDrives (t : Tbl DrvSt) : Tbl DrvSt := (upTo 4).foldl (fun r u => Tbl.put default r u (Tbl.look default t u).afterReset) []

/-- The power controller at a DEV reset: the rails stay as they are, except those of the two planes (the referee is in SETUP). -/
def PowerSt.afterReset (p : PowerSt) : PowerSt :=
  { p with step := 0, held := true, bridge := false, fallRun := 0, fallDeep := 0, riseSince := none, hotSince := none, coolSince := none,
           headroomValid := false, step6 := 0, entry := none, pgood := clrBit (clrBit p.pgood 2) 3, trimInForce := [], relocking := 0,
           lost := 0, dead := 0, analogOff := false, bbOff := false, dormantExit := false, sensorBad := 0 }

/-- The journal after a DEV reset (R222): what waits executes from the first tick of RUN, in order; frame numbers begin again, so that a
frame agreed with a partner no longer means anything. -/
def JrnSt.afterReset (j : JrnSt) : JrnSt :=
  { j with recs := j.recs.map fun r => { r with dueFrame := none }, writing := j.writing.map fun r => { r with dueFrame := none } }

/-- The outputs of the collector while a DEV reset is held (R368, R369). -/
def State.holdOutputs (s : State) : State := (s.wr Reg.FAULT_STATE.FAULT_N 0).wr Reg.FAULT_STATE.ALIVE_RUN 0

/-- DEV_RESET asserted (R14, R378): everything but the keep domain and the drive sides. `eof` names the controllers whose transmission
has passed the sixth bit of end-of-frame (R333). Events raised before it reach the collector first; a thermal shutdown stays fatal
(R367); a SAFETY section stays in force in SAFE_B (R301), whose failed diagnostic clears (R302). -/
def State.devReset (s : State) (announce : Bool) (eof : Nat) : State :=
  let s := s.collectAll (2 * s.faults.waiting.length + 4)
  let s := s.each (upTo 4) fun s n => s.canReset n (hasBit eof n)
  let s := s.when announce (·.announceStop)
  let s :=
    { s with
      regs := [], hold := [], wrHold := [], power := s.power.afterReset,
      faults := { (default : FaultSt) with waiting := s.faults.waiting },
      host := default, load := default, cfg := { (default : Cfg) with safety := s.cfg.safety }, fr := default, lanes := [], chains := [],
      cells := [], arms := [], engs := [], convs := [],
      journal := s.journal.afterReset,
      referee := { (default : RefSt) with half0 := s.referee.half0, half1 := s.referee.half1 },
      pair := default, adc := default, drives := resetDrives s.drives, motors := [],
      safety := { s.safety with a := default, b := { s.safety.b with diag := 0 }, mirrorOut := 0 }, eths := [], cans := [] }
  let s := s.holdOutputs
  let s := s.when (s.on Reg.THERMAL_STATUS.SHUT_LATCH) (·.wr Reg.FAULT_STATE.FATAL 1)
  s.showSafe

/-- The executions of a tick of RUN that falls into the keep-clock cycle of this instant (R221): they and their records precede a DEV reset
of that cycle. The cycles of the 32 MHz keep oscillator are counted from time 0 (DESIGN CHOICE, assumption 37). -/
def State.lastExecutions (s : State) : State :=
  if s.ticking && decide (s.device = stRun) && decide (s.time.ns ≤ s.fr.nextTick)
      && decide (s.fr.nextTick * 4 / 125 = s.time.ns * 4 / 125) then
    let s := s.wr Reg.FRAME_NO.FRAME_NO ((s.frameNo + 1) % 4294967296)
    (s.wr64 Reg.FRAME_TICK_NS_LO.TICK_NS Reg.FRAME_TICK_NS_HI.TICK_NS (s.count + (s.fr.nextTick - s.time.ns))).journalTick true
  else s

/-- What the assertion of a DEV reset records: whether the fatal state was in force (RESET_CAUSE), once the events raised before it have
reached the collector. The executions of a tick of the same keep-clock cycle come first. -/
def State.resetBegins (s : State) : State :=
  let s := s.lastExecutions
  let s := s.collectAll (2 * s.faults.waiting.length + 4)
  s.wr Reg.RESET_CAUSE.FATAL_BEFORE (s.rd Reg.FAULT_STATE.FATAL)

/-- What is latched of a DEV reset: its cause and its number. -/
def State.resetLatched (s : State) (cause : Nat) : State := (s.wr Reg.RESET_CAUSE.CAUSE cause).bump Reg.RESET_CAUSE.COUNT

/-- The register view of the PGOOD flags (Table 10-5). -/
def State.showPgood (s : State) : State := s.wr Reg.POWER_PGOOD.PGOOD (bitsOf s.power.pgood 2 18)

/-- The rails that VIN makes, by supply monitor (Tables 18-1 and 10-5). -/
def vinRails : List Nat := (upTo 20).drop 2

/-- The domains that DORMANT switches off are on again, DRAM has left self-refresh, and step 9 of kick-off is repeated (R390). -/
def State.dormantPowered (s : State) : State :=
  let s := (s.modPower fun p => { p with step := 9, analogOff := false, bbOff := false })
  let s := ((s.wr Reg.DOMAIN_STATE.FABRIC 1).wr Reg.DOMAIN_STATE.LANE_PHY 1).wr Reg.DOMAIN_STATE.BB_PHY 1
  ((s.wr Reg.DOMAIN_STATE.ANALOG 1).wr Reg.DOMAIN_STATE.DRAM_SR 0).wr Reg.DOMAIN_STATE.DRAM_ACTIVE (b01 s.load.dram)

/-- Step 2 of kick-off completes where every VIN rail reports PGOOD and RESET_N is high (R65, R370); step 3 begins, with the PRE
values applied (R381). In an exit from DORMANT, where the PLLs have kept running, step 9 follows (R390). -/
def State.kickStep2 (s : State) : State :=
  if s.power.step = 2 ∧ s.power.resetLowSince.isNone ∧ vinRails.all (hasBit s.power.pgood) then
    if s.power.dormantExit then s.dormantPowered else s.modPower fun p =>
      { p with step := 3, preInForce := (upTo 4).foldl (fun t n => Tbl.put 0 t n (s.rd Reg.CLOCK_PLL_CFG.PRE n)) p.preInForce }
  else s

/-- Kick-off begins at step 2 (R68). -/
def State.kickFrom2 (s : State) : State := (s.modPower fun p => { p with step := 2 }).showPgood.kickStep2

/-- KEEP_ONLY_ENTRY (R376, R377): DEV reset asserted, every VIN rail off. -/
def State.enterKeepOnly (s : State) (announce thermal : Bool) : State :=
  let s := (s.resetBegins.devReset announce 0).wr Reg.POWER_STATE.STATE stKeepOnly
  (s.modPower fun p => { p with pgood := 0, keepOnlyAt := s.time.ns, thermalEntry := thermal }).showPgood

/-- SUPPLY_POR (R372, R378): the POR resets everything; the drive sides, whose supplies are their own, keep what R393 latches. `porN` where the
POR_N ball starts it. -/
def State.supplyPor (s : State) (porN : Bool) : State :=
  { (default : State) with
    silicon := s.silicon, fuses := s.fuses, out := s.out, drawn := s.drawn, pending := s.pending,
    time := { (default : TimeSt) with ns := s.time.ns }, drives := resetDrives s.drives,
    power := { (default : PowerSt) with held := true, fresh := true, resetSrc := b01 porN, resetLowSince := s.power.resetLowSince,
                                        wakeNLow := s.power.wakeNLow, sinceVdrvLow := s.power.sinceVdrvLow } }

/-- SUPPLY_POR. -/
def execSupplyPor (t : Nat) (porN : Bool) (s : State) : Host.Outcome State Fault Refusal := done ((s.elapse t).supplyPor porN)

/-- POR_RELEASE (R65, step 1; R370): the keep domain runs, RESET_CAUSE is latched, the journal is restored from the MRAM or begins anew
(R224); the device waits in KEEP-ONLY for R377. -/
def State.porRelease (s : State) (refsel : Nat) (mram : Option (List Byte)) (random : Nat) : State :=
  if s.power.supplied then s
  else
    let s := s.modPower fun p =>
      { p with supplied := true, keepOnlyAt := s.time.ns, resetLowSince := p.resetLowSince.map fun _ => s.time.ns }
    let s := (s.wr Reg.RESET_CAUSE.CAUSE s.power.resetSrc).wr Reg.CLOCK_REF.REFSEL (min 2 refsel)
    let s := (s.wr Reg.POWER_STATE.STATE stKeepOnly).holdOutputs
    s.mramRestore mram random

/-- POR_RELEASE. -/
def execPorRelease (t : Nat) (refsel : Fin 4) (mram : Option (List Byte)) (random : Nat) (s : State) : Host.Outcome State Fault Refusal :=
  done ((s.elapse t).porRelease refsel.val mram random)

/-- RESET_N_ASSERT (R370): RESET_N has been low for 1 µs: a DEV reset begins and is held. Kick-off will start again at step 2; in
KEEP-ONLY with no wake under way the device stays there. A device wake that failed for good is forgotten (R389). -/
def State.resetNAssert (s : State) (eof : Nat) : State :=
  let s := s.modPower fun p => { p with resetLowSince := some s.time.ns, wakeFailed := false }
  if !s.power.supplied then s
  else
    let waits := decide (s.device = stKeepOnly) && decide (s.power.step = 0)
    let s := s.resetBegins.devReset true eof
    if waits then s
    else
      let s := s.when (decide (s.device ≠ stKeepOnly)) (·.wr Reg.POWER_STATE.STATE stKickOff)
      (s.wr Reg.POWER_STATE.WAKE_TRIES 0).kickFrom2

/-- RESET_N_ASSERT. -/
def execResetNAssert (t : Nat) (endOfFrame : Fin 16) (s : State) : Host.Outcome State Fault Refusal :=
  done ((s.elapse t).resetNAssert endOfFrame.val)

/-- RESET_N_RELEASE (R370): the low time and the cause are latched, and kick-off goes on. A low of less than 1 µs after a POR is
ignored. -/
def State.resetNRelease (s : State) : State :=
  match s.power.resetLowSince with
  | none => s
  | some a =>
    let s := s.modPower fun p => { p with resetLowSince := none }
    if !s.power.supplied then s
    else
      let low := s.time.ns - a
      let s := if s.power.fresh && decide (a = s.power.keepOnlyAt ∧ low < 1000) then s
        else (s.resetLatched 2).wr Reg.RESET_HELD_MS.MS (min 4294967295 (low / 1000000))
      s.kickStep2

/-- RESET_N_RELEASE. -/
def execResetNRelease (t : Nat) (s : State) : Host.Outcome State Fault Refusal := done (s.elapse t).resetNRelease

/-- SOFT_RESET (R371): a write of FAULT_SOFT_RESET with GO and the key: a DEV reset of 10 µs with cause SOFT. -/
def State.softReset (s : State) (value eof : Nat) : State :=
  if !(hasBit value 0 && bitsOf value 16 16 == 0x5D0F) || s.power.held then s
  else ((((s.resetBegins.devReset true eof).resetLatched 3).wr Reg.POWER_STATE.STATE stKickOff).wr Reg.POWER_STATE.WAKE_TRIES 0).kickFrom2

/-- SOFT_RESET. -/
def execSoftReset (value t : Nat) (endOfFrame : Fin 16) (s : State) : Host.Outcome State Fault Refusal :=
  done ((s.elapse t).softReset value endOfFrame.val)

/-- Whether the conditions of R377 hold. -/
def State.mayWake (s : State) : Bool :=
  let delay := clampN 10 3600 (s.rd Reg.THERMAL_REWAKE.SECONDS) * 1000000000
  (match s.power.goodSince with
    | some a => decide (a + 100000000 ≤ s.time.ns)
    | none => false)
  && !s.on Reg.THERMAL_STATUS.SHUT_LATCH && (!s.power.thermalEntry || decide (s.power.keepOnlyAt + delay ≤ s.time.ns))

/-- KEEP_ONLY_EXIT (R377): the wake logic starts kick-off at step 2. The first start after a POR keeps the POR's cause. -/
def State.keepOnlyExit (s : State) : State :=
  if s.device ≠ stKeepOnly ∨ s.power.step ≠ 0 ∨ s.power.wakeFailed ∨ !s.mayWake then s
  else
    let first := s.power.fresh
    let src := if first then 0 else if s.power.thermalEntry then 2 else 1
    let s := (s.wr Reg.POWER_STATE.WAKE_SRC src).wr Reg.POWER_STATE.WAKE_TRIES 0
    let s := s.when (!first) (·.resetLatched 4)
    (s.modPower fun p => { p with fresh := false }).kickFrom2

/-- KEEP_ONLY_EXIT. -/
def execKeepOnlyExit (t : Nat) (s : State) : Host.Outcome State Fault Refusal := done (s.elapse t).keepOnlyExit

end Sys2Proof.Machine
end

