-- ==== Sys2Proof/Machine/Power.lean ====
section
/-! DEFINITION. Supplies, clocks and power states (18_power_clocks_thermal.md, R372 to R390): rails and PLLs, wake failures, VIN shedding, DORMANT
and its handshake, and the clock commands. -/

namespace Sys2Proof.Machine

/-! ### Rails and PLLs -/

/-- The ANALOG domain is back on once AVDD and VREF are good (Table 18-1); REF_AUTO enables the reference again (R228). -/
def State.analogBack (s : State) : State :=
  if s.power.analogOff && !s.on Reg.POWER_DOMAIN_CTRL.ANALOG_OFF && hasBit s.power.pgood 16 && hasBit s.power.pgood 17 then
    let s := (s.modPower fun p => { p with analogOff := false }).wr Reg.DOMAIN_STATE.ANALOG 1
    s.when (s.on Reg.ADC_REF.AUTO) (·.refEnable)
  else s

/-- The BB_PHY domain is back on once VSD_BB is good. -/
def State.bbBack (s : State) : State :=
  if s.power.bbOff && !s.on Reg.POWER_DOMAIN_CTRL.BB_PHY_OFF && hasBit s.power.pgood 12 then
    (s.modPower fun p => { p with bbOff := false }).wr Reg.DOMAIN_STATE.BB_PHY 1
  else s

/-- Whether a rail is switched on now: its domain is on or being powered (Table 18-1). -/
def State.railWanted (s : State) (m : Nat) : Bool :=
  if !s.power.supplied || !vinRails.contains m then false
  else if s.power.held then decide (2 ≤ s.power.step)
  else if m = 2 ∨ m = 3 then
    let r := s.role (m - 2)
    r == roWaking || r == roShadow || r == roActive || decide (s.power.dormantExit ∧ s.power.step = 2)
  else if s.device = stDormant then s.power.dormantExit
  else if m = 16 ∨ m = 17 then !s.power.analogOff || !s.on Reg.POWER_DOMAIN_CTRL.ANALOG_OFF
  else if m = 12 then !s.power.bbOff || !s.on Reg.POWER_DOMAIN_CTRL.BB_PHY_OFF
  else true

/-- RAIL_PGOOD (R373, R389): the rail of supply monitor m reports PGOOD. -/
def State.railPgood (s : State) (m : Nat) : State :=
  if !s.railWanted m then s
  else
    let s := (s.modPower fun p => { p with pgood := setBit p.pgood m }).showPgood
    let s := if m = 2 ∨ m = 3 then s.planePgood (m - 2) else s
    s.analogBack.bbBack.kickStep2

/-- RAIL_PGOOD. -/
def execRailPgood (monitor : Fin 24) (t : Nat) (s : State) : Host.Outcome State Fault Refusal := done ((s.elapse t).railPgood monitor.val)

/-- PRE as it acts: 3 acts as 0. -/
def preActs (v : Nat) : Nat := if v = 3 then 0 else v

/-- TRIM as it acts: −500 to 500 ppm, values outside as the nearer bound. -/
def trimActs (v : Nat) : Int := clampI (-500) 500 (signed 11 v)

/-- Whether a PLL has a staged value that differs from the value in force (CLOCK_PLL_STATUS.STAGED). -/
def State.pllStaged (s : State) (n : Nat) : Bool :=
  preActs (s.rd Reg.CLOCK_PLL_CFG.PRE n) != preActs (Tbl.look 0 s.power.preInForce n)
    || trimActs (s.rd Reg.CLOCK_PLL_TRIM.TRIM n) != trimActs (Tbl.look 0 s.power.trimInForce n)

/-- STAGED of every PLL. -/
def State.showStaged (s : State) : State := s.each (upTo 4) fun s n => s.wr Reg.CLOCK_PLL_STATUS.STAGED (b01 (s.pllStaged n)) n

/-- LOCK of a PLL, and the feedback count of its last window, a free value. -/
def State.pllLocked (s : State) (n : Nat) : State :=
  let (f, s) := s.draw
  (s.wr Reg.CLOCK_PLL_STATUS.LOCK 1 n).wr Reg.CLOCK_PLL_STATUS.COUNT f n

/-- The PLLs relocking for CLOCK_GO are done (R381). -/
def State.goDone (s : State) : State :=
  if s.on Reg.CLOCK_GO.GO && decide (s.power.relocking = 0) then ((s.wr Reg.CLOCK_GO.GO 0).evBit Reg.CLOCK_EVENT.EVENTS 3).showStaged else s

/-- PLL_LOCK (R380, R381, R383): at step 3 of kick-off, after CLOCK_GO, or after a loss of lock. -/
def State.pllLock (s : State) (n : Nat) : State :=
  if s.power.held then
    if s.power.step ≠ 3 then s
    else
      let s := s.pllLocked n
      if (upTo 4).all fun k => s.on Reg.CLOCK_PLL_STATUS.LOCK k then s.modPower fun p => { p with step := 4 } else s
  else if hasBit s.power.relocking n then
    let s := (s.pllLocked n).evBit Reg.CLOCK_EVENT.EVENTS 1
    let s := s.modPower fun p => { p with relocking := clrBit p.relocking n }
    let s := if n = 3 then s.modPower fun p => { p with step := 5 } else s
    s.goDone
  else if hasBit s.power.lost n then
    let s := (s.pllLocked n).evBit Reg.CLOCK_EVENT.EVENTS 1
    let s := s.modPower fun p => { p with lost := clrBit p.lost n }
    let s := if n = 0 then s.engineClock else s
    let s := if n = 2 then s.showSafe else s
    if n = 3 ∧ s.power.step ≠ 5 then (s.modLoad fun l => { l with dram := true }).wr Reg.DOMAIN_STATE.DRAM_ACTIVE 1 else s
  else s

/-- PLL_LOCK. -/
def execPllLock (pll : Fin 4) (t : Nat) (s : State) : Host.Outcome State Fault Refusal := done ((s.elapse t).pllLock pll.val)

/-- DRAM is not available (DRAM_FAIL, Table 17-1). -/
def State.dramGone (s : State) : State :=
  ((s.modLoad fun l => { l with dram := false }).wr Reg.DOMAIN_STATE.DRAM_ACTIVE 0).raise 26 0

/-- PLL_LOCK_LOSS (R383, Table 18-5): counted and raised in RUN; the PLL is gated and relocks. -/
def State.pllLockLoss (s : State) (n : Nat) : State :=
  if s.power.held || !s.on Reg.CLOCK_PLL_STATUS.LOCK n then s
  else
    let s := (s.wr Reg.CLOCK_PLL_STATUS.LOCK 0 n).evBit Reg.CLOCK_EVENT.EVENTS 0
    let s := s.when (decide (s.device = stRun)) fun s => (s.bump Reg.CLOCK_PLL_STATUS.UNLOCKS 1 n).raise 42 n
    let s := s.modPower fun p => { p with lost := setBit p.lost n }
    let s := if n = 2 then (s.setSync false).showSafe else s
    if n = 3 then s.dramGone else s

/-- PLL_LOCK_LOSS. -/
def execPllLockLoss (pll : Fin 4) (t : Nat) (s : State) : Host.Outcome State Fault Refusal := done ((s.elapse t).pllLockLoss pll.val)

/-! ### Wakes that fail (R389) -/

/-- The rails that are off in DORMANT: planes, fabric, lanes, backbone, analogue (Tables 18-1 and 01-7). -/
def dormantRails : List Nat := [2, 3, 4, 11, 12, 16, 17]

/-- The rails of a list switched off. -/
def State.railsOff (s : State) (l : List Nat) : State := (s.modPower fun p => { p with pgood := l.foldl clrBit p.pgood }).showPgood

/-- A backbone port in electrical idle and DOWN. -/
def State.portIdle (s : State) (p : Nat) : State :=
  let s := s.when (s.on Reg.BB_STATUS.UP p) (·.evBit Reg.BB_EVENT.EVENTS 0 p)
  ((s.wr Reg.BB_STATUS.UP 0 p).wr Reg.BB_STATUS.CLOCK 0 p).wr Reg.BB_STATUS.TX_IDLE 1 p

/-- Every backbone port so. -/
def State.portsIdle (s : State) : State := s.each (upTo 4) fun s p => s.portIdle p

/-- ANALOG off (Table 01-7, R228): its rails, and the reference buffer's enable. -/
def State.analogDown (s : State) : State :=
  (((s.railsOff [16, 17]).modPower fun p => { p with analogOff := true }).refDisable).wr Reg.DOMAIN_STATE.ANALOG 0

/-- BB_PHY off. -/
def State.bbDown (s : State) : State :=
  (((s.railsOff [12]).modPower fun p => { p with bbOff := true }).portsIdle).wr Reg.DOMAIN_STATE.BB_PHY 0

/-- A device wake failed (R389): up to three retries, each from KEEP-ONLY a DEV reset with cause 4; then the fatal state. -/
def State.deviceWakeFails (s : State) (kind item : Nat) : State :=
  let tries := s.rd Reg.POWER_STATE.WAKE_TRIES
  if s.power.dormantExit then
    let s := s.when (!s.power.analogOff) (·.analogDown)
    let s := s.when (!s.power.bbOff) (·.bbDown)
    let s := (s.railsOff dormantRails).wakeFailNote kind item
    if tries < 3 then s.wr Reg.POWER_STATE.WAKE_TRIES (tries + 1)
    else (s.modPower fun p => { p with dormantExit := false, step := 0, wakeFailed := true }).raise 60 1
  else
    let s := s.resetBegins.devReset true 0
    let s := s.modPower fun p => { p with pgood := 0 }
    if tries < 3 then (((s.resetLatched 4).wr Reg.POWER_STATE.WAKE_TRIES (tries + 1)).kickFrom2).wakeFailNote kind item
    else
      let s := ((s.wr Reg.POWER_STATE.STATE stKeepOnly).showPgood).wakeFailNote kind item
      (s.modPower fun p => { p with wakeFailed := true, keepOnlyAt := s.time.ns, thermalEntry := false }).raise 60 1

/-- The wake timeout of a rail: of the device, of a plane, or of a domain that is being switched on again. -/
def State.railTimeout (s : State) (kind m : Nat) : State :=
  if hasBit s.power.pgood m || !s.railWanted m then s
  else if s.power.step = 2 then s.deviceWakeFails kind m
  else if (m = 2 ∨ m = 3) ∧ s.referee.wake = .power ∧ s.standby = m - 2 then (s.wakeFailNote 1 m).wakeFails false
  else if (m = 16 ∨ m = 17) ∧ s.power.analogOff then (s.railsOff [16, 17]).wakeFailNote 1 m
  else if m = 12 ∧ s.power.bbOff then s.wakeFailNote 1 m
  else s

/-- The wake timeout of a PLL (R380, R383): at step 3 of kick-off, of a plane wake that waits for the engine clock, or of a PLL that lost
lock, which stays gated. -/
def State.pllTimeout (s : State) (n : Nat) : State :=
  if s.on Reg.CLOCK_PLL_STATUS.LOCK n then s
  else if s.power.held then (if s.power.step = 3 then s.deviceWakeFails 2 n else s)
  else
    let s := if n = 0 ∧ s.referee.wake = .clock then (s.wakeFailNote 2 0).wakeFails false else s
    if hasBit s.power.lost n then
      (s.modPower fun p => { p with lost := clrBit p.lost n, dead := setBit p.dead n }).wakeFailNote 2 n |>.raise 60 1
    else s

/-- WAKE_TIMEOUT (R389, R208): kind 0 a rail, 1 a PLL, 2 the keep oscillator of a device wake, 3 steps 3 and 4 of a plane wake. -/
def State.wakeTimeout (s : State) (kind item : Nat) : State :=
  match kind with
  | 0 => s.railTimeout 1 item
  | 1 => s.pllTimeout item
  | 2 => if s.power.step = 2 then s.deviceWakeFails 3 item else s
  | _ => if s.referee.wake = .memory then s.wakeFails false else s

/-- WAKE_TIMEOUT. -/
def execWakeTimeout (kind : Fin 4) (item t : Nat) (s : State) : Host.Outcome State Fault Refusal :=
  done ((s.elapse t).wakeTimeout kind.val item)

/-! ### Shedding (R374 to R376) -/

/-- The VIN thresholds of steps 1 to 6, in mV (Table 18-2). -/
def shedMv (step : Nat) : Nat := [11000, 10600, 10200, 9800, 9400, 9000].getD (step - 1) 0

/-- The deepest step whose threshold a sample is below. -/
def shedReached (mv : Nat) : Nat := ((upTo 7).drop 1).foldl (fun r k => if mv < shedMv k then k else r) 0

/-- STEP6_SEQUENCE (R376, R396): the ball is withdrawn without a takeover, both planes go off, HOLD; every converter will block in the
next rank window that begins. Without a frame timer, and from DORMANT, KEEP-ONLY follows at once. -/
def State.step6 (s : State) (thermal : Bool) : State :=
  let s := s.modPower fun p => { p with entry := none, step6 := max 1 p.step6, thermalEntry := thermal }
  let s := s.wr Reg.POWER_CTRL.DORMANT 0
  if s.device = stDormant ∨ !s.ticking then s.enterKeepOnly true thermal
  else
    let s := (s.announceStop.toSetup).wr Reg.POWER_STATE.STATE stHold
    let s := s.each s.cfg.convs fun s v =>
      s.modConv v.conv fun x => { x with atRank := some (match x.atRank with | some k => min k 3 | none => 3) }
    s.showSafe

/-- The step in force follows the VIN step and the thermal step; SHED_STEP_ACTION on a change (R374, R375). -/
def State.shedTo (s : State) (vin thermal : Nat) : State :=
  let old := s.rd Reg.POWER_SHED.STEP
  let new := max vin thermal
  let s := s.when (decide (thermal ≠ s.rd Reg.POWER_SHED.THERMAL_STEP)) (·.wr Reg.FRAME_EVENT.SHED 1)
  let s := ((s.wr Reg.POWER_SHED.VIN_STEP vin).wr Reg.POWER_SHED.THERMAL_STEP thermal).wr Reg.PLAN_THERMAL.SHED_STEP thermal
  let s := s.wr Reg.POWER_SHED.STEP new
  let s := (s.wr Reg.PLAN_LEVEL.CAP (if 5 ≤ new then 2 else 0)).canShowShed
  if old < new then
    let s := s.evBit Reg.POWER_EVENT.EVENTS 0
    let s := s.when (decide (old = 0)) (·.raise 6 0)
    let s := s.when (decide (2 ≤ new)) (·.raise 41 new)
    let s := s.when (decide (2 ≤ new)) (·.cancelShadow)
    if new = 6 then s.step6 (decide (vin < 6)) else s
  else s.when (decide (new < old)) (·.evBit Reg.POWER_EVENT.EVENTS 1)

/-- The VIN step after a sample (R374). -/
def State.vinStep (s : State) (mv : Nat) : State :=
  let cur := s.rd Reg.POWER_SHED.VIN_STEP
  let th := s.rd Reg.POWER_SHED.THERMAL_STEP
  let r := shedReached mv
  let run := if cur < r then s.power.fallRun + 1 else 0
  let deep := if s.power.fallRun = 0 then r else min s.power.fallDeep r
  let high := decide (0 < cur) && decide (cur < 6) && decide (shedMv cur + 200 < mv)
  let since := if high then some (s.power.riseSince.getD s.time.ns) else none
  let s := s.modPower fun p => { p with fallRun := if run = 3 then 0 else run, fallDeep := deep, riseSince := since }
  if run = 3 then (s.modPower fun p => { p with riseSince := none }).shedTo deep th
  else match since with
    | some a => if a + 10000000 ≤ s.time.ns then (s.modPower fun p => { p with riseSince := none }).shedTo (cur - 1) th else s
    | none => s

/-- VIN_SAMPLE (R374, R372, R377, R392): a sample of the keep domain's comparator, in mV. -/
def State.vinSample (s : State) (mv : Nat) : State :=
  if !s.power.supplied then s
  else
    let s := s.modPower fun p =>
      { p with lowSince := if mv < 8000 then some (p.lowSince.getD s.time.ns) else none,
               goodSince := if 10800 ≤ mv then some (p.goodSince.getD s.time.ns) else none,
               wakeFailed := p.wakeFailed && decide (8000 ≤ mv) }
    if s.power.held then s
    else
      let s := (s.wr Reg.POWER_VIN.LAST mv).wr Reg.POWER_VIN.MIN (min (s.rd Reg.POWER_VIN.MIN) mv)
      let s := s.when (decide (13200 < mv)) (·.evBit Reg.POWER_EVENT.EVENTS 5)
      s.vinStep mv

/-- VIN_SAMPLE. -/
def execVinSample (mv t : Nat) (s : State) : Host.Outcome State Fault Refusal := done ((s.elapse t).vinSample mv)

/-- VIN_LOSS (R372, R376): VIN below 8.0 V for 5 µs: every VIN rail drops, KEEP-ONLY at that instant. A wake under way ends. -/
def State.vinLoss (s : State) : State :=
  if !s.power.supplied then s
  else
    let s := s.modPower fun p => { p with lowSince := some (p.lowSince.getD s.time.ns), goodSince := none, wakeFailed := false }
    if s.device = stKeepOnly ∧ s.power.step = 0 then s
    else s.enterKeepOnly false (s.power.thermalEntry && decide (s.power.step6 ≠ 0))

/-- VIN_LOSS. -/
def execVinLoss (t : Nat) (s : State) : Host.Outcome State Fault Refusal := done (s.elapse t).vinLoss

/-- POWER_CLEAR_VIN_MIN. -/
def execPowerClearVinMin (s : State) : Host.Outcome State Fault Refusal := done (s.wr Reg.POWER_VIN.MIN 0xFFFF)

/-! ### DORMANT, ANALOG and BB_PHY (R387 to R390) -/

/-- The domain code of R387. -/
def EntryDomain.code : EntryDomain → Nat
  | .dormant => 0
  | .analog => 1
  | .bbPhy => 2

/-- The blocks an entry asks (Table 18-8). -/
def EntryDomain.asked : EntryDomain → List Nat
  | .dormant => [1, 2, 3, 4, 5, 6]
  | .analog => [6]
  | .bbPhy => [2, 4]

/-- The first asked block that refuses; `busy` has bit c where the condition of block c holds. -/
def EntryDomain.refuser (d : EntryDomain) (busy : Nat) : Option Nat := d.asked.find? (hasBit busy)

/-- An entry handshake starts. -/
def State.startEntry (s : State) (d : EntryDomain) : State :=
  if s.device ≠ stRun ∨ s.power.entry.isSome then s
  else
    let s := s.modPower fun p => { p with entry := some ⟨d, s.time.ns, none⟩ }
    ((s.wr Reg.POWER_ENTRY_STATUS.RESULT 0).wr Reg.POWER_ENTRY_STATUS.DOMAIN d.code).wr Reg.POWER_ENTRY_STATUS.RETRIES 0

/-- DORMANT_EXIT starts (R390): the domains are powered. -/
def State.dormantExitStart (s : State) (src : Nat) : State :=
  if s.device ≠ stDormant ∨ s.power.dormantExit ∨ s.power.wakeFailed then s
  else
    let s := (s.wr Reg.POWER_STATE.WAKE_SRC src).wr Reg.POWER_STATE.WAKE_TRIES 0
    s.modPower fun p => { p with dormantExit := true, step := 2 }

/-- Whether WAKE_N is asserted as a level source (R388). -/
def State.levelWake (s : State) : Bool :=
  s.on Reg.POWER_WAKE_CFG.EN && s.on Reg.POWER_WAKE_CFG.LEVEL && (s.power.wakeNLow != s.on Reg.POWER_WAKE_CFG.POL)

/-- DORMANT entered (R390): planes off, referee in SETUP, frame timer stopped, lanes and ports idle, CAN and ANALOG off, DRAM in
self-refresh, SAFE_A removed. A wake event held during the entry, or a level still asserted, is honoured (R388). -/
def State.dormantEnter (s : State) (held : Option Nat) : State :=
  let s := s.announceStop.toSetup
  let s := { (s.wr Reg.FRAME_STATUS.RUNNING 0) with fr := { (default : FrameSt) with freezeNs := s.fr.freezeNs }, pair := default, cans := [] }
  let s := s.each s.laneList fun s n => (s.wr Reg.LANE_STATUS.SYNC 0 n).modLane n fun _ => default
  let s := s.each (upTo 4) fun s n => (s.wr Reg.CAN_CTRL.MODE 0 n).wr Reg.CAN_STATUS.STATE 0 n
  let s := (s.analogDown.bbDown).railsOff dormantRails
  let s := ((s.wr Reg.DOMAIN_STATE.FABRIC 0).wr Reg.DOMAIN_STATE.LANE_PHY 0).wr Reg.DOMAIN_STATE.DRAM_ACTIVE 0
  let s := (s.wr Reg.DOMAIN_STATE.DRAM_SR (b01 s.load.dram)).wr Reg.POWER_STATE.STATE stDormant
  let s := s.showSafe
  match held with
  | some src => s.dormantExitStart src
  | none => if s.levelWake then s.dormantExitStart 3 else s

/-- An entry handshake ends: its result, and DORMANT no longer requested. -/
def State.entryEnds (s : State) (result : Nat) : State :=
  ((s.modPower fun p => { p with entry := none }).wr Reg.POWER_ENTRY_STATUS.RESULT result).wr Reg.POWER_CTRL.DORMANT 0

/-- POWER_HANDSHAKE_POLL (R387): the blocks are asked; with none that refuses the domain is switched off. -/
def State.handshakePoll (s : State) (busy : Nat) : State :=
  match s.power.entry with
  | none => s
  | some e =>
    let s := s.bump Reg.POWER_ENTRY_STATUS.RETRIES
    match e.domain.refuser busy with
    | some b => s.wr Reg.POWER_ENTRY_STATUS.REFUSER b
    | none =>
      let s := ((s.entryEnds 1).wr Reg.POWER_ENTRY_STATUS.REFUSER 0).evBit Reg.POWER_EVENT.EVENTS 2
      match e.domain with
      | .dormant => s.dormantEnter e.wakeHeld
      | .analog => s.analogDown
      | .bbPhy => s.bbDown

/-- POWER_HANDSHAKE_POLL. -/
def execPowerHandshakePoll (busy t : Nat) (s : State) : Host.Outcome State Fault Refusal := done ((s.elapse t).handshakePoll busy)

/-- The handshake timeout in force, in ns (POWER_ENTRY_CFG). -/
def State.entryTimeoutNs (s : State) : Nat := clampN 1 1000 (s.rd Reg.POWER_ENTRY_CFG.TIMEOUT_MS) * 1000000

/-- POWER_ENTRY_TIMEOUT (R387): the attempt is abandoned, and the domains stay as they were. -/
def State.entryTimeout (s : State) (busy : Nat) : State :=
  match s.power.entry with
  | none => s
  | some e =>
    match e.domain.refuser busy with
    | none => s
    | some b =>
      if s.time.ns < e.start + s.entryTimeoutNs then s
      else
        let s := ((s.entryEnds 2).wr Reg.POWER_ENTRY_STATUS.DOMAIN e.domain.code).wr Reg.POWER_ENTRY_STATUS.REFUSER b
        (s.evBit Reg.POWER_EVENT.EVENTS 3).raise 7 e.domain.code

/-- POWER_ENTRY_TIMEOUT. -/
def execPowerEntryTimeout (busy t : Nat) (s : State) : Host.Outcome State Fault Refusal := done ((s.elapse t).entryTimeout busy)

/-- Whether DORMANT is allowed (R390): every converter BLOCKED, every declared drive unit in mode OFF or motor state IDLE. -/
def State.mayDormant (s : State) : Bool :=
  (s.cfg.convs.all fun v => decide (s.cvState v.conv = cvBlocked))
    && s.cfg.drives.all fun d => decide ((s.drv d.1).act.mode = mdOff) || decide (s.mstate d.1 = msIdle)

/-- POWER_DORMANT (R390): POWER_CTRL with DORMANT = 1 and the key. -/
def State.powerDormant (s : State) (value : Nat) : State :=
  if !(hasBit value 0 && bitsOf value 16 16 == 0x3B9A) || s.device ≠ stRun || s.power.entry.isSome then s
  else if s.mayDormant then (s.wr Reg.POWER_CTRL.DORMANT 1).startEntry .dormant
  else (s.wr Reg.POWER_ENTRY_STATUS.RESULT 3).wr Reg.POWER_ENTRY_STATUS.DOMAIN 0

/-- POWER_DORMANT. -/
def execPowerDormant (value t : Nat) (s : State) : Host.Outcome State Fault Refusal := done ((s.elapse t).powerDormant value)

/-- An edge wake source (R388): it starts an exit, or is held while an entry to DORMANT runs; one that comes in the last 125 ns of the
entry (`late`) is lost. -/
def State.edgeWake (s : State) (src : Nat) (late : Bool) : State :=
  match s.power.entry with
  | some e =>
    if e.domain = .dormant ∧ !late then s.modPower fun p => { p with entry := some { e with wakeHeld := some (e.wakeHeld.getD src) } } else s
  | none => s.dormantExitStart src

/-- POWER_WAKE: a keyed write of POWER_CTRL with WAKE = 1. -/
def execPowerWake (t : Nat) (s : State) : Host.Outcome State Fault Refusal := done ((s.elapse t).edgeWake 4 false)

/-- WAKE_N_EVENT (R388): the ball changes level. -/
def State.wakeN (s : State) (low late : Bool) : State :=
  let was := s.power.wakeNLow
  let s := s.modPower fun p => { p with wakeNLow := low }
  if !s.on Reg.POWER_WAKE_CFG.EN || !s.power.supplied then s
  else if s.on Reg.POWER_WAKE_CFG.LEVEL then (if s.levelWake then s.dormantExitStart 3 else s)
  else if low ≠ was ∧ low ≠ s.on Reg.POWER_WAKE_CFG.POL then s.edgeWake 3 late
  else s

/-- WAKE_N_EVENT. -/
def execWakeNEvent (low late : Bool) (t : Nat) (s : State) : Host.Outcome State Fault Refusal := done ((s.elapse t).wakeN low late)

/-- A handshake of a domain that is asked to stay on ends. -/
def State.entryDropped (s : State) (d : EntryDomain) : State :=
  match s.power.entry with
  | some e => if e.domain = d then s.modPower fun p => { p with entry := none } else s
  | none => s

/-- ANALOG_OFF (POWER_DOMAIN_CTRL): honoured in RUN only. -/
def State.analogOffWrite (s : State) (off : Bool) : State :=
  let s := s.wr Reg.POWER_DOMAIN_CTRL.ANALOG_OFF (b01 off)
  if off then (if s.power.analogOff then s else s.startEntry .analog) else s.entryDropped .analog

/-- ANALOG_OFF. -/
def execAnalogOff (off : Bool) (t : Nat) (s : State) : Host.Outcome State Fault Refusal := done ((s.elapse t).analogOffWrite off)

/-- BB_PHY_OFF. -/
def State.bbOffWrite (s : State) (off : Bool) : State :=
  let s := s.wr Reg.POWER_DOMAIN_CTRL.BB_PHY_OFF (b01 off)
  if off then (if s.power.bbOff then s else s.startEntry .bbPhy) else s.entryDropped .bbPhy

/-- BB_PHY_OFF. -/
def execBbPhyOff (off : Bool) (t : Nat) (s : State) : Host.Outcome State Fault Refusal := done ((s.elapse t).bbOffWrite off)

/-! ### Clock commands (R381, R382) -/

/-- CLOCK_GO (R381): honoured in KICK-OFF while the loader is idle or has refused. A PLL whose PRE changes relocks. -/
def State.clockGo (s : State) : State :=
  let st := s.rd Reg.IMAGE_STATUS.STATE
  if s.power.held then s
  else if s.device ≠ stKickOff ∨ (st ≠ 0 ∧ st ≠ 6) then s.evBit Reg.CLOCK_EVENT.EVENTS 2
  else
    let moved := (upTo 4).filter fun n => preActs (s.rd Reg.CLOCK_PLL_CFG.PRE n) != preActs (Tbl.look 0 s.power.preInForce n)
    let s := s.wr Reg.CLOCK_GO.GO 1
    let s := s.each (upTo 4) fun s n => s.modPower fun p =>
      { p with preInForce := Tbl.put 0 p.preInForce n (s.rd Reg.CLOCK_PLL_CFG.PRE n), trimInForce := Tbl.put 0 p.trimInForce n (s.rd Reg.CLOCK_PLL_TRIM.TRIM n) }
    let s := s.each moved fun s n =>
      let s := (s.wr Reg.CLOCK_PLL_STATUS.LOCK 0 n).modPower fun p => { p with relocking := setBit p.relocking n }
      if n = 3 then (s.modLoad fun l => { l with dram := false }).wr Reg.DOMAIN_STATE.DRAM_ACTIVE 0 else s
    s.showStaged.goDone

/-- CLOCK_GO. -/
def execClockGo (t : Nat) (s : State) : Host.Outcome State Fault Refusal := done (s.elapse t).clockGo

/-- CLOCK_TRIM_FINE (R381, R382): a TRIM write. It is staged; in fine-step mode it takes effect at once, on PLL_MEM in every state and on
PLL_SD in KICK-OFF only. -/
def State.trimWrite (s : State) (n value : Nat) : State :=
  let s := s.wr Reg.CLOCK_PLL_TRIM.TRIM value n
  let fine := s.on Reg.CLOCK_PLL_CFG.FINE n && (decide (n = 3) || (decide (n = 2) && decide (s.device = stKickOff)))
  (s.when fine (·.modPower fun p => { p with trimInForce := Tbl.put 0 p.trimInForce n (value % 2048) })).showStaged

/-- CLOCK_TRIM_FINE. -/
def execClockTrimFine (pll : Fin 4) (value t : Nat) (s : State) : Host.Outcome State Fault Refusal :=
  done ((s.elapse t).trimWrite pll.val value)

end Sys2Proof.Machine
end

