-- ==== Sys2Proof/Machine/Thermal.lean ====
section
/-! DEFINITION. Heat (18_power_clocks_thermal.md, R391 to R396; 02_frame_tick.md, R63, R64): what a housekeeping round brings about, thermal
shedding, shutdown and its latch. Temperatures are in the t_hs coding, (°C + 64) × 8. -/

namespace Sys2Proof.Machine

/-- The hottest valid reading of some housekeeping items, with its item; the lowest item of equals. -/
def State.hottestOf (s : State) (items : List Nat) : Option (Nat × Nat) :=
  items.foldl (fun b i =>
    if !s.on Reg.ADC_HK.VALID i then b
    else
      let v := s.rd Reg.ADC_HK.VALUE i
      match b with
      | some (j, w) => if w < v then some (i, v) else some (j, w)
      | none => some (i, v)) none

/-- A two-threshold level with 5 °C of hysteresis (R391): 0 normal, 1 warning, 2 throttle. -/
def heatLevel (v old warn throttle : Nat) : Nat :=
  if throttle ≤ v ∨ (2 ≤ old ∧ throttle - 40 ≤ v) then 2
  else if warn ≤ v ∨ (1 ≤ old ∧ warn - 40 ≤ v) then 1
  else 0

/-- THERMAL_BAD and its event (R394). -/
def State.showBad (s : State) : State :=
  let old := s.rd Reg.THERMAL_BAD.SENSOR
  let now := s.power.sensorBad % 2 ^ 20
  let s := s.wr Reg.THERMAL_BAD.SENSOR now
  s.when ((upTo 20).any fun i => hasBit now i && !hasBit old i) (·.evBit Reg.THERMAL_EVENT.EVENTS 4)

/-- A band follows the hottest valid reading of its sensors (R395); with none valid it stays. -/
def State.bandRound (s : State) (f : Field) (items : List Nat) : State :=
  match s.hottestOf items with
  | none => s
  | some (_, v) =>
    let b := bandOf v (s.rd f)
    if b = s.rd f then s else (s.wr f b).evBit Reg.THERMAL_EVENT.EVENTS 5

/-- THERMAL_DRIVE of one unit (R391): the level of its die as the logic side reads it. -/
def State.driveHeat (s : State) (u : Nat) : State :=
  let w := s.rd Reg.THERMAL_DRIVE.UNIT
  let old := bitsOf w (4 * u) 2
  let i := 14 + u
  let valid := s.on Reg.ADC_HK.VALID i
  let lv := if (s.drv u).otLatch then 3 else if valid then heatLevel (s.rd Reg.ADC_HK.VALUE i) old 1512 1592 else old % 3
  let nib := lv + 4 * b01 (!valid)
  let s := s.wr Reg.THERMAL_DRIVE.UNIT (w - bitsOf w (4 * u) 4 * 16 ^ u + nib * 16 ^ u)
  let s := s.when (decide (1 ≤ lv) && decide (old = 0)) (·.evBit Reg.THERMAL_EVENT.EVENTS 2)
  s.when (decide (2 ≤ lv) && decide (old < 2)) (·.evBit Reg.THERMAL_EVENT.EVENTS 3)

/-- Headroom, THROTTLE and the 1 s timers of R64 after a round; `v` is the hottest valid logic or memory reading. HEADROOM is H rounded down
to whole °C, while the grant and the timers use the 1/8 °C of the reading (DESIGN CHOICE, assumption 29). -/
def State.heatTimers (s : State) (v : Option Nat) : State :=
  let h : Int := match v with
    | some x => 1392 - (x : Int)
    | none => 0
  let thr := decide (h ≤ 0)
  let s := s.wrS Reg.PLAN_THERMAL.HEADROOM (clampI (-128) 127 (h.fdiv 8))
  let s := s.when (thr && !s.on Reg.PLAN_LEVEL.THROTTLE) (·.wr Reg.FRAME_EVENT.THROTTLE 1)
  let s := s.wr Reg.PLAN_LEVEL.THROTTLE (b01 thr)
  s.modPower fun p =>
    { p with headroomValid := v.isSome,
             hotSince := if v.isSome ∧ h ≤ 0 then some (p.hotSince.getD s.time.ns) else none,
             coolSince := if v.isSome ∧ 40 ≤ h then some (p.coolSince.getD s.time.ns) else none }

/-- THERMAL_SHUTDOWN (R392): the fatal event, the latch, and KEEP-ONLY at once. -/
def State.thermalShutdown (s : State) (i : Nat) : State :=
  ((s.raiseVia false 59 i).wr Reg.THERMAL_STATUS.SHUT_LATCH 1).enterKeepOnly true false

/-- Thresholds of the logic and memory dies (R391, R394). -/
def State.logicHeat (s : State) : State :=
  match s.hottestOf (upTo 14) with
  | none =>
    let s := s.when (!s.on Reg.THERMAL_STATUS.NO_SENSOR) (·.raise 40 63)
    let s := (s.wr Reg.THERMAL_STATUS.NO_SENSOR 1).when (decide (s.rd Reg.THERMAL_BAND.MEM ≠ 3)) (·.evBit Reg.THERMAL_EVENT.EVENTS 5)
    (s.wr Reg.THERMAL_BAND.MEM 3).heatTimers none
  | some (i, v) =>
    let old := s.rd Reg.THERMAL_STATUS.LEVEL
    let lv := heatLevel v old 1312 1392
    let s := ((s.wr Reg.THERMAL_STATUS.HOT v).wr Reg.THERMAL_STATUS.HOT_INDEX i).wr Reg.THERMAL_STATUS.NO_SENSOR 0
    let s := s.wr Reg.THERMAL_STATUS.LEVEL lv
    let s := s.when (decide (1 ≤ lv) && decide (old = 0)) (·.evBit Reg.THERMAL_EVENT.EVENTS 0)
    let s := s.when (decide (lv = 2) && decide (old < 2)) fun s => (s.evBit Reg.THERMAL_EVENT.EVENTS 1).raise 40 i
    let s := (s.heatTimers (some v)).bandRound Reg.THERMAL_BAND.MEM [12, 13]
    if 1512 ≤ v then s.thermalShutdown i else s

/-- HK_ROUND_DONE (R241, R242, R391): the readings of the 44 items, each with what its test finds open and shorted. -/
def State.hkDone (s : State) (rs : List (Nat × Bool × Bool)) : State :=
  if s.adc.hkStart.isNone then s
  else
    let s := (s.hkReadings rs).showBad.bandRound Reg.THERMAL_BAND.SERDES (upTo 12)
    (s.each (upTo s.silicon.variant.drives) fun s u => s.driveHeat u).logicHeat

/-- HK_ROUND_DONE. -/
def execHkRoundDone (readings : List (Nat × Bool × Bool)) (t : Nat) (s : State) : Host.Outcome State Fault Refusal :=
  done ((s.elapse t).hkDone readings)

/-- THERMAL_SHED_STEP (R64): one step for each second at H ≤ 0, one back for each second at H ≥ 5 °C. -/
def State.thermalStep (s : State) : State :=
  let th := s.rd Reg.PLAN_THERMAL.SHED_STEP
  let vin := s.rd Reg.POWER_SHED.VIN_STEP
  let due := fun (a : Option Nat) => match a with
    | some x => decide (x + 1000000000 ≤ s.time.ns)
    | none => false
  if due s.power.hotSince && decide (th < 6) then (s.modPower fun p => { p with hotSince := some s.time.ns }).shedTo vin (th + 1)
  else if due s.power.coolSince && decide (0 < th) then (s.modPower fun p => { p with coolSince := some s.time.ns }).shedTo vin (th - 1)
  else s

/-- THERMAL_SHED_STEP. -/
def execThermalShedStep (t : Nat) (s : State) : Host.Outcome State Fault Refusal := done (s.elapse t).thermalStep

/-- THERMAL_LATCH_CLEAR (R392, R367): VIN has been below 8.0 V for 100 ms. -/
def State.latchCool (s : State) : State :=
  match s.power.lowSince with
  | some a =>
    if s.on Reg.THERMAL_STATUS.SHUT_LATCH && decide (a + 100000000 ≤ s.time.ns) then
      (s.wr Reg.THERMAL_STATUS.SHUT_LATCH 0).wr Reg.FAULT_STATE.FATAL 0
    else s
  | none => s

/-- THERMAL_LATCH_CLEAR. -/
def execThermalLatchClear (t : Nat) (s : State) : Host.Outcome State Fault Refusal := done (s.elapse t).latchCool

end Sys2Proof.Machine
end

