-- ==== Sys2Proof/Machine/Frame.lean ====
section
/-! DEFINITION. The frame (02_frame_tick.md): what a tick, T_FREEZE, T_COMPUTE_END and T_RANK_END bring about in the whole device, and the
end of kick-off, which is judged at ticks (03_kickoff_image.md, R65 steps 10 and 11, R71). -/

namespace Sys2Proof.Machine

/-- Whether the frame timer runs: it issues ticks, and the SD clock is there. -/
def State.timerRuns (s : State) : Bool := s.ticking && s.clocked 2

/-! ### The end of kick-off -/

/-- The declared lanes that have not come up and completed their call since commit. -/
def State.lanesDown (s : State) : List Nat := s.laneList.filter fun n => !(s.lane n).up

/-- LANE_UP_TIMEOUT (R71): 1,000 frames after commit a lane that has not come up is a lost lane. One that is in sync, whose chain's call
could not be made, is measured in RUN (assumption 33). -/
def State.laneTimeout (s : State) : State :=
  if s.inKickOff && s.cfg.loaded && decide (1000 ≤ s.fr.ticks) then
    s.each (s.lanesDown.filter fun n => !s.on Reg.LANE_STATUS.SYNC n) fun s n => s.loseLane n
  else s

/-- LANE_UP_TIMEOUT. -/
def execLaneUpTimeout (t : Nat) (s : State) : Host.Outcome State Fault Refusal := done (s.elapse t).laneTimeout

/-- RUN is entered (R65, R386): calls still to come are targeted ones (R109), safety units may enable, and the exit from DORMANT, where one was under way, is over (R390). -/
def State.enterRun (s : State) : State :=
  let s := (s.wr Reg.POWER_STATE.STATE stRun).modPower fun p => { p with step := 0, dormantExit := false }
  let s := s.each s.laneList fun s n =>
    if (s.lane n).allCall then (s.modLane n fun l => { l with allCall := false, sweep := some 0 }).showLane n else s
  (s.each s.cfg.chains fun s c => s.modChain c.chain fun x => { x with started := 2 }).endAnnounce

/-- KICKOFF_GRANT (R65, step 11): once step 10 is complete the referee grants the ball to plane A at a tick, and the device enters
RUN; without a plane that is fit it is lost. -/
def State.kickoffGrant (s : State) : State :=
  if s.inKickOff && s.cfg.loaded && decide (s.power.step = 10) && (s.lanesDown.isEmpty || decide (1000 ≤ s.fr.ticks)) then
    let s := s.firstGrant
    if s.referee.ball then s.enterRun else s.modPower fun p => { p with step := 11 }
  else s

/-- KICKOFF_GRANT. -/
def execKickoffGrant (t : Nat) (s : State) : Host.Outcome State Fault Refusal := done (s.elapse t).kickoffGrant

/-! ### The tick -/

/-- Whether the lane slices of arm a repeat their slots at this tick (R55, R85). -/
def State.armRepeats (s : State) (a : Nat) : Bool :=
  hasBit s.fr.repeatArms a || ((s.arm a).out && !(s.arm a).lost && decide ((s.arm a).failedTicks ≤ 2))

/-- The command of cell n in the slot of this tick: what the rank window built; the commands in force where the slots repeat; BLOCK
without edges in KICK-OFF (R108); what Table 05-1 gives where the arm's role is lost. No edge falls at or after the next T_APPLY (R95). -/
def State.slotCmd (s : State) (a n : Nat) : CellCmd :=
  let c := s.cell n
  let cmd :=
    if s.armRepeats a then c.force
    else if (s.arm a).out || (s.arm a).lost then { holdCmd (s.tableState n false) with bypass := s.cstate n == csBypassed }
    else if s.inKickOff then { c.cmd with s0 := stBlock, s1 := stBlock, s2 := stBlock, t1 := none, t2 := none }
    else c.cmd
  cmd.within s.spanNow

/-- The slot built for cell n has not left: what it carried as the first slot after admission stays due (R120, R128). -/
def State.keepAdmission (s : State) (n : Nat) : State :=
  s.modCell n fun c =>
    { c with admitted := c.admitted || c.admSlot, clearReq := c.clearReq || c.admSlot, admSlot := false,
             cmd := { c.cmd with clear := false, unblock := false } }

/-- The slot of cell n has left: the commands in force (R134), the first BYPASS slot of a bypass (R127), and operations that leave once;
those of a slot that was discarded for a repeat stay due. -/
def State.slotSent (s : State) (a n span : Nat) : State :=
  let cmd := s.slotCmd a n
  let kept := s.armRepeats a || (s.arm a).out || (s.arm a).lost
  let s := s.when kept fun s => (s.modCell n fun c => { c with clearReq := c.clearReq || c.cmd.clear }).keepAdmission n
  let s := s.modCell n fun c => { c with admSlot := false, cmd := { c.cmd with clear := false, unblock := false } }
  let first := cmd.bypass && s.cstate n == csBypassed && (s.cell n).bypAt.isNone
  let s := s.when first (·.modCell n fun c => { c with bypAt := some s.frameNo })
  s.sendCmd n (some cmd) span

/-- Whether a lane end carries an all-call at this tick instead of a normal train (R108). -/
def State.carriesCall (s : State) (lane : Nat) : Bool :=
  match (s.chain (lane / 2)).call with
  | some k => decide (k.lane = lane) && k.target.isNone && decide (k.frame = s.frameNo)
  | none => false

/-- Whether a lane end sends a normal train at this tick (R88, R93). -/
def State.trains (s : State) (lane : Nat) : Bool :=
  s.laneSends lane && decide (0 < s.servedCount lane) && !s.carriesCall lane

/-- DOWNLINK_TRAIN_SEND (R93, R94, R98): header and slots of one lane end, farthest first, and the CRC-32 over their data bytes. `bad` where the header leaves with the wrong
SAFE_BLOCK. The device of a pair without the pair ball sends nothing (R216). -/
def State.sendTrain (s : State) (lane : Nat) (bad : Bool) : State :=
  if s.pairMute then s
  else
    let c := lane / 2
    let a := match s.chainCfg c with | some cc => cc.arm | none => 0
    let base := match s.chainCfg c with | some cc => cc.base | none => 0
    let header := s.headerBytes lane (s.chainSafeBlock c != bad)
    let slots := (s.served lane).reverse.map fun h =>
      let q := s.endPos lane h
      (q, slotBytes (s.slotCmd a (base + h)) (s.delay lane q) h)
    let s := (s.emit (.header lane header)).each slots fun s x => s.emit (.slot lane x.1 x.2)
    s.emit (.trainCrc lane (leBytes 4 (crc32 (header.drop 1 ++ slots.flatMap (·.2)))))

/-- One lane end at a tick. -/
def State.tickLane (s : State) (lane : Nat) (bad : Bool) : State :=
  let go := s.trains lane
  (s.when go (·.sendTrain lane bad)).modLane lane fun l => { l with sent := go }

/-- The REPEAT flag of an arm's summary and status (Table 06-4). -/
def State.showRepeat (s : State) (a : Nat) : State :=
  let f := fun w => if s.armRepeats a then setBit w 6 else clrBit w 6
  let sl := s.armSlice a
  let s := s.wr Reg.ARM_STATUS.FLAGS (f (s.rd Reg.ARM_STATUS.FLAGS sl)) sl
  s.modArm a fun x =>
    if x.summary.length < 5 then x
    else { x with summary := x.summary.take 4 ++ leBytes 1 (f (u8At x.summary 4)) ++ x.summary.drop 5 }

/-- Every chain at a tick: split moves, all-calls, the trains of all lanes, the commands in force. `p0` is the period of the frame that
ends. A header that leaves with the wrong SAFE_BLOCK is a failed diagnostic (R302, cause 3). -/
def State.tickChains (s : State) (headerBad : List Nat) (p0 : Nat) : State :=
  let span := s.applySpan p0 s.period
  let s := s.each s.cfg.chains fun s cc =>
    let s := s.tickChain cc
    let s := s.each (upTo cc.cells) fun s h => s.showPlace cc h
    s.when s.inKickOff (·.tickAllCall cc headerBad)
  let s := s.each s.cfg.arms fun s a => s.showRepeat a.arm
  let s := s.each s.laneList fun s n => s.tickLane n (headerBad.contains n)
  let s := s.each s.cfg.chains fun s cc => s.each (upTo cc.cells) fun s h =>
    let n := cc.base + h
    let sent := match s.servingLane cc.chain h with
      | some l => (s.lane l).sent
      | none => false
    if sent then s.slotSent cc.arm n span else (s.keepAdmission n).sendCmd n none span
  if headerBad.any fun n => (s.lane n).sent || (s.carriesCall n && s.laneSends n) then s.diagFail false 3 else s

/-- The tracker at a tick (R46, R48): the entries of every declared cell open; the longest waits on the crossbar are free values. -/
def State.tickTracker (s : State) : State :=
  let s := s.each s.cellList fun s n => s.modCell n fun c => { c with done := false, crcBad := false, arrive := 0, bad := false }
  let s := s.ctrlTick.waitedUnits
  let (x, s) := s.draw
  let (y, s) := s.draw
  let s := s.wr Reg.XBAR_WAIT.ENG_MAX_WAIT (max (s.rd Reg.XBAR_WAIT.ENG_MAX_WAIT) (x % 65536))
  s.wr Reg.XBAR_WAIT.HOST_MAX_WAIT (max (s.rd Reg.XBAR_WAIT.HOST_MAX_WAIT) (y % 32768))

/-- The failed recorder slices whose substitutes are not in service yet (R85). -/
def State.recordersOut (s : State) : List Nat :=
  (s.load.waiting ++ (s.load.reloading.map (·.1)).toList).filter fun n => s.sliceRole n == roRecorder

/-- Gap markers for the image that leaves buffer b (R61, R85): one where its copy is not complete, and one for the share of each failed
recorder slice (DESIGN CHOICE, assumption 22: the spec does not say how a frame is shared). -/
def State.gapMarkers (s : State) (b : Nat) : State :=
  if !hasBit s.fr.frozenOnce b || !s.load.dram then s
  else
    let n := b01 (s.copyLeft b && s.records) + s.recordersOut.length
    s.each (upTo n) fun s _ => (s.emit (.gap ((s.frameNo + 4294967294) % 4294967296))).bump Reg.PLAN_BG_STATUS.GAPS

/-- The buffer that this frame writes is taken over (R33): BAR2_TORN (R342), RECORDER_GAP (R61). -/
def State.tickBuffer (s : State) : State :=
  let b := s.frameNo % 2
  let s := if hasBit (s.rd Reg.HOST_BAR2_OPEN.BUF) b then
      (s.wrBit Reg.HOST_BAR2_STATUS.BUF b true).wrBit Reg.HOST_BAR2_OPEN.BUF b false
    else s
  (s.gapMarkers b).modFr fun f =>
    let f := { f with frozenOnce := clrBit f.frozenOnce b }
    if b = 0 then { f with copied0 := 0 } else { f with copied1 := 0 }

/-- The timer and the planner at a tick (R40, R39, R59): number, count, period, level, and what each frame starts from. -/
def State.tickTimer (s : State) : State :=
  let s := s.wr Reg.FRAME_NO.FRAME_NO (if s.fr.phase = .stopped then 0 else (s.frameNo + 1) % 4294967296)
  let s := s.wr64 Reg.FRAME_TICK_NS_LO.TICK_NS Reg.FRAME_TICK_NS_HI.TICK_NS s.count
  let s := s.wr Reg.PLAN_BG_STATUS.RAN s.fr.bgRan
  let s := s.modFr fun f =>
    { f with phase := .open, ovPrev := f.ovCompute || f.ovRank, ovCompute := false, ovRank := false, engNeed := 0, dup := 0, bgRan := 0,
             powerMw := 0, bgNs := 0, bgOver := false, ticks := if s.cfg.loaded then f.ticks + 1 else 0 }
  s.periodTick.levelTick

/-- The blocks outside the fabric that follow the tick: SEQ_EN, carriers, the discipline, CAN cycles (R230, R266, R314, R327). -/
def State.tickOthers (s : State) : State :=
  let s := (s.adcTick.syncTick).discipline
  s.each (upTo 4) fun s n => s.canTick n

/-- FRAME_TICK (R40): what comes about at a tick, in order, at the instant that the frame timer has for it (R39, R314, R315); at another
instant there is no tick. Nothing waits for a commit that has not been made: without a structure
in force the lists it goes through are empty. -/
def State.frameTick (s : State) (headerBad : List Nat) (mramOk : Bool) : State :=
  if !s.timerRuns || decide (s.time.ns ≠ s.fr.nextTick) then s
  else
    let p0 := s.period
    let s := s.tickTimer
    let s := s.each s.cfg.chains fun s cc => s.settleAllCall cc
    let s := s.laneTimeout.kickoffGrant
    let s := (s.refereeTick).pairTick
    let s := s.each s.cfg.convs fun s v => s.convTick v
    let s := s.journalTick mramOk
    let s := s.each s.cfg.convs fun s v => s.convTickEnd v.conv
    let s := s.halftimeTick
    let s := s.substStart.armOutTick.mirrorTick
    let s := s.tickChains headerBad p0
    let s := s.tickTracker.tickBuffer.tickOthers
    let s := s.wr Reg.FRAME_STATUS.COAST (b01 (!s.referee.ball))
    let s := s.modFr fun f => { f with repeatArms := 0 }
    s.modPower fun p => { p with step6 := if p.step6 = 2 then 3 else p.step6 }

/-- FRAME_TICK. `headerBad` are the lanes whose header leaves with the wrong SAFE_BLOCK; `mramOk` where the writes that the tick makes to
the journal MRAM read back well (R224). -/
def execFrameTick (t : Nat) (met : TickIn) (s : State) : Host.Outcome State Fault Refusal :=
  done ((s.elapse t).frameTick (met.headerBad.map (·.val)) met.mramOk)

/-! ### T_FREEZE -/

/-- The frame image frozen (R50 to R52), the housekeeping round posted (R241), and the image in its buffer (R33). -/
def State.freezeImage (s : State) : State :=
  let b := s.frameNo % 2
  let s := s.modFr fun f =>
    let f := { f with phase := .frozen, freezeNs := s.count, frozenOnce := setBit f.frozenOnce b }
    if b = 0 then { f with copied0 := 0 } else { f with copied1 := 0 }
  let s := s.wr Reg.FRAME_STATUS.FROZEN_BUF b
  let s := (s.when (s.clocked 1) fun s => s.each s.cfg.chains fun s cc => s.freezeAll cc).hkPost
  s.when (s.clocked 1) (·.storeImage b)

/-- A shadow run whose first frame this is: the standby takes the role SHADOW (R212). -/
def State.shadowBegins (s : State) : State :=
  match s.referee.shadow with
  | some x => if x.start = some s.frameNo ∧ s.role s.standby = roWaking then s.setRole s.standby roShadow else s
  | none => s

/-- T_FREEZE (R50): the image freezes and the engines start; the first one after the BLOCK slots of step 6 have left takes the device to
KEEP-ONLY (R376). -/
def State.freezeFrame (s : State) : State :=
  if !s.timerRuns || decide (s.fr.phase ≠ .open) then s
  else
    let s := s.freezeImage.shadowBegins
    let s := s.when s.referee.ball (·.startPlane s.holder)
    let s := s.when (decide (s.role s.standby = roShadow)) (·.startPlane s.standby)
    if s.power.step6 = 3 then s.enterKeepOnly true s.power.thermalEntry else s

/-- AUTO_RESTORE (R113), judged at the instant of T_FREEZE, as T_FREEZE itself judges it: where the host has set LANE_CTRL.AUTO_RESTORE
between the two, the cells carry MOVING in the image of this freeze too. -/
def State.restoreAtFreeze (s : State) (cc : ChainCfg) : State :=
  if s.fr.phase = .frozen ∧ s.fr.freezeNs = s.count then (s.restoreFrozen cc).storeImage (s.frameNo % 2) else s

/-- AUTO_RESTORE. -/
def execAutoRestore (chain : Fin 48) (t : Nat) (s : State) : Host.Outcome State Fault Refusal :=
  let s := s.elapse t
  done (match s.chainCfg chain.val with
    | some cc => s.restoreAtFreeze cc
    | none => s)

/-- T_FREEZE. -/
def execTFreeze (t : Nat) (s : State) : Host.Outcome State Fault Refusal := done (s.elapse t).freezeFrame

/-! ### T_COMPUTE_END -/

/-- COMPUTE_OVERRUN (R53, R54, R56): counted and raised; the arm slices coast. -/
def State.overrun (s : State) (counter : Field) (detail : Nat) : State :=
  let s := (s.bump counter).wr Reg.OVERRUN_LAST.FRAME s.frameNo
  (s.wr Reg.FRAME_EVENT.OVERRUN 1).raise 8 detail

/-- SHADOW_COMPARE (R213) and the count of matched frames; a mismatch wins over the cancel that an overrun of the holder brings (R214).
`diff` is what the comparison of the writes on the crossbar found. -/
def State.judgeShadow (s : State) (diff overran : Bool) : State :=
  if s.role s.standby ≠ roShadow then s.when overran (·.cancelShadow)
  else
    let m := s.rd Reg.REF_HT_STATUS.MATCHED + 1
    if diff || s.shadowDiffers (decide (m = s.cfg.limits.shadowFrames)) then s.mismatch
    else if overran then s.cancelShadow
    else s.wr Reg.REF_HT_STATUS.MATCHED m

/-- The planes at T_COMPUTE_END (R150, R153, R54): the comparison, the commits, what the referee remembers of the frame. -/
def State.endPlanes (s : State) (diff overran : Bool) : State :=
  let ball := s.referee.ball
  let quiet := ball && !overran && s.quietNow s.holder
  let shadow := decide (s.role s.standby = roShadow)
  let s := s.judgeShadow diff overran
  let s := s.when ball (·.endPlane s.holder)
  let s := s.when shadow (·.endPlane s.standby)
  let s := s.when overran fun s => (s.modFr fun f => { f with ovCompute := true }).overrun Reg.OVERRUN_COUNT.COMPUTE 0
  s.modRef fun r =>
    { r with coast := if ball && !overran then 0 else min 255 (r.coast + 1), restart := r.restart && !ball, gap := if ball then r.gap else r.gap + 1,
             quiet := quiet, quietRun := if quiet then min 64 (r.quietRun + 1) else 0 }

/-- Whether arm a latches no reference block in this frame (R132): a coast frame, no slice in service, or a block that the ball holder
has not committed in it. -/
def State.armCoasts (s : State) (coast : Bool) (a : Nat) : Bool :=
  coast || (s.sliceOf roArm a).isNone || decide (s.rd Reg.ARM_REF_FRAME.FRAME (s.armSlice a) ≠ s.frameNo)

/-- Whether the frame is a coast frame for converter c (R294, Table 13-3): for all, or for an arm slice of it that latches no block. -/
def State.convCoasts (s : State) (coast : Bool) (c : Nat) : Bool :=
  coast || (s.convArms c).any fun a => (s.sliceOf roArm a).isSome && s.armCoasts false a

/-- The words that a converter has latched go into the recorder (R184), which needs DRAM and a recorder slice. -/
def State.recordWords (s : State) (c : Nat) : State :=
  s.when (s.load.dram && s.records) (·.emit (.words c s.frameNo ((upTo 16).map (s.convWord c))))

/-- The converters at T_COMPUTE_END (R132, R151, R194, R195, Table 08-5). -/
def State.latchAll (s : State) (coast : Bool) : State :=
  let coasts := fun a => s.armCoasts coast a
  let s := s.each s.cfg.arms fun s a => s.latchArm a.arm (coasts a.arm)
  let s := s.each s.cfg.convs fun s v =>
    match (s.conv v.conv).atRank with
    | some k => (s.blockConv v.conv k).modConv v.conv fun x => { x with atRank := none }
    | none => s
  let s := if coast then s else s.each s.cfg.convs fun s v =>
    ((s.reentry v.conv ((s.convArms v.conv).filter fun a => !coasts a)).latchWords v.conv).recordWords v.conv
  let s := s.each s.cfg.arms fun s a => if coasts a.arm then s else s.modArm a.arm fun x => { x with coastRun := 0 }
  s.each s.cfg.convs fun s v =>
    let c := v.conv
    let run := if coast then (s.conv c).coastRun + 1 else 0
    let s := s.modConv c fun x => { x with coastRun := run }
    let s := (s.wr Reg.CONV_STATE.COAST (b01 coast) c).wr Reg.CONV_COUNT.COAST_MAX
      (max (s.rd Reg.CONV_COUNT.COAST_MAX c) (min 255 run)) c
    s.coastLimit c

/-- The current of arm a and whether it is held (R134). -/
def State.armCurrent (s : State) (a : Nat) : Int × Bool :=
  match s.armSlot a with
  | none => (0, false)
  | some x => if hasBit x.flags 0 then (x.value, false) else ((s.arm a).iArm, true)

/-- The rank window of one arm (R122, R135), in the slice that serves it. -/
def State.rankWindow (s : State) (ac : ArmCfg) (coast : Bool) : State :=
  if (s.sliceOf roArm ac.arm).isNone then s
  else
    let a := ac.arm
    let (i, held) := s.armCurrent a
    let x := s.arm a
    let theta := angle ((x.blk.theta : Int) - x.e + s.thetaMf a)
    let s := (s.ctrlAsk (armEntryOf a)).rankArm ac (s.deblocked ac.conv) coast theta i held
    s.modArm a fun x => { x with out := false, failedTicks := 0 }

/-- What the arm slices do in the rank window (R122): the checks, the partner's items (R217), then ranking. -/
def State.rankAll (s : State) (coast : Bool) : State :=
  let coasts := fun a => s.armCoasts coast a
  let s := s.each s.cfg.arms fun s a => if (s.sliceOf roArm a.arm).isSome then s.checkArm a else s
  let s := s.pairApply
  (s.each s.cfg.arms fun s a => s.rankWindow a (coasts a.arm)).summarise

/-- The first frame of a shadow run is fixed once the standby has completed step 3 of its wake (R212): it takes the holder's committed states and exports. -/
def State.fixShadow (s : State) : State :=
  match s.referee.shadow with
  | none => s
  | some x =>
    if x.start.isSome || s.referee.wake != .ready || !s.referee.ball then s
    else
      let h := s.holder
      let o := s.standby
      let s := s.each (upTo 8) fun s j => s.modEng (engOf o j) fun e =>
        { e with states := (s.eng (engOf h j)).states, exports := (s.eng (engOf h j)).exports, running := false, result := none }
      (s.showExports o true).modRef fun r => { r with shadow := some { x with start := some ((s.frameNo + 1) % 4294967296) } }

/-- T_COMPUTE_END (R132): the planes commit, the arm slices latch or coast, and the rank window opens. -/
def State.computeEnd (s : State) (diff : Bool) : State :=
  if !s.timerRuns || decide (s.fr.phase ≠ .frozen) then s
  else
    let overran := s.referee.ball && s.planeRuns s.holder
    let coast := !s.referee.ball || overran
    let s := (s.modFr fun f => { f with phase := .computed }).endPlanes diff overran
    let s := s.when (s.clocked 1) (·.latchAll coast)
    let s := s.convEnvelopes (s.convCoasts coast)
    let s := s.ckptBegin
    let s := s.when s.referee.writing.isSome (·.ctrlAsk ckptEntry)
    let s := (s.when (s.clocked 1) (·.rankAll coast)).fixShadow
    s.modPower fun p => { p with step6 := if p.step6 = 1 then 2 else p.step6 }

/-- T_COMPUTE_END. -/
def execTComputeEnd (t : Nat) (shadowDiff : Bool) (s : State) : Host.Outcome State Fault Refusal :=
  done ((s.elapse t).computeEnd shadowDiff)

/-! ### T_RANK_END -/

/-- RANK_OVERRUN (R53, R55, R56): the arms in `late` have not finished their downlink buffers: what they have is discarded, their slots repeat at the next tick, and
with a plane that holds the ball the frame has overrun, which ends a half-time (R214). -/
def State.rankOverrun (s : State) (late : List Nat) : State :=
  let late := late.filter fun a => (s.armCfg a).isSome
  let s := s.modFr fun f => { f with repeatArms := late.foldl setBit f.repeatArms }
  let s := s.each late fun s a => (s.discardRank a).showRepeat a
  if late.isEmpty || !s.referee.ball then s
  else
    let detail := if s.fr.ovCompute then 2 else 1
    ((s.modFr fun f => { f with ovRank := true }).overrun Reg.OVERRUN_COUNT.RANK detail).cancelShadow

/-- T_RANK_END (R199): the lease, the retired records, the pair's samples and messages, and the planner. -/
def State.rankEnd (s : State) (armCycles late : List Nat) (refIn : Bool) (powerMw : Nat) : State :=
  if !s.timerRuns || decide (s.fr.phase ≠ .computed) then s
  else
    let ball := s.referee.ball
    let s := (s.modFr fun f => { f with phase := .ranked }).rankOverrun late
    let s := s.ctrlDone fun e => decide (24 ≤ e.owner)
    let overran := s.fr.ovCompute || s.fr.ovRank
    let s := (s.leaseEnd overran).retire
    let s := (s.sampleRefIn refIn).pairSend
    let s := s.when (s.device == stRun) (·.planEvaluate (armCycles.foldl max 0) overran ball)
    s.armOutDeadline.wr Reg.PLAN_POWER.MEASURED (min 65535 powerMw)

/-- T_RANK_END. -/
def execTRankEnd (t : Nat) (armCycles : List Nat) (late : List (Fin 12)) (refIn : Bool) (powerMw : Nat) (s : State) :
    Host.Outcome State Fault Refusal :=
  done ((s.elapse t).rankEnd armCycles (late.map (·.val)) refIn powerMw)

/-- ARM_CLEAR_COUNTS: FRAMES of ARM_SHORT, and ARM_DWELL. -/
def State.armClear (s : State) (n : Nat) : State :=
  ((s.wr Reg.ARM_SHORT.FRAMES 0 n).wr Reg.ARM_DWELL.MOVED 0 n).wr Reg.ARM_DWELL.DEFERRED 0 n

/-- ARM_CLEAR_COUNTS. -/
def execArmClearCounts (slice : Fin 128) (s : State) : Host.Outcome State Fault Refusal := done (s.armClear slice.val)

end Sys2Proof.Machine
end

