-- ==== Sys2Proof/Machine/Sections.lean ====
section
/-! DEFINITION. The loader's checks of the sections FRAME to LIMITS (03_kickoff_image.md, Tables 03-6 to 03-12; 06_ranking_modulation.md,
Table 06-1): each decodes its section and answers the structure it declares, or the code and image offset of the first failed check
(R73, R80). Checks run entry by entry, fields in rising offset. -/

namespace Sys2Proof.Machine

/-- A check: what it decoded, or the refusal code and the image byte offset of what failed (R66). -/
abbrev Chk (α : Type) := Except (Nat × Nat) α

/-- A condition that must hold, else a refusal. -/
def need (c : Bool) (code off : Nat) : Chk Unit := if c then .ok () else .error (code, off)

/-- Where the first non-zero byte of a list stands. -/
def firstNonZero : List Byte → Nat → Option Nat
  | [], _ => none
  | b :: t, i => if b = 0 then firstNonZero t (i + 1) else some i

/-- Reserved bytes [lo, lo + n) of an entry at image offset `o`: 010Ah at the first that is not zero (R74). -/
def reserved (e : List Byte) (o lo n : Nat) : Chk Unit :=
  match firstNonZero (slice e lo n) (o + lo) with
  | none => .ok ()
  | some i => .error (0x10A, i)

/-- A check at every element of a list, in order. -/
def checkAll {α : Type} (l : List α) (f : α → Chk Unit) : Chk Unit := l.foldlM (fun _ x => f x) ()

/-- The bytes cut into entries of `n` bytes, each with its image offset: at most `fuel` of them. -/
def cut (n : Nat) : Nat → Nat → List Byte → List (Nat × List Byte)
  | 0, _, _ => []
  | fuel + 1, o, b => if b.isEmpty then [] else (o, b.take n) :: cut n fuel (o + n) (b.drop n)

/-- The entries of a section at image offset `o`. -/
def entries (n o : Nat) (b : List Byte) : List (Nat × List Byte) := cut n (b.length / n) o b

/-- lo ≤ x ≤ hi. -/
def between (lo x hi : Nat) : Bool := decide (lo ≤ x) && decide (x ≤ hi)

/-- Whether `l` holds the numbers 0 to its length − 1, each once. -/
def isOrder (l : List Nat) : Bool := (upTo l.length).all fun i => l.contains i

/-- Whether the ranges [a, a + n) and [b, b + m) share a number. -/
def overlaps (a n b m : Nat) : Bool := decide (a < b + m) && decide (b < a + n)

/-- FRAME (Table 03-6, R38, R42, R43). -/
def frameSection (c : Cfg) (o : Nat) (b : List Byte) : Chk Cfg := do
  let p := u32At b 0
  let lo := u32At b 4
  let hi := u32At b 8
  need (between 10000 p 50000) 0x501 o
  need (between 10000 lo p) 0x501 (o + 4)
  need (between p hi 50000) 0x501 (o + 8)
  let f := fun i => u16At b (12 + 2 * i)
  let t := fun i => lo * f i / 10000
  need (decide (0 < t 0) && decide (t 0 ≤ t 1) && decide (t 1 < t 2) && decide (t 2 < t 3) && decide (t 3 < t 4)
    && decide (t 4 + 200 ≤ lo) && decide (t 2 + 2000 ≤ t 3)) 0x502 (o + 12)
  need (decide (u8At b 22 ≤ 3)) 0x503 (o + 22)
  let bg := u16At b 24
  need (decide (bg < 32768) && isOrder ((upTo 5).map fun i => bitsOf bg (3 * i) 3)) 0x503 (o + 24)
  reserved b o 28 4
  let margin := u8At b 23
  let budget := u16At b 26
  return { c with frame :=
    { period := p, pmin := lo, pmax := hi, sample := f 0, apply := f 1, freeze := f 2, computeEnd := f 3, rankEnd := f 4,
      plLimit := u8At b 22, margin := if margin = 0 then 10 else margin, bgOrder := bg,
      budget := if budget = 0 then 56000 else budget,
      engStatic := (upTo 8).map fun i => u16At b (32 + 2 * i), armStatic := (upTo 12).map fun i => u16At b (48 + 2 * i) } }

/-- One SLICES entry (Table 03-7, R75, R3). DESIGN CHOICE (assumption 40): a lane or arm that the variant does not have takes its
capacity code (0405h, 0404h) of R3, not the 0508h of R75. -/
def sliceEntry (v : Variant) (l : List SliceCfg) (o : Nat) (e : List Byte) : Chk (List SliceCfg) := do
  let n := u8At e 0
  let role := u8At e 1
  let target := u8At e 2
  need (decide (n ≤ 127) && !(l.any fun x => x.slice == n)) 0x508 o
  need (between 1 role 5) 0x508 o
  need (decide (role ≠ 1 ∨ target < v.lanes)) 0x405 (o + 2)
  need (decide (role ≠ 2 ∨ target < v.arms)) 0x404 (o + 2)
  need (decide (2 < role) || !(l.any fun x => x.role == role && x.target == target)) 0x508 (o + 2)
  need (decide (role ≠ 3 ∨ target ≤ 3) && decide (role < 4 ∨ target = 0)) 0x508 (o + 2)
  reserved e o 3 1
  return l ++ [⟨n, role, target⟩]

/-- SLICES (R19, R75). -/
def slicesSection (v : Variant) (c : Cfg) (o : Nat) (b : List Byte) : Chk Cfg := do
  let l ← (entries 4 o b).foldlM (fun l p => sliceEntry v l p.1 p.2) []
  let count := fun r => (l.filter fun x => x.role == r).length
  need (between 2 (count 1) v.lanes && decide (count 1 % 2 = 0) && between 1 (count 2) v.arms && between 1 (count 3) 4
    && decide (count 4 = 1)) 0x409 o
  need (decide (8 ≤ count 5)) 0x40A o
  return { c with slices := l }

/-- One CHAINS entry (Table 03-8, R76, R6): a seventeenth chain of an arm is over its capacity. DESIGN CHOICE (assumption 41): an
order above 15 is refused as a gap (0504h); R76 names it in neither of its lists. -/
def chainEntry (v : Variant) (pmin : Nat) (l : List ChainCfg) (o : Nat) (e : List Byte) : Chk (List ChainCfg) := do
  let n := u8At e 0
  let cells := u8At e 3
  let base := u16At e 6
  need (decide (2 * n < v.lanes)) 0x402 o
  need (!(l.any fun x => x.chain == n)) 0x504 o
  need (decide (u8At e 1 < v.arms)) 0x404 (o + 1)
  need (decide ((l.filter fun x => x.arm == u8At e 1).length < 16)) 0x403 o
  need (decide (u8At e 2 ≤ 15)) 0x504 (o + 2)
  need (decide (cells ≤ 32)) 0x402 (o + 3)
  need (decide (0 < cells)) 0x509 (o + 3)
  need (decide (u8At e 4 ≤ cells)) 0x509 (o + 4)
  need (decide (u8At e 5 ≤ 1)) 0x509 (o + 5)
  need (decide (cells ≤ 16 ∨ 20000 ≤ pmin)) 0x50B o
  need (decide (base + cells ≤ v.cells)) 0x401 (o + 6)
  need (!(l.any fun x => overlaps base cells x.base x.cells)) 0x505 (o + 6)
  return l ++ [⟨n, u8At e 1, u8At e 2, cells, u8At e 4, u8At e 5, base⟩]

/-- CHAINS with the conditions over one arm's chains (R6, Table 03-8) and over the lane slices (R75). -/
def chainsSection (v : Variant) (c : Cfg) (o : Nat) (b : List Byte) : Chk Cfg := do
  let es := entries 8 o b
  let l ← es.foldlM (fun l p => chainEntry v c.frame.pmin l p.1 p.2) []
  let lastOf := fun a => ((es.reverse.find? fun p => u8At p.2 1 == a).map (·.1)).getD o
  checkAll (upTo 12) fun a => do
    let mine := l.filter fun x => x.arm == a
    need (isOrder (mine.map (·.order))) 0x504 (lastOf a + 2)
    need (decide (mine.length ≤ 16) && decide ((mine.map (·.cells)).sum ≤ 512)) 0x403 (lastOf a)
  let lanes := (c.slices.filter fun x => x.role == 1).map (·.target)
  need ((lanes.all fun n => l.any fun x => x.chain == n / 2) && l.all fun x => lanes.contains (2 * x.chain) && lanes.contains (2 * x.chain + 1))
    0x508 o
  return { c with chains := l }

/-- One CELLS entry (Table 03-9, R76). -/
def cellEntry (v : Variant) (chains : List ChainCfg) (seen : Tbl Bool) (o : Nat) (e : List Byte) : Chk (Tbl Bool × CellCfg) := do
  let n := u16At e 0
  need (decide (n < v.cells)) 0x401 o
  need ((chains.any fun x => overlaps n 1 x.base x.cells) && !Tbl.look false seen n) 0x505 o
  need (decide (u8At e 2 ≤ 2)) 0x506 (o + 2)
  reserved e o 3 5
  return (Tbl.put false seen n true, ⟨n, u8At e 2, u64At e 8⟩)

/-- CELLS: exactly one entry for every index of the chains (R76). -/
def cellsSection (v : Variant) (c : Cfg) (o : Nat) (b : List Byte) : Chk Cfg := do
  let (seen, l) ← (entries 16 o b).foldlM (fun (acc : Tbl Bool × List CellCfg) p => do
    let (t, x) ← cellEntry v c.chains acc.1 p.1 p.2
    return (t, x :: acc.2)) ([], [])
  need (decide (seen.length = (c.chains.map (·.cells)).sum)) 0x505 o
  return { c with cells := l.reverse }

/-- One ARMS entry (Tables 03-10 and 06-1, R6, R77, R130). -/
def armEntry (v : Variant) (chains : List ChainCfg) (l : List ArmCfg) (o : Nat) (e : List Byte) : Chk (List ArmCfg) := do
  let a := u8At e 0
  let mine := chains.filter fun x => x.arm == a
  let cells := (mine.map (·.cells)).sum
  need (decide (a < v.arms)) 0x404 o
  need (!(l.any fun x => x.arm == a)) 0x507 o
  need (decide (u8At e 3 ≤ 16)) 0x403 (o + 3)
  need (decide (1 ≤ u8At e 3)) 0x509 (o + 3)
  need (decide (u8At e 3 = mine.length)) 0x507 (o + 3)
  need (decide (u16At e 4 ≤ 512)) 0x403 (o + 4)
  need (decide (u16At e 4 = cells)) 0x507 (o + 4)
  need (between 4 (u16At e 6) 65532 && decide (u16At e 6 % 4 = 0)) 0x509 (o + 6)
  need (decide (u16At e 8 ≤ 4095)) 0x509 (o + 8)
  need (decide (u16At e 10 ≤ 5000)) 0x509 (o + 10)
  need (between 1 (u16At e 12) 65534) 0x509 (o + 12)
  need (decide (u16At e 12 < u16At e 14)) 0x509 (o + 14)
  need (decide (1 ≤ u16At e 20)) 0x509 (o + 20)
  need (decide (1 ≤ u16At e 24)) 0x509 (o + 24)
  need (decide (u16At e 26 ≤ 10000)) 0x509 (o + 26)
  need (decide (u16At e 30 < cells)) 0x509 (o + 30)
  return l ++ [
    { arm := a, conv := u8At e 1, place := u8At e 2, chains := u8At e 3, cells := cells, rankSpan := u16At e 6,
      keepBand := u16At e 8, minDwell := u16At e 10, ovPred := u16At e 12, ovTrip := u16At e 14, tWeight := s16At e 16,
      r1 := u16At e 18, tau1 := u16At e 20, r2 := u16At e 22, tau2 := u16At e 24, vOn := u16At e 26, eSw := u16At e 28,
      ptr0 := u16At e 30 }]

/-- ARMS: every chain's arm is declared, and there is one arm slice per declared arm (R75). -/
def armsSection (v : Variant) (c : Cfg) (o : Nat) (b : List Byte) : Chk Cfg := do
  let l ← (entries 32 o b).foldlM (fun l p => armEntry v c.chains l p.1 p.2) []
  need (c.chains.all fun x => l.any fun a => a.arm == x.arm) 0x504 o
  let arms := (c.slices.filter fun x => x.role == 2).map (·.target)
  need ((arms.all fun n => l.any fun a => a.arm == n) && l.all fun a => arms.contains a.arm) 0x508 o
  return { c with arms := l }

/-- The number of arms of a converter kind (Table 03-11). -/
def kindArms (kind : Nat) : Nat := if kind = 1 then 6 else if kind = 2 then 12 else 3

/-- One CONVERTERS entry (Table 03-11, R6, R7, R77). -/
def convEntry (v : Variant) (c : Cfg) (l : List ConvCfg) (o : Nat) (e : List Byte) : Chk (List ConvCfg) := do
  let n := u8At e 0
  let kind := u8At e 1
  let mask := u16At e 2
  let mf := u16At e 4
  let arms := (upTo 16).filter fun a => hasBit mask a
  let cfgs := c.arms.filter fun x => arms.contains x.arm
  need (decide (n ≤ 11)) 0x509 o
  need (!(l.any fun x => x.conv == n)) 0x507 o
  need (between 1 kind 3) 0x509 (o + 1)
  need (arms.all fun a => decide (a < v.arms)) 0x404 (o + 2)
  need (decide (arms.length = kindArms kind)) 0x507 (o + 2)
  need (if kind = 2 then between 200 mf 2000 else decide (mf = 0)) 0x507 (o + 4)
  need (decide (cfgs.length = arms.length) && (cfgs.all fun x => x.conv == n) && l.all fun x => arms.all fun a => !hasBit x.mask a)
    0x507 (o + 2)
  need (isOrder (cfgs.map (·.place))) 0x507 o
  need (c.chains.all fun ch => !arms.contains ch.arm || c.cells.all fun x =>
    !overlaps x.cell 1 ch.base ch.cells || decide ((x.cls = 2) ↔ (kind = 3))) 0x506 (o + 1)
  reserved e o 8 8
  return l ++ [⟨n, kind, mask, mf, u8At e 6, if u8At e 7 = 0 then 50 else u8At e 7⟩]

/-- CONVERTERS: every declared arm belongs to exactly one converter (R6, R77). -/
def convsSection (v : Variant) (c : Cfg) (o : Nat) (b : List Byte) : Chk Cfg := do
  let l ← (entries 16 o b).foldlM (fun l p => convEntry v c l p.1 p.2) []
  need (c.arms.all fun a => l.any fun x => hasBit x.mask a.arm) 0x507 o
  return { c with convs := l }

/-- A LIMITS field: zero takes the default, any other value must lie in the range (Table 03-12). -/
def limitField (x lo hi dflt off : Nat) : Chk Nat :=
  if x = 0 then .ok dflt else if between lo x hi then .ok x else .error (0x509, off)

/-- LIMITS (Table 03-12). -/
def limitsSection (c : Cfg) (o : Nat) (b : List Byte) : Chk Cfg := do
  let lease ← limitField (u8At b 0) 2 16 3 o
  let cellTimeout ← limitField (u8At b 1) 2 15 3 (o + 1)
  let shadow ← limitField (u16At b 2) 100 65535 500 (o + 2)
  let halftime ← limitField (u32At b 4) 60 604800 86400 (o + 4)
  let quiet ← limitField (u32At b 8) 100 60000 1000 (o + 8)
  let wake ← limitField (u16At b 12) 500 10000 2000 (o + 12)
  let alive ← limitField (u16At b 14) 10 10000 1000 (o + 14)
  reserved b o 16 16
  return { c with limits := ⟨lease, cellTimeout, shadow, halftime, quiet, wake, alive⟩ }

end Sys2Proof.Machine
end

