-- ==== Sys2Proof/Machine/SectionsControl.lean ====
section
/-! DEFINITION. The loader's checks of SAFETY (13_safety.md, R305, Tables 13-6 and 13-7), GRAPHS and COEFF (07_control_graphs.md,
R152 to R180, R420, R421, Tables 07-1 to 07-9). -/

namespace Sys2Proof.Machine

/-- A pair record of SAFETY (Table 13-6). -/
def safePair (groups tpoEn : Nat) (o : Nat) (e : List Byte) : Chk SafePairCfg := do
  let mode := u8At e 0
  if mode = 0 then
    need (zeroAt e 0 16) 0x731 o
    return default
  need (decide (mode ≤ 2)) 0x731 o
  let a := u8At e 1
  let b := u8At e 2
  need (decide (a ≤ 3 ∨ a = 255)) 0x731 (o + 1)
  need (decide (a = 255) || hasBit tpoEn a) 0x732 (o + 1)
  need (decide (b ≤ 3 ∨ b = 255)) 0x731 (o + 2)
  need (decide (b = 255) || hasBit tpoEn b) 0x732 (o + 2)
  need (decide (a = 255 ∨ a ≠ b)) 0x732 (o + 2)
  let g := u8At e 3
  need (decide (g < 8) && hasBit groups g) 0x733 (o + 3)
  need (between 5 (u16At e 4) 200) 0x731 (o + 4)
  need (between 10 (u16At e 6) 1000) 0x731 (o + 6)
  reserved e o 8 8
  return ⟨mode, a, b, g, u16At e 4 * 100000, u16At e 6 * 1000000⟩

/-- A group record of SAFETY (Table 13-6); `drives` tells whether the image has a DRIVE section, `l` the records before it. -/
def safeGroupRec (convs : List ConvCfg) (drives : Bool) (l : List SafeGroupCfg) (declared : Bool) (o : Nat) (e : List Byte) :
    Chk SafeGroupCfg := do
  if !declared then
    need (zeroAt e 0 40) 0x731 o
    return default
  let kind := u8At e 0
  let fire := u8At e 2
  let mask := u8At e 3
  need (between 1 kind 2) 0x731 o
  need (decide (u8At e 1 ≤ 1)) 0x731 (o + 1)
  if kind = 1 then
    need (decide (fire ≤ 3 ∨ fire = 255)) 0x731 (o + 2)
    need (decide (fire = 255) || !(l.any fun x => x.kind == 1 && x.fireCh == fire)) 0x734 (o + 2)
    need (decide (mask = 0)) 0x735 (o + 3)
  else
    need (decide (fire = 255)) 0x735 (o + 2)
    need (decide (mask < 16)) 0x731 (o + 3)
    need (decide (mask ≠ 0)) 0x733 (o + 3)
    need (!(l.any fun x => x.kind == 2 && (x.driveMask &&& mask) != 0)) 0x734 (o + 3)
    need drives 0x731 (o + 3)
  need (between 10 (u16At e 4) 60000) 0x731 (o + 4)
  need (decide (u16At e 6 ≤ 10000)) 0x731 (o + 6)
  need (between 1 (u16At e 8) 60000) 0x731 (o + 8)
  need (decide ((kind = 2) ↔ (0 < u16At e 10))) 0x731 (o + 10)
  reserved e o 24 16
  need (decide (kind = 2) || convs.any fun c => c.group == l.length) 0x733 o
  return { kind := kind, stop := u8At e 1, fireCh := fire, driveMask := mask, stopMaxMs := u16At e 4, envDelayMs := u16At e 6,
           rampMs := u16At e 8, decel := u16At e 10, pMargin := u32At e 12, pEnd := u32At e 16, speedMargin := u16At e 20,
           standstill := u16At e 22 }

/-- SAFETY (R305, Tables 13-6 and 13-7). -/
def safetySection (drives : Bool) (c : Cfg) (o : Nat) (b : List Byte) : Chk Cfg := do
  let groups := u8At b 0
  let en := u8At b 1
  let raw := if u16At b 2 = 0 then 5000 else u16At b 2
  let width := if u16At b 4 = 0 then 300 else u16At b 4
  need (decide (en < 16)) 0x731 (o + 1)
  need (between 2500 raw 25000) 0x731 (o + 2)
  need (between 200 width 1000 && decide (8 * width ≤ 4 * raw)) 0x731 (o + 4)
  reserved b o 6 58
  let pairs ← (cut 16 8 (o + 64) (slice b 64 128)).foldlM (fun l p => do return l ++ [← safePair groups en p.1 p.2]) []
  let group ← (cut 40 8 (o + 192) (slice b 192 320)).foldlM
    (fun (l : List SafeGroupCfg) p => do return l ++ [← safeGroupRec c.convs drives l (hasBit groups l.length) p.1 p.2]) []
  checkAll c.convs fun x => do
    need (decide (x.group < 8) && hasBit groups x.group) 0x733 o
    need (decide ((group.getD x.group default).kind = 1)) 0x735 (o + 192 + 40 * x.group)
  return { c with safety := ⟨groups, en, raw * 4000, width * 1000, pairs, group⟩ }

/-- The block types of Table 07-4. -/
def blockKnown (type : Nat) : Bool := between 0x01 type 0x13

/-- The modes and option bytes a type takes (R159 to R173). -/
def modeOk (b : Block) : Bool :=
  (decide (b.opt = 0) || decide (b.type = 0x01 ∧ b.opt = 1))
    && match b.type with
      | 0x01 => decide (8 < b.nIn ∨ b.mode < 2 ^ b.nIn)
      | 0x04 => between 1 b.mode 15
      | 0x0A => decide (b.mode ≤ 3)
      | 0x0C => between 2 b.mode 32
      | 0x0E => between 1 b.mode 64
      | 0x0F => decide (b.mode ≤ 2)
      | 0x10 => decide (b.mode ≤ 1)
      | 0x11 => decide (b.mode ≤ 1)
      | 0x12 => true
      | 0x13 => between 1 b.mode 6
      | _ => decide (b.mode = 0)

/-- The numbers of inputs a type takes (R159, Table 07-4). -/
def inputsOk (b : Block) : Bool :=
  match b.type with
  | 0x01 => between 1 b.nIn 8
  | 0x02 => decide (b.nIn = 1)
  | 0x05 => decide (b.nIn = 2)
  | 0x07 => decide (b.nIn = 1 ∨ b.nIn = 3)
  | 0x08 => decide (b.nIn = 2)
  | 0x0A => decide (b.nIn = if b.mode = 1 then 2 else 3)
  | 0x0C => decide (b.nIn = 1)
  | 0x0E => decide (b.nIn = 1)
  | 0x0F => decide (b.nIn = 2)
  | 0x10 => decide (b.nIn = 2)
  | 0x11 => between 1 b.nIn 8
  | 0x12 => decide (b.nIn = 0)
  | 0x13 => decide (b.nIn = 5)
  | _ => decide (b.nIn = 3)

/-- Whether an operand word is one of Table 07-1: `earlier` holds the blocks before the reading one, `exports` the export counts. -/
def operandOk (earlier : List Block) (coefs : Nat) (exports : Nat → Nat) (w : Nat) : Bool :=
  let p := w % 2 ^ 28
  match w / 2 ^ 28 with
  | 0 => decide (p = 0)
  | 1 =>
    match earlier[p % 256]? with
    | some b => decide (p < 1024) && decide (p / 256 < outCount b.type b.mode)
    | none => false
  | 2 => decide (p < coefs)
  | 3 =>
    let off := p % 2 ^ 17
    let size := if p / 2 ^ 17 % 8 = 0 then 4 else if p / 2 ^ 17 % 8 ≤ 2 then 2 else 1
    decide (p / 2 ^ 17 ≤ 4) && decide (off ≤ 0x1ACFF) && decide (off % size = 0)
  | 4 => decide (p < 256) && decide (p / 8 < exports (p % 8))
  | 5 => decide (p < 64)
  | 6 => decide (p ≤ 7)
  | _ => false

/-- Whether a block's sink is one of Table 07-2 (R156, Table 07-9). -/
def sinkOk (c : Cfg) (exports : Nat) (b : Block) : Bool :=
  let t := b.sink % 4096
  match b.sink / 4096 with
  | 0 => decide (b.sinkPort < outCount b.type b.mode) && decide (t = 0)
  | 1 => decide (b.sinkPort < outCount b.type b.mode) && (c.arms.any fun a => a.arm == t / 256) && decide (t % 256 ≤ 8)
  | 2 => decide (b.sinkPort < outCount b.type b.mode) && (c.convs.any fun v => v.conv == t / 256) && decide (t % 256 ≤ 15)
  | 3 => decide (b.sinkPort < outCount b.type b.mode) && decide (t < exports)
  | 4 => decide (b.sinkPort < outCount b.type b.mode) && decide (t = 0)
  | _ => false

/-- The sinks written so far: position and sink word. A position's exports and QUIET are its own; arm and converter words are the
image's (R152, R156). -/
def sinkTaken (l : List (Nat × Nat)) (position sink : Nat) : Bool :=
  decide (sink / 4096 ≠ 0) && l.any fun p => p.2 == sink && (decide (sink / 4096 ≤ 2) || p.1 == position)

/-- Whether another position writes a word of the arm this sink names (R152). -/
def armShared (l : List (Nat × Nat)) (position sink : Nat) : Bool :=
  decide (sink / 4096 = 1) && l.any fun p => p.2 / 4096 == 1 && p.2 / 256 == sink / 256 && p.1 != position

/-- One graph record as its header states it (Table 07-7). -/
structure GraphHead where
  off : Nat
  position : Nat
  exports : Nat
  blocks : Nat
  coefs : Nat
  states : Nat
  body : List Byte
  deriving Inhabited

/-- The headers of the graph records, in file order (R178, R180). -/
def graphHeads : Nat → Nat → List Byte → List GraphHead → Chk (List GraphHead)
  | 0, o, b, l =>
    match firstNonZero b o with
    | some i => .error (0x701, i)
    | none => .ok l
  | n + 1, o, b, l => do
    need (decide (32 ≤ b.length)) 0x701 o
    let position := u8At b 0
    let blocks := u16At b 2
    let states := u16At b 6
    let size := 32 + 48 * blocks + 4 * (states + states % 2) + 256
    need (decide (position ≤ 7) && !(l.any fun x => x.position == position)) 0x701 o
    need (decide (u8At b 1 ≤ 32)) 0x40B (o + 1)
    need (decide (0 < blocks)) 0x701 (o + 2)
    need (decide (blocks ≤ 256)) 0x40B (o + 2)
    need (decide (u16At b 4 ≤ 2048)) 0x40B (o + 4)
    need (decide (states ≤ 1536)) 0x708 (o + 6)
    need (decide (u32At b 8 = size) && decide (size ≤ b.length)) 0x701 (o + 8)
    reserved b o 12 20
    graphHeads n (o + size) (b.drop size) (l ++ [⟨o, position, u8At b 1, blocks, u16At b 4, states, b.take size⟩])

/-- One block entry (Table 07-8), without its checks. -/
def readBlock (e : List Byte) : Block :=
  { type := u8At e 0, mode := u8At e 1, nIn := u8At e 2, opt := u8At e 3, coef := u16At e 4, sink := u16At e 6,
    sinkPort := u8At e 8, ops := (upTo 8).map fun i => u32At e (16 + 4 * i) }

/-- The checks of one block entry (Tables 07-8 and 07-9): `l` the blocks before it, `sinks` the sinks written so far. -/
def blockEntry (c : Cfg) (exports : Nat → Nat) (g : GraphHead) (l : List Block) (sinks : List (Nat × Nat)) (o : Nat) (e : List Byte) :
    Chk Block := do
  let b := readBlock e
  need (blockKnown b.type && modeOk b) 0x702 o
  need (inputsOk b) 0x703 o
  let n := coefCount b.type b.mode b.nIn
  need (decide (n = 0 ∨ b.coef + n ≤ g.coefs)) 0x705 o
  need (decide (b.type ≠ 0x12) || c.arms.any fun a => a.arm == b.mode % 16) 0x706 o
  need (sinkOk c g.exports b && !sinkTaken sinks g.position b.sink && !armShared sinks g.position b.sink) 0x707 o
  reserved e o 9 7
  checkAll (b.ops.zip (upTo 8)) fun p =>
    need (if p.2 < b.nIn then operandOk l g.coefs exports p.1 else decide (p.1 = 0)) 0x704 (o + 16 + 4 * p.2)
  return b

/-- The blocks of a graph whose states precede block i: the number of state words. -/
def statesOf (l : List Block) : Nat := (l.map fun b => stateWords b.type b.mode).sum

/-- One graph record: its blocks, initial states and parameters (R178, R420, R421). -/
def graphRecord (c : Cfg) (exports : Nat → Nat) (sinks : List (Nat × Nat)) (g : GraphHead) : Chk (Graph × List (Nat × Nat)) := do
  let (blocks, sinks) ← (cut 48 g.blocks (g.off + 32) (g.body.drop 32)).foldlM
    (fun (acc : List Block × List (Nat × Nat)) p => do
      let b ← blockEntry c exports g acc.1 acc.2 p.1 p.2
      return (acc.1 ++ [b], if b.sink / 4096 = 0 then acc.2 else acc.2 ++ [(g.position, b.sink)])) ([], sinks)
  need (decide (statesOf blocks = g.states)) 0x708 (g.off + 6)
  let so := 32 + 48 * g.blocks
  let tail := g.body.drop so
  let words := fun (b : List Byte) n => (cut 4 n 0 b).map fun p => s32At p.2 0
  let init := words tail g.states
  checkAll (upTo blocks.length) fun i => do
    let b := blocks.getD i default
    let k := statesOf (blocks.take i) + b.mode
    let x := init.getD k 0
    need (decide (b.type ≠ 0x0E) || (decide (0 ≤ x) && decide (x < b.mode))) 0x708 (g.off + so + 4 * k)
  reserved tail (g.off + so) (4 * g.states) (4 * (g.states % 2))
  let params := words (tail.drop (4 * (g.states + g.states % 2))) 64
  return ({ position := g.position, exports := g.exports, blocks := blocks, coefEntries := g.coefs, init := init,
            params0 := params, bankA := [], bankB := [] }, sinks)

/-- GRAPHS (R178, R180): the section header, the records, and the conditions over the whole image. -/
def graphsSection (c : Cfg) (o : Nat) (b : List Byte) : Chk Cfg := do
  need (between 1 (u8At b 0) 8) 0x701 o
  reserved b o 1 7
  let heads ← graphHeads (u8At b 0) (o + 8) (b.drop 8) []
  let exports := fun p => ((heads.find? fun g => g.position == p).map (·.exports)).getD 0
  let (graphs, sinks) ← heads.foldlM (fun (acc : List Graph × List (Nat × Nat)) g => do
    let (x, sinks) ← graphRecord c exports acc.2 g
    return (acc.1 ++ [x], sinks)) ([], [])
  checkAll heads fun g => need ((upTo g.exports).all fun i => sinks.contains (g.position, 0x3000 + i)) 0x707 (g.off + 1)
  checkAll c.arms fun a => do
    let mine := sinks.filter fun p => p.2 / 256 == 16 + a.arm
    let at_ := ((heads.find? fun g => mine.any fun p => p.1 == g.position).map (·.off)).getD o
    need (mine.isEmpty || mine.any fun p => p.2 % 256 == 0) 0x707 at_
  checkAll (upTo 8) fun p => do
    let g := heads.find? fun g => g.position == p
    need (decide ((c.frame.engStatic.getD p 0 = 0) ↔ g.isNone)) 0x50A ((g.map (·.off)).getD o)
  return { c with graphs := graphs }

/-- A bank of n entries at image offset `o` (R179). -/
def readBank (n o : Nat) (b : List Byte) : Chk (List Coef) := do
  let es := cut 8 n o b
  checkAll es fun p => reserved p.2 p.1 5 3
  return es.map fun p => ⟨s32At p.2 0, u8At p.2 4⟩

/-- The records of COEFF, in file order (R179, Table 07-9). -/
def coefRecords (c : Cfg) : Nat → Nat → List Byte → List (Nat × List Coef × List Coef) → Chk (List (Nat × List Coef × List Coef))
  | 0, _, _, l => .ok l
  | fuel + 1, o, b, l => do
    if b.isEmpty then return l
    need (decide (8 ≤ b.length)) 0x709 o
    let position := u8At b 0
    let n := u16At b 2
    match c.graphs.find? (fun g => g.position == position) with
    | none => .error (0x709, o)
    | some g =>
      need (!(l.any fun x => x.1 == position)) 0x709 o
      reserved b o 1 1
      need (decide (n = g.coefEntries)) 0x709 (o + 2)
      need (decide (8 + 16 * n ≤ b.length)) 0x709 (o + 2)
      reserved b o 4 4
      let bankA ← readBank n (o + 8) (slice b 8 (8 * n))
      let bankB ← readBank n (o + 8 + 8 * n) (slice b (8 + 8 * n) (8 * n))
      match bankFault g bankA, bankFault g bankB with
      | some (code, e), _ => .error (code, o + 8 + 8 * e)
      | none, some (code, e) => .error (code, o + 8 + 8 * n + 8 * e)
      | none, none => coefRecords c fuel (o + 8 + 16 * n) (b.drop (8 + 16 * n)) (l ++ [(position, bankA, bankB)])

/-- A graph with the banks of its COEFF record. -/
def withBanks (l : List (Nat × List Coef × List Coef)) (g : Graph) : Graph :=
  match l.find? (fun x => x.1 == g.position) with
  | some x => { g with bankA := x.2.1, bankB := x.2.2 }
  | none => g

/-- COEFF (R179, R180): one record per graph. -/
def coeffSection (c : Cfg) (o : Nat) (b : List Byte) : Chk Cfg := do
  let l ← coefRecords c 9 o b []
  need (c.graphs.all fun g => l.any fun x => x.1 == g.position) 0x709 o
  return { c with graphs := c.graphs.map (withBanks l) }

end Sys2Proof.Machine
end

