-- ==== Sys2Proof/Machine/SectionsIo.lean ====
section
/-! DEFINITION. The loader's checks of the optional sections: ADC (10_analogue.md, R243), DRIVE (11_drive_stage.md, R267;
12_drive_motor.md, R285), CAN (15_can.md, R339), TIME (14_time_ethernet.md, R323) and BACKBONE (16_host_backbone.md, R357). -/

namespace Sys2Proof.Machine

/-- A sequencer entry (Table 10-9). -/
def adcEntryRec (inputs : List Nat) (o : Nat) (e : List Byte) : Chk AdcEntry := do
  let i := u8At e 0
  need (decide (i ≤ 63) && decide (4 ≤ inputs.getD i 0)) 0x711 o
  need (between 3 (u8At e 1) 255) 0x712 (o + 1)
  need (decide (u8At e 2 ≤ 31)) 0x712 (o + 2)
  need (decide (u8At e 3 ≤ 1)) 0x712 (o + 3)
  reserved e o 20 4
  return { input := i, acq := u8At e 1, shift := u8At e 2, winEn := u8At e 3 == 1, scale := s32At e 4, offset := s32At e 8,
           hi := s32At e 12, lo := s32At e 16 }

/-- A SAR converter's record (Table 10-6): its length, SEQ_EN and entries; the burst fits at period_min_ns (R232). -/
def adcConvRec (f : FrameCfg) (inputs : List Nat) (o : Nat) (b : List Byte) : Chk (Nat × Bool × List AdcEntry) := do
  let len := u8At b 0
  need (decide (len ≤ 32)) 0x712 o
  need (decide (u8At b 1 ≤ 1)) 0x712 (o + 1)
  reserved b o 2 6
  let es ← (cut 24 32 (o + 8) (b.drop 8)).foldlM (fun (l : List AdcEntry) p => do
    if p.1 < o + 8 + 24 * len then return l ++ [← adcEntryRec inputs p.1 p.2]
    need (zeroAt p.2 0 24) 0x712 p.1
    return l) []
  need (burstFits es f.pmin f.sample f.freeze) 0x713 o
  return (len, u8At b 1 == 1, es)

/-- A ΔΣ channel's record (Table 10-6); `present` tells whether the variant has its drive unit. -/
def adcDsRec (present : Bool) (o : Nat) (e : List Byte) : Chk DsCfg := do
  if !present then
    need (zeroAt e 0 16) 0x714 o
    return default
  need (between 1 (u8At e 0) 4) 0x714 o
  need (between 4 (u8At e 1) 8) 0x714 (o + 1)
  need (decide (u8At e 2 ≤ 31)) 0x714 (o + 2)
  reserved e o 3 1
  reserved e o 12 4
  return ⟨u8At e 0, u8At e 1, u8At e 2, s32At e 4, s32At e 8⟩

/-- The kind of the converter an arm belongs to. -/
def Cfg.armKind (c : Cfg) (a : Nat) : Option Nat := do
  let x ← c.arms.find? (·.arm == a)
  let v ← c.convs.find? (·.conv == x.conv)
  return v.kind

/-- A value whose zero stands for a default. -/
def orElse0 (x dflt : Nat) : Nat := if x = 0 then dflt else x

/-- ADC (R243, Tables 10-6, 10-7 and 10-9). -/
def adcSection (v : Variant) (c : Cfg) (o : Nat) (b : List Byte) : Chk Cfg := do
  need (decide (u8At b 0 ≤ 1)) 0x712 o
  reserved b o 1 7
  let inputs ← (cut 4 64 (o + 32) (slice b 32 256)).foldlM (fun (l : List Nat) p => do
    need (decide (u8At p.2 0 ≤ 3)) 0x711 p.1
    need (decide (u8At p.2 1 ≤ 1)) 0x711 (p.1 + 1)
    reserved p.2 p.1 2 2
    return l ++ [u8At p.2 0 + 4 * u8At p.2 1]) []
  let convs ← (cut 776 8 (o + 288) (slice b 288 6208)).foldlM
    (fun (l : List (Nat × Bool × List AdcEntry)) p => do return l ++ [← adcConvRec c.frame inputs p.1 p.2]) []
  let ds ← (cut 16 16 (o + 6496) (slice b 6496 256)).foldlM
    (fun (l : List DsCfg) p => do return l ++ [← adcDsRec (decide (l.length / 4 < v.drives)) p.1 p.2]) []
  reserved b o 6754 2
  reserved b o 6758 2
  let src := (upTo 12).map fun a => u16At b (8 + 2 * a)
  checkAll (upTo 12) fun a => do
    let w := src.getD a 0
    let off := o + 8 + 2 * a
    match c.armKind a with
    | none => need (decide (w = 0xFFFF)) 0x715 off
    | some kind =>
      let x := convs.getD (w / 256 % 8) default
      need (if w = 0xFFFF then decide (kind = 3)
        else decide (w / 2048 = 0 ∧ w / 32 % 8 = 0) && x.2.1 && decide (w % 32 < x.1)) 0x715 off
  let x : AdcCfg :=
    { refAuto := u8At b 0 == 1, armSrc := src, inputs := inputs, lens := convs.map (·.1), seqEn := convs.map (·.2.1),
      entries := convs.map (·.2.2), ds := ds, diodes := [orElse0 (u16At b 6752) 4136, orElse0 (u16At b 6756) 4136] }
  return { c with adc := some x }

/-- Whether an ADC entry is declared, on a converter that runs (R285). -/
def Cfg.adcDeclares (c : Cfg) (conv entry : Nat) : Bool :=
  match c.adc with
  | none => false
  | some a => a.seqEn.getD conv false && decide (entry < a.lens.getD conv 0)

/-- Bytes 0 to 63 of a unit record (Table 11-7): the staged set it loads at commit. -/
def driveRec (o : Nat) (e : List Byte) : Chk DrvSet := do
  let mode := u8At e 0
  let motor := decide (mode = 2)
  let top := u32At e 8
  need (decide (mode ≤ 2)) 0x721 o
  need (decide (u8At e 2 < 32)) 0x721 (o + 2)
  need (decide (u8At e 4 < 64)) 0x721 (o + 4)
  need (between 5 (u8At e 5) 60) 0x721 (o + 5)
  need (decide (u16At e 6 ≤ 500)) 0x721 (o + 6)
  need (between 2500 top 125000) 0x721 (o + 8)
  checkAll (upTo 3) fun x => need (between 25 (u16At e (12 + 2 * x)) 2500) 0x721 (o + 12 + 2 * x)
  need (decide (u16At e 18 = 0)) 0x721 (o + 18)
  checkAll (upTo 4) fun x => need (decide (u8At e (20 + x) ≤ 3) && (!motor || decide (x = 3 ∨ u8At e (20 + x) = 0))) 0x721 (o + 20 + x)
  checkAll (upTo 3) fun x => need (decide (u32At e (24 + 4 * x) ≤ if motor then 0 else top)) 0x721 (o + 24 + 4 * x)
  need (decide (u32At e 36 ≤ u32At e 40)) 0x721 (o + 36)
  need (between 500 (u32At e 40) 5000000) 0x721 (o + 40)
  reserved e o 44 20
  let a : DrvSet :=
    { mode := mode, top := top, src := u8At e 1 % 16, snk := u8At e 1 / 16, soft := u8At e 2 % 16, chSrc := u8At e 3 % 16,
      chSnk := u8At e 3 / 16, chSoft := u8At e 4 % 16, tempComp := hasBit (u8At e 2) 4, blank := u8At e 5, minPulse := u16At e 6,
      chopMode := bitOf (u8At e 4) 5, chopSide := bitOf (u8At e 4) 4, chopTime := u32At e 36, chopPeriod := u32At e 40,
      dead := (upTo 3).map fun x => u16At e (12 + 2 * x), legMode := (upTo 4).map fun x => u8At e (20 + x),
      cmp := (upTo 3).map fun x => u32At e (24 + 4 * x) }
  need a.loads 0x722 o
  return a

/-- What the CX0768 refuses in a motor record whatever the unit's mode: a stored curve, at byte `k` (R285, R3). -/
def storedCurve (v : Variant) (e : List Byte) (k : Nat) : Bool :=
  decide (v = .cx0768) && ((decide (k = 66) && decide (u8At e 66 = 4)) || decide (k = 111) || decide (192 ≤ k))

/-- A range check of the motor part: 0724h. -/
def motNeed (o : Nat) (c : Bool) (off : Nat) : Chk Unit := need c 0x724 (o + off)

/-- The points of a table: two bytes each. -/
def points (e : List Byte) (lo n : Nat) : List (Nat × Nat) := (upTo n).map fun i => (u8At e (lo + 2 * i), u8At e (lo + 2 * i + 1))

/-- A table whose first values rise strictly; 0725h at the first point that does not. -/
def rising (l : List (Nat × Nat)) (o : Nat) : Chk Unit :=
  checkAll (upTo (l.length - 1)) fun i => need (decide ((l.getD i default).1 < (l.getD (i + 1) default).1)) 0x725 (o + 2 * (i + 1))

/-- Bytes 64 to 255 of a unit in MOTOR mode (Table 12-4, R269, R275, R285). -/
def motorRec (v : Variant) (c : Cfg) (priv : Bool) (u o : Nat) (e : List Byte) : Chk MotCfg := do
  let src := u8At e 66
  let sel := u16At e 68
  let smax := u16At e 78
  let n := u8At e 111
  need (!storedCurve v e 66) 0x408 (o + 66)
  motNeed o (between 1 (u8At e 65) 32) 65
  motNeed o (decide (src ≤ 4)) 66
  motNeed o (decide (u8At e 67 ≤ 1)) 67
  motNeed o (decide (sel / 4096 ≤ 2) && decide (bitsOf sel 11 1 = 0) && decide (bitsOf sel 6 2 = 0)) 68
  motNeed o (decide (src ≠ 4 ∨ sel / 4096 ≠ 1 ∨ sel % 64 ≤ 19)) 68
  need (!(decide (src = 1) || decide (src = 4 ∧ sel / 4096 = 2)) || (decide (bitsOf sel 5 1 = 0) && c.adcDeclares (sel / 256 % 8) (sel % 32)))
    0x726 (o + 68)
  checkAll [70, 72, 74, 76] fun k => motNeed o (between 1 (u16At e k) 65535) k
  motNeed o (between 100 smax 30000) 78
  checkAll [80, 82] fun k => motNeed o (between 1 (u16At e k) 65535) k
  motNeed o (decide (u16At e 84 < u16At e 86)) 84
  motNeed o (decide (u16At e 86 < smax)) 86
  motNeed o (decide (u16At e 88 ≤ u16At e 90)) 90
  motNeed o (between 100 (u16At e 92) 5000) 92
  checkAll [94, 96] fun k => motNeed o (between 1 (u16At e k) 65535) k
  motNeed o (decide (u16At e 100 < u16At e 98)) 100
  motNeed o (decide (u16At e 98 < u16At e 102)) 102
  motNeed o (between 10 (u16At e 104) 10000) 104
  motNeed o (decide (u16At e 106 ≤ smax)) 106
  motNeed o (between 32768 (u16At e 108) 65535) 108
  motNeed o (between 10 (u8At e 110) 100) 110
  need (!(decide (v = .cx0768) && decide (n ≠ 0))) 0x408 (o + 111)
  motNeed o (if src = 4 then between 2 n 32 else decide (n = 0)) 111
  checkAll (upTo 4) fun k => do
    motNeed o (decide (u8At e (116 + 8 * k) ≤ 31)) (116 + 8 * k)
    reserved e o (117 + 8 * k) 3
  motNeed o (decide (s32At e 144 < s32At e 148)) 148
  motNeed o (decide (u16At e 152 ≤ u16At e 154)) 152
  motNeed o (decide (u16At e 154 ≤ smax)) 154
  motNeed o (between 10 (u16At e 156) 5000) 156
  motNeed o (if src = 4 then between 1 (u8At e 158) 20 else decide (u8At e 158 = 0)) 158
  reserved e o 159 1
  let adv := points e 160 16
  if priv then motNeed o (zeroAt e 160 32) 160
  else
    checkAll (upTo 16) fun i => motNeed o (decide ((adv.getD i default).2 ≤ 180)) (161 + 2 * i)
    rising adv (o + 160)
  let curve := points e 192 32
  need (!(decide (v = .cx0768)) || zeroAt e 192 64) 0x408 (o + 192)
  rising (curve.take n) (o + 192)
  checkAll (upTo 32) fun i => motNeed o (decide (i < n ∨ curve.getD i default = (0, 0))) (192 + 2 * i)
  let rates := match c.adc with
    | none => []
    | some a => (a.ds.drop (4 * u)).take 4
  need (decide (rates.length = 4) && rates.all fun d => decide (25 * 2 ^ d.log2r ≤ 2 * u32At e 8)) 0x726 (o + 8)
  return { capfilt := u8At e 64, polePairs := u8At e 65, src := src, reverse := u8At e 67 == 1, srcSel := sel, rs := u16At e 70,
           ls := u16At e 72, psi := u16At e 74, iMax := u16At e 76, speedMax := smax, accel := u16At e 80, decel := u16At e 82,
           shortBrake := u16At e 84, handover := u16At e 86, confMin := u16At e 88, confCatch := u16At e 90, probeNs := u16At e 92,
           stopCoastMs := u16At e 94, shortMs := u16At e 96, chopOn := u16At e 98, chopOff := u16At e 100, ov2 := u16At e 102,
           chopCheckUs := u16At e 104, failSpeed := u16At e 106, vlim := u16At e 108, throttlePct := u8At e 110, curveN := n,
           gains := (upTo 4).map fun k => ⟨s32At e (112 + 8 * k), u8At e (116 + 8 * k)⟩, inLo := s32At e 144, inHi := s32At e 148,
           spdLo := u16At e 152, spdHi := u16At e 154, timeoutMs := u16At e 156, curveHyst := u8At e 158, adv := adv,
           curve := curve, priv := priv }

/-- The record of one drive unit (R267, R285), added to the image. -/
def driveUnit (v : Variant) (units priv : Nat) (c : Cfg) (u o : Nat) (e : List Byte) : Chk Cfg := do
  if !hasBit units u then
    need (zeroAt e 0 256) 0x723 o
    return c
  let a ← driveRec o e
  let c := { c with drives := c.drives ++ [(u, a)] }
  if a.mode = 2 then
    let m ← motorRec v c (hasBit priv u) u o e
    let groups := c.safety.group.filter fun g => g.kind == 2 && hasBit g.driveMask u
    need (groups.all fun g => decide (g.standstill < m.speedMax)) 0x731 (o + 78)
    return { c with motors := c.motors ++ [(u, m)] }
  match firstNonZero (slice e 64 192) 64 with
  | none => return c
  | some k => .error (if storedCurve v e k then 0x408 else 0x724, o + k)

/-- DRIVE (R267, R271, R285, Table 11-8), with the units of the drive groups of SAFETY (Table 13-6). -/
def driveSection (v : Variant) (c : Cfg) (o : Nat) (b : List Byte) : Chk Cfg := do
  let units := u8At b 0
  let priv := u8At b 1
  need (decide (units < 16)) 0x721 o
  need (decide (units < 2 ^ v.drives)) 0x406 o
  need (c.safety.group.all fun g => decide (g.kind ≠ 2) || decide (g.driveMask &&& units = g.driveMask)) 0x731 o
  need (decide (priv < 16)) 0x724 (o + 1)
  need (decide (((upTo 4).filter fun u => hasBit priv u).length ≤ if v = .cx1536 then 2 else 1)) 0x407 (o + 1)
  reserved b o 2 14
  (cut 256 4 (o + 16) (b.drop 16)).foldlM (fun c p => driveUnit v units priv c ((p.1 - o - 16) / 256) p.1 p.2)
    { c with drives := [], motors := [], drivePriv := priv }

/-- A phase of bit timing (R325): the four values within their ranges. -/
def timingOk (brp seg1 seg2 sjw maxBrp minSeg1 maxSeg1 maxSeg2 : Nat) : Bool :=
  between 1 brp maxBrp && between minSeg1 seg1 maxSeg1 && between 1 seg2 maxSeg2 && between 1 sjw seg2

/-- A controller record of CAN (Table 15-6, R325 to R329). -/
def canRec (n o : Nat) (e : List Byte) : Chk CanCfg := do
  let flags := u8At e 1
  let fd := hasBit flags 0
  let a := u8At e 2
  let b := u8At e 3
  let cols := u8At e 4
  need (decide (u8At e 0 ≤ 4)) 0x751 o
  need (decide (flags < 16)) 0x751 (o + 1)
  need (fd || decide (flags / 2 % 2 = 0 ∧ flags / 8 = 0)) 0x752 (o + 1)
  need (decide (a ≤ 8)) 0x751 (o + 2)
  need (decide (b ≤ 4)) 0x751 (o + 3)
  need (between 1 cols 64) 0x751 (o + 4)
  need (decide (u8At e 5 ≤ if hasBit flags 3 then 127 else 0)) 0x751 (o + 5)
  reserved e o 6 2
  let nbt := [u16At e 8, u16At e 10, u8At e 12, u8At e 13]
  let dbt := [u8At e 14, u8At e 15, u8At e 16, u8At e 17]
  let bit := fun (l : List Nat) => l.getD 0 0 * (1 + l.getD 1 0 + l.getD 2 0) * 10
  need (timingOk (nbt.getD 0 0) (nbt.getD 1 0) (nbt.getD 2 0) (nbt.getD 3 0) 256 2 256 128 && decide (1000 ≤ bit nbt)) 0x752 (o + 8)
  if fd then
    need (timingOk (dbt.getD 0 0) (dbt.getD 1 0) (dbt.getD 2 0) (dbt.getD 3 0) 32 1 32 16 && between 200 (bit dbt) (bit nbt))
      0x752 (o + 14)
  else need (zeroAt e 14 4) 0x751 (o + 14)
  reserved e o 18 46
  let columns ← (cut 4 64 (o + 64) (slice e 64 256)).foldlM (fun (l : List (Nat × Nat)) p => do
    if cols ≤ l.length ∨ o + 64 + 4 * cols ≤ p.1 then
      need (zeroAt p.2 0 4) 0x751 p.1
      return l
    need (decide (u8At p.2 0 < 2 ^ a)) 0x751 p.1
    reserved p.2 p.1 1 1
    need (decide (u16At p.2 2 ≤ 9999)) 0x751 (p.1 + 2)
    need (match l.getLast? with
      | none => true
      | some x => decide (x.1 < u8At p.2 0 ∨ (x.1 = u8At p.2 0 ∧ x.2 < u16At p.2 2))) 0x753 p.1
    return l ++ [(u8At p.2 0, u16At p.2 2)]) []
  let elems := (slice e 320 1024).map (·.toNat)
  checkAll (elems.zip (upTo 1024)) fun p => do
    let off := o + 320 + p.2
    if p.1 ≠ 0 then
      need (decide (p.2 / 64 < 2 ^ b ∧ p.2 % 64 < cols)) 0x753 off
      need (decide (p.1 / 64 ≠ 3)) 0x753 off
      need (decide (p.1 / 32 % 2 = 0) && decide (p.1 % 32 ≤ if p.1 / 64 = 0 then 0 else 30)) 0x751 off
  let filters := (cut 8 32 (o + 1344) (slice e 1344 256)).map fun p => (p.1, u32At p.2 0, u32At p.2 4)
  checkAll filters fun p => do
    need (decide (bitsOf p.2.1 29 1 = 0)) 0x751 p.1
    need (decide (p.2.2 < 2 ^ 29)) 0x751 (p.1 + 4)
  return { can := n, mode := u8At e 0, fdEn := fd, brsEn := hasBit flags 1, autoRecover := hasBit flags 2, a := a, b := b,
           cols := columns, nbt := nbt, dbt := dbt, tdcEn := hasBit flags 3, tdco := u8At e 5, elems := elems,
           filters := filters.map (·.2) }

/-- CAN (R339, Table 15-7). -/
def canSection (c : Cfg) (o : Nat) (b : List Byte) : Chk Cfg := do
  let declared := u8At b 0
  need (decide (declared < 16)) 0x751 o
  reserved b o 1 15
  let l ← (cut 1600 4 (o + 16) (b.drop 16)).foldlM (fun (l : List CanCfg) p => do
    let n := (p.1 - o - 16) / 1600
    if hasBit declared n then return l ++ [← canRec n p.1 p.2]
    need (zeroAt p.2 0 1600) 0x751 p.1
    return l) []
  return { c with cans := l }

/-- What the time base takes where the image has no TIME section (R323, Table 14-6). -/
def timeDefault : TimeCfg :=
  { modes := [0, 0], flags := [0, 0], macs := [List.replicate 6 0, List.replicate 6 0], align := 0, slew := 10, servo := 0, edge := 0,
    offset := 0, kp := 138, ki := 28, lockNs := 100, lat := [0, 0, 0, 0] }

/-- TIME (R323, Tables 14-6 and 14-7). -/
def timeSection (c : Cfg) (o : Nat) (b : List Byte) : Chk Cfg := do
  checkAll (upTo 2) fun p => need (decide (u8At b p ≤ 2)) 0x741 (o + p)
  checkAll (upTo 2) fun p => need (decide (u8At b (2 + p) ≤ 1)) 0x741 (o + 2 + p)
  checkAll (upTo 2) fun p =>
    need (if u8At b p = 0 then zeroAt b (4 + 6 * p) 6 else decide (u8At b (4 + 6 * p) % 2 = 0)) 0x742 (o + 4 + 6 * p)
  need (decide (u32At b 16 < c.frame.period)) 0x741 (o + 16)
  need (decide (u8At b 20 ≤ 100)) 0x741 (o + 20)
  need (decide (u8At b 21 ≤ 1)) 0x741 (o + 21)
  need (decide (u8At b 22 ≤ 1)) 0x741 (o + 22)
  reserved b o 23 1
  need (decide (-1000000 ≤ s32At b 24) && decide (s32At b 24 ≤ 1000000)) 0x741 (o + 24)
  need (decide (u16At b 30 = 0) || between 10 (u16At b 30) 10000) 0x741 (o + 30)
  reserved b o 40 24
  let x : TimeCfg :=
    { modes := [u8At b 0, u8At b 1], flags := [u8At b 2, u8At b 3], macs := [slice b 4 6, slice b 10 6], align := u32At b 16,
      slew := orElse0 (u8At b 20) 10, servo := u8At b 21, edge := u8At b 22, offset := s32At b 24, kp := orElse0 (u8At b 28) 138,
      ki := orElse0 (u8At b 29) 28, lockNs := orElse0 (u16At b 30) 100, lat := (upTo 4).map fun i => s16At b (32 + 2 * i) }
  return { c with time := x }

/-- BACKBONE (R357, Tables 16-7 and 16-8). -/
def backboneSection (c : Cfg) (o : Nat) (b : List Byte) : Chk Cfg := do
  let node := u8At b 0
  let pp := u8At b 1
  need (between 1 node 254) 0x761 o
  need (decide (pp ≤ 3 ∨ pp = 255)) 0x761 (o + 1)
  need (decide (pp = 255) || decide (u8At b (16 + 16 * pp) = 1)) 0x763 (o + 1)
  reserved b o 2 14
  let ports ← (cut 16 4 (o + 16) (slice b 16 64)).foldlM (fun (l : List (Bool × Nat)) p => do
    need (decide (u8At p.2 0 ≤ 1)) 0x761 p.1
    reserved p.2 p.1 1 1
    need (decide (u16At p.2 2 ≤ 1000)) 0x761 (p.1 + 2)
    reserved p.2 p.1 4 12
    return l ++ [(u8At p.2 0 == 1, u16At p.2 2)]) []
  let partners ← (cut 16 15 (o + 80) (b.drop 80)).foldlM (fun (l : List PartnerCfg) p => do
    let n := u8At p.2 0
    let rights := u8At p.2 1
    need (decide (n ≤ 254)) 0x761 p.1
    need (decide (n = 0) || (decide (n ≠ node) && !(l.any fun x => x.node == n))) 0x762 p.1
    need (decide (rights < 16)) 0x761 (p.1 + 1)
    need (!hasBit rights 3 || decide (n = 0) || (decide (pp ≠ 255) && !(l.any fun x => hasBit x.rights 3))) 0x763 (p.1 + 1)
    reserved p.2 p.1 2 6
    if n = 0 then return l
    return l ++ [⟨(p.1 - o - 80) / 16 + 1, n, rights, u64At p.2 8⟩]) []
  return { c with bb := some ⟨node, if pp = 255 then none else some pp, ports, partners⟩ }

end Sys2Proof.Machine
end

