-- ==== Sys2Proof/Machine/Loader.lean ====
section
/-! DEFINITION. The loader (03_kickoff_image.md): kick-off from step 4 to step 8, the image sources, refusals, authentication, the
section checks, and the key fuses (R65 to R80). -/

namespace Sys2Proof.Machine

/-- 64 MB, the largest image (R72). -/
def maxImage : Nat := 67108864

/-! ### Sources and refusals -/

/-- Whether the loader is in a state of IMAGE_STATUS that a load occupies (steps 6 to 9). -/
def State.loadRuns (s : State) : Bool := between 1 (s.rd Reg.IMAGE_STATUS.STATE) 4

/-- Whether every byte of a backbone delivery has arrived (R356). -/
def State.delivered (s : State) : Bool :=
  match s.host.delivery with
  | some (_, total) => decide (s.host.staged.length = total)
  | none => false

/-- The place of the first failed check in the registers (R66). -/
def State.showRefusal (s : State) (code index type off : Nat) : State :=
  let s := (s.wr Reg.IMAGE_STATUS.CODE code).wr Reg.IMAGE_ERR_SECTION.INDEX index
  (s.wr Reg.IMAGE_ERR_SECTION.TYPE type).wr Reg.IMAGE_ERR_OFFSET.OFFSET off

/-- A load ends refused (R66): the registers, and the frame timer stopped. -/
def State.endRefused (s : State) (code index type off : Nat) : State :=
  let s := ((s.showRefusal code index type off).wr Reg.IMAGE_STATUS.STATE 6).wr Reg.IMAGE_EVENT.DONE 1
  let s := (s.wr Reg.FRAME_STATUS.RUNNING 0).modFr fun f => { f with phase := .stopped }
  let s := s.modLoad fun l => { l with built := none, image := [] }
  let s := s.when (decide (s.rd Reg.IMAGE_STATUS.SOURCE = 3)) fun s => { s with host := { s.host with delivery := none, staged := [] } }
  s.modPower fun p => { p with step := 6 }

/-- A load from a source begins (Table 03-2, R70). -/
def State.beginLoad (s : State) (src : Nat) : State :=
  let s := (((s.showRefusal 0 0 0 0).wr Reg.IMAGE_STATUS.STATE 1).wr Reg.IMAGE_STATUS.SOURCE src).modLoad fun l => { l with since := s.time.ns }
  let n := s.rd Reg.IMAGE_STAGE_SIZE.SIZE
  if !s.load.dram then s.endRefused 0x204 0xFFFF 0 0
  else if src = 2 ∧ (n = 0 ∨ maxImage < n) then s.endRefused 0x203 0xFFFF 0 0
  else s

/-- The next source that BOOT_SRC allows (R66, R69). A load of the primary copy that the host asks for after the boot sources are used up
has no secondary after it (DESIGN CHOICE, assumption 24: R66 speaks of the sources that BOOT_SRC allows). The secondary copy is tried only
where the flash has one, or where the fetch of the primary ended before the flash was discovered. With none left the device waits; a
delivery that is complete starts at once. -/
def State.nextSource (s : State) : State :=
  match s.load.sources with
  | src :: rest =>
    let s := s.modLoad fun l => { l with sources := rest }
    let code := s.rd Reg.IMAGE_STATUS.CODE
    let unknown := !s.on Reg.IMAGE_BOOT.SFDP_OK && (code == 0x202 || code == 0x205)
    if src = 1 && !s.on Reg.IMAGE_BOOT.SECONDARY && !unknown then s
    else (s.when (decide (src = 1)) (·.wr Reg.IMAGE_PRIMARY_CODE.CODE (s.rd Reg.IMAGE_STATUS.CODE))).beginLoad src
  | [] => s

/-- What follows a refusal: the next source, or a backbone delivery that is complete. -/
def State.tryNext (s : State) : State :=
  let s := s.nextSource
  if s.delivered && !s.loadRuns then s.beginLoad 3 else s

/-- IMAGE_REFUSAL (R66). -/
def State.refuse (s : State) (code index type off : Nat) : State := (s.endRefused code index type off).tryNext

/-- The sources of a BOOT_SRC code that the loader tries on its own (Table 03-2). -/
def bootSources (b : Nat) : List Nat := if b = 0 ∨ b = 3 then [0, 1] else []

/-! ### Steps 4 and 5 -/

/-- DEV_RESET_RELEASE (R65 step 4, R30, R308, R368): the isolation bridge opens, BOOT_SRC is sampled, the time base restarts. -/
def State.devResetRelease (s : State) (boot : Nat) : State :=
  if !s.power.held || decide (s.power.step ≠ 4) || s.power.resetLowSince.isSome then s
  else
    let s := s.timeRestart
    let s := s.modPower fun p => { p with held := false, bridge := true, step := 5 }
    let fatal := s.on Reg.FAULT_STATE.FATAL
    let s := (s.wr Reg.FAULT_STATE.FAULT_N (b01 (!fatal))).wr Reg.FAULT_STATE.ALIVE_RUN (b01 (!fatal))
    let s := ((s.wr Reg.DOMAIN_STATE.FABRIC 1).wr Reg.DOMAIN_STATE.LANE_PHY 1).wr Reg.DOMAIN_STATE.BB_PHY 1
    let s := ((s.wr Reg.DOMAIN_STATE.ANALOG 1).wr Reg.POWER_STATE.STATE stKickOff).wr Reg.IMAGE_BOOT.BOOT_SRC boot
    let s := (s.modLoad fun l => { l with sources := bootSources boot }).showPgood.showSafe
    s.each (upTo s.silicon.variant.drives) fun s u => s.when (!(s.drv u).vdrv) (·.showVdrv u)

/-- DEV_RESET_RELEASE. -/
def execDevResetRelease (t : Nat) (bootSrc : Fin 4) (s : State) : Host.Outcome State Fault Refusal :=
  done ((s.elapse t).devResetRelease bootSrc.val)

/-- DRAM_INIT_DONE (R65, step 5): DRAM is there, and step 6 begins with the first source; or refusal 0204h, and no source can be tried. -/
def State.dramInit (s : State) (ok : Bool) : State :=
  if s.power.held || decide (s.power.step ≠ 5) then s
  else if ok then
    let s := ((s.modLoad fun l => { l with dram := true }).wr Reg.DOMAIN_STATE.DRAM_ACTIVE 1).modPower fun p => { p with step := 6 }
    if s.rd Reg.IMAGE_STATUS.STATE = 0 then s.tryNext else s
  else (s.modLoad fun l => { l with sources := [] }).endRefused 0x204 0xFFFF 0 0

/-- DRAM_INIT_DONE. -/
def execDramInitDone (ok : Bool) (t : Nat) (s : State) : Host.Outcome State Fault Refusal := done ((s.elapse t).dramInit ok)

/-! ### Step 6: the fetch -/

/-- Bytes [0, n) of the staging area; one that nothing has written reads 0. -/
def State.staged (s : State) (n : Nat) : List Byte := (upTo n).map fun i => Tbl.look 0 s.load.staging i

/-- The header checks of step 6 (R78): the code and offset of the first that fails. -/
def headerCheck (img : List Byte) : Chk Unit := do
  need (decide (u32At img 0 = 0x4953584C)) 0x101 0
  need (decide (u16At img 4 = 1)) 0x102 4
  need (decide (u16At img 6 = 0)) 0x102 6
  need (between 512 (u32At img 8) maxImage && decide (u32At img 8 ≤ img.length)) 0x103 8

/-- What has arrived is judged by its header; step 7 follows (R65, R78). -/
def State.fetched (s : State) (img : List Byte) : State :=
  match headerCheck img with
  | .error (code, off) => s.refuse code 0xFFFF 0 off
  | .ok () =>
    ((s.modLoad fun l => { l with image := img.take (u32At img 8) }).wr Reg.IMAGE_STATUS.STATE 2).modPower fun p => { p with step := 7 }

/-- What JESD216 discovery found of the flash (R69). -/
def State.showFlash (s : State) (ok : Bool) (mb : Nat) : State :=
  let s := (s.wr Reg.IMAGE_BOOT.SFDP_OK (b01 ok)).wr Reg.IMAGE_BOOT.DENSITY_MB (if ok then min 65535 mb else 0)
  s.wr Reg.IMAGE_BOOT.SECONDARY (b01 (ok && decide (128 ≤ mb)))

/-- IMAGE_FETCH_DONE (R65 step 6, R69, R70, R78, R356). A host load of the secondary copy of a flash that has none times out (R80). -/
def State.fetchDone (s : State) (ok : Bool) (mb : Nat) (img : List Byte) : State :=
  if s.rd Reg.IMAGE_STATUS.STATE ≠ 1 then s
  else
    match s.rd Reg.IMAGE_STATUS.SOURCE with
    | 2 => s.fetched (s.staged (s.rd Reg.IMAGE_STAGE_SIZE.SIZE))
    | 3 => if s.delivered then s.fetched (s.staged (match s.host.delivery with | some d => d.2 | none => 0)) else s
    | src =>
      let s := s.showFlash ok mb
      if !ok then s.refuse 0x201 0xFFFF 0 0
      else if src = 1 ∧ mb < 128 then s.refuse 0x202 0xFFFF 0 0
      else s.fetched img

/-- IMAGE_FETCH_DONE. -/
def execImageFetchDone (sfdpOk : Bool) (densityMb : Nat) (image : List Byte) (t : Nat) (s : State) : Host.Outcome State Fault Refusal :=
  done ((s.elapse t).fetchDone sfdpOk densityMb image)

/-- FLASH_TIMEOUT (R80): a fetch from the flash that has lasted 5 s. -/
def State.flashTimeout (s : State) : State :=
  if s.rd Reg.IMAGE_STATUS.STATE = 1 ∧ s.rd Reg.IMAGE_STATUS.SOURCE < 2 ∧ s.load.since + 5000000000 ≤ s.time.ns then
    s.refuse 0x202 0xFFFF 0 0
  else s

/-- FLASH_TIMEOUT. -/
def execFlashTimeout (t : Nat) (s : State) : Host.Outcome State Fault Refusal := done (s.elapse t).flashTimeout

/-- IMAGE_LOAD: a write of IMAGE_CTRL with LOAD = 1 (R68, R70): ignored outside KICK-OFF, before step 6, while a load runs, and once an
image has been accepted. -/
def State.imageLoad (s : State) (src : Nat) : State :=
  let s := s.wr Reg.IMAGE_CTRL.SRC src
  if s.device ≠ stKickOff ∨ s.power.held ∨ s.power.step ≠ 6 ∨ s.loadRuns then s
  else
    let s := s.beginLoad src
    if s.loadRuns then s else s.tryNext

/-- IMAGE_LOAD. -/
def execImageLoad (src : Fin 4) (t : Nat) (s : State) : Host.Outcome State Fault Refusal := done ((s.elapse t).imageLoad src.val)

/-- IMAGE_ABORT (R80): ends a load in steps 6 to 8. -/
def State.imageAbort (s : State) : State := if between 1 (s.rd Reg.IMAGE_STATUS.STATE) 3 then s.refuse 0x205 0xFFFF 0 0 else s

/-- IMAGE_ABORT. -/
def execImageAbort (t : Nat) (s : State) : Host.Outcome State Fault Refusal := done (s.elapse t).imageAbort

/-! ### Step 7: authentication -/

/-- The four key slots. -/
def Fuses.slots (f : Fuses) : List KeySlot := [f.slot0, f.slot1, f.slot2, f.slot3]

/-- Slot n. -/
def Fuses.slot (f : Fuses) (n : Nat) : KeySlot := f.slots.getD n default

/-- Whether a slot can verify an image. -/
def KeySlot.live (k : KeySlot) : Bool := k.hash.isSome && !k.revoked

/-- The stepping as IDENT[15:8] codes it (R4). -/
def Silicon.stepping (x : Silicon) : Nat := 16 * x.stepLetter + x.stepNumber

/-- The seven checks of R78, in order. -/
def authenticate (x : Silicon) (f : Fuses) (img : List Byte) : Chk Unit := do
  let sig := img.length - 256
  let key := slice img sig 97
  let slot := f.slot (u8At img 29)
  need (f.slots.any KeySlot.live) 0x301 sig
  need (decide (u8At img 29 < 4) && slot.live) 0x302 29
  need (slot.hash == some (sha384 key)) 0x303 sig
  need (ecdsaVerify key (sha384 (img.take sig)) (beNat (slice img (sig + 104) 48)) (beNat (slice img (sig + 152) 48))) 0x304 sig
  need (between f.epoch (u8At img 28) 63) 0x305 28
  need (decide (u16At img 14 = 0) || decide (u16At img 14 = x.variant.part)) 0x306 14
  need (decide (u8At img 30 ≤ x.stepping)) 0x307 30

/-- IMAGE_AUTHENTICATE (R65 step 7, R78). -/
def State.imageAuthenticate (s : State) : State :=
  if s.rd Reg.IMAGE_STATUS.STATE ≠ 2 then s
  else match authenticate s.silicon s.fuses s.load.image with
    | .error (code, off) => s.refuse code 0xFFFF 0 off
    | .ok () => (s.wr Reg.IMAGE_STATUS.STATE 3).modPower fun p => { p with step := 8 }

/-- IMAGE_AUTHENTICATE. -/
def execImageAuthenticate (t : Nat) (s : State) : Host.Outcome State Fault Refusal := done (s.elapse t).imageAuthenticate

/-! ### Step 8: the sections -/

/-- A refusal with its whole place: code, section index, section type, image offset. -/
abbrev Placed (α : Type) := Except (Nat × Nat × Nat × Nat) α

/-- A check reported against a section. -/
def placed {α : Type} (index type : Nat) (x : Chk α) : Placed α :=
  match x with
  | .ok a => .ok a
  | .error (code, off) => .error (code, index, type, off)

/-- The section types (Table 03-5). -/
def mandatory : List Nat := [1, 2, 3, 4, 5, 6, 7, 0x10, 0x11, 0x12]
def knownType (type : Nat) : Bool := mandatory.contains type || between 0x20 type 0x24

/-- Whether a section has the size its type needs (Table 03-5 and the chapters that define the sections). -/
def sizeOk (type n : Nat) : Bool :=
  match type with
  | 1 => n == 72
  | 2 => n % 4 == 0
  | 3 => n % 8 == 0
  | 4 => n % 16 == 0
  | 5 => n % 32 == 0
  | 6 => n % 16 == 0
  | 7 => n == 32
  | 0x10 => n == 512
  | 0x20 => n == 6760
  | 0x21 => n == 1040
  | 0x22 => n == 6416
  | 0x23 => n == 64
  | 0x24 => n == 320
  | _ => true

/-- The checks that the section's own chapter gives. -/
def ownSection (v : Variant) (drives : Bool) (type : Nat) (c : Cfg) (o : Nat) (b : List Byte) : Chk Cfg :=
  match type with
  | 1 => frameSection c o b
  | 2 => slicesSection v c o b
  | 3 => chainsSection v c o b
  | 4 => cellsSection v c o b
  | 5 => armsSection v c o b
  | 6 => convsSection v c o b
  | 7 => limitsSection c o b
  | 0x10 => safetySection drives c o b
  | 0x11 => graphsSection c o b
  | 0x12 => coeffSection c o b
  | 0x20 => adcSection v c o b
  | 0x21 => driveSection v c o b
  | 0x22 => canSection c o b
  | 0x23 => timeSection c o b
  | 0x24 => backboneSection c o b
  | _ => .ok c

/-- One section table entry (Table 03-4, R73): a type that is known, in version 1, present once. -/
def tableEntry (l : List SectionRef) (o : Nat) (e : List Byte) : Placed (List SectionRef) := do
  let r : SectionRef := ⟨l.length, u16At e 0, u16At e 2, u32At e 4, u32At e 8, u32At e 12⟩
  placed r.index r.type (need (knownType r.type || decide (0x8000 ≤ r.type)) 0x107 o)
  placed r.index r.type (need (decide (r.version = 1) || decide (0x8000 ≤ r.type)) 0x102 (o + 2))
  placed r.index r.type (need (!(l.any fun x => x.type == r.type)) 0x106 o)
  return l ++ [r]

/-- The header's and the signature block's reserved bytes, and the section table (R72, R74). The checks of the table entries are all made in
the table's order, before any section's own (DESIGN CHOICE, assumption 25). -/
def sectionTable (img : List Byte) : Placed (List SectionRef) := do
  let sig := img.length - 256
  let n := u16At img 12
  let o := u32At img 32
  placed 0xFFFF 0 (reserved img 0 31 1)
  placed 0xFFFF 0 (reserved img 0 36 220)
  placed 0xFFFF 0 (reserved img 0 (sig + 97) 7)
  placed 0xFFFF 0 (reserved img 0 (sig + 200) 56)
  placed 0xFFFF 0 (need (between 1 n 64) 0x105 12)
  placed 0xFFFF 0 (need (decide (o % 8 = 0) && decide (256 ≤ o) && decide (o + 16 * n ≤ sig)) 0x105 32)
  (cut 16 n o (slice img o (16 * n))).foldlM (fun l p => tableEntry l p.1 p.2) []

/-- One section (R72 to R74, Table 03-14): present where it must be, its bounds, its CRC, its length, then its own checks. `past` are the
sections processed before it: an overlap is judged and reported at the later of the two in type order (DESIGN CHOICE, assumption 25). A
mandatory section of size 0 is refused as though it were absent (R74). -/
def oneSection (v : Variant) (img : List Byte) (table past : List SectionRef) (c : Cfg) (type : Nat) :
    Placed (List SectionRef × Cfg) :=
  let tbo := u32At img 32
  match table.find? (·.type == type) with
  | none => if mandatory.contains type then .error (0x108, 0xFFFF, type, tbo) else .ok (past, c)
  | some r => if mandatory.contains type && decide (r.size = 0) then .error (0x108, 0xFFFF, type, tbo) else placed r.index type do
    let e := tbo + 16 * r.index
    need (decide (r.offset % 8 = 0) && decide (tbo + 16 * table.length ≤ r.offset) && decide (r.offset + r.size ≤ img.length - 256)
      && !(past.any fun x => overlaps r.offset r.size x.offset x.size)) 0x105 (e + 4)
    let b := slice img r.offset r.size
    need (decide (crc32 b = r.crc)) 0x104 r.offset
    need (sizeOk type r.size) 0x109 (e + 8)
    let c ← ownSection v (table.any fun x => x.type == 0x21) type c r.offset b
    return (r :: past, c)

/-- `x` put into a rising list that does not hold it. -/
def insertUp (x : Nat) : List Nat → List Nat
  | [] => [x]
  | y :: t => if x < y then x :: y :: t else if x = y then y :: t else y :: insertUp x t

/-- The structure of an image before its sections: its header, and what the time base takes without a TIME section. -/
def headerCfg (img : List Byte) : Cfg :=
  { (default : Cfg) with
    imageId := u64At img 16, version := u32At img 24, size := img.length, epoch := u8At img 28, keySlot := u8At img 29, time := timeDefault }

/-- The sections of the given types, in order. -/
def runSections (v : Variant) (img : List Byte) (table : List SectionRef) (types : List Nat) : Placed Cfg := do
  let r ← types.foldlM (fun (acc : List SectionRef × Cfg) type => oneSection v img table acc.1 acc.2 type) ([], headerCfg img)
  return r.2

/-- The whole of step 8 (R73): what the image declares, or the first failed check; and the FRAME section where it was accepted. -/
def checkImage (v : Variant) (img : List Byte) : Option FrameCfg × Placed Cfg :=
  match sectionTable img with
  | .error e => (none, .error e)
  | .ok table =>
    let types := table.foldl (fun l r => insertUp r.type l) mandatory
    ((match runSections v img table [1] with
      | .ok c => some c.frame
      | .error _ => none), runSections v img table types)

/-- The frame timer starts with the fields of FRAME (R40, R42), its first tick as R315 places it. -/
def State.startTimer (s : State) (f : FrameCfg) : State :=
  let s := ((s.wr Reg.FRAME_PERIOD.PERIOD f.period).wr Reg.FRAME_PHASE0.SAMPLE f.sample).wr Reg.FRAME_PHASE0.APPLY f.apply
  let s := ((s.wr Reg.FRAME_PHASE1.FREEZE f.freeze).wr Reg.FRAME_PHASE1.COMPUTE_END f.computeEnd).wr Reg.FRAME_PHASE2.RANK_END f.rankEnd
  (s.wr Reg.FRAME_STATUS.RUNNING 1).modFr fun x => { x with phase := .stopped, nextPeriod := none, nextTick := s.firstTick f.period }

/-- SECTION_CHECKS (R65 step 8, R73). -/
def State.sectionChecks (s : State) : State :=
  if s.rd Reg.IMAGE_STATUS.STATE ≠ 3 then s
  else
    let (frame, r) := checkImage s.silicon.variant s.load.image
    let s := match frame with
      | some f => s.startTimer f
      | none => s
    match r with
    | .error (code, index, type, off) => s.refuse code index type off
    | .ok c =>
      ((s.modLoad fun l => { l with built := some c }).wr Reg.IMAGE_STATUS.STATE 4).modPower fun p => { p with step := 9 }

/-- SECTION_CHECKS. -/
def execSectionChecks (t : Nat) (s : State) : Host.Outcome State Fault Refusal := done (s.elapse t).sectionChecks

/-! ### Key fuses (R79) -/

/-- The fuses as IMAGE_KEY shows them, bit n for slot n (assumptions 5 and 6). -/
def Fuses.programmed (f : Fuses) : Nat := (upTo 4).foldl (fun w n => if (f.slot n).hash.isSome then setBit w n else w) 0
def Fuses.revokedBits (f : Fuses) : Nat := (upTo 4).foldl (fun w n => if (f.slot n).revoked then setBit w n else w) 0

/-- Slot n with a new value. -/
def Fuses.withSlot (f : Fuses) (n : Nat) (k : KeySlot) : Fuses :=
  match n with
  | 0 => { f with slot0 := k }
  | 1 => { f with slot1 := k }
  | 2 => { f with slot2 := k }
  | 3 => { f with slot3 := k }
  | _ => f

/-- What a fuse operation leaves (R79): a hash goes into an empty slot only, a revoke bit and the epoch never fall. -/
def Fuses.apply (f : Fuses) : FuseOp → Fuses
  | .program n h => if (f.slot n).hash.isSome then f else f.withSlot n { f.slot n with hash := some h }
  | .revoke n => f.withSlot n { f.slot n with revoked := true }
  | .burn e => { f with epoch := max f.epoch e }

/-- A fuse operation starts: BUSY. -/
def State.startFuse (s : State) (op : FuseOp) : State := (s.modLoad fun l => { l with fuse := some op }).wr Reg.KEY_STATUS.BUSY 1

/-- A fuse operation that ends without one: its result. -/
def State.fuseResult (s : State) (r : Nat) : State := s.wr Reg.KEY_STATUS.RESULT r

/-- Whether KEY_CMD acts (R79): the unlock word, no operation under way; outside KICK-OFF, and once an image has been accepted, it only
reports that it is not allowed now (DEDUCED, assumption 52). -/
def State.keyCmd (s : State) (unlock : Nat) (f : State → State) : State :=
  if unlock ≠ 0xA5C3 ∨ s.power.held ∨ s.load.fuse.isSome then s
  else if s.device ≠ stKickOff ∨ s.load.accepted then s.fuseResult 3
  else f s

/-- The hash in KEY_DATA, byte 0 of KEY_DATA0 first. -/
def State.keyData (s : State) : Nat := beNat ((upTo 12).flatMap fun i => leBytes 4 (s.rd Reg.KEY_DATA.HASH i))

/-- A program operation on an empty slot. -/
def State.keyProgram (s : State) (slot : Nat) : State :=
  if (s.fuses.slot slot).hash.isSome then s.fuseResult 1 else s.startFuse (.program slot s.keyData)

/-- A revoke operation on a slot that is not the last unrevoked one; a slot not programmed counts as unrevoked (DESIGN CHOICE,
assumption 26). -/
def State.keyRevoke (s : State) (slot : Nat) : State :=
  if (upTo 4).all fun n => n == slot || (s.fuses.slot n).revoked then s.fuseResult 2 else s.startFuse (.revoke slot)

/-- KEY_PROGRAM. -/
def execKeyProgram (slot : Fin 4) (unlock t : Nat) (s : State) : Host.Outcome State Fault Refusal :=
  done ((s.elapse t).keyCmd unlock (·.keyProgram slot.val))

/-- KEY_REVOKE. -/
def execKeyRevoke (slot : Fin 4) (unlock t : Nat) (s : State) : Host.Outcome State Fault Refusal :=
  done ((s.elapse t).keyCmd unlock (·.keyRevoke slot.val))

/-- EPOCH_BURN: IMAGE_CTRL.EPOCH_BURN, in RUN only; a fused epoch that is not lower has nothing to burn. -/
def State.epochBurn (s : State) : State :=
  if s.device ≠ stRun ∨ s.load.fuse.isSome then s
  else if s.cfg.epoch ≤ s.fuses.epoch then s.fuseResult 0
  else s.startFuse (.burn s.cfg.epoch)

/-- EPOCH_BURN. -/
def execEpochBurn (t : Nat) (s : State) : Host.Outcome State Fault Refusal := done (s.elapse t).epochBurn

/-- FUSE_OP_DONE: the result; FAIL where VIN left its range, and the fuses read as before. -/
def State.fuseDone (s : State) (ok : Bool) : State :=
  match s.load.fuse with
  | none => s
  | some op =>
    let s := (s.modLoad fun l => { l with fuse := none }).wr Reg.KEY_STATUS.BUSY 0
    if ok then { s with fuses := s.fuses.apply op }.fuseResult 0 else s.fuseResult 4

/-- FUSE_OP_DONE. -/
def execFuseOpDone (ok : Bool) (t : Nat) (s : State) : Host.Outcome State Fault Refusal := done ((s.elapse t).fuseDone ok)

end Sys2Proof.Machine
end

