-- ==== Sys2Proof/Machine/Commit.lean ====
section
/-! DEFINITION. IMAGE_COMMIT (03_kickoff_image.md, step 9 of Table 03-1, R67, R74, R86): the structure of an accepted image takes effect,
in kick-off and again in the exit from DORMANT (R390). -/

namespace Sys2Proof.Machine

/-- Where the roles of failed slices go (R86): each to the lowest-numbered healthy spare; none where no spare is left. Several failed
slices are served in rising slice number (DESIGN CHOICE, assumption 27). -/
def moveRoles (slices : List SliceCfg) : List Nat → List Nat → Option (List (SliceCfg × Nat))
  | [], _ => some []
  | n :: rest, spares =>
    match (slices.find? fun x => x.slice == n && x.role != 5), spares with
    | none, _ => moveRoles slices rest spares
    | some _, [] => none
    | some x, m :: more => (moveRoles slices rest more).map ((x, m) :: ·)

/-- SLICE_ROLE of every slice the image lists, as the self-test and the moves leave them. -/
def State.writeRoles (s : State) (slices : List SliceCfg) (bad : List Nat) (moves : List (SliceCfg × Nat)) : State :=
  let set := fun (s : State) n role target st =>
    ((s.wr Reg.SLICE_ROLE.ROLE role n).wr Reg.SLICE_ROLE.TARGET target n).wr Reg.SLICE_ROLE.STATE st n
  let s := s.each slices fun s x =>
    set s x.slice x.role x.target (if bad.contains x.slice then slFailed else if x.role = 5 then slSpare else slService)
  let s := s.each moves fun s p => set s p.2 p.1.role p.1.target slService
  let s := s.each bad fun s n => s.evBit Reg.IMAGE_SLICE_FAIL.FAIL (n % 32) (n / 32)
  s.showRoles.when (decide (s.spares < 8)) (·.wr Reg.IMAGE_EVENT.SPARE_LOW 1)

/-- What a team sheet entry holds of replies, outcomes and calls: nothing at commit (R118). -/
def sheetFields : List Field :=
  [Reg.TS_FOUND_LO.IDENTITY, Reg.TS_FOUND_HI.IDENTITY, Reg.TS_INFO.CLASS, Reg.TS_INFO.BYPASS_FITTED, Reg.TS_INFO.FIRMWARE,
   Reg.TS_CALL.Q_EVEN, Reg.TS_CALL.VALID_EVEN, Reg.TS_CALL.Q_ODD, Reg.TS_CALL.VALID_ODD, Reg.TS_CALL.REPLIES, Reg.TS_CALL.RESULT,
   Reg.TS_CALL_FRAME.FRAME]

/-- The sheet of cell n at a commit (R118). -/
def State.clearSheet (s : State) (n : Nat) : State := s.each sheetFields fun s f => s.wr f 0 n

/-- A chain, its cells and its lane ends as the image declares them (R91, R107, R117, R118): nothing measured, every cell ABSENT, BLOCK in
every slot. -/
def State.commitChain (s : State) (cc : ChainCfg) : State :=
  let e := 2 * cc.chain
  let s := ((s.wr Reg.LANE_CHAIN.SPLIT cc.split e).wr Reg.LANE_CHAIN.GAP 0 e).wr Reg.LANE_CHAIN.CELLS cc.cells e
  let s := (s.wr Reg.LANE_CHAIN.PHYS 0 e).wr Reg.LANE_CHAIN.LOOPED 0 e
  let s := s.showDown cc.chain
  let s := s.each [e, e + 1] fun s l =>
    (s.each (upTo 32) fun s q => s.wr Reg.LANE_DELAY.VALID 0 l q).wr Reg.LANE_STATUS.CHAIN_LATE 0 l
  let s := (s.planChain cc.chain).showLane e
  let s := s.showLane (e + 1)
  s.each (upTo cc.cells) fun s h =>
    let n := cc.base + h
    let ident := match s.cellCfg n with
      | some x => x.ident
      | none => 0
    let s := (s.wr Reg.CELL_STATE.STATE csAbsent n).wr Reg.CELL_STATE.REASON 0 n
    let s := ((s.wr Reg.CELL_STATE.CONFIRMED 0 n).wr Reg.CELL_STATE.NO_REPLY 0 n).wr Reg.CELL_STATE.CALL_QUEUED 0 n
    let s := s.wr64 Reg.TS_RECORDED_LO.IDENTITY Reg.TS_RECORDED_HI.IDENTITY ident n
    let s := s.clearSheet n
    (s.showPlace cc h).modCell n fun _ =>
      { (default : CellMem) with cmd := holdCmd stBlock, force := holdCmd stBlock, fin := stBlock, last := -65536 }

/-- The backbone ports and partners of the image (R357); without the section every port is idle and no partner exists. -/
def State.commitBackbone (s : State) (b : Option BbCfg) : State :=
  let ports := (b.map (·.ports)).getD []
  let pair := b.bind (·.pairPort)
  let s := s.each (upTo 4) fun s p =>
    let x := ports.getD p (false, 0)
    let s := ((s.wr Reg.BB_CTRL.EN (b01 x.1) p).wr Reg.BB_CTRL.PAIR (b01 (pair == some p)) p).wr Reg.BB_CTRL.IDLE_US x.2 p
    s.when (!x.1) (·.portIdle p)
  let s := s.each ((b.map (·.partners)).getD []) fun s x =>
    (s.wr Reg.BB_PARTNER.NODE x.node (x.source - 1)).wr Reg.BB_PARTNER.RIGHTS x.rights (x.source - 1)
  { s.wr Reg.REF_PAIR.ENABLED (b01 pair.isSome) with host := { s.host with partners := [] } }

/-- The planner as FRAME sets it, forecasting from static worst cases at PL0 (R57, R65). -/
def State.commitPlanner (s : State) (f : FrameCfg) : State :=
  let s := ((s.wr Reg.PLAN_LEVEL.CURRENT 0).wr Reg.PLAN_LEVEL.LIMIT f.plLimit).wr Reg.PLAN_THERMAL.MARGIN f.margin
  ((s.wr Reg.PLAN_POWER.BUDGET f.budget).wr Reg.PLAN_BG_ORDER.ORDER f.bgOrder).emptyHistory.showCapacity

/-- The raw levels of the safety inputs as both units find them when they begin to filter (R290). -/
def State.firstInputs (s : State) (sin : Nat) : State :=
  s.each (upTo 16) fun s i => (s.inputChange false i (hasBit sin i)).inputChange true i (hasBit sin i)

/-- What the device reports of the image accepted (IMAGE_ID to IMAGE_KEY). -/
def State.showImage (s : State) (c : Cfg) : State :=
  let s := (s.wr64 Reg.IMAGE_ID_LO.ID Reg.IMAGE_ID_HI.ID c.imageId).wr Reg.IMAGE_INFO.VERSION c.version
  ((s.wr Reg.IMAGE_SIZE.SIZE c.size).wr Reg.IMAGE_KEY.SLOT_USED c.keySlot).wr Reg.IMAGE_KEY.EPOCH_IMAGE c.epoch

/-- The optional sections and the time base (R74, R323). -/
def State.commitOptional (s : State) (c : Cfg) : State :=
  let s := match c.adc with
    | some a => s.commitAdc a
    | none => s
  let s := s.commitDrive
  let s := s.each c.cans fun s n => s.commitCan n
  (s.commitTime c.time).commitBackbone c.bb

/-- The referee at commit (R26, R205): plane A is woken for the grant, plane B put cold. -/
def State.commitReferee (s : State) : State :=
  if s.refState = rsSetup then (s.setRole 0 roWaking).setRole 1 roCold else s

/-- The structure `c` takes effect, in the order of Table 03-1. -/
def State.build (s : State) (c : Cfg) (bad : List Nat) (moves : List (SliceCfg × Nat)) (sin : Nat) : State :=
  let s := s.when s.power.dormantExit (·.startTimer c.frame)
  let s := { s with cfg := { c with loaded := true }, lanes := [], chains := [], cells := [], arms := [], convs := [], engs := [] }
  let s := s.modFr fun f => { f with ticks := 0, nextLevel := none, rising := none }
  let s := s.writeRoles c.slices bad moves
  let s := (s.wr Reg.CELL_UNROSTERED_LO.CHAINS 0).wr Reg.CELL_UNROSTERED_HI.CHAINS 0
  let s := (s.each c.chains fun s cc => s.commitChain cc).summarise
  let s := s.each c.arms fun s a => match s.sliceOf roArm a.arm with
    | some n => s.loadArmSlice n a a.ptr0
    | none => s
  let s := s.commitConvs.commitEngines
  let s := (s.commitPlanner c.frame).wr Reg.FAULT_QUIET.QUIET_MS (min 65535 c.limits.quietMs)
  let s := { s with faults := { s.faults with aliveNext := some c.limits.aliveHz } }
  let s := s.commitSafety.firstInputs sin
  let s := s.commitOptional c
  (s.commitReferee.ckptInit).showImage c

/-- A refused commit in the exit from DORMANT leaves the device in KICK-OFF without an image; it waits for a host load. -/
def State.commitRefused (s : State) (code : Nat) : State :=
  if s.power.dormantExit then
    let s := (s.wr Reg.POWER_STATE.STATE stKickOff).modPower fun p => { p with dormantExit := false }
    ({ s with cfg := { s.cfg with loaded := false } }.modLoad fun l => { l with sources := [] }).refuse code 0xFFFF 0 0
  else s.refuse code 0xFFFF 0 0

/-- The structure that step 9 commits: what the checks built, or in the exit from DORMANT the one in force. -/
def State.toCommit (s : State) : Option Cfg :=
  if s.power.step ≠ 9 ∨ s.power.held then none
  else if s.power.dormantExit then some s.cfg
  else if s.rd Reg.IMAGE_STATUS.STATE = 4 then s.load.built
  else none

/-- The slices of an image that step 9 finds failed: those that fail the self-test now, and those that have failed before (R86). -/
def State.commitBad (s : State) (c : Cfg) (failed : List Nat) : List Nat :=
  (upTo 128).filter fun n =>
    (c.slices.any fun x => x.slice == n) && (failed.contains n || hasBit (s.rd Reg.IMAGE_SLICE_FAIL.FAIL (n / 32)) (n % 32))

/-- The spares of an image that have not failed, in rising slice number. -/
def Cfg.goodSpares (c : Cfg) (bad : List Nat) : List Nat :=
  (upTo 128).filter fun n => (c.slices.any fun x => x.slice == n && x.role == 5) && !bad.contains n

/-- IMAGE_COMMIT (R65 step 9, R67, R86, R108). `failed` are the slices that fail the self-test; `writeOk` where the write-read checks of
slice and engine memories pass; bit i of `sin` is the level of safety input i. -/
def State.imageCommit (s : State) (failed : List Nat) (writeOk : Bool) (sin : Nat) : State :=
  match s.toCommit with
  | none => s
  | some c =>
    let bad := s.commitBad c failed
    match moveRoles c.slices bad (c.goodSpares bad) with
    | none => s.commitRefused 0x40A
    | some moves =>
      if !writeOk then s.commitRefused 0x601
      else
        let again := s.power.dormantExit
        let s := s.build c bad moves sin
        let s := s.modLoad fun l => { l with built := none, sources := [], accepted := true, copy := if again then l.copy else l.image, image := [] }
        let s := s.when (!again) fun s => (s.wr Reg.IMAGE_STATUS.STATE 5).wr Reg.IMAGE_EVENT.DONE 1
        s.modPower fun p => { p with step := 10 }

/-- IMAGE_COMMIT. -/
def execImageCommit (failed : List (Fin 128)) (writeOk : Bool) (sin t : Nat) (s : State) : Host.Outcome State Fault Refusal :=
  done ((s.elapse t).imageCommit (failed.map (·.val)) writeOk sin)

end Sys2Proof.Machine
end

