-- ==== Sys2Proof/Machine/Ethernet.lean ====
section
/-! DEFINITION. The Ethernet ports (14_time_ethernet.md, R316 to R322): reception, transmission with one-step stamps, the stamp queue
and the descriptor rings. Frames stand without their FCS; multi-byte fields of a frame are big-endian, those of a descriptor
little-endian (R10). -/

namespace Sys2Proof.Machine

/-- Ethernet port p. -/
def State.eth (s : State) (p : Nat) : EthSt := Tbl.look default s.eths p

/-- Ethernet port p changed. -/
def State.modEth (s : State) (p : Nat) (f : EthSt → EthSt) : State := { s with eths := Tbl.put default s.eths p (f (s.eth p)) }

/-- Big-endian u16 at byte i. -/
def be16At (b : List Byte) (i : Nat) : Nat := 256 * u8At b i + u8At b (i + 1)

/-- Bytes of `b` replaced from `i` on. -/
def splice (b : List Byte) (i : Nat) (x : List Byte) : List Byte := b.take i ++ x ++ b.drop (i + x.length)

/-- Whether a frame carries a VLAN tag. -/
def ethVlan (b : List Byte) : Bool := be16At b 12 == 0x8100

/-- Offset of the Ethertype after at most one VLAN tag (R318). -/
def ethTypeAt (b : List Byte) : Nat := if ethVlan b then 16 else 12

/-- Transports of a PTP frame (R318). -/
inductive PtpOver where
  | layer2 | ipv4 | ipv6
  deriving DecidableEq, Repr, Inhabited

/-- Where the PTP header of a frame stands, with its transport: none for a frame that is not PTP (R318). -/
def ptpHeader (b : List Byte) : Option (PtpOver × Nat) :=
  let e := ethTypeAt b
  let ty := be16At b e
  let port := fun u => be16At b (u + 2) == 319 || be16At b (u + 2) == 320
  if ty = 0x88F7 then some (.layer2, e + 2)
  else if ty = 0x0800 ∧ u8At b (e + 11) = 17 then
    let u := e + 2 + 4 * (u8At b (e + 2) % 16)
    if port u then some (.ipv4, u + 8) else none
  else if ty = 0x86DD ∧ u8At b (e + 8) = 17 then
    let u := e + 42
    if port u then some (.ipv6, u + 8) else none
  else none

/-- Whether a frame is PTP (R318). -/
def isPtp (b : List Byte) : Bool := (ptpHeader b).isSome

/-- The destination of a received frame as the two MAC registers hold an address. -/
def destWords (b : List Byte) : Nat × Nat := (u32At b 0, u16At b 4)

/-- Whether a port takes a frame's destination (R316). -/
def State.ethTakes (s : State) (p : Nat) (b : List Byte) : Bool :=
  let d := destWords b
  s.on Reg.ETH_CTRL.PROMISC p || d == (0xFFFFFFFF, 0xFFFF)
    || d == (s.rd Reg.ETH_MAC_LO.MAC p, s.rd Reg.ETH_MAC_HI.MAC p % 65536)
    || (upTo 8).any fun m =>
      hasBit (s.rd Reg.ETH_MCAST.MAC p (2 * m + 1)) 31
        && d == (s.rd Reg.ETH_MCAST.MAC p (2 * m), s.rd Reg.ETH_MCAST.MAC p (2 * m + 1) % 65536)

/-- Whether shedding restricts the ports to PTP (R322). -/
def State.ethShed (s : State) : Bool := decide (5 ≤ s.rd Reg.POWER_SHED.STEP)

/-- The entries of a ring whose LOG2N field reads n (R321). -/
def ringSize (n : Nat) : Nat := 2 ^ clampN 4 12 n

/-- A stamp of the event at the present instant with a signed latency correction added (R307, R317): seconds and nanoseconds. -/
def State.stamp (s : State) (corr : Int) : Nat × Nat :=
  let p := s.ptpStamp
  let n : Int := (p.2 : Int) + corr
  if n < 0 then ((p.1 : Int) - 1 |>.toNat, (n + 1000000000).toNat)
  else if 1000000000 ≤ n then (p.1 + 1, (n - 1000000000).toNat)
  else (p.1, n.toNat)

/-- A received frame the port delivers (R321, Table 14-5): the buffer and the descriptor go to host memory, HEAD advances. -/
def State.ethDeliver (s : State) (p : Nat) (b : List Byte) (bufAddr : Nat) : State :=
  let size := ringSize (s.rd Reg.ETH_RXR_CFG.LOG2N p)
  let head := s.rd Reg.ETH_RXR_HEAD.INDEX p
  if head = s.rd Reg.ETH_RXR_TAIL.INDEX p then s.bump Reg.ETH_COUNT.NO_DESC 1 p
  else
    let buf := s.rd Reg.ETH_RXR_CFG.BUF p
    let st := s.stamp (s.rdS Reg.ETH_LAT.RX p)
    let data := b.take buf
    let status := 1 + 2 * b01 (isPtp b) + 4 * b01 (decide (buf < b.length)) + 8 * b01 (ethVlan b)
    let desc := leBytes 2 data.length ++ leBytes 2 status ++ leBytes 4 st.2 ++ leBytes 8 st.1 ++ leBytes 8 0
    let base := s.rd64 Reg.ETH_RXR_BASE_LO.ADDR Reg.ETH_RXR_BASE_HI.ADDR p
    let s := (s.emit (.dmaWrite bufAddr data)).emit (.dmaWrite (base + 32 * head + 8) desc)
    (s.wr Reg.ETH_RXR_HEAD.INDEX ((head + 1) % size) p).evBit Reg.ETH_EVENT.EVENTS 1 p

/-- A frame arrives at a port (R316, R322); its bytes stand without the FCS (DEDUCED, assumption 51). -/
def State.ethReceive (s : State) (p : Nat) (b : List Byte) (fcsOk : Bool) (bufAddr : Nat) : State :=
  let good := fcsOk && decide (60 ≤ b.length) && decide (b.length ≤ 1518) && !(ethVlan b && be16At b 16 == 0x8100)
  if s.rd Reg.ETH_CTRL.MODE p = 0 ∨ !s.on Reg.ETH_STATUS.LINK p then s
  else if !good || !s.ethTakes p b || (s.ethShed && !isPtp b) then s.bump Reg.ETH_COUNT.FILTERED 1 p
  else if !s.on Reg.ETH_CTRL.RX_EN p || (s.eth p).rxStopped then s.bump Reg.ETH_COUNT.NO_DESC 1 p
  else s.ethDeliver p b bufAddr

/-- ETH_RX_FRAME. -/
def execEthRxFrame (port : Fin 2) (frame : List Byte) (fcsOk : Bool) (bufAddr t : Nat) (s : State) :
    Host.Outcome State Fault Refusal :=
  done ((s.elapse t).ethReceive port.val frame fcsOk bufAddr)

/-- One-step processing of a frame that leaves (R319): the frame sent, or none where ONE_STEP is refused. -/
def oneStep (b : List Byte) (pdelay : Bool) (sec ns t2sec t2ns : Nat) : Option (List Byte) :=
  match ptpHeader b with
  | some (carriedBy, h) =>
    let ty := u8At b h % 16
    if ty = 0 ∧ carriedBy ≠ .ipv6 then
      let b' := splice b (h + 34) (beBytes 6 sec ++ beBytes 4 ns)
      some (if carriedBy = .ipv4 then splice b' (h - 2) [0, 0] else b')
    else if ty = 3 ∧ carriedBy = .layer2 ∧ pdelay then
      let d : Int := ((sec : Int) - t2sec) * 1000000000 + ((ns : Int) - t2ns)
      let old := signed 64 (be16At b (h + 8) * 2 ^ 48 + be16At b (h + 10) * 2 ^ 32 + be16At b (h + 12) * 65536 + be16At b (h + 14))
      some (splice b (h + 8) (beBytes 8 (unsigned 64 (old + d * 65536))))
    else none
  | none => none

/-- A transmit stamp enters the port's queue (R320); the key of a frame without a PTP header is open. -/
def State.pushStamp (s : State) (p : Nat) (b : List Byte) (sec ns : Nat) : State :=
  if 32 ≤ (s.eth p).stamps.length then
    (s.wr Reg.ETH_TXTS_STATUS.OVF 1 p).bump Reg.ETH_TXTS_STATUS.DROPPED 1 p
  else
    let (key, s) := match ptpHeader b with
      | some (_, h) => ((be16At b (h + 30), u8At b h % 16), s)
      | none => let (x, s) := s.draw; ((x % 65536, x / 65536 % 16), s)
    let s := s.modEth p fun e => { e with stamps := e.stamps ++ [⟨key.1, key.2, ns, sec⟩] }
    (s.wr Reg.ETH_TXTS_STATUS.COUNT (s.eth p).stamps.length p).evBit Reg.ETH_EVENT.EVENTS 2 p

/-- Status bits of a transmit descriptor (Table 14-4). -/
def State.ethTxDone (s : State) (p status : Nat) : State :=
  let size := ringSize (s.rd Reg.ETH_TXR_CFG.LOG2N p)
  let head := s.rd Reg.ETH_TXR_HEAD.INDEX p
  let base := s.rd64 Reg.ETH_TXR_BASE_LO.ADDR Reg.ETH_TXR_BASE_HI.ADDR p
  let s := s.emit (.dmaWrite (base + 32 * head + 24) (leBytes 2 status))
  (s.wr Reg.ETH_TXR_HEAD.INDEX ((head + 1) % size) p).evBit Reg.ETH_EVENT.EVENTS 0 p

/-- The port processes the descriptor at HEAD (R319 to R322): DONE, and SENT, ONE_STEP_REFUSED, SHED or LEN_ERR. -/
def State.ethTransmit (s : State) (p : Nat) (desc frame : List Byte) : State :=
  let len := u16At desc 8
  let flags := u16At desc 10
  let b := frame.take len
  let ready := s.rd Reg.ETH_CTRL.MODE p != 0 && s.on Reg.ETH_CTRL.TX_EN p && !(s.eth p).txStopped
    && s.rd Reg.ETH_TXR_HEAD.INDEX p != s.rd Reg.ETH_TXR_TAIL.INDEX p
  if !ready then s
  else if len < 60 ∨ 1518 < len then s.ethTxDone p (1 + 16)
  else if s.ethShed && !isPtp b then s.ethTxDone p (1 + 8)
  else
    let st := s.stamp (s.rdS Reg.ETH_LAT.TX p)
    let sent := if hasBit flags 1 then oneStep b (hasBit flags 2) st.1 st.2 (u64At desc 16 % 2 ^ 48) (u32At desc 12) else some b
    match sent with
    | none => s.ethTxDone p (1 + 4)
    | some out =>
      let s := s.emit (.eth p out)
      let s := s.when (hasBit flags 0) (·.pushStamp p b st.1 st.2)
      s.ethTxDone p (1 + 2)

/-- ETH_TX_DESCRIPTOR. -/
def execEthTxDescriptor (port : Fin 2) (desc frame : List Byte) (t : Nat) (s : State) : Host.Outcome State Fault Refusal :=
  done ((s.elapse t).ethTransmit port.val desc frame)

/-- A read of ETH_TXTS0 (R320): the oldest entry leaves the queue and is latched into the four words. -/
def State.txtsRead (s : State) (p : Nat) : State :=
  match (s.eth p).stamps with
  | [] => s.wr Reg.ETH_TXTS.ENTRY 0 p 0
  | e :: rest =>
    let s := s.modEth p fun x => { x with stamps := rest }
    let s := s.wr Reg.ETH_TXTS.ENTRY (e.seqId + 65536 * e.msgType + 2 ^ 31) p 0
    let s := (s.wr Reg.ETH_TXTS.ENTRY e.ns p 1).wr Reg.ETH_TXTS.ENTRY (e.sec % 4294967296) p 2
    (s.wr Reg.ETH_TXTS.ENTRY (e.sec / 4294967296) p 3).wr Reg.ETH_TXTS_STATUS.COUNT rest.length p

/-- ETH_TXTS_READ. -/
def execEthTxtsRead (port : Fin 2) (s : State) : Host.Outcome State Fault Refusal := done (s.txtsRead port.val)

/-- A write of a ring's HI base restarts the ring at HEAD = TAIL = 0 (R321). -/
def State.ethRestart (s : State) (p : Nat) (receive : Bool) (value : Nat) : State :=
  if receive then
    let s := ((s.takeLow Reg.ETH_RXR_BASE_LO.ADDR p).wr Reg.ETH_RXR_BASE_HI.ADDR value p).modEth p fun e => { e with rxStopped := false }
    (s.wr Reg.ETH_RXR_HEAD.INDEX 0 p).wr Reg.ETH_RXR_TAIL.INDEX 0 p
  else
    let s := ((s.takeLow Reg.ETH_TXR_BASE_LO.ADDR p).wr Reg.ETH_TXR_BASE_HI.ADDR value p).modEth p fun e => { e with txStopped := false }
    (s.wr Reg.ETH_TXR_HEAD.INDEX 0 p).wr Reg.ETH_TXR_TAIL.INDEX 0 p

/-- ETH_RING_RESTART. -/
def execEthRingRestart (port : Fin 2) (receive : Bool) (value : Nat) (s : State) : Host.Outcome State Fault Refusal :=
  done (s.ethRestart port.val receive value)

/-- A PCIe error on a descriptor or buffer stops that ring (R321). -/
def State.ethDmaError (s : State) (p : Nat) (receive : Bool) : State :=
  let s := s.modEth p fun e => if receive then { e with rxStopped := true } else { e with txStopped := true }
  (s.evBit Reg.ETH_EVENT.EVENTS 4 p).raise 31 p

/-- ETH_DMA_ERROR. -/
def execEthDmaError (port : Fin 2) (receive : Bool) (t : Nat) (s : State) : Host.Outcome State Fault Refusal :=
  done ((s.elapse t).ethDmaError port.val receive)

/-- A port's link goes up or down (R316): speed code of ETH_STATUS, autonegotiation only where it is on. -/
def State.ethLink (s : State) (p : Nat) (up : Bool) (speed : Nat) (anDone : Bool) : State :=
  if s.rd Reg.ETH_CTRL.MODE p = 0 ∨ s.on Reg.ETH_STATUS.LINK p = up then s
  else
    let sp := if s.rd Reg.ETH_CTRL.MODE p = 2 then 2 else speed
    let s := (s.wr Reg.ETH_STATUS.LINK (b01 up) p).wr Reg.ETH_STATUS.SPEED (if up then sp else 0) p
    let s := s.wr Reg.ETH_STATUS.AN_DONE (b01 (up && anDone && s.on Reg.ETH_CTRL.AN_EN p)) p
    s.evBit Reg.ETH_EVENT.EVENTS 3 p

/-- A port whose mode has become Off: the SerDes is idle and the link is gone (R316). -/
def State.ethOff (s : State) (p : Nat) : State :=
  if s.rd Reg.ETH_CTRL.MODE p ≠ 0 ∨ !s.on Reg.ETH_STATUS.LINK p then s
  else (((s.wr Reg.ETH_STATUS.LINK 0 p).wr Reg.ETH_STATUS.SPEED 0 p).wr Reg.ETH_STATUS.AN_DONE 0 p).evBit Reg.ETH_EVENT.EVENTS 3 p

/-- ETH_LINK_CHANGE. -/
def execEthLinkChange (port : Fin 2) (up : Bool) (speed : Fin 3) (anDone : Bool) (t : Nat) (s : State) :
    Host.Outcome State Fault Refusal :=
  done ((s.elapse t).ethLink port.val up speed.val anDone)

end Sys2Proof.Machine
end

