-- ==== Sys2Proof/Machine/Host.lean ====
section
/-! DEFINITION. The host port (16_host_backbone.md): the address decoder of BAR0, what a read returns, what a write does, the MSI-X
table, the staging window of BAR2, and the split accesses of R12 (R2, R11 to R15, R340 to R344, R358). -/

namespace Sys2Proof.Machine

/-! ### Addresses -/

/-- The instance of a field's register that lies at byte address `a`. -/
def Field.locate (f : Field) (a : Nat) : Option (Nat × Nat) :=
  if a < f.addr then none
  else
    let d := a - f.addr
    let i := d / f.s1
    let r := d % f.s1
    let j := r / f.s2
    if r % f.s2 = 0 ∧ i < f.n1 ∧ j < f.n2 then some (i, j) else none

/-- The instance of a register at byte address `a`. -/
def locateReg (r : List Field) (a : Nat) : Option (List Field × Nat × Nat) :=
  match r with
  | [] => none
  | f :: _ => (f.locate a).map fun x => (r, x.1, x.2)

/-- The register at byte address `a` of BAR0 (Table 16-9). -/
def regAt (a : Nat) : Option (List Field × Nat × Nat) := Reg.table.findSome? fun r => locateReg r a

/-- Whether block number `n` of an array of blocks of `size` bytes from `base` holds address `a`. -/
def blockOf (a base size : Nat) : Nat := (a - base) / size

/-- Whether the block that holds address `a` is there (R2, R358): lanes and drive units by the variant, slices, cells, converters and CAN
controllers by the image. -/
def State.present (s : State) (a : Nat) : Bool :=
  if between 0x100 a 0x27F then (s.convCfg (blockOf a 0x100 0x20)).isSome
  else if between 0x400 a 0x6FF then (s.convCfg (blockOf a 0x400 0x40)).isSome
  else if between 0x60000 a 0x6FFFF then s.cfg.cans.any fun c => c.can == blockOf a 0x60000 0x4000
  else if between 0x80000 a 0x8FFFF then s.hasUnit (blockOf a 0x80000 0x4000)
  else if between 0x100000 a 0x1FFFFF then decide (blockOf a 0x100000 0x1000 < s.silicon.variant.lanes)
  else if between 0x200000 a 0x27FFFF then s.on Reg.SLICE_ROLE.ROLE (blockOf a 0x200000 0x1000)
  else if between 0x300000 a 0x317FFF then (s.cellCfg (blockOf a 0x300000 0x40)).isSome
  else if between 0x318000 a 0x323FFF then (s.cellCfg (blockOf a 0x318000 0x20)).isSome
  else true

/-- Whether an access to BAR0 is taken (R11, R30): aligned, in the 16 MB, and the block of its register there. -/
def State.reachable (s : State) (a : Nat) : Bool :=
  !s.power.held && decide (a % 4 = 0) && decide (a < 16777216) && s.present a

/-! ### Reads -/

/-- Whole milliseconds since an instant, 0 before it. -/
def State.msSince (s : State) (ns : Nat) : Nat := (s.time.ns - ns) / 1000000

/-- A group's time since t0 in STOPPING (SAFE_GROUP.T_MS), in the unit whose registers are shown. -/
def State.stopMs (s : State) (g : Nat) : Nat :=
  let x := s.grp (!s.unitOn false) g
  if x.state = gsStopping then min 65535 (s.msSince x.t0) else 0

/-- DRV_CARRIER_ACT.DOWN: the carrier is in the second half of its period of 4 × TOP ns (R261). -/
def State.carrierDown (s : State) (u : Nat) : Nat :=
  let d := s.drv u
  let period := 4 * d.act.top
  if d.act.mode = mdOff ∨ period = 0 then 0 else b01 (decide (period / 2 ≤ (s.time.ns - d.valleyAt) % period))

/-- FAULT_QUIET.REMAIN_MS, begun milliseconds counted whole. -/
def State.quietLeft (s : State) : Nat :=
  if s.on Reg.FAULT_STATE.CONTAINED then (s.faults.quietEnd - s.time.ns + 999999) / 1000000 else 0

/-- ADC_REF.WAIT_US: what is left of the 1.5 ms of R228. -/
def State.refWait (s : State) : Nat :=
  if s.on Reg.ADC_REF.EN && !s.on Reg.ADC_REF.READY then (s.adc.refSince + 1500000 - s.time.ns + 999) / 1000 else 0

/-- The arms whose slice has an enabled event bit (HOST_IRQ_UNIT.ARM). -/
def State.irqArms (s : State) : Nat := maskOf 12 fun a => (s.armCfg a).isSome && s.irqSlice (s.armSlice a)

/-- The shadow run of a revive waits or runs (R208). -/
def State.reviving (s : State) : Bool := match s.referee.shadow with
  | some x => x.revive
  | none => false

/-- Whether an entry handshake for DORMANT runs (R387). -/
def State.dormantAsked (s : State) : Bool := match s.power.entry with
  | some e => e.domain == .dormant
  | none => false

/-- What a W1S bit reads (R13): 1 from the write until what it asked for has taken effect, for the bits whose request waits or runs
(DESIGN CHOICE, assumption 30: 'the current state' of the others, which act at once, is 0). -/
def State.requestBit (s : State) (f : Field) (i : Nat) : Nat :=
  match f.addr, f.lo with
  | 0x5004, 0 => b01 s.referee.forced
  | 0x5004, 1 => b01 s.referee.now
  | 0x5004, 3 => b01 s.reviving
  | 0x10000, 0 => b01 s.loadRuns
  | 0x10000, 4 => b01 (match s.load.fuse with
    | some (.burn _) => true
    | _ => false)
  | 0x100000, 1 => b01 ((s.lane i).allCall || (s.lane i).sweep.isSome)
  | 0x100000, 2 => if i % 2 = 0 then b01 (s.chain (i / 2)).restoreReq else 0
  | 0x50000, 2 => b01 (s.time.slew ≠ 0)
  | 0x83F08, 0 => maskOf 4 fun u => (s.drv u).sync
  | 0x1004, 0 => b01 (s.power.relocking ≠ 0)
  | 0x2004, 0 => b01 s.dormantAsked
  | _, _ => 0

/-- What a field reads as: the stored value; a view of what the device holds elsewhere; zero where it is write-only (R13). -/
def State.fieldNow (s : State) (f : Field) (i j : Nat) : Nat :=
  let v := s.silicon.variant
  match f.addr, f.lo with
  | 0x0, 16 => v.part
  | 0x0, 12 => s.silicon.stepLetter
  | 0x0, 8 => s.silicon.stepNumber
  | 0x4, 0 => v.lanes
  | 0x4, 8 => v.arms
  | 0x4, 12 => v.drives
  | 0x4, 15 => if v = .cx1536 then 1 else 0
  | 0x4, 16 => if v = .cx1536 then 2 else 1
  | 0xD04, 0 => maskOf 32 fun b => s.irqLane (32 * i + b)
  | 0xD10, 0 => s.irqArms
  | 0xD10, 12 => maskOf 4 s.irqDrive
  | 0xD10, 16 => maskOf 4 s.irqCan
  | 0xD10, 20 => maskOf 4 s.irqBb
  | 0xD14, 0 => maskOf 16 s.irqEng
  | 0xE10, 0 => s.silicon.deviceId % 4294967296
  | 0xE14, 0 => s.silicon.deviceId / 4294967296 % 4294967296
  | 0x400C, 16 => s.quietLeft
  | 0x8010, 16 => s.stopMs i
  | 0x10028, 4 => s.fuses.programmed
  | 0x10028, 8 => s.fuses.revokedBits
  | 0x10028, 14 => s.fuses.epoch
  | 0x40004, 16 => s.refWait
  | 0x50008, 0 => s.count % 4294967296
  | 0x5000C, 0 => s.count / 4294967296 % 4294967296
  | 0x80020, 4 => if j = 3 then 0 else s.rd f i j
  | 0x8000C, 17 => s.carrierDown i
  | 0x100000, 3 => if i % 2 = 0 then s.rd Reg.LANE_CTRL.AUTO_RESTORE i else 0
  | _, _ => if f.acc = .wo then 0 else if f.acc = .w1s then s.requestBit f i else s.rd f i j

/-- The word of a register now. -/
def State.regWord (s : State) (r : List Field) (i j : Nat) : Nat :=
  r.foldl (fun w f => w + (s.fieldNow f i j % 2 ^ f.width) * 2 ^ f.lo) 0

/-- A word of the MSI-X table or of its pending-bit array (R343); 0 elsewhere (R15). -/
def State.msixWord (s : State) (a : Nat) : Nat :=
  if between 0x800 a 0xBFF then
    let e := Tbl.look default s.host.msix ((a - 0x800) / 16)
    match (a - 0x800) / 4 % 4 with
    | 0 => e.addrLo
    | 1 => e.addrHi
    | 2 => e.data
    | _ => b01 (!e.unmasked)
  else if a = 0xC00 then s.host.pba % 4294967296
  else if a = 0xC04 then s.host.pba / 4294967296
  else 0

/-- The word at a reachable address as the device holds it. -/
def State.wordNow (s : State) (a : Nat) : Nat :=
  match regAt a with
  | some (r, i, j) => s.regWord r i j
  | none => s.msixWord a

/-- The base addresses of the low words whose quantity changes by itself (R12). COLLECT_STATUS, LANE_SEGDOWN and CELL_UNROSTERED, 64 bits of
status, are not among them (DESIGN CHOICE, assumption 31: their chapters do not call them quantities). -/
def splitLow : List Nat := [0x7018, 0x10018, 0x318000, 0x318008, 0x80064, 0x50008, 0x61008, 0x4034]

/-- Whether address `a` is such a low word. -/
def isSplitLow (a : Nat) : Bool :=
  match regAt a with
  | some (f :: _, _, _) => splitLow.contains f.addr
  | _ => false

/-- SPLIT64_LOW_READ (R12): the high word is copied into its holding register. -/
def State.splitRead (s : State) (a : Nat) : State :=
  if s.reachable a && isSplitLow a then s.latchWord (a + 4) (s.wordNow (a + 4)) else s

/-- SPLIT64_LOW_READ (R11): a read of another size than 32 bits copies nothing. -/
def execSplit64LowRead (read : RegRead) (t : Nat) (s : State) : Host.Outcome State Fault Refusal :=
  done (if read.size = 4 then (s.elapse t).splitRead read.addr else s.elapse t)

/-- What a read does besides returning its word: the copies of R12, R233, R320, R335, R362 and of the PTP words. -/
def State.readEffect (s : State) (a : Nat) : State :=
  let s := s.splitRead a
  match regAt a with
  | some (f :: _, i, j) =>
    match f.addr with
    | 0x4100 => s.histRead i
    | 0x50010 => s.ptpLatch
    | 0x51200 => if j = 0 then s.txtsRead i else s
    | _ =>
      if f.addr = Reg.ADC_ENTRY_RESULT.RAW.addr then s.adcRead i j
      else if f.addr = Reg.CAN_TXE0.RECORD.addr then s.canTxeRead i
      else s
  | _ => s

/-- A host read of `size` bytes (R11, R12, R15): the word, and the state after it. A read of any other size or alignment than a word returns
zero. A holding register that is filled gives its copy once. -/
def State.hostRead (s : State) (a size : Nat) : Nat × State :=
  if decide (size ≠ 4) || !s.reachable a then (0, s)
  else
    match Tbl.look 0 s.hold a with
    | w + 1 => (w, { s with hold := Tbl.put 0 s.hold a 0 })
    | 0 =>
      let s := s.readEffect a
      (s.wordNow a, s)

/-! ### Writes -/

/-- What a plain write does to a field (Table 00-6): RW and RWK fields take the bits, W1C fields lose the bits written as 1; the others
keep their value. -/
def State.fieldWrite (s : State) (f : Field) (i j word : Nat) : State :=
  let v := bitsOf word f.lo f.width
  match f.acc with
  | .rw => s.wr f v i j
  | .rwk => s.wr f v i j
  | .w1c => s.wr f (s.rd f i j - (s.rd f i j &&& v)) i j
  | _ => s

/-- A plain write of a register. -/
def State.regWrite (s : State) (r : List Field) (i j word : Nat) : State := s.each r fun s f => s.fieldWrite f i j word

/-- The interrupt source of an event register (R344), by the register's base address and instance: Ethernet port p is source 15 + p. -/
def eventSource (base i : Nat) : Option Nat :=
  match base with
  | 0x4024 => some 0
  | 0x7060 => some 1
  | 0x10050 => some 2
  | 0x100030 => some 3
  | 0x32401C => some 4
  | 0x200194 => some 5
  | 0x20024 => some 6
  | 0x700 => some 7
  | 0x5028 => some 8
  | 0x601C => some 9
  | 0x4000C => some 11
  | 0x80070 => some 12
  | 0x80124 => some 12
  | 0x8060 => some 13
  | 0x50060 => some 14
  | 0x51230 => some (15 + i)
  | 0x60040 => some 17
  | 0x40000C => some 18
  | 0x1050 => some 19
  | 0x2030 => some 19
  | 0x3020 => some 19
  | _ => none

/-- The source of the event register at address `a`. -/
def eventSourceAt (a : Nat) : Option Nat :=
  match regAt a with
  | some (f :: _, i, _) => eventSource f.addr i
  | _ => none

/-- After a host write to an event register, a source that was pending and still is sends its vector once more (R344). -/
def State.recheck (s : State) (k : Nat) : State :=
  if hasBit (s.rd Reg.HOST_IRQ_PENDING.SOURCE) k && s.sourcePending k then s.sendSource k else s

/-- Vectors held in the pending-bit array that are masked no longer send their messages (R343). -/
def State.flushMsix (s : State) : State :=
  if !s.host.msixEnable || !s.host.linkUp || s.host.funcMask then s
  else s.each (upTo 64) fun s v =>
    if hasBit s.host.pba v && (Tbl.look default s.host.msix v).unmasked then
      { s with host := { s.host with pba := clrBit s.host.pba v } }.sendVector v
    else s

/-- A write of a word of the MSI-X table (R343); the pending-bit array, and every other address without a register, ignores it. -/
def State.msixWrite (s : State) (a word : Nat) : State :=
  if between 0x800 a 0xBFF then
    let v := (a - 0x800) / 16
    let e := Tbl.look default s.host.msix v
    let e' : MsixVec := match (a - 0x800) / 4 % 4 with
      | 0 => { e with addrLo := word }
      | 1 => { e with addrHi := word }
      | 2 => { e with data := word }
      | _ => { e with unmasked := word % 2 == 0 }
    { s with host := { s.host with msix := Tbl.put default s.host.msix v e' } }.flushMsix
  else s

/-- A write of FRAME_CLEAR. -/
def State.frameClearWrite (s : State) (v : Nat) : State :=
  let s := (s.when (hasBit v 0) State.clearOverrun).when (hasBit v 1) State.clearStale
  (s.when (hasBit v 2) State.clearTracker).when (hasBit v 3) (·.wr Reg.PLAN_BG_STATUS.GAPS 0)

/-- A write of IMAGE_CTRL: SRC, then LOAD, ABORT and EPOCH_BURN. -/
def State.imageCtrlWrite (s : State) (v : Nat) : State :=
  let src := bitsOf v 1 2
  let s := (s.wr Reg.IMAGE_CTRL.SRC src).when (hasBit v 0) (·.imageLoad src)
  (s.when (hasBit v 3) State.imageAbort).when (hasBit v 4) State.epochBurn

/-- A write of KEY_CMD (R79): OP 1 programs, 2 revokes. -/
def State.keyCmdWrite (s : State) (v : Nat) : State :=
  let slot := v % 4
  match bitsOf v 2 2 with
  | 1 => s.keyCmd (bitsOf v 16 16) (·.keyProgram slot)
  | 2 => s.keyCmd (bitsOf v 16 16) (·.keyRevoke slot)
  | _ => s

/-- A write of LANE_CTRL. -/
def State.laneCtrlWrite (s : State) (lane v : Nat) : State :=
  let s := (s.forceIdle lane (hasBit v 0)).when (hasBit v 1) (·.laneCallup lane)
  (s.when (hasBit v 2) (·.laneRestore lane)).when (decide (lane % 2 = 0)) (·.wr Reg.LANE_CTRL.AUTO_RESTORE (bitOf v 3) lane)

/-- A write of ENG_CLEAR. -/
def State.engClearWrite (s : State) (e v : Nat) : State :=
  (s.when (hasBit v 0) (·.wr Reg.ENG_CYCLES.MAX 0 e)).when (hasBit v 1) (·.wr Reg.ENG_ECC.CORRECTED 0 e)

/-- A write of REF_CTRL. -/
def State.refCtrlWrite (s : State) (v : Nat) : State :=
  let s := (s.wr Reg.REF_CTRL.HALFTIME_EN (bitOf v 2)).when (hasBit v 0) State.forceTakeover
  (s.when (hasBit v 1) State.halftimeNow).when (hasBit v 3) State.revive

/-- A write of JRN_MRAM_CFG (R224): whether the writes it makes read back well is a free value. -/
def State.mramCfgWrite (s : State) (v : Nat) : State :=
  let (f, s) := s.draw
  if v % 2 = 1 then s.mramEnable v (f % 2 == 1)
  else if s.on Reg.JRN_MRAM_CFG.EN then s.mramDisable v (f % 2 == 1)
  else s.mramCfg v

/-- A write of ADC_CTRL. -/
def State.adcCtrlWrite (s : State) (v : Nat) : State := (s.wr Reg.ADC_CTRL.SEQ_EN v).when (hasBit v 8) State.adcCommit

/-- A write of TIME_CTRL: its actions in rising bit order, STEP not beside SET (R310), then SERVO (R309 to R311). -/
def State.timeCtrlWrite (s : State) (v : Nat) : State :=
  let s := (s.when (hasBit v 0) (·.steered State.timeSet)).when (hasBit v 1 && !hasBit v 0) (·.steered State.timeStep)
  let s := (s.when (hasBit v 2) (·.steered State.slewGo)).when (hasBit v 3) (·.hostSync true)
  (s.when (hasBit v 4) (·.hostSync false)).servoTo (hasBit v 5)

/-- A write of FAULT_CTRL. -/
def State.faultCtrlWrite (s : State) (v : Nat) : State :=
  let s := s.wr Reg.FAULT_CTRL.HIST_CORRECTED (bitOf v 0)
  (s.when (hasBit v 1) State.faultClearCounts).when (hasBit v 2) State.faultClearHist

/-- A write of CLOCK_PLL_CFG (R381, R382): FINE exists on PLL_SD and PLL_MEM only. -/
def State.pllCfgWrite (s : State) (n v : Nat) : State :=
  let s := s.wr Reg.CLOCK_PLL_CFG.PRE v n
  (s.when (decide (2 ≤ n)) (·.wr Reg.CLOCK_PLL_CFG.FINE (bitOf v 2) n)).showStaged

/-- A write of POWER_CTRL (R388, R390), keyed. -/
def State.powerCtrlWrite (s : State) (v : Nat) : State :=
  if bitsOf v 16 16 ≠ 0x3B9A then s
  else (s.when (hasBit v 0) (·.powerDormant v)).when (hasBit v 1) (·.edgeWake 4 false)

/-- What a write does to a register that acts: none where it is a plain one. `base` is the address of instance (0, 0). -/
def State.actingWrite (s : State) (base i v : Nat) : Option State :=
  match base with
  | 0x18 => some (s.when (hasBit v 31) State.xbarClear)
  | 0x1004 => some (s.when (hasBit v 0) State.clockGo)
  | 0x1010 => some (s.pllCfgWrite i v)
  | 0x1014 => some (s.trimWrite i (v % 2048))
  | 0x2004 => some (s.powerCtrlWrite v)
  | 0x200C => some ((s.analogOffWrite (hasBit v 0)).bbOffWrite (hasBit v 1))
  | 0x2038 => some (s.when (hasBit v 0) (·.wr Reg.POWER_VIN.MIN 0xFFFF))
  | 0x4020 => some (s.faultCtrlWrite v)
  | 0x402C => some (s.when (hasBit v Reg.FAULT_FIRST_FATAL.VALID.lo) State.firstFatalClear)
  | 0x4208 => some (s.draw.2.softReset v (s.draw.1 % 16))
  | 0x5004 => some (s.refCtrlWrite v)
  | 0x6018 => some (s.mramCfgWrite v)
  | 0x6024 => some (s.draw.2.draw.2.newEpoch v s.draw.1 (s.draw.2.draw.1 % 2 == 1))
  | 0x6100 => some (s.holdLow Reg.JRN_CMD_BASE_LO.ADDR v)
  | 0x6104 => some (s.ringRestart false v)
  | 0x6120 => some (s.holdLow Reg.JRN_CPL_BASE_LO.ADDR v)
  | 0x6124 => some (s.ringRestart true v)
  | 0x612C => some (s.cplHeadWrite (v % 4096))
  | 0x7050 => some (if bitsOf v 8 8 = 0 then s else s.wr Reg.PLAN_THERMAL.MARGIN (bitsOf v 8 8))
  | 0x705C => some (s.frameClearWrite v)
  | 0x8058 => some (s.resetArm v)
  | 0x10000 => some (s.imageCtrlWrite v)
  | 0x10030 => some (s.substRequest v)
  | 0x10060 => some (s.wr Reg.KEY_DATA.HASH v i)
  | 0x10090 => some (s.keyCmdWrite v)
  | 0x20020 => some (s.engClearWrite i v)
  | 0x40000 => some (s.adcCtrlWrite v)
  | 0x40004 => some (if hasBit v 0 then s.refEnable else s.refDisable)
  | 0x50000 => some (s.timeCtrlWrite v)
  | 0x50034 => some (s.addendWrite v)
  | 0x51100 => some (s.holdLow Reg.ETH_TXR_BASE_LO.ADDR v i)
  | 0x51104 => some (s.ethRestart i false v)
  | 0x51120 => some (s.holdLow Reg.ETH_RXR_BASE_LO.ADDR v i)
  | 0x51124 => some (s.ethRestart i true v)
  | 0x60000 => some (s.when (hasBit v 5) (·.canRecover i))
  | 0x60034 => some (s.canAck i (v % 64))
  | 0x80000 => some (s.drvCtrlWrite i v)
  | 0x80100 => some (s.when (hasBit v 0) (·.chopReset i))
  | 0x83F00 => some (s.loadAll (v % 16))
  | 0x83F08 => some (s.drvSync (v % 16))
  | 0x100000 => some (s.laneCtrlWrite i v)
  | 0x10002C => some (s.when (hasBit v 0) (·.laneClear i))
  | 0x200190 => some (s.when (hasBit v 0) (·.armClear i))
  | _ => none

/-- What follows a plain write of some registers: a level already asserted wakes, the rings are judged again, and the source of an event
register is checked (R344). -/
def State.afterWrite (s : State) (base i v : Nat) : State :=
  match base with
  | 0x4100C => s.when (decide (v = 4294967295)) (·.wr Reg.ADC_SEQ_COUNT.INVALID 0 i)
  | 0x51000 => s.ethOff i
  | 0x2008 => if s.levelWake then s.dormantExitStart 3 else s
  | 0x6108 => s.showWait
  | 0x6110 => s.showWait
  | 0x6128 => s.showWait
  | _ =>
    match eventSource base i with
    | some k => s.recheck k
    | none => s

/-- A host write of one word (R11 to R15), whichever path carried it (R355). -/
def State.hostWrite (s : State) (a word : Nat) : State :=
  if !s.reachable a then s
  else
    let v := word % 4294967296
    match regAt a with
    | none => s.msixWrite a v
    | some ([], _, _) => s
    | some (f :: r, i, j) =>
      match s.actingWrite f.addr i v with
      | some s' => s'
      | none => (s.regWrite (f :: r) i j v).afterWrite f.addr i v

/-- REGISTER_WRITE (R11, R15): an access of 32 bits only. -/
def execRegisterWrite (addr size value t : Nat) (s : State) : Host.Outcome State Fault Refusal :=
  done (if size = 4 then (s.elapse t).hostWrite addr value else s.elapse t)

/-- EVENT_REGISTER_WRITE (R13, R344). -/
def execEventRegisterWrite (addr value : Nat) (s : State) : Host.Outcome State Fault Refusal :=
  done (if (eventSourceAt addr).isSome then s.hostWrite addr value else s)

/-! ### BAR2 and the link -/

/-- A byte of DRAM (R341): the image copy and the staging area where the device has placed them, else the recorder's; zero beyond 8 GB. -/
def State.dramByte (s : State) (a : Nat) : Byte :=
  if 8589934592 ≤ a then 0
  else if Config.copyAt ≤ a ∧ a < Config.copyAt + s.load.copy.length then s.load.copy.getD (a - Config.copyAt) 0
  else if Config.stagingAt ≤ a ∧ a < Config.stagingAt + maxImage then Tbl.look 0 s.load.staging (a - Config.stagingAt)
  else Config.dramByte a s.load.written

/-- A byte of BAR2 (R70, R341; 256 MB): in KICK-OFF the staging area, in RUN Table 16-1; none where it lies in DRAM and DRAM is gone (R36:
the read ends with the error response of R49). In the other states it reads zero (DESIGN CHOICE, assumption 32). -/
def State.bar2Byte (s : State) (o : Nat) : Option Byte :=
  if s.power.held then some 0
  else if s.device = stKickOff then
    if o < maxImage then (if s.load.dram then some (Tbl.look 0 s.load.staging o) else none) else some 0
  else if s.device ≠ stRun then some 0
  else if o < 0x100000 then some (s.bufferByte (o / 0x80000) (o % 0x80000))
  else if o < 0x1000000 ∨ 0x10000000 ≤ o then some 0
  else if s.load.dram then some (s.dramByte (s.rd Reg.HOST_DRAM_WIN.BASE * 1048576 + (o - 0x1000000)))
  else none

/-- A read of BAR2 of any length and alignment (R340, R341): each byte from the area that holds it; none where DRAM does not answer. -/
def State.bar2Read (s : State) (offset n : Nat) : Option (List Byte) := (upTo n).mapM fun i => s.bar2Byte (offset + i)

/-- BAR2_WRITE (R70, R340): bytes into the staging area, in KICK-OFF only. -/
def State.bar2Write (s : State) (offset : Nat) (b : List Byte) : State :=
  if s.power.held || decide (s.device ≠ stKickOff) || !s.load.dram then s
  else s.modLoad fun l =>
    { l with staging := (b.zip (upTo b.length)).foldl (fun t x => if offset + x.2 < maxImage then Tbl.put 0 t (offset + x.2) x.1 else t) l.staging }

/-- BAR2_WRITE. -/
def execBar2Write (offset : Nat) (bytes : List Byte) (t : Nat) (s : State) : Host.Outcome State Fault Refusal :=
  done ((s.elapse t).bar2Write offset bytes)

/-- PCIE_LINK_CHANGE (R340, R343): the link, and the MSI-X enable and function mask of its configuration space. -/
def State.linkChange (s : State) (up enable mask : Bool) : State :=
  if s.power.held then s
  else { s with host := { s.host with linkUp := up, msixEnable := enable, funcMask := mask } }.flushMsix

/-- PCIE_LINK_CHANGE. -/
def execPcieLinkChange (up msixEnable funcMask : Bool) (t : Nat) (s : State) : Host.Outcome State Fault Refusal :=
  done ((s.elapse t).linkChange up msixEnable funcMask)

end Sys2Proof.Machine
end

