-- ==== Sys2Proof/Machine/Backbone.lean ====
section
/-! DEFINITION. The backbone (16_host_backbone.md, R349 to R357): ports, HELLO sets and partners, and the packets that carry journal
commands, host accesses and image bytes. -/

namespace Sys2Proof.Machine

/-! ### Ports -/

/-- Whether the device waits for an image over the backbone: in KICK-OFF, by a BOOT_SRC of 10b or 11b (Table 03-2), with none accepted. -/
def State.bootsOverBackbone (s : State) : Bool :=
  decide (s.device = stKickOff) && !s.cfg.loaded && decide (2 ≤ s.rd Reg.IMAGE_BOOT.BOOT_SRC)

/-- Whether port p is in use: enabled by the image, or open for a delivery before there is one; and its domain is powered. -/
def State.portOn (s : State) (p : Nat) : Bool :=
  !s.power.held && !s.power.bbOff && decide (s.device ≠ stDormant) && (s.on Reg.BB_CTRL.EN p || s.bootsOverBackbone)

/-- Whether port p is UP. -/
def State.portUp (s : State) (p : Nat) : Bool := s.on Reg.BB_STATUS.UP p

/-- A port has carried something, or has come up, now (R350). -/
def State.portBusy (s : State) (p : Nat) : State :=
  { s with host := { s.host with idleSince := Tbl.put 0 s.host.idleSince p (s.time.ns + 1) } }

/-- BB_PORT_UP (R349): 64 aligned comma columns, with a skew the receiver tolerates. The pair link sends everything again (R217). -/
def State.bbUp (s : State) (p skew : Nat) : State :=
  if !s.portOn p || decide (8 < skew) then s
  else
    let s := s.when (!s.portUp p) fun s => (s.evBit Reg.BB_EVENT.EVENTS 0 p).portBusy p
    let s := ((s.wr Reg.BB_STATUS.UP 1 p).wr Reg.BB_STATUS.CLOCK 1 p).wr Reg.BB_STATUS.SKEW (max skew (s.rd Reg.BB_STATUS.SKEW p)) p
    let s := (s.wr Reg.BB_STATUS.TX_IDLE 0 p).wr Reg.BB_STATUS.RX_IDLE 0 p
    if s.pairPort = some p then s.modPairSt fun x => { x with full := some (x.full.getD s.frameNo) } else s

/-- BB_PORT_UP. -/
def execBbPortUp (port : Fin 4) (skew t : Nat) (s : State) : Host.Outcome State Fault Refusal := done ((s.elapse t).bbUp port.val skew)

/-- BB_PORT_DOWN (R349): code violations, no comma column for 1 µs, or no forwarded clock. -/
def State.bbPortDown (s : State) (p : Nat) (clock : Bool) : State :=
  let s := s.when (s.portUp p) (·.evBit Reg.BB_EVENT.EVENTS 0 p)
  (s.wr Reg.BB_STATUS.UP 0 p).wr Reg.BB_STATUS.CLOCK (b01 (clock && s.portOn p)) p

/-- BB_PORT_DOWN. -/
def execBbPortDown (port : Fin 4) (clock : Bool) (t : Nat) (s : State) : Host.Outcome State Fault Refusal :=
  done ((s.elapse t).bbPortDown port.val clock)

/-- BB_IDLE_ENTRY (R350): nothing sent for IDLE_US; never on the pair-link port. -/
def State.bbIdle (s : State) (p : Nat) : State :=
  let us := s.rd Reg.BB_CTRL.IDLE_US p
  if s.portUp p ∧ us ≠ 0 ∧ !s.on Reg.BB_CTRL.PAIR p ∧ Tbl.look 0 s.host.idleSince p + 1000 * us ≤ s.time.ns + 1 then
    s.wr Reg.BB_STATUS.TX_IDLE 1 p
  else s

/-- BB_IDLE_ENTRY. -/
def execBbIdleEntry (port : Fin 4) (t : Nat) (s : State) : Host.Outcome State Fault Refusal := done ((s.elapse t).bbIdle port.val)

/-- BB_PACKET_DISCARD (R351): a packet with a bad CRC, or of an unknown type. -/
def State.bbDiscard (s : State) (p : Nat) (crc : Bool) : State :=
  if !s.portUp p then s else if crc then s.bump Reg.BB_COUNT.CRC 1 p else s.bump Reg.BB_COUNT.TYPE 1 p

/-- BB_PACKET_DISCARD. -/
def execBbPacketDiscard (port : Fin 4) (crc : Bool) (s : State) : Host.Outcome State Fault Refusal := done (s.bbDiscard port.val crc)

/-! ### HELLO (R352, R353) -/

/-- The device's own node_id; 0 before an image with a BACKBONE section is accepted. -/
def State.nodeId (s : State) : Nat :=
  match s.cfg.bb with
  | some b => b.nodeId
  | none => 0

/-- The 32 bytes of a HELLO (Table 16-10). -/
def State.helloBytes (s : State) (p : Nat) : List Byte :=
  leBytes 8 s.silicon.deviceId ++ leBytes 8 (if s.cfg.loaded then s.cfg.imageId else 0) ++ leBytes 2 s.silicon.variant.part ++ leBytes 1 p
    ++ leBytes 1 s.nodeId ++ leBytes 1 (b01 (decide (s.device = stRun)) + 2 * b01 s.holdsPair) ++ leBytes 3 0 ++ leBytes 4 s.epoch ++ leBytes 4 0

/-- HELLO_SEND. -/
def execHelloSend (port : Fin 4) (t : Nat) (s : State) : Host.Outcome State Fault Refusal :=
  let s := s.elapse t
  done (s.send port.val 0x01 0xFF (s.helloBytes port.val))

/-- The partner entry that names a node (R353). -/
def State.partnerNamed (s : State) (node : Nat) : Option PartnerCfg :=
  if node = 0 ∨ node = s.nodeId then none
  else match s.cfg.bb with
    | some b => b.partners.find? (·.node == node)
    | none => none

/-- The entry of source n besides its register. -/
def State.partner (s : State) (n : Nat) : Partner := Tbl.look default s.host.partners n

/-- That entry changed. -/
def State.setPartner (s : State) (n : Nat) (p : Partner) : State :=
  { s with host := { s.host with partners := Tbl.put default s.host.partners n p } }

/-- BB_PARTNERn.STATE: 0 unused or not seen, 1 LOST, 2 KNOWN, 3 REFUSED. -/
def State.partnerState (s : State) (n : Nat) : Nat := s.rd Reg.BB_PARTNER.STATE (n - 1)

/-- Whether the partner of source n is KNOWN. -/
def State.known (s : State) (n : Nat) : Bool := s.partnerState n == 2

/-- A HELLO counted as refused on its port. -/
def State.foreign (s : State) (p : Nat) : State := s.bump Reg.BB_COUNT.FOREIGN 1 p

/-- A HELLO of the right node with another identity: REFUSED. -/
def State.helloRefused (s : State) (p n : Nat) : State :=
  let s := ((s.foreign p).wr Reg.BB_PARTNER.STATE 3 (n - 1)).wr Reg.BB_PARTNER.PORTS 0 (n - 1)
  (s.setPartner n default).evBit Reg.BB_EVENT.EVENTS 3 p

/-- Whether an instant was seen within the last 3 ms. -/
def State.within3ms (s : State) (seen : Option Nat) : Bool :=
  match seen with
  | some h => decide (s.time.ns ≤ h + 3000000)
  | none => false

/-- A HELLO of a partner (R353): the second within 3 ms makes it KNOWN, and KNOWN on a port where both came on it. -/
def State.helloMatched (s : State) (p n imageId : Nat) : State :=
  let x := s.partner n
  let now := s.time.ns
  let again := s.within3ms x.helloAt
  let onPort := s.within3ms (match Tbl.look 0 x.portAt p with | 0 => none | k + 1 => some k)
  let s := s.setPartner n { helloAt := some now, imageId := some imageId, portAt := Tbl.put 0 x.portAt p (now + 1) }
  let s := if again && !s.known n then (s.wr Reg.BB_PARTNER.STATE 2 (n - 1)).evBit Reg.BB_EVENT.EVENTS 1 p else s
  s.when (s.known n && onPort) (·.wrBit Reg.BB_PARTNER.PORTS p true (n - 1))

/-- HELLO (R352, R353). -/
def State.hello (s : State) (p src : Nat) (b : List Byte) : State :=
  if !s.portUp p then s
  else
    let s := s.wr Reg.BB_STATUS.RX_IDLE 0 p
    match s.partnerNamed src with
    | none => s.foreign p
    | some c =>
      if c.identity ≠ 0 ∧ c.identity ≠ u64At b 0 then s.helloRefused p c.source
      else s.helloMatched p c.source (u64At b 8)

/-- HELLO. -/
def execHello (port : Fin 4) (src : Nat) (payload : List Byte) (t : Nat) (s : State) : Host.Outcome State Fault Refusal :=
  done ((s.elapse t).hello port.val src payload)

/-- Whether an instant lies 4 ms back. -/
def State.gone4ms (s : State) (ns : Nat) : Bool := decide (ns + 4000000 ≤ s.time.ns)

/-- BB_PARTNER_LOST (R353): a port without a HELLO for 4 ms no longer shows the partner; a KNOWN partner silent on every port is LOST. -/
def State.partnerLost (s : State) (n : Nat) : State :=
  if n = 0 ∨ !s.known n then s
  else
    let x := s.partner n
    let s := s.each (upTo 4) fun s p =>
      s.when (decide (Tbl.look 0 x.portAt p ≠ 0) && s.gone4ms (Tbl.look 0 x.portAt p - 1)) (·.wrBit Reg.BB_PARTNER.PORTS p false (n - 1))
    match x.helloAt with
    | none => s
    | some h =>
      if !s.gone4ms h then s
      else
        let s := (s.wr Reg.BB_PARTNER.STATE 1 (n - 1)).wr Reg.BB_PARTNER.PORTS 0 (n - 1)
        let s := s.each ((upTo 4).filter fun p => Tbl.look 0 x.portAt p != 0) fun s p => s.evBit Reg.BB_EVENT.EVENTS 2 p
        s.setPartner n { x with helloAt := none, portAt := [] }

/-- BB_PARTNER_LOST. -/
def execBbPartnerLost (source : Fin 16) (t : Nat) (s : State) : Host.Outcome State Fault Refusal :=
  done ((s.elapse t).partnerLost source.val)

/-! ### Requests (R354, R355) -/

/-- A request without its right, counted (R354). -/
def State.denied (s : State) (p : Nat) : State := s.bump Reg.BB_COUNT.DENIED 1 p

/-- JRN_CMD (R354): a journal command of source s, from a KNOWN partner with the journal right. -/
def State.bbJournal (s : State) (p src : Nat) (b : List Byte) : State :=
  match (if s.portUp p then s.partnerNamed src else none) with
  | none => s
  | some c => if !hasBit c.rights 0 then s.denied p else if s.known c.source then s.judge c.source b p else s

/-- JRN_CMD. -/
def execJrnCmd (port : Fin 4) (src : Nat) (payload : List Byte) (t : Nat) (s : State) : Host.Outcome State Fault Refusal :=
  done ((s.elapse t).bbJournal port.val src payload)

/-- The partner whose host access a port takes: an entry that is not REFUSED (R354, DEDUCED, assumption 48), in a packet of 1 to 32
words. -/
def State.hostPartner (s : State) (p src count : Nat) : Option PartnerCfg :=
  if !s.portUp p || !between 1 count 32 then none
  else match s.partnerNamed src with
    | some c => if s.partnerState c.source = 3 then none else some c
    | none => none

/-- Words read one after the other from an address, and the state after them. -/
def State.readWords (s : State) (a : Nat) : Nat → List Byte × State
  | 0 => ([], s)
  | n + 1 =>
    let w := s.hostRead a 4
    let b := w.2.readWords (a + 4) n
    (leBytes 4 w.1 ++ b.1, b.2)

/-- Words written one after the other from an address. -/
def State.writeWords (s : State) (a : Nat) (b : List Byte) : Nat → State
  | 0 => s
  | n + 1 => (s.hostWrite a (u32At b 0)).writeWords (a + 4) (b.drop 4) n

/-- HOST_RD (R354): answered by HOST_DATA on the port that delivered it; refused, with zero words. -/
def State.bbRead (s : State) (p src : Nat) (b : List Byte) : State :=
  let n := u32At b 4
  match s.hostPartner p src n with
  | none => s
  | some c =>
    if hasBit c.rights 1 then
      let (d, s) := s.readWords (u32At b 0) n
      s.send p 0x21 c.node (b.take 8 ++ d)
    else (s.denied p).send p 0x21 c.node (b.take 8 ++ leBytes (4 * n) 0)

/-- HOST_RD. -/
def execHostRd (port : Fin 4) (src : Nat) (payload : List Byte) (t : Nat) (s : State) : Host.Outcome State Fault Refusal :=
  done ((s.elapse t).bbRead port.val src payload)

/-- HOST_WR (R354): R11 and R15 word by word. -/
def State.bbWrite (s : State) (p src : Nat) (b : List Byte) : State :=
  let n := u32At b 4
  match s.hostPartner p src n with
  | none => s
  | some c => if hasBit c.rights 1 then s.writeWords (u32At b 0) (b.drop 8) n else s.denied p

/-- HOST_WR. -/
def execHostWr (port : Fin 4) (src : Nat) (payload : List Byte) (t : Nat) (s : State) : Host.Outcome State Fault Refusal :=
  done ((s.elapse t).bbWrite port.val src payload)

/-! ### Image delivery (R354, R356) -/

/-- Whether an IMAGE packet from a node is taken: before an image names partners, from any node; afterwards with the image right. -/
def State.imageRight (s : State) (src : Nat) : Bool :=
  !s.cfg.loaded || (match s.partnerNamed src with | some c => hasBit c.rights 2 | none => false)

/-- Whether the loader waits for a source in step 6 (Table 03-1). -/
def State.awaitsImage (s : State) : Bool := decide (s.power.step = 6) && !s.loadRuns && decide (s.rd Reg.IMAGE_STATUS.STATE ≠ 5)

/-- Bytes of a delivery into the staging area at their offset; a byte that arrives twice keeps its last value. -/
def State.deliver (s : State) (offset : Nat) (b : List Byte) : State :=
  let l := b.zip ((upTo b.length).map (offset + ·))
  let s := s.modLoad fun x => { x with staging := l.foldl (fun t y => Tbl.put 0 t y.2 y.1) x.staging }
  { s with host := { s.host with staged := l.foldl (fun t y => Tbl.put false t y.2 true) s.host.staged } }

/-- One packet of the delivery under way; the loader starts once every byte has arrived. -/
def State.takeImage (s : State) (total : Nat) (b : List Byte) : State :=
  let data := (b.drop 8).take 1016
  let off := u32At b 4
  if total < off + data.length then s
  else
    let s := s.deliver off data
    if s.delivered && s.awaitsImage then s.beginLoad 3 else s

/-- IMAGE_PACKET (R356): `total` must be equal in every packet, and a second partner is ignored while a delivery runs. -/
def State.imagePacket (s : State) (p src : Nat) (b : List Byte) : State :=
  let total := u32At b 0
  let boots := decide (s.device = stKickOff) && decide (2 ≤ s.rd Reg.IMAGE_BOOT.BOOT_SRC)
  if !s.portUp p || !boots || !s.load.dram then s
  else if !s.imageRight src then (if (s.partnerNamed src).isSome then s.denied p else s)
  else
    let other := match s.host.delivery with
      | some d => decide (d.1 ≠ src)
      | none => false
    if other then s
    else if total = 0 ∨ maxImage < total then
      if s.awaitsImage then (s.wr Reg.IMAGE_STATUS.SOURCE 3).refuse 0x203 0xFFFF 0 0 else s
    else match s.host.delivery with
      | some d => if d.2 = total then s.takeImage total b else s
      | none => { s with host := { s.host with delivery := some (src, total), staged := [] } }.takeImage total b

/-- IMAGE_PACKET. -/
def execImagePacket (port : Fin 4) (src : Nat) (payload : List Byte) (t : Nat) (s : State) : Host.Outcome State Fault Refusal :=
  done ((s.elapse t).imagePacket port.val src payload)

end Sys2Proof.Machine
end

