-- ==== Sys2Proof/Machine/Memory.lean ====
section
/-! DEFINITION. Errors in the memories (01_architecture.md R24, R26, R28, R36; 09_redundancy_journal.md R225, Table 09-12): engine,
slice, frame-image, keep-domain and DRAM. -/

namespace Sys2Proof.Machine

/-- The memories of MEMORY_ECC_ERROR, by the model's region code (DESIGN CHOICE, assumption 59). -/
inductive Memory where
  | engine | slice | buffer | journalHalf | journalRecord | ckptHalf | collector | dram
  deriving DecidableEq, Repr

/-- Region codes 0 to 7. -/
def memoryOf (region : Nat) : Memory :=
  match region with
  | 0 => .engine
  | 1 => .slice
  | 2 => .buffer
  | 3 => .journalHalf
  | 4 => .journalRecord
  | 5 => .ckptHalf
  | 6 => .collector
  | _ => .dram

/-- The region in the detail of SRAM_ECC (Table 17-1). -/
def Memory.region : Memory → Nat
  | .engine => 0
  | .slice => 1
  | .buffer => 2
  | _ => 3

/-- A corrected error (R28): a corrected fault; an engine counts its own, and one in
a keep-domain memory reaches the collector directly (R359). -/
def State.eccCorrected (s : State) (m : Memory) (item : Nat) : State :=
  match m with
  | .dram => s.raise 1 0
  | .engine => ((s.bump Reg.ENG_ECC.CORRECTED 1 (item % 16)).wr Reg.ENG_EVENT.ECC 1 (item % 16)).raise 0 0
  | _ => s.raiseVia (decide (m.region ≠ 3)) 0 m.region

/-- An entry of the image of this frame that an uncorrectable error hits (R28): stale at the freeze, or stale from now on where the image
is frozen. -/
def State.bufferCell (s : State) (n : Nat) : State :=
  if (s.cellCfg n).isNone then s
  else match s.fr.phase with
    | .open => s.modCell n fun c => { c with bad := true }
    | .stopped => s
    | _ =>
      if !(s.cell n).fresh then s
      else
        let s := (s.modCell n fun c => { c with v := c.vPrev, v2 := c.v2Prev }).freezeStale n
        (s.wr Reg.CELL_VOLT.V_USED (s.cell n).v n).wr Reg.CELL_VOLT.V2_USED (s.cell n).v2 n

/-- The same record uncorrectable in both halves (Table 09-12): from the MRAM, or a new epoch. `word` is the epoch word (R223). -/
def State.recordBad (s : State) (word : Bool) (random : Nat) : State :=
  let s := (s.halfBad 0).halfBad 1
  if s.mirrors then s
  else
    let s := s.when word (·.modJrn fun j => { j with epochOk := false })
    s.startEpoch 3 random s.journal.epochOk

/-- An uncorrectable error (R28), in the image of this frame or in that of the frame before, which its buffer still holds (R33) and in
which alone the entry is marked then (DEDUCED, assumption 54): `item` is the engine, the slice, the entry (cell + 2,048 × buffer), the
half, or 1 for the epoch word. -/
def State.eccUncorrectable (s : State) (m : Memory) (item random : Nat) : State :=
  match m with
  | .engine => s.engineEcc (item % 16)
  | .slice => s.sliceFail (item % 128)
  | .buffer =>
    let b := item / 2048 % 2
    let s := s.raise 27 b
    let n := item % 2048
    if s.fr.phase = .stopped ∨ (s.cellCfg n).isNone then s
    else if b = s.frameNo % 2 then (s.bufferCell n).when (s.fr.phase ≠ .open) (·.staleEntry b n)
    else s.staleEntry b n
  | .journalHalf => s.halfBad (item % 2)
  | .journalRecord => s.recordBad (item % 2 == 1) random
  | .ckptHalf => s.setHalf (item % 2) { s.half (item % 2) with ecc := true }
  | .collector => s.raise 61 0
  | .dram => s.raise 26 0

/-- MEMORY_ECC_ERROR (R28, R225). A memory whose domain is off or in reset raises nothing. -/
def State.memoryError (s : State) (m : Memory) (item : Nat) (uncorrectable : Bool) (random : Nat) : State :=
  let keep := decide (m.region = 3) && decide (m ≠ .dram)
  if !s.power.supplied || (s.power.held && !keep) then s
  else if uncorrectable then s.eccUncorrectable m item random
  else s.eccCorrected m item

/-- MEMORY_ECC_ERROR. -/
def execMemoryEccError (region : Fin 8) (item : Nat) (uncorrectable : Bool) (random t : Nat) (s : State) :
    Host.Outcome State Fault Refusal :=
  done ((s.elapse t).memoryError (memoryOf region.val) item uncorrectable random)

/-- DRAM_FAILURE (R24, R36): a contained fault; control goes on; a load under way is refused, and no source can be tried. -/
def State.dramFailure (s : State) : State :=
  if s.power.held || !s.load.dram then s
  else
    let s := s.dramGone
    if s.loadRuns then (s.modLoad fun l => { l with sources := [] }).endRefused 0x204 0xFFFF 0 0 else s

/-- DRAM_FAILURE. -/
def execDramFailure (t : Nat) (s : State) : Host.Outcome State Fault Refusal := done (s.elapse t).dramFailure

end Sys2Proof.Machine
end

