-- ==== Sys2Proof/Machine/Dispatch.lean ====
section
/-! DEFINITION. One arm per command: the meaning it calls. -/

namespace Sys2Proof.Machine

def exec (i : Instr) (s : State) : Host.Outcome State Fault Refusal :=
  match i with
  | .registerWrite addr size value t => Sys2Proof.Machine.execRegisterWrite addr size value t s
  | .split64LowRead read t => Sys2Proof.Machine.execSplit64LowRead read t s
  | .eventRegisterWrite addr value => Sys2Proof.Machine.execEventRegisterWrite addr value s
  | .supplyPor t porN => Sys2Proof.Machine.execSupplyPor t porN s
  | .porRelease t refsel mram random => Sys2Proof.Machine.execPorRelease t refsel mram random s
  | .resetNAssert t endOfFrame => Sys2Proof.Machine.execResetNAssert t endOfFrame s
  | .resetNRelease t => Sys2Proof.Machine.execResetNRelease t s
  | .softReset value t endOfFrame => Sys2Proof.Machine.execSoftReset value t endOfFrame s
  | .railPgood monitor t => Sys2Proof.Machine.execRailPgood monitor t s
  | .wakeTimeout kind item t => Sys2Proof.Machine.execWakeTimeout kind item t s
  | .pllLock pll t => Sys2Proof.Machine.execPllLock pll t s
  | .pllLockLoss pll t => Sys2Proof.Machine.execPllLockLoss pll t s
  | .devResetRelease t bootSrc => Sys2Proof.Machine.execDevResetRelease t bootSrc s
  | .dramInitDone ok t => Sys2Proof.Machine.execDramInitDone ok t s
  | .imageFetchDone sfdpOk densityMb image t => Sys2Proof.Machine.execImageFetchDone sfdpOk densityMb image t s
  | .flashTimeout t => Sys2Proof.Machine.execFlashTimeout t s
  | .imageAuthenticate t => Sys2Proof.Machine.execImageAuthenticate t s
  | .sectionChecks t => Sys2Proof.Machine.execSectionChecks t s
  | .imageCommit failed writeOk sin t => Sys2Proof.Machine.execImageCommit failed writeOk sin t s
  | .laneUpTimeout t => Sys2Proof.Machine.execLaneUpTimeout t s
  | .kickoffGrant t => Sys2Proof.Machine.execKickoffGrant t s
  | .imageLoad src t => Sys2Proof.Machine.execImageLoad src t s
  | .imageAbort t => Sys2Proof.Machine.execImageAbort t s
  | .epochBurn t => Sys2Proof.Machine.execEpochBurn t s
  | .keyProgram slot unlock t => Sys2Proof.Machine.execKeyProgram slot unlock t s
  | .keyRevoke slot unlock t => Sys2Proof.Machine.execKeyRevoke slot unlock t s
  | .fuseOpDone ok t => Sys2Proof.Machine.execFuseOpDone ok t s
  | .bar2Write offset bytes t => Sys2Proof.Machine.execBar2Write offset bytes t s
  | .substRequest value t => Sys2Proof.Machine.execSubstRequest value t s
  | .sliceError slice t => Sys2Proof.Machine.execSliceError slice t s
  | .substInService copyOk t => Sys2Proof.Machine.execSubstInService copyOk t s
  | .spareSelftestFail slice t => Sys2Proof.Machine.execSpareSelftestFail slice t s
  | .frameTick t met => Sys2Proof.Machine.execFrameTick t met s
  | .autoRedeblock conv t => Sys2Proof.Machine.execAutoRedeblock conv t s
  | .tSample t => Sys2Proof.Machine.execTSample t s
  | .adcBurstStart adc t => Sys2Proof.Machine.execAdcBurstStart adc t s
  | .adcResult adc entry nanovolt t => Sys2Proof.Machine.execAdcResult adc entry nanovolt t s
  | .adcResultRead adc entry => Sys2Proof.Machine.execAdcResultRead adc entry s
  | .dsOutput unit channel bits t => Sys2Proof.Machine.execDsOutput unit channel bits t s
  | .uplinkSlot lane ns bytes => Sys2Proof.Machine.execUplinkSlot lane ns bytes s
  | .uplinkTrainCrc lane bytes crc => Sys2Proof.Machine.execUplinkTrainCrc lane bytes crc s
  | .callupReply lane roundTrip bytes t => Sys2Proof.Machine.execCallupReply lane roundTrip bytes t s
  | .callupLoop lane loop hop t => Sys2Proof.Machine.execCallupLoop lane loop hop t s
  | .callupLaunch call t => Sys2Proof.Machine.execCallupLaunch call t s
  | .laneSyncAcquire lane t => Sys2Proof.Machine.execLaneSyncAcquire lane t s
  | .laneSyncLoss lane t => Sys2Proof.Machine.execLaneSyncLoss lane t s
  | .tFreeze t => Sys2Proof.Machine.execTFreeze t s
  | .autoRestore chain t => Sys2Proof.Machine.execAutoRestore chain t s
  | .laneRestore lane => Sys2Proof.Machine.execLaneRestore lane s
  | .laneCallup lane => Sys2Proof.Machine.execLaneCallup lane s
  | .laneForceIdle lane idle t => Sys2Proof.Machine.execLaneForceIdle lane idle t s
  | .engineGraphComplete engine cycles => Sys2Proof.Machine.execEngineGraphComplete engine cycles s
  | .tComputeEnd t shadowDiff => Sys2Proof.Machine.execTComputeEnd t shadowDiff s
  | .tRankEnd t armCycles late refIn powerMw => Sys2Proof.Machine.execTRankEnd t armCycles late refIn powerMw s
  | .plannerStepDown t => Sys2Proof.Machine.execPlannerStepDown t s
  | .overrunHoldEnd t => Sys2Proof.Machine.execOverrunHoldEnd t s
  | .backgroundDispatch offer t => Sys2Proof.Machine.execBackgroundDispatch offer t s
  | .thermalShedStep t => Sys2Proof.Machine.execThermalShedStep t s
  | .trkEntryTimeout entry t => Sys2Proof.Machine.execTrkEntryTimeout entry t s
  | .leaseExpiry t => Sys2Proof.Machine.execLeaseExpiry t s
  | .heartbeatLoss plane t => Sys2Proof.Machine.execHeartbeatLoss plane t s
  | .planeEccError plane position t => Sys2Proof.Machine.execPlaneEccError plane position t s
  | .planePgoodLoss plane t => Sys2Proof.Machine.execPlanePgoodLoss plane t s
  | .planeErrorLine plane t => Sys2Proof.Machine.execPlaneErrorLine plane t s
  | .forceTakeover t => Sys2Proof.Machine.execForceTakeover t s
  | .takeoverGrant t => Sys2Proof.Machine.execTakeoverGrant t s
  | .halftimeNow t => Sys2Proof.Machine.execHalftimeNow t s
  | .halftimeHandover t => Sys2Proof.Machine.execHalftimeHandover t s
  | .revive t => Sys2Proof.Machine.execRevive t s
  | .reviveComplete t => Sys2Proof.Machine.execReviveComplete t s
  | .refereeMismatch t => Sys2Proof.Machine.execRefereeMismatch t s
  | .pairPacket port src packet t => Sys2Proof.Machine.execPairPacket port src packet t s
  | .pairSilence t => Sys2Proof.Machine.execPairSilence t s
  | .hostCommandTake entry t => Sys2Proof.Machine.execHostCommandTake entry t s
  | .journalRecordCommitted write t => Sys2Proof.Machine.execJournalRecordCommitted write t s
  | .jrnCplHeadWrite value => Sys2Proof.Machine.execJrnCplHeadWrite value s
  | .ringRestart completion value => Sys2Proof.Machine.execRingRestart completion value s
  | .ringPcieError t => Sys2Proof.Machine.execRingPcieError t s
  | .jrnMramEnable value readBack t => Sys2Proof.Machine.execJrnMramEnable value readBack t s
  | .jrnMramDisable value readBack t => Sys2Proof.Machine.execJrnMramDisable value readBack t s
  | .newEpoch value source t => Sys2Proof.Machine.execNewEpoch value source t s
  | .jrnHalfRebuilt half => Sys2Proof.Machine.execJrnHalfRebuilt half s
  | .setFramePeriod period => Sys2Proof.Machine.execSetFramePeriod period s
  | .cellAdmit cell identity => Sys2Proof.Machine.execCellAdmit cell identity s
  | .cellBypass cell => Sys2Proof.Machine.execCellBypass cell s
  | .cellFaultClear cell => Sys2Proof.Machine.execCellFaultClear cell s
  | .coeffWrite args => Sys2Proof.Machine.execCoeffWrite args s
  | .bankSwap bank => Sys2Proof.Machine.execBankSwap bank s
  | .paramWrite args => Sys2Proof.Machine.execParamWrite args s
  | .convDeblock conv => Sys2Proof.Machine.execConvDeblock conv s
  | .convBlock conv => Sys2Proof.Machine.execConvBlock conv s
  | .canQueue args source seq => Sys2Proof.Machine.execCanQueue args source seq s
  | .canFlush can buffer => Sys2Proof.Machine.execCanFlush can buffer s
  | .coastLimit conv t => Sys2Proof.Machine.execCoastLimit conv t s
  | .resyncTimeout conv t => Sys2Proof.Machine.execResyncTimeout conv t s
  | .safeInputChange unit input level t => Sys2Proof.Machine.execSafeInputChange unit input level t s
  | .safeFilterSettle unit input t => Sys2Proof.Machine.execSafeFilterSettle unit input t s
  | .safeUnsettled unit input t => Sys2Proof.Machine.execSafeUnsettled unit input t s
  | .safeDiscrepancy unit pair t => Sys2Proof.Machine.execSafeDiscrepancy unit pair t s
  | .tpoPulse tpo start readA readB t => Sys2Proof.Machine.execTpoPulse tpo start readA readB t s
  | .tpoCheck tpo levels t => Sys2Proof.Machine.execTpoCheck tpo levels t s
  | .safeStopTimer unit group t => Sys2Proof.Machine.execSafeStopTimer unit group t s
  | .safeDriveEnvelope t => Sys2Proof.Machine.execSafeDriveEnvelope t s
  | .safeCrossExchange arrivesA arrivesB t => Sys2Proof.Machine.execSafeCrossExchange arrivesA arrivesB t s
  | .safeLinkSilence unit t => Sys2Proof.Machine.execSafeLinkSilence unit t s
  | .safeSelftestFail unit t => Sys2Proof.Machine.execSafeSelftestFail unit t s
  | .safeResetArm value t => Sys2Proof.Machine.execSafeResetArm value t s
  | .safeArmExpiry t => Sys2Proof.Machine.execSafeArmExpiry t s
  | .safeResetFall t => Sys2Proof.Machine.execSafeResetFall t s
  | .safeResetRise t => Sys2Proof.Machine.execSafeResetRise t s
  | .safeResetStuck t => Sys2Proof.Machine.execSafeResetStuck t s
  | .drvLoadall value t => Sys2Proof.Machine.execDrvLoadall value t s
  | .drvSync value => Sys2Proof.Machine.execDrvSync value s
  | .drvLatchClear drv value t => Sys2Proof.Machine.execDrvLatchClear drv value t s
  | .drvClearCounts unit => Sys2Proof.Machine.execDrvClearCounts unit s
  | .carrierValley drv est conf theta slow emf t => Sys2Proof.Machine.execCarrierValley drv est conf theta slow emf t s
  | .chopperBoundary drv t => Sys2Proof.Machine.execChopperBoundary drv t s
  | .desatTrip drv leg high t => Sys2Proof.Machine.execDesatTrip drv leg high t s
  | .instantTrip drv leg t => Sys2Proof.Machine.execInstantTrip drv leg t s
  | .vdrvUvlo unit t => Sys2Proof.Machine.execVdrvUvlo unit t s
  | .vdrvRecover unit t => Sys2Proof.Machine.execVdrvRecover unit t s
  | .vbUndervoltage unit leg t => Sys2Proof.Machine.execVbUndervoltage unit leg t s
  | .gateInterlock unit leg t => Sys2Proof.Machine.execGateInterlock unit leg t s
  | .driveOtShutdown unit t => Sys2Proof.Machine.execDriveOtShutdown unit t s
  | .driveOtRelease unit t => Sys2Proof.Machine.execDriveOtRelease unit t s
  | .barrierLinkLost unit t => Sys2Proof.Machine.execBarrierLinkLost unit t s
  | .barrierLinkRecover unit inputs t => Sys2Proof.Machine.execBarrierLinkRecover unit inputs t s
  | .driveEnableChange unit active t => Sys2Proof.Machine.execDriveEnableChange unit active t s
  | .motChopReset unit => Sys2Proof.Machine.execMotChopReset unit s
  | .chopCheck unit t => Sys2Proof.Machine.execChopCheck unit t s
  | .startFail unit t => Sys2Proof.Machine.execStartFail unit t s
  | .catchTimeout unit t => Sys2Proof.Machine.execCatchTimeout unit t s
  | .catchSlow unit t => Sys2Proof.Machine.execCatchSlow unit t s
  | .shortEnd unit t => Sys2Proof.Machine.execShortEnd unit t s
  | .stopseqCoastEnd unit t => Sys2Proof.Machine.execStopseqCoastEnd unit t s
  | .spdEdge unit high t => Sys2Proof.Machine.execSpdEdge unit high t s
  | .speedSignalLost unit t => Sys2Proof.Machine.execSpeedSignalLost unit t s
  | .adcCommit t => Sys2Proof.Machine.execAdcCommit t s
  | .adcRefEnable t => Sys2Proof.Machine.execAdcRefEnable t s
  | .adcRefReady t => Sys2Proof.Machine.execAdcRefReady t s
  | .hkRoundStart t => Sys2Proof.Machine.execHkRoundStart t s
  | .hkRoundDone readings t => Sys2Proof.Machine.execHkRoundDone readings t s
  | .keepCounterCopy t => Sys2Proof.Machine.execKeepCounterCopy t s
  | .timeSet t => Sys2Proof.Machine.execTimeSet t s
  | .timeStep t => Sys2Proof.Machine.execTimeStep t s
  | .timeSlewGo t => Sys2Proof.Machine.execTimeSlewGo t s
  | .timeSlewDone t => Sys2Proof.Machine.execTimeSlewDone t s
  | .timeSyncSet t => Sys2Proof.Machine.execTimeSyncSet t s
  | .timeSyncClr t => Sys2Proof.Machine.execTimeSyncClr t s
  | .timeServoChange pps t => Sys2Proof.Machine.execTimeServoChange pps t s
  | .timeAddendWrite value t => Sys2Proof.Machine.execTimeAddendWrite value t s
  | .ppsEdge edge => Sys2Proof.Machine.execPpsEdge edge s
  | .ppsLost t => Sys2Proof.Machine.execPpsLost t s
  | .ethRxFrame port frame fcsOk bufAddr t => Sys2Proof.Machine.execEthRxFrame port frame fcsOk bufAddr t s
  | .ethTxDescriptor port desc frame t => Sys2Proof.Machine.execEthTxDescriptor port desc frame t s
  | .ethTxtsRead port => Sys2Proof.Machine.execEthTxtsRead port s
  | .ethRingRestart port receive value => Sys2Proof.Machine.execEthRingRestart port receive value s
  | .ethDmaError port receive t => Sys2Proof.Machine.execEthDmaError port receive t s
  | .ethLinkChange port up speed anDone t => Sys2Proof.Machine.execEthLinkChange port up speed anDone t s
  | .canSlotStart can column t => Sys2Proof.Machine.execCanSlotStart can column t s
  | .canSlotEnd can column onBus t => Sys2Proof.Machine.execCanSlotEnd can column onBus t s
  | .canTxComplete can sofFrame sofNs t => Sys2Proof.Machine.execCanTxComplete can sofFrame sofNs t s
  | .canTxAttemptFail can arbitration penalty t => Sys2Proof.Machine.execCanTxAttemptFail can arbitration penalty t s
  | .canRecover can t => Sys2Proof.Machine.execCanRecover can t s
  | .canRecoveryDone can t => Sys2Proof.Machine.execCanRecoveryDone can t s
  | .canRxMessage can id flags dlc data sofFrame sofNs t => Sys2Proof.Machine.execCanRxMessage can id flags dlc data sofFrame sofNs t s
  | .canRxAck can index => Sys2Proof.Machine.execCanRxAck can index s
  | .canTxeRead can => Sys2Proof.Machine.execCanTxeRead can s
  | .bbPortUp port skew t => Sys2Proof.Machine.execBbPortUp port skew t s
  | .bbPortDown port clock t => Sys2Proof.Machine.execBbPortDown port clock t s
  | .bbIdleEntry port t => Sys2Proof.Machine.execBbIdleEntry port t s
  | .helloSend port t => Sys2Proof.Machine.execHelloSend port t s
  | .hello port src payload t => Sys2Proof.Machine.execHello port src payload t s
  | .bbPartnerLost source t => Sys2Proof.Machine.execBbPartnerLost source t s
  | .jrnCmd port src payload t => Sys2Proof.Machine.execJrnCmd port src payload t s
  | .hostRd port src payload t => Sys2Proof.Machine.execHostRd port src payload t s
  | .hostWr port src payload t => Sys2Proof.Machine.execHostWr port src payload t s
  | .imagePacket port src payload t => Sys2Proof.Machine.execImagePacket port src payload t s
  | .bbPacketDiscard port crc => Sys2Proof.Machine.execBbPacketDiscard port crc s
  | .collectorEvent t => Sys2Proof.Machine.execCollectorEvent t s
  | .quietTimeout t => Sys2Proof.Machine.execQuietTimeout t s
  | .faultClearCounts => Sys2Proof.Machine.execFaultClearCounts s
  | .faultClearHist => Sys2Proof.Machine.execFaultClearHist s
  | .firstFatalClear => Sys2Proof.Machine.execFirstFatalClear s
  | .faultHistRead entry => Sys2Proof.Machine.execFaultHistRead entry s
  | .timePtpRead t => Sys2Proof.Machine.execTimePtpRead t s
  | .aliveToggle t => Sys2Proof.Machine.execAliveToggle t s
  | .xbarWaitClear => Sys2Proof.Machine.execXbarWaitClear s
  | .frameClearOverrun => Sys2Proof.Machine.execFrameClearOverrun s
  | .frameClearStale => Sys2Proof.Machine.execFrameClearStale s
  | .frameClearTracker => Sys2Proof.Machine.execFrameClearTracker s
  | .frameClearGaps => Sys2Proof.Machine.execFrameClearGaps s
  | .laneClearCounts lane => Sys2Proof.Machine.execLaneClearCounts lane s
  | .armClearCounts slice => Sys2Proof.Machine.execArmClearCounts slice s
  | .engClearCycles engine => Sys2Proof.Machine.execEngClearCycles engine s
  | .engClearEcc engine => Sys2Proof.Machine.execEngClearEcc engine s
  | .memoryEccError region item uncorrectable random t => Sys2Proof.Machine.execMemoryEccError region item uncorrectable random t s
  | .dramFailure t => Sys2Proof.Machine.execDramFailure t s
  | .vinSample mv t => Sys2Proof.Machine.execVinSample mv t s
  | .vinLoss t => Sys2Proof.Machine.execVinLoss t s
  | .keepOnlyExit t => Sys2Proof.Machine.execKeepOnlyExit t s
  | .thermalLatchClear t => Sys2Proof.Machine.execThermalLatchClear t s
  | .powerDormant value t => Sys2Proof.Machine.execPowerDormant value t s
  | .powerWake t => Sys2Proof.Machine.execPowerWake t s
  | .wakeNEvent low late t => Sys2Proof.Machine.execWakeNEvent low late t s
  | .analogOff off t => Sys2Proof.Machine.execAnalogOff off t s
  | .bbPhyOff off t => Sys2Proof.Machine.execBbPhyOff off t s
  | .powerHandshakePoll busy t => Sys2Proof.Machine.execPowerHandshakePoll busy t s
  | .powerEntryTimeout busy t => Sys2Proof.Machine.execPowerEntryTimeout busy t s
  | .powerClearVinMin => Sys2Proof.Machine.execPowerClearVinMin s
  | .clockGo t => Sys2Proof.Machine.execClockGo t s
  | .clockTrimFine pll value t => Sys2Proof.Machine.execClockTrimFine pll value t s
  | .pwmCommandEdge unit leg high inputs t => Sys2Proof.Machine.execPwmCommandEdge unit leg high inputs t s
  | .checkpointLoadDone released checked eccBad t => Sys2Proof.Machine.execCheckpointLoadDone released checked eccBad t s
  | .canRxError can amount t => Sys2Proof.Machine.execCanRxError can amount t s
  | .safeResetStuckEnd t => Sys2Proof.Machine.execSafeResetStuckEnd t s
  | .tpoReadbackFault unit tpo t => Sys2Proof.Machine.execTpoReadbackFault unit tpo t s
  | .driveBandChange unit celsius8 valid t => Sys2Proof.Machine.execDriveBandChange unit celsius8 valid t s
  | .pcieLinkChange up msixEnable funcMask t => Sys2Proof.Machine.execPcieLinkChange up msixEnable funcMask t s

end Sys2Proof.Machine
end

