-- ==== Sys2Proof/Safety.lean ====
section
/-! DEFINITION. What the claims mean by a well-formed state and by what a command leaves alone: the canonical form of the stores, the fuses
that never fall, the parts of the state, and the relation between a state and one that follows from it. -/

namespace Sys2Proof.Machine

/-- The numbers of a store rise strictly from `lo` on. -/
def Tbl.risesFrom {α : Type} : Nat → Tbl α → Bool
  | _, [] => true
  | lo, (k, _) :: t => decide (lo ≤ k) && Tbl.risesFrom (k + 1) t

/-- Every store of the state is in its canonical form. Two register stores hold entries with reset values of their own, so that for
them only the order of the numbers is meant. -/
def State.storesWf (s : State) : Bool :=
  Tbl.risesFrom 0 s.regs && Tbl.risesFrom 0 s.keep && s.hold.wf 0 && s.wrHold.wf 0 && s.images.wf [] && s.lanes.wf default && s.chains.wf default
    && s.cells.wf default && s.arms.wf default && s.engs.wf default && s.convs.wf default && s.drives.wf default && s.motors.wf default
    && s.eths.wf default && s.canQueues.wf default && s.cans.wf default

/-- A key slot that lies at or above another (R79): a hash, once programmed, stays, and so does a revocation. -/
def KeySlot.below (a b : KeySlot) : Bool := (decide (a.hash = none) || decide (b.hash = a.hash)) && (!a.revoked || b.revoked)

/-- Fuses that lie at or above others (R79): no hash changes, no revoke bit clears and the epoch does not fall. -/
def Fuses.below (a b : Fuses) : Bool :=
  a.slot0.below b.slot0 && a.slot1.below b.slot1 && a.slot2.below b.slot2 && a.slot3.below b.slot3 && decide (a.epoch ≤ b.epoch)

/-- The parts of the state other than the registers. -/
inductive Part where
  | silicon | fuses | hold | wrHold | time | power | faults | host | load | cfg | fr | images | lanes | chains | cells | arms | engs
  | convs | referee | pair | journal | adc | drives | motors | safety | eths | canQueues | cans | out | drawn | pending
  deriving DecidableEq, Repr, Inhabited

/-- A part is the same in two states. -/
def Part.same (p : Part) (s t : State) : Prop :=
  match p with
  | .silicon => t.silicon = s.silicon
  | .fuses => t.fuses = s.fuses
  | .hold => t.hold = s.hold
  | .wrHold => t.wrHold = s.wrHold
  | .time => t.time = s.time
  | .power => t.power = s.power
  | .faults => t.faults = s.faults
  | .host => t.host = s.host
  | .load => t.load = s.load
  | .cfg => t.cfg = s.cfg
  | .fr => t.fr = s.fr
  | .images => t.images = s.images
  | .lanes => t.lanes = s.lanes
  | .chains => t.chains = s.chains
  | .cells => t.cells = s.cells
  | .arms => t.arms = s.arms
  | .engs => t.engs = s.engs
  | .convs => t.convs = s.convs
  | .referee => t.referee = s.referee
  | .pair => t.pair = s.pair
  | .journal => t.journal = s.journal
  | .adc => t.adc = s.adc
  | .drives => t.drives = s.drives
  | .motors => t.motors = s.motors
  | .safety => t.safety = s.safety
  | .eths => t.eths = s.eths
  | .canQueues => t.canQueues = s.canQueues
  | .cans => t.cans = s.cans
  | .out => t.out = s.out
  | .drawn => t.drawn = s.drawn
  | .pending => t.pending = s.pending

/-- Instance (i, j) of a field lies outside the fields `F`: no instance of any of them is stored where it is. -/
def Field.outside (f : Field) (i j : Nat) (F : List Field) : Prop :=
  ∀ g ∈ F, ∀ a b, g.has a b = true → g.dom = f.dom → g.key a b ≠ f.key i j

/-- `t` follows from `s` by a change of the parts in `A` and of the register fields in `R` (of any register where `R` is none) alone;
what has left the device stays so, free values are drawn in order, fuses never fall, and stores keep their canonical form. -/
structure Effect (A : List Part) (R : Option (List Field)) (s t : State) : Prop where
  same : ∀ p, p ∉ A → p.same s t
  regs : ∀ F, R = some F → ∀ f i j, f.outside i j F → t.rd f i j = s.rd f i j
  log : s.out <+: t.out
  drawn : s.drawn ≤ t.drawn
  fuses : s.fuses.below t.fuses = true
  stores : s.storesWf = true → t.storesWf = true

/-- The register fields that move when the time base runs to a command's instant: the slew that runs (R309). -/
def movesTime : List Field := [Reg.TIME_SLEW_REMAIN.VALUE, Reg.TIME_STATUS.SLEWING]

/-- The register field that every command may move as it ends: which interrupt sources are pending (R344). -/
def movesIrq : List Field := [Reg.HOST_IRQ_PENDING.SOURCE]

/-- The register fields that a block moves as it raises a fault event: none where the event waits for the collector, these where it finds
the bridge buffer full and is counted at once (R359). -/
def movesFault : List Field :=
  [Reg.COLLECT_STATUS_LO.STATUS, Reg.COLLECT_STATUS_HI.STATUS, Reg.FAULT_COUNT_CORR.COUNT, Reg.FAULT_COUNT_CONT.COUNT,
    Reg.FAULT_COUNT_FATAL.COUNT, Reg.FAULT_EVENT.CORRECTED, Reg.FAULT_EVENT.CONTAINED, Reg.FAULT_EVENT.FATAL,
    Reg.FAULT_HIST_STATUS.LOST, Reg.FAULT_EVENT.HIST_LOST]

/-- Instances of field `f` other than `i` read the same in two states. -/
def keepsOthers (f : Field) (i : Nat) (s t : State) : Prop := ∀ k, k ≠ i → ∀ j, t.rd f k j = s.rd f k j

/-- PTP time as one number, in the units of `TimeSt.sub` (R306). -/
def TimeSt.ptp (t : TimeSt) : Int := (t.sec : Int) * secUnit + t.sub

/-- The register fields of the receive entries of a CAN controller (R338). -/
def movesCanEntry : List Field :=
  canDataFields ++ [Reg.CAN_RX_ID.ID, Reg.CAN_RX_ID.RTR, Reg.CAN_RX_ID.IDE, Reg.CAN_RX_ID.VALID, Reg.CAN_RX_INFO.DLC, Reg.CAN_RX_INFO.FDF,
    Reg.CAN_RX_INFO.BRS, Reg.CAN_RX_INFO.ESI, Reg.CAN_RX_INFO.LOOP, Reg.CAN_RX_INFO.FILTER, Reg.CAN_RX_INFO.UNFILTERED,
    Reg.CAN_RX_NS_LO.NS, Reg.CAN_RX_NS_HI.NS, Reg.CAN_RX_FRAME.FRAME]

/-- The fault event that the block of a position raises in this state (R359). -/
def State.evt (s : State) (pos detail : Nat) : FaultEvt := ⟨pos, detail % 65536, s.frameNo, s.ticking, s.count, !keepSource pos⟩

/-- Whether an event of a block behind the bridge finds the bridge closed or the event buffer full: neither (R359). -/
def State.mayRaise (s : State) : Bool := s.power.bridge && decide ((s.faults.waiting.filter (·.bridged)).length < 32)

/-- Exactly one event waits for the collector in `n` beside those of `s`: that of the position, with the frame and time of `s`. -/
def raises (s n : State) (pos detail : Nat) : Prop := n.faults.waiting = insertEvt (s.evt pos detail) s.faults.waiting

/-- Whether a tick of RUN falls into the keep-clock cycle of this instant (R221), so that its executions precede a DEV reset that begins
now; the cycles are those of the model (assumption 37). -/
def State.tickInCycle (s : State) : Bool :=
  s.ticking && decide (s.device = stRun) && decide (s.time.ns ≤ s.fr.nextTick)
    && decide (s.fr.nextTick * 4 / 125 = s.time.ns * 4 / 125)

/-- The shedding steps as the power controller keeps them (R374): VIN step and thermal step at most 6, the thermal step as the planner shows
it, and the step in force the higher of the two. -/
def State.shedInv (s : State) : Prop :=
  s.rd Reg.POWER_SHED.VIN_STEP ≤ 6 ∧ s.rd Reg.POWER_SHED.THERMAL_STEP ≤ 6 ∧
    s.rd Reg.PLAN_THERMAL.SHED_STEP = s.rd Reg.POWER_SHED.THERMAL_STEP ∧
    s.rd Reg.POWER_SHED.STEP = max (s.rd Reg.POWER_SHED.VIN_STEP) (s.rd Reg.POWER_SHED.THERMAL_STEP)

/-- A ball withdrawn from plane `p` with a cause at the present count (R201): no ball, the cause and no lease shown, and its event. -/
def withdrawn (s n : State) (p cause : Nat) : Prop :=
  n.referee.ball = false ∧ n.rd Reg.REF_TAKEOVER.LAST_CAUSE = cause ∧ n.rd Reg.REF_STATUS.LEASE = 0 ∧ n.referee.withdrawnAt = s.time.ns ∧
    raises s n 20 (16 * p + cause)

/-- Whether the device may take the next entry of the command ring (R346): both rings enabled and running, an entry waiting, and room
for the completions that are owed. -/
def State.ringReady (s : State) : Bool :=
  s.on Reg.JRN_CMD_CFG.EN && s.on Reg.JRN_CPL_CFG.EN && !s.on Reg.JRN_RING_STATUS.STOPPED && !s.power.held && s.host.linkUp
    && decide (s.rd Reg.JRN_CMD_HEAD.INDEX % s.cmdSize ≠ s.rd Reg.JRN_CMD_TAIL.INDEX % s.cmdSize) && decide (2 + s.owed ≤ s.cplFree)

/-- An acknowledgement with a status has been written into the completion ring (R347, Table 16-4). -/
def answered (s n : State) (status : Nat) : Prop :=
  n.host.cplPending = true ∧
    ∃ l a b, s.out ++ l ++ [.completion a b] <+: n.out ∧ u8At b 0 = 1 ∧ u8At b 1 = status

/-- A safety unit has found a failed diagnostic (R302): its cause, the event, and every group that was not LOCKED_OUT removed by it with
cause DIAG. -/
def diagnosed (s n : State) (b : Bool) (cause : Nat) : Prop :=
  (n.safeUnit b).diag = cause ∧ n.rd Reg.SAFE_EVENT.DIAG = 1 ∧ n.rd Reg.SAFE_STATUS.DIAG = 1 ∧
    ∀ g, g < 8 → hasBit s.cfg.safety.groups g = true → ((s.grp b g).state = gsEnabled ∨ (s.grp b g).state = gsStopping) →
      (n.grp b g).state = gsLocked ∧ (n.grp b g).cause = 6

/-- The safety unit that a number names: 0 for SAFE_A, 1 for SAFE_B. -/
def unitOf (u : Fin 2) : Bool := u.val == 1

/-- No gate of unit `u` is on, and its status says that every leg is held off (Table 11-4). -/
def gatesOff (n : State) (u : Nat) : Prop :=
  ∀ x, x < 4 → (n.leg u x).hs.on = false ∧ (n.leg u x).ls.on = false ∧ n.rd Reg.DRV_LEG_STATUS.GATES_OFF u x = 1

/-- Whether a DESAT or instant-trip input of leg `x` is active among the levels `w` (Machine/Drive.lean says the coding). -/
def legInputs (w x : Nat) : Bool := hasBit w (4 * x) || hasBit w (4 * x + 1) || hasBit w (4 * x + 2)

/-- What a trip of leg `x` with a cause does beside its own fault bit (R255, R257), from the state `a` at its instant to `n`: the leg's gates
off, the trip kept on the 50 ns grid, and the latch that the trips before it give. The logic side learns it while the link is up, with the
trip inputs at the levels `inp`: the trip counted, timed and recorded, a unit in MOTOR mode in CATCH, or in FAULT where it latches, and the
fault events. While the link is down the report waits. -/
def tripped (a n : State) (u x cause inp : Nat) : Prop :=
  let g := a.time.ns / 50 * 50
  let k := latchRule (a.drv u).trips g x
  let motor := (a.drv u).act.mode = mdMotor
  (n.leg u x).hs.on = false ∧ (n.leg u x).ls.on = false ∧ (n.drv u).trips = ((g, x) :: (a.drv u).trips).take 4 ∧
    (n.drv u).latched = (if (a.drv u).latched = 0 then k else (a.drv u).latched) ∧
    (a.on Reg.DRV_STATUS.LINK u = true →
      n.rd Reg.DRV_TRIP.COUNT u = min 65535 (a.rd Reg.DRV_TRIP.COUNT u + 1) ∧ n.rd Reg.DRV_EVENT.TRIP u = 1 ∧
      n.rd Reg.DRV_TRIP.LAST_LEG u = x ∧ n.rd Reg.DRV_TRIP.LAST_CAUSE u = cause ∧
      n.rd64 Reg.DRV_TRIP_NS_LO.NS Reg.DRV_TRIP_NS_HI.NS u = a.count % 2 ^ 64 ∧
      (∀ y, y < 4 → n.rd Reg.DRV_LEG_STATUS.INPUT_ACTIVE u y = b01 (legInputs inp y)) ∧
      (¬ motor ∨ (n.drv u).latched ≠ 0 → n.rd Reg.DRV_LEG_STATUS.GATES_OFF u x = 1 ∧ hasBit (n.rd Reg.DRV_STATUS.LEG_FAULT u) x = true) ∧
      (k ≠ 0 → (a.drv u).latched = 0 → a.rd Reg.DRV_STATUS.LATCHED u = 0 → n.rd Reg.DRV_STATUS.LATCHED u = 1 ∧
        n.rd Reg.DRV_STATUS.LATCH_CAUSE u = k ∧ gatesOff n u ∧ (motor → n.mstate u = msFault)) ∧
      (k = 0 → n.rd Reg.DRV_STATUS.LATCHED u = a.rd Reg.DRV_STATUS.LATCHED u ∧
        (motor → x < 3 → a.mstate u = msStart ∨ a.mstate u = msRun ∨ a.mstate u = msRegen ∨ a.mstate u = msShort → n.mstate u = msCatch) ∧
        (¬ motor ∨ x < 3 → a.mayRaise = true → raises a n 33 (4 * u + x)))) ∧
    (a.on Reg.DRV_STATUS.LINK u = false → (n.drv u).unreported = (a.drv u).unreported ++ [(x, cause)] ∧
      n.rd Reg.DRV_TRIP.COUNT u = a.rd Reg.DRV_TRIP.COUNT u ∧ n.rd Reg.DRV_STATUS.LATCHED u = a.rd Reg.DRV_STATUS.LATCHED u ∧
      n.mstate u = a.mstate u)

/-- Whether the latest results of the four ΔΣ channels of unit `u` are all valid (R268). -/
def State.dsValid (s : State) (u : Nat) : Bool := (s.dsNow u 0).2 && (s.dsNow u 1).2 && (s.dsNow u 2).2 && (s.dsNow u 3).2

/-- Every output of unit `u` is commanded off and off (Table 12-2, the states with all gates off). -/
def switchedOff (n : State) (u : Nat) : Prop :=
  ∀ x, x < 4 → (n.leg u x).hsCmd = false ∧ (n.leg u x).lsCmd = false ∧ (n.leg u x).hs.on = false ∧ (n.leg u x).ls.on = false

/-- Unit `u` is in SHORT: the three low sides of the phase legs are commanded on, and every other output off (Table 12-2). -/
def shorted (n : State) (u : Nat) : Prop :=
  n.mstate u = msShort ∧
    ∀ x, x < 4 → (n.leg u x).hsCmd = false ∧ (n.leg u x).lsCmd = decide (x < 3) ∧ (n.leg u x).hs.on = false

end Sys2Proof.Machine
end

