-- ==== Sys2Proof/Certificates/Slice0/Obligations.lean ====
section
/-! DEFINITION. The statements for the provers, by the rules of the spec that they state. -/

open Sys2Proof Sys2Proof.Machine

/-- A step runs the command at the front of the queue on the state with the queue's rest. On an empty queue the device idles: the time
base runs for one SD cycle of 4 ns (R306), where the SD clock runs, and nothing else moves; that an idle step is one cycle is the model's
choice (assumption 3). -/
def Obligations.StepRunsTheFrontCommand : Prop :=
  (∀ (c : Instr) (s : State), step { s with pending := c :: s.pending } = exec c s) ∧
  (∀ s : State, s.pending = [] → ∃ n, step s = .next n ∧ n.time.ns = s.time.ns + 4 ∧ Effect [.time, .fr] (some movesTime) s n ∧
    (s.sdRuns = true → n.fr = s.fr))

/-- The state after reset: every register field reads its reset value, the stores and the shedding steps are in order, no command waits,
nothing has been sent, and the DEV reset is held with the supply still to come up. The values that the spec does not give are the model's
choices (assumptions 5 to 7). -/
def Obligations.ResetLeavesTheResetValues : Prop :=
  (∀ f i j, State.reset.rd f i j = f.reset i) ∧ State.reset.storesWf = true ∧ State.reset.shedInv ∧ State.reset.pending = [] ∧
    State.reset.out = [] ∧ State.reset.device = stOff ∧ State.reset.power.held = true ∧ State.reset.power.supplied = false ∧
    State.reset.ticking = false ∧ State.reset.referee.ball = false ∧ State.reset.mayRaise = false

/-- Every step keeps the stores of the state in their canonical form, from every state. -/
def Obligations.EveryStepKeepsTheStores : Prop :=
  ∀ s n : State, s.storesWf = true → step s = .next n → n.storesWf = true

/-- Every step keeps the shedding steps in order (R64, R374): both at most 6, the thermal step as the planner shows it, and the step in
force the higher of the two. -/
def Obligations.EveryStepKeepsTheSheddingSteps : Prop :=
  ∀ s n : State, s.shedInv → step s = .next n → n.shedInv

/-- No command stops the machine, and none of them undoes what is final: it goes on with the same commands waiting, on the same silicon
(R4), no fuse falls (R79), what has left the device stays so, no instant goes back, and while the keep domain lives the nanosecond count
does not fall (R306, R308). -/
def Obligations.EveryCommandGoesOn : Prop :=
  ∀ (c : Instr) (s : State), ∃ n, exec c s = .next n ∧ n.pending = s.pending ∧ n.silicon = s.silicon ∧ s.fuses.below n.fuses = true ∧
    s.out <+: n.out ∧ s.time.ns ≤ n.time.ns ∧ (s.time.restarted = true → n.time.restarted = true → s.count ≤ n.count)

/-- Interrupts (R344): after every command HOST_IRQ_PENDING shows exactly the sources that are pending, and IRQ_N is low exactly while a
source with PIN = 1 is pending and no DEV reset is held. -/
def Obligations.InterruptsFollowTheirSources : Prop :=
  ∀ (c : Instr) (s n : State), exec c s = .next n →
    (∀ k, k < 20 → hasBit (n.rd Reg.HOST_IRQ_PENDING.SOURCE) k = n.sourcePending k) ∧
    (n.host.irqN = true ↔ n.power.held = false ∧ ∃ k, k < 20 ∧ n.sourcePending k = true ∧ n.rd Reg.HOST_VEC_MAP.PIN k ≠ 0)

/-- A drive-die shutdown (R393): the latch of the drive side ends only in a step whose command is its release, and then VDRVu has been
below its limit for 10 ms; each shutdown raises the contained event DRIVE_OT with its unit; when VDRVu returns, the supply shows good,
every gate is off, and every leg waits for its next input edge (R253), unless the unit leaves FAULT with it. -/
def Obligations.DriveDieShutdownStaysLatched : Prop :=
  (∀ (s n : State) (u : Fin 4), step s = .next n → (s.drv u.val).otLatch = true → (n.drv u.val).otLatch = false →
    ∃ t rest, s.pending = .driveOtRelease u t :: rest ∧ 0 < Tbl.look 0 s.power.sinceVdrvLow u.val ∧
      (Tbl.look 0 s.power.sinceVdrvLow u.val - 1) + 10000000 ≤ (s.elapse t).time.ns) ∧
  (∀ (s : State) (u : Fin 4) (t : Nat), s.hasUnit u.val = true → (s.drv u.val).otLatch = false → s.mayRaise = true →
    ∃ n, exec (.driveOtShutdown u t) s = .next n ∧ (n.drv u.val).otLatch = true ∧ raises (s.elapse t) n 43 u.val ∧ faultClass 43 = 1) ∧
  (∀ (s : State) (u : Fin 4) (t : Nat), s.hasUnit u.val = true →
    ∃ n, exec (.vdrvRecover u t) s = .next n ∧ (n.drv u.val).vdrv = true ∧ (n.drv u.val).otLatch = (s.drv u.val).otLatch ∧
      (((s.drv u.val).act.mode = mdMotor → s.mstate u.val ≠ msFault) →
        (∀ x, x < 4 → (n.leg u.val x).waitEdge = true) ∧ gatesOff n u.val) ∧
      (∀ x, x < 4 → (n.leg u.val x).hs.on = false ∧ (n.leg u.val x).ls.on = false) ∧ Tbl.look 0 n.power.sinceVdrvLow u.val = 0 ∧
      (s.power.held = false → n.rd Reg.DRV_STATUS.VDRV_OK u.val = 1 ∧
        ∀ x, x < 4 → n.rd Reg.DRV_LEG_STATUS.UVLO u.val x = 0))

/-- Host writes of BAR0 (R2, R11 to R15, R30): an aligned 32-bit write of a reachable register without behaviour of its own puts its bits
into the RW and RWK fields, takes the bits written as 1 out of the W1C fields and leaves every other field of the word alone. A write of
another size, unaligned, beyond BAR0, in an absent block, at an address no register occupies, or while the common section is held in reset
changes nothing, and a refused read returns zero and copies nothing. -/
def Obligations.HostWritesChangeWritableBitsAlone : Prop :=
  (∀ (s : State) (a v t i j : Nat) (f : Field) (r : List Field), regAt a = some (f :: r, i, j) → (s.elapse t).reachable a = true →
    (s.elapse t).actingWrite f.addr i (v % 4294967296) = none → f.addr ≠ Reg.HOST_IRQ_PENDING.SOURCE.addr →
    ∃ n, exec (.registerWrite a 4 v t) s = .next n ∧
      (∀ g ∈ f :: r, (g.acc = .rw ∨ g.acc = .rwk) → g.dom ≠ .fixed → n.rd g i j = bitsOf (v % 4294967296) g.lo g.width) ∧
      (∀ g ∈ f :: r, g.acc = .w1c → g.dom ≠ .fixed → n.rd g i j =
        ((s.elapse t).rd g i j - ((s.elapse t).rd g i j &&& bitsOf (v % 4294967296) g.lo g.width)) % 2 ^ g.width) ∧
      (∀ g ∈ f :: r, (g.acc = .ro ∨ g.acc = .wo ∨ g.acc = .w1s) → n.rd g i j = (s.elapse t).rd g i j)) ∧
  (∀ (s : State) (a z v t : Nat),
    (z ≠ 4 ∨ a % 4 ≠ 0 ∨ 16777216 ≤ a ∨ s.power.held = true ∨ s.present a = false ∨ (regAt a = none ∧ (a < 0x800 ∨ 0xBFF < a))) →
    ∃ n, exec (.registerWrite a z v t) s = .next n ∧ Effect [.time, .host, .fr, .out] (some (movesTime ++ movesIrq)) s n ∧
      n.host.msix = s.host.msix) ∧
  (∀ (s : State) (a z : Nat), (z ≠ 4 ∨ a % 4 ≠ 0 ∨ 16777216 ≤ a ∨ s.power.held = true ∨ s.present a = false) → s.hostRead a z = (0, s)) ∧
  (∀ (s : State) (r : RegRead) (t : Nat), r.size ≠ 4 →
    ∃ n, exec (.split64LowRead r t) s = .next n ∧ n.hold = s.hold ∧ Effect [.time, .host, .fr, .out] (some (movesTime ++ movesIrq)) s n)

/-- A host write to an action bit is the command of that bit (R13, Table 00-6): the write of each of these registers, where the register
is reachable, is the command run at the same instant. -/
def Obligations.ActionBitsRunTheirCommands : Prop :=
  ∀ (s : State) (t : Nat), s.power.held = false →
    exec (.registerWrite 0x18 4 0x80000000 t) s = exec .xbarWaitClear (s.elapse t) ∧
    exec (.registerWrite 0x705C 4 1 t) s = exec .frameClearOverrun (s.elapse t) ∧
    exec (.registerWrite 0x705C 4 2 t) s = exec .frameClearStale (s.elapse t) ∧
    exec (.registerWrite 0x705C 4 4 t) s = exec .frameClearTracker (s.elapse t) ∧
    exec (.registerWrite 0x705C 4 8 t) s = exec .frameClearGaps (s.elapse t) ∧
    exec (.registerWrite 0x2038 4 1 t) s = exec .powerClearVinMin (s.elapse t) ∧
    exec (.registerWrite 0x402C 4 (2 ^ Reg.FAULT_FIRST_FATAL.VALID.lo) t) s = exec .firstFatalClear (s.elapse t) ∧
    exec (.registerWrite 0x1004 4 1 t) s = exec (.clockGo t) s ∧
    (∀ w, w < 2 ^ 32 → exec (.registerWrite 0x612C 4 w t) s = exec (.jrnCplHeadWrite (w % 4096)) (s.elapse t)) ∧
    (∀ w, w < 2 ^ 32 → exec (.registerWrite 0x8058 4 w t) s = exec (.safeResetArm w t) s) ∧
    (∀ w, w < 2 ^ 32 → exec (.registerWrite 0x10030 4 w t) s = exec (.substRequest w t) s) ∧
    (∀ w, w < 2 ^ 32 → exec (.registerWrite 0x83F00 4 (w % 16) t) s = exec (.drvLoadall (w % 16) t) s)

/-- The host port (R12, R13, R340, R341, R343, R344, R362): the low word of a self-changing 64-bit quantity, read first, copies the high
word into its holding register, which the next read of the high word returns once; reading FRAME of a history entry copies its other
words; a write of an event register clears the bits written as 1. In RUN a read of BAR2 gives the two frame-image buffers, zeros, and the
DRAM window from HOST_DRAM_WIN.BASE on, which reads zero beyond 8 GB and does not answer without DRAM; a read may span areas. In KICK-OFF
a write of BAR2 puts its bytes into the staging area, in any other state it is ignored; a link that changes shows its state with the MSI-X
enable and mask of its configuration space, and changes no register. -/
def Obligations.SplitReadsStagingAndLinkChanges : Prop :=
  (∀ (s : State) (a t : Nat), (s.elapse t).reachable a = true → isSplitLow a = true →
    ∃ n, exec (.split64LowRead ⟨a, 4⟩ t) s = .next n ∧ Tbl.look 0 n.hold (a + 4) = (s.elapse t).wordNow (a + 4) + 1 ∧
      (∀ b, b ≠ a + 4 → Tbl.look 0 n.hold b = Tbl.look 0 s.hold b) ∧
      Effect [.hold, .time, .host, .fr, .out] (some (movesTime ++ movesIrq)) s n) ∧
  (∀ (s : State) (a w : Nat), s.reachable a = true → Tbl.look 0 s.hold a = w + 1 → (s.hostRead a 4).1 = w ∧
    Tbl.look 0 (s.hostRead a 4).2.hold a = 0) ∧
  (∀ (s : State) (a v i j : Nat) (f : Field) (r : List Field), regAt a = some (f :: r, i, j) → eventSource f.addr i ≠ none →
    s.reachable a = true →
    ∃ n, exec (.eventRegisterWrite a v) s = .next n ∧ n.time = s.time ∧
      (∀ g ∈ f :: r, g.acc = .w1c → g.dom ≠ .fixed →
        n.rd g i j = (s.rd g i j - (s.rd g i j &&& bitsOf (v % 4294967296) g.lo g.width)) % 2 ^ g.width)) ∧
  (∀ (s : State) (k : Fin 16), ∃ n, exec (.faultHistRead k) s = .next n ∧
    Tbl.look 0 n.hold (0x4100 + 16 * k.val + 4) = s.rd Reg.FAULT_HIST_NS_LO.VALUE k.val + 1 ∧
    Tbl.look 0 n.hold (0x4100 + 16 * k.val + 8) = s.rd Reg.FAULT_HIST_NS_HI.VALUE k.val + 1 ∧
    Tbl.look 0 n.hold (0x4100 + 16 * k.val + 12) = s.rd Reg.FAULT_HIST_INFO.VALUE k.val + 1 ∧
    Effect [.hold, .host, .out] (some movesIrq) s n) ∧
  (∀ (s : State) (a v : Nat), eventSourceAt a = none →
    ∃ n, exec (.eventRegisterWrite a v) s = .next n ∧ Effect [.host, .out] (some movesIrq) s n) ∧
  (∀ (s : State) (o n : Nat), s.power.held = false → s.device = stRun → s.load.dram = true → o + n ≤ 268435456 →
    ∃ l, s.bar2Read o n = some l ∧ l.length = n ∧ ∀ i, i < n →
      (o + i < 0x100000 → l.getD i 0 = s.bufferByte ((o + i) / 0x80000) ((o + i) % 0x80000)) ∧
      (0x100000 ≤ o + i → o + i < 0x1000000 → l.getD i 0 = 0) ∧
      (0x1000000 ≤ o + i → l.getD i 0 = s.dramByte (s.rd Reg.HOST_DRAM_WIN.BASE * 1048576 + (o + i - 0x1000000)))) ∧
  (∀ (s : State) (a : Nat), 8589934592 ≤ a → s.dramByte a = 0) ∧
  (∀ (s : State) (o n : Nat), s.power.held = false → s.device = stRun → s.load.dram = false → o < 0x10000000 → 0 < n →
    0x1000000 < o + n →
    s.bar2Read o n = none) ∧
  (∀ (s : State) (o t : Nat) (b : List Byte), s.power.held = false → s.device = stKickOff → s.load.dram = true →
    o + b.length ≤ maxImage →
    ∃ n, exec (.bar2Write o b t) s = .next n ∧ (∀ k, k < b.length → Tbl.look 0 n.load.staging (o + k) = b.getD k 0) ∧
      (∀ k, (k < o ∨ o + b.length ≤ k) → Tbl.look 0 n.load.staging k = Tbl.look 0 s.load.staging k) ∧
      Effect [.time, .host, .load, .fr, .out] (some (movesTime ++ movesIrq)) s n) ∧
  (∀ (s : State) (o t : Nat) (b : List Byte), s.device ≠ stKickOff →
    ∃ n, exec (.bar2Write o b t) s = .next n ∧ n.load = s.load) ∧
  (∀ (s : State) (up en mask : Bool) (t : Nat), s.power.held = false →
    ∃ n, exec (.pcieLinkChange up en mask t) s = .next n ∧ n.host.linkUp = up ∧ n.host.msixEnable = en ∧ n.host.funcMask = mask ∧
      Effect [.time, .host, .fr, .out] (some (movesTime ++ movesIrq)) s n)

/-- Backbone ports and partners (R349 to R353): a port in use that sees 64 aligned comma columns with at most 8 ns of skew is UP and
leaves electrical idle; one that loses them is DOWN; one that has had nothing to send for IDLE_US enters electrical idle, never the pair-
link port; a packet that fails its CRC or has an unknown type is counted. A port that is UP sends its HELLO; the second HELLO of a partner
within 3 ms makes its entry KNOWN, one of another identity REFUSED and FOREIGN, one of an unnamed node only counts FOREIGN, and a KNOWN
entry silent for 4 ms is LOST. -/
def Obligations.BackbonePortsAndPartnersComeAndGo : Prop :=
  (∀ (s : State) (p : Fin 4) (k t : Nat), s.portOn p.val = true → k ≤ 8 →
    ∃ n, exec (.bbPortUp p k t) s = .next n ∧ n.rd Reg.BB_STATUS.UP p.val = 1 ∧ n.rd Reg.BB_STATUS.CLOCK p.val = 1 ∧
      n.rd Reg.BB_STATUS.TX_IDLE p.val = 0 ∧ n.rd Reg.BB_STATUS.RX_IDLE p.val = 0 ∧ (s.rd Reg.BB_STATUS.SKEW p.val ≤ 8 → n.rd Reg.BB_STATUS.SKEW p.val = max k (s.rd Reg.BB_STATUS.SKEW p.val)) ∧
      (s.portUp p.val = false → hasBit (n.rd Reg.BB_EVENT.EVENTS p.val) 0 = true) ∧
      Effect [.time, .host, .fr, .pair, .out] (some (movesTime ++ movesIrq ++ [Reg.BB_EVENT.EVENTS, Reg.BB_STATUS.CLOCK,
        Reg.BB_STATUS.RX_IDLE, Reg.BB_STATUS.SKEW, Reg.BB_STATUS.TX_IDLE, Reg.BB_STATUS.UP])) s n) ∧
  (∀ (s : State) (p : Fin 4) (k t : Nat), (s.portOn p.val = false ∨ 8 < k) →
    ∃ n, exec (.bbPortUp p k t) s = .next n ∧ Effect [.time, .host, .fr, .out] (some (movesTime ++ movesIrq)) s n) ∧
  (∀ (s : State) (p : Fin 4) (ck : Bool) (t : Nat),
    ∃ n, exec (.bbPortDown p ck t) s = .next n ∧ n.rd Reg.BB_STATUS.UP p.val = 0 ∧
      (s.portUp p.val = true → hasBit (n.rd Reg.BB_EVENT.EVENTS p.val) 0 = true) ∧
      (s.portUp p.val = false → n.rd Reg.BB_EVENT.EVENTS p.val = s.rd Reg.BB_EVENT.EVENTS p.val) ∧
      Effect [.time, .host, .fr, .out] (some (movesTime ++ movesIrq ++ [Reg.BB_EVENT.EVENTS, Reg.BB_STATUS.CLOCK, Reg.BB_STATUS.UP])) s n) ∧
  (∀ (s : State) (p : Fin 4) (t : Nat), s.portUp p.val = true → s.rd Reg.BB_CTRL.IDLE_US p.val ≠ 0 →
    s.on Reg.BB_CTRL.PAIR p.val = false →
    Tbl.look 0 s.host.idleSince p.val + 1000 * s.rd Reg.BB_CTRL.IDLE_US p.val ≤ (s.elapse t).time.ns + 1 →
    ∃ n, exec (.bbIdleEntry p t) s = .next n ∧ n.rd Reg.BB_STATUS.TX_IDLE p.val = 1 ∧ n.rd Reg.BB_STATUS.UP p.val = s.rd Reg.BB_STATUS.UP p.val ∧
      Effect [.time, .host, .fr, .out] (some (movesTime ++ movesIrq ++ [Reg.BB_STATUS.TX_IDLE])) s n) ∧
  (∀ (s : State) (p : Fin 4) (t : Nat), (s.on Reg.BB_CTRL.PAIR p.val = true ∨ s.rd Reg.BB_CTRL.IDLE_US p.val = 0) →
    ∃ n, exec (.bbIdleEntry p t) s = .next n ∧ n.rd Reg.BB_STATUS.TX_IDLE p.val = s.rd Reg.BB_STATUS.TX_IDLE p.val) ∧
  (∀ (s : State) (p : Fin 4) (crc : Bool), s.portUp p.val = true →
    ∃ n, exec (.bbPacketDiscard p crc) s = .next n ∧
      n.rd Reg.BB_COUNT.CRC p.val = (if crc then min 255 (s.rd Reg.BB_COUNT.CRC p.val + 1) else s.rd Reg.BB_COUNT.CRC p.val) ∧
      n.rd Reg.BB_COUNT.TYPE p.val = (if crc then s.rd Reg.BB_COUNT.TYPE p.val else min 255 (s.rd Reg.BB_COUNT.TYPE p.val + 1)) ∧
      Effect [.host, .out] (some (movesIrq ++ [Reg.BB_COUNT.CRC, Reg.BB_COUNT.TYPE])) s n) ∧
  (∀ (s : State) (p : Fin 4) (t : Nat), s.portUp p.val = true →
    ∃ n, exec (.helloSend p t) s = .next n ∧ s.out ++ [.packet p.val 0x01 0xFF (s.helloBytes p.val)] <+: n.out ∧
      n.rd Reg.BB_STATUS.TX_IDLE p.val = 0 ∧ (s.helloBytes p.val).length = 32 ∧
      Effect [.time, .host, .fr, .out] (some (movesTime ++ movesIrq ++ [Reg.BB_STATUS.TX_IDLE])) s n) ∧
  (∀ (s : State) (p : Fin 4) (src t h : Nat) (b : List Byte) (c : PartnerCfg), s.portUp p.val = true → s.partnerNamed src = some c →
    (c.identity = 0 ∨ c.identity = u64At b 0) → 1 ≤ c.source → c.source ≤ 15 → (s.partner c.source).helloAt = some h →
    (s.elapse t).time.ns ≤ h + 3000000 →
    ∃ n, exec (.hello p src b t) s = .next n ∧ n.known c.source = true ∧ (n.partner c.source).imageId = some (u64At b 8) ∧
      (n.partner c.source).helloAt = some (s.elapse t).time.ns ∧ n.rd Reg.BB_COUNT.FOREIGN p.val = s.rd Reg.BB_COUNT.FOREIGN p.val ∧
      Effect [.time, .host, .fr, .out] (some (movesTime ++ movesIrq ++ [Reg.BB_COUNT.FOREIGN, Reg.BB_EVENT.EVENTS, Reg.BB_PARTNER.PORTS,
        Reg.BB_PARTNER.STATE, Reg.BB_STATUS.RX_IDLE])) s n) ∧
  (∀ (s : State) (p : Fin 4) (src t : Nat) (b : List Byte) (c : PartnerCfg), s.portUp p.val = true → s.partnerNamed src = some c →
    c.identity ≠ 0 → c.identity ≠ u64At b 0 → 1 ≤ c.source → c.source ≤ 15 →
    ∃ n, exec (.hello p src b t) s = .next n ∧ n.partnerState c.source = 3 ∧
      n.rd Reg.BB_COUNT.FOREIGN p.val = min 255 (s.rd Reg.BB_COUNT.FOREIGN p.val + 1) ∧
      hasBit (n.rd Reg.BB_EVENT.EVENTS p.val) 3 = true) ∧
  (∀ (s : State) (p : Fin 4) (src t : Nat) (b : List Byte), s.portUp p.val = true → s.partnerNamed src = none →
    ∃ n, exec (.hello p src b t) s = .next n ∧
      n.rd Reg.BB_COUNT.FOREIGN p.val = min 255 (s.rd Reg.BB_COUNT.FOREIGN p.val + 1) ∧
      (∀ k, n.rd Reg.BB_PARTNER.STATE k = s.rd Reg.BB_PARTNER.STATE k) ∧ n.host.partners = s.host.partners) ∧
  (∀ (s : State) (k : Fin 16) (t h : Nat), k.val ≠ 0 → s.known k.val = true → (s.partner k.val).helloAt = some h →
    h + 4000000 ≤ (s.elapse t).time.ns →
    ∃ n, exec (.bbPartnerLost k t) s = .next n ∧ n.partnerState k.val = 1 ∧ n.rd Reg.BB_PARTNER.PORTS (k.val - 1) = 0 ∧
      Effect [.time, .host, .fr, .out] (some (movesTime ++ movesIrq ++ [Reg.BB_EVENT.EVENTS, Reg.BB_PARTNER.PORTS,
        Reg.BB_PARTNER.STATE])) s n)

/-- Requests over the backbone (R354, R355, R356): a journal command of a KNOWN partner with the right is judged as that source's; a host
access with the right reads and writes BAR0 word by word, as the host port does, and is answered on the port it came by; without the right
a request is counted in DENIED, changes nothing more and reads zeros. An image packet with its right puts its bytes into the staging area.
-/
def Obligations.BackboneRequestsNeedTheirRights : Prop :=
  (∀ (s : State) (p : Fin 4) (src t : Nat) (b : List Byte) (c : PartnerCfg), s.portUp p.val = true → s.partnerNamed src = some c →
    hasBit c.rights 0 = true → s.known c.source = true →
    ∃ n, exec (.jrnCmd p src b t) s = .next n ∧ n = ((s.elapse t).judge c.source b p.val).settle ∧
      Effect [.time, .host, .fr, .pair, .journal, .out] (some (movesTime ++ movesIrq ++ [Reg.BB_COUNT.DENIED, Reg.BB_STATUS.TX_IDLE,
        Reg.JRN_BUSY.BUSY, Reg.JRN_BUSY.OTHER, Reg.JRN_CPL_TAIL.INDEX, Reg.JRN_EVENT.FULL, Reg.JRN_REFUSE.GAP, Reg.JRN_REFUSE.REPEATED,
        Reg.JRN_RING_STATUS.PHASE])) s n) ∧
  (∀ (s : State) (p : Fin 4) (src t : Nat) (b : List Byte) (c : PartnerCfg), s.portUp p.val = true → s.partnerNamed src = some c →
    hasBit c.rights 0 = false →
    ∃ n, exec (.jrnCmd p src b t) s = .next n ∧ n.journal = s.journal ∧
      n.rd Reg.BB_COUNT.DENIED p.val = min 255 (s.rd Reg.BB_COUNT.DENIED p.val + 1)) ∧
  (∀ (s : State) (p : Fin 4) (src a w t : Nat) (c : PartnerCfg), s.portUp p.val = true → s.partnerNamed src = some c →
    hasBit c.rights 1 = true → s.partnerState c.source ≠ 3 → a < 2 ^ 32 → w < 2 ^ 32 →
    exec (.hostWr p src (leBytes 4 a ++ leBytes 4 1 ++ leBytes 4 w) t) s = exec (.registerWrite a 4 w t) s) ∧
  (∀ (s : State) (p : Fin 4) (src t : Nat) (b : List Byte) (c : PartnerCfg), s.portUp p.val = true → s.partnerNamed src = some c →
    hasBit c.rights 1 = true → s.partnerState c.source ≠ 3 → 1 ≤ u32At b 4 → u32At b 4 ≤ 32 →
    ∃ n, exec (.hostWr p src b t) s = .next n ∧ n = ((s.elapse t).writeWords (u32At b 0) (b.drop 8) (u32At b 4)).settle ∧
      n.rd Reg.BB_COUNT.DENIED p.val = ((s.elapse t).writeWords (u32At b 0) (b.drop 8) (u32At b 4)).rd Reg.BB_COUNT.DENIED p.val) ∧
  (∀ (s : State) (p : Fin 4) (src t : Nat) (b : List Byte) (c : PartnerCfg), s.portUp p.val = true → s.partnerNamed src = some c →
    hasBit c.rights 1 = false → s.partnerState c.source ≠ 3 → 1 ≤ u32At b 4 → u32At b 4 ≤ 32 →
    ∃ n, exec (.hostWr p src b t) s = .next n ∧
      n.rd Reg.BB_COUNT.DENIED p.val = min 255 (s.rd Reg.BB_COUNT.DENIED p.val + 1) ∧
      Effect [.time, .host, .fr, .out] (some (movesTime ++ movesIrq ++ [Reg.BB_COUNT.DENIED])) s n) ∧
  (∀ (s : State) (p : Fin 4) (src t : Nat) (b : List Byte) (c : PartnerCfg), s.portUp p.val = true → s.partnerNamed src = some c →
    s.partnerState c.source ≠ 3 → 1 ≤ u32At b 4 → u32At b 4 ≤ 32 →
    ∃ n, exec (.hostRd p src b t) s = .next n ∧
      s.out ++ [.packet p.val 0x21 c.node (b.take 8 ++
        (if hasBit c.rights 1 then ((s.elapse t).readWords (u32At b 0) (u32At b 4)).1 else leBytes (4 * u32At b 4) 0))] <+: n.out ∧
      n.rd Reg.BB_COUNT.DENIED p.val = (if hasBit c.rights 1 then s.rd Reg.BB_COUNT.DENIED p.val
        else min 255 (s.rd Reg.BB_COUNT.DENIED p.val + 1)) ∧
      Effect [.hold, .time, .host, .fr, .eths, .cans, .out] (some (movesTime ++ movesIrq ++ [Reg.ADC_ENTRY_VALUE.VALUE,
        Reg.BB_COUNT.DENIED, Reg.BB_STATUS.TX_IDLE, Reg.CAN_TXE0.RECORD, Reg.CAN_TXE1.RECORD, Reg.CAN_TXE2.RECORD,
        Reg.CAN_TXE_STATUS.COUNT, Reg.ETH_TXTS.ENTRY, Reg.ETH_TXTS_STATUS.COUNT, Reg.TIME_PTP_FRAC.VALUE, Reg.TIME_PTP_NS.VALUE,
        Reg.TIME_PTP_SEC_HI.VALUE, Reg.TIME_PTP_SEC_LO.VALUE])) s n) ∧
  (∀ (s : State) (p : Fin 4) (src t : Nat) (b : List Byte), s.portUp p.val = true → s.device = stKickOff →
    2 ≤ s.rd Reg.IMAGE_BOOT.BOOT_SRC → s.load.dram = true → s.cfg.loaded = false → s.host.delivery = none → s.awaitsImage = false →
    1 ≤ u32At b 0 → u32At b 0 ≤ maxImage → u32At b 4 + ((b.drop 8).take 1016).length ≤ u32At b 0 →
    ∃ n, exec (.imagePacket p src b t) s = .next n ∧ n.host.delivery = some (src, u32At b 0) ∧
      (∀ k, k < ((b.drop 8).take 1016).length → Tbl.look 0 n.load.staging (u32At b 4 + k) = ((b.drop 8).take 1016).getD k 0) ∧
      Effect [.time, .power, .host, .load, .fr, .out] (some (movesTime ++ movesIrq ++ [Reg.BB_COUNT.DENIED, Reg.FRAME_STATUS.RUNNING,
        Reg.IMAGE_ERR_OFFSET.OFFSET, Reg.IMAGE_ERR_SECTION.INDEX, Reg.IMAGE_ERR_SECTION.TYPE, Reg.IMAGE_EVENT.DONE,
        Reg.IMAGE_PRIMARY_CODE.CODE, Reg.IMAGE_STATUS.CODE, Reg.IMAGE_STATUS.SOURCE, Reg.IMAGE_STATUS.STATE])) s n) ∧
  (∀ (s : State) (p : Fin 4) (src other total t : Nat) (b : List Byte), s.host.delivery = some (other, total) → other ≠ src →
    s.imageRight src = true →
    ∃ n, exec (.imagePacket p src b t) s = .next n ∧ n.load = s.load ∧ n.host.delivery = s.host.delivery)

/-- The tick, T_SAMPLE and T_FREEZE (R33, R38 to R40, R46, R50 to R52, R59, R200, R240, R376): at the instant the frame timer has for it,
FRAME_NO goes on by one, or begins with 0 after a stop; the tick's instant is shown; a pending period and level are in force; every
declared cell's entry is open; COAST says that no plane holds the ball. At T_SAMPLE the latest ΔΣ outputs are in the frame image. At the
freeze the image of this frame is frozen in its buffer; a completed entry is FRESH with the voltage of its slot and stale_run 0; one still
open is STALE with v_used + step within 0 to FFFFh, and its stale_run goes up to 3 unless the cell is MOVING. The freeze after the BLOCK
slots of step 6 ends in KEEP-ONLY. -/
def Obligations.TicksOpenEntriesAndFreezesPredict : Prop :=
  (∀ (s : State) (t : Nat) (l : TickIn), s.timerRuns = true → (s.elapse t).time.ns = (s.elapse t).fr.nextTick →
    ∃ n, exec (.frameTick t l) s = .next n ∧
      n.frameNo = (if s.fr.phase = .stopped then 0 else (s.frameNo + 1) % 4294967296) ∧
      n.rd64 Reg.FRAME_TICK_NS_LO.TICK_NS Reg.FRAME_TICK_NS_HI.TICK_NS = (s.elapse t).count % 2 ^ 64 ∧
      n.fr.phase = .open ∧ n.fr.ovPrev = (s.fr.ovCompute || s.fr.ovRank) ∧ n.fr.ovCompute = false ∧ n.fr.ovRank = false ∧ n.fr.dup = 0 ∧
      n.fr.ticks = (if s.cfg.loaded then s.fr.ticks + 1 else 0) ∧
      n.period = (match s.fr.nextPeriod with | some p => p % 65536 | none => s.period) ∧
      (∀ p, s.fr.nextPeriod = some p → n.rd Reg.FRAME_EVENT.PERIOD = 1) ∧
      n.rd Reg.PLAN_LEVEL.CURRENT = (match s.fr.nextLevel with | some k => k % 4 | none => s.rd Reg.PLAN_LEVEL.CURRENT) ∧
      (∀ k ∈ s.cellList, (n.cell k).done = false ∧ (n.cell k).crcBad = false) ∧
      n.rd Reg.FRAME_STATUS.COAST = b01 (!n.referee.ball) ∧
      Effect [.time, .power, .faults, .host, .load, .fr, .lanes, .chains, .cells, .arms, .engs, .convs, .referee, .pair, .journal, .adc,
        .drives, .motors, .safety, .canQueues, .cans, .out, .drawn] (some (movesTime ++ movesIrq ++ movesFault ++
        [Reg.ADC_SEQ_BURST.LENGTH, Reg.ADC_SEQ_BURST.START, Reg.ARM_ALPHA1.ALPHA, Reg.ARM_ALPHA2.ALPHA, Reg.ARM_PTR.PTR,
        Reg.ARM_STATUS.FLAGS, Reg.BB_STATUS.TX_IDLE, Reg.CAN_MATRIX.ROW, Reg.CAN_TXQ.FILL, Reg.CELL_FAULT.SEEN, Reg.CELL_PLACE.ARM,
        Reg.CELL_PLACE.CHAIN, Reg.CELL_PLACE.CLASS, Reg.CELL_PLACE.END, Reg.CELL_PLACE.POS, Reg.CELL_PLACE.REACHABLE,
        Reg.CONV_CMD_LAST.OP, Reg.CONV_CMD_LAST.RESULT, Reg.CONV_COUNT.BLOCKS, Reg.CONV_EVENT.BLOCK, Reg.CONV_EVENT.COAST_LIMIT,
        Reg.CONV_EVENT.DEBLOCK, Reg.CONV_EVENT.RESYNC_FAIL, Reg.CONV_EVENT.RUN, Reg.CONV_EVENT_SRC.CONV, Reg.CONV_MF_THETA.THETA_MF,
        Reg.CONV_RESIDUAL.E, Reg.CONV_STATE.CAUSE, Reg.CONV_STATE.SLEWING, Reg.CONV_STATE.STATE, Reg.CONV_STATE_FRAME.FRAME,
        Reg.DOMAIN_STATE.PLANE_A, Reg.DOMAIN_STATE.PLANE_B, Reg.DRV_CARRIER_ACT.TOP, Reg.DRV_EVENT.LOAD_DONE, Reg.DRV_LEG_COUNT.FULL_ON,
        Reg.DRV_LEG_COUNT.SUPPRESSED, Reg.DRV_LEG_STATUS.CMP_ACT, Reg.DRV_LEG_STATUS.DESAT_HS, Reg.DRV_LEG_STATUS.DESAT_LS,
        Reg.DRV_LEG_STATUS.GATES_OFF, Reg.DRV_LEG_STATUS.INSTANT, Reg.DRV_LEG_STATUS.MODE_ACT, Reg.DRV_LEG_STATUS.VB_UV,
        Reg.DRV_LOADALL.UNITS, Reg.DRV_LOAD_STATUS.DONE, Reg.DRV_STATUS.LEG_FAULT, Reg.DRV_STATUS.LOAD_PENDING, Reg.DRV_SYNC.UNITS,
        Reg.ENG_BANK.ACTIVE, Reg.ENG_BANK.SWAPS, Reg.ENG_CMD_FRAME.FRAME, Reg.ENG_CMD_LAST.ENTRY, Reg.ENG_CMD_LAST.OP,
        Reg.ENG_CMD_LAST.RESULT, Reg.ENG_EVENT.CMD_REFUSED, Reg.ENG_EVENT.SWAP, Reg.ENG_EXPORT.VALUE, Reg.ENG_PARAM.VALUE,
        Reg.ENG_STATUS.BALL, Reg.ENG_STATUS.COLD, Reg.ENG_STATUS.SHADOW, Reg.FRAME_EVENT.PERIOD, Reg.FRAME_NO.FRAME_NO,
        Reg.FRAME_PERIOD.PERIOD, Reg.FRAME_STATUS.COAST, Reg.FRAME_STATUS.DISCIPLINED, Reg.FRAME_TICK_NS_HI.TICK_NS,
        Reg.FRAME_TICK_NS_LO.TICK_NS, Reg.HOST_BAR2_OPEN.BUF, Reg.HOST_BAR2_STATUS.BUF, Reg.IMAGE_EVENT.SPARE_LOW, Reg.IMAGE_EVENT.SUBST,
        Reg.IMAGE_SUBST_STATUS.BUSY, Reg.IMAGE_SUBST_STATUS.NEW, Reg.IMAGE_SUBST_STATUS.OLD, Reg.IMAGE_SUBST_STATUS.RESULT,
        Reg.JRN_CPL_TAIL.INDEX, Reg.JRN_EVENT.MRAM_FAIL, Reg.JRN_EXEC.COUNT, Reg.JRN_RING_STATUS.PHASE, Reg.JRN_RING_STATUS.WAIT_CPL,
        Reg.JRN_STATUS.MRAM_OK, Reg.LANE_BUDGET.COMPLETION, Reg.LANE_BUDGET.DELIVERY, Reg.LANE_CHAIN.LOOPED, Reg.LANE_DELAY.VALID,
        Reg.LANE_EVENT.CHAIN_LATE, Reg.LANE_EVENT.LOST, Reg.LANE_EVENT.READY, Reg.LANE_STATUS.CHAIN_LATE, Reg.LANE_STATUS.FIRST_Q,
        Reg.LANE_STATUS.SERVED, Reg.LANE_STATUS.STATE, Reg.LANE_UPBASE.U, Reg.MOT_EVENT.OBS_LOST, Reg.MOT_EVENT.STATE,
        Reg.MOT_STATE.STATE, Reg.PLAN_BG_STATUS.GAPS, Reg.PLAN_BG_STATUS.RAN, Reg.PLAN_CAPACITY.ENG_CAP, Reg.PLAN_CAPACITY.FAB_CAP,
        Reg.PLAN_FORECAST.ENG_NEED, Reg.PLAN_FORECAST.FAB_NEED, Reg.PLAN_LEVEL.CURRENT, Reg.PLAN_LEVEL.STATIC, Reg.POWER_PGOOD.PGOOD,
        Reg.POWER_STATE.STATE, Reg.REF_EVENT.CANCEL, Reg.REF_EVENT.HANDOVER, Reg.REF_EVENT.PAIR_MOVE, Reg.REF_EVENT.TAKEOVER,
        Reg.REF_EVENT.UNFIT, Reg.REF_HT_STATUS.BLOCKER, Reg.REF_HT_STATUS.COUNT, Reg.REF_HT_STATUS.MATCHED, Reg.REF_HT_STATUS.OUTCOME,
        Reg.REF_HT_TIMER.REMAIN, Reg.REF_PAIR.HOLDS, Reg.REF_PAIR.MOVES, Reg.REF_PAIR.REF_OUT, Reg.REF_STATUS.HOLDER,
        Reg.REF_STATUS.LEASE, Reg.REF_STATUS.ROLE_A, Reg.REF_STATUS.ROLE_B, Reg.REF_STATUS.STATE, Reg.REF_TAKEOVER.COUNT,
        Reg.REF_TAKEOVER.GAP, Reg.REF_TAKEOVER.LAST_CAUSE, Reg.REF_TAKEOVER.LATE, Reg.REF_TAKEOVER.US, Reg.REF_TAKEOVER_FRAME.FRAME,
        Reg.ROLE_COUNT.ARM_SLICES, Reg.ROLE_COUNT.LANE_SLICES, Reg.ROLE_COUNT.MIRROR, Reg.ROLE_COUNT.RECORDER, Reg.ROLE_COUNT.SPARE,
        Reg.ROLE_COUNT.UNASSIGNED, Reg.SAFE_EVENT.DEMAND, Reg.SAFE_EVENT.DIAG, Reg.SAFE_EVENT.REMOVED, Reg.SAFE_EVENT.RESET_REFUSED,
        Reg.SAFE_EVENT.STOPPING, Reg.SAFE_FIRE.DRV_A, Reg.SAFE_FIRE.DRV_B, Reg.SAFE_FIRE.FIRE_A, Reg.SAFE_FIRE.FIRE_B,
        Reg.SAFE_GROUP.CAUSE, Reg.SAFE_GROUP.KIND, Reg.SAFE_GROUP.PAIRS, Reg.SAFE_GROUP.STATE, Reg.SAFE_GROUP.STOP, Reg.SAFE_PAIR.CH_A,
        Reg.SAFE_PAIR.CH_B, Reg.SAFE_PAIR.DEMAND, Reg.SAFE_PAIR.DEMANDS, Reg.SAFE_PAIR.FAULT_CAUSE, Reg.SAFE_PAIR.PAIR_FAULT,
        Reg.SAFE_RESET_STATUS.ARMED, Reg.SAFE_RESET_STATUS.REFUSED, Reg.SAFE_RESET_STATUS.RELEASED, Reg.SAFE_STATUS.A_OK,
        Reg.SAFE_STATUS.B_OK, Reg.SAFE_STATUS.DEMAND, Reg.SAFE_STATUS.DIAG, Reg.SAFE_STATUS.DIAG_A, Reg.SAFE_STATUS.DIAG_B,
        Reg.SAFE_STATUS.DIAG_CAUSE, Reg.SAFE_STATUS.LOCKED, Reg.SAFE_STATUS.RESET_PIN, Reg.SAFE_TPO.EN, Reg.SAFE_TPO.READBACK_FAULT,
        Reg.SLICE_ROLE.STATE, Reg.TIME_EVENT.EVENTS, Reg.TIME_FRAME_PHASE.E, Reg.TRK_BP_COUNT.FRAMES, Reg.TRK_STATUS.CTRL_HIWATER,
        Reg.TRK_STATUS.CTRL_INUSE, Reg.XBAR_WAIT.ENG_MAX_WAIT, Reg.XBAR_WAIT.HOST_MAX_WAIT])) s n) ∧
  (∀ (s : State) (t : Nat) (l : TickIn), (s.timerRuns = false ∨ (s.elapse t).time.ns ≠ (s.elapse t).fr.nextTick) →
    ∃ n, exec (.frameTick t l) s = .next n ∧ Effect [.time, .host, .fr, .out] (some (movesTime ++ movesIrq)) s n) ∧
  (∀ (s : State) (t : Nat), s.timerRuns = true → s.fr.phase = .open → s.power.step6 ≠ 3 → s.clocked 1 = true →
    s.cellList.Nodup →
    ∃ n, exec (.tFreeze t) s = .next n ∧ n.fr.phase = .frozen ∧ n.rd Reg.FRAME_STATUS.FROZEN_BUF = s.frameNo % 2 ∧
      n.fr.freezeNs = (s.elapse t).count ∧ n.frameNo = s.frameNo ∧
      (∀ k ∈ s.cellList, (s.cell k).done = true → (s.cell k).bad = false →
        (n.cell k).fresh = true ∧ (n.cell k).v = u16At (s.cell k).slot 4 ∧ (n.cell k).staleRun = 0) ∧
      (∀ k ∈ s.cellList, ((s.cell k).done = false ∨ (s.cell k).bad = true) →
        (n.cell k).fresh = false ∧ (n.cell k).v = (clampI 0 65535 ((s.cell k).v + (s.cell k).step)).toNat ∧ (n.cell k).v2 = (s.cell k).v2 ∧
        (n.cell k).slot = (s.cell k).slot ∧
        (n.cell k).staleRun = (if (n.cell k).moving then (s.cell k).staleRun else min 3 ((s.cell k).staleRun + 1)))) ∧
  (∀ (s : State) (t : Nat), s.timerRuns = true → s.fr.phase = .open → s.power.step6 = 3 →
    ∃ n, exec (.tFreeze t) s = .next n ∧ n.device = stKeepOnly ∧ n.power.pgood = 0 ∧ n.power.held = true ∧ n.rd Reg.FAULT_STATE.FAULT_N = 0) ∧
  (∀ (s : State) (t : Nat), (s.timerRuns = false ∨ s.fr.phase ≠ .open) →
    ∃ n, exec (.tFreeze t) s = .next n ∧ Effect [.time, .host, .fr, .out] (some (movesTime ++ movesIrq)) s n) ∧
  (∀ (s : State) (t : Nat), s.ticking = true →
    ∃ n, exec (.tSample t) s = .next n ∧
      (∀ k, k < 4 * s.silicon.variant.drives → Tbl.look default n.adc.slots (256 + k) =
        ((s.dsCh k).out.map fun o => { o with tNs := o.tNs - s.tickNs }).getD default) ∧
      (∀ k, k < 256 → Tbl.look default n.adc.slots k = Tbl.look default s.adc.slots k) ∧
      Effect [.time, .host, .fr, .adc, .out] (some (movesTime ++ movesIrq)) s n) ∧
  (∀ (s : State) (t : Nat), s.ticking = false →
    ∃ n, exec (.tSample t) s = .next n ∧ Effect [.time, .host, .fr, .out] (some (movesTime ++ movesIrq)) s n)

/-- T_COMPUTE_END and T_RANK_END (R53 to R56, R132, R199, R384): a plane that has not finished overruns, counted and with the frame's
number, and every coasting converter shows COAST; at the rank deadline the lease is renewed where the frame did not overrun, its
checkpoint is committed and the heartbeat is there, else it falls by one; an arm that is late repeats its slots. -/
def Obligations.FrameEndsWithLeaseOrOverrun : Prop :=
  (∀ (s : State) (d : Bool) (t : Nat), s.timerRuns = true → s.fr.phase = .frozen →
    ∃ n, exec (.tComputeEnd t d) s = .next n ∧ n.fr.phase = .computed ∧ n.referee.ball = s.referee.ball ∧
      n.fr.ovCompute = (s.fr.ovCompute || (s.referee.ball && s.planeRuns s.holder)) ∧
      n.rd Reg.OVERRUN_COUNT.COMPUTE = (if s.referee.ball && s.planeRuns s.holder then min 65535 (s.rd Reg.OVERRUN_COUNT.COMPUTE + 1)
        else s.rd Reg.OVERRUN_COUNT.COMPUTE) ∧
      ((s.referee.ball && s.planeRuns s.holder) = true → n.rd Reg.OVERRUN_LAST.FRAME = s.frameNo % 4294967296 ∧
        n.rd Reg.FRAME_EVENT.OVERRUN = 1) ∧
      n.referee.coast = (if s.referee.ball && !s.planeRuns s.holder then 0 else min 255 (s.referee.coast + 1)) ∧
      (s.clocked 1 = true → ∀ v ∈ s.cfg.convs, v.conv < 12 →
        n.rd Reg.CONV_STATE.COAST v.conv = b01 (!s.referee.ball || s.planeRuns s.holder)) ∧
      n.power.step6 = (if s.power.step6 = 1 then 2 else s.power.step6) ∧
      Effect [.time, .power, .faults, .host, .fr, .lanes, .chains, .cells, .arms, .engs, .convs, .referee, .pair, .safety, .out, .drawn]
        (some (movesTime ++ movesIrq ++ movesFault ++ [Reg.ARM_CAPINV.CAP_INV, Reg.ARM_DWELL.DEFERRED, Reg.ARM_DWELL.MOVED,
        Reg.ARM_EVENT.COAST, Reg.ARM_EVENT.DEFER, Reg.ARM_EVENT.I_HELD, Reg.ARM_EVENT.SHORTFALL, Reg.ARM_IARM.I, Reg.ARM_LEVEL.N_FULL,
        Reg.ARM_LEVEL.N_NL, Reg.ARM_OMEGA.OMEGA, Reg.ARM_PHASE.PHASE_BAL, Reg.ARM_PHASE.PHASE_REF, Reg.ARM_PHASE_LIM.LIM,
        Reg.ARM_PTR.ELIGIBLE, Reg.ARM_PTR.PTR, Reg.ARM_SHORT.FRAMES, Reg.ARM_SHORT.SHORT, Reg.ARM_STATUS.ACTIVE, Reg.ARM_STATUS.FLAGS,
        Reg.ARM_SWITCHED.LAST, Reg.ARM_THETA.THETA, Reg.ARM_TJ.TJ_MAX, Reg.ARM_TJ.TJ_MEAN, Reg.ARM_TJ_CELL.CELL, Reg.ARM_TRIM.FRAC,
        Reg.ARM_TRIM.TRIM, Reg.ARM_VAC.V, Reg.ARM_VDC.V, Reg.ARM_VEXTRA.V, Reg.ARM_VREF.V, Reg.CELL_COUNT.EXCLUDED, Reg.CELL_COUNT.SWAPS,
        Reg.CELL_EVENT.BYPASS, Reg.CELL_EVENT.OUT, Reg.CELL_EVENT.PENDING, Reg.CELL_EVENT.REJECTED, Reg.CELL_EVENT.SWAP,
        Reg.CELL_EVENT.UNCONFIRMED, Reg.CELL_FAULT.REPORTED, Reg.CELL_FAULT.SEEN, Reg.CELL_FAULT.TOGGLES, Reg.CELL_LAST.CELL,
        Reg.CELL_LAST.REASON, Reg.CELL_LAST.STATE, Reg.CELL_PENDING_FIRST.CELL, Reg.CELL_STATE.CONFIRMED, Reg.CELL_STATE.EXCLUDED,
        Reg.CELL_STATE.NO_BYPASS, Reg.CELL_STATE.REASON, Reg.CELL_STATE.STATE, Reg.CELL_STATE.T_INVALID, Reg.CELL_STATE_FRAME.FRAME,
        Reg.CELL_SUMMARY0.BYPASSED, Reg.CELL_SUMMARY0.SERVICE, Reg.CELL_SUMMARY1.OUT, Reg.CELL_SUMMARY1.PENDING,
        Reg.CELL_SUMMARY2.ABSENT, Reg.CELL_SUMMARY2.REJECTED, Reg.CELL_TEMP.TJ, Reg.CELL_TEMP.T_HS, Reg.CELL_UNROSTERED_HI.CHAINS,
        Reg.CELL_UNROSTERED_LO.CHAINS, Reg.CONV_COUNT.BLOCKS, Reg.CONV_COUNT.COAST_MAX, Reg.CONV_COUNT.RESYNCS, Reg.CONV_DTHETA.DTHETA,
        Reg.CONV_EVENT.BLOCK, Reg.CONV_EVENT.COAST_LIMIT, Reg.CONV_EVENT.RESYNC, Reg.CONV_EVENT.RESYNC_FAIL, Reg.CONV_EVENT_SRC.CONV,
        Reg.CONV_RESIDUAL.E, Reg.CONV_STATE.CAUSE, Reg.CONV_STATE.COAST, Reg.CONV_STATE.SLEWING, Reg.CONV_STATE.STATE,
        Reg.CONV_STATE_FRAME.FRAME, Reg.CONV_WORD.VALUE, Reg.DOMAIN_STATE.PLANE_A, Reg.DOMAIN_STATE.PLANE_B, Reg.ENG_CYCLES.LAST,
        Reg.ENG_CYCLES.MAX, Reg.ENG_EVENT.STOPPED, Reg.ENG_EXPORT.VALUE, Reg.ENG_STATUS.BALL, Reg.ENG_STATUS.COLD, Reg.ENG_STATUS.DONE,
        Reg.ENG_STATUS.SHADOW, Reg.ENG_STATUS.STOPPED, Reg.FRAME_EVENT.OVERRUN, Reg.LANE_BUDGET.COMPLETION, Reg.LANE_BUDGET.DELIVERY,
        Reg.LANE_CHAIN.GAP, Reg.LANE_CHAIN.SPLIT, Reg.LANE_DELAY.D, Reg.LANE_DELAY.VALID, Reg.LANE_EVENT.CHAIN_LATE,
        Reg.LANE_SEGDOWN_HI.DOWN, Reg.LANE_SEGDOWN_LO.DOWN, Reg.LANE_STATUS.CHAIN_LATE, Reg.LANE_STATUS.FIRST_Q, Reg.LANE_STATUS.SERVED,
        Reg.LANE_STATUS.STATE, Reg.LANE_UPBASE.U, Reg.OVERRUN_COUNT.COMPUTE, Reg.OVERRUN_LAST.FRAME, Reg.POWER_PGOOD.PGOOD,
        Reg.REF_CKPT.NEWEST, Reg.REF_CKPT.VALID0, Reg.REF_CKPT.VALID1, Reg.REF_CKPT_SEQ.SEQ, Reg.REF_EVENT.CANCEL, Reg.REF_EVENT.UNFIT,
        Reg.REF_HT_STATUS.MATCHED, Reg.REF_HT_STATUS.OUTCOME, Reg.REF_STATUS.ROLE_A, Reg.REF_STATUS.ROLE_B, Reg.REF_STATUS.STATE,
        Reg.SAFE_EVENT.REMOVED, Reg.SAFE_FIRE.DRV_A, Reg.SAFE_FIRE.DRV_B, Reg.SAFE_FIRE.FIRE_A, Reg.SAFE_FIRE.FIRE_B,
        Reg.SAFE_GROUP.CAUSE, Reg.SAFE_GROUP.KIND, Reg.SAFE_GROUP.PAIRS, Reg.SAFE_GROUP.STATE, Reg.SAFE_GROUP.STOP, Reg.SAFE_PAIR.CH_A,
        Reg.SAFE_PAIR.CH_B, Reg.SAFE_PAIR.DEMAND, Reg.SAFE_PAIR.DEMANDS, Reg.SAFE_PAIR.FAULT_CAUSE, Reg.SAFE_PAIR.PAIR_FAULT,
        Reg.SAFE_RESET_STATUS.ARMED, Reg.SAFE_STATUS.A_OK, Reg.SAFE_STATUS.B_OK, Reg.SAFE_STATUS.DEMAND, Reg.SAFE_STATUS.DIAG,
        Reg.SAFE_STATUS.DIAG_A, Reg.SAFE_STATUS.DIAG_B, Reg.SAFE_STATUS.DIAG_CAUSE, Reg.SAFE_STATUS.LOCKED, Reg.SAFE_STATUS.RESET_PIN,
        Reg.SAFE_TPO.EN, Reg.SAFE_TPO.READBACK_FAULT, Reg.TRK_STATUS.CTRL_HIWATER, Reg.TS_CALL.RESULT, Reg.TS_RECORDED_HI.IDENTITY,
        Reg.TS_RECORDED_LO.IDENTITY])) s n) ∧
  (∀ (s : State) (d : Bool) (t : Nat), (s.timerRuns = false ∨ s.fr.phase ≠ .frozen) →
    ∃ n, exec (.tComputeEnd t d) s = .next n ∧ Effect [.time, .host, .fr, .out] (some (movesTime ++ movesIrq)) s n) ∧
  (∀ (s : State) (c : List Nat) (l : List (Fin 12)) (r : Bool) (mw t : Nat), s.timerRuns = true → s.fr.phase = .computed →
    s.referee.ball = true →
    ∃ n, exec (.tRankEnd t c l r mw) s = .next n ∧ n.fr.phase = .ranked ∧ n.referee.ball = true ∧ n.rd Reg.PLAN_POWER.MEASURED = min 65535 mw ∧
      n.fr.ovRank = (s.fr.ovRank || l.any fun a => (s.armCfg a.val).isSome) ∧
      (∀ a ∈ l, (s.armCfg a.val).isSome → hasBit n.fr.repeatArms a.val = true) ∧
      n.referee.renewed = (!s.fr.ovCompute && !n.fr.ovRank && s.referee.writing.isSome && s.referee.heartbeat) ∧
      n.rd Reg.REF_STATUS.LEASE = (if n.referee.renewed then s.cfg.limits.lease else s.rd Reg.REF_STATUS.LEASE - 1) % 32 ∧
      n.rd Reg.OVERRUN_COUNT.RANK = (if l.any fun a => (s.armCfg a.val).isSome then min 65535 (s.rd Reg.OVERRUN_COUNT.RANK + 1)
        else s.rd Reg.OVERRUN_COUNT.RANK) ∧
      (s.device = stRun → n.fr.history = ((s.fr.engNeed, c.foldl max 0) :: s.fr.history).take 64) ∧
      Effect [.time, .power, .faults, .host, .fr, .arms, .engs, .convs, .referee, .pair, .journal, .out] (some (movesTime ++ movesIrq ++
        movesFault ++ [Reg.ARM_DWELL.DEFERRED, Reg.ARM_DWELL.MOVED, Reg.ARM_EVENT.DEFER, Reg.ARM_EVENT.SHORTFALL, Reg.ARM_PTR.PTR,
        Reg.ARM_SHORT.FRAMES, Reg.ARM_STATUS.FLAGS, Reg.BB_STATUS.TX_IDLE, Reg.DOMAIN_STATE.PLANE_A, Reg.DOMAIN_STATE.PLANE_B,
        Reg.ENG_EXPORT.VALUE, Reg.ENG_STATUS.BALL, Reg.ENG_STATUS.COLD, Reg.ENG_STATUS.SHADOW, Reg.FRAME_EVENT.OVERRUN,
        Reg.FRAME_EVENT.SLACK_LOW, Reg.IMAGE_EVENT.SPARE_LOW, Reg.IMAGE_EVENT.SUBST, Reg.IMAGE_SUBST_STATUS.BUSY,
        Reg.IMAGE_SUBST_STATUS.RESULT, Reg.JRN_STATUS.FILL, Reg.OVERRUN_COUNT.RANK, Reg.OVERRUN_LAST.FRAME, Reg.PLAN_FORECAST.ENG_NEED,
        Reg.PLAN_FORECAST.FAB_NEED, Reg.PLAN_LEVEL.SLACK_LOW, Reg.PLAN_LEVEL.STATIC, Reg.PLAN_LEVEL.TARGET, Reg.PLAN_POWER.MEASURED,
        Reg.POWER_PGOOD.PGOOD, Reg.REF_CKPT.NEWEST, Reg.REF_CKPT.VALID0, Reg.REF_CKPT.VALID1, Reg.REF_CKPT_SEQ.SEQ, Reg.REF_EVENT.CANCEL,
        Reg.REF_EVENT.PAIR_CONFLICT, Reg.REF_EVENT.UNFIT, Reg.REF_HT_STATUS.OUTCOME, Reg.REF_PAIR.CONFLICTS, Reg.REF_PAIR.LINK_OK,
        Reg.REF_PAIR.REF_IN, Reg.REF_STATUS.LEASE, Reg.REF_STATUS.ROLE_A, Reg.REF_STATUS.ROLE_B, Reg.REF_STATUS.STATE,
        Reg.ROLE_COUNT.ARM_SLICES, Reg.ROLE_COUNT.LANE_SLICES, Reg.ROLE_COUNT.MIRROR, Reg.ROLE_COUNT.RECORDER, Reg.ROLE_COUNT.SPARE,
        Reg.ROLE_COUNT.UNASSIGNED, Reg.TRK_STATUS.CTRL_HIWATER])) s n) ∧
  (∀ (s : State) (c : List Nat) (l : List (Fin 12)) (r : Bool) (mw t : Nat), s.timerRuns = true → s.fr.phase = .computed →
    s.referee.ball = false →
    ∃ n, exec (.tRankEnd t c l r mw) s = .next n ∧ n.fr.phase = .ranked ∧ n.rd Reg.REF_STATUS.LEASE = s.rd Reg.REF_STATUS.LEASE ∧
      n.referee.renewed = false ∧ n.rd Reg.OVERRUN_COUNT.RANK = s.rd Reg.OVERRUN_COUNT.RANK) ∧
  (∀ (s : State) (c : List Nat) (l : List (Fin 12)) (r : Bool) (mw t : Nat), (s.timerRuns = false ∨ s.fr.phase ≠ .computed) →
    ∃ n, exec (.tRankEnd t c l r mw) s = .next n ∧ Effect [.time, .host, .fr, .out] (some (movesTime ++ movesIrq)) s n)

/-- The planner (R39, R49, R56, R59, R61 to R63, R375, Table 02-7): SET_FRAME_PERIOD inside the validated range governs the next frame and
empties the history; 64 slower frames step the level down by one in the guard window; the hold at PL0 ends after 64 frames; background
units run while the time, the power and the share of the capacity that the headroom grants suffice, and after one is refused none runs in
the frame; an entry of the control side outstanding for 100 µs ends with an error response. -/
def Obligations.PlannerKeepsPeriodLevelAndBudget : Prop :=
  (∀ (s : State) (p : Nat), s.cfg.frame.pmin ≤ p → p ≤ s.cfg.frame.pmax → p ≠ s.fr.nextPeriod.getD s.period →
    ∃ n, exec (.setFramePeriod p) s = .next n ∧ n.fr.nextPeriod = some p ∧ n.fr.history = [] ∧ n.period = s.period ∧
      n.rd Reg.PLAN_LEVEL.STATIC = 1 ∧ n.referee.shadow = none ∧ (s.referee.shadow.isSome = true → n.rd Reg.REF_EVENT.CANCEL = 1) ∧
      Effect [.power, .host, .fr, .engs, .referee, .out] (some (movesIrq ++ [Reg.DOMAIN_STATE.PLANE_A, Reg.DOMAIN_STATE.PLANE_B,
        Reg.ENG_EXPORT.VALUE, Reg.ENG_STATUS.BALL, Reg.ENG_STATUS.COLD, Reg.ENG_STATUS.SHADOW, Reg.PLAN_FORECAST.ENG_NEED,
        Reg.PLAN_FORECAST.FAB_NEED, Reg.PLAN_LEVEL.STATIC, Reg.POWER_PGOOD.PGOOD, Reg.REF_EVENT.CANCEL, Reg.REF_EVENT.UNFIT,
        Reg.REF_HT_STATUS.OUTCOME, Reg.REF_STATUS.ROLE_A, Reg.REF_STATUS.ROLE_B, Reg.REF_STATUS.STATE])) s n) ∧
  (∀ (s : State) (p : Nat), (p < s.cfg.frame.pmin ∨ s.cfg.frame.pmax < p ∨ p = s.fr.nextPeriod.getD s.period) →
    ∃ n, exec (.setFramePeriod p) s = .next n ∧ Effect [.host, .out] (some movesIrq) s n) ∧
  (∀ (s : State) (t : Nat), s.fr.phase = .ranked → 64 ≤ s.fr.slower → s.fr.nextLevel = none → s.fr.rising = none →
    ∃ n, exec (.plannerStepDown t) s = .next n ∧ n.fr = { (s.elapse t).fr with slower := 0, nextLevel := some (min 3 (s.rd Reg.PLAN_LEVEL.CURRENT + 1)) } ∧
      Effect [.time, .host, .fr, .out] (some (movesTime ++ movesIrq)) s n) ∧
  (∀ (s : State) (t : Nat), (s.fr.phase ≠ .ranked ∨ s.fr.slower < 64) →
    ∃ n, exec (.plannerStepDown t) s = .next n ∧ n.fr = (s.elapse t).fr) ∧
  (∀ (s : State) (t h : Nat), s.fr.hold = some h →
    ∃ n, exec (.overrunHoldEnd t) s = .next n ∧ n.fr = { (s.elapse t).fr with hold := if 64 ≤ h then none else some h } ∧
      Effect [.time, .host, .fr, .out] (some (movesTime ++ movesIrq ++ [Reg.FRAME_EVENT.SLACK_LOW, Reg.PLAN_FORECAST.ENG_NEED,
        Reg.PLAN_FORECAST.FAB_NEED, Reg.PLAN_LEVEL.SLACK_LOW, Reg.PLAN_LEVEL.STATIC, Reg.PLAN_LEVEL.TARGET])) s n) ∧
  (∀ (s : State) (o : BgOffer) (t : Nat), 2 ≤ s.rd Reg.POWER_SHED.STEP →
    ∃ n, exec (.backgroundDispatch o t) s = .next n ∧ n.rd Reg.PLAN_BG_STATUS.STOPPED_BY = 4 ∧
      n.fr = { (s.elapse t).fr with bgOver := true } ∧
      Effect [.time, .power, .host, .load, .fr, .engs, .referee, .out] (some (movesTime ++ movesIrq ++ [Reg.DOMAIN_STATE.PLANE_A,
        Reg.DOMAIN_STATE.PLANE_B, Reg.ENG_EXPORT.VALUE, Reg.ENG_STATUS.BALL, Reg.ENG_STATUS.COLD, Reg.ENG_STATUS.SHADOW,
        Reg.PLAN_BG_STATUS.SHARE, Reg.PLAN_BG_STATUS.STOPPED_BY, Reg.POWER_PGOOD.PGOOD, Reg.REF_EVENT.CANCEL, Reg.REF_EVENT.UNFIT,
        Reg.REF_HT_STATUS.OUTCOME, Reg.REF_STATUS.ROLE_A, Reg.REF_STATUS.ROLE_B, Reg.REF_STATUS.STATE, Reg.TRK_STATUS.CTRL_HIWATER])) s n) ∧
  (∀ (s : State) (o : BgOffer) (t : Nat), s.rd Reg.POWER_SHED.STEP < 2 → s.fr.bgOver = true →
    ∃ n, exec (.backgroundDispatch o t) s = .next n ∧ n.fr = (s.elapse t).fr ∧
      n.rd Reg.PLAN_BG_STATUS.STOPPED_BY = s.rd Reg.PLAN_BG_STATUS.STOPPED_BY) ∧
  (∀ (s : State) (k : Fin 5) (mw ns c : Nat) (a : Bool) (t : Nat), s.rd Reg.POWER_SHED.STEP < 2 → s.fr.bgOver = false →
    ((upTo 5).map fun i => s.rd Reg.PLAN_BG_ORDER.ORDER / 8 ^ i % 8).count k.val = 1 →
    ∃ n, exec (.backgroundDispatch ⟨[(k, mw, ns, a)], c⟩ t) s = .next n ∧ n.rd Reg.PLAN_BG_STATUS.SHARE = s.bgShare ∧
      n.rd Reg.PLAN_BG_STATUS.STOPPED_BY = (if s.bgShare = 0 then 3 else if c < s.fr.bgNs + ns then 1
        else if s.rd Reg.PLAN_POWER.BUDGET < s.rd Reg.PLAN_POWER.MEASURED + s.fr.powerMw + mw then 2
        else if c * s.bgShare / 100 < s.fr.bgNs + ns then 3 else 0) ∧
      (n.rd Reg.PLAN_BG_STATUS.STOPPED_BY = 0 → n.fr.powerMw = s.fr.powerMw + mw ∧ n.fr.bgNs = s.fr.bgNs + ns ∧
        hasBit n.fr.bgRan k.val = true ∧ n.fr.bgOver = false) ∧
      (n.rd Reg.PLAN_BG_STATUS.STOPPED_BY ≠ 0 → n.fr = { (s.elapse t).fr with bgOver := true })) ∧
  (∀ (s : State) (k : Fin 2) (c : Fin 7) (o t : Nat), s.power.held = false → o + 100000 ≤ (s.elapse t).time.ns → s.mayRaise = true →
    ∃ n, exec (.trkEntryTimeout ⟨k, c, o⟩ t) s = .next n ∧
      n.rd Reg.TRK_TIMEOUT_COUNT.TIMEOUTS = min 65535 (s.rd Reg.TRK_TIMEOUT_COUNT.TIMEOUTS + 1) ∧ raises (s.elapse t) n 25 k.val ∧
      s.out ++ [.ctrlError c.val k.val] <+: n.out ∧
      (∀ e, s.fr.ctrl.find? (fun e => e.target == k.val && e.cls == c.val && e.opened == o) = some e → s.fr.ctrlWait = [] →
        n.fr.ctrl = s.fr.ctrl.erase e) ∧
      ((∀ e ∈ s.fr.ctrl, ¬(e.target = k.val ∧ e.cls = c.val ∧ e.opened = o)) → n.fr = (s.elapse t).fr) ∧
      Effect [.time, .faults, .host, .fr, .out] (some (movesTime ++ movesIrq ++ movesFault ++ [Reg.TRK_STATUS.CTRL_HIWATER,
        Reg.TRK_TIMEOUT_COUNT.TIMEOUTS])) s n) ∧
  (∀ (s : State) (e : CtrlRef) (t : Nat), (s.power.held = true ∨ (s.elapse t).time.ns < e.opened + 100000) →
    ∃ n, exec (.trkEntryTimeout e t) s = .next n ∧ Effect [.time, .host, .fr, .out] (some (movesTime ++ movesIrq)) s n)

/-- The load (R65 steps 5 to 8, R66, R69, R70, R73, R78, R80): with DRAM ready the loader tries the first source; a fetched image whose
magic, version and size pass goes on to authentication; one that fails, a flash without SFDP, a fetch that lasts 5 s and an abort are
refused with their codes. A host load is honoured in KICK-OFF at step 6. An image that passes its seven checks goes on to the sections,
and one that fails is refused with the code and offset of the first check that failed. Sections that pass are kept for commit with the
frame timer started; otherwise the load ends refused and the timer stops. -/
def Obligations.LoaderFetchesAndAuthenticates : Prop :=
  (∀ (s : State) (t : Nat) (l : List Nat), s.power.held = false → s.power.step = 5 → s.rd Reg.IMAGE_STATUS.STATE = 0 →
    s.host.delivery = none → s.load.sources = 0 :: l →
    ∃ n, exec (.dramInitDone true t) s = .next n ∧ n.load.dram = true ∧ n.rd Reg.DOMAIN_STATE.DRAM_ACTIVE = 1 ∧ n.power.step = 6 ∧
      n.rd Reg.IMAGE_STATUS.STATE = 1 ∧ n.rd Reg.IMAGE_STATUS.SOURCE = 0 ∧ n.load.sources = l ∧ n.load.since = (s.elapse t).time.ns ∧
      Effect [.time, .power, .host, .load, .fr, .out] (some (movesTime ++ movesIrq ++ [Reg.DOMAIN_STATE.DRAM_ACTIVE,
        Reg.FRAME_STATUS.RUNNING, Reg.IMAGE_ERR_OFFSET.OFFSET, Reg.IMAGE_ERR_SECTION.INDEX, Reg.IMAGE_ERR_SECTION.TYPE,
        Reg.IMAGE_EVENT.DONE, Reg.IMAGE_PRIMARY_CODE.CODE, Reg.IMAGE_STATUS.CODE, Reg.IMAGE_STATUS.SOURCE, Reg.IMAGE_STATUS.STATE])) s n) ∧
  (∀ (s : State) (t : Nat), s.power.held = false → s.power.step = 5 →
    ∃ n, exec (.dramInitDone false t) s = .next n ∧ n.rd Reg.IMAGE_STATUS.STATE = 6 ∧ n.rd Reg.IMAGE_STATUS.CODE = 0x204 ∧
      n.rd Reg.IMAGE_ERR_SECTION.INDEX = 0xFFFF ∧ n.rd Reg.IMAGE_EVENT.DONE = 1 ∧ n.load.sources = [] ∧ n.device = s.device) ∧
  (∀ (s : State) (mb t : Nat) (b : List Byte), s.rd Reg.IMAGE_STATUS.STATE = 1 → s.rd Reg.IMAGE_STATUS.SOURCE = 0 →
    u32At b 0 = 0x4953584C → u16At b 4 = 1 → u16At b 6 = 0 → 512 ≤ u32At b 8 → u32At b 8 ≤ 67108864 → u32At b 8 ≤ b.length →
    ∃ n, exec (.imageFetchDone true mb b t) s = .next n ∧ n.rd Reg.IMAGE_STATUS.STATE = 2 ∧ n.power.step = 7 ∧
      n.load.image = b.take (u32At b 8) ∧ n.rd Reg.IMAGE_BOOT.SFDP_OK = 1 ∧ n.rd Reg.IMAGE_BOOT.SECONDARY = b01 (128 ≤ mb) ∧
      Effect [.time, .power, .host, .load, .fr, .out] (some (movesTime ++ movesIrq ++ [Reg.FRAME_STATUS.RUNNING,
        Reg.IMAGE_BOOT.DENSITY_MB, Reg.IMAGE_BOOT.SECONDARY, Reg.IMAGE_BOOT.SFDP_OK, Reg.IMAGE_ERR_OFFSET.OFFSET,
        Reg.IMAGE_ERR_SECTION.INDEX, Reg.IMAGE_ERR_SECTION.TYPE, Reg.IMAGE_EVENT.DONE, Reg.IMAGE_PRIMARY_CODE.CODE,
        Reg.IMAGE_STATUS.CODE, Reg.IMAGE_STATUS.SOURCE, Reg.IMAGE_STATUS.STATE])) s n) ∧
  (∀ (s : State) (mb t : Nat) (b : List Byte) (l : List Nat), s.rd Reg.IMAGE_STATUS.STATE = 1 → s.rd Reg.IMAGE_STATUS.SOURCE = 0 →
    u32At b 0 ≠ 0x4953584C → 128 ≤ mb → s.load.sources = 1 :: l → s.load.dram = true → s.host.delivery = none →
    ∃ n, exec (.imageFetchDone true mb b t) s = .next n ∧ n.rd Reg.IMAGE_STATUS.STATE = 1 ∧ n.rd Reg.IMAGE_STATUS.SOURCE = 1 ∧
      n.rd Reg.IMAGE_PRIMARY_CODE.CODE = 0x101 ∧ n.load.sources = l) ∧
  (∀ (s : State) (mb t c o : Nat) (b : List Byte), s.rd Reg.IMAGE_STATUS.STATE = 1 → s.rd Reg.IMAGE_STATUS.SOURCE = 0 →
    s.load.sources = [] → s.host.delivery = none →
    (c, o) = (if u32At b 0 ≠ 0x4953584C then (0x101, 0) else if u16At b 4 ≠ 1 then (0x102, 4) else if u16At b 6 ≠ 0 then (0x102, 6)
      else (0x103, 8)) →
    (c = 0x103 → u32At b 8 < 512 ∨ 67108864 < u32At b 8 ∨ b.length < u32At b 8) →
    ∃ n, exec (.imageFetchDone true mb b t) s = .next n ∧ n.rd Reg.IMAGE_STATUS.STATE = 6 ∧ n.rd Reg.IMAGE_STATUS.CODE = c ∧
      n.rd Reg.IMAGE_ERR_OFFSET.OFFSET = o ∧ n.rd Reg.IMAGE_ERR_SECTION.INDEX = 0xFFFF ∧ n.power.step = 6) ∧
  (∀ (s : State) (mb t : Nat) (b : List Byte), s.rd Reg.IMAGE_STATUS.STATE = 1 → s.rd Reg.IMAGE_STATUS.SOURCE = 0 →
    s.load.sources = [] → s.host.delivery = none →
    ∃ n, exec (.imageFetchDone false mb b t) s = .next n ∧ n.rd Reg.IMAGE_STATUS.STATE = 6 ∧ n.rd Reg.IMAGE_STATUS.CODE = 0x201) ∧
  (∀ (s : State) (t : Nat), s.rd Reg.IMAGE_STATUS.STATE = 1 → s.rd Reg.IMAGE_STATUS.SOURCE < 2 →
    s.load.since + 5000000000 ≤ (s.elapse t).time.ns → s.load.sources = [] → s.host.delivery = none →
    ∃ n, exec (.flashTimeout t) s = .next n ∧ n.rd Reg.IMAGE_STATUS.STATE = 6 ∧ n.rd Reg.IMAGE_STATUS.CODE = 0x202 ∧
      Effect [.time, .power, .host, .load, .fr, .out] (some (movesTime ++ movesIrq ++ [Reg.FRAME_STATUS.RUNNING,
        Reg.IMAGE_ERR_OFFSET.OFFSET, Reg.IMAGE_ERR_SECTION.INDEX, Reg.IMAGE_ERR_SECTION.TYPE, Reg.IMAGE_EVENT.DONE,
        Reg.IMAGE_PRIMARY_CODE.CODE, Reg.IMAGE_STATUS.CODE, Reg.IMAGE_STATUS.SOURCE, Reg.IMAGE_STATUS.STATE])) s n) ∧
  (∀ (s : State) (t : Nat), (s.rd Reg.IMAGE_STATUS.STATE = 0 ∨ 3 < s.rd Reg.IMAGE_STATUS.STATE) →
    (∃ n, exec (.flashTimeout t) s = .next n ∧ Effect [.time, .host, .fr, .out] (some (movesTime ++ movesIrq)) s n) ∧
    ∃ n, exec (.imageAbort t) s = .next n ∧ Effect [.time, .host, .fr, .out] (some (movesTime ++ movesIrq)) s n) ∧
  (∀ (s : State) (t : Nat), 1 ≤ s.rd Reg.IMAGE_STATUS.STATE → s.rd Reg.IMAGE_STATUS.STATE ≤ 3 → s.load.sources = [] →
    s.host.delivery = none →
    ∃ n, exec (.imageAbort t) s = .next n ∧ n.rd Reg.IMAGE_STATUS.STATE = 6 ∧ n.rd Reg.IMAGE_STATUS.CODE = 0x205 ∧ n.ticking = false ∧
      n.load.image = [] ∧
      Effect [.time, .power, .host, .load, .fr, .out] (some (movesTime ++ movesIrq ++ [Reg.FRAME_STATUS.RUNNING,
        Reg.IMAGE_ERR_OFFSET.OFFSET, Reg.IMAGE_ERR_SECTION.INDEX, Reg.IMAGE_ERR_SECTION.TYPE, Reg.IMAGE_EVENT.DONE,
        Reg.IMAGE_PRIMARY_CODE.CODE, Reg.IMAGE_STATUS.CODE, Reg.IMAGE_STATUS.SOURCE, Reg.IMAGE_STATUS.STATE])) s n) ∧
  (∀ (s : State) (t : Nat), s.device = stKickOff → s.power.held = false → s.power.step = 6 → s.loadRuns = false → s.load.dram = true →
    s.load.sources = [] → s.host.delivery = none →
    ∃ n, exec (.imageLoad 2 t) s = .next n ∧ n.rd Reg.IMAGE_STATUS.SOURCE = 2 ∧
      n.rd Reg.IMAGE_STATUS.STATE = (if 1 ≤ s.rd Reg.IMAGE_STAGE_SIZE.SIZE ∧ s.rd Reg.IMAGE_STAGE_SIZE.SIZE ≤ 67108864 then 1 else 6) ∧
      n.rd Reg.IMAGE_STATUS.CODE = (if 1 ≤ s.rd Reg.IMAGE_STAGE_SIZE.SIZE ∧ s.rd Reg.IMAGE_STAGE_SIZE.SIZE ≤ 67108864 then 0 else 0x203) ∧
      Effect [.time, .power, .host, .load, .fr, .out] (some (movesTime ++ movesIrq ++ [Reg.FRAME_STATUS.RUNNING, Reg.IMAGE_CTRL.SRC,
        Reg.IMAGE_ERR_OFFSET.OFFSET, Reg.IMAGE_ERR_SECTION.INDEX, Reg.IMAGE_ERR_SECTION.TYPE, Reg.IMAGE_EVENT.DONE,
        Reg.IMAGE_PRIMARY_CODE.CODE, Reg.IMAGE_STATUS.CODE, Reg.IMAGE_STATUS.SOURCE, Reg.IMAGE_STATUS.STATE])) s n) ∧
  (∀ (s : State) (k : Fin 4) (t : Nat), (s.device ≠ stKickOff ∨ s.power.held = true ∨ s.power.step ≠ 6 ∨ s.loadRuns = true) →
    ∃ n, exec (.imageLoad k t) s = .next n ∧ Effect [.time, .host, .fr, .out] (some (movesTime ++ movesIrq ++ [Reg.IMAGE_CTRL.SRC])) s n) ∧
  (∀ (s : State) (t : Nat), s.rd Reg.IMAGE_STATUS.STATE = 2 → authenticate s.silicon s.fuses s.load.image = .ok () →
    ∃ n, exec (.imageAuthenticate t) s = .next n ∧ n.rd Reg.IMAGE_STATUS.STATE = 3 ∧ n.power.step = 8 ∧ n.load = s.load ∧ n.cfg = s.cfg ∧
      s.fuses.slots.any KeySlot.live = true ∧ u8At s.load.image 29 < 4 ∧ (s.fuses.slot (u8At s.load.image 29)).live = true ∧
      s.fuses.epoch ≤ u8At s.load.image 28 ∧ u8At s.load.image 28 ≤ 63 ∧
      Effect [.time, .power, .host, .load, .fr, .out] (some (movesTime ++ movesIrq ++ [Reg.FRAME_STATUS.RUNNING,
        Reg.IMAGE_ERR_OFFSET.OFFSET, Reg.IMAGE_ERR_SECTION.INDEX, Reg.IMAGE_ERR_SECTION.TYPE, Reg.IMAGE_EVENT.DONE,
        Reg.IMAGE_PRIMARY_CODE.CODE, Reg.IMAGE_STATUS.CODE, Reg.IMAGE_STATUS.SOURCE, Reg.IMAGE_STATUS.STATE])) s n) ∧
  (∀ (s : State) (t c o : Nat), s.rd Reg.IMAGE_STATUS.STATE = 2 → authenticate s.silicon s.fuses s.load.image = .error (c, o) →
    s.load.sources = [] → s.host.delivery = none →
    ∃ n, exec (.imageAuthenticate t) s = .next n ∧ n.rd Reg.IMAGE_STATUS.STATE = 6 ∧ n.rd Reg.IMAGE_STATUS.CODE = c ∧
      n.rd Reg.IMAGE_ERR_OFFSET.OFFSET = o % 4294967296 ∧ n.cfg = s.cfg ∧ 0x301 ≤ c ∧ c ≤ 0x307) ∧
  (∀ (s : State) (t : Nat), s.rd Reg.IMAGE_STATUS.STATE = 2 → s.fuses.slots.any KeySlot.live = false → s.load.sources = [] →
    s.host.delivery = none →
    ∃ n, exec (.imageAuthenticate t) s = .next n ∧ n.rd Reg.IMAGE_STATUS.STATE = 6 ∧ n.rd Reg.IMAGE_STATUS.CODE = 0x301) ∧
  (∀ (s : State) (t : Nat), s.rd Reg.IMAGE_STATUS.STATE = 2 → s.fuses.slots.any KeySlot.live = true →
    (4 ≤ u8At s.load.image 29 ∨ (s.fuses.slot (u8At s.load.image 29)).live = false) → s.load.sources = [] → s.host.delivery = none →
    ∃ n, exec (.imageAuthenticate t) s = .next n ∧ n.rd Reg.IMAGE_STATUS.STATE = 6 ∧ n.rd Reg.IMAGE_STATUS.CODE = 0x302) ∧
  (∀ (s : State) (t : Nat) (f : FrameCfg) (c : Cfg), s.rd Reg.IMAGE_STATUS.STATE = 3 →
    checkImage s.silicon.variant s.load.image = (some f, .ok c) →
    ∃ n, exec (.sectionChecks t) s = .next n ∧ n.rd Reg.IMAGE_STATUS.STATE = 4 ∧ n.power.step = 9 ∧ n.load.built = some c ∧ n.ticking = true ∧
      n.rd Reg.FRAME_PERIOD.PERIOD = f.period % 65536 ∧ n.cfg = s.cfg ∧
      Effect [.time, .power, .host, .load, .fr, .out] (some (movesTime ++ movesIrq ++ [Reg.FRAME_PERIOD.PERIOD, Reg.FRAME_PHASE0.APPLY,
        Reg.FRAME_PHASE0.SAMPLE, Reg.FRAME_PHASE1.COMPUTE_END, Reg.FRAME_PHASE1.FREEZE, Reg.FRAME_PHASE2.RANK_END,
        Reg.FRAME_STATUS.RUNNING, Reg.IMAGE_ERR_OFFSET.OFFSET, Reg.IMAGE_ERR_SECTION.INDEX, Reg.IMAGE_ERR_SECTION.TYPE,
        Reg.IMAGE_EVENT.DONE, Reg.IMAGE_PRIMARY_CODE.CODE, Reg.IMAGE_STATUS.CODE, Reg.IMAGE_STATUS.SOURCE, Reg.IMAGE_STATUS.STATE])) s n) ∧
  (∀ (s : State) (t k i y o : Nat) (f : Option FrameCfg), s.rd Reg.IMAGE_STATUS.STATE = 3 →
    checkImage s.silicon.variant s.load.image = (f, .error (k, i, y, o)) → s.load.sources = [] → s.host.delivery = none →
    ∃ n, exec (.sectionChecks t) s = .next n ∧ n.rd Reg.IMAGE_STATUS.STATE = 6 ∧ n.rd Reg.IMAGE_STATUS.CODE = k % 65536 ∧
      n.rd Reg.IMAGE_ERR_SECTION.INDEX = i % 65536 ∧ n.rd Reg.IMAGE_ERR_SECTION.TYPE = y % 65536 ∧
      n.rd Reg.IMAGE_ERR_OFFSET.OFFSET = o % 4294967296 ∧ n.ticking = false ∧ n.load.built = none ∧ n.cfg = s.cfg) ∧
  (∀ (s : State) (t : Nat), s.rd Reg.IMAGE_STATUS.STATE ≠ 2 → s.rd Reg.IMAGE_STATUS.STATE ≠ 3 →
    (∃ n, exec (.imageAuthenticate t) s = .next n ∧ Effect [.time, .host, .fr, .out] (some (movesTime ++ movesIrq)) s n) ∧
    ∃ n, exec (.sectionChecks t) s = .next n ∧ Effect [.time, .host, .fr, .out] (some (movesTime ++ movesIrq)) s n)

/-- Commit and the grant (R65 steps 9 to 11, R66, R67, R71, R86, R185): the structure that was checked takes effect with every cell
ABSENT, every converter BLOCKED, both checkpoint halves valid, plane A waking and plane B cold; a failed write-read check is refused with
0601h and too few spares with 040Ah. 1,000 frames later a lane that has not come up and has no sync is LOST. Once every lane has come up
the referee grants the ball to plane A, and the device is in RUN. -/
def Obligations.CommitBuildsAndTheGrantEntersRun : Prop :=
  (∀ (s : State) (x t : Nat) (l : List (Fin 128)) (c : Cfg) (m : List (SliceCfg × Nat)), s.toCommit = some c → s.power.dormantExit = false →
    moveRoles c.slices (s.commitBad c (l.map (·.val))) (c.goodSpares (s.commitBad c (l.map (·.val)))) = some m → s.refState = rsSetup →
    ∃ n, exec (.imageCommit l true x t) s = .next n ∧ n.cfg = { c with loaded := true } ∧ n.power.step = 10 ∧
      n.rd Reg.IMAGE_STATUS.STATE = 5 ∧ n.rd Reg.IMAGE_EVENT.DONE = 1 ∧ n.rd64 Reg.IMAGE_ID_LO.ID Reg.IMAGE_ID_HI.ID = c.imageId % 2 ^ 64 ∧
      n.rd Reg.IMAGE_INFO.VERSION = c.version % 2 ^ 32 ∧ n.role 0 = roWaking ∧ n.role 1 = roCold ∧ n.referee.ball = s.referee.ball ∧
      n.referee.half0.valid = true ∧ n.referee.half1.valid = true ∧ n.journal = s.journal ∧ n.fuses = s.fuses ∧
      n.rd Reg.FAULT_QUIET.QUIET_MS = min 65535 c.limits.quietMs ∧ n.load.copy = s.load.image ∧
      (∀ v ∈ c.convs, v.conv < 12 → n.cvState v.conv = cvBlocked) ∧
      (∀ k ∈ c.chains, ∀ h, h < k.cells → k.base + h < 1536 → n.cstate (k.base + h) = csAbsent) ∧
      Effect [.time, .power, .faults, .host, .load, .cfg, .fr, .lanes, .chains, .cells, .arms, .engs, .convs, .referee, .adc, .drives,
        .motors, .safety, .canQueues, .out] (some (movesTime ++ movesIrq ++ movesFault ++ [Reg.ADC_CTRL.SEQ_EN, Reg.ADC_DS_CFG.LOG2R,
        Reg.ADC_DS_CFG.ORDER, Reg.ADC_DS_CFG.SHIFT, Reg.ADC_DS_OFFSET.VALUE, Reg.ADC_DS_SCALE.VALUE, Reg.ADC_ENTRY_CFG.ACQ,
        Reg.ADC_ENTRY_CFG.INPUT, Reg.ADC_ENTRY_CFG.SHIFT, Reg.ADC_ENTRY_CFG.WIN_EN, Reg.ADC_ENTRY_OFFSET.VALUE,
        Reg.ADC_ENTRY_SCALE.VALUE, Reg.ADC_ENTRY_WIN_HI.VALUE, Reg.ADC_ENTRY_WIN_LO.VALUE, Reg.ADC_HK_DIODE_CFG0.IDEALITY,
        Reg.ADC_HK_DIODE_CFG1.IDEALITY, Reg.ADC_IN_CFG.EN, Reg.ADC_IN_CFG.GAIN, Reg.ADC_REF.AUTO, Reg.ADC_REF.EN,
        Reg.ADC_SEQ_BURST.LENGTH, Reg.ADC_SEQ_BURST.START, Reg.ADC_SEQ_CTRL.LEN, Reg.ARM_ALPHA1.ALPHA, Reg.ARM_ALPHA2.ALPHA,
        Reg.ARM_PAR.HIGH, Reg.ARM_PAR.LOW, Reg.ARM_PTR.PTR, Reg.ARM_STATUS.ACTIVE, Reg.BB_CTRL.EN, Reg.BB_CTRL.IDLE_US, Reg.BB_CTRL.PAIR,
        Reg.BB_EVENT.EVENTS, Reg.BB_PARTNER.NODE, Reg.BB_PARTNER.RIGHTS, Reg.BB_STATUS.CLOCK, Reg.BB_STATUS.TX_IDLE, Reg.BB_STATUS.UP,
        Reg.CAN_CTRL.AUTO_RECOVER, Reg.CAN_CTRL.FD_EN, Reg.CAN_CTRL.MODE, Reg.CAN_DBT.DBRP, Reg.CAN_DBT.DSJW, Reg.CAN_DBT.DTSEG1,
        Reg.CAN_DBT.DTSEG2, Reg.CAN_DBT.TDCO, Reg.CAN_DBT.TDC_EN, Reg.CAN_MATRIX.COLS, Reg.CAN_MATRIX.LOG2_CYCLE,
        Reg.CAN_MATRIX.LOG2_ROWS, Reg.CAN_NBT.NBRP, Reg.CAN_NBT.NSJW, Reg.CAN_NBT.NTSEG1, Reg.CAN_NBT.NTSEG2, Reg.CAN_STATUS.STATE,
        Reg.CAN_TXQ.FILL, Reg.CELL_PENDING_FIRST.CELL, Reg.CELL_PLACE.ARM, Reg.CELL_PLACE.CHAIN, Reg.CELL_PLACE.CLASS,
        Reg.CELL_PLACE.END, Reg.CELL_PLACE.POS, Reg.CELL_PLACE.REACHABLE, Reg.CELL_STATE.CALL_QUEUED, Reg.CELL_STATE.CONFIRMED,
        Reg.CELL_STATE.NO_REPLY, Reg.CELL_STATE.REASON, Reg.CELL_STATE.STATE, Reg.CELL_SUMMARY0.BYPASSED, Reg.CELL_SUMMARY0.SERVICE,
        Reg.CELL_SUMMARY1.OUT, Reg.CELL_SUMMARY1.PENDING, Reg.CELL_SUMMARY2.ABSENT, Reg.CELL_SUMMARY2.REJECTED,
        Reg.CELL_UNROSTERED_HI.CHAINS, Reg.CELL_UNROSTERED_LO.CHAINS, Reg.CONV_MF_OMEGA.OMEGA_MF, Reg.CONV_STATE.ARMS,
        Reg.CONV_STATE.KIND, Reg.CONV_STATE.STATE, Reg.DOMAIN_STATE.PLANE_A, Reg.DOMAIN_STATE.PLANE_B, Reg.DRV_CARRIER.TOP,
        Reg.DRV_CARRIER_ACT.TOP, Reg.DRV_CHOP_CFG.MODE, Reg.DRV_CHOP_CFG.SIDE, Reg.DRV_CHOP_CFG.TIME, Reg.DRV_CHOP_PERIOD.PERIOD,
        Reg.DRV_CTRL.MODE, Reg.DRV_EVENT.LOAD_DONE, Reg.DRV_EVENT.LOAD_ERR, Reg.DRV_GATE.CH_SNK, Reg.DRV_GATE.CH_SOFT,
        Reg.DRV_GATE.CH_SRC, Reg.DRV_GATE.SNK, Reg.DRV_GATE.SOFT, Reg.DRV_GATE.SRC, Reg.DRV_GATE.TEMP_COMP, Reg.DRV_LEG_CFG.DEADTIME,
        Reg.DRV_LEG_CFG.MODE, Reg.DRV_LEG_COUNT.FULL_ON, Reg.DRV_LEG_COUNT.SUPPRESSED, Reg.DRV_LEG_DUTY.CMP, Reg.DRV_LEG_STATUS.CMP_ACT,
        Reg.DRV_LEG_STATUS.DESAT_HS, Reg.DRV_LEG_STATUS.DESAT_LS, Reg.DRV_LEG_STATUS.GATES_OFF, Reg.DRV_LEG_STATUS.INSTANT,
        Reg.DRV_LEG_STATUS.MODE_ACT, Reg.DRV_LEG_STATUS.VB_UV, Reg.DRV_LOADALL.UNITS, Reg.DRV_LOAD_STATUS.DONE, Reg.DRV_LOAD_STATUS.ERR,
        Reg.DRV_PROT.BLANK, Reg.DRV_PROT.MIN_PULSE, Reg.DRV_STATUS.LEG_FAULT, Reg.DRV_STATUS.LOAD_PENDING, Reg.ENG_BANK.ACTIVE,
        Reg.ENG_BANK.ENTRIES, Reg.ENG_COST.STATIC, Reg.ENG_COST.SUM, Reg.ENG_EXPORT.VALUE, Reg.ENG_PARAM.VALUE, Reg.ENG_SIZE.EXPORTS,
        Reg.ENG_SIZE.STATE_WORDS, Reg.ENG_STATUS.BALL, Reg.ENG_STATUS.BLOCKS, Reg.ENG_STATUS.COLD, Reg.ENG_STATUS.LOADED,
        Reg.ENG_STATUS.QUIET, Reg.ENG_STATUS.SHADOW, Reg.ETH_CTRL.AN_EN, Reg.ETH_CTRL.MODE, Reg.ETH_LAT.RX, Reg.ETH_LAT.TX,
        Reg.ETH_MAC_HI.MAC, Reg.ETH_MAC_LO.MAC, Reg.FAULT_QUIET.QUIET_MS, Reg.FRAME_PERIOD.PERIOD, Reg.FRAME_PHASE0.APPLY,
        Reg.FRAME_PHASE0.SAMPLE, Reg.FRAME_PHASE1.COMPUTE_END, Reg.FRAME_PHASE1.FREEZE, Reg.FRAME_PHASE2.RANK_END,
        Reg.FRAME_STATUS.RUNNING, Reg.IMAGE_ERR_OFFSET.OFFSET, Reg.IMAGE_ERR_SECTION.INDEX, Reg.IMAGE_ERR_SECTION.TYPE,
        Reg.IMAGE_EVENT.DONE, Reg.IMAGE_EVENT.SPARE_LOW, Reg.IMAGE_ID_HI.ID, Reg.IMAGE_ID_LO.ID, Reg.IMAGE_INFO.VERSION,
        Reg.IMAGE_KEY.EPOCH_IMAGE, Reg.IMAGE_KEY.SLOT_USED, Reg.IMAGE_PRIMARY_CODE.CODE, Reg.IMAGE_SIZE.SIZE, Reg.IMAGE_SLICE_FAIL.FAIL,
        Reg.IMAGE_STATUS.CODE, Reg.IMAGE_STATUS.SOURCE, Reg.IMAGE_STATUS.STATE, Reg.LANE_BUDGET.COMPLETION, Reg.LANE_BUDGET.DELIVERY,
        Reg.LANE_CHAIN.CELLS, Reg.LANE_CHAIN.GAP, Reg.LANE_CHAIN.LOOPED, Reg.LANE_CHAIN.PHYS, Reg.LANE_CHAIN.SPLIT, Reg.LANE_DELAY.VALID,
        Reg.LANE_EVENT.CHAIN_LATE, Reg.LANE_SEGDOWN_HI.DOWN, Reg.LANE_SEGDOWN_LO.DOWN, Reg.LANE_STATUS.CHAIN_LATE,
        Reg.LANE_STATUS.FIRST_Q, Reg.LANE_STATUS.SERVED, Reg.LANE_STATUS.STATE, Reg.LANE_UPBASE.U, Reg.MOT_ADV.ANGLE, Reg.MOT_ADV.SPEED,
        Reg.MOT_CURVE.USED, Reg.MOT_CURVE.X, Reg.MOT_CURVE.Y, Reg.MOT_EVENT.OBS_LOST, Reg.MOT_EVENT.STATE, Reg.MOT_STATE.CURVE_ON,
        Reg.MOT_STATE.PRIV, Reg.MOT_STATE.SRC, Reg.MOT_STATE.STATE, Reg.PLAN_BG_ORDER.ORDER, Reg.PLAN_CAPACITY.ENG_CAP,
        Reg.PLAN_CAPACITY.FAB_CAP, Reg.PLAN_FORECAST.ENG_NEED, Reg.PLAN_FORECAST.FAB_NEED, Reg.PLAN_LEVEL.CURRENT, Reg.PLAN_LEVEL.LIMIT,
        Reg.PLAN_LEVEL.STATIC, Reg.PLAN_POWER.BUDGET, Reg.PLAN_THERMAL.MARGIN, Reg.POWER_PGOOD.PGOOD, Reg.POWER_STATE.STATE,
        Reg.REF_CKPT.NEWEST, Reg.REF_CKPT.VALID0, Reg.REF_CKPT.VALID1, Reg.REF_CKPT_SEQ.SEQ, Reg.REF_EVENT.UNFIT, Reg.REF_PAIR.ENABLED,
        Reg.REF_STATUS.ROLE_A, Reg.REF_STATUS.ROLE_B, Reg.ROLE_COUNT.ARM_SLICES, Reg.ROLE_COUNT.LANE_SLICES, Reg.ROLE_COUNT.MIRROR,
        Reg.ROLE_COUNT.RECORDER, Reg.ROLE_COUNT.SPARE, Reg.ROLE_COUNT.UNASSIGNED, Reg.SAFE_FIRE.DRV_A, Reg.SAFE_FIRE.DRV_B,
        Reg.SAFE_FIRE.FIRE_A, Reg.SAFE_FIRE.FIRE_B, Reg.SAFE_GROUP.CAUSE, Reg.SAFE_GROUP.KIND, Reg.SAFE_GROUP.PAIRS,
        Reg.SAFE_GROUP.STATE, Reg.SAFE_GROUP.STOP, Reg.SAFE_PAIR.CH_A, Reg.SAFE_PAIR.CH_B, Reg.SAFE_PAIR.DEMAND, Reg.SAFE_PAIR.DEMANDS,
        Reg.SAFE_PAIR.FAULT_CAUSE, Reg.SAFE_PAIR.PAIR_FAULT, Reg.SAFE_RESET_STATUS.ARMED, Reg.SAFE_STATUS.A_OK, Reg.SAFE_STATUS.B_OK,
        Reg.SAFE_STATUS.DEMAND, Reg.SAFE_STATUS.DIAG, Reg.SAFE_STATUS.DIAG_A, Reg.SAFE_STATUS.DIAG_B, Reg.SAFE_STATUS.DIAG_CAUSE,
        Reg.SAFE_STATUS.LOCKED, Reg.SAFE_STATUS.RESET_PIN, Reg.SAFE_TPO.EN, Reg.SAFE_TPO.READBACK_FAULT, Reg.SLICE_ROLE.ROLE,
        Reg.SLICE_ROLE.STATE, Reg.SLICE_ROLE.TARGET, Reg.TIME_CTRL.SERVO, Reg.TIME_EVENT.EVENTS, Reg.TIME_FRAME_ALIGN.OFFSET,
        Reg.TIME_FRAME_ALIGN.SLEW, Reg.TIME_PPS_CFG.EDGE, Reg.TIME_PPS_CFG.KI, Reg.TIME_PPS_CFG.KP, Reg.TIME_PPS_CFG.LOCK_NS,
        Reg.TIME_PPS_OFFSET.VALUE, Reg.TIME_STATUS.SYNC, Reg.TS_CALL.Q_EVEN, Reg.TS_CALL.Q_ODD, Reg.TS_CALL.REPLIES, Reg.TS_CALL.RESULT,
        Reg.TS_CALL.VALID_EVEN, Reg.TS_CALL.VALID_ODD, Reg.TS_CALL_FRAME.FRAME, Reg.TS_FOUND_HI.IDENTITY, Reg.TS_FOUND_LO.IDENTITY,
        Reg.TS_INFO.BYPASS_FITTED, Reg.TS_INFO.CLASS, Reg.TS_INFO.FIRMWARE, Reg.TS_RECORDED_HI.IDENTITY, Reg.TS_RECORDED_LO.IDENTITY])) s
        n) ∧
  (∀ (s : State) (x t k : Nat) (ok : Bool) (l : List (Fin 128)) (c : Cfg), s.toCommit = some c → s.power.dormantExit = false →
    s.load.sources = [] → s.host.delivery = none →
    (k = 0x40A ∧ moveRoles c.slices (s.commitBad c (l.map (·.val))) (c.goodSpares (s.commitBad c (l.map (·.val)))) = none ∨
      k = 0x601 ∧ ok = false ∧ (moveRoles c.slices (s.commitBad c (l.map (·.val))) (c.goodSpares (s.commitBad c (l.map (·.val))))).isSome) →
    ∃ n, exec (.imageCommit l ok x t) s = .next n ∧ n.rd Reg.IMAGE_STATUS.STATE = 6 ∧ n.rd Reg.IMAGE_STATUS.CODE = k ∧ n.cfg = s.cfg ∧
      n.ticking = false) ∧
  (∀ (s : State) (x t : Nat) (ok : Bool) (l : List (Fin 128)), s.toCommit = none →
    ∃ n, exec (.imageCommit l ok x t) s = .next n ∧ Effect [.time, .host, .fr, .out] (some (movesTime ++ movesIrq)) s n) ∧
  (∀ (s : State) (t : Nat), s.inKickOff = true → s.cfg.loaded = true → 1000 ≤ s.fr.ticks →
    ∃ n, exec (.laneUpTimeout t) s = .next n ∧ (∀ k ∈ s.lanesDown, s.rd Reg.LANE_STATUS.SYNC k = 0 → (n.lane k).lost = true) ∧
      (∀ k, (k ∉ s.lanesDown ∨ s.rd Reg.LANE_STATUS.SYNC k ≠ 0) → n.lane k = s.lane k) ∧
      Effect [.time, .host, .fr, .lanes, .out] (some (movesTime ++ movesIrq ++ [Reg.LANE_EVENT.LOST, Reg.LANE_STATUS.STATE])) s n) ∧
  (∀ (s : State) (t : Nat), (s.inKickOff = false ∨ s.cfg.loaded = false ∨ s.fr.ticks < 1000) →
    ∃ n, exec (.laneUpTimeout t) s = .next n ∧ Effect [.time, .host, .fr, .out] (some (movesTime ++ movesIrq)) s n) ∧
  (∀ (s : State) (t : Nat), s.inKickOff = true → s.cfg.loaded = true → s.power.step = 10 → (s.lanesDown = [] ∨ 1000 ≤ s.fr.ticks) →
    s.referee.broken = false → s.refState = rsSetup → s.role 0 = roWaking →
    ∃ n, exec (.kickoffGrant t) s = .next n ∧ n.device = stRun ∧ n.power.step = 0 ∧ n.power.dormantExit = false ∧ n.referee.ball = true ∧
      n.holder = 0 ∧ n.refState = rsHeld ∧ n.role 0 = roActive ∧ n.rd Reg.REF_STATUS.LEASE = s.cfg.limits.lease % 32 ∧
      n.safety.announced = false ∧
      Effect [.time, .power, .faults, .host, .fr, .lanes, .chains, .cells, .arms, .engs, .convs, .referee, .safety, .out] (some
        (movesTime ++ movesIrq ++ movesFault ++ [Reg.ARM_PTR.PTR, Reg.CONV_COUNT.BLOCKS, Reg.CONV_EVENT.BLOCK,
        Reg.CONV_EVENT.COAST_LIMIT, Reg.CONV_EVENT.RESYNC_FAIL, Reg.CONV_EVENT_SRC.CONV, Reg.CONV_RESIDUAL.E, Reg.CONV_STATE.CAUSE,
        Reg.CONV_STATE.SLEWING, Reg.CONV_STATE.STATE, Reg.CONV_STATE_FRAME.FRAME, Reg.DOMAIN_STATE.PLANE_A, Reg.DOMAIN_STATE.PLANE_B,
        Reg.ENG_EXPORT.VALUE, Reg.ENG_STATUS.BALL, Reg.ENG_STATUS.COLD, Reg.ENG_STATUS.SHADOW, Reg.LANE_STATUS.STATE,
        Reg.PLAN_FORECAST.ENG_NEED, Reg.PLAN_FORECAST.FAB_NEED, Reg.PLAN_LEVEL.STATIC, Reg.POWER_PGOOD.PGOOD, Reg.POWER_STATE.STATE,
        Reg.REF_EVENT.UNFIT, Reg.REF_STATUS.HOLDER, Reg.REF_STATUS.LEASE, Reg.REF_STATUS.ROLE_A, Reg.REF_STATUS.ROLE_B,
        Reg.REF_STATUS.STATE, Reg.SAFE_FIRE.DRV_A, Reg.SAFE_FIRE.DRV_B, Reg.SAFE_FIRE.FIRE_A, Reg.SAFE_FIRE.FIRE_B, Reg.SAFE_GROUP.CAUSE,
        Reg.SAFE_GROUP.KIND, Reg.SAFE_GROUP.PAIRS, Reg.SAFE_GROUP.STATE, Reg.SAFE_GROUP.STOP, Reg.SAFE_PAIR.CH_A, Reg.SAFE_PAIR.CH_B,
        Reg.SAFE_PAIR.DEMAND, Reg.SAFE_PAIR.DEMANDS, Reg.SAFE_PAIR.FAULT_CAUSE, Reg.SAFE_PAIR.PAIR_FAULT, Reg.SAFE_RESET_STATUS.ARMED,
        Reg.SAFE_STATUS.A_OK, Reg.SAFE_STATUS.B_OK, Reg.SAFE_STATUS.DEMAND, Reg.SAFE_STATUS.DIAG, Reg.SAFE_STATUS.DIAG_A,
        Reg.SAFE_STATUS.DIAG_B, Reg.SAFE_STATUS.DIAG_CAUSE, Reg.SAFE_STATUS.LOCKED, Reg.SAFE_STATUS.RESET_PIN, Reg.SAFE_TPO.EN,
        Reg.SAFE_TPO.READBACK_FAULT])) s n) ∧
  (∀ (s : State) (t : Nat), (s.inKickOff = false ∨ s.cfg.loaded = false ∨ s.power.step ≠ 10 ∨ (s.lanesDown ≠ [] ∧ s.fr.ticks < 1000)) →
    ∃ n, exec (.kickoffGrant t) s = .next n ∧ Effect [.time, .host, .fr, .out] (some (movesTime ++ movesIrq)) s n)

/-- Key fuses (R79): in KICK-OFF before an image is accepted, with the unlock word and no operation under way, a program operation starts
on an empty slot, with the hash in KEY_DATA, and a revoke operation on a slot that is not the last unrevoked one; in RUN an epoch burn
starts where the image's epoch is higher. What is done at the end raises a slot, a revoke bit or the epoch; a failed operation leaves the
fuses. -/
def Obligations.KeyFusesChangeOnlyByTheirOperations : Prop :=
  (∀ (s : State) (k : Fin 4) (t : Nat), s.power.held = false → s.load.fuse = none → s.device = stKickOff → s.load.accepted = false →
    ∃ n, exec (.keyProgram k 0xA5C3 t) s = .next n ∧
      n.load.fuse = (if (s.fuses.slot k.val).hash.isSome then none else some (.program k.val s.keyData)) ∧
      n.rd Reg.KEY_STATUS.BUSY = (if (s.fuses.slot k.val).hash.isSome then s.rd Reg.KEY_STATUS.BUSY else 1) ∧
      n.rd Reg.KEY_STATUS.RESULT = (if (s.fuses.slot k.val).hash.isSome then 1 else s.rd Reg.KEY_STATUS.RESULT) ∧ n.fuses = s.fuses ∧
      Effect [.time, .host, .load, .fr, .out] (some (movesTime ++ movesIrq ++ [Reg.KEY_STATUS.BUSY, Reg.KEY_STATUS.RESULT])) s n) ∧
  (∀ (s : State) (k : Fin 4) (t : Nat), s.power.held = false → s.load.fuse = none → s.device = stKickOff → s.load.accepted = false →
    ∃ n, exec (.keyRevoke k 0xA5C3 t) s = .next n ∧ n.fuses = s.fuses ∧
      n.load.fuse = (if (upTo 4).any (fun j => j != k.val && !(s.fuses.slot j).revoked) then some (.revoke k.val) else none) ∧
      ((∀ j, j < 4 → j ≠ k.val → (s.fuses.slot j).revoked = true) → n.rd Reg.KEY_STATUS.RESULT = 2) ∧
      Effect [.time, .host, .load, .fr, .out] (some (movesTime ++ movesIrq ++ [Reg.KEY_STATUS.BUSY, Reg.KEY_STATUS.RESULT])) s n) ∧
  (∀ (s : State) (k : Fin 4) (u t : Nat) (c : Instr), c ∈ [Instr.keyProgram k u t, Instr.keyRevoke k u t] →
    (u ≠ 0xA5C3 ∨ s.power.held = true ∨ s.load.fuse.isSome = true ∨ s.device ≠ stKickOff ∨ s.load.accepted = true) →
    ∃ n, exec c s = .next n ∧ n.fuses = s.fuses ∧ n.load = s.load) ∧
  (∀ (s : State) (t : Nat), s.device = stRun → s.load.fuse = none → s.fuses.epoch < s.cfg.epoch →
    ∃ n, exec (.epochBurn t) s = .next n ∧ n.load.fuse = some (.burn s.cfg.epoch) ∧ n.rd Reg.KEY_STATUS.BUSY = 1 ∧ n.fuses = s.fuses ∧
      Effect [.time, .host, .load, .fr, .out] (some (movesTime ++ movesIrq ++ [Reg.KEY_STATUS.BUSY, Reg.KEY_STATUS.RESULT])) s n) ∧
  (∀ (s : State) (t : Nat), (s.device ≠ stRun ∨ s.cfg.epoch ≤ s.fuses.epoch) →
    ∃ n, exec (.epochBurn t) s = .next n ∧ n.load = s.load ∧ n.fuses = s.fuses) ∧
  (∀ (s : State) (t : Nat) (o : FuseOp) (ok : Bool), s.load.fuse = some o →
    ∃ n, exec (.fuseOpDone ok t) s = .next n ∧ n.load.fuse = none ∧ n.rd Reg.KEY_STATUS.BUSY = 0 ∧
      n.rd Reg.KEY_STATUS.RESULT = (if ok then 0 else 4) ∧ n.fuses = (if ok then s.fuses.apply o else s.fuses) ∧
      (∀ e, o = .burn e → ok = true → n.fuses.epoch = max s.fuses.epoch e) ∧
      (∀ k h, k < 4 → o = .program k h → ok = true → (s.fuses.slot k).hash = none → (n.fuses.slot k).hash = some h) ∧
      (∀ k, k < 4 → o = .revoke k → ok = true → (n.fuses.slot k).revoked = true) ∧
      Effect [.fuses, .time, .host, .load, .fr, .out] (some (movesTime ++ movesIrq ++ [Reg.KEY_STATUS.BUSY, Reg.KEY_STATUS.RESULT])) s n) ∧
  (∀ (s : State) (t : Nat) (ok : Bool), s.load.fuse = none →
    ∃ n, exec (.fuseOpDone ok t) s = .next n ∧ Effect [.time, .host, .fr, .out] (some (movesTime ++ movesIrq)) s n)

/-- Uplink slots (R47, R98, R102): the first good slot of the frame from the lane end that serves its position completes the entry; one
that comes after T_FREEZE counts late, one of another frame counts old, a second one counts as a duplicate, and one at an end that does
not serve the position counts as misplaced. A bad CRC-16 counts and marks the entry. A train's CRC-32 only counts. -/
def Obligations.UplinkSlotsCompleteEntriesOrCount : Prop :=
  (∀ (s : State) (lane : Fin 96) (ns : Nat) (b : List Byte) (cc : ChainCfg), s.chainCfg (lane.val / 2) = some cc → s.ticking = true →
    s.laneHears lane.val = true → crc16 (slice b 1 29) = u16At b 30 → s.frameServing cc (u8At b 1) = some lane.val →
    s.fr.phase = .open → ns ≤ s.tFreeze → u16At b 2 = s.frameNo % 65536 → (s.cell (cc.base + u8At b 1)).done = false →
    ∃ n, exec (.uplinkSlot lane ns b) s = .next n ∧
      n.cell (cc.base + u8At b 1) = { s.cell (cc.base + u8At b 1) with done := true, arrive := ns, slot := b } ∧
      (∀ k, k ≠ cc.base + u8At b 1 → n.cell k = s.cell k) ∧
      Effect [.time, .host, .fr, .out, .cells] (some (movesTime ++ movesIrq)) s n) ∧
  (∀ (s : State) (lane : Fin 96) (ns : Nat) (b : List Byte) (cc : ChainCfg), s.chainCfg (lane.val / 2) = some cc → s.ticking = true →
    s.laneHears lane.val = true → crc16 (slice b 1 29) = u16At b 30 → s.frameServing cc (u8At b 1) = some lane.val →
    (s.fr.phase ≠ .open ∨ s.tFreeze < ns) →
    ∃ n, exec (.uplinkSlot lane ns b) s = .next n ∧ n.cells = s.cells ∧
      n.fr = (s.elapse (s.tickNs + s.time.behind + ns)).fr ∧
      n.rd Reg.STALE_COUNT.LATE = min 65535 (s.rd Reg.STALE_COUNT.LATE + 1) ∧
      n.rd Reg.LANE_LATE.SLOTS lane.val = min 65535 (s.rd Reg.LANE_LATE.SLOTS lane.val + 1) ∧ n.rd Reg.LANE_STATUS.CHAIN_LATE lane.val ≠ 0 ∧
      (s.rd Reg.LANE_STATUS.CHAIN_LATE lane.val = 0 →
        n.rd Reg.LANE_LATE.FRAMES lane.val = min 65535 (s.rd Reg.LANE_LATE.FRAMES lane.val + 1) ∧ n.rd Reg.LANE_EVENT.CHAIN_LATE lane.val = 1 ∧
        (s.mayRaise = true → raises (s.elapse (s.tickNs + s.time.behind + ns)) n 15 lane.val)) ∧
      Effect [.time, .faults, .host, .fr, .lanes, .cells, .out] (some (movesTime ++ movesIrq ++ movesFault ++ [Reg.DUP_COUNT.DUP,
        Reg.DUP_COUNT.OLD, Reg.LANE_CODE_ERR.POS, Reg.LANE_CRC32_ERR.SLOT, Reg.LANE_EVENT.CHAIN_LATE, Reg.LANE_LATE.FRAMES,
        Reg.LANE_LATE.SLOTS, Reg.LANE_STATUS.CHAIN_LATE, Reg.STALE_COUNT.LATE])) s n) ∧
  (∀ (s : State) (lane : Fin 96) (ns : Nat) (b : List Byte) (cc : ChainCfg), s.chainCfg (lane.val / 2) = some cc → s.ticking = true →
    s.laneHears lane.val = true → crc16 (slice b 1 29) = u16At b 30 → s.frameServing cc (u8At b 1) = some lane.val →
    s.fr.phase = .open → ns ≤ s.tFreeze → u16At b 2 ≠ s.frameNo % 65536 →
    ∃ n, exec (.uplinkSlot lane ns b) s = .next n ∧ n.rd Reg.DUP_COUNT.OLD = min 65535 (s.rd Reg.DUP_COUNT.OLD + 1) ∧
      Effect [.time, .host, .fr, .out] (some (movesTime ++ movesIrq ++ [Reg.DUP_COUNT.OLD])) s n) ∧
  (∀ (s : State) (lane : Fin 96) (ns : Nat) (b : List Byte) (cc : ChainCfg), s.chainCfg (lane.val / 2) = some cc → s.ticking = true →
    s.laneHears lane.val = true → crc16 (slice b 1 29) = u16At b 30 → s.frameServing cc (u8At b 1) = some lane.val →
    s.fr.phase = .open → ns ≤ s.tFreeze → u16At b 2 = s.frameNo % 65536 → (s.cell (cc.base + u8At b 1)).done = true →
    ∃ n, exec (.uplinkSlot lane ns b) s = .next n ∧ n.rd Reg.DUP_COUNT.DUP = min 65535 (s.rd Reg.DUP_COUNT.DUP + 1) ∧
      n.fr = { (s.elapse (s.tickNs + s.time.behind + ns)).fr with dup := s.fr.dup + 1 } ∧
      Effect [.time, .host, .out, .fr] (some (movesTime ++ movesIrq ++ [Reg.DUP_COUNT.DUP])) s n) ∧
  (∀ (s : State) (lane : Fin 96) (ns : Nat) (b : List Byte) (cc : ChainCfg), s.chainCfg (lane.val / 2) = some cc → s.ticking = true →
    s.laneHears lane.val = true → crc16 (slice b 1 29) = u16At b 30 → s.frameServing cc (u8At b 1) ≠ some lane.val →
    ∃ n, exec (.uplinkSlot lane ns b) s = .next n ∧
      n.rd Reg.LANE_CODE_ERR.POS lane.val = min 255 (s.rd Reg.LANE_CODE_ERR.POS lane.val + 1) ∧
      keepsOthers Reg.LANE_CODE_ERR.POS lane.val s n ∧
      Effect [.time, .host, .fr, .out] (some (movesTime ++ movesIrq ++ [Reg.LANE_CODE_ERR.POS])) s n) ∧
  (∀ (s : State) (lane : Fin 96) (ns : Nat) (b : List Byte) (cc : ChainCfg), s.chainCfg (lane.val / 2) = some cc → s.ticking = true →
    s.laneHears lane.val = true → crc16 (slice b 1 29) ≠ u16At b 30 →
    ∃ n, exec (.uplinkSlot lane ns b) s = .next n ∧
      n.rd Reg.LANE_CRC32_ERR.SLOT lane.val = min 65535 (s.rd Reg.LANE_CRC32_ERR.SLOT lane.val + 1) ∧
      n.cell (cc.base + u8At b 1) = (if s.frameServing cc (u8At b 1) = some lane.val ∧ s.fr.phase = .open ∧ ns ≤ s.tFreeze then
        { s.cell (cc.base + u8At b 1) with crcBad := true } else s.cell (cc.base + u8At b 1)) ∧
      (∀ k, k ≠ cc.base + u8At b 1 → n.cell k = s.cell k) ∧
      Effect [.time, .host, .fr, .out, .cells] (some (movesTime ++ movesIrq ++ [Reg.LANE_CRC32_ERR.SLOT])) s n) ∧
  (∀ (s : State) (lane : Fin 96) (ns : Nat) (b : List Byte), (s.chainCfg (lane.val / 2) = none ∨ s.ticking = false ∨ s.laneHears lane.val = false) →
    ∃ n, exec (.uplinkSlot lane ns b) s = .next n ∧ Effect [.time, .host, .fr, .out] (some (movesTime ++ movesIrq)) s n) ∧
  (∀ (s : State) (lane : Fin 96) (b : List Byte) (crc : Nat),
    ∃ n, exec (.uplinkTrainCrc lane b crc) s = .next n ∧
      (s.laneHears lane.val = true → crc ≠ crc32 b →
        n.rd Reg.LANE_CRC32_ERR.TRAIN lane.val = min 65535 (s.rd Reg.LANE_CRC32_ERR.TRAIN lane.val + 1)) ∧
      ((s.laneHears lane.val = false ∨ crc = crc32 b) → n.rd Reg.LANE_CRC32_ERR.TRAIN lane.val = s.rd Reg.LANE_CRC32_ERR.TRAIN lane.val) ∧
      keepsOthers Reg.LANE_CRC32_ERR.TRAIN lane.val s n ∧
      Effect [.host, .out] (some (movesIrq ++ [Reg.LANE_CRC32_ERR.TRAIN])) s n)

/-- Calls (R107, R108, R109, R116, R117): a good reply gives its end position's delay from the round trip, and a declared position's
identity to the team sheet; a train that returns on the other lane gives the loop delay and the number of nodes; after T_FREEZE a chain
sends its oldest waiting identity call, else the next position of a sweep. -/
def Obligations.CallsMeasureDelaysAndIdentities : Prop :=
  (∀ (s : State) (lane : Fin 96) (rt t : Nat) (b : List Byte) (cc : ChainCfg) (k : Call), s.chainCfg (lane.val / 2) = some cc →
    (s.chain (lane.val / 2)).call = some k → s.laneHears lane.val = true → k.lane = lane.val →
    (k.target = none ∨ k.target = some (u8At b 5)) → crc16 (slice b 1 29) = u16At b 30 →
    u8At b 1 < cc.cells → cc.base + u8At b 1 < 1536 →
    ∃ n, exec (.callupReply lane rt b t) s = .next n ∧
      (u8At b 5 < 32 → n.rd Reg.LANE_DELAY.D lane.val (u8At b 5) =
        (rt - (if k.target = none then 400 + 160 * u8At b 5 else 400)) / 2 % 65536 ∧ n.rd Reg.LANE_DELAY.VALID lane.val (u8At b 5) = 1) ∧
      n.rd64 Reg.TS_FOUND_LO.IDENTITY Reg.TS_FOUND_HI.IDENTITY (cc.base + u8At b 1) = u64At b 8 ∧
      n.rd Reg.TS_INFO.CLASS (cc.base + u8At b 1) = u8At b 4 % 4 ∧ n.rd Reg.TS_INFO.FIRMWARE (cc.base + u8At b 1) = u16At b 6 ∧
      n.rd Reg.TS_CALL.REPLIES (cc.base + u8At b 1) = min 255 (s.rd Reg.TS_CALL.REPLIES (cc.base + u8At b 1) + 1) ∧
      n.rd Reg.TS_CALL_FRAME.FRAME (cc.base + u8At b 1) = s.frameNo % 4294967296 ∧ n.rd Reg.CELL_STATE.NO_REPLY (cc.base + u8At b 1) = 0 ∧
      (∃ r, (n.cell (cc.base + u8At b 1)).replies = (s.cell (cc.base + u8At b 1)).replies ++ [r] ∧ r.ident = u64At b 8 ∧ r.cls = u8At b 4) ∧
      (n.cell (cc.base + u8At b 1)).called = true ∧ (∀ i, i ≠ cc.base + u8At b 1 → n.cell i = s.cell i) ∧
      (n.chain (lane.val / 2)).call = some { k with answered := true, got := setBit k.got (u8At b 5) } ∧
      Effect [.time, .faults, .host, .fr, .lanes, .chains, .cells, .out] (some (movesTime ++ movesIrq ++ movesFault ++
        [Reg.CELL_EVENT.UNROSTERED, Reg.CELL_STATE.CALL_QUEUED, Reg.CELL_STATE.NO_REPLY, Reg.CELL_UNROSTERED_HI.CHAINS,
        Reg.CELL_UNROSTERED_LO.CHAINS, Reg.LANE_BUDGET.COMPLETION, Reg.LANE_BUDGET.DELIVERY, Reg.LANE_DELAY.D, Reg.LANE_DELAY.VALID,
        Reg.LANE_EVENT.CHAIN_LATE, Reg.LANE_EVENT.READY, Reg.LANE_EVENT.UNROSTERED, Reg.LANE_STATUS.CHAIN_LATE, Reg.LANE_STATUS.FIRST_Q,
        Reg.LANE_STATUS.SERVED, Reg.LANE_STATUS.STATE, Reg.LANE_UPBASE.U, Reg.TS_CALL.Q_EVEN, Reg.TS_CALL.Q_ODD, Reg.TS_CALL.REPLIES,
        Reg.TS_CALL.VALID_EVEN, Reg.TS_CALL.VALID_ODD, Reg.TS_CALL_FRAME.FRAME, Reg.TS_FOUND_HI.IDENTITY, Reg.TS_FOUND_LO.IDENTITY,
        Reg.TS_INFO.BYPASS_FITTED, Reg.TS_INFO.CLASS, Reg.TS_INFO.FIRMWARE])) s n) ∧
  (∀ (s : State) (lane : Fin 96) (rt t : Nat) (b : List Byte) (cc : ChainCfg) (k : Call), s.chainCfg (lane.val / 2) = some cc →
    (s.chain (lane.val / 2)).call = some k → s.laneHears lane.val = true → k.lane = lane.val → k.target = none →
    crc16 (slice b 1 29) = u16At b 30 → cc.cells ≤ u8At b 1 → (s.chain (lane.val / 2)).extra = false →
    ∃ n, exec (.callupReply lane rt b t) s = .next n ∧ n.cells = s.cells ∧ (n.chain (lane.val / 2)).extra = true ∧
      n.rd Reg.CELL_EVENT.UNROSTERED = 1 ∧ n.rd Reg.LANE_EVENT.UNROSTERED (2 * (lane.val / 2)) = 1) ∧
  (∀ (s : State) (lane : Fin 96) (rt t : Nat) (b : List Byte), (s.chainCfg (lane.val / 2) = none ∨ (s.chain (lane.val / 2)).call = none ∨
      s.laneHears lane.val = false ∨ crc16 (slice b 1 29) ≠ u16At b 30 ∨
      ∃ k, (s.chain (lane.val / 2)).call = some k ∧ (k.lane ≠ lane.val ∨ ∃ q, k.target = some q ∧ q ≠ u8At b 5)) →
    ∃ n, exec (.callupReply lane rt b t) s = .next n ∧ Effect [.time, .host, .fr, .out] (some (movesTime ++ movesIrq)) s n) ∧
  (∀ (s : State) (lane : Fin 96) (loop hop t : Nat) (cc : ChainCfg) (k : Call), s.chainCfg (lane.val / 2) = some cc →
    (s.chain (lane.val / 2)).call = some k → s.laneHears lane.val = true → k.lane ≠ lane.val → k.target = none →
    ∃ n, exec (.callupLoop lane loop hop t) s = .next n ∧ n.rd Reg.LANE_LOOP.LOOP_NS (2 * (lane.val / 2)) = loop % 65536 ∧
      n.rd Reg.LANE_CHAIN.PHYS (2 * (lane.val / 2)) = hop % 64 ∧
      n.rd Reg.LANE_CHAIN.LOOPED (2 * (lane.val / 2)) = (if k.lane % 2 = 0 then 1 else s.rd Reg.LANE_CHAIN.LOOPED (2 * (lane.val / 2))) ∧
      (cc.cells < hop → (s.chain (lane.val / 2)).extra = false →
        (n.chain (lane.val / 2)).extra = true ∧ n.rd Reg.CELL_EVENT.UNROSTERED = 1 ∧ n.rd Reg.LANE_EVENT.UNROSTERED (2 * (lane.val / 2)) = 1) ∧
      (hop ≤ cc.cells → n.chains = s.chains) ∧
      Effect [.time, .faults, .host, .fr, .lanes, .chains, .out] (some (movesTime ++ movesIrq ++ movesFault ++
        [Reg.CELL_EVENT.UNROSTERED, Reg.CELL_UNROSTERED_HI.CHAINS, Reg.CELL_UNROSTERED_LO.CHAINS, Reg.LANE_BUDGET.COMPLETION,
        Reg.LANE_BUDGET.DELIVERY, Reg.LANE_CHAIN.LOOPED, Reg.LANE_CHAIN.PHYS, Reg.LANE_EVENT.CHAIN_LATE, Reg.LANE_EVENT.UNROSTERED,
        Reg.LANE_LOOP.LOOP_NS, Reg.LANE_STATUS.CHAIN_LATE, Reg.LANE_STATUS.FIRST_Q, Reg.LANE_STATUS.SERVED, Reg.LANE_UPBASE.U])) s n) ∧
  (∀ (s : State) (lane : Fin 96) (loop hop t : Nat), (s.chainCfg (lane.val / 2) = none ∨ (s.chain (lane.val / 2)).call = none ∨
      s.laneHears lane.val = false) →
    ∃ n, exec (.callupLoop lane loop hop t) s = .next n ∧ Effect [.time, .host, .fr, .out] (some (movesTime ++ movesIrq)) s n) ∧
  (∀ (s : State) (c : Fin 48) (bad : Bool) (t : Nat) (cc : ChainCfg) (x : IdCall), s.pairMute = false → s.chainCfg c.val = some cc → s.device = stRun → s.fr.phase ≠ .open →
    s.fr.phase ≠ .stopped → (s.chain c.val).call = none → s.rd Reg.LANE_STATUS.CHAIN_LATE (2 * c.val) = 0 →
    s.rd Reg.LANE_STATUS.CHAIN_LATE (2 * c.val + 1) = 0 → (s.chain c.val).calls.find? (fun y => y.frame != s.frameNo) = some x →
    x.lane / 2 = c.val →
    ∃ n, exec (.callupLaunch ⟨c, bad⟩ t) s = .next n ∧
      (n.chain c.val).call = some ⟨x.lane, some (s.endPos x.lane x.h), s.callBase x.lane false, s.frameNo, true, false, 0⟩ ∧
      (n.chain c.val).calls = { x with frame := s.frameNo } :: (s.chain c.val).calls.filter (fun y => y != x) ∧
      (s.laneSends x.lane = true → s.out ++ [.call x.lane (s.callBytes x.lane (s.endPos x.lane x.h) (s.callBase x.lane false)
        (s.chainSafeBlock c.val != bad))] <+: n.out) ∧ n.lanes = s.lanes ∧
      (∀ k, k ≠ c.val → n.chain k = s.chain k) ∧
      Effect [.time, .faults, .host, .fr, .lanes, .chains, .convs, .safety, .out] (some (movesTime ++ movesIrq ++ movesFault ++
        [Reg.LANE_CHAIN.LOOPED, Reg.SAFE_EVENT.DEMAND, Reg.SAFE_EVENT.DIAG, Reg.SAFE_EVENT.REMOVED, Reg.SAFE_EVENT.RESET_REFUSED,
        Reg.SAFE_EVENT.STOPPING, Reg.SAFE_FIRE.DRV_A, Reg.SAFE_FIRE.DRV_B, Reg.SAFE_FIRE.FIRE_A, Reg.SAFE_FIRE.FIRE_B,
        Reg.SAFE_GROUP.CAUSE, Reg.SAFE_GROUP.KIND, Reg.SAFE_GROUP.PAIRS, Reg.SAFE_GROUP.STATE, Reg.SAFE_GROUP.STOP, Reg.SAFE_PAIR.CH_A,
        Reg.SAFE_PAIR.CH_B, Reg.SAFE_PAIR.DEMAND, Reg.SAFE_PAIR.DEMANDS, Reg.SAFE_PAIR.FAULT_CAUSE, Reg.SAFE_PAIR.PAIR_FAULT,
        Reg.SAFE_RESET_STATUS.ARMED, Reg.SAFE_RESET_STATUS.REFUSED, Reg.SAFE_RESET_STATUS.RELEASED, Reg.SAFE_STATUS.A_OK,
        Reg.SAFE_STATUS.B_OK, Reg.SAFE_STATUS.DEMAND, Reg.SAFE_STATUS.DIAG, Reg.SAFE_STATUS.DIAG_A, Reg.SAFE_STATUS.DIAG_B,
        Reg.SAFE_STATUS.DIAG_CAUSE, Reg.SAFE_STATUS.LOCKED, Reg.SAFE_STATUS.RESET_PIN, Reg.SAFE_TPO.EN, Reg.SAFE_TPO.READBACK_FAULT])) s
        n) ∧
  (∀ (s : State) (c : Fin 48) (bad : Bool) (t q : Nat) (cc : ChainCfg), s.pairMute = false → s.chainCfg c.val = some cc → s.device = stRun → s.fr.phase ≠ .open →
    s.fr.phase ≠ .stopped → (s.chain c.val).call = none → s.rd Reg.LANE_STATUS.CHAIN_LATE (2 * c.val) = 0 →
    s.rd Reg.LANE_STATUS.CHAIN_LATE (2 * c.val + 1) = 0 → (s.chain c.val).calls.find? (fun y => y.frame != s.frameNo) = none →
    (s.lane (2 * c.val)).sweep = some q → q < s.phys c.val →
    ∃ n, exec (.callupLaunch ⟨c, bad⟩ t) s = .next n ∧ (n.lane (2 * c.val)).sweep = some (q + 1) ∧
      (n.chain c.val).call = some ⟨2 * c.val, some q, 0, s.frameNo, false, false, 0⟩ ∧
      (s.laneSends (2 * c.val) = true →
        s.out ++ [.call (2 * c.val) (s.callBytes (2 * c.val) q 0 (s.chainSafeBlock c.val != bad))] <+: n.out) ∧
      (∀ k, k ≠ 2 * c.val → n.lane k = s.lane k) ∧
      Effect [.time, .faults, .host, .fr, .lanes, .chains, .convs, .safety, .out] (some (movesTime ++ movesIrq ++ movesFault ++
        [Reg.LANE_CHAIN.LOOPED, Reg.SAFE_EVENT.DEMAND, Reg.SAFE_EVENT.DIAG, Reg.SAFE_EVENT.REMOVED, Reg.SAFE_EVENT.RESET_REFUSED,
        Reg.SAFE_EVENT.STOPPING, Reg.SAFE_FIRE.DRV_A, Reg.SAFE_FIRE.DRV_B, Reg.SAFE_FIRE.FIRE_A, Reg.SAFE_FIRE.FIRE_B,
        Reg.SAFE_GROUP.CAUSE, Reg.SAFE_GROUP.KIND, Reg.SAFE_GROUP.PAIRS, Reg.SAFE_GROUP.STATE, Reg.SAFE_GROUP.STOP, Reg.SAFE_PAIR.CH_A,
        Reg.SAFE_PAIR.CH_B, Reg.SAFE_PAIR.DEMAND, Reg.SAFE_PAIR.DEMANDS, Reg.SAFE_PAIR.FAULT_CAUSE, Reg.SAFE_PAIR.PAIR_FAULT,
        Reg.SAFE_RESET_STATUS.ARMED, Reg.SAFE_RESET_STATUS.REFUSED, Reg.SAFE_RESET_STATUS.RELEASED, Reg.SAFE_STATUS.A_OK,
        Reg.SAFE_STATUS.B_OK, Reg.SAFE_STATUS.DEMAND, Reg.SAFE_STATUS.DIAG, Reg.SAFE_STATUS.DIAG_A, Reg.SAFE_STATUS.DIAG_B,
        Reg.SAFE_STATUS.DIAG_CAUSE, Reg.SAFE_STATUS.LOCKED, Reg.SAFE_STATUS.RESET_PIN, Reg.SAFE_TPO.EN, Reg.SAFE_TPO.READBACK_FAULT])) s
        n) ∧
  (∀ (s : State) (c : Fin 48) (bad : Bool) (t : Nat), (s.chainCfg c.val = none ∨ s.pairMute = true ∨ s.device ≠ stRun ∨ s.fr.phase = .open ∨ s.fr.phase = .stopped ∨
      (s.chain c.val).call.isSome = true ∨ s.rd Reg.LANE_STATUS.CHAIN_LATE (2 * c.val) ≠ 0 ∨
      s.rd Reg.LANE_STATUS.CHAIN_LATE (2 * c.val + 1) ≠ 0) →
    ∃ n, exec (.callupLaunch ⟨c, bad⟩ t) s = .next n ∧ Effect [.time, .host, .fr, .out] (some (movesTime ++ movesIrq)) s n)

/-- Lane ends (R88, R89, R109, R110, R113): a lane end in sync is measured, by an all-call in kick-off and by a sweep elsewhere; one that
loses sync, or is forced idle, is LOST; a restore, automatic at the freeze after 1,000 frames, brings back the split of the image. How
many code violations a loss of sync counts is left open by the spec: a free value. -/
def Obligations.LanesComeUpBreakAndRestore : Prop :=
  (∀ (s : State) (lane : Fin 96) (t : Nat), s.laneDeclared lane.val = true → s.rd Reg.LANE_STATUS.SYNC lane.val = 0 →
    ∃ n, exec (.laneSyncAcquire lane t) s = .next n ∧ n.rd Reg.LANE_STATUS.SYNC lane.val = 1 ∧ n.rd Reg.LANE_EVENT.SYNC lane.val = 1 ∧
      (n.lane lane.val).lost = false ∧ (∀ k, k ≠ lane.val → n.lane k = s.lane k) ∧
      (s.rd Reg.LANE_CTRL.FORCE_IDLE lane.val = 0 → (s.lane lane.val).sliceOut = false → n.rd Reg.LANE_STATUS.STATE lane.val = 3 ∧
        (s.inKickOff = true → (n.lane lane.val).allCall = true) ∧
        (s.inKickOff = false → (n.lane lane.val).sweep = some ((s.lane lane.val).sweep.getD 0))) ∧
      (s.rd Reg.LANE_CTRL.FORCE_IDLE lane.val ≠ 0 → n.rd Reg.LANE_STATUS.STATE lane.val = 1) ∧
      Effect [.time, .host, .fr, .lanes, .out] (some (movesTime ++ movesIrq ++ [Reg.LANE_EVENT.SYNC, Reg.LANE_STATUS.STATE,
        Reg.LANE_STATUS.SYNC])) s n) ∧
  (∀ (s : State) (lane : Fin 96) (t : Nat), (s.laneDeclared lane.val = false ∨ s.rd Reg.LANE_STATUS.SYNC lane.val ≠ 0) →
    ∃ n, exec (.laneSyncAcquire lane t) s = .next n ∧ Effect [.time, .host, .fr, .out] (some (movesTime ++ movesIrq)) s n) ∧
  (∀ (s : State) (lane : Fin 96) (t : Nat), s.rd Reg.LANE_STATUS.SYNC lane.val ≠ 0 →
    ∃ n, exec (.laneSyncLoss lane t) s = .next n ∧ n.rd Reg.LANE_STATUS.SYNC lane.val = 0 ∧
      n.rd Reg.LANE_CODE_ERR.LOS lane.val = min 255 (s.rd Reg.LANE_CODE_ERR.LOS lane.val + 1) ∧
      n.rd Reg.LANE_CODE_ERR.CODE lane.val = min 4095 (s.rd Reg.LANE_CODE_ERR.CODE lane.val + Config.freeValue s.drawn) ∧
      n.drawn = s.drawn + 1 ∧ (n.lane lane.val).lost = true ∧ (n.lane lane.val).sweep = none ∧ (n.lane lane.val).allCall = false ∧
      (n.lane lane.val).up = false ∧ ((s.lane lane.val).lost = false → n.rd Reg.LANE_EVENT.LOST lane.val = 1) ∧
      n.rd Reg.LANE_STATUS.STATE lane.val =
        (if s.laneDeclared lane.val = false then 0 else if s.rd Reg.LANE_CTRL.FORCE_IDLE lane.val ≠ 0 then 1 else 6) ∧
      (∀ k, k ≠ lane.val → n.lane k = s.lane k) ∧
      Effect [.time, .host, .fr, .lanes, .out, .drawn] (some (movesTime ++ movesIrq ++ [Reg.LANE_CODE_ERR.CODE, Reg.LANE_CODE_ERR.LOS,
        Reg.LANE_EVENT.LOST, Reg.LANE_STATUS.STATE, Reg.LANE_STATUS.SYNC])) s n) ∧
  (∀ (s : State) (lane : Fin 96) (t : Nat), s.rd Reg.LANE_STATUS.SYNC lane.val = 0 →
    ∃ n, exec (.laneSyncLoss lane t) s = .next n ∧ Effect [.time, .host, .fr, .out] (some (movesTime ++ movesIrq)) s n) ∧
  (∀ (s : State) (c : Fin 48) (t : Nat) (cc : ChainCfg), s.chainCfg c.val = some cc → s.fr.phase = .frozen →
    s.fr.freezeNs = (s.elapse t).count →
    s.rd Reg.LANE_CTRL.AUTO_RESTORE (2 * c.val) ≠ 0 → 1000 ≤ (s.chain c.val).restoreRun → s.restorable c.val = true →
    (s.chain c.val).next = none → cc.split < 64 →
    ∃ n, exec (.autoRestore c t) s = .next n ∧ n.rd Reg.LANE_SEGDOWN_LO.DOWN (2 * c.val) = 0 ∧ n.rd Reg.LANE_SEGDOWN_HI.DOWN (2 * c.val) = 0 ∧
      n.split c.val = cc.split ∧ n.gap c.val = 0 ∧ (n.chain c.val).restoreRun = 0 ∧ (n.lane (2 * c.val)).lost = false ∧
      (n.lane (2 * c.val + 1)).lost = false ∧
      ((cc.split, 0) ≠ (s.split c.val, s.gap c.val) → n.rd Reg.LANE_EVENT.MOVE (2 * c.val) = 1 ∧ n.rd Reg.LANE_STATUS.MOVING (2 * c.val) = 1 ∧
        (n.chain c.val).before = some (s.split c.val, s.gap c.val)) ∧
      (∀ k, k ≠ c.val → n.chain k = s.chain k) ∧
      Effect [.time, .host, .fr, .images, .lanes, .chains, .cells, .out] (some (movesTime ++ movesIrq ++ [Reg.CELL_PLACE.ARM,
        Reg.CELL_PLACE.CHAIN, Reg.CELL_PLACE.CLASS, Reg.CELL_PLACE.END, Reg.CELL_PLACE.POS, Reg.CELL_PLACE.REACHABLE, Reg.LANE_CHAIN.GAP,
        Reg.LANE_CHAIN.SPLIT, Reg.LANE_EVENT.MOVE, Reg.LANE_SEGDOWN_HI.DOWN, Reg.LANE_SEGDOWN_LO.DOWN, Reg.LANE_STATUS.FIRST_Q,
        Reg.LANE_STATUS.MOVING, Reg.LANE_STATUS.SERVED, Reg.LANE_STATUS.STATE])) s n) ∧
  (∀ (s : State) (c : Fin 48) (t : Nat), (s.chainCfg c.val = none ∨ s.fr.phase ≠ .frozen ∨ s.fr.freezeNs ≠ (s.elapse t).count) →
    ∃ n, exec (.autoRestore c t) s = .next n ∧ Effect [.time, .host, .fr, .out] (some (movesTime ++ movesIrq)) s n) ∧
  (∀ (s : State) (lane : Fin 96), lane.val % 2 = 0 → s.laneDeclared lane.val = true →
    ∃ n, exec (.laneRestore lane) s = .next n ∧ n.chain (lane.val / 2) = { s.chain (lane.val / 2) with restoreReq := true } ∧
      (∀ k, k ≠ lane.val / 2 → n.chain k = s.chain k) ∧
      Effect [.host, .chains, .out] (some movesIrq) s n) ∧
  (∀ (s : State) (lane : Fin 96), (lane.val % 2 = 1 ∨ s.laneDeclared lane.val = false) →
    ∃ n, exec (.laneRestore lane) s = .next n ∧ Effect [.host, .out] (some movesIrq) s n) ∧
  (∀ (s : State) (lane : Fin 96), s.elecIdle lane.val = false → (s.lane lane.val).sweep = none → (s.lane lane.val).allCall = false →
    ∃ n, exec (.laneCallup lane) s = .next n ∧ (s.inKickOff = true → (n.lane lane.val).allCall = true) ∧
      (s.inKickOff = false → (n.lane lane.val).sweep = some 0) ∧ (∀ k, k ≠ lane.val → n.lane k = s.lane k) ∧
      Effect [.host, .lanes, .out] (some (movesIrq ++ [Reg.LANE_STATUS.STATE])) s n) ∧
  (∀ (s : State) (lane : Fin 96), (s.elecIdle lane.val = true ∨ (s.lane lane.val).sweep.isSome = true ∨ (s.lane lane.val).allCall = true) →
    ∃ n, exec (.laneCallup lane) s = .next n ∧ Effect [.host, .out] (some movesIrq) s n) ∧
  (∀ (s : State) (lane : Fin 96) (t : Nat), s.laneDeclared lane.val = true → s.rd Reg.LANE_CTRL.FORCE_IDLE lane.val = 0 →
    ∃ n, exec (.laneForceIdle lane true t) s = .next n ∧ n.rd Reg.LANE_CTRL.FORCE_IDLE lane.val = 1 ∧ (n.lane lane.val).lost = true ∧
      n.rd Reg.LANE_STATUS.STATE lane.val = 1 ∧ ((s.lane lane.val).lost = false → n.rd Reg.LANE_EVENT.LOST lane.val = 1) ∧
      keepsOthers Reg.LANE_CTRL.FORCE_IDLE lane.val s n ∧ (∀ k, k ≠ lane.val → n.lane k = s.lane k) ∧
      Effect [.time, .host, .fr, .lanes, .out] (some (movesTime ++ movesIrq ++ [Reg.LANE_CTRL.FORCE_IDLE, Reg.LANE_EVENT.LOST,
        Reg.LANE_STATUS.STATE])) s n) ∧
  (∀ (s : State) (lane : Fin 96) (t : Nat), s.laneDeclared lane.val = true → s.rd Reg.LANE_CTRL.FORCE_IDLE lane.val ≠ 0 →
    ∃ n, exec (.laneForceIdle lane false t) s = .next n ∧ n.rd Reg.LANE_CTRL.FORCE_IDLE lane.val = 0 ∧
      (s.rd Reg.LANE_STATUS.SYNC lane.val ≠ 0 → (n.lane lane.val).lost = false ∧ n.rd Reg.LANE_STATUS.STATE lane.val = 3) ∧
      (s.rd Reg.LANE_STATUS.SYNC lane.val = 0 → n.lanes = s.lanes ∧ n.rd Reg.LANE_STATUS.STATE lane.val = (if (s.lane lane.val).lost then 6 else 2)) ∧
      Effect [.time, .host, .fr, .lanes, .out] (some (movesTime ++ movesIrq ++ [Reg.LANE_CTRL.FORCE_IDLE, Reg.LANE_EVENT.LOST,
        Reg.LANE_STATUS.STATE])) s n) ∧
  (∀ (s : State) (lane : Fin 96) (t : Nat) (idle : Bool), s.on Reg.LANE_CTRL.FORCE_IDLE lane.val = idle →
    ∃ n, exec (.laneForceIdle lane idle t) s = .next n ∧ Effect [.time, .host, .fr, .out] (some (movesTime ++ movesIrq)) s n)

/-- Cell commands and slice substitution (R83 to R86, R119, R122, Tables 05-3 and 05-4): an admission of a PENDING cell whose found
identity is the one given, and a bypass, wait for the rank window; clearing a cell's faults forgets those seen and asks its next slot for
FAULT_CLEAR. A slice that fails in a role, or is given up by the host in RUN, is marked, raises SLICE and waits for a spare; a spare that
fails is retired; the substitute takes role and target over at the tick after its reload, or, where the image copy could not be read, the
role is lost with RESULT 2. -/
def Obligations.CellCommandsAndSubstitution : Prop :=
  (∀ (s : State) (c x : Nat) (ch : ChainCfg), (s.cellCfg c).isSome = true → s.chainOfCell c = some ch → s.cstate c = csPending →
    (s.cell c).hostAdmit = none → (s.cell c).hostBypass = false → s.rd64 Reg.TS_FOUND_LO.IDENTITY Reg.TS_FOUND_HI.IDENTITY c = x →
    (s.servingLane ch.chain (c - ch.base)).isSome = true → (s.cell c).fresh = true →
    ∃ n, exec (.cellAdmit c x) s = .next n ∧ n.cell c = { s.cell c with hostAdmit := some x } ∧ (∀ k, k ≠ c → n.cell k = s.cell k) ∧
      Effect [.host, .cells, .out] (some movesIrq) s n) ∧
  (∀ (s : State) (c x : Nat), (s.cellCfg c = none ∨ s.cstate c ≠ csPending ∨ (s.cell c).hostAdmit.isSome = true ∨ (s.cell c).hostBypass = true ∨
      (s.cell c).fresh = false ∨
      s.rd64 Reg.TS_FOUND_LO.IDENTITY Reg.TS_FOUND_HI.IDENTITY c ≠ x) →
    ∃ n, exec (.cellAdmit c x) s = .next n ∧ Effect [.host, .out] (some movesIrq) s n) ∧
  (∀ (s : State) (c : Nat), (s.cellCfg c).isSome = true → s.cstate c ≠ csBypassed → (s.cell c).hostBypass = false →
    ∃ n, exec (.cellBypass c) s = .next n ∧ n.cell c = { s.cell c with hostBypass := true } ∧ (∀ k, k ≠ c → n.cell k = s.cell k) ∧
      Effect [.host, .cells, .out] (some movesIrq) s n) ∧
  (∀ (s : State) (c : Nat), (s.cellCfg c = none ∨ s.cstate c = csBypassed ∨ (s.cell c).hostBypass = true) →
    ∃ n, exec (.cellBypass c) s = .next n ∧ Effect [.host, .out] (some movesIrq) s n) ∧
  (∀ (s : State) (c : Nat), (s.cellCfg c).isSome = true → c < 1536 →
    ∃ n, exec (.cellFaultClear c) s = .next n ∧ n.cell c = { s.cell c with clearReq := true, appear := true } ∧
      n.rd Reg.CELL_FAULT.SEEN c = 0 ∧ (∀ k, k ≠ c → n.cell k = s.cell k) ∧ keepsOthers Reg.CELL_FAULT.SEEN c s n ∧
      Effect [.host, .cells, .out] (some (movesIrq ++ [Reg.CELL_FAULT.SEEN])) s n) ∧
  (∀ (s : State), ∃ n, exec (.cellFaultClear 0xFFFF) s = .next n ∧
    (∀ k ∈ s.cellList, n.cell k = { s.cell k with clearReq := true, appear := true } ∧ n.rd Reg.CELL_FAULT.SEEN k = 0) ∧
    (∀ k, k ∉ s.cellList → n.cell k = s.cell k ∧ n.rd Reg.CELL_FAULT.SEEN k = s.rd Reg.CELL_FAULT.SEEN k) ∧
    Effect [.host, .cells, .out] (some (movesIrq ++ [Reg.CELL_FAULT.SEEN])) s n) ∧
  (∀ (s : State) (c : Nat), s.cellCfg c = none → c ≠ 0xFFFF →
    ∃ n, exec (.cellFaultClear c) s = .next n ∧ Effect [.host, .out] (some movesIrq) s n) ∧
  (∀ (s : State) (k : Fin 128) (t : Nat), s.sliceRole k.val ≠ 0 → s.sliceRole k.val ≠ roSpare → s.sliceState k.val ≠ slFailed →
    s.sliceState k.val ≠ 0 →
    ∃ n, exec (.sliceError k t) s = .next n ∧ n.sliceState k.val = slFailed ∧ keepsOthers Reg.SLICE_ROLE.STATE k.val s n ∧
      hasBit (n.rd Reg.IMAGE_SLICE_FAIL.FAIL (k.val / 32)) (k.val % 32) = true ∧
      n.load = { s.load with waiting := s.load.waiting ++ [k.val] } ∧ n.rd Reg.IMAGE_SUBST_STATUS.BUSY = 1 ∧
      (s.mayRaise = true → raises (s.elapse t) n 17 k.val) ∧
      (s.sliceRole k.val = roLane → (n.lane (s.sliceTarget k.val)).sliceOut = true ∧ (n.lane (s.sliceTarget k.val)).lost = true) ∧
      (s.sliceRole k.val = roArm → n.rd Reg.ARM_STATUS.ACTIVE k.val = 0 ∧
        n.arm (s.sliceTarget k.val) = { s.arm (s.sliceTarget k.val) with out := true, failedTicks := 0 }) ∧
      (s.sliceRole k.val = roMirror → n.safety.mirrorOut = 0) ∧
      Effect [.time, .faults, .host, .load, .fr, .lanes, .arms, .safety, .out] (some (movesTime ++ movesIrq ++ movesFault ++
        [Reg.ARM_STATUS.ACTIVE, Reg.IMAGE_EVENT.SPARE_LOW, Reg.IMAGE_SLICE_FAIL.FAIL, Reg.IMAGE_SUBST_STATUS.BUSY, Reg.LANE_EVENT.LOST,
        Reg.LANE_STATUS.STATE, Reg.ROLE_COUNT.ARM_SLICES, Reg.ROLE_COUNT.LANE_SLICES, Reg.ROLE_COUNT.MIRROR, Reg.ROLE_COUNT.RECORDER,
        Reg.ROLE_COUNT.SPARE, Reg.ROLE_COUNT.UNASSIGNED, Reg.SLICE_ROLE.STATE])) s n) ∧
  (∀ (s : State) (k : Fin 128) (t : Nat), s.sliceRole k.val = roSpare → s.sliceState k.val ≠ slFailed → s.sliceState k.val ≠ 0 →
    (∃ n, exec (.sliceError k t) s = .next n ∧ n.sliceState k.val = slFailed ∧ n.rd Reg.ROLE_COUNT.SPARE = n.spares % 128 ∧
      (n.spares < 8 → 8 ≤ s.rd Reg.ROLE_COUNT.SPARE → n.rd Reg.IMAGE_EVENT.SPARE_LOW = 1) ∧
      (∀ old, s.load.reloading = some (old, some k.val) →
        n.load = { s.load with reloading := none, waiting := s.load.waiting ++ [old] }) ∧
      (s.load.reloading = none → n.load = s.load) ∧ n.lanes = s.lanes ∧ n.arms = s.arms) ∧
    (s.device = stRun →
      ∃ n, exec (.spareSelftestFail k t) s = .next n ∧ n.sliceState k.val = slFailed ∧ n.rd Reg.ROLE_COUNT.SPARE = n.spares % 128 ∧
        Effect [.time, .faults, .host, .load, .fr, .lanes, .arms, .safety, .out] (some (movesTime ++ movesIrq ++ movesFault ++
          [Reg.ARM_STATUS.ACTIVE, Reg.IMAGE_EVENT.SPARE_LOW, Reg.IMAGE_SLICE_FAIL.FAIL, Reg.IMAGE_SUBST_STATUS.BUSY, Reg.LANE_EVENT.LOST,
          Reg.LANE_STATUS.STATE, Reg.ROLE_COUNT.ARM_SLICES, Reg.ROLE_COUNT.LANE_SLICES, Reg.ROLE_COUNT.MIRROR, Reg.ROLE_COUNT.RECORDER,
          Reg.ROLE_COUNT.SPARE, Reg.ROLE_COUNT.UNASSIGNED, Reg.SLICE_ROLE.STATE])) s n)) ∧
  (∀ (s : State) (k : Fin 128) (t : Nat), (s.sliceRole k.val = 0 ∨ s.sliceState k.val = slFailed ∨ s.sliceState k.val = 0) →
    (∃ n, exec (.sliceError k t) s = .next n ∧ Effect [.time, .host, .fr, .out] (some (movesTime ++ movesIrq)) s n) ∧
    ∃ n, exec (.spareSelftestFail k t) s = .next n ∧ Effect [.time, .host, .fr, .out] (some (movesTime ++ movesIrq)) s n) ∧
  (∀ (s : State) (v t : Nat), hasBit v 31 = true → s.device = stRun → s.sliceRole (v % 128) ≠ 0 → s.sliceRole (v % 128) ≠ roSpare →
    s.sliceState (v % 128) ≠ slFailed → s.sliceState (v % 128) ≠ 0 →
    ∃ n, exec (.substRequest v t) s = .next n ∧ n.rd Reg.IMAGE_SUBST_REQ.SLICE = v % 128 ∧ n.sliceState (v % 128) = slFailed ∧
      n.load = { s.load with waiting := s.load.waiting ++ [v % 128] } ∧ n.rd Reg.IMAGE_SUBST_STATUS.BUSY = 1 ∧
      Effect [.time, .faults, .host, .load, .fr, .lanes, .arms, .safety, .out] (some (movesTime ++ movesIrq ++ movesFault ++
        [Reg.ARM_STATUS.ACTIVE, Reg.IMAGE_EVENT.SPARE_LOW, Reg.IMAGE_SLICE_FAIL.FAIL, Reg.IMAGE_SUBST_REQ.SLICE,
        Reg.IMAGE_SUBST_STATUS.BUSY, Reg.LANE_EVENT.LOST, Reg.LANE_STATUS.STATE, Reg.ROLE_COUNT.ARM_SLICES, Reg.ROLE_COUNT.LANE_SLICES,
        Reg.ROLE_COUNT.MIRROR, Reg.ROLE_COUNT.RECORDER, Reg.ROLE_COUNT.SPARE, Reg.ROLE_COUNT.UNASSIGNED, Reg.SLICE_ROLE.STATE])) s n) ∧
  (∀ (s : State) (v t : Nat), (hasBit v 31 = false ∨ s.device ≠ stRun) →
    ∃ n, exec (.substRequest v t) s = .next n ∧ n.rd Reg.IMAGE_SUBST_REQ.SLICE = v % 128 ∧
      Effect [.time, .host, .fr, .out] (some (movesTime ++ movesIrq ++ [Reg.IMAGE_SUBST_REQ.SLICE])) s n) ∧
  (∀ (s : State) (t old m : Nat), s.load.reloading = some (old, some m) → m < 128 → s.load.dram = true → s.load.waiting = [] →
    ∃ n, exec (.substInService true t) s = .next n ∧ n.sliceRole m = s.sliceRole old % 8 ∧ n.sliceTarget m = s.sliceTarget old % 256 ∧
      n.sliceState m = slService ∧ n.load = { s.load with reloading := none } ∧ n.rd Reg.IMAGE_SUBST_STATUS.RESULT = 0 ∧
      n.rd Reg.IMAGE_SUBST_STATUS.BUSY = 0 ∧ n.rd Reg.IMAGE_EVENT.SUBST = 1 ∧
      n.rd Reg.IMAGE_SUBST_STATUS.COUNT = min 255 (s.rd Reg.IMAGE_SUBST_STATUS.COUNT + 1) ∧
      (s.sliceRole old = roLane → (n.lane (s.sliceTarget old)).sliceOut = false) ∧
      (s.sliceRole old = roArm → (s.armCfg (s.sliceTarget old)).isSome = true →
        (n.arm (s.sliceTarget old)).lost = false ∧ n.rd Reg.ARM_STATUS.ACTIVE m = 1) ∧
      Effect [.time, .faults, .host, .load, .fr, .lanes, .cells, .arms, .convs, .safety, .out] (some (movesTime ++ movesIrq ++ movesFault
        ++ [Reg.ARM_ALPHA1.ALPHA, Reg.ARM_ALPHA2.ALPHA, Reg.ARM_PAR.HIGH, Reg.ARM_PAR.LOW, Reg.ARM_PTR.PTR, Reg.ARM_STATUS.ACTIVE,
        Reg.IMAGE_EVENT.SPARE_LOW, Reg.IMAGE_EVENT.SUBST, Reg.IMAGE_SUBST_FRAME.FRAME, Reg.IMAGE_SUBST_STATUS.BUSY,
        Reg.IMAGE_SUBST_STATUS.COUNT, Reg.IMAGE_SUBST_STATUS.NEW, Reg.IMAGE_SUBST_STATUS.OLD, Reg.IMAGE_SUBST_STATUS.RESULT,
        Reg.LANE_STATUS.STATE, Reg.ROLE_COUNT.ARM_SLICES, Reg.ROLE_COUNT.LANE_SLICES, Reg.ROLE_COUNT.MIRROR, Reg.ROLE_COUNT.RECORDER,
        Reg.ROLE_COUNT.SPARE, Reg.ROLE_COUNT.UNASSIGNED, Reg.SAFE_EVENT.DEMAND, Reg.SAFE_EVENT.DIAG, Reg.SAFE_EVENT.REMOVED,
        Reg.SAFE_EVENT.RESET_REFUSED, Reg.SAFE_EVENT.STOPPING, Reg.SAFE_FIRE.DRV_A, Reg.SAFE_FIRE.DRV_B, Reg.SAFE_FIRE.FIRE_A,
        Reg.SAFE_FIRE.FIRE_B, Reg.SAFE_GROUP.CAUSE, Reg.SAFE_GROUP.KIND, Reg.SAFE_GROUP.PAIRS, Reg.SAFE_GROUP.STATE, Reg.SAFE_GROUP.STOP,
        Reg.SAFE_PAIR.CH_A, Reg.SAFE_PAIR.CH_B, Reg.SAFE_PAIR.DEMAND, Reg.SAFE_PAIR.DEMANDS, Reg.SAFE_PAIR.FAULT_CAUSE,
        Reg.SAFE_PAIR.PAIR_FAULT, Reg.SAFE_RESET_STATUS.ARMED, Reg.SAFE_RESET_STATUS.REFUSED, Reg.SAFE_RESET_STATUS.RELEASED,
        Reg.SAFE_STATUS.A_OK, Reg.SAFE_STATUS.B_OK, Reg.SAFE_STATUS.DEMAND, Reg.SAFE_STATUS.DIAG, Reg.SAFE_STATUS.DIAG_A,
        Reg.SAFE_STATUS.DIAG_B, Reg.SAFE_STATUS.DIAG_CAUSE, Reg.SAFE_STATUS.LOCKED, Reg.SAFE_STATUS.RESET_PIN, Reg.SAFE_TPO.EN,
        Reg.SAFE_TPO.READBACK_FAULT, Reg.SLICE_ROLE.ROLE, Reg.SLICE_ROLE.STATE, Reg.SLICE_ROLE.TARGET])) s n) ∧
  (∀ (s : State) (t old m : Nat), s.load.reloading = some (old, some m) → m < 128 → s.load.waiting = [] →
    ∃ n, exec (.substInService false t) s = .next n ∧ n.sliceState m = slSpare ∧ n.sliceRole m = s.sliceRole m ∧
      n.rd Reg.IMAGE_SUBST_STATUS.RESULT = 2 ∧ n.rd Reg.IMAGE_EVENT.SUBST = 1 ∧ n.load = { s.load with reloading := none } ∧
      (s.sliceRole old = roArm → (n.arm (s.sliceTarget old)).lost = true)) ∧
  (∀ (s : State) (t : Nat) (ok : Bool), s.load.reloading = none →
    ∃ n, exec (.substInService ok t) s = .next n ∧ Effect [.time, .host, .fr, .out] (some (movesTime ++ movesIrq)) s n)

/-- Graphs and coefficients (R148 to R151, R175, R176, R211): an engine whose graph completes is DONE with its cycles, QUIET and exports,
and its result waits for T_COMPUTE_END; the plane that holds the ball writes its sinks, and each arm it writes gets the frame's commit
word; the writes of another plane are counted offside. COEFF_WRITE replaces entries of the bank not in force, in the engines of both
planes; BANK_SWAP puts the other bank in force once its values pass their checks; PARAM_WRITE sets a parameter of a position in both its
engines. A refusal sets CMD_REFUSED and changes nothing else. -/
def Obligations.GraphsAndCoefficientsTakeEffect : Prop :=
  (∀ (s : State) (e : Fin 16) (cyc : Nat) (g : Graph) (r : RunOut), s.graph (e.val % 8) = some g →
    r = s.runEngine (e.val / 8) (e.val % 8) g → hasBit s.power.lost 0 = false → hasBit s.power.dead 0 = false →
    (s.eng e.val).running = true → s.fr.phase = .frozen →
    ∃ n, exec (.engineGraphComplete e cyc) s = .next n ∧ n.rd Reg.ENG_STATUS.DONE e.val = 1 ∧ n.rd Reg.ENG_STATUS.STOPPED e.val = 0 ∧
      n.rd Reg.ENG_STATUS.QUIET e.val = b01 r.quiet ∧ n.rd Reg.ENG_CYCLES.LAST e.val = min cyc 65535 ∧
      n.eng e.val = { s.eng e.val with running := false, result := some r } ∧ (∀ k, k ≠ e.val → n.eng k = s.eng k) ∧
      (∀ i, i < g.exports → i < 32 → n.rd Reg.ENG_EXPORT.VALUE e.val i = unsigned 32 (r.exports.getD i 0)) ∧
      (s.ballPlane (e.val / 8) = true → n.fr = { s.fr with engNeed := max s.fr.engNeed cyc, ctrl := n.fr.ctrl, ctrlWait := n.fr.ctrlWait } ∧
        ∀ a ∈ sinkArms r.sinks, n.rd Reg.ARM_REF_FRAME.FRAME (s.armSlice a) = s.frameNo % 4294967296) ∧
      (s.ballPlane (e.val / 8) = false → n.fr = { s.fr with ctrl := n.fr.ctrl, ctrlWait := n.fr.ctrlWait } ∧
        n.arms = s.arms ∧ n.convs = s.convs ∧
        ∀ a, n.rd Reg.ARM_REF_FRAME.FRAME a = s.rd Reg.ARM_REF_FRAME.FRAME a) ∧
      (s.fr.ctrlWait = [] → n.fr.ctrl = s.fr.ctrl.filter fun x => x.owner != e.val) ∧
      Effect [.host, .fr, .arms, .engs, .convs, .out] (some (movesIrq ++ [Reg.ARM_REF_FRAME.FRAME, Reg.ENG_CYCLES.LAST,
        Reg.ENG_CYCLES.MAX, Reg.ENG_EXPORT.VALUE, Reg.ENG_STATUS.DONE, Reg.ENG_STATUS.QUIET, Reg.ENG_STATUS.STOPPED,
        Reg.REF_OFFSIDE.LAST_PLANE, Reg.REF_OFFSIDE.WRITES, Reg.TRK_STATUS.CTRL_HIWATER])) s n) ∧
  (∀ (s : State) (e : Fin 16) (cyc : Nat) (g : Graph), s.graph (e.val % 8) = some g → hasBit s.power.lost 0 = false →
    hasBit s.power.dead 0 = false → ((s.eng e.val).running = false ∨ s.fr.phase ≠ .frozen) → s.fr.phase ≠ .stopped →
    s.ballPlane (e.val / 8) = false → s.role (e.val / 8) ≠ roShadow → s.role (e.val / 8) ≠ roOff →
    ∃ n, exec (.engineGraphComplete e cyc) s = .next n ∧
      (fabricWrites (s.runEngine (e.val / 8) (e.val % 8) g).sinks ≠ 0 →
        n.rd Reg.REF_OFFSIDE.WRITES = min 65535 (s.rd Reg.REF_OFFSIDE.WRITES + fabricWrites (s.runEngine (e.val / 8) (e.val % 8) g).sinks) ∧
        n.rd Reg.REF_OFFSIDE.LAST_PLANE = e.val / 8) ∧
      Effect [.host, .out] (some (movesIrq ++ [Reg.REF_OFFSIDE.WRITES, Reg.REF_OFFSIDE.LAST_PLANE])) s n) ∧
  (∀ (s : State) (e : Fin 16) (cyc : Nat), (s.graph (e.val % 8) = none ∨ hasBit s.power.lost 0 = true ∨ hasBit s.power.dead 0 = true) →
    ∃ n, exec (.engineGraphComplete e cyc) s = .next n ∧ Effect [.host, .out] (some movesIrq) s n) ∧
  (∀ (s : State) (b : List Byte) (g : Graph), u8At b 0 ≤ 7 → s.graph (u8At b 0) = some g → 1 ≤ u8At b 3 → u8At b 3 ≤ 16 →
    u16At b 1 + u8At b 3 ≤ g.coefEntries → (∀ c ∈ coefArgs b (u8At b 3), c.shift ≤ 31) →
    ∃ n, exec (.coeffWrite b) s = .next n ∧
      (∀ e, e = u8At b 0 ∨ e = u8At b 0 + 8 →
        n.eng e = (if s.bank = 0 then { s.eng e with bankB := replaceFrom (s.eng e).bankB (u16At b 1) (coefArgs b (u8At b 3)) }
          else { s.eng e with bankA := replaceFrom (s.eng e).bankA (u16At b 1) (coefArgs b (u8At b 3)) }) ∧
        n.rd Reg.ENG_CMD_LAST.RESULT e = 0 ∧ n.rd Reg.ENG_CMD_LAST.OP e = 1 ∧ n.rd Reg.ENG_CMD_FRAME.FRAME e = s.frameNo % 4294967296) ∧
      (∀ e, e ≠ u8At b 0 → e ≠ u8At b 0 + 8 → n.eng e = s.eng e) ∧
      Effect [.host, .engs, .out] (some (movesIrq ++ [Reg.ENG_CMD_FRAME.FRAME, Reg.ENG_CMD_LAST.ENTRY, Reg.ENG_CMD_LAST.OP,
        Reg.ENG_CMD_LAST.RESULT, Reg.ENG_EVENT.CMD_REFUSED])) s n) ∧
  (∀ (s : State) (b : List Byte) (g : Graph), u8At b 0 ≤ 7 → s.graph (u8At b 0) = some g →
    (u8At b 3 = 0 ∨ 16 < u8At b 3 ∨ g.coefEntries < u16At b 1 + u8At b 3) →
    ∃ n, exec (.coeffWrite b) s = .next n ∧ n.engs = s.engs ∧ n.rd Reg.ENG_CMD_LAST.RESULT (u8At b 0) = 1 ∧
      n.rd Reg.ENG_EVENT.CMD_REFUSED (u8At b 0) = 1 ∧
      Effect [.host, .engs, .out] (some (movesIrq ++ [Reg.ENG_CMD_FRAME.FRAME, Reg.ENG_CMD_LAST.ENTRY, Reg.ENG_CMD_LAST.OP,
        Reg.ENG_CMD_LAST.RESULT, Reg.ENG_EVENT.CMD_REFUSED])) s n) ∧
  (∀ (s : State) (b : List Byte), 7 < u8At b 0 →
    (∃ n, exec (.coeffWrite b) s = .next n ∧ Effect [.host, .out] (some movesIrq) s n) ∧
    ∃ n, exec (.paramWrite b) s = .next n ∧ Effect [.host, .out] (some movesIrq) s n) ∧
  (∀ (s : State) (bank : Nat), bank ≤ 1 → bank ≠ s.bank → (∀ j, j < 8 → s.swapFault bank j = none) →
    ∃ n, exec (.bankSwap bank) s = .next n ∧
      (∀ e, e < 16 → n.rd Reg.ENG_BANK.ACTIVE e = bank ∧ n.rd Reg.ENG_BANK.SWAPS e = min 255 (s.rd Reg.ENG_BANK.SWAPS e + 1) ∧
        n.rd Reg.ENG_EVENT.SWAP e = 1) ∧
      (∀ j, j < 8 → (s.graph j).isSome = true → n.rd Reg.ENG_CMD_LAST.RESULT j = 0 ∧ n.rd Reg.ENG_CMD_LAST.OP j = 2) ∧
      Effect [.host, .out] (some (movesIrq ++ [Reg.ENG_BANK.ACTIVE, Reg.ENG_BANK.SWAPS, Reg.ENG_CMD_FRAME.FRAME, Reg.ENG_CMD_LAST.ENTRY,
        Reg.ENG_CMD_LAST.OP, Reg.ENG_CMD_LAST.RESULT, Reg.ENG_EVENT.CMD_REFUSED, Reg.ENG_EVENT.SWAP])) s n) ∧
  (∀ (s : State) (bank j : Nat), bank ≤ 1 → bank ≠ s.bank → j < 8 → (s.swapFault bank j).isSome = true →
    ∃ n, exec (.bankSwap bank) s = .next n ∧ n.rd Reg.ENG_CMD_LAST.RESULT j = 3 ∧ n.rd Reg.ENG_EVENT.CMD_REFUSED j = 1 ∧
      ∀ e, n.rd Reg.ENG_BANK.ACTIVE e = s.rd Reg.ENG_BANK.ACTIVE e ∧ n.rd Reg.ENG_BANK.SWAPS e = s.rd Reg.ENG_BANK.SWAPS e) ∧
  (∀ (s : State) (bank j : Nat), (1 < bank ∨ bank = s.bank) → j < 8 → (s.graph j).isSome = true →
    ∃ n, exec (.bankSwap bank) s = .next n ∧ n.rd Reg.ENG_CMD_LAST.RESULT j = (if 1 < bank then 1 else 2) ∧
      ∀ e, n.rd Reg.ENG_BANK.ACTIVE e = s.rd Reg.ENG_BANK.ACTIVE e ∧ n.rd Reg.ENG_BANK.SWAPS e = s.rd Reg.ENG_BANK.SWAPS e) ∧
  (∀ (s : State) (b : List Byte), u8At b 0 ≤ 7 → u8At b 1 ≤ 63 → (s.graph (u8At b 0)).isSome = true →
    ∃ n, exec (.paramWrite b) s = .next n ∧ n.rd Reg.ENG_PARAM.VALUE (u8At b 0) (u8At b 1) = unsigned 32 (s32At b 2) ∧
      n.rd Reg.ENG_PARAM.VALUE (u8At b 0 + 8) (u8At b 1) = unsigned 32 (s32At b 2) ∧
      (∀ e i, (e ≠ u8At b 0 ∧ e ≠ u8At b 0 + 8 ∨ i ≠ u8At b 1) → n.rd Reg.ENG_PARAM.VALUE e i = s.rd Reg.ENG_PARAM.VALUE e i) ∧
      n.rd Reg.ENG_CMD_LAST.RESULT (u8At b 0) = 0 ∧ n.rd Reg.ENG_CMD_LAST.OP (u8At b 0) = 3 ∧
      Effect [.host, .out] (some (movesIrq ++ [Reg.ENG_CMD_FRAME.FRAME, Reg.ENG_CMD_LAST.ENTRY, Reg.ENG_CMD_LAST.OP,
        Reg.ENG_CMD_LAST.RESULT, Reg.ENG_EVENT.CMD_REFUSED, Reg.ENG_PARAM.VALUE])) s n) ∧
  (∀ (s : State) (b : List Byte), u8At b 0 ≤ 7 → (63 < u8At b 1 ∨ s.graph (u8At b 0) = none) →
    ∃ n, exec (.paramWrite b) s = .next n ∧ n.rd Reg.ENG_CMD_LAST.RESULT (u8At b 0) = (if 63 < u8At b 1 then 1 else 4) ∧
      n.rd Reg.ENG_EVENT.CMD_REFUSED (u8At b 0) = 1 ∧ ∀ e i, n.rd Reg.ENG_PARAM.VALUE e i = s.rd Reg.ENG_PARAM.VALUE e i)

/-- Converters deblock and block (R189, R191, R194, R196): CONV_DEBLOCK starts a BLOCKED converter that passes the checks of Table 08-4
and else leaves it with its result; CONV_BLOCK, the coast limit and the resync limit block one with causes 8, 5 and 6 and set its
residuals to 0; a converter in RESYNC that meets the conditions at a tick up to e + L1 deblocks by itself. A block of the device at the
tick of a CONV_DEBLOCK wins, and is counted once. -/
def Obligations.ConvertersDeblockAndBlock : Prop :=
  (∀ (s : State) (c : Nat), c < 12 → (s.convCfg c).isSome = true → s.cvState c = cvBlocked → s.deblockCheck c = 0 →
    (s.conv c).atTick = none →
    ∃ n, exec (.convDeblock c) s = .next n ∧ n.cvState c = cvDeblocking ∧ n.rd Reg.CONV_CMD_LAST.RESULT c = 0 ∧ n.rd Reg.CONV_CMD_LAST.OP c = 1 ∧
      n.rd Reg.CONV_STATE_FRAME.FRAME c = s.frameNo % 4294967296 ∧ n.rd Reg.CONV_EVENT.DEBLOCK = 1 ∧
      hasBit (n.rd Reg.CONV_EVENT_SRC.CONV) c = true ∧ n.conv c = { s.conv c with ramped := false } ∧
      keepsOthers Reg.CONV_STATE.STATE c s n ∧
      Effect [.faults, .host, .convs, .out] (some (movesIrq ++ movesFault ++ [Reg.CONV_CMD_LAST.OP, Reg.CONV_CMD_LAST.RESULT,
        Reg.CONV_COUNT.BLOCKS, Reg.CONV_EVENT.BLOCK, Reg.CONV_EVENT.COAST_LIMIT, Reg.CONV_EVENT.DEBLOCK, Reg.CONV_EVENT.RESYNC_FAIL,
        Reg.CONV_EVENT_SRC.CONV, Reg.CONV_STATE.CAUSE, Reg.CONV_STATE.STATE, Reg.CONV_STATE_FRAME.FRAME])) s n) ∧
  (∀ (s : State) (c : Nat), c < 12 → (s.convCfg c).isSome = true → (s.cvState c ≠ cvBlocked ∨ s.deblockCheck c ≠ 0) →
    ∃ n, exec (.convDeblock c) s = .next n ∧ n.rd Reg.CONV_CMD_LAST.RESULT c = (if s.cvState c ≠ cvBlocked then 2 else s.deblockCheck c) ∧
      n.rd Reg.CONV_CMD_LAST.OP c = 1 ∧
      Effect [.host, .out] (some (movesIrq ++ [Reg.CONV_CMD_LAST.OP, Reg.CONV_CMD_LAST.RESULT])) s n) ∧
  (∀ (s : State) (c k : Nat), c < 12 → (s.convCfg c).isSome = true → s.cvState c = cvBlocked → s.deblockCheck c = 0 →
    (s.conv c).atTick = some k →
    ∃ n, exec (.convDeblock c) s = .next n ∧ n.cvState c = cvBlocked ∧ n.rd Reg.CONV_CMD_LAST.RESULT c = 0 ∧
      (n.conv c).atTick = some k ∧ (n.conv c).met = true ∧ ((s.conv c).met = false → n.rd Reg.CONV_STATE.CAUSE c = k % 16 ∧
        n.rd Reg.CONV_COUNT.BLOCKS c = min 255 (s.rd Reg.CONV_COUNT.BLOCKS c + 1) ∧ n.rd Reg.CONV_EVENT.BLOCK = 1) ∧
      ((s.conv c).met = true → n.rd Reg.CONV_COUNT.BLOCKS c = s.rd Reg.CONV_COUNT.BLOCKS c)) ∧
  (∀ (s : State) (c : Nat), s.convCfg c = none →
    (∃ n, exec (.convDeblock c) s = .next n ∧ Effect [.host, .out] (some movesIrq) s n) ∧
    ∃ n, exec (.convBlock c) s = .next n ∧ Effect [.host, .out] (some movesIrq) s n) ∧
  (∀ (s : State) (c : Nat), c < 12 → (s.convCfg c).isSome = true → (s.deblocked c = true ∨ s.cvState c = cvResync) →
    ∃ n, exec (.convBlock c) s = .next n ∧ n.cvState c = cvBlocked ∧ n.rd Reg.CONV_STATE.CAUSE c = 8 ∧ n.rd Reg.CONV_CMD_LAST.RESULT c = 0 ∧
      n.rd Reg.CONV_CMD_LAST.OP c = 2 ∧ n.rd Reg.CONV_COUNT.BLOCKS c = min 255 (s.rd Reg.CONV_COUNT.BLOCKS c + 1) ∧
      n.rd Reg.CONV_EVENT.BLOCK = 1 ∧ n.rd Reg.CONV_RESIDUAL.E c = 0 ∧ (∀ a ∈ s.convArms c, (n.arm a).e = 0) ∧ n.faults = s.faults ∧
      keepsOthers Reg.CONV_STATE.STATE c s n ∧
      Effect [.faults, .host, .arms, .convs, .out] (some (movesIrq ++ movesFault ++ [Reg.CONV_CMD_LAST.OP, Reg.CONV_CMD_LAST.RESULT,
        Reg.CONV_COUNT.BLOCKS, Reg.CONV_EVENT.BLOCK, Reg.CONV_EVENT.COAST_LIMIT, Reg.CONV_EVENT.RESYNC_FAIL, Reg.CONV_EVENT_SRC.CONV,
        Reg.CONV_RESIDUAL.E, Reg.CONV_STATE.CAUSE, Reg.CONV_STATE.SLEWING, Reg.CONV_STATE.STATE, Reg.CONV_STATE_FRAME.FRAME])) s n) ∧
  (∀ (s : State) (c : Nat), c < 12 → (s.convCfg c).isSome = true → s.cvState c = cvBlocked →
    ∃ n, exec (.convBlock c) s = .next n ∧ n.rd Reg.CONV_CMD_LAST.RESULT c = 2 ∧ n.rd Reg.CONV_CMD_LAST.OP c = 2 ∧
      Effect [.host, .out] (some (movesIrq ++ [Reg.CONV_CMD_LAST.OP, Reg.CONV_CMD_LAST.RESULT])) s n) ∧
  (∀ (s : State) (c : Fin 12) (t : Nat), s.deblocked c.val = true → s.coastLimitFrames ≤ (s.conv c.val).coastRun →
    ∃ n, exec (.coastLimit c t) s = .next n ∧
      (s.fr.phase = .computed → n.cvState c.val = cvBlocked ∧ n.rd Reg.CONV_STATE.CAUSE c.val = 5 ∧ n.rd Reg.CONV_EVENT.COAST_LIMIT = 1 ∧
        (s.mayRaise = true → raises (s.elapse t) n 18 (16 * c.val + 5))) ∧
      (s.fr.phase = .frozen → n.cvState c.val = s.cvState c.val ∧
        (n.conv c.val).atRank = some (match (s.conv c.val).atRank with | some k => min k 5 | none => 5)) ∧
      Effect [.time, .faults, .host, .fr, .cells, .arms, .convs, .out] (some (movesTime ++ movesIrq ++ movesFault ++ [Reg.ARM_PTR.PTR,
        Reg.CONV_COUNT.BLOCKS, Reg.CONV_EVENT.BLOCK, Reg.CONV_EVENT.COAST_LIMIT, Reg.CONV_EVENT.RESYNC_FAIL, Reg.CONV_EVENT_SRC.CONV,
        Reg.CONV_RESIDUAL.E, Reg.CONV_STATE.CAUSE, Reg.CONV_STATE.SLEWING, Reg.CONV_STATE.STATE, Reg.CONV_STATE_FRAME.FRAME])) s n) ∧
  (∀ (s : State) (c : Fin 12) (t : Nat), (s.deblocked c.val = false ∨ (s.conv c.val).coastRun < s.coastLimitFrames) →
    ∃ n, exec (.coastLimit c t) s = .next n ∧ Effect [.time, .host, .fr, .out] (some (movesTime ++ movesIrq)) s n) ∧
  (∀ (s : State) (c : Fin 12) (t : Nat), (s.elapse t).tickNow = true → s.cvState c.val = cvResync →
    ((s.conv c.val).l1 : Int) ≤ s.resyncAge c.val → (s.redeblocks c.val = false ∨ ((s.conv c.val).l1 : Int) < s.resyncAge c.val) →
    ∃ n, exec (.resyncTimeout c t) s = .next n ∧ n.cvState c.val = cvBlocked ∧ n.rd Reg.CONV_STATE.CAUSE c.val = 6 ∧
      n.rd Reg.CONV_EVENT.RESYNC_FAIL = 1 ∧ n.rd Reg.CONV_RESIDUAL.E c.val = 0 ∧
      (s.mayRaise = true → raises (s.elapse t) n 18 (16 * c.val + 6)) ∧
      Effect [.time, .faults, .host, .fr, .arms, .convs, .out] (some (movesTime ++ movesIrq ++ movesFault ++ [Reg.CONV_COUNT.BLOCKS,
        Reg.CONV_EVENT.BLOCK, Reg.CONV_EVENT.COAST_LIMIT, Reg.CONV_EVENT.RESYNC_FAIL, Reg.CONV_EVENT_SRC.CONV, Reg.CONV_RESIDUAL.E,
        Reg.CONV_STATE.CAUSE, Reg.CONV_STATE.SLEWING, Reg.CONV_STATE.STATE, Reg.CONV_STATE_FRAME.FRAME])) s n) ∧
  (∀ (s : State) (c : Fin 12) (t : Nat), ((s.elapse t).tickNow = false ∨ s.cvState c.val ≠ cvResync ∨ s.resyncAge c.val < (s.conv c.val).l1 ∨
      s.redeblocks c.val = true ∧ s.resyncAge c.val ≤ (s.conv c.val).l1) →
    ∃ n, exec (.resyncTimeout c t) s = .next n ∧ Effect [.time, .host, .fr, .out] (some (movesTime ++ movesIrq)) s n) ∧
  (∀ (s : State) (c : Fin 12) (t : Nat), (s.elapse t).tickNow = true → s.redeblocks c.val = true →
    s.resyncAge c.val ≤ (s.conv c.val).l1 → (s.conv c.val).atTick = none →
    ∃ n, exec (.autoRedeblock c t) s = .next n ∧ n.cvState c.val = cvDeblocking ∧ n.rd Reg.CONV_EVENT.DEBLOCK = 1 ∧
      n.conv c.val = { s.conv c.val with ramped := false, shown := true } ∧
      Effect [.time, .host, .fr, .convs, .out] (some (movesTime ++ movesIrq ++ [Reg.CONV_EVENT.DEBLOCK, Reg.CONV_EVENT_SRC.CONV,
        Reg.CONV_STATE.STATE, Reg.CONV_STATE_FRAME.FRAME])) s n) ∧
  (∀ (s : State) (c : Fin 12) (t : Nat), ((s.elapse t).tickNow = false ∨ s.redeblocks c.val = false ∨
      ((s.conv c.val).l1 : Int) < s.resyncAge c.val ∨ (s.conv c.val).atTick.isSome = true) →
    ∃ n, exec (.autoRedeblock c t) s = .next n ∧ Effect [.time, .host, .fr, .out] (some (movesTime ++ movesIrq)) s n)

/-- Withdrawal of the ball (R201, R206, R208, Table 09-2): a heartbeat gap, an uncorrectable error, a lost rail, an error line or an
expired lease takes the ball from its plane with its cause; a COLD standby starts to wake, and with no standby the referee is LOST. A
fault of the plane that wakes or shadows ends the run; a further cause at the instant of a withdrawal leaves the lowest of codes 2 to 6;
of any other plane nothing is withdrawn. -/
def Obligations.WithdrawalWakesTheStandbyOrLoses : Prop :=
  (∀ (s : State) (p : Fin 2) (j : Fin 8) (t : Nat), s.role p.val = roActive → s.holder = p.val → s.referee.ball = true →
    s.referee.broken = false → s.refState = rsHeld → s.role (1 - p.val) = roCold →
    ∀ x ∈ [(Instr.heartbeatLoss p t, 2), (.planeEccError p j t, 3), (.planePgoodLoss p t, 4), (.planeErrorLine p t, 5)],
      ∃ n, exec x.1 s = .next n ∧ withdrawn (s.elapse t) n p.val x.2 ∧ n.role p.val = roUnfit ∧ n.refState = rsWake ∧
        n.role (1 - p.val) = roWaking ∧ n.referee.wake = .power ∧ n.rd Reg.REF_EVENT.UNFIT = 1 ∧ n.holder = s.holder ∧ n.convs = s.convs ∧
        n.referee.half0 = s.referee.half0 ∧ n.referee.half1 = s.referee.half1) ∧
  (∀ (s : State) (p : Fin 2) (j : Fin 8) (t : Nat), s.role p.val = roActive → s.holder = p.val → s.referee.ball = true →
    s.referee.broken = false → s.refState = rsHeld → s.role (1 - p.val) ≠ roCold →
    ∀ x ∈ [(Instr.heartbeatLoss p t, 2), (.planeEccError p j t, 3), (.planePgoodLoss p t, 4), (.planeErrorLine p t, 5)],
      ∃ n, exec x.1 s = .next n ∧ n.refState = rsLost ∧ n.referee.ball = false ∧ n.rd Reg.REF_TAKEOVER.LAST_CAUSE = x.2 ∧
        n.rd Reg.REF_STATUS.LEASE = 0 ∧ n.role p.val = roUnfit ∧
        n.role (1 - p.val) = (if s.role (1 - p.val) = roOff then roOff else roUnfit)) ∧
  (∀ (s : State) (t : Nat), s.referee.expiring = true → s.referee.ball = true → s.referee.broken = false → s.refState = rsHeld →
    s.holder ≤ 1 → s.role (1 - s.holder) = roCold →
    ∃ n, exec (.leaseExpiry t) s = .next n ∧ withdrawn (s.elapse t) n s.holder (if s.referee.forced then 6 else 1) ∧
      n.role s.holder = (if s.referee.forced = false ∧ s.referee.heartbeat = true then roCold else roUnfit) ∧ n.refState = rsWake ∧
      n.role (1 - s.holder) = roWaking ∧ n.referee.expiring = false ∧ n.referee.forced = false ∧
      Effect [.time, .power, .faults, .host, .fr, .cells, .arms, .engs, .convs, .referee, .out] (some (movesTime ++ movesIrq ++
        movesFault ++ [Reg.ARM_PTR.PTR, Reg.CONV_COUNT.BLOCKS, Reg.CONV_EVENT.BLOCK, Reg.CONV_EVENT.COAST_LIMIT,
        Reg.CONV_EVENT.RESYNC_FAIL, Reg.CONV_EVENT_SRC.CONV, Reg.CONV_RESIDUAL.E, Reg.CONV_STATE.CAUSE, Reg.CONV_STATE.SLEWING,
        Reg.CONV_STATE.STATE, Reg.CONV_STATE_FRAME.FRAME, Reg.DOMAIN_STATE.PLANE_A, Reg.DOMAIN_STATE.PLANE_B, Reg.ENG_EXPORT.VALUE,
        Reg.ENG_STATUS.BALL, Reg.ENG_STATUS.COLD, Reg.ENG_STATUS.SHADOW, Reg.POWER_PGOOD.PGOOD, Reg.REF_EVENT.UNFIT,
        Reg.REF_STATUS.LEASE, Reg.REF_STATUS.ROLE_A, Reg.REF_STATUS.ROLE_B, Reg.REF_STATUS.STATE, Reg.REF_TAKEOVER.LAST_CAUSE])) s n) ∧
  (∀ (s : State) (t : Nat), s.referee.expiring = false →
    ∃ n, exec (.leaseExpiry t) s = .next n ∧ Effect [.time, .host, .fr, .out] (some (movesTime ++ movesIrq)) s n) ∧
  (∀ (s : State) (p : Fin 2) (j : Fin 8) (t : Nat), (s.role p.val = roWaking ∨ s.role p.val = roShadow) → s.standby = p.val →
    s.refState = rsShadow →
    ∀ c ∈ [Instr.heartbeatLoss p t, .planeEccError p j t, .planePgoodLoss p t],
      ∃ n, exec c s = .next n ∧ n.refState = rsHeld ∧ n.role p.val = roUnfit ∧ n.rd Reg.REF_HT_STATUS.OUTCOME = 5 ∧
        n.referee.shadow = none ∧ n.referee.wake = .none ∧ n.referee.ball = s.referee.ball ∧ raises (s.elapse t) n 21 p.val ∧
        n.rd Reg.REF_STATUS.LEASE = s.rd Reg.REF_STATUS.LEASE) ∧
  (∀ (s : State) (p : Fin 2) (j : Fin 8) (t : Nat), s.referee.broken = false → s.referee.ball = false → s.holder = p.val →
    (s.elapse t).heldNow p.val = true →
    ∀ x ∈ [(Instr.heartbeatLoss p t, 2), (.planeEccError p j t, 3), (.planePgoodLoss p t, 4), (.planeErrorLine p t, 5)],
      ∃ n, exec x.1 s = .next n ∧ n.referee.ball = false ∧ n.refState = s.refState ∧ n.rd Reg.REF_TAKEOVER.LAST_CAUSE =
        (if s.rd Reg.REF_TAKEOVER.LAST_CAUSE ≠ 1 ∧ s.rd Reg.REF_TAKEOVER.LAST_CAUSE ≤ x.2 then s.rd Reg.REF_TAKEOVER.LAST_CAUSE else x.2)) ∧
  (∀ (s : State) (p : Fin 2) (j : Fin 8) (t : Nat), (s.elapse t).heldNow p.val = false → s.role p.val ≠ roWaking → s.role p.val ≠ roShadow →
    (∃ n, exec (.heartbeatLoss p t) s = .next n ∧ Effect [.time, .host, .fr, .out] (some (movesTime ++ movesIrq)) s n) ∧
    (∃ n, exec (.planeErrorLine p t) s = .next n ∧ Effect [.time, .host, .fr, .out] (some (movesTime ++ movesIrq)) s n) ∧
    (∃ n, exec (.planeEccError p j t) s = .next n ∧ n.rd Reg.ENG_ECC.UNCORRECTABLE (engOf p.val j.val) = 1 ∧
      Effect [.time, .host, .fr, .out] (some (movesTime ++ movesIrq ++ [Reg.ENG_ECC.UNCORRECTABLE])) s n) ∧
    ∃ n, exec (.planePgoodLoss p t) s = .next n ∧ n.power = { s.power with pgood := clrBit s.power.pgood (2 + p.val) } ∧
      Effect [.time, .power, .host, .fr, .out] (some (movesTime ++ movesIrq ++ [Reg.POWER_PGOOD.PGOOD])) s n) ∧
  (∀ (s : State) (t : Nat), s.refState = rsHeld →
    ∃ n, exec (.forceTakeover t) s = .next n ∧ n.referee = { s.referee with forced := true } ∧
      Effect [.time, .host, .fr, .referee, .out] (some (movesTime ++ movesIrq)) s n) ∧
  (∀ (s : State) (t : Nat), s.refState ≠ rsHeld →
    ∃ n, exec (.forceTakeover t) s = .next n ∧ Effect [.time, .host, .fr, .out] (some (movesTime ++ movesIrq)) s n)

/-- A takeover (R203, R207, R209): the standby takes the newest valid half, or the older one where that reads with an error, with
CKPT_OLD; with none the referee is LOST. The grant at the next tick gives it the ball and a full lease, counts it, and marks it late where
a step passed its bound; RESTART is set. -/
def Obligations.TakeoversLoadACheckpointAndGrant : Prop :=
  (∀ (s : State) (rel chk t i : Nat) (bad old : Bool), s.referee.wake = .memory → s.refState = rsWake →
    s.loadChoice bad = some (i, old) →
    ∃ n, exec (.checkpointLoadDone rel chk bad t) s = .next n ∧ n.referee.wake = .ready ∧ n.rd Reg.REF_CKPT.OLD_USED = b01 old ∧
      n.referee.late = (s.referee.late || decide (s.referee.withdrawnAt + 85000 < rel) || decide (s.referee.withdrawnAt + 90000 < chk) ||
        decide (s.referee.withdrawnAt + 130000 < (s.elapse t).time.ns)) ∧
      (∀ j, j < 8 → (n.eng (engOf s.standby j)).states = ((s.half i).places.getD j default).states ∧
        (n.eng (engOf s.standby j)).exports = ((s.half i).places.getD j default).exports ∧ (n.eng (engOf s.standby j)).running = false) ∧
      (∀ j, j < 8 → n.eng (engOf s.holder j) = s.eng (engOf s.holder j) ∨ s.standby = s.holder) ∧
      (old = true → n.rd Reg.REF_EVENT.CKPT_OLD = 1 ∧ raises (s.elapse t) n 23 i) ∧ (old = false → n.faults = s.faults) ∧
      n.refState = rsWake ∧ n.referee.ball = s.referee.ball ∧
      Effect [.time, .power, .faults, .host, .fr, .cells, .arms, .engs, .convs, .referee, .out] (some (movesTime ++ movesIrq ++
        movesFault ++ [Reg.ARM_PTR.PTR, Reg.CONV_COUNT.BLOCKS, Reg.CONV_EVENT.BLOCK, Reg.CONV_EVENT.COAST_LIMIT,
        Reg.CONV_EVENT.RESYNC_FAIL, Reg.CONV_EVENT_SRC.CONV, Reg.CONV_RESIDUAL.E, Reg.CONV_STATE.CAUSE, Reg.CONV_STATE.SLEWING,
        Reg.CONV_STATE.STATE, Reg.CONV_STATE_FRAME.FRAME, Reg.DOMAIN_STATE.PLANE_A, Reg.DOMAIN_STATE.PLANE_B, Reg.ENG_BANK.ACTIVE,
        Reg.ENG_EXPORT.VALUE, Reg.ENG_PARAM.VALUE, Reg.ENG_STATUS.BALL, Reg.ENG_STATUS.COLD, Reg.ENG_STATUS.SHADOW,
        Reg.POWER_PGOOD.PGOOD, Reg.REF_CKPT.OLD_USED, Reg.REF_EVENT.CKPT_OLD, Reg.REF_EVENT.UNFIT, Reg.REF_HT_STATUS.OUTCOME,
        Reg.REF_STATUS.LEASE, Reg.REF_STATUS.ROLE_A, Reg.REF_STATUS.ROLE_B, Reg.REF_STATUS.STATE])) s n) ∧
  (∀ (s : State) (rel chk t : Nat) (bad : Bool), s.referee.wake = .memory → s.refState = rsWake → s.referee.broken = false →
    s.loadChoice bad = none →
    ∃ n, exec (.checkpointLoadDone rel chk bad t) s = .next n ∧ n.refState = rsLost ∧ n.rd Reg.REF_CKPT.OLD_USED = 0 ∧
      n.referee.ball = false ∧ n.referee.wake = .none) ∧
  (∀ (s : State) (rel chk t : Nat) (bad : Bool), s.referee.wake = .memory → s.refState = rsShadow →
    ∃ n, exec (.checkpointLoadDone rel chk bad t) s = .next n ∧ n.referee = { s.referee with wake := .ready } ∧
      Effect [.time, .host, .fr, .out, .referee] (some (movesTime ++ movesIrq)) s n) ∧
  (∀ (s : State) (rel chk t : Nat) (bad : Bool), s.referee.wake ≠ .memory →
    ∃ n, exec (.checkpointLoadDone rel chk bad t) s = .next n ∧ Effect [.time, .host, .fr, .out] (some (movesTime ++ movesIrq)) s n) ∧
  (∀ (s : State) (t : Nat), s.refState = rsWake → s.referee.wake = .ready → s.referee.broken = false →
    ∃ n, exec (.takeoverGrant t) s = .next n ∧ n.refState = rsHeld ∧ n.holder = s.standby ∧ n.role s.standby = roActive ∧
      n.referee.ball = true ∧ n.referee.restart = true ∧ n.rd Reg.REF_STATUS.LEASE = s.cfg.limits.lease % 32 ∧
      n.rd Reg.REF_TAKEOVER.COUNT = min 255 (s.rd Reg.REF_TAKEOVER.COUNT + 1) ∧ n.rd Reg.REF_TAKEOVER.GAP = min 255 s.referee.gap ∧
      n.rd Reg.REF_TAKEOVER.US = min 255 (((s.elapse t).time.ns - s.referee.withdrawnAt) / 1000) ∧
      n.rd Reg.REF_TAKEOVER.LATE = b01 s.referee.late ∧ n.rd Reg.REF_EVENT.TAKEOVER = 1 ∧ n.fr = { (s.elapse t).fr with history := [] } ∧
      (s.referee.late = true → raises (s.elapse t) n 44 (min 65535 (((s.elapse t).time.ns - s.referee.withdrawnAt) / 1000))) ∧
      (s.referee.late = false → n.faults = s.faults) ∧
      Effect [.time, .power, .faults, .host, .fr, .engs, .referee, .out] (some (movesTime ++ movesIrq ++ movesFault ++
        [Reg.DOMAIN_STATE.PLANE_A, Reg.DOMAIN_STATE.PLANE_B, Reg.ENG_EXPORT.VALUE, Reg.ENG_STATUS.BALL, Reg.ENG_STATUS.COLD,
        Reg.ENG_STATUS.SHADOW, Reg.PLAN_FORECAST.ENG_NEED, Reg.PLAN_FORECAST.FAB_NEED, Reg.PLAN_LEVEL.STATIC, Reg.POWER_PGOOD.PGOOD,
        Reg.REF_EVENT.TAKEOVER, Reg.REF_EVENT.UNFIT, Reg.REF_STATUS.HOLDER, Reg.REF_STATUS.LEASE, Reg.REF_STATUS.ROLE_A,
        Reg.REF_STATUS.ROLE_B, Reg.REF_STATUS.STATE, Reg.REF_TAKEOVER.COUNT, Reg.REF_TAKEOVER.GAP, Reg.REF_TAKEOVER.LATE,
        Reg.REF_TAKEOVER.US, Reg.REF_TAKEOVER_FRAME.FRAME])) s n) ∧
  (∀ (s : State) (t : Nat), (s.refState ≠ rsWake ∨ s.referee.wake ≠ .ready ∨ s.referee.broken = true) →
    ∃ n, exec (.takeoverGrant t) s = .next n ∧ Effect [.time, .host, .fr, .out] (some (movesTime ++ movesIrq)) s n)

/-- Half-time and revive (R200, R208, R215): a run in which every frame matched hands the ball to the other plane without RESTART, or
makes the revived plane COLD. REVIVE is honoured in HELD with the other plane UNFIT and below shedding step 3; without DRAM its wake fails
(the model's choice, assumption 34); HALFTIME_NOW asks for the next half-time. -/
def Obligations.HalftimeHandsOverAndReviveReturnsAPlane : Prop :=
  (∀ (s : State) (t : Nat), ∃ n, exec (.halftimeNow t) s = .next n ∧ n.referee = { s.referee with now := true } ∧
    Effect [.time, .host, .fr, .referee, .out] (some (movesTime ++ movesIrq)) s n) ∧
  (∀ (s : State) (t : Nat), s.refState = rsShadow → s.shadowComplete false = true → s.holder ≤ 1 →
    ∃ n, exec (.halftimeHandover t) s = .next n ∧ n.refState = rsHeld ∧ n.holder = 1 - s.holder ∧ n.role (1 - s.holder) = roActive ∧
      n.role s.holder = roCold ∧ n.referee.ball = true ∧ n.referee.restart = s.referee.restart ∧ n.rd Reg.REF_HT_STATUS.OUTCOME = 1 ∧
      n.rd Reg.REF_HT_STATUS.COUNT = min 255 (s.rd Reg.REF_HT_STATUS.COUNT + 1) ∧ n.rd Reg.REF_EVENT.HANDOVER = 1 ∧
      n.rd Reg.REF_STATUS.LEASE = s.cfg.limits.lease % 32 ∧ n.referee.shadow = none ∧
      Effect [.time, .power, .host, .fr, .engs, .referee, .out] (some (movesTime ++ movesIrq ++ [Reg.DOMAIN_STATE.PLANE_A,
        Reg.DOMAIN_STATE.PLANE_B, Reg.ENG_EXPORT.VALUE, Reg.ENG_STATUS.BALL, Reg.ENG_STATUS.COLD, Reg.ENG_STATUS.SHADOW,
        Reg.PLAN_FORECAST.ENG_NEED, Reg.PLAN_FORECAST.FAB_NEED, Reg.PLAN_LEVEL.STATIC, Reg.POWER_PGOOD.PGOOD, Reg.REF_EVENT.HANDOVER,
        Reg.REF_EVENT.UNFIT, Reg.REF_HT_STATUS.COUNT, Reg.REF_HT_STATUS.OUTCOME, Reg.REF_STATUS.HOLDER, Reg.REF_STATUS.LEASE,
        Reg.REF_STATUS.ROLE_A, Reg.REF_STATUS.ROLE_B, Reg.REF_STATUS.STATE])) s n) ∧
  (∀ (s : State) (t : Nat), (s.refState ≠ rsShadow ∨ s.shadowComplete false = false) →
    ∃ n, exec (.halftimeHandover t) s = .next n ∧ Effect [.time, .host, .fr, .out] (some (movesTime ++ movesIrq)) s n) ∧
  (∀ (s : State) (t : Nat), s.refState = rsHeld → s.role s.standby = roUnfit → s.rd Reg.POWER_SHED.STEP < 3 →
    s.load.dram = true →
    ∃ n, exec (.revive t) s = .next n ∧ n.refState = rsShadow ∧ n.role s.standby = roWaking ∧ n.referee.shadow = some ⟨true, none⟩ ∧
      n.referee.wake = .power ∧ n.rd Reg.REF_HT_STATUS.MATCHED = 0 ∧ n.referee.ball = s.referee.ball ∧
      (∀ j g, j < 8 → s.graph j = some g → (n.eng (engOf s.standby j)).states = g.init ∧ (n.eng (engOf s.standby j)).bankA = g.bankA ∧
        (n.eng (engOf s.standby j)).bankB = g.bankB) ∧
      Effect [.time, .power, .faults, .host, .fr, .cells, .arms, .engs, .convs, .referee, .out] (some (movesTime ++ movesIrq ++
        movesFault ++ [Reg.ARM_PTR.PTR, Reg.CONV_COUNT.BLOCKS, Reg.CONV_EVENT.BLOCK, Reg.CONV_EVENT.COAST_LIMIT,
        Reg.CONV_EVENT.RESYNC_FAIL, Reg.CONV_EVENT_SRC.CONV, Reg.CONV_RESIDUAL.E, Reg.CONV_STATE.CAUSE, Reg.CONV_STATE.SLEWING,
        Reg.CONV_STATE.STATE, Reg.CONV_STATE_FRAME.FRAME, Reg.DOMAIN_STATE.PLANE_A, Reg.DOMAIN_STATE.PLANE_B, Reg.ENG_EXPORT.VALUE,
        Reg.ENG_STATUS.BALL, Reg.ENG_STATUS.COLD, Reg.ENG_STATUS.SHADOW, Reg.POWER_PGOOD.PGOOD, Reg.REF_EVENT.UNFIT,
        Reg.REF_HT_STATUS.MATCHED, Reg.REF_HT_STATUS.OUTCOME, Reg.REF_STATUS.LEASE, Reg.REF_STATUS.ROLE_A, Reg.REF_STATUS.ROLE_B,
        Reg.REF_STATUS.STATE])) s n) ∧
  (∀ (s : State) (t : Nat), s.refState = rsHeld → s.role s.standby = roUnfit → s.rd Reg.POWER_SHED.STEP < 3 → s.load.dram = false →
    ∃ n, exec (.revive t) s = .next n ∧ n.refState = rsHeld ∧ n.role s.standby = roUnfit ∧ n.rd Reg.REF_HT_STATUS.OUTCOME = 5 ∧
      n.referee.ball = s.referee.ball ∧ raises (s.elapse t) n 21 s.standby ∧
      (∀ e, (n.eng e).states = (s.eng e).states ∧ (n.eng e).exports = (s.eng e).exports ∧ (n.eng e).bankA = (s.eng e).bankA ∧
        (n.eng e).bankB = (s.eng e).bankB)) ∧
  (∀ (s : State) (t : Nat), (s.refState ≠ rsHeld ∨ s.role s.standby ≠ roUnfit ∨ 3 ≤ s.rd Reg.POWER_SHED.STEP) →
    ∃ n, exec (.revive t) s = .next n ∧ Effect [.time, .host, .fr, .out] (some (movesTime ++ movesIrq)) s n) ∧
  (∀ (s : State) (t : Nat), s.refState = rsShadow → s.shadowComplete true = true →
    ∃ n, exec (.reviveComplete t) s = .next n ∧ n.refState = rsHeld ∧ n.role s.standby = roCold ∧ n.rd Reg.REF_HT_STATUS.OUTCOME = 4 ∧
      n.referee.shadow = none ∧ n.referee.ball = s.referee.ball ∧ n.holder = s.holder ∧
      Effect [.time, .power, .host, .fr, .engs, .referee, .out] (some (movesTime ++ movesIrq ++ [Reg.DOMAIN_STATE.PLANE_A,
        Reg.DOMAIN_STATE.PLANE_B, Reg.ENG_EXPORT.VALUE, Reg.ENG_STATUS.BALL, Reg.ENG_STATUS.COLD, Reg.ENG_STATUS.SHADOW,
        Reg.POWER_PGOOD.PGOOD, Reg.REF_EVENT.UNFIT, Reg.REF_HT_STATUS.OUTCOME, Reg.REF_STATUS.ROLE_A, Reg.REF_STATUS.ROLE_B,
        Reg.REF_STATUS.STATE])) s n) ∧
  (∀ (s : State) (t : Nat), (s.refState ≠ rsShadow ∨ s.shadowComplete true = false) →
    ∃ n, exec (.reviveComplete t) s = .next n ∧ Effect [.time, .host, .fr, .out] (some (movesTime ++ movesIrq)) s n)

/-- The pair link (R216, R217): a PAIR packet of the partner on the pair port, from a device of the same image, is taken at once: who
holds, its number, and whether one is missing; its items wait for the next frame's rank window. Four frames without one are silence. -/
def Obligations.PairPacketsAreTakenAndSilenceIsJudged : Prop :=
  (∀ (s : State) (port : Fin 4) (b : List Byte) (ok : Bool) (t : Nat), s.pairEnabled = true → s.pairPort = some port.val → s.pairLinkUp = true →
    s.pairSameImage = true → 112 ≤ b.length → ((pairRecords (u16At b 2) (b.drop 112)).filter fun r => u8At r 0 == 5) = [] →
    ∃ n, exec (.pairPacket port s.pairNode ⟨b, ok⟩ t) s = .next n ∧ n.rd Reg.REF_PAIR.PARTNER_HOLDS = u8At b 0 % 2 ∧
      n.pair.arrived = true ∧ n.pair.rxSeq = some (u32At b 8) ∧ n.pair.waiting = s.pair.waiting ++ [(s.frameNo, b)] ∧
      n.pair.partnerState = u8At b 1 ∧ n.pair.full = (if hasBit (u8At b 0) 1 then some (s.pair.full.getD s.frameNo) else s.pair.full) ∧
      n.pair.resync = (s.pair.resync || (match s.pair.rxSeq with | some x => decide ((x + 1) % 4294967296 ≠ u32At b 8) | none => false)) ∧
      n.rd Reg.BB_STATUS.RX_IDLE port.val = 0 ∧ n.journal = s.journal ∧
      Effect [.time, .faults, .host, .fr, .pair, .journal, .out] (some (movesTime ++ movesIrq ++ movesFault ++ [Reg.BB_STATUS.RX_IDLE,
        Reg.JRN_ACCEPTED.COUNT, Reg.JRN_EVENT.MRAM_FAIL, Reg.JRN_SRC_LAST.LAST, Reg.JRN_STATUS.FILL, Reg.JRN_STATUS.MRAM_OK,
        Reg.JRN_STATUS.PAIR_MIRROR, Reg.REF_PAIR.PARTNER_HOLDS])) s n) ∧
  (∀ (s : State) (port : Fin 4) (src : Nat) (b : List Byte) (ok : Bool) (t : Nat), (s.pairEnabled = false ∨ s.pairPort ≠ some port.val ∨
      src ≠ s.pairNode ∨ s.pairLinkUp = false ∨ s.pairSameImage = false ∨ b.length < 112) →
    ∃ n, exec (.pairPacket port src ⟨b, ok⟩ t) s = .next n ∧ Effect [.time, .host, .fr, .out] (some (movesTime ++ movesIrq)) s n) ∧
  (∀ (s : State) (t : Nat), s.pairEnabled = true → s.pair.arrived = false → 3 ≤ s.pair.silent →
    ∃ n, exec (.pairSilence t) s = .next n ∧ n.pair = { s.pair with silent := 4, msgFrames := 0 } ∧ n.rd Reg.REF_PAIR.LINK_OK = 0 ∧
      Effect [.time, .host, .fr, .pair, .out] (some (movesTime ++ movesIrq ++ [Reg.REF_PAIR.LINK_OK])) s n) ∧
  (∀ (s : State) (t : Nat), (s.pairEnabled = false ∨ s.pair.arrived = true ∨ s.pair.silent < 3) →
    ∃ n, exec (.pairSilence t) s = .next n ∧ Effect [.time, .host, .fr, .out] (some (movesTime ++ movesIrq)) s n)

/-- The command ring (R219, R346, R347, Table 09-9): the next entry is taken where the rings are ready; one of this epoch, of the format
of its opcode and with the next seq begins its acceptance; a repeated one, a gap, a full journal, another epoch and a bad format are
counted and answered with their status, and leave the journal as it is. A write of the completion head takes the completion source out of
the pending ones. -/
def Obligations.CommandEntriesAreJudgedInOrder : Prop :=
  (∀ (s : State) (b : List Byte) (t : Nat), s.ringReady = true → u32At b 4 = s.epoch →
    formatOk (u8At b 8) (u8At b 9) (slice b 16 88) = true → signed 32 (u32At b 0 + 4294967296 - s.lastSeq 0) = 1 →
    s.journal.recs.length + s.journal.writing.length < 1024 →
    ∃ n r, exec (.hostCommandTake b t) s = .next n ∧ n.journal = { s.journal with writing := s.journal.writing ++ [r] } ∧
      r.seq = u32At b 0 ∧ r.epoch = s.epoch ∧ r.source = 0 ∧ r.opcode = u8At b 8 ∧ r.args = slice b 16 (u8At b 9) ∧
      r.ns = (s.elapse t).count ∧ r.frameExec = none ∧ r.slot = s.freeSlot ∧
      n.rd Reg.JRN_CMD_HEAD.INDEX = (s.rd Reg.JRN_CMD_HEAD.INDEX % s.cmdSize + 1) % s.cmdSize ∧
      n.rd Reg.JRN_SRC_LAST.LAST = s.rd Reg.JRN_SRC_LAST.LAST ∧
      Effect [.time, .host, .fr, .pair, .journal, .out] (some (movesTime ++ movesIrq ++ [Reg.BB_STATUS.TX_IDLE, Reg.JRN_BUSY.BUSY,
        Reg.JRN_BUSY.OTHER, Reg.JRN_CMD_HEAD.INDEX, Reg.JRN_CPL_TAIL.INDEX, Reg.JRN_EVENT.FULL, Reg.JRN_REFUSE.GAP,
        Reg.JRN_REFUSE.REPEATED, Reg.JRN_RING_STATUS.PHASE, Reg.JRN_RING_STATUS.WAIT_CPL])) s n) ∧
  (∀ (s : State) (b : List Byte) (t : Nat), s.ringReady = true → u32At b 4 = s.epoch →
    formatOk (u8At b 8) (u8At b 9) (slice b 16 88) = true → 1 < signed 32 (u32At b 0 + 4294967296 - s.lastSeq 0) →
    ∃ n, exec (.hostCommandTake b t) s = .next n ∧ n.journal = s.journal ∧ answered s n 2 ∧
      n.rd Reg.JRN_REFUSE.GAP = min 65535 (s.rd Reg.JRN_REFUSE.GAP + 1)) ∧
  (∀ (s : State) (b : List Byte) (t : Nat), s.ringReady = true → u32At b 4 = s.epoch →
    formatOk (u8At b 8) (u8At b 9) (slice b 16 88) = true → signed 32 (u32At b 0 + 4294967296 - s.lastSeq 0) ≤ 0 →
    ∃ n, exec (.hostCommandTake b t) s = .next n ∧ n.journal = s.journal ∧ answered s n 1 ∧
      n.rd Reg.JRN_REFUSE.REPEATED = min 65535 (s.rd Reg.JRN_REFUSE.REPEATED + 1)) ∧
  (∀ (s : State) (b : List Byte) (t : Nat), s.ringReady = true → u32At b 4 = s.epoch →
    formatOk (u8At b 8) (u8At b 9) (slice b 16 88) = true → signed 32 (u32At b 0 + 4294967296 - s.lastSeq 0) = 1 →
    1024 ≤ s.journal.recs.length + s.journal.writing.length →
    ∃ n, exec (.hostCommandTake b t) s = .next n ∧ n.journal = s.journal ∧ answered s n 3 ∧ n.rd Reg.JRN_EVENT.FULL = 1 ∧
      n.rd Reg.JRN_BUSY.BUSY = min 65535 (s.rd Reg.JRN_BUSY.BUSY + 1)) ∧
  (∀ (s : State) (b : List Byte) (t : Nat), s.ringReady = true → (u32At b 4 ≠ s.epoch ∨
      formatOk (u8At b 8) (u8At b 9) (slice b 16 88) = false) →
    ∃ n, exec (.hostCommandTake b t) s = .next n ∧ n.journal = s.journal ∧ answered s n (if u32At b 4 ≠ s.epoch then 4 else 5) ∧
      n.rd Reg.JRN_BUSY.OTHER = min 65535 (s.rd Reg.JRN_BUSY.OTHER + 1)) ∧
  (∀ (s : State) (b : List Byte) (t : Nat), s.ringReady = false →
    ∃ n, exec (.hostCommandTake b t) s = .next n ∧
      Effect [.time, .host, .fr, .out] (some (movesTime ++ movesIrq ++ [Reg.JRN_RING_STATUS.WAIT_CPL])) s n) ∧
  (∀ (s : State) (v : Nat), ∃ n, exec (.ringRestart true v) s = .next n ∧ n.rd Reg.JRN_CPL_BASE_HI.ADDR = v % 4294967296 ∧
    n.rd Reg.JRN_CPL_HEAD.INDEX = 0 ∧ n.rd Reg.JRN_CPL_TAIL.INDEX = 0 ∧ n.rd Reg.JRN_RING_STATUS.PHASE = 1 ∧
    n.rd Reg.JRN_RING_STATUS.STOPPED = 0 ∧ n.rd Reg.JRN_CMD_HEAD.INDEX = s.rd Reg.JRN_CMD_HEAD.INDEX ∧
    (∀ k, Tbl.look 0 s.wrHold (Reg.JRN_CPL_BASE_LO.ADDR.at 0 0) = k + 1 → n.rd Reg.JRN_CPL_BASE_LO.ADDR = k % 4294967296) ∧
    (Tbl.look 0 s.wrHold (Reg.JRN_CPL_BASE_LO.ADDR.at 0 0) = 0 → n.rd Reg.JRN_CPL_BASE_LO.ADDR = s.rd Reg.JRN_CPL_BASE_LO.ADDR) ∧
    Effect [.wrHold, .host, .out] (some (movesIrq ++ [Reg.JRN_CMD_BASE_HI.ADDR, Reg.JRN_CMD_BASE_LO.ADDR, Reg.JRN_CMD_HEAD.INDEX,
      Reg.JRN_CMD_TAIL.INDEX, Reg.JRN_CPL_BASE_HI.ADDR, Reg.JRN_CPL_BASE_LO.ADDR, Reg.JRN_CPL_HEAD.INDEX, Reg.JRN_CPL_TAIL.INDEX,
      Reg.JRN_RING_STATUS.PHASE, Reg.JRN_RING_STATUS.STOPPED, Reg.JRN_RING_STATUS.WAIT_CPL])) s n) ∧
  (∀ (s : State) (v : Nat), ∃ n, exec (.ringRestart false v) s = .next n ∧ n.rd Reg.JRN_CMD_BASE_HI.ADDR = v % 4294967296 ∧
    n.rd Reg.JRN_CMD_HEAD.INDEX = 0 ∧ n.rd Reg.JRN_CMD_TAIL.INDEX = 0 ∧ n.rd Reg.JRN_RING_STATUS.PHASE = 1 ∧
    n.rd Reg.JRN_RING_STATUS.STOPPED = 0 ∧ n.rd Reg.JRN_CPL_TAIL.INDEX = s.rd Reg.JRN_CPL_TAIL.INDEX ∧
    Effect [.wrHold, .host, .out] (some (movesIrq ++ [Reg.JRN_CMD_BASE_HI.ADDR, Reg.JRN_CMD_BASE_LO.ADDR, Reg.JRN_CMD_HEAD.INDEX,
      Reg.JRN_CMD_TAIL.INDEX, Reg.JRN_CPL_BASE_HI.ADDR, Reg.JRN_CPL_BASE_LO.ADDR, Reg.JRN_CPL_HEAD.INDEX, Reg.JRN_CPL_TAIL.INDEX,
      Reg.JRN_RING_STATUS.PHASE, Reg.JRN_RING_STATUS.STOPPED, Reg.JRN_RING_STATUS.WAIT_CPL])) s n) ∧
  (∀ (s : State) (v : Nat), ∃ n, exec (.jrnCplHeadWrite v) s = .next n ∧ n.rd Reg.JRN_CPL_HEAD.INDEX = v % 4096 ∧
    n.host.cplPending = false ∧ hasBit (n.rd Reg.HOST_IRQ_PENDING.SOURCE) 10 = false ∧
    n.rd Reg.JRN_RING_STATUS.WAIT_CPL = b01 (n.on Reg.JRN_CMD_CFG.EN && n.rd Reg.JRN_CMD_HEAD.INDEX % n.cmdSize != n.rd Reg.JRN_CMD_TAIL.INDEX % n.cmdSize &&
      decide (n.cplFree < 2 + n.owed)) ∧
    Effect [.host, .out] (some (movesIrq ++ [Reg.JRN_CPL_HEAD.INDEX, Reg.JRN_RING_STATUS.WAIT_CPL])) s n) ∧
  (∀ (s : State) (t : Nat), ∃ n, exec (.ringPcieError t) s = .next n ∧ n.rd Reg.JRN_RING_STATUS.STOPPED = 1 ∧
    (s.mayRaise = true → raises (s.elapse t) n 30 0) ∧
    Effect [.time, .faults, .host, .fr, .out] (some (movesTime ++ movesIrq ++ movesFault ++ [Reg.JRN_RING_STATUS.STOPPED])) s n)

/-- Acceptance, mirror and epochs (R219, R220, R223, R224, R225): the oldest acceptance under way is held with its time, counted and
acknowledged, one that cannot be written is answered BUSY, and a mirror that does not read back is failed; enabling the mirror copies
every record; a new epoch in KICK-OFF empties the journal. -/
def Obligations.AcceptedRecordsAreHeldMirroredAndRetired : Prop :=
  (∀ (s : State) (ok : Bool) (t : Nat) (r : JrnRec) (l : List JrnRec), s.journal.writing = r :: l → r.source < 16 →
    (s.mirrors = false ∨ ok = true) →
    ∃ n, exec (.journalRecordCommitted ⟨true, ok⟩ t) s = .next n ∧
      n.journal = { s.journal with writing := l, recs := s.journal.recs ++ [{ r with ns := if r.dueFrame.isSome then r.ns else (s.elapse t).count }],
                                   old := s.journal.old.filter fun x => x.slot != r.slot } ∧
      n.rd Reg.JRN_SRC_LAST.LAST r.source = r.seq % 4294967296 ∧
      n.rd Reg.JRN_ACCEPTED.COUNT = (s.rd Reg.JRN_ACCEPTED.COUNT + 1) % 4294967296 ∧
      n.rd Reg.JRN_STATUS.FILL = (s.journal.recs.length + 1) % 2048 ∧ n.faults = s.faults ∧
      n.rd Reg.JRN_STATUS.PAIR_MIRROR = b01 (r.dueFrame.isSome && s.pairLinkUp) ∧
      (r.source = 0 → s.rd Reg.JRN_CPL_CFG.EN ≠ 0 → s.rd Reg.JRN_RING_STATUS.STOPPED = 0 → 0 < s.cplFree → answered s n 0) ∧
      keepsOthers Reg.JRN_SRC_LAST.LAST r.source s n ∧
      Effect [.time, .faults, .host, .fr, .journal, .out] (some (movesTime ++ movesIrq ++ movesFault ++ [Reg.BB_STATUS.TX_IDLE,
        Reg.JRN_ACCEPTED.COUNT, Reg.JRN_BUSY.BUSY, Reg.JRN_CPL_TAIL.INDEX, Reg.JRN_EVENT.MRAM_FAIL, Reg.JRN_REFUSE.GAP,
        Reg.JRN_RING_STATUS.PHASE, Reg.JRN_RING_STATUS.WAIT_CPL, Reg.JRN_SRC_LAST.LAST, Reg.JRN_STATUS.FILL, Reg.JRN_STATUS.MRAM_OK,
        Reg.JRN_STATUS.PAIR_MIRROR])) s n) ∧
  (∀ (s : State) (t : Nat) (r : JrnRec) (l : List JrnRec), s.journal.writing = r :: l → s.mirrors = true →
    ∃ n, exec (.journalRecordCommitted ⟨true, false⟩ t) s = .next n ∧ n.journal.mramFailed = true ∧ n.rd Reg.JRN_EVENT.MRAM_FAIL = 1 ∧
      n.rd Reg.JRN_STATUS.MRAM_OK = 0 ∧ raises (s.elapse t) n 29 0) ∧
  (∀ (s : State) (ok : Bool) (t : Nat) (r : JrnRec) (l : List JrnRec), s.journal.writing = r :: l →
    ∃ n, exec (.journalRecordCommitted ⟨false, ok⟩ t) s = .next n ∧
      n.journal = { s.journal with writing := l.filter fun x => x.source != r.source } ∧
      n.rd Reg.JRN_BUSY.BUSY = min 65535 (s.rd Reg.JRN_BUSY.BUSY + 1) ∧
      (∀ k, n.rd Reg.JRN_SRC_LAST.LAST k = s.rd Reg.JRN_SRC_LAST.LAST k) ∧
      (r.source = 0 → s.rd Reg.JRN_CPL_CFG.EN ≠ 0 → s.rd Reg.JRN_RING_STATUS.STOPPED = 0 → 0 < s.cplFree → answered s n 3)) ∧
  (∀ (s : State) (w : RecordIn) (t : Nat), s.journal.writing = [] →
    ∃ n, exec (.journalRecordCommitted w t) s = .next n ∧ Effect [.time, .host, .fr, .out] (some (movesTime ++ movesIrq)) s n) ∧
  (∀ (s : State) (v t : Nat) (rb : Bool), v % 2 = 1 → s.rd Reg.JRN_MRAM_CFG.EN = 0 →
    ∃ n, exec (.jrnMramEnable v rb t) s = .next n ∧ n.rd Reg.JRN_MRAM_CFG.EN = 1 ∧ n.rd Reg.JRN_MRAM_CFG.QUAD = v / 2 % 2 ∧
      n.rd Reg.JRN_MRAM_CFG.DIV = v / 256 % 256 ∧ n.journal = { s.journal with mramFailed := !rb } ∧
      n.rd Reg.JRN_STATUS.MRAM_OK = b01 rb ∧
      (∀ k, k < 1024 → .mram (leBytes 3 (0x1000 + 128 * k) ++ (match (s.journal.recs ++ s.journal.old).find? fun r => r.slot == k with
        | some r => r.bytes | none => List.replicate 128 0)) ∈ n.out) ∧
      (rb = false → n.rd Reg.JRN_EVENT.MRAM_FAIL = 1 ∧ raises (s.elapse t) n 29 0) ∧
      Effect [.time, .faults, .host, .fr, .journal, .out] (some (movesTime ++ movesIrq ++ movesFault ++ [Reg.JRN_EVENT.MRAM_FAIL,
        Reg.JRN_MRAM_CFG.DIV, Reg.JRN_MRAM_CFG.EN, Reg.JRN_MRAM_CFG.QUAD, Reg.JRN_STATUS.MRAM_OK])) s n) ∧
  (∀ (s : State) (v t : Nat) (rb : Bool), (v % 2 = 0 ∨ s.rd Reg.JRN_MRAM_CFG.EN ≠ 0) →
    ∃ n, exec (.jrnMramEnable v rb t) s = .next n ∧ n.journal = s.journal ∧
      Effect [.time, .host, .fr, .out] (some (movesTime ++ movesIrq ++ [Reg.JRN_MRAM_CFG.DIV, Reg.JRN_MRAM_CFG.QUAD])) s n) ∧
  (∀ (s : State) (v t : Nat) (rb : Bool), v % 2 = 0 → s.rd Reg.JRN_MRAM_CFG.EN ≠ 0 →
    ∃ n, exec (.jrnMramDisable v rb t) s = .next n ∧ n.rd Reg.JRN_MRAM_CFG.EN = 0 ∧ n.rd Reg.JRN_STATUS.MRAM_OK = 0 ∧
      s.out ++ [.mram (leBytes 3 0 ++ s.mramHeader false)] <+: n.out ∧
      n.journal = { s.journal with mramFailed := s.journal.mramFailed || !rb } ∧
      Effect [.time, .faults, .host, .fr, .journal, .out] (some (movesTime ++ movesIrq ++ movesFault ++ [Reg.JRN_EVENT.MRAM_FAIL,
        Reg.JRN_MRAM_CFG.DIV, Reg.JRN_MRAM_CFG.EN, Reg.JRN_MRAM_CFG.QUAD, Reg.JRN_STATUS.MRAM_OK])) s n) ∧
  (∀ (s : State) (v t : Nat) (rb : Bool), (v % 2 = 1 ∨ s.rd Reg.JRN_MRAM_CFG.EN = 0) →
    ∃ n, exec (.jrnMramDisable v rb t) s = .next n ∧ Effect [.time, .host, .fr, .out] (some (movesTime ++ movesIrq)) s n) ∧
  (∀ (s : State) (v rnd t : Nat) (ok : Bool), v % 2 = 1 → v / 65536 % 65536 = 0x5AE1 → s.device = stKickOff →
    ∃ n, exec (.newEpoch v ⟨rnd, ok⟩ t) s = .next n ∧
      n.epoch = (if s.journal.epochOk = true ∧ s.epoch ≠ 0 then (if s.epoch = 4294967295 then 1 else (s.epoch + 1) % 4294967296)
        else rnd % 4294967295 + 1) ∧
      n.journal = { s.journal with recs := [], old := [], writing := [], epochOk := true,
                                   mramFailed := s.journal.mramFailed || (s.mirrors && !ok) } ∧ n.rd Reg.JRN_STATUS.EPOCH_CAUSE = 4 ∧
      n.rd Reg.JRN_EVENT.NEW_EPOCH = 1 ∧ n.rd Reg.JRN_EXEC.COUNT = 0 ∧ n.rd Reg.JRN_ACCEPTED.COUNT = 0 ∧ n.rd Reg.JRN_STATUS.FILL = 0 ∧
      (∀ k, n.rd Reg.JRN_SRC_LAST.LAST k = 0) ∧
      Effect [.time, .faults, .host, .fr, .journal, .out] (some (movesTime ++ movesIrq ++ movesFault ++ [Reg.BB_STATUS.TX_IDLE,
        Reg.JRN_ACCEPTED.COUNT, Reg.JRN_BUSY.OTHER, Reg.JRN_CPL_TAIL.INDEX, Reg.JRN_EPOCH.EPOCH, Reg.JRN_EVENT.MRAM_FAIL,
        Reg.JRN_EVENT.NEW_EPOCH, Reg.JRN_EXEC.COUNT, Reg.JRN_RING_STATUS.PHASE, Reg.JRN_SRC_LAST.LAST, Reg.JRN_STATUS.EPOCH_CAUSE,
        Reg.JRN_STATUS.FILL, Reg.JRN_STATUS.MRAM_OK])) s n) ∧
  (∀ (s : State) (v t : Nat) (r : EpochIn), (v % 2 = 0 ∨ v / 65536 % 65536 ≠ 0x5AE1 ∨ s.device ≠ stKickOff) →
    ∃ n, exec (.newEpoch v r t) s = .next n ∧ Effect [.time, .host, .fr, .out] (some (movesTime ++ movesIrq)) s n) ∧
  (∀ (s : State) (h : Fin 2), ∃ n, exec (.jrnHalfRebuilt h) s = .next n ∧
    n.journal = { s.journal with badHalves := s.journal.badHalves.filter (· != h.val) } ∧
    n.rd (if h.val = 0 then Reg.JRN_STATUS.HALF0_OK else Reg.JRN_STATUS.HALF1_OK) = 1 ∧
    Effect [.host, .journal, .out] (some (movesIrq ++ [Reg.JRN_STATUS.HALF0_OK, Reg.JRN_STATUS.HALF1_OK])) s n)

/-- SAR bursts and ΔΣ outputs (R226, R228, R230, R233 to R235, R238, R239): a burst of a converter that runs makes it BUSY with what was
committed; a conversion gives the rounded, clamped code, the scaled value, and the flags and settle count of Table 10-2, and the last of
the burst ends BUSY; a read of the result holds the value of the same result; a commit that would break the fit of a burst at PERIOD_MIN
is refused. An output of a declared ΔΣ channel is the sinc filter's, scaled, and is VALID only with the link up and no settling output
left; EN starts the reference, which is READY 1.5 ms later. -/
def Obligations.ConverterResultsAndTheReference : Prop :=
  (∀ (s : State) (c : Fin 8) (t : Nat), s.sarRuns c.val = true →
    ∃ n, exec (.adcBurstStart c t) s = .next n ∧ hasBit (n.rd Reg.ADC_STATUS.BUSY) c.val = true ∧ (n.sar c.val).staged = none ∧
      (n.sar c.val).entries = (match (s.sar c.val).staged with | some x => x.entries | none => (s.sar c.val).entries) ∧
      (∀ k, k ≠ c.val → n.sar k = s.sar k ∧ hasBit (n.rd Reg.ADC_STATUS.BUSY) k = hasBit (s.rd Reg.ADC_STATUS.BUSY % 256) k) ∧
      Effect [.time, .host, .fr, .adc, .out] (some (movesTime ++ movesIrq ++ [Reg.ADC_CTRL.COMMIT, Reg.ADC_SEQ_BURST.LENGTH,
        Reg.ADC_SEQ_BURST.START, Reg.ADC_STATUS.BUSY])) s n) ∧
  (∀ (s : State) (c : Fin 8) (t : Nat), s.sarRuns c.val = false →
    ∃ n, exec (.adcBurstStart c t) s = .next n ∧ Effect [.time, .host, .fr, .out] (some (movesTime ++ movesIrq)) s n) ∧
  (∀ (s : State) (c : Fin 8) (e : Fin 32) (v raw value : Int) (t g : Nat) (x : AdcEntry), (s.sar c.val).entries[e.val]? = some x →
    hasBit (s.rd Reg.ADC_STATUS.BUSY) c.val = true → g = (s.sar c.val).inputs.getD x.input 0 →
    raw = clampI (-32768) 32767 ((v * 2 ^ (g % 4) * 8 + 500000).fdiv 1000000) →
    value = sat32 (rshr (raw * x.scale) x.shift + x.offset) →
    ∃ n, exec (.adcResult c e v t) s = .next n ∧ n.rdS Reg.ADC_ENTRY_RESULT.RAW c.val e.val = raw ∧
      Tbl.look 0 (n.sar c.val).latest e.val = value ∧ (Tbl.look default n.adc.slots (32 * c.val + e.val)).value = value ∧
      (hasBit (n.rd Reg.ADC_ENTRY_RESULT.FLAGS c.val e.val) 0 = true ↔
        s.on Reg.ADC_REF.READY = true ∧ s.on Reg.ADC_REF.FAULT = false ∧ Tbl.look 0 (s.sar c.val).settle e.val = 0 ∧ g / 4 ≠ 0 ∧
          ((s.sar c.val).lastInput = some x.input ∨ 20 ≤ x.acq)) ∧
      (hasBit (n.rd Reg.ADC_ENTRY_RESULT.FLAGS c.val e.val) 5 = true ↔ raw = -32768 ∨ raw = 32767) ∧
      Tbl.look 0 (n.sar c.val).settle e.val = Tbl.look 0 (s.sar c.val).settle e.val - 1 ∧
      hasBit (n.rd Reg.ADC_STATUS.BUSY) c.val = decide (e.val + 1 ≠ (s.sar c.val).entries.length) ∧
      Effect [.time, .host, .fr, .adc, .out] (some (movesTime ++ movesIrq ++ [Reg.ADC_ENTRY_RESULT.FLAGS, Reg.ADC_ENTRY_RESULT.RAW,
        Reg.ADC_ENTRY_RESULT.SETTLE, Reg.ADC_EVENT.WINDOW, Reg.ADC_SEQ_COUNT.INVALID, Reg.ADC_SEQ_WIN_EVENT.EVENT, Reg.ADC_STATUS.BUSY,
        Reg.ADC_STATUS.CLIP, Reg.ADC_STATUS.INVALID])) s n) ∧
  (∀ (s : State) (c : Fin 8) (e : Fin 32) (v : Int) (t : Nat),
    ((s.sar c.val).entries[e.val]? = none ∨ hasBit (s.rd Reg.ADC_STATUS.BUSY) c.val = false) →
    ∃ n, exec (.adcResult c e v t) s = .next n ∧ Effect [.time, .host, .fr, .out] (some (movesTime ++ movesIrq)) s n) ∧
  (∀ (s : State) (c : Fin 8) (e : Fin 32), -2147483648 ≤ Tbl.look 0 (s.sar c.val).latest e.val →
    Tbl.look 0 (s.sar c.val).latest e.val ≤ 2147483647 →
    ∃ n, exec (.adcResultRead c e) s = .next n ∧ n.rdS Reg.ADC_ENTRY_VALUE.VALUE c.val e.val = Tbl.look 0 (s.sar c.val).latest e.val ∧
      Effect [.host, .out] (some (movesIrq ++ [Reg.ADC_ENTRY_VALUE.VALUE])) s n) ∧
  (∀ (s : State) (t : Nat), (∀ c, c < 8 → burstFits (s.stagedSar c).entries s.cfg.frame.pmin s.cfg.frame.sample s.cfg.frame.freeze = true) →
    ∃ n, exec (.adcCommit t) s = .next n ∧ n.rd Reg.ADC_EVENT.CFG_REFUSED = s.rd Reg.ADC_EVENT.CFG_REFUSED ∧
      (∀ c, c < 8 → s.sarRuns c = true → (n.sar c).staged.map (·.entries) = some (s.stagedSar c).entries ∧
        (n.sar c).entries = (s.sar c).entries) ∧
      (∀ c, c < 8 → s.sarRuns c = false → (n.sar c).staged = none ∧ (n.sar c).entries = (s.stagedSar c).entries) ∧
      Effect [.time, .host, .fr, .adc, .out] (some (movesTime ++ movesIrq ++ [Reg.ADC_CTRL.COMMIT, Reg.ADC_DS_CFG.LOG2R,
        Reg.ADC_DS_CFG.ORDER, Reg.ADC_DS_CFG.SHIFT, Reg.ADC_DS_OFFSET.VALUE, Reg.ADC_DS_SCALE.VALUE, Reg.ADC_ENTRY_CFG.ACQ,
        Reg.ADC_ENTRY_CFG.INPUT, Reg.ADC_ENTRY_CFG.SHIFT, Reg.ADC_ENTRY_CFG.WIN_EN, Reg.ADC_ENTRY_OFFSET.VALUE,
        Reg.ADC_ENTRY_SCALE.VALUE, Reg.ADC_ENTRY_WIN_HI.VALUE, Reg.ADC_ENTRY_WIN_LO.VALUE, Reg.ADC_EVENT.CFG_REFUSED, Reg.ADC_IN_CFG.EN,
        Reg.ADC_IN_CFG.GAIN, Reg.ADC_SEQ_BURST.LENGTH, Reg.ADC_SEQ_BURST.START])) s n) ∧
  (∀ (s : State) (t c : Nat), c < 8 →
    burstFits (s.stagedSar c).entries s.cfg.frame.pmin s.cfg.frame.sample s.cfg.frame.freeze = false →
    ∃ n, exec (.adcCommit t) s = .next n ∧ n.rd Reg.ADC_EVENT.CFG_REFUSED = 1 ∧ n.adc = s.adc) ∧
  (∀ (s : State) (u k : Fin 4) (b : List Bool) (t c : Nat) (d : DsSt) (l m : List Int) (y raw : Int), c = 4 * u.val + k.val → d = s.dsCh c →
    u.val < s.silicon.variant.drives → d.cfg.order ≠ 0 → d.staged = none →
    l = b.foldl (fun l x => sincBit (if x then 1 else -1) l) (if d.integ.isEmpty then List.replicate d.cfg.order 0 else d.integ) →
    (y, m) = sincComb (l.getLastD 0) (if d.comb.isEmpty then List.replicate d.cfg.order 0 else d.comb) →
    raw = sat32 (if d.cfg.order * d.cfg.log2r ≤ 30 then y * 2 ^ (30 - d.cfg.order * d.cfg.log2r)
      else rshr y (d.cfg.order * d.cfg.log2r - 30)) →
    ∃ n, exec (.dsOutput u k b t) s = .next n ∧ (n.dsCh c).integ = l ∧ (n.dsCh c).comb = m ∧ (n.dsCh c).settle = d.settle - 1 ∧
      (n.dsCh c).out = some ⟨sat32 (rshr (raw * d.cfg.scale) d.cfg.shift + d.cfg.offset), raw, n.rd Reg.ADC_DS_RESULT.FLAGS c, d.settle - 1,
        (s.elapse t).count⟩ ∧
      n.rd Reg.ADC_DS_RESULT.FLAGS c = b01 (s.on Reg.DRV_STATUS.LINK u.val && decide (d.settle = 0)) + 4 * b01 (decide (0 < d.settle))
        + 16 * b01 (!s.on Reg.DRV_STATUS.LINK u.val) ∧
      (∀ j, j ≠ c → n.dsCh j = s.dsCh j) ∧
      Effect [.time, .host, .fr, .adc, .drives, .out] (some (movesTime ++ movesIrq ++ [Reg.ADC_CTRL.COMMIT, Reg.ADC_DS_RESULT.FLAGS,
        Reg.ADC_DS_RESULT.SETTLE, Reg.ADC_DS_VALUE.VALUE, Reg.ADC_EVENT.DS_INVALID, Reg.DRV_LEG_STATUS.DESAT_HS,
        Reg.DRV_LEG_STATUS.DESAT_LS, Reg.DRV_LEG_STATUS.GATES_OFF, Reg.DRV_LEG_STATUS.INSTANT, Reg.DRV_LEG_STATUS.VB_UV,
        Reg.DRV_STATUS.LEG_FAULT])) s n) ∧
  (∀ (s : State) (u k : Fin 4) (b : List Bool) (t : Nat), s.silicon.variant.drives ≤ u.val → (s.drv u.val).probeEnd = none →
    ∃ n, exec (.dsOutput u k b t) s = .next n ∧ Effect [.time, .host, .fr, .out] (some (movesTime ++ movesIrq)) s n) ∧
  (∀ (s : State) (t : Nat), s.rd Reg.ADC_REF.EN = 0 → s.power.analogOff = false →
    ∃ n, exec (.adcRefEnable t) s = .next n ∧ n.rd Reg.ADC_REF.EN = 1 ∧ n.adc.refSince = (s.elapse t).time.ns ∧
      n.rd Reg.ADC_REF.READY = s.rd Reg.ADC_REF.READY ∧
      Effect [.time, .host, .fr, .adc, .out] (some (movesTime ++ movesIrq ++ [Reg.ADC_REF.EN])) s n) ∧
  (∀ (s : State) (t : Nat), (s.rd Reg.ADC_REF.EN ≠ 0 ∨ s.power.analogOff = true) →
    ∃ n, exec (.adcRefEnable t) s = .next n ∧ n.adc = s.adc ∧ n.rd Reg.ADC_REF.EN = s.rd Reg.ADC_REF.EN) ∧
  (∀ (s : State) (t : Nat), s.rd Reg.ADC_REF.EN ≠ 0 → s.rd Reg.ADC_REF.READY = 0 → s.adc.refSince + 1500000 ≤ (s.elapse t).time.ns →
    ∃ n, exec (.adcRefReady t) s = .next n ∧ n.rd Reg.ADC_REF.READY = 1 ∧ n.rd Reg.ADC_EVENT.REF_READY = 1 ∧
      Effect [.time, .host, .fr, .out] (some (movesTime ++ movesIrq ++ [Reg.ADC_EVENT.REF_READY, Reg.ADC_REF.READY])) s n) ∧
  (∀ (s : State) (t : Nat), (s.rd Reg.ADC_REF.EN = 0 ∨ (s.elapse t).time.ns < s.adc.refSince + 1500000) →
    ∃ n, exec (.adcRefReady t) s = .next n ∧ n.rd Reg.ADC_REF.READY = s.rd Reg.ADC_REF.READY)

/-- The housekeeping round (R229, R241, R242, R391, R392, R394): from step 4 of kick-off, in RUN and HOLD, a round reads every item; a
temperature is VALID inside −55 °C to 175 °C with neither test failed; the reference outside its band sets FAULT; the hottest valid logic
or memory reading is shown; 125 °C latches the shutdown and ends in KEEP-ONLY. -/
def Obligations.HousekeepingRoundsJudgeHeatAndReference : Prop :=
  (∀ (s : State) (t : Nat), s.power.held = false → (s.device = stKickOff ∨ s.device = stRun ∨ s.device = stHold) →
    ∃ n, exec (.hkRoundStart t) s = .next n ∧ n.adc.hkStart = some (s.elapse t).count ∧
      Effect [.time, .host, .fr, .adc, .out] (some (movesTime ++ movesIrq)) s n) ∧
  (∀ (s : State) (t : Nat), (s.power.held = true ∨ s.device = stDormant ∨ s.device = stKeepOnly) →
    ∃ n, exec (.hkRoundStart t) s = .next n ∧ n.adc = s.adc) ∧
  (∀ (s : State) (r : List (Nat × Bool × Bool)) (t a : Nat) (x : Nat → Nat × Bool × Bool), s.adc.hkStart = some a →
    x = (fun i => r.getD i (0, false, false)) → (∀ i, i < 14 → (x i).1 % 4096 < 1512) →
    ∃ n, exec (.hkRoundDone r t) s = .next n ∧ n.adc.hkStart = none ∧ n.adc.hkDone = a ∧
      n.rd Reg.ADC_HK_ROUND.COUNT = min 4294967295 (s.rd Reg.ADC_HK_ROUND.COUNT + 1) ∧
      (∀ i, i < 20 → n.rd Reg.ADC_HK.VALUE i = (x i).1 % 4096) ∧ (∀ i, 20 ≤ i → i < 44 → n.rd Reg.ADC_HK.VALUE i = (x i).1 % 65536) ∧
      (∀ i, i < 14 → (n.rd Reg.ADC_HK.VALID i = 1 ↔ (x i).2 = (false, false) ∧ 72 ≤ (x i).1 % 4096 ∧ (x i).1 % 4096 ≤ 1912)) ∧
      ((∃ i, i < 14 ∧ n.rd Reg.ADC_HK.VALID i = 1) → n.rd Reg.THERMAL_STATUS.NO_SENSOR = 0 ∧
        (∀ i, i < 14 → n.rd Reg.ADC_HK.VALID i = 1 → n.rd Reg.ADC_HK.VALUE i ≤ n.rd Reg.THERMAL_STATUS.HOT)) ∧
      ((∀ i, i < 14 → n.rd Reg.ADC_HK.VALID i = 0) → n.rd Reg.THERMAL_STATUS.NO_SENSOR = 1 ∧ n.rd Reg.THERMAL_BAND.MEM = 3) ∧
      (((x 37).1 % 65536 < 4076 ∨ 4116 < (x 37).1 % 65536) → n.rd Reg.ADC_REF.FAULT = 1 ∨ s.rd Reg.ADC_REF.FAULT ≠ 0)) ∧
  (∀ (s : State) (r : List (Nat × Bool × Bool)) (t a i v : Nat), s.adc.hkStart = some a → i < 14 → r[i]? = some (v, false, false) →
    1512 ≤ v → v ≤ 1912 →
    ∃ n, exec (.hkRoundDone r t) s = .next n ∧ n.rd Reg.THERMAL_STATUS.SHUT_LATCH = 1 ∧ n.device = stKeepOnly ∧ n.power.held = true ∧
      n.power.pgood = 0 ∧ n.rd Reg.FAULT_STATE.FATAL = 1 ∧ n.rd Reg.FAULT_STATE.FAULT_N = 0) ∧
  (∀ (s : State) (r : List (Nat × Bool × Bool)) (t : Nat), s.adc.hkStart = none →
    ∃ n, exec (.hkRoundDone r t) s = .next n ∧ Effect [.time, .host, .fr, .out] (some (movesTime ++ movesIrq)) s n)

/-- Trips and the unit latch (R248, R251 to R258): a DESAT or instant trip turns its leg off, records itself and counts for the latch,
which takes the cause that the trips before it give; an interlock or a bootstrap undervoltage holds gates off; the latch is cleared by the
unlock code while its inputs are inactive, VDRV and the link good, else the clear is refused. -/
def Obligations.TripsTurnLegsOffAndLatch : Prop :=
  (∀ (s a : State) (d : DrvIn) (x : Fin 4) (high : Bool) (t : Nat), a = s.drvElapse d.unit.val t → a.desatSeen d.unit.val x.val high = true →
    ∃ n, exec (.desatTrip d x high t) s = .next n ∧ tripped a n d.unit.val x.val (if high then 1 else 2) d.inputs ∧
      (a.on Reg.DRV_STATUS.LINK d.unit.val = true → ((a.drv d.unit.val).act.mode ≠ mdMotor ∨ (n.drv d.unit.val).latched ≠ 0) →
        n.rd (if high then Reg.DRV_LEG_STATUS.DESAT_HS else Reg.DRV_LEG_STATUS.DESAT_LS) d.unit.val x.val = 1) ∧
      Effect [.time, .faults, .host, .fr, .drives, .motors, .out] (some (movesTime ++ movesIrq ++ movesFault ++ [Reg.DRV_CARRIER_ACT.TOP,
        Reg.DRV_EVENT.LATCH, Reg.DRV_EVENT.TRIP, Reg.DRV_LEG_STATUS.CMP_ACT, Reg.DRV_LEG_STATUS.DESAT_HS, Reg.DRV_LEG_STATUS.DESAT_LS,
        Reg.DRV_LEG_STATUS.GATES_OFF, Reg.DRV_LEG_STATUS.INPUT_ACTIVE, Reg.DRV_LEG_STATUS.INSTANT, Reg.DRV_LEG_STATUS.MODE_ACT,
        Reg.DRV_LEG_STATUS.VB_UV, Reg.DRV_STATUS.LATCHED, Reg.DRV_STATUS.LATCH_CAUSE, Reg.DRV_STATUS.LEG_FAULT, Reg.DRV_TRIP.COUNT,
        Reg.DRV_TRIP.LAST_CAUSE, Reg.DRV_TRIP.LAST_LEG, Reg.DRV_TRIP_NS_HI.NS, Reg.DRV_TRIP_NS_LO.NS, Reg.MOT_BUS.CHOP_D,
        Reg.MOT_COUNT.CHOP_FAULTS, Reg.MOT_EVENT.CHOP_FAULT, Reg.MOT_EVENT.OBS_LOST, Reg.MOT_EVENT.STATE, Reg.MOT_STATE.CHOP_FAULT,
        Reg.MOT_STATE.STATE])) s n) ∧
  (∀ (s a : State) (d : DrvIn) (x : Fin 4) (high : Bool) (t : Nat), a = s.drvElapse d.unit.val t → a.desatSeen d.unit.val x.val high = false →
    ∃ n, exec (.desatTrip d x high t) s = .next n ∧ Effect [.host, .out] (some movesIrq) a n ∧
      Effect [.time, .faults, .host, .fr, .drives, .motors, .out] (some (movesTime ++ movesIrq ++ movesFault ++ [Reg.DRV_CARRIER_ACT.TOP,
        Reg.DRV_EVENT.LATCH, Reg.DRV_EVENT.TRIP, Reg.DRV_LEG_STATUS.CMP_ACT, Reg.DRV_LEG_STATUS.DESAT_HS, Reg.DRV_LEG_STATUS.DESAT_LS,
        Reg.DRV_LEG_STATUS.GATES_OFF, Reg.DRV_LEG_STATUS.INPUT_ACTIVE, Reg.DRV_LEG_STATUS.INSTANT, Reg.DRV_LEG_STATUS.MODE_ACT,
        Reg.DRV_LEG_STATUS.VB_UV, Reg.DRV_STATUS.LATCHED, Reg.DRV_STATUS.LATCH_CAUSE, Reg.DRV_STATUS.LEG_FAULT, Reg.DRV_TRIP.COUNT,
        Reg.DRV_TRIP.LAST_CAUSE, Reg.DRV_TRIP.LAST_LEG, Reg.DRV_TRIP_NS_HI.NS, Reg.DRV_TRIP_NS_LO.NS, Reg.MOT_BUS.CHOP_D,
        Reg.MOT_COUNT.CHOP_FAULTS, Reg.MOT_EVENT.CHOP_FAULT, Reg.MOT_EVENT.OBS_LOST, Reg.MOT_EVENT.STATE, Reg.MOT_STATE.CHOP_FAULT,
        Reg.MOT_STATE.STATE])) s n) ∧
  (∀ (s a : State) (d : DrvIn) (x : Fin 3) (t : Nat), a = s.drvElapse d.unit.val t → s.hasUnit d.unit.val = true →
    ∃ n, exec (.instantTrip d x t) s = .next n ∧ tripped a n d.unit.val x.val 3 d.inputs ∧
      (a.on Reg.DRV_STATUS.LINK d.unit.val = true → ((a.drv d.unit.val).act.mode ≠ mdMotor ∨ (n.drv d.unit.val).latched ≠ 0) →
        n.rd Reg.DRV_LEG_STATUS.INSTANT d.unit.val x.val = 1) ∧
      Effect [.time, .faults, .host, .fr, .drives, .motors, .out] (some (movesTime ++ movesIrq ++ movesFault ++ [Reg.DRV_CARRIER_ACT.TOP,
        Reg.DRV_EVENT.LATCH, Reg.DRV_EVENT.TRIP, Reg.DRV_LEG_STATUS.CMP_ACT, Reg.DRV_LEG_STATUS.DESAT_HS, Reg.DRV_LEG_STATUS.DESAT_LS,
        Reg.DRV_LEG_STATUS.GATES_OFF, Reg.DRV_LEG_STATUS.INPUT_ACTIVE, Reg.DRV_LEG_STATUS.INSTANT, Reg.DRV_LEG_STATUS.MODE_ACT,
        Reg.DRV_LEG_STATUS.VB_UV, Reg.DRV_STATUS.LATCHED, Reg.DRV_STATUS.LATCH_CAUSE, Reg.DRV_STATUS.LEG_FAULT, Reg.DRV_TRIP.COUNT,
        Reg.DRV_TRIP.LAST_CAUSE, Reg.DRV_TRIP.LAST_LEG, Reg.DRV_TRIP_NS_HI.NS, Reg.DRV_TRIP_NS_LO.NS, Reg.MOT_BUS.CHOP_D,
        Reg.MOT_COUNT.CHOP_FAULTS, Reg.MOT_EVENT.CHOP_FAULT, Reg.MOT_EVENT.OBS_LOST, Reg.MOT_EVENT.STATE, Reg.MOT_STATE.CHOP_FAULT,
        Reg.MOT_STATE.STATE])) s n) ∧
  (∀ (s : State) (d : DrvIn) (x : Fin 3) (t : Nat), s.hasUnit d.unit.val = false →
    ∃ n, exec (.instantTrip d x t) s = .next n ∧ Effect [.host, .out] (some movesIrq) (s.drvElapse d.unit.val t) n ∧
      Effect [.time, .faults, .host, .fr, .drives, .motors, .out] (some (movesTime ++ movesIrq ++ movesFault ++ [Reg.DRV_CARRIER_ACT.TOP,
        Reg.DRV_EVENT.LATCH, Reg.DRV_EVENT.TRIP, Reg.DRV_LEG_STATUS.CMP_ACT, Reg.DRV_LEG_STATUS.DESAT_HS, Reg.DRV_LEG_STATUS.DESAT_LS,
        Reg.DRV_LEG_STATUS.GATES_OFF, Reg.DRV_LEG_STATUS.INPUT_ACTIVE, Reg.DRV_LEG_STATUS.INSTANT, Reg.DRV_LEG_STATUS.MODE_ACT,
        Reg.DRV_LEG_STATUS.VB_UV, Reg.DRV_STATUS.LATCHED, Reg.DRV_STATUS.LATCH_CAUSE, Reg.DRV_STATUS.LEG_FAULT, Reg.DRV_TRIP.COUNT,
        Reg.DRV_TRIP.LAST_CAUSE, Reg.DRV_TRIP.LAST_LEG, Reg.DRV_TRIP_NS_HI.NS, Reg.DRV_TRIP_NS_LO.NS, Reg.MOT_BUS.CHOP_D,
        Reg.MOT_COUNT.CHOP_FAULTS, Reg.MOT_EVENT.CHOP_FAULT, Reg.MOT_EVENT.OBS_LOST, Reg.MOT_EVENT.STATE, Reg.MOT_STATE.CHOP_FAULT,
        Reg.MOT_STATE.STATE])) s n) ∧
  (∀ (s a : State) (u x : Fin 4) (t : Nat), a = s.drvElapse u.val t → s.hasUnit u.val = true → a.rd Reg.DRV_STATUS.LINK u.val ≠ 0 →
    ∃ n, exec (.gateInterlock u x t) s = .next n ∧
      n.rd Reg.DRV_LEG_COUNT.INTERLOCK u.val x.val = min 255 (a.rd Reg.DRV_LEG_COUNT.INTERLOCK u.val x.val + 1) ∧
      (n.leg u.val x.val).interlock = true ∧ (n.leg u.val x.val).hs.on = false ∧ (n.leg u.val x.val).ls.on = false ∧
      n.rd Reg.DRV_LEG_STATUS.GATES_OFF u.val x.val = 1 ∧
      (a.rd Reg.DRV_LEG_COUNT.INTERLOCK u.val x.val = 0 → a.mayRaise = true → raises a n 35 (4 * u.val + x.val)) ∧
      (a.rd Reg.DRV_LEG_COUNT.INTERLOCK u.val x.val ≠ 0 → n.faults = a.faults) ∧
      Effect [.time, .faults, .host, .fr, .drives, .out] (some (movesTime ++ movesIrq ++ movesFault ++ [Reg.DRV_LEG_COUNT.INTERLOCK,
        Reg.DRV_LEG_STATUS.DESAT_HS, Reg.DRV_LEG_STATUS.DESAT_LS, Reg.DRV_LEG_STATUS.GATES_OFF, Reg.DRV_LEG_STATUS.INSTANT,
        Reg.DRV_LEG_STATUS.VB_UV, Reg.DRV_STATUS.LEG_FAULT])) s n) ∧
  (∀ (s a : State) (u x : Fin 4) (t : Nat), a = s.drvElapse u.val t → (s.hasUnit u.val = false ∨ a.rd Reg.DRV_STATUS.LINK u.val = 0) →
    ∃ n, exec (.gateInterlock u x t) s = .next n ∧ Effect [.host, .out] (some movesIrq) a n ∧
      Effect [.time, .faults, .host, .fr, .drives, .out] (some (movesTime ++ movesIrq ++ movesFault ++ [Reg.DRV_LEG_COUNT.INTERLOCK,
        Reg.DRV_LEG_STATUS.DESAT_HS, Reg.DRV_LEG_STATUS.DESAT_LS, Reg.DRV_LEG_STATUS.GATES_OFF, Reg.DRV_LEG_STATUS.INSTANT,
        Reg.DRV_LEG_STATUS.VB_UV, Reg.DRV_STATUS.LEG_FAULT])) s n) ∧
  (∀ (s a : State) (u x : Fin 4) (t : Nat), a = s.drvElapse u.val t → s.hasUnit u.val = true → (a.leg u.val x.val).hsSent = true →
    ∃ n, exec (.vbUndervoltage u x t) s = .next n ∧ (n.leg u.val x.val).vbUv = true ∧ (n.leg u.val x.val).hs.on = false ∧
      (n.leg u.val x.val).hsSent = true ∧ (n.leg u.val x.val).lsSent = (a.leg u.val x.val).lsSent ∧
      (a.rd Reg.DRV_STATUS.LINK u.val ≠ 0 → n.rd Reg.DRV_LEG_STATUS.VB_UV u.val x.val = 1 ∧
        hasBit (n.rd Reg.DRV_STATUS.LEG_FAULT u.val) x.val = true) ∧
      (∀ k, k ≠ x.val → n.leg u.val k = a.leg u.val k) ∧
      Effect [.time, .host, .fr, .drives, .out] (some (movesTime ++ movesIrq ++ [Reg.DRV_LEG_STATUS.DESAT_HS,
        Reg.DRV_LEG_STATUS.DESAT_LS, Reg.DRV_LEG_STATUS.GATES_OFF, Reg.DRV_LEG_STATUS.INPUT_ACTIVE, Reg.DRV_LEG_STATUS.INSTANT,
        Reg.DRV_LEG_STATUS.VB_UV, Reg.DRV_STATUS.LEG_FAULT])) s n) ∧
  (∀ (s a : State) (u x : Fin 4) (t : Nat), a = s.drvElapse u.val t → (s.hasUnit u.val = false ∨ (a.leg u.val x.val).hsSent = false) →
    ∃ n, exec (.vbUndervoltage u x t) s = .next n ∧ Effect [.host, .out] (some movesIrq) a n ∧
      Effect [.time, .host, .fr, .drives, .out] (some (movesTime ++ movesIrq ++ [Reg.DRV_LEG_STATUS.DESAT_HS,
        Reg.DRV_LEG_STATUS.DESAT_LS, Reg.DRV_LEG_STATUS.GATES_OFF, Reg.DRV_LEG_STATUS.INPUT_ACTIVE, Reg.DRV_LEG_STATUS.INSTANT,
        Reg.DRV_LEG_STATUS.VB_UV, Reg.DRV_STATUS.LEG_FAULT])) s n) ∧
  (∀ (s a : State) (d : DrvIn) (v t : Nat), a = s.drvElapse d.unit.val t → s.hasUnit d.unit.val = true → hasBit v 2 = true →
    bitsOf v 16 16 = 0x6C1D → a.rd Reg.DRV_STATUS.LATCHED d.unit.val ≠ 0 → a.rd Reg.DRV_STATUS.VDRV_OK d.unit.val ≠ 0 →
    a.rd Reg.DRV_STATUS.LINK d.unit.val ≠ 0 → (∀ x, x < 4 → legInputs d.inputs x = false) →
    ∃ n, exec (.drvLatchClear d v t) s = .next n ∧ n.rd Reg.DRV_STATUS.LATCHED d.unit.val = 0 ∧
      n.rd Reg.DRV_STATUS.LATCH_CAUSE d.unit.val = 0 ∧ (n.drv d.unit.val).trips = [] ∧ (n.drv d.unit.val).latched = 0 ∧
      n.rd Reg.MOT_STATE.CHOP_FAULT d.unit.val = 0 ∧ n.rd Reg.DRV_CTRL.MODE d.unit.val = v % 4 ∧
      n.mstate d.unit.val = (if a.mstate d.unit.val = msFault then (if a.on Reg.DRV_STATUS.ENABLE d.unit.val then msIdle else msSafeOff)
        else a.mstate d.unit.val) ∧
      Effect [.time, .faults, .host, .fr, .drives, .motors, .out] (some (movesTime ++ movesIrq ++ movesFault ++ [Reg.DRV_CARRIER_ACT.TOP,
        Reg.DRV_CTRL.MODE, Reg.DRV_EVENT.CLEAR_REFUSED, Reg.DRV_LEG_COUNT.FULL_ON, Reg.DRV_LEG_COUNT.INTERLOCK,
        Reg.DRV_LEG_COUNT.SUPPRESSED, Reg.DRV_LEG_STATUS.CMP_ACT, Reg.DRV_LEG_STATUS.DESAT_HS, Reg.DRV_LEG_STATUS.DESAT_LS,
        Reg.DRV_LEG_STATUS.GATES_OFF, Reg.DRV_LEG_STATUS.INPUT_ACTIVE, Reg.DRV_LEG_STATUS.INSTANT, Reg.DRV_LEG_STATUS.MODE_ACT,
        Reg.DRV_LEG_STATUS.VB_UV, Reg.DRV_STATUS.LATCHED, Reg.DRV_STATUS.LATCH_CAUSE, Reg.DRV_STATUS.LEG_FAULT, Reg.DRV_TRIP.COUNT,
        Reg.MOT_EVENT.OBS_LOST, Reg.MOT_EVENT.STATE, Reg.MOT_STATE.CHOP_FAULT, Reg.MOT_STATE.STATE])) s n) ∧
  (∀ (s a : State) (d : DrvIn) (v t : Nat), a = s.drvElapse d.unit.val t → s.hasUnit d.unit.val = true → hasBit v 2 = true →
    bitsOf v 16 16 = 0x6C1D → a.rd Reg.DRV_STATUS.LATCHED d.unit.val ≠ 0 → (a.rd Reg.DRV_STATUS.VDRV_OK d.unit.val = 0 ∨
      a.rd Reg.DRV_STATUS.LINK d.unit.val = 0 ∨ ∃ x, x < 4 ∧ legInputs d.inputs x = true) →
    ∃ n, exec (.drvLatchClear d v t) s = .next n ∧ n.rd Reg.DRV_EVENT.CLEAR_REFUSED d.unit.val = 1 ∧
      n.drv d.unit.val = { a.drv d.unit.val with inputs := d.inputs } ∧ n.motors = a.motors ∧
      n.rd Reg.DRV_STATUS.LATCHED d.unit.val = a.rd Reg.DRV_STATUS.LATCHED d.unit.val ∧ n.rd Reg.DRV_CTRL.MODE d.unit.val = v % 4 ∧
      Effect [.time, .faults, .host, .fr, .drives, .motors, .out] (some (movesTime ++ movesIrq ++ movesFault ++ [Reg.DRV_CARRIER_ACT.TOP,
        Reg.DRV_CTRL.MODE, Reg.DRV_EVENT.CLEAR_REFUSED, Reg.DRV_LEG_COUNT.FULL_ON, Reg.DRV_LEG_COUNT.INTERLOCK,
        Reg.DRV_LEG_COUNT.SUPPRESSED, Reg.DRV_LEG_STATUS.CMP_ACT, Reg.DRV_LEG_STATUS.DESAT_HS, Reg.DRV_LEG_STATUS.DESAT_LS,
        Reg.DRV_LEG_STATUS.GATES_OFF, Reg.DRV_LEG_STATUS.INPUT_ACTIVE, Reg.DRV_LEG_STATUS.INSTANT, Reg.DRV_LEG_STATUS.MODE_ACT,
        Reg.DRV_LEG_STATUS.VB_UV, Reg.DRV_STATUS.LATCHED, Reg.DRV_STATUS.LATCH_CAUSE, Reg.DRV_STATUS.LEG_FAULT, Reg.DRV_TRIP.COUNT,
        Reg.MOT_EVENT.OBS_LOST, Reg.MOT_EVENT.STATE, Reg.MOT_STATE.CHOP_FAULT, Reg.MOT_STATE.STATE])) s n) ∧
  (∀ (s a : State) (d : DrvIn) (v t : Nat), a = (s.drvElapse d.unit.val t).seeInputs d.unit.val d.inputs → s.hasUnit d.unit.val = true →
    hasBit v 3 = false → (hasBit v 2 = false ∨ bitsOf v 16 16 ≠ 0x6C1D ∨ a.rd Reg.DRV_STATUS.LATCHED d.unit.val = 0) →
    ∃ n, exec (.drvLatchClear d v t) s = .next n ∧ n.rd Reg.DRV_CTRL.MODE d.unit.val = v % 4 ∧
      Effect [.host, .out] (some (movesIrq ++ [Reg.DRV_CTRL.MODE])) a n ∧
      Effect [.time, .faults, .host, .fr, .drives, .motors, .out] (some (movesTime ++ movesIrq ++ movesFault ++ [Reg.DRV_CARRIER_ACT.TOP,
        Reg.DRV_CTRL.MODE, Reg.DRV_EVENT.CLEAR_REFUSED, Reg.DRV_LEG_COUNT.FULL_ON, Reg.DRV_LEG_COUNT.INTERLOCK,
        Reg.DRV_LEG_COUNT.SUPPRESSED, Reg.DRV_LEG_STATUS.CMP_ACT, Reg.DRV_LEG_STATUS.DESAT_HS, Reg.DRV_LEG_STATUS.DESAT_LS,
        Reg.DRV_LEG_STATUS.GATES_OFF, Reg.DRV_LEG_STATUS.INPUT_ACTIVE, Reg.DRV_LEG_STATUS.INSTANT, Reg.DRV_LEG_STATUS.MODE_ACT,
        Reg.DRV_LEG_STATUS.VB_UV, Reg.DRV_STATUS.LATCHED, Reg.DRV_STATUS.LATCH_CAUSE, Reg.DRV_STATUS.LEG_FAULT, Reg.DRV_TRIP.COUNT,
        Reg.MOT_EVENT.OBS_LOST, Reg.MOT_EVENT.STATE, Reg.MOT_STATE.CHOP_FAULT, Reg.MOT_STATE.STATE])) s n) ∧
  (∀ (s : State) (d : DrvIn) (v t : Nat), s.hasUnit d.unit.val = true → hasBit v 3 = true →
    ∃ n, exec (.drvLatchClear d v t) s = .next n ∧ n.rd Reg.DRV_CTRL.MODE d.unit.val = v % 4 ∧ n.rd Reg.DRV_TRIP.COUNT d.unit.val = 0 ∧
      (∀ x, x < 4 → n.rd Reg.DRV_LEG_COUNT.SUPPRESSED d.unit.val x = 0 ∧ n.rd Reg.DRV_LEG_COUNT.FULL_ON d.unit.val x = 0 ∧
        n.rd Reg.DRV_LEG_COUNT.INTERLOCK d.unit.val x = 0) ∧
      Effect [.time, .faults, .host, .fr, .drives, .motors, .out] (some (movesTime ++ movesIrq ++ movesFault ++ [Reg.DRV_CARRIER_ACT.TOP,
        Reg.DRV_CTRL.MODE, Reg.DRV_EVENT.CLEAR_REFUSED, Reg.DRV_LEG_COUNT.FULL_ON, Reg.DRV_LEG_COUNT.INTERLOCK,
        Reg.DRV_LEG_COUNT.SUPPRESSED, Reg.DRV_LEG_STATUS.CMP_ACT, Reg.DRV_LEG_STATUS.DESAT_HS, Reg.DRV_LEG_STATUS.DESAT_LS,
        Reg.DRV_LEG_STATUS.GATES_OFF, Reg.DRV_LEG_STATUS.INPUT_ACTIVE, Reg.DRV_LEG_STATUS.INSTANT, Reg.DRV_LEG_STATUS.MODE_ACT,
        Reg.DRV_LEG_STATUS.VB_UV, Reg.DRV_STATUS.LATCHED, Reg.DRV_STATUS.LATCH_CAUSE, Reg.DRV_STATUS.LEG_FAULT, Reg.DRV_TRIP.COUNT,
        Reg.MOT_EVENT.OBS_LOST, Reg.MOT_EVENT.STATE, Reg.MOT_STATE.CHOP_FAULT, Reg.MOT_STATE.STATE])) s n) ∧
  (∀ (s : State) (d : DrvIn) (v t : Nat), s.hasUnit d.unit.val = false →
    ∃ n, exec (.drvLatchClear d v t) s = .next n ∧ Effect [.host, .out] (some movesIrq) (s.drvElapse d.unit.val t) n ∧
      Effect [.time, .faults, .host, .fr, .drives, .motors, .out] (some (movesTime ++ movesIrq ++ movesFault ++ [Reg.DRV_CARRIER_ACT.TOP,
        Reg.DRV_CTRL.MODE, Reg.DRV_EVENT.CLEAR_REFUSED, Reg.DRV_LEG_COUNT.FULL_ON, Reg.DRV_LEG_COUNT.INTERLOCK,
        Reg.DRV_LEG_COUNT.SUPPRESSED, Reg.DRV_LEG_STATUS.CMP_ACT, Reg.DRV_LEG_STATUS.DESAT_HS, Reg.DRV_LEG_STATUS.DESAT_LS,
        Reg.DRV_LEG_STATUS.GATES_OFF, Reg.DRV_LEG_STATUS.INPUT_ACTIVE, Reg.DRV_LEG_STATUS.INSTANT, Reg.DRV_LEG_STATUS.MODE_ACT,
        Reg.DRV_LEG_STATUS.VB_UV, Reg.DRV_STATUS.LATCHED, Reg.DRV_STATUS.LATCH_CAUSE, Reg.DRV_STATUS.LEG_FAULT, Reg.DRV_TRIP.COUNT,
        Reg.MOT_EVENT.OBS_LOST, Reg.MOT_EVENT.STATE, Reg.MOT_STATE.CHOP_FAULT, Reg.MOT_STATE.STATE])) s n)

/-- What the drive side finds (R18, R35, R253, R254, R287, R393, R395): VDRV below its limit, a shutdown of the die, a lost link and a
safety enable withdrawn each turn every gate of the unit off; what has ended shows in the status, and the legs wait for their next input
edge. A unit in MOTOR mode without VDRV is in FAULT, which is the model's choice (assumption 38). -/
def Obligations.DriveSideConditionsHoldGatesOff : Prop :=
  (∀ (s a : State) (u : Fin 4) (t : Nat), a = s.drvElapse u.val t → s.hasUnit u.val = true →
    ∃ n, exec (.vdrvUvlo u t) s = .next n ∧ (n.drv u.val).vdrv = false ∧ (∀ x, x < 4 → (n.leg u.val x).waitEdge = true) ∧
      gatesOff n u.val ∧ Tbl.look 0 n.power.sinceVdrvLow u.val = a.time.ns + 1 ∧
      (s.power.held = false → n.rd Reg.DRV_STATUS.VDRV_OK u.val = 0 ∧ n.rd Reg.DRV_EVENT.UVLO u.val = 1 ∧
        (∀ x, x < 4 → n.rd Reg.DRV_LEG_STATUS.UVLO u.val x = 1) ∧
        n.mstate u.val = (if (a.drv u.val).act.mode = mdMotor then msFault else a.mstate u.val) ∧
        ((a.drv u.val).act.mode = mdMotor → a.mstate u.val ≠ msFault → a.mayRaise = true →
          raises a n 34 (4 * u.val + a.rd Reg.DRV_STATUS.LATCH_CAUSE u.val))) ∧
      (s.power.held = true → n.rd Reg.DRV_STATUS.VDRV_OK u.val = a.rd Reg.DRV_STATUS.VDRV_OK u.val) ∧
      Effect [.time, .power, .faults, .host, .fr, .drives, .motors, .out] (some (movesTime ++ movesIrq ++ movesFault ++
        [Reg.DRV_CARRIER_ACT.TOP, Reg.DRV_EVENT.UVLO, Reg.DRV_LEG_STATUS.CMP_ACT, Reg.DRV_LEG_STATUS.DESAT_HS,
        Reg.DRV_LEG_STATUS.DESAT_LS, Reg.DRV_LEG_STATUS.GATES_OFF, Reg.DRV_LEG_STATUS.INSTANT, Reg.DRV_LEG_STATUS.MODE_ACT,
        Reg.DRV_LEG_STATUS.UVLO, Reg.DRV_LEG_STATUS.VB_UV, Reg.DRV_STATUS.LEG_FAULT, Reg.DRV_STATUS.VDRV_OK, Reg.MOT_EVENT.OBS_LOST,
        Reg.MOT_EVENT.STATE, Reg.MOT_STATE.STATE])) s n) ∧
  (∀ (s a : State) (u : Fin 4) (t : Nat) (back : Bool), a = s.drvElapse u.val t → s.hasUnit u.val = true →
    back = ((a.drv u.val).act.mode == mdMotor && a.mstate u.val == msFault && !s.power.held && !a.on Reg.DRV_STATUS.LATCHED u.val) →
    ∃ n, exec (.vdrvRecover u t) s = .next n ∧ (n.drv u.val).vdrv = true ∧
      (∀ x, x < 4 → (n.leg u.val x).hs.on = false ∧ (n.leg u.val x).ls.on = false) ∧
      (back = false → (∀ x, x < 4 → (n.leg u.val x).waitEdge = true) ∧ gatesOff n u.val) ∧ Tbl.look 0 n.power.sinceVdrvLow u.val = 0 ∧
      (s.power.held = false → n.rd Reg.DRV_STATUS.VDRV_OK u.val = 1 ∧ ∀ x, x < 4 → n.rd Reg.DRV_LEG_STATUS.UVLO u.val x = 0) ∧
      n.mstate u.val = (if back then (if a.on Reg.DRV_STATUS.ENABLE u.val then msIdle else msSafeOff) else a.mstate u.val) ∧
      Effect [.time, .power, .faults, .host, .fr, .drives, .motors, .out] (some (movesTime ++ movesIrq ++ movesFault ++
        [Reg.DRV_CARRIER_ACT.TOP, Reg.DRV_LEG_STATUS.CMP_ACT, Reg.DRV_LEG_STATUS.DESAT_HS, Reg.DRV_LEG_STATUS.DESAT_LS,
        Reg.DRV_LEG_STATUS.GATES_OFF, Reg.DRV_LEG_STATUS.INSTANT, Reg.DRV_LEG_STATUS.MODE_ACT, Reg.DRV_LEG_STATUS.UVLO,
        Reg.DRV_LEG_STATUS.VB_UV, Reg.DRV_STATUS.LEG_FAULT, Reg.DRV_STATUS.VDRV_OK, Reg.MOT_EVENT.OBS_LOST, Reg.MOT_EVENT.STATE,
        Reg.MOT_STATE.STATE])) s n) ∧
  (∀ (s : State) (u : Fin 4) (t : Nat), s.hasUnit u.val = false →
    (∃ n, exec (.vdrvUvlo u t) s = .next n ∧ Effect [.host, .out] (some movesIrq) (s.drvElapse u.val t) n ∧
      Effect [.time, .power, .faults, .host, .fr, .drives, .motors, .out] (some (movesTime ++ movesIrq ++ movesFault ++
        [Reg.DRV_CARRIER_ACT.TOP, Reg.DRV_EVENT.UVLO, Reg.DRV_LEG_STATUS.CMP_ACT, Reg.DRV_LEG_STATUS.DESAT_HS,
        Reg.DRV_LEG_STATUS.DESAT_LS, Reg.DRV_LEG_STATUS.GATES_OFF, Reg.DRV_LEG_STATUS.INSTANT, Reg.DRV_LEG_STATUS.MODE_ACT,
        Reg.DRV_LEG_STATUS.UVLO, Reg.DRV_LEG_STATUS.VB_UV, Reg.DRV_STATUS.LEG_FAULT, Reg.DRV_STATUS.VDRV_OK, Reg.MOT_EVENT.OBS_LOST,
        Reg.MOT_EVENT.STATE, Reg.MOT_STATE.STATE])) s n) ∧
    ∃ n, exec (.vdrvRecover u t) s = .next n ∧ Effect [.host, .out] (some movesIrq) (s.drvElapse u.val t) n ∧
      Effect [.time, .power, .faults, .host, .fr, .drives, .motors, .out] (some (movesTime ++ movesIrq ++ movesFault ++
        [Reg.DRV_CARRIER_ACT.TOP, Reg.DRV_LEG_STATUS.CMP_ACT, Reg.DRV_LEG_STATUS.DESAT_HS, Reg.DRV_LEG_STATUS.DESAT_LS,
        Reg.DRV_LEG_STATUS.GATES_OFF, Reg.DRV_LEG_STATUS.INSTANT, Reg.DRV_LEG_STATUS.MODE_ACT, Reg.DRV_LEG_STATUS.UVLO,
        Reg.DRV_LEG_STATUS.VB_UV, Reg.DRV_STATUS.LEG_FAULT, Reg.DRV_STATUS.VDRV_OK, Reg.MOT_EVENT.OBS_LOST, Reg.MOT_EVENT.STATE,
        Reg.MOT_STATE.STATE])) s n) ∧
  (∀ (s a : State) (u : Fin 4) (t : Nat), a = s.drvElapse u.val t → s.hasUnit u.val = true → (s.drv u.val).otLatch = false →
    ∃ n, exec (.driveOtShutdown u t) s = .next n ∧ (n.drv u.val).otLatch = true ∧ gatesOff n u.val ∧
      (a.rd Reg.DRV_STATUS.LINK u.val ≠ 0 → n.rd Reg.DRV_STATUS.OT_SHUT u.val = 1 ∧ n.rd Reg.DRV_EVENT.OT_SHUT u.val = 1) ∧
      (a.mayRaise = true → raises a n 43 u.val) ∧
      Effect [.time, .faults, .host, .fr, .drives, .out] (some (movesTime ++ movesIrq ++ movesFault ++ [Reg.DRV_EVENT.OT_SHUT,
        Reg.DRV_LEG_STATUS.DESAT_HS, Reg.DRV_LEG_STATUS.DESAT_LS, Reg.DRV_LEG_STATUS.GATES_OFF, Reg.DRV_LEG_STATUS.INSTANT,
        Reg.DRV_LEG_STATUS.VB_UV, Reg.DRV_STATUS.LEG_FAULT, Reg.DRV_STATUS.OT_SHUT])) s n) ∧
  (∀ (s : State) (u : Fin 4) (t : Nat), (s.hasUnit u.val = false ∨ (s.drv u.val).otLatch = true) →
    ∃ n, exec (.driveOtShutdown u t) s = .next n ∧ Effect [.host, .out] (some movesIrq) (s.drvElapse u.val t) n ∧
      Effect [.time, .faults, .host, .fr, .drives, .out] (some (movesTime ++ movesIrq ++ movesFault ++ [Reg.DRV_EVENT.OT_SHUT,
        Reg.DRV_LEG_STATUS.DESAT_HS, Reg.DRV_LEG_STATUS.DESAT_LS, Reg.DRV_LEG_STATUS.GATES_OFF, Reg.DRV_LEG_STATUS.INSTANT,
        Reg.DRV_LEG_STATUS.VB_UV, Reg.DRV_STATUS.LEG_FAULT, Reg.DRV_STATUS.OT_SHUT])) s n) ∧
  (∀ (s a : State) (u : Fin 4) (t : Nat), a = s.drvElapse u.val t → (s.drv u.val).otLatch = true →
    0 < Tbl.look 0 s.power.sinceVdrvLow u.val → Tbl.look 0 s.power.sinceVdrvLow u.val + 9999999 ≤ a.time.ns →
    ∃ n, exec (.driveOtRelease u t) s = .next n ∧ (n.drv u.val).otLatch = false ∧
      (a.rd Reg.DRV_STATUS.LINK u.val ≠ 0 → n.rd Reg.DRV_STATUS.OT_SHUT u.val = 0) ∧
      Effect [.time, .host, .fr, .drives, .out] (some (movesTime ++ movesIrq ++ [Reg.DRV_LEG_STATUS.DESAT_HS,
        Reg.DRV_LEG_STATUS.DESAT_LS, Reg.DRV_LEG_STATUS.GATES_OFF, Reg.DRV_LEG_STATUS.INSTANT, Reg.DRV_LEG_STATUS.VB_UV,
        Reg.DRV_STATUS.LEG_FAULT, Reg.DRV_STATUS.OT_SHUT])) s n) ∧
  (∀ (s a : State) (u : Fin 4) (t : Nat), a = s.drvElapse u.val t → ((s.drv u.val).otLatch = false ∨
      Tbl.look 0 s.power.sinceVdrvLow u.val = 0 ∨ a.time.ns < Tbl.look 0 s.power.sinceVdrvLow u.val + 9999999) →
    ∃ n, exec (.driveOtRelease u t) s = .next n ∧ Effect [.host, .out] (some movesIrq) a n ∧
      Effect [.time, .host, .fr, .drives, .out] (some (movesTime ++ movesIrq ++ [Reg.DRV_LEG_STATUS.DESAT_HS,
        Reg.DRV_LEG_STATUS.DESAT_LS, Reg.DRV_LEG_STATUS.GATES_OFF, Reg.DRV_LEG_STATUS.INSTANT, Reg.DRV_LEG_STATUS.VB_UV,
        Reg.DRV_STATUS.LEG_FAULT, Reg.DRV_STATUS.OT_SHUT])) s n) ∧
  (∀ (s a : State) (u : Fin 4) (t : Nat), a = s.drvElapse u.val t → s.hasUnit u.val = true → a.rd Reg.DRV_STATUS.LINK u.val ≠ 0 →
    ∃ n, exec (.barrierLinkLost u t) s = .next n ∧ n.rd Reg.DRV_STATUS.LINK u.val = 0 ∧
      hasBit (n.rd Reg.DOMAIN_STATE.DRV_LINK) u.val = false ∧ n.rd Reg.DRV_EVENT.LINK u.val = 1 ∧
      (∀ x, x < 4 → (n.leg u.val x).waitEdge = true) ∧ gatesOff n u.val ∧
      Effect [.time, .host, .fr, .drives, .out] (some (movesTime ++ movesIrq ++ [Reg.DOMAIN_STATE.DRV_LINK, Reg.DRV_EVENT.LINK,
        Reg.DRV_LEG_STATUS.DESAT_HS, Reg.DRV_LEG_STATUS.DESAT_LS, Reg.DRV_LEG_STATUS.GATES_OFF, Reg.DRV_LEG_STATUS.INSTANT,
        Reg.DRV_LEG_STATUS.VB_UV, Reg.DRV_STATUS.LEG_FAULT, Reg.DRV_STATUS.LINK])) s n) ∧
  (∀ (s a : State) (u : Fin 4) (t : Nat), a = s.drvElapse u.val t → (s.hasUnit u.val = false ∨ a.rd Reg.DRV_STATUS.LINK u.val = 0) →
    ∃ n, exec (.barrierLinkLost u t) s = .next n ∧ Effect [.host, .out] (some movesIrq) a n ∧
      Effect [.time, .host, .fr, .drives, .out] (some (movesTime ++ movesIrq ++ [Reg.DOMAIN_STATE.DRV_LINK, Reg.DRV_EVENT.LINK,
        Reg.DRV_LEG_STATUS.DESAT_HS, Reg.DRV_LEG_STATUS.DESAT_LS, Reg.DRV_LEG_STATUS.GATES_OFF, Reg.DRV_LEG_STATUS.INSTANT,
        Reg.DRV_LEG_STATUS.VB_UV, Reg.DRV_STATUS.LEG_FAULT, Reg.DRV_STATUS.LINK])) s n) ∧
  (∀ (s a : State) (u : Fin 4) (inp t : Nat), a = (s.elapse t).drvSees ⟨u, inp⟩ → s.hasUnit u.val = true → s.power.held = false →
    a.rd Reg.DRV_STATUS.LINK u.val = 0 →
    ∃ n, exec (.barrierLinkRecover u inp t) s = .next n ∧ n.rd Reg.DRV_STATUS.LINK u.val = 1 ∧
      hasBit (n.rd Reg.DOMAIN_STATE.DRV_LINK) u.val = true ∧ n.rd Reg.DRV_EVENT.LINK u.val = 1 ∧
      n.rd Reg.DRV_STATUS.VDRV_OK u.val = b01 (a.drv u.val).vdrv ∧ n.rd Reg.DRV_STATUS.OT_SHUT u.val = b01 (a.drv u.val).otLatch ∧
      n.rd Reg.DRV_STATUS.BAND u.val = (a.drv u.val).band % 4 ∧
      (∀ x, x < 4 → n.rd Reg.DRV_LEG_STATUS.INPUT_ACTIVE u.val x = b01 (legInputs inp x)) ∧
      (((a.drv u.val).act.mode ≠ mdMotor ∨ (a.drv u.val).linkSeen = false ∨
          (a.drv u.val).unreported = [] ∧ (a.drv u.val).latched = 0) →
        (∀ x, x < 4 → (n.leg u.val x).waitEdge = true) ∧ gatesOff n u.val) ∧
      (∀ k, k < 4 → (n.dsCh (4 * u.val + k)).out = none) ∧ (n.drv u.val).linkSeen = true ∧ (n.drv u.val).unreported = [] ∧
      ((a.drv u.val).linkSeen = false → (n.drv u.val).trips = [] ∧ (n.drv u.val).latched = 0) ∧
      ((a.drv u.val).linkSeen = true → (n.drv u.val).trips = (a.drv u.val).trips ∧ (n.drv u.val).latched = (a.drv u.val).latched) ∧
      ((a.drv u.val).linkSeen = true → ∀ p, (a.drv u.val).unreported.getLast? = some p → n.rd Reg.DRV_EVENT.TRIP u.val = 1 ∧
        n.rd Reg.DRV_TRIP.LAST_LEG u.val = p.1 % 4 ∧ n.rd Reg.DRV_TRIP.LAST_CAUSE u.val = p.2 % 4 ∧
        n.rd64 Reg.DRV_TRIP_NS_LO.NS Reg.DRV_TRIP_NS_HI.NS u.val = a.count % 2 ^ 64) ∧
      (((a.drv u.val).linkSeen = false ∨ (a.drv u.val).latched = 0) →
        n.rd Reg.DRV_STATUS.LATCHED u.val = a.rd Reg.DRV_STATUS.LATCHED u.val) ∧
      ((a.drv u.val).linkSeen = true → (a.drv u.val).latched ≠ 0 → a.rd Reg.DRV_STATUS.LATCHED u.val = 0 →
        n.rd Reg.DRV_STATUS.LATCHED u.val = 1 ∧ n.rd Reg.DRV_STATUS.LATCH_CAUSE u.val = (a.drv u.val).latched % 4 ∧
        n.rd Reg.DRV_EVENT.LATCH u.val = 1 ∧ ((a.drv u.val).act.mode = mdMotor → n.mstate u.val = msFault) ∧
        ((a.drv u.val).unreported = [] → a.mayRaise = true → raises a n 34 (4 * u.val + (a.drv u.val).latched))) ∧
      Effect [.time, .faults, .host, .fr, .adc, .drives, .motors, .out] (some (movesTime ++ movesIrq ++ movesFault ++
        [Reg.DOMAIN_STATE.DRV_LINK, Reg.DRV_CARRIER_ACT.TOP, Reg.DRV_EVENT.LATCH, Reg.DRV_EVENT.LINK, Reg.DRV_EVENT.TRIP,
        Reg.DRV_LEG_STATUS.CMP_ACT, Reg.DRV_LEG_STATUS.DESAT_HS, Reg.DRV_LEG_STATUS.DESAT_LS, Reg.DRV_LEG_STATUS.GATES_OFF,
        Reg.DRV_LEG_STATUS.INPUT_ACTIVE, Reg.DRV_LEG_STATUS.INSTANT, Reg.DRV_LEG_STATUS.MODE_ACT, Reg.DRV_LEG_STATUS.UVLO,
        Reg.DRV_LEG_STATUS.VB_UV, Reg.DRV_STATUS.BAND, Reg.DRV_STATUS.LATCHED, Reg.DRV_STATUS.LATCH_CAUSE, Reg.DRV_STATUS.LEG_FAULT,
        Reg.DRV_STATUS.LINK, Reg.DRV_STATUS.OT_SHUT, Reg.DRV_STATUS.VDRV_OK, Reg.DRV_TRIP.COUNT, Reg.DRV_TRIP.LAST_CAUSE,
        Reg.DRV_TRIP.LAST_LEG, Reg.DRV_TRIP_NS_HI.NS, Reg.DRV_TRIP_NS_LO.NS, Reg.MOT_BUS.CHOP_D, Reg.MOT_COUNT.CHOP_FAULTS,
        Reg.MOT_EVENT.CHOP_FAULT, Reg.MOT_EVENT.OBS_LOST, Reg.MOT_EVENT.STATE, Reg.MOT_STATE.CHOP_FAULT, Reg.MOT_STATE.STATE])) s n) ∧
  (∀ (s a : State) (u : Fin 4) (inp t : Nat), a = (s.elapse t).drvSees ⟨u, inp⟩ → (s.hasUnit u.val = false ∨ s.power.held = true ∨
      a.rd Reg.DRV_STATUS.LINK u.val ≠ 0) →
    ∃ n, exec (.barrierLinkRecover u inp t) s = .next n ∧ Effect [.host, .out] (some movesIrq) a n ∧
      Effect [.time, .faults, .host, .fr, .adc, .drives, .motors, .out] (some (movesTime ++ movesIrq ++ movesFault ++
        [Reg.DOMAIN_STATE.DRV_LINK, Reg.DRV_CARRIER_ACT.TOP, Reg.DRV_EVENT.LATCH, Reg.DRV_EVENT.LINK, Reg.DRV_EVENT.TRIP,
        Reg.DRV_LEG_STATUS.CMP_ACT, Reg.DRV_LEG_STATUS.DESAT_HS, Reg.DRV_LEG_STATUS.DESAT_LS, Reg.DRV_LEG_STATUS.GATES_OFF,
        Reg.DRV_LEG_STATUS.INPUT_ACTIVE, Reg.DRV_LEG_STATUS.INSTANT, Reg.DRV_LEG_STATUS.MODE_ACT, Reg.DRV_LEG_STATUS.UVLO,
        Reg.DRV_LEG_STATUS.VB_UV, Reg.DRV_STATUS.BAND, Reg.DRV_STATUS.LATCHED, Reg.DRV_STATUS.LATCH_CAUSE, Reg.DRV_STATUS.LEG_FAULT,
        Reg.DRV_STATUS.LINK, Reg.DRV_STATUS.OT_SHUT, Reg.DRV_STATUS.VDRV_OK, Reg.DRV_TRIP.COUNT, Reg.DRV_TRIP.LAST_CAUSE,
        Reg.DRV_TRIP.LAST_LEG, Reg.DRV_TRIP_NS_HI.NS, Reg.DRV_TRIP_NS_LO.NS, Reg.MOT_BUS.CHOP_D, Reg.MOT_COUNT.CHOP_FAULTS,
        Reg.MOT_EVENT.CHOP_FAULT, Reg.MOT_EVENT.OBS_LOST, Reg.MOT_EVENT.STATE, Reg.MOT_STATE.CHOP_FAULT, Reg.MOT_STATE.STATE])) s n) ∧
  (∀ (s a : State) (u : Fin 4) (t : Nat), a = s.drvElapse u.val t → s.hasUnit u.val = true → hasBit (s.rd Reg.SAFE_FIRE.DRV_A) u.val = true →
    hasBit (s.rd Reg.SAFE_FIRE.DRV_B) u.val = true →
    ∃ n, exec (.driveEnableChange u true t) s = .next n ∧ n.rd Reg.DRV_STATUS.ENABLE u.val = 1 ∧
      n.mstate u.val = (if (a.drv u.val).act.mode = mdMotor ∧ a.mstate u.val = msSafeOff then
        (if a.rdS Reg.MOT_CMD.CMD u.val = 0 then msIdle else msCatch) else a.mstate u.val) ∧
      Effect [.time, .faults, .host, .fr, .drives, .motors, .out] (some (movesTime ++ movesIrq ++ movesFault ++ [Reg.DRV_CARRIER_ACT.TOP,
        Reg.DRV_LEG_STATUS.CMP_ACT, Reg.DRV_LEG_STATUS.DESAT_HS, Reg.DRV_LEG_STATUS.DESAT_LS, Reg.DRV_LEG_STATUS.GATES_OFF,
        Reg.DRV_LEG_STATUS.INSTANT, Reg.DRV_LEG_STATUS.MODE_ACT, Reg.DRV_LEG_STATUS.VB_UV, Reg.DRV_STATUS.ENABLE,
        Reg.DRV_STATUS.LEG_FAULT, Reg.MOT_EVENT.OBS_LOST, Reg.MOT_EVENT.STATE, Reg.MOT_STATE.STATE])) s n) ∧
  (∀ (s a : State) (u : Fin 4) (t : Nat), a = s.drvElapse u.val t → s.hasUnit u.val = true →
    ∃ n, exec (.driveEnableChange u false t) s = .next n ∧ n.rd Reg.DRV_STATUS.ENABLE u.val = 0 ∧
      (∀ x, x < 4 → (n.leg u.val x).waitEdge = true) ∧ gatesOff n u.val ∧
      n.mstate u.val = (if (a.drv u.val).act.mode = mdMotor ∧ a.mstate u.val ≠ msFault then msSafeOff else a.mstate u.val) ∧
      Effect [.time, .faults, .host, .fr, .drives, .motors, .out] (some (movesTime ++ movesIrq ++ movesFault ++ [Reg.DRV_CARRIER_ACT.TOP,
        Reg.DRV_LEG_STATUS.CMP_ACT, Reg.DRV_LEG_STATUS.DESAT_HS, Reg.DRV_LEG_STATUS.DESAT_LS, Reg.DRV_LEG_STATUS.GATES_OFF,
        Reg.DRV_LEG_STATUS.INSTANT, Reg.DRV_LEG_STATUS.MODE_ACT, Reg.DRV_LEG_STATUS.VB_UV, Reg.DRV_STATUS.ENABLE,
        Reg.DRV_STATUS.LEG_FAULT, Reg.MOT_EVENT.OBS_LOST, Reg.MOT_EVENT.STATE, Reg.MOT_STATE.STATE])) s n) ∧
  (∀ (s : State) (u : Fin 4) (on : Bool) (t : Nat), (s.hasUnit u.val = false ∨ on = true ∧ (hasBit (s.rd Reg.SAFE_FIRE.DRV_A) u.val = false ∨
      hasBit (s.rd Reg.SAFE_FIRE.DRV_B) u.val = false)) →
    ∃ n, exec (.driveEnableChange u on t) s = .next n ∧ Effect [.host, .out] (some movesIrq) (s.drvElapse u.val t) n ∧
      Effect [.time, .faults, .host, .fr, .drives, .motors, .out] (some (movesTime ++ movesIrq ++ movesFault ++ [Reg.DRV_CARRIER_ACT.TOP,
        Reg.DRV_LEG_STATUS.CMP_ACT, Reg.DRV_LEG_STATUS.DESAT_HS, Reg.DRV_LEG_STATUS.DESAT_LS, Reg.DRV_LEG_STATUS.GATES_OFF,
        Reg.DRV_LEG_STATUS.INSTANT, Reg.DRV_LEG_STATUS.MODE_ACT, Reg.DRV_LEG_STATUS.VB_UV, Reg.DRV_STATUS.ENABLE,
        Reg.DRV_STATUS.LEG_FAULT, Reg.MOT_EVENT.OBS_LOST, Reg.MOT_EVENT.STATE, Reg.MOT_STATE.STATE])) s n) ∧
  (∀ (s : State) (u : Fin 4) (c t : Nat), s.hasUnit u.val = true →
    ∃ n, exec (.driveBandChange u c true t) s = .next n ∧ n.drv u.val = { s.drv u.val with band := bandOf c (s.drv u.val).band } ∧
      (s.rd Reg.DRV_STATUS.LINK u.val ≠ 0 → n.rd Reg.DRV_STATUS.BAND u.val = bandOf c (s.drv u.val).band ∧
        bitsOf (n.rd Reg.THERMAL_BAND.DRV) (2 * u.val) 2 = bandOf c (s.drv u.val).band ∧
        (bandOf c (s.drv u.val).band ≠ (s.drv u.val).band → hasBit (n.rd Reg.THERMAL_EVENT.EVENTS) 5 = true)) ∧
      (s.rd Reg.DRV_STATUS.LINK u.val = 0 → n.rd Reg.DRV_STATUS.BAND u.val = s.rd Reg.DRV_STATUS.BAND u.val) ∧
      Effect [.time, .host, .fr, .drives, .out] (some (movesTime ++ movesIrq ++ [Reg.DRV_STATUS.BAND, Reg.THERMAL_BAND.DRV,
        Reg.THERMAL_EVENT.EVENTS])) s n) ∧
  (∀ (s : State) (u : Fin 4) (c : Nat) (v : Bool) (t : Nat), (s.hasUnit u.val = false ∨ v = false) →
    ∃ n, exec (.driveBandChange u c v t) s = .next n ∧ Effect [.time, .host, .fr, .out] (some (movesTime ++ movesIrq)) s n)

/-- Carriers and pulses (R256, R261 to R266, R280): a valley takes the pending phase values and gives each phase leg its commands, with
the pulse rule of R263 counted; a chopper boundary does so for leg C; a command edge that the counter gives commands its leg and clears
the leg faults whose inputs are inactive; DRV_LOADALL stages the values of the units it names, all or none, and DRV_SYNC restarts the
carriers of units whose phase legs are OFF. -/
def Obligations.CarriersCommandTheirLegs : Prop :=
  (∀ (s : State) (v : Nat), ∃ n, exec (.drvSync v) s = .next n ∧
    (∀ u, u < 4 → hasBit v u = true → s.hasUnit u = true → (∃ x, x < 3 ∧ s.legMode u x ≠ 0) →
      hasBit (n.rd Reg.DRV_LOAD_STATUS.SYNC_IGNORED) u = true ∧ n.drv u = s.drv u) ∧
    (∀ u, u < 4 → hasBit v u = true → s.hasUnit u = true → (∀ x, x < 3 → s.legMode u x = 0) →
      hasBit (n.rd Reg.DRV_LOAD_STATUS.SYNC_IGNORED) u = false ∧ hasBit (n.rd Reg.DRV_SYNC.UNITS) u = true ∧
        ∃ g, n.drv u = { s.drv u with sync := true, group := g } ∧
          ∀ k, k < 4 → (hasBit g k = true ↔ hasBit v k = true ∧ s.hasUnit k = true ∧ ∀ x, x < 3 → s.legMode k x = 0)) ∧
    (∀ u, (4 ≤ u ∨ hasBit v u = false ∨ s.hasUnit u = false) → n.drv u = s.drv u) ∧
    Effect [.host, .drives, .out] (some (movesIrq ++ [Reg.DRV_LOAD_STATUS.SYNC_IGNORED, Reg.DRV_SYNC.UNITS])) s n) ∧
  (∀ (s a : State) (v t : Nat), a = s.elapse t → (∀ u, u < 4 → hasBit v u = true → s.hasUnit u = true → (a.stagedDrv u).loads = true) →
    ∃ n, exec (.drvLoadall v t) s = .next n ∧
      (∀ u, u < 4 → hasBit v u = true → s.hasUnit u = true → hasBit (n.rd Reg.DRV_LOAD_STATUS.ERR) u = false) ∧
      (∀ u, u < 4 → hasBit v u = true → s.hasUnit u = true → (s.drv u).vdrv = true → (s.drv u).act.mode ≠ mdOff →
        (n.drv u).phase = some (a.stagedDrv u) ∧ (n.drv u).chop = some (a.stagedDrv u) ∧ n.rd Reg.DRV_STATUS.LOAD_PENDING u = 1 ∧
        hasBit (n.rd Reg.DRV_LOADALL.UNITS) u = true ∧ hasBit (n.rd Reg.DRV_LOAD_STATUS.DONE) u = false) ∧
      (∀ u, u < 4 → hasBit v u = true → s.hasUnit u = true → (s.drv u).vdrv = true → (s.drv u).act.mode = mdOff →
        (n.drv u).phase = none ∧ (n.drv u).chop = none ∧ (n.drv u).act.mode = (a.stagedDrv u).mode ∧
        (n.drv u).act.top = (a.stagedDrv u).top ∧ n.rd Reg.DRV_STATUS.LOAD_PENDING u = 0 ∧
        hasBit (n.rd Reg.DRV_LOAD_STATUS.DONE) u = true ∧ n.rd Reg.DRV_EVENT.LOAD_DONE u = 1) ∧
      (∀ u, u < 4 → (hasBit v u = false ∨ s.hasUnit u = false ∨ (s.drv u).vdrv = false) → n.drv u = s.drv u) ∧
      Effect [.time, .faults, .host, .fr, .drives, .motors, .out] (some (movesTime ++ movesIrq ++ movesFault ++ [Reg.DRV_CARRIER_ACT.TOP,
        Reg.DRV_EVENT.LOAD_DONE, Reg.DRV_EVENT.LOAD_ERR, Reg.DRV_LEG_COUNT.FULL_ON, Reg.DRV_LEG_COUNT.SUPPRESSED,
        Reg.DRV_LEG_STATUS.CMP_ACT, Reg.DRV_LEG_STATUS.DESAT_HS, Reg.DRV_LEG_STATUS.DESAT_LS, Reg.DRV_LEG_STATUS.GATES_OFF,
        Reg.DRV_LEG_STATUS.INSTANT, Reg.DRV_LEG_STATUS.MODE_ACT, Reg.DRV_LEG_STATUS.VB_UV, Reg.DRV_LOADALL.UNITS,
        Reg.DRV_LOAD_STATUS.DONE, Reg.DRV_LOAD_STATUS.ERR, Reg.DRV_STATUS.LEG_FAULT, Reg.DRV_STATUS.LOAD_PENDING, Reg.MOT_EVENT.OBS_LOST,
        Reg.MOT_EVENT.STATE, Reg.MOT_STATE.STATE])) s n) ∧
  (∀ (s a : State) (v t u : Nat), a = s.elapse t → u < 4 → hasBit v u = true → s.hasUnit u = true → (a.stagedDrv u).loads = false →
    ∃ n, exec (.drvLoadall v t) s = .next n ∧ n.drives = s.drives ∧
      (∀ k, k < 4 → hasBit v k = true → s.hasUnit k = true → hasBit (n.rd Reg.DRV_LOAD_STATUS.DONE) k = false ∧
        hasBit (n.rd Reg.DRV_LOAD_STATUS.ERR) k = !(a.stagedDrv k).loads ∧
        ((a.stagedDrv k).loads = false → n.rd Reg.DRV_EVENT.LOAD_ERR k = 1)) ∧
      Effect [.time, .faults, .host, .fr, .drives, .motors, .out] (some (movesTime ++ movesIrq ++ movesFault ++ [Reg.DRV_CARRIER_ACT.TOP,
        Reg.DRV_EVENT.LOAD_DONE, Reg.DRV_EVENT.LOAD_ERR, Reg.DRV_LEG_COUNT.FULL_ON, Reg.DRV_LEG_COUNT.SUPPRESSED,
        Reg.DRV_LEG_STATUS.CMP_ACT, Reg.DRV_LEG_STATUS.DESAT_HS, Reg.DRV_LEG_STATUS.DESAT_LS, Reg.DRV_LEG_STATUS.GATES_OFF,
        Reg.DRV_LEG_STATUS.INSTANT, Reg.DRV_LEG_STATUS.MODE_ACT, Reg.DRV_LEG_STATUS.VB_UV, Reg.DRV_LOADALL.UNITS,
        Reg.DRV_LOAD_STATUS.DONE, Reg.DRV_LOAD_STATUS.ERR, Reg.DRV_STATUS.LEG_FAULT, Reg.DRV_STATUS.LOAD_PENDING, Reg.MOT_EVENT.OBS_LOST,
        Reg.MOT_EVENT.STATE, Reg.MOT_STATE.STATE])) s n) ∧
  (∀ (s a : State) (d : DrvIn) (est : Int) (conf theta : Nat) (slow : Bool) (emf : Int × Int) (t v : Nat), a = (s.elapse t).drvSees d →
    s.hasUnit d.unit.val = true → (a.drv d.unit.val).act.mode ≠ mdOff → (a.drv d.unit.val).act.mode ≠ mdMotor →
    boundaryAt (a.drv d.unit.val).valleyAt (a.drv d.unit.val).act.periodNs a.time.ns = some v → (a.drv d.unit.val).phase = none →
    ∃ n, exec (.carrierValley d est conf theta slow emf t) s = .next n ∧ (n.drv d.unit.val).valleyAt = v ∧
      (n.drv d.unit.val).act = (a.drv d.unit.val).act ∧ n.motors = a.motors ∧
      (∀ x, x < 3 → a.legMode d.unit.val x = 1 →
        n.rd Reg.DRV_LEG_COUNT.SUPPRESSED d.unit.val x = (if a.phaseRule d.unit.val x = 1 then
          min 4095 (a.rd Reg.DRV_LEG_COUNT.SUPPRESSED d.unit.val x + 1) else a.rd Reg.DRV_LEG_COUNT.SUPPRESSED d.unit.val x) ∧
        n.rd Reg.DRV_LEG_COUNT.FULL_ON d.unit.val x = (if a.phaseRule d.unit.val x = 2 then
          min 4095 (a.rd Reg.DRV_LEG_COUNT.FULL_ON d.unit.val x + 1) else a.rd Reg.DRV_LEG_COUNT.FULL_ON d.unit.val x) ∧
        ((a.drv d.unit.val).probeEnd = none →
          (n.leg d.unit.val x).hsCmd = decide (a.phaseRule d.unit.val x = 2 ∨ (a.phaseRule d.unit.val x = 0 ∧
            (a.drv d.unit.val).act.pwmOn x (a.time.ns - v) = true)) ∧
          (n.leg d.unit.val x).lsCmd = !(n.leg d.unit.val x).hsCmd)) ∧
      (∀ x, x < 3 → a.legMode d.unit.val x ≠ 1 →
        ((a.drv d.unit.val).probeEnd = none → (n.leg d.unit.val x).hsCmd = decide (a.legMode d.unit.val x = 3) ∧
          (n.leg d.unit.val x).lsCmd = decide (a.legMode d.unit.val x = 2)) ∧
        n.rd Reg.DRV_LEG_COUNT.SUPPRESSED d.unit.val x = a.rd Reg.DRV_LEG_COUNT.SUPPRESSED d.unit.val x) ∧
      (∀ x, x < 3 → (a.drv d.unit.val).probeEnd ≠ none → n.leg d.unit.val x = a.leg d.unit.val x) ∧
      n.leg d.unit.val 3 = a.leg d.unit.val 3 ∧
      Effect [.time, .faults, .host, .fr, .drives, .motors, .out, .drawn] (some (movesTime ++ movesIrq ++ movesFault ++
        [Reg.DRV_CARRIER_ACT.TOP, Reg.DRV_CHOP_PERIOD.PERIOD, Reg.DRV_EVENT.LATCH, Reg.DRV_EVENT.LOAD_DONE, Reg.DRV_LEG_COUNT.FULL_ON,
        Reg.DRV_LEG_COUNT.SUPPRESSED, Reg.DRV_LEG_STATUS.CMP_ACT, Reg.DRV_LEG_STATUS.DESAT_HS, Reg.DRV_LEG_STATUS.DESAT_LS,
        Reg.DRV_LEG_STATUS.GATES_OFF, Reg.DRV_LEG_STATUS.INPUT_ACTIVE, Reg.DRV_LEG_STATUS.INSTANT, Reg.DRV_LEG_STATUS.MODE_ACT,
        Reg.DRV_LEG_STATUS.VB_UV, Reg.DRV_LOADALL.UNITS, Reg.DRV_LOAD_STATUS.DONE, Reg.DRV_STATUS.LATCHED, Reg.DRV_STATUS.LATCH_CAUSE,
        Reg.DRV_STATUS.LEG_FAULT, Reg.DRV_STATUS.LOAD_PENDING, Reg.MOT_BUS.ADV, Reg.MOT_BUS.CHOP_D, Reg.MOT_BUS.VBUS, Reg.MOT_CMD.CMD,
        Reg.MOT_CMD.CONF, Reg.MOT_COUNT.CATCH_OK, Reg.MOT_CURRENT.ID, Reg.MOT_CURRENT.IQ, Reg.MOT_EVENT.OBS_LOST, Reg.MOT_EVENT.STATE,
        Reg.MOT_EVENT.VLIMIT, Reg.MOT_INPUT.VALUE, Reg.MOT_SPEED.EST, Reg.MOT_SPEED.REF, Reg.MOT_STATE.CURVE_ON, Reg.MOT_STATE.ILIMIT,
        Reg.MOT_STATE.SHED, Reg.MOT_STATE.SIGNAL_LOST, Reg.MOT_STATE.STATE, Reg.MOT_STATE.THROTTLE, Reg.MOT_STATE.VLIMIT])) s n) ∧
  (∀ (s a : State) (d : DrvIn) (est : Int) (conf theta : Nat) (slow : Bool) (emf : Int × Int) (t v : Nat) (p : DrvSet),
    a = (s.elapse t).drvSees d → s.hasUnit d.unit.val = true → (a.drv d.unit.val).act.mode ≠ mdOff → (a.drv d.unit.val).act.mode ≠ mdMotor →
    boundaryAt (a.drv d.unit.val).valleyAt (a.drv d.unit.val).act.periodNs a.time.ns = some v → (a.drv d.unit.val).phase = some p →
    p.mode ≠ mdOff → p.mode ≠ mdMotor →
    ∃ n, exec (.carrierValley d est conf theta slow emf t) s = .next n ∧ (n.drv d.unit.val).phase = none ∧
      (n.drv d.unit.val).valleyAt = v ∧
      (((a.drv d.unit.val).together = false ∨ (a.drv d.unit.val).chop = none) → (n.drv d.unit.val).act = { p with
        legMode := p.legMode.take 3 ++ [(a.drv d.unit.val).act.legMode.getD 3 0], chopMode := (a.drv d.unit.val).act.chopMode,
        chopSide := (a.drv d.unit.val).act.chopSide, chopTime := (a.drv d.unit.val).act.chopTime,
        chopPeriod := (a.drv d.unit.val).act.chopPeriod }) ∧
      (∀ c, (a.drv d.unit.val).together = true → (a.drv d.unit.val).chop = some c → (n.drv d.unit.val).chop = none ∧
        (n.drv d.unit.val).act.top = p.top ∧ (n.drv d.unit.val).act.chopTime = c.chopTime ∧
        (n.drv d.unit.val).act.chopMode = c.chopMode ∧ (n.drv d.unit.val).act.chopSide = c.chopSide ∧
        (n.drv d.unit.val).act.chopPeriod = c.chopPeriod) ∧
      (((a.drv d.unit.val).together = true ∨ (a.drv d.unit.val).chop = none) → n.rd Reg.DRV_STATUS.LOAD_PENDING d.unit.val = 0 ∧
        n.rd Reg.DRV_EVENT.LOAD_DONE d.unit.val = 1 ∧ hasBit (n.rd Reg.DRV_LOAD_STATUS.DONE) d.unit.val = true) ∧
      ((a.drv d.unit.val).together = false → (a.drv d.unit.val).chop ≠ none →
        n.rd Reg.DRV_STATUS.LOAD_PENDING d.unit.val = a.rd Reg.DRV_STATUS.LOAD_PENDING d.unit.val) ∧
      Effect [.time, .faults, .host, .fr, .drives, .motors, .out, .drawn] (some (movesTime ++ movesIrq ++ movesFault ++
        [Reg.DRV_CARRIER_ACT.TOP, Reg.DRV_CHOP_PERIOD.PERIOD, Reg.DRV_EVENT.LATCH, Reg.DRV_EVENT.LOAD_DONE, Reg.DRV_LEG_COUNT.FULL_ON,
        Reg.DRV_LEG_COUNT.SUPPRESSED, Reg.DRV_LEG_STATUS.CMP_ACT, Reg.DRV_LEG_STATUS.DESAT_HS, Reg.DRV_LEG_STATUS.DESAT_LS,
        Reg.DRV_LEG_STATUS.GATES_OFF, Reg.DRV_LEG_STATUS.INPUT_ACTIVE, Reg.DRV_LEG_STATUS.INSTANT, Reg.DRV_LEG_STATUS.MODE_ACT,
        Reg.DRV_LEG_STATUS.VB_UV, Reg.DRV_LOADALL.UNITS, Reg.DRV_LOAD_STATUS.DONE, Reg.DRV_STATUS.LATCHED, Reg.DRV_STATUS.LATCH_CAUSE,
        Reg.DRV_STATUS.LEG_FAULT, Reg.DRV_STATUS.LOAD_PENDING, Reg.MOT_BUS.ADV, Reg.MOT_BUS.CHOP_D, Reg.MOT_BUS.VBUS, Reg.MOT_CMD.CMD,
        Reg.MOT_CMD.CONF, Reg.MOT_COUNT.CATCH_OK, Reg.MOT_CURRENT.ID, Reg.MOT_CURRENT.IQ, Reg.MOT_EVENT.OBS_LOST, Reg.MOT_EVENT.STATE,
        Reg.MOT_EVENT.VLIMIT, Reg.MOT_INPUT.VALUE, Reg.MOT_SPEED.EST, Reg.MOT_SPEED.REF, Reg.MOT_STATE.CURVE_ON, Reg.MOT_STATE.ILIMIT,
        Reg.MOT_STATE.SHED, Reg.MOT_STATE.SIGNAL_LOST, Reg.MOT_STATE.STATE, Reg.MOT_STATE.THROTTLE, Reg.MOT_STATE.VLIMIT])) s n) ∧
  (∀ (s a : State) (d : DrvIn) (est : Int) (conf theta : Nat) (slow : Bool) (emf : Int × Int) (t v : Nat) (p : DrvSet),
    a = (s.elapse t).drvSees d → s.hasUnit d.unit.val = true → (a.drv d.unit.val).act.mode ≠ mdOff →
    boundaryAt (a.drv d.unit.val).valleyAt (a.drv d.unit.val).act.periodNs a.time.ns = some v → (a.drv d.unit.val).phase = some p →
    p.mode = mdOff →
    ∃ n, exec (.carrierValley d est conf theta slow emf t) s = .next n ∧ (n.drv d.unit.val).act.mode = mdOff ∧
      (n.drv d.unit.val).phase = none ∧ (n.drv d.unit.val).chop = none ∧ n.rd Reg.DRV_STATUS.LOAD_PENDING d.unit.val = 0 ∧
      n.rd Reg.DRV_EVENT.LOAD_DONE d.unit.val = 1 ∧ n.rd Reg.DRV_CARRIER_ACT.TOP d.unit.val = 0 ∧
      (∀ x, x < 4 → (n.leg d.unit.val x).hsCmd = false ∧ (n.leg d.unit.val x).lsCmd = false) ∧
      Effect [.time, .faults, .host, .fr, .drives, .motors, .out, .drawn] (some (movesTime ++ movesIrq ++ movesFault ++
        [Reg.DRV_CARRIER_ACT.TOP, Reg.DRV_CHOP_PERIOD.PERIOD, Reg.DRV_EVENT.LATCH, Reg.DRV_EVENT.LOAD_DONE, Reg.DRV_LEG_COUNT.FULL_ON,
        Reg.DRV_LEG_COUNT.SUPPRESSED, Reg.DRV_LEG_STATUS.CMP_ACT, Reg.DRV_LEG_STATUS.DESAT_HS, Reg.DRV_LEG_STATUS.DESAT_LS,
        Reg.DRV_LEG_STATUS.GATES_OFF, Reg.DRV_LEG_STATUS.INPUT_ACTIVE, Reg.DRV_LEG_STATUS.INSTANT, Reg.DRV_LEG_STATUS.MODE_ACT,
        Reg.DRV_LEG_STATUS.VB_UV, Reg.DRV_LOADALL.UNITS, Reg.DRV_LOAD_STATUS.DONE, Reg.DRV_STATUS.LATCHED, Reg.DRV_STATUS.LATCH_CAUSE,
        Reg.DRV_STATUS.LEG_FAULT, Reg.DRV_STATUS.LOAD_PENDING, Reg.MOT_BUS.ADV, Reg.MOT_BUS.CHOP_D, Reg.MOT_BUS.VBUS, Reg.MOT_CMD.CMD,
        Reg.MOT_CMD.CONF, Reg.MOT_COUNT.CATCH_OK, Reg.MOT_CURRENT.ID, Reg.MOT_CURRENT.IQ, Reg.MOT_EVENT.OBS_LOST, Reg.MOT_EVENT.STATE,
        Reg.MOT_EVENT.VLIMIT, Reg.MOT_INPUT.VALUE, Reg.MOT_SPEED.EST, Reg.MOT_SPEED.REF, Reg.MOT_STATE.CURVE_ON, Reg.MOT_STATE.ILIMIT,
        Reg.MOT_STATE.SHED, Reg.MOT_STATE.SIGNAL_LOST, Reg.MOT_STATE.STATE, Reg.MOT_STATE.THROTTLE, Reg.MOT_STATE.VLIMIT])) s n) ∧
  (∀ (s a : State) (d : DrvIn) (est : Int) (conf theta : Nat) (slow : Bool) (emf : Int × Int) (t : Nat), a = (s.elapse t).drvSees d →
    (s.hasUnit d.unit.val = false ∨ (a.drv d.unit.val).act.mode = mdOff ∨
      boundaryAt (a.drv d.unit.val).valleyAt (a.drv d.unit.val).act.periodNs a.time.ns = none) →
    ∃ n, exec (.carrierValley d est conf theta slow emf t) s = .next n ∧ Effect [.host, .out] (some movesIrq) a n ∧
      Effect [.time, .faults, .host, .fr, .drives, .motors, .out, .drawn] (some (movesTime ++ movesIrq ++ movesFault ++
        [Reg.DRV_CARRIER_ACT.TOP, Reg.DRV_CHOP_PERIOD.PERIOD, Reg.DRV_EVENT.LATCH, Reg.DRV_EVENT.LOAD_DONE, Reg.DRV_LEG_COUNT.FULL_ON,
        Reg.DRV_LEG_COUNT.SUPPRESSED, Reg.DRV_LEG_STATUS.CMP_ACT, Reg.DRV_LEG_STATUS.DESAT_HS, Reg.DRV_LEG_STATUS.DESAT_LS,
        Reg.DRV_LEG_STATUS.GATES_OFF, Reg.DRV_LEG_STATUS.INPUT_ACTIVE, Reg.DRV_LEG_STATUS.INSTANT, Reg.DRV_LEG_STATUS.MODE_ACT,
        Reg.DRV_LEG_STATUS.VB_UV, Reg.DRV_LOADALL.UNITS, Reg.DRV_LOAD_STATUS.DONE, Reg.DRV_STATUS.LATCHED, Reg.DRV_STATUS.LATCH_CAUSE,
        Reg.DRV_STATUS.LEG_FAULT, Reg.DRV_STATUS.LOAD_PENDING, Reg.MOT_BUS.ADV, Reg.MOT_BUS.CHOP_D, Reg.MOT_BUS.VBUS, Reg.MOT_CMD.CMD,
        Reg.MOT_CMD.CONF, Reg.MOT_COUNT.CATCH_OK, Reg.MOT_CURRENT.ID, Reg.MOT_CURRENT.IQ, Reg.MOT_EVENT.OBS_LOST, Reg.MOT_EVENT.STATE,
        Reg.MOT_EVENT.VLIMIT, Reg.MOT_INPUT.VALUE, Reg.MOT_SPEED.EST, Reg.MOT_SPEED.REF, Reg.MOT_STATE.CURVE_ON, Reg.MOT_STATE.ILIMIT,
        Reg.MOT_STATE.SHED, Reg.MOT_STATE.SIGNAL_LOST, Reg.MOT_STATE.STATE, Reg.MOT_STATE.THROTTLE, Reg.MOT_STATE.VLIMIT])) s n) ∧
  (∀ (s a b : State) (d : DrvIn) (t v : Nat), a = (s.drvElapse d.unit.val t).seeInputs d.unit.val d.inputs → s.hasUnit d.unit.val = true →
    (a.drv d.unit.val).act.mode ≠ mdOff →
    boundaryAt (a.drv d.unit.val).chopAt (2 * (a.drv d.unit.val).act.chopPeriod) a.time.ns = some v → (a.drv d.unit.val).chop = none →
    b = (a.modDrv d.unit.val fun e => { e with
      chopAt := v, chopNext := none, act := { e.act with chopPeriod := e.chopNext.getD e.act.chopPeriod } }) →
    ∃ n, exec (.chopperBoundary d t) s = .next n ∧ (n.drv d.unit.val).act = (b.drv d.unit.val).act ∧ (n.drv d.unit.val).chopAt = v ∧
      (n.drv d.unit.val).chopNext = none ∧
      (a.legMode d.unit.val 3 = 1 → a.chopIdle d.unit.val = false →
        n.rd Reg.DRV_LEG_COUNT.SUPPRESSED d.unit.val 3 = (if b.chopRuleNow d.unit.val = 1 then
          min 4095 (a.rd Reg.DRV_LEG_COUNT.SUPPRESSED d.unit.val 3 + 1) else a.rd Reg.DRV_LEG_COUNT.SUPPRESSED d.unit.val 3) ∧
        n.rd Reg.DRV_LEG_COUNT.FULL_ON d.unit.val 3 = (if b.chopRuleNow d.unit.val = 2 then
          min 4095 (a.rd Reg.DRV_LEG_COUNT.FULL_ON d.unit.val 3 + 1) else a.rd Reg.DRV_LEG_COUNT.FULL_ON d.unit.val 3) ∧
        (if (a.drv d.unit.val).act.chopSide = 0 then (n.leg d.unit.val 3).lsCmd else (n.leg d.unit.val 3).hsCmd) =
          decide (b.chopRuleNow d.unit.val = 2 ∨ (b.chopRuleNow d.unit.val = 0 ∧
            (if (a.drv d.unit.val).act.chopMode = 0 then a.time.ns - v < 2 * (a.drv d.unit.val).act.chopTime
              else 2 * (a.drv d.unit.val).act.chopTime ≤ a.time.ns - v))) ∧
        (if (a.drv d.unit.val).act.chopSide = 0 then (n.leg d.unit.val 3).hsCmd else (n.leg d.unit.val 3).lsCmd) = false) ∧
      (a.legMode d.unit.val 3 = 1 → a.chopIdle d.unit.val = true →
        (n.leg d.unit.val 3).hsCmd = false ∧ (n.leg d.unit.val 3).lsCmd = false) ∧
      (a.legMode d.unit.val 3 ≠ 1 → (n.leg d.unit.val 3).hsCmd = decide (a.legMode d.unit.val 3 = 3) ∧
        (n.leg d.unit.val 3).lsCmd = decide (a.legMode d.unit.val 3 = 2)) ∧
      (∀ x, x < 3 → n.leg d.unit.val x = a.leg d.unit.val x) ∧
      Effect [.time, .host, .fr, .drives, .out] (some (movesTime ++ movesIrq ++ [Reg.DRV_CARRIER_ACT.TOP, Reg.DRV_EVENT.LOAD_DONE,
        Reg.DRV_LEG_COUNT.FULL_ON, Reg.DRV_LEG_COUNT.SUPPRESSED, Reg.DRV_LEG_STATUS.CMP_ACT, Reg.DRV_LEG_STATUS.DESAT_HS,
        Reg.DRV_LEG_STATUS.DESAT_LS, Reg.DRV_LEG_STATUS.GATES_OFF, Reg.DRV_LEG_STATUS.INPUT_ACTIVE, Reg.DRV_LEG_STATUS.INSTANT,
        Reg.DRV_LEG_STATUS.MODE_ACT, Reg.DRV_LEG_STATUS.VB_UV, Reg.DRV_LOADALL.UNITS, Reg.DRV_LOAD_STATUS.DONE, Reg.DRV_STATUS.LEG_FAULT,
        Reg.DRV_STATUS.LOAD_PENDING])) s n) ∧
  (∀ (s a : State) (d : DrvIn) (t v : Nat) (p : DrvSet), a = (s.drvElapse d.unit.val t).seeInputs d.unit.val d.inputs →
    s.hasUnit d.unit.val = true → (a.drv d.unit.val).act.mode ≠ mdOff →
    boundaryAt (a.drv d.unit.val).chopAt (2 * (a.drv d.unit.val).act.chopPeriod) a.time.ns = some v → (a.drv d.unit.val).chop = some p →
    ∃ n, exec (.chopperBoundary d t) s = .next n ∧ (n.drv d.unit.val).chop = none ∧ (n.drv d.unit.val).chopAt = v ∧
      (n.drv d.unit.val).act.chopTime = p.chopTime ∧ (n.drv d.unit.val).act.chopMode = p.chopMode ∧
      (n.drv d.unit.val).act.chopSide = p.chopSide ∧ (n.drv d.unit.val).chopLoaded = p.chopPeriod ∧
      (n.drv d.unit.val).act.chopPeriod = (if (a.drv d.unit.val).act.mode = mdMotor then
        (a.drv d.unit.val).chopNext.getD (a.drv d.unit.val).act.chopPeriod else p.chopPeriod) ∧
      ((a.drv d.unit.val).phase = none → n.rd Reg.DRV_STATUS.LOAD_PENDING d.unit.val = 0 ∧
        n.rd Reg.DRV_EVENT.LOAD_DONE d.unit.val = 1) ∧
      Effect [.time, .host, .fr, .drives, .out] (some (movesTime ++ movesIrq ++ [Reg.DRV_CARRIER_ACT.TOP, Reg.DRV_EVENT.LOAD_DONE,
        Reg.DRV_LEG_COUNT.FULL_ON, Reg.DRV_LEG_COUNT.SUPPRESSED, Reg.DRV_LEG_STATUS.CMP_ACT, Reg.DRV_LEG_STATUS.DESAT_HS,
        Reg.DRV_LEG_STATUS.DESAT_LS, Reg.DRV_LEG_STATUS.GATES_OFF, Reg.DRV_LEG_STATUS.INPUT_ACTIVE, Reg.DRV_LEG_STATUS.INSTANT,
        Reg.DRV_LEG_STATUS.MODE_ACT, Reg.DRV_LEG_STATUS.VB_UV, Reg.DRV_LOADALL.UNITS, Reg.DRV_LOAD_STATUS.DONE, Reg.DRV_STATUS.LEG_FAULT,
        Reg.DRV_STATUS.LOAD_PENDING])) s n) ∧
  (∀ (s a : State) (d : DrvIn) (t : Nat), a = (s.drvElapse d.unit.val t).seeInputs d.unit.val d.inputs →
    (s.hasUnit d.unit.val = false ∨ (a.drv d.unit.val).act.mode = mdOff ∨
      boundaryAt (a.drv d.unit.val).chopAt (2 * (a.drv d.unit.val).act.chopPeriod) a.time.ns = none) →
    ∃ n, exec (.chopperBoundary d t) s = .next n ∧ Effect [.host, .out] (some movesIrq) a n ∧
      Effect [.time, .host, .fr, .drives, .out] (some (movesTime ++ movesIrq ++ [Reg.DRV_CARRIER_ACT.TOP, Reg.DRV_EVENT.LOAD_DONE,
        Reg.DRV_LEG_COUNT.FULL_ON, Reg.DRV_LEG_COUNT.SUPPRESSED, Reg.DRV_LEG_STATUS.CMP_ACT, Reg.DRV_LEG_STATUS.DESAT_HS,
        Reg.DRV_LEG_STATUS.DESAT_LS, Reg.DRV_LEG_STATUS.GATES_OFF, Reg.DRV_LEG_STATUS.INPUT_ACTIVE, Reg.DRV_LEG_STATUS.INSTANT,
        Reg.DRV_LEG_STATUS.MODE_ACT, Reg.DRV_LEG_STATUS.VB_UV, Reg.DRV_LOADALL.UNITS, Reg.DRV_LOAD_STATUS.DONE, Reg.DRV_STATUS.LEG_FAULT,
        Reg.DRV_STATUS.LOAD_PENDING])) s n) ∧
  (∀ (s a : State) (u x : Fin 4) (high : Bool) (inp t : Nat), a = (s.elapse t).drvSees ⟨u, inp⟩ → s.hasUnit u.val = true →
    a.legMode u.val x.val = 1 → x.val < 3 → a.phaseOn u.val x.val = high →
    ∃ n, exec (.pwmCommandEdge u x high inp t) s = .next n ∧ (n.leg u.val x.val).hsCmd = high ∧ (n.leg u.val x.val).lsCmd = !high ∧
      (∀ k, k ≠ x.val → n.leg u.val k = a.leg u.val k) ∧
      ((if high then (a.leg u.val x.val).lsSent else (a.leg u.val x.val).hsSent) = true → a.rd Reg.DRV_STATUS.LINK u.val ≠ 0 →
        (a.drv u.val).latched = 0 →
        (hasBit inp (4 * x.val) = false → n.rd Reg.DRV_LEG_STATUS.DESAT_HS u.val x.val = 0) ∧
        (hasBit inp (4 * x.val + 1) = false → n.rd Reg.DRV_LEG_STATUS.DESAT_LS u.val x.val = 0) ∧
        (hasBit inp (4 * x.val + 2) = false → n.rd Reg.DRV_LEG_STATUS.INSTANT u.val x.val = 0) ∧
        (hasBit inp (4 * x.val + 3) = false → n.rd Reg.DRV_LEG_STATUS.VB_UV u.val x.val = 0)) ∧
      Effect [.time, .host, .fr, .drives, .out] (some (movesTime ++ movesIrq ++ [Reg.DRV_LEG_STATUS.DESAT_HS,
        Reg.DRV_LEG_STATUS.DESAT_LS, Reg.DRV_LEG_STATUS.GATES_OFF, Reg.DRV_LEG_STATUS.INPUT_ACTIVE, Reg.DRV_LEG_STATUS.INSTANT,
        Reg.DRV_LEG_STATUS.VB_UV, Reg.DRV_STATUS.LEG_FAULT])) s n) ∧
  (∀ (s a : State) (u : Fin 4) (high : Bool) (inp t : Nat), a = (s.elapse t).drvSees ⟨u, inp⟩ → s.hasUnit u.val = true →
    a.legMode u.val 3 = 1 → a.chopOn u.val = high →
    ∃ n, exec (.pwmCommandEdge u 3 high inp t) s = .next n ∧
      (n.leg u.val 3).hsCmd = (high && (a.drv u.val).act.chopSide != 0) ∧ (n.leg u.val 3).lsCmd = (high && (a.drv u.val).act.chopSide == 0) ∧
      (∀ k, k ≠ 3 → n.leg u.val k = a.leg u.val k) ∧
      Effect [.time, .host, .fr, .drives, .out] (some (movesTime ++ movesIrq ++ [Reg.DRV_LEG_STATUS.DESAT_HS,
        Reg.DRV_LEG_STATUS.DESAT_LS, Reg.DRV_LEG_STATUS.GATES_OFF, Reg.DRV_LEG_STATUS.INPUT_ACTIVE, Reg.DRV_LEG_STATUS.INSTANT,
        Reg.DRV_LEG_STATUS.VB_UV, Reg.DRV_STATUS.LEG_FAULT])) s n) ∧
  (∀ (s a : State) (u x : Fin 4) (high : Bool) (inp t : Nat), a = (s.elapse t).drvSees ⟨u, inp⟩ →
    (s.hasUnit u.val = false ∨ a.legMode u.val x.val ≠ 1 ∨
      (if x.val = 3 then a.chopOn u.val else a.phaseOn u.val x.val) ≠ high) →
    ∃ n, exec (.pwmCommandEdge u x high inp t) s = .next n ∧ Effect [.host, .out] (some movesIrq) a n ∧
      Effect [.time, .host, .fr, .drives, .out] (some (movesTime ++ movesIrq ++ [Reg.DRV_LEG_STATUS.DESAT_HS,
        Reg.DRV_LEG_STATUS.DESAT_LS, Reg.DRV_LEG_STATUS.GATES_OFF, Reg.DRV_LEG_STATUS.INPUT_ACTIVE, Reg.DRV_LEG_STATUS.INSTANT,
        Reg.DRV_LEG_STATUS.VB_UV, Reg.DRV_STATUS.LEG_FAULT])) s n)

/-- The motor control at a valley (R268, R270, R273, R278, R391): the observer's outputs of a period of valid results are shown and an
invalid one keeps them; a command away from zero takes IDLE to CATCH; the eighth period of low confidence in RUN or REGEN is observer
loss; VBUS at ov2 latches the unit with cause 3 and enters FAULT. -/
def Obligations.MotorControlRunsAtTheValley : Prop :=
  (∀ (s a : State) (u : Fin 4) (est : Int) (conf theta : Nat) (slow : Bool) (emf : Int × Int) (inp t v : Nat),
    a = (s.elapse t).drvSees ⟨u, inp⟩ → s.hasUnit u.val = true →
    boundaryAt (a.drv u.val).valleyAt (a.drv u.val).act.periodNs a.time.ns = some v →
    (a.drv u.val).act.mode = mdMotor → (a.drv u.val).phase = none → a.dsValid u.val = true →
    ((a.dsNow u.val 3).1 < (a.motCfg u.val).ov2 ∨ a.rd Reg.DRV_STATUS.LATCHED u.val ≠ 0) →
    ∃ n, exec (.carrierValley ⟨u, inp⟩ est conf theta slow emf t) s = .next n ∧ (n.drv u.val).valleyAt = v ∧
      n.rd Reg.MOT_SPEED.EST u.val = unsigned 16 est ∧ n.rd Reg.MOT_CMD.CONF u.val = conf % 65536 ∧
      n.rd Reg.MOT_BUS.VBUS u.val = (a.dsNow u.val 3).1.toNat % 65536 ∧
      n.rd Reg.MOT_STATE.THROTTLE u.val = b01 (a.throttled u.val) ∧ n.rd Reg.DRV_STATUS.LATCHED u.val = a.rd Reg.DRV_STATUS.LATCHED u.val ∧
      ((a.mstate u.val = msRun ∨ a.mstate u.val = msRegen) → conf < (a.motCfg u.val).confMin → 7 ≤ (a.mot u.val).lowRun →
        n.mstate u.val = msCatch ∧ n.rd Reg.MOT_EVENT.OBS_LOST u.val = 1 ∧ n.rd Reg.MOT_BUS.CHOP_D u.val = 0 ∧
        (n.leg u.val 3).hsCmd = false ∧ (n.leg u.val 3).lsCmd = false ∧ (a.mayRaise = true → raises a n 36 u.val)) ∧
      Effect [.time, .faults, .host, .fr, .drives, .motors, .out, .drawn] (some (movesTime ++ movesIrq ++ movesFault ++
        [Reg.DRV_CARRIER_ACT.TOP, Reg.DRV_CHOP_PERIOD.PERIOD, Reg.DRV_EVENT.LATCH, Reg.DRV_EVENT.LOAD_DONE, Reg.DRV_LEG_COUNT.FULL_ON,
        Reg.DRV_LEG_COUNT.SUPPRESSED, Reg.DRV_LEG_STATUS.CMP_ACT, Reg.DRV_LEG_STATUS.DESAT_HS, Reg.DRV_LEG_STATUS.DESAT_LS,
        Reg.DRV_LEG_STATUS.GATES_OFF, Reg.DRV_LEG_STATUS.INPUT_ACTIVE, Reg.DRV_LEG_STATUS.INSTANT, Reg.DRV_LEG_STATUS.MODE_ACT,
        Reg.DRV_LEG_STATUS.VB_UV, Reg.DRV_LOADALL.UNITS, Reg.DRV_LOAD_STATUS.DONE, Reg.DRV_STATUS.LATCHED, Reg.DRV_STATUS.LATCH_CAUSE,
        Reg.DRV_STATUS.LEG_FAULT, Reg.DRV_STATUS.LOAD_PENDING, Reg.MOT_BUS.ADV, Reg.MOT_BUS.CHOP_D, Reg.MOT_BUS.VBUS, Reg.MOT_CMD.CMD,
        Reg.MOT_CMD.CONF, Reg.MOT_COUNT.CATCH_OK, Reg.MOT_CURRENT.ID, Reg.MOT_CURRENT.IQ, Reg.MOT_EVENT.OBS_LOST, Reg.MOT_EVENT.STATE,
        Reg.MOT_EVENT.VLIMIT, Reg.MOT_INPUT.VALUE, Reg.MOT_SPEED.EST, Reg.MOT_SPEED.REF, Reg.MOT_STATE.CURVE_ON, Reg.MOT_STATE.ILIMIT,
        Reg.MOT_STATE.SHED, Reg.MOT_STATE.SIGNAL_LOST, Reg.MOT_STATE.STATE, Reg.MOT_STATE.THROTTLE, Reg.MOT_STATE.VLIMIT])) s n) ∧
  (∀ (s a : State) (u : Fin 4) (est : Int) (conf theta : Nat) (slow : Bool) (emf : Int × Int) (inp t v : Nat),
    a = (s.elapse t).drvSees ⟨u, inp⟩ → s.hasUnit u.val = true →
    boundaryAt (a.drv u.val).valleyAt (a.drv u.val).act.periodNs a.time.ns = some v →
    (a.drv u.val).act.mode = mdMotor → (a.drv u.val).phase = none → a.dsValid u.val = false →
    ∃ n, exec (.carrierValley ⟨u, inp⟩ est conf theta slow emf t) s = .next n ∧ (n.drv u.val).valleyAt = v ∧
      n.rd Reg.MOT_SPEED.EST u.val = a.rd Reg.MOT_SPEED.EST u.val ∧
      n.rd Reg.MOT_CMD.CONF u.val = a.rd Reg.MOT_CMD.CONF u.val ∧ n.rd Reg.MOT_BUS.VBUS u.val = a.rd Reg.MOT_BUS.VBUS u.val ∧
      n.rd Reg.MOT_CURRENT.IQ u.val = a.rd Reg.MOT_CURRENT.IQ u.val ∧
      ((a.mstate u.val = msRun ∨ a.mstate u.val = msRegen) → 7 ≤ (a.mot u.val).lowRun →
        n.mstate u.val = msCatch ∧ n.rd Reg.MOT_EVENT.OBS_LOST u.val = 1 ∧ n.rd Reg.MOT_BUS.CHOP_D u.val = 0 ∧
        (n.leg u.val 3).hsCmd = false ∧ (n.leg u.val 3).lsCmd = false) ∧
      Effect [.time, .faults, .host, .fr, .drives, .motors, .out, .drawn] (some (movesTime ++ movesIrq ++ movesFault ++
        [Reg.DRV_CARRIER_ACT.TOP, Reg.DRV_CHOP_PERIOD.PERIOD, Reg.DRV_EVENT.LATCH, Reg.DRV_EVENT.LOAD_DONE, Reg.DRV_LEG_COUNT.FULL_ON,
        Reg.DRV_LEG_COUNT.SUPPRESSED, Reg.DRV_LEG_STATUS.CMP_ACT, Reg.DRV_LEG_STATUS.DESAT_HS, Reg.DRV_LEG_STATUS.DESAT_LS,
        Reg.DRV_LEG_STATUS.GATES_OFF, Reg.DRV_LEG_STATUS.INPUT_ACTIVE, Reg.DRV_LEG_STATUS.INSTANT, Reg.DRV_LEG_STATUS.MODE_ACT,
        Reg.DRV_LEG_STATUS.VB_UV, Reg.DRV_LOADALL.UNITS, Reg.DRV_LOAD_STATUS.DONE, Reg.DRV_STATUS.LATCHED, Reg.DRV_STATUS.LATCH_CAUSE,
        Reg.DRV_STATUS.LEG_FAULT, Reg.DRV_STATUS.LOAD_PENDING, Reg.MOT_BUS.ADV, Reg.MOT_BUS.CHOP_D, Reg.MOT_BUS.VBUS, Reg.MOT_CMD.CMD,
        Reg.MOT_CMD.CONF, Reg.MOT_COUNT.CATCH_OK, Reg.MOT_CURRENT.ID, Reg.MOT_CURRENT.IQ, Reg.MOT_EVENT.OBS_LOST, Reg.MOT_EVENT.STATE,
        Reg.MOT_EVENT.VLIMIT, Reg.MOT_INPUT.VALUE, Reg.MOT_SPEED.EST, Reg.MOT_SPEED.REF, Reg.MOT_STATE.CURVE_ON, Reg.MOT_STATE.ILIMIT,
        Reg.MOT_STATE.SHED, Reg.MOT_STATE.SIGNAL_LOST, Reg.MOT_STATE.STATE, Reg.MOT_STATE.THROTTLE, Reg.MOT_STATE.VLIMIT])) s n) ∧
  (∀ (s a : State) (u : Fin 4) (est : Int) (conf theta : Nat) (slow : Bool) (emf : Int × Int) (inp t v : Nat),
    a = (s.elapse t).drvSees ⟨u, inp⟩ → s.hasUnit u.val = true →
    boundaryAt (a.drv u.val).valleyAt (a.drv u.val).act.periodNs a.time.ns = some v →
    (a.drv u.val).act.mode = mdMotor → (a.drv u.val).phase = none → (a.dsValid u.val = false ∨
      (a.dsNow u.val 3).1 < (a.motCfg u.val).ov2 ∨ a.rd Reg.DRV_STATUS.LATCHED u.val ≠ 0) → (a.motCfg u.val).src = 0 →
    a.safeDecel u.val = none → a.shedUnit (a.motCfg u.val) = false →
    ∃ n, exec (.carrierValley ⟨u, inp⟩ est conf theta slow emf t) s = .next n ∧
      n.rdS Reg.MOT_CMD.CMD u.val = (if a.rdS Reg.MOT_SPEED_SET.SPEED u.val < 0 ∧ (a.motCfg u.val).reverse = false then 0
        else clampI (-((a.motCfg u.val).speedMax : Int)) (a.motCfg u.val).speedMax (a.rdS Reg.MOT_SPEED_SET.SPEED u.val)) ∧
      n.rd Reg.MOT_STATE.SIGNAL_LOST u.val = 0 ∧ n.rd Reg.MOT_STATE.SHED u.val = 0 ∧
      (a.mstate u.val = msIdle → n.mstate u.val = (if n.rdS Reg.MOT_CMD.CMD u.val = 0 then msIdle else msCatch)) ∧
      Effect [.time, .faults, .host, .fr, .drives, .motors, .out, .drawn] (some (movesTime ++ movesIrq ++ movesFault ++
        [Reg.DRV_CARRIER_ACT.TOP, Reg.DRV_CHOP_PERIOD.PERIOD, Reg.DRV_EVENT.LATCH, Reg.DRV_EVENT.LOAD_DONE, Reg.DRV_LEG_COUNT.FULL_ON,
        Reg.DRV_LEG_COUNT.SUPPRESSED, Reg.DRV_LEG_STATUS.CMP_ACT, Reg.DRV_LEG_STATUS.DESAT_HS, Reg.DRV_LEG_STATUS.DESAT_LS,
        Reg.DRV_LEG_STATUS.GATES_OFF, Reg.DRV_LEG_STATUS.INPUT_ACTIVE, Reg.DRV_LEG_STATUS.INSTANT, Reg.DRV_LEG_STATUS.MODE_ACT,
        Reg.DRV_LEG_STATUS.VB_UV, Reg.DRV_LOADALL.UNITS, Reg.DRV_LOAD_STATUS.DONE, Reg.DRV_STATUS.LATCHED, Reg.DRV_STATUS.LATCH_CAUSE,
        Reg.DRV_STATUS.LEG_FAULT, Reg.DRV_STATUS.LOAD_PENDING, Reg.MOT_BUS.ADV, Reg.MOT_BUS.CHOP_D, Reg.MOT_BUS.VBUS, Reg.MOT_CMD.CMD,
        Reg.MOT_CMD.CONF, Reg.MOT_COUNT.CATCH_OK, Reg.MOT_CURRENT.ID, Reg.MOT_CURRENT.IQ, Reg.MOT_EVENT.OBS_LOST, Reg.MOT_EVENT.STATE,
        Reg.MOT_EVENT.VLIMIT, Reg.MOT_INPUT.VALUE, Reg.MOT_SPEED.EST, Reg.MOT_SPEED.REF, Reg.MOT_STATE.CURVE_ON, Reg.MOT_STATE.ILIMIT,
        Reg.MOT_STATE.SHED, Reg.MOT_STATE.SIGNAL_LOST, Reg.MOT_STATE.STATE, Reg.MOT_STATE.THROTTLE, Reg.MOT_STATE.VLIMIT])) s n) ∧
  (∀ (s a : State) (u : Fin 4) (est : Int) (conf theta : Nat) (slow : Bool) (emf : Int × Int) (inp t v : Nat),
    a = (s.elapse t).drvSees ⟨u, inp⟩ → s.hasUnit u.val = true →
    boundaryAt (a.drv u.val).valleyAt (a.drv u.val).act.periodNs a.time.ns = some v →
    (a.drv u.val).act.mode = mdMotor → (a.drv u.val).phase = none → a.dsValid u.val = true →
    ((a.motCfg u.val).ov2 : Int) ≤ (a.dsNow u.val 3).1 → a.rd Reg.DRV_STATUS.LATCHED u.val = 0 →
    ∃ n, exec (.carrierValley ⟨u, inp⟩ est conf theta slow emf t) s = .next n ∧ gatesOff n u.val ∧
      (n.drv u.val).latched = (if (a.drv u.val).latched = 0 then 3 else (a.drv u.val).latched) ∧
      (a.rd Reg.DRV_STATUS.LINK u.val ≠ 0 → (a.drv u.val).latched = 0 → n.rd Reg.DRV_STATUS.LATCHED u.val = 1 ∧
        n.rd Reg.DRV_STATUS.LATCH_CAUSE u.val = 3 ∧ n.mstate u.val = msFault ∧
        (a.mayRaise = true → raises a n 34 (4 * u.val + 3))) ∧
      Effect [.time, .faults, .host, .fr, .drives, .motors, .out, .drawn] (some (movesTime ++ movesIrq ++ movesFault ++
        [Reg.DRV_CARRIER_ACT.TOP, Reg.DRV_CHOP_PERIOD.PERIOD, Reg.DRV_EVENT.LATCH, Reg.DRV_EVENT.LOAD_DONE, Reg.DRV_LEG_COUNT.FULL_ON,
        Reg.DRV_LEG_COUNT.SUPPRESSED, Reg.DRV_LEG_STATUS.CMP_ACT, Reg.DRV_LEG_STATUS.DESAT_HS, Reg.DRV_LEG_STATUS.DESAT_LS,
        Reg.DRV_LEG_STATUS.GATES_OFF, Reg.DRV_LEG_STATUS.INPUT_ACTIVE, Reg.DRV_LEG_STATUS.INSTANT, Reg.DRV_LEG_STATUS.MODE_ACT,
        Reg.DRV_LEG_STATUS.VB_UV, Reg.DRV_LOADALL.UNITS, Reg.DRV_LOAD_STATUS.DONE, Reg.DRV_STATUS.LATCHED, Reg.DRV_STATUS.LATCH_CAUSE,
        Reg.DRV_STATUS.LEG_FAULT, Reg.DRV_STATUS.LOAD_PENDING, Reg.MOT_BUS.ADV, Reg.MOT_BUS.CHOP_D, Reg.MOT_BUS.VBUS, Reg.MOT_CMD.CMD,
        Reg.MOT_CMD.CONF, Reg.MOT_COUNT.CATCH_OK, Reg.MOT_CURRENT.ID, Reg.MOT_CURRENT.IQ, Reg.MOT_EVENT.OBS_LOST, Reg.MOT_EVENT.STATE,
        Reg.MOT_EVENT.VLIMIT, Reg.MOT_INPUT.VALUE, Reg.MOT_SPEED.EST, Reg.MOT_SPEED.REF, Reg.MOT_STATE.CURVE_ON, Reg.MOT_STATE.ILIMIT,
        Reg.MOT_STATE.SHED, Reg.MOT_STATE.SIGNAL_LOST, Reg.MOT_STATE.STATE, Reg.MOT_STATE.THROTTLE, Reg.MOT_STATE.VLIMIT])) s n)

/-- The timed exits of the motor states (R274, R276, R279 to R281, R283, R284): a start without confidence, a catch that times out or
finds a slow rotor, the ends of SHORT and of the coast, a chopper that does not pull VBUS down, and a speed signal that is lost; the edges
of the speed pin. -/
def Obligations.MotorStatesEndInTime : Prop :=
  (∀ (s : State) (u : Fin 4), s.hasUnit u.val = true → hasBit (s.rd Reg.DRV_STATUS.LEG_FAULT u.val) 3 = false →
    ∃ n, exec (.motChopReset u) s = .next n ∧ n.rd Reg.MOT_STATE.CHOP_FAULT u.val = 0 ∧
      Effect [.host, .out] (some (movesIrq ++ [Reg.MOT_STATE.CHOP_FAULT])) s n) ∧
  (∀ (s : State) (u : Fin 4), (s.hasUnit u.val = false ∨ hasBit (s.rd Reg.DRV_STATUS.LEG_FAULT u.val) 3 = true) →
    ∃ n, exec (.motChopReset u) s = .next n ∧ Effect [.host, .out] (some movesIrq) s n) ∧
  (∀ (s a : State) (u : Fin 4) (t b : Nat) (v : Int), a = s.drvElapse u.val t → (a.mot u.val).fullSince = some (b, v) →
    b + 1000 * (a.motCfg u.val).chopCheckUs ≤ a.time.ns → v ≤ (a.rd Reg.MOT_BUS.VBUS u.val : Nat) →
    ∃ n, exec (.chopCheck u t) s = .next n ∧ n.on Reg.MOT_STATE.CHOP_FAULT u.val = true ∧
      (a.rd Reg.MOT_STATE.CHOP_FAULT u.val = 0 → n.rd Reg.MOT_EVENT.CHOP_FAULT u.val = 1 ∧
        n.rd Reg.MOT_COUNT.CHOP_FAULTS u.val = min 255 (a.rd Reg.MOT_COUNT.CHOP_FAULTS u.val + 1)) ∧
      (n.mot u.val).fullSince = none ∧ n.rd Reg.MOT_BUS.CHOP_D u.val = 0 ∧
      (n.leg u.val 3).hsCmd = false ∧ (n.leg u.val 3).lsCmd = false ∧
      n.mstate u.val = (if a.mstate u.val = msRegen then
        (if (a.rdS Reg.MOT_SPEED.EST u.val).natAbs ≤ (a.motCfg u.val).shortBrake then msShort else msCoast) else a.mstate u.val) ∧
      Effect [.time, .faults, .host, .fr, .drives, .motors, .out] (some (movesTime ++ movesIrq ++ movesFault ++ [Reg.DRV_CARRIER_ACT.TOP,
        Reg.DRV_LEG_STATUS.CMP_ACT, Reg.DRV_LEG_STATUS.DESAT_HS, Reg.DRV_LEG_STATUS.DESAT_LS, Reg.DRV_LEG_STATUS.GATES_OFF,
        Reg.DRV_LEG_STATUS.INSTANT, Reg.DRV_LEG_STATUS.MODE_ACT, Reg.DRV_LEG_STATUS.VB_UV, Reg.DRV_STATUS.LEG_FAULT, Reg.MOT_BUS.CHOP_D,
        Reg.MOT_COUNT.CHOP_FAULTS, Reg.MOT_EVENT.CHOP_FAULT, Reg.MOT_EVENT.OBS_LOST, Reg.MOT_EVENT.STATE, Reg.MOT_STATE.CHOP_FAULT,
        Reg.MOT_STATE.STATE])) s n) ∧
  (∀ (s a : State) (u : Fin 4) (t b : Nat) (v : Int), a = s.drvElapse u.val t → (a.mot u.val).fullSince = some (b, v) →
    b + 1000 * (a.motCfg u.val).chopCheckUs ≤ a.time.ns → ((a.rd Reg.MOT_BUS.VBUS u.val : Nat) : Int) < v →
    ∃ n, exec (.chopCheck u t) s = .next n ∧
      n.mot u.val = { a.mot u.val with fullSince := some (a.time.ns, (a.rd Reg.MOT_BUS.VBUS u.val : Nat)) } ∧
      Effect [.host, .motors, .out] (some movesIrq) a n ∧
      Effect [.time, .faults, .host, .fr, .drives, .motors, .out] (some (movesTime ++ movesIrq ++ movesFault ++ [Reg.DRV_CARRIER_ACT.TOP,
        Reg.DRV_LEG_STATUS.CMP_ACT, Reg.DRV_LEG_STATUS.DESAT_HS, Reg.DRV_LEG_STATUS.DESAT_LS, Reg.DRV_LEG_STATUS.GATES_OFF,
        Reg.DRV_LEG_STATUS.INSTANT, Reg.DRV_LEG_STATUS.MODE_ACT, Reg.DRV_LEG_STATUS.VB_UV, Reg.DRV_STATUS.LEG_FAULT, Reg.MOT_BUS.CHOP_D,
        Reg.MOT_COUNT.CHOP_FAULTS, Reg.MOT_EVENT.CHOP_FAULT, Reg.MOT_EVENT.OBS_LOST, Reg.MOT_EVENT.STATE, Reg.MOT_STATE.CHOP_FAULT,
        Reg.MOT_STATE.STATE])) s n) ∧
  (∀ (s a : State) (u : Fin 4) (t : Nat), a = s.drvElapse u.val t →
    ((a.mot u.val).fullSince = none ∨ ∃ b v, (a.mot u.val).fullSince = some (b, v) ∧
      a.time.ns < b + 1000 * (a.motCfg u.val).chopCheckUs) →
    ∃ n, exec (.chopCheck u t) s = .next n ∧ Effect [.host, .out] (some movesIrq) a n ∧
      Effect [.time, .faults, .host, .fr, .drives, .motors, .out] (some (movesTime ++ movesIrq ++ movesFault ++ [Reg.DRV_CARRIER_ACT.TOP,
        Reg.DRV_LEG_STATUS.CMP_ACT, Reg.DRV_LEG_STATUS.DESAT_HS, Reg.DRV_LEG_STATUS.DESAT_LS, Reg.DRV_LEG_STATUS.GATES_OFF,
        Reg.DRV_LEG_STATUS.INSTANT, Reg.DRV_LEG_STATUS.MODE_ACT, Reg.DRV_LEG_STATUS.VB_UV, Reg.DRV_STATUS.LEG_FAULT, Reg.MOT_BUS.CHOP_D,
        Reg.MOT_COUNT.CHOP_FAULTS, Reg.MOT_EVENT.CHOP_FAULT, Reg.MOT_EVENT.OBS_LOST, Reg.MOT_EVENT.STATE, Reg.MOT_STATE.CHOP_FAULT,
        Reg.MOT_STATE.STATE])) s n) ∧
  (∀ (s a : State) (u : Fin 4) (t b : Nat), a = s.drvElapse u.val t → (a.mot u.val).atHandover = some b → a.mstate u.val = msStart →
    b + 1000000000 ≤ a.time.ns →
    ∃ n, exec (.startFail u t) s = .next n ∧ n.mstate u.val = msStopseq ∧ n.rd Reg.MOT_EVENT.STATE u.val = 1 ∧
      n.rd Reg.MOT_COUNT.START_FAIL u.val = min 255 (a.rd Reg.MOT_COUNT.START_FAIL u.val + 1) ∧
      (n.mot u.val).entered = a.time.ns ∧ switchedOff n u.val ∧ n.faults = a.faults ∧
      Effect [.time, .faults, .host, .fr, .drives, .motors, .out] (some (movesTime ++ movesIrq ++ movesFault ++ [Reg.DRV_CARRIER_ACT.TOP,
        Reg.DRV_LEG_STATUS.CMP_ACT, Reg.DRV_LEG_STATUS.DESAT_HS, Reg.DRV_LEG_STATUS.DESAT_LS, Reg.DRV_LEG_STATUS.GATES_OFF,
        Reg.DRV_LEG_STATUS.INSTANT, Reg.DRV_LEG_STATUS.MODE_ACT, Reg.DRV_LEG_STATUS.VB_UV, Reg.DRV_STATUS.LEG_FAULT,
        Reg.MOT_COUNT.START_FAIL, Reg.MOT_EVENT.OBS_LOST, Reg.MOT_EVENT.STATE, Reg.MOT_STATE.STATE])) s n) ∧
  (∀ (s a : State) (u : Fin 4) (t : Nat), a = s.drvElapse u.val t → ((a.mot u.val).atHandover = none ∨ a.mstate u.val ≠ msStart ∨
      ∃ b, (a.mot u.val).atHandover = some b ∧ a.time.ns < b + 1000000000) →
    ∃ n, exec (.startFail u t) s = .next n ∧ Effect [.host, .out] (some movesIrq) a n ∧
      Effect [.time, .faults, .host, .fr, .drives, .motors, .out] (some (movesTime ++ movesIrq ++ movesFault ++ [Reg.DRV_CARRIER_ACT.TOP,
        Reg.DRV_LEG_STATUS.CMP_ACT, Reg.DRV_LEG_STATUS.DESAT_HS, Reg.DRV_LEG_STATUS.DESAT_LS, Reg.DRV_LEG_STATUS.GATES_OFF,
        Reg.DRV_LEG_STATUS.INSTANT, Reg.DRV_LEG_STATUS.MODE_ACT, Reg.DRV_LEG_STATUS.VB_UV, Reg.DRV_STATUS.LEG_FAULT,
        Reg.MOT_COUNT.START_FAIL, Reg.MOT_EVENT.OBS_LOST, Reg.MOT_EVENT.STATE, Reg.MOT_STATE.STATE])) s n) ∧
  (∀ (s a : State) (u : Fin 4) (t : Nat), a = s.drvElapse u.val t →
    a.mstate u.val = msCatch → (a.mot u.val).entered + 200000000 ≤ a.time.ns →
    ∃ n, exec (.catchTimeout u t) s = .next n ∧ n.mstate u.val = msStopseq ∧ n.rd Reg.MOT_EVENT.CATCH_FAIL u.val = 1 ∧
      n.rd Reg.MOT_COUNT.CATCH_FAIL u.val = min 255 (a.rd Reg.MOT_COUNT.CATCH_FAIL u.val + 1) ∧
      (n.mot u.val).entered = a.time.ns ∧ switchedOff n u.val ∧ n.faults = a.faults ∧
      Effect [.time, .faults, .host, .fr, .drives, .motors, .out] (some (movesTime ++ movesIrq ++ movesFault ++ [Reg.DRV_CARRIER_ACT.TOP,
        Reg.DRV_LEG_STATUS.CMP_ACT, Reg.DRV_LEG_STATUS.DESAT_HS, Reg.DRV_LEG_STATUS.DESAT_LS, Reg.DRV_LEG_STATUS.GATES_OFF,
        Reg.DRV_LEG_STATUS.INSTANT, Reg.DRV_LEG_STATUS.MODE_ACT, Reg.DRV_LEG_STATUS.VB_UV, Reg.DRV_STATUS.LEG_FAULT,
        Reg.MOT_COUNT.CATCH_FAIL, Reg.MOT_EVENT.CATCH_FAIL, Reg.MOT_EVENT.OBS_LOST, Reg.MOT_EVENT.STATE, Reg.MOT_STATE.STATE])) s n) ∧
  (∀ (s a : State) (u : Fin 4) (t : Nat), a = s.drvElapse u.val t →
    (a.mstate u.val ≠ msCatch ∨ a.time.ns < (a.mot u.val).entered + 200000000) →
    ∃ n, exec (.catchTimeout u t) s = .next n ∧ Effect [.host, .out] (some movesIrq) a n ∧
      Effect [.time, .faults, .host, .fr, .drives, .motors, .out] (some (movesTime ++ movesIrq ++ movesFault ++ [Reg.DRV_CARRIER_ACT.TOP,
        Reg.DRV_LEG_STATUS.CMP_ACT, Reg.DRV_LEG_STATUS.DESAT_HS, Reg.DRV_LEG_STATUS.DESAT_LS, Reg.DRV_LEG_STATUS.GATES_OFF,
        Reg.DRV_LEG_STATUS.INSTANT, Reg.DRV_LEG_STATUS.MODE_ACT, Reg.DRV_LEG_STATUS.VB_UV, Reg.DRV_STATUS.LEG_FAULT,
        Reg.MOT_COUNT.CATCH_FAIL, Reg.MOT_EVENT.CATCH_FAIL, Reg.MOT_EVENT.OBS_LOST, Reg.MOT_EVENT.STATE, Reg.MOT_STATE.STATE])) s n) ∧
  (∀ (s a : State) (u : Fin 4) (t b : Nat), a = s.drvElapse u.val t → (a.mot u.val).slowSince = some b → a.mstate u.val = msCatch →
    b + 20000000 ≤ a.time.ns →
    ∃ n, exec (.catchSlow u t) s = .next n ∧ shorted n u.val ∧ (n.mot u.val).entered = a.time.ns ∧
      (n.mot u.val).fromCatch = true ∧ (n.mot u.val).reversal = false ∧ n.faults = a.faults ∧
      Effect [.time, .faults, .host, .fr, .drives, .motors, .out] (some (movesTime ++ movesIrq ++ movesFault ++ [Reg.DRV_CARRIER_ACT.TOP,
        Reg.DRV_LEG_STATUS.CMP_ACT, Reg.DRV_LEG_STATUS.DESAT_HS, Reg.DRV_LEG_STATUS.DESAT_LS, Reg.DRV_LEG_STATUS.GATES_OFF,
        Reg.DRV_LEG_STATUS.INSTANT, Reg.DRV_LEG_STATUS.MODE_ACT, Reg.DRV_LEG_STATUS.VB_UV, Reg.DRV_STATUS.LEG_FAULT,
        Reg.MOT_EVENT.OBS_LOST, Reg.MOT_EVENT.STATE, Reg.MOT_STATE.STATE])) s n) ∧
  (∀ (s a : State) (u : Fin 4) (t : Nat), a = s.drvElapse u.val t → ((a.mot u.val).slowSince = none ∨ a.mstate u.val ≠ msCatch ∨
      ∃ b, (a.mot u.val).slowSince = some b ∧ a.time.ns < b + 20000000) →
    ∃ n, exec (.catchSlow u t) s = .next n ∧ Effect [.host, .out] (some movesIrq) a n ∧
      Effect [.time, .faults, .host, .fr, .drives, .motors, .out] (some (movesTime ++ movesIrq ++ movesFault ++ [Reg.DRV_CARRIER_ACT.TOP,
        Reg.DRV_LEG_STATUS.CMP_ACT, Reg.DRV_LEG_STATUS.DESAT_HS, Reg.DRV_LEG_STATUS.DESAT_LS, Reg.DRV_LEG_STATUS.GATES_OFF,
        Reg.DRV_LEG_STATUS.INSTANT, Reg.DRV_LEG_STATUS.MODE_ACT, Reg.DRV_LEG_STATUS.VB_UV, Reg.DRV_STATUS.LEG_FAULT,
        Reg.MOT_EVENT.OBS_LOST, Reg.MOT_EVENT.STATE, Reg.MOT_STATE.STATE])) s n) ∧
  (∀ (s a : State) (u : Fin 4) (t : Nat), a = s.drvElapse u.val t → a.mstate u.val = msShort →
    (a.mot u.val).entered + 1000000 * (a.motCfg u.val).shortMs ≤ a.time.ns →
    ∃ n, exec (.shortEnd u t) s = .next n ∧
      n.mstate u.val = (if (a.mot u.val).reversal = true ∨ ((a.mot u.val).fromCatch = true ∧ a.rdS Reg.MOT_CMD.CMD u.val ≠ 0) then msStart
        else msIdle) ∧
      (n.mot u.val).refQ = 0 ∧ (n.mot u.val).startAngle = 0 ∧ (n.mot u.val).reversal = false ∧
      (n.mot u.val).startSign = signI (a.rdS Reg.MOT_CMD.CMD u.val) ∧
      n.rd Reg.MOT_SPEED.REF u.val = 0 ∧ (n.mstate u.val = msIdle → switchedOff n u.val) ∧ n.faults = a.faults ∧
      Effect [.time, .faults, .host, .fr, .drives, .motors, .out] (some (movesTime ++ movesIrq ++ movesFault ++ [Reg.DRV_CARRIER_ACT.TOP,
        Reg.DRV_LEG_STATUS.CMP_ACT, Reg.DRV_LEG_STATUS.DESAT_HS, Reg.DRV_LEG_STATUS.DESAT_LS, Reg.DRV_LEG_STATUS.GATES_OFF,
        Reg.DRV_LEG_STATUS.INSTANT, Reg.DRV_LEG_STATUS.MODE_ACT, Reg.DRV_LEG_STATUS.VB_UV, Reg.DRV_STATUS.LEG_FAULT,
        Reg.MOT_EVENT.OBS_LOST, Reg.MOT_EVENT.STATE, Reg.MOT_SPEED.REF, Reg.MOT_STATE.STATE])) s n) ∧
  (∀ (s a : State) (u : Fin 4) (t : Nat), a = s.drvElapse u.val t → (a.mstate u.val ≠ msShort ∨
      a.time.ns < (a.mot u.val).entered + 1000000 * (a.motCfg u.val).shortMs) →
    ∃ n, exec (.shortEnd u t) s = .next n ∧ Effect [.host, .out] (some movesIrq) a n ∧
      Effect [.time, .faults, .host, .fr, .drives, .motors, .out] (some (movesTime ++ movesIrq ++ movesFault ++ [Reg.DRV_CARRIER_ACT.TOP,
        Reg.DRV_LEG_STATUS.CMP_ACT, Reg.DRV_LEG_STATUS.DESAT_HS, Reg.DRV_LEG_STATUS.DESAT_LS, Reg.DRV_LEG_STATUS.GATES_OFF,
        Reg.DRV_LEG_STATUS.INSTANT, Reg.DRV_LEG_STATUS.MODE_ACT, Reg.DRV_LEG_STATUS.VB_UV, Reg.DRV_STATUS.LEG_FAULT,
        Reg.MOT_EVENT.OBS_LOST, Reg.MOT_EVENT.STATE, Reg.MOT_SPEED.REF, Reg.MOT_STATE.STATE])) s n) ∧
  (∀ (s a : State) (u : Fin 4) (t : Nat), a = s.drvElapse u.val t → a.mstate u.val = msStopseq →
    (a.mot u.val).entered + 1000000 * (a.motCfg u.val).stopCoastMs ≤ a.time.ns →
    ∃ n, exec (.stopseqCoastEnd u t) s = .next n ∧ shorted n u.val ∧ (n.mot u.val).entered = a.time.ns ∧
      (n.mot u.val).fromCatch = false ∧ (n.mot u.val).reversal = false ∧ n.faults = a.faults ∧
      Effect [.time, .faults, .host, .fr, .drives, .motors, .out] (some (movesTime ++ movesIrq ++ movesFault ++ [Reg.DRV_CARRIER_ACT.TOP,
        Reg.DRV_LEG_STATUS.CMP_ACT, Reg.DRV_LEG_STATUS.DESAT_HS, Reg.DRV_LEG_STATUS.DESAT_LS, Reg.DRV_LEG_STATUS.GATES_OFF,
        Reg.DRV_LEG_STATUS.INSTANT, Reg.DRV_LEG_STATUS.MODE_ACT, Reg.DRV_LEG_STATUS.VB_UV, Reg.DRV_STATUS.LEG_FAULT,
        Reg.MOT_EVENT.OBS_LOST, Reg.MOT_EVENT.STATE, Reg.MOT_STATE.STATE])) s n) ∧
  (∀ (s a : State) (u : Fin 4) (t : Nat), a = s.drvElapse u.val t → (a.mstate u.val ≠ msStopseq ∨
      a.time.ns < (a.mot u.val).entered + 1000000 * (a.motCfg u.val).stopCoastMs) →
    ∃ n, exec (.stopseqCoastEnd u t) s = .next n ∧ Effect [.host, .out] (some movesIrq) a n ∧
      Effect [.time, .faults, .host, .fr, .drives, .motors, .out] (some (movesTime ++ movesIrq ++ movesFault ++ [Reg.DRV_CARRIER_ACT.TOP,
        Reg.DRV_LEG_STATUS.CMP_ACT, Reg.DRV_LEG_STATUS.DESAT_HS, Reg.DRV_LEG_STATUS.DESAT_LS, Reg.DRV_LEG_STATUS.GATES_OFF,
        Reg.DRV_LEG_STATUS.INSTANT, Reg.DRV_LEG_STATUS.MODE_ACT, Reg.DRV_LEG_STATUS.VB_UV, Reg.DRV_STATUS.LEG_FAULT,
        Reg.MOT_EVENT.OBS_LOST, Reg.MOT_EVENT.STATE, Reg.MOT_STATE.STATE])) s n) ∧
  (∀ (s a : State) (u : Fin 4) (t : Nat), a = s.elapse t → s.hasUnit u.val = true → (s.mot u.val).spdHigh = false →
    (∀ p, (s.mot u.val).spdAt = some p → p + 1000 * (s.motCfg u.val).capfilt ≤ a.time.ns) →
    ∃ n, exec (.spdEdge u true t) s = .next n ∧
      n.mot u.val = { s.mot u.val with
        goodAt := a.time.ns, riseAt := some a.time.ns, highNs := 0, spdHigh := true, spdAt := some a.time.ns,
        pin := (match (s.mot u.val).riseAt with
          | none => (s.mot u.val).pin
          | some r => if a.time.ns ≤ r then (s.mot u.val).pin
            else if (s.motCfg u.val).src = 2 then (((s.mot u.val).highNs * 10000 / (a.time.ns - r) : Nat) : Int)
            else ((10000000000 / (a.time.ns - r) : Nat) : Int)) } ∧
      ((s.motCfg u.val).src = 2 ∨ (s.motCfg u.val).src = 3 → n.rd Reg.MOT_STATE.SIGNAL_LOST u.val = 0) ∧
      Effect [.time, .host, .fr, .motors, .out] (some (movesTime ++ movesIrq ++ [Reg.MOT_STATE.SIGNAL_LOST])) s n) ∧
  (∀ (s a : State) (u : Fin 4) (t : Nat), a = s.elapse t → s.hasUnit u.val = true → (s.mot u.val).spdHigh = true →
    (∀ p, (s.mot u.val).spdAt = some p → p + 1000 * (s.motCfg u.val).capfilt ≤ a.time.ns) →
    ∃ n, exec (.spdEdge u false t) s = .next n ∧
      n.mot u.val = { s.mot u.val with
        goodAt := a.time.ns, spdHigh := false, spdAt := some a.time.ns,
        highNs := (match (s.mot u.val).riseAt with
          | none => 0
          | some r => a.time.ns - r) } ∧
      ((s.motCfg u.val).src = 2 ∨ (s.motCfg u.val).src = 3 → n.rd Reg.MOT_STATE.SIGNAL_LOST u.val = 0) ∧
      Effect [.time, .host, .fr, .motors, .out] (some (movesTime ++ movesIrq ++ [Reg.MOT_STATE.SIGNAL_LOST])) s n) ∧
  (∀ (s : State) (u : Fin 4) (h : Bool) (t : Nat), (s.hasUnit u.val = false ∨ (s.mot u.val).spdHigh = h ∨
      ∃ p, (s.mot u.val).spdAt = some p ∧ (s.elapse t).time.ns < p + 1000 * (s.motCfg u.val).capfilt) →
    ∃ n, exec (.spdEdge u h t) s = .next n ∧ Effect [.time, .host, .fr, .out] (some (movesTime ++ movesIrq)) s n) ∧
  (∀ (s : State) (u : Fin 4) (t : Nat), (s.drv u.val).act.mode = mdMotor → (s.motCfg u.val).src ≠ 0 →
    (s.mot u.val).goodAt + 1000000 * (s.motCfg u.val).timeoutMs ≤ (s.elapse t).time.ns →
    ∃ n, exec (.speedSignalLost u t) s = .next n ∧ n.rd Reg.MOT_STATE.SIGNAL_LOST u.val = 1 ∧
      (s.rd Reg.MOT_STATE.SIGNAL_LOST u.val = 0 → n.rd Reg.MOT_EVENT.SIGNAL_LOST u.val = 1) ∧
      (s.rd Reg.MOT_STATE.SIGNAL_LOST u.val ≠ 0 → n.rd Reg.MOT_EVENT.SIGNAL_LOST u.val = s.rd Reg.MOT_EVENT.SIGNAL_LOST u.val) ∧
      Effect [.time, .host, .fr, .out] (some (movesTime ++ movesIrq ++ [Reg.MOT_EVENT.SIGNAL_LOST, Reg.MOT_STATE.SIGNAL_LOST])) s n) ∧
  (∀ (s : State) (u : Fin 4) (t : Nat), ((s.drv u.val).act.mode ≠ mdMotor ∨ (s.motCfg u.val).src = 0 ∨
      (s.elapse t).time.ns < (s.mot u.val).goodAt + 1000000 * (s.motCfg u.val).timeoutMs) →
    ∃ n, exec (.speedSignalLost u t) s = .next n ∧ Effect [.time, .host, .fr, .out] (some (movesTime ++ movesIrq)) s n)

/-- Safety channels (R289 to R292, R302): a sample at a new level restarts or ends a channel's filter; a level that has stood for t_filt
is the filtered one and its pair is judged; a series of 5 × t_filt and a disagreement longer than t_disc are pair faults with causes 2 and
1. A group that is demanded does not stay ENABLED. Each TPO goes low once in a test cycle, at its own quarter of it and alone, for
tp_width; the first cycle begins at the commit, which is the model's choice (assumption 39). A TPO must read low at the start of its pulse
and high at its end, else every pair it supplies takes PAIR_FAULT with cause 5; its channels are blanked until 100 µs after the end; 200
µs into the pulse a channel of the TPO must read low, or its pair takes PAIR_FAULT. -/
def Obligations.SafetyChannelsAreFilteredAndTested : Prop :=
  (∀ (s : State) (u : Fin 2) (i : Fin 16) (v : Bool) (t : Nat), s.unitOn (unitOf u) = true → (s.pairCfg (i.val / 2)).mode ≠ 0 →
    (s.elapse t).blanked (unitOf u) i.val = false → (s.chan (unitOf u) i.val).raw ≠ v →
    ∃ n, exec (.safeInputChange u i v t) s = .next n ∧
      n.chan (unitOf u) i.val = (if v = (s.chan (unitOf u) i.val).filt then
          { s.chan (unitOf u) i.val with raw := v, since := (s.elapse t).time.ns, running := false }
        else { s.chan (unitOf u) i.val with raw := v, since := (s.elapse t).time.ns, running := true,
                                            series := some ((s.chan (unitOf u) i.val).series.getD (s.elapse t).time.ns) }) ∧
      (∀ b k, (b ≠ unitOf u ∨ k ≠ i.val) → n.chan b k = s.chan b k) ∧
      Effect [.time, .host, .fr, .safety, .out] (some (movesTime ++ movesIrq)) s n) ∧
  (∀ (s : State) (u : Fin 2) (i : Fin 16) (v : Bool) (t : Nat), (s.unitOn (unitOf u) = false ∨ (s.pairCfg (i.val / 2)).mode = 0 ∨
      (s.elapse t).blanked (unitOf u) i.val = true ∨ (s.chan (unitOf u) i.val).raw = v) →
    ∃ n, exec (.safeInputChange u i v t) s = .next n ∧ Effect [.time, .host, .fr, .out] (some (movesTime ++ movesIrq)) s n) ∧
  (∀ (s : State) (u : Fin 2) (i : Fin 16) (t : Nat), s.unitOn (unitOf u) = true → (s.pairCfg (i.val / 2)).mode ≠ 0 →
    (s.elapse t).blanked (unitOf u) i.val = false →
    (s.chan (unitOf u) i.val).since + (s.pairCfg (i.val / 2)).filtNs ≤ (s.elapse t).time.ns →
    ∃ n, exec (.safeFilterSettle u i t) s = .next n ∧ (n.chan (unitOf u) i.val).filt = (s.chan (unitOf u) i.val).raw ∧
      (n.chan (unitOf u) i.val).running = false ∧ (n.chan (unitOf u) i.val).series = none ∧
      (n.chan (unitOf u) i.val).unsettled = false ∧
      (n.pairOf (unitOf u) (i.val / 2)).dem = (n.chanDemand (unitOf u) (2 * (i.val / 2)) || n.chanDemand (unitOf u) (2 * (i.val / 2) + 1) ||
        decide ((n.pairOf (unitOf u) (i.val / 2)).fault ≠ 0)) ∧
      (∀ g, g < 8 → hasBit s.cfg.safety.groups g = true → n.demanded (unitOf u) g = true → (n.grp (unitOf u) g).state ≠ gsEnabled) ∧
      Effect [.time, .host, .fr, .convs, .safety, .out] (some (movesTime ++ movesIrq ++ [Reg.SAFE_EVENT.DEMAND, Reg.SAFE_EVENT.REMOVED,
        Reg.SAFE_EVENT.RESET_REFUSED, Reg.SAFE_EVENT.STOPPING, Reg.SAFE_FIRE.DRV_A, Reg.SAFE_FIRE.DRV_B, Reg.SAFE_FIRE.FIRE_A,
        Reg.SAFE_FIRE.FIRE_B, Reg.SAFE_GROUP.CAUSE, Reg.SAFE_GROUP.KIND, Reg.SAFE_GROUP.PAIRS, Reg.SAFE_GROUP.STATE, Reg.SAFE_GROUP.STOP,
        Reg.SAFE_PAIR.CH_A, Reg.SAFE_PAIR.CH_B, Reg.SAFE_PAIR.DEMAND, Reg.SAFE_PAIR.DEMANDS, Reg.SAFE_PAIR.FAULT_CAUSE,
        Reg.SAFE_PAIR.PAIR_FAULT, Reg.SAFE_RESET_STATUS.ARMED, Reg.SAFE_RESET_STATUS.REFUSED, Reg.SAFE_RESET_STATUS.RELEASED,
        Reg.SAFE_STATUS.A_OK, Reg.SAFE_STATUS.B_OK, Reg.SAFE_STATUS.DEMAND, Reg.SAFE_STATUS.DIAG, Reg.SAFE_STATUS.DIAG_A,
        Reg.SAFE_STATUS.DIAG_B, Reg.SAFE_STATUS.DIAG_CAUSE, Reg.SAFE_STATUS.LOCKED, Reg.SAFE_STATUS.RESET_PIN, Reg.SAFE_TPO.EN,
        Reg.SAFE_TPO.READBACK_FAULT])) s n) ∧
  (∀ (s : State) (u : Fin 2) (i : Fin 16) (t : Nat), (s.unitOn (unitOf u) = false ∨ (s.pairCfg (i.val / 2)).mode = 0 ∨
      (s.elapse t).time.ns < (s.chan (unitOf u) i.val).since + (s.pairCfg (i.val / 2)).filtNs) →
    ∃ n, exec (.safeFilterSettle u i t) s = .next n ∧ Effect [.time, .host, .fr, .out] (some (movesTime ++ movesIrq)) s n) ∧
  (∀ (s : State) (u : Fin 2) (i : Fin 16) (t a : Nat), s.unitOn (unitOf u) = true → (s.pairCfg (i.val / 2)).mode ≠ 0 →
    (s.chan (unitOf u) i.val).series = some a → a + 5 * (s.pairCfg (i.val / 2)).filtNs ≤ (s.elapse t).time.ns →
    (s.pairOf (unitOf u) (i.val / 2)).fault = 0 →
    ∃ n, exec (.safeUnsettled u i t) s = .next n ∧ (n.chan (unitOf u) i.val).unsettled = true ∧
      (n.pairOf (unitOf u) (i.val / 2)).fault = 2 ∧ (n.pairOf (unitOf u) (i.val / 2)).dem = true ∧ n.rd Reg.SAFE_EVENT.PAIR_FAULT = 1 ∧
      Effect [.time, .host, .fr, .convs, .safety, .out] (some (movesTime ++ movesIrq ++ [Reg.SAFE_EVENT.DEMAND,
        Reg.SAFE_EVENT.PAIR_FAULT, Reg.SAFE_EVENT.REMOVED, Reg.SAFE_EVENT.RESET_REFUSED, Reg.SAFE_EVENT.STOPPING, Reg.SAFE_FIRE.DRV_A,
        Reg.SAFE_FIRE.DRV_B, Reg.SAFE_FIRE.FIRE_A, Reg.SAFE_FIRE.FIRE_B, Reg.SAFE_GROUP.CAUSE, Reg.SAFE_GROUP.KIND, Reg.SAFE_GROUP.PAIRS,
        Reg.SAFE_GROUP.STATE, Reg.SAFE_GROUP.STOP, Reg.SAFE_PAIR.CH_A, Reg.SAFE_PAIR.CH_B, Reg.SAFE_PAIR.DEMAND, Reg.SAFE_PAIR.DEMANDS,
        Reg.SAFE_PAIR.FAULT_CAUSE, Reg.SAFE_PAIR.PAIR_FAULT, Reg.SAFE_RESET_STATUS.ARMED, Reg.SAFE_RESET_STATUS.REFUSED,
        Reg.SAFE_RESET_STATUS.RELEASED, Reg.SAFE_STATUS.A_OK, Reg.SAFE_STATUS.B_OK, Reg.SAFE_STATUS.DEMAND, Reg.SAFE_STATUS.DIAG,
        Reg.SAFE_STATUS.DIAG_A, Reg.SAFE_STATUS.DIAG_B, Reg.SAFE_STATUS.DIAG_CAUSE, Reg.SAFE_STATUS.LOCKED, Reg.SAFE_STATUS.RESET_PIN,
        Reg.SAFE_TPO.EN, Reg.SAFE_TPO.READBACK_FAULT])) s n) ∧
  (∀ (s : State) (u : Fin 2) (i : Fin 16) (t : Nat), (s.unitOn (unitOf u) = false ∨ (s.chan (unitOf u) i.val).series = none) →
    ∃ n, exec (.safeUnsettled u i t) s = .next n ∧ Effect [.time, .host, .fr, .out] (some (movesTime ++ movesIrq)) s n) ∧
  (∀ (s : State) (u : Fin 2) (p : Fin 8) (t a : Nat), s.unitOn (unitOf u) = true → (s.pairCfg p.val).mode ≠ 0 →
    (s.pairOf (unitOf u) p.val).apart = some a → a + (s.pairCfg p.val).discNs < (s.elapse t).time.ns →
    (s.pairOf (unitOf u) p.val).fault = 0 →
    ∃ n, exec (.safeDiscrepancy u p t) s = .next n ∧ (n.pairOf (unitOf u) p.val).fault = 1 ∧ (n.pairOf (unitOf u) p.val).dem = true ∧
      n.rd Reg.SAFE_EVENT.PAIR_FAULT = 1 ∧ (∀ q, q ≠ p.val → n.pairOf (unitOf u) q = s.pairOf (unitOf u) q) ∧
      (∀ g, g < 8 → hasBit s.cfg.safety.groups g = true → n.demanded (unitOf u) g = true → (n.grp (unitOf u) g).state ≠ gsEnabled) ∧
      Effect [.time, .host, .fr, .convs, .safety, .out] (some (movesTime ++ movesIrq ++ [Reg.SAFE_EVENT.DEMAND,
        Reg.SAFE_EVENT.PAIR_FAULT, Reg.SAFE_EVENT.REMOVED, Reg.SAFE_EVENT.RESET_REFUSED, Reg.SAFE_EVENT.STOPPING, Reg.SAFE_FIRE.DRV_A,
        Reg.SAFE_FIRE.DRV_B, Reg.SAFE_FIRE.FIRE_A, Reg.SAFE_FIRE.FIRE_B, Reg.SAFE_GROUP.CAUSE, Reg.SAFE_GROUP.KIND, Reg.SAFE_GROUP.PAIRS,
        Reg.SAFE_GROUP.STATE, Reg.SAFE_GROUP.STOP, Reg.SAFE_PAIR.CH_A, Reg.SAFE_PAIR.CH_B, Reg.SAFE_PAIR.DEMAND, Reg.SAFE_PAIR.DEMANDS,
        Reg.SAFE_PAIR.FAULT_CAUSE, Reg.SAFE_PAIR.PAIR_FAULT, Reg.SAFE_RESET_STATUS.ARMED, Reg.SAFE_RESET_STATUS.REFUSED,
        Reg.SAFE_RESET_STATUS.RELEASED, Reg.SAFE_STATUS.A_OK, Reg.SAFE_STATUS.B_OK, Reg.SAFE_STATUS.DEMAND, Reg.SAFE_STATUS.DIAG,
        Reg.SAFE_STATUS.DIAG_A, Reg.SAFE_STATUS.DIAG_B, Reg.SAFE_STATUS.DIAG_CAUSE, Reg.SAFE_STATUS.LOCKED, Reg.SAFE_STATUS.RESET_PIN,
        Reg.SAFE_TPO.EN, Reg.SAFE_TPO.READBACK_FAULT])) s n) ∧
  (∀ (s : State) (u : Fin 2) (p : Fin 8) (t : Nat), (s.unitOn (unitOf u) = false ∨ (s.pairOf (unitOf u) p.val).apart = none ∨
      ∃ a, (s.pairOf (unitOf u) p.val).apart = some a ∧ (s.elapse t).time.ns ≤ a + (s.pairCfg p.val).discNs) →
    ∃ n, exec (.safeDiscrepancy u p t) s = .next n ∧ Effect [.time, .host, .fr, .out] (some (movesTime ++ movesIrq)) s n) ∧
  (∀ (s : State) (k : Fin 4) (t v : Nat), hasBit s.cfg.safety.tpoEn k.val = true → s.unitOn false = true →
    (s.elapse t).tpoStart k.val = some v →
    ∃ n, exec (.tpoPulse k true false false t) s = .next n ∧ hasBit n.safety.tpoLow k.val = true ∧ n.safety.tpoAt = v ∧
      n.safety.tpoNext = v + 1 ∧ (∀ j, j < 4 → j ≠ k.val → hasBit n.safety.tpoLow j = false) ∧
      hasBit n.safety.tpoBad k.val = false ∧ hasBit n.safety.tpoBad (4 + k.val) = false ∧
      (∀ b p, n.pairOf b p = s.pairOf b p) ∧ (∀ b g, n.grp b g = s.grp b g) ∧
      Effect [.time, .host, .fr, .convs, .safety, .out] (some (movesTime ++ movesIrq ++ [Reg.SAFE_EVENT.DEMAND,
        Reg.SAFE_EVENT.PAIR_FAULT, Reg.SAFE_EVENT.REMOVED, Reg.SAFE_EVENT.RESET_REFUSED, Reg.SAFE_EVENT.STOPPING, Reg.SAFE_FIRE.DRV_A,
        Reg.SAFE_FIRE.DRV_B, Reg.SAFE_FIRE.FIRE_A, Reg.SAFE_FIRE.FIRE_B, Reg.SAFE_GROUP.CAUSE, Reg.SAFE_GROUP.KIND, Reg.SAFE_GROUP.PAIRS,
        Reg.SAFE_GROUP.STATE, Reg.SAFE_GROUP.STOP, Reg.SAFE_PAIR.CH_A, Reg.SAFE_PAIR.CH_B, Reg.SAFE_PAIR.DEMAND, Reg.SAFE_PAIR.DEMANDS,
        Reg.SAFE_PAIR.FAULT_CAUSE, Reg.SAFE_PAIR.PAIR_FAULT, Reg.SAFE_RESET_STATUS.ARMED, Reg.SAFE_RESET_STATUS.REFUSED,
        Reg.SAFE_RESET_STATUS.RELEASED, Reg.SAFE_STATUS.A_OK, Reg.SAFE_STATUS.B_OK, Reg.SAFE_STATUS.DEMAND, Reg.SAFE_STATUS.DIAG,
        Reg.SAFE_STATUS.DIAG_A, Reg.SAFE_STATUS.DIAG_B, Reg.SAFE_STATUS.DIAG_CAUSE, Reg.SAFE_STATUS.LOCKED, Reg.SAFE_STATUS.RESET_PIN,
        Reg.SAFE_TPO.EN, Reg.SAFE_TPO.READBACK_FAULT])) s n) ∧
  (∀ (s : State) (k : Fin 4) (t v : Nat) (rb : Bool), hasBit s.cfg.safety.tpoEn k.val = true → s.unitOn false = true →
    (s.elapse t).tpoStart k.val = some v →
    ∃ n, exec (.tpoPulse k true true rb t) s = .next n ∧ hasBit n.safety.tpoBad k.val = true ∧
      hasBit (n.rd Reg.SAFE_TPO.READBACK_FAULT) k.val = true ∧
      ∀ p, p < 8 → (s.pairCfg p).mode ≠ 0 → ((s.pairCfg p).tpoA = k.val ∨ (s.pairCfg p).tpoB = k.val) → (s.pairOf false p).fault = 0 →
        (n.pairOf false p).fault = 5 ∧ (n.pairOf false p).dem = true) ∧
  (∀ (s : State) (k : Fin 4) (t : Nat), hasBit s.cfg.safety.tpoEn k.val = true → s.unitOn false = true →
    hasBit s.safety.tpoLow k.val = true → s.safety.tpoAt + s.cfg.safety.tpWidthNs ≤ (s.elapse t).time.ns →
    ∃ n, exec (.tpoPulse k false true true t) s = .next n ∧ hasBit n.safety.tpoLow k.val = false ∧
      (∀ b i, i < 16 → s.chanTpo i = k.val → (n.chan b i).blankUntil = (s.elapse t).time.ns + 100000 ∧
        (n.chan b i).raw = (s.chan b i).raw ∧ (n.chan b i).filt = (s.chan b i).filt) ∧
      (∀ b i, i < 16 → s.chanTpo i ≠ k.val → n.chan b i = s.chan b i) ∧
      Effect [.time, .host, .fr, .convs, .safety, .out] (some (movesTime ++ movesIrq ++ [Reg.SAFE_EVENT.DEMAND,
        Reg.SAFE_EVENT.PAIR_FAULT, Reg.SAFE_EVENT.REMOVED, Reg.SAFE_EVENT.RESET_REFUSED, Reg.SAFE_EVENT.STOPPING, Reg.SAFE_FIRE.DRV_A,
        Reg.SAFE_FIRE.DRV_B, Reg.SAFE_FIRE.FIRE_A, Reg.SAFE_FIRE.FIRE_B, Reg.SAFE_GROUP.CAUSE, Reg.SAFE_GROUP.KIND, Reg.SAFE_GROUP.PAIRS,
        Reg.SAFE_GROUP.STATE, Reg.SAFE_GROUP.STOP, Reg.SAFE_PAIR.CH_A, Reg.SAFE_PAIR.CH_B, Reg.SAFE_PAIR.DEMAND, Reg.SAFE_PAIR.DEMANDS,
        Reg.SAFE_PAIR.FAULT_CAUSE, Reg.SAFE_PAIR.PAIR_FAULT, Reg.SAFE_RESET_STATUS.ARMED, Reg.SAFE_RESET_STATUS.REFUSED,
        Reg.SAFE_RESET_STATUS.RELEASED, Reg.SAFE_STATUS.A_OK, Reg.SAFE_STATUS.B_OK, Reg.SAFE_STATUS.DEMAND, Reg.SAFE_STATUS.DIAG,
        Reg.SAFE_STATUS.DIAG_A, Reg.SAFE_STATUS.DIAG_B, Reg.SAFE_STATUS.DIAG_CAUSE, Reg.SAFE_STATUS.LOCKED, Reg.SAFE_STATUS.RESET_PIN,
        Reg.SAFE_TPO.EN, Reg.SAFE_TPO.READBACK_FAULT])) s n) ∧
  (∀ (s : State) (k : Fin 4) (st ra rb : Bool) (t : Nat), (hasBit s.cfg.safety.tpoEn k.val = false ∨ s.unitOn false = false ∨
      st = true ∧ (s.elapse t).tpoStart k.val = none ∨ st = false ∧ (hasBit s.safety.tpoLow k.val = false ∨
        (s.elapse t).time.ns < s.safety.tpoAt + s.cfg.safety.tpWidthNs)) →
    ∃ n, exec (.tpoPulse k st ra rb t) s = .next n ∧ Effect [.time, .host, .fr, .out] (some (movesTime ++ movesIrq)) s n) ∧
  (∀ (s : State) (k : Fin 4) (lv t i : Nat) (b : Bool), hasBit s.safety.tpoLow k.val = true → s.safety.tpoAt + 200000 ≤ (s.elapse t).time.ns →
    s.unitOn b = true → i < 16 → (s.pairCfg (i / 2)).mode ≠ 0 → hasBit s.safety.preHigh (16 * b01 b + i) = true → s.chanTpo i = k.val →
    (s.pairOf b (i / 2)).fault = 0 →
    ∃ n, exec (.tpoCheck k lv t) s = .next n ∧
      (hasBit lv (16 * b01 b + i) = true → (n.pairOf b (i / 2)).fault ≠ 0 ∧ (n.pairOf b (i / 2)).dem = true) ∧
      (hasBit lv (16 * b01 b + i) = false → (n.chan b i).checked = true) ∧
      Effect [.time, .host, .fr, .convs, .safety, .out] (some (movesTime ++ movesIrq ++ [Reg.SAFE_EVENT.DEMAND,
        Reg.SAFE_EVENT.PAIR_FAULT, Reg.SAFE_EVENT.REMOVED, Reg.SAFE_EVENT.RESET_REFUSED, Reg.SAFE_EVENT.STOPPING, Reg.SAFE_FIRE.DRV_A,
        Reg.SAFE_FIRE.DRV_B, Reg.SAFE_FIRE.FIRE_A, Reg.SAFE_FIRE.FIRE_B, Reg.SAFE_GROUP.CAUSE, Reg.SAFE_GROUP.KIND, Reg.SAFE_GROUP.PAIRS,
        Reg.SAFE_GROUP.STATE, Reg.SAFE_GROUP.STOP, Reg.SAFE_PAIR.CH_A, Reg.SAFE_PAIR.CH_B, Reg.SAFE_PAIR.DEMAND, Reg.SAFE_PAIR.DEMANDS,
        Reg.SAFE_PAIR.FAULT_CAUSE, Reg.SAFE_PAIR.PAIR_FAULT, Reg.SAFE_RESET_STATUS.ARMED, Reg.SAFE_RESET_STATUS.REFUSED,
        Reg.SAFE_RESET_STATUS.RELEASED, Reg.SAFE_STATUS.A_OK, Reg.SAFE_STATUS.B_OK, Reg.SAFE_STATUS.DEMAND, Reg.SAFE_STATUS.DIAG,
        Reg.SAFE_STATUS.DIAG_A, Reg.SAFE_STATUS.DIAG_B, Reg.SAFE_STATUS.DIAG_CAUSE, Reg.SAFE_STATUS.LOCKED, Reg.SAFE_STATUS.RESET_PIN,
        Reg.SAFE_TPO.EN, Reg.SAFE_TPO.READBACK_FAULT])) s n) ∧
  (∀ (s : State) (k : Fin 4) (lv t : Nat), (hasBit s.safety.tpoLow k.val = false ∨ (s.elapse t).time.ns < s.safety.tpoAt + 200000) →
    ∃ n, exec (.tpoCheck k lv t) s = .next n ∧ Effect [.time, .host, .fr, .out] (some (movesTime ++ movesIrq)) s n) ∧
  (∀ (s : State) (u : Fin 2) (k : Fin 4) (t : Nat), s.unitOn (unitOf u) = true →
    ∃ n, exec (.tpoReadbackFault u k t) s = .next n ∧ hasBit n.safety.tpoBad (4 * u.val + k.val) = true ∧
      hasBit (n.rd Reg.SAFE_TPO.READBACK_FAULT) k.val = true ∧
      (∀ p, p < 8 → (s.pairCfg p).mode ≠ 0 → ((s.pairCfg p).tpoA = k.val ∨ (s.pairCfg p).tpoB = k.val) →
        (s.pairOf (unitOf u) p).fault = 0 → (n.pairOf (unitOf u) p).fault = 5) ∧
      Effect [.time, .host, .fr, .convs, .safety, .out] (some (movesTime ++ movesIrq ++ [Reg.SAFE_EVENT.DEMAND,
        Reg.SAFE_EVENT.PAIR_FAULT, Reg.SAFE_EVENT.REMOVED, Reg.SAFE_EVENT.RESET_REFUSED, Reg.SAFE_EVENT.STOPPING, Reg.SAFE_FIRE.DRV_A,
        Reg.SAFE_FIRE.DRV_B, Reg.SAFE_FIRE.FIRE_A, Reg.SAFE_FIRE.FIRE_B, Reg.SAFE_GROUP.CAUSE, Reg.SAFE_GROUP.KIND, Reg.SAFE_GROUP.PAIRS,
        Reg.SAFE_GROUP.STATE, Reg.SAFE_GROUP.STOP, Reg.SAFE_PAIR.CH_A, Reg.SAFE_PAIR.CH_B, Reg.SAFE_PAIR.DEMAND, Reg.SAFE_PAIR.DEMANDS,
        Reg.SAFE_PAIR.FAULT_CAUSE, Reg.SAFE_PAIR.PAIR_FAULT, Reg.SAFE_RESET_STATUS.ARMED, Reg.SAFE_RESET_STATUS.REFUSED,
        Reg.SAFE_RESET_STATUS.RELEASED, Reg.SAFE_STATUS.A_OK, Reg.SAFE_STATUS.B_OK, Reg.SAFE_STATUS.DEMAND, Reg.SAFE_STATUS.DIAG,
        Reg.SAFE_STATUS.DIAG_A, Reg.SAFE_STATUS.DIAG_B, Reg.SAFE_STATUS.DIAG_CAUSE, Reg.SAFE_STATUS.LOCKED, Reg.SAFE_STATUS.RESET_PIN,
        Reg.SAFE_TPO.EN, Reg.SAFE_TPO.READBACK_FAULT])) s n) ∧
  (∀ (s : State) (u : Fin 2) (k : Fin 4) (t : Nat), s.unitOn (unitOf u) = false →
    ∃ n, exec (.tpoReadbackFault u k t) s = .next n ∧ Effect [.time, .host, .fr, .out] (some (movesTime ++ movesIrq)) s n)

/-- Stops and diagnostics (R294, R296, R302): t_stop_max removes a STOPPING group with cause TIMER, a speed above the envelope with cause
3, standstill with cause 2. Group states that disagree in three exchanges, 3 ms of silence and a failed self test are failed diagnostics
with causes 1, 2 and 5: the unit removes every group that is not LOCKED_OUT. -/
def Obligations.StopsEndAndDiagnosticsRemoveGroups : Prop :=
  (∀ (s : State) (u : Fin 2) (g : Fin 8) (t : Nat), s.unitOn (unitOf u) = true → (s.grp (unitOf u) g.val).state = gsStopping →
    (s.grp (unitOf u) g.val).t0 + 1000000 * (s.grpCfg g.val).stopMaxMs ≤ (s.elapse t).time.ns →
    ∃ n, exec (.safeStopTimer u g t) s = .next n ∧ n.grp (unitOf u) g.val = { s.grp (unitOf u) g.val with state := gsLocked, cause := 4 } ∧
      (∀ k, k ≠ g.val → n.grp (unitOf u) k = s.grp (unitOf u) k) ∧ (∀ k, n.grp (!unitOf u) k = s.grp (!unitOf u) k) ∧
      n.rd Reg.SAFE_EVENT.REMOVED = 1 ∧
      ((s.grpCfg g.val).kind = 1 → ∀ c ∈ s.groupConvs g.val, (n.conv c).atTick = some 1) ∧ ((s.grpCfg g.val).kind ≠ 1 → n.convs = s.convs) ∧
      Effect [.time, .host, .fr, .convs, .safety, .out] (some (movesTime ++ movesIrq ++ [Reg.SAFE_EVENT.REMOVED, Reg.SAFE_FIRE.DRV_A,
        Reg.SAFE_FIRE.DRV_B, Reg.SAFE_FIRE.FIRE_A, Reg.SAFE_FIRE.FIRE_B, Reg.SAFE_GROUP.CAUSE, Reg.SAFE_GROUP.KIND, Reg.SAFE_GROUP.PAIRS,
        Reg.SAFE_GROUP.STATE, Reg.SAFE_GROUP.STOP, Reg.SAFE_PAIR.CH_A, Reg.SAFE_PAIR.CH_B, Reg.SAFE_PAIR.DEMAND, Reg.SAFE_PAIR.DEMANDS,
        Reg.SAFE_PAIR.FAULT_CAUSE, Reg.SAFE_PAIR.PAIR_FAULT, Reg.SAFE_RESET_STATUS.ARMED, Reg.SAFE_STATUS.A_OK, Reg.SAFE_STATUS.B_OK,
        Reg.SAFE_STATUS.DEMAND, Reg.SAFE_STATUS.DIAG, Reg.SAFE_STATUS.DIAG_A, Reg.SAFE_STATUS.DIAG_B, Reg.SAFE_STATUS.DIAG_CAUSE,
        Reg.SAFE_STATUS.LOCKED, Reg.SAFE_STATUS.RESET_PIN, Reg.SAFE_TPO.EN, Reg.SAFE_TPO.READBACK_FAULT])) s n) ∧
  (∀ (s : State) (u : Fin 2) (g : Fin 8) (t : Nat), (s.unitOn (unitOf u) = false ∨ (s.grp (unitOf u) g.val).state ≠ gsStopping ∨
      (s.elapse t).time.ns < (s.grp (unitOf u) g.val).t0 + 1000000 * (s.grpCfg g.val).stopMaxMs) →
    ∃ n, exec (.safeStopTimer u g t) s = .next n ∧ Effect [.time, .host, .fr, .out] (some (movesTime ++ movesIrq)) s n) ∧
  (∀ (s : State) (t : Nat), s.unitOn false = true →
    ∃ n, exec (.safeDriveEnvelope t) s = .next n ∧
      (∀ g, g < 8 → (s.grp false g).state = gsStopping → (s.grpCfg g).kind = 2 →
        (∃ k, k < 4 ∧ hasBit (s.grpCfg g).driveMask k = true ∧ (s.grpCfg g).speedAbove (Tbl.look 0 (s.grp false g).s0 k)
          (s.rdS Reg.MOT_SPEED.EST k).natAbs (((s.elapse t).time.ns - (s.grp false g).t0) / 1000000) = true) →
        n.grp false g = { s.grp false g with state := gsLocked, cause := 3 }) ∧
      (∀ g, g < 8 → (s.grp false g).state = gsStopping → (s.grpCfg g).kind = 2 →
        (∀ k, k < 4 → hasBit (s.grpCfg g).driveMask k = true → (s.rdS Reg.MOT_SPEED.EST k).natAbs ≤ (s.grpCfg g).standstill ∧
          (s.grpCfg g).speedAbove (Tbl.look 0 (s.grp false g).s0 k) (s.rdS Reg.MOT_SPEED.EST k).natAbs
            (((s.elapse t).time.ns - (s.grp false g).t0) / 1000000) = false) →
        n.grp false g = { s.grp false g with state := gsLocked, cause := 2 }) ∧
      (∀ g, ((s.grp false g).state ≠ gsStopping ∨ (s.grpCfg g).kind ≠ 2) → n.grp false g = s.grp false g) ∧
      (∀ g, n.grp true g = s.grp true g) ∧
      Effect [.time, .host, .fr, .convs, .safety, .out] (some (movesTime ++ movesIrq ++ [Reg.SAFE_EVENT.REMOVED, Reg.SAFE_FIRE.DRV_A,
        Reg.SAFE_FIRE.DRV_B, Reg.SAFE_FIRE.FIRE_A, Reg.SAFE_FIRE.FIRE_B, Reg.SAFE_GROUP.CAUSE, Reg.SAFE_GROUP.KIND, Reg.SAFE_GROUP.PAIRS,
        Reg.SAFE_GROUP.STATE, Reg.SAFE_GROUP.STOP, Reg.SAFE_PAIR.CH_A, Reg.SAFE_PAIR.CH_B, Reg.SAFE_PAIR.DEMAND, Reg.SAFE_PAIR.DEMANDS,
        Reg.SAFE_PAIR.FAULT_CAUSE, Reg.SAFE_PAIR.PAIR_FAULT, Reg.SAFE_RESET_STATUS.ARMED, Reg.SAFE_STATUS.A_OK, Reg.SAFE_STATUS.B_OK,
        Reg.SAFE_STATUS.DEMAND, Reg.SAFE_STATUS.DIAG, Reg.SAFE_STATUS.DIAG_A, Reg.SAFE_STATUS.DIAG_B, Reg.SAFE_STATUS.DIAG_CAUSE,
        Reg.SAFE_STATUS.LOCKED, Reg.SAFE_STATUS.RESET_PIN, Reg.SAFE_TPO.EN, Reg.SAFE_TPO.READBACK_FAULT])) s n) ∧
  (∀ (s : State) (t : Nat), s.unitOn false = false →
    ∃ n, exec (.safeDriveEnvelope t) s = .next n ∧ Effect [.time, .host, .fr, .out] (some (movesTime ++ movesIrq)) s n) ∧
  (∀ (s : State) (t : Nat), s.unitOn false = true →
    ∃ n, exec (.safeCrossExchange true false t) s = .next n ∧ n.safety.lastBA = (s.elapse t).time.ns ∧ n.safety.b = s.safety.b ∧
      ((∀ g, g < 8 → groupsDisagree (s.grp false g).state (s.grp true g).state = false) → n.safety.a = { s.safety.a with apart := 0 }) ∧
      ((∃ g, g < 8 ∧ groupsDisagree (s.grp false g).state (s.grp true g).state = true) → n.safety.a.apart = s.safety.a.apart + 1 ∧
        (s.safety.a.apart < 2 → n.safety.a = { s.safety.a with apart := s.safety.a.apart + 1 }) ∧
        (2 ≤ s.safety.a.apart → s.safety.a.diag = 0 → diagnosed s n false 1 ∧ (s.mayRaise = true → raises (s.elapse t) n 38 1))) ∧
      Effect [.time, .faults, .host, .fr, .convs, .safety, .out] (some (movesTime ++ movesIrq ++ movesFault ++ [Reg.SAFE_EVENT.DEMAND,
        Reg.SAFE_EVENT.DIAG, Reg.SAFE_EVENT.REMOVED, Reg.SAFE_EVENT.RESET_REFUSED, Reg.SAFE_EVENT.STOPPING, Reg.SAFE_FIRE.DRV_A,
        Reg.SAFE_FIRE.DRV_B, Reg.SAFE_FIRE.FIRE_A, Reg.SAFE_FIRE.FIRE_B, Reg.SAFE_GROUP.CAUSE, Reg.SAFE_GROUP.KIND, Reg.SAFE_GROUP.PAIRS,
        Reg.SAFE_GROUP.STATE, Reg.SAFE_GROUP.STOP, Reg.SAFE_PAIR.CH_A, Reg.SAFE_PAIR.CH_B, Reg.SAFE_PAIR.DEMAND, Reg.SAFE_PAIR.DEMANDS,
        Reg.SAFE_PAIR.FAULT_CAUSE, Reg.SAFE_PAIR.PAIR_FAULT, Reg.SAFE_RESET_STATUS.ARMED, Reg.SAFE_RESET_STATUS.REFUSED,
        Reg.SAFE_RESET_STATUS.RELEASED, Reg.SAFE_STATUS.A_OK, Reg.SAFE_STATUS.B_OK, Reg.SAFE_STATUS.DEMAND, Reg.SAFE_STATUS.DIAG,
        Reg.SAFE_STATUS.DIAG_A, Reg.SAFE_STATUS.DIAG_B, Reg.SAFE_STATUS.DIAG_CAUSE, Reg.SAFE_STATUS.LOCKED, Reg.SAFE_STATUS.RESET_PIN,
        Reg.SAFE_TPO.EN, Reg.SAFE_TPO.READBACK_FAULT])) s n) ∧
  (∀ (s : State) (t : Nat),
    ∃ n, exec (.safeCrossExchange false false t) s = .next n ∧ Effect [.time, .host, .fr, .out] (some (movesTime ++ movesIrq)) s n) ∧
  (∀ (s : State) (u : Fin 2) (t : Nat), (s.elapse t).judgesLink (unitOf u) = true → (s.safeUnit (unitOf u)).diag = 0 →
    (if unitOf u then s.safety.lastAB else s.safety.lastBA) + 3000000 ≤ (s.elapse t).time.ns →
    ∃ n, exec (.safeLinkSilence u t) s = .next n ∧ diagnosed s n (unitOf u) 2 ∧
      Effect [.time, .faults, .host, .fr, .convs, .safety, .out] (some (movesTime ++ movesIrq ++ movesFault ++ [Reg.SAFE_EVENT.DEMAND,
        Reg.SAFE_EVENT.DIAG, Reg.SAFE_EVENT.REMOVED, Reg.SAFE_EVENT.RESET_REFUSED, Reg.SAFE_EVENT.STOPPING, Reg.SAFE_FIRE.DRV_A,
        Reg.SAFE_FIRE.DRV_B, Reg.SAFE_FIRE.FIRE_A, Reg.SAFE_FIRE.FIRE_B, Reg.SAFE_GROUP.CAUSE, Reg.SAFE_GROUP.KIND, Reg.SAFE_GROUP.PAIRS,
        Reg.SAFE_GROUP.STATE, Reg.SAFE_GROUP.STOP, Reg.SAFE_PAIR.CH_A, Reg.SAFE_PAIR.CH_B, Reg.SAFE_PAIR.DEMAND, Reg.SAFE_PAIR.DEMANDS,
        Reg.SAFE_PAIR.FAULT_CAUSE, Reg.SAFE_PAIR.PAIR_FAULT, Reg.SAFE_RESET_STATUS.ARMED, Reg.SAFE_RESET_STATUS.REFUSED,
        Reg.SAFE_RESET_STATUS.RELEASED, Reg.SAFE_STATUS.A_OK, Reg.SAFE_STATUS.B_OK, Reg.SAFE_STATUS.DEMAND, Reg.SAFE_STATUS.DIAG,
        Reg.SAFE_STATUS.DIAG_A, Reg.SAFE_STATUS.DIAG_B, Reg.SAFE_STATUS.DIAG_CAUSE, Reg.SAFE_STATUS.LOCKED, Reg.SAFE_STATUS.RESET_PIN,
        Reg.SAFE_TPO.EN, Reg.SAFE_TPO.READBACK_FAULT])) s n) ∧
  (∀ (s : State) (u : Fin 2) (t : Nat), ((s.elapse t).judgesLink (unitOf u) = false ∨ (s.safeUnit (unitOf u)).diag ≠ 0 ∨
      (s.elapse t).time.ns < (if unitOf u then s.safety.lastAB else s.safety.lastBA) + 3000000) →
    ∃ n, exec (.safeLinkSilence u t) s = .next n ∧ Effect [.time, .host, .fr, .out] (some (movesTime ++ movesIrq)) s n) ∧
  (∀ (s : State) (u : Fin 2) (t : Nat), s.unitOn (unitOf u) = true → (s.safeUnit (unitOf u)).diag = 0 →
    ∃ n, exec (.safeSelftestFail u t) s = .next n ∧ diagnosed s n (unitOf u) 5 ∧
      Effect [.time, .faults, .host, .fr, .convs, .safety, .out] (some (movesTime ++ movesIrq ++ movesFault ++ [Reg.SAFE_EVENT.DEMAND,
        Reg.SAFE_EVENT.DIAG, Reg.SAFE_EVENT.REMOVED, Reg.SAFE_EVENT.RESET_REFUSED, Reg.SAFE_EVENT.STOPPING, Reg.SAFE_FIRE.DRV_A,
        Reg.SAFE_FIRE.DRV_B, Reg.SAFE_FIRE.FIRE_A, Reg.SAFE_FIRE.FIRE_B, Reg.SAFE_GROUP.CAUSE, Reg.SAFE_GROUP.KIND, Reg.SAFE_GROUP.PAIRS,
        Reg.SAFE_GROUP.STATE, Reg.SAFE_GROUP.STOP, Reg.SAFE_PAIR.CH_A, Reg.SAFE_PAIR.CH_B, Reg.SAFE_PAIR.DEMAND, Reg.SAFE_PAIR.DEMANDS,
        Reg.SAFE_PAIR.FAULT_CAUSE, Reg.SAFE_PAIR.PAIR_FAULT, Reg.SAFE_RESET_STATUS.ARMED, Reg.SAFE_RESET_STATUS.REFUSED,
        Reg.SAFE_RESET_STATUS.RELEASED, Reg.SAFE_STATUS.A_OK, Reg.SAFE_STATUS.B_OK, Reg.SAFE_STATUS.DEMAND, Reg.SAFE_STATUS.DIAG,
        Reg.SAFE_STATUS.DIAG_A, Reg.SAFE_STATUS.DIAG_B, Reg.SAFE_STATUS.DIAG_CAUSE, Reg.SAFE_STATUS.LOCKED, Reg.SAFE_STATUS.RESET_PIN,
        Reg.SAFE_TPO.EN, Reg.SAFE_TPO.READBACK_FAULT])) s n) ∧
  (∀ (s : State) (u : Fin 2) (t : Nat), (s.unitOn (unitOf u) = false ∨ (s.safeUnit (unitOf u)).diag ≠ 0) →
    ∃ n, exec (.safeSelftestFail u t) s = .next n ∧ Effect [.time, .host, .fr, .out] (some (movesTime ++ movesIrq)) s n)

/-- The reset (R299, R300): a rising edge after a low period of 50 ms to 3 s releases each armed LOCKED_OUT group that is free of demands
and pair faults and refuses the others; a shorter or longer one, or one without arming, releases none. Arming expires after 10 s; low for
longer than 3 s is RESET_STUCK until 1 s high. -/
def Obligations.ResetEdgesReleaseArmedGroups : Prop :=
  (∀ (s : State) (t : Nat), ∃ n, exec (.safeResetFall t) s = .next n ∧
    n.safety = { s.safety with pinLow := some (s.safety.pinLow.getD (s.elapse t).time.ns) } ∧ n.rd Reg.SAFE_STATUS.RESET_PIN = 0 ∧
    Effect [.time, .host, .fr, .safety, .out] (some (movesTime ++ movesIrq ++ [Reg.SAFE_FIRE.DRV_A, Reg.SAFE_FIRE.DRV_B,
      Reg.SAFE_FIRE.FIRE_A, Reg.SAFE_FIRE.FIRE_B, Reg.SAFE_GROUP.CAUSE, Reg.SAFE_GROUP.KIND, Reg.SAFE_GROUP.PAIRS, Reg.SAFE_GROUP.STATE,
      Reg.SAFE_GROUP.STOP, Reg.SAFE_PAIR.CH_A, Reg.SAFE_PAIR.CH_B, Reg.SAFE_PAIR.DEMAND, Reg.SAFE_PAIR.DEMANDS,
      Reg.SAFE_PAIR.FAULT_CAUSE, Reg.SAFE_PAIR.PAIR_FAULT, Reg.SAFE_RESET_STATUS.ARMED, Reg.SAFE_STATUS.A_OK, Reg.SAFE_STATUS.B_OK,
      Reg.SAFE_STATUS.DEMAND, Reg.SAFE_STATUS.DIAG, Reg.SAFE_STATUS.DIAG_A, Reg.SAFE_STATUS.DIAG_B, Reg.SAFE_STATUS.DIAG_CAUSE,
      Reg.SAFE_STATUS.LOCKED, Reg.SAFE_STATUS.RESET_PIN, Reg.SAFE_TPO.EN, Reg.SAFE_TPO.READBACK_FAULT])) s n) ∧
  (∀ (s : State) (t a : Nat), s.safety.pinLow = some a → 50000000 ≤ (s.elapse t).time.ns - a → (s.elapse t).time.ns - a ≤ 3000000000 →
    (s.safety.a.armed ≠ 0 ∨ s.safety.b.armed ≠ 0) →
    ∃ n, exec (.safeResetRise t) s = .next n ∧ n.safety.pinLow = none ∧ n.rd Reg.SAFE_STATUS.RESET_PIN = 1 ∧ n.safety.b.armed = 0 ∧
      (s.unitOn false = true → n.safety.a.armed = 0) ∧
      (∀ b g, (b = true ∨ s.unitOn false = true) → g < 8 → hasBit (s.safeUnit b).armed g = true → (s.grp b g).state = gsLocked →
        (n.grp b g = (if s.releasable b g then { s.grp b g with state := gsEnabled, releasedAt := some (s.elapse t).time.ns }
          else s.grp b g)) ∧
        (s.releasable b g = true → n.rd Reg.SAFE_EVENT.RELEASED = 1 ∧ hasBit (n.rd Reg.SAFE_RESET_STATUS.RELEASED) g = true) ∧
        (s.releasable b g = false → n.rd Reg.SAFE_EVENT.RESET_REFUSED = 1 ∧ hasBit (n.rd Reg.SAFE_RESET_STATUS.REFUSED) g = true)) ∧
      (∀ b g, (hasBit (s.safeUnit b).armed g = false ∨ (s.grp b g).state ≠ gsLocked) → n.grp b g = s.grp b g) ∧
      Effect [.time, .host, .fr, .safety, .out] (some (movesTime ++ movesIrq ++ [Reg.SAFE_EVENT.RELEASED, Reg.SAFE_EVENT.RESET_REFUSED,
        Reg.SAFE_FIRE.DRV_A, Reg.SAFE_FIRE.DRV_B, Reg.SAFE_FIRE.FIRE_A, Reg.SAFE_FIRE.FIRE_B, Reg.SAFE_GROUP.CAUSE, Reg.SAFE_GROUP.KIND,
        Reg.SAFE_GROUP.PAIRS, Reg.SAFE_GROUP.STATE, Reg.SAFE_GROUP.STOP, Reg.SAFE_PAIR.CH_A, Reg.SAFE_PAIR.CH_B, Reg.SAFE_PAIR.DEMAND,
        Reg.SAFE_PAIR.DEMANDS, Reg.SAFE_PAIR.FAULT_CAUSE, Reg.SAFE_PAIR.PAIR_FAULT, Reg.SAFE_RESET_STATUS.ARMED,
        Reg.SAFE_RESET_STATUS.REFUSED, Reg.SAFE_RESET_STATUS.RELEASED, Reg.SAFE_STATUS.A_OK, Reg.SAFE_STATUS.B_OK,
        Reg.SAFE_STATUS.DEMAND, Reg.SAFE_STATUS.DIAG, Reg.SAFE_STATUS.DIAG_A, Reg.SAFE_STATUS.DIAG_B, Reg.SAFE_STATUS.DIAG_CAUSE,
        Reg.SAFE_STATUS.LOCKED, Reg.SAFE_STATUS.RESET_PIN, Reg.SAFE_STATUS.RESET_STUCK, Reg.SAFE_TPO.EN, Reg.SAFE_TPO.READBACK_FAULT])) s
        n) ∧
  (∀ (s : State) (t a : Nat), s.safety.pinLow = some a → ((s.elapse t).time.ns - a < 50000000 ∨ 3000000000 < (s.elapse t).time.ns - a ∨
      (s.safety.a.armed = 0 ∧ s.safety.b.armed = 0)) →
    ∃ n, exec (.safeResetRise t) s = .next n ∧ n.safety = { s.safety with pinLow := none, pinHigh := (s.elapse t).time.ns } ∧
      n.rd Reg.SAFE_STATUS.RESET_STUCK = (if 3000000000 < (s.elapse t).time.ns - a then 1 else s.rd Reg.SAFE_STATUS.RESET_STUCK) ∧
      n.rd Reg.SAFE_RESET_STATUS.RELEASED = s.rd Reg.SAFE_RESET_STATUS.RELEASED) ∧
  (∀ (s : State) (t : Nat), s.safety.pinLow = none →
    (∃ n, exec (.safeResetRise t) s = .next n ∧ Effect [.time, .host, .fr, .out] (some (movesTime ++ movesIrq)) s n) ∧
    ∃ n, exec (.safeResetStuck t) s = .next n ∧ Effect [.time, .host, .fr, .out] (some (movesTime ++ movesIrq)) s n) ∧
  (∀ (s : State) (t a : Nat), s.safety.pinLow = some a →
    ∃ n, exec (.safeResetStuck t) s = .next n ∧
      n.rd Reg.SAFE_STATUS.RESET_STUCK = (if a + 3000000000 < (s.elapse t).time.ns then 1 else s.rd Reg.SAFE_STATUS.RESET_STUCK) ∧
      Effect [.time, .host, .fr, .out] (some (movesTime ++ movesIrq ++ [Reg.SAFE_STATUS.RESET_STUCK])) s n) ∧
  (∀ (s : State) (t : Nat), ∃ n, exec (.safeResetStuckEnd t) s = .next n ∧
    n.rd Reg.SAFE_STATUS.RESET_STUCK = (if s.safety.pinLow = none ∧ s.safety.pinHigh + 1000000000 ≤ (s.elapse t).time.ns then 0
      else s.rd Reg.SAFE_STATUS.RESET_STUCK) ∧
    Effect [.time, .host, .fr, .out] (some (movesTime ++ movesIrq ++ [Reg.SAFE_STATUS.RESET_STUCK])) s n) ∧
  (∀ (s : State) (t : Nat), ∃ n, exec (.safeArmExpiry t) s = .next n ∧
    n.safety.a = (if s.safety.a.armUntil ≤ (s.elapse t).time.ns then { s.safety.a with armed := 0 } else s.safety.a) ∧
    n.safety.b = (if s.safety.b.armUntil ≤ (s.elapse t).time.ns then { s.safety.b with armed := 0 } else s.safety.b) ∧
    Effect [.time, .host, .fr, .safety, .out] (some (movesTime ++ movesIrq ++ [Reg.SAFE_FIRE.DRV_A, Reg.SAFE_FIRE.DRV_B,
      Reg.SAFE_FIRE.FIRE_A, Reg.SAFE_FIRE.FIRE_B, Reg.SAFE_GROUP.CAUSE, Reg.SAFE_GROUP.KIND, Reg.SAFE_GROUP.PAIRS, Reg.SAFE_GROUP.STATE,
      Reg.SAFE_GROUP.STOP, Reg.SAFE_PAIR.CH_A, Reg.SAFE_PAIR.CH_B, Reg.SAFE_PAIR.DEMAND, Reg.SAFE_PAIR.DEMANDS,
      Reg.SAFE_PAIR.FAULT_CAUSE, Reg.SAFE_PAIR.PAIR_FAULT, Reg.SAFE_RESET_STATUS.ARMED, Reg.SAFE_STATUS.A_OK, Reg.SAFE_STATUS.B_OK,
      Reg.SAFE_STATUS.DEMAND, Reg.SAFE_STATUS.DIAG, Reg.SAFE_STATUS.DIAG_A, Reg.SAFE_STATUS.DIAG_B, Reg.SAFE_STATUS.DIAG_CAUSE,
      Reg.SAFE_STATUS.LOCKED, Reg.SAFE_STATUS.RESET_PIN, Reg.SAFE_TPO.EN, Reg.SAFE_TPO.READBACK_FAULT])) s n) ∧
  (∀ (s : State) (v t : Nat), bitsOf v 16 16 = 0x9E37 → s.unitOn false = true →
    ∃ n, exec (.safeResetArm v t) s = .next n ∧ n.safety.a.armed = v % 256 &&& s.cfg.safety.groups ∧
      n.safety.b.armed = v % 256 &&& s.cfg.safety.groups ∧ n.safety.a.armUntil = (s.elapse t).time.ns + 10000000000 ∧
      n.safety.b.armUntil = (s.elapse t).time.ns + 10000000000 ∧ n.rd Reg.SAFE_RESET_STATUS.ARMED = v % 256 &&& s.cfg.safety.groups ∧
      Effect [.time, .host, .fr, .safety, .out] (some (movesTime ++ movesIrq ++ [Reg.SAFE_FIRE.DRV_A, Reg.SAFE_FIRE.DRV_B,
        Reg.SAFE_FIRE.FIRE_A, Reg.SAFE_FIRE.FIRE_B, Reg.SAFE_GROUP.CAUSE, Reg.SAFE_GROUP.KIND, Reg.SAFE_GROUP.PAIRS,
        Reg.SAFE_GROUP.STATE, Reg.SAFE_GROUP.STOP, Reg.SAFE_PAIR.CH_A, Reg.SAFE_PAIR.CH_B, Reg.SAFE_PAIR.DEMAND, Reg.SAFE_PAIR.DEMANDS,
        Reg.SAFE_PAIR.FAULT_CAUSE, Reg.SAFE_PAIR.PAIR_FAULT, Reg.SAFE_RESET_STATUS.ARMED, Reg.SAFE_STATUS.A_OK, Reg.SAFE_STATUS.B_OK,
        Reg.SAFE_STATUS.DEMAND, Reg.SAFE_STATUS.DIAG, Reg.SAFE_STATUS.DIAG_A, Reg.SAFE_STATUS.DIAG_B, Reg.SAFE_STATUS.DIAG_CAUSE,
        Reg.SAFE_STATUS.LOCKED, Reg.SAFE_STATUS.RESET_PIN, Reg.SAFE_TPO.EN, Reg.SAFE_TPO.READBACK_FAULT])) s n) ∧
  (∀ (s : State) (v t : Nat), (bitsOf v 16 16 ≠ 0x9E37 ∨ s.unitOn false = false) →
    ∃ n, exec (.safeResetArm v t) s = .next n ∧ Effect [.time, .host, .fr, .out] (some (movesTime ++ movesIrq)) s n)

/-- Steering of PTP time (R309 to R311, Table 14-1). While SERVO = 0, SET gives PTP time the written value with fraction 0, STEP adds the
signed sum, both at the start of the next SD cycle and ending a slew; SLEW_GO replaces what remains of a slew; the host sets and clears
SYNC. A change of SERVO clears SYNC, a change of SYNC sets TIME_EVENT bit 0, and an ADDEND is clamped to nominal ±500 ppm. While SERVO = 1
the steering commands and an ADDEND only set TIME_EVENT.IGNORED, and the SYNC bits do nothing. The nanosecond count takes no part. -/
def Obligations.HostSteersThePtpTime : Prop :=
  (∀ (s : State) (t : Nat), (s.elapse t).on Reg.TIME_CTRL.SERVO = false →
    (s.elapse t).rd Reg.TIME_SET_NS.VALUE % 2 ^ 30 < 1000000000 →
    ∃ n, exec (.timeSet t) s = .next n ∧
      n.time.sec = ((s.elapse t).rd Reg.TIME_SET_SEC_LO.VALUE
        + 4294967296 * ((s.elapse t).rd Reg.TIME_SET_SEC_HI.VALUE % 65536)) % 2 ^ 48 ∧
      n.time.sub = (s.elapse t).rd Reg.TIME_SET_NS.VALUE % 2 ^ 30 * nsUnit ∧
      n.time.ns = (s.elapse t).nextCycle.time.ns ∧ n.time.slew = 0 ∧ n.rd Reg.TIME_SLEW_REMAIN.VALUE = 0 ∧
      n.rd Reg.TIME_STATUS.SLEWING = 0 ∧ n.rd Reg.TIME_EVENT.EVENTS = s.rd Reg.TIME_EVENT.EVENTS ∧
      Effect [.time, .host, .fr, .out] (some (movesTime ++ movesIrq ++ [Reg.TIME_EVENT.EVENTS])) s n) ∧
  (∀ (s : State) (t : Nat), (s.elapse t).on Reg.TIME_CTRL.SERVO = false →
    ∀ p : Int, p = (s.elapse t).nextCycle.time.ptp + (s.elapse t).rdS Reg.TIME_STEP_SEC.VALUE * secUnit
      + (s.elapse t).rdS Reg.TIME_STEP_NS.VALUE * nsUnit → 0 ≤ p → p < 2 ^ 48 * secUnit →
    ∃ n, exec (.timeStep t) s = .next n ∧ n.time.ptp = p ∧ n.time.sub < secUnit ∧
      n.time.ns = (s.elapse t).nextCycle.time.ns ∧ n.time.slew = 0 ∧ n.rd Reg.TIME_SLEW_REMAIN.VALUE = 0 ∧
      n.rd Reg.TIME_STATUS.SLEWING = 0 ∧ n.rd Reg.TIME_EVENT.EVENTS = s.rd Reg.TIME_EVENT.EVENTS ∧
      Effect [.time, .host, .fr, .out] (some (movesTime ++ movesIrq ++ [Reg.TIME_EVENT.EVENTS])) s n) ∧
  (∀ (s : State) (t : Nat), (s.elapse t).on Reg.TIME_CTRL.SERVO = false →
    ∃ n, exec (.timeSlewGo t) s = .next n ∧ n.time.slew = s.rdS Reg.TIME_SLEW.VALUE * nsUnit ∧
      n.rdS Reg.TIME_SLEW_REMAIN.VALUE = s.rdS Reg.TIME_SLEW.VALUE ∧
      n.rd Reg.TIME_STATUS.SLEWING = b01 (s.rdS Reg.TIME_SLEW.VALUE ≠ 0) ∧ n.time.ptp = (s.elapse t).time.ptp ∧
      n.time.ns = (s.elapse t).time.ns ∧ n.rd Reg.TIME_EVENT.EVENTS = s.rd Reg.TIME_EVENT.EVENTS ∧
      Effect [.time, .host, .fr, .out] (some (movesTime ++ movesIrq ++ [Reg.TIME_EVENT.EVENTS])) s n) ∧
  (∀ (s : State) (t : Nat) (c : Instr), c ∈ [Instr.timeSet t, Instr.timeStep t, Instr.timeSlewGo t] →
    s.on Reg.TIME_CTRL.SERVO = true →
    ∃ n, exec c s = .next n ∧ n.time = (s.elapse t).time ∧
      n.rd Reg.TIME_EVENT.EVENTS = setBit (s.rd Reg.TIME_EVENT.EVENTS) 3 % 2 ^ 5 ∧
      Effect [.time, .host, .fr, .out] (some (movesTime ++ movesIrq ++ [Reg.TIME_EVENT.EVENTS])) s n) ∧
  (∀ (s : State) (t : Nat) (v : Bool),
    ∃ n, exec (if v then .timeSyncSet t else .timeSyncClr t) s = .next n ∧
      n.rd Reg.TIME_STATUS.SYNC = (if s.on Reg.TIME_CTRL.SERVO ∨ s.on Reg.TIME_STATUS.SYNC = v then s.rd Reg.TIME_STATUS.SYNC else b01 v) ∧
      n.rd Reg.TIME_EVENT.EVENTS = (if s.on Reg.TIME_CTRL.SERVO ∨ s.on Reg.TIME_STATUS.SYNC = v then s.rd Reg.TIME_EVENT.EVENTS
        else setBit (s.rd Reg.TIME_EVENT.EVENTS) 0 % 2 ^ 5) ∧
      n.time = (s.elapse t).time ∧
      Effect [.time, .host, .fr, .out] (some (movesTime ++ movesIrq ++ [Reg.TIME_STATUS.SYNC, Reg.TIME_EVENT.EVENTS])) s n) ∧
  (∀ (s : State) (t : Nat) (pps : Bool),
    ∃ n, exec (.timeServoChange pps t) s = .next n ∧ n.on Reg.TIME_CTRL.SERVO = pps ∧
      (s.on Reg.TIME_CTRL.SERVO ≠ pps → n.rd Reg.TIME_STATUS.SYNC = 0 ∧ n.time = { (s.elapse t).time with ppsGood := 0 }) ∧
      (s.on Reg.TIME_CTRL.SERVO = pps → n.rd Reg.TIME_STATUS.SYNC = s.rd Reg.TIME_STATUS.SYNC ∧ n.time = (s.elapse t).time) ∧
      Effect [.time, .host, .fr, .out]
        (some (movesTime ++ movesIrq ++ [Reg.TIME_CTRL.SERVO, Reg.TIME_STATUS.SYNC, Reg.TIME_EVENT.EVENTS])) s n) ∧
  (∀ (s : State) (value t : Nat), s.on Reg.TIME_CTRL.SERVO = false →
    ∃ n, exec (.timeAddendWrite value t) s = .next n ∧
      n.rd Reg.TIME_ADDEND.ADDEND = (if value % 2 ^ 32 < 0x7FEF9DB2 then 0x7FEF9DB2
        else if 0x8010624E < value % 2 ^ 32 then 0x8010624E else value % 2 ^ 32) ∧
      n.rd Reg.TIME_EVENT.EVENTS = s.rd Reg.TIME_EVENT.EVENTS ∧ n.time = (s.elapse t).nextCycle.time ∧
      Effect [.time, .host, .fr, .out] (some (movesTime ++ movesIrq ++ [Reg.TIME_ADDEND.ADDEND, Reg.TIME_EVENT.EVENTS])) s n) ∧
  (∀ (s : State) (value t : Nat), s.on Reg.TIME_CTRL.SERVO = true →
    ∃ n, exec (.timeAddendWrite value t) s = .next n ∧ n.rd Reg.TIME_ADDEND.ADDEND = s.rd Reg.TIME_ADDEND.ADDEND ∧
      n.rd Reg.TIME_EVENT.EVENTS = setBit (s.rd Reg.TIME_EVENT.EVENTS) 3 % 2 ^ 5 ∧
      Effect [.time, .host, .fr, .out] (some (movesTime ++ movesIrq ++ [Reg.TIME_ADDEND.ADDEND, Reg.TIME_EVENT.EVENTS])) s n)

/-- PPS_IN and the time base (R306, R308, R309, R312, R313, Table 18-5). An edge of the polarity that TIME_PPS_CFG.EDGE does not select is
none. One less than 0.5 s after the previous accepted one, or while locked more than 100 µs from where it is expected, is counted in
REJECTED and does nothing else; every other is counted in EDGES, clears PPS_LOST and leaves its error in TIME_PPS_ERR. While SERVO = 1 an
accepted edge steps PTP time by −e and clears the integral where |e| > 100,000 ns, and otherwise adds e to the clamped integral and sets
ADDEND from both. 1.5 s without an accepted edge sets PPS_LOST and clears SYNC and SERVO_LOCK. Each command at an instant first lets the
time base run there, by 4 ns of the count and ADDEND × 2^-29 ns of PTP time per SD cycle, and stand still without the SD clock. At a 1 ms
boundary the keep domain copies both values. A slew that has made its whole amount no longer runs. Reading TIME_PTP_NS latches the other
three words. -/
def Obligations.PpsEdgesAndTheTimeBase : Prop :=
  (∀ (s : State) (r : Bool) (t a : Nat), r ≠ s.on Reg.TIME_PPS_CFG.EDGE → (s.elapse t).time.ppsAt = some a →
    (s.elapse t).time.ns < a + 500000000 →
    ∃ n, exec (.ppsEdge ⟨r, t⟩) s = .next n ∧ n.time = (s.elapse t).time ∧
      n.rd Reg.TIME_PPS_COUNT.REJECTED = min 65535 (s.rd Reg.TIME_PPS_COUNT.REJECTED + 1) ∧
      n.rd Reg.TIME_PPS_COUNT.EDGES = s.rd Reg.TIME_PPS_COUNT.EDGES ∧ n.rd Reg.TIME_ADDEND.ADDEND = s.rd Reg.TIME_ADDEND.ADDEND ∧
      n.rd Reg.TIME_STATUS.SYNC = s.rd Reg.TIME_STATUS.SYNC) ∧
  (∀ (s : State) (r : Bool) (t : Nat), r ≠ s.on Reg.TIME_PPS_CFG.EDGE → s.on Reg.TIME_STATUS.SERVO_LOCK = true →
    100000 < (s.elapse t).ppsError.natAbs →
    ∃ n, exec (.ppsEdge ⟨r, t⟩) s = .next n ∧ n.time = (s.elapse t).time ∧
      n.rd Reg.TIME_PPS_COUNT.REJECTED = min 65535 (s.rd Reg.TIME_PPS_COUNT.REJECTED + 1)) ∧
  (∀ (s : State) (r : Bool) (t : Nat), r ≠ s.on Reg.TIME_PPS_CFG.EDGE →
    (∀ a, (s.elapse t).time.ppsAt = some a → a + 500000000 ≤ (s.elapse t).time.ns) →
    (s.on Reg.TIME_STATUS.SERVO_LOCK = false ∨ (s.elapse t).ppsError.natAbs ≤ 100000) →
    ∃ n, exec (.ppsEdge ⟨r, t⟩) s = .next n ∧ n.rd Reg.TIME_PPS_COUNT.EDGES = min 65535 (s.rd Reg.TIME_PPS_COUNT.EDGES + 1) ∧
      n.rd Reg.TIME_PPS_COUNT.REJECTED = s.rd Reg.TIME_PPS_COUNT.REJECTED ∧
      n.rdS Reg.TIME_PPS_ERR.VALUE = (s.elapse t).ppsError ∧ n.rd Reg.TIME_STATUS.PPS_LOST = 0 ∧
      n.time.ppsAt = some (s.elapse t).time.ns ∧ n.time.ns = (s.elapse t).time.ns ∧
      (s.on Reg.TIME_CTRL.SERVO = false → n.time = { (s.elapse t).time with ppsAt := some (s.elapse t).time.ns, ppsGood := 0 } ∧
        n.rd Reg.TIME_ADDEND.ADDEND = s.rd Reg.TIME_ADDEND.ADDEND) ∧
      (s.on Reg.TIME_CTRL.SERVO = true → 10 * s.rd Reg.TIME_PPS_CFG.LOCK_NS < (s.elapse t).ppsError.natAbs → n.time.ppsGood = 0 ∧
        (40 * s.rd Reg.TIME_PPS_CFG.LOCK_NS < (s.elapse t).ppsError.natAbs → n.rd Reg.TIME_STATUS.SERVO_LOCK = 0 ∧
          n.rd Reg.TIME_STATUS.SYNC = 0)) ∧
      (s.on Reg.TIME_CTRL.SERVO = true → (s.elapse t).ppsError.natAbs ≤ 10 * s.rd Reg.TIME_PPS_CFG.LOCK_NS →
        n.time.ppsGood = s.time.ppsGood + 1 ∧
        (3 ≤ s.time.ppsGood → n.on Reg.TIME_STATUS.SERVO_LOCK = true ∧ n.on Reg.TIME_STATUS.SYNC = true)) ∧
      (s.on Reg.TIME_CTRL.SERVO = true → 100000 < (s.elapse t).ppsError.natAbs →
        n.time.ppsSum = 0 ∧ n.rd Reg.TIME_ADDEND.ADDEND = s.rd Reg.TIME_ADDEND.ADDEND ∧
        n.time.sec = ((s.elapse t).time.advance (-(s.elapse t).ppsError * nsUnit)).sec ∧
        n.time.sub = ((s.elapse t).time.advance (-(s.elapse t).ppsError * nsUnit)).sub) ∧
      (s.on Reg.TIME_CTRL.SERVO = true → (s.elapse t).ppsError.natAbs ≤ 100000 →
        n.time.ppsSum = clampI (-1048576) 1048576 ((s.elapse t).time.ppsSum + (s.elapse t).ppsError) ∧
        n.rd Reg.TIME_ADDEND.ADDEND = clampAddend (2147483648
          - asr ((s.elapse t).ppsError * (s.rd Reg.TIME_PPS_CFG.KP : Nat)) 8
          - asr (clampI (-1048576) 1048576 ((s.elapse t).time.ppsSum + (s.elapse t).ppsError) * (s.rd Reg.TIME_PPS_CFG.KI : Nat)) 8)) ∧
      Effect [.time, .host, .fr, .out] (some (movesTime ++ movesIrq ++ [Reg.TIME_PPS_COUNT.EDGES, Reg.TIME_PPS_COUNT.REJECTED,
        Reg.TIME_PPS_ERR.VALUE, Reg.TIME_ADDEND.ADDEND, Reg.TIME_STATUS.PPS_LOST, Reg.TIME_STATUS.SERVO_LOCK, Reg.TIME_STATUS.SYNC,
        Reg.TIME_EVENT.EVENTS])) s n) ∧
  (∀ (s : State) (r : Bool) (t : Nat), r = s.on Reg.TIME_PPS_CFG.EDGE →
    ∃ n, exec (.ppsEdge ⟨r, t⟩) s = .next n ∧ Effect [.time, .host, .fr, .out] (some (movesTime ++ movesIrq)) s n ∧
      n.time = (s.elapse t).time) ∧
  (∀ (s : State) (t : Nat), s.on Reg.TIME_CTRL.SERVO = true →
    (s.elapse t).time.ppsAt.getD (s.elapse t).time.startedAt + 1500000000 ≤ (s.elapse t).time.ns →
    ∃ n, exec (.ppsLost t) s = .next n ∧ n.rd Reg.TIME_STATUS.PPS_LOST = 1 ∧ n.rd Reg.TIME_STATUS.SERVO_LOCK = 0 ∧
      n.rd Reg.TIME_STATUS.SYNC = 0 ∧ n.rd Reg.TIME_ADDEND.ADDEND = s.rd Reg.TIME_ADDEND.ADDEND ∧ n.time = (s.elapse t).time ∧
      (s.on Reg.TIME_STATUS.PPS_LOST = false → hasBit (n.rd Reg.TIME_EVENT.EVENTS) 1 = true) ∧
      Effect [.time, .host, .fr, .out] (some (movesTime ++ movesIrq ++ [Reg.TIME_STATUS.PPS_LOST, Reg.TIME_STATUS.SERVO_LOCK,
        Reg.TIME_STATUS.SYNC, Reg.TIME_EVENT.EVENTS])) s n) ∧
  (∀ (s : State) (t : Nat), (s.on Reg.TIME_CTRL.SERVO = false ∨
      (s.elapse t).time.ns < (s.elapse t).time.ppsAt.getD (s.elapse t).time.startedAt + 1500000000) →
    ∃ n, exec (.ppsLost t) s = .next n ∧ Effect [.time, .host, .fr, .out] (some (movesTime ++ movesIrq)) s n ∧
      n.time = (s.elapse t).time) ∧
  (∀ (s : State) (t : Nat), (s.elapse t).time.ns = max s.time.ns t) ∧
  (∀ (s : State) (k : Nat), s.sdRuns = true → s.time.slew = 0 → s.time.behind + s.time.phase % 4 ≤ s.time.ns →
    (s.elapse (s.time.ns + 4 * k)).count = s.count + 4 * k ∧
    ((s.elapse (s.time.ns + 4 * k)).time.ptp - s.time.ptp - (k * s.rd Reg.TIME_ADDEND.ADDEND * 1000000 : Nat)) % (2 ^ 48 * secUnit) = 0) ∧
  (∀ (s : State) (t : Nat), s.sdRuns = false → (s.elapse t).count = s.count ∧ (s.elapse t).time.ptp = s.time.ptp) ∧
  (∀ (s : State) (t : Nat), s.device ≠ stOff → s.device ≠ stKeepOnly → s.power.held = false →
    ∃ n, exec (.keepCounterCopy t) s = .next n ∧ n.time.keepNs = (s.elapse t).count ∧ n.time.keepAt = (s.elapse t).time.ns ∧
      n.time.keepSec = (s.elapse t).time.sec ∧
      n.time.keepSub = (s.elapse t).time.sub ∧ n.time.ns = (s.elapse t).time.ns ∧ n.time.ptp = (s.elapse t).time.ptp ∧
      Effect [.time, .host, .fr, .out] (some (movesTime ++ movesIrq)) s n) ∧
  (∀ (s : State) (t : Nat), (s.elapse t).time.slew = 0 →
    ∃ n, exec (.timeSlewDone t) s = .next n ∧ n.time = (s.elapse t).time ∧ n.rd Reg.TIME_SLEW_REMAIN.VALUE = 0 ∧
      n.rd Reg.TIME_STATUS.SLEWING = 0 ∧ Effect [.time, .host, .fr, .out] (some (movesTime ++ movesIrq)) s n) ∧
  (∀ (s : State) (t : Nat), (s.elapse t).time.sub < secUnit → (s.elapse t).time.sec < 2 ^ 48 →
    ∃ n, exec (.timePtpRead t) s = .next n ∧ n.time = (s.elapse t).time ∧
      n.rd Reg.TIME_PTP_NS.VALUE = (s.elapse t).time.sub / nsUnit ∧
      n.rd Reg.TIME_PTP_SEC_LO.VALUE + 4294967296 * n.rd Reg.TIME_PTP_SEC_HI.VALUE = (s.elapse t).time.sec ∧
      n.rd Reg.TIME_PTP_FRAC.VALUE = (s.elapse t).time.sub % nsUnit * 65536 / nsUnit ∧
      Effect [.time, .host, .fr, .out] (some (movesTime ++ movesIrq ++ [Reg.TIME_PTP_NS.VALUE, Reg.TIME_PTP_SEC_LO.VALUE,
        Reg.TIME_PTP_SEC_HI.VALUE, Reg.TIME_PTP_FRAC.VALUE])) s n)

/-- A frame arrives at a port whose mode is not off and whose link is up (R316, R321, R322). A frame with a bad FCS, outside 60 to 1,518
bytes without it, with two VLAN tags or for another destination, and a non-PTP frame under shedding, is only counted in FILTERED; one that
finds no descriptor is only counted in NO_DESC; every other goes with its descriptor to host memory, and HEAD advances. -/
def Obligations.EthernetFramesAreFilteredAndDelivered : Prop :=
  (∀ (s : State) (p : Fin 2) (b : List Byte) (fcs : Bool) (a t : Nat), s.rd Reg.ETH_CTRL.MODE p.val ≠ 0 →
    s.on Reg.ETH_STATUS.LINK p.val = true →
    (fcs = false ∨ b.length < 60 ∨ 1518 < b.length ∨ s.ethTakes p.val b = false ∨ (5 ≤ s.rd Reg.POWER_SHED.STEP ∧ isPtp b = false)) →
    ∃ n, exec (.ethRxFrame p b fcs a t) s = .next n ∧
      n.rd Reg.ETH_COUNT.FILTERED p.val = min 65535 (s.rd Reg.ETH_COUNT.FILTERED p.val + 1) ∧
      n.rd Reg.ETH_COUNT.NO_DESC p.val = s.rd Reg.ETH_COUNT.NO_DESC p.val ∧
      n.rd Reg.ETH_RXR_HEAD.INDEX p.val = s.rd Reg.ETH_RXR_HEAD.INDEX p.val ∧
      n.rd Reg.ETH_EVENT.EVENTS p.val = s.rd Reg.ETH_EVENT.EVENTS p.val) ∧
  (∀ (s : State) (p : Fin 2) (b : List Byte) (a t : Nat), s.rd Reg.ETH_CTRL.MODE p.val ≠ 0 → s.on Reg.ETH_STATUS.LINK p.val = true →
    60 ≤ b.length → b.length ≤ 1518 → (ethVlan b = true → be16At b 16 ≠ 0x8100) → s.ethTakes p.val b = true →
    (5 ≤ s.rd Reg.POWER_SHED.STEP → isPtp b = true) →
    s.on Reg.ETH_CTRL.RX_EN p.val = true → (s.eth p.val).rxStopped = false →
    ∃ n, exec (.ethRxFrame p b true a t) s = .next n ∧
      n.rd Reg.ETH_COUNT.FILTERED p.val = s.rd Reg.ETH_COUNT.FILTERED p.val ∧
      (s.rd Reg.ETH_RXR_HEAD.INDEX p.val = s.rd Reg.ETH_RXR_TAIL.INDEX p.val →
        n.rd Reg.ETH_COUNT.NO_DESC p.val = min 65535 (s.rd Reg.ETH_COUNT.NO_DESC p.val + 1) ∧
        n.rd Reg.ETH_RXR_HEAD.INDEX p.val = s.rd Reg.ETH_RXR_HEAD.INDEX p.val) ∧
      (s.rd Reg.ETH_RXR_HEAD.INDEX p.val ≠ s.rd Reg.ETH_RXR_TAIL.INDEX p.val →
        n.rd Reg.ETH_RXR_HEAD.INDEX p.val =
          (s.rd Reg.ETH_RXR_HEAD.INDEX p.val + 1) % 2 ^ clampN 4 12 (s.rd Reg.ETH_RXR_CFG.LOG2N p.val) ∧
        n.rd Reg.ETH_COUNT.NO_DESC p.val = s.rd Reg.ETH_COUNT.NO_DESC p.val ∧
        n.rd Reg.ETH_EVENT.EVENTS p.val = setBit (s.rd Reg.ETH_EVENT.EVENTS p.val) 1 % 2 ^ 5 ∧
        s.out ++ [.dmaWrite a (b.take (s.rd Reg.ETH_RXR_CFG.BUF p.val))] <+: n.out) ∧
      Effect [.time, .host, .fr, .out] (some (movesTime ++ movesIrq ++ [Reg.ETH_COUNT.FILTERED, Reg.ETH_COUNT.NO_DESC, Reg.ETH_EVENT.EVENTS,
        Reg.ETH_RXR_HEAD.INDEX])) s n)

/-- The port takes a transmit descriptor (R319 to R322, Table 14-4): the frame leaves, with a stamp queued where TS_REQ asks for one and
fewer than 32 wait, or the descriptor completes with LEN_ERR, SHED or ONE_STEP_REFUSED and nothing leaves; in every case HEAD advances and
TX_DONE is set. A read of ETH_TXTS0 takes the oldest stamp out of the queue into the four words, and from an empty queue reads VALID = 0.
-/
def Obligations.EthernetTransmitsAndQueuesStamps : Prop :=
  (∀ (s : State) (p : Fin 2) (d b : List Byte) (t : Nat), s.rd Reg.ETH_CTRL.MODE p.val ≠ 0 → s.on Reg.ETH_CTRL.TX_EN p.val = true →
    (s.eth p.val).txStopped = false → s.rd Reg.ETH_TXR_HEAD.INDEX p.val ≠ s.rd Reg.ETH_TXR_TAIL.INDEX p.val →
    ∃ n, exec (.ethTxDescriptor p d b t) s = .next n ∧
      n.rd Reg.ETH_TXR_HEAD.INDEX p.val =
        (s.rd Reg.ETH_TXR_HEAD.INDEX p.val + 1) % 2 ^ clampN 4 12 (s.rd Reg.ETH_TXR_CFG.LOG2N p.val) ∧
      hasBit (n.rd Reg.ETH_EVENT.EVENTS p.val) 0 = true ∧
      ((u16At d 8 < 60 ∨ 1518 < u16At d 8) → n.eths = s.eths ∧
        s.out ++ [.dmaWrite (s.rd64 Reg.ETH_TXR_BASE_LO.ADDR Reg.ETH_TXR_BASE_HI.ADDR p.val + 32 * s.rd Reg.ETH_TXR_HEAD.INDEX p.val + 24)
          (leBytes 2 17)] <+: n.out) ∧
      (60 ≤ u16At d 8 → u16At d 8 ≤ 1518 → 5 ≤ s.rd Reg.POWER_SHED.STEP → isPtp (b.take (u16At d 8)) = false → n.eths = s.eths ∧
        s.out ++ [.dmaWrite (s.rd64 Reg.ETH_TXR_BASE_LO.ADDR Reg.ETH_TXR_BASE_HI.ADDR p.val + 32 * s.rd Reg.ETH_TXR_HEAD.INDEX p.val + 24)
          (leBytes 2 9)] <+: n.out) ∧
      (60 ≤ u16At d 8 → u16At d 8 ≤ 1518 → s.rd Reg.POWER_SHED.STEP < 5 → u16At d 10 = 0 → n.eths = s.eths ∧
        s.out ++ [.eth p.val (b.take (u16At d 8)),
          .dmaWrite (s.rd64 Reg.ETH_TXR_BASE_LO.ADDR Reg.ETH_TXR_BASE_HI.ADDR p.val + 32 * s.rd Reg.ETH_TXR_HEAD.INDEX p.val + 24)
            (leBytes 2 3)] <+: n.out) ∧
      (60 ≤ u16At d 8 → u16At d 8 ≤ 1518 → s.rd Reg.POWER_SHED.STEP < 5 → u16At d 10 = 1 → (s.eth p.val).stamps.length = 32 →
        n.rd Reg.ETH_TXTS_STATUS.OVF p.val = 1 ∧
        n.rd Reg.ETH_TXTS_STATUS.DROPPED p.val = min 65535 (s.rd Reg.ETH_TXTS_STATUS.DROPPED p.val + 1) ∧ n.eths = s.eths) ∧
      (60 ≤ u16At d 8 → u16At d 8 ≤ 1518 → s.rd Reg.POWER_SHED.STEP < 5 → u16At d 10 = 1 → (s.eth p.val).stamps.length < 32 →
        ∃ e, (n.eth p.val).stamps = (s.eth p.val).stamps ++ [e] ∧
          e.ns = ((s.elapse t).stamp (s.rdS Reg.ETH_LAT.TX p.val)).2 ∧ e.sec = ((s.elapse t).stamp (s.rdS Reg.ETH_LAT.TX p.val)).1 ∧
          n.rd Reg.ETH_TXTS_STATUS.COUNT p.val = (s.eth p.val).stamps.length + 1) ∧
      Effect [.time, .host, .fr, .eths, .out, .drawn] (some (movesTime ++ movesIrq ++ [Reg.ETH_EVENT.EVENTS, Reg.ETH_TXR_HEAD.INDEX,
        Reg.ETH_TXTS_STATUS.COUNT, Reg.ETH_TXTS_STATUS.DROPPED, Reg.ETH_TXTS_STATUS.OVF])) s n) ∧
  (∀ (s : State) (p : Fin 2) (e : TxStamp) (r : List TxStamp), (s.eth p.val).stamps = e :: r →
    e.seqId < 65536 → e.msgType < 16 → e.ns < 2 ^ 32 → e.sec < 2 ^ 48 → r.length < 32 →
    ∃ n, exec (.ethTxtsRead p) s = .next n ∧ (n.eth p.val).stamps = r ∧
      n.rd Reg.ETH_TXTS.ENTRY p.val 0 = e.seqId + 65536 * e.msgType + 2 ^ 31 ∧ n.rd Reg.ETH_TXTS.ENTRY p.val 1 = e.ns ∧
      n.rd Reg.ETH_TXTS.ENTRY p.val 2 + 4294967296 * n.rd Reg.ETH_TXTS.ENTRY p.val 3 = e.sec ∧
      n.rd Reg.ETH_TXTS_STATUS.COUNT p.val = r.length ∧
      Effect [.host, .eths, .out] (some (movesIrq ++ [Reg.ETH_TXTS.ENTRY, Reg.ETH_TXTS_STATUS.COUNT])) s n) ∧
  (∀ (s : State) (p : Fin 2), (s.eth p.val).stamps = [] →
    ∃ n, exec (.ethTxtsRead p) s = .next n ∧ n.rd Reg.ETH_TXTS.ENTRY p.val 0 = 0 ∧ n.eths = s.eths ∧
      (∀ j, j ≠ 0 → n.rd Reg.ETH_TXTS.ENTRY p.val j = s.rd Reg.ETH_TXTS.ENTRY p.val j) ∧
      Effect [.host, .eths, .out] (some (movesIrq ++ [Reg.ETH_TXTS.ENTRY, Reg.ETH_TXTS_STATUS.COUNT])) s n)

/-- Rings and links (R316, R321): writing a ring's HI base restarts that ring alone at HEAD = TAIL = 0, with the low word written before;
a PCIe error stops that ring alone, sets DMA_ERR and raises the contained fault of position 31; a link that changes shows its state, its
speed (1000 Mbit/s in 1000BASE-X, 0 when down) and its autonegotiation, and sets the LINK event. -/
def Obligations.EthernetRingsAndLinksChange : Prop :=
  (∀ (s : State) (p : Fin 2) (v w : Nat), Tbl.look 0 s.wrHold (Reg.ETH_RXR_BASE_LO.ADDR.at p.val 0) = w + 1 → v < 2 ^ 32 → w < 2 ^ 32 →
    ∃ n, exec (.ethRingRestart p true v) s = .next n ∧ n.rd Reg.ETH_RXR_HEAD.INDEX p.val = 0 ∧ n.rd Reg.ETH_RXR_TAIL.INDEX p.val = 0 ∧
      n.rd64 Reg.ETH_RXR_BASE_LO.ADDR Reg.ETH_RXR_BASE_HI.ADDR p.val = w + 4294967296 * v ∧ (n.eth p.val).rxStopped = false ∧
      (n.eth p.val).txStopped = (s.eth p.val).txStopped ∧ n.rd Reg.ETH_TXR_HEAD.INDEX p.val = s.rd Reg.ETH_TXR_HEAD.INDEX p.val ∧
      Effect [.wrHold, .host, .eths, .out] (some (movesIrq ++ [Reg.ETH_RXR_BASE_HI.ADDR, Reg.ETH_RXR_BASE_LO.ADDR,
        Reg.ETH_RXR_HEAD.INDEX, Reg.ETH_RXR_TAIL.INDEX, Reg.ETH_TXR_BASE_HI.ADDR, Reg.ETH_TXR_BASE_LO.ADDR, Reg.ETH_TXR_HEAD.INDEX,
        Reg.ETH_TXR_TAIL.INDEX])) s n) ∧
  (∀ (s : State) (p : Fin 2) (v w : Nat), Tbl.look 0 s.wrHold (Reg.ETH_TXR_BASE_LO.ADDR.at p.val 0) = w + 1 → v < 2 ^ 32 → w < 2 ^ 32 →
    ∃ n, exec (.ethRingRestart p false v) s = .next n ∧ n.rd Reg.ETH_TXR_HEAD.INDEX p.val = 0 ∧ n.rd Reg.ETH_TXR_TAIL.INDEX p.val = 0 ∧
      n.rd64 Reg.ETH_TXR_BASE_LO.ADDR Reg.ETH_TXR_BASE_HI.ADDR p.val = w + 4294967296 * v ∧ (n.eth p.val).txStopped = false ∧
      (n.eth p.val).rxStopped = (s.eth p.val).rxStopped ∧ n.rd Reg.ETH_RXR_HEAD.INDEX p.val = s.rd Reg.ETH_RXR_HEAD.INDEX p.val) ∧
  (∀ (s : State) (p : Fin 2) (rx : Bool) (t : Nat), s.power.bridge = true →
    s.mayRaise = true →
    ∃ n, exec (.ethDmaError p rx t) s = .next n ∧ (n.eth p.val).rxStopped = (rx || (s.eth p.val).rxStopped) ∧
      (n.eth p.val).txStopped = (!rx || (s.eth p.val).txStopped) ∧ hasBit (n.rd Reg.ETH_EVENT.EVENTS p.val) 4 = true ∧
      raises (s.elapse t) n 31 p.val ∧
      Effect [.time, .faults, .host, .fr, .eths, .out] (some (movesTime ++ movesIrq ++ movesFault ++ [Reg.ETH_EVENT.EVENTS])) s n) ∧
  (∀ (s : State) (p : Fin 2) (up : Bool) (sp : Fin 3) (an : Bool) (t : Nat), s.rd Reg.ETH_CTRL.MODE p.val ≠ 0 →
    s.on Reg.ETH_STATUS.LINK p.val ≠ up →
    ∃ n, exec (.ethLinkChange p up sp an t) s = .next n ∧ n.rd Reg.ETH_STATUS.LINK p.val = b01 up ∧
      n.rd Reg.ETH_STATUS.SPEED p.val = (if up then (if s.rd Reg.ETH_CTRL.MODE p.val = 2 then 2 else sp.val) else 0) ∧
      n.rd Reg.ETH_STATUS.AN_DONE p.val = b01 (up && an && s.on Reg.ETH_CTRL.AN_EN p.val) ∧
      n.rd Reg.ETH_EVENT.EVENTS p.val = setBit (s.rd Reg.ETH_EVENT.EVENTS p.val) 3 % 2 ^ 5 ∧
      Effect [.time, .host, .fr, .out] (some (movesTime ++ movesIrq ++ [Reg.ETH_EVENT.EVENTS, Reg.ETH_STATUS.AN_DONE, Reg.ETH_STATUS.LINK,
        Reg.ETH_STATUS.SPEED])) s n)

/-- The two journalled commands of the transmit queues (R331, R332, Tables 15-3 and 15-4). CAN_QUEUE appends the message to the queue of
its controller where no cause of Table 15-4 holds, and changes no queue where one does; CAN_FLUSH removes the entries of the buffer, or of
all, except one that is in an attempt on the bus. -/
def Obligations.CanQueueAppendsAndFlushRemoves : Prop :=
  (∀ (s : State) (a : List Byte) (src seq : Nat) (c : CanCfg), s.canCfg (u8At a 0) = some c → u8At a 0 < 4 → u8At a 1 ≤ 31 →
    u32At a 4 < (if hasBit (u8At a 2) 0 then 2 ^ 29 else 2 ^ 11) → u8At a 3 ≤ 15 → (8 < u8At a 3 → hasBit (u8At a 2) 1 = true) →
    (hasBit (u8At a 2) 2 = true → hasBit (u8At a 2) 1 = true) → (hasBit (u8At a 2) 1 = true → c.fdEn = true) →
    (s.canMsgs (u8At a 0)).length < 256 → c.mode ≠ 0 → c.mode ≠ 4 → (u8At a 1 < 31 → c.names (u8At a 1) = true) →
    ∃ n, exec (.canQueue a src seq) s = .next n ∧
      n.canMsgs (u8At a 0) = s.canMsgs (u8At a 0) ++ [⟨u8At a 1, hasBit (u8At a 2) 0, hasBit (u8At a 2) 1, hasBit (u8At a 2) 2, u8At a 3,
        u32At a 4, slice a 8 (canBytes (u8At a 3)), src, seq, false⟩] ∧
      n.rd Reg.CAN_TXQ.FILL (u8At a 0) = (s.canMsgs (u8At a 0)).length + 1 ∧
      (∀ k, k ≠ u8At a 0 → n.canMsgs k = s.canMsgs k) ∧
      Effect [.host, .canQueues, .out] (some (movesIrq ++ [Reg.CAN_TXQ.FILL])) s n) ∧
  (∀ (s : State) (a : List Byte) (src seq : Nat) (c : CanCfg), s.canCfg (u8At a 0) = some c →
    (31 < u8At a 1 ∨ 15 < u8At a 3 ∨ (8 < u8At a 3 ∧ hasBit (u8At a 2) 1 = false) ∨ (hasBit (u8At a 2) 1 = true ∧ c.fdEn = false)
      ∨ 256 ≤ (s.canMsgs (u8At a 0)).length ∨ c.mode = 0 ∨ c.mode = 4 ∨ (u8At a 1 < 31 ∧ c.names (u8At a 1) = false)) →
    ∃ n, exec (.canQueue a src seq) s = .next n ∧ n.canQueues = s.canQueues ∧ n.cans = s.cans) ∧
  (∀ (s : State) (k b : Nat) (c : CanCfg), s.canCfg k = some c → (b ≤ 31 ∨ b = 255) →
    ∃ n, exec (.canFlush k b) s = .next n ∧
      n.canMsgs k = (s.canMsgs k).filter (fun m => !(b == 255 || m.buffer == b) || ((s.can k).attempt == some m)) ∧
      (∀ m, (s.can k).attempt = some m → (b = 255 ∨ m.buffer = b) → (n.can k).flushed = true) ∧
      (∀ j, j ≠ k → n.canMsgs j = s.canMsgs j) ∧
      Effect [.host, .canQueues, .cans, .out] (some (movesIrq ++ [Reg.CAN_TXQ.FILL])) s n)

/-- A slot of the schedule matrix opens (R328 to R330, R337, Table 15-2): at its column of its frame the controller offers the head of the
buffer that the element names, or the message of buffer 31 with the lowest identifier, none of buffer 31 under shedding; it requests
transmission where nothing is under way and it may send. When the slot ends, a due message still waiting becomes LATE and an attempt goes
on only where it is on the bus (R330, R334). -/
def Obligations.CanSlotsOfferAndEnd : Prop :=
  (∀ (s : State) (k : Fin 4) (col : Fin 64) (t f x : Nat) (c : CanCfg), s.canCfg k.val = some c → c.cols[col.val]? = some (f, x) →
    s.rd Reg.CAN_CTRL.MODE k.val ≠ 0 → s.frameNo % 2 ^ c.a = f → s.ticking = true →
    ∃ n, exec (.canSlotStart k col t) s = .next n ∧ (n.can k.val).openSlot = some col.val ∧ n.rd Reg.CAN_MATRIX.COLUMN k.val = col.val ∧
      (n.can k.val).offer = s.canOffer k.val c col.val ∧
      (∀ m, (s.can k.val).attempt = some m → (n.can k.val).attempt = some m) ∧
      ((s.can k.val).attempt = none → (n.can k.val).attempt = (if s.canSends k.val then s.canOffer k.val c col.val else none)) ∧
      n.canQueues = s.canQueues ∧
      Effect [.time, .host, .fr, .cans, .out] (some (movesTime ++ movesIrq ++ [Reg.CAN_MATRIX.COLUMN])) s n) ∧
  (∀ (s : State) (k : Fin 4) (col : Fin 64) (t : Nat), ((∀ c f x, s.canCfg k.val = some c → c.cols[col.val]? = some (f, x) →
      s.rd Reg.CAN_CTRL.MODE k.val = 0 ∨ s.frameNo % 2 ^ c.a ≠ f ∨ s.ticking = false)) →
    ∃ n, exec (.canSlotStart k col t) s = .next n ∧ Effect [.time, .host, .fr, .out] (some (movesTime ++ movesIrq)) s n) ∧
  (∀ (s : State) (k col : Nat) (c : CanCfg), c.elems.getD (64 * (s.can k).row + col) 0 / 64 = 1 →
    s.canOffer k c col = (s.canMsgs k).find? (fun m => m.buffer == c.elems.getD (64 * (s.can k).row + col) 0 % 32)) ∧
  (∀ (s : State) (k col : Nat) (c : CanCfg), c.elems.getD (64 * (s.can k).row + col) 0 / 64 = 0 → 5 ≤ s.rd Reg.POWER_SHED.STEP →
    s.canOffer k c col = none) ∧
  (∀ (s : State) (k col : Nat) (c : CanCfg) (m : CanMsg), c.elems.getD (64 * (s.can k).row + col) 0 / 64 = 0 →
    s.canOffer k c col = some m → m ∈ s.canMsgs k ∧ m.buffer = 31 ∧ ∀ x ∈ s.canMsgs k, x.buffer = 31 → m.id ≤ x.id) ∧
  (∀ (s : State) (k : Fin 4) (col : Fin 64) (on : Bool) (t : Nat) (m : CanMsg), (s.can k.val).openSlot = some col.val →
    (s.can k.val).offer = some m → m.buffer < 31 → m.late = false →
    ∃ n, exec (.canSlotEnd k col on t) s = .next n ∧ (n.can k.val).openSlot = none ∧ (n.can k.val).offer = none ∧
      n.canMsgs k.val = (s.canMsgs k.val).map (fun y => if y = m then ({ y with late := true } : CanMsg) else y) ∧
      n.rd Reg.CAN_EVENT.EVENTS k.val = setBit (s.rd Reg.CAN_EVENT.EVENTS k.val) 2 % 2 ^ 6 ∧
      (on = false → (n.can k.val).attempt = none) ∧
      Effect [.time, .host, .fr, .canQueues, .cans, .out] (some (movesTime ++ movesIrq ++ [Reg.CAN_EVENT.EVENTS, Reg.CAN_TXQ.FILL])) s n) ∧
  (∀ (s : State) (k : Fin 4) (col : Fin 64) (on : Bool) (t : Nat), (s.can k.val).openSlot = some col.val →
    (s.can k.val).offer = none →
    ∃ n, exec (.canSlotEnd k col on t) s = .next n ∧ (n.can k.val).openSlot = none ∧ n.canQueues = s.canQueues ∧
      (n.can k.val).attempt = (if on then (s.can k.val).attempt else none) ∧
      n.rd Reg.CAN_EVENT.EVENTS k.val = s.rd Reg.CAN_EVENT.EVENTS k.val ∧
      Effect [.time, .host, .fr, .canQueues, .cans, .out] (some (movesTime ++ movesIrq ++ [Reg.CAN_EVENT.EVENTS, Reg.CAN_TXQ.FILL])) s n) ∧
  (∀ (s : State) (k : Fin 4) (col : Fin 64) (on : Bool) (t : Nat) (m : CanMsg), (s.can k.val).openSlot = some col.val →
    (s.can k.val).offer = some m → (31 ≤ m.buffer ∨ m.late = true) →
    ∃ n, exec (.canSlotEnd k col on t) s = .next n ∧ (n.can k.val).openSlot = none ∧ (n.can k.val).offer = none ∧
      n.canQueues = s.canQueues ∧ (n.can k.val).attempt = (if on then (s.can k.val).attempt else none) ∧
      Effect [.time, .host, .fr, .canQueues, .cans, .out] (some (movesTime ++ movesIrq ++ [Reg.CAN_EVENT.EVENTS, Reg.CAN_TXQ.FILL])) s n) ∧
  (∀ (s : State) (k : Fin 4) (col : Fin 64) (on : Bool) (t : Nat), (s.can k.val).openSlot ≠ some col.val →
    ∃ n, exec (.canSlotEnd k col on t) s = .next n ∧ Effect [.time, .host, .fr, .out] (some (movesTime ++ movesIrq)) s n)

/-- How an attempt ends (R324, R330, R333 to R336). A message that completes leaves the queue, goes out on the bus, but not in internal
loop-back, with the ESI of the error state it was sent in, lowers TEC and leaves a transmit record, dropped with OVF where 32 wait. A lost
arbitration changes no queue and no counter, and the offered message is tried again. An error raises TEC by the standard's amount and
leaves every entry queued; TEC above 255 is bus-off. RECOVER acts in bus-off alone; at its end the controller is error active with TEC =
REC = 0; an error while receiving, where the controller hears the bus and joins in, raises REC, which gives the warning at 96 and error
passive at 128. -/
def Obligations.CanAttemptsEndAndBusOffRecovers : Prop :=
  (∀ (s : State) (k : Fin 4) (sf sn t : Nat) (m : CanMsg), (s.can k.val).attempt = some m → s.rd Reg.CAN_CTRL.MODE k.val = 1 →
    ∃ n, exec (.canTxComplete k sf sn t) s = .next n ∧ n.canMsgs k.val = dropFirst m (s.canMsgs k.val) ∧
      n.rd Reg.CAN_ERRCNT.TEC k.val = (s.rd Reg.CAN_ERRCNT.TEC k.val - 1) % 512 ∧
      hasBit (n.rd Reg.CAN_EVENT.EVENTS k.val) 1 = true ∧
      ((s.can k.val).records.length < 32 → (n.can k.val).records = (s.can k.val).records
        ++ [⟨m.source, m.late && decide (m.buffer < 31), m.buffer, m.seq, sf⟩] ∧
        n.rd Reg.CAN_TXE_STATUS.COUNT k.val = (s.can k.val).records.length + 1) ∧
      (32 ≤ (s.can k.val).records.length → (n.can k.val).records = (s.can k.val).records ∧ n.rd Reg.CAN_TXE_STATUS.OVF k.val = 1) ∧
      s.out ++ [.can k.val m.id m.ide m.fdf (m.brs && ((s.canCfg k.val).map (·.brsEn)).getD false)
        (decide (s.rd Reg.CAN_STATUS.STATE k.val = 2) && m.fdf) m.data] <+: n.out ∧
      n.rd Reg.CAN_RX_STATUS.OWNED k.val = s.rd Reg.CAN_RX_STATUS.OWNED k.val ∧
      Effect [.time, .faults, .host, .fr, .canQueues, .cans, .out] (some (movesTime ++ movesIrq ++ movesFault ++ movesCanEntry ++
        [Reg.CAN_ERRCNT.TEC, Reg.CAN_EVENT.EVENTS, Reg.CAN_RX_STATUS.DROPPED, Reg.CAN_RX_STATUS.OVF, Reg.CAN_RX_STATUS.OWNED,
        Reg.CAN_STATUS.STATE, Reg.CAN_STATUS.WARNING, Reg.CAN_TXE_STATUS.COUNT, Reg.CAN_TXE_STATUS.OVF, Reg.CAN_TXQ.FILL,
        Reg.CAN_TXQ.LATE])) s n) ∧
  (∀ (s : State) (k : Fin 4) (sf sn t : Nat) (m : CanMsg), (s.can k.val).attempt = some m → s.rd Reg.CAN_CTRL.MODE k.val = 2 →
    ∃ n, exec (.canTxComplete k sf sn t) s = .next n ∧ n.canMsgs k.val = dropFirst m (s.canMsgs k.val) ∧
      (∀ a b c d e f, Out.can k.val a b c d e f ∉ n.out.drop s.out.length) ∧
      Effect [.time, .faults, .host, .fr, .canQueues, .cans, .out] (some (movesTime ++ movesIrq ++ movesFault ++ movesCanEntry ++
        [Reg.CAN_ERRCNT.TEC, Reg.CAN_EVENT.EVENTS, Reg.CAN_RX_STATUS.DROPPED, Reg.CAN_RX_STATUS.OVF, Reg.CAN_RX_STATUS.OWNED,
        Reg.CAN_STATUS.STATE, Reg.CAN_STATUS.WARNING, Reg.CAN_TXE_STATUS.COUNT, Reg.CAN_TXE_STATUS.OVF, Reg.CAN_TXQ.FILL,
        Reg.CAN_TXQ.LATE])) s n) ∧
  (∀ (s : State) (k : Fin 4) (sf sn t : Nat), (s.can k.val).attempt = none →
    ∃ n, exec (.canTxComplete k sf sn t) s = .next n ∧ Effect [.time, .host, .fr, .out] (some (movesTime ++ movesIrq)) s n) ∧
  (∀ (s : State) (k : Fin 4) (pen t : Nat) (m : CanMsg), (s.can k.val).attempt = some m → (s.can k.val).flushed = false →
    ∃ n, exec (.canTxAttemptFail k true pen t) s = .next n ∧ n.canQueues = s.canQueues ∧
      (n.can k.val).attempt = (if s.canSends k.val then (s.can k.val).offer else none) ∧
      n.rd Reg.CAN_ERRCNT.TEC k.val = s.rd Reg.CAN_ERRCNT.TEC k.val ∧ n.rd Reg.CAN_STATUS.STATE k.val = s.rd Reg.CAN_STATUS.STATE k.val) ∧
  (∀ (s : State) (k : Fin 4) (pen t : Nat) (m : CanMsg), (s.can k.val).attempt = some m → (s.can k.val).flushed = false →
    s.rd Reg.CAN_ERRCNT.TEC k.val + pen ≤ 255 →
    ∃ n, exec (.canTxAttemptFail k false pen t) s = .next n ∧ n.canQueues = s.canQueues ∧
      n.rd Reg.CAN_ERRCNT.TEC k.val = s.rd Reg.CAN_ERRCNT.TEC k.val + pen ∧
      (s.rd Reg.CAN_STATUS.STATE k.val = 1 → 128 ≤ s.rd Reg.CAN_ERRCNT.TEC k.val + pen → n.rd Reg.CAN_STATUS.STATE k.val = 2) ∧
      (96 ≤ s.rd Reg.CAN_ERRCNT.TEC k.val + pen → n.rd Reg.CAN_STATUS.WARNING k.val = 1)) ∧
  (∀ (s : State) (k : Fin 4) (pen t : Nat) (m : CanMsg), (s.can k.val).attempt = some m → (s.can k.val).flushed = false →
    255 < s.rd Reg.CAN_ERRCNT.TEC k.val + pen → s.mayRaise = true →
    ∃ n, exec (.canTxAttemptFail k false pen t) s = .next n ∧ n.canQueues = s.canQueues ∧ (n.can k.val).attempt = none ∧
      n.rd Reg.CAN_STATUS.STATE k.val = 3 ∧ n.rd Reg.CAN_ERRCNT.BUSOFF k.val = min 255 (s.rd Reg.CAN_ERRCNT.BUSOFF k.val + 1) ∧
      n.rd Reg.CAN_STATUS.RECOVERING k.val = s.rd Reg.CAN_CTRL.AUTO_RECOVER k.val % 2 ∧
      hasBit (n.rd Reg.CAN_EVENT.EVENTS k.val) 4 = true ∧ raises (s.elapse t) n 39 k.val ∧
      Effect [.time, .faults, .host, .fr, .canQueues, .cans, .out] (some (movesTime ++ movesIrq ++ movesFault ++ [Reg.CAN_ERRCNT.BUSOFF,
        Reg.CAN_ERRCNT.TEC, Reg.CAN_EVENT.EVENTS, Reg.CAN_STATUS.RECOVERING, Reg.CAN_STATUS.STATE, Reg.CAN_STATUS.WARNING,
        Reg.CAN_TXQ.FILL])) s n) ∧
  (∀ (s : State) (k : Fin 4) (t : Nat),
    ∃ n, exec (.canRecover k t) s = .next n ∧
      n.rd Reg.CAN_STATUS.RECOVERING k.val = (if s.rd Reg.CAN_STATUS.STATE k.val = 3 then 1 else s.rd Reg.CAN_STATUS.RECOVERING k.val) ∧
      Effect [.time, .host, .fr, .out] (some (movesTime ++ movesIrq ++ [Reg.CAN_STATUS.RECOVERING])) s n) ∧
  (∀ (s : State) (k : Fin 4) (t : Nat), s.rd Reg.CAN_STATUS.STATE k.val = 3 → s.on Reg.CAN_STATUS.RECOVERING k.val = true →
    ∃ n, exec (.canRecoveryDone k t) s = .next n ∧ n.rd Reg.CAN_STATUS.STATE k.val = 1 ∧ n.rd Reg.CAN_STATUS.RECOVERING k.val = 0 ∧
      n.rd Reg.CAN_ERRCNT.TEC k.val = 0 ∧ n.rd Reg.CAN_ERRCNT.REC k.val = 0 ∧ n.rd Reg.CAN_STATUS.WARNING k.val = 0 ∧
      hasBit (n.rd Reg.CAN_EVENT.EVENTS k.val) 5 = true ∧
      Effect [.time, .host, .fr, .out] (some (movesTime ++ movesIrq ++ [Reg.CAN_ERRCNT.REC, Reg.CAN_ERRCNT.TEC, Reg.CAN_EVENT.EVENTS,
        Reg.CAN_STATUS.RECOVERING, Reg.CAN_STATUS.STATE, Reg.CAN_STATUS.WARNING])) s n) ∧
  (∀ (s : State) (k : Fin 4) (am t : Nat), (s.rd Reg.CAN_CTRL.MODE k.val = 1 ∨ s.rd Reg.CAN_CTRL.MODE k.val = 3) →
    (s.rd Reg.CAN_STATUS.STATE k.val = 1 ∨ s.rd Reg.CAN_STATUS.STATE k.val = 2) →
    ∃ n, exec (.canRxError k am t) s = .next n ∧ n.rd Reg.CAN_ERRCNT.REC k.val = min 255 (s.rd Reg.CAN_ERRCNT.REC k.val + am) ∧
      (96 ≤ s.rd Reg.CAN_ERRCNT.REC k.val + am → n.rd Reg.CAN_STATUS.WARNING k.val = 1) ∧
      (128 ≤ s.rd Reg.CAN_ERRCNT.REC k.val + am → n.rd Reg.CAN_STATUS.STATE k.val = 2) ∧
      Effect [.time, .host, .fr, .out] (some (movesTime ++ movesIrq ++ [Reg.CAN_ERRCNT.REC, Reg.CAN_EVENT.EVENTS, Reg.CAN_STATUS.STATE,
        Reg.CAN_STATUS.WARNING])) s n) ∧
  (∀ (s : State) (k : Fin 4) (am t : Nat), (s.rd Reg.CAN_CTRL.MODE k.val = 0 ∨ s.rd Reg.CAN_CTRL.MODE k.val = 2 ∨
      s.rd Reg.CAN_CTRL.MODE k.val = 4 ∨ s.rd Reg.CAN_STATUS.STATE k.val = 0 ∨ s.rd Reg.CAN_STATUS.STATE k.val = 3) →
    ∃ n, exec (.canRxError k am t) s = .next n ∧ Effect [.time, .host, .fr, .out] (some (movesTime ++ movesIrq)) s n)

/-- Reception and what software takes away (R335, R338): with no filter enabled and an entry free a message goes into the next entry in
ring order, which software owns; with 64 owned it is dropped with DROPPED and OVF; one that no enabled filter matches leaves every entry
alone. Acknowledging the oldest entry releases it, any other index does nothing. A read of CAN_TXE0 takes the oldest transmit record. -/
def Obligations.CanReceivesAndSoftwareReleases : Prop :=
  (∀ (s : State) (k : Fin 4) (id fl : Nat) (dlc : Fin 16) (d : List Byte) (sf sn t : Nat) (c : CanCfg),
    (s.rd Reg.CAN_CTRL.MODE k.val = 1 ∨ s.rd Reg.CAN_CTRL.MODE k.val = 3 ∨ s.rd Reg.CAN_CTRL.MODE k.val = 4) →
    (s.rd Reg.CAN_STATUS.STATE k.val = 1 ∨ s.rd Reg.CAN_STATUS.STATE k.val = 2) → s.canCfg k.val = some c →
    (∀ f ∈ c.filters, hasBit f.1 30 = false) → s.rd Reg.CAN_RX_STATUS.OWNED k.val < 64 → (s.can k.val).rxTail < 64 → id < 2 ^ 29 →
    ∃ n, exec (.canRxMessage k id fl dlc d sf sn t) s = .next n ∧
      n.rd Reg.CAN_RX_ID.ID k.val (s.can k.val).rxTail = id ∧ n.rd Reg.CAN_RX_ID.VALID k.val (s.can k.val).rxTail = 1 ∧
      n.rd Reg.CAN_RX_ID.RTR k.val (s.can k.val).rxTail = bitOf fl 0 ∧ n.rd Reg.CAN_RX_ID.IDE k.val (s.can k.val).rxTail = bitOf fl 1 ∧
      n.rd Reg.CAN_RX_INFO.DLC k.val (s.can k.val).rxTail = dlc.val ∧ n.rd Reg.CAN_RX_INFO.LOOP k.val (s.can k.val).rxTail = 0 ∧
      n.rd Reg.CAN_RX_INFO.UNFILTERED k.val (s.can k.val).rxTail = 1 ∧ n.rd Reg.CAN_RX_INFO.FILTER k.val (s.can k.val).rxTail = 0 ∧
      n.rd Reg.CAN_RX_FRAME.FRAME k.val (s.can k.val).rxTail = sf % 2 ^ 32 ∧
      n.rd Reg.CAN_RX_STATUS.OWNED k.val = s.rd Reg.CAN_RX_STATUS.OWNED k.val + 1 ∧
      (n.can k.val).rxTail = ((s.can k.val).rxTail + 1) % 64 ∧ hasBit (n.rd Reg.CAN_EVENT.EVENTS k.val) 0 = true ∧
      Effect [.time, .host, .fr, .cans, .out, .drawn] (some (movesTime ++ movesIrq ++ movesCanEntry ++ [Reg.CAN_ERRCNT.REC,
        Reg.CAN_EVENT.EVENTS, Reg.CAN_RX_STATUS.DROPPED, Reg.CAN_RX_STATUS.OVF, Reg.CAN_RX_STATUS.OWNED, Reg.CAN_STATUS.STATE,
        Reg.CAN_STATUS.WARNING])) s n) ∧
  (∀ (s : State) (k : Fin 4) (id fl : Nat) (dlc : Fin 16) (d : List Byte) (sf sn t : Nat) (c : CanCfg),
    (s.rd Reg.CAN_CTRL.MODE k.val = 1 ∨ s.rd Reg.CAN_CTRL.MODE k.val = 3 ∨ s.rd Reg.CAN_CTRL.MODE k.val = 4) →
    (s.rd Reg.CAN_STATUS.STATE k.val = 1 ∨ s.rd Reg.CAN_STATUS.STATE k.val = 2) → s.canCfg k.val = some c →
    (∀ f ∈ c.filters, hasBit f.1 30 = false) → 64 ≤ s.rd Reg.CAN_RX_STATUS.OWNED k.val →
    ∃ n, exec (.canRxMessage k id fl dlc d sf sn t) s = .next n ∧
      n.rd Reg.CAN_RX_STATUS.DROPPED k.val = min 65535 (s.rd Reg.CAN_RX_STATUS.DROPPED k.val + 1) ∧
      n.rd Reg.CAN_RX_STATUS.OVF k.val = 1 ∧ n.rd Reg.CAN_RX_STATUS.OWNED k.val = s.rd Reg.CAN_RX_STATUS.OWNED k.val ∧
      (∀ i, n.rd Reg.CAN_RX_ID.ID k.val i = s.rd Reg.CAN_RX_ID.ID k.val i)) ∧
  (∀ (s : State) (k : Fin 4) (id fl : Nat) (dlc : Fin 16) (d : List Byte) (sf sn t : Nat) (c : CanCfg), s.canCfg k.val = some c →
    (∃ f ∈ c.filters, hasBit f.1 30 = true) →
    (∀ f ∈ c.filters, hasBit f.1 30 = true → (hasBit f.1 31 = hasBit fl 1) → ((id ^^^ f.1) &&& f.2) % 2 ^ 29 ≠ 0) →
    ∃ n, exec (.canRxMessage k id fl dlc d sf sn t) s = .next n ∧ n.cans = s.cans ∧
      n.rd Reg.CAN_RX_STATUS.OWNED k.val = s.rd Reg.CAN_RX_STATUS.OWNED k.val ∧
      n.rd Reg.CAN_RX_STATUS.DROPPED k.val = s.rd Reg.CAN_RX_STATUS.DROPPED k.val ∧
      (∀ i, n.rd Reg.CAN_RX_ID.ID k.val i = s.rd Reg.CAN_RX_ID.ID k.val i)) ∧
  (∀ (s : State) (k : Fin 4) (i : Nat), s.rd Reg.CAN_RX_STATUS.OWNED k.val ≠ 0 → s.rd Reg.CAN_RX_STATUS.OWNED k.val ≤ 64 →
    s.rd Reg.CAN_RX_STATUS.HEAD k.val = i → i < 64 →
    ∃ n, exec (.canRxAck k i) s = .next n ∧ n.rd Reg.CAN_RX_STATUS.OWNED k.val = s.rd Reg.CAN_RX_STATUS.OWNED k.val - 1 ∧
      n.rd Reg.CAN_RX_STATUS.HEAD k.val = (i + 1) % 64 ∧ n.rd Reg.CAN_RX_ID.VALID k.val i = 0 ∧
      Effect [.host, .out] (some (movesIrq ++ movesCanEntry ++ [Reg.CAN_RX_STATUS.HEAD, Reg.CAN_RX_STATUS.OWNED])) s n) ∧
  (∀ (s : State) (k : Fin 4) (i : Nat), (s.rd Reg.CAN_RX_STATUS.OWNED k.val = 0 ∨ i % 64 ≠ s.rd Reg.CAN_RX_STATUS.HEAD k.val) →
    ∃ n, exec (.canRxAck k i) s = .next n ∧ Effect [.host, .out] (some movesIrq) s n) ∧
  (∀ (s : State) (k : Fin 4) (r : CanRecord) (l : List CanRecord), (s.can k.val).records = r :: l → r.source < 16 → r.buffer < 32 →
    r.seq < 2 ^ 32 → r.frame < 2 ^ 32 → l.length < 32 →
    ∃ n, exec (.canTxeRead k) s = .next n ∧ (n.can k.val).records = l ∧
      n.rd Reg.CAN_TXE0.RECORD k.val = r.source + 16 * b01 r.late + 256 * r.buffer + 2 ^ 31 ∧ n.rd Reg.CAN_TXE1.RECORD k.val = r.seq ∧
      n.rd Reg.CAN_TXE2.RECORD k.val = r.frame ∧ n.rd Reg.CAN_TXE_STATUS.COUNT k.val = l.length ∧
      Effect [.host, .cans, .out] (some (movesIrq ++ [Reg.CAN_TXE0.RECORD, Reg.CAN_TXE1.RECORD, Reg.CAN_TXE2.RECORD,
        Reg.CAN_TXE_STATUS.COUNT])) s n)

/-- The event at the front of the collector (R361, R364 to R366): its status bit and its class counter; a contained one also the contained
state and the quiet timer; a fatal one the fatal state, FAULT_N low, ALIVE stopped, the first fatal record where none is held, and the
referee, where it runs, in LOST. With nothing waiting the collector does nothing. -/
def Obligations.CollectorActsByTheClassOfAnEvent : Prop :=
  (∀ (s : State) (t : Nat) (e : FaultEvt) (r : List FaultEvt), s.faults.waiting = e :: r → e.pos < 8 →
    ∃ n, exec (.collectorEvent t) s = .next n ∧ n.faults.waiting = r ∧ hasBit (n.rd Reg.COLLECT_STATUS_LO.STATUS) e.pos = true ∧
      n.rd Reg.FAULT_COUNT_CORR.COUNT = min 4294967295 (s.rd Reg.FAULT_COUNT_CORR.COUNT + 1) ∧ n.rd Reg.FAULT_EVENT.CORRECTED = 1 ∧
      (∀ f ∈ [Reg.FAULT_STATE.CONTAINED, Reg.FAULT_STATE.FATAL, Reg.FAULT_STATE.FAULT_N, Reg.FAULT_STATE.ALIVE_RUN,
        Reg.FAULT_COUNT_CONT.COUNT, Reg.FAULT_COUNT_FATAL.COUNT, Reg.REF_STATUS.STATE], n.rd f = s.rd f) ∧
      n.faults.quietEnd = s.faults.quietEnd) ∧
  (∀ (s : State) (t : Nat) (e : FaultEvt) (r : List FaultEvt), s.faults.waiting = e :: r → 8 ≤ e.pos → e.pos < 56 →
    ∃ n, exec (.collectorEvent t) s = .next n ∧ n.faults.waiting = r ∧
      hasBit (n.rd (if e.pos < 32 then Reg.COLLECT_STATUS_LO.STATUS else Reg.COLLECT_STATUS_HI.STATUS)) (e.pos % 32) = true ∧
      n.rd Reg.FAULT_COUNT_CONT.COUNT = min 4294967295 (s.rd Reg.FAULT_COUNT_CONT.COUNT + 1) ∧ n.rd Reg.FAULT_EVENT.CONTAINED = 1 ∧
      n.rd Reg.FAULT_STATE.CONTAINED = 1 ∧ n.faults.quietEnd = (s.elapse t).time.ns + s.rd Reg.FAULT_QUIET.QUIET_MS * 1000000 ∧
      (∀ f ∈ [Reg.FAULT_STATE.FATAL, Reg.FAULT_STATE.FAULT_N, Reg.FAULT_STATE.ALIVE_RUN, Reg.FAULT_COUNT_CORR.COUNT,
        Reg.FAULT_COUNT_FATAL.COUNT, Reg.REF_STATUS.STATE], n.rd f = s.rd f)) ∧
  (∀ (s : State) (t : Nat) (e : FaultEvt) (r : List FaultEvt), s.faults.waiting = e :: r → 56 ≤ e.pos → e.pos < 64 →
    ∃ n, exec (.collectorEvent t) s = .next n ∧ hasBit (n.rd Reg.COLLECT_STATUS_HI.STATUS) (e.pos - 32) = true ∧
      n.rd Reg.FAULT_STATE.FATAL = 1 ∧ n.rd Reg.FAULT_STATE.FAULT_N = 0 ∧ n.rd Reg.FAULT_STATE.ALIVE_RUN = 0 ∧ n.faults.alive = false ∧
      (s.rd Reg.FAULT_FIRST_FATAL.VALID = 0 → n.rd Reg.FAULT_FIRST_FATAL.VALID = 1 ∧ n.rd Reg.FAULT_FIRST_FATAL.BIT = e.pos ∧
        n.rd Reg.FAULT_FIRST_FATAL.DETAIL = e.detail % 65536 ∧ n.rd Reg.FAULT_FIRST_FRAME.VALUE = e.frame % 4294967296) ∧
      (s.rd Reg.FAULT_FIRST_FATAL.VALID ≠ 0 → n.rd Reg.FAULT_FIRST_FATAL.BIT = s.rd Reg.FAULT_FIRST_FATAL.BIT) ∧
      (s.power.held = false → s.referee.broken = false → s.refState ≠ rsLost →
        n.refState = rsLost ∧ n.referee.ball = false ∧ n.rd Reg.REF_STATUS.LEASE = 0) ∧
      Effect [.time, .power, .faults, .host, .fr, .cells, .arms, .engs, .convs, .referee, .out] (some (movesTime ++ movesIrq ++
        movesFault ++ [Reg.ARM_PTR.PTR, Reg.CONV_COUNT.BLOCKS, Reg.CONV_EVENT.BLOCK, Reg.CONV_EVENT.COAST_LIMIT,
        Reg.CONV_EVENT.RESYNC_FAIL, Reg.CONV_EVENT_SRC.CONV, Reg.CONV_RESIDUAL.E, Reg.CONV_STATE.CAUSE, Reg.CONV_STATE.SLEWING,
        Reg.CONV_STATE.STATE, Reg.CONV_STATE_FRAME.FRAME, Reg.DOMAIN_STATE.PLANE_A, Reg.DOMAIN_STATE.PLANE_B, Reg.ENG_EXPORT.VALUE,
        Reg.ENG_STATUS.BALL, Reg.ENG_STATUS.COLD, Reg.ENG_STATUS.SHADOW, Reg.FAULT_FIRST_FATAL.BIT, Reg.FAULT_FIRST_FATAL.DETAIL,
        Reg.FAULT_FIRST_FATAL.FRAME_VALID, Reg.FAULT_FIRST_FATAL.VALID, Reg.FAULT_FIRST_FRAME.VALUE, Reg.FAULT_FIRST_NS_HI.VALUE,
        Reg.FAULT_FIRST_NS_LO.VALUE, Reg.FAULT_HIST_FRAME.VALUE, Reg.FAULT_HIST_INFO.VALUE, Reg.FAULT_HIST_NS_HI.VALUE,
        Reg.FAULT_HIST_NS_LO.VALUE, Reg.FAULT_HIST_STATUS.FILLED, Reg.FAULT_HIST_STATUS.NEWEST, Reg.FAULT_STATE.ALIVE_RUN,
        Reg.FAULT_STATE.CONTAINED, Reg.FAULT_STATE.FATAL, Reg.FAULT_STATE.FAULT_N, Reg.POWER_PGOOD.PGOOD, Reg.REF_EVENT.UNFIT,
        Reg.REF_STATUS.LEASE, Reg.REF_STATUS.ROLE_A, Reg.REF_STATUS.ROLE_B, Reg.REF_STATUS.STATE])) s n) ∧
  (∀ (s : State) (t : Nat), s.faults.waiting = [] →
    ∃ n, exec (.collectorEvent t) s = .next n ∧ Effect [.time, .host, .fr, .out] (some (movesTime ++ movesIrq)) s n)

/-- The history (R363): an event merges into an existing entry, and increments that entry's REPEAT, when an entry with the same bit and
the same frame_no exists and FRAME_VALID = 1; otherwise it writes a new entry. -/
def Obligations.HistoryMergesSameBitAndFrame : Prop :=
  (∀ (s : State) (t : Nat) (e : FaultEvt) (r : List FaultEvt) (k : Fin 16), s.faults.waiting = e :: r → 8 ≤ e.pos → e.pos < 56 →
    e.frameValid = true → s.histMatch e = some k.val →
    ∃ n, exec (.collectorEvent t) s = .next n ∧ s.rd Reg.FAULT_HIST_FRAME.VALUE k.val = e.frame ∧ s.histInfo k.val 0 = sourceByte e.pos ∧
      bitsOf (n.rd Reg.FAULT_HIST_INFO.VALUE k.val) 9 7 = min 127 (bitsOf (s.rd Reg.FAULT_HIST_INFO.VALUE k.val) 9 7 + 1) ∧
      bitsOf (n.rd Reg.FAULT_HIST_INFO.VALUE k.val) 0 9 = bitsOf (s.rd Reg.FAULT_HIST_INFO.VALUE k.val) 0 9 ∧
      bitsOf (n.rd Reg.FAULT_HIST_INFO.VALUE k.val) 16 16 = bitsOf (s.rd Reg.FAULT_HIST_INFO.VALUE k.val) 16 16 ∧
      keepsOthers Reg.FAULT_HIST_INFO.VALUE k.val s n ∧ n.rd Reg.FAULT_HIST_STATUS.NEWEST = s.rd Reg.FAULT_HIST_STATUS.NEWEST ∧
      n.rd Reg.FAULT_HIST_STATUS.FILLED = s.rd Reg.FAULT_HIST_STATUS.FILLED ∧
      (∀ j, n.rd Reg.FAULT_HIST_FRAME.VALUE j = s.rd Reg.FAULT_HIST_FRAME.VALUE j)) ∧
  (∀ (s : State) (t : Nat) (e : FaultEvt) (r : List FaultEvt) (p : Nat), s.faults.waiting = e :: r → 8 ≤ e.pos → e.pos < 56 →
    s.histMatch e = none → p = (if s.rd Reg.FAULT_HIST_STATUS.FILLED = 0 then 0 else (s.rd Reg.FAULT_HIST_STATUS.NEWEST + 1) % 16) →
    ∃ n, exec (.collectorEvent t) s = .next n ∧ n.rd Reg.FAULT_HIST_STATUS.NEWEST = p ∧
      n.rd Reg.FAULT_HIST_STATUS.FILLED = min 16 (s.rd Reg.FAULT_HIST_STATUS.FILLED + 1) ∧
      n.rd Reg.FAULT_HIST_FRAME.VALUE p = e.frame % 4294967296 ∧ n.rd Reg.FAULT_HIST_NS_LO.VALUE p = e.ns % 4294967296 ∧
      n.rd Reg.FAULT_HIST_NS_HI.VALUE p = e.ns / 4294967296 % 4294967296 ∧
      n.rd Reg.FAULT_HIST_INFO.VALUE p = (e.pos + 64 + 256 * b01 e.frameValid + 65536 * e.detail) % 4294967296 ∧
      keepsOthers Reg.FAULT_HIST_INFO.VALUE p s n ∧ keepsOthers Reg.FAULT_HIST_FRAME.VALUE p s n)

/-- The contained state and ALIVE (R365, R369, R206): the contained state ends, counted, when the quiet timer has run out, not while a
fatal fault is in force; ALIVE toggles only while it runs and the copies of the referee agree; copies that disagree take the ball, stop
ALIVE and raise REFEREE. -/
def Obligations.QuietTimeEndsContainmentAndAliveToggles : Prop :=
  (∀ (s : State) (t : Nat), s.rd Reg.FAULT_STATE.CONTAINED ≠ 0 → s.rd Reg.FAULT_STATE.FATAL = 0 →
    s.faults.quietEnd ≤ (s.elapse t).time.ns →
    ∃ n, exec (.quietTimeout t) s = .next n ∧ n.rd Reg.FAULT_STATE.CONTAINED = 0 ∧ n.rd Reg.FAULT_EVENT.RECOVERED = 1 ∧
      n.rd Reg.RECOVERY_COUNT.COUNT = min 4294967295 (s.rd Reg.RECOVERY_COUNT.COUNT + 1) ∧
      Effect [.time, .host, .fr, .out] (some (movesTime ++ movesIrq ++ [Reg.FAULT_EVENT.RECOVERED, Reg.FAULT_STATE.CONTAINED,
        Reg.RECOVERY_COUNT.COUNT])) s n) ∧
  (∀ (s : State) (t : Nat), (s.rd Reg.FAULT_STATE.CONTAINED = 0 ∨ s.rd Reg.FAULT_STATE.FATAL ≠ 0 ∨ (s.elapse t).time.ns < s.faults.quietEnd) →
    ∃ n, exec (.quietTimeout t) s = .next n ∧ Effect [.time, .host, .fr, .out] (some (movesTime ++ movesIrq)) s n) ∧
  (∀ (s : State) (t : Nat), s.rd Reg.FAULT_STATE.ALIVE_RUN ≠ 0 → s.referee.broken = false →
    ∃ n, exec (.aliveToggle t) s = .next n ∧ n.faults = { s.faults with alive := !s.faults.alive, aliveNext := none } ∧
      n.rd Reg.ALIVE_CFG.HZ = (match s.faults.aliveNext with | some hz => hz % 16384 | none => s.rd Reg.ALIVE_CFG.HZ) ∧
      Effect [.time, .faults, .host, .fr, .out] (some (movesTime ++ movesIrq ++ [Reg.ALIVE_CFG.HZ])) s n) ∧
  (∀ (s : State) (t : Nat), (s.rd Reg.FAULT_STATE.ALIVE_RUN = 0 ∨ s.referee.broken = true) →
    ∃ n, exec (.aliveToggle t) s = .next n ∧ n.faults = s.faults) ∧
  (∀ (s : State) (t : Nat),
    ∃ n, exec (.refereeMismatch t) s = .next n ∧ n.referee.broken = true ∧ n.referee.ball = false ∧ n.faults.alive = false ∧
      n.rd Reg.FAULT_STATE.ALIVE_RUN = 0 ∧ (∀ e, e < 16 → n.rd Reg.ENG_STATUS.BALL e = 0) ∧
      raises (s.elapse t) n 58 0 ∧
      Effect [.time, .faults, .host, .fr, .referee, .out] (some (movesTime ++ movesIrq ++ movesFault ++ [Reg.ENG_STATUS.BALL,
        Reg.FAULT_STATE.ALIVE_RUN])) s n)

/-- Errors in memories and DRAM, and the clearing commands (R24, R28, R225, Table 00-6): a corrected error raises SRAM_ECC or DRAM_ECC and
changes no behaviour; an uncorrectable one raises what Table 17-1 names, fails its slice, or marks its checkpoint half; DRAM that fails is
no longer active. Each action command that clears leaves zeros in what it clears, and every other register as it was. -/
def Obligations.MemoryErrorsRaiseAndClearsLeaveZeros : Prop :=
  (∀ (s : State) (i r t : Nat), s.power.supplied = true → s.power.held = false → s.mayRaise = true →
    (∃ n, exec (.memoryEccError 7 i false r t) s = .next n ∧ raises (s.elapse t) n 1 0 ∧
      Effect [.time, .faults, .host, .fr, .out] (some (movesTime ++ movesIrq)) s n) ∧
    (∃ n, exec (.memoryEccError 1 i false r t) s = .next n ∧ raises (s.elapse t) n 0 1 ∧
      Effect [.time, .faults, .host, .fr, .out] (some (movesTime ++ movesIrq)) s n) ∧
    (∃ n, exec (.memoryEccError 2 i false r t) s = .next n ∧ raises (s.elapse t) n 0 2) ∧
    (∃ n, exec (.memoryEccError 3 i false r t) s = .next n ∧
      n.faults.waiting = insertEvt { (s.elapse t).evt 0 3 with bridged := false } s.faults.waiting) ∧
    (∃ n, exec (.memoryEccError 0 i false r t) s = .next n ∧ raises (s.elapse t) n 0 0 ∧
      n.rd Reg.ENG_ECC.CORRECTED (i % 16) = min 65535 (s.rd Reg.ENG_ECC.CORRECTED (i % 16) + 1) ∧
      keepsOthers Reg.ENG_ECC.CORRECTED (i % 16) s n ∧ n.rd Reg.ENG_EVENT.ECC (i % 16) = 1) ∧
    (∃ n, exec (.memoryEccError 7 i true r t) s = .next n ∧ raises (s.elapse t) n 26 0) ∧
    (∃ n, exec (.memoryEccError 6 i true r t) s = .next n ∧ raises (s.elapse t) n 61 0 ∧
      Effect [.time, .faults, .host, .fr, .out] (some (movesTime ++ movesIrq)) s n) ∧
    (∃ n, exec (.memoryEccError 5 i true r t) s = .next n ∧ (n.half (i % 2)).ecc = true ∧ n.half (1 - i % 2) = s.half (1 - i % 2) ∧
      n.faults = s.faults)) ∧
  (∀ (s : State) (k : Fin 8) (i r t : Nat) (u : Bool), s.power.supplied = false →
    ∃ n, exec (.memoryEccError k i u r t) s = .next n ∧ Effect [.time, .host, .fr, .out] (some (movesTime ++ movesIrq)) s n) ∧
  (∀ (s : State) (t : Nat), s.power.held = false → s.load.dram = true → s.loadRuns = false → s.mayRaise = true →
    ∃ n, exec (.dramFailure t) s = .next n ∧ n.load.dram = false ∧ n.rd Reg.DOMAIN_STATE.DRAM_ACTIVE = 0 ∧
      n.rd Reg.FRAME_STATUS.RUNNING = s.rd Reg.FRAME_STATUS.RUNNING ∧ n.rd Reg.REF_STATUS.STATE = s.rd Reg.REF_STATUS.STATE ∧
      raises (s.elapse t) n 26 0 ∧
      Effect [.time, .power, .faults, .host, .load, .fr, .out] (some (movesTime ++ movesIrq ++ movesFault ++
        [Reg.DOMAIN_STATE.DRAM_ACTIVE, Reg.FRAME_STATUS.RUNNING, Reg.IMAGE_ERR_OFFSET.OFFSET, Reg.IMAGE_ERR_SECTION.INDEX,
        Reg.IMAGE_ERR_SECTION.TYPE, Reg.IMAGE_EVENT.DONE, Reg.IMAGE_STATUS.CODE, Reg.IMAGE_STATUS.STATE])) s n) ∧
  (∀ (s : State), ∃ n, exec .xbarWaitClear s = .next n ∧ n.rd Reg.XBAR_WAIT.ENG_MAX_WAIT = 0 ∧ n.rd Reg.XBAR_WAIT.HOST_MAX_WAIT = 0 ∧
      Effect [.host, .out] (some (movesIrq ++ [Reg.XBAR_WAIT.ENG_MAX_WAIT, Reg.XBAR_WAIT.HOST_MAX_WAIT])) s n) ∧
  (∀ (s : State), ∃ n, exec .frameClearOverrun s = .next n ∧ n.rd Reg.OVERRUN_COUNT.COMPUTE = 0 ∧ n.rd Reg.OVERRUN_COUNT.RANK = 0 ∧
    n.rd Reg.OVERRUN_LAST.FRAME = 0 ∧
    Effect [.host, .out] (some (movesIrq ++ [Reg.OVERRUN_COUNT.COMPUTE, Reg.OVERRUN_COUNT.RANK, Reg.OVERRUN_LAST.FRAME])) s n) ∧
  (∀ (s : State), ∃ n, exec .frameClearStale s = .next n ∧ n.rd Reg.STALE_COUNT.STALE = 0 ∧ n.rd Reg.STALE_COUNT.LATE = 0 ∧
    n.rd Reg.DUP_COUNT.DUP = 0 ∧ n.rd Reg.DUP_COUNT.OLD = 0 ∧
    Effect [.host, .out] (some (movesIrq ++ [Reg.DUP_COUNT.DUP, Reg.DUP_COUNT.OLD, Reg.STALE_COUNT.LATE, Reg.STALE_COUNT.STALE])) s n) ∧
  (∀ (s : State), ∃ n, exec .frameClearTracker s = .next n ∧ n.rd Reg.TRK_STATUS.CTRL_HIWATER = 0 ∧ n.rd Reg.TRK_BP_COUNT.FRAMES = 0 ∧
    n.rd Reg.TRK_TIMEOUT_COUNT.TIMEOUTS = 0 ∧
    Effect [.host, .out] (some (movesIrq ++ [Reg.TRK_BP_COUNT.FRAMES, Reg.TRK_STATUS.CTRL_HIWATER, Reg.TRK_TIMEOUT_COUNT.TIMEOUTS])) s n) ∧
  (∀ (s : State), ∃ n, exec .frameClearGaps s = .next n ∧ n.rd Reg.PLAN_BG_STATUS.GAPS = 0 ∧
    Effect [.host, .out] (some (movesIrq ++ [Reg.PLAN_BG_STATUS.GAPS])) s n) ∧
  (∀ (s : State) (k : Fin 96), ∃ n, exec (.laneClearCounts k) s = .next n ∧
    (∀ f ∈ [Reg.LANE_CRC32_ERR.TRAIN, Reg.LANE_CRC32_ERR.SLOT, Reg.LANE_CODE_ERR.POS, Reg.LANE_CODE_ERR.CODE, Reg.LANE_CODE_ERR.LOS,
      Reg.LANE_LATE.SLOTS, Reg.LANE_LATE.FRAMES], n.rd f k.val = 0 ∧ keepsOthers f k.val s n) ∧
    Effect [.host, .out] (some (movesIrq ++ [Reg.LANE_CODE_ERR.CODE, Reg.LANE_CODE_ERR.LOS, Reg.LANE_CODE_ERR.POS,
      Reg.LANE_CRC32_ERR.SLOT, Reg.LANE_CRC32_ERR.TRAIN, Reg.LANE_LATE.FRAMES, Reg.LANE_LATE.SLOTS])) s n) ∧
  (∀ (s : State) (k : Fin 128), ∃ n, exec (.armClearCounts k) s = .next n ∧
    (∀ f ∈ [Reg.ARM_DWELL.DEFERRED, Reg.ARM_DWELL.MOVED, Reg.ARM_SHORT.FRAMES], n.rd f k.val = 0 ∧ keepsOthers f k.val s n) ∧
    Effect [.host, .out] (some (movesIrq ++ [Reg.ARM_DWELL.DEFERRED, Reg.ARM_DWELL.MOVED, Reg.ARM_SHORT.FRAMES])) s n) ∧
  (∀ (s : State) (u : Fin 4), s.hasUnit u.val = true → ∃ n, exec (.drvClearCounts u) s = .next n ∧ n.rd Reg.DRV_TRIP.COUNT u.val = 0 ∧
    keepsOthers Reg.DRV_TRIP.COUNT u.val s n ∧
    (∀ f ∈ [Reg.DRV_LEG_COUNT.FULL_ON, Reg.DRV_LEG_COUNT.INTERLOCK, Reg.DRV_LEG_COUNT.SUPPRESSED], ∀ x, x < 4 → n.rd f u.val x = 0) ∧
    Effect [.host, .out] (some (movesIrq ++ [Reg.DRV_LEG_COUNT.FULL_ON, Reg.DRV_LEG_COUNT.INTERLOCK, Reg.DRV_LEG_COUNT.SUPPRESSED,
      Reg.DRV_TRIP.COUNT])) s n) ∧
  (∀ (s : State) (k : Fin 16), ∃ n, exec (.engClearCycles k) s = .next n ∧ n.rd Reg.ENG_CYCLES.MAX k.val = 0 ∧
    keepsOthers Reg.ENG_CYCLES.MAX k.val s n ∧
    Effect [.host, .out] (some (movesIrq ++ [Reg.ENG_CYCLES.MAX])) s n) ∧
  (∀ (s : State) (k : Fin 16), ∃ n, exec (.engClearEcc k) s = .next n ∧ n.rd Reg.ENG_ECC.CORRECTED k.val = 0 ∧
    keepsOthers Reg.ENG_ECC.CORRECTED k.val s n ∧
    Effect [.host, .out] (some (movesIrq ++ [Reg.ENG_ECC.CORRECTED])) s n) ∧
  (∀ (s : State), ∃ n, exec .powerClearVinMin s = .next n ∧ n.rd Reg.POWER_VIN.MIN = 65535 ∧
    Effect [.host, .out] (some (movesIrq ++ [Reg.POWER_VIN.MIN])) s n) ∧
  (∀ (s : State), ∃ n, exec .faultClearCounts s = .next n ∧ n.rd Reg.FAULT_COUNT_CORR.COUNT = 0 ∧ n.rd Reg.FAULT_COUNT_CONT.COUNT = 0 ∧
    n.rd Reg.FAULT_COUNT_FATAL.COUNT = 0 ∧ n.rd Reg.RECOVERY_COUNT.COUNT = 0 ∧
    Effect [.host, .out] (some (movesIrq ++ [Reg.FAULT_COUNT_CONT.COUNT, Reg.FAULT_COUNT_CORR.COUNT, Reg.FAULT_COUNT_FATAL.COUNT,
      Reg.RECOVERY_COUNT.COUNT])) s n) ∧
  (∀ (s : State), ∃ n, exec .faultClearHist s = .next n ∧ n.rd Reg.FAULT_HIST_STATUS.NEWEST = 0 ∧ n.rd Reg.FAULT_HIST_STATUS.FILLED = 0 ∧
    n.rd Reg.FAULT_HIST_STATUS.LOST = 0 ∧ (∀ k, k < 16 → n.rd Reg.FAULT_HIST_FRAME.VALUE k = 0 ∧ n.rd Reg.FAULT_HIST_INFO.VALUE k = 0) ∧
    Effect [.host, .out] (some (movesIrq ++ [Reg.FAULT_HIST_FRAME.VALUE, Reg.FAULT_HIST_INFO.VALUE, Reg.FAULT_HIST_NS_HI.VALUE,
      Reg.FAULT_HIST_NS_LO.VALUE, Reg.FAULT_HIST_STATUS.FILLED, Reg.FAULT_HIST_STATUS.LOST, Reg.FAULT_HIST_STATUS.NEWEST])) s n) ∧
  (∀ (s : State), ∃ n, exec .firstFatalClear s = .next n ∧ n.rd Reg.FAULT_FIRST_FATAL.VALID = 0 ∧ n.rd Reg.FAULT_FIRST_FATAL.BIT = 0 ∧
    n.rd Reg.FAULT_FIRST_FATAL.DETAIL = 0 ∧ n.rd Reg.FAULT_FIRST_FRAME.VALUE = 0 ∧ n.rd Reg.FAULT_FIRST_NS_LO.VALUE = 0 ∧
    n.rd Reg.FAULT_FIRST_NS_HI.VALUE = 0 ∧
    Effect [.host, .out] (some (movesIrq ++ [Reg.FAULT_FIRST_FATAL.BIT, Reg.FAULT_FIRST_FATAL.DETAIL, Reg.FAULT_FIRST_FATAL.FRAME_VALID,
      Reg.FAULT_FIRST_FATAL.VALID, Reg.FAULT_FIRST_FRAME.VALUE, Reg.FAULT_FIRST_NS_HI.VALUE, Reg.FAULT_FIRST_NS_LO.VALUE])) s n)

/-- What a POR and a DEV reset restore (R14, R221, R222, R302, R367, R370, R371, R378, Table 18-3). A POR restores every register that any
reset restores, and all else but fuses and silicon. RESET_N low for 1 µs, or FAULT_SOFT_RESET written with GO and its key, asserts a DEV
reset: every register that software can write and DEV restores is at its reset value, FAULT_N is low and ALIVE stopped. Where no tick of
RUN falls into the same keep-clock cycle, whose executions come first, the registers that only POR restores stay, but for what the reset
itself records, the journal, the checkpoint halves and the fuses stay, and kick-off waits at step 2. -/
def Obligations.ResetsRestoreWhatTheyName : Prop :=
  (∀ (s : State) (t : Nat) (b : Bool),
    ∃ n, exec (.supplyPor t b) s = .next n ∧ (∀ f i j, n.rd f i j = f.reset i) ∧ n.power.supplied = false ∧ n.power.held = true ∧
      n.power.resetSrc = b01 b ∧ n.journal = State.reset.journal ∧ n.canQueues = [] ∧ n.fuses = s.fuses ∧ n.silicon = s.silicon ∧
      n.faults = State.reset.faults ∧ n.referee = State.reset.referee ∧ n.images = [] ∧
      n.time.ns = (s.elapse t).time.ns) ∧
  (∀ (s : State) (t : Nat) (e : Fin 16) (c : Instr),
    ((c = .resetNAssert t e ∧ s.power.supplied = true) ∨ (c = .softReset 0x5D0F0001 t e ∧ s.power.held = false)) →
    ∃ n, exec c s = .next n ∧ (∀ r ∈ Reg.table, ∀ f ∈ r, f.dom = .dev → f.acc ≠ .ro → ∀ i j, n.rd f i j = f.reset i) ∧
      n.rd Reg.FAULT_STATE.FAULT_N = 0 ∧ n.rd Reg.FAULT_STATE.ALIVE_RUN = 0 ∧ n.rd Reg.FAULT_STATE.CONTAINED = 0 ∧
      n.rd Reg.REF_STATUS.STATE = rsSetup ∧ n.power.held = true ∧ n.power.bridge = false ∧ n.safety.b.diag = 0 ∧ n.host.irqN = false) ∧
  (∀ (s : State) (t : Nat) (e : Fin 16) (c : Instr), s.power.held = false → s.faults.waiting = [] → s.device ≠ stKeepOnly →
    (s.elapse t).tickInCycle = false →
    ((c = .resetNAssert t e ∧ s.power.supplied = true) ∨ c = .softReset 0x5D0F0001 t e) →
    ∃ n, exec c s = .next n ∧
      (∀ r ∈ Reg.table, ∀ f ∈ r, f.dom = .por → f ∉ [Reg.RESET_CAUSE.CAUSE, Reg.RESET_CAUSE.COUNT, Reg.RESET_CAUSE.FATAL_BEFORE,
        Reg.CAN_TXQ.FILL, Reg.POWER_STATE.STATE, Reg.POWER_STATE.WAKE_TRIES] → ∀ i j, n.rd f i j = s.rd f i j) ∧
      n.rd Reg.RESET_CAUSE.FATAL_BEFORE = s.rd Reg.FAULT_STATE.FATAL % 2 ∧
      n.rd Reg.FAULT_STATE.FATAL = b01 (s.on Reg.THERMAL_STATUS.SHUT_LATCH) ∧
      n.device = stKickOff ∧ n.rd Reg.POWER_STATE.WAKE_TRIES = 0 ∧ n.journal = s.journal.afterReset ∧
      n.referee.half0 = s.referee.half0 ∧ n.referee.half1 = s.referee.half1 ∧ n.fuses = s.fuses ∧ n.silicon = s.silicon ∧
      n.images = s.images) ∧
  (∀ (s : State) (t : Nat) (e : Fin 16), s.power.supplied = true → s.power.held = false → s.device ≠ stKeepOnly →
    (s.elapse t).tickInCycle = false →
    ∃ n, exec (.resetNAssert t e) s = .next n ∧ n.power.step = 2 ∧ n.power.resetLowSince = some (s.elapse t).time.ns) ∧
  (∀ (s : State) (t : Nat) (e : Fin 16), s.power.held = false → (s.elapse t).tickInCycle = false →
    ∃ n, exec (.softReset 0x5D0F0001 t e) s = .next n ∧ n.rd Reg.RESET_CAUSE.CAUSE = 3 ∧
      n.rd Reg.RESET_CAUSE.COUNT = min 65535 (s.rd Reg.RESET_CAUSE.COUNT + 1)) ∧
  (∀ (s : State) (v t : Nat) (e : Fin 16), (hasBit v 0 = false ∨ bitsOf v 16 16 ≠ 0x5D0F) →
    ∃ n, exec (.softReset v t e) s = .next n ∧ Effect [.time, .host, .fr, .out] (some (movesTime ++ movesIrq)) s n)

/-- The ends of the resets (R65, R370, R377, Table 03-1). The end of a POR latches its cause and leaves the device in KEEP-ONLY; the
release of RESET_N latches the cause and the low time in ms; the wake logic starts kick-off at step 2 from KEEP-ONLY once VIN has been
good for 100 ms and no thermal hold is left; at step 4 the DEV reset is released, the bridge opens, BOOT_SRC is sampled, FAULT_N goes high
and ALIVE runs. -/
def Obligations.ResetsEndAndKickOffBegins : Prop :=
  (∀ (s : State) (t : Nat) (r : Fin 4) (m : Option (List Byte)) (x : Nat), s.power.supplied = false →
    ∃ n, exec (.porRelease t r m x) s = .next n ∧ n.rd Reg.RESET_CAUSE.CAUSE = s.power.resetSrc % 8 ∧
      n.rd Reg.CLOCK_REF.REFSEL = min 2 r.val ∧ n.device = stKeepOnly ∧ n.rd Reg.FAULT_STATE.FAULT_N = 0 ∧
      n.rd Reg.FAULT_STATE.ALIVE_RUN = 0 ∧ n.power.supplied = true ∧ n.power.keepOnlyAt = (s.elapse t).time.ns ∧
      Effect [.time, .power, .host, .fr, .journal, .out] (some (movesTime ++ movesIrq ++ [Reg.BB_STATUS.TX_IDLE, Reg.CLOCK_REF.REFSEL,
        Reg.FAULT_STATE.ALIVE_RUN, Reg.FAULT_STATE.FAULT_N, Reg.JRN_ACCEPTED.COUNT, Reg.JRN_BUSY.OTHER, Reg.JRN_CPL_TAIL.INDEX,
        Reg.JRN_EPOCH.EPOCH, Reg.JRN_EVENT.NEW_EPOCH, Reg.JRN_EVENT.RESTORED, Reg.JRN_EXEC.COUNT, Reg.JRN_MRAM_CFG.DIV,
        Reg.JRN_MRAM_CFG.EN, Reg.JRN_MRAM_CFG.QUAD, Reg.JRN_RING_STATUS.PHASE, Reg.JRN_SRC_LAST.LAST, Reg.JRN_STATUS.EPOCH_CAUSE,
        Reg.JRN_STATUS.FILL, Reg.JRN_STATUS.MRAM_OK, Reg.POWER_STATE.STATE, Reg.RESET_CAUSE.CAUSE])) s n) ∧
  (∀ (s : State) (t : Nat) (r : Fin 4) (m : Option (List Byte)) (x : Nat), s.power.supplied = true →
    ∃ n, exec (.porRelease t r m x) s = .next n ∧ Effect [.time, .host, .fr, .out] (some (movesTime ++ movesIrq)) s n) ∧
  (∀ (s : State) (t a : Nat), s.power.supplied = true → s.power.resetLowSince = some a → s.power.fresh = false →
    ∃ n, exec (.resetNRelease t) s = .next n ∧ n.power.resetLowSince = none ∧ n.rd Reg.RESET_CAUSE.CAUSE = 2 ∧
      n.rd Reg.RESET_CAUSE.COUNT = min 65535 (s.rd Reg.RESET_CAUSE.COUNT + 1) ∧
      n.rd Reg.RESET_HELD_MS.MS = min 4294967295 (((s.elapse t).time.ns - a) / 1000000) ∧
      (s.power.step = 2 → s.power.dormantExit = false → vinRails.all (hasBit s.power.pgood) = true → n.power.step = 3) ∧
      Effect [.time, .power, .host, .fr, .out] (some (movesTime ++ movesIrq ++ [Reg.DOMAIN_STATE.ANALOG, Reg.DOMAIN_STATE.BB_PHY,
        Reg.DOMAIN_STATE.DRAM_ACTIVE, Reg.DOMAIN_STATE.DRAM_SR, Reg.DOMAIN_STATE.FABRIC, Reg.DOMAIN_STATE.LANE_PHY,
        Reg.RESET_CAUSE.CAUSE, Reg.RESET_CAUSE.COUNT, Reg.RESET_HELD_MS.MS])) s n) ∧
  (∀ (s : State) (t : Nat), s.power.resetLowSince = none →
    ∃ n, exec (.resetNRelease t) s = .next n ∧ Effect [.time, .host, .fr, .out] (some (movesTime ++ movesIrq)) s n) ∧
  (∀ (s : State) (t a : Nat), s.device = stKeepOnly → s.power.step = 0 → s.power.wakeFailed = false → s.power.goodSince = some a →
    a + 100000000 ≤ (s.elapse t).time.ns → s.rd Reg.THERMAL_STATUS.SHUT_LATCH = 0 →
    (s.power.thermalEntry = true → s.power.keepOnlyAt + clampN 10 3600 (s.rd Reg.THERMAL_REWAKE.SECONDS) * 1000000000 ≤ (s.elapse t).time.ns) →
    s.power.dormantExit = false →
    ∃ n, exec (.keepOnlyExit t) s = .next n ∧
      n.power.step = (if s.power.resetLowSince.isNone && vinRails.all (hasBit s.power.pgood) then 3 else 2) ∧ n.power.fresh = false ∧
      n.rd Reg.POWER_STATE.WAKE_TRIES = 0 ∧
      n.rd Reg.POWER_STATE.WAKE_SRC = (if s.power.fresh then 0 else if s.power.thermalEntry then 2 else 1) ∧
      n.rd Reg.RESET_CAUSE.CAUSE = (if s.power.fresh then s.rd Reg.RESET_CAUSE.CAUSE else 4) ∧
      Effect [.time, .power, .host, .fr, .out] (some (movesTime ++ movesIrq ++ [Reg.DOMAIN_STATE.ANALOG, Reg.DOMAIN_STATE.BB_PHY,
        Reg.DOMAIN_STATE.DRAM_ACTIVE, Reg.DOMAIN_STATE.DRAM_SR, Reg.DOMAIN_STATE.FABRIC, Reg.DOMAIN_STATE.LANE_PHY,
        Reg.POWER_PGOOD.PGOOD, Reg.POWER_STATE.WAKE_SRC, Reg.POWER_STATE.WAKE_TRIES, Reg.RESET_CAUSE.CAUSE, Reg.RESET_CAUSE.COUNT])) s n) ∧
  (∀ (s : State) (t : Nat), (s.device ≠ stKeepOnly ∨ s.power.step ≠ 0 ∨ s.power.goodSince = none ∨ s.rd Reg.THERMAL_STATUS.SHUT_LATCH ≠ 0) →
    ∃ n, exec (.keepOnlyExit t) s = .next n ∧ Effect [.time, .host, .fr, .out] (some (movesTime ++ movesIrq)) s n) ∧
  (∀ (s : State) (t : Nat) (b : Fin 4), s.power.held = true → s.power.step = 4 → s.power.resetLowSince = none →
    ∃ n, exec (.devResetRelease t b) s = .next n ∧ n.power.held = false ∧ n.power.bridge = true ∧ n.power.step = 5 ∧
      n.rd Reg.FAULT_STATE.FAULT_N = b01 (!s.on Reg.FAULT_STATE.FATAL) ∧
      n.rd Reg.FAULT_STATE.ALIVE_RUN = b01 (!s.on Reg.FAULT_STATE.FATAL) ∧ n.device = stKickOff ∧ n.rd Reg.IMAGE_BOOT.BOOT_SRC = b.val ∧
      n.load.sources = (if b.val = 0 ∨ b.val = 3 then [0, 1] else []) ∧ n.rd Reg.TIME_STATUS.SYNC = 0 ∧
      n.rd Reg.TIME_STATUS.RESTORED = b01 s.time.restarted ∧ n.time.restarted = true ∧
      (s.time.restarted = false → n.count = 0 ∧ n.time.sec = 0 ∧ n.time.sub = 0) ∧
      (s.time.restarted = true → n.count = max ((s.elapse t).time.ns - (s.elapse t).time.behind)
        ((s.elapse t).time.keepNow.keepNs + 1000)) ∧
      (∀ f ∈ [Reg.DOMAIN_STATE.FABRIC, Reg.DOMAIN_STATE.LANE_PHY, Reg.DOMAIN_STATE.BB_PHY, Reg.DOMAIN_STATE.ANALOG], n.rd f = 1) ∧
      Effect [.time, .power, .host, .load, .fr, .out] (some (movesTime ++ movesIrq ++ [Reg.DOMAIN_STATE.ANALOG, Reg.DOMAIN_STATE.BB_PHY,
        Reg.DOMAIN_STATE.FABRIC, Reg.DOMAIN_STATE.LANE_PHY, Reg.DRV_LEG_STATUS.UVLO, Reg.DRV_STATUS.VDRV_OK, Reg.FAULT_STATE.ALIVE_RUN,
        Reg.FAULT_STATE.FAULT_N, Reg.IMAGE_BOOT.BOOT_SRC, Reg.POWER_PGOOD.PGOOD, Reg.POWER_STATE.STATE, Reg.SAFE_FIRE.DRV_A,
        Reg.SAFE_FIRE.DRV_B, Reg.SAFE_FIRE.FIRE_A, Reg.SAFE_FIRE.FIRE_B, Reg.SAFE_GROUP.CAUSE, Reg.SAFE_GROUP.KIND, Reg.SAFE_GROUP.PAIRS,
        Reg.SAFE_GROUP.STATE, Reg.SAFE_GROUP.STOP, Reg.SAFE_PAIR.CH_A, Reg.SAFE_PAIR.CH_B, Reg.SAFE_PAIR.DEMAND, Reg.SAFE_PAIR.DEMANDS,
        Reg.SAFE_PAIR.FAULT_CAUSE, Reg.SAFE_PAIR.PAIR_FAULT, Reg.SAFE_RESET_STATUS.ARMED, Reg.SAFE_STATUS.A_OK, Reg.SAFE_STATUS.B_OK,
        Reg.SAFE_STATUS.DEMAND, Reg.SAFE_STATUS.DIAG, Reg.SAFE_STATUS.DIAG_A, Reg.SAFE_STATUS.DIAG_B, Reg.SAFE_STATUS.DIAG_CAUSE,
        Reg.SAFE_STATUS.LOCKED, Reg.SAFE_STATUS.RESET_PIN, Reg.SAFE_TPO.EN, Reg.SAFE_TPO.READBACK_FAULT, Reg.TIME_STATUS.RESTORED,
        Reg.TIME_STATUS.SYNC])) s n) ∧
  (∀ (s : State) (t : Nat) (b : Fin 4), (s.power.held = false ∨ s.power.step ≠ 4 ∨ s.power.resetLowSince.isSome = true) →
    ∃ n, exec (.devResetRelease t b) s = .next n ∧ Effect [.time, .host, .fr, .out] (some (movesTime ++ movesIrq)) s n)

/-- Rails, PLLs and wakes that fail (R65, R208, R380, R381, R383, R389): a rail that is switched on and reports PGOOD shows it; step 2 of
kick-off completes with the last VIN rail, and step 3 with the fourth lock. A PLL that loses lock raises CLOCK_UNLOCK in RUN, the loss of
PLL_SD clears SYNC and that of PLL_MEM takes DRAM; a PLL lost or relocking locks again with RELOCK, and one that does not stays gated and
raises WAKE_FAIL. The first three failures of a device wake retry it as a DEV reset with cause 4; the fourth leaves the device in KEEP-
ONLY with WAKE_FAIL raised. -/
def Obligations.KickOffClocksAndFailedWakes : Prop :=
  (∀ (s : State) (m : Fin 24) (t : Nat), s.power.supplied = true → s.power.held = true → s.power.step = 2 → vinRails.contains m.val = true →
    m.val ≠ 2 → m.val ≠ 3 → s.power.analogOff = false → s.power.bbOff = false → s.power.dormantExit = false →
    s.power.resetLowSince = none →
    ∃ n, exec (.railPgood m t) s = .next n ∧ n.power.pgood = setBit s.power.pgood m.val ∧
      n.rd Reg.POWER_PGOOD.PGOOD = bitsOf (setBit s.power.pgood m.val) 2 18 ∧
      n.power.step = (if vinRails.all (hasBit (setBit s.power.pgood m.val)) then 3 else 2) ∧
      Effect [.time, .power, .host, .fr, .referee, .adc, .out] (some (movesTime ++ movesIrq ++ [Reg.ADC_REF.EN, Reg.DOMAIN_STATE.ANALOG,
        Reg.DOMAIN_STATE.BB_PHY, Reg.DOMAIN_STATE.DRAM_ACTIVE, Reg.DOMAIN_STATE.DRAM_SR, Reg.DOMAIN_STATE.FABRIC,
        Reg.DOMAIN_STATE.LANE_PHY, Reg.POWER_PGOOD.PGOOD])) s n) ∧
  (∀ (s : State) (m : Fin 24) (t : Nat), s.railWanted m.val = false →
    ∃ n, exec (.railPgood m t) s = .next n ∧ Effect [.time, .host, .fr, .out] (some (movesTime ++ movesIrq)) s n) ∧
  (∀ (s : State) (k : Fin 4) (t : Nat), s.power.held = true → s.power.step = 3 →
    ∃ n, exec (.pllLock k t) s = .next n ∧ n.rd Reg.CLOCK_PLL_STATUS.LOCK k.val = 1 ∧
      keepsOthers Reg.CLOCK_PLL_STATUS.LOCK k.val s n ∧
      n.power.step = (if (upTo 4).all (fun j => j == k.val || s.on Reg.CLOCK_PLL_STATUS.LOCK j) then 4 else 3) ∧
      Effect [.time, .power, .host, .load, .fr, .referee, .out, .drawn] (some (movesTime ++ movesIrq ++ [Reg.CLOCK_EVENT.EVENTS,
        Reg.CLOCK_GO.GO, Reg.CLOCK_PLL_STATUS.COUNT, Reg.CLOCK_PLL_STATUS.LOCK, Reg.CLOCK_PLL_STATUS.STAGED,
        Reg.DOMAIN_STATE.DRAM_ACTIVE, Reg.SAFE_FIRE.DRV_A, Reg.SAFE_FIRE.DRV_B, Reg.SAFE_FIRE.FIRE_A, Reg.SAFE_FIRE.FIRE_B,
        Reg.SAFE_GROUP.CAUSE, Reg.SAFE_GROUP.KIND, Reg.SAFE_GROUP.PAIRS, Reg.SAFE_GROUP.STATE, Reg.SAFE_GROUP.STOP, Reg.SAFE_PAIR.CH_A,
        Reg.SAFE_PAIR.CH_B, Reg.SAFE_PAIR.DEMAND, Reg.SAFE_PAIR.DEMANDS, Reg.SAFE_PAIR.FAULT_CAUSE, Reg.SAFE_PAIR.PAIR_FAULT,
        Reg.SAFE_RESET_STATUS.ARMED, Reg.SAFE_STATUS.A_OK, Reg.SAFE_STATUS.B_OK, Reg.SAFE_STATUS.DEMAND, Reg.SAFE_STATUS.DIAG,
        Reg.SAFE_STATUS.DIAG_A, Reg.SAFE_STATUS.DIAG_B, Reg.SAFE_STATUS.DIAG_CAUSE, Reg.SAFE_STATUS.LOCKED, Reg.SAFE_STATUS.RESET_PIN,
        Reg.SAFE_TPO.EN, Reg.SAFE_TPO.READBACK_FAULT])) s n) ∧
  (∀ (s : State) (k : Fin 4) (t : Nat), s.power.held = false → hasBit s.power.relocking k.val = false → hasBit s.power.lost k.val = true →
    ∃ n, exec (.pllLock k t) s = .next n ∧ n.rd Reg.CLOCK_PLL_STATUS.LOCK k.val = 1 ∧ hasBit (n.rd Reg.CLOCK_EVENT.EVENTS) 1 = true ∧
      n.power.lost = clrBit s.power.lost k.val ∧ (k = 3 → s.power.step ≠ 5 → n.load.dram = true)) ∧
  (∀ (s : State) (k : Fin 4) (t : Nat), s.power.held = false → hasBit s.power.relocking k.val = true →
    ∃ n, exec (.pllLock k t) s = .next n ∧ n.rd Reg.CLOCK_PLL_STATUS.LOCK k.val = 1 ∧ n.power.relocking = clrBit s.power.relocking k.val ∧
      (k = 3 → n.power.step = 5) ∧
      (s.rd Reg.CLOCK_GO.GO ≠ 0 → s.power.relocking = 2 ^ k.val → n.rd Reg.CLOCK_GO.GO = 0 ∧ hasBit (n.rd Reg.CLOCK_EVENT.EVENTS) 3 = true)) ∧
  (∀ (s : State) (k : Fin 4) (t : Nat), s.power.held = false → s.rd Reg.CLOCK_PLL_STATUS.LOCK k.val ≠ 0 → s.mayRaise = true →
    ∃ n, exec (.pllLockLoss k t) s = .next n ∧ n.rd Reg.CLOCK_PLL_STATUS.LOCK k.val = 0 ∧ hasBit (n.rd Reg.CLOCK_EVENT.EVENTS) 0 = true ∧
      n.power.lost = setBit s.power.lost k.val ∧ (k = 2 → n.rd Reg.TIME_STATUS.SYNC = 0) ∧
      (k = 3 → n.load.dram = false ∧ n.rd Reg.DOMAIN_STATE.DRAM_ACTIVE = 0) ∧ (k ≠ 3 → n.load = s.load) ∧
      n.rd Reg.CLOCK_PLL_STATUS.UNLOCKS k.val = (if s.device = stRun then min 255 (s.rd Reg.CLOCK_PLL_STATUS.UNLOCKS k.val + 1)
        else s.rd Reg.CLOCK_PLL_STATUS.UNLOCKS k.val) ∧
      (s.device = stRun → k ≠ 3 → raises (s.elapse t) n 42 k.val) ∧
      Effect [.time, .power, .faults, .host, .load, .fr, .out] (some (movesTime ++ movesIrq ++ movesFault ++ [Reg.CLOCK_EVENT.EVENTS,
        Reg.CLOCK_PLL_STATUS.LOCK, Reg.CLOCK_PLL_STATUS.UNLOCKS, Reg.DOMAIN_STATE.DRAM_ACTIVE, Reg.SAFE_FIRE.DRV_A, Reg.SAFE_FIRE.DRV_B,
        Reg.SAFE_FIRE.FIRE_A, Reg.SAFE_FIRE.FIRE_B, Reg.SAFE_GROUP.CAUSE, Reg.SAFE_GROUP.KIND, Reg.SAFE_GROUP.PAIRS,
        Reg.SAFE_GROUP.STATE, Reg.SAFE_GROUP.STOP, Reg.SAFE_PAIR.CH_A, Reg.SAFE_PAIR.CH_B, Reg.SAFE_PAIR.DEMAND, Reg.SAFE_PAIR.DEMANDS,
        Reg.SAFE_PAIR.FAULT_CAUSE, Reg.SAFE_PAIR.PAIR_FAULT, Reg.SAFE_RESET_STATUS.ARMED, Reg.SAFE_STATUS.A_OK, Reg.SAFE_STATUS.B_OK,
        Reg.SAFE_STATUS.DEMAND, Reg.SAFE_STATUS.DIAG, Reg.SAFE_STATUS.DIAG_A, Reg.SAFE_STATUS.DIAG_B, Reg.SAFE_STATUS.DIAG_CAUSE,
        Reg.SAFE_STATUS.LOCKED, Reg.SAFE_STATUS.RESET_PIN, Reg.SAFE_TPO.EN, Reg.SAFE_TPO.READBACK_FAULT, Reg.TIME_EVENT.EVENTS,
        Reg.TIME_STATUS.SYNC])) s n) ∧
  (∀ (s : State) (m : Fin 24) (t : Nat), s.power.step = 2 → s.power.dormantExit = false → hasBit s.power.pgood m.val = false →
    s.railWanted m.val = true → s.rd Reg.POWER_STATE.WAKE_TRIES < 3 →
    ∃ n, exec (.wakeTimeout 0 m.val t) s = .next n ∧ n.rd Reg.POWER_STATE.WAKE_TRIES = s.rd Reg.POWER_STATE.WAKE_TRIES + 1 ∧
      n.rd Reg.RESET_CAUSE.CAUSE = 4 ∧ n.rd Reg.POWER_WAKE_FAIL.KIND = 1 ∧ n.rd Reg.POWER_WAKE_FAIL.ITEM = m.val ∧ n.power.pgood = 0 ∧
      n.power.held = true ∧ hasBit (n.rd Reg.POWER_EVENT.EVENTS) 4 = true) ∧
  (∀ (s : State) (m : Fin 24) (t : Nat), s.power.step = 2 → s.power.dormantExit = false → hasBit s.power.pgood m.val = false →
    s.railWanted m.val = true → s.rd Reg.POWER_STATE.WAKE_TRIES = 3 → s.faults.waiting = [] → (s.elapse t).tickInCycle = false →
    ∃ n, exec (.wakeTimeout 0 m.val t) s = .next n ∧ n.device = stKeepOnly ∧ n.power.wakeFailed = true ∧
      n.faults.waiting.map (fun e => (e.pos, e.detail)) = [(60, 1)] ∧ n.rd Reg.POWER_WAKE_FAIL.KIND = 1 ∧
      n.rd Reg.RESET_CAUSE.CAUSE = s.rd Reg.RESET_CAUSE.CAUSE) ∧
  (∀ (s : State) (k : Fin 4) (t : Nat), s.power.held = false → s.rd Reg.CLOCK_PLL_STATUS.LOCK k.val = 0 → s.referee.wake ≠ .clock →
    hasBit s.power.lost k.val = true →
    ∃ n, exec (.wakeTimeout 1 k.val t) s = .next n ∧ n.power.lost = clrBit s.power.lost k.val ∧ hasBit n.power.dead k.val = true ∧
      n.rd Reg.POWER_WAKE_FAIL.KIND = 2 ∧ n.rd Reg.POWER_WAKE_FAIL.ITEM = k.val ∧ n.rd Reg.CLOCK_PLL_STATUS.LOCK k.val = 0 ∧
      raises (s.elapse t) n 60 1) ∧
  (∀ (s : State) (m t : Nat), hasBit s.power.pgood m = true →
    ∃ n, exec (.wakeTimeout 0 m t) s = .next n ∧ Effect [.time, .host, .fr, .out] (some (movesTime ++ movesIrq)) s n) ∧
  (∀ (s : State) (i t : Nat), s.refState = rsWake → s.referee.wake = .memory → s.referee.broken = false →
    ∃ n, exec (.wakeTimeout 3 i t) s = .next n ∧ n.refState = rsLost ∧ n.referee.ball = false)

/-- VIN samples and the shedding steps (R374, R375, R376, R64). A sample is shown with the lowest; the third in a row below a deeper
threshold takes the VIN step to the deepest one all three reached, with SUPPLY_WARN or SUPPLY_SHED; at step 6 the ball is withdrawn and
the device is in HOLD; 10 ms above the threshold plus 200 mV take it back by one. Each second at H ≤ 0 takes the thermal step up by one.
-/
def Obligations.SheddingStepsFollowVinAndHeat : Prop :=
  (∀ (s : State) (mv t : Nat), s.power.supplied = true → s.power.held = false → mv < 65536 →
    (shedReached mv ≤ s.rd Reg.POWER_SHED.VIN_STEP ∨ s.power.fallRun < 2) →
    (s.rd Reg.POWER_SHED.VIN_STEP = 0 ∨ mv ≤ shedMv (s.rd Reg.POWER_SHED.VIN_STEP) + 200) →
    ∃ n, exec (.vinSample mv t) s = .next n ∧ n.rd Reg.POWER_VIN.LAST = mv ∧
      n.rd Reg.POWER_VIN.MIN = min (s.rd Reg.POWER_VIN.MIN) mv ∧ n.rd Reg.POWER_SHED.VIN_STEP = s.rd Reg.POWER_SHED.VIN_STEP ∧
      n.rd Reg.POWER_SHED.STEP = s.rd Reg.POWER_SHED.STEP ∧ (13200 < mv → hasBit (n.rd Reg.POWER_EVENT.EVENTS) 5 = true) ∧
      n.power.fallRun = (if s.rd Reg.POWER_SHED.VIN_STEP < shedReached mv then s.power.fallRun + 1 else 0) ∧
      Effect [.time, .power, .host, .fr, .out] (some (movesTime ++ movesIrq ++ [Reg.POWER_VIN.LAST, Reg.POWER_VIN.MIN, Reg.POWER_EVENT.EVENTS])) s n) ∧
  (∀ (s : State) (mv t d : Nat), s.power.supplied = true → s.power.held = false → s.power.fallRun = 2 →
    d = min s.power.fallDeep (shedReached mv) → s.rd Reg.POWER_SHED.VIN_STEP < d → d < 6 →
    s.shedInv → s.rd Reg.POWER_SHED.THERMAL_STEP ≤ s.rd Reg.POWER_SHED.VIN_STEP →
    ∃ n, exec (.vinSample mv t) s = .next n ∧ n.rd Reg.POWER_SHED.VIN_STEP = d ∧ n.rd Reg.POWER_SHED.STEP = d ∧
      n.rd Reg.POWER_SHED.THERMAL_STEP = s.rd Reg.POWER_SHED.THERMAL_STEP ∧ n.rd Reg.PLAN_LEVEL.CAP = (if d = 5 then 2 else 0) ∧
      hasBit (n.rd Reg.POWER_EVENT.EVENTS) 0 = true ∧ n.power.fallRun = 0 ∧
      (d = 1 → raises (s.elapse t) n 6 0) ∧ (s.rd Reg.POWER_SHED.VIN_STEP ≠ 0 → raises (s.elapse t) n 41 d)) ∧
  (∀ (s : State) (mv t : Nat), s.power.supplied = true → s.power.held = false → s.power.fallRun = 2 → s.power.fallDeep = 6 → mv < 9000 →
    s.shedInv → s.rd Reg.POWER_SHED.VIN_STEP = 5 → s.rd Reg.POWER_SHED.THERMAL_STEP < 6 → s.device = stRun →
    s.ticking = true →
    ∃ n, exec (.vinSample mv t) s = .next n ∧ n.device = stHold ∧ n.refState = (if s.refState = rsLost then rsLost else rsSetup) ∧
      n.role 0 = roOff ∧ n.role 1 = roOff ∧
      n.referee.ball = false ∧ n.rd Reg.POWER_SHED.VIN_STEP = 6 ∧ 1 ≤ n.power.step6) ∧
  (∀ (s : State) (mv t a : Nat), s.power.supplied = true → s.power.held = false → 0 < s.rd Reg.POWER_SHED.VIN_STEP →
    s.rd Reg.POWER_SHED.VIN_STEP < 6 → shedMv (s.rd Reg.POWER_SHED.VIN_STEP) + 200 < mv → s.power.riseSince = some a →
    a + 10000000 ≤ (s.elapse t).time.ns → s.shedInv →
    ∃ n, exec (.vinSample mv t) s = .next n ∧ n.rd Reg.POWER_SHED.VIN_STEP = s.rd Reg.POWER_SHED.VIN_STEP - 1 ∧ n.power.riseSince = none) ∧
  (∀ (s : State) (t a : Nat), s.power.hotSince = some a → a + 1000000000 ≤ (s.elapse t).time.ns → s.rd Reg.PLAN_THERMAL.SHED_STEP < 5 →
    s.rd Reg.POWER_SHED.VIN_STEP < 6 → s.shedInv →
    ∃ n, exec (.thermalShedStep t) s = .next n ∧ n.rd Reg.PLAN_THERMAL.SHED_STEP = s.rd Reg.PLAN_THERMAL.SHED_STEP + 1 ∧
      n.rd Reg.POWER_SHED.STEP = max (s.rd Reg.POWER_SHED.VIN_STEP) (s.rd Reg.PLAN_THERMAL.SHED_STEP + 1) ∧
      n.power.hotSince = some (s.elapse t).time.ns) ∧
  (∀ (s : State) (t : Nat), s.power.hotSince = none → s.power.coolSince = none →
    ∃ n, exec (.thermalShedStep t) s = .next n ∧ Effect [.time, .host, .fr, .out] (some (movesTime ++ movesIrq)) s n)

/-- VIN lost and the thermal latch (R222, R372, R376, R392): VIN below 8.0 V for 5 µs drops every VIN rail and puts the device into KEEP-
ONLY at that instant, with the DEV reset asserted. SHUT_LATCH clears only once VIN has been below 8.0 V for 100 ms. -/
def Obligations.VinLossEndsInKeepOnlyAndLatchCools : Prop :=
  (∀ (s : State) (t : Nat), s.power.supplied = true → (s.device ≠ stKeepOnly ∨ s.power.step ≠ 0) →
    ∃ n, exec (.vinLoss t) s = .next n ∧ n.device = stKeepOnly ∧ n.power.pgood = 0 ∧ n.rd Reg.POWER_PGOOD.PGOOD = 0 ∧ n.power.held = true ∧
      n.power.keepOnlyAt = (s.elapse t).time.ns ∧ n.power.goodSince = none ∧ n.rd Reg.FAULT_STATE.FAULT_N = 0 ∧
      n.rd Reg.FAULT_STATE.ALIVE_RUN = 0 ∧ (∀ r ∈ Reg.table, ∀ f ∈ r, f.dom = .dev → f.acc ≠ .ro → ∀ i j, n.rd f i j = f.reset i) ∧
      ((s.elapse t).tickInCycle = false → n.journal = s.journal.afterReset ∧ n.referee.half0 = s.referee.half0 ∧
        n.referee.half1 = s.referee.half1)) ∧
  (∀ (s : State) (t : Nat), s.power.supplied = false →
    ∃ n, exec (.vinLoss t) s = .next n ∧ Effect [.time, .host, .fr, .out] (some (movesTime ++ movesIrq)) s n) ∧
  (∀ (s : State) (t a : Nat), s.power.lowSince = some a → a + 100000000 ≤ (s.elapse t).time.ns →
    ∃ n, exec (.thermalLatchClear t) s = .next n ∧ n.rd Reg.THERMAL_STATUS.SHUT_LATCH = 0 ∧
      n.rd Reg.FAULT_STATE.FATAL = (if s.on Reg.THERMAL_STATUS.SHUT_LATCH then 0 else s.rd Reg.FAULT_STATE.FATAL) ∧
      Effect [.time, .host, .fr, .out] (some (movesTime ++ movesIrq ++ [Reg.FAULT_STATE.FATAL, Reg.THERMAL_STATUS.SHUT_LATCH])) s n) ∧
  (∀ (s : State) (t : Nat), (s.power.lowSince = none ∨ ∃ a, s.power.lowSince = some a ∧ (s.elapse t).time.ns < a + 100000000) →
    ∃ n, exec (.thermalLatchClear t) s = .next n ∧ n.rd Reg.THERMAL_STATUS.SHUT_LATCH = s.rd Reg.THERMAL_STATUS.SHUT_LATCH)

/-- The entry handshake and the wake sources (R387, R388, R390, Table 18-8). POWER_CTRL with DORMANT and its key, ANALOG_OFF and
BB_PHY_OFF start a handshake in RUN; DORMANT is refused with RESULT 3 where a converter is not BLOCKED or a drive not idle. Each poll
counts; a block that refuses is shown; with none the domain is switched off; at the timeout the attempt ends with RESULT 2 and
POWER_ENTRY. An edge source starts the exit from DORMANT at step 2 with its code, or is held while an entry to DORMANT runs, unless it
comes in its last 125 ns; WAKE_N counts as an edge of the polarity set, or as a level while it is asserted. -/
def Obligations.DomainsGoOffAndWakeSourcesReturnThem : Prop :=
  (∀ (s : State) (v t : Nat), hasBit v 0 = true → bitsOf v 16 16 = 0x3B9A → s.device = stRun → s.power.entry = none →
    ∃ n, exec (.powerDormant v t) s = .next n ∧
      n.power.entry = (if s.mayDormant then some ⟨.dormant, (s.elapse t).time.ns, none⟩ else none) ∧
      n.rd Reg.POWER_ENTRY_STATUS.RESULT = (if s.mayDormant then 0 else 3) ∧ n.rd Reg.POWER_ENTRY_STATUS.DOMAIN = 0 ∧
      n.device = stRun ∧
      Effect [.time, .power, .host, .fr, .out] (some (movesTime ++ movesIrq ++ [Reg.POWER_CTRL.DORMANT, Reg.POWER_ENTRY_STATUS.DOMAIN,
        Reg.POWER_ENTRY_STATUS.RESULT, Reg.POWER_ENTRY_STATUS.RETRIES])) s n) ∧
  (∀ (s : State) (v t : Nat), (hasBit v 0 = false ∨ bitsOf v 16 16 ≠ 0x3B9A ∨ s.device ≠ stRun ∨ s.power.entry.isSome = true) →
    ∃ n, exec (.powerDormant v t) s = .next n ∧ Effect [.time, .host, .fr, .out] (some (movesTime ++ movesIrq)) s n) ∧
  (∀ (s : State) (t : Nat), s.device = stRun → s.power.entry = none → s.power.analogOff = false →
    ∃ n, exec (.analogOff true t) s = .next n ∧ n.power.entry = some ⟨.analog, (s.elapse t).time.ns, none⟩ ∧
      n.rd Reg.POWER_DOMAIN_CTRL.ANALOG_OFF = 1 ∧ n.rd Reg.POWER_ENTRY_STATUS.DOMAIN = 1 ∧ n.rd Reg.POWER_ENTRY_STATUS.RETRIES = 0 ∧
      Effect [.time, .power, .host, .fr, .out] (some (movesTime ++ movesIrq ++ [Reg.POWER_DOMAIN_CTRL.ANALOG_OFF,
        Reg.POWER_ENTRY_STATUS.DOMAIN, Reg.POWER_ENTRY_STATUS.RESULT, Reg.POWER_ENTRY_STATUS.RETRIES])) s n) ∧
  (∀ (s : State) (t : Nat), s.device = stRun → s.power.entry = none → s.power.bbOff = false →
    ∃ n, exec (.bbPhyOff true t) s = .next n ∧ n.power.entry = some ⟨.bbPhy, (s.elapse t).time.ns, none⟩ ∧
      n.rd Reg.POWER_DOMAIN_CTRL.BB_PHY_OFF = 1 ∧ n.rd Reg.POWER_ENTRY_STATUS.DOMAIN = 2 ∧ n.rd Reg.POWER_ENTRY_STATUS.RETRIES = 0 ∧
      Effect [.time, .power, .host, .fr, .out] (some (movesTime ++ movesIrq ++ [Reg.POWER_DOMAIN_CTRL.BB_PHY_OFF,
        Reg.POWER_ENTRY_STATUS.DOMAIN, Reg.POWER_ENTRY_STATUS.RESULT, Reg.POWER_ENTRY_STATUS.RETRIES])) s n) ∧
  (∀ (s : State) (t b k : Nat) (e : Entry), s.power.entry = some e → e.domain.refuser b = some k →
    ∃ n, exec (.powerHandshakePoll b t) s = .next n ∧ n.power = s.power ∧ n.rd Reg.POWER_ENTRY_STATUS.REFUSER = k % 8 ∧
      n.rd Reg.POWER_ENTRY_STATUS.RETRIES = min 65535 (s.rd Reg.POWER_ENTRY_STATUS.RETRIES + 1) ∧
      Effect [.time, .host, .fr, .out] (some (movesTime ++ movesIrq ++ [Reg.POWER_ENTRY_STATUS.REFUSER, Reg.POWER_ENTRY_STATUS.RETRIES])) s n) ∧
  (∀ (s : State) (t b a : Nat) (w : Option Nat), s.power.entry = some ⟨.analog, a, w⟩ → hasBit b 6 = false →
    ∃ n, exec (.powerHandshakePoll b t) s = .next n ∧ n.power.entry = none ∧ n.power.analogOff = true ∧ n.rd Reg.DOMAIN_STATE.ANALOG = 0 ∧
      n.rd Reg.ADC_REF.EN = 0 ∧ n.rd Reg.POWER_ENTRY_STATUS.RESULT = 1 ∧ hasBit (n.rd Reg.POWER_EVENT.EVENTS) 2 = true ∧
      n.device = s.device) ∧
  (∀ (s : State) (t b a : Nat) (w : Option Nat), s.power.entry = some ⟨.bbPhy, a, w⟩ → hasBit b 2 = false → hasBit b 4 = false →
    ∃ n, exec (.powerHandshakePoll b t) s = .next n ∧ n.power.entry = none ∧ n.power.bbOff = true ∧ n.rd Reg.DOMAIN_STATE.BB_PHY = 0 ∧
      (∀ p, p < 4 → n.rd Reg.BB_STATUS.UP p = 0 ∧ n.rd Reg.BB_STATUS.TX_IDLE p = 1) ∧ n.rd Reg.POWER_ENTRY_STATUS.RESULT = 1 ∧
      n.device = s.device) ∧
  (∀ (s : State) (t a : Nat), s.power.entry = some ⟨.dormant, a, none⟩ → s.levelWake = false →
    ∃ n, exec (.powerHandshakePoll 0 t) s = .next n ∧ n.device = stDormant ∧ n.role 0 = roOff ∧ n.role 1 = roOff ∧
      n.refState = (if s.refState = rsLost then rsLost else rsSetup) ∧
      n.ticking = false ∧ n.power.entry = none ∧ n.power.analogOff = true ∧ n.power.bbOff = true ∧
      n.rd Reg.DOMAIN_STATE.DRAM_SR = b01 s.load.dram ∧ n.rd Reg.DOMAIN_STATE.DRAM_ACTIVE = 0 ∧ (∀ k, k < 4 → n.rd Reg.CAN_CTRL.MODE k = 0) ∧
      Effect [.time, .power, .host, .fr, .lanes, .engs, .referee, .pair, .safety, .cans, .out] (some (movesTime ++ movesIrq ++
        [Reg.ADC_REF.EN, Reg.ADC_REF.READY, Reg.BB_EVENT.EVENTS, Reg.BB_STATUS.CLOCK, Reg.BB_STATUS.TX_IDLE, Reg.BB_STATUS.UP,
        Reg.CAN_CTRL.MODE, Reg.CAN_STATUS.STATE, Reg.DOMAIN_STATE.ANALOG, Reg.DOMAIN_STATE.BB_PHY, Reg.DOMAIN_STATE.DRAM_ACTIVE,
        Reg.DOMAIN_STATE.DRAM_SR, Reg.DOMAIN_STATE.FABRIC, Reg.DOMAIN_STATE.LANE_PHY, Reg.DOMAIN_STATE.PLANE_A, Reg.DOMAIN_STATE.PLANE_B,
        Reg.ENG_EXPORT.VALUE, Reg.ENG_STATUS.BALL, Reg.ENG_STATUS.COLD, Reg.ENG_STATUS.SHADOW, Reg.FRAME_STATUS.RUNNING,
        Reg.LANE_STATUS.SYNC, Reg.POWER_CTRL.DORMANT, Reg.POWER_ENTRY_STATUS.REFUSER, Reg.POWER_ENTRY_STATUS.RESULT,
        Reg.POWER_ENTRY_STATUS.RETRIES, Reg.POWER_EVENT.EVENTS, Reg.POWER_PGOOD.PGOOD, Reg.POWER_STATE.STATE, Reg.POWER_STATE.WAKE_SRC,
        Reg.POWER_STATE.WAKE_TRIES, Reg.REF_EVENT.UNFIT, Reg.REF_STATUS.LEASE, Reg.REF_STATUS.ROLE_A, Reg.REF_STATUS.ROLE_B,
        Reg.REF_STATUS.STATE, Reg.SAFE_FIRE.DRV_A, Reg.SAFE_FIRE.DRV_B, Reg.SAFE_FIRE.FIRE_A, Reg.SAFE_FIRE.FIRE_B, Reg.SAFE_GROUP.CAUSE,
        Reg.SAFE_GROUP.KIND, Reg.SAFE_GROUP.PAIRS, Reg.SAFE_GROUP.STATE, Reg.SAFE_GROUP.STOP, Reg.SAFE_PAIR.CH_A, Reg.SAFE_PAIR.CH_B,
        Reg.SAFE_PAIR.DEMAND, Reg.SAFE_PAIR.DEMANDS, Reg.SAFE_PAIR.FAULT_CAUSE, Reg.SAFE_PAIR.PAIR_FAULT, Reg.SAFE_RESET_STATUS.ARMED,
        Reg.SAFE_STATUS.A_OK, Reg.SAFE_STATUS.B_OK, Reg.SAFE_STATUS.DEMAND, Reg.SAFE_STATUS.DIAG, Reg.SAFE_STATUS.DIAG_A,
        Reg.SAFE_STATUS.DIAG_B, Reg.SAFE_STATUS.DIAG_CAUSE, Reg.SAFE_STATUS.LOCKED, Reg.SAFE_STATUS.RESET_PIN, Reg.SAFE_TPO.EN,
        Reg.SAFE_TPO.READBACK_FAULT])) s n) ∧
  (∀ (s : State) (t b k : Nat) (e : Entry), s.power.entry = some e → e.domain.refuser b = some k →
    e.start + clampN 1 1000 (s.rd Reg.POWER_ENTRY_CFG.TIMEOUT_MS) * 1000000 ≤ (s.elapse t).time.ns →
    ∃ n, exec (.powerEntryTimeout b t) s = .next n ∧ n.power.entry = none ∧ n.rd Reg.POWER_ENTRY_STATUS.RESULT = 2 ∧
      n.rd Reg.POWER_ENTRY_STATUS.REFUSER = k % 8 ∧ n.rd Reg.POWER_ENTRY_STATUS.DOMAIN = e.domain.code ∧
      hasBit (n.rd Reg.POWER_EVENT.EVENTS) 3 = true ∧ raises (s.elapse t) n 7 e.domain.code ∧
      Effect [.time, .power, .faults, .host, .fr, .out] (some (movesTime ++ movesIrq ++ movesFault ++ [Reg.POWER_CTRL.DORMANT,
        Reg.POWER_ENTRY_STATUS.DOMAIN, Reg.POWER_ENTRY_STATUS.REFUSER, Reg.POWER_ENTRY_STATUS.RESULT, Reg.POWER_EVENT.EVENTS])) s n) ∧
  (∀ (s : State) (t b : Nat), s.power.entry = none →
    (∃ n, exec (.powerHandshakePoll b t) s = .next n ∧ Effect [.time, .host, .fr, .out] (some (movesTime ++ movesIrq)) s n) ∧
    ∃ n, exec (.powerEntryTimeout b t) s = .next n ∧ Effect [.time, .host, .fr, .out] (some (movesTime ++ movesIrq)) s n) ∧
  (∀ (s : State) (t : Nat), s.power.entry = none → s.device = stDormant → s.power.dormantExit = false → s.power.wakeFailed = false →
    ∃ n, exec (.powerWake t) s = .next n ∧ n.power.dormantExit = true ∧ n.power.step = 2 ∧ n.rd Reg.POWER_STATE.WAKE_SRC = 4 ∧
      n.rd Reg.POWER_STATE.WAKE_TRIES = 0 ∧
      Effect [.time, .power, .host, .fr, .out] (some (movesTime ++ movesIrq ++ [Reg.POWER_STATE.WAKE_SRC, Reg.POWER_STATE.WAKE_TRIES])) s
        n) ∧
  (∀ (s : State) (t a : Nat), s.power.entry = some ⟨.dormant, a, none⟩ →
    ∃ n, exec (.powerWake t) s = .next n ∧ n.power.entry = some ⟨.dormant, a, some 4⟩) ∧
  (∀ (s : State) (t : Nat), s.power.entry = none → s.device ≠ stDormant →
    ∃ n, exec (.powerWake t) s = .next n ∧ Effect [.time, .host, .fr, .out] (some (movesTime ++ movesIrq)) s n) ∧
  (∀ (s : State) (t : Nat) (low late : Bool), s.rd Reg.POWER_WAKE_CFG.EN ≠ 0 → s.rd Reg.POWER_WAKE_CFG.LEVEL = 0 → s.power.supplied = true →
    s.power.wakeNLow ≠ low → low ≠ s.on Reg.POWER_WAKE_CFG.POL → s.power.entry = none → s.device = stDormant →
    s.power.dormantExit = false → s.power.wakeFailed = false →
    ∃ n, exec (.wakeNEvent low late t) s = .next n ∧ n.power.dormantExit = true ∧ n.power.step = 2 ∧ n.rd Reg.POWER_STATE.WAKE_SRC = 3 ∧
      n.power.wakeNLow = low ∧
      Effect [.time, .power, .host, .fr, .out] (some (movesTime ++ movesIrq ++ [Reg.POWER_STATE.WAKE_SRC, Reg.POWER_STATE.WAKE_TRIES])) s
        n) ∧
  (∀ (s : State) (t a : Nat) (low : Bool) (w : Option Nat), s.power.entry = some ⟨.dormant, a, w⟩ → s.rd Reg.POWER_WAKE_CFG.LEVEL = 0 →
    ∃ n, exec (.wakeNEvent low true t) s = .next n ∧ n.power = { s.power with wakeNLow := low }) ∧
  (∀ (s : State) (t : Nat) (low late : Bool), s.rd Reg.POWER_WAKE_CFG.EN = 0 →
    ∃ n, exec (.wakeNEvent low late t) s = .next n ∧ n.power = { s.power with wakeNLow := low } ∧
      n.rd Reg.POWER_STATE.WAKE_SRC = s.rd Reg.POWER_STATE.WAKE_SRC)

/-- Clock commands (R381, R382): CLOCK_GO is honoured in KICK-OFF while the loader is idle or has refused, elsewhere it only sets REFUSED;
honoured, every PLL whose PRE changes unlocks and relocks, and the staged values are in force. A TRIM write is staged, and in fine-step
mode in force at once on PLL_MEM, and on PLL_SD in KICK-OFF alone. -/
def Obligations.ClockGoAppliesWhatIsStaged : Prop :=
  (∀ (s : State) (t : Nat), s.power.held = false → (s.device ≠ stKickOff ∨ (s.rd Reg.IMAGE_STATUS.STATE ≠ 0 ∧ s.rd Reg.IMAGE_STATUS.STATE ≠ 6)) →
    ∃ n, exec (.clockGo t) s = .next n ∧ hasBit (n.rd Reg.CLOCK_EVENT.EVENTS) 2 = true ∧ n.power = s.power ∧ n.load = s.load ∧
      n.rd Reg.CLOCK_GO.GO = s.rd Reg.CLOCK_GO.GO) ∧
  (∀ (s : State) (t : Nat), s.power.held = false → s.device = stKickOff →
    (s.rd Reg.IMAGE_STATUS.STATE = 0 ∨ s.rd Reg.IMAGE_STATUS.STATE = 6) → s.power.relocking = 0 →
    ∃ n, exec (.clockGo t) s = .next n ∧
      (∀ k, k < 4 → Tbl.look 0 n.power.preInForce k = s.rd Reg.CLOCK_PLL_CFG.PRE k ∧
        Tbl.look 0 n.power.trimInForce k = s.rd Reg.CLOCK_PLL_TRIM.TRIM k ∧ n.rd Reg.CLOCK_PLL_STATUS.STAGED k = 0 ∧
        hasBit n.power.relocking k = (preActs (s.rd Reg.CLOCK_PLL_CFG.PRE k) != preActs (Tbl.look 0 s.power.preInForce k)) ∧
        n.rd Reg.CLOCK_PLL_STATUS.LOCK k = (if hasBit n.power.relocking k then 0 else s.rd Reg.CLOCK_PLL_STATUS.LOCK k)) ∧
      n.rd Reg.CLOCK_GO.GO = b01 (n.power.relocking ≠ 0) ∧
      (n.power.relocking = 0 → hasBit (n.rd Reg.CLOCK_EVENT.EVENTS) 3 = true) ∧ (hasBit n.power.relocking 3 = true → n.load.dram = false) ∧
      Effect [.time, .power, .host, .load, .fr, .out] (some (movesTime ++ movesIrq ++ [Reg.CLOCK_EVENT.EVENTS, Reg.CLOCK_GO.GO,
        Reg.CLOCK_PLL_STATUS.LOCK, Reg.CLOCK_PLL_STATUS.STAGED, Reg.DOMAIN_STATE.DRAM_ACTIVE])) s n) ∧
  (∀ (s : State) (k : Fin 4) (v t : Nat), v < 2048 →
    ∃ n, exec (.clockTrimFine k v t) s = .next n ∧ n.rd Reg.CLOCK_PLL_TRIM.TRIM k.val = v ∧ keepsOthers Reg.CLOCK_PLL_TRIM.TRIM k.val s n ∧
      Tbl.look 0 n.power.trimInForce k.val = (if s.on Reg.CLOCK_PLL_CFG.FINE k.val ∧ (k.val = 3 ∨ (k.val = 2 ∧ s.device = stKickOff)) then v
        else Tbl.look 0 s.power.trimInForce k.val) ∧
      (∀ j, n.rd Reg.CLOCK_PLL_STATUS.LOCK j = s.rd Reg.CLOCK_PLL_STATUS.LOCK j) ∧
      Effect [.time, .power, .host, .fr, .out] (some (movesTime ++ movesIrq ++ [Reg.CLOCK_PLL_STATUS.STAGED, Reg.CLOCK_PLL_TRIM.TRIM])) s
        n)
end

