-- ==== Sys2Proof/Laws/Store.lean ====
section
/-! SUPPORT. The laws of the sparse store: a read after a write at the same number gives what was written, a write leaves every other
number alone, and a write keeps the canonical form. -/

namespace Sys2Proof.Machine

theorem Tbl.look_drop_same {α : Type} (d : α) (t : Tbl α) (i : Nat) : (t.drop i).look d i = d := by
  induction t with
  | nil => rfl
  | cons a t ih => obtain ⟨k, v⟩ := a; by_cases h : k = i <;> simp [Tbl.drop, Tbl.look, h, ih]

theorem Tbl.look_drop_ne {α : Type} (d : α) (t : Tbl α) {i j : Nat} (h : j ≠ i) : (t.drop i).look d j = t.look d j := by
  induction t with
  | nil => rfl
  | cons a t ih =>
    obtain ⟨k, v⟩ := a
    by_cases hk : k = i
    · subst hk; simp [Tbl.drop, Tbl.look, Ne.symm h, ih]
    · simp [Tbl.drop, Tbl.look, hk, ih]

theorem Tbl.look_place_ne {α : Type} (d : α) (t : Tbl α) {i j : Nat} (v : α) (h : j ≠ i) : (t.place i v).look d j = t.look d j := by
  induction t with
  | nil => simp [Tbl.place, Tbl.look, Ne.symm h]
  | cons a t ih =>
    obtain ⟨k, w⟩ := a
    by_cases hk : i < k <;> simp [Tbl.place, hk, Tbl.look, Ne.symm h, ih]

theorem Tbl.look_place_drop {α : Type} (d : α) (t : Tbl α) (i : Nat) (v : α) : ((t.drop i).place i v).look d i = v := by
  induction t with
  | nil => simp [Tbl.drop, Tbl.place, Tbl.look]
  | cons a t ih =>
    obtain ⟨k, w⟩ := a
    by_cases hk : k = i
    · simp [Tbl.drop, hk, ih]
    · by_cases h : i < k <;> simp [Tbl.drop, hk, Tbl.place, h, Tbl.look, ih]

/-- A read after a write at the same number. -/
@[simp] theorem Tbl.look_put_same {α : Type} [DecidableEq α] (d : α) (t : Tbl α) (i : Nat) (v : α) : (Tbl.put d t i v).look d i = v := by
  unfold Tbl.put
  split
  · rename_i h; rw [Tbl.look_drop_same, h]
  · exact Tbl.look_place_drop d t i v

/-- A write leaves every other number alone. -/
theorem Tbl.look_put_ne {α : Type} [DecidableEq α] (d e : α) (t : Tbl α) {i j : Nat} (v : α) (h : j ≠ i) :
    (Tbl.put d t i v).look e j = t.look e j := by
  unfold Tbl.put
  split
  · exact Tbl.look_drop_ne e t h
  · rw [Tbl.look_place_ne e _ v h, Tbl.look_drop_ne e t h]

/-- A read after a write. -/
theorem Tbl.look_put {α : Type} [DecidableEq α] (d : α) (t : Tbl α) (i j : Nat) (v : α) :
    (Tbl.put d t i v).look d j = if j = i then v else t.look d j := by
  by_cases h : j = i
  · subst h; simp
  · simp [h, Tbl.look_put_ne d d t v h]

/-! ### The canonical form -/

theorem Tbl.wfFrom_mono {α : Type} [DecidableEq α] {d : α} {t : Tbl α} {a b : Nat} (h : a ≤ b) (w : t.wfFrom d b = true) :
    t.wfFrom d a = true := by
  cases t with
  | nil => rfl
  | cons x t =>
    obtain ⟨k, v⟩ := x
    simp only [Tbl.wfFrom, Bool.and_eq_true, decide_eq_true_eq] at w ⊢
    exact ⟨⟨by omega, w.1.2⟩, w.2⟩

theorem Tbl.wfFrom_drop {α : Type} [DecidableEq α] {d : α} (t : Tbl α) (i lo : Nat) (w : t.wfFrom d lo = true) :
    (t.drop i).wfFrom d lo = true := by
  induction t generalizing lo with
  | nil => rfl
  | cons x t ih =>
    obtain ⟨k, v⟩ := x
    simp only [Tbl.wfFrom, Bool.and_eq_true, decide_eq_true_eq] at w
    by_cases hk : k = i
    · simp only [Tbl.drop, hk, if_true]
      exact ih lo (Tbl.wfFrom_mono (by omega) w.2)
    · simp only [Tbl.drop, hk, if_false, Tbl.wfFrom, Bool.and_eq_true, decide_eq_true_eq]
      exact ⟨w.1, ih _ w.2⟩

theorem Tbl.wfFrom_place {α : Type} [DecidableEq α] {d : α} (t : Tbl α) (i lo : Nat) (v : α) (hv : v ≠ d) (hl : lo ≤ i)
    (w : (t.drop i).wfFrom d lo = true) : ((t.drop i).place i v).wfFrom d lo = true := by
  induction t generalizing lo with
  | nil => simp [Tbl.drop, Tbl.place, Tbl.wfFrom, hv, hl]
  | cons x t ih =>
    obtain ⟨k, y⟩ := x
    by_cases hk : k = i
    · simp only [Tbl.drop, hk, if_true] at w ⊢
      exact ih lo hl w
    · simp only [Tbl.drop, hk, if_false, Tbl.wfFrom, Bool.and_eq_true, decide_eq_true_eq] at w
      by_cases h : i < k
      · simp only [Tbl.drop, hk, if_false, Tbl.place, h, if_true, Tbl.wfFrom, Bool.and_eq_true, decide_eq_true_eq]
        exact ⟨⟨hl, hv⟩, ⟨by omega, w.1.2⟩, w.2⟩
      · simp only [Tbl.drop, hk, if_false, Tbl.place, h, Tbl.wfFrom, Bool.and_eq_true, decide_eq_true_eq]
        exact ⟨w.1, ih _ (by omega) w.2⟩

/-- A write keeps the canonical form. -/
theorem Tbl.wf_put {α : Type} [DecidableEq α] {d : α} {t : Tbl α} (i : Nat) (v : α) (w : t.wf d = true) : (Tbl.put d t i v).wf d = true := by
  unfold Tbl.put
  split
  · exact Tbl.wfFrom_drop t i 0 w
  · rename_i h; exact Tbl.wfFrom_place t i 0 v h (Nat.zero_le _) (Tbl.wfFrom_drop t i 0 w)

/-- Entries left out keep the canonical form. -/
theorem Tbl.wfFrom_filter {α : Type} [DecidableEq α] {d : α} (t : Tbl α) (p : Nat × α → Bool) (lo : Nat) (w : t.wfFrom d lo = true) :
    Tbl.wfFrom d lo (t.filter p) = true := by
  induction t generalizing lo with
  | nil => rfl
  | cons x t ih =>
    obtain ⟨k, v⟩ := x
    simp only [Tbl.wfFrom, Bool.and_eq_true, decide_eq_true_eq] at w
    by_cases h : p (k, v) = true
    · simp only [List.filter_cons, h, if_true, Tbl.wfFrom, Bool.and_eq_true, decide_eq_true_eq]
      exact ⟨w.1, ih _ w.2⟩
    · simp only [List.filter_cons, h]
      exact ih lo (Tbl.wfFrom_mono (by omega) w.2)

/-- Writes one after the other keep the canonical form. -/
theorem Tbl.wf_foldl_put {α β : Type} [DecidableEq α] {d : α} (l : List β) (k : β → Nat) (v : β → α) {t : Tbl α} (w : t.wf d = true) :
    (l.foldl (fun t a => Tbl.put d t (k a) (v a)) t).wf d = true := by
  induction l generalizing t with
  | nil => exact w
  | cons a l ih => exact ih (Tbl.wf_put _ _ w)

theorem Tbl.risesFrom_mono {α : Type} {t : Tbl α} {a b : Nat} (h : a ≤ b) (w : t.risesFrom b = true) : t.risesFrom a = true := by
  cases t with
  | nil => rfl
  | cons x t =>
    obtain ⟨k, v⟩ := x
    simp only [Tbl.risesFrom, Bool.and_eq_true, decide_eq_true_eq] at w ⊢
    exact ⟨by omega, w.2⟩

theorem Tbl.risesFrom_drop {α : Type} (t : Tbl α) (i lo : Nat) (w : t.risesFrom lo = true) : (t.drop i).risesFrom lo = true := by
  induction t generalizing lo with
  | nil => rfl
  | cons x t ih =>
    obtain ⟨k, v⟩ := x
    simp only [Tbl.risesFrom, Bool.and_eq_true, decide_eq_true_eq] at w
    by_cases hk : k = i
    · simp only [Tbl.drop, hk, if_true]
      exact ih lo (Tbl.risesFrom_mono (by omega) w.2)
    · simp only [Tbl.drop, hk, if_false, Tbl.risesFrom, Bool.and_eq_true, decide_eq_true_eq]
      exact ⟨w.1, ih _ w.2⟩

theorem Tbl.risesFrom_place {α : Type} (t : Tbl α) (i lo : Nat) (v : α) (hl : lo ≤ i) (w : (t.drop i).risesFrom lo = true) :
    ((t.drop i).place i v).risesFrom lo = true := by
  induction t generalizing lo with
  | nil => simp [Tbl.drop, Tbl.place, Tbl.risesFrom, hl]
  | cons x t ih =>
    obtain ⟨k, y⟩ := x
    by_cases hk : k = i
    · simp only [Tbl.drop, hk, if_true] at w ⊢
      exact ih lo hl w
    · simp only [Tbl.drop, hk, if_false, Tbl.risesFrom, Bool.and_eq_true, decide_eq_true_eq] at w
      by_cases h : i < k
      · simp only [Tbl.drop, hk, if_false, Tbl.place, h, if_true, Tbl.risesFrom, Bool.and_eq_true, decide_eq_true_eq]
        exact ⟨hl, by omega, w.2⟩
      · simp only [Tbl.drop, hk, if_false, Tbl.place, h, Tbl.risesFrom, Bool.and_eq_true, decide_eq_true_eq]
        exact ⟨w.1, ih _ (by omega) w.2⟩

/-- A write keeps the numbers rising. -/
theorem Tbl.rises_put {α : Type} [DecidableEq α] {d : α} {t : Tbl α} (i : Nat) (v : α) (w : t.risesFrom 0 = true) :
    (Tbl.put d t i v).risesFrom 0 = true := by
  unfold Tbl.put
  split
  · exact Tbl.risesFrom_drop t i 0 w
  · exact Tbl.risesFrom_place t i 0 v (Nat.zero_le _) (Tbl.risesFrom_drop t i 0 w)

end Sys2Proof.Machine
end

