-- ==== Sys2Proof/Laws/Effect.lean ====
section
/-! SUPPORT. How effects compose: the laws of `Effect`, and one for each way in which a meaning is put together. -/

namespace Sys2Proof.Machine

/-- Every part of `B` is one of `A`. -/
def Part.within (B A : List Part) : Bool := B.all fun p => A.contains p

/-- Two fields are stored at the same places. -/
def Field.twin (f g : Field) : Bool :=
  f.addr == g.addr && f.lo == g.lo && f.s1 == g.s1 && f.n1 == g.n1 && f.s2 == g.s2 && f.n2 == g.n2 && decide (f.dom = g.dom)

/-- Every field of the first list is one of the second, in the same order. -/
def Field.sub : List Field → List Field → Bool
  | [], _ => true
  | _ :: _, [] => false
  | f :: F, g :: G => if f.twin g then Field.sub F G else Field.sub (f :: F) G

/-- What one effect may touch, another may. -/
def Effect.fits (B : List Part) (Q : Option (List Field)) (A : List Part) (R : Option (List Field)) : Bool :=
  Part.within B A && match Q, R with
    | _, none => true
    | none, some _ => false
    | some F, some G => Field.sub F G

theorem KeySlot.below_refl (a : KeySlot) : a.below a = true := by simp [KeySlot.below]

theorem KeySlot.below_trans {a b c : KeySlot} (h : a.below b = true) (k : b.below c = true) : a.below c = true := by
  simp only [KeySlot.below, Bool.and_eq_true, Bool.or_eq_true, decide_eq_true_eq, Bool.not_eq_true'] at *
  constructor
  · rcases h.1 with h1 | h1
    · exact .inl h1
    · rcases k.1 with k1 | k1
      · exact .inl (h1 ▸ k1)
      · exact .inr (k1.trans h1)
  · rcases h.2 with h1 | h1
    · exact .inl h1
    · rcases k.2 with k1 | k1
      · rw [h1] at k1; exact absurd k1 (by decide)
      · exact .inr k1

theorem Fuses.below_refl (a : Fuses) : a.below a = true := by simp [Fuses.below, KeySlot.below_refl]

theorem Fuses.below_trans {a b c : Fuses} (h : a.below b = true) (k : b.below c = true) : a.below c = true := by
  simp only [Fuses.below, Bool.and_eq_true, decide_eq_true_eq] at *
  obtain ⟨⟨⟨⟨a0, a1⟩, a2⟩, a3⟩, a4⟩ := h
  obtain ⟨⟨⟨⟨b0, b1⟩, b2⟩, b3⟩, b4⟩ := k
  exact ⟨⟨⟨⟨KeySlot.below_trans a0 b0, KeySlot.below_trans a1 b1⟩, KeySlot.below_trans a2 b2⟩, KeySlot.below_trans a3 b3⟩, le_trans a4 b4⟩

theorem Part.same_refl (p : Part) (s : State) : p.same s s := by cases p <;> rfl

theorem Part.same_trans {p : Part} {s t u : State} (h : p.same s t) (k : p.same t u) : p.same s u := by
  cases p <;> exact Eq.trans k h

theorem Field.twin_refl (f : Field) : f.twin f = true := by simp [Field.twin]

theorem Field.sub_refl (F : List Field) : Field.sub F F = true := by
  induction F with
  | nil => rfl
  | cons f F ih => simp [Field.sub, Field.twin_refl, ih]

/-- A field outside the larger list is outside the smaller. -/
theorem Field.outside_of_sub {F G : List Field} {f : Field} {i j : Nat} (h : Field.sub F G = true) (o : f.outside i j G) :
    f.outside i j F := by
  induction G generalizing F with
  | nil =>
    cases F with
    | nil => exact fun g hg => absurd hg (by simp)
    | cons x F => exact absurd h (by simp [Field.sub])
  | cons y G ih =>
    cases F with
    | nil => exact fun g hg => absurd hg (by simp)
    | cons x F =>
      have oG : f.outside i j G := fun g hg => o g (List.mem_cons_of_mem _ hg)
      by_cases c : x.twin y = true
      · simp only [Field.sub, c, if_true] at h
        intro g hg
        rcases List.mem_cons.mp hg with e | e
        · subst e
          intro a b hb hd
          simp only [Field.twin, Bool.and_eq_true, beq_iff_eq, decide_eq_true_eq] at c
          obtain ⟨⟨⟨⟨⟨⟨c1, c2⟩, c3⟩, c4⟩, c5⟩, c6⟩, c7⟩ := c
          have := o y (List.mem_cons_self ..) a b (by simpa [Field.has, c4, c6] using hb) (c7 ▸ hd)
          simpa [Field.key, Field.at, c1, c2, c3, c5] using this
        · exact ih h oG g e
      · simp only [Field.sub, c] at h
        exact ih h oG

theorem Effect.refl (A : List Part) (R : Option (List Field)) (s : State) : Effect A R s s :=
  ⟨fun p _ => p.same_refl s, fun _ _ _ _ _ _ => rfl, List.prefix_refl _, le_refl _, Fuses.below_refl _, id⟩

/-- Effects follow one another. -/
theorem Effect.step {A B : List Part} {R Q : Option (List Field)} {s t u : State} (h : Effect A R s t) (k : Effect B Q t u)
    (b : Effect.fits B Q A R = true) : Effect A R s u := by
  simp only [Effect.fits, Bool.and_eq_true] at b
  refine ⟨fun p hp => Part.same_trans (h.same p hp) (k.same p fun hb => hp ?_), fun F e f i j o => ?_, h.log.trans k.log,
    le_trans h.drawn k.drawn, Fuses.below_trans h.fuses k.fuses, fun w => k.stores (h.stores w)⟩
  · simpa using List.all_eq_true.mp b.1 p hb
  · subst e
    cases Q with
    | none => exact absurd b.2 (by simp)
    | some G => exact (k.regs G rfl f i j (Field.outside_of_sub b.2 o)).trans (h.regs F rfl f i j o)

theorem Effect.fits_refl (A : List Part) (R : Option (List Field)) : Effect.fits A R A R = true := by
  cases R <;> simp [Effect.fits, Part.within, Field.sub_refl]

/-- An effect on fewer parts. -/
theorem Effect.widen {A B : List Part} {R Q : Option (List Field)} {s t : State} (k : Effect B Q s t)
    (b : Effect.fits B Q A R = true) : Effect A R s t :=
  (Effect.refl A R s).step k b

/-- The same, for a goal about what a call leaves. -/
theorem Effect.after {A B : List Part} {R Q : Option (List Field)} {s t u : State} (k : Effect B Q t u)
    (b : Effect.fits B Q A R = true) (h : Effect A R s t) : Effect A R s u :=
  h.step k b

/-- An effect on more registers. -/
theorem Effect.more {A : List Part} {F G : List Field} {s t : State} (k : Effect A (some F) s t) (b : ∀ f ∈ F, f ∈ G) :
    Effect A (some G) s t :=
  ⟨k.same, fun H e f i j o => k.regs F rfl f i j fun g hg => o g (by cases e; exact b g hg), k.log, k.drawn, k.fuses, k.stores⟩

/-- An effect on more parts. -/
theorem Effect.grow {A B : List Part} {R : Option (List Field)} {s t : State} (k : Effect A R s t) (b : ∀ p ∈ A, p ∈ B) :
    Effect B R s t :=
  ⟨fun p hp => k.same p fun h => hp (b p h), k.regs, k.log, k.drawn, k.fuses, k.stores⟩

theorem Effect.ite {A : List Part} {R : Option (List Field)} {s a b : State} {c : Prop} [Decidable c] (h : Effect A R s a)
    (k : Effect A R s b) : Effect A R s (if c then a else b) := by split <;> assumption

theorem Effect.when {A : List Part} {R : Option (List Field)} {s t : State} {c : Bool} {f : State → State} (h : Effect A R s t)
    (k : ∀ u, Effect A R u (f u)) : Effect A R s (t.when c f) := by
  unfold State.when
  split
  · exact h.step (k t) (Effect.fits_refl A R)
  · exact h

theorem Effect.each {α : Type} {A : List Part} {R : Option (List Field)} {s t : State} {l : List α} {f : State → α → State}
    (h : Effect A R s t) (k : ∀ u a, Effect A R u (f u a)) : Effect A R s (t.each l f) := by
  unfold State.each
  induction l generalizing t with
  | nil => exact h
  | cons a l ih => exact ih (h.step (k t a) (Effect.fits_refl A R))

/-- The same, where the step may use that the element is one of the list. -/
theorem Effect.eachIn {α : Type} {A : List Part} {R : Option (List Field)} {s t : State} {l : List α} {f : State → α → State}
    (h : Effect A R s t) (k : ∀ u, ∀ a ∈ l, Effect A R u (f u a)) : Effect A R s (t.each l f) := by
  unfold State.each
  induction l generalizing t with
  | nil => exact h
  | cons a l ih =>
    exact ih (h.step (k t a (List.mem_cons_self ..)) (Effect.fits_refl A R)) fun u b hb => k u b (List.mem_cons_of_mem _ hb)

/-- A state named by an equation. -/
theorem Effect.named {A : List Part} {R : Option (List Field)} {s t : State} {α : Type} {p : α × State} {a : α} (e : p = (a, t))
    (h : Effect A R s p.2) : Effect A R s t := by subst e; exact h

/-! ### One part changed -/

theorem Effect.time (s : State) (x) : Effect [.time] (some []) s { s with time := x } where
  same p hp := by cases p <;> first | rfl | exact absurd (List.mem_singleton.mpr rfl) hp
  regs _ _ _ _ _ _ := rfl
  log := List.prefix_refl _
  drawn := le_refl _
  fuses := Fuses.below_refl _
  stores w := w

theorem Effect.power (s : State) (x) : Effect [.power] (some []) s { s with power := x } where
  same p hp := by cases p <;> first | rfl | exact absurd (List.mem_singleton.mpr rfl) hp
  regs _ _ _ _ _ _ := rfl
  log := List.prefix_refl _
  drawn := le_refl _
  fuses := Fuses.below_refl _
  stores w := w

theorem Effect.faults (s : State) (x) : Effect [.faults] (some []) s { s with faults := x } where
  same p hp := by cases p <;> first | rfl | exact absurd (List.mem_singleton.mpr rfl) hp
  regs _ _ _ _ _ _ := rfl
  log := List.prefix_refl _
  drawn := le_refl _
  fuses := Fuses.below_refl _
  stores w := w

theorem Effect.host (s : State) (x) : Effect [.host] (some []) s { s with host := x } where
  same p hp := by cases p <;> first | rfl | exact absurd (List.mem_singleton.mpr rfl) hp
  regs _ _ _ _ _ _ := rfl
  log := List.prefix_refl _
  drawn := le_refl _
  fuses := Fuses.below_refl _
  stores w := w

theorem Effect.load (s : State) (x) : Effect [.load] (some []) s { s with load := x } where
  same p hp := by cases p <;> first | rfl | exact absurd (List.mem_singleton.mpr rfl) hp
  regs _ _ _ _ _ _ := rfl
  log := List.prefix_refl _
  drawn := le_refl _
  fuses := Fuses.below_refl _
  stores w := w

theorem Effect.cfg (s : State) (x) : Effect [.cfg] (some []) s { s with cfg := x } where
  same p hp := by cases p <;> first | rfl | exact absurd (List.mem_singleton.mpr rfl) hp
  regs _ _ _ _ _ _ := rfl
  log := List.prefix_refl _
  drawn := le_refl _
  fuses := Fuses.below_refl _
  stores w := w

theorem Effect.fr (s : State) (x) : Effect [.fr] (some []) s { s with fr := x } where
  same p hp := by cases p <;> first | rfl | exact absurd (List.mem_singleton.mpr rfl) hp
  regs _ _ _ _ _ _ := rfl
  log := List.prefix_refl _
  drawn := le_refl _
  fuses := Fuses.below_refl _
  stores w := w

theorem Effect.referee (s : State) (x) : Effect [.referee] (some []) s { s with referee := x } where
  same p hp := by cases p <;> first | rfl | exact absurd (List.mem_singleton.mpr rfl) hp
  regs _ _ _ _ _ _ := rfl
  log := List.prefix_refl _
  drawn := le_refl _
  fuses := Fuses.below_refl _
  stores w := w

theorem Effect.pair (s : State) (x) : Effect [.pair] (some []) s { s with pair := x } where
  same p hp := by cases p <;> first | rfl | exact absurd (List.mem_singleton.mpr rfl) hp
  regs _ _ _ _ _ _ := rfl
  log := List.prefix_refl _
  drawn := le_refl _
  fuses := Fuses.below_refl _
  stores w := w

theorem Effect.journal (s : State) (x) : Effect [.journal] (some []) s { s with journal := x } where
  same p hp := by cases p <;> first | rfl | exact absurd (List.mem_singleton.mpr rfl) hp
  regs _ _ _ _ _ _ := rfl
  log := List.prefix_refl _
  drawn := le_refl _
  fuses := Fuses.below_refl _
  stores w := w

theorem Effect.adc (s : State) (x) : Effect [.adc] (some []) s { s with adc := x } where
  same p hp := by cases p <;> first | rfl | exact absurd (List.mem_singleton.mpr rfl) hp
  regs _ _ _ _ _ _ := rfl
  log := List.prefix_refl _
  drawn := le_refl _
  fuses := Fuses.below_refl _
  stores w := w

theorem Effect.safety (s : State) (x) : Effect [.safety] (some []) s { s with safety := x } where
  same p hp := by cases p <;> first | rfl | exact absurd (List.mem_singleton.mpr rfl) hp
  regs _ _ _ _ _ _ := rfl
  log := List.prefix_refl _
  drawn := le_refl _
  fuses := Fuses.below_refl _
  stores w := w

theorem Effect.silicon (s : State) (x) : Effect [.silicon] (some []) s { s with silicon := x } where
  same p hp := by cases p <;> first | rfl | exact absurd (List.mem_singleton.mpr rfl) hp
  regs _ _ _ _ _ _ := rfl
  log := List.prefix_refl _
  drawn := le_refl _
  fuses := Fuses.below_refl _
  stores w := w

theorem Effect.pending (s : State) (x) : Effect [.pending] (some []) s { s with pending := x } where
  same p hp := by cases p <;> first | rfl | exact absurd (List.mem_singleton.mpr rfl) hp
  regs _ _ _ _ _ _ := rfl
  log := List.prefix_refl _
  drawn := le_refl _
  fuses := Fuses.below_refl _
  stores w := w

theorem Effect.hold (s : State) (i : Nat) (x) : Effect [.hold] (some []) s { s with hold := Tbl.put 0 s.hold i x } where
  same p hp := by cases p <;> first | rfl | exact absurd (List.mem_singleton.mpr rfl) hp
  regs _ _ _ _ _ _ := rfl
  log := List.prefix_refl _
  drawn := le_refl _
  fuses := Fuses.below_refl _
  stores w := by
    simp only [State.storesWf, Bool.and_eq_true] at w ⊢
    simp only [w, Tbl.wf_put, and_self]

theorem Effect.wrHold (s : State) (i : Nat) (x) : Effect [.wrHold] (some []) s { s with wrHold := Tbl.put 0 s.wrHold i x } where
  same p hp := by cases p <;> first | rfl | exact absurd (List.mem_singleton.mpr rfl) hp
  regs _ _ _ _ _ _ := rfl
  log := List.prefix_refl _
  drawn := le_refl _
  fuses := Fuses.below_refl _
  stores w := by
    simp only [State.storesWf, Bool.and_eq_true] at w ⊢
    simp only [w, Tbl.wf_put, and_self]

theorem Effect.imagesTo (s : State) (x) (h : s.images.wf [] = true → x.wf [] = true) :
    Effect [.images] (some []) s { s with images := x } where
  same p hp := by cases p <;> first | rfl | exact absurd (List.mem_singleton.mpr rfl) hp
  regs _ _ _ _ _ _ := rfl
  log := List.prefix_refl _
  drawn := le_refl _
  fuses := Fuses.below_refl _
  stores w := by
    simp only [State.storesWf, Bool.and_eq_true] at w ⊢
    simp only [w, h, and_self]

theorem Effect.images (s : State) (i : Nat) (x) : Effect [.images] (some []) s { s with images := Tbl.put [] s.images i x } :=
  Effect.imagesTo s _ (Tbl.wf_put i x)

theorem Effect.lanes (s : State) (i : Nat) (x) : Effect [.lanes] (some []) s { s with lanes := Tbl.put default s.lanes i x } where
  same p hp := by cases p <;> first | rfl | exact absurd (List.mem_singleton.mpr rfl) hp
  regs _ _ _ _ _ _ := rfl
  log := List.prefix_refl _
  drawn := le_refl _
  fuses := Fuses.below_refl _
  stores w := by
    simp only [State.storesWf, Bool.and_eq_true] at w ⊢
    simp only [w, Tbl.wf_put, and_self]

theorem Effect.chains (s : State) (i : Nat) (x) : Effect [.chains] (some []) s { s with chains := Tbl.put default s.chains i x } where
  same p hp := by cases p <;> first | rfl | exact absurd (List.mem_singleton.mpr rfl) hp
  regs _ _ _ _ _ _ := rfl
  log := List.prefix_refl _
  drawn := le_refl _
  fuses := Fuses.below_refl _
  stores w := by
    simp only [State.storesWf, Bool.and_eq_true] at w ⊢
    simp only [w, Tbl.wf_put, and_self]

theorem Effect.cells (s : State) (i : Nat) (x) : Effect [.cells] (some []) s { s with cells := Tbl.put default s.cells i x } where
  same p hp := by cases p <;> first | rfl | exact absurd (List.mem_singleton.mpr rfl) hp
  regs _ _ _ _ _ _ := rfl
  log := List.prefix_refl _
  drawn := le_refl _
  fuses := Fuses.below_refl _
  stores w := by
    simp only [State.storesWf, Bool.and_eq_true] at w ⊢
    simp only [w, Tbl.wf_put, and_self]

theorem Effect.arms (s : State) (i : Nat) (x) : Effect [.arms] (some []) s { s with arms := Tbl.put default s.arms i x } where
  same p hp := by cases p <;> first | rfl | exact absurd (List.mem_singleton.mpr rfl) hp
  regs _ _ _ _ _ _ := rfl
  log := List.prefix_refl _
  drawn := le_refl _
  fuses := Fuses.below_refl _
  stores w := by
    simp only [State.storesWf, Bool.and_eq_true] at w ⊢
    simp only [w, Tbl.wf_put, and_self]

theorem Effect.engs (s : State) (i : Nat) (x) : Effect [.engs] (some []) s { s with engs := Tbl.put default s.engs i x } where
  same p hp := by cases p <;> first | rfl | exact absurd (List.mem_singleton.mpr rfl) hp
  regs _ _ _ _ _ _ := rfl
  log := List.prefix_refl _
  drawn := le_refl _
  fuses := Fuses.below_refl _
  stores w := by
    simp only [State.storesWf, Bool.and_eq_true] at w ⊢
    simp only [w, Tbl.wf_put, and_self]

theorem Effect.convs (s : State) (i : Nat) (x) : Effect [.convs] (some []) s { s with convs := Tbl.put default s.convs i x } where
  same p hp := by cases p <;> first | rfl | exact absurd (List.mem_singleton.mpr rfl) hp
  regs _ _ _ _ _ _ := rfl
  log := List.prefix_refl _
  drawn := le_refl _
  fuses := Fuses.below_refl _
  stores w := by
    simp only [State.storesWf, Bool.and_eq_true] at w ⊢
    simp only [w, Tbl.wf_put, and_self]

theorem Effect.drives (s : State) (i : Nat) (x) : Effect [.drives] (some []) s { s with drives := Tbl.put default s.drives i x } where
  same p hp := by cases p <;> first | rfl | exact absurd (List.mem_singleton.mpr rfl) hp
  regs _ _ _ _ _ _ := rfl
  log := List.prefix_refl _
  drawn := le_refl _
  fuses := Fuses.below_refl _
  stores w := by
    simp only [State.storesWf, Bool.and_eq_true] at w ⊢
    simp only [w, Tbl.wf_put, and_self]

theorem Effect.motors (s : State) (i : Nat) (x) : Effect [.motors] (some []) s { s with motors := Tbl.put default s.motors i x } where
  same p hp := by cases p <;> first | rfl | exact absurd (List.mem_singleton.mpr rfl) hp
  regs _ _ _ _ _ _ := rfl
  log := List.prefix_refl _
  drawn := le_refl _
  fuses := Fuses.below_refl _
  stores w := by
    simp only [State.storesWf, Bool.and_eq_true] at w ⊢
    simp only [w, Tbl.wf_put, and_self]

theorem Effect.eths (s : State) (i : Nat) (x) : Effect [.eths] (some []) s { s with eths := Tbl.put default s.eths i x } where
  same p hp := by cases p <;> first | rfl | exact absurd (List.mem_singleton.mpr rfl) hp
  regs _ _ _ _ _ _ := rfl
  log := List.prefix_refl _
  drawn := le_refl _
  fuses := Fuses.below_refl _
  stores w := by
    simp only [State.storesWf, Bool.and_eq_true] at w ⊢
    simp only [w, Tbl.wf_put, and_self]

theorem Effect.canQueues (s : State) (i : Nat) (x) : Effect [.canQueues] (some []) s { s with canQueues := Tbl.put default s.canQueues i x } where
  same p hp := by cases p <;> first | rfl | exact absurd (List.mem_singleton.mpr rfl) hp
  regs _ _ _ _ _ _ := rfl
  log := List.prefix_refl _
  drawn := le_refl _
  fuses := Fuses.below_refl _
  stores w := by
    simp only [State.storesWf, Bool.and_eq_true] at w ⊢
    simp only [w, Tbl.wf_put, and_self]

theorem Effect.cans (s : State) (i : Nat) (x) : Effect [.cans] (some []) s { s with cans := Tbl.put default s.cans i x } where
  same p hp := by cases p <;> first | rfl | exact absurd (List.mem_singleton.mpr rfl) hp
  regs _ _ _ _ _ _ := rfl
  log := List.prefix_refl _
  drawn := le_refl _
  fuses := Fuses.below_refl _
  stores w := by
    simp only [State.storesWf, Bool.and_eq_true] at w ⊢
    simp only [w, Tbl.wf_put, and_self]

/-- A write of a field leaves every other field alone. -/
theorem State.rd_wr_ne (s : State) (f g : Field) (v : Nat) {i j a b : Nat} (h : g.has a b = true → g.dom = f.dom → g.key a b ≠ f.key i j) :
    (s.wr g v a b).rd f i j = s.rd f i j := by
  unfold State.wr
  split
  · rename_i hb
    split
    · rename_i hd
      unfold State.rd
      split
      · split
        · rename_i hf
          exact Tbl.look_put_ne _ _ _ _ (Ne.symm (h hb (hd.trans hf.symm)))
        · rfl
        · rfl
      · rfl
    · rename_i hd
      unfold State.rd
      split
      · split
        · rfl
        · rename_i hf
          exact Tbl.look_put_ne _ _ _ _ (Ne.symm (h hb (hd.trans hf.symm)))
        · rfl
      · rfl
    · rfl
  · rfl

theorem Effect.wr (s : State) (f : Field) (i j v : Nat) : Effect [] (some [f]) s (s.wr f v i j) where
  same p _ := by
    unfold State.wr
    split
    · split <;> cases p <;> rfl
    · exact p.same_refl s
  regs F e g a b o := by
    cases e
    exact State.rd_wr_ne s g f v fun h d => o f (List.mem_singleton.mpr rfl) i j h d
  log := by unfold State.wr; split <;> [split; skip] <;> exact List.prefix_refl _
  drawn := by unfold State.wr; split <;> [split; skip] <;> exact le_refl _
  fuses := by unfold State.wr; split <;> [split; skip] <;> exact Fuses.below_refl _
  stores w := by
    unfold State.wr
    split
    · split
      · simp only [State.storesWf, Bool.and_eq_true] at w ⊢
        simp only [w, Tbl.rises_put, and_self]
      · simp only [State.storesWf, Bool.and_eq_true] at w ⊢
        simp only [w, Tbl.rises_put, and_self]
      · exact w
    · exact w

theorem State.emit_effect (s : State) (o : Out) : Effect [.out] (some []) s (s.emit o) where
  same p hp := by cases p <;> first | rfl | exact absurd (List.mem_singleton.mpr rfl) hp
  regs _ _ _ _ _ _ := rfl
  log := List.prefix_append _ _
  drawn := le_refl _
  fuses := Fuses.below_refl _
  stores w := w

end Sys2Proof.Machine
end

