-- ==== Sys2Proof/Laws/Ops.lean ====
section
/-! SUPPORT. The laws of the register operations: a read after a write of the same field, a test that two fields never meet, and reads
of other fields after an effect. -/

namespace Sys2Proof.Machine

/-! ### Fields that never meet -/

/-- The last byte address of an instance row of a field. -/
def Field.top (f : Field) (i : Nat) : Nat := f.addr + f.s1 * i + f.s2 * (f.n2 - 1)

/-- Every instance of the two fields lies at other addresses, row by row. -/
def Field.rowsApart (f g : Field) : Bool :=
  (List.range f.n1).all fun i => (List.range g.n1).all fun a =>
    decide (f.top i < g.addr + g.s1 * a) || decide (g.top a < f.addr + f.s1 * i)

/-- All strides are multiples of `m`, and the first addresses differ modulo `m`. -/
def Field.modApart (m : Nat) (f g : Field) : Bool :=
  decide (f.s1 % m = 0) && decide (f.s2 % m = 0) && decide (g.s1 % m = 0) && decide (g.s2 % m = 0) && decide (f.addr % m ≠ g.addr % m)

/-- Two fields at other bits of words whose addresses are multiples of 4. -/
def Field.bitsApart (f g : Field) : Bool :=
  decide (f.lo ≠ g.lo) && decide (f.lo < 32) && decide (g.lo < 32) && decide (f.addr % 4 = 0) && decide (f.s1 % 4 = 0)
    && decide (f.s2 % 4 = 0) && decide (g.addr % 4 = 0) && decide (g.s1 % 4 = 0) && decide (g.s2 % 4 = 0)

/-- A test that no instances of two fields share a place. -/
def Field.apart (f g : Field) : Bool :=
  decide (f.dom ≠ g.dom) || Field.bitsApart f g
    || (decide (f.lo < 32) && decide (g.lo < 32) && decide (f.addr % 4 = 0) && decide (f.s1 % 4 = 0) && decide (f.s2 % 4 = 0)
      && decide (g.addr % 4 = 0) && decide (g.s1 % 4 = 0) && decide (g.s2 % 4 = 0)
      && (decide (f.top (f.n1 - 1) < g.addr) || decide (g.top (g.n1 - 1) < f.addr) || Field.modApart f.s1 f g || Field.modApart f.s2 f g
        || Field.modApart g.s1 f g || Field.modApart g.s2 f g || Field.rowsApart f g))

theorem Field.key_ne_of_bits {f g : Field} (h : Field.bitsApart f g = true) (i j a b : Nat) : g.key a b ≠ f.key i j := by
  simp only [Field.bitsApart, Bool.and_eq_true, decide_eq_true_eq] at h
  obtain ⟨⟨⟨⟨⟨⟨⟨⟨h0, h1⟩, h2⟩, h3⟩, h4⟩, h5⟩, h6⟩, h7⟩, h8⟩ := h
  have e1 : f.s1 * i % 4 = 0 := by rw [Nat.mul_mod, h4]; simp
  have e2 : f.s2 * j % 4 = 0 := by rw [Nat.mul_mod, h5]; simp
  have e3 : g.s1 * a % 4 = 0 := by rw [Nat.mul_mod, h7]; simp
  have e4 : g.s2 * b % 4 = 0 := by rw [Nat.mul_mod, h8]; simp
  unfold Field.key Field.at
  intro e
  omega

theorem Field.at_ne_of_mod {f g : Field} {m : Nat} (h : Field.modApart m f g = true) (i j a b : Nat) : g.at a b ≠ f.at i j := by
  simp only [Field.modApart, Bool.and_eq_true, decide_eq_true_eq] at h
  obtain ⟨⟨⟨⟨h1, h2⟩, h3⟩, h4⟩, h5⟩ := h
  have d1 := Nat.dvd_of_mod_eq_zero h1
  have d2 := Nat.dvd_of_mod_eq_zero h2
  have d3 := Nat.dvd_of_mod_eq_zero h3
  have d4 := Nat.dvd_of_mod_eq_zero h4
  obtain ⟨x1, x1e⟩ := d1.mul_right i
  obtain ⟨x2, x2e⟩ := d2.mul_right j
  obtain ⟨x3, x3e⟩ := d3.mul_right a
  obtain ⟨x4, x4e⟩ := d4.mul_right b
  intro e
  apply h5
  have e' := congrArg (· % m) e
  simp only [Field.at, x1e, x2e, x3e, x4e] at e'
  simpa [Nat.add_assoc, ← Nat.mul_add] using e'.symm

theorem Field.key_ne_of_at {f g : Field} {i j a b : Nat} (e : g.at a b ≠ f.at i j) (hf : f.lo < 32) (hg : g.lo < 32)
    (f0 : f.addr % 4 = 0) (f1 : f.s1 % 4 = 0) (f2 : f.s2 % 4 = 0) (g0 : g.addr % 4 = 0) (g1 : g.s1 % 4 = 0) (g2 : g.s2 % 4 = 0) :
    g.key a b ≠ f.key i j := by
  have e1 : f.s1 * i % 4 = 0 := by rw [Nat.mul_mod, f1]; simp
  have e2 : f.s2 * j % 4 = 0 := by rw [Nat.mul_mod, f2]; simp
  have e3 : g.s1 * a % 4 = 0 := by rw [Nat.mul_mod, g1]; simp
  have e4 : g.s2 * b % 4 = 0 := by rw [Nat.mul_mod, g2]; simp
  unfold Field.at at e
  unfold Field.key Field.at
  intro h
  apply e
  omega

theorem Field.at_le_top {f : Field} {i j : Nat} (h : f.has i j = true) : f.at i j ≤ f.top i ∧ f.top i ≤ f.top (f.n1 - 1) := by
  simp only [Field.has, Bool.and_eq_true, decide_eq_true_eq] at h
  have h1 : f.s2 * j ≤ f.s2 * (f.n2 - 1) := Nat.mul_le_mul_left _ (by omega)
  have h2 : f.s1 * i ≤ f.s1 * (f.n1 - 1) := Nat.mul_le_mul_left _ (by omega)
  unfold Field.at Field.top
  omega

/-- Instances of fields that pass the test are stored at different places. -/
theorem Field.key_ne {f g : Field} (h : f.apart g = true) {i j a b : Nat} (hf : f.has i j = true) (hg : g.has a b = true)
    (d : g.dom = f.dom) : g.key a b ≠ f.key i j := by
  unfold Field.apart at h
  rcases (Bool.or_eq_true _ _).mp h with h | h
  · rcases (Bool.or_eq_true _ _).mp h with h | h
    · exact absurd d.symm (of_decide_eq_true h)
    · exact Field.key_ne_of_bits h i j a b
  · obtain ⟨h, k⟩ := (Bool.and_eq_true _ _).mp h
    simp only [Bool.and_eq_true, decide_eq_true_eq] at h
    obtain ⟨⟨⟨⟨⟨⟨⟨h1, h2⟩, h3⟩, h4⟩, h5⟩, h6⟩, h7⟩, h8⟩ := h
    refine Field.key_ne_of_at ?_ h1 h2 h3 h4 h5 h6 h7 h8
    obtain ⟨tf1, tf2⟩ := Field.at_le_top hf
    obtain ⟨tg1, tg2⟩ := Field.at_le_top hg
    have lf : f.addr + f.s1 * i ≤ f.at i j := by unfold Field.at; omega
    have lg : g.addr + g.s1 * a ≤ g.at a b := by unfold Field.at; omega
    simp only [Bool.or_eq_true, decide_eq_true_eq] at k
    rcases k with (((((k | k) | k) | k) | k) | k) | k
    · intro e; omega
    · intro e; omega
    · exact Field.at_ne_of_mod k i j a b
    · exact Field.at_ne_of_mod k i j a b
    · exact Field.at_ne_of_mod k i j a b
    · exact Field.at_ne_of_mod k i j a b
    · simp only [Field.has, Bool.and_eq_true, decide_eq_true_eq] at hf hg
      have k1 := List.all_eq_true.mp (List.all_eq_true.mp k i (List.mem_range.mpr hf.1)) a (List.mem_range.mpr hg.1)
      simp only [Bool.or_eq_true, decide_eq_true_eq] at k1
      intro e
      omega

/-! ### Reads -/

/-- A read of an instance that the register does not have. -/
theorem State.rd_outside {s t : State} {f : Field} {i j : Nat} (h : f.has i j = false) : t.rd f i j = s.rd f i j := by
  simp [State.rd, h]

/-- A read after a write of the same field. -/
theorem State.rd_wr_same (s : State) (f : Field) (v i j : Nat) (h : f.has i j = true) (d : f.dom ≠ .fixed) :
    (s.wr f v i j).rd f i j = v % 2 ^ f.width := by
  unfold State.wr State.rd
  cases e : f.dom
  · simp [h]
  · simp [h]
  · exact absurd e d

/-- A read of a field after a write of another. -/
theorem State.rd_wr_apart (s : State) {f g : Field} (v i j a b : Nat) (h : f.apart g = true) : (s.wr g v a b).rd f i j = s.rd f i j := by
  cases hf : f.has i j
  · exact State.rd_outside hf
  · exact State.rd_wr_ne s f g v fun hg d => Field.key_ne h hf hg d

/-- A read of a field after a write of the same field in another instance, in a register that repeats with one stride. -/
theorem State.rd_wr_other (s : State) (f : Field) (v i a : Nat) (h : i ≠ a) (p : 0 < f.s1) :
    (s.wr f v a).rd f i = s.rd f i := by
  refine State.rd_wr_ne s f f v fun _ _ e => h ?_
  unfold Field.key Field.at at e
  have : f.s1 * a = f.s1 * i := by omega
  exact (Nat.eq_of_mul_eq_mul_left p this).symm

/-- What an effect that names its registers leaves of another field. -/
theorem Effect.rd {A : List Part} {F : List Field} {s t : State} (k : Effect A (some F) s t) (f : Field) (i j : Nat)
    (h : (F.all fun g => f.apart g) = true) : t.rd f i j = s.rd f i j := by
  cases hf : f.has i j
  · exact State.rd_outside hf
  · exact k.regs F rfl f i j fun g hg a b hb hd => Field.key_ne (List.all_eq_true.mp h g hg) hf hb hd

end Sys2Proof.Machine
end

