-- ==== Sys2Proof/Laws/State.lean ====
section
/-! SUPPORT. One lemma for every part of the state and every update: what an update leaves, and what it changes. -/

namespace Sys2Proof.Machine

@[simp] theorem State.modLane_silicon (s : State) (n : Nat) (f : LaneSt → LaneSt) : (s.modLane n f).silicon = s.silicon := rfl
@[simp] theorem State.modLane_fuses (s : State) (n : Nat) (f : LaneSt → LaneSt) : (s.modLane n f).fuses = s.fuses := rfl
@[simp] theorem State.modLane_regs (s : State) (n : Nat) (f : LaneSt → LaneSt) : (s.modLane n f).regs = s.regs := rfl
@[simp] theorem State.modLane_keep (s : State) (n : Nat) (f : LaneSt → LaneSt) : (s.modLane n f).keep = s.keep := rfl
@[simp] theorem State.modLane_hold (s : State) (n : Nat) (f : LaneSt → LaneSt) : (s.modLane n f).hold = s.hold := rfl
@[simp] theorem State.modLane_wrHold (s : State) (n : Nat) (f : LaneSt → LaneSt) : (s.modLane n f).wrHold = s.wrHold := rfl
@[simp] theorem State.modLane_time (s : State) (n : Nat) (f : LaneSt → LaneSt) : (s.modLane n f).time = s.time := rfl
@[simp] theorem State.modLane_power (s : State) (n : Nat) (f : LaneSt → LaneSt) : (s.modLane n f).power = s.power := rfl
@[simp] theorem State.modLane_faults (s : State) (n : Nat) (f : LaneSt → LaneSt) : (s.modLane n f).faults = s.faults := rfl
@[simp] theorem State.modLane_host (s : State) (n : Nat) (f : LaneSt → LaneSt) : (s.modLane n f).host = s.host := rfl
@[simp] theorem State.modLane_load (s : State) (n : Nat) (f : LaneSt → LaneSt) : (s.modLane n f).load = s.load := rfl
@[simp] theorem State.modLane_cfg (s : State) (n : Nat) (f : LaneSt → LaneSt) : (s.modLane n f).cfg = s.cfg := rfl
@[simp] theorem State.modLane_images (s : State) (n : Nat) (f : LaneSt → LaneSt) : (s.modLane n f).images = s.images := rfl
@[simp] theorem State.modLane_fr (s : State) (n : Nat) (f : LaneSt → LaneSt) : (s.modLane n f).fr = s.fr := rfl
@[simp] theorem State.modLane_chains (s : State) (n : Nat) (f : LaneSt → LaneSt) : (s.modLane n f).chains = s.chains := rfl
@[simp] theorem State.modLane_cells (s : State) (n : Nat) (f : LaneSt → LaneSt) : (s.modLane n f).cells = s.cells := rfl
@[simp] theorem State.modLane_arms (s : State) (n : Nat) (f : LaneSt → LaneSt) : (s.modLane n f).arms = s.arms := rfl
@[simp] theorem State.modLane_engs (s : State) (n : Nat) (f : LaneSt → LaneSt) : (s.modLane n f).engs = s.engs := rfl
@[simp] theorem State.modLane_convs (s : State) (n : Nat) (f : LaneSt → LaneSt) : (s.modLane n f).convs = s.convs := rfl
@[simp] theorem State.modLane_referee (s : State) (n : Nat) (f : LaneSt → LaneSt) : (s.modLane n f).referee = s.referee := rfl
@[simp] theorem State.modLane_pair (s : State) (n : Nat) (f : LaneSt → LaneSt) : (s.modLane n f).pair = s.pair := rfl
@[simp] theorem State.modLane_journal (s : State) (n : Nat) (f : LaneSt → LaneSt) : (s.modLane n f).journal = s.journal := rfl
@[simp] theorem State.modLane_adc (s : State) (n : Nat) (f : LaneSt → LaneSt) : (s.modLane n f).adc = s.adc := rfl
@[simp] theorem State.modLane_drives (s : State) (n : Nat) (f : LaneSt → LaneSt) : (s.modLane n f).drives = s.drives := rfl
@[simp] theorem State.modLane_motors (s : State) (n : Nat) (f : LaneSt → LaneSt) : (s.modLane n f).motors = s.motors := rfl
@[simp] theorem State.modLane_safety (s : State) (n : Nat) (f : LaneSt → LaneSt) : (s.modLane n f).safety = s.safety := rfl
@[simp] theorem State.modLane_eths (s : State) (n : Nat) (f : LaneSt → LaneSt) : (s.modLane n f).eths = s.eths := rfl
@[simp] theorem State.modLane_canQueues (s : State) (n : Nat) (f : LaneSt → LaneSt) : (s.modLane n f).canQueues = s.canQueues := rfl
@[simp] theorem State.modLane_cans (s : State) (n : Nat) (f : LaneSt → LaneSt) : (s.modLane n f).cans = s.cans := rfl
@[simp] theorem State.modLane_out (s : State) (n : Nat) (f : LaneSt → LaneSt) : (s.modLane n f).out = s.out := rfl
@[simp] theorem State.modLane_drawn (s : State) (n : Nat) (f : LaneSt → LaneSt) : (s.modLane n f).drawn = s.drawn := rfl
@[simp] theorem State.modLane_pending (s : State) (n : Nat) (f : LaneSt → LaneSt) : (s.modLane n f).pending = s.pending := rfl
@[simp] theorem State.modLane_rd (s : State) (n : Nat) (f : LaneSt → LaneSt) (g : Field) (i j : Nat) : (s.modLane n f).rd g i j = s.rd g i j := rfl
@[simp] theorem State.modLane_same (s : State) (n : Nat) (f : LaneSt → LaneSt) : (s.modLane n f).lane n = f (s.lane n) := Tbl.look_put_same _ _ _ _
theorem State.modLane_other (s : State) (n : Nat) (f : LaneSt → LaneSt) {m : Nat} (h : m ≠ n) : (s.modLane n f).lane m = s.lane m := Tbl.look_put_ne _ _ _ _ h

@[simp] theorem State.modChain_silicon (s : State) (n : Nat) (f : ChainSt → ChainSt) : (s.modChain n f).silicon = s.silicon := rfl
@[simp] theorem State.modChain_fuses (s : State) (n : Nat) (f : ChainSt → ChainSt) : (s.modChain n f).fuses = s.fuses := rfl
@[simp] theorem State.modChain_regs (s : State) (n : Nat) (f : ChainSt → ChainSt) : (s.modChain n f).regs = s.regs := rfl
@[simp] theorem State.modChain_keep (s : State) (n : Nat) (f : ChainSt → ChainSt) : (s.modChain n f).keep = s.keep := rfl
@[simp] theorem State.modChain_hold (s : State) (n : Nat) (f : ChainSt → ChainSt) : (s.modChain n f).hold = s.hold := rfl
@[simp] theorem State.modChain_wrHold (s : State) (n : Nat) (f : ChainSt → ChainSt) : (s.modChain n f).wrHold = s.wrHold := rfl
@[simp] theorem State.modChain_time (s : State) (n : Nat) (f : ChainSt → ChainSt) : (s.modChain n f).time = s.time := rfl
@[simp] theorem State.modChain_power (s : State) (n : Nat) (f : ChainSt → ChainSt) : (s.modChain n f).power = s.power := rfl
@[simp] theorem State.modChain_faults (s : State) (n : Nat) (f : ChainSt → ChainSt) : (s.modChain n f).faults = s.faults := rfl
@[simp] theorem State.modChain_host (s : State) (n : Nat) (f : ChainSt → ChainSt) : (s.modChain n f).host = s.host := rfl
@[simp] theorem State.modChain_load (s : State) (n : Nat) (f : ChainSt → ChainSt) : (s.modChain n f).load = s.load := rfl
@[simp] theorem State.modChain_cfg (s : State) (n : Nat) (f : ChainSt → ChainSt) : (s.modChain n f).cfg = s.cfg := rfl
@[simp] theorem State.modChain_images (s : State) (n : Nat) (f : ChainSt → ChainSt) : (s.modChain n f).images = s.images := rfl
@[simp] theorem State.modChain_fr (s : State) (n : Nat) (f : ChainSt → ChainSt) : (s.modChain n f).fr = s.fr := rfl
@[simp] theorem State.modChain_lanes (s : State) (n : Nat) (f : ChainSt → ChainSt) : (s.modChain n f).lanes = s.lanes := rfl
@[simp] theorem State.modChain_cells (s : State) (n : Nat) (f : ChainSt → ChainSt) : (s.modChain n f).cells = s.cells := rfl
@[simp] theorem State.modChain_arms (s : State) (n : Nat) (f : ChainSt → ChainSt) : (s.modChain n f).arms = s.arms := rfl
@[simp] theorem State.modChain_engs (s : State) (n : Nat) (f : ChainSt → ChainSt) : (s.modChain n f).engs = s.engs := rfl
@[simp] theorem State.modChain_convs (s : State) (n : Nat) (f : ChainSt → ChainSt) : (s.modChain n f).convs = s.convs := rfl
@[simp] theorem State.modChain_referee (s : State) (n : Nat) (f : ChainSt → ChainSt) : (s.modChain n f).referee = s.referee := rfl
@[simp] theorem State.modChain_pair (s : State) (n : Nat) (f : ChainSt → ChainSt) : (s.modChain n f).pair = s.pair := rfl
@[simp] theorem State.modChain_journal (s : State) (n : Nat) (f : ChainSt → ChainSt) : (s.modChain n f).journal = s.journal := rfl
@[simp] theorem State.modChain_adc (s : State) (n : Nat) (f : ChainSt → ChainSt) : (s.modChain n f).adc = s.adc := rfl
@[simp] theorem State.modChain_drives (s : State) (n : Nat) (f : ChainSt → ChainSt) : (s.modChain n f).drives = s.drives := rfl
@[simp] theorem State.modChain_motors (s : State) (n : Nat) (f : ChainSt → ChainSt) : (s.modChain n f).motors = s.motors := rfl
@[simp] theorem State.modChain_safety (s : State) (n : Nat) (f : ChainSt → ChainSt) : (s.modChain n f).safety = s.safety := rfl
@[simp] theorem State.modChain_eths (s : State) (n : Nat) (f : ChainSt → ChainSt) : (s.modChain n f).eths = s.eths := rfl
@[simp] theorem State.modChain_canQueues (s : State) (n : Nat) (f : ChainSt → ChainSt) : (s.modChain n f).canQueues = s.canQueues := rfl
@[simp] theorem State.modChain_cans (s : State) (n : Nat) (f : ChainSt → ChainSt) : (s.modChain n f).cans = s.cans := rfl
@[simp] theorem State.modChain_out (s : State) (n : Nat) (f : ChainSt → ChainSt) : (s.modChain n f).out = s.out := rfl
@[simp] theorem State.modChain_drawn (s : State) (n : Nat) (f : ChainSt → ChainSt) : (s.modChain n f).drawn = s.drawn := rfl
@[simp] theorem State.modChain_pending (s : State) (n : Nat) (f : ChainSt → ChainSt) : (s.modChain n f).pending = s.pending := rfl
@[simp] theorem State.modChain_rd (s : State) (n : Nat) (f : ChainSt → ChainSt) (g : Field) (i j : Nat) : (s.modChain n f).rd g i j = s.rd g i j := rfl
@[simp] theorem State.modChain_same (s : State) (n : Nat) (f : ChainSt → ChainSt) : (s.modChain n f).chain n = f (s.chain n) := Tbl.look_put_same _ _ _ _
theorem State.modChain_other (s : State) (n : Nat) (f : ChainSt → ChainSt) {m : Nat} (h : m ≠ n) : (s.modChain n f).chain m = s.chain m := Tbl.look_put_ne _ _ _ _ h

@[simp] theorem State.modCell_silicon (s : State) (n : Nat) (f : CellMem → CellMem) : (s.modCell n f).silicon = s.silicon := rfl
@[simp] theorem State.modCell_fuses (s : State) (n : Nat) (f : CellMem → CellMem) : (s.modCell n f).fuses = s.fuses := rfl
@[simp] theorem State.modCell_regs (s : State) (n : Nat) (f : CellMem → CellMem) : (s.modCell n f).regs = s.regs := rfl
@[simp] theorem State.modCell_keep (s : State) (n : Nat) (f : CellMem → CellMem) : (s.modCell n f).keep = s.keep := rfl
@[simp] theorem State.modCell_hold (s : State) (n : Nat) (f : CellMem → CellMem) : (s.modCell n f).hold = s.hold := rfl
@[simp] theorem State.modCell_wrHold (s : State) (n : Nat) (f : CellMem → CellMem) : (s.modCell n f).wrHold = s.wrHold := rfl
@[simp] theorem State.modCell_time (s : State) (n : Nat) (f : CellMem → CellMem) : (s.modCell n f).time = s.time := rfl
@[simp] theorem State.modCell_power (s : State) (n : Nat) (f : CellMem → CellMem) : (s.modCell n f).power = s.power := rfl
@[simp] theorem State.modCell_faults (s : State) (n : Nat) (f : CellMem → CellMem) : (s.modCell n f).faults = s.faults := rfl
@[simp] theorem State.modCell_host (s : State) (n : Nat) (f : CellMem → CellMem) : (s.modCell n f).host = s.host := rfl
@[simp] theorem State.modCell_load (s : State) (n : Nat) (f : CellMem → CellMem) : (s.modCell n f).load = s.load := rfl
@[simp] theorem State.modCell_cfg (s : State) (n : Nat) (f : CellMem → CellMem) : (s.modCell n f).cfg = s.cfg := rfl
@[simp] theorem State.modCell_images (s : State) (n : Nat) (f : CellMem → CellMem) : (s.modCell n f).images = s.images := rfl
@[simp] theorem State.modCell_fr (s : State) (n : Nat) (f : CellMem → CellMem) : (s.modCell n f).fr = s.fr := rfl
@[simp] theorem State.modCell_lanes (s : State) (n : Nat) (f : CellMem → CellMem) : (s.modCell n f).lanes = s.lanes := rfl
@[simp] theorem State.modCell_chains (s : State) (n : Nat) (f : CellMem → CellMem) : (s.modCell n f).chains = s.chains := rfl
@[simp] theorem State.modCell_arms (s : State) (n : Nat) (f : CellMem → CellMem) : (s.modCell n f).arms = s.arms := rfl
@[simp] theorem State.modCell_engs (s : State) (n : Nat) (f : CellMem → CellMem) : (s.modCell n f).engs = s.engs := rfl
@[simp] theorem State.modCell_convs (s : State) (n : Nat) (f : CellMem → CellMem) : (s.modCell n f).convs = s.convs := rfl
@[simp] theorem State.modCell_referee (s : State) (n : Nat) (f : CellMem → CellMem) : (s.modCell n f).referee = s.referee := rfl
@[simp] theorem State.modCell_pair (s : State) (n : Nat) (f : CellMem → CellMem) : (s.modCell n f).pair = s.pair := rfl
@[simp] theorem State.modCell_journal (s : State) (n : Nat) (f : CellMem → CellMem) : (s.modCell n f).journal = s.journal := rfl
@[simp] theorem State.modCell_adc (s : State) (n : Nat) (f : CellMem → CellMem) : (s.modCell n f).adc = s.adc := rfl
@[simp] theorem State.modCell_drives (s : State) (n : Nat) (f : CellMem → CellMem) : (s.modCell n f).drives = s.drives := rfl
@[simp] theorem State.modCell_motors (s : State) (n : Nat) (f : CellMem → CellMem) : (s.modCell n f).motors = s.motors := rfl
@[simp] theorem State.modCell_safety (s : State) (n : Nat) (f : CellMem → CellMem) : (s.modCell n f).safety = s.safety := rfl
@[simp] theorem State.modCell_eths (s : State) (n : Nat) (f : CellMem → CellMem) : (s.modCell n f).eths = s.eths := rfl
@[simp] theorem State.modCell_canQueues (s : State) (n : Nat) (f : CellMem → CellMem) : (s.modCell n f).canQueues = s.canQueues := rfl
@[simp] theorem State.modCell_cans (s : State) (n : Nat) (f : CellMem → CellMem) : (s.modCell n f).cans = s.cans := rfl
@[simp] theorem State.modCell_out (s : State) (n : Nat) (f : CellMem → CellMem) : (s.modCell n f).out = s.out := rfl
@[simp] theorem State.modCell_drawn (s : State) (n : Nat) (f : CellMem → CellMem) : (s.modCell n f).drawn = s.drawn := rfl
@[simp] theorem State.modCell_pending (s : State) (n : Nat) (f : CellMem → CellMem) : (s.modCell n f).pending = s.pending := rfl
@[simp] theorem State.modCell_rd (s : State) (n : Nat) (f : CellMem → CellMem) (g : Field) (i j : Nat) : (s.modCell n f).rd g i j = s.rd g i j := rfl
@[simp] theorem State.modCell_same (s : State) (n : Nat) (f : CellMem → CellMem) : (s.modCell n f).cell n = f (s.cell n) := Tbl.look_put_same _ _ _ _
theorem State.modCell_other (s : State) (n : Nat) (f : CellMem → CellMem) {m : Nat} (h : m ≠ n) : (s.modCell n f).cell m = s.cell m := Tbl.look_put_ne _ _ _ _ h

@[simp] theorem State.modArm_silicon (s : State) (n : Nat) (f : ArmSt → ArmSt) : (s.modArm n f).silicon = s.silicon := rfl
@[simp] theorem State.modArm_fuses (s : State) (n : Nat) (f : ArmSt → ArmSt) : (s.modArm n f).fuses = s.fuses := rfl
@[simp] theorem State.modArm_regs (s : State) (n : Nat) (f : ArmSt → ArmSt) : (s.modArm n f).regs = s.regs := rfl
@[simp] theorem State.modArm_keep (s : State) (n : Nat) (f : ArmSt → ArmSt) : (s.modArm n f).keep = s.keep := rfl
@[simp] theorem State.modArm_hold (s : State) (n : Nat) (f : ArmSt → ArmSt) : (s.modArm n f).hold = s.hold := rfl
@[simp] theorem State.modArm_wrHold (s : State) (n : Nat) (f : ArmSt → ArmSt) : (s.modArm n f).wrHold = s.wrHold := rfl
@[simp] theorem State.modArm_time (s : State) (n : Nat) (f : ArmSt → ArmSt) : (s.modArm n f).time = s.time := rfl
@[simp] theorem State.modArm_power (s : State) (n : Nat) (f : ArmSt → ArmSt) : (s.modArm n f).power = s.power := rfl
@[simp] theorem State.modArm_faults (s : State) (n : Nat) (f : ArmSt → ArmSt) : (s.modArm n f).faults = s.faults := rfl
@[simp] theorem State.modArm_host (s : State) (n : Nat) (f : ArmSt → ArmSt) : (s.modArm n f).host = s.host := rfl
@[simp] theorem State.modArm_load (s : State) (n : Nat) (f : ArmSt → ArmSt) : (s.modArm n f).load = s.load := rfl
@[simp] theorem State.modArm_cfg (s : State) (n : Nat) (f : ArmSt → ArmSt) : (s.modArm n f).cfg = s.cfg := rfl
@[simp] theorem State.modArm_images (s : State) (n : Nat) (f : ArmSt → ArmSt) : (s.modArm n f).images = s.images := rfl
@[simp] theorem State.modArm_fr (s : State) (n : Nat) (f : ArmSt → ArmSt) : (s.modArm n f).fr = s.fr := rfl
@[simp] theorem State.modArm_lanes (s : State) (n : Nat) (f : ArmSt → ArmSt) : (s.modArm n f).lanes = s.lanes := rfl
@[simp] theorem State.modArm_chains (s : State) (n : Nat) (f : ArmSt → ArmSt) : (s.modArm n f).chains = s.chains := rfl
@[simp] theorem State.modArm_cells (s : State) (n : Nat) (f : ArmSt → ArmSt) : (s.modArm n f).cells = s.cells := rfl
@[simp] theorem State.modArm_engs (s : State) (n : Nat) (f : ArmSt → ArmSt) : (s.modArm n f).engs = s.engs := rfl
@[simp] theorem State.modArm_convs (s : State) (n : Nat) (f : ArmSt → ArmSt) : (s.modArm n f).convs = s.convs := rfl
@[simp] theorem State.modArm_referee (s : State) (n : Nat) (f : ArmSt → ArmSt) : (s.modArm n f).referee = s.referee := rfl
@[simp] theorem State.modArm_pair (s : State) (n : Nat) (f : ArmSt → ArmSt) : (s.modArm n f).pair = s.pair := rfl
@[simp] theorem State.modArm_journal (s : State) (n : Nat) (f : ArmSt → ArmSt) : (s.modArm n f).journal = s.journal := rfl
@[simp] theorem State.modArm_adc (s : State) (n : Nat) (f : ArmSt → ArmSt) : (s.modArm n f).adc = s.adc := rfl
@[simp] theorem State.modArm_drives (s : State) (n : Nat) (f : ArmSt → ArmSt) : (s.modArm n f).drives = s.drives := rfl
@[simp] theorem State.modArm_motors (s : State) (n : Nat) (f : ArmSt → ArmSt) : (s.modArm n f).motors = s.motors := rfl
@[simp] theorem State.modArm_safety (s : State) (n : Nat) (f : ArmSt → ArmSt) : (s.modArm n f).safety = s.safety := rfl
@[simp] theorem State.modArm_eths (s : State) (n : Nat) (f : ArmSt → ArmSt) : (s.modArm n f).eths = s.eths := rfl
@[simp] theorem State.modArm_canQueues (s : State) (n : Nat) (f : ArmSt → ArmSt) : (s.modArm n f).canQueues = s.canQueues := rfl
@[simp] theorem State.modArm_cans (s : State) (n : Nat) (f : ArmSt → ArmSt) : (s.modArm n f).cans = s.cans := rfl
@[simp] theorem State.modArm_out (s : State) (n : Nat) (f : ArmSt → ArmSt) : (s.modArm n f).out = s.out := rfl
@[simp] theorem State.modArm_drawn (s : State) (n : Nat) (f : ArmSt → ArmSt) : (s.modArm n f).drawn = s.drawn := rfl
@[simp] theorem State.modArm_pending (s : State) (n : Nat) (f : ArmSt → ArmSt) : (s.modArm n f).pending = s.pending := rfl
@[simp] theorem State.modArm_rd (s : State) (n : Nat) (f : ArmSt → ArmSt) (g : Field) (i j : Nat) : (s.modArm n f).rd g i j = s.rd g i j := rfl
@[simp] theorem State.modArm_same (s : State) (n : Nat) (f : ArmSt → ArmSt) : (s.modArm n f).arm n = f (s.arm n) := Tbl.look_put_same _ _ _ _
theorem State.modArm_other (s : State) (n : Nat) (f : ArmSt → ArmSt) {m : Nat} (h : m ≠ n) : (s.modArm n f).arm m = s.arm m := Tbl.look_put_ne _ _ _ _ h

@[simp] theorem State.modEng_silicon (s : State) (n : Nat) (f : EngSt → EngSt) : (s.modEng n f).silicon = s.silicon := rfl
@[simp] theorem State.modEng_fuses (s : State) (n : Nat) (f : EngSt → EngSt) : (s.modEng n f).fuses = s.fuses := rfl
@[simp] theorem State.modEng_regs (s : State) (n : Nat) (f : EngSt → EngSt) : (s.modEng n f).regs = s.regs := rfl
@[simp] theorem State.modEng_keep (s : State) (n : Nat) (f : EngSt → EngSt) : (s.modEng n f).keep = s.keep := rfl
@[simp] theorem State.modEng_hold (s : State) (n : Nat) (f : EngSt → EngSt) : (s.modEng n f).hold = s.hold := rfl
@[simp] theorem State.modEng_wrHold (s : State) (n : Nat) (f : EngSt → EngSt) : (s.modEng n f).wrHold = s.wrHold := rfl
@[simp] theorem State.modEng_time (s : State) (n : Nat) (f : EngSt → EngSt) : (s.modEng n f).time = s.time := rfl
@[simp] theorem State.modEng_power (s : State) (n : Nat) (f : EngSt → EngSt) : (s.modEng n f).power = s.power := rfl
@[simp] theorem State.modEng_faults (s : State) (n : Nat) (f : EngSt → EngSt) : (s.modEng n f).faults = s.faults := rfl
@[simp] theorem State.modEng_host (s : State) (n : Nat) (f : EngSt → EngSt) : (s.modEng n f).host = s.host := rfl
@[simp] theorem State.modEng_load (s : State) (n : Nat) (f : EngSt → EngSt) : (s.modEng n f).load = s.load := rfl
@[simp] theorem State.modEng_cfg (s : State) (n : Nat) (f : EngSt → EngSt) : (s.modEng n f).cfg = s.cfg := rfl
@[simp] theorem State.modEng_images (s : State) (n : Nat) (f : EngSt → EngSt) : (s.modEng n f).images = s.images := rfl
@[simp] theorem State.modEng_fr (s : State) (n : Nat) (f : EngSt → EngSt) : (s.modEng n f).fr = s.fr := rfl
@[simp] theorem State.modEng_lanes (s : State) (n : Nat) (f : EngSt → EngSt) : (s.modEng n f).lanes = s.lanes := rfl
@[simp] theorem State.modEng_chains (s : State) (n : Nat) (f : EngSt → EngSt) : (s.modEng n f).chains = s.chains := rfl
@[simp] theorem State.modEng_cells (s : State) (n : Nat) (f : EngSt → EngSt) : (s.modEng n f).cells = s.cells := rfl
@[simp] theorem State.modEng_arms (s : State) (n : Nat) (f : EngSt → EngSt) : (s.modEng n f).arms = s.arms := rfl
@[simp] theorem State.modEng_convs (s : State) (n : Nat) (f : EngSt → EngSt) : (s.modEng n f).convs = s.convs := rfl
@[simp] theorem State.modEng_referee (s : State) (n : Nat) (f : EngSt → EngSt) : (s.modEng n f).referee = s.referee := rfl
@[simp] theorem State.modEng_pair (s : State) (n : Nat) (f : EngSt → EngSt) : (s.modEng n f).pair = s.pair := rfl
@[simp] theorem State.modEng_journal (s : State) (n : Nat) (f : EngSt → EngSt) : (s.modEng n f).journal = s.journal := rfl
@[simp] theorem State.modEng_adc (s : State) (n : Nat) (f : EngSt → EngSt) : (s.modEng n f).adc = s.adc := rfl
@[simp] theorem State.modEng_drives (s : State) (n : Nat) (f : EngSt → EngSt) : (s.modEng n f).drives = s.drives := rfl
@[simp] theorem State.modEng_motors (s : State) (n : Nat) (f : EngSt → EngSt) : (s.modEng n f).motors = s.motors := rfl
@[simp] theorem State.modEng_safety (s : State) (n : Nat) (f : EngSt → EngSt) : (s.modEng n f).safety = s.safety := rfl
@[simp] theorem State.modEng_eths (s : State) (n : Nat) (f : EngSt → EngSt) : (s.modEng n f).eths = s.eths := rfl
@[simp] theorem State.modEng_canQueues (s : State) (n : Nat) (f : EngSt → EngSt) : (s.modEng n f).canQueues = s.canQueues := rfl
@[simp] theorem State.modEng_cans (s : State) (n : Nat) (f : EngSt → EngSt) : (s.modEng n f).cans = s.cans := rfl
@[simp] theorem State.modEng_out (s : State) (n : Nat) (f : EngSt → EngSt) : (s.modEng n f).out = s.out := rfl
@[simp] theorem State.modEng_drawn (s : State) (n : Nat) (f : EngSt → EngSt) : (s.modEng n f).drawn = s.drawn := rfl
@[simp] theorem State.modEng_pending (s : State) (n : Nat) (f : EngSt → EngSt) : (s.modEng n f).pending = s.pending := rfl
@[simp] theorem State.modEng_rd (s : State) (n : Nat) (f : EngSt → EngSt) (g : Field) (i j : Nat) : (s.modEng n f).rd g i j = s.rd g i j := rfl
@[simp] theorem State.modEng_same (s : State) (n : Nat) (f : EngSt → EngSt) : (s.modEng n f).eng n = f (s.eng n) := Tbl.look_put_same _ _ _ _
theorem State.modEng_other (s : State) (n : Nat) (f : EngSt → EngSt) {m : Nat} (h : m ≠ n) : (s.modEng n f).eng m = s.eng m := Tbl.look_put_ne _ _ _ _ h

@[simp] theorem State.modConv_silicon (s : State) (n : Nat) (f : ConvSt → ConvSt) : (s.modConv n f).silicon = s.silicon := rfl
@[simp] theorem State.modConv_fuses (s : State) (n : Nat) (f : ConvSt → ConvSt) : (s.modConv n f).fuses = s.fuses := rfl
@[simp] theorem State.modConv_regs (s : State) (n : Nat) (f : ConvSt → ConvSt) : (s.modConv n f).regs = s.regs := rfl
@[simp] theorem State.modConv_keep (s : State) (n : Nat) (f : ConvSt → ConvSt) : (s.modConv n f).keep = s.keep := rfl
@[simp] theorem State.modConv_hold (s : State) (n : Nat) (f : ConvSt → ConvSt) : (s.modConv n f).hold = s.hold := rfl
@[simp] theorem State.modConv_wrHold (s : State) (n : Nat) (f : ConvSt → ConvSt) : (s.modConv n f).wrHold = s.wrHold := rfl
@[simp] theorem State.modConv_time (s : State) (n : Nat) (f : ConvSt → ConvSt) : (s.modConv n f).time = s.time := rfl
@[simp] theorem State.modConv_power (s : State) (n : Nat) (f : ConvSt → ConvSt) : (s.modConv n f).power = s.power := rfl
@[simp] theorem State.modConv_faults (s : State) (n : Nat) (f : ConvSt → ConvSt) : (s.modConv n f).faults = s.faults := rfl
@[simp] theorem State.modConv_host (s : State) (n : Nat) (f : ConvSt → ConvSt) : (s.modConv n f).host = s.host := rfl
@[simp] theorem State.modConv_load (s : State) (n : Nat) (f : ConvSt → ConvSt) : (s.modConv n f).load = s.load := rfl
@[simp] theorem State.modConv_cfg (s : State) (n : Nat) (f : ConvSt → ConvSt) : (s.modConv n f).cfg = s.cfg := rfl
@[simp] theorem State.modConv_images (s : State) (n : Nat) (f : ConvSt → ConvSt) : (s.modConv n f).images = s.images := rfl
@[simp] theorem State.modConv_fr (s : State) (n : Nat) (f : ConvSt → ConvSt) : (s.modConv n f).fr = s.fr := rfl
@[simp] theorem State.modConv_lanes (s : State) (n : Nat) (f : ConvSt → ConvSt) : (s.modConv n f).lanes = s.lanes := rfl
@[simp] theorem State.modConv_chains (s : State) (n : Nat) (f : ConvSt → ConvSt) : (s.modConv n f).chains = s.chains := rfl
@[simp] theorem State.modConv_cells (s : State) (n : Nat) (f : ConvSt → ConvSt) : (s.modConv n f).cells = s.cells := rfl
@[simp] theorem State.modConv_arms (s : State) (n : Nat) (f : ConvSt → ConvSt) : (s.modConv n f).arms = s.arms := rfl
@[simp] theorem State.modConv_engs (s : State) (n : Nat) (f : ConvSt → ConvSt) : (s.modConv n f).engs = s.engs := rfl
@[simp] theorem State.modConv_referee (s : State) (n : Nat) (f : ConvSt → ConvSt) : (s.modConv n f).referee = s.referee := rfl
@[simp] theorem State.modConv_pair (s : State) (n : Nat) (f : ConvSt → ConvSt) : (s.modConv n f).pair = s.pair := rfl
@[simp] theorem State.modConv_journal (s : State) (n : Nat) (f : ConvSt → ConvSt) : (s.modConv n f).journal = s.journal := rfl
@[simp] theorem State.modConv_adc (s : State) (n : Nat) (f : ConvSt → ConvSt) : (s.modConv n f).adc = s.adc := rfl
@[simp] theorem State.modConv_drives (s : State) (n : Nat) (f : ConvSt → ConvSt) : (s.modConv n f).drives = s.drives := rfl
@[simp] theorem State.modConv_motors (s : State) (n : Nat) (f : ConvSt → ConvSt) : (s.modConv n f).motors = s.motors := rfl
@[simp] theorem State.modConv_safety (s : State) (n : Nat) (f : ConvSt → ConvSt) : (s.modConv n f).safety = s.safety := rfl
@[simp] theorem State.modConv_eths (s : State) (n : Nat) (f : ConvSt → ConvSt) : (s.modConv n f).eths = s.eths := rfl
@[simp] theorem State.modConv_canQueues (s : State) (n : Nat) (f : ConvSt → ConvSt) : (s.modConv n f).canQueues = s.canQueues := rfl
@[simp] theorem State.modConv_cans (s : State) (n : Nat) (f : ConvSt → ConvSt) : (s.modConv n f).cans = s.cans := rfl
@[simp] theorem State.modConv_out (s : State) (n : Nat) (f : ConvSt → ConvSt) : (s.modConv n f).out = s.out := rfl
@[simp] theorem State.modConv_drawn (s : State) (n : Nat) (f : ConvSt → ConvSt) : (s.modConv n f).drawn = s.drawn := rfl
@[simp] theorem State.modConv_pending (s : State) (n : Nat) (f : ConvSt → ConvSt) : (s.modConv n f).pending = s.pending := rfl
@[simp] theorem State.modConv_rd (s : State) (n : Nat) (f : ConvSt → ConvSt) (g : Field) (i j : Nat) : (s.modConv n f).rd g i j = s.rd g i j := rfl
@[simp] theorem State.modConv_same (s : State) (n : Nat) (f : ConvSt → ConvSt) : (s.modConv n f).conv n = f (s.conv n) := Tbl.look_put_same _ _ _ _
theorem State.modConv_other (s : State) (n : Nat) (f : ConvSt → ConvSt) {m : Nat} (h : m ≠ n) : (s.modConv n f).conv m = s.conv m := Tbl.look_put_ne _ _ _ _ h

@[simp] theorem State.modDrv_silicon (s : State) (n : Nat) (f : DrvSt → DrvSt) : (s.modDrv n f).silicon = s.silicon := rfl
@[simp] theorem State.modDrv_fuses (s : State) (n : Nat) (f : DrvSt → DrvSt) : (s.modDrv n f).fuses = s.fuses := rfl
@[simp] theorem State.modDrv_regs (s : State) (n : Nat) (f : DrvSt → DrvSt) : (s.modDrv n f).regs = s.regs := rfl
@[simp] theorem State.modDrv_keep (s : State) (n : Nat) (f : DrvSt → DrvSt) : (s.modDrv n f).keep = s.keep := rfl
@[simp] theorem State.modDrv_hold (s : State) (n : Nat) (f : DrvSt → DrvSt) : (s.modDrv n f).hold = s.hold := rfl
@[simp] theorem State.modDrv_wrHold (s : State) (n : Nat) (f : DrvSt → DrvSt) : (s.modDrv n f).wrHold = s.wrHold := rfl
@[simp] theorem State.modDrv_time (s : State) (n : Nat) (f : DrvSt → DrvSt) : (s.modDrv n f).time = s.time := rfl
@[simp] theorem State.modDrv_power (s : State) (n : Nat) (f : DrvSt → DrvSt) : (s.modDrv n f).power = s.power := rfl
@[simp] theorem State.modDrv_faults (s : State) (n : Nat) (f : DrvSt → DrvSt) : (s.modDrv n f).faults = s.faults := rfl
@[simp] theorem State.modDrv_host (s : State) (n : Nat) (f : DrvSt → DrvSt) : (s.modDrv n f).host = s.host := rfl
@[simp] theorem State.modDrv_load (s : State) (n : Nat) (f : DrvSt → DrvSt) : (s.modDrv n f).load = s.load := rfl
@[simp] theorem State.modDrv_cfg (s : State) (n : Nat) (f : DrvSt → DrvSt) : (s.modDrv n f).cfg = s.cfg := rfl
@[simp] theorem State.modDrv_images (s : State) (n : Nat) (f : DrvSt → DrvSt) : (s.modDrv n f).images = s.images := rfl
@[simp] theorem State.modDrv_fr (s : State) (n : Nat) (f : DrvSt → DrvSt) : (s.modDrv n f).fr = s.fr := rfl
@[simp] theorem State.modDrv_lanes (s : State) (n : Nat) (f : DrvSt → DrvSt) : (s.modDrv n f).lanes = s.lanes := rfl
@[simp] theorem State.modDrv_chains (s : State) (n : Nat) (f : DrvSt → DrvSt) : (s.modDrv n f).chains = s.chains := rfl
@[simp] theorem State.modDrv_cells (s : State) (n : Nat) (f : DrvSt → DrvSt) : (s.modDrv n f).cells = s.cells := rfl
@[simp] theorem State.modDrv_arms (s : State) (n : Nat) (f : DrvSt → DrvSt) : (s.modDrv n f).arms = s.arms := rfl
@[simp] theorem State.modDrv_engs (s : State) (n : Nat) (f : DrvSt → DrvSt) : (s.modDrv n f).engs = s.engs := rfl
@[simp] theorem State.modDrv_convs (s : State) (n : Nat) (f : DrvSt → DrvSt) : (s.modDrv n f).convs = s.convs := rfl
@[simp] theorem State.modDrv_referee (s : State) (n : Nat) (f : DrvSt → DrvSt) : (s.modDrv n f).referee = s.referee := rfl
@[simp] theorem State.modDrv_pair (s : State) (n : Nat) (f : DrvSt → DrvSt) : (s.modDrv n f).pair = s.pair := rfl
@[simp] theorem State.modDrv_journal (s : State) (n : Nat) (f : DrvSt → DrvSt) : (s.modDrv n f).journal = s.journal := rfl
@[simp] theorem State.modDrv_adc (s : State) (n : Nat) (f : DrvSt → DrvSt) : (s.modDrv n f).adc = s.adc := rfl
@[simp] theorem State.modDrv_motors (s : State) (n : Nat) (f : DrvSt → DrvSt) : (s.modDrv n f).motors = s.motors := rfl
@[simp] theorem State.modDrv_safety (s : State) (n : Nat) (f : DrvSt → DrvSt) : (s.modDrv n f).safety = s.safety := rfl
@[simp] theorem State.modDrv_eths (s : State) (n : Nat) (f : DrvSt → DrvSt) : (s.modDrv n f).eths = s.eths := rfl
@[simp] theorem State.modDrv_canQueues (s : State) (n : Nat) (f : DrvSt → DrvSt) : (s.modDrv n f).canQueues = s.canQueues := rfl
@[simp] theorem State.modDrv_cans (s : State) (n : Nat) (f : DrvSt → DrvSt) : (s.modDrv n f).cans = s.cans := rfl
@[simp] theorem State.modDrv_out (s : State) (n : Nat) (f : DrvSt → DrvSt) : (s.modDrv n f).out = s.out := rfl
@[simp] theorem State.modDrv_drawn (s : State) (n : Nat) (f : DrvSt → DrvSt) : (s.modDrv n f).drawn = s.drawn := rfl
@[simp] theorem State.modDrv_pending (s : State) (n : Nat) (f : DrvSt → DrvSt) : (s.modDrv n f).pending = s.pending := rfl
@[simp] theorem State.modDrv_rd (s : State) (n : Nat) (f : DrvSt → DrvSt) (g : Field) (i j : Nat) : (s.modDrv n f).rd g i j = s.rd g i j := rfl
@[simp] theorem State.modDrv_same (s : State) (n : Nat) (f : DrvSt → DrvSt) : (s.modDrv n f).drv n = f (s.drv n) := Tbl.look_put_same _ _ _ _
theorem State.modDrv_other (s : State) (n : Nat) (f : DrvSt → DrvSt) {m : Nat} (h : m ≠ n) : (s.modDrv n f).drv m = s.drv m := Tbl.look_put_ne _ _ _ _ h

@[simp] theorem State.modMot_silicon (s : State) (n : Nat) (f : MotSt → MotSt) : (s.modMot n f).silicon = s.silicon := rfl
@[simp] theorem State.modMot_fuses (s : State) (n : Nat) (f : MotSt → MotSt) : (s.modMot n f).fuses = s.fuses := rfl
@[simp] theorem State.modMot_regs (s : State) (n : Nat) (f : MotSt → MotSt) : (s.modMot n f).regs = s.regs := rfl
@[simp] theorem State.modMot_keep (s : State) (n : Nat) (f : MotSt → MotSt) : (s.modMot n f).keep = s.keep := rfl
@[simp] theorem State.modMot_hold (s : State) (n : Nat) (f : MotSt → MotSt) : (s.modMot n f).hold = s.hold := rfl
@[simp] theorem State.modMot_wrHold (s : State) (n : Nat) (f : MotSt → MotSt) : (s.modMot n f).wrHold = s.wrHold := rfl
@[simp] theorem State.modMot_time (s : State) (n : Nat) (f : MotSt → MotSt) : (s.modMot n f).time = s.time := rfl
@[simp] theorem State.modMot_power (s : State) (n : Nat) (f : MotSt → MotSt) : (s.modMot n f).power = s.power := rfl
@[simp] theorem State.modMot_faults (s : State) (n : Nat) (f : MotSt → MotSt) : (s.modMot n f).faults = s.faults := rfl
@[simp] theorem State.modMot_host (s : State) (n : Nat) (f : MotSt → MotSt) : (s.modMot n f).host = s.host := rfl
@[simp] theorem State.modMot_load (s : State) (n : Nat) (f : MotSt → MotSt) : (s.modMot n f).load = s.load := rfl
@[simp] theorem State.modMot_cfg (s : State) (n : Nat) (f : MotSt → MotSt) : (s.modMot n f).cfg = s.cfg := rfl
@[simp] theorem State.modMot_images (s : State) (n : Nat) (f : MotSt → MotSt) : (s.modMot n f).images = s.images := rfl
@[simp] theorem State.modMot_fr (s : State) (n : Nat) (f : MotSt → MotSt) : (s.modMot n f).fr = s.fr := rfl
@[simp] theorem State.modMot_lanes (s : State) (n : Nat) (f : MotSt → MotSt) : (s.modMot n f).lanes = s.lanes := rfl
@[simp] theorem State.modMot_chains (s : State) (n : Nat) (f : MotSt → MotSt) : (s.modMot n f).chains = s.chains := rfl
@[simp] theorem State.modMot_cells (s : State) (n : Nat) (f : MotSt → MotSt) : (s.modMot n f).cells = s.cells := rfl
@[simp] theorem State.modMot_arms (s : State) (n : Nat) (f : MotSt → MotSt) : (s.modMot n f).arms = s.arms := rfl
@[simp] theorem State.modMot_engs (s : State) (n : Nat) (f : MotSt → MotSt) : (s.modMot n f).engs = s.engs := rfl
@[simp] theorem State.modMot_convs (s : State) (n : Nat) (f : MotSt → MotSt) : (s.modMot n f).convs = s.convs := rfl
@[simp] theorem State.modMot_referee (s : State) (n : Nat) (f : MotSt → MotSt) : (s.modMot n f).referee = s.referee := rfl
@[simp] theorem State.modMot_pair (s : State) (n : Nat) (f : MotSt → MotSt) : (s.modMot n f).pair = s.pair := rfl
@[simp] theorem State.modMot_journal (s : State) (n : Nat) (f : MotSt → MotSt) : (s.modMot n f).journal = s.journal := rfl
@[simp] theorem State.modMot_adc (s : State) (n : Nat) (f : MotSt → MotSt) : (s.modMot n f).adc = s.adc := rfl
@[simp] theorem State.modMot_drives (s : State) (n : Nat) (f : MotSt → MotSt) : (s.modMot n f).drives = s.drives := rfl
@[simp] theorem State.modMot_safety (s : State) (n : Nat) (f : MotSt → MotSt) : (s.modMot n f).safety = s.safety := rfl
@[simp] theorem State.modMot_eths (s : State) (n : Nat) (f : MotSt → MotSt) : (s.modMot n f).eths = s.eths := rfl
@[simp] theorem State.modMot_canQueues (s : State) (n : Nat) (f : MotSt → MotSt) : (s.modMot n f).canQueues = s.canQueues := rfl
@[simp] theorem State.modMot_cans (s : State) (n : Nat) (f : MotSt → MotSt) : (s.modMot n f).cans = s.cans := rfl
@[simp] theorem State.modMot_out (s : State) (n : Nat) (f : MotSt → MotSt) : (s.modMot n f).out = s.out := rfl
@[simp] theorem State.modMot_drawn (s : State) (n : Nat) (f : MotSt → MotSt) : (s.modMot n f).drawn = s.drawn := rfl
@[simp] theorem State.modMot_pending (s : State) (n : Nat) (f : MotSt → MotSt) : (s.modMot n f).pending = s.pending := rfl
@[simp] theorem State.modMot_rd (s : State) (n : Nat) (f : MotSt → MotSt) (g : Field) (i j : Nat) : (s.modMot n f).rd g i j = s.rd g i j := rfl
@[simp] theorem State.modMot_same (s : State) (n : Nat) (f : MotSt → MotSt) : (s.modMot n f).mot n = f (s.mot n) := Tbl.look_put_same _ _ _ _
theorem State.modMot_other (s : State) (n : Nat) (f : MotSt → MotSt) {m : Nat} (h : m ≠ n) : (s.modMot n f).mot m = s.mot m := Tbl.look_put_ne _ _ _ _ h

@[simp] theorem State.modEth_silicon (s : State) (n : Nat) (f : EthSt → EthSt) : (s.modEth n f).silicon = s.silicon := rfl
@[simp] theorem State.modEth_fuses (s : State) (n : Nat) (f : EthSt → EthSt) : (s.modEth n f).fuses = s.fuses := rfl
@[simp] theorem State.modEth_regs (s : State) (n : Nat) (f : EthSt → EthSt) : (s.modEth n f).regs = s.regs := rfl
@[simp] theorem State.modEth_keep (s : State) (n : Nat) (f : EthSt → EthSt) : (s.modEth n f).keep = s.keep := rfl
@[simp] theorem State.modEth_hold (s : State) (n : Nat) (f : EthSt → EthSt) : (s.modEth n f).hold = s.hold := rfl
@[simp] theorem State.modEth_wrHold (s : State) (n : Nat) (f : EthSt → EthSt) : (s.modEth n f).wrHold = s.wrHold := rfl
@[simp] theorem State.modEth_time (s : State) (n : Nat) (f : EthSt → EthSt) : (s.modEth n f).time = s.time := rfl
@[simp] theorem State.modEth_power (s : State) (n : Nat) (f : EthSt → EthSt) : (s.modEth n f).power = s.power := rfl
@[simp] theorem State.modEth_faults (s : State) (n : Nat) (f : EthSt → EthSt) : (s.modEth n f).faults = s.faults := rfl
@[simp] theorem State.modEth_host (s : State) (n : Nat) (f : EthSt → EthSt) : (s.modEth n f).host = s.host := rfl
@[simp] theorem State.modEth_load (s : State) (n : Nat) (f : EthSt → EthSt) : (s.modEth n f).load = s.load := rfl
@[simp] theorem State.modEth_cfg (s : State) (n : Nat) (f : EthSt → EthSt) : (s.modEth n f).cfg = s.cfg := rfl
@[simp] theorem State.modEth_images (s : State) (n : Nat) (f : EthSt → EthSt) : (s.modEth n f).images = s.images := rfl
@[simp] theorem State.modEth_fr (s : State) (n : Nat) (f : EthSt → EthSt) : (s.modEth n f).fr = s.fr := rfl
@[simp] theorem State.modEth_lanes (s : State) (n : Nat) (f : EthSt → EthSt) : (s.modEth n f).lanes = s.lanes := rfl
@[simp] theorem State.modEth_chains (s : State) (n : Nat) (f : EthSt → EthSt) : (s.modEth n f).chains = s.chains := rfl
@[simp] theorem State.modEth_cells (s : State) (n : Nat) (f : EthSt → EthSt) : (s.modEth n f).cells = s.cells := rfl
@[simp] theorem State.modEth_arms (s : State) (n : Nat) (f : EthSt → EthSt) : (s.modEth n f).arms = s.arms := rfl
@[simp] theorem State.modEth_engs (s : State) (n : Nat) (f : EthSt → EthSt) : (s.modEth n f).engs = s.engs := rfl
@[simp] theorem State.modEth_convs (s : State) (n : Nat) (f : EthSt → EthSt) : (s.modEth n f).convs = s.convs := rfl
@[simp] theorem State.modEth_referee (s : State) (n : Nat) (f : EthSt → EthSt) : (s.modEth n f).referee = s.referee := rfl
@[simp] theorem State.modEth_pair (s : State) (n : Nat) (f : EthSt → EthSt) : (s.modEth n f).pair = s.pair := rfl
@[simp] theorem State.modEth_journal (s : State) (n : Nat) (f : EthSt → EthSt) : (s.modEth n f).journal = s.journal := rfl
@[simp] theorem State.modEth_adc (s : State) (n : Nat) (f : EthSt → EthSt) : (s.modEth n f).adc = s.adc := rfl
@[simp] theorem State.modEth_drives (s : State) (n : Nat) (f : EthSt → EthSt) : (s.modEth n f).drives = s.drives := rfl
@[simp] theorem State.modEth_motors (s : State) (n : Nat) (f : EthSt → EthSt) : (s.modEth n f).motors = s.motors := rfl
@[simp] theorem State.modEth_safety (s : State) (n : Nat) (f : EthSt → EthSt) : (s.modEth n f).safety = s.safety := rfl
@[simp] theorem State.modEth_canQueues (s : State) (n : Nat) (f : EthSt → EthSt) : (s.modEth n f).canQueues = s.canQueues := rfl
@[simp] theorem State.modEth_cans (s : State) (n : Nat) (f : EthSt → EthSt) : (s.modEth n f).cans = s.cans := rfl
@[simp] theorem State.modEth_out (s : State) (n : Nat) (f : EthSt → EthSt) : (s.modEth n f).out = s.out := rfl
@[simp] theorem State.modEth_drawn (s : State) (n : Nat) (f : EthSt → EthSt) : (s.modEth n f).drawn = s.drawn := rfl
@[simp] theorem State.modEth_pending (s : State) (n : Nat) (f : EthSt → EthSt) : (s.modEth n f).pending = s.pending := rfl
@[simp] theorem State.modEth_rd (s : State) (n : Nat) (f : EthSt → EthSt) (g : Field) (i j : Nat) : (s.modEth n f).rd g i j = s.rd g i j := rfl
@[simp] theorem State.modEth_same (s : State) (n : Nat) (f : EthSt → EthSt) : (s.modEth n f).eth n = f (s.eth n) := Tbl.look_put_same _ _ _ _
theorem State.modEth_other (s : State) (n : Nat) (f : EthSt → EthSt) {m : Nat} (h : m ≠ n) : (s.modEth n f).eth m = s.eth m := Tbl.look_put_ne _ _ _ _ h

@[simp] theorem State.modCan_silicon (s : State) (n : Nat) (f : CanSt → CanSt) : (s.modCan n f).silicon = s.silicon := rfl
@[simp] theorem State.modCan_fuses (s : State) (n : Nat) (f : CanSt → CanSt) : (s.modCan n f).fuses = s.fuses := rfl
@[simp] theorem State.modCan_regs (s : State) (n : Nat) (f : CanSt → CanSt) : (s.modCan n f).regs = s.regs := rfl
@[simp] theorem State.modCan_keep (s : State) (n : Nat) (f : CanSt → CanSt) : (s.modCan n f).keep = s.keep := rfl
@[simp] theorem State.modCan_hold (s : State) (n : Nat) (f : CanSt → CanSt) : (s.modCan n f).hold = s.hold := rfl
@[simp] theorem State.modCan_wrHold (s : State) (n : Nat) (f : CanSt → CanSt) : (s.modCan n f).wrHold = s.wrHold := rfl
@[simp] theorem State.modCan_time (s : State) (n : Nat) (f : CanSt → CanSt) : (s.modCan n f).time = s.time := rfl
@[simp] theorem State.modCan_power (s : State) (n : Nat) (f : CanSt → CanSt) : (s.modCan n f).power = s.power := rfl
@[simp] theorem State.modCan_faults (s : State) (n : Nat) (f : CanSt → CanSt) : (s.modCan n f).faults = s.faults := rfl
@[simp] theorem State.modCan_host (s : State) (n : Nat) (f : CanSt → CanSt) : (s.modCan n f).host = s.host := rfl
@[simp] theorem State.modCan_load (s : State) (n : Nat) (f : CanSt → CanSt) : (s.modCan n f).load = s.load := rfl
@[simp] theorem State.modCan_cfg (s : State) (n : Nat) (f : CanSt → CanSt) : (s.modCan n f).cfg = s.cfg := rfl
@[simp] theorem State.modCan_images (s : State) (n : Nat) (f : CanSt → CanSt) : (s.modCan n f).images = s.images := rfl
@[simp] theorem State.modCan_fr (s : State) (n : Nat) (f : CanSt → CanSt) : (s.modCan n f).fr = s.fr := rfl
@[simp] theorem State.modCan_lanes (s : State) (n : Nat) (f : CanSt → CanSt) : (s.modCan n f).lanes = s.lanes := rfl
@[simp] theorem State.modCan_chains (s : State) (n : Nat) (f : CanSt → CanSt) : (s.modCan n f).chains = s.chains := rfl
@[simp] theorem State.modCan_cells (s : State) (n : Nat) (f : CanSt → CanSt) : (s.modCan n f).cells = s.cells := rfl
@[simp] theorem State.modCan_arms (s : State) (n : Nat) (f : CanSt → CanSt) : (s.modCan n f).arms = s.arms := rfl
@[simp] theorem State.modCan_engs (s : State) (n : Nat) (f : CanSt → CanSt) : (s.modCan n f).engs = s.engs := rfl
@[simp] theorem State.modCan_convs (s : State) (n : Nat) (f : CanSt → CanSt) : (s.modCan n f).convs = s.convs := rfl
@[simp] theorem State.modCan_referee (s : State) (n : Nat) (f : CanSt → CanSt) : (s.modCan n f).referee = s.referee := rfl
@[simp] theorem State.modCan_pair (s : State) (n : Nat) (f : CanSt → CanSt) : (s.modCan n f).pair = s.pair := rfl
@[simp] theorem State.modCan_journal (s : State) (n : Nat) (f : CanSt → CanSt) : (s.modCan n f).journal = s.journal := rfl
@[simp] theorem State.modCan_adc (s : State) (n : Nat) (f : CanSt → CanSt) : (s.modCan n f).adc = s.adc := rfl
@[simp] theorem State.modCan_drives (s : State) (n : Nat) (f : CanSt → CanSt) : (s.modCan n f).drives = s.drives := rfl
@[simp] theorem State.modCan_motors (s : State) (n : Nat) (f : CanSt → CanSt) : (s.modCan n f).motors = s.motors := rfl
@[simp] theorem State.modCan_safety (s : State) (n : Nat) (f : CanSt → CanSt) : (s.modCan n f).safety = s.safety := rfl
@[simp] theorem State.modCan_eths (s : State) (n : Nat) (f : CanSt → CanSt) : (s.modCan n f).eths = s.eths := rfl
@[simp] theorem State.modCan_canQueues (s : State) (n : Nat) (f : CanSt → CanSt) : (s.modCan n f).canQueues = s.canQueues := rfl
@[simp] theorem State.modCan_out (s : State) (n : Nat) (f : CanSt → CanSt) : (s.modCan n f).out = s.out := rfl
@[simp] theorem State.modCan_drawn (s : State) (n : Nat) (f : CanSt → CanSt) : (s.modCan n f).drawn = s.drawn := rfl
@[simp] theorem State.modCan_pending (s : State) (n : Nat) (f : CanSt → CanSt) : (s.modCan n f).pending = s.pending := rfl
@[simp] theorem State.modCan_rd (s : State) (n : Nat) (f : CanSt → CanSt) (g : Field) (i j : Nat) : (s.modCan n f).rd g i j = s.rd g i j := rfl
@[simp] theorem State.modCan_same (s : State) (n : Nat) (f : CanSt → CanSt) : (s.modCan n f).can n = f (s.can n) := Tbl.look_put_same _ _ _ _
theorem State.modCan_other (s : State) (n : Nat) (f : CanSt → CanSt) {m : Nat} (h : m ≠ n) : (s.modCan n f).can m = s.can m := Tbl.look_put_ne _ _ _ _ h

@[simp] theorem State.modFaults_silicon (s : State) (f : FaultSt → FaultSt) : (s.modFaults f).silicon = s.silicon := rfl
@[simp] theorem State.modFaults_fuses (s : State) (f : FaultSt → FaultSt) : (s.modFaults f).fuses = s.fuses := rfl
@[simp] theorem State.modFaults_regs (s : State) (f : FaultSt → FaultSt) : (s.modFaults f).regs = s.regs := rfl
@[simp] theorem State.modFaults_keep (s : State) (f : FaultSt → FaultSt) : (s.modFaults f).keep = s.keep := rfl
@[simp] theorem State.modFaults_hold (s : State) (f : FaultSt → FaultSt) : (s.modFaults f).hold = s.hold := rfl
@[simp] theorem State.modFaults_wrHold (s : State) (f : FaultSt → FaultSt) : (s.modFaults f).wrHold = s.wrHold := rfl
@[simp] theorem State.modFaults_time (s : State) (f : FaultSt → FaultSt) : (s.modFaults f).time = s.time := rfl
@[simp] theorem State.modFaults_power (s : State) (f : FaultSt → FaultSt) : (s.modFaults f).power = s.power := rfl
@[simp] theorem State.modFaults_host (s : State) (f : FaultSt → FaultSt) : (s.modFaults f).host = s.host := rfl
@[simp] theorem State.modFaults_load (s : State) (f : FaultSt → FaultSt) : (s.modFaults f).load = s.load := rfl
@[simp] theorem State.modFaults_cfg (s : State) (f : FaultSt → FaultSt) : (s.modFaults f).cfg = s.cfg := rfl
@[simp] theorem State.modFaults_images (s : State) (f : FaultSt → FaultSt) : (s.modFaults f).images = s.images := rfl
@[simp] theorem State.modFaults_fr (s : State) (f : FaultSt → FaultSt) : (s.modFaults f).fr = s.fr := rfl
@[simp] theorem State.modFaults_lanes (s : State) (f : FaultSt → FaultSt) : (s.modFaults f).lanes = s.lanes := rfl
@[simp] theorem State.modFaults_chains (s : State) (f : FaultSt → FaultSt) : (s.modFaults f).chains = s.chains := rfl
@[simp] theorem State.modFaults_cells (s : State) (f : FaultSt → FaultSt) : (s.modFaults f).cells = s.cells := rfl
@[simp] theorem State.modFaults_arms (s : State) (f : FaultSt → FaultSt) : (s.modFaults f).arms = s.arms := rfl
@[simp] theorem State.modFaults_engs (s : State) (f : FaultSt → FaultSt) : (s.modFaults f).engs = s.engs := rfl
@[simp] theorem State.modFaults_convs (s : State) (f : FaultSt → FaultSt) : (s.modFaults f).convs = s.convs := rfl
@[simp] theorem State.modFaults_referee (s : State) (f : FaultSt → FaultSt) : (s.modFaults f).referee = s.referee := rfl
@[simp] theorem State.modFaults_pair (s : State) (f : FaultSt → FaultSt) : (s.modFaults f).pair = s.pair := rfl
@[simp] theorem State.modFaults_journal (s : State) (f : FaultSt → FaultSt) : (s.modFaults f).journal = s.journal := rfl
@[simp] theorem State.modFaults_adc (s : State) (f : FaultSt → FaultSt) : (s.modFaults f).adc = s.adc := rfl
@[simp] theorem State.modFaults_drives (s : State) (f : FaultSt → FaultSt) : (s.modFaults f).drives = s.drives := rfl
@[simp] theorem State.modFaults_motors (s : State) (f : FaultSt → FaultSt) : (s.modFaults f).motors = s.motors := rfl
@[simp] theorem State.modFaults_safety (s : State) (f : FaultSt → FaultSt) : (s.modFaults f).safety = s.safety := rfl
@[simp] theorem State.modFaults_eths (s : State) (f : FaultSt → FaultSt) : (s.modFaults f).eths = s.eths := rfl
@[simp] theorem State.modFaults_canQueues (s : State) (f : FaultSt → FaultSt) : (s.modFaults f).canQueues = s.canQueues := rfl
@[simp] theorem State.modFaults_cans (s : State) (f : FaultSt → FaultSt) : (s.modFaults f).cans = s.cans := rfl
@[simp] theorem State.modFaults_out (s : State) (f : FaultSt → FaultSt) : (s.modFaults f).out = s.out := rfl
@[simp] theorem State.modFaults_drawn (s : State) (f : FaultSt → FaultSt) : (s.modFaults f).drawn = s.drawn := rfl
@[simp] theorem State.modFaults_pending (s : State) (f : FaultSt → FaultSt) : (s.modFaults f).pending = s.pending := rfl
@[simp] theorem State.modFaults_rd (s : State) (f : FaultSt → FaultSt) (g : Field) (i j : Nat) : (s.modFaults f).rd g i j = s.rd g i j := rfl
@[simp] theorem State.modFaults_faults (s : State) (f : FaultSt → FaultSt) : (s.modFaults f).faults = f s.faults := rfl

@[simp] theorem State.modFr_silicon (s : State) (f : FrameSt → FrameSt) : (s.modFr f).silicon = s.silicon := rfl
@[simp] theorem State.modFr_fuses (s : State) (f : FrameSt → FrameSt) : (s.modFr f).fuses = s.fuses := rfl
@[simp] theorem State.modFr_regs (s : State) (f : FrameSt → FrameSt) : (s.modFr f).regs = s.regs := rfl
@[simp] theorem State.modFr_keep (s : State) (f : FrameSt → FrameSt) : (s.modFr f).keep = s.keep := rfl
@[simp] theorem State.modFr_hold (s : State) (f : FrameSt → FrameSt) : (s.modFr f).hold = s.hold := rfl
@[simp] theorem State.modFr_wrHold (s : State) (f : FrameSt → FrameSt) : (s.modFr f).wrHold = s.wrHold := rfl
@[simp] theorem State.modFr_time (s : State) (f : FrameSt → FrameSt) : (s.modFr f).time = s.time := rfl
@[simp] theorem State.modFr_power (s : State) (f : FrameSt → FrameSt) : (s.modFr f).power = s.power := rfl
@[simp] theorem State.modFr_faults (s : State) (f : FrameSt → FrameSt) : (s.modFr f).faults = s.faults := rfl
@[simp] theorem State.modFr_host (s : State) (f : FrameSt → FrameSt) : (s.modFr f).host = s.host := rfl
@[simp] theorem State.modFr_load (s : State) (f : FrameSt → FrameSt) : (s.modFr f).load = s.load := rfl
@[simp] theorem State.modFr_cfg (s : State) (f : FrameSt → FrameSt) : (s.modFr f).cfg = s.cfg := rfl
@[simp] theorem State.modFr_images (s : State) (f : FrameSt → FrameSt) : (s.modFr f).images = s.images := rfl
@[simp] theorem State.modFr_lanes (s : State) (f : FrameSt → FrameSt) : (s.modFr f).lanes = s.lanes := rfl
@[simp] theorem State.modFr_chains (s : State) (f : FrameSt → FrameSt) : (s.modFr f).chains = s.chains := rfl
@[simp] theorem State.modFr_cells (s : State) (f : FrameSt → FrameSt) : (s.modFr f).cells = s.cells := rfl
@[simp] theorem State.modFr_arms (s : State) (f : FrameSt → FrameSt) : (s.modFr f).arms = s.arms := rfl
@[simp] theorem State.modFr_engs (s : State) (f : FrameSt → FrameSt) : (s.modFr f).engs = s.engs := rfl
@[simp] theorem State.modFr_convs (s : State) (f : FrameSt → FrameSt) : (s.modFr f).convs = s.convs := rfl
@[simp] theorem State.modFr_referee (s : State) (f : FrameSt → FrameSt) : (s.modFr f).referee = s.referee := rfl
@[simp] theorem State.modFr_pair (s : State) (f : FrameSt → FrameSt) : (s.modFr f).pair = s.pair := rfl
@[simp] theorem State.modFr_journal (s : State) (f : FrameSt → FrameSt) : (s.modFr f).journal = s.journal := rfl
@[simp] theorem State.modFr_adc (s : State) (f : FrameSt → FrameSt) : (s.modFr f).adc = s.adc := rfl
@[simp] theorem State.modFr_drives (s : State) (f : FrameSt → FrameSt) : (s.modFr f).drives = s.drives := rfl
@[simp] theorem State.modFr_motors (s : State) (f : FrameSt → FrameSt) : (s.modFr f).motors = s.motors := rfl
@[simp] theorem State.modFr_safety (s : State) (f : FrameSt → FrameSt) : (s.modFr f).safety = s.safety := rfl
@[simp] theorem State.modFr_eths (s : State) (f : FrameSt → FrameSt) : (s.modFr f).eths = s.eths := rfl
@[simp] theorem State.modFr_canQueues (s : State) (f : FrameSt → FrameSt) : (s.modFr f).canQueues = s.canQueues := rfl
@[simp] theorem State.modFr_cans (s : State) (f : FrameSt → FrameSt) : (s.modFr f).cans = s.cans := rfl
@[simp] theorem State.modFr_out (s : State) (f : FrameSt → FrameSt) : (s.modFr f).out = s.out := rfl
@[simp] theorem State.modFr_drawn (s : State) (f : FrameSt → FrameSt) : (s.modFr f).drawn = s.drawn := rfl
@[simp] theorem State.modFr_pending (s : State) (f : FrameSt → FrameSt) : (s.modFr f).pending = s.pending := rfl
@[simp] theorem State.modFr_rd (s : State) (f : FrameSt → FrameSt) (g : Field) (i j : Nat) : (s.modFr f).rd g i j = s.rd g i j := rfl
@[simp] theorem State.modFr_fr (s : State) (f : FrameSt → FrameSt) : (s.modFr f).fr = f s.fr := rfl

@[simp] theorem State.modRef_silicon (s : State) (f : RefSt → RefSt) : (s.modRef f).silicon = s.silicon := rfl
@[simp] theorem State.modRef_fuses (s : State) (f : RefSt → RefSt) : (s.modRef f).fuses = s.fuses := rfl
@[simp] theorem State.modRef_regs (s : State) (f : RefSt → RefSt) : (s.modRef f).regs = s.regs := rfl
@[simp] theorem State.modRef_keep (s : State) (f : RefSt → RefSt) : (s.modRef f).keep = s.keep := rfl
@[simp] theorem State.modRef_hold (s : State) (f : RefSt → RefSt) : (s.modRef f).hold = s.hold := rfl
@[simp] theorem State.modRef_wrHold (s : State) (f : RefSt → RefSt) : (s.modRef f).wrHold = s.wrHold := rfl
@[simp] theorem State.modRef_time (s : State) (f : RefSt → RefSt) : (s.modRef f).time = s.time := rfl
@[simp] theorem State.modRef_power (s : State) (f : RefSt → RefSt) : (s.modRef f).power = s.power := rfl
@[simp] theorem State.modRef_faults (s : State) (f : RefSt → RefSt) : (s.modRef f).faults = s.faults := rfl
@[simp] theorem State.modRef_host (s : State) (f : RefSt → RefSt) : (s.modRef f).host = s.host := rfl
@[simp] theorem State.modRef_load (s : State) (f : RefSt → RefSt) : (s.modRef f).load = s.load := rfl
@[simp] theorem State.modRef_cfg (s : State) (f : RefSt → RefSt) : (s.modRef f).cfg = s.cfg := rfl
@[simp] theorem State.modRef_images (s : State) (f : RefSt → RefSt) : (s.modRef f).images = s.images := rfl
@[simp] theorem State.modRef_fr (s : State) (f : RefSt → RefSt) : (s.modRef f).fr = s.fr := rfl
@[simp] theorem State.modRef_lanes (s : State) (f : RefSt → RefSt) : (s.modRef f).lanes = s.lanes := rfl
@[simp] theorem State.modRef_chains (s : State) (f : RefSt → RefSt) : (s.modRef f).chains = s.chains := rfl
@[simp] theorem State.modRef_cells (s : State) (f : RefSt → RefSt) : (s.modRef f).cells = s.cells := rfl
@[simp] theorem State.modRef_arms (s : State) (f : RefSt → RefSt) : (s.modRef f).arms = s.arms := rfl
@[simp] theorem State.modRef_engs (s : State) (f : RefSt → RefSt) : (s.modRef f).engs = s.engs := rfl
@[simp] theorem State.modRef_convs (s : State) (f : RefSt → RefSt) : (s.modRef f).convs = s.convs := rfl
@[simp] theorem State.modRef_pair (s : State) (f : RefSt → RefSt) : (s.modRef f).pair = s.pair := rfl
@[simp] theorem State.modRef_journal (s : State) (f : RefSt → RefSt) : (s.modRef f).journal = s.journal := rfl
@[simp] theorem State.modRef_adc (s : State) (f : RefSt → RefSt) : (s.modRef f).adc = s.adc := rfl
@[simp] theorem State.modRef_drives (s : State) (f : RefSt → RefSt) : (s.modRef f).drives = s.drives := rfl
@[simp] theorem State.modRef_motors (s : State) (f : RefSt → RefSt) : (s.modRef f).motors = s.motors := rfl
@[simp] theorem State.modRef_safety (s : State) (f : RefSt → RefSt) : (s.modRef f).safety = s.safety := rfl
@[simp] theorem State.modRef_eths (s : State) (f : RefSt → RefSt) : (s.modRef f).eths = s.eths := rfl
@[simp] theorem State.modRef_canQueues (s : State) (f : RefSt → RefSt) : (s.modRef f).canQueues = s.canQueues := rfl
@[simp] theorem State.modRef_cans (s : State) (f : RefSt → RefSt) : (s.modRef f).cans = s.cans := rfl
@[simp] theorem State.modRef_out (s : State) (f : RefSt → RefSt) : (s.modRef f).out = s.out := rfl
@[simp] theorem State.modRef_drawn (s : State) (f : RefSt → RefSt) : (s.modRef f).drawn = s.drawn := rfl
@[simp] theorem State.modRef_pending (s : State) (f : RefSt → RefSt) : (s.modRef f).pending = s.pending := rfl
@[simp] theorem State.modRef_rd (s : State) (f : RefSt → RefSt) (g : Field) (i j : Nat) : (s.modRef f).rd g i j = s.rd g i j := rfl
@[simp] theorem State.modRef_referee (s : State) (f : RefSt → RefSt) : (s.modRef f).referee = f s.referee := rfl

@[simp] theorem State.modPower_silicon (s : State) (f : PowerSt → PowerSt) : (s.modPower f).silicon = s.silicon := rfl
@[simp] theorem State.modPower_fuses (s : State) (f : PowerSt → PowerSt) : (s.modPower f).fuses = s.fuses := rfl
@[simp] theorem State.modPower_regs (s : State) (f : PowerSt → PowerSt) : (s.modPower f).regs = s.regs := rfl
@[simp] theorem State.modPower_keep (s : State) (f : PowerSt → PowerSt) : (s.modPower f).keep = s.keep := rfl
@[simp] theorem State.modPower_hold (s : State) (f : PowerSt → PowerSt) : (s.modPower f).hold = s.hold := rfl
@[simp] theorem State.modPower_wrHold (s : State) (f : PowerSt → PowerSt) : (s.modPower f).wrHold = s.wrHold := rfl
@[simp] theorem State.modPower_time (s : State) (f : PowerSt → PowerSt) : (s.modPower f).time = s.time := rfl
@[simp] theorem State.modPower_faults (s : State) (f : PowerSt → PowerSt) : (s.modPower f).faults = s.faults := rfl
@[simp] theorem State.modPower_host (s : State) (f : PowerSt → PowerSt) : (s.modPower f).host = s.host := rfl
@[simp] theorem State.modPower_load (s : State) (f : PowerSt → PowerSt) : (s.modPower f).load = s.load := rfl
@[simp] theorem State.modPower_cfg (s : State) (f : PowerSt → PowerSt) : (s.modPower f).cfg = s.cfg := rfl
@[simp] theorem State.modPower_images (s : State) (f : PowerSt → PowerSt) : (s.modPower f).images = s.images := rfl
@[simp] theorem State.modPower_fr (s : State) (f : PowerSt → PowerSt) : (s.modPower f).fr = s.fr := rfl
@[simp] theorem State.modPower_lanes (s : State) (f : PowerSt → PowerSt) : (s.modPower f).lanes = s.lanes := rfl
@[simp] theorem State.modPower_chains (s : State) (f : PowerSt → PowerSt) : (s.modPower f).chains = s.chains := rfl
@[simp] theorem State.modPower_cells (s : State) (f : PowerSt → PowerSt) : (s.modPower f).cells = s.cells := rfl
@[simp] theorem State.modPower_arms (s : State) (f : PowerSt → PowerSt) : (s.modPower f).arms = s.arms := rfl
@[simp] theorem State.modPower_engs (s : State) (f : PowerSt → PowerSt) : (s.modPower f).engs = s.engs := rfl
@[simp] theorem State.modPower_convs (s : State) (f : PowerSt → PowerSt) : (s.modPower f).convs = s.convs := rfl
@[simp] theorem State.modPower_referee (s : State) (f : PowerSt → PowerSt) : (s.modPower f).referee = s.referee := rfl
@[simp] theorem State.modPower_pair (s : State) (f : PowerSt → PowerSt) : (s.modPower f).pair = s.pair := rfl
@[simp] theorem State.modPower_journal (s : State) (f : PowerSt → PowerSt) : (s.modPower f).journal = s.journal := rfl
@[simp] theorem State.modPower_adc (s : State) (f : PowerSt → PowerSt) : (s.modPower f).adc = s.adc := rfl
@[simp] theorem State.modPower_drives (s : State) (f : PowerSt → PowerSt) : (s.modPower f).drives = s.drives := rfl
@[simp] theorem State.modPower_motors (s : State) (f : PowerSt → PowerSt) : (s.modPower f).motors = s.motors := rfl
@[simp] theorem State.modPower_safety (s : State) (f : PowerSt → PowerSt) : (s.modPower f).safety = s.safety := rfl
@[simp] theorem State.modPower_eths (s : State) (f : PowerSt → PowerSt) : (s.modPower f).eths = s.eths := rfl
@[simp] theorem State.modPower_canQueues (s : State) (f : PowerSt → PowerSt) : (s.modPower f).canQueues = s.canQueues := rfl
@[simp] theorem State.modPower_cans (s : State) (f : PowerSt → PowerSt) : (s.modPower f).cans = s.cans := rfl
@[simp] theorem State.modPower_out (s : State) (f : PowerSt → PowerSt) : (s.modPower f).out = s.out := rfl
@[simp] theorem State.modPower_drawn (s : State) (f : PowerSt → PowerSt) : (s.modPower f).drawn = s.drawn := rfl
@[simp] theorem State.modPower_pending (s : State) (f : PowerSt → PowerSt) : (s.modPower f).pending = s.pending := rfl
@[simp] theorem State.modPower_rd (s : State) (f : PowerSt → PowerSt) (g : Field) (i j : Nat) : (s.modPower f).rd g i j = s.rd g i j := rfl
@[simp] theorem State.modPower_power (s : State) (f : PowerSt → PowerSt) : (s.modPower f).power = f s.power := rfl

@[simp] theorem State.modLoad_silicon (s : State) (f : LoadSt → LoadSt) : (s.modLoad f).silicon = s.silicon := rfl
@[simp] theorem State.modLoad_fuses (s : State) (f : LoadSt → LoadSt) : (s.modLoad f).fuses = s.fuses := rfl
@[simp] theorem State.modLoad_regs (s : State) (f : LoadSt → LoadSt) : (s.modLoad f).regs = s.regs := rfl
@[simp] theorem State.modLoad_keep (s : State) (f : LoadSt → LoadSt) : (s.modLoad f).keep = s.keep := rfl
@[simp] theorem State.modLoad_hold (s : State) (f : LoadSt → LoadSt) : (s.modLoad f).hold = s.hold := rfl
@[simp] theorem State.modLoad_wrHold (s : State) (f : LoadSt → LoadSt) : (s.modLoad f).wrHold = s.wrHold := rfl
@[simp] theorem State.modLoad_time (s : State) (f : LoadSt → LoadSt) : (s.modLoad f).time = s.time := rfl
@[simp] theorem State.modLoad_power (s : State) (f : LoadSt → LoadSt) : (s.modLoad f).power = s.power := rfl
@[simp] theorem State.modLoad_faults (s : State) (f : LoadSt → LoadSt) : (s.modLoad f).faults = s.faults := rfl
@[simp] theorem State.modLoad_host (s : State) (f : LoadSt → LoadSt) : (s.modLoad f).host = s.host := rfl
@[simp] theorem State.modLoad_cfg (s : State) (f : LoadSt → LoadSt) : (s.modLoad f).cfg = s.cfg := rfl
@[simp] theorem State.modLoad_images (s : State) (f : LoadSt → LoadSt) : (s.modLoad f).images = s.images := rfl
@[simp] theorem State.modLoad_fr (s : State) (f : LoadSt → LoadSt) : (s.modLoad f).fr = s.fr := rfl
@[simp] theorem State.modLoad_lanes (s : State) (f : LoadSt → LoadSt) : (s.modLoad f).lanes = s.lanes := rfl
@[simp] theorem State.modLoad_chains (s : State) (f : LoadSt → LoadSt) : (s.modLoad f).chains = s.chains := rfl
@[simp] theorem State.modLoad_cells (s : State) (f : LoadSt → LoadSt) : (s.modLoad f).cells = s.cells := rfl
@[simp] theorem State.modLoad_arms (s : State) (f : LoadSt → LoadSt) : (s.modLoad f).arms = s.arms := rfl
@[simp] theorem State.modLoad_engs (s : State) (f : LoadSt → LoadSt) : (s.modLoad f).engs = s.engs := rfl
@[simp] theorem State.modLoad_convs (s : State) (f : LoadSt → LoadSt) : (s.modLoad f).convs = s.convs := rfl
@[simp] theorem State.modLoad_referee (s : State) (f : LoadSt → LoadSt) : (s.modLoad f).referee = s.referee := rfl
@[simp] theorem State.modLoad_pair (s : State) (f : LoadSt → LoadSt) : (s.modLoad f).pair = s.pair := rfl
@[simp] theorem State.modLoad_journal (s : State) (f : LoadSt → LoadSt) : (s.modLoad f).journal = s.journal := rfl
@[simp] theorem State.modLoad_adc (s : State) (f : LoadSt → LoadSt) : (s.modLoad f).adc = s.adc := rfl
@[simp] theorem State.modLoad_drives (s : State) (f : LoadSt → LoadSt) : (s.modLoad f).drives = s.drives := rfl
@[simp] theorem State.modLoad_motors (s : State) (f : LoadSt → LoadSt) : (s.modLoad f).motors = s.motors := rfl
@[simp] theorem State.modLoad_safety (s : State) (f : LoadSt → LoadSt) : (s.modLoad f).safety = s.safety := rfl
@[simp] theorem State.modLoad_eths (s : State) (f : LoadSt → LoadSt) : (s.modLoad f).eths = s.eths := rfl
@[simp] theorem State.modLoad_canQueues (s : State) (f : LoadSt → LoadSt) : (s.modLoad f).canQueues = s.canQueues := rfl
@[simp] theorem State.modLoad_cans (s : State) (f : LoadSt → LoadSt) : (s.modLoad f).cans = s.cans := rfl
@[simp] theorem State.modLoad_out (s : State) (f : LoadSt → LoadSt) : (s.modLoad f).out = s.out := rfl
@[simp] theorem State.modLoad_drawn (s : State) (f : LoadSt → LoadSt) : (s.modLoad f).drawn = s.drawn := rfl
@[simp] theorem State.modLoad_pending (s : State) (f : LoadSt → LoadSt) : (s.modLoad f).pending = s.pending := rfl
@[simp] theorem State.modLoad_rd (s : State) (f : LoadSt → LoadSt) (g : Field) (i j : Nat) : (s.modLoad f).rd g i j = s.rd g i j := rfl
@[simp] theorem State.modLoad_load (s : State) (f : LoadSt → LoadSt) : (s.modLoad f).load = f s.load := rfl

@[simp] theorem State.modJrn_silicon (s : State) (f : JrnSt → JrnSt) : (s.modJrn f).silicon = s.silicon := rfl
@[simp] theorem State.modJrn_fuses (s : State) (f : JrnSt → JrnSt) : (s.modJrn f).fuses = s.fuses := rfl
@[simp] theorem State.modJrn_regs (s : State) (f : JrnSt → JrnSt) : (s.modJrn f).regs = s.regs := rfl
@[simp] theorem State.modJrn_keep (s : State) (f : JrnSt → JrnSt) : (s.modJrn f).keep = s.keep := rfl
@[simp] theorem State.modJrn_hold (s : State) (f : JrnSt → JrnSt) : (s.modJrn f).hold = s.hold := rfl
@[simp] theorem State.modJrn_wrHold (s : State) (f : JrnSt → JrnSt) : (s.modJrn f).wrHold = s.wrHold := rfl
@[simp] theorem State.modJrn_time (s : State) (f : JrnSt → JrnSt) : (s.modJrn f).time = s.time := rfl
@[simp] theorem State.modJrn_power (s : State) (f : JrnSt → JrnSt) : (s.modJrn f).power = s.power := rfl
@[simp] theorem State.modJrn_faults (s : State) (f : JrnSt → JrnSt) : (s.modJrn f).faults = s.faults := rfl
@[simp] theorem State.modJrn_host (s : State) (f : JrnSt → JrnSt) : (s.modJrn f).host = s.host := rfl
@[simp] theorem State.modJrn_load (s : State) (f : JrnSt → JrnSt) : (s.modJrn f).load = s.load := rfl
@[simp] theorem State.modJrn_cfg (s : State) (f : JrnSt → JrnSt) : (s.modJrn f).cfg = s.cfg := rfl
@[simp] theorem State.modJrn_images (s : State) (f : JrnSt → JrnSt) : (s.modJrn f).images = s.images := rfl
@[simp] theorem State.modJrn_fr (s : State) (f : JrnSt → JrnSt) : (s.modJrn f).fr = s.fr := rfl
@[simp] theorem State.modJrn_lanes (s : State) (f : JrnSt → JrnSt) : (s.modJrn f).lanes = s.lanes := rfl
@[simp] theorem State.modJrn_chains (s : State) (f : JrnSt → JrnSt) : (s.modJrn f).chains = s.chains := rfl
@[simp] theorem State.modJrn_cells (s : State) (f : JrnSt → JrnSt) : (s.modJrn f).cells = s.cells := rfl
@[simp] theorem State.modJrn_arms (s : State) (f : JrnSt → JrnSt) : (s.modJrn f).arms = s.arms := rfl
@[simp] theorem State.modJrn_engs (s : State) (f : JrnSt → JrnSt) : (s.modJrn f).engs = s.engs := rfl
@[simp] theorem State.modJrn_convs (s : State) (f : JrnSt → JrnSt) : (s.modJrn f).convs = s.convs := rfl
@[simp] theorem State.modJrn_referee (s : State) (f : JrnSt → JrnSt) : (s.modJrn f).referee = s.referee := rfl
@[simp] theorem State.modJrn_pair (s : State) (f : JrnSt → JrnSt) : (s.modJrn f).pair = s.pair := rfl
@[simp] theorem State.modJrn_adc (s : State) (f : JrnSt → JrnSt) : (s.modJrn f).adc = s.adc := rfl
@[simp] theorem State.modJrn_drives (s : State) (f : JrnSt → JrnSt) : (s.modJrn f).drives = s.drives := rfl
@[simp] theorem State.modJrn_motors (s : State) (f : JrnSt → JrnSt) : (s.modJrn f).motors = s.motors := rfl
@[simp] theorem State.modJrn_safety (s : State) (f : JrnSt → JrnSt) : (s.modJrn f).safety = s.safety := rfl
@[simp] theorem State.modJrn_eths (s : State) (f : JrnSt → JrnSt) : (s.modJrn f).eths = s.eths := rfl
@[simp] theorem State.modJrn_canQueues (s : State) (f : JrnSt → JrnSt) : (s.modJrn f).canQueues = s.canQueues := rfl
@[simp] theorem State.modJrn_cans (s : State) (f : JrnSt → JrnSt) : (s.modJrn f).cans = s.cans := rfl
@[simp] theorem State.modJrn_out (s : State) (f : JrnSt → JrnSt) : (s.modJrn f).out = s.out := rfl
@[simp] theorem State.modJrn_drawn (s : State) (f : JrnSt → JrnSt) : (s.modJrn f).drawn = s.drawn := rfl
@[simp] theorem State.modJrn_pending (s : State) (f : JrnSt → JrnSt) : (s.modJrn f).pending = s.pending := rfl
@[simp] theorem State.modJrn_rd (s : State) (f : JrnSt → JrnSt) (g : Field) (i j : Nat) : (s.modJrn f).rd g i j = s.rd g i j := rfl
@[simp] theorem State.modJrn_journal (s : State) (f : JrnSt → JrnSt) : (s.modJrn f).journal = f s.journal := rfl

@[simp] theorem State.modPairSt_silicon (s : State) (f : PairSt → PairSt) : (s.modPairSt f).silicon = s.silicon := rfl
@[simp] theorem State.modPairSt_fuses (s : State) (f : PairSt → PairSt) : (s.modPairSt f).fuses = s.fuses := rfl
@[simp] theorem State.modPairSt_regs (s : State) (f : PairSt → PairSt) : (s.modPairSt f).regs = s.regs := rfl
@[simp] theorem State.modPairSt_keep (s : State) (f : PairSt → PairSt) : (s.modPairSt f).keep = s.keep := rfl
@[simp] theorem State.modPairSt_hold (s : State) (f : PairSt → PairSt) : (s.modPairSt f).hold = s.hold := rfl
@[simp] theorem State.modPairSt_wrHold (s : State) (f : PairSt → PairSt) : (s.modPairSt f).wrHold = s.wrHold := rfl
@[simp] theorem State.modPairSt_time (s : State) (f : PairSt → PairSt) : (s.modPairSt f).time = s.time := rfl
@[simp] theorem State.modPairSt_power (s : State) (f : PairSt → PairSt) : (s.modPairSt f).power = s.power := rfl
@[simp] theorem State.modPairSt_faults (s : State) (f : PairSt → PairSt) : (s.modPairSt f).faults = s.faults := rfl
@[simp] theorem State.modPairSt_host (s : State) (f : PairSt → PairSt) : (s.modPairSt f).host = s.host := rfl
@[simp] theorem State.modPairSt_load (s : State) (f : PairSt → PairSt) : (s.modPairSt f).load = s.load := rfl
@[simp] theorem State.modPairSt_cfg (s : State) (f : PairSt → PairSt) : (s.modPairSt f).cfg = s.cfg := rfl
@[simp] theorem State.modPairSt_images (s : State) (f : PairSt → PairSt) : (s.modPairSt f).images = s.images := rfl
@[simp] theorem State.modPairSt_fr (s : State) (f : PairSt → PairSt) : (s.modPairSt f).fr = s.fr := rfl
@[simp] theorem State.modPairSt_lanes (s : State) (f : PairSt → PairSt) : (s.modPairSt f).lanes = s.lanes := rfl
@[simp] theorem State.modPairSt_chains (s : State) (f : PairSt → PairSt) : (s.modPairSt f).chains = s.chains := rfl
@[simp] theorem State.modPairSt_cells (s : State) (f : PairSt → PairSt) : (s.modPairSt f).cells = s.cells := rfl
@[simp] theorem State.modPairSt_arms (s : State) (f : PairSt → PairSt) : (s.modPairSt f).arms = s.arms := rfl
@[simp] theorem State.modPairSt_engs (s : State) (f : PairSt → PairSt) : (s.modPairSt f).engs = s.engs := rfl
@[simp] theorem State.modPairSt_convs (s : State) (f : PairSt → PairSt) : (s.modPairSt f).convs = s.convs := rfl
@[simp] theorem State.modPairSt_referee (s : State) (f : PairSt → PairSt) : (s.modPairSt f).referee = s.referee := rfl
@[simp] theorem State.modPairSt_journal (s : State) (f : PairSt → PairSt) : (s.modPairSt f).journal = s.journal := rfl
@[simp] theorem State.modPairSt_adc (s : State) (f : PairSt → PairSt) : (s.modPairSt f).adc = s.adc := rfl
@[simp] theorem State.modPairSt_drives (s : State) (f : PairSt → PairSt) : (s.modPairSt f).drives = s.drives := rfl
@[simp] theorem State.modPairSt_motors (s : State) (f : PairSt → PairSt) : (s.modPairSt f).motors = s.motors := rfl
@[simp] theorem State.modPairSt_safety (s : State) (f : PairSt → PairSt) : (s.modPairSt f).safety = s.safety := rfl
@[simp] theorem State.modPairSt_eths (s : State) (f : PairSt → PairSt) : (s.modPairSt f).eths = s.eths := rfl
@[simp] theorem State.modPairSt_canQueues (s : State) (f : PairSt → PairSt) : (s.modPairSt f).canQueues = s.canQueues := rfl
@[simp] theorem State.modPairSt_cans (s : State) (f : PairSt → PairSt) : (s.modPairSt f).cans = s.cans := rfl
@[simp] theorem State.modPairSt_out (s : State) (f : PairSt → PairSt) : (s.modPairSt f).out = s.out := rfl
@[simp] theorem State.modPairSt_drawn (s : State) (f : PairSt → PairSt) : (s.modPairSt f).drawn = s.drawn := rfl
@[simp] theorem State.modPairSt_pending (s : State) (f : PairSt → PairSt) : (s.modPairSt f).pending = s.pending := rfl
@[simp] theorem State.modPairSt_rd (s : State) (f : PairSt → PairSt) (g : Field) (i j : Nat) : (s.modPairSt f).rd g i j = s.rd g i j := rfl
@[simp] theorem State.modPairSt_pair (s : State) (f : PairSt → PairSt) : (s.modPairSt f).pair = f s.pair := rfl

@[simp] theorem State.emit_silicon (s : State) (o : Out) : (s.emit o).silicon = s.silicon := rfl
@[simp] theorem State.emit_fuses (s : State) (o : Out) : (s.emit o).fuses = s.fuses := rfl
@[simp] theorem State.emit_regs (s : State) (o : Out) : (s.emit o).regs = s.regs := rfl
@[simp] theorem State.emit_keep (s : State) (o : Out) : (s.emit o).keep = s.keep := rfl
@[simp] theorem State.emit_hold (s : State) (o : Out) : (s.emit o).hold = s.hold := rfl
@[simp] theorem State.emit_wrHold (s : State) (o : Out) : (s.emit o).wrHold = s.wrHold := rfl
@[simp] theorem State.emit_time (s : State) (o : Out) : (s.emit o).time = s.time := rfl
@[simp] theorem State.emit_power (s : State) (o : Out) : (s.emit o).power = s.power := rfl
@[simp] theorem State.emit_faults (s : State) (o : Out) : (s.emit o).faults = s.faults := rfl
@[simp] theorem State.emit_host (s : State) (o : Out) : (s.emit o).host = s.host := rfl
@[simp] theorem State.emit_load (s : State) (o : Out) : (s.emit o).load = s.load := rfl
@[simp] theorem State.emit_cfg (s : State) (o : Out) : (s.emit o).cfg = s.cfg := rfl
@[simp] theorem State.emit_images (s : State) (o : Out) : (s.emit o).images = s.images := rfl
@[simp] theorem State.emit_fr (s : State) (o : Out) : (s.emit o).fr = s.fr := rfl
@[simp] theorem State.emit_lanes (s : State) (o : Out) : (s.emit o).lanes = s.lanes := rfl
@[simp] theorem State.emit_chains (s : State) (o : Out) : (s.emit o).chains = s.chains := rfl
@[simp] theorem State.emit_cells (s : State) (o : Out) : (s.emit o).cells = s.cells := rfl
@[simp] theorem State.emit_arms (s : State) (o : Out) : (s.emit o).arms = s.arms := rfl
@[simp] theorem State.emit_engs (s : State) (o : Out) : (s.emit o).engs = s.engs := rfl
@[simp] theorem State.emit_convs (s : State) (o : Out) : (s.emit o).convs = s.convs := rfl
@[simp] theorem State.emit_referee (s : State) (o : Out) : (s.emit o).referee = s.referee := rfl
@[simp] theorem State.emit_pair (s : State) (o : Out) : (s.emit o).pair = s.pair := rfl
@[simp] theorem State.emit_journal (s : State) (o : Out) : (s.emit o).journal = s.journal := rfl
@[simp] theorem State.emit_adc (s : State) (o : Out) : (s.emit o).adc = s.adc := rfl
@[simp] theorem State.emit_drives (s : State) (o : Out) : (s.emit o).drives = s.drives := rfl
@[simp] theorem State.emit_motors (s : State) (o : Out) : (s.emit o).motors = s.motors := rfl
@[simp] theorem State.emit_safety (s : State) (o : Out) : (s.emit o).safety = s.safety := rfl
@[simp] theorem State.emit_eths (s : State) (o : Out) : (s.emit o).eths = s.eths := rfl
@[simp] theorem State.emit_canQueues (s : State) (o : Out) : (s.emit o).canQueues = s.canQueues := rfl
@[simp] theorem State.emit_cans (s : State) (o : Out) : (s.emit o).cans = s.cans := rfl
@[simp] theorem State.emit_drawn (s : State) (o : Out) : (s.emit o).drawn = s.drawn := rfl
@[simp] theorem State.emit_pending (s : State) (o : Out) : (s.emit o).pending = s.pending := rfl
@[simp] theorem State.emit_rd (s : State) (o : Out) (g : Field) (i j : Nat) : (s.emit o).rd g i j = s.rd g i j := rfl
@[simp] theorem State.emit_out (s : State) (o : Out) : (s.emit o).out = s.out ++ [o] := rfl

@[simp] theorem State.wr_silicon (s : State) (g : Field) (v i j : Nat) : (s.wr g v i j).silicon = s.silicon := by
  unfold State.wr; split <;> [split; skip] <;> rfl
@[simp] theorem State.wr_fuses (s : State) (g : Field) (v i j : Nat) : (s.wr g v i j).fuses = s.fuses := by
  unfold State.wr; split <;> [split; skip] <;> rfl
@[simp] theorem State.wr_hold (s : State) (g : Field) (v i j : Nat) : (s.wr g v i j).hold = s.hold := by
  unfold State.wr; split <;> [split; skip] <;> rfl
@[simp] theorem State.wr_wrHold (s : State) (g : Field) (v i j : Nat) : (s.wr g v i j).wrHold = s.wrHold := by
  unfold State.wr; split <;> [split; skip] <;> rfl
@[simp] theorem State.wr_time (s : State) (g : Field) (v i j : Nat) : (s.wr g v i j).time = s.time := by
  unfold State.wr; split <;> [split; skip] <;> rfl
@[simp] theorem State.wr_power (s : State) (g : Field) (v i j : Nat) : (s.wr g v i j).power = s.power := by
  unfold State.wr; split <;> [split; skip] <;> rfl
@[simp] theorem State.wr_faults (s : State) (g : Field) (v i j : Nat) : (s.wr g v i j).faults = s.faults := by
  unfold State.wr; split <;> [split; skip] <;> rfl
@[simp] theorem State.wr_host (s : State) (g : Field) (v i j : Nat) : (s.wr g v i j).host = s.host := by
  unfold State.wr; split <;> [split; skip] <;> rfl
@[simp] theorem State.wr_load (s : State) (g : Field) (v i j : Nat) : (s.wr g v i j).load = s.load := by
  unfold State.wr; split <;> [split; skip] <;> rfl
@[simp] theorem State.wr_cfg (s : State) (g : Field) (v i j : Nat) : (s.wr g v i j).cfg = s.cfg := by
  unfold State.wr; split <;> [split; skip] <;> rfl
@[simp] theorem State.wr_images (s : State) (g : Field) (v i j : Nat) : (s.wr g v i j).images = s.images := by
  unfold State.wr; split <;> [split; skip] <;> rfl
@[simp] theorem State.wr_fr (s : State) (g : Field) (v i j : Nat) : (s.wr g v i j).fr = s.fr := by
  unfold State.wr; split <;> [split; skip] <;> rfl
@[simp] theorem State.wr_lanes (s : State) (g : Field) (v i j : Nat) : (s.wr g v i j).lanes = s.lanes := by
  unfold State.wr; split <;> [split; skip] <;> rfl
@[simp] theorem State.wr_chains (s : State) (g : Field) (v i j : Nat) : (s.wr g v i j).chains = s.chains := by
  unfold State.wr; split <;> [split; skip] <;> rfl
@[simp] theorem State.wr_cells (s : State) (g : Field) (v i j : Nat) : (s.wr g v i j).cells = s.cells := by
  unfold State.wr; split <;> [split; skip] <;> rfl
@[simp] theorem State.wr_arms (s : State) (g : Field) (v i j : Nat) : (s.wr g v i j).arms = s.arms := by
  unfold State.wr; split <;> [split; skip] <;> rfl
@[simp] theorem State.wr_engs (s : State) (g : Field) (v i j : Nat) : (s.wr g v i j).engs = s.engs := by
  unfold State.wr; split <;> [split; skip] <;> rfl
@[simp] theorem State.wr_convs (s : State) (g : Field) (v i j : Nat) : (s.wr g v i j).convs = s.convs := by
  unfold State.wr; split <;> [split; skip] <;> rfl
@[simp] theorem State.wr_referee (s : State) (g : Field) (v i j : Nat) : (s.wr g v i j).referee = s.referee := by
  unfold State.wr; split <;> [split; skip] <;> rfl
@[simp] theorem State.wr_pair (s : State) (g : Field) (v i j : Nat) : (s.wr g v i j).pair = s.pair := by
  unfold State.wr; split <;> [split; skip] <;> rfl
@[simp] theorem State.wr_journal (s : State) (g : Field) (v i j : Nat) : (s.wr g v i j).journal = s.journal := by
  unfold State.wr; split <;> [split; skip] <;> rfl
@[simp] theorem State.wr_adc (s : State) (g : Field) (v i j : Nat) : (s.wr g v i j).adc = s.adc := by
  unfold State.wr; split <;> [split; skip] <;> rfl
@[simp] theorem State.wr_drives (s : State) (g : Field) (v i j : Nat) : (s.wr g v i j).drives = s.drives := by
  unfold State.wr; split <;> [split; skip] <;> rfl
@[simp] theorem State.wr_motors (s : State) (g : Field) (v i j : Nat) : (s.wr g v i j).motors = s.motors := by
  unfold State.wr; split <;> [split; skip] <;> rfl
@[simp] theorem State.wr_safety (s : State) (g : Field) (v i j : Nat) : (s.wr g v i j).safety = s.safety := by
  unfold State.wr; split <;> [split; skip] <;> rfl
@[simp] theorem State.wr_eths (s : State) (g : Field) (v i j : Nat) : (s.wr g v i j).eths = s.eths := by
  unfold State.wr; split <;> [split; skip] <;> rfl
@[simp] theorem State.wr_canQueues (s : State) (g : Field) (v i j : Nat) : (s.wr g v i j).canQueues = s.canQueues := by
  unfold State.wr; split <;> [split; skip] <;> rfl
@[simp] theorem State.wr_cans (s : State) (g : Field) (v i j : Nat) : (s.wr g v i j).cans = s.cans := by
  unfold State.wr; split <;> [split; skip] <;> rfl
@[simp] theorem State.wr_out (s : State) (g : Field) (v i j : Nat) : (s.wr g v i j).out = s.out := by
  unfold State.wr; split <;> [split; skip] <;> rfl
@[simp] theorem State.wr_drawn (s : State) (g : Field) (v i j : Nat) : (s.wr g v i j).drawn = s.drawn := by
  unfold State.wr; split <;> [split; skip] <;> rfl
@[simp] theorem State.wr_pending (s : State) (g : Field) (v i j : Nat) : (s.wr g v i j).pending = s.pending := by
  unfold State.wr; split <;> [split; skip] <;> rfl

end Sys2Proof.Machine
end

