-- ==== Sys2Proof/Laws/Frames1.lean ====
section
/-! SUPPORT. What every operation and every command may touch (part 1 of 8, in the order in which they are built on one another): for each a list
of parts, a list of register fields, and the effect with both, from every state. -/

namespace Sys2Proof.Machine

set_option Elab.async false

theorem Effect.foldl {α : Type} {A : List Part} {R : Option (List Field)} {s t : State} {l : List α} {f : State → α → State}
    (h : Effect A R s t) (k : ∀ u a, Effect A R u (f u a)) : Effect A R s (l.foldl f t) := h.each k

theorem Effect.of_pair {A : List Part} {R : Option (List Field)} {s t : State} {α : Type} {p : α × State} {a : α} (e : p = (a, t))
    (h : Effect A R s p.2) : Effect A R s t := Effect.named e h

theorem Effect.snd {α : Type} {A : List Part} {R : Option (List Field)} {s t : State} {a : α} (h : Effect A R s t) :
    Effect A R s (a, t).2 := h

theorem Effect.ite2 {α : Type} {A : List Part} {R : Option (List Field)} {s : State} {a b : α × State} {c : Prop} [Decidable c]
    (h : Effect A R s a.2) (k : Effect A R s b.2) : Effect A R s (if c then a else b).2 := by split <;> assumption

theorem State.wr_effect (s : State) (f : Field) (v i j : Nat) : Effect [] (some [f]) s (s.wr f v i j) := Effect.wr s f i j v

theorem State.wrS_effect (s : State) (f : Field) (x : Int) (i j : Nat) : Effect [] (some [f]) s (s.wrS f x i j) := Effect.wr s f i j _

theorem State.bump_effect (s : State) (f : Field) (n i j : Nat) : Effect [] (some [f]) s (s.bump f n i j) := Effect.wr s f i j _

theorem State.evBit_effect (s : State) (f : Field) (b i j : Nat) : Effect [] (some [f]) s (s.evBit f b i j) := Effect.wr s f i j _

theorem State.wrBit_effect (s : State) (f : Field) (b : Nat) (v : Bool) (i j : Nat) : Effect [] (some [f]) s (s.wrBit f b v i j) :=
  Effect.wr s f i j _

theorem State.wr64_effect (s : State) (lo hi : Field) (v i j : Nat) : Effect [] (some [lo, hi]) s (s.wr64 lo hi v i j) :=
  ((State.wr_effect s lo _ i j).more (by simp)).step ((State.wr_effect _ hi _ i j).more (by simp)) (Effect.fits_refl _ _)

theorem State.draw_effect (s : State) : Effect [.drawn] (some []) s s.draw.2 where
  same p hp := by cases p <;> first | rfl | exact absurd (List.mem_singleton.mpr rfl) hp
  regs _ _ _ _ _ _ := rfl
  log := List.prefix_refl _
  drawn := Nat.le_succ _
  fuses := Fuses.below_refl _
  stores w := w

theorem State.takeLow_effect (s : State) (lo : Field) (i : Nat) : Effect [.wrHold] (some [lo]) s (s.takeLow lo i) := by
  unfold State.takeLow
  split
  · exact Effect.refl _ _ _
  · exact ((Effect.wrHold s _ _).widen (by simp [Effect.fits, Part.within, Field.sub])).step (State.wr_effect _ lo _ i _)
      (by simp [Effect.fits, Part.within, Field.sub_refl])

theorem State.fieldWrite_effect (s : State) (f : Field) (i j w : Nat) : Effect [] (some [f]) s (s.fieldWrite f i j w) := by
  unfold State.fieldWrite
  split
  · exact State.wr_effect s f _ i j
  · exact State.wr_effect s f _ i j
  · exact State.wr_effect s f _ i j
  · exact Effect.refl _ _ _

theorem State.regWrite_effect (s : State) (r : List Field) (i j w : Nat) : Effect [] (some r) s (s.regWrite r i j w) := by
  unfold State.regWrite
  refine Effect.eachIn (Effect.refl _ _ _) fun u f hf => ?_
  exact (State.fieldWrite_effect u f i j w).more fun g hg => by simp_all

/-- A list of fields written one after the other. -/
theorem State.fields_effect (s : State) (fs : List Field) (g : State → Field → State) (k : ∀ u f, Effect [] (some [f]) u (g u f)) :
    Effect [] (some fs) s (s.each fs g) :=
  Effect.eachIn (Effect.refl _ _ _) fun u f hf => (k u f).more fun x hx => by simp_all

theorem Effect.time_fr (s : State) (x y) : Effect [.time, .fr] (some []) s { s with time := x, fr := y } :=
  ((Effect.time s x).widen (by decide +kernel)).step (Effect.fr _ y) (by decide +kernel)

theorem Effect.fr_pair_cans (s : State) (x y) :
    Effect [.fr, .pair, .cans] (some []) s { s with fr := x, pair := y, cans := [] } where
  same p hp := by cases p <;> first | rfl | exact absurd (by decide) hp
  regs _ _ _ _ _ _ := rfl
  log := List.prefix_refl _
  drawn := le_refl _
  fuses := Fuses.below_refl _
  stores h := by
    simp only [State.storesWf, Bool.and_eq_true] at h ⊢
    exact ⟨h.1, rfl⟩

theorem Effect.cfg_lanes_chains_cells_arms_engs_convs (s : State) (c : Cfg) :
    Effect [.cfg, .lanes, .chains, .cells, .arms, .engs, .convs] (some []) s
      { s with cfg := c, lanes := [], chains := [], cells := [], arms := [], engs := [], convs := [] } where
  same p hp := by cases p <;> first | rfl | exact absurd (by decide) hp
  regs _ _ _ _ _ _ := rfl
  log := List.prefix_refl _
  drawn := le_refl _
  fuses := Fuses.below_refl _
  stores h := by
    simp only [State.storesWf, Bool.and_eq_true] at h ⊢
    obtain ⟨⟨⟨⟨⟨⟨⟨⟨⟨⟨⟨⟨⟨⟨⟨a, b⟩, c⟩, d⟩, m⟩, _⟩, _⟩, _⟩, _⟩, _⟩, _⟩, e⟩, f⟩, g⟩, i⟩, j⟩ := h
    exact ⟨⟨⟨⟨⟨⟨⟨⟨⟨⟨⟨⟨⟨⟨⟨a, b⟩, c⟩, d⟩, m⟩, rfl⟩, rfl⟩, rfl⟩, rfl⟩, rfl⟩, rfl⟩, e⟩, f⟩, g⟩, i⟩, j⟩

def State.faultCount_touch : List Part := []
def State.faultCount_fields : Option (List Field) := some [Reg.COLLECT_STATUS_LO.STATUS, Reg.COLLECT_STATUS_HI.STATUS, Reg.FAULT_COUNT_CORR.COUNT, Reg.FAULT_COUNT_CONT.COUNT, Reg.FAULT_COUNT_FATAL.COUNT, Reg.FAULT_EVENT.CORRECTED, Reg.FAULT_EVENT.CONTAINED, Reg.FAULT_EVENT.FATAL]
theorem State.faultCount_effect (s : State) (p1 : Nat) :
    Effect State.faultCount_touch State.faultCount_fields s (@State.faultCount s p1) := by
  unfold State.faultCount
  extract_lets x1
  have h2 : Effect State.faultCount_touch State.faultCount_fields s x1 := by
    refine Effect.ite ?_ ?_
    · refine Effect.after (State.evBit_effect ..) (by decide +kernel) ?_
      exact Effect.refl _ _ _
    · refine Effect.after (State.evBit_effect ..) (by decide +kernel) ?_
      exact Effect.refl _ _ _
  try clear_value x1
  split
  · refine Effect.after (State.wr_effect ..) (by decide +kernel) ?_
    refine Effect.after (State.bump_effect ..) (by decide +kernel) ?_
    exact h2
  · refine Effect.after (State.wr_effect ..) (by decide +kernel) ?_
    refine Effect.after (State.bump_effect ..) (by decide +kernel) ?_
    exact h2
  · refine Effect.after (State.wr_effect ..) (by decide +kernel) ?_
    refine Effect.after (State.bump_effect ..) (by decide +kernel) ?_
    exact h2

def State.raiseVia_touch : List Part := [.faults]
def State.raiseVia_fields : Option (List Field) := some [Reg.COLLECT_STATUS_LO.STATUS, Reg.COLLECT_STATUS_HI.STATUS, Reg.FAULT_COUNT_CORR.COUNT, Reg.FAULT_COUNT_CONT.COUNT, Reg.FAULT_COUNT_FATAL.COUNT, Reg.FAULT_EVENT.CORRECTED, Reg.FAULT_EVENT.CONTAINED, Reg.FAULT_EVENT.FATAL, Reg.FAULT_EVENT.HIST_LOST, Reg.FAULT_HIST_STATUS.LOST]
theorem State.raiseVia_effect (s : State) (p1 : Bool) (p2 : Nat) (p3 : Nat) :
    Effect State.raiseVia_touch State.raiseVia_fields s (@State.raiseVia s p1 p2 p3) := by
  unfold State.raiseVia
  extract_lets x1 x2 x3
  have h4 : Effect State.raiseVia_touch State.raiseVia_fields s x2 := by
    refine Effect.after (State.faultCount_effect ..) (by decide +kernel) ?_
    exact Effect.refl _ _ _
  try clear_value x2
  try clear_value x1 x3
  refine Effect.ite ?_ ?_
  · exact Effect.refl _ _ _
  · refine Effect.ite ?_ ?_
    · refine Effect.ite ?_ ?_
      · refine Effect.after (State.wr_effect ..) (by decide +kernel) ?_
        refine Effect.after (State.bump_effect ..) (by decide +kernel) ?_
        exact h4
      · exact h4
    · refine Effect.after (Effect.faults _ _) (by decide +kernel) ?_
      exact Effect.refl _ _ _

def State.raise_touch : List Part := [.faults]
def State.raise_fields : Option (List Field) := some [Reg.COLLECT_STATUS_LO.STATUS, Reg.COLLECT_STATUS_HI.STATUS, Reg.FAULT_COUNT_CORR.COUNT, Reg.FAULT_COUNT_CONT.COUNT, Reg.FAULT_COUNT_FATAL.COUNT, Reg.FAULT_EVENT.CORRECTED, Reg.FAULT_EVENT.CONTAINED, Reg.FAULT_EVENT.FATAL, Reg.FAULT_EVENT.HIST_LOST, Reg.FAULT_HIST_STATUS.LOST]
theorem State.raise_effect (s : State) (p1 : Nat) (p2 : Nat) :
    Effect State.raise_touch State.raise_fields s (@State.raise s p1 p2) := by
  unfold State.raise
  refine Effect.after (State.raiseVia_effect ..) (by decide +kernel) ?_
  exact Effect.refl _ _ _

def State.modEng_touch : List Part := [.engs]
def State.modEng_fields : Option (List Field) := some []
theorem State.modEng_effect (s : State) (p1 : Nat) (p2 : EngSt → EngSt) :
    Effect State.modEng_touch State.modEng_fields s (@State.modEng s p1 p2) := by
  unfold State.modEng
  refine Effect.after (Effect.engs _ _ _) (by decide +kernel) ?_
  exact Effect.refl _ _ _

def State.showExports_touch : List Part := []
def State.showExports_fields : Option (List Field) := some [Reg.ENG_EXPORT.VALUE]
theorem State.showExports_effect (s : State) (p1 : Nat) (p2 : Bool) :
    Effect State.showExports_touch State.showExports_fields s (@State.showExports s p1 p2) := by
  unfold State.showExports
  refine Effect.each ?_ ?_
  · exact Effect.refl _ _ _
  · intro u1 a2
    try beta_reduce
    extract_lets x3
    try clear_value x3
    refine Effect.each ?_ ?_
    · exact Effect.refl _ _ _
    · intro u4 a5
      try beta_reduce
      refine Effect.after (State.wrS_effect ..) (by decide +kernel) ?_
      exact Effect.refl _ _ _

def State.setRole_touch : List Part := [.power, .engs]
def State.setRole_fields : Option (List Field) := (some [Reg.DOMAIN_STATE.PLANE_A, Reg.DOMAIN_STATE.PLANE_B, Reg.POWER_PGOOD.PGOOD, Reg.REF_STATUS.ROLE_A, Reg.REF_STATUS.ROLE_B, Reg.REF_EVENT.UNFIT, Reg.ENG_STATUS.BALL, Reg.ENG_STATUS.SHADOW, Reg.ENG_STATUS.COLD, Reg.ENG_EXPORT.VALUE])
theorem State.setRole_effect (s : State) (p r : Nat) :
    Effect State.setRole_touch State.setRole_fields s (s.setRole p r) := by
  unfold State.setRole
  extract_lets x1 x2 x3 x4 x5 x6
  have h1 : Effect State.setRole_touch State.setRole_fields s x1 :=
    Effect.when (Effect.refl _ _ _) fun u => (State.wr_effect ..).widen (by decide +kernel)
  have h3 : Effect State.setRole_touch State.setRole_fields s x3 := by
    by_cases h : p = 0
    · simp only [x3, h, if_true]; exact h1.step (State.wr_effect ..) (by decide +kernel)
    · simp only [x3, h, if_false]; exact h1.step (State.wr_effect ..) (by decide +kernel)
  have h4 : Effect State.setRole_touch State.setRole_fields s x4 := by
    by_cases h : p = 0
    · simp only [x4, h, if_true]; exact h3.step (State.wr_effect ..) (by decide +kernel)
    · simp only [x4, h, if_false]; exact h3.step (State.wr_effect ..) (by decide +kernel)
  have h5 : Effect State.setRole_touch State.setRole_fields s x5 := by
    refine Effect.each h4 fun u j => ?_
    refine Effect.when ?_ fun u => (State.modEng_effect ..).widen (by decide +kernel)
    refine Effect.after (State.wr_effect ..) (by decide +kernel) ?_
    refine Effect.after (State.wr_effect ..) (by decide +kernel) ?_
    exact (State.wr_effect ..).widen (by decide +kernel)
  have h6 : Effect State.setRole_touch State.setRole_fields s x6 :=
    Effect.when h5 fun u => (State.showExports_effect ..).widen (by decide +kernel)
  refine Effect.ite h6 ?_
  refine Effect.after (State.wrBit_effect ..) (by decide +kernel) ?_
  exact Effect.after (Effect.power ..) (by decide +kernel) h6

def State.modRef_touch : List Part := [.referee]
def State.modRef_fields : Option (List Field) := some []
theorem State.modRef_effect (s : State) (p1 : RefSt → RefSt) :
    Effect State.modRef_touch State.modRef_fields s (@State.modRef s p1) := by
  unfold State.modRef
  refine Effect.after (Effect.referee _ _) (by decide +kernel) ?_
  exact Effect.refl _ _ _

def State.modCell_touch : List Part := [.cells]
def State.modCell_fields : Option (List Field) := some []
theorem State.modCell_effect (s : State) (p1 : Nat) (p2 : CellMem → CellMem) :
    Effect State.modCell_touch State.modCell_fields s (@State.modCell s p1 p2) := by
  unfold State.modCell
  refine Effect.after (Effect.cells _ _ _) (by decide +kernel) ?_
  exact Effect.refl _ _ _

def State.rebuildBlocked_touch : List Part := [.cells]
def State.rebuildBlocked_fields : Option (List Field) := some [Reg.ARM_PTR.PTR]
theorem State.rebuildBlocked_effect (s : State) (p1 : Nat) :
    Effect State.rebuildBlocked_touch State.rebuildBlocked_fields s (@State.rebuildBlocked s p1) := by
  unfold State.rebuildBlocked
  refine Effect.each ?_ ?_
  · exact Effect.refl _ _ _
  · intro u1 a2
    try beta_reduce
    extract_lets x3
    have h4 : Effect State.rebuildBlocked_touch State.rebuildBlocked_fields u1 x3 := by
      refine Effect.after (State.wr_effect ..) (by decide +kernel) ?_
      exact Effect.refl _ _ _
    try clear_value x3
    split
    · exact Effect.refl _ _ _
    · refine Effect.each ?_ ?_
      · exact h4
      · intro u5 a6
        try beta_reduce
        extract_lets x7
        try clear_value x7
        split
        · refine Effect.after (State.modCell_effect ..) (by decide +kernel) ?_
          exact Effect.refl _ _ _

def State.showResidual_touch : List Part := []
def State.showResidual_fields : Option (List Field) := some [Reg.CONV_STATE.SLEWING, Reg.CONV_RESIDUAL.E]
theorem State.showResidual_effect (s : State) (p1 : Nat) :
    Effect State.showResidual_touch State.showResidual_fields s (@State.showResidual s p1) := by
  unfold State.showResidual
  extract_lets x1
  try clear_value x1
  refine Effect.after (State.wr_effect ..) (by decide +kernel) ?_
  refine Effect.after (State.wrS_effect ..) (by decide +kernel) ?_
  exact Effect.refl _ _ _

def State.modArm_touch : List Part := [.arms]
def State.modArm_fields : Option (List Field) := some []
theorem State.modArm_effect (s : State) (p1 : Nat) (p2 : ArmSt → ArmSt) :
    Effect State.modArm_touch State.modArm_fields s (@State.modArm s p1 p2) := by
  unfold State.modArm
  refine Effect.after (Effect.arms _ _ _) (by decide +kernel) ?_
  exact Effect.refl _ _ _

def State.dropResiduals_touch : List Part := [.arms]
def State.dropResiduals_fields : Option (List Field) := some [Reg.CONV_STATE.SLEWING, Reg.CONV_RESIDUAL.E]
theorem State.dropResiduals_effect (s : State) (p1 : Nat) :
    Effect State.dropResiduals_touch State.dropResiduals_fields s (@State.dropResiduals s p1) := by
  unfold State.dropResiduals
  refine Effect.after (State.showResidual_effect ..) (by decide +kernel) ?_
  refine Effect.each ?_ ?_
  · exact Effect.refl _ _ _
  · intro u1 a2
    try beta_reduce
    refine Effect.after (State.modArm_effect ..) (by decide +kernel) ?_
    exact Effect.refl _ _ _

def State.modConv_touch : List Part := [.convs]
def State.modConv_fields : Option (List Field) := some []
theorem State.modConv_effect (s : State) (p1 : Nat) (p2 : ConvSt → ConvSt) :
    Effect State.modConv_touch State.modConv_fields s (@State.modConv s p1 p2) := by
  unfold State.modConv
  refine Effect.after (Effect.convs _ _ _) (by decide +kernel) ?_
  exact Effect.refl _ _ _

theorem State.convEvent_effect (s : State) (c : Nat) (f : Field) :
    Effect [] (some [f, Reg.CONV_EVENT_SRC.CONV]) s (s.convEvent c f) :=
  ((State.wr_effect s f 1 0 0).more (by simp)).step ((State.evBit_effect _ Reg.CONV_EVENT_SRC.CONV c 0 0).more (by simp)) (Effect.fits_refl _ _)

def State.noteCause_touch : List Part := [.faults]
def State.noteCause_fields : Option (List Field) := some [Reg.CONV_STATE.CAUSE, Reg.CONV_EVENT.RESYNC_FAIL, Reg.CONV_EVENT.COAST_LIMIT, Reg.CONV_EVENT_SRC.CONV, Reg.COLLECT_STATUS_LO.STATUS, Reg.COLLECT_STATUS_HI.STATUS, Reg.FAULT_COUNT_CORR.COUNT, Reg.FAULT_COUNT_CONT.COUNT, Reg.FAULT_COUNT_FATAL.COUNT, Reg.FAULT_EVENT.CORRECTED, Reg.FAULT_EVENT.CONTAINED, Reg.FAULT_EVENT.FATAL, Reg.FAULT_EVENT.HIST_LOST, Reg.FAULT_HIST_STATUS.LOST]
theorem State.noteCause_effect (s : State) (p1 : Nat) (p2 : Nat) :
    Effect State.noteCause_touch State.noteCause_fields s (@State.noteCause s p1 p2) := by
  unfold State.noteCause
  extract_lets x1 x2 x3
  have h4 : Effect State.noteCause_touch State.noteCause_fields s x1 := by
    refine Effect.after (State.wr_effect ..) (by decide +kernel) ?_
    exact Effect.refl _ _ _
  try clear_value x1
  have h5 : Effect State.noteCause_touch State.noteCause_fields s x2 := by
    refine Effect.when ?_ ?_
    · exact h4
    · intro u6
      try beta_reduce
      refine Effect.after (State.convEvent_effect ..) (by decide +kernel) ?_
      exact Effect.refl _ _ _
  try clear_value x2
  have h8 : Effect State.noteCause_touch State.noteCause_fields s x3 := by
    refine Effect.when ?_ ?_
    · exact h5
    · intro u9
      try beta_reduce
      refine Effect.after (State.convEvent_effect ..) (by decide +kernel) ?_
      exact Effect.refl _ _ _
  try clear_value x3
  refine Effect.when ?_ ?_
  · exact h8
  · intro u11
    try beta_reduce
    refine Effect.after (State.raise_effect ..) (by decide +kernel) ?_
    exact Effect.refl _ _ _

def State.countBlock_touch : List Part := [.faults, .convs]
def State.countBlock_fields : Option (List Field) := some [Reg.CONV_STATE.CAUSE, Reg.CONV_COUNT.BLOCKS, Reg.CONV_EVENT.BLOCK, Reg.CONV_EVENT.RESYNC_FAIL, Reg.CONV_EVENT.COAST_LIMIT, Reg.CONV_EVENT_SRC.CONV, Reg.COLLECT_STATUS_LO.STATUS, Reg.COLLECT_STATUS_HI.STATUS, Reg.FAULT_COUNT_CORR.COUNT, Reg.FAULT_COUNT_CONT.COUNT, Reg.FAULT_COUNT_FATAL.COUNT, Reg.FAULT_EVENT.CORRECTED, Reg.FAULT_EVENT.CONTAINED, Reg.FAULT_EVENT.FATAL, Reg.FAULT_EVENT.HIST_LOST, Reg.FAULT_HIST_STATUS.LOST]
theorem State.countBlock_effect (s : State) (p1 : Nat) (p2 : Nat) :
    Effect State.countBlock_touch State.countBlock_fields s (@State.countBlock s p1 p2) := by
  unfold State.countBlock
  extract_lets x1
  have h2 : Effect State.countBlock_touch State.countBlock_fields s x1 := by
    refine Effect.after (State.convEvent_effect ..) (by decide +kernel) ?_
    refine Effect.after (State.bump_effect ..) (by decide +kernel) ?_
    refine Effect.after (State.noteCause_effect ..) (by decide +kernel) ?_
    exact Effect.refl _ _ _
  try clear_value x1
  refine Effect.after (State.modConv_effect ..) (by decide +kernel) ?_
  exact h2

def State.setConv_touch : List Part := []
def State.setConv_fields : Option (List Field) := some [Reg.CONV_STATE.STATE, Reg.CONV_STATE_FRAME.FRAME]
theorem State.setConv_effect (s : State) (p1 : Nat) (p2 : Nat) :
    Effect State.setConv_touch State.setConv_fields s (@State.setConv s p1 p2) := by
  unfold State.setConv
  refine Effect.after (State.wr_effect ..) (by decide +kernel) ?_
  refine Effect.after (State.wr_effect ..) (by decide +kernel) ?_
  exact Effect.refl _ _ _

def State.blockConv_touch : List Part := [.faults, .arms, .convs]
def State.blockConv_fields : Option (List Field) := some [Reg.CONV_STATE.STATE, Reg.CONV_STATE.CAUSE, Reg.CONV_STATE.SLEWING, Reg.CONV_STATE_FRAME.FRAME, Reg.CONV_RESIDUAL.E, Reg.CONV_COUNT.BLOCKS, Reg.CONV_EVENT.BLOCK, Reg.CONV_EVENT.RESYNC_FAIL, Reg.CONV_EVENT.COAST_LIMIT, Reg.CONV_EVENT_SRC.CONV, Reg.COLLECT_STATUS_LO.STATUS, Reg.COLLECT_STATUS_HI.STATUS, Reg.FAULT_COUNT_CORR.COUNT, Reg.FAULT_COUNT_CONT.COUNT, Reg.FAULT_COUNT_FATAL.COUNT, Reg.FAULT_EVENT.CORRECTED, Reg.FAULT_EVENT.CONTAINED, Reg.FAULT_EVENT.FATAL, Reg.FAULT_EVENT.HIST_LOST, Reg.FAULT_HIST_STATUS.LOST]
theorem State.blockConv_effect (s : State) (p1 : Nat) (p2 : Nat) :
    Effect State.blockConv_touch State.blockConv_fields s (@State.blockConv s p1 p2) := by
  unfold State.blockConv
  extract_lets x1
  try clear_value x1
  refine Effect.ite ?_ ?_
  · refine Effect.after (State.dropResiduals_effect ..) (by decide +kernel) ?_
    refine Effect.after (State.modConv_effect ..) (by decide +kernel) ?_
    refine Effect.after (State.countBlock_effect ..) (by decide +kernel) ?_
    refine Effect.after (State.setConv_effect ..) (by decide +kernel) ?_
    exact Effect.refl _ _ _
  · refine Effect.ite ?_ ?_
    · refine Effect.after (State.noteCause_effect ..) (by decide +kernel) ?_
      exact Effect.refl _ _ _
    · exact Effect.refl _ _ _

def State.blockInRank_touch : List Part := [.faults, .cells, .arms, .convs]
def State.blockInRank_fields : Option (List Field) := some [Reg.CONV_STATE.STATE, Reg.CONV_STATE.CAUSE, Reg.CONV_STATE.SLEWING, Reg.CONV_STATE_FRAME.FRAME, Reg.CONV_RESIDUAL.E, Reg.CONV_COUNT.BLOCKS, Reg.CONV_EVENT.BLOCK, Reg.CONV_EVENT.RESYNC_FAIL, Reg.CONV_EVENT.COAST_LIMIT, Reg.CONV_EVENT_SRC.CONV, Reg.COLLECT_STATUS_LO.STATUS, Reg.COLLECT_STATUS_HI.STATUS, Reg.FAULT_COUNT_CORR.COUNT, Reg.FAULT_COUNT_CONT.COUNT, Reg.FAULT_COUNT_FATAL.COUNT, Reg.FAULT_EVENT.CORRECTED, Reg.FAULT_EVENT.CONTAINED, Reg.FAULT_EVENT.FATAL, Reg.FAULT_EVENT.HIST_LOST, Reg.FAULT_HIST_STATUS.LOST, Reg.ARM_PTR.PTR]
theorem State.blockInRank_effect (s : State) (p1 : Nat) (p2 : Nat) :
    Effect State.blockInRank_touch State.blockInRank_fields s (@State.blockInRank s p1 p2) := by
  unfold State.blockInRank
  split
  · refine Effect.after (State.rebuildBlocked_effect ..) (by decide +kernel) ?_
    refine Effect.after (State.blockConv_effect ..) (by decide +kernel) ?_
    exact Effect.refl _ _ _
  · refine Effect.after (State.blockConv_effect ..) (by decide +kernel) ?_
    exact Effect.refl _ _ _
  · refine Effect.after (State.modConv_effect ..) (by decide +kernel) ?_
    exact Effect.refl _ _ _

def State.blockAll_touch : List Part := [.faults, .cells, .arms, .convs]
def State.blockAll_fields : Option (List Field) := some [Reg.CONV_STATE.STATE, Reg.CONV_STATE.CAUSE, Reg.CONV_STATE.SLEWING, Reg.CONV_STATE_FRAME.FRAME, Reg.CONV_RESIDUAL.E, Reg.CONV_COUNT.BLOCKS, Reg.CONV_EVENT.BLOCK, Reg.CONV_EVENT.RESYNC_FAIL, Reg.CONV_EVENT.COAST_LIMIT, Reg.CONV_EVENT_SRC.CONV, Reg.COLLECT_STATUS_LO.STATUS, Reg.COLLECT_STATUS_HI.STATUS, Reg.FAULT_COUNT_CORR.COUNT, Reg.FAULT_COUNT_CONT.COUNT, Reg.FAULT_COUNT_FATAL.COUNT, Reg.FAULT_EVENT.CORRECTED, Reg.FAULT_EVENT.CONTAINED, Reg.FAULT_EVENT.FATAL, Reg.FAULT_EVENT.HIST_LOST, Reg.FAULT_HIST_STATUS.LOST, Reg.ARM_PTR.PTR]
theorem State.blockAll_effect (s : State) (p1 : Nat) :
    Effect State.blockAll_touch State.blockAll_fields s (@State.blockAll s p1) := by
  unfold State.blockAll
  refine Effect.each ?_ ?_
  · exact Effect.refl _ _ _
  · intro u1 a2
    try beta_reduce
    refine Effect.after (State.blockInRank_effect ..) (by decide +kernel) ?_
    exact Effect.refl _ _ _

def State.lose_touch : List Part := [.power, .faults, .cells, .arms, .engs, .convs, .referee]
def State.lose_fields : Option (List Field) := some [Reg.DOMAIN_STATE.PLANE_A, Reg.DOMAIN_STATE.PLANE_B, Reg.CONV_STATE.STATE, Reg.CONV_STATE.CAUSE, Reg.CONV_STATE.SLEWING, Reg.CONV_STATE_FRAME.FRAME, Reg.CONV_RESIDUAL.E, Reg.CONV_COUNT.BLOCKS, Reg.CONV_EVENT.BLOCK, Reg.CONV_EVENT.RESYNC_FAIL, Reg.CONV_EVENT.COAST_LIMIT, Reg.CONV_EVENT_SRC.CONV, Reg.POWER_PGOOD.PGOOD, Reg.COLLECT_STATUS_LO.STATUS, Reg.COLLECT_STATUS_HI.STATUS, Reg.FAULT_COUNT_CORR.COUNT, Reg.FAULT_COUNT_CONT.COUNT, Reg.FAULT_COUNT_FATAL.COUNT, Reg.FAULT_EVENT.CORRECTED, Reg.FAULT_EVENT.CONTAINED, Reg.FAULT_EVENT.FATAL, Reg.FAULT_EVENT.HIST_LOST, Reg.FAULT_HIST_STATUS.LOST, Reg.REF_STATUS.STATE, Reg.REF_STATUS.ROLE_A, Reg.REF_STATUS.ROLE_B, Reg.REF_STATUS.LEASE, Reg.REF_EVENT.UNFIT, Reg.ENG_STATUS.BALL, Reg.ENG_STATUS.SHADOW, Reg.ENG_STATUS.COLD, Reg.ENG_EXPORT.VALUE, Reg.ARM_PTR.PTR]
theorem State.lose_effect (s : State) :
    Effect State.lose_touch State.lose_fields s (@State.lose s) := by
  unfold State.lose
  extract_lets x1 x2 x3
  have h4 : Effect State.lose_touch State.lose_fields s x1 := by
    refine Effect.each ?_ ?_
    · exact Effect.refl _ _ _
    · intro u5 a6
      try beta_reduce
      refine Effect.ite ?_ ?_
      · exact Effect.refl _ _ _
      · refine Effect.after (State.setRole_effect ..) (by decide +kernel) ?_
        exact Effect.refl _ _ _
  try clear_value x1
  have h7 : Effect State.lose_touch State.lose_fields s x2 := by
    refine Effect.after (State.modRef_effect ..) (by decide +kernel) ?_
    exact h4
  try clear_value x2
  have h8 : Effect State.lose_touch State.lose_fields s x3 := by
    refine Effect.after (State.wr_effect ..) (by decide +kernel) ?_
    refine Effect.after (State.wr_effect ..) (by decide +kernel) ?_
    exact h7
  try clear_value x3
  refine Effect.ite ?_ ?_
  · exact Effect.refl _ _ _
  · refine Effect.after (State.blockAll_effect ..) (by decide +kernel) ?_
    refine Effect.after (State.raise_effect ..) (by decide +kernel) ?_
    exact h8

def State.endShadow_touch : List Part := [.power, .engs, .referee]
def State.endShadow_fields : Option (List Field) := some [Reg.DOMAIN_STATE.PLANE_A, Reg.DOMAIN_STATE.PLANE_B, Reg.POWER_PGOOD.PGOOD, Reg.REF_STATUS.STATE, Reg.REF_STATUS.ROLE_A, Reg.REF_STATUS.ROLE_B, Reg.REF_HT_STATUS.OUTCOME, Reg.REF_EVENT.UNFIT, Reg.ENG_STATUS.BALL, Reg.ENG_STATUS.SHADOW, Reg.ENG_STATUS.COLD, Reg.ENG_EXPORT.VALUE]
theorem State.endShadow_effect (s : State) (p1 : Nat) (p2 : Nat) :
    Effect State.endShadow_touch State.endShadow_fields s (@State.endShadow s p1 p2) := by
  unfold State.endShadow
  extract_lets x1
  have h2 : Effect State.endShadow_touch State.endShadow_fields s x1 := by
    refine Effect.after (State.wr_effect ..) (by decide +kernel) ?_
    refine Effect.after (State.setRole_effect ..) (by decide +kernel) ?_
    exact Effect.refl _ _ _
  try clear_value x1
  refine Effect.after (State.wr_effect ..) (by decide +kernel) ?_
  refine Effect.after (State.modRef_effect ..) (by decide +kernel) ?_
  exact h2

def State.wakeFails_touch : List Part := [.power, .faults, .cells, .arms, .engs, .convs, .referee]
def State.wakeFails_fields : Option (List Field) := some [Reg.DOMAIN_STATE.PLANE_A, Reg.DOMAIN_STATE.PLANE_B, Reg.CONV_STATE.STATE, Reg.CONV_STATE.CAUSE, Reg.CONV_STATE.SLEWING, Reg.CONV_STATE_FRAME.FRAME, Reg.CONV_RESIDUAL.E, Reg.CONV_COUNT.BLOCKS, Reg.CONV_EVENT.BLOCK, Reg.CONV_EVENT.RESYNC_FAIL, Reg.CONV_EVENT.COAST_LIMIT, Reg.CONV_EVENT_SRC.CONV, Reg.POWER_PGOOD.PGOOD, Reg.COLLECT_STATUS_LO.STATUS, Reg.COLLECT_STATUS_HI.STATUS, Reg.FAULT_COUNT_CORR.COUNT, Reg.FAULT_COUNT_CONT.COUNT, Reg.FAULT_COUNT_FATAL.COUNT, Reg.FAULT_EVENT.CORRECTED, Reg.FAULT_EVENT.CONTAINED, Reg.FAULT_EVENT.FATAL, Reg.FAULT_EVENT.HIST_LOST, Reg.FAULT_HIST_STATUS.LOST, Reg.REF_STATUS.STATE, Reg.REF_STATUS.ROLE_A, Reg.REF_STATUS.ROLE_B, Reg.REF_STATUS.LEASE, Reg.REF_HT_STATUS.OUTCOME, Reg.REF_EVENT.UNFIT, Reg.ENG_STATUS.BALL, Reg.ENG_STATUS.SHADOW, Reg.ENG_STATUS.COLD, Reg.ENG_EXPORT.VALUE, Reg.ARM_PTR.PTR]
theorem State.wakeFails_effect (s : State) (p1 : Bool) :
    Effect State.wakeFails_touch State.wakeFails_fields s (@State.wakeFails s p1) := by
  unfold State.wakeFails
  extract_lets x1 x2
  have h3 : Effect State.wakeFails_touch State.wakeFails_fields s x2 := by
    refine Effect.after (State.raise_effect ..) (by decide +kernel) ?_
    refine Effect.after (State.setRole_effect ..) (by decide +kernel) ?_
    exact Effect.refl _ _ _
  try clear_value x2
  try clear_value x1
  refine Effect.ite ?_ ?_
  · refine Effect.after (State.lose_effect ..) (by decide +kernel) ?_
    refine Effect.ite ?_ ?_
    · refine Effect.after (State.raise_effect ..) (by decide +kernel) ?_
      exact h3
    · refine Effect.after (State.raise_effect ..) (by decide +kernel) ?_
      exact h3
  · refine Effect.ite ?_ ?_
    · refine Effect.after (State.endShadow_effect ..) (by decide +kernel) ?_
      refine Effect.after (State.raise_effect ..) (by decide +kernel) ?_
      exact Effect.refl _ _ _
    · refine Effect.ite ?_ ?_
      · refine Effect.after (State.raise_effect ..) (by decide +kernel) ?_
        refine Effect.after (State.setRole_effect ..) (by decide +kernel) ?_
        exact Effect.refl _ _ _
      · exact Effect.refl _ _ _

def State.wakeFailNote_touch : List Part := []
def State.wakeFailNote_fields : Option (List Field) := some [Reg.POWER_WAKE_FAIL.ITEM, Reg.POWER_WAKE_FAIL.KIND, Reg.POWER_EVENT.EVENTS]
theorem State.wakeFailNote_effect (s : State) (p1 : Nat) (p2 : Nat) :
    Effect State.wakeFailNote_touch State.wakeFailNote_fields s (@State.wakeFailNote s p1 p2) := by
  unfold State.wakeFailNote
  refine Effect.after (State.evBit_effect ..) (by decide +kernel) ?_
  refine Effect.after (State.wr_effect ..) (by decide +kernel) ?_
  refine Effect.after (State.wr_effect ..) (by decide +kernel) ?_
  exact Effect.refl _ _ _

def State.refDisable_touch : List Part := []
def State.refDisable_fields : Option (List Field) := some [Reg.ADC_REF.EN, Reg.ADC_REF.READY]
theorem State.refDisable_effect (s : State) :
    Effect State.refDisable_touch State.refDisable_fields s (@State.refDisable s) := by
  unfold State.refDisable
  refine Effect.after (State.wr_effect ..) (by decide +kernel) ?_
  refine Effect.after (State.wr_effect ..) (by decide +kernel) ?_
  exact Effect.refl _ _ _

def State.modPower_touch : List Part := [.power]
def State.modPower_fields : Option (List Field) := some []
theorem State.modPower_effect (s : State) (p1 : PowerSt → PowerSt) :
    Effect State.modPower_touch State.modPower_fields s (@State.modPower s p1) := by
  unfold State.modPower
  refine Effect.after (Effect.power _ _) (by decide +kernel) ?_
  exact Effect.refl _ _ _

def State.showPgood_touch : List Part := []
def State.showPgood_fields : Option (List Field) := some [Reg.POWER_PGOOD.PGOOD]
theorem State.showPgood_effect (s : State) :
    Effect State.showPgood_touch State.showPgood_fields s (@State.showPgood s) := by
  unfold State.showPgood
  refine Effect.after (State.wr_effect ..) (by decide +kernel) ?_
  exact Effect.refl _ _ _

def State.railsOff_touch : List Part := [.power]
def State.railsOff_fields : Option (List Field) := some [Reg.POWER_PGOOD.PGOOD]
theorem State.railsOff_effect (s : State) (p1 : List Nat) :
    Effect State.railsOff_touch State.railsOff_fields s (@State.railsOff s p1) := by
  unfold State.railsOff
  refine Effect.after (State.showPgood_effect ..) (by decide +kernel) ?_
  refine Effect.after (State.modPower_effect ..) (by decide +kernel) ?_
  exact Effect.refl _ _ _

def State.analogDown_touch : List Part := [.power]
def State.analogDown_fields : Option (List Field) := some [Reg.DOMAIN_STATE.ANALOG, Reg.POWER_PGOOD.PGOOD, Reg.ADC_REF.EN, Reg.ADC_REF.READY]
theorem State.analogDown_effect (s : State) :
    Effect State.analogDown_touch State.analogDown_fields s (@State.analogDown s) := by
  unfold State.analogDown
  refine Effect.after (State.wr_effect ..) (by decide +kernel) ?_
  refine Effect.after (State.refDisable_effect ..) (by decide +kernel) ?_
  refine Effect.after (State.modPower_effect ..) (by decide +kernel) ?_
  refine Effect.after (State.railsOff_effect ..) (by decide +kernel) ?_
  exact Effect.refl _ _ _

def State.portIdle_touch : List Part := []
def State.portIdle_fields : Option (List Field) := some [Reg.BB_STATUS.UP, Reg.BB_STATUS.TX_IDLE, Reg.BB_STATUS.CLOCK, Reg.BB_EVENT.EVENTS]
theorem State.portIdle_effect (s : State) (p1 : Nat) :
    Effect State.portIdle_touch State.portIdle_fields s (@State.portIdle s p1) := by
  unfold State.portIdle
  extract_lets x1
  have h2 : Effect State.portIdle_touch State.portIdle_fields s x1 := by
    refine Effect.when ?_ ?_
    · exact Effect.refl _ _ _
    · intro u3
      try beta_reduce
      refine Effect.after (State.evBit_effect ..) (by decide +kernel) ?_
      exact Effect.refl _ _ _
  try clear_value x1
  refine Effect.after (State.wr_effect ..) (by decide +kernel) ?_
  refine Effect.after (State.wr_effect ..) (by decide +kernel) ?_
  refine Effect.after (State.wr_effect ..) (by decide +kernel) ?_
  exact h2

def State.portsIdle_touch : List Part := []
def State.portsIdle_fields : Option (List Field) := some [Reg.BB_STATUS.UP, Reg.BB_STATUS.TX_IDLE, Reg.BB_STATUS.CLOCK, Reg.BB_EVENT.EVENTS]
theorem State.portsIdle_effect (s : State) :
    Effect State.portsIdle_touch State.portsIdle_fields s (@State.portsIdle s) := by
  unfold State.portsIdle
  refine Effect.each ?_ ?_
  · exact Effect.refl _ _ _
  · intro u1 a2
    try beta_reduce
    refine Effect.after (State.portIdle_effect ..) (by decide +kernel) ?_
    exact Effect.refl _ _ _

def State.bbDown_touch : List Part := [.power]
def State.bbDown_fields : Option (List Field) := some [Reg.DOMAIN_STATE.BB_PHY, Reg.POWER_PGOOD.PGOOD, Reg.BB_STATUS.UP, Reg.BB_STATUS.TX_IDLE, Reg.BB_STATUS.CLOCK, Reg.BB_EVENT.EVENTS]
theorem State.bbDown_effect (s : State) :
    Effect State.bbDown_touch State.bbDown_fields s (@State.bbDown s) := by
  unfold State.bbDown
  refine Effect.after (State.wr_effect ..) (by decide +kernel) ?_
  refine Effect.after (State.portsIdle_effect ..) (by decide +kernel) ?_
  refine Effect.after (State.modPower_effect ..) (by decide +kernel) ?_
  refine Effect.after (State.railsOff_effect ..) (by decide +kernel) ?_
  exact Effect.refl _ _ _

def State.histRepeat_touch : List Part := []
def State.histRepeat_fields : Option (List Field) := some [Reg.FAULT_HIST_INFO.VALUE]
theorem State.histRepeat_effect (s : State) (p1 : Nat) :
    Effect State.histRepeat_touch State.histRepeat_fields s (@State.histRepeat s p1) := by
  unfold State.histRepeat
  extract_lets x1 x2
  try clear_value x1 x2
  refine Effect.after (State.wr_effect ..) (by decide +kernel) ?_
  exact Effect.refl _ _ _

def State.histAdd_touch : List Part := []
def State.histAdd_fields : Option (List Field) := some [Reg.FAULT_HIST_STATUS.NEWEST, Reg.FAULT_HIST_STATUS.FILLED, Reg.FAULT_HIST_FRAME.VALUE, Reg.FAULT_HIST_NS_LO.VALUE, Reg.FAULT_HIST_NS_HI.VALUE, Reg.FAULT_HIST_INFO.VALUE]
theorem State.histAdd_effect (s : State) (p1 : FaultEvt) :
    Effect State.histAdd_touch State.histAdd_fields s (@State.histAdd s p1) := by
  unfold State.histAdd
  extract_lets x1 x2 x3 x4
  have h5 : Effect State.histAdd_touch State.histAdd_fields s x3 := by
    refine Effect.after (State.wr_effect ..) (by decide +kernel) ?_
    refine Effect.after (State.wr_effect ..) (by decide +kernel) ?_
    exact Effect.refl _ _ _
  try clear_value x3
  have h6 : Effect State.histAdd_touch State.histAdd_fields s x4 := by
    refine Effect.after (State.wr64_effect ..) (by decide +kernel) ?_
    refine Effect.after (State.wr_effect ..) (by decide +kernel) ?_
    exact h5
  try clear_value x4
  try clear_value x1 x2
  refine Effect.after (State.wr_effect ..) (by decide +kernel) ?_
  exact h6

def State.history_touch : List Part := []
def State.history_fields : Option (List Field) := some [Reg.FAULT_HIST_STATUS.NEWEST, Reg.FAULT_HIST_STATUS.FILLED, Reg.FAULT_HIST_FRAME.VALUE, Reg.FAULT_HIST_NS_LO.VALUE, Reg.FAULT_HIST_NS_HI.VALUE, Reg.FAULT_HIST_INFO.VALUE]
theorem State.history_effect (s : State) (p1 : FaultEvt) :
    Effect State.history_touch State.history_fields s (@State.history s p1) := by
  unfold State.history
  refine Effect.ite ?_ ?_
  · exact Effect.refl _ _ _
  · split
    · refine Effect.after (State.histRepeat_effect ..) (by decide +kernel) ?_
      exact Effect.refl _ _ _
    · refine Effect.after (State.histAdd_effect ..) (by decide +kernel) ?_
      exact Effect.refl _ _ _

def State.modFaults_touch : List Part := [.faults]
def State.modFaults_fields : Option (List Field) := some []
theorem State.modFaults_effect (s : State) (p1 : FaultSt → FaultSt) :
    Effect State.modFaults_touch State.modFaults_fields s (@State.modFaults s p1) := by
  unfold State.modFaults
  refine Effect.after (Effect.faults _ _) (by decide +kernel) ?_
  exact Effect.refl _ _ _

def State.contained_touch : List Part := [.faults, .referee]
def State.contained_fields : Option (List Field) := some [Reg.FAULT_STATE.CONTAINED]
theorem State.contained_effect (s : State) :
    Effect State.contained_touch State.contained_fields s (@State.contained s) := by
  unfold State.contained
  extract_lets x1 x2
  have h3 : Effect State.contained_touch State.contained_fields s x1 := by
    refine Effect.after (State.wr_effect ..) (by decide +kernel) ?_
    exact Effect.refl _ _ _
  try clear_value x1
  have h4 : Effect State.contained_touch State.contained_fields s x2 := by
    refine Effect.after (State.modFaults_effect ..) (by decide +kernel) ?_
    exact h3
  try clear_value x2
  refine Effect.after (State.modRef_effect ..) (by decide +kernel) ?_
  exact h4

def State.fatalState_touch : List Part := [.power, .faults, .cells, .arms, .engs, .convs, .referee]
def State.fatalState_fields : Option (List Field) := some [Reg.DOMAIN_STATE.PLANE_A, Reg.DOMAIN_STATE.PLANE_B, Reg.CONV_STATE.STATE, Reg.CONV_STATE.CAUSE, Reg.CONV_STATE.SLEWING, Reg.CONV_STATE_FRAME.FRAME, Reg.CONV_RESIDUAL.E, Reg.CONV_COUNT.BLOCKS, Reg.CONV_EVENT.BLOCK, Reg.CONV_EVENT.RESYNC_FAIL, Reg.CONV_EVENT.COAST_LIMIT, Reg.CONV_EVENT_SRC.CONV, Reg.POWER_PGOOD.PGOOD, Reg.COLLECT_STATUS_LO.STATUS, Reg.COLLECT_STATUS_HI.STATUS, Reg.FAULT_STATE.FATAL, Reg.FAULT_STATE.FAULT_N, Reg.FAULT_STATE.ALIVE_RUN, Reg.FAULT_COUNT_CORR.COUNT, Reg.FAULT_COUNT_CONT.COUNT, Reg.FAULT_COUNT_FATAL.COUNT, Reg.FAULT_EVENT.CORRECTED, Reg.FAULT_EVENT.CONTAINED, Reg.FAULT_EVENT.FATAL, Reg.FAULT_EVENT.HIST_LOST, Reg.FAULT_HIST_STATUS.LOST, Reg.REF_STATUS.STATE, Reg.REF_STATUS.ROLE_A, Reg.REF_STATUS.ROLE_B, Reg.REF_STATUS.LEASE, Reg.REF_EVENT.UNFIT, Reg.ENG_STATUS.BALL, Reg.ENG_STATUS.SHADOW, Reg.ENG_STATUS.COLD, Reg.ENG_EXPORT.VALUE, Reg.ARM_PTR.PTR]
theorem State.fatalState_effect (s : State) :
    Effect State.fatalState_touch State.fatalState_fields s (@State.fatalState s) := by
  unfold State.fatalState
  extract_lets x1 x2 x3
  have h4 : Effect State.fatalState_touch State.fatalState_fields s x1 := by
    refine Effect.after (State.wr_effect ..) (by decide +kernel) ?_
    refine Effect.after (State.wr_effect ..) (by decide +kernel) ?_
    exact Effect.refl _ _ _
  try clear_value x1
  have h5 : Effect State.fatalState_touch State.fatalState_fields s x2 := by
    refine Effect.after (State.modFaults_effect ..) (by decide +kernel) ?_
    refine Effect.after (State.wr_effect ..) (by decide +kernel) ?_
    exact h4
  try clear_value x2
  have h6 : Effect State.fatalState_touch State.fatalState_fields s x3 := by
    refine Effect.after (State.modRef_effect ..) (by decide +kernel) ?_
    exact h5
  try clear_value x3
  refine Effect.ite ?_ ?_
  · exact h6
  · refine Effect.after (State.lose_effect ..) (by decide +kernel) ?_
    exact h6

def State.firstFatal_touch : List Part := []
def State.firstFatal_fields : Option (List Field) := some [Reg.FAULT_FIRST_FATAL.BIT, Reg.FAULT_FIRST_FATAL.VALID, Reg.FAULT_FIRST_FATAL.FRAME_VALID, Reg.FAULT_FIRST_FATAL.DETAIL, Reg.FAULT_FIRST_FRAME.VALUE, Reg.FAULT_FIRST_NS_LO.VALUE, Reg.FAULT_FIRST_NS_HI.VALUE]
theorem State.firstFatal_effect (s : State) (p1 : FaultEvt) :
    Effect State.firstFatal_touch State.firstFatal_fields s (@State.firstFatal s p1) := by
  unfold State.firstFatal
  extract_lets x1 x2
  have h3 : Effect State.firstFatal_touch State.firstFatal_fields s x1 := by
    refine Effect.after (State.wr_effect ..) (by decide +kernel) ?_
    refine Effect.after (State.wr_effect ..) (by decide +kernel) ?_
    exact Effect.refl _ _ _
  try clear_value x1
  have h4 : Effect State.firstFatal_touch State.firstFatal_fields s x2 := by
    refine Effect.after (State.wr_effect ..) (by decide +kernel) ?_
    refine Effect.after (State.wr_effect ..) (by decide +kernel) ?_
    exact h3
  try clear_value x2
  refine Effect.ite ?_ ?_
  · exact Effect.refl _ _ _
  · refine Effect.after (State.wr64_effect ..) (by decide +kernel) ?_
    refine Effect.after (State.wr_effect ..) (by decide +kernel) ?_
    exact h4

def State.collect_touch : List Part := [.power, .faults, .cells, .arms, .engs, .convs, .referee]
def State.collect_fields : Option (List Field) := some [Reg.DOMAIN_STATE.PLANE_A, Reg.DOMAIN_STATE.PLANE_B, Reg.CONV_STATE.STATE, Reg.CONV_STATE.CAUSE, Reg.CONV_STATE.SLEWING, Reg.CONV_STATE_FRAME.FRAME, Reg.CONV_RESIDUAL.E, Reg.CONV_COUNT.BLOCKS, Reg.CONV_EVENT.BLOCK, Reg.CONV_EVENT.RESYNC_FAIL, Reg.CONV_EVENT.COAST_LIMIT, Reg.CONV_EVENT_SRC.CONV, Reg.POWER_PGOOD.PGOOD, Reg.COLLECT_STATUS_LO.STATUS, Reg.COLLECT_STATUS_HI.STATUS, Reg.FAULT_STATE.CONTAINED, Reg.FAULT_STATE.FATAL, Reg.FAULT_STATE.FAULT_N, Reg.FAULT_STATE.ALIVE_RUN, Reg.FAULT_COUNT_CORR.COUNT, Reg.FAULT_COUNT_CONT.COUNT, Reg.FAULT_COUNT_FATAL.COUNT, Reg.FAULT_EVENT.CORRECTED, Reg.FAULT_EVENT.CONTAINED, Reg.FAULT_EVENT.FATAL, Reg.FAULT_EVENT.HIST_LOST, Reg.FAULT_FIRST_FATAL.BIT, Reg.FAULT_FIRST_FATAL.VALID, Reg.FAULT_FIRST_FATAL.FRAME_VALID, Reg.FAULT_FIRST_FATAL.DETAIL, Reg.FAULT_FIRST_FRAME.VALUE, Reg.FAULT_FIRST_NS_LO.VALUE, Reg.FAULT_FIRST_NS_HI.VALUE, Reg.FAULT_HIST_STATUS.NEWEST, Reg.FAULT_HIST_STATUS.FILLED, Reg.FAULT_HIST_STATUS.LOST, Reg.FAULT_HIST_FRAME.VALUE, Reg.FAULT_HIST_NS_LO.VALUE, Reg.FAULT_HIST_NS_HI.VALUE, Reg.FAULT_HIST_INFO.VALUE, Reg.REF_STATUS.STATE, Reg.REF_STATUS.ROLE_A, Reg.REF_STATUS.ROLE_B, Reg.REF_STATUS.LEASE, Reg.REF_EVENT.UNFIT, Reg.ENG_STATUS.BALL, Reg.ENG_STATUS.SHADOW, Reg.ENG_STATUS.COLD, Reg.ENG_EXPORT.VALUE, Reg.ARM_PTR.PTR]
theorem State.collect_effect (s : State) (p1 : FaultEvt) :
    Effect State.collect_touch State.collect_fields s (@State.collect s p1) := by
  unfold State.collect
  extract_lets x1
  have h2 : Effect State.collect_touch State.collect_fields s x1 := by
    refine Effect.after (State.history_effect ..) (by decide +kernel) ?_
    refine Effect.after (State.faultCount_effect ..) (by decide +kernel) ?_
    exact Effect.refl _ _ _
  try clear_value x1
  split
  · exact h2
  · refine Effect.after (State.contained_effect ..) (by decide +kernel) ?_
    exact h2
  · refine Effect.after (State.fatalState_effect ..) (by decide +kernel) ?_
    refine Effect.after (State.firstFatal_effect ..) (by decide +kernel) ?_
    exact h2

def State.collectNext_touch : List Part := [.power, .faults, .cells, .arms, .engs, .convs, .referee]
def State.collectNext_fields : Option (List Field) := some [Reg.DOMAIN_STATE.PLANE_A, Reg.DOMAIN_STATE.PLANE_B, Reg.CONV_STATE.STATE, Reg.CONV_STATE.CAUSE, Reg.CONV_STATE.SLEWING, Reg.CONV_STATE_FRAME.FRAME, Reg.CONV_RESIDUAL.E, Reg.CONV_COUNT.BLOCKS, Reg.CONV_EVENT.BLOCK, Reg.CONV_EVENT.RESYNC_FAIL, Reg.CONV_EVENT.COAST_LIMIT, Reg.CONV_EVENT_SRC.CONV, Reg.POWER_PGOOD.PGOOD, Reg.COLLECT_STATUS_LO.STATUS, Reg.COLLECT_STATUS_HI.STATUS, Reg.FAULT_STATE.CONTAINED, Reg.FAULT_STATE.FATAL, Reg.FAULT_STATE.FAULT_N, Reg.FAULT_STATE.ALIVE_RUN, Reg.FAULT_COUNT_CORR.COUNT, Reg.FAULT_COUNT_CONT.COUNT, Reg.FAULT_COUNT_FATAL.COUNT, Reg.FAULT_EVENT.CORRECTED, Reg.FAULT_EVENT.CONTAINED, Reg.FAULT_EVENT.FATAL, Reg.FAULT_EVENT.HIST_LOST, Reg.FAULT_FIRST_FATAL.BIT, Reg.FAULT_FIRST_FATAL.VALID, Reg.FAULT_FIRST_FATAL.FRAME_VALID, Reg.FAULT_FIRST_FATAL.DETAIL, Reg.FAULT_FIRST_FRAME.VALUE, Reg.FAULT_FIRST_NS_LO.VALUE, Reg.FAULT_FIRST_NS_HI.VALUE, Reg.FAULT_HIST_STATUS.NEWEST, Reg.FAULT_HIST_STATUS.FILLED, Reg.FAULT_HIST_STATUS.LOST, Reg.FAULT_HIST_FRAME.VALUE, Reg.FAULT_HIST_NS_LO.VALUE, Reg.FAULT_HIST_NS_HI.VALUE, Reg.FAULT_HIST_INFO.VALUE, Reg.REF_STATUS.STATE, Reg.REF_STATUS.ROLE_A, Reg.REF_STATUS.ROLE_B, Reg.REF_STATUS.LEASE, Reg.REF_EVENT.UNFIT, Reg.ENG_STATUS.BALL, Reg.ENG_STATUS.SHADOW, Reg.ENG_STATUS.COLD, Reg.ENG_EXPORT.VALUE, Reg.ARM_PTR.PTR]
theorem State.collectNext_effect (s : State) :
    Effect State.collectNext_touch State.collectNext_fields s (@State.collectNext s) := by
  unfold State.collectNext
  split
  · exact Effect.refl _ _ _
  · refine Effect.after (State.collect_effect ..) (by decide +kernel) ?_
    refine Effect.after (State.modFaults_effect ..) (by decide +kernel) ?_
    exact Effect.refl _ _ _

def State.collectAll_touch : List Part := [.power, .faults, .cells, .arms, .engs, .convs, .referee]
def State.collectAll_fields : Option (List Field) := (some [Reg.DOMAIN_STATE.PLANE_A, Reg.DOMAIN_STATE.PLANE_B, Reg.CONV_STATE.STATE, Reg.CONV_STATE.CAUSE, Reg.CONV_STATE.SLEWING, Reg.CONV_STATE_FRAME.FRAME, Reg.CONV_RESIDUAL.E, Reg.CONV_COUNT.BLOCKS, Reg.CONV_EVENT.BLOCK, Reg.CONV_EVENT.RESYNC_FAIL, Reg.CONV_EVENT.COAST_LIMIT, Reg.CONV_EVENT_SRC.CONV, Reg.POWER_PGOOD.PGOOD, Reg.COLLECT_STATUS_LO.STATUS, Reg.COLLECT_STATUS_HI.STATUS, Reg.FAULT_STATE.CONTAINED, Reg.FAULT_STATE.FATAL, Reg.FAULT_STATE.FAULT_N, Reg.FAULT_STATE.ALIVE_RUN, Reg.FAULT_COUNT_CORR.COUNT, Reg.FAULT_COUNT_CONT.COUNT, Reg.FAULT_COUNT_FATAL.COUNT, Reg.FAULT_EVENT.CORRECTED, Reg.FAULT_EVENT.CONTAINED, Reg.FAULT_EVENT.FATAL, Reg.FAULT_EVENT.HIST_LOST, Reg.FAULT_FIRST_FATAL.BIT, Reg.FAULT_FIRST_FATAL.VALID, Reg.FAULT_FIRST_FATAL.FRAME_VALID, Reg.FAULT_FIRST_FATAL.DETAIL, Reg.FAULT_FIRST_FRAME.VALUE, Reg.FAULT_FIRST_NS_LO.VALUE, Reg.FAULT_FIRST_NS_HI.VALUE, Reg.FAULT_HIST_STATUS.NEWEST, Reg.FAULT_HIST_STATUS.FILLED, Reg.FAULT_HIST_STATUS.LOST, Reg.FAULT_HIST_FRAME.VALUE, Reg.FAULT_HIST_NS_LO.VALUE, Reg.FAULT_HIST_NS_HI.VALUE, Reg.FAULT_HIST_INFO.VALUE, Reg.REF_STATUS.STATE, Reg.REF_STATUS.ROLE_A, Reg.REF_STATUS.ROLE_B, Reg.REF_STATUS.LEASE, Reg.REF_EVENT.UNFIT, Reg.ENG_STATUS.BALL, Reg.ENG_STATUS.SHADOW, Reg.ENG_STATUS.COLD, Reg.ENG_EXPORT.VALUE, Reg.ARM_PTR.PTR])
theorem State.collectAll_effect (s : State) (n : Nat) :
    Effect State.collectAll_touch State.collectAll_fields s (s.collectAll n) := by
  induction n generalizing s with
  | zero => exact Effect.refl _ _ _
  | succ n ih => exact ((State.collectNext_effect s).widen (by decide +kernel)).step (ih _) (Effect.fits_refl _ _)

def State.setCanMsgs_touch : List Part := [.canQueues]
def State.setCanMsgs_fields : Option (List Field) := some [Reg.CAN_TXQ.FILL]
theorem State.setCanMsgs_effect (s : State) (p1 : Nat) (p2 : List CanMsg) :
    Effect State.setCanMsgs_touch State.setCanMsgs_fields s (@State.setCanMsgs s p1 p2) := by
  unfold State.setCanMsgs
  refine Effect.after (State.wr_effect ..) (by decide +kernel) ?_
  refine Effect.after (Effect.canQueues _ _ _) (by decide +kernel) ?_
  exact Effect.refl _ _ _

def State.canReset_touch : List Part := [.canQueues]
def State.canReset_fields : Option (List Field) := some [Reg.CAN_TXQ.FILL]
theorem State.canReset_effect (s : State) (p1 : Nat) (p2 : Bool) :
    Effect State.canReset_touch State.canReset_fields s (@State.canReset s p1 p2) := by
  unfold State.canReset
  split
  · refine Effect.ite ?_ ?_
    · refine Effect.after (State.setCanMsgs_effect ..) (by decide +kernel) ?_
      exact Effect.refl _ _ _
    · exact Effect.refl _ _ _
  · exact Effect.refl _ _ _

def State.showSafe_touch : List Part := []
def State.showSafe_fields : Option (List Field) := some [Reg.SAFE_STATUS.A_OK, Reg.SAFE_STATUS.B_OK, Reg.SAFE_STATUS.DIAG, Reg.SAFE_STATUS.DIAG_CAUSE, Reg.SAFE_STATUS.RESET_PIN, Reg.SAFE_STATUS.DEMAND, Reg.SAFE_STATUS.LOCKED, Reg.SAFE_STATUS.DIAG_A, Reg.SAFE_STATUS.DIAG_B, Reg.SAFE_GROUP.STATE, Reg.SAFE_GROUP.KIND, Reg.SAFE_GROUP.STOP, Reg.SAFE_GROUP.CAUSE, Reg.SAFE_GROUP.PAIRS, Reg.SAFE_PAIR.CH_A, Reg.SAFE_PAIR.CH_B, Reg.SAFE_PAIR.DEMAND, Reg.SAFE_PAIR.PAIR_FAULT, Reg.SAFE_PAIR.FAULT_CAUSE, Reg.SAFE_PAIR.DEMANDS, Reg.SAFE_TPO.EN, Reg.SAFE_TPO.READBACK_FAULT, Reg.SAFE_FIRE.FIRE_A, Reg.SAFE_FIRE.FIRE_B, Reg.SAFE_FIRE.DRV_A, Reg.SAFE_FIRE.DRV_B, Reg.SAFE_RESET_STATUS.ARMED]
theorem State.showSafe_effect (s : State) :
    Effect State.showSafe_touch State.showSafe_fields s (@State.showSafe s) := by
  unfold State.showSafe
  extract_lets x1 x2 x3 x4 x5 x6 x7 x8 x9 x10 x11 x12 x13 x14 x15
  have h16 : Effect State.showSafe_touch State.showSafe_fields s x3 := by
    refine Effect.after (State.wr_effect ..) (by decide +kernel) ?_
    refine Effect.after (State.wr_effect ..) (by decide +kernel) ?_
    exact Effect.refl _ _ _
  try clear_value x3
  have h17 : Effect State.showSafe_touch State.showSafe_fields s x6 := by
    refine Effect.after (State.wr_effect ..) (by decide +kernel) ?_
    refine Effect.after (State.wr_effect ..) (by decide +kernel) ?_
    exact h16
  try clear_value x6
  have h18 : Effect State.showSafe_touch State.showSafe_fields s x7 := by
    refine Effect.after (State.wr_effect ..) (by decide +kernel) ?_
    refine Effect.after (State.wr_effect ..) (by decide +kernel) ?_
    exact h17
  try clear_value x7
  have h19 : Effect State.showSafe_touch State.showSafe_fields s x8 := by
    refine Effect.after (State.wr_effect ..) (by decide +kernel) ?_
    exact h18
  try clear_value x8
  have h20 : Effect State.showSafe_touch State.showSafe_fields s x9 := by
    refine Effect.after (State.wr_effect ..) (by decide +kernel) ?_
    exact h19
  try clear_value x9
  have h21 : Effect State.showSafe_touch State.showSafe_fields s x10 := by
    refine Effect.after (State.wr_effect ..) (by decide +kernel) ?_
    exact h20
  try clear_value x10
  have h22 : Effect State.showSafe_touch State.showSafe_fields s x11 := by
    refine Effect.each ?_ ?_
    · exact h21
    · intro u23 a24
      try beta_reduce
      extract_lets x25 x26 x27
      have h28 : Effect State.showSafe_touch State.showSafe_fields u23 x26 := by
        refine Effect.after (State.wr_effect ..) (by decide +kernel) ?_
        refine Effect.after (State.wr_effect ..) (by decide +kernel) ?_
        exact Effect.refl _ _ _
      try clear_value x26
      have h29 : Effect State.showSafe_touch State.showSafe_fields u23 x27 := by
        refine Effect.after (State.wr_effect ..) (by decide +kernel) ?_
        refine Effect.after (State.wr_effect ..) (by decide +kernel) ?_
        exact h28
      try clear_value x27
      try clear_value x25
      refine Effect.after (State.wr_effect ..) (by decide +kernel) ?_
      exact h29
  try clear_value x11
  have h30 : Effect State.showSafe_touch State.showSafe_fields s x12 := by
    refine Effect.each ?_ ?_
    · exact h22
    · intro u31 a32
      try beta_reduce
      extract_lets x33 x34 x35
      have h36 : Effect State.showSafe_touch State.showSafe_fields u31 x34 := by
        refine Effect.after (State.wr_effect ..) (by decide +kernel) ?_
        refine Effect.after (State.wr_effect ..) (by decide +kernel) ?_
        exact Effect.refl _ _ _
      try clear_value x34
      have h37 : Effect State.showSafe_touch State.showSafe_fields u31 x35 := by
        refine Effect.after (State.wr_effect ..) (by decide +kernel) ?_
        refine Effect.after (State.wr_effect ..) (by decide +kernel) ?_
        exact h36
      try clear_value x35
      try clear_value x33
      refine Effect.after (State.wr_effect ..) (by decide +kernel) ?_
      refine Effect.after (State.wr_effect ..) (by decide +kernel) ?_
      exact h37
  try clear_value x12
  have h38 : Effect State.showSafe_touch State.showSafe_fields s x13 := by
    refine Effect.after (State.wr_effect ..) (by decide +kernel) ?_
    refine Effect.after (State.wr_effect ..) (by decide +kernel) ?_
    exact h30
  try clear_value x13
  have h39 : Effect State.showSafe_touch State.showSafe_fields s x14 := by
    refine Effect.after (State.wr_effect ..) (by decide +kernel) ?_
    refine Effect.after (State.wr_effect ..) (by decide +kernel) ?_
    exact h38
  try clear_value x14
  have h40 : Effect State.showSafe_touch State.showSafe_fields s x15 := by
    refine Effect.after (State.wr_effect ..) (by decide +kernel) ?_
    refine Effect.after (State.wr_effect ..) (by decide +kernel) ?_
    exact h39
  try clear_value x15
  try clear_value x1 x4 x5
  refine Effect.after (State.wr_effect ..) (by decide +kernel) ?_
  exact h40

def State.announceStop_touch : List Part := [.safety]
def State.announceStop_fields : Option (List Field) := some [Reg.SAFE_STATUS.A_OK, Reg.SAFE_STATUS.B_OK, Reg.SAFE_STATUS.DIAG, Reg.SAFE_STATUS.DIAG_CAUSE, Reg.SAFE_STATUS.RESET_PIN, Reg.SAFE_STATUS.DEMAND, Reg.SAFE_STATUS.LOCKED, Reg.SAFE_STATUS.DIAG_A, Reg.SAFE_STATUS.DIAG_B, Reg.SAFE_GROUP.STATE, Reg.SAFE_GROUP.KIND, Reg.SAFE_GROUP.STOP, Reg.SAFE_GROUP.CAUSE, Reg.SAFE_GROUP.PAIRS, Reg.SAFE_PAIR.CH_A, Reg.SAFE_PAIR.CH_B, Reg.SAFE_PAIR.DEMAND, Reg.SAFE_PAIR.PAIR_FAULT, Reg.SAFE_PAIR.FAULT_CAUSE, Reg.SAFE_PAIR.DEMANDS, Reg.SAFE_TPO.EN, Reg.SAFE_TPO.READBACK_FAULT, Reg.SAFE_FIRE.FIRE_A, Reg.SAFE_FIRE.FIRE_B, Reg.SAFE_FIRE.DRV_A, Reg.SAFE_FIRE.DRV_B, Reg.SAFE_RESET_STATUS.ARMED]
theorem State.announceStop_effect (s : State) :
    Effect State.announceStop_touch State.announceStop_fields s (@State.announceStop s) := by
  unfold State.announceStop
  extract_lets x1
  try clear_value x1
  refine Effect.after (State.showSafe_effect ..) (by decide +kernel) ?_
  refine Effect.after (Effect.safety _ _) (by decide +kernel) ?_
  exact Effect.refl _ _ _

def State.holdOutputs_touch : List Part := []
def State.holdOutputs_fields : Option (List Field) := some [Reg.FAULT_STATE.FAULT_N, Reg.FAULT_STATE.ALIVE_RUN]
theorem State.holdOutputs_effect (s : State) :
    Effect State.holdOutputs_touch State.holdOutputs_fields s (@State.holdOutputs s) := by
  unfold State.holdOutputs
  refine Effect.after (State.wr_effect ..) (by decide +kernel) ?_
  refine Effect.after (State.wr_effect ..) (by decide +kernel) ?_
  exact Effect.refl _ _ _

/-- The drive sides after a DEV reset are in canonical form, whatever they were before. -/
theorem resetDrives_wf (t : Tbl DrvSt) : (resetDrives t).wf default = true := by
  have h : ∀ (l : List Nat) (r : Tbl DrvSt), r.wf default = true →
      (l.foldl (fun r u => Tbl.put default r u (Tbl.look default t u).afterReset) r).wf default = true := by
    intro l
    induction l with
    | nil => exact fun r w => w
    | cons a l ih => exact fun r w => ih _ (Tbl.wf_put a _ w)
  exact h _ [] rfl
/-- What a DEV reset restores besides the registers (R14, R378). -/
theorem State.wipe_effect (s : State) (power : PowerSt) (faults : FaultSt) (host : HostSt) (load : LoadSt) (cfg : Cfg) (fr : FrameSt)
    (referee : RefSt) (pair : PairSt) (journal : JrnSt) (adc : AdcSt) (safety : SafeSt) (d : Tbl DrvSt) :
    Effect [.hold, .wrHold, .power, .faults, .host, .load, .cfg, .fr, .lanes, .chains, .cells, .arms, .engs, .convs, .referee, .pair,
      .journal, .adc, .drives, .motors, .safety, .eths, .cans] none s
      { s with
        regs := [], hold := [], wrHold := [], power := power, faults := faults, host := host, load := load, cfg := cfg, fr := fr,
        lanes := [], chains := [], cells := [], arms := [], engs := [], convs := [], journal := journal, referee := referee,
        pair := pair, adc := adc, drives := resetDrives d, motors := [], safety := safety, eths := [], cans := [] } where
  same p hp := by cases p <;> first | rfl | exact absurd (by decide) hp
  regs _ e := by cases e
  log := List.prefix_refl _
  drawn := le_refl _
  fuses := Fuses.below_refl _
  stores w := by
    simp only [State.storesWf, Bool.and_eq_true] at w ⊢
    obtain ⟨⟨⟨⟨⟨⟨⟨⟨⟨⟨⟨⟨⟨⟨⟨_, k⟩, _⟩, _⟩, m⟩, _⟩, _⟩, _⟩, _⟩, _⟩, _⟩, _⟩, _⟩, _⟩, q⟩, _⟩ := w
    exact ⟨⟨⟨⟨⟨⟨⟨⟨⟨⟨⟨⟨⟨⟨⟨rfl, k⟩, rfl⟩, rfl⟩, m⟩, rfl⟩, rfl⟩, rfl⟩, rfl⟩, rfl⟩, rfl⟩, resetDrives_wf d⟩, rfl⟩, rfl⟩, q⟩, rfl⟩
def State.devReset_touch : List Part := [.hold, .wrHold, .power, .faults, .host, .load, .cfg, .fr, .images, .lanes, .chains, .cells, .arms, .engs, .convs, .referee, .pair, .journal, .adc, .drives, .motors, .safety, .eths, .canQueues, .cans]
def State.devReset_fields : Option (List Field) := none
theorem State.devReset_effect (s : State) (announce : Bool) (eof : Nat) :
    Effect State.devReset_touch State.devReset_fields s (s.devReset announce eof) := by
  unfold State.devReset
  extract_lets x1 x2 x3 y1 y2 y3 y4 y5 x4 x5 x6
  have h1 : Effect State.devReset_touch State.devReset_fields s x1 := (State.collectAll_effect ..).widen (by decide +kernel)
  have h2 : Effect State.devReset_touch State.devReset_fields s x2 :=
    Effect.each h1 fun u n => (State.canReset_effect ..).widen (by decide +kernel)
  have h3 : Effect State.devReset_touch State.devReset_fields s x3 :=
    Effect.when h2 fun u => (State.announceStop_effect ..).widen (by decide +kernel)
  have h4 : Effect State.devReset_touch State.devReset_fields s x4 := h3.step (State.wipe_effect ..) (by decide +kernel)
  have h5 : Effect State.devReset_touch State.devReset_fields s x5 := Effect.after (State.holdOutputs_effect ..) (by decide +kernel) h4
  have h6 : Effect State.devReset_touch State.devReset_fields s x6 :=
    Effect.when h5 fun u => (State.wr_effect ..).widen (by decide +kernel)
  exact Effect.after (State.showSafe_effect ..) (by decide +kernel) h6

def State.showWait_touch : List Part := []
def State.showWait_fields : Option (List Field) := some [Reg.JRN_RING_STATUS.WAIT_CPL]
theorem State.showWait_effect (s : State) :
    Effect State.showWait_touch State.showWait_fields s (@State.showWait s) := by
  unfold State.showWait
  extract_lets x1
  try clear_value x1
  refine Effect.after (State.wr_effect ..) (by decide +kernel) ?_
  exact Effect.refl _ _ _

def State.cancelShadow_touch : List Part := [.power, .engs, .referee]
def State.cancelShadow_fields : Option (List Field) := some [Reg.DOMAIN_STATE.PLANE_A, Reg.DOMAIN_STATE.PLANE_B, Reg.POWER_PGOOD.PGOOD, Reg.REF_STATUS.STATE, Reg.REF_STATUS.ROLE_A, Reg.REF_STATUS.ROLE_B, Reg.REF_HT_STATUS.OUTCOME, Reg.REF_EVENT.CANCEL, Reg.REF_EVENT.UNFIT, Reg.ENG_STATUS.BALL, Reg.ENG_STATUS.SHADOW, Reg.ENG_STATUS.COLD, Reg.ENG_EXPORT.VALUE]
theorem State.cancelShadow_effect (s : State) :
    Effect State.cancelShadow_touch State.cancelShadow_fields s (@State.cancelShadow s) := by
  unfold State.cancelShadow
  split
  · exact Effect.refl _ _ _
  · extract_lets x1
    have h2 : Effect State.cancelShadow_touch State.cancelShadow_fields s x1 := by
      refine Effect.after (State.wr_effect ..) (by decide +kernel) ?_
      refine Effect.after (State.endShadow_effect ..) (by decide +kernel) ?_
      exact Effect.refl _ _ _
    try clear_value x1
    refine Effect.ite ?_ ?_
    · exact h2
    · refine Effect.after (State.modRef_effect ..) (by decide +kernel) ?_
      exact h2

def State.emptyHistory_touch : List Part := [.fr]
def State.emptyHistory_fields : Option (List Field) := some [Reg.PLAN_LEVEL.STATIC, Reg.PLAN_FORECAST.ENG_NEED, Reg.PLAN_FORECAST.FAB_NEED]
theorem State.emptyHistory_effect (s : State) :
    Effect State.emptyHistory_touch State.emptyHistory_fields s (@State.emptyHistory s) := by
  unfold State.emptyHistory
  extract_lets x1 x2 x3 x4
  have h5 : Effect State.emptyHistory_touch State.emptyHistory_fields s x3 := by
    refine Effect.after (Effect.fr _ _) (by decide +kernel) ?_
    exact Effect.refl _ _ _
  try clear_value x3
  have h6 : Effect State.emptyHistory_touch State.emptyHistory_fields s x4 := by
    refine Effect.after (State.wr_effect ..) (by decide +kernel) ?_
    exact h5
  try clear_value x4
  try clear_value x1 x2
  refine Effect.after (State.wr_effect ..) (by decide +kernel) ?_
  refine Effect.after (State.wr_effect ..) (by decide +kernel) ?_
  exact h6

def State.modFr_touch : List Part := [.fr]
def State.modFr_fields : Option (List Field) := some []
theorem State.modFr_effect (s : State) (p1 : FrameSt → FrameSt) :
    Effect State.modFr_touch State.modFr_fields s (@State.modFr s p1) := by
  unfold State.modFr
  refine Effect.after (Effect.fr _ _) (by decide +kernel) ?_
  exact Effect.refl _ _ _

def State.cmdSetFramePeriod_touch : List Part := [.power, .fr, .engs, .referee]
def State.cmdSetFramePeriod_fields : Option (List Field) := some [Reg.DOMAIN_STATE.PLANE_A, Reg.DOMAIN_STATE.PLANE_B, Reg.POWER_PGOOD.PGOOD, Reg.REF_STATUS.STATE, Reg.REF_STATUS.ROLE_A, Reg.REF_STATUS.ROLE_B, Reg.REF_HT_STATUS.OUTCOME, Reg.REF_EVENT.CANCEL, Reg.REF_EVENT.UNFIT, Reg.PLAN_LEVEL.STATIC, Reg.PLAN_FORECAST.ENG_NEED, Reg.PLAN_FORECAST.FAB_NEED, Reg.ENG_STATUS.BALL, Reg.ENG_STATUS.SHADOW, Reg.ENG_STATUS.COLD, Reg.ENG_EXPORT.VALUE]
theorem State.cmdSetFramePeriod_effect (s : State) (p1 : Nat) :
    Effect State.cmdSetFramePeriod_touch State.cmdSetFramePeriod_fields s (@State.cmdSetFramePeriod s p1).2 := by
  unfold State.cmdSetFramePeriod
  refine Effect.ite2 ?_ ?_
  · refine Effect.snd ?_
    exact Effect.refl _ _ _
  · refine Effect.ite2 ?_ ?_
    · refine Effect.snd ?_
      exact Effect.refl _ _ _
    · refine Effect.snd ?_
      refine Effect.after (State.cancelShadow_effect ..) (by decide +kernel) ?_
      refine Effect.after (State.emptyHistory_effect ..) (by decide +kernel) ?_
      refine Effect.after (State.modFr_effect ..) (by decide +kernel) ?_
      exact Effect.refl _ _ _

def State.cellAdmit_touch : List Part := [.cells]
def State.cellAdmit_fields : Option (List Field) := some []
theorem State.cellAdmit_effect (s : State) (p1 : Nat) (p2 : Nat) :
    Effect State.cellAdmit_touch State.cellAdmit_fields s (@State.cellAdmit s p1 p2).2 := by
  unfold State.cellAdmit
  split
  · refine Effect.ite2 ?_ ?_
    · refine Effect.snd ?_
      exact Effect.refl _ _ _
    · refine Effect.ite2 ?_ ?_
      · refine Effect.snd ?_
        exact Effect.refl _ _ _
      · refine Effect.ite2 ?_ ?_
        · refine Effect.snd ?_
          exact Effect.refl _ _ _
        · refine Effect.ite2 ?_ ?_
          · refine Effect.snd ?_
            exact Effect.refl _ _ _
          · refine Effect.snd ?_
            refine Effect.after (State.modCell_effect ..) (by decide +kernel) ?_
            exact Effect.refl _ _ _
  · refine Effect.snd ?_
    exact Effect.refl _ _ _

def State.cellBypass_touch : List Part := [.cells]
def State.cellBypass_fields : Option (List Field) := some []
theorem State.cellBypass_effect (s : State) (p1 : Nat) :
    Effect State.cellBypass_touch State.cellBypass_fields s (@State.cellBypass s p1).2 := by
  unfold State.cellBypass
  refine Effect.ite2 ?_ ?_
  · refine Effect.snd ?_
    exact Effect.refl _ _ _
  · refine Effect.ite2 ?_ ?_
    · refine Effect.snd ?_
      exact Effect.refl _ _ _
    · refine Effect.snd ?_
      refine Effect.after (State.modCell_effect ..) (by decide +kernel) ?_
      exact Effect.refl _ _ _

def State.clearCell_touch : List Part := [.cells]
def State.clearCell_fields : Option (List Field) := some [Reg.CELL_FAULT.SEEN]
theorem State.clearCell_effect (s : State) (p1 : Nat) :
    Effect State.clearCell_touch State.clearCell_fields s (@State.clearCell s p1) := by
  unfold State.clearCell
  refine Effect.after (State.modCell_effect ..) (by decide +kernel) ?_
  refine Effect.after (State.wr_effect ..) (by decide +kernel) ?_
  exact Effect.refl _ _ _

def State.cellFaultClear_touch : List Part := [.cells]
def State.cellFaultClear_fields : Option (List Field) := some [Reg.CELL_FAULT.SEEN]
theorem State.cellFaultClear_effect (s : State) (p1 : Nat) :
    Effect State.cellFaultClear_touch State.cellFaultClear_fields s (@State.cellFaultClear s p1).2 := by
  unfold State.cellFaultClear
  refine Effect.ite2 ?_ ?_
  · refine Effect.snd ?_
    refine Effect.each ?_ ?_
    · exact Effect.refl _ _ _
    · intro u1 a2
      try beta_reduce
      refine Effect.after (State.clearCell_effect ..) (by decide +kernel) ?_
      exact Effect.refl _ _ _
  · refine Effect.ite2 ?_ ?_
    · refine Effect.snd ?_
      exact Effect.refl _ _ _
    · refine Effect.snd ?_
      refine Effect.after (State.clearCell_effect ..) (by decide +kernel) ?_
      exact Effect.refl _ _ _

def State.engNote_touch : List Part := []
def State.engNote_fields : Option (List Field) := some [Reg.ENG_CMD_LAST.RESULT, Reg.ENG_CMD_LAST.OP, Reg.ENG_CMD_LAST.ENTRY, Reg.ENG_CMD_FRAME.FRAME, Reg.ENG_EVENT.CMD_REFUSED]
theorem State.engNote_effect (s : State) (p1 : Nat) (p2 : Nat) (p3 : Nat) (p4 : Nat) :
    Effect State.engNote_touch State.engNote_fields s (@State.engNote s p1 p2 p3 p4) := by
  unfold State.engNote
  refine Effect.each ?_ ?_
  · exact Effect.refl _ _ _
  · intro u1 a2
    try beta_reduce
    extract_lets x3 x4
    have h5 : Effect State.engNote_touch State.engNote_fields u1 x3 := by
      refine Effect.after (State.wr_effect ..) (by decide +kernel) ?_
      refine Effect.after (State.wr_effect ..) (by decide +kernel) ?_
      exact Effect.refl _ _ _
    try clear_value x3
    have h6 : Effect State.engNote_touch State.engNote_fields u1 x4 := by
      refine Effect.after (State.wr_effect ..) (by decide +kernel) ?_
      refine Effect.after (State.wr_effect ..) (by decide +kernel) ?_
      exact h5
    try clear_value x4
    refine Effect.when ?_ ?_
    · exact h6
    · intro u7
      try beta_reduce
      refine Effect.after (State.wr_effect ..) (by decide +kernel) ?_
      exact Effect.refl _ _ _

def State.cmdCoeffWrite_touch : List Part := [.engs]
def State.cmdCoeffWrite_fields : Option (List Field) := some [Reg.ENG_CMD_LAST.RESULT, Reg.ENG_CMD_LAST.OP, Reg.ENG_CMD_LAST.ENTRY, Reg.ENG_CMD_FRAME.FRAME, Reg.ENG_EVENT.CMD_REFUSED]
theorem State.cmdCoeffWrite_effect (s : State) (p1 : List Byte) :
    Effect State.cmdCoeffWrite_touch State.cmdCoeffWrite_fields s (@State.cmdCoeffWrite s p1).2 := by
  unfold State.cmdCoeffWrite
  extract_lets x1 x2 x3 x4 x5 x6
  have h7 : Effect State.cmdCoeffWrite_touch State.cmdCoeffWrite_fields s x6 := by
    refine Effect.each ?_ ?_
    · exact Effect.refl _ _ _
    · intro u8 a9
      try beta_reduce
      refine Effect.after (State.modEng_effect ..) (by decide +kernel) ?_
      exact Effect.refl _ _ _
  try clear_value x6
  try clear_value x1 x2 x3 x4 x5
  refine Effect.ite2 ?_ ?_
  · refine Effect.snd ?_
    exact Effect.refl _ _ _
  · split
    · refine Effect.snd ?_
      refine Effect.after (State.engNote_effect ..) (by decide +kernel) ?_
      exact Effect.refl _ _ _
    · refine Effect.ite2 ?_ ?_
      · refine Effect.snd ?_
        refine Effect.after (State.engNote_effect ..) (by decide +kernel) ?_
        exact Effect.refl _ _ _
      · refine Effect.snd ?_
        refine Effect.after (State.engNote_effect ..) (by decide +kernel) ?_
        exact h7

def State.setBank_touch : List Part := []
def State.setBank_fields : Option (List Field) := some [Reg.ENG_BANK.ACTIVE]
theorem State.setBank_effect (s : State) (p1 : Nat) :
    Effect State.setBank_touch State.setBank_fields s (@State.setBank s p1) := by
  unfold State.setBank
  refine Effect.each ?_ ?_
  · exact Effect.refl _ _ _
  · intro u1 a2
    try beta_reduce
    refine Effect.after (State.wr_effect ..) (by decide +kernel) ?_
    exact Effect.refl _ _ _

def State.cmdBankSwap_touch : List Part := []
def State.cmdBankSwap_fields : Option (List Field) := some [Reg.ENG_BANK.ACTIVE, Reg.ENG_BANK.SWAPS, Reg.ENG_CMD_LAST.RESULT, Reg.ENG_CMD_LAST.OP, Reg.ENG_CMD_LAST.ENTRY, Reg.ENG_CMD_FRAME.FRAME, Reg.ENG_EVENT.SWAP, Reg.ENG_EVENT.CMD_REFUSED]
theorem State.cmdBankSwap_effect (s : State) (p1 : Nat) :
    Effect State.cmdBankSwap_touch State.cmdBankSwap_fields s (@State.cmdBankSwap s p1).2 := by
  unfold State.cmdBankSwap
  extract_lets x1 x2 x3 x4
  have h5 : Effect State.cmdBankSwap_touch State.cmdBankSwap_fields s x3 := by
    refine Effect.after (State.setBank_effect ..) (by decide +kernel) ?_
    exact Effect.refl _ _ _
  try clear_value x3
  have h6 : Effect State.cmdBankSwap_touch State.cmdBankSwap_fields s x4 := by
    refine Effect.each ?_ ?_
    · exact h5
    · intro u7 a8
      try beta_reduce
      refine Effect.after (State.wr_effect ..) (by decide +kernel) ?_
      refine Effect.after (State.bump_effect ..) (by decide +kernel) ?_
      exact Effect.refl _ _ _
  try clear_value x4
  try clear_value x1
  refine Effect.ite2 ?_ ?_
  · refine Effect.snd ?_
    try unfold x2
    try beta_reduce
    refine Effect.each ?_ ?_
    · exact Effect.refl _ _ _
    · intro u9 a10
      try beta_reduce
      refine Effect.after (State.engNote_effect ..) (by decide +kernel) ?_
      exact Effect.refl _ _ _
  · refine Effect.ite2 ?_ ?_
    · refine Effect.snd ?_
      try unfold x2
      try beta_reduce
      refine Effect.each ?_ ?_
      · exact Effect.refl _ _ _
      · intro u11 a12
        try beta_reduce
        refine Effect.after (State.engNote_effect ..) (by decide +kernel) ?_
        exact Effect.refl _ _ _
    · refine Effect.ite2 ?_ ?_
      · refine Effect.snd ?_
        try unfold x2
        try beta_reduce
        refine Effect.each ?_ ?_
        · exact Effect.refl _ _ _
        · intro u13 a14
          try beta_reduce
          refine Effect.after (State.engNote_effect ..) (by decide +kernel) ?_
          exact Effect.refl _ _ _
      · refine Effect.snd ?_
        try unfold x2
        try beta_reduce
        refine Effect.each ?_ ?_
        · exact h6
        · intro u15 a16
          try beta_reduce
          refine Effect.after (State.engNote_effect ..) (by decide +kernel) ?_
          exact Effect.refl _ _ _

def State.setParam_touch : List Part := []
def State.setParam_fields : Option (List Field) := some [Reg.ENG_PARAM.VALUE]
theorem State.setParam_effect (s : State) (p1 : Nat) (p2 : Nat) (p3 : Int) :
    Effect State.setParam_touch State.setParam_fields s (@State.setParam s p1 p2 p3) := by
  unfold State.setParam
  refine Effect.after (State.wrS_effect ..) (by decide +kernel) ?_
  refine Effect.after (State.wrS_effect ..) (by decide +kernel) ?_
  exact Effect.refl _ _ _

def State.cmdParamWrite_touch : List Part := []
def State.cmdParamWrite_fields : Option (List Field) := some [Reg.ENG_CMD_LAST.RESULT, Reg.ENG_CMD_LAST.OP, Reg.ENG_CMD_LAST.ENTRY, Reg.ENG_CMD_FRAME.FRAME, Reg.ENG_EVENT.CMD_REFUSED, Reg.ENG_PARAM.VALUE]
theorem State.cmdParamWrite_effect (s : State) (p1 : List Byte) :
    Effect State.cmdParamWrite_touch State.cmdParamWrite_fields s (@State.cmdParamWrite s p1).2 := by
  unfold State.cmdParamWrite
  extract_lets x1 x2
  try clear_value x1 x2
  refine Effect.ite2 ?_ ?_
  · refine Effect.snd ?_
    exact Effect.refl _ _ _
  · refine Effect.ite2 ?_ ?_
    · refine Effect.snd ?_
      refine Effect.after (State.engNote_effect ..) (by decide +kernel) ?_
      exact Effect.refl _ _ _
    · refine Effect.ite2 ?_ ?_
      · refine Effect.snd ?_
        refine Effect.after (State.engNote_effect ..) (by decide +kernel) ?_
        exact Effect.refl _ _ _
      · refine Effect.snd ?_
        refine Effect.after (State.engNote_effect ..) (by decide +kernel) ?_
        refine Effect.after (State.setParam_effect ..) (by decide +kernel) ?_
        exact Effect.refl _ _ _

def State.convCmdLast_touch : List Part := []
def State.convCmdLast_fields : Option (List Field) := some [Reg.CONV_CMD_LAST.RESULT, Reg.CONV_CMD_LAST.OP]
theorem State.convCmdLast_effect (s : State) (p1 : Nat) (p2 : Nat) (p3 : Nat) :
    Effect State.convCmdLast_touch State.convCmdLast_fields s (@State.convCmdLast s p1 p2 p3) := by
  unfold State.convCmdLast
  refine Effect.after (State.wr_effect ..) (by decide +kernel) ?_
  refine Effect.after (State.wr_effect ..) (by decide +kernel) ?_
  exact Effect.refl _ _ _

def State.cmdConvDeblock_touch : List Part := [.faults, .convs]
def State.cmdConvDeblock_fields : Option (List Field) := some [Reg.CONV_STATE.STATE, Reg.CONV_STATE.CAUSE, Reg.CONV_CMD_LAST.RESULT, Reg.CONV_CMD_LAST.OP, Reg.CONV_STATE_FRAME.FRAME, Reg.CONV_COUNT.BLOCKS, Reg.CONV_EVENT.BLOCK, Reg.CONV_EVENT.DEBLOCK, Reg.CONV_EVENT.RESYNC_FAIL, Reg.CONV_EVENT.COAST_LIMIT, Reg.CONV_EVENT_SRC.CONV, Reg.COLLECT_STATUS_LO.STATUS, Reg.COLLECT_STATUS_HI.STATUS, Reg.FAULT_COUNT_CORR.COUNT, Reg.FAULT_COUNT_CONT.COUNT, Reg.FAULT_COUNT_FATAL.COUNT, Reg.FAULT_EVENT.CORRECTED, Reg.FAULT_EVENT.CONTAINED, Reg.FAULT_EVENT.FATAL, Reg.FAULT_EVENT.HIST_LOST, Reg.FAULT_HIST_STATUS.LOST]
theorem State.cmdConvDeblock_effect (s : State) (p1 : Nat) :
    Effect State.cmdConvDeblock_touch State.cmdConvDeblock_fields s (@State.cmdConvDeblock s p1).2 := by
  unfold State.cmdConvDeblock
  extract_lets x1 x2
  have h3 : Effect State.cmdConvDeblock_touch State.cmdConvDeblock_fields s x2 := by
    refine Effect.after (State.convCmdLast_effect ..) (by decide +kernel) ?_
    exact Effect.refl _ _ _
  try clear_value x2
  try clear_value x1
  refine Effect.ite2 ?_ ?_
  · refine Effect.snd ?_
    exact Effect.refl _ _ _
  · refine Effect.ite2 ?_ ?_
    · refine Effect.snd ?_
      exact h3
    · split
      · refine Effect.snd ?_
        refine Effect.ite ?_ ?_
        · exact h3
        · refine Effect.after (State.modConv_effect ..) (by decide +kernel) ?_
          refine Effect.after (State.countBlock_effect ..) (by decide +kernel) ?_
          exact h3
      · refine Effect.snd ?_
        refine Effect.after (State.modConv_effect ..) (by decide +kernel) ?_
        refine Effect.after (State.convEvent_effect ..) (by decide +kernel) ?_
        refine Effect.after (State.setConv_effect ..) (by decide +kernel) ?_
        exact h3

def State.cmdConvBlock_touch : List Part := [.faults, .arms, .convs]
def State.cmdConvBlock_fields : Option (List Field) := some [Reg.CONV_STATE.STATE, Reg.CONV_STATE.CAUSE, Reg.CONV_STATE.SLEWING, Reg.CONV_CMD_LAST.RESULT, Reg.CONV_CMD_LAST.OP, Reg.CONV_STATE_FRAME.FRAME, Reg.CONV_RESIDUAL.E, Reg.CONV_COUNT.BLOCKS, Reg.CONV_EVENT.BLOCK, Reg.CONV_EVENT.RESYNC_FAIL, Reg.CONV_EVENT.COAST_LIMIT, Reg.CONV_EVENT_SRC.CONV, Reg.COLLECT_STATUS_LO.STATUS, Reg.COLLECT_STATUS_HI.STATUS, Reg.FAULT_COUNT_CORR.COUNT, Reg.FAULT_COUNT_CONT.COUNT, Reg.FAULT_COUNT_FATAL.COUNT, Reg.FAULT_EVENT.CORRECTED, Reg.FAULT_EVENT.CONTAINED, Reg.FAULT_EVENT.FATAL, Reg.FAULT_EVENT.HIST_LOST, Reg.FAULT_HIST_STATUS.LOST]
theorem State.cmdConvBlock_effect (s : State) (p1 : Nat) :
    Effect State.cmdConvBlock_touch State.cmdConvBlock_fields s (@State.cmdConvBlock s p1).2 := by
  unfold State.cmdConvBlock
  refine Effect.ite2 ?_ ?_
  · refine Effect.snd ?_
    exact Effect.refl _ _ _
  · refine Effect.ite2 ?_ ?_
    · refine Effect.snd ?_
      refine Effect.after (State.convCmdLast_effect ..) (by decide +kernel) ?_
      exact Effect.refl _ _ _
    · refine Effect.snd ?_
      refine Effect.after (State.blockConv_effect ..) (by decide +kernel) ?_
      refine Effect.after (State.convCmdLast_effect ..) (by decide +kernel) ?_
      exact Effect.refl _ _ _

def State.cmdCanQueue_touch : List Part := [.canQueues]
def State.cmdCanQueue_fields : Option (List Field) := some [Reg.CAN_TXQ.FILL]
theorem State.cmdCanQueue_effect (s : State) (p1 : List Byte) (p2 : Nat) (p3 : Nat) :
    Effect State.cmdCanQueue_touch State.cmdCanQueue_fields s (@State.cmdCanQueue s p1 p2 p3).2 := by
  unfold State.cmdCanQueue
  extract_lets x1 x2 x3 x4 x5 x6 x7 x8 x9
  try clear_value x1 x2 x3 x4 x5 x6 x7 x8 x9
  split
  · refine Effect.snd ?_
    exact Effect.refl _ _ _
  · refine Effect.ite2 ?_ ?_
    · refine Effect.snd ?_
      exact Effect.refl _ _ _
    · refine Effect.ite2 ?_ ?_
      · refine Effect.snd ?_
        exact Effect.refl _ _ _
      · refine Effect.ite2 ?_ ?_
        · refine Effect.snd ?_
          exact Effect.refl _ _ _
        · refine Effect.ite2 ?_ ?_
          · refine Effect.snd ?_
            exact Effect.refl _ _ _
          · refine Effect.snd ?_
            refine Effect.after (State.setCanMsgs_effect ..) (by decide +kernel) ?_
            exact Effect.refl _ _ _

def State.modCan_touch : List Part := [.cans]
def State.modCan_fields : Option (List Field) := some []
theorem State.modCan_effect (s : State) (p1 : Nat) (p2 : CanSt → CanSt) :
    Effect State.modCan_touch State.modCan_fields s (@State.modCan s p1 p2) := by
  unfold State.modCan
  refine Effect.after (Effect.cans _ _ _) (by decide +kernel) ?_
  exact Effect.refl _ _ _

def State.cmdCanFlush_touch : List Part := [.canQueues, .cans]
def State.cmdCanFlush_fields : Option (List Field) := some [Reg.CAN_TXQ.FILL]
theorem State.cmdCanFlush_effect (s : State) (p1 : Nat) (p2 : Nat) :
    Effect State.cmdCanFlush_touch State.cmdCanFlush_fields s (@State.cmdCanFlush s p1 p2).2 := by
  unfold State.cmdCanFlush
  extract_lets x1 x2 x3 x4
  have h5 : Effect State.cmdCanFlush_touch State.cmdCanFlush_fields s x4 := by
    refine Effect.after (State.setCanMsgs_effect ..) (by decide +kernel) ?_
    exact Effect.refl _ _ _
  try clear_value x4
  try clear_value x2 x3
  split
  · refine Effect.snd ?_
    exact Effect.refl _ _ _
  · refine Effect.ite2 ?_ ?_
    · refine Effect.snd ?_
      exact Effect.refl _ _ _
    · refine Effect.snd ?_
      refine Effect.after (State.modCan_effect ..) (by decide +kernel) ?_
      exact h5

def State.runCommand_touch : List Part := [.power, .faults, .fr, .cells, .arms, .engs, .convs, .referee, .canQueues, .cans]
def State.runCommand_fields : Option (List Field) := some [Reg.DOMAIN_STATE.PLANE_A, Reg.DOMAIN_STATE.PLANE_B, Reg.CONV_STATE.STATE, Reg.CONV_STATE.CAUSE, Reg.CONV_STATE.SLEWING, Reg.CONV_CMD_LAST.RESULT, Reg.CONV_CMD_LAST.OP, Reg.CONV_STATE_FRAME.FRAME, Reg.CONV_RESIDUAL.E, Reg.CONV_COUNT.BLOCKS, Reg.CONV_EVENT.BLOCK, Reg.CONV_EVENT.DEBLOCK, Reg.CONV_EVENT.RESYNC_FAIL, Reg.CONV_EVENT.COAST_LIMIT, Reg.CONV_EVENT_SRC.CONV, Reg.POWER_PGOOD.PGOOD, Reg.COLLECT_STATUS_LO.STATUS, Reg.COLLECT_STATUS_HI.STATUS, Reg.FAULT_COUNT_CORR.COUNT, Reg.FAULT_COUNT_CONT.COUNT, Reg.FAULT_COUNT_FATAL.COUNT, Reg.FAULT_EVENT.CORRECTED, Reg.FAULT_EVENT.CONTAINED, Reg.FAULT_EVENT.FATAL, Reg.FAULT_EVENT.HIST_LOST, Reg.FAULT_HIST_STATUS.LOST, Reg.REF_STATUS.STATE, Reg.REF_STATUS.ROLE_A, Reg.REF_STATUS.ROLE_B, Reg.REF_HT_STATUS.OUTCOME, Reg.REF_EVENT.CANCEL, Reg.REF_EVENT.UNFIT, Reg.PLAN_LEVEL.STATIC, Reg.PLAN_FORECAST.ENG_NEED, Reg.PLAN_FORECAST.FAB_NEED, Reg.ENG_STATUS.BALL, Reg.ENG_STATUS.SHADOW, Reg.ENG_STATUS.COLD, Reg.ENG_BANK.ACTIVE, Reg.ENG_BANK.SWAPS, Reg.ENG_CMD_LAST.RESULT, Reg.ENG_CMD_LAST.OP, Reg.ENG_CMD_LAST.ENTRY, Reg.ENG_CMD_FRAME.FRAME, Reg.ENG_EVENT.SWAP, Reg.ENG_EVENT.CMD_REFUSED, Reg.ENG_PARAM.VALUE, Reg.ENG_EXPORT.VALUE, Reg.CAN_TXQ.FILL, Reg.CELL_FAULT.SEEN]
theorem State.runCommand_effect (s : State) (p1 : JrnRec) :
    Effect State.runCommand_touch State.runCommand_fields s (@State.runCommand s p1).2 := by
  unfold State.runCommand
  extract_lets x1
  try clear_value x1
  split
  · refine Effect.after (State.cmdSetFramePeriod_effect ..) (by decide +kernel) ?_
    exact Effect.refl _ _ _
  · refine Effect.after (State.cellAdmit_effect ..) (by decide +kernel) ?_
    exact Effect.refl _ _ _
  · refine Effect.after (State.cellBypass_effect ..) (by decide +kernel) ?_
    exact Effect.refl _ _ _
  · refine Effect.after (State.cellFaultClear_effect ..) (by decide +kernel) ?_
    exact Effect.refl _ _ _
  · refine Effect.after (State.cmdCoeffWrite_effect ..) (by decide +kernel) ?_
    exact Effect.refl _ _ _
  · refine Effect.after (State.cmdBankSwap_effect ..) (by decide +kernel) ?_
    exact Effect.refl _ _ _
  · refine Effect.after (State.cmdParamWrite_effect ..) (by decide +kernel) ?_
    exact Effect.refl _ _ _
  · refine Effect.after (State.cmdConvDeblock_effect ..) (by decide +kernel) ?_
    exact Effect.refl _ _ _
  · refine Effect.after (State.cmdConvBlock_effect ..) (by decide +kernel) ?_
    exact Effect.refl _ _ _
  · refine Effect.after (State.cmdCanQueue_effect ..) (by decide +kernel) ?_
    exact Effect.refl _ _ _
  · refine Effect.after (State.cmdCanFlush_effect ..) (by decide +kernel) ?_
    exact Effect.refl _ _ _
  · refine Effect.snd ?_
    exact Effect.refl _ _ _

def State.modJrn_touch : List Part := [.journal]
def State.modJrn_fields : Option (List Field) := some []
theorem State.modJrn_effect (s : State) (p1 : JrnSt → JrnSt) :
    Effect State.modJrn_touch State.modJrn_fields s (@State.modJrn s p1) := by
  unfold State.modJrn
  refine Effect.after (Effect.journal _ _) (by decide +kernel) ?_
  exact Effect.refl _ _ _

def State.mramWrite_touch : List Part := [.out]
def State.mramWrite_fields : Option (List Field) := some []
theorem State.mramWrite_effect (s : State) (p1 : Nat) (p2 : List Byte) :
    Effect State.mramWrite_touch State.mramWrite_fields s (@State.mramWrite s p1 p2) := by
  unfold State.mramWrite
  refine Effect.after (State.emit_effect ..) (by decide +kernel) ?_
  exact Effect.refl _ _ _

def State.mirrorRec_touch : List Part := [.out]
def State.mirrorRec_fields : Option (List Field) := some []
theorem State.mirrorRec_effect (s : State) (p1 : JrnRec) :
    Effect State.mirrorRec_touch State.mirrorRec_fields s (@State.mirrorRec s p1) := by
  unfold State.mirrorRec
  refine Effect.ite ?_ ?_
  · refine Effect.after (State.mramWrite_effect ..) (by decide +kernel) ?_
    refine Effect.after (State.mramWrite_effect ..) (by decide +kernel) ?_
    exact Effect.refl _ _ _
  · exact Effect.refl _ _ _

def State.send_touch : List Part := [.host, .out]
def State.send_fields : Option (List Field) := some [Reg.BB_STATUS.TX_IDLE]
theorem State.send_effect (s : State) (p1 : Nat) (p2 : Nat) (p3 : Nat) (p4 : List Byte) :
    Effect State.send_touch State.send_fields s (@State.send s p1 p2 p3 p4) := by
  unfold State.send
  extract_lets x1 x2
  have h3 : Effect State.send_touch State.send_fields s x1 := by
    refine Effect.after (State.wr_effect ..) (by decide +kernel) ?_
    refine Effect.after (State.emit_effect ..) (by decide +kernel) ?_
    exact Effect.refl _ _ _
  try clear_value x1
  try clear_value x2
  refine Effect.ite ?_ ?_
  · refine Effect.after (Effect.host _ _) (by decide +kernel) ?_
    exact h3
  · exact Effect.refl _ _ _

def State.reply_touch : List Part := [.host, .out]
def State.reply_fields : Option (List Field) := some [Reg.JRN_CPL_TAIL.INDEX, Reg.JRN_RING_STATUS.PHASE, Reg.BB_STATUS.TX_IDLE]
theorem State.reply_effect (s : State) (p1 : Nat) (p2 : Option Nat) (p3 : List Byte) :
    Effect State.reply_touch State.reply_fields s (@State.reply s p1 p2 p3) := by
  unfold State.reply
  extract_lets x1 x2 x3 x4 x5 x6 x7
  have h8 : Effect State.reply_touch State.reply_fields s x4 := by
    refine Effect.after (State.emit_effect ..) (by decide +kernel) ?_
    exact Effect.refl _ _ _
  try clear_value x4
  have h9 : Effect State.reply_touch State.reply_fields s x5 := by
    refine Effect.after (State.wr_effect ..) (by decide +kernel) ?_
    exact h8
  try clear_value x5
  have h10 : Effect State.reply_touch State.reply_fields s x6 := by
    refine Effect.when ?_ ?_
    · exact h9
    · intro u11
      try beta_reduce
      refine Effect.after (State.wr_effect ..) (by decide +kernel) ?_
      exact Effect.refl _ _ _
  try clear_value x6
  try clear_value x1 x2 x3 x7
  refine Effect.ite ?_ ?_
  · refine Effect.ite ?_ ?_
    · refine Effect.after (Effect.host _ _) (by decide +kernel) ?_
      exact h10
    · exact Effect.refl _ _ _
  · split
    · refine Effect.after (State.send_effect ..) (by decide +kernel) ?_
      exact Effect.refl _ _ _
    · exact Effect.refl _ _ _

def State.executeRec_touch : List Part := [.power, .faults, .host, .fr, .cells, .arms, .engs, .convs, .referee, .journal, .canQueues, .cans, .out]
def State.executeRec_fields : Option (List Field) := some [Reg.DOMAIN_STATE.PLANE_A, Reg.DOMAIN_STATE.PLANE_B, Reg.CONV_STATE.STATE, Reg.CONV_STATE.CAUSE, Reg.CONV_STATE.SLEWING, Reg.CONV_CMD_LAST.RESULT, Reg.CONV_CMD_LAST.OP, Reg.CONV_STATE_FRAME.FRAME, Reg.CONV_RESIDUAL.E, Reg.CONV_COUNT.BLOCKS, Reg.CONV_EVENT.BLOCK, Reg.CONV_EVENT.DEBLOCK, Reg.CONV_EVENT.RESYNC_FAIL, Reg.CONV_EVENT.COAST_LIMIT, Reg.CONV_EVENT_SRC.CONV, Reg.POWER_PGOOD.PGOOD, Reg.COLLECT_STATUS_LO.STATUS, Reg.COLLECT_STATUS_HI.STATUS, Reg.FAULT_COUNT_CORR.COUNT, Reg.FAULT_COUNT_CONT.COUNT, Reg.FAULT_COUNT_FATAL.COUNT, Reg.FAULT_EVENT.CORRECTED, Reg.FAULT_EVENT.CONTAINED, Reg.FAULT_EVENT.FATAL, Reg.FAULT_EVENT.HIST_LOST, Reg.FAULT_HIST_STATUS.LOST, Reg.REF_STATUS.STATE, Reg.REF_STATUS.ROLE_A, Reg.REF_STATUS.ROLE_B, Reg.REF_HT_STATUS.OUTCOME, Reg.REF_EVENT.CANCEL, Reg.REF_EVENT.UNFIT, Reg.JRN_EXEC.COUNT, Reg.JRN_CPL_TAIL.INDEX, Reg.JRN_RING_STATUS.PHASE, Reg.PLAN_LEVEL.STATIC, Reg.PLAN_FORECAST.ENG_NEED, Reg.PLAN_FORECAST.FAB_NEED, Reg.ENG_STATUS.BALL, Reg.ENG_STATUS.SHADOW, Reg.ENG_STATUS.COLD, Reg.ENG_BANK.ACTIVE, Reg.ENG_BANK.SWAPS, Reg.ENG_CMD_LAST.RESULT, Reg.ENG_CMD_LAST.OP, Reg.ENG_CMD_LAST.ENTRY, Reg.ENG_CMD_FRAME.FRAME, Reg.ENG_EVENT.SWAP, Reg.ENG_EVENT.CMD_REFUSED, Reg.ENG_PARAM.VALUE, Reg.ENG_EXPORT.VALUE, Reg.CAN_TXQ.FILL, Reg.CELL_FAULT.SEEN, Reg.BB_STATUS.TX_IDLE]
theorem State.executeRec_effect (s : State) (p1 : JrnRec) :
    Effect State.executeRec_touch State.executeRec_fields s (@State.executeRec s p1) := by
  unfold State.executeRec
  split
  rename_i a2 u3 q4
  have h1 : Effect State.executeRec_touch State.executeRec_fields s u3 := by
    refine Effect.of_pair q4 ?_
    refine Effect.after (State.runCommand_effect ..) (by decide +kernel) ?_
    exact Effect.refl _ _ _
  extract_lets x5 x6 x7 x8 x9
  have h10 : Effect State.executeRec_touch State.executeRec_fields s x6 := by
    refine Effect.after (State.wr_effect ..) (by decide +kernel) ?_
    exact h1
  try clear_value x6
  have h11 : Effect State.executeRec_touch State.executeRec_fields s x8 := by
    refine Effect.after (State.modJrn_effect ..) (by decide +kernel) ?_
    exact h10
  try clear_value x8
  have h12 : Effect State.executeRec_touch State.executeRec_fields s x9 := by
    refine Effect.after (State.mirrorRec_effect ..) (by decide +kernel) ?_
    exact h11
  try clear_value x9
  try clear_value x5 x7
  refine Effect.after (State.reply_effect ..) (by decide +kernel) ?_
  exact h12

def State.executeDue_touch : List Part := [.power, .faults, .host, .fr, .cells, .arms, .engs, .convs, .referee, .journal, .canQueues, .cans, .out]
def State.executeDue_fields : Option (List Field) := (some [Reg.DOMAIN_STATE.PLANE_A, Reg.DOMAIN_STATE.PLANE_B, Reg.CONV_STATE.STATE, Reg.CONV_STATE.CAUSE, Reg.CONV_STATE.SLEWING, Reg.CONV_CMD_LAST.RESULT, Reg.CONV_CMD_LAST.OP, Reg.CONV_STATE_FRAME.FRAME, Reg.CONV_RESIDUAL.E, Reg.CONV_COUNT.BLOCKS, Reg.CONV_EVENT.BLOCK, Reg.CONV_EVENT.DEBLOCK, Reg.CONV_EVENT.RESYNC_FAIL, Reg.CONV_EVENT.COAST_LIMIT, Reg.CONV_EVENT_SRC.CONV, Reg.POWER_PGOOD.PGOOD, Reg.COLLECT_STATUS_LO.STATUS, Reg.COLLECT_STATUS_HI.STATUS, Reg.FAULT_COUNT_CORR.COUNT, Reg.FAULT_COUNT_CONT.COUNT, Reg.FAULT_COUNT_FATAL.COUNT, Reg.FAULT_EVENT.CORRECTED, Reg.FAULT_EVENT.CONTAINED, Reg.FAULT_EVENT.FATAL, Reg.FAULT_EVENT.HIST_LOST, Reg.FAULT_HIST_STATUS.LOST, Reg.REF_STATUS.STATE, Reg.REF_STATUS.ROLE_A, Reg.REF_STATUS.ROLE_B, Reg.REF_HT_STATUS.OUTCOME, Reg.REF_EVENT.CANCEL, Reg.REF_EVENT.UNFIT, Reg.JRN_EXEC.COUNT, Reg.JRN_CPL_TAIL.INDEX, Reg.JRN_RING_STATUS.PHASE, Reg.PLAN_LEVEL.STATIC, Reg.PLAN_FORECAST.ENG_NEED, Reg.PLAN_FORECAST.FAB_NEED, Reg.ENG_STATUS.BALL, Reg.ENG_STATUS.SHADOW, Reg.ENG_STATUS.COLD, Reg.ENG_BANK.ACTIVE, Reg.ENG_BANK.SWAPS, Reg.ENG_CMD_LAST.RESULT, Reg.ENG_CMD_LAST.OP, Reg.ENG_CMD_LAST.ENTRY, Reg.ENG_CMD_FRAME.FRAME, Reg.ENG_EVENT.SWAP, Reg.ENG_EVENT.CMD_REFUSED, Reg.ENG_PARAM.VALUE, Reg.ENG_EXPORT.VALUE, Reg.CAN_TXQ.FILL, Reg.CELL_FAULT.SEEN, Reg.BB_STATUS.TX_IDLE])
theorem State.executeDue_effect (s : State) (n : Nat) :
    Effect State.executeDue_touch State.executeDue_fields s (s.executeDue n) := by
  induction n generalizing s with
  | zero => exact Effect.refl _ _ _
  | succ n ih =>
    unfold State.executeDue
    split
    · exact Effect.refl _ _ _
    · exact Effect.ite (((State.executeRec_effect s _).widen (by decide +kernel)).step (ih _) (Effect.fits_refl _ _)) (Effect.refl _ _ _)

def State.showMram_touch : List Part := []
def State.showMram_fields : Option (List Field) := some [Reg.JRN_STATUS.MRAM_OK]
theorem State.showMram_effect (s : State) :
    Effect State.showMram_touch State.showMram_fields s (@State.showMram s) := by
  unfold State.showMram
  refine Effect.after (State.wr_effect ..) (by decide +kernel) ?_
  exact Effect.refl _ _ _

def State.mramFail_touch : List Part := [.faults, .journal]
def State.mramFail_fields : Option (List Field) := some [Reg.COLLECT_STATUS_LO.STATUS, Reg.COLLECT_STATUS_HI.STATUS, Reg.FAULT_COUNT_CORR.COUNT, Reg.FAULT_COUNT_CONT.COUNT, Reg.FAULT_COUNT_FATAL.COUNT, Reg.FAULT_EVENT.CORRECTED, Reg.FAULT_EVENT.CONTAINED, Reg.FAULT_EVENT.FATAL, Reg.FAULT_EVENT.HIST_LOST, Reg.FAULT_HIST_STATUS.LOST, Reg.JRN_STATUS.MRAM_OK, Reg.JRN_EVENT.MRAM_FAIL]
theorem State.mramFail_effect (s : State) :
    Effect State.mramFail_touch State.mramFail_fields s (@State.mramFail s) := by
  unfold State.mramFail
  refine Effect.ite ?_ ?_
  · exact Effect.refl _ _ _
  · refine Effect.after (State.showMram_effect ..) (by decide +kernel) ?_
    refine Effect.after (State.raise_effect ..) (by decide +kernel) ?_
    refine Effect.after (State.wr_effect ..) (by decide +kernel) ?_
    refine Effect.after (State.modJrn_effect ..) (by decide +kernel) ?_
    exact Effect.refl _ _ _

def State.mramResult_touch : List Part := [.faults, .journal]
def State.mramResult_fields : Option (List Field) := some [Reg.COLLECT_STATUS_LO.STATUS, Reg.COLLECT_STATUS_HI.STATUS, Reg.FAULT_COUNT_CORR.COUNT, Reg.FAULT_COUNT_CONT.COUNT, Reg.FAULT_COUNT_FATAL.COUNT, Reg.FAULT_EVENT.CORRECTED, Reg.FAULT_EVENT.CONTAINED, Reg.FAULT_EVENT.FATAL, Reg.FAULT_EVENT.HIST_LOST, Reg.FAULT_HIST_STATUS.LOST, Reg.JRN_STATUS.MRAM_OK, Reg.JRN_EVENT.MRAM_FAIL]
theorem State.mramResult_effect (s : State) (p1 : Bool) :
    Effect State.mramResult_touch State.mramResult_fields s (@State.mramResult s p1) := by
  unfold State.mramResult
  refine Effect.ite ?_ ?_
  · refine Effect.after (State.mramFail_effect ..) (by decide +kernel) ?_
    exact Effect.refl _ _ _
  · exact Effect.refl _ _ _

def State.journalTick_touch : List Part := [.power, .faults, .host, .fr, .cells, .arms, .engs, .convs, .referee, .journal, .canQueues, .cans, .out]
def State.journalTick_fields : Option (List Field) := some [Reg.DOMAIN_STATE.PLANE_A, Reg.DOMAIN_STATE.PLANE_B, Reg.CONV_STATE.STATE, Reg.CONV_STATE.CAUSE, Reg.CONV_STATE.SLEWING, Reg.CONV_CMD_LAST.RESULT, Reg.CONV_CMD_LAST.OP, Reg.CONV_STATE_FRAME.FRAME, Reg.CONV_RESIDUAL.E, Reg.CONV_COUNT.BLOCKS, Reg.CONV_EVENT.BLOCK, Reg.CONV_EVENT.DEBLOCK, Reg.CONV_EVENT.RESYNC_FAIL, Reg.CONV_EVENT.COAST_LIMIT, Reg.CONV_EVENT_SRC.CONV, Reg.POWER_PGOOD.PGOOD, Reg.COLLECT_STATUS_LO.STATUS, Reg.COLLECT_STATUS_HI.STATUS, Reg.FAULT_COUNT_CORR.COUNT, Reg.FAULT_COUNT_CONT.COUNT, Reg.FAULT_COUNT_FATAL.COUNT, Reg.FAULT_EVENT.CORRECTED, Reg.FAULT_EVENT.CONTAINED, Reg.FAULT_EVENT.FATAL, Reg.FAULT_EVENT.HIST_LOST, Reg.FAULT_HIST_STATUS.LOST, Reg.REF_STATUS.STATE, Reg.REF_STATUS.ROLE_A, Reg.REF_STATUS.ROLE_B, Reg.REF_HT_STATUS.OUTCOME, Reg.REF_EVENT.CANCEL, Reg.REF_EVENT.UNFIT, Reg.JRN_STATUS.MRAM_OK, Reg.JRN_EXEC.COUNT, Reg.JRN_EVENT.MRAM_FAIL, Reg.JRN_CPL_TAIL.INDEX, Reg.JRN_RING_STATUS.PHASE, Reg.JRN_RING_STATUS.WAIT_CPL, Reg.PLAN_LEVEL.STATIC, Reg.PLAN_FORECAST.ENG_NEED, Reg.PLAN_FORECAST.FAB_NEED, Reg.ENG_STATUS.BALL, Reg.ENG_STATUS.SHADOW, Reg.ENG_STATUS.COLD, Reg.ENG_BANK.ACTIVE, Reg.ENG_BANK.SWAPS, Reg.ENG_CMD_LAST.RESULT, Reg.ENG_CMD_LAST.OP, Reg.ENG_CMD_LAST.ENTRY, Reg.ENG_CMD_FRAME.FRAME, Reg.ENG_EVENT.SWAP, Reg.ENG_EVENT.CMD_REFUSED, Reg.ENG_PARAM.VALUE, Reg.ENG_EXPORT.VALUE, Reg.CAN_TXQ.FILL, Reg.CELL_FAULT.SEEN, Reg.BB_STATUS.TX_IDLE]
theorem State.journalTick_effect (s : State) (p1 : Bool) :
    Effect State.journalTick_touch State.journalTick_fields s (@State.journalTick s p1) := by
  unfold State.journalTick
  extract_lets x1 x2
  have h3 : Effect State.journalTick_touch State.journalTick_fields s x2 := by
    refine Effect.after (State.showWait_effect ..) (by decide +kernel) ?_
    refine Effect.after (State.executeDue_effect ..) (by decide +kernel) ?_
    exact Effect.refl _ _ _
  try clear_value x2
  try clear_value x1
  refine Effect.ite ?_ ?_
  · refine Effect.ite ?_ ?_
    · exact h3
    · refine Effect.after (State.mramResult_effect ..) (by decide +kernel) ?_
      exact h3
  · exact Effect.refl _ _ _

def State.lastExecutions_touch : List Part := [.power, .faults, .host, .fr, .cells, .arms, .engs, .convs, .referee, .journal, .canQueues, .cans, .out]
def State.lastExecutions_fields : Option (List Field) := some [Reg.DOMAIN_STATE.PLANE_A, Reg.DOMAIN_STATE.PLANE_B, Reg.CONV_STATE.STATE, Reg.CONV_STATE.CAUSE, Reg.CONV_STATE.SLEWING, Reg.CONV_CMD_LAST.RESULT, Reg.CONV_CMD_LAST.OP, Reg.CONV_STATE_FRAME.FRAME, Reg.CONV_RESIDUAL.E, Reg.CONV_COUNT.BLOCKS, Reg.CONV_EVENT.BLOCK, Reg.CONV_EVENT.DEBLOCK, Reg.CONV_EVENT.RESYNC_FAIL, Reg.CONV_EVENT.COAST_LIMIT, Reg.CONV_EVENT_SRC.CONV, Reg.POWER_PGOOD.PGOOD, Reg.COLLECT_STATUS_LO.STATUS, Reg.COLLECT_STATUS_HI.STATUS, Reg.FAULT_COUNT_CORR.COUNT, Reg.FAULT_COUNT_CONT.COUNT, Reg.FAULT_COUNT_FATAL.COUNT, Reg.FAULT_EVENT.CORRECTED, Reg.FAULT_EVENT.CONTAINED, Reg.FAULT_EVENT.FATAL, Reg.FAULT_EVENT.HIST_LOST, Reg.FAULT_HIST_STATUS.LOST, Reg.REF_STATUS.STATE, Reg.REF_STATUS.ROLE_A, Reg.REF_STATUS.ROLE_B, Reg.REF_HT_STATUS.OUTCOME, Reg.REF_EVENT.CANCEL, Reg.REF_EVENT.UNFIT, Reg.JRN_STATUS.MRAM_OK, Reg.JRN_EXEC.COUNT, Reg.JRN_EVENT.MRAM_FAIL, Reg.JRN_CPL_TAIL.INDEX, Reg.JRN_RING_STATUS.PHASE, Reg.JRN_RING_STATUS.WAIT_CPL, Reg.FRAME_NO.FRAME_NO, Reg.FRAME_TICK_NS_LO.TICK_NS, Reg.FRAME_TICK_NS_HI.TICK_NS, Reg.PLAN_LEVEL.STATIC, Reg.PLAN_FORECAST.ENG_NEED, Reg.PLAN_FORECAST.FAB_NEED, Reg.ENG_STATUS.BALL, Reg.ENG_STATUS.SHADOW, Reg.ENG_STATUS.COLD, Reg.ENG_BANK.ACTIVE, Reg.ENG_BANK.SWAPS, Reg.ENG_CMD_LAST.RESULT, Reg.ENG_CMD_LAST.OP, Reg.ENG_CMD_LAST.ENTRY, Reg.ENG_CMD_FRAME.FRAME, Reg.ENG_EVENT.SWAP, Reg.ENG_EVENT.CMD_REFUSED, Reg.ENG_PARAM.VALUE, Reg.ENG_EXPORT.VALUE, Reg.CAN_TXQ.FILL, Reg.CELL_FAULT.SEEN, Reg.BB_STATUS.TX_IDLE]
theorem State.lastExecutions_effect (s : State) :
    Effect State.lastExecutions_touch State.lastExecutions_fields s (@State.lastExecutions s) := by
  unfold State.lastExecutions
  extract_lets x1
  have h2 : Effect State.lastExecutions_touch State.lastExecutions_fields s x1 := by
    refine Effect.after (State.wr_effect ..) (by decide +kernel) ?_
    exact Effect.refl _ _ _
  try clear_value x1
  refine Effect.ite ?_ ?_
  · refine Effect.after (State.journalTick_effect ..) (by decide +kernel) ?_
    refine Effect.after (State.wr64_effect ..) (by decide +kernel) ?_
    exact h2
  · exact Effect.refl _ _ _

def State.resetBegins_touch : List Part := [.power, .faults, .host, .fr, .cells, .arms, .engs, .convs, .referee, .journal, .canQueues, .cans, .out]
def State.resetBegins_fields : Option (List Field) := some [Reg.DOMAIN_STATE.PLANE_A, Reg.DOMAIN_STATE.PLANE_B, Reg.CONV_STATE.STATE, Reg.CONV_STATE.CAUSE, Reg.CONV_STATE.SLEWING, Reg.CONV_CMD_LAST.RESULT, Reg.CONV_CMD_LAST.OP, Reg.CONV_STATE_FRAME.FRAME, Reg.CONV_RESIDUAL.E, Reg.CONV_COUNT.BLOCKS, Reg.CONV_EVENT.BLOCK, Reg.CONV_EVENT.DEBLOCK, Reg.CONV_EVENT.RESYNC_FAIL, Reg.CONV_EVENT.COAST_LIMIT, Reg.CONV_EVENT_SRC.CONV, Reg.POWER_PGOOD.PGOOD, Reg.COLLECT_STATUS_LO.STATUS, Reg.COLLECT_STATUS_HI.STATUS, Reg.FAULT_STATE.CONTAINED, Reg.FAULT_STATE.FATAL, Reg.FAULT_STATE.FAULT_N, Reg.FAULT_STATE.ALIVE_RUN, Reg.FAULT_COUNT_CORR.COUNT, Reg.FAULT_COUNT_CONT.COUNT, Reg.FAULT_COUNT_FATAL.COUNT, Reg.FAULT_EVENT.CORRECTED, Reg.FAULT_EVENT.CONTAINED, Reg.FAULT_EVENT.FATAL, Reg.FAULT_EVENT.HIST_LOST, Reg.FAULT_FIRST_FATAL.BIT, Reg.FAULT_FIRST_FATAL.VALID, Reg.FAULT_FIRST_FATAL.FRAME_VALID, Reg.FAULT_FIRST_FATAL.DETAIL, Reg.FAULT_FIRST_FRAME.VALUE, Reg.FAULT_FIRST_NS_LO.VALUE, Reg.FAULT_FIRST_NS_HI.VALUE, Reg.FAULT_HIST_STATUS.NEWEST, Reg.FAULT_HIST_STATUS.FILLED, Reg.FAULT_HIST_STATUS.LOST, Reg.FAULT_HIST_FRAME.VALUE, Reg.FAULT_HIST_NS_LO.VALUE, Reg.FAULT_HIST_NS_HI.VALUE, Reg.FAULT_HIST_INFO.VALUE, Reg.RESET_CAUSE.FATAL_BEFORE, Reg.REF_STATUS.STATE, Reg.REF_STATUS.ROLE_A, Reg.REF_STATUS.ROLE_B, Reg.REF_STATUS.LEASE, Reg.REF_HT_STATUS.OUTCOME, Reg.REF_EVENT.CANCEL, Reg.REF_EVENT.UNFIT, Reg.JRN_STATUS.MRAM_OK, Reg.JRN_EXEC.COUNT, Reg.JRN_EVENT.MRAM_FAIL, Reg.JRN_CPL_TAIL.INDEX, Reg.JRN_RING_STATUS.PHASE, Reg.JRN_RING_STATUS.WAIT_CPL, Reg.FRAME_NO.FRAME_NO, Reg.FRAME_TICK_NS_LO.TICK_NS, Reg.FRAME_TICK_NS_HI.TICK_NS, Reg.PLAN_LEVEL.STATIC, Reg.PLAN_FORECAST.ENG_NEED, Reg.PLAN_FORECAST.FAB_NEED, Reg.ENG_STATUS.BALL, Reg.ENG_STATUS.SHADOW, Reg.ENG_STATUS.COLD, Reg.ENG_BANK.ACTIVE, Reg.ENG_BANK.SWAPS, Reg.ENG_CMD_LAST.RESULT, Reg.ENG_CMD_LAST.OP, Reg.ENG_CMD_LAST.ENTRY, Reg.ENG_CMD_FRAME.FRAME, Reg.ENG_EVENT.SWAP, Reg.ENG_EVENT.CMD_REFUSED, Reg.ENG_PARAM.VALUE, Reg.ENG_EXPORT.VALUE, Reg.CAN_TXQ.FILL, Reg.ARM_PTR.PTR, Reg.CELL_FAULT.SEEN, Reg.BB_STATUS.TX_IDLE]
theorem State.resetBegins_effect (s : State) :
    Effect State.resetBegins_touch State.resetBegins_fields s (@State.resetBegins s) := by
  unfold State.resetBegins
  extract_lets x1 x2
  have h3 : Effect State.resetBegins_touch State.resetBegins_fields s x1 := by
    refine Effect.after (State.lastExecutions_effect ..) (by decide +kernel) ?_
    exact Effect.refl _ _ _
  try clear_value x1
  have h4 : Effect State.resetBegins_touch State.resetBegins_fields s x2 := by
    refine Effect.after (State.collectAll_effect ..) (by decide +kernel) ?_
    exact h3
  try clear_value x2
  refine Effect.after (State.wr_effect ..) (by decide +kernel) ?_
  exact h4

def State.dormantPowered_touch : List Part := [.power]
def State.dormantPowered_fields : Option (List Field) := some [Reg.DOMAIN_STATE.FABRIC, Reg.DOMAIN_STATE.LANE_PHY, Reg.DOMAIN_STATE.BB_PHY, Reg.DOMAIN_STATE.ANALOG, Reg.DOMAIN_STATE.DRAM_ACTIVE, Reg.DOMAIN_STATE.DRAM_SR]
theorem State.dormantPowered_effect (s : State) :
    Effect State.dormantPowered_touch State.dormantPowered_fields s (@State.dormantPowered s) := by
  unfold State.dormantPowered
  extract_lets x1 x2
  have h3 : Effect State.dormantPowered_touch State.dormantPowered_fields s x1 := by
    refine Effect.after (State.modPower_effect ..) (by decide +kernel) ?_
    exact Effect.refl _ _ _
  try clear_value x1
  have h4 : Effect State.dormantPowered_touch State.dormantPowered_fields s x2 := by
    refine Effect.after (State.wr_effect ..) (by decide +kernel) ?_
    refine Effect.after (State.wr_effect ..) (by decide +kernel) ?_
    refine Effect.after (State.wr_effect ..) (by decide +kernel) ?_
    exact h3
  try clear_value x2
  refine Effect.after (State.wr_effect ..) (by decide +kernel) ?_
  refine Effect.after (State.wr_effect ..) (by decide +kernel) ?_
  refine Effect.after (State.wr_effect ..) (by decide +kernel) ?_
  exact h4

def State.kickStep2_touch : List Part := [.power]
def State.kickStep2_fields : Option (List Field) := some [Reg.DOMAIN_STATE.FABRIC, Reg.DOMAIN_STATE.LANE_PHY, Reg.DOMAIN_STATE.BB_PHY, Reg.DOMAIN_STATE.ANALOG, Reg.DOMAIN_STATE.DRAM_ACTIVE, Reg.DOMAIN_STATE.DRAM_SR]
theorem State.kickStep2_effect (s : State) :
    Effect State.kickStep2_touch State.kickStep2_fields s (@State.kickStep2 s) := by
  unfold State.kickStep2
  refine Effect.ite ?_ ?_
  · refine Effect.ite ?_ ?_
    · refine Effect.after (State.dormantPowered_effect ..) (by decide +kernel) ?_
      exact Effect.refl _ _ _
    · refine Effect.after (State.modPower_effect ..) (by decide +kernel) ?_
      exact Effect.refl _ _ _
  · exact Effect.refl _ _ _

def State.kickFrom2_touch : List Part := [.power]
def State.kickFrom2_fields : Option (List Field) := some [Reg.DOMAIN_STATE.FABRIC, Reg.DOMAIN_STATE.LANE_PHY, Reg.DOMAIN_STATE.BB_PHY, Reg.DOMAIN_STATE.ANALOG, Reg.DOMAIN_STATE.DRAM_ACTIVE, Reg.DOMAIN_STATE.DRAM_SR, Reg.POWER_PGOOD.PGOOD]
theorem State.kickFrom2_effect (s : State) :
    Effect State.kickFrom2_touch State.kickFrom2_fields s (@State.kickFrom2 s) := by
  unfold State.kickFrom2
  refine Effect.after (State.kickStep2_effect ..) (by decide +kernel) ?_
  refine Effect.after (State.showPgood_effect ..) (by decide +kernel) ?_
  refine Effect.after (State.modPower_effect ..) (by decide +kernel) ?_
  exact Effect.refl _ _ _

def State.resetLatched_touch : List Part := []
def State.resetLatched_fields : Option (List Field) := some [Reg.RESET_CAUSE.CAUSE, Reg.RESET_CAUSE.COUNT]
theorem State.resetLatched_effect (s : State) (p1 : Nat) :
    Effect State.resetLatched_touch State.resetLatched_fields s (@State.resetLatched s p1) := by
  unfold State.resetLatched
  refine Effect.after (State.bump_effect ..) (by decide +kernel) ?_
  refine Effect.after (State.wr_effect ..) (by decide +kernel) ?_
  exact Effect.refl _ _ _

def State.deviceWakeFails_touch : List Part := [.hold, .wrHold, .power, .faults, .host, .load, .cfg, .fr, .images, .lanes, .chains, .cells, .arms, .engs, .convs, .referee, .pair, .journal, .adc, .drives, .motors, .safety, .eths, .canQueues, .cans, .out]
def State.deviceWakeFails_fields : Option (List Field) := none
theorem State.deviceWakeFails_effect (s : State) (p1 : Nat) (p2 : Nat) :
    Effect State.deviceWakeFails_touch State.deviceWakeFails_fields s (@State.deviceWakeFails s p1 p2) := by
  unfold State.deviceWakeFails
  extract_lets x1 x2 x3 x4 x5 x6 x7
  have h8 : Effect State.deviceWakeFails_touch State.deviceWakeFails_fields s x2 := by
    refine Effect.when ?_ ?_
    · exact Effect.refl _ _ _
    · intro u9
      try beta_reduce
      refine Effect.after (State.analogDown_effect ..) (by decide +kernel) ?_
      exact Effect.refl _ _ _
  try clear_value x2
  have h11 : Effect State.deviceWakeFails_touch State.deviceWakeFails_fields s x3 := by
    refine Effect.when ?_ ?_
    · exact h8
    · intro u12
      try beta_reduce
      refine Effect.after (State.bbDown_effect ..) (by decide +kernel) ?_
      exact Effect.refl _ _ _
  try clear_value x3
  have h14 : Effect State.deviceWakeFails_touch State.deviceWakeFails_fields s x4 := by
    refine Effect.after (State.wakeFailNote_effect ..) (by decide +kernel) ?_
    refine Effect.after (State.railsOff_effect ..) (by decide +kernel) ?_
    exact h11
  try clear_value x4
  have h15 : Effect State.deviceWakeFails_touch State.deviceWakeFails_fields s x5 := by
    refine Effect.after (State.devReset_effect ..) (by decide +kernel) ?_
    refine Effect.after (State.resetBegins_effect ..) (by decide +kernel) ?_
    exact Effect.refl _ _ _
  try clear_value x5
  have h16 : Effect State.deviceWakeFails_touch State.deviceWakeFails_fields s x6 := by
    refine Effect.after (State.modPower_effect ..) (by decide +kernel) ?_
    exact h15
  try clear_value x6
  have h17 : Effect State.deviceWakeFails_touch State.deviceWakeFails_fields s x7 := by
    refine Effect.after (State.wakeFailNote_effect ..) (by decide +kernel) ?_
    refine Effect.after (State.showPgood_effect ..) (by decide +kernel) ?_
    refine Effect.after (State.wr_effect ..) (by decide +kernel) ?_
    exact h16
  try clear_value x7
  try clear_value x1
  refine Effect.ite ?_ ?_
  · refine Effect.ite ?_ ?_
    · refine Effect.after (State.wr_effect ..) (by decide +kernel) ?_
      exact h14
    · refine Effect.after (State.raise_effect ..) (by decide +kernel) ?_
      refine Effect.after (State.modPower_effect ..) (by decide +kernel) ?_
      exact h14
  · refine Effect.ite ?_ ?_
    · refine Effect.after (State.wakeFailNote_effect ..) (by decide +kernel) ?_
      refine Effect.after (State.kickFrom2_effect ..) (by decide +kernel) ?_
      refine Effect.after (State.wr_effect ..) (by decide +kernel) ?_
      refine Effect.after (State.resetLatched_effect ..) (by decide +kernel) ?_
      exact h16
    · refine Effect.after (State.raise_effect ..) (by decide +kernel) ?_
      refine Effect.after (State.modPower_effect ..) (by decide +kernel) ?_
      exact h17

def State.pllTimeout_touch : List Part := [.hold, .wrHold, .power, .faults, .host, .load, .cfg, .fr, .images, .lanes, .chains, .cells, .arms, .engs, .convs, .referee, .pair, .journal, .adc, .drives, .motors, .safety, .eths, .canQueues, .cans, .out]
def State.pllTimeout_fields : Option (List Field) := none
theorem State.pllTimeout_effect (s : State) (p1 : Nat) :
    Effect State.pllTimeout_touch State.pllTimeout_fields s (@State.pllTimeout s p1) := by
  unfold State.pllTimeout
  extract_lets x1
  have h2 : Effect State.pllTimeout_touch State.pllTimeout_fields s x1 := by
    refine Effect.ite ?_ ?_
    · refine Effect.after (State.wakeFails_effect ..) (by decide +kernel) ?_
      refine Effect.after (State.wakeFailNote_effect ..) (by decide +kernel) ?_
      exact Effect.refl _ _ _
    · exact Effect.refl _ _ _
  try clear_value x1
  refine Effect.ite ?_ ?_
  · exact Effect.refl _ _ _
  · refine Effect.ite ?_ ?_
    · refine Effect.ite ?_ ?_
      · refine Effect.after (State.deviceWakeFails_effect ..) (by decide +kernel) ?_
        exact Effect.refl _ _ _
      · exact Effect.refl _ _ _
    · refine Effect.ite ?_ ?_
      · refine Effect.after (State.raise_effect ..) (by decide +kernel) ?_
        refine Effect.after (State.wakeFailNote_effect ..) (by decide +kernel) ?_
        refine Effect.after (State.modPower_effect ..) (by decide +kernel) ?_
        exact h2
      · exact h2

def State.setPartner_touch : List Part := [.host]
def State.setPartner_fields : Option (List Field) := some []
theorem State.setPartner_effect (s : State) (p1 : Nat) (p2 : Partner) :
    Effect State.setPartner_touch State.setPartner_fields s (@State.setPartner s p1 p2) := by
  unfold State.setPartner
  extract_lets x1
  try clear_value x1
  refine Effect.after (Effect.host _ _) (by decide +kernel) ?_
  exact Effect.refl _ _ _

def State.partnerLost_touch : List Part := [.host]
def State.partnerLost_fields : Option (List Field) := some [Reg.BB_EVENT.EVENTS, Reg.BB_PARTNER.STATE, Reg.BB_PARTNER.PORTS]
theorem State.partnerLost_effect (s : State) (p1 : Nat) :
    Effect State.partnerLost_touch State.partnerLost_fields s (@State.partnerLost s p1) := by
  unfold State.partnerLost
  extract_lets x1 x2 x3 x4
  have h5 : Effect State.partnerLost_touch State.partnerLost_fields s x2 := by
    refine Effect.each ?_ ?_
    · exact Effect.refl _ _ _
    · intro u6 a7
      try beta_reduce
      refine Effect.when ?_ ?_
      · exact Effect.refl _ _ _
      · intro u8
        try beta_reduce
        refine Effect.after (State.wrBit_effect ..) (by decide +kernel) ?_
        exact Effect.refl _ _ _
  try clear_value x2
  have h10 : Effect State.partnerLost_touch State.partnerLost_fields s x3 := by
    refine Effect.after (State.wr_effect ..) (by decide +kernel) ?_
    refine Effect.after (State.wr_effect ..) (by decide +kernel) ?_
    exact h5
  try clear_value x3
  have h11 : Effect State.partnerLost_touch State.partnerLost_fields s x4 := by
    refine Effect.each ?_ ?_
    · exact h10
    · intro u12 a13
      try beta_reduce
      refine Effect.after (State.evBit_effect ..) (by decide +kernel) ?_
      exact Effect.refl _ _ _
  try clear_value x4
  try clear_value x1
  refine Effect.ite ?_ ?_
  · exact Effect.refl _ _ _
  · split
    · exact h5
    · refine Effect.ite ?_ ?_
      · exact h5
      · refine Effect.after (State.setPartner_effect ..) (by decide +kernel) ?_
        exact h11

def State.modUnit_touch : List Part := [.safety]
def State.modUnit_fields : Option (List Field) := some []
theorem State.modUnit_effect (s : State) (p1 : Bool) (p2 : SafeUnit → SafeUnit) :
    Effect State.modUnit_touch State.modUnit_fields s (@State.modUnit s p1 p2) := by
  unfold State.modUnit
  extract_lets x1
  try clear_value x1
  refine Effect.ite ?_ ?_
  · refine Effect.after (Effect.safety _ _) (by decide +kernel) ?_
    exact Effect.refl _ _ _
  · refine Effect.after (Effect.safety _ _) (by decide +kernel) ?_
    exact Effect.refl _ _ _

def State.modGrp_touch : List Part := [.safety]
def State.modGrp_fields : Option (List Field) := some []
theorem State.modGrp_effect (s : State) (p1 : Bool) (p2 : Nat) (p3 : SafeGroup → SafeGroup) :
    Effect State.modGrp_touch State.modGrp_fields s (@State.modGrp s p1 p2 p3) := by
  unfold State.modGrp
  refine Effect.after (State.modUnit_effect ..) (by decide +kernel) ?_
  exact Effect.refl _ _ _

def State.unrelease_touch : List Part := [.safety]
def State.unrelease_fields : Option (List Field) := some [Reg.SAFE_RESET_STATUS.RELEASED, Reg.SAFE_RESET_STATUS.REFUSED, Reg.SAFE_EVENT.RESET_REFUSED]
theorem State.unrelease_effect (s : State) (p1 : Bool) (p2 : Nat) :
    Effect State.unrelease_touch State.unrelease_fields s (@State.unrelease s p1 p2) := by
  unfold State.unrelease
  extract_lets x1
  have h2 : Effect State.unrelease_touch State.unrelease_fields s x1 := by
    refine Effect.after (State.wrBit_effect ..) (by decide +kernel) ?_
    refine Effect.after (State.modGrp_effect ..) (by decide +kernel) ?_
    exact Effect.refl _ _ _
  try clear_value x1
  refine Effect.after (State.wrBit_effect ..) (by decide +kernel) ?_
  refine Effect.after (State.wr_effect ..) (by decide +kernel) ?_
  exact h2

def State.removeGroup_touch : List Part := [.convs, .safety]
def State.removeGroup_fields : Option (List Field) := some [Reg.SAFE_EVENT.REMOVED]
theorem State.removeGroup_effect (s : State) (p1 : Bool) (p2 : Nat) (p3 : Nat) :
    Effect State.removeGroup_touch State.removeGroup_fields s (@State.removeGroup s p1 p2 p3) := by
  unfold State.removeGroup
  extract_lets x1
  have h2 : Effect State.removeGroup_touch State.removeGroup_fields s x1 := by
    refine Effect.after (State.wr_effect ..) (by decide +kernel) ?_
    refine Effect.after (State.modGrp_effect ..) (by decide +kernel) ?_
    exact Effect.refl _ _ _
  try clear_value x1
  refine Effect.ite ?_ ?_
  · refine Effect.each ?_ ?_
    · exact h2
    · intro u3 a4
      try beta_reduce
      refine Effect.after (State.modConv_effect ..) (by decide +kernel) ?_
      exact Effect.refl _ _ _
  · exact h2

def State.demandGroup_touch : List Part := [.convs, .safety]
def State.demandGroup_fields : Option (List Field) := some [Reg.SAFE_RESET_STATUS.RELEASED, Reg.SAFE_RESET_STATUS.REFUSED, Reg.SAFE_EVENT.DEMAND, Reg.SAFE_EVENT.STOPPING, Reg.SAFE_EVENT.REMOVED, Reg.SAFE_EVENT.RESET_REFUSED]
theorem State.demandGroup_effect (s : State) (p1 : Bool) (p2 : Nat) :
    Effect State.demandGroup_touch State.demandGroup_fields s (@State.demandGroup s p1 p2) := by
  unfold State.demandGroup
  extract_lets x1 x2 x3 x4 x5 x6
  have h7 : Effect State.demandGroup_touch State.demandGroup_fields s x3 := by
    refine Effect.after (State.wr_effect ..) (by decide +kernel) ?_
    exact Effect.refl _ _ _
  try clear_value x3
  have h8 : Effect State.demandGroup_touch State.demandGroup_fields s x6 := by
    refine Effect.after (State.modGrp_effect ..) (by decide +kernel) ?_
    exact h7
  try clear_value x6
  try clear_value x1 x2 x4 x5
  refine Effect.ite ?_ ?_
  · exact Effect.refl _ _ _
  · refine Effect.ite ?_ ?_
    · refine Effect.after (State.unrelease_effect ..) (by decide +kernel) ?_
      exact Effect.refl _ _ _
    · refine Effect.ite ?_ ?_
      · refine Effect.after (State.removeGroup_effect ..) (by decide +kernel) ?_
        exact h8
      · refine Effect.ite ?_ ?_
        · refine Effect.after (State.removeGroup_effect ..) (by decide +kernel) ?_
          exact h8
        · refine Effect.ite ?_ ?_
          · refine Effect.after (State.removeGroup_effect ..) (by decide +kernel) ?_
            exact h8
          · refine Effect.after (State.wr_effect ..) (by decide +kernel) ?_
            refine Effect.after (State.modGrp_effect ..) (by decide +kernel) ?_
            exact h8

def State.demandGroups_touch : List Part := [.convs, .safety]
def State.demandGroups_fields : Option (List Field) := some [Reg.SAFE_RESET_STATUS.RELEASED, Reg.SAFE_RESET_STATUS.REFUSED, Reg.SAFE_EVENT.DEMAND, Reg.SAFE_EVENT.STOPPING, Reg.SAFE_EVENT.REMOVED, Reg.SAFE_EVENT.RESET_REFUSED]
theorem State.demandGroups_effect (s : State) (p1 : Bool) :
    Effect State.demandGroups_touch State.demandGroups_fields s (@State.demandGroups s p1) := by
  unfold State.demandGroups
  refine Effect.each ?_ ?_
  · exact Effect.refl _ _ _
  · intro u1 a2
    try beta_reduce
    refine Effect.after (State.demandGroup_effect ..) (by decide +kernel) ?_
    exact Effect.refl _ _ _

def State.modChan_touch : List Part := [.safety]
def State.modChan_fields : Option (List Field) := some []
theorem State.modChan_effect (s : State) (p1 : Bool) (p2 : Nat) (p3 : SafeChan → SafeChan) :
    Effect State.modChan_touch State.modChan_fields s (@State.modChan s p1 p2 p3) := by
  unfold State.modChan
  refine Effect.after (State.modUnit_effect ..) (by decide +kernel) ?_
  exact Effect.refl _ _ _

def State.modPair_touch : List Part := [.safety]
def State.modPair_fields : Option (List Field) := some []
theorem State.modPair_effect (s : State) (p1 : Bool) (p2 : Nat) (p3 : SafePair → SafePair) :
    Effect State.modPair_touch State.modPair_fields s (@State.modPair s p1 p2 p3) := by
  unfold State.modPair
  refine Effect.after (State.modUnit_effect ..) (by decide +kernel) ?_
  exact Effect.refl _ _ _

def State.judgePair_touch : List Part := [.safety]
def State.judgePair_fields : Option (List Field) := some []
theorem State.judgePair_effect (s : State) (p1 : Bool) (p2 : Nat) :
    Effect State.judgePair_touch State.judgePair_fields s (@State.judgePair s p1 p2) := by
  unfold State.judgePair
  extract_lets x1 x2 x3 x4 x5 x6 x7 x8 x9 x10 x11 x12 x13
  have h14 : Effect State.judgePair_touch State.judgePair_fields s x9 := by
    refine Effect.when ?_ ?_
    · exact Effect.refl _ _ _
    · intro u15
      try beta_reduce
      refine Effect.after (State.modChan_effect ..) (by decide +kernel) ?_
      refine Effect.after (State.modChan_effect ..) (by decide +kernel) ?_
      exact Effect.refl _ _ _
  try clear_value x9
  try clear_value x1 x2 x3 x4 x5 x6 x7 x8 x10 x11 x12 x13
  refine Effect.ite ?_ ?_
  · exact Effect.refl _ _ _
  · refine Effect.after (State.modPair_effect ..) (by decide +kernel) ?_
    exact h14

def State.judgeUnit_touch : List Part := [.convs, .safety]
def State.judgeUnit_fields : Option (List Field) := some [Reg.SAFE_STATUS.A_OK, Reg.SAFE_STATUS.B_OK, Reg.SAFE_STATUS.DIAG, Reg.SAFE_STATUS.DIAG_CAUSE, Reg.SAFE_STATUS.RESET_PIN, Reg.SAFE_STATUS.DEMAND, Reg.SAFE_STATUS.LOCKED, Reg.SAFE_STATUS.DIAG_A, Reg.SAFE_STATUS.DIAG_B, Reg.SAFE_GROUP.STATE, Reg.SAFE_GROUP.KIND, Reg.SAFE_GROUP.STOP, Reg.SAFE_GROUP.CAUSE, Reg.SAFE_GROUP.PAIRS, Reg.SAFE_PAIR.CH_A, Reg.SAFE_PAIR.CH_B, Reg.SAFE_PAIR.DEMAND, Reg.SAFE_PAIR.PAIR_FAULT, Reg.SAFE_PAIR.FAULT_CAUSE, Reg.SAFE_PAIR.DEMANDS, Reg.SAFE_TPO.EN, Reg.SAFE_TPO.READBACK_FAULT, Reg.SAFE_FIRE.FIRE_A, Reg.SAFE_FIRE.FIRE_B, Reg.SAFE_FIRE.DRV_A, Reg.SAFE_FIRE.DRV_B, Reg.SAFE_RESET_STATUS.ARMED, Reg.SAFE_RESET_STATUS.RELEASED, Reg.SAFE_RESET_STATUS.REFUSED, Reg.SAFE_EVENT.DEMAND, Reg.SAFE_EVENT.STOPPING, Reg.SAFE_EVENT.REMOVED, Reg.SAFE_EVENT.RESET_REFUSED]
theorem State.judgeUnit_effect (s : State) (p1 : Bool) (p2 : Nat) :
    Effect State.judgeUnit_touch State.judgeUnit_fields s (@State.judgeUnit s p1 p2) := by
  unfold State.judgeUnit
  refine Effect.after (State.showSafe_effect ..) (by decide +kernel) ?_
  refine Effect.after (State.demandGroups_effect ..) (by decide +kernel) ?_
  refine Effect.after (State.judgePair_effect ..) (by decide +kernel) ?_
  exact Effect.refl _ _ _

def State.pairFault_touch : List Part := [.safety]
def State.pairFault_fields : Option (List Field) := some [Reg.SAFE_EVENT.PAIR_FAULT]
theorem State.pairFault_effect (s : State) (p1 : Bool) (p2 : Nat) (p3 : Nat) :
    Effect State.pairFault_touch State.pairFault_fields s (@State.pairFault s p1 p2 p3) := by
  unfold State.pairFault
  refine Effect.ite ?_ ?_
  · exact Effect.refl _ _ _
  · refine Effect.after (State.wr_effect ..) (by decide +kernel) ?_
    refine Effect.after (State.modPair_effect ..) (by decide +kernel) ?_
    exact Effect.refl _ _ _

def State.discrepancy_touch : List Part := [.convs, .safety]
def State.discrepancy_fields : Option (List Field) := some [Reg.SAFE_STATUS.A_OK, Reg.SAFE_STATUS.B_OK, Reg.SAFE_STATUS.DIAG, Reg.SAFE_STATUS.DIAG_CAUSE, Reg.SAFE_STATUS.RESET_PIN, Reg.SAFE_STATUS.DEMAND, Reg.SAFE_STATUS.LOCKED, Reg.SAFE_STATUS.DIAG_A, Reg.SAFE_STATUS.DIAG_B, Reg.SAFE_GROUP.STATE, Reg.SAFE_GROUP.KIND, Reg.SAFE_GROUP.STOP, Reg.SAFE_GROUP.CAUSE, Reg.SAFE_GROUP.PAIRS, Reg.SAFE_PAIR.CH_A, Reg.SAFE_PAIR.CH_B, Reg.SAFE_PAIR.DEMAND, Reg.SAFE_PAIR.PAIR_FAULT, Reg.SAFE_PAIR.FAULT_CAUSE, Reg.SAFE_PAIR.DEMANDS, Reg.SAFE_TPO.EN, Reg.SAFE_TPO.READBACK_FAULT, Reg.SAFE_FIRE.FIRE_A, Reg.SAFE_FIRE.FIRE_B, Reg.SAFE_FIRE.DRV_A, Reg.SAFE_FIRE.DRV_B, Reg.SAFE_RESET_STATUS.ARMED, Reg.SAFE_RESET_STATUS.RELEASED, Reg.SAFE_RESET_STATUS.REFUSED, Reg.SAFE_EVENT.DEMAND, Reg.SAFE_EVENT.STOPPING, Reg.SAFE_EVENT.REMOVED, Reg.SAFE_EVENT.PAIR_FAULT, Reg.SAFE_EVENT.RESET_REFUSED]
theorem State.discrepancy_effect (s : State) (p1 : Bool) (p2 : Nat) :
    Effect State.discrepancy_touch State.discrepancy_fields s (@State.discrepancy s p1 p2) := by
  unfold State.discrepancy
  split
  · refine Effect.ite ?_ ?_
    · exact Effect.refl _ _ _
    · refine Effect.after (State.judgeUnit_effect ..) (by decide +kernel) ?_
      refine Effect.after (State.pairFault_effect ..) (by decide +kernel) ?_
      exact Effect.refl _ _ _
  · exact Effect.refl _ _ _

def State.modMot_touch : List Part := [.motors]
def State.modMot_fields : Option (List Field) := some []
theorem State.modMot_effect (s : State) (p1 : Nat) (p2 : MotSt → MotSt) :
    Effect State.modMot_touch State.modMot_fields s (@State.modMot s p1 p2) := by
  unfold State.modMot
  refine Effect.after (Effect.motors _ _ _) (by decide +kernel) ?_
  exact Effect.refl _ _ _

def State.followReversal_touch : List Part := [.motors]
def State.followReversal_fields : Option (List Field) := some []
theorem State.followReversal_effect (s : State) (p1 : Nat) (p2 : Int) :
    Effect State.followReversal_touch State.followReversal_fields s (@State.followReversal s p1 p2) := by
  unfold State.followReversal
  refine Effect.after (State.modMot_effect ..) (by decide +kernel) ?_
  exact Effect.refl _ _ _

def State.motTo_touch : List Part := [.faults, .motors]
def State.motTo_fields : Option (List Field) := some [Reg.COLLECT_STATUS_LO.STATUS, Reg.COLLECT_STATUS_HI.STATUS, Reg.FAULT_COUNT_CORR.COUNT, Reg.FAULT_COUNT_CONT.COUNT, Reg.FAULT_COUNT_FATAL.COUNT, Reg.FAULT_EVENT.CORRECTED, Reg.FAULT_EVENT.CONTAINED, Reg.FAULT_EVENT.FATAL, Reg.FAULT_EVENT.HIST_LOST, Reg.FAULT_HIST_STATUS.LOST, Reg.MOT_STATE.STATE, Reg.MOT_EVENT.STATE, Reg.MOT_EVENT.OBS_LOST]
theorem State.motTo_effect (s : State) (p1 : Nat) (p2 : Nat) (p3 : Bool) :
    Effect State.motTo_touch State.motTo_fields s (@State.motTo s p1 p2 p3) := by
  unfold State.motTo
  extract_lets x1 x2 x3 x4 x5
  have h6 : Effect State.motTo_touch State.motTo_fields s x3 := by
    refine Effect.after (State.modMot_effect ..) (by decide +kernel) ?_
    exact Effect.refl _ _ _
  try clear_value x3
  have h7 : Effect State.motTo_touch State.motTo_fields s x4 := by
    refine Effect.when ?_ ?_
    · exact h6
    · intro u8
      try beta_reduce
      refine Effect.after (State.raise_effect ..) (by decide +kernel) ?_
      refine Effect.after (State.wr_effect ..) (by decide +kernel) ?_
      exact Effect.refl _ _ _
  try clear_value x4
  have h10 : Effect State.motTo_touch State.motTo_fields s x5 := by
    refine Effect.when ?_ ?_
    · exact h7
    · intro u11
      try beta_reduce
      refine Effect.after (State.raise_effect ..) (by decide +kernel) ?_
      exact Effect.refl _ _ _
  try clear_value x5
  try clear_value x1
  refine Effect.ite ?_ ?_
  · exact Effect.refl _ _ _
  · refine Effect.after (State.wr_effect ..) (by decide +kernel) ?_
    refine Effect.after (State.wr_effect ..) (by decide +kernel) ?_
    exact h10

def State.startDone_touch : List Part := [.faults, .motors]
def State.startDone_fields : Option (List Field) := some [Reg.COLLECT_STATUS_LO.STATUS, Reg.COLLECT_STATUS_HI.STATUS, Reg.FAULT_COUNT_CORR.COUNT, Reg.FAULT_COUNT_CONT.COUNT, Reg.FAULT_COUNT_FATAL.COUNT, Reg.FAULT_EVENT.CORRECTED, Reg.FAULT_EVENT.CONTAINED, Reg.FAULT_EVENT.FATAL, Reg.FAULT_EVENT.HIST_LOST, Reg.FAULT_HIST_STATUS.LOST, Reg.MOT_STATE.STATE, Reg.MOT_EVENT.STATE, Reg.MOT_EVENT.OBS_LOST]
theorem State.startDone_effect (s : State) (p1 : Nat) (p2 : MotCfg) (p3 : Int) :
    Effect State.startDone_touch State.startDone_fields s (@State.startDone s p1 p2 p3) := by
  unfold State.startDone
  extract_lets x1 x2 x3
  try clear_value x1 x2 x3
  refine Effect.after (State.motTo_effect ..) (by decide +kernel) ?_
  refine Effect.after (State.modMot_effect ..) (by decide +kernel) ?_
  exact Effect.refl _ _ _

def State.stopFrom_touch : List Part := [.faults, .motors]
def State.stopFrom_fields : Option (List Field) := some [Reg.COLLECT_STATUS_LO.STATUS, Reg.COLLECT_STATUS_HI.STATUS, Reg.FAULT_COUNT_CORR.COUNT, Reg.FAULT_COUNT_CONT.COUNT, Reg.FAULT_COUNT_FATAL.COUNT, Reg.FAULT_EVENT.CORRECTED, Reg.FAULT_EVENT.CONTAINED, Reg.FAULT_EVENT.FATAL, Reg.FAULT_EVENT.HIST_LOST, Reg.FAULT_HIST_STATUS.LOST, Reg.MOT_STATE.STATE, Reg.MOT_EVENT.STATE, Reg.MOT_EVENT.OBS_LOST]
theorem State.stopFrom_effect (s : State) (p1 : Nat) (p2 : MotCfg) (p3 : Int) (p4 : Int) :
    Effect State.stopFrom_touch State.stopFrom_fields s (@State.stopFrom s p1 p2 p3 p4) := by
  unfold State.stopFrom
  extract_lets x1
  have h2 : Effect State.stopFrom_touch State.stopFrom_fields s x1 := by
    refine Effect.after (State.modMot_effect ..) (by decide +kernel) ?_
    exact Effect.refl _ _ _
  try clear_value x1
  refine Effect.ite ?_ ?_
  · refine Effect.after (State.motTo_effect ..) (by decide +kernel) ?_
    exact h2
  · refine Effect.after (State.motTo_effect ..) (by decide +kernel) ?_
    exact h2

def State.catchOk_touch : List Part := [.faults, .motors]
def State.catchOk_fields : Option (List Field) := some [Reg.COLLECT_STATUS_LO.STATUS, Reg.COLLECT_STATUS_HI.STATUS, Reg.FAULT_COUNT_CORR.COUNT, Reg.FAULT_COUNT_CONT.COUNT, Reg.FAULT_COUNT_FATAL.COUNT, Reg.FAULT_EVENT.CORRECTED, Reg.FAULT_EVENT.CONTAINED, Reg.FAULT_EVENT.FATAL, Reg.FAULT_EVENT.HIST_LOST, Reg.FAULT_HIST_STATUS.LOST, Reg.MOT_STATE.STATE, Reg.MOT_COUNT.CATCH_OK, Reg.MOT_EVENT.STATE, Reg.MOT_EVENT.OBS_LOST]
theorem State.catchOk_effect (s : State) (p1 : Nat) (p2 : MotCfg) (p3 : Int) (p4 : Int) :
    Effect State.catchOk_touch State.catchOk_fields s (@State.catchOk s p1 p2 p3 p4) := by
  unfold State.catchOk
  extract_lets x1 x2
  have h3 : Effect State.catchOk_touch State.catchOk_fields s x1 := by
    refine Effect.after (State.modMot_effect ..) (by decide +kernel) ?_
    exact Effect.refl _ _ _
  try clear_value x1
  have h4 : Effect State.catchOk_touch State.catchOk_fields s x2 := by
    refine Effect.after (State.bump_effect ..) (by decide +kernel) ?_
    exact h3
  try clear_value x2
  refine Effect.ite ?_ ?_
  · refine Effect.after (State.motTo_effect ..) (by decide +kernel) ?_
    exact h4
  · refine Effect.after (State.stopFrom_effect ..) (by decide +kernel) ?_
    exact h4

def State.motMachine_touch : List Part := [.faults, .motors]
def State.motMachine_fields : Option (List Field) := some [Reg.COLLECT_STATUS_LO.STATUS, Reg.COLLECT_STATUS_HI.STATUS, Reg.FAULT_COUNT_CORR.COUNT, Reg.FAULT_COUNT_CONT.COUNT, Reg.FAULT_COUNT_FATAL.COUNT, Reg.FAULT_EVENT.CORRECTED, Reg.FAULT_EVENT.CONTAINED, Reg.FAULT_EVENT.FATAL, Reg.FAULT_EVENT.HIST_LOST, Reg.FAULT_HIST_STATUS.LOST, Reg.MOT_STATE.STATE, Reg.MOT_COUNT.CATCH_OK, Reg.MOT_EVENT.STATE, Reg.MOT_EVENT.OBS_LOST]
theorem State.motMachine_effect (s : State) (p1 : Nat) (p2 : MotCfg) (p3 : Int) (p4 : Int) (p5 : Nat) (p6 : Bool) (p7 : Bool) :
    Effect State.motMachine_touch State.motMachine_fields s (@State.motMachine s p1 p2 p3 p4 p5 p6 p7) := by
  unfold State.motMachine
  extract_lets x1 x2 x3 x4 x5 x6 x7 x8
  have h9 : Effect State.motMachine_touch State.motMachine_fields s x6 := by
    refine Effect.after (State.modMot_effect ..) (by decide +kernel) ?_
    exact Effect.refl _ _ _
  try clear_value x6
  have h10 : Effect State.motMachine_touch State.motMachine_fields s x8 := by
    refine Effect.after (State.followReversal_effect ..) (by decide +kernel) ?_
    exact h9
  try clear_value x8
  try clear_value x1 x2 x3 x4 x7
  split
  · refine Effect.ite ?_ ?_
    · refine Effect.after (State.motTo_effect ..) (by decide +kernel) ?_
      exact h9
    · exact h9
  · refine Effect.ite ?_ ?_
    · refine Effect.after (State.startDone_effect ..) (by decide +kernel) ?_
      exact h9
    · exact h9
  · refine Effect.ite ?_ ?_
    · refine Effect.after (State.motTo_effect ..) (by decide +kernel) ?_
      exact h9
    · refine Effect.ite ?_ ?_
      · refine Effect.after (State.stopFrom_effect ..) (by decide +kernel) ?_
        exact h9
      · exact h9
  · refine Effect.ite ?_ ?_
    · refine Effect.after (State.motTo_effect ..) (by decide +kernel) ?_
      exact h10
    · refine Effect.ite ?_ ?_
      · refine Effect.after (State.motTo_effect ..) (by decide +kernel) ?_
        exact h10
      · exact h10
  · refine Effect.after (State.followReversal_effect ..) (by decide +kernel) ?_
    exact h9
  · refine Effect.ite ?_ ?_
    · refine Effect.after (State.motTo_effect ..) (by decide +kernel) ?_
      exact h10
    · exact h10
  · refine Effect.ite ?_ ?_
    · refine Effect.after (State.catchOk_effect ..) (by decide +kernel) ?_
      exact h9
    · exact h9
  · exact h9

def State.dormantExitStart_touch : List Part := [.power]
def State.dormantExitStart_fields : Option (List Field) := some [Reg.POWER_STATE.WAKE_SRC, Reg.POWER_STATE.WAKE_TRIES]
theorem State.dormantExitStart_effect (s : State) (p1 : Nat) :
    Effect State.dormantExitStart_touch State.dormantExitStart_fields s (@State.dormantExitStart s p1) := by
  unfold State.dormantExitStart
  extract_lets x1
  have h2 : Effect State.dormantExitStart_touch State.dormantExitStart_fields s x1 := by
    refine Effect.after (State.wr_effect ..) (by decide +kernel) ?_
    refine Effect.after (State.wr_effect ..) (by decide +kernel) ?_
    exact Effect.refl _ _ _
  try clear_value x1
  refine Effect.ite ?_ ?_
  · exact Effect.refl _ _ _
  · refine Effect.after (State.modPower_effect ..) (by decide +kernel) ?_
    exact h2

end Sys2Proof.Machine
end

