-- ==== Sys2Proof/Laws/Frames2.lean ====
section
/-! SUPPORT. What every operation and every command may touch (part 2 of 8, in the order in which they are built on one another): for each a list
of parts, a list of register fields, and the effect with both, from every state. -/

namespace Sys2Proof.Machine

set_option Elab.async false

def State.edgeWake_touch : List Part := [.power]
def State.edgeWake_fields : Option (List Field) := some [Reg.POWER_STATE.WAKE_SRC, Reg.POWER_STATE.WAKE_TRIES]
theorem State.edgeWake_effect (s : State) (p1 : Nat) (p2 : Bool) :
    Effect State.edgeWake_touch State.edgeWake_fields s (@State.edgeWake s p1 p2) := by
  unfold State.edgeWake
  split
  · refine Effect.ite ?_ ?_
    · refine Effect.after (State.modPower_effect ..) (by decide +kernel) ?_
      exact Effect.refl _ _ _
    · exact Effect.refl _ _ _
  · refine Effect.after (State.dormantExitStart_effect ..) (by decide +kernel) ?_
    exact Effect.refl _ _ _

def State.writeSar_touch : List Part := []
def State.writeSar_fields : Option (List Field) := some [Reg.ADC_IN_CFG.GAIN, Reg.ADC_IN_CFG.EN, Reg.ADC_ENTRY_CFG.INPUT, Reg.ADC_ENTRY_CFG.ACQ, Reg.ADC_ENTRY_CFG.SHIFT, Reg.ADC_ENTRY_CFG.WIN_EN, Reg.ADC_ENTRY_SCALE.VALUE, Reg.ADC_ENTRY_OFFSET.VALUE, Reg.ADC_ENTRY_WIN_HI.VALUE, Reg.ADC_ENTRY_WIN_LO.VALUE]
theorem State.writeSar_effect (s : State) (p1 : Nat) (p2 : AdcStaged) :
    Effect State.writeSar_touch State.writeSar_fields s (@State.writeSar s p1 p2) := by
  unfold State.writeSar
  extract_lets x1 x2
  have h3 : Effect State.writeSar_touch State.writeSar_fields s x2 := by
    refine Effect.each ?_ ?_
    · exact Effect.refl _ _ _
    · intro u4 a5
      try beta_reduce
      extract_lets x6 x7 x8 x9
      have h10 : Effect State.writeSar_touch State.writeSar_fields u4 x7 := by
        refine Effect.after (State.wr_effect ..) (by decide +kernel) ?_
        refine Effect.after (State.wr_effect ..) (by decide +kernel) ?_
        exact Effect.refl _ _ _
      try clear_value x7
      have h11 : Effect State.writeSar_touch State.writeSar_fields u4 x8 := by
        refine Effect.after (State.wr_effect ..) (by decide +kernel) ?_
        refine Effect.after (State.wr_effect ..) (by decide +kernel) ?_
        exact h10
      try clear_value x8
      have h12 : Effect State.writeSar_touch State.writeSar_fields u4 x9 := by
        refine Effect.after (State.wrS_effect ..) (by decide +kernel) ?_
        refine Effect.after (State.wrS_effect ..) (by decide +kernel) ?_
        exact h11
      try clear_value x9
      try clear_value x6
      refine Effect.after (State.wrS_effect ..) (by decide +kernel) ?_
      refine Effect.after (State.wrS_effect ..) (by decide +kernel) ?_
      exact h12
  try clear_value x2
  try clear_value x1
  refine Effect.each ?_ ?_
  · exact h3
  · intro u13 a14
    try beta_reduce
    refine Effect.after (State.wr_effect ..) (by decide +kernel) ?_
    refine Effect.after (State.wr_effect ..) (by decide +kernel) ?_
    exact Effect.refl _ _ _

def State.modSar_touch : List Part := [.adc]
def State.modSar_fields : Option (List Field) := some []
theorem State.modSar_effect (s : State) (p1 : Nat) (p2 : AdcConv → AdcConv) :
    Effect State.modSar_touch State.modSar_fields s (@State.modSar s p1 p2) := by
  unfold State.modSar
  extract_lets x1
  try clear_value x1
  refine Effect.after (Effect.adc _ _) (by decide +kernel) ?_
  exact Effect.refl _ _ _

def State.planBurst_touch : List Part := []
def State.planBurst_fields : Option (List Field) := some [Reg.ADC_SEQ_BURST.START, Reg.ADC_SEQ_BURST.LENGTH]
theorem State.planBurst_effect (s : State) (p1 : Nat) :
    Effect State.planBurst_touch State.planBurst_fields s (@State.planBurst s p1) := by
  unfold State.planBurst
  extract_lets x1
  try clear_value x1
  refine Effect.ite ?_ ?_
  · exact Effect.refl _ _ _
  · split
    · refine Effect.after (State.wr_effect ..) (by decide +kernel) ?_
      refine Effect.after (State.wr_effect ..) (by decide +kernel) ?_
      exact Effect.refl _ _ _

def State.modDs_touch : List Part := [.adc]
def State.modDs_fields : Option (List Field) := some []
theorem State.modDs_effect (s : State) (p1 : Nat) (p2 : DsSt → DsSt) :
    Effect State.modDs_touch State.modDs_fields s (@State.modDs s p1 p2) := by
  unfold State.modDs
  extract_lets x1
  try clear_value x1
  refine Effect.after (Effect.adc _ _) (by decide +kernel) ?_
  exact Effect.refl _ _ _

def State.writeDs_touch : List Part := []
def State.writeDs_fields : Option (List Field) := some [Reg.ADC_DS_CFG.ORDER, Reg.ADC_DS_CFG.LOG2R, Reg.ADC_DS_CFG.SHIFT, Reg.ADC_DS_SCALE.VALUE, Reg.ADC_DS_OFFSET.VALUE]
theorem State.writeDs_effect (s : State) (p1 : Nat) (p2 : DsCfg) :
    Effect State.writeDs_touch State.writeDs_fields s (@State.writeDs s p1 p2) := by
  unfold State.writeDs
  extract_lets x1
  have h2 : Effect State.writeDs_touch State.writeDs_fields s x1 := by
    refine Effect.after (State.wr_effect ..) (by decide +kernel) ?_
    refine Effect.after (State.wr_effect ..) (by decide +kernel) ?_
    refine Effect.after (State.wr_effect ..) (by decide +kernel) ?_
    exact Effect.refl _ _ _
  try clear_value x1
  refine Effect.after (State.wrS_effect ..) (by decide +kernel) ?_
  refine Effect.after (State.wrS_effect ..) (by decide +kernel) ?_
  exact h2

def State.refEnable_touch : List Part := [.adc]
def State.refEnable_fields : Option (List Field) := some [Reg.ADC_REF.EN]
theorem State.refEnable_effect (s : State) :
    Effect State.refEnable_touch State.refEnable_fields s (@State.refEnable s) := by
  unfold State.refEnable
  extract_lets x1 x2
  have h3 : Effect State.refEnable_touch State.refEnable_fields s x2 := by
    refine Effect.after (Effect.adc _ _) (by decide +kernel) ?_
    exact Effect.refl _ _ _
  try clear_value x2
  try clear_value x1
  refine Effect.ite ?_ ?_
  · exact Effect.refl _ _ _
  · refine Effect.after (State.wr_effect ..) (by decide +kernel) ?_
    exact h3

def State.commitAdc_touch : List Part := [.adc]
def State.commitAdc_fields : Option (List Field) := some [Reg.ADC_CTRL.SEQ_EN, Reg.ADC_REF.EN, Reg.ADC_REF.AUTO, Reg.ADC_IN_CFG.GAIN, Reg.ADC_IN_CFG.EN, Reg.ADC_SEQ_CTRL.LEN, Reg.ADC_SEQ_BURST.START, Reg.ADC_SEQ_BURST.LENGTH, Reg.ADC_ENTRY_CFG.INPUT, Reg.ADC_ENTRY_CFG.ACQ, Reg.ADC_ENTRY_CFG.SHIFT, Reg.ADC_ENTRY_CFG.WIN_EN, Reg.ADC_ENTRY_SCALE.VALUE, Reg.ADC_ENTRY_OFFSET.VALUE, Reg.ADC_ENTRY_WIN_HI.VALUE, Reg.ADC_ENTRY_WIN_LO.VALUE, Reg.ADC_DS_CFG.ORDER, Reg.ADC_DS_CFG.LOG2R, Reg.ADC_DS_CFG.SHIFT, Reg.ADC_DS_SCALE.VALUE, Reg.ADC_DS_OFFSET.VALUE, Reg.ADC_HK_DIODE_CFG0.IDEALITY, Reg.ADC_HK_DIODE_CFG1.IDEALITY]
theorem State.commitAdc_effect (s : State) (p1 : AdcCfg) :
    Effect State.commitAdc_touch State.commitAdc_fields s (@State.commitAdc s p1) := by
  unfold State.commitAdc
  extract_lets x1 x2 x3 x4 x5 x6 x7 x8 x9 x10 x11
  have h12 : Effect State.commitAdc_touch State.commitAdc_fields s x2 := by
    refine Effect.each ?_ ?_
    · exact Effect.refl _ _ _
    · intro u13 a14
      try beta_reduce
      extract_lets x15 x16 x17 x18
      have h19 : Effect State.commitAdc_touch State.commitAdc_fields u13 x16 := by
        refine Effect.after (State.wr_effect ..) (by decide +kernel) ?_
        exact Effect.refl _ _ _
      try clear_value x16
      have h20 : Effect State.commitAdc_touch State.commitAdc_fields u13 x17 := by
        refine Effect.after (State.writeSar_effect ..) (by decide +kernel) ?_
        exact h19
      try clear_value x17
      have h21 : Effect State.commitAdc_touch State.commitAdc_fields u13 x18 := by
        refine Effect.after (State.modSar_effect ..) (by decide +kernel) ?_
        exact h20
      try clear_value x18
      try clear_value x15
      refine Effect.after (State.planBurst_effect ..) (by decide +kernel) ?_
      exact h21
  try clear_value x2
  have h22 : Effect State.commitAdc_touch State.commitAdc_fields s x4 := by
    refine Effect.each ?_ ?_
    · exact h12
    · intro u23 a24
      try beta_reduce
      extract_lets x25
      try clear_value x25
      refine Effect.after (State.modDs_effect ..) (by decide +kernel) ?_
      refine Effect.after (State.writeDs_effect ..) (by decide +kernel) ?_
      exact Effect.refl _ _ _
  try clear_value x4
  have h26 : Effect State.commitAdc_touch State.commitAdc_fields s x6 := by
    refine Effect.after (State.wr_effect ..) (by decide +kernel) ?_
    exact h22
  try clear_value x6
  have h27 : Effect State.commitAdc_touch State.commitAdc_fields s x9 := by
    refine Effect.after (Effect.adc _ _) (by decide +kernel) ?_
    exact h26
  try clear_value x9
  have h28 : Effect State.commitAdc_touch State.commitAdc_fields s x10 := by
    refine Effect.after (State.wr_effect ..) (by decide +kernel) ?_
    refine Effect.after (State.wr_effect ..) (by decide +kernel) ?_
    exact h27
  try clear_value x10
  have h29 : Effect State.commitAdc_touch State.commitAdc_fields s x11 := by
    refine Effect.after (State.wr_effect ..) (by decide +kernel) ?_
    exact h28
  try clear_value x11
  try clear_value x1 x3 x5 x7 x8
  refine Effect.when ?_ ?_
  · exact h29
  · intro u30
    try beta_reduce
    refine Effect.after (State.refEnable_effect ..) (by decide +kernel) ?_
    exact Effect.refl _ _ _

def State.modLane_touch : List Part := [.lanes]
def State.modLane_fields : Option (List Field) := some []
theorem State.modLane_effect (s : State) (p1 : Nat) (p2 : LaneSt → LaneSt) :
    Effect State.modLane_touch State.modLane_fields s (@State.modLane s p1 p2) := by
  unfold State.modLane
  refine Effect.after (Effect.lanes _ _ _) (by decide +kernel) ?_
  exact Effect.refl _ _ _

def State.showLane_touch : List Part := [.lanes]
def State.showLane_fields : Option (List Field) := some [Reg.LANE_STATUS.STATE]
theorem State.showLane_effect (s : State) (p1 : Nat) :
    Effect State.showLane_touch State.showLane_fields s (@State.showLane s p1) := by
  unfold State.showLane
  extract_lets x1 x2
  have h3 : Effect State.showLane_touch State.showLane_fields s x2 := by
    refine Effect.when ?_ ?_
    · exact Effect.refl _ _ _
    · intro u4
      try beta_reduce
      refine Effect.after (State.modLane_effect ..) (by decide +kernel) ?_
      exact Effect.refl _ _ _
  try clear_value x2
  try clear_value x1
  refine Effect.after (State.wr_effect ..) (by decide +kernel) ?_
  exact h3

def State.sweepDone_touch : List Part := [.lanes]
def State.sweepDone_fields : Option (List Field) := some [Reg.LANE_STATUS.STATE, Reg.LANE_EVENT.READY]
theorem State.sweepDone_effect (s : State) (p1 : Nat) :
    Effect State.sweepDone_touch State.sweepDone_fields s (@State.sweepDone s p1) := by
  unfold State.sweepDone
  extract_lets x1
  have h2 : Effect State.sweepDone_touch State.sweepDone_fields s x1 := by
    refine Effect.after (State.showLane_effect ..) (by decide +kernel) ?_
    refine Effect.when ?_ ?_
    · exact Effect.refl _ _ _
    · intro u3
      try beta_reduce
      refine Effect.after (State.modLane_effect ..) (by decide +kernel) ?_
      exact Effect.refl _ _ _
  try clear_value x1
  refine Effect.when ?_ ?_
  · exact h2
  · intro u5
    try beta_reduce
    refine Effect.after (State.wr_effect ..) (by decide +kernel) ?_
    exact Effect.refl _ _ _

def State.armOutTick_touch : List Part := [.arms]
def State.armOutTick_fields : Option (List Field) := some []
theorem State.armOutTick_effect (s : State) :
    Effect State.armOutTick_touch State.armOutTick_fields s (@State.armOutTick s) := by
  unfold State.armOutTick
  refine Effect.each ?_ ?_
  · exact Effect.refl _ _ _
  · intro u1 a2
    try beta_reduce
    refine Effect.ite ?_ ?_
    · refine Effect.after (State.modArm_effect ..) (by decide +kernel) ?_
      exact Effect.refl _ _ _
    · exact Effect.refl _ _ _

def State.applySar_touch : List Part := [.adc]
def State.applySar_fields : Option (List Field) := some [Reg.ADC_SEQ_BURST.START, Reg.ADC_SEQ_BURST.LENGTH]
theorem State.applySar_effect (s : State) (p1 : Nat) (p2 : AdcStaged) :
    Effect State.applySar_touch State.applySar_fields s (@State.applySar s p1 p2) := by
  unfold State.applySar
  extract_lets x1 x2 x3 x4
  have h5 : Effect State.applySar_touch State.applySar_fields s x3 := by
    refine Effect.each ?_ ?_
    · exact Effect.refl _ _ _
    · intro u6 a7
      try beta_reduce
      extract_lets x8 x9
      have h10 : Effect State.applySar_touch State.applySar_fields u6 x8 := by
        refine Effect.when ?_ ?_
        · exact Effect.refl _ _ _
        · intro u11
          try beta_reduce
          refine Effect.after (State.modSar_effect ..) (by decide +kernel) ?_
          exact Effect.refl _ _ _
      try clear_value x8
      try clear_value x9
      refine Effect.when ?_ ?_
      · exact h10
      · intro u13
        try beta_reduce
        refine Effect.after (State.modSar_effect ..) (by decide +kernel) ?_
        exact Effect.refl _ _ _
  try clear_value x3
  have h15 : Effect State.applySar_touch State.applySar_fields s x4 := by
    refine Effect.after (State.modSar_effect ..) (by decide +kernel) ?_
    exact h5
  try clear_value x4
  try clear_value x1
  refine Effect.after (State.planBurst_effect ..) (by decide +kernel) ?_
  exact h15

def State.showCommit_touch : List Part := []
def State.showCommit_fields : Option (List Field) := some [Reg.ADC_CTRL.COMMIT]
theorem State.showCommit_effect (s : State) :
    Effect State.showCommit_touch State.showCommit_fields s (@State.showCommit s) := by
  unfold State.showCommit
  refine Effect.after (State.wr_effect ..) (by decide +kernel) ?_
  exact Effect.refl _ _ _

def State.adcCommit_touch : List Part := [.adc]
def State.adcCommit_fields : Option (List Field) := some [Reg.ADC_CTRL.COMMIT, Reg.ADC_EVENT.CFG_REFUSED, Reg.ADC_IN_CFG.GAIN, Reg.ADC_IN_CFG.EN, Reg.ADC_SEQ_BURST.START, Reg.ADC_SEQ_BURST.LENGTH, Reg.ADC_ENTRY_CFG.INPUT, Reg.ADC_ENTRY_CFG.ACQ, Reg.ADC_ENTRY_CFG.SHIFT, Reg.ADC_ENTRY_CFG.WIN_EN, Reg.ADC_ENTRY_SCALE.VALUE, Reg.ADC_ENTRY_OFFSET.VALUE, Reg.ADC_ENTRY_WIN_HI.VALUE, Reg.ADC_ENTRY_WIN_LO.VALUE, Reg.ADC_DS_CFG.ORDER, Reg.ADC_DS_CFG.LOG2R, Reg.ADC_DS_CFG.SHIFT, Reg.ADC_DS_SCALE.VALUE, Reg.ADC_DS_OFFSET.VALUE]
theorem State.adcCommit_effect (s : State) :
    Effect State.adcCommit_touch State.adcCommit_fields s (@State.adcCommit s) := by
  unfold State.adcCommit
  extract_lets x1 x2 x3 x4 x5 x6 x7 x8 x9
  have h10 : Effect State.adcCommit_touch State.adcCommit_fields s x3 := by
    refine Effect.each ?_ ?_
    · exact Effect.refl _ _ _
    · intro u11 a12
      try beta_reduce
      extract_lets x13
      try clear_value x13
      refine Effect.after (State.writeSar_effect ..) (by decide +kernel) ?_
      exact Effect.refl _ _ _
  try clear_value x3
  have h14 : Effect State.adcCommit_touch State.adcCommit_fields s x4 := by
    refine Effect.each ?_ ?_
    · exact h10
    · intro u15 a16
      try beta_reduce
      refine Effect.after (State.writeDs_effect ..) (by decide +kernel) ?_
      exact Effect.refl _ _ _
  try clear_value x4
  have h17 : Effect State.adcCommit_touch State.adcCommit_fields s x7 := by
    refine Effect.after (Effect.adc _ _) (by decide +kernel) ?_
    exact Effect.refl _ _ _
  try clear_value x7
  have h18 : Effect State.adcCommit_touch State.adcCommit_fields s x8 := by
    refine Effect.each ?_ ?_
    · exact h17
    · intro u19 a20
      try beta_reduce
      extract_lets x21 x22
      have h23 : Effect State.adcCommit_touch State.adcCommit_fields u19 x22 := by
        refine Effect.after (State.modSar_effect ..) (by decide +kernel) ?_
        exact Effect.refl _ _ _
      try clear_value x22
      try clear_value x21
      refine Effect.ite ?_ ?_
      · refine Effect.after (State.modSar_effect ..) (by decide +kernel) ?_
        exact h23
      · refine Effect.after (State.applySar_effect ..) (by decide +kernel) ?_
        exact h23
  try clear_value x8
  have h24 : Effect State.adcCommit_touch State.adcCommit_fields s x9 := by
    refine Effect.each ?_ ?_
    · exact h18
    · intro u25 a26
      try beta_reduce
      extract_lets x27
      try clear_value x27
      refine Effect.ite ?_ ?_
      · refine Effect.after (State.modDs_effect ..) (by decide +kernel) ?_
        exact Effect.refl _ _ _
      · refine Effect.after (State.modDs_effect ..) (by decide +kernel) ?_
        exact Effect.refl _ _ _
  try clear_value x9
  try clear_value x1 x2 x5 x6
  refine Effect.ite ?_ ?_
  · refine Effect.after (State.wr_effect ..) (by decide +kernel) ?_
    exact h14
  · refine Effect.after (State.showCommit_effect ..) (by decide +kernel) ?_
    exact h24

def State.hkPost_touch : List Part := [.adc]
def State.hkPost_fields : Option (List Field) := some []
theorem State.hkPost_effect (s : State) :
    Effect State.hkPost_touch State.hkPost_fields s (@State.hkPost s) := by
  unfold State.hkPost
  extract_lets x1 x2
  try clear_value x2
  refine Effect.after (Effect.adc _ _) (by decide +kernel) ?_
  exact Effect.refl _ _ _

def State.clearDrvCounts_touch : List Part := []
def State.clearDrvCounts_fields : Option (List Field) := some [Reg.DRV_LEG_COUNT.SUPPRESSED, Reg.DRV_LEG_COUNT.FULL_ON, Reg.DRV_LEG_COUNT.INTERLOCK, Reg.DRV_TRIP.COUNT]
theorem State.clearDrvCounts_effect (s : State) (p1 : Nat) :
    Effect State.clearDrvCounts_touch State.clearDrvCounts_fields s (@State.clearDrvCounts s p1) := by
  unfold State.clearDrvCounts
  extract_lets x1
  have h2 : Effect State.clearDrvCounts_touch State.clearDrvCounts_fields s x1 := by
    refine Effect.each ?_ ?_
    · exact Effect.refl _ _ _
    · intro u3 a4
      try beta_reduce
      refine Effect.after (State.wr_effect ..) (by decide +kernel) ?_
      refine Effect.after (State.wr_effect ..) (by decide +kernel) ?_
      refine Effect.after (State.wr_effect ..) (by decide +kernel) ?_
      exact Effect.refl _ _ _
  try clear_value x1
  refine Effect.after (State.wr_effect ..) (by decide +kernel) ?_
  exact h2

def State.modDrv_touch : List Part := [.drives]
def State.modDrv_fields : Option (List Field) := some []
theorem State.modDrv_effect (s : State) (p1 : Nat) (p2 : DrvSt → DrvSt) :
    Effect State.modDrv_touch State.modDrv_fields s (@State.modDrv s p1 p2) := by
  unfold State.modDrv
  refine Effect.after (Effect.drives _ _ _) (by decide +kernel) ?_
  exact Effect.refl _ _ _

def State.modLeg_touch : List Part := [.drives]
def State.modLeg_fields : Option (List Field) := some []
theorem State.modLeg_effect (s : State) (p1 : Nat) (p2 : Nat) (p3 : LegSt → LegSt) :
    Effect State.modLeg_touch State.modLeg_fields s (@State.modLeg s p1 p2 p3) := by
  unfold State.modLeg
  refine Effect.after (State.modDrv_effect ..) (by decide +kernel) ?_
  exact Effect.refl _ _ _

def State.driveLeg_touch : List Part := [.drives]
def State.driveLeg_fields : Option (List Field) := some [Reg.DRV_LEG_STATUS.GATES_OFF]
theorem State.driveLeg_effect (s : State) (p1 : Nat) (p2 : Nat) (p3 : Bool) (p4 : Nat) :
    Effect State.driveLeg_touch State.driveLeg_fields s (@State.driveLeg s p1 p2 p3 p4) := by
  unfold State.driveLeg
  extract_lets x1 x2 x3 x4 x5 x6 x7 x8 x9
  have h10 : Effect State.driveLeg_touch State.driveLeg_fields s x9 := by
    refine Effect.after (State.modLeg_effect ..) (by decide +kernel) ?_
    exact Effect.refl _ _ _
  try clear_value x9
  try clear_value x1 x2 x3 x4 x5 x6 x7 x8
  refine Effect.after (State.wr_effect ..) (by decide +kernel) ?_
  exact h10

def State.driveUnit_touch : List Part := [.drives]
def State.driveUnit_fields : Option (List Field) := some [Reg.DRV_LEG_STATUS.GATES_OFF]
theorem State.driveUnit_effect (s : State) (p1 : Nat) :
    Effect State.driveUnit_touch State.driveUnit_fields s (@State.driveUnit s p1) := by
  unfold State.driveUnit
  refine Effect.each ?_ ?_
  · exact Effect.refl _ _ _
  · intro u1 a2
    try beta_reduce
    refine Effect.after (State.driveLeg_effect ..) (by decide +kernel) ?_
    exact Effect.refl _ _ _

def State.showActive_touch : List Part := []
def State.showActive_fields : Option (List Field) := some [Reg.DRV_CARRIER_ACT.TOP, Reg.DRV_LEG_STATUS.CMP_ACT, Reg.DRV_LEG_STATUS.MODE_ACT]
theorem State.showActive_effect (s : State) (p1 : Nat) :
    Effect State.showActive_touch State.showActive_fields s (@State.showActive s p1) := by
  unfold State.showActive
  extract_lets x1 x2
  have h3 : Effect State.showActive_touch State.showActive_fields s x2 := by
    refine Effect.each ?_ ?_
    · exact Effect.refl _ _ _
    · intro u4 a5
      try beta_reduce
      refine Effect.after (State.wr_effect ..) (by decide +kernel) ?_
      refine Effect.after (State.wr_effect ..) (by decide +kernel) ?_
      exact Effect.refl _ _ _
  try clear_value x2
  try clear_value x1
  refine Effect.after (State.wr_effect ..) (by decide +kernel) ?_
  exact h3

def State.showLegFaults_touch : List Part := []
def State.showLegFaults_fields : Option (List Field) := some [Reg.DRV_STATUS.LEG_FAULT, Reg.DRV_LEG_STATUS.DESAT_HS, Reg.DRV_LEG_STATUS.DESAT_LS, Reg.DRV_LEG_STATUS.INSTANT, Reg.DRV_LEG_STATUS.VB_UV]
theorem State.showLegFaults_effect (s : State) (p1 : Nat) :
    Effect State.showLegFaults_touch State.showLegFaults_fields s (@State.showLegFaults s p1) := by
  unfold State.showLegFaults
  extract_lets x1
  have h2 : Effect State.showLegFaults_touch State.showLegFaults_fields s x1 := by
    refine Effect.each ?_ ?_
    · exact Effect.refl _ _ _
    · intro u3 a4
      try beta_reduce
      extract_lets x5 x6
      have h7 : Effect State.showLegFaults_touch State.showLegFaults_fields u3 x6 := by
        refine Effect.after (State.wr_effect ..) (by decide +kernel) ?_
        refine Effect.after (State.wr_effect ..) (by decide +kernel) ?_
        exact Effect.refl _ _ _
      try clear_value x6
      try clear_value x5
      refine Effect.after (State.wr_effect ..) (by decide +kernel) ?_
      refine Effect.after (State.wr_effect ..) (by decide +kernel) ?_
      exact h7
  try clear_value x1
  refine Effect.ite ?_ ?_
  · exact Effect.refl _ _ _
  · refine Effect.after (State.wr_effect ..) (by decide +kernel) ?_
    exact h2

def State.clearLegFaults_touch : List Part := [.drives]
def State.clearLegFaults_fields : Option (List Field) := some [Reg.DRV_STATUS.LEG_FAULT, Reg.DRV_LEG_STATUS.DESAT_HS, Reg.DRV_LEG_STATUS.DESAT_LS, Reg.DRV_LEG_STATUS.INSTANT, Reg.DRV_LEG_STATUS.VB_UV]
theorem State.clearLegFaults_effect (s : State) (p1 : Nat) (p2 : Nat) :
    Effect State.clearLegFaults_touch State.clearLegFaults_fields s (@State.clearLegFaults s p1 p2) := by
  unfold State.clearLegFaults
  extract_lets x1
  try clear_value x1
  refine Effect.ite ?_ ?_
  · exact Effect.refl _ _ _
  · refine Effect.after (State.showLegFaults_effect ..) (by decide +kernel) ?_
    refine Effect.after (State.modLeg_effect ..) (by decide +kernel) ?_
    exact Effect.refl _ _ _

def State.inputEdge_touch : List Part := [.drives]
def State.inputEdge_fields : Option (List Field) := some [Reg.DRV_STATUS.LEG_FAULT, Reg.DRV_LEG_STATUS.DESAT_HS, Reg.DRV_LEG_STATUS.DESAT_LS, Reg.DRV_LEG_STATUS.INSTANT, Reg.DRV_LEG_STATUS.VB_UV, Reg.DRV_LEG_STATUS.GATES_OFF]
theorem State.inputEdge_effect (s : State) (p1 : Nat) (p2 : Nat) (p3 : Nat) :
    Effect State.inputEdge_touch State.inputEdge_fields s (@State.inputEdge s p1 p2 p3) := by
  unfold State.inputEdge
  extract_lets x1 x2 x3
  have h4 : Effect State.inputEdge_touch State.inputEdge_fields s x1 := by
    refine Effect.after (State.clearLegFaults_effect ..) (by decide +kernel) ?_
    exact Effect.refl _ _ _
  try clear_value x1
  have h5 : Effect State.inputEdge_touch State.inputEdge_fields s x2 := by
    refine Effect.when ?_ ?_
    · exact h4
    · intro u6
      try beta_reduce
      refine Effect.after (State.modLeg_effect ..) (by decide +kernel) ?_
      exact Effect.refl _ _ _
  try clear_value x2
  have h8 : Effect State.inputEdge_touch State.inputEdge_fields s x3 := by
    refine Effect.after (State.modLeg_effect ..) (by decide +kernel) ?_
    exact h5
  try clear_value x3
  refine Effect.ite ?_ ?_
  · exact Effect.refl _ _ _
  · refine Effect.after (State.driveLeg_effect ..) (by decide +kernel) ?_
    exact h8

def State.sendEdges_touch : List Part := [.drives]
def State.sendEdges_fields : Option (List Field) := some [Reg.DRV_STATUS.LEG_FAULT, Reg.DRV_LEG_STATUS.DESAT_HS, Reg.DRV_LEG_STATUS.DESAT_LS, Reg.DRV_LEG_STATUS.INSTANT, Reg.DRV_LEG_STATUS.VB_UV, Reg.DRV_LEG_STATUS.GATES_OFF]
theorem State.sendEdges_effect (s : State) (p1 : Nat) (p2 : Nat) :
    Effect State.sendEdges_touch State.sendEdges_fields s (@State.sendEdges s p1 p2) := by
  unfold State.sendEdges
  extract_lets x1 x2 x3 x4 x5
  try clear_value x1 x2 x3 x4 x5
  refine Effect.ite ?_ ?_
  · exact Effect.refl _ _ _
  · refine Effect.after (State.inputEdge_effect ..) (by decide +kernel) ?_
    refine Effect.after (State.modLeg_effect ..) (by decide +kernel) ?_
    exact Effect.refl _ _ _

def State.command_touch : List Part := [.drives]
def State.command_fields : Option (List Field) := some [Reg.DRV_STATUS.LEG_FAULT, Reg.DRV_LEG_STATUS.DESAT_HS, Reg.DRV_LEG_STATUS.DESAT_LS, Reg.DRV_LEG_STATUS.INSTANT, Reg.DRV_LEG_STATUS.VB_UV, Reg.DRV_LEG_STATUS.GATES_OFF]
theorem State.command_effect (s : State) (p1 : Nat) (p2 : Nat) (p3 : Bool) (p4 : Bool) :
    Effect State.command_touch State.command_fields s (@State.command s p1 p2 p3 p4) := by
  unfold State.command
  extract_lets x1 x2 x3
  have h4 : Effect State.command_touch State.command_fields s x3 := by
    refine Effect.after (State.modLeg_effect ..) (by decide +kernel) ?_
    exact Effect.refl _ _ _
  try clear_value x3
  try clear_value x1 x2
  refine Effect.after (State.sendEdges_effect ..) (by decide +kernel) ?_
  exact h4

def State.motGates_touch : List Part := [.drives]
def State.motGates_fields : Option (List Field) := some [Reg.DRV_STATUS.LEG_FAULT, Reg.DRV_CARRIER_ACT.TOP, Reg.DRV_LEG_STATUS.CMP_ACT, Reg.DRV_LEG_STATUS.DESAT_HS, Reg.DRV_LEG_STATUS.DESAT_LS, Reg.DRV_LEG_STATUS.INSTANT, Reg.DRV_LEG_STATUS.VB_UV, Reg.DRV_LEG_STATUS.GATES_OFF, Reg.DRV_LEG_STATUS.MODE_ACT]
theorem State.motGates_effect (s : State) (p1 : Nat) :
    Effect State.motGates_touch State.motGates_fields s (@State.motGates s p1) := by
  unfold State.motGates
  extract_lets x1 x2
  have h3 : Effect State.motGates_touch State.motGates_fields s x2 := by
    refine Effect.when ?_ ?_
    · exact Effect.refl _ _ _
    · intro u4
      try beta_reduce
      refine Effect.each ?_ ?_
      · refine Effect.after (State.modDrv_effect ..) (by decide +kernel) ?_
        exact Effect.refl _ _ _
      · intro u6 a7
        try beta_reduce
        refine Effect.after (State.command_effect ..) (by decide +kernel) ?_
        exact Effect.refl _ _ _
  try clear_value x2
  try clear_value x1
  refine Effect.after (State.showActive_effect ..) (by decide +kernel) ?_
  refine Effect.after (State.driveUnit_effect ..) (by decide +kernel) ?_
  exact h3

def State.latchClear_touch : List Part := [.faults, .drives, .motors]
def State.latchClear_fields : Option (List Field) := some [Reg.COLLECT_STATUS_LO.STATUS, Reg.COLLECT_STATUS_HI.STATUS, Reg.FAULT_COUNT_CORR.COUNT, Reg.FAULT_COUNT_CONT.COUNT, Reg.FAULT_COUNT_FATAL.COUNT, Reg.FAULT_EVENT.CORRECTED, Reg.FAULT_EVENT.CONTAINED, Reg.FAULT_EVENT.FATAL, Reg.FAULT_EVENT.HIST_LOST, Reg.FAULT_HIST_STATUS.LOST, Reg.DRV_STATUS.LATCHED, Reg.DRV_STATUS.LATCH_CAUSE, Reg.DRV_STATUS.LEG_FAULT, Reg.DRV_CARRIER_ACT.TOP, Reg.DRV_LEG_STATUS.CMP_ACT, Reg.DRV_LEG_STATUS.DESAT_HS, Reg.DRV_LEG_STATUS.DESAT_LS, Reg.DRV_LEG_STATUS.INSTANT, Reg.DRV_LEG_STATUS.VB_UV, Reg.DRV_LEG_STATUS.GATES_OFF, Reg.DRV_LEG_STATUS.MODE_ACT, Reg.DRV_EVENT.CLEAR_REFUSED, Reg.MOT_STATE.STATE, Reg.MOT_STATE.CHOP_FAULT, Reg.MOT_EVENT.STATE, Reg.MOT_EVENT.OBS_LOST]
theorem State.latchClear_effect (s : State) (p1 : Nat) :
    Effect State.latchClear_touch State.latchClear_fields s (@State.latchClear s p1) := by
  unfold State.latchClear
  extract_lets x1 x2 x3 x4 x5
  have h6 : Effect State.latchClear_touch State.latchClear_fields s x3 := by
    refine Effect.after (State.wr_effect ..) (by decide +kernel) ?_
    refine Effect.after (State.wr_effect ..) (by decide +kernel) ?_
    exact Effect.refl _ _ _
  try clear_value x3
  have h7 : Effect State.latchClear_touch State.latchClear_fields s x4 := by
    refine Effect.after (State.wr_effect ..) (by decide +kernel) ?_
    refine Effect.after (State.modDrv_effect ..) (by decide +kernel) ?_
    exact h6
  try clear_value x4
  have h8 : Effect State.latchClear_touch State.latchClear_fields s x5 := by
    refine Effect.after (State.driveUnit_effect ..) (by decide +kernel) ?_
    exact h7
  try clear_value x5
  try clear_value x1 x2
  refine Effect.ite ?_ ?_
  · exact Effect.refl _ _ _
  · refine Effect.ite ?_ ?_
    · refine Effect.after (State.wr_effect ..) (by decide +kernel) ?_
      exact Effect.refl _ _ _
    · refine Effect.after (State.showActive_effect ..) (by decide +kernel) ?_
      refine Effect.when ?_ ?_
      · exact h8
      · intro u9
        try beta_reduce
        refine Effect.after (State.motGates_effect ..) (by decide +kernel) ?_
        refine Effect.after (State.motTo_effect ..) (by decide +kernel) ?_
        exact Effect.refl _ _ _

def State.drvCtrlWrite_touch : List Part := [.faults, .drives, .motors]
def State.drvCtrlWrite_fields : Option (List Field) := some [Reg.COLLECT_STATUS_LO.STATUS, Reg.COLLECT_STATUS_HI.STATUS, Reg.FAULT_COUNT_CORR.COUNT, Reg.FAULT_COUNT_CONT.COUNT, Reg.FAULT_COUNT_FATAL.COUNT, Reg.FAULT_EVENT.CORRECTED, Reg.FAULT_EVENT.CONTAINED, Reg.FAULT_EVENT.FATAL, Reg.FAULT_EVENT.HIST_LOST, Reg.FAULT_HIST_STATUS.LOST, Reg.DRV_CTRL.MODE, Reg.DRV_STATUS.LATCHED, Reg.DRV_STATUS.LATCH_CAUSE, Reg.DRV_STATUS.LEG_FAULT, Reg.DRV_CARRIER_ACT.TOP, Reg.DRV_LEG_STATUS.CMP_ACT, Reg.DRV_LEG_STATUS.DESAT_HS, Reg.DRV_LEG_STATUS.DESAT_LS, Reg.DRV_LEG_STATUS.INSTANT, Reg.DRV_LEG_STATUS.VB_UV, Reg.DRV_LEG_STATUS.GATES_OFF, Reg.DRV_LEG_STATUS.MODE_ACT, Reg.DRV_LEG_COUNT.SUPPRESSED, Reg.DRV_LEG_COUNT.FULL_ON, Reg.DRV_LEG_COUNT.INTERLOCK, Reg.DRV_TRIP.COUNT, Reg.DRV_EVENT.CLEAR_REFUSED, Reg.MOT_STATE.STATE, Reg.MOT_STATE.CHOP_FAULT, Reg.MOT_EVENT.STATE, Reg.MOT_EVENT.OBS_LOST]
theorem State.drvCtrlWrite_effect (s : State) (p1 : Nat) (p2 : Nat) :
    Effect State.drvCtrlWrite_touch State.drvCtrlWrite_fields s (@State.drvCtrlWrite s p1 p2) := by
  unfold State.drvCtrlWrite
  extract_lets x1 x2
  have h3 : Effect State.drvCtrlWrite_touch State.drvCtrlWrite_fields s x1 := by
    refine Effect.after (State.wr_effect ..) (by decide +kernel) ?_
    exact Effect.refl _ _ _
  try clear_value x1
  have h4 : Effect State.drvCtrlWrite_touch State.drvCtrlWrite_fields s x2 := by
    refine Effect.when ?_ ?_
    · exact h3
    · intro u5
      try beta_reduce
      refine Effect.after (State.clearDrvCounts_effect ..) (by decide +kernel) ?_
      exact Effect.refl _ _ _
  try clear_value x2
  refine Effect.ite ?_ ?_
  · exact Effect.refl _ _ _
  · refine Effect.when ?_ ?_
    · exact h4
    · intro u7
      try beta_reduce
      refine Effect.after (State.latchClear_effect ..) (by decide +kernel) ?_
      exact Effect.refl _ _ _

def State.modLoad_touch : List Part := [.load]
def State.modLoad_fields : Option (List Field) := some []
theorem State.modLoad_effect (s : State) (p1 : LoadSt → LoadSt) :
    Effect State.modLoad_touch State.modLoad_fields s (@State.modLoad s p1) := by
  unfold State.modLoad
  refine Effect.after (Effect.load _ _) (by decide +kernel) ?_
  exact Effect.refl _ _ _

def State.dramGone_touch : List Part := [.faults, .load]
def State.dramGone_fields : Option (List Field) := some [Reg.DOMAIN_STATE.DRAM_ACTIVE, Reg.COLLECT_STATUS_LO.STATUS, Reg.COLLECT_STATUS_HI.STATUS, Reg.FAULT_COUNT_CORR.COUNT, Reg.FAULT_COUNT_CONT.COUNT, Reg.FAULT_COUNT_FATAL.COUNT, Reg.FAULT_EVENT.CORRECTED, Reg.FAULT_EVENT.CONTAINED, Reg.FAULT_EVENT.FATAL, Reg.FAULT_EVENT.HIST_LOST, Reg.FAULT_HIST_STATUS.LOST]
theorem State.dramGone_effect (s : State) :
    Effect State.dramGone_touch State.dramGone_fields s (@State.dramGone s) := by
  unfold State.dramGone
  refine Effect.after (State.raise_effect ..) (by decide +kernel) ?_
  refine Effect.after (State.wr_effect ..) (by decide +kernel) ?_
  refine Effect.after (State.modLoad_effect ..) (by decide +kernel) ?_
  exact Effect.refl _ _ _

def State.showRefusal_touch : List Part := []
def State.showRefusal_fields : Option (List Field) := some [Reg.IMAGE_STATUS.CODE, Reg.IMAGE_ERR_SECTION.INDEX, Reg.IMAGE_ERR_SECTION.TYPE, Reg.IMAGE_ERR_OFFSET.OFFSET]
theorem State.showRefusal_effect (s : State) (p1 : Nat) (p2 : Nat) (p3 : Nat) (p4 : Nat) :
    Effect State.showRefusal_touch State.showRefusal_fields s (@State.showRefusal s p1 p2 p3 p4) := by
  unfold State.showRefusal
  extract_lets x1
  have h2 : Effect State.showRefusal_touch State.showRefusal_fields s x1 := by
    refine Effect.after (State.wr_effect ..) (by decide +kernel) ?_
    refine Effect.after (State.wr_effect ..) (by decide +kernel) ?_
    exact Effect.refl _ _ _
  try clear_value x1
  refine Effect.after (State.wr_effect ..) (by decide +kernel) ?_
  refine Effect.after (State.wr_effect ..) (by decide +kernel) ?_
  exact h2

def State.endRefused_touch : List Part := [.power, .host, .load, .fr]
def State.endRefused_fields : Option (List Field) := some [Reg.FRAME_STATUS.RUNNING, Reg.IMAGE_STATUS.STATE, Reg.IMAGE_STATUS.CODE, Reg.IMAGE_ERR_SECTION.INDEX, Reg.IMAGE_ERR_SECTION.TYPE, Reg.IMAGE_ERR_OFFSET.OFFSET, Reg.IMAGE_EVENT.DONE]
theorem State.endRefused_effect (s : State) (p1 : Nat) (p2 : Nat) (p3 : Nat) (p4 : Nat) :
    Effect State.endRefused_touch State.endRefused_fields s (@State.endRefused s p1 p2 p3 p4) := by
  unfold State.endRefused
  extract_lets x1 x2 x3 x4
  have h5 : Effect State.endRefused_touch State.endRefused_fields s x1 := by
    refine Effect.after (State.wr_effect ..) (by decide +kernel) ?_
    refine Effect.after (State.wr_effect ..) (by decide +kernel) ?_
    refine Effect.after (State.showRefusal_effect ..) (by decide +kernel) ?_
    exact Effect.refl _ _ _
  try clear_value x1
  have h6 : Effect State.endRefused_touch State.endRefused_fields s x2 := by
    refine Effect.after (State.modFr_effect ..) (by decide +kernel) ?_
    refine Effect.after (State.wr_effect ..) (by decide +kernel) ?_
    exact h5
  try clear_value x2
  have h7 : Effect State.endRefused_touch State.endRefused_fields s x3 := by
    refine Effect.after (State.modLoad_effect ..) (by decide +kernel) ?_
    exact h6
  try clear_value x3
  have h8 : Effect State.endRefused_touch State.endRefused_fields s x4 := by
    refine Effect.when ?_ ?_
    · exact h7
    · intro u9
      try beta_reduce
      extract_lets x11
      try clear_value x11
      refine Effect.after (Effect.host _ _) (by decide +kernel) ?_
      exact Effect.refl _ _ _
  try clear_value x4
  refine Effect.after (State.modPower_effect ..) (by decide +kernel) ?_
  exact h8

def State.dramFailure_touch : List Part := [.power, .faults, .host, .load, .fr]
def State.dramFailure_fields : Option (List Field) := some [Reg.DOMAIN_STATE.DRAM_ACTIVE, Reg.COLLECT_STATUS_LO.STATUS, Reg.COLLECT_STATUS_HI.STATUS, Reg.FAULT_COUNT_CORR.COUNT, Reg.FAULT_COUNT_CONT.COUNT, Reg.FAULT_COUNT_FATAL.COUNT, Reg.FAULT_EVENT.CORRECTED, Reg.FAULT_EVENT.CONTAINED, Reg.FAULT_EVENT.FATAL, Reg.FAULT_EVENT.HIST_LOST, Reg.FAULT_HIST_STATUS.LOST, Reg.FRAME_STATUS.RUNNING, Reg.IMAGE_STATUS.STATE, Reg.IMAGE_STATUS.CODE, Reg.IMAGE_ERR_SECTION.INDEX, Reg.IMAGE_ERR_SECTION.TYPE, Reg.IMAGE_ERR_OFFSET.OFFSET, Reg.IMAGE_EVENT.DONE]
theorem State.dramFailure_effect (s : State) :
    Effect State.dramFailure_touch State.dramFailure_fields s (@State.dramFailure s) := by
  unfold State.dramFailure
  extract_lets x1
  have h2 : Effect State.dramFailure_touch State.dramFailure_fields s x1 := by
    refine Effect.after (State.dramGone_effect ..) (by decide +kernel) ?_
    exact Effect.refl _ _ _
  try clear_value x1
  refine Effect.ite ?_ ?_
  · exact Effect.refl _ _ _
  · refine Effect.ite ?_ ?_
    · refine Effect.after (State.endRefused_effect ..) (by decide +kernel) ?_
      refine Effect.after (State.modLoad_effect ..) (by decide +kernel) ?_
      exact h2
    · exact h2

def State.drvDue_touch : List Part := [.drives]
def State.drvDue_fields : Option (List Field) := some [Reg.DRV_STATUS.LEG_FAULT, Reg.DRV_LEG_STATUS.DESAT_HS, Reg.DRV_LEG_STATUS.DESAT_LS, Reg.DRV_LEG_STATUS.INSTANT, Reg.DRV_LEG_STATUS.VB_UV, Reg.DRV_LEG_STATUS.GATES_OFF]
theorem State.drvDue_effect (s : State) (p1 : Nat) :
    Effect State.drvDue_touch State.drvDue_fields s (@State.drvDue s p1) := by
  unfold State.drvDue
  extract_lets x1
  have h2 : Effect State.drvDue_touch State.drvDue_fields s x1 := by
    unfold x1
    split
    · refine Effect.ite ?_ ?_
      · refine Effect.each ?_ ?_
        · refine Effect.after (State.modDrv_effect ..) (by decide +kernel) ?_
          exact Effect.refl _ _ _
        · intro u3 a4
          try beta_reduce
          refine Effect.after (State.command_effect ..) (by decide +kernel) ?_
          exact Effect.refl _ _ _
      · exact Effect.refl _ _ _
    · exact Effect.refl _ _ _
  try clear_value x1
  refine Effect.each ?_ ?_
  · exact h2
  · intro u5 a6
    try beta_reduce
    refine Effect.after (State.sendEdges_effect ..) (by decide +kernel) ?_
    exact Effect.refl _ _ _

def State.showInputs_touch : List Part := []
def State.showInputs_fields : Option (List Field) := some [Reg.DRV_LEG_STATUS.INPUT_ACTIVE]
theorem State.showInputs_effect (s : State) (p1 : Nat) :
    Effect State.showInputs_touch State.showInputs_fields s (@State.showInputs s p1) := by
  unfold State.showInputs
  extract_lets x1
  try clear_value x1
  refine Effect.each ?_ ?_
  · exact Effect.refl _ _ _
  · intro u2 a3
    try beta_reduce
    refine Effect.after (State.wr_effect ..) (by decide +kernel) ?_
    exact Effect.refl _ _ _

def State.seeInputs_touch : List Part := [.drives]
def State.seeInputs_fields : Option (List Field) := some [Reg.DRV_LEG_STATUS.INPUT_ACTIVE]
theorem State.seeInputs_effect (s : State) (p1 : Nat) (p2 : Nat) :
    Effect State.seeInputs_touch State.seeInputs_fields s (@State.seeInputs s p1 p2) := by
  unfold State.seeInputs
  extract_lets x1
  have h2 : Effect State.seeInputs_touch State.seeInputs_fields s x1 := by
    refine Effect.after (State.modDrv_effect ..) (by decide +kernel) ?_
    exact Effect.refl _ _ _
  try clear_value x1
  refine Effect.ite ?_ ?_
  · exact Effect.refl _ _ _
  · refine Effect.when ?_ ?_
    · exact h2
    · intro u3
      try beta_reduce
      refine Effect.after (State.showInputs_effect ..) (by decide +kernel) ?_
      exact Effect.refl _ _ _

def State.drvSees_touch : List Part := [.drives]
def State.drvSees_fields : Option (List Field) := some [Reg.DRV_STATUS.LEG_FAULT, Reg.DRV_LEG_STATUS.DESAT_HS, Reg.DRV_LEG_STATUS.DESAT_LS, Reg.DRV_LEG_STATUS.INSTANT, Reg.DRV_LEG_STATUS.VB_UV, Reg.DRV_LEG_STATUS.INPUT_ACTIVE, Reg.DRV_LEG_STATUS.GATES_OFF]
theorem State.drvSees_effect (s : State) (p1 : DrvIn) :
    Effect State.drvSees_touch State.drvSees_fields s (@State.drvSees s p1) := by
  unfold State.drvSees
  refine Effect.after (State.drvDue_effect ..) (by decide +kernel) ?_
  refine Effect.after (State.seeInputs_effect ..) (by decide +kernel) ?_
  exact Effect.refl _ _ _

def State.showDown_touch : List Part := []
def State.showDown_fields : Option (List Field) := some [Reg.LANE_SEGDOWN_LO.DOWN, Reg.LANE_SEGDOWN_HI.DOWN]
theorem State.showDown_effect (s : State) (p1 : Nat) :
    Effect State.showDown_touch State.showDown_fields s (@State.showDown s p1) := by
  unfold State.showDown
  extract_lets x1
  try clear_value x1
  refine Effect.after (State.wr_effect ..) (by decide +kernel) ?_
  refine Effect.after (State.wr_effect ..) (by decide +kernel) ?_
  exact Effect.refl _ _ _

def State.modChain_touch : List Part := [.chains]
def State.modChain_fields : Option (List Field) := some []
theorem State.modChain_effect (s : State) (p1 : Nat) (p2 : ChainSt → ChainSt) :
    Effect State.modChain_touch State.modChain_fields s (@State.modChain s p1 p2) := by
  unfold State.modChain
  refine Effect.after (Effect.chains _ _ _) (by decide +kernel) ?_
  exact Effect.refl _ _ _

def State.moveSplit_touch : List Part := [.chains]
def State.moveSplit_fields : Option (List Field) := some [Reg.LANE_STATUS.MOVING, Reg.LANE_EVENT.MOVE]
theorem State.moveSplit_effect (s : State) (p1 : Nat) (p2 : Nat × Nat) :
    Effect State.moveSplit_touch State.moveSplit_fields s (@State.moveSplit s p1 p2) := by
  unfold State.moveSplit
  extract_lets x1
  have h2 : Effect State.moveSplit_touch State.moveSplit_fields s x1 := by
    refine Effect.after (State.modChain_effect ..) (by decide +kernel) ?_
    exact Effect.refl _ _ _
  try clear_value x1
  refine Effect.ite ?_ ?_
  · exact Effect.refl _ _ _
  · refine Effect.after (State.wr_effect ..) (by decide +kernel) ?_
    refine Effect.after (State.wr_effect ..) (by decide +kernel) ?_
    exact h2

def State.restore_touch : List Part := [.lanes, .chains]
def State.restore_fields : Option (List Field) := some [Reg.LANE_STATUS.STATE, Reg.LANE_STATUS.MOVING, Reg.LANE_SEGDOWN_LO.DOWN, Reg.LANE_SEGDOWN_HI.DOWN, Reg.LANE_EVENT.MOVE]
theorem State.restore_effect (s : State) (p1 : ChainCfg) :
    Effect State.restore_touch State.restore_fields s (@State.restore s p1) := by
  unfold State.restore
  extract_lets x1 x2 x3
  have h4 : Effect State.restore_touch State.restore_fields s x1 := by
    refine Effect.after (State.showDown_effect ..) (by decide +kernel) ?_
    refine Effect.after (State.modChain_effect ..) (by decide +kernel) ?_
    exact Effect.refl _ _ _
  try clear_value x1
  have h5 : Effect State.restore_touch State.restore_fields s x2 := by
    refine Effect.after (State.modLane_effect ..) (by decide +kernel) ?_
    exact h4
  try clear_value x2
  have h6 : Effect State.restore_touch State.restore_fields s x3 := by
    refine Effect.after (State.modLane_effect ..) (by decide +kernel) ?_
    exact h5
  try clear_value x3
  refine Effect.after (State.showLane_effect ..) (by decide +kernel) ?_
  refine Effect.after (State.showLane_effect ..) (by decide +kernel) ?_
  refine Effect.after (State.moveSplit_effect ..) (by decide +kernel) ?_
  exact h6

def State.showSummary_touch : List Part := []
def State.showSummary_fields : Option (List Field) := some [Reg.ARM_STATUS.FLAGS, Reg.ARM_STATUS.ACTIVE, Reg.ARM_LEVEL.N_FULL, Reg.ARM_LEVEL.N_NL, Reg.ARM_TRIM.FRAC, Reg.ARM_TRIM.TRIM, Reg.ARM_PTR.PTR, Reg.ARM_PTR.ELIGIBLE, Reg.ARM_SHORT.SHORT, Reg.ARM_SHORT.FRAMES, Reg.ARM_DWELL.MOVED, Reg.ARM_DWELL.DEFERRED, Reg.ARM_SWITCHED.LAST, Reg.ARM_TJ.TJ_MAX, Reg.ARM_TJ.TJ_MEAN, Reg.ARM_TJ_CELL.CELL, Reg.ARM_IARM.I, Reg.ARM_VREF.V]
theorem State.showSummary_effect (s : State) (p1 : Nat) (p2 : Summary) :
    Effect State.showSummary_touch State.showSummary_fields s (@State.showSummary s p1 p2) := by
  unfold State.showSummary
  extract_lets x1 x2 x3 x4 x5 x6 x7 x8 x9
  have h10 : Effect State.showSummary_touch State.showSummary_fields s x1 := by
    refine Effect.after (State.wr_effect ..) (by decide +kernel) ?_
    refine Effect.after (State.wr_effect ..) (by decide +kernel) ?_
    exact Effect.refl _ _ _
  try clear_value x1
  have h11 : Effect State.showSummary_touch State.showSummary_fields s x2 := by
    refine Effect.after (State.wr_effect ..) (by decide +kernel) ?_
    refine Effect.after (State.wr_effect ..) (by decide +kernel) ?_
    exact h10
  try clear_value x2
  have h12 : Effect State.showSummary_touch State.showSummary_fields s x3 := by
    refine Effect.after (State.wr_effect ..) (by decide +kernel) ?_
    refine Effect.after (State.wr_effect ..) (by decide +kernel) ?_
    exact h11
  try clear_value x3
  have h13 : Effect State.showSummary_touch State.showSummary_fields s x4 := by
    refine Effect.after (State.wr_effect ..) (by decide +kernel) ?_
    refine Effect.after (State.wr_effect ..) (by decide +kernel) ?_
    exact h12
  try clear_value x4
  have h14 : Effect State.showSummary_touch State.showSummary_fields s x5 := by
    refine Effect.after (State.wr_effect ..) (by decide +kernel) ?_
    exact h13
  try clear_value x5
  have h15 : Effect State.showSummary_touch State.showSummary_fields s x6 := by
    refine Effect.when ?_ ?_
    · exact h14
    · intro u16
      try beta_reduce
      refine Effect.after (State.bump_effect ..) (by decide +kernel) ?_
      exact Effect.refl _ _ _
  try clear_value x6
  have h18 : Effect State.showSummary_touch State.showSummary_fields s x7 := by
    refine Effect.after (State.bump_effect ..) (by decide +kernel) ?_
    refine Effect.after (State.bump_effect ..) (by decide +kernel) ?_
    exact h15
  try clear_value x7
  have h19 : Effect State.showSummary_touch State.showSummary_fields s x8 := by
    refine Effect.after (State.wr_effect ..) (by decide +kernel) ?_
    exact h18
  try clear_value x8
  have h20 : Effect State.showSummary_touch State.showSummary_fields s x9 := by
    refine Effect.after (State.wr_effect ..) (by decide +kernel) ?_
    refine Effect.after (State.wr_effect ..) (by decide +kernel) ?_
    refine Effect.after (State.wr_effect ..) (by decide +kernel) ?_
    exact h19
  try clear_value x9
  refine Effect.after (State.wrS_effect ..) (by decide +kernel) ?_
  refine Effect.after (State.wrS_effect ..) (by decide +kernel) ?_
  exact h20

def State.waitEdges_touch : List Part := [.drives]
def State.waitEdges_fields : Option (List Field) := some []
theorem State.waitEdges_effect (s : State) (p1 : Nat) :
    Effect State.waitEdges_touch State.waitEdges_fields s (@State.waitEdges s p1) := by
  unfold State.waitEdges
  refine Effect.each ?_ ?_
  · exact Effect.refl _ _ _
  · intro u1 a2
    try beta_reduce
    refine Effect.after (State.modLeg_effect ..) (by decide +kernel) ?_
    exact Effect.refl _ _ _

def State.linkLost_touch : List Part := [.drives]
def State.linkLost_fields : Option (List Field) := some [Reg.DOMAIN_STATE.DRV_LINK, Reg.DRV_STATUS.LINK, Reg.DRV_LEG_STATUS.GATES_OFF, Reg.DRV_EVENT.LINK]
theorem State.linkLost_effect (s : State) (p1 : Nat) :
    Effect State.linkLost_touch State.linkLost_fields s (@State.linkLost s p1) := by
  unfold State.linkLost
  extract_lets x1
  have h2 : Effect State.linkLost_touch State.linkLost_fields s x1 := by
    refine Effect.after (State.wrBit_effect ..) (by decide +kernel) ?_
    refine Effect.after (State.wr_effect ..) (by decide +kernel) ?_
    exact Effect.refl _ _ _
  try clear_value x1
  refine Effect.ite ?_ ?_
  · exact Effect.refl _ _ _
  · refine Effect.after (State.driveUnit_effect ..) (by decide +kernel) ?_
    refine Effect.after (State.waitEdges_effect ..) (by decide +kernel) ?_
    refine Effect.after (State.wr_effect ..) (by decide +kernel) ?_
    exact h2

def State.giveBall_touch : List Part := [.power, .fr, .engs, .referee]
def State.giveBall_fields : Option (List Field) := some [Reg.DOMAIN_STATE.PLANE_A, Reg.DOMAIN_STATE.PLANE_B, Reg.POWER_PGOOD.PGOOD, Reg.REF_STATUS.STATE, Reg.REF_STATUS.HOLDER, Reg.REF_STATUS.ROLE_A, Reg.REF_STATUS.ROLE_B, Reg.REF_STATUS.LEASE, Reg.REF_EVENT.UNFIT, Reg.PLAN_LEVEL.STATIC, Reg.PLAN_FORECAST.ENG_NEED, Reg.PLAN_FORECAST.FAB_NEED, Reg.ENG_STATUS.BALL, Reg.ENG_STATUS.SHADOW, Reg.ENG_STATUS.COLD, Reg.ENG_EXPORT.VALUE]
theorem State.giveBall_effect (s : State) (p1 : Nat) :
    Effect State.giveBall_touch State.giveBall_fields s (@State.giveBall s p1) := by
  unfold State.giveBall
  extract_lets x1 x2 x3
  have h4 : Effect State.giveBall_touch State.giveBall_fields s x1 := by
    refine Effect.after (State.wr_effect ..) (by decide +kernel) ?_
    refine Effect.after (State.wr_effect ..) (by decide +kernel) ?_
    refine Effect.after (State.setRole_effect ..) (by decide +kernel) ?_
    exact Effect.refl _ _ _
  try clear_value x1
  have h5 : Effect State.giveBall_touch State.giveBall_fields s x2 := by
    refine Effect.after (State.wr_effect ..) (by decide +kernel) ?_
    exact h4
  try clear_value x2
  have h6 : Effect State.giveBall_touch State.giveBall_fields s x3 := by
    refine Effect.after (State.modRef_effect ..) (by decide +kernel) ?_
    exact h5
  try clear_value x3
  refine Effect.after (State.emptyHistory_effect ..) (by decide +kernel) ?_
  exact h6

def State.showFill_touch : List Part := []
def State.showFill_fields : Option (List Field) := some [Reg.JRN_STATUS.FILL]
theorem State.showFill_effect (s : State) :
    Effect State.showFill_touch State.showFill_fields s (@State.showFill s) := by
  unfold State.showFill
  refine Effect.after (State.wr_effect ..) (by decide +kernel) ?_
  exact Effect.refl _ _ _

def State.startEpoch_touch : List Part := [.host, .journal, .out]
def State.startEpoch_fields : Option (List Field) := some [Reg.JRN_STATUS.FILL, Reg.JRN_STATUS.EPOCH_CAUSE, Reg.JRN_EPOCH.EPOCH, Reg.JRN_EXEC.COUNT, Reg.JRN_ACCEPTED.COUNT, Reg.JRN_BUSY.OTHER, Reg.JRN_EVENT.NEW_EPOCH, Reg.JRN_SRC_LAST.LAST, Reg.JRN_CPL_TAIL.INDEX, Reg.JRN_RING_STATUS.PHASE, Reg.BB_STATUS.TX_IDLE]
theorem State.startEpoch_effect (s : State) (p1 : Nat) (p2 : Nat) (p3 : Bool) :
    Effect State.startEpoch_touch State.startEpoch_fields s (@State.startEpoch s p1 p2 p3) := by
  unfold State.startEpoch
  extract_lets x1 x2 x3 x4 x5 x6 x7 x8
  have h9 : Effect State.startEpoch_touch State.startEpoch_fields s x4 := by
    refine Effect.after (State.modJrn_effect ..) (by decide +kernel) ?_
    exact Effect.refl _ _ _
  try clear_value x4
  have h10 : Effect State.startEpoch_touch State.startEpoch_fields s x5 := by
    refine Effect.after (State.wr_effect ..) (by decide +kernel) ?_
    refine Effect.after (State.wr_effect ..) (by decide +kernel) ?_
    refine Effect.after (State.wr_effect ..) (by decide +kernel) ?_
    exact h9
  try clear_value x5
  have h11 : Effect State.startEpoch_touch State.startEpoch_fields s x6 := by
    refine Effect.after (State.showFill_effect ..) (by decide +kernel) ?_
    refine Effect.after (State.wr_effect ..) (by decide +kernel) ?_
    refine Effect.after (State.wr_effect ..) (by decide +kernel) ?_
    exact h10
  try clear_value x6
  have h12 : Effect State.startEpoch_touch State.startEpoch_fields s x7 := by
    refine Effect.each ?_ ?_
    · exact h11
    · intro u13 a14
      try beta_reduce
      refine Effect.after (State.wr_effect ..) (by decide +kernel) ?_
      exact Effect.refl _ _ _
  try clear_value x7
  have h15 : Effect State.startEpoch_touch State.startEpoch_fields s x8 := by
    refine Effect.ite ?_ ?_
    · refine Effect.after (State.mramWrite_effect ..) (by decide +kernel) ?_
      exact h12
    · exact h12
  try clear_value x8
  try clear_value x1 x2 x3
  refine Effect.ite ?_ ?_
  · refine Effect.each ?_ ?_
    · exact h15
    · intro u16 a17
      try beta_reduce
      refine Effect.after (State.reply_effect ..) (by decide +kernel) ?_
      refine Effect.after (State.bump_effect ..) (by decide +kernel) ?_
      exact Effect.refl _ _ _
  · exact h15

def State.mramRestore_touch : List Part := [.host, .journal, .out]
def State.mramRestore_fields : Option (List Field) := some [Reg.JRN_STATUS.FILL, Reg.JRN_STATUS.MRAM_OK, Reg.JRN_STATUS.EPOCH_CAUSE, Reg.JRN_EPOCH.EPOCH, Reg.JRN_EXEC.COUNT, Reg.JRN_ACCEPTED.COUNT, Reg.JRN_BUSY.OTHER, Reg.JRN_MRAM_CFG.EN, Reg.JRN_MRAM_CFG.QUAD, Reg.JRN_MRAM_CFG.DIV, Reg.JRN_EVENT.NEW_EPOCH, Reg.JRN_EVENT.RESTORED, Reg.JRN_SRC_LAST.LAST, Reg.JRN_CPL_TAIL.INDEX, Reg.JRN_RING_STATUS.PHASE, Reg.BB_STATUS.TX_IDLE]
theorem State.mramRestore_effect (s : State) (p1 : Option (List Byte)) (p2 : Nat) :
    Effect State.mramRestore_touch State.mramRestore_fields s (@State.mramRestore s p1 p2) := by
  unfold State.mramRestore
  split
  · refine Effect.after (State.startEpoch_effect ..) (by decide +kernel) ?_
    exact Effect.refl _ _ _
  · extract_lets x1 x2 x3 x4 x5 x6 x7 x8
    have h9 : Effect State.mramRestore_touch State.mramRestore_fields s x3 := by
      refine Effect.after (State.wr_effect ..) (by decide +kernel) ?_
      refine Effect.after (State.wr_effect ..) (by decide +kernel) ?_
      exact Effect.refl _ _ _
    try clear_value x3
    have h10 : Effect State.mramRestore_touch State.mramRestore_fields s x4 := by
      refine Effect.after (State.wr_effect ..) (by decide +kernel) ?_
      refine Effect.after (State.wr_effect ..) (by decide +kernel) ?_
      exact h9
    try clear_value x4
    have h11 : Effect State.mramRestore_touch State.mramRestore_fields s x5 := by
      refine Effect.each ?_ ?_
      · exact h10
      · intro u12 a13
        try beta_reduce
        refine Effect.after (State.wr_effect ..) (by decide +kernel) ?_
        exact Effect.refl _ _ _
    try clear_value x5
    have h14 : Effect State.mramRestore_touch State.mramRestore_fields s x7 := by
      refine Effect.after (State.modJrn_effect ..) (by decide +kernel) ?_
      exact h11
    try clear_value x7
    have h15 : Effect State.mramRestore_touch State.mramRestore_fields s x8 := by
      refine Effect.after (State.wr_effect ..) (by decide +kernel) ?_
      refine Effect.after (State.wr_effect ..) (by decide +kernel) ?_
      exact h14
    try clear_value x8
    try clear_value x1 x2 x6
    refine Effect.ite ?_ ?_
    · refine Effect.after (State.startEpoch_effect ..) (by decide +kernel) ?_
      exact Effect.refl _ _ _
    · refine Effect.ite ?_ ?_
      · refine Effect.after (State.startEpoch_effect ..) (by decide +kernel) ?_
        exact Effect.refl _ _ _
      · refine Effect.after (State.wr_effect ..) (by decide +kernel) ?_
        refine Effect.after (State.showMram_effect ..) (by decide +kernel) ?_
        refine Effect.after (State.showFill_effect ..) (by decide +kernel) ?_
        exact h15

def State.porRelease_touch : List Part := [.power, .host, .journal, .out]
def State.porRelease_fields : Option (List Field) := some [Reg.CLOCK_REF.REFSEL, Reg.POWER_STATE.STATE, Reg.FAULT_STATE.FAULT_N, Reg.FAULT_STATE.ALIVE_RUN, Reg.RESET_CAUSE.CAUSE, Reg.JRN_STATUS.FILL, Reg.JRN_STATUS.MRAM_OK, Reg.JRN_STATUS.EPOCH_CAUSE, Reg.JRN_EPOCH.EPOCH, Reg.JRN_EXEC.COUNT, Reg.JRN_ACCEPTED.COUNT, Reg.JRN_BUSY.OTHER, Reg.JRN_MRAM_CFG.EN, Reg.JRN_MRAM_CFG.QUAD, Reg.JRN_MRAM_CFG.DIV, Reg.JRN_EVENT.NEW_EPOCH, Reg.JRN_EVENT.RESTORED, Reg.JRN_SRC_LAST.LAST, Reg.JRN_CPL_TAIL.INDEX, Reg.JRN_RING_STATUS.PHASE, Reg.BB_STATUS.TX_IDLE]
theorem State.porRelease_effect (s : State) (p1 : Nat) (p2 : Option (List Byte)) (p3 : Nat) :
    Effect State.porRelease_touch State.porRelease_fields s (@State.porRelease s p1 p2 p3) := by
  unfold State.porRelease
  extract_lets x1 x2 x3
  have h4 : Effect State.porRelease_touch State.porRelease_fields s x1 := by
    refine Effect.after (State.modPower_effect ..) (by decide +kernel) ?_
    exact Effect.refl _ _ _
  try clear_value x1
  have h5 : Effect State.porRelease_touch State.porRelease_fields s x2 := by
    refine Effect.after (State.wr_effect ..) (by decide +kernel) ?_
    refine Effect.after (State.wr_effect ..) (by decide +kernel) ?_
    exact h4
  try clear_value x2
  have h6 : Effect State.porRelease_touch State.porRelease_fields s x3 := by
    refine Effect.after (State.holdOutputs_effect ..) (by decide +kernel) ?_
    refine Effect.after (State.wr_effect ..) (by decide +kernel) ?_
    exact h5
  try clear_value x3
  refine Effect.ite ?_ ?_
  · exact Effect.refl _ _ _
  · refine Effect.after (State.mramRestore_effect ..) (by decide +kernel) ?_
    exact h6

def State.queueCall_touch : List Part := [.chains]
def State.queueCall_fields : Option (List Field) := some [Reg.CELL_STATE.CALL_QUEUED]
theorem State.queueCall_effect (s : State) (p1 : ChainCfg) (p2 : Nat) (p3 : Nat) (p4 : Bool) :
    Effect State.queueCall_touch State.queueCall_fields s (@State.queueCall s p1 p2 p3 p4) := by
  unfold State.queueCall
  extract_lets x1 x2 x3
  have h4 : Effect State.queueCall_touch State.queueCall_fields s x3 := by
    refine Effect.after (State.wr_effect ..) (by decide +kernel) ?_
    exact Effect.refl _ _ _
  try clear_value x3
  try clear_value x1 x2
  refine Effect.ite ?_ ?_
  · refine Effect.after (State.modChain_effect ..) (by decide +kernel) ?_
    exact h4
  · refine Effect.after (State.modChain_effect ..) (by decide +kernel) ?_
    exact h4

def State.freezeFresh_touch : List Part := [.chains, .cells]
def State.freezeFresh_fields : Option (List Field) := some [Reg.CELL_STATE.CALL_QUEUED, Reg.CELL_LAST_FRESH.FRAME]
theorem State.freezeFresh_effect (s : State) (p1 : ChainCfg) (p2 : Nat) :
    Effect State.freezeFresh_touch State.freezeFresh_fields s (@State.freezeFresh s p1 p2) := by
  unfold State.freezeFresh
  extract_lets x1 x2 x3 x4 x5 x6 x7 x8 x9 x10 x11 x12
  have h13 : Effect State.freezeFresh_touch State.freezeFresh_fields s x8 := by
    refine Effect.when ?_ ?_
    · exact Effect.refl _ _ _
    · intro u14
      try beta_reduce
      refine Effect.after (State.queueCall_effect ..) (by decide +kernel) ?_
      exact Effect.refl _ _ _
  try clear_value x8
  have h16 : Effect State.freezeFresh_touch State.freezeFresh_fields s x9 := by
    refine Effect.when ?_ ?_
    · exact h13
    · intro u17
      try beta_reduce
      refine Effect.after (State.queueCall_effect ..) (by decide +kernel) ?_
      exact Effect.refl _ _ _
  try clear_value x9
  have h19 : Effect State.freezeFresh_touch State.freezeFresh_fields s x12 := by
    refine Effect.after (State.wr_effect ..) (by decide +kernel) ?_
    exact h16
  try clear_value x12
  try clear_value x1 x2 x3 x4 x5 x6 x7 x10 x11
  refine Effect.after (State.modCell_effect ..) (by decide +kernel) ?_
  exact h19

def State.canConfine_touch : List Part := []
def State.canConfine_fields : Option (List Field) := some [Reg.CAN_STATUS.STATE, Reg.CAN_STATUS.WARNING, Reg.CAN_EVENT.EVENTS]
theorem State.canConfine_effect (s : State) (p1 : Nat) :
    Effect State.canConfine_touch State.canConfine_fields s (@State.canConfine s p1) := by
  unfold State.canConfine
  extract_lets x1 x2 x3 x4 x5
  have h6 : Effect State.canConfine_touch State.canConfine_fields s x3 := by
    refine Effect.after (State.wr_effect ..) (by decide +kernel) ?_
    exact Effect.refl _ _ _
  try clear_value x3
  try clear_value x1 x2 x4 x5
  refine Effect.ite ?_ ?_
  · refine Effect.after (State.evBit_effect ..) (by decide +kernel) ?_
    refine Effect.after (State.wr_effect ..) (by decide +kernel) ?_
    exact h6
  · refine Effect.ite ?_ ?_
    · refine Effect.after (State.wr_effect ..) (by decide +kernel) ?_
      exact h6
    · exact h6

def State.canRecovered_touch : List Part := []
def State.canRecovered_fields : Option (List Field) := some [Reg.CAN_STATUS.STATE, Reg.CAN_STATUS.WARNING, Reg.CAN_STATUS.RECOVERING, Reg.CAN_ERRCNT.TEC, Reg.CAN_ERRCNT.REC, Reg.CAN_EVENT.EVENTS]
theorem State.canRecovered_effect (s : State) (p1 : Nat) :
    Effect State.canRecovered_touch State.canRecovered_fields s (@State.canRecovered s p1) := by
  unfold State.canRecovered
  extract_lets x1 x2
  have h3 : Effect State.canRecovered_touch State.canRecovered_fields s x1 := by
    refine Effect.after (State.wr_effect ..) (by decide +kernel) ?_
    refine Effect.after (State.wr_effect ..) (by decide +kernel) ?_
    exact Effect.refl _ _ _
  try clear_value x1
  have h4 : Effect State.canRecovered_touch State.canRecovered_fields s x2 := by
    refine Effect.after (State.wr_effect ..) (by decide +kernel) ?_
    refine Effect.after (State.wr_effect ..) (by decide +kernel) ?_
    exact h3
  try clear_value x2
  refine Effect.ite ?_ ?_
  · refine Effect.after (State.evBit_effect ..) (by decide +kernel) ?_
    refine Effect.after (State.canConfine_effect ..) (by decide +kernel) ?_
    exact h4
  · exact Effect.refl _ _ _

def State.motFault_touch : List Part := [.faults, .motors]
def State.motFault_fields : Option (List Field) := some [Reg.COLLECT_STATUS_LO.STATUS, Reg.COLLECT_STATUS_HI.STATUS, Reg.FAULT_COUNT_CORR.COUNT, Reg.FAULT_COUNT_CONT.COUNT, Reg.FAULT_COUNT_FATAL.COUNT, Reg.FAULT_EVENT.CORRECTED, Reg.FAULT_EVENT.CONTAINED, Reg.FAULT_EVENT.FATAL, Reg.FAULT_EVENT.HIST_LOST, Reg.FAULT_HIST_STATUS.LOST, Reg.MOT_STATE.STATE, Reg.MOT_EVENT.STATE, Reg.MOT_EVENT.OBS_LOST]
theorem State.motFault_effect (s : State) (p1 : Nat) :
    Effect State.motFault_touch State.motFault_fields s (@State.motFault s p1) := by
  unfold State.motFault
  refine Effect.ite ?_ ?_
  · exact Effect.refl _ _ _
  · refine Effect.after (State.motTo_effect ..) (by decide +kernel) ?_
    refine Effect.after (State.raise_effect ..) (by decide +kernel) ?_
    exact Effect.refl _ _ _



def State.ringRestart_touch : List Part := [.wrHold]
def State.ringRestart_fields : Option (List Field) := some [Reg.JRN_CMD_BASE_LO.ADDR, Reg.JRN_CMD_BASE_HI.ADDR, Reg.JRN_CMD_HEAD.INDEX, Reg.JRN_CMD_TAIL.INDEX, Reg.JRN_CPL_BASE_LO.ADDR, Reg.JRN_CPL_BASE_HI.ADDR, Reg.JRN_CPL_HEAD.INDEX, Reg.JRN_CPL_TAIL.INDEX, Reg.JRN_RING_STATUS.STOPPED, Reg.JRN_RING_STATUS.PHASE, Reg.JRN_RING_STATUS.WAIT_CPL]
theorem State.ringRestart_effect (s : State) (p1 : Bool) (p2 : Nat) :
    Effect State.ringRestart_touch State.ringRestart_fields s (@State.ringRestart s p1 p2) := by
  unfold State.ringRestart
  extract_lets x1 x2 x3
  have h4 : Effect State.ringRestart_touch State.ringRestart_fields s x1 := by
    refine Effect.after (State.wr_effect ..) (by decide +kernel) ?_
    refine Effect.after (State.takeLow_effect ..) (by decide +kernel) ?_
    exact Effect.refl _ _ _
  try clear_value x1
  have h5 : Effect State.ringRestart_touch State.ringRestart_fields s x2 := by
    refine Effect.after (State.wr_effect ..) (by decide +kernel) ?_
    refine Effect.after (State.takeLow_effect ..) (by decide +kernel) ?_
    exact Effect.refl _ _ _
  try clear_value x2
  have h6 : Effect State.ringRestart_touch State.ringRestart_fields s x3 := by
    refine Effect.ite ?_ ?_
    · refine Effect.after (State.wr_effect ..) (by decide +kernel) ?_
      refine Effect.after (State.wr_effect ..) (by decide +kernel) ?_
      exact h4
    · refine Effect.after (State.wr_effect ..) (by decide +kernel) ?_
      refine Effect.after (State.wr_effect ..) (by decide +kernel) ?_
      exact h5
  try clear_value x3
  refine Effect.after (State.showWait_effect ..) (by decide +kernel) ?_
  refine Effect.after (State.wr_effect ..) (by decide +kernel) ?_
  refine Effect.after (State.wr_effect ..) (by decide +kernel) ?_
  exact h6

def State.setSync_touch : List Part := []
def State.setSync_fields : Option (List Field) := some [Reg.TIME_STATUS.SYNC, Reg.TIME_EVENT.EVENTS]
theorem State.setSync_effect (s : State) (p1 : Bool) :
    Effect State.setSync_touch State.setSync_fields s (@State.setSync s p1) := by
  unfold State.setSync
  refine Effect.ite ?_ ?_
  · exact Effect.refl _ _ _
  · refine Effect.after (State.evBit_effect ..) (by decide +kernel) ?_
    refine Effect.after (State.wr_effect ..) (by decide +kernel) ?_
    exact Effect.refl _ _ _

def State.ppsServo_touch : List Part := [.time]
def State.ppsServo_fields : Option (List Field) := some [Reg.TIME_STATUS.SYNC, Reg.TIME_STATUS.SERVO_LOCK, Reg.TIME_ADDEND.ADDEND, Reg.TIME_EVENT.EVENTS]
theorem State.ppsServo_effect (s : State) (p1 : Int) :
    Effect State.ppsServo_touch State.ppsServo_fields s (@State.ppsServo s p1) := by
  unfold State.ppsServo
  extract_lets x1 x2 x3 x4 x5 x6 x7 x8 x9
  have h10 : Effect State.ppsServo_touch State.ppsServo_fields s x6 := by
    refine Effect.ite ?_ ?_
    · refine Effect.after (State.evBit_effect ..) (by decide +kernel) ?_
      refine Effect.after (Effect.time _ _) (by decide +kernel) ?_
      exact Effect.refl _ _ _
    · refine Effect.after (State.wr_effect ..) (by decide +kernel) ?_
      refine Effect.after (Effect.time _ _) (by decide +kernel) ?_
      exact Effect.refl _ _ _
  try clear_value x6
  have h11 : Effect State.ppsServo_touch State.ppsServo_fields s x9 := by
    refine Effect.after (Effect.time _ _) (by decide +kernel) ?_
    exact h10
  try clear_value x9
  try clear_value x1 x2 x3 x4 x5 x7 x8
  refine Effect.ite ?_ ?_
  · refine Effect.after (State.setSync_effect ..) (by decide +kernel) ?_
    refine Effect.after (State.wr_effect ..) (by decide +kernel) ?_
    exact h11
  · refine Effect.ite ?_ ?_
    · refine Effect.after (State.setSync_effect ..) (by decide +kernel) ?_
      refine Effect.after (State.wr_effect ..) (by decide +kernel) ?_
      exact h11
    · exact h11

def State.ppsEdge_touch : List Part := [.time]
def State.ppsEdge_fields : Option (List Field) := some [Reg.TIME_STATUS.SYNC, Reg.TIME_STATUS.SERVO_LOCK, Reg.TIME_STATUS.PPS_LOST, Reg.TIME_ADDEND.ADDEND, Reg.TIME_PPS_ERR.VALUE, Reg.TIME_PPS_COUNT.EDGES, Reg.TIME_PPS_COUNT.REJECTED, Reg.TIME_EVENT.EVENTS]
theorem State.ppsEdge_effect (s : State) (p1 : Bool) :
    Effect State.ppsEdge_touch State.ppsEdge_fields s (@State.ppsEdge s p1) := by
  unfold State.ppsEdge
  extract_lets x1 x2 x3 x4 x5
  have h6 : Effect State.ppsEdge_touch State.ppsEdge_fields s x2 := by
    refine Effect.after (State.wr_effect ..) (by decide +kernel) ?_
    refine Effect.after (State.wrS_effect ..) (by decide +kernel) ?_
    refine Effect.after (State.bump_effect ..) (by decide +kernel) ?_
    exact Effect.refl _ _ _
  try clear_value x2
  have h7 : Effect State.ppsEdge_touch State.ppsEdge_fields s x4 := by
    refine Effect.after (Effect.time _ _) (by decide +kernel) ?_
    exact h6
  try clear_value x4
  try clear_value x1 x3 x5
  refine Effect.ite ?_ ?_
  · exact Effect.refl _ _ _
  · refine Effect.ite ?_ ?_
    · refine Effect.after (State.bump_effect ..) (by decide +kernel) ?_
      exact Effect.refl _ _ _
    · refine Effect.ite ?_ ?_
      · refine Effect.after (State.ppsServo_effect ..) (by decide +kernel) ?_
        exact h7
      · refine Effect.after (Effect.time _ _) (by decide +kernel) ?_
        exact h7

def State.bbIdle_touch : List Part := []
def State.bbIdle_fields : Option (List Field) := some [Reg.BB_STATUS.TX_IDLE]
theorem State.bbIdle_effect (s : State) (p1 : Nat) :
    Effect State.bbIdle_touch State.bbIdle_fields s (@State.bbIdle s p1) := by
  unfold State.bbIdle
  extract_lets x1
  try clear_value x1
  refine Effect.ite ?_ ?_
  · refine Effect.after (State.wr_effect ..) (by decide +kernel) ?_
    exact Effect.refl _ _ _
  · exact Effect.refl _ _ _

def State.foreign_touch : List Part := []
def State.foreign_fields : Option (List Field) := some [Reg.BB_COUNT.FOREIGN]
theorem State.foreign_effect (s : State) (p1 : Nat) :
    Effect State.foreign_touch State.foreign_fields s (@State.foreign s p1) := by
  unfold State.foreign
  refine Effect.after (State.bump_effect ..) (by decide +kernel) ?_
  exact Effect.refl _ _ _

def State.showBusy_touch : List Part := []
def State.showBusy_fields : Option (List Field) := some [Reg.IMAGE_SUBST_STATUS.BUSY]
theorem State.showBusy_effect (s : State) :
    Effect State.showBusy_touch State.showBusy_fields s (@State.showBusy s) := by
  unfold State.showBusy
  refine Effect.after (State.wr_effect ..) (by decide +kernel) ?_
  exact Effect.refl _ _ _

def State.showRoles_touch : List Part := []
def State.showRoles_fields : Option (List Field) := some [Reg.ROLE_COUNT.LANE_SLICES, Reg.ROLE_COUNT.ARM_SLICES, Reg.ROLE_COUNT.RECORDER, Reg.ROLE_COUNT.MIRROR, Reg.ROLE_COUNT.SPARE, Reg.ROLE_COUNT.UNASSIGNED, Reg.IMAGE_EVENT.SPARE_LOW]
theorem State.showRoles_effect (s : State) :
    Effect State.showRoles_touch State.showRoles_fields s (@State.showRoles s) := by
  unfold State.showRoles
  extract_lets x1 x2 x3 x4 x5
  have h6 : Effect State.showRoles_touch State.showRoles_fields s x3 := by
    refine Effect.after (State.wr_effect ..) (by decide +kernel) ?_
    refine Effect.after (State.wr_effect ..) (by decide +kernel) ?_
    exact Effect.refl _ _ _
  try clear_value x3
  have h7 : Effect State.showRoles_touch State.showRoles_fields s x4 := by
    refine Effect.after (State.wr_effect ..) (by decide +kernel) ?_
    refine Effect.after (State.wr_effect ..) (by decide +kernel) ?_
    exact h6
  try clear_value x4
  have h8 : Effect State.showRoles_touch State.showRoles_fields s x5 := by
    refine Effect.after (State.wr_effect ..) (by decide +kernel) ?_
    refine Effect.after (State.wr_effect ..) (by decide +kernel) ?_
    exact h7
  try clear_value x5
  try clear_value x1 x2
  refine Effect.when ?_ ?_
  · exact h8
  · intro u9
    try beta_reduce
    refine Effect.after (State.wr_effect ..) (by decide +kernel) ?_
    exact Effect.refl _ _ _

def State.substEnds_touch : List Part := []
def State.substEnds_fields : Option (List Field) := some [Reg.ROLE_COUNT.LANE_SLICES, Reg.ROLE_COUNT.ARM_SLICES, Reg.ROLE_COUNT.RECORDER, Reg.ROLE_COUNT.MIRROR, Reg.ROLE_COUNT.SPARE, Reg.ROLE_COUNT.UNASSIGNED, Reg.IMAGE_SUBST_STATUS.BUSY, Reg.IMAGE_SUBST_STATUS.RESULT, Reg.IMAGE_EVENT.SUBST, Reg.IMAGE_EVENT.SPARE_LOW]
theorem State.substEnds_effect (s : State) (p1 : Nat) :
    Effect State.substEnds_touch State.substEnds_fields s (@State.substEnds s p1) := by
  unfold State.substEnds
  refine Effect.after (State.showBusy_effect ..) (by decide +kernel) ?_
  refine Effect.after (State.showRoles_effect ..) (by decide +kernel) ?_
  refine Effect.after (State.wr_effect ..) (by decide +kernel) ?_
  refine Effect.after (State.wr_effect ..) (by decide +kernel) ?_
  exact Effect.refl _ _ _

def State.mergeCause_touch : List Part := [.power, .faults, .engs]
def State.mergeCause_fields : Option (List Field) := some [Reg.DOMAIN_STATE.PLANE_A, Reg.DOMAIN_STATE.PLANE_B, Reg.POWER_PGOOD.PGOOD, Reg.REF_STATUS.ROLE_A, Reg.REF_STATUS.ROLE_B, Reg.REF_TAKEOVER.LAST_CAUSE, Reg.REF_EVENT.UNFIT, Reg.ENG_STATUS.BALL, Reg.ENG_STATUS.SHADOW, Reg.ENG_STATUS.COLD, Reg.ENG_EXPORT.VALUE]
theorem State.mergeCause_effect (s : State) (p1 : Nat) :
    Effect State.mergeCause_touch State.mergeCause_fields s (@State.mergeCause s p1) := by
  unfold State.mergeCause
  extract_lets x1 x2 x3 x4 x5
  have h6 : Effect State.mergeCause_touch State.mergeCause_fields s x3 := by
    refine Effect.after (State.wr_effect ..) (by decide +kernel) ?_
    exact Effect.refl _ _ _
  try clear_value x3
  have h7 : Effect State.mergeCause_touch State.mergeCause_fields s x4 := by
    refine Effect.when ?_ ?_
    · exact h6
    · intro u8
      try beta_reduce
      refine Effect.after (State.setRole_effect ..) (by decide +kernel) ?_
      exact Effect.refl _ _ _
  try clear_value x4
  try clear_value x1 x2 x5
  refine Effect.ite ?_ ?_
  · exact Effect.refl _ _ _
  · refine Effect.after (Effect.faults _ _) (by decide +kernel) ?_
    exact h7

def State.withdraw_touch : List Part := [.power, .faults, .cells, .arms, .engs, .convs, .referee]
def State.withdraw_fields : Option (List Field) := some [Reg.DOMAIN_STATE.PLANE_A, Reg.DOMAIN_STATE.PLANE_B, Reg.CONV_STATE.STATE, Reg.CONV_STATE.CAUSE, Reg.CONV_STATE.SLEWING, Reg.CONV_STATE_FRAME.FRAME, Reg.CONV_RESIDUAL.E, Reg.CONV_COUNT.BLOCKS, Reg.CONV_EVENT.BLOCK, Reg.CONV_EVENT.RESYNC_FAIL, Reg.CONV_EVENT.COAST_LIMIT, Reg.CONV_EVENT_SRC.CONV, Reg.POWER_PGOOD.PGOOD, Reg.COLLECT_STATUS_LO.STATUS, Reg.COLLECT_STATUS_HI.STATUS, Reg.FAULT_COUNT_CORR.COUNT, Reg.FAULT_COUNT_CONT.COUNT, Reg.FAULT_COUNT_FATAL.COUNT, Reg.FAULT_EVENT.CORRECTED, Reg.FAULT_EVENT.CONTAINED, Reg.FAULT_EVENT.FATAL, Reg.FAULT_EVENT.HIST_LOST, Reg.FAULT_HIST_STATUS.LOST, Reg.REF_STATUS.STATE, Reg.REF_STATUS.ROLE_A, Reg.REF_STATUS.ROLE_B, Reg.REF_STATUS.LEASE, Reg.REF_TAKEOVER.LAST_CAUSE, Reg.REF_EVENT.UNFIT, Reg.ENG_STATUS.BALL, Reg.ENG_STATUS.SHADOW, Reg.ENG_STATUS.COLD, Reg.ENG_EXPORT.VALUE, Reg.ARM_PTR.PTR]
theorem State.withdraw_effect (s : State) (p1 : Nat) :
    Effect State.withdraw_touch State.withdraw_fields s (@State.withdraw s p1) := by
  unfold State.withdraw
  extract_lets x1 x2 x3 x4 x5 x6 x7 x8
  have h9 : Effect State.withdraw_touch State.withdraw_fields s x4 := by
    refine Effect.after (State.wr_effect ..) (by decide +kernel) ?_
    refine Effect.after (State.wr_effect ..) (by decide +kernel) ?_
    exact Effect.refl _ _ _
  try clear_value x4
  have h10 : Effect State.withdraw_touch State.withdraw_fields s x5 := by
    refine Effect.after (State.setRole_effect ..) (by decide +kernel) ?_
    exact h9
  try clear_value x5
  have h11 : Effect State.withdraw_touch State.withdraw_fields s x6 := by
    refine Effect.after (State.raise_effect ..) (by decide +kernel) ?_
    exact h10
  try clear_value x6
  have h12 : Effect State.withdraw_touch State.withdraw_fields s x7 := by
    refine Effect.after (State.modRef_effect ..) (by decide +kernel) ?_
    exact h11
  try clear_value x7
  try clear_value x1 x2 x3 x8
  refine Effect.ite ?_ ?_
  · exact Effect.refl _ _ _
  · refine Effect.ite ?_ ?_
    · refine Effect.after (State.mergeCause_effect ..) (by decide +kernel) ?_
      exact Effect.refl _ _ _
    · refine Effect.ite ?_ ?_
      · refine Effect.after (State.wr_effect ..) (by decide +kernel) ?_
        refine Effect.after (State.modRef_effect ..) (by decide +kernel) ?_
        refine Effect.after (State.setRole_effect ..) (by decide +kernel) ?_
        exact h12
      · refine Effect.ite ?_ ?_
        · refine Effect.after (State.wr_effect ..) (by decide +kernel) ?_
          refine Effect.after (State.modRef_effect ..) (by decide +kernel) ?_
          refine Effect.after (State.setRole_effect ..) (by decide +kernel) ?_
          exact h12
        · refine Effect.after (State.lose_effect ..) (by decide +kernel) ?_
          exact h12

def State.heartbeatLoss_touch : List Part := [.power, .faults, .cells, .arms, .engs, .convs, .referee]
def State.heartbeatLoss_fields : Option (List Field) := some [Reg.DOMAIN_STATE.PLANE_A, Reg.DOMAIN_STATE.PLANE_B, Reg.CONV_STATE.STATE, Reg.CONV_STATE.CAUSE, Reg.CONV_STATE.SLEWING, Reg.CONV_STATE_FRAME.FRAME, Reg.CONV_RESIDUAL.E, Reg.CONV_COUNT.BLOCKS, Reg.CONV_EVENT.BLOCK, Reg.CONV_EVENT.RESYNC_FAIL, Reg.CONV_EVENT.COAST_LIMIT, Reg.CONV_EVENT_SRC.CONV, Reg.POWER_PGOOD.PGOOD, Reg.COLLECT_STATUS_LO.STATUS, Reg.COLLECT_STATUS_HI.STATUS, Reg.FAULT_COUNT_CORR.COUNT, Reg.FAULT_COUNT_CONT.COUNT, Reg.FAULT_COUNT_FATAL.COUNT, Reg.FAULT_EVENT.CORRECTED, Reg.FAULT_EVENT.CONTAINED, Reg.FAULT_EVENT.FATAL, Reg.FAULT_EVENT.HIST_LOST, Reg.FAULT_HIST_STATUS.LOST, Reg.REF_STATUS.STATE, Reg.REF_STATUS.ROLE_A, Reg.REF_STATUS.ROLE_B, Reg.REF_STATUS.LEASE, Reg.REF_HT_STATUS.OUTCOME, Reg.REF_TAKEOVER.LAST_CAUSE, Reg.REF_EVENT.UNFIT, Reg.ENG_STATUS.BALL, Reg.ENG_STATUS.SHADOW, Reg.ENG_STATUS.COLD, Reg.ENG_EXPORT.VALUE, Reg.ARM_PTR.PTR]
theorem State.heartbeatLoss_effect (s : State) (p1 : Nat) :
    Effect State.heartbeatLoss_touch State.heartbeatLoss_fields s (@State.heartbeatLoss s p1) := by
  unfold State.heartbeatLoss
  refine Effect.ite ?_ ?_
  · refine Effect.after (State.withdraw_effect ..) (by decide +kernel) ?_
    refine Effect.after (State.modRef_effect ..) (by decide +kernel) ?_
    exact Effect.refl _ _ _
  · refine Effect.ite ?_ ?_
    · refine Effect.after (State.wakeFails_effect ..) (by decide +kernel) ?_
      exact Effect.refl _ _ _
    · exact Effect.refl _ _ _

def State.writeRoles_touch : List Part := []
def State.writeRoles_fields : Option (List Field) := some [Reg.ROLE_COUNT.LANE_SLICES, Reg.ROLE_COUNT.ARM_SLICES, Reg.ROLE_COUNT.RECORDER, Reg.ROLE_COUNT.MIRROR, Reg.ROLE_COUNT.SPARE, Reg.ROLE_COUNT.UNASSIGNED, Reg.IMAGE_SLICE_FAIL.FAIL, Reg.IMAGE_EVENT.SPARE_LOW, Reg.SLICE_ROLE.ROLE, Reg.SLICE_ROLE.TARGET, Reg.SLICE_ROLE.STATE]
theorem State.writeRoles_effect (s : State) (p1 : List SliceCfg) (p2 : List Nat) (p3 : List (SliceCfg × Nat)) :
    Effect State.writeRoles_touch State.writeRoles_fields s (@State.writeRoles s p1 p2 p3) := by
  unfold State.writeRoles
  extract_lets x1 x2 x3 x4
  have h5 : Effect State.writeRoles_touch State.writeRoles_fields s x2 := by
    refine Effect.each ?_ ?_
    · exact Effect.refl _ _ _
    · intro u6 a7
      try beta_reduce
      try unfold x1
      try beta_reduce
      refine Effect.after (State.wr_effect ..) (by decide +kernel) ?_
      refine Effect.after (State.wr_effect ..) (by decide +kernel) ?_
      refine Effect.after (State.wr_effect ..) (by decide +kernel) ?_
      exact Effect.refl _ _ _
  try clear_value x2
  have h8 : Effect State.writeRoles_touch State.writeRoles_fields s x3 := by
    refine Effect.each ?_ ?_
    · exact h5
    · intro u9 a10
      try beta_reduce
      try unfold x1
      try beta_reduce
      refine Effect.after (State.wr_effect ..) (by decide +kernel) ?_
      refine Effect.after (State.wr_effect ..) (by decide +kernel) ?_
      refine Effect.after (State.wr_effect ..) (by decide +kernel) ?_
      exact Effect.refl _ _ _
  try clear_value x3
  have h11 : Effect State.writeRoles_touch State.writeRoles_fields s x4 := by
    refine Effect.each ?_ ?_
    · exact h8
    · intro u12 a13
      try beta_reduce
      refine Effect.after (State.evBit_effect ..) (by decide +kernel) ?_
      exact Effect.refl _ _ _
  try clear_value x4
  refine Effect.when ?_ ?_
  · refine Effect.after (State.showRoles_effect ..) (by decide +kernel) ?_
    exact h11
  · intro u14
    try beta_reduce
    refine Effect.after (State.wr_effect ..) (by decide +kernel) ?_
    exact Effect.refl _ _ _

def State.ctrlTick_touch : List Part := [.fr]
def State.ctrlTick_fields : Option (List Field) := some [Reg.TRK_STATUS.CTRL_INUSE, Reg.TRK_BP_COUNT.FRAMES]
theorem State.ctrlTick_effect (s : State) :
    Effect State.ctrlTick_touch State.ctrlTick_fields s (@State.ctrlTick s) := by
  unfold State.ctrlTick
  extract_lets x1 x2
  have h3 : Effect State.ctrlTick_touch State.ctrlTick_fields s x1 := by
    refine Effect.after (State.wr_effect ..) (by decide +kernel) ?_
    exact Effect.refl _ _ _
  try clear_value x1
  have h4 : Effect State.ctrlTick_touch State.ctrlTick_fields s x2 := by
    refine Effect.when ?_ ?_
    · exact h3
    · intro u5
      try beta_reduce
      refine Effect.after (State.bump_effect ..) (by decide +kernel) ?_
      exact Effect.refl _ _ _
  try clear_value x2
  refine Effect.after (State.modFr_effect ..) (by decide +kernel) ?_
  exact h4

def State.showTarget_touch : List Part := []
def State.showTarget_fields : Option (List Field) := some [Reg.PLAN_LEVEL.TARGET, Reg.PLAN_LEVEL.SLACK_LOW, Reg.PLAN_LEVEL.STATIC, Reg.PLAN_FORECAST.ENG_NEED, Reg.PLAN_FORECAST.FAB_NEED, Reg.FRAME_EVENT.SLACK_LOW]
theorem State.showTarget_effect (s : State) :
    Effect State.showTarget_touch State.showTarget_fields s (@State.showTarget s) := by
  unfold State.showTarget
  split
  · extract_lets x1 x2 x3
    have h4 : Effect State.showTarget_touch State.showTarget_fields s x1 := by
      refine Effect.after (State.wr_effect ..) (by decide +kernel) ?_
      refine Effect.after (State.wr_effect ..) (by decide +kernel) ?_
      exact Effect.refl _ _ _
    try clear_value x1
    have h5 : Effect State.showTarget_touch State.showTarget_fields s x3 := by
      refine Effect.when ?_ ?_
      · exact h4
      · intro u6
        try beta_reduce
        refine Effect.after (State.wr_effect ..) (by decide +kernel) ?_
        exact Effect.refl _ _ _
    try clear_value x3
    try clear_value x2
    refine Effect.after (State.wr_effect ..) (by decide +kernel) ?_
    refine Effect.after (State.wr_effect ..) (by decide +kernel) ?_
    refine Effect.after (State.wr_effect ..) (by decide +kernel) ?_
    exact h5

def State.freezeMoving_touch : List Part := [.cells]
def State.freezeMoving_fields : Option (List Field) := some []
theorem State.freezeMoving_effect (s : State) (p1 : ChainCfg) (p2 : Nat) :
    Effect State.freezeMoving_touch State.freezeMoving_fields s (@State.freezeMoving s p1 p2) := by
  unfold State.freezeMoving
  extract_lets x1
  try clear_value x1
  refine Effect.after (State.modCell_effect ..) (by decide +kernel) ?_
  exact Effect.refl _ _ _

def State.freezeStale_touch : List Part := [.faults, .cells]
def State.freezeStale_fields : Option (List Field) := some [Reg.COLLECT_STATUS_LO.STATUS, Reg.COLLECT_STATUS_HI.STATUS, Reg.FAULT_COUNT_CORR.COUNT, Reg.FAULT_COUNT_CONT.COUNT, Reg.FAULT_COUNT_FATAL.COUNT, Reg.FAULT_EVENT.CORRECTED, Reg.FAULT_EVENT.CONTAINED, Reg.FAULT_EVENT.FATAL, Reg.FAULT_EVENT.HIST_LOST, Reg.FAULT_HIST_STATUS.LOST, Reg.STALE_COUNT.STALE]
theorem State.freezeStale_effect (s : State) (p1 : Nat) :
    Effect State.freezeStale_touch State.freezeStale_fields s (@State.freezeStale s p1) := by
  unfold State.freezeStale
  extract_lets x1 x2 x3 x4 x5 x6
  have h7 : Effect State.freezeStale_touch State.freezeStale_fields s x5 := by
    refine Effect.after (State.bump_effect ..) (by decide +kernel) ?_
    exact Effect.refl _ _ _
  try clear_value x5
  have h8 : Effect State.freezeStale_touch State.freezeStale_fields s x6 := by
    refine Effect.when ?_ ?_
    · exact h7
    · intro u9
      try beta_reduce
      refine Effect.after (State.raise_effect ..) (by decide +kernel) ?_
      exact Effect.refl _ _ _
  try clear_value x6
  try clear_value x1 x2 x3 x4
  refine Effect.after (State.modCell_effect ..) (by decide +kernel) ?_
  exact h8

def State.showServed_touch : List Part := []
def State.showServed_fields : Option (List Field) := some [Reg.LANE_STATUS.SERVED, Reg.LANE_STATUS.FIRST_Q]
theorem State.showServed_effect (s : State) (p1 : Nat) :
    Effect State.showServed_touch State.showServed_fields s (@State.showServed s p1) := by
  unfold State.showServed
  extract_lets x1
  try clear_value x1
  refine Effect.after (State.wr_effect ..) (by decide +kernel) ?_
  refine Effect.after (State.wr_effect ..) (by decide +kernel) ?_
  exact Effect.refl _ _ _

def State.chainLate_touch : List Part := [.faults, .lanes]
def State.chainLate_fields : Option (List Field) := some [Reg.COLLECT_STATUS_LO.STATUS, Reg.COLLECT_STATUS_HI.STATUS, Reg.FAULT_COUNT_CORR.COUNT, Reg.FAULT_COUNT_CONT.COUNT, Reg.FAULT_COUNT_FATAL.COUNT, Reg.FAULT_EVENT.CORRECTED, Reg.FAULT_EVENT.CONTAINED, Reg.FAULT_EVENT.FATAL, Reg.FAULT_EVENT.HIST_LOST, Reg.FAULT_HIST_STATUS.LOST, Reg.LANE_STATUS.CHAIN_LATE, Reg.LANE_EVENT.CHAIN_LATE]
theorem State.chainLate_effect (s : State) (p1 : Nat) :
    Effect State.chainLate_touch State.chainLate_fields s (@State.chainLate s p1) := by
  unfold State.chainLate
  extract_lets x1
  have h2 : Effect State.chainLate_touch State.chainLate_fields s x1 := by
    refine Effect.after (State.modLane_effect ..) (by decide +kernel) ?_
    exact Effect.refl _ _ _
  try clear_value x1
  refine Effect.ite ?_ ?_
  · exact h2
  · refine Effect.after (State.raise_effect ..) (by decide +kernel) ?_
    refine Effect.after (State.wr_effect ..) (by decide +kernel) ?_
    refine Effect.after (State.wr_effect ..) (by decide +kernel) ?_
    exact h2

def State.planLane_touch : List Part := [.faults, .lanes]
def State.planLane_fields : Option (List Field) := some [Reg.COLLECT_STATUS_LO.STATUS, Reg.COLLECT_STATUS_HI.STATUS, Reg.FAULT_COUNT_CORR.COUNT, Reg.FAULT_COUNT_CONT.COUNT, Reg.FAULT_COUNT_FATAL.COUNT, Reg.FAULT_EVENT.CORRECTED, Reg.FAULT_EVENT.CONTAINED, Reg.FAULT_EVENT.FATAL, Reg.FAULT_EVENT.HIST_LOST, Reg.FAULT_HIST_STATUS.LOST, Reg.LANE_STATUS.CHAIN_LATE, Reg.LANE_STATUS.SERVED, Reg.LANE_STATUS.FIRST_Q, Reg.LANE_UPBASE.U, Reg.LANE_BUDGET.DELIVERY, Reg.LANE_BUDGET.COMPLETION, Reg.LANE_EVENT.CHAIN_LATE]
theorem State.planLane_effect (s : State) (p1 : Nat) :
    Effect State.planLane_touch State.planLane_fields s (@State.planLane s p1) := by
  unfold State.planLane
  extract_lets x1 x2
  have h3 : Effect State.planLane_touch State.planLane_fields s x1 := by
    refine Effect.after (State.wr_effect ..) (by decide +kernel) ?_
    exact Effect.refl _ _ _
  try clear_value x1
  have h4 : Effect State.planLane_touch State.planLane_fields s x2 := by
    refine Effect.after (State.wr_effect ..) (by decide +kernel) ?_
    refine Effect.after (State.wr_effect ..) (by decide +kernel) ?_
    exact h3
  try clear_value x2
  refine Effect.when ?_ ?_
  · refine Effect.after (State.showServed_effect ..) (by decide +kernel) ?_
    exact h4
  · intro u5
    try beta_reduce
    refine Effect.after (State.chainLate_effect ..) (by decide +kernel) ?_
    exact Effect.refl _ _ _

def State.setDelay_touch : List Part := [.faults, .lanes]
def State.setDelay_fields : Option (List Field) := some [Reg.COLLECT_STATUS_LO.STATUS, Reg.COLLECT_STATUS_HI.STATUS, Reg.FAULT_COUNT_CORR.COUNT, Reg.FAULT_COUNT_CONT.COUNT, Reg.FAULT_COUNT_FATAL.COUNT, Reg.FAULT_EVENT.CORRECTED, Reg.FAULT_EVENT.CONTAINED, Reg.FAULT_EVENT.FATAL, Reg.FAULT_EVENT.HIST_LOST, Reg.FAULT_HIST_STATUS.LOST, Reg.LANE_STATUS.STATE, Reg.LANE_STATUS.CHAIN_LATE, Reg.LANE_STATUS.SERVED, Reg.LANE_STATUS.FIRST_Q, Reg.LANE_UPBASE.U, Reg.LANE_BUDGET.DELIVERY, Reg.LANE_BUDGET.COMPLETION, Reg.LANE_EVENT.CHAIN_LATE, Reg.LANE_DELAY.D, Reg.LANE_DELAY.VALID]
theorem State.setDelay_effect (s : State) (p1 : Nat) (p2 : Nat) (p3 : Option Nat) :
    Effect State.setDelay_touch State.setDelay_fields s (@State.setDelay s p1 p2 p3) := by
  unfold State.setDelay
  extract_lets x1
  have h2 : Effect State.setDelay_touch State.setDelay_fields s x1 := by
    unfold x1
    split
    · refine Effect.after (State.wr_effect ..) (by decide +kernel) ?_
      refine Effect.after (State.wr_effect ..) (by decide +kernel) ?_
      exact Effect.refl _ _ _
    · refine Effect.after (State.wr_effect ..) (by decide +kernel) ?_
      exact Effect.refl _ _ _
  try clear_value x1
  refine Effect.ite ?_ ?_
  · exact Effect.refl _ _ _
  · refine Effect.after (State.showLane_effect ..) (by decide +kernel) ?_
    refine Effect.after (State.planLane_effect ..) (by decide +kernel) ?_
    exact h2

def State.quietGap_touch : List Part := [.faults, .lanes, .chains, .cells]
def State.quietGap_fields : Option (List Field) := some [Reg.COLLECT_STATUS_LO.STATUS, Reg.COLLECT_STATUS_HI.STATUS, Reg.FAULT_COUNT_CORR.COUNT, Reg.FAULT_COUNT_CONT.COUNT, Reg.FAULT_COUNT_FATAL.COUNT, Reg.FAULT_EVENT.CORRECTED, Reg.FAULT_EVENT.CONTAINED, Reg.FAULT_EVENT.FATAL, Reg.FAULT_EVENT.HIST_LOST, Reg.FAULT_HIST_STATUS.LOST, Reg.LANE_STATUS.STATE, Reg.LANE_STATUS.CHAIN_LATE, Reg.LANE_STATUS.SERVED, Reg.LANE_STATUS.FIRST_Q, Reg.LANE_UPBASE.U, Reg.LANE_BUDGET.DELIVERY, Reg.LANE_BUDGET.COMPLETION, Reg.LANE_EVENT.CHAIN_LATE, Reg.LANE_DELAY.D, Reg.LANE_DELAY.VALID, Reg.CELL_STATE.CALL_QUEUED]
theorem State.quietGap_effect (s : State) (p1 : ChainCfg) (p2 : Nat) :
    Effect State.quietGap_touch State.quietGap_fields s (@State.quietGap s p1 p2) := by
  unfold State.quietGap
  extract_lets x1 x2 x3 x4 x5
  have h6 : Effect State.quietGap_touch State.quietGap_fields s x3 := by
    refine Effect.after (State.modCell_effect ..) (by decide +kernel) ?_
    exact Effect.refl _ _ _
  try clear_value x3
  have h7 : Effect State.quietGap_touch State.quietGap_fields s x4 := by
    refine Effect.after (State.setDelay_effect ..) (by decide +kernel) ?_
    exact h6
  try clear_value x4
  have h8 : Effect State.quietGap_touch State.quietGap_fields s x5 := by
    refine Effect.after (State.setDelay_effect ..) (by decide +kernel) ?_
    exact h7
  try clear_value x5
  try clear_value x1 x2
  refine Effect.after (State.queueCall_effect ..) (by decide +kernel) ?_
  refine Effect.after (State.queueCall_effect ..) (by decide +kernel) ?_
  exact h8

def State.freezeReach_touch : List Part := [.faults, .lanes, .chains, .cells]
def State.freezeReach_fields : Option (List Field) := some [Reg.COLLECT_STATUS_LO.STATUS, Reg.COLLECT_STATUS_HI.STATUS, Reg.FAULT_COUNT_CORR.COUNT, Reg.FAULT_COUNT_CONT.COUNT, Reg.FAULT_COUNT_FATAL.COUNT, Reg.FAULT_EVENT.CORRECTED, Reg.FAULT_EVENT.CONTAINED, Reg.FAULT_EVENT.FATAL, Reg.FAULT_EVENT.HIST_LOST, Reg.FAULT_HIST_STATUS.LOST, Reg.LANE_STATUS.STATE, Reg.LANE_STATUS.CHAIN_LATE, Reg.LANE_STATUS.SERVED, Reg.LANE_STATUS.FIRST_Q, Reg.LANE_UPBASE.U, Reg.LANE_BUDGET.DELIVERY, Reg.LANE_BUDGET.COMPLETION, Reg.LANE_EVENT.CHAIN_LATE, Reg.LANE_DELAY.D, Reg.LANE_DELAY.VALID, Reg.CELL_STATE.CALL_QUEUED, Reg.TS_CALL.VALID_EVEN, Reg.TS_CALL.VALID_ODD]
theorem State.freezeReach_effect (s : State) (p1 : ChainCfg) (p2 : Nat) :
    Effect State.freezeReach_touch State.freezeReach_fields s (@State.freezeReach s p1 p2) := by
  unfold State.freezeReach
  extract_lets x1 x2 x3 x4 x5 x6 x7
  have h8 : Effect State.freezeReach_touch State.freezeReach_fields s x4 := by
    refine Effect.after (State.modCell_effect ..) (by decide +kernel) ?_
    exact Effect.refl _ _ _
  try clear_value x4
  have h9 : Effect State.freezeReach_touch State.freezeReach_fields s x5 := by
    refine Effect.when ?_ ?_
    · exact h8
    · intro u10
      try beta_reduce
      refine Effect.after (State.wr_effect ..) (by decide +kernel) ?_
      refine Effect.after (State.wr_effect ..) (by decide +kernel) ?_
      refine Effect.after (State.modCell_effect ..) (by decide +kernel) ?_
      exact Effect.refl _ _ _
  try clear_value x5
  try clear_value x1 x2 x3 x7
  refine Effect.ite ?_ ?_
  · exact h8
  · refine Effect.ite ?_ ?_
    · refine Effect.after (State.modCell_effect ..) (by decide +kernel) ?_
      exact h9
    · refine Effect.ite ?_ ?_
      · exact h9
      · refine Effect.after (State.quietGap_effect ..) (by decide +kernel) ?_
        exact h9

def State.freezeCell_touch : List Part := [.faults, .lanes, .chains, .cells]
def State.freezeCell_fields : Option (List Field) := some [Reg.COLLECT_STATUS_LO.STATUS, Reg.COLLECT_STATUS_HI.STATUS, Reg.FAULT_COUNT_CORR.COUNT, Reg.FAULT_COUNT_CONT.COUNT, Reg.FAULT_COUNT_FATAL.COUNT, Reg.FAULT_EVENT.CORRECTED, Reg.FAULT_EVENT.CONTAINED, Reg.FAULT_EVENT.FATAL, Reg.FAULT_EVENT.HIST_LOST, Reg.FAULT_HIST_STATUS.LOST, Reg.STALE_COUNT.STALE, Reg.LANE_STATUS.STATE, Reg.LANE_STATUS.CHAIN_LATE, Reg.LANE_STATUS.SERVED, Reg.LANE_STATUS.FIRST_Q, Reg.LANE_UPBASE.U, Reg.LANE_BUDGET.DELIVERY, Reg.LANE_BUDGET.COMPLETION, Reg.LANE_EVENT.CHAIN_LATE, Reg.LANE_DELAY.D, Reg.LANE_DELAY.VALID, Reg.CELL_STATE.CALL_QUEUED, Reg.CELL_VOLT.V_USED, Reg.CELL_VOLT.V2_USED, Reg.CELL_LAST_FRESH.FRAME, Reg.TS_CALL.VALID_EVEN, Reg.TS_CALL.VALID_ODD]
theorem State.freezeCell_effect (s : State) (p1 : ChainCfg) (p2 : Nat) :
    Effect State.freezeCell_touch State.freezeCell_fields s (@State.freezeCell s p1 p2) := by
  unfold State.freezeCell
  extract_lets x1 x2 x3 x4
  have h5 : Effect State.freezeCell_touch State.freezeCell_fields s x2 := by
    refine Effect.after (State.freezeMoving_effect ..) (by decide +kernel) ?_
    exact Effect.refl _ _ _
  try clear_value x2
  have h6 : Effect State.freezeCell_touch State.freezeCell_fields s x3 := by
    refine Effect.ite ?_ ?_
    · refine Effect.after (State.freezeFresh_effect ..) (by decide +kernel) ?_
      exact h5
    · refine Effect.after (State.freezeStale_effect ..) (by decide +kernel) ?_
      exact h5
  try clear_value x3
  have h7 : Effect State.freezeCell_touch State.freezeCell_fields s x4 := by
    refine Effect.after (State.freezeReach_effect ..) (by decide +kernel) ?_
    exact h6
  try clear_value x4
  try clear_value x1
  refine Effect.after (State.wr_effect ..) (by decide +kernel) ?_
  refine Effect.after (State.wr_effect ..) (by decide +kernel) ?_
  exact h7

def State.judgeLate_touch : List Part := [.referee]
def State.judgeLate_fields : Option (List Field) := some []
theorem State.judgeLate_effect (s : State) (p1 : Nat) (p2 : Nat) :
    Effect State.judgeLate_touch State.judgeLate_fields s (@State.judgeLate s p1 p2) := by
  unfold State.judgeLate
  refine Effect.ite ?_ ?_
  · refine Effect.after (State.modRef_effect ..) (by decide +kernel) ?_
    exact Effect.refl _ _ _
  · exact Effect.refl _ _ _

def State.showCkpt_touch : List Part := []
def State.showCkpt_fields : Option (List Field) := some [Reg.REF_CKPT.NEWEST, Reg.REF_CKPT.VALID0, Reg.REF_CKPT.VALID1, Reg.REF_CKPT_SEQ.SEQ]
theorem State.showCkpt_effect (s : State) :
    Effect State.showCkpt_touch State.showCkpt_fields s (@State.showCkpt s) := by
  unfold State.showCkpt
  extract_lets x1 x2 x3
  have h4 : Effect State.showCkpt_touch State.showCkpt_fields s x2 := by
    refine Effect.after (State.wr_effect ..) (by decide +kernel) ?_
    refine Effect.after (State.wr_effect ..) (by decide +kernel) ?_
    exact Effect.refl _ _ _
  try clear_value x2
  have h5 : Effect State.showCkpt_touch State.showCkpt_fields s x3 := by
    refine Effect.after (State.wr_effect ..) (by decide +kernel) ?_
    exact h4
  try clear_value x3
  try clear_value x1
  refine Effect.after (State.wr_effect ..) (by decide +kernel) ?_
  exact h5

def State.setHalf_touch : List Part := [.referee]
def State.setHalf_fields : Option (List Field) := some [Reg.REF_CKPT.NEWEST, Reg.REF_CKPT.VALID0, Reg.REF_CKPT.VALID1, Reg.REF_CKPT_SEQ.SEQ]
theorem State.setHalf_effect (s : State) (p1 : Nat) (p2 : Ckpt) :
    Effect State.setHalf_touch State.setHalf_fields s (@State.setHalf s p1 p2) := by
  unfold State.setHalf
  refine Effect.after (State.showCkpt_effect ..) (by decide +kernel) ?_
  refine Effect.after (State.modRef_effect ..) (by decide +kernel) ?_
  exact Effect.refl _ _ _

def State.mramCfg_touch : List Part := []
def State.mramCfg_fields : Option (List Field) := some [Reg.JRN_MRAM_CFG.QUAD, Reg.JRN_MRAM_CFG.DIV]
theorem State.mramCfg_effect (s : State) (p1 : Nat) :
    Effect State.mramCfg_touch State.mramCfg_fields s (@State.mramCfg s p1) := by
  unfold State.mramCfg
  refine Effect.after (State.wr_effect ..) (by decide +kernel) ?_
  refine Effect.after (State.wr_effect ..) (by decide +kernel) ?_
  exact Effect.refl _ _ _

def State.mramDisable_touch : List Part := [.faults, .journal, .out]
def State.mramDisable_fields : Option (List Field) := some [Reg.COLLECT_STATUS_LO.STATUS, Reg.COLLECT_STATUS_HI.STATUS, Reg.FAULT_COUNT_CORR.COUNT, Reg.FAULT_COUNT_CONT.COUNT, Reg.FAULT_COUNT_FATAL.COUNT, Reg.FAULT_EVENT.CORRECTED, Reg.FAULT_EVENT.CONTAINED, Reg.FAULT_EVENT.FATAL, Reg.FAULT_EVENT.HIST_LOST, Reg.FAULT_HIST_STATUS.LOST, Reg.JRN_STATUS.MRAM_OK, Reg.JRN_MRAM_CFG.EN, Reg.JRN_MRAM_CFG.QUAD, Reg.JRN_MRAM_CFG.DIV, Reg.JRN_EVENT.MRAM_FAIL]
theorem State.mramDisable_effect (s : State) (p1 : Nat) (p2 : Bool) :
    Effect State.mramDisable_touch State.mramDisable_fields s (@State.mramDisable s p1 p2) := by
  unfold State.mramDisable
  extract_lets x1 x2
  have h3 : Effect State.mramDisable_touch State.mramDisable_fields s x1 := by
    refine Effect.after (State.mramWrite_effect ..) (by decide +kernel) ?_
    exact Effect.refl _ _ _
  try clear_value x1
  have h4 : Effect State.mramDisable_touch State.mramDisable_fields s x2 := by
    refine Effect.ite ?_ ?_
    · exact h3
    · refine Effect.after (State.mramFail_effect ..) (by decide +kernel) ?_
      exact h3
  try clear_value x2
  refine Effect.ite ?_ ?_
  · exact Effect.refl _ _ _
  · refine Effect.after (State.showMram_effect ..) (by decide +kernel) ?_
    refine Effect.after (State.wr_effect ..) (by decide +kernel) ?_
    refine Effect.after (State.mramCfg_effect ..) (by decide +kernel) ?_
    exact h4

def State.planeEcc_touch : List Part := [.power, .faults, .cells, .arms, .engs, .convs, .referee]
def State.planeEcc_fields : Option (List Field) := some [Reg.DOMAIN_STATE.PLANE_A, Reg.DOMAIN_STATE.PLANE_B, Reg.CONV_STATE.STATE, Reg.CONV_STATE.CAUSE, Reg.CONV_STATE.SLEWING, Reg.CONV_STATE_FRAME.FRAME, Reg.CONV_RESIDUAL.E, Reg.CONV_COUNT.BLOCKS, Reg.CONV_EVENT.BLOCK, Reg.CONV_EVENT.RESYNC_FAIL, Reg.CONV_EVENT.COAST_LIMIT, Reg.CONV_EVENT_SRC.CONV, Reg.POWER_PGOOD.PGOOD, Reg.POWER_WAKE_FAIL.ITEM, Reg.POWER_WAKE_FAIL.KIND, Reg.POWER_EVENT.EVENTS, Reg.COLLECT_STATUS_LO.STATUS, Reg.COLLECT_STATUS_HI.STATUS, Reg.FAULT_COUNT_CORR.COUNT, Reg.FAULT_COUNT_CONT.COUNT, Reg.FAULT_COUNT_FATAL.COUNT, Reg.FAULT_EVENT.CORRECTED, Reg.FAULT_EVENT.CONTAINED, Reg.FAULT_EVENT.FATAL, Reg.FAULT_EVENT.HIST_LOST, Reg.FAULT_HIST_STATUS.LOST, Reg.REF_STATUS.STATE, Reg.REF_STATUS.ROLE_A, Reg.REF_STATUS.ROLE_B, Reg.REF_STATUS.LEASE, Reg.REF_HT_STATUS.OUTCOME, Reg.REF_TAKEOVER.LAST_CAUSE, Reg.REF_EVENT.UNFIT, Reg.ENG_STATUS.BALL, Reg.ENG_STATUS.SHADOW, Reg.ENG_STATUS.COLD, Reg.ENG_EXPORT.VALUE, Reg.ARM_PTR.PTR]
theorem State.planeEcc_effect (s : State) (p1 : Nat) :
    Effect State.planeEcc_touch State.planeEcc_fields s (@State.planeEcc s p1) := by
  unfold State.planeEcc
  refine Effect.ite ?_ ?_
  · refine Effect.after (State.withdraw_effect ..) (by decide +kernel) ?_
    exact Effect.refl _ _ _
  · refine Effect.ite ?_ ?_
    · refine Effect.after (State.wakeFails_effect ..) (by decide +kernel) ?_
      refine Effect.after (State.wakeFailNote_effect ..) (by decide +kernel) ?_
      exact Effect.refl _ _ _
    · refine Effect.ite ?_ ?_
      · refine Effect.after (State.wakeFails_effect ..) (by decide +kernel) ?_
        exact Effect.refl _ _ _
      · exact Effect.refl _ _ _

def State.mramEnable_touch : List Part := [.faults, .journal, .out]
def State.mramEnable_fields : Option (List Field) := some [Reg.COLLECT_STATUS_LO.STATUS, Reg.COLLECT_STATUS_HI.STATUS, Reg.FAULT_COUNT_CORR.COUNT, Reg.FAULT_COUNT_CONT.COUNT, Reg.FAULT_COUNT_FATAL.COUNT, Reg.FAULT_EVENT.CORRECTED, Reg.FAULT_EVENT.CONTAINED, Reg.FAULT_EVENT.FATAL, Reg.FAULT_EVENT.HIST_LOST, Reg.FAULT_HIST_STATUS.LOST, Reg.JRN_STATUS.MRAM_OK, Reg.JRN_MRAM_CFG.EN, Reg.JRN_MRAM_CFG.QUAD, Reg.JRN_MRAM_CFG.DIV, Reg.JRN_EVENT.MRAM_FAIL]
theorem State.mramEnable_effect (s : State) (p1 : Nat) (p2 : Bool) :
    Effect State.mramEnable_touch State.mramEnable_fields s (@State.mramEnable s p1 p2) := by
  unfold State.mramEnable
  extract_lets x1 x2 x3 x4
  have h5 : Effect State.mramEnable_touch State.mramEnable_fields s x1 := by
    refine Effect.after (State.modJrn_effect ..) (by decide +kernel) ?_
    refine Effect.after (State.wr_effect ..) (by decide +kernel) ?_
    refine Effect.after (State.mramCfg_effect ..) (by decide +kernel) ?_
    exact Effect.refl _ _ _
  try clear_value x1
  have h6 : Effect State.mramEnable_touch State.mramEnable_fields s x3 := by
    refine Effect.each ?_ ?_
    · exact h5
    · intro u7 a8
      try beta_reduce
      refine Effect.after (State.mramWrite_effect ..) (by decide +kernel) ?_
      exact Effect.refl _ _ _
  try clear_value x3
  have h9 : Effect State.mramEnable_touch State.mramEnable_fields s x4 := by
    refine Effect.after (State.showMram_effect ..) (by decide +kernel) ?_
    refine Effect.after (State.mramWrite_effect ..) (by decide +kernel) ?_
    exact h6
  try clear_value x4
  refine Effect.ite ?_ ?_
  · exact Effect.refl _ _ _
  · refine Effect.ite ?_ ?_
    · refine Effect.after (State.mramCfg_effect ..) (by decide +kernel) ?_
      exact Effect.refl _ _ _
    · refine Effect.ite ?_ ?_
      · exact h9
      · refine Effect.after (State.mramFail_effect ..) (by decide +kernel) ?_
        exact h9

def State.mramCfgWrite_touch : List Part := [.faults, .journal, .out, .drawn]
def State.mramCfgWrite_fields : Option (List Field) := some [Reg.COLLECT_STATUS_LO.STATUS, Reg.COLLECT_STATUS_HI.STATUS, Reg.FAULT_COUNT_CORR.COUNT, Reg.FAULT_COUNT_CONT.COUNT, Reg.FAULT_COUNT_FATAL.COUNT, Reg.FAULT_EVENT.CORRECTED, Reg.FAULT_EVENT.CONTAINED, Reg.FAULT_EVENT.FATAL, Reg.FAULT_EVENT.HIST_LOST, Reg.FAULT_HIST_STATUS.LOST, Reg.JRN_STATUS.MRAM_OK, Reg.JRN_MRAM_CFG.EN, Reg.JRN_MRAM_CFG.QUAD, Reg.JRN_MRAM_CFG.DIV, Reg.JRN_EVENT.MRAM_FAIL]
theorem State.mramCfgWrite_effect (s : State) (p1 : Nat) :
    Effect State.mramCfgWrite_touch State.mramCfgWrite_fields s (@State.mramCfgWrite s p1) := by
  unfold State.mramCfgWrite
  split
  rename_i a2 u3 q4
  have h1 : Effect State.mramCfgWrite_touch State.mramCfgWrite_fields s u3 := by
    refine Effect.of_pair q4 ?_
    refine Effect.after (State.draw_effect ..) (by decide +kernel) ?_
    exact Effect.refl _ _ _
  refine Effect.ite ?_ ?_
  · refine Effect.after (State.mramEnable_effect ..) (by decide +kernel) ?_
    exact h1
  · refine Effect.ite ?_ ?_
    · refine Effect.after (State.mramDisable_effect ..) (by decide +kernel) ?_
      exact h1
    · refine Effect.after (State.mramCfg_effect ..) (by decide +kernel) ?_
      exact h1

def State.showBlock_touch : List Part := []
def State.showBlock_fields : Option (List Field) := some [Reg.ARM_VDC.V, Reg.ARM_VAC.V, Reg.ARM_VEXTRA.V, Reg.ARM_THETA.THETA, Reg.ARM_OMEGA.OMEGA, Reg.ARM_CAPINV.CAP_INV, Reg.ARM_PHASE.PHASE_REF, Reg.ARM_PHASE.PHASE_BAL, Reg.ARM_PHASE_LIM.LIM]
theorem State.showBlock_effect (s : State) (p1 : Nat) :
    Effect State.showBlock_touch State.showBlock_fields s (@State.showBlock s p1) := by
  unfold State.showBlock
  extract_lets x1 x2 x3 x4 x5
  have h6 : Effect State.showBlock_touch State.showBlock_fields s x3 := by
    refine Effect.after (State.wrS_effect ..) (by decide +kernel) ?_
    refine Effect.after (State.wrS_effect ..) (by decide +kernel) ?_
    refine Effect.after (State.wrS_effect ..) (by decide +kernel) ?_
    exact Effect.refl _ _ _
  try clear_value x3
  have h7 : Effect State.showBlock_touch State.showBlock_fields s x4 := by
    refine Effect.after (State.wr_effect ..) (by decide +kernel) ?_
    refine Effect.after (State.wrS_effect ..) (by decide +kernel) ?_
    refine Effect.after (State.wr_effect ..) (by decide +kernel) ?_
    exact h6
  try clear_value x4
  have h8 : Effect State.showBlock_touch State.showBlock_fields s x5 := by
    refine Effect.after (State.wrS_effect ..) (by decide +kernel) ?_
    refine Effect.after (State.wrS_effect ..) (by decide +kernel) ?_
    exact h7
  try clear_value x5
  try clear_value x1 x2
  refine Effect.after (State.wr_effect ..) (by decide +kernel) ?_
  exact h8

def State.planePgood_touch : List Part := [.referee]
def State.planePgood_fields : Option (List Field) := some []
theorem State.planePgood_effect (s : State) (p1 : Nat) :
    Effect State.planePgood_touch State.planePgood_fields s (@State.planePgood s p1) := by
  unfold State.planePgood
  extract_lets x1
  have h2 : Effect State.planePgood_touch State.planePgood_fields s x1 := by
    refine Effect.after (State.judgeLate_effect ..) (by decide +kernel) ?_
    exact Effect.refl _ _ _
  try clear_value x1
  refine Effect.ite ?_ ?_
  · refine Effect.after (State.modRef_effect ..) (by decide +kernel) ?_
    exact h2
  · exact Effect.refl _ _ _

def State.latchWord_touch : List Part := [.hold]
def State.latchWord_fields : Option (List Field) := some []
theorem State.latchWord_effect (s : State) (p1 : Nat) (p2 : Nat) :
    Effect State.latchWord_touch State.latchWord_fields s (@State.latchWord s p1 p2) := by
  unfold State.latchWord
  refine Effect.after (Effect.hold _ _ _) (by decide +kernel) ?_
  exact Effect.refl _ _ _

def State.histRead_touch : List Part := [.hold]
def State.histRead_fields : Option (List Field) := some []
theorem State.histRead_effect (s : State) (p1 : Nat) :
    Effect State.histRead_touch State.histRead_fields s (@State.histRead s p1) := by
  unfold State.histRead
  extract_lets x1
  try clear_value x1
  refine Effect.after (State.latchWord_effect ..) (by decide +kernel) ?_
  refine Effect.after (State.latchWord_effect ..) (by decide +kernel) ?_
  refine Effect.after (State.latchWord_effect ..) (by decide +kernel) ?_
  exact Effect.refl _ _ _

def State.fuseResult_touch : List Part := []
def State.fuseResult_fields : Option (List Field) := some [Reg.KEY_STATUS.RESULT]
theorem State.fuseResult_effect (s : State) (p1 : Nat) :
    Effect State.fuseResult_touch State.fuseResult_fields s (@State.fuseResult s p1) := by
  unfold State.fuseResult
  refine Effect.after (State.wr_effect ..) (by decide +kernel) ?_
  exact Effect.refl _ _ _

theorem State.keyCmd_effect {A : List Part} {R : Option (List Field)} {s t : State} {unlock : Nat} {f : State → State}
    (b : Effect.fits State.fuseResult_touch State.fuseResult_fields A R = true) (h : Effect A R s t) (k : ∀ u, Effect A R u (f u)) :
    Effect A R s (t.keyCmd unlock f) := by
  unfold State.keyCmd
  exact Effect.ite h (Effect.ite (h.step (State.fuseResult_effect ..) b) (h.step (k t) (Effect.fits_refl _ _)))

def State.startFuse_touch : List Part := [.load]
def State.startFuse_fields : Option (List Field) := some [Reg.KEY_STATUS.BUSY]
theorem State.startFuse_effect (s : State) (p1 : FuseOp) :
    Effect State.startFuse_touch State.startFuse_fields s (@State.startFuse s p1) := by
  unfold State.startFuse
  refine Effect.after (State.wr_effect ..) (by decide +kernel) ?_
  refine Effect.after (State.modLoad_effect ..) (by decide +kernel) ?_
  exact Effect.refl _ _ _

def State.keyProgram_touch : List Part := [.load]
def State.keyProgram_fields : Option (List Field) := some [Reg.KEY_STATUS.BUSY, Reg.KEY_STATUS.RESULT]
theorem State.keyProgram_effect (s : State) (p1 : Nat) :
    Effect State.keyProgram_touch State.keyProgram_fields s (@State.keyProgram s p1) := by
  unfold State.keyProgram
  refine Effect.ite ?_ ?_
  · refine Effect.after (State.fuseResult_effect ..) (by decide +kernel) ?_
    exact Effect.refl _ _ _
  · refine Effect.after (State.startFuse_effect ..) (by decide +kernel) ?_
    exact Effect.refl _ _ _

def State.keyRevoke_touch : List Part := [.load]
def State.keyRevoke_fields : Option (List Field) := some [Reg.KEY_STATUS.BUSY, Reg.KEY_STATUS.RESULT]
theorem State.keyRevoke_effect (s : State) (p1 : Nat) :
    Effect State.keyRevoke_touch State.keyRevoke_fields s (@State.keyRevoke s p1) := by
  unfold State.keyRevoke
  refine Effect.ite ?_ ?_
  · refine Effect.after (State.fuseResult_effect ..) (by decide +kernel) ?_
    exact Effect.refl _ _ _
  · refine Effect.after (State.startFuse_effect ..) (by decide +kernel) ?_
    exact Effect.refl _ _ _

def State.keyCmdWrite_touch : List Part := [.load]
def State.keyCmdWrite_fields : Option (List Field) := some [Reg.KEY_STATUS.BUSY, Reg.KEY_STATUS.RESULT]
theorem State.keyCmdWrite_effect (s : State) (p1 : Nat) :
    Effect State.keyCmdWrite_touch State.keyCmdWrite_fields s (@State.keyCmdWrite s p1) := by
  unfold State.keyCmdWrite
  extract_lets x1
  try clear_value x1
  split
  · refine State.keyCmd_effect (by decide +kernel) ?_ ?_
    · exact Effect.refl _ _ _
    · intro u2
      try beta_reduce
      refine Effect.after (State.keyProgram_effect ..) (by decide +kernel) ?_
      exact Effect.refl _ _ _
  · refine State.keyCmd_effect (by decide +kernel) ?_ ?_
    · exact Effect.refl _ _ _
    · intro u4
      try beta_reduce
      refine Effect.after (State.keyRevoke_effect ..) (by decide +kernel) ?_
      exact Effect.refl _ _ _
  · exact Effect.refl _ _ _

def State.sendCmd_touch : List Part := [.cells]
def State.sendCmd_fields : Option (List Field) := some []
theorem State.sendCmd_effect (s : State) (p1 : Nat) (p2 : Option CellCmd) (p3 : Nat) :
    Effect State.sendCmd_touch State.sendCmd_fields s (@State.sendCmd s p1 p2 p3) := by
  unfold State.sendCmd
  refine Effect.after (State.modCell_effect ..) (by decide +kernel) ?_
  exact Effect.refl _ _ _

def State.showRepeat_touch : List Part := [.arms]
def State.showRepeat_fields : Option (List Field) := some [Reg.ARM_STATUS.FLAGS]
theorem State.showRepeat_effect (s : State) (p1 : Nat) :
    Effect State.showRepeat_touch State.showRepeat_fields s (@State.showRepeat s p1) := by
  unfold State.showRepeat
  extract_lets x1 x2 x3
  have h4 : Effect State.showRepeat_touch State.showRepeat_fields s x3 := by
    refine Effect.after (State.wr_effect ..) (by decide +kernel) ?_
    exact Effect.refl _ _ _
  try clear_value x3
  try clear_value x2
  refine Effect.after (State.modArm_effect ..) (by decide +kernel) ?_
  exact h4

def State.discardRank_touch : List Part := [.arms]
def State.discardRank_fields : Option (List Field) := some [Reg.ARM_PTR.PTR, Reg.ARM_SHORT.FRAMES, Reg.ARM_DWELL.MOVED, Reg.ARM_DWELL.DEFERRED, Reg.ARM_EVENT.SHORTFALL, Reg.ARM_EVENT.DEFER]
theorem State.discardRank_effect (s : State) (p1 : Nat) :
    Effect State.discardRank_touch State.discardRank_fields s (@State.discardRank s p1) := by
  unfold State.discardRank
  extract_lets x1 x2 x3 x4 x5 x6 x7 x8
  have h9 : Effect State.discardRank_touch State.discardRank_fields s x3 := by
    refine Effect.after (State.wr_effect ..) (by decide +kernel) ?_
    exact Effect.refl _ _ _
  try clear_value x3
  have h10 : Effect State.discardRank_touch State.discardRank_fields s x4 := by
    refine Effect.after (State.wr_effect ..) (by decide +kernel) ?_
    exact h9
  try clear_value x4
  have h11 : Effect State.discardRank_touch State.discardRank_fields s x5 := by
    refine Effect.after (State.wr_effect ..) (by decide +kernel) ?_
    exact h10
  try clear_value x5
  have h12 : Effect State.discardRank_touch State.discardRank_fields s x6 := by
    refine Effect.after (State.wr_effect ..) (by decide +kernel) ?_
    exact h11
  try clear_value x6
  have h13 : Effect State.discardRank_touch State.discardRank_fields s x7 := by
    refine Effect.after (State.wr_effect ..) (by decide +kernel) ?_
    exact h12
  try clear_value x7
  have h14 : Effect State.discardRank_touch State.discardRank_fields s x8 := by
    refine Effect.after (State.wr_effect ..) (by decide +kernel) ?_
    exact h13
  try clear_value x8
  try clear_value x1 x2
  refine Effect.after (State.modArm_effect ..) (by decide +kernel) ?_
  exact h14

theorem State.overrun_effect (s : State) (counter : Field) (detail : Nat) :
    Effect State.raise_touch (State.raise_fields.map fun l => l ++ [counter, Reg.OVERRUN_LAST.FRAME, Reg.FRAME_EVENT.OVERRUN]) s (s.overrun counter detail) := by
  unfold State.overrun
  have h1 : Effect State.raise_touch (State.raise_fields.map fun l => l ++ [counter, Reg.OVERRUN_LAST.FRAME, Reg.FRAME_EVENT.OVERRUN]) s (((s.bump counter).wr Reg.OVERRUN_LAST.FRAME s.frameNo).wr Reg.FRAME_EVENT.OVERRUN 1) := by
    refine Effect.step (Effect.step (((State.bump_effect s counter 1 0 0).more ?_).grow (by simp)) (((State.wr_effect _ Reg.OVERRUN_LAST.FRAME _ 0 0).more ?_).grow (by simp)) (Effect.fits_refl _ _)) (((State.wr_effect _ Reg.FRAME_EVENT.OVERRUN _ 0 0).more ?_).grow (by simp)) (Effect.fits_refl _ _)
    all_goals simp
  exact h1.step ((State.raise_effect _ 8 detail).more (by intro f hf; exact List.mem_append_left _ hf)) (Effect.fits_refl _ _)

def State.rankOverrun_touch : List Part := [.power, .faults, .fr, .arms, .engs, .referee]
def State.rankOverrun_fields : Option (List Field) := some [Reg.DOMAIN_STATE.PLANE_A, Reg.DOMAIN_STATE.PLANE_B, Reg.POWER_PGOOD.PGOOD, Reg.COLLECT_STATUS_LO.STATUS, Reg.COLLECT_STATUS_HI.STATUS, Reg.FAULT_COUNT_CORR.COUNT, Reg.FAULT_COUNT_CONT.COUNT, Reg.FAULT_COUNT_FATAL.COUNT, Reg.FAULT_EVENT.CORRECTED, Reg.FAULT_EVENT.CONTAINED, Reg.FAULT_EVENT.FATAL, Reg.FAULT_EVENT.HIST_LOST, Reg.FAULT_HIST_STATUS.LOST, Reg.REF_STATUS.STATE, Reg.REF_STATUS.ROLE_A, Reg.REF_STATUS.ROLE_B, Reg.REF_HT_STATUS.OUTCOME, Reg.REF_EVENT.CANCEL, Reg.REF_EVENT.UNFIT, Reg.OVERRUN_COUNT.RANK, Reg.OVERRUN_LAST.FRAME, Reg.FRAME_EVENT.OVERRUN, Reg.ENG_STATUS.BALL, Reg.ENG_STATUS.SHADOW, Reg.ENG_STATUS.COLD, Reg.ENG_EXPORT.VALUE, Reg.ARM_STATUS.FLAGS, Reg.ARM_PTR.PTR, Reg.ARM_SHORT.FRAMES, Reg.ARM_DWELL.MOVED, Reg.ARM_DWELL.DEFERRED, Reg.ARM_EVENT.SHORTFALL, Reg.ARM_EVENT.DEFER]
theorem State.rankOverrun_effect (s : State) (p1 : List Nat) :
    Effect State.rankOverrun_touch State.rankOverrun_fields s (@State.rankOverrun s p1) := by
  unfold State.rankOverrun
  extract_lets x1 x2 x3 x4
  have h5 : Effect State.rankOverrun_touch State.rankOverrun_fields s x2 := by
    refine Effect.after (State.modFr_effect ..) (by decide +kernel) ?_
    exact Effect.refl _ _ _
  try clear_value x2
  have h6 : Effect State.rankOverrun_touch State.rankOverrun_fields s x3 := by
    refine Effect.each ?_ ?_
    · exact h5
    · intro u7 a8
      try beta_reduce
      refine Effect.after (State.showRepeat_effect ..) (by decide +kernel) ?_
      refine Effect.after (State.discardRank_effect ..) (by decide +kernel) ?_
      exact Effect.refl _ _ _
  try clear_value x3
  try clear_value x1 x4
  refine Effect.ite ?_ ?_
  · exact h6
  · refine Effect.after (State.cancelShadow_effect ..) (by decide +kernel) ?_
    refine Effect.after (State.overrun_effect ..) (by decide +kernel) ?_
    refine Effect.after (State.modFr_effect ..) (by decide +kernel) ?_
    exact h6

def State.ctrlOpen_touch : List Part := [.fr]
def State.ctrlOpen_fields : Option (List Field) := some [Reg.TRK_STATUS.CTRL_HIWATER]
theorem State.ctrlOpen_effect (s : State) (p1 : CtrlEntry) :
    Effect State.ctrlOpen_touch State.ctrlOpen_fields s (@State.ctrlOpen s p1) := by
  unfold State.ctrlOpen
  extract_lets x1
  have h2 : Effect State.ctrlOpen_touch State.ctrlOpen_fields s x1 := by
    refine Effect.after (State.modFr_effect ..) (by decide +kernel) ?_
    exact Effect.refl _ _ _
  try clear_value x1
  refine Effect.after (State.wr_effect ..) (by decide +kernel) ?_
  exact h2

def State.ctrlAdmit_touch : List Part := [.fr]
def State.ctrlAdmit_fields : Option (List Field) := some [Reg.TRK_STATUS.CTRL_HIWATER]
theorem State.ctrlAdmit_effect (s : State) :
    Effect State.ctrlAdmit_touch State.ctrlAdmit_fields s (@State.ctrlAdmit s) := by
  unfold State.ctrlAdmit
  extract_lets x1
  try clear_value x1
  refine Effect.each ?_ ?_
  · refine Effect.after (State.modFr_effect ..) (by decide +kernel) ?_
    exact Effect.refl _ _ _
  · intro u2 a3
    try beta_reduce
    refine Effect.ite ?_ ?_
    · refine Effect.after (State.ctrlOpen_effect ..) (by decide +kernel) ?_
      exact Effect.refl _ _ _
    · refine Effect.after (State.modFr_effect ..) (by decide +kernel) ?_
      exact Effect.refl _ _ _

def State.ctrlDone_touch : List Part := [.fr]
def State.ctrlDone_fields : Option (List Field) := some [Reg.TRK_STATUS.CTRL_HIWATER]
theorem State.ctrlDone_effect (s : State) (p1 : CtrlEntry → Bool) :
    Effect State.ctrlDone_touch State.ctrlDone_fields s (@State.ctrlDone s p1) := by
  unfold State.ctrlDone
  refine Effect.after (State.ctrlAdmit_effect ..) (by decide +kernel) ?_
  refine Effect.after (State.modFr_effect ..) (by decide +kernel) ?_
  exact Effect.refl _ _ _

def State.retire_touch : List Part := [.journal]
def State.retire_fields : Option (List Field) := some [Reg.JRN_STATUS.FILL]
theorem State.retire_effect (s : State) :
    Effect State.retire_touch State.retire_fields s (@State.retire s) := by
  unfold State.retire
  split
  · exact Effect.refl _ _ _
  · extract_lets x1 x2 x3 x4
    try clear_value x1 x2 x3
    refine Effect.ite ?_ ?_
    · exact Effect.refl _ _ _
    · refine Effect.after (State.showFill_effect ..) (by decide +kernel) ?_
      refine Effect.after (State.modJrn_effect ..) (by decide +kernel) ?_
      exact Effect.refl _ _ _

def State.ckptCommit_touch : List Part := [.referee]
def State.ckptCommit_fields : Option (List Field) := some [Reg.REF_CKPT.NEWEST, Reg.REF_CKPT.VALID0, Reg.REF_CKPT.VALID1, Reg.REF_CKPT_SEQ.SEQ]
theorem State.ckptCommit_effect (s : State) :
    Effect State.ckptCommit_touch State.ckptCommit_fields s (@State.ckptCommit s) := by
  unfold State.ckptCommit
  split
  · refine Effect.after (State.modRef_effect ..) (by decide +kernel) ?_
    refine Effect.after (State.setHalf_effect ..) (by decide +kernel) ?_
    exact Effect.refl _ _ _
  · exact Effect.refl _ _ _

def State.leaseEnd_touch : List Part := [.referee]
def State.leaseEnd_fields : Option (List Field) := some [Reg.REF_STATUS.LEASE, Reg.REF_CKPT.NEWEST, Reg.REF_CKPT.VALID0, Reg.REF_CKPT.VALID1, Reg.REF_CKPT_SEQ.SEQ]
theorem State.leaseEnd_effect (s : State) (p1 : Bool) :
    Effect State.leaseEnd_touch State.leaseEnd_fields s (@State.leaseEnd s p1) := by
  unfold State.leaseEnd
  extract_lets x1 x2 x3 x4
  have h5 : Effect State.leaseEnd_touch State.leaseEnd_fields s x2 := by
    refine Effect.after (State.ckptCommit_effect ..) (by decide +kernel) ?_
    exact Effect.refl _ _ _
  try clear_value x2
  try clear_value x1 x3 x4
  refine Effect.ite ?_ ?_
  · refine Effect.after (State.modRef_effect ..) (by decide +kernel) ?_
    exact Effect.refl _ _ _
  · refine Effect.after (State.modRef_effect ..) (by decide +kernel) ?_
    refine Effect.after (State.wr_effect ..) (by decide +kernel) ?_
    exact h5

def State.modPairSt_touch : List Part := [.pair]
def State.modPairSt_fields : Option (List Field) := some []
theorem State.modPairSt_effect (s : State) (p1 : PairSt → PairSt) :
    Effect State.modPairSt_touch State.modPairSt_fields s (@State.modPairSt s p1) := by
  unfold State.modPairSt
  refine Effect.after (Effect.pair _ _) (by decide +kernel) ?_
  exact Effect.refl _ _ _

end Sys2Proof.Machine
end

