-- ==== Sys2Proof/Laws/Frames3.lean ====
section
/-! SUPPORT. What every operation and every command may touch (part 3 of 8, in the order in which they are built on one another): for each a list
of parts, a list of register fields, and the effect with both, from every state. -/

namespace Sys2Proof.Machine

set_option Elab.async false

def State.sendPair_touch : List Part := [.host, .pair, .out]
def State.sendPair_fields : Option (List Field) := some [Reg.BB_STATUS.TX_IDLE]
theorem State.sendPair_effect (s : State) (p1 : List (List Byte)) :
    Effect State.sendPair_touch State.sendPair_fields s (@State.sendPair s p1) := by
  unfold State.sendPair
  split
  · exact Effect.refl _ _ _
  · extract_lets x1 x2
    have h3 : Effect State.sendPair_touch State.sendPair_fields s x1 := by
      refine Effect.after (State.send_effect ..) (by decide +kernel) ?_
      exact Effect.refl _ _ _
    try clear_value x1
    try clear_value x2
    refine Effect.after (Effect.pair _ _) (by decide +kernel) ?_
    exact h3

def State.pairSend_touch : List Part := [.host, .pair, .out]
def State.pairSend_fields : Option (List Field) := some [Reg.BB_STATUS.TX_IDLE]
theorem State.pairSend_effect (s : State) :
    Effect State.pairSend_touch State.pairSend_fields s (@State.pairSend s) := by
  unfold State.pairSend
  extract_lets x1 x2 x3 x4
  have h5 : Effect State.pairSend_touch State.pairSend_fields s x4 := by
    refine Effect.after (State.modPairSt_effect ..) (by decide +kernel) ?_
    exact Effect.refl _ _ _
  try clear_value x4
  try clear_value x1 x2 x3
  refine Effect.ite ?_ ?_
  · exact Effect.refl _ _ _
  · refine Effect.ite ?_ ?_
    · refine Effect.after (State.sendPair_effect ..) (by decide +kernel) ?_
      exact Effect.refl _ _ _
    · refine Effect.each ?_ ?_
      · exact h5
      · intro u6 a7
        try beta_reduce
        refine Effect.after (State.sendPair_effect ..) (by decide +kernel) ?_
        exact Effect.refl _ _ _

def State.showPairLink_touch : List Part := []
def State.showPairLink_fields : Option (List Field) := some [Reg.REF_PAIR.LINK_OK]
theorem State.showPairLink_effect (s : State) :
    Effect State.showPairLink_touch State.showPairLink_fields s (@State.showPairLink s) := by
  unfold State.showPairLink
  refine Effect.after (State.wr_effect ..) (by decide +kernel) ?_
  exact Effect.refl _ _ _

def State.sampleRefIn_touch : List Part := [.faults, .pair]
def State.sampleRefIn_fields : Option (List Field) := some [Reg.COLLECT_STATUS_LO.STATUS, Reg.COLLECT_STATUS_HI.STATUS, Reg.FAULT_COUNT_CORR.COUNT, Reg.FAULT_COUNT_CONT.COUNT, Reg.FAULT_COUNT_FATAL.COUNT, Reg.FAULT_EVENT.CORRECTED, Reg.FAULT_EVENT.CONTAINED, Reg.FAULT_EVENT.FATAL, Reg.FAULT_EVENT.HIST_LOST, Reg.FAULT_HIST_STATUS.LOST, Reg.REF_PAIR.REF_IN, Reg.REF_PAIR.LINK_OK, Reg.REF_PAIR.CONFLICTS, Reg.REF_EVENT.PAIR_CONFLICT]
theorem State.sampleRefIn_effect (s : State) (p1 : Bool) :
    Effect State.sampleRefIn_touch State.sampleRefIn_fields s (@State.sampleRefIn s p1) := by
  unfold State.sampleRefIn
  extract_lets x1 x2 x3 x4 x5 x6
  have h7 : Effect State.sampleRefIn_touch State.sampleRefIn_fields s x2 := by
    refine Effect.after (State.wr_effect ..) (by decide +kernel) ?_
    exact Effect.refl _ _ _
  try clear_value x2
  have h8 : Effect State.sampleRefIn_touch State.sampleRefIn_fields s x3 := by
    refine Effect.after (State.modPairSt_effect ..) (by decide +kernel) ?_
    exact h7
  try clear_value x3
  have h9 : Effect State.sampleRefIn_touch State.sampleRefIn_fields s x4 := by
    refine Effect.after (State.showPairLink_effect ..) (by decide +kernel) ?_
    exact h8
  try clear_value x4
  have h10 : Effect State.sampleRefIn_touch State.sampleRefIn_fields s x6 := by
    refine Effect.ite ?_ ?_
    · refine Effect.after (State.raise_effect ..) (by decide +kernel) ?_
      refine Effect.after (State.wr_effect ..) (by decide +kernel) ?_
      refine Effect.after (State.bump_effect ..) (by decide +kernel) ?_
      exact h9
    · exact h9
  try clear_value x6
  try clear_value x1 x5
  refine Effect.ite ?_ ?_
  · exact Effect.refl _ _ _
  · refine Effect.after (State.modPairSt_effect ..) (by decide +kernel) ?_
    exact h10

def State.planMoves_touch : List Part := [.fr]
def State.planMoves_fields : Option (List Field) := some []
theorem State.planMoves_effect (s : State) :
    Effect State.planMoves_touch State.planMoves_fields s (@State.planMoves s) := by
  unfold State.planMoves
  extract_lets x1 x2 x3 x4 x5 x6
  have h7 : Effect State.planMoves_touch State.planMoves_fields s x3 := by
    unfold x3
    split
    · refine Effect.after (State.modFr_effect ..) (by decide +kernel) ?_
      exact Effect.refl _ _ _
    · exact Effect.refl _ _ _
  try clear_value x3
  have h8 : Effect State.planMoves_touch State.planMoves_fields s x4 := by
    refine Effect.ite ?_ ?_
    · refine Effect.after (State.modFr_effect ..) (by decide +kernel) ?_
      exact h7
    · exact h7
  try clear_value x4
  try clear_value x1 x2 x5 x6
  refine Effect.after (State.modFr_effect ..) (by decide +kernel) ?_
  exact h8

def State.planEvaluate_touch : List Part := [.fr]
def State.planEvaluate_fields : Option (List Field) := some [Reg.PLAN_LEVEL.TARGET, Reg.PLAN_LEVEL.SLACK_LOW, Reg.PLAN_LEVEL.STATIC, Reg.PLAN_FORECAST.ENG_NEED, Reg.PLAN_FORECAST.FAB_NEED, Reg.FRAME_EVENT.SLACK_LOW]
theorem State.planEvaluate_effect (s : State) (p1 : Nat) (p2 : Bool) (p3 : Bool) :
    Effect State.planEvaluate_touch State.planEvaluate_fields s (@State.planEvaluate s p1 p2 p3) := by
  unfold State.planEvaluate
  extract_lets x1
  have h2 : Effect State.planEvaluate_touch State.planEvaluate_fields s x1 := by
    refine Effect.after (State.modFr_effect ..) (by decide +kernel) ?_
    exact Effect.refl _ _ _
  try clear_value x1
  refine Effect.after (State.planMoves_effect ..) (by decide +kernel) ?_
  refine Effect.after (State.showTarget_effect ..) (by decide +kernel) ?_
  exact h2

def State.blockAtTick_touch : List Part := [.convs]
def State.blockAtTick_fields : Option (List Field) := some []
theorem State.blockAtTick_effect (s : State) (p1 : Nat) (p2 : Nat) :
    Effect State.blockAtTick_touch State.blockAtTick_fields s (@State.blockAtTick s p1 p2) := by
  unfold State.blockAtTick
  refine Effect.after (State.modConv_effect ..) (by decide +kernel) ?_
  exact Effect.refl _ _ _

def State.armOutDeadline_touch : List Part := [.convs]
def State.armOutDeadline_fields : Option (List Field) := some [Reg.ROLE_COUNT.LANE_SLICES, Reg.ROLE_COUNT.ARM_SLICES, Reg.ROLE_COUNT.RECORDER, Reg.ROLE_COUNT.MIRROR, Reg.ROLE_COUNT.SPARE, Reg.ROLE_COUNT.UNASSIGNED, Reg.IMAGE_SUBST_STATUS.BUSY, Reg.IMAGE_SUBST_STATUS.RESULT, Reg.IMAGE_EVENT.SUBST, Reg.IMAGE_EVENT.SPARE_LOW]
theorem State.armOutDeadline_effect (s : State) :
    Effect State.armOutDeadline_touch State.armOutDeadline_fields s (@State.armOutDeadline s) := by
  unfold State.armOutDeadline
  refine Effect.each ?_ ?_
  · exact Effect.refl _ _ _
  · intro u1 a2
    try beta_reduce
    refine Effect.ite ?_ ?_
    · refine Effect.after (State.substEnds_effect ..) (by decide +kernel) ?_
      refine Effect.after (State.blockAtTick_effect ..) (by decide +kernel) ?_
      exact Effect.refl _ _ _
    · exact Effect.refl _ _ _

def State.rankEnd_touch : List Part := [.power, .faults, .host, .fr, .arms, .engs, .convs, .referee, .pair, .journal, .out]
def State.rankEnd_fields : Option (List Field) := some [Reg.ROLE_COUNT.LANE_SLICES, Reg.ROLE_COUNT.ARM_SLICES, Reg.ROLE_COUNT.RECORDER, Reg.ROLE_COUNT.MIRROR, Reg.ROLE_COUNT.SPARE, Reg.ROLE_COUNT.UNASSIGNED, Reg.DOMAIN_STATE.PLANE_A, Reg.DOMAIN_STATE.PLANE_B, Reg.POWER_PGOOD.PGOOD, Reg.COLLECT_STATUS_LO.STATUS, Reg.COLLECT_STATUS_HI.STATUS, Reg.FAULT_COUNT_CORR.COUNT, Reg.FAULT_COUNT_CONT.COUNT, Reg.FAULT_COUNT_FATAL.COUNT, Reg.FAULT_EVENT.CORRECTED, Reg.FAULT_EVENT.CONTAINED, Reg.FAULT_EVENT.FATAL, Reg.FAULT_EVENT.HIST_LOST, Reg.FAULT_HIST_STATUS.LOST, Reg.REF_STATUS.STATE, Reg.REF_STATUS.ROLE_A, Reg.REF_STATUS.ROLE_B, Reg.REF_STATUS.LEASE, Reg.REF_HT_STATUS.OUTCOME, Reg.REF_CKPT.NEWEST, Reg.REF_CKPT.VALID0, Reg.REF_CKPT.VALID1, Reg.REF_CKPT_SEQ.SEQ, Reg.REF_PAIR.REF_IN, Reg.REF_PAIR.LINK_OK, Reg.REF_PAIR.CONFLICTS, Reg.REF_EVENT.CANCEL, Reg.REF_EVENT.UNFIT, Reg.REF_EVENT.PAIR_CONFLICT, Reg.JRN_STATUS.FILL, Reg.OVERRUN_COUNT.RANK, Reg.OVERRUN_LAST.FRAME, Reg.TRK_STATUS.CTRL_HIWATER, Reg.PLAN_LEVEL.TARGET, Reg.PLAN_LEVEL.SLACK_LOW, Reg.PLAN_LEVEL.STATIC, Reg.PLAN_FORECAST.ENG_NEED, Reg.PLAN_FORECAST.FAB_NEED, Reg.PLAN_POWER.MEASURED, Reg.FRAME_EVENT.OVERRUN, Reg.FRAME_EVENT.SLACK_LOW, Reg.IMAGE_SUBST_STATUS.BUSY, Reg.IMAGE_SUBST_STATUS.RESULT, Reg.IMAGE_EVENT.SUBST, Reg.IMAGE_EVENT.SPARE_LOW, Reg.ENG_STATUS.BALL, Reg.ENG_STATUS.SHADOW, Reg.ENG_STATUS.COLD, Reg.ENG_EXPORT.VALUE, Reg.ARM_STATUS.FLAGS, Reg.ARM_PTR.PTR, Reg.ARM_SHORT.FRAMES, Reg.ARM_DWELL.MOVED, Reg.ARM_DWELL.DEFERRED, Reg.ARM_EVENT.SHORTFALL, Reg.ARM_EVENT.DEFER, Reg.BB_STATUS.TX_IDLE]
theorem State.rankEnd_effect (s : State) (p1 : List Nat) (p2 : List Nat) (p3 : Bool) (p4 : Nat) :
    Effect State.rankEnd_touch State.rankEnd_fields s (@State.rankEnd s p1 p2 p3 p4) := by
  unfold State.rankEnd
  extract_lets x1 x2 x3 x4 x5 x6 x7
  have h8 : Effect State.rankEnd_touch State.rankEnd_fields s x2 := by
    refine Effect.after (State.rankOverrun_effect ..) (by decide +kernel) ?_
    refine Effect.after (State.modFr_effect ..) (by decide +kernel) ?_
    exact Effect.refl _ _ _
  try clear_value x2
  have h9 : Effect State.rankEnd_touch State.rankEnd_fields s x3 := by
    refine Effect.after (State.ctrlDone_effect ..) (by decide +kernel) ?_
    exact h8
  try clear_value x3
  have h10 : Effect State.rankEnd_touch State.rankEnd_fields s x5 := by
    refine Effect.after (State.retire_effect ..) (by decide +kernel) ?_
    refine Effect.after (State.leaseEnd_effect ..) (by decide +kernel) ?_
    exact h9
  try clear_value x5
  have h11 : Effect State.rankEnd_touch State.rankEnd_fields s x6 := by
    refine Effect.after (State.pairSend_effect ..) (by decide +kernel) ?_
    refine Effect.after (State.sampleRefIn_effect ..) (by decide +kernel) ?_
    exact h10
  try clear_value x6
  have h12 : Effect State.rankEnd_touch State.rankEnd_fields s x7 := by
    refine Effect.when ?_ ?_
    · exact h11
    · intro u13
      try beta_reduce
      refine Effect.after (State.planEvaluate_effect ..) (by decide +kernel) ?_
      exact Effect.refl _ _ _
  try clear_value x7
  try clear_value x1 x4
  refine Effect.ite ?_ ?_
  · exact Effect.refl _ _ _
  · refine Effect.after (State.wr_effect ..) (by decide +kernel) ?_
    refine Effect.after (State.armOutDeadline_effect ..) (by decide +kernel) ?_
    exact h12

def State.burstStart_touch : List Part := [.adc]
def State.burstStart_fields : Option (List Field) := some [Reg.ADC_CTRL.COMMIT, Reg.ADC_STATUS.BUSY, Reg.ADC_SEQ_BURST.START, Reg.ADC_SEQ_BURST.LENGTH]
theorem State.burstStart_effect (s : State) (p1 : Nat) :
    Effect State.burstStart_touch State.burstStart_fields s (@State.burstStart s p1) := by
  unfold State.burstStart
  extract_lets x1
  have h2 : Effect State.burstStart_touch State.burstStart_fields s x1 := by
    unfold x1
    split
    · refine Effect.after (State.showCommit_effect ..) (by decide +kernel) ?_
      refine Effect.after (State.applySar_effect ..) (by decide +kernel) ?_
      exact Effect.refl _ _ _
    · exact Effect.refl _ _ _
  try clear_value x1
  refine Effect.ite ?_ ?_
  · exact Effect.refl _ _ _
  · refine Effect.after (State.wrBit_effect ..) (by decide +kernel) ?_
    refine Effect.after (State.modSar_effect ..) (by decide +kernel) ?_
    exact h2

def State.splitRead_touch : List Part := [.hold]
def State.splitRead_fields : Option (List Field) := some []
theorem State.splitRead_effect (s : State) (p1 : Nat) :
    Effect State.splitRead_touch State.splitRead_fields s (@State.splitRead s p1) := by
  unfold State.splitRead
  refine Effect.ite ?_ ?_
  · refine Effect.after (State.latchWord_effect ..) (by decide +kernel) ?_
    exact Effect.refl _ _ _
  · exact Effect.refl _ _ _

def State.ptpLatch_touch : List Part := []
def State.ptpLatch_fields : Option (List Field) := some [Reg.TIME_PTP_NS.VALUE, Reg.TIME_PTP_SEC_LO.VALUE, Reg.TIME_PTP_SEC_HI.VALUE, Reg.TIME_PTP_FRAC.VALUE]
theorem State.ptpLatch_effect (s : State) :
    Effect State.ptpLatch_touch State.ptpLatch_fields s (@State.ptpLatch s) := by
  unfold State.ptpLatch
  extract_lets x1
  have h2 : Effect State.ptpLatch_touch State.ptpLatch_fields s x1 := by
    refine Effect.after (State.wr_effect ..) (by decide +kernel) ?_
    refine Effect.after (State.wr_effect ..) (by decide +kernel) ?_
    exact Effect.refl _ _ _
  try clear_value x1
  refine Effect.after (State.wr_effect ..) (by decide +kernel) ?_
  refine Effect.after (State.wr_effect ..) (by decide +kernel) ?_
  exact h2

def State.modEth_touch : List Part := [.eths]
def State.modEth_fields : Option (List Field) := some []
theorem State.modEth_effect (s : State) (p1 : Nat) (p2 : EthSt → EthSt) :
    Effect State.modEth_touch State.modEth_fields s (@State.modEth s p1 p2) := by
  unfold State.modEth
  refine Effect.after (Effect.eths _ _ _) (by decide +kernel) ?_
  exact Effect.refl _ _ _

def State.txtsRead_touch : List Part := [.eths]
def State.txtsRead_fields : Option (List Field) := some [Reg.ETH_TXTS.ENTRY, Reg.ETH_TXTS_STATUS.COUNT]
theorem State.txtsRead_effect (s : State) (p1 : Nat) :
    Effect State.txtsRead_touch State.txtsRead_fields s (@State.txtsRead s p1) := by
  unfold State.txtsRead
  split
  · refine Effect.after (State.wr_effect ..) (by decide +kernel) ?_
    exact Effect.refl _ _ _
  · extract_lets x1 x2 x3
    have h4 : Effect State.txtsRead_touch State.txtsRead_fields s x1 := by
      refine Effect.after (State.modEth_effect ..) (by decide +kernel) ?_
      exact Effect.refl _ _ _
    try clear_value x1
    have h5 : Effect State.txtsRead_touch State.txtsRead_fields s x2 := by
      refine Effect.after (State.wr_effect ..) (by decide +kernel) ?_
      exact h4
    try clear_value x2
    have h6 : Effect State.txtsRead_touch State.txtsRead_fields s x3 := by
      refine Effect.after (State.wr_effect ..) (by decide +kernel) ?_
      refine Effect.after (State.wr_effect ..) (by decide +kernel) ?_
      exact h5
    try clear_value x3
    refine Effect.after (State.wr_effect ..) (by decide +kernel) ?_
    refine Effect.after (State.wr_effect ..) (by decide +kernel) ?_
    exact h6

def State.adcRead_touch : List Part := []
def State.adcRead_fields : Option (List Field) := some [Reg.ADC_ENTRY_VALUE.VALUE]
theorem State.adcRead_effect (s : State) (p1 : Nat) (p2 : Nat) :
    Effect State.adcRead_touch State.adcRead_fields s (@State.adcRead s p1 p2) := by
  unfold State.adcRead
  refine Effect.after (State.wrS_effect ..) (by decide +kernel) ?_
  exact Effect.refl _ _ _

def State.canTxeRead_touch : List Part := [.cans]
def State.canTxeRead_fields : Option (List Field) := some [Reg.CAN_TXE0.RECORD, Reg.CAN_TXE1.RECORD, Reg.CAN_TXE2.RECORD, Reg.CAN_TXE_STATUS.COUNT]
theorem State.canTxeRead_effect (s : State) (p1 : Nat) :
    Effect State.canTxeRead_touch State.canTxeRead_fields s (@State.canTxeRead s p1) := by
  unfold State.canTxeRead
  split
  · refine Effect.after (State.wr_effect ..) (by decide +kernel) ?_
    exact Effect.refl _ _ _
  · extract_lets x1 x2 x3
    have h4 : Effect State.canTxeRead_touch State.canTxeRead_fields s x1 := by
      refine Effect.after (State.modCan_effect ..) (by decide +kernel) ?_
      exact Effect.refl _ _ _
    try clear_value x1
    have h5 : Effect State.canTxeRead_touch State.canTxeRead_fields s x2 := by
      refine Effect.after (State.wr_effect ..) (by decide +kernel) ?_
      exact h4
    try clear_value x2
    have h6 : Effect State.canTxeRead_touch State.canTxeRead_fields s x3 := by
      refine Effect.after (State.wr_effect ..) (by decide +kernel) ?_
      refine Effect.after (State.wr_effect ..) (by decide +kernel) ?_
      exact h5
    try clear_value x3
    refine Effect.after (State.wr_effect ..) (by decide +kernel) ?_
    exact h6

def State.readEffect_touch : List Part := [.hold, .eths, .cans]
def State.readEffect_fields : Option (List Field) := some [Reg.ADC_ENTRY_VALUE.VALUE, Reg.TIME_PTP_NS.VALUE, Reg.TIME_PTP_SEC_LO.VALUE, Reg.TIME_PTP_SEC_HI.VALUE, Reg.TIME_PTP_FRAC.VALUE, Reg.ETH_TXTS.ENTRY, Reg.ETH_TXTS_STATUS.COUNT, Reg.CAN_TXE0.RECORD, Reg.CAN_TXE1.RECORD, Reg.CAN_TXE2.RECORD, Reg.CAN_TXE_STATUS.COUNT]
theorem State.readEffect_effect (s : State) (p1 : Nat) :
    Effect State.readEffect_touch State.readEffect_fields s (@State.readEffect s p1) := by
  unfold State.readEffect
  extract_lets x1
  have h2 : Effect State.readEffect_touch State.readEffect_fields s x1 := by
    refine Effect.after (State.splitRead_effect ..) (by decide +kernel) ?_
    exact Effect.refl _ _ _
  try clear_value x1
  split
  · split
    · refine Effect.after (State.histRead_effect ..) (by decide +kernel) ?_
      exact h2
    · refine Effect.after (State.ptpLatch_effect ..) (by decide +kernel) ?_
      exact h2
    · refine Effect.ite ?_ ?_
      · refine Effect.after (State.txtsRead_effect ..) (by decide +kernel) ?_
        exact h2
      · exact h2
    · refine Effect.ite ?_ ?_
      · refine Effect.after (State.adcRead_effect ..) (by decide +kernel) ?_
        exact h2
      · refine Effect.ite ?_ ?_
        · refine Effect.after (State.canTxeRead_effect ..) (by decide +kernel) ?_
          exact h2
        · exact h2
  · exact h2

def State.hostRead_touch : List Part := [.hold, .eths, .cans]
def State.hostRead_fields : Option (List Field) := some [Reg.ADC_ENTRY_VALUE.VALUE, Reg.TIME_PTP_NS.VALUE, Reg.TIME_PTP_SEC_LO.VALUE, Reg.TIME_PTP_SEC_HI.VALUE, Reg.TIME_PTP_FRAC.VALUE, Reg.ETH_TXTS.ENTRY, Reg.ETH_TXTS_STATUS.COUNT, Reg.CAN_TXE0.RECORD, Reg.CAN_TXE1.RECORD, Reg.CAN_TXE2.RECORD, Reg.CAN_TXE_STATUS.COUNT]
theorem State.hostRead_effect (s : State) (p1 : Nat) (p2 : Nat) :
    Effect State.hostRead_touch State.hostRead_fields s (@State.hostRead s p1 p2).2 := by
  unfold State.hostRead
  extract_lets x1
  have h2 : Effect State.hostRead_touch State.hostRead_fields s x1 := by
    refine Effect.after (State.readEffect_effect ..) (by decide +kernel) ?_
    exact Effect.refl _ _ _
  try clear_value x1
  refine Effect.ite2 ?_ ?_
  · refine Effect.snd ?_
    exact Effect.refl _ _ _
  · split
    · refine Effect.snd ?_
      refine Effect.after (Effect.hold _ _ _) (by decide +kernel) ?_
      exact Effect.refl _ _ _
    · refine Effect.snd ?_
      exact h2

def State.readWords_touch : List Part := [.hold, .eths, .cans]
def State.readWords_fields : Option (List Field) := (some [Reg.ADC_ENTRY_VALUE.VALUE, Reg.TIME_PTP_NS.VALUE, Reg.TIME_PTP_SEC_LO.VALUE, Reg.TIME_PTP_SEC_HI.VALUE, Reg.TIME_PTP_FRAC.VALUE, Reg.ETH_TXTS.ENTRY, Reg.ETH_TXTS_STATUS.COUNT, Reg.CAN_TXE0.RECORD, Reg.CAN_TXE1.RECORD, Reg.CAN_TXE2.RECORD, Reg.CAN_TXE_STATUS.COUNT])
theorem State.readWords_effect (s : State) (a n : Nat) :
    Effect State.readWords_touch State.readWords_fields s (s.readWords a n).2 := by
  induction n generalizing s a with
  | zero => exact Effect.refl _ _ _
  | succ n ih => exact ((State.hostRead_effect s a 4).widen (by decide +kernel)).step (ih _ _) (Effect.fits_refl _ _)

def State.denied_touch : List Part := []
def State.denied_fields : Option (List Field) := some [Reg.BB_COUNT.DENIED]
theorem State.denied_effect (s : State) (p1 : Nat) :
    Effect State.denied_touch State.denied_fields s (@State.denied s p1) := by
  unfold State.denied
  refine Effect.after (State.bump_effect ..) (by decide +kernel) ?_
  exact Effect.refl _ _ _

def State.bbRead_touch : List Part := [.hold, .host, .eths, .cans, .out]
def State.bbRead_fields : Option (List Field) := some [Reg.ADC_ENTRY_VALUE.VALUE, Reg.TIME_PTP_NS.VALUE, Reg.TIME_PTP_SEC_LO.VALUE, Reg.TIME_PTP_SEC_HI.VALUE, Reg.TIME_PTP_FRAC.VALUE, Reg.ETH_TXTS.ENTRY, Reg.ETH_TXTS_STATUS.COUNT, Reg.CAN_TXE0.RECORD, Reg.CAN_TXE1.RECORD, Reg.CAN_TXE2.RECORD, Reg.CAN_TXE_STATUS.COUNT, Reg.BB_STATUS.TX_IDLE, Reg.BB_COUNT.DENIED]
theorem State.bbRead_effect (s : State) (p1 : Nat) (p2 : Nat) (p3 : List Byte) :
    Effect State.bbRead_touch State.bbRead_fields s (@State.bbRead s p1 p2 p3) := by
  unfold State.bbRead
  extract_lets x1
  try clear_value x1
  split
  · exact Effect.refl _ _ _
  · refine Effect.ite ?_ ?_
    · split
      rename_i a3 u4 q5
      have h2 : Effect State.bbRead_touch State.bbRead_fields s u4 := by
        refine Effect.of_pair q5 ?_
        refine Effect.after (State.readWords_effect ..) (by decide +kernel) ?_
        exact Effect.refl _ _ _
      refine Effect.after (State.send_effect ..) (by decide +kernel) ?_
      exact h2
    · refine Effect.after (State.send_effect ..) (by decide +kernel) ?_
      refine Effect.after (State.denied_effect ..) (by decide +kernel) ?_
      exact Effect.refl _ _ _

def State.commitBackbone_touch : List Part := [.host]
def State.commitBackbone_fields : Option (List Field) := some [Reg.REF_PAIR.ENABLED, Reg.BB_CTRL.EN, Reg.BB_CTRL.PAIR, Reg.BB_CTRL.IDLE_US, Reg.BB_STATUS.UP, Reg.BB_STATUS.TX_IDLE, Reg.BB_STATUS.CLOCK, Reg.BB_EVENT.EVENTS, Reg.BB_PARTNER.NODE, Reg.BB_PARTNER.RIGHTS]
theorem State.commitBackbone_effect (s : State) (p1 : Option BbCfg) :
    Effect State.commitBackbone_touch State.commitBackbone_fields s (@State.commitBackbone s p1) := by
  unfold State.commitBackbone
  extract_lets x1 x2 x3 x4 x5 x6
  have h7 : Effect State.commitBackbone_touch State.commitBackbone_fields s x3 := by
    refine Effect.each ?_ ?_
    · exact Effect.refl _ _ _
    · intro u8 a9
      try beta_reduce
      extract_lets x10 x11
      have h12 : Effect State.commitBackbone_touch State.commitBackbone_fields u8 x11 := by
        refine Effect.after (State.wr_effect ..) (by decide +kernel) ?_
        refine Effect.after (State.wr_effect ..) (by decide +kernel) ?_
        refine Effect.after (State.wr_effect ..) (by decide +kernel) ?_
        exact Effect.refl _ _ _
      try clear_value x11
      try clear_value x10
      refine Effect.when ?_ ?_
      · exact h12
      · intro u13
        try beta_reduce
        refine Effect.after (State.portIdle_effect ..) (by decide +kernel) ?_
        exact Effect.refl _ _ _
  try clear_value x3
  have h15 : Effect State.commitBackbone_touch State.commitBackbone_fields s x4 := by
    refine Effect.each ?_ ?_
    · exact h7
    · intro u16 a17
      try beta_reduce
      refine Effect.after (State.wr_effect ..) (by decide +kernel) ?_
      refine Effect.after (State.wr_effect ..) (by decide +kernel) ?_
      exact Effect.refl _ _ _
  try clear_value x4
  have h18 : Effect State.commitBackbone_touch State.commitBackbone_fields s x5 := by
    refine Effect.after (State.wr_effect ..) (by decide +kernel) ?_
    exact h15
  try clear_value x5
  try clear_value x1 x2 x6
  refine Effect.after (Effect.host _ _) (by decide +kernel) ?_
  exact h18

def State.chopFail_touch : List Part := [.faults, .drives, .motors]
def State.chopFail_fields : Option (List Field) := some [Reg.COLLECT_STATUS_LO.STATUS, Reg.COLLECT_STATUS_HI.STATUS, Reg.FAULT_COUNT_CORR.COUNT, Reg.FAULT_COUNT_CONT.COUNT, Reg.FAULT_COUNT_FATAL.COUNT, Reg.FAULT_EVENT.CORRECTED, Reg.FAULT_EVENT.CONTAINED, Reg.FAULT_EVENT.FATAL, Reg.FAULT_EVENT.HIST_LOST, Reg.FAULT_HIST_STATUS.LOST, Reg.DRV_STATUS.LEG_FAULT, Reg.DRV_CARRIER_ACT.TOP, Reg.DRV_LEG_STATUS.CMP_ACT, Reg.DRV_LEG_STATUS.DESAT_HS, Reg.DRV_LEG_STATUS.DESAT_LS, Reg.DRV_LEG_STATUS.INSTANT, Reg.DRV_LEG_STATUS.VB_UV, Reg.DRV_LEG_STATUS.GATES_OFF, Reg.DRV_LEG_STATUS.MODE_ACT, Reg.MOT_STATE.STATE, Reg.MOT_STATE.CHOP_FAULT, Reg.MOT_BUS.CHOP_D, Reg.MOT_COUNT.CHOP_FAULTS, Reg.MOT_EVENT.STATE, Reg.MOT_EVENT.OBS_LOST, Reg.MOT_EVENT.CHOP_FAULT]
theorem State.chopFail_effect (s : State) (p1 : Nat) :
    Effect State.chopFail_touch State.chopFail_fields s (@State.chopFail s p1) := by
  unfold State.chopFail
  extract_lets x1 x2 x3 x4 x5
  have h6 : Effect State.chopFail_touch State.chopFail_fields s x1 := by
    refine Effect.when ?_ ?_
    · exact Effect.refl _ _ _
    · intro u7
      try beta_reduce
      refine Effect.after (State.bump_effect ..) (by decide +kernel) ?_
      refine Effect.after (State.wr_effect ..) (by decide +kernel) ?_
      refine Effect.after (State.wr_effect ..) (by decide +kernel) ?_
      exact Effect.refl _ _ _
  try clear_value x1
  have h9 : Effect State.chopFail_touch State.chopFail_fields s x2 := by
    refine Effect.after (State.modMot_effect ..) (by decide +kernel) ?_
    exact h6
  try clear_value x2
  have h10 : Effect State.chopFail_touch State.chopFail_fields s x3 := by
    refine Effect.after (State.command_effect ..) (by decide +kernel) ?_
    refine Effect.after (State.wr_effect ..) (by decide +kernel) ?_
    exact h9
  try clear_value x3
  have h11 : Effect State.chopFail_touch State.chopFail_fields s x5 := by
    refine Effect.ite ?_ ?_
    · refine Effect.after (State.motTo_effect ..) (by decide +kernel) ?_
      exact h10
    · exact h10
  try clear_value x5
  try clear_value x4
  refine Effect.after (State.motGates_effect ..) (by decide +kernel) ?_
  exact h11

def State.driveHeat_touch : List Part := []
def State.driveHeat_fields : Option (List Field) := some [Reg.THERMAL_DRIVE.UNIT, Reg.THERMAL_EVENT.EVENTS]
theorem State.driveHeat_effect (s : State) (p1 : Nat) :
    Effect State.driveHeat_touch State.driveHeat_fields s (@State.driveHeat s p1) := by
  unfold State.driveHeat
  extract_lets x1 x2 x3 x4 x5 x6 x7 x8
  have h9 : Effect State.driveHeat_touch State.driveHeat_fields s x7 := by
    refine Effect.after (State.wr_effect ..) (by decide +kernel) ?_
    exact Effect.refl _ _ _
  try clear_value x7
  have h10 : Effect State.driveHeat_touch State.driveHeat_fields s x8 := by
    refine Effect.when ?_ ?_
    · exact h9
    · intro u11
      try beta_reduce
      refine Effect.after (State.evBit_effect ..) (by decide +kernel) ?_
      exact Effect.refl _ _ _
  try clear_value x8
  try clear_value x1 x2 x3 x4 x5 x6
  refine Effect.when ?_ ?_
  · exact h10
  · intro u13
    try beta_reduce
    refine Effect.after (State.evBit_effect ..) (by decide +kernel) ?_
    exact Effect.refl _ _ _

def State.ckptBegin_touch : List Part := [.referee]
def State.ckptBegin_fields : Option (List Field) := some [Reg.REF_CKPT.NEWEST, Reg.REF_CKPT.VALID0, Reg.REF_CKPT.VALID1, Reg.REF_CKPT_SEQ.SEQ]
theorem State.ckptBegin_effect (s : State) :
    Effect State.ckptBegin_touch State.ckptBegin_fields s (@State.ckptBegin s) := by
  unfold State.ckptBegin
  refine Effect.ite ?_ ?_
  · exact Effect.refl _ _ _
  · split
    · extract_lets x1
      try clear_value x1
      refine Effect.after (State.modRef_effect ..) (by decide +kernel) ?_
      refine Effect.after (State.setHalf_effect ..) (by decide +kernel) ?_
      exact Effect.refl _ _ _

def State.toSetup_touch : List Part := [.power, .engs, .referee]
def State.toSetup_fields : Option (List Field) := some [Reg.DOMAIN_STATE.PLANE_A, Reg.DOMAIN_STATE.PLANE_B, Reg.POWER_PGOOD.PGOOD, Reg.REF_STATUS.STATE, Reg.REF_STATUS.ROLE_A, Reg.REF_STATUS.ROLE_B, Reg.REF_STATUS.LEASE, Reg.REF_EVENT.UNFIT, Reg.ENG_STATUS.BALL, Reg.ENG_STATUS.SHADOW, Reg.ENG_STATUS.COLD, Reg.ENG_EXPORT.VALUE]
theorem State.toSetup_effect (s : State) :
    Effect State.toSetup_touch State.toSetup_fields s (@State.toSetup s) := by
  unfold State.toSetup
  extract_lets x1 x2
  have h3 : Effect State.toSetup_touch State.toSetup_fields s x1 := by
    refine Effect.after (State.setRole_effect ..) (by decide +kernel) ?_
    refine Effect.after (State.setRole_effect ..) (by decide +kernel) ?_
    exact Effect.refl _ _ _
  try clear_value x1
  have h4 : Effect State.toSetup_touch State.toSetup_fields s x2 := by
    refine Effect.after (State.modRef_effect ..) (by decide +kernel) ?_
    exact h3
  try clear_value x2
  refine Effect.after (State.wr_effect ..) (by decide +kernel) ?_
  refine Effect.when ?_ ?_
  · exact h4
  · intro u5
    try beta_reduce
    refine Effect.after (State.wr_effect ..) (by decide +kernel) ?_
    exact Effect.refl _ _ _

def State.rampTo_touch : List Part := [.motors]
def State.rampTo_fields : Option (List Field) := some [Reg.MOT_STATE.VLIMIT, Reg.MOT_SPEED.REF, Reg.MOT_EVENT.VLIMIT]
theorem State.rampTo_effect (s : State) (p1 : Nat) (p2 : MotCfg) (p3 : Int) :
    Effect State.rampTo_touch State.rampTo_fields s (@State.rampTo s p1 p2 p3) := by
  unfold State.rampTo
  extract_lets x1 x2 x3 x4 x5 x6 x7 x8
  have h9 : Effect State.rampTo_touch State.rampTo_fields s x7 := by
    refine Effect.after (State.modMot_effect ..) (by decide +kernel) ?_
    exact Effect.refl _ _ _
  try clear_value x7
  have h10 : Effect State.rampTo_touch State.rampTo_fields s x8 := by
    refine Effect.when ?_ ?_
    · exact h9
    · intro u11
      try beta_reduce
      refine Effect.after (State.wr_effect ..) (by decide +kernel) ?_
      exact Effect.refl _ _ _
  try clear_value x8
  try clear_value x1 x2 x3 x4 x5 x6
  refine Effect.after (State.wrS_effect ..) (by decide +kernel) ?_
  refine Effect.after (State.wr_effect ..) (by decide +kernel) ?_
  exact h10

def State.keepCopy_touch : List Part := [.time]
def State.keepCopy_fields : Option (List Field) := some []
theorem State.keepCopy_effect (s : State) :
    Effect State.keepCopy_touch State.keepCopy_fields s (@State.keepCopy s) := by
  unfold State.keepCopy
  extract_lets x1
  try clear_value x1
  refine Effect.after (Effect.time _ _) (by decide +kernel) ?_
  exact Effect.refl _ _ _

def State.showImage_touch : List Part := []
def State.showImage_fields : Option (List Field) := some [Reg.IMAGE_ID_LO.ID, Reg.IMAGE_ID_HI.ID, Reg.IMAGE_INFO.VERSION, Reg.IMAGE_SIZE.SIZE, Reg.IMAGE_KEY.SLOT_USED, Reg.IMAGE_KEY.EPOCH_IMAGE]
theorem State.showImage_effect (s : State) (p1 : Cfg) :
    Effect State.showImage_touch State.showImage_fields s (@State.showImage s p1) := by
  unfold State.showImage
  extract_lets x1
  have h2 : Effect State.showImage_touch State.showImage_fields s x1 := by
    refine Effect.after (State.wr_effect ..) (by decide +kernel) ?_
    refine Effect.after (State.wr64_effect ..) (by decide +kernel) ?_
    exact Effect.refl _ _ _
  try clear_value x1
  refine Effect.after (State.wr_effect ..) (by decide +kernel) ?_
  refine Effect.after (State.wr_effect ..) (by decide +kernel) ?_
  refine Effect.after (State.wr_effect ..) (by decide +kernel) ?_
  exact h2

def State.showLatch_touch : List Part := [.faults, .drives, .motors]
def State.showLatch_fields : Option (List Field) := some [Reg.COLLECT_STATUS_LO.STATUS, Reg.COLLECT_STATUS_HI.STATUS, Reg.FAULT_COUNT_CORR.COUNT, Reg.FAULT_COUNT_CONT.COUNT, Reg.FAULT_COUNT_FATAL.COUNT, Reg.FAULT_EVENT.CORRECTED, Reg.FAULT_EVENT.CONTAINED, Reg.FAULT_EVENT.FATAL, Reg.FAULT_EVENT.HIST_LOST, Reg.FAULT_HIST_STATUS.LOST, Reg.DRV_STATUS.LATCHED, Reg.DRV_STATUS.LATCH_CAUSE, Reg.DRV_STATUS.LEG_FAULT, Reg.DRV_CARRIER_ACT.TOP, Reg.DRV_LEG_STATUS.CMP_ACT, Reg.DRV_LEG_STATUS.DESAT_HS, Reg.DRV_LEG_STATUS.DESAT_LS, Reg.DRV_LEG_STATUS.INSTANT, Reg.DRV_LEG_STATUS.VB_UV, Reg.DRV_LEG_STATUS.GATES_OFF, Reg.DRV_LEG_STATUS.MODE_ACT, Reg.DRV_EVENT.LATCH, Reg.MOT_STATE.STATE, Reg.MOT_EVENT.STATE, Reg.MOT_EVENT.OBS_LOST]
theorem State.showLatch_effect (s : State) (p1 : Nat) :
    Effect State.showLatch_touch State.showLatch_fields s (@State.showLatch s p1) := by
  unfold State.showLatch
  extract_lets x1 x2 x3 x4
  have h5 : Effect State.showLatch_touch State.showLatch_fields s x2 := by
    refine Effect.after (State.wr_effect ..) (by decide +kernel) ?_
    refine Effect.after (State.wr_effect ..) (by decide +kernel) ?_
    refine Effect.after (State.wr_effect ..) (by decide +kernel) ?_
    exact Effect.refl _ _ _
  try clear_value x2
  have h6 : Effect State.showLatch_touch State.showLatch_fields s x3 := by
    refine Effect.after (State.raise_effect ..) (by decide +kernel) ?_
    exact h5
  try clear_value x3
  have h7 : Effect State.showLatch_touch State.showLatch_fields s x4 := by
    refine Effect.when ?_ ?_
    · exact h6
    · intro u8
      try beta_reduce
      refine Effect.after (State.motGates_effect ..) (by decide +kernel) ?_
      refine Effect.after (State.motTo_effect ..) (by decide +kernel) ?_
      exact Effect.refl _ _ _
  try clear_value x4
  try clear_value x1
  refine Effect.ite ?_ ?_
  · exact Effect.refl _ _ _
  · refine Effect.after (State.showActive_effect ..) (by decide +kernel) ?_
    exact h7

def State.modelCell_touch : List Part := [.cells]
def State.modelCell_fields : Option (List Field) := some [Reg.CELL_TEMP.TJ]
theorem State.modelCell_effect (s : State) (p1 : ArmCfg) (p2 : Int) (p3 : Nat) (p4 : Nat) :
    Effect State.modelCell_touch State.modelCell_fields s (@State.modelCell s p1 p2 p3 p4) := by
  unfold State.modelCell
  extract_lets x1 x2 x3 x4 x5 x6 x7
  have h8 : Effect State.modelCell_touch State.modelCell_fields s x6 := by
    refine Effect.after (State.modCell_effect ..) (by decide +kernel) ?_
    exact Effect.refl _ _ _
  try clear_value x6
  try clear_value x1 x2 x3 x4 x5 x7
  refine Effect.ite ?_ ?_
  · split
    · refine Effect.after (State.wr_effect ..) (by decide +kernel) ?_
      refine Effect.after (State.modCell_effect ..) (by decide +kernel) ?_
      exact h8
  · exact h8

def State.free_touch : List Part := [.drawn]
def State.free_fields : Option (List Field) := some []
theorem State.free_effect (s : State) (p1 : Option Nat) :
    Effect State.free_touch State.free_fields s (@State.free s p1).2 := by
  unfold State.free
  split
  · refine Effect.snd ?_
    exact Effect.refl _ _ _
  · refine Effect.after (State.draw_effect ..) (by decide +kernel) ?_
    exact Effect.refl _ _ _

def State.rankArm_touch : List Part := [.cells, .arms, .drawn]
def State.rankArm_fields : Option (List Field) := some [Reg.ARM_STATUS.FLAGS, Reg.ARM_STATUS.ACTIVE, Reg.ARM_LEVEL.N_FULL, Reg.ARM_LEVEL.N_NL, Reg.ARM_TRIM.FRAC, Reg.ARM_TRIM.TRIM, Reg.ARM_PTR.PTR, Reg.ARM_PTR.ELIGIBLE, Reg.ARM_SHORT.SHORT, Reg.ARM_SHORT.FRAMES, Reg.ARM_DWELL.MOVED, Reg.ARM_DWELL.DEFERRED, Reg.ARM_SWITCHED.LAST, Reg.ARM_TJ.TJ_MAX, Reg.ARM_TJ.TJ_MEAN, Reg.ARM_TJ_CELL.CELL, Reg.ARM_IARM.I, Reg.ARM_VREF.V, Reg.ARM_EVENT.SHORTFALL, Reg.ARM_EVENT.DEFER, Reg.ARM_EVENT.COAST, Reg.ARM_EVENT.I_HELD, Reg.CELL_STATE.EXCLUDED, Reg.CELL_TEMP.TJ, Reg.CELL_COUNT.EXCLUDED]
theorem State.rankArm_effect (s : State) (p1 : ArmCfg) (p2 : Bool) (p3 : Bool) (p4 : Nat) (p5 : Int) (p6 : Bool) :
    Effect State.rankArm_touch State.rankArm_fields s (@State.rankArm s p1 p2 p3 p4 p5 p6) := by
  unfold State.rankArm
  extract_lets x1 x2 x3 x4 x5 x6 x7 x8 x9 x10 x11 x12 x13 x14 x15 x16 x17 x18 x19 x20 x21 x22 x23 x24 x25 x26 x27 x28 x29 x30 x31 x32 x33 x34 x35 x36 x37 x38 x39 x40 x41 x42
  have h43 : Effect State.rankArm_touch State.rankArm_fields s x3 := by
    refine Effect.after (State.modArm_effect ..) (by decide +kernel) ?_
    exact Effect.refl _ _ _
  try clear_value x3
  have h44 : Effect State.rankArm_touch State.rankArm_fields s x7 := by
    refine Effect.each ?_ ?_
    · exact h43
    · intro u45 a46
      try beta_reduce
      refine Effect.after (State.modelCell_effect ..) (by decide +kernel) ?_
      exact Effect.refl _ _ _
  try clear_value x7
  have h47 : Effect State.rankArm_touch State.rankArm_fields s x14 := by
    refine Effect.each ?_ ?_
    · exact h44
    · intro u48 a49
      try beta_reduce
      refine Effect.after (State.wr_effect ..) (by decide +kernel) ?_
      exact Effect.refl _ _ _
  try clear_value x14
  have h50 : Effect State.rankArm_touch State.rankArm_fields s x15 := by
    refine Effect.each ?_ ?_
    · exact h47
    · intro u51 a52
      try beta_reduce
      refine Effect.after (State.bump_effect ..) (by decide +kernel) ?_
      exact Effect.refl _ _ _
  try clear_value x15
  have h53 : Effect State.rankArm_touch State.rankArm_fields s x22 := by
    refine Effect.each ?_ ?_
    · exact h50
    · intro u54 a55
      try beta_reduce
      extract_lets x56 x57 x58 x59
      try clear_value x56 x57 x58 x59
      refine Effect.after (State.modCell_effect ..) (by decide +kernel) ?_
      exact Effect.refl _ _ _
  try clear_value x22
  have h60 : Effect State.rankArm_touch State.rankArm_fields s x26.2 := by
    refine Effect.after (State.free_effect ..) (by decide +kernel) ?_
    exact h53
  try clear_value x26
  have h61 : Effect State.rankArm_touch State.rankArm_fields s x27.2 := by
    refine Effect.after (State.free_effect ..) (by decide +kernel) ?_
    exact h60
  try clear_value x27
  have h62 : Effect State.rankArm_touch State.rankArm_fields s x28.2 := by
    refine Effect.after (State.free_effect ..) (by decide +kernel) ?_
    exact h61
  try clear_value x28
  have h63 : Effect State.rankArm_touch State.rankArm_fields s x29.2 := by
    refine Effect.after (State.free_effect ..) (by decide +kernel) ?_
    exact h62
  try clear_value x29
  have h64 : Effect State.rankArm_touch State.rankArm_fields s x30.2 := by
    refine Effect.after (State.free_effect ..) (by decide +kernel) ?_
    exact h63
  try clear_value x30
  have h65 : Effect State.rankArm_touch State.rankArm_fields s x31 := by
    exact h64
  try clear_value x31
  have h66 : Effect State.rankArm_touch State.rankArm_fields s x38 := by
    refine Effect.when ?_ ?_
    · exact h65
    · intro u67
      try beta_reduce
      refine Effect.after (State.wr_effect ..) (by decide +kernel) ?_
      exact Effect.refl _ _ _
  try clear_value x38
  have h69 : Effect State.rankArm_touch State.rankArm_fields s x39 := by
    refine Effect.when ?_ ?_
    · exact h66
    · intro u70
      try beta_reduce
      refine Effect.after (State.wr_effect ..) (by decide +kernel) ?_
      exact Effect.refl _ _ _
  try clear_value x39
  have h72 : Effect State.rankArm_touch State.rankArm_fields s x40 := by
    refine Effect.when ?_ ?_
    · exact h69
    · intro u73
      try beta_reduce
      refine Effect.after (State.wr_effect ..) (by decide +kernel) ?_
      exact Effect.refl _ _ _
  try clear_value x40
  have h75 : Effect State.rankArm_touch State.rankArm_fields s x41 := by
    refine Effect.when ?_ ?_
    · exact h72
    · intro u76
      try beta_reduce
      refine Effect.after (State.wr_effect ..) (by decide +kernel) ?_
      exact Effect.refl _ _ _
  try clear_value x41
  have h78 : Effect State.rankArm_touch State.rankArm_fields s x42 := by
    refine Effect.after (State.showSummary_effect ..) (by decide +kernel) ?_
    exact h75
  try clear_value x42
  try clear_value x1 x2 x4 x5 x6 x8 x9 x10 x11 x12 x13 x16 x17 x18 x19 x20 x21 x23 x24 x25 x32 x33 x34 x35 x37
  refine Effect.after (State.modArm_effect ..) (by decide +kernel) ?_
  exact h78

def State.clearSheet_touch : List Part := []
def State.clearSheet_fields : Option (List Field) := some sheetFields
theorem State.clearSheet_effect (s : State) (n : Nat) : Effect State.clearSheet_touch State.clearSheet_fields s (s.clearSheet n) :=
  State.fields_effect s sheetFields _ fun u f => State.wr_effect u f 0 n 0

def State.foundExtra_touch : List Part := [.faults, .chains]
def State.foundExtra_fields : Option (List Field) := some [Reg.COLLECT_STATUS_LO.STATUS, Reg.COLLECT_STATUS_HI.STATUS, Reg.FAULT_COUNT_CORR.COUNT, Reg.FAULT_COUNT_CONT.COUNT, Reg.FAULT_COUNT_FATAL.COUNT, Reg.FAULT_EVENT.CORRECTED, Reg.FAULT_EVENT.CONTAINED, Reg.FAULT_EVENT.FATAL, Reg.FAULT_EVENT.HIST_LOST, Reg.FAULT_HIST_STATUS.LOST, Reg.LANE_EVENT.UNROSTERED, Reg.CELL_UNROSTERED_LO.CHAINS, Reg.CELL_UNROSTERED_HI.CHAINS, Reg.CELL_EVENT.UNROSTERED]
theorem State.foundExtra_effect (s : State) (p1 : Nat) :
    Effect State.foundExtra_touch State.foundExtra_fields s (@State.foundExtra s p1) := by
  unfold State.foundExtra
  extract_lets x1 x2
  have h3 : Effect State.foundExtra_touch State.foundExtra_fields s x1 := by
    refine Effect.after (State.modChain_effect ..) (by decide +kernel) ?_
    exact Effect.refl _ _ _
  try clear_value x1
  have h4 : Effect State.foundExtra_touch State.foundExtra_fields s x2 := by
    refine Effect.ite ?_ ?_
    · refine Effect.after (State.evBit_effect ..) (by decide +kernel) ?_
      exact h3
    · refine Effect.after (State.evBit_effect ..) (by decide +kernel) ?_
      exact h3
  try clear_value x2
  refine Effect.ite ?_ ?_
  · exact Effect.refl _ _ _
  · refine Effect.after (State.raise_effect ..) (by decide +kernel) ?_
    refine Effect.after (State.wr_effect ..) (by decide +kernel) ?_
    refine Effect.after (State.wr_effect ..) (by decide +kernel) ?_
    exact h4

def State.planChain_touch : List Part := [.faults, .lanes]
def State.planChain_fields : Option (List Field) := some [Reg.COLLECT_STATUS_LO.STATUS, Reg.COLLECT_STATUS_HI.STATUS, Reg.FAULT_COUNT_CORR.COUNT, Reg.FAULT_COUNT_CONT.COUNT, Reg.FAULT_COUNT_FATAL.COUNT, Reg.FAULT_EVENT.CORRECTED, Reg.FAULT_EVENT.CONTAINED, Reg.FAULT_EVENT.FATAL, Reg.FAULT_EVENT.HIST_LOST, Reg.FAULT_HIST_STATUS.LOST, Reg.LANE_STATUS.CHAIN_LATE, Reg.LANE_STATUS.SERVED, Reg.LANE_STATUS.FIRST_Q, Reg.LANE_UPBASE.U, Reg.LANE_BUDGET.DELIVERY, Reg.LANE_BUDGET.COMPLETION, Reg.LANE_EVENT.CHAIN_LATE]
theorem State.planChain_effect (s : State) (p1 : Nat) :
    Effect State.planChain_touch State.planChain_fields s (@State.planChain s p1) := by
  unfold State.planChain
  refine Effect.after (State.planLane_effect ..) (by decide +kernel) ?_
  refine Effect.after (State.planLane_effect ..) (by decide +kernel) ?_
  exact Effect.refl _ _ _

def State.callupLoop_touch : List Part := [.faults, .lanes, .chains]
def State.callupLoop_fields : Option (List Field) := some [Reg.COLLECT_STATUS_LO.STATUS, Reg.COLLECT_STATUS_HI.STATUS, Reg.FAULT_COUNT_CORR.COUNT, Reg.FAULT_COUNT_CONT.COUNT, Reg.FAULT_COUNT_FATAL.COUNT, Reg.FAULT_EVENT.CORRECTED, Reg.FAULT_EVENT.CONTAINED, Reg.FAULT_EVENT.FATAL, Reg.FAULT_EVENT.HIST_LOST, Reg.FAULT_HIST_STATUS.LOST, Reg.LANE_STATUS.CHAIN_LATE, Reg.LANE_STATUS.SERVED, Reg.LANE_STATUS.FIRST_Q, Reg.LANE_CHAIN.PHYS, Reg.LANE_CHAIN.LOOPED, Reg.LANE_UPBASE.U, Reg.LANE_BUDGET.DELIVERY, Reg.LANE_BUDGET.COMPLETION, Reg.LANE_LOOP.LOOP_NS, Reg.LANE_EVENT.CHAIN_LATE, Reg.LANE_EVENT.UNROSTERED, Reg.CELL_UNROSTERED_LO.CHAINS, Reg.CELL_UNROSTERED_HI.CHAINS, Reg.CELL_EVENT.UNROSTERED]
theorem State.callupLoop_effect (s : State) (p1 : Nat) (p2 : Nat) (p3 : Nat) :
    Effect State.callupLoop_touch State.callupLoop_fields s (@State.callupLoop s p1 p2 p3) := by
  unfold State.callupLoop
  split
  · extract_lets x1 x2
    have h3 : Effect State.callupLoop_touch State.callupLoop_fields s x2 := by
      refine Effect.after (State.wr_effect ..) (by decide +kernel) ?_
      refine Effect.after (State.wr_effect ..) (by decide +kernel) ?_
      exact Effect.refl _ _ _
    try clear_value x2
    try clear_value x1
    split
    · extract_lets x4 x5
      have h6 : Effect State.callupLoop_touch State.callupLoop_fields s x4 := by
        refine Effect.when ?_ ?_
        · exact h3
        · intro u7
          try beta_reduce
          refine Effect.after (State.wr_effect ..) (by decide +kernel) ?_
          exact Effect.refl _ _ _
      try clear_value x4
      have h9 : Effect State.callupLoop_touch State.callupLoop_fields s x5 := by
        refine Effect.when ?_ ?_
        · exact h6
        · intro u10
          try beta_reduce
          refine Effect.after (State.foundExtra_effect ..) (by decide +kernel) ?_
          exact Effect.refl _ _ _
      try clear_value x5
      refine Effect.ite ?_ ?_
      · exact Effect.refl _ _ _
      · refine Effect.after (State.planChain_effect ..) (by decide +kernel) ?_
        exact h9
    · exact Effect.refl _ _ _
  · exact Effect.refl _ _ _

def State.latchArm_touch : List Part := [.arms]
def State.latchArm_fields : Option (List Field) := some [Reg.ARM_VDC.V, Reg.ARM_VAC.V, Reg.ARM_VEXTRA.V, Reg.ARM_THETA.THETA, Reg.ARM_OMEGA.OMEGA, Reg.ARM_CAPINV.CAP_INV, Reg.ARM_PHASE.PHASE_REF, Reg.ARM_PHASE.PHASE_BAL, Reg.ARM_PHASE_LIM.LIM]
theorem State.latchArm_effect (s : State) (p1 : Nat) (p2 : Bool) :
    Effect State.latchArm_touch State.latchArm_fields s (@State.latchArm s p1 p2) := by
  unfold State.latchArm
  extract_lets x1
  have h2 : Effect State.latchArm_touch State.latchArm_fields s x1 := by
    refine Effect.after (State.modArm_effect ..) (by decide +kernel) ?_
    exact Effect.refl _ _ _
  try clear_value x1
  refine Effect.ite ?_ ?_
  · refine Effect.after (State.showBlock_effect ..) (by decide +kernel) ?_
    exact h2
  · exact h2

def State.recordWords_touch : List Part := [.out]
def State.recordWords_fields : Option (List Field) := some []
theorem State.recordWords_effect (s : State) (p1 : Nat) :
    Effect State.recordWords_touch State.recordWords_fields s (@State.recordWords s p1) := by
  unfold State.recordWords
  refine Effect.when ?_ ?_
  · exact Effect.refl _ _ _
  · intro u1
    try beta_reduce
    refine Effect.after (State.emit_effect ..) (by decide +kernel) ?_
    exact Effect.refl _ _ _

def State.latchWords_touch : List Part := [.faults, .arms, .convs]
def State.latchWords_fields : Option (List Field) := some [Reg.CONV_STATE.STATE, Reg.CONV_STATE.CAUSE, Reg.CONV_STATE.SLEWING, Reg.CONV_STATE_FRAME.FRAME, Reg.CONV_RESIDUAL.E, Reg.CONV_COUNT.BLOCKS, Reg.CONV_WORD.VALUE, Reg.CONV_EVENT.BLOCK, Reg.CONV_EVENT.RESYNC_FAIL, Reg.CONV_EVENT.COAST_LIMIT, Reg.CONV_EVENT_SRC.CONV, Reg.COLLECT_STATUS_LO.STATUS, Reg.COLLECT_STATUS_HI.STATUS, Reg.FAULT_COUNT_CORR.COUNT, Reg.FAULT_COUNT_CONT.COUNT, Reg.FAULT_COUNT_FATAL.COUNT, Reg.FAULT_EVENT.CORRECTED, Reg.FAULT_EVENT.CONTAINED, Reg.FAULT_EVENT.FATAL, Reg.FAULT_EVENT.HIST_LOST, Reg.FAULT_HIST_STATUS.LOST]
theorem State.latchWords_effect (s : State) (p1 : Nat) :
    Effect State.latchWords_touch State.latchWords_fields s (@State.latchWords s p1) := by
  unfold State.latchWords
  extract_lets x1 x2 x3 x4
  have h5 : Effect State.latchWords_touch State.latchWords_fields s x2 := by
    refine Effect.each ?_ ?_
    · exact Effect.refl _ _ _
    · intro u6 a7
      try beta_reduce
      refine Effect.after (State.wrS_effect ..) (by decide +kernel) ?_
      exact Effect.refl _ _ _
  try clear_value x2
  have h8 : Effect State.latchWords_touch State.latchWords_fields s x3 := by
    refine Effect.when ?_ ?_
    · exact h5
    · intro u9
      try beta_reduce
      refine Effect.after (State.modConv_effect ..) (by decide +kernel) ?_
      exact Effect.refl _ _ _
  try clear_value x3
  have h11 : Effect State.latchWords_touch State.latchWords_fields s x4 := by
    refine Effect.when ?_ ?_
    · exact h8
    · intro u12
      try beta_reduce
      refine Effect.after (State.modConv_effect ..) (by decide +kernel) ?_
      exact Effect.refl _ _ _
  try clear_value x4
  try clear_value x1
  refine Effect.ite ?_ ?_
  · refine Effect.after (State.blockConv_effect ..) (by decide +kernel) ?_
    exact h11
  · exact h11

def State.reentry_touch : List Part := [.faults, .arms, .convs]
def State.reentry_fields : Option (List Field) := some [Reg.CONV_STATE.STATE, Reg.CONV_STATE.CAUSE, Reg.CONV_STATE.SLEWING, Reg.CONV_STATE_FRAME.FRAME, Reg.CONV_DTHETA.DTHETA, Reg.CONV_RESIDUAL.E, Reg.CONV_COUNT.BLOCKS, Reg.CONV_COUNT.RESYNCS, Reg.CONV_EVENT.BLOCK, Reg.CONV_EVENT.RESYNC, Reg.CONV_EVENT.RESYNC_FAIL, Reg.CONV_EVENT.COAST_LIMIT, Reg.CONV_EVENT_SRC.CONV, Reg.COLLECT_STATUS_LO.STATUS, Reg.COLLECT_STATUS_HI.STATUS, Reg.FAULT_COUNT_CORR.COUNT, Reg.FAULT_COUNT_CONT.COUNT, Reg.FAULT_COUNT_FATAL.COUNT, Reg.FAULT_EVENT.CORRECTED, Reg.FAULT_EVENT.CONTAINED, Reg.FAULT_EVENT.FATAL, Reg.FAULT_EVENT.HIST_LOST, Reg.FAULT_HIST_STATUS.LOST]
theorem State.reentry_effect (s : State) (p1 : Nat) (p2 : List Nat) :
    Effect State.reentry_touch State.reentry_fields s (@State.reentry s p1 p2) := by
  unfold State.reentry
  extract_lets x1 x2 x3 x4 x5 x6 x7 x8 x9
  have h10 : Effect State.reentry_touch State.reentry_fields s x4 := by
    refine Effect.after (State.wrS_effect ..) (by decide +kernel) ?_
    exact Effect.refl _ _ _
  try clear_value x4
  have h11 : Effect State.reentry_touch State.reentry_fields s x7 := by
    refine Effect.after (State.modConv_effect ..) (by decide +kernel) ?_
    refine Effect.after (State.bump_effect ..) (by decide +kernel) ?_
    exact h10
  try clear_value x7
  have h12 : Effect State.reentry_touch State.reentry_fields s x9 := by
    refine Effect.after (State.raise_effect ..) (by decide +kernel) ?_
    refine Effect.after (State.convEvent_effect ..) (by decide +kernel) ?_
    refine Effect.after (State.setConv_effect ..) (by decide +kernel) ?_
    exact h11
  try clear_value x9
  try clear_value x1 x3 x5 x6 x8
  refine Effect.ite ?_ ?_
  · exact Effect.refl _ _ _
  · refine Effect.ite ?_ ?_
    · refine Effect.after (State.showResidual_effect ..) (by decide +kernel) ?_
      refine Effect.each ?_ ?_
      · exact h10
      · intro u13 a14
        try beta_reduce
        refine Effect.after (State.modArm_effect ..) (by decide +kernel) ?_
        exact Effect.refl _ _ _
    · refine Effect.ite ?_ ?_
      · refine Effect.after (State.blockConv_effect ..) (by decide +kernel) ?_
        exact h11
      · refine Effect.after (State.dropResiduals_effect ..) (by decide +kernel) ?_
        refine Effect.after (State.modConv_effect ..) (by decide +kernel) ?_
        exact h12

def State.coastLimit_touch : List Part := [.faults, .cells, .arms, .convs]
def State.coastLimit_fields : Option (List Field) := some [Reg.CONV_STATE.STATE, Reg.CONV_STATE.CAUSE, Reg.CONV_STATE.SLEWING, Reg.CONV_STATE_FRAME.FRAME, Reg.CONV_RESIDUAL.E, Reg.CONV_COUNT.BLOCKS, Reg.CONV_EVENT.BLOCK, Reg.CONV_EVENT.RESYNC_FAIL, Reg.CONV_EVENT.COAST_LIMIT, Reg.CONV_EVENT_SRC.CONV, Reg.COLLECT_STATUS_LO.STATUS, Reg.COLLECT_STATUS_HI.STATUS, Reg.FAULT_COUNT_CORR.COUNT, Reg.FAULT_COUNT_CONT.COUNT, Reg.FAULT_COUNT_FATAL.COUNT, Reg.FAULT_EVENT.CORRECTED, Reg.FAULT_EVENT.CONTAINED, Reg.FAULT_EVENT.FATAL, Reg.FAULT_EVENT.HIST_LOST, Reg.FAULT_HIST_STATUS.LOST, Reg.ARM_PTR.PTR]
theorem State.coastLimit_effect (s : State) (p1 : Nat) :
    Effect State.coastLimit_touch State.coastLimit_fields s (@State.coastLimit s p1) := by
  unfold State.coastLimit
  refine Effect.ite ?_ ?_
  · refine Effect.after (State.blockInRank_effect ..) (by decide +kernel) ?_
    exact Effect.refl _ _ _
  · exact Effect.refl _ _ _

def State.latchAll_touch : List Part := [.faults, .cells, .arms, .convs, .out]
def State.latchAll_fields : Option (List Field) := some [Reg.CONV_STATE.STATE, Reg.CONV_STATE.COAST, Reg.CONV_STATE.CAUSE, Reg.CONV_STATE.SLEWING, Reg.CONV_STATE_FRAME.FRAME, Reg.CONV_DTHETA.DTHETA, Reg.CONV_RESIDUAL.E, Reg.CONV_COUNT.BLOCKS, Reg.CONV_COUNT.RESYNCS, Reg.CONV_COUNT.COAST_MAX, Reg.CONV_WORD.VALUE, Reg.CONV_EVENT.BLOCK, Reg.CONV_EVENT.RESYNC, Reg.CONV_EVENT.RESYNC_FAIL, Reg.CONV_EVENT.COAST_LIMIT, Reg.CONV_EVENT_SRC.CONV, Reg.COLLECT_STATUS_LO.STATUS, Reg.COLLECT_STATUS_HI.STATUS, Reg.FAULT_COUNT_CORR.COUNT, Reg.FAULT_COUNT_CONT.COUNT, Reg.FAULT_COUNT_FATAL.COUNT, Reg.FAULT_EVENT.CORRECTED, Reg.FAULT_EVENT.CONTAINED, Reg.FAULT_EVENT.FATAL, Reg.FAULT_EVENT.HIST_LOST, Reg.FAULT_HIST_STATUS.LOST, Reg.ARM_VDC.V, Reg.ARM_VAC.V, Reg.ARM_VEXTRA.V, Reg.ARM_THETA.THETA, Reg.ARM_OMEGA.OMEGA, Reg.ARM_CAPINV.CAP_INV, Reg.ARM_PHASE.PHASE_REF, Reg.ARM_PHASE.PHASE_BAL, Reg.ARM_PHASE_LIM.LIM, Reg.ARM_PTR.PTR]
theorem State.latchAll_effect (s : State) (p1 : Bool) :
    Effect State.latchAll_touch State.latchAll_fields s (@State.latchAll s p1) := by
  unfold State.latchAll
  extract_lets x1 x2 x3 x4 x5
  have h6 : Effect State.latchAll_touch State.latchAll_fields s x2 := by
    refine Effect.each ?_ ?_
    · exact Effect.refl _ _ _
    · intro u7 a8
      try beta_reduce
      refine Effect.after (State.latchArm_effect ..) (by decide +kernel) ?_
      exact Effect.refl _ _ _
  try clear_value x2
  have h9 : Effect State.latchAll_touch State.latchAll_fields s x3 := by
    refine Effect.each ?_ ?_
    · exact h6
    · intro u10 a11
      try beta_reduce
      split
      · refine Effect.after (State.modConv_effect ..) (by decide +kernel) ?_
        refine Effect.after (State.blockConv_effect ..) (by decide +kernel) ?_
        exact Effect.refl _ _ _
      · exact Effect.refl _ _ _
  try clear_value x3
  have h12 : Effect State.latchAll_touch State.latchAll_fields s x4 := by
    refine Effect.ite ?_ ?_
    · exact h9
    · refine Effect.each ?_ ?_
      · exact h9
      · intro u13 a14
        try beta_reduce
        refine Effect.after (State.recordWords_effect ..) (by decide +kernel) ?_
        refine Effect.after (State.latchWords_effect ..) (by decide +kernel) ?_
        refine Effect.after (State.reentry_effect ..) (by decide +kernel) ?_
        exact Effect.refl _ _ _
  try clear_value x4
  have h15 : Effect State.latchAll_touch State.latchAll_fields s x5 := by
    refine Effect.each ?_ ?_
    · exact h12
    · intro u16 a17
      try beta_reduce
      refine Effect.ite ?_ ?_
      · exact Effect.refl _ _ _
      · refine Effect.after (State.modArm_effect ..) (by decide +kernel) ?_
        exact Effect.refl _ _ _
  try clear_value x5
  refine Effect.each ?_ ?_
  · exact h15
  · intro u18 a19
    try beta_reduce
    extract_lets x20 x21 x22 x23
    have h24 : Effect State.latchAll_touch State.latchAll_fields u18 x22 := by
      refine Effect.after (State.modConv_effect ..) (by decide +kernel) ?_
      exact Effect.refl _ _ _
    try clear_value x22
    have h25 : Effect State.latchAll_touch State.latchAll_fields u18 x23 := by
      refine Effect.after (State.wr_effect ..) (by decide +kernel) ?_
      refine Effect.after (State.wr_effect ..) (by decide +kernel) ?_
      exact h24
    try clear_value x23
    try clear_value x20 x21
    refine Effect.after (State.coastLimit_effect ..) (by decide +kernel) ?_
    exact h25

def State.bbPortDown_touch : List Part := []
def State.bbPortDown_fields : Option (List Field) := some [Reg.BB_STATUS.UP, Reg.BB_STATUS.CLOCK, Reg.BB_EVENT.EVENTS]
theorem State.bbPortDown_effect (s : State) (p1 : Nat) (p2 : Bool) :
    Effect State.bbPortDown_touch State.bbPortDown_fields s (@State.bbPortDown s p1 p2) := by
  unfold State.bbPortDown
  extract_lets x1
  have h2 : Effect State.bbPortDown_touch State.bbPortDown_fields s x1 := by
    refine Effect.when ?_ ?_
    · exact Effect.refl _ _ _
    · intro u3
      try beta_reduce
      refine Effect.after (State.evBit_effect ..) (by decide +kernel) ?_
      exact Effect.refl _ _ _
  try clear_value x1
  refine Effect.after (State.wr_effect ..) (by decide +kernel) ?_
  refine Effect.after (State.wr_effect ..) (by decide +kernel) ?_
  exact h2

theorem State.bandRound_effect (s : State) (f : Field) (items : List Nat) :
    Effect [] (some [f, Reg.THERMAL_EVENT.EVENTS]) s (s.bandRound f items) := by
  unfold State.bandRound
  split
  · exact Effect.refl _ _ _
  · refine Effect.ite (Effect.refl _ _ _) ?_
    exact ((State.wr_effect s f _ 0 0).more (by simp)).step ((State.evBit_effect _ Reg.THERMAL_EVENT.EVENTS 5 0 0).more (by simp)) (Effect.fits_refl _ _)

def State.timeIgnored_touch : List Part := []
def State.timeIgnored_fields : Option (List Field) := some [Reg.TIME_EVENT.EVENTS]
theorem State.timeIgnored_effect (s : State) :
    Effect State.timeIgnored_touch State.timeIgnored_fields s (@State.timeIgnored s) := by
  unfold State.timeIgnored
  refine Effect.after (State.evBit_effect ..) (by decide +kernel) ?_
  exact Effect.refl _ _ _

def State.showSlew_touch : List Part := []
def State.showSlew_fields : Option (List Field) := some [Reg.TIME_STATUS.SLEWING, Reg.TIME_SLEW_REMAIN.VALUE]
theorem State.showSlew_effect (s : State) :
    Effect State.showSlew_touch State.showSlew_fields s (@State.showSlew s) := by
  unfold State.showSlew
  refine Effect.after (State.wr_effect ..) (by decide +kernel) ?_
  refine Effect.after (State.wrS_effect ..) (by decide +kernel) ?_
  exact Effect.refl _ _ _

def State.elapse_touch : List Part := [.time, .fr]
def State.elapse_fields : Option (List Field) := some [Reg.TIME_STATUS.SLEWING, Reg.TIME_SLEW_REMAIN.VALUE]
theorem State.elapse_effect (s : State) (p1 : Nat) :
    Effect State.elapse_touch State.elapse_fields s (@State.elapse s p1) := by
  unfold State.elapse
  extract_lets x1 x2 x3 x4 x5 x6 x7
  have h8 : Effect State.elapse_touch State.elapse_fields s x7 := by
    refine Effect.after (Effect.time _ _) (by decide +kernel) ?_
    exact Effect.refl _ _ _
  try clear_value x7
  try clear_value x1 x2 x3 x4 x5 x6
  refine Effect.ite ?_ ?_
  · exact Effect.refl _ _ _
  · refine Effect.ite ?_ ?_
    · refine Effect.after (Effect.time_fr ..) (by decide +kernel) ?_
      exact Effect.refl _ _ _
    · refine Effect.ite ?_ ?_
      · exact h8
      · refine Effect.after (State.showSlew_effect ..) (by decide +kernel) ?_
        exact h8

def State.nextCycle_touch : List Part := [.time, .fr]
def State.nextCycle_fields : Option (List Field) := some [Reg.TIME_STATUS.SLEWING, Reg.TIME_SLEW_REMAIN.VALUE]
theorem State.nextCycle_effect (s : State) :
    Effect State.nextCycle_touch State.nextCycle_fields s (@State.nextCycle s) := by
  unfold State.nextCycle
  refine Effect.after (State.elapse_effect ..) (by decide +kernel) ?_
  exact Effect.refl _ _ _

def State.addendWrite_touch : List Part := [.time, .fr]
def State.addendWrite_fields : Option (List Field) := some [Reg.TIME_STATUS.SLEWING, Reg.TIME_ADDEND.ADDEND, Reg.TIME_SLEW_REMAIN.VALUE, Reg.TIME_EVENT.EVENTS]
theorem State.addendWrite_effect (s : State) (p1 : Nat) :
    Effect State.addendWrite_touch State.addendWrite_fields s (@State.addendWrite s p1) := by
  unfold State.addendWrite
  refine Effect.ite ?_ ?_
  · refine Effect.after (State.timeIgnored_effect ..) (by decide +kernel) ?_
    exact Effect.refl _ _ _
  · refine Effect.after (State.wr_effect ..) (by decide +kernel) ?_
    refine Effect.after (State.nextCycle_effect ..) (by decide +kernel) ?_
    exact Effect.refl _ _ _

def State.canClearEntry_touch : List Part := []
def State.canClearEntry_fields : Option (List Field) := (some [Reg.CAN_RX_ID.ID, Reg.CAN_RX_ID.RTR, Reg.CAN_RX_ID.IDE, Reg.CAN_RX_ID.VALID, Reg.CAN_RX_INFO.DLC, Reg.CAN_RX_INFO.FDF, Reg.CAN_RX_INFO.BRS, Reg.CAN_RX_INFO.ESI, Reg.CAN_RX_INFO.LOOP, Reg.CAN_RX_INFO.FILTER, Reg.CAN_RX_INFO.UNFILTERED, Reg.CAN_RX_NS_LO.NS, Reg.CAN_RX_NS_HI.NS, Reg.CAN_RX_FRAME.FRAME, Reg.CAN_RX_DATA0.DATA, Reg.CAN_RX_DATA1.DATA, Reg.CAN_RX_DATA2.DATA, Reg.CAN_RX_DATA3.DATA, Reg.CAN_RX_DATA4.DATA, Reg.CAN_RX_DATA5.DATA, Reg.CAN_RX_DATA6.DATA, Reg.CAN_RX_DATA7.DATA, Reg.CAN_RX_DATA8.DATA, Reg.CAN_RX_DATA9.DATA, Reg.CAN_RX_DATA10.DATA, Reg.CAN_RX_DATA11.DATA, Reg.CAN_RX_DATA12.DATA, Reg.CAN_RX_DATA13.DATA, Reg.CAN_RX_DATA14.DATA, Reg.CAN_RX_DATA15.DATA])
theorem State.canClearEntry_effect (s : State) (n i : Nat) :
    Effect State.canClearEntry_touch State.canClearEntry_fields s (s.canClearEntry n i) :=
  (State.fields_effect s _ _ fun u f => State.wr_effect u f 0 n i).more (by decide +kernel)

def State.canAck_touch : List Part := []
def State.canAck_fields : Option (List Field) := some [Reg.CAN_RX_STATUS.OWNED, Reg.CAN_RX_STATUS.HEAD, Reg.CAN_RX_ID.ID, Reg.CAN_RX_ID.RTR, Reg.CAN_RX_ID.IDE, Reg.CAN_RX_ID.VALID, Reg.CAN_RX_INFO.DLC, Reg.CAN_RX_INFO.FDF, Reg.CAN_RX_INFO.BRS, Reg.CAN_RX_INFO.ESI, Reg.CAN_RX_INFO.LOOP, Reg.CAN_RX_INFO.FILTER, Reg.CAN_RX_INFO.UNFILTERED, Reg.CAN_RX_NS_LO.NS, Reg.CAN_RX_NS_HI.NS, Reg.CAN_RX_FRAME.FRAME, Reg.CAN_RX_DATA0.DATA, Reg.CAN_RX_DATA1.DATA, Reg.CAN_RX_DATA2.DATA, Reg.CAN_RX_DATA3.DATA, Reg.CAN_RX_DATA4.DATA, Reg.CAN_RX_DATA5.DATA, Reg.CAN_RX_DATA6.DATA, Reg.CAN_RX_DATA7.DATA, Reg.CAN_RX_DATA8.DATA, Reg.CAN_RX_DATA9.DATA, Reg.CAN_RX_DATA10.DATA, Reg.CAN_RX_DATA11.DATA, Reg.CAN_RX_DATA12.DATA, Reg.CAN_RX_DATA13.DATA, Reg.CAN_RX_DATA14.DATA, Reg.CAN_RX_DATA15.DATA]
theorem State.canAck_effect (s : State) (p1 : Nat) (p2 : Nat) :
    Effect State.canAck_touch State.canAck_fields s (@State.canAck s p1 p2) := by
  unfold State.canAck
  extract_lets x1 x2
  try clear_value x1 x2
  refine Effect.ite ?_ ?_
  · exact Effect.refl _ _ _
  · refine Effect.after (State.wr_effect ..) (by decide +kernel) ?_
    refine Effect.after (State.wr_effect ..) (by decide +kernel) ?_
    refine Effect.after (State.canClearEntry_effect ..) (by decide +kernel) ?_
    exact Effect.refl _ _ _

def State.lateArrival_touch : List Part := [.lanes]
def State.lateArrival_fields : Option (List Field) := some []
theorem State.lateArrival_effect (s : State) (p1 : Nat) (p2 : Nat) :
    Effect State.lateArrival_touch State.lateArrival_fields s (@State.lateArrival s p1 p2) := by
  unfold State.lateArrival
  refine Effect.after (State.modLane_effect ..) (by decide +kernel) ?_
  exact Effect.refl _ _ _

def State.refReady_touch : List Part := []
def State.refReady_fields : Option (List Field) := some [Reg.ADC_REF.READY, Reg.ADC_EVENT.REF_READY]
theorem State.refReady_effect (s : State) :
    Effect State.refReady_touch State.refReady_fields s (@State.refReady s) := by
  unfold State.refReady
  refine Effect.ite ?_ ?_
  · refine Effect.after (State.wr_effect ..) (by decide +kernel) ?_
    refine Effect.after (State.wr_effect ..) (by decide +kernel) ?_
    exact Effect.refl _ _ _
  · exact Effect.refl _ _ _

def State.commitCan_touch : List Part := [.canQueues]
def State.commitCan_fields : Option (List Field) := some [Reg.CAN_CTRL.MODE, Reg.CAN_CTRL.FD_EN, Reg.CAN_CTRL.AUTO_RECOVER, Reg.CAN_STATUS.STATE, Reg.CAN_NBT.NBRP, Reg.CAN_NBT.NTSEG1, Reg.CAN_NBT.NTSEG2, Reg.CAN_NBT.NSJW, Reg.CAN_DBT.DBRP, Reg.CAN_DBT.DTSEG1, Reg.CAN_DBT.DTSEG2, Reg.CAN_DBT.DSJW, Reg.CAN_DBT.TDC_EN, Reg.CAN_DBT.TDCO, Reg.CAN_MATRIX.LOG2_CYCLE, Reg.CAN_MATRIX.LOG2_ROWS, Reg.CAN_MATRIX.COLS, Reg.CAN_TXQ.FILL]
theorem State.commitCan_effect (s : State) (p1 : CanCfg) :
    Effect State.commitCan_touch State.commitCan_fields s (@State.commitCan s p1) := by
  unfold State.commitCan
  extract_lets x1 x2 x3 x4 x5 x6 x7 x8 x9 x10 x11 x12
  have h13 : Effect State.commitCan_touch State.commitCan_fields s x2 := by
    refine Effect.after (State.wr_effect ..) (by decide +kernel) ?_
    refine Effect.after (State.wr_effect ..) (by decide +kernel) ?_
    refine Effect.after (State.wr_effect ..) (by decide +kernel) ?_
    exact Effect.refl _ _ _
  try clear_value x2
  have h14 : Effect State.commitCan_touch State.commitCan_fields s x3 := by
    refine Effect.after (State.wr_effect ..) (by decide +kernel) ?_
    exact h13
  try clear_value x3
  have h15 : Effect State.commitCan_touch State.commitCan_fields s x4 := by
    refine Effect.after (State.wr_effect ..) (by decide +kernel) ?_
    refine Effect.after (State.wr_effect ..) (by decide +kernel) ?_
    exact h14
  try clear_value x4
  have h16 : Effect State.commitCan_touch State.commitCan_fields s x5 := by
    refine Effect.after (State.wr_effect ..) (by decide +kernel) ?_
    exact h15
  try clear_value x5
  have h17 : Effect State.commitCan_touch State.commitCan_fields s x8 := by
    refine Effect.after (State.wr_effect ..) (by decide +kernel) ?_
    refine Effect.after (State.wr_effect ..) (by decide +kernel) ?_
    exact h16
  try clear_value x8
  have h18 : Effect State.commitCan_touch State.commitCan_fields s x9 := by
    refine Effect.after (State.wr_effect ..) (by decide +kernel) ?_
    refine Effect.after (State.wr_effect ..) (by decide +kernel) ?_
    exact h17
  try clear_value x9
  have h19 : Effect State.commitCan_touch State.commitCan_fields s x10 := by
    refine Effect.after (State.wr_effect ..) (by decide +kernel) ?_
    refine Effect.after (State.wr_effect ..) (by decide +kernel) ?_
    exact h18
  try clear_value x10
  have h20 : Effect State.commitCan_touch State.commitCan_fields s x11 := by
    refine Effect.after (State.wr_effect ..) (by decide +kernel) ?_
    refine Effect.after (State.wr_effect ..) (by decide +kernel) ?_
    exact h19
  try clear_value x11
  have h21 : Effect State.commitCan_touch State.commitCan_fields s x12 := by
    refine Effect.after (State.wr_effect ..) (by decide +kernel) ?_
    refine Effect.after (State.wr_effect ..) (by decide +kernel) ?_
    exact h20
  try clear_value x12
  try clear_value x1
  refine Effect.after (State.setCanMsgs_effect ..) (by decide +kernel) ?_
  exact h21

def State.discipline_touch : List Part := [.time, .fr]
def State.discipline_fields : Option (List Field) := some [Reg.FRAME_STATUS.DISCIPLINED, Reg.TIME_FRAME_PHASE.E, Reg.TIME_EVENT.EVENTS]
theorem State.discipline_effect (s : State) :
    Effect State.discipline_touch State.discipline_fields s (@State.discipline s) := by
  unfold State.discipline
  extract_lets x1 x2 x3 x4 x5 x6 x7 x8 x9 x10 x11 x12 x13
  have h14 : Effect State.discipline_touch State.discipline_fields s x10 := by
    refine Effect.after (Effect.time_fr ..) (by decide +kernel) ?_
    exact Effect.refl _ _ _
  try clear_value x10
  have h15 : Effect State.discipline_touch State.discipline_fields s x11 := by
    refine Effect.after (State.wrS_effect ..) (by decide +kernel) ?_
    exact h14
  try clear_value x11
  have h16 : Effect State.discipline_touch State.discipline_fields s x13 := by
    refine Effect.when ?_ ?_
    · exact h15
    · intro u17
      try beta_reduce
      refine Effect.after (State.evBit_effect ..) (by decide +kernel) ?_
      exact Effect.refl _ _ _
  try clear_value x13
  try clear_value x1 x2 x3 x4 x5 x6 x7 x8 x9 x12
  refine Effect.after (State.wr_effect ..) (by decide +kernel) ?_
  exact h16

def State.clampOther_touch : List Part := [.drives]
def State.clampOther_fields : Option (List Field) := some []
theorem State.clampOther_effect (s : State) (p1 : Nat) :
    Effect State.clampOther_touch State.clampOther_fields s (@State.clampOther s p1) := by
  unfold State.clampOther
  refine Effect.after (State.modLeg_effect ..) (by decide +kernel) ?_
  exact Effect.refl _ _ _

def State.legCommand_touch : List Part := [.drives]
def State.legCommand_fields : Option (List Field) := some [Reg.DRV_STATUS.LEG_FAULT, Reg.DRV_LEG_STATUS.DESAT_HS, Reg.DRV_LEG_STATUS.DESAT_LS, Reg.DRV_LEG_STATUS.INSTANT, Reg.DRV_LEG_STATUS.VB_UV, Reg.DRV_LEG_STATUS.GATES_OFF]
theorem State.legCommand_effect (s : State) (p1 : Nat) (p2 : Nat) :
    Effect State.legCommand_touch State.legCommand_fields s (@State.legCommand s p1 p2) := by
  unfold State.legCommand
  extract_lets x1 x2
  try clear_value x1 x2
  refine Effect.ite ?_ ?_
  · refine Effect.after (State.command_effect ..) (by decide +kernel) ?_
    exact Effect.refl _ _ _
  · refine Effect.ite ?_ ?_
    · refine Effect.after (State.clampOther_effect ..) (by decide +kernel) ?_
      refine Effect.ite ?_ ?_
      · refine Effect.after (State.command_effect ..) (by decide +kernel) ?_
        exact Effect.refl _ _ _
      · refine Effect.after (State.command_effect ..) (by decide +kernel) ?_
        exact Effect.refl _ _ _
    · refine Effect.after (State.command_effect ..) (by decide +kernel) ?_
      exact Effect.refl _ _ _

def State.valleyLegs_touch : List Part := [.drives]
def State.valleyLegs_fields : Option (List Field) := some [Reg.DRV_STATUS.LEG_FAULT, Reg.DRV_CARRIER_ACT.TOP, Reg.DRV_LEG_STATUS.CMP_ACT, Reg.DRV_LEG_STATUS.DESAT_HS, Reg.DRV_LEG_STATUS.DESAT_LS, Reg.DRV_LEG_STATUS.INSTANT, Reg.DRV_LEG_STATUS.VB_UV, Reg.DRV_LEG_STATUS.GATES_OFF, Reg.DRV_LEG_STATUS.MODE_ACT, Reg.DRV_LEG_COUNT.SUPPRESSED, Reg.DRV_LEG_COUNT.FULL_ON]
theorem State.valleyLegs_effect (s : State) (p1 : Nat) :
    Effect State.valleyLegs_touch State.valleyLegs_fields s (@State.valleyLegs s p1) := by
  unfold State.valleyLegs
  extract_lets x1
  have h2 : Effect State.valleyLegs_touch State.valleyLegs_fields s x1 := by
    refine Effect.each ?_ ?_
    · exact Effect.refl _ _ _
    · intro u3 a4
      try beta_reduce
      extract_lets x5 x6 x7
      have h8 : Effect State.valleyLegs_touch State.valleyLegs_fields u3 x6 := by
        refine Effect.when ?_ ?_
        · exact Effect.refl _ _ _
        · intro u9
          try beta_reduce
          refine Effect.after (State.bump_effect ..) (by decide +kernel) ?_
          exact Effect.refl _ _ _
      try clear_value x6
      have h11 : Effect State.valleyLegs_touch State.valleyLegs_fields u3 x7 := by
        refine Effect.when ?_ ?_
        · exact h8
        · intro u12
          try beta_reduce
          refine Effect.after (State.bump_effect ..) (by decide +kernel) ?_
          exact Effect.refl _ _ _
      try clear_value x7
      try clear_value x5
      refine Effect.when ?_ ?_
      · exact h11
      · intro u14
        try beta_reduce
        refine Effect.after (State.legCommand_effect ..) (by decide +kernel) ?_
        exact Effect.refl _ _ _
  try clear_value x1
  refine Effect.after (State.showActive_effect ..) (by decide +kernel) ?_
  exact h2

def State.loadDone_touch : List Part := []
def State.loadDone_fields : Option (List Field) := some [Reg.DRV_STATUS.LOAD_PENDING, Reg.DRV_EVENT.LOAD_DONE, Reg.DRV_LOADALL.UNITS, Reg.DRV_LOAD_STATUS.DONE]
theorem State.loadDone_effect (s : State) (p1 : Nat) :
    Effect State.loadDone_touch State.loadDone_fields s (@State.loadDone s p1) := by
  unfold State.loadDone
  extract_lets x1
  have h2 : Effect State.loadDone_touch State.loadDone_fields s x1 := by
    refine Effect.after (State.wrBit_effect ..) (by decide +kernel) ?_
    refine Effect.after (State.wr_effect ..) (by decide +kernel) ?_
    exact Effect.refl _ _ _
  try clear_value x1
  refine Effect.ite ?_ ?_
  · refine Effect.after (State.wr_effect ..) (by decide +kernel) ?_
    refine Effect.after (State.wrBit_effect ..) (by decide +kernel) ?_
    exact h2
  · exact Effect.refl _ _ _

def State.applyChop_touch : List Part := [.drives]
def State.applyChop_fields : Option (List Field) := some [Reg.DRV_STATUS.LOAD_PENDING, Reg.DRV_EVENT.LOAD_DONE, Reg.DRV_LOADALL.UNITS, Reg.DRV_LOAD_STATUS.DONE]
theorem State.applyChop_effect (s : State) (p1 : Nat) :
    Effect State.applyChop_touch State.applyChop_fields s (@State.applyChop s p1) := by
  unfold State.applyChop
  split
  · exact Effect.refl _ _ _
  · extract_lets x1
    have h2 : Effect State.applyChop_touch State.applyChop_fields s x1 := by
      refine Effect.after (State.modDrv_effect ..) (by decide +kernel) ?_
      exact Effect.refl _ _ _
    try clear_value x1
    refine Effect.after (State.loadDone_effect ..) (by decide +kernel) ?_
    exact h2

def State.allOff_touch : List Part := [.drives]
def State.allOff_fields : Option (List Field) := some [Reg.DRV_STATUS.LEG_FAULT, Reg.DRV_LEG_STATUS.DESAT_HS, Reg.DRV_LEG_STATUS.DESAT_LS, Reg.DRV_LEG_STATUS.INSTANT, Reg.DRV_LEG_STATUS.VB_UV, Reg.DRV_LEG_STATUS.GATES_OFF]
theorem State.allOff_effect (s : State) (p1 : Nat) :
    Effect State.allOff_touch State.allOff_fields s (@State.allOff s p1) := by
  unfold State.allOff
  refine Effect.each ?_ ?_
  · exact Effect.refl _ _ _
  · intro u1 a2
    try beta_reduce
    refine Effect.after (State.command_effect ..) (by decide +kernel) ?_
    exact Effect.refl _ _ _

def State.applyPhase_touch : List Part := [.faults, .drives, .motors]
def State.applyPhase_fields : Option (List Field) := some [Reg.COLLECT_STATUS_LO.STATUS, Reg.COLLECT_STATUS_HI.STATUS, Reg.FAULT_COUNT_CORR.COUNT, Reg.FAULT_COUNT_CONT.COUNT, Reg.FAULT_COUNT_FATAL.COUNT, Reg.FAULT_EVENT.CORRECTED, Reg.FAULT_EVENT.CONTAINED, Reg.FAULT_EVENT.FATAL, Reg.FAULT_EVENT.HIST_LOST, Reg.FAULT_HIST_STATUS.LOST, Reg.DRV_STATUS.LOAD_PENDING, Reg.DRV_STATUS.LEG_FAULT, Reg.DRV_LEG_STATUS.DESAT_HS, Reg.DRV_LEG_STATUS.DESAT_LS, Reg.DRV_LEG_STATUS.INSTANT, Reg.DRV_LEG_STATUS.VB_UV, Reg.DRV_LEG_STATUS.GATES_OFF, Reg.DRV_EVENT.LOAD_DONE, Reg.MOT_STATE.STATE, Reg.MOT_EVENT.STATE, Reg.MOT_EVENT.OBS_LOST, Reg.DRV_LOADALL.UNITS, Reg.DRV_LOAD_STATUS.DONE]
theorem State.applyPhase_effect (s : State) (p1 : Nat) :
    Effect State.applyPhase_touch State.applyPhase_fields s (@State.applyPhase s p1) := by
  unfold State.applyPhase
  extract_lets x1 x2 x3
  try clear_value x1 x2 x3
  split
  · exact Effect.refl _ _ _
  · extract_lets x4 x5 x6 x7 x8 x9 x10
    have h11 : Effect State.applyPhase_touch State.applyPhase_fields s x6 := by
      refine Effect.after (State.modDrv_effect ..) (by decide +kernel) ?_
      exact Effect.refl _ _ _
    try clear_value x6
    have h12 : Effect State.applyPhase_touch State.applyPhase_fields s x7 := by
      refine Effect.when ?_ ?_
      · exact h11
      · intro u13
        try beta_reduce
        extract_lets x15
        have h16 : Effect State.applyPhase_touch State.applyPhase_fields u13 x15 := by
          refine Effect.after (State.modMot_effect ..) (by decide +kernel) ?_
          exact Effect.refl _ _ _
        try clear_value x15
        refine Effect.ite ?_ ?_
        · refine Effect.after (State.motFault_effect ..) (by decide +kernel) ?_
          exact h16
        · refine Effect.after (State.motTo_effect ..) (by decide +kernel) ?_
          exact h16
    try clear_value x7
    have h17 : Effect State.applyPhase_touch State.applyPhase_fields s x8 := by
      refine Effect.when ?_ ?_
      · exact h12
      · intro u18
        try beta_reduce
        refine Effect.after (State.motTo_effect ..) (by decide +kernel) ?_
        exact Effect.refl _ _ _
    try clear_value x8
    have h20 : Effect State.applyPhase_touch State.applyPhase_fields s x9 := by
      refine Effect.when ?_ ?_
      · exact h17
      · intro u21
        try beta_reduce
        refine Effect.after (State.applyChop_effect ..) (by decide +kernel) ?_
        refine Effect.after (State.allOff_effect ..) (by decide +kernel) ?_
        exact Effect.refl _ _ _
    try clear_value x9
    have h23 : Effect State.applyPhase_touch State.applyPhase_fields s x10 := by
      refine Effect.when ?_ ?_
      · exact h20
      · intro u24
        try beta_reduce
        refine Effect.after (State.applyChop_effect ..) (by decide +kernel) ?_
        exact Effect.refl _ _ _
    try clear_value x10
    try clear_value x4 x5
    refine Effect.after (State.loadDone_effect ..) (by decide +kernel) ?_
    exact h23

def State.valleyStart_touch : List Part := [.faults, .drives, .motors]
def State.valleyStart_fields : Option (List Field) := some [Reg.COLLECT_STATUS_LO.STATUS, Reg.COLLECT_STATUS_HI.STATUS, Reg.FAULT_COUNT_CORR.COUNT, Reg.FAULT_COUNT_CONT.COUNT, Reg.FAULT_COUNT_FATAL.COUNT, Reg.FAULT_EVENT.CORRECTED, Reg.FAULT_EVENT.CONTAINED, Reg.FAULT_EVENT.FATAL, Reg.FAULT_EVENT.HIST_LOST, Reg.FAULT_HIST_STATUS.LOST, Reg.DRV_STATUS.LOAD_PENDING, Reg.DRV_STATUS.LEG_FAULT, Reg.DRV_LEG_STATUS.DESAT_HS, Reg.DRV_LEG_STATUS.DESAT_LS, Reg.DRV_LEG_STATUS.INSTANT, Reg.DRV_LEG_STATUS.VB_UV, Reg.DRV_LEG_STATUS.GATES_OFF, Reg.DRV_EVENT.LOAD_DONE, Reg.MOT_STATE.STATE, Reg.MOT_EVENT.STATE, Reg.MOT_EVENT.OBS_LOST, Reg.DRV_LOADALL.UNITS, Reg.DRV_LOAD_STATUS.DONE]
theorem State.valleyStart_effect (s : State) (p1 : Nat) (p2 : Nat) :
    Effect State.valleyStart_touch State.valleyStart_fields s (@State.valleyStart s p1 p2) := by
  unfold State.valleyStart
  refine Effect.after (State.applyPhase_effect ..) (by decide +kernel) ?_
  refine Effect.after (State.modDrv_effect ..) (by decide +kernel) ?_
  exact Effect.refl _ _ _

def State.syncTick_touch : List Part := [.faults, .drives, .motors]
def State.syncTick_fields : Option (List Field) := some [Reg.COLLECT_STATUS_LO.STATUS, Reg.COLLECT_STATUS_HI.STATUS, Reg.FAULT_COUNT_CORR.COUNT, Reg.FAULT_COUNT_CONT.COUNT, Reg.FAULT_COUNT_FATAL.COUNT, Reg.FAULT_EVENT.CORRECTED, Reg.FAULT_EVENT.CONTAINED, Reg.FAULT_EVENT.FATAL, Reg.FAULT_EVENT.HIST_LOST, Reg.FAULT_HIST_STATUS.LOST, Reg.DRV_STATUS.LOAD_PENDING, Reg.DRV_STATUS.LEG_FAULT, Reg.DRV_CARRIER_ACT.TOP, Reg.DRV_LEG_STATUS.CMP_ACT, Reg.DRV_LEG_STATUS.DESAT_HS, Reg.DRV_LEG_STATUS.DESAT_LS, Reg.DRV_LEG_STATUS.INSTANT, Reg.DRV_LEG_STATUS.VB_UV, Reg.DRV_LEG_STATUS.GATES_OFF, Reg.DRV_LEG_STATUS.MODE_ACT, Reg.DRV_LEG_COUNT.SUPPRESSED, Reg.DRV_LEG_COUNT.FULL_ON, Reg.DRV_EVENT.LOAD_DONE, Reg.MOT_STATE.STATE, Reg.MOT_EVENT.STATE, Reg.MOT_EVENT.OBS_LOST, Reg.DRV_LOADALL.UNITS, Reg.DRV_LOAD_STATUS.DONE, Reg.DRV_SYNC.UNITS]
theorem State.syncTick_effect (s : State) :
    Effect State.syncTick_touch State.syncTick_fields s (@State.syncTick s) := by
  unfold State.syncTick
  refine Effect.each ?_ ?_
  · exact Effect.refl _ _ _
  · intro u1 a2
    try beta_reduce
    extract_lets x3
    have h4 : Effect State.syncTick_touch State.syncTick_fields u1 x3 := by
      refine Effect.after (State.wrBit_effect ..) (by decide +kernel) ?_
      refine Effect.after (State.modDrv_effect ..) (by decide +kernel) ?_
      exact Effect.refl _ _ _
    try clear_value x3
    refine Effect.ite ?_ ?_
    · refine Effect.ite ?_ ?_
      · exact h4
      · refine Effect.after (State.valleyLegs_effect ..) (by decide +kernel) ?_
        refine Effect.after (State.valleyStart_effect ..) (by decide +kernel) ?_
        refine Effect.after (State.drvDue_effect ..) (by decide +kernel) ?_
        exact h4
    · exact Effect.refl _ _ _

def State.adcTick_touch : List Part := [.adc]
def State.adcTick_fields : Option (List Field) := some []
theorem State.adcTick_effect (s : State) :
    Effect State.adcTick_touch State.adcTick_fields s (@State.adcTick s) := by
  unfold State.adcTick
  extract_lets x1 x2
  have h3 : Effect State.adcTick_touch State.adcTick_fields s x2 := by
    refine Effect.after (Effect.adc _ _) (by decide +kernel) ?_
    exact Effect.refl _ _ _
  try clear_value x2
  try clear_value x1
  refine Effect.each ?_ ?_
  · exact h3
  · intro u4 a5
    try beta_reduce
    extract_lets x6
    try clear_value x6
    refine Effect.after (State.modSar_effect ..) (by decide +kernel) ?_
    exact Effect.refl _ _ _

def State.canTick_touch : List Part := [.cans]
def State.canTick_fields : Option (List Field) := some [Reg.CAN_MATRIX.ROW]
theorem State.canTick_effect (s : State) (p1 : Nat) :
    Effect State.canTick_touch State.canTick_fields s (@State.canTick s p1) := by
  unfold State.canTick
  split
  · exact Effect.refl _ _ _
  · extract_lets x1
    try clear_value x1
    refine Effect.ite ?_ ?_
    · refine Effect.after (State.wr_effect ..) (by decide +kernel) ?_
      refine Effect.after (State.modCan_effect ..) (by decide +kernel) ?_
      exact Effect.refl _ _ _
    · exact Effect.refl _ _ _

def State.tickOthers_touch : List Part := [.time, .faults, .fr, .adc, .drives, .motors, .cans]
def State.tickOthers_fields : Option (List Field) := some [Reg.COLLECT_STATUS_LO.STATUS, Reg.COLLECT_STATUS_HI.STATUS, Reg.FAULT_COUNT_CORR.COUNT, Reg.FAULT_COUNT_CONT.COUNT, Reg.FAULT_COUNT_FATAL.COUNT, Reg.FAULT_EVENT.CORRECTED, Reg.FAULT_EVENT.CONTAINED, Reg.FAULT_EVENT.FATAL, Reg.FAULT_EVENT.HIST_LOST, Reg.FAULT_HIST_STATUS.LOST, Reg.FRAME_STATUS.DISCIPLINED, Reg.TIME_FRAME_PHASE.E, Reg.TIME_EVENT.EVENTS, Reg.CAN_MATRIX.ROW, Reg.DRV_STATUS.LOAD_PENDING, Reg.DRV_STATUS.LEG_FAULT, Reg.DRV_CARRIER_ACT.TOP, Reg.DRV_LEG_STATUS.CMP_ACT, Reg.DRV_LEG_STATUS.DESAT_HS, Reg.DRV_LEG_STATUS.DESAT_LS, Reg.DRV_LEG_STATUS.INSTANT, Reg.DRV_LEG_STATUS.VB_UV, Reg.DRV_LEG_STATUS.GATES_OFF, Reg.DRV_LEG_STATUS.MODE_ACT, Reg.DRV_LEG_COUNT.SUPPRESSED, Reg.DRV_LEG_COUNT.FULL_ON, Reg.DRV_EVENT.LOAD_DONE, Reg.MOT_STATE.STATE, Reg.MOT_EVENT.STATE, Reg.MOT_EVENT.OBS_LOST, Reg.DRV_LOADALL.UNITS, Reg.DRV_LOAD_STATUS.DONE, Reg.DRV_SYNC.UNITS]
theorem State.tickOthers_effect (s : State) :
    Effect State.tickOthers_touch State.tickOthers_fields s (@State.tickOthers s) := by
  unfold State.tickOthers
  extract_lets x1
  have h2 : Effect State.tickOthers_touch State.tickOthers_fields s x1 := by
    refine Effect.after (State.discipline_effect ..) (by decide +kernel) ?_
    refine Effect.after (State.syncTick_effect ..) (by decide +kernel) ?_
    refine Effect.after (State.adcTick_effect ..) (by decide +kernel) ?_
    exact Effect.refl _ _ _
  try clear_value x1
  refine Effect.each ?_ ?_
  · exact h2
  · intro u3 a4
    try beta_reduce
    refine Effect.after (State.canTick_effect ..) (by decide +kernel) ?_
    exact Effect.refl _ _ _

def State.showHalves_touch : List Part := []
def State.showHalves_fields : Option (List Field) := some [Reg.JRN_STATUS.HALF0_OK, Reg.JRN_STATUS.HALF1_OK]
theorem State.showHalves_effect (s : State) :
    Effect State.showHalves_touch State.showHalves_fields s (@State.showHalves s) := by
  unfold State.showHalves
  refine Effect.after (State.wr_effect ..) (by decide +kernel) ?_
  refine Effect.after (State.wr_effect ..) (by decide +kernel) ?_
  exact Effect.refl _ _ _

def State.halfBad_touch : List Part := [.faults, .journal]
def State.halfBad_fields : Option (List Field) := some [Reg.COLLECT_STATUS_LO.STATUS, Reg.COLLECT_STATUS_HI.STATUS, Reg.FAULT_COUNT_CORR.COUNT, Reg.FAULT_COUNT_CONT.COUNT, Reg.FAULT_COUNT_FATAL.COUNT, Reg.FAULT_EVENT.CORRECTED, Reg.FAULT_EVENT.CONTAINED, Reg.FAULT_EVENT.FATAL, Reg.FAULT_EVENT.HIST_LOST, Reg.FAULT_HIST_STATUS.LOST, Reg.JRN_STATUS.HALF0_OK, Reg.JRN_STATUS.HALF1_OK, Reg.JRN_EVENT.HALF_FAIL]
theorem State.halfBad_effect (s : State) (p1 : Nat) :
    Effect State.halfBad_touch State.halfBad_fields s (@State.halfBad s p1) := by
  unfold State.halfBad
  extract_lets x1
  have h2 : Effect State.halfBad_touch State.halfBad_fields s x1 := by
    refine Effect.after (State.showHalves_effect ..) (by decide +kernel) ?_
    refine Effect.after (State.modJrn_effect ..) (by decide +kernel) ?_
    exact Effect.refl _ _ _
  try clear_value x1
  refine Effect.after (State.raise_effect ..) (by decide +kernel) ?_
  refine Effect.after (State.wr_effect ..) (by decide +kernel) ?_
  exact h2

def State.recordBad_touch : List Part := [.faults, .host, .journal, .out]
def State.recordBad_fields : Option (List Field) := some [Reg.COLLECT_STATUS_LO.STATUS, Reg.COLLECT_STATUS_HI.STATUS, Reg.FAULT_COUNT_CORR.COUNT, Reg.FAULT_COUNT_CONT.COUNT, Reg.FAULT_COUNT_FATAL.COUNT, Reg.FAULT_EVENT.CORRECTED, Reg.FAULT_EVENT.CONTAINED, Reg.FAULT_EVENT.FATAL, Reg.FAULT_EVENT.HIST_LOST, Reg.FAULT_HIST_STATUS.LOST, Reg.JRN_STATUS.FILL, Reg.JRN_STATUS.HALF0_OK, Reg.JRN_STATUS.HALF1_OK, Reg.JRN_STATUS.EPOCH_CAUSE, Reg.JRN_EPOCH.EPOCH, Reg.JRN_EXEC.COUNT, Reg.JRN_ACCEPTED.COUNT, Reg.JRN_BUSY.OTHER, Reg.JRN_EVENT.NEW_EPOCH, Reg.JRN_EVENT.HALF_FAIL, Reg.JRN_SRC_LAST.LAST, Reg.JRN_CPL_TAIL.INDEX, Reg.JRN_RING_STATUS.PHASE, Reg.BB_STATUS.TX_IDLE]
theorem State.recordBad_effect (s : State) (p1 : Bool) (p2 : Nat) :
    Effect State.recordBad_touch State.recordBad_fields s (@State.recordBad s p1 p2) := by
  unfold State.recordBad
  extract_lets x1 x2
  have h3 : Effect State.recordBad_touch State.recordBad_fields s x1 := by
    refine Effect.after (State.halfBad_effect ..) (by decide +kernel) ?_
    refine Effect.after (State.halfBad_effect ..) (by decide +kernel) ?_
    exact Effect.refl _ _ _
  try clear_value x1
  have h4 : Effect State.recordBad_touch State.recordBad_fields s x2 := by
    refine Effect.when ?_ ?_
    · exact h3
    · intro u5
      try beta_reduce
      refine Effect.after (State.modJrn_effect ..) (by decide +kernel) ?_
      exact Effect.refl _ _ _
  try clear_value x2
  refine Effect.ite ?_ ?_
  · exact h3
  · refine Effect.after (State.startEpoch_effect ..) (by decide +kernel) ?_
    exact h4

def State.ethDmaError_touch : List Part := [.faults, .eths]
def State.ethDmaError_fields : Option (List Field) := some [Reg.COLLECT_STATUS_LO.STATUS, Reg.COLLECT_STATUS_HI.STATUS, Reg.FAULT_COUNT_CORR.COUNT, Reg.FAULT_COUNT_CONT.COUNT, Reg.FAULT_COUNT_FATAL.COUNT, Reg.FAULT_EVENT.CORRECTED, Reg.FAULT_EVENT.CONTAINED, Reg.FAULT_EVENT.FATAL, Reg.FAULT_EVENT.HIST_LOST, Reg.FAULT_HIST_STATUS.LOST, Reg.ETH_EVENT.EVENTS]
theorem State.ethDmaError_effect (s : State) (p1 : Nat) (p2 : Bool) :
    Effect State.ethDmaError_touch State.ethDmaError_fields s (@State.ethDmaError s p1 p2) := by
  unfold State.ethDmaError
  extract_lets x1
  have h2 : Effect State.ethDmaError_touch State.ethDmaError_fields s x1 := by
    refine Effect.after (State.modEth_effect ..) (by decide +kernel) ?_
    exact Effect.refl _ _ _
  try clear_value x1
  refine Effect.after (State.raise_effect ..) (by decide +kernel) ?_
  refine Effect.after (State.evBit_effect ..) (by decide +kernel) ?_
  exact h2

def State.hkStart_touch : List Part := [.adc]
def State.hkStart_fields : Option (List Field) := some []
theorem State.hkStart_effect (s : State) :
    Effect State.hkStart_touch State.hkStart_fields s (@State.hkStart s) := by
  unfold State.hkStart
  extract_lets x1
  try clear_value x1
  refine Effect.ite ?_ ?_
  · refine Effect.after (Effect.adc _ _) (by decide +kernel) ?_
    exact Effect.refl _ _ _
  · exact Effect.refl _ _ _

def State.beginLoad_touch : List Part := [.power, .host, .load, .fr]
def State.beginLoad_fields : Option (List Field) := some [Reg.FRAME_STATUS.RUNNING, Reg.IMAGE_STATUS.STATE, Reg.IMAGE_STATUS.SOURCE, Reg.IMAGE_STATUS.CODE, Reg.IMAGE_ERR_SECTION.INDEX, Reg.IMAGE_ERR_SECTION.TYPE, Reg.IMAGE_ERR_OFFSET.OFFSET, Reg.IMAGE_EVENT.DONE]
theorem State.beginLoad_effect (s : State) (p1 : Nat) :
    Effect State.beginLoad_touch State.beginLoad_fields s (@State.beginLoad s p1) := by
  unfold State.beginLoad
  extract_lets x1 x2
  have h3 : Effect State.beginLoad_touch State.beginLoad_fields s x1 := by
    refine Effect.after (State.modLoad_effect ..) (by decide +kernel) ?_
    refine Effect.after (State.wr_effect ..) (by decide +kernel) ?_
    refine Effect.after (State.wr_effect ..) (by decide +kernel) ?_
    refine Effect.after (State.showRefusal_effect ..) (by decide +kernel) ?_
    exact Effect.refl _ _ _
  try clear_value x1
  try clear_value x2
  refine Effect.ite ?_ ?_
  · refine Effect.after (State.endRefused_effect ..) (by decide +kernel) ?_
    exact h3
  · refine Effect.ite ?_ ?_
    · refine Effect.after (State.endRefused_effect ..) (by decide +kernel) ?_
      exact h3
    · exact h3

def State.nextSource_touch : List Part := [.power, .host, .load, .fr]
def State.nextSource_fields : Option (List Field) := some [Reg.FRAME_STATUS.RUNNING, Reg.IMAGE_STATUS.STATE, Reg.IMAGE_STATUS.SOURCE, Reg.IMAGE_STATUS.CODE, Reg.IMAGE_ERR_SECTION.INDEX, Reg.IMAGE_ERR_SECTION.TYPE, Reg.IMAGE_ERR_OFFSET.OFFSET, Reg.IMAGE_PRIMARY_CODE.CODE, Reg.IMAGE_EVENT.DONE]
theorem State.nextSource_effect (s : State) :
    Effect State.nextSource_touch State.nextSource_fields s (@State.nextSource s) := by
  unfold State.nextSource
  split
  · extract_lets x1 x2 x3
    have h4 : Effect State.nextSource_touch State.nextSource_fields s x1 := by
      refine Effect.after (State.modLoad_effect ..) (by decide +kernel) ?_
      exact Effect.refl _ _ _
    try clear_value x1
    try clear_value x2 x3
    refine Effect.ite ?_ ?_
    · exact h4
    · refine Effect.after (State.beginLoad_effect ..) (by decide +kernel) ?_
      refine Effect.when ?_ ?_
      · exact h4
      · intro u5
        try beta_reduce
        refine Effect.after (State.wr_effect ..) (by decide +kernel) ?_
        exact Effect.refl _ _ _
  · exact Effect.refl _ _ _

def State.segDown_touch : List Part := [.faults, .chains]
def State.segDown_fields : Option (List Field) := some [Reg.COLLECT_STATUS_LO.STATUS, Reg.COLLECT_STATUS_HI.STATUS, Reg.FAULT_COUNT_CORR.COUNT, Reg.FAULT_COUNT_CONT.COUNT, Reg.FAULT_COUNT_FATAL.COUNT, Reg.FAULT_EVENT.CORRECTED, Reg.FAULT_EVENT.CONTAINED, Reg.FAULT_EVENT.FATAL, Reg.FAULT_EVENT.HIST_LOST, Reg.FAULT_HIST_STATUS.LOST, Reg.LANE_SEGDOWN_LO.DOWN, Reg.LANE_SEGDOWN_HI.DOWN]
theorem State.segDown_effect (s : State) (p1 : Nat) (p2 : Nat) :
    Effect State.segDown_touch State.segDown_fields s (@State.segDown s p1 p2) := by
  unfold State.segDown
  refine Effect.ite ?_ ?_
  · exact Effect.refl _ _ _
  · refine Effect.after (State.raise_effect ..) (by decide +kernel) ?_
    refine Effect.after (State.showDown_effect ..) (by decide +kernel) ?_
    refine Effect.after (State.modChain_effect ..) (by decide +kernel) ?_
    exact Effect.refl _ _ _

def State.missingRun_touch : List Part := [.faults, .lanes, .chains]
def State.missingRun_fields : Option (List Field) := some [Reg.COLLECT_STATUS_LO.STATUS, Reg.COLLECT_STATUS_HI.STATUS, Reg.FAULT_COUNT_CORR.COUNT, Reg.FAULT_COUNT_CONT.COUNT, Reg.FAULT_COUNT_FATAL.COUNT, Reg.FAULT_EVENT.CORRECTED, Reg.FAULT_EVENT.CONTAINED, Reg.FAULT_EVENT.FATAL, Reg.FAULT_EVENT.HIST_LOST, Reg.FAULT_HIST_STATUS.LOST, Reg.LANE_SEGDOWN_LO.DOWN, Reg.LANE_SEGDOWN_HI.DOWN]
theorem State.missingRun_effect (s : State) (p1 : ChainCfg) (p2 : Nat) :
    Effect State.missingRun_touch State.missingRun_fields s (@State.missingRun s p1 p2) := by
  unfold State.missingRun
  extract_lets x1 x2 x3
  have h4 : Effect State.missingRun_touch State.missingRun_fields s x3 := by
    refine Effect.after (State.modLane_effect ..) (by decide +kernel) ?_
    exact Effect.refl _ _ _
  try clear_value x3
  try clear_value x1 x2
  split
  · refine Effect.when ?_ ?_
    · exact h4
    · intro u5
      try beta_reduce
      refine Effect.after (State.segDown_effect ..) (by decide +kernel) ?_
      exact Effect.refl _ _ _
  · exact h4

def State.freezeChain_touch : List Part := [.faults, .lanes, .chains]
def State.freezeChain_fields : Option (List Field) := some [Reg.COLLECT_STATUS_LO.STATUS, Reg.COLLECT_STATUS_HI.STATUS, Reg.FAULT_COUNT_CORR.COUNT, Reg.FAULT_COUNT_CONT.COUNT, Reg.FAULT_COUNT_FATAL.COUNT, Reg.FAULT_EVENT.CORRECTED, Reg.FAULT_EVENT.CONTAINED, Reg.FAULT_EVENT.FATAL, Reg.FAULT_EVENT.HIST_LOST, Reg.FAULT_HIST_STATUS.LOST, Reg.LANE_STATUS.STATE, Reg.LANE_STATUS.MOVING, Reg.LANE_SEGDOWN_LO.DOWN, Reg.LANE_SEGDOWN_HI.DOWN, Reg.LANE_EVENT.MOVE]
theorem State.freezeChain_effect (s : State) (p1 : ChainCfg) :
    Effect State.freezeChain_touch State.freezeChain_fields s (@State.freezeChain s p1) := by
  unfold State.freezeChain
  extract_lets x1 x2 x3 x4 x5 x6 x7 x8 x9 x10 x11 x12 x13
  have h14 : Effect State.freezeChain_touch State.freezeChain_fields s x3 := by
    refine Effect.each ?_ ?_
    · exact Effect.refl _ _ _
    · intro u15 a16
      try beta_reduce
      refine Effect.after (State.segDown_effect ..) (by decide +kernel) ?_
      exact Effect.refl _ _ _
  try clear_value x3
  have h17 : Effect State.freezeChain_touch State.freezeChain_fields s x4 := by
    refine Effect.after (State.missingRun_effect ..) (by decide +kernel) ?_
    refine Effect.after (State.missingRun_effect ..) (by decide +kernel) ?_
    exact h14
  try clear_value x4
  have h18 : Effect State.freezeChain_touch State.freezeChain_fields s x5 := by
    refine Effect.each ?_ ?_
    · exact h17
    · intro u19 a20
      try beta_reduce
      refine Effect.after (State.modLane_effect ..) (by decide +kernel) ?_
      exact Effect.refl _ _ _
  try clear_value x5
  have h21 : Effect State.freezeChain_touch State.freezeChain_fields s x6 := by
    refine Effect.after (State.modChain_effect ..) (by decide +kernel) ?_
    exact h18
  try clear_value x6
  have h22 : Effect State.freezeChain_touch State.freezeChain_fields s x7 := by
    refine Effect.when ?_ ?_
    · exact h21
    · intro u23
      try beta_reduce
      refine Effect.after (State.wr_effect ..) (by decide +kernel) ?_
      exact Effect.refl _ _ _
  try clear_value x7
  have h25 : Effect State.freezeChain_touch State.freezeChain_fields s x8 := by
    refine Effect.after (State.modChain_effect ..) (by decide +kernel) ?_
    exact h22
  try clear_value x8
  have h26 : Effect State.freezeChain_touch State.freezeChain_fields s x11 := by
    refine Effect.after (State.modChain_effect ..) (by decide +kernel) ?_
    exact h25
  try clear_value x11
  have h27 : Effect State.freezeChain_touch State.freezeChain_fields s x13 := by
    refine Effect.after (State.modChain_effect ..) (by decide +kernel) ?_
    exact h26
  try clear_value x13
  try clear_value x1 x2 x9 x10 x12
  refine Effect.ite ?_ ?_
  · refine Effect.after (State.restore_effect ..) (by decide +kernel) ?_
    exact h27
  · refine Effect.after (State.moveSplit_effect ..) (by decide +kernel) ?_
    exact h27

def State.autoRedeblock_touch : List Part := [.convs]
def State.autoRedeblock_fields : Option (List Field) := some [Reg.CONV_STATE.STATE, Reg.CONV_STATE_FRAME.FRAME, Reg.CONV_EVENT.DEBLOCK, Reg.CONV_EVENT_SRC.CONV]
theorem State.autoRedeblock_effect (s : State) (p1 : Nat) :
    Effect State.autoRedeblock_touch State.autoRedeblock_fields s (@State.autoRedeblock s p1) := by
  unfold State.autoRedeblock
  extract_lets x1
  have h2 : Effect State.autoRedeblock_touch State.autoRedeblock_fields s x1 := by
    refine Effect.after (State.convEvent_effect ..) (by decide +kernel) ?_
    refine Effect.after (State.setConv_effect ..) (by decide +kernel) ?_
    exact Effect.refl _ _ _
  try clear_value x1
  refine Effect.ite ?_ ?_
  · refine Effect.after (State.modConv_effect ..) (by decide +kernel) ?_
    exact h2
  · exact Effect.refl _ _ _

def State.convTickEnd_touch : List Part := [.faults, .arms, .convs]
def State.convTickEnd_fields : Option (List Field) := some [Reg.CONV_STATE.STATE, Reg.CONV_STATE.CAUSE, Reg.CONV_STATE.SLEWING, Reg.CONV_STATE_FRAME.FRAME, Reg.CONV_RESIDUAL.E, Reg.CONV_COUNT.BLOCKS, Reg.CONV_EVENT.BLOCK, Reg.CONV_EVENT.DEBLOCK, Reg.CONV_EVENT.RESYNC_FAIL, Reg.CONV_EVENT.COAST_LIMIT, Reg.CONV_EVENT_SRC.CONV, Reg.COLLECT_STATUS_LO.STATUS, Reg.COLLECT_STATUS_HI.STATUS, Reg.FAULT_COUNT_CORR.COUNT, Reg.FAULT_COUNT_CONT.COUNT, Reg.FAULT_COUNT_FATAL.COUNT, Reg.FAULT_EVENT.CORRECTED, Reg.FAULT_EVENT.CONTAINED, Reg.FAULT_EVENT.FATAL, Reg.FAULT_EVENT.HIST_LOST, Reg.FAULT_HIST_STATUS.LOST]
theorem State.convTickEnd_effect (s : State) (p1 : Nat) :
    Effect State.convTickEnd_touch State.convTickEnd_fields s (@State.convTickEnd s p1) := by
  unfold State.convTickEnd
  extract_lets x1
  have h2 : Effect State.convTickEnd_touch State.convTickEnd_fields s x1 := by
    unfold x1
    split
    · refine Effect.after (State.modConv_effect ..) (by decide +kernel) ?_
      refine Effect.after (State.blockConv_effect ..) (by decide +kernel) ?_
      exact Effect.refl _ _ _
    · refine Effect.after (State.autoRedeblock_effect ..) (by decide +kernel) ?_
      exact Effect.refl _ _ _
  try clear_value x1
  refine Effect.after (State.modConv_effect ..) (by decide +kernel) ?_
  exact h2

def State.tpoCheckChan_touch : List Part := [.convs, .safety]
def State.tpoCheckChan_fields : Option (List Field) := some [Reg.SAFE_STATUS.A_OK, Reg.SAFE_STATUS.B_OK, Reg.SAFE_STATUS.DIAG, Reg.SAFE_STATUS.DIAG_CAUSE, Reg.SAFE_STATUS.RESET_PIN, Reg.SAFE_STATUS.DEMAND, Reg.SAFE_STATUS.LOCKED, Reg.SAFE_STATUS.DIAG_A, Reg.SAFE_STATUS.DIAG_B, Reg.SAFE_GROUP.STATE, Reg.SAFE_GROUP.KIND, Reg.SAFE_GROUP.STOP, Reg.SAFE_GROUP.CAUSE, Reg.SAFE_GROUP.PAIRS, Reg.SAFE_PAIR.CH_A, Reg.SAFE_PAIR.CH_B, Reg.SAFE_PAIR.DEMAND, Reg.SAFE_PAIR.PAIR_FAULT, Reg.SAFE_PAIR.FAULT_CAUSE, Reg.SAFE_PAIR.DEMANDS, Reg.SAFE_TPO.EN, Reg.SAFE_TPO.READBACK_FAULT, Reg.SAFE_FIRE.FIRE_A, Reg.SAFE_FIRE.FIRE_B, Reg.SAFE_FIRE.DRV_A, Reg.SAFE_FIRE.DRV_B, Reg.SAFE_RESET_STATUS.ARMED, Reg.SAFE_RESET_STATUS.RELEASED, Reg.SAFE_RESET_STATUS.REFUSED, Reg.SAFE_EVENT.DEMAND, Reg.SAFE_EVENT.STOPPING, Reg.SAFE_EVENT.REMOVED, Reg.SAFE_EVENT.PAIR_FAULT, Reg.SAFE_EVENT.RESET_REFUSED]
theorem State.tpoCheckChan_effect (s : State) (p1 : Bool) (p2 : Nat) (p3 : Nat) (p4 : Bool) :
    Effect State.tpoCheckChan_touch State.tpoCheckChan_fields s (@State.tpoCheckChan s p1 p2 p3 p4) := by
  unfold State.tpoCheckChan
  extract_lets x1
  try clear_value x1
  refine Effect.ite ?_ ?_
  · exact Effect.refl _ _ _
  · refine Effect.ite ?_ ?_
    · refine Effect.ite ?_ ?_
      · refine Effect.after (State.judgeUnit_effect ..) (by decide +kernel) ?_
        refine Effect.after (State.pairFault_effect ..) (by decide +kernel) ?_
        exact Effect.refl _ _ _
      · refine Effect.after (State.judgeUnit_effect ..) (by decide +kernel) ?_
        refine Effect.after (State.modChan_effect ..) (by decide +kernel) ?_
        exact Effect.refl _ _ _
    · refine Effect.ite ?_ ?_
      · exact Effect.refl _ _ _
      · refine Effect.after (State.judgeUnit_effect ..) (by decide +kernel) ?_
        refine Effect.after (State.pairFault_effect ..) (by decide +kernel) ?_
        exact Effect.refl _ _ _

def State.endSweep_touch : List Part := [.lanes]
def State.endSweep_fields : Option (List Field) := some [Reg.LANE_STATUS.STATE, Reg.LANE_EVENT.READY]
theorem State.endSweep_effect (s : State) (p1 : Nat) :
    Effect State.endSweep_touch State.endSweep_fields s (@State.endSweep s p1) := by
  unfold State.endSweep
  split
  · refine Effect.ite ?_ ?_
    · refine Effect.after (State.sweepDone_effect ..) (by decide +kernel) ?_
      refine Effect.after (State.modLane_effect ..) (by decide +kernel) ?_
      exact Effect.refl _ _ _
    · exact Effect.refl _ _ _
  · exact Effect.refl _ _ _

def State.spdEdge_touch : List Part := [.motors]
def State.spdEdge_fields : Option (List Field) := some [Reg.MOT_STATE.SIGNAL_LOST]
theorem State.spdEdge_effect (s : State) (p1 : Nat) (p2 : Bool) :
    Effect State.spdEdge_touch State.spdEdge_fields s (@State.spdEdge s p1 p2) := by
  unfold State.spdEdge
  extract_lets x1 x2 x3
  have h4 : Effect State.spdEdge_touch State.spdEdge_fields s x3 := by
    refine Effect.after (State.modMot_effect ..) (by decide +kernel) ?_
    exact Effect.refl _ _ _
  try clear_value x3
  try clear_value x1 x2
  refine Effect.ite ?_ ?_
  · exact Effect.refl _ _ _
  · refine Effect.when ?_ ?_
    · exact h4
    · intro u5
      try beta_reduce
      refine Effect.after (State.wr_effect ..) (by decide +kernel) ?_
      exact Effect.refl _ _ _

def State.armClear_touch : List Part := []
def State.armClear_fields : Option (List Field) := some [Reg.ARM_SHORT.FRAMES, Reg.ARM_DWELL.MOVED, Reg.ARM_DWELL.DEFERRED]
theorem State.armClear_effect (s : State) (p1 : Nat) :
    Effect State.armClear_touch State.armClear_fields s (@State.armClear s p1) := by
  unfold State.armClear
  refine Effect.after (State.wr_effect ..) (by decide +kernel) ?_
  refine Effect.after (State.wr_effect ..) (by decide +kernel) ?_
  refine Effect.after (State.wr_effect ..) (by decide +kernel) ?_
  exact Effect.refl _ _ _

def State.launch_touch : List Part := [.chains, .out]
def State.launch_fields : Option (List Field) := some [Reg.LANE_CHAIN.LOOPED]
theorem State.launch_effect (s : State) (p1 : Nat) (p2 : Option Nat) (p3 : Bool) (p4 : Bool) :
    Effect State.launch_touch State.launch_fields s (@State.launch s p1 p2 p3 p4) := by
  unfold State.launch
  extract_lets x1 x2 x3
  have h4 : Effect State.launch_touch State.launch_fields s x2 := by
    refine Effect.when ?_ ?_
    · exact Effect.refl _ _ _
    · intro u5
      try beta_reduce
      refine Effect.after (State.emit_effect ..) (by decide +kernel) ?_
      exact Effect.refl _ _ _
  try clear_value x2
  have h7 : Effect State.launch_touch State.launch_fields s x3 := by
    refine Effect.when ?_ ?_
    · exact h4
    · intro u8
      try beta_reduce
      refine Effect.after (State.wr_effect ..) (by decide +kernel) ?_
      exact Effect.refl _ _ _
  try clear_value x3
  try clear_value x1
  refine Effect.after (State.modChain_effect ..) (by decide +kernel) ?_
  exact h7

def State.allCallNow_touch : List Part := [.lanes, .chains, .out]
def State.allCallNow_fields : Option (List Field) := some [Reg.LANE_CHAIN.LOOPED]
theorem State.allCallNow_effect (s : State) (p1 : Nat) (p2 : List Nat) :
    Effect State.allCallNow_touch State.allCallNow_fields s (@State.allCallNow s p1 p2) := by
  unfold State.allCallNow
  refine Effect.after (State.launch_effect ..) (by decide +kernel) ?_
  refine Effect.after (State.modLane_effect ..) (by decide +kernel) ?_
  exact Effect.refl _ _ _

def State.tickAllCall_touch : List Part := [.lanes, .chains, .out]
def State.tickAllCall_fields : Option (List Field) := some [Reg.LANE_CHAIN.LOOPED]
theorem State.tickAllCall_effect (s : State) (p1 : ChainCfg) (p2 : List Nat) :
    Effect State.tickAllCall_touch State.tickAllCall_fields s (@State.tickAllCall s p1 p2) := by
  unfold State.tickAllCall
  extract_lets x1 x2
  try clear_value x1
  refine Effect.ite ?_ ?_
  · exact Effect.refl _ _ _
  · split
    · refine Effect.ite ?_ ?_
      · refine Effect.after (State.allCallNow_effect ..) (by decide +kernel) ?_
        refine Effect.after (State.modChain_effect ..) (by decide +kernel) ?_
        exact Effect.refl _ _ _
      · exact Effect.refl _ _ _
    · refine Effect.after (State.allCallNow_effect ..) (by decide +kernel) ?_
      refine Effect.after (State.modChain_effect ..) (by decide +kernel) ?_
      exact Effect.refl _ _ _
    · refine Effect.ite ?_ ?_
      · refine Effect.after (State.allCallNow_effect ..) (by decide +kernel) ?_
        exact Effect.refl _ _ _
      · refine Effect.ite ?_ ?_
        · refine Effect.after (State.allCallNow_effect ..) (by decide +kernel) ?_
          exact Effect.refl _ _ _
        · exact Effect.refl _ _ _

def State.endSlew_touch : List Part := [.time]
def State.endSlew_fields : Option (List Field) := some [Reg.TIME_STATUS.SLEWING, Reg.TIME_SLEW_REMAIN.VALUE]
theorem State.endSlew_effect (s : State) :
    Effect State.endSlew_touch State.endSlew_fields s (@State.endSlew s) := by
  unfold State.endSlew
  extract_lets x1
  try clear_value x1
  refine Effect.after (State.showSlew_effect ..) (by decide +kernel) ?_
  refine Effect.after (Effect.time _ _) (by decide +kernel) ?_
  exact Effect.refl _ _ _

def State.showQueued_touch : List Part := []
def State.showQueued_fields : Option (List Field) := some [Reg.CELL_STATE.CALL_QUEUED]
theorem State.showQueued_effect (s : State) (p1 : ChainCfg) (p2 : Nat) :
    Effect State.showQueued_touch State.showQueued_fields s (@State.showQueued s p1 p2) := by
  unfold State.showQueued
  refine Effect.after (State.wr_effect ..) (by decide +kernel) ?_
  exact Effect.refl _ _ _

def State.callFailed_touch : List Part := [.chains]
def State.callFailed_fields : Option (List Field) := some [Reg.CELL_STATE.NO_REPLY, Reg.CELL_STATE.CALL_QUEUED, Reg.TS_CALL.RESULT]
theorem State.callFailed_effect (s : State) (p1 : ChainCfg) (p2 : Call) :
    Effect State.callFailed_touch State.callFailed_fields s (@State.callFailed s p1 p2) := by
  unfold State.callFailed
  split
  · extract_lets x1 x2
    have h3 : Effect State.callFailed_touch State.callFailed_fields s x1 := by
      refine Effect.after (State.modChain_effect ..) (by decide +kernel) ?_
      exact Effect.refl _ _ _
    try clear_value x1
    have h4 : Effect State.callFailed_touch State.callFailed_fields s x2 := by
      refine Effect.after (State.wr_effect ..) (by decide +kernel) ?_
      refine Effect.after (State.wr_effect ..) (by decide +kernel) ?_
      exact h3
    try clear_value x2
    refine Effect.ite ?_ ?_
    · exact Effect.refl _ _ _
    · refine Effect.ite ?_ ?_
      · refine Effect.after (State.modChain_effect ..) (by decide +kernel) ?_
        exact Effect.refl _ _ _
      · refine Effect.after (State.showQueued_effect ..) (by decide +kernel) ?_
        exact h4
  · exact Effect.refl _ _ _

def State.settleCall_touch : List Part := [.faults, .lanes, .chains]
def State.settleCall_fields : Option (List Field) := some [Reg.COLLECT_STATUS_LO.STATUS, Reg.COLLECT_STATUS_HI.STATUS, Reg.FAULT_COUNT_CORR.COUNT, Reg.FAULT_COUNT_CONT.COUNT, Reg.FAULT_COUNT_FATAL.COUNT, Reg.FAULT_EVENT.CORRECTED, Reg.FAULT_EVENT.CONTAINED, Reg.FAULT_EVENT.FATAL, Reg.FAULT_EVENT.HIST_LOST, Reg.FAULT_HIST_STATUS.LOST, Reg.LANE_STATUS.STATE, Reg.LANE_STATUS.CHAIN_LATE, Reg.LANE_STATUS.SERVED, Reg.LANE_STATUS.FIRST_Q, Reg.LANE_UPBASE.U, Reg.LANE_BUDGET.DELIVERY, Reg.LANE_BUDGET.COMPLETION, Reg.LANE_EVENT.READY, Reg.LANE_EVENT.CHAIN_LATE, Reg.LANE_DELAY.D, Reg.LANE_DELAY.VALID, Reg.CELL_STATE.NO_REPLY, Reg.CELL_STATE.CALL_QUEUED, Reg.TS_CALL.RESULT]
theorem State.settleCall_effect (s : State) (p1 : ChainCfg) :
    Effect State.settleCall_touch State.settleCall_fields s (@State.settleCall s p1) := by
  unfold State.settleCall
  split
  · split
    · extract_lets x1 x2
      have h3 : Effect State.settleCall_touch State.settleCall_fields s x1 := by
        refine Effect.ite ?_ ?_
        · exact Effect.refl _ _ _
        · refine Effect.after (State.callFailed_effect ..) (by decide +kernel) ?_
          refine Effect.after (State.setDelay_effect ..) (by decide +kernel) ?_
          exact Effect.refl _ _ _
      try clear_value x1
      have h4 : Effect State.settleCall_touch State.settleCall_fields s x2 := by
        refine Effect.after (State.modChain_effect ..) (by decide +kernel) ?_
        exact h3
      try clear_value x2
      refine Effect.ite ?_ ?_
      · exact Effect.refl _ _ _
      · refine Effect.after (State.endSweep_effect ..) (by decide +kernel) ?_
        exact h4
    · exact Effect.refl _ _ _
  · exact Effect.refl _ _ _

def State.autoRestore_touch : List Part := [.lanes, .chains]
def State.autoRestore_fields : Option (List Field) := some [Reg.LANE_STATUS.STATE, Reg.LANE_STATUS.MOVING, Reg.LANE_SEGDOWN_LO.DOWN, Reg.LANE_SEGDOWN_HI.DOWN, Reg.LANE_EVENT.MOVE]
theorem State.autoRestore_effect (s : State) (p1 : ChainCfg) :
    Effect State.autoRestore_touch State.autoRestore_fields s (@State.autoRestore s p1) := by
  unfold State.autoRestore
  refine Effect.ite ?_ ?_
  · refine Effect.after (State.restore_effect ..) (by decide +kernel) ?_
    exact Effect.refl _ _ _
  · exact Effect.refl _ _ _

def State.freezeLane_touch : List Part := [.faults, .lanes]
def State.freezeLane_fields : Option (List Field) := some [Reg.COLLECT_STATUS_LO.STATUS, Reg.COLLECT_STATUS_HI.STATUS, Reg.FAULT_COUNT_CORR.COUNT, Reg.FAULT_COUNT_CONT.COUNT, Reg.FAULT_COUNT_FATAL.COUNT, Reg.FAULT_EVENT.CORRECTED, Reg.FAULT_EVENT.CONTAINED, Reg.FAULT_EVENT.FATAL, Reg.FAULT_EVENT.HIST_LOST, Reg.FAULT_HIST_STATUS.LOST, Reg.LANE_STATUS.CHAIN_LATE, Reg.LANE_LATE.FRAMES, Reg.LANE_EVENT.CHAIN_LATE]
theorem State.freezeLane_effect (s : State) (p1 : Nat) :
    Effect State.freezeLane_touch State.freezeLane_fields s (@State.freezeLane s p1) := by
  unfold State.freezeLane
  extract_lets x1 x2 x3 x4
  have h5 : Effect State.freezeLane_touch State.freezeLane_fields s x2 := by
    refine Effect.after (State.modLane_effect ..) (by decide +kernel) ?_
    exact Effect.refl _ _ _
  try clear_value x2
  have h6 : Effect State.freezeLane_touch State.freezeLane_fields s x3 := by
    refine Effect.when ?_ ?_
    · exact h5
    · intro u7
      try beta_reduce
      refine Effect.after (State.chainLate_effect ..) (by decide +kernel) ?_
      exact Effect.refl _ _ _
  try clear_value x3
  have h9 : Effect State.freezeLane_touch State.freezeLane_fields s x4 := by
    refine Effect.when ?_ ?_
    · exact h6
    · intro u10
      try beta_reduce
      refine Effect.after (State.wr_effect ..) (by decide +kernel) ?_
      exact Effect.refl _ _ _
  try clear_value x4
  try clear_value x1
  refine Effect.when ?_ ?_
  · exact h9
  · intro u12
    try beta_reduce
    refine Effect.after (State.bump_effect ..) (by decide +kernel) ?_
    exact Effect.refl _ _ _

def State.takeMove_touch : List Part := [.lanes, .chains]
def State.takeMove_fields : Option (List Field) := some [Reg.LANE_STATUS.SERVED, Reg.LANE_STATUS.FIRST_Q, Reg.LANE_CHAIN.SPLIT, Reg.LANE_CHAIN.GAP]
theorem State.takeMove_effect (s : State) (p1 : ChainCfg) :
    Effect State.takeMove_touch State.takeMove_fields s (@State.takeMove s p1) := by
  unfold State.takeMove
  extract_lets x1 x2
  try clear_value x1 x2
  split
  · extract_lets x3 x4 x5 x6
    have h7 : Effect State.takeMove_touch State.takeMove_fields s x3 := by
      refine Effect.after (State.wr_effect ..) (by decide +kernel) ?_
      refine Effect.after (State.wr_effect ..) (by decide +kernel) ?_
      exact Effect.refl _ _ _
    try clear_value x3
    have h8 : Effect State.takeMove_touch State.takeMove_fields s x4 := by
      refine Effect.after (State.modChain_effect ..) (by decide +kernel) ?_
      exact h7
    try clear_value x4
    have h9 : Effect State.takeMove_touch State.takeMove_fields s x5 := by
      refine Effect.after (State.modLane_effect ..) (by decide +kernel) ?_
      exact h8
    try clear_value x5
    have h10 : Effect State.takeMove_touch State.takeMove_fields s x6 := by
      refine Effect.after (State.modLane_effect ..) (by decide +kernel) ?_
      exact h9
    try clear_value x6
    refine Effect.after (State.showServed_effect ..) (by decide +kernel) ?_
    refine Effect.after (State.showServed_effect ..) (by decide +kernel) ?_
    exact h10
  · exact Effect.refl _ _ _

def State.showPlace_touch : List Part := []
def State.showPlace_fields : Option (List Field) := some [Reg.CELL_PLACE.CHAIN, Reg.CELL_PLACE.POS, Reg.CELL_PLACE.END, Reg.CELL_PLACE.REACHABLE, Reg.CELL_PLACE.ARM, Reg.CELL_PLACE.CLASS]
theorem State.showPlace_effect (s : State) (p1 : ChainCfg) (p2 : Nat) :
    Effect State.showPlace_touch State.showPlace_fields s (@State.showPlace s p1 p2) := by
  unfold State.showPlace
  extract_lets x1 x2 x3 x4 x5
  have h6 : Effect State.showPlace_touch State.showPlace_fields s x3 := by
    refine Effect.after (State.wr_effect ..) (by decide +kernel) ?_
    refine Effect.after (State.wr_effect ..) (by decide +kernel) ?_
    exact Effect.refl _ _ _
  try clear_value x3
  have h7 : Effect State.showPlace_touch State.showPlace_fields s x4 := by
    refine Effect.after (State.wr_effect ..) (by decide +kernel) ?_
    refine Effect.after (State.wr_effect ..) (by decide +kernel) ?_
    exact h6
  try clear_value x4
  have h8 : Effect State.showPlace_touch State.showPlace_fields s x5 := by
    refine Effect.after (State.wr_effect ..) (by decide +kernel) ?_
    exact h7
  try clear_value x5
  try clear_value x1 x2
  split
  · refine Effect.after (State.wr_effect ..) (by decide +kernel) ?_
    exact h8
  · exact h8

def State.settleMove_touch : List Part := [.lanes, .chains]
def State.settleMove_fields : Option (List Field) := some [Reg.LANE_STATUS.SERVED, Reg.LANE_STATUS.FIRST_Q, Reg.LANE_CHAIN.SPLIT, Reg.LANE_CHAIN.GAP, Reg.CELL_PLACE.CHAIN, Reg.CELL_PLACE.POS, Reg.CELL_PLACE.END, Reg.CELL_PLACE.REACHABLE, Reg.CELL_PLACE.ARM, Reg.CELL_PLACE.CLASS]
theorem State.settleMove_effect (s : State) (p1 : ChainCfg) :
    Effect State.settleMove_touch State.settleMove_fields s (@State.settleMove s p1) := by
  unfold State.settleMove
  extract_lets x1
  have h2 : Effect State.settleMove_touch State.settleMove_fields s x1 := by
    refine Effect.after (State.takeMove_effect ..) (by decide +kernel) ?_
    exact Effect.refl _ _ _
  try clear_value x1
  refine Effect.when ?_ ?_
  · exact h2
  · intro u3
    try beta_reduce
    refine Effect.each ?_ ?_
    · exact Effect.refl _ _ _
    · intro u5 a6
      try beta_reduce
      refine Effect.after (State.showPlace_effect ..) (by decide +kernel) ?_
      exact Effect.refl _ _ _

def State.freezeAll_touch : List Part := [.faults, .lanes, .chains, .cells]
def State.freezeAll_fields : Option (List Field) := some [Reg.COLLECT_STATUS_LO.STATUS, Reg.COLLECT_STATUS_HI.STATUS, Reg.FAULT_COUNT_CORR.COUNT, Reg.FAULT_COUNT_CONT.COUNT, Reg.FAULT_COUNT_FATAL.COUNT, Reg.FAULT_EVENT.CORRECTED, Reg.FAULT_EVENT.CONTAINED, Reg.FAULT_EVENT.FATAL, Reg.FAULT_EVENT.HIST_LOST, Reg.FAULT_HIST_STATUS.LOST, Reg.STALE_COUNT.STALE, Reg.LANE_STATUS.STATE, Reg.LANE_STATUS.CHAIN_LATE, Reg.LANE_STATUS.MOVING, Reg.LANE_STATUS.SERVED, Reg.LANE_STATUS.FIRST_Q, Reg.LANE_CHAIN.SPLIT, Reg.LANE_CHAIN.GAP, Reg.LANE_SEGDOWN_LO.DOWN, Reg.LANE_SEGDOWN_HI.DOWN, Reg.LANE_UPBASE.U, Reg.LANE_BUDGET.DELIVERY, Reg.LANE_BUDGET.COMPLETION, Reg.LANE_LATE.FRAMES, Reg.LANE_EVENT.READY, Reg.LANE_EVENT.MOVE, Reg.LANE_EVENT.CHAIN_LATE, Reg.LANE_DELAY.D, Reg.LANE_DELAY.VALID, Reg.CELL_STATE.NO_REPLY, Reg.CELL_STATE.CALL_QUEUED, Reg.CELL_PLACE.CHAIN, Reg.CELL_PLACE.POS, Reg.CELL_PLACE.END, Reg.CELL_PLACE.REACHABLE, Reg.CELL_PLACE.ARM, Reg.CELL_PLACE.CLASS, Reg.CELL_VOLT.V_USED, Reg.CELL_VOLT.V2_USED, Reg.CELL_LAST_FRESH.FRAME, Reg.TS_CALL.VALID_EVEN, Reg.TS_CALL.VALID_ODD, Reg.TS_CALL.RESULT]
theorem State.freezeAll_effect (s : State) (p1 : ChainCfg) :
    Effect State.freezeAll_touch State.freezeAll_fields s (@State.freezeAll s p1) := by
  unfold State.freezeAll
  extract_lets x1 x2 x3 x4
  have h5 : Effect State.freezeAll_touch State.freezeAll_fields s x1 := by
    refine Effect.after (State.settleCall_effect ..) (by decide +kernel) ?_
    exact Effect.refl _ _ _
  try clear_value x1
  have h6 : Effect State.freezeAll_touch State.freezeAll_fields s x2 := by
    refine Effect.each ?_ ?_
    · exact h5
    · intro u7 a8
      try beta_reduce
      refine Effect.after (State.modCell_effect ..) (by decide +kernel) ?_
      exact Effect.refl _ _ _
  try clear_value x2
  have h9 : Effect State.freezeAll_touch State.freezeAll_fields s x3 := by
    refine Effect.after (State.autoRestore_effect ..) (by decide +kernel) ?_
    refine Effect.after (State.freezeChain_effect ..) (by decide +kernel) ?_
    exact h6
  try clear_value x3
  have h10 : Effect State.freezeAll_touch State.freezeAll_fields s x4 := by
    refine Effect.after (State.freezeLane_effect ..) (by decide +kernel) ?_
    refine Effect.after (State.freezeLane_effect ..) (by decide +kernel) ?_
    exact h9
  try clear_value x4
  refine Effect.after (State.settleMove_effect ..) (by decide +kernel) ?_
  refine Effect.each ?_ ?_
  · exact h10
  · intro u11 a12
    try beta_reduce
    refine Effect.after (State.freezeCell_effect ..) (by decide +kernel) ?_
    exact Effect.refl _ _ _

def State.storeImage_touch : List Part := [.images]
def State.storeImage_fields : Option (List Field) := (some [])
theorem State.storeImage_effect (s : State) (b : Nat) : Effect State.storeImage_touch State.storeImage_fields s (s.storeImage b) :=
  Effect.imagesTo s _ fun w => Tbl.wf_foldl_put _ _ _ (Tbl.wfFrom_filter _ _ 0 w)

def State.freezeImage_touch : List Part := [.faults, .fr, .images, .lanes, .chains, .cells, .adc]
def State.freezeImage_fields : Option (List Field) := some [Reg.COLLECT_STATUS_LO.STATUS, Reg.COLLECT_STATUS_HI.STATUS, Reg.FAULT_COUNT_CORR.COUNT, Reg.FAULT_COUNT_CONT.COUNT, Reg.FAULT_COUNT_FATAL.COUNT, Reg.FAULT_EVENT.CORRECTED, Reg.FAULT_EVENT.CONTAINED, Reg.FAULT_EVENT.FATAL, Reg.FAULT_EVENT.HIST_LOST, Reg.FAULT_HIST_STATUS.LOST, Reg.FRAME_STATUS.FROZEN_BUF, Reg.STALE_COUNT.STALE, Reg.LANE_STATUS.STATE, Reg.LANE_STATUS.CHAIN_LATE, Reg.LANE_STATUS.MOVING, Reg.LANE_STATUS.SERVED, Reg.LANE_STATUS.FIRST_Q, Reg.LANE_CHAIN.SPLIT, Reg.LANE_CHAIN.GAP, Reg.LANE_SEGDOWN_LO.DOWN, Reg.LANE_SEGDOWN_HI.DOWN, Reg.LANE_UPBASE.U, Reg.LANE_BUDGET.DELIVERY, Reg.LANE_BUDGET.COMPLETION, Reg.LANE_LATE.FRAMES, Reg.LANE_EVENT.READY, Reg.LANE_EVENT.MOVE, Reg.LANE_EVENT.CHAIN_LATE, Reg.LANE_DELAY.D, Reg.LANE_DELAY.VALID, Reg.CELL_STATE.NO_REPLY, Reg.CELL_STATE.CALL_QUEUED, Reg.CELL_PLACE.CHAIN, Reg.CELL_PLACE.POS, Reg.CELL_PLACE.END, Reg.CELL_PLACE.REACHABLE, Reg.CELL_PLACE.ARM, Reg.CELL_PLACE.CLASS, Reg.CELL_VOLT.V_USED, Reg.CELL_VOLT.V2_USED, Reg.CELL_LAST_FRESH.FRAME, Reg.TS_CALL.VALID_EVEN, Reg.TS_CALL.VALID_ODD, Reg.TS_CALL.RESULT]
theorem State.freezeImage_effect (s : State) :
    Effect State.freezeImage_touch State.freezeImage_fields s (@State.freezeImage s) := by
  unfold State.freezeImage
  extract_lets x1 x2 x3 x4
  have h5 : Effect State.freezeImage_touch State.freezeImage_fields s x2 := by
    refine Effect.after (State.modFr_effect ..) (by decide +kernel) ?_
    exact Effect.refl _ _ _
  try clear_value x2
  have h6 : Effect State.freezeImage_touch State.freezeImage_fields s x3 := by
    refine Effect.after (State.wr_effect ..) (by decide +kernel) ?_
    exact h5
  try clear_value x3
  have h7 : Effect State.freezeImage_touch State.freezeImage_fields s x4 := by
    refine Effect.after (State.hkPost_effect ..) (by decide +kernel) ?_
    refine Effect.when ?_ ?_
    · exact h6
    · intro u8
      try beta_reduce
      refine Effect.each ?_ ?_
      · exact Effect.refl _ _ _
      · intro u10 a11
        try beta_reduce
        refine Effect.after (State.freezeAll_effect ..) (by decide +kernel) ?_
        exact Effect.refl _ _ _
  try clear_value x4
  try clear_value x1
  refine Effect.when ?_ ?_
  · exact h7
  · intro u12
    try beta_reduce
    refine Effect.after (State.storeImage_effect ..) (by decide +kernel) ?_
    exact Effect.refl _ _ _

def State.withdrawAtTick_touch : List Part := [.power, .faults, .cells, .arms, .engs, .convs, .referee]
def State.withdrawAtTick_fields : Option (List Field) := some [Reg.DOMAIN_STATE.PLANE_A, Reg.DOMAIN_STATE.PLANE_B, Reg.CONV_STATE.STATE, Reg.CONV_STATE.CAUSE, Reg.CONV_STATE.SLEWING, Reg.CONV_STATE_FRAME.FRAME, Reg.CONV_RESIDUAL.E, Reg.CONV_COUNT.BLOCKS, Reg.CONV_EVENT.BLOCK, Reg.CONV_EVENT.RESYNC_FAIL, Reg.CONV_EVENT.COAST_LIMIT, Reg.CONV_EVENT_SRC.CONV, Reg.POWER_PGOOD.PGOOD, Reg.COLLECT_STATUS_LO.STATUS, Reg.COLLECT_STATUS_HI.STATUS, Reg.FAULT_COUNT_CORR.COUNT, Reg.FAULT_COUNT_CONT.COUNT, Reg.FAULT_COUNT_FATAL.COUNT, Reg.FAULT_EVENT.CORRECTED, Reg.FAULT_EVENT.CONTAINED, Reg.FAULT_EVENT.FATAL, Reg.FAULT_EVENT.HIST_LOST, Reg.FAULT_HIST_STATUS.LOST, Reg.REF_STATUS.STATE, Reg.REF_STATUS.ROLE_A, Reg.REF_STATUS.ROLE_B, Reg.REF_STATUS.LEASE, Reg.REF_TAKEOVER.LAST_CAUSE, Reg.REF_EVENT.UNFIT, Reg.ENG_STATUS.BALL, Reg.ENG_STATUS.SHADOW, Reg.ENG_STATUS.COLD, Reg.ENG_EXPORT.VALUE, Reg.ARM_PTR.PTR]
theorem State.withdrawAtTick_effect (s : State) :
    Effect State.withdrawAtTick_touch State.withdrawAtTick_fields s (@State.withdrawAtTick s) := by
  unfold State.withdrawAtTick
  extract_lets x1 x2 x3
  have h4 : Effect State.withdrawAtTick_touch State.withdrawAtTick_fields s x3 := by
    refine Effect.after (State.modRef_effect ..) (by decide +kernel) ?_
    exact Effect.refl _ _ _
  try clear_value x3
  try clear_value x1 x2
  refine Effect.ite ?_ ?_
  · refine Effect.after (State.withdraw_effect ..) (by decide +kernel) ?_
    exact h4
  · refine Effect.ite ?_ ?_
    · refine Effect.after (State.withdraw_effect ..) (by decide +kernel) ?_
      exact h4
    · exact h4

def State.inputChange_touch : List Part := [.safety]
def State.inputChange_fields : Option (List Field) := some []
theorem State.inputChange_effect (s : State) (p1 : Bool) (p2 : Nat) (p3 : Bool) :
    Effect State.inputChange_touch State.inputChange_fields s (@State.inputChange s p1 p2 p3) := by
  unfold State.inputChange
  extract_lets x1
  try clear_value x1
  refine Effect.ite ?_ ?_
  · exact Effect.refl _ _ _
  · refine Effect.after (State.modChan_effect ..) (by decide +kernel) ?_
    exact Effect.refl _ _ _

def State.writeSink_touch : List Part := [.arms, .convs]
def State.writeSink_fields : Option (List Field) := some []
theorem State.writeSink_effect (s : State) (p1 : Nat × Int) :
    Effect State.writeSink_touch State.writeSink_fields s (@State.writeSink s p1) := by
  unfold State.writeSink
  extract_lets x1
  try clear_value x1
  split
  · refine Effect.after (State.modArm_effect ..) (by decide +kernel) ?_
    exact Effect.refl _ _ _
  · refine Effect.after (State.modConv_effect ..) (by decide +kernel) ?_
    exact Effect.refl _ _ _
  · exact Effect.refl _ _ _

def State.reviveComplete_touch : List Part := [.power, .engs, .referee]
def State.reviveComplete_fields : Option (List Field) := some [Reg.DOMAIN_STATE.PLANE_A, Reg.DOMAIN_STATE.PLANE_B, Reg.POWER_PGOOD.PGOOD, Reg.REF_STATUS.STATE, Reg.REF_STATUS.ROLE_A, Reg.REF_STATUS.ROLE_B, Reg.REF_HT_STATUS.OUTCOME, Reg.REF_EVENT.UNFIT, Reg.ENG_STATUS.BALL, Reg.ENG_STATUS.SHADOW, Reg.ENG_STATUS.COLD, Reg.ENG_EXPORT.VALUE]
theorem State.reviveComplete_effect (s : State) :
    Effect State.reviveComplete_touch State.reviveComplete_fields s (@State.reviveComplete s) := by
  unfold State.reviveComplete
  refine Effect.ite ?_ ?_
  · refine Effect.after (State.endShadow_effect ..) (by decide +kernel) ?_
    exact Effect.refl _ _ _
  · exact Effect.refl _ _ _

def State.commitChain_touch : List Part := [.faults, .lanes, .cells]
def State.commitChain_fields : Option (List Field) := some [Reg.COLLECT_STATUS_LO.STATUS, Reg.COLLECT_STATUS_HI.STATUS, Reg.FAULT_COUNT_CORR.COUNT, Reg.FAULT_COUNT_CONT.COUNT, Reg.FAULT_COUNT_FATAL.COUNT, Reg.FAULT_EVENT.CORRECTED, Reg.FAULT_EVENT.CONTAINED, Reg.FAULT_EVENT.FATAL, Reg.FAULT_EVENT.HIST_LOST, Reg.FAULT_HIST_STATUS.LOST, Reg.LANE_STATUS.STATE, Reg.LANE_STATUS.CHAIN_LATE, Reg.LANE_STATUS.SERVED, Reg.LANE_STATUS.FIRST_Q, Reg.LANE_CHAIN.SPLIT, Reg.LANE_CHAIN.GAP, Reg.LANE_CHAIN.CELLS, Reg.LANE_CHAIN.PHYS, Reg.LANE_CHAIN.LOOPED, Reg.LANE_SEGDOWN_LO.DOWN, Reg.LANE_SEGDOWN_HI.DOWN, Reg.LANE_UPBASE.U, Reg.LANE_BUDGET.DELIVERY, Reg.LANE_BUDGET.COMPLETION, Reg.LANE_EVENT.CHAIN_LATE, Reg.LANE_DELAY.VALID, Reg.CELL_STATE.STATE, Reg.CELL_STATE.CONFIRMED, Reg.CELL_STATE.NO_REPLY, Reg.CELL_STATE.CALL_QUEUED, Reg.CELL_STATE.REASON, Reg.CELL_PLACE.CHAIN, Reg.CELL_PLACE.POS, Reg.CELL_PLACE.END, Reg.CELL_PLACE.REACHABLE, Reg.CELL_PLACE.ARM, Reg.CELL_PLACE.CLASS, Reg.TS_FOUND_LO.IDENTITY, Reg.TS_FOUND_HI.IDENTITY, Reg.TS_RECORDED_LO.IDENTITY, Reg.TS_RECORDED_HI.IDENTITY, Reg.TS_INFO.CLASS, Reg.TS_INFO.BYPASS_FITTED, Reg.TS_INFO.FIRMWARE, Reg.TS_CALL.Q_EVEN, Reg.TS_CALL.VALID_EVEN, Reg.TS_CALL.Q_ODD, Reg.TS_CALL.VALID_ODD, Reg.TS_CALL.REPLIES, Reg.TS_CALL.RESULT, Reg.TS_CALL_FRAME.FRAME]
theorem State.commitChain_effect (s : State) (p1 : ChainCfg) :
    Effect State.commitChain_touch State.commitChain_fields s (@State.commitChain s p1) := by
  unfold State.commitChain
  extract_lets x1 x2 x3 x4 x5 x6 x7 x8
  have h9 : Effect State.commitChain_touch State.commitChain_fields s x2 := by
    refine Effect.after (State.wr_effect ..) (by decide +kernel) ?_
    refine Effect.after (State.wr_effect ..) (by decide +kernel) ?_
    refine Effect.after (State.wr_effect ..) (by decide +kernel) ?_
    exact Effect.refl _ _ _
  try clear_value x2
  have h10 : Effect State.commitChain_touch State.commitChain_fields s x3 := by
    refine Effect.after (State.wr_effect ..) (by decide +kernel) ?_
    refine Effect.after (State.wr_effect ..) (by decide +kernel) ?_
    exact h9
  try clear_value x3
  have h11 : Effect State.commitChain_touch State.commitChain_fields s x4 := by
    refine Effect.after (State.showDown_effect ..) (by decide +kernel) ?_
    exact h10
  try clear_value x4
  have h12 : Effect State.commitChain_touch State.commitChain_fields s x5 := by
    refine Effect.each ?_ ?_
    · exact h11
    · intro u13 a14
      try beta_reduce
      refine Effect.after (State.wr_effect ..) (by decide +kernel) ?_
      refine Effect.each ?_ ?_
      · exact Effect.refl _ _ _
      · intro u15 a16
        try beta_reduce
        refine Effect.after (State.wr_effect ..) (by decide +kernel) ?_
        exact Effect.refl _ _ _
  try clear_value x5
  have h17 : Effect State.commitChain_touch State.commitChain_fields s x6 := by
    refine Effect.after (State.showLane_effect ..) (by decide +kernel) ?_
    refine Effect.after (State.planChain_effect ..) (by decide +kernel) ?_
    exact h12
  try clear_value x6
  have h18 : Effect State.commitChain_touch State.commitChain_fields s x7 := by
    refine Effect.after (State.showLane_effect ..) (by decide +kernel) ?_
    exact h17
  try clear_value x7
  try clear_value x1 x8
  refine Effect.each ?_ ?_
  · exact h18
  · intro u19 a20
    try beta_reduce
    extract_lets x21 x22 x23 x24 x25 x26
    have h27 : Effect State.commitChain_touch State.commitChain_fields u19 x23 := by
      refine Effect.after (State.wr_effect ..) (by decide +kernel) ?_
      refine Effect.after (State.wr_effect ..) (by decide +kernel) ?_
      exact Effect.refl _ _ _
    try clear_value x23
    have h28 : Effect State.commitChain_touch State.commitChain_fields u19 x24 := by
      refine Effect.after (State.wr_effect ..) (by decide +kernel) ?_
      refine Effect.after (State.wr_effect ..) (by decide +kernel) ?_
      refine Effect.after (State.wr_effect ..) (by decide +kernel) ?_
      exact h27
    try clear_value x24
    have h29 : Effect State.commitChain_touch State.commitChain_fields u19 x25 := by
      refine Effect.after (State.wr64_effect ..) (by decide +kernel) ?_
      exact h28
    try clear_value x25
    have h30 : Effect State.commitChain_touch State.commitChain_fields u19 x26 := by
      refine Effect.after (State.clearSheet_effect ..) (by decide +kernel) ?_
      exact h29
    try clear_value x26
    try clear_value x21 x22
    refine Effect.after (State.modCell_effect ..) (by decide +kernel) ?_
    refine Effect.after (State.showPlace_effect ..) (by decide +kernel) ?_
    exact h30

def State.stepFaults_touch : List Part := [.faults, .cells]
def State.stepFaults_fields : Option (List Field) := some [Reg.COLLECT_STATUS_LO.STATUS, Reg.COLLECT_STATUS_HI.STATUS, Reg.FAULT_COUNT_CORR.COUNT, Reg.FAULT_COUNT_CONT.COUNT, Reg.FAULT_COUNT_FATAL.COUNT, Reg.FAULT_EVENT.CORRECTED, Reg.FAULT_EVENT.CONTAINED, Reg.FAULT_EVENT.FATAL, Reg.FAULT_EVENT.HIST_LOST, Reg.FAULT_HIST_STATUS.LOST, Reg.CELL_STATE.NO_BYPASS, Reg.CELL_FAULT.REPORTED, Reg.CELL_FAULT.SEEN, Reg.CELL_FAULT.TOGGLES]
theorem State.stepFaults_effect (s : State) (p1 : Nat) :
    Effect State.stepFaults_touch State.stepFaults_fields s (@State.stepFaults s p1) := by
  unfold State.stepFaults
  extract_lets x1 x2 x3 x4 x5 x6 x7 x8 x9 x10
  have h11 : Effect State.stepFaults_touch State.stepFaults_fields s x3 := by
    refine Effect.after (State.wr_effect ..) (by decide +kernel) ?_
    refine Effect.after (State.wr_effect ..) (by decide +kernel) ?_
    exact Effect.refl _ _ _
  try clear_value x3
  have h12 : Effect State.stepFaults_touch State.stepFaults_fields s x6 := by
    refine Effect.when ?_ ?_
    · exact h11
    · intro u13
      try beta_reduce
      refine Effect.after (State.raise_effect ..) (by decide +kernel) ?_
      exact Effect.refl _ _ _
  try clear_value x6
  have h15 : Effect State.stepFaults_touch State.stepFaults_fields s x7 := by
    refine Effect.when ?_ ?_
    · exact h12
    · intro u16
      try beta_reduce
      refine Effect.after (State.raise_effect ..) (by decide +kernel) ?_
      exact Effect.refl _ _ _
  try clear_value x7
  have h18 : Effect State.stepFaults_touch State.stepFaults_fields s x8 := by
    refine Effect.when ?_ ?_
    · exact h15
    · intro u19
      try beta_reduce
      refine Effect.after (State.raise_effect ..) (by decide +kernel) ?_
      refine Effect.after (State.wr_effect ..) (by decide +kernel) ?_
      exact Effect.refl _ _ _
  try clear_value x8
  have h21 : Effect State.stepFaults_touch State.stepFaults_fields s x9 := by
    refine Effect.after (State.modCell_effect ..) (by decide +kernel) ?_
    exact h18
  try clear_value x9
  try clear_value x1 x2 x4 x10
  refine Effect.ite ?_ ?_
  · exact Effect.refl _ _ _
  · refine Effect.after (State.wr_effect ..) (by decide +kernel) ?_
    exact h21

def State.drvElapse_touch : List Part := [.time, .fr, .drives]
def State.drvElapse_fields : Option (List Field) := some [Reg.TIME_STATUS.SLEWING, Reg.TIME_SLEW_REMAIN.VALUE, Reg.DRV_STATUS.LEG_FAULT, Reg.DRV_LEG_STATUS.DESAT_HS, Reg.DRV_LEG_STATUS.DESAT_LS, Reg.DRV_LEG_STATUS.INSTANT, Reg.DRV_LEG_STATUS.VB_UV, Reg.DRV_LEG_STATUS.GATES_OFF]
theorem State.drvElapse_effect (s : State) (p1 : Nat) (p2 : Nat) :
    Effect State.drvElapse_touch State.drvElapse_fields s (@State.drvElapse s p1 p2) := by
  unfold State.drvElapse
  refine Effect.after (State.drvDue_effect ..) (by decide +kernel) ?_
  refine Effect.after (State.elapse_effect ..) (by decide +kernel) ?_
  exact Effect.refl _ _ _

def State.tickChain_touch : List Part := [.faults, .lanes, .chains]
def State.tickChain_fields : Option (List Field) := some [Reg.COLLECT_STATUS_LO.STATUS, Reg.COLLECT_STATUS_HI.STATUS, Reg.FAULT_COUNT_CORR.COUNT, Reg.FAULT_COUNT_CONT.COUNT, Reg.FAULT_COUNT_FATAL.COUNT, Reg.FAULT_EVENT.CORRECTED, Reg.FAULT_EVENT.CONTAINED, Reg.FAULT_EVENT.FATAL, Reg.FAULT_EVENT.HIST_LOST, Reg.FAULT_HIST_STATUS.LOST, Reg.LANE_STATUS.CHAIN_LATE, Reg.LANE_STATUS.SERVED, Reg.LANE_STATUS.FIRST_Q, Reg.LANE_UPBASE.U, Reg.LANE_BUDGET.DELIVERY, Reg.LANE_BUDGET.COMPLETION, Reg.LANE_EVENT.CHAIN_LATE]
theorem State.tickChain_effect (s : State) (p1 : ChainCfg) :
    Effect State.tickChain_touch State.tickChain_fields s (@State.tickChain s p1) := by
  unfold State.tickChain
  refine Effect.ite ?_ ?_
  · refine Effect.after (State.planChain_effect ..) (by decide +kernel) ?_
    refine Effect.after (State.modChain_effect ..) (by decide +kernel) ?_
    exact Effect.refl _ _ _
  · exact Effect.refl _ _ _

def State.sendTrain_touch : List Part := [.out]
def State.sendTrain_fields : Option (List Field) := some []
theorem State.sendTrain_effect (s : State) (p1 : Nat) (p2 : Bool) :
    Effect State.sendTrain_touch State.sendTrain_fields s (@State.sendTrain s p1 p2) := by
  unfold State.sendTrain
  extract_lets x1 x2 x3 x4 x5 x6
  have h7 : Effect State.sendTrain_touch State.sendTrain_fields s x6 := by
    refine Effect.each ?_ ?_
    · refine Effect.after (State.emit_effect ..) (by decide +kernel) ?_
      exact Effect.refl _ _ _
    · intro u8 a9
      try beta_reduce
      refine Effect.after (State.emit_effect ..) (by decide +kernel) ?_
      exact Effect.refl _ _ _
  try clear_value x6
  try clear_value x1 x2 x3 x4 x5
  refine Effect.ite ?_ ?_
  · exact Effect.refl _ _ _
  · refine Effect.after (State.emit_effect ..) (by decide +kernel) ?_
    exact h7

def State.tickLane_touch : List Part := [.lanes, .out]
def State.tickLane_fields : Option (List Field) := some []
theorem State.tickLane_effect (s : State) (p1 : Nat) (p2 : Bool) :
    Effect State.tickLane_touch State.tickLane_fields s (@State.tickLane s p1 p2) := by
  unfold State.tickLane
  extract_lets x1
  try clear_value x1
  refine Effect.after (State.modLane_effect ..) (by decide +kernel) ?_
  refine Effect.when ?_ ?_
  · exact Effect.refl _ _ _
  · intro u2
    try beta_reduce
    refine Effect.after (State.sendTrain_effect ..) (by decide +kernel) ?_
    exact Effect.refl _ _ _

def State.keepAdmission_touch : List Part := [.cells]
def State.keepAdmission_fields : Option (List Field) := some []
theorem State.keepAdmission_effect (s : State) (p1 : Nat) :
    Effect State.keepAdmission_touch State.keepAdmission_fields s (@State.keepAdmission s p1) := by
  unfold State.keepAdmission
  refine Effect.after (State.modCell_effect ..) (by decide +kernel) ?_
  exact Effect.refl _ _ _

def State.slotSent_touch : List Part := [.cells]
def State.slotSent_fields : Option (List Field) := some []
theorem State.slotSent_effect (s : State) (p1 : Nat) (p2 : Nat) (p3 : Nat) :
    Effect State.slotSent_touch State.slotSent_fields s (@State.slotSent s p1 p2 p3) := by
  unfold State.slotSent
  extract_lets x1 x2 x3 x4 x5 x6
  have h7 : Effect State.slotSent_touch State.slotSent_fields s x3 := by
    refine Effect.when ?_ ?_
    · exact Effect.refl _ _ _
    · intro u8
      try beta_reduce
      refine Effect.after (State.keepAdmission_effect ..) (by decide +kernel) ?_
      refine Effect.after (State.modCell_effect ..) (by decide +kernel) ?_
      exact Effect.refl _ _ _
  try clear_value x3
  have h10 : Effect State.slotSent_touch State.slotSent_fields s x4 := by
    refine Effect.after (State.modCell_effect ..) (by decide +kernel) ?_
    exact h7
  try clear_value x4
  have h11 : Effect State.slotSent_touch State.slotSent_fields s x6 := by
    refine Effect.when ?_ ?_
    · exact h10
    · intro u12
      try beta_reduce
      refine Effect.after (State.modCell_effect ..) (by decide +kernel) ?_
      exact Effect.refl _ _ _
  try clear_value x6
  try clear_value x1 x2 x5
  refine Effect.after (State.sendCmd_effect ..) (by decide +kernel) ?_
  exact h11

end Sys2Proof.Machine
end

