-- ==== Sys2Proof/Laws/Frames4.lean ====
section
/-! SUPPORT. What every operation and every command may touch (part 4 of 8, in the order in which they are built on one another): for each a list
of parts, a list of register fields, and the effect with both, from every state. -/

namespace Sys2Proof.Machine

set_option Elab.async false

def State.diagFail_touch : List Part := [.faults, .convs, .safety]
def State.diagFail_fields : Option (List Field) := some [Reg.COLLECT_STATUS_LO.STATUS, Reg.COLLECT_STATUS_HI.STATUS, Reg.FAULT_COUNT_CORR.COUNT, Reg.FAULT_COUNT_CONT.COUNT, Reg.FAULT_COUNT_FATAL.COUNT, Reg.FAULT_EVENT.CORRECTED, Reg.FAULT_EVENT.CONTAINED, Reg.FAULT_EVENT.FATAL, Reg.FAULT_EVENT.HIST_LOST, Reg.FAULT_HIST_STATUS.LOST, Reg.SAFE_STATUS.A_OK, Reg.SAFE_STATUS.B_OK, Reg.SAFE_STATUS.DIAG, Reg.SAFE_STATUS.DIAG_CAUSE, Reg.SAFE_STATUS.RESET_PIN, Reg.SAFE_STATUS.DEMAND, Reg.SAFE_STATUS.LOCKED, Reg.SAFE_STATUS.DIAG_A, Reg.SAFE_STATUS.DIAG_B, Reg.SAFE_GROUP.STATE, Reg.SAFE_GROUP.KIND, Reg.SAFE_GROUP.STOP, Reg.SAFE_GROUP.CAUSE, Reg.SAFE_GROUP.PAIRS, Reg.SAFE_PAIR.CH_A, Reg.SAFE_PAIR.CH_B, Reg.SAFE_PAIR.DEMAND, Reg.SAFE_PAIR.PAIR_FAULT, Reg.SAFE_PAIR.FAULT_CAUSE, Reg.SAFE_PAIR.DEMANDS, Reg.SAFE_TPO.EN, Reg.SAFE_TPO.READBACK_FAULT, Reg.SAFE_FIRE.FIRE_A, Reg.SAFE_FIRE.FIRE_B, Reg.SAFE_FIRE.DRV_A, Reg.SAFE_FIRE.DRV_B, Reg.SAFE_RESET_STATUS.ARMED, Reg.SAFE_RESET_STATUS.RELEASED, Reg.SAFE_RESET_STATUS.REFUSED, Reg.SAFE_EVENT.DEMAND, Reg.SAFE_EVENT.STOPPING, Reg.SAFE_EVENT.REMOVED, Reg.SAFE_EVENT.DIAG, Reg.SAFE_EVENT.RESET_REFUSED]
theorem State.diagFail_effect (s : State) (p1 : Bool) (p2 : Nat) :
    Effect State.diagFail_touch State.diagFail_fields s (@State.diagFail s p1 p2) := by
  unfold State.diagFail
  extract_lets x1 x2 x3 x4
  have h5 : Effect State.diagFail_touch State.diagFail_fields s x1 := by
    refine Effect.after (State.wr_effect ..) (by decide +kernel) ?_
    refine Effect.after (State.modUnit_effect ..) (by decide +kernel) ?_
    exact Effect.refl _ _ _
  try clear_value x1
  have h6 : Effect State.diagFail_touch State.diagFail_fields s x2 := by
    refine Effect.after (State.raiseVia_effect ..) (by decide +kernel) ?_
    exact h5
  try clear_value x2
  have h7 : Effect State.diagFail_touch State.diagFail_fields s x3 := by
    refine Effect.after (State.demandGroups_effect ..) (by decide +kernel) ?_
    exact h6
  try clear_value x3
  have h8 : Effect State.diagFail_touch State.diagFail_fields s x4 := by
    refine Effect.each ?_ ?_
    · exact h7
    · intro u9 a10
      try beta_reduce
      refine Effect.ite ?_ ?_
      · refine Effect.after (State.removeGroup_effect ..) (by decide +kernel) ?_
        exact Effect.refl _ _ _
      · exact Effect.refl _ _ _
  try clear_value x4
  refine Effect.ite ?_ ?_
  · exact Effect.refl _ _ _
  · refine Effect.after (State.showSafe_effect ..) (by decide +kernel) ?_
    exact h8

def State.tickChains_touch : List Part := [.faults, .lanes, .chains, .cells, .arms, .convs, .safety, .out]
def State.tickChains_fields : Option (List Field) := some [Reg.COLLECT_STATUS_LO.STATUS, Reg.COLLECT_STATUS_HI.STATUS, Reg.FAULT_COUNT_CORR.COUNT, Reg.FAULT_COUNT_CONT.COUNT, Reg.FAULT_COUNT_FATAL.COUNT, Reg.FAULT_EVENT.CORRECTED, Reg.FAULT_EVENT.CONTAINED, Reg.FAULT_EVENT.FATAL, Reg.FAULT_EVENT.HIST_LOST, Reg.FAULT_HIST_STATUS.LOST, Reg.SAFE_STATUS.A_OK, Reg.SAFE_STATUS.B_OK, Reg.SAFE_STATUS.DIAG, Reg.SAFE_STATUS.DIAG_CAUSE, Reg.SAFE_STATUS.RESET_PIN, Reg.SAFE_STATUS.DEMAND, Reg.SAFE_STATUS.LOCKED, Reg.SAFE_STATUS.DIAG_A, Reg.SAFE_STATUS.DIAG_B, Reg.SAFE_GROUP.STATE, Reg.SAFE_GROUP.KIND, Reg.SAFE_GROUP.STOP, Reg.SAFE_GROUP.CAUSE, Reg.SAFE_GROUP.PAIRS, Reg.SAFE_PAIR.CH_A, Reg.SAFE_PAIR.CH_B, Reg.SAFE_PAIR.DEMAND, Reg.SAFE_PAIR.PAIR_FAULT, Reg.SAFE_PAIR.FAULT_CAUSE, Reg.SAFE_PAIR.DEMANDS, Reg.SAFE_TPO.EN, Reg.SAFE_TPO.READBACK_FAULT, Reg.SAFE_FIRE.FIRE_A, Reg.SAFE_FIRE.FIRE_B, Reg.SAFE_FIRE.DRV_A, Reg.SAFE_FIRE.DRV_B, Reg.SAFE_RESET_STATUS.ARMED, Reg.SAFE_RESET_STATUS.RELEASED, Reg.SAFE_RESET_STATUS.REFUSED, Reg.SAFE_EVENT.DEMAND, Reg.SAFE_EVENT.STOPPING, Reg.SAFE_EVENT.REMOVED, Reg.SAFE_EVENT.DIAG, Reg.SAFE_EVENT.RESET_REFUSED, Reg.LANE_STATUS.CHAIN_LATE, Reg.LANE_STATUS.SERVED, Reg.LANE_STATUS.FIRST_Q, Reg.LANE_CHAIN.LOOPED, Reg.LANE_UPBASE.U, Reg.LANE_BUDGET.DELIVERY, Reg.LANE_BUDGET.COMPLETION, Reg.LANE_EVENT.CHAIN_LATE, Reg.ARM_STATUS.FLAGS, Reg.CELL_PLACE.CHAIN, Reg.CELL_PLACE.POS, Reg.CELL_PLACE.END, Reg.CELL_PLACE.REACHABLE, Reg.CELL_PLACE.ARM, Reg.CELL_PLACE.CLASS]
theorem State.tickChains_effect (s : State) (p1 : List Nat) (p2 : Nat) :
    Effect State.tickChains_touch State.tickChains_fields s (@State.tickChains s p1 p2) := by
  unfold State.tickChains
  extract_lets x1 x2 x3 x4 x5
  have h6 : Effect State.tickChains_touch State.tickChains_fields s x2 := by
    refine Effect.each ?_ ?_
    · exact Effect.refl _ _ _
    · intro u7 a8
      try beta_reduce
      extract_lets x9 x10
      have h11 : Effect State.tickChains_touch State.tickChains_fields u7 x9 := by
        refine Effect.after (State.tickChain_effect ..) (by decide +kernel) ?_
        exact Effect.refl _ _ _
      try clear_value x9
      have h12 : Effect State.tickChains_touch State.tickChains_fields u7 x10 := by
        refine Effect.each ?_ ?_
        · exact h11
        · intro u13 a14
          try beta_reduce
          refine Effect.after (State.showPlace_effect ..) (by decide +kernel) ?_
          exact Effect.refl _ _ _
      try clear_value x10
      refine Effect.when ?_ ?_
      · exact h12
      · intro u15
        try beta_reduce
        refine Effect.after (State.tickAllCall_effect ..) (by decide +kernel) ?_
        exact Effect.refl _ _ _
  try clear_value x2
  have h17 : Effect State.tickChains_touch State.tickChains_fields s x3 := by
    refine Effect.each ?_ ?_
    · exact h6
    · intro u18 a19
      try beta_reduce
      refine Effect.after (State.showRepeat_effect ..) (by decide +kernel) ?_
      exact Effect.refl _ _ _
  try clear_value x3
  have h20 : Effect State.tickChains_touch State.tickChains_fields s x4 := by
    refine Effect.each ?_ ?_
    · exact h17
    · intro u21 a22
      try beta_reduce
      refine Effect.after (State.tickLane_effect ..) (by decide +kernel) ?_
      exact Effect.refl _ _ _
  try clear_value x4
  have h23 : Effect State.tickChains_touch State.tickChains_fields s x5 := by
    refine Effect.each ?_ ?_
    · exact h20
    · intro u24 a25
      try beta_reduce
      refine Effect.each ?_ ?_
      · exact Effect.refl _ _ _
      · intro u26 a27
        try beta_reduce
        extract_lets x28 x29
        try clear_value x28 x29
        refine Effect.ite ?_ ?_
        · refine Effect.after (State.slotSent_effect ..) (by decide +kernel) ?_
          exact Effect.refl _ _ _
        · refine Effect.after (State.sendCmd_effect ..) (by decide +kernel) ?_
          refine Effect.after (State.keepAdmission_effect ..) (by decide +kernel) ?_
          exact Effect.refl _ _ _
  try clear_value x5
  try clear_value x1
  refine Effect.ite ?_ ?_
  · refine Effect.after (State.diagFail_effect ..) (by decide +kernel) ?_
    exact h23
  · exact h23

def State.readbackGood_touch : List Part := [.safety]
def State.readbackGood_fields : Option (List Field) := some [Reg.SAFE_STATUS.A_OK, Reg.SAFE_STATUS.B_OK, Reg.SAFE_STATUS.DIAG, Reg.SAFE_STATUS.DIAG_CAUSE, Reg.SAFE_STATUS.RESET_PIN, Reg.SAFE_STATUS.DEMAND, Reg.SAFE_STATUS.LOCKED, Reg.SAFE_STATUS.DIAG_A, Reg.SAFE_STATUS.DIAG_B, Reg.SAFE_GROUP.STATE, Reg.SAFE_GROUP.KIND, Reg.SAFE_GROUP.STOP, Reg.SAFE_GROUP.CAUSE, Reg.SAFE_GROUP.PAIRS, Reg.SAFE_PAIR.CH_A, Reg.SAFE_PAIR.CH_B, Reg.SAFE_PAIR.DEMAND, Reg.SAFE_PAIR.PAIR_FAULT, Reg.SAFE_PAIR.FAULT_CAUSE, Reg.SAFE_PAIR.DEMANDS, Reg.SAFE_TPO.EN, Reg.SAFE_TPO.READBACK_FAULT, Reg.SAFE_FIRE.FIRE_A, Reg.SAFE_FIRE.FIRE_B, Reg.SAFE_FIRE.DRV_A, Reg.SAFE_FIRE.DRV_B, Reg.SAFE_RESET_STATUS.ARMED]
theorem State.readbackGood_effect (s : State) (p1 : Bool) (p2 : Nat) :
    Effect State.readbackGood_touch State.readbackGood_fields s (@State.readbackGood s p1 p2) := by
  unfold State.readbackGood
  extract_lets x1
  try clear_value x1
  refine Effect.after (State.showSafe_effect ..) (by decide +kernel) ?_
  refine Effect.after (Effect.safety _ _) (by decide +kernel) ?_
  exact Effect.refl _ _ _

def State.showRun_touch : List Part := []
def State.showRun_fields : Option (List Field) := some [Reg.ENG_STATUS.DONE, Reg.ENG_STATUS.STOPPED, Reg.ENG_STATUS.QUIET, Reg.ENG_CYCLES.LAST, Reg.ENG_CYCLES.MAX, Reg.ENG_EXPORT.VALUE]
theorem State.showRun_effect (s : State) (p1 : Nat) (p2 : Nat) (p3 : RunOut) :
    Effect State.showRun_touch State.showRun_fields s (@State.showRun s p1 p2 p3) := by
  unfold State.showRun
  extract_lets x1 x2 x3 x4
  have h5 : Effect State.showRun_touch State.showRun_fields s x2 := by
    refine Effect.after (State.wr_effect ..) (by decide +kernel) ?_
    refine Effect.after (State.wr_effect ..) (by decide +kernel) ?_
    exact Effect.refl _ _ _
  try clear_value x2
  have h6 : Effect State.showRun_touch State.showRun_fields s x3 := by
    refine Effect.after (State.wr_effect ..) (by decide +kernel) ?_
    refine Effect.after (State.wr_effect ..) (by decide +kernel) ?_
    exact h5
  try clear_value x3
  have h7 : Effect State.showRun_touch State.showRun_fields s x4 := by
    refine Effect.after (State.wr_effect ..) (by decide +kernel) ?_
    exact h6
  try clear_value x4
  try clear_value x1
  refine Effect.each ?_ ?_
  · exact h7
  · intro u8 a9
    try beta_reduce
    refine Effect.after (State.wrS_effect ..) (by decide +kernel) ?_
    exact Effect.refl _ _ _

def State.planePgoodLoss_touch : List Part := [.power, .faults, .cells, .arms, .engs, .convs, .referee]
def State.planePgoodLoss_fields : Option (List Field) := some [Reg.DOMAIN_STATE.PLANE_A, Reg.DOMAIN_STATE.PLANE_B, Reg.CONV_STATE.STATE, Reg.CONV_STATE.CAUSE, Reg.CONV_STATE.SLEWING, Reg.CONV_STATE_FRAME.FRAME, Reg.CONV_RESIDUAL.E, Reg.CONV_COUNT.BLOCKS, Reg.CONV_EVENT.BLOCK, Reg.CONV_EVENT.RESYNC_FAIL, Reg.CONV_EVENT.COAST_LIMIT, Reg.CONV_EVENT_SRC.CONV, Reg.POWER_PGOOD.PGOOD, Reg.COLLECT_STATUS_LO.STATUS, Reg.COLLECT_STATUS_HI.STATUS, Reg.FAULT_COUNT_CORR.COUNT, Reg.FAULT_COUNT_CONT.COUNT, Reg.FAULT_COUNT_FATAL.COUNT, Reg.FAULT_EVENT.CORRECTED, Reg.FAULT_EVENT.CONTAINED, Reg.FAULT_EVENT.FATAL, Reg.FAULT_EVENT.HIST_LOST, Reg.FAULT_HIST_STATUS.LOST, Reg.REF_STATUS.STATE, Reg.REF_STATUS.ROLE_A, Reg.REF_STATUS.ROLE_B, Reg.REF_STATUS.LEASE, Reg.REF_HT_STATUS.OUTCOME, Reg.REF_TAKEOVER.LAST_CAUSE, Reg.REF_EVENT.UNFIT, Reg.ENG_STATUS.BALL, Reg.ENG_STATUS.SHADOW, Reg.ENG_STATUS.COLD, Reg.ENG_EXPORT.VALUE, Reg.ARM_PTR.PTR]
theorem State.planePgoodLoss_effect (s : State) (p1 : Nat) :
    Effect State.planePgoodLoss_touch State.planePgoodLoss_fields s (@State.planePgoodLoss s p1) := by
  unfold State.planePgoodLoss
  extract_lets x1 x2 x3
  have h4 : Effect State.planePgoodLoss_touch State.planePgoodLoss_fields s x2 := by
    refine Effect.after (Effect.power _ _) (by decide +kernel) ?_
    exact Effect.refl _ _ _
  try clear_value x2
  have h5 : Effect State.planePgoodLoss_touch State.planePgoodLoss_fields s x3 := by
    refine Effect.after (State.wrBit_effect ..) (by decide +kernel) ?_
    exact h4
  try clear_value x3
  try clear_value x1
  refine Effect.ite ?_ ?_
  · refine Effect.after (State.withdraw_effect ..) (by decide +kernel) ?_
    exact h5
  · refine Effect.ite ?_ ?_
    · refine Effect.after (State.wakeFails_effect ..) (by decide +kernel) ?_
      exact h5
    · exact h5

def State.faultClearCounts_touch : List Part := []
def State.faultClearCounts_fields : Option (List Field) := some [Reg.RECOVERY_COUNT.COUNT, Reg.FAULT_COUNT_CORR.COUNT, Reg.FAULT_COUNT_CONT.COUNT, Reg.FAULT_COUNT_FATAL.COUNT]
theorem State.faultClearCounts_effect (s : State) :
    Effect State.faultClearCounts_touch State.faultClearCounts_fields s (@State.faultClearCounts s) := by
  unfold State.faultClearCounts
  refine Effect.after (State.wr_effect ..) (by decide +kernel) ?_
  refine Effect.after (State.wr_effect ..) (by decide +kernel) ?_
  refine Effect.after (State.wr_effect ..) (by decide +kernel) ?_
  refine Effect.after (State.wr_effect ..) (by decide +kernel) ?_
  exact Effect.refl _ _ _

def State.canData_touch : List Part := []
def State.canData_fields : Option (List Field) := some canDataFields
theorem State.canData_effect (s : State) (n i : Nat) (d : List Byte) :
    Effect State.canData_touch State.canData_fields s (s.canData n i d) :=
  State.fields_effect s canDataFields _ fun u f => State.wr_effect u f _ n i

def State.vbUndervoltage_touch : List Part := [.drives]
def State.vbUndervoltage_fields : Option (List Field) := some [Reg.DRV_STATUS.LEG_FAULT, Reg.DRV_LEG_STATUS.DESAT_HS, Reg.DRV_LEG_STATUS.DESAT_LS, Reg.DRV_LEG_STATUS.INSTANT, Reg.DRV_LEG_STATUS.VB_UV, Reg.DRV_LEG_STATUS.INPUT_ACTIVE, Reg.DRV_LEG_STATUS.GATES_OFF]
theorem State.vbUndervoltage_effect (s : State) (p1 : Nat) (p2 : Nat) :
    Effect State.vbUndervoltage_touch State.vbUndervoltage_fields s (@State.vbUndervoltage s p1 p2) := by
  unfold State.vbUndervoltage
  extract_lets x1 x2
  have h3 : Effect State.vbUndervoltage_touch State.vbUndervoltage_fields s x1 := by
    refine Effect.after (State.modLeg_effect ..) (by decide +kernel) ?_
    exact Effect.refl _ _ _
  try clear_value x1
  have h4 : Effect State.vbUndervoltage_touch State.vbUndervoltage_fields s x2 := by
    refine Effect.after (State.seeInputs_effect ..) (by decide +kernel) ?_
    exact h3
  try clear_value x2
  refine Effect.ite ?_ ?_
  · exact Effect.refl _ _ _
  · refine Effect.after (State.driveLeg_effect ..) (by decide +kernel) ?_
    refine Effect.after (State.showLegFaults_effect ..) (by decide +kernel) ?_
    exact h4

def State.exchangeSide_touch : List Part := [.faults, .convs, .safety]
def State.exchangeSide_fields : Option (List Field) := some [Reg.COLLECT_STATUS_LO.STATUS, Reg.COLLECT_STATUS_HI.STATUS, Reg.FAULT_COUNT_CORR.COUNT, Reg.FAULT_COUNT_CONT.COUNT, Reg.FAULT_COUNT_FATAL.COUNT, Reg.FAULT_EVENT.CORRECTED, Reg.FAULT_EVENT.CONTAINED, Reg.FAULT_EVENT.FATAL, Reg.FAULT_EVENT.HIST_LOST, Reg.FAULT_HIST_STATUS.LOST, Reg.SAFE_STATUS.A_OK, Reg.SAFE_STATUS.B_OK, Reg.SAFE_STATUS.DIAG, Reg.SAFE_STATUS.DIAG_CAUSE, Reg.SAFE_STATUS.RESET_PIN, Reg.SAFE_STATUS.DEMAND, Reg.SAFE_STATUS.LOCKED, Reg.SAFE_STATUS.DIAG_A, Reg.SAFE_STATUS.DIAG_B, Reg.SAFE_GROUP.STATE, Reg.SAFE_GROUP.KIND, Reg.SAFE_GROUP.STOP, Reg.SAFE_GROUP.CAUSE, Reg.SAFE_GROUP.PAIRS, Reg.SAFE_PAIR.CH_A, Reg.SAFE_PAIR.CH_B, Reg.SAFE_PAIR.DEMAND, Reg.SAFE_PAIR.PAIR_FAULT, Reg.SAFE_PAIR.FAULT_CAUSE, Reg.SAFE_PAIR.DEMANDS, Reg.SAFE_TPO.EN, Reg.SAFE_TPO.READBACK_FAULT, Reg.SAFE_FIRE.FIRE_A, Reg.SAFE_FIRE.FIRE_B, Reg.SAFE_FIRE.DRV_A, Reg.SAFE_FIRE.DRV_B, Reg.SAFE_RESET_STATUS.ARMED, Reg.SAFE_RESET_STATUS.RELEASED, Reg.SAFE_RESET_STATUS.REFUSED, Reg.SAFE_EVENT.DEMAND, Reg.SAFE_EVENT.STOPPING, Reg.SAFE_EVENT.REMOVED, Reg.SAFE_EVENT.DIAG, Reg.SAFE_EVENT.RESET_REFUSED]
theorem State.exchangeSide_effect (s : State) (p1 : Bool) :
    Effect State.exchangeSide_touch State.exchangeSide_fields s (@State.exchangeSide s p1) := by
  unfold State.exchangeSide
  extract_lets x1 x2 x3
  have h4 : Effect State.exchangeSide_touch State.exchangeSide_fields s x3 := by
    refine Effect.after (State.modUnit_effect ..) (by decide +kernel) ?_
    exact Effect.refl _ _ _
  try clear_value x3
  try clear_value x1 x2
  refine Effect.ite ?_ ?_
  · exact Effect.refl _ _ _
  · refine Effect.ite ?_ ?_
    · refine Effect.after (State.diagFail_effect ..) (by decide +kernel) ?_
      exact h4
    · exact h4

def State.canRecDown_touch : List Part := [.drawn]
def State.canRecDown_fields : Option (List Field) := some [Reg.CAN_ERRCNT.REC]
theorem State.canRecDown_effect (s : State) (p1 : Nat) :
    Effect State.canRecDown_touch State.canRecDown_fields s (@State.canRecDown s p1) := by
  unfold State.canRecDown
  extract_lets x1
  try clear_value x1
  refine Effect.ite ?_ ?_
  · exact Effect.refl _ _ _
  · refine Effect.ite ?_ ?_
    · refine Effect.after (State.wr_effect ..) (by decide +kernel) ?_
      exact Effect.refl _ _ _
    · split
      rename_i a3 u4 q5
      have h2 : Effect State.canRecDown_touch State.canRecDown_fields s u4 := by
        refine Effect.of_pair q5 ?_
        refine Effect.after (State.draw_effect ..) (by decide +kernel) ?_
        exact Effect.refl _ _ _
      refine Effect.after (State.wr_effect ..) (by decide +kernel) ?_
      exact h2

def State.canReceive_touch : List Part := [.cans]
def State.canReceive_fields : Option (List Field) := some [Reg.CAN_RX_STATUS.OWNED, Reg.CAN_RX_STATUS.OVF, Reg.CAN_RX_STATUS.DROPPED, Reg.CAN_EVENT.EVENTS, Reg.CAN_RX_ID.ID, Reg.CAN_RX_ID.RTR, Reg.CAN_RX_ID.IDE, Reg.CAN_RX_ID.VALID, Reg.CAN_RX_INFO.DLC, Reg.CAN_RX_INFO.FDF, Reg.CAN_RX_INFO.BRS, Reg.CAN_RX_INFO.ESI, Reg.CAN_RX_INFO.LOOP, Reg.CAN_RX_INFO.FILTER, Reg.CAN_RX_INFO.UNFILTERED, Reg.CAN_RX_NS_LO.NS, Reg.CAN_RX_NS_HI.NS, Reg.CAN_RX_FRAME.FRAME, Reg.CAN_RX_DATA0.DATA, Reg.CAN_RX_DATA1.DATA, Reg.CAN_RX_DATA2.DATA, Reg.CAN_RX_DATA3.DATA, Reg.CAN_RX_DATA4.DATA, Reg.CAN_RX_DATA5.DATA, Reg.CAN_RX_DATA6.DATA, Reg.CAN_RX_DATA7.DATA, Reg.CAN_RX_DATA8.DATA, Reg.CAN_RX_DATA9.DATA, Reg.CAN_RX_DATA10.DATA, Reg.CAN_RX_DATA11.DATA, Reg.CAN_RX_DATA12.DATA, Reg.CAN_RX_DATA13.DATA, Reg.CAN_RX_DATA14.DATA, Reg.CAN_RX_DATA15.DATA]
theorem State.canReceive_effect (s : State) (p1 : Nat) (p2 : Nat) (p3 : Nat) (p4 : Nat) (p5 : List Byte) (p6 : Nat) (p7 : Nat) (p8 : Bool) :
    Effect State.canReceive_touch State.canReceive_fields s (@State.canReceive s p1 p2 p3 p4 p5 p6 p7 p8) := by
  unfold State.canReceive
  extract_lets x1 x2 x3 x4 x5 x6 x7 x8 x9 x10 x11 x12 x13 x14 x15
  have h16 : Effect State.canReceive_touch State.canReceive_fields s x5 := by
    refine Effect.after (State.wr_effect ..) (by decide +kernel) ?_
    refine Effect.after (State.wr_effect ..) (by decide +kernel) ?_
    exact Effect.refl _ _ _
  try clear_value x5
  have h17 : Effect State.canReceive_touch State.canReceive_fields s x6 := by
    refine Effect.after (State.wr_effect ..) (by decide +kernel) ?_
    refine Effect.after (State.wr_effect ..) (by decide +kernel) ?_
    exact h16
  try clear_value x6
  have h18 : Effect State.canReceive_touch State.canReceive_fields s x7 := by
    refine Effect.after (State.wr_effect ..) (by decide +kernel) ?_
    refine Effect.after (State.wr_effect ..) (by decide +kernel) ?_
    exact h17
  try clear_value x7
  have h19 : Effect State.canReceive_touch State.canReceive_fields s x8 := by
    refine Effect.after (State.wr_effect ..) (by decide +kernel) ?_
    refine Effect.after (State.wr_effect ..) (by decide +kernel) ?_
    exact h18
  try clear_value x8
  have h20 : Effect State.canReceive_touch State.canReceive_fields s x9 := by
    refine Effect.after (State.wr_effect ..) (by decide +kernel) ?_
    exact h19
  try clear_value x9
  have h21 : Effect State.canReceive_touch State.canReceive_fields s x10 := by
    refine Effect.after (State.wr_effect ..) (by decide +kernel) ?_
    refine Effect.after (State.wr_effect ..) (by decide +kernel) ?_
    exact h20
  try clear_value x10
  have h22 : Effect State.canReceive_touch State.canReceive_fields s x11 := by
    refine Effect.after (State.wr_effect ..) (by decide +kernel) ?_
    refine Effect.after (State.wr64_effect ..) (by decide +kernel) ?_
    exact h21
  try clear_value x11
  have h23 : Effect State.canReceive_touch State.canReceive_fields s x14 := by
    refine Effect.after (State.canData_effect ..) (by decide +kernel) ?_
    exact h22
  try clear_value x14
  have h24 : Effect State.canReceive_touch State.canReceive_fields s x15 := by
    refine Effect.after (State.modCan_effect ..) (by decide +kernel) ?_
    exact h23
  try clear_value x15
  try clear_value x1 x2 x3 x4 x12 x13
  refine Effect.ite ?_ ?_
  · exact Effect.refl _ _ _
  · refine Effect.ite ?_ ?_
    · refine Effect.after (State.wr_effect ..) (by decide +kernel) ?_
      refine Effect.after (State.bump_effect ..) (by decide +kernel) ?_
      exact Effect.refl _ _ _
    · refine Effect.after (State.evBit_effect ..) (by decide +kernel) ?_
      refine Effect.after (State.bump_effect ..) (by decide +kernel) ?_
      exact h24

def State.canMessage_touch : List Part := [.cans, .drawn]
def State.canMessage_fields : Option (List Field) := some [Reg.CAN_STATUS.STATE, Reg.CAN_STATUS.WARNING, Reg.CAN_ERRCNT.REC, Reg.CAN_RX_STATUS.OWNED, Reg.CAN_RX_STATUS.OVF, Reg.CAN_RX_STATUS.DROPPED, Reg.CAN_EVENT.EVENTS, Reg.CAN_RX_ID.ID, Reg.CAN_RX_ID.RTR, Reg.CAN_RX_ID.IDE, Reg.CAN_RX_ID.VALID, Reg.CAN_RX_INFO.DLC, Reg.CAN_RX_INFO.FDF, Reg.CAN_RX_INFO.BRS, Reg.CAN_RX_INFO.ESI, Reg.CAN_RX_INFO.LOOP, Reg.CAN_RX_INFO.FILTER, Reg.CAN_RX_INFO.UNFILTERED, Reg.CAN_RX_NS_LO.NS, Reg.CAN_RX_NS_HI.NS, Reg.CAN_RX_FRAME.FRAME, Reg.CAN_RX_DATA0.DATA, Reg.CAN_RX_DATA1.DATA, Reg.CAN_RX_DATA2.DATA, Reg.CAN_RX_DATA3.DATA, Reg.CAN_RX_DATA4.DATA, Reg.CAN_RX_DATA5.DATA, Reg.CAN_RX_DATA6.DATA, Reg.CAN_RX_DATA7.DATA, Reg.CAN_RX_DATA8.DATA, Reg.CAN_RX_DATA9.DATA, Reg.CAN_RX_DATA10.DATA, Reg.CAN_RX_DATA11.DATA, Reg.CAN_RX_DATA12.DATA, Reg.CAN_RX_DATA13.DATA, Reg.CAN_RX_DATA14.DATA, Reg.CAN_RX_DATA15.DATA]
theorem State.canMessage_effect (s : State) (p1 : Nat) (p2 : Nat) (p3 : Nat) (p4 : Nat) (p5 : List Byte) (p6 : Nat) (p7 : Nat) :
    Effect State.canMessage_touch State.canMessage_fields s (@State.canMessage s p1 p2 p3 p4 p5 p6 p7) := by
  unfold State.canMessage
  extract_lets x1 x2 x3
  have h4 : Effect State.canMessage_touch State.canMessage_fields s x3 := by
    refine Effect.ite ?_ ?_
    · exact Effect.refl _ _ _
    · refine Effect.after (State.canConfine_effect ..) (by decide +kernel) ?_
      refine Effect.after (State.canRecDown_effect ..) (by decide +kernel) ?_
      exact Effect.refl _ _ _
  try clear_value x3
  try clear_value x1 x2
  refine Effect.ite ?_ ?_
  · exact Effect.refl _ _ _
  · refine Effect.after (State.canReceive_effect ..) (by decide +kernel) ?_
    exact h4

def State.ctrlAsk_touch : List Part := [.fr]
def State.ctrlAsk_fields : Option (List Field) := some [Reg.TRK_STATUS.CTRL_HIWATER]
theorem State.ctrlAsk_effect (s : State) (p1 : CtrlEntry) :
    Effect State.ctrlAsk_touch State.ctrlAsk_fields s (@State.ctrlAsk s p1) := by
  unfold State.ctrlAsk
  refine Effect.ite ?_ ?_
  · refine Effect.after (State.ctrlOpen_effect ..) (by decide +kernel) ?_
    exact Effect.refl _ _ _
  · refine Effect.after (State.modFr_effect ..) (by decide +kernel) ?_
    exact Effect.refl _ _ _

def State.tpoCheck_touch : List Part := [.convs, .safety]
def State.tpoCheck_fields : Option (List Field) := some [Reg.SAFE_STATUS.A_OK, Reg.SAFE_STATUS.B_OK, Reg.SAFE_STATUS.DIAG, Reg.SAFE_STATUS.DIAG_CAUSE, Reg.SAFE_STATUS.RESET_PIN, Reg.SAFE_STATUS.DEMAND, Reg.SAFE_STATUS.LOCKED, Reg.SAFE_STATUS.DIAG_A, Reg.SAFE_STATUS.DIAG_B, Reg.SAFE_GROUP.STATE, Reg.SAFE_GROUP.KIND, Reg.SAFE_GROUP.STOP, Reg.SAFE_GROUP.CAUSE, Reg.SAFE_GROUP.PAIRS, Reg.SAFE_PAIR.CH_A, Reg.SAFE_PAIR.CH_B, Reg.SAFE_PAIR.DEMAND, Reg.SAFE_PAIR.PAIR_FAULT, Reg.SAFE_PAIR.FAULT_CAUSE, Reg.SAFE_PAIR.DEMANDS, Reg.SAFE_TPO.EN, Reg.SAFE_TPO.READBACK_FAULT, Reg.SAFE_FIRE.FIRE_A, Reg.SAFE_FIRE.FIRE_B, Reg.SAFE_FIRE.DRV_A, Reg.SAFE_FIRE.DRV_B, Reg.SAFE_RESET_STATUS.ARMED, Reg.SAFE_RESET_STATUS.RELEASED, Reg.SAFE_RESET_STATUS.REFUSED, Reg.SAFE_EVENT.DEMAND, Reg.SAFE_EVENT.STOPPING, Reg.SAFE_EVENT.REMOVED, Reg.SAFE_EVENT.PAIR_FAULT, Reg.SAFE_EVENT.RESET_REFUSED]
theorem State.tpoCheck_effect (s : State) (p1 : Nat) (p2 : Nat) :
    Effect State.tpoCheck_touch State.tpoCheck_fields s (@State.tpoCheck s p1 p2) := by
  unfold State.tpoCheck
  refine Effect.ite ?_ ?_
  · exact Effect.refl _ _ _
  · refine Effect.each ?_ ?_
    · exact Effect.refl _ _ _
    · intro u1 a2
      try beta_reduce
      refine Effect.ite ?_ ?_
      · refine Effect.each ?_ ?_
        · exact Effect.refl _ _ _
        · intro u3 a4
          try beta_reduce
          refine Effect.after (State.tpoCheckChan_effect ..) (by decide +kernel) ?_
          exact Effect.refl _ _ _
      · exact Effect.refl _ _ _

def State.convEnvelope_touch : List Part := [.convs, .safety]
def State.convEnvelope_fields : Option (List Field) := some [Reg.SAFE_EVENT.REMOVED]
theorem State.convEnvelope_effect (s : State) (p1 : Nat) (p2 : Nat → Bool) :
    Effect State.convEnvelope_touch State.convEnvelope_fields s (@State.convEnvelope s p1 p2) := by
  unfold State.convEnvelope
  extract_lets x1 x2 x3 x4 x5 x6
  have h7 : Effect State.convEnvelope_touch State.convEnvelope_fields s x6 := by
    refine Effect.after (State.modGrp_effect ..) (by decide +kernel) ?_
    exact Effect.refl _ _ _
  try clear_value x6
  try clear_value x1 x2 x3 x4 x5
  refine Effect.ite ?_ ?_
  · exact Effect.refl _ _ _
  · refine Effect.ite ?_ ?_
    · refine Effect.after (State.removeGroup_effect ..) (by decide +kernel) ?_
      exact Effect.refl _ _ _
    · refine Effect.ite ?_ ?_
      · refine Effect.after (State.removeGroup_effect ..) (by decide +kernel) ?_
        exact Effect.refl _ _ _
      · refine Effect.ite ?_ ?_
        · refine Effect.after (State.removeGroup_effect ..) (by decide +kernel) ?_
          exact h7
        · exact h7

def State.servoTo_touch : List Part := [.time]
def State.servoTo_fields : Option (List Field) := some [Reg.TIME_CTRL.SERVO, Reg.TIME_STATUS.SYNC, Reg.TIME_EVENT.EVENTS]
theorem State.servoTo_effect (s : State) (p1 : Bool) :
    Effect State.servoTo_touch State.servoTo_fields s (@State.servoTo s p1) := by
  unfold State.servoTo
  extract_lets x1 x2
  have h3 : Effect State.servoTo_touch State.servoTo_fields s x1 := by
    refine Effect.after (State.setSync_effect ..) (by decide +kernel) ?_
    refine Effect.after (State.wr_effect ..) (by decide +kernel) ?_
    exact Effect.refl _ _ _
  try clear_value x1
  try clear_value x2
  refine Effect.ite ?_ ?_
  · exact Effect.refl _ _ _
  · refine Effect.after (Effect.time _ _) (by decide +kernel) ?_
    exact h3

def State.commitTime_touch : List Part := [.time]
def State.commitTime_fields : Option (List Field) := some [Reg.TIME_CTRL.SERVO, Reg.TIME_STATUS.SYNC, Reg.TIME_PPS_CFG.KP, Reg.TIME_PPS_CFG.KI, Reg.TIME_PPS_CFG.EDGE, Reg.TIME_PPS_CFG.LOCK_NS, Reg.TIME_PPS_OFFSET.VALUE, Reg.TIME_FRAME_ALIGN.OFFSET, Reg.TIME_FRAME_ALIGN.SLEW, Reg.TIME_EVENT.EVENTS, Reg.ETH_CTRL.MODE, Reg.ETH_CTRL.AN_EN, Reg.ETH_MAC_LO.MAC, Reg.ETH_MAC_HI.MAC, Reg.ETH_LAT.TX, Reg.ETH_LAT.RX]
theorem State.commitTime_effect (s : State) (p1 : TimeCfg) :
    Effect State.commitTime_touch State.commitTime_fields s (@State.commitTime s p1) := by
  unfold State.commitTime
  extract_lets x1 x2 x3 x4
  have h5 : Effect State.commitTime_touch State.commitTime_fields s x1 := by
    refine Effect.each ?_ ?_
    · exact Effect.refl _ _ _
    · intro u6 a7
      try beta_reduce
      extract_lets x8 x9 x10
      have h11 : Effect State.commitTime_touch State.commitTime_fields u6 x9 := by
        refine Effect.after (State.wr_effect ..) (by decide +kernel) ?_
        refine Effect.after (State.wr_effect ..) (by decide +kernel) ?_
        exact Effect.refl _ _ _
      try clear_value x9
      have h12 : Effect State.commitTime_touch State.commitTime_fields u6 x10 := by
        refine Effect.after (State.wr_effect ..) (by decide +kernel) ?_
        refine Effect.after (State.wr_effect ..) (by decide +kernel) ?_
        exact h11
      try clear_value x10
      try clear_value x8
      refine Effect.after (State.wrS_effect ..) (by decide +kernel) ?_
      refine Effect.after (State.wrS_effect ..) (by decide +kernel) ?_
      exact h12
  try clear_value x1
  have h13 : Effect State.commitTime_touch State.commitTime_fields s x2 := by
    refine Effect.after (State.wr_effect ..) (by decide +kernel) ?_
    refine Effect.after (State.wr_effect ..) (by decide +kernel) ?_
    exact h5
  try clear_value x2
  have h14 : Effect State.commitTime_touch State.commitTime_fields s x3 := by
    refine Effect.after (State.wr_effect ..) (by decide +kernel) ?_
    refine Effect.after (State.servoTo_effect ..) (by decide +kernel) ?_
    exact h13
  try clear_value x3
  have h15 : Effect State.commitTime_touch State.commitTime_fields s x4 := by
    refine Effect.after (State.wr_effect ..) (by decide +kernel) ?_
    refine Effect.after (State.wrS_effect ..) (by decide +kernel) ?_
    exact h14
  try clear_value x4
  refine Effect.after (State.wr_effect ..) (by decide +kernel) ?_
  refine Effect.after (State.wr_effect ..) (by decide +kernel) ?_
  exact h15

def State.setCell_touch : List Part := [.faults]
def State.setCell_fields : Option (List Field) := some [Reg.COLLECT_STATUS_LO.STATUS, Reg.COLLECT_STATUS_HI.STATUS, Reg.FAULT_COUNT_CORR.COUNT, Reg.FAULT_COUNT_CONT.COUNT, Reg.FAULT_COUNT_FATAL.COUNT, Reg.FAULT_EVENT.CORRECTED, Reg.FAULT_EVENT.CONTAINED, Reg.FAULT_EVENT.FATAL, Reg.FAULT_EVENT.HIST_LOST, Reg.FAULT_HIST_STATUS.LOST, Reg.CELL_STATE.STATE, Reg.CELL_STATE.CONFIRMED, Reg.CELL_STATE.REASON, Reg.CELL_STATE_FRAME.FRAME, Reg.CELL_LAST.CELL, Reg.CELL_LAST.STATE, Reg.CELL_LAST.REASON, Reg.CELL_EVENT.PENDING, Reg.CELL_EVENT.BYPASS, Reg.CELL_EVENT.REJECTED, Reg.CELL_EVENT.OUT]
theorem State.setCell_effect (s : State) (p1 : Nat) (p2 : Nat) (p3 : Nat) :
    Effect State.setCell_touch State.setCell_fields s (@State.setCell s p1 p2 p3) := by
  unfold State.setCell
  extract_lets x1 x2 x3 x4 x5 x6 x7
  have h8 : Effect State.setCell_touch State.setCell_fields s x1 := by
    refine Effect.after (State.wr_effect ..) (by decide +kernel) ?_
    refine Effect.after (State.wr_effect ..) (by decide +kernel) ?_
    exact Effect.refl _ _ _
  try clear_value x1
  have h9 : Effect State.setCell_touch State.setCell_fields s x2 := by
    refine Effect.after (State.wr_effect ..) (by decide +kernel) ?_
    exact h8
  try clear_value x2
  have h10 : Effect State.setCell_touch State.setCell_fields s x3 := by
    refine Effect.after (State.wr_effect ..) (by decide +kernel) ?_
    refine Effect.after (State.wr_effect ..) (by decide +kernel) ?_
    refine Effect.after (State.wr_effect ..) (by decide +kernel) ?_
    exact h9
  try clear_value x3
  have h11 : Effect State.setCell_touch State.setCell_fields s x4 := by
    refine Effect.when ?_ ?_
    · exact h10
    · intro u12
      try beta_reduce
      refine Effect.after (State.wr_effect ..) (by decide +kernel) ?_
      exact Effect.refl _ _ _
  try clear_value x4
  have h14 : Effect State.setCell_touch State.setCell_fields s x5 := by
    refine Effect.when ?_ ?_
    · exact h11
    · intro u15
      try beta_reduce
      refine Effect.after (State.raise_effect ..) (by decide +kernel) ?_
      refine Effect.after (State.wr_effect ..) (by decide +kernel) ?_
      exact Effect.refl _ _ _
  try clear_value x5
  have h17 : Effect State.setCell_touch State.setCell_fields s x6 := by
    refine Effect.when ?_ ?_
    · exact h14
    · intro u18
      try beta_reduce
      refine Effect.after (State.raise_effect ..) (by decide +kernel) ?_
      refine Effect.after (State.wr_effect ..) (by decide +kernel) ?_
      exact Effect.refl _ _ _
  try clear_value x6
  have h20 : Effect State.setCell_touch State.setCell_fields s x7 := by
    refine Effect.when ?_ ?_
    · exact h17
    · intro u21
      try beta_reduce
      refine Effect.after (State.raise_effect ..) (by decide +kernel) ?_
      refine Effect.after (State.wr_effect ..) (by decide +kernel) ?_
      exact Effect.refl _ _ _
  try clear_value x7
  refine Effect.ite ?_ ?_
  · exact Effect.refl _ _ _
  · refine Effect.when ?_ ?_
    · exact h20
    · intro u23
      try beta_reduce
      refine Effect.after (State.wr_effect ..) (by decide +kernel) ?_
      exact Effect.refl _ _ _

def State.admitCell_touch : List Part := [.faults, .cells]
def State.admitCell_fields : Option (List Field) := some [Reg.COLLECT_STATUS_LO.STATUS, Reg.COLLECT_STATUS_HI.STATUS, Reg.FAULT_COUNT_CORR.COUNT, Reg.FAULT_COUNT_CONT.COUNT, Reg.FAULT_COUNT_FATAL.COUNT, Reg.FAULT_EVENT.CORRECTED, Reg.FAULT_EVENT.CONTAINED, Reg.FAULT_EVENT.FATAL, Reg.FAULT_EVENT.HIST_LOST, Reg.FAULT_HIST_STATUS.LOST, Reg.CELL_STATE.STATE, Reg.CELL_STATE.CONFIRMED, Reg.CELL_STATE.REASON, Reg.CELL_FAULT.SEEN, Reg.CELL_FAULT.TOGGLES, Reg.CELL_COUNT.SWAPS, Reg.CELL_STATE_FRAME.FRAME, Reg.TS_RECORDED_LO.IDENTITY, Reg.TS_RECORDED_HI.IDENTITY, Reg.CELL_LAST.CELL, Reg.CELL_LAST.STATE, Reg.CELL_LAST.REASON, Reg.CELL_EVENT.PENDING, Reg.CELL_EVENT.BYPASS, Reg.CELL_EVENT.REJECTED, Reg.CELL_EVENT.OUT]
theorem State.admitCell_effect (s : State) (p1 : Nat) (p2 : Nat) :
    Effect State.admitCell_touch State.admitCell_fields s (@State.admitCell s p1 p2) := by
  unfold State.admitCell
  extract_lets x1 x2 x3 x4 x5
  have h6 : Effect State.admitCell_touch State.admitCell_fields s x2 := by
    refine Effect.after (State.wr64_effect ..) (by decide +kernel) ?_
    exact Effect.refl _ _ _
  try clear_value x2
  have h7 : Effect State.admitCell_touch State.admitCell_fields s x3 := by
    refine Effect.when ?_ ?_
    · exact h6
    · intro u8
      try beta_reduce
      refine Effect.after (State.bump_effect ..) (by decide +kernel) ?_
      exact Effect.refl _ _ _
  try clear_value x3
  have h10 : Effect State.admitCell_touch State.admitCell_fields s x4 := by
    refine Effect.after (State.wr_effect ..) (by decide +kernel) ?_
    refine Effect.after (State.wr_effect ..) (by decide +kernel) ?_
    exact h7
  try clear_value x4
  have h11 : Effect State.admitCell_touch State.admitCell_fields s x5 := by
    refine Effect.after (State.modCell_effect ..) (by decide +kernel) ?_
    exact h10
  try clear_value x5
  try clear_value x1
  refine Effect.after (State.setCell_effect ..) (by decide +kernel) ?_
  exact h11

def State.bypass_touch : List Part := [.faults, .cells]
def State.bypass_fields : Option (List Field) := some [Reg.COLLECT_STATUS_LO.STATUS, Reg.COLLECT_STATUS_HI.STATUS, Reg.FAULT_COUNT_CORR.COUNT, Reg.FAULT_COUNT_CONT.COUNT, Reg.FAULT_COUNT_FATAL.COUNT, Reg.FAULT_EVENT.CORRECTED, Reg.FAULT_EVENT.CONTAINED, Reg.FAULT_EVENT.FATAL, Reg.FAULT_EVENT.HIST_LOST, Reg.FAULT_HIST_STATUS.LOST, Reg.CELL_STATE.STATE, Reg.CELL_STATE.CONFIRMED, Reg.CELL_STATE.REASON, Reg.CELL_STATE_FRAME.FRAME, Reg.CELL_LAST.CELL, Reg.CELL_LAST.STATE, Reg.CELL_LAST.REASON, Reg.CELL_EVENT.PENDING, Reg.CELL_EVENT.BYPASS, Reg.CELL_EVENT.REJECTED, Reg.CELL_EVENT.OUT]
theorem State.bypass_effect (s : State) (p1 : Nat) (p2 : Nat) :
    Effect State.bypass_touch State.bypass_fields s (@State.bypass s p1 p2) := by
  unfold State.bypass
  extract_lets x1 x2
  have h3 : Effect State.bypass_touch State.bypass_fields s x1 := by
    refine Effect.after (State.setCell_effect ..) (by decide +kernel) ?_
    exact Effect.refl _ _ _
  try clear_value x1
  have h4 : Effect State.bypass_touch State.bypass_fields s x2 := by
    refine Effect.after (State.wr_effect ..) (by decide +kernel) ?_
    exact h3
  try clear_value x2
  refine Effect.after (State.modCell_effect ..) (by decide +kernel) ?_
  exact h4

def State.stepHost_touch : List Part := [.faults, .cells]
def State.stepHost_fields : Option (List Field) := some [Reg.COLLECT_STATUS_LO.STATUS, Reg.COLLECT_STATUS_HI.STATUS, Reg.FAULT_COUNT_CORR.COUNT, Reg.FAULT_COUNT_CONT.COUNT, Reg.FAULT_COUNT_FATAL.COUNT, Reg.FAULT_EVENT.CORRECTED, Reg.FAULT_EVENT.CONTAINED, Reg.FAULT_EVENT.FATAL, Reg.FAULT_EVENT.HIST_LOST, Reg.FAULT_HIST_STATUS.LOST, Reg.CELL_STATE.STATE, Reg.CELL_STATE.CONFIRMED, Reg.CELL_STATE.REASON, Reg.CELL_FAULT.SEEN, Reg.CELL_FAULT.TOGGLES, Reg.CELL_COUNT.SWAPS, Reg.CELL_STATE_FRAME.FRAME, Reg.TS_RECORDED_LO.IDENTITY, Reg.TS_RECORDED_HI.IDENTITY, Reg.CELL_LAST.CELL, Reg.CELL_LAST.STATE, Reg.CELL_LAST.REASON, Reg.CELL_EVENT.PENDING, Reg.CELL_EVENT.BYPASS, Reg.CELL_EVENT.REJECTED, Reg.CELL_EVENT.OUT]
theorem State.stepHost_effect (s : State) (p1 : Nat) :
    Effect State.stepHost_touch State.stepHost_fields s (@State.stepHost s p1) := by
  unfold State.stepHost
  extract_lets x1 x2 x3
  have h4 : Effect State.stepHost_touch State.stepHost_fields s x2 := by
    unfold x2
    split
    · refine Effect.after (State.admitCell_effect ..) (by decide +kernel) ?_
      exact Effect.refl _ _ _
    · exact Effect.refl _ _ _
  try clear_value x2
  have h5 : Effect State.stepHost_touch State.stepHost_fields s x3 := by
    refine Effect.when ?_ ?_
    · exact h4
    · intro u6
      try beta_reduce
      refine Effect.after (State.bypass_effect ..) (by decide +kernel) ?_
      exact Effect.refl _ _ _
  try clear_value x3
  try clear_value x1
  refine Effect.after (State.modCell_effect ..) (by decide +kernel) ?_
  exact h5

def State.applyReply_touch : List Part := [.faults, .cells]
def State.applyReply_fields : Option (List Field) := some [Reg.COLLECT_STATUS_LO.STATUS, Reg.COLLECT_STATUS_HI.STATUS, Reg.FAULT_COUNT_CORR.COUNT, Reg.FAULT_COUNT_CONT.COUNT, Reg.FAULT_COUNT_FATAL.COUNT, Reg.FAULT_EVENT.CORRECTED, Reg.FAULT_EVENT.CONTAINED, Reg.FAULT_EVENT.FATAL, Reg.FAULT_EVENT.HIST_LOST, Reg.FAULT_HIST_STATUS.LOST, Reg.CELL_STATE.STATE, Reg.CELL_STATE.CONFIRMED, Reg.CELL_STATE.REASON, Reg.CELL_FAULT.SEEN, Reg.CELL_FAULT.TOGGLES, Reg.CELL_COUNT.SWAPS, Reg.CELL_STATE_FRAME.FRAME, Reg.TS_RECORDED_LO.IDENTITY, Reg.TS_RECORDED_HI.IDENTITY, Reg.TS_CALL.RESULT, Reg.CELL_LAST.CELL, Reg.CELL_LAST.STATE, Reg.CELL_LAST.REASON, Reg.CELL_EVENT.PENDING, Reg.CELL_EVENT.BYPASS, Reg.CELL_EVENT.REJECTED, Reg.CELL_EVENT.SWAP, Reg.CELL_EVENT.OUT]
theorem State.applyReply_effect (s : State) (p1 : Nat) (p2 : Reply) :
    Effect State.applyReply_touch State.applyReply_fields s (@State.applyReply s p1 p2) := by
  unfold State.applyReply
  extract_lets x1 x2 x3 x4 x5 x6
  have h7 : Effect State.applyReply_touch State.applyReply_fields s x6 := by
    refine Effect.ite ?_ ?_
    · refine Effect.after (State.wr64_effect ..) (by decide +kernel) ?_
      try unfold x3
      try beta_reduce
      refine Effect.after (State.wr_effect ..) (by decide +kernel) ?_
      exact Effect.refl _ _ _
    · refine Effect.ite ?_ ?_
      · try unfold x3
        try beta_reduce
        refine Effect.after (State.wr_effect ..) (by decide +kernel) ?_
        exact Effect.refl _ _ _
      · try unfold x3
        try beta_reduce
        refine Effect.after (State.wr_effect ..) (by decide +kernel) ?_
        exact Effect.refl _ _ _
  try clear_value x6
  try clear_value x1 x2 x4 x5
  split
  · refine Effect.ite ?_ ?_
    · refine Effect.when ?_ ?_
      · try unfold x3
        try beta_reduce
        refine Effect.after (State.wr_effect ..) (by decide +kernel) ?_
        exact Effect.refl _ _ _
      · intro u8
        try beta_reduce
        refine Effect.after (State.setCell_effect ..) (by decide +kernel) ?_
        exact Effect.refl _ _ _
    · refine Effect.ite ?_ ?_
      · refine Effect.when ?_ ?_
        · try unfold x3
          try beta_reduce
          refine Effect.after (State.wr_effect ..) (by decide +kernel) ?_
          exact Effect.refl _ _ _
        · intro u10
          try beta_reduce
          refine Effect.after (State.setCell_effect ..) (by decide +kernel) ?_
          exact Effect.refl _ _ _
      · refine Effect.ite ?_ ?_
        · refine Effect.ite ?_ ?_
          · refine Effect.after (State.setCell_effect ..) (by decide +kernel) ?_
            exact h7
          · refine Effect.ite ?_ ?_
            · refine Effect.after (State.setCell_effect ..) (by decide +kernel) ?_
              exact h7
            · exact h7
        · refine Effect.ite ?_ ?_
          · refine Effect.after (State.wr_effect ..) (by decide +kernel) ?_
            refine Effect.after (State.admitCell_effect ..) (by decide +kernel) ?_
            exact h7
          · refine Effect.after (State.setCell_effect ..) (by decide +kernel) ?_
            exact h7
  · exact Effect.refl _ _ _

def State.stepReplies_touch : List Part := [.faults, .cells]
def State.stepReplies_fields : Option (List Field) := some [Reg.COLLECT_STATUS_LO.STATUS, Reg.COLLECT_STATUS_HI.STATUS, Reg.FAULT_COUNT_CORR.COUNT, Reg.FAULT_COUNT_CONT.COUNT, Reg.FAULT_COUNT_FATAL.COUNT, Reg.FAULT_EVENT.CORRECTED, Reg.FAULT_EVENT.CONTAINED, Reg.FAULT_EVENT.FATAL, Reg.FAULT_EVENT.HIST_LOST, Reg.FAULT_HIST_STATUS.LOST, Reg.CELL_STATE.STATE, Reg.CELL_STATE.CONFIRMED, Reg.CELL_STATE.REASON, Reg.CELL_FAULT.SEEN, Reg.CELL_FAULT.TOGGLES, Reg.CELL_COUNT.SWAPS, Reg.CELL_STATE_FRAME.FRAME, Reg.TS_RECORDED_LO.IDENTITY, Reg.TS_RECORDED_HI.IDENTITY, Reg.TS_CALL.RESULT, Reg.CELL_LAST.CELL, Reg.CELL_LAST.STATE, Reg.CELL_LAST.REASON, Reg.CELL_EVENT.PENDING, Reg.CELL_EVENT.BYPASS, Reg.CELL_EVENT.REJECTED, Reg.CELL_EVENT.SWAP, Reg.CELL_EVENT.OUT]
theorem State.stepReplies_effect (s : State) (p1 : Nat) :
    Effect State.stepReplies_touch State.stepReplies_fields s (@State.stepReplies s p1) := by
  unfold State.stepReplies
  extract_lets x1
  try clear_value x1
  refine Effect.after (State.modCell_effect ..) (by decide +kernel) ?_
  refine Effect.each ?_ ?_
  · exact Effect.refl _ _ _
  · intro u2 a3
    try beta_reduce
    refine Effect.after (State.applyReply_effect ..) (by decide +kernel) ?_
    exact Effect.refl _ _ _

def State.stepRemoval_touch : List Part := [.faults, .cells]
def State.stepRemoval_fields : Option (List Field) := some [Reg.COLLECT_STATUS_LO.STATUS, Reg.COLLECT_STATUS_HI.STATUS, Reg.FAULT_COUNT_CORR.COUNT, Reg.FAULT_COUNT_CONT.COUNT, Reg.FAULT_COUNT_FATAL.COUNT, Reg.FAULT_EVENT.CORRECTED, Reg.FAULT_EVENT.CONTAINED, Reg.FAULT_EVENT.FATAL, Reg.FAULT_EVENT.HIST_LOST, Reg.FAULT_HIST_STATUS.LOST, Reg.CELL_STATE.STATE, Reg.CELL_STATE.CONFIRMED, Reg.CELL_STATE.REASON, Reg.CELL_STATE_FRAME.FRAME, Reg.CELL_LAST.CELL, Reg.CELL_LAST.STATE, Reg.CELL_LAST.REASON, Reg.CELL_EVENT.PENDING, Reg.CELL_EVENT.BYPASS, Reg.CELL_EVENT.REJECTED, Reg.CELL_EVENT.OUT]
theorem State.stepRemoval_effect (s : State) (p1 : ArmCfg) (p2 : Nat) :
    Effect State.stepRemoval_touch State.stepRemoval_fields s (@State.stepRemoval s p1 p2) := by
  unfold State.stepRemoval
  extract_lets x1 x2 x3 x4 x5
  have h6 : Effect State.stepRemoval_touch State.stepRemoval_fields s x5 := by
    refine Effect.when ?_ ?_
    · exact Effect.refl _ _ _
    · intro u7
      try beta_reduce
      refine Effect.after (State.modCell_effect ..) (by decide +kernel) ?_
      exact Effect.refl _ _ _
  try clear_value x5
  try clear_value x1 x2 x3 x4
  refine Effect.ite ?_ ?_
  · exact h6
  · refine Effect.ite ?_ ?_
    · refine Effect.after (State.bypass_effect ..) (by decide +kernel) ?_
      exact h6
    · refine Effect.ite ?_ ?_
      · refine Effect.after (State.bypass_effect ..) (by decide +kernel) ?_
        exact h6
      · refine Effect.ite ?_ ?_
        · refine Effect.after (State.bypass_effect ..) (by decide +kernel) ?_
          exact h6
        · refine Effect.ite ?_ ?_
          · refine Effect.after (State.bypass_effect ..) (by decide +kernel) ?_
            exact h6
          · refine Effect.ite ?_ ?_
            · refine Effect.after (State.bypass_effect ..) (by decide +kernel) ?_
              exact h6
            · exact h6

def State.stepOt_touch : List Part := [.faults]
def State.stepOt_fields : Option (List Field) := some [Reg.COLLECT_STATUS_LO.STATUS, Reg.COLLECT_STATUS_HI.STATUS, Reg.FAULT_COUNT_CORR.COUNT, Reg.FAULT_COUNT_CONT.COUNT, Reg.FAULT_COUNT_FATAL.COUNT, Reg.FAULT_EVENT.CORRECTED, Reg.FAULT_EVENT.CONTAINED, Reg.FAULT_EVENT.FATAL, Reg.FAULT_EVENT.HIST_LOST, Reg.FAULT_HIST_STATUS.LOST, Reg.CELL_STATE.STATE, Reg.CELL_STATE.CONFIRMED, Reg.CELL_STATE.REASON, Reg.CELL_STATE_FRAME.FRAME, Reg.CELL_LAST.CELL, Reg.CELL_LAST.STATE, Reg.CELL_LAST.REASON, Reg.CELL_EVENT.PENDING, Reg.CELL_EVENT.BYPASS, Reg.CELL_EVENT.REJECTED, Reg.CELL_EVENT.OUT]
theorem State.stepOt_effect (s : State) (p1 : Nat) :
    Effect State.stepOt_touch State.stepOt_fields s (@State.stepOt s p1) := by
  unfold State.stepOt
  extract_lets x1 x2
  try clear_value x1 x2
  refine Effect.ite ?_ ?_
  · exact Effect.refl _ _ _
  · refine Effect.ite ?_ ?_
    · refine Effect.after (State.setCell_effect ..) (by decide +kernel) ?_
      exact Effect.refl _ _ _
    · refine Effect.ite ?_ ?_
      · refine Effect.after (State.setCell_effect ..) (by decide +kernel) ?_
        exact Effect.refl _ _ _
      · exact Effect.refl _ _ _

def State.stepConfirm_touch : List Part := [.faults, .cells]
def State.stepConfirm_fields : Option (List Field) := some [Reg.COLLECT_STATUS_LO.STATUS, Reg.COLLECT_STATUS_HI.STATUS, Reg.FAULT_COUNT_CORR.COUNT, Reg.FAULT_COUNT_CONT.COUNT, Reg.FAULT_COUNT_FATAL.COUNT, Reg.FAULT_EVENT.CORRECTED, Reg.FAULT_EVENT.CONTAINED, Reg.FAULT_EVENT.FATAL, Reg.FAULT_EVENT.HIST_LOST, Reg.FAULT_HIST_STATUS.LOST, Reg.CELL_STATE.CONFIRMED, Reg.CELL_EVENT.UNCONFIRMED]
theorem State.stepConfirm_effect (s : State) (p1 : Nat) :
    Effect State.stepConfirm_touch State.stepConfirm_fields s (@State.stepConfirm s p1) := by
  unfold State.stepConfirm
  extract_lets x1 x2 x3
  have h4 : Effect State.stepConfirm_touch State.stepConfirm_fields s x3 := by
    refine Effect.after (State.modCell_effect ..) (by decide +kernel) ?_
    exact Effect.refl _ _ _
  try clear_value x3
  try clear_value x1 x2
  split
  · refine Effect.ite ?_ ?_
    · exact Effect.refl _ _ _
    · refine Effect.ite ?_ ?_
      · refine Effect.after (State.wr_effect ..) (by decide +kernel) ?_
        exact Effect.refl _ _ _
      · refine Effect.ite ?_ ?_
        · refine Effect.after (State.raise_effect ..) (by decide +kernel) ?_
          refine Effect.after (State.wr_effect ..) (by decide +kernel) ?_
          exact h4
        · exact h4
  · exact Effect.refl _ _ _

def State.stepAnchor_touch : List Part := [.cells]
def State.stepAnchor_fields : Option (List Field) := some [Reg.CELL_STATE.T_INVALID, Reg.CELL_TEMP.T_HS]
theorem State.stepAnchor_effect (s : State) (p1 : Nat) (p2 : Nat) :
    Effect State.stepAnchor_touch State.stepAnchor_fields s (@State.stepAnchor s p1 p2) := by
  unfold State.stepAnchor
  extract_lets x1 x2 x3 x4 x5
  try clear_value x1 x3 x4 x5
  split
  · refine Effect.after (State.modCell_effect ..) (by decide +kernel) ?_
    refine Effect.after (State.wr_effect ..) (by decide +kernel) ?_
    refine Effect.after (State.wr_effect ..) (by decide +kernel) ?_
    exact Effect.refl _ _ _
  · refine Effect.after (State.wr_effect ..) (by decide +kernel) ?_
    exact Effect.refl _ _ _

def State.checkArm_touch : List Part := [.faults, .cells]
def State.checkArm_fields : Option (List Field) := some [Reg.COLLECT_STATUS_LO.STATUS, Reg.COLLECT_STATUS_HI.STATUS, Reg.FAULT_COUNT_CORR.COUNT, Reg.FAULT_COUNT_CONT.COUNT, Reg.FAULT_COUNT_FATAL.COUNT, Reg.FAULT_EVENT.CORRECTED, Reg.FAULT_EVENT.CONTAINED, Reg.FAULT_EVENT.FATAL, Reg.FAULT_EVENT.HIST_LOST, Reg.FAULT_HIST_STATUS.LOST, Reg.CELL_STATE.STATE, Reg.CELL_STATE.CONFIRMED, Reg.CELL_STATE.NO_BYPASS, Reg.CELL_STATE.REASON, Reg.CELL_STATE.T_INVALID, Reg.CELL_TEMP.T_HS, Reg.CELL_FAULT.REPORTED, Reg.CELL_FAULT.SEEN, Reg.CELL_FAULT.TOGGLES, Reg.CELL_COUNT.SWAPS, Reg.CELL_STATE_FRAME.FRAME, Reg.TS_RECORDED_LO.IDENTITY, Reg.TS_RECORDED_HI.IDENTITY, Reg.TS_CALL.RESULT, Reg.CELL_LAST.CELL, Reg.CELL_LAST.STATE, Reg.CELL_LAST.REASON, Reg.CELL_EVENT.PENDING, Reg.CELL_EVENT.BYPASS, Reg.CELL_EVENT.REJECTED, Reg.CELL_EVENT.SWAP, Reg.CELL_EVENT.OUT, Reg.CELL_EVENT.UNCONFIRMED]
theorem State.checkArm_effect (s : State) (p1 : ArmCfg) :
    Effect State.checkArm_touch State.checkArm_fields s (@State.checkArm s p1) := by
  unfold State.checkArm
  extract_lets x1 x2 x3 x4 x5 x6 x7
  have h8 : Effect State.checkArm_touch State.checkArm_fields s x2 := by
    refine Effect.each ?_ ?_
    · exact Effect.refl _ _ _
    · intro u9 a10
      try beta_reduce
      refine Effect.after (State.stepHost_effect ..) (by decide +kernel) ?_
      exact Effect.refl _ _ _
  try clear_value x2
  have h11 : Effect State.checkArm_touch State.checkArm_fields s x3 := by
    refine Effect.each ?_ ?_
    · exact h8
    · intro u12 a13
      try beta_reduce
      refine Effect.after (State.stepReplies_effect ..) (by decide +kernel) ?_
      exact Effect.refl _ _ _
  try clear_value x3
  have h14 : Effect State.checkArm_touch State.checkArm_fields s x4 := by
    refine Effect.each ?_ ?_
    · exact h11
    · intro u15 a16
      try beta_reduce
      refine Effect.after (State.stepFaults_effect ..) (by decide +kernel) ?_
      exact Effect.refl _ _ _
  try clear_value x4
  have h17 : Effect State.checkArm_touch State.checkArm_fields s x5 := by
    refine Effect.each ?_ ?_
    · exact h14
    · intro u18 a19
      try beta_reduce
      refine Effect.after (State.stepRemoval_effect ..) (by decide +kernel) ?_
      exact Effect.refl _ _ _
  try clear_value x5
  have h20 : Effect State.checkArm_touch State.checkArm_fields s x6 := by
    refine Effect.each ?_ ?_
    · exact h17
    · intro u21 a22
      try beta_reduce
      refine Effect.after (State.stepOt_effect ..) (by decide +kernel) ?_
      exact Effect.refl _ _ _
  try clear_value x6
  have h23 : Effect State.checkArm_touch State.checkArm_fields s x7 := by
    refine Effect.each ?_ ?_
    · exact h20
    · intro u24 a25
      try beta_reduce
      refine Effect.after (State.stepConfirm_effect ..) (by decide +kernel) ?_
      exact Effect.refl _ _ _
  try clear_value x7
  try clear_value x1
  refine Effect.each ?_ ?_
  · exact h23
  · intro u26 a27
    try beta_reduce
    refine Effect.after (State.stepAnchor_effect ..) (by decide +kernel) ?_
    exact Effect.refl _ _ _

def State.ethDeliver_touch : List Part := [.out]
def State.ethDeliver_fields : Option (List Field) := some [Reg.ETH_RXR_HEAD.INDEX, Reg.ETH_COUNT.NO_DESC, Reg.ETH_EVENT.EVENTS]
theorem State.ethDeliver_effect (s : State) (p1 : Nat) (p2 : List Byte) (p3 : Nat) :
    Effect State.ethDeliver_touch State.ethDeliver_fields s (@State.ethDeliver s p1 p2 p3) := by
  unfold State.ethDeliver
  extract_lets x1 x2 x3 x4 x5 x6 x7 x8 x9
  have h10 : Effect State.ethDeliver_touch State.ethDeliver_fields s x9 := by
    refine Effect.after (State.emit_effect ..) (by decide +kernel) ?_
    refine Effect.after (State.emit_effect ..) (by decide +kernel) ?_
    exact Effect.refl _ _ _
  try clear_value x9
  try clear_value x1 x2 x3 x4 x5 x6 x7 x8
  refine Effect.ite ?_ ?_
  · refine Effect.after (State.bump_effect ..) (by decide +kernel) ?_
    exact Effect.refl _ _ _
  · refine Effect.after (State.evBit_effect ..) (by decide +kernel) ?_
    refine Effect.after (State.wr_effect ..) (by decide +kernel) ?_
    exact h10

def State.ethReceive_touch : List Part := [.out]
def State.ethReceive_fields : Option (List Field) := some [Reg.ETH_RXR_HEAD.INDEX, Reg.ETH_COUNT.NO_DESC, Reg.ETH_COUNT.FILTERED, Reg.ETH_EVENT.EVENTS]
theorem State.ethReceive_effect (s : State) (p1 : Nat) (p2 : List Byte) (p3 : Bool) (p4 : Nat) :
    Effect State.ethReceive_touch State.ethReceive_fields s (@State.ethReceive s p1 p2 p3 p4) := by
  unfold State.ethReceive
  extract_lets x1
  try clear_value x1
  refine Effect.ite ?_ ?_
  · exact Effect.refl _ _ _
  · refine Effect.ite ?_ ?_
    · refine Effect.after (State.bump_effect ..) (by decide +kernel) ?_
      exact Effect.refl _ _ _
    · refine Effect.ite ?_ ?_
      · refine Effect.after (State.bump_effect ..) (by decide +kernel) ?_
        exact Effect.refl _ _ _
      · refine Effect.after (State.ethDeliver_effect ..) (by decide +kernel) ?_
        exact Effect.refl _ _ _

def State.chopStart_touch : List Part := [.drives]
def State.chopStart_fields : Option (List Field) := some [Reg.DRV_STATUS.LOAD_PENDING, Reg.DRV_STATUS.LEG_FAULT, Reg.DRV_CARRIER_ACT.TOP, Reg.DRV_LEG_STATUS.CMP_ACT, Reg.DRV_LEG_STATUS.DESAT_HS, Reg.DRV_LEG_STATUS.DESAT_LS, Reg.DRV_LEG_STATUS.INSTANT, Reg.DRV_LEG_STATUS.VB_UV, Reg.DRV_LEG_STATUS.GATES_OFF, Reg.DRV_LEG_STATUS.MODE_ACT, Reg.DRV_LEG_COUNT.SUPPRESSED, Reg.DRV_LEG_COUNT.FULL_ON, Reg.DRV_EVENT.LOAD_DONE, Reg.DRV_LOADALL.UNITS, Reg.DRV_LOAD_STATUS.DONE]
theorem State.chopStart_effect (s : State) (p1 : Nat) (p2 : Nat) :
    Effect State.chopStart_touch State.chopStart_fields s (@State.chopStart s p1 p2) := by
  unfold State.chopStart
  extract_lets x1 x2 x3 x4 x5
  have h6 : Effect State.chopStart_touch State.chopStart_fields s x1 := by
    refine Effect.after (State.modDrv_effect ..) (by decide +kernel) ?_
    exact Effect.refl _ _ _
  try clear_value x1
  have h7 : Effect State.chopStart_touch State.chopStart_fields s x2 := by
    refine Effect.after (State.applyChop_effect ..) (by decide +kernel) ?_
    exact h6
  try clear_value x2
  have h8 : Effect State.chopStart_touch State.chopStart_fields s x4 := by
    refine Effect.when ?_ ?_
    · exact h7
    · intro u9
      try beta_reduce
      refine Effect.after (State.bump_effect ..) (by decide +kernel) ?_
      exact Effect.refl _ _ _
  try clear_value x4
  have h11 : Effect State.chopStart_touch State.chopStart_fields s x5 := by
    refine Effect.when ?_ ?_
    · exact h8
    · intro u12
      try beta_reduce
      refine Effect.after (State.bump_effect ..) (by decide +kernel) ?_
      exact Effect.refl _ _ _
  try clear_value x5
  try clear_value x3
  refine Effect.after (State.showActive_effect ..) (by decide +kernel) ?_
  refine Effect.after (State.legCommand_effect ..) (by decide +kernel) ?_
  exact h11

def State.loadUnit_touch : List Part := [.faults, .drives, .motors]
def State.loadUnit_fields : Option (List Field) := some [Reg.COLLECT_STATUS_LO.STATUS, Reg.COLLECT_STATUS_HI.STATUS, Reg.FAULT_COUNT_CORR.COUNT, Reg.FAULT_COUNT_CONT.COUNT, Reg.FAULT_COUNT_FATAL.COUNT, Reg.FAULT_EVENT.CORRECTED, Reg.FAULT_EVENT.CONTAINED, Reg.FAULT_EVENT.FATAL, Reg.FAULT_EVENT.HIST_LOST, Reg.FAULT_HIST_STATUS.LOST, Reg.DRV_STATUS.LOAD_PENDING, Reg.DRV_STATUS.LEG_FAULT, Reg.DRV_CARRIER_ACT.TOP, Reg.DRV_LEG_STATUS.CMP_ACT, Reg.DRV_LEG_STATUS.DESAT_HS, Reg.DRV_LEG_STATUS.DESAT_LS, Reg.DRV_LEG_STATUS.INSTANT, Reg.DRV_LEG_STATUS.VB_UV, Reg.DRV_LEG_STATUS.GATES_OFF, Reg.DRV_LEG_STATUS.MODE_ACT, Reg.DRV_LEG_COUNT.SUPPRESSED, Reg.DRV_LEG_COUNT.FULL_ON, Reg.DRV_EVENT.LOAD_DONE, Reg.MOT_STATE.STATE, Reg.MOT_EVENT.STATE, Reg.MOT_EVENT.OBS_LOST, Reg.DRV_LOADALL.UNITS, Reg.DRV_LOAD_STATUS.DONE]
theorem State.loadUnit_effect (s : State) (p1 : Nat) :
    Effect State.loadUnit_touch State.loadUnit_fields s (@State.loadUnit s p1) := by
  unfold State.loadUnit
  extract_lets x1 x2 x3 x4 x5
  have h6 : Effect State.loadUnit_touch State.loadUnit_fields s x3 := by
    refine Effect.after (State.modDrv_effect ..) (by decide +kernel) ?_
    exact Effect.refl _ _ _
  try clear_value x3
  have h7 : Effect State.loadUnit_touch State.loadUnit_fields s x4 := by
    refine Effect.after (State.wrBit_effect ..) (by decide +kernel) ?_
    refine Effect.after (State.wr_effect ..) (by decide +kernel) ?_
    exact h6
  try clear_value x4
  have h8 : Effect State.loadUnit_touch State.loadUnit_fields s x5 := by
    refine Effect.after (State.valleyStart_effect ..) (by decide +kernel) ?_
    refine Effect.after (State.applyChop_effect ..) (by decide +kernel) ?_
    refine Effect.after (State.modDrv_effect ..) (by decide +kernel) ?_
    exact h7
  try clear_value x5
  try clear_value x1 x2
  refine Effect.ite ?_ ?_
  · refine Effect.ite ?_ ?_
    · refine Effect.after (State.showActive_effect ..) (by decide +kernel) ?_
      exact h8
    · refine Effect.after (State.chopStart_effect ..) (by decide +kernel) ?_
      refine Effect.after (State.valleyLegs_effect ..) (by decide +kernel) ?_
      exact h8
  · exact h7

def State.loadAll_touch : List Part := [.faults, .drives, .motors]
def State.loadAll_fields : Option (List Field) := some [Reg.COLLECT_STATUS_LO.STATUS, Reg.COLLECT_STATUS_HI.STATUS, Reg.FAULT_COUNT_CORR.COUNT, Reg.FAULT_COUNT_CONT.COUNT, Reg.FAULT_COUNT_FATAL.COUNT, Reg.FAULT_EVENT.CORRECTED, Reg.FAULT_EVENT.CONTAINED, Reg.FAULT_EVENT.FATAL, Reg.FAULT_EVENT.HIST_LOST, Reg.FAULT_HIST_STATUS.LOST, Reg.DRV_STATUS.LOAD_PENDING, Reg.DRV_STATUS.LEG_FAULT, Reg.DRV_CARRIER_ACT.TOP, Reg.DRV_LEG_STATUS.CMP_ACT, Reg.DRV_LEG_STATUS.DESAT_HS, Reg.DRV_LEG_STATUS.DESAT_LS, Reg.DRV_LEG_STATUS.INSTANT, Reg.DRV_LEG_STATUS.VB_UV, Reg.DRV_LEG_STATUS.GATES_OFF, Reg.DRV_LEG_STATUS.MODE_ACT, Reg.DRV_LEG_COUNT.SUPPRESSED, Reg.DRV_LEG_COUNT.FULL_ON, Reg.DRV_EVENT.LOAD_DONE, Reg.DRV_EVENT.LOAD_ERR, Reg.MOT_STATE.STATE, Reg.MOT_EVENT.STATE, Reg.MOT_EVENT.OBS_LOST, Reg.DRV_LOADALL.UNITS, Reg.DRV_LOAD_STATUS.DONE, Reg.DRV_LOAD_STATUS.ERR]
theorem State.loadAll_effect (s : State) (p1 : Nat) :
    Effect State.loadAll_touch State.loadAll_fields s (@State.loadAll s p1) := by
  unfold State.loadAll
  extract_lets x1 x2 x3
  have h4 : Effect State.loadAll_touch State.loadAll_fields s x3 := by
    refine Effect.each ?_ ?_
    · exact Effect.refl _ _ _
    · intro u5 a6
      try beta_reduce
      refine Effect.after (State.wrBit_effect ..) (by decide +kernel) ?_
      refine Effect.after (State.wrBit_effect ..) (by decide +kernel) ?_
      exact Effect.refl _ _ _
  try clear_value x3
  try clear_value x1 x2
  refine Effect.ite ?_ ?_
  · refine Effect.each ?_ ?_
    · exact h4
    · intro u7 a8
      try beta_reduce
      refine Effect.after (State.loadUnit_effect ..) (by decide +kernel) ?_
      refine Effect.after (State.drvDue_effect ..) (by decide +kernel) ?_
      exact Effect.refl _ _ _
  · refine Effect.each ?_ ?_
    · exact h4
    · intro u9 a10
      try beta_reduce
      refine Effect.after (State.wr_effect ..) (by decide +kernel) ?_
      refine Effect.after (State.wrBit_effect ..) (by decide +kernel) ?_
      exact Effect.refl _ _ _

def State.commitDrive_touch : List Part := [.faults, .drives, .motors]
def State.commitDrive_fields : Option (List Field) := some [Reg.COLLECT_STATUS_LO.STATUS, Reg.COLLECT_STATUS_HI.STATUS, Reg.FAULT_COUNT_CORR.COUNT, Reg.FAULT_COUNT_CONT.COUNT, Reg.FAULT_COUNT_FATAL.COUNT, Reg.FAULT_EVENT.CORRECTED, Reg.FAULT_EVENT.CONTAINED, Reg.FAULT_EVENT.FATAL, Reg.FAULT_EVENT.HIST_LOST, Reg.FAULT_HIST_STATUS.LOST, Reg.DRV_CTRL.MODE, Reg.DRV_STATUS.LOAD_PENDING, Reg.DRV_STATUS.LEG_FAULT, Reg.DRV_CARRIER.TOP, Reg.DRV_CARRIER_ACT.TOP, Reg.DRV_GATE.SRC, Reg.DRV_GATE.SNK, Reg.DRV_GATE.SOFT, Reg.DRV_GATE.CH_SRC, Reg.DRV_GATE.CH_SNK, Reg.DRV_GATE.CH_SOFT, Reg.DRV_GATE.TEMP_COMP, Reg.DRV_PROT.BLANK, Reg.DRV_PROT.MIN_PULSE, Reg.DRV_CHOP_CFG.MODE, Reg.DRV_CHOP_CFG.SIDE, Reg.DRV_CHOP_CFG.TIME, Reg.DRV_CHOP_PERIOD.PERIOD, Reg.DRV_LEG_CFG.MODE, Reg.DRV_LEG_CFG.DEADTIME, Reg.DRV_LEG_DUTY.CMP, Reg.DRV_LEG_STATUS.CMP_ACT, Reg.DRV_LEG_STATUS.DESAT_HS, Reg.DRV_LEG_STATUS.DESAT_LS, Reg.DRV_LEG_STATUS.INSTANT, Reg.DRV_LEG_STATUS.VB_UV, Reg.DRV_LEG_STATUS.GATES_OFF, Reg.DRV_LEG_STATUS.MODE_ACT, Reg.DRV_LEG_COUNT.SUPPRESSED, Reg.DRV_LEG_COUNT.FULL_ON, Reg.DRV_EVENT.LOAD_DONE, Reg.DRV_EVENT.LOAD_ERR, Reg.MOT_STATE.STATE, Reg.MOT_STATE.CURVE_ON, Reg.MOT_STATE.PRIV, Reg.MOT_STATE.SRC, Reg.MOT_EVENT.STATE, Reg.MOT_EVENT.OBS_LOST, Reg.MOT_CURVE.X, Reg.MOT_CURVE.Y, Reg.MOT_CURVE.USED, Reg.MOT_ADV.SPEED, Reg.MOT_ADV.ANGLE, Reg.DRV_LOADALL.UNITS, Reg.DRV_LOAD_STATUS.DONE, Reg.DRV_LOAD_STATUS.ERR]
theorem State.commitDrive_effect (s : State) :
    Effect State.commitDrive_touch State.commitDrive_fields s (@State.commitDrive s) := by
  unfold State.commitDrive
  extract_lets x1 x2 x3
  have h4 : Effect State.commitDrive_touch State.commitDrive_fields s x1 := by
    refine Effect.each ?_ ?_
    · exact Effect.refl _ _ _
    · intro u5 a6
      try beta_reduce
      refine Effect.after (State.wr_effect ..) (by decide +kernel) ?_
      refine Effect.after (State.wr_effect ..) (by decide +kernel) ?_
      exact Effect.refl _ _ _
  try clear_value x1
  have h7 : Effect State.commitDrive_touch State.commitDrive_fields s x2 := by
    refine Effect.each ?_ ?_
    · exact h4
    · intro u8 a9
      try beta_reduce
      extract_lets x10 x11 x12 x13
      have h14 : Effect State.commitDrive_touch State.commitDrive_fields u8 x12 := by
        refine Effect.after (State.wr_effect ..) (by decide +kernel) ?_
        exact Effect.refl _ _ _
      try clear_value x12
      have h15 : Effect State.commitDrive_touch State.commitDrive_fields u8 x13 := by
        refine Effect.each ?_ ?_
        · exact h14
        · intro u16 a17
          try beta_reduce
          extract_lets x18
          try clear_value x18
          refine Effect.after (State.wr_effect ..) (by decide +kernel) ?_
          refine Effect.after (State.wr_effect ..) (by decide +kernel) ?_
          refine Effect.after (State.wr_effect ..) (by decide +kernel) ?_
          exact Effect.refl _ _ _
      try clear_value x13
      try clear_value x10 x11
      refine Effect.each ?_ ?_
      · exact h15
      · intro u19 a20
        try beta_reduce
        extract_lets x21
        try clear_value x21
        refine Effect.after (State.wr_effect ..) (by decide +kernel) ?_
        refine Effect.after (State.wr_effect ..) (by decide +kernel) ?_
        exact Effect.refl _ _ _
  try clear_value x2
  have h22 : Effect State.commitDrive_touch State.commitDrive_fields s x3 := by
    refine Effect.each ?_ ?_
    · exact h7
    · intro u23 a24
      try beta_reduce
      extract_lets x25 x26 x27 x28 x29 x30 x31 x32
      have h33 : Effect State.commitDrive_touch State.commitDrive_fields u23 x27 := by
        refine Effect.after (State.wr_effect ..) (by decide +kernel) ?_
        refine Effect.after (State.wr_effect ..) (by decide +kernel) ?_
        refine Effect.after (State.wr_effect ..) (by decide +kernel) ?_
        exact Effect.refl _ _ _
      try clear_value x27
      have h34 : Effect State.commitDrive_touch State.commitDrive_fields u23 x28 := by
        refine Effect.after (State.wr_effect ..) (by decide +kernel) ?_
        refine Effect.after (State.wr_effect ..) (by decide +kernel) ?_
        refine Effect.after (State.wr_effect ..) (by decide +kernel) ?_
        exact h33
      try clear_value x28
      have h35 : Effect State.commitDrive_touch State.commitDrive_fields u23 x29 := by
        refine Effect.after (State.wr_effect ..) (by decide +kernel) ?_
        refine Effect.after (State.wr_effect ..) (by decide +kernel) ?_
        refine Effect.after (State.wr_effect ..) (by decide +kernel) ?_
        exact h34
      try clear_value x29
      have h36 : Effect State.commitDrive_touch State.commitDrive_fields u23 x30 := by
        refine Effect.after (State.wr_effect ..) (by decide +kernel) ?_
        refine Effect.after (State.wr_effect ..) (by decide +kernel) ?_
        refine Effect.after (State.wr_effect ..) (by decide +kernel) ?_
        exact h35
      try clear_value x30
      have h37 : Effect State.commitDrive_touch State.commitDrive_fields u23 x31 := by
        refine Effect.after (State.wr_effect ..) (by decide +kernel) ?_
        refine Effect.after (State.wr_effect ..) (by decide +kernel) ?_
        refine Effect.after (State.wr_effect ..) (by decide +kernel) ?_
        exact h36
      try clear_value x31
      have h38 : Effect State.commitDrive_touch State.commitDrive_fields u23 x32 := by
        refine Effect.each ?_ ?_
        · exact h37
        · intro u39 a40
          try beta_reduce
          refine Effect.after (State.wr_effect ..) (by decide +kernel) ?_
          exact Effect.refl _ _ _
      try clear_value x32
      try clear_value x25 x26
      refine Effect.each ?_ ?_
      · exact h38
      · intro u41 a42
        try beta_reduce
        refine Effect.after (State.wr_effect ..) (by decide +kernel) ?_
        refine Effect.after (State.wr_effect ..) (by decide +kernel) ?_
        exact Effect.refl _ _ _
  try clear_value x3
  refine Effect.after (State.loadAll_effect ..) (by decide +kernel) ?_
  exact h22

def State.commitConvs_touch : List Part := []
def State.commitConvs_fields : Option (List Field) := some [Reg.CONV_STATE.STATE, Reg.CONV_STATE.KIND, Reg.CONV_STATE.ARMS, Reg.CONV_MF_OMEGA.OMEGA_MF]
theorem State.commitConvs_effect (s : State) :
    Effect State.commitConvs_touch State.commitConvs_fields s (@State.commitConvs s) := by
  unfold State.commitConvs
  refine Effect.each ?_ ?_
  · exact Effect.refl _ _ _
  · intro u1 a2
    try beta_reduce
    extract_lets x3
    have h4 : Effect State.commitConvs_touch State.commitConvs_fields u1 x3 := by
      refine Effect.after (State.wr_effect ..) (by decide +kernel) ?_
      refine Effect.after (State.wr_effect ..) (by decide +kernel) ?_
      refine Effect.after (State.wr_effect ..) (by decide +kernel) ?_
      exact Effect.refl _ _ _
    try clear_value x3
    refine Effect.after (State.wr_effect ..) (by decide +kernel) ?_
    exact h4

def State.markFailed_touch : List Part := [.faults]
def State.markFailed_fields : Option (List Field) := some [Reg.COLLECT_STATUS_LO.STATUS, Reg.COLLECT_STATUS_HI.STATUS, Reg.FAULT_COUNT_CORR.COUNT, Reg.FAULT_COUNT_CONT.COUNT, Reg.FAULT_COUNT_FATAL.COUNT, Reg.FAULT_EVENT.CORRECTED, Reg.FAULT_EVENT.CONTAINED, Reg.FAULT_EVENT.FATAL, Reg.FAULT_EVENT.HIST_LOST, Reg.FAULT_HIST_STATUS.LOST, Reg.IMAGE_SLICE_FAIL.FAIL, Reg.SLICE_ROLE.STATE]
theorem State.markFailed_effect (s : State) (p1 : Nat) :
    Effect State.markFailed_touch State.markFailed_fields s (@State.markFailed s p1) := by
  unfold State.markFailed
  refine Effect.after (State.raise_effect ..) (by decide +kernel) ?_
  refine Effect.after (State.wr_effect ..) (by decide +kernel) ?_
  refine Effect.after (State.evBit_effect ..) (by decide +kernel) ?_
  exact Effect.refl _ _ _

def State.loseLane_touch : List Part := [.lanes]
def State.loseLane_fields : Option (List Field) := some [Reg.LANE_STATUS.STATE, Reg.LANE_EVENT.LOST]
theorem State.loseLane_effect (s : State) (p1 : Nat) :
    Effect State.loseLane_touch State.loseLane_fields s (@State.loseLane s p1) := by
  unfold State.loseLane
  extract_lets x1 x2
  have h3 : Effect State.loseLane_touch State.loseLane_fields s x2 := by
    refine Effect.after (State.modLane_effect ..) (by decide +kernel) ?_
    exact Effect.refl _ _ _
  try clear_value x2
  try clear_value x1
  refine Effect.after (State.showLane_effect ..) (by decide +kernel) ?_
  refine Effect.when ?_ ?_
  · exact h3
  · intro u4
    try beta_reduce
    refine Effect.after (State.wr_effect ..) (by decide +kernel) ?_
    exact Effect.refl _ _ _

def State.sliceFail_touch : List Part := [.faults, .load, .lanes, .arms, .safety]
def State.sliceFail_fields : Option (List Field) := some [Reg.ROLE_COUNT.LANE_SLICES, Reg.ROLE_COUNT.ARM_SLICES, Reg.ROLE_COUNT.RECORDER, Reg.ROLE_COUNT.MIRROR, Reg.ROLE_COUNT.SPARE, Reg.ROLE_COUNT.UNASSIGNED, Reg.COLLECT_STATUS_LO.STATUS, Reg.COLLECT_STATUS_HI.STATUS, Reg.FAULT_COUNT_CORR.COUNT, Reg.FAULT_COUNT_CONT.COUNT, Reg.FAULT_COUNT_FATAL.COUNT, Reg.FAULT_EVENT.CORRECTED, Reg.FAULT_EVENT.CONTAINED, Reg.FAULT_EVENT.FATAL, Reg.FAULT_EVENT.HIST_LOST, Reg.FAULT_HIST_STATUS.LOST, Reg.IMAGE_SUBST_STATUS.BUSY, Reg.IMAGE_SLICE_FAIL.FAIL, Reg.IMAGE_EVENT.SPARE_LOW, Reg.LANE_STATUS.STATE, Reg.LANE_EVENT.LOST, Reg.SLICE_ROLE.STATE, Reg.ARM_STATUS.ACTIVE]
theorem State.sliceFail_effect (s : State) (p1 : Nat) :
    Effect State.sliceFail_touch State.sliceFail_fields s (@State.sliceFail s p1) := by
  unfold State.sliceFail
  extract_lets x1 x2 x3 x4 x5 x6 x7
  have h8 : Effect State.sliceFail_touch State.sliceFail_fields s x4 := by
    refine Effect.after (State.markFailed_effect ..) (by decide +kernel) ?_
    exact Effect.refl _ _ _
  try clear_value x4
  have h9 : Effect State.sliceFail_touch State.sliceFail_fields s x5 := by
    refine Effect.after (State.modLoad_effect ..) (by decide +kernel) ?_
    exact h8
  try clear_value x5
  have h10 : Effect State.sliceFail_touch State.sliceFail_fields s x7 := by
    refine Effect.ite ?_ ?_
    · split
      · refine Effect.ite ?_ ?_
        · refine Effect.after (State.modLoad_effect ..) (by decide +kernel) ?_
          exact h8
        · exact h8
      · exact h8
    · refine Effect.ite ?_ ?_
      · refine Effect.after (State.loseLane_effect ..) (by decide +kernel) ?_
        refine Effect.after (State.modLane_effect ..) (by decide +kernel) ?_
        exact h9
      · refine Effect.ite ?_ ?_
        · refine Effect.after (State.modArm_effect ..) (by decide +kernel) ?_
          refine Effect.after (State.wr_effect ..) (by decide +kernel) ?_
          exact h9
        · refine Effect.ite ?_ ?_
          · refine Effect.after (Effect.safety _ _) (by decide +kernel) ?_
            exact h9
          · exact h9
  try clear_value x7
  try clear_value x1 x2 x3 x6
  refine Effect.ite ?_ ?_
  · exact Effect.refl _ _ _
  · refine Effect.after (State.showBusy_effect ..) (by decide +kernel) ?_
    refine Effect.after (State.showRoles_effect ..) (by decide +kernel) ?_
    exact h10

def State.timeRestart_touch : List Part := [.time]
def State.timeRestart_fields : Option (List Field) := some [Reg.TIME_STATUS.SYNC, Reg.TIME_STATUS.RESTORED]
theorem State.timeRestart_effect (s : State) :
    Effect State.timeRestart_touch State.timeRestart_fields s (@State.timeRestart s) := by
  unfold State.timeRestart
  extract_lets x1 x2 x3 x4 x5 x6 x7
  have h8 : Effect State.timeRestart_touch State.timeRestart_fields s x7 := by
    refine Effect.after (Effect.time _ _) (by decide +kernel) ?_
    exact Effect.refl _ _ _
  try clear_value x7
  try clear_value x1 x2 x3 x4 x5 x6
  refine Effect.after (State.wr_effect ..) (by decide +kernel) ?_
  refine Effect.after (State.wr_effect ..) (by decide +kernel) ?_
  exact h8

def State.driveBand_touch : List Part := [.drives]
def State.driveBand_fields : Option (List Field) := some [Reg.THERMAL_BAND.DRV, Reg.THERMAL_EVENT.EVENTS, Reg.DRV_STATUS.BAND]
theorem State.driveBand_effect (s : State) (p1 : Nat) (p2 : Nat) (p3 : Bool) :
    Effect State.driveBand_touch State.driveBand_fields s (@State.driveBand s p1 p2 p3) := by
  unfold State.driveBand
  extract_lets x1 x2 x3 x4
  have h5 : Effect State.driveBand_touch State.driveBand_fields s x3 := by
    refine Effect.after (State.modDrv_effect ..) (by decide +kernel) ?_
    exact Effect.refl _ _ _
  try clear_value x3
  try clear_value x1 x2 x4
  refine Effect.ite ?_ ?_
  · exact Effect.refl _ _ _
  · refine Effect.ite ?_ ?_
    · refine Effect.after (State.wr_effect ..) (by decide +kernel) ?_
      refine Effect.after (State.wr_effect ..) (by decide +kernel) ?_
      refine Effect.when ?_ ?_
      · exact h5
      · intro u6
        try beta_reduce
        refine Effect.after (State.evBit_effect ..) (by decide +kernel) ?_
        exact Effect.refl _ _ _
    · exact h5

def State.dsRestart_touch : List Part := [.adc]
def State.dsRestart_fields : Option (List Field) := some []
theorem State.dsRestart_effect (s : State) (p1 : Nat) :
    Effect State.dsRestart_touch State.dsRestart_fields s (@State.dsRestart s p1) := by
  unfold State.dsRestart
  refine Effect.each ?_ ?_
  · exact Effect.refl _ _ _
  · intro u1 a2
    try beta_reduce
    refine Effect.after (State.modDs_effect ..) (by decide +kernel) ?_
    exact Effect.refl _ _ _

def State.showVdrv_touch : List Part := []
def State.showVdrv_fields : Option (List Field) := some [Reg.DRV_STATUS.VDRV_OK, Reg.DRV_LEG_STATUS.UVLO]
theorem State.showVdrv_effect (s : State) (p1 : Nat) :
    Effect State.showVdrv_touch State.showVdrv_fields s (@State.showVdrv s p1) := by
  unfold State.showVdrv
  extract_lets x1 x2
  have h3 : Effect State.showVdrv_touch State.showVdrv_fields s x2 := by
    refine Effect.after (State.wr_effect ..) (by decide +kernel) ?_
    exact Effect.refl _ _ _
  try clear_value x2
  try clear_value x1
  refine Effect.each ?_ ?_
  · exact h3
  · intro u4 a5
    try beta_reduce
    refine Effect.after (State.wr_effect ..) (by decide +kernel) ?_
    exact Effect.refl _ _ _

def State.motTrip_touch : List Part := [.faults, .drives, .motors]
def State.motTrip_fields : Option (List Field) := some [Reg.COLLECT_STATUS_LO.STATUS, Reg.COLLECT_STATUS_HI.STATUS, Reg.FAULT_COUNT_CORR.COUNT, Reg.FAULT_COUNT_CONT.COUNT, Reg.FAULT_COUNT_FATAL.COUNT, Reg.FAULT_EVENT.CORRECTED, Reg.FAULT_EVENT.CONTAINED, Reg.FAULT_EVENT.FATAL, Reg.FAULT_EVENT.HIST_LOST, Reg.FAULT_HIST_STATUS.LOST, Reg.DRV_STATUS.LEG_FAULT, Reg.DRV_CARRIER_ACT.TOP, Reg.DRV_LEG_STATUS.CMP_ACT, Reg.DRV_LEG_STATUS.DESAT_HS, Reg.DRV_LEG_STATUS.DESAT_LS, Reg.DRV_LEG_STATUS.INSTANT, Reg.DRV_LEG_STATUS.VB_UV, Reg.DRV_LEG_STATUS.GATES_OFF, Reg.DRV_LEG_STATUS.MODE_ACT, Reg.MOT_STATE.STATE, Reg.MOT_STATE.CHOP_FAULT, Reg.MOT_BUS.CHOP_D, Reg.MOT_COUNT.CHOP_FAULTS, Reg.MOT_EVENT.STATE, Reg.MOT_EVENT.OBS_LOST, Reg.MOT_EVENT.CHOP_FAULT]
theorem State.motTrip_effect (s : State) (p1 : Nat) (p2 : Nat) :
    Effect State.motTrip_touch State.motTrip_fields s (@State.motTrip s p1 p2) := by
  unfold State.motTrip
  extract_lets x1
  try clear_value x1
  refine Effect.ite ?_ ?_
  · exact Effect.refl _ _ _
  · refine Effect.ite ?_ ?_
    · refine Effect.after (State.chopFail_effect ..) (by decide +kernel) ?_
      exact Effect.refl _ _ _
    · refine Effect.ite ?_ ?_
      · refine Effect.after (State.motGates_effect ..) (by decide +kernel) ?_
        refine Effect.after (State.motTo_effect ..) (by decide +kernel) ?_
        exact Effect.refl _ _ _
      · exact Effect.refl _ _ _

def State.tripReport_touch : List Part := [.faults]
def State.tripReport_fields : Option (List Field) := some [Reg.COLLECT_STATUS_LO.STATUS, Reg.COLLECT_STATUS_HI.STATUS, Reg.FAULT_COUNT_CORR.COUNT, Reg.FAULT_COUNT_CONT.COUNT, Reg.FAULT_COUNT_FATAL.COUNT, Reg.FAULT_EVENT.CORRECTED, Reg.FAULT_EVENT.CONTAINED, Reg.FAULT_EVENT.FATAL, Reg.FAULT_EVENT.HIST_LOST, Reg.FAULT_HIST_STATUS.LOST, Reg.DRV_TRIP.COUNT, Reg.DRV_TRIP.LAST_LEG, Reg.DRV_TRIP.LAST_CAUSE, Reg.DRV_TRIP_NS_LO.NS, Reg.DRV_TRIP_NS_HI.NS, Reg.DRV_EVENT.TRIP]
theorem State.tripReport_effect (s : State) (p1 : Nat) (p2 : Nat) (p3 : Nat) :
    Effect State.tripReport_touch State.tripReport_fields s (@State.tripReport s p1 p2 p3) := by
  unfold State.tripReport
  extract_lets x1 x2
  have h3 : Effect State.tripReport_touch State.tripReport_fields s x1 := by
    refine Effect.after (State.wr_effect ..) (by decide +kernel) ?_
    refine Effect.after (State.bump_effect ..) (by decide +kernel) ?_
    exact Effect.refl _ _ _
  try clear_value x1
  have h4 : Effect State.tripReport_touch State.tripReport_fields s x2 := by
    refine Effect.after (State.wr64_effect ..) (by decide +kernel) ?_
    refine Effect.after (State.wr_effect ..) (by decide +kernel) ?_
    exact h3
  try clear_value x2
  refine Effect.after (State.raise_effect ..) (by decide +kernel) ?_
  refine Effect.after (State.wr_effect ..) (by decide +kernel) ?_
  exact h4

def State.linkRecover_touch : List Part := [.faults, .adc, .drives, .motors]
def State.linkRecover_fields : Option (List Field) := some [Reg.DOMAIN_STATE.DRV_LINK, Reg.COLLECT_STATUS_LO.STATUS, Reg.COLLECT_STATUS_HI.STATUS, Reg.FAULT_COUNT_CORR.COUNT, Reg.FAULT_COUNT_CONT.COUNT, Reg.FAULT_COUNT_FATAL.COUNT, Reg.FAULT_EVENT.CORRECTED, Reg.FAULT_EVENT.CONTAINED, Reg.FAULT_EVENT.FATAL, Reg.FAULT_EVENT.HIST_LOST, Reg.FAULT_HIST_STATUS.LOST, Reg.DRV_STATUS.LINK, Reg.DRV_STATUS.VDRV_OK, Reg.DRV_STATUS.LATCHED, Reg.DRV_STATUS.LATCH_CAUSE, Reg.DRV_STATUS.OT_SHUT, Reg.DRV_STATUS.BAND, Reg.DRV_STATUS.LEG_FAULT, Reg.DRV_CARRIER_ACT.TOP, Reg.DRV_LEG_STATUS.CMP_ACT, Reg.DRV_LEG_STATUS.DESAT_HS, Reg.DRV_LEG_STATUS.DESAT_LS, Reg.DRV_LEG_STATUS.INSTANT, Reg.DRV_LEG_STATUS.VB_UV, Reg.DRV_LEG_STATUS.UVLO, Reg.DRV_LEG_STATUS.INPUT_ACTIVE, Reg.DRV_LEG_STATUS.GATES_OFF, Reg.DRV_LEG_STATUS.MODE_ACT, Reg.DRV_TRIP.COUNT, Reg.DRV_TRIP.LAST_LEG, Reg.DRV_TRIP.LAST_CAUSE, Reg.DRV_TRIP_NS_LO.NS, Reg.DRV_TRIP_NS_HI.NS, Reg.DRV_EVENT.TRIP, Reg.DRV_EVENT.LATCH, Reg.DRV_EVENT.LINK, Reg.MOT_STATE.STATE, Reg.MOT_STATE.CHOP_FAULT, Reg.MOT_BUS.CHOP_D, Reg.MOT_COUNT.CHOP_FAULTS, Reg.MOT_EVENT.STATE, Reg.MOT_EVENT.OBS_LOST, Reg.MOT_EVENT.CHOP_FAULT]
theorem State.linkRecover_effect (s : State) (p1 : Nat) :
    Effect State.linkRecover_touch State.linkRecover_fields s (@State.linkRecover s p1) := by
  unfold State.linkRecover
  extract_lets x1 x2 x3 x4 x5 x6 x7 x8
  have h9 : Effect State.linkRecover_touch State.linkRecover_fields s x1 := by
    refine Effect.after (State.wrBit_effect ..) (by decide +kernel) ?_
    refine Effect.after (State.wr_effect ..) (by decide +kernel) ?_
    exact Effect.refl _ _ _
  try clear_value x1
  have h10 : Effect State.linkRecover_touch State.linkRecover_fields s x2 := by
    refine Effect.after (State.dsRestart_effect ..) (by decide +kernel) ?_
    refine Effect.after (State.wr_effect ..) (by decide +kernel) ?_
    exact h9
  try clear_value x2
  have h11 : Effect State.linkRecover_touch State.linkRecover_fields s x3 := by
    refine Effect.after (State.wr_effect ..) (by decide +kernel) ?_
    refine Effect.after (State.showVdrv_effect ..) (by decide +kernel) ?_
    exact h10
  try clear_value x3
  have h12 : Effect State.linkRecover_touch State.linkRecover_fields s x4 := by
    refine Effect.after (State.wr_effect ..) (by decide +kernel) ?_
    exact h11
  try clear_value x4
  have h13 : Effect State.linkRecover_touch State.linkRecover_fields s x5 := by
    refine Effect.when ?_ ?_
    · exact h12
    · intro u14
      try beta_reduce
      refine Effect.each ?_ ?_
      · refine Effect.after (State.modDrv_effect ..) (by decide +kernel) ?_
        exact Effect.refl _ _ _
      · intro u16 a17
        try beta_reduce
        refine Effect.after (State.modLeg_effect ..) (by decide +kernel) ?_
        exact Effect.refl _ _ _
  try clear_value x5
  have h18 : Effect State.linkRecover_touch State.linkRecover_fields s x6 := by
    refine Effect.after (State.showInputs_effect ..) (by decide +kernel) ?_
    refine Effect.after (State.showLegFaults_effect ..) (by decide +kernel) ?_
    exact h13
  try clear_value x6
  have h19 : Effect State.linkRecover_touch State.linkRecover_fields s x8 := by
    refine Effect.after (State.driveUnit_effect ..) (by decide +kernel) ?_
    refine Effect.after (State.waitEdges_effect ..) (by decide +kernel) ?_
    refine Effect.after (State.modDrv_effect ..) (by decide +kernel) ?_
    exact h18
  try clear_value x8
  try clear_value x7
  refine Effect.ite ?_ ?_
  · exact Effect.refl _ _ _
  · refine Effect.after (State.showLatch_effect ..) (by decide +kernel) ?_
    refine Effect.each ?_ ?_
    · exact h19
    · intro u20 a21
      try beta_reduce
      refine Effect.after (State.motTrip_effect ..) (by decide +kernel) ?_
      refine Effect.after (State.tripReport_effect ..) (by decide +kernel) ?_
      exact Effect.refl _ _ _

def State.freeDuties_touch : List Part := [.drives, .drawn]
def State.freeDuties_fields : Option (List Field) := some []
theorem State.freeDuties_effect (s : State) (p1 : Nat) :
    Effect State.freeDuties_touch State.freeDuties_fields s (@State.freeDuties s p1) := by
  unfold State.freeDuties
  extract_lets x1
  try clear_value x1
  split
  rename_i a3 u4 q5
  have h2 : Effect State.freeDuties_touch State.freeDuties_fields s u4 := by
    refine Effect.of_pair q5 ?_
    refine Effect.after (State.draw_effect ..) (by decide +kernel) ?_
    exact Effect.refl _ _ _
  split
  rename_i a7 u8 q9
  have h6 : Effect State.freeDuties_touch State.freeDuties_fields s u8 := by
    refine Effect.of_pair q9 ?_
    refine Effect.after (State.draw_effect ..) (by decide +kernel) ?_
    exact h2
  split
  rename_i a11 u12 q13
  have h10 : Effect State.freeDuties_touch State.freeDuties_fields s u12 := by
    refine Effect.of_pair q13 ?_
    refine Effect.after (State.draw_effect ..) (by decide +kernel) ?_
    exact h6
  refine Effect.after (State.modDrv_effect ..) (by decide +kernel) ?_
  exact h10

def State.currentLoops_touch : List Part := [.drives, .motors, .drawn]
def State.currentLoops_fields : Option (List Field) := some []
theorem State.currentLoops_effect (s : State) (p1 : Nat) (p2 : MotCfg) (p3 : Int) (p4 : Int) (p5 : Int) (p6 : Int) (p7 : Int) (p8 : Option (Int × Int)) :
    Effect State.currentLoops_touch State.currentLoops_fields s (@State.currentLoops s p1 p2 p3 p4 p5 p6 p7 p8) := by
  unfold State.currentLoops
  extract_lets x1 x2 x3 x4 x5 x6
  try clear_value x1 x2 x3 x4 x5 x6
  split
  · split
    · refine Effect.after (State.freeDuties_effect ..) (by decide +kernel) ?_
      refine Effect.after (State.modMot_effect ..) (by decide +kernel) ?_
      exact Effect.refl _ _ _

def State.openLoop_touch : List Part := [.drives, .motors, .drawn]
def State.openLoop_fields : Option (List Field) := some [Reg.MOT_BUS.ADV]
theorem State.openLoop_effect (s : State) (p1 : Nat) (p2 : MotCfg) (p3 : Int) (p4 : Int) (p5 : Int) :
    Effect State.openLoop_touch State.openLoop_fields s (@State.openLoop s p1 p2 p3 p4 p5) := by
  unfold State.openLoop
  extract_lets x1 x2
  have h3 : Effect State.openLoop_touch State.openLoop_fields s x2 := by
    refine Effect.after (State.currentLoops_effect ..) (by decide +kernel) ?_
    refine Effect.after (State.wr_effect ..) (by decide +kernel) ?_
    exact Effect.refl _ _ _
  try clear_value x2
  try clear_value x1
  refine Effect.after (State.modMot_effect ..) (by decide +kernel) ?_
  exact h3

def State.closedLoops_touch : List Part := [.drives, .motors, .drawn]
def State.closedLoops_fields : Option (List Field) := some [Reg.MOT_STATE.ILIMIT, Reg.MOT_BUS.ADV]
theorem State.closedLoops_effect (s : State) (p1 : Nat) (p2 : MotCfg) (p3 : Int) (p4 : Int) (p5 : Int) (p6 : Int) (p7 : Option (Int × Int)) :
    Effect State.closedLoops_touch State.closedLoops_fields s (@State.closedLoops s p1 p2 p3 p4 p5 p6 p7) := by
  unfold State.closedLoops
  extract_lets x1 x2 x3 x4 x5 x6
  try clear_value x1 x2 x3 x5 x6
  split
  · extract_lets x7 x8 x9
    have h10 : Effect State.closedLoops_touch State.closedLoops_fields s x9 := by
      refine Effect.after (State.modMot_effect ..) (by decide +kernel) ?_
      exact Effect.refl _ _ _
    try clear_value x9
    try clear_value x7 x8
    refine Effect.after (State.currentLoops_effect ..) (by decide +kernel) ?_
    refine Effect.after (State.wrS_effect ..) (by decide +kernel) ?_
    refine Effect.after (State.wr_effect ..) (by decide +kernel) ?_
    exact h10

def State.chopHold_touch : List Part := [.drives, .motors]
def State.chopHold_fields : Option (List Field) := some [Reg.DRV_STATUS.LEG_FAULT, Reg.DRV_LEG_STATUS.DESAT_HS, Reg.DRV_LEG_STATUS.DESAT_LS, Reg.DRV_LEG_STATUS.INSTANT, Reg.DRV_LEG_STATUS.VB_UV, Reg.DRV_LEG_STATUS.GATES_OFF, Reg.MOT_BUS.CHOP_D]
theorem State.chopHold_effect (s : State) (p1 : Nat) :
    Effect State.chopHold_touch State.chopHold_fields s (@State.chopHold s p1) := by
  unfold State.chopHold
  refine Effect.after (State.command_effect ..) (by decide +kernel) ?_
  refine Effect.after (State.wr_effect ..) (by decide +kernel) ?_
  refine Effect.after (State.modMot_effect ..) (by decide +kernel) ?_
  exact Effect.refl _ _ _

def State.chopper_touch : List Part := [.drives, .motors]
def State.chopper_fields : Option (List Field) := some [Reg.DRV_STATUS.LEG_FAULT, Reg.DRV_CHOP_PERIOD.PERIOD, Reg.DRV_LEG_STATUS.DESAT_HS, Reg.DRV_LEG_STATUS.DESAT_LS, Reg.DRV_LEG_STATUS.INSTANT, Reg.DRV_LEG_STATUS.VB_UV, Reg.DRV_LEG_STATUS.GATES_OFF, Reg.MOT_BUS.CHOP_D]
theorem State.chopper_effect (s : State) (p1 : Nat) (p2 : MotCfg) (p3 : Int) :
    Effect State.chopper_touch State.chopper_fields s (@State.chopper s p1 p2 p3) := by
  unfold State.chopper
  extract_lets x1 x2 x3 x4 x5 x6
  have h7 : Effect State.chopper_touch State.chopper_fields s x5 := by
    refine Effect.after (State.wr_effect ..) (by decide +kernel) ?_
    refine Effect.after (State.modDrv_effect ..) (by decide +kernel) ?_
    exact Effect.refl _ _ _
  try clear_value x5
  have h8 : Effect State.chopper_touch State.chopper_fields s x6 := by
    refine Effect.after (State.modMot_effect ..) (by decide +kernel) ?_
    exact h7
  try clear_value x6
  try clear_value x1 x2 x3 x4
  refine Effect.ite ?_ ?_
  · refine Effect.after (State.chopHold_effect ..) (by decide +kernel) ?_
    exact Effect.refl _ _ _
  · refine Effect.after (State.wr_effect ..) (by decide +kernel) ?_
    exact h8

def State.motLoops_touch : List Part := [.drives, .motors, .drawn]
def State.motLoops_fields : Option (List Field) := some [Reg.DRV_STATUS.LEG_FAULT, Reg.DRV_CHOP_PERIOD.PERIOD, Reg.DRV_LEG_STATUS.DESAT_HS, Reg.DRV_LEG_STATUS.DESAT_LS, Reg.DRV_LEG_STATUS.INSTANT, Reg.DRV_LEG_STATUS.VB_UV, Reg.DRV_LEG_STATUS.GATES_OFF, Reg.MOT_STATE.ILIMIT, Reg.MOT_CURRENT.ID, Reg.MOT_CURRENT.IQ, Reg.MOT_BUS.ADV, Reg.MOT_BUS.CHOP_D]
theorem State.motLoops_effect (s : State) (p1 : Nat) (p2 : MotCfg) (p3 : Observed) (p4 : Bool) :
    Effect State.motLoops_touch State.motLoops_fields s (@State.motLoops s p1 p2 p3 p4) := by
  unfold State.motLoops
  extract_lets x1 x2 x3 x4 x5 x6 x7 x8 x9
  have h10 : Effect State.motLoops_touch State.motLoops_fields s x8 := by
    refine Effect.after (State.wrS_effect ..) (by decide +kernel) ?_
    refine Effect.after (State.wrS_effect ..) (by decide +kernel) ?_
    exact Effect.refl _ _ _
  try clear_value x8
  have h11 : Effect State.motLoops_touch State.motLoops_fields s x9 := by
    refine Effect.ite ?_ ?_
    · refine Effect.after (State.openLoop_effect ..) (by decide +kernel) ?_
      exact h10
    · refine Effect.ite ?_ ?_
      · refine Effect.after (State.closedLoops_effect ..) (by decide +kernel) ?_
        exact h10
      · exact h10
  try clear_value x9
  try clear_value x1 x2 x3 x4 x5 x6 x7
  refine Effect.after (State.chopper_effect ..) (by decide +kernel) ?_
  exact h11

def State.clearTracker_touch : List Part := []
def State.clearTracker_fields : Option (List Field) := some [Reg.TRK_STATUS.CTRL_HIWATER, Reg.TRK_BP_COUNT.FRAMES, Reg.TRK_TIMEOUT_COUNT.TIMEOUTS]
theorem State.clearTracker_effect (s : State) :
    Effect State.clearTracker_touch State.clearTracker_fields s (@State.clearTracker s) := by
  unfold State.clearTracker
  refine Effect.after (State.wr_effect ..) (by decide +kernel) ?_
  refine Effect.after (State.wr_effect ..) (by decide +kernel) ?_
  refine Effect.after (State.wr_effect ..) (by decide +kernel) ?_
  exact Effect.refl _ _ _

def State.devResetRelease_touch : List Part := [.time, .power, .load]
def State.devResetRelease_fields : Option (List Field) := some [Reg.DOMAIN_STATE.FABRIC, Reg.DOMAIN_STATE.LANE_PHY, Reg.DOMAIN_STATE.BB_PHY, Reg.DOMAIN_STATE.ANALOG, Reg.POWER_STATE.STATE, Reg.POWER_PGOOD.PGOOD, Reg.FAULT_STATE.FAULT_N, Reg.FAULT_STATE.ALIVE_RUN, Reg.SAFE_STATUS.A_OK, Reg.SAFE_STATUS.B_OK, Reg.SAFE_STATUS.DIAG, Reg.SAFE_STATUS.DIAG_CAUSE, Reg.SAFE_STATUS.RESET_PIN, Reg.SAFE_STATUS.DEMAND, Reg.SAFE_STATUS.LOCKED, Reg.SAFE_STATUS.DIAG_A, Reg.SAFE_STATUS.DIAG_B, Reg.SAFE_GROUP.STATE, Reg.SAFE_GROUP.KIND, Reg.SAFE_GROUP.STOP, Reg.SAFE_GROUP.CAUSE, Reg.SAFE_GROUP.PAIRS, Reg.SAFE_PAIR.CH_A, Reg.SAFE_PAIR.CH_B, Reg.SAFE_PAIR.DEMAND, Reg.SAFE_PAIR.PAIR_FAULT, Reg.SAFE_PAIR.FAULT_CAUSE, Reg.SAFE_PAIR.DEMANDS, Reg.SAFE_TPO.EN, Reg.SAFE_TPO.READBACK_FAULT, Reg.SAFE_FIRE.FIRE_A, Reg.SAFE_FIRE.FIRE_B, Reg.SAFE_FIRE.DRV_A, Reg.SAFE_FIRE.DRV_B, Reg.SAFE_RESET_STATUS.ARMED, Reg.IMAGE_BOOT.BOOT_SRC, Reg.TIME_STATUS.SYNC, Reg.TIME_STATUS.RESTORED, Reg.DRV_STATUS.VDRV_OK, Reg.DRV_LEG_STATUS.UVLO]
theorem State.devResetRelease_effect (s : State) (p1 : Nat) :
    Effect State.devResetRelease_touch State.devResetRelease_fields s (@State.devResetRelease s p1) := by
  unfold State.devResetRelease
  extract_lets x1 x2 x3 x4 x5 x6 x7
  have h8 : Effect State.devResetRelease_touch State.devResetRelease_fields s x1 := by
    refine Effect.after (State.timeRestart_effect ..) (by decide +kernel) ?_
    exact Effect.refl _ _ _
  try clear_value x1
  have h9 : Effect State.devResetRelease_touch State.devResetRelease_fields s x2 := by
    refine Effect.after (State.modPower_effect ..) (by decide +kernel) ?_
    exact h8
  try clear_value x2
  have h10 : Effect State.devResetRelease_touch State.devResetRelease_fields s x4 := by
    refine Effect.after (State.wr_effect ..) (by decide +kernel) ?_
    refine Effect.after (State.wr_effect ..) (by decide +kernel) ?_
    exact h9
  try clear_value x4
  have h11 : Effect State.devResetRelease_touch State.devResetRelease_fields s x5 := by
    refine Effect.after (State.wr_effect ..) (by decide +kernel) ?_
    refine Effect.after (State.wr_effect ..) (by decide +kernel) ?_
    refine Effect.after (State.wr_effect ..) (by decide +kernel) ?_
    exact h10
  try clear_value x5
  have h12 : Effect State.devResetRelease_touch State.devResetRelease_fields s x6 := by
    refine Effect.after (State.wr_effect ..) (by decide +kernel) ?_
    refine Effect.after (State.wr_effect ..) (by decide +kernel) ?_
    refine Effect.after (State.wr_effect ..) (by decide +kernel) ?_
    exact h11
  try clear_value x6
  have h13 : Effect State.devResetRelease_touch State.devResetRelease_fields s x7 := by
    refine Effect.after (State.showSafe_effect ..) (by decide +kernel) ?_
    refine Effect.after (State.showPgood_effect ..) (by decide +kernel) ?_
    refine Effect.after (State.modLoad_effect ..) (by decide +kernel) ?_
    exact h12
  try clear_value x7
  try clear_value x3
  refine Effect.ite ?_ ?_
  · exact Effect.refl _ _ _
  · refine Effect.each ?_ ?_
    · exact h13
    · intro u14 a15
      try beta_reduce
      refine Effect.when ?_ ?_
      · exact Effect.refl _ _ _
      · intro u16
        try beta_reduce
        refine Effect.after (State.showVdrv_effect ..) (by decide +kernel) ?_
        exact Effect.refl _ _ _

def State.pllLocked_touch : List Part := [.drawn]
def State.pllLocked_fields : Option (List Field) := some [Reg.CLOCK_PLL_STATUS.LOCK, Reg.CLOCK_PLL_STATUS.COUNT]
theorem State.pllLocked_effect (s : State) (p1 : Nat) :
    Effect State.pllLocked_touch State.pllLocked_fields s (@State.pllLocked s p1) := by
  unfold State.pllLocked
  split
  rename_i a2 u3 q4
  have h1 : Effect State.pllLocked_touch State.pllLocked_fields s u3 := by
    refine Effect.of_pair q4 ?_
    refine Effect.after (State.draw_effect ..) (by decide +kernel) ?_
    exact Effect.refl _ _ _
  refine Effect.after (State.wr_effect ..) (by decide +kernel) ?_
  refine Effect.after (State.wr_effect ..) (by decide +kernel) ?_
  exact h1

def State.engineClock_touch : List Part := [.referee]
def State.engineClock_fields : Option (List Field) := some []
theorem State.engineClock_effect (s : State) :
    Effect State.engineClock_touch State.engineClock_fields s (@State.engineClock s) := by
  unfold State.engineClock
  refine Effect.ite ?_ ?_
  · refine Effect.after (State.modRef_effect ..) (by decide +kernel) ?_
    refine Effect.after (State.judgeLate_effect ..) (by decide +kernel) ?_
    exact Effect.refl _ _ _
  · exact Effect.refl _ _ _

def State.showStaged_touch : List Part := []
def State.showStaged_fields : Option (List Field) := some [Reg.CLOCK_PLL_STATUS.STAGED]
theorem State.showStaged_effect (s : State) :
    Effect State.showStaged_touch State.showStaged_fields s (@State.showStaged s) := by
  unfold State.showStaged
  refine Effect.each ?_ ?_
  · exact Effect.refl _ _ _
  · intro u1 a2
    try beta_reduce
    refine Effect.after (State.wr_effect ..) (by decide +kernel) ?_
    exact Effect.refl _ _ _

def State.goDone_touch : List Part := []
def State.goDone_fields : Option (List Field) := some [Reg.CLOCK_GO.GO, Reg.CLOCK_PLL_STATUS.STAGED, Reg.CLOCK_EVENT.EVENTS]
theorem State.goDone_effect (s : State) :
    Effect State.goDone_touch State.goDone_fields s (@State.goDone s) := by
  unfold State.goDone
  refine Effect.ite ?_ ?_
  · refine Effect.after (State.showStaged_effect ..) (by decide +kernel) ?_
    refine Effect.after (State.evBit_effect ..) (by decide +kernel) ?_
    refine Effect.after (State.wr_effect ..) (by decide +kernel) ?_
    exact Effect.refl _ _ _
  · exact Effect.refl _ _ _

def State.pllLock_touch : List Part := [.power, .load, .referee, .drawn]
def State.pllLock_fields : Option (List Field) := some [Reg.DOMAIN_STATE.DRAM_ACTIVE, Reg.CLOCK_GO.GO, Reg.CLOCK_PLL_STATUS.LOCK, Reg.CLOCK_PLL_STATUS.STAGED, Reg.CLOCK_PLL_STATUS.COUNT, Reg.CLOCK_EVENT.EVENTS, Reg.SAFE_STATUS.A_OK, Reg.SAFE_STATUS.B_OK, Reg.SAFE_STATUS.DIAG, Reg.SAFE_STATUS.DIAG_CAUSE, Reg.SAFE_STATUS.RESET_PIN, Reg.SAFE_STATUS.DEMAND, Reg.SAFE_STATUS.LOCKED, Reg.SAFE_STATUS.DIAG_A, Reg.SAFE_STATUS.DIAG_B, Reg.SAFE_GROUP.STATE, Reg.SAFE_GROUP.KIND, Reg.SAFE_GROUP.STOP, Reg.SAFE_GROUP.CAUSE, Reg.SAFE_GROUP.PAIRS, Reg.SAFE_PAIR.CH_A, Reg.SAFE_PAIR.CH_B, Reg.SAFE_PAIR.DEMAND, Reg.SAFE_PAIR.PAIR_FAULT, Reg.SAFE_PAIR.FAULT_CAUSE, Reg.SAFE_PAIR.DEMANDS, Reg.SAFE_TPO.EN, Reg.SAFE_TPO.READBACK_FAULT, Reg.SAFE_FIRE.FIRE_A, Reg.SAFE_FIRE.FIRE_B, Reg.SAFE_FIRE.DRV_A, Reg.SAFE_FIRE.DRV_B, Reg.SAFE_RESET_STATUS.ARMED]
theorem State.pllLock_effect (s : State) (p1 : Nat) :
    Effect State.pllLock_touch State.pllLock_fields s (@State.pllLock s p1) := by
  unfold State.pllLock
  extract_lets x1 x2 x3 x4 x5 x6 x7
  have h8 : Effect State.pllLock_touch State.pllLock_fields s x1 := by
    refine Effect.after (State.pllLocked_effect ..) (by decide +kernel) ?_
    exact Effect.refl _ _ _
  try clear_value x1
  have h9 : Effect State.pllLock_touch State.pllLock_fields s x2 := by
    refine Effect.after (State.evBit_effect ..) (by decide +kernel) ?_
    refine Effect.after (State.pllLocked_effect ..) (by decide +kernel) ?_
    exact Effect.refl _ _ _
  try clear_value x2
  have h10 : Effect State.pllLock_touch State.pllLock_fields s x3 := by
    refine Effect.after (State.modPower_effect ..) (by decide +kernel) ?_
    exact h9
  try clear_value x3
  have h11 : Effect State.pllLock_touch State.pllLock_fields s x4 := by
    refine Effect.ite ?_ ?_
    · refine Effect.after (State.modPower_effect ..) (by decide +kernel) ?_
      exact h10
    · exact h10
  try clear_value x4
  have h12 : Effect State.pllLock_touch State.pllLock_fields s x5 := by
    refine Effect.after (State.modPower_effect ..) (by decide +kernel) ?_
    exact h9
  try clear_value x5
  have h13 : Effect State.pllLock_touch State.pllLock_fields s x6 := by
    refine Effect.ite ?_ ?_
    · refine Effect.after (State.engineClock_effect ..) (by decide +kernel) ?_
      exact h12
    · exact h12
  try clear_value x6
  have h14 : Effect State.pllLock_touch State.pllLock_fields s x7 := by
    refine Effect.ite ?_ ?_
    · refine Effect.after (State.showSafe_effect ..) (by decide +kernel) ?_
      exact h13
    · exact h13
  try clear_value x7
  refine Effect.ite ?_ ?_
  · refine Effect.ite ?_ ?_
    · exact Effect.refl _ _ _
    · refine Effect.ite ?_ ?_
      · refine Effect.after (State.modPower_effect ..) (by decide +kernel) ?_
        exact h8
      · exact h8
  · refine Effect.ite ?_ ?_
    · refine Effect.after (State.goDone_effect ..) (by decide +kernel) ?_
      exact h11
    · refine Effect.ite ?_ ?_
      · refine Effect.ite ?_ ?_
        · refine Effect.after (State.wr_effect ..) (by decide +kernel) ?_
          refine Effect.after (State.modLoad_effect ..) (by decide +kernel) ?_
          exact h14
        · exact h14
      · exact Effect.refl _ _ _

def State.sendVector_touch : List Part := [.host, .out]
def State.sendVector_fields : Option (List Field) := some []
theorem State.sendVector_effect (s : State) (p1 : Nat) :
    Effect State.sendVector_touch State.sendVector_fields s (@State.sendVector s p1) := by
  unfold State.sendVector
  extract_lets x1 x2
  try clear_value x1 x2
  refine Effect.ite ?_ ?_
  · exact Effect.refl _ _ _
  · refine Effect.ite ?_ ?_
    · refine Effect.after (Effect.host _ _) (by decide +kernel) ?_
      exact Effect.refl _ _ _
    · refine Effect.after (State.emit_effect ..) (by decide +kernel) ?_
      exact Effect.refl _ _ _

def State.sendSource_touch : List Part := [.host, .out]
def State.sendSource_fields : Option (List Field) := some []
theorem State.sendSource_effect (s : State) (p1 : Nat) :
    Effect State.sendSource_touch State.sendSource_fields s (@State.sendSource s p1) := by
  unfold State.sendSource
  refine Effect.after (State.sendVector_effect ..) (by decide +kernel) ?_
  exact Effect.refl _ _ _

def State.measure_touch : List Part := [.lanes]
def State.measure_fields : Option (List Field) := some [Reg.LANE_STATUS.STATE]
theorem State.measure_effect (s : State) (p1 : Nat) :
    Effect State.measure_touch State.measure_fields s (@State.measure s p1) := by
  unfold State.measure
  extract_lets x1
  have h2 : Effect State.measure_touch State.measure_fields s x1 := by
    refine Effect.ite ?_ ?_
    · refine Effect.after (State.modLane_effect ..) (by decide +kernel) ?_
      exact Effect.refl _ _ _
    · refine Effect.after (State.modLane_effect ..) (by decide +kernel) ?_
      exact Effect.refl _ _ _
  try clear_value x1
  refine Effect.after (State.showLane_effect ..) (by decide +kernel) ?_
  exact h2

def State.loadArmSlice_touch : List Part := []
def State.loadArmSlice_fields : Option (List Field) := some [Reg.ARM_STATUS.ACTIVE, Reg.ARM_PTR.PTR, Reg.ARM_PAR.LOW, Reg.ARM_PAR.HIGH, Reg.ARM_ALPHA1.ALPHA, Reg.ARM_ALPHA2.ALPHA]
theorem State.loadArmSlice_effect (s : State) (p1 : Nat) (p2 : ArmCfg) (p3 : Nat) :
    Effect State.loadArmSlice_touch State.loadArmSlice_fields s (@State.loadArmSlice s p1 p2 p3) := by
  unfold State.loadArmSlice
  extract_lets x1 x2 x3 x4 x5 x6
  have h7 : Effect State.loadArmSlice_touch State.loadArmSlice_fields s x2 := by
    unfold x2
    try unfold x1
    try beta_reduce
    refine Effect.after (State.wr_effect ..) (by decide +kernel) ?_
    refine Effect.after (State.wr_effect ..) (by decide +kernel) ?_
    try unfold x1
    try beta_reduce
    refine Effect.after (State.wr_effect ..) (by decide +kernel) ?_
    refine Effect.after (State.wr_effect ..) (by decide +kernel) ?_
    exact Effect.refl _ _ _
  try clear_value x2
  have h8 : Effect State.loadArmSlice_touch State.loadArmSlice_fields s x3 := by
    unfold x3
    try unfold x1
    try beta_reduce
    refine Effect.after (State.wr_effect ..) (by decide +kernel) ?_
    refine Effect.after (State.wr_effect ..) (by decide +kernel) ?_
    try unfold x1
    try beta_reduce
    refine Effect.after (State.wr_effect ..) (by decide +kernel) ?_
    refine Effect.after (State.wr_effect ..) (by decide +kernel) ?_
    exact h7
  try clear_value x3
  have h9 : Effect State.loadArmSlice_touch State.loadArmSlice_fields s x4 := by
    unfold x4
    try unfold x1
    try beta_reduce
    refine Effect.after (State.wr_effect ..) (by decide +kernel) ?_
    refine Effect.after (State.wr_effect ..) (by decide +kernel) ?_
    try unfold x1
    try beta_reduce
    refine Effect.after (State.wr_effect ..) (by decide +kernel) ?_
    refine Effect.after (State.wr_effect ..) (by decide +kernel) ?_
    exact h8
  try clear_value x4
  have h10 : Effect State.loadArmSlice_touch State.loadArmSlice_fields s x5 := by
    refine Effect.after (State.wr_effect ..) (by decide +kernel) ?_
    refine Effect.after (State.wr_effect ..) (by decide +kernel) ?_
    exact h9
  try clear_value x5
  have h11 : Effect State.loadArmSlice_touch State.loadArmSlice_fields s x6 := by
    refine Effect.after (State.wr_effect ..) (by decide +kernel) ?_
    exact h10
  try clear_value x6
  refine Effect.after (State.wr_effect ..) (by decide +kernel) ?_
  exact h11

def State.roleEnters_touch : List Part := [.lanes, .cells, .arms, .safety]
def State.roleEnters_fields : Option (List Field) := some [Reg.LANE_STATUS.STATE, Reg.ARM_STATUS.ACTIVE, Reg.ARM_PTR.PTR, Reg.ARM_PAR.LOW, Reg.ARM_PAR.HIGH, Reg.ARM_ALPHA1.ALPHA, Reg.ARM_ALPHA2.ALPHA]
theorem State.roleEnters_effect (s : State) (p1 : Nat) (p2 : Nat) (p3 : Nat) :
    Effect State.roleEnters_touch State.roleEnters_fields s (@State.roleEnters s p1 p2 p3) := by
  unfold State.roleEnters
  extract_lets x1 x2 x3
  have h4 : Effect State.roleEnters_touch State.roleEnters_fields s x1 := by
    refine Effect.after (State.modLane_effect ..) (by decide +kernel) ?_
    exact Effect.refl _ _ _
  try clear_value x1
  try clear_value x2 x3
  refine Effect.ite ?_ ?_
  · refine Effect.ite ?_ ?_
    · refine Effect.after (State.measure_effect ..) (by decide +kernel) ?_
      refine Effect.after (State.modLane_effect ..) (by decide +kernel) ?_
      exact h4
    · refine Effect.after (State.showLane_effect ..) (by decide +kernel) ?_
      exact h4
  · refine Effect.ite ?_ ?_
    · split
      · exact Effect.refl _ _ _
      · extract_lets x5 x6
        have h7 : Effect State.roleEnters_touch State.roleEnters_fields s x5 := by
          refine Effect.after (State.loadArmSlice_effect ..) (by decide +kernel) ?_
          exact Effect.refl _ _ _
        try clear_value x5
        have h8 : Effect State.roleEnters_touch State.roleEnters_fields s x6 := by
          refine Effect.each ?_ ?_
          · exact h7
          · intro u9 a10
            try beta_reduce
            refine Effect.after (State.modCell_effect ..) (by decide +kernel) ?_
            exact Effect.refl _ _ _
        try clear_value x6
        refine Effect.after (State.modArm_effect ..) (by decide +kernel) ?_
        exact h8
    · refine Effect.ite ?_ ?_
      · refine Effect.after (Effect.safety _ _) (by decide +kernel) ?_
        exact Effect.refl _ _ _
      · exact Effect.refl _ _ _

def State.canNext_touch : List Part := [.cans]
def State.canNext_fields : Option (List Field) := some []
theorem State.canNext_effect (s : State) (p1 : Nat) :
    Effect State.canNext_touch State.canNext_fields s (@State.canNext s p1) := by
  unfold State.canNext
  extract_lets x1
  try clear_value x1
  refine Effect.after (State.modCan_effect ..) (by decide +kernel) ?_
  exact Effect.refl _ _ _

def State.bgRefuse_touch : List Part := [.power, .fr, .engs, .referee]
def State.bgRefuse_fields : Option (List Field) := some [Reg.DOMAIN_STATE.PLANE_A, Reg.DOMAIN_STATE.PLANE_B, Reg.POWER_PGOOD.PGOOD, Reg.REF_STATUS.STATE, Reg.REF_STATUS.ROLE_A, Reg.REF_STATUS.ROLE_B, Reg.REF_HT_STATUS.OUTCOME, Reg.REF_EVENT.CANCEL, Reg.REF_EVENT.UNFIT, Reg.PLAN_BG_STATUS.STOPPED_BY, Reg.ENG_STATUS.BALL, Reg.ENG_STATUS.SHADOW, Reg.ENG_STATUS.COLD, Reg.ENG_EXPORT.VALUE]
theorem State.bgRefuse_effect (s : State) (p1 : Nat) (p2 : List BgUnit) :
    Effect State.bgRefuse_touch State.bgRefuse_fields s (@State.bgRefuse s p1 p2) := by
  unfold State.bgRefuse
  extract_lets x1
  have h2 : Effect State.bgRefuse_touch State.bgRefuse_fields s x1 := by
    refine Effect.after (State.modFr_effect ..) (by decide +kernel) ?_
    refine Effect.after (State.wr_effect ..) (by decide +kernel) ?_
    exact Effect.refl _ _ _
  try clear_value x1
  refine Effect.ite ?_ ?_
  · refine Effect.after (State.cancelShadow_effect ..) (by decide +kernel) ?_
    exact h2
  · exact h2



def State.goodSlot_touch : List Part := [.faults, .fr, .lanes, .cells]
def State.goodSlot_fields : Option (List Field) := some [Reg.COLLECT_STATUS_LO.STATUS, Reg.COLLECT_STATUS_HI.STATUS, Reg.FAULT_COUNT_CORR.COUNT, Reg.FAULT_COUNT_CONT.COUNT, Reg.FAULT_COUNT_FATAL.COUNT, Reg.FAULT_EVENT.CORRECTED, Reg.FAULT_EVENT.CONTAINED, Reg.FAULT_EVENT.FATAL, Reg.FAULT_EVENT.HIST_LOST, Reg.FAULT_HIST_STATUS.LOST, Reg.STALE_COUNT.LATE, Reg.DUP_COUNT.DUP, Reg.DUP_COUNT.OLD, Reg.LANE_STATUS.CHAIN_LATE, Reg.LANE_LATE.SLOTS, Reg.LANE_LATE.FRAMES, Reg.LANE_EVENT.CHAIN_LATE]
theorem State.goodSlot_effect (s : State) (p1 : ChainCfg) (p2 : Nat) (p3 : Nat) (p4 : Nat) (p5 : List Byte) :
    Effect State.goodSlot_touch State.goodSlot_fields s (@State.goodSlot s p1 p2 p3 p4 p5) := by
  unfold State.goodSlot
  extract_lets x1 x2 x3 x4 x5
  have h6 : Effect State.goodSlot_touch State.goodSlot_fields s x2 := by
    refine Effect.after (State.bump_effect ..) (by decide +kernel) ?_
    refine Effect.after (State.bump_effect ..) (by decide +kernel) ?_
    exact Effect.refl _ _ _
  try clear_value x2
  have h7 : Effect State.goodSlot_touch State.goodSlot_fields s x3 := by
    refine Effect.when ?_ ?_
    · exact h6
    · intro u8
      try beta_reduce
      refine Effect.after (State.bump_effect ..) (by decide +kernel) ?_
      exact Effect.refl _ _ _
  try clear_value x3
  have h10 : Effect State.goodSlot_touch State.goodSlot_fields s x4 := by
    refine Effect.after (State.bump_effect ..) (by decide +kernel) ?_
    exact Effect.refl _ _ _
  try clear_value x4
  try clear_value x1 x5
  refine Effect.ite ?_ ?_
  · refine Effect.after (State.chainLate_effect ..) (by decide +kernel) ?_
    refine Effect.after (State.lateArrival_effect ..) (by decide +kernel) ?_
    exact h7
  · refine Effect.ite ?_ ?_
    · refine Effect.after (State.bump_effect ..) (by decide +kernel) ?_
      exact Effect.refl _ _ _
    · refine Effect.ite ?_ ?_
      · refine Effect.after (Effect.fr _ _) (by decide +kernel) ?_
        exact h10
      · refine Effect.after (State.modCell_effect ..) (by decide +kernel) ?_
        exact Effect.refl _ _ _

def State.uplinkSlot_touch : List Part := [.faults, .fr, .lanes, .cells]
def State.uplinkSlot_fields : Option (List Field) := some [Reg.COLLECT_STATUS_LO.STATUS, Reg.COLLECT_STATUS_HI.STATUS, Reg.FAULT_COUNT_CORR.COUNT, Reg.FAULT_COUNT_CONT.COUNT, Reg.FAULT_COUNT_FATAL.COUNT, Reg.FAULT_EVENT.CORRECTED, Reg.FAULT_EVENT.CONTAINED, Reg.FAULT_EVENT.FATAL, Reg.FAULT_EVENT.HIST_LOST, Reg.FAULT_HIST_STATUS.LOST, Reg.STALE_COUNT.LATE, Reg.DUP_COUNT.DUP, Reg.DUP_COUNT.OLD, Reg.LANE_STATUS.CHAIN_LATE, Reg.LANE_CRC32_ERR.SLOT, Reg.LANE_CODE_ERR.POS, Reg.LANE_LATE.SLOTS, Reg.LANE_LATE.FRAMES, Reg.LANE_EVENT.CHAIN_LATE]
theorem State.uplinkSlot_effect (s : State) (p1 : Nat) (p2 : Nat) (p3 : List Byte) :
    Effect State.uplinkSlot_touch State.uplinkSlot_fields s (@State.uplinkSlot s p1 p2 p3) := by
  unfold State.uplinkSlot
  extract_lets x1 x2
  have h3 : Effect State.uplinkSlot_touch State.uplinkSlot_fields s x2 := by
    refine Effect.after (State.bump_effect ..) (by decide +kernel) ?_
    exact Effect.refl _ _ _
  try clear_value x2
  try clear_value x1
  split
  · extract_lets x4
    try clear_value x4
    refine Effect.ite ?_ ?_
    · exact Effect.refl _ _ _
    · refine Effect.ite ?_ ?_
      · refine Effect.ite ?_ ?_
        · refine Effect.after (State.goodSlot_effect ..) (by decide +kernel) ?_
          exact Effect.refl _ _ _
        · refine Effect.after (State.bump_effect ..) (by decide +kernel) ?_
          exact Effect.refl _ _ _
      · refine Effect.ite ?_ ?_
        · refine Effect.after (State.modCell_effect ..) (by decide +kernel) ?_
          exact h3
        · exact h3
  · exact Effect.refl _ _ _

def State.deliver_touch : List Part := [.host, .load]
def State.deliver_fields : Option (List Field) := some []
theorem State.deliver_effect (s : State) (p1 : Nat) (p2 : List Byte) :
    Effect State.deliver_touch State.deliver_fields s (@State.deliver s p1 p2) := by
  unfold State.deliver
  extract_lets x1 x2 x3
  have h4 : Effect State.deliver_touch State.deliver_fields s x2 := by
    refine Effect.after (State.modLoad_effect ..) (by decide +kernel) ?_
    exact Effect.refl _ _ _
  try clear_value x2
  try clear_value x1 x3
  refine Effect.after (Effect.host _ _) (by decide +kernel) ?_
  exact h4

def State.takeImage_touch : List Part := [.power, .host, .load, .fr]
def State.takeImage_fields : Option (List Field) := some [Reg.FRAME_STATUS.RUNNING, Reg.IMAGE_STATUS.STATE, Reg.IMAGE_STATUS.SOURCE, Reg.IMAGE_STATUS.CODE, Reg.IMAGE_ERR_SECTION.INDEX, Reg.IMAGE_ERR_SECTION.TYPE, Reg.IMAGE_ERR_OFFSET.OFFSET, Reg.IMAGE_EVENT.DONE]
theorem State.takeImage_effect (s : State) (p1 : Nat) (p2 : List Byte) :
    Effect State.takeImage_touch State.takeImage_fields s (@State.takeImage s p1 p2) := by
  unfold State.takeImage
  extract_lets x1 x2 x3
  have h4 : Effect State.takeImage_touch State.takeImage_fields s x3 := by
    refine Effect.after (State.deliver_effect ..) (by decide +kernel) ?_
    exact Effect.refl _ _ _
  try clear_value x3
  try clear_value x1 x2
  refine Effect.ite ?_ ?_
  · exact Effect.refl _ _ _
  · refine Effect.ite ?_ ?_
    · refine Effect.after (State.beginLoad_effect ..) (by decide +kernel) ?_
      exact h4
    · exact h4

def State.quietTimeout_touch : List Part := []
def State.quietTimeout_fields : Option (List Field) := some [Reg.FAULT_STATE.CONTAINED, Reg.RECOVERY_COUNT.COUNT, Reg.FAULT_EVENT.RECOVERED]
theorem State.quietTimeout_effect (s : State) :
    Effect State.quietTimeout_touch State.quietTimeout_fields s (@State.quietTimeout s) := by
  unfold State.quietTimeout
  refine Effect.ite ?_ ?_
  · refine Effect.after (State.wr_effect ..) (by decide +kernel) ?_
    refine Effect.after (State.bump_effect ..) (by decide +kernel) ?_
    refine Effect.after (State.wr_effect ..) (by decide +kernel) ?_
    exact Effect.refl _ _ _
  · exact Effect.refl _ _ _

def State.holdLow_touch : List Part := [.wrHold]
def State.holdLow_fields : Option (List Field) := some []
theorem State.holdLow_effect (s : State) (p1 : Field) (p2 : Nat) (p3 : Nat) :
    Effect State.holdLow_touch State.holdLow_fields s (@State.holdLow s p1 p2 p3) := by
  unfold State.holdLow
  refine Effect.after (Effect.wrHold _ _ _) (by decide +kernel) ?_
  exact Effect.refl _ _ _

def State.startEntry_touch : List Part := [.power]
def State.startEntry_fields : Option (List Field) := some [Reg.POWER_ENTRY_STATUS.RESULT, Reg.POWER_ENTRY_STATUS.DOMAIN, Reg.POWER_ENTRY_STATUS.RETRIES]
theorem State.startEntry_effect (s : State) (p1 : EntryDomain) :
    Effect State.startEntry_touch State.startEntry_fields s (@State.startEntry s p1) := by
  unfold State.startEntry
  extract_lets x1
  have h2 : Effect State.startEntry_touch State.startEntry_fields s x1 := by
    refine Effect.after (State.modPower_effect ..) (by decide +kernel) ?_
    exact Effect.refl _ _ _
  try clear_value x1
  refine Effect.ite ?_ ?_
  · exact Effect.refl _ _ _
  · refine Effect.after (State.wr_effect ..) (by decide +kernel) ?_
    refine Effect.after (State.wr_effect ..) (by decide +kernel) ?_
    refine Effect.after (State.wr_effect ..) (by decide +kernel) ?_
    exact h2

def State.powerDormant_touch : List Part := [.power]
def State.powerDormant_fields : Option (List Field) := some [Reg.POWER_CTRL.DORMANT, Reg.POWER_ENTRY_STATUS.RESULT, Reg.POWER_ENTRY_STATUS.DOMAIN, Reg.POWER_ENTRY_STATUS.RETRIES]
theorem State.powerDormant_effect (s : State) (p1 : Nat) :
    Effect State.powerDormant_touch State.powerDormant_fields s (@State.powerDormant s p1) := by
  unfold State.powerDormant
  refine Effect.ite ?_ ?_
  · exact Effect.refl _ _ _
  · refine Effect.ite ?_ ?_
    · refine Effect.after (State.startEntry_effect ..) (by decide +kernel) ?_
      refine Effect.after (State.wr_effect ..) (by decide +kernel) ?_
      exact Effect.refl _ _ _
    · refine Effect.after (State.wr_effect ..) (by decide +kernel) ?_
      refine Effect.after (State.wr_effect ..) (by decide +kernel) ?_
      exact Effect.refl _ _ _

def State.tpoEnd_touch : List Part := [.safety]
def State.tpoEnd_fields : Option (List Field) := some []
theorem State.tpoEnd_effect (s : State) (p1 : Nat) :
    Effect State.tpoEnd_touch State.tpoEnd_fields s (@State.tpoEnd s p1) := by
  unfold State.tpoEnd
  extract_lets x1 x2 x3 x4
  have h5 : Effect State.tpoEnd_touch State.tpoEnd_fields s x4 := by
    refine Effect.after (Effect.safety _ _) (by decide +kernel) ?_
    exact Effect.refl _ _ _
  try clear_value x4
  try clear_value x1 x2 x3
  refine Effect.each ?_ ?_
  · exact h5
  · intro u6 a7
    try beta_reduce
    refine Effect.each ?_ ?_
    · exact Effect.refl _ _ _
    · intro u8 a9
      try beta_reduce
      refine Effect.ite ?_ ?_
      · refine Effect.after (State.modChan_effect ..) (by decide +kernel) ?_
        exact Effect.refl _ _ _
      · exact Effect.refl _ _ _

def State.commitReferee_touch : List Part := [.power, .engs]
def State.commitReferee_fields : Option (List Field) := some [Reg.DOMAIN_STATE.PLANE_A, Reg.DOMAIN_STATE.PLANE_B, Reg.POWER_PGOOD.PGOOD, Reg.REF_STATUS.ROLE_A, Reg.REF_STATUS.ROLE_B, Reg.REF_EVENT.UNFIT, Reg.ENG_STATUS.BALL, Reg.ENG_STATUS.SHADOW, Reg.ENG_STATUS.COLD, Reg.ENG_EXPORT.VALUE]
theorem State.commitReferee_effect (s : State) :
    Effect State.commitReferee_touch State.commitReferee_fields s (@State.commitReferee s) := by
  unfold State.commitReferee
  refine Effect.ite ?_ ?_
  · refine Effect.after (State.setRole_effect ..) (by decide +kernel) ?_
    refine Effect.after (State.setRole_effect ..) (by decide +kernel) ?_
    exact Effect.refl _ _ _
  · exact Effect.refl _ _ _

def State.idle_touch : List Part := [.time, .fr]
def State.idle_fields : Option (List Field) := some [Reg.TIME_STATUS.SLEWING, Reg.TIME_SLEW_REMAIN.VALUE]
theorem State.idle_effect (s : State) :
    Effect State.idle_touch State.idle_fields s (@State.idle s) := by
  unfold State.idle
  refine Effect.after (State.elapse_effect ..) (by decide +kernel) ?_
  exact Effect.refl _ _ _

def State.railTimeout_touch : List Part := [.hold, .wrHold, .power, .faults, .host, .load, .cfg, .fr, .images, .lanes, .chains, .cells, .arms, .engs, .convs, .referee, .pair, .journal, .adc, .drives, .motors, .safety, .eths, .canQueues, .cans, .out]
def State.railTimeout_fields : Option (List Field) := none
theorem State.railTimeout_effect (s : State) (p1 : Nat) (p2 : Nat) :
    Effect State.railTimeout_touch State.railTimeout_fields s (@State.railTimeout s p1 p2) := by
  unfold State.railTimeout
  refine Effect.ite ?_ ?_
  · exact Effect.refl _ _ _
  · refine Effect.ite ?_ ?_
    · refine Effect.after (State.deviceWakeFails_effect ..) (by decide +kernel) ?_
      exact Effect.refl _ _ _
    · refine Effect.ite ?_ ?_
      · refine Effect.after (State.wakeFails_effect ..) (by decide +kernel) ?_
        refine Effect.after (State.wakeFailNote_effect ..) (by decide +kernel) ?_
        exact Effect.refl _ _ _
      · refine Effect.ite ?_ ?_
        · refine Effect.after (State.wakeFailNote_effect ..) (by decide +kernel) ?_
          refine Effect.after (State.railsOff_effect ..) (by decide +kernel) ?_
          exact Effect.refl _ _ _
        · refine Effect.ite ?_ ?_
          · refine Effect.after (State.wakeFailNote_effect ..) (by decide +kernel) ?_
            exact Effect.refl _ _ _
          · exact Effect.refl _ _ _

def State.wakeTimeout_touch : List Part := [.hold, .wrHold, .power, .faults, .host, .load, .cfg, .fr, .images, .lanes, .chains, .cells, .arms, .engs, .convs, .referee, .pair, .journal, .adc, .drives, .motors, .safety, .eths, .canQueues, .cans, .out]
def State.wakeTimeout_fields : Option (List Field) := none
theorem State.wakeTimeout_effect (s : State) (p1 : Nat) (p2 : Nat) :
    Effect State.wakeTimeout_touch State.wakeTimeout_fields s (@State.wakeTimeout s p1 p2) := by
  unfold State.wakeTimeout
  split
  · refine Effect.after (State.railTimeout_effect ..) (by decide +kernel) ?_
    exact Effect.refl _ _ _
  · refine Effect.after (State.pllTimeout_effect ..) (by decide +kernel) ?_
    exact Effect.refl _ _ _
  · refine Effect.ite ?_ ?_
    · refine Effect.after (State.deviceWakeFails_effect ..) (by decide +kernel) ?_
      exact Effect.refl _ _ _
    · exact Effect.refl _ _ _
  · refine Effect.ite ?_ ?_
    · refine Effect.after (State.wakeFails_effect ..) (by decide +kernel) ?_
      exact Effect.refl _ _ _
    · exact Effect.refl _ _ _

def State.mismatch_touch : List Part := [.power, .faults, .engs, .referee]
def State.mismatch_fields : Option (List Field) := some [Reg.DOMAIN_STATE.PLANE_A, Reg.DOMAIN_STATE.PLANE_B, Reg.POWER_PGOOD.PGOOD, Reg.COLLECT_STATUS_LO.STATUS, Reg.COLLECT_STATUS_HI.STATUS, Reg.FAULT_COUNT_CORR.COUNT, Reg.FAULT_COUNT_CONT.COUNT, Reg.FAULT_COUNT_FATAL.COUNT, Reg.FAULT_EVENT.CORRECTED, Reg.FAULT_EVENT.CONTAINED, Reg.FAULT_EVENT.FATAL, Reg.FAULT_EVENT.HIST_LOST, Reg.FAULT_HIST_STATUS.LOST, Reg.REF_STATUS.STATE, Reg.REF_STATUS.ROLE_A, Reg.REF_STATUS.ROLE_B, Reg.REF_HT_STATUS.OUTCOME, Reg.REF_EVENT.UNFIT, Reg.ENG_STATUS.BALL, Reg.ENG_STATUS.SHADOW, Reg.ENG_STATUS.COLD, Reg.ENG_EXPORT.VALUE]
theorem State.mismatch_effect (s : State) :
    Effect State.mismatch_touch State.mismatch_fields s (@State.mismatch s) := by
  unfold State.mismatch
  refine Effect.ite ?_ ?_
  · exact Effect.refl _ _ _
  · refine Effect.after (State.endShadow_effect ..) (by decide +kernel) ?_
    refine Effect.after (State.raise_effect ..) (by decide +kernel) ?_
    exact Effect.refl _ _ _

def State.judgeShadow_touch : List Part := [.power, .faults, .engs, .referee]
def State.judgeShadow_fields : Option (List Field) := some [Reg.DOMAIN_STATE.PLANE_A, Reg.DOMAIN_STATE.PLANE_B, Reg.POWER_PGOOD.PGOOD, Reg.COLLECT_STATUS_LO.STATUS, Reg.COLLECT_STATUS_HI.STATUS, Reg.FAULT_COUNT_CORR.COUNT, Reg.FAULT_COUNT_CONT.COUNT, Reg.FAULT_COUNT_FATAL.COUNT, Reg.FAULT_EVENT.CORRECTED, Reg.FAULT_EVENT.CONTAINED, Reg.FAULT_EVENT.FATAL, Reg.FAULT_EVENT.HIST_LOST, Reg.FAULT_HIST_STATUS.LOST, Reg.REF_STATUS.STATE, Reg.REF_STATUS.ROLE_A, Reg.REF_STATUS.ROLE_B, Reg.REF_HT_STATUS.MATCHED, Reg.REF_HT_STATUS.OUTCOME, Reg.REF_EVENT.CANCEL, Reg.REF_EVENT.UNFIT, Reg.ENG_STATUS.BALL, Reg.ENG_STATUS.SHADOW, Reg.ENG_STATUS.COLD, Reg.ENG_EXPORT.VALUE]
theorem State.judgeShadow_effect (s : State) (p1 : Bool) (p2 : Bool) :
    Effect State.judgeShadow_touch State.judgeShadow_fields s (@State.judgeShadow s p1 p2) := by
  unfold State.judgeShadow
  extract_lets x1
  try clear_value x1
  refine Effect.ite ?_ ?_
  · refine Effect.when ?_ ?_
    · exact Effect.refl _ _ _
    · intro u2
      try beta_reduce
      refine Effect.after (State.cancelShadow_effect ..) (by decide +kernel) ?_
      exact Effect.refl _ _ _
  · refine Effect.ite ?_ ?_
    · refine Effect.after (State.mismatch_effect ..) (by decide +kernel) ?_
      exact Effect.refl _ _ _
    · refine Effect.ite ?_ ?_
      · refine Effect.after (State.cancelShadow_effect ..) (by decide +kernel) ?_
        exact Effect.refl _ _ _
      · refine Effect.after (State.wr_effect ..) (by decide +kernel) ?_
        exact Effect.refl _ _ _

def State.endPlane_touch : List Part := [.fr, .engs]
def State.endPlane_fields : Option (List Field) := some [Reg.TRK_STATUS.CTRL_HIWATER, Reg.ENG_STATUS.DONE, Reg.ENG_STATUS.STOPPED, Reg.ENG_CYCLES.LAST, Reg.ENG_CYCLES.MAX, Reg.ENG_EVENT.STOPPED]
theorem State.endPlane_effect (s : State) (p1 : Nat) :
    Effect State.endPlane_touch State.endPlane_fields s (@State.endPlane s p1) := by
  unfold State.endPlane
  refine Effect.each ?_ ?_
  · exact Effect.refl _ _ _
  · intro u1 a2
    try beta_reduce
    extract_lets x3 x4 x5 x6 x7 x8
    have h9 : Effect State.endPlane_touch State.endPlane_fields u1 x5 := by
      refine Effect.after (State.ctrlDone_effect ..) (by decide +kernel) ?_
      refine Effect.after (State.modEng_effect ..) (by decide +kernel) ?_
      exact Effect.refl _ _ _
    try clear_value x5
    have h10 : Effect State.endPlane_touch State.endPlane_fields u1 x7 := by
      refine Effect.after (State.wr_effect ..) (by decide +kernel) ?_
      refine Effect.after (State.wr_effect ..) (by decide +kernel) ?_
      refine Effect.after (State.wr_effect ..) (by decide +kernel) ?_
      exact h9
    try clear_value x7
    have h11 : Effect State.endPlane_touch State.endPlane_fields u1 x8 := by
      refine Effect.when ?_ ?_
      · exact h10
      · intro u12
        try beta_reduce
        extract_lets x14
        try clear_value x14
        refine Effect.after (Effect.fr _ _) (by decide +kernel) ?_
        exact Effect.refl _ _ _
    try clear_value x8
    try clear_value x3 x4 x6
    refine Effect.ite ?_ ?_
    · refine Effect.after (State.wr_effect ..) (by decide +kernel) ?_
      refine Effect.after (State.wr_effect ..) (by decide +kernel) ?_
      exact h11
    · split
      · refine Effect.after (State.modEng_effect ..) (by decide +kernel) ?_
        exact Effect.refl _ _ _
      · exact Effect.refl _ _ _

def State.endPlanes_touch : List Part := [.power, .faults, .fr, .engs, .referee]
def State.endPlanes_fields : Option (List Field) := some [Reg.DOMAIN_STATE.PLANE_A, Reg.DOMAIN_STATE.PLANE_B, Reg.POWER_PGOOD.PGOOD, Reg.COLLECT_STATUS_LO.STATUS, Reg.COLLECT_STATUS_HI.STATUS, Reg.FAULT_COUNT_CORR.COUNT, Reg.FAULT_COUNT_CONT.COUNT, Reg.FAULT_COUNT_FATAL.COUNT, Reg.FAULT_EVENT.CORRECTED, Reg.FAULT_EVENT.CONTAINED, Reg.FAULT_EVENT.FATAL, Reg.FAULT_EVENT.HIST_LOST, Reg.FAULT_HIST_STATUS.LOST, Reg.REF_STATUS.STATE, Reg.REF_STATUS.ROLE_A, Reg.REF_STATUS.ROLE_B, Reg.REF_HT_STATUS.MATCHED, Reg.REF_HT_STATUS.OUTCOME, Reg.REF_EVENT.CANCEL, Reg.REF_EVENT.UNFIT, Reg.OVERRUN_COUNT.COMPUTE, Reg.OVERRUN_LAST.FRAME, Reg.TRK_STATUS.CTRL_HIWATER, Reg.FRAME_EVENT.OVERRUN, Reg.ENG_STATUS.BALL, Reg.ENG_STATUS.SHADOW, Reg.ENG_STATUS.COLD, Reg.ENG_STATUS.DONE, Reg.ENG_STATUS.STOPPED, Reg.ENG_CYCLES.LAST, Reg.ENG_CYCLES.MAX, Reg.ENG_EVENT.STOPPED, Reg.ENG_EXPORT.VALUE]
theorem State.endPlanes_effect (s : State) (p1 : Bool) (p2 : Bool) :
    Effect State.endPlanes_touch State.endPlanes_fields s (@State.endPlanes s p1 p2) := by
  unfold State.endPlanes
  extract_lets x1 x2 x3 x4 x5 x6 x7
  have h8 : Effect State.endPlanes_touch State.endPlanes_fields s x4 := by
    refine Effect.after (State.judgeShadow_effect ..) (by decide +kernel) ?_
    exact Effect.refl _ _ _
  try clear_value x4
  have h9 : Effect State.endPlanes_touch State.endPlanes_fields s x5 := by
    refine Effect.when ?_ ?_
    · exact h8
    · intro u10
      try beta_reduce
      refine Effect.after (State.endPlane_effect ..) (by decide +kernel) ?_
      exact Effect.refl _ _ _
  try clear_value x5
  have h12 : Effect State.endPlanes_touch State.endPlanes_fields s x6 := by
    refine Effect.when ?_ ?_
    · exact h9
    · intro u13
      try beta_reduce
      refine Effect.after (State.endPlane_effect ..) (by decide +kernel) ?_
      exact Effect.refl _ _ _
  try clear_value x6
  have h15 : Effect State.endPlanes_touch State.endPlanes_fields s x7 := by
    refine Effect.when ?_ ?_
    · exact h12
    · intro u16
      try beta_reduce
      refine Effect.after (State.overrun_effect ..) (by decide +kernel) ?_
      refine Effect.after (State.modFr_effect ..) (by decide +kernel) ?_
      exact Effect.refl _ _ _
  try clear_value x7
  try clear_value x1 x2 x3
  refine Effect.after (State.modRef_effect ..) (by decide +kernel) ?_
  exact h15

def State.dormantEnter_touch : List Part := [.power, .fr, .lanes, .engs, .referee, .pair, .safety, .cans]
def State.dormantEnter_fields : Option (List Field) := some [Reg.DOMAIN_STATE.FABRIC, Reg.DOMAIN_STATE.PLANE_A, Reg.DOMAIN_STATE.PLANE_B, Reg.DOMAIN_STATE.LANE_PHY, Reg.DOMAIN_STATE.BB_PHY, Reg.DOMAIN_STATE.ANALOG, Reg.DOMAIN_STATE.DRAM_ACTIVE, Reg.DOMAIN_STATE.DRAM_SR, Reg.POWER_STATE.STATE, Reg.POWER_STATE.WAKE_SRC, Reg.POWER_STATE.WAKE_TRIES, Reg.POWER_PGOOD.PGOOD, Reg.REF_STATUS.STATE, Reg.REF_STATUS.ROLE_A, Reg.REF_STATUS.ROLE_B, Reg.REF_STATUS.LEASE, Reg.REF_EVENT.UNFIT, Reg.FRAME_STATUS.RUNNING, Reg.SAFE_STATUS.A_OK, Reg.SAFE_STATUS.B_OK, Reg.SAFE_STATUS.DIAG, Reg.SAFE_STATUS.DIAG_CAUSE, Reg.SAFE_STATUS.RESET_PIN, Reg.SAFE_STATUS.DEMAND, Reg.SAFE_STATUS.LOCKED, Reg.SAFE_STATUS.DIAG_A, Reg.SAFE_STATUS.DIAG_B, Reg.SAFE_GROUP.STATE, Reg.SAFE_GROUP.KIND, Reg.SAFE_GROUP.STOP, Reg.SAFE_GROUP.CAUSE, Reg.SAFE_GROUP.PAIRS, Reg.SAFE_PAIR.CH_A, Reg.SAFE_PAIR.CH_B, Reg.SAFE_PAIR.DEMAND, Reg.SAFE_PAIR.PAIR_FAULT, Reg.SAFE_PAIR.FAULT_CAUSE, Reg.SAFE_PAIR.DEMANDS, Reg.SAFE_TPO.EN, Reg.SAFE_TPO.READBACK_FAULT, Reg.SAFE_FIRE.FIRE_A, Reg.SAFE_FIRE.FIRE_B, Reg.SAFE_FIRE.DRV_A, Reg.SAFE_FIRE.DRV_B, Reg.SAFE_RESET_STATUS.ARMED, Reg.ENG_STATUS.BALL, Reg.ENG_STATUS.SHADOW, Reg.ENG_STATUS.COLD, Reg.ENG_EXPORT.VALUE, Reg.ADC_REF.EN, Reg.ADC_REF.READY, Reg.CAN_CTRL.MODE, Reg.CAN_STATUS.STATE, Reg.LANE_STATUS.SYNC, Reg.BB_STATUS.UP, Reg.BB_STATUS.TX_IDLE, Reg.BB_STATUS.CLOCK, Reg.BB_EVENT.EVENTS]
theorem State.dormantEnter_effect (s : State) (p1 : Option Nat) :
    Effect State.dormantEnter_touch State.dormantEnter_fields s (@State.dormantEnter s p1) := by
  unfold State.dormantEnter
  extract_lets x1 x2 x3 x4 x5 x6 x7 x8 x9 x10
  have h11 : Effect State.dormantEnter_touch State.dormantEnter_fields s x1 := by
    refine Effect.after (State.toSetup_effect ..) (by decide +kernel) ?_
    refine Effect.after (State.announceStop_effect ..) (by decide +kernel) ?_
    exact Effect.refl _ _ _
  try clear_value x1
  have h12 : Effect State.dormantEnter_touch State.dormantEnter_fields s x2 := by
    refine Effect.after (State.wr_effect ..) (by decide +kernel) ?_
    exact h11
  try clear_value x2
  have h13 : Effect State.dormantEnter_touch State.dormantEnter_fields s x4 := by
    refine Effect.after (Effect.fr_pair_cans ..) (by decide +kernel) ?_
    exact h12
  try clear_value x4
  have h14 : Effect State.dormantEnter_touch State.dormantEnter_fields s x5 := by
    refine Effect.each ?_ ?_
    · exact h13
    · intro u15 a16
      try beta_reduce
      refine Effect.after (State.modLane_effect ..) (by decide +kernel) ?_
      refine Effect.after (State.wr_effect ..) (by decide +kernel) ?_
      exact Effect.refl _ _ _
  try clear_value x5
  have h17 : Effect State.dormantEnter_touch State.dormantEnter_fields s x6 := by
    refine Effect.each ?_ ?_
    · exact h14
    · intro u18 a19
      try beta_reduce
      refine Effect.after (State.wr_effect ..) (by decide +kernel) ?_
      refine Effect.after (State.wr_effect ..) (by decide +kernel) ?_
      exact Effect.refl _ _ _
  try clear_value x6
  have h20 : Effect State.dormantEnter_touch State.dormantEnter_fields s x7 := by
    refine Effect.after (State.railsOff_effect ..) (by decide +kernel) ?_
    refine Effect.after (State.bbDown_effect ..) (by decide +kernel) ?_
    refine Effect.after (State.analogDown_effect ..) (by decide +kernel) ?_
    exact h17
  try clear_value x7
  have h21 : Effect State.dormantEnter_touch State.dormantEnter_fields s x8 := by
    refine Effect.after (State.wr_effect ..) (by decide +kernel) ?_
    refine Effect.after (State.wr_effect ..) (by decide +kernel) ?_
    refine Effect.after (State.wr_effect ..) (by decide +kernel) ?_
    exact h20
  try clear_value x8
  have h22 : Effect State.dormantEnter_touch State.dormantEnter_fields s x9 := by
    refine Effect.after (State.wr_effect ..) (by decide +kernel) ?_
    refine Effect.after (State.wr_effect ..) (by decide +kernel) ?_
    exact h21
  try clear_value x9
  have h23 : Effect State.dormantEnter_touch State.dormantEnter_fields s x10 := by
    refine Effect.after (State.showSafe_effect ..) (by decide +kernel) ?_
    exact h22
  try clear_value x10
  try clear_value x3
  split
  · refine Effect.after (State.dormantExitStart_effect ..) (by decide +kernel) ?_
    exact h23
  · refine Effect.ite ?_ ?_
    · refine Effect.after (State.dormantExitStart_effect ..) (by decide +kernel) ?_
      exact h23
    · exact h23

def State.halftimeNow_touch : List Part := [.referee]
def State.halftimeNow_fields : Option (List Field) := some []
theorem State.halftimeNow_effect (s : State) :
    Effect State.halftimeNow_touch State.halftimeNow_fields s (@State.halftimeNow s) := by
  unfold State.halftimeNow
  refine Effect.after (State.modRef_effect ..) (by decide +kernel) ?_
  exact Effect.refl _ _ _

def State.startFail_touch : List Part := [.faults, .drives, .motors]
def State.startFail_fields : Option (List Field) := some [Reg.COLLECT_STATUS_LO.STATUS, Reg.COLLECT_STATUS_HI.STATUS, Reg.FAULT_COUNT_CORR.COUNT, Reg.FAULT_COUNT_CONT.COUNT, Reg.FAULT_COUNT_FATAL.COUNT, Reg.FAULT_EVENT.CORRECTED, Reg.FAULT_EVENT.CONTAINED, Reg.FAULT_EVENT.FATAL, Reg.FAULT_EVENT.HIST_LOST, Reg.FAULT_HIST_STATUS.LOST, Reg.DRV_STATUS.LEG_FAULT, Reg.DRV_CARRIER_ACT.TOP, Reg.DRV_LEG_STATUS.CMP_ACT, Reg.DRV_LEG_STATUS.DESAT_HS, Reg.DRV_LEG_STATUS.DESAT_LS, Reg.DRV_LEG_STATUS.INSTANT, Reg.DRV_LEG_STATUS.VB_UV, Reg.DRV_LEG_STATUS.GATES_OFF, Reg.DRV_LEG_STATUS.MODE_ACT, Reg.MOT_STATE.STATE, Reg.MOT_COUNT.START_FAIL, Reg.MOT_EVENT.STATE, Reg.MOT_EVENT.OBS_LOST]
theorem State.startFail_effect (s : State) (p1 : Nat) :
    Effect State.startFail_touch State.startFail_fields s (@State.startFail s p1) := by
  unfold State.startFail
  split
  · refine Effect.ite ?_ ?_
    · refine Effect.after (State.motGates_effect ..) (by decide +kernel) ?_
      refine Effect.after (State.motTo_effect ..) (by decide +kernel) ?_
      refine Effect.after (State.bump_effect ..) (by decide +kernel) ?_
      exact Effect.refl _ _ _
    · exact Effect.refl _ _ _
  · exact Effect.refl _ _ _

def State.readbackFault_touch : List Part := [.convs, .safety]
def State.readbackFault_fields : Option (List Field) := some [Reg.SAFE_STATUS.A_OK, Reg.SAFE_STATUS.B_OK, Reg.SAFE_STATUS.DIAG, Reg.SAFE_STATUS.DIAG_CAUSE, Reg.SAFE_STATUS.RESET_PIN, Reg.SAFE_STATUS.DEMAND, Reg.SAFE_STATUS.LOCKED, Reg.SAFE_STATUS.DIAG_A, Reg.SAFE_STATUS.DIAG_B, Reg.SAFE_GROUP.STATE, Reg.SAFE_GROUP.KIND, Reg.SAFE_GROUP.STOP, Reg.SAFE_GROUP.CAUSE, Reg.SAFE_GROUP.PAIRS, Reg.SAFE_PAIR.CH_A, Reg.SAFE_PAIR.CH_B, Reg.SAFE_PAIR.DEMAND, Reg.SAFE_PAIR.PAIR_FAULT, Reg.SAFE_PAIR.FAULT_CAUSE, Reg.SAFE_PAIR.DEMANDS, Reg.SAFE_TPO.EN, Reg.SAFE_TPO.READBACK_FAULT, Reg.SAFE_FIRE.FIRE_A, Reg.SAFE_FIRE.FIRE_B, Reg.SAFE_FIRE.DRV_A, Reg.SAFE_FIRE.DRV_B, Reg.SAFE_RESET_STATUS.ARMED, Reg.SAFE_RESET_STATUS.RELEASED, Reg.SAFE_RESET_STATUS.REFUSED, Reg.SAFE_EVENT.DEMAND, Reg.SAFE_EVENT.STOPPING, Reg.SAFE_EVENT.REMOVED, Reg.SAFE_EVENT.PAIR_FAULT, Reg.SAFE_EVENT.RESET_REFUSED]
theorem State.readbackFault_effect (s : State) (p1 : Bool) (p2 : Nat) :
    Effect State.readbackFault_touch State.readbackFault_fields s (@State.readbackFault s p1 p2) := by
  unfold State.readbackFault
  extract_lets x1 x2 x3
  have h4 : Effect State.readbackFault_touch State.readbackFault_fields s x2 := by
    refine Effect.after (Effect.safety _ _) (by decide +kernel) ?_
    exact Effect.refl _ _ _
  try clear_value x2
  try clear_value x1 x3
  refine Effect.after (State.showSafe_effect ..) (by decide +kernel) ?_
  refine Effect.each ?_ ?_
  · exact h4
  · intro u5 a6
    try beta_reduce
    refine Effect.after (State.judgeUnit_effect ..) (by decide +kernel) ?_
    refine Effect.after (State.pairFault_effect ..) (by decide +kernel) ?_
    exact Effect.refl _ _ _

def State.tpoPulse_touch : List Part := [.convs, .safety]
def State.tpoPulse_fields : Option (List Field) := some [Reg.SAFE_STATUS.A_OK, Reg.SAFE_STATUS.B_OK, Reg.SAFE_STATUS.DIAG, Reg.SAFE_STATUS.DIAG_CAUSE, Reg.SAFE_STATUS.RESET_PIN, Reg.SAFE_STATUS.DEMAND, Reg.SAFE_STATUS.LOCKED, Reg.SAFE_STATUS.DIAG_A, Reg.SAFE_STATUS.DIAG_B, Reg.SAFE_GROUP.STATE, Reg.SAFE_GROUP.KIND, Reg.SAFE_GROUP.STOP, Reg.SAFE_GROUP.CAUSE, Reg.SAFE_GROUP.PAIRS, Reg.SAFE_PAIR.CH_A, Reg.SAFE_PAIR.CH_B, Reg.SAFE_PAIR.DEMAND, Reg.SAFE_PAIR.PAIR_FAULT, Reg.SAFE_PAIR.FAULT_CAUSE, Reg.SAFE_PAIR.DEMANDS, Reg.SAFE_TPO.EN, Reg.SAFE_TPO.READBACK_FAULT, Reg.SAFE_FIRE.FIRE_A, Reg.SAFE_FIRE.FIRE_B, Reg.SAFE_FIRE.DRV_A, Reg.SAFE_FIRE.DRV_B, Reg.SAFE_RESET_STATUS.ARMED, Reg.SAFE_RESET_STATUS.RELEASED, Reg.SAFE_RESET_STATUS.REFUSED, Reg.SAFE_EVENT.DEMAND, Reg.SAFE_EVENT.STOPPING, Reg.SAFE_EVENT.REMOVED, Reg.SAFE_EVENT.PAIR_FAULT, Reg.SAFE_EVENT.RESET_REFUSED]
theorem State.tpoPulse_effect (s : State) (p1 : Nat) (p2 : Bool) (p3 : Bool) (p4 : Bool) :
    Effect State.tpoPulse_touch State.tpoPulse_fields s (@State.tpoPulse s p1 p2 p3 p4) := by
  unfold State.tpoPulse
  extract_lets x1 x2 x3 x4 x5
  have h6 : Effect State.tpoPulse_touch State.tpoPulse_fields s x3 := by
    refine Effect.each ?_ ?_
    · exact Effect.refl _ _ _
    · intro u7 a8
      try beta_reduce
      refine Effect.after (State.tpoEnd_effect ..) (by decide +kernel) ?_
      exact Effect.refl _ _ _
  try clear_value x3
  try clear_value x4 x5
  refine Effect.ite ?_ ?_
  · exact Effect.refl _ _ _
  · refine Effect.ite ?_ ?_
    · split
      · exact Effect.refl _ _ _
      · try unfold x2
        try beta_reduce
        extract_lets x9
        have h10 : Effect State.tpoPulse_touch State.tpoPulse_fields s x9 := by
          refine Effect.ite ?_ ?_
          · refine Effect.after (State.readbackFault_effect ..) (by decide +kernel) ?_
            refine Effect.after (Effect.safety _ _) (by decide +kernel) ?_
            exact h6
          · refine Effect.after (State.readbackGood_effect ..) (by decide +kernel) ?_
            refine Effect.after (Effect.safety _ _) (by decide +kernel) ?_
            exact h6
        try clear_value x9
        refine Effect.ite ?_ ?_
        · refine Effect.after (State.readbackFault_effect ..) (by decide +kernel) ?_
          exact h10
        · refine Effect.after (State.readbackGood_effect ..) (by decide +kernel) ?_
          exact h10
    · refine Effect.ite ?_ ?_
      · try unfold x2
        try beta_reduce
        extract_lets x11
        have h12 : Effect State.tpoPulse_touch State.tpoPulse_fields s x11 := by
          refine Effect.ite ?_ ?_
          · refine Effect.after (State.readbackFault_effect ..) (by decide +kernel) ?_
            refine Effect.after (State.tpoEnd_effect ..) (by decide +kernel) ?_
            exact Effect.refl _ _ _
          · refine Effect.after (State.readbackGood_effect ..) (by decide +kernel) ?_
            refine Effect.after (State.tpoEnd_effect ..) (by decide +kernel) ?_
            exact Effect.refl _ _ _
        try clear_value x11
        refine Effect.ite ?_ ?_
        · refine Effect.after (State.readbackFault_effect ..) (by decide +kernel) ?_
          exact h12
        · refine Effect.after (State.readbackGood_effect ..) (by decide +kernel) ?_
          exact h12
      · exact Effect.refl _ _ _

def State.ctrlTimeout_touch : List Part := [.faults, .fr, .out]
def State.ctrlTimeout_fields : Option (List Field) := some [Reg.COLLECT_STATUS_LO.STATUS, Reg.COLLECT_STATUS_HI.STATUS, Reg.FAULT_COUNT_CORR.COUNT, Reg.FAULT_COUNT_CONT.COUNT, Reg.FAULT_COUNT_FATAL.COUNT, Reg.FAULT_EVENT.CORRECTED, Reg.FAULT_EVENT.CONTAINED, Reg.FAULT_EVENT.FATAL, Reg.FAULT_EVENT.HIST_LOST, Reg.FAULT_HIST_STATUS.LOST, Reg.TRK_STATUS.CTRL_HIWATER, Reg.TRK_TIMEOUT_COUNT.TIMEOUTS]
theorem State.ctrlTimeout_effect (s : State) (p1 : Nat) (p2 : Nat) (p3 : Nat) :
    Effect State.ctrlTimeout_touch State.ctrlTimeout_fields s (@State.ctrlTimeout s p1 p2 p3) := by
  unfold State.ctrlTimeout
  extract_lets x1 x2
  have h3 : Effect State.ctrlTimeout_touch State.ctrlTimeout_fields s x2 := by
    unfold x2
    split
    · refine Effect.after (State.ctrlAdmit_effect ..) (by decide +kernel) ?_
      refine Effect.after (State.modFr_effect ..) (by decide +kernel) ?_
      exact Effect.refl _ _ _
    · exact Effect.refl _ _ _
  try clear_value x2
  refine Effect.ite ?_ ?_
  · exact Effect.refl _ _ _
  · refine Effect.after (State.raise_effect ..) (by decide +kernel) ?_
    refine Effect.after (State.bump_effect ..) (by decide +kernel) ?_
    refine Effect.after (State.emit_effect ..) (by decide +kernel) ?_
    exact h3

def State.hkItem_touch : List Part := [.power, .faults]
def State.hkItem_fields : Option (List Field) := some [Reg.COLLECT_STATUS_LO.STATUS, Reg.COLLECT_STATUS_HI.STATUS, Reg.FAULT_COUNT_CORR.COUNT, Reg.FAULT_COUNT_CONT.COUNT, Reg.FAULT_COUNT_FATAL.COUNT, Reg.FAULT_EVENT.CORRECTED, Reg.FAULT_EVENT.CONTAINED, Reg.FAULT_EVENT.FATAL, Reg.FAULT_EVENT.HIST_LOST, Reg.FAULT_HIST_STATUS.LOST, Reg.ADC_EVENT.HK_FLAG, Reg.ADC_HK.VALUE, Reg.ADC_HK.VALID, Reg.ADC_HK.OPEN, Reg.ADC_HK.SHORT, Reg.ADC_HK.RANGE]
theorem State.hkItem_effect (s : State) (p1 : Nat) (p2 : Nat × Bool × Bool) :
    Effect State.hkItem_touch State.hkItem_fields s (@State.hkItem s p1 p2) := by
  unfold State.hkItem
  extract_lets x1 x2 x3 x4 x5 x6 x7 x8 x9 x10 x11 x12
  have h13 : Effect State.hkItem_touch State.hkItem_fields s x8 := by
    refine Effect.when ?_ ?_
    · exact Effect.refl _ _ _
    · intro u14
      try beta_reduce
      refine Effect.after (State.wr_effect ..) (by decide +kernel) ?_
      exact Effect.refl _ _ _
  try clear_value x8
  have h16 : Effect State.hkItem_touch State.hkItem_fields s x9 := by
    refine Effect.when ?_ ?_
    · exact h13
    · intro u17
      try beta_reduce
      refine Effect.after (State.raise_effect ..) (by decide +kernel) ?_
      exact Effect.refl _ _ _
  try clear_value x9
  have h19 : Effect State.hkItem_touch State.hkItem_fields s x11 := by
    refine Effect.after (Effect.power _ _) (by decide +kernel) ?_
    exact h16
  try clear_value x11
  have h20 : Effect State.hkItem_touch State.hkItem_fields s x12 := by
    refine Effect.after (State.wr_effect ..) (by decide +kernel) ?_
    refine Effect.after (State.wr_effect ..) (by decide +kernel) ?_
    exact h19
  try clear_value x12
  try clear_value x1 x2 x3 x4 x5 x6 x7 x10
  refine Effect.after (State.wr_effect ..) (by decide +kernel) ?_
  refine Effect.after (State.wr_effect ..) (by decide +kernel) ?_
  refine Effect.after (State.wr_effect ..) (by decide +kernel) ?_
  exact h20

def State.hkReference_touch : List Part := [.faults, .adc]
def State.hkReference_fields : Option (List Field) := some [Reg.COLLECT_STATUS_LO.STATUS, Reg.COLLECT_STATUS_HI.STATUS, Reg.FAULT_COUNT_CORR.COUNT, Reg.FAULT_COUNT_CONT.COUNT, Reg.FAULT_COUNT_FATAL.COUNT, Reg.FAULT_EVENT.CORRECTED, Reg.FAULT_EVENT.CONTAINED, Reg.FAULT_EVENT.FATAL, Reg.FAULT_EVENT.HIST_LOST, Reg.FAULT_HIST_STATUS.LOST, Reg.ADC_REF.FAULT, Reg.ADC_EVENT.REF_FAULT]
theorem State.hkReference_effect (s : State) :
    Effect State.hkReference_touch State.hkReference_fields s (@State.hkReference s) := by
  unfold State.hkReference
  extract_lets x1 x2 x3 x4 x5
  have h6 : Effect State.hkReference_touch State.hkReference_fields s x3 := by
    refine Effect.after (Effect.adc _ _) (by decide +kernel) ?_
    exact Effect.refl _ _ _
  try clear_value x3
  have h7 : Effect State.hkReference_touch State.hkReference_fields s x5 := by
    refine Effect.after (Effect.adc _ _) (by decide +kernel) ?_
    exact Effect.refl _ _ _
  try clear_value x5
  try clear_value x1 x2 x4
  refine Effect.ite ?_ ?_
  · refine Effect.ite ?_ ?_
    · exact h6
    · refine Effect.after (State.raise_effect ..) (by decide +kernel) ?_
      refine Effect.after (State.wr_effect ..) (by decide +kernel) ?_
      refine Effect.after (State.wr_effect ..) (by decide +kernel) ?_
      exact h6
  · refine Effect.ite ?_ ?_
    · refine Effect.after (State.wr_effect ..) (by decide +kernel) ?_
      exact h7
    · exact h7

def State.hkReadings_touch : List Part := [.power, .faults, .adc]
def State.hkReadings_fields : Option (List Field) := some [Reg.COLLECT_STATUS_LO.STATUS, Reg.COLLECT_STATUS_HI.STATUS, Reg.FAULT_COUNT_CORR.COUNT, Reg.FAULT_COUNT_CONT.COUNT, Reg.FAULT_COUNT_FATAL.COUNT, Reg.FAULT_EVENT.CORRECTED, Reg.FAULT_EVENT.CONTAINED, Reg.FAULT_EVENT.FATAL, Reg.FAULT_EVENT.HIST_LOST, Reg.FAULT_HIST_STATUS.LOST, Reg.ADC_REF.FAULT, Reg.ADC_EVENT.REF_FAULT, Reg.ADC_EVENT.HK_FLAG, Reg.ADC_HK.VALUE, Reg.ADC_HK.VALID, Reg.ADC_HK.OPEN, Reg.ADC_HK.SHORT, Reg.ADC_HK.RANGE, Reg.ADC_HK_ROUND.COUNT]
theorem State.hkReadings_effect (s : State) (p1 : List (Nat × Bool × Bool)) :
    Effect State.hkReadings_touch State.hkReadings_fields s (@State.hkReadings s p1) := by
  unfold State.hkReadings
  extract_lets x1 x2
  have h3 : Effect State.hkReadings_touch State.hkReadings_fields s x1 := by
    refine Effect.each ?_ ?_
    · exact Effect.refl _ _ _
    · intro u4 a5
      try beta_reduce
      refine Effect.after (State.hkItem_effect ..) (by decide +kernel) ?_
      exact Effect.refl _ _ _
  try clear_value x1
  try clear_value x2
  split
  · exact Effect.refl _ _ _
  · extract_lets x6
    have h7 : Effect State.hkReadings_touch State.hkReadings_fields s x6 := by
      refine Effect.after (Effect.adc _ _) (by decide +kernel) ?_
      exact h3
    try clear_value x6
    refine Effect.after (State.hkReference_effect ..) (by decide +kernel) ?_
    refine Effect.after (State.bump_effect ..) (by decide +kernel) ?_
    exact h7

def State.tryNext_touch : List Part := [.power, .host, .load, .fr]
def State.tryNext_fields : Option (List Field) := some [Reg.FRAME_STATUS.RUNNING, Reg.IMAGE_STATUS.STATE, Reg.IMAGE_STATUS.SOURCE, Reg.IMAGE_STATUS.CODE, Reg.IMAGE_ERR_SECTION.INDEX, Reg.IMAGE_ERR_SECTION.TYPE, Reg.IMAGE_ERR_OFFSET.OFFSET, Reg.IMAGE_PRIMARY_CODE.CODE, Reg.IMAGE_EVENT.DONE]
theorem State.tryNext_effect (s : State) :
    Effect State.tryNext_touch State.tryNext_fields s (@State.tryNext s) := by
  unfold State.tryNext
  extract_lets x1
  have h2 : Effect State.tryNext_touch State.tryNext_fields s x1 := by
    refine Effect.after (State.nextSource_effect ..) (by decide +kernel) ?_
    exact Effect.refl _ _ _
  try clear_value x1
  refine Effect.ite ?_ ?_
  · refine Effect.after (State.beginLoad_effect ..) (by decide +kernel) ?_
    exact h2
  · exact h2

def State.imageLoad_touch : List Part := [.power, .host, .load, .fr]
def State.imageLoad_fields : Option (List Field) := some [Reg.FRAME_STATUS.RUNNING, Reg.IMAGE_CTRL.SRC, Reg.IMAGE_STATUS.STATE, Reg.IMAGE_STATUS.SOURCE, Reg.IMAGE_STATUS.CODE, Reg.IMAGE_ERR_SECTION.INDEX, Reg.IMAGE_ERR_SECTION.TYPE, Reg.IMAGE_ERR_OFFSET.OFFSET, Reg.IMAGE_PRIMARY_CODE.CODE, Reg.IMAGE_EVENT.DONE]
theorem State.imageLoad_effect (s : State) (p1 : Nat) :
    Effect State.imageLoad_touch State.imageLoad_fields s (@State.imageLoad s p1) := by
  unfold State.imageLoad
  extract_lets x1 x2
  have h3 : Effect State.imageLoad_touch State.imageLoad_fields s x1 := by
    refine Effect.after (State.wr_effect ..) (by decide +kernel) ?_
    exact Effect.refl _ _ _
  try clear_value x1
  have h4 : Effect State.imageLoad_touch State.imageLoad_fields s x2 := by
    refine Effect.after (State.beginLoad_effect ..) (by decide +kernel) ?_
    exact h3
  try clear_value x2
  refine Effect.ite ?_ ?_
  · exact h3
  · refine Effect.ite ?_ ?_
    · exact h4
    · refine Effect.after (State.tryNext_effect ..) (by decide +kernel) ?_
      exact h4

def State.callupLaunch_touch : List Part := [.lanes, .chains, .out]
def State.callupLaunch_fields : Option (List Field) := some [Reg.LANE_CHAIN.LOOPED]
theorem State.callupLaunch_effect (s : State) (p1 : ChainCfg) (p2 : Bool) :
    Effect State.callupLaunch_touch State.callupLaunch_fields s (@State.callupLaunch s p1 p2) := by
  unfold State.callupLaunch
  extract_lets x1 x2 x3
  try clear_value x1 x2 x3
  refine Effect.ite ?_ ?_
  · exact Effect.refl _ _ _
  · split
    · extract_lets x4
      have h5 : Effect State.callupLaunch_touch State.callupLaunch_fields s x4 := by
        refine Effect.after (State.modChain_effect ..) (by decide +kernel) ?_
        exact Effect.refl _ _ _
      try clear_value x4
      refine Effect.after (State.launch_effect ..) (by decide +kernel) ?_
      exact h5
    · split
      · extract_lets x6
        try clear_value x6
        refine Effect.after (State.launch_effect ..) (by decide +kernel) ?_
        refine Effect.after (State.modLane_effect ..) (by decide +kernel) ?_
        exact Effect.refl _ _ _
      · exact Effect.refl _ _ _

def State.keepOnlyExit_touch : List Part := [.power]
def State.keepOnlyExit_fields : Option (List Field) := some [Reg.DOMAIN_STATE.FABRIC, Reg.DOMAIN_STATE.LANE_PHY, Reg.DOMAIN_STATE.BB_PHY, Reg.DOMAIN_STATE.ANALOG, Reg.DOMAIN_STATE.DRAM_ACTIVE, Reg.DOMAIN_STATE.DRAM_SR, Reg.POWER_STATE.WAKE_SRC, Reg.POWER_STATE.WAKE_TRIES, Reg.POWER_PGOOD.PGOOD, Reg.RESET_CAUSE.CAUSE, Reg.RESET_CAUSE.COUNT]
theorem State.keepOnlyExit_effect (s : State) :
    Effect State.keepOnlyExit_touch State.keepOnlyExit_fields s (@State.keepOnlyExit s) := by
  unfold State.keepOnlyExit
  extract_lets x1 x2 x3 x4
  have h5 : Effect State.keepOnlyExit_touch State.keepOnlyExit_fields s x3 := by
    refine Effect.after (State.wr_effect ..) (by decide +kernel) ?_
    refine Effect.after (State.wr_effect ..) (by decide +kernel) ?_
    exact Effect.refl _ _ _
  try clear_value x3
  have h6 : Effect State.keepOnlyExit_touch State.keepOnlyExit_fields s x4 := by
    refine Effect.when ?_ ?_
    · exact h5
    · intro u7
      try beta_reduce
      refine Effect.after (State.resetLatched_effect ..) (by decide +kernel) ?_
      exact Effect.refl _ _ _
  try clear_value x4
  try clear_value x1 x2
  refine Effect.ite ?_ ?_
  · exact Effect.refl _ _ _
  · refine Effect.after (State.kickFrom2_effect ..) (by decide +kernel) ?_
    refine Effect.after (State.modPower_effect ..) (by decide +kernel) ?_
    exact h6

def State.drvSync_touch : List Part := [.drives]
def State.drvSync_fields : Option (List Field) := some [Reg.DRV_LOAD_STATUS.SYNC_IGNORED, Reg.DRV_SYNC.UNITS]
theorem State.drvSync_effect (s : State) (p1 : Nat) :
    Effect State.drvSync_touch State.drvSync_fields s (@State.drvSync s p1) := by
  unfold State.drvSync
  extract_lets x1 x2
  try clear_value x1 x2
  refine Effect.each ?_ ?_
  · exact Effect.refl _ _ _
  · intro u3 a4
    try beta_reduce
    refine Effect.ite ?_ ?_
    · refine Effect.after (State.wrBit_effect ..) (by decide +kernel) ?_
      refine Effect.after (State.wrBit_effect ..) (by decide +kernel) ?_
      refine Effect.after (State.modDrv_effect ..) (by decide +kernel) ?_
      exact Effect.refl _ _ _
    · refine Effect.after (State.wrBit_effect ..) (by decide +kernel) ?_
      exact Effect.refl _ _ _

def State.latchUnit_touch : List Part := [.faults, .drives, .motors]
def State.latchUnit_fields : Option (List Field) := some [Reg.COLLECT_STATUS_LO.STATUS, Reg.COLLECT_STATUS_HI.STATUS, Reg.FAULT_COUNT_CORR.COUNT, Reg.FAULT_COUNT_CONT.COUNT, Reg.FAULT_COUNT_FATAL.COUNT, Reg.FAULT_EVENT.CORRECTED, Reg.FAULT_EVENT.CONTAINED, Reg.FAULT_EVENT.FATAL, Reg.FAULT_EVENT.HIST_LOST, Reg.FAULT_HIST_STATUS.LOST, Reg.DRV_STATUS.LATCHED, Reg.DRV_STATUS.LATCH_CAUSE, Reg.DRV_STATUS.LEG_FAULT, Reg.DRV_CARRIER_ACT.TOP, Reg.DRV_LEG_STATUS.CMP_ACT, Reg.DRV_LEG_STATUS.DESAT_HS, Reg.DRV_LEG_STATUS.DESAT_LS, Reg.DRV_LEG_STATUS.INSTANT, Reg.DRV_LEG_STATUS.VB_UV, Reg.DRV_LEG_STATUS.GATES_OFF, Reg.DRV_LEG_STATUS.MODE_ACT, Reg.DRV_EVENT.LATCH, Reg.MOT_STATE.STATE, Reg.MOT_EVENT.STATE, Reg.MOT_EVENT.OBS_LOST]
theorem State.latchUnit_effect (s : State) (p1 : Nat) (p2 : Nat) :
    Effect State.latchUnit_touch State.latchUnit_fields s (@State.latchUnit s p1 p2) := by
  unfold State.latchUnit
  extract_lets x1 x2 x3
  have h4 : Effect State.latchUnit_touch State.latchUnit_fields s x1 := by
    refine Effect.after (State.driveUnit_effect ..) (by decide +kernel) ?_
    refine Effect.after (State.modDrv_effect ..) (by decide +kernel) ?_
    exact Effect.refl _ _ _
  try clear_value x1
  have h5 : Effect State.latchUnit_touch State.latchUnit_fields s x3 := by
    refine Effect.each ?_ ?_
    · exact h4
    · intro u6 a7
      try beta_reduce
      refine Effect.after (State.modLeg_effect ..) (by decide +kernel) ?_
      exact Effect.refl _ _ _
  try clear_value x3
  try clear_value x2
  refine Effect.ite ?_ ?_
  · exact Effect.refl _ _ _
  · refine Effect.after (State.showLatch_effect ..) (by decide +kernel) ?_
    exact h5

def State.trip_touch : List Part := [.faults, .drives, .motors]
def State.trip_fields : Option (List Field) := some [Reg.COLLECT_STATUS_LO.STATUS, Reg.COLLECT_STATUS_HI.STATUS, Reg.FAULT_COUNT_CORR.COUNT, Reg.FAULT_COUNT_CONT.COUNT, Reg.FAULT_COUNT_FATAL.COUNT, Reg.FAULT_EVENT.CORRECTED, Reg.FAULT_EVENT.CONTAINED, Reg.FAULT_EVENT.FATAL, Reg.FAULT_EVENT.HIST_LOST, Reg.FAULT_HIST_STATUS.LOST, Reg.DRV_STATUS.LATCHED, Reg.DRV_STATUS.LATCH_CAUSE, Reg.DRV_STATUS.LEG_FAULT, Reg.DRV_CARRIER_ACT.TOP, Reg.DRV_LEG_STATUS.CMP_ACT, Reg.DRV_LEG_STATUS.DESAT_HS, Reg.DRV_LEG_STATUS.DESAT_LS, Reg.DRV_LEG_STATUS.INSTANT, Reg.DRV_LEG_STATUS.VB_UV, Reg.DRV_LEG_STATUS.INPUT_ACTIVE, Reg.DRV_LEG_STATUS.GATES_OFF, Reg.DRV_LEG_STATUS.MODE_ACT, Reg.DRV_TRIP.COUNT, Reg.DRV_TRIP.LAST_LEG, Reg.DRV_TRIP.LAST_CAUSE, Reg.DRV_TRIP_NS_LO.NS, Reg.DRV_TRIP_NS_HI.NS, Reg.DRV_EVENT.TRIP, Reg.DRV_EVENT.LATCH, Reg.MOT_STATE.STATE, Reg.MOT_EVENT.STATE, Reg.MOT_EVENT.OBS_LOST]
theorem State.trip_effect (s : State) (p1 : Nat) (p2 : Nat) (p3 : Nat) :
    Effect State.trip_touch State.trip_fields s (@State.trip s p1 p2 p3) := by
  unfold State.trip
  extract_lets x1 x2 x3 x4 x5 x6 x7 x8
  have h9 : Effect State.trip_touch State.trip_fields s x1 := by
    refine Effect.after (State.modLeg_effect ..) (by decide +kernel) ?_
    exact Effect.refl _ _ _
  try clear_value x1
  have h10 : Effect State.trip_touch State.trip_fields s x2 := by
    refine Effect.after (State.seeInputs_effect ..) (by decide +kernel) ?_
    exact h9
  try clear_value x2
  have h11 : Effect State.trip_touch State.trip_fields s x3 := by
    refine Effect.after (State.driveLeg_effect ..) (by decide +kernel) ?_
    refine Effect.after (State.showLegFaults_effect ..) (by decide +kernel) ?_
    exact h10
  try clear_value x3
  have h12 : Effect State.trip_touch State.trip_fields s x6 := by
    refine Effect.after (State.modDrv_effect ..) (by decide +kernel) ?_
    exact h11
  try clear_value x6
  have h13 : Effect State.trip_touch State.trip_fields s x8 := by
    refine Effect.ite ?_ ?_
    · refine Effect.after (State.tripReport_effect ..) (by decide +kernel) ?_
      exact h12
    · refine Effect.after (State.modDrv_effect ..) (by decide +kernel) ?_
      exact h12
  try clear_value x8
  try clear_value x4 x5 x7
  refine Effect.when ?_ ?_
  · exact h13
  · intro u14
    try beta_reduce
    refine Effect.after (State.latchUnit_effect ..) (by decide +kernel) ?_
    exact Effect.refl _ _ _

def State.tripSeen_touch : List Part := [.faults, .drives, .motors]
def State.tripSeen_fields : Option (List Field) := some [Reg.COLLECT_STATUS_LO.STATUS, Reg.COLLECT_STATUS_HI.STATUS, Reg.FAULT_COUNT_CORR.COUNT, Reg.FAULT_COUNT_CONT.COUNT, Reg.FAULT_COUNT_FATAL.COUNT, Reg.FAULT_EVENT.CORRECTED, Reg.FAULT_EVENT.CONTAINED, Reg.FAULT_EVENT.FATAL, Reg.FAULT_EVENT.HIST_LOST, Reg.FAULT_HIST_STATUS.LOST, Reg.DRV_STATUS.LATCHED, Reg.DRV_STATUS.LATCH_CAUSE, Reg.DRV_STATUS.LEG_FAULT, Reg.DRV_CARRIER_ACT.TOP, Reg.DRV_LEG_STATUS.CMP_ACT, Reg.DRV_LEG_STATUS.DESAT_HS, Reg.DRV_LEG_STATUS.DESAT_LS, Reg.DRV_LEG_STATUS.INSTANT, Reg.DRV_LEG_STATUS.VB_UV, Reg.DRV_LEG_STATUS.INPUT_ACTIVE, Reg.DRV_LEG_STATUS.GATES_OFF, Reg.DRV_LEG_STATUS.MODE_ACT, Reg.DRV_TRIP.COUNT, Reg.DRV_TRIP.LAST_LEG, Reg.DRV_TRIP.LAST_CAUSE, Reg.DRV_TRIP_NS_LO.NS, Reg.DRV_TRIP_NS_HI.NS, Reg.DRV_EVENT.TRIP, Reg.DRV_EVENT.LATCH, Reg.MOT_STATE.STATE, Reg.MOT_STATE.CHOP_FAULT, Reg.MOT_BUS.CHOP_D, Reg.MOT_COUNT.CHOP_FAULTS, Reg.MOT_EVENT.STATE, Reg.MOT_EVENT.OBS_LOST, Reg.MOT_EVENT.CHOP_FAULT]
theorem State.tripSeen_effect (s : State) (p1 : Nat) (p2 : Nat) (p3 : Nat) (p4 : Nat) :
    Effect State.tripSeen_touch State.tripSeen_fields s (@State.tripSeen s p1 p2 p3 p4) := by
  unfold State.tripSeen
  extract_lets x1
  have h2 : Effect State.tripSeen_touch State.tripSeen_fields s x1 := by
    refine Effect.after (State.seeInputs_effect ..) (by decide +kernel) ?_
    refine Effect.after (State.trip_effect ..) (by decide +kernel) ?_
    exact Effect.refl _ _ _
  try clear_value x1
  refine Effect.when ?_ ?_
  · exact h2
  · intro u3
    try beta_reduce
    refine Effect.after (State.motTrip_effect ..) (by decide +kernel) ?_
    exact Effect.refl _ _ _

def State.fixShadow_touch : List Part := [.engs, .referee]
def State.fixShadow_fields : Option (List Field) := some [Reg.ENG_EXPORT.VALUE]
theorem State.fixShadow_effect (s : State) :
    Effect State.fixShadow_touch State.fixShadow_fields s (@State.fixShadow s) := by
  unfold State.fixShadow
  extract_lets x1 x2 x3
  have h4 : Effect State.fixShadow_touch State.fixShadow_fields s x3 := by
    refine Effect.each ?_ ?_
    · exact Effect.refl _ _ _
    · intro u5 a6
      try beta_reduce
      refine Effect.after (State.modEng_effect ..) (by decide +kernel) ?_
      exact Effect.refl _ _ _
  try clear_value x3
  try clear_value x1 x2
  split
  · exact Effect.refl _ _ _
  · refine Effect.ite ?_ ?_
    · exact Effect.refl _ _ _
    · refine Effect.after (State.modRef_effect ..) (by decide +kernel) ?_
      refine Effect.after (State.showExports_effect ..) (by decide +kernel) ?_
      exact h4

def State.speedCommand_touch : List Part := [.motors]
def State.speedCommand_fields : Option (List Field) := some [Reg.MOT_STATE.SIGNAL_LOST, Reg.MOT_STATE.CURVE_ON, Reg.MOT_STATE.SHED, Reg.MOT_CMD.CMD, Reg.MOT_INPUT.VALUE]
theorem State.speedCommand_effect (s : State) (p1 : Nat) (p2 : MotCfg) :
    Effect State.speedCommand_touch State.speedCommand_fields s (@State.speedCommand s p1 p2) := by
  unfold State.speedCommand
  split
  · split
    · extract_lets x1 x2 x3 x4 x5 x6 x7
      have h8 : Effect State.speedCommand_touch State.speedCommand_fields s x2 := by
        refine Effect.after (State.modMot_effect ..) (by decide +kernel) ?_
        exact Effect.refl _ _ _
      try clear_value x2
      have h9 : Effect State.speedCommand_touch State.speedCommand_fields s x3 := by
        refine Effect.when ?_ ?_
        · exact h8
        · intro u10
          try beta_reduce
          refine Effect.after (State.wr_effect ..) (by decide +kernel) ?_
          exact Effect.refl _ _ _
      try clear_value x3
      have h12 : Effect State.speedCommand_touch State.speedCommand_fields s x4 := by
        refine Effect.when ?_ ?_
        · exact h9
        · intro u13
          try beta_reduce
          refine Effect.after (State.wr_effect ..) (by decide +kernel) ?_
          exact Effect.refl _ _ _
      try clear_value x4
      have h15 : Effect State.speedCommand_touch State.speedCommand_fields s x5 := by
        refine Effect.after (State.wrS_effect ..) (by decide +kernel) ?_
        exact h12
      try clear_value x5
      try clear_value x1 x6 x7
      refine Effect.after (State.wrS_effect ..) (by decide +kernel) ?_
      refine Effect.after (State.wr_effect ..) (by decide +kernel) ?_
      exact h15

def State.motRamp_touch : List Part := [.motors]
def State.motRamp_fields : Option (List Field) := some [Reg.MOT_STATE.VLIMIT, Reg.MOT_SPEED.REF, Reg.MOT_EVENT.VLIMIT]
theorem State.motRamp_effect (s : State) (p1 : Nat) (p2 : MotCfg) (p3 : Int) :
    Effect State.motRamp_touch State.motRamp_fields s (@State.motRamp s p1 p2 p3) := by
  unfold State.motRamp
  extract_lets x1 x2
  have h3 : Effect State.motRamp_touch State.motRamp_fields s x2 := by
    refine Effect.after (State.rampTo_effect ..) (by decide +kernel) ?_
    exact Effect.refl _ _ _
  try clear_value x2
  try clear_value x1
  split
  · refine Effect.after (State.rampTo_effect ..) (by decide +kernel) ?_
    exact Effect.refl _ _ _
  · refine Effect.when ?_ ?_
    · exact h3
    · intro u4
      try beta_reduce
      refine Effect.after (State.modMot_effect ..) (by decide +kernel) ?_
      exact Effect.refl _ _ _
  · refine Effect.after (State.rampTo_effect ..) (by decide +kernel) ?_
    exact Effect.refl _ _ _
  · refine Effect.after (State.wr_effect ..) (by decide +kernel) ?_
    exact Effect.refl _ _ _
  · refine Effect.after (State.rampTo_effect ..) (by decide +kernel) ?_
    exact Effect.refl _ _ _

def State.probe_touch : List Part := [.drives]
def State.probe_fields : Option (List Field) := some [Reg.DRV_STATUS.LEG_FAULT, Reg.DRV_LEG_STATUS.DESAT_HS, Reg.DRV_LEG_STATUS.DESAT_LS, Reg.DRV_LEG_STATUS.INSTANT, Reg.DRV_LEG_STATUS.VB_UV, Reg.DRV_LEG_STATUS.GATES_OFF]
theorem State.probe_effect (s : State) (p1 : Nat) (p2 : MotCfg) :
    Effect State.probe_touch State.probe_fields s (@State.probe s p1 p2) := by
  unfold State.probe
  refine Effect.each ?_ ?_
  · refine Effect.after (State.modDrv_effect ..) (by decide +kernel) ?_
    exact Effect.refl _ _ _
  · intro u1 a2
    try beta_reduce
    refine Effect.after (State.command_effect ..) (by decide +kernel) ?_
    exact Effect.refl _ _ _

def State.motorRun_touch : List Part := [.faults, .drives, .motors, .drawn]
def State.motorRun_fields : Option (List Field) := some [Reg.COLLECT_STATUS_LO.STATUS, Reg.COLLECT_STATUS_HI.STATUS, Reg.FAULT_COUNT_CORR.COUNT, Reg.FAULT_COUNT_CONT.COUNT, Reg.FAULT_COUNT_FATAL.COUNT, Reg.FAULT_EVENT.CORRECTED, Reg.FAULT_EVENT.CONTAINED, Reg.FAULT_EVENT.FATAL, Reg.FAULT_EVENT.HIST_LOST, Reg.FAULT_HIST_STATUS.LOST, Reg.DRV_STATUS.LATCHED, Reg.DRV_STATUS.LATCH_CAUSE, Reg.DRV_STATUS.LEG_FAULT, Reg.DRV_CARRIER_ACT.TOP, Reg.DRV_CHOP_PERIOD.PERIOD, Reg.DRV_LEG_STATUS.CMP_ACT, Reg.DRV_LEG_STATUS.DESAT_HS, Reg.DRV_LEG_STATUS.DESAT_LS, Reg.DRV_LEG_STATUS.INSTANT, Reg.DRV_LEG_STATUS.VB_UV, Reg.DRV_LEG_STATUS.GATES_OFF, Reg.DRV_LEG_STATUS.MODE_ACT, Reg.DRV_EVENT.LATCH, Reg.MOT_STATE.STATE, Reg.MOT_STATE.VLIMIT, Reg.MOT_STATE.ILIMIT, Reg.MOT_STATE.SIGNAL_LOST, Reg.MOT_STATE.CURVE_ON, Reg.MOT_STATE.SHED, Reg.MOT_STATE.THROTTLE, Reg.MOT_SPEED.REF, Reg.MOT_SPEED.EST, Reg.MOT_CMD.CMD, Reg.MOT_CMD.CONF, Reg.MOT_CURRENT.ID, Reg.MOT_CURRENT.IQ, Reg.MOT_BUS.VBUS, Reg.MOT_BUS.ADV, Reg.MOT_BUS.CHOP_D, Reg.MOT_INPUT.VALUE, Reg.MOT_COUNT.CATCH_OK, Reg.MOT_EVENT.STATE, Reg.MOT_EVENT.OBS_LOST, Reg.MOT_EVENT.VLIMIT]
theorem State.motorRun_effect (s : State) (p1 : Nat) (p2 : Observed) :
    Effect State.motorRun_touch State.motorRun_fields s (@State.motorRun s p1 p2) := by
  unfold State.motorRun
  extract_lets x1 x2 x3 x4 x5 x6 x7 x8 x9 x10 x11 x12
  have h13 : Effect State.motorRun_touch State.motorRun_fields s x4 := by
    refine Effect.after (State.speedCommand_effect ..) (by decide +kernel) ?_
    exact Effect.refl _ _ _
  try clear_value x4
  have h14 : Effect State.motorRun_touch State.motorRun_fields s x6 := by
    refine Effect.after (State.wr_effect ..) (by decide +kernel) ?_
    exact h13
  try clear_value x6
  have h15 : Effect State.motorRun_touch State.motorRun_fields s x8 := by
    refine Effect.when ?_ ?_
    · exact h14
    · intro u16
      try beta_reduce
      refine Effect.after (State.wr_effect ..) (by decide +kernel) ?_
      refine Effect.after (State.wr_effect ..) (by decide +kernel) ?_
      refine Effect.after (State.wrS_effect ..) (by decide +kernel) ?_
      exact Effect.refl _ _ _
  try clear_value x8
  have h18 : Effect State.motorRun_touch State.motorRun_fields s x10 := by
    refine Effect.after (State.motRamp_effect ..) (by decide +kernel) ?_
    refine Effect.after (State.motMachine_effect ..) (by decide +kernel) ?_
    exact h15
  try clear_value x10
  have h19 : Effect State.motorRun_touch State.motorRun_fields s x11 := by
    refine Effect.ite ?_ ?_
    · refine Effect.after (State.motLoops_effect ..) (by decide +kernel) ?_
      exact h18
    · refine Effect.when ?_ ?_
      · exact h18
      · intro u20
        try beta_reduce
        refine Effect.after (State.chopHold_effect ..) (by decide +kernel) ?_
        exact Effect.refl _ _ _
  try clear_value x11
  try clear_value x1 x2 x3 x5 x7 x9 x12
  refine Effect.ite ?_ ?_
  · refine Effect.after (State.motGates_effect ..) (by decide +kernel) ?_
    refine Effect.after (State.latchUnit_effect ..) (by decide +kernel) ?_
    exact h15
  · refine Effect.ite ?_ ?_
    · refine Effect.after (State.probe_effect ..) (by decide +kernel) ?_
      exact h19
    · exact h19

def State.carrierValley_touch : List Part := [.faults, .drives, .motors, .drawn]
def State.carrierValley_fields : Option (List Field) := some [Reg.COLLECT_STATUS_LO.STATUS, Reg.COLLECT_STATUS_HI.STATUS, Reg.FAULT_COUNT_CORR.COUNT, Reg.FAULT_COUNT_CONT.COUNT, Reg.FAULT_COUNT_FATAL.COUNT, Reg.FAULT_EVENT.CORRECTED, Reg.FAULT_EVENT.CONTAINED, Reg.FAULT_EVENT.FATAL, Reg.FAULT_EVENT.HIST_LOST, Reg.FAULT_HIST_STATUS.LOST, Reg.DRV_STATUS.LATCHED, Reg.DRV_STATUS.LATCH_CAUSE, Reg.DRV_STATUS.LOAD_PENDING, Reg.DRV_STATUS.LEG_FAULT, Reg.DRV_CARRIER_ACT.TOP, Reg.DRV_CHOP_PERIOD.PERIOD, Reg.DRV_LEG_STATUS.CMP_ACT, Reg.DRV_LEG_STATUS.DESAT_HS, Reg.DRV_LEG_STATUS.DESAT_LS, Reg.DRV_LEG_STATUS.INSTANT, Reg.DRV_LEG_STATUS.VB_UV, Reg.DRV_LEG_STATUS.GATES_OFF, Reg.DRV_LEG_STATUS.MODE_ACT, Reg.DRV_LEG_COUNT.SUPPRESSED, Reg.DRV_LEG_COUNT.FULL_ON, Reg.DRV_EVENT.LATCH, Reg.DRV_EVENT.LOAD_DONE, Reg.MOT_STATE.STATE, Reg.MOT_STATE.VLIMIT, Reg.MOT_STATE.ILIMIT, Reg.MOT_STATE.SIGNAL_LOST, Reg.MOT_STATE.CURVE_ON, Reg.MOT_STATE.SHED, Reg.MOT_STATE.THROTTLE, Reg.MOT_SPEED.REF, Reg.MOT_SPEED.EST, Reg.MOT_CMD.CMD, Reg.MOT_CMD.CONF, Reg.MOT_CURRENT.ID, Reg.MOT_CURRENT.IQ, Reg.MOT_BUS.VBUS, Reg.MOT_BUS.ADV, Reg.MOT_BUS.CHOP_D, Reg.MOT_INPUT.VALUE, Reg.MOT_COUNT.CATCH_OK, Reg.MOT_EVENT.STATE, Reg.MOT_EVENT.OBS_LOST, Reg.MOT_EVENT.VLIMIT, Reg.DRV_LOADALL.UNITS, Reg.DRV_LOAD_STATUS.DONE]
theorem State.carrierValley_effect (s : State) (p1 : Nat) (p2 : Observed) :
    Effect State.carrierValley_touch State.carrierValley_fields s (@State.carrierValley s p1 p2) := by
  unfold State.carrierValley
  refine Effect.ite ?_ ?_
  · exact Effect.refl _ _ _
  · split
    · exact Effect.refl _ _ _
    · extract_lets x1
      have h2 : Effect State.carrierValley_touch State.carrierValley_fields s x1 := by
        refine Effect.after (State.valleyStart_effect ..) (by decide +kernel) ?_
        exact Effect.refl _ _ _
      try clear_value x1
      refine Effect.ite ?_ ?_
      · refine Effect.after (State.showActive_effect ..) (by decide +kernel) ?_
        exact h2
      · refine Effect.after (State.valleyLegs_effect ..) (by decide +kernel) ?_
        refine Effect.when ?_ ?_
        · exact h2
        · intro u3
          try beta_reduce
          refine Effect.after (State.motorRun_effect ..) (by decide +kernel) ?_
          exact Effect.refl _ _ _

def State.unsettled_touch : List Part := [.convs, .safety]
def State.unsettled_fields : Option (List Field) := some [Reg.SAFE_STATUS.A_OK, Reg.SAFE_STATUS.B_OK, Reg.SAFE_STATUS.DIAG, Reg.SAFE_STATUS.DIAG_CAUSE, Reg.SAFE_STATUS.RESET_PIN, Reg.SAFE_STATUS.DEMAND, Reg.SAFE_STATUS.LOCKED, Reg.SAFE_STATUS.DIAG_A, Reg.SAFE_STATUS.DIAG_B, Reg.SAFE_GROUP.STATE, Reg.SAFE_GROUP.KIND, Reg.SAFE_GROUP.STOP, Reg.SAFE_GROUP.CAUSE, Reg.SAFE_GROUP.PAIRS, Reg.SAFE_PAIR.CH_A, Reg.SAFE_PAIR.CH_B, Reg.SAFE_PAIR.DEMAND, Reg.SAFE_PAIR.PAIR_FAULT, Reg.SAFE_PAIR.FAULT_CAUSE, Reg.SAFE_PAIR.DEMANDS, Reg.SAFE_TPO.EN, Reg.SAFE_TPO.READBACK_FAULT, Reg.SAFE_FIRE.FIRE_A, Reg.SAFE_FIRE.FIRE_B, Reg.SAFE_FIRE.DRV_A, Reg.SAFE_FIRE.DRV_B, Reg.SAFE_RESET_STATUS.ARMED, Reg.SAFE_RESET_STATUS.RELEASED, Reg.SAFE_RESET_STATUS.REFUSED, Reg.SAFE_EVENT.DEMAND, Reg.SAFE_EVENT.STOPPING, Reg.SAFE_EVENT.REMOVED, Reg.SAFE_EVENT.PAIR_FAULT, Reg.SAFE_EVENT.RESET_REFUSED]
theorem State.unsettled_effect (s : State) (p1 : Bool) (p2 : Nat) :
    Effect State.unsettled_touch State.unsettled_fields s (@State.unsettled s p1 p2) := by
  unfold State.unsettled
  split
  · refine Effect.ite ?_ ?_
    · exact Effect.refl _ _ _
    · refine Effect.after (State.judgeUnit_effect ..) (by decide +kernel) ?_
      refine Effect.after (State.pairFault_effect ..) (by decide +kernel) ?_
      refine Effect.after (State.modChan_effect ..) (by decide +kernel) ?_
      exact Effect.refl _ _ _
  · exact Effect.refl _ _ _

def State.stopseqEnd_touch : List Part := [.faults, .drives, .motors]
def State.stopseqEnd_fields : Option (List Field) := some [Reg.COLLECT_STATUS_LO.STATUS, Reg.COLLECT_STATUS_HI.STATUS, Reg.FAULT_COUNT_CORR.COUNT, Reg.FAULT_COUNT_CONT.COUNT, Reg.FAULT_COUNT_FATAL.COUNT, Reg.FAULT_EVENT.CORRECTED, Reg.FAULT_EVENT.CONTAINED, Reg.FAULT_EVENT.FATAL, Reg.FAULT_EVENT.HIST_LOST, Reg.FAULT_HIST_STATUS.LOST, Reg.DRV_STATUS.LEG_FAULT, Reg.DRV_CARRIER_ACT.TOP, Reg.DRV_LEG_STATUS.CMP_ACT, Reg.DRV_LEG_STATUS.DESAT_HS, Reg.DRV_LEG_STATUS.DESAT_LS, Reg.DRV_LEG_STATUS.INSTANT, Reg.DRV_LEG_STATUS.VB_UV, Reg.DRV_LEG_STATUS.GATES_OFF, Reg.DRV_LEG_STATUS.MODE_ACT, Reg.MOT_STATE.STATE, Reg.MOT_EVENT.STATE, Reg.MOT_EVENT.OBS_LOST]
theorem State.stopseqEnd_effect (s : State) (p1 : Nat) :
    Effect State.stopseqEnd_touch State.stopseqEnd_fields s (@State.stopseqEnd s p1) := by
  unfold State.stopseqEnd
  refine Effect.ite ?_ ?_
  · refine Effect.after (State.motGates_effect ..) (by decide +kernel) ?_
    refine Effect.after (State.motTo_effect ..) (by decide +kernel) ?_
    refine Effect.after (State.modMot_effect ..) (by decide +kernel) ?_
    exact Effect.refl _ _ _
  · exact Effect.refl _ _ _

def State.adcCtrlWrite_touch : List Part := [.adc]
def State.adcCtrlWrite_fields : Option (List Field) := some [Reg.ADC_CTRL.SEQ_EN, Reg.ADC_CTRL.COMMIT, Reg.ADC_EVENT.CFG_REFUSED, Reg.ADC_IN_CFG.GAIN, Reg.ADC_IN_CFG.EN, Reg.ADC_SEQ_BURST.START, Reg.ADC_SEQ_BURST.LENGTH, Reg.ADC_ENTRY_CFG.INPUT, Reg.ADC_ENTRY_CFG.ACQ, Reg.ADC_ENTRY_CFG.SHIFT, Reg.ADC_ENTRY_CFG.WIN_EN, Reg.ADC_ENTRY_SCALE.VALUE, Reg.ADC_ENTRY_OFFSET.VALUE, Reg.ADC_ENTRY_WIN_HI.VALUE, Reg.ADC_ENTRY_WIN_LO.VALUE, Reg.ADC_DS_CFG.ORDER, Reg.ADC_DS_CFG.LOG2R, Reg.ADC_DS_CFG.SHIFT, Reg.ADC_DS_SCALE.VALUE, Reg.ADC_DS_OFFSET.VALUE]
theorem State.adcCtrlWrite_effect (s : State) (p1 : Nat) :
    Effect State.adcCtrlWrite_touch State.adcCtrlWrite_fields s (@State.adcCtrlWrite s p1) := by
  unfold State.adcCtrlWrite
  refine Effect.when ?_ ?_
  · refine Effect.after (State.wr_effect ..) (by decide +kernel) ?_
    exact Effect.refl _ _ _
  · intro u1
    try beta_reduce
    refine Effect.after (State.adcCommit_effect ..) (by decide +kernel) ?_
    exact Effect.refl _ _ _

def State.copyBlock_touch : List Part := [.load, .fr, .out]
def State.copyBlock_fields : Option (List Field) := some []
theorem State.copyBlock_effect (s : State) :
    Effect State.copyBlock_touch State.copyBlock_fields s (@State.copyBlock s) := by
  unfold State.copyBlock
  extract_lets x1 x2 x3 x4 x5 x6
  have h7 : Effect State.copyBlock_touch State.copyBlock_fields s x4 := by
    refine Effect.ite ?_ ?_
    · refine Effect.after (Effect.load _ _) (by decide +kernel) ?_
      exact Effect.refl _ _ _
    · exact Effect.refl _ _ _
  try clear_value x4
  try clear_value x1 x2 x3 x5 x6
  refine Effect.ite ?_ ?_
  · exact h7
  · refine Effect.after (State.modFr_effect ..) (by decide +kernel) ?_
    refine Effect.after (State.emit_effect ..) (by decide +kernel) ?_
    exact h7

end Sys2Proof.Machine
end

