-- ==== Sys2Proof/Laws/Frames5.lean ====
section
/-! SUPPORT. What every operation and every command may touch (part 5 of 8, in the order in which they are built on one another): for each a list
of parts, a list of register fields, and the effect with both, from every state. -/

namespace Sys2Proof.Machine

set_option Elab.async false

def State.unitDone_touch : List Part := [.load, .fr, .out]
def State.unitDone_fields : Option (List Field) := some []
theorem State.unitDone_effect (s : State) (p1 : Nat) :
    Effect State.unitDone_touch State.unitDone_fields s (@State.unitDone s p1) := by
  unfold State.unitDone
  extract_lets x1
  try clear_value x1
  refine Effect.ite ?_ ?_
  · refine Effect.after (State.copyBlock_effect ..) (by decide +kernel) ?_
    exact Effect.refl _ _ _
  · refine Effect.ite ?_ ?_
    · refine Effect.after (Effect.load _ _) (by decide +kernel) ?_
      exact Effect.refl _ _ _
    · exact Effect.refl _ _ _

def State.waitedUnits_touch : List Part := [.load, .fr, .out]
def State.waitedUnits_fields : Option (List Field) := some [Reg.TRK_STATUS.CTRL_HIWATER]
theorem State.waitedUnits_effect (s : State) :
    Effect State.waitedUnits_touch State.waitedUnits_fields s (@State.waitedUnits s) := by
  unfold State.waitedUnits
  extract_lets x1
  try clear_value x1
  refine Effect.each ?_ ?_
  · refine Effect.after (State.ctrlDone_effect ..) (by decide +kernel) ?_
    exact Effect.refl _ _ _
  · intro u2 a3
    try beta_reduce
    refine Effect.after (State.unitDone_effect ..) (by decide +kernel) ?_
    exact Effect.refl _ _ _

def State.canShowShed_touch : List Part := []
def State.canShowShed_fields : Option (List Field) := some [Reg.CAN_STATUS.SHED]
theorem State.canShowShed_effect (s : State) :
    Effect State.canShowShed_touch State.canShowShed_fields s (@State.canShowShed s) := by
  unfold State.canShowShed
  refine Effect.each ?_ ?_
  · exact Effect.refl _ _ _
  · intro u1 a2
    try beta_reduce
    refine Effect.after (State.wr_effect ..) (by decide +kernel) ?_
    exact Effect.refl _ _ _

def State.enterKeepOnly_touch : List Part := [.hold, .wrHold, .power, .faults, .host, .load, .cfg, .fr, .images, .lanes, .chains, .cells, .arms, .engs, .convs, .referee, .pair, .journal, .adc, .drives, .motors, .safety, .eths, .canQueues, .cans, .out]
def State.enterKeepOnly_fields : Option (List Field) := none
theorem State.enterKeepOnly_effect (s : State) (p1 : Bool) (p2 : Bool) :
    Effect State.enterKeepOnly_touch State.enterKeepOnly_fields s (@State.enterKeepOnly s p1 p2) := by
  unfold State.enterKeepOnly
  extract_lets x1
  have h2 : Effect State.enterKeepOnly_touch State.enterKeepOnly_fields s x1 := by
    refine Effect.after (State.wr_effect ..) (by decide +kernel) ?_
    refine Effect.after (State.devReset_effect ..) (by decide +kernel) ?_
    refine Effect.after (State.resetBegins_effect ..) (by decide +kernel) ?_
    exact Effect.refl _ _ _
  try clear_value x1
  refine Effect.after (State.showPgood_effect ..) (by decide +kernel) ?_
  refine Effect.after (State.modPower_effect ..) (by decide +kernel) ?_
  exact h2

def State.step6_touch : List Part := [.hold, .wrHold, .power, .faults, .host, .load, .cfg, .fr, .images, .lanes, .chains, .cells, .arms, .engs, .convs, .referee, .pair, .journal, .adc, .drives, .motors, .safety, .eths, .canQueues, .cans, .out]
def State.step6_fields : Option (List Field) := none
theorem State.step6_effect (s : State) (p1 : Bool) :
    Effect State.step6_touch State.step6_fields s (@State.step6 s p1) := by
  unfold State.step6
  extract_lets x1 x2 x3 x4
  have h5 : Effect State.step6_touch State.step6_fields s x1 := by
    refine Effect.after (State.modPower_effect ..) (by decide +kernel) ?_
    exact Effect.refl _ _ _
  try clear_value x1
  have h6 : Effect State.step6_touch State.step6_fields s x2 := by
    refine Effect.after (State.wr_effect ..) (by decide +kernel) ?_
    exact h5
  try clear_value x2
  have h7 : Effect State.step6_touch State.step6_fields s x3 := by
    refine Effect.after (State.wr_effect ..) (by decide +kernel) ?_
    refine Effect.after (State.toSetup_effect ..) (by decide +kernel) ?_
    refine Effect.after (State.announceStop_effect ..) (by decide +kernel) ?_
    exact h6
  try clear_value x3
  have h8 : Effect State.step6_touch State.step6_fields s x4 := by
    refine Effect.each ?_ ?_
    · exact h7
    · intro u9 a10
      try beta_reduce
      refine Effect.after (State.modConv_effect ..) (by decide +kernel) ?_
      exact Effect.refl _ _ _
  try clear_value x4
  refine Effect.ite ?_ ?_
  · refine Effect.after (State.enterKeepOnly_effect ..) (by decide +kernel) ?_
    exact h6
  · refine Effect.after (State.showSafe_effect ..) (by decide +kernel) ?_
    exact h8

def State.shedTo_touch : List Part := [.hold, .wrHold, .power, .faults, .host, .load, .cfg, .fr, .images, .lanes, .chains, .cells, .arms, .engs, .convs, .referee, .pair, .journal, .adc, .drives, .motors, .safety, .eths, .canQueues, .cans, .out]
def State.shedTo_fields : Option (List Field) := none
theorem State.shedTo_effect (s : State) (p1 : Nat) (p2 : Nat) :
    Effect State.shedTo_touch State.shedTo_fields s (@State.shedTo s p1 p2) := by
  unfold State.shedTo
  extract_lets x1 x2 x3 x4 x5 x6 x7 x8 x9 x10
  have h11 : Effect State.shedTo_touch State.shedTo_fields s x3 := by
    refine Effect.when ?_ ?_
    · exact Effect.refl _ _ _
    · intro u12
      try beta_reduce
      refine Effect.after (State.wr_effect ..) (by decide +kernel) ?_
      exact Effect.refl _ _ _
  try clear_value x3
  have h14 : Effect State.shedTo_touch State.shedTo_fields s x4 := by
    refine Effect.after (State.wr_effect ..) (by decide +kernel) ?_
    refine Effect.after (State.wr_effect ..) (by decide +kernel) ?_
    refine Effect.after (State.wr_effect ..) (by decide +kernel) ?_
    exact h11
  try clear_value x4
  have h15 : Effect State.shedTo_touch State.shedTo_fields s x5 := by
    refine Effect.after (State.wr_effect ..) (by decide +kernel) ?_
    exact h14
  try clear_value x5
  have h16 : Effect State.shedTo_touch State.shedTo_fields s x6 := by
    refine Effect.after (State.canShowShed_effect ..) (by decide +kernel) ?_
    refine Effect.after (State.wr_effect ..) (by decide +kernel) ?_
    exact h15
  try clear_value x6
  have h17 : Effect State.shedTo_touch State.shedTo_fields s x7 := by
    refine Effect.after (State.evBit_effect ..) (by decide +kernel) ?_
    exact h16
  try clear_value x7
  have h18 : Effect State.shedTo_touch State.shedTo_fields s x8 := by
    refine Effect.when ?_ ?_
    · exact h17
    · intro u19
      try beta_reduce
      refine Effect.after (State.raise_effect ..) (by decide +kernel) ?_
      exact Effect.refl _ _ _
  try clear_value x8
  have h21 : Effect State.shedTo_touch State.shedTo_fields s x9 := by
    refine Effect.when ?_ ?_
    · exact h18
    · intro u22
      try beta_reduce
      refine Effect.after (State.raise_effect ..) (by decide +kernel) ?_
      exact Effect.refl _ _ _
  try clear_value x9
  have h24 : Effect State.shedTo_touch State.shedTo_fields s x10 := by
    refine Effect.when ?_ ?_
    · exact h21
    · intro u25
      try beta_reduce
      refine Effect.after (State.cancelShadow_effect ..) (by decide +kernel) ?_
      exact Effect.refl _ _ _
  try clear_value x10
  try clear_value x1 x2
  refine Effect.ite ?_ ?_
  · refine Effect.ite ?_ ?_
    · refine Effect.after (State.step6_effect ..) (by decide +kernel) ?_
      exact h24
    · exact h24
  · refine Effect.when ?_ ?_
    · exact h16
    · intro u27
      try beta_reduce
      refine Effect.after (State.evBit_effect ..) (by decide +kernel) ?_
      exact Effect.refl _ _ _

def State.thermalStep_touch : List Part := [.hold, .wrHold, .power, .faults, .host, .load, .cfg, .fr, .images, .lanes, .chains, .cells, .arms, .engs, .convs, .referee, .pair, .journal, .adc, .drives, .motors, .safety, .eths, .canQueues, .cans, .out]
def State.thermalStep_fields : Option (List Field) := none
theorem State.thermalStep_effect (s : State) :
    Effect State.thermalStep_touch State.thermalStep_fields s (@State.thermalStep s) := by
  unfold State.thermalStep
  extract_lets x1 x2 x3
  try clear_value x1 x2
  refine Effect.ite ?_ ?_
  · refine Effect.after (State.shedTo_effect ..) (by decide +kernel) ?_
    refine Effect.after (State.modPower_effect ..) (by decide +kernel) ?_
    exact Effect.refl _ _ _
  · refine Effect.ite ?_ ?_
    · refine Effect.after (State.shedTo_effect ..) (by decide +kernel) ?_
      refine Effect.after (State.modPower_effect ..) (by decide +kernel) ?_
      exact Effect.refl _ _ _
    · exact Effect.refl _ _ _

def State.pairItem_touch : List Part := [.faults, .lanes, .chains, .cells]
def State.pairItem_fields : Option (List Field) := some [Reg.COLLECT_STATUS_LO.STATUS, Reg.COLLECT_STATUS_HI.STATUS, Reg.FAULT_COUNT_CORR.COUNT, Reg.FAULT_COUNT_CONT.COUNT, Reg.FAULT_COUNT_FATAL.COUNT, Reg.FAULT_EVENT.CORRECTED, Reg.FAULT_EVENT.CONTAINED, Reg.FAULT_EVENT.FATAL, Reg.FAULT_EVENT.HIST_LOST, Reg.FAULT_HIST_STATUS.LOST, Reg.LANE_STATUS.STATE, Reg.LANE_STATUS.CHAIN_LATE, Reg.LANE_STATUS.SERVED, Reg.LANE_STATUS.FIRST_Q, Reg.LANE_CHAIN.SPLIT, Reg.LANE_CHAIN.GAP, Reg.LANE_SEGDOWN_LO.DOWN, Reg.LANE_SEGDOWN_HI.DOWN, Reg.LANE_UPBASE.U, Reg.LANE_BUDGET.DELIVERY, Reg.LANE_BUDGET.COMPLETION, Reg.LANE_EVENT.CHAIN_LATE, Reg.LANE_DELAY.D, Reg.LANE_DELAY.VALID, Reg.CELL_STATE.STATE, Reg.CELL_STATE.CONFIRMED, Reg.CELL_STATE.REASON, Reg.CELL_STATE_FRAME.FRAME, Reg.TS_RECORDED_LO.IDENTITY, Reg.TS_RECORDED_HI.IDENTITY, Reg.CELL_UNROSTERED_LO.CHAINS, Reg.CELL_UNROSTERED_HI.CHAINS, Reg.CELL_LAST.CELL, Reg.CELL_LAST.STATE, Reg.CELL_LAST.REASON, Reg.CELL_EVENT.PENDING, Reg.CELL_EVENT.BYPASS, Reg.CELL_EVENT.REJECTED, Reg.CELL_EVENT.OUT]
theorem State.pairItem_effect (s : State) (p1 : List Byte) :
    Effect State.pairItem_touch State.pairItem_fields s (@State.pairItem s p1) := by
  unfold State.pairItem
  extract_lets x1 x2 x3 x4 x5 x6
  have h7 : Effect State.pairItem_touch State.pairItem_fields s x2 := by
    refine Effect.after (State.wr64_effect ..) (by decide +kernel) ?_
    exact Effect.refl _ _ _
  try clear_value x2
  have h8 : Effect State.pairItem_touch State.pairItem_fields s x4 := by
    refine Effect.after (State.wr_effect ..) (by decide +kernel) ?_
    refine Effect.after (State.wr_effect ..) (by decide +kernel) ?_
    exact Effect.refl _ _ _
  try clear_value x4
  have h9 : Effect State.pairItem_touch State.pairItem_fields s x5 := by
    refine Effect.after (State.modChain_effect ..) (by decide +kernel) ?_
    exact h8
  try clear_value x5
  have h10 : Effect State.pairItem_touch State.pairItem_fields s x6 := by
    refine Effect.ite ?_ ?_
    · refine Effect.after (State.wrBit_effect ..) (by decide +kernel) ?_
      exact h9
    · refine Effect.after (State.wrBit_effect ..) (by decide +kernel) ?_
      exact h9
  try clear_value x6
  try clear_value x1 x3
  split
  · refine Effect.ite ?_ ?_
    · exact Effect.refl _ _ _
    · refine Effect.ite ?_ ?_
      · exact h7
      · refine Effect.ite ?_ ?_
        · refine Effect.after (State.bypass_effect ..) (by decide +kernel) ?_
          exact h7
        · refine Effect.after (State.setCell_effect ..) (by decide +kernel) ?_
          exact h7
  · refine Effect.ite ?_ ?_
    · exact Effect.refl _ _ _
    · refine Effect.after (State.planChain_effect ..) (by decide +kernel) ?_
      refine Effect.after (State.showDown_effect ..) (by decide +kernel) ?_
      exact h10
  · refine Effect.ite ?_ ?_
    · refine Effect.after (State.setDelay_effect ..) (by decide +kernel) ?_
      exact Effect.refl _ _ _
    · exact Effect.refl _ _ _
  · refine Effect.ite ?_ ?_
    · refine Effect.after (State.wr_effect ..) (by decide +kernel) ?_
      exact Effect.refl _ _ _
    · exact Effect.refl _ _ _
  · exact Effect.refl _ _ _

def State.enableChange_touch : List Part := [.faults, .drives, .motors]
def State.enableChange_fields : Option (List Field) := some [Reg.COLLECT_STATUS_LO.STATUS, Reg.COLLECT_STATUS_HI.STATUS, Reg.FAULT_COUNT_CORR.COUNT, Reg.FAULT_COUNT_CONT.COUNT, Reg.FAULT_COUNT_FATAL.COUNT, Reg.FAULT_EVENT.CORRECTED, Reg.FAULT_EVENT.CONTAINED, Reg.FAULT_EVENT.FATAL, Reg.FAULT_EVENT.HIST_LOST, Reg.FAULT_HIST_STATUS.LOST, Reg.DRV_STATUS.ENABLE, Reg.DRV_STATUS.LEG_FAULT, Reg.DRV_CARRIER_ACT.TOP, Reg.DRV_LEG_STATUS.CMP_ACT, Reg.DRV_LEG_STATUS.DESAT_HS, Reg.DRV_LEG_STATUS.DESAT_LS, Reg.DRV_LEG_STATUS.INSTANT, Reg.DRV_LEG_STATUS.VB_UV, Reg.DRV_LEG_STATUS.GATES_OFF, Reg.DRV_LEG_STATUS.MODE_ACT, Reg.MOT_STATE.STATE, Reg.MOT_EVENT.STATE, Reg.MOT_EVENT.OBS_LOST]
theorem State.enableChange_effect (s : State) (p1 : Nat) (p2 : Bool) :
    Effect State.enableChange_touch State.enableChange_fields s (@State.enableChange s p1 p2) := by
  unfold State.enableChange
  extract_lets x1 x2 x3 x4 x5 x6
  have h7 : Effect State.enableChange_touch State.enableChange_fields s x3 := by
    refine Effect.after (State.wr_effect ..) (by decide +kernel) ?_
    exact Effect.refl _ _ _
  try clear_value x3
  have h8 : Effect State.enableChange_touch State.enableChange_fields s x5 := by
    refine Effect.when ?_ ?_
    · exact h7
    · intro u9
      try beta_reduce
      refine Effect.after (State.motGates_effect ..) (by decide +kernel) ?_
      refine Effect.after (State.motTo_effect ..) (by decide +kernel) ?_
      exact Effect.refl _ _ _
  try clear_value x5
  have h11 : Effect State.enableChange_touch State.enableChange_fields s x6 := by
    refine Effect.after (State.driveUnit_effect ..) (by decide +kernel) ?_
    refine Effect.after (State.waitEdges_effect ..) (by decide +kernel) ?_
    exact h7
  try clear_value x6
  try clear_value x1 x2 x4
  refine Effect.ite ?_ ?_
  · exact Effect.refl _ _ _
  · refine Effect.ite ?_ ?_
    · refine Effect.after (State.driveUnit_effect ..) (by decide +kernel) ?_
      exact h8
    · refine Effect.after (State.showActive_effect ..) (by decide +kernel) ?_
      refine Effect.when ?_ ?_
      · exact h11
      · intro u12
        try beta_reduce
        refine Effect.after (State.motGates_effect ..) (by decide +kernel) ?_
        refine Effect.after (State.motTo_effect ..) (by decide +kernel) ?_
        exact Effect.refl _ _ _

def State.firstFatalClear_touch : List Part := []
def State.firstFatalClear_fields : Option (List Field) := some [Reg.FAULT_FIRST_FATAL.BIT, Reg.FAULT_FIRST_FATAL.VALID, Reg.FAULT_FIRST_FATAL.FRAME_VALID, Reg.FAULT_FIRST_FATAL.DETAIL, Reg.FAULT_FIRST_FRAME.VALUE, Reg.FAULT_FIRST_NS_LO.VALUE, Reg.FAULT_FIRST_NS_HI.VALUE]
theorem State.firstFatalClear_effect (s : State) :
    Effect State.firstFatalClear_touch State.firstFatalClear_fields s (@State.firstFatalClear s) := by
  unfold State.firstFatalClear
  extract_lets x1
  have h2 : Effect State.firstFatalClear_touch State.firstFatalClear_fields s x1 := by
    refine Effect.after (State.wr_effect ..) (by decide +kernel) ?_
    refine Effect.after (State.wr_effect ..) (by decide +kernel) ?_
    refine Effect.after (State.wr_effect ..) (by decide +kernel) ?_
    exact Effect.refl _ _ _
  try clear_value x1
  refine Effect.after (State.wr64_effect ..) (by decide +kernel) ?_
  refine Effect.after (State.wr_effect ..) (by decide +kernel) ?_
  refine Effect.after (State.wr_effect ..) (by decide +kernel) ?_
  exact h2

def State.vdrvMotor_touch : List Part := [.faults, .drives, .motors]
def State.vdrvMotor_fields : Option (List Field) := some [Reg.COLLECT_STATUS_LO.STATUS, Reg.COLLECT_STATUS_HI.STATUS, Reg.FAULT_COUNT_CORR.COUNT, Reg.FAULT_COUNT_CONT.COUNT, Reg.FAULT_COUNT_FATAL.COUNT, Reg.FAULT_EVENT.CORRECTED, Reg.FAULT_EVENT.CONTAINED, Reg.FAULT_EVENT.FATAL, Reg.FAULT_EVENT.HIST_LOST, Reg.FAULT_HIST_STATUS.LOST, Reg.DRV_STATUS.LEG_FAULT, Reg.DRV_CARRIER_ACT.TOP, Reg.DRV_LEG_STATUS.CMP_ACT, Reg.DRV_LEG_STATUS.DESAT_HS, Reg.DRV_LEG_STATUS.DESAT_LS, Reg.DRV_LEG_STATUS.INSTANT, Reg.DRV_LEG_STATUS.VB_UV, Reg.DRV_LEG_STATUS.GATES_OFF, Reg.DRV_LEG_STATUS.MODE_ACT, Reg.MOT_STATE.STATE, Reg.MOT_EVENT.STATE, Reg.MOT_EVENT.OBS_LOST]
theorem State.vdrvMotor_effect (s : State) (p1 : Nat) :
    Effect State.vdrvMotor_touch State.vdrvMotor_fields s (@State.vdrvMotor s p1) := by
  unfold State.vdrvMotor
  refine Effect.ite ?_ ?_
  · exact Effect.refl _ _ _
  · refine Effect.ite ?_ ?_
    · refine Effect.after (State.motGates_effect ..) (by decide +kernel) ?_
      refine Effect.after (State.motFault_effect ..) (by decide +kernel) ?_
      exact Effect.refl _ _ _
    · refine Effect.ite ?_ ?_
      · refine Effect.after (State.motGates_effect ..) (by decide +kernel) ?_
        refine Effect.after (State.motTo_effect ..) (by decide +kernel) ?_
        exact Effect.refl _ _ _
      · exact Effect.refl _ _ _

def State.showCapacity_touch : List Part := []
def State.showCapacity_fields : Option (List Field) := some [Reg.PLAN_CAPACITY.ENG_CAP, Reg.PLAN_CAPACITY.FAB_CAP]
theorem State.showCapacity_effect (s : State) :
    Effect State.showCapacity_touch State.showCapacity_fields s (@State.showCapacity s) := by
  unfold State.showCapacity
  extract_lets x1
  try clear_value x1
  refine Effect.after (State.wr_effect ..) (by decide +kernel) ?_
  refine Effect.after (State.wr_effect ..) (by decide +kernel) ?_
  exact Effect.refl _ _ _

def State.levelTick_touch : List Part := [.fr]
def State.levelTick_fields : Option (List Field) := some [Reg.PLAN_LEVEL.CURRENT, Reg.PLAN_CAPACITY.ENG_CAP, Reg.PLAN_CAPACITY.FAB_CAP]
theorem State.levelTick_effect (s : State) :
    Effect State.levelTick_touch State.levelTick_fields s (@State.levelTick s) := by
  unfold State.levelTick
  split
  · refine Effect.after (State.showCapacity_effect ..) (by decide +kernel) ?_
    refine Effect.after (State.wr_effect ..) (by decide +kernel) ?_
    refine Effect.after (State.modFr_effect ..) (by decide +kernel) ?_
    exact Effect.refl _ _ _
  · exact Effect.refl _ _ _

def State.convTick_touch : List Part := [.arms, .convs]
def State.convTick_fields : Option (List Field) := some [Reg.CONV_STATE.STATE, Reg.CONV_STATE.SLEWING, Reg.CONV_STATE_FRAME.FRAME, Reg.CONV_RESIDUAL.E, Reg.CONV_MF_THETA.THETA_MF, Reg.CONV_EVENT.RUN, Reg.CONV_EVENT_SRC.CONV]
theorem State.convTick_effect (s : State) (p1 : ConvCfg) :
    Effect State.convTick_touch State.convTick_fields s (@State.convTick s p1) := by
  unfold State.convTick
  extract_lets x1 x2 x3 x4 x5 x6
  have h7 : Effect State.convTick_touch State.convTick_fields s x2 := by
    refine Effect.after (State.modConv_effect ..) (by decide +kernel) ?_
    exact Effect.refl _ _ _
  try clear_value x2
  have h8 : Effect State.convTick_touch State.convTick_fields s x3 := by
    refine Effect.when ?_ ?_
    · exact h7
    · intro u9
      try beta_reduce
      refine Effect.after (State.blockAtTick_effect ..) (by decide +kernel) ?_
      exact Effect.refl _ _ _
  try clear_value x3
  have h11 : Effect State.convTick_touch State.convTick_fields s x5 := by
    refine Effect.ite ?_ ?_
    · refine Effect.after (State.wr_effect ..) (by decide +kernel) ?_
      refine Effect.after (State.modConv_effect ..) (by decide +kernel) ?_
      exact h8
    · exact h8
  try clear_value x5
  have h12 : Effect State.convTick_touch State.convTick_fields s x6 := by
    refine Effect.when ?_ ?_
    · exact h11
    · intro u13
      try beta_reduce
      refine Effect.after (State.modConv_effect ..) (by decide +kernel) ?_
      refine Effect.after (State.convEvent_effect ..) (by decide +kernel) ?_
      refine Effect.after (State.setConv_effect ..) (by decide +kernel) ?_
      exact Effect.refl _ _ _
  try clear_value x6
  try clear_value x1 x4
  refine Effect.after (State.showResidual_effect ..) (by decide +kernel) ?_
  refine Effect.each ?_ ?_
  · exact h12
  · intro u15 a16
    try beta_reduce
    refine Effect.after (State.modArm_effect ..) (by decide +kernel) ?_
    exact Effect.refl _ _ _

def State.newEpoch_touch : List Part := [.faults, .host, .journal, .out]
def State.newEpoch_fields : Option (List Field) := some [Reg.COLLECT_STATUS_LO.STATUS, Reg.COLLECT_STATUS_HI.STATUS, Reg.FAULT_COUNT_CORR.COUNT, Reg.FAULT_COUNT_CONT.COUNT, Reg.FAULT_COUNT_FATAL.COUNT, Reg.FAULT_EVENT.CORRECTED, Reg.FAULT_EVENT.CONTAINED, Reg.FAULT_EVENT.FATAL, Reg.FAULT_EVENT.HIST_LOST, Reg.FAULT_HIST_STATUS.LOST, Reg.JRN_STATUS.FILL, Reg.JRN_STATUS.MRAM_OK, Reg.JRN_STATUS.EPOCH_CAUSE, Reg.JRN_EPOCH.EPOCH, Reg.JRN_EXEC.COUNT, Reg.JRN_ACCEPTED.COUNT, Reg.JRN_BUSY.OTHER, Reg.JRN_EVENT.NEW_EPOCH, Reg.JRN_EVENT.MRAM_FAIL, Reg.JRN_SRC_LAST.LAST, Reg.JRN_CPL_TAIL.INDEX, Reg.JRN_RING_STATUS.PHASE, Reg.BB_STATUS.TX_IDLE]
theorem State.newEpoch_effect (s : State) (p1 : Nat) (p2 : Nat) (p3 : Bool) :
    Effect State.newEpoch_touch State.newEpoch_fields s (@State.newEpoch s p1 p2 p3) := by
  unfold State.newEpoch
  refine Effect.ite ?_ ?_
  · refine Effect.after (State.mramResult_effect ..) (by decide +kernel) ?_
    refine Effect.after (State.startEpoch_effect ..) (by decide +kernel) ?_
    exact Effect.refl _ _ _
  · exact Effect.refl _ _ _

def State.heatTimers_touch : List Part := [.power]
def State.heatTimers_fields : Option (List Field) := some [Reg.PLAN_LEVEL.THROTTLE, Reg.PLAN_THERMAL.HEADROOM, Reg.FRAME_EVENT.THROTTLE]
theorem State.heatTimers_effect (s : State) (p1 : Option Nat) :
    Effect State.heatTimers_touch State.heatTimers_fields s (@State.heatTimers s p1) := by
  unfold State.heatTimers
  extract_lets x1 x2 x3 x4 x5
  have h6 : Effect State.heatTimers_touch State.heatTimers_fields s x3 := by
    refine Effect.after (State.wrS_effect ..) (by decide +kernel) ?_
    exact Effect.refl _ _ _
  try clear_value x3
  have h7 : Effect State.heatTimers_touch State.heatTimers_fields s x4 := by
    refine Effect.when ?_ ?_
    · exact h6
    · intro u8
      try beta_reduce
      refine Effect.after (State.wr_effect ..) (by decide +kernel) ?_
      exact Effect.refl _ _ _
  try clear_value x4
  have h10 : Effect State.heatTimers_touch State.heatTimers_fields s x5 := by
    refine Effect.after (State.wr_effect ..) (by decide +kernel) ?_
    exact h7
  try clear_value x5
  try clear_value x1 x2
  refine Effect.after (State.modPower_effect ..) (by decide +kernel) ?_
  exact h10

def State.thermalShutdown_touch : List Part := [.hold, .wrHold, .power, .faults, .host, .load, .cfg, .fr, .images, .lanes, .chains, .cells, .arms, .engs, .convs, .referee, .pair, .journal, .adc, .drives, .motors, .safety, .eths, .canQueues, .cans, .out]
def State.thermalShutdown_fields : Option (List Field) := none
theorem State.thermalShutdown_effect (s : State) (p1 : Nat) :
    Effect State.thermalShutdown_touch State.thermalShutdown_fields s (@State.thermalShutdown s p1) := by
  unfold State.thermalShutdown
  refine Effect.after (State.enterKeepOnly_effect ..) (by decide +kernel) ?_
  refine Effect.after (State.wr_effect ..) (by decide +kernel) ?_
  refine Effect.after (State.raiseVia_effect ..) (by decide +kernel) ?_
  exact Effect.refl _ _ _

def State.logicHeat_touch : List Part := [.hold, .wrHold, .power, .faults, .host, .load, .cfg, .fr, .images, .lanes, .chains, .cells, .arms, .engs, .convs, .referee, .pair, .journal, .adc, .drives, .motors, .safety, .eths, .canQueues, .cans, .out]
def State.logicHeat_fields : Option (List Field) := none
theorem State.logicHeat_effect (s : State) :
    Effect State.logicHeat_touch State.logicHeat_fields s (@State.logicHeat s) := by
  unfold State.logicHeat
  extract_lets x1 x2 x3
  have h4 : Effect State.logicHeat_touch State.logicHeat_fields s x1 := by
    refine Effect.when ?_ ?_
    · exact Effect.refl _ _ _
    · intro u5
      try beta_reduce
      refine Effect.after (State.raise_effect ..) (by decide +kernel) ?_
      exact Effect.refl _ _ _
  try clear_value x1
  have h7 : Effect State.logicHeat_touch State.logicHeat_fields s x2 := by
    refine Effect.when ?_ ?_
    · refine Effect.after (State.wr_effect ..) (by decide +kernel) ?_
      exact h4
    · intro u8
      try beta_reduce
      refine Effect.after (State.evBit_effect ..) (by decide +kernel) ?_
      exact Effect.refl _ _ _
  try clear_value x2
  try clear_value x3
  split
  · refine Effect.after (State.heatTimers_effect ..) (by decide +kernel) ?_
    refine Effect.after (State.wr_effect ..) (by decide +kernel) ?_
    exact h7
  · extract_lets x10 x11 x12 x13 x14 x15
    have h16 : Effect State.logicHeat_touch State.logicHeat_fields s x11 := by
      refine Effect.after (State.wr_effect ..) (by decide +kernel) ?_
      refine Effect.after (State.wr_effect ..) (by decide +kernel) ?_
      refine Effect.after (State.wr_effect ..) (by decide +kernel) ?_
      exact Effect.refl _ _ _
    try clear_value x11
    have h17 : Effect State.logicHeat_touch State.logicHeat_fields s x12 := by
      refine Effect.after (State.wr_effect ..) (by decide +kernel) ?_
      exact h16
    try clear_value x12
    have h18 : Effect State.logicHeat_touch State.logicHeat_fields s x13 := by
      refine Effect.when ?_ ?_
      · exact h17
      · intro u19
        try beta_reduce
        refine Effect.after (State.evBit_effect ..) (by decide +kernel) ?_
        exact Effect.refl _ _ _
    try clear_value x13
    have h21 : Effect State.logicHeat_touch State.logicHeat_fields s x14 := by
      refine Effect.when ?_ ?_
      · exact h18
      · intro u22
        try beta_reduce
        refine Effect.after (State.raise_effect ..) (by decide +kernel) ?_
        refine Effect.after (State.evBit_effect ..) (by decide +kernel) ?_
        exact Effect.refl _ _ _
    try clear_value x14
    have h24 : Effect State.logicHeat_touch State.logicHeat_fields s x15 := by
      refine Effect.after (State.bandRound_effect ..) (by decide +kernel) ?_
      refine Effect.after (State.heatTimers_effect ..) (by decide +kernel) ?_
      exact h21
    try clear_value x15
    try clear_value x10
    refine Effect.ite ?_ ?_
    · refine Effect.after (State.thermalShutdown_effect ..) (by decide +kernel) ?_
      exact h24
    · exact h24

def State.canSlotEnd_touch : List Part := [.canQueues, .cans]
def State.canSlotEnd_fields : Option (List Field) := some [Reg.CAN_TXQ.FILL, Reg.CAN_EVENT.EVENTS]
theorem State.canSlotEnd_effect (s : State) (p1 : Nat) (p2 : Nat) (p3 : Bool) :
    Effect State.canSlotEnd_touch State.canSlotEnd_fields s (@State.canSlotEnd s p1 p2 p3) := by
  unfold State.canSlotEnd
  extract_lets x1 x2
  have h3 : Effect State.canSlotEnd_touch State.canSlotEnd_fields s x2 := by
    unfold x2
    split
    · extract_lets x4 x5
      have h6 : Effect State.canSlotEnd_touch State.canSlotEnd_fields s x5 := by
        refine Effect.after (State.setCanMsgs_effect ..) (by decide +kernel) ?_
        exact Effect.refl _ _ _
      try clear_value x5
      refine Effect.ite ?_ ?_
      · refine Effect.after (State.evBit_effect ..) (by decide +kernel) ?_
        refine Effect.after (State.modCan_effect ..) (by decide +kernel) ?_
        exact h6
      · exact Effect.refl _ _ _
    · exact Effect.refl _ _ _
  try clear_value x2
  try clear_value x1
  refine Effect.ite ?_ ?_
  · exact Effect.refl _ _ _
  · refine Effect.after (State.modCan_effect ..) (by decide +kernel) ?_
    exact h3

def State.ppsLost_touch : List Part := []
def State.ppsLost_fields : Option (List Field) := some [Reg.TIME_STATUS.SYNC, Reg.TIME_STATUS.SERVO_LOCK, Reg.TIME_STATUS.PPS_LOST, Reg.TIME_EVENT.EVENTS]
theorem State.ppsLost_effect (s : State) :
    Effect State.ppsLost_touch State.ppsLost_fields s (@State.ppsLost s) := by
  unfold State.ppsLost
  extract_lets x1 x2
  have h3 : Effect State.ppsLost_touch State.ppsLost_fields s x2 := by
    refine Effect.when ?_ ?_
    · exact Effect.refl _ _ _
    · intro u4
      try beta_reduce
      refine Effect.after (State.evBit_effect ..) (by decide +kernel) ?_
      exact Effect.refl _ _ _
  try clear_value x2
  try clear_value x1
  refine Effect.ite ?_ ?_
  · refine Effect.after (State.setSync_effect ..) (by decide +kernel) ?_
    refine Effect.after (State.wr_effect ..) (by decide +kernel) ?_
    refine Effect.after (State.wr_effect ..) (by decide +kernel) ?_
    exact h3
  · exact Effect.refl _ _ _

def State.portBusy_touch : List Part := [.host]
def State.portBusy_fields : Option (List Field) := some []
theorem State.portBusy_effect (s : State) (p1 : Nat) :
    Effect State.portBusy_touch State.portBusy_fields s (@State.portBusy s p1) := by
  unfold State.portBusy
  extract_lets x1
  try clear_value x1
  refine Effect.after (Effect.host _ _) (by decide +kernel) ?_
  exact Effect.refl _ _ _

def State.bbUp_touch : List Part := [.host, .pair]
def State.bbUp_fields : Option (List Field) := some [Reg.BB_STATUS.UP, Reg.BB_STATUS.TX_IDLE, Reg.BB_STATUS.RX_IDLE, Reg.BB_STATUS.CLOCK, Reg.BB_STATUS.SKEW, Reg.BB_EVENT.EVENTS]
theorem State.bbUp_effect (s : State) (p1 : Nat) (p2 : Nat) :
    Effect State.bbUp_touch State.bbUp_fields s (@State.bbUp s p1 p2) := by
  unfold State.bbUp
  extract_lets x1 x2 x3
  have h4 : Effect State.bbUp_touch State.bbUp_fields s x1 := by
    refine Effect.when ?_ ?_
    · exact Effect.refl _ _ _
    · intro u5
      try beta_reduce
      refine Effect.after (State.portBusy_effect ..) (by decide +kernel) ?_
      refine Effect.after (State.evBit_effect ..) (by decide +kernel) ?_
      exact Effect.refl _ _ _
  try clear_value x1
  have h7 : Effect State.bbUp_touch State.bbUp_fields s x2 := by
    refine Effect.after (State.wr_effect ..) (by decide +kernel) ?_
    refine Effect.after (State.wr_effect ..) (by decide +kernel) ?_
    refine Effect.after (State.wr_effect ..) (by decide +kernel) ?_
    exact h4
  try clear_value x2
  have h8 : Effect State.bbUp_touch State.bbUp_fields s x3 := by
    refine Effect.after (State.wr_effect ..) (by decide +kernel) ?_
    refine Effect.after (State.wr_effect ..) (by decide +kernel) ?_
    exact h7
  try clear_value x3
  refine Effect.ite ?_ ?_
  · exact Effect.refl _ _ _
  · refine Effect.ite ?_ ?_
    · refine Effect.after (State.modPairSt_effect ..) (by decide +kernel) ?_
      exact h8
    · exact h8

def State.pairConvs_touch : List Part := [.arms]
def State.pairConvs_fields : Option (List Field) := some [Reg.CONV_STATE.STATE, Reg.CONV_STATE.CAUSE, Reg.CONV_STATE.SLEWING, Reg.CONV_STATE_FRAME.FRAME, Reg.CONV_RESIDUAL.E]
theorem State.pairConvs_effect (s : State) (p1 : List Byte) :
    Effect State.pairConvs_touch State.pairConvs_fields s (@State.pairConvs s p1) := by
  unfold State.pairConvs
  refine Effect.each ?_ ?_
  · exact Effect.refl _ _ _
  · intro u1 a2
    try beta_reduce
    extract_lets x3 x4 x5
    have h6 : Effect State.pairConvs_touch State.pairConvs_fields u1 x4 := by
      refine Effect.ite ?_ ?_
      · exact Effect.refl _ _ _
      · refine Effect.after (State.setConv_effect ..) (by decide +kernel) ?_
        exact Effect.refl _ _ _
    try clear_value x4
    have h7 : Effect State.pairConvs_touch State.pairConvs_fields u1 x5 := by
      refine Effect.after (State.wr_effect ..) (by decide +kernel) ?_
      exact h6
    try clear_value x5
    try clear_value x3
    refine Effect.after (State.showResidual_effect ..) (by decide +kernel) ?_
    refine Effect.each ?_ ?_
    · exact h7
    · intro u8 a9
      try beta_reduce
      refine Effect.after (State.modArm_effect ..) (by decide +kernel) ?_
      exact Effect.refl _ _ _

def State.pairApply_touch : List Part := [.faults, .lanes, .chains, .cells, .arms, .pair]
def State.pairApply_fields : Option (List Field) := some [Reg.CONV_STATE.STATE, Reg.CONV_STATE.CAUSE, Reg.CONV_STATE.SLEWING, Reg.CONV_STATE_FRAME.FRAME, Reg.CONV_RESIDUAL.E, Reg.COLLECT_STATUS_LO.STATUS, Reg.COLLECT_STATUS_HI.STATUS, Reg.FAULT_COUNT_CORR.COUNT, Reg.FAULT_COUNT_CONT.COUNT, Reg.FAULT_COUNT_FATAL.COUNT, Reg.FAULT_EVENT.CORRECTED, Reg.FAULT_EVENT.CONTAINED, Reg.FAULT_EVENT.FATAL, Reg.FAULT_EVENT.HIST_LOST, Reg.FAULT_HIST_STATUS.LOST, Reg.LANE_STATUS.STATE, Reg.LANE_STATUS.CHAIN_LATE, Reg.LANE_STATUS.SERVED, Reg.LANE_STATUS.FIRST_Q, Reg.LANE_CHAIN.SPLIT, Reg.LANE_CHAIN.GAP, Reg.LANE_SEGDOWN_LO.DOWN, Reg.LANE_SEGDOWN_HI.DOWN, Reg.LANE_UPBASE.U, Reg.LANE_BUDGET.DELIVERY, Reg.LANE_BUDGET.COMPLETION, Reg.LANE_EVENT.CHAIN_LATE, Reg.LANE_DELAY.D, Reg.LANE_DELAY.VALID, Reg.CELL_STATE.STATE, Reg.CELL_STATE.CONFIRMED, Reg.CELL_STATE.REASON, Reg.CELL_STATE_FRAME.FRAME, Reg.TS_RECORDED_LO.IDENTITY, Reg.TS_RECORDED_HI.IDENTITY, Reg.CELL_UNROSTERED_LO.CHAINS, Reg.CELL_UNROSTERED_HI.CHAINS, Reg.CELL_LAST.CELL, Reg.CELL_LAST.STATE, Reg.CELL_LAST.REASON, Reg.CELL_EVENT.PENDING, Reg.CELL_EVENT.BYPASS, Reg.CELL_EVENT.REJECTED, Reg.CELL_EVENT.OUT]
theorem State.pairApply_effect (s : State) :
    Effect State.pairApply_touch State.pairApply_fields s (@State.pairApply s) := by
  unfold State.pairApply
  extract_lets x1 x2
  have h3 : Effect State.pairApply_touch State.pairApply_fields s x2 := by
    refine Effect.after (State.modPairSt_effect ..) (by decide +kernel) ?_
    exact Effect.refl _ _ _
  try clear_value x2
  try clear_value x1
  refine Effect.ite ?_ ?_
  · exact h3
  · refine Effect.each ?_ ?_
    · exact h3
    · intro u4 a5
      try beta_reduce
      extract_lets x6
      try clear_value x6
      refine Effect.ite ?_ ?_
      · exact Effect.refl _ _ _
      · refine Effect.after (State.pairConvs_effect ..) (by decide +kernel) ?_
        refine Effect.each ?_ ?_
        · exact Effect.refl _ _ _
        · intro u7 a8
          try beta_reduce
          refine Effect.after (State.pairItem_effect ..) (by decide +kernel) ?_
          exact Effect.refl _ _ _

def State.summarise_touch : List Part := []
def State.summarise_fields : Option (List Field) := some [Reg.CELL_SUMMARY0.SERVICE, Reg.CELL_SUMMARY0.BYPASSED, Reg.CELL_SUMMARY1.PENDING, Reg.CELL_SUMMARY1.OUT, Reg.CELL_SUMMARY2.ABSENT, Reg.CELL_SUMMARY2.REJECTED, Reg.CELL_PENDING_FIRST.CELL]
theorem State.summarise_effect (s : State) :
    Effect State.summarise_touch State.summarise_fields s (@State.summarise s) := by
  unfold State.summarise
  extract_lets x1 x2 x3 x4
  have h5 : Effect State.summarise_touch State.summarise_fields s x1 := by
    refine Effect.after (State.wr_effect ..) (by decide +kernel) ?_
    refine Effect.after (State.wr_effect ..) (by decide +kernel) ?_
    exact Effect.refl _ _ _
  try clear_value x1
  have h6 : Effect State.summarise_touch State.summarise_fields s x2 := by
    refine Effect.after (State.wr_effect ..) (by decide +kernel) ?_
    refine Effect.after (State.wr_effect ..) (by decide +kernel) ?_
    exact h5
  try clear_value x2
  have h7 : Effect State.summarise_touch State.summarise_fields s x3 := by
    refine Effect.after (State.wr_effect ..) (by decide +kernel) ?_
    refine Effect.after (State.wr_effect ..) (by decide +kernel) ?_
    exact h6
  try clear_value x3
  try clear_value x4
  refine Effect.after (State.wr_effect ..) (by decide +kernel) ?_
  exact h7

def State.rankWindow_touch : List Part := [.fr, .cells, .arms, .drawn]
def State.rankWindow_fields : Option (List Field) := some [Reg.TRK_STATUS.CTRL_HIWATER, Reg.ARM_STATUS.FLAGS, Reg.ARM_STATUS.ACTIVE, Reg.ARM_LEVEL.N_FULL, Reg.ARM_LEVEL.N_NL, Reg.ARM_TRIM.FRAC, Reg.ARM_TRIM.TRIM, Reg.ARM_PTR.PTR, Reg.ARM_PTR.ELIGIBLE, Reg.ARM_SHORT.SHORT, Reg.ARM_SHORT.FRAMES, Reg.ARM_DWELL.MOVED, Reg.ARM_DWELL.DEFERRED, Reg.ARM_SWITCHED.LAST, Reg.ARM_TJ.TJ_MAX, Reg.ARM_TJ.TJ_MEAN, Reg.ARM_TJ_CELL.CELL, Reg.ARM_IARM.I, Reg.ARM_VREF.V, Reg.ARM_EVENT.SHORTFALL, Reg.ARM_EVENT.DEFER, Reg.ARM_EVENT.COAST, Reg.ARM_EVENT.I_HELD, Reg.CELL_STATE.EXCLUDED, Reg.CELL_TEMP.TJ, Reg.CELL_COUNT.EXCLUDED]
theorem State.rankWindow_effect (s : State) (p1 : ArmCfg) (p2 : Bool) :
    Effect State.rankWindow_touch State.rankWindow_fields s (@State.rankWindow s p1 p2) := by
  unfold State.rankWindow
  extract_lets x1 x2 x3
  try clear_value x1 x2 x3
  refine Effect.ite ?_ ?_
  · exact Effect.refl _ _ _
  · split
    · extract_lets x4
      have h5 : Effect State.rankWindow_touch State.rankWindow_fields s x4 := by
        refine Effect.after (State.rankArm_effect ..) (by decide +kernel) ?_
        refine Effect.after (State.ctrlAsk_effect ..) (by decide +kernel) ?_
        exact Effect.refl _ _ _
      try clear_value x4
      refine Effect.after (State.modArm_effect ..) (by decide +kernel) ?_
      exact h5

def State.rankAll_touch : List Part := [.faults, .fr, .lanes, .chains, .cells, .arms, .pair, .drawn]
def State.rankAll_fields : Option (List Field) := some [Reg.CONV_STATE.STATE, Reg.CONV_STATE.CAUSE, Reg.CONV_STATE.SLEWING, Reg.CONV_STATE_FRAME.FRAME, Reg.CONV_RESIDUAL.E, Reg.COLLECT_STATUS_LO.STATUS, Reg.COLLECT_STATUS_HI.STATUS, Reg.FAULT_COUNT_CORR.COUNT, Reg.FAULT_COUNT_CONT.COUNT, Reg.FAULT_COUNT_FATAL.COUNT, Reg.FAULT_EVENT.CORRECTED, Reg.FAULT_EVENT.CONTAINED, Reg.FAULT_EVENT.FATAL, Reg.FAULT_EVENT.HIST_LOST, Reg.FAULT_HIST_STATUS.LOST, Reg.TRK_STATUS.CTRL_HIWATER, Reg.LANE_STATUS.STATE, Reg.LANE_STATUS.CHAIN_LATE, Reg.LANE_STATUS.SERVED, Reg.LANE_STATUS.FIRST_Q, Reg.LANE_CHAIN.SPLIT, Reg.LANE_CHAIN.GAP, Reg.LANE_SEGDOWN_LO.DOWN, Reg.LANE_SEGDOWN_HI.DOWN, Reg.LANE_UPBASE.U, Reg.LANE_BUDGET.DELIVERY, Reg.LANE_BUDGET.COMPLETION, Reg.LANE_EVENT.CHAIN_LATE, Reg.LANE_DELAY.D, Reg.LANE_DELAY.VALID, Reg.ARM_STATUS.FLAGS, Reg.ARM_STATUS.ACTIVE, Reg.ARM_LEVEL.N_FULL, Reg.ARM_LEVEL.N_NL, Reg.ARM_TRIM.FRAC, Reg.ARM_TRIM.TRIM, Reg.ARM_PTR.PTR, Reg.ARM_PTR.ELIGIBLE, Reg.ARM_SHORT.SHORT, Reg.ARM_SHORT.FRAMES, Reg.ARM_DWELL.MOVED, Reg.ARM_DWELL.DEFERRED, Reg.ARM_SWITCHED.LAST, Reg.ARM_TJ.TJ_MAX, Reg.ARM_TJ.TJ_MEAN, Reg.ARM_TJ_CELL.CELL, Reg.ARM_IARM.I, Reg.ARM_VREF.V, Reg.ARM_EVENT.SHORTFALL, Reg.ARM_EVENT.DEFER, Reg.ARM_EVENT.COAST, Reg.ARM_EVENT.I_HELD, Reg.CELL_STATE.STATE, Reg.CELL_STATE.EXCLUDED, Reg.CELL_STATE.CONFIRMED, Reg.CELL_STATE.NO_BYPASS, Reg.CELL_STATE.REASON, Reg.CELL_STATE.T_INVALID, Reg.CELL_TEMP.T_HS, Reg.CELL_TEMP.TJ, Reg.CELL_FAULT.REPORTED, Reg.CELL_FAULT.SEEN, Reg.CELL_FAULT.TOGGLES, Reg.CELL_COUNT.EXCLUDED, Reg.CELL_COUNT.SWAPS, Reg.CELL_STATE_FRAME.FRAME, Reg.TS_RECORDED_LO.IDENTITY, Reg.TS_RECORDED_HI.IDENTITY, Reg.TS_CALL.RESULT, Reg.CELL_SUMMARY0.SERVICE, Reg.CELL_SUMMARY0.BYPASSED, Reg.CELL_SUMMARY1.PENDING, Reg.CELL_SUMMARY1.OUT, Reg.CELL_SUMMARY2.ABSENT, Reg.CELL_SUMMARY2.REJECTED, Reg.CELL_PENDING_FIRST.CELL, Reg.CELL_UNROSTERED_LO.CHAINS, Reg.CELL_UNROSTERED_HI.CHAINS, Reg.CELL_LAST.CELL, Reg.CELL_LAST.STATE, Reg.CELL_LAST.REASON, Reg.CELL_EVENT.PENDING, Reg.CELL_EVENT.BYPASS, Reg.CELL_EVENT.REJECTED, Reg.CELL_EVENT.SWAP, Reg.CELL_EVENT.OUT, Reg.CELL_EVENT.UNCONFIRMED]
theorem State.rankAll_effect (s : State) (p1 : Bool) :
    Effect State.rankAll_touch State.rankAll_fields s (@State.rankAll s p1) := by
  unfold State.rankAll
  extract_lets x1 x2 x3
  have h4 : Effect State.rankAll_touch State.rankAll_fields s x2 := by
    refine Effect.each ?_ ?_
    · exact Effect.refl _ _ _
    · intro u5 a6
      try beta_reduce
      refine Effect.ite ?_ ?_
      · refine Effect.after (State.checkArm_effect ..) (by decide +kernel) ?_
        exact Effect.refl _ _ _
      · exact Effect.refl _ _ _
  try clear_value x2
  have h7 : Effect State.rankAll_touch State.rankAll_fields s x3 := by
    refine Effect.after (State.pairApply_effect ..) (by decide +kernel) ?_
    exact h4
  try clear_value x3
  refine Effect.after (State.summarise_effect ..) (by decide +kernel) ?_
  refine Effect.each ?_ ?_
  · exact h7
  · intro u8 a9
    try beta_reduce
    refine Effect.after (State.rankWindow_effect ..) (by decide +kernel) ?_
    exact Effect.refl _ _ _

def State.linkSilence_touch : List Part := [.faults, .convs, .safety]
def State.linkSilence_fields : Option (List Field) := some [Reg.COLLECT_STATUS_LO.STATUS, Reg.COLLECT_STATUS_HI.STATUS, Reg.FAULT_COUNT_CORR.COUNT, Reg.FAULT_COUNT_CONT.COUNT, Reg.FAULT_COUNT_FATAL.COUNT, Reg.FAULT_EVENT.CORRECTED, Reg.FAULT_EVENT.CONTAINED, Reg.FAULT_EVENT.FATAL, Reg.FAULT_EVENT.HIST_LOST, Reg.FAULT_HIST_STATUS.LOST, Reg.SAFE_STATUS.A_OK, Reg.SAFE_STATUS.B_OK, Reg.SAFE_STATUS.DIAG, Reg.SAFE_STATUS.DIAG_CAUSE, Reg.SAFE_STATUS.RESET_PIN, Reg.SAFE_STATUS.DEMAND, Reg.SAFE_STATUS.LOCKED, Reg.SAFE_STATUS.DIAG_A, Reg.SAFE_STATUS.DIAG_B, Reg.SAFE_GROUP.STATE, Reg.SAFE_GROUP.KIND, Reg.SAFE_GROUP.STOP, Reg.SAFE_GROUP.CAUSE, Reg.SAFE_GROUP.PAIRS, Reg.SAFE_PAIR.CH_A, Reg.SAFE_PAIR.CH_B, Reg.SAFE_PAIR.DEMAND, Reg.SAFE_PAIR.PAIR_FAULT, Reg.SAFE_PAIR.FAULT_CAUSE, Reg.SAFE_PAIR.DEMANDS, Reg.SAFE_TPO.EN, Reg.SAFE_TPO.READBACK_FAULT, Reg.SAFE_FIRE.FIRE_A, Reg.SAFE_FIRE.FIRE_B, Reg.SAFE_FIRE.DRV_A, Reg.SAFE_FIRE.DRV_B, Reg.SAFE_RESET_STATUS.ARMED, Reg.SAFE_RESET_STATUS.RELEASED, Reg.SAFE_RESET_STATUS.REFUSED, Reg.SAFE_EVENT.DEMAND, Reg.SAFE_EVENT.STOPPING, Reg.SAFE_EVENT.REMOVED, Reg.SAFE_EVENT.DIAG, Reg.SAFE_EVENT.RESET_REFUSED]
theorem State.linkSilence_effect (s : State) (p1 : Bool) :
    Effect State.linkSilence_touch State.linkSilence_fields s (@State.linkSilence s p1) := by
  unfold State.linkSilence
  extract_lets x1
  try clear_value x1
  refine Effect.ite ?_ ?_
  · refine Effect.after (State.diagFail_effect ..) (by decide +kernel) ?_
    exact Effect.refl _ _ _
  · exact Effect.refl _ _ _

def State.probeOver_touch : List Part := [.drives]
def State.probeOver_fields : Option (List Field) := some [Reg.DRV_STATUS.LEG_FAULT, Reg.DRV_LEG_STATUS.DESAT_HS, Reg.DRV_LEG_STATUS.DESAT_LS, Reg.DRV_LEG_STATUS.INSTANT, Reg.DRV_LEG_STATUS.VB_UV, Reg.DRV_LEG_STATUS.GATES_OFF]
theorem State.probeOver_effect (s : State) (p1 : Nat) :
    Effect State.probeOver_touch State.probeOver_fields s (@State.probeOver s p1) := by
  unfold State.probeOver
  extract_lets x1
  try clear_value x1
  refine Effect.ite ?_ ?_
  · refine Effect.each ?_ ?_
    · refine Effect.after (State.modDrv_effect ..) (by decide +kernel) ?_
      exact Effect.refl _ _ _
    · intro u2 a3
      try beta_reduce
      refine Effect.after (State.command_effect ..) (by decide +kernel) ?_
      exact Effect.refl _ _ _
  · exact Effect.refl _ _ _

def State.commitEngines_touch : List Part := [.engs]
def State.commitEngines_fields : Option (List Field) := some [Reg.ENG_STATUS.LOADED, Reg.ENG_STATUS.QUIET, Reg.ENG_STATUS.BLOCKS, Reg.ENG_COST.STATIC, Reg.ENG_COST.SUM, Reg.ENG_BANK.ACTIVE, Reg.ENG_BANK.ENTRIES, Reg.ENG_SIZE.STATE_WORDS, Reg.ENG_SIZE.EXPORTS, Reg.ENG_PARAM.VALUE]
theorem State.commitEngines_effect (s : State) :
    Effect State.commitEngines_touch State.commitEngines_fields s (@State.commitEngines s) := by
  unfold State.commitEngines
  extract_lets x1
  have h2 : Effect State.commitEngines_touch State.commitEngines_fields s x1 := by
    refine Effect.after (State.setBank_effect ..) (by decide +kernel) ?_
    exact Effect.refl _ _ _
  try clear_value x1
  refine Effect.each ?_ ?_
  · exact h2
  · intro u3 a4
    try beta_reduce
    extract_lets x5 x6
    have h7 : Effect State.commitEngines_touch State.commitEngines_fields u3 x6 := by
      refine Effect.each ?_ ?_
      · exact Effect.refl _ _ _
      · intro u8 a9
        try beta_reduce
        extract_lets x10 x11 x12 x13 x14 x15
        have h16 : Effect State.commitEngines_touch State.commitEngines_fields u8 x10 := by
          refine Effect.after (State.modEng_effect ..) (by decide +kernel) ?_
          exact Effect.refl _ _ _
        try clear_value x10
        have h17 : Effect State.commitEngines_touch State.commitEngines_fields u8 x11 := by
          refine Effect.after (State.wr_effect ..) (by decide +kernel) ?_
          refine Effect.after (State.wr_effect ..) (by decide +kernel) ?_
          exact h16
        try clear_value x11
        have h18 : Effect State.commitEngines_touch State.commitEngines_fields u8 x12 := by
          refine Effect.after (State.wr_effect ..) (by decide +kernel) ?_
          exact h17
        try clear_value x12
        have h19 : Effect State.commitEngines_touch State.commitEngines_fields u8 x13 := by
          refine Effect.after (State.wr_effect ..) (by decide +kernel) ?_
          exact h18
        try clear_value x13
        have h20 : Effect State.commitEngines_touch State.commitEngines_fields u8 x14 := by
          refine Effect.after (State.wr_effect ..) (by decide +kernel) ?_
          exact h19
        try clear_value x14
        have h21 : Effect State.commitEngines_touch State.commitEngines_fields u8 x15 := by
          refine Effect.after (State.wr_effect ..) (by decide +kernel) ?_
          refine Effect.after (State.wr_effect ..) (by decide +kernel) ?_
          exact h20
        try clear_value x15
        refine Effect.after (State.wr_effect ..) (by decide +kernel) ?_
        exact h21
    try clear_value x6
    try clear_value x5
    refine Effect.each ?_ ?_
    · exact h7
    · intro u22 a23
      try beta_reduce
      refine Effect.after (State.setParam_effect ..) (by decide +kernel) ?_
      exact Effect.refl _ _ _

def State.roleLost_touch : List Part := [.faults, .arms, .convs, .safety]
def State.roleLost_fields : Option (List Field) := some [Reg.COLLECT_STATUS_LO.STATUS, Reg.COLLECT_STATUS_HI.STATUS, Reg.FAULT_COUNT_CORR.COUNT, Reg.FAULT_COUNT_CONT.COUNT, Reg.FAULT_COUNT_FATAL.COUNT, Reg.FAULT_EVENT.CORRECTED, Reg.FAULT_EVENT.CONTAINED, Reg.FAULT_EVENT.FATAL, Reg.FAULT_EVENT.HIST_LOST, Reg.FAULT_HIST_STATUS.LOST, Reg.SAFE_STATUS.A_OK, Reg.SAFE_STATUS.B_OK, Reg.SAFE_STATUS.DIAG, Reg.SAFE_STATUS.DIAG_CAUSE, Reg.SAFE_STATUS.RESET_PIN, Reg.SAFE_STATUS.DEMAND, Reg.SAFE_STATUS.LOCKED, Reg.SAFE_STATUS.DIAG_A, Reg.SAFE_STATUS.DIAG_B, Reg.SAFE_GROUP.STATE, Reg.SAFE_GROUP.KIND, Reg.SAFE_GROUP.STOP, Reg.SAFE_GROUP.CAUSE, Reg.SAFE_GROUP.PAIRS, Reg.SAFE_PAIR.CH_A, Reg.SAFE_PAIR.CH_B, Reg.SAFE_PAIR.DEMAND, Reg.SAFE_PAIR.PAIR_FAULT, Reg.SAFE_PAIR.FAULT_CAUSE, Reg.SAFE_PAIR.DEMANDS, Reg.SAFE_TPO.EN, Reg.SAFE_TPO.READBACK_FAULT, Reg.SAFE_FIRE.FIRE_A, Reg.SAFE_FIRE.FIRE_B, Reg.SAFE_FIRE.DRV_A, Reg.SAFE_FIRE.DRV_B, Reg.SAFE_RESET_STATUS.ARMED, Reg.SAFE_RESET_STATUS.RELEASED, Reg.SAFE_RESET_STATUS.REFUSED, Reg.SAFE_EVENT.DEMAND, Reg.SAFE_EVENT.STOPPING, Reg.SAFE_EVENT.REMOVED, Reg.SAFE_EVENT.DIAG, Reg.SAFE_EVENT.RESET_REFUSED]
theorem State.roleLost_effect (s : State) (p1 : Nat) :
    Effect State.roleLost_touch State.roleLost_fields s (@State.roleLost s p1) := by
  unfold State.roleLost
  extract_lets x1 x2
  have h3 : Effect State.roleLost_touch State.roleLost_fields s x2 := by
    refine Effect.after (State.modArm_effect ..) (by decide +kernel) ?_
    exact Effect.refl _ _ _
  try clear_value x2
  try clear_value x1
  refine Effect.ite ?_ ?_
  · split
    · refine Effect.after (State.blockAtTick_effect ..) (by decide +kernel) ?_
      exact h3
    · exact h3
  · refine Effect.ite ?_ ?_
    · refine Effect.after (State.diagFail_effect ..) (by decide +kernel) ?_
      refine Effect.after (State.diagFail_effect ..) (by decide +kernel) ?_
      exact Effect.refl _ _ _
    · exact Effect.refl _ _ _

def State.substStart_touch : List Part := [.faults, .load, .arms, .convs, .safety]
def State.substStart_fields : Option (List Field) := some [Reg.ROLE_COUNT.LANE_SLICES, Reg.ROLE_COUNT.ARM_SLICES, Reg.ROLE_COUNT.RECORDER, Reg.ROLE_COUNT.MIRROR, Reg.ROLE_COUNT.SPARE, Reg.ROLE_COUNT.UNASSIGNED, Reg.COLLECT_STATUS_LO.STATUS, Reg.COLLECT_STATUS_HI.STATUS, Reg.FAULT_COUNT_CORR.COUNT, Reg.FAULT_COUNT_CONT.COUNT, Reg.FAULT_COUNT_FATAL.COUNT, Reg.FAULT_EVENT.CORRECTED, Reg.FAULT_EVENT.CONTAINED, Reg.FAULT_EVENT.FATAL, Reg.FAULT_EVENT.HIST_LOST, Reg.FAULT_HIST_STATUS.LOST, Reg.SAFE_STATUS.A_OK, Reg.SAFE_STATUS.B_OK, Reg.SAFE_STATUS.DIAG, Reg.SAFE_STATUS.DIAG_CAUSE, Reg.SAFE_STATUS.RESET_PIN, Reg.SAFE_STATUS.DEMAND, Reg.SAFE_STATUS.LOCKED, Reg.SAFE_STATUS.DIAG_A, Reg.SAFE_STATUS.DIAG_B, Reg.SAFE_GROUP.STATE, Reg.SAFE_GROUP.KIND, Reg.SAFE_GROUP.STOP, Reg.SAFE_GROUP.CAUSE, Reg.SAFE_GROUP.PAIRS, Reg.SAFE_PAIR.CH_A, Reg.SAFE_PAIR.CH_B, Reg.SAFE_PAIR.DEMAND, Reg.SAFE_PAIR.PAIR_FAULT, Reg.SAFE_PAIR.FAULT_CAUSE, Reg.SAFE_PAIR.DEMANDS, Reg.SAFE_TPO.EN, Reg.SAFE_TPO.READBACK_FAULT, Reg.SAFE_FIRE.FIRE_A, Reg.SAFE_FIRE.FIRE_B, Reg.SAFE_FIRE.DRV_A, Reg.SAFE_FIRE.DRV_B, Reg.SAFE_RESET_STATUS.ARMED, Reg.SAFE_RESET_STATUS.RELEASED, Reg.SAFE_RESET_STATUS.REFUSED, Reg.SAFE_EVENT.DEMAND, Reg.SAFE_EVENT.STOPPING, Reg.SAFE_EVENT.REMOVED, Reg.SAFE_EVENT.DIAG, Reg.SAFE_EVENT.RESET_REFUSED, Reg.IMAGE_SUBST_STATUS.OLD, Reg.IMAGE_SUBST_STATUS.BUSY, Reg.IMAGE_SUBST_STATUS.NEW, Reg.IMAGE_SUBST_STATUS.RESULT, Reg.IMAGE_EVENT.SUBST, Reg.IMAGE_EVENT.SPARE_LOW, Reg.SLICE_ROLE.STATE]
theorem State.substStart_effect (s : State) :
    Effect State.substStart_touch State.substStart_fields s (@State.substStart s) := by
  unfold State.substStart
  refine Effect.ite ?_ ?_
  · exact Effect.refl _ _ _
  · split
    · exact Effect.refl _ _ _
    · extract_lets x1
      have h2 : Effect State.substStart_touch State.substStart_fields s x1 := by
        refine Effect.after (State.wr_effect ..) (by decide +kernel) ?_
        refine Effect.after (State.modLoad_effect ..) (by decide +kernel) ?_
        exact Effect.refl _ _ _
      try clear_value x1
      split
      · refine Effect.after (State.substEnds_effect ..) (by decide +kernel) ?_
        refine Effect.after (State.roleLost_effect ..) (by decide +kernel) ?_
        exact h2
      · extract_lets x3
        have h4 : Effect State.substStart_touch State.substStart_fields s x3 := by
          refine Effect.after (State.wr_effect ..) (by decide +kernel) ?_
          refine Effect.after (State.wr_effect ..) (by decide +kernel) ?_
          exact h2
        try clear_value x3
        refine Effect.after (State.showBusy_effect ..) (by decide +kernel) ?_
        refine Effect.after (State.modLoad_effect ..) (by decide +kernel) ?_
        exact h4

def State.resetNRelease_touch : List Part := [.power]
def State.resetNRelease_fields : Option (List Field) := some [Reg.DOMAIN_STATE.FABRIC, Reg.DOMAIN_STATE.LANE_PHY, Reg.DOMAIN_STATE.BB_PHY, Reg.DOMAIN_STATE.ANALOG, Reg.DOMAIN_STATE.DRAM_ACTIVE, Reg.DOMAIN_STATE.DRAM_SR, Reg.RESET_CAUSE.CAUSE, Reg.RESET_CAUSE.COUNT, Reg.RESET_HELD_MS.MS]
theorem State.resetNRelease_effect (s : State) :
    Effect State.resetNRelease_touch State.resetNRelease_fields s (@State.resetNRelease s) := by
  unfold State.resetNRelease
  extract_lets x1
  have h2 : Effect State.resetNRelease_touch State.resetNRelease_fields s x1 := by
    refine Effect.after (State.modPower_effect ..) (by decide +kernel) ?_
    exact Effect.refl _ _ _
  try clear_value x1
  split
  · exact Effect.refl _ _ _
  · extract_lets x3 x4
    have h5 : Effect State.resetNRelease_touch State.resetNRelease_fields s x4 := by
      refine Effect.ite ?_ ?_
      · exact h2
      · refine Effect.after (State.wr_effect ..) (by decide +kernel) ?_
        refine Effect.after (State.resetLatched_effect ..) (by decide +kernel) ?_
        exact h2
    try clear_value x4
    try clear_value x3
    refine Effect.ite ?_ ?_
    · exact h2
    · refine Effect.after (State.kickStep2_effect ..) (by decide +kernel) ?_
      exact h5

def State.syncLoss_touch : List Part := [.lanes, .drawn]
def State.syncLoss_fields : Option (List Field) := some [Reg.LANE_STATUS.STATE, Reg.LANE_STATUS.SYNC, Reg.LANE_CODE_ERR.CODE, Reg.LANE_CODE_ERR.LOS, Reg.LANE_EVENT.LOST]
theorem State.syncLoss_effect (s : State) (p1 : Nat) :
    Effect State.syncLoss_touch State.syncLoss_fields s (@State.syncLoss s p1) := by
  unfold State.syncLoss
  extract_lets x1
  have h2 : Effect State.syncLoss_touch State.syncLoss_fields s x1 := by
    refine Effect.after (State.bump_effect ..) (by decide +kernel) ?_
    refine Effect.after (State.wr_effect ..) (by decide +kernel) ?_
    exact Effect.refl _ _ _
  try clear_value x1
  refine Effect.ite ?_ ?_
  · exact Effect.refl _ _ _
  · split
    rename_i a4 u5 q6
    have h3 : Effect State.syncLoss_touch State.syncLoss_fields s u5 := by
      refine Effect.of_pair q6 ?_
      refine Effect.after (State.draw_effect ..) (by decide +kernel) ?_
      exact h2
    extract_lets x7 x8
    have h9 : Effect State.syncLoss_touch State.syncLoss_fields s x7 := by
      refine Effect.after (State.bump_effect ..) (by decide +kernel) ?_
      exact h3
    try clear_value x7
    have h10 : Effect State.syncLoss_touch State.syncLoss_fields s x8 := by
      refine Effect.after (State.modLane_effect ..) (by decide +kernel) ?_
      exact h9
    try clear_value x8
    refine Effect.after (State.loseLane_effect ..) (by decide +kernel) ?_
    exact h10

def State.startTimer_touch : List Part := [.fr]
def State.startTimer_fields : Option (List Field) := some [Reg.FRAME_PERIOD.PERIOD, Reg.FRAME_PHASE0.SAMPLE, Reg.FRAME_PHASE0.APPLY, Reg.FRAME_PHASE1.FREEZE, Reg.FRAME_PHASE1.COMPUTE_END, Reg.FRAME_PHASE2.RANK_END, Reg.FRAME_STATUS.RUNNING]
theorem State.startTimer_effect (s : State) (p1 : FrameCfg) :
    Effect State.startTimer_touch State.startTimer_fields s (@State.startTimer s p1) := by
  unfold State.startTimer
  extract_lets x1 x2
  have h3 : Effect State.startTimer_touch State.startTimer_fields s x1 := by
    refine Effect.after (State.wr_effect ..) (by decide +kernel) ?_
    refine Effect.after (State.wr_effect ..) (by decide +kernel) ?_
    refine Effect.after (State.wr_effect ..) (by decide +kernel) ?_
    exact Effect.refl _ _ _
  try clear_value x1
  have h4 : Effect State.startTimer_touch State.startTimer_fields s x2 := by
    refine Effect.after (State.wr_effect ..) (by decide +kernel) ?_
    refine Effect.after (State.wr_effect ..) (by decide +kernel) ?_
    refine Effect.after (State.wr_effect ..) (by decide +kernel) ?_
    exact h3
  try clear_value x2
  refine Effect.after (State.modFr_effect ..) (by decide +kernel) ?_
  refine Effect.after (State.wr_effect ..) (by decide +kernel) ?_
  exact h4

def State.refuse_touch : List Part := [.power, .host, .load, .fr]
def State.refuse_fields : Option (List Field) := some [Reg.FRAME_STATUS.RUNNING, Reg.IMAGE_STATUS.STATE, Reg.IMAGE_STATUS.SOURCE, Reg.IMAGE_STATUS.CODE, Reg.IMAGE_ERR_SECTION.INDEX, Reg.IMAGE_ERR_SECTION.TYPE, Reg.IMAGE_ERR_OFFSET.OFFSET, Reg.IMAGE_PRIMARY_CODE.CODE, Reg.IMAGE_EVENT.DONE]
theorem State.refuse_effect (s : State) (p1 : Nat) (p2 : Nat) (p3 : Nat) (p4 : Nat) :
    Effect State.refuse_touch State.refuse_fields s (@State.refuse s p1 p2 p3 p4) := by
  unfold State.refuse
  refine Effect.after (State.tryNext_effect ..) (by decide +kernel) ?_
  refine Effect.after (State.endRefused_effect ..) (by decide +kernel) ?_
  exact Effect.refl _ _ _

def State.sectionChecks_touch : List Part := [.power, .host, .load, .fr]
def State.sectionChecks_fields : Option (List Field) := some [Reg.FRAME_PERIOD.PERIOD, Reg.FRAME_PHASE0.SAMPLE, Reg.FRAME_PHASE0.APPLY, Reg.FRAME_PHASE1.FREEZE, Reg.FRAME_PHASE1.COMPUTE_END, Reg.FRAME_PHASE2.RANK_END, Reg.FRAME_STATUS.RUNNING, Reg.IMAGE_STATUS.STATE, Reg.IMAGE_STATUS.SOURCE, Reg.IMAGE_STATUS.CODE, Reg.IMAGE_ERR_SECTION.INDEX, Reg.IMAGE_ERR_SECTION.TYPE, Reg.IMAGE_ERR_OFFSET.OFFSET, Reg.IMAGE_PRIMARY_CODE.CODE, Reg.IMAGE_EVENT.DONE]
theorem State.sectionChecks_effect (s : State) :
    Effect State.sectionChecks_touch State.sectionChecks_fields s (@State.sectionChecks s) := by
  unfold State.sectionChecks
  refine Effect.ite ?_ ?_
  · exact Effect.refl _ _ _
  · split
    · extract_lets x1
      have h2 : Effect State.sectionChecks_touch State.sectionChecks_fields s x1 := by
        unfold x1
        split
        · refine Effect.after (State.startTimer_effect ..) (by decide +kernel) ?_
          exact Effect.refl _ _ _
        · exact Effect.refl _ _ _
      try clear_value x1
      split
      · refine Effect.after (State.refuse_effect ..) (by decide +kernel) ?_
        exact h2
      · refine Effect.after (State.modPower_effect ..) (by decide +kernel) ?_
        refine Effect.after (State.wr_effect ..) (by decide +kernel) ?_
        refine Effect.after (State.modLoad_effect ..) (by decide +kernel) ?_
        exact h2

def State.flashTimeout_touch : List Part := [.power, .host, .load, .fr]
def State.flashTimeout_fields : Option (List Field) := some [Reg.FRAME_STATUS.RUNNING, Reg.IMAGE_STATUS.STATE, Reg.IMAGE_STATUS.SOURCE, Reg.IMAGE_STATUS.CODE, Reg.IMAGE_ERR_SECTION.INDEX, Reg.IMAGE_ERR_SECTION.TYPE, Reg.IMAGE_ERR_OFFSET.OFFSET, Reg.IMAGE_PRIMARY_CODE.CODE, Reg.IMAGE_EVENT.DONE]
theorem State.flashTimeout_effect (s : State) :
    Effect State.flashTimeout_touch State.flashTimeout_fields s (@State.flashTimeout s) := by
  unfold State.flashTimeout
  refine Effect.ite ?_ ?_
  · refine Effect.after (State.refuse_effect ..) (by decide +kernel) ?_
    exact Effect.refl _ _ _
  · exact Effect.refl _ _ _

def State.clockGo_touch : List Part := [.power, .load]
def State.clockGo_fields : Option (List Field) := some [Reg.DOMAIN_STATE.DRAM_ACTIVE, Reg.CLOCK_GO.GO, Reg.CLOCK_PLL_STATUS.LOCK, Reg.CLOCK_PLL_STATUS.STAGED, Reg.CLOCK_EVENT.EVENTS]
theorem State.clockGo_effect (s : State) :
    Effect State.clockGo_touch State.clockGo_fields s (@State.clockGo s) := by
  unfold State.clockGo
  extract_lets x1 x2 x3 x4 x5
  have h6 : Effect State.clockGo_touch State.clockGo_fields s x3 := by
    refine Effect.after (State.wr_effect ..) (by decide +kernel) ?_
    exact Effect.refl _ _ _
  try clear_value x3
  have h7 : Effect State.clockGo_touch State.clockGo_fields s x4 := by
    refine Effect.each ?_ ?_
    · exact h6
    · intro u8 a9
      try beta_reduce
      refine Effect.after (State.modPower_effect ..) (by decide +kernel) ?_
      exact Effect.refl _ _ _
  try clear_value x4
  have h10 : Effect State.clockGo_touch State.clockGo_fields s x5 := by
    refine Effect.each ?_ ?_
    · exact h7
    · intro u11 a12
      try beta_reduce
      extract_lets x13
      have h14 : Effect State.clockGo_touch State.clockGo_fields u11 x13 := by
        refine Effect.after (State.modPower_effect ..) (by decide +kernel) ?_
        refine Effect.after (State.wr_effect ..) (by decide +kernel) ?_
        exact Effect.refl _ _ _
      try clear_value x13
      refine Effect.ite ?_ ?_
      · refine Effect.after (State.wr_effect ..) (by decide +kernel) ?_
        refine Effect.after (State.modLoad_effect ..) (by decide +kernel) ?_
        exact h14
      · exact h14
  try clear_value x5
  try clear_value x1 x2
  refine Effect.ite ?_ ?_
  · exact Effect.refl _ _ _
  · refine Effect.ite ?_ ?_
    · refine Effect.after (State.evBit_effect ..) (by decide +kernel) ?_
      exact Effect.refl _ _ _
    · refine Effect.after (State.goDone_effect ..) (by decide +kernel) ?_
      refine Effect.after (State.showStaged_effect ..) (by decide +kernel) ?_
      exact h10

def State.planBursts_touch : List Part := []
def State.planBursts_fields : Option (List Field) := some [Reg.ADC_SEQ_BURST.START, Reg.ADC_SEQ_BURST.LENGTH]
theorem State.planBursts_effect (s : State) :
    Effect State.planBursts_touch State.planBursts_fields s (@State.planBursts s) := by
  unfold State.planBursts
  refine Effect.each ?_ ?_
  · exact Effect.refl _ _ _
  · intro u1 a2
    try beta_reduce
    refine Effect.after (State.planBurst_effect ..) (by decide +kernel) ?_
    exact Effect.refl _ _ _

def State.periodTick_touch : List Part := [.faults, .fr, .lanes]
def State.periodTick_fields : Option (List Field) := some [Reg.COLLECT_STATUS_LO.STATUS, Reg.COLLECT_STATUS_HI.STATUS, Reg.FAULT_COUNT_CORR.COUNT, Reg.FAULT_COUNT_CONT.COUNT, Reg.FAULT_COUNT_FATAL.COUNT, Reg.FAULT_EVENT.CORRECTED, Reg.FAULT_EVENT.CONTAINED, Reg.FAULT_EVENT.FATAL, Reg.FAULT_EVENT.HIST_LOST, Reg.FAULT_HIST_STATUS.LOST, Reg.FRAME_PERIOD.PERIOD, Reg.PLAN_CAPACITY.ENG_CAP, Reg.PLAN_CAPACITY.FAB_CAP, Reg.FRAME_EVENT.PERIOD, Reg.ADC_SEQ_BURST.START, Reg.ADC_SEQ_BURST.LENGTH, Reg.LANE_STATUS.CHAIN_LATE, Reg.LANE_STATUS.SERVED, Reg.LANE_STATUS.FIRST_Q, Reg.LANE_UPBASE.U, Reg.LANE_BUDGET.DELIVERY, Reg.LANE_BUDGET.COMPLETION, Reg.LANE_EVENT.CHAIN_LATE, Reg.ARM_ALPHA1.ALPHA, Reg.ARM_ALPHA2.ALPHA]
theorem State.periodTick_effect (s : State) :
    Effect State.periodTick_touch State.periodTick_fields s (@State.periodTick s) := by
  unfold State.periodTick
  split
  · exact Effect.refl _ _ _
  · extract_lets x1 x2 x3
    have h4 : Effect State.periodTick_touch State.periodTick_fields s x1 := by
      refine Effect.after (State.wr_effect ..) (by decide +kernel) ?_
      refine Effect.after (State.modFr_effect ..) (by decide +kernel) ?_
      exact Effect.refl _ _ _
    try clear_value x1
    have h5 : Effect State.periodTick_touch State.periodTick_fields s x2 := by
      refine Effect.after (State.planBursts_effect ..) (by decide +kernel) ?_
      refine Effect.after (State.showCapacity_effect ..) (by decide +kernel) ?_
      refine Effect.after (State.wr_effect ..) (by decide +kernel) ?_
      exact h4
    try clear_value x2
    have h6 : Effect State.periodTick_touch State.periodTick_fields s x3 := by
      refine Effect.each ?_ ?_
      · exact h5
      · intro u7 a8
        try beta_reduce
        refine Effect.after (State.planChain_effect ..) (by decide +kernel) ?_
        exact Effect.refl _ _ _
    try clear_value x3
    refine Effect.each ?_ ?_
    · exact h6
    · intro u9 a10
      try beta_reduce
      extract_lets x11
      try clear_value x11
      refine Effect.after (State.wr_effect ..) (by decide +kernel) ?_
      refine Effect.after (State.wr_effect ..) (by decide +kernel) ?_
      exact Effect.refl _ _ _

def State.substInService_touch : List Part := [.faults, .load, .lanes, .cells, .arms, .convs, .safety]
def State.substInService_fields : Option (List Field) := some [Reg.ROLE_COUNT.LANE_SLICES, Reg.ROLE_COUNT.ARM_SLICES, Reg.ROLE_COUNT.RECORDER, Reg.ROLE_COUNT.MIRROR, Reg.ROLE_COUNT.SPARE, Reg.ROLE_COUNT.UNASSIGNED, Reg.COLLECT_STATUS_LO.STATUS, Reg.COLLECT_STATUS_HI.STATUS, Reg.FAULT_COUNT_CORR.COUNT, Reg.FAULT_COUNT_CONT.COUNT, Reg.FAULT_COUNT_FATAL.COUNT, Reg.FAULT_EVENT.CORRECTED, Reg.FAULT_EVENT.CONTAINED, Reg.FAULT_EVENT.FATAL, Reg.FAULT_EVENT.HIST_LOST, Reg.FAULT_HIST_STATUS.LOST, Reg.SAFE_STATUS.A_OK, Reg.SAFE_STATUS.B_OK, Reg.SAFE_STATUS.DIAG, Reg.SAFE_STATUS.DIAG_CAUSE, Reg.SAFE_STATUS.RESET_PIN, Reg.SAFE_STATUS.DEMAND, Reg.SAFE_STATUS.LOCKED, Reg.SAFE_STATUS.DIAG_A, Reg.SAFE_STATUS.DIAG_B, Reg.SAFE_GROUP.STATE, Reg.SAFE_GROUP.KIND, Reg.SAFE_GROUP.STOP, Reg.SAFE_GROUP.CAUSE, Reg.SAFE_GROUP.PAIRS, Reg.SAFE_PAIR.CH_A, Reg.SAFE_PAIR.CH_B, Reg.SAFE_PAIR.DEMAND, Reg.SAFE_PAIR.PAIR_FAULT, Reg.SAFE_PAIR.FAULT_CAUSE, Reg.SAFE_PAIR.DEMANDS, Reg.SAFE_TPO.EN, Reg.SAFE_TPO.READBACK_FAULT, Reg.SAFE_FIRE.FIRE_A, Reg.SAFE_FIRE.FIRE_B, Reg.SAFE_FIRE.DRV_A, Reg.SAFE_FIRE.DRV_B, Reg.SAFE_RESET_STATUS.ARMED, Reg.SAFE_RESET_STATUS.RELEASED, Reg.SAFE_RESET_STATUS.REFUSED, Reg.SAFE_EVENT.DEMAND, Reg.SAFE_EVENT.STOPPING, Reg.SAFE_EVENT.REMOVED, Reg.SAFE_EVENT.DIAG, Reg.SAFE_EVENT.RESET_REFUSED, Reg.IMAGE_SUBST_STATUS.OLD, Reg.IMAGE_SUBST_STATUS.BUSY, Reg.IMAGE_SUBST_STATUS.NEW, Reg.IMAGE_SUBST_STATUS.COUNT, Reg.IMAGE_SUBST_STATUS.RESULT, Reg.IMAGE_SUBST_FRAME.FRAME, Reg.IMAGE_EVENT.SUBST, Reg.IMAGE_EVENT.SPARE_LOW, Reg.LANE_STATUS.STATE, Reg.SLICE_ROLE.ROLE, Reg.SLICE_ROLE.TARGET, Reg.SLICE_ROLE.STATE, Reg.ARM_STATUS.ACTIVE, Reg.ARM_PTR.PTR, Reg.ARM_PAR.LOW, Reg.ARM_PAR.HIGH, Reg.ARM_ALPHA1.ALPHA, Reg.ARM_ALPHA2.ALPHA]
theorem State.substInService_effect (s : State) (p1 : Bool) :
    Effect State.substInService_touch State.substInService_fields s (@State.substInService s p1) := by
  unfold State.substInService
  extract_lets x1
  have h2 : Effect State.substInService_touch State.substInService_fields s x1 := by
    refine Effect.after (State.modLoad_effect ..) (by decide +kernel) ?_
    exact Effect.refl _ _ _
  try clear_value x1
  split
  · extract_lets x3 x4 x5 x6 x7
    have h8 : Effect State.substInService_touch State.substInService_fields s x5 := by
      refine Effect.after (State.wr_effect ..) (by decide +kernel) ?_
      refine Effect.after (State.wr_effect ..) (by decide +kernel) ?_
      refine Effect.after (State.wr_effect ..) (by decide +kernel) ?_
      exact h2
    try clear_value x5
    have h9 : Effect State.substInService_touch State.substInService_fields s x6 := by
      refine Effect.after (State.wr_effect ..) (by decide +kernel) ?_
      refine Effect.after (State.bump_effect ..) (by decide +kernel) ?_
      exact h8
    try clear_value x6
    have h10 : Effect State.substInService_touch State.substInService_fields s x7 := by
      refine Effect.ite ?_ ?_
      · refine Effect.after (State.substEnds_effect ..) (by decide +kernel) ?_
        refine Effect.after (State.roleEnters_effect ..) (by decide +kernel) ?_
        exact h9
      · refine Effect.after (State.substEnds_effect ..) (by decide +kernel) ?_
        refine Effect.after (State.roleLost_effect ..) (by decide +kernel) ?_
        refine Effect.after (State.wr_effect ..) (by decide +kernel) ?_
        exact h2
    try clear_value x7
    try clear_value x3 x4
    refine Effect.after (State.substStart_effect ..) (by decide +kernel) ?_
    exact h10
  · exact Effect.refl _ _ _

def State.timeStep_touch : List Part := [.time, .fr]
def State.timeStep_fields : Option (List Field) := some [Reg.TIME_STATUS.SLEWING, Reg.TIME_SLEW_REMAIN.VALUE]
theorem State.timeStep_effect (s : State) :
    Effect State.timeStep_touch State.timeStep_fields s (@State.timeStep s) := by
  unfold State.timeStep
  extract_lets x1 x2
  have h3 : Effect State.timeStep_touch State.timeStep_fields s x1 := by
    refine Effect.after (State.nextCycle_effect ..) (by decide +kernel) ?_
    exact Effect.refl _ _ _
  try clear_value x1
  try clear_value x2
  refine Effect.after (State.endSlew_effect ..) (by decide +kernel) ?_
  refine Effect.after (Effect.time _ _) (by decide +kernel) ?_
  exact h3

def State.helloMatched_touch : List Part := [.host]
def State.helloMatched_fields : Option (List Field) := some [Reg.BB_EVENT.EVENTS, Reg.BB_PARTNER.STATE, Reg.BB_PARTNER.PORTS]
theorem State.helloMatched_effect (s : State) (p1 : Nat) (p2 : Nat) (p3 : Nat) :
    Effect State.helloMatched_touch State.helloMatched_fields s (@State.helloMatched s p1 p2 p3) := by
  unfold State.helloMatched
  extract_lets x1 x2 x3 x4 x5 x6
  have h7 : Effect State.helloMatched_touch State.helloMatched_fields s x5 := by
    refine Effect.after (State.setPartner_effect ..) (by decide +kernel) ?_
    exact Effect.refl _ _ _
  try clear_value x5
  have h8 : Effect State.helloMatched_touch State.helloMatched_fields s x6 := by
    refine Effect.ite ?_ ?_
    · refine Effect.after (State.evBit_effect ..) (by decide +kernel) ?_
      refine Effect.after (State.wr_effect ..) (by decide +kernel) ?_
      exact h7
    · exact h7
  try clear_value x6
  try clear_value x1 x2 x3 x4
  refine Effect.when ?_ ?_
  · exact h8
  · intro u9
    try beta_reduce
    refine Effect.after (State.wrBit_effect ..) (by decide +kernel) ?_
    exact Effect.refl _ _ _

def State.mirrorTick_touch : List Part := [.faults, .convs, .safety]
def State.mirrorTick_fields : Option (List Field) := some [Reg.COLLECT_STATUS_LO.STATUS, Reg.COLLECT_STATUS_HI.STATUS, Reg.FAULT_COUNT_CORR.COUNT, Reg.FAULT_COUNT_CONT.COUNT, Reg.FAULT_COUNT_FATAL.COUNT, Reg.FAULT_EVENT.CORRECTED, Reg.FAULT_EVENT.CONTAINED, Reg.FAULT_EVENT.FATAL, Reg.FAULT_EVENT.HIST_LOST, Reg.FAULT_HIST_STATUS.LOST, Reg.SAFE_STATUS.A_OK, Reg.SAFE_STATUS.B_OK, Reg.SAFE_STATUS.DIAG, Reg.SAFE_STATUS.DIAG_CAUSE, Reg.SAFE_STATUS.RESET_PIN, Reg.SAFE_STATUS.DEMAND, Reg.SAFE_STATUS.LOCKED, Reg.SAFE_STATUS.DIAG_A, Reg.SAFE_STATUS.DIAG_B, Reg.SAFE_GROUP.STATE, Reg.SAFE_GROUP.KIND, Reg.SAFE_GROUP.STOP, Reg.SAFE_GROUP.CAUSE, Reg.SAFE_GROUP.PAIRS, Reg.SAFE_PAIR.CH_A, Reg.SAFE_PAIR.CH_B, Reg.SAFE_PAIR.DEMAND, Reg.SAFE_PAIR.PAIR_FAULT, Reg.SAFE_PAIR.FAULT_CAUSE, Reg.SAFE_PAIR.DEMANDS, Reg.SAFE_TPO.EN, Reg.SAFE_TPO.READBACK_FAULT, Reg.SAFE_FIRE.FIRE_A, Reg.SAFE_FIRE.FIRE_B, Reg.SAFE_FIRE.DRV_A, Reg.SAFE_FIRE.DRV_B, Reg.SAFE_RESET_STATUS.ARMED, Reg.SAFE_RESET_STATUS.RELEASED, Reg.SAFE_RESET_STATUS.REFUSED, Reg.SAFE_EVENT.DEMAND, Reg.SAFE_EVENT.STOPPING, Reg.SAFE_EVENT.REMOVED, Reg.SAFE_EVENT.DIAG, Reg.SAFE_EVENT.RESET_REFUSED]
theorem State.mirrorTick_effect (s : State) :
    Effect State.mirrorTick_touch State.mirrorTick_fields s (@State.mirrorTick s) := by
  unfold State.mirrorTick
  extract_lets x1 x2 x3
  have h4 : Effect State.mirrorTick_touch State.mirrorTick_fields s x3 := by
    refine Effect.after (Effect.safety _ _) (by decide +kernel) ?_
    exact Effect.refl _ _ _
  try clear_value x3
  try clear_value x1 x2
  refine Effect.ite ?_ ?_
  · exact Effect.refl _ _ _
  · refine Effect.ite ?_ ?_
    · refine Effect.after (State.diagFail_effect ..) (by decide +kernel) ?_
      refine Effect.after (State.diagFail_effect ..) (by decide +kernel) ?_
      exact h4
    · exact h4

def State.startShadow_touch : List Part := [.power, .engs, .referee]
def State.startShadow_fields : Option (List Field) := some [Reg.DOMAIN_STATE.PLANE_A, Reg.DOMAIN_STATE.PLANE_B, Reg.POWER_PGOOD.PGOOD, Reg.REF_STATUS.STATE, Reg.REF_STATUS.ROLE_A, Reg.REF_STATUS.ROLE_B, Reg.REF_HT_STATUS.MATCHED, Reg.REF_EVENT.UNFIT, Reg.ENG_STATUS.BALL, Reg.ENG_STATUS.SHADOW, Reg.ENG_STATUS.COLD, Reg.ENG_EXPORT.VALUE]
theorem State.startShadow_effect (s : State) (p1 : Bool) :
    Effect State.startShadow_touch State.startShadow_fields s (@State.startShadow s p1) := by
  unfold State.startShadow
  extract_lets x1 x2
  have h3 : Effect State.startShadow_touch State.startShadow_fields s x1 := by
    refine Effect.after (State.wr_effect ..) (by decide +kernel) ?_
    refine Effect.after (State.setRole_effect ..) (by decide +kernel) ?_
    exact Effect.refl _ _ _
  try clear_value x1
  have h4 : Effect State.startShadow_touch State.startShadow_fields s x2 := by
    refine Effect.after (State.wr_effect ..) (by decide +kernel) ?_
    exact h3
  try clear_value x2
  refine Effect.after (State.modRef_effect ..) (by decide +kernel) ?_
  exact h4

def State.commitRefused_touch : List Part := [.power, .host, .load, .cfg, .fr]
def State.commitRefused_fields : Option (List Field) := some [Reg.POWER_STATE.STATE, Reg.FRAME_STATUS.RUNNING, Reg.IMAGE_STATUS.STATE, Reg.IMAGE_STATUS.SOURCE, Reg.IMAGE_STATUS.CODE, Reg.IMAGE_ERR_SECTION.INDEX, Reg.IMAGE_ERR_SECTION.TYPE, Reg.IMAGE_ERR_OFFSET.OFFSET, Reg.IMAGE_PRIMARY_CODE.CODE, Reg.IMAGE_EVENT.DONE]
theorem State.commitRefused_effect (s : State) (p1 : Nat) :
    Effect State.commitRefused_touch State.commitRefused_fields s (@State.commitRefused s p1) := by
  unfold State.commitRefused
  extract_lets x1 x2
  have h3 : Effect State.commitRefused_touch State.commitRefused_fields s x1 := by
    refine Effect.after (State.modPower_effect ..) (by decide +kernel) ?_
    refine Effect.after (State.wr_effect ..) (by decide +kernel) ?_
    exact Effect.refl _ _ _
  try clear_value x1
  try clear_value x2
  refine Effect.ite ?_ ?_
  · refine Effect.after (State.refuse_effect ..) (by decide +kernel) ?_
    refine Effect.after (State.modLoad_effect ..) (by decide +kernel) ?_
    refine Effect.after (Effect.cfg _ _) (by decide +kernel) ?_
    exact h3
  · refine Effect.after (State.refuse_effect ..) (by decide +kernel) ?_
    exact Effect.refl _ _ _

def State.commitPlanner_touch : List Part := [.fr]
def State.commitPlanner_fields : Option (List Field) := some [Reg.PLAN_LEVEL.CURRENT, Reg.PLAN_LEVEL.LIMIT, Reg.PLAN_LEVEL.STATIC, Reg.PLAN_FORECAST.ENG_NEED, Reg.PLAN_FORECAST.FAB_NEED, Reg.PLAN_CAPACITY.ENG_CAP, Reg.PLAN_CAPACITY.FAB_CAP, Reg.PLAN_POWER.BUDGET, Reg.PLAN_THERMAL.MARGIN, Reg.PLAN_BG_ORDER.ORDER]
theorem State.commitPlanner_effect (s : State) (p1 : FrameCfg) :
    Effect State.commitPlanner_touch State.commitPlanner_fields s (@State.commitPlanner s p1) := by
  unfold State.commitPlanner
  extract_lets x1
  have h2 : Effect State.commitPlanner_touch State.commitPlanner_fields s x1 := by
    refine Effect.after (State.wr_effect ..) (by decide +kernel) ?_
    refine Effect.after (State.wr_effect ..) (by decide +kernel) ?_
    refine Effect.after (State.wr_effect ..) (by decide +kernel) ?_
    exact Effect.refl _ _ _
  try clear_value x1
  refine Effect.after (State.showCapacity_effect ..) (by decide +kernel) ?_
  refine Effect.after (State.emptyHistory_effect ..) (by decide +kernel) ?_
  refine Effect.after (State.wr_effect ..) (by decide +kernel) ?_
  refine Effect.after (State.wr_effect ..) (by decide +kernel) ?_
  exact h2

def State.firstInputs_touch : List Part := [.safety]
def State.firstInputs_fields : Option (List Field) := some []
theorem State.firstInputs_effect (s : State) (p1 : Nat) :
    Effect State.firstInputs_touch State.firstInputs_fields s (@State.firstInputs s p1) := by
  unfold State.firstInputs
  refine Effect.each ?_ ?_
  · exact Effect.refl _ _ _
  · intro u1 a2
    try beta_reduce
    refine Effect.after (State.inputChange_effect ..) (by decide +kernel) ?_
    refine Effect.after (State.inputChange_effect ..) (by decide +kernel) ?_
    exact Effect.refl _ _ _

def State.commitSafety_touch : List Part := [.safety]
def State.commitSafety_fields : Option (List Field) := some [Reg.SAFE_STATUS.A_OK, Reg.SAFE_STATUS.B_OK, Reg.SAFE_STATUS.DIAG, Reg.SAFE_STATUS.DIAG_CAUSE, Reg.SAFE_STATUS.RESET_PIN, Reg.SAFE_STATUS.DEMAND, Reg.SAFE_STATUS.LOCKED, Reg.SAFE_STATUS.DIAG_A, Reg.SAFE_STATUS.DIAG_B, Reg.SAFE_GROUP.STATE, Reg.SAFE_GROUP.KIND, Reg.SAFE_GROUP.STOP, Reg.SAFE_GROUP.CAUSE, Reg.SAFE_GROUP.PAIRS, Reg.SAFE_PAIR.CH_A, Reg.SAFE_PAIR.CH_B, Reg.SAFE_PAIR.DEMAND, Reg.SAFE_PAIR.PAIR_FAULT, Reg.SAFE_PAIR.FAULT_CAUSE, Reg.SAFE_PAIR.DEMANDS, Reg.SAFE_TPO.EN, Reg.SAFE_TPO.READBACK_FAULT, Reg.SAFE_FIRE.FIRE_A, Reg.SAFE_FIRE.FIRE_B, Reg.SAFE_FIRE.DRV_A, Reg.SAFE_FIRE.DRV_B, Reg.SAFE_RESET_STATUS.ARMED]
theorem State.commitSafety_effect (s : State) :
    Effect State.commitSafety_touch State.commitSafety_fields s (@State.commitSafety s) := by
  unfold State.commitSafety
  extract_lets x1 x2
  try clear_value x1 x2
  refine Effect.after (State.showSafe_effect ..) (by decide +kernel) ?_
  refine Effect.after (Effect.safety _ _) (by decide +kernel) ?_
  exact Effect.refl _ _ _

def State.commitOptional_touch : List Part := [.time, .faults, .host, .adc, .drives, .motors, .canQueues]
def State.commitOptional_fields : Option (List Field) := some [Reg.COLLECT_STATUS_LO.STATUS, Reg.COLLECT_STATUS_HI.STATUS, Reg.FAULT_COUNT_CORR.COUNT, Reg.FAULT_COUNT_CONT.COUNT, Reg.FAULT_COUNT_FATAL.COUNT, Reg.FAULT_EVENT.CORRECTED, Reg.FAULT_EVENT.CONTAINED, Reg.FAULT_EVENT.FATAL, Reg.FAULT_EVENT.HIST_LOST, Reg.FAULT_HIST_STATUS.LOST, Reg.REF_PAIR.ENABLED, Reg.ADC_CTRL.SEQ_EN, Reg.ADC_REF.EN, Reg.ADC_REF.AUTO, Reg.ADC_IN_CFG.GAIN, Reg.ADC_IN_CFG.EN, Reg.ADC_SEQ_CTRL.LEN, Reg.ADC_SEQ_BURST.START, Reg.ADC_SEQ_BURST.LENGTH, Reg.ADC_ENTRY_CFG.INPUT, Reg.ADC_ENTRY_CFG.ACQ, Reg.ADC_ENTRY_CFG.SHIFT, Reg.ADC_ENTRY_CFG.WIN_EN, Reg.ADC_ENTRY_SCALE.VALUE, Reg.ADC_ENTRY_OFFSET.VALUE, Reg.ADC_ENTRY_WIN_HI.VALUE, Reg.ADC_ENTRY_WIN_LO.VALUE, Reg.ADC_DS_CFG.ORDER, Reg.ADC_DS_CFG.LOG2R, Reg.ADC_DS_CFG.SHIFT, Reg.ADC_DS_SCALE.VALUE, Reg.ADC_DS_OFFSET.VALUE, Reg.ADC_HK_DIODE_CFG0.IDEALITY, Reg.ADC_HK_DIODE_CFG1.IDEALITY, Reg.TIME_CTRL.SERVO, Reg.TIME_STATUS.SYNC, Reg.TIME_PPS_CFG.KP, Reg.TIME_PPS_CFG.KI, Reg.TIME_PPS_CFG.EDGE, Reg.TIME_PPS_CFG.LOCK_NS, Reg.TIME_PPS_OFFSET.VALUE, Reg.TIME_FRAME_ALIGN.OFFSET, Reg.TIME_FRAME_ALIGN.SLEW, Reg.TIME_EVENT.EVENTS, Reg.ETH_CTRL.MODE, Reg.ETH_CTRL.AN_EN, Reg.ETH_MAC_LO.MAC, Reg.ETH_MAC_HI.MAC, Reg.ETH_LAT.TX, Reg.ETH_LAT.RX, Reg.CAN_CTRL.MODE, Reg.CAN_CTRL.FD_EN, Reg.CAN_CTRL.AUTO_RECOVER, Reg.CAN_STATUS.STATE, Reg.CAN_NBT.NBRP, Reg.CAN_NBT.NTSEG1, Reg.CAN_NBT.NTSEG2, Reg.CAN_NBT.NSJW, Reg.CAN_DBT.DBRP, Reg.CAN_DBT.DTSEG1, Reg.CAN_DBT.DTSEG2, Reg.CAN_DBT.DSJW, Reg.CAN_DBT.TDC_EN, Reg.CAN_DBT.TDCO, Reg.CAN_MATRIX.LOG2_CYCLE, Reg.CAN_MATRIX.LOG2_ROWS, Reg.CAN_MATRIX.COLS, Reg.CAN_TXQ.FILL, Reg.DRV_CTRL.MODE, Reg.DRV_STATUS.LOAD_PENDING, Reg.DRV_STATUS.LEG_FAULT, Reg.DRV_CARRIER.TOP, Reg.DRV_CARRIER_ACT.TOP, Reg.DRV_GATE.SRC, Reg.DRV_GATE.SNK, Reg.DRV_GATE.SOFT, Reg.DRV_GATE.CH_SRC, Reg.DRV_GATE.CH_SNK, Reg.DRV_GATE.CH_SOFT, Reg.DRV_GATE.TEMP_COMP, Reg.DRV_PROT.BLANK, Reg.DRV_PROT.MIN_PULSE, Reg.DRV_CHOP_CFG.MODE, Reg.DRV_CHOP_CFG.SIDE, Reg.DRV_CHOP_CFG.TIME, Reg.DRV_CHOP_PERIOD.PERIOD, Reg.DRV_LEG_CFG.MODE, Reg.DRV_LEG_CFG.DEADTIME, Reg.DRV_LEG_DUTY.CMP, Reg.DRV_LEG_STATUS.CMP_ACT, Reg.DRV_LEG_STATUS.DESAT_HS, Reg.DRV_LEG_STATUS.DESAT_LS, Reg.DRV_LEG_STATUS.INSTANT, Reg.DRV_LEG_STATUS.VB_UV, Reg.DRV_LEG_STATUS.GATES_OFF, Reg.DRV_LEG_STATUS.MODE_ACT, Reg.DRV_LEG_COUNT.SUPPRESSED, Reg.DRV_LEG_COUNT.FULL_ON, Reg.DRV_EVENT.LOAD_DONE, Reg.DRV_EVENT.LOAD_ERR, Reg.MOT_STATE.STATE, Reg.MOT_STATE.CURVE_ON, Reg.MOT_STATE.PRIV, Reg.MOT_STATE.SRC, Reg.MOT_EVENT.STATE, Reg.MOT_EVENT.OBS_LOST, Reg.MOT_CURVE.X, Reg.MOT_CURVE.Y, Reg.MOT_CURVE.USED, Reg.MOT_ADV.SPEED, Reg.MOT_ADV.ANGLE, Reg.DRV_LOADALL.UNITS, Reg.DRV_LOAD_STATUS.DONE, Reg.DRV_LOAD_STATUS.ERR, Reg.BB_CTRL.EN, Reg.BB_CTRL.PAIR, Reg.BB_CTRL.IDLE_US, Reg.BB_STATUS.UP, Reg.BB_STATUS.TX_IDLE, Reg.BB_STATUS.CLOCK, Reg.BB_EVENT.EVENTS, Reg.BB_PARTNER.NODE, Reg.BB_PARTNER.RIGHTS]
theorem State.commitOptional_effect (s : State) (p1 : Cfg) :
    Effect State.commitOptional_touch State.commitOptional_fields s (@State.commitOptional s p1) := by
  unfold State.commitOptional
  extract_lets x1 x2 x3
  have h4 : Effect State.commitOptional_touch State.commitOptional_fields s x1 := by
    unfold x1
    split
    · refine Effect.after (State.commitAdc_effect ..) (by decide +kernel) ?_
      exact Effect.refl _ _ _
    · exact Effect.refl _ _ _
  try clear_value x1
  have h5 : Effect State.commitOptional_touch State.commitOptional_fields s x2 := by
    refine Effect.after (State.commitDrive_effect ..) (by decide +kernel) ?_
    exact h4
  try clear_value x2
  have h6 : Effect State.commitOptional_touch State.commitOptional_fields s x3 := by
    refine Effect.each ?_ ?_
    · exact h5
    · intro u7 a8
      try beta_reduce
      refine Effect.after (State.commitCan_effect ..) (by decide +kernel) ?_
      exact Effect.refl _ _ _
  try clear_value x3
  refine Effect.after (State.commitBackbone_effect ..) (by decide +kernel) ?_
  refine Effect.after (State.commitTime_effect ..) (by decide +kernel) ?_
  exact h6

def State.ckptInit_touch : List Part := [.referee]
def State.ckptInit_fields : Option (List Field) := some [Reg.REF_CKPT.NEWEST, Reg.REF_CKPT.VALID0, Reg.REF_CKPT.VALID1, Reg.REF_CKPT_SEQ.SEQ]
theorem State.ckptInit_effect (s : State) :
    Effect State.ckptInit_touch State.ckptInit_fields s (@State.ckptInit s) := by
  unfold State.ckptInit
  refine Effect.after (State.setHalf_effect ..) (by decide +kernel) ?_
  refine Effect.after (State.setHalf_effect ..) (by decide +kernel) ?_
  exact Effect.refl _ _ _

def State.build_touch : List Part := [.time, .power, .faults, .host, .cfg, .fr, .lanes, .chains, .cells, .arms, .engs, .convs, .referee, .adc, .drives, .motors, .safety, .canQueues]
def State.build_fields : Option (List Field) := some [Reg.ROLE_COUNT.LANE_SLICES, Reg.ROLE_COUNT.ARM_SLICES, Reg.ROLE_COUNT.RECORDER, Reg.ROLE_COUNT.MIRROR, Reg.ROLE_COUNT.SPARE, Reg.ROLE_COUNT.UNASSIGNED, Reg.DOMAIN_STATE.PLANE_A, Reg.DOMAIN_STATE.PLANE_B, Reg.CONV_STATE.STATE, Reg.CONV_STATE.KIND, Reg.CONV_STATE.ARMS, Reg.CONV_MF_OMEGA.OMEGA_MF, Reg.POWER_PGOOD.PGOOD, Reg.COLLECT_STATUS_LO.STATUS, Reg.COLLECT_STATUS_HI.STATUS, Reg.FAULT_QUIET.QUIET_MS, Reg.FAULT_COUNT_CORR.COUNT, Reg.FAULT_COUNT_CONT.COUNT, Reg.FAULT_COUNT_FATAL.COUNT, Reg.FAULT_EVENT.CORRECTED, Reg.FAULT_EVENT.CONTAINED, Reg.FAULT_EVENT.FATAL, Reg.FAULT_EVENT.HIST_LOST, Reg.FAULT_HIST_STATUS.LOST, Reg.REF_STATUS.ROLE_A, Reg.REF_STATUS.ROLE_B, Reg.REF_CKPT.NEWEST, Reg.REF_CKPT.VALID0, Reg.REF_CKPT.VALID1, Reg.REF_CKPT_SEQ.SEQ, Reg.REF_PAIR.ENABLED, Reg.REF_EVENT.UNFIT, Reg.FRAME_PERIOD.PERIOD, Reg.FRAME_PHASE0.SAMPLE, Reg.FRAME_PHASE0.APPLY, Reg.FRAME_PHASE1.FREEZE, Reg.FRAME_PHASE1.COMPUTE_END, Reg.FRAME_PHASE2.RANK_END, Reg.FRAME_STATUS.RUNNING, Reg.PLAN_LEVEL.CURRENT, Reg.PLAN_LEVEL.LIMIT, Reg.PLAN_LEVEL.STATIC, Reg.PLAN_FORECAST.ENG_NEED, Reg.PLAN_FORECAST.FAB_NEED, Reg.PLAN_CAPACITY.ENG_CAP, Reg.PLAN_CAPACITY.FAB_CAP, Reg.PLAN_POWER.BUDGET, Reg.PLAN_THERMAL.MARGIN, Reg.PLAN_BG_ORDER.ORDER, Reg.SAFE_STATUS.A_OK, Reg.SAFE_STATUS.B_OK, Reg.SAFE_STATUS.DIAG, Reg.SAFE_STATUS.DIAG_CAUSE, Reg.SAFE_STATUS.RESET_PIN, Reg.SAFE_STATUS.DEMAND, Reg.SAFE_STATUS.LOCKED, Reg.SAFE_STATUS.DIAG_A, Reg.SAFE_STATUS.DIAG_B, Reg.SAFE_GROUP.STATE, Reg.SAFE_GROUP.KIND, Reg.SAFE_GROUP.STOP, Reg.SAFE_GROUP.CAUSE, Reg.SAFE_GROUP.PAIRS, Reg.SAFE_PAIR.CH_A, Reg.SAFE_PAIR.CH_B, Reg.SAFE_PAIR.DEMAND, Reg.SAFE_PAIR.PAIR_FAULT, Reg.SAFE_PAIR.FAULT_CAUSE, Reg.SAFE_PAIR.DEMANDS, Reg.SAFE_TPO.EN, Reg.SAFE_TPO.READBACK_FAULT, Reg.SAFE_FIRE.FIRE_A, Reg.SAFE_FIRE.FIRE_B, Reg.SAFE_FIRE.DRV_A, Reg.SAFE_FIRE.DRV_B, Reg.SAFE_RESET_STATUS.ARMED, Reg.IMAGE_ID_LO.ID, Reg.IMAGE_ID_HI.ID, Reg.IMAGE_INFO.VERSION, Reg.IMAGE_SIZE.SIZE, Reg.IMAGE_KEY.SLOT_USED, Reg.IMAGE_KEY.EPOCH_IMAGE, Reg.IMAGE_SLICE_FAIL.FAIL, Reg.IMAGE_EVENT.SPARE_LOW, Reg.ENG_STATUS.LOADED, Reg.ENG_STATUS.BALL, Reg.ENG_STATUS.SHADOW, Reg.ENG_STATUS.COLD, Reg.ENG_STATUS.QUIET, Reg.ENG_STATUS.BLOCKS, Reg.ENG_COST.STATIC, Reg.ENG_COST.SUM, Reg.ENG_BANK.ACTIVE, Reg.ENG_BANK.ENTRIES, Reg.ENG_SIZE.STATE_WORDS, Reg.ENG_SIZE.EXPORTS, Reg.ENG_PARAM.VALUE, Reg.ENG_EXPORT.VALUE, Reg.ADC_CTRL.SEQ_EN, Reg.ADC_REF.EN, Reg.ADC_REF.AUTO, Reg.ADC_IN_CFG.GAIN, Reg.ADC_IN_CFG.EN, Reg.ADC_SEQ_CTRL.LEN, Reg.ADC_SEQ_BURST.START, Reg.ADC_SEQ_BURST.LENGTH, Reg.ADC_ENTRY_CFG.INPUT, Reg.ADC_ENTRY_CFG.ACQ, Reg.ADC_ENTRY_CFG.SHIFT, Reg.ADC_ENTRY_CFG.WIN_EN, Reg.ADC_ENTRY_SCALE.VALUE, Reg.ADC_ENTRY_OFFSET.VALUE, Reg.ADC_ENTRY_WIN_HI.VALUE, Reg.ADC_ENTRY_WIN_LO.VALUE, Reg.ADC_DS_CFG.ORDER, Reg.ADC_DS_CFG.LOG2R, Reg.ADC_DS_CFG.SHIFT, Reg.ADC_DS_SCALE.VALUE, Reg.ADC_DS_OFFSET.VALUE, Reg.ADC_HK_DIODE_CFG0.IDEALITY, Reg.ADC_HK_DIODE_CFG1.IDEALITY, Reg.TIME_CTRL.SERVO, Reg.TIME_STATUS.SYNC, Reg.TIME_PPS_CFG.KP, Reg.TIME_PPS_CFG.KI, Reg.TIME_PPS_CFG.EDGE, Reg.TIME_PPS_CFG.LOCK_NS, Reg.TIME_PPS_OFFSET.VALUE, Reg.TIME_FRAME_ALIGN.OFFSET, Reg.TIME_FRAME_ALIGN.SLEW, Reg.TIME_EVENT.EVENTS, Reg.ETH_CTRL.MODE, Reg.ETH_CTRL.AN_EN, Reg.ETH_MAC_LO.MAC, Reg.ETH_MAC_HI.MAC, Reg.ETH_LAT.TX, Reg.ETH_LAT.RX, Reg.CAN_CTRL.MODE, Reg.CAN_CTRL.FD_EN, Reg.CAN_CTRL.AUTO_RECOVER, Reg.CAN_STATUS.STATE, Reg.CAN_NBT.NBRP, Reg.CAN_NBT.NTSEG1, Reg.CAN_NBT.NTSEG2, Reg.CAN_NBT.NSJW, Reg.CAN_DBT.DBRP, Reg.CAN_DBT.DTSEG1, Reg.CAN_DBT.DTSEG2, Reg.CAN_DBT.DSJW, Reg.CAN_DBT.TDC_EN, Reg.CAN_DBT.TDCO, Reg.CAN_MATRIX.LOG2_CYCLE, Reg.CAN_MATRIX.LOG2_ROWS, Reg.CAN_MATRIX.COLS, Reg.CAN_TXQ.FILL, Reg.DRV_CTRL.MODE, Reg.DRV_STATUS.LOAD_PENDING, Reg.DRV_STATUS.LEG_FAULT, Reg.DRV_CARRIER.TOP, Reg.DRV_CARRIER_ACT.TOP, Reg.DRV_GATE.SRC, Reg.DRV_GATE.SNK, Reg.DRV_GATE.SOFT, Reg.DRV_GATE.CH_SRC, Reg.DRV_GATE.CH_SNK, Reg.DRV_GATE.CH_SOFT, Reg.DRV_GATE.TEMP_COMP, Reg.DRV_PROT.BLANK, Reg.DRV_PROT.MIN_PULSE, Reg.DRV_CHOP_CFG.MODE, Reg.DRV_CHOP_CFG.SIDE, Reg.DRV_CHOP_CFG.TIME, Reg.DRV_CHOP_PERIOD.PERIOD, Reg.DRV_LEG_CFG.MODE, Reg.DRV_LEG_CFG.DEADTIME, Reg.DRV_LEG_DUTY.CMP, Reg.DRV_LEG_STATUS.CMP_ACT, Reg.DRV_LEG_STATUS.DESAT_HS, Reg.DRV_LEG_STATUS.DESAT_LS, Reg.DRV_LEG_STATUS.INSTANT, Reg.DRV_LEG_STATUS.VB_UV, Reg.DRV_LEG_STATUS.GATES_OFF, Reg.DRV_LEG_STATUS.MODE_ACT, Reg.DRV_LEG_COUNT.SUPPRESSED, Reg.DRV_LEG_COUNT.FULL_ON, Reg.DRV_EVENT.LOAD_DONE, Reg.DRV_EVENT.LOAD_ERR, Reg.MOT_STATE.STATE, Reg.MOT_STATE.CURVE_ON, Reg.MOT_STATE.PRIV, Reg.MOT_STATE.SRC, Reg.MOT_EVENT.STATE, Reg.MOT_EVENT.OBS_LOST, Reg.MOT_CURVE.X, Reg.MOT_CURVE.Y, Reg.MOT_CURVE.USED, Reg.MOT_ADV.SPEED, Reg.MOT_ADV.ANGLE, Reg.DRV_LOADALL.UNITS, Reg.DRV_LOAD_STATUS.DONE, Reg.DRV_LOAD_STATUS.ERR, Reg.LANE_STATUS.STATE, Reg.LANE_STATUS.CHAIN_LATE, Reg.LANE_STATUS.SERVED, Reg.LANE_STATUS.FIRST_Q, Reg.LANE_CHAIN.SPLIT, Reg.LANE_CHAIN.GAP, Reg.LANE_CHAIN.CELLS, Reg.LANE_CHAIN.PHYS, Reg.LANE_CHAIN.LOOPED, Reg.LANE_SEGDOWN_LO.DOWN, Reg.LANE_SEGDOWN_HI.DOWN, Reg.LANE_UPBASE.U, Reg.LANE_BUDGET.DELIVERY, Reg.LANE_BUDGET.COMPLETION, Reg.LANE_EVENT.CHAIN_LATE, Reg.LANE_DELAY.VALID, Reg.SLICE_ROLE.ROLE, Reg.SLICE_ROLE.TARGET, Reg.SLICE_ROLE.STATE, Reg.ARM_STATUS.ACTIVE, Reg.ARM_PTR.PTR, Reg.ARM_PAR.LOW, Reg.ARM_PAR.HIGH, Reg.ARM_ALPHA1.ALPHA, Reg.ARM_ALPHA2.ALPHA, Reg.CELL_STATE.STATE, Reg.CELL_STATE.CONFIRMED, Reg.CELL_STATE.NO_REPLY, Reg.CELL_STATE.CALL_QUEUED, Reg.CELL_STATE.REASON, Reg.CELL_PLACE.CHAIN, Reg.CELL_PLACE.POS, Reg.CELL_PLACE.END, Reg.CELL_PLACE.REACHABLE, Reg.CELL_PLACE.ARM, Reg.CELL_PLACE.CLASS, Reg.TS_FOUND_LO.IDENTITY, Reg.TS_FOUND_HI.IDENTITY, Reg.TS_RECORDED_LO.IDENTITY, Reg.TS_RECORDED_HI.IDENTITY, Reg.TS_INFO.CLASS, Reg.TS_INFO.BYPASS_FITTED, Reg.TS_INFO.FIRMWARE, Reg.TS_CALL.Q_EVEN, Reg.TS_CALL.VALID_EVEN, Reg.TS_CALL.Q_ODD, Reg.TS_CALL.VALID_ODD, Reg.TS_CALL.REPLIES, Reg.TS_CALL.RESULT, Reg.TS_CALL_FRAME.FRAME, Reg.CELL_SUMMARY0.SERVICE, Reg.CELL_SUMMARY0.BYPASSED, Reg.CELL_SUMMARY1.PENDING, Reg.CELL_SUMMARY1.OUT, Reg.CELL_SUMMARY2.ABSENT, Reg.CELL_SUMMARY2.REJECTED, Reg.CELL_PENDING_FIRST.CELL, Reg.CELL_UNROSTERED_LO.CHAINS, Reg.CELL_UNROSTERED_HI.CHAINS, Reg.BB_CTRL.EN, Reg.BB_CTRL.PAIR, Reg.BB_CTRL.IDLE_US, Reg.BB_STATUS.UP, Reg.BB_STATUS.TX_IDLE, Reg.BB_STATUS.CLOCK, Reg.BB_EVENT.EVENTS, Reg.BB_PARTNER.NODE, Reg.BB_PARTNER.RIGHTS]
theorem State.build_effect (s : State) (p1 : Cfg) (p2 : List Nat) (p3 : List (SliceCfg × Nat)) (p4 : Nat) :
    Effect State.build_touch State.build_fields s (@State.build s p1 p2 p3 p4) := by
  unfold State.build
  extract_lets x1 x2 x3 x4 x5 x6 x7 x8 x9 x10 x11 x12 x13
  have h14 : Effect State.build_touch State.build_fields s x1 := by
    refine Effect.when ?_ ?_
    · exact Effect.refl _ _ _
    · intro u15
      try beta_reduce
      refine Effect.after (State.startTimer_effect ..) (by decide +kernel) ?_
      exact Effect.refl _ _ _
  try clear_value x1
  have h17 : Effect State.build_touch State.build_fields s x2 := by
    refine Effect.after (Effect.cfg_lanes_chains_cells_arms_engs_convs ..) (by decide +kernel) ?_
    exact h14
  try clear_value x2
  have h18 : Effect State.build_touch State.build_fields s x3 := by
    refine Effect.after (State.modFr_effect ..) (by decide +kernel) ?_
    exact h17
  try clear_value x3
  have h19 : Effect State.build_touch State.build_fields s x4 := by
    refine Effect.after (State.writeRoles_effect ..) (by decide +kernel) ?_
    exact h18
  try clear_value x4
  have h20 : Effect State.build_touch State.build_fields s x5 := by
    refine Effect.after (State.wr_effect ..) (by decide +kernel) ?_
    refine Effect.after (State.wr_effect ..) (by decide +kernel) ?_
    exact h19
  try clear_value x5
  have h21 : Effect State.build_touch State.build_fields s x6 := by
    refine Effect.after (State.summarise_effect ..) (by decide +kernel) ?_
    refine Effect.each ?_ ?_
    · exact h20
    · intro u22 a23
      try beta_reduce
      refine Effect.after (State.commitChain_effect ..) (by decide +kernel) ?_
      exact Effect.refl _ _ _
  try clear_value x6
  have h24 : Effect State.build_touch State.build_fields s x7 := by
    refine Effect.each ?_ ?_
    · exact h21
    · intro u25 a26
      try beta_reduce
      split
      · refine Effect.after (State.loadArmSlice_effect ..) (by decide +kernel) ?_
        exact Effect.refl _ _ _
      · exact Effect.refl _ _ _
  try clear_value x7
  have h27 : Effect State.build_touch State.build_fields s x8 := by
    refine Effect.after (State.commitEngines_effect ..) (by decide +kernel) ?_
    refine Effect.after (State.commitConvs_effect ..) (by decide +kernel) ?_
    exact h24
  try clear_value x8
  have h28 : Effect State.build_touch State.build_fields s x9 := by
    refine Effect.after (State.wr_effect ..) (by decide +kernel) ?_
    refine Effect.after (State.commitPlanner_effect ..) (by decide +kernel) ?_
    exact h27
  try clear_value x9
  have h29 : Effect State.build_touch State.build_fields s x11 := by
    refine Effect.after (Effect.faults _ _) (by decide +kernel) ?_
    exact h28
  try clear_value x11
  have h30 : Effect State.build_touch State.build_fields s x12 := by
    refine Effect.after (State.firstInputs_effect ..) (by decide +kernel) ?_
    refine Effect.after (State.commitSafety_effect ..) (by decide +kernel) ?_
    exact h29
  try clear_value x12
  have h31 : Effect State.build_touch State.build_fields s x13 := by
    refine Effect.after (State.commitOptional_effect ..) (by decide +kernel) ?_
    exact h30
  try clear_value x13
  try clear_value x10
  refine Effect.after (State.showImage_effect ..) (by decide +kernel) ?_
  refine Effect.after (State.ckptInit_effect ..) (by decide +kernel) ?_
  refine Effect.after (State.commitReferee_effect ..) (by decide +kernel) ?_
  exact h31

def State.imageCommit_touch : List Part := [.time, .power, .faults, .host, .load, .cfg, .fr, .lanes, .chains, .cells, .arms, .engs, .convs, .referee, .adc, .drives, .motors, .safety, .canQueues]
def State.imageCommit_fields : Option (List Field) := some [Reg.ROLE_COUNT.LANE_SLICES, Reg.ROLE_COUNT.ARM_SLICES, Reg.ROLE_COUNT.RECORDER, Reg.ROLE_COUNT.MIRROR, Reg.ROLE_COUNT.SPARE, Reg.ROLE_COUNT.UNASSIGNED, Reg.DOMAIN_STATE.PLANE_A, Reg.DOMAIN_STATE.PLANE_B, Reg.CONV_STATE.STATE, Reg.CONV_STATE.KIND, Reg.CONV_STATE.ARMS, Reg.CONV_MF_OMEGA.OMEGA_MF, Reg.POWER_STATE.STATE, Reg.POWER_PGOOD.PGOOD, Reg.COLLECT_STATUS_LO.STATUS, Reg.COLLECT_STATUS_HI.STATUS, Reg.FAULT_QUIET.QUIET_MS, Reg.FAULT_COUNT_CORR.COUNT, Reg.FAULT_COUNT_CONT.COUNT, Reg.FAULT_COUNT_FATAL.COUNT, Reg.FAULT_EVENT.CORRECTED, Reg.FAULT_EVENT.CONTAINED, Reg.FAULT_EVENT.FATAL, Reg.FAULT_EVENT.HIST_LOST, Reg.FAULT_HIST_STATUS.LOST, Reg.REF_STATUS.ROLE_A, Reg.REF_STATUS.ROLE_B, Reg.REF_CKPT.NEWEST, Reg.REF_CKPT.VALID0, Reg.REF_CKPT.VALID1, Reg.REF_CKPT_SEQ.SEQ, Reg.REF_PAIR.ENABLED, Reg.REF_EVENT.UNFIT, Reg.FRAME_PERIOD.PERIOD, Reg.FRAME_PHASE0.SAMPLE, Reg.FRAME_PHASE0.APPLY, Reg.FRAME_PHASE1.FREEZE, Reg.FRAME_PHASE1.COMPUTE_END, Reg.FRAME_PHASE2.RANK_END, Reg.FRAME_STATUS.RUNNING, Reg.PLAN_LEVEL.CURRENT, Reg.PLAN_LEVEL.LIMIT, Reg.PLAN_LEVEL.STATIC, Reg.PLAN_FORECAST.ENG_NEED, Reg.PLAN_FORECAST.FAB_NEED, Reg.PLAN_CAPACITY.ENG_CAP, Reg.PLAN_CAPACITY.FAB_CAP, Reg.PLAN_POWER.BUDGET, Reg.PLAN_THERMAL.MARGIN, Reg.PLAN_BG_ORDER.ORDER, Reg.SAFE_STATUS.A_OK, Reg.SAFE_STATUS.B_OK, Reg.SAFE_STATUS.DIAG, Reg.SAFE_STATUS.DIAG_CAUSE, Reg.SAFE_STATUS.RESET_PIN, Reg.SAFE_STATUS.DEMAND, Reg.SAFE_STATUS.LOCKED, Reg.SAFE_STATUS.DIAG_A, Reg.SAFE_STATUS.DIAG_B, Reg.SAFE_GROUP.STATE, Reg.SAFE_GROUP.KIND, Reg.SAFE_GROUP.STOP, Reg.SAFE_GROUP.CAUSE, Reg.SAFE_GROUP.PAIRS, Reg.SAFE_PAIR.CH_A, Reg.SAFE_PAIR.CH_B, Reg.SAFE_PAIR.DEMAND, Reg.SAFE_PAIR.PAIR_FAULT, Reg.SAFE_PAIR.FAULT_CAUSE, Reg.SAFE_PAIR.DEMANDS, Reg.SAFE_TPO.EN, Reg.SAFE_TPO.READBACK_FAULT, Reg.SAFE_FIRE.FIRE_A, Reg.SAFE_FIRE.FIRE_B, Reg.SAFE_FIRE.DRV_A, Reg.SAFE_FIRE.DRV_B, Reg.SAFE_RESET_STATUS.ARMED, Reg.IMAGE_STATUS.STATE, Reg.IMAGE_STATUS.SOURCE, Reg.IMAGE_STATUS.CODE, Reg.IMAGE_ERR_SECTION.INDEX, Reg.IMAGE_ERR_SECTION.TYPE, Reg.IMAGE_ERR_OFFSET.OFFSET, Reg.IMAGE_PRIMARY_CODE.CODE, Reg.IMAGE_ID_LO.ID, Reg.IMAGE_ID_HI.ID, Reg.IMAGE_INFO.VERSION, Reg.IMAGE_SIZE.SIZE, Reg.IMAGE_KEY.SLOT_USED, Reg.IMAGE_KEY.EPOCH_IMAGE, Reg.IMAGE_SLICE_FAIL.FAIL, Reg.IMAGE_EVENT.DONE, Reg.IMAGE_EVENT.SPARE_LOW, Reg.ENG_STATUS.LOADED, Reg.ENG_STATUS.BALL, Reg.ENG_STATUS.SHADOW, Reg.ENG_STATUS.COLD, Reg.ENG_STATUS.QUIET, Reg.ENG_STATUS.BLOCKS, Reg.ENG_COST.STATIC, Reg.ENG_COST.SUM, Reg.ENG_BANK.ACTIVE, Reg.ENG_BANK.ENTRIES, Reg.ENG_SIZE.STATE_WORDS, Reg.ENG_SIZE.EXPORTS, Reg.ENG_PARAM.VALUE, Reg.ENG_EXPORT.VALUE, Reg.ADC_CTRL.SEQ_EN, Reg.ADC_REF.EN, Reg.ADC_REF.AUTO, Reg.ADC_IN_CFG.GAIN, Reg.ADC_IN_CFG.EN, Reg.ADC_SEQ_CTRL.LEN, Reg.ADC_SEQ_BURST.START, Reg.ADC_SEQ_BURST.LENGTH, Reg.ADC_ENTRY_CFG.INPUT, Reg.ADC_ENTRY_CFG.ACQ, Reg.ADC_ENTRY_CFG.SHIFT, Reg.ADC_ENTRY_CFG.WIN_EN, Reg.ADC_ENTRY_SCALE.VALUE, Reg.ADC_ENTRY_OFFSET.VALUE, Reg.ADC_ENTRY_WIN_HI.VALUE, Reg.ADC_ENTRY_WIN_LO.VALUE, Reg.ADC_DS_CFG.ORDER, Reg.ADC_DS_CFG.LOG2R, Reg.ADC_DS_CFG.SHIFT, Reg.ADC_DS_SCALE.VALUE, Reg.ADC_DS_OFFSET.VALUE, Reg.ADC_HK_DIODE_CFG0.IDEALITY, Reg.ADC_HK_DIODE_CFG1.IDEALITY, Reg.TIME_CTRL.SERVO, Reg.TIME_STATUS.SYNC, Reg.TIME_PPS_CFG.KP, Reg.TIME_PPS_CFG.KI, Reg.TIME_PPS_CFG.EDGE, Reg.TIME_PPS_CFG.LOCK_NS, Reg.TIME_PPS_OFFSET.VALUE, Reg.TIME_FRAME_ALIGN.OFFSET, Reg.TIME_FRAME_ALIGN.SLEW, Reg.TIME_EVENT.EVENTS, Reg.ETH_CTRL.MODE, Reg.ETH_CTRL.AN_EN, Reg.ETH_MAC_LO.MAC, Reg.ETH_MAC_HI.MAC, Reg.ETH_LAT.TX, Reg.ETH_LAT.RX, Reg.CAN_CTRL.MODE, Reg.CAN_CTRL.FD_EN, Reg.CAN_CTRL.AUTO_RECOVER, Reg.CAN_STATUS.STATE, Reg.CAN_NBT.NBRP, Reg.CAN_NBT.NTSEG1, Reg.CAN_NBT.NTSEG2, Reg.CAN_NBT.NSJW, Reg.CAN_DBT.DBRP, Reg.CAN_DBT.DTSEG1, Reg.CAN_DBT.DTSEG2, Reg.CAN_DBT.DSJW, Reg.CAN_DBT.TDC_EN, Reg.CAN_DBT.TDCO, Reg.CAN_MATRIX.LOG2_CYCLE, Reg.CAN_MATRIX.LOG2_ROWS, Reg.CAN_MATRIX.COLS, Reg.CAN_TXQ.FILL, Reg.DRV_CTRL.MODE, Reg.DRV_STATUS.LOAD_PENDING, Reg.DRV_STATUS.LEG_FAULT, Reg.DRV_CARRIER.TOP, Reg.DRV_CARRIER_ACT.TOP, Reg.DRV_GATE.SRC, Reg.DRV_GATE.SNK, Reg.DRV_GATE.SOFT, Reg.DRV_GATE.CH_SRC, Reg.DRV_GATE.CH_SNK, Reg.DRV_GATE.CH_SOFT, Reg.DRV_GATE.TEMP_COMP, Reg.DRV_PROT.BLANK, Reg.DRV_PROT.MIN_PULSE, Reg.DRV_CHOP_CFG.MODE, Reg.DRV_CHOP_CFG.SIDE, Reg.DRV_CHOP_CFG.TIME, Reg.DRV_CHOP_PERIOD.PERIOD, Reg.DRV_LEG_CFG.MODE, Reg.DRV_LEG_CFG.DEADTIME, Reg.DRV_LEG_DUTY.CMP, Reg.DRV_LEG_STATUS.CMP_ACT, Reg.DRV_LEG_STATUS.DESAT_HS, Reg.DRV_LEG_STATUS.DESAT_LS, Reg.DRV_LEG_STATUS.INSTANT, Reg.DRV_LEG_STATUS.VB_UV, Reg.DRV_LEG_STATUS.GATES_OFF, Reg.DRV_LEG_STATUS.MODE_ACT, Reg.DRV_LEG_COUNT.SUPPRESSED, Reg.DRV_LEG_COUNT.FULL_ON, Reg.DRV_EVENT.LOAD_DONE, Reg.DRV_EVENT.LOAD_ERR, Reg.MOT_STATE.STATE, Reg.MOT_STATE.CURVE_ON, Reg.MOT_STATE.PRIV, Reg.MOT_STATE.SRC, Reg.MOT_EVENT.STATE, Reg.MOT_EVENT.OBS_LOST, Reg.MOT_CURVE.X, Reg.MOT_CURVE.Y, Reg.MOT_CURVE.USED, Reg.MOT_ADV.SPEED, Reg.MOT_ADV.ANGLE, Reg.DRV_LOADALL.UNITS, Reg.DRV_LOAD_STATUS.DONE, Reg.DRV_LOAD_STATUS.ERR, Reg.LANE_STATUS.STATE, Reg.LANE_STATUS.CHAIN_LATE, Reg.LANE_STATUS.SERVED, Reg.LANE_STATUS.FIRST_Q, Reg.LANE_CHAIN.SPLIT, Reg.LANE_CHAIN.GAP, Reg.LANE_CHAIN.CELLS, Reg.LANE_CHAIN.PHYS, Reg.LANE_CHAIN.LOOPED, Reg.LANE_SEGDOWN_LO.DOWN, Reg.LANE_SEGDOWN_HI.DOWN, Reg.LANE_UPBASE.U, Reg.LANE_BUDGET.DELIVERY, Reg.LANE_BUDGET.COMPLETION, Reg.LANE_EVENT.CHAIN_LATE, Reg.LANE_DELAY.VALID, Reg.SLICE_ROLE.ROLE, Reg.SLICE_ROLE.TARGET, Reg.SLICE_ROLE.STATE, Reg.ARM_STATUS.ACTIVE, Reg.ARM_PTR.PTR, Reg.ARM_PAR.LOW, Reg.ARM_PAR.HIGH, Reg.ARM_ALPHA1.ALPHA, Reg.ARM_ALPHA2.ALPHA, Reg.CELL_STATE.STATE, Reg.CELL_STATE.CONFIRMED, Reg.CELL_STATE.NO_REPLY, Reg.CELL_STATE.CALL_QUEUED, Reg.CELL_STATE.REASON, Reg.CELL_PLACE.CHAIN, Reg.CELL_PLACE.POS, Reg.CELL_PLACE.END, Reg.CELL_PLACE.REACHABLE, Reg.CELL_PLACE.ARM, Reg.CELL_PLACE.CLASS, Reg.TS_FOUND_LO.IDENTITY, Reg.TS_FOUND_HI.IDENTITY, Reg.TS_RECORDED_LO.IDENTITY, Reg.TS_RECORDED_HI.IDENTITY, Reg.TS_INFO.CLASS, Reg.TS_INFO.BYPASS_FITTED, Reg.TS_INFO.FIRMWARE, Reg.TS_CALL.Q_EVEN, Reg.TS_CALL.VALID_EVEN, Reg.TS_CALL.Q_ODD, Reg.TS_CALL.VALID_ODD, Reg.TS_CALL.REPLIES, Reg.TS_CALL.RESULT, Reg.TS_CALL_FRAME.FRAME, Reg.CELL_SUMMARY0.SERVICE, Reg.CELL_SUMMARY0.BYPASSED, Reg.CELL_SUMMARY1.PENDING, Reg.CELL_SUMMARY1.OUT, Reg.CELL_SUMMARY2.ABSENT, Reg.CELL_SUMMARY2.REJECTED, Reg.CELL_PENDING_FIRST.CELL, Reg.CELL_UNROSTERED_LO.CHAINS, Reg.CELL_UNROSTERED_HI.CHAINS, Reg.BB_CTRL.EN, Reg.BB_CTRL.PAIR, Reg.BB_CTRL.IDLE_US, Reg.BB_STATUS.UP, Reg.BB_STATUS.TX_IDLE, Reg.BB_STATUS.CLOCK, Reg.BB_EVENT.EVENTS, Reg.BB_PARTNER.NODE, Reg.BB_PARTNER.RIGHTS]
theorem State.imageCommit_effect (s : State) (p1 : List Nat) (p2 : Bool) (p3 : Nat) :
    Effect State.imageCommit_touch State.imageCommit_fields s (@State.imageCommit s p1 p2 p3) := by
  unfold State.imageCommit
  extract_lets x1
  try clear_value x1
  split
  · exact Effect.refl _ _ _
  · extract_lets x2
    try clear_value x2
    split
    · refine Effect.after (State.commitRefused_effect ..) (by decide +kernel) ?_
      exact Effect.refl _ _ _
    · extract_lets x3 x4 x5
      have h6 : Effect State.imageCommit_touch State.imageCommit_fields s x3 := by
        refine Effect.after (State.build_effect ..) (by decide +kernel) ?_
        exact Effect.refl _ _ _
      try clear_value x3
      have h7 : Effect State.imageCommit_touch State.imageCommit_fields s x4 := by
        refine Effect.after (State.modLoad_effect ..) (by decide +kernel) ?_
        exact h6
      try clear_value x4
      have h8 : Effect State.imageCommit_touch State.imageCommit_fields s x5 := by
        refine Effect.when ?_ ?_
        · exact h7
        · intro u9
          try beta_reduce
          refine Effect.after (State.wr_effect ..) (by decide +kernel) ?_
          refine Effect.after (State.wr_effect ..) (by decide +kernel) ?_
          exact Effect.refl _ _ _
      try clear_value x5
      refine Effect.ite ?_ ?_
      · refine Effect.after (State.commitRefused_effect ..) (by decide +kernel) ?_
        exact Effect.refl _ _ _
      · refine Effect.after (State.modPower_effect ..) (by decide +kernel) ?_
        exact h8

def State.laneClear_touch : List Part := []
def State.laneClear_fields : Option (List Field) := some [Reg.LANE_CRC32_ERR.TRAIN, Reg.LANE_CRC32_ERR.SLOT, Reg.LANE_CODE_ERR.CODE, Reg.LANE_CODE_ERR.LOS, Reg.LANE_CODE_ERR.POS, Reg.LANE_LATE.SLOTS, Reg.LANE_LATE.FRAMES]
theorem State.laneClear_effect (s : State) (p1 : Nat) :
    Effect State.laneClear_touch State.laneClear_fields s (@State.laneClear s p1) := by
  unfold State.laneClear
  extract_lets x1 x2
  have h3 : Effect State.laneClear_touch State.laneClear_fields s x1 := by
    refine Effect.after (State.wr_effect ..) (by decide +kernel) ?_
    refine Effect.after (State.wr_effect ..) (by decide +kernel) ?_
    exact Effect.refl _ _ _
  try clear_value x1
  have h4 : Effect State.laneClear_touch State.laneClear_fields s x2 := by
    refine Effect.after (State.wr_effect ..) (by decide +kernel) ?_
    refine Effect.after (State.wr_effect ..) (by decide +kernel) ?_
    refine Effect.after (State.wr_effect ..) (by decide +kernel) ?_
    exact h3
  try clear_value x2
  refine Effect.after (State.wr_effect ..) (by decide +kernel) ?_
  refine Effect.after (State.wr_effect ..) (by decide +kernel) ?_
  exact h4

def State.pllLockLoss_touch : List Part := [.power, .faults, .load]
def State.pllLockLoss_fields : Option (List Field) := some [Reg.DOMAIN_STATE.DRAM_ACTIVE, Reg.CLOCK_PLL_STATUS.LOCK, Reg.CLOCK_PLL_STATUS.UNLOCKS, Reg.CLOCK_EVENT.EVENTS, Reg.COLLECT_STATUS_LO.STATUS, Reg.COLLECT_STATUS_HI.STATUS, Reg.FAULT_COUNT_CORR.COUNT, Reg.FAULT_COUNT_CONT.COUNT, Reg.FAULT_COUNT_FATAL.COUNT, Reg.FAULT_EVENT.CORRECTED, Reg.FAULT_EVENT.CONTAINED, Reg.FAULT_EVENT.FATAL, Reg.FAULT_EVENT.HIST_LOST, Reg.FAULT_HIST_STATUS.LOST, Reg.SAFE_STATUS.A_OK, Reg.SAFE_STATUS.B_OK, Reg.SAFE_STATUS.DIAG, Reg.SAFE_STATUS.DIAG_CAUSE, Reg.SAFE_STATUS.RESET_PIN, Reg.SAFE_STATUS.DEMAND, Reg.SAFE_STATUS.LOCKED, Reg.SAFE_STATUS.DIAG_A, Reg.SAFE_STATUS.DIAG_B, Reg.SAFE_GROUP.STATE, Reg.SAFE_GROUP.KIND, Reg.SAFE_GROUP.STOP, Reg.SAFE_GROUP.CAUSE, Reg.SAFE_GROUP.PAIRS, Reg.SAFE_PAIR.CH_A, Reg.SAFE_PAIR.CH_B, Reg.SAFE_PAIR.DEMAND, Reg.SAFE_PAIR.PAIR_FAULT, Reg.SAFE_PAIR.FAULT_CAUSE, Reg.SAFE_PAIR.DEMANDS, Reg.SAFE_TPO.EN, Reg.SAFE_TPO.READBACK_FAULT, Reg.SAFE_FIRE.FIRE_A, Reg.SAFE_FIRE.FIRE_B, Reg.SAFE_FIRE.DRV_A, Reg.SAFE_FIRE.DRV_B, Reg.SAFE_RESET_STATUS.ARMED, Reg.TIME_STATUS.SYNC, Reg.TIME_EVENT.EVENTS]
theorem State.pllLockLoss_effect (s : State) (p1 : Nat) :
    Effect State.pllLockLoss_touch State.pllLockLoss_fields s (@State.pllLockLoss s p1) := by
  unfold State.pllLockLoss
  extract_lets x1 x2 x3 x4
  have h5 : Effect State.pllLockLoss_touch State.pllLockLoss_fields s x1 := by
    refine Effect.after (State.evBit_effect ..) (by decide +kernel) ?_
    refine Effect.after (State.wr_effect ..) (by decide +kernel) ?_
    exact Effect.refl _ _ _
  try clear_value x1
  have h6 : Effect State.pllLockLoss_touch State.pllLockLoss_fields s x2 := by
    refine Effect.when ?_ ?_
    · exact h5
    · intro u7
      try beta_reduce
      refine Effect.after (State.raise_effect ..) (by decide +kernel) ?_
      refine Effect.after (State.bump_effect ..) (by decide +kernel) ?_
      exact Effect.refl _ _ _
  try clear_value x2
  have h9 : Effect State.pllLockLoss_touch State.pllLockLoss_fields s x3 := by
    refine Effect.after (State.modPower_effect ..) (by decide +kernel) ?_
    exact h6
  try clear_value x3
  have h10 : Effect State.pllLockLoss_touch State.pllLockLoss_fields s x4 := by
    refine Effect.ite ?_ ?_
    · refine Effect.after (State.showSafe_effect ..) (by decide +kernel) ?_
      refine Effect.after (State.setSync_effect ..) (by decide +kernel) ?_
      exact h9
    · exact h9
  try clear_value x4
  refine Effect.ite ?_ ?_
  · exact Effect.refl _ _ _
  · refine Effect.ite ?_ ?_
    · refine Effect.after (State.dramGone_effect ..) (by decide +kernel) ?_
      exact h10
    · exact h10

def State.driveOtRelease_touch : List Part := [.drives]
def State.driveOtRelease_fields : Option (List Field) := some [Reg.DRV_STATUS.OT_SHUT, Reg.DRV_LEG_STATUS.GATES_OFF]
theorem State.driveOtRelease_effect (s : State) (p1 : Nat) :
    Effect State.driveOtRelease_touch State.driveOtRelease_fields s (@State.driveOtRelease s p1) := by
  unfold State.driveOtRelease
  extract_lets x1 x2
  have h3 : Effect State.driveOtRelease_touch State.driveOtRelease_fields s x2 := by
    refine Effect.after (State.modDrv_effect ..) (by decide +kernel) ?_
    exact Effect.refl _ _ _
  try clear_value x2
  try clear_value x1
  refine Effect.ite ?_ ?_
  · refine Effect.after (State.driveUnit_effect ..) (by decide +kernel) ?_
    refine Effect.when ?_ ?_
    · exact h3
    · intro u4
      try beta_reduce
      refine Effect.after (State.wr_effect ..) (by decide +kernel) ?_
      exact Effect.refl _ _ _
  · exact Effect.refl _ _ _

def State.canSlotStart_touch : List Part := [.cans]
def State.canSlotStart_fields : Option (List Field) := some [Reg.CAN_MATRIX.COLUMN]
theorem State.canSlotStart_effect (s : State) (p1 : Nat) (p2 : Nat) :
    Effect State.canSlotStart_touch State.canSlotStart_fields s (@State.canSlotStart s p1 p2) := by
  unfold State.canSlotStart
  extract_lets x1
  try clear_value x1
  split
  · exact Effect.refl _ _ _
  · extract_lets x2
    try clear_value x2
    split
    · exact Effect.refl _ _ _
    · refine Effect.ite ?_ ?_
      · exact Effect.refl _ _ _
      · refine Effect.after (State.wr_effect ..) (by decide +kernel) ?_
        refine Effect.after (State.modCan_effect ..) (by decide +kernel) ?_
        exact Effect.refl _ _ _

def State.holdRec_touch : List Part := [.journal]
def State.holdRec_fields : Option (List Field) := some [Reg.JRN_STATUS.FILL, Reg.JRN_ACCEPTED.COUNT, Reg.JRN_SRC_LAST.LAST]
theorem State.holdRec_effect (s : State) (p1 : JrnRec) :
    Effect State.holdRec_touch State.holdRec_fields s (@State.holdRec s p1) := by
  unfold State.holdRec
  extract_lets x1
  have h2 : Effect State.holdRec_touch State.holdRec_fields s x1 := by
    refine Effect.after (State.modJrn_effect ..) (by decide +kernel) ?_
    exact Effect.refl _ _ _
  try clear_value x1
  refine Effect.after (State.showFill_effect ..) (by decide +kernel) ?_
  refine Effect.after (State.wr_effect ..) (by decide +kernel) ?_
  refine Effect.after (State.wr_effect ..) (by decide +kernel) ?_
  exact h2

def State.aliveToggle_touch : List Part := [.faults]
def State.aliveToggle_fields : Option (List Field) := some [Reg.ALIVE_CFG.HZ]
theorem State.aliveToggle_effect (s : State) :
    Effect State.aliveToggle_touch State.aliveToggle_fields s (@State.aliveToggle s) := by
  unfold State.aliveToggle
  extract_lets x1
  have h2 : Effect State.aliveToggle_touch State.aliveToggle_fields s x1 := by
    unfold x1
    split
    · refine Effect.after (State.wr_effect ..) (by decide +kernel) ?_
      exact Effect.refl _ _ _
    · exact Effect.refl _ _ _
  try clear_value x1
  refine Effect.ite ?_ ?_
  · exact Effect.refl _ _ _
  · refine Effect.after (State.modFaults_effect ..) (by decide +kernel) ?_
    exact h2

def State.instantTrip_touch : List Part := [.faults, .drives, .motors]
def State.instantTrip_fields : Option (List Field) := some [Reg.COLLECT_STATUS_LO.STATUS, Reg.COLLECT_STATUS_HI.STATUS, Reg.FAULT_COUNT_CORR.COUNT, Reg.FAULT_COUNT_CONT.COUNT, Reg.FAULT_COUNT_FATAL.COUNT, Reg.FAULT_EVENT.CORRECTED, Reg.FAULT_EVENT.CONTAINED, Reg.FAULT_EVENT.FATAL, Reg.FAULT_EVENT.HIST_LOST, Reg.FAULT_HIST_STATUS.LOST, Reg.DRV_STATUS.LATCHED, Reg.DRV_STATUS.LATCH_CAUSE, Reg.DRV_STATUS.LEG_FAULT, Reg.DRV_CARRIER_ACT.TOP, Reg.DRV_LEG_STATUS.CMP_ACT, Reg.DRV_LEG_STATUS.DESAT_HS, Reg.DRV_LEG_STATUS.DESAT_LS, Reg.DRV_LEG_STATUS.INSTANT, Reg.DRV_LEG_STATUS.VB_UV, Reg.DRV_LEG_STATUS.INPUT_ACTIVE, Reg.DRV_LEG_STATUS.GATES_OFF, Reg.DRV_LEG_STATUS.MODE_ACT, Reg.DRV_TRIP.COUNT, Reg.DRV_TRIP.LAST_LEG, Reg.DRV_TRIP.LAST_CAUSE, Reg.DRV_TRIP_NS_LO.NS, Reg.DRV_TRIP_NS_HI.NS, Reg.DRV_EVENT.TRIP, Reg.DRV_EVENT.LATCH, Reg.MOT_STATE.STATE, Reg.MOT_STATE.CHOP_FAULT, Reg.MOT_BUS.CHOP_D, Reg.MOT_COUNT.CHOP_FAULTS, Reg.MOT_EVENT.STATE, Reg.MOT_EVENT.OBS_LOST, Reg.MOT_EVENT.CHOP_FAULT]
theorem State.instantTrip_effect (s : State) (p1 : Nat) (p2 : Nat) (p3 : Nat) :
    Effect State.instantTrip_touch State.instantTrip_fields s (@State.instantTrip s p1 p2 p3) := by
  unfold State.instantTrip
  refine Effect.ite ?_ ?_
  · refine Effect.after (State.tripSeen_effect ..) (by decide +kernel) ?_
    exact Effect.refl _ _ _
  · exact Effect.refl _ _ _

def State.armExpiry_touch : List Part := [.safety]
def State.armExpiry_fields : Option (List Field) := some [Reg.SAFE_STATUS.A_OK, Reg.SAFE_STATUS.B_OK, Reg.SAFE_STATUS.DIAG, Reg.SAFE_STATUS.DIAG_CAUSE, Reg.SAFE_STATUS.RESET_PIN, Reg.SAFE_STATUS.DEMAND, Reg.SAFE_STATUS.LOCKED, Reg.SAFE_STATUS.DIAG_A, Reg.SAFE_STATUS.DIAG_B, Reg.SAFE_GROUP.STATE, Reg.SAFE_GROUP.KIND, Reg.SAFE_GROUP.STOP, Reg.SAFE_GROUP.CAUSE, Reg.SAFE_GROUP.PAIRS, Reg.SAFE_PAIR.CH_A, Reg.SAFE_PAIR.CH_B, Reg.SAFE_PAIR.DEMAND, Reg.SAFE_PAIR.PAIR_FAULT, Reg.SAFE_PAIR.FAULT_CAUSE, Reg.SAFE_PAIR.DEMANDS, Reg.SAFE_TPO.EN, Reg.SAFE_TPO.READBACK_FAULT, Reg.SAFE_FIRE.FIRE_A, Reg.SAFE_FIRE.FIRE_B, Reg.SAFE_FIRE.DRV_A, Reg.SAFE_FIRE.DRV_B, Reg.SAFE_RESET_STATUS.ARMED]
theorem State.armExpiry_effect (s : State) :
    Effect State.armExpiry_touch State.armExpiry_fields s (@State.armExpiry s) := by
  unfold State.armExpiry
  refine Effect.after (State.showSafe_effect ..) (by decide +kernel) ?_
  refine Effect.each ?_ ?_
  · exact Effect.refl _ _ _
  · intro u1 a2
    try beta_reduce
    refine Effect.after (State.modUnit_effect ..) (by decide +kernel) ?_
    exact Effect.refl _ _ _

def State.ethTxDone_touch : List Part := [.out]
def State.ethTxDone_fields : Option (List Field) := some [Reg.ETH_TXR_HEAD.INDEX, Reg.ETH_EVENT.EVENTS]
theorem State.ethTxDone_effect (s : State) (p1 : Nat) (p2 : Nat) :
    Effect State.ethTxDone_touch State.ethTxDone_fields s (@State.ethTxDone s p1 p2) := by
  unfold State.ethTxDone
  extract_lets x1 x2 x3 x4
  have h5 : Effect State.ethTxDone_touch State.ethTxDone_fields s x4 := by
    refine Effect.after (State.emit_effect ..) (by decide +kernel) ?_
    exact Effect.refl _ _ _
  try clear_value x4
  try clear_value x1 x2 x3
  refine Effect.after (State.evBit_effect ..) (by decide +kernel) ?_
  refine Effect.after (State.wr_effect ..) (by decide +kernel) ?_
  exact h5

def State.pushStamp_touch : List Part := [.eths, .drawn]
def State.pushStamp_fields : Option (List Field) := some [Reg.ETH_TXTS_STATUS.COUNT, Reg.ETH_TXTS_STATUS.OVF, Reg.ETH_TXTS_STATUS.DROPPED, Reg.ETH_EVENT.EVENTS]
theorem State.pushStamp_effect (s : State) (p1 : Nat) (p2 : List Byte) (p3 : Nat) (p4 : Nat) :
    Effect State.pushStamp_touch State.pushStamp_fields s (@State.pushStamp s p1 p2 p3 p4) := by
  unfold State.pushStamp
  refine Effect.ite ?_ ?_
  · refine Effect.after (State.bump_effect ..) (by decide +kernel) ?_
    refine Effect.after (State.wr_effect ..) (by decide +kernel) ?_
    exact Effect.refl _ _ _
  · split
    rename_i a2 u3 q4
    have h1 : Effect State.pushStamp_touch State.pushStamp_fields s u3 := by
      refine Effect.of_pair q4 ?_
      split
      · refine Effect.snd ?_
        exact Effect.refl _ _ _
      · split
        rename_i a6 u7 q8
        have h5 : Effect State.pushStamp_touch State.pushStamp_fields s u7 := by
          refine Effect.of_pair q8 ?_
          refine Effect.after (State.draw_effect ..) (by decide +kernel) ?_
          exact Effect.refl _ _ _
        refine Effect.snd ?_
        exact h5
    extract_lets x9
    have h10 : Effect State.pushStamp_touch State.pushStamp_fields s x9 := by
      refine Effect.after (State.modEth_effect ..) (by decide +kernel) ?_
      exact h1
    try clear_value x9
    refine Effect.after (State.evBit_effect ..) (by decide +kernel) ?_
    refine Effect.after (State.wr_effect ..) (by decide +kernel) ?_
    exact h10

def State.ethTransmit_touch : List Part := [.eths, .out, .drawn]
def State.ethTransmit_fields : Option (List Field) := some [Reg.ETH_TXR_HEAD.INDEX, Reg.ETH_TXTS_STATUS.COUNT, Reg.ETH_TXTS_STATUS.OVF, Reg.ETH_TXTS_STATUS.DROPPED, Reg.ETH_EVENT.EVENTS]
theorem State.ethTransmit_effect (s : State) (p1 : Nat) (p2 : List Byte) (p3 : List Byte) :
    Effect State.ethTransmit_touch State.ethTransmit_fields s (@State.ethTransmit s p1 p2 p3) := by
  unfold State.ethTransmit
  extract_lets x1 x2 x3 x4 x5 x6
  try clear_value x1 x2 x3 x4 x5 x6
  refine Effect.ite ?_ ?_
  · exact Effect.refl _ _ _
  · refine Effect.ite ?_ ?_
    · refine Effect.after (State.ethTxDone_effect ..) (by decide +kernel) ?_
      exact Effect.refl _ _ _
    · refine Effect.ite ?_ ?_
      · refine Effect.after (State.ethTxDone_effect ..) (by decide +kernel) ?_
        exact Effect.refl _ _ _
      · split
        · refine Effect.after (State.ethTxDone_effect ..) (by decide +kernel) ?_
          exact Effect.refl _ _ _
        · extract_lets x7 x8
          have h9 : Effect State.ethTransmit_touch State.ethTransmit_fields s x7 := by
            refine Effect.after (State.emit_effect ..) (by decide +kernel) ?_
            exact Effect.refl _ _ _
          try clear_value x7
          have h10 : Effect State.ethTransmit_touch State.ethTransmit_fields s x8 := by
            refine Effect.when ?_ ?_
            · exact h9
            · intro u11
              try beta_reduce
              refine Effect.after (State.pushStamp_effect ..) (by decide +kernel) ?_
              exact Effect.refl _ _ _
          try clear_value x8
          refine Effect.after (State.ethTxDone_effect ..) (by decide +kernel) ?_
          exact h10

def State.driveOt_touch : List Part := [.faults, .drives]
def State.driveOt_fields : Option (List Field) := some [Reg.COLLECT_STATUS_LO.STATUS, Reg.COLLECT_STATUS_HI.STATUS, Reg.FAULT_COUNT_CORR.COUNT, Reg.FAULT_COUNT_CONT.COUNT, Reg.FAULT_COUNT_FATAL.COUNT, Reg.FAULT_EVENT.CORRECTED, Reg.FAULT_EVENT.CONTAINED, Reg.FAULT_EVENT.FATAL, Reg.FAULT_EVENT.HIST_LOST, Reg.FAULT_HIST_STATUS.LOST, Reg.DRV_STATUS.OT_SHUT, Reg.DRV_LEG_STATUS.GATES_OFF, Reg.DRV_EVENT.OT_SHUT]
theorem State.driveOt_effect (s : State) (p1 : Nat) :
    Effect State.driveOt_touch State.driveOt_fields s (@State.driveOt s p1) := by
  unfold State.driveOt
  extract_lets x1 x2
  have h3 : Effect State.driveOt_touch State.driveOt_fields s x1 := by
    refine Effect.after (State.modDrv_effect ..) (by decide +kernel) ?_
    exact Effect.refl _ _ _
  try clear_value x1
  have h4 : Effect State.driveOt_touch State.driveOt_fields s x2 := by
    refine Effect.when ?_ ?_
    · exact h3
    · intro u5
      try beta_reduce
      refine Effect.after (State.wr_effect ..) (by decide +kernel) ?_
      refine Effect.after (State.wr_effect ..) (by decide +kernel) ?_
      exact Effect.refl _ _ _
  try clear_value x2
  refine Effect.ite ?_ ?_
  · exact Effect.refl _ _ _
  · refine Effect.after (State.driveUnit_effect ..) (by decide +kernel) ?_
    refine Effect.after (State.raise_effect ..) (by decide +kernel) ?_
    exact h4

def State.offside_touch : List Part := []
def State.offside_fields : Option (List Field) := some [Reg.REF_OFFSIDE.WRITES, Reg.REF_OFFSIDE.LAST_PLANE]
theorem State.offside_effect (s : State) (p1 : Nat) (p2 : Nat) :
    Effect State.offside_touch State.offside_fields s (@State.offside s p1 p2) := by
  unfold State.offside
  refine Effect.ite ?_ ?_
  · exact Effect.refl _ _ _
  · refine Effect.after (State.wr_effect ..) (by decide +kernel) ?_
    refine Effect.after (State.bump_effect ..) (by decide +kernel) ?_
    exact Effect.refl _ _ _

def State.entryEnds_touch : List Part := [.power]
def State.entryEnds_fields : Option (List Field) := some [Reg.POWER_CTRL.DORMANT, Reg.POWER_ENTRY_STATUS.RESULT]
theorem State.entryEnds_effect (s : State) (p1 : Nat) :
    Effect State.entryEnds_touch State.entryEnds_fields s (@State.entryEnds s p1) := by
  unfold State.entryEnds
  refine Effect.after (State.wr_effect ..) (by decide +kernel) ?_
  refine Effect.after (State.wr_effect ..) (by decide +kernel) ?_
  refine Effect.after (State.modPower_effect ..) (by decide +kernel) ?_
  exact Effect.refl _ _ _

def State.canRxError_touch : List Part := []
def State.canRxError_fields : Option (List Field) := some [Reg.CAN_STATUS.STATE, Reg.CAN_STATUS.WARNING, Reg.CAN_ERRCNT.REC, Reg.CAN_EVENT.EVENTS]
theorem State.canRxError_effect (s : State) (p1 : Nat) (p2 : Nat) :
    Effect State.canRxError_touch State.canRxError_fields s (@State.canRxError s p1 p2) := by
  unfold State.canRxError
  extract_lets x1 x2
  try clear_value x1 x2
  refine Effect.ite ?_ ?_
  · exact Effect.refl _ _ _
  · refine Effect.after (State.canConfine_effect ..) (by decide +kernel) ?_
    refine Effect.after (State.bump_effect ..) (by decide +kernel) ?_
    exact Effect.refl _ _ _

def State.helloRefused_touch : List Part := [.host]
def State.helloRefused_fields : Option (List Field) := some [Reg.BB_COUNT.FOREIGN, Reg.BB_EVENT.EVENTS, Reg.BB_PARTNER.STATE, Reg.BB_PARTNER.PORTS]
theorem State.helloRefused_effect (s : State) (p1 : Nat) (p2 : Nat) :
    Effect State.helloRefused_touch State.helloRefused_fields s (@State.helloRefused s p1 p2) := by
  unfold State.helloRefused
  extract_lets x1
  have h2 : Effect State.helloRefused_touch State.helloRefused_fields s x1 := by
    refine Effect.after (State.wr_effect ..) (by decide +kernel) ?_
    refine Effect.after (State.wr_effect ..) (by decide +kernel) ?_
    refine Effect.after (State.foreign_effect ..) (by decide +kernel) ?_
    exact Effect.refl _ _ _
  try clear_value x1
  refine Effect.after (State.evBit_effect ..) (by decide +kernel) ?_
  refine Effect.after (State.setPartner_effect ..) (by decide +kernel) ?_
  exact h2

def State.hello_touch : List Part := [.host]
def State.hello_fields : Option (List Field) := some [Reg.BB_STATUS.RX_IDLE, Reg.BB_COUNT.FOREIGN, Reg.BB_EVENT.EVENTS, Reg.BB_PARTNER.STATE, Reg.BB_PARTNER.PORTS]
theorem State.hello_effect (s : State) (p1 : Nat) (p2 : Nat) (p3 : List Byte) :
    Effect State.hello_touch State.hello_fields s (@State.hello s p1 p2 p3) := by
  unfold State.hello
  extract_lets x1
  have h2 : Effect State.hello_touch State.hello_fields s x1 := by
    refine Effect.after (State.wr_effect ..) (by decide +kernel) ?_
    exact Effect.refl _ _ _
  try clear_value x1
  refine Effect.ite ?_ ?_
  · exact Effect.refl _ _ _
  · split
    · refine Effect.after (State.foreign_effect ..) (by decide +kernel) ?_
      exact h2
    · refine Effect.ite ?_ ?_
      · refine Effect.after (State.helloRefused_effect ..) (by decide +kernel) ?_
        exact h2
      · refine Effect.after (State.helloMatched_effect ..) (by decide +kernel) ?_
        exact h2

def State.engineEcc_touch : List Part := [.power, .faults, .cells, .arms, .engs, .convs, .referee]
def State.engineEcc_fields : Option (List Field) := some [Reg.DOMAIN_STATE.PLANE_A, Reg.DOMAIN_STATE.PLANE_B, Reg.CONV_STATE.STATE, Reg.CONV_STATE.CAUSE, Reg.CONV_STATE.SLEWING, Reg.CONV_STATE_FRAME.FRAME, Reg.CONV_RESIDUAL.E, Reg.CONV_COUNT.BLOCKS, Reg.CONV_EVENT.BLOCK, Reg.CONV_EVENT.RESYNC_FAIL, Reg.CONV_EVENT.COAST_LIMIT, Reg.CONV_EVENT_SRC.CONV, Reg.POWER_PGOOD.PGOOD, Reg.POWER_WAKE_FAIL.ITEM, Reg.POWER_WAKE_FAIL.KIND, Reg.POWER_EVENT.EVENTS, Reg.COLLECT_STATUS_LO.STATUS, Reg.COLLECT_STATUS_HI.STATUS, Reg.FAULT_COUNT_CORR.COUNT, Reg.FAULT_COUNT_CONT.COUNT, Reg.FAULT_COUNT_FATAL.COUNT, Reg.FAULT_EVENT.CORRECTED, Reg.FAULT_EVENT.CONTAINED, Reg.FAULT_EVENT.FATAL, Reg.FAULT_EVENT.HIST_LOST, Reg.FAULT_HIST_STATUS.LOST, Reg.REF_STATUS.STATE, Reg.REF_STATUS.ROLE_A, Reg.REF_STATUS.ROLE_B, Reg.REF_STATUS.LEASE, Reg.REF_HT_STATUS.OUTCOME, Reg.REF_TAKEOVER.LAST_CAUSE, Reg.REF_EVENT.UNFIT, Reg.ENG_STATUS.BALL, Reg.ENG_STATUS.SHADOW, Reg.ENG_STATUS.COLD, Reg.ENG_ECC.UNCORRECTABLE, Reg.ENG_EXPORT.VALUE, Reg.ARM_PTR.PTR]
theorem State.engineEcc_effect (s : State) (p1 : Nat) :
    Effect State.engineEcc_touch State.engineEcc_fields s (@State.engineEcc s p1) := by
  unfold State.engineEcc
  refine Effect.after (State.planeEcc_effect ..) (by decide +kernel) ?_
  refine Effect.after (State.wr_effect ..) (by decide +kernel) ?_
  exact Effect.refl _ _ _

def State.bufferCell_touch : List Part := [.faults, .cells]
def State.bufferCell_fields : Option (List Field) := some [Reg.COLLECT_STATUS_LO.STATUS, Reg.COLLECT_STATUS_HI.STATUS, Reg.FAULT_COUNT_CORR.COUNT, Reg.FAULT_COUNT_CONT.COUNT, Reg.FAULT_COUNT_FATAL.COUNT, Reg.FAULT_EVENT.CORRECTED, Reg.FAULT_EVENT.CONTAINED, Reg.FAULT_EVENT.FATAL, Reg.FAULT_EVENT.HIST_LOST, Reg.FAULT_HIST_STATUS.LOST, Reg.STALE_COUNT.STALE, Reg.CELL_VOLT.V_USED, Reg.CELL_VOLT.V2_USED]
theorem State.bufferCell_effect (s : State) (p1 : Nat) :
    Effect State.bufferCell_touch State.bufferCell_fields s (@State.bufferCell s p1) := by
  unfold State.bufferCell
  extract_lets x1
  have h2 : Effect State.bufferCell_touch State.bufferCell_fields s x1 := by
    refine Effect.after (State.freezeStale_effect ..) (by decide +kernel) ?_
    refine Effect.after (State.modCell_effect ..) (by decide +kernel) ?_
    exact Effect.refl _ _ _
  try clear_value x1
  refine Effect.ite ?_ ?_
  · exact Effect.refl _ _ _
  · split
    · refine Effect.after (State.modCell_effect ..) (by decide +kernel) ?_
      exact Effect.refl _ _ _
    · exact Effect.refl _ _ _
    · refine Effect.ite ?_ ?_
      · exact Effect.refl _ _ _
      · refine Effect.after (State.wr_effect ..) (by decide +kernel) ?_
        refine Effect.after (State.wr_effect ..) (by decide +kernel) ?_
        exact h2

def State.staleEntry_touch : List Part := [.images]
def State.staleEntry_fields : Option (List Field) := some []
theorem State.staleEntry_effect (s : State) (p1 : Nat) (p2 : Nat) :
    Effect State.staleEntry_touch State.staleEntry_fields s (@State.staleEntry s p1 p2) := by
  unfold State.staleEntry
  extract_lets x1
  try clear_value x1
  split
  · exact Effect.refl _ _ _
  · extract_lets x2
    try clear_value x2
    refine Effect.after (Effect.images _ _ _) (by decide +kernel) ?_
    exact Effect.refl _ _ _

def State.eccUncorrectable_touch : List Part := [.power, .faults, .host, .load, .images, .lanes, .cells, .arms, .engs, .convs, .referee, .journal, .safety, .out]
def State.eccUncorrectable_fields : Option (List Field) := some [Reg.ROLE_COUNT.LANE_SLICES, Reg.ROLE_COUNT.ARM_SLICES, Reg.ROLE_COUNT.RECORDER, Reg.ROLE_COUNT.MIRROR, Reg.ROLE_COUNT.SPARE, Reg.ROLE_COUNT.UNASSIGNED, Reg.DOMAIN_STATE.PLANE_A, Reg.DOMAIN_STATE.PLANE_B, Reg.CONV_STATE.STATE, Reg.CONV_STATE.CAUSE, Reg.CONV_STATE.SLEWING, Reg.CONV_STATE_FRAME.FRAME, Reg.CONV_RESIDUAL.E, Reg.CONV_COUNT.BLOCKS, Reg.CONV_EVENT.BLOCK, Reg.CONV_EVENT.RESYNC_FAIL, Reg.CONV_EVENT.COAST_LIMIT, Reg.CONV_EVENT_SRC.CONV, Reg.POWER_PGOOD.PGOOD, Reg.POWER_WAKE_FAIL.ITEM, Reg.POWER_WAKE_FAIL.KIND, Reg.POWER_EVENT.EVENTS, Reg.COLLECT_STATUS_LO.STATUS, Reg.COLLECT_STATUS_HI.STATUS, Reg.FAULT_COUNT_CORR.COUNT, Reg.FAULT_COUNT_CONT.COUNT, Reg.FAULT_COUNT_FATAL.COUNT, Reg.FAULT_EVENT.CORRECTED, Reg.FAULT_EVENT.CONTAINED, Reg.FAULT_EVENT.FATAL, Reg.FAULT_EVENT.HIST_LOST, Reg.FAULT_HIST_STATUS.LOST, Reg.REF_STATUS.STATE, Reg.REF_STATUS.ROLE_A, Reg.REF_STATUS.ROLE_B, Reg.REF_STATUS.LEASE, Reg.REF_HT_STATUS.OUTCOME, Reg.REF_TAKEOVER.LAST_CAUSE, Reg.REF_CKPT.NEWEST, Reg.REF_CKPT.VALID0, Reg.REF_CKPT.VALID1, Reg.REF_CKPT_SEQ.SEQ, Reg.REF_EVENT.UNFIT, Reg.JRN_STATUS.FILL, Reg.JRN_STATUS.HALF0_OK, Reg.JRN_STATUS.HALF1_OK, Reg.JRN_STATUS.EPOCH_CAUSE, Reg.JRN_EPOCH.EPOCH, Reg.JRN_EXEC.COUNT, Reg.JRN_ACCEPTED.COUNT, Reg.JRN_BUSY.OTHER, Reg.JRN_EVENT.NEW_EPOCH, Reg.JRN_EVENT.HALF_FAIL, Reg.JRN_SRC_LAST.LAST, Reg.JRN_CPL_TAIL.INDEX, Reg.JRN_RING_STATUS.PHASE, Reg.STALE_COUNT.STALE, Reg.IMAGE_SUBST_STATUS.BUSY, Reg.IMAGE_SLICE_FAIL.FAIL, Reg.IMAGE_EVENT.SPARE_LOW, Reg.ENG_STATUS.BALL, Reg.ENG_STATUS.SHADOW, Reg.ENG_STATUS.COLD, Reg.ENG_ECC.UNCORRECTABLE, Reg.ENG_EXPORT.VALUE, Reg.LANE_STATUS.STATE, Reg.LANE_EVENT.LOST, Reg.SLICE_ROLE.STATE, Reg.ARM_STATUS.ACTIVE, Reg.ARM_PTR.PTR, Reg.CELL_VOLT.V_USED, Reg.CELL_VOLT.V2_USED, Reg.BB_STATUS.TX_IDLE]
theorem State.eccUncorrectable_effect (s : State) (p1 : Memory) (p2 : Nat) (p3 : Nat) :
    Effect State.eccUncorrectable_touch State.eccUncorrectable_fields s (@State.eccUncorrectable s p1 p2 p3) := by
  unfold State.eccUncorrectable
  extract_lets x1 x2 x3 x4
  have h5 : Effect State.eccUncorrectable_touch State.eccUncorrectable_fields s x2 := by
    refine Effect.after (State.raise_effect ..) (by decide +kernel) ?_
    exact Effect.refl _ _ _
  try clear_value x2
  try clear_value x1 x3 x4
  split
  · refine Effect.after (State.engineEcc_effect ..) (by decide +kernel) ?_
    exact Effect.refl _ _ _
  · refine Effect.after (State.sliceFail_effect ..) (by decide +kernel) ?_
    exact Effect.refl _ _ _
  · refine Effect.ite ?_ ?_
    · exact h5
    · refine Effect.ite ?_ ?_
      · refine Effect.when ?_ ?_
        · refine Effect.after (State.bufferCell_effect ..) (by decide +kernel) ?_
          exact h5
        · intro u6
          try beta_reduce
          refine Effect.after (State.staleEntry_effect ..) (by decide +kernel) ?_
          exact Effect.refl _ _ _
      · refine Effect.after (State.staleEntry_effect ..) (by decide +kernel) ?_
        exact h5
  · refine Effect.after (State.halfBad_effect ..) (by decide +kernel) ?_
    exact Effect.refl _ _ _
  · refine Effect.after (State.recordBad_effect ..) (by decide +kernel) ?_
    exact Effect.refl _ _ _
  · refine Effect.after (State.setHalf_effect ..) (by decide +kernel) ?_
    exact Effect.refl _ _ _
  · refine Effect.after (State.raise_effect ..) (by decide +kernel) ?_
    exact Effect.refl _ _ _
  · refine Effect.after (State.raise_effect ..) (by decide +kernel) ?_
    exact Effect.refl _ _ _

def State.eccCorrected_touch : List Part := [.faults]
def State.eccCorrected_fields : Option (List Field) := some [Reg.COLLECT_STATUS_LO.STATUS, Reg.COLLECT_STATUS_HI.STATUS, Reg.FAULT_COUNT_CORR.COUNT, Reg.FAULT_COUNT_CONT.COUNT, Reg.FAULT_COUNT_FATAL.COUNT, Reg.FAULT_EVENT.CORRECTED, Reg.FAULT_EVENT.CONTAINED, Reg.FAULT_EVENT.FATAL, Reg.FAULT_EVENT.HIST_LOST, Reg.FAULT_HIST_STATUS.LOST, Reg.ENG_ECC.CORRECTED, Reg.ENG_EVENT.ECC]
theorem State.eccCorrected_effect (s : State) (p1 : Memory) (p2 : Nat) :
    Effect State.eccCorrected_touch State.eccCorrected_fields s (@State.eccCorrected s p1 p2) := by
  unfold State.eccCorrected
  split
  · refine Effect.after (State.raise_effect ..) (by decide +kernel) ?_
    exact Effect.refl _ _ _
  · refine Effect.after (State.raise_effect ..) (by decide +kernel) ?_
    refine Effect.after (State.wr_effect ..) (by decide +kernel) ?_
    refine Effect.after (State.bump_effect ..) (by decide +kernel) ?_
    exact Effect.refl _ _ _
  · refine Effect.after (State.raiseVia_effect ..) (by decide +kernel) ?_
    exact Effect.refl _ _ _

def State.memoryError_touch : List Part := [.power, .faults, .host, .load, .images, .lanes, .cells, .arms, .engs, .convs, .referee, .journal, .safety, .out]
def State.memoryError_fields : Option (List Field) := some [Reg.ROLE_COUNT.LANE_SLICES, Reg.ROLE_COUNT.ARM_SLICES, Reg.ROLE_COUNT.RECORDER, Reg.ROLE_COUNT.MIRROR, Reg.ROLE_COUNT.SPARE, Reg.ROLE_COUNT.UNASSIGNED, Reg.DOMAIN_STATE.PLANE_A, Reg.DOMAIN_STATE.PLANE_B, Reg.CONV_STATE.STATE, Reg.CONV_STATE.CAUSE, Reg.CONV_STATE.SLEWING, Reg.CONV_STATE_FRAME.FRAME, Reg.CONV_RESIDUAL.E, Reg.CONV_COUNT.BLOCKS, Reg.CONV_EVENT.BLOCK, Reg.CONV_EVENT.RESYNC_FAIL, Reg.CONV_EVENT.COAST_LIMIT, Reg.CONV_EVENT_SRC.CONV, Reg.POWER_PGOOD.PGOOD, Reg.POWER_WAKE_FAIL.ITEM, Reg.POWER_WAKE_FAIL.KIND, Reg.POWER_EVENT.EVENTS, Reg.COLLECT_STATUS_LO.STATUS, Reg.COLLECT_STATUS_HI.STATUS, Reg.FAULT_COUNT_CORR.COUNT, Reg.FAULT_COUNT_CONT.COUNT, Reg.FAULT_COUNT_FATAL.COUNT, Reg.FAULT_EVENT.CORRECTED, Reg.FAULT_EVENT.CONTAINED, Reg.FAULT_EVENT.FATAL, Reg.FAULT_EVENT.HIST_LOST, Reg.FAULT_HIST_STATUS.LOST, Reg.REF_STATUS.STATE, Reg.REF_STATUS.ROLE_A, Reg.REF_STATUS.ROLE_B, Reg.REF_STATUS.LEASE, Reg.REF_HT_STATUS.OUTCOME, Reg.REF_TAKEOVER.LAST_CAUSE, Reg.REF_CKPT.NEWEST, Reg.REF_CKPT.VALID0, Reg.REF_CKPT.VALID1, Reg.REF_CKPT_SEQ.SEQ, Reg.REF_EVENT.UNFIT, Reg.JRN_STATUS.FILL, Reg.JRN_STATUS.HALF0_OK, Reg.JRN_STATUS.HALF1_OK, Reg.JRN_STATUS.EPOCH_CAUSE, Reg.JRN_EPOCH.EPOCH, Reg.JRN_EXEC.COUNT, Reg.JRN_ACCEPTED.COUNT, Reg.JRN_BUSY.OTHER, Reg.JRN_EVENT.NEW_EPOCH, Reg.JRN_EVENT.HALF_FAIL, Reg.JRN_SRC_LAST.LAST, Reg.JRN_CPL_TAIL.INDEX, Reg.JRN_RING_STATUS.PHASE, Reg.STALE_COUNT.STALE, Reg.IMAGE_SUBST_STATUS.BUSY, Reg.IMAGE_SLICE_FAIL.FAIL, Reg.IMAGE_EVENT.SPARE_LOW, Reg.ENG_STATUS.BALL, Reg.ENG_STATUS.SHADOW, Reg.ENG_STATUS.COLD, Reg.ENG_ECC.CORRECTED, Reg.ENG_ECC.UNCORRECTABLE, Reg.ENG_EVENT.ECC, Reg.ENG_EXPORT.VALUE, Reg.LANE_STATUS.STATE, Reg.LANE_EVENT.LOST, Reg.SLICE_ROLE.STATE, Reg.ARM_STATUS.ACTIVE, Reg.ARM_PTR.PTR, Reg.CELL_VOLT.V_USED, Reg.CELL_VOLT.V2_USED, Reg.BB_STATUS.TX_IDLE]
theorem State.memoryError_effect (s : State) (p1 : Memory) (p2 : Nat) (p3 : Bool) (p4 : Nat) :
    Effect State.memoryError_touch State.memoryError_fields s (@State.memoryError s p1 p2 p3 p4) := by
  unfold State.memoryError
  extract_lets x1
  try clear_value x1
  refine Effect.ite ?_ ?_
  · exact Effect.refl _ _ _
  · refine Effect.ite ?_ ?_
    · refine Effect.after (State.eccUncorrectable_effect ..) (by decide +kernel) ?_
      exact Effect.refl _ _ _
    · refine Effect.after (State.eccCorrected_effect ..) (by decide +kernel) ?_
      exact Effect.refl _ _ _

def State.shortEnd_touch : List Part := [.faults, .drives, .motors]
def State.shortEnd_fields : Option (List Field) := some [Reg.COLLECT_STATUS_LO.STATUS, Reg.COLLECT_STATUS_HI.STATUS, Reg.FAULT_COUNT_CORR.COUNT, Reg.FAULT_COUNT_CONT.COUNT, Reg.FAULT_COUNT_FATAL.COUNT, Reg.FAULT_EVENT.CORRECTED, Reg.FAULT_EVENT.CONTAINED, Reg.FAULT_EVENT.FATAL, Reg.FAULT_EVENT.HIST_LOST, Reg.FAULT_HIST_STATUS.LOST, Reg.DRV_STATUS.LEG_FAULT, Reg.DRV_CARRIER_ACT.TOP, Reg.DRV_LEG_STATUS.CMP_ACT, Reg.DRV_LEG_STATUS.DESAT_HS, Reg.DRV_LEG_STATUS.DESAT_LS, Reg.DRV_LEG_STATUS.INSTANT, Reg.DRV_LEG_STATUS.VB_UV, Reg.DRV_LEG_STATUS.GATES_OFF, Reg.DRV_LEG_STATUS.MODE_ACT, Reg.MOT_STATE.STATE, Reg.MOT_SPEED.REF, Reg.MOT_EVENT.STATE, Reg.MOT_EVENT.OBS_LOST]
theorem State.shortEnd_effect (s : State) (p1 : Nat) :
    Effect State.shortEnd_touch State.shortEnd_fields s (@State.shortEnd s p1) := by
  unfold State.shortEnd
  extract_lets x1 x2 x3 x4
  have h5 : Effect State.shortEnd_touch State.shortEnd_fields s x4 := by
    refine Effect.after (State.modMot_effect ..) (by decide +kernel) ?_
    exact Effect.refl _ _ _
  try clear_value x4
  try clear_value x1 x2 x3
  refine Effect.ite ?_ ?_
  · refine Effect.after (State.motGates_effect ..) (by decide +kernel) ?_
    refine Effect.after (State.motTo_effect ..) (by decide +kernel) ?_
    refine Effect.after (State.wr_effect ..) (by decide +kernel) ?_
    exact h5
  · exact Effect.refl _ _ _

def State.fetched_touch : List Part := [.power, .host, .load, .fr]
def State.fetched_fields : Option (List Field) := some [Reg.FRAME_STATUS.RUNNING, Reg.IMAGE_STATUS.STATE, Reg.IMAGE_STATUS.SOURCE, Reg.IMAGE_STATUS.CODE, Reg.IMAGE_ERR_SECTION.INDEX, Reg.IMAGE_ERR_SECTION.TYPE, Reg.IMAGE_ERR_OFFSET.OFFSET, Reg.IMAGE_PRIMARY_CODE.CODE, Reg.IMAGE_EVENT.DONE]
theorem State.fetched_effect (s : State) (p1 : List Byte) :
    Effect State.fetched_touch State.fetched_fields s (@State.fetched s p1) := by
  unfold State.fetched
  split
  · refine Effect.after (State.refuse_effect ..) (by decide +kernel) ?_
    exact Effect.refl _ _ _
  · refine Effect.after (State.modPower_effect ..) (by decide +kernel) ?_
    refine Effect.after (State.wr_effect ..) (by decide +kernel) ?_
    refine Effect.after (State.modLoad_effect ..) (by decide +kernel) ?_
    exact Effect.refl _ _ _

def State.engClearWrite_touch : List Part := []
def State.engClearWrite_fields : Option (List Field) := some [Reg.ENG_CYCLES.MAX, Reg.ENG_ECC.CORRECTED]
theorem State.engClearWrite_effect (s : State) (p1 : Nat) (p2 : Nat) :
    Effect State.engClearWrite_touch State.engClearWrite_fields s (@State.engClearWrite s p1 p2) := by
  unfold State.engClearWrite
  refine Effect.when ?_ ?_
  · refine Effect.when ?_ ?_
    · exact Effect.refl _ _ _
    · intro u1
      try beta_reduce
      refine Effect.after (State.wr_effect ..) (by decide +kernel) ?_
      exact Effect.refl _ _ _
  · intro u3
    try beta_reduce
    refine Effect.after (State.wr_effect ..) (by decide +kernel) ?_
    exact Effect.refl _ _ _

def State.stopTimer_touch : List Part := [.convs, .safety]
def State.stopTimer_fields : Option (List Field) := some [Reg.SAFE_STATUS.A_OK, Reg.SAFE_STATUS.B_OK, Reg.SAFE_STATUS.DIAG, Reg.SAFE_STATUS.DIAG_CAUSE, Reg.SAFE_STATUS.RESET_PIN, Reg.SAFE_STATUS.DEMAND, Reg.SAFE_STATUS.LOCKED, Reg.SAFE_STATUS.DIAG_A, Reg.SAFE_STATUS.DIAG_B, Reg.SAFE_GROUP.STATE, Reg.SAFE_GROUP.KIND, Reg.SAFE_GROUP.STOP, Reg.SAFE_GROUP.CAUSE, Reg.SAFE_GROUP.PAIRS, Reg.SAFE_PAIR.CH_A, Reg.SAFE_PAIR.CH_B, Reg.SAFE_PAIR.DEMAND, Reg.SAFE_PAIR.PAIR_FAULT, Reg.SAFE_PAIR.FAULT_CAUSE, Reg.SAFE_PAIR.DEMANDS, Reg.SAFE_TPO.EN, Reg.SAFE_TPO.READBACK_FAULT, Reg.SAFE_FIRE.FIRE_A, Reg.SAFE_FIRE.FIRE_B, Reg.SAFE_FIRE.DRV_A, Reg.SAFE_FIRE.DRV_B, Reg.SAFE_RESET_STATUS.ARMED, Reg.SAFE_EVENT.REMOVED]
theorem State.stopTimer_effect (s : State) (p1 : Bool) (p2 : Nat) :
    Effect State.stopTimer_touch State.stopTimer_fields s (@State.stopTimer s p1 p2) := by
  unfold State.stopTimer
  extract_lets x1
  try clear_value x1
  refine Effect.ite ?_ ?_
  · refine Effect.after (State.showSafe_effect ..) (by decide +kernel) ?_
    refine Effect.after (State.removeGroup_effect ..) (by decide +kernel) ?_
    exact Effect.refl _ _ _
  · exact Effect.refl _ _ _

def State.canRecord_touch : List Part := [.cans]
def State.canRecord_fields : Option (List Field) := some [Reg.CAN_TXQ.LATE, Reg.CAN_TXE_STATUS.COUNT, Reg.CAN_TXE_STATUS.OVF, Reg.CAN_EVENT.EVENTS]
theorem State.canRecord_effect (s : State) (p1 : Nat) (p2 : CanMsg) (p3 : Nat) :
    Effect State.canRecord_touch State.canRecord_fields s (@State.canRecord s p1 p2 p3) := by
  unfold State.canRecord
  extract_lets x1 x2 x3 x4
  have h5 : Effect State.canRecord_touch State.canRecord_fields s x2 := by
    refine Effect.when ?_ ?_
    · exact Effect.refl _ _ _
    · intro u6
      try beta_reduce
      refine Effect.after (State.bump_effect ..) (by decide +kernel) ?_
      exact Effect.refl _ _ _
  try clear_value x2
  have h8 : Effect State.canRecord_touch State.canRecord_fields s x3 := by
    refine Effect.after (State.evBit_effect ..) (by decide +kernel) ?_
    exact h5
  try clear_value x3
  have h9 : Effect State.canRecord_touch State.canRecord_fields s x4 := by
    refine Effect.after (State.modCan_effect ..) (by decide +kernel) ?_
    exact h8
  try clear_value x4
  try clear_value x1
  refine Effect.ite ?_ ?_
  · refine Effect.after (State.wr_effect ..) (by decide +kernel) ?_
    exact h8
  · refine Effect.after (State.wr_effect ..) (by decide +kernel) ?_
    exact h9

def State.runUnit_touch : List Part := [.load, .fr, .out]
def State.runUnit_fields : Option (List Field) := some [Reg.TRK_STATUS.CTRL_HIWATER]
theorem State.runUnit_effect (s : State) (p1 : BgUnit) :
    Effect State.runUnit_touch State.runUnit_fields s (@State.runUnit s p1) := by
  unfold State.runUnit
  extract_lets x1 x2 x3 x4
  have h5 : Effect State.runUnit_touch State.runUnit_fields s x1 := by
    refine Effect.after (State.modFr_effect ..) (by decide +kernel) ?_
    exact Effect.refl _ _ _
  try clear_value x1
  have h6 : Effect State.runUnit_touch State.runUnit_fields s x4 := by
    refine Effect.after (State.ctrlAsk_effect ..) (by decide +kernel) ?_
    exact h5
  try clear_value x4
  try clear_value x2 x3
  refine Effect.ite ?_ ?_
  · refine Effect.after (State.unitDone_effect ..) (by decide +kernel) ?_
    refine Effect.after (State.ctrlDone_effect ..) (by decide +kernel) ?_
    exact h6
  · exact h6

def State.dispatch_touch : List Part := [.power, .load, .fr, .engs, .referee, .out]
def State.dispatch_fields : Option (List Field) := (some [Reg.DOMAIN_STATE.PLANE_A, Reg.DOMAIN_STATE.PLANE_B, Reg.POWER_PGOOD.PGOOD, Reg.REF_STATUS.STATE, Reg.REF_STATUS.ROLE_A, Reg.REF_STATUS.ROLE_B, Reg.REF_HT_STATUS.OUTCOME, Reg.REF_EVENT.CANCEL, Reg.REF_EVENT.UNFIT, Reg.TRK_STATUS.CTRL_HIWATER, Reg.PLAN_BG_STATUS.STOPPED_BY, Reg.ENG_STATUS.BALL, Reg.ENG_STATUS.SHADOW, Reg.ENG_STATUS.COLD, Reg.ENG_EXPORT.VALUE])
theorem State.dispatch_effect (s : State) (capacity share : Nat) (l : List BgUnit) :
    Effect State.dispatch_touch State.dispatch_fields s (s.dispatch capacity share l) := by
  induction l generalizing s with
  | nil => exact (State.wr_effect ..).widen (by decide +kernel)
  | cons u l ih =>
    unfold State.dispatch
    refine Effect.ite ((State.bgRefuse_effect ..).widen (by decide +kernel)) ?_
    refine Effect.ite ((State.bgRefuse_effect ..).widen (by decide +kernel)) ?_
    refine Effect.ite ((State.bgRefuse_effect ..).widen (by decide +kernel)) ?_
    exact ((State.runUnit_effect ..).widen (by decide +kernel)).step (ih _) (Effect.fits_refl _ _)

def State.background_touch : List Part := [.power, .load, .fr, .engs, .referee, .out]
def State.background_fields : Option (List Field) := some [Reg.DOMAIN_STATE.PLANE_A, Reg.DOMAIN_STATE.PLANE_B, Reg.POWER_PGOOD.PGOOD, Reg.REF_STATUS.STATE, Reg.REF_STATUS.ROLE_A, Reg.REF_STATUS.ROLE_B, Reg.REF_HT_STATUS.OUTCOME, Reg.REF_EVENT.CANCEL, Reg.REF_EVENT.UNFIT, Reg.TRK_STATUS.CTRL_HIWATER, Reg.PLAN_BG_STATUS.STOPPED_BY, Reg.PLAN_BG_STATUS.SHARE, Reg.ENG_STATUS.BALL, Reg.ENG_STATUS.SHADOW, Reg.ENG_STATUS.COLD, Reg.ENG_EXPORT.VALUE]
theorem State.background_effect (s : State) (p1 : List BgUnit) (p2 : Nat) :
    Effect State.background_touch State.background_fields s (@State.background s p1 p2) := by
  unfold State.background
  extract_lets x1 x2 x3 x4
  have h5 : Effect State.background_touch State.background_fields s x4 := by
    refine Effect.after (State.wr_effect ..) (by decide +kernel) ?_
    exact Effect.refl _ _ _
  try clear_value x4
  try clear_value x1 x2 x3
  refine Effect.ite ?_ ?_
  · refine Effect.after (State.bgRefuse_effect ..) (by decide +kernel) ?_
    exact h5
  · refine Effect.ite ?_ ?_
    · refine Effect.after (State.bgRefuse_effect ..) (by decide +kernel) ?_
      exact h5
    · refine Effect.ite ?_ ?_
      · refine Effect.after (State.bgRefuse_effect ..) (by decide +kernel) ?_
        exact h5
      · refine Effect.after (State.dispatch_effect ..) (by decide +kernel) ?_
        exact h5

def State.pairTick_touch : List Part := [.arms, .pair]
def State.pairTick_fields : Option (List Field) := some [Reg.REF_PAIR.HOLDS, Reg.REF_PAIR.REF_OUT, Reg.REF_PAIR.MOVES, Reg.REF_EVENT.PAIR_MOVE]
theorem State.pairTick_effect (s : State) :
    Effect State.pairTick_touch State.pairTick_fields s (@State.pairTick s) := by
  unfold State.pairTick
  extract_lets x1 x2 x3 x4 x5
  have h6 : Effect State.pairTick_touch State.pairTick_fields s x3 := by
    refine Effect.ite ?_ ?_
    · refine Effect.after (State.wr_effect ..) (by decide +kernel) ?_
      refine Effect.after (State.bump_effect ..) (by decide +kernel) ?_
      refine Effect.after (State.wr_effect ..) (by decide +kernel) ?_
      exact Effect.refl _ _ _
    · exact Effect.refl _ _ _
  try clear_value x3
  have h7 : Effect State.pairTick_touch State.pairTick_fields s x4 := by
    refine Effect.ite ?_ ?_
    · refine Effect.each ?_ ?_
      · exact h6
      · intro u8 a9
        try beta_reduce
        refine Effect.after (State.modArm_effect ..) (by decide +kernel) ?_
        exact Effect.refl _ _ _
    · exact h6
  try clear_value x4
  try clear_value x1 x2 x5
  refine Effect.ite ?_ ?_
  · exact Effect.refl _ _ _
  · refine Effect.after (State.modPairSt_effect ..) (by decide +kernel) ?_
    refine Effect.after (State.wr_effect ..) (by decide +kernel) ?_
    exact h7

theorem State.steered_effect {A : List Part} {R : Option (List Field)} {s t : State} {f : State → State}
    (b : Effect.fits State.timeIgnored_touch State.timeIgnored_fields A R = true) (h : Effect A R s t) (k : ∀ u, Effect A R u (f u)) :
    Effect A R s (t.steered f) := by
  unfold State.steered
  exact Effect.ite (h.step (State.timeIgnored_effect t) b) (h.step (k t) (Effect.fits_refl _ _))

def State.timeSet_touch : List Part := [.time, .fr]
def State.timeSet_fields : Option (List Field) := some [Reg.TIME_STATUS.SLEWING, Reg.TIME_SLEW_REMAIN.VALUE]
theorem State.timeSet_effect (s : State) :
    Effect State.timeSet_touch State.timeSet_fields s (@State.timeSet s) := by
  unfold State.timeSet
  extract_lets x1 x2 x3 x4
  have h5 : Effect State.timeSet_touch State.timeSet_fields s x1 := by
    refine Effect.after (State.nextCycle_effect ..) (by decide +kernel) ?_
    exact Effect.refl _ _ _
  try clear_value x1
  try clear_value x2 x3 x4
  refine Effect.after (State.endSlew_effect ..) (by decide +kernel) ?_
  refine Effect.after (Effect.time _ _) (by decide +kernel) ?_
  exact h5

def State.slewGo_touch : List Part := [.time]
def State.slewGo_fields : Option (List Field) := some [Reg.TIME_STATUS.SLEWING, Reg.TIME_SLEW_REMAIN.VALUE]
theorem State.slewGo_effect (s : State) :
    Effect State.slewGo_touch State.slewGo_fields s (@State.slewGo s) := by
  unfold State.slewGo
  extract_lets x1
  try clear_value x1
  refine Effect.after (State.showSlew_effect ..) (by decide +kernel) ?_
  refine Effect.after (Effect.time _ _) (by decide +kernel) ?_
  exact Effect.refl _ _ _

def State.hostSync_touch : List Part := []
def State.hostSync_fields : Option (List Field) := some [Reg.TIME_STATUS.SYNC, Reg.TIME_EVENT.EVENTS]
theorem State.hostSync_effect (s : State) (p1 : Bool) :
    Effect State.hostSync_touch State.hostSync_fields s (@State.hostSync s p1) := by
  unfold State.hostSync
  refine Effect.ite ?_ ?_
  · exact Effect.refl _ _ _
  · refine Effect.after (State.setSync_effect ..) (by decide +kernel) ?_
    exact Effect.refl _ _ _

def State.timeCtrlWrite_touch : List Part := [.time, .fr]
def State.timeCtrlWrite_fields : Option (List Field) := some [Reg.TIME_CTRL.SERVO, Reg.TIME_STATUS.SYNC, Reg.TIME_STATUS.SLEWING, Reg.TIME_SLEW_REMAIN.VALUE, Reg.TIME_EVENT.EVENTS]
theorem State.timeCtrlWrite_effect (s : State) (p1 : Nat) :
    Effect State.timeCtrlWrite_touch State.timeCtrlWrite_fields s (@State.timeCtrlWrite s p1) := by
  unfold State.timeCtrlWrite
  extract_lets x1 x2
  have h3 : Effect State.timeCtrlWrite_touch State.timeCtrlWrite_fields s x1 := by
    refine Effect.when ?_ ?_
    · refine Effect.when ?_ ?_
      · exact Effect.refl _ _ _
      · intro u4
        try beta_reduce
        refine State.steered_effect (by decide +kernel) ?_ ?_
        · exact Effect.refl _ _ _
        · intro u6
          try beta_reduce
          refine Effect.after (State.timeSet_effect ..) (by decide +kernel) ?_
          exact Effect.refl _ _ _
    · intro u8
      try beta_reduce
      refine State.steered_effect (by decide +kernel) ?_ ?_
      · exact Effect.refl _ _ _
      · intro u10
        try beta_reduce
        refine Effect.after (State.timeStep_effect ..) (by decide +kernel) ?_
        exact Effect.refl _ _ _
  try clear_value x1
  have h12 : Effect State.timeCtrlWrite_touch State.timeCtrlWrite_fields s x2 := by
    refine Effect.when ?_ ?_
    · refine Effect.when ?_ ?_
      · exact h3
      · intro u13
        try beta_reduce
        refine State.steered_effect (by decide +kernel) ?_ ?_
        · exact Effect.refl _ _ _
        · intro u15
          try beta_reduce
          refine Effect.after (State.slewGo_effect ..) (by decide +kernel) ?_
          exact Effect.refl _ _ _
    · intro u17
      try beta_reduce
      refine Effect.after (State.hostSync_effect ..) (by decide +kernel) ?_
      exact Effect.refl _ _ _
  try clear_value x2
  refine Effect.after (State.servoTo_effect ..) (by decide +kernel) ?_
  refine Effect.when ?_ ?_
  · exact h12
  · intro u19
    try beta_reduce
    refine Effect.after (State.hostSync_effect ..) (by decide +kernel) ?_
    exact Effect.refl _ _ _

def State.driveEnvelope_touch : List Part := [.convs, .safety]
def State.driveEnvelope_fields : Option (List Field) := some [Reg.SAFE_EVENT.REMOVED]
theorem State.driveEnvelope_effect (s : State) (p1 : Nat) :
    Effect State.driveEnvelope_touch State.driveEnvelope_fields s (@State.driveEnvelope s p1) := by
  unfold State.driveEnvelope
  extract_lets x1 x2 x3 x4 x5
  try clear_value x1 x2 x3 x4
  refine Effect.ite ?_ ?_
  · exact Effect.refl _ _ _
  · refine Effect.ite ?_ ?_
    · refine Effect.after (State.removeGroup_effect ..) (by decide +kernel) ?_
      exact Effect.refl _ _ _
    · refine Effect.ite ?_ ?_
      · refine Effect.after (State.removeGroup_effect ..) (by decide +kernel) ?_
        exact Effect.refl _ _ _
      · exact Effect.refl _ _ _

def State.epochBurn_touch : List Part := [.load]
def State.epochBurn_fields : Option (List Field) := some [Reg.KEY_STATUS.BUSY, Reg.KEY_STATUS.RESULT]
theorem State.epochBurn_effect (s : State) :
    Effect State.epochBurn_touch State.epochBurn_fields s (@State.epochBurn s) := by
  unfold State.epochBurn
  refine Effect.ite ?_ ?_
  · exact Effect.refl _ _ _
  · refine Effect.ite ?_ ?_
    · refine Effect.after (State.fuseResult_effect ..) (by decide +kernel) ?_
      exact Effect.refl _ _ _
    · refine Effect.after (State.startFuse_effect ..) (by decide +kernel) ?_
      exact Effect.refl _ _ _

def State.faultClearHist_touch : List Part := []
def State.faultClearHist_fields : Option (List Field) := some [Reg.FAULT_HIST_STATUS.NEWEST, Reg.FAULT_HIST_STATUS.FILLED, Reg.FAULT_HIST_STATUS.LOST, Reg.FAULT_HIST_FRAME.VALUE, Reg.FAULT_HIST_NS_LO.VALUE, Reg.FAULT_HIST_NS_HI.VALUE, Reg.FAULT_HIST_INFO.VALUE]
theorem State.faultClearHist_effect (s : State) :
    Effect State.faultClearHist_touch State.faultClearHist_fields s (@State.faultClearHist s) := by
  unfold State.faultClearHist
  extract_lets x1
  have h2 : Effect State.faultClearHist_touch State.faultClearHist_fields s x1 := by
    refine Effect.after (State.wr_effect ..) (by decide +kernel) ?_
    refine Effect.after (State.wr_effect ..) (by decide +kernel) ?_
    refine Effect.after (State.wr_effect ..) (by decide +kernel) ?_
    exact Effect.refl _ _ _
  try clear_value x1
  refine Effect.each ?_ ?_
  · exact h2
  · intro u3 a4
    try beta_reduce
    refine Effect.after (State.wr_effect ..) (by decide +kernel) ?_
    refine Effect.after (State.wr64_effect ..) (by decide +kernel) ?_
    refine Effect.after (State.wr_effect ..) (by decide +kernel) ?_
    exact Effect.refl _ _ _

def State.laneTimeout_touch : List Part := [.lanes]
def State.laneTimeout_fields : Option (List Field) := some [Reg.LANE_STATUS.STATE, Reg.LANE_EVENT.LOST]
theorem State.laneTimeout_effect (s : State) :
    Effect State.laneTimeout_touch State.laneTimeout_fields s (@State.laneTimeout s) := by
  unfold State.laneTimeout
  refine Effect.ite ?_ ?_
  · refine Effect.each ?_ ?_
    · exact Effect.refl _ _ _
    · intro u1 a2
      try beta_reduce
      refine Effect.after (State.loseLane_effect ..) (by decide +kernel) ?_
      exact Effect.refl _ _ _
  · exact Effect.refl _ _ _

def State.forceTakeover_touch : List Part := [.referee]
def State.forceTakeover_fields : Option (List Field) := some []
theorem State.forceTakeover_effect (s : State) :
    Effect State.forceTakeover_touch State.forceTakeover_fields s (@State.forceTakeover s) := by
  unfold State.forceTakeover
  refine Effect.ite ?_ ?_
  · refine Effect.after (State.modRef_effect ..) (by decide +kernel) ?_
    exact Effect.refl _ _ _
  · exact Effect.refl _ _ _

def State.revive_touch : List Part := [.power, .faults, .cells, .arms, .engs, .convs, .referee]
def State.revive_fields : Option (List Field) := some [Reg.DOMAIN_STATE.PLANE_A, Reg.DOMAIN_STATE.PLANE_B, Reg.CONV_STATE.STATE, Reg.CONV_STATE.CAUSE, Reg.CONV_STATE.SLEWING, Reg.CONV_STATE_FRAME.FRAME, Reg.CONV_RESIDUAL.E, Reg.CONV_COUNT.BLOCKS, Reg.CONV_EVENT.BLOCK, Reg.CONV_EVENT.RESYNC_FAIL, Reg.CONV_EVENT.COAST_LIMIT, Reg.CONV_EVENT_SRC.CONV, Reg.POWER_PGOOD.PGOOD, Reg.COLLECT_STATUS_LO.STATUS, Reg.COLLECT_STATUS_HI.STATUS, Reg.FAULT_COUNT_CORR.COUNT, Reg.FAULT_COUNT_CONT.COUNT, Reg.FAULT_COUNT_FATAL.COUNT, Reg.FAULT_EVENT.CORRECTED, Reg.FAULT_EVENT.CONTAINED, Reg.FAULT_EVENT.FATAL, Reg.FAULT_EVENT.HIST_LOST, Reg.FAULT_HIST_STATUS.LOST, Reg.REF_STATUS.STATE, Reg.REF_STATUS.ROLE_A, Reg.REF_STATUS.ROLE_B, Reg.REF_STATUS.LEASE, Reg.REF_HT_STATUS.MATCHED, Reg.REF_HT_STATUS.OUTCOME, Reg.REF_EVENT.UNFIT, Reg.ENG_STATUS.BALL, Reg.ENG_STATUS.SHADOW, Reg.ENG_STATUS.COLD, Reg.ENG_EXPORT.VALUE, Reg.ARM_PTR.PTR]
theorem State.revive_effect (s : State) :
    Effect State.revive_touch State.revive_fields s (@State.revive s) := by
  unfold State.revive
  extract_lets x1 x2
  have h3 : Effect State.revive_touch State.revive_fields s x2 := by
    refine Effect.each ?_ ?_
    · exact Effect.refl _ _ _
    · intro u4 a5
      try beta_reduce
      split
      · refine Effect.after (State.modEng_effect ..) (by decide +kernel) ?_
        exact Effect.refl _ _ _
      · exact Effect.refl _ _ _
  try clear_value x2
  try clear_value x1
  refine Effect.ite ?_ ?_
  · refine Effect.ite ?_ ?_
    · refine Effect.after (State.wakeFails_effect ..) (by decide +kernel) ?_
      refine Effect.after (State.startShadow_effect ..) (by decide +kernel) ?_
      exact Effect.refl _ _ _
    · refine Effect.after (State.startShadow_effect ..) (by decide +kernel) ?_
      exact h3
  · exact Effect.refl _ _ _

def State.refCtrlWrite_touch : List Part := [.power, .faults, .cells, .arms, .engs, .convs, .referee]
def State.refCtrlWrite_fields : Option (List Field) := some [Reg.DOMAIN_STATE.PLANE_A, Reg.DOMAIN_STATE.PLANE_B, Reg.CONV_STATE.STATE, Reg.CONV_STATE.CAUSE, Reg.CONV_STATE.SLEWING, Reg.CONV_STATE_FRAME.FRAME, Reg.CONV_RESIDUAL.E, Reg.CONV_COUNT.BLOCKS, Reg.CONV_EVENT.BLOCK, Reg.CONV_EVENT.RESYNC_FAIL, Reg.CONV_EVENT.COAST_LIMIT, Reg.CONV_EVENT_SRC.CONV, Reg.POWER_PGOOD.PGOOD, Reg.COLLECT_STATUS_LO.STATUS, Reg.COLLECT_STATUS_HI.STATUS, Reg.FAULT_COUNT_CORR.COUNT, Reg.FAULT_COUNT_CONT.COUNT, Reg.FAULT_COUNT_FATAL.COUNT, Reg.FAULT_EVENT.CORRECTED, Reg.FAULT_EVENT.CONTAINED, Reg.FAULT_EVENT.FATAL, Reg.FAULT_EVENT.HIST_LOST, Reg.FAULT_HIST_STATUS.LOST, Reg.REF_STATUS.STATE, Reg.REF_STATUS.ROLE_A, Reg.REF_STATUS.ROLE_B, Reg.REF_STATUS.LEASE, Reg.REF_CTRL.HALFTIME_EN, Reg.REF_HT_STATUS.MATCHED, Reg.REF_HT_STATUS.OUTCOME, Reg.REF_EVENT.UNFIT, Reg.ENG_STATUS.BALL, Reg.ENG_STATUS.SHADOW, Reg.ENG_STATUS.COLD, Reg.ENG_EXPORT.VALUE, Reg.ARM_PTR.PTR]
theorem State.refCtrlWrite_effect (s : State) (p1 : Nat) :
    Effect State.refCtrlWrite_touch State.refCtrlWrite_fields s (@State.refCtrlWrite s p1) := by
  unfold State.refCtrlWrite
  extract_lets x1
  have h2 : Effect State.refCtrlWrite_touch State.refCtrlWrite_fields s x1 := by
    refine Effect.when ?_ ?_
    · refine Effect.after (State.wr_effect ..) (by decide +kernel) ?_
      exact Effect.refl _ _ _
    · intro u3
      try beta_reduce
      refine Effect.after (State.forceTakeover_effect ..) (by decide +kernel) ?_
      exact Effect.refl _ _ _
  try clear_value x1
  refine Effect.when ?_ ?_
  · refine Effect.when ?_ ?_
    · exact h2
    · intro u5
      try beta_reduce
      refine Effect.after (State.halftimeNow_effect ..) (by decide +kernel) ?_
      exact Effect.refl _ _ _
  · intro u7
    try beta_reduce
    refine Effect.after (State.revive_effect ..) (by decide +kernel) ?_
    exact Effect.refl _ _ _

def State.vdrvRecover_touch : List Part := [.power, .faults, .drives, .motors]
def State.vdrvRecover_fields : Option (List Field) := some [Reg.COLLECT_STATUS_LO.STATUS, Reg.COLLECT_STATUS_HI.STATUS, Reg.FAULT_COUNT_CORR.COUNT, Reg.FAULT_COUNT_CONT.COUNT, Reg.FAULT_COUNT_FATAL.COUNT, Reg.FAULT_EVENT.CORRECTED, Reg.FAULT_EVENT.CONTAINED, Reg.FAULT_EVENT.FATAL, Reg.FAULT_EVENT.HIST_LOST, Reg.FAULT_HIST_STATUS.LOST, Reg.DRV_STATUS.VDRV_OK, Reg.DRV_STATUS.LEG_FAULT, Reg.DRV_CARRIER_ACT.TOP, Reg.DRV_LEG_STATUS.CMP_ACT, Reg.DRV_LEG_STATUS.DESAT_HS, Reg.DRV_LEG_STATUS.DESAT_LS, Reg.DRV_LEG_STATUS.INSTANT, Reg.DRV_LEG_STATUS.VB_UV, Reg.DRV_LEG_STATUS.UVLO, Reg.DRV_LEG_STATUS.GATES_OFF, Reg.DRV_LEG_STATUS.MODE_ACT, Reg.MOT_STATE.STATE, Reg.MOT_EVENT.STATE, Reg.MOT_EVENT.OBS_LOST]
theorem State.vdrvRecover_effect (s : State) (p1 : Nat) :
    Effect State.vdrvRecover_touch State.vdrvRecover_fields s (@State.vdrvRecover s p1) := by
  unfold State.vdrvRecover
  extract_lets x1 x2 x3
  have h4 : Effect State.vdrvRecover_touch State.vdrvRecover_fields s x2 := by
    refine Effect.after (Effect.power _ _) (by decide +kernel) ?_
    exact Effect.refl _ _ _
  try clear_value x2
  have h5 : Effect State.vdrvRecover_touch State.vdrvRecover_fields s x3 := by
    refine Effect.after (State.driveUnit_effect ..) (by decide +kernel) ?_
    refine Effect.after (State.waitEdges_effect ..) (by decide +kernel) ?_
    refine Effect.after (State.modDrv_effect ..) (by decide +kernel) ?_
    exact h4
  try clear_value x3
  try clear_value x1
  refine Effect.ite ?_ ?_
  · exact Effect.refl _ _ _
  · refine Effect.when ?_ ?_
    · exact h5
    · intro u6
      try beta_reduce
      refine Effect.after (State.vdrvMotor_effect ..) (by decide +kernel) ?_
      refine Effect.after (State.showVdrv_effect ..) (by decide +kernel) ?_
      exact Effect.refl _ _ _

def State.resetNAssert_touch : List Part := [.hold, .wrHold, .power, .faults, .host, .load, .cfg, .fr, .images, .lanes, .chains, .cells, .arms, .engs, .convs, .referee, .pair, .journal, .adc, .drives, .motors, .safety, .eths, .canQueues, .cans, .out]
def State.resetNAssert_fields : Option (List Field) := none
theorem State.resetNAssert_effect (s : State) (p1 : Nat) :
    Effect State.resetNAssert_touch State.resetNAssert_fields s (@State.resetNAssert s p1) := by
  unfold State.resetNAssert
  extract_lets x1 x2 x3 x4
  have h5 : Effect State.resetNAssert_touch State.resetNAssert_fields s x1 := by
    refine Effect.after (State.modPower_effect ..) (by decide +kernel) ?_
    exact Effect.refl _ _ _
  try clear_value x1
  have h6 : Effect State.resetNAssert_touch State.resetNAssert_fields s x3 := by
    refine Effect.after (State.devReset_effect ..) (by decide +kernel) ?_
    refine Effect.after (State.resetBegins_effect ..) (by decide +kernel) ?_
    exact h5
  try clear_value x3
  have h7 : Effect State.resetNAssert_touch State.resetNAssert_fields s x4 := by
    refine Effect.when ?_ ?_
    · exact h6
    · intro u8
      try beta_reduce
      refine Effect.after (State.wr_effect ..) (by decide +kernel) ?_
      exact Effect.refl _ _ _
  try clear_value x4
  try clear_value x2
  refine Effect.ite ?_ ?_
  · exact h5
  · refine Effect.ite ?_ ?_
    · exact h6
    · refine Effect.after (State.kickFrom2_effect ..) (by decide +kernel) ?_
      refine Effect.after (State.wr_effect ..) (by decide +kernel) ?_
      exact h7

def State.vinStep_touch : List Part := [.hold, .wrHold, .power, .faults, .host, .load, .cfg, .fr, .images, .lanes, .chains, .cells, .arms, .engs, .convs, .referee, .pair, .journal, .adc, .drives, .motors, .safety, .eths, .canQueues, .cans, .out]
def State.vinStep_fields : Option (List Field) := none
theorem State.vinStep_effect (s : State) (p1 : Nat) :
    Effect State.vinStep_touch State.vinStep_fields s (@State.vinStep s p1) := by
  unfold State.vinStep
  extract_lets x1 x2 x3 x4 x5 x6 x7 x8
  have h9 : Effect State.vinStep_touch State.vinStep_fields s x8 := by
    refine Effect.after (State.modPower_effect ..) (by decide +kernel) ?_
    exact Effect.refl _ _ _
  try clear_value x8
  try clear_value x1 x2 x3 x4 x5 x6 x7
  refine Effect.ite ?_ ?_
  · refine Effect.after (State.shedTo_effect ..) (by decide +kernel) ?_
    refine Effect.after (State.modPower_effect ..) (by decide +kernel) ?_
    exact h9
  · split
    · refine Effect.ite ?_ ?_
      · refine Effect.after (State.shedTo_effect ..) (by decide +kernel) ?_
        refine Effect.after (State.modPower_effect ..) (by decide +kernel) ?_
        exact h9
      · exact h9
    · exact h9

def State.vinSample_touch : List Part := [.hold, .wrHold, .power, .faults, .host, .load, .cfg, .fr, .images, .lanes, .chains, .cells, .arms, .engs, .convs, .referee, .pair, .journal, .adc, .drives, .motors, .safety, .eths, .canQueues, .cans, .out]
def State.vinSample_fields : Option (List Field) := none
theorem State.vinSample_effect (s : State) (p1 : Nat) :
    Effect State.vinSample_touch State.vinSample_fields s (@State.vinSample s p1) := by
  unfold State.vinSample
  extract_lets x1 x2 x3
  have h4 : Effect State.vinSample_touch State.vinSample_fields s x1 := by
    refine Effect.after (State.modPower_effect ..) (by decide +kernel) ?_
    exact Effect.refl _ _ _
  try clear_value x1
  have h5 : Effect State.vinSample_touch State.vinSample_fields s x2 := by
    refine Effect.after (State.wr_effect ..) (by decide +kernel) ?_
    refine Effect.after (State.wr_effect ..) (by decide +kernel) ?_
    exact h4
  try clear_value x2
  have h6 : Effect State.vinSample_touch State.vinSample_fields s x3 := by
    refine Effect.when ?_ ?_
    · exact h5
    · intro u7
      try beta_reduce
      refine Effect.after (State.evBit_effect ..) (by decide +kernel) ?_
      exact Effect.refl _ _ _
  try clear_value x3
  refine Effect.ite ?_ ?_
  · exact Effect.refl _ _ _
  · refine Effect.ite ?_ ?_
    · exact h4
    · refine Effect.after (State.vinStep_effect ..) (by decide +kernel) ?_
      exact h6

def State.shadowBegins_touch : List Part := [.power, .engs]
def State.shadowBegins_fields : Option (List Field) := some [Reg.DOMAIN_STATE.PLANE_A, Reg.DOMAIN_STATE.PLANE_B, Reg.POWER_PGOOD.PGOOD, Reg.REF_STATUS.ROLE_A, Reg.REF_STATUS.ROLE_B, Reg.REF_EVENT.UNFIT, Reg.ENG_STATUS.BALL, Reg.ENG_STATUS.SHADOW, Reg.ENG_STATUS.COLD, Reg.ENG_EXPORT.VALUE]
theorem State.shadowBegins_effect (s : State) :
    Effect State.shadowBegins_touch State.shadowBegins_fields s (@State.shadowBegins s) := by
  unfold State.shadowBegins
  split
  · refine Effect.ite ?_ ?_
    · refine Effect.after (State.setRole_effect ..) (by decide +kernel) ?_
      exact Effect.refl _ _ _
    · exact Effect.refl _ _ _
  · exact Effect.refl _ _ _

def State.startPlane_touch : List Part := [.fr, .engs]
def State.startPlane_fields : Option (List Field) := some [Reg.TRK_STATUS.CTRL_HIWATER]
theorem State.startPlane_effect (s : State) (p1 : Nat) :
    Effect State.startPlane_touch State.startPlane_fields s (@State.startPlane s p1) := by
  unfold State.startPlane
  refine Effect.each ?_ ?_
  · exact Effect.refl _ _ _
  · intro u1 a2
    try beta_reduce
    refine Effect.ite ?_ ?_
    · refine Effect.after (State.ctrlAsk_effect ..) (by decide +kernel) ?_
      refine Effect.after (State.modEng_effect ..) (by decide +kernel) ?_
      exact Effect.refl _ _ _
    · exact Effect.refl _ _ _

def State.freezeFrame_touch : List Part := [.hold, .wrHold, .power, .faults, .host, .load, .cfg, .fr, .images, .lanes, .chains, .cells, .arms, .engs, .convs, .referee, .pair, .journal, .adc, .drives, .motors, .safety, .eths, .canQueues, .cans, .out]
def State.freezeFrame_fields : Option (List Field) := none
theorem State.freezeFrame_effect (s : State) :
    Effect State.freezeFrame_touch State.freezeFrame_fields s (@State.freezeFrame s) := by
  unfold State.freezeFrame
  extract_lets x1 x2 x3
  have h4 : Effect State.freezeFrame_touch State.freezeFrame_fields s x1 := by
    refine Effect.after (State.shadowBegins_effect ..) (by decide +kernel) ?_
    refine Effect.after (State.freezeImage_effect ..) (by decide +kernel) ?_
    exact Effect.refl _ _ _
  try clear_value x1
  have h5 : Effect State.freezeFrame_touch State.freezeFrame_fields s x2 := by
    refine Effect.when ?_ ?_
    · exact h4
    · intro u6
      try beta_reduce
      refine Effect.after (State.startPlane_effect ..) (by decide +kernel) ?_
      exact Effect.refl _ _ _
  try clear_value x2
  have h8 : Effect State.freezeFrame_touch State.freezeFrame_fields s x3 := by
    refine Effect.when ?_ ?_
    · exact h5
    · intro u9
      try beta_reduce
      refine Effect.after (State.startPlane_effect ..) (by decide +kernel) ?_
      exact Effect.refl _ _ _
  try clear_value x3
  refine Effect.ite ?_ ?_
  · exact Effect.refl _ _ _
  · refine Effect.ite ?_ ?_
    · refine Effect.after (State.enterKeepOnly_effect ..) (by decide +kernel) ?_
      exact h8
    · exact h8

def State.tickTimer_touch : List Part := [.faults, .fr, .lanes]
def State.tickTimer_fields : Option (List Field) := some [Reg.COLLECT_STATUS_LO.STATUS, Reg.COLLECT_STATUS_HI.STATUS, Reg.FAULT_COUNT_CORR.COUNT, Reg.FAULT_COUNT_CONT.COUNT, Reg.FAULT_COUNT_FATAL.COUNT, Reg.FAULT_EVENT.CORRECTED, Reg.FAULT_EVENT.CONTAINED, Reg.FAULT_EVENT.FATAL, Reg.FAULT_EVENT.HIST_LOST, Reg.FAULT_HIST_STATUS.LOST, Reg.FRAME_PERIOD.PERIOD, Reg.FRAME_NO.FRAME_NO, Reg.FRAME_TICK_NS_LO.TICK_NS, Reg.FRAME_TICK_NS_HI.TICK_NS, Reg.PLAN_LEVEL.CURRENT, Reg.PLAN_CAPACITY.ENG_CAP, Reg.PLAN_CAPACITY.FAB_CAP, Reg.PLAN_BG_STATUS.RAN, Reg.FRAME_EVENT.PERIOD, Reg.ADC_SEQ_BURST.START, Reg.ADC_SEQ_BURST.LENGTH, Reg.LANE_STATUS.CHAIN_LATE, Reg.LANE_STATUS.SERVED, Reg.LANE_STATUS.FIRST_Q, Reg.LANE_UPBASE.U, Reg.LANE_BUDGET.DELIVERY, Reg.LANE_BUDGET.COMPLETION, Reg.LANE_EVENT.CHAIN_LATE, Reg.ARM_ALPHA1.ALPHA, Reg.ARM_ALPHA2.ALPHA]
theorem State.tickTimer_effect (s : State) :
    Effect State.tickTimer_touch State.tickTimer_fields s (@State.tickTimer s) := by
  unfold State.tickTimer
  extract_lets x1 x2 x3 x4
  have h5 : Effect State.tickTimer_touch State.tickTimer_fields s x1 := by
    refine Effect.after (State.wr_effect ..) (by decide +kernel) ?_
    exact Effect.refl _ _ _
  try clear_value x1
  have h6 : Effect State.tickTimer_touch State.tickTimer_fields s x2 := by
    refine Effect.after (State.wr64_effect ..) (by decide +kernel) ?_
    exact h5
  try clear_value x2
  have h7 : Effect State.tickTimer_touch State.tickTimer_fields s x3 := by
    refine Effect.after (State.wr_effect ..) (by decide +kernel) ?_
    exact h6
  try clear_value x3
  have h8 : Effect State.tickTimer_touch State.tickTimer_fields s x4 := by
    refine Effect.after (State.modFr_effect ..) (by decide +kernel) ?_
    exact h7
  try clear_value x4
  refine Effect.after (State.levelTick_effect ..) (by decide +kernel) ?_
  refine Effect.after (State.periodTick_effect ..) (by decide +kernel) ?_
  exact h8

def State.settleAllCall_touch : List Part := [.faults, .lanes, .chains]
def State.settleAllCall_fields : Option (List Field) := some [Reg.COLLECT_STATUS_LO.STATUS, Reg.COLLECT_STATUS_HI.STATUS, Reg.FAULT_COUNT_CORR.COUNT, Reg.FAULT_COUNT_CONT.COUNT, Reg.FAULT_COUNT_FATAL.COUNT, Reg.FAULT_EVENT.CORRECTED, Reg.FAULT_EVENT.CONTAINED, Reg.FAULT_EVENT.FATAL, Reg.FAULT_EVENT.HIST_LOST, Reg.FAULT_HIST_STATUS.LOST, Reg.LANE_STATUS.STATE, Reg.LANE_STATUS.CHAIN_LATE, Reg.LANE_STATUS.SERVED, Reg.LANE_STATUS.FIRST_Q, Reg.LANE_UPBASE.U, Reg.LANE_BUDGET.DELIVERY, Reg.LANE_BUDGET.COMPLETION, Reg.LANE_EVENT.READY, Reg.LANE_EVENT.CHAIN_LATE, Reg.LANE_DELAY.VALID]
theorem State.settleAllCall_effect (s : State) (p1 : ChainCfg) :
    Effect State.settleAllCall_touch State.settleAllCall_fields s (@State.settleAllCall s p1) := by
  unfold State.settleAllCall
  extract_lets x1
  have h2 : Effect State.settleAllCall_touch State.settleAllCall_fields s x1 := by
    refine Effect.after (State.modChain_effect ..) (by decide +kernel) ?_
    exact Effect.refl _ _ _
  try clear_value x1
  split
  · extract_lets x3
    have h4 : Effect State.settleAllCall_touch State.settleAllCall_fields s x3 := by
      refine Effect.each ?_ ?_
      · exact h2
      · intro u5 a6
        try beta_reduce
        refine Effect.after (State.wr_effect ..) (by decide +kernel) ?_
        exact Effect.refl _ _ _
    try clear_value x3
    refine Effect.ite ?_ ?_
    · exact Effect.refl _ _ _
    · refine Effect.after (State.sweepDone_effect ..) (by decide +kernel) ?_
      refine Effect.after (State.planLane_effect ..) (by decide +kernel) ?_
      exact h4
  · exact Effect.refl _ _ _

def State.firstGrant_touch : List Part := [.power, .faults, .fr, .cells, .arms, .engs, .convs, .referee]
def State.firstGrant_fields : Option (List Field) := some [Reg.DOMAIN_STATE.PLANE_A, Reg.DOMAIN_STATE.PLANE_B, Reg.CONV_STATE.STATE, Reg.CONV_STATE.CAUSE, Reg.CONV_STATE.SLEWING, Reg.CONV_STATE_FRAME.FRAME, Reg.CONV_RESIDUAL.E, Reg.CONV_COUNT.BLOCKS, Reg.CONV_EVENT.BLOCK, Reg.CONV_EVENT.RESYNC_FAIL, Reg.CONV_EVENT.COAST_LIMIT, Reg.CONV_EVENT_SRC.CONV, Reg.POWER_PGOOD.PGOOD, Reg.COLLECT_STATUS_LO.STATUS, Reg.COLLECT_STATUS_HI.STATUS, Reg.FAULT_COUNT_CORR.COUNT, Reg.FAULT_COUNT_CONT.COUNT, Reg.FAULT_COUNT_FATAL.COUNT, Reg.FAULT_EVENT.CORRECTED, Reg.FAULT_EVENT.CONTAINED, Reg.FAULT_EVENT.FATAL, Reg.FAULT_EVENT.HIST_LOST, Reg.FAULT_HIST_STATUS.LOST, Reg.REF_STATUS.STATE, Reg.REF_STATUS.HOLDER, Reg.REF_STATUS.ROLE_A, Reg.REF_STATUS.ROLE_B, Reg.REF_STATUS.LEASE, Reg.REF_EVENT.UNFIT, Reg.PLAN_LEVEL.STATIC, Reg.PLAN_FORECAST.ENG_NEED, Reg.PLAN_FORECAST.FAB_NEED, Reg.ENG_STATUS.BALL, Reg.ENG_STATUS.SHADOW, Reg.ENG_STATUS.COLD, Reg.ENG_EXPORT.VALUE, Reg.ARM_PTR.PTR]
theorem State.firstGrant_effect (s : State) :
    Effect State.firstGrant_touch State.firstGrant_fields s (@State.firstGrant s) := by
  unfold State.firstGrant
  refine Effect.ite ?_ ?_
  · exact Effect.refl _ _ _
  · refine Effect.ite ?_ ?_
    · refine Effect.after (State.modRef_effect ..) (by decide +kernel) ?_
      refine Effect.after (State.giveBall_effect ..) (by decide +kernel) ?_
      exact Effect.refl _ _ _
    · refine Effect.after (State.lose_effect ..) (by decide +kernel) ?_
      exact Effect.refl _ _ _

def State.endAnnounce_touch : List Part := [.safety]
def State.endAnnounce_fields : Option (List Field) := some [Reg.SAFE_STATUS.A_OK, Reg.SAFE_STATUS.B_OK, Reg.SAFE_STATUS.DIAG, Reg.SAFE_STATUS.DIAG_CAUSE, Reg.SAFE_STATUS.RESET_PIN, Reg.SAFE_STATUS.DEMAND, Reg.SAFE_STATUS.LOCKED, Reg.SAFE_STATUS.DIAG_A, Reg.SAFE_STATUS.DIAG_B, Reg.SAFE_GROUP.STATE, Reg.SAFE_GROUP.KIND, Reg.SAFE_GROUP.STOP, Reg.SAFE_GROUP.CAUSE, Reg.SAFE_GROUP.PAIRS, Reg.SAFE_PAIR.CH_A, Reg.SAFE_PAIR.CH_B, Reg.SAFE_PAIR.DEMAND, Reg.SAFE_PAIR.PAIR_FAULT, Reg.SAFE_PAIR.FAULT_CAUSE, Reg.SAFE_PAIR.DEMANDS, Reg.SAFE_TPO.EN, Reg.SAFE_TPO.READBACK_FAULT, Reg.SAFE_FIRE.FIRE_A, Reg.SAFE_FIRE.FIRE_B, Reg.SAFE_FIRE.DRV_A, Reg.SAFE_FIRE.DRV_B, Reg.SAFE_RESET_STATUS.ARMED]
theorem State.endAnnounce_effect (s : State) :
    Effect State.endAnnounce_touch State.endAnnounce_fields s (@State.endAnnounce s) := by
  unfold State.endAnnounce
  extract_lets x1
  try clear_value x1
  refine Effect.after (State.showSafe_effect ..) (by decide +kernel) ?_
  refine Effect.after (Effect.safety _ _) (by decide +kernel) ?_
  exact Effect.refl _ _ _

def State.enterRun_touch : List Part := [.power, .lanes, .chains, .safety]
def State.enterRun_fields : Option (List Field) := some [Reg.POWER_STATE.STATE, Reg.SAFE_STATUS.A_OK, Reg.SAFE_STATUS.B_OK, Reg.SAFE_STATUS.DIAG, Reg.SAFE_STATUS.DIAG_CAUSE, Reg.SAFE_STATUS.RESET_PIN, Reg.SAFE_STATUS.DEMAND, Reg.SAFE_STATUS.LOCKED, Reg.SAFE_STATUS.DIAG_A, Reg.SAFE_STATUS.DIAG_B, Reg.SAFE_GROUP.STATE, Reg.SAFE_GROUP.KIND, Reg.SAFE_GROUP.STOP, Reg.SAFE_GROUP.CAUSE, Reg.SAFE_GROUP.PAIRS, Reg.SAFE_PAIR.CH_A, Reg.SAFE_PAIR.CH_B, Reg.SAFE_PAIR.DEMAND, Reg.SAFE_PAIR.PAIR_FAULT, Reg.SAFE_PAIR.FAULT_CAUSE, Reg.SAFE_PAIR.DEMANDS, Reg.SAFE_TPO.EN, Reg.SAFE_TPO.READBACK_FAULT, Reg.SAFE_FIRE.FIRE_A, Reg.SAFE_FIRE.FIRE_B, Reg.SAFE_FIRE.DRV_A, Reg.SAFE_FIRE.DRV_B, Reg.SAFE_RESET_STATUS.ARMED, Reg.LANE_STATUS.STATE]
theorem State.enterRun_effect (s : State) :
    Effect State.enterRun_touch State.enterRun_fields s (@State.enterRun s) := by
  unfold State.enterRun
  extract_lets x1 x2
  have h3 : Effect State.enterRun_touch State.enterRun_fields s x1 := by
    refine Effect.after (State.modPower_effect ..) (by decide +kernel) ?_
    refine Effect.after (State.wr_effect ..) (by decide +kernel) ?_
    exact Effect.refl _ _ _
  try clear_value x1
  have h4 : Effect State.enterRun_touch State.enterRun_fields s x2 := by
    refine Effect.each ?_ ?_
    · exact h3
    · intro u5 a6
      try beta_reduce
      refine Effect.ite ?_ ?_
      · refine Effect.after (State.showLane_effect ..) (by decide +kernel) ?_
        refine Effect.after (State.modLane_effect ..) (by decide +kernel) ?_
        exact Effect.refl _ _ _
      · exact Effect.refl _ _ _
  try clear_value x2
  refine Effect.after (State.endAnnounce_effect ..) (by decide +kernel) ?_
  refine Effect.each ?_ ?_
  · exact h4
  · intro u7 a8
    try beta_reduce
    refine Effect.after (State.modChain_effect ..) (by decide +kernel) ?_
    exact Effect.refl _ _ _

def State.kickoffGrant_touch : List Part := [.power, .faults, .fr, .lanes, .chains, .cells, .arms, .engs, .convs, .referee, .safety]
def State.kickoffGrant_fields : Option (List Field) := some [Reg.DOMAIN_STATE.PLANE_A, Reg.DOMAIN_STATE.PLANE_B, Reg.CONV_STATE.STATE, Reg.CONV_STATE.CAUSE, Reg.CONV_STATE.SLEWING, Reg.CONV_STATE_FRAME.FRAME, Reg.CONV_RESIDUAL.E, Reg.CONV_COUNT.BLOCKS, Reg.CONV_EVENT.BLOCK, Reg.CONV_EVENT.RESYNC_FAIL, Reg.CONV_EVENT.COAST_LIMIT, Reg.CONV_EVENT_SRC.CONV, Reg.POWER_STATE.STATE, Reg.POWER_PGOOD.PGOOD, Reg.COLLECT_STATUS_LO.STATUS, Reg.COLLECT_STATUS_HI.STATUS, Reg.FAULT_COUNT_CORR.COUNT, Reg.FAULT_COUNT_CONT.COUNT, Reg.FAULT_COUNT_FATAL.COUNT, Reg.FAULT_EVENT.CORRECTED, Reg.FAULT_EVENT.CONTAINED, Reg.FAULT_EVENT.FATAL, Reg.FAULT_EVENT.HIST_LOST, Reg.FAULT_HIST_STATUS.LOST, Reg.REF_STATUS.STATE, Reg.REF_STATUS.HOLDER, Reg.REF_STATUS.ROLE_A, Reg.REF_STATUS.ROLE_B, Reg.REF_STATUS.LEASE, Reg.REF_EVENT.UNFIT, Reg.PLAN_LEVEL.STATIC, Reg.PLAN_FORECAST.ENG_NEED, Reg.PLAN_FORECAST.FAB_NEED, Reg.SAFE_STATUS.A_OK, Reg.SAFE_STATUS.B_OK, Reg.SAFE_STATUS.DIAG, Reg.SAFE_STATUS.DIAG_CAUSE, Reg.SAFE_STATUS.RESET_PIN, Reg.SAFE_STATUS.DEMAND, Reg.SAFE_STATUS.LOCKED, Reg.SAFE_STATUS.DIAG_A, Reg.SAFE_STATUS.DIAG_B, Reg.SAFE_GROUP.STATE, Reg.SAFE_GROUP.KIND, Reg.SAFE_GROUP.STOP, Reg.SAFE_GROUP.CAUSE, Reg.SAFE_GROUP.PAIRS, Reg.SAFE_PAIR.CH_A, Reg.SAFE_PAIR.CH_B, Reg.SAFE_PAIR.DEMAND, Reg.SAFE_PAIR.PAIR_FAULT, Reg.SAFE_PAIR.FAULT_CAUSE, Reg.SAFE_PAIR.DEMANDS, Reg.SAFE_TPO.EN, Reg.SAFE_TPO.READBACK_FAULT, Reg.SAFE_FIRE.FIRE_A, Reg.SAFE_FIRE.FIRE_B, Reg.SAFE_FIRE.DRV_A, Reg.SAFE_FIRE.DRV_B, Reg.SAFE_RESET_STATUS.ARMED, Reg.ENG_STATUS.BALL, Reg.ENG_STATUS.SHADOW, Reg.ENG_STATUS.COLD, Reg.ENG_EXPORT.VALUE, Reg.LANE_STATUS.STATE, Reg.ARM_PTR.PTR]
theorem State.kickoffGrant_effect (s : State) :
    Effect State.kickoffGrant_touch State.kickoffGrant_fields s (@State.kickoffGrant s) := by
  unfold State.kickoffGrant
  extract_lets x1
  have h2 : Effect State.kickoffGrant_touch State.kickoffGrant_fields s x1 := by
    refine Effect.after (State.firstGrant_effect ..) (by decide +kernel) ?_
    exact Effect.refl _ _ _
  try clear_value x1
  refine Effect.ite ?_ ?_
  · refine Effect.ite ?_ ?_
    · refine Effect.after (State.enterRun_effect ..) (by decide +kernel) ?_
      exact h2
    · refine Effect.after (State.modPower_effect ..) (by decide +kernel) ?_
      exact h2
  · exact Effect.refl _ _ _

end Sys2Proof.Machine
end

