-- ==== Sys2Proof/Laws/Frames6.lean ====
section
/-! SUPPORT. What every operation and every command may touch (part 6 of 8, in the order in which they are built on one another): for each a list
of parts, a list of register fields, and the effect with both, from every state. -/

namespace Sys2Proof.Machine

set_option Elab.async false

def State.handover_touch : List Part := [.power, .fr, .engs, .referee]
def State.handover_fields : Option (List Field) := some [Reg.DOMAIN_STATE.PLANE_A, Reg.DOMAIN_STATE.PLANE_B, Reg.POWER_PGOOD.PGOOD, Reg.REF_STATUS.STATE, Reg.REF_STATUS.HOLDER, Reg.REF_STATUS.ROLE_A, Reg.REF_STATUS.ROLE_B, Reg.REF_STATUS.LEASE, Reg.REF_HT_STATUS.OUTCOME, Reg.REF_HT_STATUS.COUNT, Reg.REF_EVENT.HANDOVER, Reg.REF_EVENT.UNFIT, Reg.PLAN_LEVEL.STATIC, Reg.PLAN_FORECAST.ENG_NEED, Reg.PLAN_FORECAST.FAB_NEED, Reg.ENG_STATUS.BALL, Reg.ENG_STATUS.SHADOW, Reg.ENG_STATUS.COLD, Reg.ENG_EXPORT.VALUE]
theorem State.handover_effect (s : State) :
    Effect State.handover_touch State.handover_fields s (@State.handover s) := by
  unfold State.handover
  extract_lets x1 x2
  have h3 : Effect State.handover_touch State.handover_fields s x2 := by
    refine Effect.after (State.wr_effect ..) (by decide +kernel) ?_
    refine Effect.after (State.wr_effect ..) (by decide +kernel) ?_
    refine Effect.after (State.bump_effect ..) (by decide +kernel) ?_
    exact Effect.refl _ _ _
  try clear_value x2
  try clear_value x1
  refine Effect.ite ?_ ?_
  · refine Effect.after (State.giveBall_effect ..) (by decide +kernel) ?_
    refine Effect.after (State.setRole_effect ..) (by decide +kernel) ?_
    exact h3
  · exact Effect.refl _ _ _

def State.takeoverGrant_touch : List Part := [.power, .faults, .fr, .engs, .referee]
def State.takeoverGrant_fields : Option (List Field) := some [Reg.DOMAIN_STATE.PLANE_A, Reg.DOMAIN_STATE.PLANE_B, Reg.POWER_PGOOD.PGOOD, Reg.COLLECT_STATUS_LO.STATUS, Reg.COLLECT_STATUS_HI.STATUS, Reg.FAULT_COUNT_CORR.COUNT, Reg.FAULT_COUNT_CONT.COUNT, Reg.FAULT_COUNT_FATAL.COUNT, Reg.FAULT_EVENT.CORRECTED, Reg.FAULT_EVENT.CONTAINED, Reg.FAULT_EVENT.FATAL, Reg.FAULT_EVENT.HIST_LOST, Reg.FAULT_HIST_STATUS.LOST, Reg.REF_STATUS.STATE, Reg.REF_STATUS.HOLDER, Reg.REF_STATUS.ROLE_A, Reg.REF_STATUS.ROLE_B, Reg.REF_STATUS.LEASE, Reg.REF_TAKEOVER.COUNT, Reg.REF_TAKEOVER.GAP, Reg.REF_TAKEOVER.LATE, Reg.REF_TAKEOVER.US, Reg.REF_TAKEOVER_FRAME.FRAME, Reg.REF_EVENT.TAKEOVER, Reg.REF_EVENT.UNFIT, Reg.PLAN_LEVEL.STATIC, Reg.PLAN_FORECAST.ENG_NEED, Reg.PLAN_FORECAST.FAB_NEED, Reg.ENG_STATUS.BALL, Reg.ENG_STATUS.SHADOW, Reg.ENG_STATUS.COLD, Reg.ENG_EXPORT.VALUE]
theorem State.takeoverGrant_effect (s : State) :
    Effect State.takeoverGrant_touch State.takeoverGrant_fields s (@State.takeoverGrant s) := by
  unfold State.takeoverGrant
  extract_lets x1 x2 x3 x4 x5 x6
  have h7 : Effect State.takeoverGrant_touch State.takeoverGrant_fields s x3 := by
    refine Effect.after (State.wr_effect ..) (by decide +kernel) ?_
    refine Effect.after (State.bump_effect ..) (by decide +kernel) ?_
    exact Effect.refl _ _ _
  try clear_value x3
  have h8 : Effect State.takeoverGrant_touch State.takeoverGrant_fields s x4 := by
    refine Effect.after (State.wr_effect ..) (by decide +kernel) ?_
    refine Effect.after (State.wr_effect ..) (by decide +kernel) ?_
    exact h7
  try clear_value x4
  have h9 : Effect State.takeoverGrant_touch State.takeoverGrant_fields s x5 := by
    refine Effect.after (State.wr_effect ..) (by decide +kernel) ?_
    refine Effect.after (State.wr_effect ..) (by decide +kernel) ?_
    exact h8
  try clear_value x5
  have h10 : Effect State.takeoverGrant_touch State.takeoverGrant_fields s x6 := by
    refine Effect.when ?_ ?_
    · exact h9
    · intro u11
      try beta_reduce
      refine Effect.after (State.raise_effect ..) (by decide +kernel) ?_
      exact Effect.refl _ _ _
  try clear_value x6
  try clear_value x1 x2
  refine Effect.ite ?_ ?_
  · refine Effect.after (State.modRef_effect ..) (by decide +kernel) ?_
    refine Effect.after (State.giveBall_effect ..) (by decide +kernel) ?_
    exact h10
  · exact Effect.refl _ _ _

def State.refereeTick_touch : List Part := [.power, .faults, .fr, .cells, .arms, .engs, .convs, .referee]
def State.refereeTick_fields : Option (List Field) := some [Reg.DOMAIN_STATE.PLANE_A, Reg.DOMAIN_STATE.PLANE_B, Reg.CONV_STATE.STATE, Reg.CONV_STATE.CAUSE, Reg.CONV_STATE.SLEWING, Reg.CONV_STATE_FRAME.FRAME, Reg.CONV_RESIDUAL.E, Reg.CONV_COUNT.BLOCKS, Reg.CONV_EVENT.BLOCK, Reg.CONV_EVENT.RESYNC_FAIL, Reg.CONV_EVENT.COAST_LIMIT, Reg.CONV_EVENT_SRC.CONV, Reg.POWER_PGOOD.PGOOD, Reg.COLLECT_STATUS_LO.STATUS, Reg.COLLECT_STATUS_HI.STATUS, Reg.FAULT_COUNT_CORR.COUNT, Reg.FAULT_COUNT_CONT.COUNT, Reg.FAULT_COUNT_FATAL.COUNT, Reg.FAULT_EVENT.CORRECTED, Reg.FAULT_EVENT.CONTAINED, Reg.FAULT_EVENT.FATAL, Reg.FAULT_EVENT.HIST_LOST, Reg.FAULT_HIST_STATUS.LOST, Reg.REF_STATUS.STATE, Reg.REF_STATUS.HOLDER, Reg.REF_STATUS.ROLE_A, Reg.REF_STATUS.ROLE_B, Reg.REF_STATUS.LEASE, Reg.REF_HT_STATUS.OUTCOME, Reg.REF_HT_STATUS.COUNT, Reg.REF_TAKEOVER.COUNT, Reg.REF_TAKEOVER.GAP, Reg.REF_TAKEOVER.LAST_CAUSE, Reg.REF_TAKEOVER.LATE, Reg.REF_TAKEOVER.US, Reg.REF_TAKEOVER_FRAME.FRAME, Reg.REF_EVENT.TAKEOVER, Reg.REF_EVENT.HANDOVER, Reg.REF_EVENT.UNFIT, Reg.PLAN_LEVEL.STATIC, Reg.PLAN_FORECAST.ENG_NEED, Reg.PLAN_FORECAST.FAB_NEED, Reg.ENG_STATUS.BALL, Reg.ENG_STATUS.SHADOW, Reg.ENG_STATUS.COLD, Reg.ENG_EXPORT.VALUE, Reg.ARM_PTR.PTR]
theorem State.refereeTick_effect (s : State) :
    Effect State.refereeTick_touch State.refereeTick_fields s (@State.refereeTick s) := by
  unfold State.refereeTick
  refine Effect.after (State.reviveComplete_effect ..) (by decide +kernel) ?_
  refine Effect.after (State.handover_effect ..) (by decide +kernel) ?_
  refine Effect.after (State.takeoverGrant_effect ..) (by decide +kernel) ?_
  refine Effect.after (State.withdrawAtTick_effect ..) (by decide +kernel) ?_
  exact Effect.refl _ _ _

def State.showHtTimer_touch : List Part := []
def State.showHtTimer_fields : Option (List Field) := some [Reg.REF_HT_TIMER.REMAIN]
theorem State.showHtTimer_effect (s : State) :
    Effect State.showHtTimer_touch State.showHtTimer_fields s (@State.showHtTimer s) := by
  unfold State.showHtTimer
  extract_lets x1
  try clear_value x1
  refine Effect.after (State.wr_effect ..) (by decide +kernel) ?_
  exact Effect.refl _ _ _

def State.halftimeTick_touch : List Part := [.power, .engs, .referee]
def State.halftimeTick_fields : Option (List Field) := some [Reg.DOMAIN_STATE.PLANE_A, Reg.DOMAIN_STATE.PLANE_B, Reg.POWER_PGOOD.PGOOD, Reg.REF_STATUS.STATE, Reg.REF_STATUS.ROLE_A, Reg.REF_STATUS.ROLE_B, Reg.REF_HT_TIMER.REMAIN, Reg.REF_HT_STATUS.MATCHED, Reg.REF_HT_STATUS.OUTCOME, Reg.REF_HT_STATUS.BLOCKER, Reg.REF_EVENT.CANCEL, Reg.REF_EVENT.UNFIT, Reg.ENG_STATUS.BALL, Reg.ENG_STATUS.SHADOW, Reg.ENG_STATUS.COLD, Reg.ENG_EXPORT.VALUE]
theorem State.halftimeTick_effect (s : State) :
    Effect State.halftimeTick_touch State.halftimeTick_fields s (@State.halftimeTick s) := by
  unfold State.halftimeTick
  extract_lets x1 x2
  have h3 : Effect State.halftimeTick_touch State.halftimeTick_fields s x2 := by
    refine Effect.after (State.showHtTimer_effect ..) (by decide +kernel) ?_
    refine Effect.after (State.wr_effect ..) (by decide +kernel) ?_
    exact Effect.refl _ _ _
  try clear_value x2
  try clear_value x1
  refine Effect.ite ?_ ?_
  · exact h3
  · refine Effect.ite ?_ ?_
    · refine Effect.when ?_ ?_
      · exact h3
      · intro u4
        try beta_reduce
        refine Effect.after (State.startShadow_effect ..) (by decide +kernel) ?_
        exact Effect.refl _ _ _
    · refine Effect.ite ?_ ?_
      · refine Effect.when ?_ ?_
        · exact h3
        · intro u6
          try beta_reduce
          refine Effect.after (State.cancelShadow_effect ..) (by decide +kernel) ?_
          exact Effect.refl _ _ _
      · exact h3

def State.gapMarkers_touch : List Part := [.out]
def State.gapMarkers_fields : Option (List Field) := some [Reg.PLAN_BG_STATUS.GAPS]
theorem State.gapMarkers_effect (s : State) (p1 : Nat) :
    Effect State.gapMarkers_touch State.gapMarkers_fields s (@State.gapMarkers s p1) := by
  unfold State.gapMarkers
  extract_lets x1
  try clear_value x1
  refine Effect.ite ?_ ?_
  · exact Effect.refl _ _ _
  · refine Effect.each ?_ ?_
    · exact Effect.refl _ _ _
    · intro u2 a3
      try beta_reduce
      refine Effect.after (State.bump_effect ..) (by decide +kernel) ?_
      refine Effect.after (State.emit_effect ..) (by decide +kernel) ?_
      exact Effect.refl _ _ _

def State.tickBuffer_touch : List Part := [.fr, .out]
def State.tickBuffer_fields : Option (List Field) := some [Reg.HOST_BAR2_OPEN.BUF, Reg.HOST_BAR2_STATUS.BUF, Reg.PLAN_BG_STATUS.GAPS]
theorem State.tickBuffer_effect (s : State) :
    Effect State.tickBuffer_touch State.tickBuffer_fields s (@State.tickBuffer s) := by
  unfold State.tickBuffer
  extract_lets x1 x2
  have h3 : Effect State.tickBuffer_touch State.tickBuffer_fields s x2 := by
    refine Effect.ite ?_ ?_
    · refine Effect.after (State.wrBit_effect ..) (by decide +kernel) ?_
      refine Effect.after (State.wrBit_effect ..) (by decide +kernel) ?_
      exact Effect.refl _ _ _
    · exact Effect.refl _ _ _
  try clear_value x2
  try clear_value x1
  refine Effect.after (State.modFr_effect ..) (by decide +kernel) ?_
  refine Effect.after (State.gapMarkers_effect ..) (by decide +kernel) ?_
  exact h3

def State.tickTracker_touch : List Part := [.load, .fr, .cells, .out, .drawn]
def State.tickTracker_fields : Option (List Field) := some [Reg.XBAR_WAIT.ENG_MAX_WAIT, Reg.XBAR_WAIT.HOST_MAX_WAIT, Reg.TRK_STATUS.CTRL_HIWATER, Reg.TRK_STATUS.CTRL_INUSE, Reg.TRK_BP_COUNT.FRAMES]
theorem State.tickTracker_effect (s : State) :
    Effect State.tickTracker_touch State.tickTracker_fields s (@State.tickTracker s) := by
  unfold State.tickTracker
  extract_lets x1 x2
  have h3 : Effect State.tickTracker_touch State.tickTracker_fields s x1 := by
    refine Effect.each ?_ ?_
    · exact Effect.refl _ _ _
    · intro u4 a5
      try beta_reduce
      refine Effect.after (State.modCell_effect ..) (by decide +kernel) ?_
      exact Effect.refl _ _ _
  try clear_value x1
  have h6 : Effect State.tickTracker_touch State.tickTracker_fields s x2 := by
    refine Effect.after (State.waitedUnits_effect ..) (by decide +kernel) ?_
    refine Effect.after (State.ctrlTick_effect ..) (by decide +kernel) ?_
    exact h3
  try clear_value x2
  split
  rename_i a8 u9 q10
  have h7 : Effect State.tickTracker_touch State.tickTracker_fields s u9 := by
    refine Effect.of_pair q10 ?_
    refine Effect.after (State.draw_effect ..) (by decide +kernel) ?_
    exact h6
  split
  rename_i a12 u13 q14
  have h11 : Effect State.tickTracker_touch State.tickTracker_fields s u13 := by
    refine Effect.of_pair q14 ?_
    refine Effect.after (State.draw_effect ..) (by decide +kernel) ?_
    exact h7
  extract_lets x15
  have h16 : Effect State.tickTracker_touch State.tickTracker_fields s x15 := by
    refine Effect.after (State.wr_effect ..) (by decide +kernel) ?_
    exact h11
  try clear_value x15
  refine Effect.after (State.wr_effect ..) (by decide +kernel) ?_
  exact h16

def State.frameTick_touch : List Part := [.time, .power, .faults, .host, .load, .fr, .lanes, .chains, .cells, .arms, .engs, .convs, .referee, .pair, .journal, .adc, .drives, .motors, .safety, .canQueues, .cans, .out, .drawn]
def State.frameTick_fields : Option (List Field) := some [Reg.ROLE_COUNT.LANE_SLICES, Reg.ROLE_COUNT.ARM_SLICES, Reg.ROLE_COUNT.RECORDER, Reg.ROLE_COUNT.MIRROR, Reg.ROLE_COUNT.SPARE, Reg.ROLE_COUNT.UNASSIGNED, Reg.DOMAIN_STATE.PLANE_A, Reg.DOMAIN_STATE.PLANE_B, Reg.XBAR_WAIT.ENG_MAX_WAIT, Reg.XBAR_WAIT.HOST_MAX_WAIT, Reg.CONV_STATE.STATE, Reg.CONV_STATE.CAUSE, Reg.CONV_STATE.SLEWING, Reg.CONV_CMD_LAST.RESULT, Reg.CONV_CMD_LAST.OP, Reg.CONV_STATE_FRAME.FRAME, Reg.CONV_RESIDUAL.E, Reg.CONV_COUNT.BLOCKS, Reg.CONV_MF_THETA.THETA_MF, Reg.CONV_EVENT.BLOCK, Reg.CONV_EVENT.DEBLOCK, Reg.CONV_EVENT.RUN, Reg.CONV_EVENT.RESYNC_FAIL, Reg.CONV_EVENT.COAST_LIMIT, Reg.CONV_EVENT_SRC.CONV, Reg.HOST_BAR2_OPEN.BUF, Reg.HOST_BAR2_STATUS.BUF, Reg.POWER_STATE.STATE, Reg.POWER_PGOOD.PGOOD, Reg.COLLECT_STATUS_LO.STATUS, Reg.COLLECT_STATUS_HI.STATUS, Reg.FAULT_COUNT_CORR.COUNT, Reg.FAULT_COUNT_CONT.COUNT, Reg.FAULT_COUNT_FATAL.COUNT, Reg.FAULT_EVENT.CORRECTED, Reg.FAULT_EVENT.CONTAINED, Reg.FAULT_EVENT.FATAL, Reg.FAULT_EVENT.HIST_LOST, Reg.FAULT_HIST_STATUS.LOST, Reg.REF_STATUS.STATE, Reg.REF_STATUS.HOLDER, Reg.REF_STATUS.ROLE_A, Reg.REF_STATUS.ROLE_B, Reg.REF_STATUS.LEASE, Reg.REF_HT_TIMER.REMAIN, Reg.REF_HT_STATUS.MATCHED, Reg.REF_HT_STATUS.OUTCOME, Reg.REF_HT_STATUS.BLOCKER, Reg.REF_HT_STATUS.COUNT, Reg.REF_TAKEOVER.COUNT, Reg.REF_TAKEOVER.GAP, Reg.REF_TAKEOVER.LAST_CAUSE, Reg.REF_TAKEOVER.LATE, Reg.REF_TAKEOVER.US, Reg.REF_TAKEOVER_FRAME.FRAME, Reg.REF_PAIR.HOLDS, Reg.REF_PAIR.REF_OUT, Reg.REF_PAIR.MOVES, Reg.REF_EVENT.TAKEOVER, Reg.REF_EVENT.HANDOVER, Reg.REF_EVENT.CANCEL, Reg.REF_EVENT.UNFIT, Reg.REF_EVENT.PAIR_MOVE, Reg.JRN_STATUS.MRAM_OK, Reg.JRN_EXEC.COUNT, Reg.JRN_EVENT.MRAM_FAIL, Reg.JRN_CPL_TAIL.INDEX, Reg.JRN_RING_STATUS.PHASE, Reg.JRN_RING_STATUS.WAIT_CPL, Reg.FRAME_PERIOD.PERIOD, Reg.FRAME_NO.FRAME_NO, Reg.FRAME_STATUS.DISCIPLINED, Reg.FRAME_STATUS.COAST, Reg.FRAME_TICK_NS_LO.TICK_NS, Reg.FRAME_TICK_NS_HI.TICK_NS, Reg.TRK_STATUS.CTRL_HIWATER, Reg.TRK_STATUS.CTRL_INUSE, Reg.TRK_BP_COUNT.FRAMES, Reg.PLAN_LEVEL.CURRENT, Reg.PLAN_LEVEL.STATIC, Reg.PLAN_FORECAST.ENG_NEED, Reg.PLAN_FORECAST.FAB_NEED, Reg.PLAN_CAPACITY.ENG_CAP, Reg.PLAN_CAPACITY.FAB_CAP, Reg.PLAN_BG_STATUS.RAN, Reg.PLAN_BG_STATUS.GAPS, Reg.FRAME_EVENT.PERIOD, Reg.SAFE_STATUS.A_OK, Reg.SAFE_STATUS.B_OK, Reg.SAFE_STATUS.DIAG, Reg.SAFE_STATUS.DIAG_CAUSE, Reg.SAFE_STATUS.RESET_PIN, Reg.SAFE_STATUS.DEMAND, Reg.SAFE_STATUS.LOCKED, Reg.SAFE_STATUS.DIAG_A, Reg.SAFE_STATUS.DIAG_B, Reg.SAFE_GROUP.STATE, Reg.SAFE_GROUP.KIND, Reg.SAFE_GROUP.STOP, Reg.SAFE_GROUP.CAUSE, Reg.SAFE_GROUP.PAIRS, Reg.SAFE_PAIR.CH_A, Reg.SAFE_PAIR.CH_B, Reg.SAFE_PAIR.DEMAND, Reg.SAFE_PAIR.PAIR_FAULT, Reg.SAFE_PAIR.FAULT_CAUSE, Reg.SAFE_PAIR.DEMANDS, Reg.SAFE_TPO.EN, Reg.SAFE_TPO.READBACK_FAULT, Reg.SAFE_FIRE.FIRE_A, Reg.SAFE_FIRE.FIRE_B, Reg.SAFE_FIRE.DRV_A, Reg.SAFE_FIRE.DRV_B, Reg.SAFE_RESET_STATUS.ARMED, Reg.SAFE_RESET_STATUS.RELEASED, Reg.SAFE_RESET_STATUS.REFUSED, Reg.SAFE_EVENT.DEMAND, Reg.SAFE_EVENT.STOPPING, Reg.SAFE_EVENT.REMOVED, Reg.SAFE_EVENT.DIAG, Reg.SAFE_EVENT.RESET_REFUSED, Reg.IMAGE_SUBST_STATUS.OLD, Reg.IMAGE_SUBST_STATUS.BUSY, Reg.IMAGE_SUBST_STATUS.NEW, Reg.IMAGE_SUBST_STATUS.RESULT, Reg.IMAGE_EVENT.SUBST, Reg.IMAGE_EVENT.SPARE_LOW, Reg.ENG_STATUS.BALL, Reg.ENG_STATUS.SHADOW, Reg.ENG_STATUS.COLD, Reg.ENG_BANK.ACTIVE, Reg.ENG_BANK.SWAPS, Reg.ENG_CMD_LAST.RESULT, Reg.ENG_CMD_LAST.OP, Reg.ENG_CMD_LAST.ENTRY, Reg.ENG_CMD_FRAME.FRAME, Reg.ENG_EVENT.SWAP, Reg.ENG_EVENT.CMD_REFUSED, Reg.ENG_PARAM.VALUE, Reg.ENG_EXPORT.VALUE, Reg.ADC_SEQ_BURST.START, Reg.ADC_SEQ_BURST.LENGTH, Reg.TIME_FRAME_PHASE.E, Reg.TIME_EVENT.EVENTS, Reg.CAN_MATRIX.ROW, Reg.CAN_TXQ.FILL, Reg.DRV_STATUS.LOAD_PENDING, Reg.DRV_STATUS.LEG_FAULT, Reg.DRV_CARRIER_ACT.TOP, Reg.DRV_LEG_STATUS.CMP_ACT, Reg.DRV_LEG_STATUS.DESAT_HS, Reg.DRV_LEG_STATUS.DESAT_LS, Reg.DRV_LEG_STATUS.INSTANT, Reg.DRV_LEG_STATUS.VB_UV, Reg.DRV_LEG_STATUS.GATES_OFF, Reg.DRV_LEG_STATUS.MODE_ACT, Reg.DRV_LEG_COUNT.SUPPRESSED, Reg.DRV_LEG_COUNT.FULL_ON, Reg.DRV_EVENT.LOAD_DONE, Reg.MOT_STATE.STATE, Reg.MOT_EVENT.STATE, Reg.MOT_EVENT.OBS_LOST, Reg.DRV_LOADALL.UNITS, Reg.DRV_LOAD_STATUS.DONE, Reg.DRV_SYNC.UNITS, Reg.LANE_STATUS.STATE, Reg.LANE_STATUS.CHAIN_LATE, Reg.LANE_STATUS.SERVED, Reg.LANE_STATUS.FIRST_Q, Reg.LANE_CHAIN.LOOPED, Reg.LANE_UPBASE.U, Reg.LANE_BUDGET.DELIVERY, Reg.LANE_BUDGET.COMPLETION, Reg.LANE_EVENT.LOST, Reg.LANE_EVENT.READY, Reg.LANE_EVENT.CHAIN_LATE, Reg.LANE_DELAY.VALID, Reg.SLICE_ROLE.STATE, Reg.ARM_STATUS.FLAGS, Reg.ARM_PTR.PTR, Reg.ARM_ALPHA1.ALPHA, Reg.ARM_ALPHA2.ALPHA, Reg.CELL_PLACE.CHAIN, Reg.CELL_PLACE.POS, Reg.CELL_PLACE.END, Reg.CELL_PLACE.REACHABLE, Reg.CELL_PLACE.ARM, Reg.CELL_PLACE.CLASS, Reg.CELL_FAULT.SEEN, Reg.BB_STATUS.TX_IDLE]
theorem State.frameTick_effect (s : State) (p1 : List Nat) (p2 : Bool) :
    Effect State.frameTick_touch State.frameTick_fields s (@State.frameTick s p1 p2) := by
  unfold State.frameTick
  extract_lets x1 x2 x3 x4 x5 x6 x7 x8 x9 x10 x11 x12 x13 x14
  have h15 : Effect State.frameTick_touch State.frameTick_fields s x2 := by
    refine Effect.after (State.tickTimer_effect ..) (by decide +kernel) ?_
    exact Effect.refl _ _ _
  try clear_value x2
  have h16 : Effect State.frameTick_touch State.frameTick_fields s x3 := by
    refine Effect.each ?_ ?_
    · exact h15
    · intro u17 a18
      try beta_reduce
      refine Effect.after (State.settleAllCall_effect ..) (by decide +kernel) ?_
      exact Effect.refl _ _ _
  try clear_value x3
  have h19 : Effect State.frameTick_touch State.frameTick_fields s x4 := by
    refine Effect.after (State.kickoffGrant_effect ..) (by decide +kernel) ?_
    refine Effect.after (State.laneTimeout_effect ..) (by decide +kernel) ?_
    exact h16
  try clear_value x4
  have h20 : Effect State.frameTick_touch State.frameTick_fields s x5 := by
    refine Effect.after (State.pairTick_effect ..) (by decide +kernel) ?_
    refine Effect.after (State.refereeTick_effect ..) (by decide +kernel) ?_
    exact h19
  try clear_value x5
  have h21 : Effect State.frameTick_touch State.frameTick_fields s x6 := by
    refine Effect.each ?_ ?_
    · exact h20
    · intro u22 a23
      try beta_reduce
      refine Effect.after (State.convTick_effect ..) (by decide +kernel) ?_
      exact Effect.refl _ _ _
  try clear_value x6
  have h24 : Effect State.frameTick_touch State.frameTick_fields s x7 := by
    refine Effect.after (State.journalTick_effect ..) (by decide +kernel) ?_
    exact h21
  try clear_value x7
  have h25 : Effect State.frameTick_touch State.frameTick_fields s x8 := by
    refine Effect.each ?_ ?_
    · exact h24
    · intro u26 a27
      try beta_reduce
      refine Effect.after (State.convTickEnd_effect ..) (by decide +kernel) ?_
      exact Effect.refl _ _ _
  try clear_value x8
  have h28 : Effect State.frameTick_touch State.frameTick_fields s x9 := by
    refine Effect.after (State.halftimeTick_effect ..) (by decide +kernel) ?_
    exact h25
  try clear_value x9
  have h29 : Effect State.frameTick_touch State.frameTick_fields s x10 := by
    refine Effect.after (State.mirrorTick_effect ..) (by decide +kernel) ?_
    refine Effect.after (State.armOutTick_effect ..) (by decide +kernel) ?_
    refine Effect.after (State.substStart_effect ..) (by decide +kernel) ?_
    exact h28
  try clear_value x10
  have h30 : Effect State.frameTick_touch State.frameTick_fields s x11 := by
    refine Effect.after (State.tickChains_effect ..) (by decide +kernel) ?_
    exact h29
  try clear_value x11
  have h31 : Effect State.frameTick_touch State.frameTick_fields s x12 := by
    refine Effect.after (State.tickOthers_effect ..) (by decide +kernel) ?_
    refine Effect.after (State.tickBuffer_effect ..) (by decide +kernel) ?_
    refine Effect.after (State.tickTracker_effect ..) (by decide +kernel) ?_
    exact h30
  try clear_value x12
  have h32 : Effect State.frameTick_touch State.frameTick_fields s x13 := by
    refine Effect.after (State.wr_effect ..) (by decide +kernel) ?_
    exact h31
  try clear_value x13
  have h33 : Effect State.frameTick_touch State.frameTick_fields s x14 := by
    refine Effect.after (State.modFr_effect ..) (by decide +kernel) ?_
    exact h32
  try clear_value x14
  try clear_value x1
  refine Effect.ite ?_ ?_
  · exact Effect.refl _ _ _
  · refine Effect.after (State.modPower_effect ..) (by decide +kernel) ?_
    exact h33

def State.powerCtrlWrite_touch : List Part := [.power]
def State.powerCtrlWrite_fields : Option (List Field) := some [Reg.POWER_STATE.WAKE_SRC, Reg.POWER_STATE.WAKE_TRIES, Reg.POWER_CTRL.DORMANT, Reg.POWER_ENTRY_STATUS.RESULT, Reg.POWER_ENTRY_STATUS.DOMAIN, Reg.POWER_ENTRY_STATUS.RETRIES]
theorem State.powerCtrlWrite_effect (s : State) (p1 : Nat) :
    Effect State.powerCtrlWrite_touch State.powerCtrlWrite_fields s (@State.powerCtrlWrite s p1) := by
  unfold State.powerCtrlWrite
  refine Effect.ite ?_ ?_
  · exact Effect.refl _ _ _
  · refine Effect.when ?_ ?_
    · refine Effect.when ?_ ?_
      · exact Effect.refl _ _ _
      · intro u1
        try beta_reduce
        refine Effect.after (State.powerDormant_effect ..) (by decide +kernel) ?_
        exact Effect.refl _ _ _
    · intro u3
      try beta_reduce
      refine Effect.after (State.edgeWake_effect ..) (by decide +kernel) ?_
      exact Effect.refl _ _ _

def State.convEnvelopes_touch : List Part := [.convs, .safety]
def State.convEnvelopes_fields : Option (List Field) := some [Reg.SAFE_STATUS.A_OK, Reg.SAFE_STATUS.B_OK, Reg.SAFE_STATUS.DIAG, Reg.SAFE_STATUS.DIAG_CAUSE, Reg.SAFE_STATUS.RESET_PIN, Reg.SAFE_STATUS.DEMAND, Reg.SAFE_STATUS.LOCKED, Reg.SAFE_STATUS.DIAG_A, Reg.SAFE_STATUS.DIAG_B, Reg.SAFE_GROUP.STATE, Reg.SAFE_GROUP.KIND, Reg.SAFE_GROUP.STOP, Reg.SAFE_GROUP.CAUSE, Reg.SAFE_GROUP.PAIRS, Reg.SAFE_PAIR.CH_A, Reg.SAFE_PAIR.CH_B, Reg.SAFE_PAIR.DEMAND, Reg.SAFE_PAIR.PAIR_FAULT, Reg.SAFE_PAIR.FAULT_CAUSE, Reg.SAFE_PAIR.DEMANDS, Reg.SAFE_TPO.EN, Reg.SAFE_TPO.READBACK_FAULT, Reg.SAFE_FIRE.FIRE_A, Reg.SAFE_FIRE.FIRE_B, Reg.SAFE_FIRE.DRV_A, Reg.SAFE_FIRE.DRV_B, Reg.SAFE_RESET_STATUS.ARMED, Reg.SAFE_EVENT.REMOVED]
theorem State.convEnvelopes_effect (s : State) (p1 : Nat → Bool) :
    Effect State.convEnvelopes_touch State.convEnvelopes_fields s (@State.convEnvelopes s p1) := by
  unfold State.convEnvelopes
  refine Effect.ite ?_ ?_
  · refine Effect.after (State.showSafe_effect ..) (by decide +kernel) ?_
    refine Effect.each ?_ ?_
    · exact Effect.refl _ _ _
    · intro u1 a2
      try beta_reduce
      refine Effect.after (State.convEnvelope_effect ..) (by decide +kernel) ?_
      exact Effect.refl _ _ _
  · exact Effect.refl _ _ _

def State.xbarClear_touch : List Part := []
def State.xbarClear_fields : Option (List Field) := some [Reg.XBAR_WAIT.ENG_MAX_WAIT, Reg.XBAR_WAIT.HOST_MAX_WAIT]
theorem State.xbarClear_effect (s : State) :
    Effect State.xbarClear_touch State.xbarClear_fields s (@State.xbarClear s) := by
  unfold State.xbarClear
  refine Effect.after (State.wr_effect ..) (by decide +kernel) ?_
  refine Effect.after (State.wr_effect ..) (by decide +kernel) ?_
  exact Effect.refl _ _ _

def State.crossExchange_touch : List Part := [.faults, .convs, .safety]
def State.crossExchange_fields : Option (List Field) := some [Reg.COLLECT_STATUS_LO.STATUS, Reg.COLLECT_STATUS_HI.STATUS, Reg.FAULT_COUNT_CORR.COUNT, Reg.FAULT_COUNT_CONT.COUNT, Reg.FAULT_COUNT_FATAL.COUNT, Reg.FAULT_EVENT.CORRECTED, Reg.FAULT_EVENT.CONTAINED, Reg.FAULT_EVENT.FATAL, Reg.FAULT_EVENT.HIST_LOST, Reg.FAULT_HIST_STATUS.LOST, Reg.SAFE_STATUS.A_OK, Reg.SAFE_STATUS.B_OK, Reg.SAFE_STATUS.DIAG, Reg.SAFE_STATUS.DIAG_CAUSE, Reg.SAFE_STATUS.RESET_PIN, Reg.SAFE_STATUS.DEMAND, Reg.SAFE_STATUS.LOCKED, Reg.SAFE_STATUS.DIAG_A, Reg.SAFE_STATUS.DIAG_B, Reg.SAFE_GROUP.STATE, Reg.SAFE_GROUP.KIND, Reg.SAFE_GROUP.STOP, Reg.SAFE_GROUP.CAUSE, Reg.SAFE_GROUP.PAIRS, Reg.SAFE_PAIR.CH_A, Reg.SAFE_PAIR.CH_B, Reg.SAFE_PAIR.DEMAND, Reg.SAFE_PAIR.PAIR_FAULT, Reg.SAFE_PAIR.FAULT_CAUSE, Reg.SAFE_PAIR.DEMANDS, Reg.SAFE_TPO.EN, Reg.SAFE_TPO.READBACK_FAULT, Reg.SAFE_FIRE.FIRE_A, Reg.SAFE_FIRE.FIRE_B, Reg.SAFE_FIRE.DRV_A, Reg.SAFE_FIRE.DRV_B, Reg.SAFE_RESET_STATUS.ARMED, Reg.SAFE_RESET_STATUS.RELEASED, Reg.SAFE_RESET_STATUS.REFUSED, Reg.SAFE_EVENT.DEMAND, Reg.SAFE_EVENT.STOPPING, Reg.SAFE_EVENT.REMOVED, Reg.SAFE_EVENT.DIAG, Reg.SAFE_EVENT.RESET_REFUSED]
theorem State.crossExchange_effect (s : State) (p1 : Bool) (p2 : Bool) :
    Effect State.crossExchange_touch State.crossExchange_fields s (@State.crossExchange s p1 p2) := by
  unfold State.crossExchange
  extract_lets x1 x2 x3 x4 x5
  have h6 : Effect State.crossExchange_touch State.crossExchange_fields s x3 := by
    refine Effect.when ?_ ?_
    · exact Effect.refl _ _ _
    · intro u7
      try beta_reduce
      extract_lets x9
      try clear_value x9
      refine Effect.after (Effect.safety _ _) (by decide +kernel) ?_
      exact Effect.refl _ _ _
  try clear_value x3
  have h10 : Effect State.crossExchange_touch State.crossExchange_fields s x4 := by
    refine Effect.when ?_ ?_
    · exact h6
    · intro u11
      try beta_reduce
      extract_lets x13
      try clear_value x13
      refine Effect.after (Effect.safety _ _) (by decide +kernel) ?_
      exact Effect.refl _ _ _
  try clear_value x4
  have h14 : Effect State.crossExchange_touch State.crossExchange_fields s x5 := by
    refine Effect.when ?_ ?_
    · exact h10
    · intro u15
      try beta_reduce
      refine Effect.after (State.exchangeSide_effect ..) (by decide +kernel) ?_
      exact Effect.refl _ _ _
  try clear_value x5
  try clear_value x1 x2
  refine Effect.when ?_ ?_
  · exact h14
  · intro u17
    try beta_reduce
    refine Effect.after (State.exchangeSide_effect ..) (by decide +kernel) ?_
    exact Effect.refl _ _ _

def State.handshakePoll_touch : List Part := [.power, .fr, .lanes, .engs, .referee, .pair, .safety, .cans]
def State.handshakePoll_fields : Option (List Field) := some [Reg.DOMAIN_STATE.FABRIC, Reg.DOMAIN_STATE.PLANE_A, Reg.DOMAIN_STATE.PLANE_B, Reg.DOMAIN_STATE.LANE_PHY, Reg.DOMAIN_STATE.BB_PHY, Reg.DOMAIN_STATE.ANALOG, Reg.DOMAIN_STATE.DRAM_ACTIVE, Reg.DOMAIN_STATE.DRAM_SR, Reg.POWER_STATE.STATE, Reg.POWER_STATE.WAKE_SRC, Reg.POWER_STATE.WAKE_TRIES, Reg.POWER_CTRL.DORMANT, Reg.POWER_ENTRY_STATUS.RESULT, Reg.POWER_ENTRY_STATUS.REFUSER, Reg.POWER_ENTRY_STATUS.RETRIES, Reg.POWER_PGOOD.PGOOD, Reg.POWER_EVENT.EVENTS, Reg.REF_STATUS.STATE, Reg.REF_STATUS.ROLE_A, Reg.REF_STATUS.ROLE_B, Reg.REF_STATUS.LEASE, Reg.REF_EVENT.UNFIT, Reg.FRAME_STATUS.RUNNING, Reg.SAFE_STATUS.A_OK, Reg.SAFE_STATUS.B_OK, Reg.SAFE_STATUS.DIAG, Reg.SAFE_STATUS.DIAG_CAUSE, Reg.SAFE_STATUS.RESET_PIN, Reg.SAFE_STATUS.DEMAND, Reg.SAFE_STATUS.LOCKED, Reg.SAFE_STATUS.DIAG_A, Reg.SAFE_STATUS.DIAG_B, Reg.SAFE_GROUP.STATE, Reg.SAFE_GROUP.KIND, Reg.SAFE_GROUP.STOP, Reg.SAFE_GROUP.CAUSE, Reg.SAFE_GROUP.PAIRS, Reg.SAFE_PAIR.CH_A, Reg.SAFE_PAIR.CH_B, Reg.SAFE_PAIR.DEMAND, Reg.SAFE_PAIR.PAIR_FAULT, Reg.SAFE_PAIR.FAULT_CAUSE, Reg.SAFE_PAIR.DEMANDS, Reg.SAFE_TPO.EN, Reg.SAFE_TPO.READBACK_FAULT, Reg.SAFE_FIRE.FIRE_A, Reg.SAFE_FIRE.FIRE_B, Reg.SAFE_FIRE.DRV_A, Reg.SAFE_FIRE.DRV_B, Reg.SAFE_RESET_STATUS.ARMED, Reg.ENG_STATUS.BALL, Reg.ENG_STATUS.SHADOW, Reg.ENG_STATUS.COLD, Reg.ENG_EXPORT.VALUE, Reg.ADC_REF.EN, Reg.ADC_REF.READY, Reg.CAN_CTRL.MODE, Reg.CAN_STATUS.STATE, Reg.LANE_STATUS.SYNC, Reg.BB_STATUS.UP, Reg.BB_STATUS.TX_IDLE, Reg.BB_STATUS.CLOCK, Reg.BB_EVENT.EVENTS]
theorem State.handshakePoll_effect (s : State) (p1 : Nat) :
    Effect State.handshakePoll_touch State.handshakePoll_fields s (@State.handshakePoll s p1) := by
  unfold State.handshakePoll
  extract_lets x1 x2
  have h3 : Effect State.handshakePoll_touch State.handshakePoll_fields s x1 := by
    refine Effect.after (State.bump_effect ..) (by decide +kernel) ?_
    exact Effect.refl _ _ _
  try clear_value x1
  have h4 : Effect State.handshakePoll_touch State.handshakePoll_fields s x2 := by
    refine Effect.after (State.evBit_effect ..) (by decide +kernel) ?_
    refine Effect.after (State.wr_effect ..) (by decide +kernel) ?_
    refine Effect.after (State.entryEnds_effect ..) (by decide +kernel) ?_
    exact h3
  try clear_value x2
  split
  · exact Effect.refl _ _ _
  · split
    · refine Effect.after (State.wr_effect ..) (by decide +kernel) ?_
      exact h3
    · split
      · refine Effect.after (State.dormantEnter_effect ..) (by decide +kernel) ?_
        exact h4
      · refine Effect.after (State.analogDown_effect ..) (by decide +kernel) ?_
        exact h4
      · refine Effect.after (State.bbDown_effect ..) (by decide +kernel) ?_
        exact h4

def State.resyncTimeout_touch : List Part := [.faults, .arms, .convs]
def State.resyncTimeout_fields : Option (List Field) := some [Reg.CONV_STATE.STATE, Reg.CONV_STATE.CAUSE, Reg.CONV_STATE.SLEWING, Reg.CONV_STATE_FRAME.FRAME, Reg.CONV_RESIDUAL.E, Reg.CONV_COUNT.BLOCKS, Reg.CONV_EVENT.BLOCK, Reg.CONV_EVENT.RESYNC_FAIL, Reg.CONV_EVENT.COAST_LIMIT, Reg.CONV_EVENT_SRC.CONV, Reg.COLLECT_STATUS_LO.STATUS, Reg.COLLECT_STATUS_HI.STATUS, Reg.FAULT_COUNT_CORR.COUNT, Reg.FAULT_COUNT_CONT.COUNT, Reg.FAULT_COUNT_FATAL.COUNT, Reg.FAULT_EVENT.CORRECTED, Reg.FAULT_EVENT.CONTAINED, Reg.FAULT_EVENT.FATAL, Reg.FAULT_EVENT.HIST_LOST, Reg.FAULT_HIST_STATUS.LOST]
theorem State.resyncTimeout_effect (s : State) (p1 : Nat) :
    Effect State.resyncTimeout_touch State.resyncTimeout_fields s (@State.resyncTimeout s p1) := by
  unfold State.resyncTimeout
  refine Effect.ite ?_ ?_
  · refine Effect.after (State.blockConv_effect ..) (by decide +kernel) ?_
    exact Effect.refl _ _ _
  · exact Effect.refl _ _ _

def State.restoreFrozen_touch : List Part := [.lanes, .chains, .cells]
def State.restoreFrozen_fields : Option (List Field) := some [Reg.LANE_STATUS.STATE, Reg.LANE_STATUS.MOVING, Reg.LANE_STATUS.SERVED, Reg.LANE_STATUS.FIRST_Q, Reg.LANE_CHAIN.SPLIT, Reg.LANE_CHAIN.GAP, Reg.LANE_SEGDOWN_LO.DOWN, Reg.LANE_SEGDOWN_HI.DOWN, Reg.LANE_EVENT.MOVE, Reg.CELL_PLACE.CHAIN, Reg.CELL_PLACE.POS, Reg.CELL_PLACE.END, Reg.CELL_PLACE.REACHABLE, Reg.CELL_PLACE.ARM, Reg.CELL_PLACE.CLASS]
theorem State.restoreFrozen_effect (s : State) (p1 : ChainCfg) :
    Effect State.restoreFrozen_touch State.restoreFrozen_fields s (@State.restoreFrozen s p1) := by
  unfold State.restoreFrozen
  extract_lets x1 x2
  have h3 : Effect State.restoreFrozen_touch State.restoreFrozen_fields s x1 := by
    refine Effect.after (State.autoRestore_effect ..) (by decide +kernel) ?_
    exact Effect.refl _ _ _
  try clear_value x1
  have h4 : Effect State.restoreFrozen_touch State.restoreFrozen_fields s x2 := by
    refine Effect.each ?_ ?_
    · exact h3
    · intro u5 a6
      try beta_reduce
      extract_lets x7
      try clear_value x7
      refine Effect.after (State.modCell_effect ..) (by decide +kernel) ?_
      exact Effect.refl _ _ _
  try clear_value x2
  refine Effect.after (State.settleMove_effect ..) (by decide +kernel) ?_
  exact h4

def State.restoreAtFreeze_touch : List Part := [.images, .lanes, .chains, .cells]
def State.restoreAtFreeze_fields : Option (List Field) := some [Reg.LANE_STATUS.STATE, Reg.LANE_STATUS.MOVING, Reg.LANE_STATUS.SERVED, Reg.LANE_STATUS.FIRST_Q, Reg.LANE_CHAIN.SPLIT, Reg.LANE_CHAIN.GAP, Reg.LANE_SEGDOWN_LO.DOWN, Reg.LANE_SEGDOWN_HI.DOWN, Reg.LANE_EVENT.MOVE, Reg.CELL_PLACE.CHAIN, Reg.CELL_PLACE.POS, Reg.CELL_PLACE.END, Reg.CELL_PLACE.REACHABLE, Reg.CELL_PLACE.ARM, Reg.CELL_PLACE.CLASS]
theorem State.restoreAtFreeze_effect (s : State) (p1 : ChainCfg) :
    Effect State.restoreAtFreeze_touch State.restoreAtFreeze_fields s (@State.restoreAtFreeze s p1) := by
  unfold State.restoreAtFreeze
  refine Effect.ite ?_ ?_
  · refine Effect.after (State.storeImage_effect ..) (by decide +kernel) ?_
    refine Effect.after (State.restoreFrozen_effect ..) (by decide +kernel) ?_
    exact Effect.refl _ _ _
  · exact Effect.refl _ _ _



def State.flushMsix_touch : List Part := [.host, .out]
def State.flushMsix_fields : Option (List Field) := some []
theorem State.flushMsix_effect (s : State) :
    Effect State.flushMsix_touch State.flushMsix_fields s (@State.flushMsix s) := by
  unfold State.flushMsix
  refine Effect.ite ?_ ?_
  · exact Effect.refl _ _ _
  · refine Effect.each ?_ ?_
    · exact Effect.refl _ _ _
    · intro u1 a2
      try beta_reduce
      extract_lets x3
      try clear_value x3
      refine Effect.ite ?_ ?_
      · refine Effect.after (State.sendVector_effect ..) (by decide +kernel) ?_
        refine Effect.after (Effect.host _ _) (by decide +kernel) ?_
        exact Effect.refl _ _ _
      · exact Effect.refl _ _ _

def State.linkChange_touch : List Part := [.host, .out]
def State.linkChange_fields : Option (List Field) := some []
theorem State.linkChange_effect (s : State) (p1 : Bool) (p2 : Bool) (p3 : Bool) :
    Effect State.linkChange_touch State.linkChange_fields s (@State.linkChange s p1 p2 p3) := by
  unfold State.linkChange
  extract_lets x1
  try clear_value x1
  refine Effect.ite ?_ ?_
  · exact Effect.refl _ _ _
  · refine Effect.after (State.flushMsix_effect ..) (by decide +kernel) ?_
    refine Effect.after (Effect.host _ _) (by decide +kernel) ?_
    exact Effect.refl _ _ _

def State.bar2Write_touch : List Part := [.load]
def State.bar2Write_fields : Option (List Field) := some []
theorem State.bar2Write_effect (s : State) (p1 : Nat) (p2 : List Byte) :
    Effect State.bar2Write_touch State.bar2Write_fields s (@State.bar2Write s p1 p2) := by
  unfold State.bar2Write
  refine Effect.ite ?_ ?_
  · exact Effect.refl _ _ _
  · refine Effect.after (State.modLoad_effect ..) (by decide +kernel) ?_
    exact Effect.refl _ _ _

def State.bbBack_touch : List Part := [.power]
def State.bbBack_fields : Option (List Field) := some [Reg.DOMAIN_STATE.BB_PHY]
theorem State.bbBack_effect (s : State) :
    Effect State.bbBack_touch State.bbBack_fields s (@State.bbBack s) := by
  unfold State.bbBack
  refine Effect.ite ?_ ?_
  · refine Effect.after (State.wr_effect ..) (by decide +kernel) ?_
    refine Effect.after (State.modPower_effect ..) (by decide +kernel) ?_
    exact Effect.refl _ _ _
  · exact Effect.refl _ _ _

def State.analogBack_touch : List Part := [.power, .adc]
def State.analogBack_fields : Option (List Field) := some [Reg.DOMAIN_STATE.ANALOG, Reg.ADC_REF.EN]
theorem State.analogBack_effect (s : State) :
    Effect State.analogBack_touch State.analogBack_fields s (@State.analogBack s) := by
  unfold State.analogBack
  extract_lets x1
  have h2 : Effect State.analogBack_touch State.analogBack_fields s x1 := by
    refine Effect.after (State.wr_effect ..) (by decide +kernel) ?_
    refine Effect.after (State.modPower_effect ..) (by decide +kernel) ?_
    exact Effect.refl _ _ _
  try clear_value x1
  refine Effect.ite ?_ ?_
  · refine Effect.when ?_ ?_
    · exact h2
    · intro u3
      try beta_reduce
      refine Effect.after (State.refEnable_effect ..) (by decide +kernel) ?_
      exact Effect.refl _ _ _
  · exact Effect.refl _ _ _

def State.railPgood_touch : List Part := [.power, .referee, .adc]
def State.railPgood_fields : Option (List Field) := some [Reg.DOMAIN_STATE.FABRIC, Reg.DOMAIN_STATE.LANE_PHY, Reg.DOMAIN_STATE.BB_PHY, Reg.DOMAIN_STATE.ANALOG, Reg.DOMAIN_STATE.DRAM_ACTIVE, Reg.DOMAIN_STATE.DRAM_SR, Reg.POWER_PGOOD.PGOOD, Reg.ADC_REF.EN]
theorem State.railPgood_effect (s : State) (p1 : Nat) :
    Effect State.railPgood_touch State.railPgood_fields s (@State.railPgood s p1) := by
  unfold State.railPgood
  extract_lets x1 x2
  have h3 : Effect State.railPgood_touch State.railPgood_fields s x1 := by
    refine Effect.after (State.showPgood_effect ..) (by decide +kernel) ?_
    refine Effect.after (State.modPower_effect ..) (by decide +kernel) ?_
    exact Effect.refl _ _ _
  try clear_value x1
  have h4 : Effect State.railPgood_touch State.railPgood_fields s x2 := by
    refine Effect.ite ?_ ?_
    · refine Effect.after (State.planePgood_effect ..) (by decide +kernel) ?_
      exact h3
    · exact h3
  try clear_value x2
  refine Effect.ite ?_ ?_
  · exact Effect.refl _ _ _
  · refine Effect.after (State.kickStep2_effect ..) (by decide +kernel) ?_
    refine Effect.after (State.bbBack_effect ..) (by decide +kernel) ?_
    refine Effect.after (State.analogBack_effect ..) (by decide +kernel) ?_
    exact h4

def State.judge_touch : List Part := [.host, .pair, .journal, .out]
def State.judge_fields : Option (List Field) := some [Reg.JRN_REFUSE.GAP, Reg.JRN_REFUSE.REPEATED, Reg.JRN_BUSY.BUSY, Reg.JRN_BUSY.OTHER, Reg.JRN_EVENT.FULL, Reg.JRN_CPL_TAIL.INDEX, Reg.JRN_RING_STATUS.PHASE, Reg.BB_STATUS.TX_IDLE]
theorem State.judge_effect (s : State) (p1 : Nat) (p2 : List Byte) (p3 : Nat) :
    Effect State.judge_touch State.judge_fields s (@State.judge s p1 p2 p3) := by
  unfold State.judge
  extract_lets x1 x2 x3 x4 x5 x6 x7 x8 x9 x10 x11 x12
  have h13 : Effect State.judge_touch State.judge_fields s x9 := by
    refine Effect.after (State.bump_effect ..) (by decide +kernel) ?_
    exact Effect.refl _ _ _
  try clear_value x9
  have h14 : Effect State.judge_touch State.judge_fields s x12 := by
    refine Effect.after (State.modJrn_effect ..) (by decide +kernel) ?_
    exact Effect.refl _ _ _
  try clear_value x12
  try clear_value x1 x2 x3 x4 x5 x6 x8 x10 x11
  refine Effect.ite ?_ ?_
  · try unfold x7
    try beta_reduce
    refine Effect.after (State.reply_effect ..) (by decide +kernel) ?_
    refine Effect.after (State.bump_effect ..) (by decide +kernel) ?_
    exact Effect.refl _ _ _
  · refine Effect.ite ?_ ?_
    · try unfold x7
      try beta_reduce
      refine Effect.after (State.reply_effect ..) (by decide +kernel) ?_
      refine Effect.after (State.bump_effect ..) (by decide +kernel) ?_
      exact Effect.refl _ _ _
    · refine Effect.ite ?_ ?_
      · split
        · try unfold x7
          try beta_reduce
          refine Effect.after (State.reply_effect ..) (by decide +kernel) ?_
          exact h13
        · try unfold x7
          try beta_reduce
          refine Effect.after (State.reply_effect ..) (by decide +kernel) ?_
          exact h13
      · refine Effect.ite ?_ ?_
        · try unfold x7
          try beta_reduce
          refine Effect.after (State.reply_effect ..) (by decide +kernel) ?_
          refine Effect.after (State.bump_effect ..) (by decide +kernel) ?_
          exact Effect.refl _ _ _
        · refine Effect.ite ?_ ?_
          · try unfold x7
            try beta_reduce
            refine Effect.after (State.reply_effect ..) (by decide +kernel) ?_
            refine Effect.after (State.wr_effect ..) (by decide +kernel) ?_
            refine Effect.after (State.bump_effect ..) (by decide +kernel) ?_
            exact Effect.refl _ _ _
          · split
            · refine Effect.after (State.sendPair_effect ..) (by decide +kernel) ?_
              exact h14
            · exact h14

def State.takeCommand_touch : List Part := [.host, .pair, .journal, .out]
def State.takeCommand_fields : Option (List Field) := some [Reg.JRN_REFUSE.GAP, Reg.JRN_REFUSE.REPEATED, Reg.JRN_BUSY.BUSY, Reg.JRN_BUSY.OTHER, Reg.JRN_EVENT.FULL, Reg.JRN_CMD_HEAD.INDEX, Reg.JRN_CPL_TAIL.INDEX, Reg.JRN_RING_STATUS.PHASE, Reg.JRN_RING_STATUS.WAIT_CPL, Reg.BB_STATUS.TX_IDLE]
theorem State.takeCommand_effect (s : State) (p1 : List Byte) :
    Effect State.takeCommand_touch State.takeCommand_fields s (@State.takeCommand s p1) := by
  unfold State.takeCommand
  extract_lets x1 x2
  try clear_value x1 x2
  refine Effect.ite ?_ ?_
  · refine Effect.after (State.showWait_effect ..) (by decide +kernel) ?_
    exact Effect.refl _ _ _
  · refine Effect.after (State.showWait_effect ..) (by decide +kernel) ?_
    refine Effect.after (State.judge_effect ..) (by decide +kernel) ?_
    refine Effect.after (State.wr_effect ..) (by decide +kernel) ?_
    exact Effect.refl _ _ _

def State.bbJournal_touch : List Part := [.host, .pair, .journal, .out]
def State.bbJournal_fields : Option (List Field) := some [Reg.JRN_REFUSE.GAP, Reg.JRN_REFUSE.REPEATED, Reg.JRN_BUSY.BUSY, Reg.JRN_BUSY.OTHER, Reg.JRN_EVENT.FULL, Reg.JRN_CPL_TAIL.INDEX, Reg.JRN_RING_STATUS.PHASE, Reg.BB_STATUS.TX_IDLE, Reg.BB_COUNT.DENIED]
theorem State.bbJournal_effect (s : State) (p1 : Nat) (p2 : Nat) (p3 : List Byte) :
    Effect State.bbJournal_touch State.bbJournal_fields s (@State.bbJournal s p1 p2 p3) := by
  unfold State.bbJournal
  split
  · exact Effect.refl _ _ _
  · refine Effect.ite ?_ ?_
    · refine Effect.after (State.denied_effect ..) (by decide +kernel) ?_
      exact Effect.refl _ _ _
    · refine Effect.ite ?_ ?_
      · refine Effect.after (State.judge_effect ..) (by decide +kernel) ?_
        exact Effect.refl _ _ _
      · exact Effect.refl _ _ _

def State.imagePacket_touch : List Part := [.power, .host, .load, .fr]
def State.imagePacket_fields : Option (List Field) := some [Reg.FRAME_STATUS.RUNNING, Reg.IMAGE_STATUS.STATE, Reg.IMAGE_STATUS.SOURCE, Reg.IMAGE_STATUS.CODE, Reg.IMAGE_ERR_SECTION.INDEX, Reg.IMAGE_ERR_SECTION.TYPE, Reg.IMAGE_ERR_OFFSET.OFFSET, Reg.IMAGE_PRIMARY_CODE.CODE, Reg.IMAGE_EVENT.DONE, Reg.BB_COUNT.DENIED]
theorem State.imagePacket_effect (s : State) (p1 : Nat) (p2 : Nat) (p3 : List Byte) :
    Effect State.imagePacket_touch State.imagePacket_fields s (@State.imagePacket s p1 p2 p3) := by
  unfold State.imagePacket
  extract_lets x1 x2 x3 x4
  try clear_value x1 x2 x3 x4
  refine Effect.ite ?_ ?_
  · exact Effect.refl _ _ _
  · refine Effect.ite ?_ ?_
    · refine Effect.ite ?_ ?_
      · refine Effect.after (State.denied_effect ..) (by decide +kernel) ?_
        exact Effect.refl _ _ _
      · exact Effect.refl _ _ _
    · refine Effect.ite ?_ ?_
      · exact Effect.refl _ _ _
      · refine Effect.ite ?_ ?_
        · refine Effect.ite ?_ ?_
          · refine Effect.after (State.refuse_effect ..) (by decide +kernel) ?_
            refine Effect.after (State.wr_effect ..) (by decide +kernel) ?_
            exact Effect.refl _ _ _
          · exact Effect.refl _ _ _
        · split
          · refine Effect.ite ?_ ?_
            · refine Effect.after (State.takeImage_effect ..) (by decide +kernel) ?_
              exact Effect.refl _ _ _
            · exact Effect.refl _ _ _
          · refine Effect.after (State.takeImage_effect ..) (by decide +kernel) ?_
            refine Effect.after (Effect.host _ _) (by decide +kernel) ?_
            exact Effect.refl _ _ _

def State.forceIdle_touch : List Part := [.lanes]
def State.forceIdle_fields : Option (List Field) := some [Reg.LANE_CTRL.FORCE_IDLE, Reg.LANE_STATUS.STATE, Reg.LANE_EVENT.LOST]
theorem State.forceIdle_effect (s : State) (p1 : Nat) (p2 : Bool) :
    Effect State.forceIdle_touch State.forceIdle_fields s (@State.forceIdle s p1 p2) := by
  unfold State.forceIdle
  extract_lets x1
  have h2 : Effect State.forceIdle_touch State.forceIdle_fields s x1 := by
    refine Effect.after (State.wr_effect ..) (by decide +kernel) ?_
    exact Effect.refl _ _ _
  try clear_value x1
  refine Effect.ite ?_ ?_
  · exact Effect.refl _ _ _
  · refine Effect.ite ?_ ?_
    · exact h2
    · refine Effect.ite ?_ ?_
      · refine Effect.after (State.loseLane_effect ..) (by decide +kernel) ?_
        exact h2
      · refine Effect.ite ?_ ?_
        · refine Effect.after (State.measure_effect ..) (by decide +kernel) ?_
          refine Effect.after (State.modLane_effect ..) (by decide +kernel) ?_
          exact h2
        · refine Effect.after (State.showLane_effect ..) (by decide +kernel) ?_
          exact h2

def State.takeEdge_touch : List Part := [.safety]
def State.takeEdge_fields : Option (List Field) := some [Reg.SAFE_RESET_STATUS.RELEASED, Reg.SAFE_RESET_STATUS.REFUSED, Reg.SAFE_EVENT.RELEASED, Reg.SAFE_EVENT.RESET_REFUSED]
theorem State.takeEdge_effect (s : State) (p1 : Bool) :
    Effect State.takeEdge_touch State.takeEdge_fields s (@State.takeEdge s p1) := by
  unfold State.takeEdge
  extract_lets x1 x2
  have h3 : Effect State.takeEdge_touch State.takeEdge_fields s x2 := by
    refine Effect.after (State.modUnit_effect ..) (by decide +kernel) ?_
    exact Effect.refl _ _ _
  try clear_value x2
  try clear_value x1
  refine Effect.each ?_ ?_
  · exact h3
  · intro u4 a5
    try beta_reduce
    refine Effect.ite ?_ ?_
    · refine Effect.after (State.wrBit_effect ..) (by decide +kernel) ?_
      refine Effect.after (State.wr_effect ..) (by decide +kernel) ?_
      refine Effect.after (State.modGrp_effect ..) (by decide +kernel) ?_
      exact Effect.refl _ _ _
    · refine Effect.after (State.wrBit_effect ..) (by decide +kernel) ?_
      refine Effect.after (State.wr_effect ..) (by decide +kernel) ?_
      exact Effect.refl _ _ _

def State.resetRise_touch : List Part := [.safety]
def State.resetRise_fields : Option (List Field) := some [Reg.SAFE_STATUS.A_OK, Reg.SAFE_STATUS.B_OK, Reg.SAFE_STATUS.DIAG, Reg.SAFE_STATUS.DIAG_CAUSE, Reg.SAFE_STATUS.RESET_PIN, Reg.SAFE_STATUS.RESET_STUCK, Reg.SAFE_STATUS.DEMAND, Reg.SAFE_STATUS.LOCKED, Reg.SAFE_STATUS.DIAG_A, Reg.SAFE_STATUS.DIAG_B, Reg.SAFE_GROUP.STATE, Reg.SAFE_GROUP.KIND, Reg.SAFE_GROUP.STOP, Reg.SAFE_GROUP.CAUSE, Reg.SAFE_GROUP.PAIRS, Reg.SAFE_PAIR.CH_A, Reg.SAFE_PAIR.CH_B, Reg.SAFE_PAIR.DEMAND, Reg.SAFE_PAIR.PAIR_FAULT, Reg.SAFE_PAIR.FAULT_CAUSE, Reg.SAFE_PAIR.DEMANDS, Reg.SAFE_TPO.EN, Reg.SAFE_TPO.READBACK_FAULT, Reg.SAFE_FIRE.FIRE_A, Reg.SAFE_FIRE.FIRE_B, Reg.SAFE_FIRE.DRV_A, Reg.SAFE_FIRE.DRV_B, Reg.SAFE_RESET_STATUS.ARMED, Reg.SAFE_RESET_STATUS.RELEASED, Reg.SAFE_RESET_STATUS.REFUSED, Reg.SAFE_EVENT.RELEASED, Reg.SAFE_EVENT.RESET_REFUSED]
theorem State.resetRise_effect (s : State) :
    Effect State.resetRise_touch State.resetRise_fields s (@State.resetRise s) := by
  unfold State.resetRise
  extract_lets x1 x2
  have h3 : Effect State.resetRise_touch State.resetRise_fields s x2 := by
    refine Effect.after (Effect.safety _ _) (by decide +kernel) ?_
    exact Effect.refl _ _ _
  try clear_value x2
  try clear_value x1
  split
  · exact Effect.refl _ _ _
  · extract_lets x4 x5 x6 x7 x8
    have h9 : Effect State.resetRise_touch State.resetRise_fields s x5 := by
      refine Effect.when ?_ ?_
      · exact h3
      · intro u10
        try beta_reduce
        refine Effect.after (State.wr_effect ..) (by decide +kernel) ?_
        exact Effect.refl _ _ _
    try clear_value x5
    have h12 : Effect State.resetRise_touch State.resetRise_fields s x7 := by
      refine Effect.after (State.wr_effect ..) (by decide +kernel) ?_
      refine Effect.after (State.wr_effect ..) (by decide +kernel) ?_
      exact h9
    try clear_value x7
    have h13 : Effect State.resetRise_touch State.resetRise_fields s x8 := by
      refine Effect.when ?_ ?_
      · exact h12
      · intro u14
        try beta_reduce
        refine Effect.after (State.takeEdge_effect ..) (by decide +kernel) ?_
        exact Effect.refl _ _ _
    try clear_value x8
    try clear_value x4
    refine Effect.ite ?_ ?_
    · refine Effect.after (State.showSafe_effect ..) (by decide +kernel) ?_
      refine Effect.after (State.takeEdge_effect ..) (by decide +kernel) ?_
      exact h13
    · refine Effect.after (State.showSafe_effect ..) (by decide +kernel) ?_
      exact h9

def State.canBusOff_touch : List Part := [.faults, .cans]
def State.canBusOff_fields : Option (List Field) := some [Reg.COLLECT_STATUS_LO.STATUS, Reg.COLLECT_STATUS_HI.STATUS, Reg.FAULT_COUNT_CORR.COUNT, Reg.FAULT_COUNT_CONT.COUNT, Reg.FAULT_COUNT_FATAL.COUNT, Reg.FAULT_EVENT.CORRECTED, Reg.FAULT_EVENT.CONTAINED, Reg.FAULT_EVENT.FATAL, Reg.FAULT_EVENT.HIST_LOST, Reg.FAULT_HIST_STATUS.LOST, Reg.CAN_STATUS.STATE, Reg.CAN_STATUS.RECOVERING, Reg.CAN_ERRCNT.TEC, Reg.CAN_ERRCNT.BUSOFF, Reg.CAN_EVENT.EVENTS]
theorem State.canBusOff_effect (s : State) (p1 : Nat) :
    Effect State.canBusOff_touch State.canBusOff_fields s (@State.canBusOff s p1) := by
  unfold State.canBusOff
  extract_lets x1 x2 x3
  have h4 : Effect State.canBusOff_touch State.canBusOff_fields s x1 := by
    refine Effect.after (State.bump_effect ..) (by decide +kernel) ?_
    refine Effect.after (State.wr_effect ..) (by decide +kernel) ?_
    refine Effect.after (State.wr_effect ..) (by decide +kernel) ?_
    exact Effect.refl _ _ _
  try clear_value x1
  have h5 : Effect State.canBusOff_touch State.canBusOff_fields s x2 := by
    refine Effect.after (State.modCan_effect ..) (by decide +kernel) ?_
    exact h4
  try clear_value x2
  have h6 : Effect State.canBusOff_touch State.canBusOff_fields s x3 := by
    refine Effect.after (State.wr_effect ..) (by decide +kernel) ?_
    exact h5
  try clear_value x3
  refine Effect.after (State.raise_effect ..) (by decide +kernel) ?_
  refine Effect.after (State.evBit_effect ..) (by decide +kernel) ?_
  exact h6

def State.resetArm_touch : List Part := [.safety]
def State.resetArm_fields : Option (List Field) := some [Reg.SAFE_STATUS.A_OK, Reg.SAFE_STATUS.B_OK, Reg.SAFE_STATUS.DIAG, Reg.SAFE_STATUS.DIAG_CAUSE, Reg.SAFE_STATUS.RESET_PIN, Reg.SAFE_STATUS.DEMAND, Reg.SAFE_STATUS.LOCKED, Reg.SAFE_STATUS.DIAG_A, Reg.SAFE_STATUS.DIAG_B, Reg.SAFE_GROUP.STATE, Reg.SAFE_GROUP.KIND, Reg.SAFE_GROUP.STOP, Reg.SAFE_GROUP.CAUSE, Reg.SAFE_GROUP.PAIRS, Reg.SAFE_PAIR.CH_A, Reg.SAFE_PAIR.CH_B, Reg.SAFE_PAIR.DEMAND, Reg.SAFE_PAIR.PAIR_FAULT, Reg.SAFE_PAIR.FAULT_CAUSE, Reg.SAFE_PAIR.DEMANDS, Reg.SAFE_TPO.EN, Reg.SAFE_TPO.READBACK_FAULT, Reg.SAFE_FIRE.FIRE_A, Reg.SAFE_FIRE.FIRE_B, Reg.SAFE_FIRE.DRV_A, Reg.SAFE_FIRE.DRV_B, Reg.SAFE_RESET_STATUS.ARMED]
theorem State.resetArm_effect (s : State) (p1 : Nat) :
    Effect State.resetArm_touch State.resetArm_fields s (@State.resetArm s p1) := by
  unfold State.resetArm
  extract_lets x1
  try clear_value x1
  refine Effect.ite ?_ ?_
  · exact Effect.refl _ _ _
  · refine Effect.after (State.showSafe_effect ..) (by decide +kernel) ?_
    refine Effect.each ?_ ?_
    · exact Effect.refl _ _ _
    · intro u2 a3
      try beta_reduce
      refine Effect.after (State.modUnit_effect ..) (by decide +kernel) ?_
      exact Effect.refl _ _ _

def State.imageAuthenticate_touch : List Part := [.power, .host, .load, .fr]
def State.imageAuthenticate_fields : Option (List Field) := some [Reg.FRAME_STATUS.RUNNING, Reg.IMAGE_STATUS.STATE, Reg.IMAGE_STATUS.SOURCE, Reg.IMAGE_STATUS.CODE, Reg.IMAGE_ERR_SECTION.INDEX, Reg.IMAGE_ERR_SECTION.TYPE, Reg.IMAGE_ERR_OFFSET.OFFSET, Reg.IMAGE_PRIMARY_CODE.CODE, Reg.IMAGE_EVENT.DONE]
theorem State.imageAuthenticate_effect (s : State) :
    Effect State.imageAuthenticate_touch State.imageAuthenticate_fields s (@State.imageAuthenticate s) := by
  unfold State.imageAuthenticate
  refine Effect.ite ?_ ?_
  · exact Effect.refl _ _ _
  · split
    · refine Effect.after (State.refuse_effect ..) (by decide +kernel) ?_
      exact Effect.refl _ _ _
    · refine Effect.after (State.modPower_effect ..) (by decide +kernel) ?_
      refine Effect.after (State.wr_effect ..) (by decide +kernel) ?_
      exact Effect.refl _ _ _

def State.pairJournal_touch : List Part := [.faults, .journal, .out]
def State.pairJournal_fields : Option (List Field) := some [Reg.COLLECT_STATUS_LO.STATUS, Reg.COLLECT_STATUS_HI.STATUS, Reg.FAULT_COUNT_CORR.COUNT, Reg.FAULT_COUNT_CONT.COUNT, Reg.FAULT_COUNT_FATAL.COUNT, Reg.FAULT_EVENT.CORRECTED, Reg.FAULT_EVENT.CONTAINED, Reg.FAULT_EVENT.FATAL, Reg.FAULT_EVENT.HIST_LOST, Reg.FAULT_HIST_STATUS.LOST, Reg.JRN_STATUS.FILL, Reg.JRN_STATUS.MRAM_OK, Reg.JRN_STATUS.PAIR_MIRROR, Reg.JRN_ACCEPTED.COUNT, Reg.JRN_EVENT.MRAM_FAIL, Reg.JRN_SRC_LAST.LAST]
theorem State.pairJournal_effect (s : State) (p1 : List Byte) (p2 : Bool) :
    Effect State.pairJournal_touch State.pairJournal_fields s (@State.pairJournal s p1 p2) := by
  unfold State.pairJournal
  extract_lets x1 x2
  try clear_value x1 x2
  refine Effect.ite ?_ ?_
  · exact Effect.refl _ _ _
  · refine Effect.after (State.wr_effect ..) (by decide +kernel) ?_
    refine Effect.after (State.mramResult_effect ..) (by decide +kernel) ?_
    refine Effect.after (State.mirrorRec_effect ..) (by decide +kernel) ?_
    refine Effect.after (State.holdRec_effect ..) (by decide +kernel) ?_
    exact Effect.refl _ _ _

def State.window_touch : List Part := [.adc]
def State.window_fields : Option (List Field) := some [Reg.ADC_EVENT.WINDOW, Reg.ADC_SEQ_WIN_EVENT.EVENT]
theorem State.window_effect (s : State) (p1 : Nat) (p2 : Nat) (p3 : AdcEntry) (p4 : Int) :
    Effect State.window_touch State.window_fields s (@State.window s p1 p2 p3 p4) := by
  unfold State.window
  extract_lets x1 x2 x3 x4
  have h5 : Effect State.window_touch State.window_fields s x3 := by
    refine Effect.after (State.modSar_effect ..) (by decide +kernel) ?_
    exact Effect.refl _ _ _
  try clear_value x3
  have h6 : Effect State.window_touch State.window_fields s x4 := by
    refine Effect.after (State.evBit_effect ..) (by decide +kernel) ?_
    exact h5
  try clear_value x4
  try clear_value x1 x2
  refine Effect.ite ?_ ?_
  · refine Effect.when ?_ ?_
    · exact h6
    · intro u7
      try beta_reduce
      refine Effect.after (State.wr_effect ..) (by decide +kernel) ?_
      exact Effect.refl _ _ _
  · exact h5

def State.putSlot_touch : List Part := [.adc]
def State.putSlot_fields : Option (List Field) := some []
theorem State.putSlot_effect (s : State) (p1 : Nat) (p2 : AdcSlot) :
    Effect State.putSlot_touch State.putSlot_fields s (@State.putSlot s p1 p2) := by
  unfold State.putSlot
  extract_lets x1
  try clear_value x1
  refine Effect.after (Effect.adc _ _) (by decide +kernel) ?_
  exact Effect.refl _ _ _

def State.adcResult_touch : List Part := [.adc]
def State.adcResult_fields : Option (List Field) := some [Reg.ADC_STATUS.BUSY, Reg.ADC_STATUS.INVALID, Reg.ADC_STATUS.CLIP, Reg.ADC_EVENT.WINDOW, Reg.ADC_SEQ_COUNT.INVALID, Reg.ADC_SEQ_WIN_EVENT.EVENT, Reg.ADC_ENTRY_RESULT.RAW, Reg.ADC_ENTRY_RESULT.FLAGS, Reg.ADC_ENTRY_RESULT.SETTLE]
theorem State.adcResult_effect (s : State) (p1 : Nat) (p2 : Nat) (p3 : Int) :
    Effect State.adcResult_touch State.adcResult_fields s (@State.adcResult s p1 p2 p3) := by
  unfold State.adcResult
  extract_lets x1 x2 x3
  try clear_value x1 x2 x3
  split
  · exact Effect.refl _ _ _
  · extract_lets x4 x5 x6 x7 x8 x9 x10 x11 x12 x13 x14 x15 x16 x17 x18 x19 x20 x21
    have h22 : Effect State.adcResult_touch State.adcResult_fields s x11 := by
      refine Effect.after (State.modSar_effect ..) (by decide +kernel) ?_
      exact Effect.refl _ _ _
    try clear_value x11
    have h23 : Effect State.adcResult_touch State.adcResult_fields s x12 := by
      refine Effect.when ?_ ?_
      · exact h22
      · intro u24
        try beta_reduce
        refine Effect.after (State.window_effect ..) (by decide +kernel) ?_
        exact Effect.refl _ _ _
    try clear_value x12
    have h26 : Effect State.adcResult_touch State.adcResult_fields s x16 := by
      refine Effect.after (State.putSlot_effect ..) (by decide +kernel) ?_
      exact h23
    try clear_value x16
    have h27 : Effect State.adcResult_touch State.adcResult_fields s x17 := by
      refine Effect.after (State.wr_effect ..) (by decide +kernel) ?_
      refine Effect.after (State.wrS_effect ..) (by decide +kernel) ?_
      exact h26
    try clear_value x17
    have h28 : Effect State.adcResult_touch State.adcResult_fields s x18 := by
      refine Effect.after (State.wr_effect ..) (by decide +kernel) ?_
      exact h27
    try clear_value x18
    have h29 : Effect State.adcResult_touch State.adcResult_fields s x19 := by
      refine Effect.when ?_ ?_
      · exact h28
      · intro u30
        try beta_reduce
        refine Effect.after (State.bump_effect ..) (by decide +kernel) ?_
        exact Effect.refl _ _ _
    try clear_value x19
    have h32 : Effect State.adcResult_touch State.adcResult_fields s x20 := by
      refine Effect.after (State.wrBit_effect ..) (by decide +kernel) ?_
      exact h29
    try clear_value x20
    have h33 : Effect State.adcResult_touch State.adcResult_fields s x21 := by
      refine Effect.after (State.wrBit_effect ..) (by decide +kernel) ?_
      exact h32
    try clear_value x21
    try clear_value x4 x5 x6 x7 x8 x9 x10 x13 x14 x15
    refine Effect.ite ?_ ?_
    · exact Effect.refl _ _ _
    · refine Effect.ite ?_ ?_
      · refine Effect.after (State.wrBit_effect ..) (by decide +kernel) ?_
        exact h33
      · exact h29

def State.dramInit_touch : List Part := [.power, .host, .load, .fr]
def State.dramInit_fields : Option (List Field) := some [Reg.DOMAIN_STATE.DRAM_ACTIVE, Reg.FRAME_STATUS.RUNNING, Reg.IMAGE_STATUS.STATE, Reg.IMAGE_STATUS.SOURCE, Reg.IMAGE_STATUS.CODE, Reg.IMAGE_ERR_SECTION.INDEX, Reg.IMAGE_ERR_SECTION.TYPE, Reg.IMAGE_ERR_OFFSET.OFFSET, Reg.IMAGE_PRIMARY_CODE.CODE, Reg.IMAGE_EVENT.DONE]
theorem State.dramInit_effect (s : State) (p1 : Bool) :
    Effect State.dramInit_touch State.dramInit_fields s (@State.dramInit s p1) := by
  unfold State.dramInit
  extract_lets x1
  have h2 : Effect State.dramInit_touch State.dramInit_fields s x1 := by
    refine Effect.after (State.modPower_effect ..) (by decide +kernel) ?_
    refine Effect.after (State.wr_effect ..) (by decide +kernel) ?_
    refine Effect.after (State.modLoad_effect ..) (by decide +kernel) ?_
    exact Effect.refl _ _ _
  try clear_value x1
  refine Effect.ite ?_ ?_
  · exact Effect.refl _ _ _
  · refine Effect.ite ?_ ?_
    · refine Effect.ite ?_ ?_
      · refine Effect.after (State.tryNext_effect ..) (by decide +kernel) ?_
        exact h2
      · exact h2
    · refine Effect.after (State.endRefused_effect ..) (by decide +kernel) ?_
      refine Effect.after (State.modLoad_effect ..) (by decide +kernel) ?_
      exact Effect.refl _ _ _

def State.pairSilence_touch : List Part := [.pair]
def State.pairSilence_fields : Option (List Field) := some [Reg.REF_PAIR.LINK_OK]
theorem State.pairSilence_effect (s : State) :
    Effect State.pairSilence_touch State.pairSilence_fields s (@State.pairSilence s) := by
  unfold State.pairSilence
  refine Effect.ite ?_ ?_
  · refine Effect.after (State.showPairLink_effect ..) (by decide +kernel) ?_
    refine Effect.after (State.modPairSt_effect ..) (by decide +kernel) ?_
    exact Effect.refl _ _ _
  · exact Effect.refl _ _ _

def State.substRequest_touch : List Part := [.faults, .load, .lanes, .arms, .safety]
def State.substRequest_fields : Option (List Field) := some [Reg.ROLE_COUNT.LANE_SLICES, Reg.ROLE_COUNT.ARM_SLICES, Reg.ROLE_COUNT.RECORDER, Reg.ROLE_COUNT.MIRROR, Reg.ROLE_COUNT.SPARE, Reg.ROLE_COUNT.UNASSIGNED, Reg.COLLECT_STATUS_LO.STATUS, Reg.COLLECT_STATUS_HI.STATUS, Reg.FAULT_COUNT_CORR.COUNT, Reg.FAULT_COUNT_CONT.COUNT, Reg.FAULT_COUNT_FATAL.COUNT, Reg.FAULT_EVENT.CORRECTED, Reg.FAULT_EVENT.CONTAINED, Reg.FAULT_EVENT.FATAL, Reg.FAULT_EVENT.HIST_LOST, Reg.FAULT_HIST_STATUS.LOST, Reg.IMAGE_SUBST_REQ.SLICE, Reg.IMAGE_SUBST_STATUS.BUSY, Reg.IMAGE_SLICE_FAIL.FAIL, Reg.IMAGE_EVENT.SPARE_LOW, Reg.LANE_STATUS.STATE, Reg.LANE_EVENT.LOST, Reg.SLICE_ROLE.STATE, Reg.ARM_STATUS.ACTIVE]
theorem State.substRequest_effect (s : State) (p1 : Nat) :
    Effect State.substRequest_touch State.substRequest_fields s (@State.substRequest s p1) := by
  unfold State.substRequest
  extract_lets x1
  have h2 : Effect State.substRequest_touch State.substRequest_fields s x1 := by
    refine Effect.after (State.wr_effect ..) (by decide +kernel) ?_
    exact Effect.refl _ _ _
  try clear_value x1
  refine Effect.ite ?_ ?_
  · refine Effect.after (State.sliceFail_effect ..) (by decide +kernel) ?_
    exact h2
  · exact h2

def State.faultCtrlWrite_touch : List Part := []
def State.faultCtrlWrite_fields : Option (List Field) := some [Reg.RECOVERY_COUNT.COUNT, Reg.FAULT_COUNT_CORR.COUNT, Reg.FAULT_COUNT_CONT.COUNT, Reg.FAULT_COUNT_FATAL.COUNT, Reg.FAULT_CTRL.HIST_CORRECTED, Reg.FAULT_HIST_STATUS.NEWEST, Reg.FAULT_HIST_STATUS.FILLED, Reg.FAULT_HIST_STATUS.LOST, Reg.FAULT_HIST_FRAME.VALUE, Reg.FAULT_HIST_NS_LO.VALUE, Reg.FAULT_HIST_NS_HI.VALUE, Reg.FAULT_HIST_INFO.VALUE]
theorem State.faultCtrlWrite_effect (s : State) (p1 : Nat) :
    Effect State.faultCtrlWrite_touch State.faultCtrlWrite_fields s (@State.faultCtrlWrite s p1) := by
  unfold State.faultCtrlWrite
  extract_lets x1
  have h2 : Effect State.faultCtrlWrite_touch State.faultCtrlWrite_fields s x1 := by
    refine Effect.after (State.wr_effect ..) (by decide +kernel) ?_
    exact Effect.refl _ _ _
  try clear_value x1
  refine Effect.when ?_ ?_
  · refine Effect.when ?_ ?_
    · exact h2
    · intro u3
      try beta_reduce
      refine Effect.after (State.faultClearCounts_effect ..) (by decide +kernel) ?_
      exact Effect.refl _ _ _
  · intro u5
    try beta_reduce
    refine Effect.after (State.faultClearHist_effect ..) (by decide +kernel) ?_
    exact Effect.refl _ _ _

def State.laneCallup_touch : List Part := [.lanes]
def State.laneCallup_fields : Option (List Field) := some [Reg.LANE_STATUS.STATE]
theorem State.laneCallup_effect (s : State) (p1 : Nat) :
    Effect State.laneCallup_touch State.laneCallup_fields s (@State.laneCallup s p1) := by
  unfold State.laneCallup
  extract_lets x1
  try clear_value x1
  refine Effect.ite ?_ ?_
  · exact Effect.refl _ _ _
  · refine Effect.after (State.measure_effect ..) (by decide +kernel) ?_
    exact Effect.refl _ _ _

def State.gateInterlock_touch : List Part := [.faults, .drives]
def State.gateInterlock_fields : Option (List Field) := some [Reg.COLLECT_STATUS_LO.STATUS, Reg.COLLECT_STATUS_HI.STATUS, Reg.FAULT_COUNT_CORR.COUNT, Reg.FAULT_COUNT_CONT.COUNT, Reg.FAULT_COUNT_FATAL.COUNT, Reg.FAULT_EVENT.CORRECTED, Reg.FAULT_EVENT.CONTAINED, Reg.FAULT_EVENT.FATAL, Reg.FAULT_EVENT.HIST_LOST, Reg.FAULT_HIST_STATUS.LOST, Reg.DRV_LEG_STATUS.GATES_OFF, Reg.DRV_LEG_COUNT.INTERLOCK]
theorem State.gateInterlock_effect (s : State) (p1 : Nat) (p2 : Nat) :
    Effect State.gateInterlock_touch State.gateInterlock_fields s (@State.gateInterlock s p1 p2) := by
  unfold State.gateInterlock
  extract_lets x1 x2 x3
  have h4 : Effect State.gateInterlock_touch State.gateInterlock_fields s x2 := by
    refine Effect.after (State.bump_effect ..) (by decide +kernel) ?_
    exact Effect.refl _ _ _
  try clear_value x2
  have h5 : Effect State.gateInterlock_touch State.gateInterlock_fields s x3 := by
    refine Effect.when ?_ ?_
    · exact h4
    · intro u6
      try beta_reduce
      refine Effect.after (State.raise_effect ..) (by decide +kernel) ?_
      exact Effect.refl _ _ _
  try clear_value x3
  try clear_value x1
  refine Effect.ite ?_ ?_
  · exact Effect.refl _ _ _
  · refine Effect.after (State.driveLeg_effect ..) (by decide +kernel) ?_
    refine Effect.after (State.modLeg_effect ..) (by decide +kernel) ?_
    exact h5

def State.recheck_touch : List Part := [.host, .out]
def State.recheck_fields : Option (List Field) := some []
theorem State.recheck_effect (s : State) (p1 : Nat) :
    Effect State.recheck_touch State.recheck_fields s (@State.recheck s p1) := by
  unfold State.recheck
  refine Effect.ite ?_ ?_
  · refine Effect.after (State.sendSource_effect ..) (by decide +kernel) ?_
    exact Effect.refl _ _ _
  · exact Effect.refl _ _ _

def State.sampleDs_touch : List Part := [.adc]
def State.sampleDs_fields : Option (List Field) := some []
theorem State.sampleDs_effect (s : State) :
    Effect State.sampleDs_touch State.sampleDs_fields s (@State.sampleDs s) := by
  unfold State.sampleDs
  refine Effect.each ?_ ?_
  · exact Effect.refl _ _ _
  · intro u1 a2
    try beta_reduce
    split
    · refine Effect.after (State.putSlot_effect ..) (by decide +kernel) ?_
      exact Effect.refl _ _ _
    · refine Effect.after (State.putSlot_effect ..) (by decide +kernel) ?_
      exact Effect.refl _ _ _

def State.syncAcquire_touch : List Part := [.lanes]
def State.syncAcquire_fields : Option (List Field) := some [Reg.LANE_STATUS.STATE, Reg.LANE_STATUS.SYNC, Reg.LANE_EVENT.SYNC]
theorem State.syncAcquire_effect (s : State) (p1 : Nat) :
    Effect State.syncAcquire_touch State.syncAcquire_fields s (@State.syncAcquire s p1) := by
  unfold State.syncAcquire
  extract_lets x1 x2
  have h3 : Effect State.syncAcquire_touch State.syncAcquire_fields s x1 := by
    refine Effect.after (State.wr_effect ..) (by decide +kernel) ?_
    refine Effect.after (State.wr_effect ..) (by decide +kernel) ?_
    exact Effect.refl _ _ _
  try clear_value x1
  have h4 : Effect State.syncAcquire_touch State.syncAcquire_fields s x2 := by
    refine Effect.after (State.modLane_effect ..) (by decide +kernel) ?_
    exact h3
  try clear_value x2
  refine Effect.ite ?_ ?_
  · exact Effect.refl _ _ _
  · refine Effect.ite ?_ ?_
    · refine Effect.after (State.showLane_effect ..) (by decide +kernel) ?_
      exact h4
    · refine Effect.after (State.measure_effect ..) (by decide +kernel) ?_
      exact h4

def State.reapply_touch : List Part := []
def State.reapply_fields : Option (List Field) := some [Reg.ENG_BANK.ACTIVE, Reg.ENG_PARAM.VALUE]
theorem State.reapply_effect (s : State) (p1 : Ckpt) :
    Effect State.reapply_touch State.reapply_fields s (@State.reapply s p1) := by
  unfold State.reapply
  extract_lets x1 x2
  try clear_value x1 x2
  refine Effect.each ?_ ?_
  · exact Effect.refl _ _ _
  · intro u3 a4
    try beta_reduce
    refine Effect.ite ?_ ?_
    · refine Effect.after (State.setBank_effect ..) (by decide +kernel) ?_
      exact Effect.refl _ _ _
    · refine Effect.ite ?_ ?_
      · refine Effect.after (State.setParam_effect ..) (by decide +kernel) ?_
        exact Effect.refl _ _ _
      · exact Effect.refl _ _ _

def State.ethRestart_touch : List Part := [.wrHold, .eths]
def State.ethRestart_fields : Option (List Field) := some [Reg.ETH_TXR_BASE_LO.ADDR, Reg.ETH_TXR_BASE_HI.ADDR, Reg.ETH_TXR_HEAD.INDEX, Reg.ETH_TXR_TAIL.INDEX, Reg.ETH_RXR_BASE_LO.ADDR, Reg.ETH_RXR_BASE_HI.ADDR, Reg.ETH_RXR_HEAD.INDEX, Reg.ETH_RXR_TAIL.INDEX]
theorem State.ethRestart_effect (s : State) (p1 : Nat) (p2 : Bool) (p3 : Nat) :
    Effect State.ethRestart_touch State.ethRestart_fields s (@State.ethRestart s p1 p2 p3) := by
  unfold State.ethRestart
  extract_lets x1 x2
  have h3 : Effect State.ethRestart_touch State.ethRestart_fields s x1 := by
    refine Effect.after (State.modEth_effect ..) (by decide +kernel) ?_
    refine Effect.after (State.wr_effect ..) (by decide +kernel) ?_
    refine Effect.after (State.takeLow_effect ..) (by decide +kernel) ?_
    exact Effect.refl _ _ _
  try clear_value x1
  have h4 : Effect State.ethRestart_touch State.ethRestart_fields s x2 := by
    refine Effect.after (State.modEth_effect ..) (by decide +kernel) ?_
    refine Effect.after (State.wr_effect ..) (by decide +kernel) ?_
    refine Effect.after (State.takeLow_effect ..) (by decide +kernel) ?_
    exact Effect.refl _ _ _
  try clear_value x2
  refine Effect.ite ?_ ?_
  · refine Effect.after (State.wr_effect ..) (by decide +kernel) ?_
    refine Effect.after (State.wr_effect ..) (by decide +kernel) ?_
    exact h3
  · refine Effect.after (State.wr_effect ..) (by decide +kernel) ?_
    refine Effect.after (State.wr_effect ..) (by decide +kernel) ?_
    exact h4

def State.softReset_touch : List Part := [.hold, .wrHold, .power, .faults, .host, .load, .cfg, .fr, .images, .lanes, .chains, .cells, .arms, .engs, .convs, .referee, .pair, .journal, .adc, .drives, .motors, .safety, .eths, .canQueues, .cans, .out]
def State.softReset_fields : Option (List Field) := none
theorem State.softReset_effect (s : State) (p1 : Nat) (p2 : Nat) :
    Effect State.softReset_touch State.softReset_fields s (@State.softReset s p1 p2) := by
  unfold State.softReset
  refine Effect.ite ?_ ?_
  · exact Effect.refl _ _ _
  · refine Effect.after (State.kickFrom2_effect ..) (by decide +kernel) ?_
    refine Effect.after (State.wr_effect ..) (by decide +kernel) ?_
    refine Effect.after (State.wr_effect ..) (by decide +kernel) ?_
    refine Effect.after (State.resetLatched_effect ..) (by decide +kernel) ?_
    refine Effect.after (State.devReset_effect ..) (by decide +kernel) ?_
    refine Effect.after (State.resetBegins_effect ..) (by decide +kernel) ?_
    exact Effect.refl _ _ _

def State.loadPlane_touch : List Part := [.engs]
def State.loadPlane_fields : Option (List Field) := some [Reg.ENG_BANK.ACTIVE, Reg.ENG_PARAM.VALUE, Reg.ENG_EXPORT.VALUE]
theorem State.loadPlane_effect (s : State) (p1 : Nat) (p2 : Ckpt) :
    Effect State.loadPlane_touch State.loadPlane_fields s (@State.loadPlane s p1 p2) := by
  unfold State.loadPlane
  extract_lets x1
  have h2 : Effect State.loadPlane_touch State.loadPlane_fields s x1 := by
    refine Effect.each ?_ ?_
    · exact Effect.refl _ _ _
    · intro u3 a4
      try beta_reduce
      extract_lets x5 x6
      have h7 : Effect State.loadPlane_touch State.loadPlane_fields u3 x6 := by
        refine Effect.after (State.modEng_effect ..) (by decide +kernel) ?_
        exact Effect.refl _ _ _
      try clear_value x6
      try clear_value x5
      refine Effect.each ?_ ?_
      · exact h7
      · intro u8 a9
        try beta_reduce
        refine Effect.after (State.setParam_effect ..) (by decide +kernel) ?_
        exact Effect.refl _ _ _
  try clear_value x1
  refine Effect.after (State.showExports_effect ..) (by decide +kernel) ?_
  refine Effect.after (State.reapply_effect ..) (by decide +kernel) ?_
  refine Effect.after (State.setBank_effect ..) (by decide +kernel) ?_
  exact h2

def State.ckptLoadDone_touch : List Part := [.power, .faults, .cells, .arms, .engs, .convs, .referee]
def State.ckptLoadDone_fields : Option (List Field) := some [Reg.DOMAIN_STATE.PLANE_A, Reg.DOMAIN_STATE.PLANE_B, Reg.CONV_STATE.STATE, Reg.CONV_STATE.CAUSE, Reg.CONV_STATE.SLEWING, Reg.CONV_STATE_FRAME.FRAME, Reg.CONV_RESIDUAL.E, Reg.CONV_COUNT.BLOCKS, Reg.CONV_EVENT.BLOCK, Reg.CONV_EVENT.RESYNC_FAIL, Reg.CONV_EVENT.COAST_LIMIT, Reg.CONV_EVENT_SRC.CONV, Reg.POWER_PGOOD.PGOOD, Reg.COLLECT_STATUS_LO.STATUS, Reg.COLLECT_STATUS_HI.STATUS, Reg.FAULT_COUNT_CORR.COUNT, Reg.FAULT_COUNT_CONT.COUNT, Reg.FAULT_COUNT_FATAL.COUNT, Reg.FAULT_EVENT.CORRECTED, Reg.FAULT_EVENT.CONTAINED, Reg.FAULT_EVENT.FATAL, Reg.FAULT_EVENT.HIST_LOST, Reg.FAULT_HIST_STATUS.LOST, Reg.REF_STATUS.STATE, Reg.REF_STATUS.ROLE_A, Reg.REF_STATUS.ROLE_B, Reg.REF_STATUS.LEASE, Reg.REF_HT_STATUS.OUTCOME, Reg.REF_CKPT.OLD_USED, Reg.REF_EVENT.UNFIT, Reg.REF_EVENT.CKPT_OLD, Reg.ENG_STATUS.BALL, Reg.ENG_STATUS.SHADOW, Reg.ENG_STATUS.COLD, Reg.ENG_BANK.ACTIVE, Reg.ENG_PARAM.VALUE, Reg.ENG_EXPORT.VALUE, Reg.ARM_PTR.PTR]
theorem State.ckptLoadDone_effect (s : State) (p1 : Nat) (p2 : Nat) (p3 : Bool) :
    Effect State.ckptLoadDone_touch State.ckptLoadDone_fields s (@State.ckptLoadDone s p1 p2 p3) := by
  unfold State.ckptLoadDone
  extract_lets x1
  have h2 : Effect State.ckptLoadDone_touch State.ckptLoadDone_fields s x1 := by
    refine Effect.after (State.judgeLate_effect ..) (by decide +kernel) ?_
    refine Effect.after (State.judgeLate_effect ..) (by decide +kernel) ?_
    refine Effect.after (State.judgeLate_effect ..) (by decide +kernel) ?_
    exact Effect.refl _ _ _
  try clear_value x1
  refine Effect.ite ?_ ?_
  · exact Effect.refl _ _ _
  · refine Effect.ite ?_ ?_
    · refine Effect.after (State.modRef_effect ..) (by decide +kernel) ?_
      exact Effect.refl _ _ _
    · refine Effect.ite ?_ ?_
      · split
        · refine Effect.after (State.wakeFails_effect ..) (by decide +kernel) ?_
          refine Effect.after (State.wr_effect ..) (by decide +kernel) ?_
          exact Effect.refl _ _ _
        · extract_lets x3 x4
          have h5 : Effect State.ckptLoadDone_touch State.ckptLoadDone_fields s x3 := by
            refine Effect.after (State.wr_effect ..) (by decide +kernel) ?_
            exact h2
          try clear_value x3
          have h6 : Effect State.ckptLoadDone_touch State.ckptLoadDone_fields s x4 := by
            refine Effect.ite ?_ ?_
            · refine Effect.after (State.raise_effect ..) (by decide +kernel) ?_
              refine Effect.after (State.wr_effect ..) (by decide +kernel) ?_
              exact h5
            · exact h5
          try clear_value x4
          refine Effect.after (State.modRef_effect ..) (by decide +kernel) ?_
          refine Effect.after (State.loadPlane_effect ..) (by decide +kernel) ?_
          exact h6
      · exact Effect.refl _ _ _

def State.filterSettle_touch : List Part := [.convs, .safety]
def State.filterSettle_fields : Option (List Field) := some [Reg.SAFE_STATUS.A_OK, Reg.SAFE_STATUS.B_OK, Reg.SAFE_STATUS.DIAG, Reg.SAFE_STATUS.DIAG_CAUSE, Reg.SAFE_STATUS.RESET_PIN, Reg.SAFE_STATUS.DEMAND, Reg.SAFE_STATUS.LOCKED, Reg.SAFE_STATUS.DIAG_A, Reg.SAFE_STATUS.DIAG_B, Reg.SAFE_GROUP.STATE, Reg.SAFE_GROUP.KIND, Reg.SAFE_GROUP.STOP, Reg.SAFE_GROUP.CAUSE, Reg.SAFE_GROUP.PAIRS, Reg.SAFE_PAIR.CH_A, Reg.SAFE_PAIR.CH_B, Reg.SAFE_PAIR.DEMAND, Reg.SAFE_PAIR.PAIR_FAULT, Reg.SAFE_PAIR.FAULT_CAUSE, Reg.SAFE_PAIR.DEMANDS, Reg.SAFE_TPO.EN, Reg.SAFE_TPO.READBACK_FAULT, Reg.SAFE_FIRE.FIRE_A, Reg.SAFE_FIRE.FIRE_B, Reg.SAFE_FIRE.DRV_A, Reg.SAFE_FIRE.DRV_B, Reg.SAFE_RESET_STATUS.ARMED, Reg.SAFE_RESET_STATUS.RELEASED, Reg.SAFE_RESET_STATUS.REFUSED, Reg.SAFE_EVENT.DEMAND, Reg.SAFE_EVENT.STOPPING, Reg.SAFE_EVENT.REMOVED, Reg.SAFE_EVENT.RESET_REFUSED]
theorem State.filterSettle_effect (s : State) (p1 : Bool) (p2 : Nat) :
    Effect State.filterSettle_touch State.filterSettle_fields s (@State.filterSettle s p1 p2) := by
  unfold State.filterSettle
  extract_lets x1
  try clear_value x1
  refine Effect.ite ?_ ?_
  · exact Effect.refl _ _ _
  · refine Effect.after (State.judgeUnit_effect ..) (by decide +kernel) ?_
    refine Effect.after (State.modChan_effect ..) (by decide +kernel) ?_
    exact Effect.refl _ _ _

def State.canFail_touch : List Part := [.faults, .canQueues, .cans]
def State.canFail_fields : Option (List Field) := some [Reg.COLLECT_STATUS_LO.STATUS, Reg.COLLECT_STATUS_HI.STATUS, Reg.FAULT_COUNT_CORR.COUNT, Reg.FAULT_COUNT_CONT.COUNT, Reg.FAULT_COUNT_FATAL.COUNT, Reg.FAULT_EVENT.CORRECTED, Reg.FAULT_EVENT.CONTAINED, Reg.FAULT_EVENT.FATAL, Reg.FAULT_EVENT.HIST_LOST, Reg.FAULT_HIST_STATUS.LOST, Reg.CAN_STATUS.STATE, Reg.CAN_STATUS.WARNING, Reg.CAN_STATUS.RECOVERING, Reg.CAN_ERRCNT.TEC, Reg.CAN_ERRCNT.BUSOFF, Reg.CAN_TXQ.FILL, Reg.CAN_EVENT.EVENTS]
theorem State.canFail_effect (s : State) (p1 : Nat) (p2 : Bool) (p3 : Nat) :
    Effect State.canFail_touch State.canFail_fields s (@State.canFail s p1 p2 p3) := by
  unfold State.canFail
  split
  · exact Effect.refl _ _ _
  · extract_lets x1 x2 x3
    have h4 : Effect State.canFail_touch State.canFail_fields s x1 := by
      refine Effect.when ?_ ?_
      · exact Effect.refl _ _ _
      · intro u5
        try beta_reduce
        refine Effect.after (State.setCanMsgs_effect ..) (by decide +kernel) ?_
        exact Effect.refl _ _ _
    try clear_value x1
    have h7 : Effect State.canFail_touch State.canFail_fields s x2 := by
      refine Effect.after (State.modCan_effect ..) (by decide +kernel) ?_
      exact h4
    try clear_value x2
    try clear_value x3
    refine Effect.ite ?_ ?_
    · refine Effect.after (State.canNext_effect ..) (by decide +kernel) ?_
      exact h4
    · refine Effect.ite ?_ ?_
      · refine Effect.after (State.canBusOff_effect ..) (by decide +kernel) ?_
        refine Effect.after (State.canNext_effect ..) (by decide +kernel) ?_
        exact h7
      · refine Effect.after (State.canNext_effect ..) (by decide +kernel) ?_
        refine Effect.after (State.canConfine_effect ..) (by decide +kernel) ?_
        refine Effect.after (State.wr_effect ..) (by decide +kernel) ?_
        exact h7

def State.pairPacket_touch : List Part := [.faults, .pair, .journal, .out]
def State.pairPacket_fields : Option (List Field) := some [Reg.COLLECT_STATUS_LO.STATUS, Reg.COLLECT_STATUS_HI.STATUS, Reg.FAULT_COUNT_CORR.COUNT, Reg.FAULT_COUNT_CONT.COUNT, Reg.FAULT_COUNT_FATAL.COUNT, Reg.FAULT_EVENT.CORRECTED, Reg.FAULT_EVENT.CONTAINED, Reg.FAULT_EVENT.FATAL, Reg.FAULT_EVENT.HIST_LOST, Reg.FAULT_HIST_STATUS.LOST, Reg.REF_PAIR.PARTNER_HOLDS, Reg.JRN_STATUS.FILL, Reg.JRN_STATUS.MRAM_OK, Reg.JRN_STATUS.PAIR_MIRROR, Reg.JRN_ACCEPTED.COUNT, Reg.JRN_EVENT.MRAM_FAIL, Reg.JRN_SRC_LAST.LAST, Reg.BB_STATUS.RX_IDLE]
theorem State.pairPacket_effect (s : State) (p1 : Nat) (p2 : Nat) (p3 : List Byte) (p4 : Bool) :
    Effect State.pairPacket_touch State.pairPacket_fields s (@State.pairPacket s p1 p2 p3 p4) := by
  unfold State.pairPacket
  extract_lets x1 x2 x3 x4 x5
  have h6 : Effect State.pairPacket_touch State.pairPacket_fields s x3 := by
    refine Effect.after (State.wr_effect ..) (by decide +kernel) ?_
    exact Effect.refl _ _ _
  try clear_value x3
  have h7 : Effect State.pairPacket_touch State.pairPacket_fields s x4 := by
    refine Effect.after (State.modPairSt_effect ..) (by decide +kernel) ?_
    exact h6
  try clear_value x4
  have h8 : Effect State.pairPacket_touch State.pairPacket_fields s x5 := by
    refine Effect.after (State.wr_effect ..) (by decide +kernel) ?_
    exact h7
  try clear_value x5
  try clear_value x1 x2
  refine Effect.ite ?_ ?_
  · exact Effect.refl _ _ _
  · refine Effect.each ?_ ?_
    · exact h8
    · intro u9 a10
      try beta_reduce
      refine Effect.after (State.pairJournal_effect ..) (by decide +kernel) ?_
      exact Effect.refl _ _ _

def State.imageAbort_touch : List Part := [.power, .host, .load, .fr]
def State.imageAbort_fields : Option (List Field) := some [Reg.FRAME_STATUS.RUNNING, Reg.IMAGE_STATUS.STATE, Reg.IMAGE_STATUS.SOURCE, Reg.IMAGE_STATUS.CODE, Reg.IMAGE_ERR_SECTION.INDEX, Reg.IMAGE_ERR_SECTION.TYPE, Reg.IMAGE_ERR_OFFSET.OFFSET, Reg.IMAGE_PRIMARY_CODE.CODE, Reg.IMAGE_EVENT.DONE]
theorem State.imageAbort_effect (s : State) :
    Effect State.imageAbort_touch State.imageAbort_fields s (@State.imageAbort s) := by
  unfold State.imageAbort
  refine Effect.ite ?_ ?_
  · refine Effect.after (State.refuse_effect ..) (by decide +kernel) ?_
    exact Effect.refl _ _ _
  · exact Effect.refl _ _ _

def State.settle_touch : List Part := [.host, .out]
def State.settle_fields : Option (List Field) := some [Reg.HOST_IRQ_PENDING.SOURCE]
theorem State.settle_effect (s : State) :
    Effect State.settle_touch State.settle_fields s (@State.settle s) := by
  unfold State.settle
  extract_lets x1 x2 x3 x4 x5 x6
  have h7 : Effect State.settle_touch State.settle_fields s x3 := by
    refine Effect.each ?_ ?_
    · exact Effect.refl _ _ _
    · intro u8 a9
      try beta_reduce
      refine Effect.ite ?_ ?_
      · refine Effect.after (State.sendSource_effect ..) (by decide +kernel) ?_
        exact Effect.refl _ _ _
      · exact Effect.refl _ _ _
  try clear_value x3
  have h10 : Effect State.settle_touch State.settle_fields s x4 := by
    refine Effect.after (State.wr_effect ..) (by decide +kernel) ?_
    exact h7
  try clear_value x4
  try clear_value x1 x2 x5 x6
  refine Effect.after (Effect.host _ _) (by decide +kernel) ?_
  exact h10

def State.pwmEdge_touch : List Part := [.drives]
def State.pwmEdge_fields : Option (List Field) := some [Reg.DRV_STATUS.LEG_FAULT, Reg.DRV_LEG_STATUS.DESAT_HS, Reg.DRV_LEG_STATUS.DESAT_LS, Reg.DRV_LEG_STATUS.INSTANT, Reg.DRV_LEG_STATUS.VB_UV, Reg.DRV_LEG_STATUS.GATES_OFF]
theorem State.pwmEdge_effect (s : State) (p1 : Nat) (p2 : Nat) (p3 : Bool) :
    Effect State.pwmEdge_touch State.pwmEdge_fields s (@State.pwmEdge s p1 p2 p3) := by
  unfold State.pwmEdge
  extract_lets x1
  try clear_value x1
  refine Effect.ite ?_ ?_
  · exact Effect.refl _ _ _
  · refine Effect.after (State.legCommand_effect ..) (by decide +kernel) ?_
    exact Effect.refl _ _ _

def State.chopBoundary_touch : List Part := [.drives]
def State.chopBoundary_fields : Option (List Field) := some [Reg.DRV_STATUS.LOAD_PENDING, Reg.DRV_STATUS.LEG_FAULT, Reg.DRV_CARRIER_ACT.TOP, Reg.DRV_LEG_STATUS.CMP_ACT, Reg.DRV_LEG_STATUS.DESAT_HS, Reg.DRV_LEG_STATUS.DESAT_LS, Reg.DRV_LEG_STATUS.INSTANT, Reg.DRV_LEG_STATUS.VB_UV, Reg.DRV_LEG_STATUS.GATES_OFF, Reg.DRV_LEG_STATUS.MODE_ACT, Reg.DRV_LEG_COUNT.SUPPRESSED, Reg.DRV_LEG_COUNT.FULL_ON, Reg.DRV_EVENT.LOAD_DONE, Reg.DRV_LOADALL.UNITS, Reg.DRV_LOAD_STATUS.DONE]
theorem State.chopBoundary_effect (s : State) (p1 : Nat) :
    Effect State.chopBoundary_touch State.chopBoundary_fields s (@State.chopBoundary s p1) := by
  unfold State.chopBoundary
  refine Effect.ite ?_ ?_
  · exact Effect.refl _ _ _
  · split
    · refine Effect.after (State.chopStart_effect ..) (by decide +kernel) ?_
      exact Effect.refl _ _ _
    · exact Effect.refl _ _ _

def State.catchSlow_touch : List Part := [.faults, .drives, .motors]
def State.catchSlow_fields : Option (List Field) := some [Reg.COLLECT_STATUS_LO.STATUS, Reg.COLLECT_STATUS_HI.STATUS, Reg.FAULT_COUNT_CORR.COUNT, Reg.FAULT_COUNT_CONT.COUNT, Reg.FAULT_COUNT_FATAL.COUNT, Reg.FAULT_EVENT.CORRECTED, Reg.FAULT_EVENT.CONTAINED, Reg.FAULT_EVENT.FATAL, Reg.FAULT_EVENT.HIST_LOST, Reg.FAULT_HIST_STATUS.LOST, Reg.DRV_STATUS.LEG_FAULT, Reg.DRV_CARRIER_ACT.TOP, Reg.DRV_LEG_STATUS.CMP_ACT, Reg.DRV_LEG_STATUS.DESAT_HS, Reg.DRV_LEG_STATUS.DESAT_LS, Reg.DRV_LEG_STATUS.INSTANT, Reg.DRV_LEG_STATUS.VB_UV, Reg.DRV_LEG_STATUS.GATES_OFF, Reg.DRV_LEG_STATUS.MODE_ACT, Reg.MOT_STATE.STATE, Reg.MOT_EVENT.STATE, Reg.MOT_EVENT.OBS_LOST]
theorem State.catchSlow_effect (s : State) (p1 : Nat) :
    Effect State.catchSlow_touch State.catchSlow_fields s (@State.catchSlow s p1) := by
  unfold State.catchSlow
  split
  · refine Effect.ite ?_ ?_
    · refine Effect.after (State.motGates_effect ..) (by decide +kernel) ?_
      refine Effect.after (State.motTo_effect ..) (by decide +kernel) ?_
      refine Effect.after (State.modMot_effect ..) (by decide +kernel) ?_
      exact Effect.refl _ _ _
    · exact Effect.refl _ _ _
  · exact Effect.refl _ _ _

def State.graphComplete_touch : List Part := [.fr, .arms, .engs, .convs]
def State.graphComplete_fields : Option (List Field) := some [Reg.REF_OFFSIDE.WRITES, Reg.REF_OFFSIDE.LAST_PLANE, Reg.TRK_STATUS.CTRL_HIWATER, Reg.ENG_STATUS.DONE, Reg.ENG_STATUS.STOPPED, Reg.ENG_STATUS.QUIET, Reg.ENG_CYCLES.LAST, Reg.ENG_CYCLES.MAX, Reg.ENG_EXPORT.VALUE, Reg.ARM_REF_FRAME.FRAME]
theorem State.graphComplete_effect (s : State) (p1 : Nat) (p2 : Nat) :
    Effect State.graphComplete_touch State.graphComplete_fields s (@State.graphComplete s p1 p2) := by
  unfold State.graphComplete
  extract_lets x1 x2
  try clear_value x1 x2
  split
  · exact Effect.refl _ _ _
  · extract_lets x3 x4 x5 x6 x7
    have h8 : Effect State.graphComplete_touch State.graphComplete_fields s x4 := by
      refine Effect.after (State.ctrlDone_effect ..) (by decide +kernel) ?_
      refine Effect.after (State.showRun_effect ..) (by decide +kernel) ?_
      refine Effect.after (State.modEng_effect ..) (by decide +kernel) ?_
      exact Effect.refl _ _ _
    try clear_value x4
    have h9 : Effect State.graphComplete_touch State.graphComplete_fields s x6 := by
      refine Effect.after (Effect.fr _ _) (by decide +kernel) ?_
      exact h8
    try clear_value x6
    have h10 : Effect State.graphComplete_touch State.graphComplete_fields s x7 := by
      refine Effect.each ?_ ?_
      · exact h9
      · intro u11 a12
        try beta_reduce
        refine Effect.after (State.writeSink_effect ..) (by decide +kernel) ?_
        exact Effect.refl _ _ _
    try clear_value x7
    try clear_value x3 x5
    refine Effect.ite ?_ ?_
    · exact Effect.refl _ _ _
    · refine Effect.ite ?_ ?_
      · refine Effect.ite ?_ ?_
        · refine Effect.each ?_ ?_
          · exact h10
          · intro u13 a14
            try beta_reduce
            refine Effect.after (State.wr_effect ..) (by decide +kernel) ?_
            exact Effect.refl _ _ _
        · exact h8
      · refine Effect.ite ?_ ?_
        · refine Effect.after (State.offside_effect ..) (by decide +kernel) ?_
          exact Effect.refl _ _ _
        · exact Effect.refl _ _ _

def State.ethLink_touch : List Part := []
def State.ethLink_fields : Option (List Field) := some [Reg.ETH_STATUS.LINK, Reg.ETH_STATUS.SPEED, Reg.ETH_STATUS.AN_DONE, Reg.ETH_EVENT.EVENTS]
theorem State.ethLink_effect (s : State) (p1 : Nat) (p2 : Bool) (p3 : Nat) (p4 : Bool) :
    Effect State.ethLink_touch State.ethLink_fields s (@State.ethLink s p1 p2 p3 p4) := by
  unfold State.ethLink
  extract_lets x1 x2 x3
  have h4 : Effect State.ethLink_touch State.ethLink_fields s x2 := by
    refine Effect.after (State.wr_effect ..) (by decide +kernel) ?_
    refine Effect.after (State.wr_effect ..) (by decide +kernel) ?_
    exact Effect.refl _ _ _
  try clear_value x2
  have h5 : Effect State.ethLink_touch State.ethLink_fields s x3 := by
    refine Effect.after (State.wr_effect ..) (by decide +kernel) ?_
    exact h4
  try clear_value x3
  try clear_value x1
  refine Effect.ite ?_ ?_
  · exact Effect.refl _ _ _
  · refine Effect.after (State.evBit_effect ..) (by decide +kernel) ?_
    exact h5

def State.showFlash_touch : List Part := []
def State.showFlash_fields : Option (List Field) := some [Reg.IMAGE_BOOT.SFDP_OK, Reg.IMAGE_BOOT.SECONDARY, Reg.IMAGE_BOOT.DENSITY_MB]
theorem State.showFlash_effect (s : State) (p1 : Bool) (p2 : Nat) :
    Effect State.showFlash_touch State.showFlash_fields s (@State.showFlash s p1 p2) := by
  unfold State.showFlash
  extract_lets x1
  have h2 : Effect State.showFlash_touch State.showFlash_fields s x1 := by
    refine Effect.after (State.wr_effect ..) (by decide +kernel) ?_
    refine Effect.after (State.wr_effect ..) (by decide +kernel) ?_
    exact Effect.refl _ _ _
  try clear_value x1
  refine Effect.after (State.wr_effect ..) (by decide +kernel) ?_
  exact h2

def State.fetchDone_touch : List Part := [.power, .host, .load, .fr]
def State.fetchDone_fields : Option (List Field) := some [Reg.FRAME_STATUS.RUNNING, Reg.IMAGE_STATUS.STATE, Reg.IMAGE_STATUS.SOURCE, Reg.IMAGE_STATUS.CODE, Reg.IMAGE_ERR_SECTION.INDEX, Reg.IMAGE_ERR_SECTION.TYPE, Reg.IMAGE_ERR_OFFSET.OFFSET, Reg.IMAGE_PRIMARY_CODE.CODE, Reg.IMAGE_BOOT.SFDP_OK, Reg.IMAGE_BOOT.SECONDARY, Reg.IMAGE_BOOT.DENSITY_MB, Reg.IMAGE_EVENT.DONE]
theorem State.fetchDone_effect (s : State) (p1 : Bool) (p2 : Nat) (p3 : List Byte) :
    Effect State.fetchDone_touch State.fetchDone_fields s (@State.fetchDone s p1 p2 p3) := by
  unfold State.fetchDone
  extract_lets x1
  have h2 : Effect State.fetchDone_touch State.fetchDone_fields s x1 := by
    refine Effect.after (State.showFlash_effect ..) (by decide +kernel) ?_
    exact Effect.refl _ _ _
  try clear_value x1
  refine Effect.ite ?_ ?_
  · exact Effect.refl _ _ _
  · split
    · refine Effect.after (State.fetched_effect ..) (by decide +kernel) ?_
      exact Effect.refl _ _ _
    · refine Effect.ite ?_ ?_
      · refine Effect.after (State.fetched_effect ..) (by decide +kernel) ?_
        exact Effect.refl _ _ _
      · exact Effect.refl _ _ _
    · refine Effect.ite ?_ ?_
      · refine Effect.after (State.refuse_effect ..) (by decide +kernel) ?_
        exact h2
      · refine Effect.ite ?_ ?_
        · refine Effect.after (State.refuse_effect ..) (by decide +kernel) ?_
          exact h2
        · refine Effect.after (State.fetched_effect ..) (by decide +kernel) ?_
          exact h2

def State.cplHeadWrite_touch : List Part := [.host]
def State.cplHeadWrite_fields : Option (List Field) := some [Reg.JRN_CPL_HEAD.INDEX, Reg.JRN_RING_STATUS.WAIT_CPL]
theorem State.cplHeadWrite_effect (s : State) (p1 : Nat) :
    Effect State.cplHeadWrite_touch State.cplHeadWrite_fields s (@State.cplHeadWrite s p1) := by
  unfold State.cplHeadWrite
  extract_lets x1 x2
  have h3 : Effect State.cplHeadWrite_touch State.cplHeadWrite_fields s x1 := by
    refine Effect.after (State.wr_effect ..) (by decide +kernel) ?_
    exact Effect.refl _ _ _
  try clear_value x1
  try clear_value x2
  refine Effect.after (State.showWait_effect ..) (by decide +kernel) ?_
  refine Effect.after (Effect.host _ _) (by decide +kernel) ?_
  exact h3

def State.catchTimeout_touch : List Part := [.faults, .drives, .motors]
def State.catchTimeout_fields : Option (List Field) := some [Reg.COLLECT_STATUS_LO.STATUS, Reg.COLLECT_STATUS_HI.STATUS, Reg.FAULT_COUNT_CORR.COUNT, Reg.FAULT_COUNT_CONT.COUNT, Reg.FAULT_COUNT_FATAL.COUNT, Reg.FAULT_EVENT.CORRECTED, Reg.FAULT_EVENT.CONTAINED, Reg.FAULT_EVENT.FATAL, Reg.FAULT_EVENT.HIST_LOST, Reg.FAULT_HIST_STATUS.LOST, Reg.DRV_STATUS.LEG_FAULT, Reg.DRV_CARRIER_ACT.TOP, Reg.DRV_LEG_STATUS.CMP_ACT, Reg.DRV_LEG_STATUS.DESAT_HS, Reg.DRV_LEG_STATUS.DESAT_LS, Reg.DRV_LEG_STATUS.INSTANT, Reg.DRV_LEG_STATUS.VB_UV, Reg.DRV_LEG_STATUS.GATES_OFF, Reg.DRV_LEG_STATUS.MODE_ACT, Reg.MOT_STATE.STATE, Reg.MOT_COUNT.CATCH_FAIL, Reg.MOT_EVENT.STATE, Reg.MOT_EVENT.OBS_LOST, Reg.MOT_EVENT.CATCH_FAIL]
theorem State.catchTimeout_effect (s : State) (p1 : Nat) :
    Effect State.catchTimeout_touch State.catchTimeout_fields s (@State.catchTimeout s p1) := by
  unfold State.catchTimeout
  refine Effect.ite ?_ ?_
  · refine Effect.after (State.motGates_effect ..) (by decide +kernel) ?_
    refine Effect.after (State.motTo_effect ..) (by decide +kernel) ?_
    refine Effect.after (State.wr_effect ..) (by decide +kernel) ?_
    refine Effect.after (State.bump_effect ..) (by decide +kernel) ?_
    exact Effect.refl _ _ _
  · exact Effect.refl _ _ _

def State.showBad_touch : List Part := []
def State.showBad_fields : Option (List Field) := some [Reg.THERMAL_BAD.SENSOR, Reg.THERMAL_EVENT.EVENTS]
theorem State.showBad_effect (s : State) :
    Effect State.showBad_touch State.showBad_fields s (@State.showBad s) := by
  unfold State.showBad
  extract_lets x1 x2 x3
  have h4 : Effect State.showBad_touch State.showBad_fields s x3 := by
    refine Effect.after (State.wr_effect ..) (by decide +kernel) ?_
    exact Effect.refl _ _ _
  try clear_value x3
  try clear_value x1 x2
  refine Effect.when ?_ ?_
  · exact h4
  · intro u5
    try beta_reduce
    refine Effect.after (State.evBit_effect ..) (by decide +kernel) ?_
    exact Effect.refl _ _ _

def State.hkDone_touch : List Part := [.hold, .wrHold, .power, .faults, .host, .load, .cfg, .fr, .images, .lanes, .chains, .cells, .arms, .engs, .convs, .referee, .pair, .journal, .adc, .drives, .motors, .safety, .eths, .canQueues, .cans, .out]
def State.hkDone_fields : Option (List Field) := none
theorem State.hkDone_effect (s : State) (p1 : List (Nat × Bool × Bool)) :
    Effect State.hkDone_touch State.hkDone_fields s (@State.hkDone s p1) := by
  unfold State.hkDone
  extract_lets x1
  have h2 : Effect State.hkDone_touch State.hkDone_fields s x1 := by
    refine Effect.after (State.bandRound_effect ..) (by decide +kernel) ?_
    refine Effect.after (State.showBad_effect ..) (by decide +kernel) ?_
    refine Effect.after (State.hkReadings_effect ..) (by decide +kernel) ?_
    exact Effect.refl _ _ _
  try clear_value x1
  refine Effect.ite ?_ ?_
  · exact Effect.refl _ _ _
  · refine Effect.after (State.logicHeat_effect ..) (by decide +kernel) ?_
    refine Effect.each ?_ ?_
    · exact h2
    · intro u3 a4
      try beta_reduce
      refine Effect.after (State.driveHeat_effect ..) (by decide +kernel) ?_
      exact Effect.refl _ _ _

def State.ethOff_touch : List Part := []
def State.ethOff_fields : Option (List Field) := some [Reg.ETH_STATUS.LINK, Reg.ETH_STATUS.SPEED, Reg.ETH_STATUS.AN_DONE, Reg.ETH_EVENT.EVENTS]
theorem State.ethOff_effect (s : State) (p1 : Nat) :
    Effect State.ethOff_touch State.ethOff_fields s (@State.ethOff s p1) := by
  unfold State.ethOff
  refine Effect.ite ?_ ?_
  · exact Effect.refl _ _ _
  · refine Effect.after (State.evBit_effect ..) (by decide +kernel) ?_
    refine Effect.after (State.wr_effect ..) (by decide +kernel) ?_
    refine Effect.after (State.wr_effect ..) (by decide +kernel) ?_
    refine Effect.after (State.wr_effect ..) (by decide +kernel) ?_
    exact Effect.refl _ _ _

def State.clearOverrun_touch : List Part := []
def State.clearOverrun_fields : Option (List Field) := some [Reg.OVERRUN_COUNT.COMPUTE, Reg.OVERRUN_COUNT.RANK, Reg.OVERRUN_LAST.FRAME]
theorem State.clearOverrun_effect (s : State) :
    Effect State.clearOverrun_touch State.clearOverrun_fields s (@State.clearOverrun s) := by
  unfold State.clearOverrun
  refine Effect.after (State.wr_effect ..) (by decide +kernel) ?_
  refine Effect.after (State.wr_effect ..) (by decide +kernel) ?_
  refine Effect.after (State.wr_effect ..) (by decide +kernel) ?_
  exact Effect.refl _ _ _

def State.entryTimeout_touch : List Part := [.power, .faults]
def State.entryTimeout_fields : Option (List Field) := some [Reg.POWER_CTRL.DORMANT, Reg.POWER_ENTRY_STATUS.RESULT, Reg.POWER_ENTRY_STATUS.DOMAIN, Reg.POWER_ENTRY_STATUS.REFUSER, Reg.POWER_EVENT.EVENTS, Reg.COLLECT_STATUS_LO.STATUS, Reg.COLLECT_STATUS_HI.STATUS, Reg.FAULT_COUNT_CORR.COUNT, Reg.FAULT_COUNT_CONT.COUNT, Reg.FAULT_COUNT_FATAL.COUNT, Reg.FAULT_EVENT.CORRECTED, Reg.FAULT_EVENT.CONTAINED, Reg.FAULT_EVENT.FATAL, Reg.FAULT_EVENT.HIST_LOST, Reg.FAULT_HIST_STATUS.LOST]
theorem State.entryTimeout_effect (s : State) (p1 : Nat) :
    Effect State.entryTimeout_touch State.entryTimeout_fields s (@State.entryTimeout s p1) := by
  unfold State.entryTimeout
  split
  · exact Effect.refl _ _ _
  · split
    · exact Effect.refl _ _ _
    · extract_lets x1
      have h2 : Effect State.entryTimeout_touch State.entryTimeout_fields s x1 := by
        refine Effect.after (State.wr_effect ..) (by decide +kernel) ?_
        refine Effect.after (State.wr_effect ..) (by decide +kernel) ?_
        refine Effect.after (State.entryEnds_effect ..) (by decide +kernel) ?_
        exact Effect.refl _ _ _
      try clear_value x1
      refine Effect.ite ?_ ?_
      · exact Effect.refl _ _ _
      · refine Effect.after (State.raise_effect ..) (by decide +kernel) ?_
        refine Effect.after (State.evBit_effect ..) (by decide +kernel) ?_
        exact h2

def State.trimWrite_touch : List Part := [.power]
def State.trimWrite_fields : Option (List Field) := some [Reg.CLOCK_PLL_TRIM.TRIM, Reg.CLOCK_PLL_STATUS.STAGED]
theorem State.trimWrite_effect (s : State) (p1 : Nat) (p2 : Nat) :
    Effect State.trimWrite_touch State.trimWrite_fields s (@State.trimWrite s p1 p2) := by
  unfold State.trimWrite
  extract_lets x1 x2
  have h3 : Effect State.trimWrite_touch State.trimWrite_fields s x1 := by
    refine Effect.after (State.wr_effect ..) (by decide +kernel) ?_
    exact Effect.refl _ _ _
  try clear_value x1
  try clear_value x2
  refine Effect.after (State.showStaged_effect ..) (by decide +kernel) ?_
  refine Effect.when ?_ ?_
  · exact h3
  · intro u4
    try beta_reduce
    refine Effect.after (State.modPower_effect ..) (by decide +kernel) ?_
    exact Effect.refl _ _ _

def State.canComplete_touch : List Part := [.faults, .canQueues, .cans, .out]
def State.canComplete_fields : Option (List Field) := some [Reg.COLLECT_STATUS_LO.STATUS, Reg.COLLECT_STATUS_HI.STATUS, Reg.FAULT_COUNT_CORR.COUNT, Reg.FAULT_COUNT_CONT.COUNT, Reg.FAULT_COUNT_FATAL.COUNT, Reg.FAULT_EVENT.CORRECTED, Reg.FAULT_EVENT.CONTAINED, Reg.FAULT_EVENT.FATAL, Reg.FAULT_EVENT.HIST_LOST, Reg.FAULT_HIST_STATUS.LOST, Reg.CAN_STATUS.STATE, Reg.CAN_STATUS.WARNING, Reg.CAN_ERRCNT.TEC, Reg.CAN_TXQ.FILL, Reg.CAN_TXQ.LATE, Reg.CAN_TXE_STATUS.COUNT, Reg.CAN_TXE_STATUS.OVF, Reg.CAN_RX_STATUS.OWNED, Reg.CAN_RX_STATUS.OVF, Reg.CAN_RX_STATUS.DROPPED, Reg.CAN_EVENT.EVENTS, Reg.CAN_RX_ID.ID, Reg.CAN_RX_ID.RTR, Reg.CAN_RX_ID.IDE, Reg.CAN_RX_ID.VALID, Reg.CAN_RX_INFO.DLC, Reg.CAN_RX_INFO.FDF, Reg.CAN_RX_INFO.BRS, Reg.CAN_RX_INFO.ESI, Reg.CAN_RX_INFO.LOOP, Reg.CAN_RX_INFO.FILTER, Reg.CAN_RX_INFO.UNFILTERED, Reg.CAN_RX_NS_LO.NS, Reg.CAN_RX_NS_HI.NS, Reg.CAN_RX_FRAME.FRAME, Reg.CAN_RX_DATA0.DATA, Reg.CAN_RX_DATA1.DATA, Reg.CAN_RX_DATA2.DATA, Reg.CAN_RX_DATA3.DATA, Reg.CAN_RX_DATA4.DATA, Reg.CAN_RX_DATA5.DATA, Reg.CAN_RX_DATA6.DATA, Reg.CAN_RX_DATA7.DATA, Reg.CAN_RX_DATA8.DATA, Reg.CAN_RX_DATA9.DATA, Reg.CAN_RX_DATA10.DATA, Reg.CAN_RX_DATA11.DATA, Reg.CAN_RX_DATA12.DATA, Reg.CAN_RX_DATA13.DATA, Reg.CAN_RX_DATA14.DATA, Reg.CAN_RX_DATA15.DATA]
theorem State.canComplete_effect (s : State) (p1 : Nat) (p2 : Nat) (p3 : Nat) :
    Effect State.canComplete_touch State.canComplete_fields s (@State.canComplete s p1 p2 p3) := by
  unfold State.canComplete
  extract_lets x1
  try clear_value x1
  split
  · exact Effect.refl _ _ _
  · extract_lets x2 x3 x4 x5 x6 x7 x8 x9 x10 x11 x12
    have h13 : Effect State.canComplete_touch State.canComplete_fields s x2 := by
      refine Effect.after (State.setCanMsgs_effect ..) (by decide +kernel) ?_
      exact Effect.refl _ _ _
    try clear_value x2
    have h14 : Effect State.canComplete_touch State.canComplete_fields s x3 := by
      refine Effect.when ?_ ?_
      · exact h13
      · intro u15
        try beta_reduce
        refine Effect.after (State.raise_effect ..) (by decide +kernel) ?_
        exact Effect.refl _ _ _
    try clear_value x3
    have h17 : Effect State.canComplete_touch State.canComplete_fields s x4 := by
      refine Effect.after (State.modCan_effect ..) (by decide +kernel) ?_
      exact h14
    try clear_value x4
    have h18 : Effect State.canComplete_touch State.canComplete_fields s x5 := by
      refine Effect.after (State.canRecord_effect ..) (by decide +kernel) ?_
      exact h17
    try clear_value x5
    have h19 : Effect State.canComplete_touch State.canComplete_fields s x8 := by
      refine Effect.after (State.canConfine_effect ..) (by decide +kernel) ?_
      refine Effect.after (State.wr_effect ..) (by decide +kernel) ?_
      exact h18
    try clear_value x8
    have h20 : Effect State.canComplete_touch State.canComplete_fields s x11 := by
      refine Effect.when ?_ ?_
      · exact h19
      · intro u21
        try beta_reduce
        refine Effect.after (State.canReceive_effect ..) (by decide +kernel) ?_
        exact Effect.refl _ _ _
    try clear_value x11
    have h23 : Effect State.canComplete_touch State.canComplete_fields s x12 := by
      refine Effect.ite ?_ ?_
      · exact h20
      · refine Effect.after (State.emit_effect ..) (by decide +kernel) ?_
        exact h20
    try clear_value x12
    try clear_value x6 x7 x9 x10
    refine Effect.after (State.canNext_effect ..) (by decide +kernel) ?_
    exact h23

def State.clearStale_touch : List Part := []
def State.clearStale_fields : Option (List Field) := some [Reg.STALE_COUNT.STALE, Reg.STALE_COUNT.LATE, Reg.DUP_COUNT.DUP, Reg.DUP_COUNT.OLD]
theorem State.clearStale_effect (s : State) :
    Effect State.clearStale_touch State.clearStale_fields s (@State.clearStale s) := by
  unfold State.clearStale
  refine Effect.after (State.wr_effect ..) (by decide +kernel) ?_
  refine Effect.after (State.wr_effect ..) (by decide +kernel) ?_
  refine Effect.after (State.wr_effect ..) (by decide +kernel) ?_
  refine Effect.after (State.wr_effect ..) (by decide +kernel) ?_
  exact Effect.refl _ _ _

def State.frameClearWrite_touch : List Part := []
def State.frameClearWrite_fields : Option (List Field) := some [Reg.OVERRUN_COUNT.COMPUTE, Reg.OVERRUN_COUNT.RANK, Reg.OVERRUN_LAST.FRAME, Reg.STALE_COUNT.STALE, Reg.STALE_COUNT.LATE, Reg.DUP_COUNT.DUP, Reg.DUP_COUNT.OLD, Reg.TRK_STATUS.CTRL_HIWATER, Reg.TRK_BP_COUNT.FRAMES, Reg.TRK_TIMEOUT_COUNT.TIMEOUTS, Reg.PLAN_BG_STATUS.GAPS]
theorem State.frameClearWrite_effect (s : State) (p1 : Nat) :
    Effect State.frameClearWrite_touch State.frameClearWrite_fields s (@State.frameClearWrite s p1) := by
  unfold State.frameClearWrite
  extract_lets x1
  have h2 : Effect State.frameClearWrite_touch State.frameClearWrite_fields s x1 := by
    refine Effect.when ?_ ?_
    · refine Effect.when ?_ ?_
      · exact Effect.refl _ _ _
      · intro u3
        try beta_reduce
        refine Effect.after (State.clearOverrun_effect ..) (by decide +kernel) ?_
        exact Effect.refl _ _ _
    · intro u5
      try beta_reduce
      refine Effect.after (State.clearStale_effect ..) (by decide +kernel) ?_
      exact Effect.refl _ _ _
  try clear_value x1
  refine Effect.when ?_ ?_
  · refine Effect.when ?_ ?_
    · exact h2
    · intro u7
      try beta_reduce
      refine Effect.after (State.clearTracker_effect ..) (by decide +kernel) ?_
      exact Effect.refl _ _ _
  · intro u9
    try beta_reduce
    refine Effect.after (State.wr_effect ..) (by decide +kernel) ?_
    exact Effect.refl _ _ _

def State.imageCtrlWrite_touch : List Part := [.power, .host, .load, .fr]
def State.imageCtrlWrite_fields : Option (List Field) := some [Reg.FRAME_STATUS.RUNNING, Reg.IMAGE_CTRL.SRC, Reg.IMAGE_STATUS.STATE, Reg.IMAGE_STATUS.SOURCE, Reg.IMAGE_STATUS.CODE, Reg.IMAGE_ERR_SECTION.INDEX, Reg.IMAGE_ERR_SECTION.TYPE, Reg.IMAGE_ERR_OFFSET.OFFSET, Reg.IMAGE_PRIMARY_CODE.CODE, Reg.IMAGE_EVENT.DONE, Reg.KEY_STATUS.BUSY, Reg.KEY_STATUS.RESULT]
theorem State.imageCtrlWrite_effect (s : State) (p1 : Nat) :
    Effect State.imageCtrlWrite_touch State.imageCtrlWrite_fields s (@State.imageCtrlWrite s p1) := by
  unfold State.imageCtrlWrite
  extract_lets x1 x2
  have h3 : Effect State.imageCtrlWrite_touch State.imageCtrlWrite_fields s x2 := by
    refine Effect.when ?_ ?_
    · refine Effect.after (State.wr_effect ..) (by decide +kernel) ?_
      exact Effect.refl _ _ _
    · intro u4
      try beta_reduce
      refine Effect.after (State.imageLoad_effect ..) (by decide +kernel) ?_
      exact Effect.refl _ _ _
  try clear_value x2
  try clear_value x1
  refine Effect.when ?_ ?_
  · refine Effect.when ?_ ?_
    · exact h3
    · intro u6
      try beta_reduce
      refine Effect.after (State.imageAbort_effect ..) (by decide +kernel) ?_
      exact Effect.refl _ _ _
  · intro u8
    try beta_reduce
    refine Effect.after (State.epochBurn_effect ..) (by decide +kernel) ?_
    exact Effect.refl _ _ _

def State.canRecover_touch : List Part := []
def State.canRecover_fields : Option (List Field) := some [Reg.CAN_STATUS.RECOVERING]
theorem State.canRecover_effect (s : State) (p1 : Nat) :
    Effect State.canRecover_touch State.canRecover_fields s (@State.canRecover s p1) := by
  unfold State.canRecover
  refine Effect.ite ?_ ?_
  · refine Effect.after (State.wr_effect ..) (by decide +kernel) ?_
    exact Effect.refl _ _ _
  · exact Effect.refl _ _ _

def State.holdEnd_touch : List Part := [.fr]
def State.holdEnd_fields : Option (List Field) := some [Reg.PLAN_LEVEL.TARGET, Reg.PLAN_LEVEL.SLACK_LOW, Reg.PLAN_LEVEL.STATIC, Reg.PLAN_FORECAST.ENG_NEED, Reg.PLAN_FORECAST.FAB_NEED, Reg.FRAME_EVENT.SLACK_LOW]
theorem State.holdEnd_effect (s : State) :
    Effect State.holdEnd_touch State.holdEnd_fields s (@State.holdEnd s) := by
  unfold State.holdEnd
  split
  · refine Effect.ite ?_ ?_
    · refine Effect.after (State.showTarget_effect ..) (by decide +kernel) ?_
      refine Effect.after (State.modFr_effect ..) (by decide +kernel) ?_
      exact Effect.refl _ _ _
    · exact Effect.refl _ _ _
  · exact Effect.refl _ _ _

def State.pllCfgWrite_touch : List Part := []
def State.pllCfgWrite_fields : Option (List Field) := some [Reg.CLOCK_PLL_CFG.PRE, Reg.CLOCK_PLL_CFG.FINE, Reg.CLOCK_PLL_STATUS.STAGED]
theorem State.pllCfgWrite_effect (s : State) (p1 : Nat) (p2 : Nat) :
    Effect State.pllCfgWrite_touch State.pllCfgWrite_fields s (@State.pllCfgWrite s p1 p2) := by
  unfold State.pllCfgWrite
  extract_lets x1
  have h2 : Effect State.pllCfgWrite_touch State.pllCfgWrite_fields s x1 := by
    refine Effect.after (State.wr_effect ..) (by decide +kernel) ?_
    exact Effect.refl _ _ _
  try clear_value x1
  refine Effect.after (State.showStaged_effect ..) (by decide +kernel) ?_
  refine Effect.when ?_ ?_
  · exact h2
  · intro u3
    try beta_reduce
    refine Effect.after (State.wr_effect ..) (by decide +kernel) ?_
    exact Effect.refl _ _ _

def State.goodReply_touch : List Part := [.chains, .cells]
def State.goodReply_fields : Option (List Field) := some [Reg.CELL_STATE.NO_REPLY, Reg.CELL_STATE.CALL_QUEUED, Reg.TS_FOUND_LO.IDENTITY, Reg.TS_FOUND_HI.IDENTITY, Reg.TS_INFO.CLASS, Reg.TS_INFO.BYPASS_FITTED, Reg.TS_INFO.FIRMWARE, Reg.TS_CALL.Q_EVEN, Reg.TS_CALL.VALID_EVEN, Reg.TS_CALL.Q_ODD, Reg.TS_CALL.VALID_ODD, Reg.TS_CALL.REPLIES, Reg.TS_CALL_FRAME.FRAME]
theorem State.goodReply_effect (s : State) (p1 : ChainCfg) (p2 : Nat) (p3 : Nat) (p4 : Nat) (p5 : Bool) (p6 : List Byte) :
    Effect State.goodReply_touch State.goodReply_fields s (@State.goodReply s p1 p2 p3 p4 p5 p6) := by
  unfold State.goodReply
  extract_lets x1 x2 x3 x4 x5 x6 x7 x8 x9 x10 x11 x12 x13 x14
  have h15 : Effect State.goodReply_touch State.goodReply_fields s x3 := by
    refine Effect.after (State.wr64_effect ..) (by decide +kernel) ?_
    exact Effect.refl _ _ _
  try clear_value x3
  have h16 : Effect State.goodReply_touch State.goodReply_fields s x4 := by
    refine Effect.after (State.wr_effect ..) (by decide +kernel) ?_
    refine Effect.after (State.wr_effect ..) (by decide +kernel) ?_
    exact h15
  try clear_value x4
  have h17 : Effect State.goodReply_touch State.goodReply_fields s x5 := by
    refine Effect.after (State.wr_effect ..) (by decide +kernel) ?_
    exact h16
  try clear_value x5
  have h18 : Effect State.goodReply_touch State.goodReply_fields s x6 := by
    refine Effect.ite ?_ ?_
    · refine Effect.after (State.wr_effect ..) (by decide +kernel) ?_
      refine Effect.after (State.wr_effect ..) (by decide +kernel) ?_
      exact h17
    · refine Effect.after (State.wr_effect ..) (by decide +kernel) ?_
      refine Effect.after (State.wr_effect ..) (by decide +kernel) ?_
      exact h17
  try clear_value x6
  have h19 : Effect State.goodReply_touch State.goodReply_fields s x7 := by
    refine Effect.after (State.wr_effect ..) (by decide +kernel) ?_
    refine Effect.after (State.wr_effect ..) (by decide +kernel) ?_
    refine Effect.after (State.bump_effect ..) (by decide +kernel) ?_
    exact h18
  try clear_value x7
  have h20 : Effect State.goodReply_touch State.goodReply_fields s x8 := by
    refine Effect.after (State.modCell_effect ..) (by decide +kernel) ?_
    exact h19
  try clear_value x8
  have h21 : Effect State.goodReply_touch State.goodReply_fields s x13 := by
    refine Effect.after (State.modChain_effect ..) (by decide +kernel) ?_
    exact h20
  try clear_value x13
  have h22 : Effect State.goodReply_touch State.goodReply_fields s x14 := by
    refine Effect.after (State.showQueued_effect ..) (by decide +kernel) ?_
    exact h21
  try clear_value x14
  try clear_value x1 x2 x9 x10 x12
  refine Effect.after (State.modCell_effect ..) (by decide +kernel) ?_
  exact h22

def State.callupReply_touch : List Part := [.faults, .lanes, .chains, .cells]
def State.callupReply_fields : Option (List Field) := some [Reg.COLLECT_STATUS_LO.STATUS, Reg.COLLECT_STATUS_HI.STATUS, Reg.FAULT_COUNT_CORR.COUNT, Reg.FAULT_COUNT_CONT.COUNT, Reg.FAULT_COUNT_FATAL.COUNT, Reg.FAULT_EVENT.CORRECTED, Reg.FAULT_EVENT.CONTAINED, Reg.FAULT_EVENT.FATAL, Reg.FAULT_EVENT.HIST_LOST, Reg.FAULT_HIST_STATUS.LOST, Reg.LANE_STATUS.STATE, Reg.LANE_STATUS.CHAIN_LATE, Reg.LANE_STATUS.SERVED, Reg.LANE_STATUS.FIRST_Q, Reg.LANE_UPBASE.U, Reg.LANE_BUDGET.DELIVERY, Reg.LANE_BUDGET.COMPLETION, Reg.LANE_EVENT.READY, Reg.LANE_EVENT.CHAIN_LATE, Reg.LANE_EVENT.UNROSTERED, Reg.LANE_DELAY.D, Reg.LANE_DELAY.VALID, Reg.CELL_STATE.NO_REPLY, Reg.CELL_STATE.CALL_QUEUED, Reg.TS_FOUND_LO.IDENTITY, Reg.TS_FOUND_HI.IDENTITY, Reg.TS_INFO.CLASS, Reg.TS_INFO.BYPASS_FITTED, Reg.TS_INFO.FIRMWARE, Reg.TS_CALL.Q_EVEN, Reg.TS_CALL.VALID_EVEN, Reg.TS_CALL.Q_ODD, Reg.TS_CALL.VALID_ODD, Reg.TS_CALL.REPLIES, Reg.TS_CALL_FRAME.FRAME, Reg.CELL_UNROSTERED_LO.CHAINS, Reg.CELL_UNROSTERED_HI.CHAINS, Reg.CELL_EVENT.UNROSTERED]
theorem State.callupReply_effect (s : State) (p1 : Nat) (p2 : Nat) (p3 : List Byte) :
    Effect State.callupReply_touch State.callupReply_fields s (@State.callupReply s p1 p2 p3) := by
  unfold State.callupReply
  extract_lets x1 x2
  try clear_value x1 x2
  split
  · split
    · extract_lets x3 x4 x5 x6 x7
      have h8 : Effect State.callupReply_touch State.callupReply_fields s x5 := by
        refine Effect.after (State.modChain_effect ..) (by decide +kernel) ?_
        exact Effect.refl _ _ _
      try clear_value x5
      have h9 : Effect State.callupReply_touch State.callupReply_fields s x6 := by
        refine Effect.after (State.setDelay_effect ..) (by decide +kernel) ?_
        exact h8
      try clear_value x6
      have h10 : Effect State.callupReply_touch State.callupReply_fields s x7 := by
        refine Effect.ite ?_ ?_
        · refine Effect.after (State.goodReply_effect ..) (by decide +kernel) ?_
          exact h9
        · refine Effect.when ?_ ?_
          · exact h9
          · intro u11
            try beta_reduce
            refine Effect.after (State.foundExtra_effect ..) (by decide +kernel) ?_
            exact Effect.refl _ _ _
      try clear_value x7
      try clear_value x3 x4
      refine Effect.ite ?_ ?_
      · exact Effect.refl _ _ _
      · refine Effect.when ?_ ?_
        · exact h10
        · intro u13
          try beta_reduce
          refine Effect.after (State.endSweep_effect ..) (by decide +kernel) ?_
          exact Effect.refl _ _ _
    · exact Effect.refl _ _ _
  · exact Effect.refl _ _ _

def State.wakeN_touch : List Part := [.power]
def State.wakeN_fields : Option (List Field) := some [Reg.POWER_STATE.WAKE_SRC, Reg.POWER_STATE.WAKE_TRIES]
theorem State.wakeN_effect (s : State) (p1 : Bool) (p2 : Bool) :
    Effect State.wakeN_touch State.wakeN_fields s (@State.wakeN s p1 p2) := by
  unfold State.wakeN
  extract_lets x1 x2
  have h3 : Effect State.wakeN_touch State.wakeN_fields s x2 := by
    refine Effect.after (State.modPower_effect ..) (by decide +kernel) ?_
    exact Effect.refl _ _ _
  try clear_value x2
  try clear_value x1
  refine Effect.ite ?_ ?_
  · exact h3
  · refine Effect.ite ?_ ?_
    · refine Effect.ite ?_ ?_
      · refine Effect.after (State.dormantExitStart_effect ..) (by decide +kernel) ?_
        exact h3
      · exact h3
    · refine Effect.ite ?_ ?_
      · refine Effect.after (State.edgeWake_effect ..) (by decide +kernel) ?_
        exact h3
      · exact h3

def State.stepDown_touch : List Part := [.fr]
def State.stepDown_fields : Option (List Field) := some []
theorem State.stepDown_effect (s : State) :
    Effect State.stepDown_touch State.stepDown_fields s (@State.stepDown s) := by
  unfold State.stepDown
  refine Effect.ite ?_ ?_
  · refine Effect.after (State.modFr_effect ..) (by decide +kernel) ?_
    exact Effect.refl _ _ _
  · exact Effect.refl _ _ _

def State.laneRestore_touch : List Part := [.chains]
def State.laneRestore_fields : Option (List Field) := some []
theorem State.laneRestore_effect (s : State) (p1 : Nat) :
    Effect State.laneRestore_touch State.laneRestore_fields s (@State.laneRestore s p1) := by
  unfold State.laneRestore
  refine Effect.ite ?_ ?_
  · refine Effect.after (State.modChain_effect ..) (by decide +kernel) ?_
    exact Effect.refl _ _ _
  · exact Effect.refl _ _ _

def State.laneCtrlWrite_touch : List Part := [.lanes, .chains]
def State.laneCtrlWrite_fields : Option (List Field) := some [Reg.LANE_CTRL.FORCE_IDLE, Reg.LANE_CTRL.AUTO_RESTORE, Reg.LANE_STATUS.STATE, Reg.LANE_EVENT.LOST]
theorem State.laneCtrlWrite_effect (s : State) (p1 : Nat) (p2 : Nat) :
    Effect State.laneCtrlWrite_touch State.laneCtrlWrite_fields s (@State.laneCtrlWrite s p1 p2) := by
  unfold State.laneCtrlWrite
  extract_lets x1
  have h2 : Effect State.laneCtrlWrite_touch State.laneCtrlWrite_fields s x1 := by
    refine Effect.when ?_ ?_
    · refine Effect.after (State.forceIdle_effect ..) (by decide +kernel) ?_
      exact Effect.refl _ _ _
    · intro u3
      try beta_reduce
      refine Effect.after (State.laneCallup_effect ..) (by decide +kernel) ?_
      exact Effect.refl _ _ _
  try clear_value x1
  refine Effect.when ?_ ?_
  · refine Effect.when ?_ ?_
    · exact h2
    · intro u5
      try beta_reduce
      refine Effect.after (State.laneRestore_effect ..) (by decide +kernel) ?_
      exact Effect.refl _ _ _
  · intro u7
    try beta_reduce
    refine Effect.after (State.wr_effect ..) (by decide +kernel) ?_
    exact Effect.refl _ _ _

def State.vinLoss_touch : List Part := [.hold, .wrHold, .power, .faults, .host, .load, .cfg, .fr, .images, .lanes, .chains, .cells, .arms, .engs, .convs, .referee, .pair, .journal, .adc, .drives, .motors, .safety, .eths, .canQueues, .cans, .out]
def State.vinLoss_fields : Option (List Field) := none
theorem State.vinLoss_effect (s : State) :
    Effect State.vinLoss_touch State.vinLoss_fields s (@State.vinLoss s) := by
  unfold State.vinLoss
  extract_lets x1
  have h2 : Effect State.vinLoss_touch State.vinLoss_fields s x1 := by
    refine Effect.after (State.modPower_effect ..) (by decide +kernel) ?_
    exact Effect.refl _ _ _
  try clear_value x1
  refine Effect.ite ?_ ?_
  · exact Effect.refl _ _ _
  · refine Effect.ite ?_ ?_
    · exact h2
    · refine Effect.after (State.enterKeepOnly_effect ..) (by decide +kernel) ?_
      exact h2

def State.bbDiscard_touch : List Part := []
def State.bbDiscard_fields : Option (List Field) := some [Reg.BB_COUNT.CRC, Reg.BB_COUNT.TYPE]
theorem State.bbDiscard_effect (s : State) (p1 : Nat) (p2 : Bool) :
    Effect State.bbDiscard_touch State.bbDiscard_fields s (@State.bbDiscard s p1 p2) := by
  unfold State.bbDiscard
  refine Effect.ite ?_ ?_
  · exact Effect.refl _ _ _
  · refine Effect.ite ?_ ?_
    · refine Effect.after (State.bump_effect ..) (by decide +kernel) ?_
      exact Effect.refl _ _ _
    · refine Effect.after (State.bump_effect ..) (by decide +kernel) ?_
      exact Effect.refl _ _ _

def State.chopCheck_touch : List Part := [.faults, .drives, .motors]
def State.chopCheck_fields : Option (List Field) := some [Reg.COLLECT_STATUS_LO.STATUS, Reg.COLLECT_STATUS_HI.STATUS, Reg.FAULT_COUNT_CORR.COUNT, Reg.FAULT_COUNT_CONT.COUNT, Reg.FAULT_COUNT_FATAL.COUNT, Reg.FAULT_EVENT.CORRECTED, Reg.FAULT_EVENT.CONTAINED, Reg.FAULT_EVENT.FATAL, Reg.FAULT_EVENT.HIST_LOST, Reg.FAULT_HIST_STATUS.LOST, Reg.DRV_STATUS.LEG_FAULT, Reg.DRV_CARRIER_ACT.TOP, Reg.DRV_LEG_STATUS.CMP_ACT, Reg.DRV_LEG_STATUS.DESAT_HS, Reg.DRV_LEG_STATUS.DESAT_LS, Reg.DRV_LEG_STATUS.INSTANT, Reg.DRV_LEG_STATUS.VB_UV, Reg.DRV_LEG_STATUS.GATES_OFF, Reg.DRV_LEG_STATUS.MODE_ACT, Reg.MOT_STATE.STATE, Reg.MOT_STATE.CHOP_FAULT, Reg.MOT_BUS.CHOP_D, Reg.MOT_COUNT.CHOP_FAULTS, Reg.MOT_EVENT.STATE, Reg.MOT_EVENT.OBS_LOST, Reg.MOT_EVENT.CHOP_FAULT]
theorem State.chopCheck_effect (s : State) (p1 : Nat) :
    Effect State.chopCheck_touch State.chopCheck_fields s (@State.chopCheck s p1) := by
  unfold State.chopCheck
  split
  · refine Effect.ite ?_ ?_
    · refine Effect.ite ?_ ?_
      · refine Effect.after (State.chopFail_effect ..) (by decide +kernel) ?_
        exact Effect.refl _ _ _
      · refine Effect.after (State.modMot_effect ..) (by decide +kernel) ?_
        exact Effect.refl _ _ _
    · exact Effect.refl _ _ _
  · exact Effect.refl _ _ _

def State.msixWrite_touch : List Part := [.host, .out]
def State.msixWrite_fields : Option (List Field) := some []
theorem State.msixWrite_effect (s : State) (p1 : Nat) (p2 : Nat) :
    Effect State.msixWrite_touch State.msixWrite_fields s (@State.msixWrite s p1 p2) := by
  unfold State.msixWrite
  extract_lets x1 x2 x3 x4
  try clear_value x1 x2 x3 x4
  refine Effect.ite ?_ ?_
  · refine Effect.after (State.flushMsix_effect ..) (by decide +kernel) ?_
    refine Effect.after (Effect.host _ _) (by decide +kernel) ?_
    exact Effect.refl _ _ _
  · exact Effect.refl _ _ _

def State.entryDropped_touch : List Part := [.power]
def State.entryDropped_fields : Option (List Field) := some []
theorem State.entryDropped_effect (s : State) (p1 : EntryDomain) :
    Effect State.entryDropped_touch State.entryDropped_fields s (@State.entryDropped s p1) := by
  unfold State.entryDropped
  split
  · refine Effect.ite ?_ ?_
    · refine Effect.after (State.modPower_effect ..) (by decide +kernel) ?_
      exact Effect.refl _ _ _
    · exact Effect.refl _ _ _
  · exact Effect.refl _ _ _

def State.bbOffWrite_touch : List Part := [.power]
def State.bbOffWrite_fields : Option (List Field) := some [Reg.POWER_DOMAIN_CTRL.BB_PHY_OFF, Reg.POWER_ENTRY_STATUS.RESULT, Reg.POWER_ENTRY_STATUS.DOMAIN, Reg.POWER_ENTRY_STATUS.RETRIES]
theorem State.bbOffWrite_effect (s : State) (p1 : Bool) :
    Effect State.bbOffWrite_touch State.bbOffWrite_fields s (@State.bbOffWrite s p1) := by
  unfold State.bbOffWrite
  extract_lets x1
  have h2 : Effect State.bbOffWrite_touch State.bbOffWrite_fields s x1 := by
    refine Effect.after (State.wr_effect ..) (by decide +kernel) ?_
    exact Effect.refl _ _ _
  try clear_value x1
  refine Effect.ite ?_ ?_
  · refine Effect.ite ?_ ?_
    · exact h2
    · refine Effect.after (State.startEntry_effect ..) (by decide +kernel) ?_
      exact h2
  · refine Effect.after (State.entryDropped_effect ..) (by decide +kernel) ?_
    exact h2

def State.analogOffWrite_touch : List Part := [.power]
def State.analogOffWrite_fields : Option (List Field) := some [Reg.POWER_DOMAIN_CTRL.ANALOG_OFF, Reg.POWER_ENTRY_STATUS.RESULT, Reg.POWER_ENTRY_STATUS.DOMAIN, Reg.POWER_ENTRY_STATUS.RETRIES]
theorem State.analogOffWrite_effect (s : State) (p1 : Bool) :
    Effect State.analogOffWrite_touch State.analogOffWrite_fields s (@State.analogOffWrite s p1) := by
  unfold State.analogOffWrite
  extract_lets x1
  have h2 : Effect State.analogOffWrite_touch State.analogOffWrite_fields s x1 := by
    refine Effect.after (State.wr_effect ..) (by decide +kernel) ?_
    exact Effect.refl _ _ _
  try clear_value x1
  refine Effect.ite ?_ ?_
  · refine Effect.ite ?_ ?_
    · exact h2
    · refine Effect.after (State.startEntry_effect ..) (by decide +kernel) ?_
      exact h2
  · refine Effect.after (State.entryDropped_effect ..) (by decide +kernel) ?_
    exact h2

def State.chopReset_touch : List Part := []
def State.chopReset_fields : Option (List Field) := some [Reg.MOT_STATE.CHOP_FAULT]
theorem State.chopReset_effect (s : State) (p1 : Nat) :
    Effect State.chopReset_touch State.chopReset_fields s (@State.chopReset s p1) := by
  unfold State.chopReset
  refine Effect.ite ?_ ?_
  · refine Effect.after (State.wr_effect ..) (by decide +kernel) ?_
    exact Effect.refl _ _ _
  · exact Effect.refl _ _ _

def State.actingWrite_touch : List Part := [.hold, .wrHold, .time, .power, .faults, .host, .load, .cfg, .fr, .images, .lanes, .chains, .cells, .arms, .engs, .convs, .referee, .pair, .journal, .adc, .drives, .motors, .safety, .eths, .canQueues, .cans, .out, .drawn]
def State.actingWrite_fields : Option (List Field) := none
theorem State.actingWrite_effect (s : State) (base i v : Nat) (t : State) (h : s.actingWrite base i v = some t) :
    Effect State.actingWrite_touch State.actingWrite_fields s t := by
  unfold State.actingWrite at h
  split at h
  · cases h
    refine Effect.when ?_ ?_
    · exact Effect.refl _ _ _
    · intro u1
      try beta_reduce
      refine Effect.after (State.xbarClear_effect ..) (by decide +kernel) ?_
      exact Effect.refl _ _ _
  · cases h
    refine Effect.when ?_ ?_
    · exact Effect.refl _ _ _
    · intro u3
      try beta_reduce
      refine Effect.after (State.clockGo_effect ..) (by decide +kernel) ?_
      exact Effect.refl _ _ _
  · cases h
    refine Effect.after (State.pllCfgWrite_effect ..) (by decide +kernel) ?_
    exact Effect.refl _ _ _
  · cases h
    refine Effect.after (State.trimWrite_effect ..) (by decide +kernel) ?_
    exact Effect.refl _ _ _
  · cases h
    refine Effect.after (State.powerCtrlWrite_effect ..) (by decide +kernel) ?_
    exact Effect.refl _ _ _
  · cases h
    refine Effect.after (State.bbOffWrite_effect ..) (by decide +kernel) ?_
    refine Effect.after (State.analogOffWrite_effect ..) (by decide +kernel) ?_
    exact Effect.refl _ _ _
  · cases h
    refine Effect.when ?_ ?_
    · exact Effect.refl _ _ _
    · intro u5
      try beta_reduce
      refine Effect.after (State.wr_effect ..) (by decide +kernel) ?_
      exact Effect.refl _ _ _
  · cases h
    refine Effect.after (State.faultCtrlWrite_effect ..) (by decide +kernel) ?_
    exact Effect.refl _ _ _
  · cases h
    refine Effect.when ?_ ?_
    · exact Effect.refl _ _ _
    · intro u7
      try beta_reduce
      refine Effect.after (State.firstFatalClear_effect ..) (by decide +kernel) ?_
      exact Effect.refl _ _ _
  · cases h
    refine Effect.after (State.softReset_effect ..) (by decide +kernel) ?_
    refine Effect.after (State.draw_effect ..) (by decide +kernel) ?_
    exact Effect.refl _ _ _
  · cases h
    refine Effect.after (State.refCtrlWrite_effect ..) (by decide +kernel) ?_
    exact Effect.refl _ _ _
  · cases h
    refine Effect.after (State.mramCfgWrite_effect ..) (by decide +kernel) ?_
    exact Effect.refl _ _ _
  · cases h
    refine Effect.after (State.newEpoch_effect ..) (by decide +kernel) ?_
    refine Effect.after (State.draw_effect ..) (by decide +kernel) ?_
    refine Effect.after (State.draw_effect ..) (by decide +kernel) ?_
    exact Effect.refl _ _ _
  · cases h
    refine Effect.after (State.holdLow_effect ..) (by decide +kernel) ?_
    exact Effect.refl _ _ _
  · cases h
    refine Effect.after (State.ringRestart_effect ..) (by decide +kernel) ?_
    exact Effect.refl _ _ _
  · cases h
    refine Effect.after (State.holdLow_effect ..) (by decide +kernel) ?_
    exact Effect.refl _ _ _
  · cases h
    refine Effect.after (State.ringRestart_effect ..) (by decide +kernel) ?_
    exact Effect.refl _ _ _
  · cases h
    refine Effect.after (State.cplHeadWrite_effect ..) (by decide +kernel) ?_
    exact Effect.refl _ _ _
  · cases h
    refine Effect.ite ?_ ?_
    · exact Effect.refl _ _ _
    · refine Effect.after (State.wr_effect ..) (by decide +kernel) ?_
      exact Effect.refl _ _ _
  · cases h
    refine Effect.after (State.frameClearWrite_effect ..) (by decide +kernel) ?_
    exact Effect.refl _ _ _
  · cases h
    refine Effect.after (State.resetArm_effect ..) (by decide +kernel) ?_
    exact Effect.refl _ _ _
  · cases h
    refine Effect.after (State.imageCtrlWrite_effect ..) (by decide +kernel) ?_
    exact Effect.refl _ _ _
  · cases h
    refine Effect.after (State.substRequest_effect ..) (by decide +kernel) ?_
    exact Effect.refl _ _ _
  · cases h
    refine Effect.after (State.wr_effect ..) (by decide +kernel) ?_
    exact Effect.refl _ _ _
  · cases h
    refine Effect.after (State.keyCmdWrite_effect ..) (by decide +kernel) ?_
    exact Effect.refl _ _ _
  · cases h
    refine Effect.after (State.engClearWrite_effect ..) (by decide +kernel) ?_
    exact Effect.refl _ _ _
  · cases h
    refine Effect.after (State.adcCtrlWrite_effect ..) (by decide +kernel) ?_
    exact Effect.refl _ _ _
  · cases h
    refine Effect.ite ?_ ?_
    · refine Effect.after (State.refEnable_effect ..) (by decide +kernel) ?_
      exact Effect.refl _ _ _
    · refine Effect.after (State.refDisable_effect ..) (by decide +kernel) ?_
      exact Effect.refl _ _ _
  · cases h
    refine Effect.after (State.timeCtrlWrite_effect ..) (by decide +kernel) ?_
    exact Effect.refl _ _ _
  · cases h
    refine Effect.after (State.addendWrite_effect ..) (by decide +kernel) ?_
    exact Effect.refl _ _ _
  · cases h
    refine Effect.after (State.holdLow_effect ..) (by decide +kernel) ?_
    exact Effect.refl _ _ _
  · cases h
    refine Effect.after (State.ethRestart_effect ..) (by decide +kernel) ?_
    exact Effect.refl _ _ _
  · cases h
    refine Effect.after (State.holdLow_effect ..) (by decide +kernel) ?_
    exact Effect.refl _ _ _
  · cases h
    refine Effect.after (State.ethRestart_effect ..) (by decide +kernel) ?_
    exact Effect.refl _ _ _
  · cases h
    refine Effect.when ?_ ?_
    · exact Effect.refl _ _ _
    · intro u9
      try beta_reduce
      refine Effect.after (State.canRecover_effect ..) (by decide +kernel) ?_
      exact Effect.refl _ _ _
  · cases h
    refine Effect.after (State.canAck_effect ..) (by decide +kernel) ?_
    exact Effect.refl _ _ _
  · cases h
    refine Effect.after (State.drvCtrlWrite_effect ..) (by decide +kernel) ?_
    exact Effect.refl _ _ _
  · cases h
    refine Effect.when ?_ ?_
    · exact Effect.refl _ _ _
    · intro u11
      try beta_reduce
      refine Effect.after (State.chopReset_effect ..) (by decide +kernel) ?_
      exact Effect.refl _ _ _
  · cases h
    refine Effect.after (State.loadAll_effect ..) (by decide +kernel) ?_
    exact Effect.refl _ _ _
  · cases h
    refine Effect.after (State.drvSync_effect ..) (by decide +kernel) ?_
    exact Effect.refl _ _ _
  · cases h
    refine Effect.after (State.laneCtrlWrite_effect ..) (by decide +kernel) ?_
    exact Effect.refl _ _ _
  · cases h
    refine Effect.when ?_ ?_
    · exact Effect.refl _ _ _
    · intro u13
      try beta_reduce
      refine Effect.after (State.laneClear_effect ..) (by decide +kernel) ?_
      exact Effect.refl _ _ _
  · cases h
    refine Effect.when ?_ ?_
    · exact Effect.refl _ _ _
    · intro u15
      try beta_reduce
      refine Effect.after (State.armClear_effect ..) (by decide +kernel) ?_
      exact Effect.refl _ _ _
  · cases h

def State.afterWrite_touch : List Part := [.power, .host, .out]
def State.afterWrite_fields : Option (List Field) := some [Reg.POWER_STATE.WAKE_SRC, Reg.POWER_STATE.WAKE_TRIES, Reg.JRN_RING_STATUS.WAIT_CPL, Reg.ADC_SEQ_COUNT.INVALID, Reg.ETH_STATUS.LINK, Reg.ETH_STATUS.SPEED, Reg.ETH_STATUS.AN_DONE, Reg.ETH_EVENT.EVENTS]
theorem State.afterWrite_effect (s : State) (p1 : Nat) (p2 : Nat) (p3 : Nat) :
    Effect State.afterWrite_touch State.afterWrite_fields s (@State.afterWrite s p1 p2 p3) := by
  unfold State.afterWrite
  split
  · refine Effect.when ?_ ?_
    · exact Effect.refl _ _ _
    · intro u1
      try beta_reduce
      refine Effect.after (State.wr_effect ..) (by decide +kernel) ?_
      exact Effect.refl _ _ _
  · refine Effect.after (State.ethOff_effect ..) (by decide +kernel) ?_
    exact Effect.refl _ _ _
  · refine Effect.ite ?_ ?_
    · refine Effect.after (State.dormantExitStart_effect ..) (by decide +kernel) ?_
      exact Effect.refl _ _ _
    · exact Effect.refl _ _ _
  · refine Effect.after (State.showWait_effect ..) (by decide +kernel) ?_
    exact Effect.refl _ _ _
  · refine Effect.after (State.showWait_effect ..) (by decide +kernel) ?_
    exact Effect.refl _ _ _
  · refine Effect.after (State.showWait_effect ..) (by decide +kernel) ?_
    exact Effect.refl _ _ _
  · split
    · refine Effect.after (State.recheck_effect ..) (by decide +kernel) ?_
      exact Effect.refl _ _ _
    · exact Effect.refl _ _ _

def State.hostWrite_touch : List Part := [.hold, .wrHold, .time, .power, .faults, .host, .load, .cfg, .fr, .images, .lanes, .chains, .cells, .arms, .engs, .convs, .referee, .pair, .journal, .adc, .drives, .motors, .safety, .eths, .canQueues, .cans, .out, .drawn]
def State.hostWrite_fields : Option (List Field) := none
theorem State.hostWrite_effect (s : State) (a w : Nat) :
    Effect State.hostWrite_touch State.hostWrite_fields s (s.hostWrite a w) := by
  unfold State.hostWrite
  refine Effect.ite (Effect.refl _ _ _) ?_
  split
  · exact (State.msixWrite_effect ..).widen (by decide +kernel)
  · exact Effect.refl _ _ _
  · extract_lets v
    split
    · rename_i h; exact (State.actingWrite_effect _ _ _ _ _ h).widen (by decide +kernel)
    · refine Effect.after (State.afterWrite_effect ..) (by decide +kernel) ?_
      exact (State.regWrite_effect ..).widen rfl

def State.writeWords_touch : List Part := [.hold, .wrHold, .time, .power, .faults, .host, .load, .cfg, .fr, .images, .lanes, .chains, .cells, .arms, .engs, .convs, .referee, .pair, .journal, .adc, .drives, .motors, .safety, .eths, .canQueues, .cans, .out, .drawn]
def State.writeWords_fields : Option (List Field) := none
theorem State.writeWords_effect (s : State) (a : Nat) (b : List Byte) (n : Nat) :
    Effect State.writeWords_touch State.writeWords_fields s (s.writeWords a b n) := by
  induction n generalizing s a b with
  | zero => exact Effect.refl _ _ _
  | succ n ih => exact ((State.hostWrite_effect s a _).widen (by decide +kernel)).step (ih _ _ _) (Effect.fits_refl _ _)

def State.bbWrite_touch : List Part := [.hold, .wrHold, .time, .power, .faults, .host, .load, .cfg, .fr, .images, .lanes, .chains, .cells, .arms, .engs, .convs, .referee, .pair, .journal, .adc, .drives, .motors, .safety, .eths, .canQueues, .cans, .out, .drawn]
def State.bbWrite_fields : Option (List Field) := none
theorem State.bbWrite_effect (s : State) (p1 : Nat) (p2 : Nat) (p3 : List Byte) :
    Effect State.bbWrite_touch State.bbWrite_fields s (@State.bbWrite s p1 p2 p3) := by
  unfold State.bbWrite
  extract_lets x1
  try clear_value x1
  split
  · exact Effect.refl _ _ _
  · refine Effect.ite ?_ ?_
    · refine Effect.after (State.writeWords_effect ..) (by decide +kernel) ?_
      exact Effect.refl _ _ _
    · refine Effect.after (State.denied_effect ..) (by decide +kernel) ?_
      exact Effect.refl _ _ _

def State.computeEnd_touch : List Part := [.power, .faults, .fr, .lanes, .chains, .cells, .arms, .engs, .convs, .referee, .pair, .safety, .out, .drawn]
def State.computeEnd_fields : Option (List Field) := some [Reg.DOMAIN_STATE.PLANE_A, Reg.DOMAIN_STATE.PLANE_B, Reg.CONV_STATE.STATE, Reg.CONV_STATE.COAST, Reg.CONV_STATE.CAUSE, Reg.CONV_STATE.SLEWING, Reg.CONV_STATE_FRAME.FRAME, Reg.CONV_DTHETA.DTHETA, Reg.CONV_RESIDUAL.E, Reg.CONV_COUNT.BLOCKS, Reg.CONV_COUNT.RESYNCS, Reg.CONV_COUNT.COAST_MAX, Reg.CONV_WORD.VALUE, Reg.CONV_EVENT.BLOCK, Reg.CONV_EVENT.RESYNC, Reg.CONV_EVENT.RESYNC_FAIL, Reg.CONV_EVENT.COAST_LIMIT, Reg.CONV_EVENT_SRC.CONV, Reg.POWER_PGOOD.PGOOD, Reg.COLLECT_STATUS_LO.STATUS, Reg.COLLECT_STATUS_HI.STATUS, Reg.FAULT_COUNT_CORR.COUNT, Reg.FAULT_COUNT_CONT.COUNT, Reg.FAULT_COUNT_FATAL.COUNT, Reg.FAULT_EVENT.CORRECTED, Reg.FAULT_EVENT.CONTAINED, Reg.FAULT_EVENT.FATAL, Reg.FAULT_EVENT.HIST_LOST, Reg.FAULT_HIST_STATUS.LOST, Reg.REF_STATUS.STATE, Reg.REF_STATUS.ROLE_A, Reg.REF_STATUS.ROLE_B, Reg.REF_HT_STATUS.MATCHED, Reg.REF_HT_STATUS.OUTCOME, Reg.REF_CKPT.NEWEST, Reg.REF_CKPT.VALID0, Reg.REF_CKPT.VALID1, Reg.REF_CKPT_SEQ.SEQ, Reg.REF_EVENT.CANCEL, Reg.REF_EVENT.UNFIT, Reg.OVERRUN_COUNT.COMPUTE, Reg.OVERRUN_LAST.FRAME, Reg.TRK_STATUS.CTRL_HIWATER, Reg.FRAME_EVENT.OVERRUN, Reg.SAFE_STATUS.A_OK, Reg.SAFE_STATUS.B_OK, Reg.SAFE_STATUS.DIAG, Reg.SAFE_STATUS.DIAG_CAUSE, Reg.SAFE_STATUS.RESET_PIN, Reg.SAFE_STATUS.DEMAND, Reg.SAFE_STATUS.LOCKED, Reg.SAFE_STATUS.DIAG_A, Reg.SAFE_STATUS.DIAG_B, Reg.SAFE_GROUP.STATE, Reg.SAFE_GROUP.KIND, Reg.SAFE_GROUP.STOP, Reg.SAFE_GROUP.CAUSE, Reg.SAFE_GROUP.PAIRS, Reg.SAFE_PAIR.CH_A, Reg.SAFE_PAIR.CH_B, Reg.SAFE_PAIR.DEMAND, Reg.SAFE_PAIR.PAIR_FAULT, Reg.SAFE_PAIR.FAULT_CAUSE, Reg.SAFE_PAIR.DEMANDS, Reg.SAFE_TPO.EN, Reg.SAFE_TPO.READBACK_FAULT, Reg.SAFE_FIRE.FIRE_A, Reg.SAFE_FIRE.FIRE_B, Reg.SAFE_FIRE.DRV_A, Reg.SAFE_FIRE.DRV_B, Reg.SAFE_RESET_STATUS.ARMED, Reg.SAFE_EVENT.REMOVED, Reg.ENG_STATUS.BALL, Reg.ENG_STATUS.SHADOW, Reg.ENG_STATUS.COLD, Reg.ENG_STATUS.DONE, Reg.ENG_STATUS.STOPPED, Reg.ENG_CYCLES.LAST, Reg.ENG_CYCLES.MAX, Reg.ENG_EVENT.STOPPED, Reg.ENG_EXPORT.VALUE, Reg.LANE_STATUS.STATE, Reg.LANE_STATUS.CHAIN_LATE, Reg.LANE_STATUS.SERVED, Reg.LANE_STATUS.FIRST_Q, Reg.LANE_CHAIN.SPLIT, Reg.LANE_CHAIN.GAP, Reg.LANE_SEGDOWN_LO.DOWN, Reg.LANE_SEGDOWN_HI.DOWN, Reg.LANE_UPBASE.U, Reg.LANE_BUDGET.DELIVERY, Reg.LANE_BUDGET.COMPLETION, Reg.LANE_EVENT.CHAIN_LATE, Reg.LANE_DELAY.D, Reg.LANE_DELAY.VALID, Reg.ARM_VDC.V, Reg.ARM_VAC.V, Reg.ARM_VEXTRA.V, Reg.ARM_THETA.THETA, Reg.ARM_OMEGA.OMEGA, Reg.ARM_CAPINV.CAP_INV, Reg.ARM_PHASE.PHASE_REF, Reg.ARM_PHASE.PHASE_BAL, Reg.ARM_PHASE_LIM.LIM, Reg.ARM_STATUS.FLAGS, Reg.ARM_STATUS.ACTIVE, Reg.ARM_LEVEL.N_FULL, Reg.ARM_LEVEL.N_NL, Reg.ARM_TRIM.FRAC, Reg.ARM_TRIM.TRIM, Reg.ARM_PTR.PTR, Reg.ARM_PTR.ELIGIBLE, Reg.ARM_SHORT.SHORT, Reg.ARM_SHORT.FRAMES, Reg.ARM_DWELL.MOVED, Reg.ARM_DWELL.DEFERRED, Reg.ARM_SWITCHED.LAST, Reg.ARM_TJ.TJ_MAX, Reg.ARM_TJ.TJ_MEAN, Reg.ARM_TJ_CELL.CELL, Reg.ARM_IARM.I, Reg.ARM_VREF.V, Reg.ARM_EVENT.SHORTFALL, Reg.ARM_EVENT.DEFER, Reg.ARM_EVENT.COAST, Reg.ARM_EVENT.I_HELD, Reg.CELL_STATE.STATE, Reg.CELL_STATE.EXCLUDED, Reg.CELL_STATE.CONFIRMED, Reg.CELL_STATE.NO_BYPASS, Reg.CELL_STATE.REASON, Reg.CELL_STATE.T_INVALID, Reg.CELL_TEMP.T_HS, Reg.CELL_TEMP.TJ, Reg.CELL_FAULT.REPORTED, Reg.CELL_FAULT.SEEN, Reg.CELL_FAULT.TOGGLES, Reg.CELL_COUNT.EXCLUDED, Reg.CELL_COUNT.SWAPS, Reg.CELL_STATE_FRAME.FRAME, Reg.TS_RECORDED_LO.IDENTITY, Reg.TS_RECORDED_HI.IDENTITY, Reg.TS_CALL.RESULT, Reg.CELL_SUMMARY0.SERVICE, Reg.CELL_SUMMARY0.BYPASSED, Reg.CELL_SUMMARY1.PENDING, Reg.CELL_SUMMARY1.OUT, Reg.CELL_SUMMARY2.ABSENT, Reg.CELL_SUMMARY2.REJECTED, Reg.CELL_PENDING_FIRST.CELL, Reg.CELL_UNROSTERED_LO.CHAINS, Reg.CELL_UNROSTERED_HI.CHAINS, Reg.CELL_LAST.CELL, Reg.CELL_LAST.STATE, Reg.CELL_LAST.REASON, Reg.CELL_EVENT.PENDING, Reg.CELL_EVENT.BYPASS, Reg.CELL_EVENT.REJECTED, Reg.CELL_EVENT.SWAP, Reg.CELL_EVENT.OUT, Reg.CELL_EVENT.UNCONFIRMED]
theorem State.computeEnd_effect (s : State) (p1 : Bool) :
    Effect State.computeEnd_touch State.computeEnd_fields s (@State.computeEnd s p1) := by
  unfold State.computeEnd
  extract_lets x1 x2 x3 x4 x5 x6 x7 x8
  have h9 : Effect State.computeEnd_touch State.computeEnd_fields s x3 := by
    refine Effect.after (State.endPlanes_effect ..) (by decide +kernel) ?_
    refine Effect.after (State.modFr_effect ..) (by decide +kernel) ?_
    exact Effect.refl _ _ _
  try clear_value x3
  have h10 : Effect State.computeEnd_touch State.computeEnd_fields s x4 := by
    refine Effect.when ?_ ?_
    · exact h9
    · intro u11
      try beta_reduce
      refine Effect.after (State.latchAll_effect ..) (by decide +kernel) ?_
      exact Effect.refl _ _ _
  try clear_value x4
  have h13 : Effect State.computeEnd_touch State.computeEnd_fields s x5 := by
    refine Effect.after (State.convEnvelopes_effect ..) (by decide +kernel) ?_
    exact h10
  try clear_value x5
  have h14 : Effect State.computeEnd_touch State.computeEnd_fields s x6 := by
    refine Effect.after (State.ckptBegin_effect ..) (by decide +kernel) ?_
    exact h13
  try clear_value x6
  have h15 : Effect State.computeEnd_touch State.computeEnd_fields s x7 := by
    refine Effect.when ?_ ?_
    · exact h14
    · intro u16
      try beta_reduce
      refine Effect.after (State.ctrlAsk_effect ..) (by decide +kernel) ?_
      exact Effect.refl _ _ _
  try clear_value x7
  have h18 : Effect State.computeEnd_touch State.computeEnd_fields s x8 := by
    refine Effect.after (State.fixShadow_effect ..) (by decide +kernel) ?_
    refine Effect.when ?_ ?_
    · exact h15
    · intro u19
      try beta_reduce
      refine Effect.after (State.rankAll_effect ..) (by decide +kernel) ?_
      exact Effect.refl _ _ _
  try clear_value x8
  try clear_value x1 x2
  refine Effect.ite ?_ ?_
  · exact Effect.refl _ _ _
  · refine Effect.after (State.modPower_effect ..) (by decide +kernel) ?_
    exact h18

def State.dsOutput_touch : List Part := [.adc]
def State.dsOutput_fields : Option (List Field) := some [Reg.ADC_CTRL.COMMIT, Reg.ADC_EVENT.DS_INVALID, Reg.ADC_DS_RESULT.FLAGS, Reg.ADC_DS_RESULT.SETTLE, Reg.ADC_DS_VALUE.VALUE]
theorem State.dsOutput_effect (s : State) (p1 : Nat) (p2 : List Bool) :
    Effect State.dsOutput_touch State.dsOutput_fields s (@State.dsOutput s p1 p2) := by
  unfold State.dsOutput
  extract_lets x1 x2 x3 x4 x5 x6 x7 x8 x9 x10
  try clear_value x1 x2 x3 x5 x6 x7 x8 x9 x10
  refine Effect.ite ?_ ?_
  · exact Effect.refl _ _ _
  · refine Effect.ite ?_ ?_
    · try unfold x4
      try beta_reduce
      split
      · exact Effect.refl _ _ _
      · extract_lets x11
        refine Effect.after (State.showCommit_effect ..) (by decide +kernel) ?_
        refine Effect.after (State.modDs_effect ..) (by decide +kernel) ?_
        exact Effect.refl _ _ _
    · split
      · extract_lets x12 x13 x14 x15 x16 x17
        have h18 : Effect State.dsOutput_touch State.dsOutput_fields s x15 := by
          refine Effect.after (State.modDs_effect ..) (by decide +kernel) ?_
          exact Effect.refl _ _ _
        try clear_value x15
        have h19 : Effect State.dsOutput_touch State.dsOutput_fields s x16 := by
          refine Effect.when ?_ ?_
          · exact h18
          · intro u20
            try beta_reduce
            refine Effect.after (State.wr_effect ..) (by decide +kernel) ?_
            exact Effect.refl _ _ _
        try clear_value x16
        have h22 : Effect State.dsOutput_touch State.dsOutput_fields s x17 := by
          refine Effect.after (State.wr_effect ..) (by decide +kernel) ?_
          refine Effect.after (State.wr_effect ..) (by decide +kernel) ?_
          exact h19
        try clear_value x17
        try clear_value x12 x13 x14
        try unfold x4
        try beta_reduce
        split
        · refine Effect.after (State.wrS_effect ..) (by decide +kernel) ?_
          exact h22
        · extract_lets x23
          refine Effect.after (State.showCommit_effect ..) (by decide +kernel) ?_
          refine Effect.after (State.modDs_effect ..) (by decide +kernel) ?_
          refine Effect.after (State.wrS_effect ..) (by decide +kernel) ?_
          exact h22

def State.signalLost_touch : List Part := []
def State.signalLost_fields : Option (List Field) := some [Reg.MOT_STATE.SIGNAL_LOST, Reg.MOT_EVENT.SIGNAL_LOST]
theorem State.signalLost_effect (s : State) (p1 : Nat) :
    Effect State.signalLost_touch State.signalLost_fields s (@State.signalLost s p1) := by
  unfold State.signalLost
  extract_lets x1
  try clear_value x1
  refine Effect.ite ?_ ?_
  · exact Effect.refl _ _ _
  · refine Effect.after (State.wr_effect ..) (by decide +kernel) ?_
    refine Effect.when ?_ ?_
    · exact Effect.refl _ _ _
    · intro u2
      try beta_reduce
      refine Effect.after (State.wr_effect ..) (by decide +kernel) ?_
      exact Effect.refl _ _ _

theorem Fuses.below_withSlot (f : Fuses) (n : Nat) (k : KeySlot) (h : (f.slot n).below k = true) : f.below (f.withSlot n k) = true := by
  rcases n with _ | _ | _ | _ | n <;> simp_all [Fuses.withSlot, Fuses.slot, Fuses.slots, Fuses.below, KeySlot.below_refl]
theorem Fuses.below_apply (f : Fuses) (op : FuseOp) : f.below (f.apply op) = true := by
  cases op with
  | program n h =>
    simp only [Fuses.apply]
    split
    · exact Fuses.below_refl f
    · rename_i e
      refine Fuses.below_withSlot f n _ ?_
      have : (f.slot n).hash = none := by simpa using e
      simp [KeySlot.below, this]
  | revoke n => exact Fuses.below_withSlot f n _ (by simp [KeySlot.below])
  | burn e => simp [Fuses.apply, Fuses.below, KeySlot.below_refl]
theorem State.apply_effect (s : State) (op : FuseOp) : Effect [.fuses] (some []) s { s with fuses := s.fuses.apply op } where
  same p hp := by cases p <;> first | rfl | exact absurd (List.mem_singleton.mpr rfl) hp
  regs _ _ _ _ _ _ := rfl
  log := List.prefix_refl _
  drawn := le_refl _
  fuses := Fuses.below_apply _ _
  stores w := w
def State.fuseDone_touch : List Part := [.fuses, .load]
def State.fuseDone_fields : Option (List Field) := (some [Reg.KEY_STATUS.BUSY, Reg.KEY_STATUS.RESULT])
theorem State.fuseDone_effect (s : State) (ok : Bool) : Effect State.fuseDone_touch State.fuseDone_fields s (s.fuseDone ok) := by
  unfold State.fuseDone
  split
  · exact Effect.refl _ _ _
  · have h : Effect State.fuseDone_touch State.fuseDone_fields s ((s.modLoad fun l => { l with fuse := none }).wr Reg.KEY_STATUS.BUSY 0) := by
      refine Effect.after (State.wr_effect ..) (by decide +kernel) ?_
      exact (State.modLoad_effect ..).widen (by decide +kernel)
    refine Effect.ite ?_ ?_
    · refine Effect.after (State.fuseResult_effect ..) (by decide +kernel) ?_
      exact Effect.after (State.apply_effect ..) (by decide +kernel) h
    · exact Effect.after (State.fuseResult_effect ..) (by decide +kernel) h

def State.withFetchWord_touch : List Part := [.pending]
def State.withFetchWord_fields : Option (List Field) := some []
theorem State.withFetchWord_effect (s : State) (p1 : Nat) (p2 : Nat) :
    Effect State.withFetchWord_touch State.withFetchWord_fields s (@State.withFetchWord s p1 p2) := by
  unfold State.withFetchWord
  split
  · refine Effect.after (Effect.pending _ _) (by decide +kernel) ?_
    exact Effect.refl _ _ _
  · exact Effect.refl _ _ _

def State.notWritten_touch : List Part := [.host, .journal, .out]
def State.notWritten_fields : Option (List Field) := some [Reg.JRN_REFUSE.GAP, Reg.JRN_BUSY.BUSY, Reg.JRN_CPL_TAIL.INDEX, Reg.JRN_RING_STATUS.PHASE, Reg.BB_STATUS.TX_IDLE]
theorem State.notWritten_effect (s : State) (p1 : JrnRec) :
    Effect State.notWritten_touch State.notWritten_fields s (@State.notWritten s p1) := by
  unfold State.notWritten
  extract_lets x1 x2 x3 x4
  have h5 : Effect State.notWritten_touch State.notWritten_fields s x3 := by
    unfold x3
    try unfold x1
    try beta_reduce
    refine Effect.after (State.reply_effect ..) (by decide +kernel) ?_
    refine Effect.after (State.bump_effect ..) (by decide +kernel) ?_
    exact Effect.refl _ _ _
  try clear_value x3
  have h6 : Effect State.notWritten_touch State.notWritten_fields s x4 := by
    refine Effect.after (State.modJrn_effect ..) (by decide +kernel) ?_
    exact h5
  try clear_value x4
  try clear_value x2
  refine Effect.each ?_ ?_
  · exact h6
  · intro u7 a8
    try beta_reduce
    try unfold x1
    try beta_reduce
    refine Effect.after (State.reply_effect ..) (by decide +kernel) ?_
    refine Effect.after (State.bump_effect ..) (by decide +kernel) ?_
    exact Effect.refl _ _ _

def State.latchCool_touch : List Part := []
def State.latchCool_fields : Option (List Field) := some [Reg.THERMAL_STATUS.SHUT_LATCH, Reg.FAULT_STATE.FATAL]
theorem State.latchCool_effect (s : State) :
    Effect State.latchCool_touch State.latchCool_fields s (@State.latchCool s) := by
  unfold State.latchCool
  split
  · refine Effect.ite ?_ ?_
    · refine Effect.after (State.wr_effect ..) (by decide +kernel) ?_
      refine Effect.after (State.wr_effect ..) (by decide +kernel) ?_
      exact Effect.refl _ _ _
    · exact Effect.refl _ _ _
  · exact Effect.refl _ _ _

def State.recordCommitted_touch : List Part := [.faults, .host, .journal, .out]
def State.recordCommitted_fields : Option (List Field) := some [Reg.COLLECT_STATUS_LO.STATUS, Reg.COLLECT_STATUS_HI.STATUS, Reg.FAULT_COUNT_CORR.COUNT, Reg.FAULT_COUNT_CONT.COUNT, Reg.FAULT_COUNT_FATAL.COUNT, Reg.FAULT_EVENT.CORRECTED, Reg.FAULT_EVENT.CONTAINED, Reg.FAULT_EVENT.FATAL, Reg.FAULT_EVENT.HIST_LOST, Reg.FAULT_HIST_STATUS.LOST, Reg.JRN_STATUS.FILL, Reg.JRN_STATUS.MRAM_OK, Reg.JRN_STATUS.PAIR_MIRROR, Reg.JRN_ACCEPTED.COUNT, Reg.JRN_REFUSE.GAP, Reg.JRN_BUSY.BUSY, Reg.JRN_EVENT.MRAM_FAIL, Reg.JRN_SRC_LAST.LAST, Reg.JRN_CPL_TAIL.INDEX, Reg.JRN_RING_STATUS.PHASE, Reg.JRN_RING_STATUS.WAIT_CPL, Reg.BB_STATUS.TX_IDLE]
theorem State.recordCommitted_effect (s : State) (p1 : Bool) (p2 : Bool) :
    Effect State.recordCommitted_touch State.recordCommitted_fields s (@State.recordCommitted s p1 p2) := by
  unfold State.recordCommitted
  split
  · exact Effect.refl _ _ _
  · extract_lets x1 x2 x3 x4
    have h5 : Effect State.recordCommitted_touch State.recordCommitted_fields s x1 := by
      refine Effect.after (State.modJrn_effect ..) (by decide +kernel) ?_
      exact Effect.refl _ _ _
    try clear_value x1
    have h6 : Effect State.recordCommitted_touch State.recordCommitted_fields s x3 := by
      refine Effect.after (State.mramResult_effect ..) (by decide +kernel) ?_
      refine Effect.after (State.mirrorRec_effect ..) (by decide +kernel) ?_
      refine Effect.after (State.holdRec_effect ..) (by decide +kernel) ?_
      exact h5
    try clear_value x3
    have h7 : Effect State.recordCommitted_touch State.recordCommitted_fields s x4 := by
      refine Effect.after (State.wr_effect ..) (by decide +kernel) ?_
      exact h6
    try clear_value x4
    try clear_value x2
    refine Effect.ite ?_ ?_
    · refine Effect.after (State.showWait_effect ..) (by decide +kernel) ?_
      refine Effect.after (State.notWritten_effect ..) (by decide +kernel) ?_
      exact h5
    · refine Effect.after (State.showWait_effect ..) (by decide +kernel) ?_
      refine Effect.after (State.reply_effect ..) (by decide +kernel) ?_
      exact h7

def State.vdrvUvlo_touch : List Part := [.power, .faults, .drives, .motors]
def State.vdrvUvlo_fields : Option (List Field) := some [Reg.COLLECT_STATUS_LO.STATUS, Reg.COLLECT_STATUS_HI.STATUS, Reg.FAULT_COUNT_CORR.COUNT, Reg.FAULT_COUNT_CONT.COUNT, Reg.FAULT_COUNT_FATAL.COUNT, Reg.FAULT_EVENT.CORRECTED, Reg.FAULT_EVENT.CONTAINED, Reg.FAULT_EVENT.FATAL, Reg.FAULT_EVENT.HIST_LOST, Reg.FAULT_HIST_STATUS.LOST, Reg.DRV_STATUS.VDRV_OK, Reg.DRV_STATUS.LEG_FAULT, Reg.DRV_CARRIER_ACT.TOP, Reg.DRV_LEG_STATUS.CMP_ACT, Reg.DRV_LEG_STATUS.DESAT_HS, Reg.DRV_LEG_STATUS.DESAT_LS, Reg.DRV_LEG_STATUS.INSTANT, Reg.DRV_LEG_STATUS.VB_UV, Reg.DRV_LEG_STATUS.UVLO, Reg.DRV_LEG_STATUS.GATES_OFF, Reg.DRV_LEG_STATUS.MODE_ACT, Reg.DRV_EVENT.UVLO, Reg.MOT_STATE.STATE, Reg.MOT_EVENT.STATE, Reg.MOT_EVENT.OBS_LOST]
theorem State.vdrvUvlo_effect (s : State) (p1 : Nat) :
    Effect State.vdrvUvlo_touch State.vdrvUvlo_fields s (@State.vdrvUvlo s p1) := by
  unfold State.vdrvUvlo
  extract_lets x1 x2 x3
  have h4 : Effect State.vdrvUvlo_touch State.vdrvUvlo_fields s x2 := by
    refine Effect.after (Effect.power _ _) (by decide +kernel) ?_
    exact Effect.refl _ _ _
  try clear_value x2
  have h5 : Effect State.vdrvUvlo_touch State.vdrvUvlo_fields s x3 := by
    refine Effect.after (State.driveUnit_effect ..) (by decide +kernel) ?_
    refine Effect.after (State.waitEdges_effect ..) (by decide +kernel) ?_
    refine Effect.after (State.modDrv_effect ..) (by decide +kernel) ?_
    exact h4
  try clear_value x3
  try clear_value x1
  refine Effect.ite ?_ ?_
  · exact Effect.refl _ _ _
  · refine Effect.when ?_ ?_
    · exact h5
    · intro u6
      try beta_reduce
      refine Effect.after (State.vdrvMotor_effect ..) (by decide +kernel) ?_
      refine Effect.after (State.wr_effect ..) (by decide +kernel) ?_
      refine Effect.after (State.showVdrv_effect ..) (by decide +kernel) ?_
      exact Effect.refl _ _ _

def execRingPcieError_touch : List Part := [.time, .faults, .host, .fr, .out]
def execRingPcieError_fields : Option (List Field) := some [Reg.HOST_IRQ_PENDING.SOURCE, Reg.COLLECT_STATUS_LO.STATUS, Reg.COLLECT_STATUS_HI.STATUS, Reg.FAULT_COUNT_CORR.COUNT, Reg.FAULT_COUNT_CONT.COUNT, Reg.FAULT_COUNT_FATAL.COUNT, Reg.FAULT_EVENT.CORRECTED, Reg.FAULT_EVENT.CONTAINED, Reg.FAULT_EVENT.FATAL, Reg.FAULT_EVENT.HIST_LOST, Reg.FAULT_HIST_STATUS.LOST, Reg.JRN_RING_STATUS.STOPPED, Reg.TIME_STATUS.SLEWING, Reg.TIME_SLEW_REMAIN.VALUE]
theorem execRingPcieError_effect (p0 : Nat) (s : State) :
    ∃ n, execRingPcieError p0 s = .next n ∧ Effect execRingPcieError_touch execRingPcieError_fields s n := by
  unfold execRingPcieError done
  refine ⟨_, rfl, ?_⟩
  refine Effect.after (State.settle_effect ..) (by decide +kernel) ?_
  refine Effect.after (State.raise_effect ..) (by decide +kernel) ?_
  refine Effect.after (State.wr_effect ..) (by decide +kernel) ?_
  refine Effect.after (State.elapse_effect ..) (by decide +kernel) ?_
  exact Effect.refl _ _ _

def execJournalRecordCommitted_touch : List Part := [.time, .faults, .host, .fr, .journal, .out]
def execJournalRecordCommitted_fields : Option (List Field) := some [Reg.HOST_IRQ_PENDING.SOURCE, Reg.COLLECT_STATUS_LO.STATUS, Reg.COLLECT_STATUS_HI.STATUS, Reg.FAULT_COUNT_CORR.COUNT, Reg.FAULT_COUNT_CONT.COUNT, Reg.FAULT_COUNT_FATAL.COUNT, Reg.FAULT_EVENT.CORRECTED, Reg.FAULT_EVENT.CONTAINED, Reg.FAULT_EVENT.FATAL, Reg.FAULT_EVENT.HIST_LOST, Reg.FAULT_HIST_STATUS.LOST, Reg.JRN_STATUS.FILL, Reg.JRN_STATUS.MRAM_OK, Reg.JRN_STATUS.PAIR_MIRROR, Reg.JRN_ACCEPTED.COUNT, Reg.JRN_REFUSE.GAP, Reg.JRN_BUSY.BUSY, Reg.JRN_EVENT.MRAM_FAIL, Reg.JRN_SRC_LAST.LAST, Reg.JRN_CPL_TAIL.INDEX, Reg.JRN_RING_STATUS.PHASE, Reg.JRN_RING_STATUS.WAIT_CPL, Reg.TIME_STATUS.SLEWING, Reg.TIME_SLEW_REMAIN.VALUE, Reg.BB_STATUS.TX_IDLE]
theorem execJournalRecordCommitted_effect (p0 : RecordIn) (p1 : Nat) (s : State) :
    ∃ n, execJournalRecordCommitted p0 p1 s = .next n ∧ Effect execJournalRecordCommitted_touch execJournalRecordCommitted_fields s n := by
  unfold execJournalRecordCommitted done
  refine ⟨_, rfl, ?_⟩
  refine Effect.after (State.settle_effect ..) (by decide +kernel) ?_
  refine Effect.after (State.recordCommitted_effect ..) (by decide +kernel) ?_
  refine Effect.after (State.elapse_effect ..) (by decide +kernel) ?_
  exact Effect.refl _ _ _

def execSafeSelftestFail_touch : List Part := [.time, .faults, .host, .fr, .convs, .safety, .out]
def execSafeSelftestFail_fields : Option (List Field) := some [Reg.HOST_IRQ_PENDING.SOURCE, Reg.COLLECT_STATUS_LO.STATUS, Reg.COLLECT_STATUS_HI.STATUS, Reg.FAULT_COUNT_CORR.COUNT, Reg.FAULT_COUNT_CONT.COUNT, Reg.FAULT_COUNT_FATAL.COUNT, Reg.FAULT_EVENT.CORRECTED, Reg.FAULT_EVENT.CONTAINED, Reg.FAULT_EVENT.FATAL, Reg.FAULT_EVENT.HIST_LOST, Reg.FAULT_HIST_STATUS.LOST, Reg.SAFE_STATUS.A_OK, Reg.SAFE_STATUS.B_OK, Reg.SAFE_STATUS.DIAG, Reg.SAFE_STATUS.DIAG_CAUSE, Reg.SAFE_STATUS.RESET_PIN, Reg.SAFE_STATUS.DEMAND, Reg.SAFE_STATUS.LOCKED, Reg.SAFE_STATUS.DIAG_A, Reg.SAFE_STATUS.DIAG_B, Reg.SAFE_GROUP.STATE, Reg.SAFE_GROUP.KIND, Reg.SAFE_GROUP.STOP, Reg.SAFE_GROUP.CAUSE, Reg.SAFE_GROUP.PAIRS, Reg.SAFE_PAIR.CH_A, Reg.SAFE_PAIR.CH_B, Reg.SAFE_PAIR.DEMAND, Reg.SAFE_PAIR.PAIR_FAULT, Reg.SAFE_PAIR.FAULT_CAUSE, Reg.SAFE_PAIR.DEMANDS, Reg.SAFE_TPO.EN, Reg.SAFE_TPO.READBACK_FAULT, Reg.SAFE_FIRE.FIRE_A, Reg.SAFE_FIRE.FIRE_B, Reg.SAFE_FIRE.DRV_A, Reg.SAFE_FIRE.DRV_B, Reg.SAFE_RESET_STATUS.ARMED, Reg.SAFE_RESET_STATUS.RELEASED, Reg.SAFE_RESET_STATUS.REFUSED, Reg.SAFE_EVENT.DEMAND, Reg.SAFE_EVENT.STOPPING, Reg.SAFE_EVENT.REMOVED, Reg.SAFE_EVENT.DIAG, Reg.SAFE_EVENT.RESET_REFUSED, Reg.TIME_STATUS.SLEWING, Reg.TIME_SLEW_REMAIN.VALUE]
theorem execSafeSelftestFail_effect (p0 : Fin 2) (p1 : Nat) (s : State) :
    ∃ n, execSafeSelftestFail p0 p1 s = .next n ∧ Effect execSafeSelftestFail_touch execSafeSelftestFail_fields s n := by
  unfold execSafeSelftestFail done
  refine ⟨_, rfl, ?_⟩
  refine Effect.after (State.settle_effect ..) (by decide +kernel) ?_
  refine Effect.after (State.diagFail_effect ..) (by decide +kernel) ?_
  refine Effect.after (State.elapse_effect ..) (by decide +kernel) ?_
  exact Effect.refl _ _ _

def execBbPacketDiscard_touch : List Part := [.host, .out]
def execBbPacketDiscard_fields : Option (List Field) := some [Reg.HOST_IRQ_PENDING.SOURCE, Reg.BB_COUNT.CRC, Reg.BB_COUNT.TYPE]
theorem execBbPacketDiscard_effect (p0 : Fin 4) (p1 : Bool) (s : State) :
    ∃ n, execBbPacketDiscard p0 p1 s = .next n ∧ Effect execBbPacketDiscard_touch execBbPacketDiscard_fields s n := by
  unfold execBbPacketDiscard done
  refine ⟨_, rfl, ?_⟩
  refine Effect.after (State.settle_effect ..) (by decide +kernel) ?_
  refine Effect.after (State.bbDiscard_effect ..) (by decide +kernel) ?_
  exact Effect.refl _ _ _

end Sys2Proof.Machine
end

