-- ==== Sys2Proof/Laws/Frames7.lean ====
section
/-! SUPPORT. What every operation and every command may touch (part 7 of 8, in the order in which they are built on one another): for each a list
of parts, a list of register fields, and the effect with both, from every state. -/

namespace Sys2Proof.Machine

set_option Elab.async false

def execMemoryEccError_touch : List Part := [.time, .power, .faults, .host, .load, .fr, .images, .lanes, .cells, .arms, .engs, .convs, .referee, .journal, .safety, .out]
def execMemoryEccError_fields : Option (List Field) := some [Reg.ROLE_COUNT.LANE_SLICES, Reg.ROLE_COUNT.ARM_SLICES, Reg.ROLE_COUNT.RECORDER, Reg.ROLE_COUNT.MIRROR, Reg.ROLE_COUNT.SPARE, Reg.ROLE_COUNT.UNASSIGNED, Reg.DOMAIN_STATE.PLANE_A, Reg.DOMAIN_STATE.PLANE_B, Reg.CONV_STATE.STATE, Reg.CONV_STATE.CAUSE, Reg.CONV_STATE.SLEWING, Reg.CONV_STATE_FRAME.FRAME, Reg.CONV_RESIDUAL.E, Reg.CONV_COUNT.BLOCKS, Reg.CONV_EVENT.BLOCK, Reg.CONV_EVENT.RESYNC_FAIL, Reg.CONV_EVENT.COAST_LIMIT, Reg.CONV_EVENT_SRC.CONV, Reg.HOST_IRQ_PENDING.SOURCE, Reg.POWER_PGOOD.PGOOD, Reg.POWER_WAKE_FAIL.ITEM, Reg.POWER_WAKE_FAIL.KIND, Reg.POWER_EVENT.EVENTS, Reg.COLLECT_STATUS_LO.STATUS, Reg.COLLECT_STATUS_HI.STATUS, Reg.FAULT_COUNT_CORR.COUNT, Reg.FAULT_COUNT_CONT.COUNT, Reg.FAULT_COUNT_FATAL.COUNT, Reg.FAULT_EVENT.CORRECTED, Reg.FAULT_EVENT.CONTAINED, Reg.FAULT_EVENT.FATAL, Reg.FAULT_EVENT.HIST_LOST, Reg.FAULT_HIST_STATUS.LOST, Reg.REF_STATUS.STATE, Reg.REF_STATUS.ROLE_A, Reg.REF_STATUS.ROLE_B, Reg.REF_STATUS.LEASE, Reg.REF_HT_STATUS.OUTCOME, Reg.REF_TAKEOVER.LAST_CAUSE, Reg.REF_CKPT.NEWEST, Reg.REF_CKPT.VALID0, Reg.REF_CKPT.VALID1, Reg.REF_CKPT_SEQ.SEQ, Reg.REF_EVENT.UNFIT, Reg.JRN_STATUS.FILL, Reg.JRN_STATUS.HALF0_OK, Reg.JRN_STATUS.HALF1_OK, Reg.JRN_STATUS.EPOCH_CAUSE, Reg.JRN_EPOCH.EPOCH, Reg.JRN_EXEC.COUNT, Reg.JRN_ACCEPTED.COUNT, Reg.JRN_BUSY.OTHER, Reg.JRN_EVENT.NEW_EPOCH, Reg.JRN_EVENT.HALF_FAIL, Reg.JRN_SRC_LAST.LAST, Reg.JRN_CPL_TAIL.INDEX, Reg.JRN_RING_STATUS.PHASE, Reg.STALE_COUNT.STALE, Reg.IMAGE_SUBST_STATUS.BUSY, Reg.IMAGE_SLICE_FAIL.FAIL, Reg.IMAGE_EVENT.SPARE_LOW, Reg.ENG_STATUS.BALL, Reg.ENG_STATUS.SHADOW, Reg.ENG_STATUS.COLD, Reg.ENG_ECC.CORRECTED, Reg.ENG_ECC.UNCORRECTABLE, Reg.ENG_EVENT.ECC, Reg.ENG_EXPORT.VALUE, Reg.TIME_STATUS.SLEWING, Reg.TIME_SLEW_REMAIN.VALUE, Reg.LANE_STATUS.STATE, Reg.LANE_EVENT.LOST, Reg.SLICE_ROLE.STATE, Reg.ARM_STATUS.ACTIVE, Reg.ARM_PTR.PTR, Reg.CELL_VOLT.V_USED, Reg.CELL_VOLT.V2_USED, Reg.BB_STATUS.TX_IDLE]
theorem execMemoryEccError_effect (p0 : Fin 8) (p1 : Nat) (p2 : Bool) (p3 : Nat) (p4 : Nat) (s : State) :
    ∃ n, execMemoryEccError p0 p1 p2 p3 p4 s = .next n ∧ Effect execMemoryEccError_touch execMemoryEccError_fields s n := by
  unfold execMemoryEccError done
  refine ⟨_, rfl, ?_⟩
  refine Effect.after (State.settle_effect ..) (by decide +kernel) ?_
  refine Effect.after (State.memoryError_effect ..) (by decide +kernel) ?_
  refine Effect.after (State.elapse_effect ..) (by decide +kernel) ?_
  exact Effect.refl _ _ _

def execEthDmaError_touch : List Part := [.time, .faults, .host, .fr, .eths, .out]
def execEthDmaError_fields : Option (List Field) := some [Reg.HOST_IRQ_PENDING.SOURCE, Reg.COLLECT_STATUS_LO.STATUS, Reg.COLLECT_STATUS_HI.STATUS, Reg.FAULT_COUNT_CORR.COUNT, Reg.FAULT_COUNT_CONT.COUNT, Reg.FAULT_COUNT_FATAL.COUNT, Reg.FAULT_EVENT.CORRECTED, Reg.FAULT_EVENT.CONTAINED, Reg.FAULT_EVENT.FATAL, Reg.FAULT_EVENT.HIST_LOST, Reg.FAULT_HIST_STATUS.LOST, Reg.TIME_STATUS.SLEWING, Reg.TIME_SLEW_REMAIN.VALUE, Reg.ETH_EVENT.EVENTS]
theorem execEthDmaError_effect (p0 : Fin 2) (p1 : Bool) (p2 : Nat) (s : State) :
    ∃ n, execEthDmaError p0 p1 p2 s = .next n ∧ Effect execEthDmaError_touch execEthDmaError_fields s n := by
  unfold execEthDmaError done
  refine ⟨_, rfl, ?_⟩
  refine Effect.after (State.settle_effect ..) (by decide +kernel) ?_
  refine Effect.after (State.ethDmaError_effect ..) (by decide +kernel) ?_
  refine Effect.after (State.elapse_effect ..) (by decide +kernel) ?_
  exact Effect.refl _ _ _

def execSectionChecks_touch : List Part := [.time, .power, .host, .load, .fr, .out]
def execSectionChecks_fields : Option (List Field) := some [Reg.HOST_IRQ_PENDING.SOURCE, Reg.FRAME_PERIOD.PERIOD, Reg.FRAME_PHASE0.SAMPLE, Reg.FRAME_PHASE0.APPLY, Reg.FRAME_PHASE1.FREEZE, Reg.FRAME_PHASE1.COMPUTE_END, Reg.FRAME_PHASE2.RANK_END, Reg.FRAME_STATUS.RUNNING, Reg.IMAGE_STATUS.STATE, Reg.IMAGE_STATUS.SOURCE, Reg.IMAGE_STATUS.CODE, Reg.IMAGE_ERR_SECTION.INDEX, Reg.IMAGE_ERR_SECTION.TYPE, Reg.IMAGE_ERR_OFFSET.OFFSET, Reg.IMAGE_PRIMARY_CODE.CODE, Reg.IMAGE_EVENT.DONE, Reg.TIME_STATUS.SLEWING, Reg.TIME_SLEW_REMAIN.VALUE]
theorem execSectionChecks_effect (p0 : Nat) (s : State) :
    ∃ n, execSectionChecks p0 s = .next n ∧ Effect execSectionChecks_touch execSectionChecks_fields s n := by
  unfold execSectionChecks done
  refine ⟨_, rfl, ?_⟩
  refine Effect.after (State.settle_effect ..) (by decide +kernel) ?_
  refine Effect.after (State.sectionChecks_effect ..) (by decide +kernel) ?_
  refine Effect.after (State.elapse_effect ..) (by decide +kernel) ?_
  exact Effect.refl _ _ _

def execVdrvRecover_touch : List Part := [.time, .power, .faults, .host, .fr, .drives, .motors, .out]
def execVdrvRecover_fields : Option (List Field) := some [Reg.HOST_IRQ_PENDING.SOURCE, Reg.COLLECT_STATUS_LO.STATUS, Reg.COLLECT_STATUS_HI.STATUS, Reg.FAULT_COUNT_CORR.COUNT, Reg.FAULT_COUNT_CONT.COUNT, Reg.FAULT_COUNT_FATAL.COUNT, Reg.FAULT_EVENT.CORRECTED, Reg.FAULT_EVENT.CONTAINED, Reg.FAULT_EVENT.FATAL, Reg.FAULT_EVENT.HIST_LOST, Reg.FAULT_HIST_STATUS.LOST, Reg.TIME_STATUS.SLEWING, Reg.TIME_SLEW_REMAIN.VALUE, Reg.DRV_STATUS.VDRV_OK, Reg.DRV_STATUS.LEG_FAULT, Reg.DRV_CARRIER_ACT.TOP, Reg.DRV_LEG_STATUS.CMP_ACT, Reg.DRV_LEG_STATUS.DESAT_HS, Reg.DRV_LEG_STATUS.DESAT_LS, Reg.DRV_LEG_STATUS.INSTANT, Reg.DRV_LEG_STATUS.VB_UV, Reg.DRV_LEG_STATUS.UVLO, Reg.DRV_LEG_STATUS.GATES_OFF, Reg.DRV_LEG_STATUS.MODE_ACT, Reg.MOT_STATE.STATE, Reg.MOT_EVENT.STATE, Reg.MOT_EVENT.OBS_LOST]
theorem execVdrvRecover_effect (p0 : Fin 4) (p1 : Nat) (s : State) :
    ∃ n, execVdrvRecover p0 p1 s = .next n ∧ Effect execVdrvRecover_touch execVdrvRecover_fields s n := by
  unfold execVdrvRecover done
  refine ⟨_, rfl, ?_⟩
  refine Effect.after (State.settle_effect ..) (by decide +kernel) ?_
  refine Effect.after (State.vdrvRecover_effect ..) (by decide +kernel) ?_
  refine Effect.after (State.drvElapse_effect ..) (by decide +kernel) ?_
  exact Effect.refl _ _ _

def execLaneForceIdle_touch : List Part := [.time, .host, .fr, .lanes, .out]
def execLaneForceIdle_fields : Option (List Field) := some [Reg.HOST_IRQ_PENDING.SOURCE, Reg.TIME_STATUS.SLEWING, Reg.TIME_SLEW_REMAIN.VALUE, Reg.LANE_CTRL.FORCE_IDLE, Reg.LANE_STATUS.STATE, Reg.LANE_EVENT.LOST]
theorem execLaneForceIdle_effect (p0 : Fin 96) (p1 : Bool) (p2 : Nat) (s : State) :
    ∃ n, execLaneForceIdle p0 p1 p2 s = .next n ∧ Effect execLaneForceIdle_touch execLaneForceIdle_fields s n := by
  unfold execLaneForceIdle done
  refine ⟨_, rfl, ?_⟩
  refine Effect.after (State.settle_effect ..) (by decide +kernel) ?_
  refine Effect.after (State.forceIdle_effect ..) (by decide +kernel) ?_
  refine Effect.after (State.elapse_effect ..) (by decide +kernel) ?_
  exact Effect.refl _ _ _

def execFirstFatalClear_touch : List Part := [.host, .out]
def execFirstFatalClear_fields : Option (List Field) := some [Reg.HOST_IRQ_PENDING.SOURCE, Reg.FAULT_FIRST_FATAL.BIT, Reg.FAULT_FIRST_FATAL.VALID, Reg.FAULT_FIRST_FATAL.FRAME_VALID, Reg.FAULT_FIRST_FATAL.DETAIL, Reg.FAULT_FIRST_FRAME.VALUE, Reg.FAULT_FIRST_NS_LO.VALUE, Reg.FAULT_FIRST_NS_HI.VALUE]
theorem execFirstFatalClear_effect (s : State) :
    ∃ n, execFirstFatalClear s = .next n ∧ Effect execFirstFatalClear_touch execFirstFatalClear_fields s n := by
  unfold execFirstFatalClear done
  refine ⟨_, rfl, ?_⟩
  refine Effect.after (State.settle_effect ..) (by decide +kernel) ?_
  refine Effect.after (State.firstFatalClear_effect ..) (by decide +kernel) ?_
  exact Effect.refl _ _ _

def execCarrierValley_touch : List Part := [.time, .faults, .host, .fr, .drives, .motors, .out, .drawn]
def execCarrierValley_fields : Option (List Field) := some [Reg.HOST_IRQ_PENDING.SOURCE, Reg.COLLECT_STATUS_LO.STATUS, Reg.COLLECT_STATUS_HI.STATUS, Reg.FAULT_COUNT_CORR.COUNT, Reg.FAULT_COUNT_CONT.COUNT, Reg.FAULT_COUNT_FATAL.COUNT, Reg.FAULT_EVENT.CORRECTED, Reg.FAULT_EVENT.CONTAINED, Reg.FAULT_EVENT.FATAL, Reg.FAULT_EVENT.HIST_LOST, Reg.FAULT_HIST_STATUS.LOST, Reg.TIME_STATUS.SLEWING, Reg.TIME_SLEW_REMAIN.VALUE, Reg.DRV_STATUS.LATCHED, Reg.DRV_STATUS.LATCH_CAUSE, Reg.DRV_STATUS.LOAD_PENDING, Reg.DRV_STATUS.LEG_FAULT, Reg.DRV_CARRIER_ACT.TOP, Reg.DRV_CHOP_PERIOD.PERIOD, Reg.DRV_LEG_STATUS.CMP_ACT, Reg.DRV_LEG_STATUS.DESAT_HS, Reg.DRV_LEG_STATUS.DESAT_LS, Reg.DRV_LEG_STATUS.INSTANT, Reg.DRV_LEG_STATUS.VB_UV, Reg.DRV_LEG_STATUS.INPUT_ACTIVE, Reg.DRV_LEG_STATUS.GATES_OFF, Reg.DRV_LEG_STATUS.MODE_ACT, Reg.DRV_LEG_COUNT.SUPPRESSED, Reg.DRV_LEG_COUNT.FULL_ON, Reg.DRV_EVENT.LATCH, Reg.DRV_EVENT.LOAD_DONE, Reg.MOT_STATE.STATE, Reg.MOT_STATE.VLIMIT, Reg.MOT_STATE.ILIMIT, Reg.MOT_STATE.SIGNAL_LOST, Reg.MOT_STATE.CURVE_ON, Reg.MOT_STATE.SHED, Reg.MOT_STATE.THROTTLE, Reg.MOT_SPEED.REF, Reg.MOT_SPEED.EST, Reg.MOT_CMD.CMD, Reg.MOT_CMD.CONF, Reg.MOT_CURRENT.ID, Reg.MOT_CURRENT.IQ, Reg.MOT_BUS.VBUS, Reg.MOT_BUS.ADV, Reg.MOT_BUS.CHOP_D, Reg.MOT_INPUT.VALUE, Reg.MOT_COUNT.CATCH_OK, Reg.MOT_EVENT.STATE, Reg.MOT_EVENT.OBS_LOST, Reg.MOT_EVENT.VLIMIT, Reg.DRV_LOADALL.UNITS, Reg.DRV_LOAD_STATUS.DONE]
theorem execCarrierValley_effect (p0 : DrvIn) (p1 : Int) (p2 : Nat) (p3 : Nat) (p4 : Bool) (p5 : Int × Int) (p6 : Nat) (s : State) :
    ∃ n, execCarrierValley p0 p1 p2 p3 p4 p5 p6 s = .next n ∧ Effect execCarrierValley_touch execCarrierValley_fields s n := by
  unfold execCarrierValley done
  refine ⟨_, rfl, ?_⟩
  refine Effect.after (State.settle_effect ..) (by decide +kernel) ?_
  refine Effect.after (State.carrierValley_effect ..) (by decide +kernel) ?_
  refine Effect.after (State.drvSees_effect ..) (by decide +kernel) ?_
  refine Effect.after (State.elapse_effect ..) (by decide +kernel) ?_
  exact Effect.refl _ _ _

def execCanRecoveryDone_touch : List Part := [.time, .host, .fr, .out]
def execCanRecoveryDone_fields : Option (List Field) := some [Reg.HOST_IRQ_PENDING.SOURCE, Reg.TIME_STATUS.SLEWING, Reg.TIME_SLEW_REMAIN.VALUE, Reg.CAN_STATUS.STATE, Reg.CAN_STATUS.WARNING, Reg.CAN_STATUS.RECOVERING, Reg.CAN_ERRCNT.TEC, Reg.CAN_ERRCNT.REC, Reg.CAN_EVENT.EVENTS]
theorem execCanRecoveryDone_effect (p0 : Fin 4) (p1 : Nat) (s : State) :
    ∃ n, execCanRecoveryDone p0 p1 s = .next n ∧ Effect execCanRecoveryDone_touch execCanRecoveryDone_fields s n := by
  unfold execCanRecoveryDone done
  refine ⟨_, rfl, ?_⟩
  refine Effect.after (State.settle_effect ..) (by decide +kernel) ?_
  refine Effect.after (State.canRecovered_effect ..) (by decide +kernel) ?_
  refine Effect.after (State.elapse_effect ..) (by decide +kernel) ?_
  exact Effect.refl _ _ _

def execEpochBurn_touch : List Part := [.time, .host, .load, .fr, .out]
def execEpochBurn_fields : Option (List Field) := some [Reg.HOST_IRQ_PENDING.SOURCE, Reg.KEY_STATUS.BUSY, Reg.KEY_STATUS.RESULT, Reg.TIME_STATUS.SLEWING, Reg.TIME_SLEW_REMAIN.VALUE]
theorem execEpochBurn_effect (p0 : Nat) (s : State) :
    ∃ n, execEpochBurn p0 s = .next n ∧ Effect execEpochBurn_touch execEpochBurn_fields s n := by
  unfold execEpochBurn done
  refine ⟨_, rfl, ?_⟩
  refine Effect.after (State.settle_effect ..) (by decide +kernel) ?_
  refine Effect.after (State.epochBurn_effect ..) (by decide +kernel) ?_
  refine Effect.after (State.elapse_effect ..) (by decide +kernel) ?_
  exact Effect.refl _ _ _

def execCanFlush_touch : List Part := [.host, .canQueues, .cans, .out]
def execCanFlush_fields : Option (List Field) := some [Reg.HOST_IRQ_PENDING.SOURCE, Reg.CAN_TXQ.FILL]
theorem execCanFlush_effect (p0 : Nat) (p1 : Nat) (s : State) :
    ∃ n, execCanFlush p0 p1 s = .next n ∧ Effect execCanFlush_touch execCanFlush_fields s n := by
  unfold execCanFlush done
  refine ⟨_, rfl, ?_⟩
  refine Effect.after (State.settle_effect ..) (by decide +kernel) ?_
  refine Effect.after (State.cmdCanFlush_effect ..) (by decide +kernel) ?_
  exact Effect.refl _ _ _

def execRevive_touch : List Part := [.time, .power, .faults, .host, .fr, .cells, .arms, .engs, .convs, .referee, .out]
def execRevive_fields : Option (List Field) := some [Reg.DOMAIN_STATE.PLANE_A, Reg.DOMAIN_STATE.PLANE_B, Reg.CONV_STATE.STATE, Reg.CONV_STATE.CAUSE, Reg.CONV_STATE.SLEWING, Reg.CONV_STATE_FRAME.FRAME, Reg.CONV_RESIDUAL.E, Reg.CONV_COUNT.BLOCKS, Reg.CONV_EVENT.BLOCK, Reg.CONV_EVENT.RESYNC_FAIL, Reg.CONV_EVENT.COAST_LIMIT, Reg.CONV_EVENT_SRC.CONV, Reg.HOST_IRQ_PENDING.SOURCE, Reg.POWER_PGOOD.PGOOD, Reg.COLLECT_STATUS_LO.STATUS, Reg.COLLECT_STATUS_HI.STATUS, Reg.FAULT_COUNT_CORR.COUNT, Reg.FAULT_COUNT_CONT.COUNT, Reg.FAULT_COUNT_FATAL.COUNT, Reg.FAULT_EVENT.CORRECTED, Reg.FAULT_EVENT.CONTAINED, Reg.FAULT_EVENT.FATAL, Reg.FAULT_EVENT.HIST_LOST, Reg.FAULT_HIST_STATUS.LOST, Reg.REF_STATUS.STATE, Reg.REF_STATUS.ROLE_A, Reg.REF_STATUS.ROLE_B, Reg.REF_STATUS.LEASE, Reg.REF_HT_STATUS.MATCHED, Reg.REF_HT_STATUS.OUTCOME, Reg.REF_EVENT.UNFIT, Reg.ENG_STATUS.BALL, Reg.ENG_STATUS.SHADOW, Reg.ENG_STATUS.COLD, Reg.ENG_EXPORT.VALUE, Reg.TIME_STATUS.SLEWING, Reg.TIME_SLEW_REMAIN.VALUE, Reg.ARM_PTR.PTR]
theorem execRevive_effect (p0 : Nat) (s : State) :
    ∃ n, execRevive p0 s = .next n ∧ Effect execRevive_touch execRevive_fields s n := by
  unfold execRevive done
  refine ⟨_, rfl, ?_⟩
  refine Effect.after (State.settle_effect ..) (by decide +kernel) ?_
  refine Effect.after (State.revive_effect ..) (by decide +kernel) ?_
  refine Effect.after (State.elapse_effect ..) (by decide +kernel) ?_
  exact Effect.refl _ _ _

def execDsOutput_touch : List Part := [.time, .host, .fr, .adc, .drives, .out]
def execDsOutput_fields : Option (List Field) := some [Reg.HOST_IRQ_PENDING.SOURCE, Reg.ADC_CTRL.COMMIT, Reg.ADC_EVENT.DS_INVALID, Reg.ADC_DS_RESULT.FLAGS, Reg.ADC_DS_RESULT.SETTLE, Reg.ADC_DS_VALUE.VALUE, Reg.TIME_STATUS.SLEWING, Reg.TIME_SLEW_REMAIN.VALUE, Reg.DRV_STATUS.LEG_FAULT, Reg.DRV_LEG_STATUS.DESAT_HS, Reg.DRV_LEG_STATUS.DESAT_LS, Reg.DRV_LEG_STATUS.INSTANT, Reg.DRV_LEG_STATUS.VB_UV, Reg.DRV_LEG_STATUS.GATES_OFF]
theorem execDsOutput_effect (p0 : Fin 4) (p1 : Fin 4) (p2 : List Bool) (p3 : Nat) (s : State) :
    ∃ n, execDsOutput p0 p1 p2 p3 s = .next n ∧ Effect execDsOutput_touch execDsOutput_fields s n := by
  unfold execDsOutput done
  refine ⟨_, rfl, ?_⟩
  refine Effect.after (State.settle_effect ..) (by decide +kernel) ?_
  refine Effect.after (State.probeOver_effect ..) (by decide +kernel) ?_
  refine Effect.after (State.dsOutput_effect ..) (by decide +kernel) ?_
  refine Effect.after (State.elapse_effect ..) (by decide +kernel) ?_
  exact Effect.refl _ _ _

def execPowerClearVinMin_touch : List Part := [.host, .out]
def execPowerClearVinMin_fields : Option (List Field) := some [Reg.HOST_IRQ_PENDING.SOURCE, Reg.POWER_VIN.MIN]
theorem execPowerClearVinMin_effect (s : State) :
    ∃ n, execPowerClearVinMin s = .next n ∧ Effect execPowerClearVinMin_touch execPowerClearVinMin_fields s n := by
  unfold execPowerClearVinMin done
  refine ⟨_, rfl, ?_⟩
  refine Effect.after (State.settle_effect ..) (by decide +kernel) ?_
  refine Effect.after (State.wr_effect ..) (by decide +kernel) ?_
  exact Effect.refl _ _ _

def execMotChopReset_touch : List Part := [.host, .out]
def execMotChopReset_fields : Option (List Field) := some [Reg.HOST_IRQ_PENDING.SOURCE, Reg.MOT_STATE.CHOP_FAULT]
theorem execMotChopReset_effect (p0 : Fin 4) (s : State) :
    ∃ n, execMotChopReset p0 s = .next n ∧ Effect execMotChopReset_touch execMotChopReset_fields s n := by
  unfold execMotChopReset done
  refine ⟨_, rfl, ?_⟩
  refine Effect.after (State.settle_effect ..) (by decide +kernel) ?_
  refine Effect.after (State.chopReset_effect ..) (by decide +kernel) ?_
  exact Effect.refl _ _ _

def execDriveOtShutdown_touch : List Part := [.time, .faults, .host, .fr, .drives, .out]
def execDriveOtShutdown_fields : Option (List Field) := some [Reg.HOST_IRQ_PENDING.SOURCE, Reg.COLLECT_STATUS_LO.STATUS, Reg.COLLECT_STATUS_HI.STATUS, Reg.FAULT_COUNT_CORR.COUNT, Reg.FAULT_COUNT_CONT.COUNT, Reg.FAULT_COUNT_FATAL.COUNT, Reg.FAULT_EVENT.CORRECTED, Reg.FAULT_EVENT.CONTAINED, Reg.FAULT_EVENT.FATAL, Reg.FAULT_EVENT.HIST_LOST, Reg.FAULT_HIST_STATUS.LOST, Reg.TIME_STATUS.SLEWING, Reg.TIME_SLEW_REMAIN.VALUE, Reg.DRV_STATUS.OT_SHUT, Reg.DRV_STATUS.LEG_FAULT, Reg.DRV_LEG_STATUS.DESAT_HS, Reg.DRV_LEG_STATUS.DESAT_LS, Reg.DRV_LEG_STATUS.INSTANT, Reg.DRV_LEG_STATUS.VB_UV, Reg.DRV_LEG_STATUS.GATES_OFF, Reg.DRV_EVENT.OT_SHUT]
theorem execDriveOtShutdown_effect (p0 : Fin 4) (p1 : Nat) (s : State) :
    ∃ n, execDriveOtShutdown p0 p1 s = .next n ∧ Effect execDriveOtShutdown_touch execDriveOtShutdown_fields s n := by
  unfold execDriveOtShutdown done
  refine ⟨_, rfl, ?_⟩
  refine Effect.after (State.settle_effect ..) (by decide +kernel) ?_
  refine Effect.after (State.driveOt_effect ..) (by decide +kernel) ?_
  refine Effect.after (State.drvElapse_effect ..) (by decide +kernel) ?_
  exact Effect.refl _ _ _

def execTimeSlewDone_touch : List Part := [.time, .host, .fr, .out]
def execTimeSlewDone_fields : Option (List Field) := some [Reg.HOST_IRQ_PENDING.SOURCE, Reg.TIME_STATUS.SLEWING, Reg.TIME_SLEW_REMAIN.VALUE]
theorem execTimeSlewDone_effect (p0 : Nat) (s : State) :
    ∃ n, execTimeSlewDone p0 s = .next n ∧ Effect execTimeSlewDone_touch execTimeSlewDone_fields s n := by
  unfold execTimeSlewDone done
  refine ⟨_, rfl, ?_⟩
  refine Effect.after (State.settle_effect ..) (by decide +kernel) ?_
  refine Effect.after (State.showSlew_effect ..) (by decide +kernel) ?_
  refine Effect.after (State.elapse_effect ..) (by decide +kernel) ?_
  exact Effect.refl _ _ _

def execDrvLoadall_touch : List Part := [.time, .faults, .host, .fr, .drives, .motors, .out]
def execDrvLoadall_fields : Option (List Field) := some [Reg.HOST_IRQ_PENDING.SOURCE, Reg.COLLECT_STATUS_LO.STATUS, Reg.COLLECT_STATUS_HI.STATUS, Reg.FAULT_COUNT_CORR.COUNT, Reg.FAULT_COUNT_CONT.COUNT, Reg.FAULT_COUNT_FATAL.COUNT, Reg.FAULT_EVENT.CORRECTED, Reg.FAULT_EVENT.CONTAINED, Reg.FAULT_EVENT.FATAL, Reg.FAULT_EVENT.HIST_LOST, Reg.FAULT_HIST_STATUS.LOST, Reg.TIME_STATUS.SLEWING, Reg.TIME_SLEW_REMAIN.VALUE, Reg.DRV_STATUS.LOAD_PENDING, Reg.DRV_STATUS.LEG_FAULT, Reg.DRV_CARRIER_ACT.TOP, Reg.DRV_LEG_STATUS.CMP_ACT, Reg.DRV_LEG_STATUS.DESAT_HS, Reg.DRV_LEG_STATUS.DESAT_LS, Reg.DRV_LEG_STATUS.INSTANT, Reg.DRV_LEG_STATUS.VB_UV, Reg.DRV_LEG_STATUS.GATES_OFF, Reg.DRV_LEG_STATUS.MODE_ACT, Reg.DRV_LEG_COUNT.SUPPRESSED, Reg.DRV_LEG_COUNT.FULL_ON, Reg.DRV_EVENT.LOAD_DONE, Reg.DRV_EVENT.LOAD_ERR, Reg.MOT_STATE.STATE, Reg.MOT_EVENT.STATE, Reg.MOT_EVENT.OBS_LOST, Reg.DRV_LOADALL.UNITS, Reg.DRV_LOAD_STATUS.DONE, Reg.DRV_LOAD_STATUS.ERR]
theorem execDrvLoadall_effect (p0 : Nat) (p1 : Nat) (s : State) :
    ∃ n, execDrvLoadall p0 p1 s = .next n ∧ Effect execDrvLoadall_touch execDrvLoadall_fields s n := by
  unfold execDrvLoadall done
  refine ⟨_, rfl, ?_⟩
  refine Effect.after (State.settle_effect ..) (by decide +kernel) ?_
  refine Effect.after (State.loadAll_effect ..) (by decide +kernel) ?_
  refine Effect.after (State.elapse_effect ..) (by decide +kernel) ?_
  exact Effect.refl _ _ _

def execKeepCounterCopy_touch : List Part := [.time, .host, .fr, .out]
def execKeepCounterCopy_fields : Option (List Field) := some [Reg.HOST_IRQ_PENDING.SOURCE, Reg.TIME_STATUS.SLEWING, Reg.TIME_SLEW_REMAIN.VALUE]
theorem execKeepCounterCopy_effect (p0 : Nat) (s : State) :
    ∃ n, execKeepCounterCopy p0 s = .next n ∧ Effect execKeepCounterCopy_touch execKeepCounterCopy_fields s n := by
  unfold execKeepCounterCopy done
  extract_lets x1
  have h2 : Effect execKeepCounterCopy_touch execKeepCounterCopy_fields s x1 := by
    refine Effect.after (State.elapse_effect ..) (by decide +kernel) ?_
    exact Effect.refl _ _ _
  try clear_value x1
  refine ⟨_, rfl, ?_⟩
  refine Effect.after (State.settle_effect ..) (by decide +kernel) ?_
  refine Effect.ite ?_ ?_
  · exact h2
  · refine Effect.after (State.keepCopy_effect ..) (by decide +kernel) ?_
    exact h2

def execPlaneErrorLine_touch : List Part := [.time, .power, .faults, .host, .fr, .cells, .arms, .engs, .convs, .referee, .out]
def execPlaneErrorLine_fields : Option (List Field) := some [Reg.DOMAIN_STATE.PLANE_A, Reg.DOMAIN_STATE.PLANE_B, Reg.CONV_STATE.STATE, Reg.CONV_STATE.CAUSE, Reg.CONV_STATE.SLEWING, Reg.CONV_STATE_FRAME.FRAME, Reg.CONV_RESIDUAL.E, Reg.CONV_COUNT.BLOCKS, Reg.CONV_EVENT.BLOCK, Reg.CONV_EVENT.RESYNC_FAIL, Reg.CONV_EVENT.COAST_LIMIT, Reg.CONV_EVENT_SRC.CONV, Reg.HOST_IRQ_PENDING.SOURCE, Reg.POWER_PGOOD.PGOOD, Reg.COLLECT_STATUS_LO.STATUS, Reg.COLLECT_STATUS_HI.STATUS, Reg.FAULT_COUNT_CORR.COUNT, Reg.FAULT_COUNT_CONT.COUNT, Reg.FAULT_COUNT_FATAL.COUNT, Reg.FAULT_EVENT.CORRECTED, Reg.FAULT_EVENT.CONTAINED, Reg.FAULT_EVENT.FATAL, Reg.FAULT_EVENT.HIST_LOST, Reg.FAULT_HIST_STATUS.LOST, Reg.REF_STATUS.STATE, Reg.REF_STATUS.ROLE_A, Reg.REF_STATUS.ROLE_B, Reg.REF_STATUS.LEASE, Reg.REF_TAKEOVER.LAST_CAUSE, Reg.REF_EVENT.UNFIT, Reg.ENG_STATUS.BALL, Reg.ENG_STATUS.SHADOW, Reg.ENG_STATUS.COLD, Reg.ENG_EXPORT.VALUE, Reg.TIME_STATUS.SLEWING, Reg.TIME_SLEW_REMAIN.VALUE, Reg.ARM_PTR.PTR]
theorem execPlaneErrorLine_effect (p0 : Fin 2) (p1 : Nat) (s : State) :
    ∃ n, execPlaneErrorLine p0 p1 s = .next n ∧ Effect execPlaneErrorLine_touch execPlaneErrorLine_fields s n := by
  unfold execPlaneErrorLine done
  extract_lets x1
  have h2 : Effect execPlaneErrorLine_touch execPlaneErrorLine_fields s x1 := by
    refine Effect.after (State.elapse_effect ..) (by decide +kernel) ?_
    exact Effect.refl _ _ _
  try clear_value x1
  refine ⟨_, rfl, ?_⟩
  refine Effect.after (State.settle_effect ..) (by decide +kernel) ?_
  refine Effect.ite ?_ ?_
  · refine Effect.after (State.withdraw_effect ..) (by decide +kernel) ?_
    exact h2
  · exact h2

def execHelloSend_touch : List Part := [.time, .host, .fr, .out]
def execHelloSend_fields : Option (List Field) := some [Reg.HOST_IRQ_PENDING.SOURCE, Reg.TIME_STATUS.SLEWING, Reg.TIME_SLEW_REMAIN.VALUE, Reg.BB_STATUS.TX_IDLE]
theorem execHelloSend_effect (p0 : Fin 4) (p1 : Nat) (s : State) :
    ∃ n, execHelloSend p0 p1 s = .next n ∧ Effect execHelloSend_touch execHelloSend_fields s n := by
  unfold execHelloSend done
  extract_lets x1
  have h2 : Effect execHelloSend_touch execHelloSend_fields s x1 := by
    refine Effect.after (State.elapse_effect ..) (by decide +kernel) ?_
    exact Effect.refl _ _ _
  try clear_value x1
  refine ⟨_, rfl, ?_⟩
  refine Effect.after (State.settle_effect ..) (by decide +kernel) ?_
  refine Effect.after (State.send_effect ..) (by decide +kernel) ?_
  exact h2

def execTSample_touch : List Part := [.time, .host, .fr, .adc, .out]
def execTSample_fields : Option (List Field) := some [Reg.HOST_IRQ_PENDING.SOURCE, Reg.TIME_STATUS.SLEWING, Reg.TIME_SLEW_REMAIN.VALUE]
theorem execTSample_effect (p0 : Nat) (s : State) :
    ∃ n, execTSample p0 s = .next n ∧ Effect execTSample_touch execTSample_fields s n := by
  unfold execTSample done
  extract_lets x1
  have h2 : Effect execTSample_touch execTSample_fields s x1 := by
    refine Effect.after (State.elapse_effect ..) (by decide +kernel) ?_
    exact Effect.refl _ _ _
  try clear_value x1
  refine ⟨_, rfl, ?_⟩
  refine Effect.after (State.settle_effect ..) (by decide +kernel) ?_
  refine Effect.ite ?_ ?_
  · refine Effect.after (State.sampleDs_effect ..) (by decide +kernel) ?_
    exact h2
  · exact h2

def execImageFetchDone_touch : List Part := [.time, .power, .host, .load, .fr, .out]
def execImageFetchDone_fields : Option (List Field) := some [Reg.HOST_IRQ_PENDING.SOURCE, Reg.FRAME_STATUS.RUNNING, Reg.IMAGE_STATUS.STATE, Reg.IMAGE_STATUS.SOURCE, Reg.IMAGE_STATUS.CODE, Reg.IMAGE_ERR_SECTION.INDEX, Reg.IMAGE_ERR_SECTION.TYPE, Reg.IMAGE_ERR_OFFSET.OFFSET, Reg.IMAGE_PRIMARY_CODE.CODE, Reg.IMAGE_BOOT.SFDP_OK, Reg.IMAGE_BOOT.SECONDARY, Reg.IMAGE_BOOT.DENSITY_MB, Reg.IMAGE_EVENT.DONE, Reg.TIME_STATUS.SLEWING, Reg.TIME_SLEW_REMAIN.VALUE]
theorem execImageFetchDone_effect (p0 : Bool) (p1 : Nat) (p2 : List Byte) (p3 : Nat) (s : State) :
    ∃ n, execImageFetchDone p0 p1 p2 p3 s = .next n ∧ Effect execImageFetchDone_touch execImageFetchDone_fields s n := by
  unfold execImageFetchDone done
  refine ⟨_, rfl, ?_⟩
  refine Effect.after (State.settle_effect ..) (by decide +kernel) ?_
  refine Effect.after (State.fetchDone_effect ..) (by decide +kernel) ?_
  refine Effect.after (State.elapse_effect ..) (by decide +kernel) ?_
  exact Effect.refl _ _ _

def execAnalogOff_touch : List Part := [.time, .power, .host, .fr, .out]
def execAnalogOff_fields : Option (List Field) := some [Reg.HOST_IRQ_PENDING.SOURCE, Reg.POWER_DOMAIN_CTRL.ANALOG_OFF, Reg.POWER_ENTRY_STATUS.RESULT, Reg.POWER_ENTRY_STATUS.DOMAIN, Reg.POWER_ENTRY_STATUS.RETRIES, Reg.TIME_STATUS.SLEWING, Reg.TIME_SLEW_REMAIN.VALUE]
theorem execAnalogOff_effect (p0 : Bool) (p1 : Nat) (s : State) :
    ∃ n, execAnalogOff p0 p1 s = .next n ∧ Effect execAnalogOff_touch execAnalogOff_fields s n := by
  unfold execAnalogOff done
  refine ⟨_, rfl, ?_⟩
  refine Effect.after (State.settle_effect ..) (by decide +kernel) ?_
  refine Effect.after (State.analogOffWrite_effect ..) (by decide +kernel) ?_
  refine Effect.after (State.elapse_effect ..) (by decide +kernel) ?_
  exact Effect.refl _ _ _

def execQuietTimeout_touch : List Part := [.time, .host, .fr, .out]
def execQuietTimeout_fields : Option (List Field) := some [Reg.HOST_IRQ_PENDING.SOURCE, Reg.FAULT_STATE.CONTAINED, Reg.RECOVERY_COUNT.COUNT, Reg.FAULT_EVENT.RECOVERED, Reg.TIME_STATUS.SLEWING, Reg.TIME_SLEW_REMAIN.VALUE]
theorem execQuietTimeout_effect (p0 : Nat) (s : State) :
    ∃ n, execQuietTimeout p0 s = .next n ∧ Effect execQuietTimeout_touch execQuietTimeout_fields s n := by
  unfold execQuietTimeout done
  refine ⟨_, rfl, ?_⟩
  refine Effect.after (State.settle_effect ..) (by decide +kernel) ?_
  refine Effect.after (State.quietTimeout_effect ..) (by decide +kernel) ?_
  refine Effect.after (State.elapse_effect ..) (by decide +kernel) ?_
  exact Effect.refl _ _ _

def execUplinkTrainCrc_touch : List Part := [.host, .out]
def execUplinkTrainCrc_fields : Option (List Field) := some [Reg.HOST_IRQ_PENDING.SOURCE, Reg.LANE_CRC32_ERR.TRAIN]
theorem execUplinkTrainCrc_effect (p0 : Fin 96) (p1 : List Byte) (p2 : Nat) (s : State) :
    ∃ n, execUplinkTrainCrc p0 p1 p2 s = .next n ∧ Effect execUplinkTrainCrc_touch execUplinkTrainCrc_fields s n := by
  unfold execUplinkTrainCrc done
  refine ⟨_, rfl, ?_⟩
  refine Effect.after (State.settle_effect ..) (by decide +kernel) ?_
  refine Effect.when ?_ ?_
  · exact Effect.refl _ _ _
  · intro u1
    try beta_reduce
    refine Effect.after (State.bump_effect ..) (by decide +kernel) ?_
    exact Effect.refl _ _ _

def execCanTxComplete_touch : List Part := [.time, .faults, .host, .fr, .canQueues, .cans, .out]
def execCanTxComplete_fields : Option (List Field) := some [Reg.HOST_IRQ_PENDING.SOURCE, Reg.COLLECT_STATUS_LO.STATUS, Reg.COLLECT_STATUS_HI.STATUS, Reg.FAULT_COUNT_CORR.COUNT, Reg.FAULT_COUNT_CONT.COUNT, Reg.FAULT_COUNT_FATAL.COUNT, Reg.FAULT_EVENT.CORRECTED, Reg.FAULT_EVENT.CONTAINED, Reg.FAULT_EVENT.FATAL, Reg.FAULT_EVENT.HIST_LOST, Reg.FAULT_HIST_STATUS.LOST, Reg.TIME_STATUS.SLEWING, Reg.TIME_SLEW_REMAIN.VALUE, Reg.CAN_STATUS.STATE, Reg.CAN_STATUS.WARNING, Reg.CAN_ERRCNT.TEC, Reg.CAN_TXQ.FILL, Reg.CAN_TXQ.LATE, Reg.CAN_TXE_STATUS.COUNT, Reg.CAN_TXE_STATUS.OVF, Reg.CAN_RX_STATUS.OWNED, Reg.CAN_RX_STATUS.OVF, Reg.CAN_RX_STATUS.DROPPED, Reg.CAN_EVENT.EVENTS, Reg.CAN_RX_ID.ID, Reg.CAN_RX_ID.RTR, Reg.CAN_RX_ID.IDE, Reg.CAN_RX_ID.VALID, Reg.CAN_RX_INFO.DLC, Reg.CAN_RX_INFO.FDF, Reg.CAN_RX_INFO.BRS, Reg.CAN_RX_INFO.ESI, Reg.CAN_RX_INFO.LOOP, Reg.CAN_RX_INFO.FILTER, Reg.CAN_RX_INFO.UNFILTERED, Reg.CAN_RX_NS_LO.NS, Reg.CAN_RX_NS_HI.NS, Reg.CAN_RX_FRAME.FRAME, Reg.CAN_RX_DATA0.DATA, Reg.CAN_RX_DATA1.DATA, Reg.CAN_RX_DATA2.DATA, Reg.CAN_RX_DATA3.DATA, Reg.CAN_RX_DATA4.DATA, Reg.CAN_RX_DATA5.DATA, Reg.CAN_RX_DATA6.DATA, Reg.CAN_RX_DATA7.DATA, Reg.CAN_RX_DATA8.DATA, Reg.CAN_RX_DATA9.DATA, Reg.CAN_RX_DATA10.DATA, Reg.CAN_RX_DATA11.DATA, Reg.CAN_RX_DATA12.DATA, Reg.CAN_RX_DATA13.DATA, Reg.CAN_RX_DATA14.DATA, Reg.CAN_RX_DATA15.DATA]
theorem execCanTxComplete_effect (p0 : Fin 4) (p1 : Nat) (p2 : Nat) (p3 : Nat) (s : State) :
    ∃ n, execCanTxComplete p0 p1 p2 p3 s = .next n ∧ Effect execCanTxComplete_touch execCanTxComplete_fields s n := by
  unfold execCanTxComplete done
  refine ⟨_, rfl, ?_⟩
  refine Effect.after (State.settle_effect ..) (by decide +kernel) ?_
  refine Effect.after (State.canComplete_effect ..) (by decide +kernel) ?_
  refine Effect.after (State.elapse_effect ..) (by decide +kernel) ?_
  exact Effect.refl _ _ _

def execRingRestart_touch : List Part := [.wrHold, .host, .out]
def execRingRestart_fields : Option (List Field) := some [Reg.HOST_IRQ_PENDING.SOURCE, Reg.JRN_CMD_BASE_LO.ADDR, Reg.JRN_CMD_BASE_HI.ADDR, Reg.JRN_CMD_HEAD.INDEX, Reg.JRN_CMD_TAIL.INDEX, Reg.JRN_CPL_BASE_LO.ADDR, Reg.JRN_CPL_BASE_HI.ADDR, Reg.JRN_CPL_HEAD.INDEX, Reg.JRN_CPL_TAIL.INDEX, Reg.JRN_RING_STATUS.STOPPED, Reg.JRN_RING_STATUS.PHASE, Reg.JRN_RING_STATUS.WAIT_CPL]
theorem execRingRestart_effect (p0 : Bool) (p1 : Nat) (s : State) :
    ∃ n, execRingRestart p0 p1 s = .next n ∧ Effect execRingRestart_touch execRingRestart_fields s n := by
  unfold execRingRestart done
  refine ⟨_, rfl, ?_⟩
  refine Effect.after (State.settle_effect ..) (by decide +kernel) ?_
  refine Effect.after (State.ringRestart_effect ..) (by decide +kernel) ?_
  exact Effect.refl _ _ _

def execFrameClearGaps_touch : List Part := [.host, .out]
def execFrameClearGaps_fields : Option (List Field) := some [Reg.HOST_IRQ_PENDING.SOURCE, Reg.PLAN_BG_STATUS.GAPS]
theorem execFrameClearGaps_effect (s : State) :
    ∃ n, execFrameClearGaps s = .next n ∧ Effect execFrameClearGaps_touch execFrameClearGaps_fields s n := by
  unfold execFrameClearGaps done
  refine ⟨_, rfl, ?_⟩
  refine Effect.after (State.settle_effect ..) (by decide +kernel) ?_
  refine Effect.after (State.wr_effect ..) (by decide +kernel) ?_
  exact Effect.refl _ _ _

def execHostCommandTake_touch : List Part := [.time, .host, .fr, .pair, .journal, .out]
def execHostCommandTake_fields : Option (List Field) := some [Reg.HOST_IRQ_PENDING.SOURCE, Reg.JRN_REFUSE.GAP, Reg.JRN_REFUSE.REPEATED, Reg.JRN_BUSY.BUSY, Reg.JRN_BUSY.OTHER, Reg.JRN_EVENT.FULL, Reg.JRN_CMD_HEAD.INDEX, Reg.JRN_CPL_TAIL.INDEX, Reg.JRN_RING_STATUS.PHASE, Reg.JRN_RING_STATUS.WAIT_CPL, Reg.TIME_STATUS.SLEWING, Reg.TIME_SLEW_REMAIN.VALUE, Reg.BB_STATUS.TX_IDLE]
theorem execHostCommandTake_effect (p0 : List Byte) (p1 : Nat) (s : State) :
    ∃ n, execHostCommandTake p0 p1 s = .next n ∧ Effect execHostCommandTake_touch execHostCommandTake_fields s n := by
  unfold execHostCommandTake done
  refine ⟨_, rfl, ?_⟩
  refine Effect.after (State.settle_effect ..) (by decide +kernel) ?_
  refine Effect.after (State.takeCommand_effect ..) (by decide +kernel) ?_
  refine Effect.after (State.elapse_effect ..) (by decide +kernel) ?_
  exact Effect.refl _ _ _

def execJrnHalfRebuilt_touch : List Part := [.host, .journal, .out]
def execJrnHalfRebuilt_fields : Option (List Field) := some [Reg.HOST_IRQ_PENDING.SOURCE, Reg.JRN_STATUS.HALF0_OK, Reg.JRN_STATUS.HALF1_OK]
theorem execJrnHalfRebuilt_effect (p0 : Fin 2) (s : State) :
    ∃ n, execJrnHalfRebuilt p0 s = .next n ∧ Effect execJrnHalfRebuilt_touch execJrnHalfRebuilt_fields s n := by
  unfold execJrnHalfRebuilt done
  refine ⟨_, rfl, ?_⟩
  refine Effect.after (State.settle_effect ..) (by decide +kernel) ?_
  refine Effect.after (State.showHalves_effect ..) (by decide +kernel) ?_
  refine Effect.after (State.modJrn_effect ..) (by decide +kernel) ?_
  exact Effect.refl _ _ _

def execCoeffWrite_touch : List Part := [.host, .engs, .out]
def execCoeffWrite_fields : Option (List Field) := some [Reg.HOST_IRQ_PENDING.SOURCE, Reg.ENG_CMD_LAST.RESULT, Reg.ENG_CMD_LAST.OP, Reg.ENG_CMD_LAST.ENTRY, Reg.ENG_CMD_FRAME.FRAME, Reg.ENG_EVENT.CMD_REFUSED]
theorem execCoeffWrite_effect (p0 : List Byte) (s : State) :
    ∃ n, execCoeffWrite p0 s = .next n ∧ Effect execCoeffWrite_touch execCoeffWrite_fields s n := by
  unfold execCoeffWrite done
  refine ⟨_, rfl, ?_⟩
  refine Effect.after (State.settle_effect ..) (by decide +kernel) ?_
  refine Effect.after (State.cmdCoeffWrite_effect ..) (by decide +kernel) ?_
  exact Effect.refl _ _ _

def execEthLinkChange_touch : List Part := [.time, .host, .fr, .out]
def execEthLinkChange_fields : Option (List Field) := some [Reg.HOST_IRQ_PENDING.SOURCE, Reg.TIME_STATUS.SLEWING, Reg.TIME_SLEW_REMAIN.VALUE, Reg.ETH_STATUS.LINK, Reg.ETH_STATUS.SPEED, Reg.ETH_STATUS.AN_DONE, Reg.ETH_EVENT.EVENTS]
theorem execEthLinkChange_effect (p0 : Fin 2) (p1 : Bool) (p2 : Fin 3) (p3 : Bool) (p4 : Nat) (s : State) :
    ∃ n, execEthLinkChange p0 p1 p2 p3 p4 s = .next n ∧ Effect execEthLinkChange_touch execEthLinkChange_fields s n := by
  unfold execEthLinkChange done
  refine ⟨_, rfl, ?_⟩
  refine Effect.after (State.settle_effect ..) (by decide +kernel) ?_
  refine Effect.after (State.ethLink_effect ..) (by decide +kernel) ?_
  refine Effect.after (State.elapse_effect ..) (by decide +kernel) ?_
  exact Effect.refl _ _ _

def execStopseqCoastEnd_touch : List Part := [.time, .faults, .host, .fr, .drives, .motors, .out]
def execStopseqCoastEnd_fields : Option (List Field) := some [Reg.HOST_IRQ_PENDING.SOURCE, Reg.COLLECT_STATUS_LO.STATUS, Reg.COLLECT_STATUS_HI.STATUS, Reg.FAULT_COUNT_CORR.COUNT, Reg.FAULT_COUNT_CONT.COUNT, Reg.FAULT_COUNT_FATAL.COUNT, Reg.FAULT_EVENT.CORRECTED, Reg.FAULT_EVENT.CONTAINED, Reg.FAULT_EVENT.FATAL, Reg.FAULT_EVENT.HIST_LOST, Reg.FAULT_HIST_STATUS.LOST, Reg.TIME_STATUS.SLEWING, Reg.TIME_SLEW_REMAIN.VALUE, Reg.DRV_STATUS.LEG_FAULT, Reg.DRV_CARRIER_ACT.TOP, Reg.DRV_LEG_STATUS.CMP_ACT, Reg.DRV_LEG_STATUS.DESAT_HS, Reg.DRV_LEG_STATUS.DESAT_LS, Reg.DRV_LEG_STATUS.INSTANT, Reg.DRV_LEG_STATUS.VB_UV, Reg.DRV_LEG_STATUS.GATES_OFF, Reg.DRV_LEG_STATUS.MODE_ACT, Reg.MOT_STATE.STATE, Reg.MOT_EVENT.STATE, Reg.MOT_EVENT.OBS_LOST]
theorem execStopseqCoastEnd_effect (p0 : Fin 4) (p1 : Nat) (s : State) :
    ∃ n, execStopseqCoastEnd p0 p1 s = .next n ∧ Effect execStopseqCoastEnd_touch execStopseqCoastEnd_fields s n := by
  unfold execStopseqCoastEnd done
  refine ⟨_, rfl, ?_⟩
  refine Effect.after (State.settle_effect ..) (by decide +kernel) ?_
  refine Effect.after (State.stopseqEnd_effect ..) (by decide +kernel) ?_
  refine Effect.after (State.drvElapse_effect ..) (by decide +kernel) ?_
  exact Effect.refl _ _ _

def execEngClearEcc_touch : List Part := [.host, .out]
def execEngClearEcc_fields : Option (List Field) := some [Reg.HOST_IRQ_PENDING.SOURCE, Reg.ENG_ECC.CORRECTED]
theorem execEngClearEcc_effect (p0 : Fin 16) (s : State) :
    ∃ n, execEngClearEcc p0 s = .next n ∧ Effect execEngClearEcc_touch execEngClearEcc_fields s n := by
  unfold execEngClearEcc done
  refine ⟨_, rfl, ?_⟩
  refine Effect.after (State.settle_effect ..) (by decide +kernel) ?_
  refine Effect.after (State.wr_effect ..) (by decide +kernel) ?_
  exact Effect.refl _ _ _

def execNewEpoch_touch : List Part := [.time, .faults, .host, .fr, .journal, .out]
def execNewEpoch_fields : Option (List Field) := some [Reg.HOST_IRQ_PENDING.SOURCE, Reg.COLLECT_STATUS_LO.STATUS, Reg.COLLECT_STATUS_HI.STATUS, Reg.FAULT_COUNT_CORR.COUNT, Reg.FAULT_COUNT_CONT.COUNT, Reg.FAULT_COUNT_FATAL.COUNT, Reg.FAULT_EVENT.CORRECTED, Reg.FAULT_EVENT.CONTAINED, Reg.FAULT_EVENT.FATAL, Reg.FAULT_EVENT.HIST_LOST, Reg.FAULT_HIST_STATUS.LOST, Reg.JRN_STATUS.FILL, Reg.JRN_STATUS.MRAM_OK, Reg.JRN_STATUS.EPOCH_CAUSE, Reg.JRN_EPOCH.EPOCH, Reg.JRN_EXEC.COUNT, Reg.JRN_ACCEPTED.COUNT, Reg.JRN_BUSY.OTHER, Reg.JRN_EVENT.NEW_EPOCH, Reg.JRN_EVENT.MRAM_FAIL, Reg.JRN_SRC_LAST.LAST, Reg.JRN_CPL_TAIL.INDEX, Reg.JRN_RING_STATUS.PHASE, Reg.TIME_STATUS.SLEWING, Reg.TIME_SLEW_REMAIN.VALUE, Reg.BB_STATUS.TX_IDLE]
theorem execNewEpoch_effect (p0 : Nat) (p1 : EpochIn) (p2 : Nat) (s : State) :
    ∃ n, execNewEpoch p0 p1 p2 s = .next n ∧ Effect execNewEpoch_touch execNewEpoch_fields s n := by
  unfold execNewEpoch done
  refine ⟨_, rfl, ?_⟩
  refine Effect.after (State.settle_effect ..) (by decide +kernel) ?_
  refine Effect.after (State.newEpoch_effect ..) (by decide +kernel) ?_
  refine Effect.after (State.elapse_effect ..) (by decide +kernel) ?_
  exact Effect.refl _ _ _

def execEthTxDescriptor_touch : List Part := [.time, .host, .fr, .eths, .out, .drawn]
def execEthTxDescriptor_fields : Option (List Field) := some [Reg.HOST_IRQ_PENDING.SOURCE, Reg.TIME_STATUS.SLEWING, Reg.TIME_SLEW_REMAIN.VALUE, Reg.ETH_TXR_HEAD.INDEX, Reg.ETH_TXTS_STATUS.COUNT, Reg.ETH_TXTS_STATUS.OVF, Reg.ETH_TXTS_STATUS.DROPPED, Reg.ETH_EVENT.EVENTS]
theorem execEthTxDescriptor_effect (p0 : Fin 2) (p1 : List Byte) (p2 : List Byte) (p3 : Nat) (s : State) :
    ∃ n, execEthTxDescriptor p0 p1 p2 p3 s = .next n ∧ Effect execEthTxDescriptor_touch execEthTxDescriptor_fields s n := by
  unfold execEthTxDescriptor done
  refine ⟨_, rfl, ?_⟩
  refine Effect.after (State.settle_effect ..) (by decide +kernel) ?_
  refine Effect.after (State.ethTransmit_effect ..) (by decide +kernel) ?_
  refine Effect.after (State.elapse_effect ..) (by decide +kernel) ?_
  exact Effect.refl _ _ _

def execImageAuthenticate_touch : List Part := [.time, .power, .host, .load, .fr, .out]
def execImageAuthenticate_fields : Option (List Field) := some [Reg.HOST_IRQ_PENDING.SOURCE, Reg.FRAME_STATUS.RUNNING, Reg.IMAGE_STATUS.STATE, Reg.IMAGE_STATUS.SOURCE, Reg.IMAGE_STATUS.CODE, Reg.IMAGE_ERR_SECTION.INDEX, Reg.IMAGE_ERR_SECTION.TYPE, Reg.IMAGE_ERR_OFFSET.OFFSET, Reg.IMAGE_PRIMARY_CODE.CODE, Reg.IMAGE_EVENT.DONE, Reg.TIME_STATUS.SLEWING, Reg.TIME_SLEW_REMAIN.VALUE]
theorem execImageAuthenticate_effect (p0 : Nat) (s : State) :
    ∃ n, execImageAuthenticate p0 s = .next n ∧ Effect execImageAuthenticate_touch execImageAuthenticate_fields s n := by
  unfold execImageAuthenticate done
  refine ⟨_, rfl, ?_⟩
  refine Effect.after (State.settle_effect ..) (by decide +kernel) ?_
  refine Effect.after (State.imageAuthenticate_effect ..) (by decide +kernel) ?_
  refine Effect.after (State.elapse_effect ..) (by decide +kernel) ?_
  exact Effect.refl _ _ _

def execDevResetRelease_touch : List Part := [.time, .power, .host, .load, .fr, .out]
def execDevResetRelease_fields : Option (List Field) := some [Reg.DOMAIN_STATE.FABRIC, Reg.DOMAIN_STATE.LANE_PHY, Reg.DOMAIN_STATE.BB_PHY, Reg.DOMAIN_STATE.ANALOG, Reg.HOST_IRQ_PENDING.SOURCE, Reg.POWER_STATE.STATE, Reg.POWER_PGOOD.PGOOD, Reg.FAULT_STATE.FAULT_N, Reg.FAULT_STATE.ALIVE_RUN, Reg.SAFE_STATUS.A_OK, Reg.SAFE_STATUS.B_OK, Reg.SAFE_STATUS.DIAG, Reg.SAFE_STATUS.DIAG_CAUSE, Reg.SAFE_STATUS.RESET_PIN, Reg.SAFE_STATUS.DEMAND, Reg.SAFE_STATUS.LOCKED, Reg.SAFE_STATUS.DIAG_A, Reg.SAFE_STATUS.DIAG_B, Reg.SAFE_GROUP.STATE, Reg.SAFE_GROUP.KIND, Reg.SAFE_GROUP.STOP, Reg.SAFE_GROUP.CAUSE, Reg.SAFE_GROUP.PAIRS, Reg.SAFE_PAIR.CH_A, Reg.SAFE_PAIR.CH_B, Reg.SAFE_PAIR.DEMAND, Reg.SAFE_PAIR.PAIR_FAULT, Reg.SAFE_PAIR.FAULT_CAUSE, Reg.SAFE_PAIR.DEMANDS, Reg.SAFE_TPO.EN, Reg.SAFE_TPO.READBACK_FAULT, Reg.SAFE_FIRE.FIRE_A, Reg.SAFE_FIRE.FIRE_B, Reg.SAFE_FIRE.DRV_A, Reg.SAFE_FIRE.DRV_B, Reg.SAFE_RESET_STATUS.ARMED, Reg.IMAGE_BOOT.BOOT_SRC, Reg.TIME_STATUS.SYNC, Reg.TIME_STATUS.SLEWING, Reg.TIME_STATUS.RESTORED, Reg.TIME_SLEW_REMAIN.VALUE, Reg.DRV_STATUS.VDRV_OK, Reg.DRV_LEG_STATUS.UVLO]
theorem execDevResetRelease_effect (p0 : Nat) (p1 : Fin 4) (s : State) :
    ∃ n, execDevResetRelease p0 p1 s = .next n ∧ Effect execDevResetRelease_touch execDevResetRelease_fields s n := by
  unfold execDevResetRelease done
  refine ⟨_, rfl, ?_⟩
  refine Effect.after (State.settle_effect ..) (by decide +kernel) ?_
  refine Effect.after (State.devResetRelease_effect ..) (by decide +kernel) ?_
  refine Effect.after (State.elapse_effect ..) (by decide +kernel) ?_
  exact Effect.refl _ _ _

def execKeyRevoke_touch : List Part := [.time, .host, .load, .fr, .out]
def execKeyRevoke_fields : Option (List Field) := some [Reg.HOST_IRQ_PENDING.SOURCE, Reg.KEY_STATUS.BUSY, Reg.KEY_STATUS.RESULT, Reg.TIME_STATUS.SLEWING, Reg.TIME_SLEW_REMAIN.VALUE]
theorem execKeyRevoke_effect (p0 : Fin 4) (p1 : Nat) (p2 : Nat) (s : State) :
    ∃ n, execKeyRevoke p0 p1 p2 s = .next n ∧ Effect execKeyRevoke_touch execKeyRevoke_fields s n := by
  unfold execKeyRevoke done
  refine ⟨_, rfl, ?_⟩
  refine Effect.after (State.settle_effect ..) (by decide +kernel) ?_
  refine State.keyCmd_effect (by decide +kernel) ?_ ?_
  · refine Effect.after (State.elapse_effect ..) (by decide +kernel) ?_
    exact Effect.refl _ _ _
  · intro u1
    try beta_reduce
    refine Effect.after (State.keyRevoke_effect ..) (by decide +kernel) ?_
    exact Effect.refl _ _ _

def execCellBypass_touch : List Part := [.host, .cells, .out]
def execCellBypass_fields : Option (List Field) := some [Reg.HOST_IRQ_PENDING.SOURCE]
theorem execCellBypass_effect (p0 : Nat) (s : State) :
    ∃ n, execCellBypass p0 s = .next n ∧ Effect execCellBypass_touch execCellBypass_fields s n := by
  unfold execCellBypass done
  refine ⟨_, rfl, ?_⟩
  refine Effect.after (State.settle_effect ..) (by decide +kernel) ?_
  refine Effect.after (State.cellBypass_effect ..) (by decide +kernel) ?_
  exact Effect.refl _ _ _

def execCanRxError_touch : List Part := [.time, .host, .fr, .out]
def execCanRxError_fields : Option (List Field) := some [Reg.HOST_IRQ_PENDING.SOURCE, Reg.TIME_STATUS.SLEWING, Reg.TIME_SLEW_REMAIN.VALUE, Reg.CAN_STATUS.STATE, Reg.CAN_STATUS.WARNING, Reg.CAN_ERRCNT.REC, Reg.CAN_EVENT.EVENTS]
theorem execCanRxError_effect (p0 : Fin 4) (p1 : Nat) (p2 : Nat) (s : State) :
    ∃ n, execCanRxError p0 p1 p2 s = .next n ∧ Effect execCanRxError_touch execCanRxError_fields s n := by
  unfold execCanRxError done
  refine ⟨_, rfl, ?_⟩
  refine Effect.after (State.settle_effect ..) (by decide +kernel) ?_
  refine Effect.after (State.canRxError_effect ..) (by decide +kernel) ?_
  refine Effect.after (State.elapse_effect ..) (by decide +kernel) ?_
  exact Effect.refl _ _ _

def execTimeAddendWrite_touch : List Part := [.time, .host, .fr, .out]
def execTimeAddendWrite_fields : Option (List Field) := some [Reg.HOST_IRQ_PENDING.SOURCE, Reg.TIME_STATUS.SLEWING, Reg.TIME_ADDEND.ADDEND, Reg.TIME_SLEW_REMAIN.VALUE, Reg.TIME_EVENT.EVENTS]
theorem execTimeAddendWrite_effect (p0 : Nat) (p1 : Nat) (s : State) :
    ∃ n, execTimeAddendWrite p0 p1 s = .next n ∧ Effect execTimeAddendWrite_touch execTimeAddendWrite_fields s n := by
  unfold execTimeAddendWrite done
  refine ⟨_, rfl, ?_⟩
  refine Effect.after (State.settle_effect ..) (by decide +kernel) ?_
  refine Effect.after (State.addendWrite_effect ..) (by decide +kernel) ?_
  refine Effect.after (State.elapse_effect ..) (by decide +kernel) ?_
  exact Effect.refl _ _ _

def execOverrunHoldEnd_touch : List Part := [.time, .host, .fr, .out]
def execOverrunHoldEnd_fields : Option (List Field) := some [Reg.HOST_IRQ_PENDING.SOURCE, Reg.PLAN_LEVEL.TARGET, Reg.PLAN_LEVEL.SLACK_LOW, Reg.PLAN_LEVEL.STATIC, Reg.PLAN_FORECAST.ENG_NEED, Reg.PLAN_FORECAST.FAB_NEED, Reg.FRAME_EVENT.SLACK_LOW, Reg.TIME_STATUS.SLEWING, Reg.TIME_SLEW_REMAIN.VALUE]
theorem execOverrunHoldEnd_effect (p0 : Nat) (s : State) :
    ∃ n, execOverrunHoldEnd p0 s = .next n ∧ Effect execOverrunHoldEnd_touch execOverrunHoldEnd_fields s n := by
  unfold execOverrunHoldEnd done
  refine ⟨_, rfl, ?_⟩
  refine Effect.after (State.settle_effect ..) (by decide +kernel) ?_
  refine Effect.after (State.holdEnd_effect ..) (by decide +kernel) ?_
  refine Effect.after (State.elapse_effect ..) (by decide +kernel) ?_
  exact Effect.refl _ _ _

def execPowerWake_touch : List Part := [.time, .power, .host, .fr, .out]
def execPowerWake_fields : Option (List Field) := some [Reg.HOST_IRQ_PENDING.SOURCE, Reg.POWER_STATE.WAKE_SRC, Reg.POWER_STATE.WAKE_TRIES, Reg.TIME_STATUS.SLEWING, Reg.TIME_SLEW_REMAIN.VALUE]
theorem execPowerWake_effect (p0 : Nat) (s : State) :
    ∃ n, execPowerWake p0 s = .next n ∧ Effect execPowerWake_touch execPowerWake_fields s n := by
  unfold execPowerWake done
  refine ⟨_, rfl, ?_⟩
  refine Effect.after (State.settle_effect ..) (by decide +kernel) ?_
  refine Effect.after (State.edgeWake_effect ..) (by decide +kernel) ?_
  refine Effect.after (State.elapse_effect ..) (by decide +kernel) ?_
  exact Effect.refl _ _ _

def execDriveOtRelease_touch : List Part := [.time, .host, .fr, .drives, .out]
def execDriveOtRelease_fields : Option (List Field) := some [Reg.HOST_IRQ_PENDING.SOURCE, Reg.TIME_STATUS.SLEWING, Reg.TIME_SLEW_REMAIN.VALUE, Reg.DRV_STATUS.OT_SHUT, Reg.DRV_STATUS.LEG_FAULT, Reg.DRV_LEG_STATUS.DESAT_HS, Reg.DRV_LEG_STATUS.DESAT_LS, Reg.DRV_LEG_STATUS.INSTANT, Reg.DRV_LEG_STATUS.VB_UV, Reg.DRV_LEG_STATUS.GATES_OFF]
theorem execDriveOtRelease_effect (p0 : Fin 4) (p1 : Nat) (s : State) :
    ∃ n, execDriveOtRelease p0 p1 s = .next n ∧ Effect execDriveOtRelease_touch execDriveOtRelease_fields s n := by
  unfold execDriveOtRelease done
  refine ⟨_, rfl, ?_⟩
  refine Effect.after (State.settle_effect ..) (by decide +kernel) ?_
  refine Effect.after (State.driveOtRelease_effect ..) (by decide +kernel) ?_
  refine Effect.after (State.drvElapse_effect ..) (by decide +kernel) ?_
  exact Effect.refl _ _ _

def execHalftimeHandover_touch : List Part := [.time, .power, .host, .fr, .engs, .referee, .out]
def execHalftimeHandover_fields : Option (List Field) := some [Reg.DOMAIN_STATE.PLANE_A, Reg.DOMAIN_STATE.PLANE_B, Reg.HOST_IRQ_PENDING.SOURCE, Reg.POWER_PGOOD.PGOOD, Reg.REF_STATUS.STATE, Reg.REF_STATUS.HOLDER, Reg.REF_STATUS.ROLE_A, Reg.REF_STATUS.ROLE_B, Reg.REF_STATUS.LEASE, Reg.REF_HT_STATUS.OUTCOME, Reg.REF_HT_STATUS.COUNT, Reg.REF_EVENT.HANDOVER, Reg.REF_EVENT.UNFIT, Reg.PLAN_LEVEL.STATIC, Reg.PLAN_FORECAST.ENG_NEED, Reg.PLAN_FORECAST.FAB_NEED, Reg.ENG_STATUS.BALL, Reg.ENG_STATUS.SHADOW, Reg.ENG_STATUS.COLD, Reg.ENG_EXPORT.VALUE, Reg.TIME_STATUS.SLEWING, Reg.TIME_SLEW_REMAIN.VALUE]
theorem execHalftimeHandover_effect (p0 : Nat) (s : State) :
    ∃ n, execHalftimeHandover p0 s = .next n ∧ Effect execHalftimeHandover_touch execHalftimeHandover_fields s n := by
  unfold execHalftimeHandover done
  refine ⟨_, rfl, ?_⟩
  refine Effect.after (State.settle_effect ..) (by decide +kernel) ?_
  refine Effect.after (State.handover_effect ..) (by decide +kernel) ?_
  refine Effect.after (State.elapse_effect ..) (by decide +kernel) ?_
  exact Effect.refl _ _ _

def execJrnMramDisable_touch : List Part := [.time, .faults, .host, .fr, .journal, .out]
def execJrnMramDisable_fields : Option (List Field) := some [Reg.HOST_IRQ_PENDING.SOURCE, Reg.COLLECT_STATUS_LO.STATUS, Reg.COLLECT_STATUS_HI.STATUS, Reg.FAULT_COUNT_CORR.COUNT, Reg.FAULT_COUNT_CONT.COUNT, Reg.FAULT_COUNT_FATAL.COUNT, Reg.FAULT_EVENT.CORRECTED, Reg.FAULT_EVENT.CONTAINED, Reg.FAULT_EVENT.FATAL, Reg.FAULT_EVENT.HIST_LOST, Reg.FAULT_HIST_STATUS.LOST, Reg.JRN_STATUS.MRAM_OK, Reg.JRN_MRAM_CFG.EN, Reg.JRN_MRAM_CFG.QUAD, Reg.JRN_MRAM_CFG.DIV, Reg.JRN_EVENT.MRAM_FAIL, Reg.TIME_STATUS.SLEWING, Reg.TIME_SLEW_REMAIN.VALUE]
theorem execJrnMramDisable_effect (p0 : Nat) (p1 : Bool) (p2 : Nat) (s : State) :
    ∃ n, execJrnMramDisable p0 p1 p2 s = .next n ∧ Effect execJrnMramDisable_touch execJrnMramDisable_fields s n := by
  unfold execJrnMramDisable done
  refine ⟨_, rfl, ?_⟩
  refine Effect.after (State.settle_effect ..) (by decide +kernel) ?_
  refine Effect.after (State.mramDisable_effect ..) (by decide +kernel) ?_
  refine Effect.after (State.elapse_effect ..) (by decide +kernel) ?_
  exact Effect.refl _ _ _

def execChopperBoundary_touch : List Part := [.time, .host, .fr, .drives, .out]
def execChopperBoundary_fields : Option (List Field) := some [Reg.HOST_IRQ_PENDING.SOURCE, Reg.TIME_STATUS.SLEWING, Reg.TIME_SLEW_REMAIN.VALUE, Reg.DRV_STATUS.LOAD_PENDING, Reg.DRV_STATUS.LEG_FAULT, Reg.DRV_CARRIER_ACT.TOP, Reg.DRV_LEG_STATUS.CMP_ACT, Reg.DRV_LEG_STATUS.DESAT_HS, Reg.DRV_LEG_STATUS.DESAT_LS, Reg.DRV_LEG_STATUS.INSTANT, Reg.DRV_LEG_STATUS.VB_UV, Reg.DRV_LEG_STATUS.INPUT_ACTIVE, Reg.DRV_LEG_STATUS.GATES_OFF, Reg.DRV_LEG_STATUS.MODE_ACT, Reg.DRV_LEG_COUNT.SUPPRESSED, Reg.DRV_LEG_COUNT.FULL_ON, Reg.DRV_EVENT.LOAD_DONE, Reg.DRV_LOADALL.UNITS, Reg.DRV_LOAD_STATUS.DONE]
theorem execChopperBoundary_effect (p0 : DrvIn) (p1 : Nat) (s : State) :
    ∃ n, execChopperBoundary p0 p1 s = .next n ∧ Effect execChopperBoundary_touch execChopperBoundary_fields s n := by
  unfold execChopperBoundary done
  refine ⟨_, rfl, ?_⟩
  refine Effect.after (State.settle_effect ..) (by decide +kernel) ?_
  refine Effect.after (State.chopBoundary_effect ..) (by decide +kernel) ?_
  refine Effect.after (State.seeInputs_effect ..) (by decide +kernel) ?_
  refine Effect.after (State.drvElapse_effect ..) (by decide +kernel) ?_
  exact Effect.refl _ _ _

def execSafeCrossExchange_touch : List Part := [.time, .faults, .host, .fr, .convs, .safety, .out]
def execSafeCrossExchange_fields : Option (List Field) := some [Reg.HOST_IRQ_PENDING.SOURCE, Reg.COLLECT_STATUS_LO.STATUS, Reg.COLLECT_STATUS_HI.STATUS, Reg.FAULT_COUNT_CORR.COUNT, Reg.FAULT_COUNT_CONT.COUNT, Reg.FAULT_COUNT_FATAL.COUNT, Reg.FAULT_EVENT.CORRECTED, Reg.FAULT_EVENT.CONTAINED, Reg.FAULT_EVENT.FATAL, Reg.FAULT_EVENT.HIST_LOST, Reg.FAULT_HIST_STATUS.LOST, Reg.SAFE_STATUS.A_OK, Reg.SAFE_STATUS.B_OK, Reg.SAFE_STATUS.DIAG, Reg.SAFE_STATUS.DIAG_CAUSE, Reg.SAFE_STATUS.RESET_PIN, Reg.SAFE_STATUS.DEMAND, Reg.SAFE_STATUS.LOCKED, Reg.SAFE_STATUS.DIAG_A, Reg.SAFE_STATUS.DIAG_B, Reg.SAFE_GROUP.STATE, Reg.SAFE_GROUP.KIND, Reg.SAFE_GROUP.STOP, Reg.SAFE_GROUP.CAUSE, Reg.SAFE_GROUP.PAIRS, Reg.SAFE_PAIR.CH_A, Reg.SAFE_PAIR.CH_B, Reg.SAFE_PAIR.DEMAND, Reg.SAFE_PAIR.PAIR_FAULT, Reg.SAFE_PAIR.FAULT_CAUSE, Reg.SAFE_PAIR.DEMANDS, Reg.SAFE_TPO.EN, Reg.SAFE_TPO.READBACK_FAULT, Reg.SAFE_FIRE.FIRE_A, Reg.SAFE_FIRE.FIRE_B, Reg.SAFE_FIRE.DRV_A, Reg.SAFE_FIRE.DRV_B, Reg.SAFE_RESET_STATUS.ARMED, Reg.SAFE_RESET_STATUS.RELEASED, Reg.SAFE_RESET_STATUS.REFUSED, Reg.SAFE_EVENT.DEMAND, Reg.SAFE_EVENT.STOPPING, Reg.SAFE_EVENT.REMOVED, Reg.SAFE_EVENT.DIAG, Reg.SAFE_EVENT.RESET_REFUSED, Reg.TIME_STATUS.SLEWING, Reg.TIME_SLEW_REMAIN.VALUE]
theorem execSafeCrossExchange_effect (p0 : Bool) (p1 : Bool) (p2 : Nat) (s : State) :
    ∃ n, execSafeCrossExchange p0 p1 p2 s = .next n ∧ Effect execSafeCrossExchange_touch execSafeCrossExchange_fields s n := by
  unfold execSafeCrossExchange done
  refine ⟨_, rfl, ?_⟩
  refine Effect.after (State.settle_effect ..) (by decide +kernel) ?_
  refine Effect.after (State.crossExchange_effect ..) (by decide +kernel) ?_
  refine Effect.after (State.elapse_effect ..) (by decide +kernel) ?_
  exact Effect.refl _ _ _

def execSafeDriveEnvelope_touch : List Part := [.time, .host, .fr, .convs, .safety, .out]
def execSafeDriveEnvelope_fields : Option (List Field) := some [Reg.HOST_IRQ_PENDING.SOURCE, Reg.SAFE_STATUS.A_OK, Reg.SAFE_STATUS.B_OK, Reg.SAFE_STATUS.DIAG, Reg.SAFE_STATUS.DIAG_CAUSE, Reg.SAFE_STATUS.RESET_PIN, Reg.SAFE_STATUS.DEMAND, Reg.SAFE_STATUS.LOCKED, Reg.SAFE_STATUS.DIAG_A, Reg.SAFE_STATUS.DIAG_B, Reg.SAFE_GROUP.STATE, Reg.SAFE_GROUP.KIND, Reg.SAFE_GROUP.STOP, Reg.SAFE_GROUP.CAUSE, Reg.SAFE_GROUP.PAIRS, Reg.SAFE_PAIR.CH_A, Reg.SAFE_PAIR.CH_B, Reg.SAFE_PAIR.DEMAND, Reg.SAFE_PAIR.PAIR_FAULT, Reg.SAFE_PAIR.FAULT_CAUSE, Reg.SAFE_PAIR.DEMANDS, Reg.SAFE_TPO.EN, Reg.SAFE_TPO.READBACK_FAULT, Reg.SAFE_FIRE.FIRE_A, Reg.SAFE_FIRE.FIRE_B, Reg.SAFE_FIRE.DRV_A, Reg.SAFE_FIRE.DRV_B, Reg.SAFE_RESET_STATUS.ARMED, Reg.SAFE_EVENT.REMOVED, Reg.TIME_STATUS.SLEWING, Reg.TIME_SLEW_REMAIN.VALUE]
theorem execSafeDriveEnvelope_effect (p0 : Nat) (s : State) :
    ∃ n, execSafeDriveEnvelope p0 s = .next n ∧ Effect execSafeDriveEnvelope_touch execSafeDriveEnvelope_fields s n := by
  unfold execSafeDriveEnvelope done
  extract_lets x1
  have h2 : Effect execSafeDriveEnvelope_touch execSafeDriveEnvelope_fields s x1 := by
    refine Effect.after (State.elapse_effect ..) (by decide +kernel) ?_
    exact Effect.refl _ _ _
  try clear_value x1
  refine ⟨_, rfl, ?_⟩
  refine Effect.after (State.settle_effect ..) (by decide +kernel) ?_
  refine Effect.ite ?_ ?_
  · refine Effect.after (State.showSafe_effect ..) (by decide +kernel) ?_
    refine Effect.each ?_ ?_
    · exact h2
    · intro u3 a4
      try beta_reduce
      refine Effect.after (State.driveEnvelope_effect ..) (by decide +kernel) ?_
      exact Effect.refl _ _ _
  · exact h2

def execPllLockLoss_touch : List Part := [.time, .power, .faults, .host, .load, .fr, .out]
def execPllLockLoss_fields : Option (List Field) := some [Reg.DOMAIN_STATE.DRAM_ACTIVE, Reg.HOST_IRQ_PENDING.SOURCE, Reg.CLOCK_PLL_STATUS.LOCK, Reg.CLOCK_PLL_STATUS.UNLOCKS, Reg.CLOCK_EVENT.EVENTS, Reg.COLLECT_STATUS_LO.STATUS, Reg.COLLECT_STATUS_HI.STATUS, Reg.FAULT_COUNT_CORR.COUNT, Reg.FAULT_COUNT_CONT.COUNT, Reg.FAULT_COUNT_FATAL.COUNT, Reg.FAULT_EVENT.CORRECTED, Reg.FAULT_EVENT.CONTAINED, Reg.FAULT_EVENT.FATAL, Reg.FAULT_EVENT.HIST_LOST, Reg.FAULT_HIST_STATUS.LOST, Reg.SAFE_STATUS.A_OK, Reg.SAFE_STATUS.B_OK, Reg.SAFE_STATUS.DIAG, Reg.SAFE_STATUS.DIAG_CAUSE, Reg.SAFE_STATUS.RESET_PIN, Reg.SAFE_STATUS.DEMAND, Reg.SAFE_STATUS.LOCKED, Reg.SAFE_STATUS.DIAG_A, Reg.SAFE_STATUS.DIAG_B, Reg.SAFE_GROUP.STATE, Reg.SAFE_GROUP.KIND, Reg.SAFE_GROUP.STOP, Reg.SAFE_GROUP.CAUSE, Reg.SAFE_GROUP.PAIRS, Reg.SAFE_PAIR.CH_A, Reg.SAFE_PAIR.CH_B, Reg.SAFE_PAIR.DEMAND, Reg.SAFE_PAIR.PAIR_FAULT, Reg.SAFE_PAIR.FAULT_CAUSE, Reg.SAFE_PAIR.DEMANDS, Reg.SAFE_TPO.EN, Reg.SAFE_TPO.READBACK_FAULT, Reg.SAFE_FIRE.FIRE_A, Reg.SAFE_FIRE.FIRE_B, Reg.SAFE_FIRE.DRV_A, Reg.SAFE_FIRE.DRV_B, Reg.SAFE_RESET_STATUS.ARMED, Reg.TIME_STATUS.SYNC, Reg.TIME_STATUS.SLEWING, Reg.TIME_SLEW_REMAIN.VALUE, Reg.TIME_EVENT.EVENTS]
theorem execPllLockLoss_effect (p0 : Fin 4) (p1 : Nat) (s : State) :
    ∃ n, execPllLockLoss p0 p1 s = .next n ∧ Effect execPllLockLoss_touch execPllLockLoss_fields s n := by
  unfold execPllLockLoss done
  refine ⟨_, rfl, ?_⟩
  refine Effect.after (State.settle_effect ..) (by decide +kernel) ?_
  refine Effect.after (State.pllLockLoss_effect ..) (by decide +kernel) ?_
  refine Effect.after (State.elapse_effect ..) (by decide +kernel) ?_
  exact Effect.refl _ _ _

def execAdcRefEnable_touch : List Part := [.time, .host, .fr, .adc, .out]
def execAdcRefEnable_fields : Option (List Field) := some [Reg.HOST_IRQ_PENDING.SOURCE, Reg.ADC_REF.EN, Reg.TIME_STATUS.SLEWING, Reg.TIME_SLEW_REMAIN.VALUE]
theorem execAdcRefEnable_effect (p0 : Nat) (s : State) :
    ∃ n, execAdcRefEnable p0 s = .next n ∧ Effect execAdcRefEnable_touch execAdcRefEnable_fields s n := by
  unfold execAdcRefEnable done
  refine ⟨_, rfl, ?_⟩
  refine Effect.after (State.settle_effect ..) (by decide +kernel) ?_
  refine Effect.after (State.refEnable_effect ..) (by decide +kernel) ?_
  refine Effect.after (State.elapse_effect ..) (by decide +kernel) ?_
  exact Effect.refl _ _ _

def execSafeResetArm_touch : List Part := [.time, .host, .fr, .safety, .out]
def execSafeResetArm_fields : Option (List Field) := some [Reg.HOST_IRQ_PENDING.SOURCE, Reg.SAFE_STATUS.A_OK, Reg.SAFE_STATUS.B_OK, Reg.SAFE_STATUS.DIAG, Reg.SAFE_STATUS.DIAG_CAUSE, Reg.SAFE_STATUS.RESET_PIN, Reg.SAFE_STATUS.DEMAND, Reg.SAFE_STATUS.LOCKED, Reg.SAFE_STATUS.DIAG_A, Reg.SAFE_STATUS.DIAG_B, Reg.SAFE_GROUP.STATE, Reg.SAFE_GROUP.KIND, Reg.SAFE_GROUP.STOP, Reg.SAFE_GROUP.CAUSE, Reg.SAFE_GROUP.PAIRS, Reg.SAFE_PAIR.CH_A, Reg.SAFE_PAIR.CH_B, Reg.SAFE_PAIR.DEMAND, Reg.SAFE_PAIR.PAIR_FAULT, Reg.SAFE_PAIR.FAULT_CAUSE, Reg.SAFE_PAIR.DEMANDS, Reg.SAFE_TPO.EN, Reg.SAFE_TPO.READBACK_FAULT, Reg.SAFE_FIRE.FIRE_A, Reg.SAFE_FIRE.FIRE_B, Reg.SAFE_FIRE.DRV_A, Reg.SAFE_FIRE.DRV_B, Reg.SAFE_RESET_STATUS.ARMED, Reg.TIME_STATUS.SLEWING, Reg.TIME_SLEW_REMAIN.VALUE]
theorem execSafeResetArm_effect (p0 : Nat) (p1 : Nat) (s : State) :
    ∃ n, execSafeResetArm p0 p1 s = .next n ∧ Effect execSafeResetArm_touch execSafeResetArm_fields s n := by
  unfold execSafeResetArm done
  refine ⟨_, rfl, ?_⟩
  refine Effect.after (State.settle_effect ..) (by decide +kernel) ?_
  refine Effect.after (State.resetArm_effect ..) (by decide +kernel) ?_
  refine Effect.after (State.elapse_effect ..) (by decide +kernel) ?_
  exact Effect.refl _ _ _

def execTimeSet_touch : List Part := [.time, .host, .fr, .out]
def execTimeSet_fields : Option (List Field) := some [Reg.HOST_IRQ_PENDING.SOURCE, Reg.TIME_STATUS.SLEWING, Reg.TIME_SLEW_REMAIN.VALUE, Reg.TIME_EVENT.EVENTS]
theorem execTimeSet_effect (p0 : Nat) (s : State) :
    ∃ n, execTimeSet p0 s = .next n ∧ Effect execTimeSet_touch execTimeSet_fields s n := by
  unfold execTimeSet done
  refine ⟨_, rfl, ?_⟩
  refine Effect.after (State.settle_effect ..) (by decide +kernel) ?_
  refine State.steered_effect (by decide +kernel) ?_ ?_
  · refine Effect.after (State.elapse_effect ..) (by decide +kernel) ?_
    exact Effect.refl _ _ _
  · intro u1
    try beta_reduce
    refine Effect.after (State.timeSet_effect ..) (by decide +kernel) ?_
    exact Effect.refl _ _ _

def execSafeResetRise_touch : List Part := [.time, .host, .fr, .safety, .out]
def execSafeResetRise_fields : Option (List Field) := some [Reg.HOST_IRQ_PENDING.SOURCE, Reg.SAFE_STATUS.A_OK, Reg.SAFE_STATUS.B_OK, Reg.SAFE_STATUS.DIAG, Reg.SAFE_STATUS.DIAG_CAUSE, Reg.SAFE_STATUS.RESET_PIN, Reg.SAFE_STATUS.RESET_STUCK, Reg.SAFE_STATUS.DEMAND, Reg.SAFE_STATUS.LOCKED, Reg.SAFE_STATUS.DIAG_A, Reg.SAFE_STATUS.DIAG_B, Reg.SAFE_GROUP.STATE, Reg.SAFE_GROUP.KIND, Reg.SAFE_GROUP.STOP, Reg.SAFE_GROUP.CAUSE, Reg.SAFE_GROUP.PAIRS, Reg.SAFE_PAIR.CH_A, Reg.SAFE_PAIR.CH_B, Reg.SAFE_PAIR.DEMAND, Reg.SAFE_PAIR.PAIR_FAULT, Reg.SAFE_PAIR.FAULT_CAUSE, Reg.SAFE_PAIR.DEMANDS, Reg.SAFE_TPO.EN, Reg.SAFE_TPO.READBACK_FAULT, Reg.SAFE_FIRE.FIRE_A, Reg.SAFE_FIRE.FIRE_B, Reg.SAFE_FIRE.DRV_A, Reg.SAFE_FIRE.DRV_B, Reg.SAFE_RESET_STATUS.ARMED, Reg.SAFE_RESET_STATUS.RELEASED, Reg.SAFE_RESET_STATUS.REFUSED, Reg.SAFE_EVENT.RELEASED, Reg.SAFE_EVENT.RESET_REFUSED, Reg.TIME_STATUS.SLEWING, Reg.TIME_SLEW_REMAIN.VALUE]
theorem execSafeResetRise_effect (p0 : Nat) (s : State) :
    ∃ n, execSafeResetRise p0 s = .next n ∧ Effect execSafeResetRise_touch execSafeResetRise_fields s n := by
  unfold execSafeResetRise done
  refine ⟨_, rfl, ?_⟩
  refine Effect.after (State.settle_effect ..) (by decide +kernel) ?_
  refine Effect.after (State.resetRise_effect ..) (by decide +kernel) ?_
  refine Effect.after (State.elapse_effect ..) (by decide +kernel) ?_
  exact Effect.refl _ _ _

def execHostWr_touch : List Part := [.hold, .wrHold, .time, .power, .faults, .host, .load, .cfg, .fr, .images, .lanes, .chains, .cells, .arms, .engs, .convs, .referee, .pair, .journal, .adc, .drives, .motors, .safety, .eths, .canQueues, .cans, .out, .drawn]
def execHostWr_fields : Option (List Field) := none
theorem execHostWr_effect (p0 : Fin 4) (p1 : Nat) (p2 : List Byte) (p3 : Nat) (s : State) :
    ∃ n, execHostWr p0 p1 p2 p3 s = .next n ∧ Effect execHostWr_touch execHostWr_fields s n := by
  unfold execHostWr done
  refine ⟨_, rfl, ?_⟩
  refine Effect.after (State.settle_effect ..) (by decide +kernel) ?_
  refine Effect.after (State.bbWrite_effect ..) (by decide +kernel) ?_
  refine Effect.after (State.elapse_effect ..) (by decide +kernel) ?_
  exact Effect.refl _ _ _

def execKeyProgram_touch : List Part := [.time, .host, .load, .fr, .out]
def execKeyProgram_fields : Option (List Field) := some [Reg.HOST_IRQ_PENDING.SOURCE, Reg.KEY_STATUS.BUSY, Reg.KEY_STATUS.RESULT, Reg.TIME_STATUS.SLEWING, Reg.TIME_SLEW_REMAIN.VALUE]
theorem execKeyProgram_effect (p0 : Fin 4) (p1 : Nat) (p2 : Nat) (s : State) :
    ∃ n, execKeyProgram p0 p1 p2 s = .next n ∧ Effect execKeyProgram_touch execKeyProgram_fields s n := by
  unfold execKeyProgram done
  refine ⟨_, rfl, ?_⟩
  refine Effect.after (State.settle_effect ..) (by decide +kernel) ?_
  refine State.keyCmd_effect (by decide +kernel) ?_ ?_
  · refine Effect.after (State.elapse_effect ..) (by decide +kernel) ?_
    exact Effect.refl _ _ _
  · intro u1
    try beta_reduce
    refine Effect.after (State.keyProgram_effect ..) (by decide +kernel) ?_
    exact Effect.refl _ _ _

def execDramFailure_touch : List Part := [.time, .power, .faults, .host, .load, .fr, .out]
def execDramFailure_fields : Option (List Field) := some [Reg.DOMAIN_STATE.DRAM_ACTIVE, Reg.HOST_IRQ_PENDING.SOURCE, Reg.COLLECT_STATUS_LO.STATUS, Reg.COLLECT_STATUS_HI.STATUS, Reg.FAULT_COUNT_CORR.COUNT, Reg.FAULT_COUNT_CONT.COUNT, Reg.FAULT_COUNT_FATAL.COUNT, Reg.FAULT_EVENT.CORRECTED, Reg.FAULT_EVENT.CONTAINED, Reg.FAULT_EVENT.FATAL, Reg.FAULT_EVENT.HIST_LOST, Reg.FAULT_HIST_STATUS.LOST, Reg.FRAME_STATUS.RUNNING, Reg.IMAGE_STATUS.STATE, Reg.IMAGE_STATUS.CODE, Reg.IMAGE_ERR_SECTION.INDEX, Reg.IMAGE_ERR_SECTION.TYPE, Reg.IMAGE_ERR_OFFSET.OFFSET, Reg.IMAGE_EVENT.DONE, Reg.TIME_STATUS.SLEWING, Reg.TIME_SLEW_REMAIN.VALUE]
theorem execDramFailure_effect (p0 : Nat) (s : State) :
    ∃ n, execDramFailure p0 s = .next n ∧ Effect execDramFailure_touch execDramFailure_fields s n := by
  unfold execDramFailure done
  refine ⟨_, rfl, ?_⟩
  refine Effect.after (State.settle_effect ..) (by decide +kernel) ?_
  refine Effect.after (State.dramFailure_effect ..) (by decide +kernel) ?_
  refine Effect.after (State.elapse_effect ..) (by decide +kernel) ?_
  exact Effect.refl _ _ _

def execConvBlock_touch : List Part := [.faults, .host, .arms, .convs, .out]
def execConvBlock_fields : Option (List Field) := some [Reg.CONV_STATE.STATE, Reg.CONV_STATE.CAUSE, Reg.CONV_STATE.SLEWING, Reg.CONV_CMD_LAST.RESULT, Reg.CONV_CMD_LAST.OP, Reg.CONV_STATE_FRAME.FRAME, Reg.CONV_RESIDUAL.E, Reg.CONV_COUNT.BLOCKS, Reg.CONV_EVENT.BLOCK, Reg.CONV_EVENT.RESYNC_FAIL, Reg.CONV_EVENT.COAST_LIMIT, Reg.CONV_EVENT_SRC.CONV, Reg.HOST_IRQ_PENDING.SOURCE, Reg.COLLECT_STATUS_LO.STATUS, Reg.COLLECT_STATUS_HI.STATUS, Reg.FAULT_COUNT_CORR.COUNT, Reg.FAULT_COUNT_CONT.COUNT, Reg.FAULT_COUNT_FATAL.COUNT, Reg.FAULT_EVENT.CORRECTED, Reg.FAULT_EVENT.CONTAINED, Reg.FAULT_EVENT.FATAL, Reg.FAULT_EVENT.HIST_LOST, Reg.FAULT_HIST_STATUS.LOST]
theorem execConvBlock_effect (p0 : Nat) (s : State) :
    ∃ n, execConvBlock p0 s = .next n ∧ Effect execConvBlock_touch execConvBlock_fields s n := by
  unfold execConvBlock done
  refine ⟨_, rfl, ?_⟩
  refine Effect.after (State.settle_effect ..) (by decide +kernel) ?_
  refine Effect.after (State.cmdConvBlock_effect ..) (by decide +kernel) ?_
  exact Effect.refl _ _ _

def execPairPacket_touch : List Part := [.time, .faults, .host, .fr, .pair, .journal, .out]
def execPairPacket_fields : Option (List Field) := some [Reg.HOST_IRQ_PENDING.SOURCE, Reg.COLLECT_STATUS_LO.STATUS, Reg.COLLECT_STATUS_HI.STATUS, Reg.FAULT_COUNT_CORR.COUNT, Reg.FAULT_COUNT_CONT.COUNT, Reg.FAULT_COUNT_FATAL.COUNT, Reg.FAULT_EVENT.CORRECTED, Reg.FAULT_EVENT.CONTAINED, Reg.FAULT_EVENT.FATAL, Reg.FAULT_EVENT.HIST_LOST, Reg.FAULT_HIST_STATUS.LOST, Reg.REF_PAIR.PARTNER_HOLDS, Reg.JRN_STATUS.FILL, Reg.JRN_STATUS.MRAM_OK, Reg.JRN_STATUS.PAIR_MIRROR, Reg.JRN_ACCEPTED.COUNT, Reg.JRN_EVENT.MRAM_FAIL, Reg.JRN_SRC_LAST.LAST, Reg.TIME_STATUS.SLEWING, Reg.TIME_SLEW_REMAIN.VALUE, Reg.BB_STATUS.RX_IDLE]
theorem execPairPacket_effect (p0 : Fin 4) (p1 : Nat) (p2 : PairIn) (p3 : Nat) (s : State) :
    ∃ n, execPairPacket p0 p1 p2 p3 s = .next n ∧ Effect execPairPacket_touch execPairPacket_fields s n := by
  unfold execPairPacket done
  refine ⟨_, rfl, ?_⟩
  refine Effect.after (State.settle_effect ..) (by decide +kernel) ?_
  refine Effect.after (State.pairPacket_effect ..) (by decide +kernel) ?_
  refine Effect.after (State.elapse_effect ..) (by decide +kernel) ?_
  exact Effect.refl _ _ _

def execEngClearCycles_touch : List Part := [.host, .out]
def execEngClearCycles_fields : Option (List Field) := some [Reg.HOST_IRQ_PENDING.SOURCE, Reg.ENG_CYCLES.MAX]
theorem execEngClearCycles_effect (p0 : Fin 16) (s : State) :
    ∃ n, execEngClearCycles p0 s = .next n ∧ Effect execEngClearCycles_touch execEngClearCycles_fields s n := by
  unfold execEngClearCycles done
  refine ⟨_, rfl, ?_⟩
  refine Effect.after (State.settle_effect ..) (by decide +kernel) ?_
  refine Effect.after (State.wr_effect ..) (by decide +kernel) ?_
  exact Effect.refl _ _ _

def execImageAbort_touch : List Part := [.time, .power, .host, .load, .fr, .out]
def execImageAbort_fields : Option (List Field) := some [Reg.HOST_IRQ_PENDING.SOURCE, Reg.FRAME_STATUS.RUNNING, Reg.IMAGE_STATUS.STATE, Reg.IMAGE_STATUS.SOURCE, Reg.IMAGE_STATUS.CODE, Reg.IMAGE_ERR_SECTION.INDEX, Reg.IMAGE_ERR_SECTION.TYPE, Reg.IMAGE_ERR_OFFSET.OFFSET, Reg.IMAGE_PRIMARY_CODE.CODE, Reg.IMAGE_EVENT.DONE, Reg.TIME_STATUS.SLEWING, Reg.TIME_SLEW_REMAIN.VALUE]
theorem execImageAbort_effect (p0 : Nat) (s : State) :
    ∃ n, execImageAbort p0 s = .next n ∧ Effect execImageAbort_touch execImageAbort_fields s n := by
  unfold execImageAbort done
  refine ⟨_, rfl, ?_⟩
  refine Effect.after (State.settle_effect ..) (by decide +kernel) ?_
  refine Effect.after (State.imageAbort_effect ..) (by decide +kernel) ?_
  refine Effect.after (State.elapse_effect ..) (by decide +kernel) ?_
  exact Effect.refl _ _ _

def execFrameClearOverrun_touch : List Part := [.host, .out]
def execFrameClearOverrun_fields : Option (List Field) := some [Reg.HOST_IRQ_PENDING.SOURCE, Reg.OVERRUN_COUNT.COMPUTE, Reg.OVERRUN_COUNT.RANK, Reg.OVERRUN_LAST.FRAME]
theorem execFrameClearOverrun_effect (s : State) :
    ∃ n, execFrameClearOverrun s = .next n ∧ Effect execFrameClearOverrun_touch execFrameClearOverrun_fields s n := by
  unfold execFrameClearOverrun done
  refine ⟨_, rfl, ?_⟩
  refine Effect.after (State.settle_effect ..) (by decide +kernel) ?_
  refine Effect.after (State.clearOverrun_effect ..) (by decide +kernel) ?_
  exact Effect.refl _ _ _

def execSafeResetFall_touch : List Part := [.time, .host, .fr, .safety, .out]
def execSafeResetFall_fields : Option (List Field) := some [Reg.HOST_IRQ_PENDING.SOURCE, Reg.SAFE_STATUS.A_OK, Reg.SAFE_STATUS.B_OK, Reg.SAFE_STATUS.DIAG, Reg.SAFE_STATUS.DIAG_CAUSE, Reg.SAFE_STATUS.RESET_PIN, Reg.SAFE_STATUS.DEMAND, Reg.SAFE_STATUS.LOCKED, Reg.SAFE_STATUS.DIAG_A, Reg.SAFE_STATUS.DIAG_B, Reg.SAFE_GROUP.STATE, Reg.SAFE_GROUP.KIND, Reg.SAFE_GROUP.STOP, Reg.SAFE_GROUP.CAUSE, Reg.SAFE_GROUP.PAIRS, Reg.SAFE_PAIR.CH_A, Reg.SAFE_PAIR.CH_B, Reg.SAFE_PAIR.DEMAND, Reg.SAFE_PAIR.PAIR_FAULT, Reg.SAFE_PAIR.FAULT_CAUSE, Reg.SAFE_PAIR.DEMANDS, Reg.SAFE_TPO.EN, Reg.SAFE_TPO.READBACK_FAULT, Reg.SAFE_FIRE.FIRE_A, Reg.SAFE_FIRE.FIRE_B, Reg.SAFE_FIRE.DRV_A, Reg.SAFE_FIRE.DRV_B, Reg.SAFE_RESET_STATUS.ARMED, Reg.TIME_STATUS.SLEWING, Reg.TIME_SLEW_REMAIN.VALUE]
theorem execSafeResetFall_effect (p0 : Nat) (s : State) :
    ∃ n, execSafeResetFall p0 s = .next n ∧ Effect execSafeResetFall_touch execSafeResetFall_fields s n := by
  unfold execSafeResetFall done
  extract_lets x1 x2
  have h3 : Effect execSafeResetFall_touch execSafeResetFall_fields s x1 := by
    refine Effect.after (State.elapse_effect ..) (by decide +kernel) ?_
    exact Effect.refl _ _ _
  try clear_value x1
  try clear_value x2
  refine ⟨_, rfl, ?_⟩
  refine Effect.after (State.settle_effect ..) (by decide +kernel) ?_
  refine Effect.after (State.showSafe_effect ..) (by decide +kernel) ?_
  refine Effect.after (Effect.safety _ _) (by decide +kernel) ?_
  exact h3

def execParamWrite_touch : List Part := [.host, .out]
def execParamWrite_fields : Option (List Field) := some [Reg.HOST_IRQ_PENDING.SOURCE, Reg.ENG_CMD_LAST.RESULT, Reg.ENG_CMD_LAST.OP, Reg.ENG_CMD_LAST.ENTRY, Reg.ENG_CMD_FRAME.FRAME, Reg.ENG_EVENT.CMD_REFUSED, Reg.ENG_PARAM.VALUE]
theorem execParamWrite_effect (p0 : List Byte) (s : State) :
    ∃ n, execParamWrite p0 s = .next n ∧ Effect execParamWrite_touch execParamWrite_fields s n := by
  unfold execParamWrite done
  refine ⟨_, rfl, ?_⟩
  refine Effect.after (State.settle_effect ..) (by decide +kernel) ?_
  refine Effect.after (State.cmdParamWrite_effect ..) (by decide +kernel) ?_
  exact Effect.refl _ _ _

def execAdcRefReady_touch : List Part := [.time, .host, .fr, .out]
def execAdcRefReady_fields : Option (List Field) := some [Reg.HOST_IRQ_PENDING.SOURCE, Reg.ADC_REF.READY, Reg.ADC_EVENT.REF_READY, Reg.TIME_STATUS.SLEWING, Reg.TIME_SLEW_REMAIN.VALUE]
theorem execAdcRefReady_effect (p0 : Nat) (s : State) :
    ∃ n, execAdcRefReady p0 s = .next n ∧ Effect execAdcRefReady_touch execAdcRefReady_fields s n := by
  unfold execAdcRefReady done
  refine ⟨_, rfl, ?_⟩
  refine Effect.after (State.settle_effect ..) (by decide +kernel) ?_
  refine Effect.after (State.refReady_effect ..) (by decide +kernel) ?_
  refine Effect.after (State.elapse_effect ..) (by decide +kernel) ?_
  exact Effect.refl _ _ _

def execCoastLimit_touch : List Part := [.time, .faults, .host, .fr, .cells, .arms, .convs, .out]
def execCoastLimit_fields : Option (List Field) := some [Reg.CONV_STATE.STATE, Reg.CONV_STATE.CAUSE, Reg.CONV_STATE.SLEWING, Reg.CONV_STATE_FRAME.FRAME, Reg.CONV_RESIDUAL.E, Reg.CONV_COUNT.BLOCKS, Reg.CONV_EVENT.BLOCK, Reg.CONV_EVENT.RESYNC_FAIL, Reg.CONV_EVENT.COAST_LIMIT, Reg.CONV_EVENT_SRC.CONV, Reg.HOST_IRQ_PENDING.SOURCE, Reg.COLLECT_STATUS_LO.STATUS, Reg.COLLECT_STATUS_HI.STATUS, Reg.FAULT_COUNT_CORR.COUNT, Reg.FAULT_COUNT_CONT.COUNT, Reg.FAULT_COUNT_FATAL.COUNT, Reg.FAULT_EVENT.CORRECTED, Reg.FAULT_EVENT.CONTAINED, Reg.FAULT_EVENT.FATAL, Reg.FAULT_EVENT.HIST_LOST, Reg.FAULT_HIST_STATUS.LOST, Reg.TIME_STATUS.SLEWING, Reg.TIME_SLEW_REMAIN.VALUE, Reg.ARM_PTR.PTR]
theorem execCoastLimit_effect (p0 : Fin 12) (p1 : Nat) (s : State) :
    ∃ n, execCoastLimit p0 p1 s = .next n ∧ Effect execCoastLimit_touch execCoastLimit_fields s n := by
  unfold execCoastLimit done
  refine ⟨_, rfl, ?_⟩
  refine Effect.after (State.settle_effect ..) (by decide +kernel) ?_
  refine Effect.after (State.coastLimit_effect ..) (by decide +kernel) ?_
  refine Effect.after (State.elapse_effect ..) (by decide +kernel) ?_
  exact Effect.refl _ _ _

def execBbPortUp_touch : List Part := [.time, .host, .fr, .pair, .out]
def execBbPortUp_fields : Option (List Field) := some [Reg.HOST_IRQ_PENDING.SOURCE, Reg.TIME_STATUS.SLEWING, Reg.TIME_SLEW_REMAIN.VALUE, Reg.BB_STATUS.UP, Reg.BB_STATUS.TX_IDLE, Reg.BB_STATUS.RX_IDLE, Reg.BB_STATUS.CLOCK, Reg.BB_STATUS.SKEW, Reg.BB_EVENT.EVENTS]
theorem execBbPortUp_effect (p0 : Fin 4) (p1 : Nat) (p2 : Nat) (s : State) :
    ∃ n, execBbPortUp p0 p1 p2 s = .next n ∧ Effect execBbPortUp_touch execBbPortUp_fields s n := by
  unfold execBbPortUp done
  refine ⟨_, rfl, ?_⟩
  refine Effect.after (State.settle_effect ..) (by decide +kernel) ?_
  refine Effect.after (State.bbUp_effect ..) (by decide +kernel) ?_
  refine Effect.after (State.elapse_effect ..) (by decide +kernel) ?_
  exact Effect.refl _ _ _

def execPllLock_touch : List Part := [.time, .power, .host, .load, .fr, .referee, .out, .drawn]
def execPllLock_fields : Option (List Field) := some [Reg.DOMAIN_STATE.DRAM_ACTIVE, Reg.HOST_IRQ_PENDING.SOURCE, Reg.CLOCK_GO.GO, Reg.CLOCK_PLL_STATUS.LOCK, Reg.CLOCK_PLL_STATUS.STAGED, Reg.CLOCK_PLL_STATUS.COUNT, Reg.CLOCK_EVENT.EVENTS, Reg.SAFE_STATUS.A_OK, Reg.SAFE_STATUS.B_OK, Reg.SAFE_STATUS.DIAG, Reg.SAFE_STATUS.DIAG_CAUSE, Reg.SAFE_STATUS.RESET_PIN, Reg.SAFE_STATUS.DEMAND, Reg.SAFE_STATUS.LOCKED, Reg.SAFE_STATUS.DIAG_A, Reg.SAFE_STATUS.DIAG_B, Reg.SAFE_GROUP.STATE, Reg.SAFE_GROUP.KIND, Reg.SAFE_GROUP.STOP, Reg.SAFE_GROUP.CAUSE, Reg.SAFE_GROUP.PAIRS, Reg.SAFE_PAIR.CH_A, Reg.SAFE_PAIR.CH_B, Reg.SAFE_PAIR.DEMAND, Reg.SAFE_PAIR.PAIR_FAULT, Reg.SAFE_PAIR.FAULT_CAUSE, Reg.SAFE_PAIR.DEMANDS, Reg.SAFE_TPO.EN, Reg.SAFE_TPO.READBACK_FAULT, Reg.SAFE_FIRE.FIRE_A, Reg.SAFE_FIRE.FIRE_B, Reg.SAFE_FIRE.DRV_A, Reg.SAFE_FIRE.DRV_B, Reg.SAFE_RESET_STATUS.ARMED, Reg.TIME_STATUS.SLEWING, Reg.TIME_SLEW_REMAIN.VALUE]
theorem execPllLock_effect (p0 : Fin 4) (p1 : Nat) (s : State) :
    ∃ n, execPllLock p0 p1 s = .next n ∧ Effect execPllLock_touch execPllLock_fields s n := by
  unfold execPllLock done
  refine ⟨_, rfl, ?_⟩
  refine Effect.after (State.settle_effect ..) (by decide +kernel) ?_
  refine Effect.after (State.pllLock_effect ..) (by decide +kernel) ?_
  refine Effect.after (State.elapse_effect ..) (by decide +kernel) ?_
  exact Effect.refl _ _ _

def execLaneSyncAcquire_touch : List Part := [.time, .host, .fr, .lanes, .out]
def execLaneSyncAcquire_fields : Option (List Field) := some [Reg.HOST_IRQ_PENDING.SOURCE, Reg.TIME_STATUS.SLEWING, Reg.TIME_SLEW_REMAIN.VALUE, Reg.LANE_STATUS.STATE, Reg.LANE_STATUS.SYNC, Reg.LANE_EVENT.SYNC]
theorem execLaneSyncAcquire_effect (p0 : Fin 96) (p1 : Nat) (s : State) :
    ∃ n, execLaneSyncAcquire p0 p1 s = .next n ∧ Effect execLaneSyncAcquire_touch execLaneSyncAcquire_fields s n := by
  unfold execLaneSyncAcquire done
  refine ⟨_, rfl, ?_⟩
  refine Effect.after (State.settle_effect ..) (by decide +kernel) ?_
  refine Effect.after (State.syncAcquire_effect ..) (by decide +kernel) ?_
  refine Effect.after (State.elapse_effect ..) (by decide +kernel) ?_
  exact Effect.refl _ _ _

def execPowerDormant_touch : List Part := [.time, .power, .host, .fr, .out]
def execPowerDormant_fields : Option (List Field) := some [Reg.HOST_IRQ_PENDING.SOURCE, Reg.POWER_CTRL.DORMANT, Reg.POWER_ENTRY_STATUS.RESULT, Reg.POWER_ENTRY_STATUS.DOMAIN, Reg.POWER_ENTRY_STATUS.RETRIES, Reg.TIME_STATUS.SLEWING, Reg.TIME_SLEW_REMAIN.VALUE]
theorem execPowerDormant_effect (p0 : Nat) (p1 : Nat) (s : State) :
    ∃ n, execPowerDormant p0 p1 s = .next n ∧ Effect execPowerDormant_touch execPowerDormant_fields s n := by
  unfold execPowerDormant done
  refine ⟨_, rfl, ?_⟩
  refine Effect.after (State.settle_effect ..) (by decide +kernel) ?_
  refine Effect.after (State.powerDormant_effect ..) (by decide +kernel) ?_
  refine Effect.after (State.elapse_effect ..) (by decide +kernel) ?_
  exact Effect.refl _ _ _

def execCanTxAttemptFail_touch : List Part := [.time, .faults, .host, .fr, .canQueues, .cans, .out]
def execCanTxAttemptFail_fields : Option (List Field) := some [Reg.HOST_IRQ_PENDING.SOURCE, Reg.COLLECT_STATUS_LO.STATUS, Reg.COLLECT_STATUS_HI.STATUS, Reg.FAULT_COUNT_CORR.COUNT, Reg.FAULT_COUNT_CONT.COUNT, Reg.FAULT_COUNT_FATAL.COUNT, Reg.FAULT_EVENT.CORRECTED, Reg.FAULT_EVENT.CONTAINED, Reg.FAULT_EVENT.FATAL, Reg.FAULT_EVENT.HIST_LOST, Reg.FAULT_HIST_STATUS.LOST, Reg.TIME_STATUS.SLEWING, Reg.TIME_SLEW_REMAIN.VALUE, Reg.CAN_STATUS.STATE, Reg.CAN_STATUS.WARNING, Reg.CAN_STATUS.RECOVERING, Reg.CAN_ERRCNT.TEC, Reg.CAN_ERRCNT.BUSOFF, Reg.CAN_TXQ.FILL, Reg.CAN_EVENT.EVENTS]
theorem execCanTxAttemptFail_effect (p0 : Fin 4) (p1 : Bool) (p2 : Nat) (p3 : Nat) (s : State) :
    ∃ n, execCanTxAttemptFail p0 p1 p2 p3 s = .next n ∧ Effect execCanTxAttemptFail_touch execCanTxAttemptFail_fields s n := by
  unfold execCanTxAttemptFail done
  refine ⟨_, rfl, ?_⟩
  refine Effect.after (State.settle_effect ..) (by decide +kernel) ?_
  refine Effect.after (State.canFail_effect ..) (by decide +kernel) ?_
  refine Effect.after (State.elapse_effect ..) (by decide +kernel) ?_
  exact Effect.refl _ _ _

def execBankSwap_touch : List Part := [.host, .out]
def execBankSwap_fields : Option (List Field) := some [Reg.HOST_IRQ_PENDING.SOURCE, Reg.ENG_BANK.ACTIVE, Reg.ENG_BANK.SWAPS, Reg.ENG_CMD_LAST.RESULT, Reg.ENG_CMD_LAST.OP, Reg.ENG_CMD_LAST.ENTRY, Reg.ENG_CMD_FRAME.FRAME, Reg.ENG_EVENT.SWAP, Reg.ENG_EVENT.CMD_REFUSED]
theorem execBankSwap_effect (p0 : Nat) (s : State) :
    ∃ n, execBankSwap p0 s = .next n ∧ Effect execBankSwap_touch execBankSwap_fields s n := by
  unfold execBankSwap done
  refine ⟨_, rfl, ?_⟩
  refine Effect.after (State.settle_effect ..) (by decide +kernel) ?_
  refine Effect.after (State.cmdBankSwap_effect ..) (by decide +kernel) ?_
  exact Effect.refl _ _ _

def execHkRoundDone_touch : List Part := [.hold, .wrHold, .time, .power, .faults, .host, .load, .cfg, .fr, .images, .lanes, .chains, .cells, .arms, .engs, .convs, .referee, .pair, .journal, .adc, .drives, .motors, .safety, .eths, .canQueues, .cans, .out]
def execHkRoundDone_fields : Option (List Field) := none
theorem execHkRoundDone_effect (p0 : List (Nat × Bool × Bool)) (p1 : Nat) (s : State) :
    ∃ n, execHkRoundDone p0 p1 s = .next n ∧ Effect execHkRoundDone_touch execHkRoundDone_fields s n := by
  unfold execHkRoundDone done
  refine ⟨_, rfl, ?_⟩
  refine Effect.after (State.settle_effect ..) (by decide +kernel) ?_
  refine Effect.after (State.hkDone_effect ..) (by decide +kernel) ?_
  refine Effect.after (State.elapse_effect ..) (by decide +kernel) ?_
  exact Effect.refl _ _ _

def execAdcResult_touch : List Part := [.time, .host, .fr, .adc, .out]
def execAdcResult_fields : Option (List Field) := some [Reg.HOST_IRQ_PENDING.SOURCE, Reg.ADC_STATUS.BUSY, Reg.ADC_STATUS.INVALID, Reg.ADC_STATUS.CLIP, Reg.ADC_EVENT.WINDOW, Reg.ADC_SEQ_COUNT.INVALID, Reg.ADC_SEQ_WIN_EVENT.EVENT, Reg.ADC_ENTRY_RESULT.RAW, Reg.ADC_ENTRY_RESULT.FLAGS, Reg.ADC_ENTRY_RESULT.SETTLE, Reg.TIME_STATUS.SLEWING, Reg.TIME_SLEW_REMAIN.VALUE]
theorem execAdcResult_effect (p0 : Fin 8) (p1 : Fin 32) (p2 : Int) (p3 : Nat) (s : State) :
    ∃ n, execAdcResult p0 p1 p2 p3 s = .next n ∧ Effect execAdcResult_touch execAdcResult_fields s n := by
  unfold execAdcResult done
  refine ⟨_, rfl, ?_⟩
  refine Effect.after (State.settle_effect ..) (by decide +kernel) ?_
  refine Effect.after (State.adcResult_effect ..) (by decide +kernel) ?_
  refine Effect.after (State.elapse_effect ..) (by decide +kernel) ?_
  exact Effect.refl _ _ _

def execVbUndervoltage_touch : List Part := [.time, .host, .fr, .drives, .out]
def execVbUndervoltage_fields : Option (List Field) := some [Reg.HOST_IRQ_PENDING.SOURCE, Reg.TIME_STATUS.SLEWING, Reg.TIME_SLEW_REMAIN.VALUE, Reg.DRV_STATUS.LEG_FAULT, Reg.DRV_LEG_STATUS.DESAT_HS, Reg.DRV_LEG_STATUS.DESAT_LS, Reg.DRV_LEG_STATUS.INSTANT, Reg.DRV_LEG_STATUS.VB_UV, Reg.DRV_LEG_STATUS.INPUT_ACTIVE, Reg.DRV_LEG_STATUS.GATES_OFF]
theorem execVbUndervoltage_effect (p0 : Fin 4) (p1 : Fin 4) (p2 : Nat) (s : State) :
    ∃ n, execVbUndervoltage p0 p1 p2 s = .next n ∧ Effect execVbUndervoltage_touch execVbUndervoltage_fields s n := by
  unfold execVbUndervoltage done
  refine ⟨_, rfl, ?_⟩
  refine Effect.after (State.settle_effect ..) (by decide +kernel) ?_
  refine Effect.after (State.vbUndervoltage_effect ..) (by decide +kernel) ?_
  refine Effect.after (State.drvElapse_effect ..) (by decide +kernel) ?_
  exact Effect.refl _ _ _

def execDriveBandChange_touch : List Part := [.time, .host, .fr, .drives, .out]
def execDriveBandChange_fields : Option (List Field) := some [Reg.HOST_IRQ_PENDING.SOURCE, Reg.THERMAL_BAND.DRV, Reg.THERMAL_EVENT.EVENTS, Reg.TIME_STATUS.SLEWING, Reg.TIME_SLEW_REMAIN.VALUE, Reg.DRV_STATUS.BAND]
theorem execDriveBandChange_effect (p0 : Fin 4) (p1 : Nat) (p2 : Bool) (p3 : Nat) (s : State) :
    ∃ n, execDriveBandChange p0 p1 p2 p3 s = .next n ∧ Effect execDriveBandChange_touch execDriveBandChange_fields s n := by
  unfold execDriveBandChange done
  refine ⟨_, rfl, ?_⟩
  refine Effect.after (State.settle_effect ..) (by decide +kernel) ?_
  refine Effect.after (State.driveBand_effect ..) (by decide +kernel) ?_
  refine Effect.after (State.elapse_effect ..) (by decide +kernel) ?_
  exact Effect.refl _ _ _

def execXbarWaitClear_touch : List Part := [.host, .out]
def execXbarWaitClear_fields : Option (List Field) := some [Reg.XBAR_WAIT.ENG_MAX_WAIT, Reg.XBAR_WAIT.HOST_MAX_WAIT, Reg.HOST_IRQ_PENDING.SOURCE]
theorem execXbarWaitClear_effect (s : State) :
    ∃ n, execXbarWaitClear s = .next n ∧ Effect execXbarWaitClear_touch execXbarWaitClear_fields s n := by
  unfold execXbarWaitClear done
  refine ⟨_, rfl, ?_⟩
  refine Effect.after (State.settle_effect ..) (by decide +kernel) ?_
  refine Effect.after (State.xbarClear_effect ..) (by decide +kernel) ?_
  exact Effect.refl _ _ _

def execTimeSyncClr_touch : List Part := [.time, .host, .fr, .out]
def execTimeSyncClr_fields : Option (List Field) := some [Reg.HOST_IRQ_PENDING.SOURCE, Reg.TIME_STATUS.SYNC, Reg.TIME_STATUS.SLEWING, Reg.TIME_SLEW_REMAIN.VALUE, Reg.TIME_EVENT.EVENTS]
theorem execTimeSyncClr_effect (p0 : Nat) (s : State) :
    ∃ n, execTimeSyncClr p0 s = .next n ∧ Effect execTimeSyncClr_touch execTimeSyncClr_fields s n := by
  unfold execTimeSyncClr done
  refine ⟨_, rfl, ?_⟩
  refine Effect.after (State.settle_effect ..) (by decide +kernel) ?_
  refine Effect.after (State.hostSync_effect ..) (by decide +kernel) ?_
  refine Effect.after (State.elapse_effect ..) (by decide +kernel) ?_
  exact Effect.refl _ _ _

def execDrvLatchClear_touch : List Part := [.time, .faults, .host, .fr, .drives, .motors, .out]
def execDrvLatchClear_fields : Option (List Field) := some [Reg.HOST_IRQ_PENDING.SOURCE, Reg.COLLECT_STATUS_LO.STATUS, Reg.COLLECT_STATUS_HI.STATUS, Reg.FAULT_COUNT_CORR.COUNT, Reg.FAULT_COUNT_CONT.COUNT, Reg.FAULT_COUNT_FATAL.COUNT, Reg.FAULT_EVENT.CORRECTED, Reg.FAULT_EVENT.CONTAINED, Reg.FAULT_EVENT.FATAL, Reg.FAULT_EVENT.HIST_LOST, Reg.FAULT_HIST_STATUS.LOST, Reg.TIME_STATUS.SLEWING, Reg.TIME_SLEW_REMAIN.VALUE, Reg.DRV_CTRL.MODE, Reg.DRV_STATUS.LATCHED, Reg.DRV_STATUS.LATCH_CAUSE, Reg.DRV_STATUS.LEG_FAULT, Reg.DRV_CARRIER_ACT.TOP, Reg.DRV_LEG_STATUS.CMP_ACT, Reg.DRV_LEG_STATUS.DESAT_HS, Reg.DRV_LEG_STATUS.DESAT_LS, Reg.DRV_LEG_STATUS.INSTANT, Reg.DRV_LEG_STATUS.VB_UV, Reg.DRV_LEG_STATUS.INPUT_ACTIVE, Reg.DRV_LEG_STATUS.GATES_OFF, Reg.DRV_LEG_STATUS.MODE_ACT, Reg.DRV_LEG_COUNT.SUPPRESSED, Reg.DRV_LEG_COUNT.FULL_ON, Reg.DRV_LEG_COUNT.INTERLOCK, Reg.DRV_TRIP.COUNT, Reg.DRV_EVENT.CLEAR_REFUSED, Reg.MOT_STATE.STATE, Reg.MOT_STATE.CHOP_FAULT, Reg.MOT_EVENT.STATE, Reg.MOT_EVENT.OBS_LOST]
theorem execDrvLatchClear_effect (p0 : DrvIn) (p1 : Nat) (p2 : Nat) (s : State) :
    ∃ n, execDrvLatchClear p0 p1 p2 s = .next n ∧ Effect execDrvLatchClear_touch execDrvLatchClear_fields s n := by
  unfold execDrvLatchClear done
  refine ⟨_, rfl, ?_⟩
  refine Effect.after (State.settle_effect ..) (by decide +kernel) ?_
  refine Effect.after (State.drvCtrlWrite_effect ..) (by decide +kernel) ?_
  refine Effect.after (State.seeInputs_effect ..) (by decide +kernel) ?_
  refine Effect.after (State.drvElapse_effect ..) (by decide +kernel) ?_
  exact Effect.refl _ _ _

def execEthRingRestart_touch : List Part := [.wrHold, .host, .eths, .out]
def execEthRingRestart_fields : Option (List Field) := some [Reg.HOST_IRQ_PENDING.SOURCE, Reg.ETH_TXR_BASE_LO.ADDR, Reg.ETH_TXR_BASE_HI.ADDR, Reg.ETH_TXR_HEAD.INDEX, Reg.ETH_TXR_TAIL.INDEX, Reg.ETH_RXR_BASE_LO.ADDR, Reg.ETH_RXR_BASE_HI.ADDR, Reg.ETH_RXR_HEAD.INDEX, Reg.ETH_RXR_TAIL.INDEX]
theorem execEthRingRestart_effect (p0 : Fin 2) (p1 : Bool) (p2 : Nat) (s : State) :
    ∃ n, execEthRingRestart p0 p1 p2 s = .next n ∧ Effect execEthRingRestart_touch execEthRingRestart_fields s n := by
  unfold execEthRingRestart done
  refine ⟨_, rfl, ?_⟩
  refine Effect.after (State.settle_effect ..) (by decide +kernel) ?_
  refine Effect.after (State.ethRestart_effect ..) (by decide +kernel) ?_
  exact Effect.refl _ _ _

def execFrameClearStale_touch : List Part := [.host, .out]
def execFrameClearStale_fields : Option (List Field) := some [Reg.HOST_IRQ_PENDING.SOURCE, Reg.STALE_COUNT.STALE, Reg.STALE_COUNT.LATE, Reg.DUP_COUNT.DUP, Reg.DUP_COUNT.OLD]
theorem execFrameClearStale_effect (s : State) :
    ∃ n, execFrameClearStale s = .next n ∧ Effect execFrameClearStale_touch execFrameClearStale_fields s n := by
  unfold execFrameClearStale done
  refine ⟨_, rfl, ?_⟩
  refine Effect.after (State.settle_effect ..) (by decide +kernel) ?_
  refine Effect.after (State.clearStale_effect ..) (by decide +kernel) ?_
  exact Effect.refl _ _ _

def execAutoRedeblock_touch : List Part := [.time, .host, .fr, .convs, .out]
def execAutoRedeblock_fields : Option (List Field) := some [Reg.CONV_STATE.STATE, Reg.CONV_STATE_FRAME.FRAME, Reg.CONV_EVENT.DEBLOCK, Reg.CONV_EVENT_SRC.CONV, Reg.HOST_IRQ_PENDING.SOURCE, Reg.TIME_STATUS.SLEWING, Reg.TIME_SLEW_REMAIN.VALUE]
theorem execAutoRedeblock_effect (p0 : Fin 12) (p1 : Nat) (s : State) :
    ∃ n, execAutoRedeblock p0 p1 s = .next n ∧ Effect execAutoRedeblock_touch execAutoRedeblock_fields s n := by
  unfold execAutoRedeblock done
  extract_lets x1
  have h2 : Effect execAutoRedeblock_touch execAutoRedeblock_fields s x1 := by
    refine Effect.after (State.elapse_effect ..) (by decide +kernel) ?_
    exact Effect.refl _ _ _
  try clear_value x1
  refine ⟨_, rfl, ?_⟩
  refine Effect.after (State.settle_effect ..) (by decide +kernel) ?_
  refine Effect.ite ?_ ?_
  · refine Effect.after (State.autoRedeblock_effect ..) (by decide +kernel) ?_
    exact h2
  · exact h2

def execTimeSlewGo_touch : List Part := [.time, .host, .fr, .out]
def execTimeSlewGo_fields : Option (List Field) := some [Reg.HOST_IRQ_PENDING.SOURCE, Reg.TIME_STATUS.SLEWING, Reg.TIME_SLEW_REMAIN.VALUE, Reg.TIME_EVENT.EVENTS]
theorem execTimeSlewGo_effect (p0 : Nat) (s : State) :
    ∃ n, execTimeSlewGo p0 s = .next n ∧ Effect execTimeSlewGo_touch execTimeSlewGo_fields s n := by
  unfold execTimeSlewGo done
  refine ⟨_, rfl, ?_⟩
  refine Effect.after (State.settle_effect ..) (by decide +kernel) ?_
  refine State.steered_effect (by decide +kernel) ?_ ?_
  · refine Effect.after (State.elapse_effect ..) (by decide +kernel) ?_
    exact Effect.refl _ _ _
  · intro u1
    try beta_reduce
    refine Effect.after (State.slewGo_effect ..) (by decide +kernel) ?_
    exact Effect.refl _ _ _

def execReviveComplete_touch : List Part := [.time, .power, .host, .fr, .engs, .referee, .out]
def execReviveComplete_fields : Option (List Field) := some [Reg.DOMAIN_STATE.PLANE_A, Reg.DOMAIN_STATE.PLANE_B, Reg.HOST_IRQ_PENDING.SOURCE, Reg.POWER_PGOOD.PGOOD, Reg.REF_STATUS.STATE, Reg.REF_STATUS.ROLE_A, Reg.REF_STATUS.ROLE_B, Reg.REF_HT_STATUS.OUTCOME, Reg.REF_EVENT.UNFIT, Reg.ENG_STATUS.BALL, Reg.ENG_STATUS.SHADOW, Reg.ENG_STATUS.COLD, Reg.ENG_EXPORT.VALUE, Reg.TIME_STATUS.SLEWING, Reg.TIME_SLEW_REMAIN.VALUE]
theorem execReviveComplete_effect (p0 : Nat) (s : State) :
    ∃ n, execReviveComplete p0 s = .next n ∧ Effect execReviveComplete_touch execReviveComplete_fields s n := by
  unfold execReviveComplete done
  refine ⟨_, rfl, ?_⟩
  refine Effect.after (State.settle_effect ..) (by decide +kernel) ?_
  refine Effect.after (State.reviveComplete_effect ..) (by decide +kernel) ?_
  refine Effect.after (State.elapse_effect ..) (by decide +kernel) ?_
  exact Effect.refl _ _ _

def execImageCommit_touch : List Part := [.time, .power, .faults, .host, .load, .cfg, .fr, .lanes, .chains, .cells, .arms, .engs, .convs, .referee, .adc, .drives, .motors, .safety, .canQueues, .out]
def execImageCommit_fields : Option (List Field) := some [Reg.ROLE_COUNT.LANE_SLICES, Reg.ROLE_COUNT.ARM_SLICES, Reg.ROLE_COUNT.RECORDER, Reg.ROLE_COUNT.MIRROR, Reg.ROLE_COUNT.SPARE, Reg.ROLE_COUNT.UNASSIGNED, Reg.DOMAIN_STATE.PLANE_A, Reg.DOMAIN_STATE.PLANE_B, Reg.CONV_STATE.STATE, Reg.CONV_STATE.KIND, Reg.CONV_STATE.ARMS, Reg.CONV_MF_OMEGA.OMEGA_MF, Reg.HOST_IRQ_PENDING.SOURCE, Reg.POWER_STATE.STATE, Reg.POWER_PGOOD.PGOOD, Reg.COLLECT_STATUS_LO.STATUS, Reg.COLLECT_STATUS_HI.STATUS, Reg.FAULT_QUIET.QUIET_MS, Reg.FAULT_COUNT_CORR.COUNT, Reg.FAULT_COUNT_CONT.COUNT, Reg.FAULT_COUNT_FATAL.COUNT, Reg.FAULT_EVENT.CORRECTED, Reg.FAULT_EVENT.CONTAINED, Reg.FAULT_EVENT.FATAL, Reg.FAULT_EVENT.HIST_LOST, Reg.FAULT_HIST_STATUS.LOST, Reg.REF_STATUS.ROLE_A, Reg.REF_STATUS.ROLE_B, Reg.REF_CKPT.NEWEST, Reg.REF_CKPT.VALID0, Reg.REF_CKPT.VALID1, Reg.REF_CKPT_SEQ.SEQ, Reg.REF_PAIR.ENABLED, Reg.REF_EVENT.UNFIT, Reg.FRAME_PERIOD.PERIOD, Reg.FRAME_PHASE0.SAMPLE, Reg.FRAME_PHASE0.APPLY, Reg.FRAME_PHASE1.FREEZE, Reg.FRAME_PHASE1.COMPUTE_END, Reg.FRAME_PHASE2.RANK_END, Reg.FRAME_STATUS.RUNNING, Reg.PLAN_LEVEL.CURRENT, Reg.PLAN_LEVEL.LIMIT, Reg.PLAN_LEVEL.STATIC, Reg.PLAN_FORECAST.ENG_NEED, Reg.PLAN_FORECAST.FAB_NEED, Reg.PLAN_CAPACITY.ENG_CAP, Reg.PLAN_CAPACITY.FAB_CAP, Reg.PLAN_POWER.BUDGET, Reg.PLAN_THERMAL.MARGIN, Reg.PLAN_BG_ORDER.ORDER, Reg.SAFE_STATUS.A_OK, Reg.SAFE_STATUS.B_OK, Reg.SAFE_STATUS.DIAG, Reg.SAFE_STATUS.DIAG_CAUSE, Reg.SAFE_STATUS.RESET_PIN, Reg.SAFE_STATUS.DEMAND, Reg.SAFE_STATUS.LOCKED, Reg.SAFE_STATUS.DIAG_A, Reg.SAFE_STATUS.DIAG_B, Reg.SAFE_GROUP.STATE, Reg.SAFE_GROUP.KIND, Reg.SAFE_GROUP.STOP, Reg.SAFE_GROUP.CAUSE, Reg.SAFE_GROUP.PAIRS, Reg.SAFE_PAIR.CH_A, Reg.SAFE_PAIR.CH_B, Reg.SAFE_PAIR.DEMAND, Reg.SAFE_PAIR.PAIR_FAULT, Reg.SAFE_PAIR.FAULT_CAUSE, Reg.SAFE_PAIR.DEMANDS, Reg.SAFE_TPO.EN, Reg.SAFE_TPO.READBACK_FAULT, Reg.SAFE_FIRE.FIRE_A, Reg.SAFE_FIRE.FIRE_B, Reg.SAFE_FIRE.DRV_A, Reg.SAFE_FIRE.DRV_B, Reg.SAFE_RESET_STATUS.ARMED, Reg.IMAGE_STATUS.STATE, Reg.IMAGE_STATUS.SOURCE, Reg.IMAGE_STATUS.CODE, Reg.IMAGE_ERR_SECTION.INDEX, Reg.IMAGE_ERR_SECTION.TYPE, Reg.IMAGE_ERR_OFFSET.OFFSET, Reg.IMAGE_PRIMARY_CODE.CODE, Reg.IMAGE_ID_LO.ID, Reg.IMAGE_ID_HI.ID, Reg.IMAGE_INFO.VERSION, Reg.IMAGE_SIZE.SIZE, Reg.IMAGE_KEY.SLOT_USED, Reg.IMAGE_KEY.EPOCH_IMAGE, Reg.IMAGE_SLICE_FAIL.FAIL, Reg.IMAGE_EVENT.DONE, Reg.IMAGE_EVENT.SPARE_LOW, Reg.ENG_STATUS.LOADED, Reg.ENG_STATUS.BALL, Reg.ENG_STATUS.SHADOW, Reg.ENG_STATUS.COLD, Reg.ENG_STATUS.QUIET, Reg.ENG_STATUS.BLOCKS, Reg.ENG_COST.STATIC, Reg.ENG_COST.SUM, Reg.ENG_BANK.ACTIVE, Reg.ENG_BANK.ENTRIES, Reg.ENG_SIZE.STATE_WORDS, Reg.ENG_SIZE.EXPORTS, Reg.ENG_PARAM.VALUE, Reg.ENG_EXPORT.VALUE, Reg.ADC_CTRL.SEQ_EN, Reg.ADC_REF.EN, Reg.ADC_REF.AUTO, Reg.ADC_IN_CFG.GAIN, Reg.ADC_IN_CFG.EN, Reg.ADC_SEQ_CTRL.LEN, Reg.ADC_SEQ_BURST.START, Reg.ADC_SEQ_BURST.LENGTH, Reg.ADC_ENTRY_CFG.INPUT, Reg.ADC_ENTRY_CFG.ACQ, Reg.ADC_ENTRY_CFG.SHIFT, Reg.ADC_ENTRY_CFG.WIN_EN, Reg.ADC_ENTRY_SCALE.VALUE, Reg.ADC_ENTRY_OFFSET.VALUE, Reg.ADC_ENTRY_WIN_HI.VALUE, Reg.ADC_ENTRY_WIN_LO.VALUE, Reg.ADC_DS_CFG.ORDER, Reg.ADC_DS_CFG.LOG2R, Reg.ADC_DS_CFG.SHIFT, Reg.ADC_DS_SCALE.VALUE, Reg.ADC_DS_OFFSET.VALUE, Reg.ADC_HK_DIODE_CFG0.IDEALITY, Reg.ADC_HK_DIODE_CFG1.IDEALITY, Reg.TIME_CTRL.SERVO, Reg.TIME_STATUS.SYNC, Reg.TIME_STATUS.SLEWING, Reg.TIME_SLEW_REMAIN.VALUE, Reg.TIME_PPS_CFG.KP, Reg.TIME_PPS_CFG.KI, Reg.TIME_PPS_CFG.EDGE, Reg.TIME_PPS_CFG.LOCK_NS, Reg.TIME_PPS_OFFSET.VALUE, Reg.TIME_FRAME_ALIGN.OFFSET, Reg.TIME_FRAME_ALIGN.SLEW, Reg.TIME_EVENT.EVENTS, Reg.ETH_CTRL.MODE, Reg.ETH_CTRL.AN_EN, Reg.ETH_MAC_LO.MAC, Reg.ETH_MAC_HI.MAC, Reg.ETH_LAT.TX, Reg.ETH_LAT.RX, Reg.CAN_CTRL.MODE, Reg.CAN_CTRL.FD_EN, Reg.CAN_CTRL.AUTO_RECOVER, Reg.CAN_STATUS.STATE, Reg.CAN_NBT.NBRP, Reg.CAN_NBT.NTSEG1, Reg.CAN_NBT.NTSEG2, Reg.CAN_NBT.NSJW, Reg.CAN_DBT.DBRP, Reg.CAN_DBT.DTSEG1, Reg.CAN_DBT.DTSEG2, Reg.CAN_DBT.DSJW, Reg.CAN_DBT.TDC_EN, Reg.CAN_DBT.TDCO, Reg.CAN_MATRIX.LOG2_CYCLE, Reg.CAN_MATRIX.LOG2_ROWS, Reg.CAN_MATRIX.COLS, Reg.CAN_TXQ.FILL, Reg.DRV_CTRL.MODE, Reg.DRV_STATUS.LOAD_PENDING, Reg.DRV_STATUS.LEG_FAULT, Reg.DRV_CARRIER.TOP, Reg.DRV_CARRIER_ACT.TOP, Reg.DRV_GATE.SRC, Reg.DRV_GATE.SNK, Reg.DRV_GATE.SOFT, Reg.DRV_GATE.CH_SRC, Reg.DRV_GATE.CH_SNK, Reg.DRV_GATE.CH_SOFT, Reg.DRV_GATE.TEMP_COMP, Reg.DRV_PROT.BLANK, Reg.DRV_PROT.MIN_PULSE, Reg.DRV_CHOP_CFG.MODE, Reg.DRV_CHOP_CFG.SIDE, Reg.DRV_CHOP_CFG.TIME, Reg.DRV_CHOP_PERIOD.PERIOD, Reg.DRV_LEG_CFG.MODE, Reg.DRV_LEG_CFG.DEADTIME, Reg.DRV_LEG_DUTY.CMP, Reg.DRV_LEG_STATUS.CMP_ACT, Reg.DRV_LEG_STATUS.DESAT_HS, Reg.DRV_LEG_STATUS.DESAT_LS, Reg.DRV_LEG_STATUS.INSTANT, Reg.DRV_LEG_STATUS.VB_UV, Reg.DRV_LEG_STATUS.GATES_OFF, Reg.DRV_LEG_STATUS.MODE_ACT, Reg.DRV_LEG_COUNT.SUPPRESSED, Reg.DRV_LEG_COUNT.FULL_ON, Reg.DRV_EVENT.LOAD_DONE, Reg.DRV_EVENT.LOAD_ERR, Reg.MOT_STATE.STATE, Reg.MOT_STATE.CURVE_ON, Reg.MOT_STATE.PRIV, Reg.MOT_STATE.SRC, Reg.MOT_EVENT.STATE, Reg.MOT_EVENT.OBS_LOST, Reg.MOT_CURVE.X, Reg.MOT_CURVE.Y, Reg.MOT_CURVE.USED, Reg.MOT_ADV.SPEED, Reg.MOT_ADV.ANGLE, Reg.DRV_LOADALL.UNITS, Reg.DRV_LOAD_STATUS.DONE, Reg.DRV_LOAD_STATUS.ERR, Reg.LANE_STATUS.STATE, Reg.LANE_STATUS.CHAIN_LATE, Reg.LANE_STATUS.SERVED, Reg.LANE_STATUS.FIRST_Q, Reg.LANE_CHAIN.SPLIT, Reg.LANE_CHAIN.GAP, Reg.LANE_CHAIN.CELLS, Reg.LANE_CHAIN.PHYS, Reg.LANE_CHAIN.LOOPED, Reg.LANE_SEGDOWN_LO.DOWN, Reg.LANE_SEGDOWN_HI.DOWN, Reg.LANE_UPBASE.U, Reg.LANE_BUDGET.DELIVERY, Reg.LANE_BUDGET.COMPLETION, Reg.LANE_EVENT.CHAIN_LATE, Reg.LANE_DELAY.VALID, Reg.SLICE_ROLE.ROLE, Reg.SLICE_ROLE.TARGET, Reg.SLICE_ROLE.STATE, Reg.ARM_STATUS.ACTIVE, Reg.ARM_PTR.PTR, Reg.ARM_PAR.LOW, Reg.ARM_PAR.HIGH, Reg.ARM_ALPHA1.ALPHA, Reg.ARM_ALPHA2.ALPHA, Reg.CELL_STATE.STATE, Reg.CELL_STATE.CONFIRMED, Reg.CELL_STATE.NO_REPLY, Reg.CELL_STATE.CALL_QUEUED, Reg.CELL_STATE.REASON, Reg.CELL_PLACE.CHAIN, Reg.CELL_PLACE.POS, Reg.CELL_PLACE.END, Reg.CELL_PLACE.REACHABLE, Reg.CELL_PLACE.ARM, Reg.CELL_PLACE.CLASS, Reg.TS_FOUND_LO.IDENTITY, Reg.TS_FOUND_HI.IDENTITY, Reg.TS_RECORDED_LO.IDENTITY, Reg.TS_RECORDED_HI.IDENTITY, Reg.TS_INFO.CLASS, Reg.TS_INFO.BYPASS_FITTED, Reg.TS_INFO.FIRMWARE, Reg.TS_CALL.Q_EVEN, Reg.TS_CALL.VALID_EVEN, Reg.TS_CALL.Q_ODD, Reg.TS_CALL.VALID_ODD, Reg.TS_CALL.REPLIES, Reg.TS_CALL.RESULT, Reg.TS_CALL_FRAME.FRAME, Reg.CELL_SUMMARY0.SERVICE, Reg.CELL_SUMMARY0.BYPASSED, Reg.CELL_SUMMARY1.PENDING, Reg.CELL_SUMMARY1.OUT, Reg.CELL_SUMMARY2.ABSENT, Reg.CELL_SUMMARY2.REJECTED, Reg.CELL_PENDING_FIRST.CELL, Reg.CELL_UNROSTERED_LO.CHAINS, Reg.CELL_UNROSTERED_HI.CHAINS, Reg.BB_CTRL.EN, Reg.BB_CTRL.PAIR, Reg.BB_CTRL.IDLE_US, Reg.BB_STATUS.UP, Reg.BB_STATUS.TX_IDLE, Reg.BB_STATUS.CLOCK, Reg.BB_EVENT.EVENTS, Reg.BB_PARTNER.NODE, Reg.BB_PARTNER.RIGHTS]
theorem execImageCommit_effect (p0 : List (Fin 128)) (p1 : Bool) (p2 : Nat) (p3 : Nat) (s : State) :
    ∃ n, execImageCommit p0 p1 p2 p3 s = .next n ∧ Effect execImageCommit_touch execImageCommit_fields s n := by
  unfold execImageCommit done
  refine ⟨_, rfl, ?_⟩
  refine Effect.after (State.settle_effect ..) (by decide +kernel) ?_
  refine Effect.after (State.imageCommit_effect ..) (by decide +kernel) ?_
  refine Effect.after (State.elapse_effect ..) (by decide +kernel) ?_
  exact Effect.refl _ _ _

def execVinSample_touch : List Part := [.hold, .wrHold, .time, .power, .faults, .host, .load, .cfg, .fr, .images, .lanes, .chains, .cells, .arms, .engs, .convs, .referee, .pair, .journal, .adc, .drives, .motors, .safety, .eths, .canQueues, .cans, .out]
def execVinSample_fields : Option (List Field) := none
theorem execVinSample_effect (p0 : Nat) (p1 : Nat) (s : State) :
    ∃ n, execVinSample p0 p1 s = .next n ∧ Effect execVinSample_touch execVinSample_fields s n := by
  unfold execVinSample done
  refine ⟨_, rfl, ?_⟩
  refine Effect.after (State.settle_effect ..) (by decide +kernel) ?_
  refine Effect.after (State.vinSample_effect ..) (by decide +kernel) ?_
  refine Effect.after (State.elapse_effect ..) (by decide +kernel) ?_
  exact Effect.refl _ _ _

def execRefereeMismatch_touch : List Part := [.time, .faults, .host, .fr, .referee, .out]
def execRefereeMismatch_fields : Option (List Field) := some [Reg.HOST_IRQ_PENDING.SOURCE, Reg.COLLECT_STATUS_LO.STATUS, Reg.COLLECT_STATUS_HI.STATUS, Reg.FAULT_STATE.ALIVE_RUN, Reg.FAULT_COUNT_CORR.COUNT, Reg.FAULT_COUNT_CONT.COUNT, Reg.FAULT_COUNT_FATAL.COUNT, Reg.FAULT_EVENT.CORRECTED, Reg.FAULT_EVENT.CONTAINED, Reg.FAULT_EVENT.FATAL, Reg.FAULT_EVENT.HIST_LOST, Reg.FAULT_HIST_STATUS.LOST, Reg.ENG_STATUS.BALL, Reg.TIME_STATUS.SLEWING, Reg.TIME_SLEW_REMAIN.VALUE]
theorem execRefereeMismatch_effect (p0 : Nat) (s : State) :
    ∃ n, execRefereeMismatch p0 s = .next n ∧ Effect execRefereeMismatch_touch execRefereeMismatch_fields s n := by
  unfold execRefereeMismatch done
  extract_lets x1 x2 x3 x4 x5
  have h6 : Effect execRefereeMismatch_touch execRefereeMismatch_fields s x1 := by
    refine Effect.after (State.elapse_effect ..) (by decide +kernel) ?_
    exact Effect.refl _ _ _
  try clear_value x1
  have h7 : Effect execRefereeMismatch_touch execRefereeMismatch_fields s x2 := by
    refine Effect.after (State.modRef_effect ..) (by decide +kernel) ?_
    exact h6
  try clear_value x2
  have h8 : Effect execRefereeMismatch_touch execRefereeMismatch_fields s x4 := by
    refine Effect.after (Effect.faults _ _) (by decide +kernel) ?_
    exact h7
  try clear_value x4
  have h9 : Effect execRefereeMismatch_touch execRefereeMismatch_fields s x5 := by
    refine Effect.each ?_ ?_
    · exact h8
    · intro u10 a11
      try beta_reduce
      refine Effect.after (State.wr_effect ..) (by decide +kernel) ?_
      exact Effect.refl _ _ _
  try clear_value x5
  try clear_value x3
  refine ⟨_, rfl, ?_⟩
  refine Effect.after (State.settle_effect ..) (by decide +kernel) ?_
  refine Effect.after (State.raise_effect ..) (by decide +kernel) ?_
  refine Effect.after (State.wr_effect ..) (by decide +kernel) ?_
  exact h9

def execTimeSyncSet_touch : List Part := [.time, .host, .fr, .out]
def execTimeSyncSet_fields : Option (List Field) := some [Reg.HOST_IRQ_PENDING.SOURCE, Reg.TIME_STATUS.SYNC, Reg.TIME_STATUS.SLEWING, Reg.TIME_SLEW_REMAIN.VALUE, Reg.TIME_EVENT.EVENTS]
theorem execTimeSyncSet_effect (p0 : Nat) (s : State) :
    ∃ n, execTimeSyncSet p0 s = .next n ∧ Effect execTimeSyncSet_touch execTimeSyncSet_fields s n := by
  unfold execTimeSyncSet done
  refine ⟨_, rfl, ?_⟩
  refine Effect.after (State.settle_effect ..) (by decide +kernel) ?_
  refine Effect.after (State.hostSync_effect ..) (by decide +kernel) ?_
  refine Effect.after (State.elapse_effect ..) (by decide +kernel) ?_
  exact Effect.refl _ _ _

def execJrnMramEnable_touch : List Part := [.time, .faults, .host, .fr, .journal, .out]
def execJrnMramEnable_fields : Option (List Field) := some [Reg.HOST_IRQ_PENDING.SOURCE, Reg.COLLECT_STATUS_LO.STATUS, Reg.COLLECT_STATUS_HI.STATUS, Reg.FAULT_COUNT_CORR.COUNT, Reg.FAULT_COUNT_CONT.COUNT, Reg.FAULT_COUNT_FATAL.COUNT, Reg.FAULT_EVENT.CORRECTED, Reg.FAULT_EVENT.CONTAINED, Reg.FAULT_EVENT.FATAL, Reg.FAULT_EVENT.HIST_LOST, Reg.FAULT_HIST_STATUS.LOST, Reg.JRN_STATUS.MRAM_OK, Reg.JRN_MRAM_CFG.EN, Reg.JRN_MRAM_CFG.QUAD, Reg.JRN_MRAM_CFG.DIV, Reg.JRN_EVENT.MRAM_FAIL, Reg.TIME_STATUS.SLEWING, Reg.TIME_SLEW_REMAIN.VALUE]
theorem execJrnMramEnable_effect (p0 : Nat) (p1 : Bool) (p2 : Nat) (s : State) :
    ∃ n, execJrnMramEnable p0 p1 p2 s = .next n ∧ Effect execJrnMramEnable_touch execJrnMramEnable_fields s n := by
  unfold execJrnMramEnable done
  refine ⟨_, rfl, ?_⟩
  refine Effect.after (State.settle_effect ..) (by decide +kernel) ?_
  refine Effect.after (State.mramEnable_effect ..) (by decide +kernel) ?_
  refine Effect.after (State.elapse_effect ..) (by decide +kernel) ?_
  exact Effect.refl _ _ _

def execFuseOpDone_touch : List Part := [.fuses, .time, .host, .load, .fr, .out]
def execFuseOpDone_fields : Option (List Field) := some [Reg.HOST_IRQ_PENDING.SOURCE, Reg.KEY_STATUS.BUSY, Reg.KEY_STATUS.RESULT, Reg.TIME_STATUS.SLEWING, Reg.TIME_SLEW_REMAIN.VALUE]
theorem execFuseOpDone_effect (p0 : Bool) (p1 : Nat) (s : State) :
    ∃ n, execFuseOpDone p0 p1 s = .next n ∧ Effect execFuseOpDone_touch execFuseOpDone_fields s n := by
  unfold execFuseOpDone done
  refine ⟨_, rfl, ?_⟩
  refine Effect.after (State.settle_effect ..) (by decide +kernel) ?_
  refine Effect.after (State.fuseDone_effect ..) (by decide +kernel) ?_
  refine Effect.after (State.elapse_effect ..) (by decide +kernel) ?_
  exact Effect.refl _ _ _

def execTRankEnd_touch : List Part := [.time, .power, .faults, .host, .fr, .arms, .engs, .convs, .referee, .pair, .journal, .out]
def execTRankEnd_fields : Option (List Field) := some [Reg.ROLE_COUNT.LANE_SLICES, Reg.ROLE_COUNT.ARM_SLICES, Reg.ROLE_COUNT.RECORDER, Reg.ROLE_COUNT.MIRROR, Reg.ROLE_COUNT.SPARE, Reg.ROLE_COUNT.UNASSIGNED, Reg.DOMAIN_STATE.PLANE_A, Reg.DOMAIN_STATE.PLANE_B, Reg.HOST_IRQ_PENDING.SOURCE, Reg.POWER_PGOOD.PGOOD, Reg.COLLECT_STATUS_LO.STATUS, Reg.COLLECT_STATUS_HI.STATUS, Reg.FAULT_COUNT_CORR.COUNT, Reg.FAULT_COUNT_CONT.COUNT, Reg.FAULT_COUNT_FATAL.COUNT, Reg.FAULT_EVENT.CORRECTED, Reg.FAULT_EVENT.CONTAINED, Reg.FAULT_EVENT.FATAL, Reg.FAULT_EVENT.HIST_LOST, Reg.FAULT_HIST_STATUS.LOST, Reg.REF_STATUS.STATE, Reg.REF_STATUS.ROLE_A, Reg.REF_STATUS.ROLE_B, Reg.REF_STATUS.LEASE, Reg.REF_HT_STATUS.OUTCOME, Reg.REF_CKPT.NEWEST, Reg.REF_CKPT.VALID0, Reg.REF_CKPT.VALID1, Reg.REF_CKPT_SEQ.SEQ, Reg.REF_PAIR.REF_IN, Reg.REF_PAIR.LINK_OK, Reg.REF_PAIR.CONFLICTS, Reg.REF_EVENT.CANCEL, Reg.REF_EVENT.UNFIT, Reg.REF_EVENT.PAIR_CONFLICT, Reg.JRN_STATUS.FILL, Reg.OVERRUN_COUNT.RANK, Reg.OVERRUN_LAST.FRAME, Reg.TRK_STATUS.CTRL_HIWATER, Reg.PLAN_LEVEL.TARGET, Reg.PLAN_LEVEL.SLACK_LOW, Reg.PLAN_LEVEL.STATIC, Reg.PLAN_FORECAST.ENG_NEED, Reg.PLAN_FORECAST.FAB_NEED, Reg.PLAN_POWER.MEASURED, Reg.FRAME_EVENT.OVERRUN, Reg.FRAME_EVENT.SLACK_LOW, Reg.IMAGE_SUBST_STATUS.BUSY, Reg.IMAGE_SUBST_STATUS.RESULT, Reg.IMAGE_EVENT.SUBST, Reg.IMAGE_EVENT.SPARE_LOW, Reg.ENG_STATUS.BALL, Reg.ENG_STATUS.SHADOW, Reg.ENG_STATUS.COLD, Reg.ENG_EXPORT.VALUE, Reg.TIME_STATUS.SLEWING, Reg.TIME_SLEW_REMAIN.VALUE, Reg.ARM_STATUS.FLAGS, Reg.ARM_PTR.PTR, Reg.ARM_SHORT.FRAMES, Reg.ARM_DWELL.MOVED, Reg.ARM_DWELL.DEFERRED, Reg.ARM_EVENT.SHORTFALL, Reg.ARM_EVENT.DEFER, Reg.BB_STATUS.TX_IDLE]
theorem execTRankEnd_effect (p0 : Nat) (p1 : List Nat) (p2 : List (Fin 12)) (p3 : Bool) (p4 : Nat) (s : State) :
    ∃ n, execTRankEnd p0 p1 p2 p3 p4 s = .next n ∧ Effect execTRankEnd_touch execTRankEnd_fields s n := by
  unfold execTRankEnd done
  refine ⟨_, rfl, ?_⟩
  refine Effect.after (State.settle_effect ..) (by decide +kernel) ?_
  refine Effect.after (State.rankEnd_effect ..) (by decide +kernel) ?_
  refine Effect.after (State.elapse_effect ..) (by decide +kernel) ?_
  exact Effect.refl _ _ _

def execTFreeze_touch : List Part := [.hold, .wrHold, .time, .power, .faults, .host, .load, .cfg, .fr, .images, .lanes, .chains, .cells, .arms, .engs, .convs, .referee, .pair, .journal, .adc, .drives, .motors, .safety, .eths, .canQueues, .cans, .out]
def execTFreeze_fields : Option (List Field) := none
theorem execTFreeze_effect (p0 : Nat) (s : State) :
    ∃ n, execTFreeze p0 s = .next n ∧ Effect execTFreeze_touch execTFreeze_fields s n := by
  unfold execTFreeze done
  refine ⟨_, rfl, ?_⟩
  refine Effect.after (State.settle_effect ..) (by decide +kernel) ?_
  refine Effect.after (State.freezeFrame_effect ..) (by decide +kernel) ?_
  refine Effect.after (State.elapse_effect ..) (by decide +kernel) ?_
  exact Effect.refl _ _ _

def execDramInitDone_touch : List Part := [.time, .power, .host, .load, .fr, .out]
def execDramInitDone_fields : Option (List Field) := some [Reg.DOMAIN_STATE.DRAM_ACTIVE, Reg.HOST_IRQ_PENDING.SOURCE, Reg.FRAME_STATUS.RUNNING, Reg.IMAGE_STATUS.STATE, Reg.IMAGE_STATUS.SOURCE, Reg.IMAGE_STATUS.CODE, Reg.IMAGE_ERR_SECTION.INDEX, Reg.IMAGE_ERR_SECTION.TYPE, Reg.IMAGE_ERR_OFFSET.OFFSET, Reg.IMAGE_PRIMARY_CODE.CODE, Reg.IMAGE_EVENT.DONE, Reg.TIME_STATUS.SLEWING, Reg.TIME_SLEW_REMAIN.VALUE]
theorem execDramInitDone_effect (p0 : Bool) (p1 : Nat) (s : State) :
    ∃ n, execDramInitDone p0 p1 s = .next n ∧ Effect execDramInitDone_touch execDramInitDone_fields s n := by
  unfold execDramInitDone done
  refine ⟨_, rfl, ?_⟩
  refine Effect.after (State.settle_effect ..) (by decide +kernel) ?_
  refine Effect.after (State.dramInit_effect ..) (by decide +kernel) ?_
  refine Effect.after (State.elapse_effect ..) (by decide +kernel) ?_
  exact Effect.refl _ _ _

def execFaultClearHist_touch : List Part := [.host, .out]
def execFaultClearHist_fields : Option (List Field) := some [Reg.HOST_IRQ_PENDING.SOURCE, Reg.FAULT_HIST_STATUS.NEWEST, Reg.FAULT_HIST_STATUS.FILLED, Reg.FAULT_HIST_STATUS.LOST, Reg.FAULT_HIST_FRAME.VALUE, Reg.FAULT_HIST_NS_LO.VALUE, Reg.FAULT_HIST_NS_HI.VALUE, Reg.FAULT_HIST_INFO.VALUE]
theorem execFaultClearHist_effect (s : State) :
    ∃ n, execFaultClearHist s = .next n ∧ Effect execFaultClearHist_touch execFaultClearHist_fields s n := by
  unfold execFaultClearHist done
  refine ⟨_, rfl, ?_⟩
  refine Effect.after (State.settle_effect ..) (by decide +kernel) ?_
  refine Effect.after (State.faultClearHist_effect ..) (by decide +kernel) ?_
  exact Effect.refl _ _ _

def execCanRecover_touch : List Part := [.time, .host, .fr, .out]
def execCanRecover_fields : Option (List Field) := some [Reg.HOST_IRQ_PENDING.SOURCE, Reg.TIME_STATUS.SLEWING, Reg.TIME_SLEW_REMAIN.VALUE, Reg.CAN_STATUS.RECOVERING]
theorem execCanRecover_effect (p0 : Fin 4) (p1 : Nat) (s : State) :
    ∃ n, execCanRecover p0 p1 s = .next n ∧ Effect execCanRecover_touch execCanRecover_fields s n := by
  unfold execCanRecover done
  refine ⟨_, rfl, ?_⟩
  refine Effect.after (State.settle_effect ..) (by decide +kernel) ?_
  refine Effect.after (State.canRecover_effect ..) (by decide +kernel) ?_
  refine Effect.after (State.elapse_effect ..) (by decide +kernel) ?_
  exact Effect.refl _ _ _

def execBar2Write_touch : List Part := [.time, .host, .load, .fr, .out]
def execBar2Write_fields : Option (List Field) := some [Reg.HOST_IRQ_PENDING.SOURCE, Reg.TIME_STATUS.SLEWING, Reg.TIME_SLEW_REMAIN.VALUE]
theorem execBar2Write_effect (p0 : Nat) (p1 : List Byte) (p2 : Nat) (s : State) :
    ∃ n, execBar2Write p0 p1 p2 s = .next n ∧ Effect execBar2Write_touch execBar2Write_fields s n := by
  unfold execBar2Write done
  refine ⟨_, rfl, ?_⟩
  refine Effect.after (State.settle_effect ..) (by decide +kernel) ?_
  refine Effect.after (State.bar2Write_effect ..) (by decide +kernel) ?_
  refine Effect.after (State.elapse_effect ..) (by decide +kernel) ?_
  exact Effect.refl _ _ _

def execPairSilence_touch : List Part := [.time, .host, .fr, .pair, .out]
def execPairSilence_fields : Option (List Field) := some [Reg.HOST_IRQ_PENDING.SOURCE, Reg.REF_PAIR.LINK_OK, Reg.TIME_STATUS.SLEWING, Reg.TIME_SLEW_REMAIN.VALUE]
theorem execPairSilence_effect (p0 : Nat) (s : State) :
    ∃ n, execPairSilence p0 s = .next n ∧ Effect execPairSilence_touch execPairSilence_fields s n := by
  unfold execPairSilence done
  refine ⟨_, rfl, ?_⟩
  refine Effect.after (State.settle_effect ..) (by decide +kernel) ?_
  refine Effect.after (State.pairSilence_effect ..) (by decide +kernel) ?_
  refine Effect.after (State.elapse_effect ..) (by decide +kernel) ?_
  exact Effect.refl _ _ _

def execSpareSelftestFail_touch : List Part := [.time, .faults, .host, .load, .fr, .lanes, .arms, .safety, .out]
def execSpareSelftestFail_fields : Option (List Field) := some [Reg.ROLE_COUNT.LANE_SLICES, Reg.ROLE_COUNT.ARM_SLICES, Reg.ROLE_COUNT.RECORDER, Reg.ROLE_COUNT.MIRROR, Reg.ROLE_COUNT.SPARE, Reg.ROLE_COUNT.UNASSIGNED, Reg.HOST_IRQ_PENDING.SOURCE, Reg.COLLECT_STATUS_LO.STATUS, Reg.COLLECT_STATUS_HI.STATUS, Reg.FAULT_COUNT_CORR.COUNT, Reg.FAULT_COUNT_CONT.COUNT, Reg.FAULT_COUNT_FATAL.COUNT, Reg.FAULT_EVENT.CORRECTED, Reg.FAULT_EVENT.CONTAINED, Reg.FAULT_EVENT.FATAL, Reg.FAULT_EVENT.HIST_LOST, Reg.FAULT_HIST_STATUS.LOST, Reg.IMAGE_SUBST_STATUS.BUSY, Reg.IMAGE_SLICE_FAIL.FAIL, Reg.IMAGE_EVENT.SPARE_LOW, Reg.TIME_STATUS.SLEWING, Reg.TIME_SLEW_REMAIN.VALUE, Reg.LANE_STATUS.STATE, Reg.LANE_EVENT.LOST, Reg.SLICE_ROLE.STATE, Reg.ARM_STATUS.ACTIVE]
theorem execSpareSelftestFail_effect (p0 : Fin 128) (p1 : Nat) (s : State) :
    ∃ n, execSpareSelftestFail p0 p1 s = .next n ∧ Effect execSpareSelftestFail_touch execSpareSelftestFail_fields s n := by
  unfold execSpareSelftestFail done
  extract_lets x1
  have h2 : Effect execSpareSelftestFail_touch execSpareSelftestFail_fields s x1 := by
    refine Effect.after (State.elapse_effect ..) (by decide +kernel) ?_
    exact Effect.refl _ _ _
  try clear_value x1
  refine ⟨_, rfl, ?_⟩
  refine Effect.after (State.settle_effect ..) (by decide +kernel) ?_
  refine Effect.ite ?_ ?_
  · refine Effect.after (State.sliceFail_effect ..) (by decide +kernel) ?_
    exact h2
  · exact h2

def execSafeResetStuck_touch : List Part := [.time, .host, .fr, .out]
def execSafeResetStuck_fields : Option (List Field) := some [Reg.HOST_IRQ_PENDING.SOURCE, Reg.SAFE_STATUS.RESET_STUCK, Reg.TIME_STATUS.SLEWING, Reg.TIME_SLEW_REMAIN.VALUE]
theorem execSafeResetStuck_effect (p0 : Nat) (s : State) :
    ∃ n, execSafeResetStuck p0 s = .next n ∧ Effect execSafeResetStuck_touch execSafeResetStuck_fields s n := by
  unfold execSafeResetStuck done
  extract_lets x1
  have h2 : Effect execSafeResetStuck_touch execSafeResetStuck_fields s x1 := by
    refine Effect.after (State.elapse_effect ..) (by decide +kernel) ?_
    exact Effect.refl _ _ _
  try clear_value x1
  refine ⟨_, rfl, ?_⟩
  refine Effect.after (State.settle_effect ..) (by decide +kernel) ?_
  split
  · refine Effect.ite ?_ ?_
    · refine Effect.after (State.wr_effect ..) (by decide +kernel) ?_
      exact h2
    · exact h2
  · exact h2

def execDrvClearCounts_touch : List Part := [.host, .out]
def execDrvClearCounts_fields : Option (List Field) := some [Reg.HOST_IRQ_PENDING.SOURCE, Reg.DRV_LEG_COUNT.SUPPRESSED, Reg.DRV_LEG_COUNT.FULL_ON, Reg.DRV_LEG_COUNT.INTERLOCK, Reg.DRV_TRIP.COUNT]
theorem execDrvClearCounts_effect (p0 : Fin 4) (s : State) :
    ∃ n, execDrvClearCounts p0 s = .next n ∧ Effect execDrvClearCounts_touch execDrvClearCounts_fields s n := by
  unfold execDrvClearCounts done
  refine ⟨_, rfl, ?_⟩
  refine Effect.after (State.settle_effect ..) (by decide +kernel) ?_
  refine Effect.ite ?_ ?_
  · refine Effect.after (State.clearDrvCounts_effect ..) (by decide +kernel) ?_
    exact Effect.refl _ _ _
  · exact Effect.refl _ _ _

def execChopCheck_touch : List Part := [.time, .faults, .host, .fr, .drives, .motors, .out]
def execChopCheck_fields : Option (List Field) := some [Reg.HOST_IRQ_PENDING.SOURCE, Reg.COLLECT_STATUS_LO.STATUS, Reg.COLLECT_STATUS_HI.STATUS, Reg.FAULT_COUNT_CORR.COUNT, Reg.FAULT_COUNT_CONT.COUNT, Reg.FAULT_COUNT_FATAL.COUNT, Reg.FAULT_EVENT.CORRECTED, Reg.FAULT_EVENT.CONTAINED, Reg.FAULT_EVENT.FATAL, Reg.FAULT_EVENT.HIST_LOST, Reg.FAULT_HIST_STATUS.LOST, Reg.TIME_STATUS.SLEWING, Reg.TIME_SLEW_REMAIN.VALUE, Reg.DRV_STATUS.LEG_FAULT, Reg.DRV_CARRIER_ACT.TOP, Reg.DRV_LEG_STATUS.CMP_ACT, Reg.DRV_LEG_STATUS.DESAT_HS, Reg.DRV_LEG_STATUS.DESAT_LS, Reg.DRV_LEG_STATUS.INSTANT, Reg.DRV_LEG_STATUS.VB_UV, Reg.DRV_LEG_STATUS.GATES_OFF, Reg.DRV_LEG_STATUS.MODE_ACT, Reg.MOT_STATE.STATE, Reg.MOT_STATE.CHOP_FAULT, Reg.MOT_BUS.CHOP_D, Reg.MOT_COUNT.CHOP_FAULTS, Reg.MOT_EVENT.STATE, Reg.MOT_EVENT.OBS_LOST, Reg.MOT_EVENT.CHOP_FAULT]
theorem execChopCheck_effect (p0 : Fin 4) (p1 : Nat) (s : State) :
    ∃ n, execChopCheck p0 p1 s = .next n ∧ Effect execChopCheck_touch execChopCheck_fields s n := by
  unfold execChopCheck done
  refine ⟨_, rfl, ?_⟩
  refine Effect.after (State.settle_effect ..) (by decide +kernel) ?_
  refine Effect.after (State.chopCheck_effect ..) (by decide +kernel) ?_
  refine Effect.after (State.drvElapse_effect ..) (by decide +kernel) ?_
  exact Effect.refl _ _ _

def execSubstInService_touch : List Part := [.time, .faults, .host, .load, .fr, .lanes, .cells, .arms, .convs, .safety, .out]
def execSubstInService_fields : Option (List Field) := some [Reg.ROLE_COUNT.LANE_SLICES, Reg.ROLE_COUNT.ARM_SLICES, Reg.ROLE_COUNT.RECORDER, Reg.ROLE_COUNT.MIRROR, Reg.ROLE_COUNT.SPARE, Reg.ROLE_COUNT.UNASSIGNED, Reg.HOST_IRQ_PENDING.SOURCE, Reg.COLLECT_STATUS_LO.STATUS, Reg.COLLECT_STATUS_HI.STATUS, Reg.FAULT_COUNT_CORR.COUNT, Reg.FAULT_COUNT_CONT.COUNT, Reg.FAULT_COUNT_FATAL.COUNT, Reg.FAULT_EVENT.CORRECTED, Reg.FAULT_EVENT.CONTAINED, Reg.FAULT_EVENT.FATAL, Reg.FAULT_EVENT.HIST_LOST, Reg.FAULT_HIST_STATUS.LOST, Reg.SAFE_STATUS.A_OK, Reg.SAFE_STATUS.B_OK, Reg.SAFE_STATUS.DIAG, Reg.SAFE_STATUS.DIAG_CAUSE, Reg.SAFE_STATUS.RESET_PIN, Reg.SAFE_STATUS.DEMAND, Reg.SAFE_STATUS.LOCKED, Reg.SAFE_STATUS.DIAG_A, Reg.SAFE_STATUS.DIAG_B, Reg.SAFE_GROUP.STATE, Reg.SAFE_GROUP.KIND, Reg.SAFE_GROUP.STOP, Reg.SAFE_GROUP.CAUSE, Reg.SAFE_GROUP.PAIRS, Reg.SAFE_PAIR.CH_A, Reg.SAFE_PAIR.CH_B, Reg.SAFE_PAIR.DEMAND, Reg.SAFE_PAIR.PAIR_FAULT, Reg.SAFE_PAIR.FAULT_CAUSE, Reg.SAFE_PAIR.DEMANDS, Reg.SAFE_TPO.EN, Reg.SAFE_TPO.READBACK_FAULT, Reg.SAFE_FIRE.FIRE_A, Reg.SAFE_FIRE.FIRE_B, Reg.SAFE_FIRE.DRV_A, Reg.SAFE_FIRE.DRV_B, Reg.SAFE_RESET_STATUS.ARMED, Reg.SAFE_RESET_STATUS.RELEASED, Reg.SAFE_RESET_STATUS.REFUSED, Reg.SAFE_EVENT.DEMAND, Reg.SAFE_EVENT.STOPPING, Reg.SAFE_EVENT.REMOVED, Reg.SAFE_EVENT.DIAG, Reg.SAFE_EVENT.RESET_REFUSED, Reg.IMAGE_SUBST_STATUS.OLD, Reg.IMAGE_SUBST_STATUS.BUSY, Reg.IMAGE_SUBST_STATUS.NEW, Reg.IMAGE_SUBST_STATUS.COUNT, Reg.IMAGE_SUBST_STATUS.RESULT, Reg.IMAGE_SUBST_FRAME.FRAME, Reg.IMAGE_EVENT.SUBST, Reg.IMAGE_EVENT.SPARE_LOW, Reg.TIME_STATUS.SLEWING, Reg.TIME_SLEW_REMAIN.VALUE, Reg.LANE_STATUS.STATE, Reg.SLICE_ROLE.ROLE, Reg.SLICE_ROLE.TARGET, Reg.SLICE_ROLE.STATE, Reg.ARM_STATUS.ACTIVE, Reg.ARM_PTR.PTR, Reg.ARM_PAR.LOW, Reg.ARM_PAR.HIGH, Reg.ARM_ALPHA1.ALPHA, Reg.ARM_ALPHA2.ALPHA]
theorem execSubstInService_effect (p0 : Bool) (p1 : Nat) (s : State) :
    ∃ n, execSubstInService p0 p1 s = .next n ∧ Effect execSubstInService_touch execSubstInService_fields s n := by
  unfold execSubstInService done
  refine ⟨_, rfl, ?_⟩
  refine Effect.after (State.settle_effect ..) (by decide +kernel) ?_
  refine Effect.after (State.substInService_effect ..) (by decide +kernel) ?_
  refine Effect.after (State.elapse_effect ..) (by decide +kernel) ?_
  exact Effect.refl _ _ _

def execSetFramePeriod_touch : List Part := [.power, .host, .fr, .engs, .referee, .out]
def execSetFramePeriod_fields : Option (List Field) := some [Reg.DOMAIN_STATE.PLANE_A, Reg.DOMAIN_STATE.PLANE_B, Reg.HOST_IRQ_PENDING.SOURCE, Reg.POWER_PGOOD.PGOOD, Reg.REF_STATUS.STATE, Reg.REF_STATUS.ROLE_A, Reg.REF_STATUS.ROLE_B, Reg.REF_HT_STATUS.OUTCOME, Reg.REF_EVENT.CANCEL, Reg.REF_EVENT.UNFIT, Reg.PLAN_LEVEL.STATIC, Reg.PLAN_FORECAST.ENG_NEED, Reg.PLAN_FORECAST.FAB_NEED, Reg.ENG_STATUS.BALL, Reg.ENG_STATUS.SHADOW, Reg.ENG_STATUS.COLD, Reg.ENG_EXPORT.VALUE]
theorem execSetFramePeriod_effect (p0 : Nat) (s : State) :
    ∃ n, execSetFramePeriod p0 s = .next n ∧ Effect execSetFramePeriod_touch execSetFramePeriod_fields s n := by
  unfold execSetFramePeriod done
  refine ⟨_, rfl, ?_⟩
  refine Effect.after (State.settle_effect ..) (by decide +kernel) ?_
  refine Effect.after (State.cmdSetFramePeriod_effect ..) (by decide +kernel) ?_
  exact Effect.refl _ _ _

def execVinLoss_touch : List Part := [.hold, .wrHold, .time, .power, .faults, .host, .load, .cfg, .fr, .images, .lanes, .chains, .cells, .arms, .engs, .convs, .referee, .pair, .journal, .adc, .drives, .motors, .safety, .eths, .canQueues, .cans, .out]
def execVinLoss_fields : Option (List Field) := none
theorem execVinLoss_effect (p0 : Nat) (s : State) :
    ∃ n, execVinLoss p0 s = .next n ∧ Effect execVinLoss_touch execVinLoss_fields s n := by
  unfold execVinLoss done
  refine ⟨_, rfl, ?_⟩
  refine Effect.after (State.settle_effect ..) (by decide +kernel) ?_
  refine Effect.after (State.vinLoss_effect ..) (by decide +kernel) ?_
  refine Effect.after (State.elapse_effect ..) (by decide +kernel) ?_
  exact Effect.refl _ _ _

def execSafeArmExpiry_touch : List Part := [.time, .host, .fr, .safety, .out]
def execSafeArmExpiry_fields : Option (List Field) := some [Reg.HOST_IRQ_PENDING.SOURCE, Reg.SAFE_STATUS.A_OK, Reg.SAFE_STATUS.B_OK, Reg.SAFE_STATUS.DIAG, Reg.SAFE_STATUS.DIAG_CAUSE, Reg.SAFE_STATUS.RESET_PIN, Reg.SAFE_STATUS.DEMAND, Reg.SAFE_STATUS.LOCKED, Reg.SAFE_STATUS.DIAG_A, Reg.SAFE_STATUS.DIAG_B, Reg.SAFE_GROUP.STATE, Reg.SAFE_GROUP.KIND, Reg.SAFE_GROUP.STOP, Reg.SAFE_GROUP.CAUSE, Reg.SAFE_GROUP.PAIRS, Reg.SAFE_PAIR.CH_A, Reg.SAFE_PAIR.CH_B, Reg.SAFE_PAIR.DEMAND, Reg.SAFE_PAIR.PAIR_FAULT, Reg.SAFE_PAIR.FAULT_CAUSE, Reg.SAFE_PAIR.DEMANDS, Reg.SAFE_TPO.EN, Reg.SAFE_TPO.READBACK_FAULT, Reg.SAFE_FIRE.FIRE_A, Reg.SAFE_FIRE.FIRE_B, Reg.SAFE_FIRE.DRV_A, Reg.SAFE_FIRE.DRV_B, Reg.SAFE_RESET_STATUS.ARMED, Reg.TIME_STATUS.SLEWING, Reg.TIME_SLEW_REMAIN.VALUE]
theorem execSafeArmExpiry_effect (p0 : Nat) (s : State) :
    ∃ n, execSafeArmExpiry p0 s = .next n ∧ Effect execSafeArmExpiry_touch execSafeArmExpiry_fields s n := by
  unfold execSafeArmExpiry done
  refine ⟨_, rfl, ?_⟩
  refine Effect.after (State.settle_effect ..) (by decide +kernel) ?_
  refine Effect.after (State.armExpiry_effect ..) (by decide +kernel) ?_
  refine Effect.after (State.elapse_effect ..) (by decide +kernel) ?_
  exact Effect.refl _ _ _

def execLaneUpTimeout_touch : List Part := [.time, .host, .fr, .lanes, .out]
def execLaneUpTimeout_fields : Option (List Field) := some [Reg.HOST_IRQ_PENDING.SOURCE, Reg.TIME_STATUS.SLEWING, Reg.TIME_SLEW_REMAIN.VALUE, Reg.LANE_STATUS.STATE, Reg.LANE_EVENT.LOST]
theorem execLaneUpTimeout_effect (p0 : Nat) (s : State) :
    ∃ n, execLaneUpTimeout p0 s = .next n ∧ Effect execLaneUpTimeout_touch execLaneUpTimeout_fields s n := by
  unfold execLaneUpTimeout done
  refine ⟨_, rfl, ?_⟩
  refine Effect.after (State.settle_effect ..) (by decide +kernel) ?_
  refine Effect.after (State.laneTimeout_effect ..) (by decide +kernel) ?_
  refine Effect.after (State.elapse_effect ..) (by decide +kernel) ?_
  exact Effect.refl _ _ _

def execLaneCallup_touch : List Part := [.host, .lanes, .out]
def execLaneCallup_fields : Option (List Field) := some [Reg.HOST_IRQ_PENDING.SOURCE, Reg.LANE_STATUS.STATE]
theorem execLaneCallup_effect (p0 : Fin 96) (s : State) :
    ∃ n, execLaneCallup p0 s = .next n ∧ Effect execLaneCallup_touch execLaneCallup_fields s n := by
  unfold execLaneCallup done
  refine ⟨_, rfl, ?_⟩
  refine Effect.after (State.settle_effect ..) (by decide +kernel) ?_
  refine Effect.after (State.laneCallup_effect ..) (by decide +kernel) ?_
  exact Effect.refl _ _ _

def execHello_touch : List Part := [.time, .host, .fr, .out]
def execHello_fields : Option (List Field) := some [Reg.HOST_IRQ_PENDING.SOURCE, Reg.TIME_STATUS.SLEWING, Reg.TIME_SLEW_REMAIN.VALUE, Reg.BB_STATUS.RX_IDLE, Reg.BB_COUNT.FOREIGN, Reg.BB_EVENT.EVENTS, Reg.BB_PARTNER.STATE, Reg.BB_PARTNER.PORTS]
theorem execHello_effect (p0 : Fin 4) (p1 : Nat) (p2 : List Byte) (p3 : Nat) (s : State) :
    ∃ n, execHello p0 p1 p2 p3 s = .next n ∧ Effect execHello_touch execHello_fields s n := by
  unfold execHello done
  refine ⟨_, rfl, ?_⟩
  refine Effect.after (State.settle_effect ..) (by decide +kernel) ?_
  refine Effect.after (State.hello_effect ..) (by decide +kernel) ?_
  refine Effect.after (State.elapse_effect ..) (by decide +kernel) ?_
  exact Effect.refl _ _ _

def execEthRxFrame_touch : List Part := [.time, .host, .fr, .out]
def execEthRxFrame_fields : Option (List Field) := some [Reg.HOST_IRQ_PENDING.SOURCE, Reg.TIME_STATUS.SLEWING, Reg.TIME_SLEW_REMAIN.VALUE, Reg.ETH_RXR_HEAD.INDEX, Reg.ETH_COUNT.NO_DESC, Reg.ETH_COUNT.FILTERED, Reg.ETH_EVENT.EVENTS]
theorem execEthRxFrame_effect (p0 : Fin 2) (p1 : List Byte) (p2 : Bool) (p3 : Nat) (p4 : Nat) (s : State) :
    ∃ n, execEthRxFrame p0 p1 p2 p3 p4 s = .next n ∧ Effect execEthRxFrame_touch execEthRxFrame_fields s n := by
  unfold execEthRxFrame done
  refine ⟨_, rfl, ?_⟩
  refine Effect.after (State.settle_effect ..) (by decide +kernel) ?_
  refine Effect.after (State.ethReceive_effect ..) (by decide +kernel) ?_
  refine Effect.after (State.elapse_effect ..) (by decide +kernel) ?_
  exact Effect.refl _ _ _

def execSafeFilterSettle_touch : List Part := [.time, .host, .fr, .convs, .safety, .out]
def execSafeFilterSettle_fields : Option (List Field) := some [Reg.HOST_IRQ_PENDING.SOURCE, Reg.SAFE_STATUS.A_OK, Reg.SAFE_STATUS.B_OK, Reg.SAFE_STATUS.DIAG, Reg.SAFE_STATUS.DIAG_CAUSE, Reg.SAFE_STATUS.RESET_PIN, Reg.SAFE_STATUS.DEMAND, Reg.SAFE_STATUS.LOCKED, Reg.SAFE_STATUS.DIAG_A, Reg.SAFE_STATUS.DIAG_B, Reg.SAFE_GROUP.STATE, Reg.SAFE_GROUP.KIND, Reg.SAFE_GROUP.STOP, Reg.SAFE_GROUP.CAUSE, Reg.SAFE_GROUP.PAIRS, Reg.SAFE_PAIR.CH_A, Reg.SAFE_PAIR.CH_B, Reg.SAFE_PAIR.DEMAND, Reg.SAFE_PAIR.PAIR_FAULT, Reg.SAFE_PAIR.FAULT_CAUSE, Reg.SAFE_PAIR.DEMANDS, Reg.SAFE_TPO.EN, Reg.SAFE_TPO.READBACK_FAULT, Reg.SAFE_FIRE.FIRE_A, Reg.SAFE_FIRE.FIRE_B, Reg.SAFE_FIRE.DRV_A, Reg.SAFE_FIRE.DRV_B, Reg.SAFE_RESET_STATUS.ARMED, Reg.SAFE_RESET_STATUS.RELEASED, Reg.SAFE_RESET_STATUS.REFUSED, Reg.SAFE_EVENT.DEMAND, Reg.SAFE_EVENT.STOPPING, Reg.SAFE_EVENT.REMOVED, Reg.SAFE_EVENT.RESET_REFUSED, Reg.TIME_STATUS.SLEWING, Reg.TIME_SLEW_REMAIN.VALUE]
theorem execSafeFilterSettle_effect (p0 : Fin 2) (p1 : Fin 16) (p2 : Nat) (s : State) :
    ∃ n, execSafeFilterSettle p0 p1 p2 s = .next n ∧ Effect execSafeFilterSettle_touch execSafeFilterSettle_fields s n := by
  unfold execSafeFilterSettle done
  refine ⟨_, rfl, ?_⟩
  refine Effect.after (State.settle_effect ..) (by decide +kernel) ?_
  refine Effect.after (State.filterSettle_effect ..) (by decide +kernel) ?_
  refine Effect.after (State.elapse_effect ..) (by decide +kernel) ?_
  exact Effect.refl _ _ _

end Sys2Proof.Machine
end

