-- ==== Sys2Proof/Laws/Frames8.lean ====
section
/-! SUPPORT. What every operation and every command may touch (part 8 of 8, in the order in which they are built on one another): for each a list
of parts, a list of register fields, and the effect with both, from every state. -/

namespace Sys2Proof.Machine

set_option Elab.async false

def execResyncTimeout_touch : List Part := [.time, .faults, .host, .fr, .arms, .convs, .out]
def execResyncTimeout_fields : Option (List Field) := some [Reg.CONV_STATE.STATE, Reg.CONV_STATE.CAUSE, Reg.CONV_STATE.SLEWING, Reg.CONV_STATE_FRAME.FRAME, Reg.CONV_RESIDUAL.E, Reg.CONV_COUNT.BLOCKS, Reg.CONV_EVENT.BLOCK, Reg.CONV_EVENT.RESYNC_FAIL, Reg.CONV_EVENT.COAST_LIMIT, Reg.CONV_EVENT_SRC.CONV, Reg.HOST_IRQ_PENDING.SOURCE, Reg.COLLECT_STATUS_LO.STATUS, Reg.COLLECT_STATUS_HI.STATUS, Reg.FAULT_COUNT_CORR.COUNT, Reg.FAULT_COUNT_CONT.COUNT, Reg.FAULT_COUNT_FATAL.COUNT, Reg.FAULT_EVENT.CORRECTED, Reg.FAULT_EVENT.CONTAINED, Reg.FAULT_EVENT.FATAL, Reg.FAULT_EVENT.HIST_LOST, Reg.FAULT_HIST_STATUS.LOST, Reg.TIME_STATUS.SLEWING, Reg.TIME_SLEW_REMAIN.VALUE]
theorem execResyncTimeout_effect (p0 : Fin 12) (p1 : Nat) (s : State) :
    ∃ n, execResyncTimeout p0 p1 s = .next n ∧ Effect execResyncTimeout_touch execResyncTimeout_fields s n := by
  unfold execResyncTimeout done
  extract_lets x1
  have h2 : Effect execResyncTimeout_touch execResyncTimeout_fields s x1 := by
    refine Effect.after (State.elapse_effect ..) (by decide +kernel) ?_
    exact Effect.refl _ _ _
  try clear_value x1
  refine ⟨_, rfl, ?_⟩
  refine Effect.after (State.settle_effect ..) (by decide +kernel) ?_
  refine Effect.ite ?_ ?_
  · refine Effect.after (State.resyncTimeout_effect ..) (by decide +kernel) ?_
    exact h2
  · exact h2

def execTakeoverGrant_touch : List Part := [.time, .power, .faults, .host, .fr, .engs, .referee, .out]
def execTakeoverGrant_fields : Option (List Field) := some [Reg.DOMAIN_STATE.PLANE_A, Reg.DOMAIN_STATE.PLANE_B, Reg.HOST_IRQ_PENDING.SOURCE, Reg.POWER_PGOOD.PGOOD, Reg.COLLECT_STATUS_LO.STATUS, Reg.COLLECT_STATUS_HI.STATUS, Reg.FAULT_COUNT_CORR.COUNT, Reg.FAULT_COUNT_CONT.COUNT, Reg.FAULT_COUNT_FATAL.COUNT, Reg.FAULT_EVENT.CORRECTED, Reg.FAULT_EVENT.CONTAINED, Reg.FAULT_EVENT.FATAL, Reg.FAULT_EVENT.HIST_LOST, Reg.FAULT_HIST_STATUS.LOST, Reg.REF_STATUS.STATE, Reg.REF_STATUS.HOLDER, Reg.REF_STATUS.ROLE_A, Reg.REF_STATUS.ROLE_B, Reg.REF_STATUS.LEASE, Reg.REF_TAKEOVER.COUNT, Reg.REF_TAKEOVER.GAP, Reg.REF_TAKEOVER.LATE, Reg.REF_TAKEOVER.US, Reg.REF_TAKEOVER_FRAME.FRAME, Reg.REF_EVENT.TAKEOVER, Reg.REF_EVENT.UNFIT, Reg.PLAN_LEVEL.STATIC, Reg.PLAN_FORECAST.ENG_NEED, Reg.PLAN_FORECAST.FAB_NEED, Reg.ENG_STATUS.BALL, Reg.ENG_STATUS.SHADOW, Reg.ENG_STATUS.COLD, Reg.ENG_EXPORT.VALUE, Reg.TIME_STATUS.SLEWING, Reg.TIME_SLEW_REMAIN.VALUE]
theorem execTakeoverGrant_effect (p0 : Nat) (s : State) :
    ∃ n, execTakeoverGrant p0 s = .next n ∧ Effect execTakeoverGrant_touch execTakeoverGrant_fields s n := by
  unfold execTakeoverGrant done
  refine ⟨_, rfl, ?_⟩
  refine Effect.after (State.settle_effect ..) (by decide +kernel) ?_
  refine Effect.after (State.takeoverGrant_effect ..) (by decide +kernel) ?_
  refine Effect.after (State.elapse_effect ..) (by decide +kernel) ?_
  exact Effect.refl _ _ _

def execAdcCommit_touch : List Part := [.time, .host, .fr, .adc, .out]
def execAdcCommit_fields : Option (List Field) := some [Reg.HOST_IRQ_PENDING.SOURCE, Reg.ADC_CTRL.COMMIT, Reg.ADC_EVENT.CFG_REFUSED, Reg.ADC_IN_CFG.GAIN, Reg.ADC_IN_CFG.EN, Reg.ADC_SEQ_BURST.START, Reg.ADC_SEQ_BURST.LENGTH, Reg.ADC_ENTRY_CFG.INPUT, Reg.ADC_ENTRY_CFG.ACQ, Reg.ADC_ENTRY_CFG.SHIFT, Reg.ADC_ENTRY_CFG.WIN_EN, Reg.ADC_ENTRY_SCALE.VALUE, Reg.ADC_ENTRY_OFFSET.VALUE, Reg.ADC_ENTRY_WIN_HI.VALUE, Reg.ADC_ENTRY_WIN_LO.VALUE, Reg.ADC_DS_CFG.ORDER, Reg.ADC_DS_CFG.LOG2R, Reg.ADC_DS_CFG.SHIFT, Reg.ADC_DS_SCALE.VALUE, Reg.ADC_DS_OFFSET.VALUE, Reg.TIME_STATUS.SLEWING, Reg.TIME_SLEW_REMAIN.VALUE]
theorem execAdcCommit_effect (p0 : Nat) (s : State) :
    ∃ n, execAdcCommit p0 s = .next n ∧ Effect execAdcCommit_touch execAdcCommit_fields s n := by
  unfold execAdcCommit done
  refine ⟨_, rfl, ?_⟩
  refine Effect.after (State.settle_effect ..) (by decide +kernel) ?_
  refine Effect.after (State.adcCommit_effect ..) (by decide +kernel) ?_
  refine Effect.after (State.elapse_effect ..) (by decide +kernel) ?_
  exact Effect.refl _ _ _

def execSafeResetStuckEnd_touch : List Part := [.time, .host, .fr, .out]
def execSafeResetStuckEnd_fields : Option (List Field) := some [Reg.HOST_IRQ_PENDING.SOURCE, Reg.SAFE_STATUS.RESET_STUCK, Reg.TIME_STATUS.SLEWING, Reg.TIME_SLEW_REMAIN.VALUE]
theorem execSafeResetStuckEnd_effect (p0 : Nat) (s : State) :
    ∃ n, execSafeResetStuckEnd p0 s = .next n ∧ Effect execSafeResetStuckEnd_touch execSafeResetStuckEnd_fields s n := by
  unfold execSafeResetStuckEnd done
  extract_lets x1
  have h2 : Effect execSafeResetStuckEnd_touch execSafeResetStuckEnd_fields s x1 := by
    refine Effect.after (State.elapse_effect ..) (by decide +kernel) ?_
    exact Effect.refl _ _ _
  try clear_value x1
  refine ⟨_, rfl, ?_⟩
  refine Effect.after (State.settle_effect ..) (by decide +kernel) ?_
  refine Effect.ite ?_ ?_
  · refine Effect.after (State.wr_effect ..) (by decide +kernel) ?_
    exact h2
  · exact h2

def execJrnCplHeadWrite_touch : List Part := [.host, .out]
def execJrnCplHeadWrite_fields : Option (List Field) := some [Reg.HOST_IRQ_PENDING.SOURCE, Reg.JRN_CPL_HEAD.INDEX, Reg.JRN_RING_STATUS.WAIT_CPL]
theorem execJrnCplHeadWrite_effect (p0 : Nat) (s : State) :
    ∃ n, execJrnCplHeadWrite p0 s = .next n ∧ Effect execJrnCplHeadWrite_touch execJrnCplHeadWrite_fields s n := by
  unfold execJrnCplHeadWrite done
  refine ⟨_, rfl, ?_⟩
  refine Effect.after (State.settle_effect ..) (by decide +kernel) ?_
  refine Effect.after (State.cplHeadWrite_effect ..) (by decide +kernel) ?_
  exact Effect.refl _ _ _

def execEthTxtsRead_touch : List Part := [.host, .eths, .out]
def execEthTxtsRead_fields : Option (List Field) := some [Reg.HOST_IRQ_PENDING.SOURCE, Reg.ETH_TXTS.ENTRY, Reg.ETH_TXTS_STATUS.COUNT]
theorem execEthTxtsRead_effect (p0 : Fin 2) (s : State) :
    ∃ n, execEthTxtsRead p0 s = .next n ∧ Effect execEthTxtsRead_touch execEthTxtsRead_fields s n := by
  unfold execEthTxtsRead done
  refine ⟨_, rfl, ?_⟩
  refine Effect.after (State.settle_effect ..) (by decide +kernel) ?_
  refine Effect.after (State.txtsRead_effect ..) (by decide +kernel) ?_
  exact Effect.refl _ _ _

def execFaultHistRead_touch : List Part := [.hold, .host, .out]
def execFaultHistRead_fields : Option (List Field) := some [Reg.HOST_IRQ_PENDING.SOURCE]
theorem execFaultHistRead_effect (p0 : Fin 16) (s : State) :
    ∃ n, execFaultHistRead p0 s = .next n ∧ Effect execFaultHistRead_touch execFaultHistRead_fields s n := by
  unfold execFaultHistRead done
  refine ⟨_, rfl, ?_⟩
  refine Effect.after (State.settle_effect ..) (by decide +kernel) ?_
  refine Effect.after (State.histRead_effect ..) (by decide +kernel) ?_
  exact Effect.refl _ _ _

def execBbPortDown_touch : List Part := [.time, .host, .fr, .out]
def execBbPortDown_fields : Option (List Field) := some [Reg.HOST_IRQ_PENDING.SOURCE, Reg.TIME_STATUS.SLEWING, Reg.TIME_SLEW_REMAIN.VALUE, Reg.BB_STATUS.UP, Reg.BB_STATUS.CLOCK, Reg.BB_EVENT.EVENTS]
theorem execBbPortDown_effect (p0 : Fin 4) (p1 : Bool) (p2 : Nat) (s : State) :
    ∃ n, execBbPortDown p0 p1 p2 s = .next n ∧ Effect execBbPortDown_touch execBbPortDown_fields s n := by
  unfold execBbPortDown done
  refine ⟨_, rfl, ?_⟩
  refine Effect.after (State.settle_effect ..) (by decide +kernel) ?_
  refine Effect.after (State.bbPortDown_effect ..) (by decide +kernel) ?_
  refine Effect.after (State.elapse_effect ..) (by decide +kernel) ?_
  exact Effect.refl _ _ _

def execTpoCheck_touch : List Part := [.time, .host, .fr, .convs, .safety, .out]
def execTpoCheck_fields : Option (List Field) := some [Reg.HOST_IRQ_PENDING.SOURCE, Reg.SAFE_STATUS.A_OK, Reg.SAFE_STATUS.B_OK, Reg.SAFE_STATUS.DIAG, Reg.SAFE_STATUS.DIAG_CAUSE, Reg.SAFE_STATUS.RESET_PIN, Reg.SAFE_STATUS.DEMAND, Reg.SAFE_STATUS.LOCKED, Reg.SAFE_STATUS.DIAG_A, Reg.SAFE_STATUS.DIAG_B, Reg.SAFE_GROUP.STATE, Reg.SAFE_GROUP.KIND, Reg.SAFE_GROUP.STOP, Reg.SAFE_GROUP.CAUSE, Reg.SAFE_GROUP.PAIRS, Reg.SAFE_PAIR.CH_A, Reg.SAFE_PAIR.CH_B, Reg.SAFE_PAIR.DEMAND, Reg.SAFE_PAIR.PAIR_FAULT, Reg.SAFE_PAIR.FAULT_CAUSE, Reg.SAFE_PAIR.DEMANDS, Reg.SAFE_TPO.EN, Reg.SAFE_TPO.READBACK_FAULT, Reg.SAFE_FIRE.FIRE_A, Reg.SAFE_FIRE.FIRE_B, Reg.SAFE_FIRE.DRV_A, Reg.SAFE_FIRE.DRV_B, Reg.SAFE_RESET_STATUS.ARMED, Reg.SAFE_RESET_STATUS.RELEASED, Reg.SAFE_RESET_STATUS.REFUSED, Reg.SAFE_EVENT.DEMAND, Reg.SAFE_EVENT.STOPPING, Reg.SAFE_EVENT.REMOVED, Reg.SAFE_EVENT.PAIR_FAULT, Reg.SAFE_EVENT.RESET_REFUSED, Reg.TIME_STATUS.SLEWING, Reg.TIME_SLEW_REMAIN.VALUE]
theorem execTpoCheck_effect (p0 : Fin 4) (p1 : Nat) (p2 : Nat) (s : State) :
    ∃ n, execTpoCheck p0 p1 p2 s = .next n ∧ Effect execTpoCheck_touch execTpoCheck_fields s n := by
  unfold execTpoCheck done
  refine ⟨_, rfl, ?_⟩
  refine Effect.after (State.settle_effect ..) (by decide +kernel) ?_
  refine Effect.after (State.tpoCheck_effect ..) (by decide +kernel) ?_
  refine Effect.after (State.elapse_effect ..) (by decide +kernel) ?_
  exact Effect.refl _ _ _

def execTimePtpRead_touch : List Part := [.time, .host, .fr, .out]
def execTimePtpRead_fields : Option (List Field) := some [Reg.HOST_IRQ_PENDING.SOURCE, Reg.TIME_STATUS.SLEWING, Reg.TIME_PTP_NS.VALUE, Reg.TIME_PTP_SEC_LO.VALUE, Reg.TIME_PTP_SEC_HI.VALUE, Reg.TIME_PTP_FRAC.VALUE, Reg.TIME_SLEW_REMAIN.VALUE]
theorem execTimePtpRead_effect (p0 : Nat) (s : State) :
    ∃ n, execTimePtpRead p0 s = .next n ∧ Effect execTimePtpRead_touch execTimePtpRead_fields s n := by
  unfold execTimePtpRead done
  refine ⟨_, rfl, ?_⟩
  refine Effect.after (State.settle_effect ..) (by decide +kernel) ?_
  refine Effect.after (State.ptpLatch_effect ..) (by decide +kernel) ?_
  refine Effect.after (State.elapse_effect ..) (by decide +kernel) ?_
  exact Effect.refl _ _ _

def execFrameTick_touch : List Part := [.time, .power, .faults, .host, .load, .fr, .lanes, .chains, .cells, .arms, .engs, .convs, .referee, .pair, .journal, .adc, .drives, .motors, .safety, .canQueues, .cans, .out, .drawn]
def execFrameTick_fields : Option (List Field) := some [Reg.ROLE_COUNT.LANE_SLICES, Reg.ROLE_COUNT.ARM_SLICES, Reg.ROLE_COUNT.RECORDER, Reg.ROLE_COUNT.MIRROR, Reg.ROLE_COUNT.SPARE, Reg.ROLE_COUNT.UNASSIGNED, Reg.DOMAIN_STATE.PLANE_A, Reg.DOMAIN_STATE.PLANE_B, Reg.XBAR_WAIT.ENG_MAX_WAIT, Reg.XBAR_WAIT.HOST_MAX_WAIT, Reg.CONV_STATE.STATE, Reg.CONV_STATE.CAUSE, Reg.CONV_STATE.SLEWING, Reg.CONV_CMD_LAST.RESULT, Reg.CONV_CMD_LAST.OP, Reg.CONV_STATE_FRAME.FRAME, Reg.CONV_RESIDUAL.E, Reg.CONV_COUNT.BLOCKS, Reg.CONV_MF_THETA.THETA_MF, Reg.CONV_EVENT.BLOCK, Reg.CONV_EVENT.DEBLOCK, Reg.CONV_EVENT.RUN, Reg.CONV_EVENT.RESYNC_FAIL, Reg.CONV_EVENT.COAST_LIMIT, Reg.CONV_EVENT_SRC.CONV, Reg.HOST_IRQ_PENDING.SOURCE, Reg.HOST_BAR2_OPEN.BUF, Reg.HOST_BAR2_STATUS.BUF, Reg.POWER_STATE.STATE, Reg.POWER_PGOOD.PGOOD, Reg.COLLECT_STATUS_LO.STATUS, Reg.COLLECT_STATUS_HI.STATUS, Reg.FAULT_COUNT_CORR.COUNT, Reg.FAULT_COUNT_CONT.COUNT, Reg.FAULT_COUNT_FATAL.COUNT, Reg.FAULT_EVENT.CORRECTED, Reg.FAULT_EVENT.CONTAINED, Reg.FAULT_EVENT.FATAL, Reg.FAULT_EVENT.HIST_LOST, Reg.FAULT_HIST_STATUS.LOST, Reg.REF_STATUS.STATE, Reg.REF_STATUS.HOLDER, Reg.REF_STATUS.ROLE_A, Reg.REF_STATUS.ROLE_B, Reg.REF_STATUS.LEASE, Reg.REF_HT_TIMER.REMAIN, Reg.REF_HT_STATUS.MATCHED, Reg.REF_HT_STATUS.OUTCOME, Reg.REF_HT_STATUS.BLOCKER, Reg.REF_HT_STATUS.COUNT, Reg.REF_TAKEOVER.COUNT, Reg.REF_TAKEOVER.GAP, Reg.REF_TAKEOVER.LAST_CAUSE, Reg.REF_TAKEOVER.LATE, Reg.REF_TAKEOVER.US, Reg.REF_TAKEOVER_FRAME.FRAME, Reg.REF_PAIR.HOLDS, Reg.REF_PAIR.REF_OUT, Reg.REF_PAIR.MOVES, Reg.REF_EVENT.TAKEOVER, Reg.REF_EVENT.HANDOVER, Reg.REF_EVENT.CANCEL, Reg.REF_EVENT.UNFIT, Reg.REF_EVENT.PAIR_MOVE, Reg.JRN_STATUS.MRAM_OK, Reg.JRN_EXEC.COUNT, Reg.JRN_EVENT.MRAM_FAIL, Reg.JRN_CPL_TAIL.INDEX, Reg.JRN_RING_STATUS.PHASE, Reg.JRN_RING_STATUS.WAIT_CPL, Reg.FRAME_PERIOD.PERIOD, Reg.FRAME_NO.FRAME_NO, Reg.FRAME_STATUS.DISCIPLINED, Reg.FRAME_STATUS.COAST, Reg.FRAME_TICK_NS_LO.TICK_NS, Reg.FRAME_TICK_NS_HI.TICK_NS, Reg.TRK_STATUS.CTRL_HIWATER, Reg.TRK_STATUS.CTRL_INUSE, Reg.TRK_BP_COUNT.FRAMES, Reg.PLAN_LEVEL.CURRENT, Reg.PLAN_LEVEL.STATIC, Reg.PLAN_FORECAST.ENG_NEED, Reg.PLAN_FORECAST.FAB_NEED, Reg.PLAN_CAPACITY.ENG_CAP, Reg.PLAN_CAPACITY.FAB_CAP, Reg.PLAN_BG_STATUS.RAN, Reg.PLAN_BG_STATUS.GAPS, Reg.FRAME_EVENT.PERIOD, Reg.SAFE_STATUS.A_OK, Reg.SAFE_STATUS.B_OK, Reg.SAFE_STATUS.DIAG, Reg.SAFE_STATUS.DIAG_CAUSE, Reg.SAFE_STATUS.RESET_PIN, Reg.SAFE_STATUS.DEMAND, Reg.SAFE_STATUS.LOCKED, Reg.SAFE_STATUS.DIAG_A, Reg.SAFE_STATUS.DIAG_B, Reg.SAFE_GROUP.STATE, Reg.SAFE_GROUP.KIND, Reg.SAFE_GROUP.STOP, Reg.SAFE_GROUP.CAUSE, Reg.SAFE_GROUP.PAIRS, Reg.SAFE_PAIR.CH_A, Reg.SAFE_PAIR.CH_B, Reg.SAFE_PAIR.DEMAND, Reg.SAFE_PAIR.PAIR_FAULT, Reg.SAFE_PAIR.FAULT_CAUSE, Reg.SAFE_PAIR.DEMANDS, Reg.SAFE_TPO.EN, Reg.SAFE_TPO.READBACK_FAULT, Reg.SAFE_FIRE.FIRE_A, Reg.SAFE_FIRE.FIRE_B, Reg.SAFE_FIRE.DRV_A, Reg.SAFE_FIRE.DRV_B, Reg.SAFE_RESET_STATUS.ARMED, Reg.SAFE_RESET_STATUS.RELEASED, Reg.SAFE_RESET_STATUS.REFUSED, Reg.SAFE_EVENT.DEMAND, Reg.SAFE_EVENT.STOPPING, Reg.SAFE_EVENT.REMOVED, Reg.SAFE_EVENT.DIAG, Reg.SAFE_EVENT.RESET_REFUSED, Reg.IMAGE_SUBST_STATUS.OLD, Reg.IMAGE_SUBST_STATUS.BUSY, Reg.IMAGE_SUBST_STATUS.NEW, Reg.IMAGE_SUBST_STATUS.RESULT, Reg.IMAGE_EVENT.SUBST, Reg.IMAGE_EVENT.SPARE_LOW, Reg.ENG_STATUS.BALL, Reg.ENG_STATUS.SHADOW, Reg.ENG_STATUS.COLD, Reg.ENG_BANK.ACTIVE, Reg.ENG_BANK.SWAPS, Reg.ENG_CMD_LAST.RESULT, Reg.ENG_CMD_LAST.OP, Reg.ENG_CMD_LAST.ENTRY, Reg.ENG_CMD_FRAME.FRAME, Reg.ENG_EVENT.SWAP, Reg.ENG_EVENT.CMD_REFUSED, Reg.ENG_PARAM.VALUE, Reg.ENG_EXPORT.VALUE, Reg.ADC_SEQ_BURST.START, Reg.ADC_SEQ_BURST.LENGTH, Reg.TIME_STATUS.SLEWING, Reg.TIME_SLEW_REMAIN.VALUE, Reg.TIME_FRAME_PHASE.E, Reg.TIME_EVENT.EVENTS, Reg.CAN_MATRIX.ROW, Reg.CAN_TXQ.FILL, Reg.DRV_STATUS.LOAD_PENDING, Reg.DRV_STATUS.LEG_FAULT, Reg.DRV_CARRIER_ACT.TOP, Reg.DRV_LEG_STATUS.CMP_ACT, Reg.DRV_LEG_STATUS.DESAT_HS, Reg.DRV_LEG_STATUS.DESAT_LS, Reg.DRV_LEG_STATUS.INSTANT, Reg.DRV_LEG_STATUS.VB_UV, Reg.DRV_LEG_STATUS.GATES_OFF, Reg.DRV_LEG_STATUS.MODE_ACT, Reg.DRV_LEG_COUNT.SUPPRESSED, Reg.DRV_LEG_COUNT.FULL_ON, Reg.DRV_EVENT.LOAD_DONE, Reg.MOT_STATE.STATE, Reg.MOT_EVENT.STATE, Reg.MOT_EVENT.OBS_LOST, Reg.DRV_LOADALL.UNITS, Reg.DRV_LOAD_STATUS.DONE, Reg.DRV_SYNC.UNITS, Reg.LANE_STATUS.STATE, Reg.LANE_STATUS.CHAIN_LATE, Reg.LANE_STATUS.SERVED, Reg.LANE_STATUS.FIRST_Q, Reg.LANE_CHAIN.LOOPED, Reg.LANE_UPBASE.U, Reg.LANE_BUDGET.DELIVERY, Reg.LANE_BUDGET.COMPLETION, Reg.LANE_EVENT.LOST, Reg.LANE_EVENT.READY, Reg.LANE_EVENT.CHAIN_LATE, Reg.LANE_DELAY.VALID, Reg.SLICE_ROLE.STATE, Reg.ARM_STATUS.FLAGS, Reg.ARM_PTR.PTR, Reg.ARM_ALPHA1.ALPHA, Reg.ARM_ALPHA2.ALPHA, Reg.CELL_PLACE.CHAIN, Reg.CELL_PLACE.POS, Reg.CELL_PLACE.END, Reg.CELL_PLACE.REACHABLE, Reg.CELL_PLACE.ARM, Reg.CELL_PLACE.CLASS, Reg.CELL_FAULT.SEEN, Reg.BB_STATUS.TX_IDLE]
theorem execFrameTick_effect (p0 : Nat) (p1 : TickIn) (s : State) :
    ∃ n, execFrameTick p0 p1 s = .next n ∧ Effect execFrameTick_touch execFrameTick_fields s n := by
  unfold execFrameTick done
  refine ⟨_, rfl, ?_⟩
  refine Effect.after (State.settle_effect ..) (by decide +kernel) ?_
  refine Effect.after (State.frameTick_effect ..) (by decide +kernel) ?_
  refine Effect.after (State.elapse_effect ..) (by decide +kernel) ?_
  exact Effect.refl _ _ _

def execPowerEntryTimeout_touch : List Part := [.time, .power, .faults, .host, .fr, .out]
def execPowerEntryTimeout_fields : Option (List Field) := some [Reg.HOST_IRQ_PENDING.SOURCE, Reg.POWER_CTRL.DORMANT, Reg.POWER_ENTRY_STATUS.RESULT, Reg.POWER_ENTRY_STATUS.DOMAIN, Reg.POWER_ENTRY_STATUS.REFUSER, Reg.POWER_EVENT.EVENTS, Reg.COLLECT_STATUS_LO.STATUS, Reg.COLLECT_STATUS_HI.STATUS, Reg.FAULT_COUNT_CORR.COUNT, Reg.FAULT_COUNT_CONT.COUNT, Reg.FAULT_COUNT_FATAL.COUNT, Reg.FAULT_EVENT.CORRECTED, Reg.FAULT_EVENT.CONTAINED, Reg.FAULT_EVENT.FATAL, Reg.FAULT_EVENT.HIST_LOST, Reg.FAULT_HIST_STATUS.LOST, Reg.TIME_STATUS.SLEWING, Reg.TIME_SLEW_REMAIN.VALUE]
theorem execPowerEntryTimeout_effect (p0 : Nat) (p1 : Nat) (s : State) :
    ∃ n, execPowerEntryTimeout p0 p1 s = .next n ∧ Effect execPowerEntryTimeout_touch execPowerEntryTimeout_fields s n := by
  unfold execPowerEntryTimeout done
  refine ⟨_, rfl, ?_⟩
  refine Effect.after (State.settle_effect ..) (by decide +kernel) ?_
  refine Effect.after (State.entryTimeout_effect ..) (by decide +kernel) ?_
  refine Effect.after (State.elapse_effect ..) (by decide +kernel) ?_
  exact Effect.refl _ _ _

def execClockGo_touch : List Part := [.time, .power, .host, .load, .fr, .out]
def execClockGo_fields : Option (List Field) := some [Reg.DOMAIN_STATE.DRAM_ACTIVE, Reg.HOST_IRQ_PENDING.SOURCE, Reg.CLOCK_GO.GO, Reg.CLOCK_PLL_STATUS.LOCK, Reg.CLOCK_PLL_STATUS.STAGED, Reg.CLOCK_EVENT.EVENTS, Reg.TIME_STATUS.SLEWING, Reg.TIME_SLEW_REMAIN.VALUE]
theorem execClockGo_effect (p0 : Nat) (s : State) :
    ∃ n, execClockGo p0 s = .next n ∧ Effect execClockGo_touch execClockGo_fields s n := by
  unfold execClockGo done
  refine ⟨_, rfl, ?_⟩
  refine Effect.after (State.settle_effect ..) (by decide +kernel) ?_
  refine Effect.after (State.clockGo_effect ..) (by decide +kernel) ?_
  refine Effect.after (State.elapse_effect ..) (by decide +kernel) ?_
  exact Effect.refl _ _ _

def execShortEnd_touch : List Part := [.time, .faults, .host, .fr, .drives, .motors, .out]
def execShortEnd_fields : Option (List Field) := some [Reg.HOST_IRQ_PENDING.SOURCE, Reg.COLLECT_STATUS_LO.STATUS, Reg.COLLECT_STATUS_HI.STATUS, Reg.FAULT_COUNT_CORR.COUNT, Reg.FAULT_COUNT_CONT.COUNT, Reg.FAULT_COUNT_FATAL.COUNT, Reg.FAULT_EVENT.CORRECTED, Reg.FAULT_EVENT.CONTAINED, Reg.FAULT_EVENT.FATAL, Reg.FAULT_EVENT.HIST_LOST, Reg.FAULT_HIST_STATUS.LOST, Reg.TIME_STATUS.SLEWING, Reg.TIME_SLEW_REMAIN.VALUE, Reg.DRV_STATUS.LEG_FAULT, Reg.DRV_CARRIER_ACT.TOP, Reg.DRV_LEG_STATUS.CMP_ACT, Reg.DRV_LEG_STATUS.DESAT_HS, Reg.DRV_LEG_STATUS.DESAT_LS, Reg.DRV_LEG_STATUS.INSTANT, Reg.DRV_LEG_STATUS.VB_UV, Reg.DRV_LEG_STATUS.GATES_OFF, Reg.DRV_LEG_STATUS.MODE_ACT, Reg.MOT_STATE.STATE, Reg.MOT_SPEED.REF, Reg.MOT_EVENT.STATE, Reg.MOT_EVENT.OBS_LOST]
theorem execShortEnd_effect (p0 : Fin 4) (p1 : Nat) (s : State) :
    ∃ n, execShortEnd p0 p1 s = .next n ∧ Effect execShortEnd_touch execShortEnd_fields s n := by
  unfold execShortEnd done
  refine ⟨_, rfl, ?_⟩
  refine Effect.after (State.settle_effect ..) (by decide +kernel) ?_
  refine Effect.after (State.shortEnd_effect ..) (by decide +kernel) ?_
  refine Effect.after (State.drvElapse_effect ..) (by decide +kernel) ?_
  exact Effect.refl _ _ _

def execEngineGraphComplete_touch : List Part := [.host, .fr, .arms, .engs, .convs, .out]
def execEngineGraphComplete_fields : Option (List Field) := some [Reg.HOST_IRQ_PENDING.SOURCE, Reg.REF_OFFSIDE.WRITES, Reg.REF_OFFSIDE.LAST_PLANE, Reg.TRK_STATUS.CTRL_HIWATER, Reg.ENG_STATUS.DONE, Reg.ENG_STATUS.STOPPED, Reg.ENG_STATUS.QUIET, Reg.ENG_CYCLES.LAST, Reg.ENG_CYCLES.MAX, Reg.ENG_EXPORT.VALUE, Reg.ARM_REF_FRAME.FRAME]
theorem execEngineGraphComplete_effect (p0 : Fin 16) (p1 : Nat) (s : State) :
    ∃ n, execEngineGraphComplete p0 p1 s = .next n ∧ Effect execEngineGraphComplete_touch execEngineGraphComplete_fields s n := by
  unfold execEngineGraphComplete done
  refine ⟨_, rfl, ?_⟩
  refine Effect.after (State.settle_effect ..) (by decide +kernel) ?_
  refine Effect.after (State.graphComplete_effect ..) (by decide +kernel) ?_
  exact Effect.refl _ _ _

def execArmClearCounts_touch : List Part := [.host, .out]
def execArmClearCounts_fields : Option (List Field) := some [Reg.HOST_IRQ_PENDING.SOURCE, Reg.ARM_SHORT.FRAMES, Reg.ARM_DWELL.MOVED, Reg.ARM_DWELL.DEFERRED]
theorem execArmClearCounts_effect (p0 : Fin 128) (s : State) :
    ∃ n, execArmClearCounts p0 s = .next n ∧ Effect execArmClearCounts_touch execArmClearCounts_fields s n := by
  unfold execArmClearCounts done
  refine ⟨_, rfl, ?_⟩
  refine Effect.after (State.settle_effect ..) (by decide +kernel) ?_
  refine Effect.after (State.armClear_effect ..) (by decide +kernel) ?_
  exact Effect.refl _ _ _

def execKeepOnlyExit_touch : List Part := [.time, .power, .host, .fr, .out]
def execKeepOnlyExit_fields : Option (List Field) := some [Reg.DOMAIN_STATE.FABRIC, Reg.DOMAIN_STATE.LANE_PHY, Reg.DOMAIN_STATE.BB_PHY, Reg.DOMAIN_STATE.ANALOG, Reg.DOMAIN_STATE.DRAM_ACTIVE, Reg.DOMAIN_STATE.DRAM_SR, Reg.HOST_IRQ_PENDING.SOURCE, Reg.POWER_STATE.WAKE_SRC, Reg.POWER_STATE.WAKE_TRIES, Reg.POWER_PGOOD.PGOOD, Reg.RESET_CAUSE.CAUSE, Reg.RESET_CAUSE.COUNT, Reg.TIME_STATUS.SLEWING, Reg.TIME_SLEW_REMAIN.VALUE]
theorem execKeepOnlyExit_effect (p0 : Nat) (s : State) :
    ∃ n, execKeepOnlyExit p0 s = .next n ∧ Effect execKeepOnlyExit_touch execKeepOnlyExit_fields s n := by
  unfold execKeepOnlyExit done
  refine ⟨_, rfl, ?_⟩
  refine Effect.after (State.settle_effect ..) (by decide +kernel) ?_
  refine Effect.after (State.keepOnlyExit_effect ..) (by decide +kernel) ?_
  refine Effect.after (State.elapse_effect ..) (by decide +kernel) ?_
  exact Effect.refl _ _ _

def execBarrierLinkRecover_touch : List Part := [.time, .faults, .host, .fr, .adc, .drives, .motors, .out]
def execBarrierLinkRecover_fields : Option (List Field) := some [Reg.DOMAIN_STATE.DRV_LINK, Reg.HOST_IRQ_PENDING.SOURCE, Reg.COLLECT_STATUS_LO.STATUS, Reg.COLLECT_STATUS_HI.STATUS, Reg.FAULT_COUNT_CORR.COUNT, Reg.FAULT_COUNT_CONT.COUNT, Reg.FAULT_COUNT_FATAL.COUNT, Reg.FAULT_EVENT.CORRECTED, Reg.FAULT_EVENT.CONTAINED, Reg.FAULT_EVENT.FATAL, Reg.FAULT_EVENT.HIST_LOST, Reg.FAULT_HIST_STATUS.LOST, Reg.TIME_STATUS.SLEWING, Reg.TIME_SLEW_REMAIN.VALUE, Reg.DRV_STATUS.LINK, Reg.DRV_STATUS.VDRV_OK, Reg.DRV_STATUS.LATCHED, Reg.DRV_STATUS.LATCH_CAUSE, Reg.DRV_STATUS.OT_SHUT, Reg.DRV_STATUS.BAND, Reg.DRV_STATUS.LEG_FAULT, Reg.DRV_CARRIER_ACT.TOP, Reg.DRV_LEG_STATUS.CMP_ACT, Reg.DRV_LEG_STATUS.DESAT_HS, Reg.DRV_LEG_STATUS.DESAT_LS, Reg.DRV_LEG_STATUS.INSTANT, Reg.DRV_LEG_STATUS.VB_UV, Reg.DRV_LEG_STATUS.UVLO, Reg.DRV_LEG_STATUS.INPUT_ACTIVE, Reg.DRV_LEG_STATUS.GATES_OFF, Reg.DRV_LEG_STATUS.MODE_ACT, Reg.DRV_TRIP.COUNT, Reg.DRV_TRIP.LAST_LEG, Reg.DRV_TRIP.LAST_CAUSE, Reg.DRV_TRIP_NS_LO.NS, Reg.DRV_TRIP_NS_HI.NS, Reg.DRV_EVENT.TRIP, Reg.DRV_EVENT.LATCH, Reg.DRV_EVENT.LINK, Reg.MOT_STATE.STATE, Reg.MOT_STATE.CHOP_FAULT, Reg.MOT_BUS.CHOP_D, Reg.MOT_COUNT.CHOP_FAULTS, Reg.MOT_EVENT.STATE, Reg.MOT_EVENT.OBS_LOST, Reg.MOT_EVENT.CHOP_FAULT]
theorem execBarrierLinkRecover_effect (p0 : Fin 4) (p1 : Nat) (p2 : Nat) (s : State) :
    ∃ n, execBarrierLinkRecover p0 p1 p2 s = .next n ∧ Effect execBarrierLinkRecover_touch execBarrierLinkRecover_fields s n := by
  unfold execBarrierLinkRecover done
  refine ⟨_, rfl, ?_⟩
  refine Effect.after (State.settle_effect ..) (by decide +kernel) ?_
  refine Effect.after (State.linkRecover_effect ..) (by decide +kernel) ?_
  refine Effect.after (State.drvSees_effect ..) (by decide +kernel) ?_
  refine Effect.after (State.elapse_effect ..) (by decide +kernel) ?_
  exact Effect.refl _ _ _

def execTimeStep_touch : List Part := [.time, .host, .fr, .out]
def execTimeStep_fields : Option (List Field) := some [Reg.HOST_IRQ_PENDING.SOURCE, Reg.TIME_STATUS.SLEWING, Reg.TIME_SLEW_REMAIN.VALUE, Reg.TIME_EVENT.EVENTS]
theorem execTimeStep_effect (p0 : Nat) (s : State) :
    ∃ n, execTimeStep p0 s = .next n ∧ Effect execTimeStep_touch execTimeStep_fields s n := by
  unfold execTimeStep done
  refine ⟨_, rfl, ?_⟩
  refine Effect.after (State.settle_effect ..) (by decide +kernel) ?_
  refine State.steered_effect (by decide +kernel) ?_ ?_
  · refine Effect.after (State.elapse_effect ..) (by decide +kernel) ?_
    exact Effect.refl _ _ _
  · intro u1
    try beta_reduce
    refine Effect.after (State.timeStep_effect ..) (by decide +kernel) ?_
    exact Effect.refl _ _ _

def execAdcResultRead_touch : List Part := [.host, .out]
def execAdcResultRead_fields : Option (List Field) := some [Reg.HOST_IRQ_PENDING.SOURCE, Reg.ADC_ENTRY_VALUE.VALUE]
theorem execAdcResultRead_effect (p0 : Fin 8) (p1 : Fin 32) (s : State) :
    ∃ n, execAdcResultRead p0 p1 s = .next n ∧ Effect execAdcResultRead_touch execAdcResultRead_fields s n := by
  unfold execAdcResultRead done
  refine ⟨_, rfl, ?_⟩
  refine Effect.after (State.settle_effect ..) (by decide +kernel) ?_
  refine Effect.after (State.adcRead_effect ..) (by decide +kernel) ?_
  exact Effect.refl _ _ _

def execPpsEdge_touch : List Part := [.time, .host, .fr, .out]
def execPpsEdge_fields : Option (List Field) := some [Reg.HOST_IRQ_PENDING.SOURCE, Reg.TIME_STATUS.SYNC, Reg.TIME_STATUS.SERVO_LOCK, Reg.TIME_STATUS.PPS_LOST, Reg.TIME_STATUS.SLEWING, Reg.TIME_ADDEND.ADDEND, Reg.TIME_SLEW_REMAIN.VALUE, Reg.TIME_PPS_ERR.VALUE, Reg.TIME_PPS_COUNT.EDGES, Reg.TIME_PPS_COUNT.REJECTED, Reg.TIME_EVENT.EVENTS]
theorem execPpsEdge_effect (p0 : PpsIn) (s : State) :
    ∃ n, execPpsEdge p0 s = .next n ∧ Effect execPpsEdge_touch execPpsEdge_fields s n := by
  unfold execPpsEdge done
  refine ⟨_, rfl, ?_⟩
  refine Effect.after (State.settle_effect ..) (by decide +kernel) ?_
  refine Effect.after (State.ppsEdge_effect ..) (by decide +kernel) ?_
  refine Effect.after (State.elapse_effect ..) (by decide +kernel) ?_
  exact Effect.refl _ _ _

def execSpdEdge_touch : List Part := [.time, .host, .fr, .motors, .out]
def execSpdEdge_fields : Option (List Field) := some [Reg.HOST_IRQ_PENDING.SOURCE, Reg.TIME_STATUS.SLEWING, Reg.TIME_SLEW_REMAIN.VALUE, Reg.MOT_STATE.SIGNAL_LOST]
theorem execSpdEdge_effect (p0 : Fin 4) (p1 : Bool) (p2 : Nat) (s : State) :
    ∃ n, execSpdEdge p0 p1 p2 s = .next n ∧ Effect execSpdEdge_touch execSpdEdge_fields s n := by
  unfold execSpdEdge done
  refine ⟨_, rfl, ?_⟩
  refine Effect.after (State.settle_effect ..) (by decide +kernel) ?_
  refine Effect.after (State.spdEdge_effect ..) (by decide +kernel) ?_
  refine Effect.after (State.elapse_effect ..) (by decide +kernel) ?_
  exact Effect.refl _ _ _

def execHostRd_touch : List Part := [.hold, .time, .host, .fr, .eths, .cans, .out]
def execHostRd_fields : Option (List Field) := some [Reg.HOST_IRQ_PENDING.SOURCE, Reg.ADC_ENTRY_VALUE.VALUE, Reg.TIME_STATUS.SLEWING, Reg.TIME_PTP_NS.VALUE, Reg.TIME_PTP_SEC_LO.VALUE, Reg.TIME_PTP_SEC_HI.VALUE, Reg.TIME_PTP_FRAC.VALUE, Reg.TIME_SLEW_REMAIN.VALUE, Reg.ETH_TXTS.ENTRY, Reg.ETH_TXTS_STATUS.COUNT, Reg.CAN_TXE0.RECORD, Reg.CAN_TXE1.RECORD, Reg.CAN_TXE2.RECORD, Reg.CAN_TXE_STATUS.COUNT, Reg.BB_STATUS.TX_IDLE, Reg.BB_COUNT.DENIED]
theorem execHostRd_effect (p0 : Fin 4) (p1 : Nat) (p2 : List Byte) (p3 : Nat) (s : State) :
    ∃ n, execHostRd p0 p1 p2 p3 s = .next n ∧ Effect execHostRd_touch execHostRd_fields s n := by
  unfold execHostRd done
  refine ⟨_, rfl, ?_⟩
  refine Effect.after (State.settle_effect ..) (by decide +kernel) ?_
  refine Effect.after (State.bbRead_effect ..) (by decide +kernel) ?_
  refine Effect.after (State.elapse_effect ..) (by decide +kernel) ?_
  exact Effect.refl _ _ _

def execBbPartnerLost_touch : List Part := [.time, .host, .fr, .out]
def execBbPartnerLost_fields : Option (List Field) := some [Reg.HOST_IRQ_PENDING.SOURCE, Reg.TIME_STATUS.SLEWING, Reg.TIME_SLEW_REMAIN.VALUE, Reg.BB_EVENT.EVENTS, Reg.BB_PARTNER.STATE, Reg.BB_PARTNER.PORTS]
theorem execBbPartnerLost_effect (p0 : Fin 16) (p1 : Nat) (s : State) :
    ∃ n, execBbPartnerLost p0 p1 s = .next n ∧ Effect execBbPartnerLost_touch execBbPartnerLost_fields s n := by
  unfold execBbPartnerLost done
  refine ⟨_, rfl, ?_⟩
  refine Effect.after (State.settle_effect ..) (by decide +kernel) ?_
  refine Effect.after (State.partnerLost_effect ..) (by decide +kernel) ?_
  refine Effect.after (State.elapse_effect ..) (by decide +kernel) ?_
  exact Effect.refl _ _ _

def execCallupLaunch_touch : List Part := [.time, .faults, .host, .fr, .lanes, .chains, .convs, .safety, .out]
def execCallupLaunch_fields : Option (List Field) := some [Reg.HOST_IRQ_PENDING.SOURCE, Reg.COLLECT_STATUS_LO.STATUS, Reg.COLLECT_STATUS_HI.STATUS, Reg.FAULT_COUNT_CORR.COUNT, Reg.FAULT_COUNT_CONT.COUNT, Reg.FAULT_COUNT_FATAL.COUNT, Reg.FAULT_EVENT.CORRECTED, Reg.FAULT_EVENT.CONTAINED, Reg.FAULT_EVENT.FATAL, Reg.FAULT_EVENT.HIST_LOST, Reg.FAULT_HIST_STATUS.LOST, Reg.SAFE_STATUS.A_OK, Reg.SAFE_STATUS.B_OK, Reg.SAFE_STATUS.DIAG, Reg.SAFE_STATUS.DIAG_CAUSE, Reg.SAFE_STATUS.RESET_PIN, Reg.SAFE_STATUS.DEMAND, Reg.SAFE_STATUS.LOCKED, Reg.SAFE_STATUS.DIAG_A, Reg.SAFE_STATUS.DIAG_B, Reg.SAFE_GROUP.STATE, Reg.SAFE_GROUP.KIND, Reg.SAFE_GROUP.STOP, Reg.SAFE_GROUP.CAUSE, Reg.SAFE_GROUP.PAIRS, Reg.SAFE_PAIR.CH_A, Reg.SAFE_PAIR.CH_B, Reg.SAFE_PAIR.DEMAND, Reg.SAFE_PAIR.PAIR_FAULT, Reg.SAFE_PAIR.FAULT_CAUSE, Reg.SAFE_PAIR.DEMANDS, Reg.SAFE_TPO.EN, Reg.SAFE_TPO.READBACK_FAULT, Reg.SAFE_FIRE.FIRE_A, Reg.SAFE_FIRE.FIRE_B, Reg.SAFE_FIRE.DRV_A, Reg.SAFE_FIRE.DRV_B, Reg.SAFE_RESET_STATUS.ARMED, Reg.SAFE_RESET_STATUS.RELEASED, Reg.SAFE_RESET_STATUS.REFUSED, Reg.SAFE_EVENT.DEMAND, Reg.SAFE_EVENT.STOPPING, Reg.SAFE_EVENT.REMOVED, Reg.SAFE_EVENT.DIAG, Reg.SAFE_EVENT.RESET_REFUSED, Reg.TIME_STATUS.SLEWING, Reg.TIME_SLEW_REMAIN.VALUE, Reg.LANE_CHAIN.LOOPED]
theorem execCallupLaunch_effect (p0 : CallIn) (p1 : Nat) (s : State) :
    ∃ n, execCallupLaunch p0 p1 s = .next n ∧ Effect execCallupLaunch_touch execCallupLaunch_fields s n := by
  unfold execCallupLaunch done
  extract_lets x1
  have h2 : Effect execCallupLaunch_touch execCallupLaunch_fields s x1 := by
    refine Effect.after (State.elapse_effect ..) (by decide +kernel) ?_
    exact Effect.refl _ _ _
  try clear_value x1
  refine ⟨_, rfl, ?_⟩
  refine Effect.after (State.settle_effect ..) (by decide +kernel) ?_
  split
  · extract_lets x3 x4
    have h5 : Effect execCallupLaunch_touch execCallupLaunch_fields s x4 := by
      refine Effect.after (State.callupLaunch_effect ..) (by decide +kernel) ?_
      exact h2
    try clear_value x4
    try clear_value x3
    split
    · refine Effect.when ?_ ?_
      · exact h5
      · intro u6
        try beta_reduce
        refine Effect.after (State.diagFail_effect ..) (by decide +kernel) ?_
        exact Effect.refl _ _ _
    · exact h5
  · exact h2

def execFlashTimeout_touch : List Part := [.time, .power, .host, .load, .fr, .out]
def execFlashTimeout_fields : Option (List Field) := some [Reg.HOST_IRQ_PENDING.SOURCE, Reg.FRAME_STATUS.RUNNING, Reg.IMAGE_STATUS.STATE, Reg.IMAGE_STATUS.SOURCE, Reg.IMAGE_STATUS.CODE, Reg.IMAGE_ERR_SECTION.INDEX, Reg.IMAGE_ERR_SECTION.TYPE, Reg.IMAGE_ERR_OFFSET.OFFSET, Reg.IMAGE_PRIMARY_CODE.CODE, Reg.IMAGE_EVENT.DONE, Reg.TIME_STATUS.SLEWING, Reg.TIME_SLEW_REMAIN.VALUE]
theorem execFlashTimeout_effect (p0 : Nat) (s : State) :
    ∃ n, execFlashTimeout p0 s = .next n ∧ Effect execFlashTimeout_touch execFlashTimeout_fields s n := by
  unfold execFlashTimeout done
  refine ⟨_, rfl, ?_⟩
  refine Effect.after (State.settle_effect ..) (by decide +kernel) ?_
  refine Effect.after (State.flashTimeout_effect ..) (by decide +kernel) ?_
  refine Effect.after (State.elapse_effect ..) (by decide +kernel) ?_
  exact Effect.refl _ _ _

def execCallupReply_touch : List Part := [.time, .faults, .host, .fr, .lanes, .chains, .cells, .out]
def execCallupReply_fields : Option (List Field) := some [Reg.HOST_IRQ_PENDING.SOURCE, Reg.COLLECT_STATUS_LO.STATUS, Reg.COLLECT_STATUS_HI.STATUS, Reg.FAULT_COUNT_CORR.COUNT, Reg.FAULT_COUNT_CONT.COUNT, Reg.FAULT_COUNT_FATAL.COUNT, Reg.FAULT_EVENT.CORRECTED, Reg.FAULT_EVENT.CONTAINED, Reg.FAULT_EVENT.FATAL, Reg.FAULT_EVENT.HIST_LOST, Reg.FAULT_HIST_STATUS.LOST, Reg.TIME_STATUS.SLEWING, Reg.TIME_SLEW_REMAIN.VALUE, Reg.LANE_STATUS.STATE, Reg.LANE_STATUS.CHAIN_LATE, Reg.LANE_STATUS.SERVED, Reg.LANE_STATUS.FIRST_Q, Reg.LANE_UPBASE.U, Reg.LANE_BUDGET.DELIVERY, Reg.LANE_BUDGET.COMPLETION, Reg.LANE_EVENT.READY, Reg.LANE_EVENT.CHAIN_LATE, Reg.LANE_EVENT.UNROSTERED, Reg.LANE_DELAY.D, Reg.LANE_DELAY.VALID, Reg.CELL_STATE.NO_REPLY, Reg.CELL_STATE.CALL_QUEUED, Reg.TS_FOUND_LO.IDENTITY, Reg.TS_FOUND_HI.IDENTITY, Reg.TS_INFO.CLASS, Reg.TS_INFO.BYPASS_FITTED, Reg.TS_INFO.FIRMWARE, Reg.TS_CALL.Q_EVEN, Reg.TS_CALL.VALID_EVEN, Reg.TS_CALL.Q_ODD, Reg.TS_CALL.VALID_ODD, Reg.TS_CALL.REPLIES, Reg.TS_CALL_FRAME.FRAME, Reg.CELL_UNROSTERED_LO.CHAINS, Reg.CELL_UNROSTERED_HI.CHAINS, Reg.CELL_EVENT.UNROSTERED]
theorem execCallupReply_effect (p0 : Fin 96) (p1 : Nat) (p2 : List Byte) (p3 : Nat) (s : State) :
    ∃ n, execCallupReply p0 p1 p2 p3 s = .next n ∧ Effect execCallupReply_touch execCallupReply_fields s n := by
  unfold execCallupReply done
  refine ⟨_, rfl, ?_⟩
  refine Effect.after (State.settle_effect ..) (by decide +kernel) ?_
  refine Effect.after (State.callupReply_effect ..) (by decide +kernel) ?_
  refine Effect.after (State.elapse_effect ..) (by decide +kernel) ?_
  exact Effect.refl _ _ _

def execCollectorEvent_touch : List Part := [.time, .power, .faults, .host, .fr, .cells, .arms, .engs, .convs, .referee, .out]
def execCollectorEvent_fields : Option (List Field) := some [Reg.DOMAIN_STATE.PLANE_A, Reg.DOMAIN_STATE.PLANE_B, Reg.CONV_STATE.STATE, Reg.CONV_STATE.CAUSE, Reg.CONV_STATE.SLEWING, Reg.CONV_STATE_FRAME.FRAME, Reg.CONV_RESIDUAL.E, Reg.CONV_COUNT.BLOCKS, Reg.CONV_EVENT.BLOCK, Reg.CONV_EVENT.RESYNC_FAIL, Reg.CONV_EVENT.COAST_LIMIT, Reg.CONV_EVENT_SRC.CONV, Reg.HOST_IRQ_PENDING.SOURCE, Reg.POWER_PGOOD.PGOOD, Reg.COLLECT_STATUS_LO.STATUS, Reg.COLLECT_STATUS_HI.STATUS, Reg.FAULT_STATE.CONTAINED, Reg.FAULT_STATE.FATAL, Reg.FAULT_STATE.FAULT_N, Reg.FAULT_STATE.ALIVE_RUN, Reg.FAULT_COUNT_CORR.COUNT, Reg.FAULT_COUNT_CONT.COUNT, Reg.FAULT_COUNT_FATAL.COUNT, Reg.FAULT_EVENT.CORRECTED, Reg.FAULT_EVENT.CONTAINED, Reg.FAULT_EVENT.FATAL, Reg.FAULT_EVENT.HIST_LOST, Reg.FAULT_FIRST_FATAL.BIT, Reg.FAULT_FIRST_FATAL.VALID, Reg.FAULT_FIRST_FATAL.FRAME_VALID, Reg.FAULT_FIRST_FATAL.DETAIL, Reg.FAULT_FIRST_FRAME.VALUE, Reg.FAULT_FIRST_NS_LO.VALUE, Reg.FAULT_FIRST_NS_HI.VALUE, Reg.FAULT_HIST_STATUS.NEWEST, Reg.FAULT_HIST_STATUS.FILLED, Reg.FAULT_HIST_STATUS.LOST, Reg.FAULT_HIST_FRAME.VALUE, Reg.FAULT_HIST_NS_LO.VALUE, Reg.FAULT_HIST_NS_HI.VALUE, Reg.FAULT_HIST_INFO.VALUE, Reg.REF_STATUS.STATE, Reg.REF_STATUS.ROLE_A, Reg.REF_STATUS.ROLE_B, Reg.REF_STATUS.LEASE, Reg.REF_EVENT.UNFIT, Reg.ENG_STATUS.BALL, Reg.ENG_STATUS.SHADOW, Reg.ENG_STATUS.COLD, Reg.ENG_EXPORT.VALUE, Reg.TIME_STATUS.SLEWING, Reg.TIME_SLEW_REMAIN.VALUE, Reg.ARM_PTR.PTR]
theorem execCollectorEvent_effect (p0 : Nat) (s : State) :
    ∃ n, execCollectorEvent p0 s = .next n ∧ Effect execCollectorEvent_touch execCollectorEvent_fields s n := by
  unfold execCollectorEvent done
  refine ⟨_, rfl, ?_⟩
  refine Effect.after (State.settle_effect ..) (by decide +kernel) ?_
  refine Effect.after (State.collectNext_effect ..) (by decide +kernel) ?_
  refine Effect.after (State.elapse_effect ..) (by decide +kernel) ?_
  exact Effect.refl _ _ _

def execSafeUnsettled_touch : List Part := [.time, .host, .fr, .convs, .safety, .out]
def execSafeUnsettled_fields : Option (List Field) := some [Reg.HOST_IRQ_PENDING.SOURCE, Reg.SAFE_STATUS.A_OK, Reg.SAFE_STATUS.B_OK, Reg.SAFE_STATUS.DIAG, Reg.SAFE_STATUS.DIAG_CAUSE, Reg.SAFE_STATUS.RESET_PIN, Reg.SAFE_STATUS.DEMAND, Reg.SAFE_STATUS.LOCKED, Reg.SAFE_STATUS.DIAG_A, Reg.SAFE_STATUS.DIAG_B, Reg.SAFE_GROUP.STATE, Reg.SAFE_GROUP.KIND, Reg.SAFE_GROUP.STOP, Reg.SAFE_GROUP.CAUSE, Reg.SAFE_GROUP.PAIRS, Reg.SAFE_PAIR.CH_A, Reg.SAFE_PAIR.CH_B, Reg.SAFE_PAIR.DEMAND, Reg.SAFE_PAIR.PAIR_FAULT, Reg.SAFE_PAIR.FAULT_CAUSE, Reg.SAFE_PAIR.DEMANDS, Reg.SAFE_TPO.EN, Reg.SAFE_TPO.READBACK_FAULT, Reg.SAFE_FIRE.FIRE_A, Reg.SAFE_FIRE.FIRE_B, Reg.SAFE_FIRE.DRV_A, Reg.SAFE_FIRE.DRV_B, Reg.SAFE_RESET_STATUS.ARMED, Reg.SAFE_RESET_STATUS.RELEASED, Reg.SAFE_RESET_STATUS.REFUSED, Reg.SAFE_EVENT.DEMAND, Reg.SAFE_EVENT.STOPPING, Reg.SAFE_EVENT.REMOVED, Reg.SAFE_EVENT.PAIR_FAULT, Reg.SAFE_EVENT.RESET_REFUSED, Reg.TIME_STATUS.SLEWING, Reg.TIME_SLEW_REMAIN.VALUE]
theorem execSafeUnsettled_effect (p0 : Fin 2) (p1 : Fin 16) (p2 : Nat) (s : State) :
    ∃ n, execSafeUnsettled p0 p1 p2 s = .next n ∧ Effect execSafeUnsettled_touch execSafeUnsettled_fields s n := by
  unfold execSafeUnsettled done
  refine ⟨_, rfl, ?_⟩
  refine Effect.after (State.settle_effect ..) (by decide +kernel) ?_
  refine Effect.after (State.unsettled_effect ..) (by decide +kernel) ?_
  refine Effect.after (State.elapse_effect ..) (by decide +kernel) ?_
  exact Effect.refl _ _ _

def execHalftimeNow_touch : List Part := [.time, .host, .fr, .referee, .out]
def execHalftimeNow_fields : Option (List Field) := some [Reg.HOST_IRQ_PENDING.SOURCE, Reg.TIME_STATUS.SLEWING, Reg.TIME_SLEW_REMAIN.VALUE]
theorem execHalftimeNow_effect (p0 : Nat) (s : State) :
    ∃ n, execHalftimeNow p0 s = .next n ∧ Effect execHalftimeNow_touch execHalftimeNow_fields s n := by
  unfold execHalftimeNow done
  refine ⟨_, rfl, ?_⟩
  refine Effect.after (State.settle_effect ..) (by decide +kernel) ?_
  refine Effect.after (State.halftimeNow_effect ..) (by decide +kernel) ?_
  refine Effect.after (State.elapse_effect ..) (by decide +kernel) ?_
  exact Effect.refl _ _ _

def execRegisterWrite_touch : List Part := [.hold, .wrHold, .time, .power, .faults, .host, .load, .cfg, .fr, .images, .lanes, .chains, .cells, .arms, .engs, .convs, .referee, .pair, .journal, .adc, .drives, .motors, .safety, .eths, .canQueues, .cans, .out, .drawn]
def execRegisterWrite_fields : Option (List Field) := none
theorem execRegisterWrite_effect (p0 : Nat) (p1 : Nat) (p2 : Nat) (p3 : Nat) (s : State) :
    ∃ n, execRegisterWrite p0 p1 p2 p3 s = .next n ∧ Effect execRegisterWrite_touch execRegisterWrite_fields s n := by
  unfold execRegisterWrite done
  refine ⟨_, rfl, ?_⟩
  refine Effect.after (State.settle_effect ..) (by decide +kernel) ?_
  refine Effect.ite ?_ ?_
  · refine Effect.after (State.hostWrite_effect ..) (by decide +kernel) ?_
    refine Effect.after (State.elapse_effect ..) (by decide +kernel) ?_
    exact Effect.refl _ _ _
  · refine Effect.after (State.elapse_effect ..) (by decide +kernel) ?_
    exact Effect.refl _ _ _

def execSoftReset_touch : List Part := [.hold, .wrHold, .time, .power, .faults, .host, .load, .cfg, .fr, .images, .lanes, .chains, .cells, .arms, .engs, .convs, .referee, .pair, .journal, .adc, .drives, .motors, .safety, .eths, .canQueues, .cans, .out]
def execSoftReset_fields : Option (List Field) := none
theorem execSoftReset_effect (p0 : Nat) (p1 : Nat) (p2 : Fin 16) (s : State) :
    ∃ n, execSoftReset p0 p1 p2 s = .next n ∧ Effect execSoftReset_touch execSoftReset_fields s n := by
  unfold execSoftReset done
  refine ⟨_, rfl, ?_⟩
  refine Effect.after (State.settle_effect ..) (by decide +kernel) ?_
  refine Effect.after (State.softReset_effect ..) (by decide +kernel) ?_
  refine Effect.after (State.elapse_effect ..) (by decide +kernel) ?_
  exact Effect.refl _ _ _

def execRailPgood_touch : List Part := [.time, .power, .host, .fr, .referee, .adc, .out]
def execRailPgood_fields : Option (List Field) := some [Reg.DOMAIN_STATE.FABRIC, Reg.DOMAIN_STATE.LANE_PHY, Reg.DOMAIN_STATE.BB_PHY, Reg.DOMAIN_STATE.ANALOG, Reg.DOMAIN_STATE.DRAM_ACTIVE, Reg.DOMAIN_STATE.DRAM_SR, Reg.HOST_IRQ_PENDING.SOURCE, Reg.POWER_PGOOD.PGOOD, Reg.ADC_REF.EN, Reg.TIME_STATUS.SLEWING, Reg.TIME_SLEW_REMAIN.VALUE]
theorem execRailPgood_effect (p0 : Fin 24) (p1 : Nat) (s : State) :
    ∃ n, execRailPgood p0 p1 s = .next n ∧ Effect execRailPgood_touch execRailPgood_fields s n := by
  unfold execRailPgood done
  refine ⟨_, rfl, ?_⟩
  refine Effect.after (State.settle_effect ..) (by decide +kernel) ?_
  refine Effect.after (State.railPgood_effect ..) (by decide +kernel) ?_
  refine Effect.after (State.elapse_effect ..) (by decide +kernel) ?_
  exact Effect.refl _ _ _

def execResetNRelease_touch : List Part := [.time, .power, .host, .fr, .out]
def execResetNRelease_fields : Option (List Field) := some [Reg.DOMAIN_STATE.FABRIC, Reg.DOMAIN_STATE.LANE_PHY, Reg.DOMAIN_STATE.BB_PHY, Reg.DOMAIN_STATE.ANALOG, Reg.DOMAIN_STATE.DRAM_ACTIVE, Reg.DOMAIN_STATE.DRAM_SR, Reg.HOST_IRQ_PENDING.SOURCE, Reg.RESET_CAUSE.CAUSE, Reg.RESET_CAUSE.COUNT, Reg.RESET_HELD_MS.MS, Reg.TIME_STATUS.SLEWING, Reg.TIME_SLEW_REMAIN.VALUE]
theorem execResetNRelease_effect (p0 : Nat) (s : State) :
    ∃ n, execResetNRelease p0 s = .next n ∧ Effect execResetNRelease_touch execResetNRelease_fields s n := by
  unfold execResetNRelease done
  refine ⟨_, rfl, ?_⟩
  refine Effect.after (State.settle_effect ..) (by decide +kernel) ?_
  refine Effect.after (State.resetNRelease_effect ..) (by decide +kernel) ?_
  refine Effect.after (State.elapse_effect ..) (by decide +kernel) ?_
  exact Effect.refl _ _ _

def execAutoRestore_touch : List Part := [.time, .host, .fr, .images, .lanes, .chains, .cells, .out]
def execAutoRestore_fields : Option (List Field) := some [Reg.HOST_IRQ_PENDING.SOURCE, Reg.TIME_STATUS.SLEWING, Reg.TIME_SLEW_REMAIN.VALUE, Reg.LANE_STATUS.STATE, Reg.LANE_STATUS.MOVING, Reg.LANE_STATUS.SERVED, Reg.LANE_STATUS.FIRST_Q, Reg.LANE_CHAIN.SPLIT, Reg.LANE_CHAIN.GAP, Reg.LANE_SEGDOWN_LO.DOWN, Reg.LANE_SEGDOWN_HI.DOWN, Reg.LANE_EVENT.MOVE, Reg.CELL_PLACE.CHAIN, Reg.CELL_PLACE.POS, Reg.CELL_PLACE.END, Reg.CELL_PLACE.REACHABLE, Reg.CELL_PLACE.ARM, Reg.CELL_PLACE.CLASS]
theorem execAutoRestore_effect (p0 : Fin 48) (p1 : Nat) (s : State) :
    ∃ n, execAutoRestore p0 p1 s = .next n ∧ Effect execAutoRestore_touch execAutoRestore_fields s n := by
  unfold execAutoRestore done
  extract_lets x1
  have h2 : Effect execAutoRestore_touch execAutoRestore_fields s x1 := by
    refine Effect.after (State.elapse_effect ..) (by decide +kernel) ?_
    exact Effect.refl _ _ _
  try clear_value x1
  refine ⟨_, rfl, ?_⟩
  refine Effect.after (State.settle_effect ..) (by decide +kernel) ?_
  split
  · refine Effect.after (State.restoreAtFreeze_effect ..) (by decide +kernel) ?_
    exact h2
  · exact h2

def execImageLoad_touch : List Part := [.time, .power, .host, .load, .fr, .out]
def execImageLoad_fields : Option (List Field) := some [Reg.HOST_IRQ_PENDING.SOURCE, Reg.FRAME_STATUS.RUNNING, Reg.IMAGE_CTRL.SRC, Reg.IMAGE_STATUS.STATE, Reg.IMAGE_STATUS.SOURCE, Reg.IMAGE_STATUS.CODE, Reg.IMAGE_ERR_SECTION.INDEX, Reg.IMAGE_ERR_SECTION.TYPE, Reg.IMAGE_ERR_OFFSET.OFFSET, Reg.IMAGE_PRIMARY_CODE.CODE, Reg.IMAGE_EVENT.DONE, Reg.TIME_STATUS.SLEWING, Reg.TIME_SLEW_REMAIN.VALUE]
theorem execImageLoad_effect (p0 : Fin 4) (p1 : Nat) (s : State) :
    ∃ n, execImageLoad p0 p1 s = .next n ∧ Effect execImageLoad_touch execImageLoad_fields s n := by
  unfold execImageLoad done
  refine ⟨_, rfl, ?_⟩
  refine Effect.after (State.settle_effect ..) (by decide +kernel) ?_
  refine Effect.after (State.imageLoad_effect ..) (by decide +kernel) ?_
  refine Effect.after (State.elapse_effect ..) (by decide +kernel) ?_
  exact Effect.refl _ _ _

def execTpoReadbackFault_touch : List Part := [.time, .host, .fr, .convs, .safety, .out]
def execTpoReadbackFault_fields : Option (List Field) := some [Reg.HOST_IRQ_PENDING.SOURCE, Reg.SAFE_STATUS.A_OK, Reg.SAFE_STATUS.B_OK, Reg.SAFE_STATUS.DIAG, Reg.SAFE_STATUS.DIAG_CAUSE, Reg.SAFE_STATUS.RESET_PIN, Reg.SAFE_STATUS.DEMAND, Reg.SAFE_STATUS.LOCKED, Reg.SAFE_STATUS.DIAG_A, Reg.SAFE_STATUS.DIAG_B, Reg.SAFE_GROUP.STATE, Reg.SAFE_GROUP.KIND, Reg.SAFE_GROUP.STOP, Reg.SAFE_GROUP.CAUSE, Reg.SAFE_GROUP.PAIRS, Reg.SAFE_PAIR.CH_A, Reg.SAFE_PAIR.CH_B, Reg.SAFE_PAIR.DEMAND, Reg.SAFE_PAIR.PAIR_FAULT, Reg.SAFE_PAIR.FAULT_CAUSE, Reg.SAFE_PAIR.DEMANDS, Reg.SAFE_TPO.EN, Reg.SAFE_TPO.READBACK_FAULT, Reg.SAFE_FIRE.FIRE_A, Reg.SAFE_FIRE.FIRE_B, Reg.SAFE_FIRE.DRV_A, Reg.SAFE_FIRE.DRV_B, Reg.SAFE_RESET_STATUS.ARMED, Reg.SAFE_RESET_STATUS.RELEASED, Reg.SAFE_RESET_STATUS.REFUSED, Reg.SAFE_EVENT.DEMAND, Reg.SAFE_EVENT.STOPPING, Reg.SAFE_EVENT.REMOVED, Reg.SAFE_EVENT.PAIR_FAULT, Reg.SAFE_EVENT.RESET_REFUSED, Reg.TIME_STATUS.SLEWING, Reg.TIME_SLEW_REMAIN.VALUE]
theorem execTpoReadbackFault_effect (p0 : Fin 2) (p1 : Fin 4) (p2 : Nat) (s : State) :
    ∃ n, execTpoReadbackFault p0 p1 p2 s = .next n ∧ Effect execTpoReadbackFault_touch execTpoReadbackFault_fields s n := by
  unfold execTpoReadbackFault done
  extract_lets x1
  have h2 : Effect execTpoReadbackFault_touch execTpoReadbackFault_fields s x1 := by
    refine Effect.after (State.elapse_effect ..) (by decide +kernel) ?_
    exact Effect.refl _ _ _
  try clear_value x1
  refine ⟨_, rfl, ?_⟩
  refine Effect.after (State.settle_effect ..) (by decide +kernel) ?_
  refine Effect.ite ?_ ?_
  · refine Effect.after (State.readbackFault_effect ..) (by decide +kernel) ?_
    exact h2
  · exact h2

def execLeaseExpiry_touch : List Part := [.time, .power, .faults, .host, .fr, .cells, .arms, .engs, .convs, .referee, .out]
def execLeaseExpiry_fields : Option (List Field) := some [Reg.DOMAIN_STATE.PLANE_A, Reg.DOMAIN_STATE.PLANE_B, Reg.CONV_STATE.STATE, Reg.CONV_STATE.CAUSE, Reg.CONV_STATE.SLEWING, Reg.CONV_STATE_FRAME.FRAME, Reg.CONV_RESIDUAL.E, Reg.CONV_COUNT.BLOCKS, Reg.CONV_EVENT.BLOCK, Reg.CONV_EVENT.RESYNC_FAIL, Reg.CONV_EVENT.COAST_LIMIT, Reg.CONV_EVENT_SRC.CONV, Reg.HOST_IRQ_PENDING.SOURCE, Reg.POWER_PGOOD.PGOOD, Reg.COLLECT_STATUS_LO.STATUS, Reg.COLLECT_STATUS_HI.STATUS, Reg.FAULT_COUNT_CORR.COUNT, Reg.FAULT_COUNT_CONT.COUNT, Reg.FAULT_COUNT_FATAL.COUNT, Reg.FAULT_EVENT.CORRECTED, Reg.FAULT_EVENT.CONTAINED, Reg.FAULT_EVENT.FATAL, Reg.FAULT_EVENT.HIST_LOST, Reg.FAULT_HIST_STATUS.LOST, Reg.REF_STATUS.STATE, Reg.REF_STATUS.ROLE_A, Reg.REF_STATUS.ROLE_B, Reg.REF_STATUS.LEASE, Reg.REF_TAKEOVER.LAST_CAUSE, Reg.REF_EVENT.UNFIT, Reg.ENG_STATUS.BALL, Reg.ENG_STATUS.SHADOW, Reg.ENG_STATUS.COLD, Reg.ENG_EXPORT.VALUE, Reg.TIME_STATUS.SLEWING, Reg.TIME_SLEW_REMAIN.VALUE, Reg.ARM_PTR.PTR]
theorem execLeaseExpiry_effect (p0 : Nat) (s : State) :
    ∃ n, execLeaseExpiry p0 s = .next n ∧ Effect execLeaseExpiry_touch execLeaseExpiry_fields s n := by
  unfold execLeaseExpiry done
  extract_lets x1
  have h2 : Effect execLeaseExpiry_touch execLeaseExpiry_fields s x1 := by
    refine Effect.after (State.elapse_effect ..) (by decide +kernel) ?_
    exact Effect.refl _ _ _
  try clear_value x1
  refine ⟨_, rfl, ?_⟩
  refine Effect.after (State.settle_effect ..) (by decide +kernel) ?_
  refine Effect.ite ?_ ?_
  · refine Effect.after (State.withdrawAtTick_effect ..) (by decide +kernel) ?_
    exact h2
  · exact h2

def execPlaneEccError_touch : List Part := [.time, .power, .faults, .host, .fr, .cells, .arms, .engs, .convs, .referee, .out]
def execPlaneEccError_fields : Option (List Field) := some [Reg.DOMAIN_STATE.PLANE_A, Reg.DOMAIN_STATE.PLANE_B, Reg.CONV_STATE.STATE, Reg.CONV_STATE.CAUSE, Reg.CONV_STATE.SLEWING, Reg.CONV_STATE_FRAME.FRAME, Reg.CONV_RESIDUAL.E, Reg.CONV_COUNT.BLOCKS, Reg.CONV_EVENT.BLOCK, Reg.CONV_EVENT.RESYNC_FAIL, Reg.CONV_EVENT.COAST_LIMIT, Reg.CONV_EVENT_SRC.CONV, Reg.HOST_IRQ_PENDING.SOURCE, Reg.POWER_PGOOD.PGOOD, Reg.POWER_WAKE_FAIL.ITEM, Reg.POWER_WAKE_FAIL.KIND, Reg.POWER_EVENT.EVENTS, Reg.COLLECT_STATUS_LO.STATUS, Reg.COLLECT_STATUS_HI.STATUS, Reg.FAULT_COUNT_CORR.COUNT, Reg.FAULT_COUNT_CONT.COUNT, Reg.FAULT_COUNT_FATAL.COUNT, Reg.FAULT_EVENT.CORRECTED, Reg.FAULT_EVENT.CONTAINED, Reg.FAULT_EVENT.FATAL, Reg.FAULT_EVENT.HIST_LOST, Reg.FAULT_HIST_STATUS.LOST, Reg.REF_STATUS.STATE, Reg.REF_STATUS.ROLE_A, Reg.REF_STATUS.ROLE_B, Reg.REF_STATUS.LEASE, Reg.REF_HT_STATUS.OUTCOME, Reg.REF_TAKEOVER.LAST_CAUSE, Reg.REF_EVENT.UNFIT, Reg.ENG_STATUS.BALL, Reg.ENG_STATUS.SHADOW, Reg.ENG_STATUS.COLD, Reg.ENG_ECC.UNCORRECTABLE, Reg.ENG_EXPORT.VALUE, Reg.TIME_STATUS.SLEWING, Reg.TIME_SLEW_REMAIN.VALUE, Reg.ARM_PTR.PTR]
theorem execPlaneEccError_effect (p0 : Fin 2) (p1 : Fin 8) (p2 : Nat) (s : State) :
    ∃ n, execPlaneEccError p0 p1 p2 s = .next n ∧ Effect execPlaneEccError_touch execPlaneEccError_fields s n := by
  unfold execPlaneEccError done
  refine ⟨_, rfl, ?_⟩
  refine Effect.after (State.settle_effect ..) (by decide +kernel) ?_
  refine Effect.after (State.engineEcc_effect ..) (by decide +kernel) ?_
  refine Effect.after (State.elapse_effect ..) (by decide +kernel) ?_
  exact Effect.refl _ _ _

def execAliveToggle_touch : List Part := [.time, .faults, .host, .fr, .out]
def execAliveToggle_fields : Option (List Field) := some [Reg.HOST_IRQ_PENDING.SOURCE, Reg.ALIVE_CFG.HZ, Reg.TIME_STATUS.SLEWING, Reg.TIME_SLEW_REMAIN.VALUE]
theorem execAliveToggle_effect (p0 : Nat) (s : State) :
    ∃ n, execAliveToggle p0 s = .next n ∧ Effect execAliveToggle_touch execAliveToggle_fields s n := by
  unfold execAliveToggle done
  refine ⟨_, rfl, ?_⟩
  refine Effect.after (State.settle_effect ..) (by decide +kernel) ?_
  refine Effect.after (State.aliveToggle_effect ..) (by decide +kernel) ?_
  refine Effect.after (State.elapse_effect ..) (by decide +kernel) ?_
  exact Effect.refl _ _ _

def execTimeServoChange_touch : List Part := [.time, .host, .fr, .out]
def execTimeServoChange_fields : Option (List Field) := some [Reg.HOST_IRQ_PENDING.SOURCE, Reg.TIME_CTRL.SERVO, Reg.TIME_STATUS.SYNC, Reg.TIME_STATUS.SLEWING, Reg.TIME_SLEW_REMAIN.VALUE, Reg.TIME_EVENT.EVENTS]
theorem execTimeServoChange_effect (p0 : Bool) (p1 : Nat) (s : State) :
    ∃ n, execTimeServoChange p0 p1 s = .next n ∧ Effect execTimeServoChange_touch execTimeServoChange_fields s n := by
  unfold execTimeServoChange done
  refine ⟨_, rfl, ?_⟩
  refine Effect.after (State.settle_effect ..) (by decide +kernel) ?_
  refine Effect.after (State.servoTo_effect ..) (by decide +kernel) ?_
  refine Effect.after (State.elapse_effect ..) (by decide +kernel) ?_
  exact Effect.refl _ _ _

def execBbIdleEntry_touch : List Part := [.time, .host, .fr, .out]
def execBbIdleEntry_fields : Option (List Field) := some [Reg.HOST_IRQ_PENDING.SOURCE, Reg.TIME_STATUS.SLEWING, Reg.TIME_SLEW_REMAIN.VALUE, Reg.BB_STATUS.TX_IDLE]
theorem execBbIdleEntry_effect (p0 : Fin 4) (p1 : Nat) (s : State) :
    ∃ n, execBbIdleEntry p0 p1 s = .next n ∧ Effect execBbIdleEntry_touch execBbIdleEntry_fields s n := by
  unfold execBbIdleEntry done
  refine ⟨_, rfl, ?_⟩
  refine Effect.after (State.settle_effect ..) (by decide +kernel) ?_
  refine Effect.after (State.bbIdle_effect ..) (by decide +kernel) ?_
  refine Effect.after (State.elapse_effect ..) (by decide +kernel) ?_
  exact Effect.refl _ _ _

def execCanSlotStart_touch : List Part := [.time, .host, .fr, .cans, .out]
def execCanSlotStart_fields : Option (List Field) := some [Reg.HOST_IRQ_PENDING.SOURCE, Reg.TIME_STATUS.SLEWING, Reg.TIME_SLEW_REMAIN.VALUE, Reg.CAN_MATRIX.COLUMN]
theorem execCanSlotStart_effect (p0 : Fin 4) (p1 : Fin 64) (p2 : Nat) (s : State) :
    ∃ n, execCanSlotStart p0 p1 p2 s = .next n ∧ Effect execCanSlotStart_touch execCanSlotStart_fields s n := by
  unfold execCanSlotStart done
  refine ⟨_, rfl, ?_⟩
  refine Effect.after (State.settle_effect ..) (by decide +kernel) ?_
  refine Effect.after (State.canSlotStart_effect ..) (by decide +kernel) ?_
  refine Effect.after (State.elapse_effect ..) (by decide +kernel) ?_
  exact Effect.refl _ _ _

def execCatchSlow_touch : List Part := [.time, .faults, .host, .fr, .drives, .motors, .out]
def execCatchSlow_fields : Option (List Field) := some [Reg.HOST_IRQ_PENDING.SOURCE, Reg.COLLECT_STATUS_LO.STATUS, Reg.COLLECT_STATUS_HI.STATUS, Reg.FAULT_COUNT_CORR.COUNT, Reg.FAULT_COUNT_CONT.COUNT, Reg.FAULT_COUNT_FATAL.COUNT, Reg.FAULT_EVENT.CORRECTED, Reg.FAULT_EVENT.CONTAINED, Reg.FAULT_EVENT.FATAL, Reg.FAULT_EVENT.HIST_LOST, Reg.FAULT_HIST_STATUS.LOST, Reg.TIME_STATUS.SLEWING, Reg.TIME_SLEW_REMAIN.VALUE, Reg.DRV_STATUS.LEG_FAULT, Reg.DRV_CARRIER_ACT.TOP, Reg.DRV_LEG_STATUS.CMP_ACT, Reg.DRV_LEG_STATUS.DESAT_HS, Reg.DRV_LEG_STATUS.DESAT_LS, Reg.DRV_LEG_STATUS.INSTANT, Reg.DRV_LEG_STATUS.VB_UV, Reg.DRV_LEG_STATUS.GATES_OFF, Reg.DRV_LEG_STATUS.MODE_ACT, Reg.MOT_STATE.STATE, Reg.MOT_EVENT.STATE, Reg.MOT_EVENT.OBS_LOST]
theorem execCatchSlow_effect (p0 : Fin 4) (p1 : Nat) (s : State) :
    ∃ n, execCatchSlow p0 p1 s = .next n ∧ Effect execCatchSlow_touch execCatchSlow_fields s n := by
  unfold execCatchSlow done
  refine ⟨_, rfl, ?_⟩
  refine Effect.after (State.settle_effect ..) (by decide +kernel) ?_
  refine Effect.after (State.catchSlow_effect ..) (by decide +kernel) ?_
  refine Effect.after (State.drvElapse_effect ..) (by decide +kernel) ?_
  exact Effect.refl _ _ _

def execCheckpointLoadDone_touch : List Part := [.time, .power, .faults, .host, .fr, .cells, .arms, .engs, .convs, .referee, .out]
def execCheckpointLoadDone_fields : Option (List Field) := some [Reg.DOMAIN_STATE.PLANE_A, Reg.DOMAIN_STATE.PLANE_B, Reg.CONV_STATE.STATE, Reg.CONV_STATE.CAUSE, Reg.CONV_STATE.SLEWING, Reg.CONV_STATE_FRAME.FRAME, Reg.CONV_RESIDUAL.E, Reg.CONV_COUNT.BLOCKS, Reg.CONV_EVENT.BLOCK, Reg.CONV_EVENT.RESYNC_FAIL, Reg.CONV_EVENT.COAST_LIMIT, Reg.CONV_EVENT_SRC.CONV, Reg.HOST_IRQ_PENDING.SOURCE, Reg.POWER_PGOOD.PGOOD, Reg.COLLECT_STATUS_LO.STATUS, Reg.COLLECT_STATUS_HI.STATUS, Reg.FAULT_COUNT_CORR.COUNT, Reg.FAULT_COUNT_CONT.COUNT, Reg.FAULT_COUNT_FATAL.COUNT, Reg.FAULT_EVENT.CORRECTED, Reg.FAULT_EVENT.CONTAINED, Reg.FAULT_EVENT.FATAL, Reg.FAULT_EVENT.HIST_LOST, Reg.FAULT_HIST_STATUS.LOST, Reg.REF_STATUS.STATE, Reg.REF_STATUS.ROLE_A, Reg.REF_STATUS.ROLE_B, Reg.REF_STATUS.LEASE, Reg.REF_HT_STATUS.OUTCOME, Reg.REF_CKPT.OLD_USED, Reg.REF_EVENT.UNFIT, Reg.REF_EVENT.CKPT_OLD, Reg.ENG_STATUS.BALL, Reg.ENG_STATUS.SHADOW, Reg.ENG_STATUS.COLD, Reg.ENG_BANK.ACTIVE, Reg.ENG_PARAM.VALUE, Reg.ENG_EXPORT.VALUE, Reg.TIME_STATUS.SLEWING, Reg.TIME_SLEW_REMAIN.VALUE, Reg.ARM_PTR.PTR]
theorem execCheckpointLoadDone_effect (p0 : Nat) (p1 : Nat) (p2 : Bool) (p3 : Nat) (s : State) :
    ∃ n, execCheckpointLoadDone p0 p1 p2 p3 s = .next n ∧ Effect execCheckpointLoadDone_touch execCheckpointLoadDone_fields s n := by
  unfold execCheckpointLoadDone done
  refine ⟨_, rfl, ?_⟩
  refine Effect.after (State.settle_effect ..) (by decide +kernel) ?_
  refine Effect.after (State.ckptLoadDone_effect ..) (by decide +kernel) ?_
  refine Effect.after (State.elapse_effect ..) (by decide +kernel) ?_
  exact Effect.refl _ _ _

def execPorRelease_touch : List Part := [.time, .power, .host, .fr, .journal, .out]
def execPorRelease_fields : Option (List Field) := some [Reg.HOST_IRQ_PENDING.SOURCE, Reg.CLOCK_REF.REFSEL, Reg.POWER_STATE.STATE, Reg.FAULT_STATE.FAULT_N, Reg.FAULT_STATE.ALIVE_RUN, Reg.RESET_CAUSE.CAUSE, Reg.JRN_STATUS.FILL, Reg.JRN_STATUS.MRAM_OK, Reg.JRN_STATUS.EPOCH_CAUSE, Reg.JRN_EPOCH.EPOCH, Reg.JRN_EXEC.COUNT, Reg.JRN_ACCEPTED.COUNT, Reg.JRN_BUSY.OTHER, Reg.JRN_MRAM_CFG.EN, Reg.JRN_MRAM_CFG.QUAD, Reg.JRN_MRAM_CFG.DIV, Reg.JRN_EVENT.NEW_EPOCH, Reg.JRN_EVENT.RESTORED, Reg.JRN_SRC_LAST.LAST, Reg.JRN_CPL_TAIL.INDEX, Reg.JRN_RING_STATUS.PHASE, Reg.TIME_STATUS.SLEWING, Reg.TIME_SLEW_REMAIN.VALUE, Reg.BB_STATUS.TX_IDLE]
theorem execPorRelease_effect (p0 : Nat) (p1 : Fin 4) (p2 : Option (List Byte)) (p3 : Nat) (s : State) :
    ∃ n, execPorRelease p0 p1 p2 p3 s = .next n ∧ Effect execPorRelease_touch execPorRelease_fields s n := by
  unfold execPorRelease done
  refine ⟨_, rfl, ?_⟩
  refine Effect.after (State.settle_effect ..) (by decide +kernel) ?_
  refine Effect.after (State.porRelease_effect ..) (by decide +kernel) ?_
  refine Effect.after (State.elapse_effect ..) (by decide +kernel) ?_
  exact Effect.refl _ _ _

def execClockTrimFine_touch : List Part := [.time, .power, .host, .fr, .out]
def execClockTrimFine_fields : Option (List Field) := some [Reg.HOST_IRQ_PENDING.SOURCE, Reg.CLOCK_PLL_TRIM.TRIM, Reg.CLOCK_PLL_STATUS.STAGED, Reg.TIME_STATUS.SLEWING, Reg.TIME_SLEW_REMAIN.VALUE]
theorem execClockTrimFine_effect (p0 : Fin 4) (p1 : Nat) (p2 : Nat) (s : State) :
    ∃ n, execClockTrimFine p0 p1 p2 s = .next n ∧ Effect execClockTrimFine_touch execClockTrimFine_fields s n := by
  unfold execClockTrimFine done
  refine ⟨_, rfl, ?_⟩
  refine Effect.after (State.settle_effect ..) (by decide +kernel) ?_
  refine Effect.after (State.trimWrite_effect ..) (by decide +kernel) ?_
  refine Effect.after (State.elapse_effect ..) (by decide +kernel) ?_
  exact Effect.refl _ _ _

def execWakeNEvent_touch : List Part := [.time, .power, .host, .fr, .out]
def execWakeNEvent_fields : Option (List Field) := some [Reg.HOST_IRQ_PENDING.SOURCE, Reg.POWER_STATE.WAKE_SRC, Reg.POWER_STATE.WAKE_TRIES, Reg.TIME_STATUS.SLEWING, Reg.TIME_SLEW_REMAIN.VALUE]
theorem execWakeNEvent_effect (p0 : Bool) (p1 : Bool) (p2 : Nat) (s : State) :
    ∃ n, execWakeNEvent p0 p1 p2 s = .next n ∧ Effect execWakeNEvent_touch execWakeNEvent_fields s n := by
  unfold execWakeNEvent done
  refine ⟨_, rfl, ?_⟩
  refine Effect.after (State.settle_effect ..) (by decide +kernel) ?_
  refine Effect.after (State.wakeN_effect ..) (by decide +kernel) ?_
  refine Effect.after (State.elapse_effect ..) (by decide +kernel) ?_
  exact Effect.refl _ _ _

def execCallupLoop_touch : List Part := [.time, .faults, .host, .fr, .lanes, .chains, .out]
def execCallupLoop_fields : Option (List Field) := some [Reg.HOST_IRQ_PENDING.SOURCE, Reg.COLLECT_STATUS_LO.STATUS, Reg.COLLECT_STATUS_HI.STATUS, Reg.FAULT_COUNT_CORR.COUNT, Reg.FAULT_COUNT_CONT.COUNT, Reg.FAULT_COUNT_FATAL.COUNT, Reg.FAULT_EVENT.CORRECTED, Reg.FAULT_EVENT.CONTAINED, Reg.FAULT_EVENT.FATAL, Reg.FAULT_EVENT.HIST_LOST, Reg.FAULT_HIST_STATUS.LOST, Reg.TIME_STATUS.SLEWING, Reg.TIME_SLEW_REMAIN.VALUE, Reg.LANE_STATUS.CHAIN_LATE, Reg.LANE_STATUS.SERVED, Reg.LANE_STATUS.FIRST_Q, Reg.LANE_CHAIN.PHYS, Reg.LANE_CHAIN.LOOPED, Reg.LANE_UPBASE.U, Reg.LANE_BUDGET.DELIVERY, Reg.LANE_BUDGET.COMPLETION, Reg.LANE_LOOP.LOOP_NS, Reg.LANE_EVENT.CHAIN_LATE, Reg.LANE_EVENT.UNROSTERED, Reg.CELL_UNROSTERED_LO.CHAINS, Reg.CELL_UNROSTERED_HI.CHAINS, Reg.CELL_EVENT.UNROSTERED]
theorem execCallupLoop_effect (p0 : Fin 96) (p1 : Nat) (p2 : Nat) (p3 : Nat) (s : State) :
    ∃ n, execCallupLoop p0 p1 p2 p3 s = .next n ∧ Effect execCallupLoop_touch execCallupLoop_fields s n := by
  unfold execCallupLoop done
  refine ⟨_, rfl, ?_⟩
  refine Effect.after (State.settle_effect ..) (by decide +kernel) ?_
  refine Effect.after (State.callupLoop_effect ..) (by decide +kernel) ?_
  refine Effect.after (State.elapse_effect ..) (by decide +kernel) ?_
  exact Effect.refl _ _ _

def execBackgroundDispatch_touch : List Part := [.time, .power, .host, .load, .fr, .engs, .referee, .out]
def execBackgroundDispatch_fields : Option (List Field) := some [Reg.DOMAIN_STATE.PLANE_A, Reg.DOMAIN_STATE.PLANE_B, Reg.HOST_IRQ_PENDING.SOURCE, Reg.POWER_PGOOD.PGOOD, Reg.REF_STATUS.STATE, Reg.REF_STATUS.ROLE_A, Reg.REF_STATUS.ROLE_B, Reg.REF_HT_STATUS.OUTCOME, Reg.REF_EVENT.CANCEL, Reg.REF_EVENT.UNFIT, Reg.TRK_STATUS.CTRL_HIWATER, Reg.PLAN_BG_STATUS.STOPPED_BY, Reg.PLAN_BG_STATUS.SHARE, Reg.ENG_STATUS.BALL, Reg.ENG_STATUS.SHADOW, Reg.ENG_STATUS.COLD, Reg.ENG_EXPORT.VALUE, Reg.TIME_STATUS.SLEWING, Reg.TIME_SLEW_REMAIN.VALUE]
theorem execBackgroundDispatch_effect (p0 : BgOffer) (p1 : Nat) (s : State) :
    ∃ n, execBackgroundDispatch p0 p1 s = .next n ∧ Effect execBackgroundDispatch_touch execBackgroundDispatch_fields s n := by
  unfold execBackgroundDispatch done
  refine ⟨_, rfl, ?_⟩
  refine Effect.after (State.settle_effect ..) (by decide +kernel) ?_
  refine Effect.after (State.background_effect ..) (by decide +kernel) ?_
  refine Effect.after (State.elapse_effect ..) (by decide +kernel) ?_
  exact Effect.refl _ _ _

def execCanSlotEnd_touch : List Part := [.time, .host, .fr, .canQueues, .cans, .out]
def execCanSlotEnd_fields : Option (List Field) := some [Reg.HOST_IRQ_PENDING.SOURCE, Reg.TIME_STATUS.SLEWING, Reg.TIME_SLEW_REMAIN.VALUE, Reg.CAN_TXQ.FILL, Reg.CAN_EVENT.EVENTS]
theorem execCanSlotEnd_effect (p0 : Fin 4) (p1 : Fin 64) (p2 : Bool) (p3 : Nat) (s : State) :
    ∃ n, execCanSlotEnd p0 p1 p2 p3 s = .next n ∧ Effect execCanSlotEnd_touch execCanSlotEnd_fields s n := by
  unfold execCanSlotEnd done
  refine ⟨_, rfl, ?_⟩
  refine Effect.after (State.settle_effect ..) (by decide +kernel) ?_
  refine Effect.after (State.canSlotEnd_effect ..) (by decide +kernel) ?_
  refine Effect.after (State.elapse_effect ..) (by decide +kernel) ?_
  exact Effect.refl _ _ _

def execHkRoundStart_touch : List Part := [.time, .host, .fr, .adc, .out]
def execHkRoundStart_fields : Option (List Field) := some [Reg.HOST_IRQ_PENDING.SOURCE, Reg.TIME_STATUS.SLEWING, Reg.TIME_SLEW_REMAIN.VALUE]
theorem execHkRoundStart_effect (p0 : Nat) (s : State) :
    ∃ n, execHkRoundStart p0 s = .next n ∧ Effect execHkRoundStart_touch execHkRoundStart_fields s n := by
  unfold execHkRoundStart done
  refine ⟨_, rfl, ?_⟩
  refine Effect.after (State.settle_effect ..) (by decide +kernel) ?_
  refine Effect.after (State.hkStart_effect ..) (by decide +kernel) ?_
  refine Effect.after (State.elapse_effect ..) (by decide +kernel) ?_
  exact Effect.refl _ _ _

def execCanQueue_touch : List Part := [.host, .canQueues, .out]
def execCanQueue_fields : Option (List Field) := some [Reg.HOST_IRQ_PENDING.SOURCE, Reg.CAN_TXQ.FILL]
theorem execCanQueue_effect (p0 : List Byte) (p1 : Nat) (p2 : Nat) (s : State) :
    ∃ n, execCanQueue p0 p1 p2 s = .next n ∧ Effect execCanQueue_touch execCanQueue_fields s n := by
  unfold execCanQueue done
  refine ⟨_, rfl, ?_⟩
  refine Effect.after (State.settle_effect ..) (by decide +kernel) ?_
  refine Effect.after (State.cmdCanQueue_effect ..) (by decide +kernel) ?_
  exact Effect.refl _ _ _

def execCanRxAck_touch : List Part := [.host, .out]
def execCanRxAck_fields : Option (List Field) := some [Reg.HOST_IRQ_PENDING.SOURCE, Reg.CAN_RX_STATUS.OWNED, Reg.CAN_RX_STATUS.HEAD, Reg.CAN_RX_ID.ID, Reg.CAN_RX_ID.RTR, Reg.CAN_RX_ID.IDE, Reg.CAN_RX_ID.VALID, Reg.CAN_RX_INFO.DLC, Reg.CAN_RX_INFO.FDF, Reg.CAN_RX_INFO.BRS, Reg.CAN_RX_INFO.ESI, Reg.CAN_RX_INFO.LOOP, Reg.CAN_RX_INFO.FILTER, Reg.CAN_RX_INFO.UNFILTERED, Reg.CAN_RX_NS_LO.NS, Reg.CAN_RX_NS_HI.NS, Reg.CAN_RX_FRAME.FRAME, Reg.CAN_RX_DATA0.DATA, Reg.CAN_RX_DATA1.DATA, Reg.CAN_RX_DATA2.DATA, Reg.CAN_RX_DATA3.DATA, Reg.CAN_RX_DATA4.DATA, Reg.CAN_RX_DATA5.DATA, Reg.CAN_RX_DATA6.DATA, Reg.CAN_RX_DATA7.DATA, Reg.CAN_RX_DATA8.DATA, Reg.CAN_RX_DATA9.DATA, Reg.CAN_RX_DATA10.DATA, Reg.CAN_RX_DATA11.DATA, Reg.CAN_RX_DATA12.DATA, Reg.CAN_RX_DATA13.DATA, Reg.CAN_RX_DATA14.DATA, Reg.CAN_RX_DATA15.DATA]
theorem execCanRxAck_effect (p0 : Fin 4) (p1 : Nat) (s : State) :
    ∃ n, execCanRxAck p0 p1 s = .next n ∧ Effect execCanRxAck_touch execCanRxAck_fields s n := by
  unfold execCanRxAck done
  refine ⟨_, rfl, ?_⟩
  refine Effect.after (State.settle_effect ..) (by decide +kernel) ?_
  refine Effect.after (State.canAck_effect ..) (by decide +kernel) ?_
  exact Effect.refl _ _ _

def execCatchTimeout_touch : List Part := [.time, .faults, .host, .fr, .drives, .motors, .out]
def execCatchTimeout_fields : Option (List Field) := some [Reg.HOST_IRQ_PENDING.SOURCE, Reg.COLLECT_STATUS_LO.STATUS, Reg.COLLECT_STATUS_HI.STATUS, Reg.FAULT_COUNT_CORR.COUNT, Reg.FAULT_COUNT_CONT.COUNT, Reg.FAULT_COUNT_FATAL.COUNT, Reg.FAULT_EVENT.CORRECTED, Reg.FAULT_EVENT.CONTAINED, Reg.FAULT_EVENT.FATAL, Reg.FAULT_EVENT.HIST_LOST, Reg.FAULT_HIST_STATUS.LOST, Reg.TIME_STATUS.SLEWING, Reg.TIME_SLEW_REMAIN.VALUE, Reg.DRV_STATUS.LEG_FAULT, Reg.DRV_CARRIER_ACT.TOP, Reg.DRV_LEG_STATUS.CMP_ACT, Reg.DRV_LEG_STATUS.DESAT_HS, Reg.DRV_LEG_STATUS.DESAT_LS, Reg.DRV_LEG_STATUS.INSTANT, Reg.DRV_LEG_STATUS.VB_UV, Reg.DRV_LEG_STATUS.GATES_OFF, Reg.DRV_LEG_STATUS.MODE_ACT, Reg.MOT_STATE.STATE, Reg.MOT_COUNT.CATCH_FAIL, Reg.MOT_EVENT.STATE, Reg.MOT_EVENT.OBS_LOST, Reg.MOT_EVENT.CATCH_FAIL]
theorem execCatchTimeout_effect (p0 : Fin 4) (p1 : Nat) (s : State) :
    ∃ n, execCatchTimeout p0 p1 s = .next n ∧ Effect execCatchTimeout_touch execCatchTimeout_fields s n := by
  unfold execCatchTimeout done
  refine ⟨_, rfl, ?_⟩
  refine Effect.after (State.settle_effect ..) (by decide +kernel) ?_
  refine Effect.after (State.catchTimeout_effect ..) (by decide +kernel) ?_
  refine Effect.after (State.drvElapse_effect ..) (by decide +kernel) ?_
  exact Effect.refl _ _ _

def execBarrierLinkLost_touch : List Part := [.time, .host, .fr, .drives, .out]
def execBarrierLinkLost_fields : Option (List Field) := some [Reg.DOMAIN_STATE.DRV_LINK, Reg.HOST_IRQ_PENDING.SOURCE, Reg.TIME_STATUS.SLEWING, Reg.TIME_SLEW_REMAIN.VALUE, Reg.DRV_STATUS.LINK, Reg.DRV_STATUS.LEG_FAULT, Reg.DRV_LEG_STATUS.DESAT_HS, Reg.DRV_LEG_STATUS.DESAT_LS, Reg.DRV_LEG_STATUS.INSTANT, Reg.DRV_LEG_STATUS.VB_UV, Reg.DRV_LEG_STATUS.GATES_OFF, Reg.DRV_EVENT.LINK]
theorem execBarrierLinkLost_effect (p0 : Fin 4) (p1 : Nat) (s : State) :
    ∃ n, execBarrierLinkLost p0 p1 s = .next n ∧ Effect execBarrierLinkLost_touch execBarrierLinkLost_fields s n := by
  unfold execBarrierLinkLost done
  refine ⟨_, rfl, ?_⟩
  refine Effect.after (State.settle_effect ..) (by decide +kernel) ?_
  refine Effect.after (State.linkLost_effect ..) (by decide +kernel) ?_
  refine Effect.after (State.drvElapse_effect ..) (by decide +kernel) ?_
  exact Effect.refl _ _ _

def execSplit64LowRead_touch : List Part := [.hold, .time, .host, .fr, .out]
def execSplit64LowRead_fields : Option (List Field) := some [Reg.HOST_IRQ_PENDING.SOURCE, Reg.TIME_STATUS.SLEWING, Reg.TIME_SLEW_REMAIN.VALUE]
theorem execSplit64LowRead_effect (p0 : RegRead) (p1 : Nat) (s : State) :
    ∃ n, execSplit64LowRead p0 p1 s = .next n ∧ Effect execSplit64LowRead_touch execSplit64LowRead_fields s n := by
  unfold execSplit64LowRead done
  refine ⟨_, rfl, ?_⟩
  refine Effect.after (State.settle_effect ..) (by decide +kernel) ?_
  refine Effect.ite ?_ ?_
  · refine Effect.after (State.splitRead_effect ..) (by decide +kernel) ?_
    refine Effect.after (State.elapse_effect ..) (by decide +kernel) ?_
    exact Effect.refl _ _ _
  · refine Effect.after (State.elapse_effect ..) (by decide +kernel) ?_
    exact Effect.refl _ _ _

def execBbPhyOff_touch : List Part := [.time, .power, .host, .fr, .out]
def execBbPhyOff_fields : Option (List Field) := some [Reg.HOST_IRQ_PENDING.SOURCE, Reg.POWER_DOMAIN_CTRL.BB_PHY_OFF, Reg.POWER_ENTRY_STATUS.RESULT, Reg.POWER_ENTRY_STATUS.DOMAIN, Reg.POWER_ENTRY_STATUS.RETRIES, Reg.TIME_STATUS.SLEWING, Reg.TIME_SLEW_REMAIN.VALUE]
theorem execBbPhyOff_effect (p0 : Bool) (p1 : Nat) (s : State) :
    ∃ n, execBbPhyOff p0 p1 s = .next n ∧ Effect execBbPhyOff_touch execBbPhyOff_fields s n := by
  unfold execBbPhyOff done
  refine ⟨_, rfl, ?_⟩
  refine Effect.after (State.settle_effect ..) (by decide +kernel) ?_
  refine Effect.after (State.bbOffWrite_effect ..) (by decide +kernel) ?_
  refine Effect.after (State.elapse_effect ..) (by decide +kernel) ?_
  exact Effect.refl _ _ _

def execSafeLinkSilence_touch : List Part := [.time, .faults, .host, .fr, .convs, .safety, .out]
def execSafeLinkSilence_fields : Option (List Field) := some [Reg.HOST_IRQ_PENDING.SOURCE, Reg.COLLECT_STATUS_LO.STATUS, Reg.COLLECT_STATUS_HI.STATUS, Reg.FAULT_COUNT_CORR.COUNT, Reg.FAULT_COUNT_CONT.COUNT, Reg.FAULT_COUNT_FATAL.COUNT, Reg.FAULT_EVENT.CORRECTED, Reg.FAULT_EVENT.CONTAINED, Reg.FAULT_EVENT.FATAL, Reg.FAULT_EVENT.HIST_LOST, Reg.FAULT_HIST_STATUS.LOST, Reg.SAFE_STATUS.A_OK, Reg.SAFE_STATUS.B_OK, Reg.SAFE_STATUS.DIAG, Reg.SAFE_STATUS.DIAG_CAUSE, Reg.SAFE_STATUS.RESET_PIN, Reg.SAFE_STATUS.DEMAND, Reg.SAFE_STATUS.LOCKED, Reg.SAFE_STATUS.DIAG_A, Reg.SAFE_STATUS.DIAG_B, Reg.SAFE_GROUP.STATE, Reg.SAFE_GROUP.KIND, Reg.SAFE_GROUP.STOP, Reg.SAFE_GROUP.CAUSE, Reg.SAFE_GROUP.PAIRS, Reg.SAFE_PAIR.CH_A, Reg.SAFE_PAIR.CH_B, Reg.SAFE_PAIR.DEMAND, Reg.SAFE_PAIR.PAIR_FAULT, Reg.SAFE_PAIR.FAULT_CAUSE, Reg.SAFE_PAIR.DEMANDS, Reg.SAFE_TPO.EN, Reg.SAFE_TPO.READBACK_FAULT, Reg.SAFE_FIRE.FIRE_A, Reg.SAFE_FIRE.FIRE_B, Reg.SAFE_FIRE.DRV_A, Reg.SAFE_FIRE.DRV_B, Reg.SAFE_RESET_STATUS.ARMED, Reg.SAFE_RESET_STATUS.RELEASED, Reg.SAFE_RESET_STATUS.REFUSED, Reg.SAFE_EVENT.DEMAND, Reg.SAFE_EVENT.STOPPING, Reg.SAFE_EVENT.REMOVED, Reg.SAFE_EVENT.DIAG, Reg.SAFE_EVENT.RESET_REFUSED, Reg.TIME_STATUS.SLEWING, Reg.TIME_SLEW_REMAIN.VALUE]
theorem execSafeLinkSilence_effect (p0 : Fin 2) (p1 : Nat) (s : State) :
    ∃ n, execSafeLinkSilence p0 p1 s = .next n ∧ Effect execSafeLinkSilence_touch execSafeLinkSilence_fields s n := by
  unfold execSafeLinkSilence done
  refine ⟨_, rfl, ?_⟩
  refine Effect.after (State.settle_effect ..) (by decide +kernel) ?_
  refine Effect.after (State.linkSilence_effect ..) (by decide +kernel) ?_
  refine Effect.after (State.elapse_effect ..) (by decide +kernel) ?_
  exact Effect.refl _ _ _

def execWakeTimeout_touch : List Part := [.hold, .wrHold, .time, .power, .faults, .host, .load, .cfg, .fr, .images, .lanes, .chains, .cells, .arms, .engs, .convs, .referee, .pair, .journal, .adc, .drives, .motors, .safety, .eths, .canQueues, .cans, .out]
def execWakeTimeout_fields : Option (List Field) := none
theorem execWakeTimeout_effect (p0 : Fin 4) (p1 : Nat) (p2 : Nat) (s : State) :
    ∃ n, execWakeTimeout p0 p1 p2 s = .next n ∧ Effect execWakeTimeout_touch execWakeTimeout_fields s n := by
  unfold execWakeTimeout done
  refine ⟨_, rfl, ?_⟩
  refine Effect.after (State.settle_effect ..) (by decide +kernel) ?_
  refine Effect.after (State.wakeTimeout_effect ..) (by decide +kernel) ?_
  refine Effect.after (State.elapse_effect ..) (by decide +kernel) ?_
  exact Effect.refl _ _ _

def execJrnCmd_touch : List Part := [.time, .host, .fr, .pair, .journal, .out]
def execJrnCmd_fields : Option (List Field) := some [Reg.HOST_IRQ_PENDING.SOURCE, Reg.JRN_REFUSE.GAP, Reg.JRN_REFUSE.REPEATED, Reg.JRN_BUSY.BUSY, Reg.JRN_BUSY.OTHER, Reg.JRN_EVENT.FULL, Reg.JRN_CPL_TAIL.INDEX, Reg.JRN_RING_STATUS.PHASE, Reg.TIME_STATUS.SLEWING, Reg.TIME_SLEW_REMAIN.VALUE, Reg.BB_STATUS.TX_IDLE, Reg.BB_COUNT.DENIED]
theorem execJrnCmd_effect (p0 : Fin 4) (p1 : Nat) (p2 : List Byte) (p3 : Nat) (s : State) :
    ∃ n, execJrnCmd p0 p1 p2 p3 s = .next n ∧ Effect execJrnCmd_touch execJrnCmd_fields s n := by
  unfold execJrnCmd done
  refine ⟨_, rfl, ?_⟩
  refine Effect.after (State.settle_effect ..) (by decide +kernel) ?_
  refine Effect.after (State.bbJournal_effect ..) (by decide +kernel) ?_
  refine Effect.after (State.elapse_effect ..) (by decide +kernel) ?_
  exact Effect.refl _ _ _

def execPpsLost_touch : List Part := [.time, .host, .fr, .out]
def execPpsLost_fields : Option (List Field) := some [Reg.HOST_IRQ_PENDING.SOURCE, Reg.TIME_STATUS.SYNC, Reg.TIME_STATUS.SERVO_LOCK, Reg.TIME_STATUS.PPS_LOST, Reg.TIME_STATUS.SLEWING, Reg.TIME_SLEW_REMAIN.VALUE, Reg.TIME_EVENT.EVENTS]
theorem execPpsLost_effect (p0 : Nat) (s : State) :
    ∃ n, execPpsLost p0 s = .next n ∧ Effect execPpsLost_touch execPpsLost_fields s n := by
  unfold execPpsLost done
  refine ⟨_, rfl, ?_⟩
  refine Effect.after (State.settle_effect ..) (by decide +kernel) ?_
  refine Effect.after (State.ppsLost_effect ..) (by decide +kernel) ?_
  refine Effect.after (State.elapse_effect ..) (by decide +kernel) ?_
  exact Effect.refl _ _ _

def execCellFaultClear_touch : List Part := [.host, .cells, .out]
def execCellFaultClear_fields : Option (List Field) := some [Reg.HOST_IRQ_PENDING.SOURCE, Reg.CELL_FAULT.SEEN]
theorem execCellFaultClear_effect (p0 : Nat) (s : State) :
    ∃ n, execCellFaultClear p0 s = .next n ∧ Effect execCellFaultClear_touch execCellFaultClear_fields s n := by
  unfold execCellFaultClear done
  refine ⟨_, rfl, ?_⟩
  refine Effect.after (State.settle_effect ..) (by decide +kernel) ?_
  refine Effect.after (State.cellFaultClear_effect ..) (by decide +kernel) ?_
  exact Effect.refl _ _ _

def execPlannerStepDown_touch : List Part := [.time, .host, .fr, .out]
def execPlannerStepDown_fields : Option (List Field) := some [Reg.HOST_IRQ_PENDING.SOURCE, Reg.TIME_STATUS.SLEWING, Reg.TIME_SLEW_REMAIN.VALUE]
theorem execPlannerStepDown_effect (p0 : Nat) (s : State) :
    ∃ n, execPlannerStepDown p0 s = .next n ∧ Effect execPlannerStepDown_touch execPlannerStepDown_fields s n := by
  unfold execPlannerStepDown done
  refine ⟨_, rfl, ?_⟩
  refine Effect.after (State.settle_effect ..) (by decide +kernel) ?_
  refine Effect.after (State.stepDown_effect ..) (by decide +kernel) ?_
  refine Effect.after (State.elapse_effect ..) (by decide +kernel) ?_
  exact Effect.refl _ _ _

def execSafeDiscrepancy_touch : List Part := [.time, .host, .fr, .convs, .safety, .out]
def execSafeDiscrepancy_fields : Option (List Field) := some [Reg.HOST_IRQ_PENDING.SOURCE, Reg.SAFE_STATUS.A_OK, Reg.SAFE_STATUS.B_OK, Reg.SAFE_STATUS.DIAG, Reg.SAFE_STATUS.DIAG_CAUSE, Reg.SAFE_STATUS.RESET_PIN, Reg.SAFE_STATUS.DEMAND, Reg.SAFE_STATUS.LOCKED, Reg.SAFE_STATUS.DIAG_A, Reg.SAFE_STATUS.DIAG_B, Reg.SAFE_GROUP.STATE, Reg.SAFE_GROUP.KIND, Reg.SAFE_GROUP.STOP, Reg.SAFE_GROUP.CAUSE, Reg.SAFE_GROUP.PAIRS, Reg.SAFE_PAIR.CH_A, Reg.SAFE_PAIR.CH_B, Reg.SAFE_PAIR.DEMAND, Reg.SAFE_PAIR.PAIR_FAULT, Reg.SAFE_PAIR.FAULT_CAUSE, Reg.SAFE_PAIR.DEMANDS, Reg.SAFE_TPO.EN, Reg.SAFE_TPO.READBACK_FAULT, Reg.SAFE_FIRE.FIRE_A, Reg.SAFE_FIRE.FIRE_B, Reg.SAFE_FIRE.DRV_A, Reg.SAFE_FIRE.DRV_B, Reg.SAFE_RESET_STATUS.ARMED, Reg.SAFE_RESET_STATUS.RELEASED, Reg.SAFE_RESET_STATUS.REFUSED, Reg.SAFE_EVENT.DEMAND, Reg.SAFE_EVENT.STOPPING, Reg.SAFE_EVENT.REMOVED, Reg.SAFE_EVENT.PAIR_FAULT, Reg.SAFE_EVENT.RESET_REFUSED, Reg.TIME_STATUS.SLEWING, Reg.TIME_SLEW_REMAIN.VALUE]
theorem execSafeDiscrepancy_effect (p0 : Fin 2) (p1 : Fin 8) (p2 : Nat) (s : State) :
    ∃ n, execSafeDiscrepancy p0 p1 p2 s = .next n ∧ Effect execSafeDiscrepancy_touch execSafeDiscrepancy_fields s n := by
  unfold execSafeDiscrepancy done
  refine ⟨_, rfl, ?_⟩
  refine Effect.after (State.settle_effect ..) (by decide +kernel) ?_
  refine Effect.after (State.discrepancy_effect ..) (by decide +kernel) ?_
  refine Effect.after (State.elapse_effect ..) (by decide +kernel) ?_
  exact Effect.refl _ _ _

def execImagePacket_touch : List Part := [.time, .power, .host, .load, .fr, .out]
def execImagePacket_fields : Option (List Field) := some [Reg.HOST_IRQ_PENDING.SOURCE, Reg.FRAME_STATUS.RUNNING, Reg.IMAGE_STATUS.STATE, Reg.IMAGE_STATUS.SOURCE, Reg.IMAGE_STATUS.CODE, Reg.IMAGE_ERR_SECTION.INDEX, Reg.IMAGE_ERR_SECTION.TYPE, Reg.IMAGE_ERR_OFFSET.OFFSET, Reg.IMAGE_PRIMARY_CODE.CODE, Reg.IMAGE_EVENT.DONE, Reg.TIME_STATUS.SLEWING, Reg.TIME_SLEW_REMAIN.VALUE, Reg.BB_COUNT.DENIED]
theorem execImagePacket_effect (p0 : Fin 4) (p1 : Nat) (p2 : List Byte) (p3 : Nat) (s : State) :
    ∃ n, execImagePacket p0 p1 p2 p3 s = .next n ∧ Effect execImagePacket_touch execImagePacket_fields s n := by
  unfold execImagePacket done
  refine ⟨_, rfl, ?_⟩
  refine Effect.after (State.settle_effect ..) (by decide +kernel) ?_
  refine Effect.after (State.imagePacket_effect ..) (by decide +kernel) ?_
  refine Effect.after (State.elapse_effect ..) (by decide +kernel) ?_
  exact Effect.refl _ _ _

def execCanTxeRead_touch : List Part := [.host, .cans, .out]
def execCanTxeRead_fields : Option (List Field) := some [Reg.HOST_IRQ_PENDING.SOURCE, Reg.CAN_TXE0.RECORD, Reg.CAN_TXE1.RECORD, Reg.CAN_TXE2.RECORD, Reg.CAN_TXE_STATUS.COUNT]
theorem execCanTxeRead_effect (p0 : Fin 4) (s : State) :
    ∃ n, execCanTxeRead p0 s = .next n ∧ Effect execCanTxeRead_touch execCanTxeRead_fields s n := by
  unfold execCanTxeRead done
  refine ⟨_, rfl, ?_⟩
  refine Effect.after (State.settle_effect ..) (by decide +kernel) ?_
  refine Effect.after (State.canTxeRead_effect ..) (by decide +kernel) ?_
  exact Effect.refl _ _ _

def execSafeStopTimer_touch : List Part := [.time, .host, .fr, .convs, .safety, .out]
def execSafeStopTimer_fields : Option (List Field) := some [Reg.HOST_IRQ_PENDING.SOURCE, Reg.SAFE_STATUS.A_OK, Reg.SAFE_STATUS.B_OK, Reg.SAFE_STATUS.DIAG, Reg.SAFE_STATUS.DIAG_CAUSE, Reg.SAFE_STATUS.RESET_PIN, Reg.SAFE_STATUS.DEMAND, Reg.SAFE_STATUS.LOCKED, Reg.SAFE_STATUS.DIAG_A, Reg.SAFE_STATUS.DIAG_B, Reg.SAFE_GROUP.STATE, Reg.SAFE_GROUP.KIND, Reg.SAFE_GROUP.STOP, Reg.SAFE_GROUP.CAUSE, Reg.SAFE_GROUP.PAIRS, Reg.SAFE_PAIR.CH_A, Reg.SAFE_PAIR.CH_B, Reg.SAFE_PAIR.DEMAND, Reg.SAFE_PAIR.PAIR_FAULT, Reg.SAFE_PAIR.FAULT_CAUSE, Reg.SAFE_PAIR.DEMANDS, Reg.SAFE_TPO.EN, Reg.SAFE_TPO.READBACK_FAULT, Reg.SAFE_FIRE.FIRE_A, Reg.SAFE_FIRE.FIRE_B, Reg.SAFE_FIRE.DRV_A, Reg.SAFE_FIRE.DRV_B, Reg.SAFE_RESET_STATUS.ARMED, Reg.SAFE_EVENT.REMOVED, Reg.TIME_STATUS.SLEWING, Reg.TIME_SLEW_REMAIN.VALUE]
theorem execSafeStopTimer_effect (p0 : Fin 2) (p1 : Fin 8) (p2 : Nat) (s : State) :
    ∃ n, execSafeStopTimer p0 p1 p2 s = .next n ∧ Effect execSafeStopTimer_touch execSafeStopTimer_fields s n := by
  unfold execSafeStopTimer done
  refine ⟨_, rfl, ?_⟩
  refine Effect.after (State.settle_effect ..) (by decide +kernel) ?_
  refine Effect.after (State.stopTimer_effect ..) (by decide +kernel) ?_
  refine Effect.after (State.elapse_effect ..) (by decide +kernel) ?_
  exact Effect.refl _ _ _

def execSafeInputChange_touch : List Part := [.time, .host, .fr, .safety, .out]
def execSafeInputChange_fields : Option (List Field) := some [Reg.HOST_IRQ_PENDING.SOURCE, Reg.TIME_STATUS.SLEWING, Reg.TIME_SLEW_REMAIN.VALUE]
theorem execSafeInputChange_effect (p0 : Fin 2) (p1 : Fin 16) (p2 : Bool) (p3 : Nat) (s : State) :
    ∃ n, execSafeInputChange p0 p1 p2 p3 s = .next n ∧ Effect execSafeInputChange_touch execSafeInputChange_fields s n := by
  unfold execSafeInputChange done
  refine ⟨_, rfl, ?_⟩
  refine Effect.after (State.settle_effect ..) (by decide +kernel) ?_
  refine Effect.after (State.inputChange_effect ..) (by decide +kernel) ?_
  refine Effect.after (State.elapse_effect ..) (by decide +kernel) ?_
  exact Effect.refl _ _ _

def execKickoffGrant_touch : List Part := [.time, .power, .faults, .host, .fr, .lanes, .chains, .cells, .arms, .engs, .convs, .referee, .safety, .out]
def execKickoffGrant_fields : Option (List Field) := some [Reg.DOMAIN_STATE.PLANE_A, Reg.DOMAIN_STATE.PLANE_B, Reg.CONV_STATE.STATE, Reg.CONV_STATE.CAUSE, Reg.CONV_STATE.SLEWING, Reg.CONV_STATE_FRAME.FRAME, Reg.CONV_RESIDUAL.E, Reg.CONV_COUNT.BLOCKS, Reg.CONV_EVENT.BLOCK, Reg.CONV_EVENT.RESYNC_FAIL, Reg.CONV_EVENT.COAST_LIMIT, Reg.CONV_EVENT_SRC.CONV, Reg.HOST_IRQ_PENDING.SOURCE, Reg.POWER_STATE.STATE, Reg.POWER_PGOOD.PGOOD, Reg.COLLECT_STATUS_LO.STATUS, Reg.COLLECT_STATUS_HI.STATUS, Reg.FAULT_COUNT_CORR.COUNT, Reg.FAULT_COUNT_CONT.COUNT, Reg.FAULT_COUNT_FATAL.COUNT, Reg.FAULT_EVENT.CORRECTED, Reg.FAULT_EVENT.CONTAINED, Reg.FAULT_EVENT.FATAL, Reg.FAULT_EVENT.HIST_LOST, Reg.FAULT_HIST_STATUS.LOST, Reg.REF_STATUS.STATE, Reg.REF_STATUS.HOLDER, Reg.REF_STATUS.ROLE_A, Reg.REF_STATUS.ROLE_B, Reg.REF_STATUS.LEASE, Reg.REF_EVENT.UNFIT, Reg.PLAN_LEVEL.STATIC, Reg.PLAN_FORECAST.ENG_NEED, Reg.PLAN_FORECAST.FAB_NEED, Reg.SAFE_STATUS.A_OK, Reg.SAFE_STATUS.B_OK, Reg.SAFE_STATUS.DIAG, Reg.SAFE_STATUS.DIAG_CAUSE, Reg.SAFE_STATUS.RESET_PIN, Reg.SAFE_STATUS.DEMAND, Reg.SAFE_STATUS.LOCKED, Reg.SAFE_STATUS.DIAG_A, Reg.SAFE_STATUS.DIAG_B, Reg.SAFE_GROUP.STATE, Reg.SAFE_GROUP.KIND, Reg.SAFE_GROUP.STOP, Reg.SAFE_GROUP.CAUSE, Reg.SAFE_GROUP.PAIRS, Reg.SAFE_PAIR.CH_A, Reg.SAFE_PAIR.CH_B, Reg.SAFE_PAIR.DEMAND, Reg.SAFE_PAIR.PAIR_FAULT, Reg.SAFE_PAIR.FAULT_CAUSE, Reg.SAFE_PAIR.DEMANDS, Reg.SAFE_TPO.EN, Reg.SAFE_TPO.READBACK_FAULT, Reg.SAFE_FIRE.FIRE_A, Reg.SAFE_FIRE.FIRE_B, Reg.SAFE_FIRE.DRV_A, Reg.SAFE_FIRE.DRV_B, Reg.SAFE_RESET_STATUS.ARMED, Reg.ENG_STATUS.BALL, Reg.ENG_STATUS.SHADOW, Reg.ENG_STATUS.COLD, Reg.ENG_EXPORT.VALUE, Reg.TIME_STATUS.SLEWING, Reg.TIME_SLEW_REMAIN.VALUE, Reg.LANE_STATUS.STATE, Reg.ARM_PTR.PTR]
theorem execKickoffGrant_effect (p0 : Nat) (s : State) :
    ∃ n, execKickoffGrant p0 s = .next n ∧ Effect execKickoffGrant_touch execKickoffGrant_fields s n := by
  unfold execKickoffGrant done
  refine ⟨_, rfl, ?_⟩
  refine Effect.after (State.settle_effect ..) (by decide +kernel) ?_
  refine Effect.after (State.kickoffGrant_effect ..) (by decide +kernel) ?_
  refine Effect.after (State.elapse_effect ..) (by decide +kernel) ?_
  exact Effect.refl _ _ _

def execUplinkSlot_touch : List Part := [.time, .faults, .host, .fr, .lanes, .cells, .out]
def execUplinkSlot_fields : Option (List Field) := some [Reg.HOST_IRQ_PENDING.SOURCE, Reg.COLLECT_STATUS_LO.STATUS, Reg.COLLECT_STATUS_HI.STATUS, Reg.FAULT_COUNT_CORR.COUNT, Reg.FAULT_COUNT_CONT.COUNT, Reg.FAULT_COUNT_FATAL.COUNT, Reg.FAULT_EVENT.CORRECTED, Reg.FAULT_EVENT.CONTAINED, Reg.FAULT_EVENT.FATAL, Reg.FAULT_EVENT.HIST_LOST, Reg.FAULT_HIST_STATUS.LOST, Reg.STALE_COUNT.LATE, Reg.DUP_COUNT.DUP, Reg.DUP_COUNT.OLD, Reg.TIME_STATUS.SLEWING, Reg.TIME_SLEW_REMAIN.VALUE, Reg.LANE_STATUS.CHAIN_LATE, Reg.LANE_CRC32_ERR.SLOT, Reg.LANE_CODE_ERR.POS, Reg.LANE_LATE.SLOTS, Reg.LANE_LATE.FRAMES, Reg.LANE_EVENT.CHAIN_LATE]
theorem execUplinkSlot_effect (p0 : Fin 96) (p1 : Nat) (p2 : List Byte) (s : State) :
    ∃ n, execUplinkSlot p0 p1 p2 s = .next n ∧ Effect execUplinkSlot_touch execUplinkSlot_fields s n := by
  unfold execUplinkSlot done
  refine ⟨_, rfl, ?_⟩
  refine Effect.after (State.settle_effect ..) (by decide +kernel) ?_
  refine Effect.after (State.uplinkSlot_effect ..) (by decide +kernel) ?_
  refine Effect.after (State.elapse_effect ..) (by decide +kernel) ?_
  exact Effect.refl _ _ _

def execEventRegisterWrite_touch : List Part := [.hold, .wrHold, .time, .power, .faults, .host, .load, .cfg, .fr, .images, .lanes, .chains, .cells, .arms, .engs, .convs, .referee, .pair, .journal, .adc, .drives, .motors, .safety, .eths, .canQueues, .cans, .out, .drawn]
def execEventRegisterWrite_fields : Option (List Field) := none
theorem execEventRegisterWrite_effect (p0 : Nat) (p1 : Nat) (s : State) :
    ∃ n, execEventRegisterWrite p0 p1 s = .next n ∧ Effect execEventRegisterWrite_touch execEventRegisterWrite_fields s n := by
  unfold execEventRegisterWrite done
  refine ⟨_, rfl, ?_⟩
  refine Effect.after (State.settle_effect ..) (by decide +kernel) ?_
  refine Effect.ite ?_ ?_
  · refine Effect.after (State.hostWrite_effect ..) (by decide +kernel) ?_
    exact Effect.refl _ _ _
  · exact Effect.refl _ _ _

def execThermalShedStep_touch : List Part := [.hold, .wrHold, .time, .power, .faults, .host, .load, .cfg, .fr, .images, .lanes, .chains, .cells, .arms, .engs, .convs, .referee, .pair, .journal, .adc, .drives, .motors, .safety, .eths, .canQueues, .cans, .out]
def execThermalShedStep_fields : Option (List Field) := none
theorem execThermalShedStep_effect (p0 : Nat) (s : State) :
    ∃ n, execThermalShedStep p0 s = .next n ∧ Effect execThermalShedStep_touch execThermalShedStep_fields s n := by
  unfold execThermalShedStep done
  refine ⟨_, rfl, ?_⟩
  refine Effect.after (State.settle_effect ..) (by decide +kernel) ?_
  refine Effect.after (State.thermalStep_effect ..) (by decide +kernel) ?_
  refine Effect.after (State.elapse_effect ..) (by decide +kernel) ?_
  exact Effect.refl _ _ _

def execStartFail_touch : List Part := [.time, .faults, .host, .fr, .drives, .motors, .out]
def execStartFail_fields : Option (List Field) := some [Reg.HOST_IRQ_PENDING.SOURCE, Reg.COLLECT_STATUS_LO.STATUS, Reg.COLLECT_STATUS_HI.STATUS, Reg.FAULT_COUNT_CORR.COUNT, Reg.FAULT_COUNT_CONT.COUNT, Reg.FAULT_COUNT_FATAL.COUNT, Reg.FAULT_EVENT.CORRECTED, Reg.FAULT_EVENT.CONTAINED, Reg.FAULT_EVENT.FATAL, Reg.FAULT_EVENT.HIST_LOST, Reg.FAULT_HIST_STATUS.LOST, Reg.TIME_STATUS.SLEWING, Reg.TIME_SLEW_REMAIN.VALUE, Reg.DRV_STATUS.LEG_FAULT, Reg.DRV_CARRIER_ACT.TOP, Reg.DRV_LEG_STATUS.CMP_ACT, Reg.DRV_LEG_STATUS.DESAT_HS, Reg.DRV_LEG_STATUS.DESAT_LS, Reg.DRV_LEG_STATUS.INSTANT, Reg.DRV_LEG_STATUS.VB_UV, Reg.DRV_LEG_STATUS.GATES_OFF, Reg.DRV_LEG_STATUS.MODE_ACT, Reg.MOT_STATE.STATE, Reg.MOT_COUNT.START_FAIL, Reg.MOT_EVENT.STATE, Reg.MOT_EVENT.OBS_LOST]
theorem execStartFail_effect (p0 : Fin 4) (p1 : Nat) (s : State) :
    ∃ n, execStartFail p0 p1 s = .next n ∧ Effect execStartFail_touch execStartFail_fields s n := by
  unfold execStartFail done
  refine ⟨_, rfl, ?_⟩
  refine Effect.after (State.settle_effect ..) (by decide +kernel) ?_
  refine Effect.after (State.startFail_effect ..) (by decide +kernel) ?_
  refine Effect.after (State.drvElapse_effect ..) (by decide +kernel) ?_
  exact Effect.refl _ _ _

def execThermalLatchClear_touch : List Part := [.time, .host, .fr, .out]
def execThermalLatchClear_fields : Option (List Field) := some [Reg.HOST_IRQ_PENDING.SOURCE, Reg.THERMAL_STATUS.SHUT_LATCH, Reg.FAULT_STATE.FATAL, Reg.TIME_STATUS.SLEWING, Reg.TIME_SLEW_REMAIN.VALUE]
theorem execThermalLatchClear_effect (p0 : Nat) (s : State) :
    ∃ n, execThermalLatchClear p0 s = .next n ∧ Effect execThermalLatchClear_touch execThermalLatchClear_fields s n := by
  unfold execThermalLatchClear done
  refine ⟨_, rfl, ?_⟩
  refine Effect.after (State.settle_effect ..) (by decide +kernel) ?_
  refine Effect.after (State.latchCool_effect ..) (by decide +kernel) ?_
  refine Effect.after (State.elapse_effect ..) (by decide +kernel) ?_
  exact Effect.refl _ _ _

def execCanRxMessage_touch : List Part := [.time, .host, .fr, .cans, .out, .drawn]
def execCanRxMessage_fields : Option (List Field) := some [Reg.HOST_IRQ_PENDING.SOURCE, Reg.TIME_STATUS.SLEWING, Reg.TIME_SLEW_REMAIN.VALUE, Reg.CAN_STATUS.STATE, Reg.CAN_STATUS.WARNING, Reg.CAN_ERRCNT.REC, Reg.CAN_RX_STATUS.OWNED, Reg.CAN_RX_STATUS.OVF, Reg.CAN_RX_STATUS.DROPPED, Reg.CAN_EVENT.EVENTS, Reg.CAN_RX_ID.ID, Reg.CAN_RX_ID.RTR, Reg.CAN_RX_ID.IDE, Reg.CAN_RX_ID.VALID, Reg.CAN_RX_INFO.DLC, Reg.CAN_RX_INFO.FDF, Reg.CAN_RX_INFO.BRS, Reg.CAN_RX_INFO.ESI, Reg.CAN_RX_INFO.LOOP, Reg.CAN_RX_INFO.FILTER, Reg.CAN_RX_INFO.UNFILTERED, Reg.CAN_RX_NS_LO.NS, Reg.CAN_RX_NS_HI.NS, Reg.CAN_RX_FRAME.FRAME, Reg.CAN_RX_DATA0.DATA, Reg.CAN_RX_DATA1.DATA, Reg.CAN_RX_DATA2.DATA, Reg.CAN_RX_DATA3.DATA, Reg.CAN_RX_DATA4.DATA, Reg.CAN_RX_DATA5.DATA, Reg.CAN_RX_DATA6.DATA, Reg.CAN_RX_DATA7.DATA, Reg.CAN_RX_DATA8.DATA, Reg.CAN_RX_DATA9.DATA, Reg.CAN_RX_DATA10.DATA, Reg.CAN_RX_DATA11.DATA, Reg.CAN_RX_DATA12.DATA, Reg.CAN_RX_DATA13.DATA, Reg.CAN_RX_DATA14.DATA, Reg.CAN_RX_DATA15.DATA]
theorem execCanRxMessage_effect (p0 : Fin 4) (p1 : Nat) (p2 : Nat) (p3 : Fin 16) (p4 : List Byte) (p5 : Nat) (p6 : Nat) (p7 : Nat) (s : State) :
    ∃ n, execCanRxMessage p0 p1 p2 p3 p4 p5 p6 p7 s = .next n ∧ Effect execCanRxMessage_touch execCanRxMessage_fields s n := by
  unfold execCanRxMessage done
  refine ⟨_, rfl, ?_⟩
  refine Effect.after (State.settle_effect ..) (by decide +kernel) ?_
  refine Effect.after (State.canMessage_effect ..) (by decide +kernel) ?_
  refine Effect.after (State.elapse_effect ..) (by decide +kernel) ?_
  exact Effect.refl _ _ _

def execHeartbeatLoss_touch : List Part := [.time, .power, .faults, .host, .fr, .cells, .arms, .engs, .convs, .referee, .out]
def execHeartbeatLoss_fields : Option (List Field) := some [Reg.DOMAIN_STATE.PLANE_A, Reg.DOMAIN_STATE.PLANE_B, Reg.CONV_STATE.STATE, Reg.CONV_STATE.CAUSE, Reg.CONV_STATE.SLEWING, Reg.CONV_STATE_FRAME.FRAME, Reg.CONV_RESIDUAL.E, Reg.CONV_COUNT.BLOCKS, Reg.CONV_EVENT.BLOCK, Reg.CONV_EVENT.RESYNC_FAIL, Reg.CONV_EVENT.COAST_LIMIT, Reg.CONV_EVENT_SRC.CONV, Reg.HOST_IRQ_PENDING.SOURCE, Reg.POWER_PGOOD.PGOOD, Reg.COLLECT_STATUS_LO.STATUS, Reg.COLLECT_STATUS_HI.STATUS, Reg.FAULT_COUNT_CORR.COUNT, Reg.FAULT_COUNT_CONT.COUNT, Reg.FAULT_COUNT_FATAL.COUNT, Reg.FAULT_EVENT.CORRECTED, Reg.FAULT_EVENT.CONTAINED, Reg.FAULT_EVENT.FATAL, Reg.FAULT_EVENT.HIST_LOST, Reg.FAULT_HIST_STATUS.LOST, Reg.REF_STATUS.STATE, Reg.REF_STATUS.ROLE_A, Reg.REF_STATUS.ROLE_B, Reg.REF_STATUS.LEASE, Reg.REF_HT_STATUS.OUTCOME, Reg.REF_TAKEOVER.LAST_CAUSE, Reg.REF_EVENT.UNFIT, Reg.ENG_STATUS.BALL, Reg.ENG_STATUS.SHADOW, Reg.ENG_STATUS.COLD, Reg.ENG_EXPORT.VALUE, Reg.TIME_STATUS.SLEWING, Reg.TIME_SLEW_REMAIN.VALUE, Reg.ARM_PTR.PTR]
theorem execHeartbeatLoss_effect (p0 : Fin 2) (p1 : Nat) (s : State) :
    ∃ n, execHeartbeatLoss p0 p1 s = .next n ∧ Effect execHeartbeatLoss_touch execHeartbeatLoss_fields s n := by
  unfold execHeartbeatLoss done
  refine ⟨_, rfl, ?_⟩
  refine Effect.after (State.settle_effect ..) (by decide +kernel) ?_
  refine Effect.after (State.heartbeatLoss_effect ..) (by decide +kernel) ?_
  refine Effect.after (State.elapse_effect ..) (by decide +kernel) ?_
  exact Effect.refl _ _ _

def execLaneSyncLoss_touch : List Part := [.time, .host, .fr, .lanes, .out, .drawn]
def execLaneSyncLoss_fields : Option (List Field) := some [Reg.HOST_IRQ_PENDING.SOURCE, Reg.TIME_STATUS.SLEWING, Reg.TIME_SLEW_REMAIN.VALUE, Reg.LANE_STATUS.STATE, Reg.LANE_STATUS.SYNC, Reg.LANE_CODE_ERR.CODE, Reg.LANE_CODE_ERR.LOS, Reg.LANE_EVENT.LOST]
theorem execLaneSyncLoss_effect (p0 : Fin 96) (p1 : Nat) (s : State) :
    ∃ n, execLaneSyncLoss p0 p1 s = .next n ∧ Effect execLaneSyncLoss_touch execLaneSyncLoss_fields s n := by
  unfold execLaneSyncLoss done
  refine ⟨_, rfl, ?_⟩
  refine Effect.after (State.settle_effect ..) (by decide +kernel) ?_
  refine Effect.after (State.syncLoss_effect ..) (by decide +kernel) ?_
  refine Effect.after (State.elapse_effect ..) (by decide +kernel) ?_
  exact Effect.refl _ _ _

def execFrameClearTracker_touch : List Part := [.host, .out]
def execFrameClearTracker_fields : Option (List Field) := some [Reg.HOST_IRQ_PENDING.SOURCE, Reg.TRK_STATUS.CTRL_HIWATER, Reg.TRK_BP_COUNT.FRAMES, Reg.TRK_TIMEOUT_COUNT.TIMEOUTS]
theorem execFrameClearTracker_effect (s : State) :
    ∃ n, execFrameClearTracker s = .next n ∧ Effect execFrameClearTracker_touch execFrameClearTracker_fields s n := by
  unfold execFrameClearTracker done
  refine ⟨_, rfl, ?_⟩
  refine Effect.after (State.settle_effect ..) (by decide +kernel) ?_
  refine Effect.after (State.clearTracker_effect ..) (by decide +kernel) ?_
  exact Effect.refl _ _ _

def execAdcBurstStart_touch : List Part := [.time, .host, .fr, .adc, .out]
def execAdcBurstStart_fields : Option (List Field) := some [Reg.HOST_IRQ_PENDING.SOURCE, Reg.ADC_CTRL.COMMIT, Reg.ADC_STATUS.BUSY, Reg.ADC_SEQ_BURST.START, Reg.ADC_SEQ_BURST.LENGTH, Reg.TIME_STATUS.SLEWING, Reg.TIME_SLEW_REMAIN.VALUE]
theorem execAdcBurstStart_effect (p0 : Fin 8) (p1 : Nat) (s : State) :
    ∃ n, execAdcBurstStart p0 p1 s = .next n ∧ Effect execAdcBurstStart_touch execAdcBurstStart_fields s n := by
  unfold execAdcBurstStart done
  refine ⟨_, rfl, ?_⟩
  refine Effect.after (State.settle_effect ..) (by decide +kernel) ?_
  refine Effect.after (State.burstStart_effect ..) (by decide +kernel) ?_
  refine Effect.after (State.elapse_effect ..) (by decide +kernel) ?_
  exact Effect.refl _ _ _

def execTpoPulse_touch : List Part := [.time, .host, .fr, .convs, .safety, .out]
def execTpoPulse_fields : Option (List Field) := some [Reg.HOST_IRQ_PENDING.SOURCE, Reg.SAFE_STATUS.A_OK, Reg.SAFE_STATUS.B_OK, Reg.SAFE_STATUS.DIAG, Reg.SAFE_STATUS.DIAG_CAUSE, Reg.SAFE_STATUS.RESET_PIN, Reg.SAFE_STATUS.DEMAND, Reg.SAFE_STATUS.LOCKED, Reg.SAFE_STATUS.DIAG_A, Reg.SAFE_STATUS.DIAG_B, Reg.SAFE_GROUP.STATE, Reg.SAFE_GROUP.KIND, Reg.SAFE_GROUP.STOP, Reg.SAFE_GROUP.CAUSE, Reg.SAFE_GROUP.PAIRS, Reg.SAFE_PAIR.CH_A, Reg.SAFE_PAIR.CH_B, Reg.SAFE_PAIR.DEMAND, Reg.SAFE_PAIR.PAIR_FAULT, Reg.SAFE_PAIR.FAULT_CAUSE, Reg.SAFE_PAIR.DEMANDS, Reg.SAFE_TPO.EN, Reg.SAFE_TPO.READBACK_FAULT, Reg.SAFE_FIRE.FIRE_A, Reg.SAFE_FIRE.FIRE_B, Reg.SAFE_FIRE.DRV_A, Reg.SAFE_FIRE.DRV_B, Reg.SAFE_RESET_STATUS.ARMED, Reg.SAFE_RESET_STATUS.RELEASED, Reg.SAFE_RESET_STATUS.REFUSED, Reg.SAFE_EVENT.DEMAND, Reg.SAFE_EVENT.STOPPING, Reg.SAFE_EVENT.REMOVED, Reg.SAFE_EVENT.PAIR_FAULT, Reg.SAFE_EVENT.RESET_REFUSED, Reg.TIME_STATUS.SLEWING, Reg.TIME_SLEW_REMAIN.VALUE]
theorem execTpoPulse_effect (p0 : Fin 4) (p1 : Bool) (p2 : Bool) (p3 : Bool) (p4 : Nat) (s : State) :
    ∃ n, execTpoPulse p0 p1 p2 p3 p4 s = .next n ∧ Effect execTpoPulse_touch execTpoPulse_fields s n := by
  unfold execTpoPulse done
  refine ⟨_, rfl, ?_⟩
  refine Effect.after (State.settle_effect ..) (by decide +kernel) ?_
  refine Effect.after (State.tpoPulse_effect ..) (by decide +kernel) ?_
  refine Effect.after (State.elapse_effect ..) (by decide +kernel) ?_
  exact Effect.refl _ _ _

def execSpeedSignalLost_touch : List Part := [.time, .host, .fr, .out]
def execSpeedSignalLost_fields : Option (List Field) := some [Reg.HOST_IRQ_PENDING.SOURCE, Reg.TIME_STATUS.SLEWING, Reg.TIME_SLEW_REMAIN.VALUE, Reg.MOT_STATE.SIGNAL_LOST, Reg.MOT_EVENT.SIGNAL_LOST]
theorem execSpeedSignalLost_effect (p0 : Fin 4) (p1 : Nat) (s : State) :
    ∃ n, execSpeedSignalLost p0 p1 s = .next n ∧ Effect execSpeedSignalLost_touch execSpeedSignalLost_fields s n := by
  unfold execSpeedSignalLost done
  refine ⟨_, rfl, ?_⟩
  refine Effect.after (State.settle_effect ..) (by decide +kernel) ?_
  refine Effect.after (State.signalLost_effect ..) (by decide +kernel) ?_
  refine Effect.after (State.elapse_effect ..) (by decide +kernel) ?_
  exact Effect.refl _ _ _

def execVdrvUvlo_touch : List Part := [.time, .power, .faults, .host, .fr, .drives, .motors, .out]
def execVdrvUvlo_fields : Option (List Field) := some [Reg.HOST_IRQ_PENDING.SOURCE, Reg.COLLECT_STATUS_LO.STATUS, Reg.COLLECT_STATUS_HI.STATUS, Reg.FAULT_COUNT_CORR.COUNT, Reg.FAULT_COUNT_CONT.COUNT, Reg.FAULT_COUNT_FATAL.COUNT, Reg.FAULT_EVENT.CORRECTED, Reg.FAULT_EVENT.CONTAINED, Reg.FAULT_EVENT.FATAL, Reg.FAULT_EVENT.HIST_LOST, Reg.FAULT_HIST_STATUS.LOST, Reg.TIME_STATUS.SLEWING, Reg.TIME_SLEW_REMAIN.VALUE, Reg.DRV_STATUS.VDRV_OK, Reg.DRV_STATUS.LEG_FAULT, Reg.DRV_CARRIER_ACT.TOP, Reg.DRV_LEG_STATUS.CMP_ACT, Reg.DRV_LEG_STATUS.DESAT_HS, Reg.DRV_LEG_STATUS.DESAT_LS, Reg.DRV_LEG_STATUS.INSTANT, Reg.DRV_LEG_STATUS.VB_UV, Reg.DRV_LEG_STATUS.UVLO, Reg.DRV_LEG_STATUS.GATES_OFF, Reg.DRV_LEG_STATUS.MODE_ACT, Reg.DRV_EVENT.UVLO, Reg.MOT_STATE.STATE, Reg.MOT_EVENT.STATE, Reg.MOT_EVENT.OBS_LOST]
theorem execVdrvUvlo_effect (p0 : Fin 4) (p1 : Nat) (s : State) :
    ∃ n, execVdrvUvlo p0 p1 s = .next n ∧ Effect execVdrvUvlo_touch execVdrvUvlo_fields s n := by
  unfold execVdrvUvlo done
  refine ⟨_, rfl, ?_⟩
  refine Effect.after (State.settle_effect ..) (by decide +kernel) ?_
  refine Effect.after (State.vdrvUvlo_effect ..) (by decide +kernel) ?_
  refine Effect.after (State.drvElapse_effect ..) (by decide +kernel) ?_
  exact Effect.refl _ _ _

def State.supplyPor_touch : List Part := [.hold, .wrHold, .time, .power, .faults, .host, .load, .cfg, .fr, .images, .lanes, .chains, .cells, .arms, .engs, .convs, .referee, .pair, .journal, .adc, .drives, .motors, .safety, .eths, .canQueues, .cans]
def State.supplyPor_fields : Option (List Field) := none
theorem State.supplyPor_effect (s : State) (porN : Bool) :
    Effect State.supplyPor_touch State.supplyPor_fields s (s.supplyPor porN) where
  same p hp := by cases p <;> first | rfl | exact absurd (by decide) hp
  regs _ e := by cases e
  log := List.prefix_refl _
  drawn := le_refl _
  fuses := Fuses.below_refl _
  stores _ := by
    have h := resetDrives_wf s.drives
    simp only [State.storesWf, State.supplyPor, h, Bool.and_eq_true]
    decide

def execSupplyPor_touch : List Part := [.hold, .wrHold, .time, .power, .faults, .host, .load, .cfg, .fr, .images, .lanes, .chains, .cells, .arms, .engs, .convs, .referee, .pair, .journal, .adc, .drives, .motors, .safety, .eths, .canQueues, .cans, .out]
def execSupplyPor_fields : Option (List Field) := none
theorem execSupplyPor_effect (p0 : Nat) (p1 : Bool) (s : State) :
    ∃ n, execSupplyPor p0 p1 s = .next n ∧ Effect execSupplyPor_touch execSupplyPor_fields s n := by
  unfold execSupplyPor done
  refine ⟨_, rfl, ?_⟩
  refine Effect.after (State.settle_effect ..) (by decide +kernel) ?_
  refine Effect.after (State.supplyPor_effect ..) (by decide +kernel) ?_
  refine Effect.after (State.elapse_effect ..) (by decide +kernel) ?_
  exact Effect.refl _ _ _

def execLaneRestore_touch : List Part := [.host, .chains, .out]
def execLaneRestore_fields : Option (List Field) := some [Reg.HOST_IRQ_PENDING.SOURCE]
theorem execLaneRestore_effect (p0 : Fin 96) (s : State) :
    ∃ n, execLaneRestore p0 s = .next n ∧ Effect execLaneRestore_touch execLaneRestore_fields s n := by
  unfold execLaneRestore done
  refine ⟨_, rfl, ?_⟩
  refine Effect.after (State.settle_effect ..) (by decide +kernel) ?_
  refine Effect.after (State.laneRestore_effect ..) (by decide +kernel) ?_
  exact Effect.refl _ _ _

def execDrvSync_touch : List Part := [.host, .drives, .out]
def execDrvSync_fields : Option (List Field) := some [Reg.HOST_IRQ_PENDING.SOURCE, Reg.DRV_LOAD_STATUS.SYNC_IGNORED, Reg.DRV_SYNC.UNITS]
theorem execDrvSync_effect (p0 : Nat) (s : State) :
    ∃ n, execDrvSync p0 s = .next n ∧ Effect execDrvSync_touch execDrvSync_fields s n := by
  unfold execDrvSync done
  refine ⟨_, rfl, ?_⟩
  refine Effect.after (State.settle_effect ..) (by decide +kernel) ?_
  refine Effect.after (State.drvSync_effect ..) (by decide +kernel) ?_
  exact Effect.refl _ _ _

def execLaneClearCounts_touch : List Part := [.host, .out]
def execLaneClearCounts_fields : Option (List Field) := some [Reg.HOST_IRQ_PENDING.SOURCE, Reg.LANE_CRC32_ERR.TRAIN, Reg.LANE_CRC32_ERR.SLOT, Reg.LANE_CODE_ERR.CODE, Reg.LANE_CODE_ERR.LOS, Reg.LANE_CODE_ERR.POS, Reg.LANE_LATE.SLOTS, Reg.LANE_LATE.FRAMES]
theorem execLaneClearCounts_effect (p0 : Fin 96) (s : State) :
    ∃ n, execLaneClearCounts p0 s = .next n ∧ Effect execLaneClearCounts_touch execLaneClearCounts_fields s n := by
  unfold execLaneClearCounts done
  refine ⟨_, rfl, ?_⟩
  refine Effect.after (State.settle_effect ..) (by decide +kernel) ?_
  refine Effect.after (State.laneClear_effect ..) (by decide +kernel) ?_
  exact Effect.refl _ _ _

def execConvDeblock_touch : List Part := [.faults, .host, .convs, .out]
def execConvDeblock_fields : Option (List Field) := some [Reg.CONV_STATE.STATE, Reg.CONV_STATE.CAUSE, Reg.CONV_CMD_LAST.RESULT, Reg.CONV_CMD_LAST.OP, Reg.CONV_STATE_FRAME.FRAME, Reg.CONV_COUNT.BLOCKS, Reg.CONV_EVENT.BLOCK, Reg.CONV_EVENT.DEBLOCK, Reg.CONV_EVENT.RESYNC_FAIL, Reg.CONV_EVENT.COAST_LIMIT, Reg.CONV_EVENT_SRC.CONV, Reg.HOST_IRQ_PENDING.SOURCE, Reg.COLLECT_STATUS_LO.STATUS, Reg.COLLECT_STATUS_HI.STATUS, Reg.FAULT_COUNT_CORR.COUNT, Reg.FAULT_COUNT_CONT.COUNT, Reg.FAULT_COUNT_FATAL.COUNT, Reg.FAULT_EVENT.CORRECTED, Reg.FAULT_EVENT.CONTAINED, Reg.FAULT_EVENT.FATAL, Reg.FAULT_EVENT.HIST_LOST, Reg.FAULT_HIST_STATUS.LOST]
theorem execConvDeblock_effect (p0 : Nat) (s : State) :
    ∃ n, execConvDeblock p0 s = .next n ∧ Effect execConvDeblock_touch execConvDeblock_fields s n := by
  unfold execConvDeblock done
  refine ⟨_, rfl, ?_⟩
  refine Effect.after (State.settle_effect ..) (by decide +kernel) ?_
  refine Effect.after (State.cmdConvDeblock_effect ..) (by decide +kernel) ?_
  exact Effect.refl _ _ _

def execPowerHandshakePoll_touch : List Part := [.time, .power, .host, .fr, .lanes, .engs, .referee, .pair, .safety, .cans, .out]
def execPowerHandshakePoll_fields : Option (List Field) := some [Reg.DOMAIN_STATE.FABRIC, Reg.DOMAIN_STATE.PLANE_A, Reg.DOMAIN_STATE.PLANE_B, Reg.DOMAIN_STATE.LANE_PHY, Reg.DOMAIN_STATE.BB_PHY, Reg.DOMAIN_STATE.ANALOG, Reg.DOMAIN_STATE.DRAM_ACTIVE, Reg.DOMAIN_STATE.DRAM_SR, Reg.HOST_IRQ_PENDING.SOURCE, Reg.POWER_STATE.STATE, Reg.POWER_STATE.WAKE_SRC, Reg.POWER_STATE.WAKE_TRIES, Reg.POWER_CTRL.DORMANT, Reg.POWER_ENTRY_STATUS.RESULT, Reg.POWER_ENTRY_STATUS.REFUSER, Reg.POWER_ENTRY_STATUS.RETRIES, Reg.POWER_PGOOD.PGOOD, Reg.POWER_EVENT.EVENTS, Reg.REF_STATUS.STATE, Reg.REF_STATUS.ROLE_A, Reg.REF_STATUS.ROLE_B, Reg.REF_STATUS.LEASE, Reg.REF_EVENT.UNFIT, Reg.FRAME_STATUS.RUNNING, Reg.SAFE_STATUS.A_OK, Reg.SAFE_STATUS.B_OK, Reg.SAFE_STATUS.DIAG, Reg.SAFE_STATUS.DIAG_CAUSE, Reg.SAFE_STATUS.RESET_PIN, Reg.SAFE_STATUS.DEMAND, Reg.SAFE_STATUS.LOCKED, Reg.SAFE_STATUS.DIAG_A, Reg.SAFE_STATUS.DIAG_B, Reg.SAFE_GROUP.STATE, Reg.SAFE_GROUP.KIND, Reg.SAFE_GROUP.STOP, Reg.SAFE_GROUP.CAUSE, Reg.SAFE_GROUP.PAIRS, Reg.SAFE_PAIR.CH_A, Reg.SAFE_PAIR.CH_B, Reg.SAFE_PAIR.DEMAND, Reg.SAFE_PAIR.PAIR_FAULT, Reg.SAFE_PAIR.FAULT_CAUSE, Reg.SAFE_PAIR.DEMANDS, Reg.SAFE_TPO.EN, Reg.SAFE_TPO.READBACK_FAULT, Reg.SAFE_FIRE.FIRE_A, Reg.SAFE_FIRE.FIRE_B, Reg.SAFE_FIRE.DRV_A, Reg.SAFE_FIRE.DRV_B, Reg.SAFE_RESET_STATUS.ARMED, Reg.ENG_STATUS.BALL, Reg.ENG_STATUS.SHADOW, Reg.ENG_STATUS.COLD, Reg.ENG_EXPORT.VALUE, Reg.ADC_REF.EN, Reg.ADC_REF.READY, Reg.TIME_STATUS.SLEWING, Reg.TIME_SLEW_REMAIN.VALUE, Reg.CAN_CTRL.MODE, Reg.CAN_STATUS.STATE, Reg.LANE_STATUS.SYNC, Reg.BB_STATUS.UP, Reg.BB_STATUS.TX_IDLE, Reg.BB_STATUS.CLOCK, Reg.BB_EVENT.EVENTS]
theorem execPowerHandshakePoll_effect (p0 : Nat) (p1 : Nat) (s : State) :
    ∃ n, execPowerHandshakePoll p0 p1 s = .next n ∧ Effect execPowerHandshakePoll_touch execPowerHandshakePoll_fields s n := by
  unfold execPowerHandshakePoll done
  refine ⟨_, rfl, ?_⟩
  refine Effect.after (State.settle_effect ..) (by decide +kernel) ?_
  refine Effect.after (State.handshakePoll_effect ..) (by decide +kernel) ?_
  refine Effect.after (State.elapse_effect ..) (by decide +kernel) ?_
  exact Effect.refl _ _ _

def execPlanePgoodLoss_touch : List Part := [.time, .power, .faults, .host, .fr, .cells, .arms, .engs, .convs, .referee, .out]
def execPlanePgoodLoss_fields : Option (List Field) := some [Reg.DOMAIN_STATE.PLANE_A, Reg.DOMAIN_STATE.PLANE_B, Reg.CONV_STATE.STATE, Reg.CONV_STATE.CAUSE, Reg.CONV_STATE.SLEWING, Reg.CONV_STATE_FRAME.FRAME, Reg.CONV_RESIDUAL.E, Reg.CONV_COUNT.BLOCKS, Reg.CONV_EVENT.BLOCK, Reg.CONV_EVENT.RESYNC_FAIL, Reg.CONV_EVENT.COAST_LIMIT, Reg.CONV_EVENT_SRC.CONV, Reg.HOST_IRQ_PENDING.SOURCE, Reg.POWER_PGOOD.PGOOD, Reg.COLLECT_STATUS_LO.STATUS, Reg.COLLECT_STATUS_HI.STATUS, Reg.FAULT_COUNT_CORR.COUNT, Reg.FAULT_COUNT_CONT.COUNT, Reg.FAULT_COUNT_FATAL.COUNT, Reg.FAULT_EVENT.CORRECTED, Reg.FAULT_EVENT.CONTAINED, Reg.FAULT_EVENT.FATAL, Reg.FAULT_EVENT.HIST_LOST, Reg.FAULT_HIST_STATUS.LOST, Reg.REF_STATUS.STATE, Reg.REF_STATUS.ROLE_A, Reg.REF_STATUS.ROLE_B, Reg.REF_STATUS.LEASE, Reg.REF_HT_STATUS.OUTCOME, Reg.REF_TAKEOVER.LAST_CAUSE, Reg.REF_EVENT.UNFIT, Reg.ENG_STATUS.BALL, Reg.ENG_STATUS.SHADOW, Reg.ENG_STATUS.COLD, Reg.ENG_EXPORT.VALUE, Reg.TIME_STATUS.SLEWING, Reg.TIME_SLEW_REMAIN.VALUE, Reg.ARM_PTR.PTR]
theorem execPlanePgoodLoss_effect (p0 : Fin 2) (p1 : Nat) (s : State) :
    ∃ n, execPlanePgoodLoss p0 p1 s = .next n ∧ Effect execPlanePgoodLoss_touch execPlanePgoodLoss_fields s n := by
  unfold execPlanePgoodLoss done
  refine ⟨_, rfl, ?_⟩
  refine Effect.after (State.settle_effect ..) (by decide +kernel) ?_
  refine Effect.after (State.planePgoodLoss_effect ..) (by decide +kernel) ?_
  refine Effect.after (State.elapse_effect ..) (by decide +kernel) ?_
  exact Effect.refl _ _ _

def execResetNAssert_touch : List Part := [.hold, .wrHold, .time, .power, .faults, .host, .load, .cfg, .fr, .images, .lanes, .chains, .cells, .arms, .engs, .convs, .referee, .pair, .journal, .adc, .drives, .motors, .safety, .eths, .canQueues, .cans, .out]
def execResetNAssert_fields : Option (List Field) := none
theorem execResetNAssert_effect (p0 : Nat) (p1 : Fin 16) (s : State) :
    ∃ n, execResetNAssert p0 p1 s = .next n ∧ Effect execResetNAssert_touch execResetNAssert_fields s n := by
  unfold execResetNAssert done
  refine ⟨_, rfl, ?_⟩
  refine Effect.after (State.settle_effect ..) (by decide +kernel) ?_
  refine Effect.after (State.resetNAssert_effect ..) (by decide +kernel) ?_
  refine Effect.after (State.elapse_effect ..) (by decide +kernel) ?_
  exact Effect.refl _ _ _

def execPcieLinkChange_touch : List Part := [.time, .host, .fr, .out]
def execPcieLinkChange_fields : Option (List Field) := some [Reg.HOST_IRQ_PENDING.SOURCE, Reg.TIME_STATUS.SLEWING, Reg.TIME_SLEW_REMAIN.VALUE]
theorem execPcieLinkChange_effect (p0 : Bool) (p1 : Bool) (p2 : Bool) (p3 : Nat) (s : State) :
    ∃ n, execPcieLinkChange p0 p1 p2 p3 s = .next n ∧ Effect execPcieLinkChange_touch execPcieLinkChange_fields s n := by
  unfold execPcieLinkChange done
  refine ⟨_, rfl, ?_⟩
  refine Effect.after (State.settle_effect ..) (by decide +kernel) ?_
  refine Effect.after (State.linkChange_effect ..) (by decide +kernel) ?_
  refine Effect.after (State.elapse_effect ..) (by decide +kernel) ?_
  exact Effect.refl _ _ _

def execDriveEnableChange_touch : List Part := [.time, .faults, .host, .fr, .drives, .motors, .out]
def execDriveEnableChange_fields : Option (List Field) := some [Reg.HOST_IRQ_PENDING.SOURCE, Reg.COLLECT_STATUS_LO.STATUS, Reg.COLLECT_STATUS_HI.STATUS, Reg.FAULT_COUNT_CORR.COUNT, Reg.FAULT_COUNT_CONT.COUNT, Reg.FAULT_COUNT_FATAL.COUNT, Reg.FAULT_EVENT.CORRECTED, Reg.FAULT_EVENT.CONTAINED, Reg.FAULT_EVENT.FATAL, Reg.FAULT_EVENT.HIST_LOST, Reg.FAULT_HIST_STATUS.LOST, Reg.TIME_STATUS.SLEWING, Reg.TIME_SLEW_REMAIN.VALUE, Reg.DRV_STATUS.ENABLE, Reg.DRV_STATUS.LEG_FAULT, Reg.DRV_CARRIER_ACT.TOP, Reg.DRV_LEG_STATUS.CMP_ACT, Reg.DRV_LEG_STATUS.DESAT_HS, Reg.DRV_LEG_STATUS.DESAT_LS, Reg.DRV_LEG_STATUS.INSTANT, Reg.DRV_LEG_STATUS.VB_UV, Reg.DRV_LEG_STATUS.GATES_OFF, Reg.DRV_LEG_STATUS.MODE_ACT, Reg.MOT_STATE.STATE, Reg.MOT_EVENT.STATE, Reg.MOT_EVENT.OBS_LOST]
theorem execDriveEnableChange_effect (p0 : Fin 4) (p1 : Bool) (p2 : Nat) (s : State) :
    ∃ n, execDriveEnableChange p0 p1 p2 s = .next n ∧ Effect execDriveEnableChange_touch execDriveEnableChange_fields s n := by
  unfold execDriveEnableChange done
  refine ⟨_, rfl, ?_⟩
  refine Effect.after (State.settle_effect ..) (by decide +kernel) ?_
  refine Effect.after (State.enableChange_effect ..) (by decide +kernel) ?_
  refine Effect.after (State.drvElapse_effect ..) (by decide +kernel) ?_
  exact Effect.refl _ _ _

def execForceTakeover_touch : List Part := [.time, .host, .fr, .referee, .out]
def execForceTakeover_fields : Option (List Field) := some [Reg.HOST_IRQ_PENDING.SOURCE, Reg.TIME_STATUS.SLEWING, Reg.TIME_SLEW_REMAIN.VALUE]
theorem execForceTakeover_effect (p0 : Nat) (s : State) :
    ∃ n, execForceTakeover p0 s = .next n ∧ Effect execForceTakeover_touch execForceTakeover_fields s n := by
  unfold execForceTakeover done
  refine ⟨_, rfl, ?_⟩
  refine Effect.after (State.settle_effect ..) (by decide +kernel) ?_
  refine Effect.after (State.forceTakeover_effect ..) (by decide +kernel) ?_
  refine Effect.after (State.elapse_effect ..) (by decide +kernel) ?_
  exact Effect.refl _ _ _

def execSliceError_touch : List Part := [.time, .faults, .host, .load, .fr, .lanes, .arms, .safety, .out]
def execSliceError_fields : Option (List Field) := some [Reg.ROLE_COUNT.LANE_SLICES, Reg.ROLE_COUNT.ARM_SLICES, Reg.ROLE_COUNT.RECORDER, Reg.ROLE_COUNT.MIRROR, Reg.ROLE_COUNT.SPARE, Reg.ROLE_COUNT.UNASSIGNED, Reg.HOST_IRQ_PENDING.SOURCE, Reg.COLLECT_STATUS_LO.STATUS, Reg.COLLECT_STATUS_HI.STATUS, Reg.FAULT_COUNT_CORR.COUNT, Reg.FAULT_COUNT_CONT.COUNT, Reg.FAULT_COUNT_FATAL.COUNT, Reg.FAULT_EVENT.CORRECTED, Reg.FAULT_EVENT.CONTAINED, Reg.FAULT_EVENT.FATAL, Reg.FAULT_EVENT.HIST_LOST, Reg.FAULT_HIST_STATUS.LOST, Reg.IMAGE_SUBST_STATUS.BUSY, Reg.IMAGE_SLICE_FAIL.FAIL, Reg.IMAGE_EVENT.SPARE_LOW, Reg.TIME_STATUS.SLEWING, Reg.TIME_SLEW_REMAIN.VALUE, Reg.LANE_STATUS.STATE, Reg.LANE_EVENT.LOST, Reg.SLICE_ROLE.STATE, Reg.ARM_STATUS.ACTIVE]
theorem execSliceError_effect (p0 : Fin 128) (p1 : Nat) (s : State) :
    ∃ n, execSliceError p0 p1 s = .next n ∧ Effect execSliceError_touch execSliceError_fields s n := by
  unfold execSliceError done
  refine ⟨_, rfl, ?_⟩
  refine Effect.after (State.settle_effect ..) (by decide +kernel) ?_
  refine Effect.after (State.sliceFail_effect ..) (by decide +kernel) ?_
  refine Effect.after (State.elapse_effect ..) (by decide +kernel) ?_
  exact Effect.refl _ _ _

def execSubstRequest_touch : List Part := [.time, .faults, .host, .load, .fr, .lanes, .arms, .safety, .out]
def execSubstRequest_fields : Option (List Field) := some [Reg.ROLE_COUNT.LANE_SLICES, Reg.ROLE_COUNT.ARM_SLICES, Reg.ROLE_COUNT.RECORDER, Reg.ROLE_COUNT.MIRROR, Reg.ROLE_COUNT.SPARE, Reg.ROLE_COUNT.UNASSIGNED, Reg.HOST_IRQ_PENDING.SOURCE, Reg.COLLECT_STATUS_LO.STATUS, Reg.COLLECT_STATUS_HI.STATUS, Reg.FAULT_COUNT_CORR.COUNT, Reg.FAULT_COUNT_CONT.COUNT, Reg.FAULT_COUNT_FATAL.COUNT, Reg.FAULT_EVENT.CORRECTED, Reg.FAULT_EVENT.CONTAINED, Reg.FAULT_EVENT.FATAL, Reg.FAULT_EVENT.HIST_LOST, Reg.FAULT_HIST_STATUS.LOST, Reg.IMAGE_SUBST_REQ.SLICE, Reg.IMAGE_SUBST_STATUS.BUSY, Reg.IMAGE_SLICE_FAIL.FAIL, Reg.IMAGE_EVENT.SPARE_LOW, Reg.TIME_STATUS.SLEWING, Reg.TIME_SLEW_REMAIN.VALUE, Reg.LANE_STATUS.STATE, Reg.LANE_EVENT.LOST, Reg.SLICE_ROLE.STATE, Reg.ARM_STATUS.ACTIVE]
theorem execSubstRequest_effect (p0 : Nat) (p1 : Nat) (s : State) :
    ∃ n, execSubstRequest p0 p1 s = .next n ∧ Effect execSubstRequest_touch execSubstRequest_fields s n := by
  unfold execSubstRequest done
  refine ⟨_, rfl, ?_⟩
  refine Effect.after (State.settle_effect ..) (by decide +kernel) ?_
  refine Effect.after (State.substRequest_effect ..) (by decide +kernel) ?_
  refine Effect.after (State.elapse_effect ..) (by decide +kernel) ?_
  exact Effect.refl _ _ _

def execFaultClearCounts_touch : List Part := [.host, .out]
def execFaultClearCounts_fields : Option (List Field) := some [Reg.HOST_IRQ_PENDING.SOURCE, Reg.RECOVERY_COUNT.COUNT, Reg.FAULT_COUNT_CORR.COUNT, Reg.FAULT_COUNT_CONT.COUNT, Reg.FAULT_COUNT_FATAL.COUNT]
theorem execFaultClearCounts_effect (s : State) :
    ∃ n, execFaultClearCounts s = .next n ∧ Effect execFaultClearCounts_touch execFaultClearCounts_fields s n := by
  unfold execFaultClearCounts done
  refine ⟨_, rfl, ?_⟩
  refine Effect.after (State.settle_effect ..) (by decide +kernel) ?_
  refine Effect.after (State.faultClearCounts_effect ..) (by decide +kernel) ?_
  exact Effect.refl _ _ _

def execInstantTrip_touch : List Part := [.time, .faults, .host, .fr, .drives, .motors, .out]
def execInstantTrip_fields : Option (List Field) := some [Reg.HOST_IRQ_PENDING.SOURCE, Reg.COLLECT_STATUS_LO.STATUS, Reg.COLLECT_STATUS_HI.STATUS, Reg.FAULT_COUNT_CORR.COUNT, Reg.FAULT_COUNT_CONT.COUNT, Reg.FAULT_COUNT_FATAL.COUNT, Reg.FAULT_EVENT.CORRECTED, Reg.FAULT_EVENT.CONTAINED, Reg.FAULT_EVENT.FATAL, Reg.FAULT_EVENT.HIST_LOST, Reg.FAULT_HIST_STATUS.LOST, Reg.TIME_STATUS.SLEWING, Reg.TIME_SLEW_REMAIN.VALUE, Reg.DRV_STATUS.LATCHED, Reg.DRV_STATUS.LATCH_CAUSE, Reg.DRV_STATUS.LEG_FAULT, Reg.DRV_CARRIER_ACT.TOP, Reg.DRV_LEG_STATUS.CMP_ACT, Reg.DRV_LEG_STATUS.DESAT_HS, Reg.DRV_LEG_STATUS.DESAT_LS, Reg.DRV_LEG_STATUS.INSTANT, Reg.DRV_LEG_STATUS.VB_UV, Reg.DRV_LEG_STATUS.INPUT_ACTIVE, Reg.DRV_LEG_STATUS.GATES_OFF, Reg.DRV_LEG_STATUS.MODE_ACT, Reg.DRV_TRIP.COUNT, Reg.DRV_TRIP.LAST_LEG, Reg.DRV_TRIP.LAST_CAUSE, Reg.DRV_TRIP_NS_LO.NS, Reg.DRV_TRIP_NS_HI.NS, Reg.DRV_EVENT.TRIP, Reg.DRV_EVENT.LATCH, Reg.MOT_STATE.STATE, Reg.MOT_STATE.CHOP_FAULT, Reg.MOT_BUS.CHOP_D, Reg.MOT_COUNT.CHOP_FAULTS, Reg.MOT_EVENT.STATE, Reg.MOT_EVENT.OBS_LOST, Reg.MOT_EVENT.CHOP_FAULT]
theorem execInstantTrip_effect (p0 : DrvIn) (p1 : Fin 3) (p2 : Nat) (s : State) :
    ∃ n, execInstantTrip p0 p1 p2 s = .next n ∧ Effect execInstantTrip_touch execInstantTrip_fields s n := by
  unfold execInstantTrip done
  refine ⟨_, rfl, ?_⟩
  refine Effect.after (State.settle_effect ..) (by decide +kernel) ?_
  refine Effect.after (State.instantTrip_effect ..) (by decide +kernel) ?_
  refine Effect.after (State.drvElapse_effect ..) (by decide +kernel) ?_
  exact Effect.refl _ _ _

def execTrkEntryTimeout_touch : List Part := [.time, .faults, .host, .fr, .out]
def execTrkEntryTimeout_fields : Option (List Field) := some [Reg.HOST_IRQ_PENDING.SOURCE, Reg.COLLECT_STATUS_LO.STATUS, Reg.COLLECT_STATUS_HI.STATUS, Reg.FAULT_COUNT_CORR.COUNT, Reg.FAULT_COUNT_CONT.COUNT, Reg.FAULT_COUNT_FATAL.COUNT, Reg.FAULT_EVENT.CORRECTED, Reg.FAULT_EVENT.CONTAINED, Reg.FAULT_EVENT.FATAL, Reg.FAULT_EVENT.HIST_LOST, Reg.FAULT_HIST_STATUS.LOST, Reg.TRK_STATUS.CTRL_HIWATER, Reg.TRK_TIMEOUT_COUNT.TIMEOUTS, Reg.TIME_STATUS.SLEWING, Reg.TIME_SLEW_REMAIN.VALUE]
theorem execTrkEntryTimeout_effect (p0 : CtrlRef) (p1 : Nat) (s : State) :
    ∃ n, execTrkEntryTimeout p0 p1 s = .next n ∧ Effect execTrkEntryTimeout_touch execTrkEntryTimeout_fields s n := by
  unfold execTrkEntryTimeout done
  refine ⟨_, rfl, ?_⟩
  refine Effect.after (State.settle_effect ..) (by decide +kernel) ?_
  refine Effect.after (State.ctrlTimeout_effect ..) (by decide +kernel) ?_
  refine Effect.after (State.elapse_effect ..) (by decide +kernel) ?_
  exact Effect.refl _ _ _

def execCellAdmit_touch : List Part := [.host, .cells, .out]
def execCellAdmit_fields : Option (List Field) := some [Reg.HOST_IRQ_PENDING.SOURCE]
theorem execCellAdmit_effect (p0 : Nat) (p1 : Nat) (s : State) :
    ∃ n, execCellAdmit p0 p1 s = .next n ∧ Effect execCellAdmit_touch execCellAdmit_fields s n := by
  unfold execCellAdmit done
  refine ⟨_, rfl, ?_⟩
  refine Effect.after (State.settle_effect ..) (by decide +kernel) ?_
  refine Effect.after (State.cellAdmit_effect ..) (by decide +kernel) ?_
  exact Effect.refl _ _ _

def execTComputeEnd_touch : List Part := [.time, .power, .faults, .host, .fr, .lanes, .chains, .cells, .arms, .engs, .convs, .referee, .pair, .safety, .out, .drawn]
def execTComputeEnd_fields : Option (List Field) := some [Reg.DOMAIN_STATE.PLANE_A, Reg.DOMAIN_STATE.PLANE_B, Reg.CONV_STATE.STATE, Reg.CONV_STATE.COAST, Reg.CONV_STATE.CAUSE, Reg.CONV_STATE.SLEWING, Reg.CONV_STATE_FRAME.FRAME, Reg.CONV_DTHETA.DTHETA, Reg.CONV_RESIDUAL.E, Reg.CONV_COUNT.BLOCKS, Reg.CONV_COUNT.RESYNCS, Reg.CONV_COUNT.COAST_MAX, Reg.CONV_WORD.VALUE, Reg.CONV_EVENT.BLOCK, Reg.CONV_EVENT.RESYNC, Reg.CONV_EVENT.RESYNC_FAIL, Reg.CONV_EVENT.COAST_LIMIT, Reg.CONV_EVENT_SRC.CONV, Reg.HOST_IRQ_PENDING.SOURCE, Reg.POWER_PGOOD.PGOOD, Reg.COLLECT_STATUS_LO.STATUS, Reg.COLLECT_STATUS_HI.STATUS, Reg.FAULT_COUNT_CORR.COUNT, Reg.FAULT_COUNT_CONT.COUNT, Reg.FAULT_COUNT_FATAL.COUNT, Reg.FAULT_EVENT.CORRECTED, Reg.FAULT_EVENT.CONTAINED, Reg.FAULT_EVENT.FATAL, Reg.FAULT_EVENT.HIST_LOST, Reg.FAULT_HIST_STATUS.LOST, Reg.REF_STATUS.STATE, Reg.REF_STATUS.ROLE_A, Reg.REF_STATUS.ROLE_B, Reg.REF_HT_STATUS.MATCHED, Reg.REF_HT_STATUS.OUTCOME, Reg.REF_CKPT.NEWEST, Reg.REF_CKPT.VALID0, Reg.REF_CKPT.VALID1, Reg.REF_CKPT_SEQ.SEQ, Reg.REF_EVENT.CANCEL, Reg.REF_EVENT.UNFIT, Reg.OVERRUN_COUNT.COMPUTE, Reg.OVERRUN_LAST.FRAME, Reg.TRK_STATUS.CTRL_HIWATER, Reg.FRAME_EVENT.OVERRUN, Reg.SAFE_STATUS.A_OK, Reg.SAFE_STATUS.B_OK, Reg.SAFE_STATUS.DIAG, Reg.SAFE_STATUS.DIAG_CAUSE, Reg.SAFE_STATUS.RESET_PIN, Reg.SAFE_STATUS.DEMAND, Reg.SAFE_STATUS.LOCKED, Reg.SAFE_STATUS.DIAG_A, Reg.SAFE_STATUS.DIAG_B, Reg.SAFE_GROUP.STATE, Reg.SAFE_GROUP.KIND, Reg.SAFE_GROUP.STOP, Reg.SAFE_GROUP.CAUSE, Reg.SAFE_GROUP.PAIRS, Reg.SAFE_PAIR.CH_A, Reg.SAFE_PAIR.CH_B, Reg.SAFE_PAIR.DEMAND, Reg.SAFE_PAIR.PAIR_FAULT, Reg.SAFE_PAIR.FAULT_CAUSE, Reg.SAFE_PAIR.DEMANDS, Reg.SAFE_TPO.EN, Reg.SAFE_TPO.READBACK_FAULT, Reg.SAFE_FIRE.FIRE_A, Reg.SAFE_FIRE.FIRE_B, Reg.SAFE_FIRE.DRV_A, Reg.SAFE_FIRE.DRV_B, Reg.SAFE_RESET_STATUS.ARMED, Reg.SAFE_EVENT.REMOVED, Reg.ENG_STATUS.BALL, Reg.ENG_STATUS.SHADOW, Reg.ENG_STATUS.COLD, Reg.ENG_STATUS.DONE, Reg.ENG_STATUS.STOPPED, Reg.ENG_CYCLES.LAST, Reg.ENG_CYCLES.MAX, Reg.ENG_EVENT.STOPPED, Reg.ENG_EXPORT.VALUE, Reg.TIME_STATUS.SLEWING, Reg.TIME_SLEW_REMAIN.VALUE, Reg.LANE_STATUS.STATE, Reg.LANE_STATUS.CHAIN_LATE, Reg.LANE_STATUS.SERVED, Reg.LANE_STATUS.FIRST_Q, Reg.LANE_CHAIN.SPLIT, Reg.LANE_CHAIN.GAP, Reg.LANE_SEGDOWN_LO.DOWN, Reg.LANE_SEGDOWN_HI.DOWN, Reg.LANE_UPBASE.U, Reg.LANE_BUDGET.DELIVERY, Reg.LANE_BUDGET.COMPLETION, Reg.LANE_EVENT.CHAIN_LATE, Reg.LANE_DELAY.D, Reg.LANE_DELAY.VALID, Reg.ARM_VDC.V, Reg.ARM_VAC.V, Reg.ARM_VEXTRA.V, Reg.ARM_THETA.THETA, Reg.ARM_OMEGA.OMEGA, Reg.ARM_CAPINV.CAP_INV, Reg.ARM_PHASE.PHASE_REF, Reg.ARM_PHASE.PHASE_BAL, Reg.ARM_PHASE_LIM.LIM, Reg.ARM_STATUS.FLAGS, Reg.ARM_STATUS.ACTIVE, Reg.ARM_LEVEL.N_FULL, Reg.ARM_LEVEL.N_NL, Reg.ARM_TRIM.FRAC, Reg.ARM_TRIM.TRIM, Reg.ARM_PTR.PTR, Reg.ARM_PTR.ELIGIBLE, Reg.ARM_SHORT.SHORT, Reg.ARM_SHORT.FRAMES, Reg.ARM_DWELL.MOVED, Reg.ARM_DWELL.DEFERRED, Reg.ARM_SWITCHED.LAST, Reg.ARM_TJ.TJ_MAX, Reg.ARM_TJ.TJ_MEAN, Reg.ARM_TJ_CELL.CELL, Reg.ARM_IARM.I, Reg.ARM_VREF.V, Reg.ARM_EVENT.SHORTFALL, Reg.ARM_EVENT.DEFER, Reg.ARM_EVENT.COAST, Reg.ARM_EVENT.I_HELD, Reg.CELL_STATE.STATE, Reg.CELL_STATE.EXCLUDED, Reg.CELL_STATE.CONFIRMED, Reg.CELL_STATE.NO_BYPASS, Reg.CELL_STATE.REASON, Reg.CELL_STATE.T_INVALID, Reg.CELL_TEMP.T_HS, Reg.CELL_TEMP.TJ, Reg.CELL_FAULT.REPORTED, Reg.CELL_FAULT.SEEN, Reg.CELL_FAULT.TOGGLES, Reg.CELL_COUNT.EXCLUDED, Reg.CELL_COUNT.SWAPS, Reg.CELL_STATE_FRAME.FRAME, Reg.TS_RECORDED_LO.IDENTITY, Reg.TS_RECORDED_HI.IDENTITY, Reg.TS_CALL.RESULT, Reg.CELL_SUMMARY0.SERVICE, Reg.CELL_SUMMARY0.BYPASSED, Reg.CELL_SUMMARY1.PENDING, Reg.CELL_SUMMARY1.OUT, Reg.CELL_SUMMARY2.ABSENT, Reg.CELL_SUMMARY2.REJECTED, Reg.CELL_PENDING_FIRST.CELL, Reg.CELL_UNROSTERED_LO.CHAINS, Reg.CELL_UNROSTERED_HI.CHAINS, Reg.CELL_LAST.CELL, Reg.CELL_LAST.STATE, Reg.CELL_LAST.REASON, Reg.CELL_EVENT.PENDING, Reg.CELL_EVENT.BYPASS, Reg.CELL_EVENT.REJECTED, Reg.CELL_EVENT.SWAP, Reg.CELL_EVENT.OUT, Reg.CELL_EVENT.UNCONFIRMED]
theorem execTComputeEnd_effect (p0 : Nat) (p1 : Bool) (s : State) :
    ∃ n, execTComputeEnd p0 p1 s = .next n ∧ Effect execTComputeEnd_touch execTComputeEnd_fields s n := by
  unfold execTComputeEnd done
  refine ⟨_, rfl, ?_⟩
  refine Effect.after (State.settle_effect ..) (by decide +kernel) ?_
  refine Effect.after (State.computeEnd_effect ..) (by decide +kernel) ?_
  refine Effect.after (State.elapse_effect ..) (by decide +kernel) ?_
  exact Effect.refl _ _ _

def execGateInterlock_touch : List Part := [.time, .faults, .host, .fr, .drives, .out]
def execGateInterlock_fields : Option (List Field) := some [Reg.HOST_IRQ_PENDING.SOURCE, Reg.COLLECT_STATUS_LO.STATUS, Reg.COLLECT_STATUS_HI.STATUS, Reg.FAULT_COUNT_CORR.COUNT, Reg.FAULT_COUNT_CONT.COUNT, Reg.FAULT_COUNT_FATAL.COUNT, Reg.FAULT_EVENT.CORRECTED, Reg.FAULT_EVENT.CONTAINED, Reg.FAULT_EVENT.FATAL, Reg.FAULT_EVENT.HIST_LOST, Reg.FAULT_HIST_STATUS.LOST, Reg.TIME_STATUS.SLEWING, Reg.TIME_SLEW_REMAIN.VALUE, Reg.DRV_STATUS.LEG_FAULT, Reg.DRV_LEG_STATUS.DESAT_HS, Reg.DRV_LEG_STATUS.DESAT_LS, Reg.DRV_LEG_STATUS.INSTANT, Reg.DRV_LEG_STATUS.VB_UV, Reg.DRV_LEG_STATUS.GATES_OFF, Reg.DRV_LEG_COUNT.INTERLOCK]
theorem execGateInterlock_effect (p0 : Fin 4) (p1 : Fin 4) (p2 : Nat) (s : State) :
    ∃ n, execGateInterlock p0 p1 p2 s = .next n ∧ Effect execGateInterlock_touch execGateInterlock_fields s n := by
  unfold execGateInterlock done
  refine ⟨_, rfl, ?_⟩
  refine Effect.after (State.settle_effect ..) (by decide +kernel) ?_
  refine Effect.after (State.gateInterlock_effect ..) (by decide +kernel) ?_
  refine Effect.after (State.drvElapse_effect ..) (by decide +kernel) ?_
  exact Effect.refl _ _ _

def execDesatTrip_touch : List Part := [.time, .faults, .host, .fr, .drives, .motors, .out]
def execDesatTrip_fields : Option (List Field) := some [Reg.HOST_IRQ_PENDING.SOURCE, Reg.COLLECT_STATUS_LO.STATUS, Reg.COLLECT_STATUS_HI.STATUS, Reg.FAULT_COUNT_CORR.COUNT, Reg.FAULT_COUNT_CONT.COUNT, Reg.FAULT_COUNT_FATAL.COUNT, Reg.FAULT_EVENT.CORRECTED, Reg.FAULT_EVENT.CONTAINED, Reg.FAULT_EVENT.FATAL, Reg.FAULT_EVENT.HIST_LOST, Reg.FAULT_HIST_STATUS.LOST, Reg.TIME_STATUS.SLEWING, Reg.TIME_SLEW_REMAIN.VALUE, Reg.DRV_STATUS.LATCHED, Reg.DRV_STATUS.LATCH_CAUSE, Reg.DRV_STATUS.LEG_FAULT, Reg.DRV_CARRIER_ACT.TOP, Reg.DRV_LEG_STATUS.CMP_ACT, Reg.DRV_LEG_STATUS.DESAT_HS, Reg.DRV_LEG_STATUS.DESAT_LS, Reg.DRV_LEG_STATUS.INSTANT, Reg.DRV_LEG_STATUS.VB_UV, Reg.DRV_LEG_STATUS.INPUT_ACTIVE, Reg.DRV_LEG_STATUS.GATES_OFF, Reg.DRV_LEG_STATUS.MODE_ACT, Reg.DRV_TRIP.COUNT, Reg.DRV_TRIP.LAST_LEG, Reg.DRV_TRIP.LAST_CAUSE, Reg.DRV_TRIP_NS_LO.NS, Reg.DRV_TRIP_NS_HI.NS, Reg.DRV_EVENT.TRIP, Reg.DRV_EVENT.LATCH, Reg.MOT_STATE.STATE, Reg.MOT_STATE.CHOP_FAULT, Reg.MOT_BUS.CHOP_D, Reg.MOT_COUNT.CHOP_FAULTS, Reg.MOT_EVENT.STATE, Reg.MOT_EVENT.OBS_LOST, Reg.MOT_EVENT.CHOP_FAULT]
theorem execDesatTrip_effect (p0 : DrvIn) (p1 : Fin 4) (p2 : Bool) (p3 : Nat) (s : State) :
    ∃ n, execDesatTrip p0 p1 p2 p3 s = .next n ∧ Effect execDesatTrip_touch execDesatTrip_fields s n := by
  unfold execDesatTrip done
  extract_lets x1 x2
  have h3 : Effect execDesatTrip_touch execDesatTrip_fields s x2 := by
    refine Effect.after (State.drvElapse_effect ..) (by decide +kernel) ?_
    exact Effect.refl _ _ _
  try clear_value x2
  try clear_value x1
  refine ⟨_, rfl, ?_⟩
  refine Effect.after (State.settle_effect ..) (by decide +kernel) ?_
  refine Effect.ite ?_ ?_
  · refine Effect.after (State.tripSeen_effect ..) (by decide +kernel) ?_
    exact h3
  · exact h3

def execPwmCommandEdge_touch : List Part := [.time, .host, .fr, .drives, .out]
def execPwmCommandEdge_fields : Option (List Field) := some [Reg.HOST_IRQ_PENDING.SOURCE, Reg.TIME_STATUS.SLEWING, Reg.TIME_SLEW_REMAIN.VALUE, Reg.DRV_STATUS.LEG_FAULT, Reg.DRV_LEG_STATUS.DESAT_HS, Reg.DRV_LEG_STATUS.DESAT_LS, Reg.DRV_LEG_STATUS.INSTANT, Reg.DRV_LEG_STATUS.VB_UV, Reg.DRV_LEG_STATUS.INPUT_ACTIVE, Reg.DRV_LEG_STATUS.GATES_OFF]
theorem execPwmCommandEdge_effect (p0 : Fin 4) (p1 : Fin 4) (p2 : Bool) (p3 : Nat) (p4 : Nat) (s : State) :
    ∃ n, execPwmCommandEdge p0 p1 p2 p3 p4 s = .next n ∧ Effect execPwmCommandEdge_touch execPwmCommandEdge_fields s n := by
  unfold execPwmCommandEdge done
  refine ⟨_, rfl, ?_⟩
  refine Effect.after (State.settle_effect ..) (by decide +kernel) ?_
  refine Effect.after (State.pwmEdge_effect ..) (by decide +kernel) ?_
  refine Effect.after (State.drvSees_effect ..) (by decide +kernel) ?_
  refine Effect.after (State.elapse_effect ..) (by decide +kernel) ?_
  exact Effect.refl _ _ _

end Sys2Proof.Machine
end

