-- ==== Sys2Proof/Laws/Reads.lean ====
section
/-! SUPPORT. Reads after the two operations around every command: the time base running to its instant, and the interrupt sources settling. -/

namespace Sys2Proof.Machine

/-- Everything but the interrupt lines is as the meaning left it. -/
theorem State.settle_rd (s : State) (f : Field) (i j : Nat) (h : f.apart Reg.HOST_IRQ_PENDING.SOURCE = true) :
    s.settle.rd f i j = s.rd f i j := (State.settle_effect s).rd f i j (by simp [h])

theorem State.elapse_rd (s : State) (t : Nat) (f : Field) (i j : Nat)
    (h : (f.apart Reg.TIME_STATUS.SLEWING && f.apart Reg.TIME_SLEW_REMAIN.VALUE) = true) : (s.elapse t).rd f i j = s.rd f i j :=
  (State.elapse_effect s t).rd f i j (by simpa using h)

@[simp] theorem State.settle_silicon (s : State) : s.settle.silicon = s.silicon := (State.settle_effect s).same .silicon (by decide)
@[simp] theorem State.settle_fuses (s : State) : s.settle.fuses = s.fuses := (State.settle_effect s).same .fuses (by decide)
@[simp] theorem State.settle_hold (s : State) : s.settle.hold = s.hold := (State.settle_effect s).same .hold (by decide)
@[simp] theorem State.settle_wrHold (s : State) : s.settle.wrHold = s.wrHold := (State.settle_effect s).same .wrHold (by decide)
@[simp] theorem State.settle_time (s : State) : s.settle.time = s.time := (State.settle_effect s).same .time (by decide)
@[simp] theorem State.settle_power (s : State) : s.settle.power = s.power := (State.settle_effect s).same .power (by decide)
@[simp] theorem State.settle_faults (s : State) : s.settle.faults = s.faults := (State.settle_effect s).same .faults (by decide)
@[simp] theorem State.settle_load (s : State) : s.settle.load = s.load := (State.settle_effect s).same .load (by decide)
@[simp] theorem State.settle_cfg (s : State) : s.settle.cfg = s.cfg := (State.settle_effect s).same .cfg (by decide)
@[simp] theorem State.settle_fr (s : State) : s.settle.fr = s.fr := (State.settle_effect s).same .fr (by decide)
@[simp] theorem State.settle_images (s : State) : s.settle.images = s.images := (State.settle_effect s).same .images (by decide)
@[simp] theorem State.settle_lanes (s : State) : s.settle.lanes = s.lanes := (State.settle_effect s).same .lanes (by decide)
@[simp] theorem State.settle_chains (s : State) : s.settle.chains = s.chains := (State.settle_effect s).same .chains (by decide)
@[simp] theorem State.settle_cells (s : State) : s.settle.cells = s.cells := (State.settle_effect s).same .cells (by decide)
@[simp] theorem State.settle_arms (s : State) : s.settle.arms = s.arms := (State.settle_effect s).same .arms (by decide)
@[simp] theorem State.settle_engs (s : State) : s.settle.engs = s.engs := (State.settle_effect s).same .engs (by decide)
@[simp] theorem State.settle_convs (s : State) : s.settle.convs = s.convs := (State.settle_effect s).same .convs (by decide)
@[simp] theorem State.settle_referee (s : State) : s.settle.referee = s.referee := (State.settle_effect s).same .referee (by decide)
@[simp] theorem State.settle_pair (s : State) : s.settle.pair = s.pair := (State.settle_effect s).same .pair (by decide)
@[simp] theorem State.settle_journal (s : State) : s.settle.journal = s.journal := (State.settle_effect s).same .journal (by decide)
@[simp] theorem State.settle_adc (s : State) : s.settle.adc = s.adc := (State.settle_effect s).same .adc (by decide)
@[simp] theorem State.settle_drives (s : State) : s.settle.drives = s.drives := (State.settle_effect s).same .drives (by decide)
@[simp] theorem State.settle_motors (s : State) : s.settle.motors = s.motors := (State.settle_effect s).same .motors (by decide)
@[simp] theorem State.settle_safety (s : State) : s.settle.safety = s.safety := (State.settle_effect s).same .safety (by decide)
@[simp] theorem State.settle_eths (s : State) : s.settle.eths = s.eths := (State.settle_effect s).same .eths (by decide)
@[simp] theorem State.settle_canQueues (s : State) : s.settle.canQueues = s.canQueues := (State.settle_effect s).same .canQueues (by decide)
@[simp] theorem State.settle_cans (s : State) : s.settle.cans = s.cans := (State.settle_effect s).same .cans (by decide)
@[simp] theorem State.settle_drawn (s : State) : s.settle.drawn = s.drawn := (State.settle_effect s).same .drawn (by decide)
@[simp] theorem State.settle_pending (s : State) : s.settle.pending = s.pending := (State.settle_effect s).same .pending (by decide)
@[simp] theorem State.elapse_silicon (s : State) (t : Nat) : (s.elapse t).silicon = s.silicon := (State.elapse_effect s t).same .silicon (by decide)
@[simp] theorem State.elapse_fuses (s : State) (t : Nat) : (s.elapse t).fuses = s.fuses := (State.elapse_effect s t).same .fuses (by decide)
@[simp] theorem State.elapse_hold (s : State) (t : Nat) : (s.elapse t).hold = s.hold := (State.elapse_effect s t).same .hold (by decide)
@[simp] theorem State.elapse_wrHold (s : State) (t : Nat) : (s.elapse t).wrHold = s.wrHold := (State.elapse_effect s t).same .wrHold (by decide)
@[simp] theorem State.elapse_power (s : State) (t : Nat) : (s.elapse t).power = s.power := (State.elapse_effect s t).same .power (by decide)
@[simp] theorem State.elapse_faults (s : State) (t : Nat) : (s.elapse t).faults = s.faults := (State.elapse_effect s t).same .faults (by decide)
@[simp] theorem State.elapse_host (s : State) (t : Nat) : (s.elapse t).host = s.host := (State.elapse_effect s t).same .host (by decide)
@[simp] theorem State.elapse_load (s : State) (t : Nat) : (s.elapse t).load = s.load := (State.elapse_effect s t).same .load (by decide)
@[simp] theorem State.elapse_cfg (s : State) (t : Nat) : (s.elapse t).cfg = s.cfg := (State.elapse_effect s t).same .cfg (by decide)
@[simp] theorem State.elapse_images (s : State) (t : Nat) : (s.elapse t).images = s.images := (State.elapse_effect s t).same .images (by decide)
@[simp] theorem State.elapse_lanes (s : State) (t : Nat) : (s.elapse t).lanes = s.lanes := (State.elapse_effect s t).same .lanes (by decide)
@[simp] theorem State.elapse_chains (s : State) (t : Nat) : (s.elapse t).chains = s.chains := (State.elapse_effect s t).same .chains (by decide)
@[simp] theorem State.elapse_cells (s : State) (t : Nat) : (s.elapse t).cells = s.cells := (State.elapse_effect s t).same .cells (by decide)
@[simp] theorem State.elapse_arms (s : State) (t : Nat) : (s.elapse t).arms = s.arms := (State.elapse_effect s t).same .arms (by decide)
@[simp] theorem State.elapse_engs (s : State) (t : Nat) : (s.elapse t).engs = s.engs := (State.elapse_effect s t).same .engs (by decide)
@[simp] theorem State.elapse_convs (s : State) (t : Nat) : (s.elapse t).convs = s.convs := (State.elapse_effect s t).same .convs (by decide)
@[simp] theorem State.elapse_referee (s : State) (t : Nat) : (s.elapse t).referee = s.referee := (State.elapse_effect s t).same .referee (by decide)
@[simp] theorem State.elapse_pair (s : State) (t : Nat) : (s.elapse t).pair = s.pair := (State.elapse_effect s t).same .pair (by decide)
@[simp] theorem State.elapse_journal (s : State) (t : Nat) : (s.elapse t).journal = s.journal := (State.elapse_effect s t).same .journal (by decide)
@[simp] theorem State.elapse_adc (s : State) (t : Nat) : (s.elapse t).adc = s.adc := (State.elapse_effect s t).same .adc (by decide)
@[simp] theorem State.elapse_drives (s : State) (t : Nat) : (s.elapse t).drives = s.drives := (State.elapse_effect s t).same .drives (by decide)
@[simp] theorem State.elapse_motors (s : State) (t : Nat) : (s.elapse t).motors = s.motors := (State.elapse_effect s t).same .motors (by decide)
@[simp] theorem State.elapse_safety (s : State) (t : Nat) : (s.elapse t).safety = s.safety := (State.elapse_effect s t).same .safety (by decide)
@[simp] theorem State.elapse_eths (s : State) (t : Nat) : (s.elapse t).eths = s.eths := (State.elapse_effect s t).same .eths (by decide)
@[simp] theorem State.elapse_canQueues (s : State) (t : Nat) : (s.elapse t).canQueues = s.canQueues := (State.elapse_effect s t).same .canQueues (by decide)
@[simp] theorem State.elapse_cans (s : State) (t : Nat) : (s.elapse t).cans = s.cans := (State.elapse_effect s t).same .cans (by decide)
@[simp] theorem State.elapse_out (s : State) (t : Nat) : (s.elapse t).out = s.out := (State.elapse_effect s t).same .out (by decide)
@[simp] theorem State.elapse_drawn (s : State) (t : Nat) : (s.elapse t).drawn = s.drawn := (State.elapse_effect s t).same .drawn (by decide)
@[simp] theorem State.elapse_pending (s : State) (t : Nat) : (s.elapse t).pending = s.pending := (State.elapse_effect s t).same .pending (by decide)

theorem State.elapse_ns (s : State) (t : Nat) : (s.elapse t).time.ns = max s.time.ns t := by
  unfold State.elapse
  split
  · omega
  · split
    · show t = _; omega
    · extract_lets c p tm s'
      have : s'.time.ns = t := rfl
      split
      · omega
      · simp only [State.showSlew, State.wrS, State.wr_time]; omega

/-- The frame part is left alone while the SD clock runs (R306, Table 18-5). -/
theorem State.elapse_fr (s : State) (t : Nat) (h : s.sdRuns = true) : (s.elapse t).fr = s.fr := by
  unfold State.elapse
  split
  · rfl
  · split
    · rename_i k; rw [h] at k; exact absurd k (by decide)
    · extract_lets c p tm s'
      split
      · rfl
      · simp only [State.showSlew, State.wrS, State.wr_fr]; rfl

end Sys2Proof.Machine
end

