-- ==== Sys2Proof/WellFormed.lean ====
section
/-! DEFINITION. When a command is well formed: the ranges that the tables of the spec give what a command carries and that the types of
its operands leave open (register addresses and words, counts, the lengths of entries, slots, packets and messages). exec gives every
command a meaning, well formed or not. -/

namespace Sys2Proof

/-- A byte, a 16-bit word, a 32-bit word, a 64-bit word. -/
def isByte (v : Nat) : Bool := decide (v < 256)
def isHalf (v : Nat) : Bool := decide (v < 65536)
def isWord (v : Nat) : Bool := decide (v < 4294967296)
def isDouble (v : Nat) : Bool := decide (v < 18446744073709551616)

/-- A nanosecond count, 64 bits (R306). -/
def isCount (t : Nat) : Bool := isDouble t

/-- An offset in the 16 MB of BAR0 (R340). -/
def isBar0 (a : Nat) : Bool := decide (a < 16777216)

/-- A byte string of `lo` to `hi` bytes. -/
def bytesIn (lo hi : Nat) (b : List Byte) : Bool := decide (lo ≤ b.length) && decide (b.length ≤ hi)

/-- Well-formedness: slots of R97, entries of Table 16-3, packets of R351 and R354, command arguments of Tables 09-10 and 15-3. -/
def Instr.wf : Instr → Bool
  | .registerWrite addr size value t => isBar0 addr && decide (size ≤ 8) && isDouble value && isCount t
  | .split64LowRead read t => isBar0 read.addr && isCount t
  | .eventRegisterWrite addr value => isBar0 addr && isWord value
  | .supplyPor t _ => isCount t
  | .porRelease t _ _ random => isCount t && isWord random
  | .resetNAssert t _ => isCount t
  | .resetNRelease t => isCount t
  | .softReset value t _ => isWord value && isCount t
  | .railPgood _ t => isCount t
  | .wakeTimeout _ _ t => isCount t
  | .pllLock _ t => isCount t
  | .pllLockLoss _ t => isCount t
  | .devResetRelease t _ => isCount t
  | .dramInitDone _ t => isCount t
  | .imageFetchDone _ _ _ t => isCount t
  | .flashTimeout t => isCount t
  | .imageAuthenticate t => isCount t
  | .sectionChecks t => isCount t
  | .imageCommit _ _ sin t => isHalf sin && isCount t
  | .laneUpTimeout t => isCount t
  | .kickoffGrant t => isCount t
  | .imageLoad _ t => isCount t
  | .imageAbort t => isCount t
  | .epochBurn t => isCount t
  | .keyProgram _ unlock t => isHalf unlock && isCount t
  | .keyRevoke _ unlock t => isHalf unlock && isCount t
  | .fuseOpDone _ t => isCount t
  | .bar2Write offset _ t => decide (offset < 268435456) && isCount t
  | .substRequest value t => isWord value && isCount t
  | .sliceError _ t => isCount t
  | .substInService _ t => isCount t
  | .spareSelftestFail _ t => isCount t
  | .frameTick t _ => isCount t
  | .autoRedeblock _ t => isCount t
  | .tSample t => isCount t
  | .adcBurstStart _ t => isCount t
  | .adcResult _ _ _ t => isCount t
  | .adcResultRead _ _ => true
  | .dsOutput _ _ _ t => isCount t
  | .uplinkSlot _ ns bytes => isCount ns && bytesIn 32 32 bytes
  | .uplinkTrainCrc _ _ crc => isWord crc
  | .callupReply _ _ bytes t => bytesIn 32 32 bytes && isCount t
  | .callupLoop _ _ _ t => isCount t
  | .callupLaunch _ t => isCount t
  | .laneSyncAcquire _ t => isCount t
  | .laneSyncLoss _ t => isCount t
  | .tFreeze t => isCount t
  | .autoRestore _ t => isCount t
  | .laneRestore _ => true
  | .laneCallup _ => true
  | .laneForceIdle _ _ t => isCount t
  | .engineGraphComplete _ _ => true
  | .tComputeEnd t _ => isCount t
  | .tRankEnd t _ _ _ _ => isCount t
  | .plannerStepDown t => isCount t
  | .overrunHoldEnd t => isCount t
  | .backgroundDispatch _ t => isCount t
  | .thermalShedStep t => isCount t
  | .trkEntryTimeout entry t => isCount entry.opened && isCount t
  | .leaseExpiry t => isCount t
  | .heartbeatLoss _ t => isCount t
  | .planeEccError _ _ t => isCount t
  | .planePgoodLoss _ t => isCount t
  | .planeErrorLine _ t => isCount t
  | .forceTakeover t => isCount t
  | .takeoverGrant t => isCount t
  | .halftimeNow t => isCount t
  | .halftimeHandover t => isCount t
  | .revive t => isCount t
  | .reviveComplete t => isCount t
  | .refereeMismatch t => isCount t
  | .pairPacket _ src packet t => isByte src && bytesIn 112 1024 packet.payload && isCount t
  | .pairSilence t => isCount t
  | .hostCommandTake entry t => bytesIn 128 128 entry && isCount t
  | .journalRecordCommitted _ t => isCount t
  | .jrnCplHeadWrite value => isWord value
  | .ringRestart _ value => isWord value
  | .ringPcieError t => isCount t
  | .jrnMramEnable value _ t => isWord value && isCount t
  | .jrnMramDisable value _ t => isWord value && isCount t
  | .newEpoch value source t => isWord value && isWord source.random && isCount t
  | .jrnHalfRebuilt _ => true
  | .setFramePeriod period => isWord period
  | .cellAdmit cell identity => isHalf cell && isCount identity
  | .cellBypass cell => isHalf cell
  | .cellFaultClear cell => isHalf cell
  | .coeffWrite args => bytesIn 4 88 args
  | .bankSwap bank => isByte bank
  | .paramWrite args => bytesIn 6 6 args
  | .convDeblock conv => isByte conv
  | .convBlock conv => isByte conv
  | .canQueue args source seq => bytesIn 8 72 args && decide (source < 16) && isWord seq
  | .canFlush can buffer => isByte can && isByte buffer
  | .coastLimit _ t => isCount t
  | .resyncTimeout _ t => isCount t
  | .safeInputChange _ _ _ t => isCount t
  | .safeFilterSettle _ _ t => isCount t
  | .safeUnsettled _ _ t => isCount t
  | .safeDiscrepancy _ _ t => isCount t
  | .tpoPulse _ _ _ _ t => isCount t
  | .tpoCheck _ levels t => decide (levels < 16) && isCount t
  | .safeStopTimer _ _ t => isCount t
  | .safeDriveEnvelope t => isCount t
  | .safeCrossExchange _ _ t => isCount t
  | .safeLinkSilence _ t => isCount t
  | .safeSelftestFail _ t => isCount t
  | .safeResetArm value t => isWord value && isCount t
  | .safeArmExpiry t => isCount t
  | .safeResetFall t => isCount t
  | .safeResetRise t => isCount t
  | .safeResetStuck t => isCount t
  | .drvLoadall value t => isWord value && isCount t
  | .drvSync value => isWord value
  | .drvLatchClear drv value t => isWord value && isHalf drv.inputs && isCount t
  | .drvClearCounts _ => true
  | .carrierValley drv _ conf theta _ _ t => isHalf conf && isWord theta && isHalf drv.inputs && isCount t
  | .chopperBoundary drv t => isHalf drv.inputs && isCount t
  | .desatTrip drv _ _ t => isHalf drv.inputs && isCount t
  | .instantTrip drv _ t => isHalf drv.inputs && isCount t
  | .vdrvUvlo _ t => isCount t
  | .vdrvRecover _ t => isCount t
  | .vbUndervoltage _ _ t => isCount t
  | .gateInterlock _ _ t => isCount t
  | .driveOtShutdown _ t => isCount t
  | .driveOtRelease _ t => isCount t
  | .barrierLinkLost _ t => isCount t
  | .barrierLinkRecover _ inputs t => isHalf inputs && isCount t
  | .driveEnableChange _ _ t => isCount t
  | .motChopReset _ => true
  | .chopCheck _ t => isCount t
  | .startFail _ t => isCount t
  | .catchTimeout _ t => isCount t
  | .catchSlow _ t => isCount t
  | .shortEnd _ t => isCount t
  | .stopseqCoastEnd _ t => isCount t
  | .spdEdge _ _ t => isCount t
  | .speedSignalLost _ t => isCount t
  | .adcCommit t => isCount t
  | .adcRefEnable t => isCount t
  | .adcRefReady t => isCount t
  | .hkRoundStart t => isCount t
  | .hkRoundDone _ t => isCount t
  | .keepCounterCopy t => isCount t
  | .timeSet t => isCount t
  | .timeStep t => isCount t
  | .timeSlewGo t => isCount t
  | .timeSlewDone t => isCount t
  | .timeSyncSet t => isCount t
  | .timeSyncClr t => isCount t
  | .timeServoChange _ t => isCount t
  | .timeAddendWrite value t => isWord value && isCount t
  | .ppsEdge edge => isCount edge.t
  | .ppsLost t => isCount t
  | .ethRxFrame _ _ _ _ t => isCount t
  | .ethTxDescriptor _ desc _ t => bytesIn 32 32 desc && isCount t
  | .ethTxtsRead _ => true
  | .ethRingRestart _ _ value => isWord value
  | .ethDmaError _ _ t => isCount t
  | .ethLinkChange _ _ _ _ t => isCount t
  | .canSlotStart _ _ t => isCount t
  | .canSlotEnd _ _ _ t => isCount t
  | .canTxComplete _ sofFrame sofNs t => isWord sofFrame && isCount sofNs && isCount t
  | .canTxAttemptFail _ _ _ t => isCount t
  | .canRecover _ t => isCount t
  | .canRecoveryDone _ t => isCount t
  | .canRxMessage _ id flags _ data sofFrame sofNs t => decide (id < 536870912) && decide (flags < 32) && bytesIn 0 64 data && isWord sofFrame && isCount sofNs && isCount t
  | .canRxAck _ index => decide (index < 64)
  | .canTxeRead _ => true
  | .bbPortUp _ skew t => isByte skew && isCount t
  | .bbPortDown _ _ t => isCount t
  | .bbIdleEntry _ t => isCount t
  | .helloSend _ t => isCount t
  | .hello _ src payload t => isByte src && bytesIn 32 32 payload && isCount t
  | .bbPartnerLost _ t => isCount t
  | .jrnCmd _ src payload t => isByte src && bytesIn 128 128 payload && isCount t
  | .hostRd _ src payload t => isByte src && bytesIn 8 8 payload && isCount t
  | .hostWr _ src payload t => isByte src && bytesIn 12 136 payload && isCount t
  | .imagePacket _ src payload t => isByte src && bytesIn 8 1024 payload && isCount t
  | .bbPacketDiscard _ _ => true
  | .collectorEvent t => isCount t
  | .quietTimeout t => isCount t
  | .faultClearCounts => true
  | .faultClearHist => true
  | .firstFatalClear => true
  | .faultHistRead _ => true
  | .timePtpRead t => isCount t
  | .aliveToggle t => isCount t
  | .xbarWaitClear => true
  | .frameClearOverrun => true
  | .frameClearStale => true
  | .frameClearTracker => true
  | .frameClearGaps => true
  | .laneClearCounts _ => true
  | .armClearCounts _ => true
  | .engClearCycles _ => true
  | .engClearEcc _ => true
  | .memoryEccError _ _ _ random t => isWord random && isCount t
  | .dramFailure t => isCount t
  | .vinSample _ t => isCount t
  | .vinLoss t => isCount t
  | .keepOnlyExit t => isCount t
  | .thermalLatchClear t => isCount t
  | .powerDormant value t => isWord value && isCount t
  | .powerWake t => isCount t
  | .wakeNEvent _ _ t => isCount t
  | .analogOff _ t => isCount t
  | .bbPhyOff _ t => isCount t
  | .powerHandshakePoll busy t => decide (busy < 128) && isCount t
  | .powerEntryTimeout busy t => decide (busy < 128) && isCount t
  | .powerClearVinMin => true
  | .clockGo t => isCount t
  | .clockTrimFine _ value t => isWord value && isCount t
  | .pwmCommandEdge _ _ _ _ t => isCount t
  | .checkpointLoadDone released checked _ t => isCount released && isCount checked && isCount t
  | .canRxError _ _ t => isCount t
  | .safeResetStuckEnd t => isCount t
  | .tpoReadbackFault _ _ t => isCount t
  | .driveBandChange _ _ _ t => isCount t
  | .pcieLinkChange _ _ _ t => isCount t

end Sys2Proof
end

