-- ==== Sys2Proof/Tests/Slice0.lean ====
section
/-! SUPPORT. The model's own tests: terms that the well-formedness checks refuse, check values of the algorithms, single steps, and for each
statement of Certificates/Slice0/Obligations.lean that has hypotheses a witness for each of its clauses: a state and operands that meet them. -/

namespace Sys2Proof.Tests

open Sys2Proof.Machine

set_option Elab.async false

/-! ### Well-formedness -/

/-- One ill-formed command for each check of Instr.wf (part). -/
def illFormed1 : List Instr :=
  [.registerWrite 16777216 0 0 0, .registerWrite 0 9 0 0, .registerWrite 0 0 18446744073709551616 0, .registerWrite 0 0 0 18446744073709551616,
   .split64LowRead ⟨16777216, 4⟩ 0, .split64LowRead ⟨0, 4⟩ 18446744073709551616, .eventRegisterWrite 16777216 0, .eventRegisterWrite 0 4294967296,
   .supplyPor 18446744073709551616 true, .porRelease 18446744073709551616 0 none 0, .porRelease 0 0 none 4294967296, .resetNAssert 18446744073709551616 0,
   .resetNRelease 18446744073709551616, .softReset 4294967296 0 0, .softReset 0 18446744073709551616 0, .railPgood 0 18446744073709551616,
   .wakeTimeout 0 0 18446744073709551616, .pllLock 0 18446744073709551616, .pllLockLoss 0 18446744073709551616, .devResetRelease 18446744073709551616 0,
   .dramInitDone true 18446744073709551616, .imageFetchDone true 0 [] 18446744073709551616, .flashTimeout 18446744073709551616, .imageAuthenticate 18446744073709551616,
   .sectionChecks 18446744073709551616, .imageCommit [] true 65536 0, .imageCommit [] true 0 18446744073709551616, .laneUpTimeout 18446744073709551616,
   .kickoffGrant 18446744073709551616, .imageLoad 0 18446744073709551616, .imageAbort 18446744073709551616, .epochBurn 18446744073709551616,
   .keyProgram 0 65536 0, .keyProgram 0 0 18446744073709551616, .keyRevoke 0 65536 0, .keyRevoke 0 0 18446744073709551616,
   .fuseOpDone true 18446744073709551616, .bar2Write 268435456 [] 0, .bar2Write 0 [] 18446744073709551616, .substRequest 4294967296 0,
   .substRequest 0 18446744073709551616, .sliceError 0 18446744073709551616, .substInService true 18446744073709551616, .spareSelftestFail 0 18446744073709551616,
   .frameTick 18446744073709551616 ⟨[], true⟩, .autoRedeblock 0 18446744073709551616, .tSample 18446744073709551616, .adcBurstStart 0 18446744073709551616,
   .adcResult 0 0 0 18446744073709551616, .dsOutput 0 0 [] 18446744073709551616, .uplinkSlot 0 18446744073709551616 (List.replicate 32 0), .uplinkSlot 0 0 (List.replicate 31 0),
   .uplinkSlot 0 0 (List.replicate 33 0), .uplinkTrainCrc 0 [] 4294967296, .callupReply 0 0 (List.replicate 31 0) 0, .callupReply 0 0 (List.replicate 33 0) 0,
   .callupReply 0 0 (List.replicate 32 0) 18446744073709551616, .callupLoop 0 0 0 18446744073709551616, .callupLaunch ⟨0, false⟩ 18446744073709551616, .laneSyncAcquire 0 18446744073709551616]

/-- One ill-formed command for each check of Instr.wf (part). -/
def illFormed2 : List Instr :=
  [.laneSyncLoss 0 18446744073709551616, .tFreeze 18446744073709551616, .autoRestore 0 18446744073709551616, .laneForceIdle 0 true 18446744073709551616,
   .tComputeEnd 18446744073709551616 true, .tRankEnd 18446744073709551616 [] [] true 0, .plannerStepDown 18446744073709551616, .overrunHoldEnd 18446744073709551616,
   .backgroundDispatch ⟨[], 0⟩ 18446744073709551616, .thermalShedStep 18446744073709551616, .trkEntryTimeout ⟨0, 0, 18446744073709551616⟩ 0, .trkEntryTimeout ⟨0, 0, 0⟩ 18446744073709551616,
   .leaseExpiry 18446744073709551616, .heartbeatLoss 0 18446744073709551616, .planeEccError 0 0 18446744073709551616, .planePgoodLoss 0 18446744073709551616,
   .planeErrorLine 0 18446744073709551616, .forceTakeover 18446744073709551616, .takeoverGrant 18446744073709551616, .halftimeNow 18446744073709551616,
   .halftimeHandover 18446744073709551616, .revive 18446744073709551616, .reviveComplete 18446744073709551616, .refereeMismatch 18446744073709551616,
   .pairPacket 0 256 ⟨List.replicate 112 0, true⟩ 0, .pairPacket 0 0 ⟨List.replicate 111 0, true⟩ 0, .pairPacket 0 0 ⟨List.replicate 1025 0, true⟩ 0, .pairPacket 0 0 ⟨List.replicate 112 0, true⟩ 18446744073709551616,
   .pairSilence 18446744073709551616, .hostCommandTake (List.replicate 127 0) 0, .hostCommandTake (List.replicate 129 0) 0, .hostCommandTake (List.replicate 128 0) 18446744073709551616,
   .journalRecordCommitted ⟨true, true⟩ 18446744073709551616, .jrnCplHeadWrite 4294967296, .ringRestart true 4294967296, .ringPcieError 18446744073709551616,
   .jrnMramEnable 4294967296 true 0, .jrnMramEnable 0 true 18446744073709551616, .jrnMramDisable 4294967296 true 0, .jrnMramDisable 0 true 18446744073709551616,
   .newEpoch 4294967296 ⟨0, true⟩ 0, .newEpoch 0 ⟨4294967296, true⟩ 0, .newEpoch 0 ⟨0, true⟩ 18446744073709551616, .setFramePeriod 4294967296,
   .cellAdmit 65536 0, .cellAdmit 0 18446744073709551616, .cellBypass 65536, .cellFaultClear 65536,
   .coeffWrite (List.replicate 3 0), .coeffWrite (List.replicate 89 0), .bankSwap 256, .paramWrite (List.replicate 5 0),
   .paramWrite (List.replicate 7 0), .convDeblock 256, .convBlock 256, .canQueue (List.replicate 7 0) 0 0,
   .canQueue (List.replicate 73 0) 0 0, .canQueue (List.replicate 8 0) 16 0, .canQueue (List.replicate 8 0) 0 4294967296, .canFlush 256 0]

/-- One ill-formed command for each check of Instr.wf (part). -/
def illFormed3 : List Instr :=
  [.canFlush 0 256, .coastLimit 0 18446744073709551616, .resyncTimeout 0 18446744073709551616, .safeInputChange 0 0 true 18446744073709551616,
   .safeFilterSettle 0 0 18446744073709551616, .safeUnsettled 0 0 18446744073709551616, .safeDiscrepancy 0 0 18446744073709551616, .tpoPulse 0 true true true 18446744073709551616,
   .tpoCheck 0 16 0, .tpoCheck 0 0 18446744073709551616, .safeStopTimer 0 0 18446744073709551616, .safeDriveEnvelope 18446744073709551616,
   .safeCrossExchange true true 18446744073709551616, .safeLinkSilence 0 18446744073709551616, .safeSelftestFail 0 18446744073709551616, .safeResetArm 4294967296 0,
   .safeResetArm 0 18446744073709551616, .safeArmExpiry 18446744073709551616, .safeResetFall 18446744073709551616, .safeResetRise 18446744073709551616,
   .safeResetStuck 18446744073709551616, .drvLoadall 4294967296 0, .drvLoadall 0 18446744073709551616, .drvSync 4294967296,
   .drvLatchClear ⟨0, 0⟩ 4294967296 0, .drvLatchClear ⟨0, 65536⟩ 0 0, .drvLatchClear ⟨0, 0⟩ 0 18446744073709551616, .carrierValley ⟨0, 0⟩ 0 65536 0 true (0, 0) 0,
   .carrierValley ⟨0, 0⟩ 0 0 4294967296 true (0, 0) 0, .carrierValley ⟨0, 65536⟩ 0 0 0 true (0, 0) 0, .carrierValley ⟨0, 0⟩ 0 0 0 true (0, 0) 18446744073709551616, .chopperBoundary ⟨0, 65536⟩ 0,
   .chopperBoundary ⟨0, 0⟩ 18446744073709551616, .desatTrip ⟨0, 65536⟩ 0 true 0, .desatTrip ⟨0, 0⟩ 0 true 18446744073709551616, .instantTrip ⟨0, 65536⟩ 0 0,
   .instantTrip ⟨0, 0⟩ 0 18446744073709551616, .vdrvUvlo 0 18446744073709551616, .vdrvRecover 0 18446744073709551616, .vbUndervoltage 0 0 18446744073709551616,
   .gateInterlock 0 0 18446744073709551616, .driveOtShutdown 0 18446744073709551616, .driveOtRelease 0 18446744073709551616, .barrierLinkLost 0 18446744073709551616,
   .barrierLinkRecover 0 65536 0, .barrierLinkRecover 0 0 18446744073709551616, .driveEnableChange 0 true 18446744073709551616, .chopCheck 0 18446744073709551616,
   .startFail 0 18446744073709551616, .catchTimeout 0 18446744073709551616, .catchSlow 0 18446744073709551616, .shortEnd 0 18446744073709551616,
   .stopseqCoastEnd 0 18446744073709551616, .spdEdge 0 true 18446744073709551616, .speedSignalLost 0 18446744073709551616, .adcCommit 18446744073709551616,
   .adcRefEnable 18446744073709551616, .adcRefReady 18446744073709551616, .hkRoundStart 18446744073709551616, .hkRoundDone [] 18446744073709551616]

/-- One ill-formed command for each check of Instr.wf (part). -/
def illFormed4 : List Instr :=
  [.keepCounterCopy 18446744073709551616, .timeSet 18446744073709551616, .timeStep 18446744073709551616, .timeSlewGo 18446744073709551616,
   .timeSlewDone 18446744073709551616, .timeSyncSet 18446744073709551616, .timeSyncClr 18446744073709551616, .timeServoChange true 18446744073709551616,
   .timeAddendWrite 4294967296 0, .timeAddendWrite 0 18446744073709551616, .ppsEdge ⟨true, 18446744073709551616⟩, .ppsLost 18446744073709551616,
   .ethRxFrame 0 [] true 0 18446744073709551616, .ethTxDescriptor 0 (List.replicate 31 0) [] 0, .ethTxDescriptor 0 (List.replicate 33 0) [] 0, .ethTxDescriptor 0 (List.replicate 32 0) [] 18446744073709551616,
   .ethRingRestart 0 true 4294967296, .ethDmaError 0 true 18446744073709551616, .ethLinkChange 0 true 0 true 18446744073709551616, .canSlotStart 0 0 18446744073709551616,
   .canSlotEnd 0 0 true 18446744073709551616, .canTxComplete 0 4294967296 0 0, .canTxComplete 0 0 18446744073709551616 0, .canTxComplete 0 0 0 18446744073709551616,
   .canTxAttemptFail 0 true 0 18446744073709551616, .canRecover 0 18446744073709551616, .canRecoveryDone 0 18446744073709551616, .canRxMessage 0 536870912 0 0 [] 0 0 0,
   .canRxMessage 0 0 32 0 [] 0 0 0, .canRxMessage 0 0 0 0 (List.replicate 65 0) 0 0 0, .canRxMessage 0 0 0 0 [] 4294967296 0 0, .canRxMessage 0 0 0 0 [] 0 18446744073709551616 0,
   .canRxMessage 0 0 0 0 [] 0 0 18446744073709551616, .canRxAck 0 64, .bbPortUp 0 256 0, .bbPortUp 0 0 18446744073709551616,
   .bbPortDown 0 true 18446744073709551616, .bbIdleEntry 0 18446744073709551616, .helloSend 0 18446744073709551616, .hello 0 256 (List.replicate 32 0) 0,
   .hello 0 0 (List.replicate 31 0) 0, .hello 0 0 (List.replicate 33 0) 0, .hello 0 0 (List.replicate 32 0) 18446744073709551616, .bbPartnerLost 0 18446744073709551616,
   .jrnCmd 0 256 (List.replicate 128 0) 0, .jrnCmd 0 0 (List.replicate 127 0) 0, .jrnCmd 0 0 (List.replicate 129 0) 0, .jrnCmd 0 0 (List.replicate 128 0) 18446744073709551616,
   .hostRd 0 256 (List.replicate 8 0) 0, .hostRd 0 0 (List.replicate 7 0) 0, .hostRd 0 0 (List.replicate 9 0) 0, .hostRd 0 0 (List.replicate 8 0) 18446744073709551616,
   .hostWr 0 256 (List.replicate 12 0) 0, .hostWr 0 0 (List.replicate 11 0) 0, .hostWr 0 0 (List.replicate 137 0) 0, .hostWr 0 0 (List.replicate 12 0) 18446744073709551616,
   .imagePacket 0 256 (List.replicate 8 0) 0, .imagePacket 0 0 (List.replicate 7 0) 0, .imagePacket 0 0 (List.replicate 1025 0) 0, .imagePacket 0 0 (List.replicate 8 0) 18446744073709551616]

/-- One ill-formed command for each check of Instr.wf (part). -/
def illFormed5 : List Instr :=
  [.collectorEvent 18446744073709551616, .quietTimeout 18446744073709551616, .timePtpRead 18446744073709551616, .aliveToggle 18446744073709551616,
   .memoryEccError 0 0 true 4294967296 0, .memoryEccError 0 0 true 0 18446744073709551616, .dramFailure 18446744073709551616, .vinSample 0 18446744073709551616,
   .vinLoss 18446744073709551616, .keepOnlyExit 18446744073709551616, .thermalLatchClear 18446744073709551616, .powerDormant 4294967296 0,
   .powerDormant 0 18446744073709551616, .powerWake 18446744073709551616, .wakeNEvent true true 18446744073709551616, .analogOff true 18446744073709551616,
   .bbPhyOff true 18446744073709551616, .powerHandshakePoll 128 0, .powerHandshakePoll 0 18446744073709551616, .powerEntryTimeout 128 0,
   .powerEntryTimeout 0 18446744073709551616, .clockGo 18446744073709551616, .clockTrimFine 0 4294967296 0, .clockTrimFine 0 0 18446744073709551616,
   .pwmCommandEdge 0 0 true 0 18446744073709551616, .checkpointLoadDone 18446744073709551616 0 true 0, .checkpointLoadDone 0 18446744073709551616 true 0, .checkpointLoadDone 0 0 true 18446744073709551616,
   .canRxError 0 0 18446744073709551616, .safeResetStuckEnd 18446744073709551616, .tpoReadbackFault 0 0 18446744073709551616, .driveBandChange 0 0 true 18446744073709551616,
   .pcieLinkChange true true true 18446744073709551616]

theorem test_wf_refuses_1 : illFormed1.all (fun i => !i.wf) = true := by decide +kernel
theorem test_wf_refuses_2 : illFormed2.all (fun i => !i.wf) = true := by decide +kernel
theorem test_wf_refuses_3 : illFormed3.all (fun i => !i.wf) = true := by decide +kernel
theorem test_wf_refuses_4 : illFormed4.all (fun i => !i.wf) = true := by decide +kernel
theorem test_wf_refuses_5 : illFormed5.all (fun i => !i.wf) = true := by decide +kernel

/-- Each command with operands at the least the checks admit (part). -/
def wellFormed1 : List Instr :=
  [.registerWrite 0 0 0 0, .split64LowRead ⟨0, 4⟩ 0, .eventRegisterWrite 0 0, .supplyPor 0 true,
   .porRelease 0 0 none 0, .resetNAssert 0 0, .resetNRelease 0, .softReset 0 0 0,
   .railPgood 0 0, .wakeTimeout 0 0 0, .pllLock 0 0, .pllLockLoss 0 0,
   .devResetRelease 0 0, .dramInitDone true 0, .imageFetchDone true 0 [] 0, .flashTimeout 0,
   .imageAuthenticate 0, .sectionChecks 0, .imageCommit [] true 0 0, .laneUpTimeout 0,
   .kickoffGrant 0, .imageLoad 0 0, .imageAbort 0, .epochBurn 0,
   .keyProgram 0 0 0, .keyRevoke 0 0 0, .fuseOpDone true 0, .bar2Write 0 [] 0,
   .substRequest 0 0, .sliceError 0 0, .substInService true 0, .spareSelftestFail 0 0,
   .frameTick 0 ⟨[], true⟩, .autoRedeblock 0 0, .tSample 0, .adcBurstStart 0 0,
   .adcResult 0 0 0 0, .adcResultRead 0 0, .dsOutput 0 0 [] 0, .uplinkSlot 0 0 (List.replicate 32 0),
   .uplinkTrainCrc 0 [] 0, .callupReply 0 0 (List.replicate 32 0) 0, .callupLoop 0 0 0 0, .callupLaunch ⟨0, false⟩ 0,
   .laneSyncAcquire 0 0, .laneSyncLoss 0 0, .tFreeze 0, .autoRestore 0 0,
   .laneRestore 0, .laneCallup 0, .laneForceIdle 0 true 0, .engineGraphComplete 0 0,
   .tComputeEnd 0 true, .tRankEnd 0 [] [] true 0, .plannerStepDown 0, .overrunHoldEnd 0,
   .backgroundDispatch ⟨[], 0⟩ 0, .thermalShedStep 0, .trkEntryTimeout ⟨0, 0, 0⟩ 0, .leaseExpiry 0]

/-- Each command with operands at the least the checks admit (part). -/
def wellFormed2 : List Instr :=
  [.heartbeatLoss 0 0, .planeEccError 0 0 0, .planePgoodLoss 0 0, .planeErrorLine 0 0,
   .forceTakeover 0, .takeoverGrant 0, .halftimeNow 0, .halftimeHandover 0,
   .revive 0, .reviveComplete 0, .refereeMismatch 0, .pairPacket 0 0 ⟨List.replicate 112 0, true⟩ 0,
   .pairSilence 0, .hostCommandTake (List.replicate 128 0) 0, .journalRecordCommitted ⟨true, true⟩ 0, .jrnCplHeadWrite 0,
   .ringRestart true 0, .ringPcieError 0, .jrnMramEnable 0 true 0, .jrnMramDisable 0 true 0,
   .newEpoch 0 ⟨0, true⟩ 0, .jrnHalfRebuilt 0, .setFramePeriod 0, .cellAdmit 0 0,
   .cellBypass 0, .cellFaultClear 0, .coeffWrite (List.replicate 4 0), .bankSwap 0,
   .paramWrite (List.replicate 6 0), .convDeblock 0, .convBlock 0, .canQueue (List.replicate 8 0) 0 0,
   .canFlush 0 0, .coastLimit 0 0, .resyncTimeout 0 0, .safeInputChange 0 0 true 0,
   .safeFilterSettle 0 0 0, .safeUnsettled 0 0 0, .safeDiscrepancy 0 0 0, .tpoPulse 0 true true true 0,
   .tpoCheck 0 0 0, .safeStopTimer 0 0 0, .safeDriveEnvelope 0, .safeCrossExchange true true 0,
   .safeLinkSilence 0 0, .safeSelftestFail 0 0, .safeResetArm 0 0, .safeArmExpiry 0,
   .safeResetFall 0, .safeResetRise 0, .safeResetStuck 0, .drvLoadall 0 0,
   .drvSync 0, .drvLatchClear ⟨0, 0⟩ 0 0, .drvClearCounts 0, .carrierValley ⟨0, 0⟩ 0 0 0 true (0, 0) 0,
   .chopperBoundary ⟨0, 0⟩ 0, .desatTrip ⟨0, 0⟩ 0 true 0, .instantTrip ⟨0, 0⟩ 0 0, .vdrvUvlo 0 0]

/-- Each command with operands at the least the checks admit (part). -/
def wellFormed3 : List Instr :=
  [.vdrvRecover 0 0, .vbUndervoltage 0 0 0, .gateInterlock 0 0 0, .driveOtShutdown 0 0,
   .driveOtRelease 0 0, .barrierLinkLost 0 0, .barrierLinkRecover 0 0 0, .driveEnableChange 0 true 0,
   .motChopReset 0, .chopCheck 0 0, .startFail 0 0, .catchTimeout 0 0,
   .catchSlow 0 0, .shortEnd 0 0, .stopseqCoastEnd 0 0, .spdEdge 0 true 0,
   .speedSignalLost 0 0, .adcCommit 0, .adcRefEnable 0, .adcRefReady 0,
   .hkRoundStart 0, .hkRoundDone [] 0, .keepCounterCopy 0, .timeSet 0,
   .timeStep 0, .timeSlewGo 0, .timeSlewDone 0, .timeSyncSet 0,
   .timeSyncClr 0, .timeServoChange true 0, .timeAddendWrite 0 0, .ppsEdge ⟨true, 0⟩,
   .ppsLost 0, .ethRxFrame 0 [] true 0 0, .ethTxDescriptor 0 (List.replicate 32 0) [] 0, .ethTxtsRead 0,
   .ethRingRestart 0 true 0, .ethDmaError 0 true 0, .ethLinkChange 0 true 0 true 0, .canSlotStart 0 0 0,
   .canSlotEnd 0 0 true 0, .canTxComplete 0 0 0 0, .canTxAttemptFail 0 true 0 0, .canRecover 0 0,
   .canRecoveryDone 0 0, .canRxMessage 0 0 0 0 [] 0 0 0, .canRxAck 0 0, .canTxeRead 0,
   .bbPortUp 0 0 0, .bbPortDown 0 true 0, .bbIdleEntry 0 0, .helloSend 0 0,
   .hello 0 0 (List.replicate 32 0) 0, .bbPartnerLost 0 0, .jrnCmd 0 0 (List.replicate 128 0) 0, .hostRd 0 0 (List.replicate 8 0) 0,
   .hostWr 0 0 (List.replicate 12 0) 0, .imagePacket 0 0 (List.replicate 8 0) 0, .bbPacketDiscard 0 true, .collectorEvent 0]

/-- Each command with operands at the least the checks admit (part). -/
def wellFormed4 : List Instr :=
  [.quietTimeout 0, .faultClearCounts, .faultClearHist, .firstFatalClear,
   .faultHistRead 0, .timePtpRead 0, .aliveToggle 0, .xbarWaitClear,
   .frameClearOverrun, .frameClearStale, .frameClearTracker, .frameClearGaps,
   .laneClearCounts 0, .armClearCounts 0, .engClearCycles 0, .engClearEcc 0,
   .memoryEccError 0 0 true 0 0, .dramFailure 0, .vinSample 0 0, .vinLoss 0,
   .keepOnlyExit 0, .thermalLatchClear 0, .powerDormant 0 0, .powerWake 0,
   .wakeNEvent true true 0, .analogOff true 0, .bbPhyOff true 0, .powerHandshakePoll 0 0,
   .powerEntryTimeout 0 0, .powerClearVinMin, .clockGo 0, .clockTrimFine 0 0 0,
   .pwmCommandEdge 0 0 true 0 0, .checkpointLoadDone 0 0 true 0, .canRxError 0 0 0, .safeResetStuckEnd 0,
   .tpoReadbackFault 0 0 0, .driveBandChange 0 0 true 0, .pcieLinkChange true true true 0]

theorem test_wf_admits_1 : wellFormed1.all (·.wf) = true := by decide +kernel
theorem test_wf_admits_2 : wellFormed2.all (·.wf) = true := by decide +kernel
theorem test_wf_admits_3 : wellFormed3.all (·.wf) = true := by decide +kernel
theorem test_wf_admits_4 : wellFormed4.all (·.wf) = true := by decide +kernel


/-! ### The decoder and the algorithms -/

/-- The table gives no row any bit, so no word spells a command. -/
theorem test_no_word_decodes : decodeTableWord 32 0 = none ∧ decodeTableWord 8 255 = none := by decide

/-- The check values of the two CRCs of R97 over the digits 1 to 9, as catalogues of CRCs give them. -/
theorem test_crc_check_values :
    crc16 [0x31, 0x32, 0x33, 0x34, 0x35, 0x36, 0x37, 0x38, 0x39] = 0x29B1 ∧
    crc32 [0x31, 0x32, 0x33, 0x34, 0x35, 0x36, 0x37, 0x38, 0x39] = 0xCBF43926 := by decide +kernel

/-- The example of FIPS 180-4 for SHA-384: the three bytes "abc". -/
theorem test_sha384_abc : sha384 [0x61, 0x62, 0x63] =
    0xcb00753f45a35e8bb5a03d699ac65007272c32ab0eded1631a8b605a43ff5bed8086072ba1e7cc2358baeca134c825a7 := by decide +kernel

/-! ### States -/

/-- A small structure: two chains of two cells on one arm of one converter, one engine position, one safety group with two pairs, one CAN
controller and two partners. -/
def cfg0 : Cfg :=
  { (default : Cfg) with
    loaded := true, imageId := 0x1122, version := 3, size := 2048, epoch := 1, keySlot := 0
    frame := ⟨20000, 10000, 50000, 2500, 5000, 6000, 8500, 9500, 0, 5, 0x2C688, 1000, List.replicate 16 500, List.replicate 12 400⟩
    slices := [⟨0, 1, 0⟩, ⟨1, 1, 1⟩, ⟨2, 2, 0⟩, ⟨3, 4, 0⟩, ⟨4, 3, 0⟩, ⟨5, 5, 0⟩, ⟨6, 1, 2⟩, ⟨7, 1, 3⟩]
    chains := [⟨0, 0, 0, 2, 1, 0, 0⟩, ⟨1, 0, 1, 2, 1, 0, 2⟩]
    cells := [⟨0, 1, 0x100⟩, ⟨1, 1, 0x101⟩, ⟨2, 1, 0x102⟩, ⟨3, 1, 0x103⟩]
    arms := [⟨0, 0, 0, 2, 4, 1000, 50, 200, 3000, 3500, 10, 100, 100, 100, 100, 800, 100, 0⟩]
    convs := [⟨0, 2, 1, 50, 0, 1000⟩]
    limits := ⟨4, 200, 64, 60, 1000, 500, 1000⟩
    safety := {
      groups := 3, tpoEn := 15, tpPeriodNs := 4000000, tpWidthNs := 500000,
      pairs := [⟨1, 0, 1, 0, 100000, 1000000⟩, ⟨1, 2, 3, 1, 100000, 1000000⟩],
      group := [{ (default : SafeGroupCfg) with kind := 1, stopMaxMs := 10 },
                          { (default : SafeGroupCfg) with kind := 2, stop := 1, driveMask := 1, stopMaxMs := 10, decel := 100 }] }
    graphs := [{ (default : Graph) with
      position := 0, exports := 1, coefEntries := 4, params0 := List.replicate 64 0, init := [],
      blocks := [], bankA := List.replicate 4 ⟨1, 0⟩, bankB := List.replicate 4 ⟨2, 0⟩ }]
    adc := some { (default : AdcCfg) with
      armSrc := List.replicate 12 0, inputs := List.replicate 64 0, lens := [1],
      entries := [[⟨0, 100, 0, false, 32768, 0, 0, 0⟩]], seqEn := [true] }
    motors := [(0, { (default : MotCfg) with
      polePairs := 2, speedMax := 3000, accel := 100, decel := 100, confMin := 10, confCatch := 10,
      shortMs := 5, stopCoastMs := 5, ov2 := 500, chopCheckUs := 100, timeoutMs := 50 })]
    cans := [{ (default : CanCfg) with
      can := 0, mode := 1, fdEn := true, a := 1, b := 1, cols := [(0, 1000)],
      elems := List.replicate 128 64, filters := [] }]
    time := { (default : TimeCfg) with modes := [1, 1], flags := [0, 0], macs := [[], []], lat := [0, 0, 0, 0], lockNs := 500 }
    bb := some ⟨1, none, [(true, 0), (true, 0), (false, 0), (false, 0)], [⟨1, 16, 15, 0⟩, ⟨2, 17, 0, 0⟩, ⟨3, 18, 15, 0x55⟩]⟩ }

/-- A device in RUN at 20 s: plane A holds the ball, every lane end is in sync, the converter is BLOCKED. -/
def run0 : State :=
  let s : State := { State.reset with
    time := { (default : TimeSt) with ns := 20000000000 }
    power := { (default : PowerSt) with bridge := true, supplied := true, pgood := 0xFFFFFF }
    load := { (default : LoadSt) with dram := true, accepted := true }
    host := { (default : HostSt) with linkUp := true }
    cfg := cfg0
    fr := { (default : FrameSt) with phase := .open, ticks := 50, nextTick := 20000020000 }
    referee := { (default : RefSt) with ball := true, heartbeat := true } }
  let s := (s.wr Reg.POWER_STATE.STATE stRun).wr Reg.FRAME_STATUS.RUNNING 1
  let s := (s.wr Reg.REF_STATUS.STATE rsHeld).wr Reg.REF_STATUS.ROLE_A roActive
  let s := (s.wr Reg.REF_STATUS.ROLE_B roCold).wr Reg.REF_STATUS.LEASE 4
  let s := s.each cfg0.slices fun s c =>
    ((s.wr Reg.SLICE_ROLE.ROLE c.role c.slice).wr Reg.SLICE_ROLE.TARGET c.target c.slice).wr Reg.SLICE_ROLE.STATE 1 c.slice
  let s := s.each [0, 1, 2, 3] fun s l =>
    ((s.wr Reg.LANE_STATUS.SYNC 1 l).wr Reg.LANE_CHAIN.CELLS 2 l).wr Reg.LANE_CHAIN.SPLIT 1 l
  let s := s.each [0, 1, 2, 3] fun s n => s.wr Reg.CELL_STATE.STATE csService n
  let s := s.wr Reg.CONV_STATE.STATE cvBlocked 0
  let s := (s.wr Reg.ENG_STATUS.LOADED 1 0).wr Reg.ENG_STATUS.LOADED 1 8
  let s := (s.wr Reg.BB_CTRL.EN 1 0).wr Reg.BB_STATUS.UP 1 0
  let s := ((s.wr Reg.ETH_CTRL.MODE 1 0).wr Reg.ETH_STATUS.LINK 1 0).wr Reg.ETH_CTRL.RX_EN 1 0
  let s := (s.wr Reg.CAN_CTRL.MODE 1 0).wr Reg.CAN_STATUS.STATE 1 0
  (s.wr Reg.DRV_STATUS.LINK 1 0).wr Reg.DRV_STATUS.ENABLE 1 0

/-- The state with a device state of Table 18-7. -/
def inState (s : State) (k : Nat) : State := s.wr Reg.POWER_STATE.STATE k

/-- A signed message of 32 bytes: a hash that is the x of a curve point R, r = s = the hash, and the key R − G, so that R78's check 4 holds. -/
def signedKey : List Byte := 4 :: beBytes 48 0xbc87482e8bddc36f31db89ebb4ebdb3cc8a01805b93f9dd9706ba75444df1c79567dbcf49cb02726a2bc81c26822f28d ++ beBytes 48 0x7a9dac8f97abc611bd34129e365a12da71260e683b1621a86178f47b24da4cdb1716e25451d9260c462841d44dbb9de9
def signedImage : List Byte :=
  4 :: List.replicate 31 0 ++ signedKey ++ List.replicate 7 0 ++ beBytes 48 0x88a01647f3f2265b3076713a30cacc582c0781fd6f81150e41598d738eb8e12fabfa530d2dcd82d76ed1920208841b0a ++ beBytes 48 0x88a01647f3f2265b3076713a30cacc582c0781fd6f81150e41598d738eb8e12fabfa530d2dcd82d76ed1920208841b0a ++ List.replicate 56 0

/-- The sections of a small image, from Tables 03-6 to 03-12, 06-1, 13-6 and 07-7 to 07-9: one SST of three arms, each with one chain of one
DAB cell, and one graph of one SUM block. -/
def imageSections : List (Nat × List Byte) :=
  [(1, leBytes 4 20000 ++ leBytes 4 20000 ++ leBytes 4 20000 ++ leBytes 2 3000 ++ leBytes 2 3000 ++ leBytes 2 5500 ++ leBytes 2 8250
      ++ leBytes 2 9750 ++ [0, 0] ++ leBytes 2 0x4688 ++ List.replicate 6 0 ++ leBytes 2 100 ++ List.replicate 38 0),
   (2, ((upTo 6).flatMap fun n => [BitVec.ofNat 8 n, 1, BitVec.ofNat 8 n, 0]) ++ ((upTo 3).flatMap fun n => [BitVec.ofNat 8 (6 + n), 2, BitVec.ofNat 8 n, 0])
      ++ [9, 3, 0, 0, 10, 4, 0, 0] ++ ((upTo 8).flatMap fun n => [BitVec.ofNat 8 (11 + n), 5, 0, 0])),
   (3, (upTo 3).flatMap fun n => [BitVec.ofNat 8 n, BitVec.ofNat 8 n, 0, 1, 1, 0, BitVec.ofNat 8 n, 0]),
   (4, (upTo 3).flatMap fun n => [BitVec.ofNat 8 n, 0, 2] ++ List.replicate 13 0),
   (5, (upTo 3).flatMap fun n => [BitVec.ofNat 8 n, 0, BitVec.ofNat 8 n, 1, 1, 0, 64, 0, 0, 0, 0, 0, 1, 0, 2, 0, 0, 0, 0, 0, 1, 0, 0, 0, 1, 0]
      ++ List.replicate 6 0),
   (6, [0, 3, 7] ++ List.replicate 13 0),
   (7, List.replicate 32 0),
   (0x10, 1 :: List.replicate 191 0 ++ [1, 0, 0xFF, 0, 10, 0, 0, 0, 1, 0] ++ List.replicate 310 0),
   (0x11, 1 :: List.replicate 9 0 ++ [1, 0, 0, 0, 0, 0, 0x50, 1] ++ List.replicate 22 0 ++ [1, 0, 1, 0] ++ List.replicate 300 0),
   (0x12, List.replicate 8 0)]

/-- Zeros up to a multiple of 8. -/
def padTo8 (b : List Byte) : List Byte := b ++ List.replicate ((8 - b.length % 8) % 8) 0

/-- The image of those sections (Tables 03-3, 03-4 and 03-13), not signed. -/
def smallImage : List Byte :=
  let bodies := imageSections.flatMap fun p => padTo8 p.2
  let n := 416 + bodies.length + 256
  let table := imageSections.foldl (fun (r : Nat × List Byte) p =>
    (r.1 + (padTo8 p.2).length, r.2 ++ leBytes 2 p.1 ++ leBytes 2 1 ++ leBytes 4 r.1 ++ leBytes 4 p.2.length ++ leBytes 4 (crc32 p.2))) (416, [])
  leBytes 4 0x4953584C ++ leBytes 2 1 ++ leBytes 2 0 ++ leBytes 4 n ++ leBytes 2 10 ++ leBytes 2 0 ++ leBytes 8 1 ++ List.replicate 8 0
    ++ leBytes 4 256 ++ List.replicate 220 0 ++ table.2 ++ bodies ++ List.replicate 256 0
/-- Fuses whose first slot holds the hash of that key. -/
def signedFuses : Fuses := { (default : Fuses) with slot0 := ⟨some 0x1d42a4b6a41b043ccb3c99fbe04a9a73680c755791f074bf5fc6be272b1d8950fd99a47c02681686f044bfb7351380f2, false⟩ }


/-! ### Single steps -/

/-- What a step answers, where it answers a next state that satisfies p. -/
def steps (s : State) (p : State → Bool) : Bool :=
  match step s with
  | .next n => p n
  | _ => false

/-- The queue is first in, first out. -/
theorem test_step_takes_the_front :
    steps { run0 with pending := [.xbarWaitClear, .faultClearCounts] } (fun n => n.pending == [.faultClearCounts]) = true := by decide +kernel

/-- On an empty queue one SD clock cycle passes: 4 ns (R306). -/
theorem test_idle_is_one_cycle : steps run0 (fun n => n.time.ns == run0.time.ns + 4) = true := by decide +kernel

/-- SET_FRAME_PERIOD outside the validated range changes no period (R39). -/
theorem test_period_range : steps { run0 with pending := [.setFramePeriod 9999] } (fun n => n.fr.nextPeriod == none) = true := by decide +kernel

/-- JRN_CPL_HEAD takes the host's index (R346). -/
theorem test_completion_head : steps { run0 with pending := [.jrnCplHeadWrite 5] } (fun n => n.rd Reg.JRN_CPL_HEAD.INDEX == 5) = true := by
  decide +kernel

/-! ### Witnesses of the statements -/

/-- Obligations.StepRunsTheFrontCommand. -/
theorem test_step_runs_the_front_command :
    (let s : State := run0
     s.pending = []) := by decide +kernel

/-- Obligations.EveryStepKeepsTheStores. -/
theorem test_every_step_keeps_the_stores :
    (let s : State := run0
     s.storesWf = true ∧ (match step s with | .next _ => true | _ => false) = true) := by decide +kernel

/-- Obligations.EveryStepKeepsTheSheddingSteps. -/
theorem test_every_step_keeps_the_shedding_steps :
    (let s : State := run0
     (s.rd Reg.POWER_SHED.VIN_STEP ≤ 6 ∧ s.rd Reg.POWER_SHED.THERMAL_STEP ≤ 6 ∧ s.rd Reg.PLAN_THERMAL.SHED_STEP = s.rd
       Reg.POWER_SHED.THERMAL_STEP ∧ s.rd Reg.POWER_SHED.STEP = max (s.rd Reg.POWER_SHED.VIN_STEP) (s.rd Reg.POWER_SHED.THERMAL_STEP)) ∧
       (match step s with | .next _ => true | _ => false) = true) := by decide +kernel

/-- Obligations.InterruptsFollowTheirSources. -/
theorem test_interrupts_follow_their_sources :
    (let c : Instr := .xbarWaitClear
     let s : State := run0
     (match exec c s with | .next _ => true | _ => false) = true) := by decide +kernel

/-- Obligations.DriveDieShutdownStaysLatched. -/
theorem test_drive_die_shutdown_stays_latched :
    (let u : Fin 4 := 1
     let s : State := run0
     let s : State := s.modDrv u.val fun x => { x with otLatch := (true) }
     let s : State := s.modDrv 1 fun d => { d with otLatch := true }
     let s : State := { s with power := { s.power with sinceVdrvLow := Tbl.put 0 s.power.sinceVdrvLow 1 19990000001 }, pending := [.driveOtRelease 1 20000000000] }
     let n : State := (match step s with | .next n => n | _ => s)
     (match step s with | .next _ => true | _ => false) = true ∧ (s.drv u.val).otLatch = true ∧ (n.drv u.val).otLatch = false) ∧
    (let u : Fin 4 := 0
     let s : State := run0
     let s : State := s.modDrv u.val fun x => { x with otLatch := (false) }
     s.hasUnit u.val = true ∧ (s.drv u.val).otLatch = false ∧ s.mayRaise = true) ∧
    (let u : Fin 4 := 0
     let s : State := run0
     s.hasUnit u.val = true) := by
  refine ⟨?_, ?_, ?_⟩ <;> decide +kernel

/-- Obligations.HostWritesChangeWritableBitsAlone. -/
theorem test_host_writes_change_writable_bits_alone :
    (let a : Nat := Reg.TIME_PPS_OFFSET.VALUE.addr
     let v : Nat := 7
     let t : Nat := 20000000000
     let s : State := run0
     let f : Field := ((regAt a).getD default).1.headD default
     let r : List Field := ((regAt a).getD default).1.tail
     let i : Nat := ((regAt a).getD default).2.1
     let j : Nat := ((regAt a).getD default).2.2
     regAt a = some (f :: r, i, j) ∧ (s.elapse t).reachable a = true ∧ (s.elapse t).actingWrite f.addr i (v % 4294967296) = none ∧ f.addr ≠
       Reg.HOST_IRQ_PENDING.SOURCE.addr) ∧
    (let a : Nat := 0
     let z : Nat := 0
     let s : State := run0
     (z ≠ 4 ∨ a % 4 ≠ 0 ∨ 16777216 ≤ a ∨ s.power.held = true ∨ s.present a = false ∨ (regAt a = none ∧ (a < 0x800 ∨ 0xBFF < a)))) ∧
    (let a : Nat := 0
     let z : Nat := 0
     let s : State := run0
     (z ≠ 4 ∨ a % 4 ≠ 0 ∨ 16777216 ≤ a ∨ s.power.held = true ∨ s.present a = false)) ∧
    (let r : RegRead := ⟨0, 2⟩
     r.size ≠ 4) := by
  refine ⟨?_, ?_, ?_, ?_⟩ <;> decide +kernel

/-- Obligations.ActionBitsRunTheirCommands. -/
theorem test_action_bits_run_their_commands :
    (let s : State := run0
     let s : State := { s with power := { s.power with held := (false) } }
     s.power.held = false) := by decide +kernel

/-- Obligations.SplitReadsStagingAndLinkChanges. -/
theorem test_split_reads_staging_and_link_changes :
    (let a : Nat := 0x7018
     let t : Nat := 20000000000
     let s : State := run0
     (s.elapse t).reachable a = true ∧ isSplitLow a = true) ∧
    (let a : Nat := 0x14
     let w : Nat := 7
     let s : State := run0
     let s : State := { s with hold := Tbl.put 0 s.hold 0x14 8 }
     s.reachable a = true ∧ Tbl.look 0 s.hold a = w + 1) ∧
    (let a : Nat := 0x4024
     let s : State := run0
     let f : Field := ((regAt a).getD default).1.headD default
     let r : List Field := ((regAt a).getD default).1.tail
     let i : Nat := ((regAt a).getD default).2.1
     let j : Nat := ((regAt a).getD default).2.2
     regAt a = some (f :: r, i, j) ∧ eventSource f.addr i ≠ none ∧ s.reachable a = true) ∧
    (let a : Nat := 0
     eventSourceAt a = none) ∧
    (let o : Nat := 0
     let n : Nat := 0
     let s : State := run0
     let s : State := { s with power := { s.power with held := (false) } }
     let s : State := s.wr Reg.POWER_STATE.STATE stRun
     let s : State := { s with load := { s.load with dram := (true) } }
     s.power.held = false ∧ s.device = stRun ∧ s.load.dram = true ∧ o + n ≤ 268435456) ∧
    (let a : Nat := 8589934592
     8589934592 ≤ a) ∧
    (let o : Nat := 0
     let n : Nat := 0x1000001
     let s : State := run0
     let s : State := { s with power := { s.power with held := (false) } }
     let s : State := s.wr Reg.POWER_STATE.STATE stRun
     let s : State := { s with load := { s.load with dram := (false) } }
     let s : State := { s with load := { s.load with dram := false } }
     s.power.held = false ∧ s.device = stRun ∧ s.load.dram = false ∧ o < 0x10000000 ∧ 0 < n ∧ 0x1000000 < o + n) ∧
    (let o : Nat := 0
     let b : List Byte := []
     let s : State := run0
     let s : State := { s with power := { s.power with held := (false) } }
     let s : State := s.wr Reg.POWER_STATE.STATE stKickOff
     let s : State := { s with load := { s.load with dram := (true) } }
     s.power.held = false ∧ s.device = stKickOff ∧ s.load.dram = true ∧ o + b.length ≤ maxImage) ∧
    (let s : State := run0
     let s : State := s.wr Reg.POWER_STATE.STATE ((if stKickOff = 0 then 1 else 0))
     s.device ≠ stKickOff) ∧
    (let s : State := run0
     let s : State := { s with power := { s.power with held := (false) } }
     s.power.held = false) := by
  refine ⟨?_, ?_, ?_, ?_, ?_, ?_, ?_, ?_, ?_, ?_⟩ <;> decide +kernel

/-- Obligations.BackbonePortsAndPartnersComeAndGo. -/
theorem test_backbone_ports_and_partners_come_and_go :
    (let p : Fin 4 := 0
     let k : Nat := 0
     let s : State := run0
     s.portOn p.val = true ∧ k ≤ 8) ∧
    (let p : Fin 4 := 0
     let k : Nat := 9
     let s : State := run0
     (s.portOn p.val = false ∨ 8 < k)) ∧
    (let p : Fin 4 := 0
     let t : Nat := 20000000000
     let s : State := run0
     let s : State := s.wr Reg.BB_STATUS.UP 1 p.val
     let s : State := s.wr Reg.BB_CTRL.IDLE_US 1 p.val
     let s : State := s.wr Reg.BB_CTRL.PAIR 0 p.val
     s.portUp p.val = true ∧ s.rd Reg.BB_CTRL.IDLE_US p.val ≠ 0 ∧ s.on Reg.BB_CTRL.PAIR p.val = false ∧ Tbl.look 0 s.host.idleSince p.val +
       1000 * s.rd Reg.BB_CTRL.IDLE_US p.val ≤ (s.elapse t).time.ns + 1) ∧
    (let p : Fin 4 := 0
     let s : State := run0
     (s.on Reg.BB_CTRL.PAIR p.val = true ∨ s.rd Reg.BB_CTRL.IDLE_US p.val = 0)) ∧
    (let p : Fin 4 := 0
     let s : State := run0
     let s : State := s.wr Reg.BB_STATUS.UP 1 p.val
     s.portUp p.val = true) ∧
    (let p : Fin 4 := 0
     let s : State := run0
     let s : State := s.wr Reg.BB_STATUS.UP 1 p.val
     s.portUp p.val = true) ∧
    (let p : Fin 4 := 0
     let src : Nat := 18
     let t : Nat := 20000000000
     let b : List Byte := leBytes 8 0x55 ++ leBytes 8 0x1122
     let s : State := run0
     let s : State := s.wr Reg.BB_STATUS.UP 1 p.val
     let s : State := { s with host := { s.host with partners := Tbl.put default s.host.partners 3 { (default : Partner) with helloAt := some 19999000000 } } }
     let c : PartnerCfg := (s.partnerNamed src).getD default
     let h : Nat := ((s.partner c.source).helloAt).getD default
     s.portUp p.val = true ∧ s.partnerNamed src = some c ∧ (c.identity = 0 ∨ c.identity = u64At b 0) ∧ 1 ≤ c.source ∧ c.source ≤ 15 ∧
       (s.partner c.source).helloAt = some h ∧ (s.elapse t).time.ns ≤ h + 3000000) ∧
    (let p : Fin 4 := 0
     let src : Nat := 18
     let b : List Byte := leBytes 8 0x56 ++ leBytes 8 0x1122
     let s : State := run0
     let s : State := s.wr Reg.BB_STATUS.UP 1 p.val
     let c : PartnerCfg := (s.partnerNamed src).getD default
     s.portUp p.val = true ∧ s.partnerNamed src = some c ∧ c.identity ≠ 0 ∧ c.identity ≠ u64At b 0 ∧ 1 ≤ c.source ∧ c.source ≤ 15) ∧
    (let p : Fin 4 := 0
     let src : Nat := 0
     let s : State := run0
     let s : State := s.wr Reg.BB_STATUS.UP 1 p.val
     s.portUp p.val = true ∧ s.partnerNamed src = none) ∧
    (let k : Fin 16 := 3
     let t : Nat := 20000000000
     let s : State := run0
     let s : State := s.wr Reg.BB_PARTNER.STATE 2 (k.val - 1)
     let s : State := { s with host := { s.host with partners := Tbl.put default s.host.partners 3 { (default : Partner) with helloAt := some 19996000000 } } }
     let s : State := s.wr Reg.BB_PARTNER.STATE 2 2
     let h : Nat := ((s.partner k.val).helloAt).getD default
     k.val ≠ 0 ∧ s.known k.val = true ∧ (s.partner k.val).helloAt = some h ∧ h + 4000000 ≤ (s.elapse t).time.ns) := by
  refine ⟨?_, ?_, ?_, ?_, ?_, ?_, ?_, ?_, ?_, ?_⟩ <;> decide +kernel

/-- Obligations.BackboneRequestsNeedTheirRights. -/
theorem test_backbone_requests_need_their_rights :
    (let p : Fin 4 := 0
     let src : Nat := 16
     let s : State := run0
     let s : State := s.wr Reg.BB_STATUS.UP 1 p.val
     let s : State := s.wr Reg.BB_PARTNER.STATE 2 0
     let c : PartnerCfg := (s.partnerNamed src).getD default
     s.portUp p.val = true ∧ s.partnerNamed src = some c ∧ hasBit c.rights 0 = true ∧ s.known c.source = true) ∧
    (let p : Fin 4 := 0
     let src : Nat := 17
     let s : State := run0
     let s : State := s.wr Reg.BB_STATUS.UP 1 p.val
     let c : PartnerCfg := (s.partnerNamed src).getD default
     s.portUp p.val = true ∧ s.partnerNamed src = some c ∧ hasBit c.rights 0 = false) ∧
    (let p : Fin 4 := 0
     let src : Nat := 16
     let a : Nat := 0x40
     let w : Nat := 5
     let s : State := run0
     let s : State := s.wr Reg.BB_STATUS.UP 1 p.val
     let c : PartnerCfg := (s.partnerNamed src).getD default
     s.portUp p.val = true ∧ s.partnerNamed src = some c ∧ hasBit c.rights 1 = true ∧ s.partnerState c.source ≠ 3 ∧ a < 2 ^ 32 ∧ w < 2 ^ 32) ∧
    (let p : Fin 4 := 0
     let src : Nat := 16
     let b : List Byte := leBytes 4 0x40 ++ leBytes 4 1 ++ leBytes 4 7
     let s : State := run0
     let s : State := s.wr Reg.BB_STATUS.UP 1 p.val
     let c : PartnerCfg := (s.partnerNamed src).getD default
     s.portUp p.val = true ∧ s.partnerNamed src = some c ∧ hasBit c.rights 1 = true ∧ s.partnerState c.source ≠ 3 ∧ 1 ≤ u32At b 4 ∧ u32At b
       4 ≤ 32) ∧
    (let p : Fin 4 := 0
     let src : Nat := 17
     let b : List Byte := leBytes 4 0x40 ++ leBytes 4 32
     let s : State := run0
     let s : State := s.wr Reg.BB_STATUS.UP 1 p.val
     let c : PartnerCfg := (s.partnerNamed src).getD default
     s.portUp p.val = true ∧ s.partnerNamed src = some c ∧ hasBit c.rights 1 = false ∧ s.partnerState c.source ≠ 3 ∧ 1 ≤ u32At b 4 ∧ u32At b
       4 ≤ 32) ∧
    (let p : Fin 4 := 0
     let src : Nat := 16
     let b : List Byte := leBytes 4 0x40 ++ leBytes 4 32
     let s : State := run0
     let s : State := s.wr Reg.BB_STATUS.UP 1 p.val
     let c : PartnerCfg := (s.partnerNamed src).getD default
     s.portUp p.val = true ∧ s.partnerNamed src = some c ∧ s.partnerState c.source ≠ 3 ∧ 1 ≤ u32At b 4 ∧ u32At b 4 ≤ 32) ∧
    (let p : Fin 4 := 0
     let b : List Byte := leBytes 4 8 ++ leBytes 4 4 ++ [1, 2, 3, 4]
     let s : State := run0
     let s : State := s.wr Reg.BB_STATUS.UP 1 p.val
     let s : State := s.wr Reg.POWER_STATE.STATE stKickOff
     let s : State := { s with load := { s.load with dram := (true) } }
     let s : State := { s with cfg := { s.cfg with loaded := (false) } }
     let s : State := { s with host := { s.host with delivery := (none) } }
     let s : State := s.wr Reg.POWER_STATE.STATE stKickOff
     let s : State := s.wr Reg.IMAGE_BOOT.BOOT_SRC 2
     s.portUp p.val = true ∧ s.device = stKickOff ∧ 2 ≤ s.rd Reg.IMAGE_BOOT.BOOT_SRC ∧ s.load.dram = true ∧ s.cfg.loaded = false ∧
       s.host.delivery = none ∧ s.awaitsImage = false ∧ 1 ≤ u32At b 0 ∧ u32At b 0 ≤ maxImage ∧ u32At b 4 + ((b.drop 8).take 1016).length ≤
       u32At b 0) ∧
    (let src : Nat := 16
     let other : Nat := 18
     let total : Nat := 100
     let s : State := run0
     let s : State := { s with host := { s.host with delivery := (some (other, total)) } }
     let s : State := { s with host := { s.host with delivery := some (18, 100) } }
     s.host.delivery = some (other, total) ∧ other ≠ src ∧ s.imageRight src = true) := by
  refine ⟨?_, ?_, ?_, ?_, ?_, ?_, ?_, ?_⟩ <;> decide +kernel

/-- Obligations.TicksOpenEntriesAndFreezesPredict. -/
theorem test_ticks_open_entries_and_freezes_predict :
    (let t : Nat := 20000000000
     let s : State := run0
     let s : State := { s with time := { s.time with ns := ((s.elapse t).fr.nextTick) } }
     s.timerRuns = true ∧ (s.elapse t).time.ns = (s.elapse t).fr.nextTick) ∧
    (let t : Nat := 20000000000
     let s : State := run0
     (s.timerRuns = false ∨ (s.elapse t).time.ns ≠ (s.elapse t).fr.nextTick)) ∧
    (let s : State := run0
     let s : State := { s with fr := { s.fr with phase := (.open) } }
     s.timerRuns = true ∧ s.fr.phase = .open ∧ s.power.step6 ≠ 3 ∧ s.clocked 1 = true ∧ s.cellList.Nodup) ∧
    (let s : State := run0
     let s : State := { s with fr := { s.fr with phase := (.open) } }
     let s : State := { s with power := { s.power with step6 := (3) } }
     s.timerRuns = true ∧ s.fr.phase = .open ∧ s.power.step6 = 3) ∧
    (let s : State := run0
     let s : State := { s with fr := { s.fr with phase := .ranked } }
     (s.timerRuns = false ∨ s.fr.phase ≠ .open)) ∧
    (let s : State := run0
     let s : State := s.wr Reg.FRAME_STATUS.RUNNING 1
     s.ticking = true) ∧
    (let s : State := run0
     let s : State := s.wr Reg.FRAME_STATUS.RUNNING 0
     s.ticking = false) := by
  refine ⟨?_, ?_, ?_, ?_, ?_, ?_, ?_⟩ <;> decide +kernel

/-- Obligations.FrameEndsWithLeaseOrOverrun. -/
theorem test_frame_ends_with_lease_or_overrun :
    (let s : State := run0
     let s : State := { s with fr := { s.fr with phase := (.frozen) } }
     s.timerRuns = true ∧ s.fr.phase = .frozen) ∧
    (let s : State := run0
     (s.timerRuns = false ∨ s.fr.phase ≠ .frozen)) ∧
    (let s : State := run0
     let s : State := { s with fr := { s.fr with phase := (.computed) } }
     let s : State := { s with referee := { s.referee with ball := (true) } }
     s.timerRuns = true ∧ s.fr.phase = .computed ∧ s.referee.ball = true) ∧
    (let s : State := run0
     let s : State := { s with fr := { s.fr with phase := (.computed) } }
     let s : State := { s with referee := { s.referee with ball := (false) } }
     s.timerRuns = true ∧ s.fr.phase = .computed ∧ s.referee.ball = false) ∧
    (let s : State := run0
     (s.timerRuns = false ∨ s.fr.phase ≠ .computed)) := by
  refine ⟨?_, ?_, ?_, ?_, ?_⟩ <;> decide +kernel

/-- Obligations.PlannerKeepsPeriodLevelAndBudget. -/
theorem test_planner_keeps_period_level_and_budget :
    (let p : Nat := 10000
     let s : State := run0
     let s : State := s.wr Reg.FRAME_PERIOD.PERIOD 20000
     s.cfg.frame.pmin ≤ p ∧ p ≤ s.cfg.frame.pmax ∧ p ≠ s.fr.nextPeriod.getD s.period) ∧
    (let p : Nat := 0
     let s : State := run0
     (p < s.cfg.frame.pmin ∨ s.cfg.frame.pmax < p ∨ p = s.fr.nextPeriod.getD s.period)) ∧
    (let s : State := run0
     let s : State := { s with fr := { s.fr with phase := (.ranked) } }
     let s : State := { s with fr := { s.fr with nextLevel := (none) } }
     let s : State := { s with fr := { s.fr with rising := (none) } }
     let s : State := { s with fr := { s.fr with slower := 64, phase := .ranked } }
     s.fr.phase = .ranked ∧ 64 ≤ s.fr.slower ∧ s.fr.nextLevel = none ∧ s.fr.rising = none) ∧
    (let s : State := run0
     (s.fr.phase ≠ .ranked ∨ s.fr.slower < 64)) ∧
    (let s : State := run0
     let s : State := { s with fr := { s.fr with hold := some 63 } }
     let h : Nat := (s.fr.hold).getD default
     s.fr.hold = some h) ∧
    (let s : State := run0
     let s : State := s.wr Reg.POWER_SHED.STEP 2
     2 ≤ s.rd Reg.POWER_SHED.STEP) ∧
    (let s : State := run0
     let s : State := { s with fr := { s.fr with bgOver := (true) } }
     s.rd Reg.POWER_SHED.STEP < 2 ∧ s.fr.bgOver = true) ∧
    (let k : Fin 5 := 2
     let s : State := run0
     let s : State := { s with fr := { s.fr with bgOver := (false) } }
     let s : State := s.wr Reg.PLAN_BG_ORDER.ORDER 0x2C688
     s.rd Reg.POWER_SHED.STEP < 2 ∧ s.fr.bgOver = false ∧ ((upTo 5).map fun i => s.rd Reg.PLAN_BG_ORDER.ORDER / 8 ^ i % 8).count k.val = 1) ∧
    (let o : Nat := 0
     let t : Nat := 20000000000
     let s : State := run0
     let s : State := { s with power := { s.power with held := (false) } }
     s.power.held = false ∧ o + 100000 ≤ (s.elapse t).time.ns ∧ s.mayRaise = true) ∧
    (let e : CtrlRef := ⟨0, 0, 20000000000⟩
     let t : Nat := 20000000000
     let s : State := run0
     (s.power.held = true ∨ (s.elapse t).time.ns < e.opened + 100000)) := by
  refine ⟨?_, ?_, ?_, ?_, ?_, ?_, ?_, ?_, ?_, ?_⟩ <;> decide +kernel

/-- Obligations.LoaderFetchesAndAuthenticates. -/
theorem test_loader_fetches_and_authenticates :
    (let l : List Nat := default
     let s : State := run0
     let s : State := { s with power := { s.power with held := (false) } }
     let s : State := { s with power := { s.power with step := (5) } }
     let s : State := s.wr Reg.IMAGE_STATUS.STATE 0
     let s : State := { s with host := { s.host with delivery := (none) } }
     let s : State := { s with load := { s.load with sources := (0 :: l) } }
     s.power.held = false ∧ s.power.step = 5 ∧ s.rd Reg.IMAGE_STATUS.STATE = 0 ∧ s.host.delivery = none ∧ s.load.sources = 0 :: l) ∧
    (let s : State := run0
     let s : State := { s with power := { s.power with held := (false) } }
     let s : State := { s with power := { s.power with step := (5) } }
     s.power.held = false ∧ s.power.step = 5) ∧
    (let b : List Byte := leBytes 4 0x4953584C ++ leBytes 2 1 ++ leBytes 2 0 ++ leBytes 4 512 ++ List.replicate 500 7
     let s : State := run0
     let s : State := s.wr Reg.IMAGE_STATUS.STATE 1
     let s : State := s.wr Reg.IMAGE_STATUS.SOURCE 0
     let s : State := s.wr Reg.IMAGE_STATUS.SOURCE 0
     let s : State := s.wr Reg.IMAGE_STATUS.STATE 1
     s.rd Reg.IMAGE_STATUS.STATE = 1 ∧ s.rd Reg.IMAGE_STATUS.SOURCE = 0 ∧ u32At b 0 = 0x4953584C ∧ u16At b 4 = 1 ∧ u16At b 6 = 0 ∧ 512 ≤
       u32At b 8 ∧ u32At b 8 ≤ 67108864 ∧ u32At b 8 ≤ b.length) ∧
    (let mb : Nat := 128
     let b : List Byte := List.replicate 512 7
     let l : List Nat := [2]
     let s : State := run0
     let s : State := s.wr Reg.IMAGE_STATUS.STATE 1
     let s : State := s.wr Reg.IMAGE_STATUS.SOURCE 0
     let s : State := { s with load := { s.load with sources := (1 :: l) } }
     let s : State := { s with load := { s.load with dram := (true) } }
     let s : State := { s with host := { s.host with delivery := (none) } }
     let s : State := { s with load := { s.load with sources := [1, 2] } }
     s.rd Reg.IMAGE_STATUS.STATE = 1 ∧ s.rd Reg.IMAGE_STATUS.SOURCE = 0 ∧ u32At b 0 ≠ 0x4953584C ∧ 128 ≤ mb ∧ s.load.sources = 1 :: l ∧
       s.load.dram = true ∧ s.host.delivery = none) ∧
    (let b : List Byte := []
     let s : State := run0
     let s : State := s.wr Reg.IMAGE_STATUS.STATE 1
     let s : State := s.wr Reg.IMAGE_STATUS.SOURCE 0
     let s : State := { s with load := { s.load with sources := ([]) } }
     let s : State := { s with host := { s.host with delivery := (none) } }
     let c : Nat := ((if u32At b 0 ≠ 0x4953584C then (0x101, 0) else if u16At b 4 ≠ 1 then (0x102, 4) else if u16At b 6 ≠ 0 then (0x102, 6)
       else (0x103, 8))).1
     let o : Nat := ((if u32At b 0 ≠ 0x4953584C then (0x101, 0) else if u16At b 4 ≠ 1 then (0x102, 4) else if u16At b 6 ≠ 0 then (0x102, 6)
       else (0x103, 8))).2
     s.rd Reg.IMAGE_STATUS.STATE = 1 ∧ s.rd Reg.IMAGE_STATUS.SOURCE = 0 ∧ s.load.sources = [] ∧ s.host.delivery = none ∧ (c, o) = (if u32At
       b 0 ≠ 0x4953584C then (0x101, 0) else if u16At b 4 ≠ 1 then (0x102, 4) else if u16At b 6 ≠ 0 then (0x102, 6) else (0x103, 8)) ∧ (c =
       0x103 → u32At b 8 < 512 ∨ 67108864 < u32At b 8 ∨ b.length < u32At b 8)) ∧
    (let s : State := run0
     let s : State := s.wr Reg.IMAGE_STATUS.STATE 1
     let s : State := s.wr Reg.IMAGE_STATUS.SOURCE 0
     let s : State := { s with load := { s.load with sources := ([]) } }
     let s : State := { s with host := { s.host with delivery := (none) } }
     s.rd Reg.IMAGE_STATUS.STATE = 1 ∧ s.rd Reg.IMAGE_STATUS.SOURCE = 0 ∧ s.load.sources = [] ∧ s.host.delivery = none) ∧
    (let t : Nat := 20000000000
     let s : State := run0
     let s : State := s.wr Reg.IMAGE_STATUS.STATE 1
     let s : State := { s with load := { s.load with sources := ([]) } }
     let s : State := { s with host := { s.host with delivery := (none) } }
     s.rd Reg.IMAGE_STATUS.STATE = 1 ∧ s.rd Reg.IMAGE_STATUS.SOURCE < 2 ∧ s.load.since + 5000000000 ≤ (s.elapse t).time.ns ∧ s.load.sources
       = [] ∧ s.host.delivery = none) ∧
    (let s : State := run0
     (s.rd Reg.IMAGE_STATUS.STATE = 0 ∨ 3 < s.rd Reg.IMAGE_STATUS.STATE)) ∧
    (let s : State := run0
     let s : State := { s with load := { s.load with sources := ([]) } }
     let s : State := { s with host := { s.host with delivery := (none) } }
     let s : State := s.wr Reg.IMAGE_STATUS.STATE 3
     1 ≤ s.rd Reg.IMAGE_STATUS.STATE ∧ s.rd Reg.IMAGE_STATUS.STATE ≤ 3 ∧ s.load.sources = [] ∧ s.host.delivery = none) ∧
    (let s : State := run0
     let s : State := s.wr Reg.POWER_STATE.STATE stKickOff
     let s : State := { s with power := { s.power with held := (false) } }
     let s : State := { s with power := { s.power with step := (6) } }
     let s : State := { s with load := { s.load with dram := (true) } }
     let s : State := { s with load := { s.load with sources := ([]) } }
     let s : State := { s with host := { s.host with delivery := (none) } }
     s.device = stKickOff ∧ s.power.held = false ∧ s.power.step = 6 ∧ s.loadRuns = false ∧ s.load.dram = true ∧ s.load.sources = [] ∧
       s.host.delivery = none) ∧
    (let s : State := run0
     (s.device ≠ stKickOff ∨ s.power.held = true ∨ s.power.step ≠ 6 ∨ s.loadRuns = true)) ∧
    (let s : State := run0
     let s : State := s.wr Reg.IMAGE_STATUS.STATE 2
     let s : State := { s with load := { s.load with image := signedImage } }
     let s : State := { s with fuses := signedFuses }
     s.rd Reg.IMAGE_STATUS.STATE = 2 ∧ authenticate s.silicon s.fuses s.load.image = .ok ()) ∧
    (let c : Nat := 0x301
     let o : Nat := 256
     let s : State := run0
     let s : State := s.wr Reg.IMAGE_STATUS.STATE 2
     let s : State := { s with load := { s.load with sources := ([]) } }
     let s : State := { s with host := { s.host with delivery := (none) } }
     let s : State := { s with load := { s.load with image := List.replicate 512 7 } }
     s.rd Reg.IMAGE_STATUS.STATE = 2 ∧ authenticate s.silicon s.fuses s.load.image = .error (c, o) ∧ s.load.sources = [] ∧ s.host.delivery =
       none) ∧
    (let s : State := run0
     let s : State := s.wr Reg.IMAGE_STATUS.STATE 2
     let s : State := { s with load := { s.load with sources := ([]) } }
     let s : State := { s with host := { s.host with delivery := (none) } }
     s.rd Reg.IMAGE_STATUS.STATE = 2 ∧ s.fuses.slots.any KeySlot.live = false ∧ s.load.sources = [] ∧ s.host.delivery = none) ∧
    (let s : State := run0
     let s : State := s.wr Reg.IMAGE_STATUS.STATE 2
     let s : State := { s with load := { s.load with sources := ([]) } }
     let s : State := { s with host := { s.host with delivery := (none) } }
     let s : State := { s with load := { s.load with image := List.replicate 512 4 } }
     let s : State := { s with fuses := { s.fuses with slot0 := ⟨some 5, false⟩ } }
     s.rd Reg.IMAGE_STATUS.STATE = 2 ∧ s.fuses.slots.any KeySlot.live = true ∧ (4 ≤ u8At s.load.image 29 ∨ (s.fuses.slot (u8At s.load.image
       29)).live = false) ∧ s.load.sources = [] ∧ s.host.delivery = none) ∧
    (let f : FrameCfg := (checkImage .cx1536 smallImage).1.getD default
     let c : Cfg := (match (checkImage .cx1536 smallImage).2 with | .ok c => c | _ => default)
     let s : State := run0
     let s : State := s.wr Reg.IMAGE_STATUS.STATE 3
     let s : State := { s with load := { s.load with image := smallImage } }
     s.rd Reg.IMAGE_STATUS.STATE = 3 ∧ checkImage s.silicon.variant s.load.image = (some f, .ok c)) ∧
    (let k : Nat := (match (checkImage .cx1536 (List.replicate 512 7)).2 with | .error e => e.1 | _ => 0)
     let i : Nat := (match (checkImage .cx1536 (List.replicate 512 7)).2 with | .error e => e.2.1 | _ => 0)
     let y : Nat := (match (checkImage .cx1536 (List.replicate 512 7)).2 with | .error e => e.2.2.1 | _ => 0)
     let o : Nat := (match (checkImage .cx1536 (List.replicate 512 7)).2 with | .error e => e.2.2.2 | _ => 0)
     let f : Option FrameCfg := (checkImage .cx1536 (List.replicate 512 7)).1
     let s : State := run0
     let s : State := s.wr Reg.IMAGE_STATUS.STATE 3
     let s : State := { s with load := { s.load with sources := ([]) } }
     let s : State := { s with host := { s.host with delivery := (none) } }
     let s : State := { s with load := { s.load with image := List.replicate 512 7 } }
     s.rd Reg.IMAGE_STATUS.STATE = 3 ∧ checkImage s.silicon.variant s.load.image = (f, .error (k, i, y, o)) ∧ s.load.sources = [] ∧
       s.host.delivery = none) ∧
    (let s : State := run0
     let s : State := s.wr Reg.IMAGE_STATUS.STATE 0
     let s : State := s.wr Reg.IMAGE_STATUS.STATE 0
     s.rd Reg.IMAGE_STATUS.STATE ≠ 2 ∧ s.rd Reg.IMAGE_STATUS.STATE ≠ 3) := by
  refine ⟨?_, ?_, ?_, ?_, ?_, ?_, ?_, ?_, ?_, ?_, ?_, ?_, ?_, ?_, ?_, ?_, ?_, ?_⟩ <;> decide +kernel

/-- Obligations.CommitBuildsAndTheGrantEntersRun. -/
theorem test_commit_builds_and_the_grant_enters_run :
    (let l : List (Fin 128) := [3]
     let s : State := run0
     let s : State := { s with power := { s.power with dormantExit := (false) } }
     let s : State := s.wr Reg.REF_STATUS.STATE rsSetup
     let s : State := { s with power := { s.power with step := 9 } }
     let s : State := s.wr Reg.IMAGE_STATUS.STATE 4
     let s : State := { s with load := { s.load with built := some cfg0 } }
     let c : Cfg := (s.toCommit).getD default
     let m : List (SliceCfg × Nat) := (moveRoles c.slices (s.commitBad c (l.map (·.val))) (c.goodSpares (s.commitBad c (l.map
       (·.val))))).getD default
     s.toCommit = some c ∧ s.power.dormantExit = false ∧ moveRoles c.slices (s.commitBad c (l.map (·.val))) (c.goodSpares (s.commitBad c
       (l.map (·.val)))) = some m ∧ s.refState = rsSetup) ∧
    (let k : Nat := 0x601
     let ok : Bool := false
     let l : List (Fin 128) := default
     let s : State := run0
     let s : State := { s with power := { s.power with dormantExit := (false) } }
     let s : State := { s with load := { s.load with sources := ([]) } }
     let s : State := { s with host := { s.host with delivery := (none) } }
     let s : State := { s with power := { s.power with step := 9 } }
     let s : State := s.wr Reg.IMAGE_STATUS.STATE 4
     let s : State := { s with load := { s.load with built := some cfg0 } }
     let c : Cfg := (s.toCommit).getD default
     s.toCommit = some c ∧ s.power.dormantExit = false ∧ s.load.sources = [] ∧ s.host.delivery = none ∧ (k = 0x40A ∧ moveRoles c.slices
       (s.commitBad c (l.map (·.val))) (c.goodSpares (s.commitBad c (l.map (·.val)))) = none ∨ k = 0x601 ∧ ok = false ∧ (moveRoles c.slices
       (s.commitBad c (l.map (·.val))) (c.goodSpares (s.commitBad c (l.map (·.val))))).isSome)) ∧
    (let s : State := run0
     s.toCommit = none) ∧
    (let s : State := run0
     let s : State := { s with cfg := { s.cfg with loaded := (true) } }
     let s : State := s.wr Reg.POWER_STATE.STATE stKickOff
     let s : State := { s with fr := { s.fr with ticks := 1000 } }
     s.inKickOff = true ∧ s.cfg.loaded = true ∧ 1000 ≤ s.fr.ticks) ∧
    (let s : State := run0
     (s.inKickOff = false ∨ s.cfg.loaded = false ∨ s.fr.ticks < 1000)) ∧
    (let s : State := run0
     let s : State := { s with cfg := { s.cfg with loaded := (true) } }
     let s : State := { s with power := { s.power with step := (10) } }
     let s : State := { s with referee := { s.referee with broken := (false) } }
     let s : State := s.wr Reg.REF_STATUS.STATE rsSetup
     let s : State := s.wr (if 0 = 0 then Reg.REF_STATUS.ROLE_A else Reg.REF_STATUS.ROLE_B) (roWaking)
     let s : State := s.wr Reg.POWER_STATE.STATE stKickOff
     let s : State := { s with fr := { s.fr with ticks := 1000 } }
     let s : State := { s with power := { s.power with step := 10 } }
     s.inKickOff = true ∧ s.cfg.loaded = true ∧ s.power.step = 10 ∧ (s.lanesDown = [] ∨ 1000 ≤ s.fr.ticks) ∧ s.referee.broken = false ∧
       s.refState = rsSetup ∧ s.role 0 = roWaking) ∧
    (let s : State := run0
     (s.inKickOff = false ∨ s.cfg.loaded = false ∨ s.power.step ≠ 10 ∨ (s.lanesDown ≠ [] ∧ s.fr.ticks < 1000))) := by
  refine ⟨?_, ?_, ?_, ?_, ?_, ?_, ?_⟩ <;> decide +kernel

/-- Obligations.KeyFusesChangeOnlyByTheirOperations. -/
theorem test_key_fuses_change_only_by_their_operations :
    (let s : State := run0
     let s : State := { s with power := { s.power with held := (false) } }
     let s : State := { s with load := { s.load with fuse := (none) } }
     let s : State := s.wr Reg.POWER_STATE.STATE stKickOff
     let s : State := { s with load := { s.load with accepted := (false) } }
     s.power.held = false ∧ s.load.fuse = none ∧ s.device = stKickOff ∧ s.load.accepted = false) ∧
    (let s : State := run0
     let s : State := { s with power := { s.power with held := (false) } }
     let s : State := { s with load := { s.load with fuse := (none) } }
     let s : State := s.wr Reg.POWER_STATE.STATE stKickOff
     let s : State := { s with load := { s.load with accepted := (false) } }
     s.power.held = false ∧ s.load.fuse = none ∧ s.device = stKickOff ∧ s.load.accepted = false) ∧
    (let k : Fin 4 := 0
     let u : Nat := 5
     let t : Nat := 20000000000
     let c : Instr := .keyProgram 0 5 20000000000
     let s : State := run0
     c ∈ [Instr.keyProgram k u t, Instr.keyRevoke k u t] ∧ (u ≠ 0xA5C3 ∨ s.power.held = true ∨ s.load.fuse.isSome = true ∨ s.device ≠
       stKickOff ∨ s.load.accepted = true)) ∧
    (let s : State := run0
     let s : State := s.wr Reg.POWER_STATE.STATE stRun
     let s : State := { s with load := { s.load with fuse := (none) } }
     s.device = stRun ∧ s.load.fuse = none ∧ s.fuses.epoch < s.cfg.epoch) ∧
    (let s : State := run0
     let s : State := { s with cfg := { s.cfg with epoch := 0 } }
     (s.device ≠ stRun ∨ s.cfg.epoch ≤ s.fuses.epoch)) ∧
    (let o : FuseOp := .revoke 0
     let s : State := run0
     let s : State := { s with load := { s.load with fuse := (some o) } }
     let s : State := { s with load := { s.load with fuse := some (.revoke 0) } }
     s.load.fuse = some o) ∧
    (let s : State := run0
     let s : State := { s with load := { s.load with fuse := (none) } }
     s.load.fuse = none) := by
  refine ⟨?_, ?_, ?_, ?_, ?_, ?_, ?_⟩ <;> decide +kernel

/-- Obligations.UplinkSlotsCompleteEntriesOrCount. -/
theorem test_uplink_slots_complete_entries_or_count :
    (let lane : Fin 96 := 0
     let ns : Nat := 10000
     let b : List Byte := (let b0 : List Byte := [0x3C, 0] ++ leBytes 2 (0) ++ List.replicate 26 5; b0 ++ leBytes 2 (crc16 (slice b0 1 29)))
     let s : State := run0
     let s : State := s.wr Reg.FRAME_STATUS.RUNNING 1
     let s : State := { s with fr := { s.fr with phase := (.open) } }
     let s : State := s.wr Reg.FRAME_PHASE1.FREEZE 5000
     let s : State := { s with fr := { s.fr with freezeNs := 0 } }
     let s : State := s.wr Reg.FRAME_PHASE1.FREEZE 5000
     let s : State := s.wr Reg.FRAME_PERIOD.PERIOD 20000
     let cc : ChainCfg := (s.chainCfg (lane.val / 2)).getD default
     s.chainCfg (lane.val / 2) = some cc ∧ s.ticking = true ∧ s.laneHears lane.val = true ∧ crc16 (slice b 1 29) = u16At b 30 ∧
       s.frameServing cc (u8At b 1) = some lane.val ∧ s.fr.phase = .open ∧ ns ≤ s.tFreeze ∧ u16At b 2 = s.frameNo % 65536 ∧ (s.cell (cc.base
       + u8At b 1)).done = false) ∧
    (let lane : Fin 96 := 0
     let ns : Nat := 20000000000
     let b : List Byte := (let b0 : List Byte := [0x3C, 0] ++ leBytes 2 (0) ++ List.replicate 26 5; b0 ++ leBytes 2 (crc16 (slice b0 1 29)))
     let s : State := run0
     let s : State := s.wr Reg.FRAME_STATUS.RUNNING 1
     let s : State := { s with fr := { s.fr with phase := .frozen } }
     let cc : ChainCfg := (s.chainCfg (lane.val / 2)).getD default
     s.chainCfg (lane.val / 2) = some cc ∧ s.ticking = true ∧ s.laneHears lane.val = true ∧ crc16 (slice b 1 29) = u16At b 30 ∧
       s.frameServing cc (u8At b 1) = some lane.val ∧ (s.fr.phase ≠ .open ∨ s.tFreeze < ns)) ∧
    (let lane : Fin 96 := 0
     let ns : Nat := 10000
     let b : List Byte := (let b0 : List Byte := [0x3C, 0] ++ leBytes 2 (1) ++ List.replicate 26 5; b0 ++ leBytes 2 (crc16 (slice b0 1 29)))
     let s : State := run0
     let s : State := s.wr Reg.FRAME_STATUS.RUNNING 1
     let s : State := { s with fr := { s.fr with phase := (.open) } }
     let s : State := { s with fr := { s.fr with freezeNs := 0 } }
     let s : State := s.wr Reg.FRAME_PHASE1.FREEZE 5000
     let s : State := s.wr Reg.FRAME_PERIOD.PERIOD 20000
     let cc : ChainCfg := (s.chainCfg (lane.val / 2)).getD default
     s.chainCfg (lane.val / 2) = some cc ∧ s.ticking = true ∧ s.laneHears lane.val = true ∧ crc16 (slice b 1 29) = u16At b 30 ∧
       s.frameServing cc (u8At b 1) = some lane.val ∧ s.fr.phase = .open ∧ ns ≤ s.tFreeze ∧ u16At b 2 ≠ s.frameNo % 65536) ∧
    (let lane : Fin 96 := 1
     let ns : Nat := 10000
     let b : List Byte := (let b0 : List Byte := [0x3C, 1] ++ leBytes 2 (0) ++ List.replicate 26 5; b0 ++ leBytes 2 (crc16 (slice b0 1 29)))
     let s : State := run0
     let s : State := s.wr Reg.FRAME_STATUS.RUNNING 1
     let s : State := { s with fr := { s.fr with phase := (.open) } }
     let s : State := s.modCell 1 fun x => { x with done := true }
     let s : State := { s with fr := { s.fr with freezeNs := 0 } }
     let s : State := s.wr Reg.FRAME_PHASE1.FREEZE 5000
     let s : State := s.wr Reg.FRAME_PERIOD.PERIOD 20000
     let cc : ChainCfg := (s.chainCfg (lane.val / 2)).getD default
     s.chainCfg (lane.val / 2) = some cc ∧ s.ticking = true ∧ s.laneHears lane.val = true ∧ crc16 (slice b 1 29) = u16At b 30 ∧
       s.frameServing cc (u8At b 1) = some lane.val ∧ s.fr.phase = .open ∧ ns ≤ s.tFreeze ∧ u16At b 2 = s.frameNo % 65536 ∧ (s.cell (cc.base
       + u8At b 1)).done = true) ∧
    (let lane : Fin 96 := 0
     let b : List Byte := (let b0 : List Byte := [0x3C, 2] ++ leBytes 2 (0) ++ List.replicate 26 5; b0 ++ leBytes 2 (crc16 (slice b0 1 29)))
     let s : State := run0
     let s : State := s.wr Reg.FRAME_STATUS.RUNNING 1
     let cc : ChainCfg := (s.chainCfg (lane.val / 2)).getD default
     s.chainCfg (lane.val / 2) = some cc ∧ s.ticking = true ∧ s.laneHears lane.val = true ∧ crc16 (slice b 1 29) = u16At b 30 ∧
       s.frameServing cc (u8At b 1) ≠ some lane.val) ∧
    (let lane : Fin 96 := 0
     let b : List Byte := []
     let s : State := run0
     let s : State := s.wr Reg.FRAME_STATUS.RUNNING 1
     let cc : ChainCfg := (s.chainCfg (lane.val / 2)).getD default
     s.chainCfg (lane.val / 2) = some cc ∧ s.ticking = true ∧ s.laneHears lane.val = true ∧ crc16 (slice b 1 29) ≠ u16At b 30) ∧
    (let lane : Fin 96 := 95
     let s : State := run0
     (s.chainCfg (lane.val / 2) = none ∨ s.ticking = false ∨ s.laneHears lane.val = false)) := by
  refine ⟨?_, ?_, ?_, ?_, ?_, ?_, ?_⟩ <;> decide +kernel

/-- Obligations.CallsMeasureDelaysAndIdentities. -/
theorem test_calls_measure_delays_and_identities :
    (let lane : Fin 96 := 0
     let b : List Byte := (let b0 : List Byte := [0x3C, 1, 0, 0, 0, 31] ++ List.replicate 24 5; b0 ++ leBytes 2 (crc16 (slice b0 1 29)))
     let s : State := run0
     let s : State := s.modChain 0 fun x => { x with call := some ⟨0, none, 0, 3, false, false, 0⟩ }
     let cc : ChainCfg := (s.chainCfg (lane.val / 2)).getD default
     let k : Call := ((s.chain (lane.val / 2)).call).getD default
     s.chainCfg (lane.val / 2) = some cc ∧ (s.chain (lane.val / 2)).call = some k ∧ s.laneHears lane.val = true ∧ k.lane = lane.val ∧
       (k.target = none ∨ k.target = some (u8At b 5)) ∧ crc16 (slice b 1 29) = u16At b 30 ∧ u8At b 1 < cc.cells ∧ cc.base + u8At b 1 < 1536) ∧
    (let lane : Fin 96 := 0
     let b : List Byte := (let b0 : List Byte := [0x3C, 2, 0, 0, 0, 31] ++ List.replicate 24 5; b0 ++ leBytes 2 (crc16 (slice b0 1 29)))
     let s : State := run0
     let s : State := s.modChain (lane.val / 2) fun x => { x with extra := (false) }
     let s : State := s.modChain 0 fun x => { x with call := some ⟨0, none, 0, 3, false, false, 0⟩ }
     let cc : ChainCfg := (s.chainCfg (lane.val / 2)).getD default
     let k : Call := ((s.chain (lane.val / 2)).call).getD default
     s.chainCfg (lane.val / 2) = some cc ∧ (s.chain (lane.val / 2)).call = some k ∧ s.laneHears lane.val = true ∧ k.lane = lane.val ∧
       k.target = none ∧ crc16 (slice b 1 29) = u16At b 30 ∧ cc.cells ≤ u8At b 1 ∧ (s.chain (lane.val / 2)).extra = false) ∧
    (let lane : Fin 96 := 0
     let b : List Byte := []
     let s : State := run0
     (s.chainCfg (lane.val / 2) = none ∨ (s.chain (lane.val / 2)).call = none ∨ s.laneHears lane.val = false ∨ crc16 (slice b 1 29) ≠ u16At
       b 30 ∨ ∃ k, (s.chain (lane.val / 2)).call = some k ∧ (k.lane ≠ lane.val ∨ ∃ q, k.target = some q ∧ q ≠ u8At b 5))) ∧
    (let lane : Fin 96 := 1
     let s : State := run0
     let s : State := s.modChain 0 fun x => { x with call := some ⟨0, none, 0, 3, false, false, 0⟩ }
     let cc : ChainCfg := (s.chainCfg (lane.val / 2)).getD default
     let k : Call := ((s.chain (lane.val / 2)).call).getD default
     s.chainCfg (lane.val / 2) = some cc ∧ (s.chain (lane.val / 2)).call = some k ∧ s.laneHears lane.val = true ∧ k.lane ≠ lane.val ∧
       k.target = none) ∧
    (let lane : Fin 96 := 0
     let s : State := run0
     (s.chainCfg (lane.val / 2) = none ∨ (s.chain (lane.val / 2)).call = none ∨ s.laneHears lane.val = false)) ∧
    (let c : Fin 48 := 0
     let s : State := run0
     let s : State := s.wr Reg.POWER_STATE.STATE stRun
     let s : State := s.wr Reg.LANE_STATUS.CHAIN_LATE 0 (2 * c.val)
     let s : State := s.wr Reg.LANE_STATUS.CHAIN_LATE 0 (2 * c.val + 1)
     let s : State := { s with fr := { s.fr with phase := .ranked } }
     let s : State := s.modChain 0 fun x => { x with calls := [⟨1, 0, false, 0, 5⟩] }
     let cc : ChainCfg := (s.chainCfg c.val).getD default
     let x : IdCall := ((s.chain c.val).calls.find? (fun y => y.frame != s.frameNo)).getD default
     s.pairMute = false ∧ s.chainCfg c.val = some cc ∧ s.device = stRun ∧ s.fr.phase ≠ .open ∧ s.fr.phase ≠ .stopped ∧ (s.chain c.val).call
       = none ∧ s.rd Reg.LANE_STATUS.CHAIN_LATE (2 * c.val) = 0 ∧ s.rd Reg.LANE_STATUS.CHAIN_LATE (2 * c.val + 1) = 0 ∧ (s.chain
       c.val).calls.find? (fun y => y.frame != s.frameNo) = some x ∧ x.lane / 2 = c.val) ∧
    (let c : Fin 48 := 0
     let q : Nat := 1
     let s : State := run0
     let s : State := s.wr Reg.POWER_STATE.STATE stRun
     let s : State := s.modChain c.val fun x => { x with call := (none) }
     let s : State := s.wr Reg.LANE_STATUS.CHAIN_LATE 0 (2 * c.val)
     let s : State := s.wr Reg.LANE_STATUS.CHAIN_LATE 0 (2 * c.val + 1)
     let s : State := s.modLane (2 * c.val) fun x => { x with sweep := (some q) }
     let s : State := { s with fr := { s.fr with phase := .ranked } }
     let s : State := s.modLane 0 fun x => { x with sweep := some 1 }
     let cc : ChainCfg := (s.chainCfg c.val).getD default
     s.pairMute = false ∧ s.chainCfg c.val = some cc ∧ s.device = stRun ∧ s.fr.phase ≠ .open ∧ s.fr.phase ≠ .stopped ∧ (s.chain c.val).call
       = none ∧ s.rd Reg.LANE_STATUS.CHAIN_LATE (2 * c.val) = 0 ∧ s.rd Reg.LANE_STATUS.CHAIN_LATE (2 * c.val + 1) = 0 ∧ (s.chain
       c.val).calls.find? (fun y => y.frame != s.frameNo) = none ∧ (s.lane (2 * c.val)).sweep = some q ∧ q < s.phys c.val) ∧
    (let c : Fin 48 := 0
     let s : State := run0
     (s.chainCfg c.val = none ∨ s.pairMute = true ∨ s.device ≠ stRun ∨ s.fr.phase = .open ∨ s.fr.phase = .stopped ∨ (s.chain
       c.val).call.isSome = true ∨ s.rd Reg.LANE_STATUS.CHAIN_LATE (2 * c.val) ≠ 0 ∨ s.rd Reg.LANE_STATUS.CHAIN_LATE (2 * c.val + 1) ≠ 0)) := by
  refine ⟨?_, ?_, ?_, ?_, ?_, ?_, ?_, ?_⟩ <;> decide +kernel

/-- Obligations.LanesComeUpBreakAndRestore. -/
theorem test_lanes_come_up_break_and_restore :
    (let lane : Fin 96 := 0
     let s : State := run0
     let s : State := s.wr Reg.LANE_STATUS.SYNC 0 lane.val
     s.laneDeclared lane.val = true ∧ s.rd Reg.LANE_STATUS.SYNC lane.val = 0) ∧
    (let lane : Fin 96 := 0
     let s : State := run0
     (s.laneDeclared lane.val = false ∨ s.rd Reg.LANE_STATUS.SYNC lane.val ≠ 0)) ∧
    (let lane : Fin 96 := 0
     let s : State := run0
     let s : State := s.wr Reg.LANE_STATUS.SYNC 1 lane.val
     s.rd Reg.LANE_STATUS.SYNC lane.val ≠ 0) ∧
    (let lane : Fin 96 := 0
     let s : State := run0
     let s : State := s.wr Reg.LANE_STATUS.SYNC 0 lane.val
     s.rd Reg.LANE_STATUS.SYNC lane.val = 0) ∧
    (let c : Fin 48 := 0
     let t : Nat := 20000000000
     let s : State := run0
     let s : State := { s with fr := { s.fr with phase := (.frozen) } }
     let s : State := { s with fr := { s.fr with freezeNs := ((s.elapse t).count) } }
     let s : State := s.wr Reg.LANE_CTRL.AUTO_RESTORE 1 (2 * c.val)
     let s : State := s.modChain c.val fun x => { x with next := (none) }
     let s : State := { s with fr := { s.fr with phase := .frozen } }
     let s : State := { s with fr := { s.fr with freezeNs := s.count } }
     let s : State := s.wr Reg.LANE_CTRL.AUTO_RESTORE 1 0
     let s : State := s.modChain 0 fun x => { x with restoreRun := 1000, quiet := 64, next := none }
     let s : State := s.wr Reg.LANE_STATUS.SYNC 1 0
     let s : State := s.wr Reg.LANE_STATUS.SYNC 1 1
     let s : State := s.wr Reg.LANE_DELAY.VALID 1 0 0
     let s : State := s.wr Reg.LANE_DELAY.VALID 1 0 1
     let s : State := s.wr Reg.LANE_DELAY.VALID 1 1 0
     let s : State := s.wr Reg.LANE_DELAY.VALID 1 1 1
     let cc : ChainCfg := (s.chainCfg c.val).getD default
     s.chainCfg c.val = some cc ∧ s.fr.phase = .frozen ∧ s.fr.freezeNs = (s.elapse t).count ∧ s.rd Reg.LANE_CTRL.AUTO_RESTORE (2 * c.val) ≠
       0 ∧ 1000 ≤ (s.chain c.val).restoreRun ∧ s.restorable c.val = true ∧ (s.chain c.val).next = none ∧ cc.split < 64) ∧
    (let c : Fin 48 := 0
     let t : Nat := 20000000000
     let s : State := run0
     (s.chainCfg c.val = none ∨ s.fr.phase ≠ .frozen ∨ s.fr.freezeNs ≠ (s.elapse t).count)) ∧
    (let lane : Fin 96 := 0
     let s : State := run0
     lane.val % 2 = 0 ∧ s.laneDeclared lane.val = true) ∧
    (let lane : Fin 96 := 1
     let s : State := run0
     (lane.val % 2 = 1 ∨ s.laneDeclared lane.val = false)) ∧
    (let lane : Fin 96 := 0
     let s : State := run0
     let s : State := s.modLane lane.val fun x => { x with sweep := (none) }
     let s : State := s.modLane lane.val fun x => { x with allCall := (false) }
     s.elecIdle lane.val = false ∧ (s.lane lane.val).sweep = none ∧ (s.lane lane.val).allCall = false) ∧
    (let lane : Fin 96 := 0
     let s : State := run0
     let s : State := s.modLane 0 fun x => { x with allCall := true }
     (s.elecIdle lane.val = true ∨ (s.lane lane.val).sweep.isSome = true ∨ (s.lane lane.val).allCall = true)) ∧
    (let lane : Fin 96 := 0
     let s : State := run0
     let s : State := s.wr Reg.LANE_CTRL.FORCE_IDLE 0 lane.val
     s.laneDeclared lane.val = true ∧ s.rd Reg.LANE_CTRL.FORCE_IDLE lane.val = 0) ∧
    (let lane : Fin 96 := 0
     let s : State := run0
     let s : State := s.wr Reg.LANE_CTRL.FORCE_IDLE 1 lane.val
     s.laneDeclared lane.val = true ∧ s.rd Reg.LANE_CTRL.FORCE_IDLE lane.val ≠ 0) ∧
    (let lane : Fin 96 := 5
     let idle : Bool := false
     let s : State := run0
     s.on Reg.LANE_CTRL.FORCE_IDLE lane.val = idle) := by
  refine ⟨?_, ?_, ?_, ?_, ?_, ?_, ?_, ?_, ?_, ?_, ?_, ?_, ?_⟩ <;> decide +kernel

/-- Obligations.CellCommandsAndSubstitution. -/
theorem test_cell_commands_and_substitution :
    (let c : Nat := 0
     let x : Nat := 0
     let s : State := run0
     let s : State := s.wr Reg.CELL_STATE.STATE csPending c
     let s : State := s.modCell c fun x => { x with hostAdmit := (none) }
     let s : State := s.modCell c fun x => { x with hostBypass := (false) }
     let s : State := s.modCell c fun x => { x with fresh := (true) }
     let ch : ChainCfg := (s.chainOfCell c).getD default
     (s.cellCfg c).isSome = true ∧ s.chainOfCell c = some ch ∧ s.cstate c = csPending ∧ (s.cell c).hostAdmit = none ∧ (s.cell c).hostBypass
       = false ∧ s.rd64 Reg.TS_FOUND_LO.IDENTITY Reg.TS_FOUND_HI.IDENTITY c = x ∧ (s.servingLane ch.chain (c - ch.base)).isSome = true ∧
       (s.cell c).fresh = true) ∧
    (let c : Nat := 0
     let x : Nat := 0
     let s : State := run0
     (s.cellCfg c = none ∨ s.cstate c ≠ csPending ∨ (s.cell c).hostAdmit.isSome = true ∨ (s.cell c).hostBypass = true ∨ (s.cell c).fresh =
       false ∨ s.rd64 Reg.TS_FOUND_LO.IDENTITY Reg.TS_FOUND_HI.IDENTITY c ≠ x)) ∧
    (let c : Nat := 0
     let s : State := run0
     let s : State := s.wr Reg.CELL_STATE.STATE ((if csBypassed = 0 then 1 else 0)) c
     let s : State := s.modCell c fun x => { x with hostBypass := (false) }
     (s.cellCfg c).isSome = true ∧ s.cstate c ≠ csBypassed ∧ (s.cell c).hostBypass = false) ∧
    (let c : Nat := 4
     let s : State := run0
     (s.cellCfg c = none ∨ s.cstate c = csBypassed ∨ (s.cell c).hostBypass = true)) ∧
    (let c : Nat := 0
     let s : State := run0
     (s.cellCfg c).isSome = true ∧ c < 1536) ∧
    (let c : Nat := 1536
     let s : State := run0
     s.cellCfg c = none ∧ c ≠ 0xFFFF) ∧
    (let k : Fin 128 := 3
     let s : State := run0
     let s : State := s.wr Reg.SLICE_ROLE.ROLE ((if 0 = 0 then 1 else 0)) k.val
     let s : State := s.wr Reg.SLICE_ROLE.ROLE ((if roSpare = 0 then 1 else 0)) k.val
     let s : State := s.wr Reg.SLICE_ROLE.STATE ((if slFailed = 0 then 1 else 0)) k.val
     let s : State := s.wr Reg.SLICE_ROLE.STATE ((if 0 = 0 then 1 else 0)) k.val
     let s : State := s.wr Reg.SLICE_ROLE.ROLE 4 3
     let s : State := s.wr Reg.SLICE_ROLE.STATE 1 3
     s.sliceRole k.val ≠ 0 ∧ s.sliceRole k.val ≠ roSpare ∧ s.sliceState k.val ≠ slFailed ∧ s.sliceState k.val ≠ 0) ∧
    (let k : Fin 128 := 0
     let s : State := run0
     let s : State := s.wr Reg.SLICE_ROLE.ROLE roSpare k.val
     let s : State := s.wr Reg.SLICE_ROLE.STATE ((if slFailed = 0 then 1 else 0)) k.val
     let s : State := s.wr Reg.SLICE_ROLE.STATE ((if 0 = 0 then 1 else 0)) k.val
     s.sliceRole k.val = roSpare ∧ s.sliceState k.val ≠ slFailed ∧ s.sliceState k.val ≠ 0) ∧
    (let k : Fin 128 := 100
     let s : State := run0
     (s.sliceRole k.val = 0 ∨ s.sliceState k.val = slFailed ∨ s.sliceState k.val = 0)) ∧
    (let v : Nat := 0x80000003
     let s : State := run0
     let s : State := s.wr Reg.POWER_STATE.STATE stRun
     let s : State := s.wr Reg.SLICE_ROLE.ROLE ((if 0 = 0 then 1 else 0)) (v % 128)
     let s : State := s.wr Reg.SLICE_ROLE.ROLE ((if roSpare = 0 then 1 else 0)) (v % 128)
     let s : State := s.wr Reg.SLICE_ROLE.STATE ((if slFailed = 0 then 1 else 0)) (v % 128)
     let s : State := s.wr Reg.SLICE_ROLE.STATE ((if 0 = 0 then 1 else 0)) (v % 128)
     let s : State := s.wr Reg.SLICE_ROLE.ROLE 4 3
     let s : State := s.wr Reg.SLICE_ROLE.STATE 1 3
     hasBit v 31 = true ∧ s.device = stRun ∧ s.sliceRole (v % 128) ≠ 0 ∧ s.sliceRole (v % 128) ≠ roSpare ∧ s.sliceState (v % 128) ≠ slFailed
       ∧ s.sliceState (v % 128) ≠ 0) ∧
    (let v : Nat := 0
     let s : State := run0
     (hasBit v 31 = false ∨ s.device ≠ stRun)) ∧
    (let old : Nat := 0
     let m : Nat := 0
     let s : State := run0
     let s : State := { s with load := { s.load with reloading := (some (old, some m)) } }
     let s : State := { s with load := { s.load with dram := (true) } }
     let s : State := { s with load := { s.load with waiting := ([]) } }
     s.load.reloading = some (old, some m) ∧ m < 128 ∧ s.load.dram = true ∧ s.load.waiting = []) ∧
    (let old : Nat := 0
     let m : Nat := 0
     let s : State := run0
     let s : State := { s with load := { s.load with reloading := (some (old, some m)) } }
     let s : State := { s with load := { s.load with waiting := ([]) } }
     s.load.reloading = some (old, some m) ∧ m < 128 ∧ s.load.waiting = []) ∧
    (let s : State := run0
     let s : State := { s with load := { s.load with reloading := (none) } }
     s.load.reloading = none) := by
  refine ⟨?_, ?_, ?_, ?_, ?_, ?_, ?_, ?_, ?_, ?_, ?_, ?_, ?_, ?_⟩ <;> decide +kernel

/-- Obligations.GraphsAndCoefficientsTakeEffect. -/
theorem test_graphs_and_coefficients_take_effect :
    (let e : Fin 16 := 0
     let s : State := run0
     let s : State := { s with power := { s.power with lost := (clrBit s.power.lost 0) } }
     let s : State := { s with power := { s.power with dead := (clrBit s.power.dead 0) } }
     let s : State := s.modEng e.val fun x => { x with running := (true) }
     let s : State := { s with fr := { s.fr with phase := (.frozen) } }
     let g : Graph := (s.graph (e.val % 8)).getD default
     s.graph (e.val % 8) = some g ∧ hasBit s.power.lost 0 = false ∧ hasBit s.power.dead 0 = false ∧ (s.eng e.val).running = true ∧
       s.fr.phase = .frozen) ∧
    (let e : Fin 16 := 8
     let s : State := run0
     let s : State := { s with power := { s.power with lost := (clrBit s.power.lost 0) } }
     let s : State := { s with power := { s.power with dead := (clrBit s.power.dead 0) } }
     let g : Graph := (s.graph (e.val % 8)).getD default
     s.graph (e.val % 8) = some g ∧ hasBit s.power.lost 0 = false ∧ hasBit s.power.dead 0 = false ∧ ((s.eng e.val).running = false ∨
       s.fr.phase ≠ .frozen) ∧ s.fr.phase ≠ .stopped ∧ s.ballPlane (e.val / 8) = false ∧ s.role (e.val / 8) ≠ roShadow ∧ s.role (e.val / 8)
       ≠ roOff) ∧
    (let e : Fin 16 := 3
     let s : State := run0
     (s.graph (e.val % 8) = none ∨ hasBit s.power.lost 0 = true ∨ hasBit s.power.dead 0 = true)) ∧
    (let b : List Byte := [0, 3, 0, 1, 5, 0, 0, 0, 31]
     let s : State := run0
     let g : Graph := (s.graph (u8At b 0)).getD default
     u8At b 0 ≤ 7 ∧ s.graph (u8At b 0) = some g ∧ 1 ≤ u8At b 3 ∧ u8At b 3 ≤ 16 ∧ u16At b 1 + u8At b 3 ≤ g.coefEntries ∧ (∀ c ∈ coefArgs b
       (u8At b 3), c.shift ≤ 31)) ∧
    (let b : List Byte := []
     let s : State := run0
     let g : Graph := (s.graph (u8At b 0)).getD default
     u8At b 0 ≤ 7 ∧ s.graph (u8At b 0) = some g ∧ (u8At b 3 = 0 ∨ 16 < u8At b 3 ∨ g.coefEntries < u16At b 1 + u8At b 3)) ∧
    (let b : List Byte := [8]
     7 < u8At b 0) ∧
    (let bank : Nat := 1
     let s : State := run0
     bank ≤ 1 ∧ bank ≠ s.bank ∧ (∀ j, j < 8 → s.swapFault bank j = none)) ∧
    (let bank : Nat := 1
     let j : Nat := 0
     let s : State := run0
     let s : State := s.modEng 0 fun x => { x with bankB := [⟨0, 32⟩, ⟨0, 0⟩] }
     bank ≤ 1 ∧ bank ≠ s.bank ∧ j < 8 ∧ (s.swapFault bank j).isSome = true) ∧
    (let bank : Nat := 0
     let j : Nat := 0
     let s : State := run0
     (1 < bank ∨ bank = s.bank) ∧ j < 8 ∧ (s.graph j).isSome = true) ∧
    (let b : List Byte := []
     let s : State := run0
     u8At b 0 ≤ 7 ∧ u8At b 1 ≤ 63 ∧ (s.graph (u8At b 0)).isSome = true) ∧
    (let b : List Byte := [0, 64, 0, 0, 0, 0]
     let s : State := run0
     u8At b 0 ≤ 7 ∧ (63 < u8At b 1 ∨ s.graph (u8At b 0) = none)) := by
  refine ⟨?_, ?_, ?_, ?_, ?_, ?_, ?_, ?_, ?_, ?_, ?_⟩ <;> decide +kernel

/-- Obligations.ConvertersDeblockAndBlock. -/
theorem test_converters_deblock_and_block :
    (let c : Nat := 0
     let s : State := run0
     let s : State := s.wr Reg.CONV_STATE.STATE cvBlocked c
     let s : State := s.modConv c fun x => { x with atTick := (none) }
     let s : State := s.wr Reg.CONV_WORD.VALUE 1 0 0
     let s : State := s.modGrp false 0 fun x => { x with state := gsEnabled }
     let s : State := s.modGrp true 0 fun x => { x with state := gsEnabled }
     c < 12 ∧ (s.convCfg c).isSome = true ∧ s.cvState c = cvBlocked ∧ s.deblockCheck c = 0 ∧ (s.conv c).atTick = none) ∧
    (let c : Nat := 0
     let s : State := run0
     c < 12 ∧ (s.convCfg c).isSome = true ∧ (s.cvState c ≠ cvBlocked ∨ s.deblockCheck c ≠ 0)) ∧
    (let c : Nat := 0
     let k : Nat := 3
     let s : State := run0
     let s : State := s.wr Reg.CONV_STATE.STATE cvBlocked c
     let s : State := s.modConv c fun x => { x with atTick := (some k) }
     let s : State := s.wr Reg.CONV_WORD.VALUE 1 0 0
     let s : State := s.modGrp false 0 fun x => { x with state := gsEnabled }
     let s : State := s.modGrp true 0 fun x => { x with state := gsEnabled }
     c < 12 ∧ (s.convCfg c).isSome = true ∧ s.cvState c = cvBlocked ∧ s.deblockCheck c = 0 ∧ (s.conv c).atTick = some k) ∧
    (let c : Nat := 11
     let s : State := run0
     s.convCfg c = none) ∧
    (let c : Nat := 0
     let s : State := run0
     let s : State := s.wr Reg.CONV_STATE.STATE cvRun 0
     c < 12 ∧ (s.convCfg c).isSome = true ∧ (s.deblocked c = true ∨ s.cvState c = cvResync)) ∧
    (let c : Nat := 0
     let s : State := run0
     let s : State := s.wr Reg.CONV_STATE.STATE cvBlocked c
     c < 12 ∧ (s.convCfg c).isSome = true ∧ s.cvState c = cvBlocked) ∧
    (let c : Fin 12 := 0
     let s : State := run0
     let s : State := s.wr Reg.CONV_STATE.STATE cvRun 0
     let s : State := s.wr Reg.FRAME_PERIOD.PERIOD 20000
     let s : State := s.modConv 0 fun x => { x with coastRun := 20 }
     s.deblocked c.val = true ∧ s.coastLimitFrames ≤ (s.conv c.val).coastRun) ∧
    (let c : Fin 12 := 0
     let s : State := run0
     (s.deblocked c.val = false ∨ (s.conv c.val).coastRun < s.coastLimitFrames)) ∧
    (let c : Fin 12 := 0
     let t : Nat := 20000000000
     let s : State := run0
     let s : State := s.wr Reg.CONV_STATE.STATE cvResync c.val
     let s : State := { s with fr := { s.fr with phase := .open } }
     let s : State := s.wr Reg.CONV_STATE.STATE cvResync 0
     let s : State := s.wr Reg.FRAME_NO.FRAME_NO 100
     let s : State := s.modConv 0 fun x => { x with resyncFrame := 90, l1 := 10 }
     let s : State := s.wr Reg.FRAME_TICK_NS_LO.TICK_NS (20000000000 % 4294967296)
     let s : State := s.wr Reg.FRAME_TICK_NS_HI.TICK_NS (20000000000 / 4294967296)
     (s.elapse t).tickNow = true ∧ s.cvState c.val = cvResync ∧ ((s.conv c.val).l1 : Int) ≤ s.resyncAge c.val ∧ (s.redeblocks c.val = false
       ∨ ((s.conv c.val).l1 : Int) < s.resyncAge c.val)) ∧
    (let c : Fin 12 := 0
     let t : Nat := 20000000000
     let s : State := run0
     ((s.elapse t).tickNow = false ∨ s.cvState c.val ≠ cvResync ∨ s.resyncAge c.val < (s.conv c.val).l1 ∨ s.redeblocks c.val = true ∧
       s.resyncAge c.val ≤ (s.conv c.val).l1)) ∧
    (let c : Fin 12 := 0
     let t : Nat := 20000000000
     let s : State := run0
     let s : State := s.modConv c.val fun x => { x with atTick := (none) }
     let s : State := { s with fr := { s.fr with phase := .open } }
     let s : State := s.wr Reg.CONV_STATE.STATE cvResync 0
     let s : State := s.wr Reg.FRAME_NO.FRAME_NO 100
     let s : State := s.wr Reg.FRAME_TICK_NS_LO.TICK_NS (20000000000 % 4294967296)
     let s : State := s.wr Reg.FRAME_TICK_NS_HI.TICK_NS (20000000000 / 4294967296)
     let s : State := s.wr Reg.CONV_WORD.VALUE 1 0 0
     let s : State := s.modGrp false 0 fun x => { x with state := gsEnabled }
     let s : State := s.modGrp true 0 fun x => { x with state := gsEnabled }
     let s : State := s.modConv 0 fun x => { x with resyncFrame := 97, l1 := 10, sawZero := true }
     (s.elapse t).tickNow = true ∧ s.redeblocks c.val = true ∧ s.resyncAge c.val ≤ (s.conv c.val).l1 ∧ (s.conv c.val).atTick = none) ∧
    (let c : Fin 12 := 0
     let t : Nat := 20000000000
     let s : State := run0
     ((s.elapse t).tickNow = false ∨ s.redeblocks c.val = false ∨ ((s.conv c.val).l1 : Int) < s.resyncAge c.val ∨ (s.conv
       c.val).atTick.isSome = true)) := by
  refine ⟨?_, ?_, ?_, ?_, ?_, ?_, ?_, ?_, ?_, ?_, ?_, ?_⟩ <;> decide +kernel

/-- Obligations.WithdrawalWakesTheStandbyOrLoses. -/
theorem test_withdrawal_wakes_the_standby_or_loses :
    (let p : Fin 2 := 0
     let s : State := run0
     let s : State := s.wr (if p.val = 0 then Reg.REF_STATUS.ROLE_A else Reg.REF_STATUS.ROLE_B) (roActive)
     let s : State := s.wr Reg.REF_STATUS.HOLDER (p.val)
     let s : State := { s with referee := { s.referee with ball := (true) } }
     let s : State := { s with referee := { s.referee with broken := (false) } }
     let s : State := s.wr Reg.REF_STATUS.STATE rsHeld
     let s : State := s.wr (if (1 - p.val) = 0 then Reg.REF_STATUS.ROLE_A else Reg.REF_STATUS.ROLE_B) (roCold)
     s.role p.val = roActive ∧ s.holder = p.val ∧ s.referee.ball = true ∧ s.referee.broken = false ∧ s.refState = rsHeld ∧ s.role (1 -
       p.val) = roCold) ∧
    (let p : Fin 2 := 0
     let s : State := run0
     let s : State := s.wr (if p.val = 0 then Reg.REF_STATUS.ROLE_A else Reg.REF_STATUS.ROLE_B) (roActive)
     let s : State := s.wr Reg.REF_STATUS.HOLDER (p.val)
     let s : State := { s with referee := { s.referee with ball := (true) } }
     let s : State := { s with referee := { s.referee with broken := (false) } }
     let s : State := s.wr Reg.REF_STATUS.STATE rsHeld
     let s : State := s.wr Reg.REF_STATUS.ROLE_B roOff
     s.role p.val = roActive ∧ s.holder = p.val ∧ s.referee.ball = true ∧ s.referee.broken = false ∧ s.refState = rsHeld ∧ s.role (1 -
       p.val) ≠ roCold) ∧
    (let s : State := run0
     let s : State := { s with referee := { s.referee with expiring := (true) } }
     let s : State := { s with referee := { s.referee with ball := (true) } }
     let s : State := { s with referee := { s.referee with broken := (false) } }
     let s : State := s.wr Reg.REF_STATUS.STATE rsHeld
     let s : State := s.wr (if (1 - s.holder) = 0 then Reg.REF_STATUS.ROLE_A else Reg.REF_STATUS.ROLE_B) (roCold)
     s.referee.expiring = true ∧ s.referee.ball = true ∧ s.referee.broken = false ∧ s.refState = rsHeld ∧ s.holder ≤ 1 ∧ s.role (1 -
       s.holder) = roCold) ∧
    (let s : State := run0
     let s : State := { s with referee := { s.referee with expiring := (false) } }
     s.referee.expiring = false) ∧
    (let p : Fin 2 := 1
     let s : State := run0
     let s : State := s.wr Reg.REF_STATUS.STATE rsShadow
     let s : State := s.wr Reg.REF_STATUS.ROLE_B roShadow
     (s.role p.val = roWaking ∨ s.role p.val = roShadow) ∧ s.standby = p.val ∧ s.refState = rsShadow) ∧
    (let p : Fin 2 := 0
     let t : Nat := 20000000000
     let s : State := run0
     let s : State := { s with referee := { s.referee with broken := (false) } }
     let s : State := { s with referee := { s.referee with ball := (false) } }
     let s : State := s.wr Reg.REF_STATUS.HOLDER (p.val)
     s.referee.broken = false ∧ s.referee.ball = false ∧ s.holder = p.val ∧ (s.elapse t).heldNow p.val = true) ∧
    (let p : Fin 2 := 1
     let t : Nat := 20000000000
     let s : State := run0
     (s.elapse t).heldNow p.val = false ∧ s.role p.val ≠ roWaking ∧ s.role p.val ≠ roShadow) ∧
    (let s : State := run0
     let s : State := s.wr Reg.REF_STATUS.STATE rsHeld
     s.refState = rsHeld) ∧
    (let s : State := run0
     let s : State := s.wr Reg.REF_STATUS.STATE ((if rsHeld = 0 then 1 else 0))
     s.refState ≠ rsHeld) := by
  refine ⟨?_, ?_, ?_, ?_, ?_, ?_, ?_, ?_, ?_⟩ <;> decide +kernel

/-- Obligations.TakeoversLoadACheckpointAndGrant. -/
theorem test_takeovers_load_a_checkpoint_and_grant :
    (let bad : Bool := true
     let s : State := run0
     let s : State := { s with referee := { s.referee with wake := (.memory) } }
     let s : State := s.wr Reg.REF_STATUS.STATE rsWake
     let s : State := { s with referee := { s.referee with broken := (false) } }
     s.referee.wake = .memory ∧ s.refState = rsWake ∧ s.referee.broken = false ∧ s.loadChoice bad = none) ∧
    (let s : State := run0
     let s : State := { s with referee := { s.referee with wake := (.memory) } }
     let s : State := s.wr Reg.REF_STATUS.STATE rsShadow
     s.referee.wake = .memory ∧ s.refState = rsShadow) ∧
    (let s : State := run0
     s.referee.wake ≠ .memory) ∧
    (let s : State := run0
     let s : State := s.wr Reg.REF_STATUS.STATE rsWake
     let s : State := { s with referee := { s.referee with wake := (.ready) } }
     let s : State := { s with referee := { s.referee with broken := (false) } }
     s.refState = rsWake ∧ s.referee.wake = .ready ∧ s.referee.broken = false) ∧
    (let s : State := run0
     (s.refState ≠ rsWake ∨ s.referee.wake ≠ .ready ∨ s.referee.broken = true)) := by
  refine ⟨?_, ?_, ?_, ?_, ?_⟩ <;> decide +kernel

/-- Obligations.HalftimeHandsOverAndReviveReturnsAPlane. -/
theorem test_halftime_hands_over_and_revive_returns_a_plane :
    (let s : State := run0
     let s : State := s.wr Reg.REF_STATUS.STATE rsShadow
     let s : State := { s with referee := { s.referee with shadow := some ⟨false, some 3⟩ } }
     let s : State := s.wr Reg.REF_HT_STATUS.MATCHED 64
     s.refState = rsShadow ∧ s.shadowComplete false = true ∧ s.holder ≤ 1) ∧
    (let s : State := run0
     (s.refState ≠ rsShadow ∨ s.shadowComplete false = false)) ∧
    (let s : State := run0
     let s : State := s.wr Reg.REF_STATUS.STATE rsHeld
     let s : State := s.wr (if s.standby = 0 then Reg.REF_STATUS.ROLE_A else Reg.REF_STATUS.ROLE_B) (roUnfit)
     let s : State := { s with load := { s.load with dram := (true) } }
     s.refState = rsHeld ∧ s.role s.standby = roUnfit ∧ s.rd Reg.POWER_SHED.STEP < 3 ∧ s.load.dram = true) ∧
    (let s : State := run0
     let s : State := s.wr Reg.REF_STATUS.STATE rsHeld
     let s : State := s.wr (if s.standby = 0 then Reg.REF_STATUS.ROLE_A else Reg.REF_STATUS.ROLE_B) (roUnfit)
     let s : State := { s with load := { s.load with dram := (false) } }
     s.refState = rsHeld ∧ s.role s.standby = roUnfit ∧ s.rd Reg.POWER_SHED.STEP < 3 ∧ s.load.dram = false) ∧
    (let s : State := run0
     (s.refState ≠ rsHeld ∨ s.role s.standby ≠ roUnfit ∨ 3 ≤ s.rd Reg.POWER_SHED.STEP)) ∧
    (let s : State := run0
     let s : State := s.wr Reg.REF_STATUS.STATE rsShadow
     let s : State := { s with referee := { s.referee with shadow := some ⟨true, some 3⟩ } }
     let s : State := s.wr Reg.REF_HT_STATUS.MATCHED 64
     s.refState = rsShadow ∧ s.shadowComplete true = true) ∧
    (let s : State := run0
     (s.refState ≠ rsShadow ∨ s.shadowComplete true = false)) := by
  refine ⟨?_, ?_, ?_, ?_, ?_, ?_, ?_⟩ <;> decide +kernel

/-- Obligations.PairPacketsAreTakenAndSilenceIsJudged. -/
theorem test_pair_packets_are_taken_and_silence_is_judged :
    (let port : Fin 4 := 0
     let b : List Byte := List.replicate 112 0
     let s : State := run0
     let s : State := s.wr Reg.REF_PAIR.ENABLED 1
     let s : State := { s with cfg := { s.cfg with bb := some ⟨1, some 0, [(true, 0), (true, 0), (false, 0), (false, 0)], [⟨1, 16, 15, 0⟩, ⟨2, 17, 0, 0⟩, ⟨3, 18, 0, 0x55⟩]⟩ } }
     let s : State := s.wr Reg.REF_PAIR.ENABLED 1
     let s : State := { s with host := { s.host with partners := Tbl.put default s.host.partners 1 { (default : Partner) with helloAt := some 19999000000, imageId := some 0x1122 } } }
     let s : State := s.wr Reg.BB_STATUS.UP 1 0
     s.pairEnabled = true ∧ s.pairPort = some port.val ∧ s.pairLinkUp = true ∧ s.pairSameImage = true ∧ 112 ≤ b.length ∧ ((pairRecords
       (u16At b 2) (b.drop 112)).filter fun r => u8At r 0 == 5) = []) ∧
    (let port : Fin 4 := 0
     let src : Nat := 0
     let b : List Byte := []
     let s : State := run0
     (s.pairEnabled = false ∨ s.pairPort ≠ some port.val ∨ src ≠ s.pairNode ∨ s.pairLinkUp = false ∨ s.pairSameImage = false ∨ b.length <
       112)) ∧
    (let s : State := run0
     let s : State := s.wr Reg.REF_PAIR.ENABLED 1
     let s : State := { s with pair := { s.pair with arrived := (false) } }
     let s : State := { s with pair := { s.pair with silent := 3 } }
     s.pairEnabled = true ∧ s.pair.arrived = false ∧ 3 ≤ s.pair.silent) ∧
    (let s : State := run0
     (s.pairEnabled = false ∨ s.pair.arrived = true ∨ s.pair.silent < 3)) := by
  refine ⟨?_, ?_, ?_, ?_⟩ <;> decide +kernel

/-- Obligations.CommandEntriesAreJudgedInOrder. -/
theorem test_command_entries_are_judged_in_order :
    (let b : List Byte := leBytes 4 1 ++ leBytes 4 0 ++ [0x21, 1, 0, 0, 0, 0, 0, 0, 3]
     let s : State := run0
     let s : State := s.wr Reg.JRN_CMD_CFG.EN 1
     let s : State := s.wr Reg.JRN_CPL_CFG.EN 1
     let s : State := s.wr Reg.JRN_CMD_HEAD.INDEX 1
     s.ringReady = true ∧ u32At b 4 = s.epoch ∧ formatOk (u8At b 8) (u8At b 9) (slice b 16 88) = true ∧ signed 32 (u32At b 0 + 4294967296 -
       s.lastSeq 0) = 1 ∧ s.journal.recs.length + s.journal.writing.length < 1024) ∧
    (let b : List Byte := leBytes 4 5 ++ leBytes 4 0 ++ [0x21, 1, 0, 0, 0, 0, 0, 0, 3]
     let s : State := run0
     let s : State := s.wr Reg.JRN_CMD_CFG.EN 1
     let s : State := s.wr Reg.JRN_CPL_CFG.EN 1
     let s : State := s.wr Reg.JRN_CMD_HEAD.INDEX 1
     s.ringReady = true ∧ u32At b 4 = s.epoch ∧ formatOk (u8At b 8) (u8At b 9) (slice b 16 88) = true ∧ 1 < signed 32 (u32At b 0 +
       4294967296 - s.lastSeq 0)) ∧
    (let b : List Byte := leBytes 4 0 ++ leBytes 4 0 ++ [0x21, 1, 0, 0, 0, 0, 0, 0, 3]
     let s : State := run0
     let s : State := s.wr Reg.JRN_CMD_CFG.EN 1
     let s : State := s.wr Reg.JRN_CPL_CFG.EN 1
     let s : State := s.wr Reg.JRN_CMD_HEAD.INDEX 1
     s.ringReady = true ∧ u32At b 4 = s.epoch ∧ formatOk (u8At b 8) (u8At b 9) (slice b 16 88) = true ∧ signed 32 (u32At b 0 + 4294967296 -
       s.lastSeq 0) ≤ 0) ∧
    (let b : List Byte := leBytes 4 1 ++ leBytes 4 0 ++ [0x21, 1, 0, 0, 0, 0, 0, 0, 3]
     let s : State := run0
     let s : State := s.wr Reg.JRN_CMD_CFG.EN 1
     let s : State := s.wr Reg.JRN_CPL_CFG.EN 1
     let s : State := s.wr Reg.JRN_CMD_HEAD.INDEX 1
     let s : State := { s with journal := { s.journal with recs := List.replicate 1024 { (default : JrnRec) with source := 3 } } }
     s.ringReady = true ∧ u32At b 4 = s.epoch ∧ formatOk (u8At b 8) (u8At b 9) (slice b 16 88) = true ∧ signed 32 (u32At b 0 + 4294967296 -
       s.lastSeq 0) = 1 ∧ 1024 ≤ s.journal.recs.length + s.journal.writing.length) ∧
    (let b : List Byte := leBytes 4 1 ++ leBytes 4 9 ++ [0x21, 1]
     let s : State := run0
     let s : State := s.wr Reg.JRN_CMD_CFG.EN 1
     let s : State := s.wr Reg.JRN_CPL_CFG.EN 1
     let s : State := s.wr Reg.JRN_CMD_HEAD.INDEX 1
     s.ringReady = true ∧ (u32At b 4 ≠ s.epoch ∨ formatOk (u8At b 8) (u8At b 9) (slice b 16 88) = false)) ∧
    (let s : State := run0
     s.ringReady = false) := by
  refine ⟨?_, ?_, ?_, ?_, ?_, ?_⟩ <;> decide +kernel

/-- Obligations.AcceptedRecordsAreHeldMirroredAndRetired. -/
theorem test_accepted_records_are_held_mirrored_and_retired :
    (let ok : Bool := true
     let s : State := run0
     let s : State := { s with journal := { s.journal with writing := [{ (default : JrnRec) with seq := 1, source := 3, opcode := 0x21, args := [3] }] } }
     let r : JrnRec := (s.journal.writing).headD default
     let l : List JrnRec := (s.journal.writing).tail
     s.journal.writing = r :: l ∧ r.source < 16 ∧ (s.mirrors = false ∨ ok = true)) ∧
    (let s : State := run0
     let s : State := { s with journal := { s.journal with writing := [{ (default : JrnRec) with seq := 1, source := 3, opcode := 0x21, args := [3] }] } }
     let s : State := s.wr Reg.JRN_MRAM_CFG.EN 1
     let r : JrnRec := (s.journal.writing).headD default
     let l : List JrnRec := (s.journal.writing).tail
     s.journal.writing = r :: l ∧ s.mirrors = true) ∧
    (let s : State := run0
     let s : State := { s with journal := { s.journal with writing := [{ (default : JrnRec) with seq := 1, source := 3, opcode := 0x21, args := [3] }] } }
     let r : JrnRec := (s.journal.writing).headD default
     let l : List JrnRec := (s.journal.writing).tail
     s.journal.writing = r :: l) ∧
    (let s : State := run0
     let s : State := { s with journal := { s.journal with writing := ([]) } }
     s.journal.writing = []) ∧
    (let v : Nat := 1
     let s : State := run0
     let s : State := s.wr Reg.JRN_MRAM_CFG.EN 0
     v % 2 = 1 ∧ s.rd Reg.JRN_MRAM_CFG.EN = 0) ∧
    (let v : Nat := 0
     let s : State := run0
     (v % 2 = 0 ∨ s.rd Reg.JRN_MRAM_CFG.EN ≠ 0)) ∧
    (let v : Nat := 0
     let s : State := run0
     let s : State := s.wr Reg.JRN_MRAM_CFG.EN 1
     v % 2 = 0 ∧ s.rd Reg.JRN_MRAM_CFG.EN ≠ 0) ∧
    (let v : Nat := 0
     let s : State := run0
     (v % 2 = 1 ∨ s.rd Reg.JRN_MRAM_CFG.EN = 0)) ∧
    (let v : Nat := 0x5AE10001
     let s : State := run0
     let s : State := s.wr Reg.POWER_STATE.STATE stKickOff
     v % 2 = 1 ∧ v / 65536 % 65536 = 0x5AE1 ∧ s.device = stKickOff) ∧
    (let v : Nat := 0
     let s : State := run0
     (v % 2 = 0 ∨ v / 65536 % 65536 ≠ 0x5AE1 ∨ s.device ≠ stKickOff)) := by
  refine ⟨?_, ?_, ?_, ?_, ?_, ?_, ?_, ?_, ?_, ?_⟩ <;> decide +kernel

/-- Obligations.ConverterResultsAndTheReference. -/
theorem test_converter_results_and_the_reference :
    (let c : Fin 8 := 0
     let s : State := run0
     let s : State := { s with adc := { s.adc with convs := Tbl.put default s.adc.convs 0 { (default : AdcConv) with running := true, entries := [⟨3, 100, 2, true, 32768, 5, 100, -100⟩], inputs := List.replicate 64 5 } } }
     s.sarRuns c.val = true) ∧
    (let c : Fin 8 := 0
     let s : State := run0
     s.sarRuns c.val = false) ∧
    (let c : Fin 8 := 0
     let e : Fin 32 := 0
     let s : State := run0
     let s : State := s.wrBit Reg.ADC_STATUS.BUSY c.val true
     let s : State := { s with adc := { s.adc with convs := Tbl.put default s.adc.convs 0 { (default : AdcConv) with running := true, entries := [⟨3, 100, 2, true, 32768, 5, 100, -100⟩], inputs := List.replicate 64 5 } } }
     let s : State := s.wr Reg.ADC_STATUS.BUSY 1
     let x : AdcEntry := ((s.sar c.val).entries[e.val]?).getD default
     (s.sar c.val).entries[e.val]? = some x ∧ hasBit (s.rd Reg.ADC_STATUS.BUSY) c.val = true) ∧
    (let c : Fin 8 := 0
     let e : Fin 32 := 0
     let s : State := run0
     ((s.sar c.val).entries[e.val]? = none ∨ hasBit (s.rd Reg.ADC_STATUS.BUSY) c.val = false)) ∧
    (let c : Fin 8 := 0
     let e : Fin 32 := 0
     let s : State := run0
     (-2147483648 ≤ Tbl.look 0 (s.sar c.val).latest e.val) ∧ Tbl.look 0 (s.sar c.val).latest e.val ≤ 2147483647) ∧
    (let s : State := run0
     (∀ c, c < 8 → burstFits (s.stagedSar c).entries s.cfg.frame.pmin s.cfg.frame.sample s.cfg.frame.freeze = true)) ∧
    (let c : Nat := 0
     let s : State := run0
     let s : State := s.wr Reg.ADC_SEQ_CTRL.LEN 32 0
     let s : State := (upTo 32).foldl (fun s e => s.wr Reg.ADC_ENTRY_CFG.ACQ 255 0 e) s
     c < 8 ∧ burstFits (s.stagedSar c).entries s.cfg.frame.pmin s.cfg.frame.sample s.cfg.frame.freeze = false) ∧
    (let u : Fin 4 := 1
     let k : Fin 4 := 2
     let b : List Bool := [true, false, true]
     let c : Nat := 6
     let s : State := run0
     let s : State := s.modDs 6 fun d => { d with cfg := ⟨3, 5, 2, 32768, 7⟩ }
     let d : DsSt := s.dsCh c
     let l : List Int := b.foldl (fun l x => sincBit (if x then 1 else -1) l) (if d.integ.isEmpty then List.replicate d.cfg.order 0 else
       d.integ)
     let y : Int := (sincComb (l.getLastD 0) (if d.comb.isEmpty then List.replicate d.cfg.order 0 else d.comb)).1
     let m : List Int := (sincComb (l.getLastD 0) (if d.comb.isEmpty then List.replicate d.cfg.order 0 else d.comb)).2
     c = 4 * u.val + k.val ∧ u.val < s.silicon.variant.drives ∧ d.cfg.order ≠ 0 ∧ d.staged = none ∧ (y, m) = sincComb (l.getLastD 0) (if
       d.comb.isEmpty then List.replicate d.cfg.order 0 else d.comb)) ∧
    (let u : Fin 4 := 3
     let s : State := run0
     let s : State := s.modDrv u.val fun x => { x with probeEnd := (none) }
     let s : State := { s with silicon := { s.silicon with variant := .cx0768 } }
     s.silicon.variant.drives ≤ u.val ∧ (s.drv u.val).probeEnd = none) ∧
    (let s : State := run0
     let s : State := s.wr Reg.ADC_REF.EN 0
     let s : State := { s with power := { s.power with analogOff := (false) } }
     s.rd Reg.ADC_REF.EN = 0 ∧ s.power.analogOff = false) ∧
    (let s : State := run0
     let s : State := s.wr Reg.ADC_REF.EN 1
     (s.rd Reg.ADC_REF.EN ≠ 0 ∨ s.power.analogOff = true)) ∧
    (let t : Nat := 20000000000
     let s : State := run0
     let s : State := s.wr Reg.ADC_REF.EN 1
     let s : State := s.wr Reg.ADC_REF.READY 0
     s.rd Reg.ADC_REF.EN ≠ 0 ∧ s.rd Reg.ADC_REF.READY = 0 ∧ s.adc.refSince + 1500000 ≤ (s.elapse t).time.ns) ∧
    (let t : Nat := 20000000000
     let s : State := run0
     (s.rd Reg.ADC_REF.EN = 0 ∨ (s.elapse t).time.ns < s.adc.refSince + 1500000)) := by
  refine ⟨?_, ?_, ?_, ?_, ?_, ?_, ?_, ?_, ?_, ?_, ?_, ?_, ?_⟩ <;> decide +kernel

/-- Obligations.HousekeepingRoundsJudgeHeatAndReference. -/
theorem test_housekeeping_rounds_judge_heat_and_reference :
    (let s : State := run0
     let s : State := { s with power := { s.power with held := (false) } }
     s.power.held = false ∧ (s.device = stKickOff ∨ s.device = stRun ∨ s.device = stHold)) ∧
    (let s : State := run0
     let s : State := { s with power := { s.power with held := true } }
     (s.power.held = true ∨ s.device = stDormant ∨ s.device = stKeepOnly)) ∧
    (let r : List (Nat × Bool × Bool) := List.replicate 14 (1511, true, false)
     let s : State := run0
     let s : State := { s with adc := { s.adc with hkStart := some 19999000000 } }
     let a : Nat := (s.adc.hkStart).getD default
     let x : Nat → Nat × Bool × Bool := (fun i => r.getD i (0, false, false))
     s.adc.hkStart = some a ∧ (∀ i, i < 14 → (x i).1 % 4096 < 1512)) ∧
    (let r : List (Nat × Bool × Bool) := (List.replicate 13 (100, true, false)) ++ [(1512, false, false)]
     let i : Nat := 13
     let v : Nat := 1512
     let s : State := run0
     let s : State := { s with adc := { s.adc with hkStart := some 19999000000 } }
     let a : Nat := (s.adc.hkStart).getD default
     s.adc.hkStart = some a ∧ i < 14 ∧ r[i]? = some (v, false, false) ∧ 1512 ≤ v ∧ v ≤ 1912) ∧
    (let s : State := run0
     let s : State := { s with adc := { s.adc with hkStart := (none) } }
     s.adc.hkStart = none) := by
  refine ⟨?_, ?_, ?_, ?_, ?_⟩ <;> decide +kernel

/-- Obligations.TripsTurnLegsOffAndLatch. -/
theorem test_trips_turn_legs_off_and_latch :
    (let d : DrvIn := ⟨1, 1⟩
     let x : Fin 4 := 0
     let high : Bool := true
     let t : Nat := 20000000000
     let s : State := run0
     let s : State := s.modDrv 1 fun d => { d with act := { (default : DrvSet) with mode := 1, top := 2500, chopPeriod := 5000, chopTime := 1000, blank := 10, dead := [25, 25, 25], legMode := [1, 1, 1, 1], cmp := [100, 200, 300] }, valleyAt := 19999980000, chopAt := 19999980000 }
     let s : State := s.modLeg 1 0 fun l => { l with hs := { l.hs with on := true, since := 19999000000 }, hsSent := true }
     let a : State := s.drvElapse d.unit.val t
     a.desatSeen d.unit.val x.val high = true) ∧
    (let d : DrvIn := ⟨0, 0⟩
     let x : Fin 4 := 0
     let high : Bool := true
     let t : Nat := 20000000000
     let s : State := run0
     let a : State := s.drvElapse d.unit.val t
     a.desatSeen d.unit.val x.val high = false) ∧
    (let d : DrvIn := ⟨0, 0⟩
     let s : State := run0
     s.hasUnit d.unit.val = true) ∧
    (let d : DrvIn := ⟨3, 1⟩
     let s : State := run0
     let s : State := { s with silicon := { s.silicon with variant := .cx0768 } }
     s.hasUnit d.unit.val = false) ∧
    (let u : Fin 4 := 0
     let t : Nat := 20000000000
     let s : State := run0
     let s : State := s.wr Reg.DRV_STATUS.LINK 1 u.val
     let a : State := s.drvElapse u.val t
     s.hasUnit u.val = true ∧ a.rd Reg.DRV_STATUS.LINK u.val ≠ 0) ∧
    (let u : Fin 4 := 1
     let t : Nat := 20000000000
     let s : State := run0
     let a : State := s.drvElapse u.val t
     (s.hasUnit u.val = false ∨ a.rd Reg.DRV_STATUS.LINK u.val = 0)) ∧
    (let u : Fin 4 := 1
     let x : Fin 4 := 0
     let t : Nat := 20000000000
     let s : State := run0
     let s : State := s.modLeg u.val x.val fun x => { x with hsSent := (true) }
     let s : State := s.modLeg 1 0 fun l => { l with hsCmd := true, hsSent := true }
     let a : State := s.drvElapse u.val t
     s.hasUnit u.val = true ∧ (a.leg u.val x.val).hsSent = true) ∧
    (let u : Fin 4 := 0
     let x : Fin 4 := 0
     let t : Nat := 20000000000
     let s : State := run0
     let a : State := s.drvElapse u.val t
     (s.hasUnit u.val = false ∨ (a.leg u.val x.val).hsSent = false)) ∧
    (let d : DrvIn := ⟨1, 0⟩
     let v : Nat := 0x6C1D0004
     let t : Nat := 20000000000
     let s : State := run0
     let s : State := s.wr Reg.DRV_STATUS.LATCHED 1 d.unit.val
     let s : State := s.wr Reg.DRV_STATUS.VDRV_OK 1 d.unit.val
     let s : State := s.wr Reg.DRV_STATUS.LINK 1 d.unit.val
     let s : State := s.wr Reg.DRV_STATUS.LATCHED 1 1
     let s : State := s.wr Reg.DRV_STATUS.VDRV_OK 1 1
     let s : State := s.wr Reg.DRV_STATUS.LINK 1 1
     let a : State := s.drvElapse d.unit.val t
     s.hasUnit d.unit.val = true ∧ hasBit v 2 = true ∧ bitsOf v 16 16 = 0x6C1D ∧ a.rd Reg.DRV_STATUS.LATCHED d.unit.val ≠ 0 ∧ a.rd
       Reg.DRV_STATUS.VDRV_OK d.unit.val ≠ 0 ∧ a.rd Reg.DRV_STATUS.LINK d.unit.val ≠ 0 ∧ (∀ x, x < 4 → legInputs d.inputs x = false)) ∧
    (let d : DrvIn := ⟨1, 0x2000⟩
     let v : Nat := 0x6C1D0004
     let t : Nat := 20000000000
     let s : State := run0
     let s : State := s.wr Reg.DRV_STATUS.LATCHED 1 d.unit.val
     let s : State := s.wr Reg.DRV_STATUS.LATCHED 1 1
     let s : State := s.wr Reg.DRV_STATUS.VDRV_OK 1 1
     let s : State := s.wr Reg.DRV_STATUS.LINK 1 1
     let a : State := s.drvElapse d.unit.val t
     s.hasUnit d.unit.val = true ∧ hasBit v 2 = true ∧ bitsOf v 16 16 = 0x6C1D ∧ a.rd Reg.DRV_STATUS.LATCHED d.unit.val ≠ 0 ∧ (a.rd
       Reg.DRV_STATUS.VDRV_OK d.unit.val = 0 ∨ a.rd Reg.DRV_STATUS.LINK d.unit.val = 0 ∨ ∃ x, x < 4 ∧ legInputs d.inputs x = true)) ∧
    (let d : DrvIn := ⟨0, 0⟩
     let v : Nat := 0
     let t : Nat := 20000000000
     let s : State := run0
     let a : State := (s.drvElapse d.unit.val t).seeInputs d.unit.val d.inputs
     s.hasUnit d.unit.val = true ∧ hasBit v 3 = false ∧ (hasBit v 2 = false ∨ bitsOf v 16 16 ≠ 0x6C1D ∨ a.rd Reg.DRV_STATUS.LATCHED
       d.unit.val = 0)) ∧
    (let d : DrvIn := ⟨1, 0⟩
     let v : Nat := 9
     let s : State := run0
     s.hasUnit d.unit.val = true ∧ hasBit v 3 = true) ∧
    (let d : DrvIn := ⟨3, 1⟩
     let s : State := run0
     let s : State := { s with silicon := { s.silicon with variant := .cx0768 } }
     s.hasUnit d.unit.val = false) := by
  refine ⟨?_, ?_, ?_, ?_, ?_, ?_, ?_, ?_, ?_, ?_, ?_, ?_, ?_⟩ <;> decide +kernel

/-- Obligations.DriveSideConditionsHoldGatesOff. -/
theorem test_drive_side_conditions_hold_gates_off :
    (let u : Fin 4 := 0
     let s : State := run0
     s.hasUnit u.val = true) ∧
    (let u : Fin 4 := 0
     let s : State := run0
     s.hasUnit u.val = true) ∧
    (let u : Fin 4 := 3
     let s : State := run0
     let s : State := { s with silicon := { s.silicon with variant := .cx0768 } }
     s.hasUnit u.val = false) ∧
    (let u : Fin 4 := 0
     let s : State := run0
     let s : State := s.modDrv u.val fun x => { x with otLatch := (false) }
     s.hasUnit u.val = true ∧ (s.drv u.val).otLatch = false) ∧
    (let u : Fin 4 := 3
     let s : State := run0
     let s : State := { s with silicon := { s.silicon with variant := .cx0768 } }
     (s.hasUnit u.val = false ∨ (s.drv u.val).otLatch = true)) ∧
    (let u : Fin 4 := 1
     let t : Nat := 20000000000
     let s : State := run0
     let s : State := s.modDrv u.val fun x => { x with otLatch := (true) }
     let s : State := s.modDrv 1 fun d => { d with otLatch := true }
     let s : State := { s with power := { s.power with sinceVdrvLow := Tbl.put 0 s.power.sinceVdrvLow 1 19990000001 } }
     let a : State := s.drvElapse u.val t
     (s.drv u.val).otLatch = true ∧ 0 < Tbl.look 0 s.power.sinceVdrvLow u.val ∧ Tbl.look 0 s.power.sinceVdrvLow u.val + 9999999 ≤ a.time.ns) ∧
    (let u : Fin 4 := 0
     let t : Nat := 20000000000
     let s : State := run0
     let a : State := s.drvElapse u.val t
     ((s.drv u.val).otLatch = false ∨ Tbl.look 0 s.power.sinceVdrvLow u.val = 0 ∨ a.time.ns < Tbl.look 0 s.power.sinceVdrvLow u.val +
       9999999)) ∧
    (let u : Fin 4 := 0
     let t : Nat := 20000000000
     let s : State := run0
     let s : State := s.wr Reg.DRV_STATUS.LINK 1 u.val
     let a : State := s.drvElapse u.val t
     s.hasUnit u.val = true ∧ a.rd Reg.DRV_STATUS.LINK u.val ≠ 0) ∧
    (let u : Fin 4 := 3
     let t : Nat := 20000000000
     let s : State := run0
     let s : State := { s with silicon := { s.silicon with variant := .cx0768 } }
     let a : State := s.drvElapse u.val t
     (s.hasUnit u.val = false ∨ a.rd Reg.DRV_STATUS.LINK u.val = 0)) ∧
    (let u : Fin 4 := 0
     let inp : Nat := 0
     let t : Nat := 20000000000
     let s : State := run0
     let s : State := { s with power := { s.power with held := (false) } }
     let s : State := s.wr Reg.DRV_STATUS.LINK 0 u.val
     let a : State := (s.elapse t).drvSees ⟨u, inp⟩
     s.hasUnit u.val = true ∧ s.power.held = false ∧ a.rd Reg.DRV_STATUS.LINK u.val = 0) ∧
    (let u : Fin 4 := 0
     let inp : Nat := 0
     let t : Nat := 20000000000
     let s : State := run0
     let a : State := (s.elapse t).drvSees ⟨u, inp⟩
     (s.hasUnit u.val = false ∨ s.power.held = true ∨ a.rd Reg.DRV_STATUS.LINK u.val ≠ 0)) ∧
    (let u : Fin 4 := 0
     let s : State := run0
     let s : State := s.wrBit Reg.SAFE_FIRE.DRV_A u.val true
     let s : State := s.wrBit Reg.SAFE_FIRE.DRV_B u.val true
     s.hasUnit u.val = true ∧ hasBit (s.rd Reg.SAFE_FIRE.DRV_A) u.val = true ∧ hasBit (s.rd Reg.SAFE_FIRE.DRV_B) u.val = true) ∧
    (let u : Fin 4 := 0
     let s : State := run0
     s.hasUnit u.val = true) ∧
    (let u : Fin 4 := 0
     let on : Bool := true
     let s : State := run0
     (s.hasUnit u.val = false ∨ on = true ∧ (hasBit (s.rd Reg.SAFE_FIRE.DRV_A) u.val = false ∨ hasBit (s.rd Reg.SAFE_FIRE.DRV_B) u.val =
       false))) ∧
    (let u : Fin 4 := 0
     let s : State := run0
     s.hasUnit u.val = true) ∧
    (let u : Fin 4 := 3
     let v : Bool := false
     let s : State := run0
     (s.hasUnit u.val = false ∨ v = false)) := by
  refine ⟨?_, ?_, ?_, ?_, ?_, ?_, ?_, ?_, ?_, ?_, ?_, ?_, ?_, ?_, ?_, ?_⟩ <;> decide +kernel

/-- Obligations.CarriersCommandTheirLegs. -/
theorem test_carriers_command_their_legs :
    (let v : Nat := 0
     let t : Nat := 20000000000
     let s : State := run0
     let a : State := s.elapse t
     (∀ u, u < 4 → hasBit v u = true → s.hasUnit u = true → (a.stagedDrv u).loads = true)) ∧
    (let v : Nat := 1
     let t : Nat := 20000000000
     let u : Nat := 0
     let s : State := run0
     let a : State := s.elapse t
     u < 4 ∧ hasBit v u = true ∧ s.hasUnit u = true ∧ (a.stagedDrv u).loads = false) ∧
    (let d : DrvIn := ⟨1, 0⟩
     let t : Nat := 20000000000
     let s : State := run0
     let s : State := s.modDrv d.unit.val fun x => { x with phase := (none) }
     let s : State := s.modDrv 1 fun d => { d with act := { (default : DrvSet) with mode := 1, top := 2500, chopPeriod := 5000, chopTime := 1000, blank := 10, dead := [25, 25, 25], legMode := [1, 1, 1, 1], cmp := [100, 200, 300] }, valleyAt := 19999980000, chopAt := 19999980000 }
     let a : State := (s.elapse t).drvSees d
     let v : Nat := (boundaryAt (a.drv d.unit.val).valleyAt (a.drv d.unit.val).act.periodNs a.time.ns).getD default
     s.hasUnit d.unit.val = true ∧ (a.drv d.unit.val).act.mode ≠ mdOff ∧ (a.drv d.unit.val).act.mode ≠ mdMotor ∧ boundaryAt (a.drv
       d.unit.val).valleyAt (a.drv d.unit.val).act.periodNs a.time.ns = some v ∧ (a.drv d.unit.val).phase = none) ∧
    (let d : DrvIn := ⟨1, 0⟩
     let t : Nat := 20000000000
     let s : State := run0
     let s : State := s.modDrv 1 fun d => { d with act := { (default : DrvSet) with mode := 1, top := 2500, chopPeriod := 5000, chopTime := 1000, blank := 10, dead := [25, 25, 25], legMode := [1, 1, 1, 1], cmp := [100, 200, 300] }, valleyAt := 19999980000, chopAt := 19999980000, phase := some ({ (default : DrvSet) with mode := 1, top := 2500, chopPeriod := 5000, chopTime := 1000, blank := 10, dead := [25, 25, 25], legMode := [1, 1, 1, 1], cmp := [100, 200, 300] }) }
     let a : State := (s.elapse t).drvSees d
     let v : Nat := (boundaryAt (a.drv d.unit.val).valleyAt (a.drv d.unit.val).act.periodNs a.time.ns).getD default
     let p : DrvSet := ((a.drv d.unit.val).phase).getD default
     s.hasUnit d.unit.val = true ∧ (a.drv d.unit.val).act.mode ≠ mdOff ∧ (a.drv d.unit.val).act.mode ≠ mdMotor ∧ boundaryAt (a.drv
       d.unit.val).valleyAt (a.drv d.unit.val).act.periodNs a.time.ns = some v ∧ (a.drv d.unit.val).phase = some p ∧ p.mode ≠ mdOff ∧ p.mode
       ≠ mdMotor) ∧
    (let d : DrvIn := ⟨1, 0⟩
     let t : Nat := 20000000000
     let s : State := run0
     let s : State := s.modDrv 1 fun d => { d with act := { (default : DrvSet) with mode := 1, top := 2500, chopPeriod := 5000, chopTime := 1000, blank := 10, dead := [25, 25, 25], legMode := [1, 1, 1, 1], cmp := [100, 200, 300] }, valleyAt := 19999980000, chopAt := 19999980000, phase := some ({ (default : DrvSet) with mode := mdOff, top := 2500, chopPeriod := 5000, chopTime := 1000, blank := 10, dead := [25, 25, 25], legMode := [1, 1, 1, 1], cmp := [100, 200, 300] }) }
     let a : State := (s.elapse t).drvSees d
     let v : Nat := (boundaryAt (a.drv d.unit.val).valleyAt (a.drv d.unit.val).act.periodNs a.time.ns).getD default
     let p : DrvSet := ((a.drv d.unit.val).phase).getD default
     s.hasUnit d.unit.val = true ∧ (a.drv d.unit.val).act.mode ≠ mdOff ∧ boundaryAt (a.drv d.unit.val).valleyAt (a.drv
       d.unit.val).act.periodNs a.time.ns = some v ∧ (a.drv d.unit.val).phase = some p ∧ p.mode = mdOff) ∧
    (let d : DrvIn := ⟨0, 0⟩
     let t : Nat := 20000000000
     let s : State := run0
     let a : State := (s.elapse t).drvSees d
     (s.hasUnit d.unit.val = false ∨ (a.drv d.unit.val).act.mode = mdOff ∨ boundaryAt (a.drv d.unit.val).valleyAt (a.drv
       d.unit.val).act.periodNs a.time.ns = none)) ∧
    (let d : DrvIn := ⟨1, 0⟩
     let t : Nat := 20000000000
     let s : State := run0
     let s : State := s.modDrv d.unit.val fun x => { x with chop := (none) }
     let s : State := s.modDrv 1 fun d => { d with act := { (default : DrvSet) with mode := 1, top := 2500, chopPeriod := 5000, chopTime := 1000, blank := 10, dead := [25, 25, 25], legMode := [1, 1, 1, 1], cmp := [100, 200, 300] }, valleyAt := 19999980000, chopAt := 19999980000 }
     let a : State := (s.drvElapse d.unit.val t).seeInputs d.unit.val d.inputs
     let v : Nat := (boundaryAt (a.drv d.unit.val).chopAt (2 * (a.drv d.unit.val).act.chopPeriod) a.time.ns).getD default
     s.hasUnit d.unit.val = true ∧ (a.drv d.unit.val).act.mode ≠ mdOff ∧ boundaryAt (a.drv d.unit.val).chopAt (2 * (a.drv
       d.unit.val).act.chopPeriod) a.time.ns = some v ∧ (a.drv d.unit.val).chop = none) ∧
    (let d : DrvIn := ⟨1, 0⟩
     let t : Nat := 20000000000
     let s : State := run0
     let s : State := s.modDrv 1 fun d => { d with act := { (default : DrvSet) with mode := 1, top := 2500, chopPeriod := 5000, chopTime := 1000, blank := 10, dead := [25, 25, 25], legMode := [1, 1, 1, 1], cmp := [100, 200, 300] }, valleyAt := 19999980000, chopAt := 19999980000, chop := some ({ (default : DrvSet) with mode := 1, top := 2500, chopPeriod := 5000, chopTime := 1000, blank := 10, dead := [25, 25, 25], legMode := [1, 1, 1, 1], cmp := [100, 200, 300] }) }
     let a : State := (s.drvElapse d.unit.val t).seeInputs d.unit.val d.inputs
     let v : Nat := (boundaryAt (a.drv d.unit.val).chopAt (2 * (a.drv d.unit.val).act.chopPeriod) a.time.ns).getD default
     let p : DrvSet := ((a.drv d.unit.val).chop).getD default
     s.hasUnit d.unit.val = true ∧ (a.drv d.unit.val).act.mode ≠ mdOff ∧ boundaryAt (a.drv d.unit.val).chopAt (2 * (a.drv
       d.unit.val).act.chopPeriod) a.time.ns = some v ∧ (a.drv d.unit.val).chop = some p) ∧
    (let d : DrvIn := ⟨0, 0⟩
     let t : Nat := 20000000000
     let s : State := run0
     let a : State := (s.drvElapse d.unit.val t).seeInputs d.unit.val d.inputs
     (s.hasUnit d.unit.val = false ∨ (a.drv d.unit.val).act.mode = mdOff ∨ boundaryAt (a.drv d.unit.val).chopAt (2 * (a.drv
       d.unit.val).act.chopPeriod) a.time.ns = none)) ∧
    (let u : Fin 4 := 1
     let x : Fin 4 := 2
     let high : Bool := false
     let inp : Nat := 0x10
     let t : Nat := 20000000000
     let s : State := run0
     let s : State := s.modDrv 1 fun d => { d with act := { (default : DrvSet) with mode := 1, top := 2500, chopPeriod := 5000, chopTime := 1000, blank := 10, dead := [25, 25, 25], legMode := [1, 1, 1, 1], cmp := [100, 200, 300] }, valleyAt := 19999980000, chopAt := 19999980000 }
     let s : State := s.wr Reg.DRV_STATUS.LINK 1 1
     let a : State := (s.elapse t).drvSees ⟨u, inp⟩
     s.hasUnit u.val = true ∧ a.legMode u.val x.val = 1 ∧ x.val < 3 ∧ a.phaseOn u.val x.val = high) ∧
    (let u : Fin 4 := 1
     let high : Bool := false
     let inp : Nat := 0
     let t : Nat := 20000000000
     let s : State := run0
     let s : State := s.modDrv 1 fun d => { d with act := { (default : DrvSet) with mode := 1, top := 2500, chopPeriod := 5000, chopTime := 1000, blank := 10, dead := [25, 25, 25], legMode := [1, 1, 1, 1], cmp := [100, 200, 300] }, valleyAt := 19999980000, chopAt := 19999980000 }
     let s : State := s.wr Reg.DRV_STATUS.LINK 1 1
     let a : State := (s.elapse t).drvSees ⟨u, inp⟩
     s.hasUnit u.val = true ∧ a.legMode u.val 3 = 1 ∧ a.chopOn u.val = high) ∧
    (let u : Fin 4 := 0
     let x : Fin 4 := 0
     let high : Bool := true
     let inp : Nat := 0
     let t : Nat := 20000000000
     let s : State := run0
     let a : State := (s.elapse t).drvSees ⟨u, inp⟩
     (s.hasUnit u.val = false ∨ a.legMode u.val x.val ≠ 1 ∨ (if x.val = 3 then a.chopOn u.val else a.phaseOn u.val x.val) ≠ high)) := by
  refine ⟨?_, ?_, ?_, ?_, ?_, ?_, ?_, ?_, ?_, ?_, ?_, ?_⟩ <;> decide +kernel

/-- Obligations.MotorControlRunsAtTheValley. -/
theorem test_motor_control_runs_at_the_valley :
    (let u : Fin 4 := 1
     let inp : Nat := 0
     let t : Nat := 20000000000
     let s : State := run0
     let s : State := s.modDrv u.val fun x => { x with act := { x.act with mode := (mdMotor) } }
     let s : State := s.modDrv u.val fun x => { x with phase := (none) }
     let s : State := { s with cfg := { s.cfg with motors := [(1, { (s.cfg.motors.headD default).2 with src := 0 })] } }
     let s : State := s.modDrv 1 fun d => { d with act := { (default : DrvSet) with mode := mdMotor, top := 2500, chopPeriod := 5000, chopTime := 1000, blank := 10, dead := [25, 25, 25], legMode := [1, 1, 1, 1], cmp := [100, 200, 300] }, valleyAt := 19999980000, chopAt := 19999980000 }
     let s : State := { s with adc := { s.adc with ds := (upTo 4).foldl (fun t k => Tbl.put default t (4 + k) { (default : DsSt) with out := some ⟨499, 0, 1, 0, 0⟩ }) s.adc.ds } }
     let a : State := (s.elapse t).drvSees ⟨u, inp⟩
     let v : Nat := (boundaryAt (a.drv u.val).valleyAt (a.drv u.val).act.periodNs a.time.ns).getD default
     s.hasUnit u.val = true ∧ boundaryAt (a.drv u.val).valleyAt (a.drv u.val).act.periodNs a.time.ns = some v ∧ (a.drv u.val).act.mode =
       mdMotor ∧ (a.drv u.val).phase = none ∧ a.dsValid u.val = true ∧ ((a.dsNow u.val 3).1 < (a.motCfg u.val).ov2 ∨ a.rd
       Reg.DRV_STATUS.LATCHED u.val ≠ 0)) ∧
    (let u : Fin 4 := 1
     let inp : Nat := 0
     let t : Nat := 20000000000
     let s : State := run0
     let s : State := s.modDrv u.val fun x => { x with act := { x.act with mode := (mdMotor) } }
     let s : State := s.modDrv u.val fun x => { x with phase := (none) }
     let s : State := { s with cfg := { s.cfg with motors := [(1, { (s.cfg.motors.headD default).2 with src := 0 })] } }
     let s : State := s.modDrv 1 fun d => { d with act := { (default : DrvSet) with mode := mdMotor, top := 2500, chopPeriod := 5000, chopTime := 1000, blank := 10, dead := [25, 25, 25], legMode := [1, 1, 1, 1], cmp := [100, 200, 300] }, valleyAt := 19999980000, chopAt := 19999980000 }
     let s : State := { s with adc := { s.adc with ds := (upTo 4).foldl (fun t k => Tbl.put default t (4 + k) { (default : DsSt) with out := some ⟨499, 0, 0, 0, 0⟩ }) s.adc.ds } }
     let a : State := (s.elapse t).drvSees ⟨u, inp⟩
     let v : Nat := (boundaryAt (a.drv u.val).valleyAt (a.drv u.val).act.periodNs a.time.ns).getD default
     s.hasUnit u.val = true ∧ boundaryAt (a.drv u.val).valleyAt (a.drv u.val).act.periodNs a.time.ns = some v ∧ (a.drv u.val).act.mode =
       mdMotor ∧ (a.drv u.val).phase = none ∧ a.dsValid u.val = false) ∧
    (let u : Fin 4 := 1
     let inp : Nat := 0
     let t : Nat := 20000000000
     let s : State := run0
     let s : State := s.modDrv u.val fun x => { x with act := { x.act with mode := (mdMotor) } }
     let s : State := s.modDrv u.val fun x => { x with phase := (none) }
     let s : State := { s with cfg := { s.cfg with motors := [(1, { (s.cfg.motors.headD default).2 with src := 0 })] } }
     let s : State := s.modDrv 1 fun d => { d with act := { (default : DrvSet) with mode := mdMotor, top := 2500, chopPeriod := 5000, chopTime := 1000, blank := 10, dead := [25, 25, 25], legMode := [1, 1, 1, 1], cmp := [100, 200, 300] }, valleyAt := 19999980000, chopAt := 19999980000 }
     let s : State := { s with adc := { s.adc with ds := (upTo 4).foldl (fun t k => Tbl.put default t (4 + k) { (default : DsSt) with out := some ⟨499, 0, 1, 0, 0⟩ }) s.adc.ds } }
     let a : State := (s.elapse t).drvSees ⟨u, inp⟩
     let v : Nat := (boundaryAt (a.drv u.val).valleyAt (a.drv u.val).act.periodNs a.time.ns).getD default
     s.hasUnit u.val = true ∧ boundaryAt (a.drv u.val).valleyAt (a.drv u.val).act.periodNs a.time.ns = some v ∧ (a.drv u.val).act.mode =
       mdMotor ∧ (a.drv u.val).phase = none ∧ (a.dsValid u.val = false ∨ (a.dsNow u.val 3).1 < (a.motCfg u.val).ov2 ∨ a.rd
       Reg.DRV_STATUS.LATCHED u.val ≠ 0) ∧ (a.motCfg u.val).src = 0 ∧ a.safeDecel u.val = none ∧ a.shedUnit (a.motCfg u.val) = false) ∧
    (let u : Fin 4 := 1
     let inp : Nat := 0
     let t : Nat := 20000000000
     let s : State := run0
     let s : State := s.modDrv u.val fun x => { x with act := { x.act with mode := (mdMotor) } }
     let s : State := s.modDrv u.val fun x => { x with phase := (none) }
     let s : State := s.wr Reg.DRV_STATUS.LATCHED 0 u.val
     let s : State := { s with cfg := { s.cfg with motors := [(1, { (s.cfg.motors.headD default).2 with src := 0 })] } }
     let s : State := s.modDrv 1 fun d => { d with act := { (default : DrvSet) with mode := mdMotor, top := 2500, chopPeriod := 5000, chopTime := 1000, blank := 10, dead := [25, 25, 25], legMode := [1, 1, 1, 1], cmp := [100, 200, 300] }, valleyAt := 19999980000, chopAt := 19999980000 }
     let s : State := { s with adc := { s.adc with ds := (upTo 4).foldl (fun t k => Tbl.put default t (4 + k) { (default : DsSt) with out := some ⟨500, 0, 1, 0, 0⟩ }) s.adc.ds } }
     let a : State := (s.elapse t).drvSees ⟨u, inp⟩
     let v : Nat := (boundaryAt (a.drv u.val).valleyAt (a.drv u.val).act.periodNs a.time.ns).getD default
     s.hasUnit u.val = true ∧ boundaryAt (a.drv u.val).valleyAt (a.drv u.val).act.periodNs a.time.ns = some v ∧ (a.drv u.val).act.mode =
       mdMotor ∧ (a.drv u.val).phase = none ∧ a.dsValid u.val = true ∧ ((a.motCfg u.val).ov2 : Int) ≤ (a.dsNow u.val 3).1 ∧ a.rd
       Reg.DRV_STATUS.LATCHED u.val = 0) := by
  refine ⟨?_, ?_, ?_, ?_⟩ <;> decide +kernel

/-- Obligations.MotorStatesEndInTime. -/
theorem test_motor_states_end_in_time :
    (let u : Fin 4 := 0
     let s : State := run0
     let s : State := s.wrBit Reg.DRV_STATUS.LEG_FAULT 3 false u.val
     s.hasUnit u.val = true ∧ hasBit (s.rd Reg.DRV_STATUS.LEG_FAULT u.val) 3 = false) ∧
    (let u : Fin 4 := 0
     let s : State := run0
     let s : State := s.wr Reg.DRV_STATUS.LEG_FAULT 8 0
     (s.hasUnit u.val = false ∨ hasBit (s.rd Reg.DRV_STATUS.LEG_FAULT u.val) 3 = true)) ∧
    (let u : Fin 4 := 0
     let t : Nat := 20000000000
     let s : State := run0
     let s : State := s.modMot 0 fun m => { m with fullSince := some (19999900000, 500) }
     let s : State := s.wr Reg.MOT_BUS.VBUS 500 0
     let a : State := s.drvElapse u.val t
     let b : Nat := (((a.mot u.val).fullSince).getD default).1
     let v : Int := (((a.mot u.val).fullSince).getD default).2
     (a.mot u.val).fullSince = some (b, v) ∧ b + 1000 * (a.motCfg u.val).chopCheckUs ≤ a.time.ns ∧ v ≤ (a.rd Reg.MOT_BUS.VBUS u.val : Nat)) ∧
    (let u : Fin 4 := 0
     let t : Nat := 20000000000
     let v : Int := 500
     let s : State := run0
     let s : State := s.modMot 0 fun m => { m with fullSince := some (19999900000, 500) }
     let a : State := s.drvElapse u.val t
     let b : Nat := (((a.mot u.val).fullSince).getD default).1
     (a.mot u.val).fullSince = some (b, v) ∧ b + 1000 * (a.motCfg u.val).chopCheckUs ≤ a.time.ns ∧ ((a.rd Reg.MOT_BUS.VBUS u.val : Nat) :
       Int) < v) ∧
    (let u : Fin 4 := 0
     let t : Nat := 20000000000
     let s : State := run0
     let a : State := s.drvElapse u.val t
     (a.mot u.val).fullSince = none) ∧
    (let u : Fin 4 := 0
     let t : Nat := 20000000000
     let s : State := run0
     let s : State := s.wr Reg.MOT_STATE.STATE msStart u.val
     let s : State := s.modMot 0 fun m => { m with atHandover := some 19000000000 }
     let a : State := s.drvElapse u.val t
     let b : Nat := ((a.mot u.val).atHandover).getD default
     (a.mot u.val).atHandover = some b ∧ a.mstate u.val = msStart ∧ b + 1000000000 ≤ a.time.ns) ∧
    (let u : Fin 4 := 0
     let t : Nat := 20000000000
     let s : State := run0
     let a : State := s.drvElapse u.val t
     ((a.mot u.val).atHandover = none ∨ a.mstate u.val ≠ msStart ∨ ∃ b, (a.mot u.val).atHandover = some b ∧ a.time.ns < b + 1000000000)) ∧
    (let u : Fin 4 := 0
     let t : Nat := 20000000000
     let s : State := run0
     let s : State := s.wr Reg.MOT_STATE.STATE msCatch u.val
     let a : State := s.drvElapse u.val t
     a.mstate u.val = msCatch ∧ (a.mot u.val).entered + 200000000 ≤ a.time.ns) ∧
    (let u : Fin 4 := 0
     let t : Nat := 20000000000
     let s : State := run0
     let a : State := s.drvElapse u.val t
     (a.mstate u.val ≠ msCatch ∨ a.time.ns < (a.mot u.val).entered + 200000000)) ∧
    (let u : Fin 4 := 0
     let t : Nat := 20000000000
     let s : State := run0
     let s : State := s.wr Reg.MOT_STATE.STATE msCatch u.val
     let s : State := s.modMot 0 fun m => { m with slowSince := some 19980000000 }
     let a : State := s.drvElapse u.val t
     let b : Nat := ((a.mot u.val).slowSince).getD default
     (a.mot u.val).slowSince = some b ∧ a.mstate u.val = msCatch ∧ b + 20000000 ≤ a.time.ns) ∧
    (let u : Fin 4 := 0
     let t : Nat := 20000000000
     let s : State := run0
     let a : State := s.drvElapse u.val t
     ((a.mot u.val).slowSince = none ∨ a.mstate u.val ≠ msCatch ∨ ∃ b, (a.mot u.val).slowSince = some b ∧ a.time.ns < b + 20000000)) ∧
    (let u : Fin 4 := 0
     let t : Nat := 20000000000
     let s : State := run0
     let s : State := s.wr Reg.MOT_STATE.STATE msShort u.val
     let a : State := s.drvElapse u.val t
     a.mstate u.val = msShort ∧ (a.mot u.val).entered + 1000000 * (a.motCfg u.val).shortMs ≤ a.time.ns) ∧
    (let u : Fin 4 := 0
     let t : Nat := 20000000000
     let s : State := run0
     let a : State := s.drvElapse u.val t
     (a.mstate u.val ≠ msShort ∨ a.time.ns < (a.mot u.val).entered + 1000000 * (a.motCfg u.val).shortMs)) ∧
    (let u : Fin 4 := 0
     let t : Nat := 20000000000
     let s : State := run0
     let s : State := s.wr Reg.MOT_STATE.STATE msStopseq u.val
     let a : State := s.drvElapse u.val t
     a.mstate u.val = msStopseq ∧ (a.mot u.val).entered + 1000000 * (a.motCfg u.val).stopCoastMs ≤ a.time.ns) ∧
    (let u : Fin 4 := 0
     let t : Nat := 20000000000
     let s : State := run0
     let a : State := s.drvElapse u.val t
     (a.mstate u.val ≠ msStopseq ∨ a.time.ns < (a.mot u.val).entered + 1000000 * (a.motCfg u.val).stopCoastMs)) ∧
    (let u : Fin 4 := 0
     let t : Nat := 20000000000
     let s : State := run0
     let s : State := s.modMot u.val fun x => { x with spdHigh := (false) }
     let a : State := s.elapse t
     s.hasUnit u.val = true ∧ (s.mot u.val).spdHigh = false ∧ (∀ p, (s.mot u.val).spdAt = some p → p + 1000 * (s.motCfg u.val).capfilt ≤
       a.time.ns)) ∧
    (let u : Fin 4 := 0
     let t : Nat := 20000000000
     let s : State := run0
     let s : State := s.modMot u.val fun x => { x with spdHigh := (true) }
     let a : State := s.elapse t
     s.hasUnit u.val = true ∧ (s.mot u.val).spdHigh = true ∧ (∀ p, (s.mot u.val).spdAt = some p → p + 1000 * (s.motCfg u.val).capfilt ≤
       a.time.ns)) ∧
    (let u : Fin 4 := 0
     let h : Bool := false
     let s : State := run0
     (s.mot u.val).spdHigh = h) ∧
    (let u : Fin 4 := 0
     let t : Nat := 20000000000
     let s : State := run0
     let s : State := s.modDrv u.val fun x => { x with act := { x.act with mode := (mdMotor) } }
     let s : State := s.modDrv 0 fun d => { d with act := { (default : DrvSet) with mode := mdMotor, top := 2500, chopPeriod := 5000, chopTime := 1000, blank := 10, dead := [25, 25, 25], legMode := [1, 1, 1, 1], cmp := [100, 200, 300] }, valleyAt := 19999980000, chopAt := 19999980000 }
     let s : State := { s with cfg := { s.cfg with motors := s.cfg.motors.map fun p => (p.1, { p.2 with src := 1 }) } }
     let s : State := s.modMot 0 fun m => { m with goodAt := 19950000000 }
     (s.drv u.val).act.mode = mdMotor ∧ (s.motCfg u.val).src ≠ 0 ∧ (s.mot u.val).goodAt + 1000000 * (s.motCfg u.val).timeoutMs ≤ (s.elapse
       t).time.ns) ∧
    (let u : Fin 4 := 0
     let t : Nat := 20000000000
     let s : State := run0
     ((s.drv u.val).act.mode ≠ mdMotor ∨ (s.motCfg u.val).src = 0 ∨ (s.elapse t).time.ns < (s.mot u.val).goodAt + 1000000 * (s.motCfg
       u.val).timeoutMs)) := by
  refine ⟨?_, ?_, ?_, ?_, ?_, ?_, ?_, ?_, ?_, ?_, ?_, ?_, ?_, ?_, ?_, ?_, ?_, ?_, ?_, ?_⟩ <;> decide +kernel

/-- Obligations.SafetyChannelsAreFilteredAndTested. -/
theorem test_safety_channels_are_filtered_and_tested :
    (let u : Fin 2 := 0
     let i : Fin 16 := 0
     let v : Bool := true
     let t : Nat := 20000000000
     let s : State := run0
     s.unitOn (unitOf u) = true ∧ (s.pairCfg (i.val / 2)).mode ≠ 0 ∧ (s.elapse t).blanked (unitOf u) i.val = false ∧ (s.chan (unitOf u)
       i.val).raw ≠ v) ∧
    (let u : Fin 2 := 0
     let i : Fin 16 := 15
     let v : Bool := true
     let t : Nat := 20000000000
     let s : State := run0
     (s.unitOn (unitOf u) = false ∨ (s.pairCfg (i.val / 2)).mode = 0 ∨ (s.elapse t).blanked (unitOf u) i.val = true ∨ (s.chan (unitOf u)
       i.val).raw = v)) ∧
    (let u : Fin 2 := 0
     let i : Fin 16 := 0
     let t : Nat := 20000000000
     let s : State := run0
     s.unitOn (unitOf u) = true ∧ (s.pairCfg (i.val / 2)).mode ≠ 0 ∧ (s.elapse t).blanked (unitOf u) i.val = false ∧ (s.chan (unitOf u)
       i.val).since + (s.pairCfg (i.val / 2)).filtNs ≤ (s.elapse t).time.ns) ∧
    (let u : Fin 2 := 0
     let i : Fin 16 := 15
     let t : Nat := 20000000000
     let s : State := run0
     (s.unitOn (unitOf u) = false ∨ (s.pairCfg (i.val / 2)).mode = 0 ∨ (s.elapse t).time.ns < (s.chan (unitOf u) i.val).since + (s.pairCfg
       (i.val / 2)).filtNs)) ∧
    (let u : Fin 2 := 1
     let i : Fin 16 := 3
     let t : Nat := 20000000000
     let s : State := run0
     let s : State := s.modPair (unitOf u) (i.val / 2) fun x => { x with fault := (0) }
     let s : State := s.modChan true 3 fun x => { x with series := some 19999500000 }
     let a : Nat := ((s.chan (unitOf u) i.val).series).getD default
     s.unitOn (unitOf u) = true ∧ (s.pairCfg (i.val / 2)).mode ≠ 0 ∧ (s.chan (unitOf u) i.val).series = some a ∧ a + 5 * (s.pairCfg (i.val /
       2)).filtNs ≤ (s.elapse t).time.ns ∧ (s.pairOf (unitOf u) (i.val / 2)).fault = 0) ∧
    (let u : Fin 2 := 0
     let i : Fin 16 := 0
     let s : State := run0
     (s.unitOn (unitOf u) = false ∨ (s.chan (unitOf u) i.val).series = none)) ∧
    (let u : Fin 2 := 1
     let p : Fin 8 := 1
     let t : Nat := 20000000000
     let s : State := run0
     let s : State := s.modPair (unitOf u) p.val fun x => { x with fault := (0) }
     let s : State := s.modPair true 1 fun x => { x with apart := some 19998999999 }
     let a : Nat := ((s.pairOf (unitOf u) p.val).apart).getD default
     s.unitOn (unitOf u) = true ∧ (s.pairCfg p.val).mode ≠ 0 ∧ (s.pairOf (unitOf u) p.val).apart = some a ∧ a + (s.pairCfg p.val).discNs <
       (s.elapse t).time.ns ∧ (s.pairOf (unitOf u) p.val).fault = 0) ∧
    (let u : Fin 2 := 0
     let p : Fin 8 := 0
     let t : Nat := 20000000000
     let s : State := run0
     (s.unitOn (unitOf u) = false ∨ (s.pairOf (unitOf u) p.val).apart = none ∨ ∃ a, (s.pairOf (unitOf u) p.val).apart = some a ∧ (s.elapse
       t).time.ns ≤ a + (s.pairCfg p.val).discNs)) ∧
    (let k : Fin 4 := 0
     let t : Nat := 20000000000
     let s : State := run0
     let v : Nat := ((s.elapse t).tpoStart k.val).getD default
     hasBit s.cfg.safety.tpoEn k.val = true ∧ s.unitOn false = true ∧ (s.elapse t).tpoStart k.val = some v) ∧
    (let k : Fin 4 := 0
     let t : Nat := 20000000000
     let s : State := run0
     let v : Nat := ((s.elapse t).tpoStart k.val).getD default
     hasBit s.cfg.safety.tpoEn k.val = true ∧ s.unitOn false = true ∧ (s.elapse t).tpoStart k.val = some v) ∧
    (let k : Fin 4 := 0
     let t : Nat := 20000000000
     let s : State := run0
     let s : State := { s with safety := { s.safety with tpoLow := (setBit s.safety.tpoLow k.val) } }
     hasBit s.cfg.safety.tpoEn k.val = true ∧ s.unitOn false = true ∧ hasBit s.safety.tpoLow k.val = true ∧ s.safety.tpoAt +
       s.cfg.safety.tpWidthNs ≤ (s.elapse t).time.ns) ∧
    (let k : Fin 4 := 2
     let st : Bool := false
     let t : Nat := 20000000000
     let s : State := run0
     (hasBit s.cfg.safety.tpoEn k.val = false ∨ s.unitOn false = false ∨ st = true ∧ (s.elapse t).tpoStart k.val = none ∨ st = false ∧
       (hasBit s.safety.tpoLow k.val = false ∨ (s.elapse t).time.ns < s.safety.tpoAt + s.cfg.safety.tpWidthNs))) ∧
    (let k : Fin 4 := 2
     let t : Nat := 20000000000
     let i : Nat := 2
     let b : Bool := true
     let s : State := run0
     let s : State := { s with safety := { s.safety with tpoLow := (setBit s.safety.tpoLow k.val) } }
     let s : State := s.modPair b (i / 2) fun x => { x with fault := (0) }
     let s : State := { s with safety := { s.safety with tpoLow := 4, tpoAt := 19999800000, preHigh := 0x40000 } }
     hasBit s.safety.tpoLow k.val = true ∧ s.safety.tpoAt + 200000 ≤ (s.elapse t).time.ns ∧ s.unitOn b = true ∧ i < 16 ∧ (s.pairCfg (i /
       2)).mode ≠ 0 ∧ hasBit s.safety.preHigh (16 * b01 b + i) = true ∧ s.chanTpo i = k.val ∧ (s.pairOf b (i / 2)).fault = 0) ∧
    (let k : Fin 4 := 0
     let t : Nat := 20000000000
     let s : State := run0
     (hasBit s.safety.tpoLow k.val = false ∨ (s.elapse t).time.ns < s.safety.tpoAt + 200000)) ∧
    (let u : Fin 2 := 0
     let s : State := run0
     s.unitOn (unitOf u) = true) ∧
    (let u : Fin 2 := 0
     let s : State := run0
     let s : State := { s with cfg := { s.cfg with loaded := false } }
     s.unitOn (unitOf u) = false) := by
  refine ⟨?_, ?_, ?_, ?_, ?_, ?_, ?_, ?_, ?_, ?_, ?_, ?_, ?_, ?_, ?_, ?_⟩ <;> decide +kernel

/-- Obligations.StopsEndAndDiagnosticsRemoveGroups. -/
theorem test_stops_end_and_diagnostics_remove_groups :
    (let u : Fin 2 := 0
     let g : Fin 8 := 0
     let t : Nat := 20000000000
     let s : State := run0
     let s : State := s.modGrp (unitOf u) g.val fun x => { x with state := (gsStopping) }
     s.unitOn (unitOf u) = true ∧ (s.grp (unitOf u) g.val).state = gsStopping ∧ (s.grp (unitOf u) g.val).t0 + 1000000 * (s.grpCfg
       g.val).stopMaxMs ≤ (s.elapse t).time.ns) ∧
    (let u : Fin 2 := 0
     let g : Fin 8 := 0
     let t : Nat := 20000000000
     let s : State := run0
     (s.unitOn (unitOf u) = false ∨ (s.grp (unitOf u) g.val).state ≠ gsStopping ∨ (s.elapse t).time.ns < (s.grp (unitOf u) g.val).t0 +
       1000000 * (s.grpCfg g.val).stopMaxMs)) ∧
    (let s : State := run0
     s.unitOn false = true) ∧
    (let s : State := run0
     let s : State := { s with cfg := { s.cfg with loaded := false } }
     s.unitOn false = false) ∧
    (let s : State := run0
     s.unitOn false = true) ∧
    (let u : Fin 2 := 0
     let t : Nat := 20000000000
     let s : State := run0
     let s : State := s.modUnit (unitOf u) fun x => { x with diag := (0) }
     (s.elapse t).judgesLink (unitOf u) = true ∧ (s.safeUnit (unitOf u)).diag = 0 ∧ (if unitOf u then s.safety.lastAB else s.safety.lastBA)
       + 3000000 ≤ (s.elapse t).time.ns) ∧
    (let u : Fin 2 := 0
     let t : Nat := 20000000000
     let s : State := run0
     let s : State := { s with cfg := { s.cfg with loaded := false } }
     ((s.elapse t).judgesLink (unitOf u) = false ∨ (s.safeUnit (unitOf u)).diag ≠ 0 ∨ (s.elapse t).time.ns < (if unitOf u then
       s.safety.lastAB else s.safety.lastBA) + 3000000)) ∧
    (let u : Fin 2 := 0
     let s : State := run0
     let s : State := s.modUnit (unitOf u) fun x => { x with diag := (0) }
     s.unitOn (unitOf u) = true ∧ (s.safeUnit (unitOf u)).diag = 0) ∧
    (let u : Fin 2 := 0
     let s : State := run0
     let s : State := { s with cfg := { s.cfg with loaded := false } }
     (s.unitOn (unitOf u) = false ∨ (s.safeUnit (unitOf u)).diag ≠ 0)) := by
  refine ⟨?_, ?_, ?_, ?_, ?_, ?_, ?_, ?_, ?_⟩ <;> decide +kernel

/-- Obligations.ResetEdgesReleaseArmedGroups. -/
theorem test_reset_edges_release_armed_groups :
    (let t : Nat := 20000000000
     let s : State := run0
     let s : State := { s with safety := { s.safety with pinLow := some 19950000000 } }
     let s : State := s.modUnit false fun u => { u with armed := 1, armUntil := 21000000000 }
     let a : Nat := (s.safety.pinLow).getD default
     s.safety.pinLow = some a ∧ 50000000 ≤ (s.elapse t).time.ns - a ∧ (s.elapse t).time.ns - a ≤ 3000000000 ∧ (s.safety.a.armed ≠ 0 ∨
       s.safety.b.armed ≠ 0)) ∧
    (let t : Nat := 20000000000
     let s : State := run0
     let s : State := { s with safety := { s.safety with pinLow := some 19950000001 } }
     let a : Nat := (s.safety.pinLow).getD default
     s.safety.pinLow = some a ∧ ((s.elapse t).time.ns - a < 50000000 ∨ 3000000000 < (s.elapse t).time.ns - a ∨ (s.safety.a.armed = 0 ∧
       s.safety.b.armed = 0))) ∧
    (let s : State := run0
     let s : State := { s with safety := { s.safety with pinLow := (none) } }
     s.safety.pinLow = none) ∧
    (let s : State := run0
     let s : State := { s with safety := { s.safety with pinLow := some 17000000000 } }
     let a : Nat := (s.safety.pinLow).getD default
     s.safety.pinLow = some a) ∧
    (let v : Nat := 0x9E370003
     let s : State := run0
     bitsOf v 16 16 = 0x9E37 ∧ s.unitOn false = true) ∧
    (let v : Nat := 0
     let s : State := run0
     (bitsOf v 16 16 ≠ 0x9E37 ∨ s.unitOn false = false)) := by
  refine ⟨?_, ?_, ?_, ?_, ?_, ?_⟩ <;> decide +kernel

/-- Obligations.HostSteersThePtpTime. -/
theorem test_host_steers_the_ptp_time :
    (let t : Nat := 20000000000
     let s : State := run0
     let s : State := s.wr Reg.TIME_CTRL.SERVO 0
     (s.elapse t).on Reg.TIME_CTRL.SERVO = false ∧ (s.elapse t).rd Reg.TIME_SET_NS.VALUE % 2 ^ 30 < 1000000000) ∧
    (let t : Nat := 20000000000
     let s : State := run0
     let s : State := s.wr Reg.TIME_CTRL.SERVO 0
     (s.elapse t).on Reg.TIME_CTRL.SERVO = false) ∧
    (let t : Nat := 20000000000
     let s : State := run0
     let s : State := s.wr Reg.TIME_CTRL.SERVO 0
     (s.elapse t).on Reg.TIME_CTRL.SERVO = false) ∧
    (let t : Nat := 20000000000
     let c : Instr := .timeStep 20000000000
     let s : State := run0
     let s : State := s.wr Reg.TIME_CTRL.SERVO 1
     c ∈ [Instr.timeSet t, Instr.timeStep t, Instr.timeSlewGo t] ∧ s.on Reg.TIME_CTRL.SERVO = true) ∧
    (let s : State := run0
     let s : State := s.wr Reg.TIME_CTRL.SERVO 0
     s.on Reg.TIME_CTRL.SERVO = false) ∧
    (let s : State := run0
     let s : State := s.wr Reg.TIME_CTRL.SERVO 1
     s.on Reg.TIME_CTRL.SERVO = true) := by
  refine ⟨?_, ?_, ?_, ?_, ?_, ?_⟩ <;> decide +kernel

/-- Obligations.PpsEdgesAndTheTimeBase. -/
theorem test_pps_edges_and_the_time_base :
    (let r : Bool := true
     let t : Nat := 20000000000
     let s : State := run0
     let s : State := s.wr Reg.TIME_PPS_CFG.EDGE 0
     let s : State := { s with time := { s.time with ppsAt := some 19999000000 } }
     let a : Nat := ((s.elapse t).time.ppsAt).getD default
     r ≠ s.on Reg.TIME_PPS_CFG.EDGE ∧ (s.elapse t).time.ppsAt = some a ∧ (s.elapse t).time.ns < a + 500000000) ∧
    (let r : Bool := true
     let t : Nat := 20000000000
     let s : State := run0
     let s : State := s.wr Reg.TIME_STATUS.SERVO_LOCK 1
     let s : State := s.wr Reg.TIME_PPS_CFG.EDGE 0
     let s : State := s.wr Reg.TIME_STATUS.SERVO_LOCK 1
     let s : State := { s with time := { s.time with sec := 5, sub := 100000000 * 536870912000000 } }
     r ≠ s.on Reg.TIME_PPS_CFG.EDGE ∧ s.on Reg.TIME_STATUS.SERVO_LOCK = true ∧ 100000 < (s.elapse t).ppsError.natAbs) ∧
    (let r : Bool := true
     let t : Nat := 20000000000
     let s : State := run0
     r ≠ s.on Reg.TIME_PPS_CFG.EDGE ∧ (∀ a, (s.elapse t).time.ppsAt = some a → a + 500000000 ≤ (s.elapse t).time.ns) ∧ (s.on
       Reg.TIME_STATUS.SERVO_LOCK = false ∨ (s.elapse t).ppsError.natAbs ≤ 100000)) ∧
    (let t : Nat := 20000000000
     let s : State := run0
     let s : State := s.wr Reg.TIME_CTRL.SERVO 1
     s.on Reg.TIME_CTRL.SERVO = true ∧ (s.elapse t).time.ppsAt.getD (s.elapse t).time.startedAt + 1500000000 ≤ (s.elapse t).time.ns) ∧
    (let t : Nat := 20000000000
     let s : State := run0
     (s.on Reg.TIME_CTRL.SERVO = false ∨ (s.elapse t).time.ns < (s.elapse t).time.ppsAt.getD (s.elapse t).time.startedAt + 1500000000)) ∧
    (let s : State := run0
     let s : State := { s with time := { s.time with slew := (0) } }
     s.sdRuns = true ∧ s.time.slew = 0 ∧ s.time.behind + s.time.phase % 4 ≤ s.time.ns) ∧
    (let s : State := run0
     let s : State := { s with power := { s.power with lost := 4 } }
     s.sdRuns = false) ∧
    (let s : State := run0
     let s : State := s.wr Reg.POWER_STATE.STATE ((if stOff = 0 then 1 else 0))
     let s : State := s.wr Reg.POWER_STATE.STATE ((if stKeepOnly = 0 then 1 else 0))
     let s : State := { s with power := { s.power with held := (false) } }
     let s : State := s.wr Reg.POWER_STATE.STATE stRun
     s.device ≠ stOff ∧ s.device ≠ stKeepOnly ∧ s.power.held = false) ∧
    (let t : Nat := 20000000000
     let s : State := run0
     let s : State := { s with time := { s.time with slew := (0) } }
     (s.elapse t).time.slew = 0) ∧
    (let t : Nat := 20000000000
     let s : State := run0
     (s.elapse t).time.sub < secUnit ∧ (s.elapse t).time.sec < 2 ^ 48) := by
  refine ⟨?_, ?_, ?_, ?_, ?_, ?_, ?_, ?_, ?_, ?_⟩ <;> decide +kernel

/-- Obligations.EthernetFramesAreFilteredAndDelivered. -/
theorem test_ethernet_frames_are_filtered_and_delivered :
    (let p : Fin 2 := 0
     let b : List Byte := []
     let fcs : Bool := true
     let s : State := run0
     let s : State := s.wr Reg.ETH_CTRL.MODE 1 p.val
     let s : State := s.wr Reg.ETH_STATUS.LINK 1 p.val
     s.rd Reg.ETH_CTRL.MODE p.val ≠ 0 ∧ s.on Reg.ETH_STATUS.LINK p.val = true ∧ (fcs = false ∨ b.length < 60 ∨ 1518 < b.length ∨ s.ethTakes
       p.val b = false ∨ (5 ≤ s.rd Reg.POWER_SHED.STEP ∧ isPtp b = false))) ∧
    (let p : Fin 2 := 0
     let b : List Byte := List.replicate 60 0xFF
     let s : State := run0
     let s : State := s.wr Reg.ETH_CTRL.MODE 1 p.val
     let s : State := s.wr Reg.ETH_STATUS.LINK 1 p.val
     let s : State := s.wr Reg.ETH_CTRL.RX_EN 1 p.val
     let s : State := { s with eths := Tbl.put default s.eths (p.val) { s.eth (p.val) with rxStopped := false } }
     s.rd Reg.ETH_CTRL.MODE p.val ≠ 0 ∧ s.on Reg.ETH_STATUS.LINK p.val = true ∧ 60 ≤ b.length ∧ b.length ≤ 1518 ∧ (ethVlan b = true → be16At
       b 16 ≠ 0x8100) ∧ s.ethTakes p.val b = true ∧ (5 ≤ s.rd Reg.POWER_SHED.STEP → isPtp b = true) ∧ s.on Reg.ETH_CTRL.RX_EN p.val = true ∧
       (s.eth p.val).rxStopped = false) := by
  refine ⟨?_, ?_⟩ <;> decide +kernel

/-- Obligations.EthernetTransmitsAndQueuesStamps. -/
theorem test_ethernet_transmits_and_queues_stamps :
    (let p : Fin 2 := 0
     let s : State := run0
     let s : State := s.wr Reg.ETH_CTRL.MODE 1 p.val
     let s : State := s.wr Reg.ETH_CTRL.TX_EN 1 p.val
     let s : State := { s with eths := Tbl.put default s.eths (p.val) { s.eth (p.val) with txStopped := false } }
     let s : State := s.wr Reg.ETH_TXR_HEAD.INDEX 0 p.val
     let s : State := s.wr Reg.ETH_TXR_HEAD.INDEX 3 0
     let s : State := s.wr Reg.ETH_CTRL.TX_EN 1 0
     s.rd Reg.ETH_CTRL.MODE p.val ≠ 0 ∧ s.on Reg.ETH_CTRL.TX_EN p.val = true ∧ (s.eth p.val).txStopped = false ∧ s.rd Reg.ETH_TXR_HEAD.INDEX
       p.val ≠ s.rd Reg.ETH_TXR_TAIL.INDEX p.val) ∧
    (let p : Fin 2 := 0
     let s : State := run0
     let s : State := { s with eths := Tbl.put default s.eths 0 { s.eth 0 with stamps := [⟨5, 3, 7, 9⟩, ⟨6, 3, 7, 9⟩] } }
     let e : TxStamp := ((s.eth p.val).stamps).headD default
     let r : List TxStamp := ((s.eth p.val).stamps).tail
     (s.eth p.val).stamps = e :: r ∧ e.seqId < 65536 ∧ e.msgType < 16 ∧ e.ns < 2 ^ 32 ∧ e.sec < 2 ^ 48 ∧ r.length < 32) ∧
    (let p : Fin 2 := 0
     let s : State := run0
     let s : State := { s with eths := Tbl.put default s.eths (p.val) { s.eth (p.val) with stamps := [] } }
     (s.eth p.val).stamps = []) := by
  refine ⟨?_, ?_, ?_⟩ <;> decide +kernel

/-- Obligations.EthernetRingsAndLinksChange. -/
theorem test_ethernet_rings_and_links_change :
    (let p : Fin 2 := 1
     let v : Nat := 5
     let w : Nat := 0x1000
     let s : State := run0
     let s : State := { s with wrHold := Tbl.put 0 s.wrHold (Reg.ETH_RXR_BASE_LO.ADDR.at 1 0) 0x1001 }
     Tbl.look 0 s.wrHold (Reg.ETH_RXR_BASE_LO.ADDR.at p.val 0) = w + 1 ∧ v < 2 ^ 32 ∧ w < 2 ^ 32) ∧
    (let p : Fin 2 := 1
     let v : Nat := 5
     let w : Nat := 0x1000
     let s : State := run0
     let s : State := { s with wrHold := Tbl.put 0 s.wrHold (Reg.ETH_TXR_BASE_LO.ADDR.at 1 0) 0x1001 }
     Tbl.look 0 s.wrHold (Reg.ETH_TXR_BASE_LO.ADDR.at p.val 0) = w + 1 ∧ v < 2 ^ 32 ∧ w < 2 ^ 32) ∧
    (let s : State := run0
     let s : State := { s with power := { s.power with bridge := (true) } }
     s.power.bridge = true ∧ s.mayRaise = true) ∧
    (let p : Fin 2 := 0
     let up : Bool := false
     let s : State := run0
     let s : State := s.wr Reg.ETH_CTRL.MODE 1 p.val
     s.rd Reg.ETH_CTRL.MODE p.val ≠ 0 ∧ s.on Reg.ETH_STATUS.LINK p.val ≠ up) := by
  refine ⟨?_, ?_, ?_, ?_⟩ <;> decide +kernel

/-- Obligations.CanQueueAppendsAndFlushRemoves. -/
theorem test_can_queue_appends_and_flush_removes :
    (let a : List Byte := []
     let s : State := run0
     let c : CanCfg := (s.canCfg (u8At a 0)).getD default
     s.canCfg (u8At a 0) = some c ∧ u8At a 0 < 4 ∧ u8At a 1 ≤ 31 ∧ u32At a 4 < (if hasBit (u8At a 2) 0 then 2 ^ 29 else 2 ^ 11) ∧ u8At a 3 ≤
       15 ∧ (8 < u8At a 3 → hasBit (u8At a 2) 1 = true) ∧ (hasBit (u8At a 2) 2 = true → hasBit (u8At a 2) 1 = true) ∧ (hasBit (u8At a 2) 1 =
       true → c.fdEn = true) ∧ (s.canMsgs (u8At a 0)).length < 256 ∧ c.mode ≠ 0 ∧ c.mode ≠ 4 ∧ (u8At a 1 < 31 → c.names (u8At a 1) = true)) ∧
    (let a : List Byte := [0, 32, 0, 0, 1, 0, 0, 0]
     let s : State := run0
     let c : CanCfg := (s.canCfg (u8At a 0)).getD default
     s.canCfg (u8At a 0) = some c ∧ (31 < u8At a 1 ∨ 15 < u8At a 3 ∨ (8 < u8At a 3 ∧ hasBit (u8At a 2) 1 = false) ∨ (hasBit (u8At a 2) 1 =
       true ∧ c.fdEn = false) ∨ 256 ≤ (s.canMsgs (u8At a 0)).length ∨ c.mode = 0 ∨ c.mode = 4 ∨ (u8At a 1 < 31 ∧ c.names (u8At a 1) =
       false))) ∧
    (let k : Nat := 0
     let b : Nat := 0
     let s : State := run0
     let c : CanCfg := (s.canCfg k).getD default
     s.canCfg k = some c ∧ (b ≤ 31 ∨ b = 255)) := by
  refine ⟨?_, ?_, ?_⟩ <;> decide +kernel

/-- Obligations.CanSlotsOfferAndEnd. -/
theorem test_can_slots_offer_and_end :
    (let k : Fin 4 := 0
     let col : Fin 64 := 0
     let x : Nat := 1000
     let s : State := run0
     let s : State := s.wr Reg.CAN_CTRL.MODE 1 k.val
     let s : State := s.wr Reg.FRAME_STATUS.RUNNING 1
     let c : CanCfg := (s.canCfg k.val).getD default
     let f : Nat := ((c.cols[col.val]?).getD default).1
     s.canCfg k.val = some c ∧ c.cols[col.val]? = some (f, x) ∧ s.rd Reg.CAN_CTRL.MODE k.val ≠ 0 ∧ s.frameNo % 2 ^ c.a = f ∧ s.ticking =
       true) ∧
    (let k : Fin 4 := 0
     let s : State := run0
     let s : State := s.wr Reg.CAN_CTRL.MODE 0 0
     s.rd Reg.CAN_CTRL.MODE k.val = 0) ∧
    (let k : Nat := 0
     let col : Nat := 0
     let c : CanCfg := { (cfg0.cans.headD default) with elems := [67] }
     let s : State := run0
     let s : State := { s with canQueues := Tbl.put default s.canQueues 0 ⟨[⟨31, false, false, false, 2, 5, [1, 2], 0, 9, false⟩, ⟨31,
       false, false, false, 2, 4, [1, 2], 0, 9, false⟩, ⟨3, false, false, false, 2, 1, [1, 2], 0, 9, false⟩]⟩ }
     c.elems.getD (64 * (s.can k).row + col) 0 / 64 = 1) ∧
    (let k : Nat := 0
     let col : Nat := 0
     let c : CanCfg := { (cfg0.cans.headD default) with elems := [0] }
     let s : State := run0
     let s : State := { s with canQueues := Tbl.put default s.canQueues 0 ⟨[⟨31, false, false, false, 2, 5, [1, 2], 0, 9, false⟩, ⟨31,
       false, false, false, 2, 4, [1, 2], 0, 9, false⟩, ⟨3, false, false, false, 2, 1, [1, 2], 0, 9, false⟩]⟩ }
     let s : State := s.wr Reg.POWER_SHED.STEP 5
     c.elems.getD (64 * (s.can k).row + col) 0 / 64 = 0 ∧ 5 ≤ s.rd Reg.POWER_SHED.STEP) ∧
    (let k : Nat := 0
     let col : Nat := 0
     let c : CanCfg := { (cfg0.cans.headD default) with elems := [0] }
     let m : CanMsg := ⟨31, false, false, false, 2, 4, [1, 2], 0, 9, false⟩
     let s : State := run0
     let s : State := { s with canQueues := Tbl.put default s.canQueues 0 ⟨[⟨31, false, false, false, 2, 5, [1, 2], 0, 9, false⟩, ⟨31,
       false, false, false, 2, 4, [1, 2], 0, 9, false⟩, ⟨3, false, false, false, 2, 1, [1, 2], 0, 9, false⟩]⟩ }
     c.elems.getD (64 * (s.can k).row + col) 0 / 64 = 0 ∧ s.canOffer k c col = some m) ∧
    (let k : Fin 4 := 0
     let col : Fin 64 := 0
     let s : State := run0
     let s : State := { s with cans := Tbl.put default s.cans (k.val) { s.can (k.val) with openSlot := some col.val } }
     let s : State := { s with cans := Tbl.put default s.cans 0 { s.can 0 with openSlot := some 0, offer := some ⟨30, false, false, false, 2, 5, [1, 2], 0, 9, false⟩ } }
     let m : CanMsg := ((s.can k.val).offer).getD default
     (s.can k.val).openSlot = some col.val ∧ (s.can k.val).offer = some m ∧ m.buffer < 31 ∧ m.late = false) ∧
    (let k : Fin 4 := 0
     let col : Fin 64 := 0
     let s : State := run0
     let s : State := { s with cans := Tbl.put default s.cans (k.val) { s.can (k.val) with openSlot := some col.val } }
     let s : State := { s with cans := Tbl.put default s.cans (k.val) { s.can (k.val) with offer := none } }
     (s.can k.val).openSlot = some col.val ∧ (s.can k.val).offer = none) ∧
    (let k : Fin 4 := 0
     let col : Fin 64 := 0
     let s : State := run0
     let s : State := { s with cans := Tbl.put default s.cans (k.val) { s.can (k.val) with openSlot := some col.val } }
     let s : State := { s with cans := Tbl.put default s.cans 0 { s.can 0 with openSlot := some 0, offer := some ⟨31, false, false, false, 2, 5, [1, 2], 0, 9, false⟩ } }
     let m : CanMsg := ((s.can k.val).offer).getD default
     (s.can k.val).openSlot = some col.val ∧ (s.can k.val).offer = some m ∧ (31 ≤ m.buffer ∨ m.late = true)) ∧
    (let k : Fin 4 := 0
     let col : Fin 64 := 0
     let s : State := run0
     (s.can k.val).openSlot ≠ some col.val) := by
  refine ⟨?_, ?_, ?_, ?_, ?_, ?_, ?_, ?_, ?_⟩ <;> decide +kernel

/-- Obligations.CanAttemptsEndAndBusOffRecovers. -/
theorem test_can_attempts_end_and_bus_off_recovers :
    (let k : Fin 4 := 0
     let s : State := run0
     let s : State := s.wr Reg.CAN_CTRL.MODE 1 k.val
     let s : State := { s with cans := Tbl.put default s.cans 0 { s.can 0 with attempt := some ⟨31, false, false, false, 2, 5, [1, 2], 0, 9, false⟩ }, canQueues := Tbl.put default s.canQueues 0 ⟨[⟨31, false, false, false, 2, 5, [1, 2], 0, 9, false⟩]⟩ }
     let m : CanMsg := ((s.can k.val).attempt).getD default
     (s.can k.val).attempt = some m ∧ s.rd Reg.CAN_CTRL.MODE k.val = 1) ∧
    (let k : Fin 4 := 0
     let s : State := run0
     let s : State := s.wr Reg.CAN_CTRL.MODE 2 k.val
     let s : State := { s with cans := Tbl.put default s.cans 0 { s.can 0 with attempt := some ⟨31, false, false, false, 2, 5, [1, 2], 0, 9, false⟩ }, canQueues := Tbl.put default s.canQueues 0 ⟨[⟨31, false, false, false, 2, 5, [1, 2], 0, 9, false⟩]⟩ }
     let m : CanMsg := ((s.can k.val).attempt).getD default
     (s.can k.val).attempt = some m ∧ s.rd Reg.CAN_CTRL.MODE k.val = 2) ∧
    (let k : Fin 4 := 0
     let s : State := run0
     let s : State := { s with cans := Tbl.put default s.cans (k.val) { s.can (k.val) with attempt := none } }
     (s.can k.val).attempt = none) ∧
    (let k : Fin 4 := 0
     let s : State := run0
     let s : State := { s with cans := Tbl.put default s.cans (k.val) { s.can (k.val) with flushed := false } }
     let s : State := { s with cans := Tbl.put default s.cans 0 { s.can 0 with attempt := some ⟨31, false, false, false, 2, 5, [1, 2], 0, 9, false⟩ }, canQueues := Tbl.put default s.canQueues 0 ⟨[⟨31, false, false, false, 2, 5, [1, 2], 0, 9, false⟩]⟩ }
     let m : CanMsg := ((s.can k.val).attempt).getD default
     (s.can k.val).attempt = some m ∧ (s.can k.val).flushed = false) ∧
    (let k : Fin 4 := 0
     let pen : Nat := 8
     let s : State := run0
     let s : State := { s with cans := Tbl.put default s.cans (k.val) { s.can (k.val) with flushed := false } }
     let s : State := { s with cans := Tbl.put default s.cans 0 { s.can 0 with attempt := some ⟨31, false, false, false, 2, 5, [1, 2], 0, 9, false⟩ }, canQueues := Tbl.put default s.canQueues 0 ⟨[⟨31, false, false, false, 2, 5, [1, 2], 0, 9, false⟩]⟩ }
     let s : State := s.wr Reg.CAN_ERRCNT.TEC 247 0
     let m : CanMsg := ((s.can k.val).attempt).getD default
     (s.can k.val).attempt = some m ∧ (s.can k.val).flushed = false ∧ s.rd Reg.CAN_ERRCNT.TEC k.val + pen ≤ 255) ∧
    (let k : Fin 4 := 0
     let pen : Nat := 8
     let s : State := run0
     let s : State := { s with cans := Tbl.put default s.cans (k.val) { s.can (k.val) with flushed := false } }
     let s : State := { s with cans := Tbl.put default s.cans 0 { s.can 0 with attempt := some ⟨31, false, false, false, 2, 5, [1, 2], 0, 9, false⟩ }, canQueues := Tbl.put default s.canQueues 0 ⟨[⟨31, false, false, false, 2, 5, [1, 2], 0, 9, false⟩]⟩ }
     let s : State := s.wr Reg.CAN_ERRCNT.TEC 248 0
     let m : CanMsg := ((s.can k.val).attempt).getD default
     (s.can k.val).attempt = some m ∧ (s.can k.val).flushed = false ∧ 255 < s.rd Reg.CAN_ERRCNT.TEC k.val + pen ∧ s.mayRaise = true) ∧
    (let k : Fin 4 := 0
     let s : State := run0
     let s : State := s.wr Reg.CAN_STATUS.STATE 3 k.val
     let s : State := s.wr Reg.CAN_STATUS.RECOVERING 1 k.val
     s.rd Reg.CAN_STATUS.STATE k.val = 3 ∧ s.on Reg.CAN_STATUS.RECOVERING k.val = true) ∧
    (let k : Fin 4 := 0
     let s : State := run0
     (s.rd Reg.CAN_CTRL.MODE k.val = 1 ∨ s.rd Reg.CAN_CTRL.MODE k.val = 3) ∧ (s.rd Reg.CAN_STATUS.STATE k.val = 1 ∨ s.rd
       Reg.CAN_STATUS.STATE k.val = 2)) ∧
    (let k : Fin 4 := 0
     let s : State := run0
     let s : State := s.wr Reg.CAN_STATUS.STATE 3 0
     (s.rd Reg.CAN_CTRL.MODE k.val = 0 ∨ s.rd Reg.CAN_CTRL.MODE k.val = 2 ∨ s.rd Reg.CAN_CTRL.MODE k.val = 4 ∨ s.rd Reg.CAN_STATUS.STATE
       k.val = 0 ∨ s.rd Reg.CAN_STATUS.STATE k.val = 3)) := by
  refine ⟨?_, ?_, ?_, ?_, ?_, ?_, ?_, ?_, ?_⟩ <;> decide +kernel

/-- Obligations.CanReceivesAndSoftwareReleases. -/
theorem test_can_receives_and_software_releases :
    (let k : Fin 4 := 0
     let id : Nat := 0
     let s : State := run0
     let c : CanCfg := (s.canCfg k.val).getD default
     (s.rd Reg.CAN_CTRL.MODE k.val = 1 ∨ s.rd Reg.CAN_CTRL.MODE k.val = 3 ∨ s.rd Reg.CAN_CTRL.MODE k.val = 4) ∧ (s.rd Reg.CAN_STATUS.STATE
       k.val = 1 ∨ s.rd Reg.CAN_STATUS.STATE k.val = 2) ∧ s.canCfg k.val = some c ∧ (∀ f ∈ c.filters, hasBit f.1 30 = false) ∧ s.rd
       Reg.CAN_RX_STATUS.OWNED k.val < 64 ∧ (s.can k.val).rxTail < 64 ∧ id < 2 ^ 29) ∧
    (let k : Fin 4 := 0
     let s : State := run0
     let s : State := s.wr Reg.CAN_RX_STATUS.OWNED 64 0
     let c : CanCfg := (s.canCfg k.val).getD default
     (s.rd Reg.CAN_CTRL.MODE k.val = 1 ∨ s.rd Reg.CAN_CTRL.MODE k.val = 3 ∨ s.rd Reg.CAN_CTRL.MODE k.val = 4) ∧ (s.rd Reg.CAN_STATUS.STATE
       k.val = 1 ∨ s.rd Reg.CAN_STATUS.STATE k.val = 2) ∧ s.canCfg k.val = some c ∧ (∀ f ∈ c.filters, hasBit f.1 30 = false) ∧ 64 ≤ s.rd
       Reg.CAN_RX_STATUS.OWNED k.val) ∧
    (let k : Fin 4 := 0
     let id : Nat := 5
     let fl : Nat := 0
     let s : State := run0
     let s : State := { s with cfg := { s.cfg with cans := s.cfg.cans.map fun c => { c with filters := [(0x40000007, 0x7FF)] } } }
     let c : CanCfg := (s.canCfg k.val).getD default
     s.canCfg k.val = some c ∧ (∃ f ∈ c.filters, hasBit f.1 30 = true) ∧ (∀ f ∈ c.filters, hasBit f.1 30 = true → (hasBit f.1 31 = hasBit fl
       1) → ((id ^^^ f.1) &&& f.2) % 2 ^ 29 ≠ 0)) ∧
    (let k : Fin 4 := 0
     let i : Nat := 0
     let s : State := run0
     let s : State := s.wr Reg.CAN_RX_STATUS.OWNED 1 k.val
     let s : State := s.wr Reg.CAN_RX_STATUS.HEAD i k.val
     s.rd Reg.CAN_RX_STATUS.OWNED k.val ≠ 0 ∧ s.rd Reg.CAN_RX_STATUS.OWNED k.val ≤ 64 ∧ s.rd Reg.CAN_RX_STATUS.HEAD k.val = i ∧ i < 64) ∧
    (let k : Fin 4 := 0
     let i : Nat := 0
     let s : State := run0
     (s.rd Reg.CAN_RX_STATUS.OWNED k.val = 0 ∨ i % 64 ≠ s.rd Reg.CAN_RX_STATUS.HEAD k.val)) ∧
    (let k : Fin 4 := 0
     let s : State := run0
     let s : State := { s with cans := Tbl.put default s.cans 0 { s.can 0 with records := [⟨3, false, 31, 7, 9⟩] } }
     let r : CanRecord := ((s.can k.val).records).headD default
     let l : List CanRecord := ((s.can k.val).records).tail
     (s.can k.val).records = r :: l ∧ r.source < 16 ∧ r.buffer < 32 ∧ r.seq < 2 ^ 32 ∧ r.frame < 2 ^ 32 ∧ l.length < 32) := by
  refine ⟨?_, ?_, ?_, ?_, ?_, ?_⟩ <;> decide +kernel

/-- Obligations.CollectorActsByTheClassOfAnEvent. -/
theorem test_collector_acts_by_the_class_of_an_event :
    (let s : State := run0
     let s : State := { s with faults := { s.faults with waiting := [⟨7, 3, 7, true, 19000000000, false⟩] } }
     let e : FaultEvt := (s.faults.waiting).headD default
     let r : List FaultEvt := (s.faults.waiting).tail
     s.faults.waiting = e :: r ∧ e.pos < 8) ∧
    (let s : State := run0
     let s : State := { s with faults := { s.faults with waiting := [⟨55, 3, 7, true, 19000000000, false⟩] } }
     let e : FaultEvt := (s.faults.waiting).headD default
     let r : List FaultEvt := (s.faults.waiting).tail
     s.faults.waiting = e :: r ∧ 8 ≤ e.pos ∧ e.pos < 56) ∧
    (let s : State := run0
     let s : State := { s with faults := { s.faults with waiting := [⟨63, 3, 7, true, 19000000000, false⟩] } }
     let e : FaultEvt := (s.faults.waiting).headD default
     let r : List FaultEvt := (s.faults.waiting).tail
     s.faults.waiting = e :: r ∧ 56 ≤ e.pos ∧ e.pos < 64) ∧
    (let s : State := run0
     let s : State := { s with faults := { s.faults with waiting := ([]) } }
     s.faults.waiting = []) := by
  refine ⟨?_, ?_, ?_, ?_⟩ <;> decide +kernel

/-- Obligations.HistoryMergesSameBitAndFrame. -/
theorem test_history_merges_same_bit_and_frame :
    (let k : Fin 16 := 0
     let s : State := run0
     let s : State := { s with faults := { s.faults with waiting := [⟨20, 3, 7, true, 19000000000, false⟩] } }
     let s : State := s.wr Reg.FAULT_HIST_STATUS.FILLED 1
     let s : State := s.wr Reg.FAULT_HIST_FRAME.VALUE 7 0
     let s : State := s.wr Reg.FAULT_HIST_INFO.VALUE (sourceByte 20 + 256) 0
     let e : FaultEvt := (s.faults.waiting).headD default
     let r : List FaultEvt := (s.faults.waiting).tail
     s.faults.waiting = e :: r ∧ 8 ≤ e.pos ∧ e.pos < 56 ∧ e.frameValid = true ∧ s.histMatch e = some k.val) ∧
    (let s : State := run0
     let s : State := { s with faults := { s.faults with waiting := [⟨20, 3, 7, true, 19000000000, false⟩] } }
     let s : State := s.wr Reg.FAULT_HIST_STATUS.FILLED 16
     let s : State := s.wr Reg.FAULT_HIST_STATUS.NEWEST 15
     let e : FaultEvt := (s.faults.waiting).headD default
     let r : List FaultEvt := (s.faults.waiting).tail
     s.faults.waiting = e :: r ∧ 8 ≤ e.pos ∧ e.pos < 56 ∧ s.histMatch e = none) := by
  refine ⟨?_, ?_⟩ <;> decide +kernel

/-- Obligations.QuietTimeEndsContainmentAndAliveToggles. -/
theorem test_quiet_time_ends_containment_and_alive_toggles :
    (let t : Nat := 20000000000
     let s : State := run0
     let s : State := s.wr Reg.FAULT_STATE.CONTAINED 1
     let s : State := s.wr Reg.FAULT_STATE.FATAL 0
     s.rd Reg.FAULT_STATE.CONTAINED ≠ 0 ∧ s.rd Reg.FAULT_STATE.FATAL = 0 ∧ s.faults.quietEnd ≤ (s.elapse t).time.ns) ∧
    (let t : Nat := 20000000000
     let s : State := run0
     (s.rd Reg.FAULT_STATE.CONTAINED = 0 ∨ s.rd Reg.FAULT_STATE.FATAL ≠ 0 ∨ (s.elapse t).time.ns < s.faults.quietEnd)) ∧
    (let s : State := run0
     let s : State := s.wr Reg.FAULT_STATE.ALIVE_RUN 1
     let s : State := { s with referee := { s.referee with broken := (false) } }
     s.rd Reg.FAULT_STATE.ALIVE_RUN ≠ 0 ∧ s.referee.broken = false) ∧
    (let s : State := run0
     (s.rd Reg.FAULT_STATE.ALIVE_RUN = 0 ∨ s.referee.broken = true)) := by
  refine ⟨?_, ?_, ?_, ?_⟩ <;> decide +kernel

/-- Obligations.MemoryErrorsRaiseAndClearsLeaveZeros. -/
theorem test_memory_errors_raise_and_clears_leave_zeros :
    (let s : State := run0
     let s : State := { s with power := { s.power with supplied := (true) } }
     let s : State := { s with power := { s.power with held := (false) } }
     s.power.supplied = true ∧ s.power.held = false ∧ s.mayRaise = true) ∧
    (let s : State := run0
     let s : State := { s with power := { s.power with supplied := (false) } }
     s.power.supplied = false) ∧
    (let s : State := run0
     let s : State := { s with power := { s.power with held := (false) } }
     let s : State := { s with load := { s.load with dram := (true) } }
     s.power.held = false ∧ s.load.dram = true ∧ s.loadRuns = false ∧ s.mayRaise = true) ∧
    (let u : Fin 4 := 0
     let s : State := run0
     s.hasUnit u.val = true) := by
  refine ⟨?_, ?_, ?_, ?_⟩ <;> decide +kernel

/-- Obligations.ResetsRestoreWhatTheyName. -/
theorem test_resets_restore_what_they_name :
    (let t : Nat := 20000000000
     let e : Fin 16 := 3
     let c : Instr := .softReset 0x5D0F0001 20000000000 3
     let s : State := run0
     ((c = .resetNAssert t e ∧ s.power.supplied = true) ∨ (c = .softReset 0x5D0F0001 t e ∧ s.power.held = false))) ∧
    (let t : Nat := 20000000000
     let e : Fin 16 := 3
     let c : Instr := .resetNAssert 20000000000 3
     let s : State := run0
     let s : State := { s with power := { s.power with held := (false) } }
     let s : State := { s with faults := { s.faults with waiting := ([]) } }
     let s : State := s.wr Reg.POWER_STATE.STATE ((if stKeepOnly = 0 then 1 else 0))
     s.power.held = false ∧ s.faults.waiting = [] ∧ s.device ≠ stKeepOnly ∧ (s.elapse t).tickInCycle = false ∧ ((c = .resetNAssert t e ∧
       s.power.supplied = true) ∨ c = .softReset 0x5D0F0001 t e)) ∧
    (let t : Nat := 20000000000
     let s : State := run0
     let s : State := { s with power := { s.power with supplied := (true) } }
     let s : State := { s with power := { s.power with held := (false) } }
     let s : State := s.wr Reg.POWER_STATE.STATE ((if stKeepOnly = 0 then 1 else 0))
     s.power.supplied = true ∧ s.power.held = false ∧ s.device ≠ stKeepOnly ∧ (s.elapse t).tickInCycle = false) ∧
    (let t : Nat := 20000000000
     let s : State := run0
     let s : State := { s with power := { s.power with held := (false) } }
     s.power.held = false ∧ (s.elapse t).tickInCycle = false) ∧
    (let v : Nat := 0
     (hasBit v 0 = false ∨ bitsOf v 16 16 ≠ 0x5D0F)) := by
  refine ⟨?_, ?_, ?_, ?_, ?_⟩ <;> decide +kernel

/-- Obligations.ResetsEndAndKickOffBegins. -/
theorem test_resets_end_and_kick_off_begins :
    (let s : State := run0
     let s : State := { s with power := { s.power with supplied := (false) } }
     s.power.supplied = false) ∧
    (let s : State := run0
     let s : State := { s with power := { s.power with supplied := (true) } }
     s.power.supplied = true) ∧
    (let s : State := run0
     let s : State := { s with power := { s.power with supplied := (true) } }
     let s : State := { s with power := { s.power with fresh := (false) } }
     let s : State := { s with power := { s.power with resetLowSince := some 19000000000 } }
     let a : Nat := (s.power.resetLowSince).getD default
     s.power.supplied = true ∧ s.power.resetLowSince = some a ∧ s.power.fresh = false) ∧
    (let s : State := run0
     let s : State := { s with power := { s.power with resetLowSince := (none) } }
     s.power.resetLowSince = none) ∧
    (let t : Nat := 20000000000
     let s : State := run0
     let s : State := s.wr Reg.POWER_STATE.STATE stKeepOnly
     let s : State := { s with power := { s.power with step := (0) } }
     let s : State := { s with power := { s.power with wakeFailed := (false) } }
     let s : State := s.wr Reg.THERMAL_STATUS.SHUT_LATCH 0
     let s : State := { s with power := { s.power with dormantExit := (false) } }
     let s : State := { s with power := { s.power with goodSince := some 19900000000 } }
     let a : Nat := (s.power.goodSince).getD default
     s.device = stKeepOnly ∧ s.power.step = 0 ∧ s.power.wakeFailed = false ∧ s.power.goodSince = some a ∧ a + 100000000 ≤ (s.elapse
       t).time.ns ∧ s.rd Reg.THERMAL_STATUS.SHUT_LATCH = 0 ∧ (s.power.thermalEntry = true → s.power.keepOnlyAt + clampN 10 3600 (s.rd
       Reg.THERMAL_REWAKE.SECONDS) * 1000000000 ≤ (s.elapse t).time.ns) ∧ s.power.dormantExit = false) ∧
    (let s : State := run0
     (s.device ≠ stKeepOnly ∨ s.power.step ≠ 0 ∨ s.power.goodSince = none ∨ s.rd Reg.THERMAL_STATUS.SHUT_LATCH ≠ 0)) ∧
    (let s : State := run0
     let s : State := { s with power := { s.power with held := (true) } }
     let s : State := { s with power := { s.power with step := (4) } }
     let s : State := { s with power := { s.power with resetLowSince := (none) } }
     s.power.held = true ∧ s.power.step = 4 ∧ s.power.resetLowSince = none) ∧
    (let s : State := run0
     (s.power.held = false ∨ s.power.step ≠ 4 ∨ s.power.resetLowSince.isSome = true)) := by
  refine ⟨?_, ?_, ?_, ?_, ?_, ?_, ?_, ?_⟩ <;> decide +kernel

/-- Obligations.KickOffClocksAndFailedWakes. -/
theorem test_kick_off_clocks_and_failed_wakes :
    (let m : Fin 24 := 16
     let s : State := run0
     let s : State := { s with power := { s.power with supplied := (true) } }
     let s : State := { s with power := { s.power with held := (true) } }
     let s : State := { s with power := { s.power with step := (2) } }
     let s : State := { s with power := { s.power with analogOff := (false) } }
     let s : State := { s with power := { s.power with bbOff := (false) } }
     let s : State := { s with power := { s.power with dormantExit := (false) } }
     let s : State := { s with power := { s.power with resetLowSince := (none) } }
     let s : State := s.wr Reg.POWER_STATE.STATE stKickOff
     let s : State := { s with power := { s.power with step := 2, held := true, pgood := 0x0FFFF } }
     s.power.supplied = true ∧ s.power.held = true ∧ s.power.step = 2 ∧ vinRails.contains m.val = true ∧ m.val ≠ 2 ∧ m.val ≠ 3 ∧
       s.power.analogOff = false ∧ s.power.bbOff = false ∧ s.power.dormantExit = false ∧ s.power.resetLowSince = none) ∧
    (let m : Fin 24 := 0
     let s : State := run0
     s.railWanted m.val = false) ∧
    (let s : State := run0
     let s : State := { s with power := { s.power with held := (true) } }
     let s : State := { s with power := { s.power with step := (3) } }
     s.power.held = true ∧ s.power.step = 3) ∧
    (let k : Fin 4 := 0
     let s : State := run0
     let s : State := { s with power := { s.power with held := (false) } }
     let s : State := { s with power := { s.power with relocking := (clrBit s.power.relocking k.val) } }
     let s : State := { s with power := { s.power with lost := (setBit s.power.lost k.val) } }
     s.power.held = false ∧ hasBit s.power.relocking k.val = false ∧ hasBit s.power.lost k.val = true) ∧
    (let k : Fin 4 := 0
     let s : State := run0
     let s : State := { s with power := { s.power with held := (false) } }
     let s : State := { s with power := { s.power with relocking := (setBit s.power.relocking k.val) } }
     s.power.held = false ∧ hasBit s.power.relocking k.val = true) ∧
    (let k : Fin 4 := 0
     let s : State := run0
     let s : State := { s with power := { s.power with held := (false) } }
     let s : State := s.wr Reg.CLOCK_PLL_STATUS.LOCK 1 k.val
     s.power.held = false ∧ s.rd Reg.CLOCK_PLL_STATUS.LOCK k.val ≠ 0 ∧ s.mayRaise = true) ∧
    (let m : Fin 24 := 19
     let s : State := run0
     let s : State := { s with power := { s.power with step := (2) } }
     let s : State := { s with power := { s.power with dormantExit := (false) } }
     let s : State := { s with power := { s.power with pgood := (clrBit s.power.pgood m.val) } }
     let s : State := { s with power := { s.power with step := 2, held := true, pgood := 0x07FFFF } }
     let s : State := s.wr Reg.POWER_STATE.STATE stKickOff
     s.power.step = 2 ∧ s.power.dormantExit = false ∧ hasBit s.power.pgood m.val = false ∧ s.railWanted m.val = true ∧ s.rd
       Reg.POWER_STATE.WAKE_TRIES < 3) ∧
    (let m : Fin 24 := 19
     let t : Nat := 20000000000
     let s : State := run0
     let s : State := { s with power := { s.power with step := (2) } }
     let s : State := { s with power := { s.power with dormantExit := (false) } }
     let s : State := { s with power := { s.power with pgood := (clrBit s.power.pgood m.val) } }
     let s : State := s.wr Reg.POWER_STATE.WAKE_TRIES 3
     let s : State := { s with faults := { s.faults with waiting := ([]) } }
     let s : State := { s with power := { s.power with step := 2, held := true, pgood := 0x07FFFF } }
     let s : State := s.wr Reg.POWER_STATE.STATE stKickOff
     let s : State := s.wr Reg.POWER_STATE.WAKE_TRIES 3
     s.power.step = 2 ∧ s.power.dormantExit = false ∧ hasBit s.power.pgood m.val = false ∧ s.railWanted m.val = true ∧ s.rd
       Reg.POWER_STATE.WAKE_TRIES = 3 ∧ s.faults.waiting = [] ∧ (s.elapse t).tickInCycle = false) ∧
    (let k : Fin 4 := 0
     let s : State := run0
     let s : State := { s with power := { s.power with held := (false) } }
     let s : State := s.wr Reg.CLOCK_PLL_STATUS.LOCK 0 k.val
     let s : State := { s with power := { s.power with lost := (setBit s.power.lost k.val) } }
     s.power.held = false ∧ s.rd Reg.CLOCK_PLL_STATUS.LOCK k.val = 0 ∧ s.referee.wake ≠ .clock ∧ hasBit s.power.lost k.val = true) ∧
    (let m : Nat := 0
     let s : State := run0
     let s : State := { s with power := { s.power with pgood := (setBit s.power.pgood m) } }
     hasBit s.power.pgood m = true) ∧
    (let s : State := run0
     let s : State := s.wr Reg.REF_STATUS.STATE rsWake
     let s : State := { s with referee := { s.referee with wake := (.memory) } }
     let s : State := { s with referee := { s.referee with broken := (false) } }
     s.refState = rsWake ∧ s.referee.wake = .memory ∧ s.referee.broken = false) := by
  refine ⟨?_, ?_, ?_, ?_, ?_, ?_, ?_, ?_, ?_, ?_, ?_⟩ <;> decide +kernel

/-- Obligations.SheddingStepsFollowVinAndHeat. -/
theorem test_shedding_steps_follow_vin_and_heat :
    (let mv : Nat := 0
     let s : State := run0
     let s : State := { s with power := { s.power with supplied := (true) } }
     let s : State := { s with power := { s.power with held := (false) } }
     s.power.supplied = true ∧ s.power.held = false ∧ mv < 65536 ∧ (shedReached mv ≤ s.rd Reg.POWER_SHED.VIN_STEP ∨ s.power.fallRun < 2) ∧
       (s.rd Reg.POWER_SHED.VIN_STEP = 0 ∨ mv ≤ shedMv (s.rd Reg.POWER_SHED.VIN_STEP) + 200)) ∧
    (let mv : Nat := 10500
     let d : Nat := 2
     let s : State := run0
     let s : State := { s with power := { s.power with supplied := (true) } }
     let s : State := { s with power := { s.power with held := (false) } }
     let s : State := { s with power := { s.power with fallRun := (2) } }
     let s : State := { s with power := { s.power with fallRun := 2, fallDeep := 2 } }
     s.power.supplied = true ∧ s.power.held = false ∧ s.power.fallRun = 2 ∧ d = min s.power.fallDeep (shedReached mv) ∧ s.rd
       Reg.POWER_SHED.VIN_STEP < d ∧ d < 6 ∧ (s.rd Reg.POWER_SHED.VIN_STEP ≤ 6 ∧ s.rd Reg.POWER_SHED.THERMAL_STEP ≤ 6 ∧ s.rd
       Reg.PLAN_THERMAL.SHED_STEP = s.rd Reg.POWER_SHED.THERMAL_STEP ∧ s.rd Reg.POWER_SHED.STEP = max (s.rd Reg.POWER_SHED.VIN_STEP) (s.rd
       Reg.POWER_SHED.THERMAL_STEP)) ∧ s.rd Reg.POWER_SHED.THERMAL_STEP ≤ s.rd Reg.POWER_SHED.VIN_STEP) ∧
    (let mv : Nat := 8999
     let s : State := run0
     let s : State := { s with power := { s.power with supplied := (true) } }
     let s : State := { s with power := { s.power with held := (false) } }
     let s : State := { s with power := { s.power with fallRun := (2) } }
     let s : State := { s with power := { s.power with fallDeep := (6) } }
     let s : State := s.wr Reg.POWER_SHED.VIN_STEP 5
     let s : State := s.wr Reg.POWER_STATE.STATE stRun
     let s : State := s.wr Reg.FRAME_STATUS.RUNNING 1
     let s : State := s.wr Reg.POWER_SHED.VIN_STEP 5
     let s : State := s.wr Reg.POWER_SHED.STEP 5
     s.power.supplied = true ∧ s.power.held = false ∧ s.power.fallRun = 2 ∧ s.power.fallDeep = 6 ∧ mv < 9000 ∧ (s.rd Reg.POWER_SHED.VIN_STEP
       ≤ 6 ∧ s.rd Reg.POWER_SHED.THERMAL_STEP ≤ 6 ∧ s.rd Reg.PLAN_THERMAL.SHED_STEP = s.rd Reg.POWER_SHED.THERMAL_STEP ∧ s.rd
       Reg.POWER_SHED.STEP = max (s.rd Reg.POWER_SHED.VIN_STEP) (s.rd Reg.POWER_SHED.THERMAL_STEP)) ∧ s.rd Reg.POWER_SHED.VIN_STEP = 5 ∧
       s.rd Reg.POWER_SHED.THERMAL_STEP < 6 ∧ s.device = stRun ∧ s.ticking = true) ∧
    (let mv : Nat := 11201
     let t : Nat := 20000000000
     let s : State := run0
     let s : State := { s with power := { s.power with supplied := (true) } }
     let s : State := { s with power := { s.power with held := (false) } }
     let s : State := s.wr Reg.POWER_SHED.VIN_STEP 1
     let s : State := s.wr Reg.POWER_SHED.STEP 1
     let s : State := { s with power := { s.power with riseSince := some 19990000000 } }
     let a : Nat := (s.power.riseSince).getD default
     s.power.supplied = true ∧ s.power.held = false ∧ 0 < s.rd Reg.POWER_SHED.VIN_STEP ∧ s.rd Reg.POWER_SHED.VIN_STEP < 6 ∧ shedMv (s.rd
       Reg.POWER_SHED.VIN_STEP) + 200 < mv ∧ s.power.riseSince = some a ∧ a + 10000000 ≤ (s.elapse t).time.ns ∧ (s.rd
       Reg.POWER_SHED.VIN_STEP ≤ 6 ∧ s.rd Reg.POWER_SHED.THERMAL_STEP ≤ 6 ∧ s.rd Reg.PLAN_THERMAL.SHED_STEP = s.rd
       Reg.POWER_SHED.THERMAL_STEP ∧ s.rd Reg.POWER_SHED.STEP = max (s.rd Reg.POWER_SHED.VIN_STEP) (s.rd Reg.POWER_SHED.THERMAL_STEP))) ∧
    (let t : Nat := 20000000000
     let s : State := run0
     let s : State := { s with power := { s.power with hotSince := some 19000000000 } }
     let a : Nat := (s.power.hotSince).getD default
     s.power.hotSince = some a ∧ a + 1000000000 ≤ (s.elapse t).time.ns ∧ s.rd Reg.PLAN_THERMAL.SHED_STEP < 5 ∧ s.rd Reg.POWER_SHED.VIN_STEP
       < 6 ∧ (s.rd Reg.POWER_SHED.VIN_STEP ≤ 6 ∧ s.rd Reg.POWER_SHED.THERMAL_STEP ≤ 6 ∧ s.rd Reg.PLAN_THERMAL.SHED_STEP = s.rd
       Reg.POWER_SHED.THERMAL_STEP ∧ s.rd Reg.POWER_SHED.STEP = max (s.rd Reg.POWER_SHED.VIN_STEP) (s.rd Reg.POWER_SHED.THERMAL_STEP))) ∧
    (let s : State := run0
     let s : State := { s with power := { s.power with hotSince := (none) } }
     let s : State := { s with power := { s.power with coolSince := (none) } }
     s.power.hotSince = none ∧ s.power.coolSince = none) := by
  refine ⟨?_, ?_, ?_, ?_, ?_, ?_⟩ <;> decide +kernel

/-- Obligations.VinLossEndsInKeepOnlyAndLatchCools. -/
theorem test_vin_loss_ends_in_keep_only_and_latch_cools :
    (let s : State := run0
     let s : State := { s with power := { s.power with supplied := (true) } }
     s.power.supplied = true ∧ (s.device ≠ stKeepOnly ∨ s.power.step ≠ 0)) ∧
    (let s : State := run0
     let s : State := { s with power := { s.power with supplied := (false) } }
     s.power.supplied = false) ∧
    (let t : Nat := 20000000000
     let s : State := run0
     let s : State := { s with power := { s.power with lowSince := some 19900000000 } }
     let a : Nat := (s.power.lowSince).getD default
     s.power.lowSince = some a ∧ a + 100000000 ≤ (s.elapse t).time.ns) ∧
    (let t : Nat := 20000000000
     let s : State := run0
     (s.power.lowSince = none ∨ ∃ a, s.power.lowSince = some a ∧ (s.elapse t).time.ns < a + 100000000)) := by
  refine ⟨?_, ?_, ?_, ?_⟩ <;> decide +kernel

/-- Obligations.DomainsGoOffAndWakeSourcesReturnThem. -/
theorem test_domains_go_off_and_wake_sources_return_them :
    (let v : Nat := 0x3B9A0001
     let s : State := run0
     let s : State := s.wr Reg.POWER_STATE.STATE stRun
     let s : State := { s with power := { s.power with entry := (none) } }
     hasBit v 0 = true ∧ bitsOf v 16 16 = 0x3B9A ∧ s.device = stRun ∧ s.power.entry = none) ∧
    (let v : Nat := 0
     let s : State := run0
     (hasBit v 0 = false ∨ bitsOf v 16 16 ≠ 0x3B9A ∨ s.device ≠ stRun ∨ s.power.entry.isSome = true)) ∧
    (let s : State := run0
     let s : State := s.wr Reg.POWER_STATE.STATE stRun
     let s : State := { s with power := { s.power with entry := (none) } }
     let s : State := { s with power := { s.power with analogOff := (false) } }
     s.device = stRun ∧ s.power.entry = none ∧ s.power.analogOff = false) ∧
    (let s : State := run0
     let s : State := s.wr Reg.POWER_STATE.STATE stRun
     let s : State := { s with power := { s.power with entry := (none) } }
     let s : State := { s with power := { s.power with bbOff := (false) } }
     s.device = stRun ∧ s.power.entry = none ∧ s.power.bbOff = false) ∧
    (let b : Nat := 0xFF
     let s : State := run0
     let s : State := { s with power := { s.power with entry := some ⟨.dormant, 19000000000, none⟩ } }
     let e : Entry := (s.power.entry).getD default
     let k : Nat := (e.domain.refuser b).getD default
     s.power.entry = some e ∧ e.domain.refuser b = some k) ∧
    (let b : Nat := 0
     let a : Nat := 0
     let w : Option Nat := default
     let s : State := run0
     let s : State := { s with power := { s.power with entry := (some ⟨.analog, a, w⟩) } }
     s.power.entry = some ⟨.analog, a, w⟩ ∧ hasBit b 6 = false) ∧
    (let b : Nat := 0
     let a : Nat := 0
     let w : Option Nat := default
     let s : State := run0
     let s : State := { s with power := { s.power with entry := (some ⟨.bbPhy, a, w⟩) } }
     s.power.entry = some ⟨.bbPhy, a, w⟩ ∧ hasBit b 2 = false ∧ hasBit b 4 = false) ∧
    (let a : Nat := 0
     let s : State := run0
     let s : State := { s with power := { s.power with entry := (some ⟨.dormant, a, none⟩) } }
     s.power.entry = some ⟨.dormant, a, none⟩ ∧ s.levelWake = false) ∧
    (let t : Nat := 20000000000
     let b : Nat := 0xFF
     let s : State := run0
     let s : State := { s with power := { s.power with entry := some ⟨.dormant, 1000000000, none⟩ } }
     let e : Entry := (s.power.entry).getD default
     let k : Nat := (e.domain.refuser b).getD default
     s.power.entry = some e ∧ e.domain.refuser b = some k ∧ e.start + clampN 1 1000 (s.rd Reg.POWER_ENTRY_CFG.TIMEOUT_MS) * 1000000 ≤
       (s.elapse t).time.ns) ∧
    (let s : State := run0
     let s : State := { s with power := { s.power with entry := (none) } }
     s.power.entry = none) ∧
    (let s : State := run0
     let s : State := { s with power := { s.power with entry := (none) } }
     let s : State := s.wr Reg.POWER_STATE.STATE stDormant
     let s : State := { s with power := { s.power with dormantExit := (false) } }
     let s : State := { s with power := { s.power with wakeFailed := (false) } }
     s.power.entry = none ∧ s.device = stDormant ∧ s.power.dormantExit = false ∧ s.power.wakeFailed = false) ∧
    (let a : Nat := 0
     let s : State := run0
     let s : State := { s with power := { s.power with entry := (some ⟨.dormant, a, none⟩) } }
     s.power.entry = some ⟨.dormant, a, none⟩) ∧
    (let s : State := run0
     let s : State := { s with power := { s.power with entry := (none) } }
     let s : State := s.wr Reg.POWER_STATE.STATE ((if stDormant = 0 then 1 else 0))
     s.power.entry = none ∧ s.device ≠ stDormant) ∧
    (let low : Bool := true
     let s : State := run0
     let s : State := s.wr Reg.POWER_WAKE_CFG.EN 1
     let s : State := s.wr Reg.POWER_WAKE_CFG.LEVEL 0
     let s : State := { s with power := { s.power with supplied := (true) } }
     let s : State := { s with power := { s.power with entry := (none) } }
     let s : State := s.wr Reg.POWER_STATE.STATE stDormant
     let s : State := { s with power := { s.power with dormantExit := (false) } }
     let s : State := { s with power := { s.power with wakeFailed := (false) } }
     s.rd Reg.POWER_WAKE_CFG.EN ≠ 0 ∧ s.rd Reg.POWER_WAKE_CFG.LEVEL = 0 ∧ s.power.supplied = true ∧ s.power.wakeNLow ≠ low ∧ low ≠ s.on
       Reg.POWER_WAKE_CFG.POL ∧ s.power.entry = none ∧ s.device = stDormant ∧ s.power.dormantExit = false ∧ s.power.wakeFailed = false) ∧
    (let a : Nat := 0
     let w : Option Nat := default
     let s : State := run0
     let s : State := { s with power := { s.power with entry := (some ⟨.dormant, a, w⟩) } }
     let s : State := s.wr Reg.POWER_WAKE_CFG.LEVEL 0
     s.power.entry = some ⟨.dormant, a, w⟩ ∧ s.rd Reg.POWER_WAKE_CFG.LEVEL = 0) ∧
    (let s : State := run0
     let s : State := s.wr Reg.POWER_WAKE_CFG.EN 0
     s.rd Reg.POWER_WAKE_CFG.EN = 0) := by
  refine ⟨?_, ?_, ?_, ?_, ?_, ?_, ?_, ?_, ?_, ?_, ?_, ?_, ?_, ?_, ?_, ?_⟩ <;> decide +kernel

/-- Obligations.ClockGoAppliesWhatIsStaged. -/
theorem test_clock_go_applies_what_is_staged :
    (let s : State := run0
     let s : State := { s with power := { s.power with held := (false) } }
     s.power.held = false ∧ (s.device ≠ stKickOff ∨ (s.rd Reg.IMAGE_STATUS.STATE ≠ 0 ∧ s.rd Reg.IMAGE_STATUS.STATE ≠ 6))) ∧
    (let s : State := run0
     let s : State := { s with power := { s.power with held := (false) } }
     let s : State := s.wr Reg.POWER_STATE.STATE stKickOff
     let s : State := { s with power := { s.power with relocking := (0) } }
     s.power.held = false ∧ s.device = stKickOff ∧ (s.rd Reg.IMAGE_STATUS.STATE = 0 ∨ s.rd Reg.IMAGE_STATUS.STATE = 6) ∧ s.power.relocking =
       0) ∧
    (let v : Nat := 0
     v < 2048) := by
  refine ⟨?_, ?_, ?_⟩ <;> decide +kernel

/-- A half with its commit field written is valid, whatever stands in it. -/
theorem test_committed_half_is_valid (c : Ckpt) : c.committed.valid = true := by
  have hb : c.committed.bytes = c.bytes := rfl
  unfold Ckpt.valid
  rw [hb]
  simp [Ckpt.committed]

/-- A state with half 0 of the store committed, whatever stands in it, and half 1 empty. -/
def withCkpt (s : State) (c : Ckpt) : State :=
  { s with referee := { s.referee with wake := .memory, half0 := c.committed, half1 := default } }

/-- The checkpoint that a takeover loads: half 0, readable. -/
theorem test_takeovers_load_a_checkpoint (c : Ckpt) (he : c.ecc = false) :
    (withCkpt (run0.wr Reg.REF_STATUS.STATE rsWake) c).referee.wake = .memory ∧
    (withCkpt (run0.wr Reg.REF_STATUS.STATE rsWake) c).refState = rsWake ∧
    (withCkpt (run0.wr Reg.REF_STATUS.STATE rsWake) c).loadChoice false = some (0, false) := by
  have hs : ∀ x : State, (withCkpt x c).refState = x.refState := fun _ => rfl
  have hl : ∀ x : State, (withCkpt x c).loadChoice false = some (0, false) := by
    intro x
    have h0 := test_committed_half_is_valid c
    have h1 : (default : Ckpt).valid = false := by decide +kernel
    have h2 : c.committed.ecc = false := he
    simp [withCkpt, State.loadChoice, State.newest, State.half, h0, h1, h2]
  exact ⟨rfl, (hs _).trans (by decide +kernel), hl _⟩

end Sys2Proof.Tests
end

section
namespace Sys2Proof.Machine

set_option Elab.async false

/-- The nanosecond count that a time base shows (R306). -/
def TimeSt.count (x : TimeSt) : Nat :=
  let c := x.ns - x.behind
  c - (c + 4 - x.phase % 4) % 4

theorem State.count_eq (s : State) : s.count = s.time.count := rfl

/-- What the nanosecond count of a time base depends on, and whether the keep domain lives. -/
def TimeSt.clock (x : TimeSt) : Nat × Nat × Nat × Bool := (x.ns, x.behind, x.phase, x.restarted)

/-- A later time base: no instant goes back, and one that was started is not stopped and counts on. -/
structure TimeSt.Later (x y : TimeSt) : Prop where
  ns : x.ns ≤ y.ns
  started : x.restarted = true → y.restarted = true
  count : x.restarted = true → x.count ≤ y.count

theorem TimeSt.Later.refl (x : TimeSt) : x.Later x := ⟨le_refl _, id, fun _ => le_refl _⟩

theorem TimeSt.Later.trans {x y z : TimeSt} (h : x.Later y) (k : y.Later z) : x.Later z :=
  ⟨h.ns.trans k.ns, fun r => k.started (h.started r), fun r => (h.count r).trans (k.count (h.started r))⟩

/-- A time base on the same clock is a later one. -/
theorem TimeSt.Later.of_clock {x y : TimeSt} (h : y.clock = x.clock) : x.Later y := by
  simp only [TimeSt.clock, Prod.mk.injEq] at h
  obtain ⟨hns, hbehind, hphase, hstarted⟩ := h
  exact ⟨hns.ge, fun r => hstarted.trans r, fun _ => by simp [TimeSt.count, hns, hbehind, hphase]⟩

/-- The count does not fall while the instants since the restart grow. -/
theorem TimeSt.count_mono {x y : TimeSt} (h : x.ns - x.behind ≤ y.ns - y.behind) (p : y.phase = x.phase) : x.count ≤ y.count := by
  simp only [TimeSt.count, p]
  omega

/-! ### The clock through effects -/

/-- What the nanosecond count depends on, as the state holds it. -/
def State.clock (s : State) : Nat × Nat × Nat × Bool := s.time.clock

theorem Effect.clock {A : List Part} {R : Option (List Field)} {s t : State} (k : Effect A R s t) (b : Part.time ∉ A := by decide) :
    t.clock = s.clock := congrArg TimeSt.clock (k.same .time b)

/-- What every step of a loop keeps, the loop keeps. -/
theorem State.each_keeps {α β : Type} (p : State → β) {l : List α} {f : State → α → State} (h : ∀ u a, p (f u a) = p u) (s : State) :
    p (s.each l f) = p s := by
  unfold State.each
  induction l generalizing s with
  | nil => rfl
  | cons a l ih => exact (ih _).trans (h s a)

theorem State.when_clock {s : State} {c : Bool} {f : State → State} (h : ∀ u, (f u).clock = u.clock) : (s.when c f).clock = s.clock := by
  unfold State.when
  split
  · exact h s
  · rfl

/-! ### What endures -/

/-- No part that a command may never move is one of `A`. -/
def keepsQueue (A : List Part) : Bool := !A.contains .pending && !A.contains .silicon

/-- A state that a command may lead to, but for a POR, which stops the time base: the queue and the silicon stay, no fuse falls, what was
sent stays sent, and the time base is a later one. -/
structure Onward (s n : State) : Prop where
  pending : n.pending = s.pending
  silicon : n.silicon = s.silicon
  fuses : s.fuses.below n.fuses = true
  out : s.out <+: n.out
  time : s.time.Later n.time

theorem Onward.refl (s : State) : Onward s s := ⟨rfl, rfl, Fuses.below_refl _, List.prefix_refl _, .refl _⟩

theorem Onward.trans {s t u : State} (h : Onward s t) (k : Onward t u) : Onward s u :=
  ⟨k.pending.trans h.pending, k.silicon.trans h.silicon, Fuses.below_trans h.fuses k.fuses, h.out.trans k.out, h.time.trans k.time⟩

section
variable {A : List Part} {R : Option (List Field)} {s t u : State}

/-- An effect that leaves the queue and the silicon goes on where its time base is a later one. -/
theorem Effect.onward_of_later (k : Effect A R s t) (h : s.time.Later t.time) (b : keepsQueue A = true := by decide) : Onward s t := by
  simp only [keepsQueue, Bool.and_eq_true, Bool.not_eq_true', List.contains_eq_mem, decide_eq_false_iff_not] at b
  exact ⟨k.same .pending b.1, k.same .silicon b.2, k.fuses, k.log, h⟩

theorem Effect.onward_of_clock (k : Effect A R s t) (h : t.clock = s.clock) (b : keepsQueue A = true := by decide) : Onward s t :=
  k.onward_of_later (.of_clock h) b

/-- An effect that leaves the queue, the silicon and the time base. -/
theorem Effect.onward (k : Effect A R s t) (b : keepsQueue A = true := by decide) (c : Part.time ∉ A := by decide) : Onward s t :=
  k.onward_of_clock (k.clock c) b

/-- An operation after what went on so far. -/
theorem Onward.op (h : Onward s t) (k : Effect A R t u) (b : keepsQueue A = true := by decide) (c : Part.time ∉ A := by decide) :
    Onward s u :=
  h.trans (k.onward b c)

theorem Onward.ite {c : Prop} [Decidable c] (h : Onward s t) (k : Onward s u) : Onward s (if c then t else u) := by
  split <;> assumption

theorem Onward.when {c : Bool} {f : State → State} (h : Onward s t) (k : ∀ u, Onward u (f u)) : Onward s (t.when c f) := by
  unfold State.when
  exact Onward.ite (h.trans (k t)) h

theorem Onward.each {α : Type} {l : List α} {f : State → α → State} (h : Onward s t) (k : ∀ u a, Onward u (f u a)) :
    Onward s (t.each l f) := by
  unfold State.each
  induction l generalizing t with
  | nil => exact h
  | cons a l ih => exact ih (h.trans (k t a))

end

/-! ### The operations that move the time base -/

theorem State.showSlew_clock (s : State) : s.showSlew.clock = s.clock := (State.showSlew_effect s).clock

theorem State.elapse_later (s : State) (t : Nat) : s.time.Later (s.elapse t).time := by
  unfold State.elapse
  split
  · exact .refl _
  · rename_i late
    split
    · exact ⟨by simp only; omega, id, fun _ => TimeSt.count_mono (by simp only; omega) rfl⟩
    · extract_lets cycles part tm s'
      have advanced : s.time.Later s'.time :=
        ⟨by show s.time.ns ≤ t; omega, id, fun _ => TimeSt.count_mono (by show _ ≤ t - s.time.behind; omega) rfl⟩
      split
      · exact advanced
      · exact advanced.trans (.of_clock s'.showSlew_clock)

theorem Onward.elapse (s : State) (t : Nat) : Onward s (s.elapse t) := (State.elapse_effect s t).onward_of_later (s.elapse_later t)

theorem Onward.drvElapse (s : State) (u t : Nat) : Onward s (s.drvElapse u t) := (Onward.elapse s t).op (State.drvDue_effect ..)

theorem Onward.nextCycle (s : State) : Onward s s.nextCycle := Onward.elapse s _

theorem TimeSt.advance_clock (x : TimeSt) (d : Int) : (x.advance d).clock = x.clock := rfl

theorem State.endSlew_clock (s : State) : s.endSlew.clock = s.clock := State.showSlew_clock _

/-- The time base of a state set to another of the same clock, where the slew ends. -/
theorem Onward.endSlew_of_clock (s : State) {x : TimeSt} (h : x.clock = s.clock) : Onward s { s with time := x }.endSlew :=
  ((Effect.time s x).onward_of_clock h).trans ((State.endSlew_effect _).onward_of_clock (State.endSlew_clock _))

theorem Onward.timeSet (s : State) : Onward s s.timeSet :=
  (Onward.nextCycle s).trans (.endSlew_of_clock _ (TimeSt.advance_clock _ _))

theorem Onward.timeStep (s : State) : Onward s s.timeStep :=
  (Onward.nextCycle s).trans (.endSlew_of_clock _ (TimeSt.advance_clock _ _))

theorem Onward.slewGo (s : State) : Onward s s.slewGo := (State.slewGo_effect s).onward_of_clock (State.showSlew_clock _)

theorem Onward.steered {s t : State} {f : State → State} (h : Onward s t) (k : ∀ u, Onward u (f u)) : Onward s (t.steered f) :=
  .ite (h.op (State.timeIgnored_effect t)) (h.trans (k t))

theorem Onward.addendWrite (s : State) (v : Nat) : Onward s (s.addendWrite v) :=
  .ite (State.timeIgnored_effect s).onward ((Onward.nextCycle s).op (State.wr_effect ..))

theorem State.servoTo_clock (s : State) (pps : Bool) : (s.servoTo pps).clock = s.clock := by
  unfold State.servoTo
  split <;> rfl

theorem Onward.servoTo (s : State) (pps : Bool) : Onward s (s.servoTo pps) :=
  (State.servoTo_effect s pps).onward_of_clock (s.servoTo_clock pps)

theorem State.ppsServo_clock (s : State) (e : Int) : (s.ppsServo e).clock = s.clock := by
  unfold State.ppsServo
  extract_lets lockNs far sum a near moved good counted
  have hmoved : moved.clock = s.clock := by
    unfold moved
    split
    · exact (State.evBit_effect ..).clock
    · exact (State.wr_effect ..).clock
  have hcounted : counted.clock = s.clock := hmoved
  split
  · exact ((State.setSync_effect ..).clock.trans (State.wr_effect ..).clock).trans hcounted
  · split
    · exact ((State.setSync_effect ..).clock.trans (State.wr_effect ..).clock).trans hcounted
    · exact hcounted

theorem State.ppsEdge_clock (s : State) (rising : Bool) : (s.ppsEdge rising).clock = s.clock := by
  unfold State.ppsEdge
  extract_lets e shown stamped
  have hshown : shown.clock = s.clock :=
    (State.wr_effect ..).clock.trans <| (State.wrS_effect ..).clock.trans (State.bump_effect ..).clock
  split
  · rfl
  · split
    · exact (State.bump_effect ..).clock
    · split
      · exact (State.ppsServo_clock ..).trans hshown
      · exact hshown

theorem Onward.ppsEdge (s : State) (rising : Bool) : Onward s (s.ppsEdge rising) :=
  (State.ppsEdge_effect s rising).onward_of_clock (s.ppsEdge_clock rising)

theorem Onward.keepCopy (s : State) : Onward s s.keepCopy := (State.keepCopy_effect s).onward_of_clock rfl

theorem Onward.timeCtrlWrite (s : State) (v : Nat) : Onward s (s.timeCtrlWrite v) := by
  unfold State.timeCtrlWrite
  refine Onward.trans ?_ (Onward.servoTo _ _)
  refine .when (.when (.when (.when (.when (.refl s) ?_) ?_) ?_) ?_) ?_
  · exact fun u => .steered (.refl u) .timeSet
  · exact fun u => .steered (.refl u) .timeStep
  · exact fun u => .steered (.refl u) .slewGo
  · exact fun u => (State.hostSync_effect u true).onward
  · exact fun u => (State.hostSync_effect u false).onward

/-- The restart takes up the count where the keep counter, or the count itself, has it (R308). -/
theorem State.timeRestart_later (s : State) : s.time.Later s.timeRestart.time := by
  unfold State.timeRestart
  extract_lets fresh kept count ns k moved restarted
  have hns : restarted.time.ns = max s.time.ns count := rfl
  have hbehind : restarted.time.behind = ns - count := rfl
  have hphase : restarted.time.phase = count % 4 := rfl
  have shown : s.time.Later restarted.time := by
    refine ⟨by omega, fun _ => rfl, fun alive => ?_⟩
    have hcount : s.time.ns - s.time.behind ≤ count := by simp [count, fresh, alive]
    simp only [TimeSt.count, hns, hbehind, hphase, ns]
    omega
  exact shown.trans (.of_clock ((State.wr_effect ..).clock.trans (State.wr_effect ..).clock))

theorem Onward.timeRestart (s : State) : Onward s s.timeRestart := (State.timeRestart_effect s).onward_of_later s.timeRestart_later

theorem Onward.devResetRelease (s : State) (boot : Nat) : Onward s (s.devResetRelease boot) := by
  unfold State.devResetRelease
  refine .ite (.refl s) (.each ?_ fun u a => .when (.refl u) fun v => (State.showVdrv_effect v a).onward)
  refine .op (.op (.op ?_ (State.modLoad_effect ..)) (State.showPgood_effect ..)) (State.showSafe_effect ..)
  refine .op (.op (.op ?_ (State.wr_effect ..)) (State.wr_effect ..)) (State.wr_effect ..)
  refine .op (.op (.op ?_ (State.wr_effect ..)) (State.wr_effect ..)) (State.wr_effect ..)
  refine .op (.op ?_ (State.wr_effect ..)) (State.wr_effect ..)
  exact (Onward.timeRestart s).op (State.modPower_effect ..)

end Sys2Proof.Machine
end

section
namespace Sys2Proof.Machine

set_option Elab.async false

/-! ### The operations built on them -/

theorem State.discipline_clock (s : State) : s.discipline.clock = s.clock := by
  unfold State.discipline
  extract_lets e sync slew adj good run next tm fr aligned measured now shown
  have hmeasured : measured.clock = s.clock := (State.wrS_effect aligned ..).clock
  exact (State.wr_effect ..).clock.trans <| (State.when_clock fun u => (State.evBit_effect u ..).clock).trans hmeasured

theorem Onward.tickOthers (s : State) : Onward s s.tickOthers := by
  unfold State.tickOthers
  refine .each ?_ fun u n => (State.canTick_effect u n).onward
  refine .trans (.op (.op (.refl s) (State.adcTick_effect ..)) (State.syncTick_effect ..)) ?_
  exact (State.discipline_effect _).onward_of_clock (State.discipline_clock _)

theorem Onward.frameTick (s : State) (headerBad : List Nat) (mramOk : Bool) : Onward s (s.frameTick headerBad mramOk) := by
  unfold State.frameTick
  refine .ite (.refl s) ?_
  refine .op (.op (.op ?_ (State.wr_effect ..)) (State.modFr_effect ..)) (State.modPower_effect ..)
  refine .trans ?_ (.tickOthers _)
  refine .op (.op (.op ?_ (State.tickChains_effect ..)) (State.tickTracker_effect ..)) (State.tickBuffer_effect ..)
  refine .op (.op (.op (.op ?_ (State.halftimeTick_effect ..)) (State.substStart_effect ..)) (State.armOutTick_effect ..))
    (State.mirrorTick_effect ..)
  refine .each ?_ fun u v => (State.convTickEnd_effect u _).onward
  refine .op (.each ?_ fun u v => (State.convTick_effect u v).onward) (State.journalTick_effect ..)
  refine .op (.op (.op (.op ?_ (State.laneTimeout_effect ..)) (State.kickoffGrant_effect ..)) (State.refereeTick_effect ..))
    (State.pairTick_effect ..)
  exact .each (State.tickTimer_effect s).onward fun u cc => (State.settleAllCall_effect u cc).onward

theorem Onward.commitTime (s : State) (c : TimeCfg) : Onward s (s.commitTime c) := by
  unfold State.commitTime
  refine .op (.op (.op (.op (.op ?_ (State.wr_effect ..)) (State.wrS_effect ..)) (State.wr_effect ..)) (State.wr_effect ..))
    (State.wr_effect ..)
  refine .trans (.op (.op (.each (.refl s) fun u p => ?_) (State.wr_effect ..)) (State.wr_effect ..)) (.servoTo _ _)
  refine .op (.op (.op (.op ?_ (State.wr_effect ..)) (State.wr_effect ..)) (State.wrS_effect ..)) (State.wrS_effect ..)
  exact .op (.op (.refl u) (State.wr_effect ..)) (State.wr_effect ..)

theorem Onward.commitOptional (s : State) (c : Cfg) : Onward s (s.commitOptional c) := by
  unfold State.commitOptional
  refine .op (.trans (.each (.op ?_ (State.commitDrive_effect ..)) fun u n => (State.commitCan_effect u n).onward) (.commitTime _ _))
    (State.commitBackbone_effect ..)
  split
  · exact (State.commitAdc_effect ..).onward
  · exact .refl s

theorem Onward.build (s : State) (c : Cfg) (bad : List Nat) (moves : List (SliceCfg × Nat)) (sin : Nat) :
    Onward s (s.build c bad moves sin) := by
  unfold State.build
  refine .op (.op (.op ?_ (State.commitReferee_effect ..)) (State.ckptInit_effect ..)) (State.showImage_effect ..)
  refine .trans ?_ (.commitOptional _ c)
  refine .op (.op (.op ?_ (Effect.faults _ _)) (State.commitSafety_effect ..)) (State.firstInputs_effect ..)
  refine .op (.op ?_ (State.commitPlanner_effect ..)) (State.wr_effect ..)
  refine .op (.op ?_ (State.commitConvs_effect ..)) (State.commitEngines_effect ..)
  refine .each ?_ fun u a => ?arm
  refine .op (.each ?_ fun u cc => (State.commitChain_effect u cc).onward) (State.summarise_effect ..)
  refine .op (.op (.op (.op (.op ?_ (Effect.cfg_lanes_chains_cells_arms_engs_convs ..)) (State.modFr_effect ..)) (State.writeRoles_effect ..))
    (State.wr_effect ..)) (State.wr_effect ..)
  · exact .when (.refl s) fun u => (State.startTimer_effect u _).onward
  case arm =>
    split
    · exact (State.loadArmSlice_effect ..).onward
    · exact .refl u

theorem Onward.imageCommit (s : State) (failed : List Nat) (writeOk : Bool) (sin : Nat) : Onward s (s.imageCommit failed writeOk sin) := by
  unfold State.imageCommit
  split
  · exact .refl s
  · extract_lets bad
    split
    · exact (State.commitRefused_effect ..).onward
    · refine .ite (State.commitRefused_effect ..).onward (.op (.when (.op (.build s ..) (State.modLoad_effect ..)) fun u => ?_)
        (State.modPower_effect ..))
      exact .op (State.wr_effect u ..).onward (State.wr_effect ..)

/-! ### Host writes -/

/-- A host write of a register that acts, whatever the register. -/
theorem Onward.actingWrite {s t : State} {base i v : Nat} (h : s.actingWrite base i v = some t) : Onward s t := by
  have drawn : Onward s s.draw.2 := (State.draw_effect s).onward
  unfold State.actingWrite at h
  split at h <;> cases h
  · exact .when (.refl s) fun u => (State.xbarClear_effect u).onward
  · exact .when (.refl s) fun u => (State.clockGo_effect u).onward
  · exact (State.pllCfgWrite_effect ..).onward
  · exact (State.trimWrite_effect ..).onward
  · exact (State.powerCtrlWrite_effect ..).onward
  · exact (State.analogOffWrite_effect ..).onward.op (State.bbOffWrite_effect ..)
  · exact .when (.refl s) fun u => (State.wr_effect u ..).onward
  · exact (State.faultCtrlWrite_effect ..).onward
  · exact .when (.refl s) fun u => (State.firstFatalClear_effect u).onward
  · exact drawn.op (State.softReset_effect ..)
  · exact (State.refCtrlWrite_effect ..).onward
  · exact (State.mramCfgWrite_effect ..).onward
  · exact (drawn.op (State.draw_effect _)).op (State.newEpoch_effect ..)
  · exact (State.holdLow_effect ..).onward
  · exact (State.ringRestart_effect ..).onward
  · exact (State.holdLow_effect ..).onward
  · exact (State.ringRestart_effect ..).onward
  · exact (State.cplHeadWrite_effect ..).onward
  · exact .ite (.refl s) (State.wr_effect ..).onward
  · exact (State.frameClearWrite_effect ..).onward
  · exact (State.resetArm_effect ..).onward
  · exact (State.imageCtrlWrite_effect ..).onward
  · exact (State.substRequest_effect ..).onward
  · exact (State.wr_effect ..).onward
  · exact (State.keyCmdWrite_effect ..).onward
  · exact (State.engClearWrite_effect ..).onward
  · exact (State.adcCtrlWrite_effect ..).onward
  · exact .ite (State.refEnable_effect s).onward (State.refDisable_effect s).onward
  · exact .timeCtrlWrite s _
  · exact .addendWrite s _
  · exact (State.holdLow_effect ..).onward
  · exact (State.ethRestart_effect ..).onward
  · exact (State.holdLow_effect ..).onward
  · exact (State.ethRestart_effect ..).onward
  · exact .when (.refl s) fun u => (State.canRecover_effect u _).onward
  · exact (State.canAck_effect ..).onward
  · exact (State.drvCtrlWrite_effect ..).onward
  · exact .when (.refl s) fun u => (State.chopReset_effect u _).onward
  · exact (State.loadAll_effect ..).onward
  · exact (State.drvSync_effect ..).onward
  · exact (State.laneCtrlWrite_effect ..).onward
  · exact .when (.refl s) fun u => (State.laneClear_effect u _).onward
  · exact .when (.refl s) fun u => (State.armClear_effect u _).onward

theorem Onward.hostWrite (s : State) (a w : Nat) : Onward s (s.hostWrite a w) := by
  unfold State.hostWrite
  refine .ite (.refl s) ?_
  split
  · exact (State.msixWrite_effect ..).onward
  · exact .refl s
  · extract_lets v
    split
    · rename_i h; exact .actingWrite h
    · exact (State.regWrite_effect ..).onward.op (State.afterWrite_effect ..)

theorem Onward.writeWords (s : State) (a : Nat) (b : List Byte) (n : Nat) : Onward s (s.writeWords a b n) := by
  induction n generalizing s a b with
  | zero => exact .refl s
  | succ n ih => exact (Onward.hostWrite s a _).trans (ih _ _ _)

theorem Onward.bbWrite (s : State) (p src : Nat) (b : List Byte) : Onward s (s.bbWrite p src b) := by
  unfold State.bbWrite
  extract_lets n
  split
  · exact .refl s
  · exact .ite (.writeWords s ..) (State.denied_effect ..).onward

end Sys2Proof.Machine
end

section
namespace Sys2Proof.Machine

set_option Elab.async false

/-! ### The commands -/

theorem Onward.keyCmd (s : State) {unlock : Nat} {f : State → State} (k : ∀ u, Onward u (f u)) : Onward s (s.keyCmd unlock f) :=
  .ite (.refl s) (.ite (State.fuseResult_effect ..).onward (k s))

/-- What a state that a command leads to keeps of the one before it. -/
def State.Endures (s n : State) : Prop :=
  n.pending = s.pending ∧ n.silicon = s.silicon ∧ s.fuses.below n.fuses = true ∧ s.out <+: n.out ∧ s.time.ns ≤ n.time.ns ∧
    (s.time.restarted = true → n.time.restarted = true → s.count ≤ n.count)

theorem Onward.endures {s n : State} (h : Onward s n) : s.Endures n :=
  ⟨h.pending, h.silicon, h.fuses, h.out, h.time.ns, fun r _ => h.time.count r⟩

/-- A POR stops the time base: what it keeps of the count is nothing, all else endures (R372). -/
theorem State.supplyPor_endures (s : State) (porN : Bool) : s.Endures (s.supplyPor porN) :=
  ⟨rfl, rfl, Fuses.below_refl _, List.prefix_refl _, le_refl _, fun _ r => (Bool.false_ne_true r).elim⟩

theorem State.Endures.after {s t n : State} (h : t.Endures n) (k : Onward s t) : s.Endures n := by
  obtain ⟨hpending, hsilicon, hfuses, hout, hns, hcount⟩ := h
  exact ⟨hpending.trans k.pending, hsilicon.trans k.silicon, Fuses.below_trans k.fuses hfuses, k.out.trans hout, k.time.ns.trans hns,
    fun r e => (k.time.count r).trans (hcount (k.time.started r) e)⟩

theorem State.Endures.then {s t n : State} (h : s.Endures t) (k : Effect State.settle_touch State.settle_fields t n) : s.Endures n := by
  obtain ⟨hpending, hsilicon, hfuses, hout, hns, hcount⟩ := h
  have ht : n.time = t.time := k.same .time (by decide)
  refine ⟨(k.same .pending (by decide)).trans hpending, (k.same .silicon (by decide)).trans hsilicon, Fuses.below_trans hfuses k.fuses,
    hout.trans k.log, ht ▸ hns, ?_⟩
  rw [State.count_eq n, ht]
  exact hcount

/-- An outcome of the state that ends as every meaning does, in a state which keeps what is final. -/
def GoesOn (s : State) (o : Host.Outcome State Fault Refusal) : Prop := ∃ n, o = .next n ∧ s.Endures n

namespace GoesOn
variable {A : List Part} {R : Option (List Field)} {s v : State} {u t : Nat}

theorem ofEndures (h : s.Endures v) : GoesOn s (done v) := ⟨_, rfl, h.then (State.settle_effect v)⟩

/-- A command that carries no instant. -/
theorem now (h : Onward s v) : GoesOn s (done v) := .ofEndures h.endures

/-- A command at an instant. -/
theorem timed (h : Onward (s.elapse t) v) : GoesOn s (done v) := .now ((Onward.elapse s t).trans h)

/-- A command at an instant of a drive unit. -/
theorem onUnit (h : Onward (s.drvElapse u t) v) : GoesOn s (done v) := .now ((Onward.drvElapse s u t).trans h)

theorem op (k : Effect A R s v) (b : keepsQueue A = true := by decide) (c : Part.time ∉ A := by decide) : GoesOn s (done v) :=
  .now (k.onward b c)

theorem timedOp (k : Effect A R (s.elapse t) v) (b : keepsQueue A = true := by decide) (c : Part.time ∉ A := by decide) :
    GoesOn s (done v) := .timed (k.onward b c)

theorem onUnitOp (k : Effect A R (s.drvElapse u t) v) (b : keepsQueue A = true := by decide) (c : Part.time ∉ A := by decide) :
    GoesOn s (done v) := .onUnit (k.onward b c)

theorem supplyPor (s : State) (t : Nat) (porN : Bool) : GoesOn s (execSupplyPor t porN s) :=
  .ofEndures ((State.supplyPor_endures _ porN).after (.elapse s t))

theorem callupLaunch (s : State) (call : CallIn) (t : Nat) : GoesOn s (execCallupLaunch call t s) := by
  refine .timed (t := t) ?_
  split
  · extract_lets was called
    have hcalled : Onward (s.elapse t) called := (State.callupLaunch_effect ..).onward
    split
    · exact .when hcalled fun u => (State.diagFail_effect u ..).onward
    · exact hcalled
  · exact .refl _

theorem autoRestore (s : State) (chain : Fin 48) (t : Nat) : GoesOn s (execAutoRestore chain t s) := by
  refine .timed (t := t) ?_
  split
  · exact (State.restoreAtFreeze_effect ..).onward
  · exact .refl _

theorem refereeMismatch (s : State) (t : Nat) : GoesOn s (execRefereeMismatch t s) := by
  refine .timed (t := t) (.op (.op (.each ?_ fun u e => (State.wr_effect u ..).onward) (State.wr_effect ..)) (State.raise_effect ..))
  exact .op (State.modRef_effect ..).onward (Effect.faults _ _)

theorem safeResetStuck (s : State) (t : Nat) : GoesOn s (execSafeResetStuck t s) := by
  refine .timed (t := t) ?_
  split
  · exact .ite (State.wr_effect ..).onward (.refl _)
  · exact .refl _

theorem safeDriveEnvelope (s : State) (t : Nat) : GoesOn s (execSafeDriveEnvelope t s) :=
  .timed (t := t) (.ite (.op (.each (.refl _) fun u g => (State.driveEnvelope_effect u g).onward) (State.showSafe_effect _)) (.refl _))

end GoesOn

/-- Every command goes on: the chapters' operations, command by command. -/
theorem exec_goesOn (s : State) : (c : Instr) → GoesOn s (exec c s)
  | .registerWrite .. => .timed (.ite (.hostWrite ..) (.refl _))
  | .split64LowRead .. => .timed (.ite (State.splitRead_effect ..).onward (.refl _))
  | .eventRegisterWrite .. => .now (.ite (.hostWrite ..) (.refl _))
  | .supplyPor .. => .supplyPor ..
  | .porRelease .. => .timedOp (State.porRelease_effect ..)
  | .resetNAssert .. => .timedOp (State.resetNAssert_effect ..)
  | .resetNRelease .. => .timedOp (State.resetNRelease_effect ..)
  | .softReset .. => .timedOp (State.softReset_effect ..)
  | .railPgood .. => .timedOp (State.railPgood_effect ..)
  | .wakeTimeout .. => .timedOp (State.wakeTimeout_effect ..)
  | .pllLock .. => .timedOp (State.pllLock_effect ..)
  | .pllLockLoss .. => .timedOp (State.pllLockLoss_effect ..)
  | .devResetRelease .. => .timed (.devResetRelease ..)
  | .dramInitDone .. => .timedOp (State.dramInit_effect ..)
  | .imageFetchDone .. => .timedOp (State.fetchDone_effect ..)
  | .flashTimeout .. => .timedOp (State.flashTimeout_effect ..)
  | .imageAuthenticate .. => .timedOp (State.imageAuthenticate_effect ..)
  | .sectionChecks .. => .timedOp (State.sectionChecks_effect ..)
  | .imageCommit .. => .timed (.imageCommit ..)
  | .laneUpTimeout .. => .timedOp (State.laneTimeout_effect ..)
  | .kickoffGrant .. => .timedOp (State.kickoffGrant_effect ..)
  | .imageLoad .. => .timedOp (State.imageLoad_effect ..)
  | .imageAbort .. => .timedOp (State.imageAbort_effect ..)
  | .epochBurn .. => .timedOp (State.epochBurn_effect ..)
  | .keyProgram .. => .timed (.keyCmd _ fun u => (State.keyProgram_effect u _).onward)
  | .keyRevoke .. => .timed (.keyCmd _ fun u => (State.keyRevoke_effect u _).onward)
  | .fuseOpDone .. => .timedOp (State.fuseDone_effect ..)
  | .bar2Write .. => .timedOp (State.bar2Write_effect ..)
  | .substRequest .. => .timedOp (State.substRequest_effect ..)
  | .sliceError .. => .timedOp (State.sliceFail_effect ..)
  | .substInService .. => .timedOp (State.substInService_effect ..)
  | .spareSelftestFail .. => .timed (.ite (State.sliceFail_effect ..).onward (.refl _))
  | .frameTick .. => .timed (.frameTick ..)
  | .autoRedeblock .. => .timed (.ite (State.autoRedeblock_effect ..).onward (.refl _))
  | .tSample .. => .timed (.ite (State.sampleDs_effect _).onward (.refl _))
  | .adcBurstStart .. => .timedOp (State.burstStart_effect ..)
  | .adcResult .. => .timedOp (State.adcResult_effect ..)
  | .adcResultRead .. => .op (State.adcRead_effect ..)
  | .dsOutput .. => .timed ((State.dsOutput_effect ..).onward.op (State.probeOver_effect ..))
  | .uplinkSlot .. => .timedOp (State.uplinkSlot_effect ..)
  | .uplinkTrainCrc .. => .now (.when (.refl s) fun u => (State.bump_effect u ..).onward)
  | .callupReply .. => .timedOp (State.callupReply_effect ..)
  | .callupLoop .. => .timedOp (State.callupLoop_effect ..)
  | .callupLaunch .. => .callupLaunch ..
  | .laneSyncAcquire .. => .timedOp (State.syncAcquire_effect ..)
  | .laneSyncLoss .. => .timedOp (State.syncLoss_effect ..)
  | .tFreeze .. => .timedOp (State.freezeFrame_effect ..)
  | .autoRestore .. => .autoRestore ..
  | .laneRestore .. => .op (State.laneRestore_effect ..)
  | .laneCallup .. => .op (State.laneCallup_effect ..)
  | .laneForceIdle .. => .timedOp (State.forceIdle_effect ..)
  | .engineGraphComplete .. => .op (State.graphComplete_effect ..)
  | .tComputeEnd .. => .timedOp (State.computeEnd_effect ..)
  | .tRankEnd .. => .timedOp (State.rankEnd_effect ..)
  | .plannerStepDown .. => .timedOp (State.stepDown_effect ..)
  | .overrunHoldEnd .. => .timedOp (State.holdEnd_effect ..)
  | .backgroundDispatch .. => .timedOp (State.background_effect ..)
  | .thermalShedStep .. => .timedOp (State.thermalStep_effect ..)
  | .trkEntryTimeout .. => .timedOp (State.ctrlTimeout_effect ..)
  | .leaseExpiry .. => .timed (.ite (State.withdrawAtTick_effect _).onward (.refl _))
  | .heartbeatLoss .. => .timedOp (State.heartbeatLoss_effect ..)
  | .planeEccError .. => .timedOp (State.engineEcc_effect ..)
  | .planePgoodLoss .. => .timedOp (State.planePgoodLoss_effect ..)
  | .planeErrorLine .. => .timed (.ite (State.withdraw_effect ..).onward (.refl _))
  | .forceTakeover .. => .timedOp (State.forceTakeover_effect ..)
  | .takeoverGrant .. => .timedOp (State.takeoverGrant_effect ..)
  | .halftimeNow .. => .timedOp (State.halftimeNow_effect ..)
  | .halftimeHandover .. => .timedOp (State.handover_effect ..)
  | .revive .. => .timedOp (State.revive_effect ..)
  | .reviveComplete .. => .timedOp (State.reviveComplete_effect ..)
  | .refereeMismatch .. => .refereeMismatch ..
  | .pairPacket .. => .timedOp (State.pairPacket_effect ..)
  | .pairSilence .. => .timedOp (State.pairSilence_effect ..)
  | .hostCommandTake .. => .timedOp (State.takeCommand_effect ..)
  | .journalRecordCommitted .. => .timedOp (State.recordCommitted_effect ..)
  | .jrnCplHeadWrite .. => .op (State.cplHeadWrite_effect ..)
  | .ringRestart .. => .op (State.ringRestart_effect ..)
  | .ringPcieError .. => .timed ((State.wr_effect ..).onward.op (State.raise_effect ..))
  | .jrnMramEnable .. => .timedOp (State.mramEnable_effect ..)
  | .jrnMramDisable .. => .timedOp (State.mramDisable_effect ..)
  | .newEpoch .. => .timedOp (State.newEpoch_effect ..)
  | .jrnHalfRebuilt .. => .now ((State.modJrn_effect ..).onward.op (State.showHalves_effect _))
  | .setFramePeriod .. => .op (State.cmdSetFramePeriod_effect ..)
  | .cellAdmit .. => .op (State.cellAdmit_effect ..)
  | .cellBypass .. => .op (State.cellBypass_effect ..)
  | .cellFaultClear .. => .op (State.cellFaultClear_effect ..)
  | .coeffWrite .. => .op (State.cmdCoeffWrite_effect ..)
  | .bankSwap .. => .op (State.cmdBankSwap_effect ..)
  | .paramWrite .. => .op (State.cmdParamWrite_effect ..)
  | .convDeblock .. => .op (State.cmdConvDeblock_effect ..)
  | .convBlock .. => .op (State.cmdConvBlock_effect ..)
  | .canQueue .. => .op (State.cmdCanQueue_effect ..)
  | .canFlush .. => .op (State.cmdCanFlush_effect ..)
  | .coastLimit .. => .timedOp (State.coastLimit_effect ..)
  | .resyncTimeout .. => .timed (.ite (State.resyncTimeout_effect ..).onward (.refl _))
  | .safeInputChange .. => .timedOp (State.inputChange_effect ..)
  | .safeFilterSettle .. => .timedOp (State.filterSettle_effect ..)
  | .safeUnsettled .. => .timedOp (State.unsettled_effect ..)
  | .safeDiscrepancy .. => .timedOp (State.discrepancy_effect ..)
  | .tpoPulse .. => .timedOp (State.tpoPulse_effect ..)
  | .tpoCheck .. => .timedOp (State.tpoCheck_effect ..)
  | .safeStopTimer .. => .timedOp (State.stopTimer_effect ..)
  | .safeDriveEnvelope .. => .safeDriveEnvelope ..
  | .safeCrossExchange .. => .timedOp (State.crossExchange_effect ..)
  | .safeLinkSilence .. => .timedOp (State.linkSilence_effect ..)
  | .safeSelftestFail .. => .timedOp (State.diagFail_effect ..)
  | .safeResetArm .. => .timedOp (State.resetArm_effect ..)
  | .safeArmExpiry .. => .timedOp (State.armExpiry_effect ..)
  | .safeResetFall .. => .timed ((Effect.safety ..).onward.op (State.showSafe_effect _))
  | .safeResetRise .. => .timedOp (State.resetRise_effect ..)
  | .safeResetStuck .. => .safeResetStuck ..
  | .drvLoadall .. => .timedOp (State.loadAll_effect ..)
  | .drvSync .. => .op (State.drvSync_effect ..)
  | .drvLatchClear .. => .onUnit ((State.seeInputs_effect ..).onward.op (State.drvCtrlWrite_effect ..))
  | .drvClearCounts .. => .now (.ite (State.clearDrvCounts_effect ..).onward (.refl s))
  | .carrierValley .. => .timed ((State.drvSees_effect ..).onward.op (State.carrierValley_effect ..))
  | .chopperBoundary .. => .onUnit ((State.seeInputs_effect ..).onward.op (State.chopBoundary_effect ..))
  | .desatTrip .. => .onUnit (.ite (State.tripSeen_effect ..).onward (.refl _))
  | .instantTrip .. => .onUnitOp (State.instantTrip_effect ..)
  | .vdrvUvlo .. => .onUnitOp (State.vdrvUvlo_effect ..)
  | .vdrvRecover .. => .onUnitOp (State.vdrvRecover_effect ..)
  | .vbUndervoltage .. => .onUnitOp (State.vbUndervoltage_effect ..)
  | .gateInterlock .. => .onUnitOp (State.gateInterlock_effect ..)
  | .driveOtShutdown .. => .onUnitOp (State.driveOt_effect ..)
  | .driveOtRelease .. => .onUnitOp (State.driveOtRelease_effect ..)
  | .barrierLinkLost .. => .onUnitOp (State.linkLost_effect ..)
  | .barrierLinkRecover .. => .timed ((State.drvSees_effect ..).onward.op (State.linkRecover_effect ..))
  | .driveEnableChange .. => .onUnitOp (State.enableChange_effect ..)
  | .motChopReset .. => .op (State.chopReset_effect ..)
  | .chopCheck .. => .onUnitOp (State.chopCheck_effect ..)
  | .startFail .. => .onUnitOp (State.startFail_effect ..)
  | .catchTimeout .. => .onUnitOp (State.catchTimeout_effect ..)
  | .catchSlow .. => .onUnitOp (State.catchSlow_effect ..)
  | .shortEnd .. => .onUnitOp (State.shortEnd_effect ..)
  | .stopseqCoastEnd .. => .onUnitOp (State.stopseqEnd_effect ..)
  | .spdEdge .. => .timedOp (State.spdEdge_effect ..)
  | .speedSignalLost .. => .timedOp (State.signalLost_effect ..)
  | .adcCommit .. => .timedOp (State.adcCommit_effect ..)
  | .adcRefEnable .. => .timedOp (State.refEnable_effect ..)
  | .adcRefReady .. => .timedOp (State.refReady_effect ..)
  | .hkRoundStart .. => .timedOp (State.hkStart_effect ..)
  | .hkRoundDone .. => .timedOp (State.hkDone_effect ..)
  | .keepCounterCopy .. => .timed (.ite (.refl _) (.keepCopy _))
  | .timeSet .. => .timed (.steered (.refl _) .timeSet)
  | .timeStep .. => .timed (.steered (.refl _) .timeStep)
  | .timeSlewGo .. => .timed (.steered (.refl _) .slewGo)
  | .timeSlewDone .. => .timedOp (State.showSlew_effect ..)
  | .timeSyncSet .. => .timedOp (State.hostSync_effect ..)
  | .timeSyncClr .. => .timedOp (State.hostSync_effect ..)
  | .timeServoChange .. => .timed (.servoTo ..)
  | .timeAddendWrite .. => .timed (.addendWrite ..)
  | .ppsEdge .. => .timed (.ppsEdge ..)
  | .ppsLost .. => .timedOp (State.ppsLost_effect ..)
  | .ethRxFrame .. => .timedOp (State.ethReceive_effect ..)
  | .ethTxDescriptor .. => .timedOp (State.ethTransmit_effect ..)
  | .ethTxtsRead .. => .op (State.txtsRead_effect ..)
  | .ethRingRestart .. => .op (State.ethRestart_effect ..)
  | .ethDmaError .. => .timedOp (State.ethDmaError_effect ..)
  | .ethLinkChange .. => .timedOp (State.ethLink_effect ..)
  | .canSlotStart .. => .timedOp (State.canSlotStart_effect ..)
  | .canSlotEnd .. => .timedOp (State.canSlotEnd_effect ..)
  | .canTxComplete .. => .timedOp (State.canComplete_effect ..)
  | .canTxAttemptFail .. => .timedOp (State.canFail_effect ..)
  | .canRecover .. => .timedOp (State.canRecover_effect ..)
  | .canRecoveryDone .. => .timedOp (State.canRecovered_effect ..)
  | .canRxMessage .. => .timedOp (State.canMessage_effect ..)
  | .canRxAck .. => .op (State.canAck_effect ..)
  | .canTxeRead .. => .op (State.canTxeRead_effect ..)
  | .bbPortUp .. => .timedOp (State.bbUp_effect ..)
  | .bbPortDown .. => .timedOp (State.bbPortDown_effect ..)
  | .bbIdleEntry .. => .timedOp (State.bbIdle_effect ..)
  | .helloSend .. => .timedOp (State.send_effect ..)
  | .hello .. => .timedOp (State.hello_effect ..)
  | .bbPartnerLost .. => .timedOp (State.partnerLost_effect ..)
  | .jrnCmd .. => .timedOp (State.bbJournal_effect ..)
  | .hostRd .. => .timedOp (State.bbRead_effect ..)
  | .hostWr .. => .timed (.bbWrite ..)
  | .imagePacket .. => .timedOp (State.imagePacket_effect ..)
  | .bbPacketDiscard .. => .op (State.bbDiscard_effect ..)
  | .collectorEvent .. => .timedOp (State.collectNext_effect ..)
  | .quietTimeout .. => .timedOp (State.quietTimeout_effect ..)
  | .faultClearCounts => .op (State.faultClearCounts_effect ..)
  | .faultClearHist => .op (State.faultClearHist_effect ..)
  | .firstFatalClear => .op (State.firstFatalClear_effect ..)
  | .faultHistRead .. => .op (State.histRead_effect ..)
  | .timePtpRead .. => .timedOp (State.ptpLatch_effect ..)
  | .aliveToggle .. => .timedOp (State.aliveToggle_effect ..)
  | .xbarWaitClear => .op (State.xbarClear_effect ..)
  | .frameClearOverrun => .op (State.clearOverrun_effect ..)
  | .frameClearStale => .op (State.clearStale_effect ..)
  | .frameClearTracker => .op (State.clearTracker_effect ..)
  | .frameClearGaps => .op (State.wr_effect ..)
  | .laneClearCounts .. => .op (State.laneClear_effect ..)
  | .armClearCounts .. => .op (State.armClear_effect ..)
  | .engClearCycles .. => .op (State.wr_effect ..)
  | .engClearEcc .. => .op (State.wr_effect ..)
  | .memoryEccError .. => .timedOp (State.memoryError_effect ..)
  | .dramFailure .. => .timedOp (State.dramFailure_effect ..)
  | .vinSample .. => .timedOp (State.vinSample_effect ..)
  | .vinLoss .. => .timedOp (State.vinLoss_effect ..)
  | .keepOnlyExit .. => .timedOp (State.keepOnlyExit_effect ..)
  | .thermalLatchClear .. => .timedOp (State.latchCool_effect ..)
  | .powerDormant .. => .timedOp (State.powerDormant_effect ..)
  | .powerWake .. => .timedOp (State.edgeWake_effect ..)
  | .wakeNEvent .. => .timedOp (State.wakeN_effect ..)
  | .analogOff .. => .timedOp (State.analogOffWrite_effect ..)
  | .bbPhyOff .. => .timedOp (State.bbOffWrite_effect ..)
  | .powerHandshakePoll .. => .timedOp (State.handshakePoll_effect ..)
  | .powerEntryTimeout .. => .timedOp (State.entryTimeout_effect ..)
  | .powerClearVinMin => .op (State.wr_effect ..)
  | .clockGo .. => .timedOp (State.clockGo_effect ..)
  | .clockTrimFine .. => .timedOp (State.trimWrite_effect ..)
  | .pwmCommandEdge .. => .timed ((State.drvSees_effect ..).onward.op (State.pwmEdge_effect ..))
  | .checkpointLoadDone .. => .timedOp (State.ckptLoadDone_effect ..)
  | .canRxError .. => .timedOp (State.canRxError_effect ..)
  | .safeResetStuckEnd .. => .timed (.ite (State.wr_effect ..).onward (.refl _))
  | .tpoReadbackFault .. => .timed (.ite (State.readbackFault_effect ..).onward (.refl _))
  | .driveBandChange .. => .timedOp (State.driveBand_effect ..)
  | .pcieLinkChange .. => .timedOp (State.linkChange_effect ..)


/-- Settles O5: what every operation leaves of the queue, the silicon, the fuses, the output and the time base, put together command by
command. -/
theorem everyCommandGoesOn : Obligations.EveryCommandGoesOn := fun c s => exec_goesOn s c

end Sys2Proof.Machine
end

section
namespace Sys2Proof.Machine

set_option Elab.async false

/-- A state whose register stores are empty reads the reset value of every field (R14). -/
theorem State.rd_of_empty {s : State} (hregs : s.regs = []) (hkeep : s.keep = []) (f : Field) (i j : Nat) : s.rd f i j = f.reset i := by
  unfold State.rd
  split
  · split
    · rw [hregs]; rfl
    · rw [hkeep]; rfl
    · rfl
  · rfl

/-- Settles O2: every store of the reset state is empty, so that each clause is one about reset values. -/
theorem resetLeavesTheResetValues : Obligations.ResetLeavesTheResetValues := by
  have hrd : ∀ f i j, State.reset.rd f i j = f.reset i := State.rd_of_empty rfl rfl
  have hshed : State.reset.shedInv := by simp only [State.shedInv, hrd]; decide
  have hdevice : State.reset.device = stOff := hrd ..
  have hticking : State.reset.ticking = false := by simp only [State.ticking, State.on, hrd]; rfl
  exact ⟨hrd, rfl, hshed, rfl, rfl, hdevice, rfl, rfl, hticking, rfl, rfl⟩

end Sys2Proof.Machine
end

section
namespace Sys2Proof.Machine

set_option Elab.async false

/-- The base address of the register at byte address `a`, and which of its places it is. -/
def regBase (a : Nat) : Option (Nat × Nat) :=
  match regAt a with
  | some (f :: _, i, _) => some (f.addr, i)
  | _ => none

/-- A host write of a reachable register that acts is its action. -/
theorem State.hostWrite_acting {s u : State} {a w b i : Nat} (hreach : s.reachable a = true) (hbase : regBase a = some (b, i))
    (hact : s.actingWrite b i (w % 4294967296) = some u) : s.hostWrite a w = u := by
  unfold regBase at hbase
  split at hbase
  · rename_i f r k j hreg
    obtain ⟨rfl, rfl⟩ := Prod.mk.inj (Option.some.inj hbase)
    simp only [State.hostWrite, hreach, Bool.not_true, Bool.false_eq_true, if_false, hreg, hact]
  · cases hbase

/-- REGISTER_WRITE of a word that is reachable outside a DEV reset, in a register that acts, is the action at the same instant. -/
theorem exec_registerWrite_acting {s u : State} {a w t b i : Nat} (hheld : s.power.held = false) (hbase : regBase a = some (b, i))
    (haddr : (decide (a % 4 = 0) && decide (a < 16777216)) = true) (hpresent : (s.elapse t).present a = true)
    (hact : (s.elapse t).actingWrite b i (w % 4294967296) = some u) : exec (.registerWrite a 4 w t) s = done u := by
  have hreach : (s.elapse t).reachable a = true := by
    rw [State.reachable, State.elapse_power, hheld, hpresent, Bool.not_false, Bool.true_and, haddr, Bool.true_and]
  exact congrArg done (State.hostWrite_acting hreach hbase hact)

theorem word_mod {w : Nat} (h : w < 2 ^ 32) : w % 4294967296 = w := Nat.mod_eq_of_lt h

/-- The first drive unit is in both variants (Table 00-2). -/
theorem State.hasUnit_zero (s : State) : s.hasUnit 0 = true := by
  unfold State.hasUnit
  cases s.silicon.variant <;> rfl

/-- Settles O9: each of the addresses decodes to its register, whose write is the operation that the command runs. -/
theorem actionBitsRunTheirCommands : Obligations.ActionBitsRunTheirCommands := by
  intro s t hheld
  refine ⟨?_, ?_, ?_, ?_, ?_, ?_, ?_, ?_, fun w hw => ?_, fun w hw => ?_, fun w hw => ?_, fun w hw => ?_⟩
  · exact exec_registerWrite_acting (b := 0x18) (i := 0) hheld (by decide +kernel) rfl rfl rfl
  · exact exec_registerWrite_acting (b := 0x705C) (i := 0) hheld (by decide +kernel) rfl rfl rfl
  · exact exec_registerWrite_acting (b := 0x705C) (i := 0) hheld (by decide +kernel) rfl rfl rfl
  · exact exec_registerWrite_acting (b := 0x705C) (i := 0) hheld (by decide +kernel) rfl rfl rfl
  · exact exec_registerWrite_acting (b := 0x705C) (i := 0) hheld (by decide +kernel) rfl rfl rfl
  · exact exec_registerWrite_acting (b := 0x2038) (i := 0) hheld (by decide +kernel) rfl rfl rfl
  · exact exec_registerWrite_acting (b := 0x402C) (i := 0) hheld (by decide +kernel) rfl rfl rfl
  · exact exec_registerWrite_acting (b := 0x1004) (i := 0) hheld (by decide +kernel) rfl rfl rfl
  · refine exec_registerWrite_acting (b := 0x612C) (i := 0) hheld (by decide +kernel) rfl rfl ?_
    rw [word_mod hw]
    rfl
  · refine exec_registerWrite_acting (b := 0x8058) (i := 0) hheld (by decide +kernel) rfl rfl ?_
    rw [word_mod hw]
    rfl
  · refine exec_registerWrite_acting (b := 0x10030) (i := 0) hheld (by decide +kernel) rfl rfl ?_
    rw [word_mod hw]
    rfl
  · refine exec_registerWrite_acting (b := 0x83F00) (i := 0) hheld (by decide +kernel) rfl (State.hasUnit_zero _) ?_
    rw [word_mod (by omega)]
    show some (State.loadAll _ (w % 16 % 16)) = _
    rw [Nat.mod_mod]

end Sys2Proof.Machine
end

section
namespace Sys2Proof.Machine

set_option Elab.async false

/-! ### The words of BAR0 -/

/-- The fields of a register lie at the same places, in one word, each at bits of its own. -/
def Field.oneWord (r : List Field) : Prop :=
  r.Pairwise (fun g h => g.lo ≠ h.lo) ∧ ∀ f ∈ r.head?, ∀ g ∈ r, g.addr = f.addr ∧ g.s1 = f.s1 ∧ g.n1 = f.n1 ∧ g.s2 = f.s2 ∧ g.n2 = f.n2

theorem Reg.table_oneWord : ∀ r ∈ Reg.table, Field.oneWord r := by
  unfold Field.oneWord
  decide +kernel

/-- What is found at an address is a register of the table, at a place it has. -/
theorem regAt_eq_some {a i j : Nat} {r : List Field} (h : regAt a = some (r, i, j)) :
    r ∈ Reg.table ∧ ∀ f ∈ r.head?, f.has i j = true := by
  obtain ⟨q, hq, hloc⟩ := List.exists_of_findSome?_eq_some h
  cases q with
  | nil => cases hloc
  | cons f q =>
    simp only [locateReg, Option.map_eq_some_iff] at hloc
    obtain ⟨⟨k, l⟩, hat, he⟩ := hloc
    simp only [Prod.mk.injEq] at he
    obtain ⟨rfl, rfl, rfl⟩ := he
    refine ⟨hq, fun g hg => ?_⟩
    cases hg
    unfold Field.locate at hat
    split at hat
    · cases hat
    · dsimp only at hat
      split at hat
      · rename_i hin
        cases hat
        simp [Field.has, hin]
      · cases hat

/-- Every field of the register at an address is there wherever its first field is. -/
theorem regAt_has {a i j : Nat} {f : Field} {r : List Field} (h : regAt a = some (f :: r, i, j)) {g : Field} (hg : g ∈ f :: r) :
    g.has i j = true := by
  obtain ⟨htable, hhas⟩ := regAt_eq_some h
  obtain ⟨-, -, hn1, -, hn2⟩ := (Reg.table_oneWord _ htable).2 f rfl g hg
  simpa only [Field.has, hn1, hn2] using hhas f rfl

/-! ### Plain writes -/

/-- A plain write of a field leaves another field of its word. -/
theorem State.rd_fieldWrite_ne (s : State) {f g : Field} {i j : Nat} (w : Nat) (h : g.key i j ≠ f.key i j) :
    (s.fieldWrite g i j w).rd f i j = s.rd f i j := by
  unfold State.fieldWrite
  split
  · exact State.rd_wr_ne s f g _ fun _ _ => h
  · exact State.rd_wr_ne s f g _ fun _ _ => h
  · exact State.rd_wr_ne s f g _ fun _ _ => h
  · rfl

/-- What a plain write of the word `w` makes of the value of a field (Table 00-6). -/
def Field.written (f : Field) (old w : Nat) : Nat :=
  if f.dom = .fixed then old
  else
    match f.acc with
    | .rw | .rwk => bitsOf w f.lo f.width
    | .w1c => (old - (old &&& bitsOf w f.lo f.width)) % 2 ^ f.width
    | _ => old

theorem State.rd_wr_fixed (s : State) {f : Field} (v i j : Nat) (h : f.dom = .fixed) : s.wr f v i j = s := by
  simp [State.wr, h]

theorem State.rd_fieldWrite_same (s : State) {f : Field} {i j : Nat} (w : Nat) (h : f.has i j = true) :
    (s.fieldWrite f i j w).rd f i j = f.written (s.rd f i j) w := by
  unfold State.fieldWrite Field.written
  by_cases hd : f.dom = .fixed
  · split <;> simp only [State.rd_wr_fixed _ _ _ _ hd, hd, if_true]
  · have hbits : bitsOf w f.lo f.width % 2 ^ f.width = bitsOf w f.lo f.width := Nat.mod_mod ..
    cases hacc : f.acc <;> simp only [State.rd_wr_same _ _ _ _ _ h hd, hd, if_false, hbits]

/-- A plain write of a register leaves a field that lies elsewhere. -/
theorem State.rd_regWrite_ne (s : State) {r : List Field} {f : Field} {i j : Nat} (w : Nat) (h : ∀ g ∈ r, g.key i j ≠ f.key i j) :
    (s.regWrite r i j w).rd f i j = s.rd f i j := by
  induction r generalizing s with
  | nil => rfl
  | cons g r ih =>
    exact (ih (s.fieldWrite g i j w) fun x hx => h x (List.mem_cons_of_mem _ hx)).trans
      (State.rd_fieldWrite_ne s w (h g (List.mem_cons_self ..)))

/-- A plain write of a register does to each field what Table 00-6 says, where no two fields lie at the same place. -/
theorem State.rd_regWrite (s : State) {r : List Field} {g : Field} {i j : Nat} (w : Nat) (hg : g ∈ r) (hhas : g.has i j = true)
    (hkeys : r.Pairwise fun g h => g.key i j ≠ h.key i j) : (s.regWrite r i j w).rd g i j = g.written (s.rd g i j) w := by
  induction r generalizing s with
  | nil => cases hg
  | cons h r ih =>
    obtain ⟨hfirst, hrest⟩ := List.pairwise_cons.mp hkeys
    rcases List.mem_cons.mp hg with rfl | hin
    · exact (State.rd_regWrite_ne (s.fieldWrite g i j w) w fun x hx => (hfirst x hx).symm).trans (State.rd_fieldWrite_same s w hhas)
    · exact (ih (s.fieldWrite h i j w) hin hrest).trans (by rw [State.rd_fieldWrite_ne s w (hfirst g hin)])

/-- The fields of one word lie at different places wherever they are stored. -/
theorem Field.oneWord.keys {r : List Field} (h : Field.oneWord r) (i j : Nat) : r.Pairwise fun g h => g.key i j ≠ h.key i j := by
  obtain ⟨hlo, hword⟩ := h
  cases r with
  | nil => exact .nil
  | cons f r =>
    have hkey : ∀ g ∈ f :: r, g.key i j = f.at i j * 8 + g.lo := fun g hg => by
      obtain ⟨haddr, hs1, -, hs2, -⟩ := hword f rfl g hg
      simp only [Field.key, Field.at, haddr, hs1, hs2]
    refine hlo.imp_of_mem fun hg hh hne => ?_
    rw [hkey _ hg, hkey _ hh]
    omega

/-! ### What follows a plain write -/

/-- The fields that may move once the write of the register at a base address is done. -/
def afterFields (base : Nat) : List Field :=
  match base with
  | 0x4100C => [Reg.ADC_SEQ_COUNT.INVALID]
  | 0x51000 => [Reg.ETH_STATUS.LINK, Reg.ETH_STATUS.SPEED, Reg.ETH_STATUS.AN_DONE, Reg.ETH_EVENT.EVENTS]
  | 0x2008 => [Reg.POWER_STATE.WAKE_SRC, Reg.POWER_STATE.WAKE_TRIES]
  | 0x6108 => [Reg.JRN_RING_STATUS.WAIT_CPL]
  | 0x6110 => [Reg.JRN_RING_STATUS.WAIT_CPL]
  | 0x6128 => [Reg.JRN_RING_STATUS.WAIT_CPL]
  | _ => []

theorem State.afterWrite_moves (s : State) (base i v : Nat) :
    Effect [.power, .host, .out] (some (afterFields base)) s (s.afterWrite base i v) := by
  unfold State.afterWrite
  split
  · exact .when (.refl _ _ s) fun u => (State.wr_effect u ..).widen (by decide +kernel)
  · exact (State.ethOff_effect ..).widen (by decide +kernel)
  · exact .ite ((State.dormantExitStart_effect ..).widen (by decide +kernel)) (.refl _ _ s)
  · exact (State.showWait_effect s).widen (by decide +kernel)
  · exact (State.showWait_effect s).widen (by decide +kernel)
  · exact (State.showWait_effect s).widen (by decide +kernel)
  · split
    · exact ((State.recheck_effect ..).more (F := []) fun _ h => absurd h (List.not_mem_nil)).grow (by decide)
    · exact .refl _ _ s

/-- No register moves its own fields as its write ends, nor does the end of a command, but for HOST_IRQ_PENDING. -/
theorem Reg.table_keeps_after : ∀ r ∈ Reg.table, ∀ f ∈ r.head?, f.addr ≠ Reg.HOST_IRQ_PENDING.SOURCE.addr →
    ∀ g ∈ r, ((afterFields f.addr ++ movesIrq).all fun h => g.apart h) = true := by
  decide +kernel

/-- A host write of a reachable register without behaviour of its own. -/
theorem State.hostWrite_plain {s : State} {a v i j : Nat} {f : Field} {r : List Field} (hreg : regAt a = some (f :: r, i, j))
    (hreach : s.reachable a = true) (hplain : s.actingWrite f.addr i (v % 4294967296) = none) :
    s.hostWrite a v = (s.regWrite (f :: r) i j (v % 4294967296)).afterWrite f.addr i (v % 4294967296) := by
  simp only [State.hostWrite, hreach, Bool.not_true, Bool.false_eq_true, if_false, hreg, hplain]

/-- The fields of a register after its plain write, as the command ends. -/
theorem State.rd_plainWrite (s : State) {a i j v : Nat} {f : Field} {r : List Field} (hreg : regAt a = some (f :: r, i, j))
    (hirq : f.addr ≠ Reg.HOST_IRQ_PENDING.SOURCE.addr) {g : Field} (hg : g ∈ f :: r) :
    (((s.regWrite (f :: r) i j v).afterWrite f.addr i v).settle).rd g i j = g.written (s.rd g i j) v := by
  obtain ⟨htable, -⟩ := regAt_eq_some hreg
  have hapart := Reg.table_keeps_after _ htable f rfl hirq g hg
  rw [List.all_append, Bool.and_eq_true] at hapart
  calc _ = ((s.regWrite (f :: r) i j v).afterWrite f.addr i v).rd g i j := (State.settle_effect _).rd g i j hapart.2
    _ = (s.regWrite (f :: r) i j v).rd g i j := (State.afterWrite_moves ..).rd g i j hapart.1
    _ = _ := State.rd_regWrite s v hg (regAt_has hreg hg) ((Reg.table_oneWord _ htable).keys i j)

end Sys2Proof.Machine
end

section
namespace Sys2Proof.Machine

set_option Elab.async false

/-! ### What every command may move -/

/-- An effect without registers, after the time base has run and as the command ends. -/
theorem State.elapse_op_settle_effect {s u : State} {t : Nat} {A B : List Part} (k : Effect B (some []) (s.elapse t) u)
    (hA : ∀ p ∈ [Part.time, .host, .fr, .out], p ∈ A) (hB : ∀ p ∈ B, p ∈ A) :
    Effect A (some (movesTime ++ movesIrq)) s u.settle := by
  have htime : ∀ p ∈ State.elapse_touch, p ∈ [Part.time, .host, .fr, .out] := by decide
  have hirq : ∀ p ∈ State.settle_touch, p ∈ [Part.time, .host, .fr, .out] := by decide
  have helapse : Effect A (some (movesTime ++ movesIrq)) s (s.elapse t) :=
    ((State.elapse_effect s t).more (by decide +kernel)).grow fun p hp => hA p (htime p hp)
  have hop : Effect A (some (movesTime ++ movesIrq)) (s.elapse t) u := (k.more fun f hf => absurd hf List.not_mem_nil).grow hB
  have hsettle : Effect A (some (movesTime ++ movesIrq)) u u.settle :=
    ((State.settle_effect u).more (by decide +kernel)).grow fun p hp => hA p (hirq p hp)
  exact (helapse.step hop (Effect.fits_refl _ _)).step hsettle (Effect.fits_refl _ _)

/-- What a command may move whose instant alone passes. -/
theorem State.elapse_settle_effect (s : State) (t : Nat) :
    Effect [.time, .host, .fr, .out] (some (movesTime ++ movesIrq)) s (s.elapse t).settle :=
  State.elapse_op_settle_effect (Effect.refl [] _ _) (fun _ => id) (by decide)

/-! ### What interrupts leave of the host port -/

/-- The host port's MSI-X table, link, and MSI-X enable and function mask. -/
def State.hostSetup (s : State) : Tbl MsixVec × Bool × Bool × Bool := (s.host.msix, s.host.linkUp, s.host.msixEnable, s.host.funcMask)

theorem State.sendVector_hostSetup (s : State) (v : Nat) : (s.sendVector v).hostSetup = s.hostSetup := by
  unfold State.sendVector
  extract_lets e
  split
  · rfl
  · split <;> rfl

theorem State.settle_hostSetup (s : State) : s.settle.hostSetup = s.hostSetup := by
  unfold State.settle
  extract_lets old now sent shown low
  have hsent : sent.hostSetup = s.hostSetup := State.each_keeps State.hostSetup (fun u k => by
    split
    · exact State.sendVector_hostSetup ..
    · rfl) s
  have hshown : shown.hostSetup = sent.hostSetup := by simp only [State.hostSetup, shown, State.wr_host]
  exact hshown.trans hsent

theorem State.settle_msix (s : State) : s.settle.host.msix = s.host.msix := congrArg Prod.fst s.settle_hostSetup

/-! ### Refused accesses -/

theorem State.elapse_present (s : State) (t a : Nat) : (s.elapse t).present a = s.present a := by
  have hrole : ∀ n, (s.elapse t).on Reg.SLICE_ROLE.ROLE n = s.on Reg.SLICE_ROLE.ROLE n := fun n => by
    simp only [State.on, s.elapse_rd t Reg.SLICE_ROLE.ROLE n 0 (by decide +kernel)]
  simp only [State.present, State.convCfg, State.cellCfg, State.hasUnit, State.elapse_cfg, State.elapse_silicon, hrole]

/-- An access that BAR0 does not take, whatever stands at the address (R11, R30). -/
theorem State.reachable_eq_false {s : State} {a : Nat}
    (h : a % 4 ≠ 0 ∨ 16777216 ≤ a ∨ s.power.held = true ∨ s.present a = false) : s.reachable a = false := by
  unfold State.reachable
  rcases h with h | h | h | h <;> simp [h]

/-- A host write that is not taken, or that finds neither a register nor the MSI-X table, changes nothing. -/
theorem State.hostWrite_ignored {s : State} {a : Nat} (w : Nat)
    (h : s.reachable a = false ∨ (regAt a = none ∧ (a < 0x800 ∨ 0xBFF < a))) : s.hostWrite a w = s := by
  unfold State.hostWrite
  split
  · rfl
  · rename_i hreach
    rcases h with h | ⟨hnone, hout⟩
    · simp [h] at hreach
    · have hbetween : between 0x800 a 0xBFF = false := by simp [between]; omega
      simp only [hnone, State.msixWrite, hbetween, Bool.false_eq_true, if_false]

/-- Settles O8: a plain write reaches each field of its word once, and what it does not reach, or is refused, is left to the time base. -/
theorem hostWritesChangeWritableBitsAlone : Obligations.HostWritesChangeWritableBitsAlone := by
  refine ⟨?_, ?_, ?_, ?_⟩
  · intro s a v t i j f r hreg hreach hplain hirq
    refine ⟨_, congrArg done (State.hostWrite_plain hreg hreach hplain), ?_⟩
    refine ⟨fun g hg hacc hdom => ?_, fun g hg hacc hdom => ?_, fun g hg hacc => ?_⟩
    · rw [State.rd_plainWrite _ hreg hirq hg, Field.written, if_neg hdom]
      rcases hacc with hacc | hacc <;> rw [hacc]
    · rw [State.rd_plainWrite _ hreg hirq hg, Field.written, if_neg hdom, hacc]
    · rw [State.rd_plainWrite _ hreg hirq hg, Field.written]
      rcases hacc with hacc | hacc | hacc <;> rw [hacc] <;> exact ite_self _
  · intro s a z v t hrefused
    have hignored : (if z = 4 then (s.elapse t).hostWrite a v else s.elapse t) = s.elapse t := by
      split
      · rename_i hz
        refine State.hostWrite_ignored v ?_
        rcases hrefused with h | h | h | h | h | h
        · exact absurd hz h
        · exact .inl (State.reachable_eq_false (.inl h))
        · exact .inl (State.reachable_eq_false (.inr (.inl h)))
        · exact .inl (State.reachable_eq_false (.inr (.inr (.inl (by rw [State.elapse_power, h])))))
        · exact .inl (State.reachable_eq_false (.inr (.inr (.inr (by rw [State.elapse_present, h])))))
        · exact .inr h
      · rfl
    refine ⟨_, congrArg done hignored, State.elapse_settle_effect s t, ?_⟩
    rw [State.settle_msix, State.elapse_host]
  · intro s a z hrefused
    have htaken : (decide (z ≠ 4) || !s.reachable a) = true := by
      rcases hrefused with h | h
      · simp [h]
      · simp [State.reachable_eq_false h]
    exact if_pos htaken
  · intro s r t hsize
    have hexec : exec (.split64LowRead r t) s = .next (s.elapse t).settle := congrArg done (if_neg hsize)
    exact ⟨_, hexec, (State.elapse_settle_effect s t).same .hold (by decide), State.elapse_settle_effect s t⟩

end Sys2Proof.Machine
end

section
namespace Sys2Proof.Machine

set_option Elab.async false

/-! ### Reads that hold words -/

/-- A filled holding register gives its copy once (R12). -/
theorem State.hostRead_held {s : State} {a w : Nat} (hreach : s.reachable a = true) (hheld : Tbl.look 0 s.hold a = w + 1) :
    s.hostRead a 4 = (w, { s with hold := Tbl.put 0 s.hold a 0 }) := by
  simp [State.hostRead, hreach, hheld]

/-- The copies that a read of FAULT_HIST_FRAME makes (R362). -/
theorem State.histRead_hold (s : State) (k : Nat) :
    Tbl.look 0 (s.histRead k).hold (0x4100 + 16 * k + 4) = s.rd Reg.FAULT_HIST_NS_LO.VALUE k + 1 ∧
    Tbl.look 0 (s.histRead k).hold (0x4100 + 16 * k + 8) = s.rd Reg.FAULT_HIST_NS_HI.VALUE k + 1 ∧
    Tbl.look 0 (s.histRead k).hold (0x4100 + 16 * k + 12) = s.rd Reg.FAULT_HIST_INFO.VALUE k + 1 := by
  simp [State.histRead, State.latchWord, Tbl.look_put]

/-! ### Event registers -/

/-- An event register has no behaviour of its own but its W1C bits. -/
theorem actingWrite_of_eventSource (s : State) {base i : Nat} (v : Nat) (h : eventSource base i ≠ none) :
    s.actingWrite base i v = none := by
  unfold eventSource at h
  split at h
  case h_22 => exact absurd rfl h
  all_goals rfl

theorem eventSource_irqPending (i : Nat) : eventSource Reg.HOST_IRQ_PENDING.SOURCE.addr i = none := rfl

theorem Field.written_w1c {f : Field} {old w : Nat} (hacc : f.acc = .w1c) (hdom : f.dom ≠ .fixed) :
    f.written old w = (old - (old &&& bitsOf w f.lo f.width)) % 2 ^ f.width := by
  rw [Field.written, if_neg hdom, hacc]

/-! ### BAR2 -/

theorem mapM_eq_some_map {α β : Type} {l : List α} {f : α → Option β} {g : α → β} (h : ∀ a ∈ l, f a = some (g a)) :
    l.mapM f = some (l.map g) := by
  induction l with
  | nil => rfl
  | cons a l ih =>
    rw [List.mapM_cons, h a (List.mem_cons_self ..), ih fun b hb => h b (List.mem_cons_of_mem _ hb)]
    rfl

theorem mapM_eq_none {α β : Type} {l : List α} {f : α → Option β} {a : α} (ha : a ∈ l) (h : f a = none) : l.mapM f = none := by
  induction l with
  | nil => cases ha
  | cons b l ih =>
    rw [List.mapM_cons]
    rcases List.mem_cons.mp ha with rfl | hin
    · rw [h]; rfl
    · rw [ih hin]; cases f b <;> rfl

/-- The byte of BAR2 at an offset in RUN with DRAM (Table 16-1). -/
def State.runByte (s : State) (o : Nat) : Byte :=
  if o < 0x100000 then s.bufferByte (o / 0x80000) (o % 0x80000)
  else if o < 0x1000000 then 0
  else s.dramByte (s.rd Reg.HOST_DRAM_WIN.BASE * 1048576 + (o - 0x1000000))

theorem State.bar2Byte_run {s : State} {o : Nat} (hheld : s.power.held = false) (hrun : s.device = stRun) (hdram : s.load.dram = true)
    (ho : o < 268435456) : s.bar2Byte o = some (s.runByte o) := by
  have hend : ¬ 0x10000000 ≤ o := by omega
  have hstate : ¬ stRun = stKickOff := by decide
  simp only [State.bar2Byte, State.runByte, hheld, hrun, hdram, hstate, hend, Bool.false_eq_true, if_false, if_true, or_false, ne_eq,
    not_true_eq_false]
  split
  · rfl
  · split <;> rfl

theorem State.bar2Byte_run_noDram {s : State} {o : Nat} (hheld : s.power.held = false) (hrun : s.device = stRun)
    (hdram : s.load.dram = false) (hlo : 0x1000000 ≤ o) (hhi : o < 0x10000000) : s.bar2Byte o = none := by
  have hbuf : ¬ o < 0x100000 := by omega
  have hzero : ¬ (o < 0x1000000 ∨ 0x10000000 ≤ o) := by omega
  have hstate : ¬ stRun = stKickOff := by decide
  simp only [State.bar2Byte, hheld, hrun, hdram, hstate, hbuf, hzero, Bool.false_eq_true, if_false, ne_eq, not_true_eq_false]

theorem State.bar2Read_run {s : State} {o n : Nat} (hheld : s.power.held = false) (hrun : s.device = stRun) (hdram : s.load.dram = true)
    (ho : o + n ≤ 268435456) : s.bar2Read o n = some ((upTo n).map fun i => s.runByte (o + i)) :=
  mapM_eq_some_map fun i hi => State.bar2Byte_run hheld hrun hdram (by have := List.mem_range.mp hi; omega)

/-! ### The staging area -/

/-- One byte of a write of BAR2 at `o` put into the staging area. -/
def stageByte (o : Nat) (t : Tbl Byte) (x : Byte × Nat) : Tbl Byte :=
  if o + x.2 < maxImage then Tbl.put 0 t (o + x.2) x.1 else t

theorem look_stageByte_ne {o a : Nat} {t : Tbl Byte} {x : Byte × Nat} (h : a ≠ o + x.2) :
    Tbl.look 0 (stageByte o t x) a = Tbl.look 0 t a := by
  unfold stageByte
  split
  · exact Tbl.look_put_ne _ _ _ _ h
  · rfl

/-- Bytes that go elsewhere leave a place of the staging area. -/
theorem look_stage_outside {o a : Nat} {l : List (Byte × Nat)} {t : Tbl Byte} (h : ∀ x ∈ l, a ≠ o + x.2) :
    Tbl.look 0 (l.foldl (stageByte o) t) a = Tbl.look 0 t a := by
  induction l generalizing t with
  | nil => rfl
  | cons x l ih => exact (ih fun y hy => h y (List.mem_cons_of_mem _ hy)).trans (look_stageByte_ne (h x (List.mem_cons_self ..)))

/-- Each of the bytes reaches its place, where no two go to the same. -/
theorem look_stage_mem {o : Nat} {l : List (Byte × Nat)} {t : Tbl Byte} (hdistinct : l.Pairwise fun x y => x.2 ≠ y.2)
    (hfit : ∀ x ∈ l, o + x.2 < maxImage) {x : Byte × Nat} (hx : x ∈ l) : Tbl.look 0 (l.foldl (stageByte o) t) (o + x.2) = x.1 := by
  induction l generalizing t with
  | nil => cases hx
  | cons y l ih =>
    obtain ⟨hfirst, hrest⟩ := List.pairwise_cons.mp hdistinct
    rcases List.mem_cons.mp hx with rfl | hin
    · have hput : Tbl.look 0 (stageByte o t x) (o + x.2) = x.1 := by
        rw [stageByte, if_pos (hfit x (List.mem_cons_self ..))]
        exact Tbl.look_put_same ..
      refine (look_stage_outside (l := l) (t := stageByte o t x) fun z hz => ?_).trans hput
      have := hfirst z hz
      omega
    · exact ih hrest (fun z hz => hfit z (List.mem_cons_of_mem _ hz)) hin

theorem zip_upTo_distinct (b : List Byte) : (b.zip (upTo b.length)).Pairwise fun x y => x.2 ≠ y.2 := by
  have hsnd : (b.zip (upTo b.length)).map Prod.snd = upTo b.length := List.map_snd_zip (by simp [upTo])
  have hnodup : ((b.zip (upTo b.length)).map Prod.snd).Nodup := by rw [hsnd]; exact List.nodup_range
  exact List.pairwise_map.mp hnodup

theorem mem_zip_upTo {b : List Byte} {k : Nat} (hk : k < b.length) : (b.getD k 0, k) ∈ b.zip (upTo b.length) := by
  refine List.mem_iff_getElem.mpr ⟨k, by simp [upTo, hk], ?_⟩
  simp [upTo, hk]

theorem lt_of_mem_zip_upTo {b : List Byte} {x : Byte × Nat} (h : x ∈ b.zip (upTo b.length)) : x.2 < b.length :=
  List.mem_range.mp (List.of_mem_zip h).2

theorem State.bar2Write_kickOff {s : State} {o : Nat} (b : List Byte) (hheld : s.power.held = false) (hkick : s.device = stKickOff)
    (hdram : s.load.dram = true) : (s.bar2Write o b).load.staging = (b.zip (upTo b.length)).foldl (stageByte o) s.load.staging := by
  simp only [State.bar2Write, hheld, hkick, hdram, ne_eq, not_true_eq_false, decide_false, Bool.false_or, Bool.not_true, Bool.false_eq_true,
    if_false, State.modLoad_load]
  rfl

theorem State.bar2Write_ignored {s : State} (o : Nat) (b : List Byte) (h : s.device ≠ stKickOff) : s.bar2Write o b = s := by
  simp [State.bar2Write, h]

/-! ### The link -/

theorem State.flushMsix_link (s : State) : s.flushMsix.host.linkUp = s.host.linkUp ∧ s.flushMsix.host.msixEnable = s.host.msixEnable ∧
    s.flushMsix.host.funcMask = s.host.funcMask := by
  have hsetup : s.flushMsix.hostSetup = s.hostSetup := by
    unfold State.flushMsix
    split
    · rfl
    · exact State.each_keeps State.hostSetup (fun u v => by
        split
        · exact State.sendVector_hostSetup ..
        · rfl) s
  simpa only [State.hostSetup, Prod.mk.injEq] using congrArg Prod.snd hsetup

theorem State.elapse_device (s : State) (t : Nat) : (s.elapse t).device = s.device :=
  s.elapse_rd t Reg.POWER_STATE.STATE 0 0 (by decide +kernel)

/-- Settles O10: the reads that hold words, the event registers, BAR2 area by area, and the link. -/
theorem splitReadsStagingAndLinkChanges : Obligations.SplitReadsStagingAndLinkChanges := by
  refine ⟨?_, ?_, ?_, ?_, ?_, ?_, ?_, ?_, ?_, ?_, ?_⟩
  case refine_1 =>
    intro s a t hreach hlow
    have hread : (s.elapse t).splitRead a = (s.elapse t).latchWord (a + 4) ((s.elapse t).wordNow (a + 4)) := by
      simp only [State.splitRead, hreach, hlow, Bool.and_self, if_true]
    have hhold : ((s.elapse t).splitRead a).settle.hold = Tbl.put 0 s.hold (a + 4) ((s.elapse t).wordNow (a + 4) + 1) := by
      rw [State.settle_hold, hread, State.latchWord, State.elapse_hold]
    refine ⟨_, rfl, ?_, fun b hb => ?_, ?_⟩
    · exact hhold ▸ Tbl.look_put_same ..
    · exact hhold ▸ Tbl.look_put_ne _ _ _ _ hb
    · exact State.elapse_op_settle_effect (State.splitRead_effect ..) (by decide) (by decide)
  case refine_2 =>
    intro s a w hreach hheld
    rw [State.hostRead_held hreach hheld]
    exact ⟨rfl, Tbl.look_put_same 0 s.hold a 0⟩
  case refine_3 =>
    intro s a v i j f r hreg hsource hreach
    have hsome : (eventSourceAt a).isSome = true := by
      simpa only [eventSourceAt, hreg, Option.isSome_iff_ne_none] using hsource
    have hirq : f.addr ≠ Reg.HOST_IRQ_PENDING.SOURCE.addr := fun h => hsource (h ▸ eventSource_irqPending i)
    have hexec := congrArg done ((if_pos hsome).trans
      (State.hostWrite_plain hreg hreach (actingWrite_of_eventSource s (v % 4294967296) hsource)) : (if _ then _ else s) = _)
    refine ⟨_, hexec, ?_, fun g hg hacc hdom => ?_⟩
    · exact (State.settle_time _).trans (((State.afterWrite_moves ..).same .time (by decide)).trans
        ((State.regWrite_effect ..).same .time (by decide)))
    · rw [State.rd_plainWrite _ hreg hirq hg, Field.written_w1c hacc hdom]
  case refine_4 =>
    intro s k
    refine ⟨_, rfl, ?_⟩
    rw [State.settle_hold]
    obtain ⟨hlo, hhi, hinfo⟩ := State.histRead_hold s k.val
    refine ⟨hlo, hhi, hinfo, ?_⟩
    exact ((State.histRead_effect s _).widen (by decide +kernel)).step (State.settle_effect _) (by decide +kernel)
  case refine_5 =>
    intro s a v hnone
    have hexec : exec (.eventRegisterWrite a v) s = .next s.settle := congrArg done (if_neg (by simp [hnone]))
    exact ⟨_, hexec, State.settle_effect s⟩
  case refine_6 =>
    intro s o n hheld hrun hdram ho
    refine ⟨_, State.bar2Read_run hheld hrun hdram ho, by simp [upTo], fun i hi => ?_⟩
    have hbyte : ((upTo n).map fun i => s.runByte (o + i)).getD i 0 = s.runByte (o + i) := by simp [upTo, hi]
    rw [hbyte, State.runByte]
    refine ⟨fun h => if_pos h, fun h1 h2 => ?_, fun h => ?_⟩
    · rw [if_neg (by omega), if_pos h2]
    · rw [if_neg (by omega), if_neg (by omega)]
  case refine_7 => exact fun s a ha => if_pos ha
  case refine_8 =>
    intro s o n hheld hrun hdram ho hn hend
    refine mapM_eq_none (a := 0x1000000 - o) (List.mem_range.mpr (by omega)) ?_
    exact State.bar2Byte_run_noDram hheld hrun hdram (by omega) (by omega)
  case refine_9 =>
    intro s o t b hheld hkick hdram hfit
    have hstaged := State.bar2Write_kickOff (s := s.elapse t) (o := o) b (by rwa [State.elapse_power])
      (by rwa [State.elapse_device]) (by rwa [State.elapse_load])
    refine ⟨_, rfl, fun k hk => ?_, fun k hk => ?_, ?_⟩
    · rw [State.settle_load, hstaged]
      refine look_stage_mem (x := (b.getD k 0, k)) (zip_upTo_distinct b) (fun x hx => ?_) (mem_zip_upTo hk)
      have := lt_of_mem_zip_upTo hx
      omega
    · rw [State.settle_load, hstaged, State.elapse_load]
      refine look_stage_outside fun x hx => ?_
      have := lt_of_mem_zip_upTo hx
      omega
    · exact State.elapse_op_settle_effect (State.bar2Write_effect ..) (by decide) (by decide)
  case refine_10 =>
    intro s o t b hdevice
    refine ⟨_, rfl, ?_⟩
    rw [State.settle_load, State.bar2Write_ignored o b (by rwa [State.elapse_device]), State.elapse_load]
  case refine_11 =>
    intro s up en mask t hheld
    have hchange : (s.elapse t).linkChange up en mask =
        { s.elapse t with host := { (s.elapse t).host with linkUp := up, msixEnable := en, funcMask := mask } }.flushMsix :=
      if_neg (by simp [hheld])
    have hsettle := congrArg Prod.snd ((s.elapse t).linkChange up en mask).settle_hostSetup
    simp only [State.hostSetup, Prod.mk.injEq] at hsettle
    obtain ⟨hup, hen, hmask⟩ := hsettle
    refine ⟨_, rfl, ?_, ?_, ?_, ?_⟩
    · rw [hup, hchange, (State.flushMsix_link _).1]
    · rw [hen, hchange, (State.flushMsix_link _).2.1]
    · rw [hmask, hchange, (State.flushMsix_link _).2.2]
    · exact State.elapse_op_settle_effect (State.linkChange_effect ..) (by decide) (by decide)

end Sys2Proof.Machine
end

section
namespace Sys2Proof.Machine

set_option Elab.async false

/-! ### Power-on reset -/

/-- With empty register stores and no completion to post no interrupt source is pending (R344). -/
theorem State.sourcePending_of_empty {s : State} (hregs : s.regs = []) (hkeep : s.keep = []) (hcpl : s.host.cplPending = false) (k : Nat) :
    s.sourcePending k = false := by
  have hev : ∀ ev en, s.evPending ev en = false := fun ev en => by simp [State.evPending, hregs, wordAt]
  have hkev : ∀ ev en, s.evPendingKeep ev en = false := fun ev en => by simp [State.evPendingKeep, hkeep, wordAt]
  unfold State.sourcePending State.irqLane State.irqSlice State.irqEng State.irqDrive State.irqCan State.irqBb
  split <;> simp [hev, hkev, hcpl]

/-- The interrupt sources settle without a trace in the stores where none is pending and none was. -/
theorem State.settle_stores {s : State} (hregs : s.regs = []) (hkeep : s.keep = []) (hcpl : s.host.cplPending = false) :
    s.settle.regs = [] ∧ s.settle.keep = [] := by
  have hnow : (upTo 20).foldl (fun w k => if s.sourcePending k then setBit w k else w) 0 = 0 := by
    simp [State.sourcePending_of_empty hregs hkeep hcpl, upTo]
  have hquiet : ∀ l : List Nat, ∀ old, (s.each l fun s k => if hasBit 0 k && !hasBit old k then s.sendSource k else s) = s := by
    intro l old
    simp [State.each, hasBit, bitOf]
  unfold State.settle
  simp only [hnow, hquiet]
  simp [State.wr, Field.has, Reg.HOST_IRQ_PENDING.SOURCE, hregs, hkeep]
  rfl

/-- What a POR leaves of the registers: every field reads its reset value (R378). -/
theorem State.rd_supplyPor_settle (s : State) (porN : Bool) (f : Field) (i j : Nat) : (s.supplyPor porN).settle.rd f i j = f.reset i := by
  obtain ⟨hregs, hkeep⟩ := State.settle_stores (s := s.supplyPor porN) rfl rfl rfl
  exact State.rd_of_empty hregs hkeep f i j

/-- A POR restores all but fuses and silicon (R378, Table 18-3). -/
theorem supplyPor_restores (s : State) (t : Nat) (b : Bool) :
    ∃ n, exec (.supplyPor t b) s = .next n ∧ (∀ f i j, n.rd f i j = f.reset i) ∧ n.power.supplied = false ∧ n.power.held = true ∧
      n.power.resetSrc = b01 b ∧ n.journal = State.reset.journal ∧ n.canQueues = [] ∧ n.fuses = s.fuses ∧ n.silicon = s.silicon ∧
      n.faults = State.reset.faults ∧ n.referee = State.reset.referee ∧ n.images = [] ∧
      n.time.ns = (s.elapse t).time.ns := by
  refine ⟨_, rfl, State.rd_supplyPor_settle _ b, ?_⟩
  let u := (s.elapse t).supplyPor b
  have hpower : u.settle.power = u.power := u.settle_power
  exact ⟨congrArg PowerSt.supplied hpower, congrArg PowerSt.held hpower, congrArg PowerSt.resetSrc hpower, u.settle_journal,
    u.settle_canQueues, u.settle_fuses.trans (s.elapse_fuses t), u.settle_silicon.trans (s.elapse_silicon t), u.settle_faults,
    u.settle_referee, u.settle_images, by rw [State.settle_time]; rfl⟩

/-! ### The collector before a reset -/

theorem State.when_keeps {β : Type} (p : State → β) {c : Bool} {f : State → State} (h : ∀ u, p (f u) = p u) (s : State) :
    p (s.when c f) = p s := by
  unfold State.when
  split
  · exact h s
  · rfl

theorem State.setRole_resetLowSince (s : State) (p r : Nat) : (s.setRole p r).power.resetLowSince = s.power.resetLowSince := by
  unfold State.setRole
  extract_lets s1 on s2 s3 s4 s5
  have h1 : s1.power = s.power := State.when_keeps (·.power) (fun u => State.wr_power ..) s
  have h3 : s3.power = s.power := by simp only [s3, s2, State.wr_power, h1]
  have h4 : s4.power = s3.power := State.each_keeps (·.power) (fun u j => by
    refine (State.when_keeps (·.power) (fun u => ?_) _).trans (by simp only [State.wr_power])
    rfl) s3
  have h5 : s5.power = s4.power := State.when_keeps (·.power) (fun u => (State.showExports_effect ..).same .power (by decide)) s4
  have hpower : s5.power = s.power := h5.trans (h4.trans h3)
  split
  · rw [hpower]
  · simp only [State.wrBit, State.wr_power]
    exact congrArg PowerSt.resetLowSince hpower

theorem State.lose_resetLowSince (s : State) : s.lose.power.resetLowSince = s.power.resetLowSince := by
  unfold State.lose
  split
  · rfl
  · extract_lets s1 s2 s3
    have h1 : s1.power.resetLowSince = s.power.resetLowSince := State.each_keeps (·.power.resetLowSince) (fun u p => by
      split
      · rfl
      · exact State.setRole_resetLowSince u p _) s
    have h2 : ((s3.raise 56 s3.holder).blockAll 2).power = s3.power :=
      ((State.blockAll_effect ..).same .power (by decide)).trans ((State.raise_effect ..).same .power (by decide))
    rw [h2]
    simp only [s3, s2, State.wr_power, State.modRef]
    exact h1

theorem State.fatalState_resetLowSince (s : State) : s.fatalState.power.resetLowSince = s.power.resetLowSince := by
  unfold State.fatalState
  extract_lets s1 s2 s3
  have h3 : s3.power = s.power := by simp only [s3, s2, s1, State.modRef, State.modFaults, State.wr_power]
  split
  · rw [h3]
  · rw [State.lose_resetLowSince, h3]

theorem State.collect_resetLowSince (s : State) (e : FaultEvt) : (s.collect e).power.resetLowSince = s.power.resetLowSince := by
  unfold State.collect
  extract_lets s1
  have h1 : s1.power = s.power :=
    ((State.history_effect ..).same .power (by decide)).trans ((State.faultCount_effect ..).same .power (by decide))
  split
  · rw [h1]
  · rw [(State.contained_effect s1).same .power (by decide), h1]
  · rw [State.fatalState_resetLowSince, (State.firstFatal_effect s1 e).same .power (by decide), h1]

/-- The collector leaves RESET_N as it is, whatever events wait. -/
theorem State.collectAll_resetLowSince (s : State) (n : Nat) : (s.collectAll n).power.resetLowSince = s.power.resetLowSince := by
  induction n generalizing s with
  | zero => rfl
  | succ n ih =>
    have hnext : s.collectNext.power.resetLowSince = s.power.resetLowSince := by
      unfold State.collectNext
      split
      · rfl
      · exact State.collect_resetLowSince ..
    exact (ih s.collectNext).trans hnext

theorem State.collectAll_none {s : State} (h : s.faults.waiting = []) (n : Nat) : s.collectAll n = s := by
  induction n with
  | zero => rfl
  | succ n ih =>
    have hnext : s.collectNext = s := by simp only [State.collectNext, h]
    simp only [State.collectAll, hnext, ih]

/-! ### The assertion of a DEV reset -/

theorem State.lastExecutions_none {s : State} (h : s.tickInCycle = false) : s.lastExecutions = s := by
  unfold State.lastExecutions
  exact if_neg (Bool.not_eq_true _ ▸ h)

/-- What comes first at the assertion of a DEV reset: events reach the collector, the CAN queues are judged (R333), and the stop is
announced to SAFE_B (R301). -/
def State.parting (s : State) (announce : Bool) (eof : Nat) : State :=
  ((s.collectAll (2 * s.faults.waiting.length + 4)).each (upTo 4) fun s n => s.canReset n (hasBit eof n)).when announce (·.announceStop)

/-- What a DEV reset takes and keeps of a state (R14, R222, R302, R378). -/
structure Wiped (s u : State) : Prop where
  regs : u.regs = []
  keep : u.keep = s.keep
  power : u.power = s.power.afterReset
  journal : u.journal = s.journal.afterReset
  half0 : u.referee.half0 = s.referee.half0
  half1 : u.referee.half1 = s.referee.half1
  fuses : u.fuses = s.fuses
  silicon : u.silicon = s.silicon
  images : u.images = s.images
  diag : u.safety.b.diag = 0

/-- What stands in the registers at once after the wipe: FAULT_N and ALIVE, a thermal shutdown (R367), and SAFE_B (R301). -/
def State.heldOutputs (s : State) : State :=
  (s.holdOutputs.when (s.holdOutputs.on Reg.THERMAL_STATUS.SHUT_LATCH) (·.wr Reg.FAULT_STATE.FATAL 1)).showSafe

/-- A DEV reset is the parting, the wipe and the outputs, in this order. -/
theorem State.devReset_stages (s : State) (announce : Bool) (eof : Nat) :
    ∃ u, Wiped (s.parting announce eof) u ∧ s.devReset announce eof = u.heldOutputs := by
  unfold State.devReset
  extract_lets collected judged announced kept1 kept2 kept3 kept4 kept5 wiped held
  exact ⟨wiped, ⟨rfl, rfl, rfl, rfl, rfl, rfl, rfl, rfl, rfl, rfl⟩, rfl⟩

end Sys2Proof.Machine
end

section
namespace Sys2Proof.Machine

set_option Elab.async false

/-- A state whose DEV registers are wiped reads their reset values (R14). -/
theorem State.rd_dev_of_empty {s : State} (hregs : s.regs = []) {f : Field} (hdom : f.dom = .dev) {i j : Nat} : s.rd f i j = f.reset i := by
  simp [State.rd, hdom, hregs, Tbl.look]

/-- What only POR restores is read from the keep registers. -/
theorem State.rd_por_of_keep {s t : State} (hkeep : t.keep = s.keep) {f : Field} (hdom : f.dom = .por) {i j : Nat} :
    t.rd f i j = s.rd f i j := by
  simp only [State.rd, hdom, hkeep]

/-! ### What stands in the registers after the wipe -/

/-- The register fields that a DEV reset itself sets, beside what it restores. -/
def movesHeld : List Field :=
  [Reg.FAULT_STATE.FAULT_N, Reg.FAULT_STATE.ALIVE_RUN, Reg.FAULT_STATE.FATAL] ++ State.showSafe_fields.getD []

/-- The register fields that move as kick-off begins after a DEV reset, and as its command ends. -/
def movesKickOff : List Field :=
  [Reg.RESET_CAUSE.CAUSE, Reg.RESET_CAUSE.COUNT, Reg.POWER_STATE.STATE, Reg.POWER_STATE.WAKE_TRIES]
    ++ State.kickFrom2_fields.getD [] ++ movesIrq

/-- The register fields that move at the parting, beside those of the events that reach the collector. -/
def movesParting : List Field := Reg.CAN_TXQ.FILL :: State.announceStop_fields.getD []

/-- No field that software can write and DEV restores is among those set after the wipe. -/
theorem Reg.table_written_apart : ∀ r ∈ Reg.table, ∀ f ∈ r, f.dom = .dev → f.acc ≠ .ro →
    ((movesHeld ++ movesKickOff).all fun g => f.apart g) = true := by
  decide +kernel

/-- What only POR restores stays but for these (R370). -/
theorem Reg.table_por_apart : ∀ r ∈ Reg.table, ∀ f ∈ r, f.dom = .por →
    f ∉ [Reg.RESET_CAUSE.CAUSE, Reg.RESET_CAUSE.COUNT, Reg.RESET_CAUSE.FATAL_BEFORE, Reg.CAN_TXQ.FILL, Reg.POWER_STATE.STATE,
      Reg.POWER_STATE.WAKE_TRIES] →
    ((Reg.RESET_CAUSE.FATAL_BEFORE :: (movesTime ++ movesParting ++ movesHeld ++ movesKickOff)).all fun g => f.apart g) = true := by
  decide +kernel

theorem State.heldOutputs_effect (u : State) : Effect [] (some movesHeld) u u.heldOutputs := by
  refine Effect.after (State.showSafe_effect ..) (by decide +kernel) ?_
  exact Effect.when ((State.holdOutputs_effect u).widen (by decide +kernel)) fun v => (State.wr_effect ..).widen (by decide +kernel)

theorem State.parting_effect (s : State) (announce : Bool) (eof : Nat) :
    Effect [.canQueues, .safety] (some movesParting) (s.collectAll (2 * s.faults.waiting.length + 4)) (s.parting announce eof) := by
  refine Effect.when ?_ fun u => (State.announceStop_effect u).widen (by decide +kernel)
  exact (Effect.refl ..).each fun u n => (State.canReset_effect ..).widen (by decide +kernel)

/-- FAULT_N and ALIVE after the wipe, and the fatal state, which only a thermal shutdown keeps (R367, R368). -/
theorem State.heldOutputs_faultState {u : State} (hregs : u.regs = []) :
    u.heldOutputs.rd Reg.FAULT_STATE.FAULT_N = 0 ∧ u.heldOutputs.rd Reg.FAULT_STATE.ALIVE_RUN = 0 ∧
      u.heldOutputs.rd Reg.FAULT_STATE.FATAL = b01 (u.on Reg.THERMAL_STATUS.SHUT_LATCH) := by
  have hshown : ∀ f ∈ [Reg.FAULT_STATE.FAULT_N, Reg.FAULT_STATE.ALIVE_RUN, Reg.FAULT_STATE.FATAL], ∀ v : State,
      v.showSafe.rd f = v.rd f := fun f hf v => (State.showSafe_effect v).rd f 0 0 (by revert f; decide +kernel)
  have hlatch : u.holdOutputs.on Reg.THERMAL_STATUS.SHUT_LATCH = u.on Reg.THERMAL_STATUS.SHUT_LATCH := by
    simp only [State.on, (State.holdOutputs_effect u).rd Reg.THERMAL_STATUS.SHUT_LATCH 0 0 (by decide +kernel)]
  have hfaultN : u.holdOutputs.rd Reg.FAULT_STATE.FAULT_N = 0 :=
    (State.rd_wr_apart _ _ _ _ _ _ (by decide +kernel)).trans (State.rd_wr_same _ _ _ _ _ rfl (by decide))
  have halive : u.holdOutputs.rd Reg.FAULT_STATE.ALIVE_RUN = 0 := State.rd_wr_same _ _ _ _ _ rfl (by decide)
  have hfatal : u.holdOutputs.rd Reg.FAULT_STATE.FATAL = 0 := by
    rw [(State.holdOutputs_effect u).rd Reg.FAULT_STATE.FATAL 0 0 (by decide +kernel)]
    exact State.rd_dev_of_empty hregs rfl
  unfold State.heldOutputs
  simp only [hshown _ (List.mem_cons_self ..), hshown Reg.FAULT_STATE.ALIVE_RUN (by simp), hshown Reg.FAULT_STATE.FATAL (by simp), hlatch]
  cases u.on Reg.THERMAL_STATUS.SHUT_LATCH
  · exact ⟨hfaultN, halive, hfatal⟩
  · have hothers : ∀ f, f.apart Reg.FAULT_STATE.FATAL = true → (u.holdOutputs.wr Reg.FAULT_STATE.FATAL 1).rd f = u.holdOutputs.rd f :=
      fun f hf => State.rd_wr_apart _ _ _ _ _ _ hf
    exact ⟨(hothers _ (by decide +kernel)).trans hfaultN, (hothers _ (by decide +kernel)).trans halive,
      State.rd_wr_same _ _ _ _ _ rfl (by decide)⟩

/-! ### Kick-off from step 2 -/

theorem State.kickStep2_latches (s : State) : s.kickStep2.power.held = s.power.held ∧ s.kickStep2.power.bridge = s.power.bridge := by
  unfold State.kickStep2
  split
  · split
    · simp only [State.dormantPowered, State.modPower, State.wr_power, and_self]
    · exact ⟨rfl, rfl⟩
  · exact ⟨rfl, rfl⟩

/-- Where RESET_N is low kick-off waits at step 2 (R370). -/
theorem State.kickFrom2_power {s : State} (h : s.power.resetLowSince.isNone = false) : s.kickFrom2.power = { s.power with step := 2 } := by
  have hpower : (s.modPower fun p => { p with step := 2 }).showPgood.power = { s.power with step := 2 } := State.wr_power ..
  unfold State.kickFrom2 State.kickStep2
  rw [if_neg (by rw [hpower, h]; simp), hpower]

theorem State.kickFrom2_latches (s : State) : s.kickFrom2.power.held = s.power.held ∧ s.kickFrom2.power.bridge = s.power.bridge := by
  have hpower : (s.modPower fun p => { p with step := 2 }).showPgood.power = { s.power with step := 2 } := State.wr_power ..
  obtain ⟨hheld, hbridge⟩ := State.kickStep2_latches (s.modPower fun p => { p with step := 2 }).showPgood
  rw [hpower] at hheld hbridge
  exact ⟨hheld, hbridge⟩

/-- While a DEV reset is held no interrupt is signalled on IRQ_N (R344). -/
theorem State.settle_irqN_of_held {s : State} (h : s.power.held = true) : s.settle.host.irqN = false := by
  have hsettled : s.settle.host.irqN = (s.settle.host.irqN && !s.settle.power.held) := by
    unfold State.settle
    simp
  rw [hsettled, State.settle_power, h, Bool.not_true, Bool.and_false]

/-- The device waits in KICK-OFF at step 2, its tries to wake forgotten (R65, R370, R371). -/
def State.kickOff (s : State) : State := ((s.wr Reg.POWER_STATE.STATE stKickOff).wr Reg.POWER_STATE.WAKE_TRIES 0).kickFrom2

end Sys2Proof.Machine
end

section
namespace Sys2Proof.Machine

set_option Elab.async false

/-! ### The commands that assert a DEV reset -/

/-- A DEV reset that begins in `a` wipes it to `u`, and its command ends in `n`. -/
structure Asserted (a : State) (eof : Nat) (u n : State) : Prop where
  wiped : Wiped (a.resetBegins.parting true eof) u
  after : Effect [.power, .host, .out] (some movesKickOff) u.heldOutputs n
  held : n.power.held = true
  bridge : n.power.bridge = false
  irqN : n.host.irqN = false

/-- Asserted by operations on the latches of the reset alone. -/
theorem Asserted.of_latches {a u m : State} {eof : Nat} (hwiped : Wiped (a.resetBegins.parting true eof) u)
    (hafter : Effect [.power] (some movesKickOff) u.heldOutputs m)
    (hlatches : m.power.held = u.heldOutputs.power.held ∧ m.power.bridge = u.heldOutputs.power.bridge) :
    Asserted a eof u m.settle := by
  have hpower : u.heldOutputs.power = (a.resetBegins.parting true eof).power.afterReset :=
    ((State.heldOutputs_effect u).same .power (by decide)).trans hwiped.power
  have hheld : m.power.held = true := by rw [hlatches.1, hpower]; rfl
  have hbridge : m.power.bridge = false := by rw [hlatches.2, hpower]; rfl
  exact ⟨hwiped, Effect.after (State.settle_effect m) (by decide +kernel) (hafter.widen (by decide +kernel)),
    by rw [State.settle_power, hheld], by rw [State.settle_power, hbridge], State.settle_irqN_of_held hheld⟩

theorem State.kickOff_effect (s : State) : Effect [.power] (some movesKickOff) s s.kickOff := by
  refine Effect.after (State.kickFrom2_effect ..) (by decide +kernel) ?_
  refine Effect.after (State.wr_effect ..) (by decide +kernel) ?_
  exact (State.wr_effect ..).widen (by decide +kernel)

theorem State.kickOff_latches (s : State) : s.kickOff.power.held = s.power.held ∧ s.kickOff.power.bridge = s.power.bridge := by
  obtain ⟨hheld, hbridge⟩ := State.kickFrom2_latches ((s.wr Reg.POWER_STATE.STATE stKickOff).wr Reg.POWER_STATE.WAKE_TRIES 0)
  simp only [State.wr_power] at hheld hbridge
  exact ⟨hheld, hbridge⟩

/-- POWER_STATE shows KICK-OFF with no try to wake counted. -/
theorem State.kickOff_state (s : State) : s.kickOff.device = stKickOff ∧ s.kickOff.rd Reg.POWER_STATE.WAKE_TRIES = 0 := by
  have hkick : ∀ f ∈ [Reg.POWER_STATE.STATE, Reg.POWER_STATE.WAKE_TRIES], ∀ v : State, v.kickFrom2.rd f = v.rd f :=
    fun f hf v => (State.kickFrom2_effect v).rd f 0 0 (by revert f; decide +kernel)
  refine ⟨(hkick _ (by simp) _).trans ?_, (hkick _ (by simp) _).trans (State.rd_wr_same _ _ _ _ _ rfl (by decide))⟩
  exact (State.rd_wr_apart _ _ _ _ _ _ (by decide +kernel)).trans (State.rd_wr_same _ _ _ _ _ rfl (by decide))

/-- The state in which RESET_N asserts its DEV reset: the instant is noted, and a wake that failed forgotten (R370, R389). -/
def State.resetNLow (s : State) (t : Nat) : State :=
  (s.elapse t).modPower fun p => { p with resetLowSince := some (s.elapse t).time.ns, wakeFailed := false }

theorem State.resetNLow_effect (s : State) (t : Nat) : Effect [.power] (some []) (s.elapse t) (s.resetNLow t) := State.modPower_effect ..

end Sys2Proof.Machine
end

section
namespace Sys2Proof.Machine

set_option Elab.async false

/-! ### What an asserted DEV reset restores -/

theorem Asserted.rd_held {a u n : State} {e : Nat} (h : Asserted a e u n) {f : Field} (hf : (movesKickOff.all fun g => f.apart g) = true)
    {i j : Nat} : n.rd f i j = u.heldOutputs.rd f i j := h.after.rd f i j hf

/-- A field that DEV restores and nothing sets after the wipe reads its reset value. -/
theorem Asserted.rd_dev {a u n : State} {e : Nat} (h : Asserted a e u n) {f : Field} (hdom : f.dom = .dev)
    (hf : ((movesHeld ++ movesKickOff).all fun g => f.apart g) = true) (i j : Nat) : n.rd f i j = f.reset i := by
  rw [List.all_append, Bool.and_eq_true] at hf
  obtain ⟨hheld, hkick⟩ := hf
  rw [h.rd_held hkick, (State.heldOutputs_effect u).rd f i j hheld, State.rd_dev_of_empty h.wiped.regs hdom]

/-- What is at its reset value once a DEV reset is asserted (R14, R302, R368). -/
theorem Asserted.restores {a u n : State} {e : Nat} (h : Asserted a e u n) :
    (∀ r ∈ Reg.table, ∀ f ∈ r, f.dom = .dev → f.acc ≠ .ro → ∀ i j, n.rd f i j = f.reset i) ∧
      n.rd Reg.FAULT_STATE.FAULT_N = 0 ∧ n.rd Reg.FAULT_STATE.ALIVE_RUN = 0 ∧ n.rd Reg.FAULT_STATE.CONTAINED = 0 ∧
      n.rd Reg.REF_STATUS.STATE = rsSetup ∧ n.power.held = true ∧ n.power.bridge = false ∧ n.safety.b.diag = 0 ∧ n.host.irqN = false := by
  obtain ⟨hfaultN, halive, -⟩ := State.heldOutputs_faultState h.wiped.regs
  have hsafety : n.safety = u.safety := (h.after.same .safety (by decide)).trans ((State.heldOutputs_effect u).same .safety (by decide))
  exact ⟨fun r hr f hf hdom hacc => h.rd_dev hdom (Reg.table_written_apart r hr f hf hdom hacc),
    (h.rd_held (by decide +kernel)).trans hfaultN, (h.rd_held (by decide +kernel)).trans halive, h.rd_dev rfl (by decide +kernel) 0 0,
    h.rd_dev rfl (by decide +kernel) 0 0, h.held, h.bridge, by rw [hsafety, h.wiped.diag], h.irqN⟩

/-! ### What an asserted DEV reset keeps -/

/-- Where no tick's executions and no events come first, the reset begins with the record of the fatal state alone. -/
theorem State.resetBegins_quiet {a : State} (htick : a.tickInCycle = false) (hwait : a.faults.waiting = []) :
    a.resetBegins = a.wr Reg.RESET_CAUSE.FATAL_BEFORE (a.rd Reg.FAULT_STATE.FATAL) := by
  unfold State.resetBegins
  simp only [State.lastExecutions_none htick, State.collectAll_none hwait]

theorem State.parting_quiet_effect {a : State} (htick : a.tickInCycle = false) (hwait : a.faults.waiting = []) (eof : Nat) :
    Effect [.canQueues, .safety] (some movesParting) a.resetBegins (a.resetBegins.parting true eof) := by
  have hwaits : a.resetBegins.faults.waiting = [] := by rw [State.resetBegins_quiet htick hwait, State.wr_faults, hwait]
  have h := State.parting_effect a.resetBegins true eof
  rwa [State.collectAll_none hwaits] at h

/-- What a field that only POR restores reads, where nothing but the parting and kick-off could set it. -/
theorem Asserted.rd_por {a u n : State} {e : Nat} (h : Asserted a e u n) (htick : a.tickInCycle = false) (hwait : a.faults.waiting = [])
    {f : Field} (hdom : f.dom = .por) (hf : ((movesParting ++ movesHeld ++ movesKickOff).all fun g => f.apart g) = true) (i j : Nat) :
    n.rd f i j = a.resetBegins.rd f i j := by
  simp only [List.all_append, Bool.and_eq_true] at hf
  obtain ⟨⟨hpart, hheld⟩, hkick⟩ := hf
  rw [h.rd_held hkick, (State.heldOutputs_effect u).rd f i j hheld, State.rd_por_of_keep h.wiped.keep hdom,
    (State.parting_quiet_effect htick hwait e).rd f i j hpart]

/-- What stays over a DEV reset that nothing else comes before, and what it records (R14, R221, R222, R302, R367). -/
theorem Asserted.keeps {a u n : State} {e : Nat} (h : Asserted a e u n) (htick : a.tickInCycle = false) (hwait : a.faults.waiting = []) :
    (∀ r ∈ Reg.table, ∀ f ∈ r, f.dom = .por → f ∉ [Reg.RESET_CAUSE.CAUSE, Reg.RESET_CAUSE.COUNT, Reg.RESET_CAUSE.FATAL_BEFORE,
        Reg.CAN_TXQ.FILL, Reg.POWER_STATE.STATE, Reg.POWER_STATE.WAKE_TRIES] → ∀ i j, n.rd f i j = a.rd f i j) ∧
      n.rd Reg.RESET_CAUSE.FATAL_BEFORE = a.rd Reg.FAULT_STATE.FATAL % 2 ∧
      n.rd Reg.FAULT_STATE.FATAL = b01 (a.on Reg.THERMAL_STATUS.SHUT_LATCH) ∧ n.journal = a.journal.afterReset ∧
      n.referee.half0 = a.referee.half0 ∧ n.referee.half1 = a.referee.half1 ∧ n.fuses = a.fuses ∧ n.silicon = a.silicon ∧
      n.images = a.images := by
  have hbegins := State.resetBegins_quiet htick hwait
  have hpart := State.parting_quiet_effect htick hwait e
  have hbegun : a.resetBegins.rd Reg.RESET_CAUSE.FATAL_BEFORE = a.rd Reg.FAULT_STATE.FATAL % 2 := by
    rw [hbegins]; exact State.rd_wr_same _ _ _ _ _ rfl (by decide)
  have hlatch : u.on Reg.THERMAL_STATUS.SHUT_LATCH = a.on Reg.THERMAL_STATUS.SHUT_LATCH := by
    have hrd : u.rd Reg.THERMAL_STATUS.SHUT_LATCH = a.rd Reg.THERMAL_STATUS.SHUT_LATCH := by
      rw [State.rd_por_of_keep h.wiped.keep rfl, hpart.rd _ 0 0 (by decide +kernel), hbegins,
        State.rd_wr_apart _ _ _ _ _ _ (by decide +kernel)]
    simp only [State.on, hrd]
  have hfirst : Effect [.canQueues, .safety] none a (a.resetBegins.parting true e) := by
    refine Effect.after hpart (by decide +kernel) ?_
    rw [hbegins]
    exact (State.wr_effect ..).widen (by decide +kernel)
  have hlast : Effect [.power, .host, .out] none u n :=
    Effect.after h.after (by decide +kernel) ((State.heldOutputs_effect u).widen (by decide +kernel))
  have hreferee : n.referee = u.referee := hlast.same .referee (by decide)
  have hreferee' : (a.resetBegins.parting true e).referee = a.referee := hfirst.same .referee (by decide)
  have hjournal : (a.resetBegins.parting true e).journal = a.journal := hfirst.same .journal (by decide)
  refine ⟨fun r hr f hf hdom hL i j => ?_, ?_, ?_, ?_, ?_, ?_, ?_, ?_, ?_⟩
  · have hapart := Reg.table_por_apart r hr f hf hdom hL
    simp only [List.all_cons, List.all_append, Bool.and_eq_true] at hapart
    obtain ⟨hbefore, ⟨⟨-, hparting⟩, hheld⟩, hkick⟩ := hapart
    rw [h.rd_por htick hwait hdom (by simp only [List.all_append, hparting, hheld, hkick, Bool.and_self]), hbegins,
      State.rd_wr_apart _ _ _ _ _ _ hbefore]
  · exact (h.rd_por htick hwait rfl (by decide +kernel) 0 0).trans hbegun
  · rw [← hlatch, ← (State.heldOutputs_faultState h.wiped.regs).2.2]
    exact h.rd_held (by decide +kernel)
  · rw [hlast.same .journal (by decide), h.wiped.journal, hjournal]
  · rw [hreferee, h.wiped.half0, hreferee']
  · rw [hreferee, h.wiped.half1, hreferee']
  · exact (hlast.same .fuses (by decide)).trans (h.wiped.fuses.trans (hfirst.same .fuses (by decide)))
  · exact (hlast.same .silicon (by decide)).trans (h.wiped.silicon.trans (hfirst.same .silicon (by decide)))
  · exact (hlast.same .images (by decide)).trans (h.wiped.images.trans (hfirst.same .images (by decide)))

end Sys2Proof.Machine
end

section
namespace Sys2Proof.Machine

set_option Elab.async false

/-! ### RESET_N and the soft reset -/

/-- The register fields that move as a DEV reset begins, where no executions of a tick come first. -/
def movesBegin : List Field := Reg.RESET_CAUSE.FATAL_BEFORE :: State.collectAll_fields.getD []

theorem State.resetBegins_noTick_effect {a : State} (htick : a.tickInCycle = false) :
    Effect State.collectAll_touch (some movesBegin) a a.resetBegins := by
  unfold State.resetBegins
  simp only [State.lastExecutions_none htick]
  exact Effect.after (State.wr_effect ..) (by decide +kernel) ((State.collectAll_effect a _).widen (by decide +kernel))

/-- A field that only POR restores, over a DEV reset before which the collector may still take events. -/
theorem State.rd_devReset_por {a : State} (htick : a.tickInCycle = false) {f : Field} (hdom : f.dom = .por)
    (hf : ((movesBegin ++ State.collectAll_fields.getD [] ++ movesParting ++ movesHeld).all fun g => f.apart g) = true) (eof i j : Nat) :
    (a.resetBegins.devReset true eof).rd f i j = a.rd f i j := by
  simp only [List.all_append, Bool.and_eq_true] at hf
  obtain ⟨⟨⟨hbegin, hcollect⟩, hpart⟩, hheld⟩ := hf
  obtain ⟨u, hwiped, hu⟩ := State.devReset_stages a.resetBegins true eof
  rw [hu, (State.heldOutputs_effect u).rd f i j hheld, State.rd_por_of_keep hwiped.keep hdom, (State.parting_effect ..).rd f i j hpart,
    Effect.rd (State.collectAll_effect ..) f i j hcollect, (State.resetBegins_noTick_effect htick).rd f i j hbegin]

/-- A RESET_N low for 1 µs while the keep domain has its supply: in KEEP-ONLY with no wake under way the device stays there (R370). -/
theorem State.resetNAssert_stages {s : State} (hs : s.power.supplied = true) (t eof : Nat) :
    (s.elapse t).resetNAssert eof =
      if (decide ((s.resetNLow t).device = stKeepOnly) && decide ((s.resetNLow t).power.step = 0)) = true then
        (s.resetNLow t).resetBegins.devReset true eof
      else
        ((((s.resetNLow t).resetBegins.devReset true eof).when
          (decide (((s.resetNLow t).resetBegins.devReset true eof).device ≠ stKeepOnly)) (·.wr Reg.POWER_STATE.STATE stKickOff)).wr
          Reg.POWER_STATE.WAKE_TRIES 0).kickFrom2 := by
  have hsupplied : (!(s.resetNLow t).power.supplied) = false := by
    rw [Bool.not_eq_false']
    exact (congrArg PowerSt.supplied (s.elapse_power t)).trans hs
  exact if_neg (Bool.eq_false_iff.mp hsupplied)

theorem resetNAssert_asserted (s : State) (t : Nat) (e : Fin 16) (hs : s.power.supplied = true) :
    ∃ u n, exec (.resetNAssert t e) s = .next n ∧ Asserted (s.resetNLow t) e.val u n := by
  obtain ⟨u, hwiped, hu⟩ := State.devReset_stages (s.resetNLow t).resetBegins true e.val
  refine ⟨u, ((s.elapse t).resetNAssert e.val).settle, rfl, ?_⟩
  rw [State.resetNAssert_stages hs, hu]
  split
  · exact Asserted.of_latches hwiped (Effect.refl ..) ⟨rfl, rfl⟩
  · refine Asserted.of_latches hwiped (Effect.after (State.kickFrom2_effect _) (by decide +kernel) ?_) ?_
    · refine Effect.after (State.wr_effect ..) (by decide +kernel) (Effect.when (Effect.refl ..) fun v => ?_)
      exact (State.wr_effect ..).widen (by decide +kernel)
    · have hpower := State.when_keeps (·.power) (fun v => State.wr_power v Reg.POWER_STATE.STATE stKickOff 0 0) u.heldOutputs
        (c := decide (u.heldOutputs.device ≠ stKeepOnly))
      have hlatches := State.kickFrom2_latches ((u.heldOutputs.when (decide (u.heldOutputs.device ≠ stKeepOnly))
        (·.wr Reg.POWER_STATE.STATE stKickOff)).wr Reg.POWER_STATE.WAKE_TRIES 0)
      rw [State.wr_power, hpower] at hlatches
      exact hlatches

theorem State.rd_elapse (s : State) (t : Nat) {f : Field} (hf : (movesTime.all fun g => f.apart g) = true) (i j : Nat) :
    (s.elapse t).rd f i j = s.rd f i j :=
  s.elapse_rd t f i j (by simpa [movesTime, Bool.and_comm] using hf)

theorem State.resetNLow_rd (s : State) (t : Nat) {f : Field} (hf : (movesTime.all fun g => f.apart g) = true) (i j : Nat) :
    (s.resetNLow t).rd f i j = s.rd f i j := s.rd_elapse t hf i j

/-- Outside KEEP-ONLY the device goes to KICK-OFF (R370). -/
theorem resetNAssert_kickOff {s : State} (t : Nat) (e : Fin 16) (hs : s.power.supplied = true) (hdevice : s.device ≠ stKeepOnly)
    (htick : (s.elapse t).tickInCycle = false) :
    exec (.resetNAssert t e) s = .next ((s.resetNLow t).resetBegins.devReset true e.val).kickOff.settle := by
  have hlow : (s.resetNLow t).device = s.device := s.resetNLow_rd t (by decide +kernel) 0 0
  have hafter : ((s.resetNLow t).resetBegins.devReset true e.val).device = s.device :=
    (State.rd_devReset_por (a := s.resetNLow t) htick rfl (by decide +kernel) e.val 0 0).trans hlow
  refine congrArg done ?_
  rw [State.resetNAssert_stages hs, hlow, hafter]
  simp only [hdevice, decide_false, Bool.false_and, Bool.false_eq_true, if_false, ne_eq, not_false_eq_true, decide_true]
  rfl

/-- The command of FAULT_SOFT_RESET with GO and its key (R371). -/
theorem softReset_asserted (s : State) (t : Nat) (e : Fin 16) (hheld : s.power.held = false) :
    ∃ u, exec (.softReset 0x5D0F0001 t e) s = .next (((s.elapse t).resetBegins.devReset true e.val).resetLatched 3).kickOff.settle ∧
      Asserted (s.elapse t) e.val u (((s.elapse t).resetBegins.devReset true e.val).resetLatched 3).kickOff.settle := by
  obtain ⟨u, hwiped, hu⟩ := State.devReset_stages (s.elapse t).resetBegins true e.val
  have hgo : (!(hasBit 0x5D0F0001 0 && bitsOf 0x5D0F0001 16 16 == 0x5D0F) || (s.elapse t).power.held) = false := by
    rw [State.elapse_power, hheld]; decide
  refine ⟨u, ?_, ?_⟩
  · have hstep : (s.elapse t).softReset 0x5D0F0001 e.val = (((s.elapse t).resetBegins.devReset true e.val).resetLatched 3).kickOff :=
      if_neg (Bool.eq_false_iff.mp hgo)
    exact congrArg done hstep
  · rw [hu]
    have hlatched : (u.heldOutputs.resetLatched 3).power = u.heldOutputs.power := (State.resetLatched_effect ..).same .power (by decide)
    refine Asserted.of_latches hwiped (Effect.after (State.kickOff_effect _) (Effect.fits_refl ..) ?_) ?_
    · exact (State.resetLatched_effect ..).widen (by decide +kernel)
    · rw [← hlatched]
      exact State.kickOff_latches _

/-- The two commands that assert a DEV reset, each with the state in which it begins. -/
theorem resetCommand_asserted {s : State} {t : Nat} {e : Fin 16} {c : Instr}
    (h : (c = .resetNAssert t e ∧ s.power.supplied = true) ∨ (c = .softReset 0x5D0F0001 t e ∧ s.power.held = false)) :
    ∃ a u n, exec c s = .next n ∧ Asserted a e.val u n ∧ Effect [.power] (some []) (s.elapse t) a := by
  rcases h with ⟨rfl, hs⟩ | ⟨rfl, hheld⟩
  · obtain ⟨u, n, hexec, hn⟩ := resetNAssert_asserted s t e hs
    exact ⟨_, u, n, hexec, hn, s.resetNLow_effect t⟩
  · obtain ⟨u, hexec, hn⟩ := softReset_asserted s t e hheld
    exact ⟨_, u, _, hexec, hn, Effect.refl ..⟩

/-- Kick-off has begun at the end of a command: its registers say so. -/
theorem State.kickOff_settle_state (s : State) :
    s.kickOff.settle.device = stKickOff ∧ s.kickOff.settle.rd Reg.POWER_STATE.WAKE_TRIES = 0 :=
  ⟨(State.settle_rd _ _ 0 0 (by decide +kernel)).trans s.kickOff_state.1,
    (State.settle_rd _ _ 0 0 (by decide +kernel)).trans s.kickOff_state.2⟩

theorem resetCommand_kickOff {s : State} {t : Nat} {e : Fin 16} {c : Instr} (hheld : s.power.held = false) (hdevice : s.device ≠ stKeepOnly)
    (htick : (s.elapse t).tickInCycle = false)
    (h : (c = .resetNAssert t e ∧ s.power.supplied = true) ∨ c = .softReset 0x5D0F0001 t e) :
    ∃ a u n, exec c s = .next n ∧ Asserted a e.val u n ∧ Effect [.power] (some []) (s.elapse t) a ∧ a.tickInCycle = false ∧
      n.device = stKickOff ∧ n.rd Reg.POWER_STATE.WAKE_TRIES = 0 := by
  rcases h with ⟨rfl, hs⟩ | rfl
  · obtain ⟨u, n, hexec, hn⟩ := resetNAssert_asserted s t e hs
    have hkick := resetNAssert_kickOff t e hs hdevice htick
    obtain rfl : n = _ := Host.Outcome.next.inj (hexec.symm.trans hkick)
    exact ⟨_, u, _, hkick, hn, s.resetNLow_effect t, htick, State.kickOff_settle_state _⟩
  · obtain ⟨u, hexec, hn⟩ := softReset_asserted s t e hheld
    exact ⟨_, u, _, hexec, hn, Effect.refl .., htick, State.kickOff_settle_state _⟩

theorem PowerSt.afterReset_resetLowSince (p : PowerSt) : p.afterReset.resetLowSince = p.resetLowSince := rfl

/-- The instant of RESET_N's fall is kept over its own reset. -/
theorem State.devReset_resetLowSince {a : State} (htick : a.tickInCycle = false) (eof : Nat) :
    (a.resetBegins.devReset true eof).power.resetLowSince = a.power.resetLowSince := by
  obtain ⟨u, hwiped, hu⟩ := State.devReset_stages a.resetBegins true eof
  have hbegun : a.resetBegins.power.resetLowSince = a.power.resetLowSince := by
    unfold State.resetBegins
    simp only [State.lastExecutions_none htick, State.wr_power, State.collectAll_resetLowSince]
  have hpart : (a.resetBegins.parting true eof).power = (a.resetBegins.collectAll _).power :=
    (State.parting_effect a.resetBegins true eof).same .power (by decide)
  have hheld : u.heldOutputs.power = u.power := (State.heldOutputs_effect u).same .power (by decide)
  rw [hu, hheld, hwiped.power, PowerSt.afterReset_resetLowSince, hpart, State.collectAll_resetLowSince, hbegun]

theorem resetNAssert_waits (s : State) (t : Nat) (e : Fin 16) (hs : s.power.supplied = true) (hdevice : s.device ≠ stKeepOnly)
    (htick : (s.elapse t).tickInCycle = false) :
    ∃ n, exec (.resetNAssert t e) s = .next n ∧ n.power.step = 2 ∧ n.power.resetLowSince = some (s.elapse t).time.ns := by
  have hlow : ((s.resetNLow t).resetBegins.devReset true e.val).power.resetLowSince = some (s.elapse t).time.ns := by
    rw [State.devReset_resetLowSince (a := s.resetNLow t) htick]
    rfl
  have hkick : ((s.resetNLow t).resetBegins.devReset true e.val).kickOff.power =
      { ((s.resetNLow t).resetBegins.devReset true e.val).power with step := 2 } := by
    refine (State.kickFrom2_power ?_).trans (by simp only [State.wr_power])
    simp only [State.wr_power, hlow, Option.isNone_some]
  refine ⟨_, resetNAssert_kickOff t e hs hdevice htick, ?_, ?_⟩
  · rw [State.settle_power, hkick]
  · rw [State.settle_power, hkick]
    simp only [hlow]

/-- The register fields of kick-off without the latches of the reset's cause. -/
def movesWake : List Field := [Reg.POWER_STATE.STATE, Reg.POWER_STATE.WAKE_TRIES] ++ State.kickFrom2_fields.getD []

theorem State.kickOff_wake_effect (s : State) : Effect [.power] (some movesWake) s s.kickOff := by
  refine Effect.after (State.kickFrom2_effect ..) (by decide +kernel) ?_
  refine Effect.after (State.wr_effect ..) (by decide +kernel) ?_
  exact (State.wr_effect ..).widen (by decide +kernel)

/-- A counter that stops at its largest value, in a field of its width (R15). -/
theorem satAdd_mod (w c : Nat) : satAdd (2 ^ w - 1) c 1 % 2 ^ w = min (2 ^ w - 1) (c + 1) := by
  have hpos : 0 < 2 ^ w := Nat.two_pow_pos w
  unfold satAdd
  split
  · exact (Nat.mod_eq_of_lt (by omega)).trans (by omega)
  · exact (Nat.mod_eq_of_lt (by omega)).trans (by omega)

/-- The cause and the number of a soft reset (R371). -/
theorem softReset_recorded (s : State) (t : Nat) (e : Fin 16) (hheld : s.power.held = false) (htick : (s.elapse t).tickInCycle = false) :
    ∃ n, exec (.softReset 0x5D0F0001 t e) s = .next n ∧ n.rd Reg.RESET_CAUSE.CAUSE = 3 ∧
      n.rd Reg.RESET_CAUSE.COUNT = min 65535 (s.rd Reg.RESET_CAUSE.COUNT + 1) := by
  obtain ⟨u, hexec, -⟩ := softReset_asserted s t e hheld
  let m := (s.elapse t).resetBegins.devReset true e.val
  have hend : ∀ f ∈ [Reg.RESET_CAUSE.CAUSE, Reg.RESET_CAUSE.COUNT], (m.resetLatched 3).kickOff.settle.rd f = (m.resetLatched 3).rd f := by
    intro f hf
    have hends : f.apart Reg.HOST_IRQ_PENDING.SOURCE = true ∧ (movesWake.all fun g => f.apart g) = true := by
      revert f; decide +kernel
    rw [State.settle_rd _ f 0 0 hends.1, (State.kickOff_wake_effect _).rd f 0 0 hends.2]
  have hcount : m.rd Reg.RESET_CAUSE.COUNT = s.rd Reg.RESET_CAUSE.COUNT :=
    (State.rd_devReset_por htick rfl (by decide +kernel) e.val 0 0).trans (s.rd_elapse t (by decide +kernel) 0 0)
  refine ⟨_, hexec, (hend _ (by simp)).trans ?_, (hend _ (by simp)).trans ?_⟩
  · have hother : (m.resetLatched 3).rd Reg.RESET_CAUSE.CAUSE = (m.wr Reg.RESET_CAUSE.CAUSE 3).rd Reg.RESET_CAUSE.CAUSE :=
      (State.bump_effect _ Reg.RESET_CAUSE.COUNT 1 0 0).rd _ 0 0 (by decide +kernel)
    exact hother.trans (State.rd_wr_same _ _ _ _ _ rfl (by decide))
  · have hother : (m.wr Reg.RESET_CAUSE.CAUSE 3).rd Reg.RESET_CAUSE.COUNT = s.rd Reg.RESET_CAUSE.COUNT :=
      (State.rd_wr_apart m 3 0 0 0 0 (by decide +kernel)).trans hcount
    refine (State.rd_wr_same (m.wr Reg.RESET_CAUSE.CAUSE 3) Reg.RESET_CAUSE.COUNT _ 0 0 rfl (by decide)).trans ?_
    rw [hother]
    exact satAdd_mod 16 _

/-- Settles O54: a DEV reset is a parting, a wipe and what is set after it; which fields each of them moves says what is restored and what
stays. -/
theorem resetsRestoreWhatTheyName : Obligations.ResetsRestoreWhatTheyName := by
  refine ⟨supplyPor_restores, fun s t e c h => ?_, fun s t e c hheld hwait hdevice htick h => ?_,
    fun s t e hs _ hdevice htick => resetNAssert_waits s t e hs hdevice htick,
    fun s t e hheld htick => softReset_recorded s t e hheld htick, fun s v t e h => ?_⟩
  · obtain ⟨a, u, n, hexec, hn, -⟩ := resetCommand_asserted h
    exact ⟨n, hexec, hn.restores⟩
  · obtain ⟨a, u, n, hexec, hn, ha, hatick, hstate, htries⟩ := resetCommand_kickOff hheld hdevice htick h
    obtain ⟨hpor, hbefore, hfatal, hjournal, hhalf0, hhalf1, hfuses, hsilicon, himages⟩ :=
      hn.keeps hatick ((congrArg FaultSt.waiting ((ha.same .faults (by decide)).trans (s.elapse_faults t))).trans hwait)
    have hrd : ∀ f i j, (movesTime.all fun g => f.apart g) = true → a.rd f i j = s.rd f i j := fun f i j hf =>
      (ha.rd f i j rfl).trans (s.rd_elapse t hf i j)
    have hsame : a.journal = s.journal ∧ a.referee = s.referee ∧ a.fuses = s.fuses ∧ a.silicon = s.silicon ∧ a.images = s.images :=
      ⟨(ha.same .journal (by decide)).trans (s.elapse_journal t), (ha.same .referee (by decide)).trans (s.elapse_referee t),
        (ha.same .fuses (by decide)).trans (s.elapse_fuses t), (ha.same .silicon (by decide)).trans (s.elapse_silicon t),
        (ha.same .images (by decide)).trans (s.elapse_images t)⟩
    obtain ⟨hj, hr, hf, hsi, him⟩ := hsame
    refine ⟨n, hexec, fun r hr f hf hdom hL i j => (hpor r hr f hf hdom hL i j).trans (hrd f i j ?_), ?_, ?_, hstate, htries,
      hj ▸ hjournal, hr ▸ hhalf0, hr ▸ hhalf1, hf ▸ hfuses, hsi ▸ hsilicon, him ▸ himages⟩
    · have hapart := Reg.table_por_apart r hr f hf hdom hL
      simp only [List.all_cons, List.all_append, Bool.and_eq_true] at hapart
      exact hapart.2.1.1.1
    · rw [hbefore, hrd _ 0 0 (by decide +kernel)]
    · rw [hfatal, State.on, State.on, hrd _ 0 0 (by decide +kernel)]
  · have hrefused : (s.elapse t).softReset v e.val = s.elapse t := by
      refine if_pos ?_
      rcases h with hgo | hkey
      · simp [hgo]
      · simp [hkey]
    exact ⟨_, congrArg done hrefused, State.elapse_settle_effect s t⟩

end Sys2Proof.Machine
end
section
namespace Sys2Proof.Machine

set_option Elab.async false

/-! ### What the operations on gates keep -/

theorem State.rd_wr_otherLeg (s : State) (f : Field) (v a : Nat) {j b : Nat} (h : j ≠ b) (p : 0 < f.s2) :
    (s.wr f v a b).rd f a j = s.rd f a j := by
  refine State.rd_wr_ne s f f v fun _ _ e => h ?_
  unfold Field.key Field.at at e
  have : f.s2 * b = f.s2 * j := by omega
  exact (Nat.eq_of_mul_eq_mul_left p this).symm

theorem Effect.drv {A : List Part} {R : Option (List Field)} {s t : State} (k : Effect A R s t) (u : Nat)
    (hA : Part.drives ∉ A := by decide) : t.drv u = s.drv u :=
  congrArg (Tbl.look default · u) (k.same .drives hA)

theorem Effect.leg {A : List Part} {R : Option (List Field)} {s t : State} (k : Effect A R s t) (u x : Nat)
    (hA : Part.drives ∉ A := by decide) : t.leg u x = s.leg u x :=
  congrArg (fun d : DrvSt => Tbl.look default d.legs x) (k.drv u hA)

theorem State.modLeg_leg (s : State) (u x : Nat) (f : LegSt → LegSt) (y : Nat) :
    (s.modLeg u x f).leg u y = if y = x then f (s.leg u x) else s.leg u y := by
  simp only [State.leg, State.modLeg, State.modDrv_same, Tbl.look_put]

/-- What the operations on gates leave of a drive unit: all but its legs and the end of a probe. -/
def DrvSt.unit (d : DrvSt) : DrvSt := { d with legs := [], probeEnd := none }

theorem State.modLeg_unit (s : State) (u x : Nat) (f : LegSt → LegSt) : ((s.modLeg u x f).drv u).unit = (s.drv u).unit := by
  simp only [State.modLeg, State.modDrv_same, DrvSt.unit]

/-- `t` follows from `s` by operations that leave unit `u` but for its gates: a leg that waits for an input edge waits on where no edge is
taken. -/
structure UnitStep (u : Nat) (s t : State) : Prop where
  unit : (t.drv u).unit = (s.drv u).unit
  enable : t.on Reg.DRV_STATUS.ENABLE u = s.on Reg.DRV_STATUS.ENABLE u
  link : t.on Reg.DRV_STATUS.LINK u = s.on Reg.DRV_STATUS.LINK u
  waits : s.edgeTaken u = false → ∀ x, (s.leg u x).waitEdge = true → (t.leg u x).waitEdge = true

namespace UnitStep
variable {u : Nat} {s t v : State}

theorem act (h : UnitStep u s t) : (t.drv u).act = (s.drv u).act := (congrArg DrvSt.act h.unit :)
theorem vdrv (h : UnitStep u s t) : (t.drv u).vdrv = (s.drv u).vdrv := (congrArg DrvSt.vdrv h.unit :)
theorem latched (h : UnitStep u s t) : (t.drv u).latched = (s.drv u).latched := (congrArg DrvSt.latched h.unit :)
theorem inputs (h : UnitStep u s t) : (t.drv u).inputs = (s.drv u).inputs := (congrArg DrvSt.inputs h.unit :)
theorem otLatch (h : UnitStep u s t) : (t.drv u).otLatch = (s.drv u).otLatch := (congrArg DrvSt.otLatch h.unit :)

theorem edgeTaken (h : UnitStep u s t) : t.edgeTaken u = s.edgeTaken u := by simp only [State.edgeTaken, h.enable, h.vdrv]

/-- What holds every gate of the unit off goes on to do so. -/
theorem unitHeld (h : UnitStep u s t) : t.unitHeld u = s.unitHeld u := by
  simp only [State.unitHeld, h.enable, h.link, h.vdrv, h.latched, h.otLatch]

theorem refl (u : Nat) (s : State) : UnitStep u s s := ⟨rfl, rfl, rfl, fun _ _ => id⟩

theorem trans (h : UnitStep u s t) (k : UnitStep u t v) : UnitStep u s v :=
  ⟨k.unit.trans h.unit, k.enable.trans h.enable, k.link.trans h.link,
    fun hedge x hx => k.waits (h.edgeTaken.trans hedge) x (h.waits hedge x hx)⟩

theorem ite {c : Prop} [Decidable c] (h : UnitStep u s t) (k : UnitStep u s v) : UnitStep u s (if c then t else v) := by
  split <;> assumption

theorem when {c : Bool} {f : State → State} (h : UnitStep u s t) (k : ∀ v, UnitStep u v (f v)) : UnitStep u s (t.when c f) := by
  unfold State.when
  exact ite (h.trans (k t)) h

theorem each {α : Type} {l : List α} {f : State → α → State} (h : UnitStep u s t) (k : ∀ v a, UnitStep u v (f v a)) :
    UnitStep u s (t.each l f) := by
  unfold State.each
  induction l generalizing t with
  | nil => exact h
  | cons a l ih => exact ih (h.trans (k t a))

/-- An operation that leaves the drive units, and of their status LINK and ENABLE. -/
theorem op {A : List Part} {F : List Field} (h : UnitStep u s t) (k : Effect A (some F) t v) (hA : Part.drives ∉ A := by decide)
    (hF : (F.all fun g => Reg.DRV_STATUS.ENABLE.apart g && Reg.DRV_STATUS.LINK.apart g) = true := by decide +kernel) : UnitStep u s v := by
  simp only [List.all_eq_true, Bool.and_eq_true] at hF
  have henable := k.rd Reg.DRV_STATUS.ENABLE u 0 (List.all_eq_true.mpr fun g hg => (hF g hg).1)
  have hlink := k.rd Reg.DRV_STATUS.LINK u 0 (List.all_eq_true.mpr fun g hg => (hF g hg).2)
  refine h.trans ⟨congrArg DrvSt.unit (k.drv u hA), congrArg (· != 0) henable, congrArg (· != 0) hlink, fun _ x hx => ?_⟩
  rwa [k.leg u x hA]

theorem modLeg {x : Nat} {f : LegSt → LegSt} (h : UnitStep u s t) (hf : ∀ l, l.waitEdge = true → (f l).waitEdge = true) :
    UnitStep u s (t.modLeg u x f) := by
  refine h.trans ⟨State.modLeg_unit .., rfl, rfl, fun _ y hy => ?_⟩
  rw [State.modLeg_leg]
  split
  · rename_i hyx; exact hf _ (hyx ▸ hy)
  · exact hy

theorem modDrv {f : DrvSt → DrvSt} (h : UnitStep u s t) (hunit : ∀ d, (f d).unit = d.unit) (hlegs : ∀ d, (f d).legs = d.legs) :
    UnitStep u s (t.modDrv u f) := by
  refine h.trans ⟨?_, rfl, rfl, fun _ y hy => ?_⟩
  · rw [State.modDrv_same, hunit]
  · rwa [State.leg, State.modDrv_same, hlegs]

theorem driveLeg {x : Nat} {soft : Bool} {start : Nat} (h : UnitStep u s t) : UnitStep u s (t.driveLeg u x soft start) := by
  unfold State.driveLeg
  extract_lets
  refine op ?_ (State.wr_effect ..)
  exact modLeg h fun _ => id

theorem driveUnit (h : UnitStep u s t) : UnitStep u s (t.driveUnit u) := each h fun v _ => driveLeg (refl u v)

theorem showLegFaults (h : UnitStep u s t) : UnitStep u s (t.showLegFaults u) :=
  h.op (State.showLegFaults_effect t u)

theorem showActive (h : UnitStep u s t) : UnitStep u s (t.showActive u) :=
  h.op (State.showActive_effect t u)

theorem clearLegFaults {x : Nat} (h : UnitStep u s t) : UnitStep u s (t.clearLegFaults u x) := by
  unfold State.clearLegFaults
  extract_lets
  refine ite h ?_
  exact showLegFaults (modLeg h fun _ => id)

/-- The edge that ends a leg's wait comes only where it is taken. -/
theorem restart {x : Nat} (h : UnitStep u s t) :
    UnitStep u s (t.when (t.edgeTaken u) (·.modLeg u x fun l => { l with waitEdge := false })) := by
  refine h.trans ?_
  unfold State.when
  split
  · rename_i hedge
    exact ⟨State.modLeg_unit .., rfl, rfl, fun hno => absurd hedge (by rw [hno]; decide)⟩
  · exact refl u t

theorem inputEdge {x start : Nat} (h : UnitStep u s t) : UnitStep u s (t.inputEdge u x start) := by
  unfold State.inputEdge
  extract_lets
  refine ite h ?_
  refine driveLeg (modLeg ?_ fun _ => id)
  exact restart (clearLegFaults h)

theorem sendEdges {x : Nat} (h : UnitStep u s t) : UnitStep u s (t.sendEdges u x) := by
  unfold State.sendEdges
  extract_lets
  refine ite h ?_
  refine inputEdge (modLeg h fun _ => id)

theorem command {x : Nat} {hs ls : Bool} (h : UnitStep u s t) : UnitStep u s (t.command u x hs ls) := by
  unfold State.command
  extract_lets
  exact sendEdges (modLeg h fun _ => id)

theorem drvDue (h : UnitStep u s t) : UnitStep u s (t.drvDue u) := by
  unfold State.drvDue
  extract_lets due
  refine each (t := due) ?_ fun v x => sendEdges (refl u v)
  unfold due
  split
  · refine ite ?_ h
    exact each (modDrv h (fun _ => rfl) fun _ => rfl) fun v x => command (refl u v)
  · exact h

theorem motGates (h : UnitStep u s t) : UnitStep u s (t.motGates u) := by
  unfold State.motGates
  extract_lets
  refine showActive (driveUnit (when h fun v => ?_))
  exact each (modDrv (refl u v) (fun _ => rfl) fun _ => rfl) fun w x => command (refl u w)

theorem waitEdges (h : UnitStep u s t) : UnitStep u s (t.waitEdges u) := each h fun v _ => modLeg (refl u v) fun _ _ => rfl

end UnitStep

end Sys2Proof.Machine
end
section
namespace Sys2Proof.Machine

set_option Elab.async false

/-! ### What holds gates off -/

/-- What each step of a loop brings about for its element, and no later step takes away, holds of all elements at the end; `I` is kept. -/
theorem State.each_forall {α : Type} {I : State → Prop} {P : α → State → Prop} {f : State → α → State} {l : List α} {s : State}
    (h : I s) (hI : ∀ v, I v → ∀ a ∈ l, I (f v a)) (hP : ∀ v, I v → ∀ a ∈ l, P a (f v a))
    (hkeep : ∀ v, I v → ∀ a ∈ l, ∀ b, a ≠ b → P b v → P b (f v a)) : I (s.each l f) ∧ ∀ a ∈ l, P a (s.each l f) := by
  have later : ∀ (m : List α) (v : State), (∀ a ∈ m, a ∈ l) → I v → I (v.each m f) ∧ (∀ b ∈ l, P b v → P b (v.each m f)) ∧
      ∀ a ∈ m, P a (v.each m f) := by
    intro m
    induction m with
    | nil => exact fun v _ hv => ⟨hv, fun _ _ => id, fun a ha => absurd ha List.not_mem_nil⟩
    | cons a m ih =>
      intro v hm hv
      have ha : a ∈ l := hm a (List.mem_cons_self ..)
      obtain ⟨hend, hstay, hall⟩ := ih (f v a) (fun b hb => hm b (List.mem_cons_of_mem _ hb)) (hI v hv a ha)
      refine ⟨hend, fun b hb hbv => hstay b hb ?_, fun b hb => ?_⟩
      · by_cases hab : a = b
        · exact hab ▸ hP v hv a ha
        · exact hkeep v hv a ha b hab hbv
      · rcases List.mem_cons.mp hb with rfl | hb
        · exact hstay b ha (hP v hv b ha)
        · exact hall b hb
  obtain ⟨hend, -, hall⟩ := later l s (fun _ => id) h
  exact ⟨hend, hall⟩

theorem mem_upTo {n x : Nat} : x ∈ upTo n ↔ x < n := List.mem_range

theorem GateSt.drive_false_on (g : GateSt) (soft : Bool) (start now fall src snk softCode : Nat) :
    (g.drive false soft start now fall src snk softCode).on = false := by
  cases hon : g.on <;> simp [GateSt.drive, hon]

/-- Both outputs of a leg are off. -/
def LegSt.off (l : LegSt) : Prop := l.hs.on = false ∧ l.ls.on = false

/-- What decides over the gates of a leg, beside the unit: its commands and what holds it off. -/
def LegSt.hold (l : LegSt) : LegSt := { l with hs := default, ls := default }

theorem LegSt.hold_waitEdge (l : LegSt) : l.hold.waitEdge = l.waitEdge := rfl

theorem State.driveLeg_other (s : State) {u x y : Nat} (soft : Bool) (start : Nat) (h : y ≠ x) :
    (s.driveLeg u x soft start).leg u y = s.leg u y := by
  unfold State.driveLeg
  extract_lets
  simp only [State.leg, State.drv, State.wr_drives]
  exact (State.modLeg_leg ..).trans (if_neg h)

theorem State.driveLeg_hold (s : State) (u x : Nat) (soft : Bool) (start y : Nat) :
    ((s.driveLeg u x soft start).leg u y).hold = (s.leg u y).hold := by
  by_cases h : y = x
  · subst h
    unfold State.driveLeg
    extract_lets
    simp only [State.leg, State.drv, State.wr_drives]
    refine (congrArg LegSt.hold (State.modLeg_leg ..)).trans ?_
    rw [if_pos rfl]
    rfl
  · rw [State.driveLeg_other s soft start h]

theorem State.legHeld_congr {s t : State} {u x : Nat} (hunit : t.unitHeld u = s.unitHeld u) (hleg : (t.leg u x).hold = (s.leg u x).hold) :
    t.legHeld u x = s.legHeld u x := by
  have h : ∀ v : State, v.legHeld u x = (v.unitHeld u || (v.leg u x).hold.tripped || (v.leg u x).hold.interlock || (v.leg u x).hold.waitEdge
      || ((v.leg u x).hold.hsSent && (v.leg u x).hold.lsSent)) := fun _ => rfl
  rw [h t, h s, hunit, hleg]

/-- A leg whose gates have no reason to be on: held off, or without a command. -/
def State.legSilent (s : State) (u x : Nat) : Prop :=
  s.legHeld u x = true ∨ (s.leg u x).hsSent = false ∧ (s.leg u x).lsSent = false

theorem State.legHeld_of_unitHeld {s : State} {u : Nat} (h : s.unitHeld u = true) (x : Nat) : s.legHeld u x = true := by
  simp [State.legHeld, h]

theorem State.legHeld_of_waitEdge {s : State} {u x : Nat} (h : (s.leg u x).waitEdge = true) : s.legHeld u x = true := by
  simp [State.legHeld, h]

theorem State.driveLeg_off {s : State} {u x : Nat} (soft : Bool) (start : Nat) (h : s.legSilent u x) :
    ((s.driveLeg u x soft start).leg u x).off := by
  unfold State.driveLeg
  extract_lets held
  simp only [State.leg, State.drv, State.wr_drives]
  refine Eq.mpr (congrArg LegSt.off ((State.modLeg_leg ..).trans (if_pos rfl))) ?_
  have hwant : ((s.leg u x).hsSent && !held && !(s.leg u x).vbUv) = false ∧ ((s.leg u x).lsSent && !held) = false := by
    rcases h with hheld | ⟨hhs, hls⟩
    · simp [held, hheld]
    · simp [hhs, hls]
  constructor
  · simp only [hwant.1, GateSt.drive_false_on]
  · simp only [hwant.2, GateSt.drive_false_on]

theorem State.driveLeg_gatesOff {s : State} {u x : Nat} (soft : Bool) (start : Nat) (hu : u < 4) (hx : x < 4) :
    (s.driveLeg u x soft start).rd Reg.DRV_LEG_STATUS.GATES_OFF u x = b01 (s.legHeld u x) := by
  have hhas : Reg.DRV_LEG_STATUS.GATES_OFF.has u x = true := by simp [Field.has, Reg.DRV_LEG_STATUS.GATES_OFF, hu, hx]
  refine (State.rd_wr_same _ _ _ _ _ hhas (by decide)).trans ?_
  cases s.legHeld u x <;> rfl

theorem State.driveLeg_gatesOff_other {s : State} {u x y : Nat} (soft : Bool) (start : Nat) (h : y ≠ x) :
    (s.driveLeg u x soft start).rd Reg.DRV_LEG_STATUS.GATES_OFF u y = s.rd Reg.DRV_LEG_STATUS.GATES_OFF u y :=
  State.rd_wr_otherLeg _ _ _ _ h (by decide)

/-- A drive of all legs shows which are held off, and turns off the gates of those that are silent. -/
theorem State.driveUnit_legs (s : State) {u : Nat} (hu : u < 4) :
    ∀ x, x < 4 → (s.driveUnit u).rd Reg.DRV_LEG_STATUS.GATES_OFF u x = b01 (s.legHeld u x) ∧
      (s.legSilent u x → ((s.driveUnit u).leg u x).off) := by
  let I : State → Prop := fun v => v.unitHeld u = s.unitHeld u ∧ ∀ y, (v.leg u y).hold = (s.leg u y).hold
  have hheld : ∀ v, I v → ∀ x, v.legHeld u x = s.legHeld u x := fun v hv x => State.legHeld_congr hv.1 (hv.2 x)
  have hsilent : ∀ v, I v → ∀ x, s.legSilent u x → v.legSilent u x := by
    intro v hv x
    have hhs : (v.leg u x).hsSent = (s.leg u x).hsSent := (congrArg LegSt.hsSent (hv.2 x) :)
    have hls : (v.leg u x).lsSent = (s.leg u x).lsSent := (congrArg LegSt.lsSent (hv.2 x) :)
    simp only [State.legSilent, hheld v hv, hhs, hls]
    exact id
  have hall := (State.each_forall (I := I) (l := upTo 4) (f := fun s x => s.driveLeg u x false s.time.ns)
    (P := fun x v => v.rd Reg.DRV_LEG_STATUS.GATES_OFF u x = b01 (s.legHeld u x) ∧ (s.legSilent u x → (v.leg u x).off)) (s := s)
    ⟨rfl, fun _ => rfl⟩ (fun v hv x _ => ?inv) (fun v hv x hx => ?est) (fun v hv x _ y hxy hy => ?keep)).2
  · exact fun x hx => hall x (mem_upTo.mpr hx)
  case inv =>
    exact ⟨((UnitStep.refl u v).driveLeg).unitHeld.trans hv.1, fun y => (State.driveLeg_hold ..).trans (hv.2 y)⟩
  case est =>
    refine ⟨?_, fun h => State.driveLeg_off _ _ (hsilent v hv x h)⟩
    rw [State.driveLeg_gatesOff _ _ hu (mem_upTo.mp hx), hheld v hv]
  case keep =>
    rw [State.driveLeg_gatesOff_other _ _ (Ne.symm hxy), State.driveLeg_other _ _ _ (Ne.symm hxy)]
    exact hy

/-- Where every leg is held off, a drive of the unit turns all gates off and shows it. -/
theorem State.driveUnit_gatesOff {s : State} {u : Nat} (hu : u < 4) (h : ∀ x, x < 4 → s.legHeld u x = true) : gatesOff (s.driveUnit u) u := by
  intro x hx
  obtain ⟨hshown, hoff⟩ := s.driveUnit_legs hu x hx
  rw [h x hx] at hshown
  obtain ⟨hhs, hls⟩ := hoff (.inl (h x hx))
  exact ⟨hhs, hls, hshown⟩

/-- Operations on registers other than GATES_OFF, and on parts other than the drive units, leave the gates off. -/
theorem Effect.gatesOff {A : List Part} {F : List Field} {s t : State} {u : Nat} (k : Effect A (some F) s t) (h : gatesOff s u)
    (hA : Part.drives ∉ A := by decide) (hF : (F.all fun g => Reg.DRV_LEG_STATUS.GATES_OFF.apart g) = true := by decide +kernel) :
    gatesOff t u := by
  have hdrives : t.drives = s.drives := k.same .drives hA
  intro x hx
  obtain ⟨hhs, hls, hshown⟩ := h x hx
  refine ⟨?_, ?_, (k.rd _ u x hF).trans hshown⟩
  · simpa only [State.leg, State.drv, hdrives] using hhs
  · simpa only [State.leg, State.drv, hdrives] using hls

/-! ### The motor's gates -/

/-- The gates that follow a motor state are those that the last drive of the unit left. -/
theorem State.motGates_last (s : State) (u : Nat) : ∃ v, UnitStep u s v ∧ s.motGates u = (v.driveUnit u).showActive u := by
  unfold State.motGates
  extract_lets m v
  refine ⟨v, UnitStep.when (UnitStep.refl u s) fun w => ?_, rfl⟩
  exact UnitStep.each (UnitStep.modDrv (UnitStep.refl u w) (fun _ => rfl) fun _ => rfl) fun w x => UnitStep.command (UnitStep.refl u w)

theorem State.motGates_gatesOff {s : State} {u : Nat} (hu : u < 4) (h : s.unitHeld u = true) : gatesOff (s.motGates u) u := by
  obtain ⟨v, hv, hlast⟩ := s.motGates_last u
  have hheld : v.unitHeld u = true := hv.unitHeld.trans h
  rw [hlast]
  exact (State.showActive_effect ..).gatesOff (State.driveUnit_gatesOff hu fun x _ => State.legHeld_of_unitHeld hheld x)

end Sys2Proof.Machine
end
section
namespace Sys2Proof.Machine

set_option Elab.async false

/-! ### A motor state with all gates off -/

/-- The commands that the logic side sends a leg. -/
def LegSt.sent (l : LegSt) : Bool × Bool := (l.hsSent, l.lsSent)

theorem State.modLeg_sent {s : State} {u x : Nat} {f : LegSt → LegSt} (hf : ∀ l, (f l).sent = l.sent) (y : Nat) :
    ((s.modLeg u x f).leg u y).sent = (s.leg u y).sent := by
  rw [State.modLeg_leg]
  split
  · rename_i hyx; rw [hf, hyx]
  · rfl

theorem State.driveLeg_sent (s : State) (u x : Nat) (soft : Bool) (start y : Nat) :
    ((s.driveLeg u x soft start).leg u y).sent = (s.leg u y).sent :=
  (congrArg LegSt.sent (s.driveLeg_hold u x soft start y) :)

theorem State.clearLegFaults_sent (s : State) (u x y : Nat) : ((s.clearLegFaults u x).leg u y).sent = (s.leg u y).sent := by
  unfold State.clearLegFaults
  extract_lets
  split
  · rfl
  · rw [(State.showLegFaults_effect ..).leg u y]
    exact State.modLeg_sent (by intro; rfl) y

theorem State.inputEdge_sent (s : State) (u x start y : Nat) : ((s.inputEdge u x start).leg u y).sent = (s.leg u y).sent := by
  unfold State.inputEdge
  extract_lets s1 s2 s3
  split
  · rfl
  · have h2 : (s2.leg u y).sent = (s1.leg u y).sent :=
      State.when_keeps (fun v => (v.leg u y).sent) (fun v => State.modLeg_sent (by intro; rfl) y) s1
    rw [State.driveLeg_sent]
    exact (State.modLeg_sent (by intro; rfl) y).trans (h2.trans (State.clearLegFaults_sent ..))

/-- Neither output of a leg that is commanded off is sent a command; other legs are sent what they were. -/
theorem State.command_off_sent (s : State) (u x y : Nat) :
    ((s.command u x false false).leg u y).sent = if y = x then (false, false) else (s.leg u y).sent := by
  unfold State.command State.sendEdges
  extract_lets now dt s1 l now1 hs ls at_
  have h1 : (s1.leg u y).sent = (s.leg u y).sent := State.modLeg_sent (by intro; rfl) y
  have hcmd : hs = false ∧ ls = false := by
    have hl : l = s1.leg u x := rfl
    simp only [hs, ls, hl, s1, State.modLeg_leg, if_true, Bool.false_and, and_self]
  obtain ⟨hhs, hls⟩ := hcmd
  split
  · rename_i hsent
    split
    · rename_i hyx
      rw [hhs, hls] at hsent
      rw [hyx]
      exact Prod.ext hsent.1.symm hsent.2.symm
    · exact h1
  · rw [State.inputEdge_sent, State.modLeg_leg]
    split
    · exact Prod.ext hhs hls
    · exact h1

/-- In a motor state without switching all gates of the unit are off (Table 12-2). -/
theorem State.motGates_off {s : State} {u : Nat} (hu : u < 4)
    (h : ∀ m ∈ [msStart, msRun, msRegen, msShort], s.mstate u ≠ m) : ∀ x, x < 4 → ((s.motGates u).leg u x).off := by
  simp only [List.forall_mem_cons] at h
  obtain ⟨hstart, hrun, hregen, hshort, -⟩ := h
  unfold State.motGates
  extract_lets m v
  have hv : v = (s.modDrv u fun d => { d with probeEnd := none }).each (upTo 4) fun s x => s.command u x false false := by
    have hm : decide (m ≠ msStart ∧ m ≠ msRun ∧ m ≠ msRegen) = true := decide_eq_true ⟨hstart, hrun, hregen⟩
    have hlow : ∀ x, decide (m = msShort ∧ x < 3) = false := fun x => decide_eq_false fun hx => hshort hx.1
    simp only [v, State.when, hm, if_true, hlow]
  have hsent := (State.each_forall (I := fun _ => True) (P := fun x w => (w.leg u x).sent = (false, false)) (l := upTo 4)
    (f := fun s x => s.command u x false false) (s := s.modDrv u fun d => { d with probeEnd := none }) trivial (fun _ _ _ _ => trivial)
    (fun w _ x _ => (State.command_off_sent w u x x).trans (if_pos rfl))
    fun w _ x _ y hxy hy => (State.command_off_sent w u x y).trans ((if_neg (Ne.symm hxy)).trans hy)).2
  rw [← hv] at hsent
  intro x hx
  rw [(State.showActive_effect ..).leg u x]
  obtain ⟨hhs, hls⟩ := Prod.mk.inj (hsent x (mem_upTo.mpr hx))
  exact (v.driveUnit_legs hu x hx).2 (.inr ⟨hhs, hls⟩)

/-! ### Motor states -/

theorem State.motTo_mstate {s : State} {u st : Nat} {obs : Bool} (hu : u < 4) (hst : st < 16) : (s.motTo u st obs).mstate u = st := by
  unfold State.motTo
  split
  · assumption
  · extract_lets from_ looped s1 s2 s3
    have hhas : Reg.MOT_STATE.STATE.has u 0 = true := by simp [Field.has, Reg.MOT_STATE.STATE, hu]
    refine (State.rd_wr_apart _ _ _ _ _ _ (by decide +kernel)).trans ((State.rd_wr_same _ _ _ _ _ hhas (by decide)).trans ?_)
    exact Nat.mod_eq_of_lt hst

/-- No state but COAST raises a fault as it is entered. -/
theorem State.motTo_faults {s : State} {u st : Nat} (h : st ≠ msCoast) : (s.motTo u st).faults = s.faults := by
  unfold State.motTo
  split
  · rfl
  · extract_lets from_ looped s1 s2 s3
    have h2 : s2 = s1 := by simp [s2, State.when]
    have h3 : s3 = s2 := by simp [s3, State.when, h]
    simp only [State.wr_faults, h3, h2, s1, State.modMot_faults]

/-! ### Fault events -/

/-- What a fault event that is raised records, and what waits before it. -/
def State.evtAt (s : State) : Nat × Bool × Nat × List FaultEvt × Bool := (s.frameNo, s.ticking, s.count, s.faults.waiting, s.power.bridge)

/-- An operation that leaves the frame, the time and the events alone. -/
theorem Effect.evtAt {A : List Part} {F : List Field} {s t : State} (k : Effect A (some F) s t)
    (hbridge : t.power.bridge = s.power.bridge) (hA : Part.faults ∉ A ∧ Part.time ∉ A := by decide)
    (hF : (F.all fun g => Reg.FRAME_NO.FRAME_NO.apart g && Reg.FRAME_STATUS.RUNNING.apart g) = true := by decide +kernel) :
    t.evtAt = s.evtAt := by
  simp only [List.all_eq_true, Bool.and_eq_true] at hF
  have hno : t.frameNo = s.frameNo := k.rd _ 0 0 (List.all_eq_true.mpr fun g hg => (hF g hg).1)
  have hrun : t.ticking = s.ticking := congrArg (· != 0) (k.rd _ 0 0 (List.all_eq_true.mpr fun g hg => (hF g hg).2))
  have htime : t.time = s.time := k.same .time hA.2
  have hfaults : t.faults = s.faults := k.same .faults hA.1
  simp only [State.evtAt, hno, hrun, State.count_eq, htime, hfaults, hbridge]

/-- A block behind the bridge raises exactly one event, where it may. -/
theorem raises_raise {a s : State} (h : s.evtAt = a.evtAt) (hmay : a.mayRaise = true) {pos : Nat} (hpos : keepSource pos = false)
    (detail : Nat) : raises a (s.raise pos detail) pos detail := by
  simp only [State.evtAt, Prod.mk.injEq] at h
  obtain ⟨hno, hrun, hcount, hwait, hbridge⟩ := h
  simp only [State.mayRaise, Bool.and_eq_true, decide_eq_true_eq] at hmay
  have hroom : decide (32 ≤ (a.faults.waiting.filter (·.bridged)).length) = false := by
    exact decide_eq_false (by omega)
  simp only [raises, State.raise, State.raiseVia, State.evt, hpos, Bool.not_false, Bool.true_and, hbridge, hmay.1, Bool.not_true,
    Bool.false_eq_true, if_false, hno, hrun, hcount, hwait, hroom]

end Sys2Proof.Machine
end
section
namespace Sys2Proof.Machine

set_option Elab.async false

/-! ### A command's end, and its effect -/

@[simp] theorem State.settle_drv (s : State) (u : Nat) : s.settle.drv u = s.drv u := (State.settle_effect s).drv u
@[simp] theorem State.settle_leg (s : State) (u x : Nat) : s.settle.leg u x = s.leg u x := (State.settle_effect s).leg u x
@[simp] theorem State.settle_mstate (s : State) (u : Nat) : s.settle.mstate u = s.mstate u := s.settle_rd _ u 0 (by decide +kernel)

theorem State.settle_raises {a s : State} {pos detail : Nat} (h : raises a s pos detail) : raises a s.settle pos detail := by
  rwa [raises, State.settle_faults]

/-- What a command may move, where it goes on to a state that is named. -/
theorem Effect.of_exec {o : Host.Outcome State Fault Refusal} {A B : List Part} {F G : List Field} {s n : State}
    (h : ∃ m, o = .next m ∧ Effect A (some F) s m) (e : o = .next n) (hA : ∀ p ∈ A, p ∈ B) (hF : ∀ f ∈ F, f ∈ G) :
    Effect B (some G) s n := by
  obtain ⟨m, hm, k⟩ := h
  obtain rfl : m = n := Host.Outcome.next.inj (hm.symm.trans e)
  exact (k.more hF).grow hA

/-! ### The instant of a drive unit's command -/

theorem State.elapse_unitStep (s : State) (u t : Nat) : UnitStep u s (s.elapse t) := (UnitStep.refl u s).op (State.elapse_effect s t)

theorem State.drvElapse_unitStep (s : State) (u t : Nat) : UnitStep u s (s.drvElapse u t) := (s.elapse_unitStep u t).drvDue

@[simp] theorem State.drvElapse_power (s : State) (u t : Nat) : (s.drvElapse u t).power = s.power :=
  (State.drvElapse_effect s u t).same .power (by decide)

@[simp] theorem State.drvElapse_hasUnit (s : State) (u t v : Nat) : (s.drvElapse u t).hasUnit v = s.hasUnit v :=
  congrArg (fun x : Silicon => decide (v < x.variant.drives)) ((State.drvElapse_effect s u t).same .silicon (by decide))

/-! ### Reads after writes, unit by unit -/

theorem Field.has_unit {f : Field} {u : Nat} (hu : u < 4) (h : f.n1 = 4 ∧ 0 < f.n2) : f.has u 0 = true := by
  simp [Field.has, h.1, h.2, hu]

theorem State.rd_wr_unit (s : State) (f : Field) (v : Nat) {u : Nat} (hu : u < 4)
    (h : f.n1 = 4 ∧ 0 < f.n2 := by decide) (hd : f.dom ≠ .fixed := by decide) : (s.wr f v u).rd f u = v % 2 ^ f.width :=
  State.rd_wr_same s f v u 0 (Field.has_unit hu h) hd

theorem State.on_eq_true {s : State} {f : Field} {i j : Nat} : s.on f i j = true ↔ s.rd f i j ≠ 0 := by simp [State.on]

theorem State.on_eq_false {s : State} {f : Field} {i j : Nat} : s.on f i j = false ↔ s.rd f i j = 0 := by simp [State.on]

theorem b01_mod (b : Bool) : b01 b % 2 = b01 b := by cases b <;> rfl

/-! ### Every leg waits -/

theorem State.waitEdges_waits (s : State) (u : Nat) : ∀ x, x < 4 → ((s.waitEdges u).leg u x).waitEdge = true := by
  have hall := (State.each_forall (I := fun _ => True) (P := fun x v => (v.leg u x).waitEdge = true) (l := upTo 4) (s := s)
    (f := fun s x => s.modLeg u x fun l => { l with waitEdge := true }) trivial (fun _ _ _ _ => trivial) (fun v _ x _ => ?_)
    fun v _ x _ y hxy hy => ?_).2
  · exact fun x hx => hall x (mem_upTo.mpr hx)
  · rw [State.modLeg_leg, if_pos rfl]
  · rw [State.modLeg_leg, if_neg (Ne.symm hxy)]
    exact hy

/-- Every leg of a unit waits for an input edge, its gates off. -/
def State.waiting (s : State) (u : Nat) : State := (s.waitEdges u).driveUnit u

theorem State.waiting_unitStep (s : State) (u : Nat) : UnitStep u s (s.waiting u) := (UnitStep.refl u s).waitEdges.driveUnit

theorem State.waiting_effect (s : State) (u : Nat) : Effect [.drives] (some [Reg.DRV_LEG_STATUS.GATES_OFF]) s (s.waiting u) :=
  Effect.after (State.driveUnit_effect ..) (by decide +kernel) ((State.waitEdges_effect s u).widen (by decide +kernel))

theorem State.driveUnit_hold (s : State) (u x : Nat) : ((s.driveUnit u).leg u x).hold = (s.leg u x).hold :=
  State.each_keeps (fun v => (v.leg u x).hold) (fun v y => State.driveLeg_hold v u y ..) s

theorem State.waiting_waits (s : State) (u : Nat) : ∀ x, x < 4 → ((s.waiting u).leg u x).waitEdge = true := by
  intro x hx
  rw [← LegSt.hold_waitEdge, State.waiting, State.driveUnit_hold, LegSt.hold_waitEdge]
  exact s.waitEdges_waits u x hx

theorem State.waiting_gatesOff (s : State) {u : Nat} (hu : u < 4) : gatesOff (s.waiting u) u :=
  State.driveUnit_gatesOff hu fun x hx => State.legHeld_of_waitEdge (s.waitEdges_waits u x hx)

/-! ### VDRV -/

/-- VDRVu found below or above its limit (R253): the gates are off until the next input edge. -/
def State.vdrvSet (s : State) (u : Nat) (ok : Bool) (since : Nat) : State :=
  (({ s with power := { s.power with sinceVdrvLow := Tbl.put 0 s.power.sinceVdrvLow u since } }).modDrv u fun d =>
    { d with vdrv := ok }).waiting u

theorem State.vdrvUvlo_eq {s : State} {u : Nat} (h : s.hasUnit u = true) :
    s.vdrvUvlo u = (s.vdrvSet u false (s.time.ns + 1)).when (!(s.vdrvSet u false (s.time.ns + 1)).power.held) fun s =>
      ((s.showVdrv u).wr Reg.DRV_EVENT.UVLO 1 u).vdrvMotor u :=
  if_neg (by simp [h])

theorem State.vdrvRecover_eq {s : State} {u : Nat} (h : s.hasUnit u = true) :
    s.vdrvRecover u = (s.vdrvSet u true 0).when (!(s.vdrvSet u true 0).power.held) fun s => (s.showVdrv u).vdrvMotor u :=
  if_neg (by simp [h])

section
variable (s : State) (u : Nat) (ok : Bool) (since : Nat)

theorem State.vdrvSet_power :
    (s.vdrvSet u ok since).power = { s.power with sinceVdrvLow := Tbl.put 0 s.power.sinceVdrvLow u since } :=
  (State.waiting_effect ..).same .power (by decide)

theorem State.vdrvSet_since : Tbl.look 0 (s.vdrvSet u ok since).power.sinceVdrvLow u = since := by
  rw [State.vdrvSet_power]
  exact Tbl.look_put_same 0 s.power.sinceVdrvLow u since

theorem State.vdrvSet_effect : Effect [.power, .drives] (some [Reg.DRV_LEG_STATUS.GATES_OFF]) s (s.vdrvSet u ok since) := by
  refine Effect.after (State.waiting_effect ..) (by decide +kernel) ?_
  exact Effect.after (State.modDrv_effect ..) (by decide +kernel) ((Effect.power s _).widen (by decide +kernel))

theorem State.vdrvSet_unit : ((s.vdrvSet u ok since).drv u).unit = { (s.drv u).unit with vdrv := ok } := by
  refine (State.waiting_unitStep ..).unit.trans ?_
  rw [State.modDrv_same]
  rfl

theorem State.vdrvSet_vdrv : ((s.vdrvSet u ok since).drv u).vdrv = ok := (congrArg DrvSt.vdrv (s.vdrvSet_unit u ok since) :)

theorem State.vdrvSet_act : ((s.vdrvSet u ok since).drv u).act = (s.drv u).act := (congrArg DrvSt.act (s.vdrvSet_unit u ok since) :)

end

theorem State.showVdrv_reads (s : State) {u : Nat} (hu : u < 4) :
    (s.showVdrv u).rd Reg.DRV_STATUS.VDRV_OK u = b01 (s.drv u).vdrv ∧
      ∀ x, x < 4 → (s.showVdrv u).rd Reg.DRV_LEG_STATUS.UVLO u x = b01 (!(s.drv u).vdrv) := by
  unfold State.showVdrv
  extract_lets ok s1
  have hlegs : Effect [] (some [Reg.DRV_LEG_STATUS.UVLO]) s1 (s1.each (upTo 4) fun s x => s.wr Reg.DRV_LEG_STATUS.UVLO (b01 (!ok)) u x) :=
    (Effect.refl ..).each fun v x => State.wr_effect ..
  have hall := (State.each_forall (I := fun _ => True) (P := fun x v => v.rd Reg.DRV_LEG_STATUS.UVLO u x = b01 (!ok)) (l := upTo 4) (s := s1)
    (f := fun s x => s.wr Reg.DRV_LEG_STATUS.UVLO (b01 (!ok)) u x) trivial (fun _ _ _ _ => trivial) (fun v _ x hx => ?_)
    fun v _ x _ y hxy hy => (State.rd_wr_otherLeg v _ _ u (Ne.symm hxy) (by decide)).trans hy).2
  · refine ⟨(hlegs.rd _ u 0 (by decide +kernel)).trans ?_, fun x hx => hall x (mem_upTo.mpr hx)⟩
    exact (State.rd_wr_unit s _ _ hu).trans (b01_mod _)
  · have hhas : Reg.DRV_LEG_STATUS.UVLO.has u x = true := by simp [Field.has, Reg.DRV_LEG_STATUS.UVLO, hu, mem_upTo.mp hx]
    exact (State.rd_wr_same v _ _ _ _ hhas (by decide)).trans (b01_mod _)

theorem State.motFault_mstate {s : State} {u : Nat} (hu : u < 4) : (s.motFault u).mstate u = msFault := by
  unfold State.motFault
  split
  · assumption
  · exact State.motTo_mstate hu (by decide)

theorem State.motFault_raises {a s : State} {u : Nat} (h : s.evtAt = a.evtAt) (hmay : a.mayRaise = true) (hnot : s.mstate u ≠ msFault) :
    raises a (s.motFault u) 34 (4 * u + s.rd Reg.DRV_STATUS.LATCH_CAUSE u) := by
  unfold State.motFault
  rw [if_neg hnot, raises, State.motTo_faults (by decide)]
  exact raises_raise h hmay rfl _

theorem State.motGates_mstate (s : State) (u v : Nat) : (s.motGates u).mstate v = s.mstate v :=
  (State.motGates_effect s u).rd _ v 0 (by decide +kernel)

theorem State.motGates_faults (s : State) (u : Nat) : (s.motGates u).faults = s.faults :=
  (State.motGates_effect s u).same .faults (by decide)

theorem UnitStep.vdrvMotor {u : Nat} {s t : State} (h : UnitStep u s t) : UnitStep u s (t.vdrvMotor u) := by
  unfold State.vdrvMotor
  refine ite h (ite (motGates (h.op (State.motFault_effect ..))) (ite ?_ h))
  exact motGates (h.op (State.motTo_effect ..))

theorem UnitStep.showVdrv {u : Nat} {s t : State} (h : UnitStep u s t) : UnitStep u s (t.showVdrv u) := h.op (State.showVdrv_effect ..)

/-- A unit in MOTOR mode that is found without VDRV is in FAULT, with its gates off (R35). -/
theorem State.vdrvMotor_without {s : State} {u : Nat} (hu : u < 4) (hvdrv : (s.drv u).vdrv = false) :
    (gatesOff s u → gatesOff (s.vdrvMotor u) u) ∧
      (s.vdrvMotor u).mstate u = (if (s.drv u).act.mode = mdMotor then msFault else s.mstate u) ∧
      ∀ a : State, s.evtAt = a.evtAt → a.mayRaise = true → (s.drv u).act.mode = mdMotor → s.mstate u ≠ msFault →
        raises a (s.vdrvMotor u) 34 (4 * u + s.rd Reg.DRV_STATUS.LATCH_CAUSE u) := by
  unfold State.vdrvMotor
  by_cases hmode : (s.drv u).act.mode = mdMotor
  · have hheld : (s.motFault u).unitHeld u = true := by
      rw [((UnitStep.refl u s).op (State.motFault_effect ..)).unitHeld]
      simp [State.unitHeld, hvdrv]
    simp only [hmode, ne_eq, not_true_eq_false, if_false, hvdrv, Bool.not_false, if_true]
    refine ⟨fun _ => State.motGates_gatesOff hu hheld, (State.motGates_mstate ..).trans (State.motFault_mstate hu), fun a h hmay _ hnot => ?_⟩
    rw [raises, State.motGates_faults]
    exact State.motFault_raises h hmay hnot
  · simp only [hmode, ne_eq, not_false_eq_true, if_true, if_false, true_and]
    exact ⟨id, fun _ _ _ h => h.elim⟩

/-- A unit in MOTOR mode that gets VDRV back leaves FAULT where no latch stands, with its gates off; nothing else changes (R35). -/
theorem State.vdrvMotor_with {s : State} {u : Nat} (hu : u < 4) (hvdrv : (s.drv u).vdrv = true) {back : Bool}
    (hback : back = ((s.drv u).act.mode == mdMotor && s.mstate u == msFault && !s.on Reg.DRV_STATUS.LATCHED u)) :
    (back = false → s.vdrvMotor u = s) ∧
      (s.vdrvMotor u).mstate u = (if back then (if s.on Reg.DRV_STATUS.ENABLE u then msIdle else msSafeOff) else s.mstate u) ∧
      (back = true → ∀ x, x < 4 → ((s.vdrvMotor u).leg u x).off) := by
  let st := if s.on Reg.DRV_STATUS.ENABLE u then msIdle else msSafeOff
  have hst : st < 16 ∧ ∀ m ∈ [msStart, msRun, msRegen, msShort], st ≠ m := by unfold st; split <;> decide
  cases back with
  | true =>
    simp only [Bool.true_eq, Bool.and_eq_true, beq_iff_eq, Bool.not_eq_true'] at hback
    obtain ⟨⟨hmode, hfault⟩, hlatch⟩ := hback
    have hout : s.vdrvMotor u = (s.motTo u st).motGates u := by
      simp [State.vdrvMotor, hmode, hvdrv, hfault, hlatch, st]
    have hin : (s.motTo u st).mstate u = st := State.motTo_mstate hu hst.1
    refine ⟨fun h => absurd h (by decide), ?_, fun _ => ?_⟩
    · rw [hout, State.motGates_mstate, hin, if_pos rfl]
    · rw [hout]
      exact State.motGates_off hu (by rw [hin]; exact hst.2)
  | false =>
    have hstays : s.vdrvMotor u = s := by
      unfold State.vdrvMotor
      split
      · rfl
      · rename_i hmode
        simp only [ne_eq, not_not] at hmode
        simp only [hmode, BEq.rfl, Bool.true_and] at hback
        simp only [hvdrv, Bool.not_true, Bool.false_eq_true, if_false]
        refine if_neg fun h => ?_
        simp [h.1, h.2] at hback
    exact ⟨fun _ => hstays, by rw [hstays]; rfl, fun h => absurd h (by decide)⟩

end Sys2Proof.Machine
end
section
namespace Sys2Proof.Machine

set_option Elab.async false

/-! ### VDRV lost and back -/

section
variable {a : State} {u : Nat}

/-- VDRV below its limit (R253, R35). -/
theorem State.vdrvUvlo_does (hu : u < 4) (hunit : a.hasUnit u = true) :
    ((a.vdrvUvlo u).drv u).vdrv = false ∧ (∀ x, x < 4 → ((a.vdrvUvlo u).leg u x).waitEdge = true) ∧ gatesOff (a.vdrvUvlo u) u ∧
      Tbl.look 0 (a.vdrvUvlo u).power.sinceVdrvLow u = a.time.ns + 1 := by
  let g := a.vdrvSet u false (a.time.ns + 1)
  have hvdrv : (g.drv u).vdrv = false := a.vdrvSet_vdrv u false _
  have hstep : UnitStep u g (a.vdrvUvlo u) := by
    rw [State.vdrvUvlo_eq hunit]
    exact (UnitStep.refl u g).when fun v => ((UnitStep.refl u v).showVdrv.op (State.wr_effect ..)).vdrvMotor
  have hedge : g.edgeTaken u = false := by simp [State.edgeTaken, hvdrv]
  have hpower : (a.vdrvUvlo u).power = g.power := by
    rw [State.vdrvUvlo_eq hunit]
    refine State.when_keeps (·.power) (fun v => ?_) g
    exact ((State.vdrvMotor_effect ..).same .power (by decide)).trans ((State.wr_power ..).trans
      ((State.showVdrv_effect v u).same .power (by decide)))
  have hoff : gatesOff g u := State.waiting_gatesOff _ hu
  refine ⟨hstep.vdrv.trans hvdrv, fun x hx => hstep.waits hedge x (State.waiting_waits _ u x hx), ?_, ?_⟩
  · rw [State.vdrvUvlo_eq hunit, State.when]
    split
    · refine (State.vdrvMotor_without hu ?_).1 ((State.wr_effect ..).gatesOff ((State.showVdrv_effect g u).gatesOff hoff))
      exact (((UnitStep.refl u g).showVdrv).op (State.wr_effect ..)).vdrv.trans hvdrv
    · exact hoff
  · rw [hpower]
    exact a.vdrvSet_since u false _

/-- What the logic side learns of VDRV below its limit, outside a DEV reset. -/
theorem State.vdrvUvlo_shows (hu : u < 4) (hunit : a.hasUnit u = true) (hheld : a.power.held = false) :
    (a.vdrvUvlo u).rd Reg.DRV_STATUS.VDRV_OK u = 0 ∧ (a.vdrvUvlo u).rd Reg.DRV_EVENT.UVLO u = 1 ∧
      (∀ x, x < 4 → (a.vdrvUvlo u).rd Reg.DRV_LEG_STATUS.UVLO u x = 1) ∧
      (a.vdrvUvlo u).mstate u = (if (a.drv u).act.mode = mdMotor then msFault else a.mstate u) ∧
      ((a.drv u).act.mode = mdMotor → a.mstate u ≠ msFault → a.mayRaise = true →
        raises a (a.vdrvUvlo u) 34 (4 * u + a.rd Reg.DRV_STATUS.LATCH_CAUSE u)) := by
  let g := a.vdrvSet u false (a.time.ns + 1)
  let v := (g.showVdrv u).wr Reg.DRV_EVENT.UVLO 1 u
  have hvdrv : (g.drv u).vdrv = false := a.vdrvSet_vdrv u false _
  have hout : a.vdrvUvlo u = v.vdrvMotor u := by
    rw [State.vdrvUvlo_eq hunit, State.when, if_pos (by rw [State.vdrvSet_power, hheld]; rfl)]
  have hav : Effect [.power, .drives] (some [Reg.DRV_STATUS.VDRV_OK, Reg.DRV_LEG_STATUS.UVLO, Reg.DRV_LEG_STATUS.GATES_OFF,
      Reg.DRV_EVENT.UVLO]) a v := by
    refine Effect.after (State.wr_effect ..) (by decide +kernel) ?_
    refine Effect.after (State.showVdrv_effect g u) (by decide +kernel) ?_
    exact (a.vdrvSet_effect u false (a.time.ns + 1)).widen (by decide +kernel)
  have hdrv : v.drv u = g.drv u := ((State.wr_effect ..).drv u).trans ((State.showVdrv_effect g u).drv u)
  have hact : (v.drv u).act = (a.drv u).act := by rw [hdrv]; exact a.vdrvSet_act u false _
  have hm : v.mstate u = a.mstate u := hav.rd _ u 0 (by decide +kernel)
  obtain ⟨-, hmstate, hraise⟩ := State.vdrvMotor_without hu (hdrv ▸ hvdrv)
  obtain ⟨hok, huvlo⟩ := g.showVdrv_reads hu
  rw [hvdrv] at hok huvlo
  have hmotor : ∀ f i j, ((State.vdrvMotor_fields.getD []).all fun g => f.apart g) = true → (v.vdrvMotor u).rd f i j = v.rd f i j :=
    fun f i j hf => Effect.rd (State.vdrvMotor_effect v u) f i j hf
  rw [hout]
  refine ⟨?_, ?_, fun x hx => ?_, ?_, fun hmode hnot hmay => ?_⟩
  · rw [hmotor _ u 0 (by decide +kernel)]
    exact (State.rd_wr_apart _ _ _ _ _ _ (by decide +kernel)).trans hok
  · rw [hmotor _ u 0 (by decide +kernel)]
    exact State.rd_wr_unit _ _ _ hu
  · rw [hmotor _ u x (by decide +kernel)]
    exact (State.rd_wr_apart _ _ _ _ _ _ (by decide +kernel)).trans (huvlo x hx)
  · rw [hmstate, hact, hm]
  · have hcause : v.rd Reg.DRV_STATUS.LATCH_CAUSE u = a.rd Reg.DRV_STATUS.LATCH_CAUSE u := hav.rd _ u 0 (by decide +kernel)
    rw [← hcause]
    refine hraise a (hav.evtAt ?_) hmay (by rw [hact, hmode]) (by rw [hm]; exact hnot)
    have hpower : v.power = g.power := (State.wr_power ..).trans ((State.showVdrv_effect g u).same .power (by decide))
    rw [hpower, State.vdrvSet_power]

/-- In a DEV reset the logic side learns nothing of VDRV. -/
theorem State.vdrvUvlo_held (hunit : a.hasUnit u = true) (hheld : a.power.held = true) :
    a.vdrvUvlo u = a.vdrvSet u false (a.time.ns + 1) := by
  rw [State.vdrvUvlo_eq hunit, State.when, if_neg (by rw [State.vdrvSet_power, hheld]; decide)]

/-- VDRV back above its limit (R253, R35); `back` where a unit in MOTOR mode leaves FAULT. -/
theorem State.vdrvRecover_does (hu : u < 4) (hunit : a.hasUnit u = true) {back : Bool}
    (hback : back = ((a.drv u).act.mode == mdMotor && a.mstate u == msFault && !a.power.held && !a.on Reg.DRV_STATUS.LATCHED u)) :
    ((a.vdrvRecover u).drv u).vdrv = true ∧ (∀ x, x < 4 → ((a.vdrvRecover u).leg u x).off) ∧
      (back = false → (∀ x, x < 4 → ((a.vdrvRecover u).leg u x).waitEdge = true) ∧ gatesOff (a.vdrvRecover u) u) ∧
      Tbl.look 0 (a.vdrvRecover u).power.sinceVdrvLow u = 0 ∧
      (a.power.held = false → (a.vdrvRecover u).rd Reg.DRV_STATUS.VDRV_OK u = 1 ∧
        ∀ x, x < 4 → (a.vdrvRecover u).rd Reg.DRV_LEG_STATUS.UVLO u x = 0) ∧
      (a.vdrvRecover u).mstate u =
        (if back then (if a.on Reg.DRV_STATUS.ENABLE u then msIdle else msSafeOff) else a.mstate u) := by
  let g := a.vdrvSet u true 0
  let v := g.showVdrv u
  have hvdrv : (g.drv u).vdrv = true := a.vdrvSet_vdrv u true 0
  have hoff : gatesOff g u := State.waiting_gatesOff _ hu
  have hwaits : ∀ x, x < 4 → (g.leg u x).waitEdge = true := State.waiting_waits _ u
  have hsince : Tbl.look 0 g.power.sinceVdrvLow u = 0 := a.vdrvSet_since u true 0
  have hag : ∀ f i j, f.apart Reg.DRV_LEG_STATUS.GATES_OFF = true → g.rd f i j = a.rd f i j := fun f i j hf =>
    (a.vdrvSet_effect u true 0).rd f i j (by simp [hf])
  cases hheld : a.power.held with
  | true =>
    have hout : a.vdrvRecover u = g := by
      rw [State.vdrvRecover_eq hunit, State.when, if_neg (by rw [State.vdrvSet_power, hheld]; decide)]
    have hno : back = false := by simp [hback, hheld]
    rw [hout, hno]
    exact ⟨hvdrv, fun x hx => ⟨(hoff x hx).1, (hoff x hx).2.1⟩, fun _ => ⟨hwaits, hoff⟩, hsince, fun h => absurd h (by decide),
      hag _ u 0 (by decide +kernel)⟩
  | false =>
    have hout : a.vdrvRecover u = v.vdrvMotor u := by
      rw [State.vdrvRecover_eq hunit, State.when, if_pos (by rw [State.vdrvSet_power, hheld]; rfl)]
    have hstep : UnitStep u g v := (UnitStep.refl u g).showVdrv
    have hvg : ∀ f i j, ([Reg.DRV_STATUS.VDRV_OK, Reg.DRV_LEG_STATUS.UVLO, Reg.DRV_LEG_STATUS.GATES_OFF].all fun g => f.apart g) = true →
        v.rd f i j = a.rd f i j := fun f i j hf => by
      simp only [List.all_cons, Bool.and_eq_true, List.all_nil] at hf
      obtain ⟨hok, huvlo, hgates, -⟩ := hf
      exact ((State.showVdrv_effect g u).rd f i j (by simp [hok, huvlo])).trans (hag f i j hgates)
    have hact : (v.drv u).act = (a.drv u).act := hstep.act.trans (a.vdrvSet_act u true 0)
    have hm : v.mstate u = a.mstate u := hvg _ u 0 (by decide +kernel)
    have hlatched : v.on Reg.DRV_STATUS.LATCHED u = a.on Reg.DRV_STATUS.LATCHED u :=
      congrArg (· != 0) (hvg Reg.DRV_STATUS.LATCHED u 0 (by decide +kernel))
    have henable : v.on Reg.DRV_STATUS.ENABLE u = a.on Reg.DRV_STATUS.ENABLE u :=
      congrArg (· != 0) (hvg Reg.DRV_STATUS.ENABLE u 0 (by decide +kernel))
    obtain ⟨hstays, hmstate, hleaves⟩ := State.vdrvMotor_with hu (hstep.vdrv.trans hvdrv) (back := back)
      (by rw [hback, hheld, hact, hm, hlatched, Bool.not_false, Bool.and_true])
    have hvoff : gatesOff v u := (State.showVdrv_effect g u).gatesOff hoff
    have hvwaits : ∀ x, x < 4 → (v.leg u x).waitEdge = true := fun x hx => by
      rw [(State.showVdrv_effect g u).leg u x]; exact hwaits x hx
    obtain ⟨hok, huvlo⟩ := g.showVdrv_reads hu
    rw [hvdrv] at hok huvlo
    rw [hout]
    refine ⟨(hstep.vdrvMotor).vdrv.trans hvdrv, fun x hx => ?_, fun hno => ?_, ?_, fun _ => ⟨?_, fun x hx => ?_⟩, ?_⟩
    · cases hb : back with
      | true => exact hleaves hb x hx
      | false => rw [hstays hb]; exact ⟨(hvoff x hx).1, (hvoff x hx).2.1⟩
    · rw [hstays hno]; exact ⟨hvwaits, hvoff⟩
    · rw [(State.vdrvMotor_effect ..).same .power (by decide), (State.showVdrv_effect g u).same .power (by decide)]
      exact hsince
    · exact (Effect.rd (State.vdrvMotor_effect v u) _ u 0 (by decide +kernel)).trans hok
    · exact (Effect.rd (State.vdrvMotor_effect v u) _ u x (by decide +kernel)).trans (huvlo x hx)
    · rw [hmstate, henable, hm]

end

end Sys2Proof.Machine
end
section
namespace Sys2Proof.Machine

set_option Elab.async false

/-! ### The die's shutdown, the link lost, the safety enable, the band -/

theorem hasBit_clrBit_mod (w : Nat) {u : Nat} (hu : u < 4) : hasBit (clrBit w u % 2 ^ 4) u = false := by
  obtain rfl | rfl | rfl | rfl : u = 0 ∨ u = 1 ∨ u = 2 ∨ u = 3 := by omega
  all_goals
    simp only [hasBit, clrBit, bitOf, beq_iff_eq, beq_eq_false_iff_ne]
    split <;> omega

theorem hasBit_setBit_mod (w : Nat) {u : Nat} (hu : u < 4) : hasBit (setBit w u % 2 ^ 4) u = true := by
  obtain rfl | rfl | rfl | rfl : u = 0 ∨ u = 1 ∨ u = 2 ∨ u = 3 := by omega
  all_goals
    simp only [hasBit, setBit, bitOf, beq_iff_eq]
    split <;> omega

section
variable {a : State} {u : Nat}

/-- A shutdown of the drive die is latched, shown and raised, and holds the gates off (R254, R393). -/
theorem State.driveOt_does (hu : u < 4) (hunit : a.hasUnit u = true) (hlatch : (a.drv u).otLatch = false) :
    ((a.driveOt u).drv u).otLatch = true ∧ gatesOff (a.driveOt u) u ∧
      (a.rd Reg.DRV_STATUS.LINK u ≠ 0 →
        (a.driveOt u).rd Reg.DRV_STATUS.OT_SHUT u = 1 ∧ (a.driveOt u).rd Reg.DRV_EVENT.OT_SHUT u = 1) ∧
      (a.mayRaise = true → raises a (a.driveOt u) 43 u) := by
  let s1 := a.modDrv u fun d => { d with otLatch := true }
  let s2 := s1.when (s1.on Reg.DRV_STATUS.LINK u) fun s => (s.wr Reg.DRV_STATUS.OT_SHUT 1 u).wr Reg.DRV_EVENT.OT_SHUT 1 u
  let s3 := s2.raise 43 u
  have hout : a.driveOt u = s3.driveUnit u := if_neg (by simp [hunit, hlatch])
  have hshow : Effect [] (some [Reg.DRV_STATUS.OT_SHUT, Reg.DRV_EVENT.OT_SHUT]) s1 s2 :=
    (Effect.refl _ _ s1).when fun v => Effect.after (State.wr_effect ..) (by decide +kernel) ((State.wr_effect ..).widen (by decide +kernel))
  have hstep : UnitStep u s1 s3 := ((UnitStep.refl u s1).op hshow).op (State.raise_effect ..)
  have hot : (s3.drv u).otLatch = true := hstep.otLatch.trans (by simp [s1])
  have hheld : s3.unitHeld u = true := by simp [State.unitHeld, hot]
  have hevt : s2.evtAt = a.evtAt :=
    (hshow.evtAt (congrArg PowerSt.bridge (hshow.same .power (by decide)))).trans ((State.modDrv_effect a u _).evtAt rfl)
  rw [hout]
  refine ⟨((UnitStep.refl u s3).driveUnit).otLatch.trans hot, State.driveUnit_gatesOff hu fun x _ => State.legHeld_of_unitHeld hheld x,
    fun hlink => ?_, fun hmay => ?_⟩
  · have hs2 : s2 = (s1.wr Reg.DRV_STATUS.OT_SHUT 1 u).wr Reg.DRV_EVENT.OT_SHUT 1 u :=
      if_pos (State.on_eq_true.mpr hlink)
    have hlater : ∀ f ∈ [Reg.DRV_STATUS.OT_SHUT, Reg.DRV_EVENT.OT_SHUT], (s3.driveUnit u).rd f u = s2.rd f u := fun f hf =>
      (Effect.rd (State.driveUnit_effect s3 u) f u 0 (by revert f; decide +kernel)).trans
        (Effect.rd (State.raise_effect s2 43 u) f u 0 (by revert f; decide +kernel))
    rw [hlater _ (by simp), hlater _ (by simp), hs2]
    exact ⟨(State.rd_wr_apart _ _ _ _ _ _ (by decide +kernel)).trans (State.rd_wr_unit _ _ _ hu), State.rd_wr_unit _ _ _ hu⟩
  · rw [raises, (State.driveUnit_effect s3 u).same .faults (by decide)]
    exact raises_raise hevt hmay rfl u

theorem State.driveOt_refused (h : a.hasUnit u = false ∨ (a.drv u).otLatch = true) : a.driveOt u = a :=
  if_pos (by rcases h with h | h <;> simp [h])

/-- The shutdown's latch is released after 10 ms without VDRV (R393). -/
theorem State.driveOtRelease_does (hu : u < 4) (hlatch : (a.drv u).otLatch = true) (hlow : 0 < Tbl.look 0 a.power.sinceVdrvLow u)
    (hlate : Tbl.look 0 a.power.sinceVdrvLow u + 9999999 ≤ a.time.ns) :
    ((a.driveOtRelease u).drv u).otLatch = false ∧
      (a.rd Reg.DRV_STATUS.LINK u ≠ 0 → (a.driveOtRelease u).rd Reg.DRV_STATUS.OT_SHUT u = 0) := by
  let s1 := a.modDrv u fun d => { d with otLatch := false }
  let s2 := s1.when (s1.on Reg.DRV_STATUS.LINK u) (·.wr Reg.DRV_STATUS.OT_SHUT 0 u)
  have hout : a.driveOtRelease u = s2.driveUnit u := if_pos (by simp [hlatch, hlow, hlate])
  have hshow : Effect [] (some [Reg.DRV_STATUS.OT_SHUT]) s1 s2 := (Effect.refl _ _ s1).when fun v => State.wr_effect ..
  rw [hout]
  refine ⟨(((UnitStep.refl u s1).op hshow).driveUnit).otLatch.trans (by simp [s1]), fun hlink => ?_⟩
  have hs2 : s2 = s1.wr Reg.DRV_STATUS.OT_SHUT 0 u := if_pos (State.on_eq_true.mpr hlink)
  rw [Effect.rd (State.driveUnit_effect s2 u) _ u 0 (by decide +kernel), hs2]
  exact State.rd_wr_unit _ _ _ hu

theorem State.driveOtRelease_refused (h : (a.drv u).otLatch = false ∨ Tbl.look 0 a.power.sinceVdrvLow u = 0 ∨
    a.time.ns < Tbl.look 0 a.power.sinceVdrvLow u + 9999999) : a.driveOtRelease u = a := by
  refine if_neg fun hall => ?_
  simp only [Bool.and_eq_true, decide_eq_true_eq] at hall
  obtain ⟨⟨hlatch, hlow⟩, hlate⟩ := hall
  rcases h with h | h | h
  · exact absurd hlatch (by simp [h])
  · omega
  · omega

/-- A lost barrier link turns all gates off until the next input edge (R18). -/
theorem State.linkLost_does (hu : u < 4) (hunit : a.hasUnit u = true) (hlink : a.rd Reg.DRV_STATUS.LINK u ≠ 0) :
    (a.linkLost u).rd Reg.DRV_STATUS.LINK u = 0 ∧ hasBit ((a.linkLost u).rd Reg.DOMAIN_STATE.DRV_LINK) u = false ∧
      (a.linkLost u).rd Reg.DRV_EVENT.LINK u = 1 ∧ (∀ x, x < 4 → ((a.linkLost u).leg u x).waitEdge = true) ∧ gatesOff (a.linkLost u) u := by
  let s1 := a.wr Reg.DRV_STATUS.LINK 0 u
  let s2 := s1.wrBit Reg.DOMAIN_STATE.DRV_LINK u false
  let s3 := s2.wr Reg.DRV_EVENT.LINK 1 u
  have hout : a.linkLost u = s3.waiting u := if_neg (by simp [hunit, State.on_eq_true.mpr hlink])
  have hlater : ∀ f i, f.apart Reg.DRV_LEG_STATUS.GATES_OFF = true → (s3.waiting u).rd f i = s3.rd f i := fun f i hf =>
    (State.waiting_effect s3 u).rd f i 0 (by simp [hf])
  rw [hout]
  refine ⟨?_, ?_, ?_, State.waiting_waits s3 u, State.waiting_gatesOff s3 hu⟩
  · rw [hlater _ _ (by decide +kernel)]
    refine (State.rd_wr_apart _ _ _ _ _ _ (by decide +kernel)).trans ((State.rd_wr_apart _ _ _ _ _ _ (by decide +kernel)).trans ?_)
    exact State.rd_wr_unit _ _ _ hu
  · rw [hlater _ _ (by decide +kernel)]
    have hbits : s3.rd Reg.DOMAIN_STATE.DRV_LINK = clrBit (s1.rd Reg.DOMAIN_STATE.DRV_LINK) u % 2 ^ 4 :=
      (State.rd_wr_apart _ _ _ _ _ _ (by decide +kernel)).trans (State.rd_wr_same _ _ _ _ _ rfl (by decide))
    rw [hbits]
    exact hasBit_clrBit_mod _ hu
  · rw [hlater _ _ (by decide +kernel)]
    exact State.rd_wr_unit _ _ _ hu

theorem State.linkLost_refused (h : a.hasUnit u = false ∨ a.rd Reg.DRV_STATUS.LINK u = 0) : a.linkLost u = a :=
  if_pos (by rcases h with h | h <;> simp [State.on, h])

/-- A safety enable withdrawn turns all gates off; a unit in MOTOR mode is in SAFE_OFF, where it is not in FAULT (R287). -/
theorem State.enableChange_off (hu : u < 4) (hunit : a.hasUnit u = true) :
    (a.enableChange u false).rd Reg.DRV_STATUS.ENABLE u = 0 ∧ (∀ x, x < 4 → ((a.enableChange u false).leg u x).waitEdge = true) ∧
      gatesOff (a.enableChange u false) u ∧
      (a.enableChange u false).mstate u =
        (if (a.drv u).act.mode = mdMotor ∧ a.mstate u ≠ msFault then msSafeOff else a.mstate u) := by
  let s1 := a.wr Reg.DRV_STATUS.ENABLE 0 u
  let s2 := s1.waiting u
  let stops := decide ((a.drv u).act.mode = mdMotor) && s1.mstate u != msFault
  let s3 := s2.when stops fun s => (s.motTo u msSafeOff).motGates u
  have hout : a.enableChange u false = s3.showActive u := if_neg (by simp [hunit])
  have henable : s1.rd Reg.DRV_STATUS.ENABLE u = 0 := State.rd_wr_unit _ _ _ hu
  have hedge : s2.edgeTaken u = false := by
    rw [(State.waiting_unitStep s1 u).edgeTaken, State.edgeTaken, State.on_eq_false.mpr henable, Bool.false_and]
  have hmot : UnitStep u s2 s3 := (UnitStep.refl u s2).when fun v => ((UnitStep.refl u v).op (State.motTo_effect ..)).motGates
  have hheld : s2.unitHeld u = true := by
    rw [(State.waiting_unitStep s1 u).unitHeld]
    simp [State.unitHeld, State.on_eq_false.mpr henable]
  have hend : UnitStep u s2 (s3.showActive u) := hmot.showActive
  have hm1 : s1.mstate u = a.mstate u := State.rd_wr_apart _ _ _ _ _ _ (by decide +kernel)
  have hm2 : s2.mstate u = s1.mstate u := (State.waiting_effect s1 u).rd _ u 0 (by decide +kernel)
  rw [hout]
  refine ⟨?_, fun x hx => hend.waits hedge x (State.waiting_waits s1 u x hx), ?_, ?_⟩
  · have h : (s3.showActive u).on Reg.DRV_STATUS.ENABLE u = false := by
      rw [hend.enable, (State.waiting_unitStep s1 u).enable, State.on_eq_false.mpr henable]
    exact State.on_eq_false.mp h
  · refine (State.showActive_effect ..).gatesOff ?_
    unfold s3 State.when
    split
    · exact State.motGates_gatesOff hu (((UnitStep.refl u s2).op (State.motTo_effect ..)).unitHeld.trans hheld)
    · exact State.waiting_gatesOff s1 hu
  · have hshown : (s3.showActive u).mstate u = s3.mstate u := Effect.rd (State.showActive_effect s3 u) _ u 0 (by decide +kernel)
    rw [hshown]
    unfold s3 State.when
    by_cases hstops : (a.drv u).act.mode = mdMotor ∧ a.mstate u ≠ msFault
    · rw [if_pos hstops, if_pos (by simp [stops, hm1, hstops]), State.motGates_mstate, State.motTo_mstate hu (by decide)]
    · rw [if_neg hstops, if_neg (by simpa [stops, hm1] using hstops), hm2, hm1]

/-- A safety enable given by both units: a unit in MOTOR mode leaves SAFE_OFF, for IDLE without a speed command (R287). -/
theorem State.enableChange_on (hu : u < 4) (hunit : a.hasUnit u = true) (hA : hasBit (a.rd Reg.SAFE_FIRE.DRV_A) u = true)
    (hB : hasBit (a.rd Reg.SAFE_FIRE.DRV_B) u = true) :
    (a.enableChange u true).rd Reg.DRV_STATUS.ENABLE u = 1 ∧
      (a.enableChange u true).mstate u = (if (a.drv u).act.mode = mdMotor ∧ a.mstate u = msSafeOff then
        (if a.rdS Reg.MOT_CMD.CMD u = 0 then msIdle else msCatch) else a.mstate u) := by
  let s1 := a.wr Reg.DRV_STATUS.ENABLE 1 u
  let starts := decide ((a.drv u).act.mode = mdMotor) && s1.mstate u == msSafeOff
  let s2 := s1.when starts fun s => (s.motTo u (if s.rdS Reg.MOT_CMD.CMD u = 0 then msIdle else msCatch)).motGates u
  have hout : a.enableChange u true = s2.driveUnit u := if_neg (by simp [hunit, hA, hB])
  have hm1 : s1.mstate u = a.mstate u := State.rd_wr_apart _ _ _ _ _ _ (by decide +kernel)
  have hcmd : s1.rdS Reg.MOT_CMD.CMD u = a.rdS Reg.MOT_CMD.CMD u := by
    simp only [State.rdS, s1, State.rd_wr_apart a (f := Reg.MOT_CMD.CMD) (g := Reg.DRV_STATUS.ENABLE) _ _ _ _ _ (by decide +kernel)]
  have hwritten : s2.rd Reg.DRV_STATUS.ENABLE u = 1 := by
    have h1 : s1.rd Reg.DRV_STATUS.ENABLE u = 1 := State.rd_wr_unit _ _ _ hu
    refine (State.when_keeps (·.rd Reg.DRV_STATUS.ENABLE u) (fun v => ?_) s1).trans h1
    exact (Effect.rd (State.motGates_effect ..) _ u 0 (by decide +kernel)).trans (Effect.rd (State.motTo_effect ..) _ u 0 (by decide +kernel))
  rw [hout]
  refine ⟨(Effect.rd (State.driveUnit_effect s2 u) _ u 0 (by decide +kernel)).trans hwritten, ?_⟩
  have hdriven : (s2.driveUnit u).mstate u = s2.mstate u := Effect.rd (State.driveUnit_effect s2 u) _ u 0 (by decide +kernel)
  rw [hdriven]
  unfold s2 State.when
  by_cases hstarts : (a.drv u).act.mode = mdMotor ∧ a.mstate u = msSafeOff
  · rw [if_pos hstarts, if_pos (by simp [starts, hm1, hstarts]), State.motGates_mstate, hcmd, State.motTo_mstate hu]
    split <;> decide
  · rw [if_neg hstarts, if_neg (by simpa [starts, hm1] using hstarts), hm1]

theorem State.enableChange_refused {on : Bool} (h : a.hasUnit u = false ∨ on = true ∧ (hasBit (a.rd Reg.SAFE_FIRE.DRV_A) u = false ∨
    hasBit (a.rd Reg.SAFE_FIRE.DRV_B) u = false)) : a.enableChange u on = a :=
  if_pos (by rcases h with h | ⟨rfl, h | h⟩ <;> simp [h])

end

end Sys2Proof.Machine
end
section
namespace Sys2Proof.Machine

set_option Elab.async false

/-! ### The band of a drive unit -/

theorem bandOf_lt (c old : Nat) : bandOf c old < 4 := by
  have h : ∀ b : Bool, b01 b ≤ 1 := fun b => by cases b <;> decide
  have h1 := h (decide (512 ≤ c)); have h2 := h (decide (1192 ≤ c)); have h3 := h (decide (1352 ≤ c))
  have k1 := h (decide (488 ≤ c)); have k2 := h (decide (1168 ≤ c)); have k3 := h (decide (1328 ≤ c))
  unfold bandOf
  dsimp only
  split
  · omega
  · split <;> omega

/-- Two bits of a word replaced by a band. -/
theorem bitsOf_band (w : Nat) {u b : Nat} (hu : u < 4) (hb : b < 4) :
    bitsOf ((w - bitsOf w (2 * u) 2 * 4 ^ u + b * 4 ^ u) % 2 ^ 8) (2 * u) 2 = b := by
  obtain rfl | rfl | rfl | rfl : u = 0 ∨ u = 1 ∨ u = 2 ∨ u = 3 := by omega
  all_goals
    simp only [bitsOf]
    omega

theorem hasBit_setBit_event (w : Nat) : hasBit (setBit w 5 % 2 ^ 6) 5 = true := by
  simp only [hasBit, setBit, bitOf, beq_iff_eq]
  split <;> omega

section
variable {a : State} {u : Nat}

/-- The band that a valid reading of the die sensor gives (R246, R254, R395). -/
theorem State.driveBand_does (hu : u < 4) (hunit : a.hasUnit u = true) (c : Nat) :
    (a.driveBand u c true).drv u = { a.drv u with band := bandOf c (a.drv u).band } ∧
      (a.rd Reg.DRV_STATUS.LINK u ≠ 0 →
        (a.driveBand u c true).rd Reg.DRV_STATUS.BAND u = bandOf c (a.drv u).band ∧
        bitsOf ((a.driveBand u c true).rd Reg.THERMAL_BAND.DRV) (2 * u) 2 = bandOf c (a.drv u).band ∧
        (bandOf c (a.drv u).band ≠ (a.drv u).band → hasBit ((a.driveBand u c true).rd Reg.THERMAL_EVENT.EVENTS) 5 = true)) ∧
      (a.rd Reg.DRV_STATUS.LINK u = 0 → (a.driveBand u c true).rd Reg.DRV_STATUS.BAND u = a.rd Reg.DRV_STATUS.BAND u) := by
  let b := bandOf c (a.drv u).band
  let s1 := a.modDrv u fun d => { d with band := b }
  let s2 := s1.when (decide (b ≠ (a.drv u).band)) (·.evBit Reg.THERMAL_EVENT.EVENTS 5)
  let s3 := s2.wr Reg.DRV_STATUS.BAND b u
  let w := s1.rd Reg.THERMAL_BAND.DRV
  let s4 := s3.wr Reg.THERMAL_BAND.DRV (w - bitsOf w (2 * u) 2 * 4 ^ u + b * 4 ^ u)
  have hb : b < 4 := bandOf_lt ..
  have hout : a.driveBand u c true = if s1.on Reg.DRV_STATUS.LINK u then s4 else s1 := if_neg (by simp [hunit])
  have hshow : Effect [] (some [Reg.THERMAL_BAND.DRV, Reg.THERMAL_EVENT.EVENTS, Reg.DRV_STATUS.BAND]) s1 s4 := by
    refine Effect.after (State.wr_effect ..) (by decide +kernel) (Effect.after (State.wr_effect ..) (by decide +kernel) ?_)
    exact (Effect.refl _ _ s1).when fun v => (State.evBit_effect v ..).widen (by decide +kernel)
  have hdrv : s1.drv u = { a.drv u with band := b } := State.modDrv_same ..
  refine ⟨?_, fun hlink => ?_, fun hlink => ?_⟩
  · rw [hout]
    split
    · exact (hshow.drv u).trans hdrv
    · exact hdrv
  · rw [hout, if_pos (State.on_eq_true.mpr hlink : s1.on _ u = true)]
    refine ⟨?_, ?_, fun hmoved => ?_⟩
    · refine (State.rd_wr_apart s3 (f := Reg.DRV_STATUS.BAND) _ _ _ _ _ (by decide +kernel)).trans ((State.rd_wr_unit s2 _ _ hu).trans ?_)
      exact Nat.mod_eq_of_lt hb
    · have hw : s4.rd Reg.THERMAL_BAND.DRV = (w - bitsOf w (2 * u) 2 * 4 ^ u + b * 4 ^ u) % 2 ^ 8 :=
        State.rd_wr_same _ _ _ _ _ rfl (by decide)
      rw [hw]
      exact bitsOf_band w hu hb
    · have hs2 : s2 = s1.evBit Reg.THERMAL_EVENT.EVENTS 5 := if_pos (decide_eq_true hmoved)
      have hevents : s4.rd Reg.THERMAL_EVENT.EVENTS = setBit (s1.rd Reg.THERMAL_EVENT.EVENTS) 5 % 2 ^ 6 := by
        refine (State.rd_wr_apart s3 _ _ _ _ _ (by decide +kernel)).trans ((State.rd_wr_apart s2 _ _ _ _ _ (by decide +kernel)).trans ?_)
        rw [hs2]
        exact State.rd_wr_same _ _ _ _ _ rfl (by decide)
      rw [hevents]
      exact hasBit_setBit_event _
  · rw [hout, if_neg (by rw [State.on_eq_false.mpr (by exact hlink)]; decide)]
    rfl

theorem State.driveBand_refused {c : Nat} {v : Bool} (h : a.hasUnit u = false ∨ v = false) : a.driveBand u c v = a :=
  if_pos (by rcases h with h | h <;> simp [h])

end

/-! ### The barrier link up again -/

theorem State.showInputs_reads (s : State) {u : Nat} (hu : u < 4) : ∀ x, x < 4 →
    (s.showInputs u).rd Reg.DRV_LEG_STATUS.INPUT_ACTIVE u x = b01 (legInputs (s.drv u).inputs x) := by
  unfold State.showInputs
  extract_lets w
  have hall := (State.each_forall (I := fun _ => True) (P := fun x v => v.rd Reg.DRV_LEG_STATUS.INPUT_ACTIVE u x = b01 (legInputs w x))
    (l := upTo 4) (s := s) (f := fun s x => s.wr Reg.DRV_LEG_STATUS.INPUT_ACTIVE
      (b01 (hasBit w (4 * x) || hasBit w (4 * x + 1) || hasBit w (4 * x + 2))) u x) trivial (fun _ _ _ _ => trivial) (fun v _ x hx => ?_)
    fun v _ x _ y hxy hy => (State.rd_wr_otherLeg v _ _ u (Ne.symm hxy) (by decide)).trans hy).2
  · exact fun x hx => hall x (mem_upTo.mpr hx)
  · have hhas : Reg.DRV_LEG_STATUS.INPUT_ACTIVE.has u x = true := by
      simp [Field.has, Reg.DRV_LEG_STATUS.INPUT_ACTIVE, hu, mem_upTo.mp hx]
    exact (State.rd_wr_same v _ _ _ _ hhas (by decide)).trans (b01_mod _)

/-- The filters of a unit's ΔΣ channels restart without an output (R239). -/
theorem State.dsRestart_out (s : State) (u : Nat) : ∀ k, k < 4 → ((s.dsRestart u).dsCh (4 * u + k)).out = none := by
  have hsame : ∀ (v : State) n f, (v.modDs n f).dsCh n = f (v.dsCh n) := fun v n f => Tbl.look_put_same ..
  have hother : ∀ (v : State) n f m, m ≠ n → (v.modDs n f).dsCh m = v.dsCh m := fun v n f m h => Tbl.look_put_ne _ _ _ _ h
  have hall := (State.each_forall (I := fun _ => True) (P := fun k v => (v.dsCh (4 * u + k)).out = none) (l := upTo 4) (s := s)
    (f := fun s k => s.modDs (4 * u + k) fun d =>
      { d with integ := List.replicate d.cfg.order 0, comb := List.replicate d.cfg.order 0, settle := d.cfg.order, out := none })
    trivial (fun _ _ _ _ => trivial) (fun v _ k _ => by rw [hsame]) fun v _ k _ j hkj hj => ?_).2
  · exact fun k hk => hall k (mem_upTo.mpr hk)
  · rw [hother v _ _ _ (by omega)]
    exact hj

/-- The first link after a DEV reset clears the drive side's record of trips (R257). -/
def DrvSt.cleared (d : DrvSt) : DrvSt :=
  if d.linkSeen then d else { d with trips := [], latched := 0, unreported := [], linkSeen := true }

/-- The link shown up, with the drive side's status (R18, R239). -/
def State.linkShown (s : State) (u : Nat) : State :=
  let s := (s.wr Reg.DRV_STATUS.LINK 1 u).wrBit Reg.DOMAIN_STATE.DRV_LINK u true
  let s := (s.wr Reg.DRV_EVENT.LINK 1 u).dsRestart u
  let s := (s.showVdrv u).wr Reg.DRV_STATUS.OT_SHUT (b01 (s.drv u).otLatch) u
  s.wr Reg.DRV_STATUS.BAND (s.drv u).band u

/-- The first link after a DEV reset clears the drive side's fault state, and the leg faults and inputs are shown (R257). -/
def State.linkCleared (s : State) (u : Nat) : State :=
  let s := s.when (!(s.drv u).linkSeen) fun s =>
    (s.modDrv u fun d => { d with trips := [], latched := 0, unreported := [], linkSeen := true }).each (upTo 4) fun s x =>
      s.modLeg u x fun l => { l with tripHs := false, tripLs := false, tripIs := false, vbUv := false, interlock := false }
  (s.showLegFaults u).showInputs u

/-- The link up, before the trips taken meanwhile are told. -/
def State.linkUp (s : State) (u : Nat) : State :=
  ((s.linkShown u).linkCleared u).modDrv u (fun d => { d with unreported := [] }) |>.waiting u

/-- The trips taken while the link was down are told, in their order, and the motor follows each. -/
def State.tellTrips (s : State) (u : Nat) (told : List (Nat × Nat)) : State :=
  s.each told fun s p => (s.tripReport u p.1 p.2).motTrip u p.1

/-- What the drive side tells when the link is up: the trips taken meanwhile, and the latch. -/
def State.linkTells (s : State) (u : Nat) (told : List (Nat × Nat)) : State := (s.tellTrips u told).showLatch u

theorem State.linkRecover_eq {s : State} {u : Nat} (hunit : s.hasUnit u = true) (hheld : s.power.held = false)
    (hlink : s.rd Reg.DRV_STATUS.LINK u = 0) :
    s.linkRecover u = (s.linkUp u).linkTells u (((s.linkShown u).linkCleared u).drv u).unreported :=
  if_neg (by simp [hunit, hheld, State.on_eq_false.mpr hlink])

theorem State.linkRecover_refused {s : State} {u : Nat} (h : s.hasUnit u = false ∨ s.power.held = true ∨
    s.rd Reg.DRV_STATUS.LINK u ≠ 0) : s.linkRecover u = s :=
  if_pos (by rcases h with h | h | h <;> simp [State.on, h])

end Sys2Proof.Machine
end
section
namespace Sys2Proof.Machine

set_option Elab.async false

/-! ### The link up: its registers and the drive side's record -/

section
variable (s : State) {u : Nat}

theorem State.linkShown_effect (u : Nat) : Effect [.adc] (some [Reg.DOMAIN_STATE.DRV_LINK, Reg.DRV_STATUS.LINK, Reg.DRV_STATUS.VDRV_OK,
    Reg.DRV_STATUS.OT_SHUT, Reg.DRV_STATUS.BAND, Reg.DRV_LEG_STATUS.UVLO, Reg.DRV_EVENT.LINK]) s (s.linkShown u) := by
  unfold State.linkShown
  refine Effect.after (State.wr_effect ..) (by decide +kernel) (Effect.after (State.wr_effect ..) (by decide +kernel) ?_)
  refine Effect.after (State.showVdrv_effect ..) (by decide +kernel) (Effect.after (State.dsRestart_effect ..) (by decide +kernel) ?_)
  refine Effect.after (State.wr_effect ..) (by decide +kernel) (Effect.after (State.wrBit_effect ..) (by decide +kernel) ?_)
  exact (State.wr_effect ..).widen (by decide +kernel)

/-- The status of the drive side as the link shows it (R18, R257). -/
theorem State.linkShown_reads (hu : u < 4) : (s.linkShown u).rd Reg.DRV_STATUS.LINK u = 1 ∧
    hasBit ((s.linkShown u).rd Reg.DOMAIN_STATE.DRV_LINK) u = true ∧ (s.linkShown u).rd Reg.DRV_EVENT.LINK u = 1 ∧
    (s.linkShown u).rd Reg.DRV_STATUS.VDRV_OK u = b01 (s.drv u).vdrv ∧
    (s.linkShown u).rd Reg.DRV_STATUS.OT_SHUT u = b01 (s.drv u).otLatch ∧ (s.linkShown u).rd Reg.DRV_STATUS.BAND u = (s.drv u).band % 4 ∧
    ∀ k, k < 4 → ((s.linkShown u).dsCh (4 * u + k)).out = none := by
  let s1 := s.wr Reg.DRV_STATUS.LINK 1 u
  let s2 := s1.wrBit Reg.DOMAIN_STATE.DRV_LINK u true
  let s3 := s2.wr Reg.DRV_EVENT.LINK 1 u
  let s4 := s3.dsRestart u
  let s5 := s4.showVdrv u
  let s6 := s5.wr Reg.DRV_STATUS.OT_SHUT (b01 (s4.drv u).otLatch) u
  have hout : s.linkShown u = s6.wr Reg.DRV_STATUS.BAND (s6.drv u).band u := rfl
  have hdrv4 : s4.drv u = s.drv u := by
    rw [(State.dsRestart_effect s3 u).drv u, (State.wr_effect ..).drv u, (State.wrBit_effect ..).drv u, (State.wr_effect ..).drv u]
  have hdrv6 : s6.drv u = s.drv u := ((State.wr_effect ..).drv u).trans (((State.showVdrv_effect s4 u).drv u).trans hdrv4)
  have hlater : ∀ f i, ([Reg.DRV_STATUS.VDRV_OK, Reg.DRV_LEG_STATUS.UVLO, Reg.DRV_STATUS.OT_SHUT, Reg.DRV_STATUS.BAND].all
      fun g => f.apart g) = true → (s.linkShown u).rd f i = s3.rd f i := fun f i hf => by
    simp only [List.all_cons, Bool.and_eq_true, List.all_nil] at hf
    obtain ⟨hok, huvlo, hot, hband, -⟩ := hf
    rw [hout, State.rd_wr_apart _ _ _ _ _ _ hband, State.rd_wr_apart _ _ _ _ _ _ hot,
      (State.showVdrv_effect s4 u).rd f i 0 (by simp [hok, huvlo]), (State.dsRestart_effect s3 u).rd f i 0 rfl]
  refine ⟨?_, ?_, ?_, ?_, ?_, ?_, fun k hk => ?_⟩
  · rw [hlater _ _ (by decide +kernel)]
    refine (State.rd_wr_apart _ _ _ _ _ _ (by decide +kernel)).trans ((State.rd_wr_apart _ _ _ _ _ _ (by decide +kernel)).trans ?_)
    exact State.rd_wr_unit _ _ _ hu
  · rw [hlater _ _ (by decide +kernel)]
    have hbits : s3.rd Reg.DOMAIN_STATE.DRV_LINK = setBit (s1.rd Reg.DOMAIN_STATE.DRV_LINK) u % 2 ^ 4 :=
      (State.rd_wr_apart _ _ _ _ _ _ (by decide +kernel)).trans (State.rd_wr_same _ _ _ _ _ rfl (by decide))
    rw [hbits]
    exact hasBit_setBit_mod _ hu
  · rw [hlater _ _ (by decide +kernel)]
    exact State.rd_wr_unit _ _ _ hu
  · rw [hout, State.rd_wr_apart _ _ _ _ _ _ (by decide +kernel), State.rd_wr_apart _ _ _ _ _ _ (by decide +kernel), ← hdrv4]
    exact (s4.showVdrv_reads hu).1
  · rw [hout, State.rd_wr_apart _ _ _ _ _ _ (by decide +kernel), State.rd_wr_unit _ _ _ hu, hdrv4]
    exact b01_mod _
  · rw [hout, State.rd_wr_unit _ _ _ hu, hdrv6]
    rfl
  · have hadc : (s.linkShown u).adc = s4.adc := by
      rw [hout, State.wr_adc, State.wr_adc, (State.showVdrv_effect s4 u).same .adc (by decide)]
    rw [State.dsCh, hadc]
    exact State.dsRestart_out s3 u k hk

theorem State.linkShown_drv (u : Nat) : (s.linkShown u).drv u = s.drv u := (s.linkShown_effect u).drv u

theorem State.linkCleared_effect (u : Nat) : Effect [.drives] (some [Reg.DRV_STATUS.LEG_FAULT, Reg.DRV_LEG_STATUS.DESAT_HS,
    Reg.DRV_LEG_STATUS.DESAT_LS, Reg.DRV_LEG_STATUS.INSTANT, Reg.DRV_LEG_STATUS.VB_UV, Reg.DRV_LEG_STATUS.INPUT_ACTIVE])
    s (s.linkCleared u) := by
  unfold State.linkCleared
  refine Effect.after (State.showInputs_effect ..) (by decide +kernel) (Effect.after (State.showLegFaults_effect ..) (by decide +kernel) ?_)
  refine (Effect.refl _ _ s).when fun v => Effect.each ((State.modDrv_effect ..).widen (by decide +kernel)) fun w x => ?_
  exact (State.modLeg_effect ..).widen (by decide +kernel)

theorem State.linkCleared_unit (u : Nat) : ((s.linkCleared u).drv u).unit = (s.drv u).cleared.unit := by
  unfold State.linkCleared
  extract_lets s1
  rw [(State.showInputs_effect ..).drv u, (State.showLegFaults_effect s1 u).drv u]
  unfold s1 State.when DrvSt.cleared
  cases (s.drv u).linkSeen
  · refine (State.each_keeps (fun v => (v.drv u).unit) (fun v x => State.modLeg_unit ..) _).trans ?_
    rw [State.modDrv_same]
    rfl
  · rfl

theorem State.linkCleared_inputs (hu : u < 4) : ∀ x, x < 4 →
    (s.linkCleared u).rd Reg.DRV_LEG_STATUS.INPUT_ACTIVE u x = b01 (legInputs (s.drv u).inputs x) := by
  unfold State.linkCleared
  extract_lets s1
  have hunit : ((s1.showLegFaults u).drv u).inputs = (s.drv u).inputs := by
    have h := (State.showInputs_effect (s1.showLegFaults u) u).drv u
    have hcleared := congrArg DrvSt.inputs (s.linkCleared_unit u)
    rw [← h]
    refine hcleared.trans ?_
    unfold DrvSt.cleared
    split <;> rfl
  rw [← hunit]
  exact State.showInputs_reads _ hu

/-- The trips that are told: those taken while the link was down, none after a DEV reset. -/
theorem State.linkCleared_unreported (u : Nat) : ((s.linkCleared u).drv u).unreported = (s.drv u).cleared.unreported :=
  (congrArg DrvSt.unreported (s.linkCleared_unit u) :)

theorem State.linkUp_after (u : Nat) : Effect [.drives] (some [Reg.DRV_STATUS.LEG_FAULT, Reg.DRV_LEG_STATUS.DESAT_HS,
    Reg.DRV_LEG_STATUS.DESAT_LS, Reg.DRV_LEG_STATUS.INSTANT, Reg.DRV_LEG_STATUS.VB_UV, Reg.DRV_LEG_STATUS.INPUT_ACTIVE,
    Reg.DRV_LEG_STATUS.GATES_OFF]) (s.linkShown u) (s.linkUp u) := by
  unfold State.linkUp
  refine Effect.after (State.waiting_effect ..) (by decide +kernel) (Effect.after (State.modDrv_effect ..) (by decide +kernel) ?_)
  exact (State.linkCleared_effect ..).widen (by decide +kernel)

theorem State.linkUp_effect (u : Nat) : Effect [.adc, .drives] (some [Reg.DOMAIN_STATE.DRV_LINK, Reg.DRV_STATUS.LINK,
    Reg.DRV_STATUS.VDRV_OK, Reg.DRV_STATUS.OT_SHUT, Reg.DRV_STATUS.BAND, Reg.DRV_STATUS.LEG_FAULT, Reg.DRV_LEG_STATUS.DESAT_HS,
    Reg.DRV_LEG_STATUS.DESAT_LS, Reg.DRV_LEG_STATUS.INSTANT, Reg.DRV_LEG_STATUS.VB_UV, Reg.DRV_LEG_STATUS.UVLO,
    Reg.DRV_LEG_STATUS.INPUT_ACTIVE, Reg.DRV_LEG_STATUS.GATES_OFF, Reg.DRV_EVENT.LINK]) s (s.linkUp u) :=
  Effect.after (s.linkUp_after u) (by decide +kernel) ((s.linkShown_effect u).widen (by decide +kernel))

theorem State.linkUp_unit (u : Nat) : ((s.linkUp u).drv u).unit = { (s.drv u).cleared.unit with unreported := [] } := by
  refine (State.waiting_unitStep ..).unit.trans ?_
  rw [State.modDrv_same]
  have h := s.linkShown u |>.linkCleared_unit u
  rw [s.linkShown_drv u] at h
  exact congrArg (fun d : DrvSt => { d with unreported := [] }) h

theorem State.linkUp_waits (u : Nat) : ∀ x, x < 4 → ((s.linkUp u).leg u x).waitEdge = true := State.waiting_waits _ u

theorem State.linkUp_gatesOff (hu : u < 4) : gatesOff (s.linkUp u) u := State.waiting_gatesOff _ hu

theorem State.linkUp_inputs (hu : u < 4) : ∀ x, x < 4 →
    (s.linkUp u).rd Reg.DRV_LEG_STATUS.INPUT_ACTIVE u x = b01 (legInputs (s.drv u).inputs x) := by
  intro x hx
  rw [← s.linkShown_drv u, ← (s.linkShown u).linkCleared_inputs hu x hx]
  exact (State.waiting_effect ..).rd _ u x (by decide +kernel)

end

/-! ### What the drive side tells -/

theorem UnitStep.tripReport {u : Nat} {s t : State} (h : UnitStep u s t) {x cause : Nat} : UnitStep u s (t.tripReport u x cause) :=
  h.op (State.tripReport_effect ..)

theorem UnitStep.motTo {u : Nat} {s t : State} (h : UnitStep u s t) {st : Nat} : UnitStep u s (t.motTo u st) := h.op (State.motTo_effect ..)

theorem UnitStep.chopFail {u : Nat} {s t : State} (h : UnitStep u s t) : UnitStep u s (t.chopFail u) := by
  unfold State.chopFail
  extract_lets s1 s2 s3 slow s4
  have h1 : UnitStep u s s1 := h.when fun v =>
    (((UnitStep.refl u v).op (State.wr_effect ..)).op (State.wr_effect ..)).op (State.bump_effect ..)
  have h3 : UnitStep u s s3 := UnitStep.command ((h1.op (State.modMot_effect ..)).op (State.wr_effect ..))
  exact motGates (ite h3.motTo h3)

theorem UnitStep.motTrip {u : Nat} {s t : State} (h : UnitStep u s t) {x : Nat} : UnitStep u s (t.motTrip u x) := by
  unfold State.motTrip
  extract_lets
  exact ite h (ite h.chopFail (ite (motGates h.motTo) h))

theorem UnitStep.showLatch {u : Nat} {s t : State} (h : UnitStep u s t) : UnitStep u s (t.showLatch u) := by
  unfold State.showLatch
  extract_lets cause s1 s2 s3
  have h1 : UnitStep u s s1 := ((h.op (State.wr_effect ..)).op (State.wr_effect ..)).op (State.wr_effect ..)
  have h3 : UnitStep u s s3 := (h1.op (State.raise_effect ..)).when fun v => motGates (UnitStep.refl u v).motTo
  exact ite h h3.showActive

theorem UnitStep.tellTrips {u : Nat} {s t : State} (h : UnitStep u s t) {told : List (Nat × Nat)} : UnitStep u s (t.tellTrips u told) :=
  h.each fun v _ => (UnitStep.refl u v).tripReport.motTrip

theorem UnitStep.linkTells {u : Nat} {s t : State} (h : UnitStep u s t) {told : List (Nat × Nat)} : UnitStep u s (t.linkTells u told) :=
  h.tellTrips.showLatch

end Sys2Proof.Machine
end
section
namespace Sys2Proof.Machine

set_option Elab.async false

/-! ### The trips and the latch that the drive side tells -/

theorem State.each_append {α : Type} (s : State) (l m : List α) (f : State → α → State) : s.each (l ++ m) f = (s.each l f).each m f :=
  List.foldl_append ..

theorem State.rd64_wr64 (s : State) {lo hi : Field} (v : Nat) {i : Nat} (hapart : lo.apart hi = true)
    (hlo : lo.has i 0 = true ∧ lo.dom ≠ .fixed ∧ lo.width = 32) (hhi : hi.has i 0 = true ∧ hi.dom ≠ .fixed ∧ hi.width = 32) :
    (s.wr64 lo hi v i).rd64 lo hi i = v % 2 ^ 64 := by
  obtain ⟨hlon, hlod, hlow⟩ := hlo
  obtain ⟨hhin, hhid, hhiw⟩ := hhi
  rw [State.wr64, State.rd64, State.rd_wr_apart _ _ _ _ _ _ hapart, State.rd_wr_same _ _ _ _ _ hlon hlod, State.rd_wr_same _ _ _ _ _ hhin hhid,
    hlow, hhiw]
  omega

section
variable (s : State) {u : Nat}

theorem State.tripReport_reads (hu : u < 4) (x cause : Nat) : (s.tripReport u x cause).rd Reg.DRV_EVENT.TRIP u = 1 ∧
    (s.tripReport u x cause).rd Reg.DRV_TRIP.LAST_LEG u = x % 4 ∧ (s.tripReport u x cause).rd Reg.DRV_TRIP.LAST_CAUSE u = cause % 4 ∧
    (s.tripReport u x cause).rd64 Reg.DRV_TRIP_NS_LO.NS Reg.DRV_TRIP_NS_HI.NS u = s.count % 2 ^ 64 := by
  let s1 := (s.bump Reg.DRV_TRIP.COUNT 1 u).wr Reg.DRV_TRIP.LAST_LEG x u
  let s2 := s1.wr Reg.DRV_TRIP.LAST_CAUSE cause u
  let s3 := s2.wr64 Reg.DRV_TRIP_NS_LO.NS Reg.DRV_TRIP_NS_HI.NS s1.count u
  let s4 := s3.wr Reg.DRV_EVENT.TRIP 1 u
  have hout : s.tripReport u x cause = s4.raise 33 (4 * u + x) := rfl
  have hraise : ∀ f ∈ [Reg.DRV_EVENT.TRIP, Reg.DRV_TRIP.LAST_LEG, Reg.DRV_TRIP.LAST_CAUSE, Reg.DRV_TRIP_NS_LO.NS, Reg.DRV_TRIP_NS_HI.NS],
      (s.tripReport u x cause).rd f u = s4.rd f u := fun f hf =>
    Effect.rd (State.raise_effect s4 33 (4 * u + x)) f u 0 (by revert f; decide +kernel)
  have hthen : ∀ f ∈ [Reg.DRV_TRIP.LAST_LEG, Reg.DRV_TRIP.LAST_CAUSE], s4.rd f u = s2.rd f u := fun f hf =>
    (State.rd_wr_apart _ _ _ _ _ _ (by revert f; decide +kernel)).trans
      ((State.wr64_effect ..).rd f u 0 (by revert f; decide +kernel))
  have hcount : s1.count = s.count := by
    have htime : s1.time = s.time := (State.wr_time ..).trans (State.wr_time ..)
    rw [State.count_eq, State.count_eq, htime]
  refine ⟨?_, ?_, ?_, ?_⟩
  · rw [hraise _ (by simp)]
    exact State.rd_wr_unit _ _ _ hu
  · rw [hraise _ (by simp), hthen _ (by simp)]
    exact (State.rd_wr_apart _ _ _ _ _ _ (by decide +kernel)).trans (State.rd_wr_unit _ _ _ hu)
  · rw [hraise _ (by simp), hthen _ (by simp)]
    exact State.rd_wr_unit _ _ _ hu
  · have hns : ∀ f ∈ [Reg.DRV_TRIP_NS_LO.NS, Reg.DRV_TRIP_NS_HI.NS], s4.rd f u = s3.rd f u := fun f hf =>
      State.rd_wr_apart _ _ _ _ _ _ (by revert f; decide +kernel)
    rw [State.rd64, hraise _ (by simp), hraise Reg.DRV_TRIP_NS_HI.NS (by simp), hns _ (by simp), hns _ (by simp), ← hcount]
    exact s2.rd64_wr64 s1.count (by decide +kernel) ⟨Field.has_unit hu (by decide), by decide, rfl⟩
      ⟨Field.has_unit hu (by decide), by decide, rfl⟩

/-- The latch that the logic side learns is shown and raised, and a unit in MOTOR mode is in FAULT (R257). -/
theorem State.showLatch_does (hu : u < 4) (hlink : s.on Reg.DRV_STATUS.LINK u = true) (hfirst : s.rd Reg.DRV_STATUS.LATCHED u = 0)
    (hlatched : (s.drv u).latched ≠ 0) : (s.showLatch u).rd Reg.DRV_STATUS.LATCHED u = 1 ∧
      (s.showLatch u).rd Reg.DRV_STATUS.LATCH_CAUSE u = (s.drv u).latched % 4 ∧ (s.showLatch u).rd Reg.DRV_EVENT.LATCH u = 1 ∧
      ((s.drv u).act.mode = mdMotor → (s.showLatch u).mstate u = msFault) ∧
      ∀ a : State, s.evtAt = a.evtAt → a.mayRaise = true → raises a (s.showLatch u) 34 (4 * u + (s.drv u).latched) := by
  let cause := (s.drv u).latched
  let s1 := ((s.wr Reg.DRV_STATUS.LATCHED 1 u).wr Reg.DRV_STATUS.LATCH_CAUSE cause u).wr Reg.DRV_EVENT.LATCH 1 u
  let s2 := s1.raise 34 (4 * u + cause)
  let s3 := s2.when (decide ((s2.drv u).act.mode = mdMotor)) fun s => (s.motTo u msFault).motGates u
  have hout : s.showLatch u = s3.showActive u := if_neg (by simp [hlink, State.on_eq_false.mpr hfirst, hlatched])
  have hs1 : Effect [] (some [Reg.DRV_STATUS.LATCHED, Reg.DRV_STATUS.LATCH_CAUSE, Reg.DRV_EVENT.LATCH]) s s1 := by
    refine Effect.after (State.wr_effect ..) (by decide +kernel) (Effect.after (State.wr_effect ..) (by decide +kernel) ?_)
    exact (State.wr_effect ..).widen (by decide +kernel)
  have hdrv : s2.drv u = s.drv u := ((State.raise_effect ..).drv u).trans (hs1.drv u)
  have hlater : ∀ f ∈ [Reg.DRV_STATUS.LATCHED, Reg.DRV_STATUS.LATCH_CAUSE, Reg.DRV_EVENT.LATCH], (s3.showActive u).rd f u = s1.rd f u := by
    intro f hf
    refine (Effect.rd (State.showActive_effect s3 u) f u 0 (by revert f; decide +kernel)).trans ?_
    refine (State.when_keeps (·.rd f u) (fun v => ?_) s2).trans (Effect.rd (State.raise_effect s1 34 _) f u 0 (by revert f; decide +kernel))
    exact (Effect.rd (State.motGates_effect ..) f u 0 (by revert f; decide +kernel)).trans
      (Effect.rd (State.motTo_effect v u msFault false) f u 0 (by revert f; decide +kernel))
  rw [hout]
  refine ⟨?_, ?_, ?_, fun hmotor => ?_, fun a ha hmay => ?_⟩
  · rw [hlater _ (by simp)]
    refine (State.rd_wr_apart _ _ _ _ _ _ (by decide +kernel)).trans ((State.rd_wr_apart _ _ _ _ _ _ (by decide +kernel)).trans ?_)
    exact State.rd_wr_unit _ _ _ hu
  · rw [hlater _ (by simp)]
    exact (State.rd_wr_apart _ _ _ _ _ _ (by decide +kernel)).trans (State.rd_wr_unit _ _ _ hu)
  · rw [hlater _ (by simp)]
    exact State.rd_wr_unit _ _ _ hu
  · have hs3 : s3 = (s2.motTo u msFault).motGates u := if_pos (by rw [hdrv]; exact decide_eq_true hmotor)
    have hshown : (s3.showActive u).mstate u = s3.mstate u := Effect.rd (State.showActive_effect s3 u) _ u 0 (by decide +kernel)
    rw [hshown, hs3, State.motGates_mstate]
    exact State.motTo_mstate hu (by decide)
  · have hfaults : s3.faults = s2.faults := State.when_keeps (·.faults) (fun v => (State.motGates_faults ..).trans
      (State.motTo_faults (by decide))) s2
    rw [raises, (State.showActive_effect s3 u).same .faults (by decide), hfaults]
    exact raises_raise ((hs1.evtAt (congrArg PowerSt.bridge (hs1.same .power (by decide)))).trans ha) hmay rfl _

/-- The register fields that move as a latch is shown outside MOTOR mode. -/
def movesLatch : List Field := State.raise_fields.getD [] ++ [Reg.DRV_STATUS.LATCHED, Reg.DRV_STATUS.LATCH_CAUSE, Reg.DRV_CARRIER_ACT.TOP,
  Reg.DRV_LEG_STATUS.CMP_ACT, Reg.DRV_LEG_STATUS.MODE_ACT, Reg.DRV_EVENT.LATCH]

/-- Outside MOTOR mode a latch that is shown leaves the drive units. -/
theorem State.showLatch_plain (hmode : (s.drv u).act.mode ≠ mdMotor) :
    Effect [.faults] (some movesLatch) s (s.showLatch u) := by
  unfold State.showLatch
  extract_lets cause s1 s2 s3
  split
  · exact Effect.refl ..
  · have h2 : Effect [.faults] (some movesLatch) s s2 := by
      refine Effect.after (State.raise_effect ..) (by decide +kernel) (Effect.after (State.wr_effect ..) (by decide +kernel) ?_)
      exact Effect.after (State.wr_effect ..) (by decide +kernel) ((State.wr_effect ..).widen (by decide +kernel))
    have h3 : s3 = s2 := if_neg (by rw [h2.drv u]; simpa using hmode)
    rw [h3]
    exact h2.step (State.showActive_effect ..) (by decide +kernel)

/-- Without a latch, or with the latch shown already, there is nothing to show. -/
theorem State.showLatch_none (h : (s.drv u).latched = 0) : s.showLatch u = s := if_pos (by simp [h])

/-! ### All that is told -/

/-- The register fields that move as the drive side tells its trips. -/
def movesTrips : List Field := State.tripReport_fields.getD [] ++ State.motTrip_fields.getD []

/-- The register fields that move as the drive side tells its trips and its latch. -/
def movesTell : List Field := movesTrips ++ State.showLatch_fields.getD []

@[simp] theorem State.tellTrips_nil (u : Nat) : s.tellTrips u [] = s := rfl

theorem State.tellTrips_effect (u : Nat) (told : List (Nat × Nat)) : Effect [.faults, .drives, .motors] (some movesTrips) s
    (s.tellTrips u told) := by
  refine (Effect.refl ..).each fun v p => ?_
  have hreport : Effect [.faults, .drives, .motors] (some movesTrips) v (v.tripReport u p.1 p.2) :=
    (Effect.more (State.tripReport_effect ..) (by decide +kernel)).grow (by decide)
  refine hreport.step (A := [.faults, .drives, .motors]) (B := [.faults, .drives, .motors]) ?_ (Effect.fits_refl _ (some movesTrips))
  exact (Effect.more (State.motTrip_effect ..) (by decide +kernel)).grow (by decide)

theorem State.linkTells_effect (u : Nat) (told : List (Nat × Nat)) :
    Effect [.faults, .drives, .motors] (some movesTell) s (s.linkTells u told) :=
  ((s.tellTrips_effect u told).more (by decide +kernel)).step ((Effect.more (State.showLatch_effect ..) (by decide +kernel)).grow (by decide))
    (Effect.fits_refl _ (some movesTell))

theorem State.linkTells_nothing (h : (s.drv u).latched = 0) : s.linkTells u [] = s := s.showLatch_none h

/-- The last trip that is told is the one shown (R255). -/
theorem State.linkTells_last (hu : u < 4) {told : List (Nat × Nat)} {p : Nat × Nat} (h : told.getLast? = some p) :
    (s.linkTells u told).rd Reg.DRV_EVENT.TRIP u = 1 ∧ (s.linkTells u told).rd Reg.DRV_TRIP.LAST_LEG u = p.1 % 4 ∧
      (s.linkTells u told).rd Reg.DRV_TRIP.LAST_CAUSE u = p.2 % 4 ∧
      (s.linkTells u told).rd64 Reg.DRV_TRIP_NS_LO.NS Reg.DRV_TRIP_NS_HI.NS u = s.count % 2 ^ 64 := by
  obtain ⟨first, rfl⟩ := List.getLast?_eq_some_iff.mp h
  let v := s.tellTrips u first
  have hout : s.linkTells u (first ++ [p]) = ((v.tripReport u p.1 p.2).motTrip u p.1).showLatch u := by
    rw [State.linkTells, State.tellTrips, State.each_append]
    rfl
  have hcount : v.count = s.count := by
    rw [State.count_eq, State.count_eq, (s.tellTrips_effect u first).same .time (by decide)]
  have hlater : ∀ f ∈ [Reg.DRV_EVENT.TRIP, Reg.DRV_TRIP.LAST_LEG, Reg.DRV_TRIP.LAST_CAUSE, Reg.DRV_TRIP_NS_LO.NS, Reg.DRV_TRIP_NS_HI.NS],
      (s.linkTells u (first ++ [p])).rd f u = (v.tripReport u p.1 p.2).rd f u := by
    intro f hf
    rw [hout]
    exact (Effect.rd (State.showLatch_effect ..) f u 0 (by revert f; decide +kernel)).trans
      (Effect.rd (State.motTrip_effect ..) f u 0 (by revert f; decide +kernel))
  obtain ⟨htrip, hleg, hcause, hns⟩ := v.tripReport_reads hu p.1 p.2
  refine ⟨(hlater _ (by simp)).trans htrip, (hlater _ (by simp)).trans hleg, (hlater _ (by simp)).trans hcause, ?_⟩
  rw [← hcount, ← hns, State.rd64, State.rd64, hlater _ (by simp), hlater _ (by simp)]

/-- The register fields that move as the drive side tells its trips and its latch outside MOTOR mode. -/
def movesPlain : List Field := State.tripReport_fields.getD [] ++ movesLatch

/-- Outside MOTOR mode what is told leaves the drive units, and of the gates nothing is shown anew. -/
theorem State.linkTells_plain (hmode : (s.drv u).act.mode ≠ mdMotor) (told : List (Nat × Nat)) :
    Effect [.faults] (some movesPlain) s (s.linkTells u told) := by
  have htrips : ∀ told : List (Nat × Nat), ∀ v : State, (v.drv u).act.mode ≠ mdMotor →
      Effect [.faults] State.tripReport_fields v (v.tellTrips u told) := by
    intro told
    induction told with
    | nil => exact fun _ _ => Effect.refl ..
    | cons p told ih =>
      intro v hv
      have hreport : Effect [.faults] State.tripReport_fields v (v.tripReport u p.1 p.2) := State.tripReport_effect ..
      have hw : ((v.tripReport u p.1 p.2).drv u).act.mode ≠ mdMotor := by rw [hreport.drv u]; exact hv
      have hstay : (v.tripReport u p.1 p.2).motTrip u p.1 = v.tripReport u p.1 p.2 := if_pos hw
      have hrest := hreport.step (ih _ hw) (Effect.fits_refl _ _)
      rw [← hstay] at hrest
      exact hrest
  let v := s.tellTrips u told
  have hv : Effect [.faults] (some movesPlain) s v :=
    (htrips told s hmode).more (by decide +kernel)
  have hvmode : (v.drv u).act.mode ≠ mdMotor := by rw [hv.drv u]; exact hmode
  exact hv.step (v.showLatch_plain hvmode |>.more (G := movesPlain) (by decide +kernel)) (Effect.fits_refl ..)

end

end Sys2Proof.Machine
end
section
namespace Sys2Proof.Machine

set_option Elab.async false

/-! ### The link up again -/

theorem DrvSt.cleared_of_seen {d : DrvSt} (h : d.linkSeen = true) : d.cleared = d := if_pos h

theorem DrvSt.cleared_linkSeen (d : DrvSt) : d.cleared.linkSeen = true := by
  unfold DrvSt.cleared
  split
  · assumption
  · rfl

theorem DrvSt.cleared_latched {d : DrvSt} (h : d.linkSeen = false ∨ d.latched = 0) : d.cleared.latched = 0 := by
  unfold DrvSt.cleared
  split
  · exact h.resolve_left (by simp_all)
  · rfl

theorem DrvSt.cleared_act (d : DrvSt) : d.cleared.act = d.act := by unfold DrvSt.cleared; split <;> rfl

section
variable {a : State} {u : Nat}

theorem State.linkUp_act : ((a.linkUp u).drv u).act = (a.drv u).act :=
  (congrArg DrvSt.act (a.linkUp_unit u) :).trans (DrvSt.cleared_act _)

theorem State.linkUp_latched : ((a.linkUp u).drv u).latched = (a.drv u).cleared.latched := (congrArg DrvSt.latched (a.linkUp_unit u) :)

section
variable (hunit : a.hasUnit u = true) (hheld : a.power.held = false) (hlink : a.rd Reg.DRV_STATUS.LINK u = 0)
include hunit hheld hlink

theorem State.linkRecover_tells : a.linkRecover u = (a.linkUp u).linkTells u (a.drv u).cleared.unreported := by
  rw [State.linkRecover_eq hunit hheld hlink, State.linkCleared_unreported, State.linkShown_drv]

theorem State.linkRecover_rd {f : Field} {i j : Nat} (hf : (movesTell.all fun g => f.apart g) = true) :
    (a.linkRecover u).rd f i j = (a.linkUp u).rd f i j := by
  rw [State.linkRecover_tells hunit hheld hlink]
  exact (State.linkTells_effect ..).rd f i j hf

theorem State.linkRecover_adc : (a.linkRecover u).adc = (a.linkShown u).adc := by
  rw [State.linkRecover_tells hunit hheld hlink, (State.linkTells_effect ..).same .adc (by decide), (a.linkUp_after u).same .adc (by decide)]

/-- The link and the drive side's status are shown (R18, R239, R257). -/
theorem State.linkRecover_reads (hu : u < 4) : (a.linkRecover u).rd Reg.DRV_STATUS.LINK u = 1 ∧
    hasBit ((a.linkRecover u).rd Reg.DOMAIN_STATE.DRV_LINK) u = true ∧ (a.linkRecover u).rd Reg.DRV_EVENT.LINK u = 1 ∧
    (a.linkRecover u).rd Reg.DRV_STATUS.VDRV_OK u = b01 (a.drv u).vdrv ∧
    (a.linkRecover u).rd Reg.DRV_STATUS.OT_SHUT u = b01 (a.drv u).otLatch ∧
    (a.linkRecover u).rd Reg.DRV_STATUS.BAND u = (a.drv u).band % 4 ∧
    (∀ x, x < 4 → (a.linkRecover u).rd Reg.DRV_LEG_STATUS.INPUT_ACTIVE u x = b01 (legInputs (a.drv u).inputs x)) ∧
    ∀ k, k < 4 → ((a.linkRecover u).dsCh (4 * u + k)).out = none := by
  have hshown : ∀ f ∈ [Reg.DRV_STATUS.LINK, Reg.DOMAIN_STATE.DRV_LINK, Reg.DRV_EVENT.LINK, Reg.DRV_STATUS.VDRV_OK, Reg.DRV_STATUS.OT_SHUT,
      Reg.DRV_STATUS.BAND], ∀ i, (a.linkRecover u).rd f i = (a.linkShown u).rd f i := fun f hf i => by
    refine (State.linkRecover_rd hunit hheld hlink (by revert f; decide +kernel)).trans ?_
    exact (a.linkUp_after u).rd f i 0 (by revert f; decide +kernel)
  obtain ⟨hup, hbit, hev, hok, hot, hband, hds⟩ := a.linkShown_reads hu
  refine ⟨?_, ?_, ?_, ?_, ?_, ?_, fun x hx => ?_, fun k hk => ?_⟩
  · rw [hshown _ (by simp), hup]
  · rw [hshown _ (by simp), hbit]
  · rw [hshown _ (by simp), hev]
  · rw [hshown _ (by simp), hok]
  · rw [hshown _ (by simp), hot]
  · rw [hshown _ (by simp), hband]
  · exact (State.linkRecover_rd hunit hheld hlink (by decide +kernel)).trans (a.linkUp_inputs hu x hx)
  · rw [State.dsCh, State.linkRecover_adc hunit hheld hlink]
    exact hds k hk

theorem State.linkRecover_unit : ((a.linkRecover u).drv u).unit = { (a.drv u).cleared.unit with unreported := [] } := by
  rw [State.linkRecover_tells hunit hheld hlink]
  exact (UnitStep.refl u _).linkTells.unit.trans (a.linkUp_unit u)

/-- Where the motor follows nothing that is told, the gates are off until the next input edge (R18). -/
theorem State.linkRecover_gates (hu : u < 4) (h : (a.drv u).act.mode ≠ mdMotor ∨ (a.drv u).linkSeen = false ∨
    (a.drv u).unreported = [] ∧ (a.drv u).latched = 0) :
    (∀ x, x < 4 → ((a.linkRecover u).leg u x).waitEdge = true) ∧ gatesOff (a.linkRecover u) u := by
  rw [State.linkRecover_tells hunit hheld hlink]
  have hquiet : (a.drv u).cleared.unreported = [] → (a.drv u).cleared.latched = 0 →
      (a.linkUp u).linkTells u (a.drv u).cleared.unreported = a.linkUp u := fun htold hlatched => by
    rw [htold]
    exact State.linkTells_nothing _ (State.linkUp_latched.trans hlatched)
  rcases h with hmode | hseen | ⟨htold, hlatched⟩
  · have hplain := (a.linkUp u).linkTells_plain (u := u) (by rw [State.linkUp_act]; exact hmode) (a.drv u).cleared.unreported
    exact ⟨fun x hx => by rw [hplain.leg u x]; exact a.linkUp_waits u x hx, hplain.gatesOff (a.linkUp_gatesOff hu)⟩
  · rw [hquiet (by simp [DrvSt.cleared, hseen]) (DrvSt.cleared_latched (.inl hseen))]
    exact ⟨a.linkUp_waits u, a.linkUp_gatesOff hu⟩
  · rw [hquiet (by unfold DrvSt.cleared; split <;> simp [htold]) (DrvSt.cleared_latched (.inr hlatched))]
    exact ⟨a.linkUp_waits u, a.linkUp_gatesOff hu⟩

/-- The last trip taken while the link was down is the one shown (R255). -/
theorem State.linkRecover_trip (hu : u < 4) (hseen : (a.drv u).linkSeen = true) {p : Nat × Nat}
    (hlast : (a.drv u).unreported.getLast? = some p) : (a.linkRecover u).rd Reg.DRV_EVENT.TRIP u = 1 ∧
      (a.linkRecover u).rd Reg.DRV_TRIP.LAST_LEG u = p.1 % 4 ∧ (a.linkRecover u).rd Reg.DRV_TRIP.LAST_CAUSE u = p.2 % 4 ∧
      (a.linkRecover u).rd64 Reg.DRV_TRIP_NS_LO.NS Reg.DRV_TRIP_NS_HI.NS u = a.count % 2 ^ 64 := by
  have hcount : (a.linkUp u).count = a.count := by
    rw [State.count_eq, State.count_eq, (a.linkUp_effect u).same .time (by decide)]
  rw [State.linkRecover_tells hunit hheld hlink, ← hcount]
  exact State.linkTells_last _ hu (by rw [DrvSt.cleared_of_seen hseen, hlast])

/-- Without a latch on the drive side, the one shown stays. -/
theorem State.linkRecover_latched (h : (a.drv u).linkSeen = false ∨ (a.drv u).latched = 0) :
    (a.linkRecover u).rd Reg.DRV_STATUS.LATCHED u = a.rd Reg.DRV_STATUS.LATCHED u := by
  let v := (a.linkUp u).tellTrips u (a.drv u).cleared.unreported
  have hstep : UnitStep u (a.linkUp u) v := (UnitStep.refl u _).tellTrips
  have hnone : (v.drv u).latched = 0 := hstep.latched.trans (State.linkUp_latched.trans (DrvSt.cleared_latched h))
  have hout : a.linkRecover u = v := (State.linkRecover_tells hunit hheld hlink).trans (v.showLatch_none hnone)
  rw [hout]
  exact (Effect.rd (State.tellTrips_effect ..) _ u 0 (by decide +kernel)).trans ((a.linkUp_effect u).rd _ u 0 (by decide +kernel))

/-- A latch taken while the link was down is shown and raised, and a unit in MOTOR mode is in FAULT (R257). -/
theorem State.linkRecover_latch (hu : u < 4) (hseen : (a.drv u).linkSeen = true) (hlatched : (a.drv u).latched ≠ 0)
    (hfirst : a.rd Reg.DRV_STATUS.LATCHED u = 0) : (a.linkRecover u).rd Reg.DRV_STATUS.LATCHED u = 1 ∧
      (a.linkRecover u).rd Reg.DRV_STATUS.LATCH_CAUSE u = (a.drv u).latched % 4 ∧ (a.linkRecover u).rd Reg.DRV_EVENT.LATCH u = 1 ∧
      ((a.drv u).act.mode = mdMotor → (a.linkRecover u).mstate u = msFault) ∧
      ((a.drv u).unreported = [] → a.mayRaise = true → raises a (a.linkRecover u) 34 (4 * u + (a.drv u).latched)) := by
  let v := (a.linkUp u).tellTrips u (a.drv u).cleared.unreported
  have hout : a.linkRecover u = v.showLatch u := State.linkRecover_tells hunit hheld hlink
  have hstep : UnitStep u (a.linkUp u) v := (UnitStep.refl u _).tellTrips
  have hcause : (v.drv u).latched = (a.drv u).latched := by rw [hstep.latched, State.linkUp_latched, DrvSt.cleared_of_seen hseen]
  have hmode : (v.drv u).act = (a.drv u).act := hstep.act.trans State.linkUp_act
  have hup : v.rd Reg.DRV_STATUS.LINK u = 1 := by
    have htrips : v.rd Reg.DRV_STATUS.LINK u = (a.linkUp u).rd Reg.DRV_STATUS.LINK u :=
      Effect.rd (State.tellTrips_effect ..) _ u 0 (by decide +kernel)
    rw [htrips, (a.linkUp_after u).rd _ u 0 (by decide +kernel)]
    exact (a.linkShown_reads hu).1
  have hbefore : v.rd Reg.DRV_STATUS.LATCHED u = 0 := by
    have htrips : v.rd Reg.DRV_STATUS.LATCHED u = (a.linkUp u).rd Reg.DRV_STATUS.LATCHED u :=
      Effect.rd (State.tellTrips_effect ..) _ u 0 (by decide +kernel)
    rw [htrips, (a.linkUp_effect u).rd _ u 0 (by decide +kernel)]
    exact hfirst
  obtain ⟨hshown, hwhy, hevent, hfault, hraise⟩ := v.showLatch_does hu (State.on_eq_true.mpr (by rw [hup]; decide)) hbefore
    (by rw [hcause]; exact hlatched)
  rw [hcause] at hwhy hraise
  rw [hmode] at hfault
  rw [hout]
  refine ⟨hshown, hwhy, hevent, hfault, fun hnone hmay => hraise a ?_ hmay⟩
  have hv : v = a.linkUp u := by simp only [v, DrvSt.cleared_of_seen hseen, hnone, State.tellTrips_nil]
  have hpower : (a.linkUp u).power = a.power := (a.linkUp_effect u).same .power (by decide)
  rw [hv]
  exact (a.linkUp_effect u).evtAt (by rw [hpower])

end

end

end Sys2Proof.Machine
end
section
namespace Sys2Proof.Machine

set_option Elab.async false

/-! ### The instants of the drive side's commands -/

theorem State.drvElapse_rd (s : State) (u t : Nat) {f : Field} {i j : Nat}
    (hf : ((State.drvElapse_fields.getD []).all fun g => f.apart g) = true) : (s.drvElapse u t).rd f i j = s.rd f i j :=
  (State.drvElapse_effect s u t).rd f i j hf

theorem State.elapse_hasUnit (s : State) (t v : Nat) : (s.elapse t).hasUnit v = s.hasUnit v :=
  congrArg (fun x : Silicon => decide (v < x.variant.drives)) (s.elapse_silicon t)

theorem State.vdrvUvlo_refused {a : State} {u : Nat} (h : a.hasUnit u = false) : a.vdrvUvlo u = a := if_pos (by simp [h])

theorem State.vdrvRecover_refused {a : State} {u : Nat} (h : a.hasUnit u = false) : a.vdrvRecover u = a := if_pos (by simp [h])

section
variable (s : State) (d : DrvIn) (t : Nat)

theorem State.elapse_drvSees_power : ((s.elapse t).drvSees d).power = s.power :=
  ((State.drvSees_effect ..).same .power (by decide)).trans (s.elapse_power t)

theorem State.elapse_drvSees_hasUnit (v : Nat) : ((s.elapse t).drvSees d).hasUnit v = s.hasUnit v :=
  congrArg (fun x : Silicon => decide (v < x.variant.drives))
    (((State.drvSees_effect ..).same .silicon (by decide)).trans (s.elapse_silicon t))

end

/-- A drive side that is there takes the fault inputs it sees. -/
theorem State.drvSees_inputs {s : State} {u : Fin 4} (inp : Nat) (h : s.hasUnit u = true) : ((s.drvSees ⟨u, inp⟩).drv u).inputs = inp := by
  let v := s.modDrv u fun e => { e with inputs := inp }
  have hseen : s.seeInputs u inp = v.when (v.on Reg.DRV_STATUS.LINK u) (·.showInputs u) := if_neg (by simp [h])
  have hstep : UnitStep u v ((s.seeInputs u inp).drvDue u) := by
    rw [hseen]
    exact UnitStep.drvDue ((UnitStep.refl u v).when fun w => (UnitStep.refl u w).op (State.showInputs_effect ..))
  have hinputs : (v.drv u).inputs = inp := by rw [State.modDrv_same]
  exact hstep.inputs.trans hinputs

/-- Settles O34: each clause by what its operation does at the command's instant, which the command's end leaves. -/
theorem driveSideConditionsHoldGatesOff : Obligations.DriveSideConditionsHoldGatesOff := by
  unfold Obligations.DriveSideConditionsHoldGatesOff
  refine ⟨?_, ?_, ?_, ?_, ?_, ?_, ?_, ?_, ?_, ?_, ?_, ?_, ?_, ?_, ?_, ?_⟩
  · intro s a u t ha
    rw [ha]
    intro hunit
    have hav : (s.drvElapse u t).hasUnit u = true := by rw [State.drvElapse_hasUnit, hunit]
    obtain ⟨hvdrv, hwaits, hoff, hsince⟩ := State.vdrvUvlo_does u.isLt hav
    refine ⟨_, rfl, ?_, ?_, (State.settle_effect _).gatesOff hoff, ?_, fun hheld => ?_, fun hheld => ?_,
      Effect.of_exec (execVdrvUvlo_effect u t s) rfl (by decide) (by decide +kernel)⟩
    · rw [State.settle_drv, hvdrv]
    · simpa only [State.settle_leg] using hwaits
    · rw [State.settle_power, hsince]
    · obtain ⟨hok, hevent, huvlo, hmstate, hraise⟩ := State.vdrvUvlo_shows u.isLt hav (by rw [State.drvElapse_power, hheld])
      refine ⟨?_, ?_, fun x hx => ?_, ?_, fun hmode hnot hmay => State.settle_raises (hraise hmode hnot hmay)⟩
      · rw [State.settle_rd _ _ _ _ (by decide +kernel), hok]
      · rw [State.settle_rd _ _ _ _ (by decide +kernel), hevent]
      · rw [State.settle_rd _ _ _ _ (by decide +kernel), huvlo x hx]
      · rw [State.settle_mstate, hmstate]
    · rw [State.settle_rd _ _ _ _ (by decide +kernel), State.vdrvUvlo_held hav (by rw [State.drvElapse_power, hheld])]
      exact (State.vdrvSet_effect ..).rd _ _ _ (by decide +kernel)
  · intro s a u t back ha
    rw [ha]
    intro hunit hback
    have hav : (s.drvElapse u t).hasUnit u = true := by rw [State.drvElapse_hasUnit, hunit]
    obtain ⟨hvdrv, hlegs, hstays, hsince, hshows, hmstate⟩ := State.vdrvRecover_does u.isLt hav (back := back)
      (by rw [State.drvElapse_power]; exact hback)
    refine ⟨_, rfl, ?_, ?_, fun hno => ⟨?_, (State.settle_effect _).gatesOff (hstays hno).2⟩, ?_, fun hheld => ⟨?_, fun x hx => ?_⟩, ?_,
      Effect.of_exec (execVdrvRecover_effect u t s) rfl (by decide) (by decide +kernel)⟩
    · rw [State.settle_drv, hvdrv]
    · simpa only [State.settle_leg, LegSt.off] using hlegs
    · simpa only [State.settle_leg] using (hstays hno).1
    · rw [State.settle_power, hsince]
    · rw [State.settle_rd _ _ _ _ (by decide +kernel), (hshows (by rw [State.drvElapse_power, hheld])).1]
    · rw [State.settle_rd _ _ _ _ (by decide +kernel), (hshows (by rw [State.drvElapse_power, hheld])).2 x hx]
    · rw [State.settle_mstate, hmstate]
  · intro s u t hunit
    have ha : (s.drvElapse u t).hasUnit u = false := by rw [State.drvElapse_hasUnit, hunit]
    refine ⟨⟨_, congrArg done (State.vdrvUvlo_refused ha), State.settle_effect _, ?_⟩,
      ⟨_, congrArg done (State.vdrvRecover_refused ha), State.settle_effect _, ?_⟩⟩
    · exact Effect.of_exec (execVdrvUvlo_effect u t s) (congrArg done (State.vdrvUvlo_refused ha)) (by decide) (by decide +kernel)
    · exact Effect.of_exec (execVdrvRecover_effect u t s) (congrArg done (State.vdrvRecover_refused ha)) (by decide) (by decide +kernel)
  · intro s a u t ha
    rw [ha]
    intro hunit hlatch
    obtain ⟨hot, hoff, hshows, hraise⟩ := State.driveOt_does (a := s.drvElapse u t) u.isLt (by rw [State.drvElapse_hasUnit, hunit])
      ((s.drvElapse_unitStep u t).otLatch.trans hlatch)
    refine ⟨_, rfl, ?_, (State.settle_effect _).gatesOff hoff, fun hlink => ⟨?_, ?_⟩, fun hmay => State.settle_raises (hraise hmay),
      Effect.of_exec (execDriveOtShutdown_effect u t s) rfl (by decide) (by decide +kernel)⟩
    · rw [State.settle_drv, hot]
    · rw [State.settle_rd _ _ _ _ (by decide +kernel), (hshows hlink).1]
    · rw [State.settle_rd _ _ _ _ (by decide +kernel), (hshows hlink).2]
  · intro s u t hnot
    have hsame : (s.drvElapse u t).driveOt u = s.drvElapse u t := State.driveOt_refused
      (hnot.imp (fun h => by rw [State.drvElapse_hasUnit, h]) (s.drvElapse_unitStep u t).otLatch.trans)
    exact ⟨_, congrArg done hsame, State.settle_effect _,
      Effect.of_exec (execDriveOtShutdown_effect u t s) (congrArg done hsame) (by decide) (by decide +kernel)⟩
  · intro s a u t ha
    rw [ha]
    intro hlatch hlow hlate
    obtain ⟨hot, hshows⟩ := State.driveOtRelease_does (a := s.drvElapse u t) u.isLt ((s.drvElapse_unitStep u t).otLatch.trans hlatch)
      (by rwa [State.drvElapse_power]) (by rwa [State.drvElapse_power])
    refine ⟨_, rfl, ?_, fun hlink => ?_, Effect.of_exec (execDriveOtRelease_effect u t s) rfl (by decide) (by decide +kernel)⟩
    · rw [State.settle_drv, hot]
    · rw [State.settle_rd _ _ _ _ (by decide +kernel), hshows hlink]
  · intro s a u t ha
    rw [ha]
    intro hnot
    have hsame : (s.drvElapse u t).driveOtRelease u = s.drvElapse u t := State.driveOtRelease_refused (by
      rwa [State.drvElapse_power, (s.drvElapse_unitStep u t).otLatch])
    exact ⟨_, congrArg done hsame, State.settle_effect _,
      Effect.of_exec (execDriveOtRelease_effect u t s) (congrArg done hsame) (by decide) (by decide +kernel)⟩
  · intro s a u t ha
    rw [ha]
    intro hunit hlink
    obtain ⟨hdown, hbit, hevent, hwaits, hoff⟩ := State.linkLost_does u.isLt (by rw [State.drvElapse_hasUnit, hunit]) hlink
    refine ⟨_, rfl, ?_, ?_, ?_, ?_, (State.settle_effect _).gatesOff hoff,
      Effect.of_exec (execBarrierLinkLost_effect u t s) rfl (by decide) (by decide +kernel)⟩
    · rw [State.settle_rd _ _ _ _ (by decide +kernel), hdown]
    · rw [State.settle_rd _ _ _ _ (by decide +kernel), hbit]
    · rw [State.settle_rd _ _ _ _ (by decide +kernel), hevent]
    · simpa only [State.settle_leg] using hwaits
  · intro s a u t ha
    rw [ha]
    intro hnot
    have hsame : (s.drvElapse u t).linkLost u = s.drvElapse u t := State.linkLost_refused
      (hnot.imp_left fun h => by rw [State.drvElapse_hasUnit, h])
    exact ⟨_, congrArg done hsame, State.settle_effect _,
      Effect.of_exec (execBarrierLinkLost_effect u t s) (congrArg done hsame) (by decide) (by decide +kernel)⟩
  · intro s a u inp t ha hunit hheld hlink
    have haunit : a.hasUnit u = true := by rw [ha, State.elapse_drvSees_hasUnit, hunit]
    have haheld : a.power.held = false := by rw [ha, State.elapse_drvSees_power, hheld]
    have hinputs : (a.drv u).inputs = inp := by
      rw [ha]
      exact State.drvSees_inputs inp (by rw [State.elapse_hasUnit, hunit])
    have hexec : exec (.barrierLinkRecover u inp t) s = .next (a.linkRecover u).settle := by rw [ha]; rfl
    have hdrv : ((a.linkRecover u).drv u).unit = { (a.drv u).cleared.unit with unreported := [] } :=
      State.linkRecover_unit haunit haheld hlink
    obtain ⟨hup, hbit, hevent, hok, hot, hband, hactive, hds⟩ := State.linkRecover_reads haunit haheld hlink u.isLt
    refine ⟨_, hexec, ?_, ?_, ?_, ?_, ?_, ?_, fun x hx => ?_, fun h => ⟨?_, ?_⟩, fun k hk => ?_, ?_, ?_, fun hseen => ?_, fun hseen => ?_,
      fun hseen p hp => ?_, fun h => ?_, fun hseen hlatched hfirst => ?_,
      Effect.of_exec (execBarrierLinkRecover_effect u inp t s) hexec (by decide) (by decide +kernel)⟩
    · rw [State.settle_rd _ _ _ _ (by decide +kernel), hup]
    · rw [State.settle_rd _ _ _ _ (by decide +kernel), hbit]
    · rw [State.settle_rd _ _ _ _ (by decide +kernel), hevent]
    · rw [State.settle_rd _ _ _ _ (by decide +kernel), hok]
    · rw [State.settle_rd _ _ _ _ (by decide +kernel), hot]
    · rw [State.settle_rd _ _ _ _ (by decide +kernel), hband]
    · rw [State.settle_rd _ _ _ _ (by decide +kernel), hactive x hx, hinputs]
    · simpa only [State.settle_leg] using (State.linkRecover_gates haunit haheld hlink u.isLt h).1
    · exact (State.settle_effect _).gatesOff (State.linkRecover_gates haunit haheld hlink u.isLt h).2
    · rw [State.dsCh, State.settle_adc]
      exact hds k hk
    · rw [State.settle_drv]
      exact (congrArg DrvSt.linkSeen hdrv :).trans (DrvSt.cleared_linkSeen _)
    · rw [State.settle_drv]
      exact (congrArg DrvSt.unreported hdrv :)
    · have hclear : (a.drv u).cleared = { a.drv u with trips := [], latched := 0, unreported := [], linkSeen := true } :=
        if_neg (by simp [hseen])
      rw [State.settle_drv]
      rw [hclear] at hdrv
      exact ⟨(congrArg DrvSt.trips hdrv :), (congrArg DrvSt.latched hdrv :)⟩
    · rw [DrvSt.cleared_of_seen hseen] at hdrv
      rw [State.settle_drv]
      exact ⟨(congrArg DrvSt.trips hdrv :), (congrArg DrvSt.latched hdrv :)⟩
    · obtain ⟨htrip, hleg, hcause, hns⟩ := State.linkRecover_trip haunit haheld hlink u.isLt hseen hp
      refine ⟨?_, ?_, ?_, ?_⟩
      · rw [State.settle_rd _ _ _ _ (by decide +kernel), htrip]
      · rw [State.settle_rd _ _ _ _ (by decide +kernel), hleg]
      · rw [State.settle_rd _ _ _ _ (by decide +kernel), hcause]
      · rw [← hns, State.rd64, State.rd64, State.settle_rd _ _ _ _ (by decide +kernel), State.settle_rd _ _ _ _ (by decide +kernel)]
    · rw [State.settle_rd _ _ _ _ (by decide +kernel), State.linkRecover_latched haunit haheld hlink h]
    · obtain ⟨hshown, hcause, hlatch, hfault, hraise⟩ := State.linkRecover_latch haunit haheld hlink u.isLt hseen hlatched hfirst
      refine ⟨?_, ?_, ?_, fun hmode => ?_, fun hnone hmay => State.settle_raises (hraise hnone hmay)⟩
      · rw [State.settle_rd _ _ _ _ (by decide +kernel), hshown]
      · rw [State.settle_rd _ _ _ _ (by decide +kernel), hcause]
      · rw [State.settle_rd _ _ _ _ (by decide +kernel), hlatch]
      · rw [State.settle_mstate, hfault hmode]
  · intro s a u inp t ha hnot
    have hsame : a.linkRecover u = a := State.linkRecover_refused (by
      rwa [ha, State.elapse_drvSees_hasUnit, State.elapse_drvSees_power, ← ha])
    have hexec : exec (.barrierLinkRecover u inp t) s = .next a.settle := by
      rw [← congrArg State.settle hsame, ha]; rfl
    exact ⟨_, hexec, State.settle_effect _,
      Effect.of_exec (execBarrierLinkRecover_effect u inp t s) hexec (by decide) (by decide +kernel)⟩
  · intro s a u t ha
    rw [ha]
    intro hunit hA hB
    obtain ⟨henable, hmstate⟩ := State.enableChange_on (a := s.drvElapse u t) u.isLt (by rw [State.drvElapse_hasUnit, hunit])
      (by rwa [State.drvElapse_rd _ _ _ (by decide +kernel)]) (by rwa [State.drvElapse_rd _ _ _ (by decide +kernel)])
    refine ⟨_, rfl, ?_, ?_, Effect.of_exec (execDriveEnableChange_effect u true t s) rfl (by decide) (by decide +kernel)⟩
    · rw [State.settle_rd _ _ _ _ (by decide +kernel), henable]
    · rw [State.settle_mstate, hmstate]
  · intro s a u t ha
    rw [ha]
    intro hunit
    obtain ⟨henable, hwaits, hoff, hmstate⟩ := State.enableChange_off (a := s.drvElapse u t) u.isLt (by rw [State.drvElapse_hasUnit, hunit])
    refine ⟨_, rfl, ?_, ?_, (State.settle_effect _).gatesOff hoff, ?_,
      Effect.of_exec (execDriveEnableChange_effect u false t s) rfl (by decide) (by decide +kernel)⟩
    · rw [State.settle_rd _ _ _ _ (by decide +kernel), henable]
    · simpa only [State.settle_leg] using hwaits
    · rw [State.settle_mstate, hmstate]
  · intro s u on t hnot
    have hsame : (s.drvElapse u t).enableChange u on = s.drvElapse u t := State.enableChange_refused (by
      rwa [State.drvElapse_hasUnit, State.drvElapse_rd _ _ _ (by decide +kernel), State.drvElapse_rd _ _ _ (by decide +kernel)])
    exact ⟨_, congrArg done hsame, State.settle_effect _,
      Effect.of_exec (execDriveEnableChange_effect u on t s) (congrArg done hsame) (by decide) (by decide +kernel)⟩
  · intro s u c t hunit
    have hdrv : (s.elapse t).drv u = s.drv u := (State.elapse_effect s t).drv u
    have hlinks : (s.elapse t).rd Reg.DRV_STATUS.LINK u = s.rd Reg.DRV_STATUS.LINK u := s.elapse_rd t _ _ _ (by decide +kernel)
    have hbands : (s.elapse t).rd Reg.DRV_STATUS.BAND u = s.rd Reg.DRV_STATUS.BAND u := s.elapse_rd t _ _ _ (by decide +kernel)
    obtain ⟨hband, hshows, hstays⟩ := State.driveBand_does (a := s.elapse t) u.isLt
      (by rw [State.elapse_hasUnit, hunit]) c
    rw [hdrv] at hband hshows
    rw [hlinks] at hshows hstays
    refine ⟨_, rfl, ?_, fun hlink => ?_, fun hlink => ?_,
      Effect.of_exec (execDriveBandChange_effect u c true t s) rfl (by decide) (by decide +kernel)⟩
    · rw [State.settle_drv, hband]
    · obtain ⟨hshown, hthermal, hevent⟩ := hshows hlink
      refine ⟨?_, ?_, fun hmoved => ?_⟩
      · rw [State.settle_rd _ _ _ _ (by decide +kernel), hshown]
      · rw [State.settle_rd _ _ _ _ (by decide +kernel), hthermal]
      · rw [State.settle_rd _ _ _ _ (by decide +kernel), hevent hmoved]
    · rw [State.settle_rd _ _ _ _ (by decide +kernel), hstays hlink, hbands]
  · intro s u c v t hnot
    have hsame : (s.elapse t).driveBand u c v = s.elapse t := State.driveBand_refused
      (hnot.imp_left fun h => by rw [State.elapse_hasUnit, h])
    exact ⟨_, congrArg done hsame, State.elapse_settle_effect s t |>.more (by decide +kernel)⟩

end Sys2Proof.Machine
end
section
namespace Sys2Proof.Machine

set_option Elab.async false

/-! ### What a tick keeps of the frame once its timer has run -/

/-- The part of a frame's state that the timer sets at a tick and nothing else that happens at the tick changes (R40). -/
def FrameSt.core (f : FrameSt) : FrameSt :=
  { (default : FrameSt) with phase := f.phase, ovPrev := f.ovPrev, ovCompute := f.ovCompute, ovRank := f.ovRank, dup := f.dup,
                             ticks := f.ticks, freezeNs := f.freezeNs }

theorem Effect.frSame {A : List Part} {R : Option (List Field)} {s t : State} (k : Effect A R s t) (hA : Part.fr ∉ A := by decide) :
    t.fr = s.fr := k.same .fr hA

section
variable (s : State)

theorem State.modFr_core {f : FrameSt → FrameSt} (hf : ∀ x, (f x).core = x.core) : (s.modFr f).fr.core = s.fr.core := hf s.fr

theorem State.emptyHistory_core : s.emptyHistory.fr.core = s.fr.core := by
  unfold State.emptyHistory
  rw [State.wr_fr, State.wr_fr, State.wr_fr]
  rfl

theorem State.giveBall_core (p : Nat) : (s.giveBall p).fr.core = s.fr.core := by
  unfold State.giveBall
  rw [State.emptyHistory_core, State.modRef_fr, State.wr_fr, State.wr_fr, State.wr_fr, (State.setRole_effect ..).frSame]

theorem State.kickoffGrant_core : s.kickoffGrant.fr.core = s.fr.core := by
  have hfirst : s.firstGrant.fr.core = s.fr.core := by
    unfold State.firstGrant
    split
    · rfl
    split
    · rw [State.modRef_fr, State.giveBall_core]
    · rw [(State.lose_effect ..).frSame]
  unfold State.kickoffGrant
  extract_lets v
  split
  · split
    · rw [(State.enterRun_effect ..).frSame, hfirst]
    · exact hfirst
  · rfl

theorem State.takeoverGrant_core : s.takeoverGrant.fr.core = s.fr.core := by
  unfold State.takeoverGrant
  split
  · extract_lets us late v1 v2 v3 v4
    have h4 : v4.fr = v3.fr := State.when_keeps (·.fr) (fun w => (State.raise_effect ..).frSame) v3
    rw [State.modRef_fr, State.giveBall_core, h4]
    simp only [v3, v2, v1, State.wr_fr, (State.bump_effect ..).frSame]
  · rfl

theorem State.handover_core : s.handover.fr.core = s.fr.core := by
  unfold State.handover
  split
  · rw [State.giveBall_core, (State.setRole_effect ..).frSame, State.wr_fr, State.wr_fr, (State.bump_effect ..).frSame]
  · rfl

theorem State.refereeTick_core : s.refereeTick.fr.core = s.fr.core := by
  unfold State.refereeTick
  rw [(State.reviveComplete_effect ..).frSame, State.handover_core, State.takeoverGrant_core, (State.withdrawAtTick_effect ..).frSame]

/-- Of the commands only SET_FRAME_PERIOD reaches the frame, and it leaves its core (R39). -/
theorem State.runCommand_core (r : JrnRec) : (s.runCommand r).2.fr.core = s.fr.core := by
  unfold State.runCommand
  extract_lets a
  split
  · unfold State.cmdSetFramePeriod
    split
    · rfl
    split
    · rfl
    · rw [(State.cancelShadow_effect ..).frSame, State.emptyHistory_core]
      rfl
  · rw [(State.cellAdmit_effect ..).frSame]
  · rw [(State.cellBypass_effect ..).frSame]
  · rw [(State.cellFaultClear_effect ..).frSame]
  · rw [(State.cmdCoeffWrite_effect ..).frSame]
  · rw [(State.cmdBankSwap_effect ..).frSame]
  · rw [(State.cmdParamWrite_effect ..).frSame]
  · rw [(State.cmdConvDeblock_effect ..).frSame]
  · rw [(State.cmdConvBlock_effect ..).frSame]
  · rw [(State.cmdCanQueue_effect ..).frSame]
  · rw [(State.cmdCanFlush_effect ..).frSame]
  · rfl

theorem State.executeRec_core (r : JrnRec) : (s.executeRec r).fr.core = s.fr.core := by
  unfold State.executeRec
  split
  rename_i res v hv
  extract_lets n v1 r' v2 v3
  have hran : v = (s.runCommand r).2 := (congrArg Prod.snd hv).symm
  simp only [v3, v2, v1]
  rw [(State.reply_effect ..).frSame, (State.mirrorRec_effect ..).frSame, State.modJrn_fr, State.wr_fr]
  rw [hran, State.runCommand_core]

theorem State.executeDue_core (n : Nat) : (s.executeDue n).fr.core = s.fr.core := by
  induction n generalizing s with
  | zero => rfl
  | succ n ih =>
    unfold State.executeDue
    split
    · rfl
    split
    · rw [ih, State.executeRec_core]
    · rfl

theorem State.journalTick_core (mramOk : Bool) : (s.journalTick mramOk).fr.core = s.fr.core := by
  have hexec : ((s.executeDue 32).showWait).fr.core = s.fr.core := by
    rw [(State.showWait_effect ..).frSame, State.executeDue_core]
  unfold State.journalTick
  split
  · extract_lets before v
    split
    · exact hexec
    · rw [(State.mramResult_effect ..).frSame, hexec]
  · rfl

/-! ### The tracker's control entries -/

theorem State.ctrlOpen_core (e : CtrlEntry) : (s.ctrlOpen e).fr.core = s.fr.core := by
  unfold State.ctrlOpen
  rw [State.wr_fr]
  rfl

theorem State.ctrlAsk_core (e : CtrlEntry) : (s.ctrlAsk e).fr.core = s.fr.core := by
  unfold State.ctrlAsk
  split
  · exact s.ctrlOpen_core e
  · rfl

theorem State.ctrlAdmit_core : s.ctrlAdmit.fr.core = s.fr.core := by
  unfold State.ctrlAdmit
  refine State.each_keeps (·.fr.core) (fun v e => ?_) _
  split
  · exact v.ctrlOpen_core e
  · rfl

theorem State.waitedUnits_core : s.waitedUnits.fr.core = s.fr.core := by
  unfold State.waitedUnits
  refine (State.each_keeps (·.fr.core) (fun v e => ?_) _).trans ?_
  · unfold State.unitDone
    split
    · unfold State.copyBlock
      extract_lets new b load v1 n frame
      have h1 : v1.fr = v.fr := by unfold v1; split <;> rfl
      split
      · rw [h1]
      · refine (State.modFr_core _ fun x => ?_).trans ?_
        · split <;> rfl
        · rw [(State.emit_effect ..).frSame, h1]
    · split <;> rfl
  · unfold State.ctrlDone
    rw [State.ctrlAdmit_core]
    rfl

theorem State.ctrlTick_core : s.ctrlTick.fr.core = s.fr.core := by
  unfold State.ctrlTick
  extract_lets v1 v2
  have h2 : v2.fr = v1.fr := State.when_keeps (·.fr) (fun w => (State.bump_effect ..).frSame) v1
  have h1 : v1.fr = s.fr := State.wr_fr ..
  rw [← h1, ← h2]
  rfl

theorem State.tickTracker_core : s.tickTracker.fr.core = s.fr.core := by
  unfold State.tickTracker
  extract_lets v1 v2
  split
  rename_i x v3 hx
  split
  rename_i y v4 hy
  have h3 : v3 = v2.draw.2 := (congrArg Prod.snd hx).symm
  have h4 : v4 = v3.draw.2 := (congrArg Prod.snd hy).symm
  extract_lets v5
  simp only [v5]
  rw [State.wr_fr, State.wr_fr, h4, (State.draw_effect _).frSame, h3, (State.draw_effect _).frSame, State.waitedUnits_core]
  rw [State.ctrlTick_core]
  exact State.each_keeps (·.fr.core) (fun v n => congrArg FrameSt.core (State.modCell_fr v n _)) s

/-! ### The buffer and the other blocks -/

theorem State.tickBuffer_core : s.tickBuffer.fr.core = s.fr.core := by
  unfold State.tickBuffer
  refine (State.modFr_core _ fun x => by split <;> rfl).trans ?_
  rw [(State.gapMarkers_effect ..).frSame]
  split
  · rw [(State.wrBit_effect ..).frSame, (State.wrBit_effect ..).frSame]
  · rfl

theorem State.tickOthers_core : s.tickOthers.fr.core = s.fr.core := by
  have hdiscipline : ∀ v : State, v.discipline.fr.core = v.fr.core := fun v => by
    unfold State.discipline
    extract_lets e sync slew adj good run next time fr v1 v2 now v3
    have h3 : v3.fr = v2.fr := State.when_keeps (·.fr) (fun w => (State.evBit_effect ..).frSame) v2
    rw [State.wr_fr, h3, (State.wrS_effect ..).frSame]
    rfl
  unfold State.tickOthers
  extract_lets v
  rw [State.each_keeps (·.fr) (fun v n => (State.canTick_effect ..).frSame), hdiscipline, (State.syncTick_effect ..).frSame,
    (State.adcTick_effect ..).frSame]

theorem State.startPlane_core (p : Nat) : (s.startPlane p).fr.core = s.fr.core := by
  unfold State.startPlane
  refine State.each_keeps (·.fr.core) (fun v j => ?_) s
  split
  · rw [State.ctrlAsk_core, (State.modEng_effect ..).frSame]
  · rfl

end

end Sys2Proof.Machine
end
section
namespace Sys2Proof.Machine

set_option Elab.async false

/-! ### What a tick keeps, step by step -/

/-- The fields that the timer and the planner set at a tick (R39, R40, R59). -/
def movesTimer : List Field := [Reg.FRAME_NO.FRAME_NO, Reg.FRAME_TICK_NS_LO.TICK_NS, Reg.FRAME_TICK_NS_HI.TICK_NS, Reg.FRAME_PERIOD.PERIOD,
  Reg.FRAME_EVENT.PERIOD, Reg.PLAN_LEVEL.CURRENT]

/-- A step that leaves what the timer has set at the tick, and the structure in force. -/
structure FrameStep (s t : State) : Prop where
  core : t.fr.core = s.fr.core
  cfg : t.cfg = s.cfg
  shown : ∀ f ∈ movesTimer, t.rd f = s.rd f

namespace FrameStep
variable {s t v : State}

theorem refl (s : State) : FrameStep s s := ⟨rfl, rfl, fun _ _ => rfl⟩

theorem trans (h : FrameStep s t) (k : FrameStep t v) : FrameStep s v :=
  ⟨k.core.trans h.core, k.cfg.trans h.cfg, fun f hf => (k.shown f hf).trans (h.shown f hf)⟩

theorem each {α : Type} {l : List α} {f : State → α → State} (h : FrameStep s t) (k : ∀ v a, FrameStep v (f v a)) :
    FrameStep s (t.each l f) := by
  unfold State.each
  induction l generalizing t with
  | nil => exact h
  | cons a l ih => exact ih (h.trans (k t a))

/-- An operation on other registers that leaves the core. -/
theorem opCore {A : List Part} {F : List Field} (h : FrameStep s t) (k : Effect A (some F) t v) (hcore : v.fr.core = t.fr.core)
    (hA : Part.cfg ∉ A := by decide) (hF : (movesTimer.all fun f => F.all fun g => f.apart g) = true := by decide +kernel) : FrameStep s v :=
  h.trans ⟨hcore, k.same .cfg hA, fun f hf => k.rd f 0 0 (List.all_eq_true.mp hF f hf)⟩

/-- An operation on other registers that leaves the frame. -/
theorem op {A : List Part} {F : List Field} (h : FrameStep s t) (k : Effect A (some F) t v)
    (hA : Part.cfg ∉ A ∧ Part.fr ∉ A := by decide) (hF : (movesTimer.all fun f => F.all fun g => f.apart g) = true := by decide +kernel) :
    FrameStep s v :=
  h.opCore k (congrArg FrameSt.core (k.frSame hA.2)) hA.1 hF

end FrameStep

/-- What the blocks do at a tick between its timer and its tracker, in the order of R40. -/
def State.tickBlocks (s : State) (headerBad : List Nat) (mramOk : Bool) (p0 : Nat) : State :=
  let s := s.each s.cfg.chains fun s cc => s.settleAllCall cc
  let s := s.laneTimeout.kickoffGrant
  let s := s.refereeTick.pairTick
  let s := s.each s.cfg.convs fun s v => s.convTick v
  let s := s.journalTick mramOk
  let s := s.each s.cfg.convs fun s v => s.convTickEnd v.conv
  s.halftimeTick.substStart.armOutTick.mirrorTick.tickChains headerBad p0

/-- The end of a tick: COAST, and what the next frame starts from (R40, R376). -/
def State.tickEnds (s : State) : State :=
  let s := s.wr Reg.FRAME_STATUS.COAST (b01 (!s.referee.ball))
  let s := s.modFr fun f => { f with repeatArms := 0 }
  s.modPower fun p => { p with step6 := if p.step6 = 2 then 3 else p.step6 }

section
variable {s : State}

theorem State.frameTick_eq {headerBad : List Nat} {mramOk : Bool} (hruns : s.timerRuns = true) (hdue : s.time.ns = s.fr.nextTick) :
    s.frameTick headerBad mramOk = (s.tickTimer.tickBlocks headerBad mramOk s.period).tickTracker.tickBuffer.tickOthers.tickEnds := by
  have hgo : ¬((!s.timerRuns || decide (s.time.ns ≠ s.fr.nextTick)) = true) := by simp [hruns, hdue]
  simp only [State.frameTick, if_neg hgo, State.tickBlocks, State.tickEnds]

theorem State.frameTick_refused {headerBad : List Nat} {mramOk : Bool} (h : s.timerRuns = false ∨ s.time.ns ≠ s.fr.nextTick) :
    s.frameTick headerBad mramOk = s :=
  if_pos (by rcases h with h | h <;> simp [h])

theorem State.tickBlocks_step (headerBad : List Nat) (mramOk : Bool) (p0 : Nat) : FrameStep s (s.tickBlocks headerBad mramOk p0) := by
  unfold State.tickBlocks
  extract_lets v1 v2 v3 v4 v5 v6
  have h1 : FrameStep s v1 := (FrameStep.refl s).each fun v cc => (FrameStep.refl v).op (State.settleAllCall_effect ..)
  have h2 : FrameStep s v2 := (h1.op (State.laneTimeout_effect ..)).opCore (State.kickoffGrant_effect ..) (State.kickoffGrant_core _)
  have h3 : FrameStep s v3 := (h2.opCore (State.refereeTick_effect ..) (State.refereeTick_core _)).op (State.pairTick_effect ..)
  have h4 : FrameStep s v4 := h3.each fun v c => (FrameStep.refl v).op (State.convTick_effect ..)
  have h5 : FrameStep s v5 := h4.opCore (State.journalTick_effect ..) (State.journalTick_core _ _)
  have h6 : FrameStep s v6 := h5.each fun v c => (FrameStep.refl v).op (State.convTickEnd_effect ..)
  have h7 : FrameStep s v6.halftimeTick.substStart := (h6.op (State.halftimeTick_effect ..)).op (State.substStart_effect ..)
  have h8 : FrameStep s v6.halftimeTick.substStart.armOutTick.mirrorTick := (h7.op (State.armOutTick_effect ..)).op (State.mirrorTick_effect ..)
  exact h8.op (State.tickChains_effect ..)

theorem State.tickEnds_step : FrameStep s s.tickEnds :=
  ((FrameStep.refl s).op (State.wr_effect s Reg.FRAME_STATUS.COAST _ 0 0)).trans ⟨rfl, rfl, fun _ _ => rfl⟩

/-- All that follows the timer at a tick leaves what the timer has set. -/
theorem State.tickRest_step (headerBad : List Nat) (mramOk : Bool) (p0 : Nat) :
    FrameStep s (s.tickBlocks headerBad mramOk p0).tickTracker.tickBuffer.tickOthers.tickEnds := by
  have htracker := (s.tickBlocks_step headerBad mramOk p0).opCore (State.tickTracker_effect ..) (State.tickTracker_core _)
  have hbuffer := htracker.opCore (State.tickBuffer_effect ..) (State.tickBuffer_core _)
  exact (hbuffer.opCore (State.tickOthers_effect ..) (State.tickOthers_core _)).trans State.tickEnds_step

/-! ### The timer -/

theorem State.periodTick_none (h : s.fr.nextPeriod = none) : s.periodTick = s := by
  unfold State.periodTick
  rw [h]

/-- A pending period is in force from the tick, which shows it (R39). -/
theorem State.periodTick_some {p : Nat} (h : s.fr.nextPeriod = some p) : s.periodTick.period = p % 65536 ∧
    s.periodTick.rd Reg.FRAME_EVENT.PERIOD = 1 ∧ s.periodTick.fr = { s.fr with nextPeriod := none } := by
  let v1 := (s.modFr fun f => { f with nextPeriod := none }).wr Reg.FRAME_PERIOD.PERIOD p
  let v2 := v1.wr Reg.FRAME_EVENT.PERIOD 1
  let v3 := v2.showCapacity.planBursts
  let v4 := v3.each v3.cfg.chains fun s c => s.planChain c.chain
  have hout : s.periodTick = v4.each v4.cfg.arms fun s a =>
      (s.wr Reg.ARM_ALPHA1.ALPHA (alphaOf p a.tau1) (s.armSlice a.arm)).wr Reg.ARM_ALPHA2.ALPHA (alphaOf p a.tau2) (s.armSlice a.arm) := by
    unfold State.periodTick
    rw [h]
  have hlater : (∀ f ∈ movesTimer, s.periodTick.rd f = v2.rd f) ∧ s.periodTick.fr = v2.fr := by
    have h3 : (∀ f ∈ movesTimer, v3.rd f = v2.rd f) ∧ v3.fr = v2.fr := by
      refine ⟨fun f hf => ?_, ((State.planBursts_effect ..).frSame).trans (State.showCapacity_effect ..).frSame⟩
      exact (Effect.rd (State.planBursts_effect _) f 0 0 (by revert f; decide +kernel)).trans
        (Effect.rd (State.showCapacity_effect _) f 0 0 (by revert f; decide +kernel))
    rw [hout]
    refine ⟨fun f hf => ?_, ?_⟩
    · refine (State.each_keeps (·.rd f) (fun v a => ?_) v4).trans ((State.each_keeps (·.rd f) (fun v c => ?_) v3).trans (h3.1 f hf))
      · exact (State.rd_wr_apart _ _ _ _ _ _ (by revert f; decide +kernel)).trans (State.rd_wr_apart _ _ _ _ _ _ (by revert f; decide +kernel))
      · exact Effect.rd (State.planChain_effect ..) f 0 0 (by revert f; decide +kernel)
    · refine (State.each_keeps (·.fr) (fun v a => ?_) v4).trans ((State.each_keeps (·.fr) (fun v c => ?_) v3).trans h3.2)
      · rw [State.wr_fr, State.wr_fr]
      · exact (State.planChain_effect ..).frSame
  refine ⟨?_, ?_, hlater.2.trans ?_⟩
  · rw [State.period, hlater.1 _ (by simp [movesTimer])]
    exact (State.rd_wr_apart _ _ _ _ _ _ (by decide +kernel)).trans (State.rd_wr_same _ _ _ _ _ rfl (by decide))
  · rw [hlater.1 _ (by simp [movesTimer])]
    exact State.rd_wr_same _ _ _ _ _ rfl (by decide)
  · simp only [v2, v1, State.wr_fr]
    rfl

theorem State.levelTick_none (h : s.fr.nextLevel = none) : s.levelTick = s := by
  unfold State.levelTick
  rw [h]

theorem State.levelTick_some {k : Nat} (h : s.fr.nextLevel = some k) : s.levelTick.rd Reg.PLAN_LEVEL.CURRENT = k % 4 := by
  unfold State.levelTick
  rw [h]
  exact (Effect.rd (State.showCapacity_effect _) _ 0 0 (by decide +kernel)).trans (State.rd_wr_same _ _ _ _ _ rfl (by decide))

theorem State.levelTick_core : s.levelTick.fr.core = s.fr.core := by
  unfold State.levelTick
  split
  · rw [(State.showCapacity_effect ..).frSame, State.wr_fr]
    rfl
  · rfl

/-- What each frame starts from (R40, R56, R71). -/
def FrameSt.opened (f : FrameSt) (loaded : Bool) : FrameSt :=
  { f with phase := .open, ovPrev := f.ovCompute || f.ovRank, ovCompute := false, ovRank := false, engNeed := 0, dup := 0, bgRan := 0,
           powerMw := 0, bgNs := 0, bgOver := false, ticks := if loaded then f.ticks + 1 else 0 }

end

end Sys2Proof.Machine
end
section
namespace Sys2Proof.Machine

set_option Elab.async false

/-! ### The timer at a tick -/

section
variable (s : State)

/-- What the timer and the planner set at a tick (R39, R40, R59). -/
theorem State.tickTimer_does : s.tickTimer.frameNo = (if s.fr.phase = .stopped then 0 else (s.frameNo + 1) % 4294967296) ∧
    s.tickTimer.rd64 Reg.FRAME_TICK_NS_LO.TICK_NS Reg.FRAME_TICK_NS_HI.TICK_NS = s.count % 2 ^ 64 ∧
    s.tickTimer.fr.core = (s.fr.opened s.cfg.loaded).core ∧
    (s.fr.nextPeriod = none → s.tickTimer.period = s.period) ∧
    (∀ p, s.fr.nextPeriod = some p → s.tickTimer.period = p % 65536 ∧ s.tickTimer.rd Reg.FRAME_EVENT.PERIOD = 1) ∧
    (s.fr.nextLevel = none → s.tickTimer.rd Reg.PLAN_LEVEL.CURRENT = s.rd Reg.PLAN_LEVEL.CURRENT) ∧
    ∀ k, s.fr.nextLevel = some k → s.tickTimer.rd Reg.PLAN_LEVEL.CURRENT = k % 4 := by
  let no := if s.fr.phase = .stopped then 0 else (s.frameNo + 1) % 4294967296
  let v1 := s.wr Reg.FRAME_NO.FRAME_NO no
  let v2 := v1.wr64 Reg.FRAME_TICK_NS_LO.TICK_NS Reg.FRAME_TICK_NS_HI.TICK_NS v1.count
  let v3 := v2.wr Reg.PLAN_BG_STATUS.RAN v2.fr.bgRan
  let v4 := v3.modFr (·.opened v3.cfg.loaded)
  have hout : s.tickTimer = v4.periodTick.levelTick := rfl
  have hbefore : Effect [] (some [Reg.FRAME_NO.FRAME_NO, Reg.PLAN_BG_STATUS.RAN,
      Reg.FRAME_TICK_NS_LO.TICK_NS, Reg.FRAME_TICK_NS_HI.TICK_NS]) s v3 := by
    have h1 := (State.wr_effect s Reg.FRAME_NO.FRAME_NO no 0 0).more (G := [Reg.FRAME_NO.FRAME_NO, Reg.PLAN_BG_STATUS.RAN,
      Reg.FRAME_TICK_NS_LO.TICK_NS, Reg.FRAME_TICK_NS_HI.TICK_NS]) (by decide +kernel)
    exact Effect.after (State.wr_effect ..) (by decide +kernel) (Effect.after (State.wr64_effect ..) (by decide +kernel) h1)
  have hcount : v1.count = s.count := by rw [State.count_eq, State.count_eq, State.wr_time]
  have hfr : v4.fr = s.fr.opened s.cfg.loaded := by
    rw [State.modFr_fr, hbefore.frSame, hbefore.same .cfg (by decide)]
  have hlevel : ∀ f ∈ movesTimer, f ≠ Reg.PLAN_LEVEL.CURRENT → s.tickTimer.rd f = v4.periodTick.rd f := fun f hf hne => by
    rw [hout]
    exact Effect.rd (State.levelTick_effect _) f 0 0 (by revert f; decide +kernel)
  have hperiod : ∀ f ∈ movesTimer, f ≠ Reg.FRAME_PERIOD.PERIOD → f ≠ Reg.FRAME_EVENT.PERIOD → v4.periodTick.rd f = v3.rd f := fun f hf h1 h2 =>
    Effect.rd (State.periodTick_effect v4) f 0 0 (by revert f; decide +kernel)
  have hnext : v4.periodTick.fr.core = v4.fr.core ∧ v4.periodTick.fr.nextLevel = s.fr.nextLevel := by
    cases hp : s.fr.nextPeriod with
    | none =>
      rw [State.periodTick_none (by rw [hfr]; exact hp), hfr]
      exact ⟨rfl, rfl⟩
    | some p =>
      rw [(State.periodTick_some (s := v4) (p := p) (by rw [hfr]; exact hp)).2.2, hfr]
      exact ⟨rfl, rfl⟩
  obtain ⟨hcore, hlevelNext⟩ := hnext
  refine ⟨?_, ?_, ?_, fun hp => ?_, fun p hp => ?_, fun hl => ?_, fun k hl => ?_⟩
  · rw [State.frameNo, hlevel _ (by simp [movesTimer]) (by decide), hperiod _ (by simp [movesTimer]) (by decide) (by decide)]
    refine (State.rd_wr_apart _ _ _ _ _ _ (by decide +kernel)).trans ?_
    refine ((State.wr64_effect ..).rd _ _ _ (by decide +kernel)).trans ((State.rd_wr_same _ _ _ _ _ rfl (by decide)).trans ?_)
    refine Nat.mod_eq_of_lt ?_
    unfold no
    split
    · decide
    · exact Nat.mod_lt _ (by decide)
  · have hns : ∀ f ∈ [Reg.FRAME_TICK_NS_LO.TICK_NS, Reg.FRAME_TICK_NS_HI.TICK_NS], s.tickTimer.rd f = v2.rd f := by
      intro f hf
      refine (hlevel f (by revert f; decide) (by revert f; decide)).trans ?_
      refine (hperiod f (by revert f; decide) (by revert f; decide) (by revert f; decide)).trans ?_
      exact State.rd_wr_apart _ _ _ _ _ _ (by revert f; decide +kernel)
    rw [State.rd64, hns _ (by simp), hns _ (by simp), ← hcount]
    exact v1.rd64_wr64 v1.count (by decide +kernel) ⟨rfl, by decide, rfl⟩ ⟨rfl, by decide, rfl⟩
  · rw [hout, State.levelTick_core, hcore, hfr]
  · rw [State.period, hlevel _ (by simp [movesTimer]) (by decide), State.periodTick_none (by rw [hfr]; exact hp)]
    exact hbefore.rd _ 0 0 (by decide +kernel)
  · obtain ⟨hshown, hevent, -⟩ := State.periodTick_some (s := v4) (p := p) (by rw [hfr]; exact hp)
    rw [State.period, hlevel _ (by simp [movesTimer]) (by decide), hlevel _ (by simp [movesTimer]) (by decide)]
    exact ⟨hshown, hevent⟩
  · rw [hout, State.levelTick_none (by rw [hlevelNext, hl]), hperiod _ (by simp [movesTimer]) (by decide) (by decide)]
    exact hbefore.rd _ 0 0 (by decide +kernel)
  · rw [hout, State.levelTick_some (by rw [hlevelNext, hl])]

/-! ### The tracker and the end of a tick -/

theorem Effect.cell {A : List Part} {R : Option (List Field)} {s t : State} (k : Effect A R s t) (n : Nat)
    (hA : Part.cells ∉ A := by decide) : t.cell n = s.cell n :=
  congrArg (Tbl.look default · n) (k.same .cells hA)

/-- The tracker opens the entry of every declared cell (R46). -/
theorem State.tickTracker_cells : ∀ k ∈ s.cellList, (s.tickTracker.cell k).done = false ∧ (s.tickTracker.cell k).crcBad = false := by
  let v := s.each s.cellList fun s n => s.modCell n fun c => { c with done := false, crcBad := false, arrive := 0, bad := false }
  have hopened : ∀ k ∈ s.cellList, (v.cell k).done = false ∧ (v.cell k).crcBad = false := by
    refine (State.each_forall (I := fun _ => True) (P := fun k v => (v.cell k).done = false ∧ (v.cell k).crcBad = false) trivial
      (fun _ _ _ _ => trivial) (fun w _ k _ => ?_) fun w _ k _ b hkb hb => ?_).2
    · rw [State.modCell_same]
      exact ⟨rfl, rfl⟩
    · rwa [State.modCell_other _ _ _ (Ne.symm hkb)]
  have hcells : s.tickTracker.cells = v.cells := by
    have hwaited : v.ctrlTick.waitedUnits.cells = v.cells :=
      ((State.waitedUnits_effect ..).same .cells (by decide)).trans ((State.ctrlTick_effect ..).same .cells (by decide))
    rw [← hwaited]
    exact (State.wr_cells ..).trans (State.wr_cells ..)
  intro k hk
  rw [State.cell, hcells]
  exact hopened k hk

/-- COAST says that no plane holds the ball. -/
theorem State.tickEnds_coast : s.tickEnds.rd Reg.FRAME_STATUS.COAST = b01 (!s.tickEnds.referee.ball) := by
  have hball : s.tickEnds.referee = s.referee := State.wr_referee ..
  rw [hball]
  refine (State.rd_wr_same _ _ _ _ _ rfl (by decide)).trans ?_
  exact b01_mod _

theorem State.tickEnds_cell (k : Nat) : s.tickEnds.cell k = s.cell k :=
  (State.wr_effect s Reg.FRAME_STATUS.COAST (b01 (!s.referee.ball)) 0 0).cell k

theorem State.elapse_timerRuns (t : Nat) : (s.elapse t).timerRuns = s.timerRuns := by
  have hrun : (s.elapse t).ticking = s.ticking := congrArg (· != 0) (s.elapse_rd t Reg.FRAME_STATUS.RUNNING 0 0 (by decide +kernel))
  rw [State.timerRuns, State.timerRuns, hrun, State.clocked, State.clocked, State.elapse_power]

theorem State.sdRuns_of_timerRuns {s : State} (h : s.timerRuns = true) : s.sdRuns = true := by
  simp only [State.timerRuns, State.clocked, Bool.and_eq_true, Bool.not_eq_true'] at h
  simp [State.sdRuns, h]

end

end Sys2Proof.Machine
end
section
namespace Sys2Proof.Machine

set_option Elab.async false

/-! ### Cells in a loop -/

/-- A loop whose steps each change the cells they own and no others: every owned cell is changed once. -/
theorem State.each_cells {α : Type} {cells : α → List Nat} {f : State → α → State} {P : CellMem → CellMem → Prop}
    (hown : ∀ s a, ∀ k ∈ cells a, P (s.cell k) ((f s a).cell k)) (hother : ∀ s a k, k ∉ cells a → (f s a).cell k = s.cell k) {l : List α}
    (hl : (l.flatMap cells).Nodup) (s : State) :
    (∀ k ∈ l.flatMap cells, P (s.cell k) ((s.each l f).cell k)) ∧ ∀ k, k ∉ l.flatMap cells → (s.each l f).cell k = s.cell k := by
  induction l generalizing s with
  | nil => exact ⟨fun k hk => absurd hk List.not_mem_nil, fun _ _ => rfl⟩
  | cons a l ih =>
    rw [List.flatMap_cons] at hl ⊢
    obtain ⟨-, hrest, hapart⟩ := List.nodup_append'.mp hl
    obtain ⟨hin, hout⟩ := ih hrest (f s a)
    refine ⟨fun k hk => ?_, fun k hk => ?_⟩
    · by_cases hka : k ∈ cells a
      · have hlater : (State.each s (a :: l) f).cell k = (f s a).cell k := hout k (hapart hka)
        rw [hlater]
        exact hown s a k hka
      · have hlater := hin k ((List.mem_append.mp hk).resolve_left hka)
        rw [hother s a k hka] at hlater
        exact hlater
    · obtain ⟨hka, hkl⟩ := not_or.mp (mt List.mem_append.mpr hk)
      exact (hout k hkl).trans (hother s a k hka)

theorem State.wr_cell (s : State) (f : Field) (v i j n : Nat) : (s.wr f v i j).cell n = s.cell n :=
  (State.wr_effect s f v i j).cell n

/-! ### A cell at the freeze -/

/-- What a frozen image shows of a cell, and what its prediction rests on. -/
def CellMem.shown (c : CellMem) : CellMem :=
  { (default : CellMem) with fresh := c.fresh, v := c.v, v2 := c.v2, slot := c.slot, moving := c.moving, staleRun := c.staleRun }

/-- An entry frozen (R50 to R52): FRESH with the voltage of its slot where it is completed, else STALE with the predicted voltage. -/
structure CellMem.Frozen (done : Bool) (c d : CellMem) : Prop where
  fresh : done = true → d.fresh = true ∧ d.v = u16At c.slot 4 ∧ d.staleRun = 0
  stale : done = false → d.fresh = false ∧ d.v = (clampI 0 65535 (c.v + c.step)).toNat ∧ d.v2 = c.v2 ∧ d.slot = c.slot ∧
    d.staleRun = if d.moving then c.staleRun else min 3 (c.staleRun + 1)

theorem CellMem.Frozen.of_shown {done : Bool} {c d e : CellMem} (h : CellMem.Frozen done c d) (he : e.shown = d.shown) :
    CellMem.Frozen done c e := by
  have hfresh : e.fresh = d.fresh := (congrArg CellMem.fresh he :)
  have hv : e.v = d.v := (congrArg CellMem.v he :)
  have hv2 : e.v2 = d.v2 := (congrArg CellMem.v2 he :)
  have hslot : e.slot = d.slot := (congrArg CellMem.slot he :)
  have hmoving : e.moving = d.moving := (congrArg CellMem.moving he :)
  have hrun : e.staleRun = d.staleRun := (congrArg CellMem.staleRun he :)
  exact ⟨by rw [hfresh, hv, hrun]; exact h.fresh, by rw [hfresh, hv, hv2, hslot, hrun, hmoving]; exact h.stale⟩

section
variable (s : State) (cc : ChainCfg) (h : Nat)

theorem State.modCell_shown {n : Nat} {f : CellMem → CellMem} (hf : ∀ c, (f c).shown = c.shown) (k : Nat) :
    ((s.modCell n f).cell k).shown = (s.cell k).shown := by
  by_cases hk : k = n
  · rw [hk, State.modCell_same, hf]
  · rw [State.modCell_other _ _ _ hk]

theorem State.quietGap_shown (k : Nat) : ((s.quietGap cc h).cell k).shown = (s.cell k).shown := by
  unfold State.quietGap
  extract_lets n c v1 v2 v3
  rw [(State.queueCall_effect ..).cell, (State.queueCall_effect ..).cell, (State.setDelay_effect ..).cell, (State.setDelay_effect ..).cell]
  exact s.modCell_shown (fun _ => by rfl) k

theorem State.quietGap_other {k : Nat} (hk : k ≠ cc.base + h) : (s.quietGap cc h).cell k = s.cell k := by
  unfold State.quietGap
  extract_lets n c v1 v2 v3
  rw [(State.queueCall_effect ..).cell, (State.queueCall_effect ..).cell, (State.setDelay_effect ..).cell, (State.setDelay_effect ..).cell]
  exact State.modCell_other _ _ _ hk

/-- Whether a position is reachable changes nothing that the image shows of its cell, and nothing of another cell. -/
theorem State.freezeReach_cell (k : Nat) : ((s.freezeReach cc h).cell k).shown = (s.cell k).shown ∧
    (k ≠ cc.base + h → (s.freezeReach cc h).cell k = s.cell k) := by
  unfold State.freezeReach
  extract_lets n gone was v1 v2 tells told
  have h1 : (v1.cell k).shown = (s.cell k).shown ∧ (k ≠ n → v1.cell k = s.cell k) :=
    ⟨s.modCell_shown (fun _ => by rfl) k, State.modCell_other _ _ _⟩
  have h2 : (v2.cell k).shown = (v1.cell k).shown ∧ (k ≠ n → v2.cell k = v1.cell k) := by
    refine ⟨State.when_keeps (fun v => (v.cell k).shown) (fun w => ?_) v1, fun hk => State.when_keeps (·.cell k) (fun w => ?_) v1⟩
    · rw [State.wr_cell, State.wr_cell]
      exact w.modCell_shown (fun _ => by rfl) k
    · rw [State.wr_cell, State.wr_cell]
      exact State.modCell_other _ _ _ hk
  have h3 : (v2.cell k).shown = (s.cell k).shown ∧ (k ≠ n → v2.cell k = s.cell k) :=
    ⟨h2.1.trans h1.1, fun hk => (h2.2 hk).trans (h1.2 hk)⟩
  split
  · exact h1
  split
  · exact ⟨(v2.modCell_shown (fun _ => by rfl) k).trans h3.1, fun hk => (State.modCell_other _ _ _ hk).trans (h3.2 hk)⟩
  split
  · exact h3
  · exact ⟨(v2.quietGap_shown cc h k).trans h3.1, fun hk => (v2.quietGap_other cc h hk).trans (h3.2 hk)⟩

/-- A completed entry becomes FRESH (R50). -/
theorem State.freezeFresh_cell : CellMem.Frozen true (s.cell (cc.base + h)) ((s.freezeFresh cc h).cell (cc.base + h)) ∧
    ∀ k, k ≠ cc.base + h → (s.freezeFresh cc h).cell k = s.cell k := by
  unfold State.freezeFresh
  extract_lets n c dab miss restart back lane v1 v2 v vv v3
  refine ⟨⟨fun _ => ?_, fun hdone => absurd hdone (by decide)⟩, fun k hk => ?_⟩
  · rw [State.modCell_same]
    exact ⟨rfl, rfl, rfl⟩
  · have h2 : v2.cell k = s.cell k := (State.when_keeps (·.cell k) (fun w => (State.queueCall_effect ..).cell k) v1).trans
      (State.when_keeps (·.cell k) (fun w => (State.queueCall_effect ..).cell k) s)
    rw [State.modCell_other _ _ _ hk, State.wr_cell, h2]

/-- An entry still open becomes STALE, with the predicted voltage (R51, R52). -/
theorem State.freezeStale_cell (n : Nat) : CellMem.Frozen false (s.cell n) ((s.freezeStale n).cell n) ∧
    ∀ k, k ≠ n → (s.freezeStale n).cell k = s.cell k := by
  unfold State.freezeStale
  extract_lets c run v begins v1 v2
  have h2 : ∀ k, v2.cell k = s.cell k := fun k =>
    (State.when_keeps (·.cell k) (fun w => (State.raise_effect ..).cell k) v1).trans ((State.bump_effect ..).cell k)
  refine ⟨⟨fun hdone => absurd hdone (by decide), fun _ => ?_⟩, fun k hk => ?_⟩
  · rw [State.modCell_same, h2 n]
    exact ⟨rfl, rfl, rfl, rfl, rfl⟩
  · rw [State.modCell_other _ _ _ hk, h2 k]

/-- One cell at T_FREEZE: its entry is frozen, and no other cell changes. -/
theorem State.freezeCell_cell : CellMem.Frozen (s.cell (cc.base + h)).done (s.cell (cc.base + h)) ((s.freezeCell cc h).cell (cc.base + h)) ∧
    ∀ k, k ≠ cc.base + h → (s.freezeCell cc h).cell k = s.cell k := by
  unfold State.freezeCell
  extract_lets n v1 v2 v3
  have h1 : v1.cell n = { s.cell n with moving := (v1.cell n).moving, moved := (v1.cell n).moved } := by
    unfold v1 State.freezeMoving
    rw [State.modCell_same]
  have h1o : ∀ k, k ≠ n → v1.cell k = s.cell k := fun k hk => State.modCell_other _ _ _ hk
  have h2 : CellMem.Frozen (s.cell n).done (s.cell n) (v2.cell n) ∧ ∀ k, k ≠ n → v2.cell k = v1.cell k := by
    have hdone : (v1.cell n).done = (s.cell n).done := by rw [h1]
    cases hd : (s.cell n).done with
    | true =>
      have hv2 : v2 = v1.freezeFresh cc h := if_pos (hdone.trans hd)
      rw [hv2]
      obtain ⟨hown, hother⟩ := v1.freezeFresh_cell cc h
      exact ⟨⟨fun hdone => by rw [h1] at hown; exact hown.fresh hdone, fun hdone => absurd hdone (by decide)⟩, hother⟩
    | false =>
      have hv2 : v2 = v1.freezeStale n := if_neg (by rw [hdone, hd]; decide)
      rw [hv2]
      obtain ⟨hown, hother⟩ := v1.freezeStale_cell n
      exact ⟨⟨fun hdone => absurd hdone (by decide), fun hdone => by rw [h1] at hown; exact hown.stale hdone⟩, hother⟩
  have h3 : ∀ k, (v3.cell k).shown = (v2.cell k).shown ∧ (k ≠ n → v3.cell k = v2.cell k) := v2.freezeReach_cell cc h
  refine ⟨?_, fun k hk => ?_⟩
  · rw [State.wr_cell, State.wr_cell]
    exact h2.1.of_shown (h3 n).1
  · rw [State.wr_cell, State.wr_cell, (h3 k).2 hk, h2.2 k hk, h1o k hk]

end

end Sys2Proof.Machine
end
section
namespace Sys2Proof.Machine

set_option Elab.async false

/-! ### All cells at the freeze -/

/-- A cell as the freeze takes it: an entry hit by an uncorrectable buffer error counts as open (R28). -/
def CellMem.heard (c : CellMem) : CellMem := if c.bad then { c with done := false, bad := false } else c

theorem CellMem.heard_done (c : CellMem) : c.heard.done = (c.done && !c.bad) := by
  unfold CellMem.heard
  split <;> simp_all

theorem CellMem.Frozen.of_heard {done : Bool} {c d : CellMem} (h : CellMem.Frozen done c.heard d) : CellMem.Frozen done c d := by
  unfold CellMem.heard at h
  split at h
  · exact ⟨h.fresh, h.stale⟩
  · exact h

theorem ChainCfg.cellList_nodup (cc : ChainCfg) : cc.cellList.Nodup :=
  List.Nodup.map (add_right_injective cc.base) List.nodup_range

section
variable (s : State)

/-- A chain at T_FREEZE: each of its cells is frozen, and no other cell changes. -/
theorem State.freezeAll_cells (cc : ChainCfg) :
    (∀ k ∈ cc.cellList, CellMem.Frozen ((s.cell k).done && !(s.cell k).bad) (s.cell k) ((s.freezeAll cc).cell k)) ∧
      ∀ k, k ∉ cc.cellList → (s.freezeAll cc).cell k = s.cell k := by
  have hlist : cc.cellList.flatMap (fun n => [n]) = cc.cellList := List.flatMap_singleton' _
  have hcells : (upTo cc.cells).flatMap (fun h => [cc.base + h]) = cc.cellList := List.map_eq_flatMap.symm
  unfold State.freezeAll
  extract_lets v1 v2 v3 v4
  have h1 : ∀ k, v1.cell k = s.cell k := fun k => (State.settleCall_effect ..).cell k
  have h2 : (∀ k ∈ cc.cellList, v2.cell k = (v1.cell k).heard) ∧ ∀ k, k ∉ cc.cellList → v2.cell k = v1.cell k := by
    have hall := State.each_cells (cells := fun n => [n]) (P := fun c d => d = c.heard) (l := cc.cellList)
      (f := fun s n => s.modCell n fun c => if c.bad then { c with done := false, bad := false } else c)
      (fun w n k hk => by rw [List.mem_singleton.mp hk, State.modCell_same]; rfl)
      (fun w n k hk => State.modCell_other _ _ _ (by simpa using hk)) (by rw [hlist]; exact cc.cellList_nodup) v1
    rwa [hlist] at hall
  have h4 : ∀ k, v4.cell k = v2.cell k := fun k => by
    unfold v4 v3
    rw [(State.freezeLane_effect ..).cell, (State.freezeLane_effect ..).cell, (State.autoRestore_effect ..).cell,
      (State.freezeChain_effect ..).cell]
  have h5 := State.each_cells (cells := fun h => [cc.base + h]) (P := fun c d => CellMem.Frozen c.done c d) (l := upTo cc.cells)
    (f := fun s h => s.freezeCell cc h)
    (fun w h k hk => by rw [List.mem_singleton.mp hk]; exact (w.freezeCell_cell cc h).1)
    (fun w h k hk => (w.freezeCell_cell cc h).2 k (by simpa using hk)) (by rw [hcells]; exact cc.cellList_nodup) v4
  rw [hcells] at h5
  refine ⟨fun k hk => ?_, fun k hk => ?_⟩
  · have hfrozen := h5.1 k hk
    rw [h4 k, h2.1 k hk, h1 k, CellMem.heard_done] at hfrozen
    rw [(State.settleMove_effect ..).cell]
    exact hfrozen.of_heard
  · rw [(State.settleMove_effect ..).cell, h5.2 k hk, h4 k, h2.2 k hk, h1 k]

/-! ### The image and the planes -/

theorem State.freezeImage_does (hclock : s.clocked 1 = true) (hcells : s.cellList.Nodup) :
    s.freezeImage.fr.phase = .frozen ∧ s.freezeImage.fr.freezeNs = s.count ∧ s.freezeImage.rd Reg.FRAME_STATUS.FROZEN_BUF = s.frameNo % 2 ∧
    s.freezeImage.frameNo = s.frameNo ∧
    ∀ k ∈ s.cellList, CellMem.Frozen ((s.cell k).done && !(s.cell k).bad) (s.cell k) (s.freezeImage.cell k) := by
  unfold State.freezeImage
  extract_lets b v1 v2 v3
  have h1 : v1.fr.phase = .frozen ∧ v1.fr.freezeNs = s.count := by
    unfold v1
    rw [State.modFr_fr]
    split <;> exact ⟨rfl, rfl⟩
  have hv3 : v3 = (v2.each v2.cfg.chains fun s cc => s.freezeAll cc).hkPost :=
    congrArg State.hkPost (if_pos (by rw [State.clocked, State.wr_power]; exact hclock))
  have hrd : ∀ f, f = Reg.FRAME_NO.FRAME_NO ∨ f = Reg.FRAME_STATUS.FROZEN_BUF → v3.rd f = v2.rd f := fun f hf => by
    rw [hv3]
    refine (Effect.rd (State.hkPost_effect _) f 0 0 rfl).trans (State.each_keeps (·.rd f) (fun v cc => ?_) v2)
    exact Effect.rd (State.freezeAll_effect ..) f 0 0 (by rcases hf with rfl | rfl <;> decide +kernel)
  have hstore : ∀ f i j, (v3.when (v3.clocked 1) (·.storeImage b)).rd f i j = v3.rd f i j := fun f i j =>
    State.when_keeps (·.rd f i j) (fun v => Effect.rd (State.storeImage_effect v b) f i j rfl) v3
  have hfr : (v3.when (v3.clocked 1) (·.storeImage b)).fr = v1.fr := by
    rw [State.when_keeps (·.fr) (fun v => (State.storeImage_effect v b).frSame) v3, hv3, (State.hkPost_effect ..).frSame,
      State.each_keeps (·.fr) (fun v cc => (State.freezeAll_effect ..).frSame) v2, State.wr_fr]
  refine ⟨by rw [hfr, h1.1], by rw [hfr, h1.2], ?_, ?_, fun k hk => ?_⟩
  · rw [hstore, hrd _ (.inr rfl)]
    exact (State.rd_wr_same _ _ _ _ _ rfl (by decide)).trans (Nat.mod_mod _ _)
  · rw [State.frameNo, hstore, hrd _ (.inl rfl)]
    exact State.rd_wr_apart _ _ _ _ _ _ (by decide +kernel)
  · have hcfg : v2.cfg = s.cfg := State.wr_cfg ..
    have h2 : v2.cell k = s.cell k := State.wr_cell ..
    have hall := State.each_cells (cells := ChainCfg.cellList)
      (P := fun c d => CellMem.Frozen (c.done && !c.bad) c d) (l := v2.cfg.chains) (f := fun s cc => s.freezeAll cc)
      (fun w cc => (w.freezeAll_cells cc).1) (fun w cc => (w.freezeAll_cells cc).2) (by rw [hcfg]; exact hcells) v2
    have hfrozen := hall.1 k (by rw [hcfg]; exact hk)
    rw [h2] at hfrozen
    have hend : (v3.when (v3.clocked 1) (·.storeImage b)).cell k = (v2.each v2.cfg.chains fun s cc => s.freezeAll cc).cell k := by
      rw [State.when_keeps (·.cell k) (fun v => (State.storeImage_effect v b).cell k) v3, hv3, (State.hkPost_effect ..).cell]
    rw [hend]
    exact hfrozen

/-- The image frozen and the planes started, before what step 6 brings (R50, R212). -/
def State.frozen (s : State) : State :=
  let s := s.freezeImage.shadowBegins
  let s := s.when s.referee.ball (·.startPlane s.holder)
  s.when (decide (s.role s.standby = roShadow)) (·.startPlane s.standby)

theorem State.shadowBegins_step6 : s.shadowBegins.power.step6 = s.power.step6 := by
  have hrole : ∀ p r, (s.setRole p r).power.step6 = s.power.step6 := fun p r => by
    unfold State.setRole
    extract_lets v1 on v2 v3 v4 v5
    have h5 : v5.power = s.power := by
      have h4 : v4.power = v3.power := State.each_keeps (·.power) (fun w j => by
        refine (State.when_keeps (·.power) (fun x => State.modEng_power ..) _).trans ?_
        rw [State.wr_power, State.wr_power, State.wr_power]) v3
      refine (State.when_keeps (·.power) (fun w => (State.showExports_effect ..).same .power (by decide)) v4).trans (h4.trans ?_)
      unfold v3 v2
      rw [State.wr_power, State.wr_power]
      exact State.when_keeps (·.power) (fun w => State.wr_power ..) s
    split
    · rw [h5]
    · rw [(State.wrBit_effect ..).same .power (by decide)]
      exact (congrArg PowerSt.step6 h5 : v5.power.step6 = s.power.step6)
  unfold State.shadowBegins
  split
  · split
    · exact hrole ..
    · rfl
  · rfl

theorem State.frozen_step6 : s.frozen.power.step6 = s.power.step6 := by
  have hplanes : ∀ v : State, ∀ c : Bool, ∀ p, (v.when c (·.startPlane p)).power = v.power := fun v c p =>
    State.when_keeps (·.power) (fun w => (State.startPlane_effect ..).same .power (by decide)) v
  unfold State.frozen
  extract_lets v1 v2
  rw [hplanes, hplanes, State.shadowBegins_step6, (State.freezeImage_effect ..).same .power (by decide)]

theorem State.frozen_after : (s.frozen.fr.core = s.freezeImage.fr.core) ∧ (∀ k, s.frozen.cell k = s.freezeImage.cell k) ∧
    s.frozen.rd Reg.FRAME_STATUS.FROZEN_BUF = s.freezeImage.rd Reg.FRAME_STATUS.FROZEN_BUF ∧ s.frozen.frameNo = s.freezeImage.frameNo := by
  have hplane : ∀ f, f = Reg.FRAME_NO.FRAME_NO ∨ f = Reg.FRAME_STATUS.FROZEN_BUF → ∀ v : State, ∀ c : Bool, ∀ p,
      (v.when c (·.startPlane p)).rd f = v.rd f := fun f hf v c p =>
    State.when_keeps (·.rd f) (fun w => Effect.rd (State.startPlane_effect ..) f 0 0 (by rcases hf with rfl | rfl <;> decide +kernel)) v
  have hrd : ∀ f, f = Reg.FRAME_NO.FRAME_NO ∨ f = Reg.FRAME_STATUS.FROZEN_BUF → s.frozen.rd f = s.freezeImage.rd f := fun f hf => by
    unfold State.frozen
    extract_lets v1 v2
    rw [hplane f hf, hplane f hf]
    exact Effect.rd (State.shadowBegins_effect _) f 0 0 (by rcases hf with rfl | rfl <;> decide +kernel)
  refine ⟨?_, fun k => ?_, hrd _ (.inr rfl), hrd _ (.inl rfl)⟩
  · unfold State.frozen
    extract_lets v1 v2
    rw [State.when_keeps (·.fr.core) (fun w => w.startPlane_core _) v2, State.when_keeps (·.fr.core) (fun w => w.startPlane_core _) v1,
      (State.shadowBegins_effect ..).frSame]
  · unfold State.frozen
    extract_lets v1 v2
    rw [State.when_keeps (·.cell k) (fun w => (State.startPlane_effect ..).cell k) v2,
      State.when_keeps (·.cell k) (fun w => (State.startPlane_effect ..).cell k) v1, (State.shadowBegins_effect ..).cell]

section
variable {s : State}

theorem State.freezeFrame_eq (hruns : s.timerRuns = true) (hopen : s.fr.phase = .open) :
    s.freezeFrame = if s.power.step6 = 3 then s.frozen.enterKeepOnly true s.frozen.power.thermalEntry else s.frozen := by
  have hgo : ¬((!s.timerRuns || decide (s.fr.phase ≠ .open)) = true) := by simp [hruns, hopen]
  rw [← s.frozen_step6]
  exact if_neg hgo

theorem State.freezeFrame_refused (h : s.timerRuns = false ∨ s.fr.phase ≠ .open) : s.freezeFrame = s :=
  if_pos (by rcases h with h | h <;> simp [h])

end

/-- KEEP-ONLY: the DEV domain is held in reset, and FAULT_N is active (R368, R376). -/
theorem State.enterKeepOnly_does (announce thermal : Bool) : (s.enterKeepOnly announce thermal).device = stKeepOnly ∧
    (s.enterKeepOnly announce thermal).power.pgood = 0 ∧ (s.enterKeepOnly announce thermal).power.held = true ∧
    (s.enterKeepOnly announce thermal).rd Reg.FAULT_STATE.FAULT_N = 0 := by
  obtain ⟨u, hwiped, hu⟩ := State.devReset_stages s.resetBegins announce 0
  let v := u.heldOutputs.wr Reg.POWER_STATE.STATE stKeepOnly
  let w := v.modPower fun p => { p with pgood := 0, keepOnlyAt := v.time.ns, thermalEntry := thermal }
  have hout : s.enterKeepOnly announce thermal = w.showPgood := by
    simp only [State.enterKeepOnly, hu]
    rfl
  have hpower : w.showPgood.power = { u.power with pgood := 0, keepOnlyAt := v.time.ns, thermalEntry := thermal } := by
    rw [(State.showPgood_effect ..).same .power (by decide), ← (State.heldOutputs_effect u).same .power (by decide),
      ← State.wr_power u.heldOutputs Reg.POWER_STATE.STATE stKeepOnly 0 0]
    rfl
  have hshown : ∀ f, f = Reg.POWER_STATE.STATE ∨ f = Reg.FAULT_STATE.FAULT_N → w.showPgood.rd f = v.rd f := fun f hf =>
    (Effect.rd (State.showPgood_effect w) f 0 0 (by rcases hf with rfl | rfl <;> decide +kernel)).trans (State.modPower_rd ..)
  rw [hout]
  refine ⟨?_, ?_, ?_, ?_⟩
  · rw [State.device, hshown _ (.inl rfl)]
    exact State.rd_wr_same _ _ _ _ _ rfl (by decide)
  · rw [hpower]
  · rw [hpower, hwiped.power]
    rfl
  · rw [hshown _ (.inr rfl)]
    refine (State.rd_wr_apart _ _ _ _ _ _ (by decide +kernel)).trans ?_
    refine (Effect.rd (State.showSafe_effect _) _ 0 0 (by decide +kernel)).trans ?_
    refine (State.when_keeps (·.rd Reg.FAULT_STATE.FAULT_N) (fun x => State.rd_wr_apart _ _ _ _ _ _ (by decide +kernel)) _).trans ?_
    exact (State.rd_wr_apart _ _ _ _ _ _ (by decide +kernel)).trans (State.rd_wr_same _ _ _ _ _ rfl (by decide))

/-! ### T_SAMPLE -/

/-- A ΔΣ output as the frame image shows it: the latest output with its instant from the tick, or a zero slot (R240). -/
theorem State.sampleDs_slots : (∀ k, k < 4 * s.silicon.variant.drives → Tbl.look default s.sampleDs.adc.slots (256 + k) =
      ((s.dsCh k).out.map fun o => { o with tNs := o.tNs - s.tickNs }).getD default) ∧
    ∀ k, k < 256 → Tbl.look default s.sampleDs.adc.slots k = Tbl.look default s.adc.slots k := by
  let shown : Nat → State → AdcSlot := fun k v => ((v.dsCh k).out.map fun o => { o with tNs := o.tNs - v.tickNs }).getD default
  have hstep : s.sampleDs = s.each (upTo (4 * s.silicon.variant.drives)) fun v k => v.putSlot (256 + k) (shown k v) := by
    unfold State.sampleDs
    congr
    funext v k
    cases h : (v.dsCh k).out <;> simp [shown, h]
  have hsame : ∀ v k x j, shown j (State.putSlot v k x) = shown j v := fun _ _ _ _ => rfl
  rw [hstep]
  refine ⟨fun k hk => ?_, fun k hk => ?_⟩
  · refine (State.each_forall (I := fun v => ∀ j, shown j v = shown j s)
      (P := fun k v => Tbl.look default v.adc.slots (256 + k) = shown k s) (fun _ => rfl) (fun v hv a _ j => ?_) (fun v hv a _ => ?_)
      fun v _ a _ b hab hb => ?_).2 k (mem_upTo.mpr hk)
    · exact (hsame ..).trans (hv j)
    · exact (Tbl.look_put_same _ _ _ _).trans (hv a)
    · exact (Tbl.look_put_ne _ _ _ _ (by omega)).trans hb
  · exact State.each_keeps (fun v => Tbl.look default v.adc.slots k) (fun v a => Tbl.look_put_ne _ _ _ _ (by omega)) s

end

end Sys2Proof.Machine
end
section
namespace Sys2Proof.Machine

set_option Elab.async false

/-! ### Ticks, samples and freezes -/

section
variable {s : State}

/-- A tick at its instant: what the timer, the planner, the tracker and its end set (R39, R40, R46, R59). -/
theorem State.frameTick_does (headerBad : List Nat) (mramOk : Bool) (hruns : s.timerRuns = true) (hdue : s.time.ns = s.fr.nextTick) :
    FrameStep s.tickTimer (s.frameTick headerBad mramOk) ∧
      (∀ k ∈ s.cellList, ((s.frameTick headerBad mramOk).cell k).done = false ∧ ((s.frameTick headerBad mramOk).cell k).crcBad = false) ∧
      (s.frameTick headerBad mramOk).rd Reg.FRAME_STATUS.COAST = b01 (!(s.frameTick headerBad mramOk).referee.ball) := by
  let v := s.tickTimer.tickBlocks headerBad mramOk s.period
  rw [State.frameTick_eq hruns hdue]
  refine ⟨s.tickTimer.tickRest_step headerBad mramOk s.period, fun k hk => ?_, State.tickEnds_coast _⟩
  have hcfg : v.cfg = s.cfg := (s.tickTimer.tickBlocks_step headerBad mramOk s.period).cfg.trans
    ((State.tickTimer_effect s).same .cfg (by decide))
  have hend : v.tickTracker.tickBuffer.tickOthers.tickEnds.cell k = v.tickTracker.cell k := by
    rw [State.tickEnds_cell, (State.tickOthers_effect ..).cell, (State.tickBuffer_effect ..).cell]
  rw [hend]
  exact v.tickTracker_cells k (by rw [State.cellList, hcfg]; exact hk)

end

theorem State.settle_cell (s : State) (k : Nat) : s.settle.cell k = s.cell k := (State.settle_effect s).cell k

theorem State.elapse_cell (s : State) (t k : Nat) : (s.elapse t).cell k = s.cell k := (State.elapse_effect s t).cell k

/-- What a frame's core says of it, field by field. -/
theorem FrameSt.core_eq {f g : FrameSt} (h : f.core = g.core) : f.phase = g.phase ∧ f.ovPrev = g.ovPrev ∧ f.ovCompute = g.ovCompute ∧
    f.ovRank = g.ovRank ∧ f.dup = g.dup ∧ f.ticks = g.ticks ∧ f.freezeNs = g.freezeNs :=
  ⟨(congrArg FrameSt.phase h :), (congrArg FrameSt.ovPrev h :), (congrArg FrameSt.ovCompute h :), (congrArg FrameSt.ovRank h :),
    (congrArg FrameSt.dup h :), (congrArg FrameSt.ticks h :), (congrArg FrameSt.freezeNs h :)⟩

/-- Settles O13: a tick by what its timer sets and the rest of it leaves, a freeze cell by cell, a sample channel by channel. -/
theorem ticksOpenEntriesAndFreezesPredict : Obligations.TicksOpenEntriesAndFreezesPredict := by
  unfold Obligations.TicksOpenEntriesAndFreezesPredict
  refine ⟨?_, ?_, ?_, ?_, ?_, ?_, ?_⟩
  · intro s t l hruns hdue
    have hfr : (s.elapse t).fr = s.fr := s.elapse_fr t (State.sdRuns_of_timerRuns hruns)
    have hread : ∀ f, f = Reg.FRAME_NO.FRAME_NO ∨ f = Reg.FRAME_PERIOD.PERIOD ∨ f = Reg.PLAN_LEVEL.CURRENT → (s.elapse t).rd f = s.rd f :=
      fun f hf => s.elapse_rd t f 0 0 (by rcases hf with rfl | rfl | rfl <;> decide +kernel)
    obtain ⟨hstep, hcells, hcoast⟩ := State.frameTick_does (l.headerBad.map (·.val)) l.mramOk ((s.elapse_timerRuns t).trans hruns) hdue
    obtain ⟨hno, hns, hcore, hstays, hperiod, hkeeps, hlevel⟩ := (s.elapse t).tickTimer_does
    obtain ⟨hphase, hprev, hcompute, hrank, hdup, hticks, -⟩ := FrameSt.core_eq (hstep.core.trans hcore)
    have hshown : ∀ f ∈ movesTimer, ((s.elapse t).frameTick (l.headerBad.map (·.val)) l.mramOk).settle.rd f = (s.elapse t).tickTimer.rd f :=
      fun f hf => (State.settle_rd _ f 0 0 (by revert f; decide +kernel)).trans (hstep.shown f hf)
    rw [hfr] at hprev hticks hno hstays hperiod hkeeps hlevel
    refine ⟨_, rfl, ?_, ?_, ?_, ?_, ?_, ?_, ?_, ?_, ?_, fun p hp => ?_, ?_, fun k hk => ?_, ?_,
      Effect.of_exec (execFrameTick_effect t l s) rfl (by decide) (by decide +kernel)⟩
    · rw [State.frameNo, hshown _ (by simp [movesTimer])]
      refine hno.trans ?_
      rw [State.frameNo, hread _ (.inl rfl), State.frameNo]
    · rw [State.rd64, hshown _ (by simp [movesTimer]), hshown _ (by simp [movesTimer])]
      exact hns
    · rw [State.settle_fr, hphase]; rfl
    · rw [State.settle_fr, hprev]; rfl
    · rw [State.settle_fr, hcompute]; rfl
    · rw [State.settle_fr, hrank]; rfl
    · rw [State.settle_fr, hdup]; rfl
    · rw [State.settle_fr, hticks, State.elapse_cfg]; rfl
    · rw [State.period, hshown _ (by simp [movesTimer])]
      cases hp : s.fr.nextPeriod with
      | none => exact (hstays hp).trans (hread _ (.inr (.inl rfl)))
      | some p => exact (hperiod p hp).1
    · rw [hshown _ (by simp [movesTimer])]
      exact (hperiod p hp).2
    · rw [hshown _ (by simp [movesTimer])]
      cases hl : s.fr.nextLevel with
      | none => exact (hkeeps hl).trans (hread _ (.inr (.inr rfl)))
      | some k => exact hlevel k hl
    · rw [State.settle_cell]
      exact hcells k (by rw [State.cellList, State.elapse_cfg]; exact hk)
    · rw [State.settle_rd _ _ _ _ (by decide +kernel), State.settle_referee]
      exact hcoast
  · intro s t l hnot
    have hnone : (s.elapse t).frameTick (l.headerBad.map (·.val)) l.mramOk = s.elapse t :=
      State.frameTick_refused (by rwa [State.elapse_timerRuns])
    exact ⟨_, congrArg done hnone, State.elapse_settle_effect s t⟩
  · intro s t hruns hopen hstep hclock hnodup
    have hfr : (s.elapse t).fr = s.fr := s.elapse_fr t (State.sdRuns_of_timerRuns hruns)
    have hfrozen : (s.elapse t).freezeFrame = (s.elapse t).frozen := by
      rw [State.freezeFrame_eq ((s.elapse_timerRuns t).trans hruns) (by rw [hfr, hopen]), State.elapse_power]
      exact if_neg hstep
    obtain ⟨hphase, hns, hbuf, hno, hcells⟩ := (s.elapse t).freezeImage_does (by rw [State.clocked, State.elapse_power]; exact hclock)
      (by rw [State.cellList, State.elapse_cfg]; exact hnodup)
    obtain ⟨hcoreAfter, hcellAfter, hbufAfter, hnoAfter⟩ := (s.elapse t).frozen_after
    obtain ⟨hphaseAfter, -, -, -, -, -, hnsAfter⟩ := FrameSt.core_eq hcoreAfter
    have hframe : (s.elapse t).frameNo = s.frameNo := s.elapse_rd t _ 0 0 (by decide +kernel)
    have hcell : ∀ k ∈ s.cellList, CellMem.Frozen ((s.cell k).done && !(s.cell k).bad) (s.cell k) ((s.elapse t).frozen.settle.cell k) := by
      intro k hk
      have hk' := hcells k (by rw [State.cellList, State.elapse_cfg]; exact hk)
      rw [State.settle_cell, hcellAfter k]
      rwa [State.elapse_cell] at hk'
    refine ⟨_, congrArg done hfrozen, ?_, ?_, ?_, ?_, fun k hk hdone hbad => ?_, fun k hk hopen => ?_⟩
    · rw [State.settle_fr]
      exact hphaseAfter.trans hphase
    · rw [State.settle_rd _ _ _ _ (by decide +kernel), hbufAfter, hbuf, hframe]
    · rw [State.settle_fr]
      exact hnsAfter.trans hns
    · rw [State.frameNo, State.settle_rd _ _ _ _ (by decide +kernel)]
      exact hnoAfter.trans (hno.trans hframe)
    · exact (hcell k hk).fresh (by rw [hdone, hbad]; rfl)
    · exact (hcell k hk).stale (by rcases hopen with h | h <;> simp [h])
  · intro s t hruns hopen hstep
    have hfr : (s.elapse t).fr = s.fr := s.elapse_fr t (State.sdRuns_of_timerRuns hruns)
    have hkeep : (s.elapse t).freezeFrame = (s.elapse t).frozen.enterKeepOnly true (s.elapse t).frozen.power.thermalEntry := by
      rw [State.freezeFrame_eq ((s.elapse_timerRuns t).trans hruns) (by rw [hfr, hopen]), State.elapse_power]
      exact if_pos hstep
    obtain ⟨hdevice, hpgood, hheld, hfault⟩ := (s.elapse t).frozen.enterKeepOnly_does true (s.elapse t).frozen.power.thermalEntry
    refine ⟨_, congrArg done hkeep, ?_, ?_, ?_, ?_⟩
    · rw [State.device, State.settle_rd _ _ _ _ (by decide +kernel)]
      exact hdevice
    · rw [State.settle_power, hpgood]
    · rw [State.settle_power, hheld]
    · rw [State.settle_rd _ _ _ _ (by decide +kernel), hfault]
  · intro s t hnot
    have hnone : (s.elapse t).freezeFrame = s.elapse t := by
      by_cases hruns : s.timerRuns = true
      · refine State.freezeFrame_refused (.inr ?_)
        rw [s.elapse_fr t (State.sdRuns_of_timerRuns hruns)]
        exact hnot.resolve_left (by simp [hruns])
      · exact State.freezeFrame_refused (.inl (by rw [State.elapse_timerRuns]; simpa using hruns))
    exact ⟨_, congrArg done hnone, State.elapse_settle_effect s t⟩
  · intro s t hticking
    have hrun : (s.elapse t).ticking = true :=
      (congrArg (· != 0) (s.elapse_rd t Reg.FRAME_STATUS.RUNNING 0 0 (by decide +kernel))).trans hticking
    have hns : (s.elapse t).tickNs = s.tickNs := by
      rw [State.tickNs, State.tickNs, State.rd64, State.rd64, State.elapse_rd _ _ _ _ _ (by decide +kernel),
        State.elapse_rd _ _ _ _ _ (by decide +kernel)]
    have hsample : (if (s.elapse t).ticking then (s.elapse t).sampleDs else s.elapse t) = (s.elapse t).sampleDs := if_pos hrun
    obtain ⟨hslots, hothers⟩ := (s.elapse t).sampleDs_slots
    refine ⟨_, congrArg done hsample, fun k hk => ?_, fun k hk => ?_,
      Effect.of_exec (execTSample_effect t s) (congrArg done hsample) (by decide) (by decide +kernel)⟩
    · rw [State.settle_adc, hslots k (by rw [State.elapse_silicon]; exact hk), hns, State.dsCh, State.elapse_adc]
      rfl
    · rw [State.settle_adc, hothers k hk, State.elapse_adc]
  · intro s t hstill
    have hrun : (s.elapse t).ticking = false :=
      (congrArg (· != 0) (s.elapse_rd t Reg.FRAME_STATUS.RUNNING 0 0 (by decide +kernel))).trans hstill
    have hnone : (if (s.elapse t).ticking then (s.elapse t).sampleDs else s.elapse t) = s.elapse t := if_neg (by rw [hrun]; decide)
    exact ⟨_, congrArg done hnone, State.elapse_settle_effect s t⟩

end Sys2Proof.Machine
end

section
namespace Sys2Proof.Machine

set_option Elab.async false

/-! ### The shedding steps through effects -/

/-- The fields of the shedding steps (R64, R374). -/
def shedFields : List Field :=
  [Reg.POWER_SHED.VIN_STEP, Reg.POWER_SHED.THERMAL_STEP, Reg.PLAN_THERMAL.SHED_STEP, Reg.POWER_SHED.STEP]

/-- No field of the list is stored where a shedding step is. -/
def sparesShed (F : List Field) : Bool := shedFields.all fun f => F.all fun g => f.apart g

theorem State.shedInv_of_rd {s t : State} (hrd : ∀ f ∈ shedFields, t.rd f = s.rd f) (h : s.shedInv) : t.shedInv := by
  simp only [shedFields, List.forall_mem_cons] at hrd
  obtain ⟨hvin, hthermal, hplan, hstep, -⟩ := hrd
  rwa [State.shedInv, hvin, hthermal, hplan, hstep]

theorem Effect.shed_rd {A : List Part} {F : List Field} {s t : State} (k : Effect A (some F) s t) (hF : sparesShed F = true) :
    ∀ f ∈ shedFields, t.rd f = s.rd f := fun f hf => k.rd f 0 0 (List.all_eq_true.mp hF f hf)

/-- A step that keeps the shedding steps in order. -/
structure ShedStep (s t : State) : Prop where
  keeps : s.shedInv → t.shedInv

namespace ShedStep
variable {A : List Part} {F : List Field} {s t u : State}

theorem refl (s : State) : ShedStep s s := ⟨id⟩

theorem trans (h : ShedStep s t) (k : ShedStep t u) : ShedStep s u := ⟨k.keeps ∘ h.keeps⟩

theorem ite {c : Prop} [Decidable c] (h : ShedStep s t) (k : ShedStep s u) : ShedStep s (if c then t else u) := by split <;> assumption

theorem when {c : Bool} {f : State → State} (h : ShedStep s t) (k : ∀ u, ShedStep u (f u)) : ShedStep s (t.when c f) := by
  unfold State.when
  exact .ite (h.trans (k t)) h

theorem each {α : Type} {l : List α} {f : State → α → State} (h : ShedStep s t) (k : ∀ u, ∀ a ∈ l, ShedStep u (f u a)) :
    ShedStep s (t.each l f) := by
  unfold State.each
  induction l generalizing t with
  | nil => exact h
  | cons a l ih => exact ih (h.trans (k t a (List.mem_cons_self ..))) fun u b hb => k u b (List.mem_cons_of_mem _ hb)

/-- An effect on other fields. -/
theorem of (k : Effect A (some F) s t) (hF : sparesShed F = true := by decide +kernel) : ShedStep s t :=
  ⟨State.shedInv_of_rd (k.shed_rd hF)⟩

/-- An operation on other fields after what kept the order so far. -/
theorem op (h : ShedStep s t) (k : Effect A (some F) t u) (hF : sparesShed F = true := by decide +kernel) : ShedStep s u :=
  h.trans (of k hF)

/-- A state whose order does not come from the one before it. -/
theorem fresh (h : t.shedInv) : ShedStep s t := ⟨fun _ => h⟩

end ShedStep

/-! ### The operations that move the shedding steps -/

/-- A DEV reset sets every shedding step to 0 (R14). -/
theorem State.devReset_shedInv (s : State) (announce : Bool) (eof : Nat) : (s.devReset announce eof).shedInv := by
  obtain ⟨u, hwiped, hreset⟩ := s.devReset_stages announce eof
  have hzero : ∀ f ∈ shedFields, u.rd f = 0 := fun f hf => by
    have hf' : f.dom = .dev ∧ f.reset 0 = 0 := by revert f; decide +kernel
    rw [State.rd_dev_of_empty hwiped.regs hf'.1, hf'.2]
  rw [hreset]
  refine (ShedStep.of u.heldOutputs_effect).keeps ?_
  simp only [shedFields, List.forall_mem_cons] at hzero
  obtain ⟨hvin, hthermal, hplan, hstep, -⟩ := hzero
  simp [State.shedInv, hvin, hthermal, hplan, hstep]

theorem State.enterKeepOnly_shedInv (s : State) (announce thermal : Bool) : (s.enterKeepOnly announce thermal).shedInv := by
  unfold State.enterKeepOnly
  extract_lets reset
  have hreset : reset.shedInv := (ShedStep.of (State.wr_effect ..)).keeps (State.devReset_shedInv ..)
  exact ((ShedStep.of (State.modPower_effect ..)).op (State.showPgood_effect _)).keeps hreset

theorem ShedStep.step6 (s : State) (thermal : Bool) : ShedStep s (s.step6 thermal) := by
  unfold State.step6
  extract_lets begun cleared hold blocked
  have hcleared : ShedStep s cleared := (ShedStep.of (State.modPower_effect ..)).op (State.wr_effect ..)
  have hhold : ShedStep s hold := ((hcleared.op (State.announceStop_effect _)).op (State.toSetup_effect _)).op (State.wr_effect ..)
  have hblocked : Effect [.convs] (some []) hold blocked :=
    Effect.each (.refl ..) fun u v => (State.modConv_effect ..).widen (by decide +kernel)
  exact .ite (.fresh (State.enterKeepOnly_shedInv ..)) ((hhold.op hblocked).op (State.showSafe_effect _))

/-- What the step in force follows: the steps written, and the higher of the two (R374). -/
def State.shedSet (s : State) (vin thermal : Nat) : State :=
  (((s.wr Reg.POWER_SHED.VIN_STEP vin).wr Reg.POWER_SHED.THERMAL_STEP thermal).wr Reg.PLAN_THERMAL.SHED_STEP thermal).wr
    Reg.POWER_SHED.STEP (max vin thermal)

theorem State.shedSet_reads (s : State) {vin thermal : Nat} (hvin : vin ≤ 6) (hthermal : thermal ≤ 6) :
    (s.shedSet vin thermal).rd Reg.POWER_SHED.VIN_STEP = vin ∧ (s.shedSet vin thermal).rd Reg.POWER_SHED.THERMAL_STEP = thermal ∧
      (s.shedSet vin thermal).rd Reg.PLAN_THERMAL.SHED_STEP = thermal ∧
      (s.shedSet vin thermal).rd Reg.POWER_SHED.STEP = max vin thermal := by
  have hmod : ∀ v ≤ 6, v % 2 ^ 3 = v := fun v hv => Nat.mod_eq_of_lt (by omega)
  have hsame : ∀ (u : State) (f : Field) (v : Nat), f ∈ shedFields → v ≤ 6 → (u.wr f v).rd f = v := fun u f v hf hv => by
    have hf' : f.has 0 0 = true ∧ f.dom ≠ .fixed ∧ f.width = 3 := by revert f; decide +kernel
    rw [State.rd_wr_same u f v 0 0 hf'.1 hf'.2.1, hf'.2.2, hmod v hv]
  have hother : ∀ (u : State) (f g : Field) (v : Nat), f.apart g = true → (u.wr g v).rd f = u.rd f :=
    fun u f g v h => State.rd_wr_apart u v 0 0 0 0 h
  unfold State.shedSet
  refine ⟨?_, ?_, ?_, hsame _ _ _ (by decide +kernel) (max_le hvin hthermal)⟩
  · rw [hother _ _ _ _ (by decide +kernel), hother _ _ _ _ (by decide +kernel), hother _ _ _ _ (by decide +kernel),
      hsame _ _ _ (by decide +kernel) hvin]
  · rw [hother _ _ _ _ (by decide +kernel), hother _ _ _ _ (by decide +kernel), hsame _ _ _ (by decide +kernel) hthermal]
  · rw [hother _ _ _ _ (by decide +kernel), hsame _ _ _ (by decide +kernel) hthermal]

theorem State.shedSet_shedInv (s : State) {vin thermal : Nat} (hvin : vin ≤ 6) (hthermal : thermal ≤ 6) :
    (s.shedSet vin thermal).shedInv := by
  obtain ⟨hrvin, hrthermal, hrplan, hrstep⟩ := s.shedSet_reads hvin hthermal
  simp [State.shedInv, hrvin, hrthermal, hrplan, hrstep, hvin, hthermal]

/-- Steps of at most 6 are set in order, whatever was in force before. -/
theorem State.shedTo_shedInv (s : State) {vin thermal : Nat} (hvin : vin ≤ 6) (hthermal : thermal ≤ 6) :
    (s.shedTo vin thermal).shedInv := by
  unfold State.shedTo
  extract_lets old new told steps forced capped shown warned shed cancelled
  have hforced : forced.shedInv := told.shedSet_shedInv hvin hthermal
  have hcapped : capped.shedInv := ((ShedStep.of (State.wr_effect ..)).op (State.canShowShed_effect _)).keeps hforced
  have hcancelled : ShedStep capped cancelled := by
    refine .when (.when (.when (.of (State.evBit_effect ..)) ?_) ?_) ?_
    · exact fun u => .of (State.raise_effect ..)
    · exact fun u => .of (State.raise_effect ..)
    · exact fun u => .of (State.cancelShadow_effect ..)
  refine (ShedStep.ite ?_ ?_ : ShedStep capped _).keeps hcapped
  · exact .ite (hcancelled.trans (.step6 ..)) hcancelled
  · exact .when (.refl _) fun u => .of (State.evBit_effect ..)

theorem shedReached_le (mv : Nat) : shedReached mv ≤ 6 := by
  have hsteps : ∀ l : List Nat, (∀ k ∈ l, k ≤ 6) → ∀ r ≤ 6, l.foldl (fun r k => if mv < shedMv k then k else r) r ≤ 6 := by
    intro l
    induction l with
    | nil => exact fun _ r hr => hr
    | cons k l ih =>
      intro hl r hr
      obtain ⟨hk, hl⟩ := List.forall_mem_cons.mp hl
      exact ih hl _ (by beta_reduce; split <;> assumption)
  exact hsteps _ (by decide) 0 (by omega)

theorem ShedStep.vinStep (s : State) (mv : Nat) : ShedStep s (s.vinStep mv) := by
  refine ⟨fun h => ?_⟩
  have ⟨hvin, hthermal, _, _⟩ := h
  unfold State.vinStep
  extract_lets cur th r run deep high since noted
  have hr : r ≤ 6 := shedReached_le mv
  have hdeep : deep ≤ 6 := by
    unfold deep
    split <;> omega
  have hnoted : ShedStep s noted := .of (State.modPower_effect ..)
  split
  · exact State.shedTo_shedInv _ hdeep hthermal
  · clear_value since
    split
    · split
      · exact State.shedTo_shedInv _ (by omega) hthermal
      · exact hnoted.keeps h
    · exact hnoted.keeps h

theorem ShedStep.vinSample (s : State) (mv : Nat) : ShedStep s (s.vinSample mv) := by
  unfold State.vinSample
  extract_lets noted shown warned
  have hnoted : ShedStep s noted := .of (State.modPower_effect ..)
  have hshown : ShedStep s shown := (hnoted.op (State.wr_effect ..)).op (State.wr_effect ..)
  have hwarned : ShedStep s warned := .when hshown fun u => .of (State.evBit_effect ..)
  exact .ite (.refl s) (.ite hnoted (hwarned.trans (.vinStep ..)))

theorem ShedStep.thermalStep (s : State) : ShedStep s s.thermalStep := by
  refine ⟨fun h => ?_⟩
  have ⟨hvin, hthermal, hplan, _⟩ := h
  unfold State.thermalStep
  extract_lets th vin due
  split
  · rename_i hhot
    exact State.shedTo_shedInv _ hvin (by simp at hhot; omega)
  · split
    · exact State.shedTo_shedInv _ hvin (by omega)
    · exact h

theorem State.thermalShutdown_shedInv (s : State) (i : Nat) : (s.thermalShutdown i).shedInv := State.enterKeepOnly_shedInv ..

theorem ShedStep.logicHeat (s : State) : ShedStep s s.logicHeat := by
  unfold State.logicHeat
  extract_lets raised noSensor old
  have hraised : ShedStep s raised := .when (.refl s) fun u => .of (State.raise_effect ..)
  have hnoSensor : ShedStep s noSensor := (hraised.op (State.wr_effect ..)).when fun u => .of (State.evBit_effect ..)
  split
  · exact (hnoSensor.op (State.wr_effect ..)).op (State.heatTimers_effect ..)
  · extract_lets level hot shown warned throttled heat
    have hhot : ShedStep s hot := (((ShedStep.refl s).op (State.wr_effect ..)).op (State.wr_effect ..)).op (State.wr_effect ..)
    have hshown : ShedStep s shown := hhot.op (State.wr_effect ..)
    have hwarned : ShedStep s warned := hshown.when fun u => .of (State.evBit_effect ..)
    have hthrottled : ShedStep s throttled := hwarned.when fun u => (ShedStep.of (State.evBit_effect ..)).op (State.raise_effect ..)
    have hheat : ShedStep s heat := (hthrottled.op (State.heatTimers_effect ..)).op (State.bandRound_effect _ Reg.THERMAL_BAND.MEM [12, 13])
    exact .ite (.fresh (State.thermalShutdown_shedInv ..)) hheat

theorem ShedStep.hkDone (s : State) (rs : List (Nat × Bool × Bool)) : ShedStep s (s.hkDone rs) := by
  unfold State.hkDone
  extract_lets shown
  have hshown : ShedStep s shown := ((ShedStep.of (State.hkReadings_effect s rs)).op (State.showBad_effect _)).op
    (State.bandRound_effect _ Reg.THERMAL_BAND.SERDES (upTo 12))
  refine .ite (.refl s) (.trans (.each hshown fun u v _ => .of (State.driveHeat_effect ..)) (.logicHeat _))

theorem ShedStep.vinLoss (s : State) : ShedStep s s.vinLoss := by
  unfold State.vinLoss
  extract_lets noted
  exact .ite (.refl s) (.ite (.of (State.modPower_effect ..)) (.fresh (State.enterKeepOnly_shedInv ..)))

theorem ShedStep.freezeFrame (s : State) : ShedStep s s.freezeFrame := by
  unfold State.freezeFrame
  extract_lets imaged held both
  have himaged : ShedStep s imaged := (ShedStep.of (State.freezeImage_effect _)).op (State.shadowBegins_effect _)
  have hheld : ShedStep s held := himaged.when fun u => .of (State.startPlane_effect ..)
  have hboth : ShedStep s both := hheld.when fun u => .of (State.startPlane_effect ..)
  exact .ite (.refl s) (.ite (.fresh (State.enterKeepOnly_shedInv ..)) hboth)

/-! ### DEV resets and wakes that fail -/

theorem ShedStep.resetNAssert (s : State) (eof : Nat) : ShedStep s (s.resetNAssert eof) := by
  unfold State.resetNAssert
  extract_lets low waits reset kick
  have hreset : ShedStep s reset := .fresh (State.devReset_shedInv ..)
  have hkick : ShedStep s kick := hreset.when fun u => .of (State.wr_effect ..)
  exact .ite (.of (State.modPower_effect ..)) (.ite hreset ((hkick.op (State.wr_effect ..)).op (State.kickFrom2_effect _)))

theorem ShedStep.softReset (s : State) (value eof : Nat) : ShedStep s (s.softReset value eof) := by
  have hreset : ShedStep s (s.resetBegins.devReset true eof) := .fresh (State.devReset_shedInv ..)
  have hlatched := ((hreset.op (State.resetLatched_effect _ 3)).op (State.wr_effect _ Reg.POWER_STATE.STATE stKickOff 0 0)).op
    (State.wr_effect _ Reg.POWER_STATE.WAKE_TRIES 0 0 0)
  exact .ite (.refl s) (hlatched.op (State.kickFrom2_effect _))

theorem ShedStep.deviceWakeFails (s : State) (kind item : Nat) : ShedStep s (s.deviceWakeFails kind item) := by
  unfold State.deviceWakeFails
  extract_lets tries analog bb failed reset off keepOnly
  have hanalog : ShedStep s analog := .when (.refl s) fun u => .of (State.analogDown_effect _)
  have hbb : ShedStep s bb := hanalog.when fun u => .of (State.bbDown_effect _)
  have hfailed : ShedStep s failed := (hbb.op (State.railsOff_effect ..)).op (State.wakeFailNote_effect ..)
  have hoff : ShedStep s off := (ShedStep.fresh (State.devReset_shedInv ..)).op (State.modPower_effect ..)
  have hkeepOnly : ShedStep s keepOnly := ((hoff.op (State.wr_effect ..)).op (State.showPgood_effect _)).op (State.wakeFailNote_effect ..)
  refine .ite (.ite (hfailed.op (State.wr_effect ..)) ((hfailed.op (State.modPower_effect ..)).op (State.raise_effect ..))) (.ite ?_ ?_)
  · exact (((hoff.op (State.resetLatched_effect ..)).op (State.wr_effect ..)).op (State.kickFrom2_effect _)).op
      (State.wakeFailNote_effect ..)
  · exact (hkeepOnly.op (State.modPower_effect ..)).op (State.raise_effect ..)

theorem ShedStep.railTimeout (s : State) (kind m : Nat) : ShedStep s (s.railTimeout kind m) := by
  have hnote : ShedStep s (s.wakeFailNote 1 m) := .of (State.wakeFailNote_effect ..)
  refine .ite (.refl s) (.ite (.deviceWakeFails ..) (.ite (hnote.op (State.wakeFails_effect ..)) (.ite ?_ (.ite hnote (.refl s)))))
  exact (ShedStep.of (State.railsOff_effect ..)).op (State.wakeFailNote_effect ..)

theorem ShedStep.pllTimeout (s : State) (n : Nat) : ShedStep s (s.pllTimeout n) := by
  unfold State.pllTimeout
  extract_lets plane
  have hplane : ShedStep s plane := .ite ((ShedStep.of (State.wakeFailNote_effect ..)).op (State.wakeFails_effect ..)) (.refl s)
  refine .ite (.refl s) (.ite (.ite (.deviceWakeFails ..) (.refl s)) (.ite ?_ hplane))
  exact ((hplane.op (State.modPower_effect ..)).op (State.wakeFailNote_effect ..)).op (State.raise_effect ..)

theorem ShedStep.wakeTimeout (s : State) (kind item : Nat) : ShedStep s (s.wakeTimeout kind item) := by
  unfold State.wakeTimeout
  split
  · exact .railTimeout ..
  · exact .pllTimeout ..
  · exact .ite (.deviceWakeFails ..) (.refl s)
  · exact .ite (.of (State.wakeFails_effect ..)) (.refl s)

/-! ### Host writes -/

/-- What software can write is stored apart from the shedding steps, which it can only read. -/
theorem Reg.table_written_spares_shed : ∀ r ∈ Reg.table, ∀ g ∈ r, g.acc = .ro ∨ sparesShed [g] = true := by
  decide +kernel

theorem ShedStep.fieldWrite (s : State) {r : List Field} {f : Field} (hr : r ∈ Reg.table) (hf : f ∈ r) (i j w : Nat) :
    ShedStep s (s.fieldWrite f i j w) := by
  rcases Reg.table_written_spares_shed r hr f hf with hro | happart
  · rw [State.fieldWrite, hro]
    exact .refl s
  · exact .of (State.fieldWrite_effect s f i j w) happart

theorem ShedStep.regWrite (s : State) {r : List Field} (hr : r ∈ Reg.table) (i j w : Nat) : ShedStep s (s.regWrite r i j w) :=
  .each (.refl s) fun u _ hf => .fieldWrite u hr hf i j w

/-- The registers whose write acts: none but FAULT_SOFT_RESET reaches a shedding step. -/
theorem ShedStep.actingWrite {s u : State} {base i v : Nat} (h : s.actingWrite base i v = some u) : ShedStep s u := by
  unfold State.actingWrite at h
  split at h <;> cases h
  · exact .when (.refl s) fun u => .of (State.xbarClear_effect _)
  · exact .when (.refl s) fun u => .of (State.clockGo_effect _)
  · exact .of (State.pllCfgWrite_effect ..)
  · exact .of (State.trimWrite_effect ..)
  · exact .of (State.powerCtrlWrite_effect ..)
  · exact (ShedStep.of (State.analogOffWrite_effect ..)).op (State.bbOffWrite_effect ..)
  · exact .when (.refl s) fun u => .of (State.wr_effect ..)
  · exact .of (State.faultCtrlWrite_effect ..)
  · exact .when (.refl s) fun u => .of (State.firstFatalClear_effect _)
  · exact (ShedStep.of (State.draw_effect s)).trans (.softReset ..)
  · exact .of (State.refCtrlWrite_effect ..)
  · exact .of (State.mramCfgWrite_effect ..)
  · exact ((ShedStep.of (State.draw_effect s)).op (State.draw_effect _)).op (State.newEpoch_effect ..)
  · exact .of (State.holdLow_effect ..)
  · exact .of (State.ringRestart_effect ..)
  · exact .of (State.holdLow_effect ..)
  · exact .of (State.ringRestart_effect ..)
  · exact .of (State.cplHeadWrite_effect ..)
  · exact .ite (.refl s) (.of (State.wr_effect ..))
  · exact .of (State.frameClearWrite_effect ..)
  · exact .of (State.resetArm_effect ..)
  · exact .of (State.imageCtrlWrite_effect ..)
  · exact .of (State.substRequest_effect ..)
  · exact .of (State.wr_effect ..)
  · exact .of (State.keyCmdWrite_effect ..)
  · exact .of (State.engClearWrite_effect ..)
  · exact .of (State.adcCtrlWrite_effect ..)
  · exact .ite (.of (State.refEnable_effect _)) (.of (State.refDisable_effect _))
  · exact .of (State.timeCtrlWrite_effect ..)
  · exact .of (State.addendWrite_effect ..)
  · exact .of (State.holdLow_effect ..)
  · exact .of (State.ethRestart_effect ..)
  · exact .of (State.holdLow_effect ..)
  · exact .of (State.ethRestart_effect ..)
  · exact .when (.refl s) fun u => .of (State.canRecover_effect ..)
  · exact .of (State.canAck_effect ..)
  · exact .of (State.drvCtrlWrite_effect ..)
  · exact .when (.refl s) fun u => .of (State.chopReset_effect ..)
  · exact .of (State.loadAll_effect ..)
  · exact .of (State.drvSync_effect ..)
  · exact .of (State.laneCtrlWrite_effect ..)
  · exact .when (.refl s) fun u => .of (State.laneClear_effect ..)
  · exact .when (.refl s) fun u => .of (State.armClear_effect ..)

theorem ShedStep.hostWrite (s : State) (a w : Nat) : ShedStep s (s.hostWrite a w) := by
  unfold State.hostWrite
  refine .ite (.refl s) ?_
  split
  · exact .of (State.msixWrite_effect ..)
  · exact .refl s
  · rename_i hreg
    extract_lets word
    split
    · rename_i hact
      exact .actingWrite hact
    · exact (ShedStep.regWrite s (regAt_eq_some hreg).1 _ _ _).op (State.afterWrite_effect ..)

theorem ShedStep.writeWords (s : State) (a : Nat) (b : List Byte) (n : Nat) : ShedStep s (s.writeWords a b n) := by
  induction n generalizing s a b with
  | zero => exact .refl s
  | succ n ih => exact (ShedStep.hostWrite s a _).trans (ih _ _ _)

theorem ShedStep.bbWrite (s : State) (p src : Nat) (b : List Byte) : ShedStep s (s.bbWrite p src b) := by
  unfold State.bbWrite
  extract_lets n
  split
  · exact .refl s
  · exact .ite (.writeWords ..) (.of (State.denied_effect ..))

end Sys2Proof.Machine
end

section
namespace Sys2Proof.Machine

set_option Elab.async false

/-! ### Every command -/

/-- An outcome that keeps the shedding steps in order. -/
def KeepsShed (s : State) (o : Host.Outcome State Fault Refusal) : Prop := ∃ n, o = .next n ∧ ShedStep s n

namespace KeepsShed
variable {A : List Part} {F : List Field} {s v : State} {t : Nat} {o : Host.Outcome State Fault Refusal}

/-- A command that touches other fields alone. -/
theorem of (h : ∃ n, o = .next n ∧ Effect A (some F) s n) (hF : sparesShed F = true := by decide +kernel) : KeepsShed s o := by
  obtain ⟨n, ho, k⟩ := h
  exact ⟨n, ho, .of k hF⟩

/-- A command that carries no instant. -/
theorem now (h : ShedStep s v) : KeepsShed s (done v) := ⟨_, rfl, h.op (State.settle_effect v)⟩

/-- A command at an instant. -/
theorem timed (h : ShedStep (s.elapse t) v) : KeepsShed s (done v) := .now ((ShedStep.of (State.elapse_effect s t)).trans h)

/-- A POR sets every shedding step to 0 (R378). -/
theorem supplyPor (s : State) (t : Nat) (porN : Bool) : KeepsShed s (execSupplyPor t porN s) := by
  refine ⟨_, rfl, .fresh ?_⟩
  simp only [State.shedInv, State.rd_supplyPor_settle]
  decide

end KeepsShed

/-- Every command keeps the shedding steps in order: all but twelve touch other fields alone. -/
theorem exec_keepsShed (s : State) : (c : Instr) → KeepsShed s (exec c s)
  | .registerWrite .. => .timed (.ite (.hostWrite ..) (.refl _))
  | .split64LowRead .. => .of (execSplit64LowRead_effect ..)
  | .eventRegisterWrite .. => .now (.ite (.hostWrite ..) (.refl _))
  | .supplyPor .. => .supplyPor ..
  | .porRelease .. => .of (execPorRelease_effect ..)
  | .resetNAssert .. => .timed (.resetNAssert ..)
  | .resetNRelease .. => .of (execResetNRelease_effect ..)
  | .softReset .. => .timed (.softReset ..)
  | .railPgood .. => .of (execRailPgood_effect ..)
  | .wakeTimeout .. => .timed (.wakeTimeout ..)
  | .pllLock .. => .of (execPllLock_effect ..)
  | .pllLockLoss .. => .of (execPllLockLoss_effect ..)
  | .devResetRelease .. => .of (execDevResetRelease_effect ..)
  | .dramInitDone .. => .of (execDramInitDone_effect ..)
  | .imageFetchDone .. => .of (execImageFetchDone_effect ..)
  | .flashTimeout .. => .of (execFlashTimeout_effect ..)
  | .imageAuthenticate .. => .of (execImageAuthenticate_effect ..)
  | .sectionChecks .. => .of (execSectionChecks_effect ..)
  | .imageCommit .. => .of (execImageCommit_effect ..)
  | .laneUpTimeout .. => .of (execLaneUpTimeout_effect ..)
  | .kickoffGrant .. => .of (execKickoffGrant_effect ..)
  | .imageLoad .. => .of (execImageLoad_effect ..)
  | .imageAbort .. => .of (execImageAbort_effect ..)
  | .epochBurn .. => .of (execEpochBurn_effect ..)
  | .keyProgram .. => .of (execKeyProgram_effect ..)
  | .keyRevoke .. => .of (execKeyRevoke_effect ..)
  | .fuseOpDone .. => .of (execFuseOpDone_effect ..)
  | .bar2Write .. => .of (execBar2Write_effect ..)
  | .substRequest .. => .of (execSubstRequest_effect ..)
  | .sliceError .. => .of (execSliceError_effect ..)
  | .substInService .. => .of (execSubstInService_effect ..)
  | .spareSelftestFail .. => .of (execSpareSelftestFail_effect ..)
  | .frameTick .. => .of (execFrameTick_effect ..)
  | .autoRedeblock .. => .of (execAutoRedeblock_effect ..)
  | .tSample .. => .of (execTSample_effect ..)
  | .adcBurstStart .. => .of (execAdcBurstStart_effect ..)
  | .adcResult .. => .of (execAdcResult_effect ..)
  | .adcResultRead .. => .of (execAdcResultRead_effect ..)
  | .dsOutput .. => .of (execDsOutput_effect ..)
  | .uplinkSlot .. => .of (execUplinkSlot_effect ..)
  | .uplinkTrainCrc .. => .of (execUplinkTrainCrc_effect ..)
  | .callupReply .. => .of (execCallupReply_effect ..)
  | .callupLoop .. => .of (execCallupLoop_effect ..)
  | .callupLaunch .. => .of (execCallupLaunch_effect ..)
  | .laneSyncAcquire .. => .of (execLaneSyncAcquire_effect ..)
  | .laneSyncLoss .. => .of (execLaneSyncLoss_effect ..)
  | .tFreeze .. => .timed (.freezeFrame _)
  | .autoRestore .. => .of (execAutoRestore_effect ..)
  | .laneRestore .. => .of (execLaneRestore_effect ..)
  | .laneCallup .. => .of (execLaneCallup_effect ..)
  | .laneForceIdle .. => .of (execLaneForceIdle_effect ..)
  | .engineGraphComplete .. => .of (execEngineGraphComplete_effect ..)
  | .tComputeEnd .. => .of (execTComputeEnd_effect ..)
  | .tRankEnd .. => .of (execTRankEnd_effect ..)
  | .plannerStepDown .. => .of (execPlannerStepDown_effect ..)
  | .overrunHoldEnd .. => .of (execOverrunHoldEnd_effect ..)
  | .backgroundDispatch .. => .of (execBackgroundDispatch_effect ..)
  | .thermalShedStep .. => .timed (.thermalStep _)
  | .trkEntryTimeout .. => .of (execTrkEntryTimeout_effect ..)
  | .leaseExpiry .. => .of (execLeaseExpiry_effect ..)
  | .heartbeatLoss .. => .of (execHeartbeatLoss_effect ..)
  | .planeEccError .. => .of (execPlaneEccError_effect ..)
  | .planePgoodLoss .. => .of (execPlanePgoodLoss_effect ..)
  | .planeErrorLine .. => .of (execPlaneErrorLine_effect ..)
  | .forceTakeover .. => .of (execForceTakeover_effect ..)
  | .takeoverGrant .. => .of (execTakeoverGrant_effect ..)
  | .halftimeNow .. => .of (execHalftimeNow_effect ..)
  | .halftimeHandover .. => .of (execHalftimeHandover_effect ..)
  | .revive .. => .of (execRevive_effect ..)
  | .reviveComplete .. => .of (execReviveComplete_effect ..)
  | .refereeMismatch .. => .of (execRefereeMismatch_effect ..)
  | .pairPacket .. => .of (execPairPacket_effect ..)
  | .pairSilence .. => .of (execPairSilence_effect ..)
  | .hostCommandTake .. => .of (execHostCommandTake_effect ..)
  | .journalRecordCommitted .. => .of (execJournalRecordCommitted_effect ..)
  | .jrnCplHeadWrite .. => .of (execJrnCplHeadWrite_effect ..)
  | .ringRestart .. => .of (execRingRestart_effect ..)
  | .ringPcieError .. => .of (execRingPcieError_effect ..)
  | .jrnMramEnable .. => .of (execJrnMramEnable_effect ..)
  | .jrnMramDisable .. => .of (execJrnMramDisable_effect ..)
  | .newEpoch .. => .of (execNewEpoch_effect ..)
  | .jrnHalfRebuilt .. => .of (execJrnHalfRebuilt_effect ..)
  | .setFramePeriod .. => .of (execSetFramePeriod_effect ..)
  | .cellAdmit .. => .of (execCellAdmit_effect ..)
  | .cellBypass .. => .of (execCellBypass_effect ..)
  | .cellFaultClear .. => .of (execCellFaultClear_effect ..)
  | .coeffWrite .. => .of (execCoeffWrite_effect ..)
  | .bankSwap .. => .of (execBankSwap_effect ..)
  | .paramWrite .. => .of (execParamWrite_effect ..)
  | .convDeblock .. => .of (execConvDeblock_effect ..)
  | .convBlock .. => .of (execConvBlock_effect ..)
  | .canQueue .. => .of (execCanQueue_effect ..)
  | .canFlush .. => .of (execCanFlush_effect ..)
  | .coastLimit .. => .of (execCoastLimit_effect ..)
  | .resyncTimeout .. => .of (execResyncTimeout_effect ..)
  | .safeInputChange .. => .of (execSafeInputChange_effect ..)
  | .safeFilterSettle .. => .of (execSafeFilterSettle_effect ..)
  | .safeUnsettled .. => .of (execSafeUnsettled_effect ..)
  | .safeDiscrepancy .. => .of (execSafeDiscrepancy_effect ..)
  | .tpoPulse .. => .of (execTpoPulse_effect ..)
  | .tpoCheck .. => .of (execTpoCheck_effect ..)
  | .safeStopTimer .. => .of (execSafeStopTimer_effect ..)
  | .safeDriveEnvelope .. => .of (execSafeDriveEnvelope_effect ..)
  | .safeCrossExchange .. => .of (execSafeCrossExchange_effect ..)
  | .safeLinkSilence .. => .of (execSafeLinkSilence_effect ..)
  | .safeSelftestFail .. => .of (execSafeSelftestFail_effect ..)
  | .safeResetArm .. => .of (execSafeResetArm_effect ..)
  | .safeArmExpiry .. => .of (execSafeArmExpiry_effect ..)
  | .safeResetFall .. => .of (execSafeResetFall_effect ..)
  | .safeResetRise .. => .of (execSafeResetRise_effect ..)
  | .safeResetStuck .. => .of (execSafeResetStuck_effect ..)
  | .drvLoadall .. => .of (execDrvLoadall_effect ..)
  | .drvSync .. => .of (execDrvSync_effect ..)
  | .drvLatchClear .. => .of (execDrvLatchClear_effect ..)
  | .drvClearCounts .. => .of (execDrvClearCounts_effect ..)
  | .carrierValley .. => .of (execCarrierValley_effect ..)
  | .chopperBoundary .. => .of (execChopperBoundary_effect ..)
  | .desatTrip .. => .of (execDesatTrip_effect ..)
  | .instantTrip .. => .of (execInstantTrip_effect ..)
  | .vdrvUvlo .. => .of (execVdrvUvlo_effect ..)
  | .vdrvRecover .. => .of (execVdrvRecover_effect ..)
  | .vbUndervoltage .. => .of (execVbUndervoltage_effect ..)
  | .gateInterlock .. => .of (execGateInterlock_effect ..)
  | .driveOtShutdown .. => .of (execDriveOtShutdown_effect ..)
  | .driveOtRelease .. => .of (execDriveOtRelease_effect ..)
  | .barrierLinkLost .. => .of (execBarrierLinkLost_effect ..)
  | .barrierLinkRecover .. => .of (execBarrierLinkRecover_effect ..)
  | .driveEnableChange .. => .of (execDriveEnableChange_effect ..)
  | .motChopReset .. => .of (execMotChopReset_effect ..)
  | .chopCheck .. => .of (execChopCheck_effect ..)
  | .startFail .. => .of (execStartFail_effect ..)
  | .catchTimeout .. => .of (execCatchTimeout_effect ..)
  | .catchSlow .. => .of (execCatchSlow_effect ..)
  | .shortEnd .. => .of (execShortEnd_effect ..)
  | .stopseqCoastEnd .. => .of (execStopseqCoastEnd_effect ..)
  | .spdEdge .. => .of (execSpdEdge_effect ..)
  | .speedSignalLost .. => .of (execSpeedSignalLost_effect ..)
  | .adcCommit .. => .of (execAdcCommit_effect ..)
  | .adcRefEnable .. => .of (execAdcRefEnable_effect ..)
  | .adcRefReady .. => .of (execAdcRefReady_effect ..)
  | .hkRoundStart .. => .of (execHkRoundStart_effect ..)
  | .hkRoundDone .. => .timed (.hkDone ..)
  | .keepCounterCopy .. => .of (execKeepCounterCopy_effect ..)
  | .timeSet .. => .of (execTimeSet_effect ..)
  | .timeStep .. => .of (execTimeStep_effect ..)
  | .timeSlewGo .. => .of (execTimeSlewGo_effect ..)
  | .timeSlewDone .. => .of (execTimeSlewDone_effect ..)
  | .timeSyncSet .. => .of (execTimeSyncSet_effect ..)
  | .timeSyncClr .. => .of (execTimeSyncClr_effect ..)
  | .timeServoChange .. => .of (execTimeServoChange_effect ..)
  | .timeAddendWrite .. => .of (execTimeAddendWrite_effect ..)
  | .ppsEdge .. => .of (execPpsEdge_effect ..)
  | .ppsLost .. => .of (execPpsLost_effect ..)
  | .ethRxFrame .. => .of (execEthRxFrame_effect ..)
  | .ethTxDescriptor .. => .of (execEthTxDescriptor_effect ..)
  | .ethTxtsRead .. => .of (execEthTxtsRead_effect ..)
  | .ethRingRestart .. => .of (execEthRingRestart_effect ..)
  | .ethDmaError .. => .of (execEthDmaError_effect ..)
  | .ethLinkChange .. => .of (execEthLinkChange_effect ..)
  | .canSlotStart .. => .of (execCanSlotStart_effect ..)
  | .canSlotEnd .. => .of (execCanSlotEnd_effect ..)
  | .canTxComplete .. => .of (execCanTxComplete_effect ..)
  | .canTxAttemptFail .. => .of (execCanTxAttemptFail_effect ..)
  | .canRecover .. => .of (execCanRecover_effect ..)
  | .canRecoveryDone .. => .of (execCanRecoveryDone_effect ..)
  | .canRxMessage .. => .of (execCanRxMessage_effect ..)
  | .canRxAck .. => .of (execCanRxAck_effect ..)
  | .canTxeRead .. => .of (execCanTxeRead_effect ..)
  | .bbPortUp .. => .of (execBbPortUp_effect ..)
  | .bbPortDown .. => .of (execBbPortDown_effect ..)
  | .bbIdleEntry .. => .of (execBbIdleEntry_effect ..)
  | .helloSend .. => .of (execHelloSend_effect ..)
  | .hello .. => .of (execHello_effect ..)
  | .bbPartnerLost .. => .of (execBbPartnerLost_effect ..)
  | .jrnCmd .. => .of (execJrnCmd_effect ..)
  | .hostRd .. => .of (execHostRd_effect ..)
  | .hostWr .. => .timed (.bbWrite ..)
  | .imagePacket .. => .of (execImagePacket_effect ..)
  | .bbPacketDiscard .. => .of (execBbPacketDiscard_effect ..)
  | .collectorEvent .. => .of (execCollectorEvent_effect ..)
  | .quietTimeout .. => .of (execQuietTimeout_effect ..)
  | .faultClearCounts => .of (execFaultClearCounts_effect s)
  | .faultClearHist => .of (execFaultClearHist_effect s)
  | .firstFatalClear => .of (execFirstFatalClear_effect s)
  | .faultHistRead .. => .of (execFaultHistRead_effect ..)
  | .timePtpRead .. => .of (execTimePtpRead_effect ..)
  | .aliveToggle .. => .of (execAliveToggle_effect ..)
  | .xbarWaitClear => .of (execXbarWaitClear_effect s)
  | .frameClearOverrun => .of (execFrameClearOverrun_effect s)
  | .frameClearStale => .of (execFrameClearStale_effect s)
  | .frameClearTracker => .of (execFrameClearTracker_effect s)
  | .frameClearGaps => .of (execFrameClearGaps_effect s)
  | .laneClearCounts .. => .of (execLaneClearCounts_effect ..)
  | .armClearCounts .. => .of (execArmClearCounts_effect ..)
  | .engClearCycles .. => .of (execEngClearCycles_effect ..)
  | .engClearEcc .. => .of (execEngClearEcc_effect ..)
  | .memoryEccError .. => .of (execMemoryEccError_effect ..)
  | .dramFailure .. => .of (execDramFailure_effect ..)
  | .vinSample .. => .timed (.vinSample ..)
  | .vinLoss .. => .timed (.vinLoss _)
  | .keepOnlyExit .. => .of (execKeepOnlyExit_effect ..)
  | .thermalLatchClear .. => .of (execThermalLatchClear_effect ..)
  | .powerDormant .. => .of (execPowerDormant_effect ..)
  | .powerWake .. => .of (execPowerWake_effect ..)
  | .wakeNEvent .. => .of (execWakeNEvent_effect ..)
  | .analogOff .. => .of (execAnalogOff_effect ..)
  | .bbPhyOff .. => .of (execBbPhyOff_effect ..)
  | .powerHandshakePoll .. => .of (execPowerHandshakePoll_effect ..)
  | .powerEntryTimeout .. => .of (execPowerEntryTimeout_effect ..)
  | .powerClearVinMin => .of (execPowerClearVinMin_effect s)
  | .clockGo .. => .of (execClockGo_effect ..)
  | .clockTrimFine .. => .of (execClockTrimFine_effect ..)
  | .pwmCommandEdge .. => .of (execPwmCommandEdge_effect ..)
  | .checkpointLoadDone .. => .of (execCheckpointLoadDone_effect ..)
  | .canRxError .. => .of (execCanRxError_effect ..)
  | .safeResetStuckEnd .. => .of (execSafeResetStuckEnd_effect ..)
  | .tpoReadbackFault .. => .of (execTpoReadbackFault_effect ..)
  | .driveBandChange .. => .of (execDriveBandChange_effect ..)
  | .pcieLinkChange .. => .of (execPcieLinkChange_effect ..)

/-- Settles O4: the queue's front runs on a state with the same registers, and an empty queue lets the time base run. -/
theorem everyStepKeepsTheSheddingSteps : Obligations.EveryStepKeepsTheSheddingSteps := by
  intro s n h hstep
  unfold step at hstep
  split at hstep
  · cases hstep
    exact (ShedStep.of (State.idle_effect s)).keeps h
  · obtain ⟨m, hm, hkeeps⟩ := exec_keepsShed { s with pending := _ } _
    cases hm.symm.trans hstep
    exact hkeeps.keeps h

end Sys2Proof.Machine
end

section
namespace Sys2Proof.Machine

set_option Elab.async false

/-! ### A command's instant and end around an operation -/

/-- While the SD clock stands still the next tick alone moves with the time (R306). -/
theorem State.elapse_fr_timer (s : State) (t : Nat) : ∃ k, (s.elapse t).fr = { s.fr with nextTick := k } := by
  unfold State.elapse
  split
  · exact ⟨_, rfl⟩
  · split
    · exact ⟨_, rfl⟩
    · extract_lets cycles part tm moved
      split
      · exact ⟨_, rfl⟩
      · exact ⟨_, (State.showSlew_effect moved).same .fr (by decide)⟩

theorem State.elapse_phase (s : State) (t : Nat) : (s.elapse t).fr.phase = s.fr.phase := by
  obtain ⟨k, hfr⟩ := s.elapse_fr_timer t
  rw [hfr]

theorem State.elapse_ticking (s : State) (t : Nat) : (s.elapse t).ticking = s.ticking :=
  congrArg (· != 0) (s.elapse_rd t Reg.FRAME_STATUS.RUNNING 0 0 (by decide +kernel))

theorem State.elapse_frameNo (s : State) (t : Nat) : (s.elapse t).frameNo = s.frameNo := s.elapse_rd t _ 0 0 (by decide +kernel)

theorem State.elapse_mayRaise (s : State) (t : Nat) : (s.elapse t).mayRaise = s.mayRaise := by
  simp only [State.mayRaise, State.elapse_power, State.elapse_faults]

/-- What a command at an instant may move, from what its operation may. -/
theorem Effect.timed {A B : List Part} {F G : List Field} {s u : State} {t : Nat} (k : Effect B (some F) (s.elapse t) u)
    (hA : ∀ p ∈ [Part.time, .host, .fr, .out] ++ B, p ∈ A) (hF : ∀ f ∈ movesTime ++ movesIrq ++ F, f ∈ G) :
    Effect A (some G) s u.settle := by
  have helapse : Effect A (some G) s (s.elapse t) :=
    ((State.elapse_effect s t).more fun f hf => hF f (List.mem_append_left _ (List.mem_append_left _ (by revert f; decide +kernel)))).grow
      fun p hp => hA p (List.mem_append_left _ (by revert p; decide))
  have hop : Effect A (some G) (s.elapse t) u :=
    (k.more fun f hf => hF f (List.mem_append_right _ hf)).grow fun p hp => hA p (List.mem_append_right _ hp)
  have hsettle : Effect A (some G) u u.settle :=
    ((State.settle_effect u).more fun f hf => hF f (List.mem_append_left _ (List.mem_append_right _ hf))).grow
      fun p hp => hA p (List.mem_append_left _ (by revert p; decide))
  exact (helapse.step hop (Effect.fits_refl _ _)).step hsettle (Effect.fits_refl _ _)

/-! ### Counters -/

/-- A counter that is raised by one stops at its largest value (R15). -/
theorem State.rd_bump (s : State) {f : Field} {i j : Nat} (hhas : f.has i j = true) (hdom : f.dom ≠ .fixed) :
    (s.bump f 1 i j).rd f i j = min (2 ^ f.width - 1) (s.rd f i j + 1) :=
  (s.rd_wr_same f _ i j hhas hdom).trans (satAdd_mod f.width _)

theorem State.rd_bump_apart (s : State) {f g : Field} (i j a b : Nat) (h : f.apart g = true) :
    (s.bump g 1 a b).rd f i j = s.rd f i j := s.rd_wr_apart _ i j a b h

/-- A field that repeats with one stride, written at one index: the others stay. -/
theorem State.wr_keepsOthers (s : State) {f : Field} (v i : Nat) (hf : 0 < f.s1 ∧ f.s2 = 0) : keepsOthers f i s (s.wr f v i) := by
  obtain ⟨hs1, hs2⟩ := hf
  intro k hk j
  refine s.rd_wr_ne f f v fun _ _ hkey => hk ?_
  simp only [Field.key, Field.at, hs2, Nat.zero_mul] at hkey
  exact Nat.eq_of_mul_eq_mul_left hs1 (by omega)

theorem keepsOthers.timed {f : Field} {i : Nat} {s u : State} {t : Nat} (h : keepsOthers f i (s.elapse t) u)
    (hf : ((movesTime ++ movesIrq).all fun g => f.apart g) = true) : keepsOthers f i s u.settle := by
  simp only [List.all_append, Bool.and_eq_true] at hf
  intro k hk j
  rw [(State.settle_effect u).rd f k j hf.2, h k hk j, (State.elapse_effect s t).rd f k j (by simp_all [movesTime])]

end Sys2Proof.Machine
end

section
namespace Sys2Proof.Machine

set_option Elab.async false

/-! ### What an uplink slot depends on -/

theorem State.elapse_chainCfg (s : State) (t c : Nat) : (s.elapse t).chainCfg c = s.chainCfg c := by
  simp only [State.chainCfg, State.elapse_cfg]

theorem State.elapse_laneHears (s : State) (t lane : Nat) : (s.elapse t).laneHears lane = s.laneHears lane := by
  have hrd : ∀ f ∈ [Reg.SLICE_ROLE.ROLE, Reg.SLICE_ROLE.TARGET, Reg.SLICE_ROLE.STATE], ∀ n, (s.elapse t).rd f n = s.rd f n :=
    fun f hf n => s.elapse_rd t f n 0 (by revert f; decide +kernel)
  simp only [State.laneHears, State.laneDeclared, State.elapse_chainCfg, State.sliceOf, hrd _ (List.mem_cons_self ..),
    hrd Reg.SLICE_ROLE.TARGET (by simp), hrd Reg.SLICE_ROLE.STATE (by simp), State.lane, State.elapse_lanes]

theorem State.elapse_frameServing (s : State) (t : Nat) (cc : ChainCfg) (h : Nat) :
    (s.elapse t).frameServing cc h = s.frameServing cc h := by
  have hrd : ∀ f ∈ [Reg.LANE_CHAIN.SPLIT, Reg.LANE_CHAIN.GAP, Reg.LANE_CHAIN.CELLS], ∀ n, (s.elapse t).rd f n = s.rd f n :=
    fun f hf n => s.elapse_rd t f n 0 (by revert f; decide +kernel)
  simp only [State.frameServing, State.chain, State.elapse_chains, State.servingLane, State.split, State.gap, State.chainCells,
    hrd _ (List.mem_cons_self ..), hrd Reg.LANE_CHAIN.GAP (by simp), hrd Reg.LANE_CHAIN.CELLS (by simp)]
  rfl

/-- An operation that leaves the period and the freeze fraction leaves T_FREEZE (R42). -/
theorem Effect.tFreeze {A : List Part} {F : List Field} {s t : State} (k : Effect A (some F) s t)
    (hF : ([Reg.FRAME_PERIOD.PERIOD, Reg.FRAME_PHASE1.FREEZE].all fun f => F.all fun g => f.apart g) = true := by decide +kernel) :
    t.tFreeze = s.tFreeze := by
  simp only [List.all_cons, List.all_nil, Bool.and_true, Bool.and_eq_true] at hF
  simp only [State.tFreeze, State.instant, State.period, k.rd _ 0 0 hF.1, k.rd _ 0 0 hF.2]

theorem Field.has_lane {f : Field} {n : Nat} (hn : n < 96) (h : f.n1 = 96 ∧ 0 < f.n2 := by decide) : f.has n 0 = true := by
  simp [Field.has, h, hn]

/-! ### An uplink slot, case by case -/

section
variable {s : State} {lane ns : Nat} {b : List Byte} {cc : ChainCfg}

/-- A lane end of a chain that is declared, in service and heard while the timer issues ticks (R47). -/
structure State.Hears (s : State) (lane : Nat) (cc : ChainCfg) : Prop where
  chain : s.chainCfg (lane / 2) = some cc
  ticking : s.ticking = true
  hears : s.laneHears lane = true

theorem State.Hears.elapse (h : s.Hears lane cc) (t : Nat) : (s.elapse t).Hears lane cc :=
  ⟨(s.elapse_chainCfg t _).trans h.chain, (s.elapse_ticking t).trans h.ticking, (s.elapse_laneHears t _).trans h.hears⟩

theorem State.uplinkSlot_good (h : s.Hears lane cc) (hcrc : crc16 (slice b 1 29) = u16At b 30)
    (hserves : s.frameServing cc (u8At b 1) = some lane) : s.uplinkSlot lane ns b = s.goodSlot cc lane (u8At b 1) ns b := by
  simp [State.uplinkSlot, h.chain, h.ticking, h.hears, hcrc, hserves]

theorem State.uplinkSlot_misplaced (h : s.Hears lane cc) (hcrc : crc16 (slice b 1 29) = u16At b 30)
    (hserves : s.frameServing cc (u8At b 1) ≠ some lane) : s.uplinkSlot lane ns b = s.bump Reg.LANE_CODE_ERR.POS 1 lane := by
  simp [State.uplinkSlot, h.chain, h.ticking, h.hears, hcrc, hserves]

/-- A bad CRC-16 counts, and marks the entry that its lane end serves before the freeze. -/
theorem State.uplinkSlot_bad (h : s.Hears lane cc) (hcrc : crc16 (slice b 1 29) ≠ u16At b 30) :
    s.uplinkSlot lane ns b = if s.frameServing cc (u8At b 1) = some lane ∧ s.fr.phase = .open ∧ ns ≤ s.tFreeze
      then (s.bump Reg.LANE_CRC32_ERR.SLOT 1 lane).modCell (cc.base + u8At b 1) fun c => { c with crcBad := true }
      else s.bump Reg.LANE_CRC32_ERR.SLOT 1 lane := by
  have hphase : (s.bump Reg.LANE_CRC32_ERR.SLOT 1 lane).fr.phase = s.fr.phase := by rw [State.bump, State.wr_fr]
  have hfreeze : (s.bump Reg.LANE_CRC32_ERR.SLOT 1 lane).tFreeze = s.tFreeze := (State.bump_effect ..).tFreeze
  simp [State.uplinkSlot, h.chain, h.ticking, h.hears, hcrc, hphase, hfreeze]

theorem State.uplinkSlot_bad_does (hlane : lane < 96) (h : s.Hears lane cc) (hcrc : crc16 (slice b 1 29) ≠ u16At b 30) {n : State}
    (hn : n = s.uplinkSlot lane ns b) :
    n.rd Reg.LANE_CRC32_ERR.SLOT lane = min 65535 (s.rd Reg.LANE_CRC32_ERR.SLOT lane + 1) ∧
      n.cell (cc.base + u8At b 1) = (if s.frameServing cc (u8At b 1) = some lane ∧ s.fr.phase = .open ∧ ns ≤ s.tFreeze then
        { s.cell (cc.base + u8At b 1) with crcBad := true } else s.cell (cc.base + u8At b 1)) ∧
      (∀ k, k ≠ cc.base + u8At b 1 → n.cell k = s.cell k) ∧ Effect [.cells] (some [Reg.LANE_CRC32_ERR.SLOT]) s n := by
  have hcount : (s.bump Reg.LANE_CRC32_ERR.SLOT 1 lane).rd Reg.LANE_CRC32_ERR.SLOT lane =
      min 65535 (s.rd Reg.LANE_CRC32_ERR.SLOT lane + 1) :=
    s.rd_bump (Field.has_lane hlane) (by decide)
  have heffect : Effect [.cells] (some [Reg.LANE_CRC32_ERR.SLOT]) s (s.bump Reg.LANE_CRC32_ERR.SLOT 1 lane) :=
    (State.bump_effect ..).grow (by simp)
  have hcells : ∀ k, (s.bump Reg.LANE_CRC32_ERR.SLOT 1 lane).cell k = s.cell k := fun k => s.wr_cell ..
  rw [State.uplinkSlot_bad h hcrc] at hn
  split at hn
  · rename_i hmark
    subst hn
    rw [if_pos hmark, State.modCell_same, State.modCell_rd, hcells]
    exact ⟨hcount, rfl, fun k hk => (State.modCell_other _ _ _ hk).trans (hcells k),
      heffect.step (State.modCell_effect ..) (by decide +kernel)⟩
  · rename_i hmark
    subst hn
    rw [if_neg hmark]
    exact ⟨hcount, hcells _, fun k _ => hcells k, heffect⟩

theorem State.uplinkSlot_unheard (h : s.chainCfg (lane / 2) = none ∨ s.ticking = false ∨ s.laneHears lane = false) :
    s.uplinkSlot lane ns b = s := by
  unfold State.uplinkSlot
  split
  · rename_i hchain
    rcases h with h | h | h
    · simp [h] at hchain
    · simp [h]
    · simp [h]
  · rfl

/-! ### A good slot, in the order of R47 -/

variable {h : Nat}

/-- A good slot that comes after the freeze, as it is counted (R47, R102). -/
def State.lateCounted (s : State) (lane : Nat) : State :=
  let s := (s.bump Reg.STALE_COUNT.LATE).bump Reg.LANE_LATE.SLOTS 1 lane
  s.when (!s.on Reg.LANE_STATUS.CHAIN_LATE lane) (·.bump Reg.LANE_LATE.FRAMES 1 lane)

theorem State.goodSlot_late (hlate : s.fr.phase ≠ .open ∨ s.tFreeze < ns) :
    ∃ j, s.goodSlot cc lane h ns b = ((s.lateCounted lane).lateArrival lane j).chainLate lane :=
  ⟨_, if_pos hlate⟩

section
variable (hopen : s.fr.phase = .open) (hearly : ns ≤ s.tFreeze)
include hopen hearly

theorem State.goodSlot_old (hold : u16At b 2 ≠ s.frameNo % 65536) : s.goodSlot cc lane h ns b = s.bump Reg.DUP_COUNT.OLD := by
  have hintime : ¬(s.fr.phase ≠ .open ∨ s.tFreeze < ns) := by simp [hopen, hearly]
  unfold State.goodSlot
  rw [if_neg hintime, if_pos hold]

theorem State.goodSlot_dup (hframe : u16At b 2 = s.frameNo % 65536) (hdone : (s.cell (cc.base + h)).done = true) :
    s.goodSlot cc lane h ns b = { s.bump Reg.DUP_COUNT.DUP with fr := { s.fr with dup := s.fr.dup + 1 } } := by
  have hintime : ¬(s.fr.phase ≠ .open ∨ s.tFreeze < ns) := by simp [hopen, hearly]
  unfold State.goodSlot
  rw [if_neg hintime, if_neg (not_not.mpr hframe), if_pos hdone]

theorem State.goodSlot_dup_does (hframe : u16At b 2 = s.frameNo % 65536) (hdone : (s.cell (cc.base + h)).done = true) {n : State}
    (hn : n = s.goodSlot cc lane h ns b) : n.rd Reg.DUP_COUNT.DUP = min 65535 (s.rd Reg.DUP_COUNT.DUP + 1) ∧
      n.fr = { s.fr with dup := s.fr.dup + 1 } ∧ Effect [.fr] (some [Reg.DUP_COUNT.DUP]) s n := by
  rw [State.goodSlot_dup hopen hearly hframe hdone] at hn
  subst hn
  exact ⟨s.rd_bump rfl (by decide), rfl,
    .after (Effect.fr _ _) (by decide +kernel) ((s.bump_effect Reg.DUP_COUNT.DUP 1 0 0).widen (by decide +kernel))⟩

theorem State.goodSlot_first (hframe : u16At b 2 = s.frameNo % 65536) (hdone : (s.cell (cc.base + h)).done = false) :
    s.goodSlot cc lane h ns b = s.modCell (cc.base + h) fun c => { c with done := true, arrive := ns, slot := b } := by
  have hintime : ¬(s.fr.phase ≠ .open ∨ s.tFreeze < ns) := by simp [hopen, hearly]
  unfold State.goodSlot
  rw [if_neg hintime, if_neg (not_not.mpr hframe), if_neg (by simp [hdone])]

end

end

/-! ### A late slot -/

section
variable {s : State} {lane : Nat}

theorem State.chainLate_reads (hlane : lane < 96) :
    (s.chainLate lane).rd Reg.LANE_STATUS.CHAIN_LATE lane ≠ 0 ∧
      (s.rd Reg.LANE_STATUS.CHAIN_LATE lane = 0 → (s.chainLate lane).rd Reg.LANE_EVENT.CHAIN_LATE lane = 1 ∧
        ∀ a : State, s.evtAt = a.evtAt → a.mayRaise = true → raises a (s.chainLate lane) 15 lane) := by
  unfold State.chainLate
  extract_lets counted
  have hon : counted.on Reg.LANE_STATUS.CHAIN_LATE lane = s.on Reg.LANE_STATUS.CHAIN_LATE lane := rfl
  by_cases hlate : s.on Reg.LANE_STATUS.CHAIN_LATE lane = true
  · rw [if_pos (hon.trans hlate)]
    rw [State.on_eq_true] at hlate
    exact ⟨hlate, fun h => absurd h hlate⟩
  · rw [if_neg (by rwa [hon])]
    let shown := (counted.wr Reg.LANE_STATUS.CHAIN_LATE 1 lane).wr Reg.LANE_EVENT.CHAIN_LATE 1 lane
    have hraise : ∀ f ∈ [Reg.LANE_STATUS.CHAIN_LATE, Reg.LANE_EVENT.CHAIN_LATE], (shown.raise 15 lane).rd f lane = shown.rd f lane :=
      fun f hf => (State.raise_effect ..).rd f lane 0 (by revert f; decide +kernel)
    have hstatus : shown.rd Reg.LANE_STATUS.CHAIN_LATE lane = 1 :=
      (State.rd_wr_apart _ _ _ _ _ _ (by decide +kernel)).trans (State.rd_wr_same _ _ _ _ _ (Field.has_lane hlane) (by decide))
    have hevent : shown.rd Reg.LANE_EVENT.CHAIN_LATE lane = 1 := State.rd_wr_same _ _ _ _ _ (Field.has_lane hlane) (by decide)
    refine ⟨?_, fun _ => ⟨?_, fun a ha hmay => ?_⟩⟩
    · rw [hraise _ (List.mem_cons_self ..), hstatus]
      decide
    · rw [hraise _ (by simp), hevent]
    · have hshown : Effect [.lanes] (some [Reg.LANE_STATUS.CHAIN_LATE, Reg.LANE_EVENT.CHAIN_LATE]) s shown := by
        refine Effect.after (State.wr_effect ..) (by decide +kernel) ?_
        refine Effect.after (State.wr_effect ..) (by decide +kernel) ?_
        exact (State.modLane_effect ..).widen (by decide +kernel)
      exact raises_raise ((hshown.evtAt (by simp [shown, counted])).trans ha) hmay rfl lane

theorem State.lateCounted_reads (hlane : lane < 96) :
    (s.lateCounted lane).rd Reg.STALE_COUNT.LATE = min 65535 (s.rd Reg.STALE_COUNT.LATE + 1) ∧
      (s.lateCounted lane).rd Reg.LANE_LATE.SLOTS lane = min 65535 (s.rd Reg.LANE_LATE.SLOTS lane + 1) ∧
      (s.rd Reg.LANE_STATUS.CHAIN_LATE lane = 0 →
        (s.lateCounted lane).rd Reg.LANE_LATE.FRAMES lane = min 65535 (s.rd Reg.LANE_LATE.FRAMES lane + 1)) := by
  unfold State.lateCounted
  extract_lets counted
  have hcounted : Effect [] (some [Reg.STALE_COUNT.LATE, Reg.LANE_LATE.SLOTS]) s counted :=
    Effect.after (State.bump_effect ..) (by decide +kernel) ((State.bump_effect ..).widen (by decide +kernel))
  have hframes : Effect [] (some [Reg.LANE_LATE.FRAMES]) counted
      (counted.when (!counted.on Reg.LANE_STATUS.CHAIN_LATE lane) (·.bump Reg.LANE_LATE.FRAMES 1 lane)) :=
    .when (.refl ..) fun u => State.bump_effect ..
  refine ⟨?_, ?_, fun h => ?_⟩
  · rw [hframes.rd _ _ _ (by decide +kernel), State.rd_bump_apart _ _ _ _ _ (by decide +kernel)]
    exact s.rd_bump rfl (by decide)
  · rw [hframes.rd _ _ _ (by decide +kernel)]
    refine (State.rd_bump _ (Field.has_lane hlane) (by decide)).trans ?_
    rw [State.rd_bump_apart _ _ _ _ _ (by decide +kernel)]
    rfl
  · have hoff : counted.on Reg.LANE_STATUS.CHAIN_LATE lane = false := by
      rw [State.on_eq_false, hcounted.rd _ _ _ (by decide +kernel), h]
    rw [State.when, hoff, Bool.not_false, if_pos rfl]
    refine (State.rd_bump _ (Field.has_lane hlane) (by decide)).trans ?_
    rw [hcounted.rd _ _ _ (by decide +kernel)]
    rfl

def State.lateCounted_fields : Option (List Field) := some [Reg.STALE_COUNT.LATE, Reg.LANE_LATE.SLOTS, Reg.LANE_LATE.FRAMES]

theorem State.lateCounted_effect : Effect [] State.lateCounted_fields s (s.lateCounted lane) := by
  have hstale : Effect [] State.lateCounted_fields s (s.bump Reg.STALE_COUNT.LATE) :=
    (s.bump_effect Reg.STALE_COUNT.LATE 1 0 0).widen (by decide +kernel)
  have hframes : ∀ u : State, Effect [] State.lateCounted_fields u (u.bump Reg.LANE_LATE.FRAMES 1 lane) :=
    fun u => (u.bump_effect Reg.LANE_LATE.FRAMES 1 lane 0).widen (by decide +kernel)
  unfold State.lateCounted
  extract_lets counted
  have hcounted : Effect [] State.lateCounted_fields s counted :=
    .after (State.bump_effect _ Reg.LANE_LATE.SLOTS 1 lane 0) (by decide +kernel) hstale
  exact hcounted.when hframes

/-- A late slot counts, makes its lane end CHAIN_LATE, and moves nothing of the cells or the frame (R47, R102). -/
theorem State.lateSlot_does (hlane : lane < 96) (j : Nat) {n : State} (hn : n = ((s.lateCounted lane).lateArrival lane j).chainLate lane) :
    n.cells = s.cells ∧ n.fr = s.fr ∧ n.rd Reg.STALE_COUNT.LATE = min 65535 (s.rd Reg.STALE_COUNT.LATE + 1) ∧
      n.rd Reg.LANE_LATE.SLOTS lane = min 65535 (s.rd Reg.LANE_LATE.SLOTS lane + 1) ∧ n.rd Reg.LANE_STATUS.CHAIN_LATE lane ≠ 0 ∧
      (s.rd Reg.LANE_STATUS.CHAIN_LATE lane = 0 →
        n.rd Reg.LANE_LATE.FRAMES lane = min 65535 (s.rd Reg.LANE_LATE.FRAMES lane + 1) ∧ n.rd Reg.LANE_EVENT.CHAIN_LATE lane = 1 ∧
        (s.mayRaise = true → raises s n 15 lane)) := by
  let arrived := (s.lateCounted lane).lateArrival lane j
  have harrived : Effect [.lanes] (some [Reg.STALE_COUNT.LATE, Reg.LANE_LATE.SLOTS, Reg.LANE_LATE.FRAMES]) s arrived :=
    Effect.after (State.lateArrival_effect ..) (by decide +kernel) (State.lateCounted_effect.widen (by decide +kernel))
  have hlate : Effect State.chainLate_touch State.chainLate_fields arrived n := hn ▸ State.chainLate_effect arrived lane
  have hshown : arrived.rd Reg.LANE_STATUS.CHAIN_LATE lane = s.rd Reg.LANE_STATUS.CHAIN_LATE lane := harrived.rd _ _ _ (by decide +kernel)
  obtain ⟨hstale, hslots, hframes⟩ := s.lateCounted_reads hlane
  obtain ⟨hstatus, hfirst⟩ := arrived.chainLate_reads hlane
  have hkept : ∀ f ∈ [Reg.STALE_COUNT.LATE, Reg.LANE_LATE.SLOTS, Reg.LANE_LATE.FRAMES], ∀ i, n.rd f i = (s.lateCounted lane).rd f i :=
    fun f hf i => (hlate.rd f i 0 (by revert f; decide +kernel)).trans
      ((State.lateArrival_effect ..).rd f i 0 (by revert f; decide +kernel))
  refine ⟨(hlate.same .cells (by decide)).trans (harrived.same .cells (by decide)),
    (hlate.same .fr (by decide)).trans (harrived.same .fr (by decide)), (hkept _ (by simp) 0).trans hstale,
    (hkept _ (by simp) lane).trans hslots, hn ▸ hstatus, fun h => ?_⟩
  obtain ⟨hevent, hraises⟩ := hfirst (hshown.trans h)
  have hpower : arrived.power = s.power := harrived.same .power (by decide)
  exact ⟨(hkept _ (by simp) lane).trans (hframes h), hn ▸ hevent,
    hn ▸ hraises s (harrived.evtAt (congrArg PowerSt.bridge hpower))⟩

end

/-! ### The command -/

theorem exec_uplinkSlot (s : State) (lane : Fin 96) (ns : Nat) (b : List Byte) : exec (.uplinkSlot lane ns b) s =
    done ((s.elapse (s.tickNs + s.time.behind + ns)).uplinkSlot lane.val ns b) := rfl

theorem exec_uplinkTrainCrc (s : State) (lane : Fin 96) (b : List Byte) (crc : Nat) : exec (.uplinkTrainCrc lane b crc) s =
    done (s.when (s.laneHears lane.val && decide (crc ≠ crc32 b)) (·.bump Reg.LANE_CRC32_ERR.TRAIN 1 lane.val)) := rfl

/-- A counter that a command raises by one after its instant. -/
theorem State.rd_bump_timed (s : State) (t : Nat) {f : Field} {i : Nat} (hhas : f.has i 0 = true) (hdom : f.dom ≠ .fixed)
    (hf : ((movesTime ++ movesIrq).all fun g => f.apart g) = true := by decide +kernel) :
    ((s.elapse t).bump f 1 i).settle.rd f i = min (2 ^ f.width - 1) (s.rd f i + 1) := by
  simp only [List.all_append, Bool.and_eq_true] at hf
  rw [(State.settle_effect _).rd f i 0 hf.2, State.rd_bump _ hhas hdom, (State.elapse_effect s t).rd f i 0 (by simp_all [movesTime])]

section
variable {s : State} {lane : Fin 96} {ns : Nat} {b : List Byte} {cc : ChainCfg}

/-- A good slot on a lane end that serves its position, as the command takes it at its instant (R47, R98). -/
theorem exec_uplinkSlot_good (hears : s.Hears lane.val cc) (hcrc : crc16 (slice b 1 29) = u16At b 30)
    (hserves : s.frameServing cc (u8At b 1) = some lane.val) : exec (.uplinkSlot lane ns b) s =
      done ((s.elapse (s.tickNs + s.time.behind + ns)).goodSlot cc lane.val (u8At b 1) ns b) := by
  rw [exec_uplinkSlot, State.uplinkSlot_good (hears.elapse _) hcrc ((s.elapse_frameServing _ _ _).trans hserves)]

end

theorem State.elapse_tFreeze (s : State) (t : Nat) : (s.elapse t).tFreeze = s.tFreeze :=
  Effect.tFreeze (F := movesTime) ((State.elapse_effect s t).more (by decide +kernel))

/-- Settles O19: a slot is followed along R47, R98 and R102 at its instant, which moves nothing that the slot is judged by. -/
theorem uplinkSlotsCompleteEntriesOrCount : Obligations.UplinkSlotsCompleteEntriesOrCount := by
  unfold Obligations.UplinkSlotsCompleteEntriesOrCount
  refine ⟨?first, ?late, ?old, ?dup, ?misplaced, ?badCrc, ?unheard, ?train⟩
  case first =>
    intro s lane ns b cc hchain htick hears hcrc hserves hopen hearly hframe hdone
    let e := s.elapse (s.tickNs + s.time.behind + ns)
    have hgood := State.goodSlot_first (s := e) (lane := lane.val) (b := b) (cc := cc) (h := u8At b 1) ((s.elapse_phase _).trans hopen)
      (hearly.trans_eq (s.elapse_tFreeze _).symm) (by rwa [s.elapse_frameNo]) ((congrArg CellMem.done (s.elapse_cell _ _)).trans hdone)
    refine ⟨_, (exec_uplinkSlot_good ⟨hchain, htick, hears⟩ hcrc hserves).trans (congrArg done hgood), ?_, fun k hk => ?_,
      Effect.timed (State.modCell_effect ..) (by decide) (by decide +kernel)⟩
    · rw [State.settle_cell, State.modCell_same, s.elapse_cell]
    · rw [State.settle_cell, State.modCell_other _ _ _ hk, s.elapse_cell]
  case late =>
    intro s lane ns b cc hchain htick hears hcrc hserves hlate
    let e := s.elapse (s.tickNs + s.time.behind + ns)
    obtain ⟨j, hgood⟩ := State.goodSlot_late (s := e) (ns := ns) (lane := lane.val) (b := b) (cc := cc) (h := u8At b 1)
      (by rwa [s.elapse_phase, s.elapse_tFreeze])
    have hexec := (exec_uplinkSlot_good (ns := ns) ⟨hchain, htick, hears⟩ hcrc hserves).trans (congrArg done hgood)
    have helapse : ∀ f ∈ [Reg.STALE_COUNT.LATE, Reg.LANE_LATE.SLOTS, Reg.LANE_LATE.FRAMES, Reg.LANE_STATUS.CHAIN_LATE],
        ∀ i, e.rd f i = s.rd f i :=
      fun f hf i => s.elapse_rd _ f i 0 (by revert f; decide +kernel)
    obtain ⟨hcells, hfr, hstale, hslots, hstatus, hfirst⟩ := State.lateSlot_does (s := e) lane.isLt j rfl
    refine ⟨_, hexec, ?_, ?_, ?_, ?_, ?_, fun h => ?_, Effect.of_exec (execUplinkSlot_effect ..) hexec (by decide) (by decide +kernel)⟩
    · rw [State.settle_cells, hcells, s.elapse_cells]
    · rw [State.settle_fr, hfr]
    · rw [State.settle_rd _ _ _ _ (by decide +kernel), hstale, helapse _ (by simp)]
    · rw [State.settle_rd _ _ _ _ (by decide +kernel), hslots, helapse _ (by simp)]
    · rwa [State.settle_rd _ _ _ _ (by decide +kernel)]
    · obtain ⟨hframes, hevent, hraises⟩ := hfirst ((helapse _ (by simp) _).trans h)
      refine ⟨?_, ?_, fun hmay => State.settle_raises (hraises ((s.elapse_mayRaise _).trans hmay))⟩
      · rw [State.settle_rd _ _ _ _ (by decide +kernel), hframes, helapse _ (by simp)]
      · rw [State.settle_rd _ _ _ _ (by decide +kernel), hevent]
  case old =>
    intro s lane ns b cc hchain htick hears hcrc hserves hopen hearly hframe
    have hgood := State.goodSlot_old (s := s.elapse (s.tickNs + s.time.behind + ns)) (lane := lane.val) (b := b) (cc := cc) (h := u8At b 1)
      ((s.elapse_phase _).trans hopen) (hearly.trans_eq (s.elapse_tFreeze _).symm) (by rwa [s.elapse_frameNo])
    exact ⟨_, (exec_uplinkSlot_good ⟨hchain, htick, hears⟩ hcrc hserves).trans (congrArg done hgood),
      s.rd_bump_timed _ rfl (by decide), Effect.timed (State.bump_effect ..) (by decide) (by decide +kernel)⟩
  case dup =>
    intro s lane ns b cc hchain htick hears hcrc hserves hopen hearly hframe hdone
    let e := s.elapse (s.tickNs + s.time.behind + ns)
    obtain ⟨hcount, hfr, heffect⟩ := State.goodSlot_dup_does (s := e) (lane := lane.val) (b := b) (cc := cc) (h := u8At b 1)
      ((s.elapse_phase _).trans hopen) (hearly.trans_eq (s.elapse_tFreeze _).symm) (by rwa [s.elapse_frameNo])
      ((congrArg CellMem.done (s.elapse_cell _ _)).trans hdone) rfl
    have hdup : e.fr.dup = s.fr.dup := by
      obtain ⟨k, hfr⟩ := s.elapse_fr_timer (s.tickNs + s.time.behind + ns)
      rw [hfr]
    refine ⟨_, exec_uplinkSlot_good ⟨hchain, htick, hears⟩ hcrc hserves, ?_, ?_,
      Effect.timed heffect (by decide) (by decide +kernel)⟩
    · rw [State.settle_rd _ _ _ _ (by decide +kernel), hcount, s.elapse_rd _ _ _ _ (by decide +kernel)]
    · rw [State.settle_fr, hfr, hdup]
  case misplaced =>
    intro s lane ns b cc hchain htick hears hcrc hserves
    let t := s.tickNs + s.time.behind + ns
    have hslot := State.uplinkSlot_misplaced (s := s.elapse t) (ns := ns) (State.Hears.elapse ⟨hchain, htick, hears⟩ t) hcrc
      (by rwa [s.elapse_frameServing])
    exact ⟨_, congrArg done hslot, s.rd_bump_timed t (Field.has_lane lane.isLt) (by decide),
      (State.wr_keepsOthers _ _ _ (by decide)).timed (by decide +kernel),
      Effect.timed (State.bump_effect ..) (by decide) (by decide +kernel)⟩
  case badCrc =>
    intro s lane ns b cc hchain htick hears hcrc
    let e := s.elapse (s.tickNs + s.time.behind + ns)
    obtain ⟨hcount, hmark, hcells, heffect⟩ := State.uplinkSlot_bad_does (s := e) (n := e.uplinkSlot lane.val ns b) lane.isLt
      (State.Hears.elapse ⟨hchain, htick, hears⟩ _) hcrc rfl
    refine ⟨_, exec_uplinkSlot s lane ns b, ?_, ?_, fun k hk => ?_, Effect.timed heffect (by decide) (by decide +kernel)⟩
    · rw [State.settle_rd _ _ _ _ (by decide +kernel), hcount, s.elapse_rd _ _ _ _ (by decide +kernel)]
    · rw [State.settle_cell, hmark, s.elapse_frameServing, s.elapse_phase, s.elapse_tFreeze, s.elapse_cell]
    · rw [State.settle_cell, hcells k hk, s.elapse_cell]
  case unheard =>
    intro s lane ns b h
    let t := s.tickNs + s.time.behind + ns
    have hslot := State.uplinkSlot_unheard (s := s.elapse t) (lane := lane.val) (ns := ns) (b := b)
      (by rwa [s.elapse_chainCfg, s.elapse_ticking, s.elapse_laneHears])
    exact ⟨_, congrArg done hslot, s.elapse_settle_effect t⟩
  case train =>
    intro s lane b crc
    let counted := s.when (s.laneHears lane.val && decide (crc ≠ crc32 b)) (·.bump Reg.LANE_CRC32_ERR.TRAIN 1 lane.val)
    have hcount : Effect [] (some [Reg.LANE_CRC32_ERR.TRAIN]) s counted := .when (.refl ..) fun u => State.bump_effect ..
    have hsettle : ∀ i j, counted.settle.rd Reg.LANE_CRC32_ERR.TRAIN i j = counted.rd Reg.LANE_CRC32_ERR.TRAIN i j :=
      fun i j => State.settle_rd _ _ _ _ (by decide +kernel)
    refine ⟨_, exec_uplinkTrainCrc s lane b crc, fun hears hbad => (hsettle ..).trans ?_, fun h => (hsettle ..).trans ?_,
      fun k hk j => (hsettle ..).trans ?_, ?_⟩
    · have hcounted : counted = s.bump Reg.LANE_CRC32_ERR.TRAIN 1 lane.val := if_pos (by simp [hears, hbad])
      rw [hcounted, s.rd_bump (Field.has_lane lane.isLt) (by decide)]
      rfl
    · have hcounted : counted = s := if_neg (by rcases h with h | h <;> simp [h])
      rw [hcounted]
    · unfold counted State.when
      split
      · exact s.wr_keepsOthers _ _ (by decide) k hk j
      · rfl
    · refine Effect.after (State.settle_effect counted) (by decide +kernel) ?_
      exact hcount.widen (by decide +kernel)

end Sys2Proof.Machine
end

section
namespace Sys2Proof.Machine

set_option Elab.async false

/-! ### Step 6 while a half-time runs (R214, R376) -/

/-- A device in RUN at shedding step 5, two samples into a fall to step 6, whose referee is LOST while a half-time still stands. -/
def lostInHalftime : State :=
  let s : State := { State.reset with
    power := { (default : PowerSt) with supplied := true, held := false, fallRun := 2, fallDeep := 6 }
    referee := { (default : RefSt) with shadow := some ⟨false, none⟩ } }
  let s := (s.wr Reg.POWER_STATE.STATE stRun).wr Reg.FRAME_STATUS.RUNNING 1
  ((s.wr Reg.POWER_SHED.VIN_STEP 5).wr Reg.POWER_SHED.STEP 5).wr Reg.REF_STATUS.STATE rsLost

/-- The half-time is cancelled first, which leaves LOST for HELD, so that the referee goes back to SETUP. -/
theorem lostInHalftime_third_sample :
    ((lostInHalftime.elapse 0).vinSample 8999).settle.refState = rsSetup := by
  decide +kernel

/-- Refutes O57: a referee that is LOST while a half-time stands leaves LOST at step 6, where R205 and the third clause keep it. The
half-time is cancelled on the way down (R375), which shows the referee as HELD, and from there it goes back to SETUP. -/
theorem not_sheddingStepsFollowVinAndHeat : ¬ Obligations.SheddingStepsFollowVinAndHeat := by
  unfold Obligations.SheddingStepsFollowVinAndHeat
  rintro ⟨-, -, hstep6, -⟩
  have hinv : lostInHalftime.shedInv := by
    refine ⟨?_, ?_, ?_, ?_⟩ <;> decide +kernel
  obtain ⟨n, hexec, -, href, -⟩ := hstep6 lostInHalftime 8999 0 (by decide +kernel) (by decide +kernel) (by decide +kernel)
    (by decide +kernel) (by decide) hinv (by decide +kernel) (by decide +kernel) (by decide +kernel) (by decide +kernel)
  have hlost : lostInHalftime.refState = rsLost := by decide +kernel
  obtain rfl : ((lostInHalftime.elapse 0).vinSample 8999).settle = n := Host.Outcome.next.inj hexec
  rw [lostInHalftime_third_sample, if_pos hlost] at href
  exact absurd href (by decide)

end Sys2Proof.Machine
end

section
namespace Sys2Proof.Machine

set_option Elab.async false

/-! ### The frame besides the control entries -/

/-- A frame's state besides the tracker's control entries (R48). -/
def FrameSt.sansCtrl (f : FrameSt) : FrameSt := { f with ctrl := [], ctrlWait := [], ctrlWaited := false }

theorem FrameSt.core_of_sansCtrl {f g : FrameSt} (h : f.sansCtrl = g.sansCtrl) : f.core = g.core := (congrArg FrameSt.core h :)

section
variable (s : State)

theorem State.ctrlOpen_sansCtrl (e : CtrlEntry) : (s.ctrlOpen e).fr.sansCtrl = s.fr.sansCtrl := by
  unfold State.ctrlOpen
  rw [State.wr_fr]
  rfl

theorem State.ctrlAsk_sansCtrl (e : CtrlEntry) : (s.ctrlAsk e).fr.sansCtrl = s.fr.sansCtrl := by
  unfold State.ctrlAsk
  split
  · exact s.ctrlOpen_sansCtrl e
  · rfl

theorem State.ctrlAdmit_sansCtrl : s.ctrlAdmit.fr.sansCtrl = s.fr.sansCtrl := by
  unfold State.ctrlAdmit
  refine State.each_keeps (·.fr.sansCtrl) (fun v e => ?_) _
  split
  · exact v.ctrlOpen_sansCtrl e
  · rfl

theorem State.ctrlDone_sansCtrl (p : CtrlEntry → Bool) : (s.ctrlDone p).fr.sansCtrl = s.fr.sansCtrl := State.ctrlAdmit_sansCtrl _

end

/-! ### The power controller besides the good signals -/

/-- The power controller besides the good signals of its rails (R373). -/
def PowerSt.sansGood (p : PowerSt) : PowerSt := { p with pgood := 0 }

/-- A plane that changes its role changes no more of the power controller than its rail's good signal. -/
theorem State.setRole_sansGood (s : State) (p r : Nat) : (s.setRole p r).power.sansGood = s.power.sansGood := by
  unfold State.setRole
  extract_lets unfit on role domain engines exports
  have hdomain : domain.power = s.power := by
    unfold domain role
    rw [State.wr_power, State.wr_power]
    exact State.when_keeps (·.power) (fun u => State.wr_power ..) s
  have hengines : engines.power = domain.power := State.each_keeps (·.power) (fun u j => by
    refine (State.when_keeps (·.power) (fun v => State.modEng_power ..) _).trans ?_
    rw [State.wr_power, State.wr_power, State.wr_power]) domain
  have hexports : exports.power = engines.power :=
    State.when_keeps (·.power) (fun u => (State.showExports_effect ..).same .power (by decide)) engines
  have hpower : exports.power = s.power := hexports.trans (hengines.trans hdomain)
  split
  · rw [hpower]
  · rw [(State.wrBit_effect ..).same .power (by decide)]
    exact (congrArg PowerSt.sansGood hpower : exports.power.sansGood = s.power.sansGood)

/-! ### What a deadline keeps -/

/-- What the referee carries over a deadline besides its half-times and checkpoints (R199). -/
def RefSt.carried (r : RefSt) : Bool × Nat × Bool := (r.ball, r.coast, r.heartbeat)

theorem RefSt.carried_eq {r q : RefSt} (h : r.carried = q.carried) :
    r.ball = q.ball ∧ r.coast = q.coast ∧ r.heartbeat = q.heartbeat := by
  simpa [RefSt.carried] using h

/-- The registers that a deadline's overrun and lease write, and those that they depend on (R53, R199). -/
def movesDeadline : List Field := [Reg.OVERRUN_COUNT.COMPUTE, Reg.OVERRUN_COUNT.RANK, Reg.OVERRUN_LAST.FRAME, Reg.FRAME_EVENT.OVERRUN,
  Reg.REF_STATUS.LEASE, Reg.FRAME_NO.FRAME_NO, Reg.POWER_STATE.STATE]

/-- A step of a deadline that neither counts an overrun nor judges the lease. -/
structure DeadlineStep (s t : State) : Prop where
  core : t.fr.core = s.fr.core
  carried : t.referee.carried = s.referee.carried
  power : t.power.sansGood = s.power.sansGood
  cfg : t.cfg = s.cfg
  shown : ∀ f ∈ movesDeadline, t.rd f = s.rd f

namespace DeadlineStep
variable {s t v : State}

theorem refl (s : State) : DeadlineStep s s := ⟨rfl, rfl, rfl, rfl, fun _ _ => rfl⟩

theorem trans (h : DeadlineStep s t) (k : DeadlineStep t v) : DeadlineStep s v :=
  ⟨k.core.trans h.core, k.carried.trans h.carried, k.power.trans h.power, k.cfg.trans h.cfg,
    fun f hf => (k.shown f hf).trans (h.shown f hf)⟩

theorem ite {a b : State} {c : Prop} [Decidable c] (h : DeadlineStep s a) (k : DeadlineStep s b) : DeadlineStep s (if c then a else b) := by
  split <;> assumption

theorem when {c : Bool} {f : State → State} (h : DeadlineStep s t) (k : ∀ u, DeadlineStep u (f u)) : DeadlineStep s (t.when c f) := by
  unfold State.when
  split
  · exact h.trans (k t)
  · exact h

theorem each {α : Type} {l : List α} {f : State → α → State} (h : DeadlineStep s t) (k : ∀ u a, DeadlineStep u (f u a)) :
    DeadlineStep s (t.each l f) := by
  unfold State.each
  induction l generalizing t with
  | nil => exact h
  | cons a l ih => exact ih (h.trans (k t a))

/-- An operation on other registers, with what it keeps of the parts that it touches. -/
theorem ofParts {A : List Part} {F : List Field} (k : Effect A (some F) s t) (hcore : t.fr.core = s.fr.core)
    (hcarried : t.referee.carried = s.referee.carried) (hpower : t.power.sansGood = s.power.sansGood)
    (hA : Part.cfg ∉ A := by decide) (hF : (movesDeadline.all fun f => F.all fun g => f.apart g) = true := by decide +kernel) :
    DeadlineStep s t :=
  ⟨hcore, hcarried, hpower, k.same .cfg hA, fun f hf => k.rd f 0 0 (List.all_eq_true.mp hF f hf)⟩

/-- An operation on other registers and parts. -/
theorem of {A : List Part} {F : List Field} (k : Effect A (some F) s t)
    (hA : Part.cfg ∉ A ∧ Part.fr ∉ A ∧ Part.referee ∉ A ∧ Part.power ∉ A := by decide)
    (hF : (movesDeadline.all fun f => F.all fun g => f.apart g) = true := by decide +kernel) : DeadlineStep s t :=
  .ofParts k (congrArg FrameSt.core (k.frSame hA.2.1)) (congrArg RefSt.carried (k.same .referee hA.2.2.1))
    (congrArg PowerSt.sansGood (k.same .power hA.2.2.2)) hA.1 hF

theorem op {A : List Part} {F : List Field} (h : DeadlineStep s t) (k : Effect A (some F) t v)
    (hA : Part.cfg ∉ A ∧ Part.fr ∉ A ∧ Part.referee ∉ A ∧ Part.power ∉ A := by decide)
    (hF : (movesDeadline.all fun f => F.all fun g => f.apart g) = true := by decide +kernel) : DeadlineStep s v :=
  h.trans (.of k hA hF)

theorem ctrlAsk (s : State) (e : CtrlEntry) : DeadlineStep s (s.ctrlAsk e) :=
  .ofParts (State.ctrlAsk_effect s e) (s.ctrlAsk_core e) (congrArg RefSt.carried ((State.ctrlAsk_effect s e).same .referee (by decide)))
    (congrArg PowerSt.sansGood ((State.ctrlAsk_effect s e).same .power (by decide)))

theorem ctrlDone (s : State) (p : CtrlEntry → Bool) : DeadlineStep s (s.ctrlDone p) :=
  .ofParts (State.ctrlDone_effect s p) (FrameSt.core_of_sansCtrl (s.ctrlDone_sansCtrl p))
    (congrArg RefSt.carried ((State.ctrlDone_effect s p).same .referee (by decide)))
    (congrArg PowerSt.sansGood ((State.ctrlDone_effect s p).same .power (by decide)))

/-- What the referee remembers besides. -/
theorem modRef (s : State) {f : RefSt → RefSt} (hf : (f s.referee).carried = s.referee.carried) : DeadlineStep s (s.modRef f) :=
  .ofParts (State.modRef_effect s f) rfl hf rfl

theorem setRole (s : State) (p r : Nat) : DeadlineStep s (s.setRole p r) :=
  .ofParts (State.setRole_effect s p r) (congrArg FrameSt.core (State.setRole_effect s p r).frSame)
    (congrArg RefSt.carried ((State.setRole_effect s p r).same .referee (by decide))) (s.setRole_sansGood p r)

/-! ### Half-times -/

theorem endShadow (s : State) (outcome role : Nat) : DeadlineStep s (s.endShadow outcome role) := by
  unfold State.endShadow
  extract_lets cold
  have hcold : DeadlineStep s cold := (setRole ..).op (State.wr_effect ..)
  exact (hcold.trans (modRef cold rfl)).op (State.wr_effect ..)

theorem cancelShadow (s : State) : DeadlineStep s s.cancelShadow := by
  unfold State.cancelShadow
  split
  · exact refl s
  · extract_lets ended
    have hended : DeadlineStep s ended := (endShadow ..).op (State.wr_effect ..)
    exact hended.trans (ite (refl _) (modRef _ rfl))

theorem mismatch (s : State) : DeadlineStep s s.mismatch :=
  ite (refl s) ((of (State.raise_effect ..)).trans (endShadow ..))

theorem judgeShadow (s : State) (diff overran : Bool) : DeadlineStep s (s.judgeShadow diff overran) :=
  ite ((refl s).when cancelShadow) (ite (mismatch s) (ite (cancelShadow s) (of (State.wr_effect ..))))

theorem fixShadow (s : State) : DeadlineStep s s.fixShadow := by
  unfold State.fixShadow
  split
  · exact refl s
  · refine ite (refl s) ?_
    extract_lets h o taken
    have htaken : DeadlineStep s taken := each (refl s) fun u j => of (State.modEng_effect ..)
    exact (htaken.op (State.showExports_effect ..)).trans (modRef _ rfl)

/-! ### The planes and the arms -/

theorem endPlane (s : State) (p : Nat) : DeadlineStep s (s.endPlane p) := by
  unfold State.endPlane
  refine each (refl s) fun u j => ?_
  extract_lets e x
  split
  · rename_i stopped c shown needed hruns
    have hstopped : DeadlineStep u stopped := (of (State.modEng_effect ..)).trans (ctrlDone ..)
    have hshown : DeadlineStep u shown := ((hstopped.op (State.wr_effect ..)).op (State.wr_effect ..)).op (State.wr_effect ..)
    have hneeded : DeadlineStep u needed := hshown.when fun v => ofParts (Effect.fr v _) rfl rfl rfl
    exact (hneeded.op (State.wr_effect ..)).op (State.wr_effect ..)
  · split
    · exact of (State.modEng_effect ..)
    · exact refl u

theorem rankWindow (s : State) (ac : ArmCfg) (coast : Bool) : DeadlineStep s (s.rankWindow ac coast) := by
  unfold State.rankWindow
  refine ite (refl s) ?_
  exact ((ctrlAsk ..).op (State.rankArm_effect ..)).op (State.modArm_effect ..)

theorem rankAll (s : State) (coast : Bool) : DeadlineStep s (s.rankAll coast) := by
  unfold State.rankAll
  extract_lets coasts checked applied
  have hchecked : DeadlineStep s checked := each (refl s) fun u a => ite (of (State.checkArm_effect ..)) (refl u)
  have happlied : DeadlineStep s applied := hchecked.op (State.pairApply_effect ..)
  exact (happlied.each fun u a => rankWindow ..).op (State.summarise_effect _)

/-! ### Checkpoints -/

theorem setHalf (s : State) (i : Nat) (c : Ckpt) : DeadlineStep s (s.setHalf i c) :=
  trans (modRef s (by split <;> rfl)) (of (State.showCkpt_effect _))

theorem ckptBegin (s : State) : DeadlineStep s s.ckptBegin := by
  unfold State.ckptBegin
  refine ite (refl s) ?_
  split
  exact (setHalf ..).trans (modRef _ rfl)

theorem ckptCommit (s : State) : DeadlineStep s s.ckptCommit := by
  unfold State.ckptCommit
  split
  · exact (setHalf ..).trans (modRef _ rfl)
  · exact refl s

end DeadlineStep

/-! ### Overruns -/

section
variable {s : State} {counter : Field} (hcounter : counter = Reg.OVERRUN_COUNT.COMPUTE ∨ counter = Reg.OVERRUN_COUNT.RANK) (detail : Nat)
include hcounter

/-- An overrun is counted, with the frame's number (R53). -/
theorem State.overrun_reads : (s.overrun counter detail).rd counter = min 65535 (s.rd counter + 1) ∧
    (s.overrun counter detail).rd Reg.OVERRUN_LAST.FRAME = s.frameNo % 4294967296 ∧
    (s.overrun counter detail).rd Reg.FRAME_EVENT.OVERRUN = 1 := by
  have hraise : ∀ (u : State) (f : Field), f = counter ∨ f = Reg.OVERRUN_LAST.FRAME ∨ f = Reg.FRAME_EVENT.OVERRUN →
      (u.raise 8 detail).rd f = u.rd f := fun u f hf => by
    refine (State.raise_effect u 8 detail).rd f 0 0 ?_
    rcases hcounter with rfl | rfl <;> rcases hf with rfl | rfl | rfl <;> decide +kernel
  unfold State.overrun
  refine ⟨?_, ?_, ?_⟩
  · rw [hraise _ _ (.inl rfl), State.rd_wr_apart _ _ _ _ _ _ (by rcases hcounter with rfl | rfl <;> decide +kernel),
      State.rd_wr_apart _ _ _ _ _ _ (by rcases hcounter with rfl | rfl <;> decide +kernel)]
    rcases hcounter with rfl | rfl <;> exact s.rd_bump rfl (by decide)
  · rw [hraise _ _ (.inr (.inl rfl)), State.rd_wr_apart _ _ _ _ _ _ (by decide +kernel)]
    exact State.rd_wr_same _ _ _ _ _ rfl (by decide)
  · rw [hraise _ _ (.inr (.inr rfl))]
    exact State.rd_wr_same _ _ _ _ _ rfl (by decide)

end

/-! ### T_COMPUTE_END -/

section
variable {s : State}

/-- The compute overrun of a frame, where there is one (R53, R54). -/
def State.countCompute (s : State) (overran : Bool) : State :=
  s.when overran fun s => (s.modFr fun f => { f with ovCompute := true }).overrun Reg.OVERRUN_COUNT.COMPUTE 0

theorem State.countCompute_parts (overran : Bool) : (s.countCompute overran).fr = { s.fr with ovCompute := s.fr.ovCompute || overran } ∧
    (s.countCompute overran).referee = s.referee ∧ (s.countCompute overran).power = s.power ∧ (s.countCompute overran).cfg = s.cfg := by
  unfold State.countCompute State.when
  cases overran with
  | false => simp
  | true =>
    have heffect := State.overrun_effect (s.modFr fun f => { f with ovCompute := true }) Reg.OVERRUN_COUNT.COMPUTE 0
    rw [Bool.or_true]
    exact ⟨heffect.same .fr (by decide), heffect.same .referee (by decide), heffect.same .power (by decide),
      heffect.same .cfg (by decide)⟩

theorem State.countCompute_reads (overran : Bool) : (s.countCompute overran).rd Reg.OVERRUN_COUNT.COMPUTE =
      (if overran then min 65535 (s.rd Reg.OVERRUN_COUNT.COMPUTE + 1) else s.rd Reg.OVERRUN_COUNT.COMPUTE) ∧
    (overran = true → (s.countCompute overran).rd Reg.OVERRUN_LAST.FRAME = s.frameNo % 4294967296 ∧
      (s.countCompute overran).rd Reg.FRAME_EVENT.OVERRUN = 1) := by
  unfold State.countCompute State.when
  cases overran with
  | false => simp
  | true =>
    obtain ⟨hcount, hframe, hevent⟩ := State.overrun_reads (s := s.modFr fun f => { f with ovCompute := true }) (.inl rfl) 0
    exact ⟨hcount, fun _ => ⟨hframe, hevent⟩⟩

/-- What the planes leave at T_COMPUTE_END (R54, R150, R153). -/
theorem State.endPlanes_does {diff overran : Bool} {n : State} (hn : n = s.endPlanes diff overran) :
    n.fr.phase = s.fr.phase ∧ n.fr.ovCompute = (s.fr.ovCompute || overran) ∧ n.referee.ball = s.referee.ball ∧
      n.referee.coast = (if s.referee.ball && !overran then 0 else min 255 (s.referee.coast + 1)) ∧
      n.power.sansGood = s.power.sansGood ∧ n.cfg = s.cfg ∧
      n.rd Reg.OVERRUN_COUNT.COMPUTE =
        (if overran then min 65535 (s.rd Reg.OVERRUN_COUNT.COMPUTE + 1) else s.rd Reg.OVERRUN_COUNT.COMPUTE) ∧
      (overran = true → n.rd Reg.OVERRUN_LAST.FRAME = s.frameNo % 4294967296 ∧ n.rd Reg.FRAME_EVENT.OVERRUN = 1) := by
  subst hn
  unfold State.endPlanes
  extract_lets ball quiet shadow judged held ended counted
  have hended : DeadlineStep s ended :=
    ((DeadlineStep.judgeShadow s diff overran).when fun u => .endPlane u _).when fun u => .endPlane u _
  obtain ⟨hball, hcoast, -⟩ := RefSt.carried_eq hended.carried
  obtain ⟨hphase, -, hcompute, -⟩ := FrameSt.core_eq hended.core
  obtain ⟨hfr, hreferee, hpower, hcfg⟩ := ended.countCompute_parts overran
  obtain ⟨hcount, hlast⟩ := ended.countCompute_reads overran
  have hcounted : counted = ended.countCompute overran := rfl
  have hframe : ended.frameNo = s.frameNo := hended.shown _ (by simp [movesDeadline])
  rw [hended.shown _ (by simp [movesDeadline])] at hcount
  rw [hframe] at hlast
  simp only [State.modRef, State.frameNo, hcounted, hfr, hreferee, hpower, hcfg]
  exact ⟨hphase, congrArg (· || overran) hcompute, hball, by rw [hcoast], hended.power, hended.cfg, hcount, hlast⟩

/-! ### Coasting converters -/

/-- The last thing that a converter does at T_COMPUTE_END: COAST, the longest run of coast frames, and the limit (R194). -/
def State.coastEnd (s : State) (coast : Bool) (c : Nat) : State :=
  let run := if coast then (s.conv c).coastRun + 1 else 0
  let s := s.modConv c fun x => { x with coastRun := run }
  let s := (s.wr Reg.CONV_STATE.COAST (b01 coast) c).wr Reg.CONV_COUNT.COAST_MAX (max (s.rd Reg.CONV_COUNT.COAST_MAX c) (min 255 run)) c
  s.coastLimit c

theorem State.coastEnd_coast (coast : Bool) (c : Nat) {k : Nat} (hk : k < 12) :
    (s.coastEnd coast c).rd Reg.CONV_STATE.COAST k = if k = c then b01 coast else s.rd Reg.CONV_STATE.COAST k := by
  unfold State.coastEnd
  extract_lets run counted shown
  rw [(State.coastLimit_effect shown c).rd _ _ _ (by decide +kernel)]
  refine (State.rd_wr_apart _ _ _ _ _ _ (by decide +kernel)).trans ?_
  split
  · rename_i hsame
    have hhas : Reg.CONV_STATE.COAST.has c 0 = true := by simp [Field.has, Reg.CONV_STATE.COAST, ← hsame, hk]
    rw [hsame]
    exact (State.rd_wr_same _ _ _ _ _ hhas (by decide)).trans (b01_mod coast)
  · rename_i hother
    exact State.wr_keepsOthers counted _ _ (by decide) k hother 0

/-- Every converter declared shows COAST at T_COMPUTE_END (R54). -/
theorem State.latchAll_coast (coast : Bool) :
    ∀ v ∈ s.cfg.convs, v.conv < 12 → (s.latchAll coast).rd Reg.CONV_STATE.COAST v.conv = b01 coast := by
  unfold State.latchAll
  extract_lets coasts latched blocked entered kept
  have hlatched : latched.cfg = s.cfg := State.each_keeps (·.cfg) (fun u a => (State.latchArm_effect ..).same .cfg (by decide)) s
  have hblocked : blocked.cfg = latched.cfg := State.each_keeps (·.cfg) (fun u v => by
    split
    · exact ((State.modConv_effect ..).same .cfg (by decide)).trans ((State.blockConv_effect ..).same .cfg (by decide))
    · rfl) latched
  have hentered : entered.cfg = blocked.cfg := by
    unfold entered
    split
    · rfl
    · exact State.each_keeps (·.cfg) (fun u v => ((State.recordWords_effect ..).same .cfg (by decide)).trans
        (((State.latchWords_effect ..).same .cfg (by decide)).trans ((State.reentry_effect ..).same .cfg (by decide)))) blocked
  have hkept : kept.cfg = entered.cfg := State.each_keeps (·.cfg) (fun u a => by split <;> rfl) entered
  rw [← hlatched, ← hblocked, ← hentered, ← hkept]
  have hends := State.each_forall (I := fun _ => True)
    (P := fun (v : ConvCfg) u => v.conv < 12 → u.rd Reg.CONV_STATE.COAST v.conv = b01 coast)
    (f := fun u v => u.coastEnd coast v.conv) (l := kept.cfg.convs) (s := kept) trivial (fun _ _ _ _ => trivial)
    (fun u _ v _ hv => by rw [State.coastEnd_coast coast _ hv, if_pos rfl])
    (fun u _ v _ w _ hw hconv => by rw [State.coastEnd_coast coast _ hconv, hw hconv, ite_self])
  exact hends.2

/-! ### The deadline -/

theorem State.clocked_of_sansGood {s t : State} (h : t.power.sansGood = s.power.sansGood) (k : Nat) : t.clocked k = s.clocked k := by
  have hlost : t.power.lost = s.power.lost := (congrArg PowerSt.lost h :)
  have hdead : t.power.dead = s.power.dead := (congrArg PowerSt.dead h :)
  simp only [State.clocked, hlost, hdead]

theorem State.computeEnd_refused (diff : Bool) (h : s.timerRuns = false ∨ s.fr.phase ≠ .frozen) : s.computeEnd diff = s :=
  if_pos (by rcases h with h | h <;> simp [h])

/-- What follows the planes at T_COMPUTE_END, in its order (R132, R202). -/
def State.openRankWindow (s : State) (coast : Bool) : State :=
  let s := s.when (s.clocked 1) (·.latchAll coast)
  let s := s.convEnvelopes (s.convCoasts coast)
  let s := s.ckptBegin
  let s := s.when s.referee.writing.isSome (·.ctrlAsk ckptEntry)
  (s.when (s.clocked 1) (·.rankAll coast)).fixShadow

theorem DeadlineStep.openRankWindow (s : State) (coast : Bool) : DeadlineStep s (s.openRankWindow coast) := by
  unfold State.openRankWindow
  extract_lets latched enveloped begun asked
  have hlatched : DeadlineStep s latched := (refl s).when fun u => of (State.latchAll_effect ..)
  have hbegun : DeadlineStep s begun := (hlatched.op (State.convEnvelopes_effect ..)).trans (ckptBegin _)
  have hasked : DeadlineStep s asked := hbegun.when fun u => .ctrlAsk ..
  exact (hasked.when fun u => rankAll ..).trans (fixShadow _)

theorem State.openRankWindow_coast (coast : Bool) (hclock : s.clocked 1 = true) {c : Nat} :
    (s.openRankWindow coast).rd Reg.CONV_STATE.COAST c = (s.latchAll coast).rd Reg.CONV_STATE.COAST c := by
  unfold State.openRankWindow
  extract_lets latched enveloped begun asked
  have hlatched : latched = s.latchAll coast := if_pos hclock
  have hasked : asked.rd Reg.CONV_STATE.COAST c = begun.rd Reg.CONV_STATE.COAST c :=
    State.when_keeps (·.rd Reg.CONV_STATE.COAST c) (fun u => (State.ctrlAsk_effect ..).rd _ _ _ (by decide +kernel)) begun
  rw [(State.fixShadow_effect _).rd _ _ _ (by decide +kernel),
    State.when_keeps (·.rd Reg.CONV_STATE.COAST c) (fun u => (State.rankAll_effect u coast).rd _ _ _ (by decide +kernel)) asked, hasked,
    (State.ckptBegin_effect _).rd _ _ _ (by decide +kernel), (State.convEnvelopes_effect ..).rd _ _ _ (by decide +kernel), hlatched]

theorem State.computeEnd_eq {diff : Bool} (hruns : s.timerRuns = true) (hphase : s.fr.phase = .frozen) :
    s.computeEnd diff =
      (((s.modFr fun f => { f with phase := .computed }).endPlanes diff (s.referee.ball && s.planeRuns s.holder)).openRankWindow
        (!s.referee.ball || (s.referee.ball && s.planeRuns s.holder))).modPower
      fun p => { p with step6 := if p.step6 = 1 then 2 else p.step6 } :=
  if_neg (by simp [hruns, hphase])

/-- What T_COMPUTE_END leaves (R53, R54, R132, R384). -/
theorem State.computeEnd_does {diff : Bool} (hruns : s.timerRuns = true) (hphase : s.fr.phase = .frozen) {overran : Bool}
    (hover : (s.referee.ball && s.planeRuns s.holder) = overran) {n : State} (hn : n = s.computeEnd diff) :
    n.fr.phase = .computed ∧ n.fr.ovCompute = (s.fr.ovCompute || overran) ∧ n.referee.ball = s.referee.ball ∧
      n.referee.coast = (if s.referee.ball && !overran then 0 else min 255 (s.referee.coast + 1)) ∧
      n.power.step6 = (if s.power.step6 = 1 then 2 else s.power.step6) ∧
      n.rd Reg.OVERRUN_COUNT.COMPUTE =
        (if overran then min 65535 (s.rd Reg.OVERRUN_COUNT.COMPUTE + 1) else s.rd Reg.OVERRUN_COUNT.COMPUTE) ∧
      (overran = true → n.rd Reg.OVERRUN_LAST.FRAME = s.frameNo % 4294967296 ∧ n.rd Reg.FRAME_EVENT.OVERRUN = 1) ∧
      (s.clocked 1 = true → ∀ v ∈ s.cfg.convs, v.conv < 12 →
        n.rd Reg.CONV_STATE.COAST v.conv = b01 (!s.referee.ball || overran)) := by
  rw [State.computeEnd_eq hruns hphase, hover] at hn
  let planes := (s.modFr fun f => { f with phase := .computed }).endPlanes diff overran
  obtain ⟨hcomputed, hcompute, hball, hcoast, hpower, hcfg, hcount, hlast⟩ := State.endPlanes_does (n := planes) rfl
  have hopened := DeadlineStep.openRankWindow planes (!s.referee.ball || overran)
  obtain ⟨hball', hcoast', -⟩ := RefSt.carried_eq hopened.carried
  obtain ⟨hphase', -, hcompute', -⟩ := FrameSt.core_eq hopened.core
  have hstep6 : (planes.openRankWindow (!s.referee.ball || overran)).power.step6 = s.power.step6 :=
    (congrArg PowerSt.step6 (hopened.power.trans hpower) :)
  subst hn
  refine ⟨hphase'.trans hcomputed, hcompute'.trans hcompute, hball'.trans hball, hcoast'.trans hcoast, ?_, ?_, fun h => ⟨?_, ?_⟩,
    fun hclock v hv hconv => ?_⟩
  · rw [← hstep6]
    rfl
  · exact (hopened.shown _ (by simp [movesDeadline])).trans hcount
  · exact (hopened.shown _ (by simp [movesDeadline])).trans (hlast h).1
  · exact (hopened.shown _ (by simp [movesDeadline])).trans (hlast h).2
  · have hclocked : planes.clocked 1 = true := (State.clocked_of_sansGood hpower 1).trans hclock
    exact (State.openRankWindow_coast _ hclocked).trans (State.latchAll_coast _ v (by rwa [hcfg]) hconv)

end

end Sys2Proof.Machine
end

section
namespace Sys2Proof.Machine

set_option Elab.async false

/-! ### Bits of a set -/

theorem hasBit_eq_testBit (n i : Nat) : hasBit n i = n.testBit i := by
  rw [Nat.testBit_eq_decide_div_mod_eq, hasBit, bitOf]
  rfl

theorem hasBit_setBit_same (n i : Nat) : hasBit (setBit n i) i = true := by
  unfold setBit
  split
  · assumption
  · rename_i hclear
    rw [hasBit_eq_testBit] at *
    rw [Nat.add_comm, Nat.testBit_two_pow_add_eq]
    simpa using hclear

theorem hasBit_setBit_of {n j : Nat} (i : Nat) (h : hasBit n j = true) : hasBit (setBit n i) j = true := by
  unfold setBit
  split
  · exact h
  · rename_i hclear
    rcases Nat.lt_trichotomy j i with hlt | rfl | hgt
    · rw [hasBit_eq_testBit] at *
      rwa [Nat.add_comm, Nat.testBit_two_pow_add_gt hlt]
    · exact absurd h hclear
    · obtain ⟨k, rfl⟩ := Nat.exists_eq_add_of_lt hgt
      have hdiv : ∀ m, m / 2 ^ (i + k + 1) = m / 2 ^ i / 2 / 2 ^ k := fun m => by
        rw [Nat.div_div_eq_div_mul, Nat.div_div_eq_div_mul]
        congr 1
        ring
      simp only [hasBit, bitOf, beq_iff_eq] at *
      rw [hdiv, Nat.add_div_right _ (by positivity)]
      rw [hdiv] at h
      rwa [show (n / 2 ^ i).succ / 2 = n / 2 ^ i / 2 by omega]

theorem hasBit_foldl_setBit_of {n j : Nat} {l : List Nat} (h : hasBit n j = true) : hasBit (l.foldl setBit n) j = true := by
  induction l generalizing n with
  | nil => exact h
  | cons i l ih => exact ih (hasBit_setBit_of i h)

theorem hasBit_foldl_setBit {n : Nat} {l : List Nat} {j : Nat} (hj : j ∈ l) : hasBit (l.foldl setBit n) j = true := by
  induction l generalizing n with
  | nil => exact absurd hj List.not_mem_nil
  | cons i l ih =>
    rcases List.mem_cons.mp hj with rfl | hj
    · exact hasBit_foldl_setBit_of (l := l) (hasBit_setBit_same n j)
    · exact ih hj

/-! ### T_RANK_END: arms that are late -/

section
variable {s : State}

theorem State.cancelShadow_writing : s.cancelShadow.referee.writing = s.referee.writing := by
  unfold State.cancelShadow
  split
  · rfl
  · have hended : ∀ outcome role, (s.endShadow outcome role).referee.writing = s.referee.writing := fun outcome role => by
      unfold State.endShadow
      extract_lets cold
      have hcold : cold.referee = s.referee := (State.wr_referee ..).trans ((State.setRole_effect ..).same .referee (by decide))
      rw [State.wr_referee]
      exact (congrArg RefSt.writing hcold : cold.referee.writing = s.referee.writing)
    extract_lets ended
    have hshown : ended.referee = (s.endShadow 2 _).referee := State.wr_referee ..
    split
    · rw [hshown, hended]
    · exact (congrArg RefSt.writing hshown).trans (hended ..)

/-- The slots of the late arms repeat (R55). -/
def State.repeatLate (s : State) (late : List Nat) : State :=
  (s.modFr fun f => { f with repeatArms := late.foldl setBit f.repeatArms }).each late fun s a => (s.discardRank a).showRepeat a

theorem State.repeatLate_effect (late : List Nat) : Effect [.arms] (some (State.discardRank_fields.getD [] ++ [Reg.ARM_STATUS.FLAGS]))
    (s.modFr fun f => { f with repeatArms := late.foldl setBit f.repeatArms }) (s.repeatLate late) := by
  refine Effect.each (.refl ..) fun u a => ?_
  exact Effect.after (State.showRepeat_effect ..) (by decide +kernel) ((State.discardRank_effect ..).widen (by decide +kernel))

/-- A rank overrun of the ball holder's frame (R53, R56). -/
def State.countRank (s : State) : State :=
  ((s.modFr fun f => { f with ovRank := true }).overrun Reg.OVERRUN_COUNT.RANK (if s.fr.ovCompute then 2 else 1)).cancelShadow

theorem State.countRank_does : s.countRank.fr = { s.fr with ovRank := true } ∧ s.countRank.referee.carried = s.referee.carried ∧
    s.countRank.referee.writing = s.referee.writing ∧ s.countRank.cfg = s.cfg ∧
    s.countRank.rd Reg.OVERRUN_COUNT.RANK = min 65535 (s.rd Reg.OVERRUN_COUNT.RANK + 1) ∧
    (∀ f ∈ [Reg.REF_STATUS.LEASE, Reg.POWER_STATE.STATE], s.countRank.rd f = s.rd f) := by
  let told := s.modFr fun f => { f with ovRank := true }
  let counted := told.overrun Reg.OVERRUN_COUNT.RANK (if s.fr.ovCompute then 2 else 1)
  have hcount := (State.overrun_reads (s := told) (.inr rfl) (if s.fr.ovCompute then 2 else 1)).1
  have hcounted := told.overrun_effect Reg.OVERRUN_COUNT.RANK (if s.fr.ovCompute then 2 else 1)
  have hcancel := DeadlineStep.cancelShadow counted
  have hreferee : counted.referee = s.referee := hcounted.same .referee (by decide)
  refine ⟨((State.cancelShadow_effect counted).frSame).trans hcounted.frSame, hcancel.carried.trans (congrArg RefSt.carried hreferee),
    counted.cancelShadow_writing.trans (congrArg RefSt.writing hreferee), hcancel.cfg.trans (hcounted.same .cfg (by decide)),
    (hcancel.shown _ (by simp [movesDeadline])).trans hcount, fun f hf => ?_⟩
  have hmoves : f ∈ movesDeadline := by revert f; decide +kernel
  exact (hcancel.shown f hmoves).trans (hcounted.rd f 0 0 (by revert f; decide +kernel))

theorem State.rankOverrun_eq {all late : List Nat} (hlate : late = all.filter fun a => (s.armCfg a).isSome) : s.rankOverrun all =
    if late.isEmpty || !(s.repeatLate late).referee.ball then s.repeatLate late else (s.repeatLate late).countRank := by
  subst hlate
  rfl

/-- What the arms that are late leave (R53, R55, R56); `late` are those that are declared. -/
theorem State.rankOverrun_does {all late : List Nat} (hlate : late = all.filter fun a => (s.armCfg a).isSome) {overran : Bool}
    (hover : overran = (!late.isEmpty && s.referee.ball)) {n : State} (hn : n = s.rankOverrun all) :
    n.fr = { s.fr with repeatArms := late.foldl setBit s.fr.repeatArms, ovRank := s.fr.ovRank || overran } ∧
      n.referee.carried = s.referee.carried ∧ n.referee.writing = s.referee.writing ∧ n.cfg = s.cfg ∧
      n.rd Reg.OVERRUN_COUNT.RANK = (if overran then min 65535 (s.rd Reg.OVERRUN_COUNT.RANK + 1) else s.rd Reg.OVERRUN_COUNT.RANK) ∧
      (∀ f ∈ [Reg.REF_STATUS.LEASE, Reg.POWER_STATE.STATE], n.rd f = s.rd f) := by
  let repeated := s.repeatLate late
  have heffect := s.repeatLate_effect late
  have hreferee : repeated.referee = s.referee := heffect.same .referee (by decide)
  have hrd : ∀ f ∈ [Reg.REF_STATUS.LEASE, Reg.POWER_STATE.STATE, Reg.OVERRUN_COUNT.RANK], repeated.rd f = s.rd f :=
    fun f hf => heffect.rd f 0 0 (by revert f; decide +kernel)
  have hnone : (late.isEmpty || !repeated.referee.ball) = !overran := by
    rw [hreferee, hover, Bool.not_and, Bool.not_not]
  rw [State.rankOverrun_eq hlate, hnone] at hn
  cases overran with
  | false =>
    have hquiet : n = repeated := hn.trans (if_pos rfl)
    rw [hquiet, Bool.or_false]
    exact ⟨heffect.frSame, congrArg RefSt.carried hreferee, congrArg RefSt.writing hreferee, heffect.same .cfg (by decide),
      hrd _ (by simp), fun f hf => hrd f (by revert f; decide +kernel)⟩
  | true =>
    have hcounts : n = repeated.countRank := hn.trans (if_neg (by decide))
    obtain ⟨hfr, hcarried, hwriting, hcfg, hcount, hkept⟩ := repeated.countRank_does
    rw [hcounts, Bool.or_true]
    refine ⟨?_, hcarried.trans (congrArg RefSt.carried hreferee), hwriting.trans (congrArg RefSt.writing hreferee),
      hcfg.trans (heffect.same .cfg (by decide)), ?_, fun f hf => (hkept f hf).trans (hrd f (by revert f; decide +kernel))⟩
    · rw [hfr, show repeated.fr = _ from heffect.frSame]
      rfl
    · rw [hcount, hrd _ (by simp)]
      rfl

/-! ### T_RANK_END: the lease -/

theorem State.leaseEnd_holder {overran : Bool} (hball : s.referee.ball = true) {n : State} (hn : n = s.leaseEnd overran) :
    n.referee.ball = true ∧ n.referee.renewed = (!overran && s.referee.writing.isSome && s.referee.heartbeat) ∧
      n.rd Reg.REF_STATUS.LEASE = (if n.referee.renewed then s.cfg.limits.lease else s.rd Reg.REF_STATUS.LEASE - 1) % 32 := by
  subst hn
  unfold State.leaseEnd
  rw [if_neg (by simp [hball])]
  extract_lets committed stored ok left
  have hstored := DeadlineStep.ckptCommit s
  obtain ⟨hball', -, hheartbeat⟩ := RefSt.carried_eq hstored.carried
  have hok : ok = (!overran && s.referee.writing.isSome && s.referee.heartbeat) :=
    congrArg (!overran && s.referee.writing.isSome && ·) hheartbeat
  have hleft : left = if ok then s.cfg.limits.lease else s.rd Reg.REF_STATUS.LEASE - 1 := by
    unfold left
    rw [hstored.shown Reg.REF_STATUS.LEASE (by simp [movesDeadline]), show stored.cfg = s.cfg from hstored.cfg]
  refine ⟨?_, hok, ?_⟩
  · simp only [State.modRef, State.wr_referee]
    exact hball'.trans hball
  · exact (stored.rd_wr_same _ left _ _ rfl (by decide)).trans (congrArg (· % 32) hleft)

theorem State.leaseEnd_none {overran : Bool} (hball : s.referee.ball = false) :
    s.leaseEnd overran = s.modRef fun r => { r with renewed := false } := if_pos (by simp [hball])

/-! ### T_RANK_END: the planner -/

/-- What a deadline and the planner's history leave of a frame. -/
def FrameSt.judged (f : FrameSt) : Phase × Bool × Nat × List (Nat × Nat) := (f.phase, f.ovRank, f.repeatArms, f.history)

theorem State.planMoves_judged : s.planMoves.fr.judged = s.fr.judged := by
  unfold State.planMoves
  extract_lets cur cap switched capped eff t
  have hswitched : switched.fr.judged = s.fr.judged := by
    unfold switched
    split <;> rfl
  have hcapped : capped.fr.judged = switched.fr.judged := by
    unfold capped
    split <;> rfl
  rw [← hswitched, ← hcapped]
  simp only [State.modFr]
  split
  · rfl
  · split <;> rfl

theorem State.planEvaluate_judged (need : Nat) (overran ball : Bool) : (s.planEvaluate need overran ball).fr.judged =
    (s.fr.phase, s.fr.ovRank, s.fr.repeatArms, if ball then ((s.fr.engNeed, need) :: s.fr.history).take 64 else s.fr.history) := by
  unfold State.planEvaluate
  rw [State.planMoves_judged, (State.showTarget_effect _).frSame]
  rfl

/-- What follows the lease at T_RANK_END, in its order (R199). -/
def State.closeRank (s : State) (need : Nat) (overran ball refIn : Bool) (mw : Nat) : State :=
  let s := s.retire
  let s := (s.sampleRefIn refIn).pairSend
  let s := s.when (s.device == stRun) (·.planEvaluate need overran ball)
  s.armOutDeadline.wr Reg.PLAN_POWER.MEASURED (min 65535 mw)

theorem State.closeRank_does {need mw : Nat} {overran ball refIn : Bool} {n : State} (hn : n = s.closeRank need overran ball refIn mw) :
    n.referee = s.referee ∧ n.fr.phase = s.fr.phase ∧ n.fr.ovRank = s.fr.ovRank ∧ n.fr.repeatArms = s.fr.repeatArms ∧
      (s.device = stRun → n.fr.history = if ball then ((s.fr.engNeed, need) :: s.fr.history).take 64 else s.fr.history) ∧
      n.rd Reg.PLAN_POWER.MEASURED = min 65535 mw ∧ (∀ f ∈ [Reg.REF_STATUS.LEASE, Reg.OVERRUN_COUNT.RANK], n.rd f = s.rd f) := by
  subst hn
  unfold State.closeRank
  extract_lets retired sent planned
  have hretired := State.retire_effect s
  have hsampled := State.sampleRefIn_effect retired refIn
  have hsent := State.pairSend_effect (retired.sampleRefIn refIn)
  have hfr : sent.fr = s.fr := hsent.frSame.trans (hsampled.frSame.trans hretired.frSame)
  have hreferee : sent.referee = s.referee :=
    (hsent.same .referee (by decide)).trans ((hsampled.same .referee (by decide)).trans (hretired.same .referee (by decide)))
  have hrd : ∀ f ∈ [Reg.REF_STATUS.LEASE, Reg.OVERRUN_COUNT.RANK, Reg.POWER_STATE.STATE], sent.rd f = s.rd f := fun f hf =>
    (hsent.rd f 0 0 (by revert f; decide +kernel)).trans
      ((hsampled.rd f 0 0 (by revert f; decide +kernel)).trans (hretired.rd f 0 0 (by revert f; decide +kernel)))
  have hplanned : Effect State.planEvaluate_touch State.planEvaluate_fields sent planned :=
    .when (.refl ..) fun u => State.planEvaluate_effect ..
  have hout := State.armOutDeadline_effect planned
  have hjudged : planned.fr.judged = if s.device = stRun then (s.fr.phase, s.fr.ovRank, s.fr.repeatArms,
      if ball then ((s.fr.engNeed, need) :: s.fr.history).take 64 else s.fr.history) else s.fr.judged := by
    unfold planned State.when
    rw [show sent.device = s.device from hrd _ (by simp)]
    by_cases hrun : s.device = stRun
    · rw [if_pos hrun, if_pos (by simp [hrun]), State.planEvaluate_judged, hfr]
    · rw [if_neg hrun, if_neg (by simp [hrun]), hfr]
  have hparts : planned.fr.phase = s.fr.phase ∧ planned.fr.ovRank = s.fr.ovRank ∧ planned.fr.repeatArms = s.fr.repeatArms ∧
      (s.device = stRun → planned.fr.history = if ball then ((s.fr.engNeed, need) :: s.fr.history).take 64 else s.fr.history) := by
    simp only [FrameSt.judged] at hjudged
    split at hjudged <;> simp_all
  obtain ⟨hphase, hrank, hrepeat, hhistory⟩ := hparts
  rw [State.wr_fr, State.wr_referee, hout.frSame, hout.same .referee (by decide), hplanned.same .referee (by decide)]
  refine ⟨hreferee, hphase, hrank, hrepeat, hhistory, ?_, fun f hf => ?_⟩
  · refine (State.rd_wr_same _ _ _ _ _ rfl (by decide)).trans (Nat.mod_eq_of_lt ?_)
    exact lt_of_le_of_lt (min_le_left 65535 mw) (by decide)
  · rw [State.rd_wr_apart _ _ _ _ _ _ (by revert f; decide +kernel), hout.rd f 0 0 (by revert f; decide +kernel),
      hplanned.rd f 0 0 (by revert f; decide +kernel)]
    exact hrd f (by revert f; decide +kernel)

/-! ### T_RANK_END -/

/-- T_RANK_END before the lease: the arms that are late, and the entries of those that have finished (R48, R55). -/
def State.rankCounted (s : State) (late : List Nat) : State :=
  ((s.modFr fun f => { f with phase := .ranked }).rankOverrun late).ctrlDone fun e => decide (24 ≤ e.owner)

theorem State.rankEnd_eq (cycles late : List Nat) (refIn : Bool) (mw : Nat) (hruns : s.timerRuns = true) (hphase : s.fr.phase = .computed) :
    s.rankEnd cycles late refIn mw =
      ((s.rankCounted late).leaseEnd ((s.rankCounted late).fr.ovCompute || (s.rankCounted late).fr.ovRank)).closeRank (cycles.foldl max 0)
        ((s.rankCounted late).fr.ovCompute || (s.rankCounted late).fr.ovRank) s.referee.ball refIn mw := by
  unfold State.rankEnd
  rw [if_neg (by simp [hruns, hphase])]
  rfl

theorem State.rankEnd_refused (cycles late : List Nat) (refIn : Bool) (mw : Nat) (h : s.timerRuns = false ∨ s.fr.phase ≠ .computed) :
    s.rankEnd cycles late refIn mw = s :=
  if_pos (by rcases h with h | h <;> simp [h])

theorem State.rankCounted_does {all late : List Nat} (hlate : late = all.filter fun a => (s.armCfg a).isSome) {overran : Bool}
    (hover : overran = (!late.isEmpty && s.referee.ball)) {n : State} (hn : n = s.rankCounted all) :
    n.fr.sansCtrl =
        { s.fr with phase := .ranked, repeatArms := late.foldl setBit s.fr.repeatArms, ovRank := s.fr.ovRank || overran }.sansCtrl ∧
      n.referee.carried = s.referee.carried ∧ n.referee.writing = s.referee.writing ∧ n.cfg = s.cfg ∧
      n.rd Reg.OVERRUN_COUNT.RANK = (if overran then min 65535 (s.rd Reg.OVERRUN_COUNT.RANK + 1) else s.rd Reg.OVERRUN_COUNT.RANK) ∧
      (∀ f ∈ [Reg.REF_STATUS.LEASE, Reg.POWER_STATE.STATE], n.rd f = s.rd f) := by
  subst hn
  let counted := (s.modFr fun f => { f with phase := .ranked }).rankOverrun all
  obtain ⟨hfr, hcarried, hwriting, hcfg, hcount, hkept⟩ :=
    State.rankOverrun_does (s := s.modFr fun f => { f with phase := .ranked }) hlate hover (n := counted) rfl
  have hdone := State.ctrlDone_effect counted fun e => decide (24 ≤ e.owner)
  have hreferee : (s.rankCounted all).referee = counted.referee := hdone.same .referee (by decide)
  refine ⟨(counted.ctrlDone_sansCtrl _).trans (congrArg FrameSt.sansCtrl hfr), ?_, ?_, (hdone.same .cfg (by decide)).trans hcfg,
    (hdone.rd _ _ _ (by decide +kernel)).trans hcount, fun f hf => (hdone.rd f 0 0 (by revert f; decide +kernel)).trans (hkept f hf)⟩
  · rw [hreferee, hcarried]
    rfl
  · rw [hreferee, hwriting]
    rfl

section
variable {cycles all late : List Nat} {refIn : Bool} {mw : Nat} {n : State} (hruns : s.timerRuns = true) (hphase : s.fr.phase = .computed)
  (hlate : late = all.filter fun a => (s.armCfg a).isSome) (hn : n = s.rankEnd cycles all refIn mw)
include hruns hphase hlate hn

/-- What T_RANK_END leaves of a frame whose plane holds the ball (R53, R55, R56, R199). -/
theorem State.rankEnd_holder (hball : s.referee.ball = true) :
    n.fr.phase = .ranked ∧ n.referee.ball = true ∧ n.rd Reg.PLAN_POWER.MEASURED = min 65535 mw ∧
      n.fr.ovRank = (s.fr.ovRank || !late.isEmpty) ∧
      n.fr.repeatArms = late.foldl setBit s.fr.repeatArms ∧
      n.referee.renewed = (!s.fr.ovCompute && !n.fr.ovRank && s.referee.writing.isSome && s.referee.heartbeat) ∧
      n.rd Reg.REF_STATUS.LEASE = (if n.referee.renewed then s.cfg.limits.lease else s.rd Reg.REF_STATUS.LEASE - 1) % 32 ∧
      n.rd Reg.OVERRUN_COUNT.RANK = (if !late.isEmpty then min 65535 (s.rd Reg.OVERRUN_COUNT.RANK + 1) else s.rd Reg.OVERRUN_COUNT.RANK) ∧
      (s.device = stRun → n.fr.history = ((s.fr.engNeed, cycles.foldl max 0) :: s.fr.history).take 64) := by
  rw [State.rankEnd_eq _ _ _ _ hruns hphase] at hn
  let counted := s.rankCounted all
  obtain ⟨hfr, hcarried, hwriting, hcfg, hcount, hkept⟩ :=
    s.rankCounted_does hlate (overran := !late.isEmpty) (by rw [hball, Bool.and_true]) (n := counted) rfl
  obtain ⟨hball', -, hheartbeat⟩ := RefSt.carried_eq hcarried
  let leased := counted.leaseEnd (counted.fr.ovCompute || counted.fr.ovRank)
  have hlease := State.leaseEnd_effect counted (counted.fr.ovCompute || counted.fr.ovRank)
  obtain ⟨hholds, hrenewed, hleft⟩ := counted.leaseEnd_holder (hball'.trans hball) (n := leased) rfl
  obtain ⟨hreferee, hranked, hrank, hrepeat, hhistory, hpower, hread⟩ := State.closeRank_does (s := leased) hn
  have hleasedFr : leased.fr = counted.fr := hlease.frSame
  have hdevice : leased.device = s.device :=
    (hlease.rd Reg.POWER_STATE.STATE 0 0 (by decide +kernel)).trans (hkept _ (by simp))
  have hcompute : counted.fr.ovCompute = s.fr.ovCompute := (congrArg FrameSt.ovCompute hfr :)
  have hover : counted.fr.ovRank = (s.fr.ovRank || !late.isEmpty) := (congrArg FrameSt.ovRank hfr :)
  have hneed : counted.fr.engNeed = s.fr.engNeed := (congrArg FrameSt.engNeed hfr :)
  have hold : counted.fr.history = s.fr.history := (congrArg FrameSt.history hfr :)
  rw [hleasedFr] at hranked hrank hrepeat hhistory
  rw [hdevice, hball, hneed, hold] at hhistory
  have hrenewed' : n.referee.renewed = (!s.fr.ovCompute && !n.fr.ovRank && s.referee.writing.isSome && s.referee.heartbeat) := by
    rw [hreferee, hrenewed, hwriting, hheartbeat, hrank, hcompute, Bool.not_or]
  refine ⟨hranked.trans (congrArg FrameSt.phase hfr :), (congrArg RefSt.ball hreferee).trans hholds, hpower, hrank.trans hover,
    hrepeat.trans (congrArg FrameSt.repeatArms hfr :), hrenewed', ?_, ?_, hhistory⟩
  · rw [hread _ (by simp), hleft, hreferee, hcfg, hkept _ (by simp)]
  · rw [hread _ (by simp), hlease.rd _ _ _ (by decide +kernel), hcount]

/-- A frame without a ball renews no lease, and counts no overrun (R199). -/
theorem State.rankEnd_none (hball : s.referee.ball = false) :
    n.fr.phase = .ranked ∧ n.rd Reg.REF_STATUS.LEASE = s.rd Reg.REF_STATUS.LEASE ∧ n.referee.renewed = false ∧
      n.rd Reg.OVERRUN_COUNT.RANK = s.rd Reg.OVERRUN_COUNT.RANK := by
  rw [State.rankEnd_eq _ _ _ _ hruns hphase] at hn
  let counted := s.rankCounted all
  obtain ⟨hfr, hcarried, -, -, hcount, hkept⟩ :=
    s.rankCounted_does hlate (overran := false) (by rw [hball, Bool.and_false]) (n := counted) rfl
  obtain ⟨hball', -, -⟩ := RefSt.carried_eq hcarried
  rw [State.leaseEnd_none (hball'.trans hball)] at hn
  obtain ⟨hreferee, hranked, -, -, -, -, hread⟩ := State.closeRank_does hn
  exact ⟨hranked.trans (congrArg FrameSt.phase hfr :), (hread _ (by simp)).trans (hkept _ (by simp)), congrArg RefSt.renewed hreferee,
    (hread _ (by simp)).trans hcount⟩

end

end

end Sys2Proof.Machine
end

section
namespace Sys2Proof.Machine

set_option Elab.async false

/-! ### The two deadlines at their commands' instants -/

theorem State.elapse_planeRuns (s : State) (t p : Nat) : (s.elapse t).planeRuns p = s.planeRuns p := by
  simp only [State.planeRuns, State.eng, State.elapse_engs]

theorem State.elapse_holder (s : State) (t : Nat) : (s.elapse t).holder = s.holder := s.elapse_rd t _ 0 0 (by decide +kernel)

theorem State.elapse_clocked (s : State) (t k : Nat) : (s.elapse t).clocked k = s.clocked k :=
  State.clocked_of_sansGood (congrArg PowerSt.sansGood (s.elapse_power t)) k

theorem State.elapse_armCfg (s : State) (t a : Nat) : (s.elapse t).armCfg a = s.armCfg a := by
  simp only [State.armCfg, State.elapse_cfg]

theorem exec_tComputeEnd (s : State) (d : Bool) (t : Nat) : exec (.tComputeEnd t d) s = done ((s.elapse t).computeEnd d) := rfl

theorem exec_tRankEnd (s : State) (c : List Nat) (l : List (Fin 12)) (r : Bool) (mw t : Nat) :
    exec (.tRankEnd t c l r mw) s = done ((s.elapse t).rankEnd c (l.map (·.val)) r mw) := rfl

/-- Some late arm is declared (R55). -/
theorem State.lateArms_isEmpty (s : State) (l : List (Fin 12)) :
    ((l.map (·.val)).filter fun a => (s.armCfg a).isSome).isEmpty = !(l.any fun a => (s.armCfg a.val).isSome) := by
  induction l with
  | nil => rfl
  | cons a l ih => cases h : (s.armCfg a.val).isSome <;> simp_all

/-- Settles O14: the planes' end and the rank deadline are followed in the order of R53 to R56 and R199, at an instant that moves nothing
that they are judged by. -/
theorem frameEndsWithLeaseOrOverrun : Obligations.FrameEndsWithLeaseOrOverrun := by
  unfold Obligations.FrameEndsWithLeaseOrOverrun
  refine ⟨?compute, ?noCompute, ?holder, ?coast, ?noRank⟩
  case compute =>
    intro s d t hruns hphase
    let e := s.elapse t
    have hfr : e.fr = s.fr := s.elapse_fr t (State.sdRuns_of_timerRuns hruns)
    have href : e.referee = s.referee := s.elapse_referee t
    have hover : (e.referee.ball && e.planeRuns e.holder) = (s.referee.ball && s.planeRuns s.holder) := by
      rw [href, s.elapse_holder, s.elapse_planeRuns]
    obtain ⟨hcomputed, hcompute, hball, hcoast, hstep6, hcount, hlast, hconvs⟩ :=
      State.computeEnd_does (diff := d) ((s.elapse_timerRuns t).trans hruns) ((congrArg FrameSt.phase hfr).trans hphase) hover rfl
    have hrd : ∀ f ∈ [Reg.OVERRUN_COUNT.COMPUTE, Reg.FRAME_NO.FRAME_NO], e.rd f = s.rd f :=
      fun f hf => s.elapse_rd t f 0 0 (by revert f; decide +kernel)
    rw [hfr] at hcompute
    rw [href] at hball hcoast hconvs
    rw [hrd _ (by simp)] at hcount
    refine ⟨_, exec_tComputeEnd s d t, ?_, ?_, ?_, ?_, fun h => ⟨?_, ?_⟩, ?_, fun hclock v hv hconv => ?_, ?_,
      Effect.of_exec (execTComputeEnd_effect ..) (exec_tComputeEnd s d t) (by decide) (by decide +kernel)⟩
    · rw [State.settle_fr, hcomputed]
    · rw [State.settle_referee, hball]
    · rw [State.settle_fr, hcompute]
    · rw [State.settle_rd _ _ _ _ (by decide +kernel), hcount]
    · rw [State.settle_rd _ _ _ _ (by decide +kernel), (hlast h).1, s.elapse_frameNo]
    · rw [State.settle_rd _ _ _ _ (by decide +kernel), (hlast h).2]
    · rw [State.settle_referee, hcoast]
      cases s.referee.ball <;> rfl
    · rw [State.settle_rd _ _ _ _ (by decide +kernel), hconvs ((s.elapse_clocked t 1).trans hclock) v (by rwa [s.elapse_cfg]) hconv]
      cases s.referee.ball <;> rfl
    · rw [State.settle_power, hstep6, s.elapse_power]
  case noCompute =>
    intro s d t h
    have hrefused := (s.elapse t).computeEnd_refused d (by rwa [s.elapse_timerRuns, s.elapse_phase])
    exact ⟨_, (exec_tComputeEnd s d t).trans (congrArg done hrefused), s.elapse_settle_effect t⟩
  case holder =>
    intro s c l r mw t hruns hphase hball
    let e := s.elapse t
    have hfr : e.fr = s.fr := s.elapse_fr t (State.sdRuns_of_timerRuns hruns)
    have href : e.referee = s.referee := s.elapse_referee t
    obtain ⟨hranked, hholds, hpower, hrank, hrepeat, hrenewed, hlease, hcount, hhistory⟩ :=
      State.rankEnd_holder (s := e) (cycles := c) (all := l.map (·.val)) (refIn := r) (mw := mw) ((s.elapse_timerRuns t).trans hruns)
        ((congrArg FrameSt.phase hfr).trans hphase) rfl rfl ((congrArg RefSt.ball href).trans hball)
    rw [e.lateArms_isEmpty, Bool.not_not] at hrank hcount
    simp only [e, s.elapse_armCfg] at hrank hcount hrepeat
    rw [s.elapse_rd t _ 0 0 (by decide +kernel)] at hcount hlease
    rw [show (s.elapse t).fr = s.fr from hfr] at hrank hrepeat
    rw [hfr, href] at hrenewed
    rw [hfr] at hhistory
    refine ⟨_, exec_tRankEnd s c l r mw t, ?_, ?_, ?_, ?_, fun a ha hsome => ?_, ?_, ?_, ?_, fun hrun => ?_,
      Effect.of_exec (execTRankEnd_effect ..) (exec_tRankEnd s c l r mw t) (by decide) (by decide +kernel)⟩
    · rw [State.settle_fr, hranked]
    · rw [State.settle_referee, hholds]
    · rw [State.settle_rd _ _ _ _ (by decide +kernel), hpower]
    · rw [State.settle_fr, hrank]
    · rw [State.settle_fr, hrepeat]
      exact hasBit_foldl_setBit (List.mem_filter.mpr ⟨List.mem_map_of_mem ha, hsome⟩)
    · rw [State.settle_referee, State.settle_fr, hrenewed]
    · rw [State.settle_rd _ _ _ _ (by decide +kernel), State.settle_referee, hlease, s.elapse_cfg]
    · rw [State.settle_rd _ _ _ _ (by decide +kernel), hcount]
    · rw [State.settle_fr, hhistory ((s.elapse_device t).trans hrun)]
  case coast =>
    intro s c l r mw t hruns hphase hball
    let e := s.elapse t
    have hfr : e.fr = s.fr := s.elapse_fr t (State.sdRuns_of_timerRuns hruns)
    obtain ⟨hranked, hlease, hrenewed, hcount⟩ :=
      State.rankEnd_none (s := e) (cycles := c) (all := l.map (·.val)) (refIn := r) (mw := mw) ((s.elapse_timerRuns t).trans hruns)
        ((congrArg FrameSt.phase hfr).trans hphase) rfl rfl ((congrArg RefSt.ball (s.elapse_referee t)).trans hball)
    refine ⟨_, exec_tRankEnd s c l r mw t, ?_, ?_, ?_, ?_⟩
    · rw [State.settle_fr, hranked]
    · rw [State.settle_rd _ _ _ _ (by decide +kernel), hlease, s.elapse_rd t _ 0 0 (by decide +kernel)]
    · rw [State.settle_referee, hrenewed]
    · rw [State.settle_rd _ _ _ _ (by decide +kernel), hcount, s.elapse_rd t _ 0 0 (by decide +kernel)]
  case noRank =>
    intro s c l r mw t h
    have hrefused := (s.elapse t).rankEnd_refused c (l.map (·.val)) r mw (by rwa [s.elapse_timerRuns, s.elapse_phase])
    exact ⟨_, (exec_tRankEnd s c l r mw t).trans (congrArg done hrefused), s.elapse_settle_effect t⟩

end Sys2Proof.Machine
end

section
namespace Sys2Proof.Machine

set_option Elab.async false

/-! ### A reason that is wider than its field -/

/-- A device whose background dispatch has ended for the frame, with a reason in the register store that its three bits cannot hold. -/
def overwideReason : State :=
  let s : State := { State.reset with fr := { (default : FrameSt) with bgOver := true } }
  { s with regs := Tbl.put (Reg.PLAN_BG_STATUS.STOPPED_BY.reset 0) s.regs (Reg.PLAN_BG_STATUS.STOPPED_BY.key 0 0) 9 }

/-- The reason is written again, cut to the field's width. -/
theorem overwideReason_dispatched :
    ((overwideReason.elapse 0).background [] 0).settle.rd Reg.PLAN_BG_STATUS.STOPPED_BY = 1 := by
  decide +kernel

/-- Refutes O15: in the seventh clause a dispatch after a refused unit writes the reason shown once more, and a write cuts it to three
bits (R61). The clause ranges over every state, also over one whose register store holds a wider number there, 9 in `overwideReason`: it
reads 1 afterwards. -/
theorem not_plannerKeepsPeriodLevelAndBudget : ¬ Obligations.PlannerKeepsPeriodLevelAndBudget := by
  unfold Obligations.PlannerKeepsPeriodLevelAndBudget
  rintro ⟨-, -, -, -, -, -, hover, -⟩
  obtain ⟨n, hexec, -, hreason⟩ := hover overwideReason ⟨[], 0⟩ 0 (by decide +kernel) (by decide +kernel)
  have hwide : overwideReason.rd Reg.PLAN_BG_STATUS.STOPPED_BY = 9 := by decide +kernel
  obtain rfl : ((overwideReason.elapse 0).background [] 0).settle = n := Host.Outcome.next.inj hexec
  rw [overwideReason_dispatched, hwide] at hreason
  exact absurd hreason (by decide)

end Sys2Proof.Machine
end

section
namespace Sys2Proof.Machine

set_option Elab.async false

/-! ### Key fuses (R79) -/

theorem State.elapse_keyData (s : State) (t : Nat) : (s.elapse t).keyData = s.keyData := by
  have hrd : ∀ i, (s.elapse t).rd Reg.KEY_DATA.HASH i = s.rd Reg.KEY_DATA.HASH i := fun i => s.elapse_rd t _ i 0 (by decide +kernel)
  simp only [State.keyData, hrd]

section
variable {s : State} {f : State → State} {slot unlock : Nat}

/-- KEY_CMD acts in KICK-OFF before an image is accepted, with the unlock word and no operation under way. -/
theorem State.keyCmd_acts (hheld : s.power.held = false) (hfuse : s.load.fuse = none) (hdevice : s.device = stKickOff)
    (haccepted : s.load.accepted = false) : s.keyCmd 0xA5C3 f = f s := by
  simp [State.keyCmd, hheld, hfuse, hdevice, haccepted]

theorem State.fuseResult_load (r : Nat) : (s.fuseResult r).load = s.load := State.wr_load ..

theorem State.fuseResult_fuses (r : Nat) : (s.fuseResult r).fuses = s.fuses := State.wr_fuses ..

/-- At any other time KEY_CMD reports that it is not allowed, or does nothing. -/
theorem State.keyCmd_refused (h : unlock ≠ 0xA5C3 ∨ s.power.held = true ∨ s.load.fuse.isSome = true ∨ s.device ≠ stKickOff ∨
    s.load.accepted = true) : s.keyCmd unlock f = s ∨ s.keyCmd unlock f = s.fuseResult 3 := by
  unfold State.keyCmd
  split
  · exact .inl rfl
  · rename_i hacts
    simp only [not_or] at hacts
    obtain ⟨hunlock, hheld, hfuse⟩ := hacts
    exact .inr (if_pos (by tauto))

theorem State.keyProgram_does : (s.keyProgram slot).fuses = s.fuses ∧
    (s.load.fuse = none → (s.keyProgram slot).load.fuse =
      if (s.fuses.slot slot).hash.isSome then none else some (.program slot s.keyData)) ∧
    (s.keyProgram slot).rd Reg.KEY_STATUS.BUSY = (if (s.fuses.slot slot).hash.isSome then s.rd Reg.KEY_STATUS.BUSY else 1) ∧
    (s.keyProgram slot).rd Reg.KEY_STATUS.RESULT = if (s.fuses.slot slot).hash.isSome then 1 else s.rd Reg.KEY_STATUS.RESULT := by
  unfold State.keyProgram
  by_cases hfull : (s.fuses.slot slot).hash.isSome = true
  · simp only [if_pos hfull]
    exact ⟨State.fuseResult_fuses 1, fun hfuse => (congrArg LoadSt.fuse (State.fuseResult_load 1)).trans hfuse,
      State.rd_wr_apart _ _ _ _ _ _ (by decide +kernel), State.rd_wr_same _ _ _ _ _ rfl (by decide)⟩
  · simp only [if_neg hfull]
    exact ⟨State.wr_fuses .., fun _ => congrArg LoadSt.fuse (State.wr_load ..), State.rd_wr_same _ _ _ _ _ rfl (by decide),
      State.rd_wr_apart _ _ _ _ _ _ (by decide +kernel)⟩

/-- A revoke operation starts while another slot is left unrevoked. -/
theorem State.keyRevoke_does : (s.keyRevoke slot).fuses = s.fuses ∧
    (s.load.fuse = none → (s.keyRevoke slot).load.fuse =
      if (upTo 4).any (fun j => j != slot && !(s.fuses.slot j).revoked) then some (.revoke slot) else none) ∧
    ((∀ j, j < 4 → j ≠ slot → (s.fuses.slot j).revoked = true) → (s.keyRevoke slot).rd Reg.KEY_STATUS.RESULT = 2) := by
  have hlast : ((upTo 4).all fun n => n == slot || (s.fuses.slot n).revoked) =
      !(upTo 4).any (fun j => j != slot && !(s.fuses.slot j).revoked) := by
    simp [List.not_any_eq_all_not, bne]
  unfold State.keyRevoke
  rw [hlast]
  cases hother : (upTo 4).any (fun j => j != slot && !(s.fuses.slot j).revoked)
  · exact ⟨State.fuseResult_fuses 2, fun hfuse => (congrArg LoadSt.fuse (State.fuseResult_load 2)).trans hfuse,
      fun _ => State.rd_wr_same _ _ _ _ _ rfl (by decide)⟩
  · simp only [Bool.not_true, Bool.false_eq_true, if_false]
    refine ⟨State.wr_fuses .., fun _ => congrArg LoadSt.fuse (State.wr_load ..), fun hall => ?_⟩
    obtain ⟨j, hj, hopen⟩ := List.any_eq_true.mp hother
    simp only [Bool.and_eq_true, bne_iff_ne, ne_eq, Bool.not_eq_true'] at hopen
    simp [hall j (mem_upTo.mp hj) hopen.1] at hopen

theorem State.epochBurn_starts (hrun : s.device = stRun) (hfuse : s.load.fuse = none) (hepoch : s.fuses.epoch < s.cfg.epoch) :
    s.epochBurn = s.startFuse (.burn s.cfg.epoch) := by
  have hlow : ¬ s.cfg.epoch ≤ s.fuses.epoch := by omega
  simp [State.epochBurn, hrun, hfuse, hlow]

theorem State.epochBurn_refused (h : s.device ≠ stRun ∨ s.cfg.epoch ≤ s.fuses.epoch) :
    s.epochBurn = s ∨ s.epochBurn = s.fuseResult 0 := by
  unfold State.epochBurn
  split
  · exact .inl rfl
  · exact .inr (if_pos (by tauto))

end

/-! ### What an operation leaves in the fuses -/

theorem Fuses.slot_withSlot (f : Fuses) (k : KeySlot) {n : Nat} (hn : n < 4) : (f.withSlot n k).slot n = k := by
  match n, hn with
  | 0, _ | 1, _ | 2, _ | 3, _ => rfl

theorem Fuses.apply_program {f : Fuses} {n h : Nat} (hn : n < 4) (hempty : (f.slot n).hash = none) :
    ((f.apply (.program n h)).slot n).hash = some h := by
  simp [Fuses.apply, hempty, Fuses.slot_withSlot _ _ hn]

theorem Fuses.apply_revoke (f : Fuses) {n : Nat} (hn : n < 4) : ((f.apply (.revoke n)).slot n).revoked = true := by
  simp [Fuses.apply, Fuses.slot_withSlot _ _ hn]

theorem State.fuseDone_does {s : State} {o : FuseOp} (ok : Bool) (hfuse : s.load.fuse = some o) :
    (s.fuseDone ok).load.fuse = none ∧ (s.fuseDone ok).rd Reg.KEY_STATUS.BUSY = 0 ∧
      (s.fuseDone ok).rd Reg.KEY_STATUS.RESULT = (if ok then 0 else 4) ∧
      (s.fuseDone ok).fuses = if ok then s.fuses.apply o else s.fuses := by
  simp only [State.fuseDone, hfuse]
  cases ok <;> simp only [Bool.false_eq_true, if_false, if_true]
  · exact ⟨(congrArg LoadSt.fuse (State.fuseResult_load 4)).trans (congrArg LoadSt.fuse (State.wr_load ..)),
      (State.rd_wr_apart _ _ _ _ _ _ (by decide +kernel)).trans (State.rd_wr_same _ _ _ _ _ rfl (by decide)),
      State.rd_wr_same _ _ _ _ _ rfl (by decide), (State.fuseResult_fuses 4).trans (State.wr_fuses ..)⟩
  · refine ⟨(congrArg LoadSt.fuse (State.fuseResult_load 0)).trans (congrArg LoadSt.fuse (State.wr_load ..)),
      (State.rd_wr_apart _ _ _ _ _ _ (by decide +kernel)).trans (State.rd_wr_same (s.modLoad fun l => { l with fuse := none }) Reg.KEY_STATUS.BUSY 0 0 0 rfl (by decide)),
      State.rd_wr_same _ _ _ _ _ rfl (by decide), (State.fuseResult_fuses 0).trans ?_⟩
    exact congrArg (Fuses.apply · o) (State.wr_fuses ..)

/-! ### The commands -/

theorem exec_keyProgram (s : State) (k : Fin 4) (u t : Nat) :
    exec (.keyProgram k u t) s = done ((s.elapse t).keyCmd u (·.keyProgram k.val)) := rfl

theorem exec_keyRevoke (s : State) (k : Fin 4) (u t : Nat) :
    exec (.keyRevoke k u t) s = done ((s.elapse t).keyCmd u (·.keyRevoke k.val)) := rfl

theorem exec_epochBurn (s : State) (t : Nat) : exec (.epochBurn t) s = done (s.elapse t).epochBurn := rfl

theorem exec_fuseOpDone (s : State) (ok : Bool) (t : Nat) : exec (.fuseOpDone ok t) s = done ((s.elapse t).fuseDone ok) := rfl

/-- A command that leaves the state of its instant, or a result in KEY_STATUS alone. -/
theorem exec_keeps_fuses {s m : State} {t r : Nat} {c : Instr} (hexec : exec c s = done m)
    (h : m = s.elapse t ∨ m = (s.elapse t).fuseResult r) : ∃ n, exec c s = .next n ∧ n.fuses = s.fuses ∧ n.load = s.load := by
  refine ⟨_, hexec, ?_⟩
  rw [State.settle_fuses, State.settle_load]
  rcases h with rfl | rfl
  · exact ⟨s.elapse_fuses t, s.elapse_load t⟩
  · exact ⟨(State.fuseResult_fuses r).trans (s.elapse_fuses t), (State.fuseResult_load r).trans (s.elapse_load t)⟩

/-- Settles O18: what starts an operation and what its end leaves in the fuses, each at its command's instant. -/
theorem keyFusesChangeOnlyByTheirOperations : Obligations.KeyFusesChangeOnlyByTheirOperations := by
  unfold Obligations.KeyFusesChangeOnlyByTheirOperations
  refine ⟨?program, ?revoke, ?refused, ?burn, ?noBurn, ?done, ?noOperation⟩
  case program =>
    intro s k t hheld hfuse hdevice haccepted
    have hacts : (s.elapse t).keyCmd 0xA5C3 (·.keyProgram k.val) = (s.elapse t).keyProgram k.val :=
      State.keyCmd_acts (by rw [s.elapse_power, hheld]) (by rw [s.elapse_load, hfuse]) ((s.elapse_device t).trans hdevice)
        (by rw [s.elapse_load, haccepted])
    have hexec := (exec_keyProgram s k 0xA5C3 t).trans (congrArg done hacts)
    obtain ⟨hfuses, hstarts, hbusy, hresult⟩ := State.keyProgram_does (s := s.elapse t) (slot := k.val)
    rw [s.elapse_fuses, s.elapse_rd t _ 0 0 (by decide +kernel)] at hbusy hresult
    rw [s.elapse_fuses, s.elapse_load, s.elapse_keyData] at hstarts
    refine ⟨_, hexec, ?_, ?_, ?_, ?_, Effect.of_exec (execKeyProgram_effect k 0xA5C3 t s) hexec (by decide) (by decide +kernel)⟩
    · rw [State.settle_load, hstarts hfuse]
    · rw [State.settle_rd _ _ _ _ (by decide +kernel), hbusy]
    · rw [State.settle_rd _ _ _ _ (by decide +kernel), hresult]
    · rw [State.settle_fuses, hfuses, s.elapse_fuses]
  case revoke =>
    intro s k t hheld hfuse hdevice haccepted
    have hacts : (s.elapse t).keyCmd 0xA5C3 (·.keyRevoke k.val) = (s.elapse t).keyRevoke k.val :=
      State.keyCmd_acts (by rw [s.elapse_power, hheld]) (by rw [s.elapse_load, hfuse]) ((s.elapse_device t).trans hdevice)
        (by rw [s.elapse_load, haccepted])
    have hexec := (exec_keyRevoke s k 0xA5C3 t).trans (congrArg done hacts)
    obtain ⟨hfuses, hstarts, hresult⟩ := State.keyRevoke_does (s := s.elapse t) (slot := k.val)
    rw [s.elapse_fuses] at hresult
    rw [s.elapse_fuses, s.elapse_load] at hstarts
    refine ⟨_, hexec, ?_, ?_, fun hall => ?_, Effect.of_exec (execKeyRevoke_effect k 0xA5C3 t s) hexec (by decide) (by decide +kernel)⟩
    · rw [State.settle_fuses, hfuses, s.elapse_fuses]
    · rw [State.settle_load, hstarts hfuse]
    · rw [State.settle_rd _ _ _ _ (by decide +kernel), hresult hall]
  case refused =>
    intro s k u t c hc h
    have hthere : u ≠ 0xA5C3 ∨ (s.elapse t).power.held = true ∨ (s.elapse t).load.fuse.isSome = true ∨
        (s.elapse t).device ≠ stKickOff ∨ (s.elapse t).load.accepted = true := by
      rwa [s.elapse_power, s.elapse_load, s.elapse_device]
    rcases List.mem_cons.mp hc with rfl | hc
    · exact exec_keeps_fuses (exec_keyProgram s k u t) (State.keyCmd_refused hthere)
    · rw [List.mem_singleton.mp hc]
      exact exec_keeps_fuses (exec_keyRevoke s k u t) (State.keyCmd_refused hthere)
  case burn =>
    intro s t hrun hfuse hepoch
    have hstarts : (s.elapse t).epochBurn = (s.elapse t).startFuse (.burn s.cfg.epoch) := by
      rw [State.epochBurn_starts ((s.elapse_device t).trans hrun) (by rw [s.elapse_load, hfuse])
        (by rwa [s.elapse_fuses, s.elapse_cfg]), s.elapse_cfg]
    have hexec := (exec_epochBurn s t).trans (congrArg done hstarts)
    refine ⟨_, hexec, ?_, ?_, ?_, Effect.of_exec (execEpochBurn_effect t s) hexec (by decide) (by decide +kernel)⟩
    · rw [State.settle_load]
      exact congrArg LoadSt.fuse (State.wr_load ..)
    · rw [State.settle_rd _ _ _ _ (by decide +kernel)]
      exact State.rd_wr_same _ _ _ _ _ rfl (by decide)
    · rw [State.settle_fuses]
      exact (State.wr_fuses ..).trans (s.elapse_fuses t)
  case noBurn =>
    intro s t h
    obtain ⟨n, hn, hfuses, hload⟩ := exec_keeps_fuses (exec_epochBurn s t)
      (State.epochBurn_refused (by rwa [s.elapse_device, s.elapse_cfg, s.elapse_fuses]))
    exact ⟨n, hn, hload, hfuses⟩
  case done =>
    intro s t o ok hfuse
    obtain ⟨hload, hbusy, hresult, hfuses⟩ := State.fuseDone_does ok ((congrArg LoadSt.fuse (s.elapse_load t)).trans hfuse)
    have hend : ((s.elapse t).fuseDone ok).settle.fuses = if ok then s.fuses.apply o else s.fuses := by
      rw [State.settle_fuses, hfuses, s.elapse_fuses]
    refine ⟨_, exec_fuseOpDone s ok t, ?_, ?_, ?_, hend, fun e ho hok => ?_, fun k h hk ho hok hempty => ?_, fun k hk ho hok => ?_,
      Effect.of_exec (execFuseOpDone_effect ok t s) (exec_fuseOpDone s ok t) (by decide) (by decide +kernel)⟩
    · rw [State.settle_load, hload]
    · rw [State.settle_rd _ _ _ _ (by decide +kernel), hbusy]
    · rw [State.settle_rd _ _ _ _ (by decide +kernel), hresult]
    · rw [hend, if_pos hok, ho]
      rfl
    · rw [hend, if_pos hok, ho, Fuses.apply_program hk hempty]
    · rw [hend, if_pos hok, ho, Fuses.apply_revoke _ hk]
  case noOperation =>
    intro s t ok hfuse
    have hsame : (s.elapse t).fuseDone ok = s.elapse t := by
      simp only [State.fuseDone, s.elapse_load, hfuse]
    exact ⟨_, (exec_fuseOpDone s ok t).trans (congrArg done hsame), s.elapse_settle_effect t⟩

end Sys2Proof.Machine
end

section
namespace Sys2Proof.Machine

set_option Elab.async false

/-! ### The end of a POR and of RESET_N (R65, R370) -/

theorem State.holdOutputs_rd (s : State) :
    s.holdOutputs.rd Reg.FAULT_STATE.FAULT_N = 0 ∧ s.holdOutputs.rd Reg.FAULT_STATE.ALIVE_RUN = 0 :=
  ⟨(State.rd_wr_apart _ _ _ _ _ _ (by decide +kernel)).trans (State.rd_wr_same _ _ _ _ _ rfl (by decide)),
    State.rd_wr_same _ _ _ _ _ rfl (by decide)⟩

theorem State.porRelease_does {s : State} (hsupplied : s.power.supplied = false) (refsel : Nat) (mram : Option (List Byte)) (random : Nat) :
    (s.porRelease refsel mram random).rd Reg.RESET_CAUSE.CAUSE = s.power.resetSrc % 8 ∧
    (s.porRelease refsel mram random).rd Reg.CLOCK_REF.REFSEL = min 2 refsel ∧
    (s.porRelease refsel mram random).device = stKeepOnly ∧
    (s.porRelease refsel mram random).rd Reg.FAULT_STATE.FAULT_N = 0 ∧
    (s.porRelease refsel mram random).rd Reg.FAULT_STATE.ALIVE_RUN = 0 ∧
    (s.porRelease refsel mram random).power.supplied = true ∧
    (s.porRelease refsel mram random).power.keepOnlyAt = s.time.ns := by
  simp only [State.porRelease, hsupplied, Bool.false_eq_true, if_false]
  generalize hstart : (s.modPower _ : State) = p
  have hsrc : p.power.resetSrc = s.power.resetSrc := by rw [← hstart]; rfl
  have hon : p.power.supplied = true := by rw [← hstart]; rfl
  have hat : p.power.keepOnlyAt = s.time.ns := by rw [← hstart]; rfl
  generalize hlatched : ((p.wr Reg.RESET_CAUSE.CAUSE p.power.resetSrc).wr Reg.CLOCK_REF.REFSEL (min 2 refsel)).wr
    Reg.POWER_STATE.STATE stKeepOnly = l
  have hrestored := State.mramRestore_effect l.holdOutputs mram random
  have hheld := State.holdOutputs_effect l
  obtain ⟨hfault, halive⟩ := l.holdOutputs_rd
  have hpower : (l.holdOutputs.mramRestore mram random).power = p.power := by
    rw [hrestored.same .power (by decide), hheld.same .power (by decide), ← hlatched, State.wr_power, State.wr_power, State.wr_power]
  refine ⟨?_, ?_, ?_, (hrestored.rd _ 0 0 (by decide +kernel)).trans hfault, (hrestored.rd _ 0 0 (by decide +kernel)).trans halive,
    (congrArg PowerSt.supplied hpower).trans hon, (congrArg PowerSt.keepOnlyAt hpower).trans hat⟩
  · rw [hrestored.rd _ 0 0 (by decide +kernel), hheld.rd _ 0 0 (by decide +kernel), ← hlatched,
      State.rd_wr_apart _ _ _ _ _ _ (by decide +kernel), State.rd_wr_apart _ _ _ _ _ _ (by decide +kernel),
      State.rd_wr_same _ _ _ _ _ rfl (by decide), hsrc]
    rfl
  · rw [hrestored.rd _ 0 0 (by decide +kernel), hheld.rd _ 0 0 (by decide +kernel), ← hlatched,
      State.rd_wr_apart _ _ _ _ _ _ (by decide +kernel), State.rd_wr_same _ _ _ _ _ rfl (by decide)]
    exact Nat.mod_eq_of_lt (by show _ < 4; omega)
  · unfold State.device
    rw [hrestored.rd _ 0 0 (by decide +kernel), hheld.rd _ 0 0 (by decide +kernel), ← hlatched, State.rd_wr_same _ _ _ _ _ rfl (by decide)]
    rfl

theorem State.resetLatched_rd (s : State) (cause : Nat) : (s.resetLatched cause).rd Reg.RESET_CAUSE.CAUSE = cause % 8 ∧
    (s.resetLatched cause).rd Reg.RESET_CAUSE.COUNT = min 65535 (s.rd Reg.RESET_CAUSE.COUNT + 1) := by
  refine ⟨(State.rd_bump_apart _ _ _ _ _ (by decide +kernel)).trans (State.rd_wr_same _ _ _ _ _ rfl (by decide)),
    (State.rd_bump _ rfl (by decide)).trans ?_⟩
  rw [State.rd_wr_apart _ _ _ _ _ _ (by decide +kernel)]
  rfl

theorem State.resetLatched_power (s : State) (cause : Nat) : (s.resetLatched cause).power = s.power :=
  (State.resetLatched_effect s cause).same .power (by decide)

/-! ### Step 2 of kick-off -/

/-- The rails and RESET_N decide step 2; outside an exit from DORMANT step 3 follows. -/
theorem State.kickStep2_step {s : State} (hdormant : s.power.dormantExit = false) (hstep : s.power.step = 2) :
    s.kickStep2.power.step = if s.power.resetLowSince.isNone && vinRails.all (hasBit s.power.pgood) then 3 else 2 := by
  unfold State.kickStep2
  simp only [hstep, hdormant, true_and, Bool.false_eq_true, if_false, Bool.and_eq_true]
  split
  · rfl
  · exact hstep

theorem State.kickStep2_inputs (s : State) : s.kickStep2.power.fresh = s.power.fresh ∧
    s.kickStep2.power.resetLowSince = s.power.resetLowSince := by
  unfold State.kickStep2
  split
  · split
    · simp only [State.dormantPowered, State.modPower, State.wr_power, and_self]
    · exact ⟨rfl, rfl⟩
  · exact ⟨rfl, rfl⟩

theorem State.kickFrom2_step {s : State} (hdormant : s.power.dormantExit = false) :
    s.kickFrom2.power.step = (if s.power.resetLowSince.isNone && vinRails.all (hasBit s.power.pgood) then 3 else 2) ∧
      s.kickFrom2.power.fresh = s.power.fresh := by
  have hpower : (s.modPower fun p => { p with step := 2 }).showPgood.power = { s.power with step := 2 } := State.wr_power ..
  obtain ⟨hfresh, -⟩ := (s.modPower fun p => { p with step := 2 }).showPgood.kickStep2_inputs
  have hstep := State.kickStep2_step (s := (s.modPower fun p => { p with step := 2 }).showPgood) (by rw [hpower, hdormant]) (by rw [hpower])
  rw [hpower] at hstep hfresh
  exact ⟨hstep, hfresh⟩

/-! ### RESET_N released -/

/-- RESET_N released, outside the first start after a POR. -/
theorem State.resetNRelease_does {s : State} {a : Nat} (hsupplied : s.power.supplied = true) (hlow : s.power.resetLowSince = some a)
    (hfresh : s.power.fresh = false) :
    s.resetNRelease.power.resetLowSince = none ∧ s.resetNRelease.rd Reg.RESET_CAUSE.CAUSE = 2 ∧
    s.resetNRelease.rd Reg.RESET_CAUSE.COUNT = min 65535 (s.rd Reg.RESET_CAUSE.COUNT + 1) ∧
    s.resetNRelease.rd Reg.RESET_HELD_MS.MS = min 4294967295 ((s.time.ns - a) / 1000000) ∧
    (s.power.step = 2 → s.power.dormantExit = false → vinRails.all (hasBit s.power.pgood) = true → s.resetNRelease.power.step = 3) := by
  have hrun : s.resetNRelease = (((s.modPower fun p => { p with resetLowSince := none }).resetLatched 2).wr Reg.RESET_HELD_MS.MS
      (min 4294967295 ((s.time.ns - a) / 1000000))).kickStep2 := by
    simp [State.resetNRelease, hlow, hsupplied, hfresh]
  rw [hrun]
  generalize hlatched : (((s.modPower _ : State).resetLatched 2).wr Reg.RESET_HELD_MS.MS _ : State) = l
  have hpower : l.power = { s.power with resetLowSince := none } := by
    rw [← hlatched, State.wr_power, State.resetLatched_power]
    rfl
  obtain ⟨hcause, hcount⟩ := (s.modPower fun p => { p with resetLowSince := none }).resetLatched_rd 2
  obtain ⟨-, hnone⟩ := l.kickStep2_inputs
  have hkick := State.kickStep2_effect l
  refine ⟨by rw [hnone, hpower], ?_, ?_, ?_, fun hstep hdormant hrails => ?_⟩
  · rw [hkick.rd _ 0 0 (by decide +kernel), ← hlatched, State.rd_wr_apart _ _ _ _ _ _ (by decide +kernel), hcause]
  · rw [hkick.rd _ 0 0 (by decide +kernel), ← hlatched, State.rd_wr_apart _ _ _ _ _ _ (by decide +kernel), hcount]
    rfl
  · rw [hkick.rd _ 0 0 (by decide +kernel), ← hlatched, State.rd_wr_same _ _ _ _ _ rfl (by decide)]
    exact Nat.mod_eq_of_lt (by show _ < 4294967296; omega)
  · rw [State.kickStep2_step (by rw [hpower, hdormant]) (by rw [hpower, hstep]), hpower, if_pos (by simpa using hrails)]

/-! ### The wake logic (R377) -/

theorem State.mayWake_of {s : State} {a : Nat} (hgood : s.power.goodSince = some a) (hlong : a + 100000000 ≤ s.time.ns)
    (hshut : s.rd Reg.THERMAL_STATUS.SHUT_LATCH = 0)
    (hcool : s.power.thermalEntry = true →
      s.power.keepOnlyAt + clampN 10 3600 (s.rd Reg.THERMAL_REWAKE.SECONDS) * 1000000000 ≤ s.time.ns) : s.mayWake = true := by
  unfold State.mayWake
  simp only [hgood, State.on_eq_false.mpr hshut, hlong, decide_true, Bool.not_false, Bool.true_and, Bool.or_eq_true,
    Bool.not_eq_true', decide_eq_true_eq]
  cases hentry : s.power.thermalEntry
  · exact .inl rfl
  · exact .inr (hcool hentry)

theorem State.mayWake_eq_false {s : State} (h : s.power.goodSince = none ∨ s.rd Reg.THERMAL_STATUS.SHUT_LATCH ≠ 0) :
    s.mayWake = false := by
  unfold State.mayWake
  rcases h with hgood | hshut
  · simp [hgood]
  · simp [State.on_eq_true.mpr hshut]

theorem State.keepOnlyExit_waits {s : State} (h : s.device ≠ stKeepOnly ∨ s.power.step ≠ 0 ∨ s.power.goodSince = none ∨
    s.rd Reg.THERMAL_STATUS.SHUT_LATCH ≠ 0) : s.keepOnlyExit = s := by
  refine if_pos ?_
  rcases h with hdevice | hstep | hbars
  · exact .inl hdevice
  · exact .inr (.inl hstep)
  · exact .inr (.inr (.inr (by rw [State.mayWake_eq_false hbars]; rfl)))

theorem State.keepOnlyExit_does {s : State} (hdevice : s.device = stKeepOnly) (hstep : s.power.step = 0)
    (hfailed : s.power.wakeFailed = false) (hwake : s.mayWake = true) (hdormant : s.power.dormantExit = false) :
    s.keepOnlyExit.power.step = (if s.power.resetLowSince.isNone && vinRails.all (hasBit s.power.pgood) then 3 else 2) ∧
    s.keepOnlyExit.power.fresh = false ∧ s.keepOnlyExit.rd Reg.POWER_STATE.WAKE_TRIES = 0 ∧
    s.keepOnlyExit.rd Reg.POWER_STATE.WAKE_SRC = (if s.power.fresh then 0 else if s.power.thermalEntry then 2 else 1) ∧
    s.keepOnlyExit.rd Reg.RESET_CAUSE.CAUSE = if s.power.fresh then s.rd Reg.RESET_CAUSE.CAUSE else 4 := by
  unfold State.keepOnlyExit
  rw [if_neg (by simp [hdevice, hstep, hfailed, hwake])]
  extract_lets first src w l
  have hsrc : w.rd Reg.POWER_STATE.WAKE_SRC = src := by
    refine (State.rd_wr_apart _ _ _ _ _ _ (by decide +kernel)).trans ((State.rd_wr_same _ _ _ _ _ rfl (by decide)).trans ?_)
    exact Nat.mod_eq_of_lt (by show src < 8; unfold src; split_ifs <;> omega)
  have htries : w.rd Reg.POWER_STATE.WAKE_TRIES = 0 := State.rd_wr_same _ _ _ _ _ rfl (by decide)
  have hcause : w.rd Reg.RESET_CAUSE.CAUSE = s.rd Reg.RESET_CAUSE.CAUSE :=
    (State.rd_wr_apart _ _ _ _ _ _ (by decide +kernel)).trans (State.rd_wr_apart _ _ _ _ _ _ (by decide +kernel))
  have hpower : w.power = s.power := (State.wr_power ..).trans (State.wr_power ..)
  have hlatch : Effect [] State.resetLatched_fields w l := Effect.when (Effect.refl _ _ _) fun u => State.resetLatched_effect u 4
  have hlatchedCause : l.rd Reg.RESET_CAUSE.CAUSE = if first then s.rd Reg.RESET_CAUSE.CAUSE else 4 := by
    cases hfirst : first
    · exact (congrArg (fun c : Bool => (w.when (!c) (·.resetLatched 4)).rd Reg.RESET_CAUSE.CAUSE) hfirst).trans (w.resetLatched_rd 4).1
    · exact (congrArg (fun c : Bool => (w.when (!c) (·.resetLatched 4)).rd Reg.RESET_CAUSE.CAUSE) hfirst).trans hcause
  have hkick := State.kickFrom2_effect (l.modPower fun p => { p with fresh := false })
  have hlpower : l.power = s.power := (hlatch.same .power (by decide)).trans hpower
  obtain ⟨hgoes, hfresh⟩ := State.kickFrom2_step (s := l.modPower fun p => { p with fresh := false })
    (by rw [State.modPower_power, hlpower, hdormant])
  rw [State.modPower_power, hlpower] at hgoes hfresh
  refine ⟨hgoes, hfresh, ?_, ?_, ?_⟩
  · rw [hkick.rd _ 0 0 (by decide +kernel), State.modPower_rd, hlatch.rd _ 0 0 (by decide +kernel), htries]
  · rw [hkick.rd _ 0 0 (by decide +kernel), State.modPower_rd, hlatch.rd _ 0 0 (by decide +kernel), hsrc]
  · rw [hkick.rd _ 0 0 (by decide +kernel), State.modPower_rd, hlatchedCause]

/-! ### Step 4: the DEV reset is released -/

/-- The restart of the time base (R308): after a POR from 0, later from the keep counter. -/
theorem State.timeRestart_does (s : State) : s.timeRestart.rd Reg.TIME_STATUS.SYNC = 0 ∧
    s.timeRestart.rd Reg.TIME_STATUS.RESTORED = b01 s.time.restarted ∧ s.timeRestart.time.restarted = true ∧
    (s.time.restarted = false → s.timeRestart.count = 0 ∧ s.timeRestart.time.sec = 0 ∧ s.timeRestart.time.sub = 0) ∧
    (s.time.restarted = true → s.timeRestart.count = max (s.time.ns - s.time.behind) (s.time.keepNow.keepNs + 1000)) := by
  unfold State.timeRestart
  extract_lets fresh k count ns kept moved restarted
  have htime : ((restarted.wr Reg.TIME_STATUS.SYNC 0).wr Reg.TIME_STATUS.RESTORED (b01 (!fresh))).time = restarted.time :=
    (State.wr_time ..).trans (State.wr_time ..)
  have hcount : ((restarted.wr Reg.TIME_STATUS.SYNC 0).wr Reg.TIME_STATUS.RESTORED (b01 (!fresh))).count = count := by
    unfold State.count
    rw [htime]
    show ns - (ns - count) - (ns - (ns - count) + 4 - count % 4 % 4) % 4 = count
    have hns : count ≤ ns := Nat.le_max_right ..
    omega
  refine ⟨?_, ?_, by rw [htime], fun hfirst => ?_, fun hagain => ?_⟩
  · exact (State.rd_wr_apart _ _ _ _ _ _ (by decide +kernel)).trans (State.rd_wr_same _ _ _ _ _ rfl (by decide))
  · refine (State.rd_wr_same _ _ _ _ _ rfl (by decide)).trans ((b01_mod _).trans ?_)
    simp [fresh]
  · have hfresh : fresh = true := by simp [fresh, hfirst]
    have hmoved : moved = { kept with sec := 0, sub := 0 } := if_pos hfresh
    have hzero : count = 0 := if_pos hfresh
    rw [hcount, htime]
    exact ⟨hzero, congrArg TimeSt.sec hmoved, congrArg TimeSt.sub hmoved⟩
  · have hfresh : fresh = false := by simp [fresh, hagain]
    rw [hcount]
    exact if_neg (by simp [hfresh])

/-- The register fields that show supplies and safety functions as the DEV reset ends. -/
def bootViewFields : List Field :=
  Reg.POWER_PGOOD.PGOOD :: State.showSafe_fields.getD [] ++ [Reg.DRV_STATUS.VDRV_OK, Reg.DRV_LEG_STATUS.UVLO]

/-- PGOOD, the safety functions and the drive units whose VDRV is missing are shown as the DEV reset ends. -/
theorem State.bootView_effect (s : State) (l : List Nat) : Effect [] (some bootViewFields) s
    (s.showPgood.showSafe.each l fun s u => s.when (!(s.drv u).vdrv) (·.showVdrv u)) := by
  refine Effect.each ?_ fun _ _ => Effect.when (Effect.refl _ _ _) fun u => (State.showVdrv_effect u _).widen (by decide +kernel)
  exact Effect.after (State.showSafe_effect _) (by decide +kernel) ((State.showPgood_effect s).widen (by decide +kernel))

theorem State.elapse_restarted (s : State) (t : Nat) : (s.elapse t).time.restarted = s.time.restarted := by
  unfold State.elapse
  split
  · rfl
  · split
    · rfl
    · extract_lets cycles part tm s'
      split
      · rfl
      · have hslew : s'.showSlew.time = s'.time := (State.showSlew_effect s').same .time (by decide)
        exact (congrArg TimeSt.restarted hslew).trans rfl

theorem State.devResetRelease_waits {s : State} {boot : Nat}
    (h : s.power.held = false ∨ s.power.step ≠ 4 ∨ s.power.resetLowSince.isSome = true) : s.devResetRelease boot = s := by
  refine if_pos ?_
  rcases h with hheld | hstep | hlow
  · simp [hheld]
  · simp [hstep]
  · simp [hlow]

/-- What the registers and the parts hold once the DEV reset is released. -/
theorem State.devResetRelease_does {s : State} {boot : Nat} (hheld : s.power.held = true) (hstep : s.power.step = 4)
    (hlow : s.power.resetLowSince = none) :
    (s.devResetRelease boot).power = { s.power with held := false, bridge := true, step := 5 } ∧
    (s.devResetRelease boot).rd Reg.FAULT_STATE.FAULT_N = b01 (!s.on Reg.FAULT_STATE.FATAL) ∧
    (s.devResetRelease boot).rd Reg.FAULT_STATE.ALIVE_RUN = b01 (!s.on Reg.FAULT_STATE.FATAL) ∧
    (s.devResetRelease boot).device = stKickOff ∧
    (s.devResetRelease boot).rd Reg.IMAGE_BOOT.BOOT_SRC = boot % 4 ∧
    (s.devResetRelease boot).load.sources = bootSources boot ∧
    (s.devResetRelease boot).rd Reg.TIME_STATUS.SYNC = s.timeRestart.rd Reg.TIME_STATUS.SYNC ∧
    (s.devResetRelease boot).rd Reg.TIME_STATUS.RESTORED = s.timeRestart.rd Reg.TIME_STATUS.RESTORED ∧
    (s.devResetRelease boot).time = s.timeRestart.time ∧
    ∀ f ∈ [Reg.DOMAIN_STATE.FABRIC, Reg.DOMAIN_STATE.LANE_PHY, Reg.DOMAIN_STATE.BB_PHY, Reg.DOMAIN_STATE.ANALOG],
      (s.devResetRelease boot).rd f = 1 := by
  have hrestart := State.timeRestart_effect s
  have hpower : s.timeRestart.power = s.power := hrestart.same .power (by decide)
  have hfatal : s.timeRestart.on Reg.FAULT_STATE.FATAL = s.on Reg.FAULT_STATE.FATAL := by
    unfold State.on
    rw [hrestart.rd _ 0 0 (by decide +kernel)]
  unfold State.devResetRelease
  rw [if_neg (by simp [hheld, hstep, hlow])]
  extract_lets r o fatal y d w v
  have hview : Effect [] (some bootViewFields) (w.modLoad fun l => { l with sources := bootSources boot })
      (v.each (upTo v.silicon.variant.drives) fun s u => s.when (!(s.drv u).vdrv) (·.showVdrv u)) := State.bootView_effect _ _
  clear_value v
  have hr : r = s.timeRestart := rfl
  have hfatalHere : fatal = s.on Reg.FAULT_STATE.FATAL := hfatal
  clear_value fatal r
  have htime : (w.modLoad fun l => { l with sources := bootSources boot }).time = s.timeRestart.time := by
    simp only [State.modLoad_time, w, d, y, State.wr_time, o, State.modPower_time, hr]
  have hpowered : (w.modLoad fun l => { l with sources := bootSources boot }).power =
      { s.power with held := false, bridge := true, step := 5 } := by
    simp only [State.modLoad_power, w, d, y, State.wr_power, o, State.modPower_power, hr, hpower]
  refine ⟨(hview.same .power (by decide)).trans hpowered, ?_, ?_, ?_, ?_, congrArg LoadSt.sources (hview.same .load (by decide)), ?_, ?_,
    (hview.same .time (by decide)).trans htime, fun f hf => ?_⟩
  · rw [hview.rd _ 0 0 (by decide +kernel), ← hfatalHere]
    simp (disch := decide +kernel) only [State.modLoad_rd, w, d, y, State.rd_wr_apart, State.rd_wr_same]
    exact b01_mod _
  · rw [hview.rd _ 0 0 (by decide +kernel), ← hfatalHere]
    simp (disch := decide +kernel) only [State.modLoad_rd, w, d, y, State.rd_wr_apart, State.rd_wr_same]
    exact b01_mod _
  · unfold State.device
    rw [hview.rd _ 0 0 (by decide +kernel)]
    simp (disch := decide +kernel) only [State.modLoad_rd, w, State.rd_wr_apart, State.rd_wr_same]
    rfl
  · rw [hview.rd _ 0 0 (by decide +kernel), State.modLoad_rd]
    exact State.rd_wr_same _ _ _ _ _ rfl (by decide)
  · rw [hview.rd _ 0 0 (by decide +kernel)]
    simp (disch := decide +kernel) only [State.modLoad_rd, w, d, y, o, State.rd_wr_apart, State.modPower_rd, hr]
  · rw [hview.rd _ 0 0 (by decide +kernel)]
    simp (disch := decide +kernel) only [State.modLoad_rd, w, d, y, o, State.rd_wr_apart, State.modPower_rd, hr]
  · simp only [List.mem_cons, List.not_mem_nil, or_false] at hf
    rcases hf with rfl | rfl | rfl | rfl <;> rw [hview.rd _ 0 0 (by decide +kernel)] <;>
      simp (disch := decide +kernel) only [State.modLoad_rd, w, d, State.rd_wr_apart, State.rd_wr_same] <;> rfl

theorem exec_porRelease (s : State) (t : Nat) (r : Fin 4) (m : Option (List Byte)) (x : Nat) :
    exec (.porRelease t r m x) s = done ((s.elapse t).porRelease r.val m x) := rfl

theorem exec_resetNRelease (s : State) (t : Nat) : exec (.resetNRelease t) s = done (s.elapse t).resetNRelease := rfl

theorem exec_keepOnlyExit (s : State) (t : Nat) : exec (.keepOnlyExit t) s = done (s.elapse t).keepOnlyExit := rfl

theorem exec_devResetRelease (s : State) (t : Nat) (b : Fin 4) :
    exec (.devResetRelease t b) s = done ((s.elapse t).devResetRelease b.val) := rfl

/-- Settles O55: each end of a reset at its command's instant, with the power controller's step and the registers it latches. -/
theorem resetsEndAndKickOffBegins : Obligations.ResetsEndAndKickOffBegins := by
  unfold Obligations.ResetsEndAndKickOffBegins
  refine ⟨?porRelease, ?porSupplied, ?released, ?notLow, ?exits, ?stays, ?devReleased, ?devHeld⟩
  case porRelease =>
    intro s t r m x hsupplied
    obtain ⟨hcause, href, hdevice, hfault, halive, hon, hat⟩ :=
      State.porRelease_does (s := s.elapse t) (by rw [s.elapse_power, hsupplied]) r.val m x
    rw [s.elapse_power] at hcause
    have hexec := exec_porRelease s t r m x
    refine ⟨_, hexec, ?_, ?_, ?_, ?_, ?_, ?_, ?_, Effect.of_exec (execPorRelease_effect t r m x s) hexec (by decide) (by decide +kernel)⟩
    · rw [State.settle_rd _ _ _ _ (by decide +kernel), hcause]
    · rw [State.settle_rd _ _ _ _ (by decide +kernel), href]
    · exact (State.settle_rd _ _ _ _ (by decide +kernel)).trans hdevice
    · rw [State.settle_rd _ _ _ _ (by decide +kernel), hfault]
    · rw [State.settle_rd _ _ _ _ (by decide +kernel), halive]
    · rw [State.settle_power, hon]
    · rw [State.settle_power, hat]
  case porSupplied =>
    intro s t r m x hsupplied
    have hsame : (s.elapse t).porRelease r.val m x = s.elapse t := if_pos (by rw [s.elapse_power, hsupplied])
    exact ⟨_, (exec_porRelease s t r m x).trans (congrArg done hsame), s.elapse_settle_effect t⟩
  case released =>
    intro s t a hsupplied hlow hfresh
    obtain ⟨hnone, hcause, hcount, hheld, hgoes⟩ := State.resetNRelease_does (s := s.elapse t) (a := a)
      (by rw [s.elapse_power, hsupplied]) (by rw [s.elapse_power, hlow]) (by rw [s.elapse_power, hfresh])
    rw [s.elapse_rd t _ 0 0 (by decide +kernel)] at hcount
    rw [s.elapse_power] at hgoes
    have hexec := exec_resetNRelease s t
    refine ⟨_, hexec, ?_, ?_, ?_, ?_, fun hstep hdormant hrails => ?_,
      Effect.of_exec (execResetNRelease_effect t s) hexec (by decide) (by decide +kernel)⟩
    · rw [State.settle_power, hnone]
    · rw [State.settle_rd _ _ _ _ (by decide +kernel), hcause]
    · rw [State.settle_rd _ _ _ _ (by decide +kernel), hcount]
    · rw [State.settle_rd _ _ _ _ (by decide +kernel), hheld]
    · rw [State.settle_power, hgoes hstep hdormant hrails]
  case notLow =>
    intro s t hlow
    have hsame : (s.elapse t).resetNRelease = s.elapse t := by
      simp only [State.resetNRelease, s.elapse_power, hlow]
    exact ⟨_, (exec_resetNRelease s t).trans (congrArg done hsame), s.elapse_settle_effect t⟩
  case exits =>
    intro s t a hdevice hstep hfailed hgood hlong hshut hcool hdormant
    have hwake : (s.elapse t).mayWake = true := by
      refine State.mayWake_of (a := a) (by rw [s.elapse_power, hgood]) hlong (by rw [s.elapse_rd t _ 0 0 (by decide +kernel), hshut]) ?_
      rw [s.elapse_power, s.elapse_rd t _ 0 0 (by decide +kernel)]
      exact hcool
    obtain ⟨hgoes, hfresh, htries, hsrc, hcause⟩ := State.keepOnlyExit_does ((s.elapse_device t).trans hdevice)
      (by rw [s.elapse_power, hstep]) (by rw [s.elapse_power, hfailed]) hwake (by rw [s.elapse_power, hdormant])
    rw [s.elapse_power] at hgoes hsrc
    rw [s.elapse_power, s.elapse_rd t _ 0 0 (by decide +kernel)] at hcause
    have hexec := exec_keepOnlyExit s t
    refine ⟨_, hexec, ?_, ?_, ?_, ?_, ?_, Effect.of_exec (execKeepOnlyExit_effect t s) hexec (by decide) (by decide +kernel)⟩
    · rw [State.settle_power, hgoes]
    · rw [State.settle_power, hfresh]
    · rw [State.settle_rd _ _ _ _ (by decide +kernel), htries]
    · rw [State.settle_rd _ _ _ _ (by decide +kernel), hsrc]
    · rw [State.settle_rd _ _ _ _ (by decide +kernel), hcause]
  case stays =>
    intro s t h
    have hsame : (s.elapse t).keepOnlyExit = s.elapse t :=
      State.keepOnlyExit_waits (by rwa [s.elapse_device, s.elapse_power, s.elapse_rd t _ 0 0 (by decide +kernel)])
    exact ⟨_, (exec_keepOnlyExit s t).trans (congrArg done hsame), s.elapse_settle_effect t⟩
  case devReleased =>
    intro s t b hheld hstep hlow
    obtain ⟨hpower, hfault, halive, hdevice, hboot, hsources, hsync, hrestored, htime, hdomains⟩ :=
      State.devResetRelease_does (s := s.elapse t) (boot := b.val) (by rw [s.elapse_power, hheld]) (by rw [s.elapse_power, hstep])
        (by rw [s.elapse_power, hlow])
    obtain ⟨hrSync, hrRestored, hstarted, hfirst, hagain⟩ := (s.elapse t).timeRestart_does
    rw [s.elapse_restarted] at hrRestored hfirst hagain
    have hfatal : (s.elapse t).on Reg.FAULT_STATE.FATAL = s.on Reg.FAULT_STATE.FATAL := by
      unfold State.on
      rw [s.elapse_rd t _ 0 0 (by decide +kernel)]
    rw [hfatal] at hfault halive
    have hend : ((s.elapse t).devResetRelease b.val).settle.time = (s.elapse t).timeRestart.time := by rw [State.settle_time, htime]
    have hcount : ((s.elapse t).devResetRelease b.val).settle.count = (s.elapse t).timeRestart.count := by
      unfold State.count
      rw [hend]
    have hexec := exec_devResetRelease s t b
    refine ⟨_, hexec, ?_, ?_, ?_, ?_, ?_, ?_, ?_, ?_, ?_, ?_, ?_, fun h => ?_, fun h => ?_, fun f hf => ?_,
      Effect.of_exec (execDevResetRelease_effect t b s) hexec (by decide) (by decide +kernel)⟩
    · rw [State.settle_power, hpower]
    · rw [State.settle_power, hpower]
    · rw [State.settle_power, hpower]
    · rw [State.settle_rd _ _ _ _ (by decide +kernel), hfault]
    · rw [State.settle_rd _ _ _ _ (by decide +kernel), halive]
    · exact (State.settle_rd _ _ _ _ (by decide +kernel)).trans hdevice
    · rw [State.settle_rd _ _ _ _ (by decide +kernel), hboot, Nat.mod_eq_of_lt b.isLt]
    · rw [State.settle_load, hsources]
      rfl
    · rw [State.settle_rd _ _ _ _ (by decide +kernel), hsync, hrSync]
    · rw [State.settle_rd _ _ _ _ (by decide +kernel), hrestored, hrRestored]
    · rw [hend, hstarted]
    · rw [hcount, hend]
      exact hfirst h
    · rw [hcount, hagain h]
    · have hapart : f.apart Reg.HOST_IRQ_PENDING.SOURCE = true := by revert f; decide +kernel
      rw [State.settle_rd _ _ _ _ hapart, hdomains f hf]
  case devHeld =>
    intro s t b h
    have hsame : (s.elapse t).devResetRelease b.val = s.elapse t := State.devResetRelease_waits (by rwa [s.elapse_power])
    exact ⟨_, (exec_devResetRelease s t b).trans (congrArg done hsame), s.elapse_settle_effect t⟩

end Sys2Proof.Machine
end

section
namespace Sys2Proof.Machine

set_option Elab.async false

/-! ### Where a load ends (R66) -/

/-- A load that ends refused: what the registers show, the frame timer stopped, the structure dropped. -/
theorem State.endRefused_does (s : State) (code index type off : Nat) :
    (s.endRefused code index type off).rd Reg.IMAGE_STATUS.STATE = 6 ∧
    (s.endRefused code index type off).rd Reg.IMAGE_STATUS.CODE = code % 65536 ∧
    (s.endRefused code index type off).rd Reg.IMAGE_ERR_SECTION.INDEX = index % 65536 ∧
    (s.endRefused code index type off).rd Reg.IMAGE_ERR_SECTION.TYPE = type % 65536 ∧
    (s.endRefused code index type off).rd Reg.IMAGE_ERR_OFFSET.OFFSET = off % 4294967296 ∧
    (s.endRefused code index type off).rd Reg.IMAGE_EVENT.DONE = 1 ∧
    (s.endRefused code index type off).ticking = false := by
  unfold State.endRefused State.ticking State.on
  extract_lets shown stopped dropped left
  have hhost : Effect [.host] (some []) dropped left := Effect.when (Effect.refl _ _ _) fun u => Effect.host u _
  have hleft : ∀ f, left.rd f = dropped.rd f := fun f => hhost.rd f 0 0 rfl
  simp (disch := decide +kernel) only [State.modPower_rd, hleft, dropped, stopped, shown, State.modLoad_rd, State.modFr_rd,
    State.showRefusal, State.rd_wr_apart, State.rd_wr_same]
  exact ⟨rfl, rfl, rfl, rfl, rfl, rfl, rfl⟩

theorem State.endRefused_source (s : State) (code index type off : Nat) :
    (s.endRefused code index type off).rd Reg.IMAGE_STATUS.SOURCE = s.rd Reg.IMAGE_STATUS.SOURCE :=
  (State.endRefused_effect s code index type off).rd _ 0 0 (by decide +kernel)

theorem State.endRefused_parts (s : State) (code index type off : Nat) :
    (s.endRefused code index type off).power = { s.power with step := 6 } ∧
    (s.endRefused code index type off).load = { s.load with built := none, image := [] } ∧
    (s.endRefused code index type off).cfg = s.cfg ∧
    (s.host.delivery = none → (s.endRefused code index type off).host.delivery = none) := by
  unfold State.endRefused
  extract_lets shown stopped dropped left
  have hleft : Effect [.host] (some []) dropped left := Effect.when (Effect.refl _ _ _) fun u => Effect.host u _
  have hpower : left.power = s.power := (hleft.same .power (by decide)).trans
    (by simp only [dropped, stopped, shown, State.showRefusal, State.modLoad_power, State.modFr_power, State.wr_power])
  have hload : left.load = { s.load with built := none, image := [] } := (hleft.same .load (by decide)).trans
    (by simp only [dropped, stopped, shown, State.showRefusal, State.modLoad_load, State.modFr_load, State.wr_load])
  have hcfg : left.cfg = s.cfg := (hleft.same .cfg (by decide)).trans
    (by simp only [dropped, stopped, shown, State.showRefusal, State.modLoad_cfg, State.modFr_cfg, State.wr_cfg])
  have hhost : dropped.host = s.host := by
    simp only [dropped, stopped, shown, State.showRefusal, State.modLoad_host, State.modFr_host, State.wr_host]
  refine ⟨congrArg (fun p : PowerSt => { p with step := 6 }) hpower, hload, hcfg, fun hnone => ?_⟩
  show left.host.delivery = none
  unfold left State.when
  split
  · rfl
  · rw [hhost, hnone]

/-- With no source left and no delivery there is nothing more to try. -/
theorem State.tryNext_waits {s : State} (hsources : s.load.sources = []) (hdelivery : s.host.delivery = none) : s.tryNext = s := by
  simp [State.tryNext, State.nextSource, hsources, State.delivered, hdelivery]

/-- A refusal after which there is nothing more to try. -/
theorem State.refuse_ends {s : State} {code index type off : Nat} (hsources : s.load.sources = []) (hdelivery : s.host.delivery = none) :
    s.refuse code index type off = s.endRefused code index type off := by
  obtain ⟨-, hload, -, hnone⟩ := State.endRefused_parts s code index type off
  exact State.tryNext_waits (by rw [hload, hsources]) (hnone hdelivery)

/-! ### Where a load begins -/

/-- A load from a source runs: the registers cleared, its start noted. -/
def State.loadBegun (s : State) (src : Nat) : State :=
  (((s.showRefusal 0 0 0 0).wr Reg.IMAGE_STATUS.STATE 1).wr Reg.IMAGE_STATUS.SOURCE src).modLoad fun l => { l with since := s.time.ns }

theorem State.loadBegun_rd {s : State} {src : Nat} (f : Field) (h : ([Reg.IMAGE_STATUS.CODE, Reg.IMAGE_ERR_SECTION.INDEX,
    Reg.IMAGE_ERR_SECTION.TYPE, Reg.IMAGE_ERR_OFFSET.OFFSET, Reg.IMAGE_STATUS.STATE, Reg.IMAGE_STATUS.SOURCE].all fun g => f.apart g) = true) :
    (s.loadBegun src).rd f = s.rd f := by
  simp only [List.all_cons, List.all_nil, Bool.and_true, Bool.and_eq_true] at h
  obtain ⟨hcode, hindex, htype, hoff, hstate, hsource⟩ := h
  simp only [State.loadBegun, State.modLoad_rd, State.showRefusal]
  simp only [State.rd_wr_apart _ _ _ _ _ _ hcode, State.rd_wr_apart _ _ _ _ _ _ hindex, State.rd_wr_apart _ _ _ _ _ _ htype,
    State.rd_wr_apart _ _ _ _ _ _ hoff, State.rd_wr_apart _ _ _ _ _ _ hstate, State.rd_wr_apart _ _ _ _ _ _ hsource]

theorem State.loadBegun_does (s : State) (src : Nat) : (s.loadBegun src).rd Reg.IMAGE_STATUS.STATE = 1 ∧
    (s.loadBegun src).rd Reg.IMAGE_STATUS.SOURCE = src % 4 ∧ (s.loadBegun src).rd Reg.IMAGE_STATUS.CODE = 0 := by
  simp (disch := decide +kernel) only [State.loadBegun, State.modLoad_rd, State.showRefusal, State.rd_wr_apart, State.rd_wr_same]
  exact ⟨rfl, rfl, rfl⟩

theorem State.loadBegun_parts (s : State) (src : Nat) : (s.loadBegun src).power = s.power ∧ (s.loadBegun src).host = s.host ∧
    (s.loadBegun src).load = { s.load with since := s.time.ns } := by
  simp only [State.loadBegun, State.showRefusal, State.modLoad_power, State.modLoad_host, State.modLoad_load, State.wr_power,
    State.wr_host, State.wr_load, and_self]

/-- With DRAM a load begins, where its size is one that the staging area holds. -/
theorem State.beginLoad_eq {s : State} {src : Nat} (hdram : s.load.dram = true) : s.beginLoad src =
    if src = 2 ∧ (s.rd Reg.IMAGE_STAGE_SIZE.SIZE = 0 ∨ maxImage < s.rd Reg.IMAGE_STAGE_SIZE.SIZE)
    then (s.loadBegun src).endRefused 0x203 0xFFFF 0 0 else s.loadBegun src := by
  obtain ⟨-, -, hload⟩ := s.loadBegun_parts src
  have hsize := s.loadBegun_rd (src := src) Reg.IMAGE_STAGE_SIZE.SIZE (by decide +kernel)
  have hthere : (s.loadBegun src).load.dram = true := by rw [hload, hdram]
  rw [← hsize]
  show (if (!(s.loadBegun src).load.dram) = true then _ else _) = _
  rw [hthere]
  rfl

/-- A load from the flash, beside which no delivery waits. -/
theorem State.beginLoad_flash {s : State} {src : Nat} (hsrc : src < 2) (hdram : s.load.dram = true) (hdelivery : s.host.delivery = none) :
    s.beginLoad src = s.loadBegun src ∧ (s.loadBegun src).delivered = false := by
  obtain ⟨-, hhost, -⟩ := s.loadBegun_parts src
  exact ⟨(State.beginLoad_eq hdram).trans (if_neg (by omega)), by simp [State.delivered, hhost, hdelivery]⟩

theorem State.tryNext_of {s u : State} (h : s.nextSource = u) (hdelivered : u.delivered = false) : s.tryNext = u := by
  simp only [State.tryNext, h, hdelivered, Bool.false_and, Bool.false_eq_true, if_false]

/-- The primary copy is the next source. -/
theorem State.tryNext_primary {s : State} {l : List Nat} (hsources : s.load.sources = 0 :: l) (hdram : s.load.dram = true)
    (hdelivery : s.host.delivery = none) : s.tryNext = (s.modLoad fun x => { x with sources := l }).loadBegun 0 := by
  obtain ⟨hbegun, hnone⟩ := State.beginLoad_flash (s := s.modLoad fun x => { x with sources := l }) (src := 0) (by decide) hdram hdelivery
  refine State.tryNext_of (Eq.trans ?_ hbegun) hnone
  simp [State.nextSource, hsources, State.when]

/-- The secondary copy is the next source of a flash that has one: the code that ended the primary copy is kept. -/
theorem State.tryNext_secondary {s : State} {l : List Nat} (hsources : s.load.sources = 1 :: l) (hdram : s.load.dram = true)
    (hsecondary : s.rd Reg.IMAGE_BOOT.SECONDARY = 1) (hdelivery : s.host.delivery = none) : s.tryNext =
      ((s.modLoad fun x => { x with sources := l }).wr Reg.IMAGE_PRIMARY_CODE.CODE (s.rd Reg.IMAGE_STATUS.CODE)).loadBegun 1 := by
  obtain ⟨hbegun, hnone⟩ := State.beginLoad_flash (src := 1)
    (s := (s.modLoad fun x => { x with sources := l }).wr Reg.IMAGE_PRIMARY_CODE.CODE (s.rd Reg.IMAGE_STATUS.CODE)) (by decide)
    ((congrArg LoadSt.dram (State.wr_load ..)).trans hdram) ((congrArg HostSt.delivery (State.wr_host ..)).trans hdelivery)
  refine State.tryNext_of (Eq.trans ?_ hbegun) hnone
  simp [State.nextSource, hsources, State.when, State.on, hsecondary]

/-- A load that has ended refused, after which there was nothing more to try, as the command ends. -/
structure RefusedWith (s n : State) (code index type off : Nat) : Prop where
  state : n.rd Reg.IMAGE_STATUS.STATE = 6
  code : n.rd Reg.IMAGE_STATUS.CODE = code % 65536
  index : n.rd Reg.IMAGE_ERR_SECTION.INDEX = index % 65536
  type : n.rd Reg.IMAGE_ERR_SECTION.TYPE = type % 65536
  offset : n.rd Reg.IMAGE_ERR_OFFSET.OFFSET = off % 4294967296
  done : n.rd Reg.IMAGE_EVENT.DONE = 1
  stopped : n.ticking = false
  step : n.power.step = 6
  load : n.load = { s.load with built := none, image := [] }
  cfg : n.cfg = s.cfg

theorem State.endRefused_settle (s : State) (code index type off : Nat) :
    RefusedWith s (s.endRefused code index type off).settle code index type off := by
  obtain ⟨hstate, hcode, hindex, htype, hoff, hdone, hstopped⟩ := s.endRefused_does code index type off
  obtain ⟨hpower, hload, hcfg, -⟩ := s.endRefused_parts code index type off
  exact
    { state := (State.settle_rd _ _ _ _ (by decide +kernel)).trans hstate
      code := (State.settle_rd _ _ _ _ (by decide +kernel)).trans hcode
      index := (State.settle_rd _ _ _ _ (by decide +kernel)).trans hindex
      type := (State.settle_rd _ _ _ _ (by decide +kernel)).trans htype
      offset := (State.settle_rd _ _ _ _ (by decide +kernel)).trans hoff
      done := (State.settle_rd _ _ _ _ (by decide +kernel)).trans hdone
      stopped := by
        unfold State.ticking State.on at hstopped ⊢
        rwa [State.settle_rd _ _ _ _ (by decide +kernel)]
      step := by rw [State.settle_power, hpower]
      load := by rw [State.settle_load, hload]
      cfg := by rw [State.settle_cfg, hcfg] }

theorem State.refuse_settle {s : State} {code index type off : Nat} (hsources : s.load.sources = []) (hdelivery : s.host.delivery = none) :
    RefusedWith s (s.refuse code index type off).settle code index type off := by
  rw [State.refuse_ends hsources hdelivery]
  exact s.endRefused_settle code index type off

/-! ### The fetch and its header (R69, R78) -/

/-- A condition before the rest of a check. -/
theorem need_bind {α : Type} (c : Bool) (code off : Nat) (f : Unit → Chk α) :
    (need c code off >>= f) = if c then f () else .error (code, off) := by
  cases c <;> rfl

/-- The magic, the two version bytes and the size, in this order. -/
theorem headerCheck_eq (img : List Byte) : headerCheck img =
    if u32At img 0 ≠ 0x4953584C then .error (0x101, 0) else if u16At img 4 ≠ 1 then .error (0x102, 4)
    else if u16At img 6 ≠ 0 then .error (0x102, 6)
    else if u32At img 8 < 512 ∨ 67108864 < u32At img 8 ∨ img.length < u32At img 8 then .error (0x103, 8) else .ok () := by
  simp only [headerCheck, need_bind, decide_eq_true_eq, ne_eq, ite_not]
  split_ifs with hmagic hmajor hminor hsize
  · refine if_neg ?_
    simp only [between, Bool.and_eq_true, decide_eq_true_eq]
    unfold maxImage
    omega
  · refine if_pos ?_
    simp only [between, Bool.and_eq_true, decide_eq_true_eq]
    unfold maxImage
    omega
  · rfl
  · rfl
  · rfl

theorem State.fetched_of_error {s : State} {img : List Byte} {code off : Nat} (h : headerCheck img = .error (code, off)) :
    s.fetched img = s.refuse code 0xFFFF 0 off := by
  simp only [State.fetched, h]

theorem State.fetched_of_ok {s : State} {img : List Byte} (h : headerCheck img = .ok ()) : s.fetched img =
    ((s.modLoad fun l => { l with image := img.take (u32At img 8) }).wr Reg.IMAGE_STATUS.STATE 2).modPower fun p => { p with step := 7 } := by
  simp only [State.fetched, h]

theorem State.showFlash_does (s : State) (ok : Bool) (mb : Nat) : (s.showFlash ok mb).rd Reg.IMAGE_BOOT.SFDP_OK = b01 ok ∧
    (s.showFlash ok mb).rd Reg.IMAGE_BOOT.SECONDARY = b01 (ok && decide (128 ≤ mb)) := by
  simp (disch := decide +kernel) only [State.showFlash, State.rd_wr_apart, State.rd_wr_same]
  exact ⟨b01_mod _, b01_mod _⟩

theorem State.showFlash_parts (s : State) (ok : Bool) (mb : Nat) : (s.showFlash ok mb).load = s.load ∧
    (s.showFlash ok mb).host = s.host :=
  ⟨(State.showFlash_effect s ok mb).same .load (by decide), (State.showFlash_effect s ok mb).same .host (by decide)⟩

/-- The primary copy in the flash, fetched: discovered, and judged by its header. -/
theorem State.fetchDone_primary {s : State} (mb : Nat) (img : List Byte) (hstate : s.rd Reg.IMAGE_STATUS.STATE = 1)
    (hsource : s.rd Reg.IMAGE_STATUS.SOURCE = 0) : s.fetchDone true mb img = (s.showFlash true mb).fetched img ∧
    s.fetchDone false mb img = (s.showFlash false mb).refuse 0x201 0xFFFF 0 0 := by
  constructor <;> simp [State.fetchDone, hstate, hsource]

/-! ### Authentication (R78) -/

theorem authenticate_ok {x : Silicon} {f : Fuses} {img : List Byte} (h : authenticate x f img = .ok ()) :
    f.slots.any KeySlot.live = true ∧ u8At img 29 < 4 ∧ (f.slot (u8At img 29)).live = true ∧ f.epoch ≤ u8At img 28 ∧ u8At img 28 ≤ 63 := by
  simp only [authenticate, need_bind] at h
  split_ifs at h with hany hslot _ _ hepoch _
  simp only [between, Bool.and_eq_true, decide_eq_true_eq] at hslot hepoch
  exact ⟨hany, hslot.1, hslot.2, hepoch.1, hepoch.2⟩

theorem authenticate_error {x : Silicon} {f : Fuses} {img : List Byte} {code off : Nat} (h : authenticate x f img = .error (code, off)) :
    0x301 ≤ code ∧ code ≤ 0x307 := by
  simp only [authenticate, need_bind] at h
  unfold need at h
  split_ifs at h <;> simp only [Except.error.injEq, Prod.mk.injEq] at h <;> omega

theorem authenticate_noKey {x : Silicon} {f : Fuses} {img : List Byte} (h : f.slots.any KeySlot.live = false) :
    authenticate x f img = .error (0x301, img.length - 256) := by
  simp only [authenticate, need_bind, h]
  rfl

theorem authenticate_badSlot {x : Silicon} {f : Fuses} {img : List Byte} (hany : f.slots.any KeySlot.live = true)
    (h : 4 ≤ u8At img 29 ∨ (f.slot (u8At img 29)).live = false) : authenticate x f img = .error (0x302, 29) := by
  simp only [authenticate, need_bind, hany, if_true]
  refine if_neg ?_
  simp only [Bool.and_eq_true, decide_eq_true_eq]
  rintro ⟨hslot, hlive⟩
  rcases h with hbeyond | hdead
  · omega
  · exact absurd hlive (by rw [hdead]; decide)

/-- An image in authentication that is refused. -/
theorem State.imageAuthenticate_refuses {s : State} {code off : Nat} (hstate : s.rd Reg.IMAGE_STATUS.STATE = 2)
    (h : authenticate s.silicon s.fuses s.load.image = .error (code, off)) : s.imageAuthenticate = s.refuse code 0xFFFF 0 off := by
  simp [State.imageAuthenticate, hstate, h]

theorem State.imageAuthenticate_passes {s : State} (hstate : s.rd Reg.IMAGE_STATUS.STATE = 2)
    (h : authenticate s.silicon s.fuses s.load.image = .ok ()) :
    s.imageAuthenticate = (s.wr Reg.IMAGE_STATUS.STATE 3).modPower fun p => { p with step := 8 } := by
  simp [State.imageAuthenticate, hstate, h]

/-! ### The sections (R73) -/

theorem State.sectionChecks_passes {s : State} {f : FrameCfg} {c : Cfg} (hstate : s.rd Reg.IMAGE_STATUS.STATE = 3)
    (h : checkImage s.silicon.variant s.load.image = (some f, .ok c)) : s.sectionChecks =
    (((s.startTimer f).modLoad fun l => { l with built := some c }).wr Reg.IMAGE_STATUS.STATE 4).modPower fun p => { p with step := 9 } := by
  simp [State.sectionChecks, hstate, h]

/-- Sections that fail: the frame timer may have started, and the load ends refused. -/
theorem State.sectionChecks_refuses {s : State} {code index type off : Nat} {f : Option FrameCfg} (hstate : s.rd Reg.IMAGE_STATUS.STATE = 3)
    (h : checkImage s.silicon.variant s.load.image = (f, .error (code, index, type, off))) :
    ∃ u : State, s.sectionChecks = u.refuse code index type off ∧ u.load = s.load ∧ u.host = s.host ∧ u.cfg = s.cfg := by
  cases f with
  | none => exact ⟨s, by simp [State.sectionChecks, hstate, h], rfl, rfl, rfl⟩
  | some f =>
    have hstarted := State.startTimer_effect s f
    exact ⟨s.startTimer f, by simp [State.sectionChecks, hstate, h], hstarted.same .load (by decide), hstarted.same .host (by decide),
      hstarted.same .cfg (by decide)⟩

theorem State.startTimer_does (s : State) (f : FrameCfg) : (s.startTimer f).ticking = true ∧
    (s.startTimer f).rd Reg.FRAME_PERIOD.PERIOD = f.period % 65536 := by
  unfold State.ticking State.on
  simp (disch := decide +kernel) only [State.startTimer, State.modFr_rd, State.rd_wr_apart, State.rd_wr_same]
  exact ⟨rfl, rfl⟩


/-! ### The commands -/

theorem exec_dramInitDone (s : State) (ok : Bool) (t : Nat) : exec (.dramInitDone ok t) s = done ((s.elapse t).dramInit ok) := rfl

theorem exec_imageFetchDone (s : State) (ok : Bool) (mb t : Nat) (b : List Byte) :
    exec (.imageFetchDone ok mb b t) s = done ((s.elapse t).fetchDone ok mb b) := rfl

theorem exec_flashTimeout (s : State) (t : Nat) : exec (.flashTimeout t) s = done (s.elapse t).flashTimeout := rfl

theorem exec_imageAbort (s : State) (t : Nat) : exec (.imageAbort t) s = done (s.elapse t).imageAbort := rfl

theorem exec_imageLoad (s : State) (k : Fin 4) (t : Nat) : exec (.imageLoad k t) s = done ((s.elapse t).imageLoad k.val) := rfl

theorem exec_imageAuthenticate (s : State) (t : Nat) : exec (.imageAuthenticate t) s = done (s.elapse t).imageAuthenticate := rfl

theorem exec_sectionChecks (s : State) (t : Nat) : exec (.sectionChecks t) s = done (s.elapse t).sectionChecks := rfl

/-- What the registers of a load show at the instant of a command. -/
theorem State.elapse_imageState (s : State) (t : Nat) : (s.elapse t).rd Reg.IMAGE_STATUS.STATE = s.rd Reg.IMAGE_STATUS.STATE :=
  s.elapse_rd t _ 0 0 (by decide +kernel)

theorem State.elapse_imageSource (s : State) (t : Nat) : (s.elapse t).rd Reg.IMAGE_STATUS.SOURCE = s.rd Reg.IMAGE_STATUS.SOURCE :=
  s.elapse_rd t _ 0 0 (by decide +kernel)

theorem State.elapse_loadRuns (s : State) (t : Nat) : (s.elapse t).loadRuns = s.loadRuns := by
  unfold State.loadRuns
  rw [s.elapse_imageState]

/-- DRAM has come up: step 6 begins. -/
def State.dramThere (s : State) : State :=
  ((s.modLoad fun l => { l with dram := true }).wr Reg.DOMAIN_STATE.DRAM_ACTIVE 1).modPower fun p => { p with step := 6 }

theorem State.dramInit_begins {s : State} {l : List Nat} (hheld : s.power.held = false) (hstep : s.power.step = 5)
    (hstate : s.rd Reg.IMAGE_STATUS.STATE = 0) (hdelivery : s.host.delivery = none) (hsources : s.load.sources = 0 :: l) :
    s.dramInit true = (s.dramThere.modLoad fun x => { x with sources := l }).loadBegun 0 := by
  have hload : s.dramThere.load = { s.load with dram := true } := State.wr_load ..
  have hhost : s.dramThere.host = s.host := State.wr_host ..
  have hthere : s.dramThere.rd Reg.IMAGE_STATUS.STATE = 0 := (State.rd_wr_apart _ _ _ _ _ _ (by decide +kernel)).trans hstate
  rw [← State.tryNext_primary (by rw [hload, hsources]) (by rw [hload]) (by rw [hhost, hdelivery])]
  unfold State.dramInit
  rw [if_neg (by simp [hheld, hstep])]
  exact if_pos hthere

theorem State.dramInit_refuses {s : State} (hheld : s.power.held = false) (hstep : s.power.step = 5) :
    s.dramInit false = (s.modLoad fun l => { l with sources := [] }).endRefused 0x204 0xFFFF 0 0 := by
  simp [State.dramInit, hheld, hstep]

/-- A fetch that ends with the header refused. -/
theorem State.fetchDone_refuses {s : State} {mb code off : Nat} {b : List Byte} (hstate : s.rd Reg.IMAGE_STATUS.STATE = 1)
    (hsource : s.rd Reg.IMAGE_STATUS.SOURCE = 0) (hsources : s.load.sources = []) (hdelivery : s.host.delivery = none)
    (hcheck : headerCheck b = .error (code, off)) :
    RefusedWith (s.showFlash true mb) (s.fetchDone true mb b).settle code 0xFFFF 0 off := by
  obtain ⟨hload, hhost⟩ := s.showFlash_parts true mb
  rw [(State.fetchDone_primary mb b hstate hsource).1, State.fetched_of_error hcheck]
  exact State.refuse_settle (by rw [hload, hsources]) (by rw [hhost, hdelivery])

/-- A load from the staging area, which holds 1 byte to 64 MB. -/
theorem State.imageLoad_staging {s : State} (hdevice : s.device = stKickOff) (hheld : s.power.held = false) (hstep : s.power.step = 6)
    (hruns : s.loadRuns = false) (hdram : s.load.dram = true) (hsources : s.load.sources = []) (hdelivery : s.host.delivery = none) :
    s.imageLoad 2 = if s.rd Reg.IMAGE_STAGE_SIZE.SIZE = 0 ∨ maxImage < s.rd Reg.IMAGE_STAGE_SIZE.SIZE
      then ((s.wr Reg.IMAGE_CTRL.SRC 2).loadBegun 2).endRefused 0x203 0xFFFF 0 0 else (s.wr Reg.IMAGE_CTRL.SRC 2).loadBegun 2 := by
  have hwr := State.wr_effect s Reg.IMAGE_CTRL.SRC 2 0 0
  have hsize : (s.wr Reg.IMAGE_CTRL.SRC 2).rd Reg.IMAGE_STAGE_SIZE.SIZE = s.rd Reg.IMAGE_STAGE_SIZE.SIZE :=
    State.rd_wr_apart _ _ _ _ _ _ (by decide +kernel)
  have hacts : ¬ ((s.wr Reg.IMAGE_CTRL.SRC 2).device ≠ stKickOff ∨ (s.wr Reg.IMAGE_CTRL.SRC 2).power.held = true ∨
      (s.wr Reg.IMAGE_CTRL.SRC 2).power.step ≠ 6 ∨ (s.wr Reg.IMAGE_CTRL.SRC 2).loadRuns = true) := by
    unfold State.device at hdevice ⊢
    unfold State.loadRuns at hruns ⊢
    rw [State.wr_power, State.rd_wr_apart _ _ _ _ _ _ (by decide +kernel), State.rd_wr_apart _ _ _ _ _ _ (by decide +kernel)]
    simp [hdevice, hheld, hstep, hruns]
  obtain ⟨hbegun, -, -⟩ := (s.wr Reg.IMAGE_CTRL.SRC 2).loadBegun_does 2
  obtain ⟨-, hhost, hload⟩ := (s.wr Reg.IMAGE_CTRL.SRC 2).loadBegun_parts 2
  obtain ⟨hended, -⟩ := ((s.wr Reg.IMAGE_CTRL.SRC 2).loadBegun 2).endRefused_does 0x203 0xFFFF 0 0
  obtain ⟨-, hleft, -, hnone⟩ := ((s.wr Reg.IMAGE_CTRL.SRC 2).loadBegun 2).endRefused_parts 0x203 0xFFFF 0 0
  unfold State.imageLoad
  simp only [if_neg hacts]
  rw [State.beginLoad_eq (by rw [State.wr_load, hdram]), hsize]
  simp only [true_and]
  split
  · rw [if_neg (by unfold State.loadRuns; rw [hended]; decide)]
    exact State.tryNext_waits (by rw [hleft, hload, State.wr_load, hsources]) (hnone (by rw [hhost, State.wr_host, hdelivery]))
  · rw [if_pos (by unfold State.loadRuns; rw [hbegun]; decide)]

/-- IMAGE_AUTHENTICATE of an image that one of the seven checks refuses. -/
theorem exec_imageAuthenticate_refuses {s : State} {code off : Nat} (t : Nat) (hstate : s.rd Reg.IMAGE_STATUS.STATE = 2)
    (herror : authenticate s.silicon s.fuses s.load.image = .error (code, off)) (hsources : s.load.sources = [])
    (hdelivery : s.host.delivery = none) :
    ∃ n, exec (.imageAuthenticate t) s = .next n ∧ RefusedWith (s.elapse t) n code 0xFFFF 0 off :=
  ⟨_, (exec_imageAuthenticate s t).trans (congrArg done (State.imageAuthenticate_refuses ((s.elapse_imageState t).trans hstate)
      (by rw [s.elapse_silicon, s.elapse_fuses, s.elapse_load, herror]))),
    State.refuse_settle (by rw [s.elapse_load, hsources]) (by rw [s.elapse_host, hdelivery])⟩

/-- Settles O16: the fetch, the seven checks and the sections, each by the state of IMAGE_STATUS that its command finds. -/
theorem loaderFetchesAndAuthenticates : Obligations.LoaderFetchesAndAuthenticates := by
  unfold Obligations.LoaderFetchesAndAuthenticates
  refine ⟨?dram, ?noDram, ?fetched, ?secondary, ?header, ?noSfdp, ?timeout, ?idle, ?abort, ?staging, ?ignored, ?authentic, ?refused,
    ?noKey, ?badSlot, ?sections, ?sectionFails, ?otherState⟩
  case dram =>
    intro s t l hheld hstep hstate hdelivery hsources
    have hexec := exec_dramInitDone s true t
    have hbegins := State.dramInit_begins (s := s.elapse t) (l := l) (by rw [s.elapse_power, hheld]) (by rw [s.elapse_power, hstep])
      ((s.elapse_imageState t).trans hstate) (by rw [s.elapse_host, hdelivery]) (by rw [s.elapse_load, hsources])
    have hexec := (exec_dramInitDone s true t).trans (congrArg done hbegins)
    obtain ⟨hrunning, hsource, -⟩ := ((s.elapse t).dramThere.modLoad fun x => { x with sources := l }).loadBegun_does 0
    obtain ⟨hpower, -, hload⟩ := ((s.elapse t).dramThere.modLoad fun x => { x with sources := l }).loadBegun_parts 0
    have hthere : (s.elapse t).dramThere.load = { s.load with dram := true } := by
      unfold State.dramThere
      rw [State.modPower_load, State.wr_load, State.modLoad_load, s.elapse_load]
    have htime : (s.elapse t).dramThere.time = (s.elapse t).time := State.wr_time ..
    rw [State.modLoad_load, State.modLoad_time, hthere, htime] at hload
    refine ⟨_, hexec, ?_, ?_, ?_, ?_, ?_, ?_, ?_, Effect.of_exec (execDramInitDone_effect true t s) hexec (by decide) (by decide +kernel)⟩
    · rw [State.settle_load, hload]
    · rw [State.settle_rd _ _ _ _ (by decide +kernel), State.loadBegun_rd _ (by decide +kernel), State.modLoad_rd, State.dramThere,
        State.modPower_rd, State.rd_wr_same _ _ _ _ _ rfl (by decide)]
      rfl
    · rw [State.settle_power, hpower]
      rfl
    · rw [State.settle_rd _ _ _ _ (by decide +kernel), hrunning]
    · rw [State.settle_rd _ _ _ _ (by decide +kernel), hsource]
    · rw [State.settle_load, hload]
    · rw [State.settle_load, hload]
  case noDram =>
    intro s t hheld hstep
    have hexec := (exec_dramInitDone s false t).trans
      (congrArg done (State.dramInit_refuses (by rw [s.elapse_power, hheld]) (by rw [s.elapse_power, hstep])))
    have h := ((s.elapse t).modLoad fun l => { l with sources := [] }).endRefused_settle 0x204 0xFFFF 0 0
    refine ⟨_, hexec, h.state, h.code, h.index, h.done, by rw [h.load]; rfl, ?_⟩
    unfold State.device
    rw [State.settle_rd _ _ _ _ (by decide +kernel), (State.endRefused_effect _ _ _ _ _).rd _ 0 0 (by decide +kernel), State.modLoad_rd]
    exact s.elapse_rd t _ 0 0 (by decide +kernel)
  case fetched =>
    intro s mb t b hstate hsource hmagic hmajor hminor hleast hmost hall
    have hcheck : headerCheck b = .ok () := by
      rw [headerCheck_eq, if_neg (by simp [hmagic]), if_neg (by simp [hmajor]), if_neg (by simp [hminor]), if_neg (by omega)]
    have hpasses := (State.fetchDone_primary (s := s.elapse t) mb b ((s.elapse_imageState t).trans hstate)
      ((s.elapse_imageSource t).trans hsource)).1.trans (State.fetched_of_ok hcheck)
    have hexec := (exec_imageFetchDone s true mb t b).trans (congrArg done hpasses)
    obtain ⟨hsfdp, hsecondary⟩ := (s.elapse t).showFlash_does true mb
    refine ⟨_, hexec, ?_, ?_, ?_, ?_, ?_, Effect.of_exec (execImageFetchDone_effect true mb b t s) hexec (by decide) (by decide +kernel)⟩
    · rw [State.settle_rd _ _ _ _ (by decide +kernel), State.modPower_rd, State.rd_wr_same _ _ _ _ _ rfl (by decide)]
      rfl
    · rw [State.settle_power]
      rfl
    · rw [State.settle_load, State.modPower_load, State.wr_load]
      rfl
    · rw [State.settle_rd _ _ _ _ (by decide +kernel), State.modPower_rd, State.rd_wr_apart _ _ _ _ _ _ (by decide +kernel),
        State.modLoad_rd, hsfdp]
      rfl
    · rw [State.settle_rd _ _ _ _ (by decide +kernel), State.modPower_rd, State.rd_wr_apart _ _ _ _ _ _ (by decide +kernel),
        State.modLoad_rd, hsecondary, Bool.true_and]
  case secondary =>
    intro s mb t b l hstate hsource hmagic hsize hsources hdram hdelivery
    have hcheck : headerCheck b = .error (0x101, 0) := by
      rw [headerCheck_eq, if_pos hmagic]
    obtain ⟨hload, hhost⟩ := (s.elapse t).showFlash_parts true mb
    obtain ⟨-, hflash⟩ := (s.elapse t).showFlash_does true mb
    obtain ⟨-, hleft, -, hnone⟩ := ((s.elapse t).showFlash true mb).endRefused_parts 0x101 0xFFFF 0 0
    obtain ⟨-, hcode, -⟩ := ((s.elapse t).showFlash true mb).endRefused_does 0x101 0xFFFF 0 0
    have hsecondary : (((s.elapse t).showFlash true mb).endRefused 0x101 0xFFFF 0 0).rd Reg.IMAGE_BOOT.SECONDARY = 1 := by
      rw [(State.endRefused_effect _ _ _ _ _).rd _ 0 0 (by decide +kernel), hflash, decide_eq_true hsize]
      rfl
    have hnext := State.tryNext_secondary (s := ((s.elapse t).showFlash true mb).endRefused 0x101 0xFFFF 0 0) (l := l)
      (by rw [hleft, hload, s.elapse_load, hsources]) (by rw [hleft, hload, s.elapse_load, hdram]) hsecondary
      (hnone (by rw [hhost, s.elapse_host, hdelivery]))
    have hfetch := (State.fetchDone_primary (s := s.elapse t) mb b ((s.elapse_imageState t).trans hstate)
      ((s.elapse_imageSource t).trans hsource)).1.trans (State.fetched_of_error hcheck)
    have hexec := (exec_imageFetchDone s true mb t b).trans (congrArg done (hfetch.trans hnext))
    obtain ⟨hbegun, hfrom, -⟩ := State.loadBegun_does (((((s.elapse t).showFlash true mb).endRefused 0x101 0xFFFF 0 0).modLoad fun x =>
      { x with sources := l }).wr Reg.IMAGE_PRIMARY_CODE.CODE
        ((((s.elapse t).showFlash true mb).endRefused 0x101 0xFFFF 0 0).rd Reg.IMAGE_STATUS.CODE)) 1
    refine ⟨_, hexec, ?_, ?_, ?_, ?_⟩
    · rw [State.settle_rd _ _ _ _ (by decide +kernel), hbegun]
    · rw [State.settle_rd _ _ _ _ (by decide +kernel), hfrom]
    · rw [State.settle_rd _ _ _ _ (by decide +kernel), State.loadBegun_rd _ (by decide +kernel), State.rd_wr_same _ _ _ _ _ rfl (by decide),
        hcode]
      rfl
    · rw [State.settle_load, (State.loadBegun_parts _ 1).2.2, State.wr_load]
      rfl
  case header =>
    intro s mb t c o b hstate hsource hsources hdelivery hc hsize
    have hcheck : headerCheck b = .error (c, o) := by
      rw [headerCheck_eq]
      split_ifs at hc ⊢ with hmagic hmajor hminor hbad
      · rw [hc]
      · rw [hc]
      · rw [hc]
      · rw [hc]
      · exact absurd (hsize (congrArg Prod.fst hc)) hbad
    have hcode : c < 65536 ∧ o < 4294967296 := by
      split_ifs at hc <;> simp only [Prod.mk.injEq] at hc <;> omega
    have h := State.fetchDone_refuses (s := s.elapse t) (mb := mb) ((s.elapse_imageState t).trans hstate)
      ((s.elapse_imageSource t).trans hsource) (by rw [s.elapse_load, hsources]) (by rw [s.elapse_host, hdelivery]) hcheck
    exact ⟨_, exec_imageFetchDone s true mb t b, h.state, h.code.trans (Nat.mod_eq_of_lt hcode.1),
      h.offset.trans (Nat.mod_eq_of_lt hcode.2), h.index, h.step⟩
  case noSfdp =>
    intro s mb t b hstate hsource hsources hdelivery
    obtain ⟨hload, hhost⟩ := (s.elapse t).showFlash_parts false mb
    have hexec := (exec_imageFetchDone s false mb t b).trans (congrArg done (State.fetchDone_primary (s := s.elapse t) mb b
      ((s.elapse_imageState t).trans hstate) ((s.elapse_imageSource t).trans hsource)).2)
    have h := State.refuse_settle (s := (s.elapse t).showFlash false mb) (code := 0x201) (index := 0xFFFF) (type := 0) (off := 0)
      (by rw [hload, s.elapse_load, hsources]) (by rw [hhost, s.elapse_host, hdelivery])
    exact ⟨_, hexec, h.state, h.code⟩
  case timeout =>
    intro s t hstate hsource hlong hsources hdelivery
    have hends : (s.elapse t).flashTimeout = (s.elapse t).refuse 0x202 0xFFFF 0 0 :=
      if_pos ⟨(s.elapse_imageState t).trans hstate, by rwa [s.elapse_imageSource], by rwa [s.elapse_load]⟩
    have hexec := (exec_flashTimeout s t).trans (congrArg done hends)
    have h := State.refuse_settle (s := s.elapse t) (code := 0x202) (index := 0xFFFF) (type := 0) (off := 0)
      (by rw [s.elapse_load, hsources]) (by rw [s.elapse_host, hdelivery])
    exact ⟨_, hexec, h.state, h.code, Effect.of_exec (execFlashTimeout_effect t s) hexec (by decide) (by decide +kernel)⟩
  case idle =>
    intro s t hstate
    have hflash : (s.elapse t).flashTimeout = s.elapse t := if_neg (by rw [s.elapse_imageState]; omega)
    have habort : (s.elapse t).imageAbort = s.elapse t := if_neg (by
      rw [s.elapse_imageState]
      simp only [between, Bool.and_eq_true, decide_eq_true_eq]
      omega)
    exact ⟨⟨_, (exec_flashTimeout s t).trans (congrArg done hflash), s.elapse_settle_effect t⟩,
      _, (exec_imageAbort s t).trans (congrArg done habort), s.elapse_settle_effect t⟩
  case abort =>
    intro s t hleast hmost hsources hdelivery
    have hends : (s.elapse t).imageAbort = (s.elapse t).refuse 0x205 0xFFFF 0 0 := if_pos (by
      rw [s.elapse_imageState]
      simp only [between, Bool.and_eq_true, decide_eq_true_eq]
      exact ⟨hleast, hmost⟩)
    have hexec := (exec_imageAbort s t).trans (congrArg done hends)
    have h := State.refuse_settle (s := s.elapse t) (code := 0x205) (index := 0xFFFF) (type := 0) (off := 0)
      (by rw [s.elapse_load, hsources]) (by rw [s.elapse_host, hdelivery])
    exact ⟨_, hexec, h.state, h.code, h.stopped, by rw [h.load],
      Effect.of_exec (execImageAbort_effect t s) hexec (by decide) (by decide +kernel)⟩
  case staging =>
    intro s t hdevice hheld hstep hruns hdram hsources hdelivery
    have hload := State.imageLoad_staging (s := s.elapse t) ((s.elapse_device t).trans hdevice) (by rw [s.elapse_power, hheld])
      (by rw [s.elapse_power, hstep]) ((s.elapse_loadRuns t).trans hruns) (by rw [s.elapse_load, hdram]) (by rw [s.elapse_load, hsources])
      (by rw [s.elapse_host, hdelivery])
    rw [s.elapse_rd t _ 0 0 (by decide +kernel)] at hload
    obtain ⟨hbegun, hsource, hcode⟩ := ((s.elapse t).wr Reg.IMAGE_CTRL.SRC 2).loadBegun_does 2
    by_cases hsize : s.rd Reg.IMAGE_STAGE_SIZE.SIZE = 0 ∨ maxImage < s.rd Reg.IMAGE_STAGE_SIZE.SIZE
    · have hexec := (exec_imageLoad s 2 t).trans (congrArg done (hload.trans (if_pos hsize)))
      have hbad : ¬ (1 ≤ s.rd Reg.IMAGE_STAGE_SIZE.SIZE ∧ s.rd Reg.IMAGE_STAGE_SIZE.SIZE ≤ 67108864) := by
        unfold maxImage at hsize
        omega
      have h := (((s.elapse t).wr Reg.IMAGE_CTRL.SRC 2).loadBegun 2).endRefused_settle 0x203 0xFFFF 0 0
      refine ⟨_, hexec, ?_, ?_, ?_, Effect.of_exec (execImageLoad_effect 2 t s) hexec (by decide) (by decide +kernel)⟩
      · rw [State.settle_rd _ _ _ _ (by decide +kernel), State.endRefused_source, hsource]
      · rw [h.state, if_neg hbad]
      · rw [h.code, if_neg hbad]
    · have hexec := (exec_imageLoad s 2 t).trans (congrArg done (hload.trans (if_neg hsize)))
      have hgood : 1 ≤ s.rd Reg.IMAGE_STAGE_SIZE.SIZE ∧ s.rd Reg.IMAGE_STAGE_SIZE.SIZE ≤ 67108864 := by
        unfold maxImage at hsize
        omega
      refine ⟨_, hexec, ?_, ?_, ?_, Effect.of_exec (execImageLoad_effect 2 t s) hexec (by decide) (by decide +kernel)⟩
      · rw [State.settle_rd _ _ _ _ (by decide +kernel), hsource]
      · rw [State.settle_rd _ _ _ _ (by decide +kernel), hbegun, if_pos hgood]
      · rw [State.settle_rd _ _ _ _ (by decide +kernel), hcode, if_pos hgood]
  case ignored =>
    intro s k t h
    have hdevice : ((s.elapse t).wr Reg.IMAGE_CTRL.SRC k.val).device = s.device :=
      (State.rd_wr_apart _ _ _ _ _ _ (by decide +kernel)).trans (s.elapse_device t)
    have hruns : ((s.elapse t).wr Reg.IMAGE_CTRL.SRC k.val).loadRuns = s.loadRuns := by
      rw [← s.elapse_loadRuns t]
      unfold State.loadRuns
      rw [State.rd_wr_apart _ _ _ _ _ _ (by decide +kernel)]
    have hwrites : (s.elapse t).imageLoad k.val = (s.elapse t).wr Reg.IMAGE_CTRL.SRC k.val :=
      if_pos (by rwa [hdevice, hruns, State.wr_power, s.elapse_power])
    exact ⟨_, (exec_imageLoad s k t).trans (congrArg done hwrites), (State.wr_effect _ _ _ _ _).timed (by decide) (by decide +kernel)⟩
  case authentic =>
    intro s t hstate hok
    obtain ⟨hany, hslot, hlive, hleast, hmost⟩ := authenticate_ok hok
    have hexec := (exec_imageAuthenticate s t).trans (congrArg done (State.imageAuthenticate_passes
      ((s.elapse_imageState t).trans hstate) (by rw [s.elapse_silicon, s.elapse_fuses, s.elapse_load, hok])))
    refine ⟨_, hexec, ?_, ?_, ?_, ?_, hany, hslot, hlive, hleast, hmost,
      Effect.of_exec (execImageAuthenticate_effect t s) hexec (by decide) (by decide +kernel)⟩
    · rw [State.settle_rd _ _ _ _ (by decide +kernel), State.modPower_rd, State.rd_wr_same _ _ _ _ _ rfl (by decide)]
      rfl
    · rw [State.settle_power]
      rfl
    · rw [State.settle_load, State.modPower_load, State.wr_load, s.elapse_load]
    · rw [State.settle_cfg, State.modPower_cfg, State.wr_cfg, s.elapse_cfg]
  case refused =>
    intro s t c o hstate herror hsources hdelivery
    obtain ⟨n, hexec, h⟩ := exec_imageAuthenticate_refuses t hstate herror hsources hdelivery
    obtain ⟨hleast, hmost⟩ := authenticate_error herror
    exact ⟨n, hexec, h.state, h.code.trans (Nat.mod_eq_of_lt (by omega)), h.offset, h.cfg.trans (s.elapse_cfg t), hleast, hmost⟩
  case noKey =>
    intro s t hstate hnone hsources hdelivery
    obtain ⟨n, hexec, h⟩ := exec_imageAuthenticate_refuses t hstate (authenticate_noKey hnone) hsources hdelivery
    exact ⟨n, hexec, h.state, h.code⟩
  case badSlot =>
    intro s t hstate hany hslot hsources hdelivery
    obtain ⟨n, hexec, h⟩ := exec_imageAuthenticate_refuses t hstate (authenticate_badSlot hany hslot) hsources hdelivery
    exact ⟨n, hexec, h.state, h.code⟩
  case sections =>
    intro s t f c hstate hcheck
    have hexec := (exec_sectionChecks s t).trans (congrArg done (State.sectionChecks_passes
      ((s.elapse_imageState t).trans hstate) (by rw [s.elapse_silicon, s.elapse_load, hcheck])))
    obtain ⟨hticks, hperiod⟩ := (s.elapse t).startTimer_does f
    have hstarted := State.startTimer_effect (s.elapse t) f
    refine ⟨_, hexec, ?_, ?_, ?_, ?_, ?_, ?_, Effect.of_exec (execSectionChecks_effect t s) hexec (by decide) (by decide +kernel)⟩
    · rw [State.settle_rd _ _ _ _ (by decide +kernel), State.modPower_rd, State.rd_wr_same _ _ _ _ _ rfl (by decide)]
      rfl
    · rw [State.settle_power]
      rfl
    · rw [State.settle_load, State.modPower_load, State.wr_load]
      rfl
    · unfold State.ticking State.on at hticks ⊢
      rwa [State.settle_rd _ _ _ _ (by decide +kernel), State.modPower_rd, State.rd_wr_apart _ _ _ _ _ _ (by decide +kernel), State.modLoad_rd]
    · rw [State.settle_rd _ _ _ _ (by decide +kernel), State.modPower_rd, State.rd_wr_apart _ _ _ _ _ _ (by decide +kernel),
        State.modLoad_rd, hperiod]
    · rw [State.settle_cfg, State.modPower_cfg, State.wr_cfg, State.modLoad_cfg, hstarted.same .cfg (by decide), s.elapse_cfg]
  case sectionFails =>
    intro s t k i y o f hstate hcheck hsources hdelivery
    obtain ⟨u, hends, hload, hhost, hcfg⟩ := State.sectionChecks_refuses (s := s.elapse t) ((s.elapse_imageState t).trans hstate)
      (by rw [s.elapse_silicon, s.elapse_load, hcheck])
    have hexec := (exec_sectionChecks s t).trans (congrArg done hends)
    have h := State.refuse_settle (s := u) (code := k) (index := i) (type := y) (off := o) (by rw [hload, s.elapse_load, hsources])
      (by rw [hhost, s.elapse_host, hdelivery])
    exact ⟨_, hexec, h.state, h.code, h.index, h.type, h.offset, h.stopped, by rw [h.load], by rw [h.cfg, hcfg, s.elapse_cfg]⟩
  case otherState =>
    intro s t hauthentic hsections
    have hsame : (s.elapse t).imageAuthenticate = s.elapse t := if_pos (by rwa [s.elapse_imageState])
    have hsame' : (s.elapse t).sectionChecks = s.elapse t := if_pos (by rwa [s.elapse_imageState])
    exact ⟨⟨_, (exec_imageAuthenticate s t).trans (congrArg done hsame), s.elapse_settle_effect t⟩,
      _, (exec_sectionChecks s t).trans (congrArg done hsame'), s.elapse_settle_effect t⟩


end Sys2Proof.Machine
end

section
namespace Sys2Proof.Machine

set_option Elab.async false

/-! ### Event bits and events of the keep domain -/

/-- A bit that is set in a field wide enough for it. -/
theorem hasBit_setBit_width (w : Nat) {b k : Nat} (hb : b < k) : hasBit (setBit w b % 2 ^ k) b = true := by
  have hset := hasBit_setBit_same w b
  rw [hasBit_eq_testBit] at hset ⊢
  rw [Nat.testBit_mod_two_pow, hset, decide_eq_true hb, Bool.and_self]

theorem State.evBit_has (s : State) (f : Field) {b : Nat} (hb : b < f.width) (hhas : f.has 0 0 = true) (hdom : f.dom ≠ .fixed) :
    hasBit ((s.evBit f b).rd f) b = true := by
  unfold State.evBit
  rw [State.rd_wr_same _ _ _ _ _ hhas hdom]
  exact hasBit_setBit_width _ hb

/-- A source in the keep domain has no bridge between it and the collector (R359). -/
theorem State.raise_keepSource (s : State) {pos : Nat} (hpos : keepSource pos = true) (detail : Nat) : s.raise pos detail =
    { s with faults := { s.faults with
      waiting := insertEvt ⟨pos, detail % 65536, s.frameNo, s.ticking, s.count, false⟩ s.faults.waiting } } := by
  simp [State.raise, State.raiseVia, hpos]

theorem raises_raise_keepSource {a s : State} (h : s.evtAt = a.evtAt) {pos : Nat} (hpos : keepSource pos = true) (detail : Nat) :
    raises a (s.raise pos detail) pos detail := by
  simp only [State.evtAt, Prod.mk.injEq] at h
  obtain ⟨hno, hrun, hcount, hwait, -⟩ := h
  rw [State.raise_keepSource s hpos]
  simp only [raises, State.evt, hpos, hno, hrun, hcount, hwait, Bool.not_true]

theorem State.wakeFailNote_does (s : State) (kind item : Nat) : (s.wakeFailNote kind item).rd Reg.POWER_WAKE_FAIL.KIND = kind % 8 ∧
    (s.wakeFailNote kind item).rd Reg.POWER_WAKE_FAIL.ITEM = item % 32 ∧
    hasBit ((s.wakeFailNote kind item).rd Reg.POWER_EVENT.EVENTS) 4 = true := by
  refine ⟨?_, ?_, State.evBit_has _ _ (by decide) rfl (by decide)⟩ <;>
    simp (disch := decide +kernel) only [State.wakeFailNote, State.evBit, State.rd_wr_apart, State.rd_wr_same] <;> rfl

theorem State.wakeFailNote_power (s : State) (kind item : Nat) : (s.wakeFailNote kind item).power = s.power :=
  (State.wakeFailNote_effect s kind item).same .power (by decide)

/-! ### Rails in step 2 of kick-off (R65, R373) -/

theorem State.kickStep2_pgood (s : State) : s.kickStep2.power.pgood = s.power.pgood := by
  unfold State.kickStep2
  split
  · split
    · simp only [State.dormantPowered, State.modPower, State.wr_power]
    · rfl
  · rfl

theorem State.kickFrom2_pgood (s : State) : s.kickFrom2.power.pgood = s.power.pgood := by
  have hpower : (s.modPower fun p => { p with step := 2 }).showPgood.power = { s.power with step := 2 } := State.wr_power ..
  unfold State.kickFrom2
  rw [State.kickStep2_pgood, hpower]

theorem State.elapse_role (s : State) (t p : Nat) : (s.elapse t).role p = s.role p := by
  unfold State.role
  split <;> exact s.elapse_rd t _ 0 0 (by decide +kernel)

theorem State.elapse_railWanted (s : State) (t m : Nat) : (s.elapse t).railWanted m = s.railWanted m := by
  have hanalog : (s.elapse t).on Reg.POWER_DOMAIN_CTRL.ANALOG_OFF = s.on Reg.POWER_DOMAIN_CTRL.ANALOG_OFF :=
    congrArg (· != 0) (s.elapse_rd t _ 0 0 (by decide +kernel))
  have hbackbone : (s.elapse t).on Reg.POWER_DOMAIN_CTRL.BB_PHY_OFF = s.on Reg.POWER_DOMAIN_CTRL.BB_PHY_OFF :=
    congrArg (· != 0) (s.elapse_rd t _ 0 0 (by decide +kernel))
  simp only [State.railWanted, s.elapse_power, s.elapse_role, s.elapse_device, hanalog, hbackbone]

section
variable {s : State} {m : Nat}

/-- A VIN rail outside the planes, while the DEV reset is held and no domain is off. -/
theorem State.railPgood_vinRail (hsupplied : s.power.supplied = true) (hheld : s.power.held = true) (hstep : s.power.step = 2)
    (hrail : vinRails.contains m = true) (hA : m ≠ 2) (hB : m ≠ 3) (hanalog : s.power.analogOff = false) (hbackbone : s.power.bbOff = false) :
    s.railPgood m = (s.modPower fun p => { p with pgood := setBit p.pgood m }).showPgood.kickStep2 := by
  have hwanted : s.railWanted m = true := by
    unfold State.railWanted
    rw [hsupplied, hrail, hheld, hstep]
    rfl
  have hpower : (s.modPower fun p => { p with pgood := setBit p.pgood m }).showPgood.power =
    { s.power with pgood := setBit s.power.pgood m } := State.wr_power ..
  have hanalogBack : (s.modPower fun p => { p with pgood := setBit p.pgood m }).showPgood.analogBack =
      (s.modPower fun p => { p with pgood := setBit p.pgood m }).showPgood := by
    unfold State.analogBack
    rw [hpower]
    simp [hanalog]
  have hbbBack : (s.modPower fun p => { p with pgood := setBit p.pgood m }).showPgood.bbBack =
      (s.modPower fun p => { p with pgood := setBit p.pgood m }).showPgood := by
    unfold State.bbBack
    rw [hpower]
    simp [hbackbone]
  unfold State.railPgood
  simp only [hwanted, Bool.not_true, Bool.false_eq_true, if_false, hA, hB, or_self, hanalogBack, hbbBack]

theorem State.railPgood_does (hsupplied : s.power.supplied = true) (hheld : s.power.held = true) (hstep : s.power.step = 2)
    (hrail : vinRails.contains m = true) (hA : m ≠ 2) (hB : m ≠ 3) (hanalog : s.power.analogOff = false) (hbackbone : s.power.bbOff = false)
    (hdormant : s.power.dormantExit = false) (hreset : s.power.resetLowSince = none) :
    (s.railPgood m).power.pgood = setBit s.power.pgood m ∧
    (s.railPgood m).rd Reg.POWER_PGOOD.PGOOD = bitsOf (setBit s.power.pgood m) 2 18 ∧
    (s.railPgood m).power.step = if vinRails.all (hasBit (setBit s.power.pgood m)) then 3 else 2 := by
  rw [State.railPgood_vinRail hsupplied hheld hstep hrail hA hB hanalog hbackbone]
  have hpower : (s.modPower fun p => { p with pgood := setBit p.pgood m }).showPgood.power =
    { s.power with pgood := setBit s.power.pgood m } := State.wr_power ..
  refine ⟨by rw [State.kickStep2_pgood, hpower], ?_, ?_⟩
  · rw [(State.kickStep2_effect _).rd _ 0 0 (by decide +kernel)]
    exact (State.rd_wr_same _ _ _ _ _ rfl (by decide)).trans (Nat.mod_mod _ _)
  · rw [State.kickStep2_step (by rw [hpower, hdormant]) (by rw [hpower, hstep]), hpower, hreset]
    rfl

end

/-! ### A PLL that locks (R380, R381, R383) -/

section
variable {s : State} {n : Nat}

theorem State.pllLocked_eq (s : State) (n : Nat) : s.pllLocked n =
    ({ s with drawn := s.drawn + 1 }.wr Reg.CLOCK_PLL_STATUS.LOCK 1 n).wr Reg.CLOCK_PLL_STATUS.COUNT (Config.freeValue s.drawn) n := rfl

theorem State.pllLocked_rd (hn : n < 4) : (s.pllLocked n).rd Reg.CLOCK_PLL_STATUS.LOCK n = 1 := by
  have hhas : Reg.CLOCK_PLL_STATUS.LOCK.has n 0 = true := by simp [Field.has, Reg.CLOCK_PLL_STATUS.LOCK, hn]
  rw [State.pllLocked_eq, State.rd_wr_apart _ _ _ _ _ _ (by decide +kernel), State.rd_wr_same _ _ _ _ _ hhas (by decide)]
  rfl

theorem State.pllLocked_keepsOthers (s : State) (n : Nat) : keepsOthers Reg.CLOCK_PLL_STATUS.LOCK n s (s.pllLocked n) := by
  intro k hk j
  rw [State.pllLocked_eq, State.rd_wr_apart _ _ _ _ _ _ (by decide +kernel), State.wr_keepsOthers _ 1 n (by decide) k hk j]
  rfl

theorem State.pllLocked_power (s : State) (n : Nat) : (s.pllLocked n).power = s.power :=
  (State.pllLocked_effect s n).same .power (by decide)

/-- Whether every PLL is locked once one more is. -/
theorem State.pllLocked_all (hn : n < 4) : ((upTo 4).all fun k => (s.pllLocked n).on Reg.CLOCK_PLL_STATUS.LOCK k) =
    (upTo 4).all fun k => k == n || s.on Reg.CLOCK_PLL_STATUS.LOCK k := by
  have heach : ∀ k, (s.pllLocked n).on Reg.CLOCK_PLL_STATUS.LOCK k = (k == n || s.on Reg.CLOCK_PLL_STATUS.LOCK k) := fun k => by
    unfold State.on
    by_cases hk : k = n
    · rw [hk, State.pllLocked_rd hn]
      simp
    · rw [s.pllLocked_keepsOthers n k hk 0]
      simp [hk]
  simp only [heach]

/-- A lock at step 3 of kick-off. -/
theorem State.pllLock_kickOff (hn : n < 4) (hheld : s.power.held = true) (hstep : s.power.step = 3) : s.pllLock n =
    if (upTo 4).all (fun k => k == n || s.on Reg.CLOCK_PLL_STATUS.LOCK k) then (s.pllLocked n).modPower fun p => { p with step := 4 }
    else s.pllLocked n := by
  unfold State.pllLock
  rw [if_pos hheld, if_neg (by simp [hstep])]
  simp only [State.pllLocked_all hn]

theorem State.pllLock_kickOff_does (hn : n < 4) (hheld : s.power.held = true) (hstep : s.power.step = 3) :
    (s.pllLock n).rd Reg.CLOCK_PLL_STATUS.LOCK n = 1 ∧ keepsOthers Reg.CLOCK_PLL_STATUS.LOCK n s (s.pllLock n) ∧
    (s.pllLock n).power.step = if (upTo 4).all (fun k => k == n || s.on Reg.CLOCK_PLL_STATUS.LOCK k) then 4 else 3 := by
  rw [State.pllLock_kickOff hn hheld hstep]
  split
  · exact ⟨State.pllLocked_rd hn, s.pllLocked_keepsOthers n, rfl⟩
  · exact ⟨State.pllLocked_rd hn, s.pllLocked_keepsOthers n, by rw [State.pllLocked_power, hstep]⟩

/-- A PLL that has lost lock locks again: the clock it makes, SAFE_A and DRAM return. -/
theorem State.pllLock_lost_does (hn : n < 4) (hheld : s.power.held = false) (hrelocking : hasBit s.power.relocking n = false)
    (hlost : hasBit s.power.lost n = true) : (s.pllLock n).rd Reg.CLOCK_PLL_STATUS.LOCK n = 1 ∧
    hasBit ((s.pllLock n).rd Reg.CLOCK_EVENT.EVENTS) 1 = true ∧ (s.pllLock n).power.lost = clrBit s.power.lost n ∧
    (n = 3 → s.power.step ≠ 5 → (s.pllLock n).load.dram = true) := by
  unfold State.pllLock
  rw [if_neg (by simp [hheld]), if_neg (by simp [hrelocking]), if_pos hlost]
  extract_lets locked unlost clocked safe
  have hlock : locked.rd Reg.CLOCK_PLL_STATUS.LOCK n = 1 :=
    (State.rd_wr_apart _ _ _ _ _ _ (by decide +kernel)).trans (State.pllLocked_rd hn)
  have hevent := (s.pllLocked n).evBit_has Reg.CLOCK_EVENT.EVENTS (b := 1) (by decide) rfl (by decide)
  have hpower : locked.power = s.power := (State.wr_power ..).trans (s.pllLocked_power n)
  change hasBit (locked.rd Reg.CLOCK_EVENT.EVENTS) 1 = true at hevent
  clear_value locked
  have hclocked : Effect [.referee] (some []) unlost clocked := Effect.ite (State.engineClock_effect _) (Effect.refl _ _ _)
  have hsafe : Effect [] State.showSafe_fields clocked safe := Effect.ite (State.showSafe_effect _) (Effect.refl _ _ _)
  have hend : Effect [.load] (some [Reg.DOMAIN_STATE.DRAM_ACTIVE]) safe
      (if n = 3 ∧ safe.power.step ≠ 5 then (safe.modLoad fun l => { l with dram := true }).wr Reg.DOMAIN_STATE.DRAM_ACTIVE 1 else safe) :=
    Effect.ite (Effect.after (State.wr_effect ..) (by decide +kernel) ((State.modLoad_effect safe _).widen (by decide +kernel)))
      (Effect.refl _ _ _)
  have hstep : safe.power.step = s.power.step := by
    rw [hsafe.same .power (by decide), hclocked.same .power (by decide), ← hpower]
    rfl
  refine ⟨?_, ?_, ?_, fun hn3 h5 => ?_⟩
  · rw [hend.rd _ _ _ (by decide +kernel), hsafe.rd _ _ _ (by decide +kernel), hclocked.rd _ _ _ (by decide +kernel)]
    exact hlock
  · rw [hend.rd _ _ _ (by decide +kernel), hsafe.rd _ _ _ (by decide +kernel), hclocked.rd _ _ _ (by decide +kernel)]
    exact hevent
  · rw [hend.same .power (by decide), hsafe.same .power (by decide), hclocked.same .power (by decide), ← hpower]
    rfl
  · rw [if_pos ⟨hn3, by rwa [hstep]⟩, State.wr_load]
    rfl

/-- The last PLL that relocks for CLOCK_GO ends it (R381). -/
theorem State.goDone_ends (hgo : s.rd Reg.CLOCK_GO.GO ≠ 0) (hrelocking : s.power.relocking = 0) :
    s.goDone.rd Reg.CLOCK_GO.GO = 0 ∧ hasBit (s.goDone.rd Reg.CLOCK_EVENT.EVENTS) 3 = true := by
  unfold State.goDone
  rw [if_pos (by rw [State.on_eq_true.mpr hgo, hrelocking]; rfl)]
  have hstaged := State.showStaged_effect ((s.wr Reg.CLOCK_GO.GO 0).evBit Reg.CLOCK_EVENT.EVENTS 3)
  rw [hstaged.rd _ 0 0 (by decide +kernel), hstaged.rd _ 0 0 (by decide +kernel)]
  exact ⟨(State.rd_wr_apart _ _ _ _ _ _ (by decide +kernel)).trans (State.rd_wr_same _ _ _ _ _ rfl (by decide)),
    State.evBit_has _ _ (by decide) rfl (by decide)⟩

/-- A PLL that CLOCK_GO relocks has locked. -/
theorem State.pllLock_relocking_does (hn : n < 4) (hheld : s.power.held = false) (hrelocking : hasBit s.power.relocking n = true) :
    (s.pllLock n).rd Reg.CLOCK_PLL_STATUS.LOCK n = 1 ∧ (s.pllLock n).power.relocking = clrBit s.power.relocking n ∧
    (n = 3 → (s.pllLock n).power.step = 5) ∧
    (s.rd Reg.CLOCK_GO.GO ≠ 0 → s.power.relocking = 2 ^ n →
      (s.pllLock n).rd Reg.CLOCK_GO.GO = 0 ∧ hasBit ((s.pllLock n).rd Reg.CLOCK_EVENT.EVENTS) 3 = true) := by
  unfold State.pllLock
  rw [if_neg (by simp [hheld]), if_pos hrelocking]
  extract_lets locked cleared ready
  have hlock : locked.rd Reg.CLOCK_PLL_STATUS.LOCK n = 1 :=
    (State.rd_wr_apart _ _ _ _ _ _ (by decide +kernel)).trans (State.pllLocked_rd hn)
  have hgo : locked.rd Reg.CLOCK_GO.GO = s.rd Reg.CLOCK_GO.GO :=
    (State.rd_wr_apart _ _ _ _ _ _ (by decide +kernel)).trans ((State.pllLocked_effect s n).rd _ 0 0 (by decide +kernel))
  have hpower : locked.power = s.power := (State.wr_power ..).trans (s.pllLocked_power n)
  clear_value locked
  have hready : Effect [.power] (some []) cleared ready := Effect.ite (State.modPower_effect ..) (Effect.refl _ _ _)
  have hclear : ready.power.relocking = clrBit s.power.relocking n := by
    rw [← hpower]
    unfold ready
    split <;> rfl
  have hdone := State.goDone_effect ready
  refine ⟨?_, ?_, fun hn3 => ?_, fun hasked honly => State.goDone_ends ?_ ?_⟩
  · rw [hdone.rd _ _ _ (by decide +kernel), hready.rd _ _ _ (by decide +kernel)]
    exact hlock
  · rw [hdone.same .power (by decide), hclear]
  · rw [hdone.same .power (by decide)]
    unfold ready
    rw [if_pos hn3]
    rfl
  · rw [hready.rd _ _ _ (by decide +kernel)]
    exact hgo ▸ hasked
  · rw [hclear, honly, clrBit, if_pos (by rw [hasBit_eq_testBit, Nat.testBit_two_pow_self]), Nat.sub_self]

end

/-! ### A PLL that loses lock (R383) -/

theorem State.setSync_false (s : State) : (s.setSync false).rd Reg.TIME_STATUS.SYNC = 0 := by
  unfold State.setSync
  split
  · rename_i hoff
    exact State.on_eq_false.mp hoff
  · exact (State.rd_wr_apart _ _ _ _ _ _ (by decide +kernel)).trans (State.rd_wr_same _ _ _ _ _ rfl (by decide))

theorem State.dramGone_does (s : State) : s.dramGone.load.dram = false ∧ s.dramGone.rd Reg.DOMAIN_STATE.DRAM_ACTIVE = 0 := by
  have hraised := State.raise_effect ((s.modLoad fun l => { l with dram := false }).wr Reg.DOMAIN_STATE.DRAM_ACTIVE 0) 26 0
  unfold State.dramGone
  rw [hraised.same .load (by decide), hraised.rd _ _ _ (by decide +kernel), State.wr_load]
  exact ⟨rfl, State.rd_wr_same _ _ _ _ _ rfl (by decide)⟩

section
variable {s : State} {n : Nat}

/-- The loss of lock as the registers show it: LOCK, and the event. -/
def State.lockLost (s : State) (n : Nat) : State := (s.wr Reg.CLOCK_PLL_STATUS.LOCK 0 n).evBit Reg.CLOCK_EVENT.EVENTS 0

/-- The loss of lock counted and raised in RUN. -/
def State.lockCounted (s : State) (n : Nat) : State :=
  s.lockLost n |>.when (decide ((s.lockLost n).device = stRun)) fun s => (s.bump Reg.CLOCK_PLL_STATUS.UNLOCKS 1 n).raise 42 n

theorem State.lockLost_rd (hn : n < 4) : (s.lockLost n).rd Reg.CLOCK_PLL_STATUS.LOCK n = 0 ∧
    hasBit ((s.lockLost n).rd Reg.CLOCK_EVENT.EVENTS) 0 = true ∧ (s.lockLost n).device = s.device := by
  have hhas : Reg.CLOCK_PLL_STATUS.LOCK.has n 0 = true := by simp [Field.has, Reg.CLOCK_PLL_STATUS.LOCK, hn]
  refine ⟨?_, State.evBit_has _ _ (by decide) rfl (by decide), ?_⟩
  · exact (State.rd_wr_apart _ _ _ _ _ _ (by decide +kernel)).trans ((State.rd_wr_same _ _ _ _ _ hhas (by decide)).trans (Nat.zero_mod _))
  · exact (State.rd_wr_apart _ _ _ _ _ _ (by decide +kernel)).trans (State.rd_wr_apart _ _ _ _ _ _ (by decide +kernel))

theorem State.lockLost_effect (s : State) (n : Nat) :
    Effect [] (some [Reg.CLOCK_PLL_STATUS.LOCK, Reg.CLOCK_EVENT.EVENTS]) s (s.lockLost n) :=
  Effect.after (State.evBit_effect ..) (by decide +kernel) ((State.wr_effect s ..).widen (by decide +kernel))

/-- The register fields that a loss of lock moves as it is counted and raised. -/
def movesUnlock : List Field := Reg.CLOCK_PLL_STATUS.UNLOCKS :: State.raise_fields.getD []

theorem State.lockCounted_effect (s : State) (n : Nat) : Effect [.faults] (some movesUnlock) (s.lockLost n) (s.lockCounted n) :=
  Effect.when (Effect.refl _ _ _) fun u =>
    Effect.after (State.raise_effect ..) (by decide +kernel) ((State.bump_effect u ..).widen (by decide +kernel))

theorem State.lockCounted_unlocks (hn : n < 4) : (s.lockCounted n).rd Reg.CLOCK_PLL_STATUS.UNLOCKS n =
    if s.device = stRun then min 255 (s.rd Reg.CLOCK_PLL_STATUS.UNLOCKS n + 1) else s.rd Reg.CLOCK_PLL_STATUS.UNLOCKS n := by
  have hhas : Reg.CLOCK_PLL_STATUS.UNLOCKS.has n 0 = true := by simp [Field.has, Reg.CLOCK_PLL_STATUS.UNLOCKS, hn]
  have hbefore := (s.lockLost_effect n).rd Reg.CLOCK_PLL_STATUS.UNLOCKS n 0 (by decide +kernel)
  obtain ⟨-, -, hdevice⟩ := State.lockLost_rd (s := s) hn
  unfold State.lockCounted State.when
  simp only [hdevice, decide_eq_true_eq]
  split
  · rw [(State.raise_effect ..).rd _ _ _ (by decide +kernel), State.rd_bump _ hhas (by decide), hbefore]
    rfl
  · exact hbefore

theorem State.lockCounted_raises {a : State} (hn : n < 4) (h : s.evtAt = a.evtAt) (hmay : a.mayRaise = true) (hrun : s.device = stRun) :
    raises a (s.lockCounted n) 42 n := by
  obtain ⟨-, -, hdevice⟩ := State.lockLost_rd (s := s) hn
  have hlost : ((s.lockLost n).bump Reg.CLOCK_PLL_STATUS.UNLOCKS 1 n).evtAt = a.evtAt :=
    (((State.bump_effect ..).evtAt (congrArg PowerSt.bridge (State.wr_power ..))).trans
      ((s.lockLost_effect n).evtAt (congrArg PowerSt.bridge ((s.lockLost_effect n).same .power (by decide))))).trans h
  unfold State.lockCounted State.when
  rw [if_pos (by rw [hdevice, hrun]; rfl)]
  exact raises_raise hlost hmay rfl n

theorem State.pllLockLoss_does {a : State} (hn : n < 4) (hheld : s.power.held = false) (hlock : s.rd Reg.CLOCK_PLL_STATUS.LOCK n ≠ 0) :
    (s.pllLockLoss n).rd Reg.CLOCK_PLL_STATUS.LOCK n = 0 ∧ hasBit ((s.pllLockLoss n).rd Reg.CLOCK_EVENT.EVENTS) 0 = true ∧
    (s.pllLockLoss n).power.lost = setBit s.power.lost n ∧ (n = 2 → (s.pllLockLoss n).rd Reg.TIME_STATUS.SYNC = 0) ∧
    (n = 3 → (s.pllLockLoss n).load.dram = false ∧ (s.pllLockLoss n).rd Reg.DOMAIN_STATE.DRAM_ACTIVE = 0) ∧
    (n ≠ 3 → (s.pllLockLoss n).load = s.load) ∧
    (s.pllLockLoss n).rd Reg.CLOCK_PLL_STATUS.UNLOCKS n = (if s.device = stRun then min 255 (s.rd Reg.CLOCK_PLL_STATUS.UNLOCKS n + 1)
      else s.rd Reg.CLOCK_PLL_STATUS.UNLOCKS n) ∧
    (s.evtAt = a.evtAt → a.mayRaise = true → s.device = stRun → n ≠ 3 → raises a (s.pllLockLoss n) 42 n) := by
  obtain ⟨hdown, hevent, -⟩ := State.lockLost_rd (s := s) hn
  have hcounted := s.lockCounted_effect n
  have hunlocks := State.lockCounted_unlocks (s := s) hn
  have hpower : (s.lockCounted n).power = s.power :=
    (hcounted.same .power (by decide)).trans ((s.lockLost_effect n).same .power (by decide))
  have hload : (s.lockCounted n).load = s.load := (hcounted.same .load (by decide)).trans ((s.lockLost_effect n).same .load (by decide))
  unfold State.pllLockLoss
  rw [if_neg (by simp [hheld, State.on_eq_true.mpr hlock])]
  extract_lets lost counted gated safe
  have hsafe : Effect [] (some (Reg.TIME_STATUS.SYNC :: Reg.TIME_EVENT.EVENTS :: State.showSafe_fields.getD [])) gated safe :=
    Effect.ite (Effect.after (State.showSafe_effect _) (by decide +kernel) ((State.setSync_effect gated false).widen (by decide +kernel)))
      (Effect.refl _ _ _)
  have hend : Effect State.dramGone_touch State.dramGone_fields safe (if n = 3 then safe.dramGone else safe) :=
    Effect.ite (State.dramGone_effect safe) (Effect.refl _ _ _)
  have hgated : gated = (s.lockCounted n).modPower fun p => { p with lost := setBit p.lost n } := rfl
  clear_value gated
  have hgatedRd : ∀ f i, gated.rd f i = (s.lockCounted n).rd f i := fun f i => by rw [hgated, State.modPower_rd]
  refine ⟨?_, ?_, ?_, fun hn2 => ?_, fun hn3 => ?_, fun hn3 => ?_, ?_, fun hevt hmay hrun hn3 => ?_⟩
  · rw [hend.rd _ _ _ (by decide +kernel), hsafe.rd _ _ _ (by decide +kernel), hgatedRd, hcounted.rd _ _ _ (by decide +kernel), hdown]
  · rw [hend.rd _ _ _ (by decide +kernel), hsafe.rd _ _ _ (by decide +kernel), hgatedRd, hcounted.rd _ _ _ (by decide +kernel), hevent]
  · rw [hend.same .power (by decide), hsafe.same .power (by decide), hgated, State.modPower_power, hpower]
  · rw [hend.rd _ _ _ (by decide +kernel)]
    unfold safe
    rw [if_pos hn2, (State.showSafe_effect _).rd _ _ _ (by decide +kernel), State.setSync_false]
  · rw [if_pos hn3]
    exact safe.dramGone_does
  · rw [if_neg hn3, hsafe.same .load (by decide), hgated, State.modPower_load, hload]
  · rw [hend.rd _ _ _ (by decide +kernel), hsafe.rd _ _ _ (by decide +kernel), hgatedRd, hunlocks]
  · rw [if_neg hn3, raises, hsafe.same .faults (by decide), hgated, State.modPower_faults]
    exact State.lockCounted_raises hn hevt hmay hrun

end

/-! ### Wakes that fail (R389, R208) -/

theorem PowerSt.afterReset_held (p : PowerSt) : p.afterReset.held = true := rfl

theorem State.devReset_held (s : State) (announce : Bool) (eof : Nat) : (s.devReset announce eof).power.held = true := by
  obtain ⟨u, hwiped, hu⟩ := s.devReset_stages announce eof
  rw [hu, (State.heldOutputs_effect u).same .power (by decide), hwiped.power, PowerSt.afterReset_held]

/-- A DEV reset keeps the events that wait for the collector. -/
theorem State.devReset_waiting (s : State) (announce : Bool) (eof : Nat) :
    (s.devReset announce eof).faults.waiting = (s.parting announce eof).faults.waiting := by
  have hstages : ∃ u : State, u.faults.waiting = (s.parting announce eof).faults.waiting ∧ s.devReset announce eof = u.heldOutputs := by
    unfold State.devReset
    extract_lets collected judged announced kept1 kept2 kept3 kept4 kept5 wiped held
    exact ⟨wiped, rfl, rfl⟩
  obtain ⟨u, hwait, hu⟩ := hstages
  rw [hu, (State.heldOutputs_effect u).same .faults (by decide), hwait]

theorem State.devReset_noEvents {s : State} (htick : s.tickInCycle = false) (hwait : s.faults.waiting = []) :
    (s.resetBegins.devReset true 0).faults.waiting = [] := by
  rw [State.devReset_waiting, (State.parting_quiet_effect htick hwait 0).same .faults (by decide), State.resetBegins_quiet htick hwait,
    State.wr_faults, hwait]

section
variable {s : State} {kind item : Nat}

/-- One of the first three failures: the device wake is tried again as a DEV reset. -/
theorem State.deviceWakeFails_retries (hdormant : s.power.dormantExit = false) (htries : s.rd Reg.POWER_STATE.WAKE_TRIES < 3) :
    (s.deviceWakeFails kind item).rd Reg.POWER_STATE.WAKE_TRIES = s.rd Reg.POWER_STATE.WAKE_TRIES + 1 ∧
    (s.deviceWakeFails kind item).rd Reg.RESET_CAUSE.CAUSE = 4 ∧
    (s.deviceWakeFails kind item).rd Reg.POWER_WAKE_FAIL.KIND = kind % 8 ∧
    (s.deviceWakeFails kind item).rd Reg.POWER_WAKE_FAIL.ITEM = item % 32 ∧
    (s.deviceWakeFails kind item).power.pgood = 0 ∧ (s.deviceWakeFails kind item).power.held = true ∧
    hasBit ((s.deviceWakeFails kind item).rd Reg.POWER_EVENT.EVENTS) 4 = true := by
  unfold State.deviceWakeFails
  extract_lets tries dormant1 dormant2 dormant3 reset off
  rw [if_neg (by simp [hdormant]), if_pos htries]
  have hreset : reset.power.held = true := s.resetBegins.devReset_held true 0
  clear_value reset
  have hoff : off.power = { reset.power with pgood := 0 } := rfl
  clear_value off
  have hlatch := off.resetLatched_rd 4
  have hpower : ((off.resetLatched 4).wr Reg.POWER_STATE.WAKE_TRIES (tries + 1)).power = off.power :=
    (State.wr_power ..).trans (off.resetLatched_power 4)
  have hkick := State.kickFrom2_effect ((off.resetLatched 4).wr Reg.POWER_STATE.WAKE_TRIES (tries + 1))
  obtain ⟨hkept, -⟩ := ((off.resetLatched 4).wr Reg.POWER_STATE.WAKE_TRIES (tries + 1)).kickFrom2_latches
  have hpgood := ((off.resetLatched 4).wr Reg.POWER_STATE.WAKE_TRIES (tries + 1)).kickFrom2_pgood
  rw [hpower] at hkept hpgood
  generalize hretry : ((off.resetLatched 4).wr Reg.POWER_STATE.WAKE_TRIES (tries + 1)).kickFrom2 = retry at hkick hkept hpgood ⊢
  obtain ⟨hkind, hitem, hevent⟩ := retry.wakeFailNote_does kind item
  have hnote := State.wakeFailNote_effect retry kind item
  refine ⟨?_, ?_, hkind, hitem, ?_, ?_, hevent⟩
  · rw [hnote.rd _ _ _ (by decide +kernel), hkick.rd _ _ _ (by decide +kernel), State.rd_wr_same _ _ _ _ _ rfl (by decide)]
    exact Nat.mod_eq_of_lt (show tries + 1 < 4 by omega)
  · rw [hnote.rd _ _ _ (by decide +kernel), hkick.rd _ _ _ (by decide +kernel), State.rd_wr_apart _ _ _ _ _ _ (by decide +kernel), hlatch.1]
  · rw [retry.wakeFailNote_power, hpgood, hoff]
  · rw [retry.wakeFailNote_power, hkept, hoff, hreset]

/-- The fourth failure leaves the device in KEEP-ONLY, with WAKE_FAIL raised. -/
theorem State.deviceWakeFails_ends (hdormant : s.power.dormantExit = false) (htries : ¬ s.rd Reg.POWER_STATE.WAKE_TRIES < 3)
    (hwait : s.faults.waiting = []) (htick : s.tickInCycle = false) :
    (s.deviceWakeFails kind item).device = stKeepOnly ∧ (s.deviceWakeFails kind item).power.wakeFailed = true ∧
    (s.deviceWakeFails kind item).faults.waiting.map (fun e => (e.pos, e.detail)) = [(60, 1)] ∧
    (s.deviceWakeFails kind item).rd Reg.POWER_WAKE_FAIL.KIND = kind % 8 ∧
    (s.deviceWakeFails kind item).rd Reg.RESET_CAUSE.CAUSE = s.rd Reg.RESET_CAUSE.CAUSE := by
  have hcause := State.rd_devReset_por htick (f := Reg.RESET_CAUSE.CAUSE) rfl (by decide +kernel) 0 0 0
  have hquiet := State.devReset_noEvents htick hwait
  unfold State.deviceWakeFails
  extract_lets tries dormant1 dormant2 dormant3 reset off waits
  rw [if_neg (by simp [hdormant]), if_neg htries]
  change reset.rd Reg.RESET_CAUSE.CAUSE = s.rd Reg.RESET_CAUSE.CAUSE at hcause
  change reset.faults.waiting = [] at hquiet
  clear_value reset
  have hoffCause : off.rd Reg.RESET_CAUSE.CAUSE = s.rd Reg.RESET_CAUSE.CAUSE := hcause
  have hoffWait : off.faults.waiting = [] := hquiet
  clear_value off
  have hshown := State.showPgood_effect (off.wr Reg.POWER_STATE.STATE stKeepOnly)
  obtain ⟨hkind, -, -⟩ := (off.wr Reg.POWER_STATE.STATE stKeepOnly).showPgood.wakeFailNote_does kind item
  have hnote := State.wakeFailNote_effect (off.wr Reg.POWER_STATE.STATE stKeepOnly).showPgood kind item
  have hraise := State.raise_effect (waits.modPower fun p => { p with wakeFailed := true, keepOnlyAt := waits.time.ns, thermalEntry := false }) 60 1
  have hwaits : waits.faults.waiting = [] := by
    rw [hnote.same .faults (by decide), hshown.same .faults (by decide), State.wr_faults, hoffWait]
  refine ⟨?_, ?_, ?_, ?_, ?_⟩
  · unfold State.device
    rw [hraise.rd _ _ _ (by decide +kernel), State.modPower_rd, hnote.rd _ _ _ (by decide +kernel), hshown.rd _ _ _ (by decide +kernel),
      State.rd_wr_same _ _ _ _ _ rfl (by decide)]
    rfl
  · rw [hraise.same .power (by decide)]
    rfl
  · rw [State.raise_keepSource _ (by decide)]
    simp only [State.modPower_faults, hwaits, insertEvt]
    rfl
  · rw [hraise.rd _ _ _ (by decide +kernel), State.modPower_rd]
    exact hkind
  · rw [hraise.rd _ _ _ (by decide +kernel), State.modPower_rd, hnote.rd _ _ _ (by decide +kernel), hshown.rd _ _ _ (by decide +kernel),
      State.rd_wr_apart _ _ _ _ _ _ (by decide +kernel), hoffCause]

end

section
variable {s : State}

/-- A rail that does not report PGOOD in step 2 of kick-off. -/
theorem State.railTimeout_kickOff {kind m : Nat} (hbad : hasBit s.power.pgood m = false) (hwanted : s.railWanted m = true)
    (hstep : s.power.step = 2) : s.railTimeout kind m = s.deviceWakeFails kind m := by
  simp [State.railTimeout, hbad, hwanted, hstep]

/-- A PLL that does not lock again after a loss stays gated (R383). -/
theorem State.pllTimeout_lost {n : Nat} (hheld : s.power.held = false) (hlock : s.rd Reg.CLOCK_PLL_STATUS.LOCK n = 0)
    (hwake : s.referee.wake ≠ .clock) (hlost : hasBit s.power.lost n = true) : s.pllTimeout n =
    ((s.modPower fun p => { p with lost := clrBit p.lost n, dead := setBit p.dead n }).wakeFailNote 2 n).raise 60 1 := by
  unfold State.pllTimeout
  have hclock : ¬ (n = 0 ∧ s.referee.wake = .clock) := fun h => hwake h.2
  rw [if_neg (by simp [State.on_eq_false.mpr hlock]), if_neg (by simp [hheld])]
  simp only [if_neg hclock, hlost, if_true]

theorem State.pllTimeout_lost_does {n : Nat} (hn : n < 4) (hheld : s.power.held = false) (hlock : s.rd Reg.CLOCK_PLL_STATUS.LOCK n = 0)
    (hwake : s.referee.wake ≠ .clock) (hlost : hasBit s.power.lost n = true) :
    (s.pllTimeout n).power.lost = clrBit s.power.lost n ∧ hasBit (s.pllTimeout n).power.dead n = true ∧
    (s.pllTimeout n).rd Reg.POWER_WAKE_FAIL.KIND = 2 ∧ (s.pllTimeout n).rd Reg.POWER_WAKE_FAIL.ITEM = n ∧
    (s.pllTimeout n).rd Reg.CLOCK_PLL_STATUS.LOCK n = 0 ∧ raises s (s.pllTimeout n) 60 1 := by
  rw [State.pllTimeout_lost hheld hlock hwake hlost]
  have hgated : (s.modPower fun p => { p with lost := clrBit p.lost n, dead := setBit p.dead n }).power =
    { s.power with lost := clrBit s.power.lost n, dead := setBit s.power.dead n } := rfl
  have hevt : (s.modPower fun p => { p with lost := clrBit p.lost n, dead := setBit p.dead n }).evtAt = s.evtAt := rfl
  have hrd : (s.modPower fun p => { p with lost := clrBit p.lost n, dead := setBit p.dead n }).rd Reg.CLOCK_PLL_STATUS.LOCK n = 0 := hlock
  generalize (s.modPower _ : State) = u at hgated hevt hrd ⊢
  have hnote := State.wakeFailNote_effect u 2 n
  obtain ⟨hkind, hitem, -⟩ := u.wakeFailNote_does 2 n
  have hraise := State.raise_effect (u.wakeFailNote 2 n) 60 1
  refine ⟨?_, ?_, ?_, ?_, ?_, raises_raise_keepSource ((hnote.evtAt (congrArg PowerSt.bridge (u.wakeFailNote_power 2 n))).trans hevt) (by decide) 1⟩
  · rw [hraise.same .power (by decide), u.wakeFailNote_power, hgated]
  · rw [hraise.same .power (by decide), u.wakeFailNote_power, hgated]
    exact hasBit_setBit_same _ _
  · rw [hraise.rd _ _ _ (by decide +kernel), hkind]
  · rw [hraise.rd _ _ _ (by decide +kernel), hitem, Nat.mod_eq_of_lt (by omega)]
  · rw [hraise.rd _ _ _ (by decide +kernel), hnote.rd _ _ _ (by decide +kernel), hrd]

/-- The referee is LOST, without the ball, where it was not out of order (R205). -/
theorem State.lose_does (hstate : s.refState ≠ rsLost) (hbroken : s.referee.broken = false) :
    s.lose.refState = rsLost ∧ s.lose.referee.ball = false := by
  unfold State.lose
  rw [if_neg (by simp [hstate, hbroken])]
  extract_lets unfit left lost
  have hraise := State.raise_effect lost 56 lost.holder
  have hblock := State.blockAll_effect (lost.raise 56 lost.holder) 2
  have hreferee : lost.referee = left.referee := (State.wr_referee ..).trans (State.wr_referee ..)
  have hlost : lost.rd Reg.REF_STATUS.STATE = rsLost :=
    (State.rd_wr_apart _ _ _ _ _ _ (by decide +kernel)).trans (State.rd_wr_same _ _ _ _ _ rfl (by decide))
  clear_value lost
  unfold State.refState
  rw [hblock.rd _ _ _ (by decide +kernel), hraise.rd _ _ _ (by decide +kernel), hblock.same .referee (by decide),
    hraise.same .referee (by decide), hreferee]
  exact ⟨hlost, rfl⟩

/-- Steps 3 and 4 of the wake of a takeover fail: no plane can take the ball (R208). -/
theorem State.wakeFails_takeover (hstate : s.refState = rsWake) (hbroken : s.referee.broken = false) :
    (s.wakeFails false).refState = rsLost ∧ (s.wakeFails false).referee.ball = false := by
  unfold State.wakeFails
  extract_lets o unfit
  rw [if_pos hstate, if_neg (by decide)]
  have hrole := State.setRole_effect s o roUnfit
  have hraise := State.raise_effect (s.setRole o roUnfit) 21 o
  have hagain := State.raise_effect ((s.setRole o roUnfit).raise 21 o) 60 0
  refine State.lose_does ?_ ?_
  · unfold State.refState at hstate ⊢
    rw [hagain.rd _ _ _ (by decide +kernel), hraise.rd _ _ _ (by decide +kernel), hrole.rd _ _ _ (by decide +kernel), hstate]
    decide
  · rw [hagain.same .referee (by decide), hraise.same .referee (by decide), hrole.same .referee (by decide), hbroken]

end

/-! ### The commands -/

theorem exec_railPgood (s : State) (m : Fin 24) (t : Nat) : exec (.railPgood m t) s = done ((s.elapse t).railPgood m.val) := rfl

theorem exec_pllLock (s : State) (k : Fin 4) (t : Nat) : exec (.pllLock k t) s = done ((s.elapse t).pllLock k.val) := rfl

theorem exec_pllLockLoss (s : State) (k : Fin 4) (t : Nat) : exec (.pllLockLoss k t) s = done ((s.elapse t).pllLockLoss k.val) := rfl

theorem exec_wakeTimeout (s : State) (kind : Fin 4) (i t : Nat) :
    exec (.wakeTimeout kind i t) s = done ((s.elapse t).wakeTimeout kind.val i) := rfl

theorem State.elapse_wakeTries (s : State) (t : Nat) : (s.elapse t).rd Reg.POWER_STATE.WAKE_TRIES = s.rd Reg.POWER_STATE.WAKE_TRIES :=
  s.elapse_rd t _ 0 0 (by decide +kernel)

theorem State.elapse_lock (s : State) (t k : Nat) : (s.elapse t).rd Reg.CLOCK_PLL_STATUS.LOCK k = s.rd Reg.CLOCK_PLL_STATUS.LOCK k :=
  s.elapse_rd t _ k 0 (by decide +kernel)

/-- The wake timeout of a rail in step 2 of kick-off, at its instant. -/
theorem exec_wakeTimeout_rail {s : State} {m : Fin 24} (t : Nat) (hstep : s.power.step = 2) (hbad : hasBit s.power.pgood m.val = false)
    (hwanted : s.railWanted m.val = true) :
    exec (.wakeTimeout 0 m.val t) s = done ((s.elapse t).deviceWakeFails 1 m.val) :=
  (exec_wakeTimeout s 0 m.val t).trans (congrArg done (State.railTimeout_kickOff (s := s.elapse t) (by rw [s.elapse_power, hbad])
    ((s.elapse_railWanted t m.val).trans hwanted) (by rw [s.elapse_power, hstep])))

/-- Settles O56: each rail, PLL and wake timeout at its command's instant. -/
theorem kickOffClocksAndFailedWakes : Obligations.KickOffClocksAndFailedWakes := by
  unfold Obligations.KickOffClocksAndFailedWakes
  refine ⟨?rail, ?unwanted, ?kickOff, ?lost, ?relocking, ?lockLoss, ?retries, ?ends, ?gated, ?reported, ?takeover⟩
  case rail =>
    intro s m t hsupplied hheld hstep hrail hA hB hanalog hbackbone hdormant hreset
    obtain ⟨hpgood, hshown, hgoes⟩ := State.railPgood_does (s := s.elapse t) (m := m.val) (by rw [s.elapse_power, hsupplied])
      (by rw [s.elapse_power, hheld]) (by rw [s.elapse_power, hstep]) hrail hA hB (by rw [s.elapse_power, hanalog])
      (by rw [s.elapse_power, hbackbone]) (by rw [s.elapse_power, hdormant]) (by rw [s.elapse_power, hreset])
    rw [s.elapse_power] at hpgood hshown hgoes
    have hexec := exec_railPgood s m t
    refine ⟨_, hexec, ?_, ?_, ?_, Effect.of_exec (execRailPgood_effect m t s) hexec (by decide) (by decide +kernel)⟩
    · rw [State.settle_power, hpgood]
    · rw [State.settle_rd _ _ _ _ (by decide +kernel), hshown]
    · rw [State.settle_power, hgoes]
  case unwanted =>
    intro s m t hunwanted
    have hsame : (s.elapse t).railPgood m.val = s.elapse t := if_pos (by rw [s.elapse_railWanted, hunwanted]; rfl)
    exact ⟨_, (exec_railPgood s m t).trans (congrArg done hsame), s.elapse_settle_effect t⟩
  case kickOff =>
    intro s k t hheld hstep
    obtain ⟨hlock, hothers, hgoes⟩ := State.pllLock_kickOff_does (s := s.elapse t) k.isLt (by rw [s.elapse_power, hheld])
      (by rw [s.elapse_power, hstep])
    have hon : ∀ j, (s.elapse t).on Reg.CLOCK_PLL_STATUS.LOCK j = s.on Reg.CLOCK_PLL_STATUS.LOCK j := fun j =>
      congrArg (· != 0) (s.elapse_lock t j)
    simp only [hon] at hgoes
    have hexec := exec_pllLock s k t
    refine ⟨_, hexec, ?_, hothers.timed (by decide +kernel), ?_,
      Effect.of_exec (execPllLock_effect k t s) hexec (by decide) (by decide +kernel)⟩
    · rw [State.settle_rd _ _ _ _ (by decide +kernel), hlock]
    · rw [State.settle_power, hgoes]
  case lost =>
    intro s k t hheld hrelocking hlost
    obtain ⟨hlock, hevent, hcleared, hdram⟩ := State.pllLock_lost_does (s := s.elapse t) k.isLt (by rw [s.elapse_power, hheld])
      (by rw [s.elapse_power, hrelocking]) (by rw [s.elapse_power, hlost])
    rw [s.elapse_power] at hcleared hdram
    refine ⟨_, exec_pllLock s k t, ?_, ?_, ?_, fun hk h5 => ?_⟩
    · rw [State.settle_rd _ _ _ _ (by decide +kernel), hlock]
    · rw [State.settle_rd _ _ _ _ (by decide +kernel), hevent]
    · rw [State.settle_power, hcleared]
    · rw [State.settle_load, hdram (congrArg Fin.val hk) h5]
  case relocking =>
    intro s k t hheld hrelocking
    obtain ⟨hlock, hcleared, hstep, hdone⟩ := State.pllLock_relocking_does (s := s.elapse t) k.isLt (by rw [s.elapse_power, hheld])
      (by rw [s.elapse_power, hrelocking])
    rw [s.elapse_power] at hcleared hdone
    rw [s.elapse_rd t _ 0 0 (by decide +kernel)] at hdone
    refine ⟨_, exec_pllLock s k t, ?_, ?_, fun hk => ?_, fun hgo honly => ?_⟩
    · rw [State.settle_rd _ _ _ _ (by decide +kernel), hlock]
    · rw [State.settle_power, hcleared]
    · rw [State.settle_power, hstep (congrArg Fin.val hk)]
    · rw [State.settle_rd _ _ _ _ (by decide +kernel), State.settle_rd _ _ _ _ (by decide +kernel)]
      exact hdone hgo honly
  case lockLoss =>
    intro s k t hheld hlock hmay
    obtain ⟨hdown, hevent, hlost, hsync, hdram, hload, hunlocks, hraises⟩ := State.pllLockLoss_does (s := s.elapse t) (a := s.elapse t)
      k.isLt (by rw [s.elapse_power, hheld]) (by rwa [s.elapse_lock])
    rw [s.elapse_power] at hlost
    rw [s.elapse_load] at hload
    rw [s.elapse_device, s.elapse_rd t _ k.val 0 (by decide +kernel)] at hunlocks
    have hexec := exec_pllLockLoss s k t
    refine ⟨_, hexec, ?_, ?_, ?_, fun hk => ?_, fun hk => ?_, fun hk => ?_, ?_, fun hrun hk => ?_,
      Effect.of_exec (execPllLockLoss_effect k t s) hexec (by decide) (by decide +kernel)⟩
    · rw [State.settle_rd _ _ _ _ (by decide +kernel), hdown]
    · rw [State.settle_rd _ _ _ _ (by decide +kernel), hevent]
    · rw [State.settle_power, hlost]
    · rw [State.settle_rd _ _ _ _ (by decide +kernel), hsync (congrArg Fin.val hk)]
    · rw [State.settle_load, State.settle_rd _ _ _ _ (by decide +kernel)]
      exact hdram (congrArg Fin.val hk)
    · rw [State.settle_load, hload fun h => hk (Fin.ext h)]
    · rw [State.settle_rd _ _ _ _ (by decide +kernel), hunlocks]
    · exact State.settle_raises (hraises rfl ((s.elapse_mayRaise t).trans hmay) ((s.elapse_device t).trans hrun) fun h => hk (Fin.ext h))
  case retries =>
    intro s m t hstep hdormant hbad hwanted htries
    obtain ⟨hcount, hcause, hkind, hitem, hpgood, hheld, hevent⟩ := State.deviceWakeFails_retries (s := s.elapse t) (kind := 1)
      (item := m.val) (by rw [s.elapse_power, hdormant]) (by rwa [s.elapse_wakeTries])
    rw [s.elapse_wakeTries] at hcount
    refine ⟨_, exec_wakeTimeout_rail t hstep hbad hwanted, ?_, ?_, ?_, ?_, ?_, ?_, ?_⟩
    · rw [State.settle_rd _ _ _ _ (by decide +kernel), hcount]
    · rw [State.settle_rd _ _ _ _ (by decide +kernel), hcause]
    · rw [State.settle_rd _ _ _ _ (by decide +kernel), hkind]
    · rw [State.settle_rd _ _ _ _ (by decide +kernel), hitem, Nat.mod_eq_of_lt (by omega)]
    · rw [State.settle_power, hpgood]
    · rw [State.settle_power, hheld]
    · rw [State.settle_rd _ _ _ _ (by decide +kernel), hevent]
  case ends =>
    intro s m t hstep hdormant hbad hwanted htries hwait htick
    obtain ⟨hdevice, hfailed, hraised, hkind, hcause⟩ := State.deviceWakeFails_ends (s := s.elapse t) (kind := 1) (item := m.val)
      (by rw [s.elapse_power, hdormant]) (by rw [s.elapse_wakeTries]; omega) (by rw [s.elapse_faults, hwait]) htick
    rw [s.elapse_rd t _ 0 0 (by decide +kernel)] at hcause
    refine ⟨_, exec_wakeTimeout_rail t hstep hbad hwanted, ?_, ?_, ?_, ?_, ?_⟩
    · exact (State.settle_rd _ _ _ _ (by decide +kernel)).trans hdevice
    · rw [State.settle_power, hfailed]
    · rw [State.settle_faults, hraised]
    · rw [State.settle_rd _ _ _ _ (by decide +kernel), hkind]
    · rw [State.settle_rd _ _ _ _ (by decide +kernel), hcause]
  case gated =>
    intro s k t hheld hlock hwake hlost
    obtain ⟨hcleared, hdead, hkind, hitem, hdown, hraises⟩ := State.pllTimeout_lost_does (s := s.elapse t) k.isLt
      (by rw [s.elapse_power, hheld]) ((s.elapse_lock t k.val).trans hlock) (by rwa [s.elapse_referee]) (by rw [s.elapse_power, hlost])
    rw [s.elapse_power] at hcleared
    refine ⟨_, exec_wakeTimeout s 1 k.val t, ?_, ?_, ?_, ?_, ?_, State.settle_raises hraises⟩
    · exact (congrArg PowerSt.lost (State.settle_power _)).trans hcleared
    · exact (congrArg (hasBit ·.dead k.val) (State.settle_power _)).trans hdead
    · exact (State.settle_rd _ _ _ _ (by decide +kernel)).trans hkind
    · exact (State.settle_rd _ _ _ _ (by decide +kernel)).trans hitem
    · exact (State.settle_rd _ _ _ _ (by decide +kernel)).trans hdown
  case reported =>
    intro s m t hgood
    have hsame : (s.elapse t).railTimeout 1 m = s.elapse t := if_pos (by rw [s.elapse_power, hgood]; rfl)
    exact ⟨_, (exec_wakeTimeout s 0 m t).trans (congrArg done hsame), s.elapse_settle_effect t⟩
  case takeover =>
    intro s i t hstate hwake hbroken
    have hfails : (s.elapse t).wakeTimeout 3 i = (s.elapse t).wakeFails false := if_pos (by rw [s.elapse_referee, hwake])
    obtain ⟨hlost, hball⟩ := State.wakeFails_takeover (s := s.elapse t) ((s.elapse_rd t _ 0 0 (by decide +kernel)).trans hstate)
      (by rw [s.elapse_referee, hbroken])
    refine ⟨_, (exec_wakeTimeout s 3 i t).trans (congrArg done hfails), (State.settle_rd _ _ _ _ (by decide +kernel)).trans hlost, ?_⟩
    rw [State.settle_referee, hball]


end Sys2Proof.Machine
end

section
namespace Sys2Proof.Machine

set_option Elab.async false

/-! ### Cell commands (Tables 05-3 and 05-4) -/

section
variable {s : State} {c x : Nat}

/-- A cell as it waits for FAULT_CLEAR. -/
def CellMem.clearing (m : CellMem) : CellMem := { m with clearReq := true, appear := true }

@[simp] theorem CellMem.clearing_clearing (m : CellMem) : m.clearing.clearing = m.clearing := rfl

theorem State.cellAdmit_waits {ch : ChainCfg} (hdeclared : (s.cellCfg c).isSome = true) (hchain : s.chainOfCell c = some ch)
    (hpending : s.cstate c = csPending) (hadmit : (s.cell c).hostAdmit = none) (hbypass : (s.cell c).hostBypass = false)
    (hfound : s.rd64 Reg.TS_FOUND_LO.IDENTITY Reg.TS_FOUND_HI.IDENTITY c = x)
    (hserved : (s.servingLane ch.chain (c - ch.base)).isSome = true) (hfresh : (s.cell c).fresh = true) :
    (s.cellAdmit c x).2 = s.modCell c fun m => { m with hostAdmit := some x } := by
  obtain ⟨cfg, hcfg⟩ := Option.isSome_iff_exists.mp hdeclared
  obtain ⟨lane, hlane⟩ := Option.isSome_iff_exists.mp hserved
  simp [State.cellAdmit, hcfg, hchain, hpending, hadmit, hbypass, hfound, hlane, hfresh]

theorem State.cellAdmit_refused (h : s.cellCfg c = none ∨ s.cstate c ≠ csPending ∨ (s.cell c).hostAdmit.isSome = true ∨
    (s.cell c).hostBypass = true ∨ (s.cell c).fresh = false ∨ s.rd64 Reg.TS_FOUND_LO.IDENTITY Reg.TS_FOUND_HI.IDENTITY c ≠ x) :
    (s.cellAdmit c x).2 = s := by
  unfold State.cellAdmit
  split
  · rename_i cfg ch hcfg hchain
    split_ifs with hwaits hident hserved hfresh
    · rfl
    · rfl
    · rfl
    · rfl
    · rcases h with h | h | h | h | h | h <;> simp_all
  · rfl

theorem State.cellBypass_waits (hdeclared : (s.cellCfg c).isSome = true) (hstate : s.cstate c ≠ csBypassed)
    (hbypass : (s.cell c).hostBypass = false) : (s.cellBypass c).2 = s.modCell c fun m => { m with hostBypass := true } := by
  obtain ⟨cfg, hcfg⟩ := Option.isSome_iff_exists.mp hdeclared
  simp [State.cellBypass, hcfg, hstate, hbypass]

theorem State.cellBypass_refused (h : s.cellCfg c = none ∨ s.cstate c = csBypassed ∨ (s.cell c).hostBypass = true) :
    (s.cellBypass c).2 = s := by
  unfold State.cellBypass
  split
  · rfl
  · rename_i hcfg
    rw [if_pos]
    rcases h with h | h
    · exact absurd (by rw [h]; rfl) hcfg
    · exact h

theorem State.clearCell_cell (s : State) (c : Nat) : (s.clearCell c).cell c = (s.cell c).clearing :=
  (State.modCell_same ..).trans (congrArg CellMem.clearing (s.wr_cell ..))

theorem State.clearCell_other (s : State) {c k : Nat} (h : k ≠ c) : (s.clearCell c).cell k = s.cell k :=
  (State.modCell_other _ _ _ h).trans (s.wr_cell ..)

theorem State.clearCell_seen (s : State) (c : Nat) : (s.clearCell c).rd Reg.CELL_FAULT.SEEN c = 0 := by
  by_cases hc : c < 1536
  · exact (State.rd_wr_same s _ _ _ _ (by simp [Field.has, Reg.CELL_FAULT.SEEN, hc]) (by decide)).trans (Nat.zero_mod _)
  · have hnone : Reg.CELL_FAULT.SEEN.has c 0 = false := by simp [Field.has, Reg.CELL_FAULT.SEEN, hc]
    unfold State.rd
    rw [hnone]
    exact (if_neg Bool.false_ne_true).trans (by simp [Field.reset, Reg.CELL_FAULT.SEEN])

theorem State.clearCell_keepsOthers (s : State) (c : Nat) : keepsOthers Reg.CELL_FAULT.SEEN c s (s.clearCell c) :=
  s.wr_keepsOthers 0 c (by decide)

/-- FFFFh clears every declared cell, once or more. -/
theorem State.clearCells_does (s : State) (l : List Nat) : ∀ k ∈ l, (s.each l fun s n => s.clearCell n).cell k = (s.cell k).clearing ∧
    (s.each l fun s n => s.clearCell n).rd Reg.CELL_FAULT.SEEN k = 0 := by
  refine (State.each_forall (I := fun v => ∀ k, v.cell k = s.cell k ∨ v.cell k = (s.cell k).clearing)
    (P := fun k v => v.cell k = (s.cell k).clearing ∧ v.rd Reg.CELL_FAULT.SEEN k = 0) (fun _ => .inl rfl) (fun v hv a _ k => ?_)
    (fun v hv a _ => ⟨?_, v.clearCell_seen a⟩) fun v _ a _ b hab hb => ?_).2
  · by_cases hka : k = a
    · subst hka
      rw [v.clearCell_cell]
      exact .inr (by rcases hv k with h | h <;> simp [h])
    · rw [v.clearCell_other hka]
      exact hv k
  · rw [v.clearCell_cell]
    rcases hv a with h | h <;> simp [h]
  · rw [v.clearCell_other (Ne.symm hab), v.clearCell_keepsOthers a b (Ne.symm hab) 0]
    exact hb

theorem State.clearCells_others (s : State) (l : List Nat) : ∀ k, k ∉ l → (s.each l fun s n => s.clearCell n).cell k = s.cell k ∧
    (s.each l fun s n => s.clearCell n).rd Reg.CELL_FAULT.SEEN k = s.rd Reg.CELL_FAULT.SEEN k := by
  intro k hk
  refine (State.each_forall (I := fun v => v.cell k = s.cell k ∧ v.rd Reg.CELL_FAULT.SEEN k = s.rd Reg.CELL_FAULT.SEEN k)
    (P := fun _ _ => True) ⟨rfl, rfl⟩ (fun v hv a ha => ?_) (fun _ _ _ _ => trivial) fun _ _ _ _ _ _ _ => trivial).1
  have hka : k ≠ a := fun h => hk (h ▸ ha)
  rw [v.clearCell_other hka, v.clearCell_keepsOthers a k hka 0]
  exact hv

end

/-! ### Lanes and arms at a command's instant and at its end -/

theorem State.settle_lane (s : State) (k : Nat) : s.settle.lane k = s.lane k := congrArg (Tbl.look default · k) s.settle_lanes

theorem State.settle_arm (s : State) (k : Nat) : s.settle.arm k = s.arm k := congrArg (Tbl.look default · k) s.settle_arms

theorem State.elapse_arm (s : State) (t k : Nat) : (s.elapse t).arm k = s.arm k := congrArg (Tbl.look default · k) (s.elapse_arms t)

theorem Effect.lane {A : List Part} {R : Option (List Field)} {s t : State} (k : Effect A R s t) (n : Nat)
    (hA : Part.lanes ∉ A := by decide) : t.lane n = s.lane n :=
  congrArg (Tbl.look default · n) (k.same .lanes hA)

theorem Effect.arm {A : List Part} {R : Option (List Field)} {s t : State} (k : Effect A R s t) (n : Nat)
    (hA : Part.arms ∉ A := by decide) : t.arm n = s.arm n :=
  congrArg (Tbl.look default · n) (k.same .arms hA)

theorem State.elapse_slice (s : State) (t n : Nat) : (s.elapse t).sliceRole n = s.sliceRole n ∧
    (s.elapse t).sliceTarget n = s.sliceTarget n ∧ (s.elapse t).sliceState n = s.sliceState n :=
  ⟨s.elapse_rd t _ n 0 (by decide +kernel), s.elapse_rd t _ n 0 (by decide +kernel), s.elapse_rd t _ n 0 (by decide +kernel)⟩

/-! ### ROLE_COUNT and BUSY (R22, R84) -/

/-- The spares are those that the slices' registers show. -/
theorem State.spares_congr {s t : State} (hrole : ∀ n, t.sliceRole n = s.sliceRole n) (hstate : ∀ n, t.sliceState n = s.sliceState n) :
    t.spares = s.spares := by
  simp only [State.spares, hrole, hstate]

/-- The register fields that show roles and substitutions. -/
def movesRoles : List Field := State.showRoles_fields.getD [] ++ State.showBusy_fields.getD []

theorem State.showSubst_effect (s : State) : Effect [] (some movesRoles) s s.showRoles.showBusy :=
  Effect.after (State.showBusy_effect _) (by decide +kernel) ((State.showRoles_effect s).widen (by decide +kernel))

theorem State.showBusy_busy (s : State) : s.showBusy.rd Reg.IMAGE_SUBST_STATUS.BUSY =
    b01 (!s.load.waiting.isEmpty || s.load.reloading.isSome) :=
  (State.rd_wr_same _ _ _ _ _ rfl (by decide)).trans (b01_mod _)

theorem State.showRoles_spares (s : State) : s.showRoles.rd Reg.ROLE_COUNT.SPARE = s.spares % 128 ∧
    (s.spares < 8 → 8 ≤ s.rd Reg.ROLE_COUNT.SPARE → s.showRoles.rd Reg.IMAGE_EVENT.SPARE_LOW = 1) := by
  unfold State.showRoles
  extract_lets was now slices keepers counted
  have hcounted : counted.rd Reg.ROLE_COUNT.SPARE = now % 128 :=
    (State.rd_wr_apart _ _ _ _ _ _ (by decide +kernel)).trans (State.rd_wr_same _ _ _ _ _ rfl (by decide))
  clear_value counted
  refine ⟨?_, fun hfew hwas => ?_⟩
  · exact (State.when_keeps (fun u => u.rd Reg.ROLE_COUNT.SPARE) (fun u => State.rd_wr_apart _ _ _ _ _ _ (by decide +kernel)) counted).trans
      hcounted
  · have hlow : (decide (now < 8) && decide (8 ≤ was)) = true := by rw [decide_eq_true hfew, decide_eq_true hwas]; rfl
    rw [hlow]
    exact State.rd_wr_same _ _ _ _ _ rfl (by decide)

theorem State.showSubst_spares (s : State) : s.showRoles.showBusy.rd Reg.ROLE_COUNT.SPARE = s.showRoles.showBusy.spares % 128 ∧
    (s.showRoles.showBusy.spares < 8 → 8 ≤ s.rd Reg.ROLE_COUNT.SPARE → s.showRoles.showBusy.rd Reg.IMAGE_EVENT.SPARE_LOW = 1) := by
  have hsame : s.showRoles.showBusy.spares = s.spares :=
    State.spares_congr (fun n => s.showSubst_effect.rd _ n 0 (by decide +kernel)) fun n => s.showSubst_effect.rd _ n 0 (by decide +kernel)
  have hbusy := State.showBusy_effect s.showRoles
  obtain ⟨hspares, hlow⟩ := s.showRoles_spares
  rw [hsame, hbusy.rd _ _ _ (by decide +kernel), hbusy.rd _ _ _ (by decide +kernel)]
  exact ⟨hspares, hlow⟩

/-! ### A slice that fails (R83, R85) -/

section
variable {s : State} {n : Nat}

/-- A role whose slice has failed waits for a spare, and what the slice did stops. -/
def State.roleWaits (s : State) (role tgt n : Nat) : State :=
  let s := s.modLoad fun l => { l with waiting := l.waiting ++ [n] }
  if role = roLane then (s.modLane tgt fun l => { l with sliceOut := true }).loseLane tgt
  else if role = roArm then (s.wr Reg.ARM_STATUS.ACTIVE 0 n).modArm tgt fun a => { a with out := true, failedTicks := 0 }
  else if role = roMirror then { s with safety := { s.safety with mirrorOut := 0 } }
  else s

/-- A spare that fails as it is reloaded: its role waits again. -/
def State.spareRetired (s : State) (n : Nat) : State :=
  match s.load.reloading with
  | some (old, some m) => if m = n then s.modLoad fun l => { l with reloading := none, waiting := l.waiting ++ [old] } else s
  | _ => s

theorem State.sliceFail_ignored (h : s.sliceRole n = 0 ∨ s.sliceState n = slFailed ∨ s.sliceState n = 0) : s.sliceFail n = s := if_pos h

theorem State.sliceFail_role (hrole : s.sliceRole n ≠ 0) (hspare : s.sliceRole n ≠ roSpare) (hfailed : s.sliceState n ≠ slFailed)
    (hstate : s.sliceState n ≠ 0) :
    s.sliceFail n = ((s.markFailed n).roleWaits (s.sliceRole n) (s.sliceTarget n) n).showRoles.showBusy := by
  unfold State.sliceFail
  extract_lets role tgt st marked waits safety left
  have hleft : left = marked.roleWaits role tgt n := if_neg hspare
  rw [if_neg (by simp only [role, st]; tauto), hleft]

theorem State.sliceFail_spare (hspare : s.sliceRole n = roSpare) (hfailed : s.sliceState n ≠ slFailed) (hstate : s.sliceState n ≠ 0) :
    s.sliceFail n = ((s.markFailed n).spareRetired n).showRoles.showBusy := by
  have hrole : s.sliceRole n ≠ 0 := by rw [hspare]; decide
  unfold State.sliceFail
  extract_lets role tgt st marked waits safety left
  have hleft : left = marked.spareRetired n := if_pos hspare
  rw [if_neg (by simp only [role, st]; tauto), hleft]

theorem State.markFailed_rd (hn : n < 128) : (s.markFailed n).sliceState n = slFailed ∧
    keepsOthers Reg.SLICE_ROLE.STATE n s (s.markFailed n) ∧
    hasBit ((s.markFailed n).rd Reg.IMAGE_SLICE_FAIL.FAIL (n / 32)) (n % 32) = true := by
  have hhas : Reg.SLICE_ROLE.STATE.has n 0 = true := by simp [Field.has, Reg.SLICE_ROLE.STATE, hn]
  have hbit : Reg.IMAGE_SLICE_FAIL.FAIL.has (n / 32) 0 = true := by
    have hword : n / 32 < 4 := by omega
    simp [Field.has, Reg.IMAGE_SLICE_FAIL.FAIL, hword]
  unfold State.sliceState State.markFailed
  have hraise := State.raise_effect ((s.evBit Reg.IMAGE_SLICE_FAIL.FAIL (n % 32) (n / 32)).wr Reg.SLICE_ROLE.STATE slFailed n) 17 n
  refine ⟨?_, fun k hk j => ?_, ?_⟩
  · rw [hraise.rd _ _ _ (by decide +kernel), State.rd_wr_same _ _ _ _ _ hhas (by decide)]
    rfl
  · rw [hraise.rd _ _ _ (by decide +kernel), State.wr_keepsOthers _ slFailed n (by decide) k hk j]
    exact State.rd_wr_apart _ _ _ _ _ _ (by decide +kernel)
  · rw [hraise.rd _ _ _ (by decide +kernel), State.rd_wr_apart _ _ _ _ _ _ (by decide +kernel), State.evBit,
      State.rd_wr_same _ _ _ _ _ hbit (by decide)]
    exact hasBit_setBit_width _ (Nat.mod_lt _ (by decide))

theorem State.markFailed_raises {a : State} (h : s.evtAt = a.evtAt) (hmay : a.mayRaise = true) : raises a (s.markFailed n) 17 n := by
  have hmarked : Effect [] (some [Reg.IMAGE_SLICE_FAIL.FAIL, Reg.SLICE_ROLE.STATE]) s
      ((s.evBit Reg.IMAGE_SLICE_FAIL.FAIL (n % 32) (n / 32)).wr Reg.SLICE_ROLE.STATE slFailed n) :=
    Effect.after (State.wr_effect ..) (by decide +kernel) ((State.evBit_effect s ..).widen (by decide +kernel))
  exact raises_raise ((hmarked.evtAt (congrArg PowerSt.bridge (hmarked.same .power (by decide)))).trans h) hmay rfl n

/-- The register fields that move as a role loses its slice. -/
def movesRoleWait : List Field := [Reg.LANE_STATUS.STATE, Reg.LANE_EVENT.LOST, Reg.ARM_STATUS.ACTIVE]

theorem State.roleWaits_effect (s : State) (role tgt n : Nat) :
    Effect [.load, .lanes, .arms, .safety] (some movesRoleWait) s (s.roleWaits role tgt n) := by
  have hload : Effect [.load, .lanes, .arms, .safety] (some movesRoleWait) s (s.modLoad fun l => { l with waiting := l.waiting ++ [n] }) :=
    (State.modLoad_effect s _).widen (by decide +kernel)
  refine Effect.ite ?_ (Effect.ite ?_ (Effect.ite ?_ hload))
  · exact Effect.after (State.loseLane_effect ..) (by decide +kernel) (Effect.after (State.modLane_effect ..) (by decide +kernel) hload)
  · exact Effect.after (State.modArm_effect ..) (by decide +kernel) (Effect.after (State.wr_effect ..) (by decide +kernel) hload)
  · exact Effect.after (Effect.safety ..) (by decide +kernel) hload

theorem State.roleWaits_load (s : State) (role tgt n : Nat) :
    (s.roleWaits role tgt n).load = { s.load with waiting := s.load.waiting ++ [n] } := by
  unfold State.roleWaits
  extract_lets u
  split_ifs
  · rw [(State.loseLane_effect ..).same .load (by decide)]
    rfl
  · exact State.wr_load ..
  · rfl
  · rfl

/-- LANE_STATUS follows a lane end; whether it is lost, or its slice out, does not. -/
theorem State.showLane_lane (s : State) (l : Nat) : ((s.showLane l).lane l).lost = (s.lane l).lost ∧
    ((s.showLane l).lane l).sliceOut = (s.lane l).sliceOut := by
  unfold State.showLane
  extract_lets st u
  have hshown : (u.wr Reg.LANE_STATUS.STATE st l).lane l = u.lane l := (State.wr_effect u ..).lane l
  rw [hshown]
  unfold u State.when
  split
  · rw [State.modLane_same]
    exact ⟨rfl, rfl⟩
  · exact ⟨rfl, rfl⟩

theorem State.loseLane_lane (s : State) (l : Nat) : ((s.loseLane l).lane l).lost = true ∧
    ((s.loseLane l).lane l).sliceOut = (s.lane l).sliceOut := by
  unfold State.loseLane
  extract_lets was u
  obtain ⟨hlost, hout⟩ := (u.when (!was) (·.wr Reg.LANE_EVENT.LOST 1 l)).showLane_lane l
  have hevent : (u.when (!was) (·.wr Reg.LANE_EVENT.LOST 1 l)).lane l = u.lane l :=
    State.when_keeps (fun v => v.lane l) (fun v => (State.wr_effect v ..).lane l) u
  have hu : u.lane l = { s.lane l with lost := true, sweep := none, allCall := false } := State.modLane_same ..
  rw [hlost, hout, hevent, hu]
  exact ⟨rfl, rfl⟩

theorem State.roleWaits_lane (s : State) (tgt n : Nat) : ((s.roleWaits roLane tgt n).lane tgt).sliceOut = true ∧
    ((s.roleWaits roLane tgt n).lane tgt).lost = true := by
  obtain ⟨hlost, hout⟩ := State.loseLane_lane
    ((s.modLoad fun l => { l with waiting := l.waiting ++ [n] }).modLane tgt fun l => { l with sliceOut := true }) tgt
  rw [State.modLane_same] at hout
  exact ⟨hout, hlost⟩

theorem State.roleWaits_arm (s : State) (tgt : Nat) (hn : n < 128) : (s.roleWaits roArm tgt n).rd Reg.ARM_STATUS.ACTIVE n = 0 ∧
    (s.roleWaits roArm tgt n).arm tgt = { s.arm tgt with out := true, failedTicks := 0 } := by
  have hhas : Reg.ARM_STATUS.ACTIVE.has n 0 = true := by simp [Field.has, Reg.ARM_STATUS.ACTIVE, hn]
  constructor
  · exact (State.rd_wr_same _ Reg.ARM_STATUS.ACTIVE 0 n 0 hhas (by decide)).trans (Nat.zero_mod _)
  · have hwaits : s.roleWaits roArm tgt n = ((s.modLoad fun l => { l with waiting := l.waiting ++ [n] }).wr Reg.ARM_STATUS.ACTIVE 0 n).modArm
      tgt fun a => { a with out := true, failedTicks := 0 } := rfl
    have harm : ((s.modLoad fun l => { l with waiting := l.waiting ++ [n] }).wr Reg.ARM_STATUS.ACTIVE 0 n).arm tgt = s.arm tgt :=
      (State.wr_effect ..).arm tgt
    rw [hwaits, State.modArm_same, harm]

theorem State.spareRetired_effect (s : State) (n : Nat) : Effect [.load] (some []) s (s.spareRetired n) := by
  unfold State.spareRetired
  split
  · exact Effect.ite (State.modLoad_effect ..) (Effect.refl _ _ _)
  · exact Effect.refl _ _ _

theorem State.spareRetired_load (s : State) (n : Nat) : (s.load.reloading = none → (s.spareRetired n).load = s.load) ∧
    ∀ old, s.load.reloading = some (old, some n) →
      (s.spareRetired n).load = { s.load with reloading := none, waiting := s.load.waiting ++ [old] } := by
  refine ⟨fun hnone => ?_, fun old hold => ?_⟩
  · simp [State.spareRetired, hnone]
  · simp [State.spareRetired, hold]

/-- A slice fails in a role: it is marked, its role waits, and the substitution is under way. -/
theorem State.sliceFail_role_does {a : State} (hn : n < 128) (hrole : s.sliceRole n ≠ 0) (hspare : s.sliceRole n ≠ roSpare)
    (hfailed : s.sliceState n ≠ slFailed) (hstate : s.sliceState n ≠ 0) :
    (s.sliceFail n).sliceState n = slFailed ∧ keepsOthers Reg.SLICE_ROLE.STATE n s (s.sliceFail n) ∧
    hasBit ((s.sliceFail n).rd Reg.IMAGE_SLICE_FAIL.FAIL (n / 32)) (n % 32) = true ∧
    (s.sliceFail n).load = { s.load with waiting := s.load.waiting ++ [n] } ∧
    (s.sliceFail n).rd Reg.IMAGE_SUBST_STATUS.BUSY = 1 ∧
    (s.evtAt = a.evtAt → a.mayRaise = true → raises a (s.sliceFail n) 17 n) ∧
    (s.sliceRole n = roLane → ((s.sliceFail n).lane (s.sliceTarget n)).sliceOut = true ∧
      ((s.sliceFail n).lane (s.sliceTarget n)).lost = true) ∧
    (s.sliceRole n = roArm → (s.sliceFail n).rd Reg.ARM_STATUS.ACTIVE n = 0 ∧
      (s.sliceFail n).arm (s.sliceTarget n) = { s.arm (s.sliceTarget n) with out := true, failedTicks := 0 }) ∧
    (s.sliceRole n = roMirror → (s.sliceFail n).safety.mirrorOut = 0) := by
  obtain ⟨hmarked, hothers, hbit⟩ := State.markFailed_rd (s := s) hn
  have hmark := State.markFailed_effect s n
  have hwaits := (s.markFailed n).roleWaits_effect (s.sliceRole n) (s.sliceTarget n) n
  have hload := (s.markFailed n).roleWaits_load (s.sliceRole n) (s.sliceTarget n) n
  have hshow := ((s.markFailed n).roleWaits (s.sliceRole n) (s.sliceTarget n) n).showSubst_effect
  have hrd : ∀ f i j, (movesRoles.all fun g => f.apart g) = true → (movesRoleWait.all fun g => f.apart g) = true →
      (((s.markFailed n).roleWaits (s.sliceRole n) (s.sliceTarget n) n).showRoles.showBusy).rd f i j = (s.markFailed n).rd f i j :=
    fun f i j hroles hwait => (hshow.rd f i j hroles).trans (hwaits.rd f i j hwait)
  rw [State.sliceFail_role hrole hspare hfailed hstate]
  refine ⟨(hrd _ _ _ (by decide +kernel) (by decide +kernel)).trans hmarked, fun k hk j => ?_, ?_, ?_, ?_, fun hevt hmay => ?_,
    fun hlane => ?_, fun harm => ?_, fun hmirror => ?_⟩
  · rw [hrd _ _ _ (by decide +kernel) (by decide +kernel), hothers k hk j]
  · rw [hrd _ _ _ (by decide +kernel) (by decide +kernel), hbit]
  · rw [hshow.same .load (by decide), hload, hmark.same .load (by decide)]
  · rw [State.showBusy_busy, (State.showRoles_effect _).same .load (by decide), hload]
    simp [b01]
  · rw [raises, hshow.same .faults (by decide), hwaits.same .faults (by decide)]
    exact State.markFailed_raises hevt hmay
  · rw [hshow.lane, hlane]
    exact State.roleWaits_lane ..
  · have hbefore : (s.markFailed n).arm (s.sliceTarget n) = s.arm (s.sliceTarget n) := hmark.arm _
    rw [hshow.arm, hshow.rd _ _ _ (by decide +kernel), harm, ← hbefore]
    exact State.roleWaits_arm _ _ hn
  · rw [hshow.same .safety (by decide), hmirror]
    rfl

/-- A spare that fails is retired. -/
theorem State.sliceFail_spare_does (hn : n < 128) (hspare : s.sliceRole n = roSpare) (hfailed : s.sliceState n ≠ slFailed)
    (hstate : s.sliceState n ≠ 0) : (s.sliceFail n).sliceState n = slFailed ∧
    (s.sliceFail n).rd Reg.ROLE_COUNT.SPARE = (s.sliceFail n).spares % 128 ∧
    ((s.sliceFail n).spares < 8 → 8 ≤ s.rd Reg.ROLE_COUNT.SPARE → (s.sliceFail n).rd Reg.IMAGE_EVENT.SPARE_LOW = 1) ∧
    (∀ old, s.load.reloading = some (old, some n) →
      (s.sliceFail n).load = { s.load with reloading := none, waiting := s.load.waiting ++ [old] }) ∧
    (s.load.reloading = none → (s.sliceFail n).load = s.load) ∧ (s.sliceFail n).lanes = s.lanes ∧ (s.sliceFail n).arms = s.arms := by
  obtain ⟨hmarked, -, -⟩ := State.markFailed_rd (s := s) hn
  have hmark := State.markFailed_effect s n
  have hretired := (s.markFailed n).spareRetired_effect n
  obtain ⟨hidle, hreloads⟩ := (s.markFailed n).spareRetired_load n
  have hshow := ((s.markFailed n).spareRetired n).showSubst_effect
  obtain ⟨hspares, hlow⟩ := ((s.markFailed n).spareRetired n).showSubst_spares
  rw [hmark.same .load (by decide)] at hidle hreloads
  rw [hretired.rd _ _ _ (by decide +kernel), hmark.rd _ _ _ (by decide +kernel)] at hlow
  rw [State.sliceFail_spare hspare hfailed hstate]
  refine ⟨?_, hspares, hlow, fun old hold => ?_, fun hnone => ?_, ?_, ?_⟩
  · exact (hshow.rd _ _ _ (by decide +kernel)).trans ((hretired.rd _ _ _ (by decide +kernel)).trans hmarked)
  · rw [hshow.same .load (by decide), hreloads old hold]
  · rw [hshow.same .load (by decide), hidle hnone]
  · rw [hshow.same .lanes (by decide), hretired.same .lanes (by decide), hmark.same .lanes (by decide)]
  · rw [hshow.same .arms (by decide), hretired.same .arms (by decide), hmark.same .arms (by decide)]

end

/-! ### A substitute takes over (R84, R85) -/

section
variable {s : State}

theorem State.measure_lane (s : State) (l : Nat) : ((s.measure l).lane l).sliceOut = (s.lane l).sliceOut := by
  unfold State.measure
  extract_lets u
  obtain ⟨-, hout⟩ := u.showLane_lane l
  rw [hout]
  unfold u
  split <;> rw [State.modLane_same]

/-- The lane of a substitute is in use again. -/
theorem State.roleEnters_lane (s : State) (tgt m : Nat) : ((s.roleEnters roLane tgt m).lane tgt).sliceOut = false := by
  unfold State.roleEnters
  rw [if_pos rfl]
  extract_lets u
  have hu : (u.lane tgt).sliceOut = false := by
    unfold u
    rw [State.modLane_same]
  split
  · rw [State.measure_lane, State.modLane_same]
    exact hu
  · rw [(u.showLane_lane tgt).2, hu]

/-- The arm of a substitute ranks again. -/
theorem State.roleEnters_arm {tgt m : Nat} (hm : m < 128) (hdeclared : (s.armCfg tgt).isSome = true) :
    ((s.roleEnters roArm tgt m).arm tgt).lost = false ∧ (s.roleEnters roArm tgt m).rd Reg.ARM_STATUS.ACTIVE m = 1 := by
  obtain ⟨ac, hac⟩ := Option.isSome_iff_exists.mp hdeclared
  have hhas : Reg.ARM_STATUS.ACTIVE.has m 0 = true := by simp [Field.has, Reg.ARM_STATUS.ACTIVE, hm]
  unfold State.roleEnters
  rw [if_neg (by decide), if_pos rfl]
  simp only [hac]
  have hcells : ∀ u : State, Effect [.cells] (some []) u (u.each (u.armCells tgt) fun s n => s.modCell n fun c => { c with th1 := 0, th2 := 0 }) :=
    fun u => Effect.each (Effect.refl _ _ _) fun v _ => State.modCell_effect v ..
  refine ⟨by rw [State.modArm_same], ?_⟩
  rw [State.modArm_rd, (hcells _).rd _ _ _ (by decide +kernel)]
  unfold State.loadArmSlice
  exact (State.rd_wr_apart _ _ _ _ _ _ (by decide +kernel)).trans ((State.rd_wr_same _ _ _ _ _ hhas (by decide)).trans rfl)

theorem State.substStart_waits (hreloading : s.load.reloading = none) (hwaiting : s.load.waiting = []) : s.substStart = s := by
  simp [State.substStart, hreloading, hwaiting, leastBy]

theorem State.substEnds_does (s : State) (result : Nat) : (s.substEnds result).rd Reg.IMAGE_SUBST_STATUS.RESULT = result % 8 ∧
    (s.substEnds result).rd Reg.IMAGE_EVENT.SUBST = 1 ∧
    (s.load.waiting = [] → s.load.reloading = none → (s.substEnds result).rd Reg.IMAGE_SUBST_STATUS.BUSY = 0) := by
  have hshow := ((s.wr Reg.IMAGE_SUBST_STATUS.RESULT result).wr Reg.IMAGE_EVENT.SUBST 1).showSubst_effect
  unfold State.substEnds
  refine ⟨?_, ?_, fun hwaiting hreloading => ?_⟩
  · rw [hshow.rd _ _ _ (by decide +kernel), State.rd_wr_apart _ _ _ _ _ _ (by decide +kernel), State.rd_wr_same _ _ _ _ _ rfl (by decide)]
    rfl
  · rw [hshow.rd _ _ _ (by decide +kernel), State.rd_wr_same _ _ _ _ _ rfl (by decide)]
    rfl
  · rw [State.showBusy_busy, (State.showRoles_effect _).same .load (by decide), State.wr_load, State.wr_load, hwaiting, hreloading]
    rfl

/-- The registers of slice m in a role: SLICE_ROLE, the number of substitutions, and the frame. -/
def State.inRole (s : State) (role tgt m : Nat) : State :=
  (((((s.wr Reg.SLICE_ROLE.ROLE role m).wr Reg.SLICE_ROLE.TARGET tgt m).wr Reg.SLICE_ROLE.STATE slService m).bump
    Reg.IMAGE_SUBST_STATUS.COUNT).wr Reg.IMAGE_SUBST_FRAME.FRAME
      (((s.wr Reg.SLICE_ROLE.ROLE role m).wr Reg.SLICE_ROLE.TARGET tgt m).wr Reg.SLICE_ROLE.STATE slService m).tickFrame)

theorem State.inRole_rd (s : State) (role tgt : Nat) {m : Nat} (hm : m < 128) : (s.inRole role tgt m).sliceRole m = role % 8 ∧
    (s.inRole role tgt m).sliceTarget m = tgt % 256 ∧ (s.inRole role tgt m).sliceState m = slService ∧
    (s.inRole role tgt m).rd Reg.IMAGE_SUBST_STATUS.COUNT = min 255 (s.rd Reg.IMAGE_SUBST_STATUS.COUNT + 1) := by
  have hrole : Reg.SLICE_ROLE.ROLE.has m 0 = true := by simp [Field.has, Reg.SLICE_ROLE.ROLE, hm]
  have htarget : Reg.SLICE_ROLE.TARGET.has m 0 = true := by simp [Field.has, Reg.SLICE_ROLE.TARGET, hm]
  have hstate : Reg.SLICE_ROLE.STATE.has m 0 = true := by simp [Field.has, Reg.SLICE_ROLE.STATE, hm]
  unfold State.sliceRole State.sliceTarget State.sliceState State.inRole
  refine ⟨?_, ?_, ?_, ?_⟩
  · rw [State.rd_wr_apart _ _ _ _ _ _ (by decide +kernel), State.rd_bump_apart _ _ _ _ _ (by decide +kernel),
      State.rd_wr_apart _ _ _ _ _ _ (by decide +kernel), State.rd_wr_apart _ _ _ _ _ _ (by decide +kernel),
      State.rd_wr_same _ _ _ _ _ hrole (by decide)]
    rfl
  · rw [State.rd_wr_apart _ _ _ _ _ _ (by decide +kernel), State.rd_bump_apart _ _ _ _ _ (by decide +kernel),
      State.rd_wr_apart _ _ _ _ _ _ (by decide +kernel), State.rd_wr_same _ _ _ _ _ htarget (by decide)]
    rfl
  · rw [State.rd_wr_apart _ _ _ _ _ _ (by decide +kernel), State.rd_bump_apart _ _ _ _ _ (by decide +kernel),
      State.rd_wr_same _ _ _ _ _ hstate (by decide)]
    rfl
  · rw [State.rd_wr_apart _ _ _ _ _ _ (by decide +kernel), State.rd_bump _ rfl (by decide), State.rd_wr_apart _ _ _ _ _ _ (by decide +kernel),
      State.rd_wr_apart _ _ _ _ _ _ (by decide +kernel), State.rd_wr_apart _ _ _ _ _ _ (by decide +kernel)]
    rfl

theorem State.inRole_effect (s : State) (role tgt m : Nat) : Effect [] (some [Reg.SLICE_ROLE.ROLE, Reg.SLICE_ROLE.TARGET,
    Reg.SLICE_ROLE.STATE, Reg.IMAGE_SUBST_STATUS.COUNT, Reg.IMAGE_SUBST_FRAME.FRAME]) s (s.inRole role tgt m) := by
  refine Effect.after (State.wr_effect ..) (by decide +kernel) (Effect.after (State.bump_effect ..) (by decide +kernel) ?_)
  refine Effect.after (State.wr_effect ..) (by decide +kernel) (Effect.after (State.wr_effect ..) (by decide +kernel) ?_)
  exact (State.wr_effect s ..).widen (by decide +kernel)

section
variable {old m : Nat}

/-- A reload that has ended with none waiting behind it. -/
theorem State.substInService_eq (copyOk : Bool) (hreloading : s.load.reloading = some (old, some m)) (hwaiting : s.load.waiting = []) :
    s.substInService copyOk = if copyOk && s.load.dram then
        (((s.modLoad fun l => { l with reloading := none }).inRole (s.sliceRole old) (s.sliceTarget old) m).roleEnters (s.sliceRole old)
          (s.sliceTarget old) m).substEnds 0
      else ((((s.modLoad fun l => { l with reloading := none }).wr Reg.SLICE_ROLE.STATE slSpare m).roleLost old).substEnds 2) := by
  unfold State.substInService
  simp only [hreloading]
  have hidle : ∀ u : State, Effect [.faults, .convs, .arms, .cells, .lanes, .safety] none (s.modLoad fun l => { l with reloading := none }) u →
      u.substStart = u := fun u k => State.substStart_waits (by rw [k.same .load (by decide)]; rfl) (by rw [k.same .load (by decide)]; exact hwaiting)
  cases hcopy : copyOk && s.load.dram <;> simp only [State.modLoad_load, hcopy, Bool.false_eq_true, if_false, if_true]
  · refine hidle _ (Effect.after (State.substEnds_effect ..) rfl (Effect.after (State.roleLost_effect ..) rfl ?_))
    exact (State.wr_effect ..).widen rfl
  · refine hidle ((((s.modLoad fun l => { l with reloading := none }).inRole (s.sliceRole old) (s.sliceTarget old) m).roleEnters
      (s.sliceRole old) (s.sliceTarget old) m).substEnds 0) ?_
    refine Effect.after (State.substEnds_effect ..) rfl (Effect.after (State.roleEnters_effect ..) rfl ?_)
    exact (State.inRole_effect ..).widen rfl

/-- The substitute is in service: role, target and what the role does. -/
theorem State.substInService_enters (hreloading : s.load.reloading = some (old, some m)) (hm : m < 128) (hdram : s.load.dram = true)
    (hwaiting : s.load.waiting = []) :
    (s.substInService true).sliceRole m = s.sliceRole old % 8 ∧ (s.substInService true).sliceTarget m = s.sliceTarget old % 256 ∧
    (s.substInService true).sliceState m = slService ∧ (s.substInService true).load = { s.load with reloading := none } ∧
    (s.substInService true).rd Reg.IMAGE_SUBST_STATUS.RESULT = 0 ∧ (s.substInService true).rd Reg.IMAGE_SUBST_STATUS.BUSY = 0 ∧
    (s.substInService true).rd Reg.IMAGE_EVENT.SUBST = 1 ∧
    (s.substInService true).rd Reg.IMAGE_SUBST_STATUS.COUNT = min 255 (s.rd Reg.IMAGE_SUBST_STATUS.COUNT + 1) ∧
    (s.sliceRole old = roLane → ((s.substInService true).lane (s.sliceTarget old)).sliceOut = false) ∧
    (s.sliceRole old = roArm → (s.armCfg (s.sliceTarget old)).isSome = true →
      ((s.substInService true).arm (s.sliceTarget old)).lost = false ∧ (s.substInService true).rd Reg.ARM_STATUS.ACTIVE m = 1) := by
  obtain ⟨hrole, htarget, hstate, hcount⟩ := (s.modLoad fun l => { l with reloading := none }).inRole_rd (s.sliceRole old)
    (s.sliceTarget old) hm
  have hin := (s.modLoad fun l => { l with reloading := none }).inRole_effect (s.sliceRole old) (s.sliceTarget old) m
  rw [State.substInService_eq true hreloading hwaiting, if_pos (by rw [hdram]; rfl)]
  generalize (s.modLoad fun l => { l with reloading := none }).inRole (s.sliceRole old) (s.sliceTarget old) m = u at hrole htarget hstate hcount hin ⊢
  have henter := State.roleEnters_effect u (s.sliceRole old) (s.sliceTarget old) m
  have hend := State.substEnds_effect (u.roleEnters (s.sliceRole old) (s.sliceTarget old) m) 0
  obtain ⟨hresult, hevent, hbusy⟩ := (u.roleEnters (s.sliceRole old) (s.sliceTarget old) m).substEnds_does 0
  have hload : (u.roleEnters (s.sliceRole old) (s.sliceTarget old) m).load = { s.load with reloading := none } := by
    rw [henter.same .load (by decide), hin.same .load (by decide)]
    rfl
  have hcfg : u.cfg = s.cfg := hin.same .cfg (by decide)
  refine ⟨?_, ?_, ?_, ?_, hresult, hbusy (by rw [hload]; exact hwaiting) (by rw [hload]), hevent, ?_, fun hlane => ?_, fun harm hdeclared => ?_⟩
  · exact (hend.rd _ _ _ (by decide +kernel)).trans ((henter.rd _ _ _ (by decide +kernel)).trans hrole)
  · exact (hend.rd _ _ _ (by decide +kernel)).trans ((henter.rd _ _ _ (by decide +kernel)).trans htarget)
  · exact (hend.rd _ _ _ (by decide +kernel)).trans ((henter.rd _ _ _ (by decide +kernel)).trans hstate)
  · rw [hend.same .load (by decide), hload]
  · exact (hend.rd _ _ _ (by decide +kernel)).trans ((henter.rd _ _ _ (by decide +kernel)).trans hcount)
  · rw [hend.lane, hlane]
    exact u.roleEnters_lane ..
  · rw [hend.arm, hend.rd _ _ _ (by decide +kernel), harm]
    exact State.roleEnters_arm hm (by unfold State.armCfg at hdeclared ⊢; rwa [hcfg])

/-- The role of a slice whose substitute could not be reloaded is lost. -/
theorem State.roleLost_arm (hrole : s.sliceRole old = roArm) : ((s.roleLost old).arm (s.sliceTarget old)).lost = true := by
  unfold State.roleLost
  extract_lets tgt u
  rw [if_pos hrole]
  have hu : (u.arm tgt).lost = true := by
    unfold u
    rw [State.modArm_same]
  split
  · rw [(State.blockAtTick_effect ..).arm, hu]
  · exact hu

theorem State.substInService_fails (hreloading : s.load.reloading = some (old, some m)) (hm : m < 128) (hwaiting : s.load.waiting = []) :
    (s.substInService false).sliceState m = slSpare ∧ (s.substInService false).sliceRole m = s.sliceRole m ∧
    (s.substInService false).rd Reg.IMAGE_SUBST_STATUS.RESULT = 2 ∧ (s.substInService false).rd Reg.IMAGE_EVENT.SUBST = 1 ∧
    (s.substInService false).load = { s.load with reloading := none } ∧
    (s.sliceRole old = roArm → ((s.substInService false).arm (s.sliceTarget old)).lost = true) := by
  have hhas : Reg.SLICE_ROLE.STATE.has m 0 = true := by simp [Field.has, Reg.SLICE_ROLE.STATE, hm]
  have hspare : ((s.modLoad fun l => { l with reloading := none }).wr Reg.SLICE_ROLE.STATE slSpare m).sliceState m = slSpare :=
    State.rd_wr_same _ _ _ _ _ hhas (by decide)
  have hslice : ∀ f, f.apart Reg.SLICE_ROLE.STATE = true → ∀ k,
      ((s.modLoad fun l => { l with reloading := none }).wr Reg.SLICE_ROLE.STATE slSpare m).rd f k = s.rd f k :=
    fun f hf k => State.rd_wr_apart _ _ _ _ _ _ hf
  have hleft : ((s.modLoad fun l => { l with reloading := none }).wr Reg.SLICE_ROLE.STATE slSpare m).load = { s.load with reloading := none } :=
    State.wr_load ..
  rw [State.substInService_eq false hreloading hwaiting, if_neg (by simp)]
  generalize (s.modLoad fun l => { l with reloading := none }).wr Reg.SLICE_ROLE.STATE slSpare m = u at hspare hslice hleft ⊢
  have hlost := State.roleLost_effect u old
  have hend := State.substEnds_effect (u.roleLost old) 2
  obtain ⟨hresult, hevent, -⟩ := (u.roleLost old).substEnds_does 2
  have hrole : u.sliceRole old = s.sliceRole old := hslice _ (by decide +kernel) _
  have htarget : u.sliceTarget old = s.sliceTarget old := hslice _ (by decide +kernel) _
  refine ⟨?_, ?_, hresult, hevent, ?_, fun harm => ?_⟩
  · exact (hend.rd _ _ _ (by decide +kernel)).trans ((hlost.rd _ _ _ (by decide +kernel)).trans hspare)
  · exact (hend.rd _ _ _ (by decide +kernel)).trans ((hlost.rd _ _ _ (by decide +kernel)).trans (hslice _ (by decide +kernel) _))
  · rw [hend.same .load (by decide), hlost.same .load (by decide), hleft]
  · rw [hend.arm, ← htarget]
    exact State.roleLost_arm (hrole.trans harm)

end

end

/-! ### The commands -/

theorem exec_cellAdmit (s : State) (c x : Nat) : exec (.cellAdmit c x) s = done (s.cellAdmit c x).2 := rfl

theorem exec_cellBypass (s : State) (c : Nat) : exec (.cellBypass c) s = done (s.cellBypass c).2 := rfl

theorem exec_cellFaultClear (s : State) (c : Nat) : exec (.cellFaultClear c) s = done (s.cellFaultClear c).2 := rfl

theorem exec_sliceError (s : State) (k : Fin 128) (t : Nat) : exec (.sliceError k t) s = done ((s.elapse t).sliceFail k.val) := rfl

theorem exec_spareSelftestFail (s : State) (k : Fin 128) (t : Nat) : exec (.spareSelftestFail k t) s =
    done (if (s.elapse t).device = stRun ∧ (s.elapse t).sliceRole k.val = roSpare then (s.elapse t).sliceFail k.val else s.elapse t) := rfl

theorem exec_substRequest (s : State) (v t : Nat) : exec (.substRequest v t) s = done ((s.elapse t).substRequest v) := rfl

theorem exec_substInService (s : State) (ok : Bool) (t : Nat) : exec (.substInService ok t) s = done ((s.elapse t).substInService ok) := rfl

/-- A command without an instant that does nothing. -/
theorem exec_unchanged {s : State} {c : Instr} (h : exec c s = done s) :
    ∃ n, exec c s = .next n ∧ Effect [.host, .out] (some movesIrq) s n :=
  ⟨_, h, (State.settle_effect s).widen (by decide +kernel)⟩

/-- Settles O22: each cell command and each step of a substitution, by the operation that its command carries out. -/
theorem cellCommandsAndSubstitution : Obligations.CellCommandsAndSubstitution := by
  unfold Obligations.CellCommandsAndSubstitution
  refine ⟨?admits, ?admitRefused, ?bypasses, ?bypassRefused, ?clears, ?clearsAll, ?clearRefused, ?roleFails, ?spareFails, ?notFailed,
    ?requested, ?notRequested, ?enters, ?notReloaded, ?idle⟩
  case admits =>
    intro s c x ch hdeclared hchain hpending hadmit hbypass hfound hserved hfresh
    have hexec := (exec_cellAdmit s c x).trans
      (congrArg done (State.cellAdmit_waits hdeclared hchain hpending hadmit hbypass hfound hserved hfresh))
    refine ⟨_, hexec, ?_, fun k hk => ?_, Effect.of_exec (execCellAdmit_effect c x s) hexec (by decide) (by decide +kernel)⟩
    · rw [State.settle_cell, State.modCell_same]
    · rw [State.settle_cell, State.modCell_other _ _ _ hk]
  case admitRefused =>
    intro s c x h
    exact exec_unchanged ((exec_cellAdmit s c x).trans (congrArg done (State.cellAdmit_refused h)))
  case bypasses =>
    intro s c hdeclared hstate hbypass
    have hexec := (exec_cellBypass s c).trans (congrArg done (State.cellBypass_waits hdeclared hstate hbypass))
    refine ⟨_, hexec, ?_, fun k hk => ?_, Effect.of_exec (execCellBypass_effect c s) hexec (by decide) (by decide +kernel)⟩
    · rw [State.settle_cell, State.modCell_same]
    · rw [State.settle_cell, State.modCell_other _ _ _ hk]
  case bypassRefused =>
    intro s c h
    exact exec_unchanged ((exec_cellBypass s c).trans (congrArg done (State.cellBypass_refused h)))
  case clears =>
    intro s c hdeclared hc
    have hone : (s.cellFaultClear c).2 = s.clearCell c := by
      obtain ⟨cfg, hcfg⟩ := Option.isSome_iff_exists.mp hdeclared
      simp [State.cellFaultClear, hcfg, show c ≠ 0xFFFF by omega]
    have hexec := (exec_cellFaultClear s c).trans (congrArg done hone)
    refine ⟨_, hexec, ?_, ?_, fun k hk => ?_, fun k hk j => ?_,
      Effect.of_exec (execCellFaultClear_effect c s) hexec (by decide) (by decide +kernel)⟩
    · exact (State.settle_cell _ _).trans (s.clearCell_cell c)
    · exact (State.settle_rd _ _ _ _ (by decide +kernel)).trans (s.clearCell_seen c)
    · rw [State.settle_cell, s.clearCell_other hk]
    · rw [State.settle_rd _ _ _ _ (by decide +kernel), s.clearCell_keepsOthers c k hk j]
  case clearsAll =>
    intro s
    have hexec := exec_cellFaultClear s 0xFFFF
    refine ⟨_, hexec, fun k hk => ?_, fun k hk => ?_,
      Effect.of_exec (execCellFaultClear_effect 0xFFFF s) hexec (by decide) (by decide +kernel)⟩
    · rw [State.settle_cell, State.settle_rd _ _ _ _ (by decide +kernel)]
      exact s.clearCells_does s.cellList k hk
    · rw [State.settle_cell, State.settle_rd _ _ _ _ (by decide +kernel)]
      exact s.clearCells_others s.cellList k hk
  case clearRefused =>
    intro s c hnone hc
    have hsame : (s.cellFaultClear c).2 = s := by simp [State.cellFaultClear, hnone, hc]
    exact exec_unchanged ((exec_cellFaultClear s c).trans (congrArg done hsame))
  case roleFails =>
    intro s k t hrole hspare hfailed hstate
    obtain ⟨hRole, hTarget, hState⟩ := s.elapse_slice t k.val
    obtain ⟨hmarked, hothers, hbit, hload, hbusy, hraises, hlane, harm, hmirror⟩ := State.sliceFail_role_does (s := s.elapse t)
      (a := s.elapse t) k.isLt (by rwa [hRole]) (by rwa [hRole]) (by rwa [hState]) (by rwa [hState])
    rw [s.elapse_load] at hload
    rw [hRole, hTarget] at hlane harm
    rw [hRole] at hmirror
    rw [s.elapse_arm] at harm
    have hexec := exec_sliceError s k t
    refine ⟨_, hexec, ?_, hothers.timed (by decide +kernel), ?_, ?_, ?_, fun hmay => ?_, fun h => ?_, fun h => ?_, fun h => ?_,
      Effect.of_exec (execSliceError_effect k t s) hexec (by decide) (by decide +kernel)⟩
    · exact (State.settle_rd _ _ _ _ (by decide +kernel)).trans hmarked
    · rw [State.settle_rd _ _ _ _ (by decide +kernel), hbit]
    · rw [State.settle_load, hload]
    · rw [State.settle_rd _ _ _ _ (by decide +kernel), hbusy]
    · exact State.settle_raises (hraises rfl ((s.elapse_mayRaise t).trans hmay))
    · rw [State.settle_lane]
      exact hlane h
    · rw [State.settle_arm, State.settle_rd _ _ _ _ (by decide +kernel)]
      exact harm h
    · rw [State.settle_safety, hmirror h]
  case spareFails =>
    intro s k t hspare hfailed hstate
    obtain ⟨hRole, -, hState⟩ := s.elapse_slice t k.val
    obtain ⟨hmarked, hspares, hlow, hreloads, hidle, hlanes, harms⟩ := State.sliceFail_spare_does (s := s.elapse t) k.isLt
      (hRole.trans hspare) (by rwa [hState]) (by rwa [hState])
    rw [s.elapse_load] at hreloads hidle
    rw [s.elapse_rd t _ 0 0 (by decide +kernel)] at hlow
    have hsame : ((s.elapse t).sliceFail k.val).settle.spares = ((s.elapse t).sliceFail k.val).spares :=
      State.spares_congr (fun n => State.settle_rd _ _ n 0 (by decide +kernel)) fun n => State.settle_rd _ _ n 0 (by decide +kernel)
    have hcount : ((s.elapse t).sliceFail k.val).settle.rd Reg.ROLE_COUNT.SPARE = ((s.elapse t).sliceFail k.val).settle.spares % 128 := by
      rw [State.settle_rd _ _ _ _ (by decide +kernel), hspares, hsame]
    have hdown : ((s.elapse t).sliceFail k.val).settle.sliceState k.val = slFailed :=
      (State.settle_rd _ _ _ _ (by decide +kernel)).trans hmarked
    refine ⟨⟨_, exec_sliceError s k t, hdown, hcount, fun hfew hwas => ?_, fun old hold => ?_, fun hnone => ?_, ?_, ?_⟩, fun hrun => ?_⟩
    · rw [State.settle_rd _ _ _ _ (by decide +kernel), hlow (hsame ▸ hfew) hwas]
    · rw [State.settle_load, hreloads old hold]
    · rw [State.settle_load, hidle hnone]
    · rw [State.settle_lanes, hlanes, s.elapse_lanes]
    · rw [State.settle_arms, harms, s.elapse_arms]
    · have hexec := (exec_spareSelftestFail s k t).trans (congrArg done (if_pos ⟨(s.elapse_device t).trans hrun, hRole.trans hspare⟩))
      exact ⟨_, hexec, hdown, hcount, Effect.of_exec (execSpareSelftestFail_effect k t s) hexec (by decide) (by decide +kernel)⟩
  case notFailed =>
    intro s k t h
    obtain ⟨hRole, -, hState⟩ := s.elapse_slice t k.val
    have hsame : (s.elapse t).sliceFail k.val = s.elapse t := State.sliceFail_ignored (by rwa [hRole, hState])
    refine ⟨⟨_, (exec_sliceError s k t).trans (congrArg done hsame), s.elapse_settle_effect t⟩,
      _, (exec_spareSelftestFail s k t).trans (congrArg done ?_), s.elapse_settle_effect t⟩
    rw [hsame, ite_self]
  case requested =>
    intro s v t hgo hrun hrole hspare hfailed hstate
    have hn : v % 128 < 128 := Nat.mod_lt _ (by decide)
    obtain ⟨hRole, hTarget, hState⟩ := s.elapse_slice t (v % 128)
    have hwr := State.wr_effect (s.elapse t) Reg.IMAGE_SUBST_REQ.SLICE v 0 0
    have hdevice : ((s.elapse t).wr Reg.IMAGE_SUBST_REQ.SLICE v).device = stRun :=
      (hwr.rd _ 0 0 (by decide +kernel)).trans ((s.elapse_device t).trans hrun)
    have hroleThere : ((s.elapse t).wr Reg.IMAGE_SUBST_REQ.SLICE v).sliceRole (v % 128) = s.sliceRole (v % 128) :=
      (hwr.rd _ _ 0 (by decide +kernel)).trans hRole
    have hstateThere : ((s.elapse t).wr Reg.IMAGE_SUBST_REQ.SLICE v).sliceState (v % 128) = s.sliceState (v % 128) :=
      (hwr.rd _ _ 0 (by decide +kernel)).trans hState
    obtain ⟨hmarked, -, -, hload, hbusy, -⟩ := State.sliceFail_role_does (s := (s.elapse t).wr Reg.IMAGE_SUBST_REQ.SLICE v) (a := s) hn
      (by rwa [hroleThere]) (by rwa [hroleThere]) (by rwa [hstateThere]) (by rwa [hstateThere])
    rw [State.wr_load, s.elapse_load] at hload
    have hacts : (s.elapse t).substRequest v = ((s.elapse t).wr Reg.IMAGE_SUBST_REQ.SLICE v).sliceFail (v % 128) :=
      if_pos (by rw [hgo, hdevice]; rfl)
    have hexec := (exec_substRequest s v t).trans (congrArg done hacts)
    refine ⟨_, hexec, ?_, ?_, ?_, ?_, Effect.of_exec (execSubstRequest_effect v t s) hexec (by decide) (by decide +kernel)⟩
    · rw [State.settle_rd _ _ _ _ (by decide +kernel), (State.sliceFail_effect ..).rd _ _ _ (by decide +kernel),
        State.rd_wr_same _ _ _ _ _ rfl (by decide)]
      rfl
    · exact (State.settle_rd _ _ _ _ (by decide +kernel)).trans hmarked
    · rw [State.settle_load, hload]
    · rw [State.settle_rd _ _ _ _ (by decide +kernel), hbusy]
  case notRequested =>
    intro s v t h
    have hwr := State.wr_effect (s.elapse t) Reg.IMAGE_SUBST_REQ.SLICE v 0 0
    have hdevice : ((s.elapse t).wr Reg.IMAGE_SUBST_REQ.SLICE v).device = s.device :=
      (hwr.rd _ 0 0 (by decide +kernel)).trans (s.elapse_device t)
    have hwrites : (s.elapse t).substRequest v = (s.elapse t).wr Reg.IMAGE_SUBST_REQ.SLICE v :=
      if_neg (by rw [hdevice]; rcases h with h | h <;> simp [h])
    have hexec := (exec_substRequest s v t).trans (congrArg done hwrites)
    refine ⟨_, hexec, ?_, hwr.timed (by decide) (by decide +kernel)⟩
    rw [State.settle_rd _ _ _ _ (by decide +kernel), State.rd_wr_same _ _ _ _ _ rfl (by decide)]
    rfl
  case enters =>
    intro s t old m hreloading hm hdram hwaiting
    obtain ⟨hRole, hTarget, -⟩ := s.elapse_slice t old
    obtain ⟨hrole, htarget, hstate, hload, hresult, hbusy, hevent, hcount, hlane, harm⟩ := State.substInService_enters (s := s.elapse t)
      (by rw [s.elapse_load, hreloading]) hm (by rw [s.elapse_load, hdram]) (by rw [s.elapse_load, hwaiting])
    rw [hRole] at hrole
    rw [hTarget] at htarget
    rw [s.elapse_load] at hload
    rw [s.elapse_rd t _ 0 0 (by decide +kernel)] at hcount
    rw [hRole, hTarget] at hlane harm
    rw [s.elapse_armCfg] at harm
    have hexec := exec_substInService s true t
    refine ⟨_, hexec, ?_, ?_, ?_, ?_, ?_, ?_, ?_, ?_, fun h => ?_, fun h hdeclared => ?_,
      Effect.of_exec (execSubstInService_effect true t s) hexec (by decide) (by decide +kernel)⟩
    · exact (State.settle_rd _ _ _ _ (by decide +kernel)).trans hrole
    · exact (State.settle_rd _ _ _ _ (by decide +kernel)).trans htarget
    · exact (State.settle_rd _ _ _ _ (by decide +kernel)).trans hstate
    · rw [State.settle_load, hload]
    · rw [State.settle_rd _ _ _ _ (by decide +kernel), hresult]
    · rw [State.settle_rd _ _ _ _ (by decide +kernel), hbusy]
    · rw [State.settle_rd _ _ _ _ (by decide +kernel), hevent]
    · rw [State.settle_rd _ _ _ _ (by decide +kernel), hcount]
    · rw [State.settle_lane, hlane h]
    · rw [State.settle_arm, State.settle_rd _ _ _ _ (by decide +kernel)]
      exact harm h hdeclared
  case notReloaded =>
    intro s t old m hreloading hm hwaiting
    obtain ⟨hRole, hTarget, -⟩ := s.elapse_slice t old
    obtain ⟨hstate, hrole, hresult, hevent, hload, harm⟩ := State.substInService_fails (s := s.elapse t)
      (by rw [s.elapse_load, hreloading]) hm (by rw [s.elapse_load, hwaiting])
    rw [(s.elapse_slice t m).1] at hrole
    rw [s.elapse_load] at hload
    rw [hRole, hTarget] at harm
    refine ⟨_, exec_substInService s false t, ?_, ?_, ?_, ?_, ?_, fun h => ?_⟩
    · exact (State.settle_rd _ _ _ _ (by decide +kernel)).trans hstate
    · exact (State.settle_rd _ _ _ _ (by decide +kernel)).trans hrole
    · rw [State.settle_rd _ _ _ _ (by decide +kernel), hresult]
    · rw [State.settle_rd _ _ _ _ (by decide +kernel), hevent]
    · rw [State.settle_load, hload]
    · rw [State.settle_arm, harm h]
  case idle =>
    intro s t ok hnone
    have hsame : (s.elapse t).substInService ok = s.elapse t := by simp [State.substInService, hnone]
    exact ⟨_, (exec_substInService s ok t).trans (congrArg done hsame), s.elapse_settle_effect t⟩


end Sys2Proof.Machine
end

section
namespace Sys2Proof.Machine

set_option Elab.async false

/-! ### Lanes that stay down (R71) -/

theorem State.showLane_other (s : State) {a b : Nat} (h : b ≠ a) : (s.showLane a).lane b = s.lane b := by
  unfold State.showLane
  extract_lets st u
  have hshown : (u.wr Reg.LANE_STATUS.STATE st a).lane b = u.lane b := (State.wr_effect u ..).lane b
  rw [hshown]
  exact State.when_keeps (fun v => v.lane b) (fun v => v.modLane_other a _ h) s

theorem State.loseLane_other (s : State) {a b : Nat} (h : b ≠ a) : (s.loseLane a).lane b = s.lane b := by
  unfold State.loseLane
  extract_lets was u
  rw [State.showLane_other _ h]
  exact (State.when_keeps (fun v => v.lane b) (fun v => (State.wr_effect v ..).lane b) u).trans (s.modLane_other a _ h)

/-- A loop of LOST over lanes marks these and leaves the others. -/
theorem State.loseLanes (s : State) (l : List Nat) : (∀ k, k ∉ l → (s.each l fun s n => s.loseLane n).lane k = s.lane k) ∧
    ∀ k ∈ l, ((s.each l fun s n => s.loseLane n).lane k).lost = true := by
  refine State.each_forall (I := fun v => ∀ k, k ∉ l → v.lane k = s.lane k) (P := fun k v => (v.lane k).lost = true)
    (fun _ _ => rfl) (fun v hv a ha k hk => ?_) (fun v _ a _ => (v.loseLane_lane a).1) fun v _ a _ b hab hb => ?_
  · have hka : k ≠ a := fun h => hk (h ▸ ha)
    exact (v.loseLane_other hka).trans (hv k hk)
  · rw [v.loseLane_other (Ne.symm hab)]
    exact hb

/-- The lanes that LANE_UP_TIMEOUT gives up. -/
def State.lanesToLose (s : State) : List Nat := s.lanesDown.filter fun n => !s.on Reg.LANE_STATUS.SYNC n

theorem State.mem_lanesToLose {s : State} {k : Nat} : k ∈ s.lanesToLose ↔ k ∈ s.lanesDown ∧ s.rd Reg.LANE_STATUS.SYNC k = 0 := by
  simp [State.lanesToLose, State.on]

theorem State.laneTimeout_due {s : State} (hkick : s.inKickOff = true) (hloaded : s.cfg.loaded = true) (hticks : 1000 ≤ s.fr.ticks) :
    s.laneTimeout = s.each s.lanesToLose fun s n => s.loseLane n :=
  if_pos (by rw [hkick, hloaded, decide_eq_true hticks]; rfl)

theorem State.laneTimeout_waits {s : State} (h : s.inKickOff = false ∨ s.cfg.loaded = false ∨ s.fr.ticks < 1000) :
    s.laneTimeout = s := by
  refine if_neg ?_
  rcases h with h | h | h
  · simp [h]
  · simp [h]
  · simp [Nat.not_le.mpr h]

theorem State.elapse_lanesDown (s : State) (t : Nat) : (s.elapse t).lanesDown = s.lanesDown := by
  simp only [State.lanesDown, State.laneList, State.lane, s.elapse_cfg, s.elapse_lanes]

theorem State.elapse_lanesToLose (s : State) (t : Nat) : (s.elapse t).lanesToLose = s.lanesToLose := by
  have hsync : ∀ n, (s.elapse t).on Reg.LANE_STATUS.SYNC n = s.on Reg.LANE_STATUS.SYNC n := fun n =>
    congrArg (· != 0) (s.elapse_rd t _ n 0 (by decide +kernel))
  simp only [State.lanesToLose, s.elapse_lanesDown, hsync]

theorem State.elapse_inKickOff (s : State) (t : Nat) : (s.elapse t).inKickOff = s.inKickOff := by
  simp only [State.inKickOff, s.elapse_device, s.elapse_power]

theorem State.elapse_ticks (s : State) (t : Nat) : (s.elapse t).fr.ticks = s.fr.ticks := by
  obtain ⟨k, hfr⟩ := s.elapse_fr_timer t
  rw [hfr]

theorem exec_laneUpTimeout (s : State) (t : Nat) : exec (.laneUpTimeout t) s = done (s.elapse t).laneTimeout := rfl

theorem exec_laneUpTimeout_due {s : State} (t : Nat) (hkick : s.inKickOff = true) (hloaded : s.cfg.loaded = true)
    (hticks : 1000 ≤ s.fr.ticks) :
    exec (.laneUpTimeout t) s = done ((s.elapse t).each s.lanesToLose fun s n => s.loseLane n) := by
  rw [exec_laneUpTimeout, State.laneTimeout_due ((s.elapse_inKickOff t).trans hkick) (by rw [s.elapse_cfg, hloaded])
    (by rw [s.elapse_ticks]; exact hticks), s.elapse_lanesToLose]

theorem exec_laneUpTimeout_lanes {s : State} (t : Nat) (hkick : s.inKickOff = true) (hloaded : s.cfg.loaded = true)
    (hticks : 1000 ≤ s.fr.ticks) :
    ∃ n, exec (.laneUpTimeout t) s = .next n ∧ (∀ k ∈ s.lanesToLose, (n.lane k).lost = true) ∧
      ∀ k, k ∉ s.lanesToLose → n.lane k = s.lane k := by
  obtain ⟨hothers, hlost⟩ := (s.elapse t).loseLanes s.lanesToLose
  refine ⟨_, exec_laneUpTimeout_due t hkick hloaded hticks, fun k hk => ?_, fun k hk => ?_⟩
  · rw [State.settle_lane]
    exact hlost k hk
  · rw [State.settle_lane, hothers k hk]
    exact congrArg (Tbl.look default · k) (s.elapse_lanes t)

/-! ### The role of a plane (Table 09-5) -/

/-- What a plane shows of its role beside the role itself. -/
def movesPlane : List Field :=
  [Reg.DOMAIN_STATE.PLANE_A, Reg.DOMAIN_STATE.PLANE_B, Reg.POWER_PGOOD.PGOOD, Reg.ENG_STATUS.BALL, Reg.ENG_STATUS.SHADOW,
   Reg.ENG_STATUS.COLD, Reg.ENG_EXPORT.VALUE]

/-- The register of a plane's role is written before what follows it, and after UNFIT. -/
theorem State.setRole_writes (s : State) (p r : Nat) : ∃ u, Effect [] (some [Reg.REF_EVENT.UNFIT]) s u ∧
    Effect [.power, .engs] (some movesPlane) (u.wr (if p = 0 then Reg.REF_STATUS.ROLE_A else Reg.REF_STATUS.ROLE_B) r) (s.setRole p r) := by
  unfold State.setRole
  extract_lets unfit on role domain engines exports
  have hdomain : Effect [.power, .engs] (some movesPlane) role domain := by
    by_cases h : p = 0
    · simp only [domain, h, if_true]
      exact (State.wr_effect ..).widen (by decide +kernel)
    · simp only [domain, h, if_false]
      exact (State.wr_effect ..).widen (by decide +kernel)
  have hengines : Effect [.power, .engs] (some movesPlane) role engines :=
    Effect.each hdomain fun u j => Effect.when
      (Effect.after (State.wr_effect ..) (by decide +kernel) <| Effect.after (State.wr_effect ..) (by decide +kernel) <|
        (State.wr_effect ..).widen (by decide +kernel))
      fun v => (State.modEng_effect ..).widen (by decide +kernel)
  have hexports : Effect [.power, .engs] (some movesPlane) role exports :=
    Effect.when hengines fun u => (State.showExports_effect ..).widen (by decide +kernel)
  refine ⟨unfit, Effect.when (Effect.refl _ _ _) fun u => (State.wr_effect ..).widen (by decide +kernel), ?_⟩
  refine Effect.ite hexports ?_
  exact Effect.after (State.wrBit_effect ..) (by decide +kernel) (Effect.after (Effect.power ..) (by decide +kernel) hexports)

theorem State.setRole_role (s : State) (p r : Nat) : (s.setRole p r).role p = r % 8 := by
  obtain ⟨u, -, hrest⟩ := s.setRole_writes p r
  unfold State.role
  by_cases h : p = 0
  · simp only [h, if_true] at hrest ⊢
    rw [hrest.rd _ _ _ (by decide +kernel), State.rd_wr_same _ _ _ _ _ rfl (by decide)]
    rfl
  · simp only [h, if_false] at hrest ⊢
    rw [hrest.rd _ _ _ (by decide +kernel), State.rd_wr_same _ _ _ _ _ rfl (by decide)]
    rfl

theorem State.setRole_standby_role (s : State) (r : Nat) : (s.setRole 1 r).role 0 = s.role 0 := by
  obtain ⟨u, hunfit, hrest⟩ := s.setRole_writes 1 r
  unfold State.role
  rw [if_pos rfl, hrest.rd _ _ _ (by decide +kernel), if_neg Nat.one_ne_zero, State.rd_wr_apart _ _ _ _ _ _ (by decide +kernel),
    hunfit.rd _ _ _ (by decide +kernel)]

/-! ### The ball to plane A, and RUN (R65 step 11, R199) -/

theorem State.giveBall_does (s : State) (p : Nat) : (s.giveBall p).refState = rsHeld ∧ (s.giveBall p).holder = p % 2 ∧
    (s.giveBall p).rd Reg.REF_STATUS.LEASE = s.cfg.limits.lease % 32 ∧ (s.giveBall p).role p = roActive ∧
    (s.giveBall p).referee.ball = true := by
  unfold State.giveBall
  extract_lets held leased given
  have hrole := State.setRole_effect s p roActive
  have hactive := s.setRole_role p roActive
  have hcfg : held.cfg = s.cfg := by
    unfold held
    rw [State.wr_cfg, State.wr_cfg, hrole.same .cfg (by decide)]
  have hempty := State.emptyHistory_effect given
  have hgiven : ∀ f, given.rd f = leased.rd f := fun f => State.modRef_rd ..
  have hstate : leased.rd Reg.REF_STATUS.STATE = rsHeld :=
    (State.rd_wr_apart _ _ _ _ _ _ (by decide +kernel)).trans (State.rd_wr_same _ _ _ _ _ rfl (by decide))
  have hholder : leased.rd Reg.REF_STATUS.HOLDER = p % 2 :=
    (State.rd_wr_apart _ _ _ _ _ _ (by decide +kernel)).trans
      ((State.rd_wr_apart _ _ _ _ _ _ (by decide +kernel)).trans (State.rd_wr_same _ _ _ _ _ rfl (by decide)))
  have hlease : leased.rd Reg.REF_STATUS.LEASE = s.cfg.limits.lease % 32 := by
    refine (State.rd_wr_same _ _ _ _ _ rfl (by decide)).trans ?_
    rw [hcfg]
    rfl
  have hroleField : leased.role p = roActive := by
    rw [← show roActive % 8 = roActive from rfl, ← hactive]
    unfold State.role leased held
    by_cases h : p = 0
    · simp only [h, if_true]
      simp (disch := decide +kernel) only [State.rd_wr_apart]
    · simp only [h, if_false]
      simp (disch := decide +kernel) only [State.rd_wr_apart]
  have hball : given.referee.ball = true := rfl
  have hkept : (given.emptyHistory).role p = leased.role p := by
    unfold State.role
    by_cases h : p = 0
    · rw [if_pos h, hempty.rd _ _ _ (by decide +kernel), hgiven]
    · rw [if_neg h, hempty.rd _ _ _ (by decide +kernel), hgiven]
  clear_value leased given
  refine ⟨?_, ?_, ?_, hkept.trans hroleField, ?_⟩
  · exact (hempty.rd _ _ _ (by decide +kernel)).trans ((hgiven _ ▸ hstate))
  · exact (hempty.rd _ _ _ (by decide +kernel)).trans ((hgiven _ ▸ hholder))
  · exact (hempty.rd _ _ _ (by decide +kernel)).trans ((hgiven _ ▸ hlease))
  · rw [hempty.same .referee (by decide), hball]

theorem State.enterRun_does (s : State) : s.enterRun.device = stRun ∧ s.enterRun.power.step = 0 ∧ s.enterRun.power.dormantExit = false ∧
    s.enterRun.safety.announced = false := by
  unfold State.enterRun
  extract_lets run lanes
  have hdevice : run.device = stRun := (State.modPower_rd ..).trans (State.rd_wr_same _ _ _ _ _ rfl (by decide))
  have hpower : run.power.step = 0 ∧ run.power.dormantExit = false := ⟨rfl, rfl⟩
  clear_value run
  have hlanes : Effect [.lanes] State.showLane_fields run lanes := Effect.each (Effect.refl _ _ _) fun u k =>
    Effect.ite (Effect.after (State.showLane_effect ..) (by decide +kernel) ((State.modLane_effect ..).widen (by decide +kernel)))
      (Effect.refl _ _ _)
  have hchains : Effect [.lanes, .chains] State.showLane_fields run
      (lanes.each lanes.cfg.chains fun s c => s.modChain c.chain fun x => { x with started := 2 }) :=
    Effect.each (hlanes.widen (by decide +kernel)) fun u c => (State.modChain_effect ..).widen (by decide +kernel)
  have hend := State.endAnnounce_effect (lanes.each lanes.cfg.chains fun s c => s.modChain c.chain fun x => { x with started := 2 })
  refine ⟨?_, ?_, ?_, ?_⟩
  · exact (hend.rd _ _ _ (by decide +kernel)).trans ((hchains.rd _ _ _ (by decide +kernel)).trans hdevice)
  · rw [hend.same .power (by decide), hchains.same .power (by decide), hpower.1]
  · rw [hend.same .power (by decide), hchains.same .power (by decide), hpower.2]
  · exact congrArg SafeSt.announced ((State.showSafe_effect _).same .safety (by decide))

theorem State.firstGrant_planeA {s : State} (hbroken : s.referee.broken = false) (hstate : s.refState = rsSetup) (hrole : s.role 0 = roWaking) :
    s.firstGrant = (s.giveBall 0).modRef fun r => { r with restart := true } := by
  unfold State.firstGrant
  rw [if_neg (by simp [hbroken, hstate]), if_pos hrole]

/-- What the device holds in RUN with the ball at plane A, by the first grant (R65 step 11). -/
structure GrantedToA (s n : State) : Prop where
  device : n.device = stRun
  step : n.power.step = 0
  dormantExit : n.power.dormantExit = false
  ball : n.referee.ball = true
  holder : n.holder = 0
  refState : n.refState = rsHeld
  role : n.role 0 = roActive
  lease : n.rd Reg.REF_STATUS.LEASE = s.cfg.limits.lease % 32
  announced : n.safety.announced = false

theorem State.kickoffGrant_due {s : State} (hkick : s.inKickOff = true) (hloaded : s.cfg.loaded = true) (hstep : s.power.step = 10)
    (hlanes : s.lanesDown = [] ∨ 1000 ≤ s.fr.ticks) (hbroken : s.referee.broken = false) (hstate : s.refState = rsSetup)
    (hrole : s.role 0 = roWaking) : s.kickoffGrant = ((s.giveBall 0).modRef fun r => { r with restart := true }).enterRun := by
  have hdue : (s.inKickOff && s.cfg.loaded && decide (s.power.step = 10) && (s.lanesDown.isEmpty || decide (1000 ≤ s.fr.ticks))) = true := by
    rcases hlanes with h | h <;> simp [hkick, hloaded, hstep, h]
  unfold State.kickoffGrant
  rw [if_pos hdue, State.firstGrant_planeA hbroken hstate hrole]
  exact if_pos (s.giveBall_does 0).2.2.2.2

theorem State.grantedToA_settle (s : State) :
    GrantedToA s ((s.giveBall 0).modRef fun r => { r with restart := true }).enterRun.settle := by
  obtain ⟨hstate, hholder, hlease, hrole, hball⟩ := s.giveBall_does 0
  generalize hgiven : ((s.giveBall 0).modRef fun r => { r with restart := true }) = given
  have hrd : ∀ f, given.rd f = (s.giveBall 0).rd f := fun f => hgiven ▸ State.modRef_rd ..
  have hreferee : given.referee.ball = (s.giveBall 0).referee.ball := by rw [← hgiven]; rfl
  obtain ⟨hdevice, hstep, hdormant, hannounced⟩ := given.enterRun_does
  have heffect := State.enterRun_effect given
  have hkeep : ∀ f ∈ [Reg.REF_STATUS.STATE, Reg.REF_STATUS.HOLDER, Reg.REF_STATUS.LEASE, Reg.REF_STATUS.ROLE_A],
      given.enterRun.settle.rd f = (s.giveBall 0).rd f := by
    intro f hf
    rw [State.settle_rd _ _ _ _ (by revert f; decide +kernel), heffect.rd _ _ _ (by revert f; decide +kernel), hrd]
  exact
    { device := (State.settle_rd _ _ _ _ (by decide +kernel)).trans hdevice
      step := by rw [State.settle_power, hstep]
      dormantExit := by rw [State.settle_power, hdormant]
      ball := by rw [State.settle_referee, heffect.same .referee (by decide), hreferee, hball]
      holder := (hkeep _ (by simp)).trans hholder
      refState := (hkeep _ (by simp)).trans hstate
      role := (hkeep _ (by simp)).trans hrole
      lease := (hkeep _ (by simp)).trans hlease
      announced := by rw [State.settle_safety, hannounced] }

theorem State.kickoffGrant_waits {s : State} (h : s.inKickOff = false ∨ s.cfg.loaded = false ∨ s.power.step ≠ 10 ∨
    (s.lanesDown ≠ [] ∧ s.fr.ticks < 1000)) : s.kickoffGrant = s := by
  refine if_neg ?_
  rcases h with h | h | h | ⟨hdown, hticks⟩
  · simp [h]
  · simp [h]
  · simp [h]
  · simp [hdown, Nat.not_le.mpr hticks]

theorem exec_kickoffGrant (s : State) (t : Nat) : exec (.kickoffGrant t) s = done (s.elapse t).kickoffGrant := rfl

/-! ### The cells of a chain at commit (R107, R118) -/

/-- A cell as the image declares it: ABSENT, nothing measured, BLOCK in every slot. -/
def State.layCell (s : State) (cc : ChainCfg) (h : Nat) : State :=
  let n := cc.base + h
  let ident := match s.cellCfg n with
    | some x => x.ident
    | none => 0
  let s := (s.wr Reg.CELL_STATE.STATE csAbsent n).wr Reg.CELL_STATE.REASON 0 n
  let s := ((s.wr Reg.CELL_STATE.CONFIRMED 0 n).wr Reg.CELL_STATE.NO_REPLY 0 n).wr Reg.CELL_STATE.CALL_QUEUED 0 n
  let s := s.wr64 Reg.TS_RECORDED_LO.IDENTITY Reg.TS_RECORDED_HI.IDENTITY ident n
  let s := s.clearSheet n
  (s.showPlace cc h).modCell n fun _ =>
    { (default : CellMem) with cmd := holdCmd stBlock, force := holdCmd stBlock, fin := stBlock, last := -65536 }

/-- The state of every cell after one is laid is what the write of ABSENT left. -/
theorem State.layCell_cstate (s : State) (cc : ChainCfg) (h k : Nat) :
    (s.layCell cc h).cstate k = (s.wr Reg.CELL_STATE.STATE csAbsent (cc.base + h)).cstate k := by
  unfold State.layCell State.cstate
  extract_lets n ident absent quiet recorded cleared
  rw [(State.modCell_effect ..).rd _ _ _ (by decide +kernel), (State.showPlace_effect ..).rd _ _ _ (by decide +kernel),
    (State.clearSheet_effect ..).rd _ _ _ (by decide +kernel), (State.wr64_effect ..).rd _ _ _ (by decide +kernel)]
  unfold quiet absent
  simp (disch := decide +kernel) only [State.rd_wr_apart]
  rfl

theorem State.layCell_same (s : State) (cc : ChainCfg) {h : Nat} (hn : cc.base + h < 1536) :
    (s.layCell cc h).cstate (cc.base + h) = csAbsent :=
  (s.layCell_cstate cc h _).trans (State.rd_wr_same _ _ _ _ _ (by simp [Field.has, Reg.CELL_STATE.STATE, hn]) (by decide))

theorem State.layCell_keepsAbsent (s : State) (cc : ChainCfg) (h : Nat) {k : Nat} (hk : k < 1536) (habsent : s.cstate k = csAbsent) :
    (s.layCell cc h).cstate k = csAbsent := by
  by_cases hsame : k = cc.base + h
  · subst hsame
    exact s.layCell_same cc hk
  · rw [s.layCell_cstate]
    exact (State.rd_wr_other _ _ _ _ _ hsame (by decide)).trans habsent

/-- A chain and its lane ends before its cells (R91, R117). -/
def State.layChain (s : State) (cc : ChainCfg) : State :=
  let e := 2 * cc.chain
  let s := ((s.wr Reg.LANE_CHAIN.SPLIT cc.split e).wr Reg.LANE_CHAIN.GAP 0 e).wr Reg.LANE_CHAIN.CELLS cc.cells e
  let s := (s.wr Reg.LANE_CHAIN.PHYS 0 e).wr Reg.LANE_CHAIN.LOOPED 0 e
  let s := s.showDown cc.chain
  let s := s.each [e, e + 1] fun s l =>
    (s.each (upTo 32) fun s q => s.wr Reg.LANE_DELAY.VALID 0 l q).wr Reg.LANE_STATUS.CHAIN_LATE 0 l
  let s := (s.planChain cc.chain).showLane e
  s.showLane (e + 1)

theorem State.commitChain_eq (s : State) (cc : ChainCfg) :
    s.commitChain cc = (s.layChain cc).each (upTo cc.cells) fun s h => s.layCell cc h := rfl

theorem State.layChain_cstate (s : State) (cc : ChainCfg) (k : Nat) : (s.layChain cc).cstate k = s.cstate k := by
  unfold State.layChain State.cstate
  extract_lets e sized joined down late planned
  have hlate : late.rd Reg.CELL_STATE.STATE k = down.rd Reg.CELL_STATE.STATE k :=
    State.each_keeps (fun v => v.rd Reg.CELL_STATE.STATE k) (fun v l => (State.rd_wr_apart _ _ _ _ _ _ (by decide +kernel)).trans
      (State.each_keeps (fun w => w.rd Reg.CELL_STATE.STATE k) (fun w q => State.rd_wr_apart _ _ _ _ _ _ (by decide +kernel)) v)) down
  rw [(State.showLane_effect ..).rd _ _ _ (by decide +kernel), (State.showLane_effect ..).rd _ _ _ (by decide +kernel),
    (State.planChain_effect ..).rd _ _ _ (by decide +kernel), hlate, (State.showDown_effect ..).rd _ _ _ (by decide +kernel)]
  unfold joined sized
  simp (disch := decide +kernel) only [State.rd_wr_apart]

theorem State.commitChain_keepsAbsent (s : State) (cc : ChainCfg) {k : Nat} (hk : k < 1536) (habsent : s.cstate k = csAbsent) :
    (s.commitChain cc).cstate k = csAbsent := by
  rw [s.commitChain_eq]
  exact (State.each_forall (I := fun v => v.cstate k = csAbsent) (P := fun _ _ => True) ((s.layChain_cstate cc k).trans habsent)
    (fun v hv h _ => v.layCell_keepsAbsent cc h hk hv) (fun _ _ _ _ => trivial) fun _ _ _ _ _ _ _ => trivial).1

/-- Whether the cells of a chain are ABSENT. -/
def State.chainAbsent (s : State) (cc : ChainCfg) : Prop := ∀ h, h < cc.cells → cc.base + h < 1536 → s.cstate (cc.base + h) = csAbsent

theorem State.commitChain_absent (s : State) (cc : ChainCfg) : (s.commitChain cc).chainAbsent cc := by
  have hcells := (State.each_forall (I := fun _ => True) (P := fun h v => cc.base + h < 1536 → v.cstate (cc.base + h) = csAbsent)
    (s := s.layChain cc) (l := upTo cc.cells) trivial (fun _ _ _ _ => trivial) (fun v _ h _ hn => v.layCell_same cc hn)
    fun v _ a _ b _ hb hn => v.layCell_keepsAbsent cc a hn (hb hn)).2
  exact fun h hh hn => hcells h (mem_upTo.mpr hh) hn

/-- Every cell that the image declares is ABSENT once its chains are laid. -/
theorem State.commitChains_absent (s : State) (l : List ChainCfg) :
    ∀ cc ∈ l, (s.each l fun s cc => s.commitChain cc).chainAbsent cc :=
  (State.each_forall (I := fun _ => True) (P := fun cc v => v.chainAbsent cc) trivial (fun _ _ _ _ => trivial)
    (fun v _ cc _ => v.commitChain_absent cc)
    fun v _ a _ _ _ hb h hh hn => v.commitChain_keepsAbsent a hn (hb h hh hn)).2

/-! ### The converters at commit (R185) -/

/-- A converter as the image declares it: BLOCKED. -/
def State.layConv (s : State) (v : ConvCfg) : State :=
  let s := ((s.wr Reg.CONV_STATE.STATE cvBlocked v.conv).wr Reg.CONV_STATE.KIND v.kind v.conv).wr Reg.CONV_STATE.ARMS v.mask v.conv
  s.wr Reg.CONV_MF_OMEGA.OMEGA_MF (if v.kind = 2 then (v.mfHz * 2 ^ 32 + 500000) / 1000000 else 0) v.conv

theorem State.commitConvs_eq (s : State) : s.commitConvs = s.each s.cfg.convs fun s v => s.layConv v := rfl

theorem State.layConv_cvState (s : State) (v : ConvCfg) (k : Nat) :
    (s.layConv v).cvState k = (s.wr Reg.CONV_STATE.STATE cvBlocked v.conv).cvState k := by
  unfold State.layConv State.cvState
  simp (disch := decide +kernel) only [State.rd_wr_apart]

theorem State.layConv_same (s : State) (v : ConvCfg) (h : v.conv < 12) : (s.layConv v).cvState v.conv = cvBlocked :=
  (s.layConv_cvState v _).trans (State.rd_wr_same _ _ _ _ _ (by simp [Field.has, Reg.CONV_STATE.STATE, h]) (by decide))

theorem State.commitConvs_blocked (s : State) : ∀ v ∈ s.cfg.convs, v.conv < 12 → s.commitConvs.cvState v.conv = cvBlocked := by
  rw [s.commitConvs_eq]
  refine (State.each_forall (I := fun _ => True) (P := fun v u => v.conv < 12 → u.cvState v.conv = cvBlocked) trivial
    (fun _ _ _ _ => trivial) (fun u _ v _ hv => u.layConv_same v hv) fun u _ a _ b _ hb hv => ?_).2
  by_cases h : b.conv = a.conv
  · rw [h]
    exact u.layConv_same a (h ▸ hv)
  · rw [u.layConv_cvState]
    exact (State.rd_wr_other _ _ _ _ _ h (by decide)).trans (hb hv)

/-! ### The checkpoint halves at commit (R67, R202) -/

theorem Ckpt.committed_valid (c : Ckpt) : c.committed.valid = true := by
  have hbytes : c.committed.bytes = c.bytes := rfl
  simp only [Ckpt.valid, hbytes]
  simp [Ckpt.committed]

theorem State.setHalf_first (s : State) (c : Ckpt) : (s.setHalf 0 c).referee = { s.referee with half0 := c } :=
  (State.showCkpt_effect _).same .referee (by decide)

theorem State.setHalf_second (s : State) (c : Ckpt) : (s.setHalf 1 c).referee = { s.referee with half1 := c } :=
  (State.showCkpt_effect _).same .referee (by decide)

theorem State.ckptInit_does (s : State) : s.ckptInit.referee.half0.valid = true ∧ s.ckptInit.referee.half1.valid = true ∧
    s.ckptInit.referee.ball = s.referee.ball := by
  unfold State.ckptInit
  rw [State.setHalf_second, State.setHalf_first]
  exact ⟨Ckpt.committed_valid _, Ckpt.committed_valid _, rfl⟩

/-! ### What the image shows, and the planes' roles, at commit -/

theorem State.showImage_does (s : State) (c : Cfg) :
    (s.showImage c).rd64 Reg.IMAGE_ID_LO.ID Reg.IMAGE_ID_HI.ID = c.imageId % 2 ^ 64 ∧
    (s.showImage c).rd Reg.IMAGE_INFO.VERSION = c.version % 2 ^ 32 := by
  unfold State.showImage
  extract_lets named
  have hnamed : named.rd64 Reg.IMAGE_ID_LO.ID Reg.IMAGE_ID_HI.ID = c.imageId % 2 ^ 64 := by
    rw [← s.rd64_wr64 (lo := Reg.IMAGE_ID_LO.ID) (hi := Reg.IMAGE_ID_HI.ID) c.imageId (i := 0) (by decide +kernel)
      ⟨rfl, by decide, rfl⟩ ⟨rfl, by decide, rfl⟩]
    unfold State.rd64 named
    simp (disch := decide +kernel) only [State.rd_wr_apart]
  constructor
  · rw [← hnamed]
    unfold State.rd64
    simp (disch := decide +kernel) only [State.rd_wr_apart]
  · simp (disch := decide +kernel) only [State.rd_wr_apart]
    exact State.rd_wr_same _ _ _ _ _ rfl (by decide)

theorem State.commitReferee_does {s : State} (h : s.refState = rsSetup) : s.commitReferee.role 0 = roWaking ∧
    s.commitReferee.role 1 = roCold := by
  have hcommit : s.commitReferee = (s.setRole 0 roWaking).setRole 1 roCold := if_pos h
  rw [hcommit, State.setRole_standby_role]
  exact ⟨s.setRole_role 0 roWaking, State.setRole_role _ 1 roCold⟩

/-! ### The structure takes effect (R65 step 9) -/

/-- Slices, chains, cells and arms of the structure. -/
def State.layCells (s : State) (c : Cfg) (bad : List Nat) (moves : List (SliceCfg × Nat)) : State :=
  let s := s.when s.power.dormantExit (·.startTimer c.frame)
  let s := { s with cfg := { c with loaded := true }, lanes := [], chains := [], cells := [], arms := [], convs := [], engs := [] }
  let s := s.modFr fun f => { f with ticks := 0, nextLevel := none, rising := none }
  let s := s.writeRoles c.slices bad moves
  let s := (s.wr Reg.CELL_UNROSTERED_LO.CHAINS 0).wr Reg.CELL_UNROSTERED_HI.CHAINS 0
  let s := (s.each c.chains fun s cc => s.commitChain cc).summarise
  s.each c.arms fun s a => match s.sliceOf roArm a.arm with
    | some n => s.loadArmSlice n a a.ptr0
    | none => s

/-- Converters, engines, planner, fault limits and safety of the structure. -/
def State.layOperation (s : State) (c : Cfg) (sin : Nat) : State :=
  let s := s.commitConvs.commitEngines
  let s := (s.commitPlanner c.frame).wr Reg.FAULT_QUIET.QUIET_MS (min 65535 c.limits.quietMs)
  let s := { s with faults := { s.faults with aliveNext := some c.limits.aliveHz } }
  s.commitSafety.firstInputs sin

theorem State.build_eq (s : State) (c : Cfg) (bad : List Nat) (moves : List (SliceCfg × Nat)) (sin : Nat) :
    s.build c bad moves sin =
      ((((s.layCells c bad moves).layOperation c sin).commitOptional c).commitReferee.ckptInit).showImage c := rfl

/-- The register fields of chains, lane ends and cells at commit. -/
def movesCells : List Field := State.startTimer_fields.getD [] ++ State.writeRoles_fields.getD [] ++
  [Reg.CELL_UNROSTERED_LO.CHAINS, Reg.CELL_UNROSTERED_HI.CHAINS] ++ State.commitChain_fields.getD [] ++ State.summarise_fields.getD [] ++
  State.loadArmSlice_fields.getD []

theorem Effect.chainAbsent {A : List Part} {F : List Field} {s t : State} (k : Effect A (some F) s t) {cc : ChainCfg}
    (hF : (F.all fun g => Reg.CELL_STATE.STATE.apart g) = true) (h : s.chainAbsent cc) : t.chainAbsent cc :=
  fun a ha hn => (k.rd _ _ _ hF).trans (h a ha hn)

/-- What the structure's slices, chains and arms touch beside the structure itself. -/
def touchesCells : List Part := [.faults, .fr, .lanes, .cells]

theorem State.layArms_effect (s : State) (l : List ArmCfg) : Effect [] State.loadArmSlice_fields s
    (s.each l fun s a => match s.sliceOf roArm a.arm with
      | some n => s.loadArmSlice n a a.ptr0
      | none => s) := by
  refine Effect.each (Effect.refl _ _ _) fun u a => ?_
  split
  · exact (State.loadArmSlice_effect ..).widen (by decide +kernel)
  · exact Effect.refl _ _ _

theorem State.layCells_does (s : State) (c : Cfg) (bad : List Nat) (moves : List (SliceCfg × Nat)) :
    Effect [.faults, .cfg, .fr, .lanes, .chains, .cells, .arms, .engs, .convs] (some movesCells) s (s.layCells c bad moves) ∧
    (s.layCells c bad moves).cfg = { c with loaded := true } ∧ ∀ cc ∈ c.chains, (s.layCells c bad moves).chainAbsent cc := by
  unfold State.layCells
  extract_lets timed fresh counted roled cleared laid
  have htimed : Effect [.fr] State.startTimer_fields s timed := Effect.when (Effect.refl _ _ _) fun u => State.startTimer_effect ..
  have hfresh : Effect [.cfg, .lanes, .chains, .cells, .arms, .engs, .convs] (some []) timed fresh :=
    Effect.cfg_lanes_chains_cells_arms_engs_convs ..
  have hcfg : fresh.cfg = { c with loaded := true } := rfl
  have hcleared : Effect [.fr] (some movesCells) fresh cleared :=
    Effect.after (State.wr_effect ..) (by decide +kernel) <| Effect.after (State.wr_effect ..) (by decide +kernel) <|
      Effect.after (State.writeRoles_effect ..) (by decide +kernel) <| (State.modFr_effect ..).widen (by decide +kernel)
  clear_value fresh timed
  have hlaid : Effect touchesCells (some movesCells) cleared laid :=
    Effect.after (State.summarise_effect ..) (by decide +kernel) <|
      Effect.each (Effect.refl _ _ _) fun u cc => (State.commitChain_effect ..).widen (by decide +kernel)
  have habsent : ∀ cc ∈ c.chains, laid.chainAbsent cc := fun cc hcc =>
    (State.summarise_effect _).chainAbsent (by decide +kernel) (cleared.commitChains_absent c.chains cc hcc)
  clear_value laid cleared
  have harms := laid.layArms_effect c.arms
  refine ⟨?_, ?_, fun cc hcc => harms.chainAbsent (by decide +kernel) (habsent cc hcc)⟩
  · exact Effect.after harms (by decide +kernel) <| Effect.after hlaid (by decide +kernel) <| Effect.after hcleared (by decide +kernel) <|
      Effect.after hfresh (by decide +kernel) <| htimed.widen (by decide +kernel)
  · rw [harms.same .cfg (by decide), hlaid.same .cfg (by decide), hcleared.same .cfg (by decide), hcfg]

/-- The register fields of operation and safety at commit, beside the converters'. -/
def movesOperation : List Field := State.commitEngines_fields.getD [] ++ State.commitPlanner_fields.getD [] ++
  [Reg.FAULT_QUIET.QUIET_MS] ++ State.commitSafety_fields.getD []

theorem State.layOperation_does (s : State) (c : Cfg) (sin : Nat) :
    Effect [.faults, .fr, .engs, .safety] (some movesOperation) s.commitConvs (s.layOperation c sin) ∧
    (s.layOperation c sin).rd Reg.FAULT_QUIET.QUIET_MS = min 65535 c.limits.quietMs := by
  unfold State.layOperation
  extract_lets engines planned limits alive
  have hengines : Effect [.engs] State.commitEngines_fields s.commitConvs engines := State.commitEngines_effect _
  have hplanned : Effect [.fr] (some movesOperation) engines planned :=
    Effect.after (State.wr_effect ..) (by decide +kernel) ((State.commitPlanner_effect ..).widen (by decide +kernel))
  have hquiet : planned.rd Reg.FAULT_QUIET.QUIET_MS = min 65535 c.limits.quietMs :=
    (State.rd_wr_same _ _ _ _ _ rfl (by decide)).trans (Nat.mod_eq_of_lt (by show _ < 65536; omega))
  have halive : Effect [.faults] (some []) planned alive := Effect.faults ..
  clear_value alive planned engines
  have hsafety : Effect [.safety] State.commitSafety_fields alive (alive.commitSafety.firstInputs sin) :=
    Effect.after (State.firstInputs_effect ..) (by decide +kernel) (State.commitSafety_effect _)
  constructor
  · exact Effect.after hsafety (by decide +kernel) <| Effect.after halive (by decide +kernel) <| Effect.after hplanned (by decide +kernel) <|
      hengines.widen (by decide +kernel)
  · rw [hsafety.rd _ _ _ (by decide +kernel), halive.rd _ _ _ (by decide +kernel), hquiet]

/-- What the commit of structure `c` leaves (R65 step 9, R67, R185). -/
structure Committed (s n : State) (c : Cfg) : Prop where
  cfg : n.cfg = { c with loaded := true }
  imageId : n.rd64 Reg.IMAGE_ID_LO.ID Reg.IMAGE_ID_HI.ID = c.imageId % 2 ^ 64
  version : n.rd Reg.IMAGE_INFO.VERSION = c.version % 2 ^ 32
  planeA : n.role 0 = roWaking
  planeB : n.role 1 = roCold
  ball : n.referee.ball = s.referee.ball
  half0 : n.referee.half0.valid = true
  half1 : n.referee.half1.valid = true
  quiet : n.rd Reg.FAULT_QUIET.QUIET_MS = min 65535 c.limits.quietMs
  blocked : ∀ v ∈ c.convs, v.conv < 12 → n.cvState v.conv = cvBlocked
  absent : ∀ cc ∈ c.chains, n.chainAbsent cc

/-- The register fields that the end of a commit shows. -/
def movesCommitEnd : List Field := State.commitOptional_fields.getD [] ++ State.commitReferee_fields.getD [] ++
  State.ckptInit_fields.getD [] ++ State.showImage_fields.getD []

theorem State.build_does {s : State} (c : Cfg) (bad : List Nat) (moves : List (SliceCfg × Nat)) (sin : Nat) (hstate : s.refState = rsSetup) :
    Committed s (s.build c bad moves sin) c := by
  rw [s.build_eq]
  obtain ⟨hcells, hcfg, habsent⟩ := s.layCells_does c bad moves
  generalize s.layCells c bad moves = cells at *
  obtain ⟨hoperation, hquiet⟩ := cells.layOperation_does c sin
  have hconvs := State.commitConvs_effect cells
  have hblocked := cells.commitConvs_blocked
  generalize cells.layOperation c sin = laid at *
  have hoptional := State.commitOptional_effect laid c
  generalize laid.commitOptional c = opted at *
  have hsetup : opted.refState = rsSetup := by
    unfold State.refState at hstate ⊢
    rw [hoptional.rd _ _ _ (by decide +kernel), hoperation.rd _ _ _ (by decide +kernel), hconvs.rd _ _ _ (by decide +kernel),
      hcells.rd _ _ _ (by decide +kernel), hstate]
  obtain ⟨hplaneA, hplaneB⟩ := State.commitReferee_does hsetup
  have hreferee := State.commitReferee_effect opted
  obtain ⟨hhalf0, hhalf1, hball⟩ := opted.commitReferee.ckptInit_does
  have hckpt := State.ckptInit_effect opted.commitReferee
  obtain ⟨himage, hversion⟩ := opted.commitReferee.ckptInit.showImage_does c
  have hshow := State.showImage_effect opted.commitReferee.ckptInit c
  generalize opted.commitReferee = setup at *
  generalize setup.ckptInit = stored at *
  generalize stored.showImage c = n at *
  have hstored : Effect [.referee] (some (State.ckptInit_fields.getD [] ++ State.showImage_fields.getD [])) setup n :=
    Effect.after hshow (by decide +kernel) (hckpt.widen (by decide +kernel))
  have hend : Effect [.time, .power, .faults, .host, .engs, .referee, .adc, .drives, .motors, .canQueues] (some movesCommitEnd) laid n :=
    Effect.after hstored (by decide +kernel) <| Effect.after hreferee (by decide +kernel) (hoptional.widen (by decide +kernel))
  have hlaid : laid.cfg = { c with loaded := true } := by
    rw [hoperation.same .cfg (by decide), hconvs.same .cfg (by decide), hcfg]
  exact
    { cfg := by rw [hend.same .cfg (by decide), hlaid]
      imageId := himage
      version := hversion
      planeA := (hstored.rd _ _ _ (by decide +kernel)).trans hplaneA
      planeB := (hstored.rd _ _ _ (by decide +kernel)).trans hplaneB
      ball := by
        rw [hshow.same .referee (by decide), hball, hreferee.same .referee (by decide), hoptional.same .referee (by decide),
          hoperation.same .referee (by decide), hconvs.same .referee (by decide), hcells.same .referee (by decide)]
      half0 := by rw [hshow.same .referee (by decide), hhalf0]
      half1 := by rw [hshow.same .referee (by decide), hhalf1]
      quiet := (hend.rd _ _ _ (by decide +kernel)).trans hquiet
      blocked := fun v hv h => by
        unfold State.cvState at hblocked ⊢
        rw [hend.rd _ _ _ (by decide +kernel), hoperation.rd _ _ _ (by decide +kernel)]
        exact hblocked v (by rw [hcfg]; exact hv) h
      absent := fun cc hcc => hend.chainAbsent (by decide +kernel) <| hoperation.chainAbsent (by decide +kernel) <|
        hconvs.chainAbsent (by decide +kernel) (habsent cc hcc) }

/-! ### IMAGE_COMMIT -/

/-- What IMAGE_COMMIT adds in kick-off once the structure is in force: the image is accepted. -/
def State.accept (s : State) : State :=
  let s := s.modLoad fun l => { l with built := none, sources := [], accepted := true, copy := l.image, image := [] }
  ((s.wr Reg.IMAGE_STATUS.STATE 5).wr Reg.IMAGE_EVENT.DONE 1).modPower fun p => { p with step := 10 }

theorem State.accept_effect (s : State) :
    Effect [.power, .load] (some [Reg.IMAGE_STATUS.STATE, Reg.IMAGE_EVENT.DONE]) s s.accept := by
  unfold State.accept
  exact Effect.after (State.modPower_effect ..) (by decide +kernel) <| Effect.after (State.wr_effect ..) (by decide +kernel) <|
    Effect.after (State.wr_effect ..) (by decide +kernel) ((State.modLoad_effect ..).widen (by decide +kernel))

theorem State.accept_does (s : State) : s.accept.rd Reg.IMAGE_STATUS.STATE = 5 ∧ s.accept.rd Reg.IMAGE_EVENT.DONE = 1 := by
  unfold State.accept
  rw [State.modPower_rd, State.modPower_rd]
  constructor
  · rw [State.rd_wr_apart _ _ _ _ _ _ (by decide +kernel), State.rd_wr_same _ _ _ _ _ rfl (by decide)]
    rfl
  · exact State.rd_wr_same _ _ _ _ _ rfl (by decide)

theorem State.imageCommit_accepts {s : State} {c : Cfg} {l : List Nat} {m : List (SliceCfg × Nat)} (x : Nat) (hcommit : s.toCommit = some c)
    (hdormant : s.power.dormantExit = false) (hmoves : moveRoles c.slices (s.commitBad c l) (c.goodSpares (s.commitBad c l)) = some m) :
    s.imageCommit l true x = (s.build c (s.commitBad c l) m x).accept := by
  unfold State.imageCommit
  rw [hcommit]
  simp only [hmoves, hdormant, Bool.not_true, Bool.not_false, if_false, if_true, Bool.false_eq_true, State.when, State.accept]

theorem State.imageCommit_refuses {s : State} {c : Cfg} {l : List Nat} {ok : Bool} {k : Nat} (x : Nat) (hcommit : s.toCommit = some c)
    (hdormant : s.power.dormantExit = false)
    (h : k = 0x40A ∧ moveRoles c.slices (s.commitBad c l) (c.goodSpares (s.commitBad c l)) = none ∨
      k = 0x601 ∧ ok = false ∧ (moveRoles c.slices (s.commitBad c l) (c.goodSpares (s.commitBad c l))).isSome) :
    s.imageCommit l ok x = s.refuse k 0xFFFF 0 0 := by
  have hrefused : ∀ code, s.commitRefused code = s.refuse code 0xFFFF 0 0 := fun code => if_neg (by simp [hdormant])
  unfold State.imageCommit
  rw [hcommit]
  rcases h with ⟨rfl, hnone⟩ | ⟨rfl, rfl, hsome⟩
  · simp only [hnone, hrefused]
  · obtain ⟨m, hm⟩ := Option.isSome_iff_exists.mp hsome
    simp only [hm, hrefused, Bool.not_false, if_true]

theorem State.imageCommit_waits {s : State} (l : List Nat) (ok : Bool) (x : Nat) (h : s.toCommit = none) : s.imageCommit l ok x = s := by
  unfold State.imageCommit
  rw [h]

theorem State.elapse_toCommit (s : State) (t : Nat) : (s.elapse t).toCommit = s.toCommit := by
  simp only [State.toCommit, s.elapse_power, s.elapse_cfg, s.elapse_load, s.elapse_imageState]

theorem State.elapse_commitBad (s : State) (t : Nat) (c : Cfg) (l : List Nat) : (s.elapse t).commitBad c l = s.commitBad c l := by
  have hfail : ∀ k, (s.elapse t).rd Reg.IMAGE_SLICE_FAIL.FAIL k = s.rd Reg.IMAGE_SLICE_FAIL.FAIL k := fun k =>
    s.elapse_rd t _ k 0 (by decide +kernel)
  simp only [State.commitBad, hfail]

theorem State.elapse_refState (s : State) (t : Nat) : (s.elapse t).refState = s.refState := s.elapse_rd t _ 0 0 (by decide +kernel)

theorem exec_imageCommit (s : State) (l : List (Fin 128)) (ok : Bool) (x t : Nat) :
    exec (.imageCommit l ok x t) s = done ((s.elapse t).imageCommit (l.map (·.val)) ok x) := rfl

/-- What a commit leaves stays over the acceptance of its image and the end of the command. -/
theorem Committed.accept_settle {s n : State} {c : Cfg} (h : Committed s n c) : Committed s n.accept.settle c := by
  have haccept : Effect [.power, .host, .load, .out] (some (movesIrq ++ [Reg.IMAGE_STATUS.STATE, Reg.IMAGE_EVENT.DONE])) n n.accept.settle :=
    Effect.after (State.settle_effect _) (by decide +kernel) (n.accept_effect.widen (by decide +kernel))
  exact
    { cfg := by rw [haccept.same .cfg (by decide), h.cfg]
      imageId := by
        unfold State.rd64
        rw [haccept.rd _ _ _ (by decide +kernel), haccept.rd _ _ _ (by decide +kernel)]
        exact h.imageId
      version := (haccept.rd _ _ _ (by decide +kernel)).trans h.version
      planeA := (haccept.rd _ _ _ (by decide +kernel)).trans h.planeA
      planeB := (haccept.rd _ _ _ (by decide +kernel)).trans h.planeB
      ball := by rw [haccept.same .referee (by decide), h.ball]
      half0 := by rw [haccept.same .referee (by decide), h.half0]
      half1 := by rw [haccept.same .referee (by decide), h.half1]
      quiet := (haccept.rd _ _ _ (by decide +kernel)).trans h.quiet
      blocked := fun v hv hn => (haccept.rd _ _ _ (by decide +kernel)).trans (h.blocked v hv hn)
      absent := fun cc hcc => haccept.chainAbsent (by decide +kernel) (h.absent cc hcc) }

/-- Settles O17: the structure's stages one by one for the commit, the lanes that stay down, and the first grant with the entry of RUN. -/
theorem commitBuildsAndTheGrantEntersRun : Obligations.CommitBuildsAndTheGrantEntersRun := by
  unfold Obligations.CommitBuildsAndTheGrantEntersRun
  refine ⟨?commit, ?refused, ?nothing, ?lanesLost, ?lanesWait, ?grant, ?noGrant⟩
  case commit =>
    intro s x t l c m hcommit hdormant hmoves hstate
    have hexec := (exec_imageCommit s l true x t).trans (congrArg done (State.imageCommit_accepts x ((s.elapse_toCommit t).trans hcommit)
      (by rw [s.elapse_power, hdormant]) (by rw [s.elapse_commitBad, hmoves])))
    have hbuilt := State.build_effect (s.elapse t) c ((s.elapse t).commitBad c (l.map (·.val))) m x
    have hdoes := State.build_does c ((s.elapse t).commitBad c (l.map (·.val))) m x ((s.elapse_refState t).trans hstate)
    generalize (s.elapse t).build c ((s.elapse t).commitBad c (l.map (·.val))) m x = built at *
    obtain ⟨hcfg, himage, hversion, hplaneA, hplaneB, hball, hhalf0, hhalf1, hquiet, hblocked, habsent⟩ := hdoes.accept_settle
    obtain ⟨haccepted, hdone⟩ := built.accept_does
    have heffect := Effect.of_exec (execImageCommit_effect l true x t s) hexec (B := [.time, .power, .faults, .host, .load, .cfg, .fr,
      .lanes, .chains, .cells, .arms, .engs, .convs, .referee, .adc, .drives, .motors, .safety, .canQueues, .out]) (by decide)
      fun _ => id
    refine ⟨_, hexec, hcfg, ?_, ?_, ?_, himage, hversion, hplaneA, hplaneB, ?_, hhalf0, hhalf1, heffect.same .journal (by decide),
      heffect.same .fuses (by decide), hquiet, ?_, hblocked, habsent, ?_⟩
    · rw [State.settle_power]
      rfl
    · exact (State.settle_rd _ _ _ _ (by decide +kernel)).trans haccepted
    · exact (State.settle_rd _ _ _ _ (by decide +kernel)).trans hdone
    · rw [hball, s.elapse_referee]
    · have hcopy : built.accept.load.copy = built.load.image := rfl
      rw [State.settle_load, hcopy, hbuilt.same .load (by decide), s.elapse_load]
    · exact Effect.of_exec (execImageCommit_effect l true x t s) hexec (by decide) (by decide +kernel)
  case refused =>
    intro s x t k ok l c hcommit hdormant hsources hdelivery hcause
    have hrefuses := State.imageCommit_refuses (s := s.elapse t) (l := l.map (·.val)) (ok := ok) (k := k) x
      ((s.elapse_toCommit t).trans hcommit) (by rw [s.elapse_power, hdormant]) (by rw [s.elapse_commitBad]; exact hcause)
    have hends : RefusedWith (s.elapse t) ((s.elapse t).refuse k 0xFFFF 0 0).settle k 0xFFFF 0 0 :=
      State.refuse_settle (by rw [s.elapse_load, hsources]) (by rw [s.elapse_host, hdelivery])
    refine ⟨_, (exec_imageCommit s l ok x t).trans (congrArg done hrefuses), hends.state, ?_, ?_, hends.stopped⟩
    · rw [hends.code]
      rcases hcause with ⟨rfl, -⟩ | ⟨rfl, -, -⟩ <;> rfl
    · rw [hends.cfg, s.elapse_cfg]
  case nothing =>
    intro s x t ok l hcommit
    exact ⟨_, (exec_imageCommit s l ok x t).trans (congrArg done (State.imageCommit_waits _ ok x ((s.elapse_toCommit t).trans hcommit))),
      s.elapse_settle_effect t⟩
  case lanesLost =>
    intro s t hkick hloaded hticks
    obtain ⟨n, hexec, hlost, hothers⟩ := exec_laneUpTimeout_lanes t hkick hloaded hticks
    refine ⟨n, hexec, fun k hdown hsync => hlost k (State.mem_lanesToLose.mpr ⟨hdown, hsync⟩), fun k hk => hothers k fun hmem => ?_,
      Effect.of_exec (execLaneUpTimeout_effect t s) hexec (by decide) (by decide +kernel)⟩
    obtain ⟨hdown, hsync⟩ := State.mem_lanesToLose.mp hmem
    exact hk.elim (· hdown) (· hsync)
  case lanesWait =>
    intro s t h
    exact ⟨_, (exec_laneUpTimeout s t).trans (congrArg done (State.laneTimeout_waits
      (by rwa [s.elapse_inKickOff, s.elapse_cfg, s.elapse_ticks]))), s.elapse_settle_effect t⟩
  case grant =>
    intro s t hkick hloaded hstep hlanes hbroken hstate hrole
    have hexec := (exec_kickoffGrant s t).trans (congrArg done (State.kickoffGrant_due ((s.elapse_inKickOff t).trans hkick)
      (by rw [s.elapse_cfg, hloaded]) (by rw [s.elapse_power, hstep]) (by rwa [s.elapse_lanesDown, s.elapse_ticks])
      (by rw [s.elapse_referee, hbroken]) ((s.elapse_refState t).trans hstate) ((s.elapse_role t 0).trans hrole)))
    obtain ⟨hdevice, hzero, hdormant, hball, hholder, hheld, hactive, hlease, hannounced⟩ := (s.elapse t).grantedToA_settle
    exact ⟨_, hexec, hdevice, hzero, hdormant, hball, hholder, hheld, hactive, by rw [hlease, s.elapse_cfg], hannounced,
      Effect.of_exec (execKickoffGrant_effect t s) hexec (by decide) (by decide +kernel)⟩
  case noGrant =>
    intro s t h
    exact ⟨_, (exec_kickoffGrant s t).trans (congrArg done (State.kickoffGrant_waits
      (by rwa [s.elapse_inKickOff, s.elapse_cfg, s.elapse_power, s.elapse_lanesDown, s.elapse_ticks]))), s.elapse_settle_effect t⟩

end Sys2Proof.Machine
end

section
namespace Sys2Proof.Machine

set_option Elab.async false

/-! ### Lane ends and chains through effects -/

theorem State.elapse_lane (s : State) (t k : Nat) : (s.elapse t).lane k = s.lane k := (State.elapse_effect s t).lane k

theorem Effect.chain {A : List Part} {R : Option (List Field)} {s t : State} (k : Effect A R s t) (n : Nat)
    (hA : Part.chains ∉ A := by decide) : t.chain n = s.chain n :=
  congrArg (Tbl.look default · n) (k.same .chains hA)

theorem State.settle_chain (s : State) (k : Nat) : s.settle.chain k = s.chain k := (State.settle_effect s).chain k

theorem State.elapse_chain (s : State) (t k : Nat) : (s.elapse t).chain k = s.chain k := (State.elapse_effect s t).chain k

theorem Effect.laneDeclared {A : List Part} {R : Option (List Field)} {s t : State} (k : Effect A R s t) (lane : Nat)
    (hA : Part.cfg ∉ A := by decide) : t.laneDeclared lane = s.laneDeclared lane := by
  simp only [State.laneDeclared, State.chainCfg, show t.cfg = s.cfg from k.same .cfg hA]

theorem Effect.inKickOff {A : List Part} {F : List Field} {s t : State} (k : Effect A (some F) s t) (hA : Part.power ∉ A := by decide)
    (hF : (F.all fun g => Reg.POWER_STATE.STATE.apart g) = true := by decide +kernel) : t.inKickOff = s.inKickOff := by
  have hdevice : t.device = s.device := k.rd _ _ _ hF
  simp only [State.inKickOff, hdevice, show t.power = s.power from k.same .power hA]

/-- A counter raised by any amount stops at its largest value (R15). -/
theorem satAdd_mod_pow (w c n : Nat) : satAdd (2 ^ w - 1) c n % 2 ^ w = min (2 ^ w - 1) (c + n) := by
  have hpos := Nat.two_pow_pos w
  unfold satAdd
  split
  · rw [Nat.mod_eq_of_lt (by omega)]
    omega
  · rw [Nat.mod_eq_of_lt (by omega)]
    omega

theorem State.rd_bump_by (s : State) {f : Field} {i j : Nat} (n : Nat) (hhas : f.has i j = true) (hdom : f.dom ≠ .fixed) :
    (s.bump f n i j).rd f i j = min (2 ^ f.width - 1) (s.rd f i j + n) :=
  (s.rd_wr_same f _ i j hhas hdom).trans (satAdd_mod_pow f.width _ n)

/-! ### LANE_STATUS.STATE -/

section
variable {s : State} {lane : Nat}

theorem State.laneState_le (s : State) (lane : Nat) : s.laneState lane ≤ 6 := by
  unfold State.laneState
  extract_lets l
  split_ifs <;> decide

theorem State.laneState_undeclared (h : s.laneDeclared lane = false) : s.laneState lane = 0 := if_pos (by simp [h])

section
variable (hdeclared : s.laneDeclared lane = true)
include hdeclared

theorem State.laneState_idle (hidle : s.rd Reg.LANE_CTRL.FORCE_IDLE lane ≠ 0) : s.laneState lane = 1 := by
  simp [State.laneState, State.on, hdeclared, hidle]

variable (hidle : s.rd Reg.LANE_CTRL.FORCE_IDLE lane = 0)
include hidle

theorem State.laneState_lost (hlost : (s.lane lane).lost = true) : s.laneState lane = 6 := by
  simp [State.laneState, State.on, hdeclared, hidle, hlost]

variable (hlost : (s.lane lane).lost = false)
include hlost

theorem State.laneState_aligning (hsync : s.rd Reg.LANE_STATUS.SYNC lane = 0) : s.laneState lane = 2 := by
  simp [State.laneState, State.on, hdeclared, hidle, hlost, hsync]

theorem State.laneState_callup (hsync : s.rd Reg.LANE_STATUS.SYNC lane ≠ 0)
    (hcall : ((s.lane lane).allCall || (s.lane lane).sweep.isSome) = true) : s.laneState lane = 3 := by
  simp [State.laneState, State.on, hdeclared, hidle, hlost, hsync, hcall]

end

theorem State.showLane_state (hlane : lane < 96) : (s.showLane lane).rd Reg.LANE_STATUS.STATE lane = s.laneState lane := by
  have hle := s.laneState_le lane
  exact (State.rd_wr_same _ _ _ _ _ (Field.has_lane hlane) (by decide)).trans (Nat.mod_eq_of_lt (by show _ < 8; omega))

/-- A lane end that does not become READY stays as it is while its status follows it. -/
theorem State.showLane_lanes (h : s.laneState lane ≠ 5) : (s.showLane lane).lanes = s.lanes := by
  unfold State.showLane
  rw [State.wr_lanes, State.when, if_neg (by simp [h])]

/-- READY marks a lane end as one that has come up, and nothing else of it follows its status. -/
theorem State.showLane_same (s : State) (lane : Nat) : (s.showLane lane).lane lane =
    { s.lane lane with up := (s.lane lane).up || decide (s.laneState lane = 5) } := by
  by_cases h : s.laneState lane = 5
  · unfold State.showLane
    rw [(State.wr_effect ..).lane, State.when, if_pos (by simp [h]), State.modLane_same]
    simp [h]
  · rw [State.lane, State.showLane_lanes h]
    simp [h, State.lane]

/-! ### A lane end that is lost (R89, R110) -/

theorem State.loseLane_does (hlane : lane < 96) : (s.loseLane lane).rd Reg.LANE_STATUS.STATE lane =
      (if s.laneDeclared lane = false then 0 else if s.rd Reg.LANE_CTRL.FORCE_IDLE lane ≠ 0 then 1 else 6) ∧
    (s.loseLane lane).lane lane = { s.lane lane with lost := true, sweep := none, allCall := false } ∧
    ((s.lane lane).lost = false → (s.loseLane lane).rd Reg.LANE_EVENT.LOST lane = 1) := by
  unfold State.loseLane
  extract_lets was marked
  let told := marked.when (!was) (·.wr Reg.LANE_EVENT.LOST 1 lane)
  have hmarked : marked.lane lane = { s.lane lane with lost := true, sweep := none, allCall := false } := State.modLane_same ..
  have htold : Effect [] (some [Reg.LANE_EVENT.LOST]) marked told := .when (.refl ..) fun u => State.wr_effect ..
  have hlane' : told.lane lane = { s.lane lane with lost := true, sweep := none, allCall := false } := (htold.lane lane).trans hmarked
  have hidle : told.rd Reg.LANE_CTRL.FORCE_IDLE lane = s.rd Reg.LANE_CTRL.FORCE_IDLE lane := htold.rd _ _ _ (by decide +kernel)
  have hdeclared : told.laneDeclared lane = s.laneDeclared lane := htold.laneDeclared lane
  have hstate : told.laneState lane =
      (if s.laneDeclared lane = false then 0 else if s.rd Reg.LANE_CTRL.FORCE_IDLE lane ≠ 0 then 1 else 6) := by
    split_ifs with hd hi
    · exact State.laneState_undeclared (hdeclared.trans hd)
    · exact State.laneState_idle (hdeclared.trans (by simpa using hd)) (by rwa [hidle])
    · exact State.laneState_lost (hdeclared.trans (by simpa using hd)) (by rw [hidle]; simpa using hi) (by rw [hlane'])
  have hnever : told.laneState lane ≠ 5 := by
    rw [hstate]
    split_ifs <;> decide
  refine ⟨(State.showLane_state hlane).trans hstate, ?_, fun h => ?_⟩
  · exact (congrArg (Tbl.look default · lane) (State.showLane_lanes hnever)).trans hlane'
  · have hwas : told = marked.wr Reg.LANE_EVENT.LOST 1 lane := if_pos (by simp [was, h])
    rw [(State.showLane_effect told lane).rd _ _ _ (by decide +kernel), hwas]
    exact State.rd_wr_same _ _ _ _ _ (Field.has_lane hlane) (by decide)

/-! ### A lane end is measured (R109) -/

/-- A lane end of which a call is asked: an all-call in kick-off, a sweep elsewhere. -/
def LaneSt.asked (x : LaneSt) (kickOff : Bool) : LaneSt :=
  if kickOff then { x with allCall := true } else { x with sweep := some (x.sweep.getD 0) }

theorem LaneSt.asked_lost (x : LaneSt) (k : Bool) : (x.asked k).lost = x.lost := by
  cases k <;> rfl

theorem LaneSt.asked_calls (x : LaneSt) (k : Bool) : ((x.asked k).allCall || (x.asked k).sweep.isSome) = true := by
  cases k <;> simp [LaneSt.asked]

theorem State.measure_eq (s : State) (lane : Nat) : s.measure lane = (s.modLane lane (·.asked s.inKickOff)).showLane lane := by
  unfold State.measure
  cases s.inKickOff <;> rfl

theorem State.measure_does (s : State) (lane : Nat) :
    (s.inKickOff = true → ((s.measure lane).lane lane).allCall = true) ∧
      (s.inKickOff = false → ((s.measure lane).lane lane).sweep = some ((s.lane lane).sweep.getD 0)) ∧
      ((s.measure lane).lane lane).lost = (s.lane lane).lost ∧ ∀ k, k ≠ lane → (s.measure lane).lane k = s.lane k := by
  rw [s.measure_eq, State.showLane_same, State.modLane_same]
  refine ⟨fun h => ?_, fun h => ?_, LaneSt.asked_lost _ _, fun k hk => ?_⟩
  · rw [h]
    rfl
  · rw [h]
    rfl
  · rw [State.showLane_other _ hk, State.modLane_other _ _ _ hk]

theorem State.measure_state (hlane : lane < 96) (hdeclared : s.laneDeclared lane = true)
    (hidle : s.rd Reg.LANE_CTRL.FORCE_IDLE lane = 0) (hlost : (s.lane lane).lost = false) (hsync : s.rd Reg.LANE_STATUS.SYNC lane ≠ 0) :
    (s.measure lane).rd Reg.LANE_STATUS.STATE lane = 3 := by
  rw [s.measure_eq, State.showLane_state hlane]
  refine State.laneState_callup hdeclared hidle ?_ hsync ?_
  · rw [State.modLane_same, LaneSt.asked_lost, hlost]
  · rw [State.modLane_same]
    exact LaneSt.asked_calls _ _

/-! ### Sync acquired (R89) -/

/-- A lane end that has just come into sync, before it is measured. -/
def State.synced (s : State) (lane : Nat) : State :=
  ((s.wr Reg.LANE_STATUS.SYNC 1 lane).wr Reg.LANE_EVENT.SYNC 1 lane).modLane lane fun l => { l with lost := false }

theorem State.synced_effect (s : State) (lane : Nat) :
    Effect [.lanes] (some [Reg.LANE_STATUS.SYNC, Reg.LANE_EVENT.SYNC]) s (s.synced lane) := by
  unfold State.synced
  exact Effect.after (State.modLane_effect ..) (by decide +kernel) <| Effect.after (State.wr_effect ..) (by decide +kernel) <|
    (State.wr_effect ..).widen (by decide +kernel)

theorem State.synced_does (hlane : lane < 96) : (s.synced lane).rd Reg.LANE_STATUS.SYNC lane = 1 ∧
    (s.synced lane).rd Reg.LANE_EVENT.SYNC lane = 1 ∧ (s.synced lane).lane lane = { s.lane lane with lost := false } ∧
    ∀ k, k ≠ lane → (s.synced lane).lane k = s.lane k := by
  have hwrites : Effect [] (some [Reg.LANE_STATUS.SYNC, Reg.LANE_EVENT.SYNC]) s
      ((s.wr Reg.LANE_STATUS.SYNC 1 lane).wr Reg.LANE_EVENT.SYNC 1 lane) :=
    Effect.after (State.wr_effect ..) (by decide +kernel) ((State.wr_effect ..).widen (by decide +kernel))
  unfold State.synced
  rw [State.modLane_same, State.modLane_rd, State.modLane_rd, hwrites.lane]
  refine ⟨?_, State.rd_wr_same _ _ _ _ _ (Field.has_lane hlane) (by decide), rfl, fun k hk => ?_⟩
  · exact (State.rd_wr_apart _ _ _ _ _ _ (by decide +kernel)).trans (State.rd_wr_same _ _ _ _ _ (Field.has_lane hlane) (by decide))
  · rw [State.modLane_other _ _ _ hk, hwrites.lane]

theorem State.syncAcquire_ignored (h : s.laneDeclared lane = false ∨ s.rd Reg.LANE_STATUS.SYNC lane ≠ 0) : s.syncAcquire lane = s :=
  if_pos (by rcases h with h | h <;> simp [State.on, h])

theorem State.syncAcquire_eq (hdeclared : s.laneDeclared lane = true) (hsync : s.rd Reg.LANE_STATUS.SYNC lane = 0) :
    s.syncAcquire lane = if (s.synced lane).on Reg.LANE_CTRL.FORCE_IDLE lane || ((s.synced lane).lane lane).sliceOut
      then (s.synced lane).showLane lane else (s.synced lane).measure lane :=
  if_neg (by simp [State.on, hdeclared, hsync])

theorem State.syncAcquire_does (hlane : lane < 96) (hdeclared : s.laneDeclared lane = true) (hsync : s.rd Reg.LANE_STATUS.SYNC lane = 0)
    {n : State} (hn : n = s.syncAcquire lane) : n.rd Reg.LANE_STATUS.SYNC lane = 1 ∧ n.rd Reg.LANE_EVENT.SYNC lane = 1 ∧
      (n.lane lane).lost = false ∧ (∀ k, k ≠ lane → n.lane k = s.lane k) ∧
      (s.rd Reg.LANE_CTRL.FORCE_IDLE lane = 0 → (s.lane lane).sliceOut = false → n.rd Reg.LANE_STATUS.STATE lane = 3 ∧
        (s.inKickOff = true → (n.lane lane).allCall = true) ∧
        (s.inKickOff = false → (n.lane lane).sweep = some ((s.lane lane).sweep.getD 0))) ∧
      (s.rd Reg.LANE_CTRL.FORCE_IDLE lane ≠ 0 → n.rd Reg.LANE_STATUS.STATE lane = 1) := by
  obtain ⟨hsynced, hevent, hcleared, hothers⟩ := s.synced_does hlane
  have hmoved := s.synced_effect lane
  have hidle := hmoved.rd Reg.LANE_CTRL.FORCE_IDLE lane 0 (by decide +kernel)
  have hdecl : (s.synced lane).laneDeclared lane = true := (hmoved.laneDeclared lane).trans hdeclared
  have hkick := hmoved.inKickOff
  rw [State.syncAcquire_eq hdeclared hsync] at hn
  generalize s.synced lane = u at *
  have hout : (u.lane lane).sliceOut = (s.lane lane).sliceOut := by rw [hcleared]
  have hlost : (u.lane lane).lost = false := by rw [hcleared]
  split at hn
  · rename_i hheld
    subst hn
    have hshown := State.showLane_effect u lane
    refine ⟨(hshown.rd _ _ _ (by decide +kernel)).trans hsynced, (hshown.rd _ _ _ (by decide +kernel)).trans hevent, ?_,
      fun k hk => (u.showLane_other hk).trans (hothers k hk), fun h ho => ?_, fun h => ?_⟩
    · rw [State.showLane_same, hlost]
    · rw [hout, ho, Bool.or_false, State.on_eq_true, hidle] at hheld
      exact absurd h hheld
    · exact (State.showLane_state hlane).trans (State.laneState_idle hdecl (by rwa [hidle]))
  · rename_i hfree
    subst hn
    rw [Bool.or_eq_true, not_or, Bool.not_eq_true, State.on_eq_false, hidle] at hfree
    have hmeasured := State.measure_effect u lane
    obtain ⟨hall, hsweep, hkept, hrest⟩ := u.measure_does lane
    refine ⟨(hmeasured.rd _ _ _ (by decide +kernel)).trans hsynced, (hmeasured.rd _ _ _ (by decide +kernel)).trans hevent,
      hkept.trans hlost, fun k hk => (hrest k hk).trans (hothers k hk), fun h _ => ⟨?_, fun hk => hall (hkick.trans hk), fun hk => ?_⟩,
      fun h => absurd hfree.1 h⟩
    · exact State.measure_state hlane hdecl (hidle.trans h) hlost (by rw [hsynced]; decide)
    · rw [hsweep (hkick.trans hk), hcleared]

/-! ### Sync lost (R89) -/

/-- A lane end that has just lost sync, before it is LOST; what the violations add is a free value. -/
def State.unsynced (s : State) (lane : Nat) : State :=
  let s := (s.wr Reg.LANE_STATUS.SYNC 0 lane).bump Reg.LANE_CODE_ERR.LOS 1 lane
  (s.draw.2.bump Reg.LANE_CODE_ERR.CODE s.draw.1 lane).modLane lane fun l => { l with up := false, dropped := true }

theorem State.syncLoss_ignored (h : s.rd Reg.LANE_STATUS.SYNC lane = 0) : s.syncLoss lane = s := if_pos (by simp [State.on, h])

theorem State.syncLoss_eq (h : s.rd Reg.LANE_STATUS.SYNC lane ≠ 0) : s.syncLoss lane = (s.unsynced lane).loseLane lane :=
  if_neg (by simp [State.on, h])

theorem State.unsynced_does (hlane : lane < 96) {n : State} (hn : n = s.unsynced lane) : n.rd Reg.LANE_STATUS.SYNC lane = 0 ∧
    n.rd Reg.LANE_CODE_ERR.LOS lane = min 255 (s.rd Reg.LANE_CODE_ERR.LOS lane + 1) ∧
    n.rd Reg.LANE_CODE_ERR.CODE lane = min 4095 (s.rd Reg.LANE_CODE_ERR.CODE lane + Config.freeValue s.drawn) ∧
    n.drawn = s.drawn + 1 ∧ n.lane lane = { s.lane lane with up := false, dropped := true } ∧ (∀ k, k ≠ lane → n.lane k = s.lane k) ∧
    Effect [.lanes, .drawn] (some [Reg.LANE_STATUS.SYNC, Reg.LANE_CODE_ERR.LOS, Reg.LANE_CODE_ERR.CODE]) s n := by
  subst hn
  unfold State.unsynced
  extract_lets counted
  have hcounted : Effect [] (some [Reg.LANE_STATUS.SYNC, Reg.LANE_CODE_ERR.LOS]) s counted :=
    Effect.after (State.bump_effect ..) (by decide +kernel) ((State.wr_effect ..).widen (by decide +kernel))
  have hdrawn : counted.drawn = s.drawn := hcounted.same .drawn (by decide)
  let coded := counted.draw.2.bump Reg.LANE_CODE_ERR.CODE counted.draw.1 lane
  have hcoded : Effect [.drawn] (some [Reg.LANE_CODE_ERR.CODE]) counted coded :=
    Effect.after (State.bump_effect ..) (by decide +kernel) ((State.draw_effect counted).widen (by decide +kernel))
  have hlanes : ∀ k, coded.lane k = s.lane k := fun k => (hcoded.lane k).trans (hcounted.lane k)
  refine ⟨?_, ?_, ?_, ?_, (State.modLane_same ..).trans (by rw [hlanes]), fun k hk => (State.modLane_other _ _ _ hk).trans (hlanes k), ?_⟩
  · refine (hcoded.rd _ _ _ (by decide +kernel)).trans ((State.rd_wr_apart _ _ _ _ _ _ (by decide +kernel)).trans ?_)
    exact State.rd_wr_same _ _ _ _ _ (Field.has_lane hlane) (by decide)
  · refine (hcoded.rd _ _ _ (by decide +kernel)).trans ((State.rd_bump _ (Field.has_lane hlane) (by decide)).trans ?_)
    rw [State.rd_wr_apart _ _ _ _ _ _ (by decide +kernel)]
    rfl
  · refine (State.rd_bump_by _ _ (Field.has_lane hlane) (by decide)).trans ?_
    rw [(State.draw_effect counted).rd _ _ _ (by decide +kernel), hcounted.rd _ _ _ (by decide +kernel), ← hdrawn]
    rfl
  · exact (State.wr_drawn ..).trans (congrArg (· + 1) hdrawn)
  · exact Effect.after (State.modLane_effect ..) (by decide +kernel) <| Effect.after hcoded (by decide +kernel) <|
      hcounted.widen (by decide +kernel)

/-! ### Electrical idle (R88) -/

theorem State.forceIdle_ignored {idle : Bool} (h : s.on Reg.LANE_CTRL.FORCE_IDLE lane = idle) : s.forceIdle lane idle = s := if_pos h

theorem State.forceIdle_on (hdeclared : s.laneDeclared lane = true) (hidle : s.rd Reg.LANE_CTRL.FORCE_IDLE lane = 0) :
    s.forceIdle lane true = (s.wr Reg.LANE_CTRL.FORCE_IDLE 1 lane).loseLane lane := by
  have hdecl := (s.wr_effect Reg.LANE_CTRL.FORCE_IDLE 1 lane 0).laneDeclared lane
  unfold State.forceIdle
  simp [State.on, hidle, hdecl, hdeclared, b01]

theorem State.forceIdle_off (hdeclared : s.laneDeclared lane = true) (hidle : s.rd Reg.LANE_CTRL.FORCE_IDLE lane ≠ 0) :
    s.forceIdle lane false = if s.on Reg.LANE_STATUS.SYNC lane
      then ((s.wr Reg.LANE_CTRL.FORCE_IDLE 0 lane).modLane lane fun l => { l with lost := false }).measure lane
      else (s.wr Reg.LANE_CTRL.FORCE_IDLE 0 lane).showLane lane := by
  have hdecl := (s.wr_effect Reg.LANE_CTRL.FORCE_IDLE 0 lane 0).laneDeclared lane
  have hsync : (s.wr Reg.LANE_CTRL.FORCE_IDLE 0 lane).rd Reg.LANE_STATUS.SYNC lane = s.rd Reg.LANE_STATUS.SYNC lane :=
    s.rd_wr_apart _ _ _ _ _ (by decide +kernel)
  unfold State.forceIdle
  simp [State.on, hidle, hdecl, hdeclared, hsync, b01]

theorem State.forceIdle_on_does (hlane : lane < 96) (hdeclared : s.laneDeclared lane = true)
    (hidle : s.rd Reg.LANE_CTRL.FORCE_IDLE lane = 0) {n : State} (hn : n = s.forceIdle lane true) :
    n.rd Reg.LANE_CTRL.FORCE_IDLE lane = 1 ∧ (n.lane lane).lost = true ∧ n.rd Reg.LANE_STATUS.STATE lane = 1 ∧
      ((s.lane lane).lost = false → n.rd Reg.LANE_EVENT.LOST lane = 1) ∧ keepsOthers Reg.LANE_CTRL.FORCE_IDLE lane s n ∧
      ∀ k, k ≠ lane → n.lane k = s.lane k := by
  rw [State.forceIdle_on hdeclared hidle] at hn
  subst hn
  have hwrite := s.wr_effect Reg.LANE_CTRL.FORCE_IDLE 1 lane 0
  have hset : (s.wr Reg.LANE_CTRL.FORCE_IDLE 1 lane).rd Reg.LANE_CTRL.FORCE_IDLE lane = 1 :=
    State.rd_wr_same _ _ _ _ _ (Field.has_lane hlane) (by decide)
  have hdecl := (hwrite.laneDeclared lane).trans hdeclared
  have hkeeps : keepsOthers Reg.LANE_CTRL.FORCE_IDLE lane s (s.wr Reg.LANE_CTRL.FORCE_IDLE 1 lane) := s.wr_keepsOthers _ _ (by decide)
  have hlanes : ∀ k, (s.wr Reg.LANE_CTRL.FORCE_IDLE 1 lane).lane k = s.lane k := fun k => hwrite.lane k
  generalize s.wr Reg.LANE_CTRL.FORCE_IDLE 1 lane = u at *
  obtain ⟨hstate, hlost, hevent⟩ := u.loseLane_does hlane
  have hctrl : ∀ i j, (u.loseLane lane).rd Reg.LANE_CTRL.FORCE_IDLE i j = u.rd Reg.LANE_CTRL.FORCE_IDLE i j :=
    fun i j => (State.loseLane_effect u lane).rd _ _ _ (by decide +kernel)
  refine ⟨(hctrl _ _).trans hset, by rw [hlost], hstate.trans ?_, fun h => hevent (by rw [hlanes, h]),
    fun k hk j => (hctrl k j).trans (hkeeps k hk j), fun k hk => (u.loseLane_other hk).trans (hlanes k)⟩
  simp [hdecl, hset]

theorem State.forceIdle_off_does (hlane : lane < 96) (hdeclared : s.laneDeclared lane = true)
    (hidle : s.rd Reg.LANE_CTRL.FORCE_IDLE lane ≠ 0) {n : State} (hn : n = s.forceIdle lane false) :
    n.rd Reg.LANE_CTRL.FORCE_IDLE lane = 0 ∧
      (s.rd Reg.LANE_STATUS.SYNC lane ≠ 0 → (n.lane lane).lost = false ∧ n.rd Reg.LANE_STATUS.STATE lane = 3) ∧
      (s.rd Reg.LANE_STATUS.SYNC lane = 0 → n.lanes = s.lanes ∧
        n.rd Reg.LANE_STATUS.STATE lane = (if (s.lane lane).lost then 6 else 2)) := by
  rw [State.forceIdle_off hdeclared hidle] at hn
  have hwrite := s.wr_effect Reg.LANE_CTRL.FORCE_IDLE 0 lane 0
  have hclear : (s.wr Reg.LANE_CTRL.FORCE_IDLE 0 lane).rd Reg.LANE_CTRL.FORCE_IDLE lane = 0 :=
    State.rd_wr_same _ _ _ _ _ (Field.has_lane hlane) (by decide)
  have hsync := hwrite.rd Reg.LANE_STATUS.SYNC lane 0 (by decide +kernel)
  have hdecl := (hwrite.laneDeclared lane).trans hdeclared
  have hlanes : (s.wr Reg.LANE_CTRL.FORCE_IDLE 0 lane).lanes = s.lanes := s.wr_lanes ..
  generalize s.wr Reg.LANE_CTRL.FORCE_IDLE 0 lane = u at *
  split at hn
  · rename_i hon
    rw [State.on_eq_true] at hon
    subst hn
    obtain ⟨-, -, hlost, -⟩ := (u.modLane lane fun l => { l with lost := false }).measure_does lane
    rw [State.modLane_same] at hlost
    refine ⟨((State.measure_effect ..).rd _ _ _ (by decide +kernel)).trans hclear, fun _ => ⟨hlost, ?_⟩, fun h => absurd h hon⟩
    exact State.measure_state hlane hdecl hclear (by rw [State.modLane_same]) (hsync ▸ hon)
  · rename_i hoff
    rw [Bool.not_eq_true, State.on_eq_false] at hoff
    subst hn
    have hsame : u.lane lane = s.lane lane := congrArg (Tbl.look default · lane) hlanes
    have hstate : u.laneState lane = if (s.lane lane).lost then 6 else 2 := by
      split_ifs with hlost
      · exact State.laneState_lost hdecl hclear (hsame ▸ hlost)
      · exact State.laneState_aligning hdecl hclear (by rw [hsame]; simpa using hlost) (hsync.trans hoff)
    refine ⟨((State.showLane_effect ..).rd _ _ _ (by decide +kernel)).trans hclear, fun h => absurd hoff h, fun _ => ⟨?_, ?_⟩⟩
    · rw [State.showLane_lanes (by rw [hstate]; split_ifs <;> decide), hlanes]
    · exact (State.showLane_state hlane).trans hstate

/-! ### The host's controls (R109, R113) -/

theorem State.laneCallup_eq (hidle : s.elecIdle lane = false) (hsweep : (s.lane lane).sweep = none)
    (hcall : (s.lane lane).allCall = false) : s.laneCallup lane = s.measure lane := if_neg (by simp [hidle, hsweep, hcall])

theorem State.laneCallup_ignored (h : s.elecIdle lane = true ∨ (s.lane lane).sweep.isSome = true ∨ (s.lane lane).allCall = true) :
    s.laneCallup lane = s := if_pos (by rcases h with h | h | h <;> simp [h])

theorem State.laneRestore_eq (heven : lane % 2 = 0) (hdeclared : s.laneDeclared lane = true) :
    s.laneRestore lane = s.modChain (lane / 2) fun c => { c with restoreReq := true } := if_pos ⟨heven, hdeclared⟩

theorem State.laneRestore_ignored (h : lane % 2 = 1 ∨ s.laneDeclared lane = false) : s.laneRestore lane = s :=
  if_neg fun ⟨heven, hdeclared⟩ => by
    rcases h with h | h
    · omega
    · rw [h] at hdeclared
      exact Bool.false_ne_true hdeclared

end

end Sys2Proof.Machine
end

section
namespace Sys2Proof.Machine

set_option Elab.async false

/-! ### A restore (R113) -/

section
variable {s : State} {cc : ChainCfg}

theorem Field.has_even {f : Field} {c : Nat} (hc : c < 48) (h : f.n1 = 96 ∧ 0 < f.n2 := by decide) : f.has (2 * c) 0 = true :=
  Field.has_lane (by omega) h

theorem State.moveSplit_none {c : Nat} {w : Nat × Nat} (h : w = (s.split c, s.gap c)) : s.moveSplit c w = s := if_pos h

theorem State.moveSplit_does {c : Nat} {w : Nat × Nat} (hc : c < 48) (h : w ≠ (s.split c, s.gap c)) :
    (s.moveSplit c w).chain c = { s.chain c with next := some w, moving := 2 } ∧
      (∀ k, k ≠ c → (s.moveSplit c w).chain k = s.chain k) ∧ (s.moveSplit c w).rd Reg.LANE_EVENT.MOVE (2 * c) = 1 ∧
      (s.moveSplit c w).rd Reg.LANE_STATUS.MOVING (2 * c) = 1 := by
  unfold State.moveSplit
  rw [if_neg h]
  extract_lets moved
  have hshown : Effect [] (some [Reg.LANE_EVENT.MOVE, Reg.LANE_STATUS.MOVING]) moved
      ((moved.wr Reg.LANE_EVENT.MOVE 1 (2 * c)).wr Reg.LANE_STATUS.MOVING 1 (2 * c)) :=
    Effect.after (State.wr_effect ..) (by decide +kernel) ((State.wr_effect ..).widen (by decide +kernel))
  refine ⟨(hshown.chain c).trans (State.modChain_same ..), fun k hk => (hshown.chain k).trans (State.modChain_other _ _ _ hk), ?_,
    State.rd_wr_same _ _ _ _ _ (Field.has_even hc) (by decide)⟩
  exact (State.rd_wr_apart _ _ _ _ _ _ (by decide +kernel)).trans (State.rd_wr_same _ _ _ _ _ (Field.has_even hc) (by decide))

/-- The first half of a restore: no segment of the chain is down, and its lane ends are not lost. -/
def State.forgetDown (s : State) (cc : ChainCfg) : State :=
  let s := (s.modChain cc.chain fun x => { x with restoreRun := 0, down := 0 }).showDown cc.chain
  let s := s.modLane (2 * cc.chain) fun l => { l with lost := false }
  s.modLane (2 * cc.chain + 1) fun l => { l with lost := false }

theorem State.restore_eq (s : State) (cc : ChainCfg) : s.restore cc =
    (((s.forgetDown cc).moveSplit cc.chain (cc.split, 0)).showLane (2 * cc.chain)).showLane (2 * cc.chain + 1) := rfl

theorem State.forgetDown_effect (s : State) (cc : ChainCfg) :
    Effect [.lanes, .chains] State.showDown_fields s (s.forgetDown cc) := by
  unfold State.forgetDown
  exact Effect.after (State.modLane_effect ..) (by decide +kernel) <| Effect.after (State.modLane_effect ..) (by decide +kernel) <|
    Effect.after (State.showDown_effect ..) (by decide +kernel) ((State.modChain_effect ..).widen (by decide +kernel))

theorem State.forgetDown_does (hc : cc.chain < 48) {n : State} (hn : n = s.forgetDown cc) :
    n.rd Reg.LANE_SEGDOWN_LO.DOWN (2 * cc.chain) = 0 ∧ n.rd Reg.LANE_SEGDOWN_HI.DOWN (2 * cc.chain) = 0 ∧
      n.chain cc.chain = { s.chain cc.chain with restoreRun := 0, down := 0 } ∧ (∀ k, k ≠ cc.chain → n.chain k = s.chain k) ∧
      (n.lane (2 * cc.chain)).lost = false ∧ (n.lane (2 * cc.chain + 1)).lost = false := by
  subst hn
  unfold State.forgetDown
  extract_lets shown even
  let quiet := s.modChain cc.chain fun x => { x with restoreRun := 0, down := 0 }
  have hquiet : quiet.chain cc.chain = { s.chain cc.chain with restoreRun := 0, down := 0 } := State.modChain_same ..
  have hshown : Effect [] State.showDown_fields quiet shown := State.showDown_effect ..
  have hdown : (quiet.chain cc.chain).down = 0 := by rw [hquiet]
  have hwrites : shown = (quiet.wr Reg.LANE_SEGDOWN_LO.DOWN 0 (2 * cc.chain)).wr Reg.LANE_SEGDOWN_HI.DOWN 0 (2 * cc.chain) := by
    show quiet.showDown cc.chain = _
    rw [State.showDown, hdown]
  refine ⟨?_, ?_, (hshown.chain _).trans hquiet, fun k hk => (hshown.chain k).trans (State.modChain_other _ _ _ hk), ?_, ?_⟩
  · rw [State.modLane_rd, State.modLane_rd, hwrites, State.rd_wr_apart _ _ _ _ _ _ (by decide +kernel)]
    exact State.rd_wr_same _ _ _ _ _ (Field.has_even hc) (by decide)
  · rw [State.modLane_rd, State.modLane_rd, hwrites]
    exact State.rd_wr_same _ _ _ _ _ (Field.has_even hc) (by decide)
  · rw [State.modLane_other _ _ _ (by omega), State.modLane_same]
  · rw [State.modLane_same]

/-- What a restore leaves: the segments forgotten, the lane ends not lost, and a move to the split of the image where one is due. -/
theorem State.restore_does (hc : cc.chain < 48) {n : State} (hn : n = s.restore cc) :
    n.rd Reg.LANE_SEGDOWN_LO.DOWN (2 * cc.chain) = 0 ∧ n.rd Reg.LANE_SEGDOWN_HI.DOWN (2 * cc.chain) = 0 ∧
      (n.chain cc.chain).restoreRun = 0 ∧ (n.lane (2 * cc.chain)).lost = false ∧ (n.lane (2 * cc.chain + 1)).lost = false ∧
      (∀ k, k ≠ cc.chain → n.chain k = s.chain k) ∧
      ((cc.split, 0) = (s.split cc.chain, s.gap cc.chain) → (n.chain cc.chain).next = (s.chain cc.chain).next) ∧
      ((cc.split, 0) ≠ (s.split cc.chain, s.gap cc.chain) → (n.chain cc.chain).next = some (cc.split, 0) ∧
        n.rd Reg.LANE_EVENT.MOVE (2 * cc.chain) = 1 ∧ n.rd Reg.LANE_STATUS.MOVING (2 * cc.chain) = 1) := by
  obtain ⟨hlo, hhi, hchain, hothers, heven, hodd⟩ := State.forgetDown_does hc (s := s) rfl
  have hforget := s.forgetDown_effect cc
  have hplace : ((s.forgetDown cc).split cc.chain, (s.forgetDown cc).gap cc.chain) = (s.split cc.chain, s.gap cc.chain) :=
    Prod.ext (hforget.rd _ _ _ (by decide +kernel)) (hforget.rd _ _ _ (by decide +kernel))
  rw [s.restore_eq] at hn
  have hmove := State.moveSplit_effect (s.forgetDown cc) cc.chain (cc.split, 0)
  have hnone := State.moveSplit_none (s := s.forgetDown cc) (c := cc.chain) (w := (cc.split, 0))
  have hsome := State.moveSplit_does (s := s.forgetDown cc) (w := (cc.split, 0)) hc
  rw [hplace] at hnone hsome
  generalize s.forgetDown cc = f at *
  generalize f.moveSplit cc.chain (cc.split, 0) = m at *
  have hshown : Effect [.lanes] (some [Reg.LANE_STATUS.STATE]) m n := by
    subst hn
    exact Effect.after (State.showLane_effect ..) (by decide +kernel) (State.showLane_effect ..)
  have hlost : (n.lane (2 * cc.chain)).lost = (m.lane (2 * cc.chain)).lost ∧
      (n.lane (2 * cc.chain + 1)).lost = (m.lane (2 * cc.chain + 1)).lost := by
    subst hn
    constructor
    · rw [State.showLane_other _ (by omega), State.showLane_same]
    · rw [State.showLane_same, State.showLane_other _ (by omega)]
  rw [hmove.lane, hmove.lane] at hlost
  have hchains : ∀ k, n.chain k = m.chain k := fun k => hshown.chain k
  have hmoved : (m.chain cc.chain).restoreRun = 0 ∧ ∀ k, k ≠ cc.chain → m.chain k = f.chain k := by
    by_cases h : (cc.split, 0) = (s.split cc.chain, s.gap cc.chain)
    · rw [hnone h, hchain]
      exact ⟨rfl, fun k _ => rfl⟩
    · obtain ⟨hnext, hkept, -, -⟩ := hsome h
      rw [hnext, hchain]
      exact ⟨rfl, hkept⟩
  refine ⟨?_, ?_, by rw [hchains, hmoved.1], hlost.1.trans heven, hlost.2.trans hodd,
    fun k hk => (hchains k).trans ((hmoved.2 k hk).trans (hothers k hk)), fun h => ?_, fun h => ?_⟩
  · rw [hshown.rd _ _ _ (by decide +kernel), hmove.rd _ _ _ (by decide +kernel), hlo]
  · rw [hshown.rd _ _ _ (by decide +kernel), hmove.rd _ _ _ (by decide +kernel), hhi]
  · rw [hchains, hnone h, hchain]
  · obtain ⟨hnext, -, hevent, hmoving⟩ := hsome h
    rw [hchains, hnext, hshown.rd _ _ _ (by decide +kernel), hshown.rd _ _ _ (by decide +kernel)]
    exact ⟨rfl, hevent, hmoving⟩

/-! ### The move takes effect (R111) -/

theorem State.takeMove_none (h : (s.chain cc.chain).next = none) : s.takeMove cc = s := by
  unfold State.takeMove
  simp only [h]

/-- Split and gap `w` in force, with the chain's record of those before and no run of missing slots at its lane ends. -/
def State.placed (s : State) (c : Nat) (w old : Nat × Nat) : State :=
  let s := (s.wr Reg.LANE_CHAIN.SPLIT w.1 (2 * c)).wr Reg.LANE_CHAIN.GAP w.2 (2 * c)
  let s := s.modChain c fun x => { x with next := none, before := some old }
  let s := s.modLane (2 * c) fun l => { l with missFrom := none }
  s.modLane (2 * c + 1) fun l => { l with missFrom := none }

theorem State.placed_does {c : Nat} (hc : c < 48) (w old : Nat × Nat) {n : State} (hn : n = s.placed c w old) :
    n.rd Reg.LANE_CHAIN.SPLIT (2 * c) = w.1 % 64 ∧ n.rd Reg.LANE_CHAIN.GAP (2 * c) = w.2 % 64 ∧
      n.chain c = { s.chain c with next := none, before := some old } ∧ (∀ k, k ≠ c → n.chain k = s.chain k) ∧
      ∀ k, (n.lane k).lost = (s.lane k).lost := by
  subst hn
  unfold State.placed
  extract_lets written moved even
  have hwritten : Effect [] (some [Reg.LANE_CHAIN.SPLIT, Reg.LANE_CHAIN.GAP]) s written :=
    Effect.after (State.wr_effect ..) (by decide +kernel) ((State.wr_effect ..).widen (by decide +kernel))
  have hlost : ∀ (u : State) (i k : Nat), ((u.modLane i fun l => { l with missFrom := none }).lane k).lost = (u.lane k).lost := by
    intro u i k
    by_cases hk : k = i
    · rw [hk, State.modLane_same]
    · rw [State.modLane_other _ _ _ hk]
  have hafter : Effect [.lanes] (some []) moved (even.modLane (2 * c + 1) fun l => { l with missFrom := none }) :=
    Effect.after (State.modLane_effect ..) (by decide +kernel) (State.modLane_effect ..)
  refine ⟨?_, ?_, ?_, fun k hk => ?_, fun k => ?_⟩
  · rw [hafter.rd _ _ _ rfl, State.modChain_rd, State.rd_wr_apart _ _ _ _ _ _ (by decide +kernel)]
    exact State.rd_wr_same _ _ _ _ _ (Field.has_even hc) (by decide)
  · rw [hafter.rd _ _ _ rfl, State.modChain_rd]
    exact State.rd_wr_same _ _ _ _ _ (Field.has_even hc) (by decide)
  · rw [hafter.chain, State.modChain_same, hwritten.chain]
  · rw [hafter.chain, State.modChain_other _ _ _ hk, hwritten.chain]
  · rw [hlost, hlost, (State.modChain_effect written c _).lane, hwritten.lane]

theorem State.takeMove_after {w : Nat × Nat} (hnext : (s.chain cc.chain).next = some w) :
    Effect [] State.showServed_fields (s.placed cc.chain w (s.split cc.chain, s.gap cc.chain)) (s.takeMove cc) := by
  unfold State.takeMove
  simp only [hnext]
  exact Effect.after (State.showServed_effect ..) (by decide +kernel) (State.showServed_effect ..)

theorem State.takeMove_does {w : Nat × Nat} (hc : cc.chain < 48) (hnext : (s.chain cc.chain).next = some w) :
    (s.takeMove cc).split cc.chain = w.1 % 64 ∧ (s.takeMove cc).gap cc.chain = w.2 % 64 ∧
      (s.takeMove cc).chain cc.chain =
        { s.chain cc.chain with next := none, before := some (s.split cc.chain, s.gap cc.chain) } ∧
      (∀ k, k ≠ cc.chain → (s.takeMove cc).chain k = s.chain k) ∧ ∀ k, ((s.takeMove cc).lane k).lost = (s.lane k).lost := by
  obtain ⟨hsplit, hgap, hchain, hothers, hlost⟩ := State.placed_does hc w (s.split cc.chain, s.gap cc.chain) (s := s) rfl
  have hshown := State.takeMove_after hnext
  refine ⟨(hshown.rd _ _ _ (by decide +kernel)).trans hsplit, (hshown.rd _ _ _ (by decide +kernel)).trans hgap, ?_, fun k hk => ?_,
    fun k => ?_⟩
  · rw [hshown.chain, hchain]
  · rw [hshown.chain, hothers k hk]
  · rw [hshown.lane, hlost]

theorem State.settleMove_after (s : State) (cc : ChainCfg) : Effect [] State.showPlace_fields (s.takeMove cc) (s.settleMove cc) := by
  unfold State.settleMove
  exact Effect.when (.refl ..) fun _ => Effect.each (.refl ..) fun _ _ => State.showPlace_effect ..

/-! ### An automatic restore at the freeze -/

theorem State.autoRestore_due (hauto : s.rd Reg.LANE_CTRL.AUTO_RESTORE (2 * cc.chain) ≠ 0) (hrun : 1000 ≤ (s.chain cc.chain).restoreRun)
    (hrestorable : s.restorable cc.chain = true) : s.autoRestore cc = s.restore cc :=
  if_pos (by simp [State.on, hauto, hrun, hrestorable])

/-- The cells that a restore moves are marked, and nothing else is. -/
theorem State.restoreFrozen_stages (s : State) (cc : ChainCfg) :
    ∃ u, Effect [.cells] (some []) (s.autoRestore cc) u ∧ s.restoreFrozen cc = u.settleMove cc :=
  ⟨_, Effect.each (.refl ..) fun _ _ => State.modCell_effect .., rfl⟩

theorem State.restoreAtFreeze_due (hphase : s.fr.phase = .frozen) (hfreeze : s.fr.freezeNs = s.count) :
    s.restoreAtFreeze cc = (s.restoreFrozen cc).storeImage (s.frameNo % 2) := if_pos ⟨hphase, hfreeze⟩

theorem State.restoreAtFreeze_ignored (h : s.fr.phase ≠ .frozen ∨ s.fr.freezeNs ≠ s.count) : s.restoreAtFreeze cc = s :=
  if_neg fun ⟨hphase, hfreeze⟩ => h.elim (· hphase) (· hfreeze)

/-- What an automatic restore leaves of a chain, from `s` to `n` (R113). -/
structure Restored (s n : State) (cc : ChainCfg) : Prop where
  low : n.rd Reg.LANE_SEGDOWN_LO.DOWN (2 * cc.chain) = 0
  high : n.rd Reg.LANE_SEGDOWN_HI.DOWN (2 * cc.chain) = 0
  split : n.split cc.chain = cc.split
  gap : n.gap cc.chain = 0
  run : (n.chain cc.chain).restoreRun = 0
  even : (n.lane (2 * cc.chain)).lost = false
  odd : (n.lane (2 * cc.chain + 1)).lost = false
  moved : (cc.split, 0) ≠ (s.split cc.chain, s.gap cc.chain) → n.rd Reg.LANE_EVENT.MOVE (2 * cc.chain) = 1 ∧
    n.rd Reg.LANE_STATUS.MOVING (2 * cc.chain) = 1 ∧ (n.chain cc.chain).before = some (s.split cc.chain, s.gap cc.chain)
  others : ∀ k, k ≠ cc.chain → n.chain k = s.chain k

theorem State.restoreFrozen_does (hc : cc.chain < 48) (hauto : s.rd Reg.LANE_CTRL.AUTO_RESTORE (2 * cc.chain) ≠ 0)
    (hrun : 1000 ≤ (s.chain cc.chain).restoreRun) (hrestorable : s.restorable cc.chain = true) (hnext : (s.chain cc.chain).next = none)
    (hsplit : cc.split < 64) : Restored s (s.restoreFrozen cc) cc := by
  obtain ⟨u, hcells, hstages⟩ := s.restoreFrozen_stages cc
  rw [State.autoRestore_due hauto hrun hrestorable] at hcells
  obtain ⟨hlow, hhigh, hzero, heven, hodd, hothers, hstay, hmove⟩ := State.restore_does hc (s := s) rfl
  have hrestore := s.restore_effect cc
  have hat : u.split cc.chain = s.split cc.chain ∧ u.gap cc.chain = s.gap cc.chain :=
    ⟨(hcells.rd _ _ _ (by decide +kernel)).trans (hrestore.rd _ _ _ (by decide +kernel)),
      (hcells.rd _ _ _ (by decide +kernel)).trans (hrestore.rd _ _ _ (by decide +kernel))⟩
  have hshown := u.settleMove_after cc
  have htaken := u.takeMove_effect cc
  rw [hstages]
  generalize u.settleMove cc = n at *
  have hrd : ∀ f ∈ [Reg.LANE_SEGDOWN_LO.DOWN, Reg.LANE_SEGDOWN_HI.DOWN, Reg.LANE_EVENT.MOVE, Reg.LANE_STATUS.MOVING],
      ∀ i, n.rd f i = (s.restore cc).rd f i := fun f hf i =>
    (hshown.rd f i 0 (by revert f; decide +kernel)).trans <| (htaken.rd f i 0 (by revert f; decide +kernel)).trans <|
      hcells.rd f i 0 (by revert f; decide +kernel)
  have hplace : n.split cc.chain = (u.takeMove cc).split cc.chain ∧ n.gap cc.chain = (u.takeMove cc).gap cc.chain :=
    ⟨hshown.rd _ _ _ (by decide +kernel), hshown.rd _ _ _ (by decide +kernel)⟩
  have hlow' := (hrd _ (by simp) _).trans hlow
  have hhigh' := (hrd _ (by simp) _).trans hhigh
  by_cases hsame : (cc.split, 0) = (s.split cc.chain, s.gap cc.chain)
  · have hidle : u.takeMove cc = u :=
      State.takeMove_none ((congrArg ChainSt.next (hcells.chain _)).trans ((hstay hsame).trans hnext))
    have hat' : u.split cc.chain = cc.split ∧ u.gap cc.chain = 0 :=
      ⟨hat.1.trans (congrArg Prod.fst hsame).symm, hat.2.trans (congrArg Prod.snd hsame).symm⟩
    rw [hidle] at hshown hplace
    exact ⟨hlow', hhigh', hplace.1.trans hat'.1, hplace.2.trans hat'.2, by rw [hshown.chain, hcells.chain, hzero],
      by rw [hshown.lane, hcells.lane, heven], by rw [hshown.lane, hcells.lane, hodd], fun h => absurd hsame h,
      fun k hk => by rw [hshown.chain, hcells.chain, hothers k hk]⟩
  · obtain ⟨hdue, hevent, hmoving⟩ := hmove hsame
    obtain ⟨hsp, hgap, hchain, hrest, hlost⟩ :=
      State.takeMove_does hc ((congrArg ChainSt.next (hcells.chain _)).trans hdue)
    exact ⟨hlow', hhigh', hplace.1.trans (hsp.trans (Nat.mod_eq_of_lt hsplit)), hplace.2.trans hgap,
      by rw [hshown.chain, hchain, hcells.chain]; exact hzero, by rw [hshown.lane, hlost, hcells.lane, heven],
      by rw [hshown.lane, hlost, hcells.lane, hodd],
      fun _ => ⟨(hrd _ (by simp) _).trans hevent, (hrd _ (by simp) _).trans hmoving, by rw [hshown.chain, hchain, hat.1, hat.2]⟩,
      fun k hk => by rw [hshown.chain, hrest k hk, hcells.chain, hothers k hk]⟩

/-- What touches none of the chain's registers and neither lane ends nor chains leaves a restore as it is. -/
theorem Restored.after {A : List Part} {F : List Field} {s t n : State} (h : Restored s t cc) (k : Effect A (some F) t n)
    (hA : Part.lanes ∉ A ∧ Part.chains ∉ A := by decide)
    (hF : ([Reg.LANE_SEGDOWN_LO.DOWN, Reg.LANE_SEGDOWN_HI.DOWN, Reg.LANE_CHAIN.SPLIT, Reg.LANE_CHAIN.GAP, Reg.LANE_EVENT.MOVE,
      Reg.LANE_STATUS.MOVING].all fun f => F.all fun g => f.apart g) = true := by decide +kernel) : Restored s n cc := by
  have hrd : ∀ f ∈ [Reg.LANE_SEGDOWN_LO.DOWN, Reg.LANE_SEGDOWN_HI.DOWN, Reg.LANE_CHAIN.SPLIT, Reg.LANE_CHAIN.GAP, Reg.LANE_EVENT.MOVE,
      Reg.LANE_STATUS.MOVING], ∀ i, n.rd f i = t.rd f i := fun f hf i => k.rd f i 0 (List.all_eq_true.mp hF f hf)
  have hchain : ∀ i, n.chain i = t.chain i := fun i => k.chain i hA.2
  have hlane : ∀ i, n.lane i = t.lane i := fun i => k.lane i hA.1
  exact ⟨(hrd _ (by simp) _).trans h.low, (hrd _ (by simp) _).trans h.high, (hrd _ (by simp) _).trans h.split,
    (hrd _ (by simp) _).trans h.gap, by rw [hchain, h.run], by rw [hlane, h.even], by rw [hlane, h.odd],
    fun hne => by rw [hrd _ (by simp), hrd _ (by simp), hchain]; exact h.moved hne, fun i hi => (hchain i).trans (h.others i hi)⟩

end

/-! ### The commands -/

theorem exec_laneSyncAcquire (s : State) (lane : Fin 96) (t : Nat) :
    exec (.laneSyncAcquire lane t) s = done ((s.elapse t).syncAcquire lane.val) := rfl

theorem exec_laneSyncLoss (s : State) (lane : Fin 96) (t : Nat) :
    exec (.laneSyncLoss lane t) s = done ((s.elapse t).syncLoss lane.val) := rfl

theorem exec_laneRestore (s : State) (lane : Fin 96) : exec (.laneRestore lane) s = done (s.laneRestore lane.val) := rfl

theorem exec_laneCallup (s : State) (lane : Fin 96) : exec (.laneCallup lane) s = done (s.laneCallup lane.val) := rfl

theorem exec_laneForceIdle (s : State) (lane : Fin 96) (idle : Bool) (t : Nat) :
    exec (.laneForceIdle lane idle t) s = done ((s.elapse t).forceIdle lane.val idle) := rfl

theorem exec_autoRestore {s : State} {c : Fin 48} {cc : ChainCfg} (t : Nat) (hchain : s.chainCfg c.val = some cc) :
    exec (.autoRestore c t) s = done ((s.elapse t).restoreAtFreeze cc) := by
  show execAutoRestore c t s = _
  unfold execAutoRestore
  simp only [s.elapse_chainCfg, hchain]

theorem exec_autoRestore_undeclared {s : State} {c : Fin 48} (t : Nat) (hchain : s.chainCfg c.val = none) :
    exec (.autoRestore c t) s = done (s.elapse t) := by
  show execAutoRestore c t s = _
  unfold execAutoRestore
  simp only [s.elapse_chainCfg, hchain]

/-- The chain that a CHAINS entry is found by is its own. -/
theorem State.chainCfg_chain {s : State} {c : Nat} {cc : ChainCfg} (h : s.chainCfg c = some cc) : cc.chain = c := by
  simpa using List.find?_some h

theorem State.elapse_laneDeclared (s : State) (t lane : Nat) : (s.elapse t).laneDeclared lane = s.laneDeclared lane :=
  (State.elapse_effect s t).laneDeclared lane

theorem State.elapse_on (s : State) (t : Nat) {f : Field} {i j : Nat}
    (h : (f.apart Reg.TIME_STATUS.SLEWING && f.apart Reg.TIME_SLEW_REMAIN.VALUE) = true) : (s.elapse t).on f i j = s.on f i j :=
  congrArg (· != 0) (s.elapse_rd t f i j h)

theorem State.elapse_phys (s : State) (t c : Nat) : (s.elapse t).phys c = s.phys c := by
  have hrd : ∀ f ∈ [Reg.LANE_CHAIN.PHYS, Reg.LANE_CHAIN.CELLS], ∀ i, (s.elapse t).rd f i = s.rd f i :=
    fun f hf i => s.elapse_rd t f i 0 (by revert f; decide +kernel)
  simp only [State.phys, State.chainCells, hrd Reg.LANE_CHAIN.PHYS (by simp), hrd Reg.LANE_CHAIN.CELLS (by simp)]

theorem State.elapse_restorable (s : State) (t c : Nat) : (s.elapse t).restorable c = s.restorable c := by
  have hsync : ∀ i, (s.elapse t).on Reg.LANE_STATUS.SYNC i = s.on Reg.LANE_STATUS.SYNC i := fun i => s.elapse_on t (by decide +kernel)
  have hvalid : ∀ i j, (s.elapse t).on Reg.LANE_DELAY.VALID i j = s.on Reg.LANE_DELAY.VALID i j :=
    fun i j => s.elapse_on t (by decide +kernel)
  simp only [State.restorable, State.allValid, hsync, hvalid, s.elapse_phys, s.elapse_chain]

theorem State.elapse_freeze (s : State) (t : Nat) : (s.elapse t).fr.freezeNs = s.fr.freezeNs := by
  obtain ⟨k, hfr⟩ := s.elapse_fr_timer t
  rw [hfr]

/-- Settles O21: each lane end by the operation of its command, and a restore by what its freeze leaves of the chain. -/
theorem lanesComeUpBreakAndRestore : Obligations.LanesComeUpBreakAndRestore := by
  unfold Obligations.LanesComeUpBreakAndRestore
  refine ⟨?acquire, ?acquired, ?loss, ?lost, ?auto, ?notDue, ?restore, ?noRestore, ?callup, ?noCallup, ?idle, ?leaves, ?same⟩
  case acquire =>
    intro s lane t hdeclared hsync
    obtain ⟨hsynced, hevent, hlost, hothers, hserves, hidle⟩ := State.syncAcquire_does lane.isLt ((s.elapse_laneDeclared t _).trans hdeclared)
      ((s.elapse_rd t _ _ _ (by decide +kernel)).trans hsync) rfl
    rw [s.elapse_rd t _ _ _ (by decide +kernel), s.elapse_lane, s.elapse_inKickOff] at hserves
    rw [s.elapse_rd t _ _ _ (by decide +kernel)] at hidle
    refine ⟨_, exec_laneSyncAcquire s lane t, ?_, ?_, ?_, fun k hk => ?_, fun h ho => ?_, fun h => ?_,
      Effect.of_exec (execLaneSyncAcquire_effect lane t s) rfl (by decide) (by decide +kernel)⟩
    · exact (State.settle_rd _ _ _ _ (by decide +kernel)).trans hsynced
    · exact (State.settle_rd _ _ _ _ (by decide +kernel)).trans hevent
    · rw [State.settle_lane, hlost]
    · rw [State.settle_lane, hothers k hk, s.elapse_lane]
    · rw [State.settle_lane, State.settle_rd _ _ _ _ (by decide +kernel)]
      exact hserves h ho
    · exact (State.settle_rd _ _ _ _ (by decide +kernel)).trans (hidle h)
  case acquired =>
    intro s lane t h
    have hkeep : (s.elapse t).syncAcquire lane.val = s.elapse t :=
      State.syncAcquire_ignored (by rwa [s.elapse_laneDeclared, s.elapse_rd t _ _ _ (by decide +kernel)])
    exact ⟨_, (exec_laneSyncAcquire s lane t).trans (congrArg done hkeep), s.elapse_settle_effect t⟩
  case loss =>
    intro s lane t hsync
    have hloss := State.syncLoss_eq ((s.elapse_rd t Reg.LANE_STATUS.SYNC lane.val 0 (by decide +kernel)).symm ▸ hsync)
    obtain ⟨hdown, hlos, hcode, hdrawn, hlane, hothers, heffect⟩ := State.unsynced_does (s := s.elapse t) lane.isLt rfl
    have hdeclared := (heffect.laneDeclared lane.val).trans (s.elapse_laneDeclared t _)
    have hidle : ((s.elapse t).unsynced lane.val).rd Reg.LANE_CTRL.FORCE_IDLE lane.val = s.rd Reg.LANE_CTRL.FORCE_IDLE lane.val :=
      (heffect.rd _ _ _ (by decide +kernel)).trans (s.elapse_rd t _ _ _ (by decide +kernel))
    rw [s.elapse_rd t _ _ _ (by decide +kernel)] at hlos hcode
    rw [s.elapse_drawn] at hcode hdrawn
    rw [s.elapse_lane] at hlane
    have hexec := (exec_laneSyncLoss s lane t).trans (congrArg done hloss)
    generalize (s.elapse t).unsynced lane.val = u at *
    obtain ⟨hstate, hlost, hevent⟩ := u.loseLane_does lane.isLt
    have hrd : ∀ f ∈ [Reg.LANE_STATUS.SYNC, Reg.LANE_CODE_ERR.LOS, Reg.LANE_CODE_ERR.CODE],
        ∀ i, (u.loseLane lane.val).settle.rd f i = u.rd f i := fun f hf i =>
      (State.settle_rd _ f i 0 (by revert f; decide +kernel)).trans ((State.loseLane_effect ..).rd f i 0 (by revert f; decide +kernel))
    rw [hlane] at hlost
    rw [hdeclared, hidle] at hstate
    refine ⟨_, hexec, (hrd _ (by simp) _).trans hdown, (hrd _ (by simp) _).trans hlos, (hrd _ (by simp) _).trans hcode, ?_,
      by rw [State.settle_lane, hlost], by rw [State.settle_lane, hlost], by rw [State.settle_lane, hlost],
      by rw [State.settle_lane, hlost], fun h => ?_, ?_, fun k hk => ?_,
      Effect.of_exec (execLaneSyncLoss_effect lane t s) hexec (by decide) (by decide +kernel)⟩
    · rw [State.settle_drawn, (State.loseLane_effect ..).same .drawn (by decide), hdrawn]
    · exact (State.settle_rd _ _ _ _ (by decide +kernel)).trans (hevent (by rw [hlane, h]))
    · exact (State.settle_rd _ _ _ _ (by decide +kernel)).trans hstate
    · rw [State.settle_lane, State.loseLane_other _ hk, hothers k hk, s.elapse_lane]
  case lost =>
    intro s lane t h
    have hkeep : (s.elapse t).syncLoss lane.val = s.elapse t :=
      State.syncLoss_ignored ((s.elapse_rd t _ _ _ (by decide +kernel)).trans h)
    exact ⟨_, (exec_laneSyncLoss s lane t).trans (congrArg done hkeep), s.elapse_settle_effect t⟩
  case auto =>
    intro s c t cc hchain hphase hfreeze hauto hrun hrestorable hnext hsplit
    have hnumber := State.chainCfg_chain hchain
    have hdue := State.restoreAtFreeze_due (cc := cc) ((s.elapse_phase t).trans hphase) ((s.elapse_freeze t).trans hfreeze)
    have hexec := (exec_autoRestore t hchain).trans (congrArg done hdue)
    rw [← hnumber] at hauto hrun hrestorable hnext
    have hfrozen := State.restoreFrozen_does (s := s.elapse t) (hnumber ▸ c.isLt)
      (by rwa [s.elapse_rd t _ _ _ (by decide +kernel)]) (by rwa [s.elapse_chain]) ((s.elapse_restorable t _).trans hrestorable)
      (by rwa [s.elapse_chain]) hsplit
    obtain ⟨hlow, hhigh, hsp, hgap, hzero, heven, hodd, hmoved, hothers⟩ := (hfrozen.after
      (State.storeImage_effect _ ((s.elapse t).frameNo % 2))).after (State.settle_effect _)
    have hat : (s.elapse t).split cc.chain = s.split cc.chain ∧ (s.elapse t).gap cc.chain = s.gap cc.chain :=
      ⟨s.elapse_rd t _ _ _ (by decide +kernel), s.elapse_rd t _ _ _ (by decide +kernel)⟩
    rw [hat.1, hat.2] at hmoved
    rw [hnumber] at hlow hhigh hsp hgap hzero heven hodd hmoved hothers
    exact ⟨_, hexec, hlow, hhigh, hsp, hgap, hzero, heven, hodd, hmoved, fun k hk => (hothers k hk).trans (s.elapse_chain t k),
      Effect.of_exec (execAutoRestore_effect c t s) hexec (by decide) (by decide +kernel)⟩
  case notDue =>
    intro s c t h
    cases hchain : s.chainCfg c.val with
    | none => exact ⟨_, exec_autoRestore_undeclared t hchain, s.elapse_settle_effect t⟩
    | some cc =>
      have hkeep : (s.elapse t).restoreAtFreeze cc = s.elapse t :=
        State.restoreAtFreeze_ignored (by rw [s.elapse_phase, s.elapse_freeze]; simpa [hchain] using h)
      exact ⟨_, (exec_autoRestore t hchain).trans (congrArg done hkeep), s.elapse_settle_effect t⟩
  case restore =>
    intro s lane heven hdeclared
    have hexec := (exec_laneRestore s lane).trans (congrArg done (State.laneRestore_eq heven hdeclared))
    refine ⟨_, hexec, ?_, fun k hk => ?_, Effect.of_exec (execLaneRestore_effect lane s) hexec (by decide) (by decide +kernel)⟩
    · rw [State.settle_chain, State.modChain_same]
    · rw [State.settle_chain, State.modChain_other _ _ _ hk]
  case noRestore =>
    intro s lane h
    exact exec_unchanged ((exec_laneRestore s lane).trans (congrArg done (State.laneRestore_ignored h)))
  case callup =>
    intro s lane hidle hsweep hcall
    have hexec := (exec_laneCallup s lane).trans (congrArg done (State.laneCallup_eq hidle hsweep hcall))
    obtain ⟨hall, hstart, -, hothers⟩ := s.measure_does lane.val
    rw [hsweep] at hstart
    refine ⟨_, hexec, ?_, ?_, fun k hk => ?_, Effect.of_exec (execLaneCallup_effect lane s) hexec (by decide) (by decide +kernel)⟩
    · rwa [State.settle_lane]
    · rwa [State.settle_lane]
    · rw [State.settle_lane, hothers k hk]
  case noCallup =>
    intro s lane h
    exact exec_unchanged ((exec_laneCallup s lane).trans (congrArg done (State.laneCallup_ignored h)))
  case idle =>
    intro s lane t hdeclared hidle
    obtain ⟨hset, hlost, hstate, hevent, hkeeps, hothers⟩ := State.forceIdle_on_does lane.isLt
      ((s.elapse_laneDeclared t _).trans hdeclared) ((s.elapse_rd t _ _ _ (by decide +kernel)).trans hidle) rfl
    refine ⟨_, exec_laneForceIdle s lane true t, ?_, ?_, ?_, fun h => ?_, hkeeps.timed (by decide +kernel), fun k hk => ?_,
      Effect.of_exec (execLaneForceIdle_effect lane true t s) rfl (by decide) (by decide +kernel)⟩
    · exact (State.settle_rd _ _ _ _ (by decide +kernel)).trans hset
    · rw [State.settle_lane, hlost]
    · exact (State.settle_rd _ _ _ _ (by decide +kernel)).trans hstate
    · exact (State.settle_rd _ _ _ _ (by decide +kernel)).trans (hevent (by rw [s.elapse_lane, h]))
    · rw [State.settle_lane, hothers k hk, s.elapse_lane]
  case leaves =>
    intro s lane t hdeclared hidle
    obtain ⟨hclear, hsynced, hdown⟩ := State.forceIdle_off_does lane.isLt ((s.elapse_laneDeclared t _).trans hdeclared)
      (by rwa [s.elapse_rd t _ _ _ (by decide +kernel)]) rfl
    rw [s.elapse_rd t _ _ _ (by decide +kernel)] at hsynced hdown
    refine ⟨_, exec_laneForceIdle s lane false t, ?_, fun h => ?_, fun h => ?_,
      Effect.of_exec (execLaneForceIdle_effect lane false t s) rfl (by decide) (by decide +kernel)⟩
    · exact (State.settle_rd _ _ _ _ (by decide +kernel)).trans hclear
    · rw [State.settle_lane, State.settle_rd _ _ _ _ (by decide +kernel)]
      exact hsynced h
    · obtain ⟨hlanes, hstate⟩ := hdown h
      rw [s.elapse_lane] at hstate
      rw [State.settle_lanes, State.settle_rd _ _ _ _ (by decide +kernel), hlanes, s.elapse_lanes]
      exact ⟨rfl, hstate⟩
  case same =>
    intro s lane t idle h
    have hkeep : (s.elapse t).forceIdle lane.val idle = s.elapse t :=
      State.forceIdle_ignored ((s.elapse_on t (by decide +kernel)).trans h)
    exact ⟨_, (exec_laneForceIdle s lane idle t).trans (congrArg done hkeep), s.elapse_settle_effect t⟩

end Sys2Proof.Machine
end

section
namespace Sys2Proof.Machine

set_option Elab.async false

/-! ### Bytes -/

theorem u8At_lt (b : List Byte) (i : Nat) : u8At b i < 256 := (b.getD i 0).isLt

theorem u16At_lt (b : List Byte) (i : Nat) : u16At b i < 65536 := by
  have h0 := u8At_lt b i
  have h1 := u8At_lt b (i + 1)
  unfold u16At
  omega

theorem u64At_lt (b : List Byte) (i : Nat) : u64At b i < 2 ^ 64 := by
  have h0 := u16At_lt b i
  have h1 := u16At_lt b (i + 2)
  have h2 := u16At_lt b (i + 4)
  have h3 := u16At_lt b (i + 4 + 2)
  unfold u64At u32At
  omega

/-! ### What calls depend on, at a command's instant -/

theorem State.elapse_endPos (s : State) (t lane h : Nat) : (s.elapse t).endPos lane h = s.endPos lane h := by
  simp only [State.endPos, s.elapse_phys]

/-- The register fields that the bytes of a call are made of, and that say whether its lane may send. -/
def callFields : List Field := [Reg.LANE_CHAIN.SPLIT, Reg.LANE_CHAIN.GAP, Reg.LANE_CHAIN.CELLS, Reg.LANE_CHAIN.PHYS,
  Reg.LANE_CHAIN.LOOPED, Reg.FRAME_NO.FRAME_NO, Reg.POWER_STATE.STATE, Reg.FRAME_STATUS.RUNNING, Reg.LANE_CTRL.FORCE_IDLE,
  Reg.SLICE_ROLE.ROLE, Reg.SLICE_ROLE.TARGET, Reg.SLICE_ROLE.STATE]

/-- A call that leaves in `t` is the one that would leave in `s` (R88, R94, R106). -/
structure SameCalls (s t : State) : Prop where
  base : ∀ lane all, t.callBase lane all = s.callBase lane all
  frame : t.frameNo = s.frameNo
  bytes : ∀ lane target base block, t.callBytes lane target base block = s.callBytes lane target base block
  block : ∀ c, t.chainSafeBlock c = s.chainSafeBlock c
  sends : ∀ lane, t.laneSends lane = s.laneSends lane

theorem Effect.sameCalls {A : List Part} {F : List Field} {s t : State} (k : Effect A (some F) s t)
    (hout : ∀ n, (t.lane n).sliceOut = (s.lane n).sliceOut)
    (hA : Part.cfg ∉ A ∧ Part.safety ∉ A ∧ Part.power ∉ A := by decide)
    (hF : (callFields.all fun f => F.all fun g => f.apart g) = true := by decide +kernel) : SameCalls s t := by
  have hrd : ∀ f ∈ callFields, ∀ i, t.rd f i = s.rd f i := fun f hf i => k.rd f i 0 (List.all_eq_true.mp hF f hf)
  simp only [callFields, List.forall_mem_cons] at hrd
  obtain ⟨hsplit, hgap, hcells, hphys, hlooped, hno, hstate, hrunning, hidle, hrole, htarget, hslice, -⟩ := hrd
  have hcfg : t.cfg = s.cfg := k.same .cfg hA.1
  have hsafety : t.safety = s.safety := k.same .safety hA.2.1
  have hpower : t.power = s.power := k.same .power hA.2.2
  have hframe : t.frameNo = s.frameNo := hno 0
  have hdevice : t.device = s.device := hstate 0
  have hticking : t.ticking = s.ticking := congrArg (· != 0) (hrunning 0)
  have hunit : ∀ b, t.unitRuns b = s.unitRuns b := fun b => by
    simp only [State.unitRuns, State.unitOn, hcfg, hsafety, hpower, hdevice, hticking]
  have hgrp : ∀ b g, t.grp b g = s.grp b g := fun b g => by simp only [State.grp, State.safeUnit, hsafety]
  have hgroup : ∀ c, t.chainGroup c = s.chainGroup c := fun c => by
    simp only [State.chainGroup, State.chainCfg, State.armCfg, State.convCfg, hcfg]
  have hnodes : ∀ c, t.phys c = s.phys c := fun c => by simp only [State.phys, State.chainCells, hphys, hcells]
  have hon : ∀ i, t.on Reg.LANE_CHAIN.LOOPED i = s.on Reg.LANE_CHAIN.LOOPED i := fun i => congrArg (· != 0) (hlooped i)
  refine ⟨fun lane all => ?_, hframe, fun lane target base block => ?_, fun c => ?_, fun lane => ?_⟩
  · simp only [State.callBase, hon, State.chainCells, hcells, hnodes]
  · simp only [State.callBytes, State.split, State.gap, State.chainCells, hframe, hsplit, hgap, hcells, hcfg]
  · simp only [State.chainSafeBlock, State.safeBlocks, State.enables, hgroup, hunit, hgrp]
  · simp only [State.laneSends, State.elecIdle, State.laneDeclared, State.chainCfg, State.on, State.inKickOff, State.sliceOf, State.clocked,
      hcfg, hidle, hdevice, hpower, hrole, htarget, hslice, hout]

/-! ### The parts of a good reply -/

section
variable {s : State} {cc : ChainCfg} {lane n q : Nat} {b : List Byte}

theorem Field.has_cell {f : Field} {n : Nat} (hn : n < 1536) (h : f.n1 = 1536 ∧ 0 < f.n2 := by decide) : f.has n 0 = true := by
  simp [Field.has, h, hn]

/-- What a reply tells of its node (Table 04-8), in the team sheet. -/
def State.showFound (s : State) (n : Nat) (b : List Byte) : State :=
  let s := s.wr64 Reg.TS_FOUND_LO.IDENTITY Reg.TS_FOUND_HI.IDENTITY (u64At b 8) n
  let s := (s.wr Reg.TS_INFO.CLASS (u8At b 4) n).wr Reg.TS_INFO.BYPASS_FITTED (bitOf (u16At b 16) 0) n
  s.wr Reg.TS_INFO.FIRMWARE (u16At b 6) n

/-- The end position of a reply, for the lane end that called. -/
def State.showCalled (s : State) (lane n q : Nat) : State :=
  if lane % 2 = 0 then (s.wr Reg.TS_CALL.Q_EVEN q n).wr Reg.TS_CALL.VALID_EVEN 1 n
  else (s.wr Reg.TS_CALL.Q_ODD q n).wr Reg.TS_CALL.VALID_ODD 1 n

/-- A reply counted, with its frame. -/
def State.countReply (s : State) (n : Nat) : State :=
  ((s.bump Reg.TS_CALL.REPLIES 1 n).wr Reg.TS_CALL_FRAME.FRAME s.frameNo n).wr Reg.CELL_STATE.NO_REPLY 0 n

/-- The identity kept for the comparison of both ends (R117). -/
def CellMem.heardFrom (c : CellMem) (lane x : Nat) : CellMem :=
  if lane % 2 = 0 then { c with xEven := some x } else { c with xOdd := some x }

theorem CellMem.heardFrom_replies (c : CellMem) (lane x : Nat) : (c.heardFrom lane x).replies = c.replies := by
  unfold CellMem.heardFrom
  split <;> rfl

theorem State.showFound_effect (s : State) (n : Nat) (b : List Byte) : Effect [] (some [Reg.TS_FOUND_LO.IDENTITY,
    Reg.TS_FOUND_HI.IDENTITY, Reg.TS_INFO.CLASS, Reg.TS_INFO.BYPASS_FITTED, Reg.TS_INFO.FIRMWARE]) s (s.showFound n b) := by
  unfold State.showFound State.wr64
  exact Effect.after (State.wr_effect ..) (by decide +kernel) <| Effect.after (State.wr_effect ..) (by decide +kernel) <|
    Effect.after (State.wr_effect ..) (by decide +kernel) <| Effect.after (State.wr_effect ..) (by decide +kernel) <|
    (State.wr_effect ..).widen (by decide +kernel)

theorem State.showFound_reads (hn : n < 1536) :
    (s.showFound n b).rd64 Reg.TS_FOUND_LO.IDENTITY Reg.TS_FOUND_HI.IDENTITY n = u64At b 8 ∧
      (s.showFound n b).rd Reg.TS_INFO.CLASS n = u8At b 4 % 4 ∧ (s.showFound n b).rd Reg.TS_INFO.FIRMWARE n = u16At b 6 := by
  unfold State.showFound
  extract_lets found info
  have hafter : Effect [] (some [Reg.TS_INFO.CLASS, Reg.TS_INFO.BYPASS_FITTED, Reg.TS_INFO.FIRMWARE]) found
      (info.wr Reg.TS_INFO.FIRMWARE (u16At b 6) n) :=
    Effect.after (State.wr_effect ..) (by decide +kernel) <| Effect.after (State.wr_effect ..) (by decide +kernel) <|
      (State.wr_effect ..).widen (by decide +kernel)
  refine ⟨?_, ?_, ?_⟩
  · rw [State.rd64, hafter.rd _ _ _ (by decide +kernel), hafter.rd _ _ _ (by decide +kernel)]
    exact (s.rd64_wr64 (u64At b 8) (by decide +kernel) ⟨Field.has_cell hn, by decide, rfl⟩ ⟨Field.has_cell hn, by decide, rfl⟩).trans
      (Nat.mod_eq_of_lt (u64At_lt b 8))
  · rw [State.rd_wr_apart _ _ _ _ _ _ (by decide +kernel), State.rd_wr_apart _ _ _ _ _ _ (by decide +kernel)]
    exact State.rd_wr_same _ _ _ _ _ (Field.has_cell hn) (by decide)
  · exact (State.rd_wr_same _ _ _ _ _ (Field.has_cell hn) (by decide)).trans (Nat.mod_eq_of_lt (u16At_lt b 6))

theorem State.showCalled_effect (s : State) (lane n q : Nat) : Effect [] (some [Reg.TS_CALL.Q_EVEN, Reg.TS_CALL.VALID_EVEN,
    Reg.TS_CALL.Q_ODD, Reg.TS_CALL.VALID_ODD]) s (s.showCalled lane n q) := by
  unfold State.showCalled
  exact Effect.ite
    (Effect.after (State.wr_effect ..) (by decide +kernel) ((State.wr_effect ..).widen (by decide +kernel)))
    (Effect.after (State.wr_effect ..) (by decide +kernel) ((State.wr_effect ..).widen (by decide +kernel)))

theorem State.countReply_effect (s : State) (n : Nat) : Effect [] (some [Reg.TS_CALL.REPLIES, Reg.TS_CALL_FRAME.FRAME,
    Reg.CELL_STATE.NO_REPLY]) s (s.countReply n) := by
  unfold State.countReply
  exact Effect.after (State.wr_effect ..) (by decide +kernel) <| Effect.after (State.wr_effect ..) (by decide +kernel) <|
    (State.bump_effect ..).widen (by decide +kernel)

theorem State.countReply_reads (hn : n < 1536) :
    (s.countReply n).rd Reg.TS_CALL.REPLIES n = min 255 (s.rd Reg.TS_CALL.REPLIES n + 1) ∧
      (s.countReply n).rd Reg.TS_CALL_FRAME.FRAME n = s.frameNo % 4294967296 ∧ (s.countReply n).rd Reg.CELL_STATE.NO_REPLY n = 0 := by
  unfold State.countReply
  refine ⟨?_, ?_, State.rd_wr_same _ _ _ _ _ (Field.has_cell hn) (by decide)⟩
  · rw [State.rd_wr_apart _ _ _ _ _ _ (by decide +kernel), State.rd_wr_apart _ _ _ _ _ _ (by decide +kernel)]
    exact s.rd_bump (Field.has_cell hn) (by decide)
  · rw [State.rd_wr_apart _ _ _ _ _ _ (by decide +kernel)]
    exact State.rd_wr_same _ _ _ _ _ (Field.has_cell hn) (by decide)

/-- The registers that a good reply shows itself in. -/
def State.replyShown (s : State) (lane n q : Nat) (b : List Byte) : State := ((s.showFound n b).showCalled lane n q).countReply n

/-- A reply of cell `n` with the bytes `b` stands in the team sheet of `t`, which follows from `s` (R107, R117). -/
structure ReplyShown (s t : State) (n : Nat) (b : List Byte) : Prop where
  identity : t.rd64 Reg.TS_FOUND_LO.IDENTITY Reg.TS_FOUND_HI.IDENTITY n = u64At b 8
  cls : t.rd Reg.TS_INFO.CLASS n = u8At b 4 % 4
  firmware : t.rd Reg.TS_INFO.FIRMWARE n = u16At b 6
  replies : t.rd Reg.TS_CALL.REPLIES n = min 255 (s.rd Reg.TS_CALL.REPLIES n + 1)
  frame : t.rd Reg.TS_CALL_FRAME.FRAME n = s.frameNo % 4294967296
  noReply : t.rd Reg.CELL_STATE.NO_REPLY n = 0

/-- The register fields in which a reply is read. -/
def replyFields : List Field := [Reg.TS_FOUND_LO.IDENTITY, Reg.TS_FOUND_HI.IDENTITY, Reg.TS_INFO.CLASS, Reg.TS_INFO.FIRMWARE,
  Reg.TS_CALL.REPLIES, Reg.TS_CALL_FRAME.FRAME, Reg.CELL_STATE.NO_REPLY]

theorem ReplyShown.after {A : List Part} {F : List Field} {t u : State} (h : ReplyShown s t n b) (k : Effect A (some F) t u)
    (hF : (replyFields.all fun f => F.all fun g => f.apart g) = true := by decide +kernel) : ReplyShown s u n b := by
  have hrd : ∀ f ∈ replyFields, u.rd f n = t.rd f n := fun f hf => k.rd f n 0 (List.all_eq_true.mp hF f hf)
  simp only [replyFields, List.forall_mem_cons] at hrd
  obtain ⟨hlo, hhi, hcls, hfirmware, hreplies, hframe, hnoReply, -⟩ := hrd
  exact ⟨by rw [State.rd64, hlo, hhi]; exact h.identity, hcls.trans h.cls, hfirmware.trans h.firmware, hreplies.trans h.replies,
    hframe.trans h.frame, hnoReply.trans h.noReply⟩

theorem ReplyShown.before {A : List Part} {F : List Field} {r t : State} (h : ReplyShown s t n b) (k : Effect A (some F) r s)
    (hF : ([Reg.TS_CALL.REPLIES, Reg.FRAME_NO.FRAME_NO].all fun f => F.all fun g => f.apart g) = true := by decide +kernel) :
    ReplyShown r t n b := by
  simp only [List.all_cons, List.all_nil, Bool.and_true, Bool.and_eq_true] at hF
  have hno : s.frameNo = r.frameNo := k.rd _ _ _ hF.2
  exact { h with replies := h.replies.trans (by rw [k.rd _ _ _ hF.1]), frame := h.frame.trans (by rw [hno]) }

theorem State.replyShown_effect (s : State) (lane n q : Nat) (b : List Byte) : Effect [] (some ([Reg.TS_FOUND_LO.IDENTITY,
    Reg.TS_FOUND_HI.IDENTITY, Reg.TS_INFO.CLASS, Reg.TS_INFO.BYPASS_FITTED, Reg.TS_INFO.FIRMWARE] ++ [Reg.TS_CALL.Q_EVEN,
    Reg.TS_CALL.VALID_EVEN, Reg.TS_CALL.Q_ODD, Reg.TS_CALL.VALID_ODD] ++ [Reg.TS_CALL.REPLIES, Reg.TS_CALL_FRAME.FRAME,
    Reg.CELL_STATE.NO_REPLY])) s (s.replyShown lane n q b) :=
  Effect.after (State.countReply_effect ..) (by decide +kernel) <| Effect.after (State.showCalled_effect ..) (by decide +kernel) <|
    (State.showFound_effect ..).widen (by decide +kernel)

theorem State.replyShown_reads (hn : n < 1536) : ReplyShown s (s.replyShown lane n q b) n b := by
  have hfound := s.showFound_effect n b
  have hcalled := (s.showFound n b).showCalled_effect lane n q
  have hcount := ((s.showFound n b).showCalled lane n q).countReply_effect n
  obtain ⟨hidentity, hcls, hfirmware⟩ := State.showFound_reads (s := s) (b := b) hn
  obtain ⟨hreplies, hframe, hnoReply⟩ := State.countReply_reads (s := (s.showFound n b).showCalled lane n q) hn
  have hno : ((s.showFound n b).showCalled lane n q).frameNo = s.frameNo :=
    (hcalled.rd _ _ _ (by decide +kernel)).trans (hfound.rd _ _ _ (by decide +kernel))
  refine ⟨?_, ?_, ?_, ?_, hframe.trans (by rw [hno]), hnoReply⟩
  · rw [State.rd64, State.replyShown, hcount.rd _ _ _ (by decide +kernel), hcount.rd _ _ _ (by decide +kernel),
      hcalled.rd _ _ _ (by decide +kernel), hcalled.rd _ _ _ (by decide +kernel)]
    exact hidentity
  · exact (hcount.rd _ _ _ (by decide +kernel)).trans ((hcalled.rd _ _ _ (by decide +kernel)).trans hcls)
  · exact (hcount.rd _ _ _ (by decide +kernel)).trans ((hcalled.rd _ _ _ (by decide +kernel)).trans hfirmware)
  · exact hreplies.trans (by rw [hcalled.rd _ _ _ (by decide +kernel), hfound.rd _ _ _ (by decide +kernel)])

/-! ### A good reply is entered (R107, R117) -/

variable {h : Nat}

/-- Beside its registers a good reply is noted at its cell, leaves the queue of its chain, and waits for the rank window. -/
theorem State.goodReply_stages (s : State) (cc : ChainCfg) (lane h q : Nat) (ident : Bool) (b : List Byte) :
    ∃ (r : Reply) (f : ChainSt → ChainSt), r.ident = u64At b 8 ∧ r.cls = u8At b 4 ∧ (∀ x, (f x).call = x.call) ∧
      s.goodReply cc lane h q ident b = ((((s.replyShown lane (cc.base + h) q b).modCell (cc.base + h)
        fun c => c.heardFrom lane (u64At b 8)).modChain cc.chain f).showQueued cc h).modCell (cc.base + h)
          fun c => { c with called := true, replies := c.replies ++ [r] } := by
  refine ⟨_, _, ?_, ?_, ?_, rfl⟩
  · rfl
  · rfl
  · exact fun x => rfl

theorem State.goodReply_does (hn : cc.base + h < 1536) (ident : Bool) {u : State} (hu : u = s.goodReply cc lane h q ident b) :
    ReplyShown s u (cc.base + h) b ∧
      (∃ r, (u.cell (cc.base + h)).replies = (s.cell (cc.base + h)).replies ++ [r] ∧ r.ident = u64At b 8 ∧ r.cls = u8At b 4) ∧
      (u.cell (cc.base + h)).called = true ∧ (∀ i, i ≠ cc.base + h → u.cell i = s.cell i) ∧
      (u.chain cc.chain).call = (s.chain cc.chain).call := by
  obtain ⟨r, f, hident, hcls, hcall, hstages⟩ := s.goodReply_stages cc lane h q ident b
  rw [hstages] at hu
  have hreads := State.replyShown_reads (s := s) (lane := lane) (q := q) (b := b) hn
  have hshown := s.replyShown_effect lane (cc.base + h) q b
  generalize s.replyShown lane (cc.base + h) q b = shown at *
  let noted := shown.modCell (cc.base + h) fun c => c.heardFrom lane (u64At b 8)
  let left := (noted.modChain cc.chain f).showQueued cc h
  have hleft : Effect [.chains] (some [Reg.CELL_STATE.CALL_QUEUED]) noted left :=
    Effect.after (State.showQueued_effect ..) (by decide +kernel) ((State.modChain_effect ..).widen (by decide +kernel))
  have hqueue : Effect [] (some [Reg.CELL_STATE.CALL_QUEUED]) (noted.modChain cc.chain f) left := State.showQueued_effect ..
  have hnoted : noted.cell (cc.base + h) = (s.cell (cc.base + h)).heardFrom lane (u64At b 8) := by
    rw [State.modCell_same, hshown.cell]
  subst hu
  refine ⟨?_, ⟨r, ?_, hident, hcls⟩, ?_, fun i hi => ?_, ?_⟩
  · exact ((hreads.after (State.modCell_effect ..)).after hleft).after (State.modCell_effect ..)
  · rw [State.modCell_same, hleft.cell, hnoted, CellMem.heardFrom_replies]
  · rw [State.modCell_same]
  · rw [State.modCell_other _ _ _ hi, hleft.cell, State.modCell_other _ _ _ hi, hshown.cell]
  · refine (congrArg ChainSt.call ((State.modCell_effect left _ _).chain cc.chain)).trans ?_
    rw [hqueue.chain, State.modChain_same, hcall]
    exact congrArg ChainSt.call (hshown.chain cc.chain)

end

/-! ### Unrostered nodes (R121) -/

theorem State.foundExtra_does {s : State} {c : Nat} (hc : c < 48) (hfirst : (s.chain c).extra = false) :
    ((s.foundExtra c).chain c).extra = true ∧ (s.foundExtra c).rd Reg.CELL_EVENT.UNROSTERED = 1 ∧
      (s.foundExtra c).rd Reg.LANE_EVENT.UNROSTERED (2 * c) = 1 := by
  unfold State.foundExtra
  rw [if_neg (by simp [hfirst])]
  extract_lets held noted
  have hnoted : Effect [] (some [Reg.CELL_UNROSTERED_LO.CHAINS, Reg.CELL_UNROSTERED_HI.CHAINS]) held noted :=
    Effect.ite ((State.evBit_effect ..).widen (by decide +kernel)) ((State.evBit_effect ..).widen (by decide +kernel))
  let told := (noted.wr Reg.LANE_EVENT.UNROSTERED 1 (2 * c)).wr Reg.CELL_EVENT.UNROSTERED 1
  have htold : Effect [] (some [Reg.LANE_EVENT.UNROSTERED, Reg.CELL_EVENT.UNROSTERED]) noted told :=
    Effect.after (State.wr_effect ..) (by decide +kernel) ((State.wr_effect ..).widen (by decide +kernel))
  have hraise : Effect State.raise_touch State.raise_fields told (told.raise 16 c) := State.raise_effect ..
  refine ⟨?_, ?_, ?_⟩
  · rw [hraise.chain, htold.chain, hnoted.chain, State.modChain_same]
  · exact (hraise.rd _ _ _ (by decide +kernel)).trans (State.rd_wr_same _ _ _ _ _ rfl (by decide))
  · refine (hraise.rd _ _ _ (by decide +kernel)).trans ((State.rd_wr_apart _ _ _ _ _ _ (by decide +kernel)).trans ?_)
    exact State.rd_wr_same _ _ _ _ _ (Field.has_even hc) (by decide)

/-! ### Replies -/

section
variable {s : State} {cc : ChainCfg} {k : Call} {lane rt : Nat} {b : List Byte}

/-- A good reply to the call `k` that its chain has in flight, at the lane end that sent it (R107). -/
structure State.Answers (s : State) (lane : Nat) (b : List Byte) (cc : ChainCfg) (k : Call) : Prop where
  chain : s.chainCfg (lane / 2) = some cc
  call : (s.chain (lane / 2)).call = some k
  hears : s.laneHears lane = true
  lane : k.lane = lane
  named : k.target = none ∨ k.target = some (u8At b 5)
  crc : crc16 (slice b 1 29) = u16At b 30

theorem State.Answers.elapse (h : s.Answers lane b cc k) (t : Nat) : (s.elapse t).Answers lane b cc k :=
  { h with
    chain := (s.elapse_chainCfg t _).trans h.chain
    call := by rw [s.elapse_chain, h.call]
    hears := (s.elapse_laneHears t _).trans h.hears }

/-- The time that a node takes to turn a call round (Table 04-6). -/
def Call.turn (k : Call) (q : Nat) : Nat := if k.target = none then 400 + 160 * q else 400

/-- A call that has been answered from end position `q`, with the delay that its round trip gives. -/
def State.callAnswered (s : State) (c lane q rt : Nat) (k : Call) : State :=
  (s.modChain c fun x => { x with call := some { k with answered := true, got := setBit k.got q } }).setDelay lane q
    (some ((rt - k.turn q) / 2))

theorem State.callupReply_eq (h : s.Answers lane b cc k) : s.callupReply lane rt b =
    (if u8At b 1 < cc.cells then (s.callAnswered (lane / 2) lane (u8At b 5) rt k).goodReply cc lane (u8At b 1) (u8At b 5) k.ident b
      else (s.callAnswered (lane / 2) lane (u8At b 5) rt k).when k.target.isNone (·.foundExtra (lane / 2))).when k.target.isSome
        (·.endSweep lane) := by
  have hturn : k.turn (u8At b 5) = if k.target.isSome then 400 else 400 + 160 * u8At b 5 := by
    unfold Call.turn
    cases k.target <;> rfl
  have hnumber := State.chainCfg_chain h.chain
  have hcall : (s.chain cc.chain).call = some k := by rw [hnumber, h.call]
  unfold State.callupReply
  rw [h.chain]
  simp only [hcall]
  rw [if_neg]
  · rw [hnumber, State.callAnswered, hturn]
  · rcases h.named with ht | ht <;> simp [h.hears, h.lane, h.crc, ht]

theorem State.callupReply_ignored (h : s.chainCfg (lane / 2) = none ∨ (s.chain (lane / 2)).call = none ∨ s.laneHears lane = false ∨
    crc16 (slice b 1 29) ≠ u16At b 30 ∨
    ∃ k, (s.chain (lane / 2)).call = some k ∧ (k.lane ≠ lane ∨ ∃ q, k.target = some q ∧ q ≠ u8At b 5)) : s.callupReply lane rt b = s := by
  unfold State.callupReply
  split
  · rename_i cc hchain
    rw [State.chainCfg_chain hchain]
    split
    · rename_i k hcall
      refine if_pos ?_
      simp only [hchain, hcall, reduceCtorEq, false_or, Option.some.injEq, exists_eq_left'] at h
      rcases h with h | h | h | ⟨q, ht, hq⟩
      · simp [h]
      · simp [h]
      · simp [h]
      · simp [ht, Ne.symm hq]
    · rfl
  · rfl

theorem State.setDelay_reads {q : Nat} (hlane : lane < 96) (hq : q < 32) (d : Nat) :
    (s.setDelay lane q (some d)).rd Reg.LANE_DELAY.D lane q = d % 65536 ∧ (s.setDelay lane q (some d)).rd Reg.LANE_DELAY.VALID lane q = 1 := by
  have hhas : Reg.LANE_DELAY.D.has lane q = true ∧ Reg.LANE_DELAY.VALID.has lane q = true := by
    simp [Field.has, Reg.LANE_DELAY.D, Reg.LANE_DELAY.VALID, hlane, hq]
  unfold State.setDelay
  rw [if_neg (by omega)]
  extract_lets measured
  have hafter : Effect [.faults, .lanes] (some (State.planLane_fields.getD [] ++ [Reg.LANE_STATUS.STATE])) measured
      ((measured.planLane lane).showLane lane) :=
    Effect.after (State.showLane_effect ..) (by decide +kernel) ((State.planLane_effect ..).widen (by decide +kernel))
  rw [hafter.rd _ _ _ (by decide +kernel), hafter.rd _ _ _ (by decide +kernel)]
  constructor
  · exact (State.rd_wr_apart _ _ _ _ _ _ (by decide +kernel)).trans (State.rd_wr_same _ _ _ _ _ hhas.1 (by decide))
  · exact State.rd_wr_same _ _ _ _ _ hhas.2 (by decide)

theorem State.callAnswered_effect (s : State) (c lane q rt : Nat) (k : Call) :
    Effect [.faults, .lanes, .chains] State.setDelay_fields s (s.callAnswered c lane q rt k) :=
  Effect.after (State.setDelay_effect ..) (by decide +kernel) ((State.modChain_effect ..).widen (by decide +kernel))

theorem State.callAnswered_chain (s : State) (c lane q rt : Nat) (k : Call) : (s.callAnswered c lane q rt k).chain c =
    { s.chain c with call := some { k with answered := true, got := setBit k.got q } } := by
  unfold State.callAnswered
  rw [(State.setDelay_effect ..).chain, State.modChain_same]

/-- A good reply of a declared position (R107, R117). -/
theorem State.callupReply_enters (hlane : lane < 96) (h : s.Answers lane b cc k) (hcells : u8At b 1 < cc.cells)
    (hcell : cc.base + u8At b 1 < 1536) {n : State} (hn : n = s.callupReply lane rt b) :
    (u8At b 5 < 32 → n.rd Reg.LANE_DELAY.D lane (u8At b 5) = (rt - k.turn (u8At b 5)) / 2 % 65536 ∧
        n.rd Reg.LANE_DELAY.VALID lane (u8At b 5) = 1) ∧
      ReplyShown s n (cc.base + u8At b 1) b ∧
      (∃ r, (n.cell (cc.base + u8At b 1)).replies = (s.cell (cc.base + u8At b 1)).replies ++ [r] ∧ r.ident = u64At b 8 ∧
        r.cls = u8At b 4) ∧
      (n.cell (cc.base + u8At b 1)).called = true ∧ (∀ i, i ≠ cc.base + u8At b 1 → n.cell i = s.cell i) ∧
      (n.chain (lane / 2)).call = some { k with answered := true, got := setBit k.got (u8At b 5) } := by
  rw [State.callupReply_eq h, if_pos hcells] at hn
  have hanswered := s.callAnswered_effect (lane / 2) lane (u8At b 5) rt k
  have hchain := s.callAnswered_chain (lane / 2) lane (u8At b 5) rt k
  have hdelay : u8At b 5 < 32 → (s.callAnswered (lane / 2) lane (u8At b 5) rt k).rd Reg.LANE_DELAY.D lane (u8At b 5) =
        (rt - k.turn (u8At b 5)) / 2 % 65536 ∧
      (s.callAnswered (lane / 2) lane (u8At b 5) rt k).rd Reg.LANE_DELAY.VALID lane (u8At b 5) = 1 :=
    fun hq => State.setDelay_reads hlane hq _
  generalize s.callAnswered (lane / 2) lane (u8At b 5) rt k = answered at *
  obtain ⟨hshown, ⟨r, hreply, hr⟩, hcalled, hcells', hcall⟩ := State.goodReply_does (s := answered) (lane := lane) (q := u8At b 5) (b := b)
    hcell k.ident rfl
  have hentered := answered.goodReply_effect cc lane (u8At b 1) (u8At b 5) k.ident b
  generalize answered.goodReply cc lane (u8At b 1) (u8At b 5) k.ident b = entered at *
  have hend : Effect State.endSweep_touch State.endSweep_fields entered n := by
    subst hn
    exact Effect.when (.refl ..) fun u => State.endSweep_effect ..
  refine ⟨fun hq => ?_, (hshown.before hanswered).after hend, ⟨r, ?_, hr⟩, ?_, fun i hi => ?_, ?_⟩
  · rw [hend.rd _ _ _ (by decide +kernel), hend.rd _ _ _ (by decide +kernel), hentered.rd _ _ _ (by decide +kernel),
      hentered.rd _ _ _ (by decide +kernel)]
    exact hdelay hq
  · rw [hend.cell, hreply, hanswered.cell]
  · rw [hend.cell, hcalled]
  · rw [hend.cell, hcells' i hi, hanswered.cell]
  · rw [State.chainCfg_chain h.chain, hchain] at hcall
    rw [hend.chain, hcall]

/-- A good reply to an all-call of a node beyond the declared positions (R121). -/
theorem State.callupReply_extra (hlane : lane < 96) (h : s.Answers lane b cc k) (hall : k.target = none) (hcells : cc.cells ≤ u8At b 1)
    (hfirst : (s.chain (lane / 2)).extra = false) {n : State} (hn : n = s.callupReply lane rt b) : n.cells = s.cells ∧
      (n.chain (lane / 2)).extra = true ∧ n.rd Reg.CELL_EVENT.UNROSTERED = 1 ∧ n.rd Reg.LANE_EVENT.UNROSTERED (2 * (lane / 2)) = 1 := by
  rw [State.callupReply_eq h, if_neg (Nat.not_lt.mpr hcells), hall] at hn
  have hanswered := s.callAnswered_effect (lane / 2) lane (u8At b 5) rt k
  have hchain := s.callAnswered_chain (lane / 2) lane (u8At b 5) rt k
  generalize s.callAnswered (lane / 2) lane (u8At b 5) rt k = answered at *
  have hfound : n = answered.foundExtra (lane / 2) := hn
  subst hfound
  obtain ⟨hextra, hevent, hlaneEvent⟩ := State.foundExtra_does (s := answered) (c := lane / 2) (by omega) (by rw [hchain, hfirst])
  exact ⟨((State.foundExtra_effect ..).same .cells (by decide)).trans (hanswered.same .cells (by decide)), hextra, hevent, hlaneEvent⟩

end

/-! ### A train that returns (R107, R108) -/

section
variable {s : State} {cc : ChainCfg} {k : Call} {lane loop hop : Nat}

/-- The loop delay and the nodes of a chain, as a train that returned from lane end `k.lane` has shown them. -/
def State.loopShown (s : State) (c loop hop : Nat) (k : Call) : State :=
  ((s.wr Reg.LANE_LOOP.LOOP_NS loop (2 * c)).wr Reg.LANE_CHAIN.PHYS hop (2 * c)).when (decide (k.lane % 2 = 0))
    (·.wr Reg.LANE_CHAIN.LOOPED 1 (2 * c))

theorem State.loopShown_effect (s : State) (c loop hop : Nat) (k : Call) :
    Effect [] (some [Reg.LANE_LOOP.LOOP_NS, Reg.LANE_CHAIN.PHYS, Reg.LANE_CHAIN.LOOPED]) s (s.loopShown c loop hop k) :=
  Effect.when (Effect.after (State.wr_effect ..) (by decide +kernel) ((State.wr_effect ..).widen (by decide +kernel)))
    fun u => (State.wr_effect ..).widen (by decide +kernel)

theorem State.loopShown_reads {c : Nat} (hc : c < 48) : (s.loopShown c loop hop k).rd Reg.LANE_LOOP.LOOP_NS (2 * c) = loop % 65536 ∧
    (s.loopShown c loop hop k).rd Reg.LANE_CHAIN.PHYS (2 * c) = hop % 64 ∧
    (s.loopShown c loop hop k).rd Reg.LANE_CHAIN.LOOPED (2 * c) =
      (if k.lane % 2 = 0 then 1 else s.rd Reg.LANE_CHAIN.LOOPED (2 * c)) := by
  let counted := (s.wr Reg.LANE_LOOP.LOOP_NS loop (2 * c)).wr Reg.LANE_CHAIN.PHYS hop (2 * c)
  have hlast : Effect [] (some [Reg.LANE_CHAIN.LOOPED]) counted (s.loopShown c loop hop k) :=
    Effect.when (.refl ..) fun u => State.wr_effect ..
  refine ⟨?_, ?_, ?_⟩
  · refine (hlast.rd _ _ _ (by decide +kernel)).trans ((State.rd_wr_apart _ _ _ _ _ _ (by decide +kernel)).trans ?_)
    exact State.rd_wr_same _ _ _ _ _ (Field.has_even hc) (by decide)
  · exact (hlast.rd _ _ _ (by decide +kernel)).trans (State.rd_wr_same _ _ _ _ _ (Field.has_even hc) (by decide))
  · unfold State.loopShown State.when
    simp only [decide_eq_true_eq]
    split
    · exact State.rd_wr_same _ _ _ _ _ (Field.has_even hc) (by decide)
    · rw [State.rd_wr_apart _ _ _ _ _ _ (by decide +kernel), State.rd_wr_apart _ _ _ _ _ _ (by decide +kernel)]

theorem State.callupLoop_eq (hchain : s.chainCfg (lane / 2) = some cc) (hcall : (s.chain (lane / 2)).call = some k)
    (hears : s.laneHears lane = true) (hother : k.lane ≠ lane) (hall : k.target = none) : s.callupLoop lane loop hop =
      ((s.loopShown (lane / 2) loop hop k).when (decide (cc.cells < hop)) (·.foundExtra (lane / 2))).planChain (lane / 2) := by
  have hnumber := State.chainCfg_chain hchain
  unfold State.callupLoop
  rw [hchain]
  simp only [hnumber, hcall]
  exact if_neg (by simp [hears, hother, hall])

theorem State.callupLoop_ignored (h : s.chainCfg (lane / 2) = none ∨ (s.chain (lane / 2)).call = none ∨ s.laneHears lane = false) :
    s.callupLoop lane loop hop = s := by
  unfold State.callupLoop
  split
  · rename_i cc hchain
    rw [State.chainCfg_chain hchain]
    split
    · rename_i k hcall
      refine if_pos ?_
      simp only [hchain, hcall, reduceCtorEq, false_or] at h
      simp [h]
    · rfl
  · rfl

theorem State.callupLoop_does (hlane : lane < 96) (hchain : s.chainCfg (lane / 2) = some cc) (hcall : (s.chain (lane / 2)).call = some k)
    (hears : s.laneHears lane = true) (hother : k.lane ≠ lane) (hall : k.target = none) {n : State} (hn : n = s.callupLoop lane loop hop) :
    n.rd Reg.LANE_LOOP.LOOP_NS (2 * (lane / 2)) = loop % 65536 ∧ n.rd Reg.LANE_CHAIN.PHYS (2 * (lane / 2)) = hop % 64 ∧
      n.rd Reg.LANE_CHAIN.LOOPED (2 * (lane / 2)) = (if k.lane % 2 = 0 then 1 else s.rd Reg.LANE_CHAIN.LOOPED (2 * (lane / 2))) ∧
      (cc.cells < hop → (s.chain (lane / 2)).extra = false → (n.chain (lane / 2)).extra = true ∧ n.rd Reg.CELL_EVENT.UNROSTERED = 1 ∧
        n.rd Reg.LANE_EVENT.UNROSTERED (2 * (lane / 2)) = 1) ∧
      (hop ≤ cc.cells → n.chains = s.chains) := by
  rw [State.callupLoop_eq hchain hcall hears hother hall] at hn
  have hc : lane / 2 < 48 := by omega
  obtain ⟨hloop, hphys, hlooped⟩ := State.loopShown_reads (s := s) (loop := loop) (hop := hop) (k := k) hc
  have hshown := s.loopShown_effect (lane / 2) loop hop k
  generalize s.loopShown (lane / 2) loop hop k = shown at *
  let found := shown.when (decide (cc.cells < hop)) (·.foundExtra (lane / 2))
  have hfound : Effect State.foundExtra_touch State.foundExtra_fields shown found :=
    Effect.when (.refl ..) fun u => State.foundExtra_effect ..
  have hplan : Effect State.planChain_touch State.planChain_fields found n := hn ▸ State.planChain_effect ..
  have hrd : ∀ f ∈ [Reg.LANE_LOOP.LOOP_NS, Reg.LANE_CHAIN.PHYS, Reg.LANE_CHAIN.LOOPED], ∀ i, n.rd f i = shown.rd f i :=
    fun f hf i => (hplan.rd f i 0 (by revert f; decide +kernel)).trans (hfound.rd f i 0 (by revert f; decide +kernel))
  refine ⟨(hrd _ (by simp) _).trans hloop, (hrd _ (by simp) _).trans hphys, (hrd _ (by simp) _).trans hlooped, fun hmore hfirst => ?_,
    fun hless => ?_⟩
  · have hextra : found = shown.foundExtra (lane / 2) := if_pos (by simpa using hmore)
    rw [hplan.chain, hplan.rd _ _ _ (by decide +kernel), hplan.rd _ _ _ (by decide +kernel), hextra]
    exact State.foundExtra_does hc (by rw [hshown.chain, hfirst])
  · have hnone : found = shown := if_neg (by simpa using hless)
    rw [hplan.same .chains (by decide), hnone, hshown.same .chains (by decide)]

end

/-! ### A call leaves (R88, R106, R109, R116) -/

section
variable {s : State} {cc : ChainCfg}

/-- A targeted call: it is in flight, and its header has left where the lane may send. -/
theorem State.launch_does (lane q : Nat) (ident bad : Bool) {n : State} (hn : n = s.launch lane (some q) ident bad) :
    n.chain (lane / 2) =
        { s.chain (lane / 2) with call := some ⟨lane, some q, s.callBase lane false, s.frameNo, ident, false, 0⟩ } ∧
      (∀ k, k ≠ lane / 2 → n.chain k = s.chain k) ∧
      (s.laneSends lane = true →
        n.out = s.out ++ [.call lane (s.callBytes lane q (s.callBase lane false) (s.chainSafeBlock (lane / 2) != bad))]) := by
  let sent := s.when (s.laneSends lane)
    (·.emit (.call lane (s.callBytes lane q (s.callBase lane false) (s.chainSafeBlock (lane / 2) != bad))))
  have hsent : Effect [.out] (some []) s sent := Effect.when (.refl ..) fun u => State.emit_effect ..
  have hno : sent.frameNo = s.frameNo := hsent.rd _ _ _ rfl
  have hlaunch : n = sent.modChain (lane / 2) fun x =>
      { x with call := some ⟨lane, some q, s.callBase lane false, sent.frameNo, ident, false, 0⟩ } := hn
  rw [hno] at hlaunch
  subst hlaunch
  refine ⟨?_, fun k hk => (State.modChain_other _ _ _ hk).trans (hsent.chain k), fun hsends => ?_⟩
  · rw [State.modChain_same, hsent.chain]
  · have hemit : sent = s.emit (.call lane (s.callBytes lane q (s.callBase lane false) (s.chainSafeBlock (lane / 2) != bad))) := if_pos hsends
    rw [State.modChain_out, hemit, State.emit_out]

/-- A chain that may send a call in this frame (R109, R116). -/
structure State.MayCall (s : State) (c : Nat) : Prop where
  heard : s.pairMute = false
  run : s.device = stRun
  frozen : s.fr.phase ≠ .open
  ticks : s.fr.phase ≠ .stopped
  free : (s.chain c).call = none
  even : s.rd Reg.LANE_STATUS.CHAIN_LATE (2 * c) = 0
  odd : s.rd Reg.LANE_STATUS.CHAIN_LATE (2 * c + 1) = 0

theorem State.elapse_pairMute (s : State) (t : Nat) : (s.elapse t).pairMute = s.pairMute := by
  simp only [State.pairMute, s.elapse_on t (f := Reg.REF_PAIR.ENABLED) (i := 0) (j := 0) (by decide +kernel),
    s.elapse_on t (f := Reg.REF_PAIR.HOLDS) (i := 0) (j := 0) (by decide +kernel)]

theorem State.MayCall.elapse {c : Nat} (h : s.MayCall c) (t : Nat) : (s.elapse t).MayCall c :=
  ⟨(s.elapse_pairMute t).trans h.heard, (s.elapse_device t).trans h.run, by rw [s.elapse_phase]; exact h.frozen,
    by rw [s.elapse_phase]; exact h.ticks, by rw [s.elapse_chain, h.free], (s.elapse_rd t _ _ _ (by decide +kernel)).trans h.even,
    (s.elapse_rd t _ _ _ (by decide +kernel)).trans h.odd⟩

theorem State.MayCall.guard {c : Nat} (h : s.MayCall c) : ¬(s.device ≠ stRun ∨ s.fr.phase = .open ∨ s.fr.phase = .stopped ∨
    (s.chain c).call.isSome ∨ (s.on Reg.LANE_STATUS.CHAIN_LATE (2 * c) || s.on Reg.LANE_STATUS.CHAIN_LATE (2 * c + 1)) ∨ s.pairMute) := by
  simp [h.run, h.frozen, h.ticks, h.free, h.heard, State.on, h.even, h.odd]

/-- An identity call at the head of its chain's queue, marked as sent in this frame. -/
def State.idCallFirst (s : State) (c : Nat) (x : IdCall) : State :=
  s.modChain c fun z => { z with calls := { x with frame := s.frameNo } :: z.calls.filter fun y => y != x }

theorem State.idCallFirst_does (s : State) (c : Nat) (x : IdCall) :
    (s.idCallFirst c x).chain c =
        { s.chain c with calls := { x with frame := s.frameNo } :: (s.chain c).calls.filter fun y => y != x } ∧
      (∀ k, k ≠ c → (s.idCallFirst c x).chain k = s.chain k) ∧ Effect [.chains] (some []) s (s.idCallFirst c x) :=
  ⟨State.modChain_same .., fun _ hk => State.modChain_other _ _ _ hk, State.modChain_effect ..⟩

theorem State.callupLaunch_identity (h : s.MayCall cc.chain) {x : IdCall}
    (hfind : (s.chain cc.chain).calls.find? (fun y => y.frame != s.frameNo) = some x) (bad : Bool) :
    s.callupLaunch cc bad = (s.idCallFirst cc.chain x).launch x.lane (some (s.endPos x.lane x.h)) true bad := by
  unfold State.callupLaunch
  refine (if_neg h.guard).trans ?_
  rw [hfind]
  rfl

/-- A sweep whose next end position is taken. -/
def State.sweepNext (s : State) (lane q : Nat) : State := s.modLane lane fun l => { l with sweep := some (q + 1) }

theorem State.sweepNext_does (s : State) (lane q : Nat) : ((s.sweepNext lane q).lane lane).sweep = some (q + 1) ∧
    (∀ k, ((s.sweepNext lane q).lane k).sliceOut = (s.lane k).sliceOut) ∧ (∀ k, k ≠ lane → (s.sweepNext lane q).lane k = s.lane k) ∧
    Effect [.lanes] (some []) s (s.sweepNext lane q) := by
  have hothers : ∀ k, k ≠ lane → (s.sweepNext lane q).lane k = s.lane k := fun k hk => State.modLane_other _ _ _ hk
  have hsame : (s.sweepNext lane q).lane lane = { s.lane lane with sweep := some (q + 1) } := State.modLane_same ..
  refine ⟨by rw [hsame], fun k => ?_, hothers, State.modLane_effect ..⟩
  by_cases hk : k = lane
  · rw [hk, hsame]
  · rw [hothers k hk]

theorem State.callupLaunch_sweep (h : s.MayCall cc.chain)
    (hfind : (s.chain cc.chain).calls.find? (fun y => y.frame != s.frameNo) = none) {q : Nat}
    (hsweep : (s.lane (2 * cc.chain)).sweep = some q) (hq : q < s.phys cc.chain) (bad : Bool) :
    s.callupLaunch cc bad = (s.sweepNext (2 * cc.chain) q).launch (2 * cc.chain) (some q) false bad := by
  unfold State.callupLaunch
  refine (if_neg h.guard).trans ?_
  rw [hfind]
  simp only [List.find?_cons, hsweep, decide_eq_true hq, Option.getD_some]
  rfl

theorem State.callupLaunch_ignored (h : s.pairMute = true ∨ s.device ≠ stRun ∨ s.fr.phase = .open ∨ s.fr.phase = .stopped ∨
    (s.chain cc.chain).call.isSome = true ∨ s.rd Reg.LANE_STATUS.CHAIN_LATE (2 * cc.chain) ≠ 0 ∨
    s.rd Reg.LANE_STATUS.CHAIN_LATE (2 * cc.chain + 1) ≠ 0) (bad : Bool) : s.callupLaunch cc bad = s :=
  if_pos (by rcases h with h | h | h | h | h | h | h <;> simp [h, State.on])

end

/-! ### The commands -/

theorem exec_callupReply (s : State) (lane : Fin 96) (rt t : Nat) (b : List Byte) :
    exec (.callupReply lane rt b t) s = done ((s.elapse t).callupReply lane.val rt b) := rfl

theorem exec_callupLoop (s : State) (lane : Fin 96) (loop hop t : Nat) :
    exec (.callupLoop lane loop hop t) s = done ((s.elapse t).callupLoop lane.val loop hop) := rfl

section
variable {s u : State} {c : Fin 48} {cc : ChainCfg} {bad : Bool} {t : Nat}

/-- A call that leaves; what a header with the wrong SAFE_BLOCK brings about leaves lane ends and chains alone (R94, R302). -/
theorem exec_callupLaunch_sends (hchain : s.chainCfg c.val = some cc) (hfree : (s.chain cc.chain).call = none)
    (hu : (s.elapse t).callupLaunch cc bad = u) {k : Call} (hcall : (u.chain cc.chain).call = some k) :
    ∃ n, exec (.callupLaunch ⟨c, bad⟩ t) s = .next n ∧ n.lanes = u.lanes ∧ n.chains = u.chains ∧ u.out <+: n.out := by
  have hexec : exec (.callupLaunch ⟨c, bad⟩ t) s = done (u.when (bad && u.laneSends k.lane) (·.diagFail false 3)) := by
    show execCallupLaunch ⟨c, bad⟩ t s = _
    unfold execCallupLaunch
    simp only [s.elapse_chainCfg, hchain, s.elapse_chain, hfree, hu, hcall]
  have hdiag : Effect State.diagFail_touch State.diagFail_fields u (u.when (bad && u.laneSends k.lane) (·.diagFail false 3)) :=
    Effect.when (.refl ..) fun v => State.diagFail_effect ..
  have hsettle := State.settle_effect (u.when (bad && u.laneSends k.lane) (·.diagFail false 3))
  exact ⟨_, hexec, (hsettle.same .lanes (by decide)).trans (hdiag.same .lanes (by decide)),
    (hsettle.same .chains (by decide)).trans (hdiag.same .chains (by decide)), hdiag.log.trans hsettle.log⟩

/-- A targeted call of the chain leaves from the state `v`, whose queue or sweep it was taken from. -/
theorem exec_callupLaunch_target (hchain : s.chainCfg c.val = some cc) (hfree : (s.chain c.val).call = none) {v : State} {lane q : Nat}
    {ident : Bool} (hlaunch : (s.elapse t).callupLaunch cc bad = v.launch lane (some q) ident bad) (hlane : lane / 2 = c.val) :
    ∃ n, exec (.callupLaunch ⟨c, bad⟩ t) s = .next n ∧
      n.chain c.val = { v.chain c.val with call := some ⟨lane, some q, v.callBase lane false, v.frameNo, ident, false, 0⟩ } ∧
      (∀ k, k ≠ c.val → n.chain k = v.chain k) ∧ n.lanes = v.lanes ∧ (v.laneSends lane = true →
        v.out ++ [.call lane (v.callBytes lane q (v.callBase lane false) (v.chainSafeBlock c.val != bad))] <+: n.out) := by
  have hnumber := State.chainCfg_chain hchain
  obtain ⟨hcall, hothers, hout⟩ := State.launch_does (s := v) lane q ident bad rfl
  have hlanes := (v.launch_effect lane (some q) ident bad).same .lanes (by decide)
  rw [hlane] at hcall hothers hout
  obtain ⟨n, hexec, hl, hc, hlog⟩ := exec_callupLaunch_sends hchain (by rw [hnumber, hfree]) hlaunch (by rw [hnumber, hcall])
  have hn : ∀ k, n.chain k = (v.launch lane (some q) ident bad).chain k := fun k => congrArg (Tbl.look default · k) hc
  exact ⟨n, hexec, (hn _).trans hcall, fun k hk => (hn k).trans (hothers k hk), hl.trans hlanes, fun hsends => hout hsends ▸ hlog⟩

theorem exec_callupLaunch_ignored (h : ∀ cc, s.chainCfg c.val = some cc → (s.elapse t).callupLaunch cc bad = s.elapse t) :
    exec (.callupLaunch ⟨c, bad⟩ t) s = done (s.elapse t) := by
  show execCallupLaunch ⟨c, bad⟩ t s = _
  unfold execCallupLaunch
  simp only [s.elapse_chainCfg]
  split
  · rename_i cc hchain
    rw [h cc hchain]
    cases ((s.elapse t).chain cc.chain).call <;> rfl
  · rfl

end

/-- Settles O20: a reply, a returning train and a launch, each by the stages of its operation at the command's instant. -/
theorem callsMeasureDelaysAndIdentities : Obligations.CallsMeasureDelaysAndIdentities := by
  unfold Obligations.CallsMeasureDelaysAndIdentities
  refine ⟨?reply, ?extra, ?noReply, ?loop, ?noLoop, ?identity, ?sweep, ?noCall⟩
  case reply =>
    intro s lane rt t b cc k hchain hcall hears hlane hnamed hcrc hcells hcell
    obtain ⟨hdelay, hshown, ⟨r, hreply, hr⟩, hcalled, hothers, hanswered⟩ := State.callupReply_enters (rt := rt) lane.isLt
      (State.Answers.elapse ⟨hchain, hcall, hears, hlane, hnamed, hcrc⟩ t) hcells hcell rfl
    obtain ⟨hidentity, hcls, hfirmware, hreplies, hframe, hnoReply⟩ :=
      (hshown.before (State.elapse_effect s t)).after (State.settle_effect _)
    refine ⟨_, exec_callupReply s lane rt t b, fun hq => ?_, hidentity, hcls, hfirmware, hreplies, hframe, hnoReply, ⟨r, ?_, hr⟩, ?_,
      fun i hi => ?_, ?_, Effect.of_exec (execCallupReply_effect lane rt b t s) rfl (by decide) (by decide +kernel)⟩
    · rw [State.settle_rd _ _ _ _ (by decide +kernel), State.settle_rd _ _ _ _ (by decide +kernel)]
      exact hdelay hq
    · rw [State.settle_cell, hreply, s.elapse_cell]
    · rw [State.settle_cell, hcalled]
    · rw [State.settle_cell, hothers i hi, s.elapse_cell]
    · rw [State.settle_chain, hanswered]
  case extra =>
    intro s lane rt t b cc k hchain hcall hears hlane hall hcrc hcells hfirst
    obtain ⟨hsame, hextra, hevent, hlaneEvent⟩ := State.callupReply_extra (rt := rt) lane.isLt
      (State.Answers.elapse ⟨hchain, hcall, hears, hlane, .inl hall, hcrc⟩ t) hall hcells (by rw [s.elapse_chain, hfirst]) rfl
    refine ⟨_, exec_callupReply s lane rt t b, ?_, ?_, ?_, ?_⟩
    · rw [State.settle_cells, hsame, s.elapse_cells]
    · rw [State.settle_chain, hextra]
    · exact (State.settle_rd _ _ _ _ (by decide +kernel)).trans hevent
    · exact (State.settle_rd _ _ _ _ (by decide +kernel)).trans hlaneEvent
  case noReply =>
    intro s lane rt t b h
    have hkeep : (s.elapse t).callupReply lane.val rt b = s.elapse t :=
      State.callupReply_ignored (by rwa [s.elapse_chainCfg, s.elapse_chain, s.elapse_laneHears])
    exact ⟨_, (exec_callupReply s lane rt t b).trans (congrArg done hkeep), s.elapse_settle_effect t⟩
  case loop =>
    intro s lane loop hop t cc k hchain hcall hears hother hall
    obtain ⟨hloop, hphys, hlooped, hmore, hless⟩ := State.callupLoop_does (loop := loop) (hop := hop) lane.isLt
      ((s.elapse_chainCfg t _).trans hchain) (by rw [s.elapse_chain, hcall]) ((s.elapse_laneHears t _).trans hears) hother hall rfl
    rw [s.elapse_rd t _ _ _ (by decide +kernel)] at hlooped
    rw [s.elapse_chain] at hmore
    refine ⟨_, exec_callupLoop s lane loop hop t, ?_, ?_, ?_, fun h hf => ?_, fun h => ?_,
      Effect.of_exec (execCallupLoop_effect lane loop hop t s) rfl (by decide) (by decide +kernel)⟩
    · exact (State.settle_rd _ _ _ _ (by decide +kernel)).trans hloop
    · exact (State.settle_rd _ _ _ _ (by decide +kernel)).trans hphys
    · exact (State.settle_rd _ _ _ _ (by decide +kernel)).trans hlooped
    · rw [State.settle_chain, State.settle_rd _ _ _ _ (by decide +kernel), State.settle_rd _ _ _ _ (by decide +kernel)]
      exact hmore h hf
    · rw [State.settle_chains, hless h, s.elapse_chains]
  case noLoop =>
    intro s lane loop hop t h
    have hkeep : (s.elapse t).callupLoop lane.val loop hop = s.elapse t :=
      State.callupLoop_ignored (by rwa [s.elapse_chainCfg, s.elapse_chain, s.elapse_laneHears])
    exact ⟨_, (exec_callupLoop s lane loop hop t).trans (congrArg done hkeep), s.elapse_settle_effect t⟩
  case identity =>
    intro s c bad t cc x hmute hchain hrun hopen hstopped hfree heven hodd hfind hlane
    have hnumber := State.chainCfg_chain hchain
    have hmay := State.MayCall.elapse ⟨hmute, hrun, hopen, hstopped, hfree, heven, hodd⟩ t
    have hlaunch := State.callupLaunch_identity (cc := cc) (hnumber.symm ▸ hmay) (x := x)
      (by rw [hnumber, s.elapse_chain, s.elapse_frameNo, hfind]) bad
    rw [s.elapse_endPos, hnumber] at hlaunch
    obtain ⟨hqueue, hothers, heffect⟩ := (s.elapse t).idCallFirst_does c.val x
    have hmoved : Effect [.time, .fr, .chains] State.elapse_fields s ((s.elapse t).idCallFirst c.val x) :=
      Effect.after heffect (by decide +kernel) ((State.elapse_effect s t).widen (by decide +kernel))
    have hcalls : SameCalls s ((s.elapse t).idCallFirst c.val x) := hmoved.sameCalls fun n => congrArg _ (hmoved.lane n)
    rw [s.elapse_chain, s.elapse_frameNo] at hqueue
    generalize (s.elapse t).idCallFirst c.val x = v at *
    obtain ⟨n, hexec, hcall, hrest, hlanes, hout⟩ := exec_callupLaunch_target hchain hfree hlaunch hlane
    rw [hqueue, hcalls.base, hcalls.frame] at hcall
    rw [hcalls.base, hcalls.bytes, hcalls.block, hcalls.sends, show v.out = s.out from hmoved.same .out (by decide)] at hout
    refine ⟨n, hexec, by rw [hcall], by rw [hcall], hout, hlanes.trans (hmoved.same .lanes (by decide)), fun k hk => ?_,
      Effect.of_exec (execCallupLaunch_effect ⟨c, bad⟩ t s) hexec (by decide) (by decide +kernel)⟩
    rw [hrest k hk, hothers k hk, s.elapse_chain]
  case sweep =>
    intro s c bad t q cc hmute hchain hrun hopen hstopped hfree heven hodd hfind hsweep hq
    have hnumber := State.chainCfg_chain hchain
    have hmay := State.MayCall.elapse ⟨hmute, hrun, hopen, hstopped, hfree, heven, hodd⟩ t
    have hlaunch := State.callupLaunch_sweep (cc := cc) (hnumber.symm ▸ hmay) (by rw [hnumber, s.elapse_chain, s.elapse_frameNo, hfind])
      (q := q) (by rw [hnumber, s.elapse_lane, hsweep]) (by rw [hnumber, s.elapse_phys]; exact hq) bad
    rw [hnumber] at hlaunch
    obtain ⟨hnext, hslices, hothers, heffect⟩ := (s.elapse t).sweepNext_does (2 * c.val) q
    have hmoved : Effect [.time, .fr, .lanes] State.elapse_fields s ((s.elapse t).sweepNext (2 * c.val) q) :=
      Effect.after heffect (by decide +kernel) ((State.elapse_effect s t).widen (by decide +kernel))
    have hcalls : SameCalls s ((s.elapse t).sweepNext (2 * c.val) q) :=
      hmoved.sameCalls fun n => (hslices n).trans (congrArg _ (s.elapse_lane t n))
    generalize (s.elapse t).sweepNext (2 * c.val) q = v at *
    obtain ⟨n, hexec, hcall, -, hlanes, hout⟩ := exec_callupLaunch_target hchain hfree hlaunch (by omega)
    have hlane : ∀ k, n.lane k = v.lane k := fun k => congrArg (Tbl.look default · k) hlanes
    have hbase : s.callBase (2 * c.val) false = 0 := if_pos (by omega)
    rw [hcalls.base, hcalls.frame, hbase] at hcall
    rw [hcalls.base, hcalls.bytes, hcalls.block, hcalls.sends, hbase, show v.out = s.out from hmoved.same .out (by decide)] at hout
    refine ⟨n, hexec, by rw [hlane, hnext], by rw [hcall], hout, fun k hk => ?_,
      Effect.of_exec (execCallupLaunch_effect ⟨c, bad⟩ t s) hexec (by decide) (by decide +kernel)⟩
    rw [hlane, hothers k hk, s.elapse_lane]
  case noCall =>
    intro s c bad t h
    have hkeep : ∀ cc, s.chainCfg c.val = some cc → (s.elapse t).callupLaunch cc bad = s.elapse t := by
      intro cc hchain
      refine State.callupLaunch_ignored ?_ bad
      rw [State.chainCfg_chain hchain, s.elapse_pairMute, s.elapse_device, s.elapse_phase, s.elapse_chain,
        s.elapse_rd t _ _ _ (by decide +kernel), s.elapse_rd t _ _ _ (by decide +kernel)]
      simpa [hchain] using h
    exact ⟨_, exec_callupLaunch_ignored hkeep, s.elapse_settle_effect t⟩

end Sys2Proof.Machine
end

section
namespace Sys2Proof.Machine

set_option Elab.async false

/-! ### Converters through effects -/

theorem Effect.conv {A : List Part} {R : Option (List Field)} {s t : State} (k : Effect A R s t) (n : Nat)
    (hA : Part.convs ∉ A := by decide) : t.conv n = s.conv n :=
  congrArg (Tbl.look default · n) (k.same .convs hA)

theorem Effect.convArms {A : List Part} {R : Option (List Field)} {s t : State} (k : Effect A R s t) (c : Nat)
    (hA : Part.cfg ∉ A := by decide) : t.convArms c = s.convArms c := by
  rw [State.convArms, show t.cfg = s.cfg from k.same .cfg hA, State.convArms]

theorem State.settle_conv (s : State) (k : Nat) : s.settle.conv k = s.conv k := (State.settle_effect s).conv k

theorem State.elapse_conv (s : State) (t k : Nat) : (s.elapse t).conv k = s.conv k := (State.elapse_effect s t).conv k

theorem keepsOthers.after {A : List Part} {F : List Field} {f : Field} {i : Nat} {s t u : State} (h : keepsOthers f i s t)
    (k : Effect A (some F) t u) (hF : (F.all fun g => f.apart g) = true) : keepsOthers f i s u :=
  fun x hx j => (k.rd f x j hF).trans (h x hx j)

theorem keepsOthers.before {A : List Part} {F : List Field} {f : Field} {i : Nat} {s t u : State} (h : keepsOthers f i t u)
    (k : Effect A (some F) s t) (hF : (F.all fun g => f.apart g) = true) : keepsOthers f i s u :=
  fun x hx j => (h x hx j).trans (k.rd f x j hF)

theorem State.rd_wr_conv (s : State) (f : Field) (v : Nat) {c : Nat} (hc : c < 12) (h : f.n1 = 12 ∧ 0 < f.n2 := by decide)
    (hd : f.dom ≠ .fixed := by decide) : (s.wr f v c).rd f c = v % 2 ^ f.width :=
  s.rd_wr_same f v c 0 (by simp [Field.has, h.1, h.2, hc]) hd

/-! ### What a converter is judged by, at a command's instant -/

section
variable (s : State) (t c : Nat)

theorem State.elapse_cvState : (s.elapse t).cvState c = s.cvState c := s.elapse_rd t _ c 0 (by decide +kernel)

theorem State.elapse_convCfg : (s.elapse t).convCfg c = s.convCfg c := by
  rw [State.convCfg, State.elapse_cfg, State.convCfg]

theorem State.elapse_deblocked : (s.elapse t).deblocked c = s.deblocked c := by
  simp only [State.deblocked, State.elapse_cvState]

theorem State.elapse_coastLimitFrames : (s.elapse t).coastLimitFrames = s.coastLimitFrames := by
  have hperiod : (s.elapse t).period = s.period := s.elapse_rd t _ 0 0 (by decide +kernel)
  simp only [State.coastLimitFrames, hperiod]

theorem State.elapse_resyncAge : (s.elapse t).resyncAge c = s.resyncAge c := by
  simp only [State.resyncAge, State.elapse_frameNo, State.elapse_conv]

theorem State.elapse_sliceOf (role target : Nat) : (s.elapse t).sliceOf role target = s.sliceOf role target := by
  simp only [State.sliceOf, State.elapse_rd s t Reg.SLICE_ROLE.ROLE _ 0 (by decide +kernel),
    State.elapse_rd s t Reg.SLICE_ROLE.TARGET _ 0 (by decide +kernel), State.elapse_rd s t Reg.SLICE_ROLE.STATE _ 0 (by decide +kernel)]

/-- Table 08-4 asks nothing that moves as the time base runs. -/
theorem State.elapse_deblockCheck : (s.elapse t).deblockCheck c = s.deblockCheck c := by
  have hchain : (s.elapse t).chain = s.chain := funext (s.elapse_chain t)
  have harm : (s.elapse t).arm = s.arm := funext (s.elapse_arm t)
  have hslice : (s.elapse t).sliceOf = s.sliceOf := funext fun role => funext (s.elapse_sliceOf t role)
  have hword : (s.elapse t).convWord c = s.convWord c := funext fun i =>
    congrArg (signed _) (s.elapse_rd t Reg.CONV_WORD.VALUE c i (by decide +kernel))
  have hcell : (s.elapse t).cstate = s.cstate := funext fun n => s.elapse_rd t _ n 0 (by decide +kernel)
  have hchains : (s.elapse t).armChains = s.armChains := funext fun a => by simp only [State.armChains, State.elapse_cfg]
  have hcells : (s.elapse t).armCells = s.armCells := funext fun a => by simp only [State.armCells, hchains]
  have hremoving : (s.elapse t).removing = s.removing := funext fun g => by
    simp only [State.removing, State.grp, State.safeUnit, State.elapse_safety]
  unfold State.deblockCheck
  rw [(State.elapse_effect s t).convArms, s.elapse_convCfg t, s.elapse_referee, hchain, harm, hslice, hword, hcell, hchains, hcells,
    hremoving]

theorem State.elapse_redeblocks : (s.elapse t).redeblocks c = s.redeblocks c := by
  simp only [State.redeblocks, State.elapse_cvState, State.elapse_resyncAge, State.elapse_conv, State.elapse_deblockCheck]

end

/-! ### A converter enters a state and sets an event -/

section
variable {c : Nat}

theorem State.setConv_does (s : State) (hc : c < 12) {st : Nat} (hst : st < 8) : (s.setConv c st).cvState c = st ∧
    (s.setConv c st).rd Reg.CONV_STATE_FRAME.FRAME c = s.frameNo % 4294967296 ∧
    keepsOthers Reg.CONV_STATE.STATE c s (s.setConv c st) := by
  have hframe := State.wr_effect (s.wr Reg.CONV_STATE.STATE st c) Reg.CONV_STATE_FRAME.FRAME s.frameNo c 0
  refine ⟨(hframe.rd _ _ _ (by decide +kernel)).trans ((s.rd_wr_conv _ _ hc).trans (Nat.mod_eq_of_lt hst)), ?_,
    (s.wr_keepsOthers _ _ (by decide)).after hframe (by decide +kernel)⟩
  exact State.rd_wr_conv _ _ _ hc

theorem State.convEvent_does (s : State) (hc : c < 12) {f : Field} (hhas : f.has 0 0 = true := by decide)
    (hdom : f.dom ≠ .fixed := by decide) (hwidth : f.width = 1 := by rfl)
    (hapart : f.apart Reg.CONV_EVENT_SRC.CONV = true := by decide +kernel) :
    (s.convEvent c f).rd f = 1 ∧ hasBit ((s.convEvent c f).rd Reg.CONV_EVENT_SRC.CONV) c = true := by
  refine ⟨?_, State.evBit_has _ _ hc rfl (by decide)⟩
  rw [State.convEvent, State.evBit, State.rd_wr_apart _ _ _ _ _ _ hapart, State.rd_wr_same _ _ _ _ _ hhas hdom, hwidth]
  rfl

/-! ### A converter starts (R189, R196) -/

/-- A converter enters DEBLOCKING with its event, and `f` of what it keeps besides its registers. -/
def State.startDeblock (s : State) (c : Nat) (f : ConvSt → ConvSt) : State :=
  ((s.setConv c cvDeblocking).convEvent c Reg.CONV_EVENT.DEBLOCK).modConv c f

theorem State.startDeblock_effect (s : State) (c : Nat) (f : ConvSt → ConvSt) : Effect [.convs]
    (some [Reg.CONV_STATE.STATE, Reg.CONV_STATE_FRAME.FRAME, Reg.CONV_EVENT.DEBLOCK, Reg.CONV_EVENT_SRC.CONV]) s (s.startDeblock c f) :=
  Effect.after (State.modConv_effect ..) (by decide +kernel) (Effect.after (State.convEvent_effect ..) (by decide +kernel)
    ((State.setConv_effect ..).widen (by decide +kernel)))

theorem State.startDeblock_does (s : State) (hc : c < 12) (f : ConvSt → ConvSt) : (s.startDeblock c f).cvState c = cvDeblocking ∧
    (s.startDeblock c f).rd Reg.CONV_STATE_FRAME.FRAME c = s.frameNo % 4294967296 ∧
    (s.startDeblock c f).rd Reg.CONV_EVENT.DEBLOCK = 1 ∧ hasBit ((s.startDeblock c f).rd Reg.CONV_EVENT_SRC.CONV) c = true ∧
    (s.startDeblock c f).conv c = f (s.conv c) ∧ keepsOthers Reg.CONV_STATE.STATE c s (s.startDeblock c f) := by
  obtain ⟨hstate, hframe, hothers⟩ := s.setConv_does hc (st := cvDeblocking) (by decide)
  have hevent := State.convEvent_effect (s.setConv c cvDeblocking) c Reg.CONV_EVENT.DEBLOCK
  obtain ⟨hset, hsource⟩ := (s.setConv c cvDeblocking).convEvent_does hc (f := Reg.CONV_EVENT.DEBLOCK)
  refine ⟨(hevent.rd _ _ _ (by decide +kernel)).trans hstate, (hevent.rd _ _ _ (by decide +kernel)).trans hframe, hset, hsource, ?_,
    (hothers.after hevent (by decide +kernel)).after (State.modConv_effect ..) (by decide +kernel)⟩
  rw [State.startDeblock, State.modConv_same, hevent.conv, (State.setConv_effect ..).conv]

/-! ### A block is noted (Table 08-5) -/

/-- What a block cause has brought besides the block. -/
structure Noted (s n : State) (c cause : Nat) : Prop where
  shown : n.rd Reg.CONV_STATE.CAUSE c = cause % 16
  coast : cause = 5 → n.rd Reg.CONV_EVENT.COAST_LIMIT = 1
  resync : cause = 6 → n.rd Reg.CONV_EVENT.RESYNC_FAIL = 1
  quiet : ¬ (4 ≤ cause ∧ cause ≤ 6) → n.faults = s.faults
  raised : 4 ≤ cause ∧ cause ≤ 6 → s.mayRaise = true → raises s n 18 (16 * c + cause)

theorem Noted.after {s n m : State} {cause : Nat} {A : List Part} {F : List Field} (h : Noted s n c cause) (k : Effect A (some F) n m)
    (hA : Part.faults ∉ A := by decide)
    (hF : ([Reg.CONV_STATE.CAUSE, Reg.CONV_EVENT.COAST_LIMIT, Reg.CONV_EVENT.RESYNC_FAIL].all fun f => F.all fun g => f.apart g) = true
      := by decide +kernel) : Noted s m c cause := by
  have hfaults : m.faults = n.faults := k.same .faults hA
  have hrd := fun f hf i => k.rd f i 0 (List.all_eq_true.mp hF f hf)
  refine ⟨(hrd _ (by simp) _).trans h.shown, fun e => (hrd _ (by simp) _).trans (h.coast e),
    fun e => (hrd _ (by simp) _).trans (h.resync e), fun e => hfaults.trans (h.quiet e), fun e may => ?_⟩
  rw [raises, hfaults]
  exact h.raised e may

/-- A block is noted the same where the frame, the time and the events are. -/
theorem Noted.congr {a s n : State} {cause : Nat} (h : Noted s n c cause) (hevt : s.evtAt = a.evtAt) (hfaults : s.faults = a.faults) :
    Noted a n c cause := by
  simp only [State.evtAt, Prod.mk.injEq] at hevt
  obtain ⟨hno, hrun, hcount, hwait, hbridge⟩ := hevt
  refine ⟨h.shown, h.coast, h.resync, fun e => (h.quiet e).trans hfaults, fun e may => ?_⟩
  have hraised := h.raised e (by rwa [State.mayRaise, hbridge, hwait])
  rwa [raises, State.evt, hno, hrun, hcount, hwait] at hraised

theorem State.noteCause_does (s : State) (hc : c < 12) (cause : Nat) : Noted s (s.noteCause c cause) c cause := by
  unfold State.noteCause
  extract_lets shown coasted failed
  have hshown := State.wr_effect s Reg.CONV_STATE.CAUSE cause c 0
  have hcoasted : Effect [] (some [Reg.CONV_EVENT.COAST_LIMIT, Reg.CONV_EVENT_SRC.CONV]) shown coasted :=
    (Effect.refl _ _ _).when fun u => u.convEvent_effect c _
  have hfailed : Effect [] (some [Reg.CONV_EVENT.RESYNC_FAIL, Reg.CONV_EVENT_SRC.CONV]) coasted failed :=
    (Effect.refl _ _ _).when fun u => u.convEvent_effect c _
  have hraised : Effect State.raise_touch State.raise_fields failed
      (failed.when (4 ≤ cause && cause ≤ 6) (·.raise 18 (16 * c + cause))) :=
    (Effect.refl _ _ _).when fun u => u.raise_effect _ _
  have hall : Effect [] (some [Reg.CONV_STATE.CAUSE, Reg.CONV_EVENT.RESYNC_FAIL, Reg.CONV_EVENT.COAST_LIMIT, Reg.CONV_EVENT_SRC.CONV])
      s failed := ((hshown.widen (by decide +kernel)).step hcoasted (by decide +kernel)).step hfailed (by decide +kernel)
  refine ⟨?_, fun h => ?_, fun h => ?_, fun h => ?_, fun h hmay => ?_⟩
  · rw [hraised.rd _ _ _ (by decide +kernel), hfailed.rd _ _ _ (by decide +kernel), hcoasted.rd _ _ _ (by decide +kernel)]
    exact s.rd_wr_conv _ _ hc
  · subst h
    rw [hraised.rd _ _ _ (by decide +kernel), hfailed.rd _ _ _ (by decide +kernel)]
    exact (shown.convEvent_does hc).1
  · subst h
    rw [hraised.rd _ _ _ (by decide +kernel)]
    exact (coasted.convEvent_does hc).1
  · rw [State.when, if_neg (by simpa using h)]
    exact hall.same .faults (by decide)
  · rw [State.when, if_pos (by simpa using h)]
    exact raises_raise (hall.evtAt (congrArg PowerSt.bridge (hall.same .power (by decide)))) hmay rfl _

theorem State.countBlock_does (s : State) (hc : c < 12) (cause : Nat) : Noted s (s.countBlock c cause) c cause ∧
    (s.countBlock c cause).rd Reg.CONV_COUNT.BLOCKS c = min 255 (s.rd Reg.CONV_COUNT.BLOCKS c + 1) ∧
    (s.countBlock c cause).rd Reg.CONV_EVENT.BLOCK = 1 ∧
    (s.countBlock c cause).conv c = { s.conv c with blockedNow := true } := by
  unfold State.countBlock
  extract_lets evented
  have hbump := State.bump_effect (s.noteCause c cause) Reg.CONV_COUNT.BLOCKS 1 c 0
  have hevent := State.convEvent_effect ((s.noteCause c cause).bump Reg.CONV_COUNT.BLOCKS 1 c) c Reg.CONV_EVENT.BLOCK
  refine ⟨(((s.noteCause_does hc cause).after hbump).after hevent).after (State.modConv_effect ..), ?_, ?_, ?_⟩
  · rw [State.modConv_rd, hevent.rd _ _ _ (by decide +kernel),
      State.rd_bump _ (by simp [Field.has, Reg.CONV_COUNT.BLOCKS, hc]) (by decide), (State.noteCause_effect ..).rd _ _ _ (by decide +kernel)]
    rfl
  · exact (State.convEvent_does _ hc).1
  · rw [State.modConv_same, hevent.conv, hbump.conv, (State.noteCause_effect ..).conv]

/-! ### The residuals of a blocked converter -/

theorem State.showResidual_zero (s : State) (hc : c < 12) (h : ∀ a ∈ s.convArms c, (s.arm a).e = 0) :
    (s.showResidual c).rd Reg.CONV_RESIDUAL.E c = 0 := by
  unfold State.showResidual
  extract_lets e
  have hzero : e = 0 := List.foldlRecOn (motive := (· = 0)) _ _ rfl fun m hm a ha => by simp [hm, h a ha]
  rw [State.rd_wr_apart _ _ _ _ _ _ (by decide +kernel), State.wrS, State.rd_wr_conv _ _ _ hc, hzero]
  rfl

theorem State.dropResiduals_does (s : State) (hc : c < 12) : (s.dropResiduals c).rd Reg.CONV_RESIDUAL.E c = 0 ∧
    ∀ a ∈ s.convArms c, ((s.dropResiduals c).arm a).e = 0 := by
  unfold State.dropResiduals
  have hcfg := State.each_keeps (State.convArms · c) (l := s.convArms c) (f := fun s a => s.modArm a fun x => { x with e := 0 })
    (fun _ _ => rfl) s
  have hdrop := (State.each_forall (I := fun _ => True) (P := fun a u => (u.arm a).e = 0) (l := s.convArms c) (s := s)
    (f := fun s a => s.modArm a fun x => { x with e := 0 }) trivial (fun _ _ _ _ => trivial) (fun u _ a _ => by rw [State.modArm_same])
    fun u _ a _ b hab hb => by rwa [State.modArm_other _ _ _ (Ne.symm hab)]).2
  generalize (s.each (s.convArms c) fun s a => s.modArm a fun x => { x with e := 0 }) = u at hcfg hdrop ⊢
  refine ⟨u.showResidual_zero hc (by rwa [hcfg]), fun a ha => ?_⟩
  rw [(State.showResidual_effect ..).arm]
  exact hdrop a ha

/-! ### An operational block (R191) -/

/-- A converter that was deblocked or in RESYNC has blocked with a cause. -/
structure BlockedBy (s n : State) (c cause : Nat) : Prop where
  noted : Noted s n c cause
  state : n.cvState c = cvBlocked
  count : n.rd Reg.CONV_COUNT.BLOCKS c = min 255 (s.rd Reg.CONV_COUNT.BLOCKS c + 1)
  event : n.rd Reg.CONV_EVENT.BLOCK = 1
  residual : n.rd Reg.CONV_RESIDUAL.E c = 0
  arms : ∀ a ∈ s.convArms c, (n.arm a).e = 0
  others : keepsOthers Reg.CONV_STATE.STATE c s n

theorem State.deblocked_iff {s : State} : s.deblocked c = true ↔ s.cvState c = cvDeblocking ∨ s.cvState c = cvRun := decide_eq_true_iff

theorem State.blockConv_does {s : State} (hc : c < 12) (h : s.deblocked c = true ∨ s.cvState c = cvResync) (cause : Nat) :
    BlockedBy s (s.blockConv c cause) c cause := by
  have heq : s.blockConv c cause =
      (((s.setConv c cvBlocked).countBlock c cause).modConv c fun x => { x with ramped := false }).dropResiduals c :=
    if_pos (by rwa [State.deblocked_iff, or_assoc] at h)
  obtain ⟨hstate, -, hothers⟩ := s.setConv_does hc (st := cvBlocked) (by decide)
  have hset := State.setConv_effect s c cvBlocked
  obtain ⟨hnoted, hcount, hevent, -⟩ := (s.setConv c cvBlocked).countBlock_does hc cause
  have hcounted := State.countBlock_effect (s.setConv c cvBlocked) c cause
  have hmod := State.modConv_effect ((s.setConv c cvBlocked).countBlock c cause) c fun x => { x with ramped := false }
  rw [heq]
  generalize ((s.setConv c cvBlocked).countBlock c cause).modConv c _ = u at hmod ⊢
  have hdrop := State.dropResiduals_effect u c
  obtain ⟨hresidual, harms⟩ := u.dropResiduals_does hc
  rw [hmod.convArms, hcounted.convArms, hset.convArms] at harms
  refine ⟨?_, ?_, ?_, ?_, hresidual, harms, ?_⟩
  · exact ((hnoted.congr (hset.evtAt (congrArg PowerSt.bridge (hset.same .power (by decide)))) (hset.same .faults (by decide))).after
      hmod).after hdrop
  · exact (hdrop.rd _ _ _ (by decide +kernel)).trans
      ((hmod.rd _ _ _ (by decide +kernel)).trans ((hcounted.rd _ _ _ (by decide +kernel)).trans hstate))
  · rw [hdrop.rd _ _ _ (by decide +kernel), hmod.rd _ _ _ (by decide +kernel), hcount, hset.rd _ _ _ (by decide +kernel)]
  · rw [hdrop.rd _ _ _ (by decide +kernel), hmod.rd _ _ _ (by decide +kernel), hevent]
  · exact ((hothers.after hcounted (by decide +kernel)).after hmod (by decide +kernel)).after hdrop (by decide +kernel)

end

end Sys2Proof.Machine
end

section
namespace Sys2Proof.Machine

set_option Elab.async false

/-! ### CONV_DEBLOCK (R189, R191) -/

section
variable {s : State} {c : Nat}

theorem State.declared_not_isNone (h : (s.convCfg c).isSome = true) : ¬ (s.convCfg c).isNone = true := by
  rw [Option.isNone_iff_eq_none]
  exact Option.isSome_iff_ne_none.mp h

theorem State.cmdConvDeblock_undeclared (h : s.convCfg c = none) : (s.cmdConvDeblock c).2 = s := by
  rw [State.cmdConvDeblock, if_pos (by rw [h]; rfl)]

theorem State.convCmdLast_does (s : State) (hc : c < 12) {op result : Nat} (hop : op < 4) (hresult : result < 16) :
    (s.convCmdLast c op result).rd Reg.CONV_CMD_LAST.RESULT c = result ∧ (s.convCmdLast c op result).rd Reg.CONV_CMD_LAST.OP c = op := by
  refine ⟨?_, (State.rd_wr_conv _ _ _ hc).trans (Nat.mod_eq_of_lt hop)⟩
  rw [State.convCmdLast, State.rd_wr_apart _ _ _ _ _ _ (by decide +kernel), State.rd_wr_conv _ _ _ hc]
  exact Nat.mod_eq_of_lt hresult

theorem State.deblockCheck_lt (s : State) (c : Nat) : s.deblockCheck c < 16 := by
  unfold State.deblockCheck
  extract_lets arms chains group
  split_ifs <;> decide

theorem State.cmdConvDeblock_refused (hdeclared : (s.convCfg c).isSome = true) (h : s.cvState c ≠ cvBlocked ∨ s.deblockCheck c ≠ 0) :
    (s.cmdConvDeblock c).2 = s.convCmdLast c 1 (if s.cvState c ≠ cvBlocked then 2 else s.deblockCheck c) := by
  have hresult : (if s.cvState c ≠ cvBlocked then 2 else s.deblockCheck c) ≠ 0 := by
    split_ifs with hstate
    · decide
    · exact h.resolve_left hstate
  unfold State.cmdConvDeblock
  extract_lets result shown
  rw [if_neg (State.declared_not_isNone hdeclared), if_pos hresult]

theorem State.cmdConvDeblock_starts (hdeclared : (s.convCfg c).isSome = true) (hstate : s.cvState c = cvBlocked)
    (hcheck : s.deblockCheck c = 0) (hfree : (s.conv c).atTick = none) :
    (s.cmdConvDeblock c).2 = (s.convCmdLast c 1 0).startDeblock c fun x => { x with ramped := false } := by
  have hsame : (s.convCmdLast c 1 0).conv c = s.conv c := (State.convCmdLast_effect ..).conv c
  simp [State.cmdConvDeblock, State.startDeblock, State.declared_not_isNone hdeclared, hstate, hcheck, hsame, hfree]

/-- A block of the device at the same tick: the converter has met it. -/
theorem State.cmdConvDeblock_meets {k : Nat} (hdeclared : (s.convCfg c).isSome = true) (hstate : s.cvState c = cvBlocked)
    (hcheck : s.deblockCheck c = 0) (hblock : (s.conv c).atTick = some k) : (s.cmdConvDeblock c).2 =
      if (s.conv c).met then s.convCmdLast c 1 0
      else ((s.convCmdLast c 1 0).countBlock c k).modConv c fun x => { x with met := true } := by
  have hsame : (s.convCmdLast c 1 0).conv c = s.conv c := (State.convCmdLast_effect ..).conv c
  simp [State.cmdConvDeblock, State.declared_not_isNone hdeclared, hstate, hcheck, hsame, hblock]

theorem State.cmdConvDeblock_meets_does {k : Nat} (hc : c < 12) (hdeclared : (s.convCfg c).isSome = true) (hstate : s.cvState c = cvBlocked)
    (hcheck : s.deblockCheck c = 0) (hblock : (s.conv c).atTick = some k) {n : State} (hn : n = (s.cmdConvDeblock c).2) :
    n.cvState c = cvBlocked ∧ n.rd Reg.CONV_CMD_LAST.RESULT c = 0 ∧ (n.conv c).atTick = some k ∧ (n.conv c).met = true ∧
      ((s.conv c).met = false → n.rd Reg.CONV_STATE.CAUSE c = k % 16 ∧
        n.rd Reg.CONV_COUNT.BLOCKS c = min 255 (s.rd Reg.CONV_COUNT.BLOCKS c + 1) ∧ n.rd Reg.CONV_EVENT.BLOCK = 1) ∧
      ((s.conv c).met = true → n.rd Reg.CONV_COUNT.BLOCKS c = s.rd Reg.CONV_COUNT.BLOCKS c) := by
  have hlast := State.convCmdLast_effect s c 1 0
  obtain ⟨hresult, -⟩ := s.convCmdLast_does hc (op := 1) (result := 0) (by decide) (by decide)
  have hshown : (s.convCmdLast c 1 0).cvState c = cvBlocked := (hlast.rd _ _ _ (by decide +kernel)).trans hstate
  rw [State.cmdConvDeblock_meets hdeclared hstate hcheck hblock] at hn
  cases hmet : (s.conv c).met with
  | true =>
    rw [hmet, if_pos rfl] at hn
    subst hn
    rw [hlast.conv]
    exact ⟨hshown, hresult, hblock, hmet, (fun h => nomatch h), fun _ => hlast.rd _ _ _ (by decide +kernel)⟩
  | false =>
    rw [hmet, if_neg (by simp)] at hn
    subst hn
    obtain ⟨hnoted, hcount, hevent, hconv⟩ := (s.convCmdLast c 1 0).countBlock_does hc k
    have hcounted := State.countBlock_effect (s.convCmdLast c 1 0) c k
    rw [State.modConv_same, hconv, hlast.conv]
    refine ⟨(hcounted.rd _ _ _ (by decide +kernel)).trans hshown, (hcounted.rd _ _ _ (by decide +kernel)).trans hresult, hblock, rfl,
      fun _ => ⟨hnoted.shown, ?_, hevent⟩, (fun h => nomatch h)⟩
    rw [State.modConv_rd, hcount, hlast.rd _ _ _ (by decide +kernel)]

/-! ### CONV_BLOCK (R191) -/

theorem State.cmdConvBlock_undeclared (h : s.convCfg c = none) : (s.cmdConvBlock c).2 = s := by
  rw [State.cmdConvBlock, if_pos (by rw [h]; rfl)]

theorem State.cmdConvBlock_refused (hdeclared : (s.convCfg c).isSome = true) (hstate : s.cvState c = cvBlocked) :
    (s.cmdConvBlock c).2 = s.convCmdLast c 2 2 := by
  rw [State.cmdConvBlock, if_neg (State.declared_not_isNone hdeclared), if_pos hstate]

theorem State.cmdConvBlock_blocks (hdeclared : (s.convCfg c).isSome = true) (h : s.deblocked c = true ∨ s.cvState c = cvResync) :
    (s.cmdConvBlock c).2 = (s.convCmdLast c 2 0).blockConv c 8 := by
  have hstate : s.cvState c ≠ cvBlocked := by
    rw [State.deblocked_iff] at h
    rcases h with (h | h) | h <;> rw [h] <;> decide
  rw [State.cmdConvBlock, if_neg (State.declared_not_isNone hdeclared), if_neg hstate]

/-! ### The limits of coasting and of RESYNC (R194, R196) -/

theorem State.coastLimit_due (hdeblocked : s.deblocked c = true) (hrun : s.coastLimitFrames ≤ (s.conv c).coastRun) :
    s.coastLimit c = s.blockInRank c 5 := if_pos (by simp [hdeblocked, hrun])

theorem State.coastLimit_waits (h : s.deblocked c = false ∨ (s.conv c).coastRun < s.coastLimitFrames) : s.coastLimit c = s :=
  if_neg (by rcases h with h | h <;> simp [h])

theorem State.blockInRank_computed (hphase : s.fr.phase = .computed) (k : Nat) :
    s.blockInRank c k = (s.blockConv c k).rebuildBlocked c := by
  rw [State.blockInRank, hphase]

theorem State.blockInRank_frozen (hphase : s.fr.phase = .frozen) (k : Nat) : s.blockInRank c k =
    s.modConv c fun x => { x with atRank := some (match x.atRank with | some j => min j k | none => k) } := by
  unfold State.blockInRank
  split
  case h_1 h => exact absurd (h.symm.trans hphase) (by decide)
  case h_2 h => exact absurd (h.symm.trans hphase) (by decide)
  case h_3 => rfl

theorem State.resyncOver_iff : s.resyncOver c = true ↔ s.cvState c = cvResync ∧ ((s.conv c).l1 : Int) ≤ s.resyncAge c ∧
    (s.redeblocks c = false ∨ ((s.conv c).l1 : Int) < s.resyncAge c) := by
  simp [State.resyncOver, and_assoc]

/-! ### A converter that deblocks by itself (R196) -/

theorem State.autoRedeblock_starts (hdue : s.redeblocks c = true) (hage : s.resyncAge c ≤ (s.conv c).l1)
    (hfree : (s.conv c).atTick = none) :
    s.autoRedeblock c = s.startDeblock c fun x => { x with ramped := false, shown := true } :=
  if_pos (by simp [hdue, hage, hfree])

theorem State.autoRedeblock_waits
    (h : s.redeblocks c = false ∨ ((s.conv c).l1 : Int) < s.resyncAge c ∨ (s.conv c).atTick.isSome = true) :
    s.autoRedeblock c = s :=
  if_neg (by
    rcases h with h | h | h
    · simp [h]
    · simp [not_le.mpr h]
    · obtain ⟨k, hk⟩ := Option.isSome_iff_exists.mp h
      simp [hk])

end

/-! ### The commands -/

theorem exec_convDeblock (s : State) (c : Nat) : exec (.convDeblock c) s = done (s.cmdConvDeblock c).2 := rfl

theorem exec_convBlock (s : State) (c : Nat) : exec (.convBlock c) s = done (s.cmdConvBlock c).2 := rfl

theorem exec_coastLimit (s : State) (c : Fin 12) (t : Nat) : exec (.coastLimit c t) s = done ((s.elapse t).coastLimit c.val) := rfl

theorem exec_resyncTimeout (s : State) (c : Fin 12) (t : Nat) : exec (.resyncTimeout c t) s =
    done (if (s.elapse t).tickNow then (s.elapse t).resyncTimeout c.val else s.elapse t) := rfl

theorem exec_autoRedeblock (s : State) (c : Fin 12) (t : Nat) : exec (.autoRedeblock c t) s =
    done (if (s.elapse t).tickNow then (s.elapse t).autoRedeblock c.val else s.elapse t) := rfl

/-- A converter command that is answered with its result alone. -/
theorem exec_convAnswered {s : State} {x : Instr} {c op result : Nat} (hc : c < 12) (hop : op < 4) (hresult : result < 16)
    (h : exec x s = done (s.convCmdLast c op result)) :
    ∃ n, exec x s = .next n ∧ n.rd Reg.CONV_CMD_LAST.RESULT c = result ∧ n.rd Reg.CONV_CMD_LAST.OP c = op ∧
      Effect [.host, .out] (some (movesIrq ++ [Reg.CONV_CMD_LAST.OP, Reg.CONV_CMD_LAST.RESULT])) s n := by
  obtain ⟨hshown, hshownOp⟩ := s.convCmdLast_does hc hop hresult
  refine ⟨_, h, (State.settle_rd _ _ _ _ (by decide +kernel)).trans hshown,
    (State.settle_rd _ _ _ _ (by decide +kernel)).trans hshownOp, ?_⟩
  exact (((State.convCmdLast_effect ..).more (by decide +kernel)).grow (by decide)).step
    (((State.settle_effect _).more (by decide +kernel)).grow (by decide)) (Effect.fits_refl _ _)

/-- Settles O24: each command and limit of a converter, by the start or the block that it carries out. -/
theorem convertersDeblockAndBlock : Obligations.ConvertersDeblockAndBlock := by
  unfold Obligations.ConvertersDeblockAndBlock
  refine ⟨?starts, ?refused, ?meets, ?undeclared, ?blocks, ?blocked, ?coastDue, ?coastWaits, ?resyncOver, ?resyncWaits, ?redeblocks,
    ?notRedeblocked⟩
  case starts =>
    intro s c hc hdeclared hstate hcheck hfree
    have hexec := (exec_convDeblock s c).trans (congrArg done (State.cmdConvDeblock_starts hdeclared hstate hcheck hfree))
    have hlast := State.convCmdLast_effect s c 1 0
    obtain ⟨hresult, hop⟩ := s.convCmdLast_does hc (op := 1) (result := 0) (by decide) (by decide)
    obtain ⟨hstarted, hframe, hevent, hsource, hconv, hothers⟩ :=
      (s.convCmdLast c 1 0).startDeblock_does hc fun x => { x with ramped := false }
    have hkept := State.startDeblock_effect (s.convCmdLast c 1 0) c fun x => { x with ramped := false }
    refine ⟨_, hexec, ?_, ?_, ?_, ?_, ?_, ?_, ?_,
      (hothers.before hlast (by decide +kernel)).after (State.settle_effect _) (by decide +kernel),
      Effect.of_exec (execConvDeblock_effect c s) hexec (by decide) (by decide +kernel)⟩
    · exact (State.settle_rd _ _ _ _ (by decide +kernel)).trans hstarted
    · rw [State.settle_rd _ _ _ _ (by decide +kernel), hkept.rd _ _ _ (by decide +kernel), hresult]
    · rw [State.settle_rd _ _ _ _ (by decide +kernel), hkept.rd _ _ _ (by decide +kernel), hop]
    · rw [State.settle_rd _ _ _ _ (by decide +kernel), hframe]
      exact congrArg (· % 4294967296) (hlast.rd _ 0 0 (by decide +kernel))
    · rw [State.settle_rd _ _ _ _ (by decide +kernel), hevent]
    · rw [State.settle_rd _ _ _ _ (by decide +kernel), hsource]
    · rw [State.settle_conv, hconv, hlast.conv]
  case refused =>
    intro s c hc hdeclared h
    refine exec_convAnswered hc (by decide) ?_ ((exec_convDeblock s c).trans (congrArg done (State.cmdConvDeblock_refused hdeclared h)))
    split_ifs
    · decide
    · exact s.deblockCheck_lt c
  case meets =>
    intro s c k hc hdeclared hstate hcheck hblock
    obtain ⟨hkept, hresult, htick, hmet, hfirst, hagain⟩ := State.cmdConvDeblock_meets_does hc hdeclared hstate hcheck hblock rfl
    refine ⟨_, exec_convDeblock s c, (State.settle_rd _ _ _ _ (by decide +kernel)).trans hkept, ?_, ?_, ?_, fun h => ?_, fun h => ?_⟩
    · rw [State.settle_rd _ _ _ _ (by decide +kernel), hresult]
    · rw [State.settle_conv, htick]
    · rw [State.settle_conv, hmet]
    · simp only [State.settle_rd _ Reg.CONV_STATE.CAUSE _ _ (by decide +kernel),
        State.settle_rd _ Reg.CONV_COUNT.BLOCKS _ _ (by decide +kernel),
        State.settle_rd _ Reg.CONV_EVENT.BLOCK _ _ (by decide +kernel)]
      exact hfirst h
    · rw [State.settle_rd _ _ _ _ (by decide +kernel), hagain h]
  case undeclared =>
    intro s c h
    exact ⟨exec_unchanged ((exec_convDeblock s c).trans (congrArg done (State.cmdConvDeblock_undeclared h))),
      exec_unchanged ((exec_convBlock s c).trans (congrArg done (State.cmdConvBlock_undeclared h)))⟩
  case blocks =>
    intro s c hc hdeclared h
    have hexec := (exec_convBlock s c).trans (congrArg done (State.cmdConvBlock_blocks hdeclared h))
    have hlast := State.convCmdLast_effect s c 2 0
    obtain ⟨hresult, hop⟩ := s.convCmdLast_does hc (op := 2) (result := 0) (by decide) (by decide)
    have hcould : (s.convCmdLast c 2 0).deblocked c = true ∨ (s.convCmdLast c 2 0).cvState c = cvResync := by
      rwa [State.deblocked, show (s.convCmdLast c 2 0).cvState c = s.cvState c from hlast.rd _ _ _ (by decide +kernel)]
    have hblock := State.blockConv_does hc hcould 8
    have hkept := State.blockConv_effect (s.convCmdLast c 2 0) c 8
    refine ⟨_, hexec, ?_, ?_, ?_, ?_, ?_, ?_, ?_, fun a ha => ?_, ?_,
      (hblock.others.before hlast (by decide +kernel)).after (State.settle_effect _) (by decide +kernel),
      Effect.of_exec (execConvBlock_effect c s) hexec (by decide) (by decide +kernel)⟩
    · exact (State.settle_rd _ _ _ _ (by decide +kernel)).trans hblock.state
    · rw [State.settle_rd _ _ _ _ (by decide +kernel), hblock.noted.shown]
    · rw [State.settle_rd _ _ _ _ (by decide +kernel), hkept.rd _ _ _ (by decide +kernel), hresult]
    · rw [State.settle_rd _ _ _ _ (by decide +kernel), hkept.rd _ _ _ (by decide +kernel), hop]
    · rw [State.settle_rd _ _ _ _ (by decide +kernel), hblock.count, hlast.rd _ _ _ (by decide +kernel)]
    · rw [State.settle_rd _ _ _ _ (by decide +kernel), hblock.event]
    · rw [State.settle_rd _ _ _ _ (by decide +kernel), hblock.residual]
    · rw [State.settle_arm, hblock.arms a (by rwa [hlast.convArms])]
    · rw [State.settle_faults, hblock.noted.quiet (by decide)]
      exact hlast.same .faults (by decide)
  case blocked =>
    intro s c hc hdeclared hstate
    exact exec_convAnswered hc (by decide) (by decide)
      ((exec_convBlock s c).trans (congrArg done (State.cmdConvBlock_refused hdeclared hstate)))
  case coastDue =>
    intro s c t hdeblocked hrun
    have hdue := (s.elapse_deblocked t c.val).trans hdeblocked
    have hexec := (exec_coastLimit s c t).trans (congrArg done (State.coastLimit_due hdue
      (by rwa [State.elapse_coastLimitFrames, State.elapse_conv])))
    refine ⟨_, hexec, fun hphase => ?_, fun hphase => ?_,
      Effect.of_exec (execCoastLimit_effect c t s) hexec (by decide) (by decide +kernel)⟩
    · rw [State.blockInRank_computed ((s.elapse_phase t).trans hphase)]
      have hblock := State.blockConv_does c.isLt (.inl hdue) 5
      have hrebuilt := State.rebuildBlocked_effect ((s.elapse t).blockConv c.val 5) c.val
      have hnoted := (hblock.noted.after hrebuilt).after (State.settle_effect _)
      refine ⟨?_, hnoted.shown, hnoted.coast rfl, fun hmay => hnoted.raised (by decide) ((s.elapse_mayRaise t).trans hmay)⟩
      exact (State.settle_rd _ _ _ _ (by decide +kernel)).trans ((hrebuilt.rd _ _ _ (by decide +kernel)).trans hblock.state)
    · rw [State.blockInRank_frozen ((s.elapse_phase t).trans hphase), State.settle_conv, State.modConv_same, State.elapse_conv]
      exact ⟨(State.settle_rd _ _ _ _ (by decide +kernel)).trans (s.elapse_cvState t c.val), rfl⟩
  case coastWaits =>
    intro s c t h
    have hwaits : (s.elapse t).coastLimit c.val = s.elapse t :=
      State.coastLimit_waits (by rwa [State.elapse_deblocked, State.elapse_conv, State.elapse_coastLimitFrames])
    exact ⟨_, (exec_coastLimit s c t).trans (congrArg done hwaits), s.elapse_settle_effect t⟩
  case resyncOver =>
    intro s c t htick hstate hage hfails
    have hover : (s.elapse t).resyncOver c.val = true := by
      rw [State.resyncOver_iff, State.elapse_cvState, State.elapse_conv, State.elapse_resyncAge, State.elapse_redeblocks]
      exact ⟨hstate, hage, hfails⟩
    have hexec := (exec_resyncTimeout s c t).trans (congrArg done ((if_pos htick).trans (if_pos hover)))
    have hblock := State.blockConv_does c.isLt (.inr ((s.elapse_cvState t c.val).trans hstate)) 6
    have hnoted := hblock.noted.after (State.settle_effect _)
    refine ⟨_, hexec, ?_, hnoted.shown, hnoted.resync rfl, ?_, fun hmay => hnoted.raised (by decide) ((s.elapse_mayRaise t).trans hmay),
      Effect.of_exec (execResyncTimeout_effect c t s) hexec (by decide) (by decide +kernel)⟩
    · exact (State.settle_rd _ _ _ _ (by decide +kernel)).trans hblock.state
    · rw [State.settle_rd _ _ _ _ (by decide +kernel), hblock.residual]
  case resyncWaits =>
    intro s c t h
    have hwaits : (if (s.elapse t).tickNow then (s.elapse t).resyncTimeout c.val else s.elapse t) = s.elapse t := by
      rcases h with h | h
      · rw [h]
        rfl
      · have hnot : ¬ (s.elapse t).resyncOver c.val = true := by
          rw [State.resyncOver_iff, State.elapse_cvState, State.elapse_conv, State.elapse_resyncAge, State.elapse_redeblocks]
          rintro ⟨hstate, hage, hfails⟩
          rcases h with h | h | ⟨h, hlate⟩
          · exact h hstate
          · omega
          · exact hfails.elim (fun hf => by simp [h] at hf) fun hf => by omega
        rw [State.resyncTimeout, if_neg hnot, ite_self]
    exact ⟨_, (exec_resyncTimeout s c t).trans (congrArg done hwaits), s.elapse_settle_effect t⟩
  case redeblocks =>
    intro s c t htick hdue hage hfree
    have hstarts := State.autoRedeblock_starts ((s.elapse_redeblocks t c.val).trans hdue)
      (by rwa [State.elapse_resyncAge, State.elapse_conv]) (by rwa [State.elapse_conv])
    have hexec := (exec_autoRedeblock s c t).trans (congrArg done ((if_pos htick).trans hstarts))
    obtain ⟨hstarted, -, hevent, -, hconv, -⟩ :=
      (s.elapse t).startDeblock_does c.isLt fun x => { x with ramped := false, shown := true }
    refine ⟨_, hexec, ?_, ?_, ?_, Effect.of_exec (execAutoRedeblock_effect c t s) hexec (by decide) (by decide +kernel)⟩
    · exact (State.settle_rd _ _ _ _ (by decide +kernel)).trans hstarted
    · rw [State.settle_rd _ _ _ _ (by decide +kernel), hevent]
    · rw [State.settle_conv, hconv, State.elapse_conv]
  case notRedeblocked =>
    intro s c t h
    have hwaits : (if (s.elapse t).tickNow then (s.elapse t).autoRedeblock c.val else s.elapse t) = s.elapse t := by
      rcases h with h | h
      · rw [h]
        rfl
      · rw [State.autoRedeblock_waits (by rwa [State.elapse_redeblocks, State.elapse_conv, State.elapse_resyncAge]), ite_self]
    exact ⟨_, (exec_autoRedeblock s c t).trans (congrArg done hwaits), s.elapse_settle_effect t⟩

end Sys2Proof.Machine
end

section
namespace Sys2Proof.Machine

set_option Elab.async false

section
variable {s : State}

/-! ### The end of the contained state (R365) -/

theorem State.quietTimeout_due (hcontained : s.rd Reg.FAULT_STATE.CONTAINED ≠ 0) (hfatal : s.rd Reg.FAULT_STATE.FATAL = 0)
    (hquiet : s.faults.quietEnd ≤ s.time.ns) : s.quietTimeout =
      ((s.wr Reg.FAULT_STATE.CONTAINED 0).bump Reg.RECOVERY_COUNT.COUNT).wr Reg.FAULT_EVENT.RECOVERED 1 :=
  if_pos (by simp [State.on, hcontained, hfatal, hquiet])

theorem State.quietTimeout_waits
    (h : s.rd Reg.FAULT_STATE.CONTAINED = 0 ∨ s.rd Reg.FAULT_STATE.FATAL ≠ 0 ∨ s.time.ns < s.faults.quietEnd) : s.quietTimeout = s :=
  if_neg (by
    rcases h with h | h | h
    · simp [State.on, h]
    · simp [State.on, h]
    · simp [not_le.mpr h])

theorem State.quietTimeout_does (hcontained : s.rd Reg.FAULT_STATE.CONTAINED ≠ 0) (hfatal : s.rd Reg.FAULT_STATE.FATAL = 0)
    (hquiet : s.faults.quietEnd ≤ s.time.ns) : s.quietTimeout.rd Reg.FAULT_STATE.CONTAINED = 0 ∧
    s.quietTimeout.rd Reg.FAULT_EVENT.RECOVERED = 1 ∧
    s.quietTimeout.rd Reg.RECOVERY_COUNT.COUNT = min 4294967295 (s.rd Reg.RECOVERY_COUNT.COUNT + 1) := by
  rw [State.quietTimeout_due hcontained hfatal hquiet]
  refine ⟨?_, State.rd_wr_same _ _ _ _ _ rfl (by decide), ?_⟩
  · rw [State.rd_wr_apart _ _ _ _ _ _ (by decide +kernel), State.rd_bump_apart _ _ _ _ _ (by decide +kernel)]
    exact State.rd_wr_same _ _ _ _ _ rfl (by decide)
  · rw [State.rd_wr_apart _ _ _ _ _ _ (by decide +kernel), State.rd_bump _ rfl (by decide),
      State.rd_wr_apart _ _ _ _ _ _ (by decide +kernel)]
    rfl

/-! ### ALIVE (R369) -/

theorem State.aliveToggle_stops (h : s.rd Reg.FAULT_STATE.ALIVE_RUN = 0 ∨ s.referee.broken = true) : s.aliveToggle = s :=
  if_pos (by rcases h with h | h <;> simp [State.on, h])

theorem State.aliveToggle_does (hrun : s.rd Reg.FAULT_STATE.ALIVE_RUN ≠ 0) (hwhole : s.referee.broken = false) :
    s.aliveToggle.faults = { s.faults with alive := !s.faults.alive, aliveNext := none } ∧
    s.aliveToggle.rd Reg.ALIVE_CFG.HZ =
      (match s.faults.aliveNext with | some hz => hz % 16384 | none => s.rd Reg.ALIVE_CFG.HZ) := by
  unfold State.aliveToggle
  rw [if_neg (by simp [State.on, hrun, hwhole])]
  cases hnext : s.faults.aliveNext with
  | none => exact ⟨rfl, rfl⟩
  | some hz => exact ⟨by simp, State.rd_wr_same _ _ _ _ _ rfl (by decide)⟩

end

/-! ### The copies of the referee disagree (R206) -/

/-- No referee is left, and ALIVE stops. -/
def State.refereeGone (s : State) : State :=
  { s.modRef fun r => { r with broken := true, ball := false, wake := .none, shadow := none, forced := false, expiring := false } with
    faults := { s.faults with alive := false } }

/-- No engine sees the ball, and ALIVE is shown to stop. -/
def State.ballGone (s : State) : State :=
  (s.refereeGone.each (upTo 16) fun s e => s.wr Reg.ENG_STATUS.BALL 0 e).wr Reg.FAULT_STATE.ALIVE_RUN 0

theorem State.ballGone_effect (s : State) :
    Effect [] (some [Reg.ENG_STATUS.BALL, Reg.FAULT_STATE.ALIVE_RUN]) s.refereeGone s.ballGone :=
  Effect.after (State.wr_effect ..) (by decide +kernel)
    (Effect.each (Effect.refl ..) fun _ _ => (State.wr_effect ..).widen (by decide +kernel))

/-- A field that repeats with one stride, written with one value at every index below a bound. -/
theorem State.each_wr_rd (s : State) {f : Field} {n v : Nat} (hfield : f.n1 = n ∧ 0 < f.n2 ∧ 0 < f.s1 ∧ f.s2 = 0)
    (hdom : f.dom ≠ .fixed) : ∀ k, k < n → (s.each (upTo n) fun s k => s.wr f v k).rd f k = v % 2 ^ f.width := by
  obtain ⟨hn1, hn2, hs1, hs2⟩ := hfield
  have hall := (State.each_forall (I := fun _ => True) (P := fun k u => u.rd f k = v % 2 ^ f.width) (l := upTo n) (s := s)
    (f := fun s k => s.wr f v k) trivial (fun _ _ _ _ => trivial) (fun u _ k hk => ?_) fun u _ a _ k hak hk => ?_).2
  · exact fun k hk => hall k (mem_upTo.mpr hk)
  · exact State.rd_wr_same _ _ _ _ _ (by simp [Field.has, hn1, hn2, mem_upTo.mp hk]) hdom
  · exact (State.wr_keepsOthers u v a ⟨hs1, hs2⟩ k (Ne.symm hak) 0).trans hk

theorem State.ballGone_does (s : State) : s.ballGone.rd Reg.FAULT_STATE.ALIVE_RUN = 0 ∧
    ∀ e, e < 16 → s.ballGone.rd Reg.ENG_STATUS.BALL e = 0 := by
  refine ⟨State.rd_wr_same _ _ _ _ _ rfl (by decide), fun e he => ?_⟩
  rw [State.ballGone, State.rd_wr_apart _ _ _ _ _ _ (by decide +kernel), State.each_wr_rd _ (by decide) (by decide) e he]
  rfl

/-! ### The commands -/

theorem exec_quietTimeout (s : State) (t : Nat) : exec (.quietTimeout t) s = done (s.elapse t).quietTimeout := rfl

theorem exec_aliveToggle (s : State) (t : Nat) : exec (.aliveToggle t) s = done (s.elapse t).aliveToggle := rfl

theorem exec_refereeMismatch (s : State) (t : Nat) : exec (.refereeMismatch t) s = done ((s.elapse t).ballGone.raise 58 0) := rfl

theorem State.elapse_contained (s : State) (t : Nat) :
    (s.elapse t).rd Reg.FAULT_STATE.CONTAINED = s.rd Reg.FAULT_STATE.CONTAINED := s.elapse_rd t _ 0 0 (by decide +kernel)

theorem State.elapse_fatal (s : State) (t : Nat) : (s.elapse t).rd Reg.FAULT_STATE.FATAL = s.rd Reg.FAULT_STATE.FATAL :=
  s.elapse_rd t _ 0 0 (by decide +kernel)

theorem State.elapse_aliveRun (s : State) (t : Nat) :
    (s.elapse t).rd Reg.FAULT_STATE.ALIVE_RUN = s.rd Reg.FAULT_STATE.ALIVE_RUN := s.elapse_rd t _ 0 0 (by decide +kernel)

/-- Settles O52: the quiet time, the toggle and the mismatch, each at its command's instant. -/
theorem quietTimeEndsContainmentAndAliveToggles : Obligations.QuietTimeEndsContainmentAndAliveToggles := by
  unfold Obligations.QuietTimeEndsContainmentAndAliveToggles
  refine ⟨?ends, ?waits, ?toggles, ?stops, ?mismatch⟩
  case ends =>
    intro s t hcontained hfatal hquiet
    have hexec := exec_quietTimeout s t
    obtain ⟨hleft, hevent, hcount⟩ := State.quietTimeout_does (s := s.elapse t) (by rwa [State.elapse_contained])
      (by rwa [State.elapse_fatal]) (by rwa [State.elapse_faults])
    refine ⟨_, hexec, ?_, ?_, ?_, Effect.of_exec (execQuietTimeout_effect t s) hexec (by decide) (by decide +kernel)⟩
    · rw [State.settle_rd _ _ _ _ (by decide +kernel), hleft]
    · rw [State.settle_rd _ _ _ _ (by decide +kernel), hevent]
    · rw [State.settle_rd _ _ _ _ (by decide +kernel), hcount, s.elapse_rd t _ 0 0 (by decide +kernel)]
  case waits =>
    intro s t h
    have hwaits : (s.elapse t).quietTimeout = s.elapse t :=
      State.quietTimeout_waits (by rwa [State.elapse_contained, State.elapse_fatal, State.elapse_faults])
    exact ⟨_, (exec_quietTimeout s t).trans (congrArg done hwaits), s.elapse_settle_effect t⟩
  case toggles =>
    intro s t hrun hwhole
    have hexec := exec_aliveToggle s t
    obtain ⟨hfaults, hhz⟩ := State.aliveToggle_does (s := s.elapse t) (by rwa [State.elapse_aliveRun]) (by rwa [State.elapse_referee])
    refine ⟨_, hexec, ?_, ?_, Effect.of_exec (execAliveToggle_effect t s) hexec (by decide) (by decide +kernel)⟩
    · rw [State.settle_faults, hfaults, State.elapse_faults]
    · rw [State.settle_rd _ _ _ _ (by decide +kernel), hhz, State.elapse_faults, s.elapse_rd t _ 0 0 (by decide +kernel)] <;>
        rfl
  case stops =>
    intro s t h
    have hstops : (s.elapse t).aliveToggle = s.elapse t :=
      State.aliveToggle_stops (by rwa [State.elapse_aliveRun, State.elapse_referee])
    exact ⟨_, (exec_aliveToggle s t).trans (congrArg done hstops), by rw [State.settle_faults, State.elapse_faults]⟩
  case mismatch =>
    intro s t
    have hexec := exec_refereeMismatch s t
    have hgone := (s.elapse t).ballGone_effect
    have hraise := State.raise_effect (s.elapse t).ballGone 58 0
    have hevents : raises (s.elapse t) ((s.elapse t).ballGone.raise 58 0) 58 0 :=
      raises_raise_keepSource (hgone.evtAt (by rw [hgone.same .power (by decide)])) (by decide) 0
    have halive : ((s.elapse t).ballGone.raise 58 0).faults.alive = (s.elapse t).ballGone.faults.alive := by
      rw [State.raise_keepSource _ (by decide)]
    obtain ⟨hrun, hball⟩ := (s.elapse t).ballGone_does
    refine ⟨_, hexec, ?_, ?_, ?_, ?_, fun e he => ?_, State.settle_raises hevents,
      Effect.of_exec (execRefereeMismatch_effect t s) hexec (by decide) (by decide +kernel)⟩
    · rw [State.settle_referee, hraise.same .referee (by decide), hgone.same .referee (by decide)]
      rfl
    · rw [State.settle_referee, hraise.same .referee (by decide), hgone.same .referee (by decide)]
      rfl
    · rw [State.settle_faults, halive, hgone.same .faults (by decide)]
      rfl
    · rw [State.settle_rd _ _ _ _ (by decide +kernel), hraise.rd _ _ _ (by decide +kernel), hrun]
    · rw [State.settle_rd _ _ _ _ (by decide +kernel), hraise.rd _ _ _ (by decide +kernel), hball e he]

end Sys2Proof.Machine
end

section
namespace Sys2Proof.Machine

set_option Elab.async false

/-! ### Roles of the two planes (Table 09-5) -/

section
variable (s : State) (p r : Nat)

/-- What a role shows follows its register, and UNFIT stands before it. -/
theorem State.setRole_after : Effect [.power, .engs] (some ([Reg.REF_STATUS.ROLE_A, Reg.REF_STATUS.ROLE_B] ++ movesPlane))
    (s.when (decide (r = roUnfit ∧ s.role p ≠ roUnfit)) (·.wr Reg.REF_EVENT.UNFIT 1)) (s.setRole p r) := by
  unfold State.setRole
  extract_lets unfit on role domain engines exports
  have hrole : Effect [.power, .engs] (some ([Reg.REF_STATUS.ROLE_A, Reg.REF_STATUS.ROLE_B] ++ movesPlane)) unfit role :=
    (State.wr_effect ..).more (by split <;> decide +kernel) |>.grow (by decide)
  have hdomain := hrole.step (State.wr_effect role (if p = 0 then Reg.DOMAIN_STATE.PLANE_A else Reg.DOMAIN_STATE.PLANE_B) (b01 on) 0 0)
    (by split <;> decide +kernel)
  have hengines : Effect [.power, .engs] (some ([Reg.REF_STATUS.ROLE_A, Reg.REF_STATUS.ROLE_B] ++ movesPlane)) unfit engines :=
    Effect.each hdomain fun u j => Effect.when
      (Effect.after (State.wr_effect ..) (by decide +kernel) <| Effect.after (State.wr_effect ..) (by decide +kernel) <|
        (State.wr_effect ..).widen (by decide +kernel))
      fun v => (State.modEng_effect ..).widen (by decide +kernel)
  have hexports : Effect [.power, .engs] (some ([Reg.REF_STATUS.ROLE_A, Reg.REF_STATUS.ROLE_B] ++ movesPlane)) unfit exports :=
    Effect.when hengines fun u => (State.showExports_effect ..).widen (by decide +kernel)
  refine Effect.ite hexports ?_
  exact Effect.after (State.wrBit_effect ..) (by decide +kernel) (Effect.after (Effect.power ..) (by decide +kernel) hexports)

/-- A plane that becomes UNFIT says so. -/
theorem State.setRole_unfit (h : s.role p ≠ roUnfit) : (s.setRole p roUnfit).rd Reg.REF_EVENT.UNFIT = 1 := by
  have hafter := s.setRole_after p roUnfit
  rw [State.when, if_pos (by simp [h])] at hafter
  rw [hafter.rd _ _ _ (by decide +kernel), State.rd_wr_same _ _ _ _ _ rfl (by decide)]
  rfl

/-- The role of the other plane is left. -/
theorem State.setRole_otherRole {q : Nat} (h : q = 0 ↔ p ≠ 0) : (s.setRole p r).role q = s.role q := by
  obtain ⟨u, hunfit, hrest⟩ := s.setRole_writes p r
  unfold State.role
  by_cases hp : p = 0
  · have hq : q ≠ 0 := fun hq => h.mp hq hp
    simp only [hp, hq, if_true, if_false] at hrest ⊢
    rw [hrest.rd _ _ _ (by decide +kernel), State.rd_wr_apart _ _ _ _ _ _ (by decide +kernel), hunfit.rd _ _ _ (by decide +kernel)]
  · have hq : q = 0 := h.mpr hp
    simp only [hp, hq, if_true, if_false] at hrest ⊢
    rw [hrest.rd _ _ _ (by decide +kernel), State.rd_wr_apart _ _ _ _ _ _ (by decide +kernel), hunfit.rd _ _ _ (by decide +kernel)]

theorem State.setRole_bridge : (s.setRole p r).power.bridge = s.power.bridge := (congrArg PowerSt.bridge (s.setRole_sansGood p r) :)

theorem State.setRole_evtAt : (s.setRole p r).evtAt = s.evtAt := (State.setRole_effect s p r).evtAt (s.setRole_bridge p r)

/-- What the memories of an engine hold: states, exports and both banks. -/
def EngSt.memories (x : EngSt) : List Int × List Int × List Coef × List Coef := (x.states, x.exports, x.bankA, x.bankB)

/-- A role leaves the memories of every engine: a run that ends is not committed (R373). -/
theorem State.setRole_memories (e : Nat) : ((s.setRole p r).eng e).memories = (s.eng e).memories := by
  unfold State.setRole
  extract_lets unfit on role domain engines exports
  have hdomain : domain.engs = s.engs := by
    simp only [domain, role, State.wr_engs]
    exact State.when_keeps (·.engs) (fun u => State.wr_engs ..) s
  have hengines : (engines.eng e).memories = (domain.eng e).memories :=
    State.each_keeps (fun u => (u.eng e).memories) (fun u j => by
      refine (State.when_keeps (fun v => (v.eng e).memories) (fun v => ?_) _).trans (by simp only [State.eng, State.wr_engs])
      by_cases he : e = engOf p j
      · simp only [he, State.modEng_same]
        rfl
      · rw [State.modEng_other _ _ _ he]) domain
  have hexports : exports.engs = engines.engs :=
    State.when_keeps (·.engs) (fun u => (State.showExports_effect ..).same .engs (by decide)) engines
  have hall : (exports.eng e).memories = (s.eng e).memories := by
    rw [State.eng, hexports, ← State.eng, hengines, State.eng, hdomain, ← State.eng]
  split
  · exact hall
  · simpa only [State.eng, State.wrBit, State.wr_engs] using hall

end

end Sys2Proof.Machine
end

section
namespace Sys2Proof.Machine

set_option Elab.async false

/-! ### Events of the keep domain through effects -/

theorem State.raise_keepSource_effect (s : State) {pos : Nat} (hpos : keepSource pos = true) (detail : Nat) :
    Effect [.faults] (some []) s (s.raise pos detail) := by
  rw [State.raise_keepSource s hpos]
  exact Effect.faults ..

theorem State.role_congr {s t : State} (hA : t.rd Reg.REF_STATUS.ROLE_A = s.rd Reg.REF_STATUS.ROLE_A)
    (hB : t.rd Reg.REF_STATUS.ROLE_B = s.rd Reg.REF_STATUS.ROLE_B) (p : Nat) : t.role p = s.role p := by
  unfold State.role
  split
  · exact hA
  · exact hB

/-- An effect that leaves the registers of the roles. -/
theorem Effect.role {A : List Part} {F : List Field} {s t : State} (k : Effect A (some F) s t) (p : Nat)
    (hF : (F.all fun g => Reg.REF_STATUS.ROLE_A.apart g && Reg.REF_STATUS.ROLE_B.apart g) = true := by decide +kernel) :
    t.role p = s.role p := by
  simp only [List.all_eq_true, Bool.and_eq_true] at hF
  exact State.role_congr (k.rd _ 0 0 (List.all_eq_true.mpr fun g hg => (hF g hg).1))
    (k.rd _ 0 0 (List.all_eq_true.mpr fun g hg => (hF g hg).2)) p

/-! ### The ball leaves its plane (R201, R210) -/

/-- What a withdrawal records of the referee at an instant. -/
def RefSt.taken (r : RefSt) (ns : Nat) : RefSt :=
  { r with ball := false, forced := false, expiring := false, renewed := false, writing := none, withdrawnAt := ns, gap := 0,
           late := false, shadow := none, troubleAt := some ns }

/-- The role of the plane that loses the ball: a lease that runs out alone leaves it fit (R201). -/
def State.roleTaken (s : State) (cause : Nat) : Nat := if cause = 1 ∧ s.referee.heartbeat then roCold else roUnfit

/-- A withdrawal before the standby is asked. -/
def State.ballTaken (s : State) (cause : Nat) : State :=
  let t := (s.wr Reg.REF_TAKEOVER.LAST_CAUSE cause).wr Reg.REF_STATUS.LEASE 0
  let t := (t.setRole s.holder (t.roleTaken cause)).raise 20 (16 * s.holder + cause)
  t.modRef fun r => r.taken t.time.ns

/-- The register fields that move as the ball leaves its plane. -/
def movesTaken : List Field := [Reg.REF_TAKEOVER.LAST_CAUSE, Reg.REF_STATUS.LEASE] ++ State.setRole_fields.getD []

/-- The register fields that a withdrawal moves, where a standby can wake. -/
def movesWithdrawal : List Field := Reg.REF_STATUS.STATE :: movesTaken

section
variable (s : State) (cause : Nat)

theorem State.ballTaken_effect : Effect [.power, .faults, .engs, .referee] (some movesTaken) s (s.ballTaken cause) := by
  unfold State.ballTaken
  extract_lets leased raised
  have hleased : Effect [.power, .faults, .engs, .referee] (some movesTaken) s leased :=
    Effect.after (State.wr_effect ..) (by decide +kernel) ((State.wr_effect ..).widen (by decide +kernel))
  refine Effect.after (State.modRef_effect ..) (by decide +kernel) ?_
  refine Effect.after (State.raise_keepSource_effect _ (by decide) _) (by decide +kernel) ?_
  exact Effect.after (State.setRole_effect ..) (by decide +kernel) hleased

theorem State.ballTaken_referee : (s.ballTaken cause).referee = s.referee.taken s.time.ns := by
  unfold State.ballTaken
  extract_lets leased raised
  have hrole := State.setRole_effect leased s.holder (leased.roleTaken cause)
  have hraise := State.raise_keepSource_effect (leased.setRole s.holder (leased.roleTaken cause)) (pos := 20) (by decide)
    (16 * s.holder + cause)
  rw [State.modRef_referee, hraise.same .referee (by decide), hraise.same .time (by decide), hrole.same .referee (by decide),
    hrole.same .time (by decide)]
  simp only [leased, State.wr_referee, State.wr_time]

/-- The referee's registers at a withdrawal, and its event. -/
theorem State.ballTaken_withdrawn (hcause : cause < 8) : withdrawn s (s.ballTaken cause) s.holder cause := by
  have hreferee := s.ballTaken_referee cause
  unfold withdrawn
  rw [hreferee]
  unfold State.ballTaken
  extract_lets leased raised
  have hleasedEvt : leased.evtAt = s.evtAt :=
    ((State.wr_effect ..).evtAt (by rw [State.wr_power])).trans ((State.wr_effect ..).evtAt (by rw [State.wr_power]))
  have hevents : raises s raised 20 (16 * s.holder + cause) :=
    raises_raise_keepSource ((State.setRole_evtAt ..).trans hleasedEvt) (by decide) _
  have hrole := State.setRole_effect leased s.holder (leased.roleTaken cause)
  have hraise := State.raise_keepSource_effect (leased.setRole s.holder (leased.roleTaken cause)) (pos := 20) (by decide)
    (16 * s.holder + cause)
  refine ⟨rfl, ?_, ?_, rfl, hevents⟩
  · rw [State.modRef_rd, hraise.rd _ _ _ (by decide +kernel), hrole.rd _ _ _ (by decide +kernel),
      State.rd_wr_apart _ _ _ _ _ _ (by decide +kernel), State.rd_wr_same _ _ _ _ _ rfl (by decide)]
    exact Nat.mod_eq_of_lt hcause
  · rw [State.modRef_rd, hraise.rd _ _ _ (by decide +kernel), hrole.rd _ _ _ (by decide +kernel),
      State.rd_wr_same _ _ _ _ _ rfl (by decide)]
    rfl

/-- The planes' roles at a withdrawal. -/
theorem State.ballTaken_roles : (s.ballTaken cause).role s.holder = s.roleTaken cause ∧
    (∀ q, (q = 0 ↔ s.holder ≠ 0) → (s.ballTaken cause).role q = s.role q) ∧
    (s.roleTaken cause = roUnfit → s.role s.holder ≠ roUnfit → (s.ballTaken cause).rd Reg.REF_EVENT.UNFIT = 1) := by
  unfold State.ballTaken
  extract_lets leased raised
  have hleased : Effect [] (some [Reg.REF_TAKEOVER.LAST_CAUSE, Reg.REF_STATUS.LEASE]) s leased :=
    Effect.after (State.wr_effect ..) (by decide +kernel) ((State.wr_effect ..).widen (by decide +kernel))
  have hsame : leased.roleTaken cause = s.roleTaken cause := by
    rw [State.roleTaken, hleased.same .referee (by decide), ← State.roleTaken]
  have hraise := State.raise_keepSource_effect (leased.setRole s.holder (leased.roleTaken cause)) (pos := 20) (by decide)
    (16 * s.holder + cause)
  have hrole : ∀ q, (raised.modRef fun r => r.taken raised.time.ns).role q = (leased.setRole s.holder (s.roleTaken cause)).role q :=
    fun q => (hsame ▸ hraise.role q : raised.role q = _)
  refine ⟨?_, fun q hq => ?_, fun hunfit hfit => ?_⟩
  · rw [hrole, State.setRole_role]
    unfold State.roleTaken
    split <;> rfl
  · rw [hrole, State.setRole_otherRole _ _ _ hq, hleased.role]
  · rw [State.modRef_rd, hraise.rd _ _ _ (by decide +kernel), hsame, hunfit]
    exact State.setRole_unfit _ _ (by rwa [hleased.role])

/-! ### A standby that wakes (R201, R207) -/

/-- A withdrawal in HELD with a COLD standby. -/
theorem State.withdraw_wakes {s : State} {cause : Nat} (hwhole : s.referee.broken = false) (hball : s.referee.ball = true)
    (hstate : s.refState = rsHeld) (hholder : s.holder ≤ 1) (hcold : s.role (1 - s.holder) = roCold) : s.withdraw cause =
    (((s.ballTaken cause).setRole (1 - s.holder) roWaking).modRef fun r => { r with wake := .power }).wr Reg.REF_STATUS.STATE rsWake := by
  have hstandby := (s.ballTaken_roles cause).2.1 (1 - s.holder) (by omega)
  unfold State.withdraw
  rw [if_neg (by simp [hwhole]), if_neg (by simp [hball])]
  exact if_pos ⟨hstate, hstandby.trans hcold⟩

end

/-- What a withdrawal leaves where the standby begins to wake, as its command ends. -/
structure Woken (s n : State) (cause : Nat) : Prop where
  taken : withdrawn s n s.holder cause
  role : n.role s.holder = s.roleTaken cause
  unfit : s.roleTaken cause = roUnfit → s.role s.holder ≠ roUnfit → n.rd Reg.REF_EVENT.UNFIT = 1
  state : n.refState = rsWake
  standby : n.role (1 - s.holder) = roWaking
  referee : n.referee = { s.referee.taken s.time.ns with wake := .power }
  kept : Effect [.power, .faults, .host, .engs, .referee, .out] (some (movesWithdrawal ++ movesIrq)) s n

theorem State.withdraw_woken {s : State} {cause : Nat} (hcause : cause < 8) (hwhole : s.referee.broken = false)
    (hball : s.referee.ball = true) (hstate : s.refState = rsHeld) (hholder : s.holder ≤ 1) (hcold : s.role (1 - s.holder) = roCold) :
    Woken s (s.withdraw cause).settle cause := by
  rw [State.withdraw_wakes hwhole hball hstate hholder hcold]
  obtain ⟨hball', hlast, hlease, hns, hevent⟩ := s.ballTaken_withdrawn cause hcause
  obtain ⟨hrole, -, hunfit⟩ := s.ballTaken_roles cause
  have hreferee := s.ballTaken_referee cause
  have htaken := s.ballTaken_effect cause
  generalize s.ballTaken cause = u at *
  have hwaking := State.setRole_effect u (1 - s.holder) roWaking
  have hother : (u.setRole (1 - s.holder) roWaking).role s.holder = u.role s.holder := u.setRole_otherRole _ _ (by omega)
  have hstandby := u.setRole_role (1 - s.holder) roWaking
  have hafter : Effect [.power, .engs] (some (State.setRole_fields.getD [])) u (u.setRole (1 - s.holder) roWaking) := hwaking
  have hunfitKept := u.setRole_after (1 - s.holder) roWaking
  rw [State.when, if_neg (by simp [roWaking, roUnfit])] at hunfitKept
  generalize u.setRole (1 - s.holder) roWaking = v at *
  have hend : Effect [.host, .referee, .out] (some (Reg.REF_STATUS.STATE :: movesIrq)) v
      ((v.modRef fun r => { r with wake := .power }).wr Reg.REF_STATUS.STATE rsWake).settle :=
    Effect.after (State.settle_effect _) (by decide +kernel)
      (Effect.after (State.wr_effect ..) (by decide +kernel) ((State.modRef_effect ..).widen (by decide +kernel)))
  have hrefereeEnd : ((v.modRef fun r => { r with wake := .power }).wr Reg.REF_STATUS.STATE rsWake).settle.referee =
      { v.referee with wake := .power } := by rw [State.settle_referee, State.wr_referee, State.modRef_referee]
  have hstateEnd : ((v.modRef fun r => { r with wake := .power }).wr Reg.REF_STATUS.STATE rsWake).settle.refState = rsWake := by
    rw [State.refState, State.settle_rd _ _ _ _ (by decide +kernel), State.rd_wr_same _ _ _ _ _ rfl (by decide)]
    rfl
  generalize ((v.modRef fun r => { r with wake := .power }).wr Reg.REF_STATUS.STATE rsWake).settle = n at *
  have hrefereeAll : n.referee = { s.referee.taken s.time.ns with wake := .power } := by
    rw [hrefereeEnd, hafter.same .referee (by decide), hreferee]
  refine ⟨⟨?_, ?_, ?_, ?_, ?_⟩, ?_, fun h1 h2 => ?_, hstateEnd, ?_, hrefereeAll, ?_⟩
  · rw [hrefereeAll]; rfl
  · rw [hend.rd _ _ _ (by decide +kernel), hafter.rd _ _ _ (by decide +kernel), hlast]
  · rw [hend.rd _ _ _ (by decide +kernel), hafter.rd _ _ _ (by decide +kernel), hlease]
  · rw [hrefereeAll]; rfl
  · rw [raises, hend.same .faults (by decide), hafter.same .faults (by decide), hevent]
  · rw [hend.role, hother, hrole]
  · rw [hend.rd _ _ _ (by decide +kernel), hunfitKept.rd _ _ _ (by decide +kernel), hunfit h1 h2]
  · rw [hend.role, hstandby]
    rfl
  · exact (((htaken.more (by decide +kernel)).grow (by decide)).step
      ((hafter.more (by decide +kernel)).grow (by decide)) (Effect.fits_refl _ _)).step ((hend.more (by decide +kernel)).grow (by decide))
      (Effect.fits_refl _ _)

/-! ### No plane can take the ball (R205) -/

/-- A plane that is not OFF becomes UNFIT as the referee is lost. -/
def State.unfitPlane (s : State) (p : Nat) : State := if s.role p = roOff then s else s.setRole p roUnfit

theorem State.unfitPlane_role (s : State) (p : Nat) : (s.unfitPlane p).role p = if s.role p = roOff then roOff else roUnfit := by
  unfold State.unfitPlane
  split
  case isTrue h => exact h
  case isFalse h =>
    rw [State.setRole_role]
    rfl

theorem State.unfitPlane_otherRole (s : State) {p q : Nat} (h : q = 0 ↔ p ≠ 0) : (s.unfitPlane p).role q = s.role q := by
  unfold State.unfitPlane
  split
  · rfl
  · exact s.setRole_otherRole p _ h

theorem State.unfitPlane_effect (s : State) (p : Nat) : Effect State.setRole_touch State.setRole_fields s (s.unfitPlane p) :=
  Effect.ite (Effect.refl ..) (State.setRole_effect ..)

/-- The referee is LOST: what it shows and keeps. -/
structure Lost (s n : State) : Prop where
  state : n.refState = rsLost
  lease : n.rd Reg.REF_STATUS.LEASE = 0
  referee : n.referee = { s.referee with ball := false, wake := .none, shadow := none, forced := false, expiring := false, writing := none }
  role : ∀ p, p ≤ 1 → n.role p = if s.role p = roOff then roOff else roUnfit

theorem State.lose_lost {s : State} (hstate : s.refState ≠ rsLost) (hwhole : s.referee.broken = false) : Lost s s.lose := by
  unfold State.lose
  rw [if_neg (by simp [hstate, hwhole])]
  extract_lets unfit left lost
  have hunfit : unfit = (s.unfitPlane 0).unfitPlane 1 := rfl
  have hroleA : unfit.role 0 = if s.role 0 = roOff then roOff else roUnfit := by
    rw [hunfit, State.unfitPlane_otherRole _ (by decide), State.unfitPlane_role]
  have hroleB : unfit.role 1 = if s.role 1 = roOff then roOff else roUnfit := by
    rw [hunfit, State.unfitPlane_role, State.unfitPlane_otherRole _ (by decide)]
  have hreferee : unfit.referee = s.referee :=
    ((State.unfitPlane_effect ..).same .referee (by decide)).trans ((State.unfitPlane_effect ..).same .referee (by decide))
  have hlost : Effect [] (some [Reg.REF_STATUS.STATE, Reg.REF_STATUS.LEASE]) left lost :=
    Effect.after (State.wr_effect ..) (by decide +kernel) ((State.wr_effect ..).widen (by decide +kernel))
  have hraise := State.raise_keepSource_effect lost (pos := 56) (by decide) lost.holder
  have hblock := State.blockAll_effect (lost.raise 56 lost.holder) 2
  refine ⟨?_, ?_, ?_, fun p hp => ?_⟩
  · rw [State.refState, hblock.rd _ _ _ (by decide +kernel), hraise.rd _ _ _ (by decide +kernel),
      State.rd_wr_apart _ _ _ _ _ _ (by decide +kernel), State.rd_wr_same _ _ _ _ _ rfl (by decide)]
    rfl
  · rw [hblock.rd _ _ _ (by decide +kernel), hraise.rd _ _ _ (by decide +kernel), State.rd_wr_same _ _ _ _ _ rfl (by decide)]
    rfl
  · rw [hblock.same .referee (by decide), hraise.same .referee (by decide), hlost.same .referee (by decide), State.modRef_referee, hreferee]
  · have hkept : ((lost.raise 56 lost.holder).blockAll 2).role p = unfit.role p := by
      rw [hblock.role, hraise.role, hlost.role]
      rfl
    rw [hkept]
    obtain rfl | rfl : p = 0 ∨ p = 1 := by omega
    · exact hroleA
    · exact hroleB

end Sys2Proof.Machine
end

section
namespace Sys2Proof.Machine

set_option Elab.async false

/-! ### A further cause at the instant of a withdrawal (R201) -/

theorem State.withdraw_merges {s : State} {cause : Nat} (hwhole : s.referee.broken = false) (hball : s.referee.ball = false)
    (hheld : s.heldNow s.holder = true) (hcause : cause ≠ 1) (hlt : cause < 8) :
    (s.withdraw cause).referee = s.referee ∧ (s.withdraw cause).refState = s.refState ∧
    (s.withdraw cause).rd Reg.REF_TAKEOVER.LAST_CAUSE = if s.rd Reg.REF_TAKEOVER.LAST_CAUSE ≠ 1 ∧ s.rd Reg.REF_TAKEOVER.LAST_CAUSE ≤ cause
      then s.rd Reg.REF_TAKEOVER.LAST_CAUSE else cause := by
  have hmerge : s.withdraw cause = s.mergeCause cause := by
    unfold State.withdraw
    rw [if_neg (by simp [hwhole]), if_pos (by simp [hball])]
  rw [hmerge]
  unfold State.mergeCause
  extract_lets p old noted unfit
  by_cases hold : old ≠ 1 ∧ old ≤ cause
  · rw [if_pos (by simp [hold]), if_pos hold]
    exact ⟨rfl, rfl, rfl⟩
  · rw [if_neg (by simp only [p, hheld, hball]; simp [hcause]; omega), if_neg hold]
    have hnoted : Effect [.power, .engs] State.setRole_fields noted unfit :=
      Effect.when (Effect.refl ..) fun u => State.setRole_effect u p roUnfit
    refine ⟨(hnoted.same .referee (by decide)).trans (State.wr_referee ..), ?_, ?_⟩
    · exact (hnoted.rd _ _ _ (by decide +kernel)).trans (State.rd_wr_apart _ _ _ _ _ _ (by decide +kernel))
    · exact (hnoted.rd _ _ _ (by decide +kernel)).trans
        ((State.rd_wr_same _ _ _ _ _ rfl (by decide)).trans (Nat.mod_eq_of_lt hlt))

/-! ### A fault of a plane is noted (Table 09-2, R389) -/

theorem State.heldNow_congr {s t : State} {p : Nat} (hrole : t.role p = s.role p) (hball : t.referee.ball = s.referee.ball)
    (hholder : t.holder = s.holder) (hns : t.referee.withdrawnAt = s.referee.withdrawnAt) (htime : t.time = s.time)
    (hstate : t.refState = s.refState) : t.heldNow p = s.heldNow p := by
  simp only [State.heldNow, hrole, hball, hholder, hns, htime, hstate]

/-- The register fields in which a fault of a plane is noted. -/
def movesNoted : List Field := [Reg.ENG_ECC.UNCORRECTABLE, Reg.POWER_PGOOD.PGOOD] ++ State.wakeFailNote_fields.getD []

/-- A fault of a plane noted in its own registers, before the referee answers it. -/
structure FaultNoted (a u : State) : Prop where
  kept : Effect [.power, .referee] (some movesNoted) a u
  bridge : u.power.bridge = a.power.bridge
  referee : ∃ b, u.referee = { a.referee with heartbeat := b }

section
variable {a u : State}

theorem FaultNoted.of_effect {F : List Field} (k : Effect [] (some F) a u) (hF : ∀ f ∈ F, f ∈ movesNoted) : FaultNoted a u :=
  ⟨(k.more hF).grow (by decide), congrArg PowerSt.bridge (k.same .power (by decide)), a.referee.heartbeat,
    k.same .referee (by decide)⟩

theorem FaultNoted.evtAt (h : FaultNoted a u) : u.evtAt = a.evtAt := h.kept.evtAt h.bridge

theorem FaultNoted.rd (h : FaultNoted a u) {f : Field} (hf : (movesNoted.all fun g => f.apart g) = true) (i j : Nat) :
    u.rd f i j = a.rd f i j := h.kept.rd f i j hf

theorem FaultNoted.holder (h : FaultNoted a u) : u.holder = a.holder := h.rd (by decide +kernel) 0 0

theorem FaultNoted.refState (h : FaultNoted a u) : u.refState = a.refState := h.rd (by decide +kernel) 0 0

theorem FaultNoted.role (h : FaultNoted a u) (p : Nat) : u.role p = a.role p := h.kept.role p

theorem FaultNoted.ball (h : FaultNoted a u) : u.referee.ball = a.referee.ball := by
  obtain ⟨b, hb⟩ := h.referee
  rw [hb]

theorem FaultNoted.broken (h : FaultNoted a u) : u.referee.broken = a.referee.broken := by
  obtain ⟨b, hb⟩ := h.referee
  rw [hb]

theorem FaultNoted.heldNow (h : FaultNoted a u) (p : Nat) : u.heldNow p = a.heldNow p := by
  obtain ⟨b, hb⟩ := h.referee
  exact State.heldNow_congr (h.role p) h.ball h.holder (by rw [hb]) (h.kept.same .time (by decide)) h.refState

end

/-- The rail of a plane reports its loss. -/
def State.railLost (s : State) (p : Nat) : State :=
  { s with power := { s.power with pgood := clrBit s.power.pgood (2 + p) } }.wrBit Reg.POWER_PGOOD.PGOOD p false

theorem State.railLost_effect (s : State) (p : Nat) : Effect [.power] (some [Reg.POWER_PGOOD.PGOOD]) s (s.railLost p) :=
  Effect.after (State.wrBit_effect ..) (by decide +kernel) ((Effect.power ..).widen (by decide +kernel))

theorem State.railLost_power (s : State) (p : Nat) :
    (s.railLost p).power = { s.power with pgood := clrBit s.power.pgood (2 + p) } := State.wr_power ..

theorem State.railLost_noted (s : State) (p : Nat) : FaultNoted s (s.railLost p) :=
  ⟨((s.railLost_effect p).more (by decide +kernel)).grow (by decide), by rw [State.railLost_power], s.referee.heartbeat,
    (s.railLost_effect p).same .referee (by decide)⟩

/-- The engine in whose memory an uncorrectable error lies. -/
theorem State.eccNoted (s : State) (e : Nat) : FaultNoted s (s.wr Reg.ENG_ECC.UNCORRECTABLE 1 e) :=
  .of_effect (State.wr_effect ..) (by decide +kernel)

theorem State.heartbeatGone_noted (s : State) : FaultNoted s (s.modRef fun r => { r with heartbeat := false }) :=
  ⟨((State.modRef_effect ..).more (by decide +kernel)).grow (by decide), rfl, false, rfl⟩

theorem engOf_plane (p : Fin 2) (j : Fin 8) : engOf p.val j.val / 8 = p.val := by
  unfold engOf
  omega

/-! ### The commands of a plane's faults -/

theorem exec_heartbeatLoss (s : State) (p : Fin 2) (t : Nat) : exec (.heartbeatLoss p t) s = done ((s.elapse t).heartbeatLoss p.val) := rfl

theorem exec_planeEccError (s : State) (p : Fin 2) (j : Fin 8) (t : Nat) : exec (.planeEccError p j t) s =
    done (((s.elapse t).wr Reg.ENG_ECC.UNCORRECTABLE 1 (engOf p.val j.val)).planeEcc p.val) := by
  have hexec : exec (.planeEccError p j t) s = done ((s.elapse t).engineEcc (engOf p.val j.val)) := rfl
  rw [hexec, State.engineEcc, engOf_plane]

theorem exec_planePgoodLoss (s : State) (p : Fin 2) (t : Nat) : exec (.planePgoodLoss p t) s =
    done (if ((s.elapse t).railLost p.val).heldNow p.val then ((s.elapse t).railLost p.val).withdraw 4
      else if ((s.elapse t).railLost p.val).role p.val = roWaking ∨ ((s.elapse t).railLost p.val).role p.val = roShadow then
        ((s.elapse t).railLost p.val).wakeFails false
      else (s.elapse t).railLost p.val) := rfl

theorem exec_planeErrorLine (s : State) (p : Fin 2) (t : Nat) : exec (.planeErrorLine p t) s =
    done (if (s.elapse t).heldNow p.val then (s.elapse t).withdraw 5 else s.elapse t) := rfl

theorem exec_leaseExpiry (s : State) (t : Nat) : exec (.leaseExpiry t) s =
    done (if (s.elapse t).referee.expiring then (s.elapse t).withdrawAtTick else s.elapse t) := rfl

theorem exec_forceTakeover (s : State) (t : Nat) : exec (.forceTakeover t) s = done (s.elapse t).forceTakeover := rfl

section
variable {s : State} {p : Fin 2} {t : Nat}

/-- Each fault of the plane that holds the ball, or has lost it at this instant, withdraws it with its cause (Table 09-2). -/
theorem exec_holderFault (j : Fin 8) (hheld : (s.elapse t).heldNow p.val = true) :
    ∀ x ∈ [(Instr.heartbeatLoss p t, 2), (.planeEccError p j t, 3), (.planePgoodLoss p t, 4), (.planeErrorLine p t, 5)],
      x.2 ≠ 1 ∧ x.2 < 8 ∧ ∃ u, exec x.1 s = done (u.withdraw x.2) ∧ FaultNoted (s.elapse t) u := by
  intro x hx
  simp only [List.mem_cons, List.not_mem_nil, or_false] at hx
  rcases hx with rfl | rfl | rfl | rfl
  · exact ⟨by simp, by simp, _, (exec_heartbeatLoss s p t).trans (congrArg done (if_pos hheld)), State.heartbeatGone_noted _⟩
  · have hnoted := (s.elapse t).eccNoted (engOf p.val j.val)
    exact ⟨by simp, by simp, _, (exec_planeEccError s p j t).trans (congrArg done (if_pos ((hnoted.heldNow _).trans hheld))), hnoted⟩
  · have hnoted := (s.elapse t).railLost_noted p.val
    exact ⟨by simp, by simp, _, (exec_planePgoodLoss s p t).trans (congrArg done (if_pos ((hnoted.heldNow _).trans hheld))), hnoted⟩
  · exact ⟨by simp, by simp, _, (exec_planeErrorLine s p t).trans (congrArg done (if_pos hheld)),
      .of_effect (Effect.refl [] (some []) _) (by decide)⟩

/-- Each fault of the plane that wakes or shadows fails its wake (R208). -/
theorem exec_standbyFault (j : Fin 8) (hheld : (s.elapse t).heldNow p.val = false)
    (hrole : s.role p.val = roWaking ∨ s.role p.val = roShadow) :
    ∀ c ∈ [Instr.heartbeatLoss p t, .planeEccError p j t, .planePgoodLoss p t],
      ∃ u, exec c s = done (u.wakeFails false) ∧ FaultNoted (s.elapse t) u := by
  have hrole' : (s.elapse t).role p.val = roWaking ∨ (s.elapse t).role p.val = roShadow := by rwa [State.elapse_role]
  intro c hc
  simp only [List.mem_cons, List.not_mem_nil, or_false] at hc
  rcases hc with rfl | rfl | rfl
  · refine ⟨s.elapse t, (exec_heartbeatLoss s p t).trans (congrArg done ?_), .of_effect (Effect.refl [] (some []) _) (by decide)⟩
    exact (if_neg (by simp [hheld])).trans (if_pos hrole')
  · have hnoted := (s.elapse t).eccNoted (engOf p.val j.val)
    have hnot : ¬ ((s.elapse t).wr Reg.ENG_ECC.UNCORRECTABLE 1 (engOf p.val j.val)).heldNow p.val = true := by
      rw [hnoted.heldNow, hheld]
      decide
    rw [exec_planeEccError, State.planeEcc, if_neg hnot, hnoted.role]
    rcases hrole' with hwaking | hshadow
    · refine ⟨_, by rw [if_pos hwaking], ?_⟩
      refine .of_effect (F := movesNoted) ?_ fun _ => id
      exact ((State.wr_effect ..).more (by decide +kernel)).step ((State.wakeFailNote_effect ..).more (by decide +kernel))
        (Effect.fits_refl _ _)
    · exact ⟨_, by rw [if_neg (by rw [hshadow]; decide), if_pos hshadow], hnoted⟩
  · have hnoted := (s.elapse t).railLost_noted p.val
    refine ⟨_, (exec_planePgoodLoss s p t).trans (congrArg done ?_), hnoted⟩
    rw [if_neg (by rw [hnoted.heldNow, hheld]; decide), hnoted.role, if_pos hrole']

end

/-! ### Withdrawals in HELD -/

theorem raises_congr {a b n : State} {pos detail : Nat} (h : b.evtAt = a.evtAt) (k : raises b n pos detail) : raises a n pos detail := by
  simp only [State.evtAt, Prod.mk.injEq] at h
  obtain ⟨hno, hrun, hcount, hwait, -⟩ := h
  simpa only [raises, State.evt, hno, hrun, hcount, hwait] using k

theorem withdrawn_congr {a b n : State} {p cause : Nat} (h : b.evtAt = a.evtAt) (htime : b.time = a.time) (k : withdrawn b n p cause) :
    withdrawn a n p cause := by
  obtain ⟨hball, hlast, hlease, hns, hevent⟩ := k
  exact ⟨hball, hlast, hlease, by rw [hns, htime], raises_congr h hevent⟩

/-- A withdrawal in HELD without a COLD standby loses the referee (R201). -/
theorem State.withdraw_loses {s : State} {cause : Nat} (hwhole : s.referee.broken = false) (hball : s.referee.ball = true)
    (hstate : s.refState = rsHeld) (hholder : s.holder ≤ 1) (hcold : s.role (1 - s.holder) ≠ roCold) :
    s.withdraw cause = (s.ballTaken cause).lose := by
  have hstandby := (s.ballTaken_roles cause).2.1 (1 - s.holder) (by omega)
  have hshadow : ¬ s.refState = rsShadow := by
    rw [hstate]
    decide
  unfold State.withdraw
  rw [if_neg (by simp [hwhole]), if_neg (by simp [hball])]
  exact (if_neg fun h => hcold (hstandby.symm.trans h.2)).trans (if_neg fun h => hshadow h.1)

/-- What such a withdrawal leaves. -/
theorem State.withdraw_lost {s : State} {cause : Nat} (hcause : cause < 8) (hwhole : s.referee.broken = false)
    (hball : s.referee.ball = true) (hstate : s.refState = rsHeld) (hholder : s.holder ≤ 1) (hcold : s.role (1 - s.holder) ≠ roCold) :
    Lost (s.ballTaken cause) (s.withdraw cause) ∧ (s.withdraw cause).rd Reg.REF_TAKEOVER.LAST_CAUSE = cause := by
  obtain ⟨-, hlast, -⟩ := s.ballTaken_withdrawn cause hcause
  have htakenState : (s.ballTaken cause).refState = rsHeld :=
    ((s.ballTaken_effect cause).rd _ 0 0 (by decide +kernel)).trans hstate
  have htakenWhole : (s.ballTaken cause).referee.broken = false := by
    rw [State.ballTaken_referee]
    exact hwhole
  rw [State.withdraw_loses hwhole hball hstate hholder hcold]
  refine ⟨State.lose_lost (by rw [htakenState]; decide) htakenWhole, ?_⟩
  rw [(State.lose_effect (s.ballTaken cause)).rd _ _ _ (by decide +kernel), hlast]

/-- The withdrawals of a tick: FORCED before LEASE (Table 09-2). -/
theorem State.withdrawAtTick_expired {s : State} (h : s.referee.expiring = true) : s.withdrawAtTick =
    (s.modRef fun r => { r with forced := false, expiring := false }).withdraw (if s.referee.forced then 6 else 1) := by
  cases hforced : s.referee.forced <;> simp [State.withdrawAtTick, h, hforced]

/-- A plane's wake that fails in a shadow run (R208, R212). -/
theorem State.wakeFails_shadow {s : State} (h : s.refState = rsShadow) (checkpoint : Bool) :
    s.wakeFails checkpoint = (s.raise 21 s.standby).endShadow 5 roUnfit := by
  have hnot : ¬ s.refState = rsWake := by
    rw [h]
    decide
  exact (if_neg hnot).trans (if_pos h)

/-- The end of a half-time or revive without a handover (R208). -/
theorem State.endShadow_does (s : State) {outcome role : Nat} (houtcome : outcome < 8) (hrole : role < 8) :
    (s.endShadow outcome role).refState = rsHeld ∧ (s.endShadow outcome role).role s.standby = role ∧
    (s.endShadow outcome role).rd Reg.REF_HT_STATUS.OUTCOME = outcome ∧
    (s.endShadow outcome role).referee = { s.referee with shadow := none, wake := .none } := by
  unfold State.endShadow
  extract_lets shown
  have hset := State.setRole_effect s s.standby role
  have hshown : Effect [] (some [Reg.REF_HT_STATUS.OUTCOME]) (s.setRole s.standby role) shown := State.wr_effect ..
  refine ⟨State.rd_wr_same _ _ _ _ _ rfl (by decide), ?_, ?_, ?_⟩
  · rw [(State.wr_effect _ Reg.REF_STATUS.STATE rsHeld 0 0).role, (State.modRef_effect ..).role, hshown.role, State.setRole_role]
    exact Nat.mod_eq_of_lt hrole
  · rw [State.rd_wr_apart _ _ _ _ _ _ (by decide +kernel), State.modRef_rd, State.rd_wr_same _ _ _ _ _ rfl (by decide)]
    exact Nat.mod_eq_of_lt houtcome
  · rw [State.wr_referee, State.modRef_referee, hshown.same .referee (by decide), hset.same .referee (by decide)]

theorem State.settle_role (s : State) (p : Nat) : s.settle.role p = s.role p := (State.settle_effect s).role p

theorem State.settle_refState (s : State) : s.settle.refState = s.refState := s.settle_rd _ 0 0 (by decide +kernel)

end Sys2Proof.Machine
end

section
namespace Sys2Proof.Machine

set_option Elab.async false

/-- Settles O25: each fault as what notes it, and the withdrawal or the failed wake that answers it. -/
theorem withdrawalWakesTheStandbyOrLoses : Obligations.WithdrawalWakesTheStandbyOrLoses := by
  unfold Obligations.WithdrawalWakesTheStandbyOrLoses
  refine ⟨?wakes, ?loses, ?expires, ?notExpiring, ?standby, ?merges, ?others, ?forces, ?ignored⟩
  case wakes =>
    intro s p j t hactive hholder hball hwhole hstate hcold x hx
    have hheld : (s.elapse t).heldNow p.val = true := by simp [State.heldNow, State.elapse_role, hactive]
    obtain ⟨hone, hlt, u, hexec, hu⟩ := exec_holderFault j hheld x hx
    have huHolder : u.holder = p.val := hu.holder.trans ((s.elapse_holder t).trans hholder)
    have hwoken : Woken u (u.withdraw x.2).settle x.2 := by
      refine State.withdraw_woken hlt ?_ ?_ (hu.refState.trans ((s.elapse_refState t).trans hstate)) (by omega) ?_
      · rw [hu.broken, State.elapse_referee, hwhole]
      · rw [hu.ball, State.elapse_referee, hball]
      · rw [huHolder, hu.role, State.elapse_role, hcold]
    have hrole : u.roleTaken x.2 = roUnfit := if_neg fun h => hone h.1
    have hreferee := hwoken.referee
    obtain ⟨b, hb⟩ := hu.referee
    rw [hb, State.elapse_referee] at hreferee
    refine ⟨_, hexec, withdrawn_congr hu.evtAt (hu.kept.same .time (by decide)) (huHolder ▸ hwoken.taken), ?_, hwoken.state, ?_, ?_, ?_,
      ?_, ?_, ?_, ?_⟩
    · rw [← huHolder, hwoken.role, hrole]
    · rw [← huHolder, hwoken.standby]
    · rw [hreferee]
    · refine hwoken.unfit hrole ?_
      rw [huHolder, hu.role, State.elapse_role, hactive]
      decide
    · exact (hwoken.kept.rd _ 0 0 (by decide +kernel)).trans (huHolder.trans hholder.symm)
    · rw [hwoken.kept.same .convs (by decide), hu.kept.same .convs (by decide), State.elapse_convs]
    · rw [hreferee]
      rfl
    · rw [hreferee]
      rfl
  case loses =>
    intro s p j t hactive hholder hball hwhole hstate hcold x hx
    have hheld : (s.elapse t).heldNow p.val = true := by simp [State.heldNow, State.elapse_role, hactive]
    obtain ⟨hone, hlt, u, hexec, hu⟩ := exec_holderFault j hheld x hx
    have huHolder : u.holder = p.val := hu.holder.trans ((s.elapse_holder t).trans hholder)
    obtain ⟨hlost, hlast⟩ := State.withdraw_lost (s := u) hlt (by rw [hu.broken, State.elapse_referee, hwhole])
      (by rw [hu.ball, State.elapse_referee, hball]) (hu.refState.trans ((s.elapse_refState t).trans hstate)) (by omega)
      (by rwa [huHolder, hu.role, State.elapse_role])
    obtain ⟨hrole, hother, -⟩ := u.ballTaken_roles x.2
    have hunfit : u.roleTaken x.2 = roUnfit := if_neg fun h => hone h.1
    refine ⟨_, hexec, (State.settle_refState _).trans hlost.state, ?_, ?_, ?_, ?_, ?_⟩
    · rw [State.settle_referee, hlost.referee]
    · rw [State.settle_rd _ _ _ _ (by decide +kernel), hlast]
    · rw [State.settle_rd _ _ _ _ (by decide +kernel), hlost.lease]
    · rw [State.settle_role, hlost.role _ (by omega), ← huHolder, hrole, hunfit]
      rfl
    · rw [State.settle_role, hlost.role _ (by omega), hother _ (by omega), hu.role, State.elapse_role]
  case expires =>
    intro s t hexpiring hball hwhole hstate hholder hcold
    have hexec : exec (.leaseExpiry t) s = done (((s.elapse t).modRef fun r => { r with forced := false, expiring := false }).withdraw
        (if s.referee.forced then 6 else 1)) := by
      rw [exec_leaseExpiry, if_pos (by rwa [State.elapse_referee]), State.withdrawAtTick_expired (by rwa [State.elapse_referee]),
        State.elapse_referee]
    have hu := State.modRef_effect (s.elapse t) fun r => { r with forced := false, expiring := false }
    have huReferee : ((s.elapse t).modRef fun r => { r with forced := false, expiring := false }).referee =
        { s.referee with forced := false, expiring := false } := by rw [State.modRef_referee, State.elapse_referee]
    generalize ((s.elapse t).modRef fun r => { r with forced := false, expiring := false }) = u at hexec hu huReferee
    have huHolder : u.holder = s.holder := (hu.rd _ 0 0 (by decide +kernel)).trans (s.elapse_holder t)
    have huRole : ∀ q, u.role q = s.role q := fun q => (hu.role q).trans (s.elapse_role t q)
    have hwoken : Woken u (u.withdraw (if s.referee.forced then 6 else 1)).settle (if s.referee.forced then 6 else 1) := by
      refine State.withdraw_woken (by split <;> decide) (by rw [huReferee, hwhole]) (by rw [huReferee, hball]) ?_
        (by rwa [huHolder]) (by rwa [huHolder, huRole])
      exact (hu.rd _ 0 0 (by decide +kernel)).trans ((s.elapse_refState t).trans hstate)
    refine ⟨_, hexec, withdrawn_congr (hu.evtAt (by rw [hu.same .power (by decide)])) (hu.same .time (by decide))
      (huHolder ▸ hwoken.taken), ?_, hwoken.state, ?_, ?_, ?_,
      Effect.of_exec (execLeaseExpiry_effect t s) hexec (by decide) (by decide +kernel)⟩
    · rw [← huHolder, hwoken.role, State.roleTaken, huReferee]
      cases s.referee.forced <;> simp
    · rw [← huHolder, hwoken.standby]
    · rw [hwoken.referee]
      rfl
    · rw [hwoken.referee]
      rfl
  case notExpiring =>
    intro s t h
    have hwaits : (if (s.elapse t).referee.expiring then (s.elapse t).withdrawAtTick else s.elapse t) = s.elapse t :=
      if_neg (by simp [h])
    exact ⟨_, (exec_leaseExpiry s t).trans (congrArg done hwaits), s.elapse_settle_effect t⟩
  case standby =>
    intro s p j t hrole hstandby hstate c hc
    have hheld : (s.elapse t).heldNow p.val = false := by
      have hnot : s.role p.val ≠ roActive := by rcases hrole with h | h <;> rw [h] <;> decide
      simp only [State.heldNow, State.elapse_role, State.elapse_refState, hstate, hnot]
      simp [rsShadow, rsWake, rsLost]
    obtain ⟨u, hexec, hu⟩ := exec_standbyFault j hheld hrole c hc
    have huStandby : u.standby = p.val := by rw [State.standby, hu.holder, State.elapse_holder, ← State.standby, hstandby]
    rw [State.wakeFails_shadow (hu.refState.trans ((s.elapse_refState t).trans hstate)), huStandby] at hexec
    have hraise := State.raise_keepSource_effect u (pos := 21) (by decide) p.val
    have hevent : raises u (u.raise 21 p.val) 21 p.val := raises_raise_keepSource rfl (by decide) _
    have hraised : (u.raise 21 p.val).standby = p.val :=
      (congrArg (1 - ·) (hraise.rd Reg.REF_STATUS.HOLDER 0 0 (by decide +kernel))).trans huStandby
    generalize u.raise 21 p.val = v at hexec hraise hevent hraised
    obtain ⟨hheldState, hunfit, houtcome, hreferee⟩ := v.endShadow_does (outcome := 5) (role := roUnfit) (by decide) (by decide)
    have hend := State.endShadow_effect v 5 roUnfit
    obtain ⟨b, hb⟩ := hu.referee
    rw [hraise.same .referee (by decide), hb, State.elapse_referee] at hreferee
    refine ⟨_, hexec, (State.settle_refState _).trans hheldState, ?_, ?_, ?_, ?_, ?_, ?_, ?_⟩
    · rw [State.settle_role, ← hraised, hunfit]
    · rw [State.settle_rd _ _ _ _ (by decide +kernel), houtcome]
    · rw [State.settle_referee, hreferee]
    · rw [State.settle_referee, hreferee]
    · rw [State.settle_referee, hreferee]
    · rw [raises, State.settle_faults, hend.same .faults (by decide)]
      exact raises_congr hu.evtAt hevent
    · rw [State.settle_rd _ _ _ _ (by decide +kernel), hend.rd _ _ _ (by decide +kernel), hraise.rd _ _ _ (by decide +kernel),
        hu.rd (by decide +kernel), s.elapse_rd t _ _ _ (by decide +kernel)]
  case merges =>
    intro s p j t hwhole hball hholder hheld x hx
    obtain ⟨hone, hlt, u, hexec, hu⟩ := exec_holderFault j hheld x hx
    have huHolder : u.holder = p.val := hu.holder.trans ((s.elapse_holder t).trans hholder)
    obtain ⟨hreferee, hstate, hlast⟩ := State.withdraw_merges (s := u) (by rw [hu.broken, State.elapse_referee, hwhole])
      (by rw [hu.ball, State.elapse_referee, hball]) (by rw [huHolder, hu.heldNow, hheld]) hone hlt
    have hold : u.rd Reg.REF_TAKEOVER.LAST_CAUSE = s.rd Reg.REF_TAKEOVER.LAST_CAUSE :=
      (hu.rd (by decide +kernel) 0 0).trans (s.elapse_rd t _ 0 0 (by decide +kernel))
    refine ⟨_, hexec, ?_, ?_, ?_⟩
    · rw [State.settle_referee, hreferee, hu.ball, State.elapse_referee, hball]
    · rw [State.settle_refState, hstate, hu.refState, State.elapse_refState]
    · rw [State.settle_rd _ _ _ _ (by decide +kernel), hlast, hold]
  case others =>
    intro s p j t hheld hwaking hshadow
    have hnotHeld : ¬ (s.elapse t).heldNow p.val = true := by rw [hheld]; decide
    have hnotRun : ¬ ((s.elapse t).role p.val = roWaking ∨ (s.elapse t).role p.val = roShadow) := by
      rw [State.elapse_role]
      exact not_or.mpr ⟨hwaking, hshadow⟩
    have hecc := (s.elapse t).eccNoted (engOf p.val j.val)
    have hrail := (s.elapse t).railLost_noted p.val
    refine ⟨⟨_, (exec_heartbeatLoss s p t).trans (congrArg done ((if_neg hnotHeld).trans (if_neg hnotRun))), s.elapse_settle_effect t⟩,
      ⟨_, (exec_planeErrorLine s p t).trans (congrArg done (if_neg hnotHeld)), s.elapse_settle_effect t⟩, ?_, ?_⟩
    · obtain ⟨hnotWaking, hnotShadow⟩ := not_or.mp hnotRun
      have hnoted : ((s.elapse t).wr Reg.ENG_ECC.UNCORRECTABLE 1 (engOf p.val j.val)).planeEcc p.val =
          (s.elapse t).wr Reg.ENG_ECC.UNCORRECTABLE 1 (engOf p.val j.val) := by
        rw [State.planeEcc, if_neg (by rw [hecc.heldNow]; exact hnotHeld), hecc.role, if_neg hnotWaking, if_neg hnotShadow]
      refine ⟨_, (exec_planeEccError s p j t).trans (congrArg done hnoted), ?_,
        Effect.timed (State.wr_effect ..) (by decide) (by decide +kernel)⟩
      rw [State.settle_rd _ _ _ _ (by decide +kernel), State.rd_wr_same _ _ _ _ _ ?_ (by decide)]
      · rfl
      · have hlt : engOf p.val j.val < 16 := by unfold engOf; omega
        simp [Field.has, Reg.ENG_ECC.UNCORRECTABLE, hlt]
    · refine ⟨_, (exec_planePgoodLoss s p t).trans (congrArg done ((if_neg (by rw [hrail.heldNow]; exact hnotHeld)).trans
        (if_neg (by rw [hrail.role]; exact hnotRun)))), ?_, Effect.timed (State.railLost_effect ..) (by decide) (by decide +kernel)⟩
      rw [State.settle_power, State.railLost_power, State.elapse_power]
  case forces =>
    intro s t hstate
    have hforced : (s.elapse t).forceTakeover = (s.elapse t).modRef fun r => { r with forced := true } :=
      if_pos ((s.elapse_refState t).trans hstate)
    refine ⟨_, (exec_forceTakeover s t).trans (congrArg done hforced), ?_,
      State.elapse_op_settle_effect (State.modRef_effect ..) (by decide) (by decide)⟩
    rw [State.settle_referee, State.modRef_referee, State.elapse_referee]
  case ignored =>
    intro s t hstate
    have hignored : (s.elapse t).forceTakeover = s.elapse t := if_neg (by rwa [State.elapse_refState])
    exact ⟨_, (exec_forceTakeover s t).trans (congrArg done hignored), s.elapse_settle_effect t⟩

end Sys2Proof.Machine
end

section
namespace Sys2Proof.Machine

set_option Elab.async false

/-! ### What a grant leaves (R199) -/

/-- What every grant records of the referee at an instant. -/
def RefSt.given (r : RefSt) (ns : Nat) : RefSt :=
  { r with ball := true, wake := .none, shadow := none, expiring := false, forced := false, heartbeat := true, writing := none,
           moveAt := ns, now := false }

section
variable (s : State) (p : Nat)

/-- A grant before the forecast is set back: the plane is ACTIVE, and the referee's registers show it. -/
def State.ballShown : State :=
  let t := ((s.setRole p roActive).wr Reg.REF_STATUS.HOLDER p).wr Reg.REF_STATUS.STATE rsHeld
  t.wr Reg.REF_STATUS.LEASE t.cfg.limits.lease

theorem State.giveBall_eq : s.giveBall p = ((s.ballShown p).modRef fun r => r.given (s.ballShown p).time.ns).emptyHistory := rfl

theorem State.ballShown_after : Effect [] (some [Reg.REF_STATUS.HOLDER, Reg.REF_STATUS.STATE, Reg.REF_STATUS.LEASE])
    (s.setRole p roActive) (s.ballShown p) :=
  Effect.after (State.wr_effect ..) (by decide +kernel)
    (Effect.after (State.wr_effect ..) (by decide +kernel) ((State.wr_effect ..).widen (by decide +kernel)))

theorem State.giveBall_referee : (s.giveBall p).referee = s.referee.given s.time.ns := by
  have hshown := s.ballShown_after p
  have hrole := State.setRole_effect s p roActive
  rw [State.giveBall_eq, (State.emptyHistory_effect _).same .referee (by decide), State.modRef_referee, hshown.same .referee (by decide),
    hshown.same .time (by decide), hrole.same .referee (by decide), hrole.same .time (by decide)]

theorem State.emptyHistory_fr : s.emptyHistory.fr = { s.fr with history := [] } := by
  simp only [State.emptyHistory, State.wr_fr]

theorem State.giveBall_fr : (s.giveBall p).fr = { s.fr with history := [] } := by
  rw [State.giveBall_eq, State.emptyHistory_fr, State.modRef_fr, (s.ballShown_after p).same .fr (by decide),
    (State.setRole_effect s p roActive).same .fr (by decide)]

theorem State.giveBall_otherRole {q : Nat} (h : q = 0 ↔ p ≠ 0) : (s.giveBall p).role q = s.role q := by
  rw [State.giveBall_eq, (State.emptyHistory_effect _).role, (State.modRef_effect ..).role, (s.ballShown_after p).role,
    s.setRole_otherRole p _ h]

end

end Sys2Proof.Machine
end
section
namespace Sys2Proof.Machine

set_option Elab.async false

/-! ### A plane takes a checkpoint (R182, R204) -/

section
variable (s : State) (p : Nat) (c : Ckpt)

/-- One position of a plane takes its part of a checkpoint. -/
def State.loadPlace (j : Nat) : State :=
  let x := c.places.getD j default
  (s.modEng (engOf p j) fun e => { e with states := x.states, exports := x.exports, running := false, result := none }).each (upTo 64)
    fun s i => s.setParam j i (x.params.getD i 0)

/-- What an engine holds of a place of a checkpoint. -/
def EngSt.loadedFrom (e : EngSt) (x : CkptPlace) : Prop := e.states = x.states ∧ e.exports = x.exports ∧ e.running = false

theorem State.loadPlace_engs (j : Nat) : (s.loadPlace p c j).engs = (s.modEng (engOf p j) fun e =>
    { e with states := (c.places.getD j default).states, exports := (c.places.getD j default).exports, running := false, result := none }).engs :=
  State.each_keeps (·.engs) (fun _ _ => (State.setParam_effect ..).same .engs (by decide)) _

theorem State.loadPlace_same (j : Nat) : ((s.loadPlace p c j).eng (engOf p j)).loadedFrom (c.places.getD j default) := by
  rw [State.eng, State.loadPlace_engs, ← State.eng, State.modEng_same]
  exact ⟨rfl, rfl, rfl⟩

theorem State.loadPlace_other {j e : Nat} (h : e ≠ engOf p j) : (s.loadPlace p c j).eng e = s.eng e := by
  rw [State.eng, State.loadPlace_engs, ← State.eng, State.modEng_other _ _ _ h]

theorem State.loadPlane_engs : (s.loadPlane p c).engs = (s.each (upTo 8) fun s j => s.loadPlace p c j).engs :=
  ((State.showExports_effect ..).same .engs (by decide)).trans
    (((State.reapply_effect ..).same .engs (by decide)).trans ((State.setBank_effect ..).same .engs (by decide)))

theorem State.loadPlane_loads : ∀ j, j < 8 → ((s.loadPlane p c).eng (engOf p j)).loadedFrom (c.places.getD j default) := by
  intro j hj
  rw [State.eng, State.loadPlane_engs, ← State.eng]
  have hplaces := State.each_forall (I := fun _ => True) (l := upTo 8) (f := fun s j => s.loadPlace p c j) (s := s)
    (P := fun j v => (v.eng (engOf p j)).loadedFrom (c.places.getD j default)) trivial (fun _ _ _ _ => trivial)
    (fun v _ a _ => v.loadPlace_same p c a) (fun v _ a _ b hab h => by
      rwa [v.loadPlace_other p c (show engOf p b ≠ engOf p a by unfold engOf; omega)])
  exact hplaces.2 j (mem_upTo.mpr hj)

theorem State.each_eng {α : Type} {l : List α} {f : State → α → State} {e : Nat} (h : ∀ a ∈ l, ∀ u, (f u a).eng e = u.eng e) (s : State) :
    (s.each l f).eng e = s.eng e := by
  induction l generalizing s with
  | nil => rfl
  | cons a l ih =>
    exact (ih (fun b hb => h b (List.mem_cons_of_mem _ hb)) (f s a)).trans (h a (List.mem_cons_self ..) s)

theorem State.loadPlane_other {e : Nat} (h : ∀ j, j < 8 → e ≠ engOf p j) : (s.loadPlane p c).eng e = s.eng e := by
  rw [State.eng, State.loadPlane_engs, ← State.eng]
  exact State.each_eng (fun j hj u => u.loadPlace_other p c (h j (mem_upTo.mp hj))) s

/-- Of two planes numbered 0 and 1 up, no engine of one is one of the other. -/
theorem engOf_ne {p q i j : Nat} (h : p ≠ q) (hi : i < 8) (hj : j < 8) : engOf p i ≠ engOf q j := by
  unfold engOf
  omega

end

/-! ### A load judged and taken (R203, R209) -/

section
variable (s : State)

theorem State.judgeLate_referee (bound n : Nat) (h : s.refState = rsWake) : (s.judgeLate bound n).referee =
    { s.referee with late := s.referee.late || decide (s.referee.withdrawnAt + bound < n) } := by
  unfold State.judgeLate
  by_cases hlate : s.referee.withdrawnAt + bound < n
  · rw [if_pos ⟨h, hlate⟩, State.modRef_referee, decide_eq_true hlate, Bool.or_true]
  · rw [if_neg (fun k => hlate k.2), decide_eq_false hlate, Bool.or_false]

/-- The three steps of a load against their bounds. -/
def State.loadJudged (released checked : Nat) : State :=
  ((s.judgeLate 85000 released).judgeLate 90000 checked).judgeLate 130000 s.time.ns

theorem State.loadJudged_effect (released checked : Nat) : Effect [.referee] (some []) s (s.loadJudged released checked) :=
  Effect.after (State.judgeLate_effect ..) (by decide +kernel)
    (Effect.after (State.judgeLate_effect ..) (by decide +kernel) (State.judgeLate_effect ..))

theorem State.loadJudged_referee (released checked : Nat) (h : s.refState = rsWake) : (s.loadJudged released checked).referee =
    { s.referee with
      late := s.referee.late || decide (s.referee.withdrawnAt + 85000 < released) ||
        decide (s.referee.withdrawnAt + 90000 < checked) || decide (s.referee.withdrawnAt + 130000 < s.time.ns) } := by
  have hstate : ∀ (u : State) (bound n : Nat), (u.judgeLate bound n).refState = u.refState := fun u bound n =>
    (State.judgeLate_effect u bound n).rd _ 0 0 (by decide +kernel)
  have hsecond : (s.judgeLate 85000 released).refState = rsWake := (hstate ..).trans h
  have hthird : ((s.judgeLate 85000 released).judgeLate 90000 checked).refState = rsWake := (hstate ..).trans hsecond
  rw [State.loadJudged, State.judgeLate_referee _ _ _ hthird, State.judgeLate_referee _ _ _ hsecond, State.judgeLate_referee _ _ _ h]

/-- The half a load takes is recorded: OLD_USED, and where it is the older one its event (R203). -/
def State.choiceNoted (i : Nat) (old : Bool) : State :=
  if old then ((s.wr Reg.REF_CKPT.OLD_USED (b01 old)).wr Reg.REF_EVENT.CKPT_OLD 1).raise 23 i else s.wr Reg.REF_CKPT.OLD_USED (b01 old)

theorem State.choiceNoted_effect (i : Nat) (old : Bool) :
    Effect [.faults] (some [Reg.REF_CKPT.OLD_USED, Reg.REF_EVENT.CKPT_OLD]) s (s.choiceNoted i old) :=
  Effect.ite
    (Effect.after (State.raise_keepSource_effect _ (by decide) _) (by decide +kernel)
      (Effect.after (State.wr_effect ..) (by decide +kernel) ((State.wr_effect ..).widen (by decide +kernel))))
    ((State.wr_effect ..).widen (by decide +kernel))

theorem State.choiceNoted_does (i : Nat) (old : Bool) : (s.choiceNoted i old).rd Reg.REF_CKPT.OLD_USED = b01 old ∧
    (old = true → (s.choiceNoted i old).rd Reg.REF_EVENT.CKPT_OLD = 1 ∧ raises s (s.choiceNoted i old) 23 i) ∧
    (old = false → (s.choiceNoted i old).faults = s.faults) := by
  cases old
  · exact ⟨State.rd_wr_same _ _ _ _ _ rfl (by decide), fun h => absurd h (by decide), fun _ => State.wr_faults s Reg.REF_CKPT.OLD_USED (b01 false) 0 0⟩
  · have hnoted : Effect [] (some [Reg.REF_CKPT.OLD_USED, Reg.REF_EVENT.CKPT_OLD]) s
        ((s.wr Reg.REF_CKPT.OLD_USED (b01 true)).wr Reg.REF_EVENT.CKPT_OLD 1) :=
      Effect.after (State.wr_effect ..) (by decide +kernel) ((State.wr_effect ..).widen (by decide +kernel))
    have hraise := State.raise_keepSource_effect ((s.wr Reg.REF_CKPT.OLD_USED (b01 true)).wr Reg.REF_EVENT.CKPT_OLD 1) (pos := 23)
      (by decide) i
    have heq : s.choiceNoted i true = ((s.wr Reg.REF_CKPT.OLD_USED (b01 true)).wr Reg.REF_EVENT.CKPT_OLD 1).raise 23 i := if_pos rfl
    rw [heq]
    refine ⟨?_, fun _ => ⟨?_, ?_⟩, fun h => absurd h (by decide)⟩
    · rw [hraise.rd _ _ _ (by decide +kernel), State.rd_wr_apart _ _ _ _ _ _ (by decide +kernel), State.rd_wr_same _ _ _ _ _ rfl (by decide)]
      rfl
    · rw [hraise.rd _ _ _ (by decide +kernel), State.rd_wr_same _ _ _ _ _ rfl (by decide)]
      rfl
    · exact raises_raise_keepSource (hnoted.evtAt (congrArg PowerSt.bridge (hnoted.same .power (by decide)))) (by decide) _

end

end Sys2Proof.Machine
end

section
namespace Sys2Proof.Machine

set_option Elab.async false

/-! ### CHECKPOINT_LOAD_DONE and TAKEOVER_GRANT (R203, R207, R209) -/

theorem exec_checkpointLoadDone (s : State) (rel chk t : Nat) (bad : Bool) :
    exec (.checkpointLoadDone rel chk bad t) s = done ((s.elapse t).ckptLoadDone rel chk bad) := rfl

theorem exec_takeoverGrant (s : State) (t : Nat) : exec (.takeoverGrant t) s = done (s.elapse t).takeoverGrant := rfl

theorem State.loadChoice_congr {s t : State} (h : t.referee = s.referee) (bad : Bool) : t.loadChoice bad = s.loadChoice bad := by
  simp only [State.loadChoice, State.newest, State.half, h]
  rfl

theorem State.elapse_standby (s : State) (t : Nat) : (s.elapse t).standby = s.standby := congrArg (1 - ·) (s.elapse_holder t)

theorem State.standby_le (s : State) : s.standby ≤ 1 := Nat.sub_le ..

theorem rsShadow_ne_rsWake : rsShadow ≠ rsWake := by decide

section
variable {s : State} {bad : Bool}

/-- A takeover's load, where a half can be taken. -/
theorem State.ckptLoadDone_takes (released checked : Nat) {i : Nat} {old : Bool} (hwake : s.referee.wake = .memory)
    (hstate : s.refState = rsWake) (hchoice : s.loadChoice bad = some (i, old)) : s.ckptLoadDone released checked bad =
    (((s.loadJudged released checked).choiceNoted i old).loadPlane s.standby (s.half i)).modRef fun r => { r with wake := .ready } := by
  have hjudged := s.loadJudged_effect released checked
  have hnoted := (s.loadJudged released checked).choiceNoted_effect i old
  have hstandby : ((s.loadJudged released checked).choiceNoted i old).standby = s.standby :=
    congrArg (1 - ·) ((hnoted.rd Reg.REF_STATUS.HOLDER 0 0 (by decide +kernel)).trans (hjudged.rd _ 0 0 (by decide +kernel)))
  have hhalf : ((s.loadJudged released checked).choiceNoted i old).half i = s.half i := by
    rw [State.half, hnoted.same .referee (by decide), s.loadJudged_referee released checked hstate]
    rfl
  unfold State.ckptLoadDone
  rw [if_neg (by simp [hwake]), if_neg (by rw [hstate]; decide), if_pos hstate, hchoice, ← hstandby, ← hhalf]
  rfl

/-- A takeover whose standby finds no checkpoint (R203, R208). -/
theorem State.wakeFails_wake {s : State} (h : s.refState = rsWake) :
    s.wakeFails true = (((s.setRole s.standby roUnfit).raise 21 s.standby).raise 57 0).lose := by
  unfold State.wakeFails
  rw [if_pos h]
  extract_lets failed
  exact congrArg State.lose (if_pos rfl)

theorem State.ckptLoadDone_loses (released checked : Nat) (hwake : s.referee.wake = .memory) (hstate : s.refState = rsWake)
    (hchoice : s.loadChoice bad = none) : s.ckptLoadDone released checked bad =
    ((((s.wr Reg.REF_CKPT.OLD_USED 0).setRole s.standby roUnfit).raise 21 s.standby).raise 57 0).lose := by
  have hstandby : (s.wr Reg.REF_CKPT.OLD_USED 0).standby = s.standby := congrArg (1 - ·) (State.rd_wr_apart _ _ _ _ _ _ (by decide +kernel))
  unfold State.ckptLoadDone
  rw [if_neg (by simp [hwake]), if_neg (by rw [hstate]; decide), if_pos hstate, hchoice, ← hstandby]
  exact State.wakeFails_wake ((State.rd_wr_apart _ _ _ _ _ _ (by decide +kernel)).trans hstate)

theorem State.ckptLoadDone_shadow (released checked : Nat) (hwake : s.referee.wake = .memory) (hstate : s.refState = rsShadow) :
    s.ckptLoadDone released checked bad = s.modRef fun r => { r with wake := .ready } := by
  unfold State.ckptLoadDone
  rw [if_neg (by simp [hwake]), if_pos hstate]

/-- What a grant shows before the ball goes over (R209). -/
def State.takeoverShown (s : State) : State :=
  let us := (s.time.ns - s.referee.withdrawnAt) / 1000
  let u := (s.bump Reg.REF_TAKEOVER.COUNT).wr Reg.REF_TAKEOVER.GAP (min 255 s.referee.gap)
  let u := (u.wr Reg.REF_TAKEOVER.US (min 255 us)).wr Reg.REF_TAKEOVER.LATE (b01 s.referee.late)
  (u.wr Reg.REF_TAKEOVER_FRAME.FRAME u.tickFrame).wr Reg.REF_EVENT.TAKEOVER 1

/-- The register fields of a takeover. -/
def movesTakeover : List Field := [Reg.REF_TAKEOVER.COUNT, Reg.REF_TAKEOVER.GAP, Reg.REF_TAKEOVER.US, Reg.REF_TAKEOVER.LATE,
  Reg.REF_TAKEOVER_FRAME.FRAME, Reg.REF_EVENT.TAKEOVER]

theorem State.takeoverShown_effect (s : State) : Effect [] (some movesTakeover) s s.takeoverShown := by
  unfold State.takeoverShown
  extract_lets us counted timed
  refine Effect.after (State.wr_effect ..) (by decide +kernel) ?_
  refine Effect.after (State.wr_effect ..) (by decide +kernel) ?_
  refine Effect.after (State.wr_effect ..) (by decide +kernel) ?_
  refine Effect.after (State.wr_effect ..) (by decide +kernel) ?_
  exact Effect.after (State.wr_effect ..) (by decide +kernel) ((State.bump_effect ..).widen (by decide +kernel))

theorem State.takeoverShown_reads (s : State) : s.takeoverShown.rd Reg.REF_TAKEOVER.COUNT = min 255 (s.rd Reg.REF_TAKEOVER.COUNT + 1) ∧
    s.takeoverShown.rd Reg.REF_TAKEOVER.GAP = min 255 s.referee.gap ∧
    s.takeoverShown.rd Reg.REF_TAKEOVER.US = min 255 ((s.time.ns - s.referee.withdrawnAt) / 1000) ∧
    s.takeoverShown.rd Reg.REF_TAKEOVER.LATE = b01 s.referee.late ∧ s.takeoverShown.rd Reg.REF_EVENT.TAKEOVER = 1 := by
  unfold State.takeoverShown
  extract_lets us counted timed
  have hmin : ∀ x, min 255 x % 2 ^ 8 = min 255 x := fun x => Nat.mod_eq_of_lt (by omega)
  refine ⟨?_, ?_, ?_, ?_, State.rd_wr_same _ _ _ _ _ rfl (by decide)⟩ <;>
    simp (disch := decide +kernel) only [timed, counted, State.rd_wr_apart]
  · exact State.rd_bump _ rfl (by decide)
  · exact (State.rd_wr_same _ _ _ _ _ rfl (by decide)).trans (hmin _)
  · exact (State.rd_wr_same _ _ _ _ _ rfl (by decide)).trans (hmin _)
  · exact (State.rd_wr_same _ _ _ _ _ rfl (by decide)).trans (b01_mod _)

/-- The takeover is shown, and a late one raises its event (R209). -/
def State.takeoverNoted (s : State) : State :=
  s.takeoverShown.when s.referee.late (·.raise 44 (min 65535 ((s.time.ns - s.referee.withdrawnAt) / 1000)))

theorem State.takeoverNoted_after (s : State) : Effect [.faults] (some []) s.takeoverShown s.takeoverNoted :=
  Effect.when (Effect.refl ..) fun _ => State.raise_keepSource_effect _ (by decide) _

theorem State.takeoverNoted_faults (s : State) : (s.referee.late = true →
      raises s s.takeoverNoted 44 (min 65535 ((s.time.ns - s.referee.withdrawnAt) / 1000))) ∧
    (s.referee.late = false → s.takeoverNoted.faults = s.faults) := by
  have hshown := s.takeoverShown_effect
  unfold State.takeoverNoted State.when
  refine ⟨fun h => ?_, fun h => ?_⟩
  · rw [if_pos h]
    exact raises_raise_keepSource (hshown.evtAt (congrArg PowerSt.bridge (hshown.same .power (by decide)))) (by decide) _
  · rw [if_neg (by simp [h])]
    exact hshown.same .faults (by decide)

theorem State.takeoverGrant_grants (hstate : s.refState = rsWake) (hready : s.referee.wake = .ready) (hwhole : s.referee.broken = false) :
    s.takeoverGrant = (s.takeoverNoted.giveBall s.takeoverNoted.standby).modRef fun r =>
      { r with restart := true, troubleAt := some s.takeoverNoted.time.ns } := by
  unfold State.takeoverGrant
  rw [if_pos ⟨hstate, hready, hwhole⟩]
  extract_lets us late counted timed shown noted
  have hnoted : noted = s.takeoverNoted := rfl
  rw [hnoted]

theorem State.takeoverGrant_refused (h : s.refState ≠ rsWake ∨ s.referee.wake ≠ .ready ∨ s.referee.broken = true) :
    s.takeoverGrant = s := by
  refine if_neg fun ⟨hstate, hready, hwhole⟩ => ?_
  rcases h with h | h | h
  · exact h hstate
  · exact h hready
  · exact absurd (h.symm.trans hwhole) (by decide)

end

end Sys2Proof.Machine
end

section
namespace Sys2Proof.Machine

set_option Elab.async false

/-- What CHECKPOINT_LOAD_DONE leaves where a takeover loads a half (R203). -/
theorem State.ckptLoadDone_does {a : State} {bad : Bool} (released checked : Nat) {i : Nat} {old : Bool}
    (hwake : a.referee.wake = .memory) (hstate : a.refState = rsWake) (hchoice : a.loadChoice bad = some (i, old)) :
    let n := a.ckptLoadDone released checked bad
    n.referee = { (a.loadJudged released checked).referee with wake := .ready } ∧ n.rd Reg.REF_CKPT.OLD_USED = b01 old ∧
    (∀ j, j < 8 → (n.eng (engOf a.standby j)).loadedFrom ((a.half i).places.getD j default)) ∧
    (∀ e, (∀ j, j < 8 → e ≠ engOf a.standby j) → n.eng e = a.eng e) ∧
    (old = true → n.rd Reg.REF_EVENT.CKPT_OLD = 1 ∧ raises a n 23 i) ∧ (old = false → n.faults = a.faults) ∧ n.refState = rsWake := by
  rw [State.ckptLoadDone_takes released checked hwake hstate hchoice]
  have hjudged := a.loadJudged_effect released checked
  have hnoted := (a.loadJudged released checked).choiceNoted_effect i old
  obtain ⟨hused, hold, hnew⟩ := (a.loadJudged released checked).choiceNoted_does i old
  generalize a.loadJudged released checked = u at *
  generalize u.choiceNoted i old = v at *
  have hload := State.loadPlane_effect v a.standby (a.half i)
  have hloads := v.loadPlane_loads a.standby (a.half i)
  have hothers := fun e => v.loadPlane_other a.standby (a.half i) (e := e)
  generalize v.loadPlane a.standby (a.half i) = w at *
  refine ⟨?_, ?_, hloads, fun e he => ?_, fun h => ⟨?_, ?_⟩, fun h => ?_, ?_⟩
  · rw [State.modRef_referee, hload.same .referee (by decide), hnoted.same .referee (by decide)]
  · rw [State.modRef_rd, hload.rd _ _ _ (by decide +kernel), hused]
  · have hengs : v.engs = a.engs := (hnoted.same .engs (by decide)).trans (hjudged.same .engs (by decide))
    rw [State.eng, State.modRef_engs, ← State.eng, hothers e he, State.eng, hengs, ← State.eng]
  · rw [State.modRef_rd, hload.rd _ _ _ (by decide +kernel), (hold h).1]
  · refine raises_congr (hjudged.evtAt (congrArg PowerSt.bridge (hjudged.same .power (by decide)))) ?_
    rw [raises, State.modRef_faults, hload.same .faults (by decide)]
    exact (hold h).2
  · rw [State.modRef_faults, hload.same .faults (by decide), hnew h, hjudged.same .faults (by decide)]
  · rw [State.refState, State.modRef_rd, hload.rd _ _ _ (by decide +kernel), hnoted.rd _ _ _ (by decide +kernel),
      hjudged.rd _ _ _ (by decide +kernel)]
    exact hstate

/-- What TAKEOVER_GRANT leaves (R207, R209). -/
theorem State.takeoverGrant_does {a : State} (hstate : a.refState = rsWake) (hready : a.referee.wake = .ready)
    (hwhole : a.referee.broken = false) :
    let n := a.takeoverGrant
    n.refState = rsHeld ∧ n.holder = a.standby ∧ n.role a.standby = roActive ∧ n.referee.ball = true ∧ n.referee.restart = true ∧
    n.rd Reg.REF_STATUS.LEASE = a.cfg.limits.lease % 32 ∧ n.faults = a.takeoverNoted.faults ∧ n.fr = { a.fr with history := [] } ∧
    ∀ f ∈ movesTakeover, n.rd f = a.takeoverShown.rd f := by
  rw [State.takeoverGrant_grants hstate hready hwhole]
  have hshown := a.takeoverShown_effect
  have hnoted := a.takeoverNoted_after
  have hstandby : a.takeoverNoted.standby = a.standby :=
    congrArg (1 - ·) ((hnoted.rd Reg.REF_STATUS.HOLDER 0 0 (by decide +kernel)).trans (hshown.rd _ 0 0 (by decide +kernel)))
  rw [hstandby]
  generalize a.takeoverNoted = v at *
  obtain ⟨hheld, hholder, hlease, hactive, hball⟩ := v.giveBall_does a.standby
  have hgiven := State.giveBall_effect v a.standby
  have hfr := v.giveBall_fr a.standby
  generalize v.giveBall a.standby = w at *
  refine ⟨(State.modRef_rd ..).trans hheld, ?_, ?_, hball, rfl, ?_, hgiven.same .faults (by decide), ?_, ?_⟩
  · exact (State.modRef_rd ..).trans (hholder.trans (Nat.mod_eq_of_lt (Nat.lt_succ_of_le a.standby_le)))
  · exact ((State.modRef_effect ..).role _).trans hactive
  · rw [State.modRef_rd, hlease, hnoted.same .cfg (by decide), hshown.same .cfg (by decide)]
  · rw [State.modRef_fr, hfr, hnoted.same .fr (by decide), hshown.same .fr (by decide)]
  · intro f hf
    have hapart : ∀ f ∈ movesTakeover, ((State.giveBall_fields.getD []).all fun g => f.apart g) = true := by decide +kernel
    rw [State.modRef_rd]
    exact (hgiven.rd f 0 0 (hapart f hf)).trans (hnoted.rd f 0 0 rfl)

/-- Settles O26: the load's choice of a half decides between the judged steps and a lost referee; the grant is what each grant leaves,
with the takeover shown. -/
theorem takeoversLoadACheckpointAndGrant : Obligations.TakeoversLoadACheckpointAndGrant := by
  unfold Obligations.TakeoversLoadACheckpointAndGrant
  refine ⟨?loads, ?loses, ?shadow, ?waits, ?grants, ?refused⟩
  case loads =>
    intro s rel chk t i bad old hwake hstate hchoice
    have hawake : (s.elapse t).referee.wake = .memory := by rwa [State.elapse_referee]
    have hachoice : (s.elapse t).loadChoice bad = some (i, old) := (State.loadChoice_congr (s.elapse_referee t) bad).trans hchoice
    have hastate := (s.elapse_refState t).trans hstate
    obtain ⟨hreferee, hused, hloads, hothers, hold, hnew, hstays⟩ := State.ckptLoadDone_does rel chk hawake hastate hachoice
    rw [State.loadJudged_referee _ _ _ hastate, State.elapse_referee] at hreferee
    rw [State.elapse_standby] at hloads hothers
    have hhalf : (s.elapse t).half i = s.half i := by rw [State.half, State.elapse_referee, ← State.half]
    rw [hhalf] at hloads
    have hexec := exec_checkpointLoadDone s rel chk t bad
    refine ⟨_, hexec, ?_, ?_, ?_, ?_, ?_, ?_, ?_, (State.settle_refState _).trans hstays, ?_,
      Effect.of_exec (execCheckpointLoadDone_effect rel chk bad t s) hexec (by decide) (by decide +kernel)⟩
    · rw [State.settle_referee, hreferee]
    · rw [State.settle_rd _ _ _ _ (by decide +kernel), hused]
    · rw [State.settle_referee, hreferee]
    · intro j hj
      obtain ⟨hstates, hexports, hrunning⟩ := hloads j hj
      simp only [State.eng, State.settle_engs] at hstates hexports hrunning ⊢
      exact ⟨hstates, hexports, hrunning⟩
    · intro j hj
      by_cases hsame : s.standby = s.holder
      · exact .inr hsame
      · left
        rw [State.eng, State.settle_engs, ← State.eng, hothers _ fun k hk => engOf_ne (Ne.symm hsame) hj hk, State.eng, State.elapse_engs,
          ← State.eng]
    · intro h
      rw [State.settle_rd _ _ _ _ (by decide +kernel), raises, State.settle_faults]
      exact hold h
    · intro h
      rw [State.settle_faults, hnew h, State.elapse_faults]
    · rw [State.settle_referee, hreferee]
  case loses =>
    intro s rel chk t bad hwake hstate hwhole hchoice
    have hastate := (s.elapse_refState t).trans hstate
    have hloses := State.ckptLoadDone_loses rel chk (by rwa [State.elapse_referee]) hastate
      ((State.loadChoice_congr (s.elapse_referee t) bad).trans hchoice)
    have hused : ((s.elapse t).wr Reg.REF_CKPT.OLD_USED 0).rd Reg.REF_CKPT.OLD_USED = 0 := State.rd_wr_same _ _ _ _ _ rfl (by decide)
    have hmarked := State.wr_effect (s.elapse t) Reg.REF_CKPT.OLD_USED 0 0 0
    have hrole := State.setRole_effect ((s.elapse t).wr Reg.REF_CKPT.OLD_USED 0) (s.elapse t).standby roUnfit
    generalize ((s.elapse t).wr Reg.REF_CKPT.OLD_USED 0) = u at *
    generalize u.setRole (s.elapse t).standby roUnfit = v at *
    have hraise := (State.raise_keepSource_effect v (pos := 21) (by decide) (s.elapse t).standby).step
      (State.raise_keepSource_effect (v.raise 21 (s.elapse t).standby) (pos := 57) (by decide) 0) (Effect.fits_refl _ _)
    generalize (v.raise 21 (s.elapse t).standby).raise 57 0 = w at *
    have hwstate : w.refState = rsWake := (hraise.rd _ 0 0 (by decide +kernel)).trans
      ((hrole.rd _ 0 0 (by decide +kernel)).trans ((hmarked.rd _ 0 0 (by decide +kernel)).trans hastate))
    have hwreferee : w.referee = s.referee := (hraise.same .referee (by decide)).trans
      ((hrole.same .referee (by decide)).trans ((hmarked.same .referee (by decide)).trans (s.elapse_referee t)))
    have hlost := State.lose_lost (s := w) (by rw [hwstate]; decide) (by rw [hwreferee, hwhole])
    have hkept := State.lose_effect w
    refine ⟨_, (exec_checkpointLoadDone s rel chk t bad).trans (congrArg done hloses), (State.settle_refState _).trans hlost.state, ?_, ?_, ?_⟩
    · rw [State.settle_rd _ _ _ _ (by decide +kernel), hkept.rd _ _ _ (by decide +kernel), hraise.rd _ _ _ (by decide +kernel),
        hrole.rd _ _ _ (by decide +kernel), hused]
    · rw [State.settle_referee, hlost.referee]
    · rw [State.settle_referee, hlost.referee]
  case shadow =>
    intro s rel chk t bad hwake hstate
    have hload := State.ckptLoadDone_shadow (bad := bad) rel chk (s := s.elapse t) (by rwa [State.elapse_referee])
      ((s.elapse_refState t).trans hstate)
    refine ⟨_, (exec_checkpointLoadDone s rel chk t bad).trans (congrArg done hload), ?_,
      State.elapse_op_settle_effect (State.modRef_effect ..) (by decide) (by decide)⟩
    rw [State.settle_referee, State.modRef_referee, State.elapse_referee]
  case waits =>
    intro s rel chk t bad hwake
    have hload : (s.elapse t).ckptLoadDone rel chk bad = s.elapse t := if_pos (by rwa [State.elapse_referee])
    exact ⟨_, (exec_checkpointLoadDone s rel chk t bad).trans (congrArg done hload), s.elapse_settle_effect t⟩
  case grants =>
    intro s t hstate hready hwhole
    have hastate := (s.elapse_refState t).trans hstate
    have haready : (s.elapse t).referee.wake = .ready := by rwa [State.elapse_referee]
    have hawhole : (s.elapse t).referee.broken = false := by rwa [State.elapse_referee]
    obtain ⟨hheld, hholder, hactive, hball, hrestart, hlease, hfaults, hfr, hshown⟩ := State.takeoverGrant_does hastate haready hawhole
    obtain ⟨hcount, hgap, hus, hlate, hevent⟩ := (s.elapse t).takeoverShown_reads
    obtain ⟨hraises, hquiet⟩ := (s.elapse t).takeoverNoted_faults
    rw [State.elapse_standby] at hholder hactive
    rw [State.elapse_referee] at hgap hus hlate hraises hquiet
    have hreads : ∀ f ∈ movesTakeover, (s.elapse t).takeoverGrant.settle.rd f = (s.elapse t).takeoverShown.rd f := by
      intro f hf
      have hapart : ∀ f ∈ movesTakeover, (movesIrq.all fun g => f.apart g) = true := by decide +kernel
      rw [← hshown f hf]
      exact (State.settle_effect _).rd f 0 0 (hapart f hf)
    have hexec := exec_takeoverGrant s t
    refine ⟨_, hexec, (State.settle_refState _).trans hheld, ?_, ?_, ?_, ?_, ?_, ?_, ?_, ?_, ?_, ?_, ?_, ?_, ?_,
      Effect.of_exec (execTakeoverGrant_effect t s) hexec (by decide) (by decide +kernel)⟩
    · exact (State.settle_rd _ _ _ _ (by decide +kernel)).trans hholder
    · rw [State.settle_role, hactive]
    · rw [State.settle_referee, hball]
    · rw [State.settle_referee, hrestart]
    · rw [State.settle_rd _ _ _ _ (by decide +kernel), hlease, State.elapse_cfg]
    · rw [hreads _ (by decide +kernel), hcount, s.elapse_rd t _ _ _ (by decide +kernel)]
    · rw [hreads _ (by decide +kernel), hgap]
    · rw [hreads _ (by decide +kernel), hus]
    · rw [hreads _ (by decide +kernel), hlate]
    · rw [hreads _ (by decide +kernel), hevent]
    · rw [State.settle_fr, hfr]
    · intro h
      rw [raises, State.settle_faults, hfaults]
      exact hraises h
    · intro h
      rw [State.settle_faults, hfaults, hquiet h, State.elapse_faults]
  case refused =>
    intro s t h
    have hrefused : (s.elapse t).takeoverGrant = s.elapse t :=
      State.takeoverGrant_refused (by rwa [State.elapse_refState, State.elapse_referee])
    exact ⟨_, (exec_takeoverGrant s t).trans (congrArg done hrefused), s.elapse_settle_effect t⟩

end Sys2Proof.Machine
end

section
namespace Sys2Proof.Machine

set_option Elab.async false

/-! ### The commands of half-time and revive -/

theorem exec_halftimeNow (s : State) (t : Nat) : exec (.halftimeNow t) s = done (s.elapse t).halftimeNow := rfl

theorem exec_halftimeHandover (s : State) (t : Nat) : exec (.halftimeHandover t) s = done (s.elapse t).handover := rfl

theorem exec_revive (s : State) (t : Nat) : exec (.revive t) s = done (s.elapse t).revive := rfl

theorem exec_reviveComplete (s : State) (t : Nat) : exec (.reviveComplete t) s = done (s.elapse t).reviveComplete := rfl

theorem State.elapse_shadowComplete (s : State) (t : Nat) (revive : Bool) :
    (s.elapse t).shadowComplete revive = s.shadowComplete revive := by
  simp only [State.shadowComplete, State.elapse_referee, State.elapse_cfg, s.elapse_rd t Reg.REF_HT_STATUS.MATCHED 0 0 (by decide +kernel)]

/-! ### A handover (R215) -/

/-- What a handover shows before the ball goes over. -/
def State.handoverShown (s : State) : State :=
  ((s.bump Reg.REF_HT_STATUS.COUNT).wr Reg.REF_HT_STATUS.OUTCOME 1).wr Reg.REF_EVENT.HANDOVER 1

/-- The register fields of a handover. -/
def movesHandover : List Field := [Reg.REF_HT_STATUS.COUNT, Reg.REF_HT_STATUS.OUTCOME, Reg.REF_EVENT.HANDOVER]

section
variable (s : State)

theorem State.handoverShown_effect : Effect [] (some movesHandover) s s.handoverShown :=
  Effect.after (State.wr_effect ..) (by decide +kernel)
    (Effect.after (State.wr_effect ..) (by decide +kernel) ((State.bump_effect ..).widen (by decide +kernel)))

theorem State.handoverShown_reads : s.handoverShown.rd Reg.REF_HT_STATUS.COUNT = min 255 (s.rd Reg.REF_HT_STATUS.COUNT + 1) ∧
    s.handoverShown.rd Reg.REF_HT_STATUS.OUTCOME = 1 ∧ s.handoverShown.rd Reg.REF_EVENT.HANDOVER = 1 := by
  refine ⟨?_, ?_, State.rd_wr_same _ _ _ _ _ rfl (by decide)⟩
  · rw [State.handoverShown, State.rd_wr_apart _ _ _ _ _ _ (by decide +kernel), State.rd_wr_apart _ _ _ _ _ _ (by decide +kernel)]
    exact State.rd_bump _ rfl (by decide)
  · rw [State.handoverShown, State.rd_wr_apart _ _ _ _ _ _ (by decide +kernel), State.rd_wr_same _ _ _ _ _ rfl (by decide)]
    rfl

end

theorem State.handover_hands {s : State} (hstate : s.refState = rsShadow) (hcomplete : s.shadowComplete false = true) :
    s.handover = (s.handoverShown.setRole s.holder roCold).giveBall (1 - s.holder) := if_pos ⟨hstate, hcomplete⟩

/-- What a handover leaves. -/
theorem State.handover_does {s : State} (hstate : s.refState = rsShadow) (hcomplete : s.shadowComplete false = true)
    (hholder : s.holder ≤ 1) :
    let n := s.handover
    n.refState = rsHeld ∧ n.holder = 1 - s.holder ∧ n.role (1 - s.holder) = roActive ∧ n.role s.holder = roCold ∧
    n.referee = s.referee.given s.time.ns ∧ n.rd Reg.REF_STATUS.LEASE = s.cfg.limits.lease % 32 ∧
    ∀ f ∈ movesHandover, n.rd f = s.handoverShown.rd f := by
  rw [State.handover_hands hstate hcomplete]
  have hshown := s.handoverShown_effect
  generalize s.handoverShown = u at *
  have hcold := State.setRole_effect u s.holder roCold
  have hrole := u.setRole_role s.holder roCold
  generalize u.setRole s.holder roCold = v at *
  obtain ⟨hheld, hgiven, hlease, hactive, -⟩ := v.giveBall_does (1 - s.holder)
  have hother := v.giveBall_otherRole (1 - s.holder) (q := s.holder) (by omega)
  have hreferee := v.giveBall_referee (1 - s.holder)
  have hkept := State.giveBall_effect v (1 - s.holder)
  refine ⟨hheld, hgiven.trans (Nat.mod_eq_of_lt (by omega)), hactive, ?_, ?_, ?_, fun f hf => ?_⟩
  · rw [hother, hrole]
    rfl
  · rw [hreferee, hcold.same .referee (by decide), hcold.same .time (by decide), hshown.same .referee (by decide),
      hshown.same .time (by decide)]
  · rw [hlease, hcold.same .cfg (by decide), hshown.same .cfg (by decide)]
  · have hapart : ∀ f ∈ movesHandover, ((State.giveBall_fields.getD []).all fun g => f.apart g) = true ∧
        ((State.setRole_fields.getD []).all fun g => f.apart g) = true := by decide +kernel
    exact (hkept.rd f 0 0 (hapart f hf).1).trans (hcold.rd f 0 0 (hapart f hf).2)

/-! ### A shadow run begins (R208, R212) -/

section
variable (s : State) (revive : Bool)

/-- What a shadow run leaves as it begins. -/
theorem State.startShadow_does : (s.startShadow revive).refState = rsShadow ∧ (s.startShadow revive).role s.standby = roWaking ∧
    (s.startShadow revive).referee = { s.referee with shadow := some ⟨revive, none⟩, wake := .power, withdrawnAt := s.time.ns } ∧
    (s.startShadow revive).rd Reg.REF_HT_STATUS.MATCHED = 0 ∧ (s.startShadow revive).evtAt = s.evtAt ∧
    ∀ e, ((s.startShadow revive).eng e).memories = (s.eng e).memories := by
  unfold State.startShadow
  extract_lets waking shown
  have hwaking := State.setRole_effect s s.standby roWaking
  have hshown : Effect [] (some [Reg.REF_STATUS.STATE, Reg.REF_HT_STATUS.MATCHED]) (s.setRole s.standby roWaking) shown :=
    Effect.after (State.wr_effect ..) (by decide +kernel) ((State.wr_effect ..).widen (by decide +kernel))
  refine ⟨?_, ?_, ?_, ?_, ?_, fun e => ?_⟩
  · rw [State.refState, State.modRef_rd, State.rd_wr_apart _ _ _ _ _ _ (by decide +kernel), State.rd_wr_same _ _ _ _ _ rfl (by decide)]
    rfl
  · rw [(State.modRef_effect ..).role, hshown.role, State.setRole_role]
    rfl
  · rw [State.modRef_referee, hshown.same .referee (by decide), hshown.same .time (by decide), hwaking.same .referee (by decide),
      hwaking.same .time (by decide)]
  · rw [State.modRef_rd, State.rd_wr_same _ _ _ _ _ rfl (by decide)]
    rfl
  · exact ((State.modRef_effect ..).evtAt rfl).trans ((hshown.evtAt (congrArg PowerSt.bridge (hshown.same .power (by decide)))).trans
      (State.setRole_evtAt ..))
  · rw [State.eng, State.modRef_engs, hshown.same .engs (by decide), ← State.eng, State.setRole_memories]

theorem State.startShadow_standby : (s.startShadow revive).standby = s.standby :=
  congrArg (1 - ·) ((State.startShadow_effect ..).rd Reg.REF_STATUS.HOLDER 0 0 (by decide +kernel))

/-- The end of a shadow run leaves the memories of the engines. -/
theorem State.endShadow_memories (outcome role e : Nat) : ((s.endShadow outcome role).eng e).memories = (s.eng e).memories := by
  unfold State.endShadow
  extract_lets shown
  have hshown : shown.engs = (s.setRole s.standby role).engs := State.wr_engs ..
  rw [State.eng, State.wr_engs, State.modRef_engs, hshown, ← State.eng, State.setRole_memories]

end

/-! ### The engine memories are reloaded (R208) -/

/-- The memory of position j's engine on plane p takes the image's words. -/
def State.reloadEngine (s : State) (p j : Nat) : State :=
  match s.graph j with
  | some g => s.modEng (engOf p j) fun x => { x with bankA := g.bankA, bankB := g.bankB, states := g.init, running := false, result := none }
  | none => s

section
variable {s : State} (p : Nat)

theorem State.reloadEngine_some {j : Nat} {g : Graph} (h : s.graph j = some g) : s.reloadEngine p j =
    s.modEng (engOf p j) fun x => { x with bankA := g.bankA, bankB := g.bankB, states := g.init, running := false, result := none } := by
  rw [State.reloadEngine, h]

theorem State.reloadEngine_none {j : Nat} (h : s.graph j = none) : s.reloadEngine p j = s := by
  rw [State.reloadEngine, h]

theorem State.reloadEngine_effect (s : State) (j : Nat) : Effect [.engs] (some []) s (s.reloadEngine p j) := by
  cases hgraph : s.graph j with
  | none =>
    rw [State.reloadEngine_none p hgraph]
    exact Effect.refl ..
  | some g =>
    rw [State.reloadEngine_some p hgraph]
    exact State.modEng_effect ..

theorem State.reloadEngine_other (s : State) {j e : Nat} (h : e ≠ engOf p j) : (s.reloadEngine p j).eng e = s.eng e := by
  cases hgraph : s.graph j with
  | none => rw [State.reloadEngine_none p hgraph]
  | some g => rw [State.reloadEngine_some p hgraph, State.modEng_other _ _ _ h]

/-- The words of a graph in an engine. -/
def EngSt.holds (e : EngSt) (g : Graph) : Prop := e.states = g.init ∧ e.bankA = g.bankA ∧ e.bankB = g.bankB

theorem State.reloadEngine_holds {j : Nat} {g : Graph} (h : s.graph j = some g) : ((s.reloadEngine p j).eng (engOf p j)).holds g := by
  rw [State.reloadEngine_some p h, State.modEng_same]
  exact ⟨rfl, rfl, rfl⟩

/-- The standby's memories reloaded from the image copy. -/
def State.reloaded (s : State) (p : Nat) : State := s.each (upTo 8) fun s j => s.reloadEngine p j

theorem State.reloaded_effect (s : State) : Effect [.engs] (some []) s (s.reloaded p) :=
  Effect.each (Effect.refl ..) fun u j => u.reloadEngine_effect p j

theorem State.reloaded_holds {j : Nat} {g : Graph} (hj : j < 8) (h : s.graph j = some g) :
    ((s.reloaded p).eng (engOf p j)).holds g := by
  have hsame : ∀ v : State, v.cfg = s.cfg → ∀ k, v.graph k = s.graph k := fun v hv k => by rw [State.graph, hv, ← State.graph]
  have hall := State.each_forall (I := fun v => v.cfg = s.cfg) (P := fun k v => ∀ g, s.graph k = some g → (v.eng (engOf p k)).holds g)
    (l := upTo 8) (f := fun s j => s.reloadEngine p j) (s := s) rfl
    (fun v hv k _ => ((v.reloadEngine_effect p k).same .cfg (by decide)).trans hv)
    (fun v hv k _ g hg => State.reloadEngine_holds p ((hsame v hv k).trans hg))
    (fun v _ k _ b hkb hb g hg => by
      rw [v.reloadEngine_other p (show engOf p b ≠ engOf p k by unfold engOf; omega)]
      exact hb g hg)
  exact hall.2 j (mem_upTo.mpr hj) g h

end

/-! ### REVIVE (R208) -/

section
variable {s : State}

theorem State.revive_honoured (hstate : s.refState = rsHeld) (hrole : s.role s.standby = roUnfit) (hstep : s.rd Reg.POWER_SHED.STEP < 3) :
    s.revive = if !s.load.dram then (s.startShadow true).wakeFails false else (s.reloaded s.standby).startShadow true :=
  if_pos ⟨hstate, hrole, hstep⟩

theorem State.revive_ignored (h : s.refState ≠ rsHeld ∨ s.role s.standby ≠ roUnfit ∨ 3 ≤ s.rd Reg.POWER_SHED.STEP) : s.revive = s := by
  refine if_neg fun ⟨hstate, hrole, hstep⟩ => ?_
  rcases h with h | h | h
  · exact h hstate
  · exact h hrole
  · omega

/-- A revive without DRAM: the shadow run ends as it begins. -/
theorem State.revive_fails (hstate : s.refState = rsHeld) (hrole : s.role s.standby = roUnfit) (hstep : s.rd Reg.POWER_SHED.STEP < 3)
    (hdram : s.load.dram = false) : s.revive = ((s.startShadow true).raise 21 s.standby).endShadow 5 roUnfit := by
  rw [State.revive_honoured hstate hrole hstep, if_pos (by rw [hdram]; rfl), State.wakeFails_shadow (s.startShadow_does true).1,
    State.startShadow_standby]

end

end Sys2Proof.Machine
end

section
namespace Sys2Proof.Machine

set_option Elab.async false

/-- Settles O27: each of the five commands as the operation it runs, which ends, begins or hands over a shadow run. -/
theorem halftimeHandsOverAndReviveReturnsAPlane : Obligations.HalftimeHandsOverAndReviveReturnsAPlane := by
  unfold Obligations.HalftimeHandsOverAndReviveReturnsAPlane
  refine ⟨?asks, ?hands, ?noHandover, ?revives, ?noDram, ?notRevived, ?completes, ?notComplete⟩
  case asks =>
    intro s t
    refine ⟨_, exec_halftimeNow s t, ?_, State.elapse_op_settle_effect (State.modRef_effect ..) (by decide) (by decide)⟩
    rw [State.settle_referee, State.halftimeNow, State.modRef_referee, State.elapse_referee]
  case hands =>
    intro s t hstate hcomplete hholder
    obtain ⟨hheld, hgiven, hactive, hcold, hreferee, hlease, hshown⟩ := State.handover_does ((s.elapse_refState t).trans hstate)
      ((s.elapse_shadowComplete t false).trans hcomplete) ((s.elapse_holder t).symm ▸ hholder)
    obtain ⟨hcount, houtcome, hevent⟩ := (s.elapse t).handoverShown_reads
    rw [State.elapse_holder] at hgiven hactive hcold
    rw [State.elapse_referee] at hreferee
    have hexec := exec_halftimeHandover s t
    refine ⟨_, hexec, (State.settle_refState _).trans hheld, (State.settle_rd _ _ _ _ (by decide +kernel)).trans hgiven, ?_, ?_, ?_, ?_, ?_,
      ?_, ?_, ?_, ?_, Effect.of_exec (execHalftimeHandover_effect t s) hexec (by decide) (by decide +kernel)⟩
    · rw [State.settle_role, hactive]
    · rw [State.settle_role, hcold]
    · rw [State.settle_referee, hreferee]
      rfl
    · rw [State.settle_referee, hreferee]
      rfl
    · rw [State.settle_rd _ _ _ _ (by decide +kernel), hshown _ (by decide +kernel), houtcome]
    · rw [State.settle_rd _ _ _ _ (by decide +kernel), hshown _ (by decide +kernel), hcount, s.elapse_rd t _ _ _ (by decide +kernel)]
    · rw [State.settle_rd _ _ _ _ (by decide +kernel), hshown _ (by decide +kernel), hevent]
    · rw [State.settle_rd _ _ _ _ (by decide +kernel), hlease, State.elapse_cfg]
    · rw [State.settle_referee, hreferee]
      rfl
  case noHandover =>
    intro s t h
    have hkept : (s.elapse t).handover = s.elapse t := by
      refine if_neg ?_
      rw [State.elapse_refState, State.elapse_shadowComplete]
      rintro ⟨hstate, hcomplete⟩
      rcases h with h | h
      · exact h hstate
      · exact absurd (hcomplete.symm.trans h) (by decide)
    exact ⟨_, (exec_halftimeHandover s t).trans (congrArg done hkept), s.elapse_settle_effect t⟩
  case revives =>
    intro s t hstate hrole hstep hdram
    have hrevive := State.revive_honoured (s := s.elapse t) ((s.elapse_refState t).trans hstate)
      (by rwa [State.elapse_role, State.elapse_standby]) (by rwa [s.elapse_rd t _ _ _ (by decide +kernel)])
    rw [if_neg (by simp [hdram]), State.elapse_standby] at hrevive
    have hgraph : ∀ j, (s.elapse t).graph j = s.graph j := fun j => by rw [State.graph, State.elapse_cfg, ← State.graph]
    have hholds : ∀ j g, j < 8 → s.graph j = some g → (((s.elapse t).reloaded s.standby).eng (engOf s.standby j)).holds g :=
      fun j g hj hg => State.reloaded_holds s.standby hj ((hgraph j).trans hg)
    have hreloaded := (s.elapse t).reloaded_effect s.standby
    generalize (s.elapse t).reloaded s.standby = u at *
    have hstandby : u.standby = s.standby :=
      congrArg (1 - ·) ((hreloaded.rd Reg.REF_STATUS.HOLDER 0 0 (by decide +kernel)).trans (s.elapse_holder t))
    obtain ⟨hshadow, hwaking, hreferee, hmatched, -, hmemories⟩ := u.startShadow_does true
    rw [hreloaded.same .referee (by decide), State.elapse_referee] at hreferee
    rw [hstandby] at hwaking
    have hexec : exec (.revive t) s = done (u.startShadow true) := (exec_revive s t).trans (congrArg done hrevive)
    refine ⟨_, hexec, (State.settle_refState _).trans hshadow, (State.settle_role _ _).trans hwaking, ?_, ?_, ?_, ?_, ?_,
      Effect.of_exec (execRevive_effect t s) hexec (by decide) (by decide +kernel)⟩
    · rw [State.settle_referee, hreferee]
    · rw [State.settle_referee, hreferee]
    · rw [State.settle_rd _ _ _ _ (by decide +kernel), hmatched]
    · rw [State.settle_referee, hreferee]
    · intro j g hj hg
      obtain ⟨hstates, hbankA, hbankB⟩ := hholds j g hj hg
      have hkept := hmemories (engOf s.standby j)
      simp only [EngSt.memories, Prod.mk.injEq] at hkept
      obtain ⟨hkeptStates, -, hkeptA, hkeptB⟩ := hkept
      rw [State.eng, State.settle_engs, ← State.eng]
      exact ⟨hkeptStates.trans hstates, hkeptA.trans hbankA, hkeptB.trans hbankB⟩
  case noDram =>
    intro s t hstate hrole hstep hdram
    have hrevive := State.revive_fails (s := s.elapse t) ((s.elapse_refState t).trans hstate)
      (by rwa [State.elapse_role, State.elapse_standby]) (by rwa [s.elapse_rd t _ _ _ (by decide +kernel)]) (by rwa [State.elapse_load])
    obtain ⟨-, -, hreferee, -, hevt, hmemories⟩ := (s.elapse t).startShadow_does true
    have hstandby := (s.elapse t).startShadow_standby true
    rw [State.elapse_standby] at hrevive hstandby
    rw [State.elapse_referee] at hreferee
    generalize (s.elapse t).startShadow true = u at *
    have hevent : raises (s.elapse t) (u.raise 21 s.standby) 21 s.standby := raises_raise_keepSource hevt (by decide) _
    have hraise := State.raise_keepSource_effect u (pos := 21) (by decide) s.standby
    generalize u.raise 21 s.standby = v at *
    have hstandbyRaised : v.standby = s.standby :=
      (congrArg (1 - ·) (hraise.rd Reg.REF_STATUS.HOLDER 0 0 (by decide +kernel))).trans hstandby
    obtain ⟨hheld, hunfit, houtcome, hrefereeEnd⟩ := v.endShadow_does (outcome := 5) (role := roUnfit) (by decide) (by decide)
    have hend := State.endShadow_effect v 5 roUnfit
    rw [hstandbyRaised] at hunfit
    refine ⟨_, (exec_revive s t).trans (congrArg done hrevive), (State.settle_refState _).trans hheld, (State.settle_role _ _).trans hunfit,
      ?_, ?_, ?_, fun e => ?_⟩
    · rw [State.settle_rd _ _ _ _ (by decide +kernel), houtcome]
    · rw [State.settle_referee, hrefereeEnd, hraise.same .referee (by decide), hreferee]
    · rw [raises, State.settle_faults, hend.same .faults (by decide)]
      exact hevent
    · have hkept : ((v.endShadow 5 roUnfit).settle.eng e).memories = (s.eng e).memories := by
        rw [State.eng, State.settle_engs, ← State.eng, State.endShadow_memories, State.eng, hraise.same .engs (by decide), ← State.eng,
          hmemories, State.eng, State.elapse_engs, ← State.eng]
      simp only [EngSt.memories, Prod.mk.injEq] at hkept
      exact hkept
  case notRevived =>
    intro s t h
    have hkept : (s.elapse t).revive = s.elapse t := State.revive_ignored
      (by rwa [State.elapse_refState, State.elapse_standby, State.elapse_role, s.elapse_rd t _ _ _ (by decide +kernel)])
    exact ⟨_, (exec_revive s t).trans (congrArg done hkept), s.elapse_settle_effect t⟩
  case completes =>
    intro s t hstate hcomplete
    have hends : (s.elapse t).reviveComplete = (s.elapse t).endShadow 4 roCold :=
      if_pos ⟨(s.elapse_refState t).trans hstate, (s.elapse_shadowComplete t true).trans hcomplete⟩
    obtain ⟨hheld, hcold, houtcome, hreferee⟩ := (s.elapse t).endShadow_does (outcome := 4) (role := roCold) (by decide) (by decide)
    have hend := State.endShadow_effect (s.elapse t) 4 roCold
    rw [State.elapse_standby] at hcold
    rw [State.elapse_referee] at hreferee
    have hexec : exec (.reviveComplete t) s = done ((s.elapse t).endShadow 4 roCold) :=
      (exec_reviveComplete s t).trans (congrArg done hends)
    refine ⟨_, hexec, (State.settle_refState _).trans hheld, (State.settle_role _ _).trans hcold, ?_, ?_, ?_, ?_,
      Effect.of_exec (execReviveComplete_effect t s) hexec (by decide) (by decide +kernel)⟩
    · rw [State.settle_rd _ _ _ _ (by decide +kernel), houtcome]
    · rw [State.settle_referee, hreferee]
    · rw [State.settle_referee, hreferee]
    · exact (State.settle_rd _ _ _ _ (by decide +kernel)).trans ((hend.rd _ 0 0 (by decide +kernel)).trans (s.elapse_holder t))
  case notComplete =>
    intro s t h
    have hkept : (s.elapse t).reviveComplete = s.elapse t := by
      refine if_neg ?_
      rw [State.elapse_refState, State.elapse_shadowComplete]
      rintro ⟨hstate, hcomplete⟩
      rcases h with h | h
      · exact h hstate
      · exact absurd (hcomplete.symm.trans h) (by decide)
    exact ⟨_, (exec_reviveComplete s t).trans (congrArg done hkept), s.elapse_settle_effect t⟩

end Sys2Proof.Machine
end

section
namespace Sys2Proof.Machine

set_option Elab.async false

/-! ### The pair link (R216, R217) -/

theorem exec_pairPacket (s : State) (port : Fin 4) (src : Nat) (b : List Byte) (ok : Bool) (t : Nat) :
    exec (.pairPacket port src ⟨b, ok⟩ t) s = done ((s.elapse t).pairPacket port.val src b ok) := rfl

theorem exec_pairSilence (s : State) (t : Nat) : exec (.pairSilence t) s = done (s.elapse t).pairSilence := rfl

/-- Whether a PAIR packet is one of the partner's that this device takes. -/
def State.pairTakes (s : State) (port src : Nat) (b : List Byte) : Bool :=
  !(!s.pairEnabled || s.pairPort ≠ some port || src ≠ s.pairNode || !s.pairLinkUp || !s.pairSameImage || b.length < 112)

section
variable (s : State) (t : Nat)

theorem State.elapse_pairEnabled : (s.elapse t).pairEnabled = s.pairEnabled := s.elapse_on t (by decide +kernel)

theorem State.elapse_pairPort : (s.elapse t).pairPort = s.pairPort := by
  rw [State.pairPort, State.elapse_cfg, ← State.pairPort]

theorem State.elapse_pairNode : (s.elapse t).pairNode = s.pairNode := by
  rw [State.pairNode, State.elapse_cfg, ← State.pairNode]

theorem State.elapse_pairSameImage : (s.elapse t).pairSameImage = s.pairSameImage := by
  rw [State.pairSameImage, State.elapse_cfg, State.elapse_host, ← State.pairSameImage]

theorem State.elapse_pairLinkUp : (s.elapse t).pairLinkUp = s.pairLinkUp := by
  unfold State.pairLinkUp
  rw [State.elapse_pairPort]
  cases s.pairPort with
  | none => rfl
  | some p => exact s.elapse_on t (by decide +kernel)

theorem State.elapse_pairTakes (port src : Nat) (b : List Byte) : (s.elapse t).pairTakes port src b = s.pairTakes port src b := by
  simp only [State.pairTakes, State.elapse_pairEnabled, State.elapse_pairPort, State.elapse_pairNode, State.elapse_pairLinkUp,
    State.elapse_pairSameImage]

end

/-- Whether the packet numbers show that one is missing. -/
def PairSt.misses (p : PairSt) (seq : Nat) : Bool :=
  match p.rxSeq with
  | some x => decide ((x + 1) % 4294967296 ≠ seq)
  | none => false

/-- The pair record as the fixed part of a packet is taken. -/
def PairSt.heard (p : PairSt) (frameNo : Nat) (b : List Byte) : PairSt :=
  { p with arrived := true, rxSeq := some (u32At b 8), resync := p.resync || p.misses (u32At b 8),
           full := if hasBit (u8At b 0) 1 then some (p.full.getD frameNo) else p.full, partnerState := u8At b 1,
           waiting := p.waiting ++ [(frameNo, b)] }

/-- The fixed part of a packet taken. -/
def State.pairHeard (s : State) (port : Nat) (b : List Byte) : State :=
  ((s.wr Reg.REF_PAIR.PARTNER_HOLDS (u8At b 0)).modPairSt fun p =>
    p.heard (s.wr Reg.REF_PAIR.PARTNER_HOLDS (u8At b 0)).frameNo b).wr Reg.BB_STATUS.RX_IDLE 0 port

section
variable {s : State} {port src : Nat} {b : List Byte} {ok : Bool}

theorem State.pairHeard_does (hport : port < 4) : (s.pairHeard port b).rd Reg.REF_PAIR.PARTNER_HOLDS = u8At b 0 % 2 ∧
    (s.pairHeard port b).pair = s.pair.heard s.frameNo b ∧ (s.pairHeard port b).rd Reg.BB_STATUS.RX_IDLE port = 0 ∧
    (s.pairHeard port b).journal = s.journal := by
  have hframe : (s.wr Reg.REF_PAIR.PARTNER_HOLDS (u8At b 0)).frameNo = s.frameNo := State.rd_wr_apart _ _ _ _ _ _ (by decide +kernel)
  unfold State.pairHeard
  rw [hframe]
  refine ⟨?_, ?_, ?_, ?_⟩
  · rw [State.rd_wr_apart _ _ _ _ _ _ (by decide +kernel)]
    exact State.rd_wr_same _ _ _ _ _ rfl (by decide)
  · rw [State.wr_pair, State.modPairSt, State.wr_pair]
  · rw [State.rd_wr_same _ _ _ _ _ (by simp [Field.has, Reg.BB_STATUS.RX_IDLE, hport]) (by decide)]
    rfl
  · rw [State.wr_journal, State.modPairSt, State.wr_journal]

theorem State.pairPacket_ignored (h : s.pairTakes port src b = false) : s.pairPacket port src b ok = s :=
  if_pos ((Bool.not_eq_false' ..).mp h)

/-- A packet that brings no JOURNAL records. -/
theorem State.pairPacket_heard (h : s.pairTakes port src b = true)
    (hrecords : ((pairRecords (u16At b 2) (b.drop 112)).filter fun r => u8At r 0 == 5) = []) :
    s.pairPacket port src b ok = s.pairHeard port b := by
  unfold State.pairPacket
  rw [if_neg, hrecords]
  · rfl
  · exact Bool.eq_false_iff.mp ((Bool.not_eq_true' ..).mp h)

end

/-- Settles O28: the packet and the silence case by case, at an instant that moves nothing of what they are judged by. -/
theorem pairPacketsAreTakenAndSilenceIsJudged : Obligations.PairPacketsAreTakenAndSilenceIsJudged := by
  unfold Obligations.PairPacketsAreTakenAndSilenceIsJudged
  refine ⟨?taken, ?ignored, ?silent, ?notSilent⟩
  case taken =>
    intro s port b ok t henabled hport hlink himage hlength hrecords
    have htakes : (s.elapse t).pairTakes port.val s.pairNode b = true := by
      rw [State.elapse_pairTakes]
      simp [State.pairTakes, henabled, hport, hlink, himage, hlength]
    have hexec : exec (.pairPacket port s.pairNode ⟨b, ok⟩ t) s = done ((s.elapse t).pairHeard port.val b) :=
      (exec_pairPacket ..).trans (congrArg done (State.pairPacket_heard htakes hrecords))
    obtain ⟨hholds, hpair, hidle, hjournal⟩ := State.pairHeard_does (s := s.elapse t) (b := b) port.isLt
    rw [State.elapse_pair, State.elapse_frameNo] at hpair
    have hend : ((s.elapse t).pairHeard port.val b).settle.pair = s.pair.heard s.frameNo b := (State.settle_pair _).trans hpair
    refine ⟨_, hexec, ?_, congrArg PairSt.arrived hend, congrArg PairSt.rxSeq hend, congrArg PairSt.waiting hend,
      congrArg PairSt.partnerState hend, congrArg PairSt.full hend, congrArg PairSt.resync hend, ?_, ?_,
      Effect.of_exec (execPairPacket_effect port s.pairNode ⟨b, ok⟩ t s) hexec (by decide) (by decide +kernel)⟩
    · rw [State.settle_rd _ _ _ _ (by decide +kernel), hholds]
    · rw [State.settle_rd _ _ _ _ (by decide +kernel), hidle]
    · rw [State.settle_journal, hjournal, State.elapse_journal]
  case ignored =>
    intro s port src b ok t h
    have hignored : (s.elapse t).pairTakes port.val src b = false := by
      rw [State.elapse_pairTakes]
      rcases h with h | h | h | h | h | h <;> simp [State.pairTakes, h]
    exact ⟨_, (exec_pairPacket ..).trans (congrArg done (State.pairPacket_ignored hignored)), s.elapse_settle_effect t⟩
  case silent =>
    intro s t henabled harrived hsilent
    have hjudged : (s.elapse t).pairSilence = ((s.elapse t).modPairSt fun p => { p with silent := 4, msgFrames := 0 }).showPairLink :=
      if_pos (by rw [State.elapse_pairEnabled, State.elapse_pair]; simp [henabled, harrived, hsilent])
    have hlink := State.showPairLink_effect ((s.elapse t).modPairSt fun p => { p with silent := 4, msgFrames := 0 })
    have hexec := (exec_pairSilence s t).trans (congrArg done hjudged)
    refine ⟨_, hexec, ?_, ?_, Effect.of_exec (execPairSilence_effect t s) hexec (by decide) (by decide +kernel)⟩
    · rw [State.settle_pair, hlink.same .pair (by decide), State.modPairSt, State.elapse_pair]
    · rw [State.settle_rd _ _ _ _ (by decide +kernel)]
      exact State.rd_wr_same _ _ _ _ _ rfl (by decide)
  case notSilent =>
    intro s t h
    have hkept : (s.elapse t).pairSilence = s.elapse t := by
      refine if_neg ?_
      rw [State.elapse_pairEnabled, State.elapse_pair]
      rcases h with h | h | h <;> simp [h]
    exact ⟨_, (exec_pairSilence s t).trans (congrArg done hkept), s.elapse_settle_effect t⟩

end Sys2Proof.Machine
end

section
namespace Sys2Proof.Machine

set_option Elab.async false

/-! ### The interrupt sources that a command leaves pending (R344) -/

/-- A bit set in a word leaves the others. -/
theorem hasBit_setBit_other {n i j : Nat} (h : i ≠ j) : hasBit (setBit n i) j = hasBit n j := by
  unfold setBit
  split
  case isTrue => rfl
  case isFalse hclear =>
    rw [hasBit_eq_testBit] at *
    rw [hasBit_eq_testBit]
    rcases Nat.lt_or_gt_of_ne h with hlt | hgt
    · obtain ⟨k, rfl⟩ := Nat.exists_eq_add_of_lt hlt
      have heven : n / 2 ^ i % 2 = 0 := by simpa [Nat.testBit_eq_decide_div_mod_eq] using hclear
      have hhalf : (n / 2 ^ i + 1) / 2 = n / 2 ^ i / 2 := by omega
      rw [show i + k + 1 = k + 1 + i by omega, Nat.testBit_add _ (k + 1) i, Nat.testBit_add _ (k + 1) i,
        Nat.add_div_right _ (Nat.two_pow_pos i), Nat.testBit_add_one, Nat.testBit_add_one, hhalf]
    · rw [Nat.add_comm, Nat.testBit_two_pow_add_gt hgt]

theorem hasBit_foldl_other {p : Nat → Bool} {j : Nat} (h : p j = false) (l : List Nat) (w : Nat) :
    hasBit (l.foldl (fun w k => if p k then setBit w k else w) w) j = hasBit w j := by
  induction l generalizing w with
  | nil => rfl
  | cons k l ih =>
    refine (ih _).trans ?_
    by_cases hk : p k = true
    · exact (congrArg (hasBit · j) (if_pos hk)).trans (hasBit_setBit_other fun hkj => by simp [hkj, h] at hk)
    · exact congrArg (hasBit · j) (if_neg hk)

/-- A source that is not pending at the end of a command does not show. -/
theorem State.settle_notPending (s : State) {k : Nat} (h : s.sourcePending k = false) :
    hasBit (s.settle.rd Reg.HOST_IRQ_PENDING.SOURCE) k = false := by
  unfold State.settle
  extract_lets old now sent shown low
  have hshown : shown.rd Reg.HOST_IRQ_PENDING.SOURCE = now % 2 ^ 20 := State.rd_wr_same _ _ _ _ _ rfl (by decide)
  have hnow : hasBit now k = false := by
    rw [show now = (upTo 20).foldl (fun w k => if s.sourcePending k then setBit w k else w) 0 from rfl, hasBit_foldl_other h,
      hasBit_eq_testBit, Nat.zero_testBit]
  have hend : hasBit (now % 2 ^ 20) k = false := by
    rw [hasBit_eq_testBit] at *
    rw [Nat.testBit_mod_two_pow, hnow, Bool.and_false]
  exact (congrArg (hasBit · k) hshown).trans hend

theorem State.sendVector_cplPending (s : State) (v : Nat) : (s.sendVector v).host.cplPending = s.host.cplPending := by
  unfold State.sendVector
  extract_lets e
  split
  · rfl
  · split <;> rfl

theorem State.settle_cplPending (s : State) : s.settle.host.cplPending = s.host.cplPending := by
  unfold State.settle
  extract_lets old now sent shown low
  have hsent : sent.host.cplPending = s.host.cplPending := State.each_keeps (·.host.cplPending) (fun u k => by
    split
    · exact State.sendVector_cplPending ..
    · rfl) s
  exact (congrArg HostSt.cplPending (State.wr_host ..)).trans hsent

end Sys2Proof.Machine
end
section
namespace Sys2Proof.Machine

set_option Elab.async false

/-! ### The rings (R345 to R347) -/

/-- The register fields that the completion ring is judged by. -/
def cplFields : List Field := [Reg.JRN_CPL_CFG.EN, Reg.JRN_CPL_CFG.LOG2N, Reg.JRN_CPL_HEAD.INDEX, Reg.JRN_CPL_TAIL.INDEX,
  Reg.JRN_RING_STATUS.STOPPED]

/-- The register fields that the command ring is judged by beside them. -/
def cmdFields : List Field := [Reg.JRN_CMD_CFG.EN, Reg.JRN_CMD_CFG.LOG2N, Reg.JRN_CMD_HEAD.INDEX, Reg.JRN_CMD_TAIL.INDEX]

/-- Whether the completion ring takes an entry (R347). -/
def State.cplOpen (s : State) : Bool := s.on Reg.JRN_CPL_CFG.EN && !s.on Reg.JRN_RING_STATUS.STOPPED && decide (0 < s.cplFree)

/-- Whether the next command waits for room in the completion ring (R346). -/
def State.waitsCpl (s : State) : Bool :=
  s.on Reg.JRN_CMD_CFG.EN && s.rd Reg.JRN_CMD_HEAD.INDEX % s.cmdSize != s.rd Reg.JRN_CMD_TAIL.INDEX % s.cmdSize &&
    decide (s.cplFree < 2 + s.owed)

theorem State.cplOpen_of {s : State} (hen : s.rd Reg.JRN_CPL_CFG.EN ≠ 0) (hstop : s.rd Reg.JRN_RING_STATUS.STOPPED = 0)
    (hfree : 0 < s.cplFree) : s.cplOpen = true := by
  simp [State.cplOpen, State.on_eq_true.mpr hen, State.on_eq_false.mpr hstop, hfree]

section
variable {s t : State}

theorem State.cplFree_congr (h : ∀ f ∈ cplFields, t.rd f = s.rd f) : t.cplFree = s.cplFree := by
  simp only [State.cplFree, State.cplSize, h Reg.JRN_CPL_HEAD.INDEX (by decide), h Reg.JRN_CPL_TAIL.INDEX (by decide),
    h Reg.JRN_CPL_CFG.LOG2N (by decide)]

theorem State.cplOpen_congr (h : ∀ f ∈ cplFields, t.rd f = s.rd f) : t.cplOpen = s.cplOpen := by
  simp only [State.cplOpen, State.on, h Reg.JRN_CPL_CFG.EN (by decide), h Reg.JRN_RING_STATUS.STOPPED (by decide), State.cplFree_congr h]

theorem State.cmdSize_congr (h : ∀ f ∈ cmdFields, t.rd f = s.rd f) : t.cmdSize = s.cmdSize := by
  simp only [State.cmdSize, h Reg.JRN_CMD_CFG.LOG2N (by decide)]

theorem State.owed_congr (hjournal : t.journal = s.journal) : t.owed = s.owed := by
  simp only [State.owed, hjournal]

theorem State.waitsCpl_congr (hcpl : ∀ f ∈ cplFields, t.rd f = s.rd f) (hcmd : ∀ f ∈ cmdFields, t.rd f = s.rd f)
    (hjournal : t.journal = s.journal) : t.waitsCpl = s.waitsCpl := by
  simp only [State.waitsCpl, State.on, hcmd Reg.JRN_CMD_CFG.EN (by decide), hcmd Reg.JRN_CMD_HEAD.INDEX (by decide),
    hcmd Reg.JRN_CMD_TAIL.INDEX (by decide), State.cmdSize_congr hcmd, State.cplFree_congr hcpl, State.owed_congr hjournal]

/-- An effect that leaves the registers of a list. -/
theorem Effect.reads {A : List Part} {F : List Field} (k : Effect A (some F) s t) (l : List Field)
    (hF : (F.all fun g => l.all fun f => f.apart g) = true := by decide +kernel) : ∀ f ∈ l, t.rd f = s.rd f := by
  simp only [List.all_eq_true] at hF
  exact fun f hf => k.rd f 0 0 (List.all_eq_true.mpr fun g hg => hF g hg f hf)

theorem State.showWait_rd (s : State) : s.showWait.rd Reg.JRN_RING_STATUS.WAIT_CPL = b01 s.waitsCpl :=
  (State.rd_wr_same _ _ _ _ _ rfl (by decide)).trans (b01_mod _)

end

/-! ### Completion entries (R347, Table 16-4) -/

/-- The kind and the status of an entry. -/
theorem u8At_cplBytes (kind status result opcode seq epoch aux ns index source : Nat) (x : List Byte) :
    u8At (cplBytes kind status result opcode seq epoch aux ns index source ++ x) 0 = kind % 256 ∧
    u8At (cplBytes kind status result opcode seq epoch aux ns index source ++ x) 1 = status % 256 := ⟨rfl, rfl⟩

section
variable (s : State) (source : Nat) (port : Option Nat) (b : List Byte)

/-- What the host port shows of an entry written into the open completion ring. -/
theorem State.reply_writes (hopen : s.cplOpen = true) : (s.reply 0 port b).host.cplPending = true ∧
    ∃ a x, (s.reply 0 port b).out = s.out ++ [.completion a (b ++ x)] := by
  unfold State.cplOpen at hopen
  unfold State.reply
  rw [if_pos rfl, if_pos hopen]
  extract_lets i ph base entry counted wrapped
  have hout : wrapped.out = entry.out :=
    (State.when_keeps (·.out) (fun _ => State.wr_out ..) counted).trans (State.wr_out ..)
  exact ⟨rfl, base + 32 * i, leBytes 1 ph ++ leBytes 4 0, by rw [hout, State.emit_out, List.append_assoc]⟩

theorem State.send_cplPending (p type dst : Nat) : (s.send p type dst b).host.cplPending = s.host.cplPending := by
  unfold State.send
  split
  · extract_lets sent
    have hsent : sent.host = s.host := State.wr_host ..
    exact (congrArg HostSt.cplPending hsent :)
  · rfl

/-- A completion that is pending stays so when another entry follows. -/
theorem State.reply_cplPending (h : s.host.cplPending = true) : (s.reply source port b).host.cplPending = true := by
  unfold State.reply
  split
  · split
    · rfl
    · exact h
  · split
    · exact (s.send_cplPending ..).trans h
    · exact h

end

/-- An acknowledgement written into the open completion ring shows at the end of its command. -/
theorem answered_of_reply {s u v : State} {port : Option Nat} {status result opcode seq epoch aux ns index source : Nat}
    (hstatus : status < 256) (hbefore : s.out <+: u.out) (hopen : u.cplOpen = true)
    (hafter : (u.reply 0 port (cplBytes 1 status result opcode seq epoch aux ns index source)).out <+: v.out)
    (hpending : (u.reply 0 port (cplBytes 1 status result opcode seq epoch aux ns index source)).host.cplPending = true →
      v.host.cplPending = true) : answered s v.settle status := by
  obtain ⟨hcpl, a, x, hout⟩ := u.reply_writes port (cplBytes 1 status result opcode seq epoch aux ns index source) hopen
  obtain ⟨l, hl⟩ := hbefore
  obtain ⟨hkind, hstat⟩ := u8At_cplBytes 1 status result opcode seq epoch aux ns index source x
  refine ⟨(State.settle_cplPending v).trans (hpending hcpl), l, a, _, ?_, hkind, hstat.trans (Nat.mod_eq_of_lt hstatus)⟩
  rw [hl, ← hout]
  exact hafter.trans (State.settle_effect v).log

end Sys2Proof.Machine
end

section
namespace Sys2Proof.Machine

set_option Elab.async false

/-! ### An entry judged (Table 09-9) -/

/-- The acknowledgement of an entry. -/
def State.ack (s : State) (source : Nat) (entry : List Byte) (via status result aux ns : Nat) : State :=
  s.reply source (some via)
    (cplBytes 1 status result (u8At entry 8) (u32At entry 0) s.epoch aux ns (if source = 0 then via else 0) source)

/-- How far the seq of an entry lies beyond the last of its source. -/
def State.seqStep (s : State) (source : Nat) (entry : List Byte) : Int := signed 32 (u32At entry 0 + 4294967296 - s.lastSeq source)

/-- The record of an entry that begins its acceptance. -/
def State.newRec (s : State) (source : Nat) (entry : List Byte) (via : Nat) : JrnRec :=
  { slot := s.freeSlot, seq := u32At entry 0, epoch := s.epoch, ns := s.count, source := source, opcode := u8At entry 8,
    args := slice entry 16 (u8At entry 9), frameExec := none, result := 0, order := 0,
    dueFrame := if s.pairMirrors then some ((s.firstTickAfter s.time.ns + 2) % 4294967296) else none, via := via }

section
variable {s : State} {source via : Nat} {entry : List Byte}

theorem State.judge_otherEpoch (h : u32At entry 4 ≠ s.epoch) : s.judge source entry via =
    (s.bump Reg.JRN_BUSY.OTHER).ack source entry via 4 0 (s.lastSeq source) s.count := by
  unfold State.judge
  rw [if_pos h]
  rfl

section
variable (hepoch : u32At entry 4 = s.epoch)
include hepoch

theorem State.judge_badFormat (h : formatOk (u8At entry 8) (u8At entry 9) (slice entry 16 88) = false) : s.judge source entry via =
    (s.bump Reg.JRN_BUSY.OTHER).ack source entry via 5 0 0 s.count := by
  unfold State.judge
  rw [if_neg (not_not.mpr hepoch), if_pos (by rw [h]; rfl)]
  rfl

variable (hformat : formatOk (u8At entry 8) (u8At entry 9) (slice entry 16 88) = true)
include hformat

theorem State.judge_repeated (h : s.seqStep source entry ≤ 0) :
    ∃ result aux ns, s.judge source entry via = (s.bump Reg.JRN_REFUSE.REPEATED).ack source entry via 1 result aux ns := by
  unfold State.seqStep at h
  unfold State.judge
  rw [if_neg (not_not.mpr hepoch), if_neg (by rw [hformat]; decide), if_pos h]
  extract_lets repeated
  cases repeated.held source (u32At entry 0) <;> exact ⟨_, _, _, rfl⟩

theorem State.judge_gap (h : 1 < s.seqStep source entry) : s.judge source entry via =
    (s.bump Reg.JRN_REFUSE.GAP).ack source entry via 2 0 ((s.lastSeq source + 1) % 4294967296) s.count := by
  unfold State.seqStep at h
  unfold State.judge
  rw [if_neg (not_not.mpr hepoch), if_neg (by rw [hformat]; decide), if_neg (by omega), if_pos h]
  rfl

variable (hnext : s.seqStep source entry = 1)
include hnext

theorem State.judge_full (h : 1024 ≤ s.journal.recs.length + s.journal.writing.length) : s.judge source entry via =
    ((s.bump Reg.JRN_BUSY.BUSY).wr Reg.JRN_EVENT.FULL 1).ack source entry via 3 0 0 s.count := by
  unfold State.seqStep at hnext
  unfold State.judge
  rw [if_neg (not_not.mpr hepoch), if_neg (by rw [hformat]; decide), if_neg (by omega), if_neg (by omega), if_pos h]
  rfl

theorem State.judge_accepts (h : s.journal.recs.length + s.journal.writing.length < 1024) : (s.judge source entry via).journal =
    { s.journal with writing := s.journal.writing ++ [s.newRec source entry via] } := by
  unfold State.seqStep at hnext
  unfold State.judge
  rw [if_neg (not_not.mpr hepoch), if_neg (by rw [hformat]; decide), if_neg (by omega), if_neg (by omega), if_neg (by omega)]
  extract_lets due r taken
  have htaken : taken.journal = { s.journal with writing := s.journal.writing ++ [s.newRec source entry via] } := rfl
  clear_value taken due
  cases due with
  | none => exact htaken
  | some k => exact ((State.sendPair_effect ..).same .journal (by decide)).trans htaken

end

end

/-! ### HOST_COMMAND_TAKE (R345, R346) -/

/-- The next entry taken from the command ring. -/
def State.commandTaken (s : State) : State :=
  s.wr Reg.JRN_CMD_HEAD.INDEX ((s.rd Reg.JRN_CMD_HEAD.INDEX % s.cmdSize + 1) % s.cmdSize)

/-- The register fields in which a refused entry is counted. -/
def refusalFields : List Field := [Reg.JRN_REFUSE.GAP, Reg.JRN_REFUSE.REPEATED, Reg.JRN_BUSY.BUSY, Reg.JRN_BUSY.OTHER, Reg.JRN_EVENT.FULL]

section
variable (s : State)

theorem State.elapse_ringReady (t : Nat) : (s.elapse t).ringReady = s.ringReady := by
  have hcpl := (State.elapse_effect s t).reads cplFields
  have hcmd := (State.elapse_effect s t).reads cmdFields
  simp only [State.ringReady, State.on, hcmd Reg.JRN_CMD_CFG.EN (by decide), hcpl Reg.JRN_CPL_CFG.EN (by decide),
    hcpl Reg.JRN_RING_STATUS.STOPPED (by decide), hcmd Reg.JRN_CMD_HEAD.INDEX (by decide), hcmd Reg.JRN_CMD_TAIL.INDEX (by decide),
    State.elapse_power, State.elapse_host, State.cmdSize_congr hcmd, State.cplFree_congr hcpl, State.owed_congr (s.elapse_journal t)]

theorem State.ringReady_iff : s.ringReady = true ↔ (s.on Reg.JRN_CMD_CFG.EN && s.on Reg.JRN_CPL_CFG.EN &&
      !s.on Reg.JRN_RING_STATUS.STOPPED && !s.power.held && s.host.linkUp) = true ∧
    s.rd Reg.JRN_CMD_HEAD.INDEX % s.cmdSize ≠ s.rd Reg.JRN_CMD_TAIL.INDEX % s.cmdSize ∧ 2 + s.owed ≤ s.cplFree := by
  rw [State.ringReady, Bool.and_eq_true, Bool.and_eq_true, decide_eq_true_eq, decide_eq_true_eq, and_assoc]

variable {s}

theorem State.cplOpen_of_ringReady (h : s.ringReady = true) : s.cplOpen = true := by
  obtain ⟨hready, -, hfree⟩ := s.ringReady_iff.mp h
  simp only [Bool.and_eq_true] at hready
  obtain ⟨⟨⟨⟨-, hen⟩, hrun⟩, -⟩, -⟩ := hready
  rw [State.cplOpen, hen, hrun, decide_eq_true (by omega)]
  rfl

theorem State.takeCommand_takes (h : s.ringReady = true) (entry : List Byte) : s.takeCommand entry =
    (s.commandTaken.judge 0 entry (s.rd Reg.JRN_CMD_HEAD.INDEX % s.cmdSize)).showWait := by
  obtain ⟨hready, hmore, hfree⟩ := s.ringReady_iff.mp h
  unfold State.takeCommand
  rw [if_neg]
  · rfl
  · rw [hready]
    simp only [Bool.not_true, Bool.false_eq_true, false_or, not_or]
    exact ⟨hmore, by omega⟩

theorem State.takeCommand_waits (h : s.ringReady = false) (entry : List Byte) : s.takeCommand entry = s.showWait := by
  have hnot := mt s.ringReady_iff.mpr (by rw [h]; decide)
  unfold State.takeCommand
  refine if_pos (by_contra fun hnone => hnot ?_)
  obtain ⟨hready, hmore, hfree⟩ := (not_or.trans (and_congr_right' not_or)).mp hnone
  exact ⟨by simpa using hready, hmore, by omega⟩

theorem State.commandTaken_effect (s : State) : Effect [] (some [Reg.JRN_CMD_HEAD.INDEX]) s s.commandTaken := State.wr_effect ..

theorem State.commandTaken_head (s : State) : s.commandTaken.rd Reg.JRN_CMD_HEAD.INDEX =
    (s.rd Reg.JRN_CMD_HEAD.INDEX % s.cmdSize + 1) % s.cmdSize := by
  have hclamp : 4 ≤ clampN 4 12 (s.rd Reg.JRN_CMD_CFG.LOG2N) ∧ clampN 4 12 (s.rd Reg.JRN_CMD_CFG.LOG2N) ≤ 12 := by
    unfold clampN
    split_ifs <;> omega
  have hsize : 0 < s.cmdSize ∧ s.cmdSize ≤ 2 ^ 12 :=
    ⟨Nat.two_pow_pos _, Nat.pow_le_pow_right (by decide) hclamp.2⟩
  refine (State.rd_wr_same _ _ _ _ _ rfl (by decide)).trans (Nat.mod_eq_of_lt ?_)
  exact lt_of_lt_of_le (Nat.mod_lt _ hsize.1) hsize.2

/-- What an entry is judged by is that of the state before its command. -/
theorem State.lastSeq_congr {t : State} (hjournal : t.journal = s.journal) {source : Nat}
    (hlast : t.rd Reg.JRN_SRC_LAST.LAST source = s.rd Reg.JRN_SRC_LAST.LAST source) : t.lastSeq source = s.lastSeq source := by
  simp only [State.lastSeq, hjournal, hlast]

end

/-- A state that differs from that before a command by its instant and the command ring's head alone. -/
theorem State.commandTaken_since (s : State) (t : Nat) : Effect [.time, .fr] (some (movesTime ++ [Reg.JRN_CMD_HEAD.INDEX])) s
    (s.elapse t).commandTaken :=
  (((State.elapse_effect s t).more (by decide +kernel)).grow (by decide)).step
    (((State.commandTaken_effect _).more (by decide +kernel)).grow (by decide)) (Effect.fits_refl _ _)

section
variable {s : State} {t : Nat}

theorem State.commandTaken_epoch : (s.elapse t).commandTaken.epoch = s.epoch := (s.commandTaken_since t).rd _ 0 0 (by decide +kernel)

theorem State.commandTaken_journal : (s.elapse t).commandTaken.journal = s.journal := (s.commandTaken_since t).same .journal (by decide)

theorem State.commandTaken_seqStep (entry : List Byte) : (s.elapse t).commandTaken.seqStep 0 entry = s.seqStep 0 entry := by
  rw [State.seqStep, State.lastSeq_congr State.commandTaken_journal ((s.commandTaken_since t).rd _ 0 0 (by decide +kernel)),
    ← State.seqStep]

theorem exec_hostCommandTake (s : State) (b : List Byte) (t : Nat) : exec (.hostCommandTake b t) s = done ((s.elapse t).takeCommand b) := rfl

/-- A command that is answered and not accepted: its status, its count, and the journal as it was. -/
theorem hostCommandTake_answers {b : List Byte} {u : State} {status result aux ns : Nat} (hready : s.ringReady = true)
    (hstatus : status < 256) (hcount : Effect [] (some refusalFields) (s.elapse t).commandTaken u)
    (hjudge : (s.elapse t).commandTaken.judge 0 b ((s.elapse t).rd Reg.JRN_CMD_HEAD.INDEX % (s.elapse t).cmdSize) =
      u.ack 0 b ((s.elapse t).rd Reg.JRN_CMD_HEAD.INDEX % (s.elapse t).cmdSize) status result aux ns) :
    ∃ n, exec (.hostCommandTake b t) s = .next n ∧ n.journal = s.journal ∧ answered s n status ∧ ∀ f ∈ refusalFields, n.rd f = u.rd f := by
  have haready : (s.elapse t).ringReady = true := (s.elapse_ringReady t).trans hready
  have htake := State.takeCommand_takes haready b
  rw [hjudge] at htake
  have hopen : u.cplOpen = true :=
    (State.cplOpen_congr (hcount.reads cplFields)).trans ((State.cplOpen_congr ((State.commandTaken_effect _).reads cplFields)).trans
      (State.cplOpen_of_ringReady haready))
  have hsince := s.commandTaken_since t
  have hreply : Effect State.reply_touch State.reply_fields u (u.ack 0 b ((s.elapse t).rd Reg.JRN_CMD_HEAD.INDEX % (s.elapse t).cmdSize)
      status result aux ns) := State.reply_effect ..
  have hwait := State.showWait_effect (u.ack 0 b ((s.elapse t).rd Reg.JRN_CMD_HEAD.INDEX % (s.elapse t).cmdSize) status result aux ns)
  refine ⟨_, (exec_hostCommandTake s b t).trans (congrArg done htake), ?_, ?_, fun f hf => ?_⟩
  · rw [State.settle_journal, hwait.same .journal (by decide), hreply.same .journal (by decide), hcount.same .journal (by decide),
      hsince.same .journal (by decide)]
  · refine answered_of_reply hstatus (hsince.log.trans hcount.log) hopen hwait.log fun h => ?_
    rwa [hwait.same .host (by decide)]
  · exact ((State.settle_effect _).reads refusalFields (by decide +kernel) f hf).trans
      ((hwait.reads refusalFields (by decide +kernel) f hf).trans (hreply.reads refusalFields (by decide +kernel) f hf))

end

end Sys2Proof.Machine
end

section
namespace Sys2Proof.Machine

set_option Elab.async false

/-! ### RING_RESTART, JRN_CPL_HEAD_WRITE and RING_PCIE_ERROR (R345, R347, R348) -/

theorem exec_ringRestart (s : State) (completion : Bool) (v : Nat) :
    exec (.ringRestart completion v) s = done (s.ringRestart completion v) := rfl

theorem exec_jrnCplHeadWrite (s : State) (v : Nat) : exec (.jrnCplHeadWrite v) s = done (s.cplHeadWrite v) := rfl

theorem exec_ringPcieError (s : State) (t : Nat) :
    exec (.ringPcieError t) s = done (((s.elapse t).wr Reg.JRN_RING_STATUS.STOPPED 1).raise 30 0) := rfl

theorem State.takeLow_none {s : State} {f : Field} {i : Nat} (h : Tbl.look 0 s.wrHold (f.at i 0) = 0) : s.takeLow f i = s := by
  rw [State.takeLow, h]

theorem State.takeLow_rd {s : State} {f : Field} {i k : Nat} (h : Tbl.look 0 s.wrHold (f.at i 0) = k + 1) (hhas : f.has i 0 = true)
    (hdom : f.dom ≠ .fixed) : (s.takeLow f i).rd f i = k % 2 ^ f.width := by
  rw [State.takeLow, h]
  exact State.rd_wr_same _ _ _ _ _ hhas hdom

/-- A ring's base and indices as its HI base register is written. -/
def State.ringBased (s : State) (lo hi head tail : Field) (value : Nat) : State :=
  (((s.takeLow lo).wr hi value).wr head 0).wr tail 0

/-- What a restart shows of both rings. -/
def State.ringRuns (s : State) : State := ((s.wr Reg.JRN_RING_STATUS.PHASE 1).wr Reg.JRN_RING_STATUS.STOPPED 0).showWait

theorem State.ringRestart_eq (s : State) (completion : Bool) (v : Nat) : s.ringRestart completion v =
    (if completion then
      s.ringBased Reg.JRN_CPL_BASE_LO.ADDR Reg.JRN_CPL_BASE_HI.ADDR Reg.JRN_CPL_HEAD.INDEX Reg.JRN_CPL_TAIL.INDEX v
    else s.ringBased Reg.JRN_CMD_BASE_LO.ADDR Reg.JRN_CMD_BASE_HI.ADDR Reg.JRN_CMD_HEAD.INDEX Reg.JRN_CMD_TAIL.INDEX v).ringRuns := rfl

section
variable (s : State)

theorem State.ringRuns_effect : Effect [] (some [Reg.JRN_RING_STATUS.PHASE, Reg.JRN_RING_STATUS.STOPPED, Reg.JRN_RING_STATUS.WAIT_CPL])
    s s.ringRuns :=
  Effect.after (State.showWait_effect ..) (by decide +kernel)
    (Effect.after (State.wr_effect ..) (by decide +kernel) ((State.wr_effect ..).widen (by decide +kernel)))

theorem State.ringRuns_reads : s.ringRuns.rd Reg.JRN_RING_STATUS.PHASE = 1 ∧ s.ringRuns.rd Reg.JRN_RING_STATUS.STOPPED = 0 := by
  have hwait := State.showWait_effect ((s.wr Reg.JRN_RING_STATUS.PHASE 1).wr Reg.JRN_RING_STATUS.STOPPED 0)
  refine ⟨(hwait.rd _ _ _ (by decide +kernel)).trans ?_, (hwait.rd _ _ _ (by decide +kernel)).trans ?_⟩
  · rw [State.rd_wr_apart _ _ _ _ _ _ (by decide +kernel)]
    exact State.rd_wr_same _ _ _ _ _ rfl (by decide)
  · exact State.rd_wr_same _ _ _ _ _ rfl (by decide)

variable {s} {lo hi head tail : Field}

theorem State.ringBased_effect (value : Nat) : Effect [.wrHold] (some [lo, hi, head, tail]) s (s.ringBased lo hi head tail value) := by
  have hwr : ∀ (u : State) f v, f ∈ [lo, hi, head, tail] → Effect [.wrHold] (some [lo, hi, head, tail]) u (u.wr f v) := fun u f v hf =>
    ((State.wr_effect u f v 0 0).more fun g hg => by rwa [List.mem_singleton.mp hg]).grow (by decide)
  have hlow : Effect [.wrHold] (some [lo, hi, head, tail]) s (s.takeLow lo) :=
    (State.takeLow_effect s lo 0).more fun g hg => by simp [List.mem_singleton.mp hg]
  exact ((hlow.step (hwr _ hi value (by simp)) (Effect.fits_refl _ _)).step (hwr _ head 0 (by simp)) (Effect.fits_refl _ _)).step
    (hwr _ tail 0 (by simp)) (Effect.fits_refl _ _)

/-- The registers of a ring that starts again. -/
theorem State.ringBased_reads (value : Nat) (hapart : (head.apart tail && hi.apart head && hi.apart tail && lo.apart hi && lo.apart head &&
      lo.apart tail) = true) (hplain : ∀ f ∈ [lo, hi, head, tail], f.has 0 0 = true ∧ f.dom ≠ .fixed) :
    (s.ringBased lo hi head tail value).rd hi = value % 2 ^ hi.width ∧ (s.ringBased lo hi head tail value).rd head = 0 ∧
    (s.ringBased lo hi head tail value).rd tail = 0 ∧
    (∀ k, Tbl.look 0 s.wrHold (lo.at 0 0) = k + 1 → (s.ringBased lo hi head tail value).rd lo = k % 2 ^ lo.width) ∧
    (Tbl.look 0 s.wrHold (lo.at 0 0) = 0 → (s.ringBased lo hi head tail value).rd lo = s.rd lo) := by
  simp only [Bool.and_eq_true] at hapart
  obtain ⟨⟨⟨⟨⟨hheadTail, hhiHead⟩, hhiTail⟩, hloHi⟩, hloHead⟩, hloTail⟩ := hapart
  have hlo : (s.ringBased lo hi head tail value).rd lo = (s.takeLow lo).rd lo := by
    rw [State.ringBased, State.rd_wr_apart _ _ _ _ _ _ hloTail, State.rd_wr_apart _ _ _ _ _ _ hloHead, State.rd_wr_apart _ _ _ _ _ _ hloHi]
  refine ⟨?_, ?_, ?_, fun k hk => hlo.trans ?_, fun h => hlo.trans ?_⟩
  · rw [State.ringBased, State.rd_wr_apart _ _ _ _ _ _ hhiTail, State.rd_wr_apart _ _ _ _ _ _ hhiHead]
    exact State.rd_wr_same _ _ _ _ _ (hplain hi (by simp)).1 (hplain hi (by simp)).2
  · rw [State.ringBased, State.rd_wr_apart _ _ _ _ _ _ hheadTail, State.rd_wr_same _ _ _ _ _ (hplain head (by simp)).1
      (hplain head (by simp)).2, Nat.zero_mod]
  · rw [State.ringBased, State.rd_wr_same _ _ _ _ _ (hplain tail (by simp)).1 (hplain tail (by simp)).2, Nat.zero_mod]
  · exact State.takeLow_rd hk (hplain lo (by simp)).1 (hplain lo (by simp)).2
  · rw [State.takeLow_none h]

/-- The register fields that a restart moves beside its ring's own. -/
def movesRestart : List Field := [Reg.JRN_RING_STATUS.PHASE, Reg.JRN_RING_STATUS.STOPPED, Reg.JRN_RING_STATUS.WAIT_CPL]

/-- What the registers read once a ring has started again. -/
theorem State.ringRestarted_reads (value : Nat) (hapart : (head.apart tail && hi.apart head && hi.apart tail && lo.apart hi && lo.apart head &&
      lo.apart tail) = true) (hplain : ∀ f ∈ [lo, hi, head, tail], f.has 0 0 = true ∧ f.dom ≠ .fixed)
    (hown : ((movesRestart ++ movesIrq).all fun g => [lo, hi, head, tail].all fun f => f.apart g) = true) :
    let n := (s.ringBased lo hi head tail value).ringRuns.settle
    n.rd hi = value % 2 ^ hi.width ∧ n.rd head = 0 ∧ n.rd tail = 0 ∧ n.rd Reg.JRN_RING_STATUS.PHASE = 1 ∧
    n.rd Reg.JRN_RING_STATUS.STOPPED = 0 ∧ (∀ k, Tbl.look 0 s.wrHold (lo.at 0 0) = k + 1 → n.rd lo = k % 2 ^ lo.width) ∧
    (Tbl.look 0 s.wrHold (lo.at 0 0) = 0 → n.rd lo = s.rd lo) ∧
    ∀ f, (([lo, hi, head, tail] ++ (movesRestart ++ movesIrq)).all fun g => f.apart g) = true → n.rd f = s.rd f := by
  obtain ⟨hhi, hhead, htail, hlow, hkept⟩ := State.ringBased_reads (s := s) value hapart hplain
  have hbased := State.ringBased_effect (s := s) (lo := lo) (hi := hi) (head := head) (tail := tail) value
  generalize s.ringBased lo hi head tail value = u at *
  obtain ⟨hphase, hstopped⟩ := u.ringRuns_reads
  have hend : Effect [.host, .out] (some (movesRestart ++ movesIrq)) u u.ringRuns.settle :=
    Effect.after (State.settle_effect _) (by decide +kernel) (u.ringRuns_effect.widen (by decide +kernel))
  have hread := hend.reads [lo, hi, head, tail] hown
  refine ⟨(hread hi (by simp)).trans hhi, (hread head (by simp)).trans hhead, (hread tail (by simp)).trans htail,
    (State.settle_rd _ _ _ _ (by decide +kernel)).trans hphase, (State.settle_rd _ _ _ _ (by decide +kernel)).trans hstopped,
    fun k hk => (hread lo (by simp)).trans (hlow k hk), fun h => (hread lo (by simp)).trans (hkept h), fun f hf => ?_⟩
  rw [List.all_append, Bool.and_eq_true] at hf
  exact (hend.rd f 0 0 hf.2).trans (hbased.rd f 0 0 hf.1)

end

/-- What a write of the completion head leaves. -/
theorem State.cplHeadWrite_does (s : State) (v : Nat) : (s.cplHeadWrite v).rd Reg.JRN_CPL_HEAD.INDEX = v % 4096 ∧
    (s.cplHeadWrite v).host.cplPending = false ∧
    (s.cplHeadWrite v).rd Reg.JRN_RING_STATUS.WAIT_CPL = b01 (s.cplHeadWrite v).waitsCpl := by
  unfold State.cplHeadWrite
  extract_lets moved
  have hmoved : moved.rd Reg.JRN_CPL_HEAD.INDEX = v % 4096 := State.rd_wr_same _ _ _ _ _ rfl (by decide)
  have hheld : ({ moved with host := { moved.host with cplPending := false } } : State).rd Reg.JRN_CPL_HEAD.INDEX =
    moved.rd Reg.JRN_CPL_HEAD.INDEX := rfl
  have hpending : ({ moved with host := { moved.host with cplPending := false } } : State).host.cplPending = false := rfl
  generalize ({ moved with host := { moved.host with cplPending := false } } : State) = u at *
  have hwait := State.showWait_effect u
  refine ⟨?_, ?_, ?_⟩
  · rw [hwait.rd _ _ _ (by decide +kernel), hheld, hmoved]
  · rw [hwait.same .host (by decide), hpending]
  · rw [u.showWait_rd, State.waitsCpl_congr (hwait.reads cplFields (by decide +kernel)) (hwait.reads cmdFields (by decide +kernel))
      (hwait.same .journal (by decide))]

end Sys2Proof.Machine
end

section
namespace Sys2Proof.Machine

set_option Elab.async false

section
variable {s : State} {b : List Byte} {t : Nat}

theorem State.newRec_slot (s : State) (source : Nat) (entry : List Byte) (via : Nat) : (s.newRec source entry via).slot = s.freeSlot := by
  simp only [State.newRec]

theorem State.freeSlot_congr {s t : State} (h : t.journal = s.journal) : t.freeSlot = s.freeSlot := by
  unfold State.freeSlot
  rw [h]

/-- A command that is accepted: its record begins its acceptance, and the ring's head goes on (R219, R346). -/
theorem hostCommandTake_accepts (hready : s.ringReady = true) (hepoch : u32At b 4 = s.epoch)
    (hformat : formatOk (u8At b 8) (u8At b 9) (slice b 16 88) = true) (hnext : s.seqStep 0 b = 1)
    (hroom : s.journal.recs.length + s.journal.writing.length < 1024) : ∃ n via, exec (.hostCommandTake b t) s = .next n ∧
    n.journal = { s.journal with writing := s.journal.writing ++ [(s.elapse t).commandTaken.newRec 0 b via] } ∧
    n.rd Reg.JRN_CMD_HEAD.INDEX = (s.rd Reg.JRN_CMD_HEAD.INDEX % s.cmdSize + 1) % s.cmdSize := by
  have htake := State.takeCommand_takes ((s.elapse_ringReady t).trans hready) b
  have hcmd := (State.elapse_effect s t).reads cmdFields
  have hhead := (s.elapse t).commandTaken_head
  rw [State.cmdSize_congr hcmd, hcmd Reg.JRN_CMD_HEAD.INDEX (by decide)] at htake hhead
  have hjudge := State.judge_accepts (s := (s.elapse t).commandTaken) (source := 0) (entry := b)
    (via := s.rd Reg.JRN_CMD_HEAD.INDEX % s.cmdSize) (hepoch.trans State.commandTaken_epoch.symm) hformat
    ((State.commandTaken_seqStep b).trans hnext) (by rwa [State.commandTaken_journal])
  have hkept := State.judge_effect (s.elapse t).commandTaken 0 b (s.rd Reg.JRN_CMD_HEAD.INDEX % s.cmdSize)
  have hwait := State.showWait_effect ((s.elapse t).commandTaken.judge 0 b (s.rd Reg.JRN_CMD_HEAD.INDEX % s.cmdSize))
  refine ⟨_, s.rd Reg.JRN_CMD_HEAD.INDEX % s.cmdSize, (exec_hostCommandTake s b t).trans (congrArg done htake), ?_, ?_⟩
  · rw [State.settle_journal, hwait.same .journal (by decide), hjudge, State.commandTaken_journal]
  · rw [State.settle_rd _ _ _ _ (by decide +kernel), hwait.rd _ _ _ (by decide +kernel), hkept.rd _ _ _ (by decide +kernel), hhead]

end

/-- Settles O29: an entry taken is judged by a state that differs from that before it by its instant and the ring's head alone. -/
theorem commandEntriesAreJudgedInOrder : Obligations.CommandEntriesAreJudgedInOrder := by
  unfold Obligations.CommandEntriesAreJudgedInOrder
  have hbump : ∀ (s : State) (t : Nat) {f : Field}, f ∈ refusalFields → f.has 0 0 = true → f.dom ≠ .fixed →
      ((s.elapse t).commandTaken.bump f).rd f = min (2 ^ f.width - 1) (s.rd f + 1) := fun s t f hf hhas hdom =>
    (State.rd_bump _ hhas hdom).trans (by rw [(s.commandTaken_since t).reads refusalFields (by decide +kernel) f hf])
  have hcounts : ∀ (u : State) {f : Field}, f ∈ refusalFields → Effect [] (some refusalFields) u (u.bump f) := fun u f hf =>
    (State.bump_effect u f 1 0 0).more fun g hg => by rwa [List.mem_singleton.mp hg]
  refine ⟨?accepted, ?gap, ?repeated, ?full, ?foreign, ?waits, ?cplRestart, ?cmdRestart, ?head, ?error⟩
  case accepted =>
    intro s b t hready hepoch hformat hnext hroom
    obtain ⟨n, via, hexec, hjournal, hhead⟩ := hostCommandTake_accepts (t := t) hready hepoch hformat hnext hroom
    have hkept : Effect [.time, .host, .fr, .pair, .journal, .out] (some (movesTime ++ movesIrq ++ [Reg.BB_STATUS.TX_IDLE,
        Reg.JRN_BUSY.BUSY, Reg.JRN_BUSY.OTHER, Reg.JRN_CMD_HEAD.INDEX, Reg.JRN_CPL_TAIL.INDEX, Reg.JRN_EVENT.FULL, Reg.JRN_REFUSE.GAP,
        Reg.JRN_REFUSE.REPEATED, Reg.JRN_RING_STATUS.PHASE, Reg.JRN_RING_STATUS.WAIT_CPL])) s n :=
      Effect.of_exec (execHostCommandTake_effect b t s) hexec (by decide) (by decide +kernel)
    have htime : (s.elapse t).commandTaken.time = (s.elapse t).time := (State.commandTaken_effect _).same .time (by decide)
    refine ⟨n, (s.elapse t).commandTaken.newRec 0 b via, hexec, hjournal, rfl, State.commandTaken_epoch, rfl, rfl, rfl,
      congrArg TimeSt.count htime, rfl, ?_, hhead, hkept.rd _ _ _ (by decide +kernel), hkept⟩
    rw [State.newRec_slot, State.freeSlot_congr State.commandTaken_journal]
  case gap =>
    intro s b t hready hepoch hformat hgap
    obtain ⟨n, hexec, hjournal, hanswer, hread⟩ := hostCommandTake_answers (t := t) hready (by decide)
      (hcounts _ (f := Reg.JRN_REFUSE.GAP) (by decide))
      (State.judge_gap (hepoch.trans State.commandTaken_epoch.symm) hformat (by rwa [State.commandTaken_seqStep]))
    exact ⟨n, hexec, hjournal, hanswer, (hread _ (by decide)).trans (hbump s t (by decide) rfl (by decide))⟩
  case repeated =>
    intro s b t hready hepoch hformat hold
    obtain ⟨result, aux, ns, hjudge⟩ := State.judge_repeated (s := (s.elapse t).commandTaken) (source := 0) (entry := b)
      (via := (s.elapse t).rd Reg.JRN_CMD_HEAD.INDEX % (s.elapse t).cmdSize) (hepoch.trans State.commandTaken_epoch.symm) hformat
      (by rwa [State.commandTaken_seqStep])
    obtain ⟨n, hexec, hjournal, hanswer, hread⟩ := hostCommandTake_answers hready (by decide) (hcounts _ (by decide)) hjudge
    exact ⟨n, hexec, hjournal, hanswer, (hread _ (by decide)).trans (hbump s t (by decide) rfl (by decide))⟩
  case full =>
    intro s b t hready hepoch hformat hnext hfull
    have hcount : Effect [] (some refusalFields) (s.elapse t).commandTaken
        (((s.elapse t).commandTaken.bump Reg.JRN_BUSY.BUSY).wr Reg.JRN_EVENT.FULL 1) :=
      Effect.after (State.wr_effect ..) (by decide +kernel) (hcounts _ (by decide))
    obtain ⟨n, hexec, hjournal, hanswer, hread⟩ := hostCommandTake_answers hready (by decide) hcount
      (State.judge_full (hepoch.trans State.commandTaken_epoch.symm) hformat ((State.commandTaken_seqStep b).trans hnext)
        (by rwa [State.commandTaken_journal]))
    refine ⟨n, hexec, hjournal, hanswer, (hread _ (by decide)).trans (State.rd_wr_same _ _ _ _ _ rfl (by decide)), ?_⟩
    rw [hread _ (by decide), State.rd_wr_apart _ _ _ _ _ _ (by decide +kernel)]
    exact hbump s t (by decide) rfl (by decide)
  case foreign =>
    intro s b t hready hbad
    by_cases hepoch : u32At b 4 = s.epoch
    · have hformat := hbad.resolve_left (not_not.mpr hepoch)
      obtain ⟨n, hexec, hjournal, hanswer, hread⟩ := hostCommandTake_answers (t := t) hready (by decide)
        (hcounts _ (f := Reg.JRN_BUSY.OTHER) (by decide)) (State.judge_badFormat (hepoch.trans State.commandTaken_epoch.symm) hformat)
      rw [if_neg (not_not.mpr hepoch)]
      exact ⟨n, hexec, hjournal, hanswer, (hread _ (by decide)).trans (hbump s t (by decide) rfl (by decide))⟩
    · obtain ⟨n, hexec, hjournal, hanswer, hread⟩ := hostCommandTake_answers (t := t) hready (by decide)
        (hcounts _ (f := Reg.JRN_BUSY.OTHER) (by decide)) (State.judge_otherEpoch (by rwa [State.commandTaken_epoch]))
      rw [if_pos hepoch]
      exact ⟨n, hexec, hjournal, hanswer, (hread _ (by decide)).trans (hbump s t (by decide) rfl (by decide))⟩
  case waits =>
    intro s b t hready
    have hwaits := State.takeCommand_waits ((s.elapse_ringReady t).trans hready) b
    exact ⟨_, (exec_hostCommandTake s b t).trans (congrArg done hwaits), Effect.timed (State.showWait_effect _) (by decide) (by decide +kernel)⟩
  case cplRestart =>
    intro s v
    have hexec := exec_ringRestart s true v
    rw [State.ringRestart_eq, if_pos rfl] at hexec
    obtain ⟨hhi, hhead, htail, hphase, hstopped, hlow, hkept, hothers⟩ := State.ringRestarted_reads (s := s)
      (lo := Reg.JRN_CPL_BASE_LO.ADDR) (hi := Reg.JRN_CPL_BASE_HI.ADDR) (head := Reg.JRN_CPL_HEAD.INDEX)
      (tail := Reg.JRN_CPL_TAIL.INDEX) v (by decide +kernel) (by decide +kernel) (by decide +kernel)
    exact ⟨_, hexec, hhi, hhead, htail, hphase, hstopped, hothers _ (by decide +kernel), hlow, hkept,
      Effect.of_exec (execRingRestart_effect true v s) hexec (by decide) (by decide +kernel)⟩
  case cmdRestart =>
    intro s v
    have hexec := exec_ringRestart s false v
    rw [State.ringRestart_eq, if_neg (by decide)] at hexec
    obtain ⟨hhi, hhead, htail, hphase, hstopped, -, -, hothers⟩ := State.ringRestarted_reads (s := s)
      (lo := Reg.JRN_CMD_BASE_LO.ADDR) (hi := Reg.JRN_CMD_BASE_HI.ADDR) (head := Reg.JRN_CMD_HEAD.INDEX)
      (tail := Reg.JRN_CMD_TAIL.INDEX) v (by decide +kernel) (by decide +kernel) (by decide +kernel)
    exact ⟨_, hexec, hhi, hhead, htail, hphase, hstopped, hothers _ (by decide +kernel),
      Effect.of_exec (execRingRestart_effect false v s) hexec (by decide) (by decide +kernel)⟩
  case head =>
    intro s v
    obtain ⟨hhead, hcpl, hwait⟩ := s.cplHeadWrite_does v
    have hexec := exec_jrnCplHeadWrite s v
    have hsettle := State.settle_effect (s.cplHeadWrite v)
    have hpending : (s.cplHeadWrite v).settle.host.cplPending = false := (State.settle_cplPending _).trans hcpl
    refine ⟨_, hexec, (State.settle_rd _ _ _ _ (by decide +kernel)).trans hhead, hpending, State.settle_notPending _ (k := 10) hcpl, ?_,
      Effect.of_exec (execJrnCplHeadWrite_effect v s) hexec (by decide) (by decide +kernel)⟩
    exact (State.settle_rd _ _ _ _ (by decide +kernel)).trans (hwait.trans (congrArg b01 (State.waitsCpl_congr
      (hsettle.reads cplFields (by decide +kernel)) (hsettle.reads cmdFields (by decide +kernel)) (State.settle_journal _)).symm))
  case error =>
    intro s t
    have hstop := State.wr_effect (s.elapse t) Reg.JRN_RING_STATUS.STOPPED 1 0 0
    have hstopped : ((s.elapse t).wr Reg.JRN_RING_STATUS.STOPPED 1).rd Reg.JRN_RING_STATUS.STOPPED = 1 :=
      State.rd_wr_same _ _ _ _ _ rfl (by decide)
    have hexec := exec_ringPcieError s t
    refine ⟨_, hexec, ?_, fun hmay => ?_, Effect.of_exec (execRingPcieError_effect t s) hexec (by decide) (by decide +kernel)⟩
    · rw [State.settle_rd _ _ _ _ (by decide +kernel), (State.raise_effect ..).rd _ _ _ (by decide +kernel), hstopped]
    · rw [raises, State.settle_faults]
      exact raises_raise (hstop.evtAt (by rw [State.wr_power])) ((s.elapse_mayRaise t).trans hmay) (by decide) 0

end Sys2Proof.Machine
end


section
namespace Sys2Proof.Machine

set_option Elab.async false

/-! ### The journal mirror (R224) -/

section
variable {s t : State}

theorem State.mirrors_congr (hen : t.rd Reg.JRN_MRAM_CFG.EN = s.rd Reg.JRN_MRAM_CFG.EN)
    (hfailed : t.journal.mramFailed = s.journal.mramFailed) : t.mirrors = s.mirrors := by
  simp only [State.mirrors, State.on, hen, hfailed]

theorem State.showMram_rd (s : State) : s.showMram.rd Reg.JRN_STATUS.MRAM_OK = b01 s.mirrors :=
  (State.rd_wr_same _ _ _ _ _ rfl (by decide)).trans (b01_mod _)

theorem State.mramFail_journal (s : State) : s.mramFail.journal = { s.journal with mramFailed := true } := by
  unfold State.mramFail
  split
  case isTrue h => rw [← h]
  case isFalse =>
    rw [(State.showMram_effect _).same .journal (by decide), (State.raise_effect ..).same .journal (by decide), State.wr_journal]
    rfl

/-- A mirror that fails: its event, its status and its fault. -/
theorem State.mramFail_does (h : s.journal.mramFailed = false) : s.mramFail.rd Reg.JRN_EVENT.MRAM_FAIL = 1 ∧
    s.mramFail.rd Reg.JRN_STATUS.MRAM_OK = 0 ∧ raises s s.mramFail 29 0 := by
  unfold State.mramFail
  rw [if_neg (by simp [h])]
  have hmarked : Effect [.journal] (some [Reg.JRN_EVENT.MRAM_FAIL]) s
      ((s.modJrn fun j => { j with mramFailed := true }).wr Reg.JRN_EVENT.MRAM_FAIL 1) :=
    Effect.after (State.wr_effect ..) (by decide +kernel) ((State.modJrn_effect ..).widen (by decide +kernel))
  have hevent : ((s.modJrn fun j => { j with mramFailed := true }).wr Reg.JRN_EVENT.MRAM_FAIL 1).rd Reg.JRN_EVENT.MRAM_FAIL = 1 :=
    State.rd_wr_same _ _ _ _ _ rfl (by decide)
  have hfailed : ((s.modJrn fun j => { j with mramFailed := true }).wr Reg.JRN_EVENT.MRAM_FAIL 1).journal.mramFailed = true := by
    rw [State.wr_journal]
    rfl
  generalize (s.modJrn fun j => { j with mramFailed := true }).wr Reg.JRN_EVENT.MRAM_FAIL 1 = u at *
  have hraise := State.raise_keepSource_effect u (pos := 29) (by decide) 0
  have hshow := State.showMram_effect (u.raise 29 0)
  refine ⟨?_, ?_, ?_⟩
  · rw [hshow.rd _ _ _ (by decide +kernel), hraise.rd _ _ _ (by decide +kernel), hevent]
  · rw [State.showMram_rd, State.mirrors, hraise.same .journal (by decide), hfailed, Bool.not_true, Bool.and_false]
    rfl
  · rw [raises, hshow.same .faults (by decide)]
    exact raises_raise_keepSource (hmarked.evtAt (congrArg PowerSt.bridge (hmarked.same .power (by decide)))) (by decide) 0

theorem State.mramResult_good {ok : Bool} (h : s.mirrors = false ∨ ok = true) : s.mramResult ok = s := by
  refine if_neg ?_
  rcases h with h | h <;> simp [h]

theorem State.mramResult_bad (h : s.mirrors = true) : s.mramResult false = s.mramFail := if_pos (by rw [h]; rfl)

theorem State.mramResult_journal (ok : Bool) : (s.mramResult ok).journal =
    { s.journal with mramFailed := s.journal.mramFailed || (s.mirrors && !ok) } := by
  by_cases h : s.mirrors = true ∧ ok = false
  · obtain ⟨hmirrors, rfl⟩ := h
    rw [State.mramResult_bad hmirrors, State.mramFail_journal, hmirrors]
    simp
  · have hgood : s.mirrors = false ∨ ok = true := by
      by_contra hnot
      exact h (by simpa using hnot)
    have hand : (s.mirrors && !ok) = false := by rcases hgood with h | h <;> simp [h]
    rw [State.mramResult_good hgood, hand, Bool.or_false]

theorem State.mirrors_failed (h : s.mirrors = true) : s.journal.mramFailed = false := by
  simp only [State.mirrors, Bool.and_eq_true, Bool.not_eq_true'] at h
  exact h.2

/-- What the MRAM header holds. -/
theorem State.mramHeader_congr (h : ∀ f ∈ [Reg.JRN_MRAM_CFG.QUAD, Reg.JRN_MRAM_CFG.DIV, Reg.JRN_EPOCH.EPOCH], t.rd f = s.rd f)
    (hlast : ∀ k, t.rd Reg.JRN_SRC_LAST.LAST k = s.rd Reg.JRN_SRC_LAST.LAST k) (enabled : Bool) :
    t.mramHeader enabled = s.mramHeader enabled := by
  simp only [State.mramHeader, State.epoch, h Reg.JRN_MRAM_CFG.QUAD (by decide), h Reg.JRN_MRAM_CFG.DIV (by decide),
    h Reg.JRN_EPOCH.EPOCH (by decide), hlast]

end

/-! ### JRN_MRAM_ENABLE -/

/-- The bytes of a slot of the halves, zeros where no record stands in it. -/
def JrnSt.slotBytes (j : JrnSt) (k : Nat) : List Byte :=
  match (j.recs ++ j.old).find? fun r => r.slot == k with
  | some r => r.bytes
  | none => List.replicate 128 0

theorem JrnSt.slotBytes_congr {j l : JrnSt} (hrecs : l.recs = j.recs) (hold : l.old = j.old) (k : Nat) : l.slotBytes k = j.slotBytes k := by
  unfold JrnSt.slotBytes
  rw [hrecs, hold]

section
variable (s : State)

/-- The mirror switched on. -/
def State.mirrorOn (value : Nat) : State := ((s.mramCfg value).wr Reg.JRN_MRAM_CFG.EN 1).modJrn fun j => { j with mramFailed := false }

/-- The halves copied into the mirror, slot by slot. -/
def State.mirrorCopied (j : JrnSt) : State := s.each (upTo 1024) fun s i => s.mramWrite (0x1000 + 128 * i) (j.slotBytes i)

/-- The mirror as it says that it is enabled. -/
def State.mirrorShown : State := (s.mramWrite 0 (s.mramHeader true)).showMram

theorem State.mirrorOn_does (value : Nat) : (s.mirrorOn value).rd Reg.JRN_MRAM_CFG.EN = 1 ∧
    (s.mirrorOn value).rd Reg.JRN_MRAM_CFG.QUAD = value / 2 % 2 ∧ (s.mirrorOn value).rd Reg.JRN_MRAM_CFG.DIV = value / 256 % 256 ∧
    (s.mirrorOn value).journal = { s.journal with mramFailed := false } ∧ (s.mirrorOn value).evtAt = s.evtAt := by
  have hcfg := State.mramCfg_effect s value
  have hon : Effect [.journal] (some [Reg.JRN_MRAM_CFG.EN]) (s.mramCfg value) (s.mirrorOn value) :=
    Effect.after (State.modJrn_effect ..) (by decide +kernel) ((State.wr_effect ..).widen (by decide +kernel))
  refine ⟨State.rd_wr_same (s.mramCfg value) Reg.JRN_MRAM_CFG.EN 1 0 0 rfl (by decide), ?_, ?_, ?_, ?_⟩
  · rw [hon.rd _ _ _ (by decide +kernel), State.mramCfg, State.rd_wr_apart _ _ _ _ _ _ (by decide +kernel)]
    exact State.rd_wr_same _ _ _ _ _ rfl (by decide)
  · rw [hon.rd _ _ _ (by decide +kernel)]
    exact State.rd_wr_same _ _ _ _ _ rfl (by decide)
  · rw [State.mirrorOn, State.modJrn, State.wr_journal, hcfg.same .journal (by decide)]
  · exact (hon.evtAt (congrArg PowerSt.bridge (hon.same .power (by decide)))).trans
      (hcfg.evtAt (congrArg PowerSt.bridge (hcfg.same .power (by decide))))

theorem State.mirrorCopied_effect (j : JrnSt) : Effect [.out] (some []) s (s.mirrorCopied j) :=
  Effect.each (Effect.refl ..) fun _ _ => State.mramWrite_effect ..

/-- Every slot has been written. -/
theorem State.mirrorCopied_slots (j : JrnSt) (k : Nat) (hk : k < 1024) :
    Out.mram (leBytes 3 (0x1000 + 128 * k) ++ j.slotBytes k) ∈ (s.mirrorCopied j).out := by
  have hall := State.each_forall (I := fun _ => True) (P := fun i v => Out.mram (leBytes 3 (0x1000 + 128 * i) ++ j.slotBytes i) ∈ v.out)
    (l := upTo 1024) (f := fun s i => s.mramWrite (0x1000 + 128 * i) (j.slotBytes i)) (s := s) trivial (fun _ _ _ _ => trivial)
    (fun v _ i _ => List.mem_append_right _ (List.mem_singleton_self _)) (fun v _ i _ b _ hb => List.mem_append_left _ hb)
  exact hall.2 k (mem_upTo.mpr hk)

theorem State.mirrorShown_effect : Effect [.out] (some [Reg.JRN_STATUS.MRAM_OK]) s s.mirrorShown :=
  Effect.after (State.showMram_effect ..) (by decide +kernel) ((State.mramWrite_effect ..).widen (by decide +kernel))

theorem State.mirrorShown_rd : s.mirrorShown.rd Reg.JRN_STATUS.MRAM_OK = b01 s.mirrors := State.showMram_rd _

theorem State.mramEnable_enables {s : State} {value : Nat} (hbit : value % 2 = 1) (hoff : s.rd Reg.JRN_MRAM_CFG.EN = 0)
    (readBack : Bool) : s.mramEnable value readBack =
    if readBack then ((s.mirrorOn value).mirrorCopied (s.mirrorOn value).journal).mirrorShown
    else (((s.mirrorOn value).mirrorCopied (s.mirrorOn value).journal).mirrorShown).mramFail := by
  unfold State.mramEnable
  rw [if_neg (by omega), if_neg (by simp [State.on, hoff])]
  rfl

end

end Sys2Proof.Machine
end

section
namespace Sys2Proof.Machine

set_option Elab.async false

/-! ### JRN_MRAM_DISABLE -/

/-- The mirror switched off. -/
def State.mirrorOff (s : State) (value : Nat) : State := ((s.mramCfg value).wr Reg.JRN_MRAM_CFG.EN 0).showMram

section
variable (s : State) (value : Nat)

theorem State.mirrorOff_effect : Effect [] (some [Reg.JRN_MRAM_CFG.QUAD, Reg.JRN_MRAM_CFG.DIV, Reg.JRN_MRAM_CFG.EN, Reg.JRN_STATUS.MRAM_OK])
    s (s.mirrorOff value) :=
  Effect.after (State.showMram_effect ..) (by decide +kernel)
    (Effect.after (State.wr_effect ..) (by decide +kernel) ((State.mramCfg_effect ..).widen (by decide +kernel)))

theorem State.mirrorOff_reads : (s.mirrorOff value).rd Reg.JRN_MRAM_CFG.EN = 0 ∧ (s.mirrorOff value).rd Reg.JRN_STATUS.MRAM_OK = 0 := by
  have hoff : ((s.mramCfg value).wr Reg.JRN_MRAM_CFG.EN 0).rd Reg.JRN_MRAM_CFG.EN = 0 := State.rd_wr_same _ _ _ _ _ rfl (by decide)
  refine ⟨((State.showMram_effect _).rd _ _ _ (by decide +kernel)).trans hoff, ?_⟩
  rw [State.mirrorOff, State.showMram_rd, State.mirrors, State.on_eq_false.mpr hoff]
  rfl

theorem State.mramDisable_disables {s : State} {value : Nat} (hbit : value % 2 = 0) (hon : s.rd Reg.JRN_MRAM_CFG.EN ≠ 0)
    (readBack : Bool) : s.mramDisable value readBack =
    (if readBack then s.mramWrite 0 (s.mramHeader false) else (s.mramWrite 0 (s.mramHeader false)).mramFail).mirrorOff value := by
  unfold State.mramDisable
  rw [if_neg]
  · rfl
  · simp [State.on, hon, hbit]

end

/-! ### A record is held (R219, R220) -/

/-- A record as its acceptance ends: the time of its acceptance is now, unless a pair has fixed it. -/
def JrnRec.stamped (r : JrnRec) (ns : Nat) : JrnRec := if r.dueFrame.isSome then r else { r with ns := ns }

section
variable (r : JrnRec) (ns : Nat)

theorem JrnRec.stamped_eq : r.stamped ns = { r with ns := if r.dueFrame.isSome then r.ns else ns } := by
  unfold JrnRec.stamped
  split <;> rfl

theorem JrnRec.stamped_source : (r.stamped ns).source = r.source := by rw [JrnRec.stamped_eq]

theorem JrnRec.stamped_seq : (r.stamped ns).seq = r.seq := by rw [JrnRec.stamped_eq]

theorem JrnRec.stamped_slot : (r.stamped ns).slot = r.slot := by rw [JrnRec.stamped_eq]

theorem JrnRec.stamped_dueFrame : (r.stamped ns).dueFrame = r.dueFrame := by rw [JrnRec.stamped_eq]

end

theorem State.holdRec_journal (s : State) (r : JrnRec) : (s.holdRec r).journal =
    { s.journal with recs := s.journal.recs ++ [r], old := s.journal.old.filter fun x => x.slot != r.slot } := by
  unfold State.holdRec
  extract_lets held
  exact ((State.showFill_effect _).same .journal (by decide)).trans ((State.wr_journal ..).trans (State.wr_journal ..))

theorem State.holdRec_reads (s : State) {r : JrnRec} (h : r.source < 16) :
    (s.holdRec r).rd Reg.JRN_SRC_LAST.LAST r.source = r.seq % 4294967296 ∧
    (s.holdRec r).rd Reg.JRN_ACCEPTED.COUNT = (s.rd Reg.JRN_ACCEPTED.COUNT + 1) % 4294967296 ∧
    (s.holdRec r).rd Reg.JRN_STATUS.FILL = (s.journal.recs.length + 1) % 2048 ∧ keepsOthers Reg.JRN_SRC_LAST.LAST r.source s (s.holdRec r) := by
  unfold State.holdRec
  extract_lets held
  have hheld : Effect [.journal] (some []) s held := State.modJrn_effect ..
  have hrecs : held.journal.recs.length = s.journal.recs.length + 1 :=
    (congrArg List.length (rfl : held.journal.recs = s.journal.recs ++ [r])).trans List.length_append
  clear_value held
  have hlast : Effect [] (some [Reg.JRN_ACCEPTED.COUNT, Reg.JRN_STATUS.FILL]) (held.wr Reg.JRN_SRC_LAST.LAST r.seq r.source)
      (((held.wr Reg.JRN_SRC_LAST.LAST r.seq r.source).wr Reg.JRN_ACCEPTED.COUNT
        ((held.rd Reg.JRN_ACCEPTED.COUNT + 1) % 4294967296)).showFill) :=
    Effect.after (State.showFill_effect ..) (by decide +kernel) ((State.wr_effect ..).widen (by decide +kernel))
  refine ⟨?_, ?_, ?_, ?_⟩
  · rw [hlast.rd _ _ _ (by decide +kernel)]
    exact State.rd_wr_same _ _ _ _ _ (by simp [Field.has, Reg.JRN_SRC_LAST.LAST, h]) (by decide)
  · rw [(State.showFill_effect _).rd _ _ _ (by decide +kernel), State.rd_wr_same _ _ _ _ _ rfl (by decide),
      hheld.rd _ _ _ (by decide +kernel)]
    exact Nat.mod_mod _ _
  · refine (State.rd_wr_same _ _ _ _ _ rfl (by decide)).trans ?_
    rw [State.wr_journal, State.wr_journal, hrecs]
    rfl
  · exact ((held.wr_keepsOthers _ _ (by decide)).before hheld rfl).after hlast (by decide +kernel)

theorem State.pairLinkUp_congr {s t : State} (hcfg : t.cfg = s.cfg)
    (hup : ∀ p, t.rd Reg.BB_STATUS.UP p = s.rd Reg.BB_STATUS.UP p) : t.pairLinkUp = s.pairLinkUp := by
  simp only [State.pairLinkUp, State.pairPort, hcfg, State.on, hup]

/-! ### JOURNAL_RECORD_COMMITTED: the acceptance ends -/

section
variable (s : State) (r : JrnRec) (l : List JrnRec) (ok : Bool)

/-- The oldest acceptance under way taken out of those that follow. -/
def State.acceptanceTaken : State := s.modJrn fun j => { j with writing := l }

/-- The record held and mirrored, before its acknowledgement. -/
def State.recordKept : State :=
  let t := (((s.acceptanceTaken l).holdRec (r.stamped s.count)).mirrorRec (r.stamped s.count)).mramResult ok
  t.wr Reg.JRN_STATUS.PAIR_MIRROR (b01 ((r.stamped s.count).dueFrame.isSome && t.pairLinkUp))

theorem State.recordCommitted_commits {s : State} {r : JrnRec} {l : List JrnRec} (h : s.journal.writing = r :: l) (ok : Bool) :
    s.recordCommitted true ok = ((s.recordKept r l ok).reply (r.stamped s.count).source (some (r.stamped s.count).via)
      (cplBytes 1 0 0 (r.stamped s.count).opcode (r.stamped s.count).seq (r.stamped s.count).epoch 0 (r.stamped s.count).ns
        (if (r.stamped s.count).source = 0 then (r.stamped s.count).via else 0) (r.stamped s.count).source)).showWait := by
  unfold State.recordCommitted
  rw [h]
  rfl

/-- The register fields of a record that is held. -/
def movesKept : List Field := State.mramResult_fields.getD [] ++ State.holdRec_fields.getD [] ++ [Reg.JRN_STATUS.PAIR_MIRROR]

theorem State.recordKept_effect : Effect [.faults, .journal, .out] (some movesKept) s (s.recordKept r l ok) := by
  unfold State.recordKept
  refine Effect.after (State.wr_effect ..) (by decide +kernel) ?_
  refine Effect.after (State.mramResult_effect ..) (by decide +kernel) ?_
  refine Effect.after (State.mirrorRec_effect ..) (by decide +kernel) ?_
  exact Effect.after (State.holdRec_effect ..) (by decide +kernel) ((State.modJrn_effect ..).widen (by decide +kernel))

/-- The state whose mirror a read-back judges. -/
def State.recordMirrored : State := ((s.acceptanceTaken l).holdRec (r.stamped s.count)).mirrorRec (r.stamped s.count)

theorem State.recordMirrored_effect : Effect [.journal, .out] (some (State.holdRec_fields.getD [])) s (s.recordMirrored r l) :=
  Effect.after (State.mirrorRec_effect ..) (by decide +kernel)
    (Effect.after (State.holdRec_effect ..) (by decide +kernel) ((State.modJrn_effect ..).widen (by decide +kernel)))

theorem State.recordMirrored_journal : (s.recordMirrored r l).journal =
    { s.journal with
      writing := l, recs := s.journal.recs ++ [r.stamped s.count], old := s.journal.old.filter fun x => x.slot != r.slot } := by
  rw [State.recordMirrored, (State.mirrorRec_effect ..).same .journal (by decide), State.holdRec_journal, JrnRec.stamped_slot]
  rfl

theorem State.recordMirrored_mirrors : (s.recordMirrored r l).mirrors = s.mirrors :=
  State.mirrors_congr ((s.recordMirrored_effect r l).rd _ 0 0 (by decide +kernel)) (by rw [State.recordMirrored_journal])

end

/-- What a record leaves that is held with a good mirror, or with none. -/
theorem State.recordKept_does {s : State} {r : JrnRec} (l : List JrnRec) {ok : Bool} (hsource : r.source < 16)
    (hgood : s.mirrors = false ∨ ok = true) : (s.recordKept r l ok).journal = (s.recordMirrored r l).journal ∧
    (s.recordKept r l ok).rd Reg.JRN_SRC_LAST.LAST r.source = r.seq % 4294967296 ∧
    (s.recordKept r l ok).rd Reg.JRN_ACCEPTED.COUNT = (s.rd Reg.JRN_ACCEPTED.COUNT + 1) % 4294967296 ∧
    (s.recordKept r l ok).rd Reg.JRN_STATUS.FILL = (s.journal.recs.length + 1) % 2048 ∧ (s.recordKept r l ok).faults = s.faults ∧
    (s.recordKept r l ok).rd Reg.JRN_STATUS.PAIR_MIRROR = b01 (r.dueFrame.isSome && s.pairLinkUp) ∧
    keepsOthers Reg.JRN_SRC_LAST.LAST r.source s (s.recordKept r l ok) := by
  have hmirrored := s.recordMirrored_effect r l
  have hkept : s.recordKept r l ok = (s.recordMirrored r l).wr Reg.JRN_STATUS.PAIR_MIRROR
      (b01 ((r.stamped s.count).dueFrame.isSome && (s.recordMirrored r l).pairLinkUp)) := by
    unfold State.recordKept
    rw [← State.recordMirrored, State.mramResult_good (by rwa [State.recordMirrored_mirrors])]
  rw [State.pairLinkUp_congr (hmirrored.same .cfg (by decide)) fun p => hmirrored.rd _ p 0 (by decide +kernel),
    JrnRec.stamped_dueFrame] at hkept
  have htaken : Effect [.journal] (some []) s (s.acceptanceTaken l) := State.modJrn_effect ..
  obtain ⟨hlast, hcount, hfill, hothers⟩ := (s.acceptanceTaken l).holdRec_reads (r := r.stamped s.count) (by rwa [JrnRec.stamped_source])
  have hmirror : Effect [.out] (some []) ((s.acceptanceTaken l).holdRec (r.stamped s.count)) (s.recordMirrored r l) :=
    State.mirrorRec_effect ..
  rw [JrnRec.stamped_source] at hlast hothers
  rw [hkept]
  refine ⟨State.wr_journal .., ?_, ?_, ?_, ?_, ?_, ?_⟩
  · rw [State.rd_wr_apart _ _ _ _ _ _ (by decide +kernel), hmirror.rd _ _ _ rfl, hlast, JrnRec.stamped_seq]
  · rw [State.rd_wr_apart _ _ _ _ _ _ (by decide +kernel), hmirror.rd _ _ _ rfl, hcount, htaken.rd _ _ _ rfl]
  · rw [State.rd_wr_apart _ _ _ _ _ _ (by decide +kernel), hmirror.rd _ _ _ rfl, hfill]
    rfl
  · rw [State.wr_faults, hmirrored.same .faults (by decide)]
  · exact (State.rd_wr_same _ _ _ _ _ rfl (by decide)).trans (b01_mod _)
  · exact ((hothers.before htaken rfl).after hmirror rfl).after (State.wr_effect ..) (by decide +kernel)

end Sys2Proof.Machine
end

section
namespace Sys2Proof.Machine

set_option Elab.async false

/-! ### JOURNAL_RECORD_COMMITTED: a copy cannot be written (Table 09-9) -/

/-- The acknowledgement of a record whose acceptance fails. -/
def State.ackRec (s : State) (x : JrnRec) (status aux : Nat) : State :=
  s.reply x.source (some x.via)
    (cplBytes 1 status 0 x.opcode x.seq s.epoch aux s.count (if x.source = 0 then x.via else 0) x.source)

/-- A later entry of the source meets a gap. -/
def State.meetsGap (r : JrnRec) (s : State) (x : JrnRec) : State := (s.bump Reg.JRN_REFUSE.GAP).ackRec x 2 r.seq

/-- The acceptances of a source are under way no longer. -/
def State.sourceDropped (s : State) (r : JrnRec) : State := s.modJrn fun j => { j with writing := j.writing.filter (·.source != r.source) }

theorem State.notWritten_eq (s : State) (r : JrnRec) : s.notWritten r =
    (((s.bump Reg.JRN_BUSY.BUSY).ackRec r 3 0).sourceDropped r).each (s.journal.writing.filter (·.source == r.source))
      (State.meetsGap r) := rfl

section
variable (s : State) (r x : JrnRec)

theorem State.meetsGap_effect : Effect [.host, .out] (some (Reg.JRN_REFUSE.GAP :: State.reply_fields.getD [])) s (s.meetsGap r x) := by
  unfold State.meetsGap State.ackRec
  exact Effect.after (State.reply_effect ..) (by decide +kernel) ((State.bump_effect ..).widen (by decide +kernel))

theorem State.gapsMet_effect (l : List JrnRec) : Effect [.host, .out] (some (Reg.JRN_REFUSE.GAP :: State.reply_fields.getD [])) s
    (s.each l (State.meetsGap r)) := Effect.each (Effect.refl ..) fun u y => u.meetsGap_effect r y

theorem State.bump_host (f : Field) : (s.bump f).host = s.host := (State.bump_effect s f 1 0 0).same .host (by decide)

theorem State.meetsGap_cplPending (h : s.host.cplPending = true) : (s.meetsGap r x).host.cplPending = true := by
  unfold State.meetsGap State.ackRec
  exact (s.bump Reg.JRN_REFUSE.GAP).reply_cplPending _ _ _ (by rwa [State.bump_host])

theorem State.gapsMet_cplPending (l : List JrnRec) (h : s.host.cplPending = true) :
    (s.each l (State.meetsGap r)).host.cplPending = true :=
  (State.each_forall (I := fun v => v.host.cplPending = true) (P := fun _ _ => True) h
    (fun v hv y _ => v.meetsGap_cplPending r y hv)
    (fun _ _ _ _ => trivial) (fun _ _ _ _ _ _ _ => trivial)).1

theorem State.notWritten_journal : (s.notWritten r).journal =
    { s.journal with writing := s.journal.writing.filter (·.source != r.source) } := by
  have hacked : ((s.bump Reg.JRN_BUSY.BUSY).ackRec r 3 0).journal = s.journal :=
    ((State.reply_effect ..).same .journal (by decide)).trans ((State.bump_effect ..).same .journal (by decide))
  rw [State.notWritten_eq, (State.gapsMet_effect ..).same .journal (by decide), State.sourceDropped, State.modJrn, hacked]

theorem State.notWritten_busy : (s.notWritten r).rd Reg.JRN_BUSY.BUSY = min 65535 (s.rd Reg.JRN_BUSY.BUSY + 1) := by
  have hacked : Effect State.reply_touch State.reply_fields (s.bump Reg.JRN_BUSY.BUSY) ((s.bump Reg.JRN_BUSY.BUSY).ackRec r 3 0) :=
    State.reply_effect ..
  have hdropped : Effect [.journal] (some []) ((s.bump Reg.JRN_BUSY.BUSY).ackRec r 3 0)
      (((s.bump Reg.JRN_BUSY.BUSY).ackRec r 3 0).sourceDropped r) := State.modJrn_effect ..
  rw [State.notWritten_eq, (State.gapsMet_effect ..).rd _ _ _ (by decide +kernel), hdropped.rd _ _ _ rfl,
    hacked.rd _ _ _ (by decide +kernel)]
  exact State.rd_bump _ rfl (by decide)

end

/-- The acknowledgement of a record that cannot be written. -/
theorem State.notWritten_answered {s a : State} {r : JrnRec} (hbefore : s.out <+: a.out) (hsource : r.source = 0) (hopen : a.cplOpen = true) :
    answered s (a.notWritten r).showWait.settle 3 := by
  have hbump : Effect [] (some [Reg.JRN_BUSY.BUSY]) a (a.bump Reg.JRN_BUSY.BUSY) := State.bump_effect ..
  have hacked : (a.bump Reg.JRN_BUSY.BUSY).ackRec r 3 0 = (a.bump Reg.JRN_BUSY.BUSY).reply 0 (some r.via)
      (cplBytes 1 3 0 r.opcode r.seq (a.bump Reg.JRN_BUSY.BUSY).epoch 0 (a.bump Reg.JRN_BUSY.BUSY).count r.via 0) := by
    rw [State.ackRec, hsource]
    rfl
  have hdropped : Effect [.journal] (some []) ((a.bump Reg.JRN_BUSY.BUSY).ackRec r 3 0)
      (((a.bump Reg.JRN_BUSY.BUSY).ackRec r 3 0).sourceDropped r) := State.modJrn_effect ..
  have hgaps := State.gapsMet_effect (((a.bump Reg.JRN_BUSY.BUSY).ackRec r 3 0).sourceDropped r) r
    (a.journal.writing.filter (·.source == r.source))
  have hpending := State.gapsMet_cplPending (((a.bump Reg.JRN_BUSY.BUSY).ackRec r 3 0).sourceDropped r) r
    (a.journal.writing.filter (·.source == r.source))
  have hwait := State.showWait_effect (a.notWritten r)
  rw [← State.notWritten_eq] at hgaps hpending
  rw [hacked] at hdropped hgaps hpending
  refine answered_of_reply (by decide) (hbefore.trans hbump.log) ((State.cplOpen_congr (hbump.reads cplFields)).trans hopen)
    ((hdropped.log.trans hgaps.log).trans hwait.log) fun h => ?_
  rw [hwait.same .host (by decide)]
  exact hpending (by rwa [hdropped.same .host (by decide)])

/-- The acceptance that fails, and those of its source. -/
theorem State.recordCommitted_fails {s : State} {r : JrnRec} {l : List JrnRec} (h : s.journal.writing = r :: l) (ok : Bool) :
    s.recordCommitted false ok = ((s.acceptanceTaken l).notWritten r).showWait := by
  unfold State.recordCommitted
  rw [h]
  rfl

theorem State.recordCommitted_none {s : State} (h : s.journal.writing = []) (written ok : Bool) : s.recordCommitted written ok = s := by
  unfold State.recordCommitted
  rw [h]

/-! ### A new epoch (R223) -/

section
variable (s : State) (cause random : Nat) (survives : Bool)

/-- The number of the epoch that follows. -/
def State.nextEpoch : Nat :=
  if survives && decide (s.epoch ≠ 0) then (if s.epoch = 4294967295 then 1 else s.epoch + 1) else random % 4294967295 + 1

/-- The journal emptied and the epoch shown. -/
def State.epochShown : State :=
  let t := s.modJrn fun j => { j with recs := [], old := [], writing := [], epochOk := true }
  let t := ((t.wr Reg.JRN_EPOCH.EPOCH (s.nextEpoch random survives)).wr Reg.JRN_STATUS.EPOCH_CAUSE cause).wr Reg.JRN_EVENT.NEW_EPOCH 1
  ((t.wr Reg.JRN_EXEC.COUNT 0).wr Reg.JRN_ACCEPTED.COUNT 0).showFill

/-- The last seq of every source is 0. -/
def State.lastCleared : State := s.each (upTo 16) fun s n => s.wr Reg.JRN_SRC_LAST.LAST 0 n

/-- The mirror's header, and the answers to the acceptances that end with the epoch. -/
def State.epochTold (left : List JrnRec) (new : Nat) : State :=
  let t := if s.mirrors then s.mramWrite 0 (s.mramHeader true) else s
  if cause = 3 ∨ cause = 4 then
    t.each left fun s r => (s.bump Reg.JRN_BUSY.OTHER).reply r.source (some r.via)
      (cplBytes 1 4 0 r.opcode r.seq new 0 s.count (if r.source = 0 then r.via else 0) r.source)
  else t

theorem State.startEpoch_eq : s.startEpoch cause random survives =
    (s.epochShown cause random survives).lastCleared.epochTold cause s.journal.writing (s.nextEpoch random survives) := rfl

theorem State.epochTold_effect (left : List JrnRec) (new : Nat) :
    Effect [.host, .out] (some (Reg.JRN_BUSY.OTHER :: State.reply_fields.getD [])) s (s.epochTold cause left new) := by
  unfold State.epochTold
  have hheader : Effect [.host, .out] (some (Reg.JRN_BUSY.OTHER :: State.reply_fields.getD [])) s
      (if s.mirrors then s.mramWrite 0 (s.mramHeader true) else s) :=
    Effect.ite ((State.mramWrite_effect ..).widen (by decide +kernel)) (Effect.refl ..)
  refine Effect.ite (Effect.each hheader fun u r => ?_) hheader
  exact Effect.after (State.reply_effect ..) (by decide +kernel) ((State.bump_effect ..).widen (by decide +kernel))

theorem State.lastCleared_effect : Effect [] (some [Reg.JRN_SRC_LAST.LAST]) s s.lastCleared :=
  Effect.each (Effect.refl ..) fun _ _ => State.wr_effect ..

theorem State.lastCleared_rd (k : Nat) : s.lastCleared.rd Reg.JRN_SRC_LAST.LAST k = 0 := by
  by_cases hk : k < 16
  · have hall := State.each_forall (I := fun _ => True) (P := fun n v => n < 16 → v.rd Reg.JRN_SRC_LAST.LAST n = 0) (l := upTo 16)
      (f := fun s n => s.wr Reg.JRN_SRC_LAST.LAST 0 n) (s := s) trivial (fun _ _ _ _ => trivial)
      (fun v _ n _ hn => State.rd_wr_same _ _ _ _ _ (by simp [Field.has, Reg.JRN_SRC_LAST.LAST, hn]) (by decide))
      (fun v _ n _ b hnb hb hlt => (v.wr_keepsOthers 0 n (by decide) b (Ne.symm hnb) 0).trans (hb hlt))
    exact hall.2 k (mem_upTo.mpr hk) hk
  · rw [State.rd, if_neg (by simp [Field.has, Reg.JRN_SRC_LAST.LAST, hk])]
    simp [Field.reset, Reg.JRN_SRC_LAST.LAST]

theorem State.epochShown_effect : Effect [.journal] (some [Reg.JRN_EPOCH.EPOCH, Reg.JRN_STATUS.EPOCH_CAUSE, Reg.JRN_EVENT.NEW_EPOCH,
    Reg.JRN_EXEC.COUNT, Reg.JRN_ACCEPTED.COUNT, Reg.JRN_STATUS.FILL]) s (s.epochShown cause random survives) := by
  unfold State.epochShown
  refine Effect.after (State.showFill_effect ..) (by decide +kernel) ?_
  refine Effect.after (State.wr_effect ..) (by decide +kernel) (Effect.after (State.wr_effect ..) (by decide +kernel) ?_)
  refine Effect.after (State.wr_effect ..) (by decide +kernel) (Effect.after (State.wr_effect ..) (by decide +kernel) ?_)
  exact Effect.after (State.wr_effect ..) (by decide +kernel) ((State.modJrn_effect ..).widen (by decide +kernel))

theorem State.epochShown_journal : (s.epochShown cause random survives).journal =
    { s.journal with recs := [], old := [], writing := [], epochOk := true } := by
  unfold State.epochShown State.showFill
  simp only [State.wr_journal]
  rfl

theorem State.epochShown_reads : (s.epochShown cause random survives).epoch = s.nextEpoch random survives % 4294967296 ∧
    (s.epochShown cause random survives).rd Reg.JRN_STATUS.EPOCH_CAUSE = cause % 8 ∧
    (s.epochShown cause random survives).rd Reg.JRN_EVENT.NEW_EPOCH = 1 ∧ (s.epochShown cause random survives).rd Reg.JRN_EXEC.COUNT = 0 ∧
    (s.epochShown cause random survives).rd Reg.JRN_ACCEPTED.COUNT = 0 ∧ (s.epochShown cause random survives).rd Reg.JRN_STATUS.FILL = 0 := by
  unfold State.epochShown State.showFill State.epoch
  extract_lets emptied numbered
  have hrecs : numbered.journal.recs = [] := by
    simp only [numbered, State.wr_journal]
    rfl
  simp (disch := decide +kernel) only [numbered, State.rd_wr_apart]
  refine ⟨State.rd_wr_same _ _ _ _ _ rfl (by decide), State.rd_wr_same _ _ _ _ _ rfl (by decide),
    State.rd_wr_same _ _ _ _ _ rfl (by decide), State.rd_wr_same _ _ _ _ _ rfl (by decide),
    State.rd_wr_same _ _ _ _ _ rfl (by decide), (State.rd_wr_same _ _ _ _ _ rfl (by decide)).trans ?_⟩
  rw [State.wr_journal, State.wr_journal, hrecs]
  rfl

end

end Sys2Proof.Machine
end

section
namespace Sys2Proof.Machine

set_option Elab.async false

/-! ### The commands of the journal -/

theorem exec_journalRecordCommitted (s : State) (w : RecordIn) (t : Nat) :
    exec (.journalRecordCommitted w t) s = done ((s.elapse t).recordCommitted w.written w.ok) := rfl

theorem exec_jrnMramEnable (s : State) (v t : Nat) (rb : Bool) : exec (.jrnMramEnable v rb t) s = done ((s.elapse t).mramEnable v rb) := rfl

theorem exec_jrnMramDisable (s : State) (v t : Nat) (rb : Bool) :
    exec (.jrnMramDisable v rb t) s = done ((s.elapse t).mramDisable v rb) := rfl

theorem exec_newEpoch (s : State) (v rnd t : Nat) (ok : Bool) : exec (.newEpoch v ⟨rnd, ok⟩ t) s = done ((s.elapse t).newEpoch v rnd ok) := rfl

theorem exec_jrnHalfRebuilt (s : State) (h : Fin 2) : exec (.jrnHalfRebuilt h) s =
    done ((s.modJrn fun j => { j with badHalves := j.badHalves.filter (· != h.val) }).showHalves) := rfl

section
variable {s : State}

theorem State.elapse_mirrors (s : State) (t : Nat) : (s.elapse t).mirrors = s.mirrors :=
  State.mirrors_congr (s.elapse_rd t _ 0 0 (by decide +kernel)) (by rw [State.elapse_journal])

/-- The state once the mirror is on and holds the copies of all slots. -/
def State.mirrorFilled (s : State) (v : Nat) : State := ((s.mirrorOn v).mirrorCopied (s.mirrorOn v).journal).mirrorShown

theorem State.mirrorFilled_does (v : Nat) :
    (s.mirrorFilled v).rd Reg.JRN_MRAM_CFG.EN = 1 ∧ (s.mirrorFilled v).rd Reg.JRN_MRAM_CFG.QUAD = v / 2 % 2 ∧
    (s.mirrorFilled v).rd Reg.JRN_MRAM_CFG.DIV = v / 256 % 256 ∧ (s.mirrorFilled v).journal = { s.journal with mramFailed := false } ∧
    (s.mirrorFilled v).rd Reg.JRN_STATUS.MRAM_OK = 1 ∧ (s.mirrorFilled v).evtAt = s.evtAt ∧
    ∀ k, k < 1024 → .mram (leBytes 3 (0x1000 + 128 * k) ++ s.journal.slotBytes k) ∈ (s.mirrorFilled v).out := by
  unfold State.mirrorFilled
  obtain ⟨hen, hquad, hdiv, hjournal, hevt⟩ := s.mirrorOn_does v
  have hcopied := (s.mirrorOn v).mirrorCopied_effect (s.mirrorOn v).journal
  have hslots := (s.mirrorOn v).mirrorCopied_slots (s.mirrorOn v).journal
  have hbytes : ∀ k, (s.mirrorOn v).journal.slotBytes k = s.journal.slotBytes k :=
    JrnSt.slotBytes_congr (by rw [hjournal]) (by rw [hjournal])
  generalize s.mirrorOn v = u at *
  generalize u.mirrorCopied u.journal = c at *
  have hshown := c.mirrorShown_effect
  have hkept : Effect [.out] (some [Reg.JRN_STATUS.MRAM_OK]) u c.mirrorShown :=
    Effect.after hshown (by decide +kernel) (hcopied.widen (by decide +kernel))
  have hgood : c.mirrors = true := by
    rw [State.mirrors_congr (hcopied.rd _ 0 0 rfl) (congrArg JrnSt.mramFailed (hcopied.same .journal (by decide))), State.mirrors, hjournal,
      State.on_eq_true.mpr (by rw [hen]; decide)]
    rfl
  have hok := c.mirrorShown_rd
  rw [hgood] at hok
  exact ⟨(hkept.rd _ _ _ (by decide +kernel)).trans hen, (hkept.rd _ _ _ (by decide +kernel)).trans hquad,
    (hkept.rd _ _ _ (by decide +kernel)).trans hdiv, (hkept.same .journal (by decide)).trans hjournal, hok,
    (hkept.evtAt (congrArg PowerSt.bridge (hkept.same .power (by decide)))).trans hevt,
    fun k hk => hshown.log.subset (hbytes k ▸ hslots k hk)⟩

section
variable {v : Nat} (hbit : v % 2 = 1) (hoff : s.rd Reg.JRN_MRAM_CFG.EN = 0)
include hbit hoff

theorem State.mramEnable_good : s.mramEnable v true = s.mirrorFilled v := by
  rw [State.mramEnable_enables hbit hoff, if_pos rfl, State.mirrorFilled]

theorem State.mramEnable_bad : s.mramEnable v false = (s.mirrorFilled v).mramFail := by
  rw [State.mramEnable_enables hbit hoff, if_neg (by decide), State.mirrorFilled]

/-- What enabling the mirror leaves: the copies of all slots, and a mirror as good as its read-back. -/
theorem State.mramEnable_does (rb : Bool) :
    (s.mramEnable v rb).rd Reg.JRN_MRAM_CFG.EN = 1 ∧ (s.mramEnable v rb).rd Reg.JRN_MRAM_CFG.QUAD = v / 2 % 2 ∧
    (s.mramEnable v rb).rd Reg.JRN_MRAM_CFG.DIV = v / 256 % 256 ∧ (s.mramEnable v rb).journal = { s.journal with mramFailed := !rb } ∧
    (s.mramEnable v rb).rd Reg.JRN_STATUS.MRAM_OK = b01 rb ∧
    (∀ k, k < 1024 → .mram (leBytes 3 (0x1000 + 128 * k) ++ s.journal.slotBytes k) ∈ (s.mramEnable v rb).out) ∧
    (rb = false → (s.mramEnable v rb).rd Reg.JRN_EVENT.MRAM_FAIL = 1 ∧ raises s (s.mramEnable v rb) 29 0) := by
  obtain ⟨hen, hquad, hdiv, hjournal, hok, hevt, hin⟩ := s.mirrorFilled_does v
  cases rb with
  | true =>
    rw [State.mramEnable_good hbit hoff]
    exact ⟨hen, hquad, hdiv, hjournal, hok, hin, fun h => absurd h (by decide)⟩
  | false =>
    rw [State.mramEnable_bad hbit hoff]
    generalize s.mirrorFilled v = w at *
    have hfail := State.mramFail_effect w
    obtain ⟨hevent, hbad, hraised⟩ := State.mramFail_does (s := w) (by rw [hjournal])
    refine ⟨(hfail.rd _ _ _ (by decide +kernel)).trans hen, (hfail.rd _ _ _ (by decide +kernel)).trans hquad,
      (hfail.rd _ _ _ (by decide +kernel)).trans hdiv, ?_, hbad, fun k hk => hfail.log.subset (hin k hk),
      fun _ => ⟨hevent, raises_congr hevt hraised⟩⟩
    rw [State.mramFail_journal, hjournal]
    rfl

end

/-- What disabling the mirror leaves: the header says so before it stops. -/
theorem State.mramDisable_does {v : Nat} (hbit : v % 2 = 0) (hon : s.rd Reg.JRN_MRAM_CFG.EN ≠ 0) (rb : Bool) :
    let n := s.mramDisable v rb
    n.rd Reg.JRN_MRAM_CFG.EN = 0 ∧ n.rd Reg.JRN_STATUS.MRAM_OK = 0 ∧ s.out ++ [.mram (leBytes 3 0 ++ s.mramHeader false)] <+: n.out ∧
    n.journal = { s.journal with mramFailed := s.journal.mramFailed || !rb } := by
  rw [State.mramDisable_disables hbit hon]
  have hjudged : ∀ u : State, u = s.mramWrite 0 (s.mramHeader false) →
      u.out <+: (if rb then u else u.mramFail).out ∧
      (if rb then u else u.mramFail).journal = { s.journal with mramFailed := s.journal.mramFailed || !rb } := by
    rintro u rfl
    cases rb with
    | true => exact ⟨List.prefix_refl _, by simp [State.mramWrite]⟩
    | false =>
      refine ⟨(State.mramFail_effect _).log, ?_⟩
      rw [if_neg (by decide), State.mramFail_journal]
      simp [State.mramWrite]
  obtain ⟨hlog, hjournal⟩ := hjudged _ rfl
  generalize (if rb then s.mramWrite 0 (s.mramHeader false) else (s.mramWrite 0 (s.mramHeader false)).mramFail) = w at *
  obtain ⟨hen, hok⟩ := w.mirrorOff_reads v
  have hoff := w.mirrorOff_effect v
  exact ⟨hen, hok, hlog.trans hoff.log, (hoff.same .journal (by decide)).trans hjournal⟩

/-- What a new epoch leaves (R223). -/
theorem State.newEpoch_does {v : Nat} (hbit : v % 2 = 1) (hunlock : v / 65536 % 65536 = 0x5AE1) (hkick : s.device = stKickOff)
    (random : Nat) (ok : Bool) :
    let n := s.newEpoch v random ok
    n.epoch = s.nextEpoch random s.journal.epochOk % 4294967296 ∧
    n.journal = { s.journal with recs := [], old := [], writing := [], epochOk := true,
                                 mramFailed := s.journal.mramFailed || (s.mirrors && !ok) } ∧
    n.rd Reg.JRN_STATUS.EPOCH_CAUSE = 4 ∧ n.rd Reg.JRN_EVENT.NEW_EPOCH = 1 ∧ n.rd Reg.JRN_EXEC.COUNT = 0 ∧
    n.rd Reg.JRN_ACCEPTED.COUNT = 0 ∧ n.rd Reg.JRN_STATUS.FILL = 0 ∧ ∀ k, n.rd Reg.JRN_SRC_LAST.LAST k = 0 := by
  have hnew : s.newEpoch v random ok = (s.startEpoch 4 random s.journal.epochOk).mramResult ok := if_pos ⟨hbit, hunlock, hkick⟩
  rw [hnew, State.startEpoch_eq]
  obtain ⟨hepoch, hcause, hevent, hexec, haccepted, hfill⟩ := s.epochShown_reads 4 random s.journal.epochOk
  have hjournal := s.epochShown_journal 4 random s.journal.epochOk
  have hshown := s.epochShown_effect 4 random s.journal.epochOk
  generalize s.epochShown 4 random s.journal.epochOk = u at *
  have hlast := u.lastCleared_rd
  have hcleared := u.lastCleared_effect
  generalize u.lastCleared = w at *
  have htold := w.epochTold_effect 4 s.journal.writing (s.nextEpoch random s.journal.epochOk)
  generalize w.epochTold 4 s.journal.writing (s.nextEpoch random s.journal.epochOk) = x at *
  have hxjournal : x.journal = { s.journal with recs := [], old := [], writing := [], epochOk := true } :=
    (htold.same .journal (by decide)).trans ((hcleared.same .journal (by decide)).trans hjournal)
  have hxmirrors : x.mirrors = s.mirrors := State.mirrors_congr ((htold.rd _ 0 0 (by decide +kernel)).trans
    ((hcleared.rd _ 0 0 (by decide +kernel)).trans (hshown.rd _ 0 0 (by decide +kernel)))) (by rw [hxjournal])
  have hkept : ∀ f, ((State.mramResult_fields.getD [] ++ (Reg.JRN_BUSY.OTHER :: State.reply_fields.getD []) ++
      [Reg.JRN_SRC_LAST.LAST]).all fun g => f.apart g) = true → (x.mramResult ok).rd f = u.rd f := fun f hf => by
    rw [List.all_append, List.all_append, Bool.and_eq_true, Bool.and_eq_true] at hf
    obtain ⟨⟨hresult, htell⟩, hclear⟩ := hf
    exact ((State.mramResult_effect x ok).rd f 0 0 hresult).trans ((htold.rd f 0 0 htell).trans (hcleared.rd f 0 0 hclear))
  refine ⟨(hkept _ (by decide +kernel)).trans hepoch, ?_, (hkept _ (by decide +kernel)).trans hcause,
    (hkept _ (by decide +kernel)).trans hevent, (hkept _ (by decide +kernel)).trans hexec, (hkept _ (by decide +kernel)).trans haccepted,
    (hkept _ (by decide +kernel)).trans hfill, fun k => ?_⟩
  · rw [State.mramResult_journal, hxjournal, hxmirrors]
  · exact ((State.mramResult_effect x ok).rd _ k 0 (by decide +kernel)).trans ((htold.rd _ k 0 (by decide +kernel)).trans (hlast k))

end

end Sys2Proof.Machine
end

section
namespace Sys2Proof.Machine

set_option Elab.async false

/-- A half that has been rewritten shows good (R225). -/
theorem State.showHalves_good {s : State} {h : Fin 2} (hclear : s.journal.badHalves.contains h.val = false) :
    s.showHalves.rd (if h.val = 0 then Reg.JRN_STATUS.HALF0_OK else Reg.JRN_STATUS.HALF1_OK) = 1 := by
  unfold State.showHalves
  obtain hzero | hone : h.val = 0 ∨ h.val = 1 := by omega
  · rw [hzero] at hclear
    rw [if_pos hzero, State.rd_wr_apart _ _ _ _ _ _ (by decide +kernel), State.rd_wr_same _ _ _ _ _ rfl (by decide), hclear]
    rfl
  · rw [hone] at hclear
    rw [if_neg (by omega), State.rd_wr_same _ _ _ _ _ rfl (by decide), hclear]
    rfl

/-- Settles O30: a commitment is that of its record, kept or not written; the mirror, the epoch and the halves as their operations leave
them. -/
theorem acceptedRecordsAreHeldMirroredAndRetired : Obligations.AcceptedRecordsAreHeldMirroredAndRetired := by
  unfold Obligations.AcceptedRecordsAreHeldMirroredAndRetired
  refine ⟨?held, ?mirrorFails, ?notWritten, ?none, ?enables, ?enabled, ?disables, ?disabled, ?newEpoch, ?noEpoch, ?rebuilt⟩
  case held =>
    intro s ok t r l hwriting hsource hgood
    have hcommits := State.recordCommitted_commits (s := s.elapse t) (by rwa [State.elapse_journal]) ok (r := r) (l := l)
    obtain ⟨hjournal, hlast, hcount, hfill, hfaults, hpair, hothers⟩ := State.recordKept_does (s := s.elapse t) l hsource
      (by rwa [State.elapse_mirrors])
    have hkept := (s.elapse t).recordKept_effect r l ok
    rw [State.recordMirrored_journal, JrnRec.stamped_eq, State.elapse_journal] at hjournal
    rw [State.elapse_journal] at hfill
    rw [s.elapse_rd t _ _ _ (by decide +kernel)] at hcount
    rw [State.elapse_faults] at hfaults
    rw [State.elapse_pairLinkUp] at hpair
    generalize (s.elapse t).recordKept r l ok = u at *
    generalize hx : r.stamped (s.elapse t).count = x at hcommits
    have hxsource : x.source = r.source := by rw [← hx, JrnRec.stamped_source]
    rw [hxsource] at hcommits
    have hreply := State.reply_effect u r.source (some x.via)
      (cplBytes 1 0 0 x.opcode x.seq x.epoch 0 x.ns (if r.source = 0 then x.via else 0) r.source)
    have hwait := State.showWait_effect (u.reply r.source (some x.via)
      (cplBytes 1 0 0 x.opcode x.seq x.epoch 0 x.ns (if r.source = 0 then x.via else 0) r.source))
    have hend : Effect [.host, .out] (some (State.reply_fields.getD [] ++ State.showWait_fields.getD [] ++ movesIrq)) u
        (u.reply r.source (some x.via)
          (cplBytes 1 0 0 x.opcode x.seq x.epoch 0 x.ns (if r.source = 0 then x.via else 0) r.source)).showWait.settle :=
      Effect.after (State.settle_effect _) (by decide +kernel)
        (Effect.after hwait (by decide +kernel) (hreply.widen (by decide +kernel)))
    have hexec := (exec_journalRecordCommitted s ⟨true, ok⟩ t).trans (congrArg done hcommits)
    refine ⟨_, hexec, (hend.same .journal (by decide)).trans hjournal, (hend.rd _ _ _ (by decide +kernel)).trans hlast,
      (hend.rd _ _ _ (by decide +kernel)).trans hcount, (hend.rd _ _ _ (by decide +kernel)).trans hfill,
      (hend.same .faults (by decide)).trans hfaults, (hend.rd _ _ _ (by decide +kernel)).trans hpair, fun hzero hen hstop hfree => ?_,
      (hothers.before (State.elapse_effect s t) (by decide +kernel)).after hend (by decide +kernel),
      Effect.of_exec (execJournalRecordCommitted_effect ⟨true, ok⟩ t s) hexec (by decide) (by decide +kernel)⟩
    have hopen : u.cplOpen = true := (State.cplOpen_congr (hkept.reads cplFields)).trans
      ((State.cplOpen_congr ((State.elapse_effect s t).reads cplFields)).trans (State.cplOpen_of hen hstop hfree))
    rw [hzero] at hwait ⊢
    exact answered_of_reply (by decide) ((State.elapse_effect s t).log.trans hkept.log) hopen hwait.log fun h => by
      rwa [hwait.same .host (by decide)]
  case mirrorFails =>
    intro s t r l hwriting hmirrors
    have hcommits := State.recordCommitted_commits (s := s.elapse t) (by rwa [State.elapse_journal]) false (r := r) (l := l)
    have hmirrored := (s.elapse t).recordMirrored_effect r l
    have hgood : ((s.elapse t).recordMirrored r l).mirrors = true := by
      rw [State.recordMirrored_mirrors, State.elapse_mirrors, hmirrors]
    have hfail : ((s.elapse t).recordMirrored r l).mramResult false = ((s.elapse t).recordMirrored r l).mramFail :=
      State.mramResult_bad hgood
    obtain ⟨hevent, hbad, hraised⟩ := State.mramFail_does (State.mirrors_failed hgood)
    have hjournal := ((s.elapse t).recordMirrored r l).mramFail_journal
    have hend : Effect [.host, .out] (some (Reg.JRN_STATUS.PAIR_MIRROR :: State.reply_fields.getD [] ++ State.showWait_fields.getD [] ++
        movesIrq)) ((s.elapse t).recordMirrored r l).mramFail ((s.elapse t).recordCommitted true false).settle := by
      rw [hcommits, ← hfail]
      refine Effect.after (State.settle_effect _) (by decide +kernel) (Effect.after (State.showWait_effect _) (by decide +kernel) ?_)
      exact Effect.after (State.reply_effect ..) (by decide +kernel) ((State.wr_effect ..).widen (by decide +kernel))
    refine ⟨_, exec_journalRecordCommitted s ⟨true, false⟩ t, ?_, (hend.rd _ _ _ (by decide +kernel)).trans hevent,
      (hend.rd _ _ _ (by decide +kernel)).trans hbad, ?_⟩
    · rw [hend.same .journal (by decide), hjournal]
    · refine raises_congr (hmirrored.evtAt (congrArg PowerSt.bridge (hmirrored.same .power (by decide)))) ?_
      rw [raises, hend.same .faults (by decide)]
      exact hraised
  case notWritten =>
    intro s ok t r l hwriting
    have hfails := State.recordCommitted_fails (s := s.elapse t) (by rwa [State.elapse_journal]) ok (r := r) (l := l)
    have htaken : Effect [.journal] (some []) (s.elapse t) ((s.elapse t).acceptanceTaken l) := State.modJrn_effect ..
    have htakenJournal : ((s.elapse t).acceptanceTaken l).journal = { s.journal with writing := l } := by
      rw [State.acceptanceTaken, State.modJrn, State.elapse_journal]
    have hsince : Effect [.time, .fr, .journal] (some movesTime) s ((s.elapse t).acceptanceTaken l) :=
      Effect.after htaken (by decide +kernel) (((State.elapse_effect s t).more (by decide +kernel)).grow (by decide))
    generalize (s.elapse t).acceptanceTaken l = u at *
    have hfailed := State.notWritten_effect u r
    have hwait := State.showWait_effect (u.notWritten r)
    refine ⟨_, (exec_journalRecordCommitted s ⟨false, ok⟩ t).trans (congrArg done hfails), ?_, ?_, fun k => ?_,
      fun hzero hen hstop hfree => ?_⟩
    · rw [State.settle_journal, hwait.same .journal (by decide), State.notWritten_journal, htakenJournal]
    · rw [State.settle_rd _ _ _ _ (by decide +kernel), hwait.rd _ _ _ (by decide +kernel), State.notWritten_busy,
        hsince.rd _ _ _ (by decide +kernel)]
    · rw [State.settle_rd _ _ _ _ (by decide +kernel), hwait.rd _ _ _ (by decide +kernel), hfailed.rd _ _ _ (by decide +kernel),
        hsince.rd _ _ _ (by decide +kernel)]
    · exact State.notWritten_answered hsince.log hzero
        ((State.cplOpen_congr (hsince.reads cplFields)).trans (State.cplOpen_of hen hstop hfree))
  case none =>
    intro s w t hwriting
    have hnone := State.recordCommitted_none (s := s.elapse t) (by rwa [State.elapse_journal]) w.written w.ok
    exact ⟨_, (exec_journalRecordCommitted s w t).trans (congrArg done hnone), s.elapse_settle_effect t⟩
  case enables =>
    intro s v t rb hbit hoff
    obtain ⟨hen, hquad, hdiv, hjournal, hok, hslots, hbad⟩ := State.mramEnable_does (s := s.elapse t) hbit
      ((s.elapse_rd t _ 0 0 (by decide +kernel)).trans hoff) rb
    rw [State.elapse_journal] at hjournal hslots
    have hexec := exec_jrnMramEnable s v t rb
    refine ⟨_, hexec, (State.settle_rd _ _ _ _ (by decide +kernel)).trans hen, (State.settle_rd _ _ _ _ (by decide +kernel)).trans hquad,
      (State.settle_rd _ _ _ _ (by decide +kernel)).trans hdiv, (State.settle_journal _).trans hjournal,
      (State.settle_rd _ _ _ _ (by decide +kernel)).trans hok, fun k hk => (State.settle_effect _).log.subset (hslots k hk),
      fun h => ⟨(State.settle_rd _ _ _ _ (by decide +kernel)).trans (hbad h).1, ?_⟩,
      Effect.of_exec (execJrnMramEnable_effect v rb t s) hexec (by decide) (by decide +kernel)⟩
    rw [raises, State.settle_faults]
    exact (hbad h).2
  case enabled =>
    intro s v t rb h
    have hkept : Effect [] (some [Reg.JRN_MRAM_CFG.DIV, Reg.JRN_MRAM_CFG.QUAD]) (s.elapse t) ((s.elapse t).mramEnable v rb) := by
      unfold State.mramEnable
      by_cases hbit : v % 2 = 0
      · rw [if_pos hbit]
        exact Effect.refl ..
      · have hon : (s.elapse t).on Reg.JRN_MRAM_CFG.EN = true :=
          (s.elapse_on t (by decide +kernel)).trans (State.on_eq_true.mpr (h.resolve_left hbit))
        rw [if_neg hbit, if_pos hon]
        exact (State.mramCfg_effect ..).more (by decide +kernel)
    refine ⟨_, exec_jrnMramEnable s v t rb, ?_, Effect.timed hkept (by decide) (by decide +kernel)⟩
    rw [State.settle_journal, hkept.same .journal (by decide), State.elapse_journal]
  case disables =>
    intro s v t rb hbit hon
    obtain ⟨hen, hok, hlog, hjournal⟩ := State.mramDisable_does (s := s.elapse t) hbit
      (by rwa [s.elapse_rd t _ 0 0 (by decide +kernel)]) rb
    have hheader : (s.elapse t).mramHeader false = s.mramHeader false :=
      State.mramHeader_congr ((State.elapse_effect s t).reads _) (fun k => s.elapse_rd t _ k 0 (by decide +kernel)) false
    rw [State.elapse_journal] at hjournal
    rw [hheader, State.elapse_out] at hlog
    have hexec := exec_jrnMramDisable s v t rb
    exact ⟨_, hexec, (State.settle_rd _ _ _ _ (by decide +kernel)).trans hen, (State.settle_rd _ _ _ _ (by decide +kernel)).trans hok,
      hlog.trans (State.settle_effect _).log, (State.settle_journal _).trans hjournal,
      Effect.of_exec (execJrnMramDisable_effect v rb t s) hexec (by decide) (by decide +kernel)⟩
  case disabled =>
    intro s v t rb h
    have hkept : (s.elapse t).mramDisable v rb = s.elapse t := by
      refine if_pos (h.imp id fun hoff => ?_)
      rw [s.elapse_on t (by decide +kernel), State.on_eq_false.mpr hoff]
      rfl
    exact ⟨_, (exec_jrnMramDisable s v t rb).trans (congrArg done hkept), s.elapse_settle_effect t⟩
  case newEpoch =>
    intro s v rnd t ok hbit hunlock hkick
    obtain ⟨hepoch, hjournal, hcause, hevent, hcount, haccepted, hfill, hlast⟩ := State.newEpoch_does (s := s.elapse t) hbit hunlock
      ((s.elapse_device t).trans hkick) rnd ok
    have hold : (s.elapse t).epoch = s.epoch := s.elapse_rd t _ 0 0 (by decide +kernel)
    rw [State.nextEpoch, hold, State.elapse_journal] at hepoch
    rw [State.elapse_journal, State.elapse_mirrors] at hjournal
    have hexec := exec_newEpoch s v rnd t ok
    refine ⟨_, hexec, ((State.settle_rd _ _ _ _ (by decide +kernel)).trans hepoch).trans ?_, (State.settle_journal _).trans hjournal,
      (State.settle_rd _ _ _ _ (by decide +kernel)).trans hcause, (State.settle_rd _ _ _ _ (by decide +kernel)).trans hevent,
      (State.settle_rd _ _ _ _ (by decide +kernel)).trans hcount, (State.settle_rd _ _ _ _ (by decide +kernel)).trans haccepted,
      (State.settle_rd _ _ _ _ (by decide +kernel)).trans hfill,
      fun k => (State.settle_rd _ _ _ _ (by decide +kernel)).trans (hlast k),
      Effect.of_exec (execNewEpoch_effect v ⟨rnd, ok⟩ t s) hexec (by decide) (by decide +kernel)⟩
    simp only [Bool.and_eq_true, decide_eq_true_eq]
    split
    · split
      · rfl
      · rfl
    · exact Nat.mod_eq_of_lt (by omega)
  case noEpoch =>
    intro s v t r h
    have hkept : (s.elapse t).newEpoch v r.random r.mramOk = s.elapse t := by
      refine if_neg fun ⟨hbit, hunlock, hkick⟩ => ?_
      rcases h with h | h | h
      · omega
      · exact h hunlock
      · exact h ((s.elapse_device t).symm.trans hkick)
    exact ⟨_, (exec_newEpoch s v r.random t r.mramOk).trans (congrArg done hkept), s.elapse_settle_effect t⟩
  case rebuilt =>
    intro s h
    have hshow := State.showHalves_effect (s.modJrn fun j => { j with badHalves := j.badHalves.filter (· != h.val) })
    have hexec := exec_jrnHalfRebuilt s h
    refine ⟨_, hexec, (State.settle_journal _).trans (hshow.same .journal (by decide)), ?_,
      Effect.of_exec (execJrnHalfRebuilt_effect h s) hexec (by decide) (by decide +kernel)⟩
    have hclear : ((s.modJrn fun j => { j with badHalves := j.badHalves.filter (· != h.val) }).journal.badHalves).contains h.val = false := by
      simp [State.modJrn]
    have hsettle : ∀ u : State, u.settle.rd (if h.val = 0 then Reg.JRN_STATUS.HALF0_OK else Reg.JRN_STATUS.HALF1_OK) =
        u.rd (if h.val = 0 then Reg.JRN_STATUS.HALF0_OK else Reg.JRN_STATUS.HALF1_OK) := fun u =>
      State.settle_rd u _ 0 0 (by split <;> decide +kernel)
    exact (hsettle _).trans (State.showHalves_good hclear)

end Sys2Proof.Machine
end

section
namespace Sys2Proof.Machine

set_option Elab.async false

/-! ### What stays whatever comes before a DEV reset: the power controller besides its good signals, and the checkpoints -/

/-- A step that leaves the power controller besides the good signals of its rails, and the checkpoints of the referee. -/
structure Spares (s t : State) : Prop where
  power : t.power.sansGood = s.power.sansGood
  half0 : t.referee.half0 = s.referee.half0
  half1 : t.referee.half1 = s.referee.half1

namespace Spares
variable {s t u : State}

theorem refl (s : State) : Spares s s := ⟨rfl, rfl, rfl⟩

theorem trans (h : Spares s t) (k : Spares t u) : Spares s u :=
  ⟨k.power.trans h.power, k.half0.trans h.half0, k.half1.trans h.half1⟩

theorem ite {a b : State} {c : Prop} [Decidable c] (h : Spares s a) (k : Spares s b) : Spares s (if c then a else b) := by
  split
  · exact h
  · exact k

theorem each {α : Type} {l : List α} {f : State → α → State} (h : Spares s t) (k : ∀ v a, Spares v (f v a)) : Spares s (t.each l f) := by
  unfold State.each
  induction l generalizing t with
  | nil => exact h
  | cons a l ih => exact ih (h.trans (k t a))

/-- An operation on other parts. -/
theorem of {A : List Part} {R : Option (List Field)} (k : Effect A R s t) (hA : Part.power ∉ A ∧ Part.referee ∉ A := by decide) :
    Spares s t :=
  ⟨congrArg PowerSt.sansGood (k.same .power hA.1), congrArg RefSt.half0 (k.same .referee hA.2), congrArg RefSt.half1 (k.same .referee hA.2)⟩

theorem op {A : List Part} {R : Option (List Field)} (h : Spares s t) (k : Effect A R t u)
    (hA : Part.power ∉ A ∧ Part.referee ∉ A := by decide) : Spares s u := h.trans (.of k hA)

theorem setRole (s : State) (p r : Nat) : Spares s (s.setRole p r) :=
  ⟨s.setRole_sansGood p r, congrArg RefSt.half0 ((State.setRole_effect s p r).same .referee (by decide)),
    congrArg RefSt.half1 ((State.setRole_effect s p r).same .referee (by decide))⟩

/-- What the referee remembers besides. -/
theorem modRef (s : State) {f : RefSt → RefSt} (h0 : (f s.referee).half0 = s.referee.half0) (h1 : (f s.referee).half1 = s.referee.half1) :
    Spares s (s.modRef f) := ⟨rfl, h0, h1⟩

theorem goodSince (h : Spares s t) : t.power.goodSince = s.power.goodSince := (congrArg PowerSt.goodSince h.power :)

/-! ### The collector -/

theorem lose (s : State) : Spares s s.lose := by
  refine ite (refl s) ?_
  extract_lets roles cleared shown
  have hroles : Spares s roles := each (refl s) fun v p => ite (refl v) (setRole ..)
  have hcleared : Spares s cleared := hroles.trans (modRef roles rfl rfl)
  have hshown : Spares s shown := (hcleared.op (State.wr_effect ..)).op (State.wr_effect ..)
  exact (hshown.op (State.raise_effect ..)).op (State.blockAll_effect ..)

theorem fatalState (s : State) : Spares s s.fatalState := by
  unfold State.fatalState
  extract_lets active stopped troubled
  have hactive : Spares s active := (of (State.wr_effect ..)).op (State.wr_effect ..)
  have hstopped : Spares s stopped := (hactive.op (State.wr_effect ..)).op (State.modFaults_effect ..)
  have htroubled : Spares s troubled := hstopped.trans (modRef stopped rfl rfl)
  exact ite htroubled (htroubled.trans (lose _))

theorem contained (s : State) : Spares s s.contained := by
  unfold State.contained
  extract_lets shown quiet
  have hquiet : Spares s quiet := (of (State.wr_effect ..)).op (State.modFaults_effect ..)
  exact hquiet.trans (modRef quiet rfl rfl)

theorem collect (s : State) (e : FaultEvt) : Spares s (s.collect e) := by
  unfold State.collect
  extract_lets counted
  have hcounted : Spares s counted := (of (State.faultCount_effect ..)).op (State.history_effect ..)
  split
  · exact hcounted
  · exact hcounted.trans (contained _)
  · exact (hcounted.op (State.firstFatal_effect ..)).trans (fatalState _)

theorem collectAll (s : State) (n : Nat) : Spares s (s.collectAll n) := by
  induction n generalizing s with
  | zero => exact refl s
  | succ n ih =>
    refine Spares.trans ?_ (ih s.collectNext)
    unfold State.collectNext
    split
    · exact refl s
    · exact Spares.trans (of (State.modFaults_effect ..)) (collect ..)

/-! ### The executions of a tick -/

theorem endShadow (s : State) (outcome role : Nat) : Spares s (s.endShadow outcome role) := by
  unfold State.endShadow
  extract_lets cold
  have hcold : Spares s cold := (setRole ..).op (State.wr_effect ..)
  exact (hcold.trans (modRef cold rfl rfl)).op (State.wr_effect ..)

theorem cancelShadow (s : State) : Spares s s.cancelShadow := by
  unfold State.cancelShadow
  split
  · exact refl s
  · extract_lets ended
    have hended : Spares s ended := (endShadow ..).op (State.wr_effect ..)
    exact ite hended (hended.trans (modRef ended rfl rfl))

theorem runCommand (s : State) (r : JrnRec) : Spares s (s.runCommand r).2 := by
  unfold State.runCommand
  extract_lets a
  split
  · unfold State.cmdSetFramePeriod
    split
    · exact refl s
    split
    · exact refl s
    · exact ((of (State.modFr_effect ..)).op (State.emptyHistory_effect ..)).trans (cancelShadow _)
  · exact of (State.cellAdmit_effect ..)
  · exact of (State.cellBypass_effect ..)
  · exact of (State.cellFaultClear_effect ..)
  · exact of (State.cmdCoeffWrite_effect ..)
  · exact of (State.cmdBankSwap_effect ..)
  · exact of (State.cmdParamWrite_effect ..)
  · exact of (State.cmdConvDeblock_effect ..)
  · exact of (State.cmdConvBlock_effect ..)
  · exact of (State.cmdCanQueue_effect ..)
  · exact of (State.cmdCanFlush_effect ..)
  · exact refl s

theorem executeRec (s : State) (r : JrnRec) : Spares s (s.executeRec r) := by
  unfold State.executeRec
  split
  rename_i result ran hran
  have hrun : Spares s ran := by
    have hsnd : ran = (s.runCommand r).2 := (congrArg Prod.snd hran).symm
    exact hsnd ▸ runCommand s r
  extract_lets number counted record kept mirrored
  have hkept : Spares s kept := (hrun.op (State.wr_effect ..)).op (State.modJrn_effect ..)
  exact (hkept.op (State.mirrorRec_effect ..)).op (State.reply_effect ..)

theorem executeDue (s : State) (n : Nat) : Spares s (s.executeDue n) := by
  induction n generalizing s with
  | zero => exact refl s
  | succ n ih =>
    unfold State.executeDue
    split
    · exact refl s
    · exact ite ((executeRec ..).trans (ih _)) (refl s)

theorem journalTick (s : State) (mramOk : Bool) : Spares s (s.journalTick mramOk) := by
  unfold State.journalTick
  refine ite ?_ (refl s)
  extract_lets before executed
  have hexecuted : Spares s executed := (executeDue ..).op (State.showWait_effect ..)
  exact ite hexecuted (hexecuted.op (State.mramResult_effect ..))

/-! ### The assertion of a DEV reset -/

theorem resetBegins (s : State) : Spares s s.resetBegins := by
  have hlast : Spares s s.lastExecutions :=
    ite (((of (State.wr_effect ..)).op (State.wr64_effect ..)).trans (journalTick ..)) (refl s)
  exact (hlast.trans (collectAll ..)).op (State.wr_effect ..)

theorem parting (s : State) (announce : Bool) (eof : Nat) : Spares s (s.parting announce eof) :=
  (collectAll ..).op (State.parting_effect ..)

end Spares

end Sys2Proof.Machine
end

section
namespace Sys2Proof.Machine

set_option Elab.async false

/-! ### KEEP-ONLY (R376, R378) -/

theorem exec_vinLoss (s : State) (t : Nat) : exec (.vinLoss t) s = done (s.elapse t).vinLoss := rfl

theorem exec_thermalLatchClear (s : State) (t : Nat) : exec (.thermalLatchClear t) s = done (s.elapse t).latchCool := rfl

/-- An entry to KEEP-ONLY begins in `a`, wipes it to `u`, and its command ends in `n`. -/
structure KeptOnly (a u n : State) : Prop where
  wiped : Wiped (a.resetBegins.parting false 0) u
  after : Effect [.power, .host, .out] (some movesKickOff) u.heldOutputs n
  power : ∃ thermal, n.power = { u.power with pgood := 0, keepOnlyAt := a.time.ns, thermalEntry := thermal }
  device : n.device = stKeepOnly
  shown : n.rd Reg.POWER_PGOOD.PGOOD = 0

/-- No rail's supply monitor shows good once all are off. -/
theorem State.showPgood_none {s : State} (h : s.power.pgood = 0) : s.showPgood.rd Reg.POWER_PGOOD.PGOOD = 0 := by
  rw [State.showPgood, h]
  exact State.rd_wr_same _ _ _ _ _ rfl (by decide)

/-- The device as the wiped state says that it is in KEEP-ONLY, every VIN rail off. -/
def State.keepOnlyFrom (u : State) (since : Nat) (thermal : Bool) : State :=
  ((u.heldOutputs.wr Reg.POWER_STATE.STATE stKeepOnly).modPower fun p =>
    { p with pgood := 0, keepOnlyAt := since, thermalEntry := thermal }).showPgood

theorem State.enterKeepOnly_from (a : State) (thermal : Bool) :
    ∃ u, Wiped (a.resetBegins.parting false 0) u ∧ a.enterKeepOnly false thermal = u.keepOnlyFrom a.time.ns thermal := by
  obtain ⟨u, hwiped, hu⟩ := State.devReset_stages a.resetBegins false 0
  have htime : u.heldOutputs.time = a.time := by
    rw [← hu, (State.devReset_effect ..).same .time (by decide), (State.resetBegins_effect a).same .time (by decide)]
  refine ⟨u, hwiped, ?_⟩
  unfold State.enterKeepOnly
  rw [hu, State.keepOnlyFrom, ← htime, ← State.wr_time u.heldOutputs Reg.POWER_STATE.STATE stKeepOnly 0 0]

theorem State.keepOnlyFrom_effect (u : State) (since : Nat) (thermal : Bool) :
    Effect [.power] (some movesKickOff) u.heldOutputs (u.keepOnlyFrom since thermal) := by
  refine Effect.after (State.showPgood_effect ..) (by decide +kernel) (Effect.after (State.modPower_effect ..) (by decide +kernel) ?_)
  exact (State.wr_effect ..).widen (by decide +kernel)

theorem State.keepOnlyFrom_power (u : State) (since : Nat) (thermal : Bool) :
    (u.keepOnlyFrom since thermal).power = { u.power with pgood := 0, keepOnlyAt := since, thermalEntry := thermal } := by
  rw [State.keepOnlyFrom, (State.showPgood_effect ..).same .power (by decide), State.modPower_power, State.wr_power,
    (State.heldOutputs_effect u).same .power (by decide)]

theorem State.enterKeepOnly_keptOnly (a : State) (thermal : Bool) : ∃ u, KeptOnly a u (a.enterKeepOnly false thermal).settle := by
  obtain ⟨u, hwiped, hu⟩ := a.enterKeepOnly_from thermal
  obtain ⟨hdevice, hpgood, -, -⟩ := a.enterKeepOnly_does false thermal
  have hpower := u.keepOnlyFrom_power a.time.ns thermal
  have hshown : (u.keepOnlyFrom a.time.ns thermal).rd Reg.POWER_PGOOD.PGOOD = 0 := State.showPgood_none rfl
  rw [hu] at hdevice ⊢
  generalize hm : u.keepOnlyFrom a.time.ns thermal = m at *
  have hafter : Effect [.power] (some movesKickOff) u.heldOutputs m := hm ▸ State.keepOnlyFrom_effect ..
  have hsettle := State.settle_effect m
  exact ⟨u, hwiped, Effect.after hsettle (by decide +kernel) (hafter.widen (by decide +kernel)),
    ⟨thermal, (hsettle.same .power (by decide)).trans hpower⟩, (hsettle.rd _ 0 0 (by decide +kernel)).trans hdevice,
    (hsettle.rd _ 0 0 (by decide +kernel)).trans hshown⟩

theorem PowerSt.afterReset_goodSince (p : PowerSt) : p.afterReset.goodSince = p.goodSince := rfl

section
variable {a u n : State}

/-- The registers that DEV restores, and the outputs of the collector (R14, R368). -/
theorem KeptOnly.restores (h : KeptOnly a u n) : n.rd Reg.FAULT_STATE.FAULT_N = 0 ∧ n.rd Reg.FAULT_STATE.ALIVE_RUN = 0 ∧
    ∀ r ∈ Reg.table, ∀ f ∈ r, f.dom = .dev → f.acc ≠ .ro → ∀ i j, n.rd f i j = f.reset i := by
  obtain ⟨hfaultN, halive, -⟩ := State.heldOutputs_faultState h.wiped.regs
  refine ⟨(h.after.rd _ 0 0 (by decide +kernel)).trans hfaultN, (h.after.rd _ 0 0 (by decide +kernel)).trans halive,
    fun r hr f hf hdom hacc i j => ?_⟩
  have hapart := Reg.table_written_apart r hr f hf hdom hacc
  rw [List.all_append, Bool.and_eq_true] at hapart
  obtain ⟨hheld, hkick⟩ := hapart
  rw [h.after.rd f i j hkick, (State.heldOutputs_effect u).rd f i j hheld, State.rd_dev_of_empty h.wiped.regs hdom]

/-- The power controller: the DEV reset held, no rail good, and the start of a good VIN as it was (R377). -/
theorem KeptOnly.supplies (h : KeptOnly a u n) : n.power.pgood = 0 ∧ n.power.held = true ∧ n.power.keepOnlyAt = a.time.ns ∧
    n.power.goodSince = a.power.goodSince := by
  obtain ⟨thermal, hpower⟩ := h.power
  have hspared : Spares a (a.resetBegins.parting false 0) := (Spares.resetBegins a).trans (Spares.parting ..)
  have hgood : u.power.goodSince = a.power.goodSince := by
    rw [h.wiped.power, PowerSt.afterReset_goodSince, hspared.goodSince]
  refine ⟨by rw [hpower], ?_, by rw [hpower], by rw [hpower, hgood]⟩
  have hheld : u.power.held = true := by
    rw [h.wiped.power, PowerSt.afterReset_held]
  rw [hpower, hheld]

/-- The halves of the checkpoints stay, and the journal where no tick's executions come first (R221, R222). -/
theorem KeptOnly.keeps (h : KeptOnly a u n) (htick : a.tickInCycle = false) : n.journal = a.journal.afterReset ∧
    n.referee.half0 = a.referee.half0 ∧ n.referee.half1 = a.referee.half1 := by
  have hspared : Spares a (a.resetBegins.parting false 0) := (Spares.resetBegins a).trans (Spares.parting ..)
  have hlast : Effect [.power, .host, .out] none u n :=
    Effect.after h.after (by decide +kernel) ((State.heldOutputs_effect u).widen (by decide +kernel))
  have hjournal : (a.resetBegins.parting false 0).journal = a.journal := by
    rw [(State.parting_effect ..).same .journal (by decide), (State.collectAll_effect ..).same .journal (by decide),
      (State.resetBegins_noTick_effect htick).same .journal (by decide)]
  refine ⟨?_, ?_, ?_⟩
  · rw [hlast.same .journal (by decide), h.wiped.journal, hjournal]
  · rw [hlast.same .referee (by decide), h.wiped.half0, hspared.half0]
  · rw [hlast.same .referee (by decide), h.wiped.half1, hspared.half1]

end

/-! ### VIN_LOSS (R372, R376) -/

/-- The power controller as VIN_LOSS finds it: VIN low, no longer good, and a wake that failed forgotten. -/
def State.vinLow (s : State) : State :=
  s.modPower fun p => { p with lowSince := some (p.lowSince.getD s.time.ns), goodSince := none, wakeFailed := false }

section
variable {s : State}

theorem State.vinLoss_enters (hsupplied : s.power.supplied = true) (hawake : s.device ≠ stKeepOnly ∨ s.power.step ≠ 0) :
    s.vinLoss = s.vinLow.enterKeepOnly false (s.power.thermalEntry && decide (s.power.step6 ≠ 0)) := by
  have hgo : ¬(s.vinLow.device = stKeepOnly ∧ s.vinLow.power.step = 0) := fun ⟨hdevice, hstep⟩ =>
    hawake.elim (· hdevice) (· hstep)
  unfold State.vinLoss
  rw [if_neg (by rw [hsupplied]; decide)]
  exact if_neg hgo

theorem State.vinLoss_unsupplied (hsupplied : s.power.supplied = false) : s.vinLoss = s := if_pos (by rw [hsupplied]; rfl)

/-! ### THERMAL_LATCH_CLEAR (R392) -/

/-- SHUT_LATCH clears, and the fatal state with it. -/
theorem State.latchCool_clears {a : Nat} (hlow : s.power.lowSince = some a) (hdue : a + 100000000 ≤ s.time.ns) :
    s.latchCool.rd Reg.THERMAL_STATUS.SHUT_LATCH = 0 ∧
    s.latchCool.rd Reg.FAULT_STATE.FATAL = (if s.on Reg.THERMAL_STATUS.SHUT_LATCH then 0 else s.rd Reg.FAULT_STATE.FATAL) := by
  have hcool : s.latchCool = if s.on Reg.THERMAL_STATUS.SHUT_LATCH then
      (s.wr Reg.THERMAL_STATUS.SHUT_LATCH 0).wr Reg.FAULT_STATE.FATAL 0 else s := by
    simp only [State.latchCool, hlow, hdue, decide_true, Bool.and_true]
  rw [hcool]
  split
  · exact ⟨(State.rd_wr_apart _ _ _ _ _ _ (by decide +kernel)).trans (State.rd_wr_same _ _ _ _ _ rfl (by decide)),
      State.rd_wr_same _ _ _ _ _ rfl (by decide)⟩
  · next hoff => exact ⟨by simpa [State.on] using hoff, rfl⟩

theorem State.latchCool_waits (hwait : s.power.lowSince = none ∨ ∃ a, s.power.lowSince = some a ∧ s.time.ns < a + 100000000) :
    s.latchCool = s := by
  obtain hnone | ⟨a, hlow, hearly⟩ := hwait
  · simp only [State.latchCool, hnone]
  · simp only [State.latchCool, hlow, Nat.not_le.mpr hearly, decide_false, Bool.and_false, Bool.false_eq_true, if_false]

end

/-- Settles O58: the entry to KEEP-ONLY, whatever comes before its reset, and the latch judged by the time since VIN was low. -/
theorem vinLossEndsInKeepOnlyAndLatchCools : Obligations.VinLossEndsInKeepOnlyAndLatchCools := by
  unfold Obligations.VinLossEndsInKeepOnlyAndLatchCools
  refine ⟨?enters, ?unsupplied, ?clears, ?waits⟩
  case enters =>
    intro s t hsupplied hawake
    have hvin := State.vinLoss_enters (s := s.elapse t) (by rwa [State.elapse_power])
      (by rwa [State.elapse_power, State.device, s.elapse_rd t _ 0 0 (by decide +kernel)])
    obtain ⟨u, h⟩ := (s.elapse t).vinLow.enterKeepOnly_keptOnly
      ((s.elapse t).power.thermalEntry && decide ((s.elapse t).power.step6 ≠ 0))
    obtain ⟨hfaultN, halive, hdev⟩ := h.restores
    obtain ⟨hpgood, hheld, hsince, hgood⟩ := h.supplies
    refine ⟨_, (exec_vinLoss s t).trans (congrArg done hvin), h.device, hpgood, h.shown, hheld, hsince, hgood, hfaultN, halive, hdev,
      fun htick => ?_⟩
    obtain ⟨hjournal, hhalf0, hhalf1⟩ := h.keeps htick
    have hreferee : (s.elapse t).vinLow.referee = s.referee := s.elapse_referee t
    refine ⟨hjournal.trans (congrArg JrnSt.afterReset (s.elapse_journal t)), ?_, ?_⟩
    · rw [hhalf0, hreferee]
    · rw [hhalf1, hreferee]
  case unsupplied =>
    intro s t hsupplied
    have hvin := State.vinLoss_unsupplied (s := s.elapse t) (by rwa [State.elapse_power])
    exact ⟨_, (exec_vinLoss s t).trans (congrArg done hvin), s.elapse_settle_effect t⟩
  case clears =>
    intro s t a hlow hdue
    obtain ⟨hlatch, hfatal⟩ := State.latchCool_clears (s := s.elapse t) (by rwa [State.elapse_power]) hdue
    have hsettle := State.settle_effect (s.elapse t).latchCool
    have hon : (s.elapse t).on Reg.THERMAL_STATUS.SHUT_LATCH = s.on Reg.THERMAL_STATUS.SHUT_LATCH := by
      rw [State.on, State.on, s.elapse_rd t _ 0 0 (by decide +kernel)]
    rw [hon, s.elapse_rd t _ 0 0 (by decide +kernel)] at hfatal
    refine ⟨_, exec_thermalLatchClear s t, (hsettle.rd _ 0 0 (by decide +kernel)).trans hlatch,
      (hsettle.rd _ 0 0 (by decide +kernel)).trans hfatal, ?_⟩
    exact Effect.timed (State.latchCool_effect _) (by decide) (by decide +kernel)
  case waits =>
    intro s t hwait
    have hsame := State.latchCool_waits (s := s.elapse t) (by rwa [State.elapse_power])
    refine ⟨_, (exec_thermalLatchClear s t).trans (congrArg done hsame), ?_⟩
    exact ((State.settle_effect _).rd _ 0 0 (by decide +kernel)).trans (s.elapse_rd t _ 0 0 (by decide +kernel))

end Sys2Proof.Machine
end
